-- ==== Sys2Proof/Word.lean ====
section
/-! DEFINITION. Words, unit numbers and sparse tables: the plainest types of the model. -/
namespace Sys2Proof

/-- A byte. -/
abbrev Byte := BitVec 8
/-- A 32-bit register or memory word. -/
abbrev W32 := BitVec 32
/-- A 64-bit register. -/
abbrev W64 := BitVec 64
/-- A step word of 128 bits (R110). -/
abbrev StepWord := BitVec 128

/-- Core number (R22). -/
abbrev CoreId := Fin 768
/-- Cluster number (R22). -/
abbrev ClusterId := Fin 48
/-- Channel group number (R22). -/
abbrev GroupId := Fin 32
/-- HBM stack number (R22). -/
abbrev StackId := Fin 8
/-- Channel number (R22). -/
abbrev ChannelId := Fin 256
/-- Link number (R22). -/
abbrev LinkId := Fin 96
/-- Cage number (R22). -/
abbrev CageId := Fin 24
/-- Die number: 0 to 3 the compute dies, 4 FD0, 5 FD1 (R21). -/
abbrev DieId := Fin 6
/-- Partition number. -/
abbrev PartId := Fin 32
/-- PCIe function: 0 is PF0, 1 to 32 the VFs (R372). -/
abbrev FnId := Fin 33
/-- Synchronisation object number, 0x0000 to 0x3FFF (R305). -/
abbrev ObjId := Fin 16384
/-- Transfer engine: 0 to 95 the cluster DMA engines, 96 to 111 the link DMA engines (R22). -/
abbrev EngineId := Fin 112
/-- A transfer engine or load/store port: 0 to 111 the engines, 112 + c the port of core c. -/
abbrev XferEngineId := Fin 880
/-- Image slot of a composition (R133). -/
abbrev SlotId := Fin 64
/-- Custodian key slot (R438). -/
abbrev KeySlotId := Fin 256
/-- Encryption region 12 g + r (R464). -/
abbrev RegionId := Fin 384
/-- Loan-window table entry (R239). -/
abbrev WindowId := Fin 1024
/-- Master port (R205). -/
abbrev PortId := Fin 165
/-- An engine port (R225): cluster DMA engines 0–95, link DMA engines 96–111, the load/store port of core c at 112 + c. -/
abbrev EngPort := Fin 880

/-- Scratchpad address of a bucket's header (R155). -/
abbrev HdrAddr := Fin 805306368

/-- A sparse table: keys with values. A key that is not listed holds the default of the table. -/
abbrev Tbl (α : Type) := List (Nat × α)

end Sys2Proof
end

