-- ==== Sys2Proof/Machine/Tbl.lean ====
section
/-! DEFINITION. Sparse tables in one canonical form: keys strictly rising, and no entry equal to what an unlisted
key reads as. -/
namespace Sys2Proof.Machine

/-- The value at key `k`; an unlisted key reads as the default `d k`. -/
def tblGet {α : Type} (d : Nat → α) : Tbl α → Nat → α
  | [], k => d k
  | e :: t, k => if e.1 = k then e.2 else tblGet d t k

/-- A new entry at its sorted place. -/
def tblIns {α : Type} (k : Nat) (v : α) : Tbl α → Tbl α
  | [] => [(k, v)]
  | e :: t => if k < e.1 then (k, v) :: e :: t else e :: tblIns k v t

/-- The table without the entries of key `k`. -/
def tblErase {α : Type} (k : Nat) : Tbl α → Tbl α
  | [] => []
  | e :: t => if e.1 = k then tblErase k t else e :: tblErase k t

/-- The table with `v` at key `k`. A value equal to the default is not listed. -/
def tblSet {α : Type} [DecidableEq α] (d : Nat → α) (t : Tbl α) (k : Nat) (v : α) : Tbl α :=
  if v = d k then tblErase k t else tblIns k v (tblErase k t)

/-- Every listed key is at least `lo`, the keys rise strictly, and no entry equals the default. -/
def tblWfFrom {α : Type} [DecidableEq α] (d : Nat → α) : Nat → Tbl α → Bool
  | _, [] => true
  | lo, e :: t => decide (lo ≤ e.1) && decide (e.2 ≠ d e.1) && tblWfFrom d (e.1 + 1) t

/-- The canonical form. -/
def tblWf {α : Type} [DecidableEq α] (d : Nat → α) (t : Tbl α) : Bool := tblWfFrom d 0 t

/-- The keys from `lo` up to, not including, `hi`, put back to the default. -/
def tblClear {α : Type} (lo hi : Nat) (t : Tbl α) : Tbl α :=
  t.filter fun e => !(decide (lo ≤ e.1) && decide (e.1 < hi))

/-- The values at `n` keys from `k` on. -/
def tblRun {α : Type} (d : Nat → α) (t : Tbl α) (k : Nat) : Nat → List α
  | 0 => []
  | n + 1 => tblGet d t k :: tblRun d t (k + 1) n

/-- The values `vs` written at the keys from `k` on. -/
def tblSetRun {α : Type} [DecidableEq α] (d : Nat → α) (t : Tbl α) (k : Nat) : List α → Tbl α
  | [] => t
  | v :: vs => tblSetRun d (tblSet d t k v) (k + 1) vs

/-- A number read from bytes, the first byte holding bits [7:0] (R5). -/
def ofBytes : List Byte → Nat
  | [] => 0
  | b :: bs => b.toNat + 256 * ofBytes bs

/-- The `n` bytes of a number, the first holding bits [7:0] (R5). -/
def toBytes : Nat → Nat → List Byte
  | 0, _ => []
  | n + 1, v => BitVec.ofNat 8 (v % 256) :: toBytes n (v / 256)

/-- Bits [hi:lo] of a number. -/
def bits (v hi lo : Nat) : Nat := v / 2 ^ lo % 2 ^ (hi + 1 - lo)

/-- Bit `i` of a number. -/
def bitAt (v i : Nat) : Bool := decide (v / 2 ^ i % 2 = 1)

/-- A Bool as a bit. -/
def b2n (b : Bool) : Nat := if b then 1 else 0

/-- A count that stops at `top`. -/
def satAdd (top a n : Nat) : Nat := min top (a + n)

/-- A two's complement number of `w` bits, read as an integer. -/
def signed (w v : Nat) : Int := if v % 2 ^ w < 2 ^ (w - 1) then (v % 2 ^ w : Nat) else (v % 2 ^ w : Nat) - (2 ^ w : Nat)

/-- An integer as a two's complement number of `w` bits. -/
def unsigned (w : Nat) (v : Int) : Nat := (v % (2 ^ w : Nat)).toNat

/-- Element `i` of a list, or a default. -/
def nth {α : Type} (d : α) : List α → Nat → α
  | [], _ => d
  | x :: _, 0 => x
  | _ :: xs, n + 1 => nth d xs n

/-- Rounded-up quotient. -/
def ceilDiv (a b : Nat) : Nat := (a + b - 1) / b

end Sys2Proof.Machine
end

