-- ==== Sys2Proof/Machine/Numbers.lean ====
section
/-! DEFINITION. Number formats and conversion (spec/03_number_formats.md): exact values, decoding, rounding, block
scales, packing and the counts of R76. -/
namespace Sys2Proof.Machine

/-- Element formats with the FORMAT codes of R96, Table 11. -/
inductive Fmt where
  | fp32 | bf16 | fp16 | e5m2 | e4m3 | e3m2 | e2m3 | e2m1 | int8 | int4 | tern2 | blk4 | int32
deriving DecidableEq, Repr

/-- FORMAT code (R96, Table 11); 0xD to 0xF are reserved. -/
def fmtOf : Nat → Option Fmt
  | 0 => some .fp32 | 1 => some .bf16 | 2 => some .fp16 | 3 => some .e5m2 | 4 => some .e4m3
  | 5 => some .e3m2 | 6 => some .e2m3 | 7 => some .e2m1 | 8 => some .int8 | 9 => some .int4
  | 10 => some .tern2 | 11 => some .blk4 | 12 => some .int32 | _ => none

/-- An exact value: NaN, an infinity, or (-1)^neg × m × 2^e. -/
inductive Val where
  | nan
  | inf (neg : Bool)
  | num (neg : Bool) (m : Nat) (e : Int)
deriving DecidableEq, Repr

/-- A rounding mode (R64): to nearest even, stochastic with the 16-bit random value, or up in magnitude (used by the
scale search of R73 only). -/
inductive RMode where
  | rne
  | sr (r : Nat)
  | up
deriving DecidableEq, Repr

/-- The counts of R76. -/
structure Counts where
  sat : Nat
  nan : Nat
  ovf : Nat
deriving DecidableEq, Repr

/-- No count. -/
def cnt0 : Counts := ⟨0, 0, 0⟩
/-- Sum of counts; each stops at 0xFFFF (R76). -/
def cntAdd (a b : Counts) : Counts :=
  ⟨satAdd 0xFFFF a.sat b.sat, satAdd 0xFFFF a.nan b.nan, satAdd 0xFFFF a.ovf b.ovf⟩

/-- Layout of a floating-point format (R50, Table 1). `ieee`: the top exponent holds infinities and NaNs;
`topNan`: only the all-ones code is NaN (E4M3). -/
structure FloatFmt where
  eb : Nat
  mb : Nat
  bias : Nat
  ieee : Bool
  topNan : Bool
  nanCode : Nat
deriving DecidableEq, Repr

/-- The floating-point formats of R50, Table 1, with the canonical NaN of R53. -/
def floatFmt : Fmt → Option FloatFmt
  | .fp32 => some ⟨8, 23, 127, true, false, 0x7FC00000⟩
  | .bf16 => some ⟨8, 7, 127, true, false, 0x7FC0⟩
  | .fp16 => some ⟨5, 10, 15, true, false, 0x7E00⟩
  | .e5m2 => some ⟨5, 2, 15, true, false, 0x7F⟩
  | .e4m3 => some ⟨4, 3, 7, false, true, 0x7F⟩
  | .e3m2 => some ⟨3, 2, 3, false, false, 0⟩
  | .e2m3 => some ⟨2, 3, 1, false, false, 0⟩
  | .e2m1 => some ⟨2, 1, 1, false, false, 0⟩
  | _ => none

/-- FP32. -/
def fFp32 : FloatFmt := ⟨8, 23, 127, true, false, 0x7FC00000⟩
/-- E4M3, the scale format of Blk4. -/
def fE4m3 : FloatFmt := ⟨4, 3, 7, false, true, 0x7F⟩

/-- Width of an element in bits; a Tern2 block is counted separately (R52). -/
def fmtBits : Fmt → Nat
  | .fp32 | .int32 => 32
  | .bf16 | .fp16 => 16
  | .e5m2 | .e4m3 | .int8 => 8
  | .e3m2 | .e2m3 => 6
  | .e2m1 | .int4 | .blk4 => 4
  | .tern2 => 2

/-- Code of a floating-point element to its value (R50). -/
def decFloat (f : FloatFmt) (w : Nat) : Val :=
  let m := w % 2 ^ f.mb
  let e := w / 2 ^ f.mb % 2 ^ f.eb
  let s := bitAt w (f.mb + f.eb)
  if f.ieee && e == 2 ^ f.eb - 1 then (if m = 0 then .inf s else .nan)
  else if f.topNan && e == 2 ^ f.eb - 1 && m == 2 ^ f.mb - 1 then .nan
  else if e = 0 then .num s m (1 - (f.bias : Int) - f.mb)
  else .num s (m + 2 ^ f.mb) ((e : Int) - f.bias - f.mb)

/-- An integer as a value. -/
def valOfInt (i : Int) : Val := .num (decide (i < 0)) i.natAbs 0

/-- Code of an element without its scale to its value. Tern2 is decoded by blocks. -/
def decElem (f : Fmt) (w : Nat) : Val :=
  match floatFmt f with
  | some ff => decFloat ff w
  | none => match f with
    | .int8 => valOfInt (signed 8 w)
    | .int4 | .blk4 => valOfInt (signed 4 w)
    | .int32 => valOfInt (signed 32 w)
    | _ => .num false 0 0

/-- Exact product; an infinity times a zero is NaN (R53). DESIGN CHOICE (log 60): a zero product takes the product's sign, so that a
negative element under a zero scale, or a zero element under a negative one, widens to -0; R56 says only that the block is
zero. -/
def mulV : Val → Val → Val
  | .nan, _ => .nan
  | _, .nan => .nan
  | .inf a, .inf b => .inf (a != b)
  | .inf a, .num b m _ => if m = 0 then .nan else .inf (a != b)
  | .num a m _, .inf b => if m = 0 then .nan else .inf (a != b)
  | .num a m e, .num b m' e' => .num (a != b) (m * m') (e + e')

/-- The signed mantissa at exponent `q`, which is at most the value's own exponent. -/
def mantAt (neg : Bool) (m : Nat) (e q : Int) : Int :=
  let x : Int := (m * 2 ^ (e - q).toNat : Nat)
  if neg then -x else x

/-- Exact sum; infinities of opposite sign give NaN, and a zero sum takes its sign by IEEE 754 under
round-to-nearest (R53). -/
def addV : Val → Val → Val
  | .nan, _ => .nan
  | _, .nan => .nan
  | .inf a, .inf b => if a = b then .inf a else .nan
  | .inf a, _ => .inf a
  | _, .inf b => .inf b
  | .num a m e, .num b m' e' =>
    let q := min e e'
    let t := mantAt a m e q + mantAt b m' e' q
    if t = 0 then .num (a && b) 0 q else .num (decide (t < 0)) t.natAbs q

/-- Negation. -/
def negV : Val → Val
  | .nan => .nan
  | .inf a => .inf (!a)
  | .num a m e => .num (!a) m e

/-- Absolute value. -/
def absV : Val → Val
  | .nan => .nan
  | .inf _ => .inf false
  | .num _ m e => .num false m e

/-- A value times 2^k. -/
def scaleV (k : Int) : Val → Val
  | .num a m e => .num a m (e + k)
  | v => v

/-- Sign of the difference of two values that are not NaN: -1, 0 or 1; -0 equals +0. -/
def cmpV : Val → Val → Int
  | .inf a, .inf b => if a = b then 0 else if a then -1 else 1
  | .inf a, _ => if a then -1 else 1
  | _, .inf b => if b then 1 else -1
  | .num a m e, .num b m' e' =>
    let q := min e e'
    let t := mantAt a m e q - mantAt b m' e' q
    if t < 0 then -1 else if t = 0 then 0 else 1
  | _, _ => 0

/-- A NaN. -/
def isNan : Val → Bool
  | .nan => true
  | _ => false
/-- A negative sign. -/
def isNeg : Val → Bool
  | .nan => false
  | .inf a => a
  | .num a _ _ => a
/-- A zero of either sign. -/
def isZero : Val → Bool
  | .num _ m _ => m == 0
  | _ => false
/-- A finite value. -/
def isFin : Val → Bool
  | .num _ _ _ => true
  | _ => false

/-- Minimum or maximum of R589: NaN if either operand is, and -0 below +0. -/
def minmaxV (mx : Bool) (a b : Val) : Val :=
  if isNan a || isNan b then .nan
  else
    let c := cmpV a b
    let ge := if c = 0 then (!isNeg a) || isNeg b else decide (c > 0)
    if ge = mx then a else b

/-- (n / d) / 2^q as whole units, remainder and divisor. -/
def fracAt (n d : Nat) (q : Int) : Nat × Nat × Nat :=
  let n' := if q ≤ 0 then n * 2 ^ (-q).toNat else n
  let d' := if q ≤ 0 then d else d * 2 ^ q.toNat
  (n' / d', n' % d', d')

/-- Rounding of a + r / d to an integer (R64, R65). -/
def roundFrac (md : RMode) (a r d : Nat) : Nat :=
  if r = 0 then a else
  match md with
  | .rne => if 2 * r > d ∨ (2 * r = d ∧ a % 2 = 1) then a + 1 else a
  | .sr x => if r * 65536 / d + x ≥ 65536 then a + 1 else a
  | .up => a + 1

/-- The integer part of log2 of n / d, both positive. -/
def flog2 (n d : Nat) : Int :=
  let k : Int := (Nat.log2 n : Int) - (Nat.log2 d : Int)
  if (fracAt n d k).1 ≥ 1 then k else k - 1

/-- Code without sign of the magnitude n / d, rounded; it may lie beyond the largest finite code. -/
def encMag (f : FloatFmt) (md : RMode) (n d : Nat) : Nat :=
  if n = 0 then 0 else
  let qmin : Int := 1 - (f.bias : Int) - f.mb
  let q := max (flog2 n d - f.mb) qmin
  let x := fracAt n d q
  (q - qmin).toNat * 2 ^ f.mb + roundFrac md x.1 x.2.1 x.2.2

/-- Largest finite code without sign (R50, Table 1). -/
def maxCode (f : FloatFmt) : Nat :=
  if f.ieee then (2 ^ f.eb - 1) * 2 ^ f.mb - 1
  else if f.topNan then 2 ^ (f.eb + f.mb) - 2
  else 2 ^ (f.eb + f.mb) - 1

/-- The magnitude n / d is greater than the magnitude m × 2^e. -/
def magGt (n d m : Nat) (e : Int) : Bool :=
  if e ≥ 0 then decide (n > m * 2 ^ e.toNat * d) else decide (n * 2 ^ (-e).toNat > m * d)

/-- The magnitude n / d lies beyond the largest finite value, before any rounding (R71). -/
def beyondMax (f : FloatFmt) (n d : Nat) : Bool :=
  match decFloat f (maxCode f) with
  | .num _ m e => magGt n d m e
  | _ => false

/-- A sign bit above `w` bits. -/
def signBit (f : FloatFmt) (neg : Bool) : Nat := if neg then 2 ^ (f.eb + f.mb) else 0

/-- Rounding into FP32, BF16 or FP16 (R65, R71): the code, and whether a finite value overflowed. -/
def encIeee (f : FloatFmt) (md : RMode) (neg : Bool) (n d : Nat) : Nat × Bool :=
  let top := maxCode f
  let c := encMag f .rne n d
  if c > top then (signBit f neg + (top + 1), true)
  else if beyondMax f n d then (signBit f neg + c, false)
  else (signBit f neg + encMag f md n d, false)

/-- Numerator and denominator of m × 2^e. -/
def fracOf (m : Nat) (e : Int) : Nat × Nat :=
  if e ≥ 0 then (m * 2 ^ e.toNat, 1) else (m, 2 ^ (-e).toNat)

/-- A value rounded once to nearest even into FP32, BF16 or FP16 (R64, R86), with the canonical NaN of R53. -/
def encRne (f : FloatFmt) : Val → Nat
  | .nan => f.nanCode
  | .inf a => signBit f a + (maxCode f + 1)
  | .num a m e => (encIeee f .rne a (fracOf m e).1 (fracOf m e).2).1

/-- An integer rounded from the signed magnitude n / d. -/
def encInt (md : RMode) (neg : Bool) (n d : Nat) : Int :=
  let a : Int := roundFrac md (n / d) (n % d) d
  if neg then -a else a

/-- A signed rational source value for the narrowing conversions. -/
inductive Src where
  | nan
  | inf (neg : Bool)
  | num (neg : Bool) (n d : Nat)
deriving DecidableEq, Repr

/-- An exact value as a rational. -/
def srcOf : Val → Src
  | .nan => .nan
  | .inf a => .inf a
  | .num a m e => .num a (fracOf m e).1 (fracOf m e).2

/-- A value divided by 2^k. -/
def srcDivPow (k : Int) (v : Val) : Src := srcOf (scaleV (-k) v)

/-- Into an integer range (R71, Table 4): code and counts; `lo` and `hi` are the bounds. -/
def narrowInt (w : Nat) (lo hi : Int) (md : RMode) : Src → Nat × Counts
  | .nan => (0, ⟨0, 1, 0⟩)
  | .inf a => (unsigned w (if a then lo else hi), ⟨1, 0, 0⟩)
  | .num a n d =>
    let out := if a then decide ((n : Int) > -lo * d) else decide ((n : Int) > hi * d)
    if out then (unsigned w (if a then lo else hi), ⟨1, 0, 0⟩)
    else (unsigned w (encInt md a n d), cnt0)

/-- Into an 8-, 6- or 4-bit floating-point element (R71, Table 4). A NaN without a NaN code is lost and gives +0. -/
def narrowFloat (f : FloatFmt) (md : RMode) : Src → Nat × Counts
  | .nan => if f.nanCode = 0 then (0, ⟨0, 1, 0⟩) else (f.nanCode, cnt0)
  | .inf a => if f.ieee then (signBit f a + (maxCode f + 1), cnt0) else (signBit f a + maxCode f, ⟨1, 0, 0⟩)
  | .num a n d =>
    if beyondMax f n d then (signBit f a + maxCode f, ⟨1, 0, 0⟩)
    else (signBit f a + min (encMag f md n d) (maxCode f), cnt0)

/-- Into FP32, BF16 or FP16 (R71, R75). -/
def narrowWide (f : FloatFmt) (md : RMode) : Src → Nat × Counts
  | .nan => (f.nanCode, cnt0)
  | .inf a => (signBit f a + (maxCode f + 1), cnt0)
  | .num a n d => let r := encIeee f md a n d; (r.1, ⟨0, 0, b2n r.2⟩)

/-- One unscaled destination element. -/
def narrowElem (dst : Fmt) (md : RMode) (v : Src) : Nat × Counts :=
  match dst with
  | .int8 => narrowInt 8 (-128) 127 md v
  | .int4 => narrowInt 4 (-8) 7 md v
  | .fp32 | .bf16 | .fp16 => match floatFmt dst with
    | some f => narrowWide f md v
    | none => (0, cnt0)
  | d => match floatFmt d with
    | some f => narrowFloat f md v
    | none => (0, cnt0)

/-- The random value of R66 for element `i` under `seed`. -/
def srRandom (seed i : Nat) : Nat :=
  let z0 := (seed + (i + 1) * 0x9E3779B97F4A7C15) % 2 ^ 64
  let z1 := ((z0 ^^^ (z0 >>> 30)) * 0xBF58476D1CE4E5B9) % 2 ^ 64
  let z2 := ((z1 ^^^ (z1 >>> 27)) * 0x94D049BB133111EB) % 2 ^ 64
  let z3 := z2 ^^^ (z2 >>> 31)
  bits z3 63 48

/-- The rounding of an element of a conversion: RNE, or SR with the value of R66. -/
def roundAt (seed : Option Nat) (i : Nat) : RMode :=
  match seed with
  | none => .rne
  | some sd => .sr (srRandom sd i)

/-- Block size of a block-scaled format (Table 2 of the number formats). -/
def blockSize : Fmt → Nat
  | .blk4 => 16
  | _ => 32

/-- The five OCP Microscaling element formats. -/
def isMx : Fmt → Bool
  | .e5m2 | .e4m3 | .e3m2 | .e2m3 | .e2m1 => true
  | _ => false

/-- FP32, BF16 and FP16. -/
def isWide : Fmt → Bool
  | .fp32 | .bf16 | .fp16 => true
  | _ => false

/-- The pairs a DMA engine converts (R68). -/
def pairAllowed (a b : Fmt) : Bool :=
  a == b || (isWide a && b != .int32) || (isWide b && a != .int32)
    || (a == .int32 && (isWide b || b == .int8 || b == .int4))

/-- Bytes of a row of `n` elements (R52; a Tern2 block of 32 is 8 bytes, R57). -/
def rowBytes (f : Fmt) (n : Nat) : Nat :=
  match f with
  | .fp32 | .int32 => 4 * n
  | .bf16 | .fp16 => 2 * n
  | .e5m2 | .e4m3 | .int8 => n
  | .e3m2 | .e2m3 => 3 * ceilDiv n 4
  | .e2m1 | .int4 | .blk4 => ceilDiv n 2
  | .tern2 => 8 * ceilDiv n 32

/-- Scale bytes of a row of `n` elements (R55). -/
def scaleBytes (f : Fmt) (n : Nat) : Nat := n / blockSize f

/-- `n` elements of `w` bits from a little-endian number. -/
def splitBits (w : Nat) : Nat → Nat → List Nat
  | 0, _ => []
  | n + 1, v => v % 2 ^ w :: splitBits w n (v / 2 ^ w)

/-- Elements of `w` bits joined into a little-endian number. -/
def joinBits (w : Nat) : List Nat → Nat
  | [] => 0
  | x :: xs => x % 2 ^ w + 2 ^ w * joinBits w xs

/-- Element codes of a packed row (R52). A 6-bit row is packed in 24-bit words, which is the same little-endian run. -/
def unpackRow (f : Fmt) (n : Nat) (bs : List Byte) : List Nat := splitBits (fmtBits f) n (ofBytes bs)

/-- A packed row (R52); padding elements are zero. -/
def packRow (f : Fmt) (codes : List Nat) : List Byte :=
  toBytes (rowBytes f codes.length) (joinBits (fmtBits f) codes)

/-- The five base-3 digits of a Tern2 byte as weights; a reserved byte gives zeros (R57). -/
def ternByte (v : Nat) : List Int :=
  if v ≥ 243 then [0, 0, 0, 0, 0]
  else [(v % 3 : Nat) - 1, (v / 3 % 3 : Nat) - 1, (v / 9 % 3 : Nat) - 1, (v / 27 % 3 : Nat) - 1, (v / 81 % 3 : Nat) - 1]

/-- An E8M0 scale as a value (R54). -/
def e8m0 (x : Nat) : Val := if x = 0xFF then .nan else .num false 1 ((x : Int) - 127)

/-- The 32 weights of a Tern2 block of 8 bytes, without the scale. -/
def ternWeights (blk : List Byte) : List Int :=
  ((blk.take 7).flatMap fun b => ternByte b.toNat).take 32

/-- A Tern2 row as values with their block scales (R57). -/
def ternRow : Nat → List Byte → List Val
  | 0, _ => []
  | nb + 1, bs =>
    let sc := e8m0 (nth 0 bs 7).toNat
    (ternWeights bs).map (fun t => mulV (valOfInt t) sc) ++ ternRow nb (bs.drop 8)

/-- The scale of element `i` of a row (R55, R56): E8M0, or E4M3 for Blk4. DESIGN CHOICE (log 60): a row has a scale byte for each
whole block; the elements of a last partial block take the scale byte 0, since the spec gives them none. -/
def scaleAt (f : Fmt) (scaled : Bool) (scales : List Byte) (i : Nat) : Val :=
  if scaled then
    let x := (nth 0 scales (i / blockSize f)).toNat
    if f = .blk4 then decFloat fE4m3 x else e8m0 x
  else .num false 1 0

/-- Elements with their scales applied, from index `i`. -/
def applyScales (f : Fmt) (scaled : Bool) (scales : List Byte) : Nat → List Nat → List Val
  | _, [] => []
  | i, c :: cs => mulV (decElem f c) (scaleAt f scaled scales i) :: applyScales f scaled scales (i + 1) cs

/-- A source row of `n` elements as values (R54 to R57). -/
def rowVals (f : Fmt) (scaled : Bool) (n : Nat) (bs scales : List Byte) : List Val :=
  if f = .tern2 then (ternRow (ceilDiv n 32) bs).take n
  else applyScales f scaled scales 0 (unpackRow f n bs)

/-- Largest finite magnitude of a block. -/
def maxFin : List Val → Val
  | [] => .num false 0 0
  | v :: vs => let r := maxFin vs
    if isFin v then (if cmpV (absV v) r ≥ 0 then absV v else r) else r

/-- Exponent of the largest normal value of an element format (R72). -/
def eMax : Fmt → Int
  | .e5m2 => 15
  | .e4m3 => 8
  | .e3m2 => 4
  | _ => 2

/-- NaN values in a block. -/
def nanCount (vs : List Val) : Nat := (vs.filter isNan).length

/-- The scale code X of R72. -/
def mxScale (f : Fmt) (vs : List Val) : Nat :=
  match maxFin vs with
  | .num _ m e =>
    if m = 0 then 0
    else (max 0 (min 254 (flog2 (fracOf m e).1 (fracOf m e).2 - eMax f + 127))).toNat
  | _ => 0

/-- Elements encoded one by one from index `i`. -/
def encList (enc : Nat → Val → Nat × Counts) : Nat → List Val → List Nat × Counts
  | _, [] => ([], cnt0)
  | i, v :: vs =>
    let h := enc i v
    let t := encList enc (i + 1) vs
    (h.1 :: t.1, cntAdd h.2 t.2)

/-- A block into an OCP Microscaling format with a scale plane (R72, Table 4): codes, scale byte, counts.
DEDUCED (log 12): a block with a NaN takes scale 0xFF for all five formats, as R72 ends. -/
def mxBlock (f : Fmt) (seed : Option Nat) (i : Nat) (vs : List Val) : List Nat × Nat × Counts :=
  if nanCount vs > 0 then (vs.map fun _ => 0, 0xFF, ⟨0, nanCount vs, 0⟩)
  else
    let x := mxScale f vs
    let r := encList (fun j v => narrowElem f (roundAt seed j) (srcDivPow ((x : Int) - 127) v)) i vs
    (r.1, x, r.2)

/-- The E4M3 scale code of a Blk4 block (R73). -/
def blk4Scale (vs : List Val) : Nat :=
  match maxFin vs with
  | .num _ m e => if m = 0 then 0 else
    min 0x7E (max 1 (encMag fE4m3 .up (fracOf m e).1 ((fracOf m e).2 * 7)))
  | _ => 0

/-- A value divided by a Blk4 scale code. -/
def blk4Quot (sc : Nat) (v : Val) : Src :=
  match srcOf v, decFloat fE4m3 sc with
  | .num a n d, .num _ m e => .num a (n * (fracOf m e).2) (d * (fracOf m e).1)
  | .inf a, _ => .inf a
  | _, _ => .nan

/-- A block into Blk4 (R73, Table 4). -/
def blk4Block (seed : Option Nat) (i : Nat) (vs : List Val) : List Nat × Nat × Counts :=
  if nanCount vs > 0 then (vs.map fun _ => 0, 0x7F, ⟨0, nanCount vs, 0⟩)
  else
    let sc := blk4Scale vs
    if sc = 0 then (vs.map fun _ => 0, 0, ⟨(vs.filter fun v => !isFin v).length, 0, 0⟩)
    else
      let r := encList (fun j v => narrowInt 4 (-8) 7 (roundAt seed j) (blk4Quot sc v)) i vs
      (r.1, sc, r.2)

/-- FP32 sum of the finite magnitudes in ascending order, each addition rounded (R74). -/
def magSum : List Val → Val → Val
  | [], acc => acc
  | v :: vs, acc => if isFin v then magSum vs (decFloat fFp32 (encRne fFp32 (addV acc (absV v)))) else magSum vs acc

/-- The scale code X of a Tern2 block (R74); none where every weight is 0 and X is 0. -/
def ternScale (vs : List Val) : Option Nat :=
  let n := (vs.filter isFin).length
  if n = 0 then none else
  match magSum vs (.num false 0 0) with
  | .num _ m e =>
    match decFloat fFp32 (encIeee fFp32 .rne false (fracOf m e).1 ((fracOf m e).2 * n)).1 with
    | .num _ m' e' =>
      if m' = 0 then none else
        let k := Nat.log2 m'
        let up := decide (m' * m' > 2 ^ (2 * k + 1))
        some (max 0 (min 254 ((k : Int) + e' + (if up then 1 else 0) + 127))).toNat
    | _ => some 254
  | _ => some 254

/-- Five Tern2 digits as a byte. -/
def ternPack : List Nat → Nat
  | [] => 0
  | t :: ts => t + 3 * ternPack ts

/-- `n` bytes of five digits each; missing digits are the padding digit 1 (R57). -/
def ternBytes : Nat → List Nat → List Byte
  | 0, _ => []
  | n + 1, ds =>
    BitVec.ofNat 8 (ternPack [nth 1 ds 0, nth 1 ds 1, nth 1 ds 2, nth 1 ds 3, nth 1 ds 4]) :: ternBytes n (ds.drop 5)

/-- A block into Tern2 (R74, Table 4): the 8 bytes and the counts. -/
def ternBlock (seed : Option Nat) (i : Nat) (vs : List Val) : List Byte × Counts :=
  if nanCount vs > 0 then (ternBytes 7 [] ++ [0xFF], ⟨0, nanCount vs, 0⟩)
  else
    match ternScale vs with
    | none => (ternBytes 7 [] ++ [0], ⟨(vs.filter fun v => !isFin v).length, 0, 0⟩)
    | some x =>
      let r := encList (fun j v => narrowInt 2 (-1) 1 (roundAt seed j) (srcDivPow ((x : Int) - 127) v)) i vs
      (ternBytes 7 (r.1.map fun c => (signed 2 c + 1).toNat) ++ [BitVec.ofNat 8 x], r.2)

/-- Bytes that hold `n` elements of +0: zero bytes, but for Tern2, whose zero weight is the digit 1 (R57, R148, R159). -/
def zeroBytes (f : Fmt) (n : Nat) : List Byte :=
  if f = .tern2 then (List.replicate (ceilDiv n 32) (ternBytes 7 [] ++ [0])).flatten else List.replicate (rowBytes f n) 0

/-- Destination blocks of a row: codes, scale bytes and counts, block by block from element index `i`. -/
def encBlocks (bs : Nat) (blk : Nat → List Val → List Nat × Nat × Counts) :
    Nat → Nat → List Val → List Nat × List Byte × Counts
  | 0, _, _ => ([], [], cnt0)
  | n + 1, i, vs =>
    let h := blk i (vs.take bs)
    let t := encBlocks bs blk n (i + bs) (vs.drop bs)
    (h.1 ++ t.1, BitVec.ofNat 8 h.2.1 :: t.2.1, cntAdd h.2.2 t.2.2)

/-- Tern2 blocks of a row. -/
def encTern (seed : Option Nat) : Nat → Nat → List Val → List Byte × Counts
  | 0, _, _ => ([], cnt0)
  | n + 1, i, vs =>
    let h := ternBlock seed i (vs.take 32)
    let t := encTern seed n (i + 32) (vs.drop 32)
    (h.1 ++ t.1, cntAdd h.2 t.2)

/-- A destination row: element bytes, scale bytes, counts. `i` is the index of the row's first element (R66). -/
def encRow (dst : Fmt) (scaled : Bool) (seed : Option Nat) (i : Nat) (vs : List Val) : List Byte × List Byte × Counts :=
  match dst with
  | .tern2 => let r := encTern seed (ceilDiv vs.length 32) i vs; (r.1, [], r.2)
  | .blk4 => let r := encBlocks 16 (blk4Block seed) (ceilDiv vs.length 16) i vs; (packRow .blk4 r.1, r.2.1, r.2.2)
  | f =>
    if scaled then let r := encBlocks 32 (mxBlock f seed) (ceilDiv vs.length 32) i vs; (packRow f r.1, r.2.1, r.2.2)
    else let r := encList (fun j v => narrowElem f (roundAt seed j) (srcOf v)) i vs; (packRow f r.1, [], r.2)

/-- A row converted between two formats (R68 to R76); a plain copy keeps the bytes and the scales, or writes scale
1.0 where only the destination is scaled. DESIGN CHOICE (log 60): a plain copy of a row with padding (R52) copies the source's padding
bits with its bytes, as R68 copies bytes unchanged; R52 has a writer of a row write them as zero. -/
def convRow (src dst : Fmt) (ss ds : Bool) (seed : Option Nat) (i n : Nat) (bs scales : List Byte) :
    List Byte × List Byte × Counts :=
  if src = dst then
    (bs, if ds then (if ss || src = .blk4 then scales else List.replicate (scaleBytes dst n) 0x7F) else [], cnt0)
  else encRow dst ds seed i (rowVals src ss n bs scales)

/-- Integer square root by bits, from bit `k` down. -/
def isqrt : Nat → Nat → Nat → Nat
  | 0, _, r => r
  | k + 1, n, r => let r' := r + 2 ^ k; if r' * r' ≤ n then isqrt k n r' else isqrt k n r

/-- Correctly rounded quotient of FP32 values (R87 DIV and RCP). -/
def divF32 (a b : Val) : Nat :=
  match a, b with
  | .nan, _ => fFp32.nanCode
  | _, .nan => fFp32.nanCode
  | .inf _, .inf _ => fFp32.nanCode
  | .inf x, .num y _ _ => encRne fFp32 (.inf (x != y))
  | .num x _ _, .inf y => encRne fFp32 (.num (x != y) 0 0)
  | .num x m e, .num y m' e' =>
    if m' = 0 then (if m = 0 then fFp32.nanCode else encRne fFp32 (.inf (x != y)))
    else (encIeee fFp32 .rne (x != y) ((fracOf m e).1 * (fracOf m' e').2) ((fracOf m e).2 * (fracOf m' e').1)).1

/-- Correctly rounded square root of an FP32 value (R87 SQRT). -/
def sqrtF32 : Val → Nat
  | .nan => fFp32.nanCode
  | .inf a => if a then fFp32.nanCode else encRne fFp32 (.inf false)
  | .num a m e =>
    if m = 0 then encRne fFp32 (.num a 0 0)
    else if a then fFp32.nanCode
    else
      let e0 : Int := e % 2
      let n := m * 2 ^ e0.toNat * 4 ^ 40
      let r := isqrt 70 n 0
      let st := if r * r = n then 0 else 1
      encRne fFp32 (.num false (2 * r + st) ((e - e0) / 2 - 41))

end Sys2Proof.Machine
end

