-- ==== Sys2Proof/Machine/StCore.lean ====
section
/-! DEFINITION. State of the compute dies: cores, transfer engines, bucket controllers, memory, translation, windows,
synchronisation objects and global operations (spec/04 to spec/07, spec/09, spec/12). -/
namespace Sys2Proof.Machine

/-- STATE of SEQ_CORE_STATE (R139, Table 13). -/
inductive CoreSt where
  | idle | running | waiting | stalled | stopped | done | faulted
deriving DecidableEq, Repr

/-- An active loop (R117). `inVar`: its steps lie in the variant-step section. -/
structure LoopFrame where
  first : Nat
  body : Nat
  count : Nat
  iter : Nat
  inVar : Bool
deriving DecidableEq, Repr

/-- The unit queues (R108). -/
inductive Queue where
  | mx | vx | xf | sy
deriving DecidableEq, Repr

/-- Why the front end has stopped dispatching (R109): the queue that is full, the steps a FENCE waits for, the SETSEL steps a VSEL
waits for, or a drain. -/
inductive Stall where
  | none
  | queueFull (q : Queue)
  | fence (deps : List Nat)
  | vsel (deps : List Nat)
  | drainEnd
  | drainRebind
deriving DecidableEq, Repr

/-- A weight tile in a weight buffer (R80, R111): shape, packed columns, scale bytes and metadata bytes per column.
`special` marks an infinite or NaN element or a NaN scale (R169). -/
structure Tile where
  fmt : Fmt
  n : Nat
  k : Nat
  sparse : Bool
  scaled : Bool
  cols : List (List Byte)
  scales : List (List Byte)
  mets : List (List Byte)
  special : Bool
deriving DecidableEq, Repr

/-- Kind of the accumulations of a bank (R80). -/
inductive BankKind where
  | none | f32 | i32
deriving DecidableEq, Repr

/-- An accumulator bank: 256 rows of 128 patterns of 32 bits, at key 128 row + column. `stuck` marks an INT32
accumulator that has saturated (R61). -/
structure Bank where
  kind : BankKind
  acc : Tbl Nat
  stuck : Tbl Bool
deriving DecidableEq, Repr

/-- A SIGNAL that waits for earlier steps (R314): the object number of the step, the amount, the steps not yet
completed, and its own place in the SY queue. -/
structure PendSignal where
  seq : Nat
  obj : Nat
  amount : Nat
  deps : List Nat
deriving DecidableEq, Repr

/-- An operand descriptor (R96, Table 10). -/
structure Desc where
  fmt : Nat
  scaled : Bool
  round : Nat
  sparse : Bool
  rows : Nat
  aux : Nat
  stride : Nat
  elems : Nat
  space : Nat
  base : Nat
deriving DecidableEq, Repr

/-- A step of the XF queue (R108, R114), with what its command brought: a word that met an uncorrectable error, the link DMA
engine, the pages picked. -/
inductive XfStep where
  | copy (upset : Option (Fin 1048576))
  | copyt
  | lcopy (f : Fin 16)
  | ls (upset : Option (Fin 1048576))
  | gather
  | scatter
  | bucketCount
  | alloc (picks : List (Nat × Nat))
  | free
deriving DecidableEq, Repr

/-- A step in the XF queue that its engine has not taken yet (R108): its number, word and form, its engine, and the loop
iteration at which it was dispatched (R115). -/
structure HeldXf where
  seq : Nat
  word : StepWord
  form : XfStep
  engine : Nat
  loops : List LoopFrame
  begun : Tbl Nat
deriving DecidableEq, Repr

/-- A GLOBAL step dispatched and not started (R322): its group, kind, payload, block-map descriptor and object. -/
structure PendGlobal where
  seq : Nat
  group : Nat
  kind : Nat
  desc : Desc
  mapDesc : Option Desc
  obj : Nat
deriving DecidableEq, Repr

/-- One core: sequencer, queues, units and registers (R77, R108, R113, R139). `syDone` lists the GLOBAL steps whose
results are written, with the object each raises when it completes and its group (R321), `released` says that a firing has released the
core's JOIN (R312), `syWait` lists its GLOBAL steps that have not started (R322), `held` its XF steps that no engine has taken
(R108), in order, and `setsels` its SETSEL steps not completed (R109). -/
structure Core where
  st : CoreSt
  part : Nat
  slot : Nat
  vcore : Nat
  table : Nat
  descBase : Nat
  seedBase : Nat
  step : Nat
  inVar : Bool
  varEnd : Nat
  varRet : Nat
  loops : List LoopFrame
  begun : Tbl Nat
  stall : Stall
  seq : Nat
  qMx : List Nat
  qVx : List Nat
  qXf : List Nat
  qSy : List Nat
  signals : List PendSignal
  syDone : List (Nat × Nat × Nat)
  sel : Tbl Nat
  rbseq : Nat
  released : Bool
  convSat : Nat
  convNan : Nat
  convOvf : Nat
  vrange : Nat
  fault : Nat
  waitObj : Option Nat
  wire : Nat
  wires : Nat
  gated : Bool
  phase : Option Nat
  crit : Bool
  w0 : Option Tile
  w1 : Option Tile
  acc0 : Bank
  acc1 : Bank
  vregs : Tbl Nat
  preds : Tbl Nat
  lsOut : List Nat
  syWait : List PendGlobal
  held : List HeldXf
  setsels : List Nat
  phaseAt : Nat
  phaseEnergy : Nat
  waitAcc : Nat
  waitFrom : Nat
  waitPeriod : Nat
deriving DecidableEq, Repr

/-- An empty bank, as after ZERO (R80). -/
def Bank.empty : Bank := ⟨.none, [], []⟩

/-- The completion of a queued step (R109): its queue, 0 MX, 1 VX, 2 SY, and the cycles that its line accesses waited for their banks
(R90, R100). -/
structure StepEnd where
  queue : Fin 3
  waits : Nat
deriving DecidableEq, Repr

/-- A core after reset: idle, queues and registers empty (R139; DESIGN CHOICE log 5 where the spec gives no value). -/
def Core.reset : Core :=
  { st := .idle, part := 0, slot := 0, vcore := 0, table := 0xFFFF, descBase := 0, seedBase := 0, step := 0,
    inVar := false, varEnd := 0, varRet := 0, loops := [], begun := [], stall := .none, seq := 0, qMx := [], qVx := [],
    qXf := [], qSy := [], signals := [], syDone := [], sel := [], rbseq := 0, released := false, convSat := 0, convNan := 0,
    convOvf := 0, vrange := 0, fault := 0, waitObj := none, wire := 0, wires := 0, gated := false, phase := none,
    crit := false, w0 := none, w1 := none, acc0 := Bank.empty, acc1 := Bank.empty, vregs := [], preds := [],
    lsOut := [], syWait := [], held := [], setsels := [], phaseAt := 0, phaseEnergy := 0, waitAcc := 0, waitFrom := 0, waitPeriod := 0 }

/-- A repeat descriptor (R101, Table 16). -/
structure Repeat where
  count1 : Nat
  count2 : Nat
  src1 : Nat
  dst1 : Nat
  src2 : Nat
  dst2 : Nat
deriving DecidableEq, Repr

/-- Form of a transfer (R95, R114). -/
inductive XferKind where
  | copy | copyt | gather | scatter | dispatch | direct | lcopy | bucketCount | alloc | free | ls | hostCopy
deriving DecidableEq, Repr

/-- A dispatch in progress (R157, R158): the route list's set and own index, the entries asked of each bucket, the
buckets whose grant is not back, the entries that overflowed to the spill bucket, the rows deferred into the carry
region, and the buckets whose done waits for an acknowledgement. `excess` lists the overflow still to be dealt with (R158 step 5):
entry, bucket and the policy of its grant. -/
structure Disp where
  buckets : Nat
  self : Nat
  spill : Nat
  listOff : Nat
  carryOff : Nat
  carryCap : Nat
  carried : Nat
  asked : Tbl (List Nat)
  waiting : List Nat
  overflow : List Nat
  excess : List (Nat × Nat × Nat)
  spillSent : Bool
  toDone : List Nat
deriving DecidableEq, Repr

/-- A transfer in an engine's queue (R95) or an operation of a load/store port (R94): who issued it, its descriptors,
what it has counted, the object it signals (a step's object number; 0xF_FFFF none), the writes not yet acknowledged,
the window reads not yet returned, and, for a host copy, its ring entry. `started`: the engine runs it (R95); `picks`: the pages and
arena slots of an allocation (R369). A status other than 0 before the start is a refusal. -/
structure Xfer where
  kind : XferKind
  core : Nat
  seq : Nat
  part : Nat
  src : Desc
  dst : Desc
  rep : Option Repeat
  idx : Option Desc
  dsts : List Desc
  seed : Nat
  statrec : Bool
  statOff : Nat
  sig : Nat
  status : Nat
  bytes : Nat
  counts : Counts
  unacked : Nat
  reads : Nat
  moved : Bool
  fetched : Tbl Byte
  missing : List (Nat × Nat)
  disp : Option Disp
  host : Option Nat
  started : Bool
  picks : List (Nat × Nat)
deriving DecidableEq, Repr

/-- A transfer engine: its queue, oldest first, at most 16 (R95), and the cores whose oldest held XF step waits for room in it, in
the order in which they came (R108). -/
structure Engine where
  queue : List Xfer
  waiting : List Nat
deriving DecidableEq, Repr

/-- A request at a bucket controller (R158, R160): the producer's index, the engine, core and step to answer, the
bucket's number in the set, the bucket's row descriptor, and the entries offered with the bucket each first named. -/
structure BucketReq where
  self : Nat
  engine : Nat
  core : Nat
  seq : Nat
  bucket : Nat
  rows : Desc
  entries : List (Nat × Nat)
deriving DecidableEq, Repr

/-- The controller's round of one bucket (R159), kept by the address of its header. -/
structure Bucket where
  isOpen : Bool
  requests : Nat
  dones : Nat
  held : List BucketReq
  gather : List BucketReq
  zeroFill : Bool
  rows : Option Desc
deriving DecidableEq, Repr

/-- A bucket without an open round. -/
def Bucket.idle : Bucket := ⟨false, 0, 0, [], [], false, none⟩

/-- What an access meets in the arrays: nothing, a correctable or an uncorrectable error in the stack (R182), an uncorrectable
word in the cache line (R195), or a write-data parity error that its one retry has not cured (R196). -/
inductive Ecc where
  | none | corr | uncorr | cacheWord | parity
deriving DecidableEq, Repr

/-- The patrol scrubber and what it shares with the stacks: its position among the raw sectors (R184); the errors that lie in
sectors and that no access has met yet (R182, R196; log 63); and the health record's count of spare rows left, by bank (R188). -/
structure Patrol where
  pos : Nat
  upsets : List (Nat × Ecc)
  spares : List (Nat × Nat)
deriving DecidableEq, Repr

/-- At the start of the raw capacity, with no error known. -/
def Patrol.reset : Patrol := ⟨0, [], []⟩

/-- A request queued at a home (R201): its master port, the partition it is translated for, its sector, whether it hits
the open row, and its age in ns. -/
structure ReqInfo where
  port : Nat
  part : Nat
  sector : Nat
  rowHit : Bool
  age : Nat
deriving DecidableEq, Repr

/-- A request held at its master port for tokens (R207): the request, its class at issue (R199), the addresses, and the bytes
of a write or the length of a read. -/
structure HeldReq where
  me : ReqInfo
  cls : Nat
  ipa : Nat
  addr : Nat
  n : Nat
  bytes : Option (List Byte)
  ecc : Ecc
deriving DecidableEq, Repr

/-- A master port (R205, R207): the tokens of its bucket in tenths of a byte, and the requests held for tokens, in the order of
issue; a request belongs to the queue of the compute die of its group. -/
structure Port where
  tokens : Nat
  waiting : List HeldReq
deriving DecidableEq, Repr

/-- An empty bucket and no request held (log 5). -/
def Port.reset : Port := ⟨0, []⟩

/-- A partition at a home in the current window (R212, R214): the charges against its grant, the bytes served, and the bytes
accepted with the time of each. -/
structure HomeWin where
  charged : Nat
  bytes : Nat
  accepts : List (Nat × Nat)
deriving DecidableEq, Repr

/-- Nothing served. -/
def HomeWin.reset : HomeWin := ⟨0, 0, []⟩

/-- What the home's queue holds of a partition when a window closes (R214, R215): the bytes of its demand that are not served
yet, the longest time in ns that a request of it stayed at the home, and whether a re-bind pause overlapped the window. -/
structure Window where
  part : Nat
  queued : Nat
  longest : Nat
  paused : Bool
deriving DecidableEq, Repr

/-- Mode of a channel group (R174, MEM_GRP_CFG.MODE). -/
inductive GroupMode where
  | free | dedicated | shared
deriving DecidableEq, Repr

/-- Assignment of a cache way (R191, Table 9). -/
inductive WayKind where
  | part (p : Nat) | pool | off
deriving DecidableEq, Repr

/-- Regions that wait for an owner until their group has left self-refresh (R197): the partition, whether the group becomes
dedicated, and the regions. -/
structure Taking where
  part : Nat
  dedicated : Bool
  regions : List Nat
deriving DecidableEq, Repr

/-- A channel group (R174, R180, R193, R197): mode, owner of a dedicated group, busy causes, self-refresh, what waits for its
end, and the code of the QOS window in force at its home (R219). -/
structure Group where
  mode : GroupMode
  owner : Nat
  waysMoving : Tbl WayKind
  clearing : Bool
  exiting : Bool
  selfRefresh : Bool
  taking : List Taking
  window : Nat
deriving DecidableEq, Repr

/-- A free group in self-refresh (R197), its first window of the reset length (R219). -/
def Group.reset : Group := ⟨.free, 0, [], false, false, true, [], 1⟩

/-- A cached line, kept by sector number (R190): its way, valid and dirty units (bit u for unit u), its age, and whether a word
of it is uncorrectable (R195). -/
structure CacheLine where
  way : Nat
  valid : Nat
  dirty : Nat
  stamp : Nat
  bad : Bool
deriving DecidableEq, Repr

/-- An entry of the withheld-block table (R187, R188): 4 KiB block number; no spare row left; spare known. -/
structure Withheld where
  block : Nat
  permanent : Bool
deriving DecidableEq, Repr

/-- Keys of an encryption region (R457 to R465): the key in use, the key of a re-encryption, its walk, and the
writes under either key. -/
structure Region where
  owner : Option Nat
  keyed : Bool
  rekeying : Bool
  halted : Bool
  clearing : Bool
  pointer : Nat
  writes : Nat
  rekeys : Nat
  keyNo : Nat
  newKeyNo : Nat
  newWrites : Nat
deriving DecidableEq, Repr

/-- A region without owner and key. -/
def Region.reset : Region := ⟨none, false, false, false, false, 0, 0, 0, 0, 0, 0⟩

/-- The integrity record of a sector (R460 to R463): the intermediate sector and the partition it was written for. -/
structure SectorTag where
  ipa : Nat
  part : Nat
  keyNo : Nat
deriving DecidableEq, Repr

/-- A cached translation (R225): a combined entry (kind true) or a stage-2 entry of a partition, for one page. -/
structure XltEntry where
  part : Nat
  combined : Bool
  page : Nat
  bits : Nat
  host : Bool
  target : Nat
  ipa : Nat
  r : Bool
  w : Bool
  pinned : Bool
deriving DecidableEq, Repr

/-- An inbound window entry (R239, Table 10). `accepted` counts the accepted requests that still run (R243); `bad` marks an entry
that met an uncorrectable error and that the Curator has not rewritten yet (R529). -/
structure InWin where
  valid : Bool
  revoking : Bool
  r : Bool
  w : Bool
  scratch : Bool
  part : Nat
  size : Nat
  base : Nat
  grantee : Nat
  gen : Nat
  borrower : Nat
  accepted : Nat
  bad : Bool
deriving DecidableEq, Repr

/-- A closed inbound entry. -/
def InWin.closed : InWin := ⟨false, false, false, false, false, 0, 0, 0, 0, 0, 0, 0, false⟩

/-- An outbound entry (R239, Table 11), with the virtual window it serves; `bad` as for an inbound one. -/
structure OutWin where
  valid : Bool
  failed : Bool
  r : Bool
  w : Bool
  part : Nat
  size : Nat
  gen : Nat
  window : Nat
  target : Nat
  vwin : Nat
  bad : Bool
deriving DecidableEq, Repr

/-- An unused outbound entry. -/
def OutWin.closed : OutWin := ⟨false, false, false, false, 0, 0, 0, 0, 0, 0, false⟩

/-- Kind of a transaction a requester has sent (R288, R316). -/
inductive TxnKind where
  | write | read | sig
deriving DecidableEq, Repr

/-- A transaction at its requester, kept by TAG (R289): the engine, core and step that wait for it, the outbound entry
it went through, its byte range in the window, the units received, and whether its TAG rests after a timeout. Engines
are those of `Engine` tables: 0 to 111 the DMA engines, 112 + c the load/store port of core c, 880 + c the SY queue of
core c. -/
structure Txn where
  kind : TxnKind
  engine : Nat
  core : Nat
  seq : Nat
  entry : Nat
  base : Nat
  len : Nat
  got : Nat
  resting : Bool
deriving DecidableEq, Repr

/-- A window request that waits to be sent (R240, R288, R291): the engine, core and step it serves, the outbound entry,
the byte offset, the bytes of a write, or the length of a read. -/
structure WinReq where
  write : Bool
  engine : Nat
  core : Nat
  seq : Nat
  part : Nat
  entry : Nat
  off : Nat
  len : Nat
  bytes : List Byte
deriving DecidableEq, Repr

/-- A waiter of an object (R307): a core with its wire, or a host WAIT. -/
inductive Waiter where
  | core (c wire : Nat)
  | host (id : Nat)
deriving DecidableEq, Repr

/-- A synchronisation object (R307, Table 2). `primed`: INIT exceeded MAX at launch start, and nothing has touched it. -/
structure SyncObj where
  owner : Option Nat
  count : Nat
  target : Nat
  max : Nat
  fired : Nat
  fault : Nat
  waiters : List Waiter
  vobj : Nat
  tsLast : Nat
  primed : Bool
deriving DecidableEq, Repr

/-- An unassigned object. -/
def SyncObj.reset : SyncObj := ⟨none, 0, 0, 0, 0, 0, [], 0xFFFFF, 0, false⟩

end Sys2Proof.Machine
end

