-- ==== Sys2Proof/Machine/StLink.lean ====
section
/-! DEFINITION. State of memory regulation, of the links, cages and the fabric, and of fabric time (spec/02, spec/07 to
spec/11, spec/17). -/
namespace Sys2Proof.Machine

/-- A place in a link's receive buffer (R281): the link, the shared pool or a channel's own slots, the channel. -/
structure Slot where
  link : Nat
  pool : Bool
  vc : Nat
deriving DecidableEq, Repr

/-- A flit (R274, Table 1); `body` holds the bytes of its units. The per-hop LSEQ and POOL are kept beside it (`LFlit`). `slot` is
no field of it: the place in which this module holds a flit that it received on a link (R281). -/
structure Flit where
  kind : Nat
  vc : Nat
  hops : Nat
  dst : Nat
  src : Nat
  comp : Nat
  cepoch : Nat
  tag : Nat
  units : Nat
  total : Nat
  window : Nat
  gen : Nat
  offset : Nat
  aux : Nat
  body : List Byte
  check : Nat := 0
  slot : Option Slot := none
deriving DecidableEq, Repr

/-- The fabric die by which this module took a flit in (R22). -/
def Flit.fd (f : Flit) : Nat :=
  match f.slot with
  | some x => x.link / 48
  | none => 0

/-- A flit on a link: its per-hop sequence number and pool (R274). -/
structure LFlit where
  lseq : Nat
  pool : Bool
  flit : Flit
deriving DecidableEq, Repr

/-- A link control word (R276, Tables 2 and 3): kind, payload, control counter, and the MAC or CRC. -/
structure CtlWord where
  kind : Nat
  payload : Nat
  cctr : Nat
  mac : Nat
deriving DecidableEq, Repr

/-- States of a link (R249, Table 2). -/
inductive LnkSt where
  | disabled | detect | equalise | align | neighbour | quarantine | active | draining
deriving DecidableEq, Repr

/-- A hello (R254, Table 4). -/
structure Hello where
  serial : Nat
  proto : Nat
  fid : Nat
  link : Nat
  goodbye : Bool
  ready : Bool
deriving DecidableEq, Repr

/-- KSTATE of SEC_LNK_KSTATE (R489). -/
inductive KSt where
  | none | keying | keyed | rolling | stopped
deriving DecidableEq, Repr

/-- A REKEY message as received (R468): its exchange number and its bytes. -/
structure RekeyMsg where
  xid : Nat
  data : List Byte
deriving DecidableEq, Repr

/-- A key exchange in progress on a link (R468 to R471): the exchange number, whether this end started it, whether it is a
rollover, the messages received, sent (with their bytes) and acknowledged (codes of R468), the seed of this end's ephemeral
keys, the INIT and RESP of the transcript, and the keys agreed, for sending and for receiving. -/
structure Exchange where
  xid : Nat
  initiator : Bool
  rollover : Bool
  received : List Nat
  sent : List (Nat × List Byte)
  acked : List Nat
  eph : Nat
  initMsg : List Byte
  respMsg : List Byte
  keys : Option (Nat × Nat)
deriving DecidableEq, Repr

/-- A link (R249 to R258, R271 to R286, R467 to R474). Counters hold the next value to send or expect; `txPos` and `rxPos` the place
in a data block at which the next bundle starts (R271); `held` the occupied slots of the receive buffer, by VC and then those of
the shared pool (R281); `keyEpoch` and `rxEpoch` the key epochs of the two directions, and `pending` a receive key that has not yet
verified anything, with its epoch (R472). -/
structure Link where
  st : LnkSt
  cause : Nat
  waiting : Bool
  swap : Bool
  pol0 : Bool
  pol1 : Bool
  secHold : Bool
  hello : Option Hello
  tableNew : Bool
  pEpoch : Option Nat
  pReady : Bool
  hold : Bool
  txLseq : Nat
  rxLseq : Nat
  replay : List LFlit
  sent : Nat
  queue : List Flit
  txCtr : Nat
  rxCtr : Nat
  txPos : Nat
  rxPos : Nat
  held : List Nat
  txCctr : Nat
  rxCctr : Nat
  replayWait : Bool
  tagFails : Nat
  credShared : Nat
  credDed : List Nat
  seenShared : Nat
  seenDed : List Nat
  freedShared : Nat
  freedDed : List Nat
  ackDue : Bool
  keys : KSt
  keyed : Bool
  keyEpoch : Nat
  txKey : Nat
  rxKey : Nat
  rxEpoch : Nat
  pending : Option (Nat × Nat)
  keyFails : Nat
  exch : Option Exchange
  nextXid : Nat
  retryKey : Bool
  timeSeq : Nat
  rxTimeSeq : Nat
  rxTimeAt : Nat
  txTimes : Tbl Nat
  rxRoot : Nat
deriving DecidableEq, Repr

/-- A link after reset: DISABLED, no keys, no flits. -/
def Link.reset : Link :=
  { st := .disabled, cause := 0, waiting := false, swap := false, pol0 := false, pol1 := false, secHold := false,
    hello := none, tableNew := false, pEpoch := none, pReady := false, hold := false, txLseq := 0, rxLseq := 0,
    replay := [], sent := 0, queue := [], txCtr := 0, rxCtr := 0, txCctr := 0, rxCctr := 0, replayWait := false,
    tagFails := 0, credShared := 0, credDed := [0, 0, 0, 0, 0, 0, 0], seenShared := 0, seenDed := [0, 0, 0, 0, 0, 0, 0],
    freedShared := 0, freedDed := [0, 0, 0, 0, 0, 0, 0], ackDue := false, keys := .none, keyed := false, keyEpoch := 0,
    txKey := 0, rxKey := 0, rxEpoch := 0, txPos := 0, rxPos := 0, held := [0, 0, 0, 0, 0, 0, 0, 0], pending := none, keyFails := 0, exch := none, nextXid := 0, retryKey := false, timeSeq := 0, rxTimeSeq := 0,
    rxTimeAt := 0, txTimes := [], rxRoot := 0x3FFF }

/-- What identification reads from a powered cable (R260): an active cable or a passive one, and its advertised maximum
power in mW. -/
structure CableId where
  active : Bool
  milliwatt : Nat
deriving DecidableEq, Repr

/-- Under which key a bundle or an authenticated word verifies (R472, R474): the current one, the pending one, none. -/
inductive Verify where
  | current | pendingKey | fails
deriving DecidableEq, Repr

/-- An event of R405: SEQ, CODE, object, timestamp, count. -/
structure McEvent where
  seq : Nat
  code : Nat
  object : Nat
  ts : Nat
  count : Nat
deriving DecidableEq, Repr

/-- POWER of a cage (R270, Table 14). -/
inductive CagePow where
  | off | debounce | ramp | on | retryWait | latched | discharge
deriving DecidableEq, Repr

/-- ATTN of a cage (R265, Table 14). -/
inductive Attn where
  | idle | requested | draining | safe | keyStuck
deriving DecidableEq, Repr

/-- A cage. `next` is where POWER goes when a discharge ends; `active` says that the cable is an active one; `low` that
it is held in low power; `toSafe` that the discharge belongs to the attention sequence. -/
structure Cage where
  pow : CagePow
  next : CagePow
  attn : Attn
  present : Bool
  ready : Bool
  fails : Nat
  active : Bool
  low : Bool
  toSafe : Bool
deriving DecidableEq, Repr

/-- A cage after reset: nothing inserted, no supply. -/
def Cage.reset : Cage := ⟨.off, .off, .idle, false, false, 0, false, false, false⟩

/-- A write transaction in progress at the lender (R288, R290), kept by source × 65536 + TAG: the units that have arrived, and
the flits that wait for the rest before the transaction can be judged whole (log 23). -/
structure RxTxn where
  window : Nat
  gen : Nat
  part : Nat
  total : Nat
  got : Nat
  refused : Bool
  waiting : List Flit
deriving DecidableEq, Repr

/-- Time-synchronisation states (R42, Table 9). -/
inductive TsSt where
  | unsynced | acquiring | locked | holdover | root
deriving DecidableEq, Repr

/-- Fabric time (R42 to R49). `pendingCtrl`: a write of FAB_TS_CTRL that takes effect at the next exchange period. `frac` is the
counter's part of a nanosecond and `slew` the offset still to be slewed away, both in units of 10⁻⁹ ns; `stepped` says that
the forward step of the present ACQUIRING is made, or that none is allowed (R43, R49). -/
structure TimeSync where
  st : TsSt
  hops : Nat
  link : Nat
  root : Nat
  conflict : Bool
  pendingCtrl : Bool
  ctrl : Nat
  offset : Int
  rate : Int
  delay : Nat
  slew : Int
  frac : Nat
  stepped : Bool
  dies : List Nat
deriving DecidableEq, Repr

/-- Unsynchronised, as after reset (R48). -/
def TimeSync.reset : TimeSync :=
  { st := .unsynced, hops := 0, link := 0xFF, root := 0x3FFF, conflict := false, pendingCtrl := false, ctrl := 0xFF00,
    offset := 0, rate := 0, delay := 0, slew := 0, frac := 0, stepped := false, dies := [0, 0, 0, 0, 0, 0] }

/-- Not following any parent (R42): no offset, no correction. -/
def TimeSync.unsync (t : TimeSync) : TimeSync :=
  { t with st := .unsynced, hops := 0, link := 0xFF, root := 0x3FFF, offset := 0, rate := 0, slew := 0, stepped := false }

/-- Measuring against the parent on link `i` (R42); `stepped` where the counter is to make no step (R49). -/
def TimeSync.acquire (t : TimeSync) (i : Nat) (stepped : Bool) : TimeSync :=
  { t with st := .acquiring, link := i, slew := 0, stepped := stepped }

/-- What `x` units of 10⁻⁹ ns add to the counter: whole nanoseconds, and the part kept (R40). -/
def TimeSync.carry (t : TimeSync) (x : Int) : Nat × TimeSync :=
  let sum := (t.frac + x).toNat
  (sum / 10 ^ 9, { t with frac := sum % 10 ^ 9 })

/-- One nanosecond of the reference clock (R40, R43): the counter moves at the rate in force, and a slew ends when its offset is
removed. -/
def TimeSync.tick (t : TimeSync) : Nat × TimeSync :=
  let r := t.carry (10 ^ 9 + t.rate)
  if t.slew < 0 then
    (r.1, if t.slew ≥ t.rate then { r.2 with slew := 0, rate := 0 } else { r.2 with slew := t.slew - t.rate })
  else r

/-- A page of the allocator pool (R367, R370): its holder, and whether it is being cleared. -/
structure PoolPage where
  owner : Option Nat
  clearing : Bool
deriving DecidableEq, Repr

/-- An entry of the address translation cache (R238). -/
structure AtcEntry where
  fn : Nat
  iova : Nat
  size : Nat
  target : Nat
deriving DecidableEq, Repr

/-- A cluster: its tag (R347; CMP_CLU_TAG, R371) and its power state (R491 to R504; R509, Table 6). `goal` is the step it
moves to, `cls` its power class, `changed` says that its phase state changed in the last period, `energy` sums its power
in 10 mW × 50 µs, `idleAt` is the time from which it counts as idle (R497), `stackHeld` that a stack holds its ceiling
down (R504), and `cyc` counts tenths of a core cycle (R100). -/
structure Cluster where
  bound : Bool
  shared : Bool
  part : Nat
  epoch : Nat
  step : Nat
  target : Nat
  temp : Nat
  memBound : Bool
  crit : Bool
  fixed : Bool
  fixedLow : Bool
  clamped : Bool
  volt : Nat
  power : Nat
  capCeil : Nat
  thermCeil : Nat
  goal : Nat
  cls : Nat
  waiting : Bool
  changed : Bool
  energy : Nat
  idleAt : Nat
  stackHeld : Bool
  droop : Nat
  cyc : Nat
deriving DecidableEq, Repr

/-- A cluster after reset: untagged, at P15, 550 mV (R371, R509). -/
def Cluster.reset : Cluster :=
  { bound := false, shared := false, part := 0, epoch := 0, step := 15, target := 15, temp := 0, memBound := false,
    crit := false, fixed := false, fixedLow := false, clamped := false, volt := 0x226, power := 0,
    capCeil := 0, thermCeil := 0, goal := 15, cls := 0, waiting := false, changed := false, energy := 0, idleAt := 0,
    stackHeld := false, droop := 0, cyc := 0 }

/-- Watermark throttles of a group (R204). -/
structure Level where
  level : Nat
  bg : Bool
  be : Bool
  gu : Bool
deriving DecidableEq, Repr

/-- No congestion. -/
def Level.reset : Level := ⟨0, false, false, false⟩

end Sys2Proof.Machine
end

