-- ==== Sys2Proof/Machine/StHost.lean ====
section
/-! DEFINITION. State of compositions, the host port and instances (spec/13 to spec/15). -/
namespace Sys2Proof.Machine

/-- Where a synchronisation object lives: the Fabric ID of the module and the physical object. -/
structure ObjRef where
  fid : Nat
  obj : Nat
deriving DecidableEq, Repr

/-! Global operations (R321 to R328) -/

/-- One partial sum in a tree node (R326): the link it came from (none for the members here), level, prefix flag, index,
and the words of the payload that it holds. -/
structure Partial where
  link : Option Nat
  level : Nat
  pre : Bool
  index : Nat
  words : List (Option Nat)
deriving DecidableEq, Repr

/-- A member core's contribution to the operation in progress (R322): its payload, its block map where it has one. -/
structure Contrib where
  core : Nat
  vcore : Nat
  seq : Nat
  desc : Desc
  obj : Nat
  words : List (Option Nat)
  map : Option (List Bool)
  zeroUnsent : Bool
deriving DecidableEq, Repr

/-- The tree node of one group on this module (R323, R324): its place in the tree, the operation in progress and what it
has received. Kept by partition × 65536 + group; 0xFFFF names the composition tree. `members` are the physical cores with
their virtual numbers, in virtual order; `sum` what a reduce-add without DETSUM has added so far, in arrival order; `held` the GOP
flits of the next operation with the link each came by; `cut` the time of a snapshot. -/
structure TreeNode where
  parent : Option Nat
  children : List Nat
  members : List (Nat × Nat)
  levels : Nat
  root : Nat
  seq : Nat
  kind : Nat
  live : Bool
  contribs : List Contrib
  childDone : List Nat
  partials : List Partial
  sum : List (Option Nat)
  map : Option (List Bool)
  zeroUnsent : Bool
  result : List (Option Nat)
  noTime : Bool
  upSent : Bool
  cut : Option Nat
  late : Bool
  held : List (Nat × Flit)
deriving DecidableEq, Repr

/-- A node without a tree. -/
def TreeNode.empty : TreeNode :=
  { parent := none, children := [], members := [], levels := 0, root := 0xFFFFFFFF, seq := 0, kind := 0, live := false,
    contribs := [], childDone := [], partials := [], sum := [], map := none, zeroUnsent := false, result := [], noTime := false,
    upSent := false, cut := none, late := false, held := [] }

/-! Compositions -/

/-- A launch of a composition (R135 to R138). `host` names the descriptor whose completion it writes, `waiting` the
members whose completion gather is not in, `ctx` its context, `at_` the timestamp of its acceptance, `faultCore` the
virtual core of the first fault, `limit` the watchdog's time in ns and `paused` what re-bind pauses have taken (R518). -/
structure Launch where
  slot : Nat
  salt : Nat
  cookie : Nat
  start : Nat
  result : Nat
  faultCore : Nat
  faultCode : Nat
  rebind : Bool
  carried : Bool
  host : Option Nat
  waiting : List Nat
  localDone : Bool
  ctx : Nat
  at_ : Nat
  limit : Nat
  paused : Nat
deriving DecidableEq, Repr

/-- A launch in the anchor's queue (R135, R390). -/
structure Queued where
  desc : Nat
  slot : Nat
  salt : Nat
  cookie : Nat
  ctx : Nat
  at_ : Nat
deriving DecidableEq, Repr

/-- A loaded image: the bytes as supplied, and the rebased copy the sequencers read (R134). -/
structure Image where
  raw : List Byte
  bytes : List Byte
deriving DecidableEq, Repr

/-- States of a partition (R348, Table 6). -/
inductive PartSt where
  | free | reserved | sealed | rebinding | suspended | resetting | failed | dissolving
deriving DecidableEq, Repr

/-- A member entry of an envelope (R335, Table 3). -/
structure EnvMember where
  fid : Nat
  clusters : Nat
  groups : Nat
  ways : Nat
  share : Nat
  grant : Nat
  carve : Nat
  devObjs : Nat
  dedicated : Bool
  links : Nat
deriving DecidableEq, Repr

/-- An envelope (R335, Table 2). `bad` says that a reserved field is non-zero or a field outside its coded range. -/
structure Envelope where
  role : Nat
  flags : Nat
  comp : Nat
  anchor : Nat
  sfr : Nat
  seq : Nat
  quantum : Nat
  members : List EnvMember
  bad : Bool
deriving DecidableEq, Repr

/-- What a member reports of itself for the catalogue's member table (R345, Table 4). -/
structure MemberInfo where
  fid : Nat
  part : Nat
  clusters : Nat
  groups : Nat
  links : Nat
  spans : List Nat
deriving DecidableEq, Repr

/-- The edges of a group's tree at this module (R323): its parent link, its child links, and the levels of the tree. -/
structure TreeSpec where
  group : Nat
  parent : Option Nat
  children : List Nat
  levels : Nat
deriving DecidableEq, Repr

/-- The placement of one image (R340): virtual clusters and virtual groups placed on this member, the homes of its
device-scope objects, the outbound entries that reach its virtual clusters on other members (R220), and its trees. -/
structure SlotPlace where
  slot : Nat
  vclus : List (Nat × Nat)
  vgrps : List (Nat × Nat)
  dobjs : List (Nat × ObjRef)
  remotes : List (Nat × Nat)
  trees : List TreeSpec
deriving DecidableEq, Repr

/-- A window this member lends (R242): its grantee and borrower, its range or its cluster, what it permits. -/
structure LendSpec where
  comp : Nat
  borrower : Nat
  scratch : Bool
  base : Nat
  size : Nat
  r : Bool
  w : Bool
deriving DecidableEq, Repr

/-- A row of the catalogue's window table (R345, Table 4). -/
structure WinRow where
  vwin : Nat
  entry : Nat
  borrower : Nat
  lender : Nat
  window : Nat
  size : Nat
  flags : Nat
deriving DecidableEq, Repr

/-- The placement a member's Curator takes (R340), which the rules bound and do not single out here (log 28). `spans`
gives the group of each span after a re-bind, `windows` the outbound entry of each virtual window (R220), `tree` the
composition tree's edges here (R323), and `table` the rows of the catalogue's window table, which the anchor writes. -/
structure PlaceSpec where
  places : List SlotPlace
  spans : List Nat
  lends : List LendSpec
  windows : List (Nat × Nat)
  table : List WinRow
  tree : TreeSpec
deriving DecidableEq, Repr

/-- What a Curator reports to another (R349, R350, R357, R359, R364, R389, R524): a reserve with its result and what it
took, a placement, the seal stored, an image loaded or refused, the end of a launch, a fault, the stop at a REBIND instance,
the order to pass on to a later one, the request carried to the end of the launch, the flip, the clusters switched in, the member dissolved, the reset confirmed. -/
inductive Report where
  | prepared (result : Nat) (info : MemberInfo)
  | placed (result : Nat) (info : MemberInfo) (places : List SlotPlace)
  | sealed_ (result : Nat)
  | loaded (slot status : Nat) (places : List SlotPlace)
  | launchEnd (result faultCore faultCode : Nat)
  | faulted (vcore code : Nat)
  | stopped (n : Nat)
  | passTo (n : Nat)
  | carried
  | flipped (result : Nat) (info : MemberInfo) (places : List SlotPlace)
  | switchedIn
  | dissolved
  | resetDone
deriving DecidableEq, Repr

/-- Operations of the Curator (R352; CMP_PART_RESULT): codes 1 to 5. `wait` lists the members not yet heard, `desc` is the
descriptors that wait for the completion, each with the host address for the hash, and `mctp` holds the SEQs of the
requests that came over MCTP. `began` is the timestamp of a pause's start. -/
structure BindOp where
  op : Nat
  step : Nat
  wait : List Nat
  result : Nat
  descs : List (Nat × Nat)
  mctp : List Nat
  env : Option Envelope
  began : Nat
deriving DecidableEq, Repr

/-- A LOAD that waits for the other members (R389): its descriptor, slot, the members not yet heard, the first refusal. -/
structure LoadOp where
  desc : Nat
  slot : Nat
  wait : List Nat
  status : Nat
deriving DecidableEq, Repr

/-- A composition reset in progress (R524): its cause, the time at which the engines stopped, whether the hold is over,
the child edges that have confirmed, the members that have confirmed by message, whether this member answers by message,
whether it has confirmed, the windows to reopen, whether the anchor has repeated it. -/
structure ResetSt where
  cause : Nat
  at_ : Nat
  held : Bool
  kids : List Nat
  heard : List Nat
  asked : Bool
  done : Bool
  windows : List Nat
  repeated : Bool
deriving DecidableEq, Repr

/-- A sample being written (R520): its bytes, whether it was cut, and the slot that a HANG event names once it has ended. -/
structure Sample where
  bytes : Nat
  cut : Bool
  hang : Option Nat
deriving DecidableEq, Repr

/-- A partition. `vmap`, `gmap` and `dobj` hold, for slot × 2^20 + virtual unit, the physical cluster, the span and the
device object; `consents` holds the consent hashes recorded (R483); `spans` the group of each span and its first page there; `saved` holds the scratchpad bytes of a partition that has been switched out, by physical address, and
`savedW` its written-since-bind bits. `clears` lists the regions whose clear a
dissolution waits for; `newEnv`, `newClu` and `newSpans` hold the slice that an envelope update has prepared (R354, R355).
`members`, `infos`, `queue` and `op` serve at the anchor. -/
structure Part where
  st : PartSt
  comp : Nat
  role : Nat
  flags : Nat
  epoch : Nat
  anchor : Nat
  envSeq : Nat
  quantum : Nat
  entry : Option EnvMember
  members : List EnvMember
  clusters : Nat
  groups : Nat
  links : Nat
  spans : List (Nat × Nat)
  images : Tbl (Option Image)
  vmap : Tbl (Option Nat)
  gmap : Tbl (Option Nat)
  dobj : Tbl (Option ObjRef)
  launch : Option Launch
  queue : List Queued
  op : Option BindOp
  infos : List MemberInfo
  mplaces : List (Nat × List SlotPlace)
  trees : Tbl (List TreeSpec)
  ctree : TreeSpec
  loads : List LoadOp
  rst : Option ResetSt
  retries : Tbl Nat
  plan : Option PlaceSpec
  stops : List (Nat × Nat)
  catalogue : List Byte
  saved : Tbl Byte
  savedW : Tbl Bool
  switchAt : Nat
  quantumOver : Bool
  swWait : List Nat
  swAsked : Bool
  resumedAt : Nat
  windows : List (Nat × Nat)
  homes : Tbl Nat
  moved : Nat
  pauseAt : Nat
  sample : Option Sample
  clears : List Nat
  newEnv : Option Envelope
  newClu : Nat
  newSpans : List (Nat × Nat)
  consents : List Nat
  rebindDue : Bool
  ctxAsk : Bool
deriving DecidableEq, Repr

/-- A free partition. -/
def Part.reset : Part :=
  { st := .free, comp := 0, role := 0, flags := 0, epoch := 0, anchor := 0x3FFF, envSeq := 0, quantum := 0, entry := none,
    members := [], clusters := 0, groups := 0, links := 0, spans := [], images := [], vmap := [], gmap := [], dobj := [],
    launch := none, queue := [], op := none, infos := [], mplaces := [], trees := [],
    ctree := ⟨0xFFFF, none, [], 0⟩, loads := [], rst := none, retries := [], plan := none, stops := [], catalogue := [], saved := [],
    savedW := [], switchAt := 0, quantumOver := false, swWait := [], swAsked := false, resumedAt := 0, windows := [],
    homes := [], moved := 0, pauseAt := 0, sample := none,
    clears := [], newEnv := none, newClu := 0, newSpans := [], consents := [], rebindDue := false, ctxAsk := false }

/-- A switch-in request that waits at a module (R364): its partition and the launch's acceptance timestamp. -/
structure SwitchReq where
  part : Nat
  at_ : Nat
deriving DecidableEq, Repr

/-! The host port -/

/-- Where a fetched descriptor stands (R382 to R386): not started, running, or ended with a status and a result while its
reference-count FetchAdds are outstanding. -/
inductive DescSt where
  | fetched
  | running
  | ended (status result refs : Nat)
deriving DecidableEq, Repr

/-- A fetched descriptor. `dropped`: FLR has discarded its completion (R374). `obj` is the object of a host WAIT, and
`asleep` says that its waiter is withdrawn during a re-bind pause, `late` that its timeout expired then (R409). -/
structure HostDesc where
  id : Nat
  fn : Nat
  ring : Nat
  index : Nat
  raw : Nat
  st : DescSt
  dropped : Bool
  obj : Option Nat
  asleep : Bool
  late : Bool
deriving DecidableEq, Repr

/-- A submission ring: HEAD, the latest doorbell value, and a write of ENABLE = 0 not yet drained. -/
structure Sq where
  head : Nat
  tail : Nat
deriving DecidableEq, Repr

/-- A ring at its start. -/
def Sq.reset : Sq := ⟨0, 0⟩

/-- A completion record that waits for space: its 256 bits without the phase, and whether it is an event. -/
structure CqRec where
  bits : Nat
  event : Bool
deriving DecidableEq, Repr

/-- A completion ring: the next entry written, its phase, the driver's head, the records that wait, and the records
written since the last interrupt. -/
structure Cq where
  tail : Nat
  phase : Bool
  head : Nat
  waiting : List CqRec
  pend : Nat
deriving DecidableEq, Repr

/-- A completion ring at its start: entry 0, phase 1. -/
def Cq.reset : Cq := ⟨0, false, 0, [], 0⟩

/-- A reference-count FetchAdd on its way (R411): the descriptor, its function and the entry. -/
structure RefOp where
  desc : Nat
  fn : Nat
  entry : Nat
deriving DecidableEq, Repr

/-! Instances -/

/-- A mailbox event (R422). -/
structure MbEvent where
  type : Nat
  count : Nat
  ts : Nat
  detail : Nat
deriving DecidableEq, Repr

/-- State of an instance (R415). -/
inductive InstSt where
  | absent | ready | quiescing | quiesced
deriving DecidableEq, Repr

/-- A quiesce in force (R423 to R425): its mode, the descriptor that waits for it, and how many descriptors it had to
drain. -/
structure Quiesce where
  abort : Bool
  desc : Option Nat
  count : Nat
deriving DecidableEq, Repr

/-- State of a VF's TDI (R486). -/
inductive TdiSt where
  | unlocked | locked | run | error
deriving DecidableEq, Repr

/-- An instance, by the number of its VF. `page` holds the message areas of its mailbox (offsets 0x040 to 0x33F of R417);
`tdi` the state of the VF's TDI and `nonce` its START_INTERFACE nonce. -/
structure Inst where
  st : InstSt
  part : Nat
  ring : Tbl MbEvent
  tail : Nat
  tailWrap : Bool
  head : Nat
  headWrap : Bool
  notify : Bool
  held : List MbEvent
  lost : Tbl Nat
  page : Tbl Byte
  toMgr : Bool
  toInst : Bool
  mgrOvr : Bool
  instOvr : Bool
  ctxs : List Nat
  quiesce : Option Quiesce
  quiesceMode : Nat
  tdi : TdiSt
  nonce : Nat
deriving DecidableEq, Repr

/-- An absent instance. -/
def Inst.reset : Inst :=
  { st := .absent, part := 0, ring := [], tail := 0, tailWrap := false, head := 0, headWrap := false, notify := true,
    held := [], lost := [], page := [], toMgr := false, toInst := false, mgrOvr := false, instOvr := false, ctxs := [],
    quiesce := none, quiesceMode := 0, tdi := .unlocked, nonce := 0 }

/-- Causes of a composition reset (R524), numbered by the model. -/
inductive ResetCause where
  | watchdog | context | memberReset | rebind | lost | manager
deriving DecidableEq, Repr

/-! Sources of the Curator's commands -/

/-- What brings a LOAD, UNLOAD or LAUNCH: the next descriptor of a ring at the anchor, or the anchor's message at another
member, with what it carries. -/
inductive LoadFrom where
  | ring (fn : FnId) (r : Fin 16)
  | member (p : PartId) (slot : SlotId) (bytes : List Byte)
deriving DecidableEq, Repr

/-- UNLOAD and LAUNCH at a member carry a slot and a salt. -/
inductive SlotFrom where
  | ring (fn : FnId) (r : Fin 16)
  | member (p : PartId) (slot : SlotId) (salt : W64)
deriving DecidableEq, Repr

/-- What brings a BIND: the next descriptor of a ring of PF0, or the oldest BIND assembled over MCTP. -/
inductive BindFrom where
  | ring (r : Fin 16)
  | mctp
deriving DecidableEq, Repr

/-! MCTP -/

/-- A BIND being assembled from fragments over MCTP (R404): bytes 24 to 47 of its body, its OP and COMP, TOTAL, the bytes by
offset and which have arrived, and the SEQ of its last fragment. -/
structure McBind where
  head : List Byte
  op : Nat
  comp : Nat
  total : Nat
  bytes : Tbl Byte
  got : Tbl Bool
  seq : Nat
deriving DecidableEq, Repr

end Sys2Proof.Machine
end

