-- ==== Sys2Proof/Machine/StSys.lean ====
section
/-! DEFINITION. State of power control, of security, of errors and resets, of firmware and of the module's panel
(spec/16 to spec/21). -/
namespace Sys2Proof.Machine

/-! Power (spec/18) -/

/-- A slack entry (R507, R508). `stamp` orders the entries by their last update. -/
structure Slack where
  valid : Bool
  part : Nat
  phase : Nat
  crit : Bool
  count : Nat
  active : Nat
  wait : Nat
  energy : Nat
  stamp : Nat
deriving DecidableEq, Repr

/-- An unused slack entry. -/
def Slack.empty : Slack := ⟨false, 0, 0, false, 0, 0, 0, 0, 0⟩

/-- What the module measures in a control period (R492, R495, R503): input power in W and voltage in 10 mV, the power of
each cluster in 10 mW, the junction temperature of each cluster and of each fabric die in °C. -/
structure PeriodMeas where
  watt : Nat
  volt : Nat
  power : List Nat
  temp : List Nat
  fabTemp : List Nat
deriving DecidableEq, Repr

/-- The power controller (R492 to R508). `hist` holds, for the last 200 periods (10 ms), the input power and whether some
cluster stood below its ceiling for want of budget; `energy` the sum of input power over the periods, in W × 50 µs. -/
structure PowerSt where
  input : Nat
  volt : Nat
  unmet : Bool
  backstop : Bool
  backstopSeen : Bool
  hist : List (Nat × Bool)
  energy : Nat
  dieTemp : List Nat
  period : Nat
  fellTemp : Bool
  fellStack : Bool
  slackClock : Nat
deriving DecidableEq, Repr

/-- The controller at reset (R509). -/
def PowerSt.reset : PowerSt :=
  { input := 0, volt := 0, unmet := false, backstop := false, backstopSeen := false, hist := [], energy := 0, dieTemp := [],
    period := 0, fellTemp := false, fellStack := false, slackClock := 0 }

/-! The Custodian (spec/16) -/

/-- A copy of a key slot (R438, Table 4). `key` stands for the wrapped key material (log 8). -/
structure SlotCopy where
  used : Bool
  type : Nat
  usage : Nat
  rootTest : Bool
  seq : Nat
  key : Nat
deriving DecidableEq, Repr

/-- A copy programmed with zeros. -/
def SlotCopy.zero : SlotCopy := ⟨false, 0, 0, false, 0, 0⟩

/-- A key slot (R438 to R443): its copies A and B, GEN and BUSY of the generation table, WRITES, SLOT_WEAR, and whether it is
unusable. WRITES counts on over a destruction, which zeroes the copies (log 39). -/
structure KeySlot where
  a : SlotCopy
  b : SlotCopy
  gen : Nat
  busy : Bool
  writes : Nat
  wear : Bool
  bad : Bool
deriving DecidableEq, Repr

/-- An empty slot as made. -/
def KeySlot.empty : KeySlot := ⟨SlotCopy.zero, SlotCopy.zero, 0, false, 0, false, false⟩

/-- Entropy states (R455, Table 7). -/
inductive EsSt where
  | off | startup | ready | retest | failed
deriving DecidableEq, Repr

/-- Debug states (R437, Table 3). -/
inductive DbgSt where
  | production | debugPending | debug | returnPending
deriving DecidableEq, Repr

/-- A request in the Custodian's queue (R429): the descriptor that waits for it, its command, and its arguments. -/
structure CusReq where
  desc : Nat
  cmd : Nat
  arg : Nat
  ok : Bool
  pulses : Nat
  blob : List Byte
deriving DecidableEq, Repr

/-- The continuous health tests of a noise source (R449): the last sample and how often it has repeated; the first sample of the
window of 1,024, how many of the window have come, and how many of them equal it. -/
structure Noise where
  last : Bool
  run : Nat
  first : Bool
  pos : Nat
  same : Nat
deriving DecidableEq, Repr

/-- Tests begun afresh. -/
def Noise.reset : Noise := ⟨false, 0, false, 0, 0⟩

/-- The entropy source (R449): its two noise sources, the samples of each in the conditioning block that is being filled, and the
blocks that were conditioned and discarded. -/
structure Entropy where
  a : Noise
  b : Noise
  fill : Nat
  blocks : Nat
  discarded : Nat
deriving DecidableEq, Repr

/-- A source that has taken no sample. -/
def Entropy.reset : Entropy := ⟨Noise.reset, Noise.reset, 0, 0, 0⟩

/-- The Custodian. `testing` says that the start-up tests run; `nonce` is the nonce of the last SEC_NONCE, `badKeys` the regions whose key registers are unusable (R448), `keyCount` numbers the working keys. -/
structure Cus where
  ready : Bool
  es : EsSt
  testing : Bool
  certs : Bool
  dbg : DbgSt
  reqs : Nat
  reseeds : Nat
  esFails : Nat
  slots : Tbl KeySlot
  nonce : Option Nat
  queue : List CusReq
  badKeys : List Nat
  keyCount : Nat
  entropy : Entropy
deriving DecidableEq, Repr

/-- The Custodian before its start, as made (R437; DESIGN CHOICE log 5: slots empty, GEN 0). -/
def Cus.reset : Cus :=
  { ready := false, es := .off, testing := false, certs := false, dbg := .production, reqs := 0, reseeds := 0, esFails := 0, slots := [],
    nonce := none, queue := [], badKeys := [], keyCount := 0, entropy := Entropy.reset }

/-! The Ledger (spec/19) -/

/-- A Ledger record (R511); `count` above 1 is COALESCED. -/
structure LRec where
  type : Nat
  sev : Nat
  rolling : Bool
  seq : Nat
  first : Nat
  last : Nat
  count : Nat
  source : Nat
  owner : Nat
  object : Nat
  code : Nat
  arg : Nat
  value : Nat
deriving DecidableEq, Repr

/-- The Ledger's ring (R514): its records by position, the position of the next one, how many are held, how many have been
written since it was last emptied, and the number of the next record. -/
structure Ledger where
  recs : Tbl (Option LRec)
  next : Nat
  held : Nat
  total : Nat
  seq : Nat
deriving DecidableEq, Repr

/-- An empty Ledger. -/
def Ledger.empty : Ledger := ⟨[], 0, 0, 0, 0⟩

/-! SPDM and tenants (spec/17) -/

/-- A tenant session (R479, R481): its partition and its key registers by handle. `tsk` stands for the session key (log 8). -/
structure Tenant where
  part : Nat
  tsk : Nat
  keys : Tbl (Option Nat)
deriving DecidableEq, Repr

/-- An SPDM session (R475): its number, its transport (0 DOE, 1 MCTP), whether FINISH has established it, whether it carried
element 0x02 (R476), how often KEY_UPDATE has renewed its keys, its tenant session, and the ML-KEM shared secret followed by the
SPDM Export Master Secret (R479). -/
structure Session where
  id : Nat
  conn : Nat
  up : Bool
  hybrid : Bool
  gen : Nat
  tenant : Option Tenant
  secret : List Byte
deriving DecidableEq, Repr

/-- An SPDM connection (R475), by transport: how far GET_VERSION, GET_CAPABILITIES and NEGOTIATE_ALGORITHMS have led (0 to 3),
the bytes under the last ECDSA signature (R476), and the chunks of a large request and of a large response. -/
structure Spdm where
  stage : Nat
  signed : Option (List Byte)
  inBytes : List Byte
  outBytes : List Byte
deriving DecidableEq, Repr

/-- A connection before GET_VERSION. -/
def Spdm.reset : Spdm := ⟨0, none, [], []⟩

/-- A SEAL in gathering or done (R484): its extent, CHUNKS, LAST_BYTES, LABEL and key digest, the consent hashes matched with the sessions
that matched them, the time of the first request, and whether it has been performed. -/
structure SealReq where
  extent : Nat
  chunks : Nat
  last : Nat
  label : Nat
  digest : Nat
  matched : List (Nat × Nat)
  since : Nat
  done : Bool
deriving DecidableEq, Repr

/-! Firmware (spec/20) -/

/-- An image header as parsed (R539). -/
structure FwHdr where
  type : Nat
  keyId : Nat
  revoke : Nat
  version : Nat
  arb : Nat
  idMatch : Nat
  idMask : Nat
  payload : Nat
  sfr : Nat
  digest : Nat
  serial : Nat
  clean : Bool
deriving DecidableEq, Repr

/-- No image. -/
def FwHdr.none : FwHdr := ⟨0, 0, 0, 0, 0, 0, 0, 0, 0, 0, 0, true⟩

/-- States of a staging region (R559, Table 9). -/
inductive StgSt where
  | empty | landing | staged | activated | failed
deriving DecidableEq, Repr

/-- What the SPI NOR, the secure NVM and the running firmware hold of an image type (R538, R551, R559). `valid` says that the
active slot holds a whole image. -/
structure FwType where
  act : FwHdr
  valid : Bool
  stg : FwHdr
  stgSt : StgSt
  copy : Bool
  floor : Nat
  run : FwHdr
deriving DecidableEq, Repr

/-- A type as made (DESIGN CHOICE log 5: VERSION, ARB and floor 0; the SFR is R1's). -/
def FwType.reset : FwType := ⟨{ FwHdr.none with sfr := 3 }, true, FwHdr.none, .empty, false, 0, { FwHdr.none with sfr := 3 }⟩

/-- Where an image comes from (R541, R553). -/
inductive FwFrom where
  | desc (id : Nat)
  | pldm
  | dfu
deriving DecidableEq, Repr

/-- A transfer (R541 to R543): its source, the declared type, the length, the bytes that have come, the header once checked. -/
structure FwXfer where
  src : FwFrom
  type : Nat
  len : Nat
  bytes : List Byte
  hdr : Option FwHdr
deriving DecidableEq, Repr

/-- An activation (R548, R550): its type, the links still to switch, the descriptor that waits, whether some link has
switched, and whether link microcode follows it (R544). -/
structure FwAct where
  type : Nat
  links : List Nat
  desc : Option Nat
  some_ : Bool
  thenLinks : Bool
deriving DecidableEq, Repr

/-- States of a PLDM firmware device (R544). -/
inductive PldmSt where
  | idle | learn | ready | download | verify | apply | activate
deriving DecidableEq, Repr

/-- Firmware (R534 to R560). `revoked` is the revocation fuses, `dl` the status of the last download and `dlAt` its time. -/
structure FwSt where
  types : Tbl FwType
  lnkVer : Tbl Nat
  xfer : Option FwXfer
  act : Option FwAct
  revoked : Nat
  lastStatus : Nat
  lastOp : Nat
  lastType : Nat
  progress : Nat
  norWear : Bool
  norFail : Bool
  slow : Nat
  maxErase : Nat
  pldm : PldmSt
  pldmPrev : PldmSt
  comp : Nat
  piece : Nat
  dl : Nat
  dlAt : Option Nat
deriving DecidableEq, Repr

/-- Firmware as made. -/
def FwSt.reset : FwSt :=
  { types := [], lnkVer := [], xfer := none, act := none, revoked := 0, lastStatus := 0, lastOp := 0, lastType := 0, progress := 0,
    norWear := false, norFail := false, slow := 0, maxErase := 0, pldm := .idle, pldmPrev := .idle, comp := 0, piece := 2048,
    dl := 0, dlAt := none }

/-- What a start finds (R188, R516, R534, R551, R552, R555): which image types pass their checks, the spare rows of the banks,
which Ledger records fail their ECC, whether the button reads pressed, the sector erases of the copies as (sector, ms), and the
sectors that failed in a copy as (image type, sector). -/
structure StartMeas where
  passes : List Nat
  spares : List (Nat × Nat)
  badRecs : List Nat
  pressed : Bool
  erases : List (Nat × Nat)
  failed : List (Nat × Nat)
deriving DecidableEq, Repr

/-- How the module stands between its resets (R521 to R536, R552 to R554). `good` is power-good, `run` says that a start has
gone through, `warm` that the reset before it was a warm one, `cause` its cause, `pending` the cause of a warm reset under
notice. -/
structure Boot where
  good : Bool
  run : Bool
  ready : Bool
  stage : Nat
  recovery : Bool
  recovered : Bool
  copied : Bool
  warm : Bool
  cause : Nat
  pending : Option Nat
  shut : Bool
  prior : Option (Nat × Nat)
deriving DecidableEq, Repr

/-- Before the first start. -/
def Boot.reset : Boot :=
  { good := false, run := false, ready := false, stage := 0, recovery := false, recovered := false, copied := false, warm := false,
    cause := 0, pending := none, shut := false, prior := none }

/-! The host port's functions (spec/14) -/

/-- What a REGISTER_WRITE writes: `size` bytes at an offset of a function's BAR 0, a word of a mailbox page through VF `v` or, with
`mgr`, through PF0, a word of an MSI-X table, AtomicOp Requester Enable, the enable of Address Translation Services (R238), or the enable of the host link's IDE stream. -/
inductive RegTarget where
  | bar0 (fn : FnId) (addr : Fin 67108864) (size : Nat) (v : W64)
  | mailbox (mgr : Bool) (v : FnId) (off : Fin 4096) (x : W32)
  | msixTable (fn : FnId) (i : Fin 1024) (x : W32)
  | atomicEnable (fn : FnId) (on : Bool)
  | atsEnable (fn : FnId) (on : Bool)
  | ideStream (on : Bool)
deriving DecidableEq, Repr

/-- PCIe state (R372, R373, R375, R400, R535): whether the port answers configuration requests, the VFs enabled, the functions
whose AtomicOp Requester Enable is set, the IDE stream, the MSI-X tables by function × 1024 + 4 × vector + word, and the
vectors held in the PBAs by function × 256 + vector. -/
structure Pcie where
  up : Bool
  vfs : Nat
  atomic : List Nat
  ats : List Nat
  refused : List (Nat × Nat)
  hostDown : Bool
  ide : Bool
  msixT : Tbl Nat
  pba : Tbl Bool
deriving DecidableEq, Repr

/-- After a reset of the port. -/
def Pcie.reset : Pcie := ⟨false, 0, [], [], [], false, false, [], []⟩

/-! The panel, the input and the island (spec/21) -/

/-- The hot-swap switch (R563, R564). -/
inductive HotSwap where
  | open_ | charging | charged | retry | blocked
deriving DecidableEq, Repr

/-- States of the cell (R574, Table 7). -/
inductive CellSt where
  | absent | settling | charging | full | reversed | fault | disabled
deriving DecidableEq, Repr

/-- Tamper coverage (R576). -/
inductive Coverage where
  | full | mains | lapsed
deriving DecidableEq, Repr

/-- The panel, the DC input, the always-on island and the cell (R563 to R578). `rtcNs` is the real-time clock in ns; `open_` says
that a tamper switch reads open; `locSince` is the timestamp at which locate was last set; `forced` that the last hold of the
button has forced a reset; `tamperDue` counts the tamper events and the other Due fields mark what waits for the next start. -/
structure Panel where
  down : Bool
  forced : Bool
  stuck : Bool
  hardDue : Bool
  locSince : Nat
  dc : Bool
  swap : HotSwap
  under : Bool
  overV : Bool
  overDue : Bool
  rev : Bool
  revDue : Bool
  open_ : Bool
  rtcValid : Bool
  rtcNs : Nat
  powerLost : Bool
  lostDue : Bool
  source : Nat
  tampers : Nat
  tamperTime : Nat
  tamperDue : Nat
  cell : CellSt
  mv : Nat
  cur : Nat
  cov : Coverage
deriving DecidableEq, Repr

/-- Before the first DC input and without a cell: the island has had no power yet (R583; DESIGN CHOICE log 45). -/
def Panel.reset : Panel :=
  { down := false, forced := false, stuck := false, hardDue := false, locSince := 0, dc := false, swap := .open_, under := false,
    overV := false, overDue := false, rev := false, revDue := false, open_ := false, rtcValid := false, rtcNs := 0,
    powerLost := false, lostDue := true, source := 0, tampers := 0, tamperTime := 0, tamperDue := 0, cell := .absent, mv := 0,
    cur := 0, cov := .full }

end Sys2Proof.Machine
end

