-- ==== Sys2Proof/Syntax.lean ====
section
/-! DEFINITION. The commands of the module: one constructor per row of spec/opcode_table.json, in its order, with the operands
that the rows' events carry (log 1). Types of operands are those of the state files. -/
namespace Sys2Proof

open Machine

/-- The commands. A step of the front end (`nop` to `snapshot` families) names its core and its 128-bit word (R110); `upset` is a
scratchpad byte in which a read meets an uncorrectable error; a command on a descriptor names the ring in which it is next (log 1).
What a command observes (a measurement, a check that passed, a choice the rules leave to a unit) is an operand. -/
inductive Instr where
  /-- NOP (R110) -/
  | nop (c : CoreId) (w : StepWord)
  /-- END (R137) -/
  | endCmd (c : CoreId) (w : StepWord)
  /-- LOOP (R117) -/
  | loop (c : CoreId) (w : StepWord)
  /-- VSEL (R119) -/
  | vsel (c : CoreId) (w : StepWord)
  /-- PHASE (R126) -/
  | phase (c : CoreId) (w : StepWord)
  /-- REBIND (R128) -/
  | rebind (c : CoreId) (w : StepWord)
  /-- FENCE (R109) -/
  | fence (c : CoreId) (w : StepWord)
  /-- LOADB (R81) -/
  | loadb (c : CoreId) (w : StepWord) (upset : Option (Fin 1048576))
  /-- MMA (R81) -/
  | mma (c : CoreId) (w : StepWord) (upset : Option (Fin 1048576))
  /-- ZERO (R81) -/
  | zero (c : CoreId) (w : StepWord)
  /-- DRAIN (R81) -/
  | drain (c : CoreId) (w : StepWord)
  /-- VFMA (R85) -/
  | vfma (c : CoreId) (w : StepWord)
  /-- VADD (R85) -/
  | vadd (c : CoreId) (w : StepWord)
  /-- VSUB (R85) -/
  | vsub (c : CoreId) (w : StepWord)
  /-- VMUL (R85) -/
  | vmul (c : CoreId) (w : StepWord)
  /-- VNEG (R85) -/
  | vneg (c : CoreId) (w : StepWord)
  /-- VABS (R85) -/
  | vabs (c : CoreId) (w : StepWord)
  /-- VMIN (R589) -/
  | vmin (c : CoreId) (w : StepWord)
  /-- VMAX (R589) -/
  | vmax (c : CoreId) (w : StepWord)
  /-- VCMP (R589) -/
  | vcmp (c : CoreId) (w : StepWord)
  /-- VSELECT (R589) -/
  | vselect (c : CoreId) (w : StepWord)
  /-- VINT (R112) -/
  | vint (c : CoreId) (w : StepWord)
  /-- VCVT (R590) -/
  | vcvt (c : CoreId) (w : StepWord)
  /-- VRED (R589) -/
  | vred (c : CoreId) (w : StepWord)
  /-- VPERM (R589) -/
  | vperm (c : CoreId) (w : StepWord)
  /-- VLD (R112) -/
  | vld (c : CoreId) (w : StepWord) (upset : Option (Fin 1048576))
  /-- VST (R112) -/
  | vst (c : CoreId) (w : StepWord)
  /-- VTRN (R87) -/
  | vtrn (c : CoreId) (w : StepWord)
  /-- SETSEL (R113) -/
  | setsel (c : CoreId) (w : StepWord)
  /-- VIMM (R589) -/
  | vimm (c : CoreId) (w : StepWord)
  /-- LS (R94) -/
  | ls (c : CoreId) (w : StepWord) (upset : Option (Fin 1048576))
  /-- COPY (R95) -/
  | copy (c : CoreId) (w : StepWord) (upset : Option (Fin 1048576))
  /-- GATHER (R148) -/
  | gather (c : CoreId) (w : StepWord)
  /-- SCATTER (R148) -/
  | scatter (c : CoreId) (w : StepWord)
  /-- DISPATCH (R158) -/
  | dispatch (c : CoreId) (w : StepWord)
  /-- COPYT (R95) -/
  | copyt (c : CoreId) (w : StepWord)
  /-- LCOPY (R114) -/
  | lcopy (c : CoreId) (w : StepWord) (f : Fin 16)
  /-- BUCKET_COUNT_TRANSFER (R168) -/
  | bucketCountTransfer (c : CoreId) (w : StepWord)
  /-- ALLOCATION (R369) -/
  | allocation (c : CoreId) (w : StepWord) (picks : List (Nat × Nat))
  /-- FREE (R370) -/
  | free (c : CoreId) (w : StepWord)
  /-- POOL_PAGE_CLEAR_DONE (R370) -/
  | poolPageClearDone (pg : Fin 16384)
  /-- TRANSFER_COMPLETION (R95) -/
  | transferCompletion (e : XferEngineId)
  /-- WRITE_ACKNOWLEDGEMENT (R593) -/
  | writeAcknowledgement (e : XferEngineId) (core : Nat) (seq : Nat)
  /-- WAIT (R312) -/
  | wait (c : CoreId) (w : StepWord)
  /-- WAKE (R312) -/
  | wake (c : CoreId) (wire : Fin 8)
  /-- SIGNAL (R314) -/
  | signal (c : CoreId) (w : StepWord)
  /-- BARRIER (R321) -/
  | barrier (c : CoreId) (w : StepWord)
  /-- BROADCAST (R321) -/
  | broadcast (c : CoreId) (w : StepWord)
  /-- REDUCE_ADD (R326) -/
  | reduceAdd (c : CoreId) (w : StepWord)
  /-- CONSISTENT_SNAPSHOT (R327) -/
  | consistentSnapshot (c : CoreId) (w : StepWord)
  /-- SNAPSHOT_CUT (R327) -/
  | snapshotCut (p : PartId) (g : Fin 65536)
  /-- GOP (R324) -/
  | gop (link : LinkId) (f : Flit)
  /-- COMPOSITION_RESET (R524) -/
  | compositionReset (p : PartId) (cause : ResetCause)
  /-- RESET_HOLD_END (R524) -/
  | resetHoldEnd (p : PartId)
  /-- RESET_CONFIRM_TIMEOUT (R524) -/
  | resetConfirmTimeout (p : PartId)
  /-- LAUNCH_COMPLETE (R137) -/
  | launchComplete (p : PartId)
  /-- BUCKET_REQUEST (R160) -/
  | bucketRequest (h : HdrAddr) (r : BucketReq)
  /-- BUCKET_GRANT (R158) -/
  | bucketGrant (e : EngineId) (core : Nat) (seq : Nat) (bucket : Nat) (first : Nat) (granted : Nat) (policy : Nat)
  /-- BUCKET_DONE (R159) -/
  | bucketDone (h : HdrAddr)
  /-- ZERO_FILL_ACKNOWLEDGED (R159) -/
  | zeroFillAcknowledged (h : HdrAddr)
  /-- OBJECT_ADD (R308) -/
  | objectAdd (n : ObjId) (amount : Fin 256) (srcKind : Fin 2) (src : CoreId)
  /-- OBJECT_JOIN (R309) -/
  | objectJoin (n : ObjId) (c : CoreId) (wire : Fin 8)
  /-- SIG_ACK_TIMEOUT (R316) -/
  | sigAckTimeout (tag : Fin 65536)
  /-- DBG_SET (R319) -/
  | dbgSet (fn : FnId) (p : PartId)
  /-- DBG_ADD (R319) -/
  | dbgAdd (fn : FnId) (p : PartId)
  /-- DBG_RELEASE (R319) -/
  | dbgRelease (fn : FnId) (p : PartId)
  /-- DBG_CLEAR_FAULT (R319) -/
  | dbgClearFault (fn : FnId) (p : PartId)
  /-- STATE_DUMP (R320) -/
  | stateDump
  /-- STATE_DUMP_END (R320) -/
  | stateDumpEnd (ok : Bool)
  /-- MEM_WRITE (R178) -/
  | memWrite (me : ReqInfo) (others : List ReqInfo) (ipa : Fin 281474976710656) (a : Fin 4398046511104) (bs : List Byte) (ecc : Ecc)
  /-- MEM_READ (R182) -/
  | memRead (me : ReqInfo) (others : List ReqInfo) (ipa : Fin 281474976710656) (a : Fin 4398046511104) (n : Nat) (ecc : Ecc)
  /-- SCRUB_READ (R184) -/
  | scrubRead (ecc : Ecc) (raced : Bool) (heavy : Bool)
  /-- REFRESH (R180) -/
  | refresh (ch : ChannelId)
  /-- STACK_TEMP_READ (R180) -/
  | stackTempRead (st : StackId) (temp : Fin 256)
  /-- WAY_MOVE_DONE (R193) -/
  | wayMoveDone (g : GroupId) (w : Fin 16)
  /-- SELF_REFRESH_EXIT (R197) -/
  | selfRefreshExit (g : GroupId)
  /-- REGION_CLEAR_DONE (R466) -/
  | regionClearDone (q : RegionId) (zeroised : Bool)
  /-- GROUP_LEVEL_SAMPLE (R203) -/
  | groupLevelSample (g : GroupId) (level : Fin 129)
  /-- TOKEN_REFILL (R205) -/
  | tokenRefill (m : PortId)
  /-- URGENCY_CHANGE (R209) -/
  | urgencyChange (m : PortId) (measured : Nat)
  /-- REQUEST_AGE_PROMOTE (R201) -/
  | requestAgePromote (m : PortId) (p : PartId) (a : Fin 4398046511104)
  /-- MONITOR_WINDOW_CLOSE (R215) -/
  | monitorWindowClose (g : GroupId) (busy : Bool) (ws : List Window)
  /-- WALK_END (R228) -/
  | walkEnd (m : EngPort) (p : PartId) (va : Fin 4503599627370496) (write : Bool) (hostErr : Bool)
  /-- XLT_INV_CMD (R231) -/
  | xltInvCmd (p : PartId) (cmd : W64) (viaVf : Bool)
  /-- INVALIDATION_DONE (R232) -/
  | invalidationDone (p : PartId)
  /-- XLT_INV_STAT_READ (R246) -/
  | xltInvStatRead (p : PartId)
  /-- ATS_INVALIDATION_REQUEST (R238) -/
  | atsInvalidationRequest (fn : FnId) (iova : W64) (size : W64)
  /-- ATS_TRANSLATION_COMPLETION (R238) -/
  | atsTranslationCompletion (fn : FnId) (iova : W64) (size : W64) (target : W64) (hostOn : Bool)
  /-- WR (R288) -/
  | wr (f : Flit)
  /-- WRM (R287) -/
  | wrm (f : Flit)
  /-- RD (R288) -/
  | rd (f : Flit)
  /-- SIG (R292) -/
  | sig (f : Flit)
  /-- ACK (R288) -/
  | ack (f : Flit)
  /-- RDATA (R288) -/
  | rdata (f : Flit)
  /-- REFUSE (R287) -/
  | refuse (f : Flit)
  /-- TRANSACTION_VISIBLE (R288) -/
  | transactionVisible (src : Fin 16384) (tag : Fin 65536)
  /-- WINDOW_TIMEOUT (R245) -/
  | windowTimeout (tag : Fin 65536)
  /-- OUTBOUND_OPEN (R242) -/
  | outboundOpen (e : WindowId) (part : PartId) (target : Fin 16384) (window : WindowId) (gen : Fin 256) (size : Fin 65536) (vwin : WindowId) (r : Bool) (w : Bool)
  /-- WINDOW_REVOKE (R243) -/
  | windowRevoke (w : WindowId)
  /-- REVOKE_DRAINED (R243) -/
  | revokeDrained (w : WindowId)
  /-- OUTBOUND_CLEAR (R243) -/
  | outboundClear (e : WindowId)
  /-- CAGE_PRESENCE_GAINED (R263) -/
  | cagePresenceGained (c : CageId)
  /-- CAGE_PRESENCE_LOST (R263) -/
  | cagePresenceLost (c : CageId)
  /-- CAGE_RAMP_END (R261) -/
  | cageRampEnd (c : CageId) (mv : Fin 65536) (ma : Fin 65536) (limiting : Bool) (cable : CableId)
  /-- CAGE_CURRENT_LIMIT (R262) -/
  | cageCurrentLimit (c : CageId)
  /-- CAGE_OVERLOAD (R262) -/
  | cageOverload (c : CageId)
  /-- RETRY_WAIT_END (R262) -/
  | retryWaitEnd (c : CageId)
  /-- FAILS_CLEAR (R262) -/
  | failsClear (c : CageId)
  /-- LATCH_CLR (R262) -/
  | latchClr (c : CageId)
  /-- POWER_EN (R264) -/
  | powerEn (c : CageId) (on : Bool)
  /-- CMIS_READY (R260) -/
  | cmisReady (c : CageId) (application : Bool)
  /-- CMIS_READY_TIMEOUT (R260) -/
  | cmisReadyTimeout (c : CageId)
  /-- CMIS_FLAG_READ (R260) -/
  | cmisFlagRead (c : CageId) (flags : W32)
  /-- SIGNAL_DETECT (R250) -/
  | signalDetect (i : LinkId)
  /-- EQUALISE_DONE (R250) -/
  | equaliseDone (i : LinkId) (pol0 : Bool) (pol1 : Bool)
  /-- ALIGN_LOCK (R250) -/
  | alignLock (i : LinkId) (swap : Bool)
  /-- TRAINING_TIMEOUT (R250) -/
  | trainingTimeout (i : LinkId)
  /-- DETECT_RETRY (R250) -/
  | detectRetry (i : LinkId)
  /-- NO_SIGNAL_LANE (R252) -/
  | noSignalLane (i : LinkId) (lane : Fin 2)
  /-- QUARANTINE_EXIT (R257) -/
  | quarantineExit (i : LinkId)
  /-- LOSS_OF_LOCK (R253) -/
  | lossOfLock (i : LinkId)
  /-- FEC_EXCESS (R253) -/
  | fecExcess (i : LinkId)
  /-- HELLO_SEND (R254) -/
  | helloSend (i : LinkId)
  /-- HELLO (R255) -/
  | hello (i : LinkId) (h : Hello) (mac : W64)
  /-- LNK_EXPECT (R255) -/
  | lnkExpect (i : LinkId) (v : W32)
  /-- QUAR_CLEAR (R258) -/
  | quarClear (i : LinkId)
  /-- RETRAIN (R269) -/
  | retrain (i : LinkId)
  /-- QUAR_FORCE (R257) -/
  | quarForce (i : LinkId) (on : Bool)
  /-- ENABLE (R249) -/
  | enable (i : LinkId) (on : Bool)
  /-- TOUCH (R265) -/
  | touch (c : CageId)
  /-- ATTN_REQ (R265) -/
  | attnReq (c : CageId)
  /-- RELEASE (R266) -/
  | release (c : CageId)
  /-- CANCEL (R267) -/
  | cancel (c : CageId)
  /-- ATTN_TIMEOUT (R267) -/
  | attnTimeout (c : CageId)
  /-- ATTN_DRAIN_END (R265) -/
  | attnDrainEnd (c : CageId)
  /-- CABLE_LOW_POWER (R265) -/
  | cableLowPower (c : CageId)
  /-- CAGE_SAFE (R265) -/
  | cageSafe (c : CageId)
  /-- KEY_STUCK (R569) -/
  | keyStuck (k : Fin 25)
  /-- KEY_UNSTUCK (R569) -/
  | keyUnstuck (k : Fin 25)
  /-- BUNDLE (R273) -/
  | bundle (i : LinkId) (tag : BitVec 128) (corrected : Fin 256) (body : List Byte)
  /-- EPOCH (R298) -/
  | epoch (i : LinkId) (active : W32) (staged : W32) (ready : Bool) (cctr : Fin (2 ^ 48)) (mac : W64)
  /-- CREDIT_ACK (R283) -/
  | creditAck (i : LinkId) (payload : BitVec 128) (cctr : Fin (2 ^ 48)) (mac : W64)
  /-- REPLAY_REQ (R284) -/
  | replayReq (i : LinkId) (next : Fin 65536) (cctr : Fin (2 ^ 48)) (mac : W64)
  /-- REPLAY_START (R284) -/
  | replayStart (i : LinkId) (first : Fin 65536) (ctr : Fin (2 ^ 48)) (cctr : Fin (2 ^ 48)) (mac : W64)
  /-- TIME (R279) -/
  | time (i : LinkId) (payload : BitVec 128) (frac : Fin 16) (cctr : Fin (2 ^ 48)) (mac : W64)
  /-- IDLE (R276) -/
  | idle (i : LinkId)
  /-- CREDIT_ACK_SEND (R278) -/
  | creditAckSend (i : LinkId)
  /-- EPOCH_SEND (R278) -/
  | epochSend (i : LinkId)
  /-- TIME_SEND (R278) -/
  | timeSend (i : LinkId) (frac : Fin 16)
  /-- REPLAY_REQ_REPEAT (R284) -/
  | replayReqRepeat (i : LinkId)
  /-- FLIT_AGED (R290) -/
  | flitAged (i : LinkId) (n : Fin 65536)
  /-- WRITE_ABANDON (R290) -/
  | writeAbandon (src : Fin 16384) (tag : Fin 65536)
  /-- COMMIT (R298) -/
  | commit
  /-- STAGE_READY (R298) -/
  | stageReady (on : Bool)
  /-- FAB_ID (R304) -/
  | fabId (v : W32)
  /-- FAB_CNT_CLEAR (R304) -/
  | fabCntClear (v : W32)
  /-- FAB_TS_CTRL (R49) -/
  | fabTsCtrl (v : W32)
  /-- FAB_TS_SET (R43) -/
  | fabTsSet (v : W64)
  /-- TIME_LOCK (R42) -/
  | timeLock
  /-- HOLDOVER_ENTRY (R42) -/
  | holdoverEntry
  /-- HOLDOVER_EXPIRY (R42) -/
  | holdoverExpiry
  /-- ROOT_CONFLICT_CLEAR (R46) -/
  | rootConflictClear
  /-- TIMESTAMP_DISTRIBUTE (R40) -/
  | timestampDistribute
  /-- BIND_RESERVE (R349) -/
  | bindReserve (from_ : BindFrom)
  /-- BIND_SEAL (R350) -/
  | bindSeal (from_ : BindFrom) (plan : PlaceSpec)
  /-- BIND_ENVELOPE_UPDATE (R354) -/
  | bindEnvelopeUpdate (from_ : BindFrom)
  /-- BIND_REBIND (R358) -/
  | bindRebind (from_ : BindFrom)
  /-- BIND_DISSOLVE (R357) -/
  | bindDissolve (from_ : BindFrom)
  /-- REBIND_REQUEST (R358) -/
  | rebindRequest (p : PartId)
  /-- REBIND_PLAN_DONE (R358) -/
  | rebindPlanDone (p : PartId) (result : Fin 16) (plan : PlaceSpec)
  /-- PREPARE (R349) -/
  | prepare (env : List Byte)
  /-- PLACE (R350) -/
  | place (p : PartId) (plan : PlaceSpec)
  /-- CURATOR_SEAL (R350) -/
  | curatorSeal (p : PartId) (cat : List Byte)
  /-- RESUME (R361) -/
  | resume (p : PartId)
  /-- DISSOLVE (R357) -/
  | dissolve (p : PartId)
  /-- MEMBER_REPORT (R349) -/
  | memberReport (p : PartId) (fid : Fin 16384) (rep : Report)
  /-- MEMBER_TIMEOUT (R352) -/
  | memberTimeout (p : PartId)
  /-- CURATOR_MESSAGE_RETRY (R338) -/
  | curatorMessageRetry (p : PartId) (fid : Fin 16384)
  /-- SWITCH_IN_REQUEST (R364) -/
  | switchInRequest (p : PartId) (at_ : W64)
  /-- QUANTUM_EXPIRY (R363) -/
  | quantumExpiry (p : PartId)
  /-- CMP_POOL_ADD (R367) -/
  | cmpPoolAdd (v : W32)
  /-- CMP_POOL_REMOVE (R367) -/
  | cmpPoolRemove (v : W32)
  /-- SQ_DOORBELL (R380) -/
  | sqDoorbell (fn : FnId) (r : Fin 16) (v : Fin 65536)
  /-- CQ_DOORBELL (R380) -/
  | cqDoorbell (fn : FnId) (q : Fin 16) (v : Fin 65536)
  /-- DESCRIPTOR_FETCH (R382) -/
  | descriptorFetch (fn : FnId) (r : Fin 16) (ok : Bool)
  /-- DESC_NOP (R388) -/
  | descNop (fn : FnId) (r : Fin 16)
  /-- LOAD (R389) -/
  | load (from_ : LoadFrom) (pl : SlotPlace)
  /-- UNLOAD (R389) -/
  | unload (from_ : SlotFrom)
  /-- LAUNCH (R390) -/
  | launch (from_ : SlotFrom)
  /-- COPY_LINEAR (R391) -/
  | copyLinear (fn : FnId) (r : Fin 16) (e : EngineId)
  /-- COPY_DESCRIBED (R391) -/
  | copyDescribed (fn : FnId) (r : Fin 16) (e : EngineId) (ok : Bool)
  /-- HOST_SIGNAL (R393) -/
  | hostSignal (fn : FnId) (r : Fin 16)
  /-- HOST_WAIT (R394) -/
  | hostWait (fn : FnId) (r : Fin 16)
  /-- HOST_WAIT_TIMEOUT (R394) -/
  | hostWaitTimeout (id : Nat)
  /-- QUIESCE_DRAIN (R424) -/
  | quiesceDrain (r : Fin 16)
  /-- QUIESCE_DRAIN_END (R424) -/
  | quiesceDrainEnd (v : Fin 33)
  /-- QUIESCE_TIMEOUT (R423) -/
  | quiesceTimeout (v : Fin 33)
  /-- QUIESCE_ABORT (R424) -/
  | quiesceAbort (r : Fin 16)
  /-- QUIESCE_RESUME (R425) -/
  | quiesceResume (r : Fin 16)
  /-- FETCHADD_COMPLETE (R411) -/
  | fetchaddComplete (n : Nat) (ok : Bool)
  /-- COALESCE_TIMEOUT (R400) -/
  | coalesceTimeout (fn : FnId) (q : Fin 16)
  /-- CMIS_READ (R398) -/
  | cmisRead (r : Fin 16) (got : Option (List Byte))
  /-- INST_CREATE (R416) -/
  | instCreate (r : Fin 16)
  /-- INST_REMOVE (R416) -/
  | instRemove (r : Fin 16)
  /-- INST_RESET (R416) -/
  | instReset (r : Fin 16)
  /-- INST_STATUS (R416) -/
  | instStatus (r : Fin 16)
  /-- FLR (R374) -/
  | flr (fn : FnId)
  /-- PCIE_RESET (R526) -/
  | pcieReset
  /-- HIF_SQ_CFG (R379) -/
  | hifSqCfg (fn : FnId) (r : Fin 16) (v : W32)
  /-- HIF_CQ_CFG (R379) -/
  | hifCqCfg (fn : FnId) (q : Fin 16) (v : W32)
  /-- PERST_DEASSERT (R535) -/
  | perstDeassert
  /-- SET_ENDPOINT_ID (R402) -/
  | setEndpointId (bus : Fin 2) (op : Fin 4) (eid : Fin 256)
  /-- GET_ENDPOINT_ID (R402) -/
  | getEndpointId (bus : Fin 2)
  /-- GET_ENDPOINT_UUID (R402) -/
  | getEndpointUuid (bus : Fin 2)
  /-- GET_MCTP_VERSION_SUPPORT (R402) -/
  | getMctpVersionSupport (bus : Fin 2) (type : Fin 256)
  /-- GET_MESSAGE_TYPE_SUPPORT (R402) -/
  | getMessageTypeSupport (bus : Fin 2)
  /-- GET_VDM_SUPPORT (R402) -/
  | getVdmSupport (bus : Fin 2) (selector : Fin 256)
  /-- REG_READ (R404) -/
  | regRead (bus : Fin 2) (seq : Fin 256) (block : Fin 256) (off : W32) (count : Fin 256)
  /-- REG_WRITE (R404) -/
  | regWrite (bus : Fin 2) (session : Option (Fin 65536)) (seq : Fin 256) (block : Fin 256) (off : W32) (ws : List W32)
  /-- MCTP_BIND (R404) -/
  | mctpBind (bus : Fin 2) (session : Option (Fin 65536)) (seq : Fin 256) (head : List Byte) (total : Nat) (off : Nat) (bytes : List Byte)
  /-- EVENT_ACK (R405) -/
  | eventAck (bus : Fin 2) (seq : Fin 256)
  /-- MCTP_CMIS_READ (R403) -/
  | mctpCmisRead (bus : Fin 2) (seq : Fin 256) (arg : W32) (n : Fin 256) (got : Option (List Byte))
  /-- EVENT_REPEAT (R405) -/
  | eventRepeat (seq : Fin 256)
  /-- CTX_CREATE (R419) -/
  | ctxCreate (v : Fin 33)
  /-- CTX_DESTROY (R419) -/
  | ctxDestroy (v : Fin 33)
  /-- CTX_RESET (R522) -/
  | ctxReset (v : Fin 33)
  /-- CATALOGUE_READ (R419) -/
  | catalogueRead (v : Fin 33) (ok : Bool)
  /-- INFO (R419) -/
  | info (v : Fin 33)
  /-- MB_TOMGR_DB (R418) -/
  | mbTomgrDb (v : Fin 33)
  /-- MB_TOMGR_ACK (R418) -/
  | mbTomgrAck (v : Fin 33)
  /-- MB_TOINST_DB (R418) -/
  | mbToinstDb (v : Fin 33)
  /-- MB_TOINST_ACK (R418) -/
  | mbToinstAck (v : Fin 33)
  /-- MB_EVT_HEAD (R421) -/
  | mbEvtHead (v : Fin 33) (x : Fin 256)
  /-- SEC_RANDOM (R445) -/
  | secRandom (r : Fin 16)
  /-- SEC_SLOT_INFO (R445) -/
  | secSlotInfo (r : Fin 16) (ok : Bool)
  /-- SEC_SLOT_GENERATE (R441) -/
  | secSlotGenerate (r : Fin 16) (pulses : Fin 256)
  /-- SEC_SLOT_IMPORT (R441) -/
  | secSlotImport (r : Fin 16) (ok : Bool) (pulses : Fin 256)
  /-- SEC_SLOT_DESTROY (R443) -/
  | secSlotDestroy (r : Fin 16) (ok : Bool) (pulses : Fin 256)
  /-- SEC_CERTS (R445) -/
  | secCerts (r : Fin 16)
  /-- SEC_NONCE (R435) -/
  | secNonce (r : Fin 16)
  /-- SEC_DEBUG_TOKEN (R435) -/
  | secDebugToken (r : Fin 16) (sig : Bool) (nonce : Nat)
  /-- SEC_DEBUG_RETURN (R437) -/
  | secDebugReturn (r : Fin 16)
  /-- GLITCH (R430) -/
  | glitch
  /-- ENTROPY_STARTUP_DONE (R450) -/
  | entropyStartupDone (pass : Bool)
  /-- HEALTH_TEST_FAIL (R453) -/
  | healthTestFail
  /-- RETEST_WAIT_END (R453) -/
  | retestWaitEnd
  /-- DRBG_RESEED (R452) -/
  | drbgReseed
  /-- ALIAS_CERT_ISSUE (R433) -/
  | aliasCertIssue
  /-- REGION_REKEY (R464) -/
  | regionRekey (q : RegionId)
  /-- REENCRYPT_DONE (R464) -/
  | reencryptDone (q : RegionId) (bad : List Nat) (zeroed : Bool)
  /-- REKEY_INIT (R469) -/
  | rekeyInit (i : LinkId) (m : RekeyMsg) (cctrs : List Nat) (macs : List Nat)
  /-- REKEY_RESP (R469) -/
  | rekeyResp (i : LinkId) (m : RekeyMsg) (cctrs : List Nat) (macs : List Nat)
  /-- REKEY_CERT (R470) -/
  | rekeyCert (i : LinkId) (m : RekeyMsg) (chains : Bool) (debug : Bool) (cctrs : List Nat) (macs : List Nat)
  /-- REKEY_SIGN (R470) -/
  | rekeySign (i : LinkId) (m : RekeyMsg) (ok : Bool) (cctrs : List Nat) (macs : List Nat)
  /-- REKEY_ACK (R468) -/
  | rekeyAck (i : LinkId) (xid : Fin 256) (msg : Fin 8) (cctr : Fin (2 ^ 48)) (mac : W64)
  /-- REKEY_SWITCH (R472) -/
  | rekeySwitch (i : LinkId) (xid : Fin 256) (epoch : W32) (cctr : Fin (2 ^ 48)) (mac : W64)
  /-- REKEY_ABORT (R470) -/
  | rekeyAbort (i : LinkId) (xid : Fin 256) (cctr : Fin (2 ^ 48)) (mac : W64)
  /-- REKEY_RESEND (R468) -/
  | rekeyResend (i : LinkId)
  /-- KEYING_RETRY (R470) -/
  | keyingRetry (i : LinkId)
  /-- ROLLOVER_START (R471) -/
  | rolloverStart (i : LinkId)
  /-- COUNTER_STOP (R473) -/
  | counterStop (i : LinkId)
  /-- GET_VERSION (R475) -/
  | getVersion (c : Fin 2)
  /-- GET_CAPABILITIES (R475) -/
  | getCapabilities (c : Fin 2)
  /-- NEGOTIATE_ALGORITHMS (R475) -/
  | negotiateAlgorithms (c : Fin 2) (common : Bool)
  /-- GET_DIGESTS (R475) -/
  | getDigests (c : Fin 2)
  /-- GET_CERTIFICATE (R475) -/
  | getCertificate (c : Fin 2) (slot : Fin 8) (off : Fin 65536) (len : Fin 65536)
  /-- CHALLENGE (R475) -/
  | challenge (c : Fin 2) (nonce : Fin (2 ^ 256))
  /-- GET_MEASUREMENTS (R475) -/
  | getMeasurements (c : Fin 2) (k : Fin 256) (sign : Bool)
  /-- KEY_EXCHANGE (R476) -/
  | keyExchange (c : Fin 2) (hybrid : Bool)
  /-- FINISH (R475) -/
  | finish (c : Fin 2) (id : Fin 65536) (ok : Bool)
  /-- HEARTBEAT (R475) -/
  | heartbeat (c : Fin 2) (id : Fin 65536)
  /-- HEARTBEAT_MISSED (R475) -/
  | heartbeatMissed (id : Fin 65536)
  /-- KEY_UPDATE (R475) -/
  | keyUpdate (c : Fin 2) (id : Fin 65536)
  /-- END_SESSION (R475) -/
  | endSession (c : Fin 2) (id : Fin 65536)
  /-- CHUNK_SEND (R475) -/
  | chunkSend (c : Fin 2) (last : Bool) (bytes : List Byte)
  /-- CHUNK_GET (R475) -/
  | chunkGet (c : Fin 2) (n : Fin 65536)
  /-- GET_ML_CHAIN (R480) -/
  | getMlChain (c : Fin 2) (off : W32) (len : Fin 65536)
  /-- GET_PROVENANCE (R477) -/
  | getProvenance (c : Fin 2) (comp : W32) (nonce : Fin (2 ^ 256))
  /-- GET_PQ_SIG (R476) -/
  | getPqSig (c : Fin 2)
  /-- OPEN_TENANT (R479) -/
  | openTenant (c : Fin 2) (id : Fin 65536) (comp : W32)
  /-- DELIVER_KEY (R481) -/
  | deliverKey (c : Fin 2) (id : Fin 65536) (h : Fin 256) (wrapped : List Byte)
  /-- DROP_KEY (R480) -/
  | dropKey (c : Fin 2) (id : Fin 65536) (h : Fin 256)
  /-- UNSEAL (R483) -/
  | unsealCmd (c : Fin 2) (id : Fin 65536) (h : Fin 256) (va : W64) (hash : Fin (2 ^ 384))
  /-- SEAL (R484) -/
  | sealCmd (c : Fin 2) (id : Fin 65536) (h : Fin 256) (va : W64) (chunks : W32) (last : W32) (label : W64) (secrets : List (List Byte))
  /-- SEAL_CONSENT_EXPIRY (R484) -/
  | sealConsentExpiry (p : PartId)
  /-- CLOSE_TENANT (R479) -/
  | closeTenant (c : Fin 2) (id : Fin 65536)
  /-- GET_TDISP_VERSION (R486) -/
  | getTdispVersion (id : Fin 65536) (v : FnId)
  /-- GET_TDISP_CAPABILITIES (R486) -/
  | getTdispCapabilities (id : Fin 65536) (v : FnId)
  /-- LOCK_INTERFACE_REQUEST (R486) -/
  | lockInterfaceRequest (id : Fin 65536) (v : FnId)
  /-- GET_DEVICE_INTERFACE_REPORT (R486) -/
  | getDeviceInterfaceReport (id : Fin 65536) (v : FnId)
  /-- GET_DEVICE_INTERFACE_STATE (R486) -/
  | getDeviceInterfaceState (id : Fin 65536) (v : FnId)
  /-- START_INTERFACE_REQUEST (R486) -/
  | startInterfaceRequest (id : Fin 65536) (v : FnId) (nonce : Fin (2 ^ 256))
  /-- STOP_INTERFACE_REQUEST (R486) -/
  | stopInterfaceRequest (id : Fin 65536) (v : FnId)
  /-- CONTROL_PERIOD (R494) -/
  | controlPeriod (m : PeriodMeas)
  /-- VOLTAGE_REACHED (R491) -/
  | voltageReached (k : ClusterId)
  /-- DROOP_TRIP (R502) -/
  | droopTrip (k : ClusterId)
  /-- THERMAL_SHUTDOWN (R505) -/
  | thermalShutdown (sensor : Fin 65536)
  /-- BACKSTOP_ENTRY (R506) -/
  | backstopEntry
  /-- BACKSTOP_PERIOD (R506) -/
  | backstopPeriod (m : PeriodMeas)
  /-- PWR_CAP (R496) -/
  | pwrCap (mctp : Bool) (v : W32)
  /-- PWR_SLACK_CLEAR (R508) -/
  | pwrSlackClear (v : W32)
  /-- LEDGER_EVENT (R513) -/
  | ledgerEvent
  /-- LEDGER_READ (R517) -/
  | ledgerRead (r : Fin 16)
  /-- LEDGER_CLEAR (R517) -/
  | ledgerClear (r : Fin 16)
  /-- WATCHDOG_FIRE (R519) -/
  | watchdogFire (p : PartId)
  /-- SAMPLE (R520) -/
  | sample (p : PartId)
  /-- SAMPLE_END (R520) -/
  | sampleEnd (p : PartId) (ok : Bool)
  /-- COMP_RESET (R524) -/
  | compReset (p : PartId)
  /-- ERR_CTX_RESET (R522) -/
  | errCtxReset (w : W32)
  /-- COMPUTE_PART_RESET (R523) -/
  | computePartReset
  /-- MODULE_WARM_RESET (R525) -/
  | moduleWarmReset (mctp : Bool)
  /-- MODULE_HARD_RESET (R521) -/
  | moduleHardReset (mctp : Bool)
  /-- SVC_RESET_ACK (R525) -/
  | svcResetAck (mctp : Bool)
  /-- RESET_NOTICE_EXPIRY (R525) -/
  | resetNoticeExpiry
  /-- MGMT_WATCHDOG (R529) -/
  | mgmtWatchdog
  /-- POWER_GOOD (R534) -/
  | powerGood (m : StartMeas)
  /-- IMAGE_HEADER (R542) -/
  | imageHeader (sig : Bool)
  /-- IMAGE_LANDED (R543) -/
  | imageLanded (tag : Bool) (es : List (Nat × Nat))
  /-- FW_STAGE (R545) -/
  | fwStage (r : Fin 16) (ok : Bool)
  /-- FW_ACTIVATE (R547) -/
  | fwActivate (r : Fin 16) (sig : Bool) (payload : Bool)
  /-- FW_CANCEL (R545) -/
  | fwCancel (r : Fin 16)
  /-- MGMT_IMAGE_READY (R548) -/
  | mgmtImageReady
  /-- MGMT_READY_TIMEOUT (R548) -/
  | mgmtReadyTimeout
  /-- MICROCODE_SWITCH (R550) -/
  | microcodeSwitch (i : LinkId)
  /-- MICROCODE_READY_TIMEOUT (R550) -/
  | microcodeReadyTimeout (i : LinkId)
  /-- QUERY_DEVICE_IDENTIFIERS (R544) -/
  | queryDeviceIdentifiers (bus : Fin 2)
  /-- GET_FIRMWARE_PARAMETERS (R544) -/
  | getFirmwareParameters (bus : Fin 2)
  /-- REQUEST_UPDATE (R544) -/
  | requestUpdate (bus : Fin 2) (maxSize : W32)
  /-- PASS_COMPONENT_TABLE (R544) -/
  | passComponentTable (bus : Fin 2) (id : Fin 65536) (last : Bool)
  /-- UPDATE_COMPONENT (R544) -/
  | updateComponent (bus : Fin 2) (id : Fin 65536) (len : W32)
  /-- FIRMWARE_DATA (R544) -/
  | firmwareData (bs : List Byte)
  /-- TRANSFER_COMPLETE (R544) -/
  | transferComplete
  /-- VERIFY_COMPLETE (R544) -/
  | verifyComplete
  /-- APPLY_COMPLETE (R544) -/
  | applyComplete
  /-- ACTIVATE_FIRMWARE (R544) -/
  | activateFirmware (bus : Fin 2) (selfContained : Bool) (sig : Bool) (payload : Bool)
  /-- GET_STATUS (R544) -/
  | getStatus (bus : Fin 2)
  /-- CANCEL_UPDATE_COMPONENT (R544) -/
  | cancelUpdateComponent (bus : Fin 2)
  /-- CANCEL_UPDATE (R544) -/
  | cancelUpdate (bus : Fin 2)
  /-- DFU_DOWNLOAD (R572) -/
  | dfuDownload (alt : Fin 4) (bs : List Byte) (first : Bool) (last : Bool)
  /-- DFU_UPLOAD (R572) -/
  | dfuUpload (alt : Fin 4)
  /-- RECOVERY_EXIT (R554) -/
  | recoveryExit
  /-- NOR_ERASE_TIMEOUT (R555) -/
  | norEraseTimeout (sector : Fin 65536)
  /-- DC_INPUT_RISE (R564) -/
  | dcInputRise (absent : Nat)
  /-- BULK_CHARGED (R564) -/
  | bulkCharged
  /-- BULK_CHARGE_TIMEOUT (R564) -/
  | bulkChargeTimeout
  /-- UNDERVOLTAGE (R563) -/
  | undervoltage (mv : Fin 65536)
  /-- BROWN_OUT (R563) -/
  | brownOut
  /-- OVERVOLTAGE (R563) -/
  | overvoltage
  /-- OVERVOLT_RECLOSE (R563) -/
  | overvoltReclose
  /-- INPUT_REVERSAL (R563) -/
  | inputReversal
  /-- BUTTON_RELEASE (R565) -/
  | buttonRelease (ms : Nat)
  /-- BUTTON_HOLD_8S (R565) -/
  | buttonHold8s (up : Nat)
  /-- BUTTON_STUCK (R566) -/
  | buttonStuck
  /-- BUTTON_UNSTUCK (R566) -/
  | buttonUnstuck
  /-- LOCATE_TOUCH (R570) -/
  | locateTouch
  /-- SVC_LOCATE (R570) -/
  | svcLocate (mctp : Bool) (v : W32)
  /-- LOCATE_TIMEOUT (R570) -/
  | locateTimeout
  /-- CELL_INSERTED (R574) -/
  | cellInserted (mv : Fin 65536)
  /-- CELL_SETTLED (R574) -/
  | cellSettled (mv : Fin 65536)
  /-- CELL_REMOVED (R575) -/
  | cellRemoved
  /-- CELL_REVERSED (R574) -/
  | cellReversed
  /-- CELL_FULL (R573) -/
  | cellFull (mv : Fin 65536)
  /-- CELL_RECHARGE (R573) -/
  | cellRecharge (mv : Fin 65536)
  /-- CELL_FAULT (R574) -/
  | cellFault (mv : Fin 65536)
  /-- CHARGE_EN (R574) -/
  | chargeEn (mctp : Bool) (on : Bool)
  /-- SVC_RTC_SET (R578) -/
  | svcRtcSet (mctp : Bool) (v : W64)
  /-- TAMPER_EVENT (R577) -/
  | tamperEvent (plate : Bool)
  /-- REGISTER_WRITE (R8) -/
  | registerWrite (t : RegTarget)
  /-- QUEUE_STEP_COMPLETED (R109) -/
  | queueStepCompleted (c : CoreId) (q : StepEnd)
  /-- UNCORRECTABLE_FEC_CODEWORD (R273) -/
  | uncorrectableFecCodeword (i : LinkId)
  /-- CAGE_DISCHARGE_END (R262) -/
  | cageDischargeEnd (c : CageId)
  /-- REKEY_TIMEOUT (R470) -/
  | rekeyTimeout (i : LinkId)
  /-- SMB_CLK_LOW_TIMEOUT (R579) -/
  | smbClkLowTimeout
  /-- USB_DISCONNECTION (R572) -/
  | usbDisconnection
  /-- CELL_VOLTAGE_THRESHOLD (R576) -/
  | cellVoltageThreshold (mv : Fin 65536)
  /-- ISLAND_POWER_LOSS (R575) -/
  | islandPowerLoss
  /-- UNDERVOLTAGE_CLEARED (R563) -/
  | undervoltageCleared
  /-- VF_ENABLE_CHANGE (R415) -/
  | vfEnableChange (n : Fin 33)
  /-- HOT_SWAP_RETRY (R564) -/
  | hotSwapRetry
deriving DecidableEq, Repr

end Sys2Proof
end

