-- ==== Sys2Proof/Decode.lean ====
section
/-! DEFINITION. The command that a word spells. The opcode table gives none of its rows bits (a step's word travels inside its
command), so no word spells a command. -/
namespace Sys2Proof

/-- The command that `nbits` bits of word `w` spell by the table: none, since no row gives bits. -/
def decodeTableWord (_nbits _w : Nat) : Option Instr := none

end Sys2Proof
end

