-- ==== Sys2Proof/Machine/RegMap.lean ====
section
/-! DEFINITION. The register map of BAR 0 (spec/22_register_and_descriptor_index.md, R584, R585, and the tables of the
defining chapters): where each register lies, its access code, the bits a write reaches, and its reset value. -/
namespace Sys2Proof.Machine

/-- Access codes (R8, Table 3). -/
inductive Acc where
  | ro | rw | wo | w1c | w1s | rwl
deriving DecidableEq, Repr

/-- A register or an array of registers: `n` copies `stride` apart, each of `m` copies `mstride` apart. `mask` holds
the bits a write reaches; the other bits are reserved or read-only (R6, R8). -/
structure RegRow where
  name : String
  base : Nat
  n : Nat
  stride : Nat
  m : Nat
  mstride : Nat
  wide : Bool
  acc : Acc
  mask : Nat
  reset : Nat
deriving DecidableEq, Repr

/-- A single 32-bit register. -/
def r1 (name : String) (base : Nat) (acc : Acc) (mask reset : Nat) : RegRow := ⟨name, base, 1, 4, 1, 4, false, acc, mask, reset⟩
/-- A single 64-bit register. -/
def q1 (name : String) (base : Nat) (acc : Acc) (mask reset : Nat) : RegRow := ⟨name, base, 1, 8, 1, 8, true, acc, mask, reset⟩
/-- An array of 32-bit registers. -/
def rN (name : String) (base n stride : Nat) (acc : Acc) (mask reset : Nat) : RegRow := ⟨name, base, n, stride, 1, 4, false, acc, mask, reset⟩
/-- An array of 64-bit registers. -/
def qN (name : String) (base n stride : Nat) (acc : Acc) (mask reset : Nat) : RegRow := ⟨name, base, n, stride, 1, 8, true, acc, mask, reset⟩

/-- Block bases (R584, Table 1). -/
def bID : Nat := 0x0000000
def bHIF : Nat := 0x0400000
def bCMP : Nat := 0x0800000
def bSEQ : Nat := 0x0C00000
def bMEM : Nat := 0x1000000
def bQOS : Nat := 0x1400000
def bXLT : Nat := 0x1800000
def bFAB : Nat := 0x1C00000
def bLNK : Nat := 0x2000000
def bSYN : Nat := 0x2400000
def bPWR : Nat := 0x2800000
def bSEC : Nat := 0x2C00000
def bERR : Nat := 0x3000000
def bSVC : Nat := 0x3400000

/-- All 32 bits. -/
def m32 : Nat := 0xFFFFFFFF

/-- ID and HIF blocks (R406, R414). -/
def rowsHif : List RegRow := [
  r1 "ID_REVISION" bID .ro 0 0,
  q1 "ID_SERIAL" (bID + 8) .ro 0 0,
  r1 "HIF_FN_ID" bHIF .ro 0 0,
  r1 "HIF_FN_STATUS" (bHIF + 4) .ro 0 0,
  qN "HIF_SQ_BASE" (bHIF + 0x100) 16 0x20 .rw 0xFFFFFFFFFFFFF000 0,
  rN "HIF_SQ_CFG" (bHIF + 0x108) 16 0x20 .rw 0x9F00001F 6,
  rN "HIF_SQ_HEAD" (bHIF + 0x10C) 16 0x20 .ro 0 0,
  rN "HIF_SQ_STAT" (bHIF + 0x110) 16 0x20 .w1c 0xC0000000 0x20000000,
  qN "HIF_CQ_BASE" (bHIF + 0x400) 16 0x20 .rw 0xFFFFFFFFFFFFF000 0,
  rN "HIF_CQ_CFG" (bHIF + 0x408) 16 0x20 .rw 0xC0FFFF1F 6,
  rN "HIF_CQ_TAIL" (bHIF + 0x40C) 16 0x20 .ro 0 0,
  rN "HIF_CQ_MOD" (bHIF + 0x410) 16 0x20 .rw 0xFFFF 0,
  rN "HIF_CQ_WAITING" (bHIF + 0x414) 16 0x20 .ro 0 0,
  r1 "HIF_MCTP_CTRL" (bHIF + 0x800) .rw 7 3,
  r1 "HIF_MCTP_FMEID" (bHIF + 0x804) .rw 0x1FF 0,
  r1 "HIF_MCTP_EID" (bHIF + 0x808) .ro 0 0,
  q1 "HIF_REF_BASE" (bHIF + 0x900) .rw 0xFFFFFFFFFFFFF000 0,
  r1 "HIF_REF_CFG" (bHIF + 0x908) .rw 0x8000001F 0xA,
  r1 "HIF_REF_STAT" (bHIF + 0x90C) .w1c 0xE0000000 0,
  r1 "HIF_REF_ERRCNT" (bHIF + 0x910) .ro 0 0,
  r1 "HIF_INST_STATE" (bHIF + 0x918) .ro 0 0]

/-- CMP block (R371). -/
def rowsCmp : List RegRow := [
  rN "CMP_PART_STATE" bCMP 32 0x80 .ro 0 0,
  rN "CMP_PART_COMP" (bCMP + 4) 32 0x80 .ro 0 0,
  qN "CMP_PART_EPOCH" (bCMP + 8) 32 0x80 .ro 0 0,
  qN "CMP_PART_CLUSTERS" (bCMP + 0x10) 32 0x80 .ro 0 0,
  rN "CMP_PART_GROUPS" (bCMP + 0x18) 32 0x80 .ro 0 0,
  rN "CMP_PART_ANCHOR" (bCMP + 0x1C) 32 0x80 .ro 0 0x3FFF,
  ⟨"CMP_PART_LINKS", bCMP + 0x20, 32, 0x80, 3, 4, false, .ro, 0, 0⟩,
  rN "CMP_PART_CTRL" (bCMP + 0x2C) 32 0x80 .w1s 1 0,
  qN "CMP_PART_S2AREA" (bCMP + 0x30) 32 0x80 .rwl 0x01FFFFFFFFFF0000 0,
  qN "CMP_PART_ARENA_VA" (bCMP + 0x38) 32 0x80 .rwl 0x000FFFF800000000 0,
  rN "CMP_PART_RESULT" (bCMP + 0x40) 32 0x80 .ro 0 0,
  rN "CMP_PART_PAUSE" (bCMP + 0x44) 32 0x80 .ro 0 0,
  rN "CMP_PART_MOVED" (bCMP + 0x48) 32 0x80 .ro 0 0,
  rN "CMP_PART_REBINDS" (bCMP + 0x4C) 32 0x80 .ro 0 0,
  rN "CMP_PART_ALLOC" (bCMP + 0x50) 32 0x80 .ro 0 0,
  r1 "CMP_ALLOC_THRESH" (bCMP + 0x1000) .rw 0x3FFF 0x10,
  r1 "CMP_POOL_ADD" (bCMP + 0x1004) .wo 0 0,
  r1 "CMP_POOL_REMOVE" (bCMP + 0x1008) .wo 0 0,
  r1 "CMP_POOL_STAT" (bCMP + 0x100C) .ro 0 0,
  r1 "CMP_POOL_CLEARING" (bCMP + 0x1010) .ro 0 0,
  rN "CMP_CLU_TAG" (bCMP + 0x1100) 48 0x10 .ro 0 0,
  qN "CMP_CLU_EPOCH" (bCMP + 0x1108) 48 0x10 .ro 0 0]

/-- SEQ block (R100, R139, R171). -/
def rowsSeq : List RegRow := [
  qN "SEQ_DP_CYCLES" (bSEQ + 0x10000) 48 0x40 .ro 0 0,
  qN "SEQ_DP_MXISSUE" (bSEQ + 0x10008) 48 0x40 .ro 0 0,
  qN "SEQ_DP_VXISSUE" (bSEQ + 0x10010) 48 0x40 .ro 0 0,
  qN "SEQ_DP_BANKWAIT" (bSEQ + 0x10018) 48 0x40 .ro 0 0,
  rN "SEQ_DP_METAFAULT" (bSEQ + 0x10020) 48 0x40 .ro 0 0,
  rN "SEQ_DP_POISON" (bSEQ + 0x10024) 48 0x40 .ro 0 0,
  rN "SEQ_DP_CLEAR" (bSEQ + 0x10028) 48 0x40 .wo 1 0,
  qN "SEQ_SP_ZROWS" (bSEQ + 0x10C00) 48 0x40 .ro 0 0,
  qN "SEQ_SP_MAPSKIP" (bSEQ + 0x10C08) 48 0x40 .ro 0 0,
  rN "SEQ_SP_DROP" (bSEQ + 0x10C10) 48 0x40 .ro 0 0,
  rN "SEQ_SP_SPILL" (bSEQ + 0x10C14) 48 0x40 .ro 0 0,
  rN "SEQ_SP_DEFER" (bSEQ + 0x10C18) 48 0x40 .ro 0 0,
  rN "SEQ_SP_LOST" (bSEQ + 0x10C1C) 48 0x40 .ro 0 0,
  rN "SEQ_SP_CLEAR" (bSEQ + 0x10C20) 48 0x40 .wo 1 0,
  rN "SEQ_CORE_STATE" (bSEQ + 0x20000) 768 0x20 .ro 0 0,
  rN "SEQ_CORE_STEP" (bSEQ + 0x20004) 768 0x20 .ro 0 0,
  rN "SEQ_CORE_RBSEQ" (bSEQ + 0x20008) 768 0x20 .ro 0 0,
  rN "SEQ_CORE_ITER" (bSEQ + 0x2000C) 768 0x20 .ro 0 0,
  rN "SEQ_CORE_CONV1" (bSEQ + 0x20010) 768 0x20 .ro 0 0,
  rN "SEQ_CORE_CONV2" (bSEQ + 0x20014) 768 0x20 .ro 0 0,
  rN "SEQ_CORE_FAULT" (bSEQ + 0x20018) 768 0x20 .ro 0 0,
  rN "SEQ_CORE_VRANGE" (bSEQ + 0x2001C) 768 0x20 .ro 0 0]

/-- MEM and QOS blocks (R198, R219). -/
def rowsMem : List RegRow := [
  rN "MEM_GRP_CFG" bMEM 32 0x10 .ro 0 0,
  ⟨"MEM_GRP_OWN", bMEM + 4, 32, 0x10, 3, 4, false, .ro, 0, 0⟩,
  ⟨"MEM_WAYMAP", bMEM + 0x200, 32, 0x10, 4, 4, false, .ro, 0, 0x40404040⟩,
  rN "MEM_ECC_CORR" (bMEM + 0x400) 32 8 .ro 0 0,
  rN "MEM_ECC_UNCORR" (bMEM + 0x404) 32 8 .ro 0 0,
  rN "MEM_STACK_TEMP" (bMEM + 0x500) 8 4 .ro 0 0,
  r1 "MEM_SCRUB_CTRL" (bMEM + 0x600) .rw 0xFF01 0x1801,
  r1 "MEM_SCRUB_POS" (bMEM + 0x604) .ro 0 0,
  r1 "MEM_SCRUB_PASS" (bMEM + 0x608) .ro 0 0,
  r1 "MEM_POISON_CNT" (bMEM + 0x60C) .ro 0 0,
  r1 "MEM_WITHHELD" (bMEM + 0x610) .ro 0 0,
  rN "QOS_PART_CLASS" bQOS 32 4 .rwl 3 0,
  rN "QOS_SHARE_CD" (bQOS + 0x80) 32 8 .ro 0 0,
  rN "QOS_SHARE_FD" (bQOS + 0x84) 32 8 .ro 0 0,
  rN "QOS_TB" (bQOS + 0x200) 165 4 .rwl 0xFFFF0FFF 0x04000010,
  r1 "QOS_WMARK" (bQOS + 0x600) .rw 0xFFFFFF 0x604020,
  r1 "QOS_WINDOW" (bQOS + 0x604) .rw 3 1,
  r1 "QOS_ADMIT" (bQOS + 0x608) .rw 0xFFFF 0x1130,
  r1 "QOS_RT_LAT" (bQOS + 0x60C) .rw 0xFFFF 0x3E8,
  r1 "QOS_MISS_GU" (bQOS + 0x610) .w1c m32 0,
  r1 "QOS_MISS_RT" (bQOS + 0x614) .w1c m32 0,
  r1 "QOS_SKIP" (bQOS + 0x618) .ro 0 0,
  ⟨"QOS_GRANT", bQOS + 0x1000, 32, 0x80, 32, 4, false, .ro, 0, 0⟩,
  rN "QOS_MISS_CNT" (bQOS + 0x2000) 32 4 .ro 0 0,
  rN "QOS_LEVEL" (bQOS + 0x2100) 32 4 .ro 0 0]

/-- XLT block (R246). -/
def rowsXlt : List RegRow := [
  qN "XLT_S1_ROOT" bXLT 32 0x40 .rw 0x0000FFFFFFF00001 0,
  qN "XLT_S2_ROOT" (bXLT + 8) 32 0x40 .rwl 0x01FFFFFFFFFF0001 0,
  qN "XLT_FAULT_ADDR" (bXLT + 0x10) 32 0x40 .ro 0 0,
  rN "XLT_FAULT_INFO" (bXLT + 0x18) 32 0x40 .w1c 0x80000000 0,
  rN "XLT_FAULT_CNT" (bXLT + 0x1C) 32 0x40 .ro 0 0,
  qN "XLT_INV_CMD" (bXLT + 0x20) 32 0x40 .wo 0 0,
  rN "XLT_INV_STAT" (bXLT + 0x28) 32 0x40 .ro 0 0,
  rN "XLT_PART_CTRL" (bXLT + 0x2C) 32 0x40 .rw 1 0,
  rN "XLT_PIN_USED" (bXLT + 0x1000) 4 4 .ro 0 0,
  rN "XLT_L2_MISS" (bXLT + 0x1010) 4 4 .ro 0 0,
  r1 "XLT_HOST_ATS" (bXLT + 0x1020) .rw 1 0,
  qN "XLT_WIN_W0" (bXLT + 0x2000) 1024 0x10 .ro 0 0,
  qN "XLT_WIN_W1" (bXLT + 0x2008) 1024 0x10 .ro 0 0,
  qN "XLT_OUT" (bXLT + 0x6000) 1024 8 .ro 0 0,
  rN "XLT_REFUSE" (bXLT + 0xA000) 24 4 .ro 0 0]

/-- FAB and LNK blocks (R48, R269, R304). -/
def rowsFab : List RegRow := [
  r1 "FAB_ID" bFAB .rw 0x3FFF 0x3FFF,
  r1 "FAB_RTE_EPOCH" (bFAB + 4) .ro 0 0,
  r1 "FAB_RTE_STAGED" (bFAB + 8) .rw m32 0,
  r1 "FAB_RTE_CTRL" (bFAB + 0xC) .rw 7 2,
  rN "FAB_CNT" (bFAB + 0x100) 11 4 .ro 0 0,
  r1 "FAB_CNT_CLEAR" (bFAB + 0x12C) .wo 1 0,
  q1 "FAB_TS_NOW" (bFAB + 0x400) .ro 0 0,
  r1 "FAB_TS_STATUS" (bFAB + 0x408) .ro 0 0xFF0000,
  r1 "FAB_TS_CTRL" (bFAB + 0x40C) .rw 0xFF03 0xFF00,
  r1 "FAB_TS_OFFSET" (bFAB + 0x410) .ro 0 0,
  r1 "FAB_TS_RATE" (bFAB + 0x414) .ro 0 0,
  r1 "FAB_TS_LINKDLY" (bFAB + 0x418) .ro 0 0,
  q1 "FAB_TS_SET" (bFAB + 0x420) .wo 0 0,
  ⟨"FAB_RTE_STG", bFAB + 0x100000, 12288, 0x10, 2, 8, true, .rw, 0xFFFFFFFFFFFFFFFF, 0⟩,
  ⟨"FAB_RTE_ACT", bFAB + 0x180000, 12288, 0x10, 2, 8, true, .ro, 0, 0⟩,
  rN "LNK_CTRL" bLNK 96 0x40 .rw 0xF 1,
  rN "LNK_STATUS" (bLNK + 4) 96 0x40 .ro 0 0,
  rN "LNK_EXPECT" (bLNK + 8) 96 0x40 .rw 0x8FFFC07F 0,
  rN "LNK_NEIGHBOUR" (bLNK + 0xC) 96 0x40 .ro 0 0,
  rN "LNK_FEC_CORR" (bLNK + 0x10) 96 0x40 .ro 0 0,
  rN "LNK_FEC_UNC" (bLNK + 0x14) 96 0x40 .ro 0 0,
  rN "LNK_DOWN_CNT" (bLNK + 0x18) 96 0x40 .ro 0 0]

/-- SYN block (R331). -/
def rowsSyn : List RegRow := [
  q1 "SYN_DUMP_ADDR" bSYN .rw 0xFFFFFFFFFFFFFFFF 0,
  r1 "SYN_DUMP_CTRL" (bSYN + 8) .w1s 1 0,
  r1 "SYN_SIG_LOST" (bSYN + 0xC) .ro 0 0,
  r1 "SYN_OBJ_FAULTS" (bSYN + 0x10) .ro 0 0,
  r1 "SYN_SPURIOUS" (bSYN + 0x14) .ro 0 0,
  r1 "SYN_GOP_DROP" (bSYN + 0x18) .ro 0 0,
  r1 "SYN_GOP_LIVE" (bSYN + 0x1C) .ro 0 0,
  rN "SYN_PART_DBG" (bSYN + 0x100) 32 4 .rw 1 0,
  rN "SYN_DBG_OBJ" (bSYN + 0x1000) 32 0x10 .rw 0x3FFF 0,
  rN "SYN_DBG_VAL" (bSYN + 0x1004) 32 0x10 .rw m32 0,
  rN "SYN_DBG_CMD" (bSYN + 0x1008) 32 0x10 .wo 7 0,
  rN "SYN_DBG_STAT" (bSYN + 0x100C) 32 0x10 .ro 0 0,
  ⟨"SYN_OBJ", bSYN + 0x10000, 16384, 0x10, 4, 4, false, .ro, 0, 0⟩,
  rN "SYN_CORE_WAIT" (bSYN + 0x60000) 768 4 .ro 0 0]

/-- PWR and SEC blocks (R456, R489, R509). -/
def rowsPwr : List RegRow := [
  r1 "PWR_CAP" bPWR .rw 0x8000007F 0x68,
  r1 "PWR_CTRL" (bPWR + 4) .rw 0x00FF0F03 0xA0702,
  r1 "PWR_INPUT" (bPWR + 8) .ro 0 0,
  r1 "PWR_STATUS" (bPWR + 0xC) .ro 0 0x3000,
  r1 "PWR_EVT" (bPWR + 0x10) .w1c 0x7F 0,
  r1 "PWR_AVG10" (bPWR + 0x14) .ro 0 0,
  q1 "PWR_ENERGY" (bPWR + 0x18) .ro 0 0,
  r1 "PWR_SLACK_CLEAR" (bPWR + 0x20) .wo 1 0,
  r1 "PWR_SLACK_EVICT" (bPWR + 0x24) .ro 0 0,
  rN "PWR_DIE_TEMP" (bPWR + 0x30) 6 4 .ro 0 0,
  rN "PWR_CLU_STATUS" (bPWR + 0x100) 48 0x10 .ro 0 0xFF000226,
  rN "PWR_CLU_POWER" (bPWR + 0x104) 48 0x10 .ro 0 0,
  rN "PWR_CLU_DROOP" (bPWR + 0x108) 48 0x10 .ro 0 0,
  rN "PWR_CLU_CEIL" (bPWR + 0x10C) 48 0x10 .ro 0 0,
  rN "PWR_SLK_ID" (bPWR + 0x1000) 256 0x20 .ro 0 0,
  rN "PWR_SLK_COUNT" (bPWR + 0x1004) 256 0x20 .ro 0 0,
  ⟨"PWR_SLK_NS", bPWR + 0x1008, 256, 0x20, 3, 8, true, .ro, 0, 0⟩,
  r1 "SEC_STATUS" bSEC .ro 0 0,
  r1 "SEC_ALARM" (bSEC + 4) .w1c m32 0,
  r1 "SEC_SLOTS" (bSEC + 8) .ro 0 0,
  r1 "SEC_DRBG_REQS" (bSEC + 0xC) .ro 0 0,
  r1 "SEC_DRBG_RESEEDS" (bSEC + 0x10) .ro 0 0,
  r1 "SEC_ES_FAILS" (bSEC + 0x14) .ro 0 0,
  r1 "SEC_QUEUE" (bSEC + 0x18) .ro 0 0,
  r1 "SEC_SESSIONS" (bSEC + 0x1C) .ro 0 0,
  qN "SEC_LNK_TXCTR" (bSEC + 0x100) 96 0x10 .ro 0 0,
  rN "SEC_LNK_EPOCH" (bSEC + 0x108) 96 0x10 .ro 0 0,
  rN "SEC_LNK_KSTATE" (bSEC + 0x10C) 96 0x10 .ro 0 0,
  qN "SEC_RGN_WRITES" (bSEC + 0x1000) 384 0x10 .ro 0 0,
  rN "SEC_RGN_STATE" (bSEC + 0x1008) 384 0x10 .ro 0 0,
  rN "SEC_RGN_REKEYS" (bSEC + 0x100C) 384 0x10 .ro 0 0]

/-- ERR and SVC blocks (R532, R533, R559, R270, R583). -/
def rowsSvc : List RegRow := [
  r1 "ERR_LEDGER_STAT" bERR .ro 0 0,
  r1 "ERR_LEDGER_CFG" (bERR + 4) .rw 0xFFFF 0x3E8,
  q1 "ERR_LEDGER_TOTAL" (bERR + 8) .ro 0 0,
  r1 "ERR_INTAKE_LOST" (bERR + 0x10) .ro 0 0,
  rN "ERR_LOST" (bERR + 0x100) 16 4 .ro 0 0,
  qN "ERR_SAMPLE_ADDR" (bERR + 0x200) 32 0x20 .rw 0xFFFFFFFFFFFFFFFF 0,
  rN "ERR_SAMPLE_LEN" (bERR + 0x208) 32 0x20 .rw m32 0,
  rN "ERR_WDOG_CFG" (bERR + 0x20C) 32 0x20 .rw 0x1F 8,
  rN "ERR_WDOG_STAT" (bERR + 0x210) 32 0x20 .ro 0 0,
  rN "ERR_PART_CTRL" (bERR + 0x214) 32 0x20 .w1s 3 0,
  rN "ERR_SAMPLE_STAT" (bERR + 0x218) 32 0x20 .ro 0 0,
  rN "ERR_WDOG_CNT" (bERR + 0x21C) 32 0x20 .ro 0 0,
  r1 "ERR_CTX_RESET" (bERR + 0x600) .wo 0 0,
  r1 "ERR_CTX_STAT" (bERR + 0x604) .ro 0 0,
  ⟨"ERR_LEDGER_REC", bERR + 0x10000, 4096, 0x40, 16, 4, false, .ro, 0, 0⟩,
  r1 "SVC_PANEL_STATUS" bSVC .ro 0 0,
  r1 "SVC_PANEL_EVT" (bSVC + 4) .w1c 0x1FF 0,
  r1 "SVC_LOCATE" (bSVC + 8) .rw 0xFF01 0x1E00,
  r1 "SVC_KEY_TOUCH" (bSVC + 0xC) .ro 0 0,
  r1 "SVC_KEY_STUCK" (bSVC + 0x10) .ro 0 0,
  r1 "SVC_BATT" (bSVC + 0x20) .ro 0 0,
  r1 "SVC_BATT_CTRL" (bSVC + 0x24) .rw 1 1,
  q1 "SVC_RTC" (bSVC + 0x28) .ro 0 0,
  q1 "SVC_RTC_SET" (bSVC + 0x30) .wo 0 0,
  r1 "SVC_ISLAND" (bSVC + 0x38) .ro 0 0,
  q1 "SVC_TAMPER_TIME" (bSVC + 0x40) .ro 0 0,
  r1 "SVC_INPUT" (bSVC + 0x48) .ro 0 0,
  rN "SVC_CAGE_CTRL" (bSVC + 0x1000) 24 0x20 .rw 0x1F 1,
  rN "SVC_CAGE_STATUS" (bSVC + 0x1004) 24 0x20 .ro 0 0,
  rN "SVC_CAGE_MON" (bSVC + 0x1008) 24 0x20 .ro 0 0,
  rN "SVC_CAGE_EVT" (bSVC + 0x100C) 24 0x20 .w1c 0x1FF 0,
  rN "SVC_CAGE_SHORTS" (bSVC + 0x1010) 24 0x20 .ro 0 0,
  r1 "SVC_RESET_CMD" (bSVC + 0x2000) .wo 0 0,
  r1 "SVC_RESET_ACK" (bSVC + 0x2004) .wo 0 0,
  r1 "SVC_RESET_STAT" (bSVC + 0x2008) .ro 0 0,
  r1 "SVC_FW_BOOT" (bSVC + 0x3000) .ro 0 0,
  r1 "SVC_FW_UPD" (bSVC + 0x3004) .ro 0 0,
  r1 "SVC_FW_PROGRESS" (bSVC + 0x3008) .ro 0 0,
  ⟨"SVC_FW_IMG", bSVC + 0x3010, 3, 0x20, 7, 4, false, .ro, 0, 0⟩,
  r1 "SVC_FW_NOR" (bSVC + 0x3070) .ro 0 0,
  r1 "SVC_FW_NOR_MAXERASE" (bSVC + 0x3074) .ro 0 0,
  rN "SVC_FW_LNK_VER" (bSVC + 0x3100) 96 4 .ro 0 0]

/-- The rows of one block, by block index (R584, Table 1). -/
def blockRows : Nat → List RegRow
  | 0 | 1 => rowsHif
  | 2 => rowsCmp
  | 3 => rowsSeq
  | 4 | 5 => rowsMem
  | 6 => rowsXlt
  | 7 | 8 => rowsFab
  | 9 => rowsSyn
  | 10 | 11 => rowsPwr
  | 12 | 13 => rowsSvc
  | _ => []

/-- Bytes of a register. -/
def RegRow.size (r : RegRow) : Nat := if r.wide then 8 else 4

/-- The row holds the register at address `a`: the array index and the index within it. -/
def RegRow.hit (r : RegRow) (a : Nat) : Option (Nat × Nat) :=
  if a < r.base then none else
  let d := a - r.base
  let i := d / r.stride
  let j := d % r.stride / r.mstride
  if i < r.n ∧ j < r.m ∧ d % r.stride % r.mstride = 0 then some (i, j) else none

/-- The first row that holds address `a`, with the indices. -/
def findRow : List RegRow → Nat → Option (RegRow × Nat × Nat)
  | [], _ => none
  | r :: rs, a => match r.hit a with
    | some x => some (r, x)
    | none => findRow rs a

/-- The register at a BAR 0 address (R584). -/
def regAt (a : Nat) : Option (RegRow × Nat × Nat) := findRow (blockRows (a / 0x400000)) a

/-- Key of a function's own copy of a HIF register at BAR 0 address `a` (R584). -/
def hifKey (fn a : Nat) : Nat := 0x10000000 * (fn + 1) + a

/-- What an unlisted register key reads as: the reset value of its row (R585), zero where no register lies (R584). -/
def regReset (k : Nat) : Nat :=
  match regAt (k % 0x10000000) with
  | some x => x.1.reset
  | none => 0

end Sys2Proof.Machine
end

