-- ==== Sys2Proof/Machine/State.lean ====
section
/-! DEFINITION. The state of the module, its reset, and the reasons a step can stop. -/
namespace Sys2Proof.Machine

/-- What leaves a unit of the module for another place: the model's record of outputs, oldest first (log 10). -/
inductive Emit where
  | objAdd (obj : Nat) (amount : Int) (srcKind src : Nat)
  | objJoin (obj core wire : Nat)
  | wake (core wire : Nat)
  | bundle (link pos : Nat) (bytes : List Byte)
  | bucketReq (hdr : Nat) (r : BucketReq)
  | bucketGrant (engine core seq bucket first granted policy : Nat)
  | bucketDone (hdr : Nat)
  | rebindStopped (p instance_ : Nat)
  | msix (fn vec : Nat)
  | deliver (f : Flit)
  | memResult (port status : Nat) (bs : List Byte)
  | regValue (v : Nat)
  | atsDone (fn : Nat)
  | atsAsk (fn iova : Nat)
  | curator (fid kind a b : Nat)
  | catalogue (fid : Nat) (bs : List Byte)
  | mctp (bs : List Byte)
  | control (link : Nat) (w : CtlWord)
  | event (e : McEvent)
  | fetchAdd (fn entry : Nat)
  | spdm (conn code : Nat) (bs : List Byte)
  | pldm (code : Nat) (bs : List Byte)
  | tdisp (v code : Nat) (bs : List Byte)
  | dfu (code : Nat) (bs : List Byte)
deriving DecidableEq, Repr

/-- An event on its way to the Ledger (R511). -/
structure LedgerEv where
  type : Nat
  sev : Nat
  source : Nat
  owner : Nat
  object : Nat
  code : Nat
  arg : Nat
  value : Nat
  ts : Nat
deriving DecidableEq, Repr

/-- Why the model stops. -/
inductive Fault where
  /-- Raised by a command on behaviour that the spec calls undefined within a reach and gives no effect (R7, R9, R10).
  Safe: the model stops where the hardware goes on. -/
  | undefinedWithin (reach : String)
deriving DecidableEq, Repr

/-- Why a command is turned away. -/
inductive Refusal where
  /-- A command whose meaning is not modelled; raised by Dispatch only. Safe: the model stops. -/
  | notModelled (mnemonic : String)
deriving DecidableEq, Repr

/-- The state. -/
structure State where
  pending : List Instr
  out : List Emit
  freeCtr : Nat
  regs : Tbl Nat
  host : Tbl Byte
  now : Nat
  cores : Tbl Core
  spad : Tbl Byte
  spadWritten : Tbl Bool
  spadPoison : Tbl Bool
  engines : Tbl Engine
  buckets : Tbl Bucket
  hbm : Tbl Byte
  poison : Tbl Bool
  tags : Tbl (Option SectorTag)
  groups : Tbl Group
  regions : Tbl Region
  ways : Tbl WayKind
  lines : Tbl (Option CacheLine)
  cacheClock : Nat
  withheld : List Withheld
  repairRows : List Nat
  l1 : Tbl (List XltEntry)
  l2 : Tbl (List XltEntry)
  invq : Tbl (List Nat)
  inWins : Tbl InWin
  outWins : Tbl OutWin
  txns : Tbl (Option Txn)
  nextTag : Nat
  objs : Tbl SyncObj
  trees : Tbl TreeNode
  parts : Tbl Part
  insts : Tbl Inst
  intake : List LedgerEv
  pool : Tbl (Option PoolPage)
  arena : Tbl (Option Nat)
  atc : List AtcEntry
  levels : Tbl Level
  tokens : Tbl Port
  urgency : Tbl Nat
  aged : List (Nat × Nat)
  served : Tbl HomeWin
  refreshes : Tbl Nat
  scrub : Patrol
  links : Tbl Link
  cages : Tbl Cage
  rteAct : Tbl Nat
  rteStg : Tbl Nat
  rxTxns : Tbl (Option RxTxn)
  time : TimeSync
  winQ : List WinReq
  clus : Tbl Cluster
  events : List McEvent
  eventsWait : List McEvent
  eventSeq : Nat
  descs : List HostDesc
  nextDesc : Nat
  sqs : Tbl Sq
  cqs : Tbl Cq
  refOps : List RefOp
  switches : List SwitchReq
  mcBind : Option McBind
  mcWait : List McBind
  eid : Nat
  lastFn : Nat
  pwr : PowerSt
  slack : Tbl Slack
  cus : Cus
  lring : Ledger
  sessions : List Session
  spdm : Tbl Spdm
  seals : Tbl (List SealReq)
  fw : FwSt
  boot : Boot
  pcie : Pcie
  panel : Panel
deriving DecidableEq, Repr

/-- The module right after reset: off, before DC input and power-good, with every register at its reset value (an unlisted
register reads as its row of RegMap gives), memory with nothing listed, and an empty queue of commands (R534, R585; what the
spec does not give is zero or empty: DESIGN CHOICE log 5). -/
def State.reset : State :=
  { pending := [], out := [], freeCtr := 0, regs := [], host := [], now := 0, cores := [], spad := [], spadWritten := [],
    spadPoison := [], engines := [], buckets := [], hbm := [], poison := [], tags := [], groups := [], regions := [],
    ways := [], lines := [], cacheClock := 0, withheld := [], repairRows := [], l1 := [], l2 := [], invq := [],
    inWins := [], outWins := [], txns := [], nextTag := 0, objs := [], trees := [], parts := [], insts := [], intake := [],
    pool := [], arena := [], atc := [], levels := [], tokens := [], urgency := [], aged := [], served := [],
    refreshes := [], scrub := Patrol.reset, links := [], cages := [], rteAct := [], rteStg := [], rxTxns := [], time := TimeSync.reset,
    winQ := [], clus := [], events := [], eventsWait := [], eventSeq := 0, descs := [], nextDesc := 0, sqs := [], cqs := [],
    refOps := [], switches := [], mcBind := none, mcWait := [], eid := 0, lastFn := 0, pwr := PowerSt.reset, slack := [],
    cus := Cus.reset, lring := Ledger.empty, sessions := [], spdm := [], seals := [], fw := FwSt.reset, boot := Boot.reset,
    pcie := Pcie.reset, panel := Panel.reset }

end Sys2Proof.Machine
end

