-- ==== Sys2Proof/Machine/Ops.lean ====
section
/-! DEFINITION. Named operations over registers, units and reports: every meaning reads and writes the state through
these. -/
namespace Sys2Proof.Machine

/-! Registers -/

/-- The stored value of a register by its key. -/
def State.reg (s : State) (k : Nat) : Nat := tblGet regReset s.regs k
/-- A register written. -/
def State.setReg (s : State) (k v : Nat) : State := { s with regs := tblSet regReset s.regs k v }
/-- A 32-bit counter raised by `n`; it stops at 0xFFFF_FFFF. -/
def State.bump (s : State) (k n : Nat) : State := s.setReg k (satAdd 0xFFFFFFFF (s.reg k) n)
/-- A 64-bit counter raised by `n`. -/
def State.bump64 (s : State) (k n : Nat) : State := s.setReg k ((s.reg k + n) % 2 ^ 64)
/-- Bits set in a register (a W1C event register, for example). -/
def State.setBits (s : State) (k m : Nat) : State := s.setReg k (s.reg k ||| m)
/-- Bits cleared in a register. -/
def State.clearBits (s : State) (k m : Nat) : State := s.setReg k (s.reg k - (s.reg k &&& m))

/-! Outputs and free values -/

/-- An output recorded. -/
def State.emit (s : State) (e : Emit) : State := { s with out := s.out ++ [e] }
/-- Outputs recorded in order. -/
def State.emits (s : State) (es : List Emit) : State := { s with out := s.out ++ es }
/-- The counter of free values advanced by one draw. -/
def State.draw (s : State) : State := { s with freeCtr := s.freeCtr + 1 }
/-- A word of an MSI-X table; the mask bit of a vector is set at reset (R376; PRESUMED, the PCIe rules; log 33). -/
def State.msixWord (s : State) (fn i : Nat) : Nat := tblGet (fun k => if k % 4 = 3 then 1 else 0) s.pcie.msixT (1024 * fn + i)
/-- An interrupt vector of a function raised; a masked vector is held in the PBA (R400, R401). -/
def State.msix (s : State) (fn vec : Nat) : State :=
  if bitAt (s.msixWord fn (4 * vec + 3)) 0 then
    { s with pcie := { s.pcie with pba := tblSet (fun _ => false) s.pcie.pba (256 * fn + vec) true } }
  else s.emit (.msix fn vec)

/-- The severity of a Ledger record by its class and event (DEDUCED from R510 and R511, log 13). -/
def sevOf (type : Nat) : Nat :=
  match type / 256 with
  | 0x08 => 3
  | 0x0A => if type % 256 = 5 ∨ type % 256 = 7 then 0 else 4
  | 0x01 => if type % 256 = 0 ∨ type % 256 = 6 then 1 else 2
  | 0x0B | 0x0C => 0
  | 0x03 => if type % 256 = 4 then 0 else 2
  | _ => 2

/-- An event handed to the Ledger's intake queue of 1,024; where it is full the event is discarded and counted
(R515). -/
def State.ledgerFull (s : State) (type source owner object code arg value : Nat) : State :=
  if s.intake.length < 1024 then
    { s with intake := s.intake ++ [⟨type, sevOf type, source, owner, object, code, arg, value, s.now⟩] }
  else (s.bump (bERR + 0x10) 1).bump (bERR + 0x100 + 4 * (type / 256 % 16)) 1

/-- SOURCE of a Ledger record: die, unit kind, unit number (R511). -/
def srcOf3 (die kind unit : Nat) : Nat := die * 2 ^ 24 + kind * 2 ^ 16 + unit

/-! Units -/

def State.core (s : State) (c : Nat) : Core := tblGet (fun _ => Core.reset) s.cores c
def State.setCore (s : State) (c : Nat) (k : Core) : State := { s with cores := tblSet (fun _ => Core.reset) s.cores c k }
def State.modCore (s : State) (c : Nat) (f : Core → Core) : State := s.setCore c (f (s.core c))

def Engine.reset : Engine := ⟨[], []⟩
def State.engine (s : State) (e : Nat) : Engine := tblGet (fun _ => Engine.reset) s.engines e
def State.setEngine (s : State) (e : Nat) (k : Engine) : State :=
  { s with engines := tblSet (fun _ => Engine.reset) s.engines e k }

def State.bucket (s : State) (h : Nat) : Bucket := tblGet (fun _ => Bucket.idle) s.buckets h
def State.setBucket (s : State) (h : Nat) (b : Bucket) : State :=
  { s with buckets := tblSet (fun _ => Bucket.idle) s.buckets h b }

def State.group (s : State) (g : Nat) : Group := tblGet (fun _ => Group.reset) s.groups g
def State.setGroup (s : State) (g : Nat) (k : Group) : State :=
  { s with groups := tblSet (fun _ => Group.reset) s.groups g k }

def State.region (s : State) (q : Nat) : Region := tblGet (fun _ => Region.reset) s.regions q
def State.setRegion (s : State) (q : Nat) (k : Region) : State :=
  { s with regions := tblSet (fun _ => Region.reset) s.regions q k }
def State.modRegion (s : State) (q : Nat) (f : Region → Region) : State := s.setRegion q (f (s.region q))

def State.wayKind (s : State) (i : Nat) : WayKind := tblGet (fun _ => WayKind.pool) s.ways i
def State.setWay (s : State) (i : Nat) (k : WayKind) : State :=
  { s with ways := tblSet (fun _ => WayKind.pool) s.ways i k }

def State.line (s : State) (i : Nat) : Option CacheLine := tblGet (fun _ => none) s.lines i
def State.setLine (s : State) (i : Nat) (k : Option CacheLine) : State :=
  { s with lines := tblSet (fun _ => none) s.lines i k }

def State.tag (s : State) (i : Nat) : Option SectorTag := tblGet (fun _ => none) s.tags i
def State.setTag (s : State) (i : Nat) (k : Option SectorTag) : State :=
  { s with tags := tblSet (fun _ => none) s.tags i k }

def State.isPoison (s : State) (i : Nat) : Bool := tblGet (fun _ => false) s.poison i
def State.setPoison (s : State) (i : Nat) (k : Bool) : State :=
  { s with poison := tblSet (fun _ => false) s.poison i k }

def State.l1of (s : State) (port : Nat) : List XltEntry := tblGet (fun _ => []) s.l1 port
def State.setL1 (s : State) (port : Nat) (k : List XltEntry) : State := { s with l1 := tblSet (fun _ => []) s.l1 port k }
def State.l2of (s : State) (d : Nat) : List XltEntry := tblGet (fun _ => []) s.l2 d
def State.setL2 (s : State) (d : Nat) (k : List XltEntry) : State := { s with l2 := tblSet (fun _ => []) s.l2 d k }
def State.invOf (s : State) (p : Nat) : List Nat := tblGet (fun _ => []) s.invq p
def State.setInv (s : State) (p : Nat) (k : List Nat) : State := { s with invq := tblSet (fun _ => []) s.invq p k }

def State.inWin (s : State) (w : Nat) : InWin := tblGet (fun _ => InWin.closed) s.inWins w
def State.setInWin (s : State) (w : Nat) (k : InWin) : State :=
  { s with inWins := tblSet (fun _ => InWin.closed) s.inWins w k }
def State.outWin (s : State) (w : Nat) : OutWin := tblGet (fun _ => OutWin.closed) s.outWins w
def State.setOutWin (s : State) (w : Nat) (k : OutWin) : State :=
  { s with outWins := tblSet (fun _ => OutWin.closed) s.outWins w k }

def State.txn (s : State) (t : Nat) : Option Txn := tblGet (fun _ => none) s.txns t
def State.setTxn (s : State) (t : Nat) (k : Option Txn) : State := { s with txns := tblSet (fun _ => none) s.txns t k }
/-- The first TAG from `t` on without a live or resting transaction (R289). -/
def State.freeTagFrom (s : State) (t : Nat) : Nat → Nat
  | 0 => t
  | fuel + 1 => if (s.txn t).isNone then t else s.freeTagFrom ((t + 1) % 65536) fuel
/-- The TAG of the next transaction (R289; DESIGN CHOICE log 15: TAGs are taken in rising order). -/
def State.freeTag (s : State) : Nat := s.freeTagFrom s.nextTag s.txns.length
/-- A transaction recorded under the next TAG. -/
def State.newTxn (s : State) (t : Txn) : State :=
  { s.setTxn s.freeTag (some t) with nextTag := (s.freeTag + 1) % 65536 }

def State.obj (s : State) (n : Nat) : SyncObj := tblGet (fun _ => SyncObj.reset) s.objs n
def State.setObj (s : State) (n : Nat) (k : SyncObj) : State :=
  { s with objs := tblSet (fun _ => SyncObj.reset) s.objs n k }

def State.tree (s : State) (k : Nat) : TreeNode := tblGet (fun _ => TreeNode.empty) s.trees k
def State.setTree (s : State) (k : Nat) (t : TreeNode) : State :=
  { s with trees := tblSet (fun _ => TreeNode.empty) s.trees k t }

def State.part (s : State) (p : Nat) : Part := tblGet (fun _ => Part.reset) s.parts p
def State.setPart (s : State) (p : Nat) (k : Part) : State :=
  { s with parts := tblSet (fun _ => Part.reset) s.parts p k }
def State.modPart (s : State) (p : Nat) (f : Part → Part) : State := s.setPart p (f (s.part p))

def State.poolPage (s : State) (i : Nat) : Option PoolPage := tblGet (fun _ => none) s.pool i
def State.setPoolPage (s : State) (i : Nat) (k : Option PoolPage) : State :=
  { s with pool := tblSet (fun _ => none) s.pool i k }
def State.arenaSlot (s : State) (i : Nat) : Option Nat := tblGet (fun _ => none) s.arena i
def State.setArena (s : State) (i : Nat) (k : Option Nat) : State := { s with arena := tblSet (fun _ => none) s.arena i k }
def State.levelOf (s : State) (g : Nat) : Level := tblGet (fun _ => Level.reset) s.levels g
def State.setLevel (s : State) (g : Nat) (k : Level) : State :=
  { s with levels := tblSet (fun _ => Level.reset) s.levels g k }
def State.port (s : State) (m : Nat) : Port := tblGet (fun _ => Port.reset) s.tokens m
def State.setPort (s : State) (m : Nat) (k : Port) : State := { s with tokens := tblSet (fun _ => Port.reset) s.tokens m k }
def State.tokensOf (s : State) (m : Nat) : Nat := (s.port m).tokens
def State.setTokens (s : State) (m k : Nat) : State := s.setPort m { s.port m with tokens := k }
def State.urgencyOf (s : State) (m : Nat) : Nat := tblGet (fun _ => 0) s.urgency m
def State.setUrgency (s : State) (m k : Nat) : State := { s with urgency := tblSet (fun _ => 0) s.urgency m k }
def State.servedOf (s : State) (i : Nat) : HomeWin := tblGet (fun _ => HomeWin.reset) s.served i
def State.setServed (s : State) (i : Nat) (k : HomeWin) : State := { s with served := tblSet (fun _ => HomeWin.reset) s.served i k }
def State.lnk (s : State) (i : Nat) : Link := tblGet (fun _ => Link.reset) s.links i
def State.setLnk (s : State) (i : Nat) (k : Link) : State := { s with links := tblSet (fun _ => Link.reset) s.links i k }
def State.modLnk (s : State) (i : Nat) (f : Link → Link) : State := s.setLnk i (f (s.lnk i))
def State.cage (s : State) (i : Nat) : Cage := tblGet (fun _ => Cage.reset) s.cages i
def State.setCage (s : State) (i : Nat) (k : Cage) : State := { s with cages := tblSet (fun _ => Cage.reset) s.cages i k }
def State.modCage (s : State) (i : Nat) (f : Cage → Cage) : State := s.setCage i (f (s.cage i))
def State.clu (s : State) (k : Nat) : Cluster := tblGet (fun _ => Cluster.reset) s.clus k
def State.setClu (s : State) (k : Nat) (c : Cluster) : State := { s with clus := tblSet (fun _ => Cluster.reset) s.clus k c }
def State.modClu (s : State) (k : Nat) (f : Cluster → Cluster) : State := s.setClu k (f (s.clu k))
/-- The cluster is at P15 (R37). -/
def State.parked (s : State) (k : Nat) : Bool := (s.clu k).step == 15
def State.rxTxn (s : State) (i : Nat) : Option RxTxn := tblGet (fun _ => none) s.rxTxns i
def State.setRxTxn (s : State) (i : Nat) (k : Option RxTxn) : State :=
  { s with rxTxns := tblSet (fun _ => none) s.rxTxns i k }

def State.sq (s : State) (fn r : Nat) : Sq := tblGet (fun _ => Sq.reset) s.sqs (16 * fn + r)
def State.setSq (s : State) (fn r : Nat) (k : Sq) : State := { s with sqs := tblSet (fun _ => Sq.reset) s.sqs (16 * fn + r) k }
def State.cq (s : State) (fn r : Nat) : Cq := tblGet (fun _ => Cq.reset) s.cqs (16 * fn + r)
def State.setCq (s : State) (fn r : Nat) (k : Cq) : State := { s with cqs := tblSet (fun _ => Cq.reset) s.cqs (16 * fn + r) k }
/-- A fetched descriptor by its number. -/
def State.desc (s : State) (i : Nat) : Option HostDesc := s.descs.find? fun d => d.id == i
/-- A fetched descriptor changed. -/
def State.modDesc (s : State) (i : Nat) (f : HostDesc → HostDesc) : State :=
  { s with descs := s.descs.map fun d => if d.id = i then f d else d }

/-- A byte of host memory at an IOVA of a function. -/
def hostKey (fn a : Nat) : Nat := fn * 2 ^ 64 + a
/-- Host bytes read (R592: through the host port). -/
def State.hostRead (s : State) (fn a n : Nat) : List Byte := tblRun (fun _ => 0) s.host (hostKey fn a) n
/-- Host bytes written as posted requests (R592). -/
def State.hostWrite (s : State) (fn a : Nat) (bs : List Byte) : State :=
  { s with host := tblSetRun (fun _ => 0) s.host (hostKey fn a) bs }
/-- A little-endian number in host memory. -/
def State.hostNat (s : State) (fn a n : Nat) : Nat := ofBytes (s.hostRead fn a n)

/-- OWNER of a Ledger record for a partition: VALID, partition, composition ID (R511). -/
def State.ownerOf (s : State) (p : Nat) : Nat := 2 ^ 31 + p * 2 ^ 24 + (s.part p).comp

/-- A Ledger event of a partition. -/
def State.ledgerPart (s : State) (type p object code arg value : Nat) : State :=
  s.ledgerFull type (srcOf3 0xFF 0 0) (s.ownerOf p) object code arg value

/-- A Ledger event without owner. -/
def State.ledger (s : State) (type source object code value : Nat) : State :=
  s.ledgerFull type source 0 object code 0 value

/-! The DRBG (R451, R452) -/

/-- The DRBG serves (R455). -/
def State.drbgUp (s : State) : Bool := s.cus.es == .ready

/-- DRBG output for `n` keys or nonces: generate requests counted, with the reseed that 2^20 of them force (R452). -/
def State.drbg (s : State) (n : Nat) : State :=
  if s.cus.reqs + n ≤ 2 ^ 20 then { s with cus := { s.cus with reqs := s.cus.reqs + n } }
  else { s with cus := { s.cus with reqs := n, reseeds := satAdd 0xFFFFFFFF s.cus.reseeds 1 } }

/-- A fresh number for a working key (log 8). -/
def State.newKey (s : State) : State × Nat :=
  ({ s.drbg 1 with cus := { (s.drbg 1).cus with keyCount := (s.drbg 1).cus.keyCount + 1 } }, s.cus.keyCount + 1)

/-! Mailbox events (R420 to R422) -/

def State.inst (s : State) (v : Nat) : Inst := tblGet (fun _ => Inst.reset) s.insts v
def State.setInst (s : State) (v : Nat) (k : Inst) : State := { s with insts := tblSet (fun _ => Inst.reset) s.insts v k }
def State.modInst (s : State) (v : Nat) (f : Inst → Inst) : State := s.setInst v (f (s.inst v))

/-- The VF whose instance serves partition `p`. -/
def State.instOf (s : State) (p : Nat) : Option Nat :=
  (s.insts.find? fun e => e.2.st != .absent && e.2.part == p).map (·.1)

/-- An event without content, the default of the ring table. -/
def mbNone : MbEvent := ⟨0, 0, 0, 0⟩

/-- The object of an event for merging (R421; DEDUCED from Table 11, log 14). -/
def mbKey (type detail : Nat) : Nat :=
  match type with
  | 0x02 => bits detail 95 80
  | 0x04 | 0x05 => bits detail 41 32
  | 0x06 => bits detail 37 24
  | 0x07 | 0x08 => bits detail 31 0
  | 0x09 => bits detail 15 0
  | 0x0A | 0x0B => 0
  | _ => detail

/-- The ring is full: the indices are equal and the wraps differ (R420). -/
def Inst.full (i : Inst) : Bool := i.head == i.tail && i.headWrap != i.tailWrap
/-- The ring is empty. -/
def Inst.empty (i : Inst) : Bool := i.head == i.tail && i.headWrap == i.tailWrap

/-- An event written at the tail (R420). -/
def Inst.put (i : Inst) (e : MbEvent) : Inst :=
  { i with ring := tblSet (fun _ => mbNone) i.ring i.tail e,
           tail := if i.tail = 95 then 0 else i.tail + 1,
           tailWrap := if i.tail = 95 then !i.tailWrap else i.tailWrap }

/-- A held event of the same type and object, with its count raised (R421). -/
def mergeHeld (e : MbEvent) : List MbEvent → Option (List MbEvent)
  | [] => none
  | h :: t =>
    if h.type = e.type ∧ mbKey h.type h.detail = mbKey e.type e.detail then
      some ({ h with count := satAdd 65535 h.count e.count } :: t)
    else (mergeHeld e t).map (h :: ·)

/-- An event offered to an instance: written, held, merged, or discarded and counted (R421). -/
def Inst.offer (i : Inst) (e : MbEvent) : Inst :=
  if !i.full && i.held.isEmpty then i.put e
  else match mergeHeld e i.held with
    | some h => { i with held := h }
    | none =>
      if i.held.length < 32 then { i with held := i.held ++ [e] }
      else { i with lost := tblSet (fun _ => 0) i.lost e.type (satAdd 0xFFFFFFFF (tblGet (fun _ => 0) i.lost e.type) 1) }

/-- A mailbox event for partition `p`: VF vector 0 rises with NOTIFY when the ring was empty (R420); without an instance
the event becomes a Ledger record. -/
def State.mbEvent (s : State) (p type detail : Nat) : State :=
  match s.instOf p with
  | none => s.ledgerPart 0x0702 p type 0 0 0
  | some v =>
    let i := s.inst v
    let s' := s.setInst v (i.offer ⟨type, 1, s.now, detail⟩)
    if i.empty && i.held.isEmpty && i.notify then s'.msix v 0 else s'

/-- FAB_TS_STATUS.VALID (R45). -/
def State.timeValid (s : State) : Bool :=
  (s.time.st == .root || s.time.st == .locked || s.time.st == .holdover) && !s.time.conflict

/-! Slack telemetry (R507, R508) -/

def State.slackOf (s : State) (e : Nat) : Slack := tblGet (fun _ => Slack.empty) s.slack e
def State.setSlack (s : State) (e : Nat) (k : Slack) : State := { s with slack := tblSet (fun _ => Slack.empty) s.slack e k }

/-- The slack entry of a partition and phase. -/
def State.findSlack (s : State) (p ph : Nat) : Option Nat :=
  (s.slack.find? fun e => e.2.valid && e.2.part == p && e.2.phase == ph).map (·.1)

/-- The entry least recently updated. -/
def oldestSlack : Tbl Slack → Option (Nat × Slack)
  | [] => none
  | x :: xs => match oldestSlack xs with
    | none => some x
    | some y => if x.2.stamp ≤ y.2.stamp then some x else some y

/-- The entry that takes a new partition and phase: the lowest unused, else the one least recently updated, which is
counted. -/
def State.takeSlack (s : State) : State × Nat :=
  match (List.range 256).find? fun e => !(s.slackOf e).valid with
  | some e => (s, e)
  | none => (s.bump (bPWR + 0x24) 1, ((oldestSlack s.slack).map (·.1)).getD 0)

/-- A core's phase instance ends (R507). -/
def State.phaseEnd (s : State) (c : Nat) : State :=
  let k := s.core c
  match k.phase with
  | none => s
  | some ph =>
    let r := match s.findSlack k.part ph with
      | some e => (s, e)
      | none => s.takeSlack
    let old := r.1.slackOf r.2
    let base := if old.valid ∧ old.part = k.part ∧ old.phase = ph then old else { Slack.empty with part := k.part, phase := ph }
    let top := 2 ^ 64 - 1
    let e : Slack :=
      { base with
        valid := true, crit := base.crit || k.crit, count := satAdd 0xFFFFFFFF base.count 1,
        active := satAdd top base.active (s.now - k.phaseAt), wait := satAdd top base.wait k.waitAcc,
        energy := satAdd top base.energy (((s.clu (c / 16)).energy - k.phaseEnergy) / 32), stamp := s.pwr.slackClock }
    let s1 := r.1.setSlack r.2 e
    { s1 with pwr := { s1.pwr with slackClock := s1.pwr.slackClock + 1 } }

/-! Launch faults (R138) -/

/-- The core takes part in a running launch. -/
def Core.active (k : Core) : Bool :=
  k.st == .running || k.st == .waiting || k.st == .stalled || k.st == .stopped

/-- A core stopped with a fault code; the steps in its queues are discarded, transfers handed to an engine run on. -/
def Core.stop (k : Core) (code : Nat) : Core :=
  { k with st := .faulted, fault := code, stall := .none, qMx := [], qVx := [], qSy := [], signals := [], waitObj := none,
           syWait := [], syDone := [], setsels := [], held := [],
           qXf := k.qXf.filter fun n => !(k.held.any fun h => h.seq == n) }

/-- Every other active core of partition `p` stopped with code 0x08 (R138). -/
def stopOthers (p c : Nat) : Tbl Core → Tbl Core
  | [] => []
  | e :: t => (e.1, if e.1 ≠ c ∧ e.2.part = p ∧ e.2.active then e.2.stop 8 else e.2) :: stopOthers p c t

/-- A message of this module's Curator to others (R338): kind 14, a fault of a virtual core. -/
def State.tellFault (s : State) (p vcore code : Nat) : State :=
  let q := s.part p
  let own := s.reg bFAB
  if q.anchor ≠ own then s.emit (.curator q.anchor 14 vcore code)
  else s.emits ((q.members.filter fun m => m.fid != own).map fun m => .curator m.fid 14 vcore code)

/-- The running launch of partition `p` faults; the virtual core and code of the first fault are kept, every other core of
the launch is stopped, and the other members are told (R137, R138). -/
def State.launchFault (s : State) (p c code : Nat) : State :=
  match (s.part p).launch with
  | none => s
  | some l =>
    let v := if c < 768 then (s.core c).vcore else 0xFFFFFFFF
    let l' := if l.result = 0 then { l with result := 1, faultCore := v, faultCode := code } else l
    let s1 := { s.modPart p (fun q => { q with launch := some l' }) with cores := stopOthers p c s.cores }
    if l.result = 0 then s1.tellFault p v code else s1

/-- SEQUENCER_FAULT: a core stops with a code of R138, Table 11, and its launch with it. -/
def State.seqFault (s : State) (c code : Nat) : State :=
  let p := (s.core c).part
  (s.modCore c (fun k => k.stop code)).launchFault p c code

/-- The outcome of a step. -/
abbrev Out := Host.Outcome State Fault Refusal

end Sys2Proof.Machine
end

