-- ==== Sys2Proof/Config.lean ====
section
/-! DEFINITION. What an implementation fixes and what the spec leaves open: constants without a body, of which nothing
can be proved beyond their type. -/
namespace Sys2Proof

/-- Result bits of the transcendental functions whose bits R88 does not specify, by FUNC code and operand (log 9). -/
opaque Config.transcendental : Nat → BitVec 32 → BitVec 32

/-- The slot a flit takes among a routing entry's eligible ones, by source and TAG (R296: not part of the protocol;
log 18). -/
opaque Config.routeChoice : Nat → Nat → Nat

/-- The module's serial number, from the identity the Custodian holds (R254; per part, log 11). -/
opaque Config.serial : BitVec 64
/-- STEP_MINOR of the part, 0x0 or 0x1 (R1). -/
opaque Config.stepMinor : Fin 2
/-- MODULE_REV of the part, less 0x03 (R1). -/
opaque Config.moduleRev : Fin 3
/-- The rate correction, in parts per 10^9, that the steering takes for a measured offset (R43 bounds it; log 26). -/
opaque Config.tsRate : Int → Int
/-- What FAB_TS_OFFSET reads for an offset outside its 32 bits, which R48 does not state (log 26). -/
opaque Config.tsOffset : Nat → BitVec 32
/-- Tenths of a core cycle that a cluster's droop detectors take from a nanosecond of its clock (R38; log 61). -/
opaque Config.stretch : Nat → Nat → Fin 2
/-- What befalls the arrays and the host in a nanosecond, which no rule times (R182, R195, R196, R235, R529; log 63): a kind and two
numbers. -/
opaque Config.strike : Nat → Nat × Nat × Nat
/-- The bank, over the module, that a 4 KiB block lies in, which no rule gives (R188; per part, log 11). -/
opaque Config.bankOf : Nat → Nat
/-- Delay in ns of the longest cable on a tree edge, the term c of R327 and R329 (log 11). -/
opaque Config.cableDelay : Nat

/-- The module's MCTP endpoint UUID, 16 bytes (R402; per part, log 11). -/
opaque Config.uuid : BitVec 128
/-- The MCTP version entries answered for a message type, which the spec leaves to the MCTP standards (R402; log 37). -/
opaque Config.mctpVersions : Nat → List (BitVec 8)
/-- The FRU-like answers of PLDM and SPDM that their standards give and the spec does not restate (R475, R544; log 37). -/
opaque Config.standardReply : Nat → List (BitVec 8)
/-- The key stream of AES-256-GCM: key, nonce, place of the byte (log 8). -/
opaque Config.gcmStream : Nat → Nat → Nat → BitVec 8
/-- The tag of AES-256-GCM: key, nonce, associated data, ciphertext (log 8). -/
opaque Config.gcmTag : Nat → Nat → List (BitVec 8) → List (BitVec 8) → BitVec 128
/-- AES-256 key wrap with padding: wrapping key, key material (log 8). -/
opaque Config.keyWrap : Nat → Nat → List (BitVec 8)
/-- AES-256 key wrap, opened: wrapping key, wrapped bytes; none where it fails (log 8). -/
opaque Config.keyUnwrap : Nat → List (BitVec 8) → Option Nat
/-- The certificate chains of the module's production or test root: chain, whether the test root is used, and what the Alias
certificate carries (R433; log 8). -/
opaque Config.certs : Nat → Bool → List (BitVec 8) → List (BitVec 8)
/-- Digest of the Custodian ROM (R477; per part, log 11). -/
opaque Config.romDigest : BitVec 384

/-- The UDS, which the ROM alone reads (R432; per part, log 8). -/
opaque Config.uds : BitVec 256
/-- The SP 800-108 KDF in counter mode with HMAC-SHA-384: key, label, context, bits (R431; log 8). -/
opaque Config.kdf : List (BitVec 8) → List (BitVec 8) → List (BitVec 8) → Nat → Nat
/-- HMAC-SHA-384: key, text (R432, R438; log 8). -/
opaque Config.hmac384 : List (BitVec 8) → List (BitVec 8) → BitVec 384
/-- ML-KEM-1024 (FIPS 203) from a 64-byte seed: the encapsulation key (R431; log 8). -/
opaque Config.mlkemPublic : Nat → List (BitVec 8)
/-- ML-KEM-1024 encapsulation to a key with randomness: ciphertext, shared secret (log 8). -/
opaque Config.mlkemEncaps : List (BitVec 8) → Nat → List (BitVec 8) × List (BitVec 8)
/-- ML-KEM-1024 decapsulation: seed, ciphertext; the shared secret (log 8). -/
opaque Config.mlkemDecaps : Nat → List (BitVec 8) → List (BitVec 8)
/-- P-384 (FIPS 186-5) from 64 bytes of derived bits: the public key, uncompressed (R431; log 8). -/
opaque Config.p384Public : Nat → List (BitVec 8)
/-- ECDH on P-384: private bits, the other public key; the shared secret (log 8). -/
opaque Config.ecdh : Nat → List (BitVec 8) → List (BitVec 8)
/-- ML-DSA-87 (FIPS 204) from a 32-byte seed: the public key (R431; log 8). -/
opaque Config.mldsaPublic : Nat → List (BitVec 8)
/-- Both certificate chains without their root, as link keying carries them: whether the test root is used, and what the Alias
certificates carry (R469; log 8). -/
opaque Config.linkCerts : Bool → List (BitVec 8) → List (BitVec 8)
/-- Signatures: 0 ECDSA P-384, 1 ML-DSA-87; the private seed, the randomness taken, the bytes signed (R433; log 8). -/
opaque Config.sign : Nat → Nat → Nat → List (BitVec 8) → List (BitVec 8)
/-- SHA-384 of a byte string, which the spec names and does not restate (log 8). -/
opaque Config.sha384 : List (BitVec 8) → BitVec 384

/-- A value the spec leaves open, drawn fresh by the state's counter of free values (log 4). -/
opaque Config.free : Nat → Nat

end Sys2Proof
end

