-- ==== Sys2Proof/Machine/Wire.lean ====
section
/-! DEFINITION. What crosses a link, byte for byte: flits, control words, bundles, and the fragments of REKEY messages, with their
CRCs, nonces and tags (spec/11: R271 to R277; spec/17: R467, R468). -/
namespace Sys2Proof.Machine

/-- One bit of a reflected CRC-32C. -/
def crcBit (c : Nat) : Nat := if c % 2 = 1 then (c / 2) ^^^ 0x82F63B78 else c / 2
/-- One byte. -/
def crcByte (c : Nat) (b : Byte) : Nat :=
  crcBit (crcBit (crcBit (crcBit (crcBit (crcBit (crcBit (crcBit (c ^^^ b.toNat))))))))
/-- CRC-32C (Castagnoli) of a byte string. -/
def crc32c (bs : List Byte) : Nat := bs.foldl crcByte 0xFFFFFFFF ^^^ 0xFFFFFFFF

/-- A byte string cut, or filled up with zeros, to `n` bytes. -/
def fit (n : Nat) (bs : List Byte) : List Byte := bs.take n ++ List.replicate (n - bs.length) 0

/-! Flits (R274, Table 1) -/

/-- Bytes 0 to 31 of a flit. -/
def LFlit.header (x : LFlit) : Nat :=
  let f := x.flit
  x.lseq % 2 ^ 16 * 2 ^ 240 + f.vc % 8 * 2 ^ 237 + (if x.pool then 2 ^ 236 else 0) + f.hops % 4 * 2 ^ 234 + f.kind % 256 * 2 ^ 224
    + f.dst % 2 ^ 14 * 2 ^ 210 + f.src % 2 ^ 14 * 2 ^ 196 + f.comp % 2 ^ 24 * 2 ^ 172 + f.cepoch % 2 ^ 16 * 2 ^ 156
    + f.tag % 2 ^ 16 * 2 ^ 140 + f.units % 16 * 2 ^ 136 + f.total % 256 * 2 ^ 128 + f.window % 2 ^ 10 * 2 ^ 118
    + f.gen % 256 * 2 ^ 110 + f.offset % 2 ^ 42 * 2 ^ 68 + f.aux % 2 ^ 32 * 2 ^ 32 + f.check % 2 ^ 32

/-- The 256 bytes of a flit; units beyond UNITS are zero (R275). -/
def LFlit.bytes (x : LFlit) : List Byte := toBytes 32 x.header ++ fit 224 x.flit.body

/-- The flit that 256 bytes spell. -/
def LFlit.ofBytes (bs : List Byte) : LFlit :=
  let h := Machine.ofBytes (bs.take 32)
  ⟨bits h 255 240, bitAt h 236,
   { kind := bits h 231 224, vc := bits h 239 237, hops := bits h 235 234, dst := bits h 223 210, src := bits h 209 196,
     comp := bits h 195 172, cepoch := bits h 171 156, tag := bits h 155 140, units := bits h 139 136, total := bits h 135 128,
     window := bits h 127 118, gen := bits h 117 110, offset := bits h 109 68, aux := bits h 63 32, body := bs.drop 32,
     check := bits h 31 0 }⟩

/-- CHECK of a flit: CRC-32C over bytes 4 to 28 and 32 to 255, which no hop rewrites (R274, R275). -/
def Flit.crc (f : Flit) : Nat :=
  let bs := LFlit.bytes ⟨0, false, f⟩
  crc32c ((bs.drop 4).take 25 ++ bs.drop 32)

/-- A flit as its source sends it (R275). -/
def Flit.sealed (f : Flit) : Flit := { f with check := f.crc, slot := none }

/-- The `n` flits of a bundle's plaintext. -/
def flitsOf : Nat → List Byte → List LFlit
  | 0, _ => []
  | n + 1, bs => LFlit.ofBytes (bs.take 256) :: flitsOf n (bs.drop 256)

/-! Nonces and tags (R273, R277, R467) -/

/-- A text under AES-256-GCM: each byte with its byte of the key stream, either way (log 8). -/
def gcmText (key nonce : Nat) (bs : List Byte) : List Byte := bs.mapIdx fun i b => b ^^^ Config.gcmStream key nonce i

/-- AES-256-GCM sealing: ciphertext and tag. -/
def gcmSeal (key nonce : Nat) (aad bs : List Byte) : List Byte × List Byte :=
  let ct := gcmText key nonce bs
  (ct, toBytes 16 (Config.gcmTag key nonce aad ct).toNat)

/-- AES-256-GCM opening: the plaintext, where the tag verifies. -/
def gcmOpen (key nonce : Nat) (aad ct tag : List Byte) : Option (List Byte) :=
  if tag = toBytes 16 (Config.gcmTag key nonce aad ct).toNat then some (gcmText key nonce ct) else none

/-- The nonce of a bundle (`use` 0) or a control word (`use` 1): key epoch, counter. -/
def linkNonce (epoch ctr use : Nat) : Nat := epoch % 2 ^ 32 * 2 ^ 64 + ctr % 2 ^ 48 * 2 ^ 16 + use

/-- The bytes of a bundle: up to eight flits and NULL flits after them, sealed, and the tag (R271 to R273). -/
def sealBundle (key epoch ctr : Nat) (fs : List LFlit) : List Byte :=
  let r := gcmSeal key (linkNonce epoch ctr 0) [] (fit 2048 (fs.flatMap LFlit.bytes))
  fit 2048 r.1 ++ fit 16 r.2

/-- The plaintext of a bundle under a key, where its tag verifies (R273). -/
def openBundle (key epoch ctr : Nat) (body tag : List Byte) : Option (List Byte) :=
  gcmOpen key (linkNonce epoch ctr 0) [] body tag

/-! Control words (R276, Table 2) -/

/-- A control word without its MAC field. -/
def wordTop (kind payload cctr : Nat) : Nat := kind % 256 * 2 ^ 248 + payload % 2 ^ 128 * 2 ^ 112 + cctr % 2 ^ 48 * 2 ^ 64

/-- The CRC of an unauthenticated word, over bytes 4 to 31. -/
def wordCrc (kind payload : Nat) : Nat := crc32c ((toBytes 32 (wordTop kind payload 0)).drop 4)

/-- The MAC of an authenticated word: a GMAC over the rest of the word, cut to its first 64 bits (R277; DEDUCED log 25). -/
def wordMac (key epoch kind payload cctr : Nat) : Nat :=
  Machine.ofBytes (fit 8 (gcmSeal key (linkNonce epoch cctr 1) ((toBytes 32 (wordTop kind payload cctr)).drop 8) []).2)

/-- The 32 bytes of a control word. -/
def CtlWord.bytes (w : CtlWord) : List Byte := toBytes 32 (wordTop w.kind w.payload w.cctr + w.mac)

/-- The payload of a hello (R254, Table 4). -/
def Hello.payload (h : Hello) : Nat :=
  h.serial % 2 ^ 64 * 2 ^ 64 + h.proto % 256 * 2 ^ 56 + h.fid % 2 ^ 14 * 2 ^ 36 + h.link % 128 * 2 ^ 29
    + (if h.goodbye then 4 else 0) + (if h.ready then 2 else 0)

/-- The payload of an EPOCH word (R276, Table 3). -/
def epochPayload (active staged : Nat) (ready : Bool) : Nat :=
  active % 2 ^ 32 * 2 ^ 96 + staged % 2 ^ 32 * 2 ^ 64 + (if ready then 1 else 0)

/-! REKEY messages (R468) -/

/-- The payload of one fragment. -/
def rekeyPayload (msg xid frag data : Nat) : Nat :=
  msg % 16 * 2 ^ 124 + xid % 256 * 2 ^ 112 + frag % 2 ^ 16 * 2 ^ 96 + data % 2 ^ 96

/-- The fragments after the first: twelve bytes each. -/
def rekeyRest (msg xid frag : Nat) : Nat → List Byte → List Nat
  | 0, _ => []
  | fuel + 1, bs =>
    if bs.isEmpty then []
    else rekeyPayload msg xid frag (Machine.ofBytes (bs.take 12)) :: rekeyRest msg xid (frag + 1) fuel (bs.drop 12)

/-- The payloads of a message's words; `small` is the data of a message of length 0. -/
def rekeyWords (msg xid : Nat) (bs : List Byte) (small : Nat) : List Nat :=
  rekeyPayload msg xid 0 (bs.length % 2 ^ 32 * 2 ^ 64 + (if bs.isEmpty then small else Machine.ofBytes (bs.take 8)))
    :: rekeyRest msg xid 1 bs.length (bs.drop 8)

end Sys2Proof.Machine
end

