-- ==== Sys2Proof/Machine/FabOps.lean ====
section
/-! DEFINITION. Sending on the fabric: routing, virtual channels, credits and the replay buffer (spec/11: R271 to R275,
R280 to R283, R295, R296, R299). -/
namespace Sys2Proof.Machine

/-- A request kind, which travels on VC 0 to 2 (R287, Table 5). -/
def isRequestKind (k : Nat) : Bool := k == 0x10 || k == 0x11 || k == 0x12 || k == 0x13
/-- A response kind, which travels on VC 3 to 5. -/
def isResponseKind (k : Nat) : Bool := k == 0x30 || k == 0x31 || k == 0x32

/-- Virtual channel of a flit by its kind and hops (R280, Table 4). -/
def vcOf (kind hops : Nat) : Nat := if kind = 0x20 then 6 else if isResponseKind kind then 3 + hops else hops

/-- A drop counted, with a coalesced Ledger record (R304). `off` is the counter's offset in the FAB block. -/
def State.dropFlit (s : State) (off : Nat) : State := (s.bump (bFAB + off) 1).ledger 0x0302 (srcOf3 4 0 0) 0 off 0

/-- Key of a routing entry: destination (g, m) has index 48 g + m (R293). -/
def routeIndex (dst : Nat) : Nat := 48 * (dst / 64) + dst % 64

/-- A valid slot of a routing entry: link and weight (R295). -/
def routeSlot (e i : Nat) : Option (Nat × Nat) :=
  let v := e / 2 ^ (12 * i) % 4096
  if bitAt v 11 && v % 16 != 0 then some (bits v 10 4, v % 16) else none

/-- The eligible slots of a destination: valid, on an ACTIVE link (R296). -/
def State.eligible (s : State) (dst : Nat) : List (Nat × Nat) :=
  let e := tblGet (fun _ => 0) s.rteAct (routeIndex dst)
  ((List.range 8).filterMap (routeSlot e)).filter fun x => decide (x.1 < 96) && (s.lnk x.1).st == .active

/-- The slot that a number below the total weight falls into. -/
def pickSlot : List (Nat × Nat) → Nat → Option Nat
  | [], _ => none
  | x :: xs, n => if n < x.2 then some x.1 else pickSlot xs (n - x.2)

/-- Sum of the weights. -/
def weightSum : List (Nat × Nat) → Nat
  | [] => 0
  | x :: xs => x.2 + weightSum xs

/-- Credit for a channel: dedicated first, then shared (R281). -/
def Link.hasCredit (l : Link) (vc : Nat) : Bool := decide (0 < nth 0 l.credDed vc) || decide (0 < l.credShared)

/-- The first queued flit whose channel has credit, and the others. -/
def takeSendable (l : Link) : List Flit → Option (Flit × List Flit)
  | [] => none
  | f :: fs =>
    if l.hasCredit f.vc then some (f, fs)
    else match takeSendable l fs with
      | some (g, rest) => some (g, f :: rest)
      | none => none

/-- The counter value at which a key sends nothing more (R473). -/
def ctrLimit : Nat := 2 ^ 48 - 2 ^ 16

/-- One flit put into a bundle: LSEQ taken, credit spent, held in the replay buffer (R281, R282). -/
def Link.sendOne (l : Link) (f : Flit) (rest : List Flit) : Link × LFlit :=
  let ded := decide (0 < nth 0 l.credDed f.vc)
  let lf : LFlit := ⟨l.txLseq, !ded, f⟩
  ({ l with queue := rest, txLseq := (l.txLseq + 1) % 65536, replay := l.replay ++ [lf],
            credDed := if ded then l.credDed.set f.vc (nth 0 l.credDed f.vc - 1) else l.credDed,
            credShared := if ded then l.credShared else l.credShared - 1 }, lf)

/-- The queued flits that a bundle takes, up to `n`: each with credit and replay room (R272, R281, R282). -/
def Link.fill (l : Link) : Nat → Link × List LFlit
  | 0 => (l, [])
  | n + 1 =>
    if l.replay.length ≥ 512 then (l, [])
    else match takeSendable l l.queue with
      | some (f, rest) =>
        let r := l.sendOne f rest
        let t := r.1.fill n
        (t.1, r.2 :: t.2)
      | none => (l, [])

/-! The receive buffer (R281) -/

/-- Place of a slot's count in `held`. -/
def Slot.index (x : Slot) : Nat := if x.pool then 7 else x.vc

/-- A slot of that kind is free: 8 for each of VC 0 to 6, and 328 shared. -/
def Link.hasSlot (l : Link) (x : Slot) : Bool := decide (nth 0 l.held x.index < if x.pool then 328 else 8)

/-- A slot taken by an accepted flit. -/
def Link.takeSlot (l : Link) (x : Slot) : Link := { l with held := l.held.set x.index (nth 0 l.held x.index + 1) }

/-- A slot freed into the pool it came from; the next CREDIT_ACK returns it. -/
def Link.freeSlot (l : Link) (x : Slot) : Link :=
  let l1 := { l with held := l.held.set x.index (nth 0 l.held x.index - 1), ackDue := true }
  if x.pool then { l1 with freedShared := (l.freedShared + 1) % 65536 }
  else { l1 with freedDed := l.freedDed.set x.vc ((nth 0 l.freedDed x.vc + 1) % 256) }

/-- The slot of a flit that has left this module, or that it has dropped or delivered. -/
def State.freeRx (s : State) (f : Flit) : State :=
  match f.slot with
  | some x => s.modLnk x.link fun l => l.freeSlot x
  | none => s

/-- The slots of flits sent on. -/
def State.freeRxs (s : State) : List LFlit → State
  | [] => s
  | f :: fs => (s.freeRx f.flit).freeRxs fs

/-- A flit no longer tied to a link whose receive buffer has started afresh. -/
def Flit.unslot (i : Nat) (f : Flit) : Flit := if f.slot.any fun x => x.link == i then { f with slot := none } else f

/-- No queued flit holds a slot of a link any longer. -/
def State.dropSlots (s : State) (i : Nat) : State :=
  { s with links := s.links.map fun e => (e.1, { e.2 with queue := e.2.queue.map (Flit.unslot i) }) }

/-! Sending (R271 to R273, R282, R296, R299) -/

/-- A bundle sent: it takes the next value of the bundle counter and its place in the stream of data blocks (R271, R273). -/
def State.sendBundle (s : State) (i : Nat) (fs : List LFlit) : State :=
  let l := s.lnk i
  (s.setLnk i { l with txCtr := l.txCtr + 1, txPos := (l.txPos + 16) % 32 }).emit
    (.bundle i l.txPos (sealBundle l.txKey l.keyEpoch l.txCtr fs))

/-- Queued flits leave in bundles of up to eight while the link is ACTIVE, not under epoch hold, and has credit and replay room
(R272, R282, R299); how many share a bundle is a DESIGN CHOICE (log 25). Their receive slots are freed. -/
def State.pumpLink (s : State) (i : Nat) : Nat → State
  | 0 => s
  | fuel + 1 =>
    let l := s.lnk i
    if l.st = .active ∧ !l.hold ∧ l.txCtr < ctrLimit then
      let r := l.fill 8
      if r.2.isEmpty then s else (((s.setLnk i r.1).sendBundle i r.2).freeRxs r.2).pumpLink i fuel
    else s

/-- All that can leave a link does. -/
def State.pump (s : State) (i : Nat) : State := s.pumpLink i (s.lnk i).queue.length

/-- A flit queued on a link for its next hop. -/
def State.queueOn (s : State) (i : Nat) (f : Flit) : State :=
  (s.modLnk i fun l => { l with queue := l.queue ++ [f] }).pump i

/-- A flit delivered in this module: the body is the units that carry data. -/
def State.deliver (s : State) (f : Flit) : State := (s.freeRx f).emit (.deliver { f with body := f.body.take (32 * f.units) })

/-- A flit that the module must send onward (R296): local, routed to a slot by weight, or dropped without a route. GOP
flits are sent on the link of their tree edge and never come here. -/
def State.route (s : State) (f : Flit) : State :=
  if f.dst = s.reg bFAB then s.deliver f
  else
    let es := s.eligible f.dst
    let f' := { f with vc := vcOf f.kind f.hops }
    match pickSlot es (Config.routeChoice f.src f.tag % max 1 (weightSum es)) with
    | some i => s.queueOn i f'
    | none => (s.freeRx f).dropFlit 0x108

/-- A flit sent by this module, its source, which computes CHECK (R275). -/
def State.sendFlit (s : State) (f : Flit) : State := s.route f.sealed

end Sys2Proof.Machine
end

