-- ==== Sys2Proof/Machine/Scratch.lean ====
section
/-! DEFINITION. Scratchpads (R89, R93, R594): a byte is kept at core × 2^20 + offset, a line at core × 2^15 + line, a
64-bit word at core × 2^17 + word. -/
namespace Sys2Proof.Machine

/-- The written-since-bind bit of the line at `off` (R93). -/
def State.lineWritten (s : State) (c off : Nat) : Bool := tblGet (fun _ => false) s.spadWritten (c * 2 ^ 15 + off / 32)

/-- One byte; a line whose bit is clear reads zero (R93). -/
def State.spadByte (s : State) (c off : Nat) : Byte :=
  if s.lineWritten c off then tblGet (fun _ => 0) s.spad (c * 2 ^ 20 + off) else 0

/-- `n` bytes from `off`. -/
def State.spadRead (s : State) (c off : Nat) : Nat → List Byte
  | 0 => []
  | n + 1 => s.spadByte c off :: s.spadRead c (off + 1) n

/-- The word at `off` is poisoned; a line whose bit is clear holds no poison (R594). -/
def State.spadPoisoned (s : State) (c off : Nat) : Bool :=
  s.lineWritten c off && tblGet (fun _ => false) s.spadPoison (c * 2 ^ 17 + off / 8)

/-- Poisoned words among the `n` words from the word of `off`. -/
def State.poisonWords (s : State) (c off : Nat) : Nat → Nat
  | 0 => 0
  | n + 1 => b2n (s.spadPoisoned c off) + s.poisonWords c (off + 8) n

/-- Poisoned words that the `n` bytes from `off` touch. -/
def State.poisonIn (s : State) (c off n : Nat) : Nat :=
  if n = 0 then 0 else s.poisonWords c (off / 8 * 8) ((off + n - 1) / 8 + 1 - off / 8)

/-- The line of `off` opened for a write: if its bit was clear, its bytes are zeros, its codes fresh, and the bit set
(R93, R594). -/
def State.openLine (s : State) (c off : Nat) : State :=
  if s.lineWritten c off then s
  else
    let l := off / 32
    { s with
      spad := tblClear (c * 2 ^ 20 + 32 * l) (c * 2 ^ 20 + 32 * l + 32) s.spad,
      spadPoison := tblClear (c * 2 ^ 17 + 4 * l) (c * 2 ^ 17 + 4 * l + 4) s.spadPoison,
      spadWritten := tblSet (fun _ => false) s.spadWritten (c * 2 ^ 15 + l) true }

/-- One byte of a write that covers [lo, hi): a poisoned word takes it only if the whole word is covered (R594). -/
def State.spadPut (s : State) (c lo hi off : Nat) (b : Byte) : State :=
  let s := s.openLine c off
  let w := off / 8
  if s.spadPoisoned c off && !(decide (lo ≤ 8 * w) && decide (8 * w + 8 ≤ hi)) then s
  else { s with spad := tblSet (fun _ => 0) s.spad (c * 2 ^ 20 + off) b }

/-- The poison of every word covered whole by [lo, lo + 8 n) cleared, from word `w`. -/
def clearWords (c w : Nat) : Nat → Tbl Bool → Tbl Bool
  | 0, t => t
  | n + 1, t => clearWords c (w + 1) n (tblSet (fun _ => false) t (c * 2 ^ 17 + w) false)

def State.spadPuts (s : State) (c lo hi off : Nat) : List Byte → State
  | [] => s
  | b :: bs => (s.spadPut c lo hi off b).spadPuts c lo hi (off + 1) bs

/-- A write of bytes from `off` (R93, R594). -/
def State.spadWrite (s : State) (c off : Nat) (bs : List Byte) : State :=
  let hi := off + bs.length
  let s' := s.spadPuts c off hi off bs
  let w0 := ceilDiv off 8
  { s' with spadPoison := clearWords c w0 (hi / 8 - w0) s'.spadPoison }

/-- A 32-bit word of the scratchpad. -/
def State.spadWord (s : State) (c off : Nat) : Nat := ofBytes (s.spadRead c off 4)
/-- A 32-bit word written. -/
def State.spadSetWord (s : State) (c off v : Nat) : State := s.spadWrite c off (toBytes 4 v)

/-- Flash clear of the scratchpads of a cluster (R93): every bit clear, and with it every poison mark. -/
def State.flashClear (s : State) (k : Nat) : State :=
  { s with
    spadWritten := tblClear (16 * k * 2 ^ 15) (16 * (k + 1) * 2 ^ 15) s.spadWritten,
    spadPoison := tblClear (16 * k * 2 ^ 17) (16 * (k + 1) * 2 ^ 17) s.spadPoison }

/-! Cluster counters (R100, R171) -/

/-- Address of a datapath counter of cluster `k`. -/
def dpReg (k off : Nat) : Nat := bSEQ + 0x10000 + 0x40 * k + off
/-- Address of a sparsity counter of cluster `k`. -/
def spReg (k off : Nat) : Nat := bSEQ + 0x10C00 + 0x40 * k + off

/-- Poisoned words counted at the core's cluster (R100). -/
def State.countPoison (s : State) (c n : Nat) : State := s.bump (dpReg (c / 16) 0x24) n

end Sys2Proof.Machine
end

