-- ==== Sys2Proof/Machine/SeqOps.lean ====
section
/-! DEFINITION. Operations of the itinerary sequencer shared by every step (spec/05): the position, loops, the image's
sections, descriptors and seeds, the unit queues and the front end's stalls. -/
namespace Sys2Proof.Machine

/-! Step words (R110): fields of a 128-bit word -/

/-- Bits [hi:lo] of a step word. -/
def fld (w : StepWord) (hi lo : Nat) : Nat := bits w.toNat hi lo
/-- Bit `i` of a step word. -/
def flag (w : StepWord) (i : Nat) : Bool := bitAt w.toNat i

/-! Loops and position (R115, R117, R119) -/

/-- Key of a loop in the count of begun bodies: the index of its first body step, with bit 31 for the variant section. -/
def loopKey (first : Nat) (inVar : Bool) : Nat := first + (if inVar then 2 ^ 31 else 0)

/-- How often the body of a loop has begun since launch start. -/
def Core.begunOf (k : Core) (key : Nat) : Nat := tblGet (fun _ => 0) k.begun key
/-- One more beginning of a loop body. -/
def Core.begin (k : Core) (key : Nat) : Core :=
  { k with begun := tblSet (fun _ => 0) k.begun key (k.begunOf key + 1) }

/-- The position settled after a step: a finished body repeats or ends its loop, a finished variant sequence returns
behind its VSEL. `fuel` bounds the nesting (four loops and one variant). -/
def Core.settle : Nat → Core → Core
  | 0, k => k
  | fuel + 1, k =>
    match k.loops with
    | f :: fs =>
      if f.inVar = k.inVar ∧ k.step = f.first + f.body then
        if f.iter + 1 < f.count then
          { k with step := f.first, loops := { f with iter := f.iter + 1 } :: fs }.begin (loopKey f.first f.inVar)
        else { k with loops := fs }.settle fuel
      else if k.inVar ∧ k.step = k.varEnd then { k with inVar := false, step := k.varRet }.settle fuel
      else k
    | [] =>
      if k.inVar ∧ k.step = k.varEnd then { k with inVar := false, step := k.varRet }.settle fuel
      else k

/-- The front end moves on to the next step (R108). -/
def Core.advance (k : Core) : Core := { k with step := k.step + 1 }.settle 6

/-- Iteration of the innermost active loop, or 0 (R115). -/
def Core.iteration (k : Core) : Nat := match k.loops with
  | f :: _ => f.iter
  | [] => 0

/-- Times the innermost loop's body has begun, minus one, or 0 (R115). -/
def Core.fIndex (k : Core) : Nat := match k.loops with
  | f :: _ => k.begunOf (loopKey f.first f.inVar) - 1
  | [] => 0

/-- The sequencer can dispatch: running, with nothing that stops the front end (R109). -/
def Core.ready (k : Core) : Bool := k.st == .running && k.stall == .none

/-! The image (R102, R103) -/

/-- The image the core's launch runs. -/
def State.imageOf (s : State) (k : Core) : List Byte :=
  match tblGet (fun _ => none) (s.part k.part).images k.slot with
  | some im => im.bytes
  | none => []

/-- A little-endian field of an image. -/
def imgField (bs : List Byte) (off n : Nat) : Nat := ofBytes ((bs.drop off).take n)
/-- OFFSET of a section. -/
def secOff (bs : List Byte) (i : Nat) : Nat := imgField bs (0x40 + 16 * i) 4
/-- BYTES of a section. -/
def secBytes (bs : List Byte) (i : Nat) : Nat := imgField bs (0x44 + 16 * i) 4
/-- COUNT of a section. -/
def secCount (bs : List Byte) (i : Nat) : Nat := imgField bs (0x48 + 16 * i) 4
/-- ENTRY_BYTES of a section. -/
def secEntry (bs : List Byte) (i : Nat) : Nat := imgField bs (0x4C + 16 * i) 4

/-- An operand descriptor from its 256 bits (R96, Table 10). -/
def descOf (v : Nat) : Desc :=
  { fmt := bits v 247 244, scaled := bitAt v 243, round := bits v 242 241, sparse := bitAt v 240,
    rows := bits v 223 192, aux := bits v 179 128, stride := bits v 127 96, elems := bits v 95 64,
    space := bits v 55 52, base := bits v 51 0 }

/-- A repeat descriptor from its 256 bits (R101, Table 16). -/
def repeatOf (v : Nat) : Repeat :=
  { src2 := bits v 255 208, dst2 := bits v 207 160, src1 := bits v 159 112, dst1 := bits v 111 64,
    count2 := bits v 63 32, count1 := bits v 31 0 }

/-- Raw 256 bits of a pool descriptor for a step's index field, advanced by the loop (R105, R115); none where the index
reaches past the section. -/
def State.poolRaw (s : State) (k : Core) (field stride extra : Nat) : Option Nat :=
  let im := s.imageOf k
  let i := k.descBase + field + (if field = 0xFFFF then 0 else stride * k.iteration) + extra
  if i < secCount im 4 then some (imgField im (secOff im 4 + 32 * i) 32) else none

/-- A descriptor with the executing core in place of virtual core 0xFFFF_FFFF (R106). -/
def ownCore (c : Nat) (d : Desc) : Desc :=
  if d.space = 1 ∧ d.base / 2 ^ 20 = 0xFFFFFFFF then { d with base := c * 2 ^ 20 + d.base % 2 ^ 20 } else d

/-- The descriptor a step's index field names. -/
def State.poolDesc (s : State) (c : Nat) (field stride extra : Nat) : Option Desc :=
  (s.poolRaw (s.core c) field stride extra).map fun v => ownCore c (descOf v)

/-- Core of a scratchpad descriptor. -/
def Desc.core (d : Desc) : Nat := d.base / 2 ^ 20
/-- Byte offset of a scratchpad descriptor. -/
def Desc.off (d : Desc) : Nat := d.base % 2 ^ 20
/-- Scratchpad offset of the scale or metadata plane (R96). -/
def Desc.auxOff (d : Desc) : Nat := d.aux % 2 ^ 20

/-- The salt of the core's launch. -/
def State.saltOf (s : State) (k : Core) : Nat := match (s.part k.part).launch with
  | some l => l.salt
  | none => 0

/-- The seed of a step (R115); none where the index reaches past the seed pool. -/
def State.seedOf (s : State) (c idx : Nat) : Option Nat :=
  let k := s.core c
  let im := s.imageOf k
  let i := k.seedBase + idx
  if i < secCount im 5 then
    some ((imgField im (secOff im 5 + 8 * i) 8 + s.saltOf k + 2 ^ 32 * k.fIndex) % 2 ^ 64)
  else none

/-! Queues (R108, R109) -/

/-- The steps of a queue that are dispatched and not completed. -/
def Core.queue (k : Core) : Queue → List Nat
  | .mx => k.qMx
  | .vx => k.qVx
  | .xf => k.qXf
  | .sy => k.qSy

/-- A queue replaced. -/
def Core.setQueue (k : Core) (q : Queue) (l : List Nat) : Core :=
  match q with
  | .mx => { k with qMx := l }
  | .vx => { k with qVx := l }
  | .xf => { k with qXf := l }
  | .sy => { k with qSy := l }

/-- A step dispatched to a queue of 32: it takes the next number. -/
def Core.enqueue (k : Core) (q : Queue) : Core := { k with seq := k.seq + 1 }.setQueue q (k.queue q ++ [k.seq])

/-- The front end moves on behind a dispatched step, unless that step has faulted the core (log 48). -/
def Core.moveOn (k : Core) : Core := if k.st = .faulted then k else k.advance

/-- A full queue stalls the front end (R108). -/
def Core.queueStall (k : Core) (q : Queue) : Core := { k with st := .stalled, stall := .queueFull q }

/-- All steps not completed. -/
def Core.outstanding (k : Core) : List Nat := k.qMx ++ k.qVx ++ k.qXf ++ k.qSy

/-- Steps outstanding in the queues of a 4-bit mask: bit 3 MX, 2 VX, 1 XF, 0 SY (R110, R116). -/
def Core.masked (k : Core) (m : Nat) : List Nat :=
  (if bitAt m 3 then k.qMx else []) ++ (if bitAt m 2 then k.qVx else [])
    ++ (if bitAt m 1 then k.qXf else []) ++ (if bitAt m 0 then k.qSy else [])

/-- Every queue is empty. -/
def Core.drained (k : Core) : Bool := k.outstanding.isEmpty

/-- The object reference of an object number of a step run by core `c` (R116, R306): a cluster-scope object of the
core's cluster, or the device object the Curator bound. -/
def State.objRef (s : State) (c n : Nat) : Option ObjRef :=
  if n < 0x100 then some ⟨s.reg bFAB, 0x100 * (c / 16) + n⟩
  else if n ≥ 0x80000 ∧ n < 0xFFFFF then
    tblGet (fun _ => none) (s.part (s.core c).part).dobj ((s.core c).slot * 2 ^ 20 + (n - 0x80000))
  else none

/-- An ADD sent to the object a core's step names (R308, R314): to the home on this module, or as a SIG flit to the
module that holds it, whose ACK completes the step (R316). `engine` and `seq` name what the ACK completes. Source
kinds: 0 core step, 1 transfer or bucket. -/
def State.raise (s : State) (c n amount srcKind engine seq : Nat) : State :=
  match s.objRef c n with
  | none => s.seqFault c 5
  | some r =>
    if r.fid = s.reg bFAB then s.emit (.objAdd r.obj amount srcKind c)
    else
      let p := s.part (s.core c).part
      let tag := s.freeTag
      (s.newTxn ⟨.sig, engine, c, seq, r.fid, r.obj, 0, 0, false⟩).sendFlit
        { kind := 0x13, vc := 0, hops := 0, dst := r.fid, src := s.reg bFAB, comp := p.comp, cepoch := p.epoch % 65536,
          tag := tag, units := 0, total := 0, window := 0, gen := 0, offset := 0, aux := r.obj * 65536 + amount * 256,
          body := [] }

/-- The object lies on another module, so that the signal completes with its ACK. -/
def State.isRemote (s : State) (c n : Nat) : Bool :=
  match s.objRef c n with
  | some r => r.fid != s.reg bFAB
  | none => false

/-- A completed step removed from what signals, fences and VSELs wait for. -/
def Core.dropDep (k : Core) (q : Nat) : Core :=
  { k with
    signals := k.signals.map (fun p => { p with deps := p.deps.filter (· ≠ q) }),
    setsels := k.setsels.filter (· ≠ q),
    stall := match k.stall with
      | .fence d => .fence (d.filter (· ≠ q))
      | .vsel d => .vsel (d.filter (· ≠ q))
      | x => x }

/-- Signals whose covered steps have all completed, and which no GLOBAL step not yet started precedes in the SY queue
(R108, R322), raised in order; each leaves the SY queue, a remote one when its
ACK arrives (R314, R116, R316). -/
def State.raiseReady (s : State) (c : Nat) : List PendSignal → State
  | [] => s
  | p :: ps =>
    if p.deps.isEmpty && (s.core c).syWait.all (fun g => decide (p.seq < g.seq)) then
      let s1 := (s.raise c p.obj p.amount 0 (880 + c) p.seq).modCore c
        (fun k => { k with signals := k.signals.filter (·.seq ≠ p.seq) })
      let s2 := if s.isRemote c p.obj then s1
        else s1.modCore c (fun k => ({ k with qSy := k.qSy.filter (· ≠ p.seq) }).dropDep p.seq)
      s2.raiseReady c ps
    else s.raiseReady c ps

/-- A stopped core of partition `p` whose next REBIND instance lies below `n`, sent on to the next one (R128 step 3). -/
def passBelow (p n : Nat) : Tbl Core → Tbl Core
  | [] => []
  | e :: t =>
    (e.1, if e.2.part = p ∧ e.2.st = .stopped ∧ e.2.rbseq + 1 < n then
      { e.2 with st := .running, rbseq := e.2.rbseq + 1 }.advance else e.2) :: passBelow p n t

/-- Every stopped core of partition `p` resumed where it stopped (R128 step 5). -/
def resumeAll (p : Nat) : Tbl Core → Tbl Core
  | [] => []
  | e :: t =>
    (e.1, if e.2.part = p ∧ e.2.st = .stopped then
      { e.2 with st := .running, rbseq := e.2.rbseq + 1 }.advance else e.2) :: resumeAll p t

/-- The largest REBIND instance at which a core of partition `p` is stopped (R128 step 3). -/
def maxStopped (p : Nat) : Tbl Core → Nat
  | [] => 0
  | e :: t => if e.2.part = p ∧ e.2.st = .stopped then max (e.2.rbseq + 1) (maxStopped p t) else maxStopped p t

/-- Every active core of partition `p` is stopped at instance `n`. -/
def allStopped (p n : Nat) : Tbl Core → Bool
  | [] => true
  | e :: t => (!(e.2.part == p && e.2.active) || (e.2.st == .stopped && e.2.rbseq + 1 == n)) && allStopped p n t

/-- A core has stopped at its REBIND: cores stopped below the largest instance go on, and once every core stands at one
instance the stop is reported to the Curator (R128 steps 2 to 4, R359). -/
def State.stopAtRebind (s : State) (c : Nat) : State :=
  let p := (s.core c).part
  let s1 := s.modCore c (fun k => { k with st := .stopped, stall := .none })
  let n := maxStopped p s1.cores
  let s2 := { s1 with cores := passBelow p n s1.cores }
  if allStopped p n s2.cores then s2.emit (.rebindStopped p n) else s2

/-- A drained END: the core is DONE; a pending re-bind request moves to the end of the launch and every stopped core
resumes, here and, once the anchor has heard, on every member (R128 step 5, R137). -/
def State.finishCore (s : State) (c : Nat) : State :=
  let s := s.phaseEnd c
  let k := s.core c
  let s1 := s.setCore c { k with st := .done, stall := .none, phase := none }
  match (s.part k.part).launch with
  | some l =>
    if l.rebind then
      let q := s1.part k.part
      let own := s1.reg bFAB
      let s2 := { s1.modPart k.part (fun q => { q with launch := some { l with rebind := false, carried := true } }) with
        cores := resumeAll k.part s1.cores }
      if q.anchor ≠ own then s2.emit (.curator q.anchor 29 0 0)
      else s2.emits ((q.members.filter fun m => m.fid != own).map fun m => .curator m.fid 25 0 0)
    else s1
  | none => s1

/-- What the front end waited for may have come about: room in a full queue, a fence, the SETSEL steps before a VSEL, the drain of END or REBIND (R109, R128,
R137). A drained REBIND stops at the rebind point while the launch's re-bind request is set, and passes otherwise. -/
def State.wakeFront (s : State) (c : Nat) : State :=
  let k := s.core c
  match k.stall with
  | .none => s
  | .queueFull q => if (k.queue q).length < 32 then s.setCore c { k with st := .running, stall := .none } else s
  | .vsel d => if d.isEmpty then s.setCore c { k with st := .running, stall := .none } else s
  | .fence d => if d.isEmpty then s.setCore c { k with st := .running, stall := .none }.advance else s
  | .drainEnd => if k.drained then s.finishCore c else s
  | .drainRebind =>
    if k.drained then
      if ((s.part k.part).launch.map (·.rebind)) = some true then s.stopAtRebind c
      else s.setCore c { k with st := .running, stall := .none, rbseq := k.rbseq + 1 }.advance
    else s

/-- Step number `n` of a core's queue has completed (R109): signals it held back leave, and the front end goes on. -/
def State.stepDone (s : State) (c : Nat) (q : Queue) (n : Nat) : State :=
  let s1 := s.modCore c (fun k => (k.setQueue q ((k.queue q).filter (· ≠ n))).dropDep n)
  (s1.raiseReady c (s1.core c).signals).wakeFront c

/-- A step dispatched to a queue by a running core: `f` is its effect, at the step's own loop iteration (R115), and the front
end moves on behind it. A full queue stalls instead, and a core that cannot dispatch does nothing (log 1). -/
def State.issue (s : State) (c : Nat) (q : Queue) (f : State → State) : State :=
  let k := s.core c
  if k.ready then
    if (k.queue q).length < 32 then (f (s.setCore c (k.enqueue q))).modCore c Core.moveOn
    else s.setCore c (k.queueStall q)
  else s

/-- A front-end step of a running core. -/
def State.front (s : State) (c : Nat) (f : Core → State) : State :=
  let k := s.core c
  if k.ready then f k else s

end Sys2Proof.Machine
end

