-- ==== Sys2Proof/Machine/LinkOps.lean ====
section
/-! DEFINITION. Operations over links and fabric time: state changes, the exit conditions of QUARANTINE, control words,
events to the fabric manager (spec/10; spec/11: R276 to R286, R298, R299; spec/14: R405; spec/02: R42 to R49). -/
namespace Sys2Proof.Machine

/-! Register keys -/

def kLnkCtrl (i : Nat) : Nat := bLNK + 0x40 * i
def kLnkExpect (i : Nat) : Nat := bLNK + 0x40 * i + 8
def kLnkFecCorr (i : Nat) : Nat := bLNK + 0x40 * i + 0x10
def kLnkFecUnc (i : Nat) : Nat := bLNK + 0x40 * i + 0x14
def kLnkDown (i : Nat) : Nat := bLNK + 0x40 * i + 0x18
def kRteEpoch : Nat := bFAB + 4
def kRteStaged : Nat := bFAB + 8
def kRteCtrl : Nat := bFAB + 0xC
def kSecAlarm : Nat := bSEC + 4

/-! Events to the fabric manager (R405) -/

/-- HIF_MCTP_FMEID.VALID. -/
def State.fmValid (s : State) : Bool := bitAt (s.reg (hifKey 0 (bHIF + 0x804))) 8

/-- An event merged into a pending one of its CODE and object. -/
def mergeEvent (code object : Nat) : List McEvent → Option (List McEvent)
  | [] => none
  | e :: es =>
    if e.code = code ∧ e.object = object then some ({ e with count := min 65535 (e.count + 1) } :: es)
    else (mergeEvent code object es).map (e :: ·)

/-- Waiting events taken into the free places, at most 32 unacknowledged; each is sent. While FMEID is not valid they
wait. -/
def State.sendEvents (s : State) : List McEvent → State
  | [] => { s with eventsWait := [] }
  | e :: es =>
    if s.fmValid ∧ s.events.length < 32 then
      let e' := { e with seq := s.eventSeq }
      ({ s with events := s.events ++ [e'], eventSeq := (s.eventSeq + 1) % 256 }.emit (.event e')).sendEvents es
    else { s with eventsWait := e :: es }

/-- An event of R405. -/
def State.mctpEvent (s : State) (code object : Nat) : State :=
  match mergeEvent code object s.events with
  | some es => { s with events := es }
  | none =>
    match mergeEvent code object s.eventsWait with
    | some es => { s with eventsWait := es }
    | none => s.sendEvents (s.eventsWait ++ [⟨0, code, object, s.now, 1⟩])

/-- Bits set in an event register of the SVC block; any raises the PF0 service vector (R270, R583). -/
def State.svcEvt (s : State) (k m : Nat) : State := (s.setBits k m).msix 0 3

/-- A bit of SEC_ALARM with the PF0 security vector (R456). -/
def State.secAlarm (s : State) (b : Nat) : State := (s.setBits kSecAlarm (2 ^ b)).msix 0 4

/-- A Ledger record of class 0x0B (R582). -/
def State.panelRecord (s : State) (event object code value : Nat) : State :=
  s.ledger (0x0B00 + event) (srcOf3 0xFF 0 0) object code value

/-! Control words -/

/-- Authenticated words of one kind under a link's key, with the control counters from `c` on (R277). -/
def Link.words (l : Link) (i kind c : Nat) : List Nat → List Emit
  | [] => []
  | p :: ps => .control i ⟨kind, p, c, wordMac l.txKey l.keyEpoch kind p c⟩ :: l.words i kind (c + 1) ps

/-- Control words sent: authenticated ones take the next control counters (R277), and none leaves once the counter has reached
its limit (R473); unauthenticated ones carry a CRC (R276). -/
def State.sendWords (s : State) (i kind : Nat) (payloads : List Nat) (auth : Bool) : State :=
  if auth then
    let l := s.lnk i
    let ps := payloads.take (ctrLimit - 1 - l.txCctr)
    (s.setLnk i { l with txCctr := l.txCctr + ps.length }).emits (l.words i kind (l.txCctr + 1) ps)
  else s.emits (payloads.map fun p => .control i ⟨kind, p, 0, wordCrc kind p⟩)

/-- One control word sent. -/
def State.control (s : State) (i kind payload : Nat) (auth : Bool) : State := s.sendWords i kind [payload] auth

/-- The link carries authenticated words (R276, Table 3). -/
def Link.carries (l : Link) : Bool := l.st == .active || l.st == .draining

/-- An EPOCH word sent: active epoch, staged epoch, STAGE_READY (R276). -/
def State.announce (s : State) (i : Nat) : State :=
  let l := s.lnk i
  let pay := epochPayload (s.reg kRteEpoch) (s.reg kRteStaged) (bitAt (s.reg kRteCtrl) 2)
  if l.carries then s.control i 2 pay true
  else if l.st = .quarantine then s.control i 2 pay false
  else s

/-- EPOCH words on the links `is`. -/
def State.announceOn (s : State) : List Nat → State
  | [] => s
  | i :: is => (s.announce i).announceOn is

/-- All links. -/
def allLinks : List Nat := List.range 96

/-! Conditions of R255 and R257 -/

/-- LINK_PROTO_REV (R1). -/
def protoRev : Nat := 1

/-- The first check of R255 that a hello fails. -/
def State.helloFault (s : State) (i : Nat) (h : Hello) : Option Nat :=
  let e := s.reg (kLnkExpect i)
  if h.serial = Config.serial.toNat then some 0x11
  else if h.proto ≠ protoRev then some 0x13
  else if !bitAt e 31 then some 0x10
  else if h.fid ≠ bits e 27 14 ∨ h.link ≠ bits e 6 0 then some 0x12
  else none

/-- The first of conditions 1 to 5 of R257 that fails at this end. -/
def State.ownFault (s : State) (i : Nat) : Option Nat :=
  let l := s.lnk i
  if l.secHold then some 0x16
  else if bitAt (s.reg (kLnkCtrl i)) 1 then some 0x17
  else match (match l.hello with
    | some h => s.helloFault i h
    | none => some 0x10) with
  | some c => some c
  | none =>
    if !l.tableNew ∨ l.pEpoch ≠ some (s.reg kRteEpoch) then some 0x14
    else if !l.keyed then some 0x15
    else none

/-- The cause shown in QUARANTINE: the first condition of R257 that fails, or none. -/
def State.quarCause (s : State) (i : Nat) : Nat :=
  match s.ownFault i with
  | some c => c
  | none => if (s.lnk i).pReady then 0 else 0x18

/-- LNK_STATUS.CAUSE renewed on a link in QUARANTINE. -/
def State.requar (s : State) (i : Nat) : State :=
  if (s.lnk i).st = .quarantine then s.modLnk i fun l => { l with cause := s.quarCause i } else s

/-- The causes renewed on the links `is`. -/
def State.requarOn (s : State) : List Nat → State
  | [] => s
  | i :: is => (s.requar i).requarOn is

/-! State changes -/

/-- `n` flits dropped, each counted (R304). -/
def State.dropFlits (s : State) (off : Nat) : Nat → State
  | 0 => s
  | n + 1 => (s.dropFlit off).dropFlits off n

/-- Flits given a new next hop (R286). A GOP flit crosses its tree edge only and is routed by no table (R287): it has no other next
hop and is dropped (DEDUCED log 25). -/
def State.reroute (s : State) : List Flit → State
  | [] => s
  | f :: fs => (if f.kind = 0x20 then (s.freeRx f).dropFlit 0x108 else s.route f).reroute fs

/-- A link's flit and credit state at its start, as on entry to ACTIVE (log 25). -/
def Link.fresh (l : Link) : Link :=
  { l with txLseq := 0, rxLseq := 0, replay := [], sent := 0, queue := [], replayWait := false, credShared := 0,
           credDed := [0, 0, 0, 0, 0, 0, 0], seenShared := 0, seenDed := [0, 0, 0, 0, 0, 0, 0], freedShared := 0,
           freedDed := [0, 0, 0, 0, 0, 0, 0], held := [0, 0, 0, 0, 0, 0, 0, 0], txPos := 0, rxPos := 0, ackDue := false, hold := false, rxTimeSeq := 0, rxTimeAt := 0,
           txTimes := [], rxRoot := 0x3FFF }

/-- A link's keys dropped, with their counters and any exchange (R257, R467). -/
def Link.unkeyed (l : Link) : Link :=
  { l with keys := .none, keyed := false, keyEpoch := 0, txKey := 0, rxKey := 0, rxEpoch := 0, pending := none, exch := none,
           txCtr := 0, rxCtr := 0, txCctr := 0, rxCctr := 0, retryKey := false }

/-- A link in state `st` with cause `c`. ACTIVE starts with fresh flit state; QUARANTINE asks for a new table, a new
partner epoch and a fresh keying (R257); states before NEIGHBOUR hold nothing of the partner. -/
def Link.enter (l : Link) (st : LnkSt) (c : Nat) : Link :=
  match st with
  | .draining => { l with st := .draining, cause := c, queue := [] }
  | .active => { l.fresh with st := .active, cause := c }
  | .quarantine =>
    { l.fresh.unkeyed with st := .quarantine, cause := c, tableNew := false, pEpoch := none, pReady := false }
  | st =>
    { l.fresh.unkeyed with st := st, cause := c, tableNew := false, pEpoch := none, pReady := false, waiting := false }

/-- The time parent is lost: ACQUIRING ends (R42, Table 9). -/
def State.parentLost (s : State) (i : Nat) : State :=
  if s.time.link = i ∧ s.time.st = .acquiring then
    { s with time := s.time.unsync }
  else s

/-- A link moved to another state. Leaving ACTIVE is counted, recorded and told to the fabric manager (R253, R405);
unacknowledged flits are lost unless it drains, and queued flits take another link (R286). -/
def State.linkTo (s : State) (i : Nat) (st : LnkSt) (cause : Nat) : State :=
  let l := s.lnk i
  let left := decide (l.st = .active ∧ st ≠ .active)
  let s1 := if left then (s.bump (kLnkDown i) 1).ledger 0x0300 (srcOf3 4 4 i) i cause 0 else s
  let s2 := if left ∨ st = .quarantine then s1.mctpEvent 2 i else s1
  let s3 := if l.carries ∧ st ≠ .draining then s2.dropFlits 0x114 l.replay.length else s2
  let s4 := if l.carries ∧ st ≠ .draining then (s3.setLnk i (l.enter st cause)).dropSlots i else s3.setLnk i (l.enter st cause)
  let s5 := if l.carries then s4.reroute l.queue else s4
  if left then s5.parentLost i else s5

/-! Key exchange (R468, R469) -/

/-- The words of a REKEY message sent (R468). -/
def State.rekeyOut (s : State) (i msg xid : Nat) (bs : List Byte) (small : Nat) : State :=
  s.sendWords i 7 (rekeyWords msg xid bs small) (s.lnk i).carries

/-- A REKEY message of the exchange in progress sent, and kept to be repeated until it is acknowledged (R468). -/
def State.sendRekey (s : State) (i msg xid : Nat) (bs : List Byte) (small : Nat) : State :=
  (s.rekeyOut i msg xid bs small).modLnk i fun l => { l with exch := l.exch.map fun x => { x with sent := x.sent ++ [(msg, bs)] } }

/-- INIT of an end (R469): its ephemeral public keys and 32 random bytes. -/
def initBytes (eph rnd : Nat) : List Byte :=
  fit 1568 (Config.mlkemPublic eph) ++ fit 97 (Config.p384Public eph) ++ toBytes 32 rnd

/-- An exchange begun by this end, with randomness of the DRBG (R469, R471). -/
def State.beginExch (s : State) (i : Nat) (rollover : Bool) : State :=
  let l := s.lnk i
  let e := Config.free s.freeCtr % 2 ^ 512
  let bs := initBytes e (Config.free (s.freeCtr + 1))
  let x : Exchange := ⟨l.nextXid, true, rollover, [], [], [], e, bs, [], none⟩
  (((s.drbg 1).draw.draw).setLnk i { l with keys := if rollover then .rolling else .keying, exch := some x,
                                            nextXid := (l.nextXid + 1) % 256, retryKey := false }).sendRekey i 1 l.nextXid bs 0

/-- Full keying started where this end's SERIAL is the lower one (R469). -/
def State.startKeying (s : State) (i : Nat) : State :=
  let l := s.lnk i
  match l.hello with
  | some h => if l.st = .quarantine ∧ Config.serial.toNat < h.serial ∧ l.exch.isNone ∧ s.drbgUp then s.beginExch i false else s
  | none => s

/-- Full keying started on the links `is`, which waited for the DRBG (R434). -/
def State.startKeyings (s : State) : List Nat → State
  | [] => s
  | i :: is => (s.startKeying i).startKeyings is

/-- A link sent to QUARANTINE, with the first cause of R257 that applies; full keying begins (R257). -/
def State.toQuarantine (s : State) (i : Nat) : State := ((s.linkTo i .quarantine 0).requar i).startKeying i

/-- The link security alarm (R474, R285, R470): LINK_TAG, PF0 vector 4, QUARANTINE with SEC_HOLD. -/
def State.linkAlarm (s : State) (i : Nat) : State :=
  (((s.secAlarm 6).ledger 0x0801 (srcOf3 4 4 i) i 0 0).modLnk i fun l => { l with secHold := true }).toQuarantine i

/-! Epoch hold and activation (R298, R299) -/

/-- Epoch hold judged again on an ACTIVE link; each entry is counted, and an end lets queued flits leave. -/
def State.rehold (s : State) (i : Nat) : State :=
  let l := s.lnk i
  if l.st = .active then
    match l.pEpoch with
    | none => s
    | some e =>
      let h := decide (e ≠ s.reg kRteEpoch)
      let s1 := s.setLnk i { l with hold := h }
      if h ∧ !l.hold then s1.bump (bFAB + 0x128) 1 else s1.pump i
  else s

/-- Hold judged on the links `is`. -/
def State.reholdOn (s : State) : List Nat → State
  | [] => s
  | i :: is => (s.rehold i).reholdOn is

/-- A table write seen by the links in QUARANTINE (R257, R299). -/
def State.tableWritten (s : State) : List Nat → State
  | [] => s
  | i :: is =>
    (if (s.lnk i).st = .quarantine then s.modLnk i fun l => { l with tableNew := true } else s).tableWritten is

/-- The staged bank activated: the banks swap, the epoch moves, STAGE_READY clears, every link hears of it (R298). -/
def State.activateRoutes (s : State) : State :=
  let s1 := { s with rteAct := s.rteStg, rteStg := s.rteAct }
  let s2 := (s1.setReg kRteEpoch (s.reg kRteStaged)).clearBits kRteCtrl 4
  (((s2.tableWritten allLinks).announceOn allLinks).requarOn allLinks).reholdOn allLinks

/-! Replay (R284) -/

/-- The receiver drops the stream and asks for a replay from the next LSEQ. -/
def State.askReplay (s : State) (i : Nat) : State :=
  let l := s.lnk i
  if l.replayWait then s
  else
    ((s.setLnk i { l with replayWait := true }).bump (bFAB + 0x124) 1).control i 4 (l.rxLseq * 2 ^ 112) true

/-! Cages -/

/-- The links of a cage (R248). -/
def cageLinks (c : Nat) : List Nat := [4 * c, 4 * c + 1, 4 * c + 2, 4 * c + 3]

/-- A link taken to DISABLED; cause 0x01 stands while ENABLE is 0 (R249, Table 2). -/
def State.linkDown (s : State) (i cause : Nat) : State :=
  s.linkTo i .disabled (if bitAt (s.reg (kLnkCtrl i)) 0 then cause else 1)

/-- Links taken to DISABLED. -/
def State.linksDown (s : State) (cause : Nat) : List Nat → State
  | [] => s
  | i :: is => (s.linkDown i cause).linksDown cause is

/-- Links leave DISABLED for DETECT when the cage is ON with CMIS ready and ENABLE is 1 (R261). -/
def State.linksUp (s : State) : List Nat → State
  | [] => s
  | i :: is =>
    (if (s.lnk i).st = .disabled ∧ bitAt (s.reg (kLnkCtrl i)) 0 then s.linkTo i .detect 0 else s).linksUp is

def kCageCtrl (c : Nat) : Nat := bSVC + 0x1000 + 0x20 * c
def kCageMon (c : Nat) : Nat := bSVC + 0x1008 + 0x20 * c
def kCageEvt (c : Nat) : Nat := bSVC + 0x100C + 0x20 * c
def kCageShorts (c : Nat) : Nat := bSVC + 0x1010 + 0x20 * c

/-- SVC_CAGE_CTRL.POWER_EN. -/
def State.powerEn (s : State) (c : Nat) : Bool := bitAt (s.reg (kCageCtrl c)) 0

/-- The attention sequence ended, but for a stuck key (R267). -/
def Cage.calm (k : Cage) : Cage :=
  { k with attn := if k.attn = .keyStuck then .keyStuck else .idle, toSafe := false }

/-- The output switched off; POWER leaves DISCHARGE for `next` (R262). -/
def Cage.switchOff (k : Cage) (next : CagePow) : Cage := { k with pow := .discharge, next := next, ready := false }

/-- A supply failure (R262, R267). -/
def State.supplyFailure (s : State) (c : Nat) (overload : Bool) : State :=
  let s0 := if (s.cage c).pow = .on then s.linksDown 3 (cageLinks c) else s
  let k := s0.cage c
  let n := k.fails + 1
  let k' := { k.switchOff .retryWait with fails := n }
  let s1 := if overload then s0.svcEvt (kCageEvt c) 0x100 else (s0.bump (kCageShorts c) 1).svcEvt (kCageEvt c) 4
  if n ≥ 3 then
    ((s1.setCage c { k' with pow := .latched, fails := 3 }.calm).svcEvt (kCageEvt c) 8).ledger 0x0305 (srcOf3 4 5 c) c 0 0
  else s1.setCage c k'.calm

/-- The cable cannot be used: held in low power, CMIS_FAULT, links DISABLED with cause CMIS (R260). -/
def State.cmisFault (s : State) (c : Nat) : State :=
  ((s.modCage c fun k => { k with low := true, ready := false }).svcEvt (kCageEvt c) 0x80).linksDown 4 (cageLinks c)

/-- Power restarted at step 1 of the power-up sequence where a cable is present (R264, R267). -/
def State.powerRestart (s : State) (c : Nat) : State :=
  s.modCage c fun k => { k with pow := if k.present ∧ s.powerEn c then .debounce else .off }

/-- An attention request (R265, step 1). -/
def State.attnRequest (s : State) (c : Nat) : State :=
  ((s.modCage c fun k => { k with attn := .requested }).svcEvt (kCageEvt c) 0x10).mctpEvent 1 c

/-- A cancel in SAFE or REQUESTED (R267). -/
def State.attnCancel (s : State) (c : Nat) : State :=
  match (s.cage c).attn with
  | .requested => s.modCage c Cage.calm
  | .safe => (s.modCage c Cage.calm).powerRestart c
  | _ => s

/-- SAFE entered (R265, step 6). -/
def State.attnSafe (s : State) (c : Nat) : State :=
  (s.modCage c fun k => { k with attn := .safe, toSafe := false }).svcEvt (kCageEvt c) 0x20

/-! Views of registers (R269, R270, R489) -/

/-- STATE code of a link (R249, Table 2). -/
def LnkSt.code : LnkSt → Nat
  | .disabled => 0 | .detect => 1 | .equalise => 2 | .align => 3
  | .neighbour => 4 | .quarantine => 5 | .active => 6 | .draining => 7

/-- LNK_STATUS (Table 10). -/
def State.lnkStatus (s : State) (i : Nat) : Nat :=
  let l := s.lnk i
  l.cause * 2 ^ 16 + b2n l.swap * 2 ^ 11 + b2n l.pol1 * 2 ^ 10 + b2n l.pol0 * 2 ^ 9 + b2n l.secHold * 2 ^ 8 + l.st.code

/-- LNK_NEIGHBOUR (Table 8). -/
def State.lnkNeighbour (s : State) (i : Nat) : Nat :=
  let l := s.lnk i
  match l.hello with
  | none => 0
  | some h => b2n (l.carries || l.st == .quarantine) * 2 ^ 31 + h.fid * 2 ^ 14 + h.link

/-- POWER code (Table 14). -/
def CagePow.code : CagePow → Nat
  | .off => 0 | .debounce => 1 | .ramp => 2 | .on => 3 | .retryWait => 4 | .latched => 5 | .discharge => 6
/-- ATTN code (Table 14). -/
def Attn.code : Attn → Nat
  | .idle => 0 | .requested => 1 | .draining => 2 | .safe => 3 | .keyStuck => 4

/-- The LED code of a cage: the first row of Table 7 that applies (R268). -/
def State.cageLed (s : State) (c : Nat) : Nat :=
  let k := s.cage c
  let ls := (cageLinks c).map s.lnk
  if bitAt (s.reg (bSVC + 8)) 0 then 6
  else if k.attn = .safe then 4
  else if k.attn = .requested ∨ k.attn = .draining then 3
  else if k.pow = .latched ∨ bitAt (s.reg (kCageEvt c)) 7 ∨
      ls.any (fun l => l.st == .quarantine && [0x11, 0x12, 0x13, 0x16].contains l.cause) then 5
  else if k.present ∧ !ls.all (fun l => l.st == .active) then 2
  else if ls.all (fun l => l.st == .active) then 1
  else 0

/-- SVC_CAGE_STATUS (Table 14). -/
def State.cageStatus (s : State) (c : Nat) : Nat :=
  let k := s.cage c
  s.cageLed c * 2 ^ 20 + k.fails * 2 ^ 16 + k.attn.code * 2 ^ 8 + b2n k.ready * 2 ^ 7 + k.pow.code * 2 + b2n k.present

/-- SEC_LNK_KSTATE (R489). -/
def State.lnkKstate (s : State) (i : Nat) : Nat :=
  let l := s.lnk i
  l.tagFails * 2 ^ 16 + min 255 l.keyFails * 2 ^ 8 +
    (match l.keys with | .none => 0 | .keying => 1 | .keyed => 2 | .rolling => 3 | .stopped => 4)

end Sys2Proof.Machine
end

