-- ==== Sys2Proof/Machine/Cages.lean ====
section
/-! DEFINITION. Cages: supply, presence, CMIS and the attention sequence (spec/10: R259 to R270; spec/21: R569). A command
whose precondition does not hold has no effect (log 1). -/
namespace Sys2Proof.Machine

/-- CAGE_PRESENCE_GAINED (R261, R263): 250 ms of unbroken presence; the supply ramps where POWER_EN is 1, once a discharge has
ended. -/
def execCagePresenceGained (c : CageId) (s : State) : Out :=
  .next (
    let k := s.cage c
    let s1 := if k.present then s else (s.setCage c { k with present := true, fails := 0 }).svcEvt (kCageEvt c) 1
    if (k.pow = .off ∨ k.pow = .debounce) ∧ k.attn ≠ .safe ∧ s.powerEn c then
      s1.modCage c fun k => { k with pow := .ramp, active := false, low := false, ready := false }
    else if k.pow = .discharge ∧ k.next = .off ∧ !k.toSafe ∧ s.powerEn c then s1.modCage c fun k => { k with next := .ramp }
    else s1)

/-- CAGE_PRESENCE_LOST (R263, R267). -/
def execCagePresenceLost (c : CageId) (s : State) : Out :=
  .next (
    let k := s.cage c
    if !k.present then s
    else
      let gone : Cage := { k with present := false, attn := if k.attn = .keyStuck then .keyStuck else .idle }
      match k.pow with
      | .on => ((s.linksDown 2 (cageLinks c)).setCage c { gone.switchOff .off with toSafe := false }).svcEvt (kCageEvt c) 2
      | .ramp => s.setCage c (gone.switchOff .off)
      | .discharge => s.setCage c { gone with next := .off, fails := 0, toSafe := false }
      | .retryWait | .latched => s.setCage c { gone with pow := .off, fails := 0 }
      | .off | .debounce => s.setCage c { gone with pow := .off })

/-- CAGE_RAMP_END (R260, R261, R262): ON from 2.97 V up with the current limit not active; identification follows: a
passive cable is ready, an active one within 16 W leaves low power. -/
def execCageRampEnd (c : CageId) (mv ma : Fin 65536) (limiting : Bool) (cable : CableId) (s : State) : Out :=
  .next (
    let k := s.cage c
    if k.pow ≠ .ramp then s
    else
      let s0 := s.setReg (kCageMon c) (ma * 65536 + mv)
      if 2970 ≤ mv.val ∧ !limiting then
        let s1 := s0.setCage c { k with pow := .on, active := cable.active, low := false, ready := !cable.active }
        if !cable.active then s1.linksUp (cageLinks c)
        else if cable.milliwatt > 16000 then s1.cmisFault c
        else s1
      else s0.supplyFailure c false)

/-- CAGE_CURRENT_LIMIT (R262). -/
def execCageCurrentLimit (c : CageId) (s : State) : Out :=
  .next (if (s.cage c).pow = .ramp ∨ (s.cage c).pow = .on then s.supplyFailure c false else s)

/-- CAGE_OVERLOAD (R262). -/
def execCageOverload (c : CageId) (s : State) : Out :=
  .next (if (s.cage c).pow = .on then s.supplyFailure c true else s)

/-- CAGE_DISCHARGE_END (R262, R264, R265): POWER leaves DISCHARGE; at the end of the attention sequence ATTN enters SAFE. -/
def execCageDischargeEnd (c : CageId) (s : State) : Out :=
  .next (
    let k := s.cage c
    if k.pow ≠ .discharge then s
    else
      let s1 := s.setCage c { k with pow := k.next, next := .off }
      if k.toSafe then s1.attnSafe c else s1)

/-- RETRY_WAIT_END (R262): a new ramp without a new debounce. -/
def execRetryWaitEnd (c : CageId) (s : State) : Out :=
  .next (if (s.cage c).pow = .retryWait then s.modCage c fun k => { k with pow := .ramp } else s)

/-- FAILS_CLEAR (R262). -/
def execFailsClear (c : CageId) (s : State) : Out :=
  .next (if (s.cage c).pow = .on then s.modCage c fun k => { k with fails := 0 } else s)

/-- LATCH_CLR (R262): ignored in any state but LATCHED. -/
def execLatchClr (c : CageId) (s : State) : Out :=
  .next (if (s.cage c).pow = .latched then (s.modCage c fun k => { k with fails := 0 }).powerRestart c else s)

/-- POWER_EN (R264). Written 1 while the output still discharges, it restarts the sequence when the discharge has ended. -/
def execPowerEn (c : CageId) (on : Bool) (s : State) : Out :=
  .next (
    let k := s.cage c
    if on then
      let s1 := s.setBits (kCageCtrl c) 1
      if k.pow = .off ∧ k.attn ≠ .safe then s1.powerRestart c
      else if k.pow = .discharge ∧ k.next = .off ∧ !k.toSafe ∧ k.present then s1.modCage c fun k => { k with next := .debounce }
      else s1
    else
      let s1 := (s.clearBits (kCageCtrl c) 1).linksDown 3 (cageLinks c)
      match k.pow with
      | .ramp | .on => s1.modCage c fun k => k.switchOff .off
      | .debounce | .retryWait => s1.modCage c fun k => { k with pow := .off }
      | .discharge => s1.modCage c fun k => { k with next := .off }
      | .off | .latched => s1)

/-- CMIS_READY (R260): the application is selected where the cable advertises it, and the data path activated. -/
def execCmisReady (c : CageId) (application : Bool) (s : State) : Out :=
  .next (
    let k := s.cage c
    if k.pow = .on ∧ k.active ∧ !k.low ∧ !k.ready then
      if application then (s.setCage c { k with ready := true }).linksUp (cageLinks c) else s.cmisFault c
    else s)

/-- CMIS_READY_TIMEOUT (R260). -/
def execCmisReadyTimeout (c : CageId) (s : State) : Out :=
  .next (
    let k := s.cage c
    if k.pow = .on ∧ k.active ∧ !k.low ∧ !k.ready then s.cmisFault c else s)

/-- CMIS_FLAG_READ (R260): alarms go to the Ledger; no cage is powered off. -/
def execCmisFlagRead (c : CageId) (flags : W32) (s : State) : Out :=
  .next (if (s.cage c).pow = .on ∧ flags.toNat ≠ 0 then s.ledger 0x0304 (srcOf3 4 5 c) c 0 flags.toNat else s)

/-- TOUCH (R265, R267): a request, or a cancel; nothing while DRAINING or with the key stuck (R569). -/
def execTouch (c : CageId) (s : State) : Out :=
  .next (
    if bitAt (s.reg (bSVC + 0x10)) c then s
    else if (s.cage c).attn = .idle then s.attnRequest c
    else s.attnCancel c)

/-- ATTN_REQ (R265, R267). -/
def execAttnReq (c : CageId) (s : State) : Out :=
  .next (if (s.cage c).attn = .idle ∨ (s.cage c).attn = .keyStuck then s.attnRequest c else s)

/-- A routing entry names a link in one of its valid slots. -/
def entryNames (e i : Nat) : Bool := ((List.range 8).filterMap (routeSlot e)).any fun x => x.1 == i

/-- Some entry of the current table names a link (R266). -/
def State.routed (s : State) (i : Nat) : Bool := s.rteAct.any fun e => entryNames e.2 i

/-- Each ACTIVE link of `is` starts to drain; the others are DISABLED with cause RELEASED (R265, step 3). -/
def State.drainLinks (s : State) : List Nat → State
  | [] => s
  | i :: is =>
    (if (s.lnk i).st = .active then s.linkTo i .draining 0x0C else s.linkDown i 0x0C).drainLinks is

/-- RELEASE (R266): refused unless REQUESTED and no route names the cage's links. -/
def execRelease (c : CageId) (s : State) : Out :=
  .next (
    let k := s.cage c
    if k.attn = .requested ∧ !(cageLinks c).any s.routed then
      let s1 := (s.setCage c { k with attn := .draining }).drainLinks (cageLinks c)
      if k.pow = .off ∨ k.pow = .latched then s1.attnSafe c else s1
    else s.svcEvt (kCageEvt c) 0x40)

/-- CANCEL (R267). -/
def execCancel (c : CageId) (s : State) : Out := .next (s.attnCancel c)

/-- ATTN_TIMEOUT (R267). -/
def execAttnTimeout (c : CageId) (s : State) : Out :=
  .next (if (s.cage c).attn = .requested then s.modCage c Cage.calm else s)

/-- The payload of this end's hello (R254). -/
def State.helloWord (s : State) (i : Nat) (goodbye : Bool) : Nat :=
  Hello.payload ⟨Config.serial.toNat, protoRev, s.reg bFAB, i, goodbye, (s.lnk i).hello.isSome && (s.ownFault i).isNone⟩

/-- Three hellos with GOODBYE on each draining link, which then is DISABLED (R265, step 4); so is one that left DRAINING before. -/
def State.goodbyes (s : State) : List Nat → State
  | [] => s
  | i :: is =>
    (if (s.lnk i).st = .draining then
      let w := s.helloWord i true
      (((s.control i 1 w false).control i 1 w false).control i 1 w false).linkDown i 0x0C
    else if (s.lnk i).st = .disabled then s
    else s.linkDown i 0x0C).goodbyes is

/-- ATTN_DRAIN_END (R265, step 4): every flit is acknowledged, or 1 ms has passed. -/
def execAttnDrainEnd (c : CageId) (s : State) : Out :=
  .next (if (s.cage c).attn = .draining then s.goodbyes (cageLinks c) else s)

/-- CABLE_LOW_POWER (R265, steps 5 and 6): the cable is in low power, and the output ramps down. -/
def execCableLowPower (c : CageId) (s : State) : Out :=
  .next (
    let k := s.cage c
    if k.attn = .draining ∧ (cageLinks c).all (fun i => (s.lnk i).st == .disabled) ∧ (k.pow = .on ∨ k.pow = .ramp) then
      s.setCage c { k.switchOff .off with low := k.active, toSafe := true }
    else s)

/-- CAGE_SAFE (R265, step 6): the output is discharged below 0.3 V. -/
def execCageSafe (c : CageId) (s : State) : Out :=
  .next (
    let k := s.cage c
    if k.attn = .draining ∧ k.pow = .discharge ∧ k.toSafe then (s.setCage c { k with pow := .off, next := .off }).attnSafe c
    else s)

/-- KEY_STUCK (R569): key `k`, the locate key being 24. -/
def execKeyStuck (k : Fin 25) (s : State) : Out :=
  .next (
    let s1 := ((s.setBits (bSVC + 0x10) (2 ^ k.val)).svcEvt (bSVC + 4) 0x10).panelRecord 4 k 0 0
    if k.val < 24 then s1.modCage k fun c => { c with attn := .keyStuck } else s1)

/-- KEY_UNSTUCK (R267, R569). -/
def execKeyUnstuck (k : Fin 25) (s : State) : Out :=
  .next (
    let s1 := s.clearBits (bSVC + 0x10) (2 ^ k.val)
    if k.val < 24 ∧ (s.cage k).attn = .keyStuck then s1.modCage k fun c => { c with attn := .idle } else s1)

end Sys2Proof.Machine
end

