-- ==== Sys2Proof/Machine/Memory.lean ====
section
/-! DEFINITION. The home of an address: channel groups, sectors, the system cache, error correction, poison, the owner
check and the integrity tag (spec/07: R174 to R195; spec/17: R459 to R465). HBM bytes are kept by device physical
address as a read would return them; the lines say what the bank holds. -/
namespace Sys2Proof.Machine

/-! Addresses (R175, R176) -/

/-- Channel group of a device physical address. -/
def dpaGroup (a : Nat) : Nat := a / 2 ^ 34
/-- Offset in the group's window. -/
def dpaOff (a : Nat) : Nat := a % 2 ^ 34
/-- The address lies in a usable area (R175). -/
def dpaMapped (a : Nat) : Bool := decide (a < 0x8000000000) && decide (dpaOff a < 0x2F4000000)
/-- Sector of an address. -/
def sectorOf (a : Nat) : Nat := a / 512
/-- Encryption region 12 g + r of an address. -/
def regionOf (a : Nat) : Nat := 12 * dpaGroup a + dpaOff a / 2 ^ 30
/-- 32 MiB page of an address. -/
def pageOf (a : Nat) : Nat := a / 2 ^ 25
/-- Channel of an address within its group (R176). -/
def channelOf (a : Nat) : Nat := (bits (dpaOff a) 11 9) ^^^ (bits (dpaOff a) 17 15)
/-- Cache set of an address (R189). -/
def setOf (a : Nat) : Nat := (bits (dpaOff a) 18 9) ^^^ (bits (dpaOff a) 28 19)
/-- First address of a region. -/
def regionBase (q : Nat) : Nat := q / 12 * 2 ^ 34 + q % 12 * 2 ^ 30
/-- Bytes of a region: 1 GiB, region 11 832 MiB (R172). -/
def regionSize (q : Nat) : Nat := if q % 12 = 11 then 832 * 2 ^ 20 else 2 ^ 30

/-- Partition that holds the sector: the pool page's holder, or the region's owner (R174, R367, R462). -/
def State.holder (s : State) (a : Nat) : Option Nat :=
  match s.poolPage (pageOf a) with
  | some pg => pg.owner
  | none => (s.region (regionOf a)).owner

/-- Number of the key that governs a sector, which a re-encryption walk changes sector by sector (R464). -/
def State.keyOf (s : State) (a : Nat) : Nat :=
  let q := regionOf a
  let r := s.region q
  if r.rekeying && decide ((a - regionBase q) / 512 < r.pointer) then r.newKeyNo else r.keyNo

/-! Errors in the arrays (R182, R183, R195, R196) -/

/-- The error that lies in a sector of the stack, where one does. -/
def State.latent (s : State) (sec : Nat) : Ecc :=
  match s.scrub.upsets.find? fun x => x.1 == sec with
  | some x => x.2
  | none => .none

/-- A sector of the stack rewritten: no error lies in it any longer. -/
def State.calm (s : State) (sec : Nat) : State :=
  { s with scrub := { s.scrub with upsets := s.scrub.upsets.filter fun x => x.1 != sec } }

/-- What a read of a sector of the stack meets: the error given, else the one that lies there; a parity error concerns writes
alone (R182, R196). -/
def State.met (s : State) (sec : Nat) (e : Ecc) : Ecc :=
  match e with
  | .corr => .corr
  | .uncorr => .uncorr
  | _ => match s.latent sec with
    | .corr => .corr
    | .uncorr => .uncorr
    | _ => .none

/-- A write to a sector of the stack fails its parity check twice (R196). -/
def State.garbles (s : State) (sec : Nat) (e : Ecc) : Bool := e == .parity || s.latent sec == .parity

/-- A sector marked poisoned: nothing of it stays in the bank, and no other error in the stack (R183). -/
def State.markPoison (s : State) (sec : Nat) : State := ((s.setLine sec none).setPoison sec true).calm sec
/-- The poison of a sector removed. -/
def State.dropPoison (s : State) (sec : Nat) : State := s.setPoison sec false

/-- A record of the memory about an address: of the partition that holds it, else of none. -/
def State.memRecord (s : State) (code a : Nat) : State :=
  match s.holder a with
  | some p => s.ledgerPart code p a 0 0 (dpaGroup a)
  | none => s.ledger code (srcOf3 0xFF 0 0) a 0 (dpaGroup a)

/-- A corrected codeword, written back, counted and recorded (R182). -/
def State.corrected (s : State) (a : Nat) : State :=
  ((s.calm (sectorOf a)).bump (bMEM + 0x400 + 8 * dpaGroup a) 1).memRecord 0x0100 a

/-- An uncorrectable error of a request: the sector poisoned, counted and recorded (R182). -/
def State.uncorrected (s : State) (a : Nat) : State :=
  ((s.markPoison (sectorOf a)).bump (bMEM + 0x404 + 8 * dpaGroup a) 1).memRecord 0x0101 a

/-- A failed integrity check reported: the alarm, a Ledger record, the instance's event (R463). -/
def State.integrityAlarm (s : State) (p ipa : Nat) : State :=
  (((s.setBits (bSEC + 4) 0x80).msix 0 4).ledgerPart 0x0800 p ipa 4 0 0).mbEvent p 0x0C (ipa / 512 * 512)

/-! The system cache (R189 to R195) -/

/-- Best-effort or background class (R199). -/
def State.lowClass (s : State) (p : Nat) : Bool := s.reg (bQOS + 4 * p) % 4 == 0

/-- The ways a line of partition `p` may occupy in group `g` (R191, R457); a way under a move takes no line (R193). -/
def State.waysFor (s : State) (g p : Nat) : List Nat :=
  let still := fun w => tblGet (fun _ => true) ((s.group g).waysMoving.map fun e => (e.1, false)) w
  match (s.group g).mode with
  | .dedicated => (List.range 16).filter still
  | _ =>
    let own := (List.range 16).filter fun w => still w && s.wayKind (16 * g + w) == .part p
    if !own.isEmpty then own
    else if s.lowClass p && (s.part p).role != 1 && !bitAt (s.part p).flags 1 then
      (List.range 16).filter fun w => still w && s.wayKind (16 * g + w) == .pool
    else []

/-- Mask of the 32-byte units that [off, off + n) of a sector touches. -/
def unitMask (off n : Nat) : Nat :=
  if n = 0 then 0 else 2 ^ ((off + n - 1) / 32 + 1) - 2 ^ (off / 32)

/-- The lines of group `g` and set `st`, with their sectors. -/
def linesOf (g st : Nat) : Tbl (Option CacheLine) → List (Nat × CacheLine)
  | [] => []
  | (sec, some l) :: t => if dpaGroup (sec * 512) = g ∧ setOf (sec * 512) = st then (sec, l) :: linesOf g st t else linesOf g st t
  | (_, none) :: t => linesOf g st t

/-- The oldest of some lines. -/
def oldest : List (Nat × CacheLine) → Option (Nat × CacheLine)
  | [] => none
  | x :: xs => match oldest xs with
    | none => some x
    | some y => if x.2.stamp ≤ y.2.stamp then some x else some y

/-- A dirty line whose units are lost: the bank writes the sector as poisoned (R179, R195). -/
def State.loseLine (s : State) (sec : Nat) : State := (s.markPoison sec).memRecord 0x0105 (sec * 512)

/-- A sector written to the stack by the bank; a parity error that stands makes it uncorrectable (R196). -/
def State.writeBack (s : State) (sec : Nat) : State :=
  if s.garbles sec .none then s.uncorrected (sec * 512) else (s.dropPoison sec).calm sec

/-- A line evicted (R179, R190, R195, R196): a dirty line with every unit replaces the stack's sector; any other dirty line is
merged with it, and its units are lost where the sector is poisoned or the merge read meets an uncorrectable error. -/
def State.evict (s : State) (sec : Nat) (l : CacheLine) : State :=
  let s1 := s.setLine sec none
  if l.dirty = 0 then s1
  else if l.bad then s1.loseLine sec
  else if l.valid = 0xFFFF then s1.writeBack sec
  else if s1.isPoison sec then s1.loseLine sec
  else match s1.met sec .none with
    | .uncorr => (s1.bump (bMEM + 0x404 + 8 * dpaGroup (sec * 512)) 1).loseLine sec
    | .corr => (s1.corrected (sec * 512)).writeBack sec
    | _ => s1.writeBack sec

/-- A way for a new line: the lowest free one, else that of the least recently used line, which is evicted (R190). -/
def State.takeWay (s : State) (a : Nat) (ways : List Nat) : Option (Nat × State) :=
  let ls := linesOf (dpaGroup a) (setOf a) s.lines
  match ways.filter (fun w => ls.all fun e => e.2.way != w) with
  | w :: _ => some (w, s)
  | [] => match oldest (ls.filter fun e => ways.contains e.2.way) with
    | some e => some (e.2.way, s.evict e.1 e.2)
    | none => none

/-- The line of a sector touched: valid and dirty units added, its age renewed; allocated where the bank may (R190). -/
def State.touchLine (s : State) (a p valid dirty : Nat) : State :=
  let s1 := { s with cacheClock := s.cacheClock + 1 }
  let sec := sectorOf a
  match s1.line sec with
  | some l => s1.setLine sec (some { l with valid := l.valid ||| valid, dirty := l.dirty ||| dirty, stamp := s1.cacheClock })
  | none => match s1.takeWay a (s1.waysFor (dpaGroup a) p) with
    | some (w, s2) => s2.setLine sec (some ⟨w, valid, dirty, s1.cacheClock, false⟩)
    | none => s1

/-! Charges against a grant (R212) -/

/-- A request of `n` bytes served for partition `p` at group `g`, which costs its grant `cost` bytes; `paid` says that Table 1
charges the partition (R199, R212). -/
def State.charge (s : State) (g p cost n : Nat) (paid : Bool) : State :=
  if paid then
    let w := s.servedOf (32 * g + p)
    s.setServed (32 * g + p) ⟨w.charged + cost, w.bytes + n, w.accepts ++ [(s.now, n)]⟩
  else s

/-- Whether Table 1 of R199 charges a partition for a request: not for the scrubber, the Custodian, and PF0 through the host
ingress. -/
def paysFor (port p : Nat) : Bool := !(port == 163 || port == 164 || (port == 162 && decide (p ≥ 32)))

/-! Reads and writes at the home. `p` is the partition for which the request was translated, `ipa` its intermediate
address. The access lies in one sector. Statuses are those of R98: 0 OK, 3 TRANSLATION, 4 INTEGRITY, 8 POISON. -/

/-- The tag of the sector matches the request; a clear sector matches any (R461). -/
def State.tagOk (s : State) (p ipa a : Nat) : Bool :=
  match s.tag (sectorOf a) with
  | none => true
  | some t => t.ipa == ipa / 512 && t.part == p && t.keyNo == s.keyOf a

/-- Bytes of HBM from `a`. -/
def State.hbmRun (s : State) (a n : Nat) : List Byte := tblRun (fun _ => 0) s.hbm a n

/-- A read served by the controller: poison, error correction, then the tag; a good sector is allocated (R182, R183, R190,
R463). -/
def State.stackRead (s : State) (p ipa a n : Nat) (e : Ecc) (paid : Bool) : State × Nat × List Byte :=
  let s1 := s.charge (dpaGroup a) p n n paid
  if s1.isPoison (sectorOf a) then (s1, 8, [])
  else match s1.met (sectorOf a) e with
    | .uncorr => (s1.uncorrected a, 8, [])
    | m =>
      let s2 := if m = .corr then s1.corrected a else s1
      if s2.tagOk p ipa a then (s2.touchLine a p 0xFFFF 0, 0, s2.hbmRun a n) else (s2.integrityAlarm p ipa, 4, [])

/-- A line with an uncorrectable word met by a request (R195): a clean line is dropped and counted, a dirty one lost. -/
def State.dropBad (s : State) (a : Nat) (l : CacheLine) : State :=
  if l.dirty = 0 then (s.setLine (sectorOf a) none).bump (bMEM + 0x400 + 8 * dpaGroup a) 1 else s.loseLine (sectorOf a)

/-- A read at its home (R177, R178, R182, R183, R195, R462); `paid` as in `State.charge`. -/
def State.homeRead (s : State) (p ipa a n : Nat) (e : Ecc) (paid : Bool) : State × Nat × List Byte :=
  if !dpaMapped a then (s.ledgerPart 0x0104 p a 0 0 0, 3, [])
  else if s.holder a ≠ some p then (s.integrityAlarm p ipa, 4, [])
  else
    match s.line (sectorOf a) with
    | some l =>
      if e = .cacheWord ∨ l.bad then (s.dropBad a l).stackRead p ipa a n .none paid
      else if !s.isPoison (sectorOf a) && unitMask (a % 512) n &&& l.valid == unitMask (a % 512) n then
        ((s.touchLine a p 0 0).charge (dpaGroup a) p n n paid, 0, s.hbmRun a n)
      else s.stackRead p ipa a n e paid
    | none => s.stackRead p ipa a n e paid

/-- A sector write counted under the key that governs the sector (R464). -/
def Region.counted (r : Region) (i : Nat) : Region :=
  if r.rekeying && decide (i < r.pointer) then { r with newWrites := r.newWrites + 1 } else { r with writes := r.writes + 1 }

/-- The bytes of an accepted write stored, with the sector's tag, the region's write count and the line's dirty units
(R178, R190, R460, R461, R464). -/
def State.storeSector (s : State) (p ipa a : Nat) (bs : List Byte) : State :=
  let q := regionOf a
  let m := unitMask (a % 512) bs.length
  let s1 := { s with hbm := tblSetRun (fun _ => 0) s.hbm a bs }
  let s2 := s1.setTag (sectorOf a) (some ⟨ipa / 512, p, s.keyOf a⟩)
  let s3 := (s2.modRegion q fun r => r.counted ((a - regionBase q) / 512)).dropPoison (sectorOf a)
  s3.touchLine a p m m

/-- The bank takes lines of the sector for partition `p`: one is there, or a way is open to it (R190, R191). -/
def State.cacheable (s : State) (p a : Nat) : Bool :=
  (s.line (sectorOf a)).isSome || !(s.waysFor (dpaGroup a) p).isEmpty

/-- A write of `bs` that the controller takes itself; a parity error that stands makes the sector uncorrectable (R196). -/
def State.stackWrite (s : State) (p ipa a : Nat) (bs : List Byte) (e : Ecc) : State × Nat :=
  if s.garbles (sectorOf a) e then (s.uncorrected a, 8) else ((s.storeSector p ipa a bs).calm (sectorOf a), 0)

/-- A partial write (R179, R183, R190): a poisoned sector refuses it; the bank takes it where it may, after the tag's check
(log 17), else the controller merges it, the merge read checked as any read. -/
def State.partWrite (s : State) (p ipa a : Nat) (bs : List Byte) (e : Ecc) (paid : Bool) : State × Nat :=
  let n := bs.length
  let g := dpaGroup a
  let full := match s.line (sectorOf a) with
    | some l => l.valid == 0xFFFF
    | none => false
  let there := s.cacheable p a
  let s1 := s.charge g p (if there then n else 1024) n paid
  if s1.isPoison (sectorOf a) then (s1, 8)
  else if full then (s1.storeSector p ipa a bs, 0)
  else if !s1.tagOk p ipa a then (s1.integrityAlarm p ipa, 4)
  else if there then (s1.storeSector p ipa a bs, 0)
  else match s1.met (sectorOf a) e with
    | .uncorr => (s1.uncorrected a, 8)
    | .corr => (s1.corrected a).stackWrite p ipa a bs e
    | _ => s1.stackWrite p ipa a bs e

/-- A line about to be overwritten whole has no bad word left. -/
def State.healLine (s : State) (sec : Nat) : State :=
  match s.line sec with
  | some l => s.setLine sec (some { l with bad := false })
  | none => s

/-- A write at its home (R177 to R179, R183, R195, R462, R465); `paid` as in `State.charge`. -/
def State.homeWrite (s : State) (p ipa a : Nat) (bs : List Byte) (e : Ecc) (paid : Bool) : State × Nat :=
  let n := bs.length
  let q := regionOf a
  if !dpaMapped a then (s.ledgerPart 0x0104 p a 0 0 0, 3)
  else if s.holder a ≠ some p then (s.integrityAlarm p ipa, 4)
  else if (s.region q).writes ≥ 2 ^ 37 then
    if (s.region q).halted then (s, 4)
    else ((s.modRegion q fun r => { r with halted := true }).ledgerPart 0x0804 p q 0 0 0, 4)
  else if n = 512 then
    let s1 := s.charge (dpaGroup a) p n n paid
    if s.cacheable p a then ((s1.healLine (sectorOf a)).storeSector p ipa a bs, 0) else s1.stackWrite p ipa a bs e
  else
    match s.line (sectorOf a) with
    | some l => if e = .cacheWord ∨ l.bad then (s.dropBad a l).partWrite p ipa a bs .none paid else s.partWrite p ipa a bs e paid
    | none => s.partWrite p ipa a bs e paid

/-! Clears (R194, R466) -/

/-- Every sector of [lo, hi) cleared: data zero, clear tags, no poison, no error, no lines. -/
def State.clearRange (s : State) (lo hi : Nat) : State :=
  let a := sectorOf lo
  let b := sectorOf hi
  { s with
    hbm := tblClear lo hi s.hbm, tags := tblClear a b s.tags, poison := tblClear a b s.poison, lines := tblClear a b s.lines,
    scrub := { s.scrub with upsets := s.scrub.upsets.filter fun x => !(decide (a ≤ x.1) && decide (x.1 < b)) } }

/-- A sector number's first address. -/
def sectorBase (sec : Nat) : Nat := sec * 512

/-! Classes and tokens of master ports (R199, R204, R205) -/

/-- Class codes of QOS_PART_CLASS, and 3 for background: 0 BE, 1 GU, 2 RT (R199, R219). -/
def State.classOf (s : State) (m p : Nat) : Nat :=
  if m = 160 ∨ m = 161 ∨ m = 164 then 1
  else if m = 162 then (if p < 32 then 1 else 0)
  else if m = 163 then 3
  else s.reg (bQOS + 4 * p) % 4

/-- A request of a class to group `g` needs tokens (R204). -/
def State.needsTokens (s : State) (cls g : Nat) : Bool :=
  let l := s.levelOf g
  match cls with
  | 2 => true
  | 1 => l.gu
  | 0 => l.be
  | _ => l.bg

/-- Charge of a request in tenths of a byte (R205). -/
def tokenCharge (n : Nat) : Nat := 10 * (ceilDiv n 32 * 32)

/-- The tokens of a request that leaves its port (R205). -/
def State.takeTokens (s : State) (port cls g n : Nat) : State :=
  if s.needsTokens cls g then s.setTokens port (s.tokensOf port - tokenCharge n) else s

end Sys2Proof.Machine
end

