-- ==== Sys2Proof/Machine/Xlt.lean ====
section
/-! DEFINITION. Address translation: table entries, walks, caches, fault reports, and reads and writes of tenant virtual
and intermediate addresses (spec/09: R220 to R229, R235 to R238; spec/13: R368). -/
namespace Sys2Proof.Machine

/-- A table entry read (R222, Table 3). -/
structure Entry where
  addr : Nat
  host : Bool
  w : Bool
  r : Bool
  leaf : Bool
  valid : Bool
  clean : Bool
deriving DecidableEq, Repr

/-- An entry from its 64 bits; `clean` says that no reserved bit is set. -/
def entryOf (v : Nat) : Entry :=
  { addr := bits v 56 8 * 256, host := bitAt v 5, w := bitAt v 4, r := bitAt v 3, leaf := bitAt v 1, valid := bitAt v 0,
    clean := bits v 63 57 == 0 && bits v 7 6 == 0 && !bitAt v 2 }

/-- Bits of the page that a leaf of a level maps (R221). -/
def levelBits : Nat → Nat
  | 0 => 35
  | 1 => 30
  | _ => 25

/-- The entry breaks R223 at its stage and level. -/
def Entry.bad (e : Entry) (stage1 : Bool) (level : Nat) : Bool :=
  !e.clean || (!e.leaf && (level == 2 || e.host)) || (e.leaf && e.addr % 2 ^ levelBits level != 0)
    || (stage1 && (e.host || decide (e.addr ≥ 2 ^ 48)))
    || (!stage1 && e.leaf && !e.host && decide (e.addr ≥ 2 ^ 42))

/-- A result of stage 2 for an intermediate address. -/
structure S2Res where
  host : Bool
  addr : Nat
  bits : Nat
  r : Bool
  w : Bool
deriving DecidableEq, Repr

/-- A translation: where the access ends and the intermediate address it passed through. -/
structure XRes where
  host : Bool
  addr : Nat
  ipa : Nat
deriving DecidableEq, Repr

/-- A translation fault: code of R235, Table 6, and the address reported. -/
structure XFault where
  code : Nat
  addr : Nat
deriving DecidableEq, Repr

/-- Index of a level in an address below its 2^52 or 2^48 bytes (R221). -/
def levelIndex (a : Nat) : Nat → Nat
  | 0 => a / 2 ^ 35
  | 1 => bits a 34 30
  | _ => bits a 29 25

/-- The arena's intermediate addresses (R368). -/
def arenaBase : Nat := 0xE00000000000

/-! Ports -/

/-- Numbers that stand for the ports without an L1: the host ingress, the Custodian, and the link ingress of either fabric die. -/
def hostIn : Nat := 1000
def cusPort : Nat := 1001
def linkIn (fd : Nat) : Nat := 1002 + fd

/-- Master port of an engine port (R199, Table 1): cluster DMA engines 48 on, link DMA engines 144 on, a core's load/store port
at its cluster's port. -/
def enginePort (e : Nat) : Nat :=
  if e < 96 then 48 + e else if e < 112 then 144 + (e - 96) else if e < 880 then (e - 112) / 16
  else if e = hostIn then 162 else if e = cusPort then 164 else if e = linkIn 0 then 160 else 161

/-- Compute die whose L2 an engine port misses into: cores and cluster DMA engines their own, link DMA engine f CD(f div 4)
(R225). The spec names none for the others: those of FD0 take CD0's, the ingress of FD1 CD2's (DESIGN CHOICE log 31). -/
def dieOfEngine (e : Nat) : Nat :=
  if e < 96 then e / 24 else if e < 112 then (e - 96) / 4 else if e < 880 then (e - 112) / 192 else if e = linkIn 1 then 2 else 0

/-! Host memory (R235, R237, R238) -/

/-- A host request of a function at an IOVA ends with Unsupported Request, Completer Abort or a timeout (R235; log 63). -/
def State.hostFails (s : State) (fn a : Nat) : Bool := s.pcie.hostDown || s.pcie.refused.contains (fn, a / 4096)

/-- ATS is used for a function: the host has enabled it in the function's capability, and the module's enable is set (R238). -/
def State.atsOn (s : State) (fn : Nat) : Bool :=
  s.pcie.ats.contains fn
    && (if fn = 0 then bitAt (s.reg (bXLT + 0x1020)) 0 else bitAt (s.reg (bXLT + 0x40 * (s.inst fn).part + 0x2C)) 0)

/-- A host access of a function to an IOVA (R238): with ATS in use, Translated where the cache holds it, else untranslated with a
Translation Request sent for it. -/
def State.hostGoes (s : State) (fn a : Nat) : State :=
  if s.atsOn fn && s.atc.all (fun e => !(e.fn == fn && decide (e.iova ≤ a) && decide (a < e.iova + e.size))) then
    s.emit (.atsAsk fn a)
  else s

/-- The function whose Requester ID the partition's host accesses carry; none without an instance (R237). -/
def State.hostFn (s : State) (p : Nat) : Option Nat :=
  if bitAt (s.part p).flags 1 ∧ (s.inst (p + 1)).tdi ≠ .run then none else s.instOf p

/-! Stage 2 -/

/-- Stage-2 walk below the root (R221 to R223, R235), the tables in host memory at PF0 IOVAs. `fuel` counts the levels left. -/
def State.s2Walk (s : State) (ipa : Nat) : Nat → Nat → Except Nat S2Res
  | 0, _ => .error 6
  | fuel + 1, table =>
    let level := 2 - fuel
    let at_ := table + 8 * levelIndex ipa level
    let e := entryOf (s.hostNat 0 at_ 8)
    if s.hostFails 0 at_ then .error 9
    else if !e.valid then .error 4
    else if e.bad false level then .error 6
    else if e.leaf then
      let b := levelBits level
      .ok ⟨e.host, e.addr + ipa % 2 ^ b, b, e.r, e.w⟩
    else s.s2Walk ipa fuel e.addr

/-- Stage 2 of partition `p` for an intermediate address (R222, R235): the arena resolves from the arena table (R368), every
other address from the tables at XLT_S2_ROOT. -/
def State.stage2 (s : State) (p ipa : Nat) : Except Nat S2Res :=
  let root := s.reg (bXLT + 8 + 0x40 * p)
  if !bitAt root 0 then .error 4
  else if arenaBase ≤ ipa ∧ ipa < arenaBase + 2 ^ 37 then
    match s.arenaSlot (4096 * p + (ipa - arenaBase) / 2 ^ 25) with
    | some pg => .ok ⟨false, pg * 2 ^ 25 + ipa % 2 ^ 25, 25, true, true⟩
    | none => .error 4
  else s.s2Walk ipa 3 (root / 2 ^ 16 % 2 ^ 41 * 2 ^ 16)

/-- The oldest entry that is not pinned removed. -/
def dropUnpinned : List XltEntry → List XltEntry
  | [] => []
  | e :: t => if e.pinned then e :: dropUnpinned t else t

/-- An entry put into an L2 of 8,192: an entry of the same page is replaced and keeps its pin (R226, R227). Newest
last. -/
def l2Put (e : XltEntry) (l : List XltEntry) : List XltEntry :=
  let same := fun (x : XltEntry) => x.part == e.part && x.combined == e.combined && x.page == e.page && x.bits == e.bits
  let pin := l.any fun x => same x && x.pinned
  let l' := l.filter fun x => !same x
  (if l'.length < 8192 then l' else dropUnpinned l') ++ [{ e with pinned := e.pinned || pin }]

/-- A stage-2 result as an L2 entry for walker use (R225). -/
def S2Res.entry (t : S2Res) (p ipa : Nat) : XltEntry :=
  ⟨p, false, ipa / 2 ^ t.bits, t.bits, t.host, t.addr / 2 ^ t.bits, ipa / 2 ^ t.bits, t.r, t.w, false⟩

/-- Stage 2 for a walker of die `d` (R225): from a stage-2 entry of its L2, else from the tables, which fills one. -/
def State.stage2At (s : State) (d p ipa : Nat) : State × Except Nat S2Res :=
  match (s.l2of d).find? fun e => !e.combined && e.part == p && e.page == ipa / 2 ^ e.bits && (e.r || e.w) with
  | some e => (s, .ok ⟨e.host, e.target * 2 ^ e.bits + ipa % 2 ^ e.bits, e.bits, e.r, e.w⟩)
  | none => match s.stage2 p ipa with
    | .ok t => (s.setL2 d (l2Put (t.entry p ipa) (s.l2of d)), .ok t)
    | .error c => (s, .error c)

/-- Eight bytes of a stage-1 table at an intermediate address (R222, R228, R235): through stage 2, then HBM, charged to the
partition, or host. -/
def State.readTable (s : State) (d p ipa : Nat) : State × Except Nat Nat :=
  match s.stage2At d p ipa with
  | (s1, .error c) => (s1, .error c)
  | (s1, .ok t) =>
    if !t.r then (s1, .error 5)
    else if t.host then
      match s1.hostFn p with
      | some fn => if s1.hostFails fn t.addr then (s1, .error 9) else (s1.hostGoes fn t.addr, .ok (s1.hostNat fn t.addr 8))
      | none => (s1, .error 9)
    else
      match s1.homeRead p ipa t.addr 8 .none true with
      | (s2, 0, bs) => (s2, .ok (ofBytes bs))
      | (s2, 3, _) => (s2, .error 7)
      | (s2, _, _) => (s2, .error 8)

/-- A stage-1 result: intermediate address, page bits, rights. -/
structure S1Res where
  ipa : Nat
  bits : Nat
  r : Bool
  w : Bool
deriving DecidableEq, Repr

/-- Stage-1 walk (R221 to R223, R235). -/
def State.s1Walk (s : State) (d p va : Nat) : Nat → Nat → State × Except XFault S1Res
  | 0, _ => (s, .error ⟨3, va⟩)
  | fuel + 1, table =>
    let level := 2 - fuel
    let at_ := table + 8 * levelIndex va level
    match s.readTable d p at_ with
    | (s', .error c) => (s', .error ⟨c, at_⟩)
    | (s', .ok v) =>
      let e := entryOf v
      if !e.valid then (s', .error ⟨1, va⟩)
      else if e.bad true level then (s', .error ⟨3, va⟩)
      else if e.leaf then
        let b := levelBits level
        (s', .ok ⟨e.addr + va % 2 ^ b, b, e.r, e.w⟩)
      else s'.s1Walk d p va fuel e.addr

/-- Partition `p` has clusters on compute die `d`. -/
def State.onDie (s : State) (p d : Nat) : Bool := (s.part p).clusters / 2 ^ (12 * d) % 4096 != 0

/-- A walk of both stages on die `d` (R224, R228, R235); the entries of the static carve-out are pinned on the dies that hold
clusters of the partition (R226). -/
def State.walk (s : State) (d p va : Nat) (write : Bool) : State × Except XFault XltEntry :=
  let root := s.reg (bXLT + 0x40 * p)
  if !bitAt root 0 then (s, .error ⟨1, va⟩)
  else
    match s.s1Walk d p va 3 (root / 2 ^ 20 % 2 ^ 28 * 2 ^ 20) with
    | (s1, .error f) => (s1, .error f)
    | (s1, .ok a) =>
      if !(if write then a.w else a.r) then (s1, .error ⟨2, va⟩)
      else
        match s1.stage2At d p a.ipa with
        | (s2, .error c) => (s2, .error ⟨c, a.ipa⟩)
        | (s2, .ok t) =>
          if !(if write then t.w else t.r) then (s2, .error ⟨5, a.ipa⟩)
          else if !t.host && !dpaMapped t.addr then (s2.ledgerPart 0x0104 p t.addr 0 0 0, .error ⟨7, a.ipa⟩)
          else
            let b := min a.bits t.bits
            (s2, .ok ⟨p, true, va / 2 ^ b, b, t.host, t.addr / 2 ^ b, a.ipa / 2 ^ b, a.r && t.r, a.w && t.w,
              decide (a.ipa < 0x6000000000) && s2.onDie p d⟩)

/-! Caches (R225 to R227) -/

/-- The entry serves an access of partition `p` at `va`. -/
def XltEntry.serves (e : XltEntry) (p va : Nat) (write : Bool) : Bool :=
  e.combined && e.part == p && e.page == va / 2 ^ e.bits && (if write then e.w else e.r)

/-- An entry at the front of an L1, which keeps 64 by least recent use (R225). -/
def l1Put (e : XltEntry) (l : List XltEntry) : List XltEntry :=
  (e :: l.filter fun x => !(x.part == e.part && x.page == e.page && x.bits == e.bits)).take 64

/-- The target of an access served by an entry. -/
def XltEntry.target' (e : XltEntry) (va : Nat) : XRes :=
  ⟨e.host, e.target * 2 ^ e.bits + va % 2 ^ e.bits, e.ipa * 2 ^ e.bits + va % 2 ^ e.bits⟩

/-! Fault reports (R235, R236) -/

/-- A translation fault of partition `p` reported (R236). -/
def State.xltFault (s : State) (p port : Nat) (write : Bool) (f : XFault) : State :=
  let b := bXLT + 0x40 * p
  let s1 := if bitAt (s.reg (b + 0x18)) 31 then s
    else (s.setReg (b + 0x10) f.addr).setReg (b + 0x18) (2 ^ 31 + port * 2 ^ 16 + b2n write * 256 + f.code)
  let s2 := (s1.bump (b + 0x1C) 1).ledgerPart 0x0200 p f.addr f.code 0 0
  let s3 := s2.mbEvent p 3 (port * 2 ^ 72 + b2n write * 2 ^ 68 + f.code * 2 ^ 64 + f.addr)
  if f.code ≥ 4 then s3.msix 0 2 else s3

/-- An L1 filled; the ports outside the engines have none (R225). -/
def State.fillL1 (s : State) (e : Nat) (x : XltEntry) : State :=
  if e < 880 then s.setL1 e (l1Put { x with pinned := false } (s.l1of e)) else s

/-- Translation of one address for an engine port: L1, L2, walk; the caches are filled, a fault is reported (R225, R229,
R235, R236). -/
def State.translate (s : State) (e p va : Nat) (write : Bool) : State × Option XRes :=
  match (s.l1of e).find? fun x => x.serves p va write with
  | some x => (s.setL1 e (l1Put x (s.l1of e)), some (x.target' va))
  | none =>
    let d := dieOfEngine e
    match (s.l2of d).find? fun x => x.serves p va write with
    | some x => (s.fillL1 e x, some (x.target' va))
    | none =>
      let s0 := s.bump (bXLT + 0x1010 + 4 * d) 1
      match s0.walk d p va write with
      | (s1, .ok x) => ((s1.setL2 d (l2Put x (s1.l2of d))).fillL1 e x, some (x.target' va))
      | (s1, .error f) => (s1.xltFault p (enginePort e) write f, none)

/-- Entries that `f` selects removed from a cache; a pinned one keeps its slot without rights (R227, R232). -/
def dropEntries (f : XltEntry → Bool) : List XltEntry → List XltEntry
  | [] => []
  | e :: t =>
    if f e then (if e.pinned then { e with r := false, w := false } :: dropEntries f t else dropEntries f t)
    else e :: dropEntries f t

/-- Entries removed from every L1 and L2 (R232). -/
def State.dropXlt (s : State) (f : XltEntry → Bool) : State :=
  { s with l1 := s.l1.map fun e => (e.1, e.2.filter fun x => !f x), l2 := s.l2.map fun e => (e.1, dropEntries f e.2) }

/-- Entries removed from every L1 and L2, with their pin slots. -/
def State.purgeXlt (s : State) (f : XltEntry → Bool) : State :=
  { s with l1 := s.l1.map fun e => (e.1, e.2.filter fun x => !f x), l2 := s.l2.map fun e => (e.1, e.2.filter fun x => !f x) }

/-! Accesses -/

/-- Bytes of an access that stay in the sector of `a`. -/
def chunk (a n : Nat) : Nat := min n (512 - a % 512)

/-- A request of an engine port leaves it: tokens are taken where its class needs them (R205, R206). What a transfer waits for
them is time, which the model leaves out (log 64): the bucket is taken down to empty. -/
def State.spend (s : State) (e p a n : Nat) : State :=
  s.takeTokens (enginePort e) (s.classOf (enginePort e) p) (dpaGroup a) n

/-- A read of `n` bytes at a tenant virtual address through an engine port (R220). Status and the bytes read before it. `fuel`
bounds the number of sectors. -/
def State.readVa (s : State) (e p va n : Nat) : Nat → State × Nat × List Byte
  | 0 => (s, 0, [])
  | fuel + 1 =>
    if n = 0 then (s, 0, [])
    else
      let k := chunk va n
      match s.translate e p va false with
      | (s1, none) => (s1, 3, [])
      | (s1, some x) =>
        if x.host then
          match (s1.hostFn p).filter fun fn => !s1.hostFails fn x.addr with
          | none => (s1.xltFault p (enginePort e) false ⟨9, x.ipa⟩, 3, [])
          | some fn =>
            match (s1.hostGoes fn x.addr).readVa e p (va + k) (n - k) fuel with
            | (s2, st, bs) => (s2, st, s1.hostRead fn x.addr k ++ bs)
        else
          match (s1.spend e p x.addr k).homeRead p x.ipa x.addr k .none (e != cusPort) with
          | (s2, 0, b1) =>
            match s2.readVa e p (va + k) (n - k) fuel with
            | (s3, st, bs) => (s3, st, b1 ++ bs)
          | (s2, 3, _) => (s2.xltFault p (enginePort e) false ⟨7, x.ipa⟩, 3, [])
          | (s2, st, _) => (s2, st, [])

/-- A write of bytes at a tenant virtual address through an engine port; status and the bytes acknowledged. -/
def State.writeVa (s : State) (e p va : Nat) (bs : List Byte) : Nat → State × Nat × Nat
  | 0 => (s, 0, 0)
  | fuel + 1 =>
    if bs.isEmpty then (s, 0, 0)
    else
      let k := chunk va bs.length
      match s.translate e p va true with
      | (s1, none) => (s1, 3, 0)
      | (s1, some x) =>
        if x.host then
          match (s1.hostFn p).filter fun fn => !s1.hostFails fn x.addr with
          | none => (s1.xltFault p (enginePort e) true ⟨9, x.ipa⟩, 3, 0)
          | some fn =>
            match ((s1.hostGoes fn x.addr).hostWrite fn x.addr (bs.take k)).writeVa e p (va + k) (bs.drop k) fuel with
            | (s2, st, m) => (s2, st, m + k)
        else
          match (s1.spend e p x.addr k).homeWrite p x.ipa x.addr (bs.take k) .none (e != cusPort) with
          | (s2, 0) =>
            match s2.writeVa e p (va + k) (bs.drop k) fuel with
            | (s3, st, m) => (s3, st, m + k)
          | (s2, 3) => (s2.xltFault p (enginePort e) true ⟨7, x.ipa⟩, 3, 0)
          | (s2, st) => (s2, st, 0)

/-- Fuel for an access of `n` bytes. -/
def sectors (n : Nat) : Nat := n / 512 + 2

/-- A read of a lending partition's intermediate address through the link ingress of a fabric die (R241). -/
def State.readIpa (s : State) (fd p ipa n : Nat) : Nat → State × Nat × List Byte
  | 0 => (s, 0, [])
  | fuel + 1 =>
    if n = 0 then (s, 0, [])
    else
      let k := chunk ipa n
      match s.stage2At (dieOfEngine (linkIn fd)) p ipa with
      | (s1, .error c) => (s1.xltFault p (160 + fd) false ⟨c, ipa⟩, 3, [])
      | (s1, .ok t) =>
        if !t.r then (s1.xltFault p (160 + fd) false ⟨5, ipa⟩, 3, [])
        else if t.host then
          match (s1.hostFn p).filter fun fn => !s1.hostFails fn t.addr with
          | none => (s1.xltFault p (160 + fd) false ⟨9, ipa⟩, 3, [])
          | some fn =>
            match (s1.hostGoes fn t.addr).readIpa fd p (ipa + k) (n - k) fuel with
            | (s2, st, bs) => (s2, st, s1.hostRead fn t.addr k ++ bs)
        else
          match (s1.spend (linkIn fd) p t.addr k).homeRead p ipa t.addr k .none true with
          | (s2, 0, b1) =>
            match s2.readIpa fd p (ipa + k) (n - k) fuel with
            | (s3, st, bs) => (s3, st, b1 ++ bs)
          | (s2, 3, _) => (s2.xltFault p (160 + fd) false ⟨7, ipa⟩, 3, [])
          | (s2, st, _) => (s2, st, [])

/-- A write at a lending partition's intermediate address; status. -/
def State.writeIpa (s : State) (fd p ipa : Nat) (bs : List Byte) : Nat → State × Nat
  | 0 => (s, 0)
  | fuel + 1 =>
    if bs.isEmpty then (s, 0)
    else
      let k := chunk ipa bs.length
      match s.stage2At (dieOfEngine (linkIn fd)) p ipa with
      | (s1, .error c) => (s1.xltFault p (160 + fd) true ⟨c, ipa⟩, 3)
      | (s1, .ok t) =>
        if !t.w then (s1.xltFault p (160 + fd) true ⟨5, ipa⟩, 3)
        else if t.host then
          match (s1.hostFn p).filter fun fn => !s1.hostFails fn t.addr with
          | none => (s1.xltFault p (160 + fd) true ⟨9, ipa⟩, 3)
          | some fn => ((s1.hostGoes fn t.addr).hostWrite fn t.addr (bs.take k)).writeIpa fd p (ipa + k) (bs.drop k) fuel
        else
          match (s1.spend (linkIn fd) p t.addr k).homeWrite p ipa t.addr (bs.take k) .none true with
          | (s2, 0) => s2.writeIpa fd p (ipa + k) (bs.drop k) fuel
          | (s2, 3) => (s2.xltFault p (160 + fd) true ⟨7, ipa⟩, 3)
          | (s2, st) => (s2, st)

end Sys2Proof.Machine
end

