-- ==== Sys2Proof/Machine/Mem.lean ====
section
/-! DEFINITION. Commands of the memory system and of bandwidth regulation (spec/07: R178 to R197; spec/08: R199 to R216;
spec/17: R466). -/
namespace Sys2Proof.Machine

/-! Regulation (R199 to R209) -/

/-- Partition of a master port, where the port alone decides it (R199, Table 1). -/
def State.portPart (s : State) (m : Nat) : Option Nat :=
  if m < 48 then (if (s.clu m).bound then some (s.clu m).part else none)
  else if m < 144 then (if (s.clu ((m - 48) / 2)).bound then some (s.clu ((m - 48) / 2)).part else none)
  else none

/-- Marks of R201 on the requests of a port to a sector: how many have waited 4 µs. -/
def State.agedCount (s : State) (r : ReqInfo) : Nat := (s.aged.filter fun x => x == (r.port, r.sector)).length

/-- The request is one of those that have waited 4 µs: the marks of its port and sector belong to the oldest (R201, R202). -/
def State.isAged (s : State) (r : ReqInfo) (all : List ReqInfo) : Bool :=
  decide ((all.filter fun o => o.port == r.port && o.sector == r.sector && decide (o.age > r.age)).length < s.agedCount r)

/-- Effective priority before R202, among all the requests at the home (R201, Table 2). -/
def State.level (s : State) (r : ReqInfo) (all : List ReqInfo) : Nat :=
  match s.classOf r.port r.part with
  | 2 => 3 + s.urgencyOf r.port
  | 1 => 3
  | k => if s.isAged r all then 2 else if k = 3 then 0 else 1

/-- Effective priority: a request that holds back a later one of its port to its sector takes the later one's level
(R202). -/
def State.priority (s : State) (r : ReqInfo) (all : List ReqInfo) : Nat :=
  all.foldl (fun m o => if o.port = r.port ∧ o.sector = r.sector ∧ o.age < r.age then max m (s.level o all) else m) (s.level r all)

/-- A row hit counts at a channel controller only, so for a sector that the bank holds no line of (R201). -/
def State.hitsRow (s : State) (r : ReqInfo) : Bool := r.rowHit && (s.line r.sector).isNone

/-- The home serves `r` next: no earlier request of its port to its sector waits, and no other request goes before it by
priority, row hit, or age (R201, R202). -/
def State.servedNext (s : State) (r : ReqInfo) (others : List ReqInfo) : Bool :=
  let all := r :: others
  others.all fun o =>
    !(o.port == r.port && o.sector == r.sector && decide (o.age > r.age))
    && (let a := s.priority r all
        let b := s.priority o all
        decide (b < a) || (b == a && (if s.hitsRow r == s.hitsRow o then decide (o.age ≤ r.age) else s.hitsRow r)))

/-- Compute die of an address: that of its channel group (R22). -/
def dieOfAddr (a : Nat) : Nat := dpaGroup a / 8

/-- A request at its port must wait for tokens: it needs some, and the bucket holds too few or an earlier request of the port to
the same die waits for them (R205, R207). -/
def State.mustHold (s : State) (r : HeldReq) : Bool :=
  s.needsTokens r.cls (dpaGroup r.addr) &&
    (decide (s.tokensOf r.me.port < tokenCharge r.n)
      || (s.port r.me.port).waiting.any fun x => dieOfAddr x.addr == dieOfAddr r.addr && s.needsTokens x.cls (dpaGroup x.addr))

/-- A request served at its home, with the answer to its port (R178, R182). -/
def State.serve (s : State) (r : HeldReq) : State :=
  let paid := paysFor r.me.port r.me.part
  let s1 := { s with aged := s.aged.erase (r.me.port, r.me.sector) }
  match r.bytes with
  | none => let x := s1.homeRead r.me.part r.ipa r.addr r.n r.ecc paid; x.1.emit (.memResult r.me.port x.2.1 x.2.2)
  | some bs => let x := s1.homeWrite r.me.part r.ipa r.addr bs r.ecc paid; x.1.emit (.memResult r.me.port x.2 [])

/-- A request of a master: it leaves and is served, being the next at its home, or is held at its port for tokens (R201, R202,
R205, R207). A request lies within one sector. -/
def State.request (s : State) (r : HeldReq) (others : List ReqInfo) : State :=
  let m := r.me.port
  if r.n = 0 ∨ r.addr % 512 + r.n > 512 ∨ !s.servedNext r.me others then s
  else if s.mustHold r then s.setPort m { s.port m with waiting := (s.port m).waiting ++ [r] }
  else (s.takeTokens m r.cls (dpaGroup r.addr) r.n).serve r

/-- The requests held at a port looked at in order: each that may leave does, and one that still waits for tokens holds back those
behind it to its die that need tokens (R207). -/
def State.pumpHeldReqs (s : State) (m : Nat) : List HeldReq → State
  | [] => s
  | r :: rs =>
    let s1 := s.setPort m { s.port m with waiting := (s.port m).waiting.erase r }
    if s1.needsTokens r.cls (dpaGroup r.addr) ∧ (s.tokensOf m < tokenCharge r.n
        ∨ ((s.port m).waiting.takeWhile fun x => x != r).any fun x => dieOfAddr x.addr == dieOfAddr r.addr && s.needsTokens x.cls (dpaGroup x.addr))
    then s.pumpHeldReqs m rs
    else ((s1.takeTokens m r.cls (dpaGroup r.addr) r.n).serve r).pumpHeldReqs m rs

/-- Every port's held requests looked at. -/
def State.pumpPorts (s : State) : List Nat → State
  | [] => s
  | m :: ms => (s.pumpHeldReqs m (s.port m).waiting).pumpPorts ms

/-- MEM_READ (R177 to R183, R190 to R195, R199, R201, R202, R205, R207, R212, R460 to R463): `me` is the request, `others` the
requests queued at the same home. -/
def execMemRead (me : ReqInfo) (others : List ReqInfo) (ipa : Fin 281474976710656) (a : Fin 4398046511104) (n : Nat) (ecc : Ecc)
    (s : State) : Out :=
  .next (s.request ⟨{ me with sector := sectorOf a }, s.classOf me.port me.part, ipa, a, n, none, ecc⟩ others)

/-- MEM_WRITE (R177 to R183, R190, R191, R196, R199, R201, R202, R205, R207, R212, R460 to R465). -/
def execMemWrite (me : ReqInfo) (others : List ReqInfo) (ipa : Fin 281474976710656) (a : Fin 4398046511104) (bs : List Byte) (ecc : Ecc)
    (s : State) : Out :=
  .next (s.request ⟨{ me with sector := sectorOf a }, s.classOf me.port me.part, ipa, a, bs.length, some bs, ecc⟩ others)

/-- Raw sectors of a channel group, tag region included (R172, R184). -/
def rawSectors : Nat := 25165824
/-- Sectors of a usable area (R173). -/
def dataSectors : Nat := 24772608

/-- The block of a sector of a region without owner entered in the withheld-block table (R187). -/
def State.withhold (s : State) (a : Nat) : State :=
  let b := a / 4096
  if s.withheld.any fun w => w.block == b then s
  else if s.withheld.length < 256 then { s with withheld := s.withheld ++ [⟨b, false⟩] }
  else s.ledger 0x0103 (srcOf3 0xFF 0 0) a 0 (dpaGroup a)

/-- The intermediate address of a device physical address of partition `p`: by the arena's slot of its page, or by the span that
holds it (R186, R341, R368). -/
def State.ipaOf (s : State) (p a : Nat) : Nat :=
  let pg := pageOf a
  let q := s.part p
  let each := (match q.entry with
    | some e => e.carve
    | none => 0) / max 1 q.spans.length
  match s.arena.find? fun e => e.2 == some pg && e.1 / 4096 == p with
  | some e => 0xE00000000000 + e.1 % 4096 * 2 ^ 25 + a % 2 ^ 25
  | none => match q.spans.zipIdx.find? fun x => decide (x.1.2 ≤ pg) && decide (pg < x.1.2 + each) with
    | some x => (x.2 * each + (pg - x.1.2)) * 2 ^ 25 + a % 2 ^ 25
    | none => 0

/-- A sector that the scrubber found uncorrectable (R184 to R187). -/
def State.scrubPoison (s : State) (a : Nat) : State :=
  let s1 := (s.markPoison (sectorOf a)).bump (bMEM + 0x404 + 8 * dpaGroup a) 1
  match s1.holder a with
  | some p =>
    let ipa := s1.ipaOf p (a / 512 * 512)
    (s1.ledgerPart 0x0102 p ipa 0 0 (dpaGroup a)).mbEvent p 1 ipa
  | none => (s1.ledger 0x0102 (srcOf3 0xFF 0 0) a 0 (dpaGroup a)).withhold a

/-- A line of the tag region read (R184): its corrections are counted; an uncorrectable one is counted and recorded, no sector being
its own (DESIGN CHOICE log 63). -/
def State.scrubTag (s : State) (g a : Nat) (e : Ecc) : State :=
  match e with
  | .corr => s.bump (bMEM + 0x400 + 8 * g) 1
  | .uncorr => (s.bump (bMEM + 0x404 + 8 * g) 1).ledger 0x0102 (srcOf3 0xFF 0 0) a 0 g
  | _ => s

/-- The scrubber moves on; a pass ends after the last sector (R184, R198). -/
def State.scrubNext (s : State) : State :=
  if s.scrub.pos + 1 < 32 * rawSectors then { s with scrub := { s.scrub with pos := s.scrub.pos + 1 } }
  else { s.bump (bMEM + 0x608) 1 with scrub := { s.scrub with pos := 0 } }

/-- What the scrubber's read of raw sector `i` of group `g` does, but for its place in the pass (R184 to R187). -/
def State.scrubCheck (s : State) (g i : Nat) (ecc : Ecc) (raced : Bool) : State :=
  let a := g * 2 ^ 34 + i * 512
  if raced then s
  else if i ≥ dataSectors then s.scrubTag g a ecc
  else match s.met (sectorOf a) ecc with
    | .corr => (s.calm (sectorOf a)).bump (bMEM + 0x400 + 8 * g) 1
    | .uncorr => s.scrubPoison a
    | _ => s

/-- SCRUB_READ (R182, R184 to R187, R204): what the read met, whether a write to the sector was accepted since (R185), and whether
the row needed 8 or more corrections in this pass (R188). It waits where its group is throttled for BG and its port has too few
tokens. A free group leaves self-refresh for it and goes back (R184, R197). -/
def execScrubRead (ecc : Ecc) (raced heavy : Bool) (s : State) : Out :=
  let g := s.scrub.pos / rawSectors
  .next (if !bitAt (s.reg (bMEM + 0x600)) 0 ∨ (s.needsTokens 3 g ∧ s.tokensOf 163 < tokenCharge 512) then s
    else
      let s1 := (s.takeTokens 163 3 g 512).scrubCheck g (s.scrub.pos % rawSectors) ecc raced
      (if heavy then { s1 with repairRows := s1.repairRows ++ [s.scrub.pos] } else s1).scrubNext)

/-- REFRESH (R180): a per-bank refresh, or a refresh-management command, of a channel. -/
def execRefresh (ch : ChannelId) (s : State) : Out :=
  .next { s with refreshes := tblSet (fun _ => 0) s.refreshes ch (tblGet (fun _ => 0) s.refreshes ch + 1) }

/-- STACK_TEMP_READ (R180): HOT from 85 °C until the stack falls below 80 °C. -/
def execStackTempRead (st : StackId) (temp : Fin 256) (s : State) : Out :=
  let k := bMEM + 0x500 + 4 * st
  let hot := decide (temp.val ≥ 85) || (bitAt (s.reg k) 1 && decide (temp.val ≥ 80))
  let s1 := s.setReg k (temp * 256 + 2 * b2n hot + 1)
  .next (if hot && !bitAt (s.reg k) 1 then s1.ledger 0x0901 (srcOf3 0xFF 0 st) st temp 0 else s1)

/-- A line of a way put in ascending set order (R193). -/
def putBySet (x : Nat × CacheLine) : List (Nat × CacheLine) → List (Nat × CacheLine)
  | [] => [x]
  | y :: ys => if setOf (x.1 * 512) ≤ setOf (y.1 * 512) then x :: y :: ys else y :: putBySet x ys

/-- The lines of a way of group `g`, in ascending set order. -/
def linesOfWay (g w : Nat) : List (Nat × Option CacheLine) → List (Nat × CacheLine)
  | [] => []
  | (sec, some l) :: t => if dpaGroup (sec * 512) = g ∧ l.way = w then putBySet (sec, l) (linesOfWay g w t) else linesOfWay g w t
  | (_, none) :: t => linesOfWay g w t

/-- Lines removed in turn, each written back where dirty (R193). -/
def State.cleanLines (s : State) : List (Nat × CacheLine) → State
  | [] => s
  | e :: t => (s.evict e.1 e.2).cleanLines t

/-- WAY_MOVE_DONE (R193): the way is clean and passes to its new assignment. -/
def execWayMoveDone (g : GroupId) (w : Fin 16) (s : State) : Out :=
  .next (match (s.group g).waysMoving.find? fun e => e.1 == w.val with
    | none => s
    | some e =>
      let s1 := (s.cleanLines (linesOfWay g w s.lines)).setWay (16 * g + w) e.2
      s1.setGroup g { s1.group g with waysMoving := (s1.group g).waysMoving.filter fun x => x.1 ≠ w.val })

/-- Regions of a group given to a partition, each under new keys (R174, R459). -/
def State.takeRegions (s : State) (p g : Nat) : List Nat → State
  | [] => s
  | r :: rs =>
    let k := s.newKey
    let q : Region := { Region.reset with owner := some p, keyed := true, keyNo := k.2 }
    (k.1.setRegion (12 * g + r) q).takeRegions p g rs

/-- What waited for a group to leave self-refresh takes its owner (R174, R197). -/
def State.giveTakings (s : State) (g : Nat) : List Taking → State
  | [] => s
  | t :: ts =>
    let s1 := s.takeRegions t.part g t.regions
    (s1.setGroup g { s1.group g with mode := if t.dedicated then .dedicated else .shared, owner := if t.dedicated then t.part else 0 }).giveTakings g ts

/-- A group out of self-refresh, and what waited for that given its owner (R197). -/
def State.wakeGroup (s : State) (g : Nat) : State :=
  let k := s.group g
  if k.selfRefresh then
    (s.setGroup g { k with selfRefresh := false, exiting := false, taking := [] }).giveTakings g k.taking
  else s

/-- SELF_REFRESH_EXIT (R197). -/
def execSelfRefreshExit (g : GroupId) (s : State) : Out := .next (s.wakeGroup g)

/-- The group holds no owned region, no region under clear and no pool region: it is free and goes into self-refresh
(R174, R197, R466). -/
def State.freeIfEmpty (s : State) (g : Nat) : State :=
  let rs := (List.range 12).map fun r => s.region (12 * g + r)
  if rs.all (fun r => r.owner.isNone && !r.clearing) && s.pool.all fun e => e.1 / 512 != g || e.2.isNone then
    s.setGroup g { s.group g with mode := .free, owner := 0, clearing := false, exiting := false, selfRefresh := true }
  else if rs.all fun r => !r.clearing then s.setGroup g { s.group g with clearing := false }
  else s

/-- The blocks of poisoned sectors in a range entered in the withheld-block table (R528). -/
def State.withholdAll (s : State) : List (Nat × Bool) → State
  | [] => s
  | e :: t => (s.withhold (e.1 * 512)).withholdAll t

/-- A region cleared (R466, R528): every sector zero with a clear tag; the region is free. -/
def State.regionCleared (s : State) (q : Nat) : State :=
  let lo := regionBase q
  let hi := lo + regionSize q
  let s1 := s.withholdAll (s.poison.filter fun e => e.2 && decide (sectorOf lo ≤ e.1) && decide (e.1 < sectorOf hi))
  ((s1.clearRange lo hi).setRegion q Region.reset).freeIfEmpty (q / 12)

/-! Bandwidth regulation (R203 to R209, R214 to R216) -/

/-- A throttle: set at its watermark, lifted 8 below it (R204). -/
def throttle (old : Bool) (level wm : Nat) : Bool := decide (level ≥ wm) || (old && decide (level + 8 ≥ wm))

/-- GROUP_LEVEL_SAMPLE (R203, R204): the requests that no longer need tokens leave their ports (R207). -/
def execGroupLevelSample (g : GroupId) (level : Fin 129) (s : State) : Out :=
  let wm := s.reg (bQOS + 0x600)
  let l := s.levelOf g
  .next ((s.setLevel g ⟨level, throttle l.bg level (wm % 256), throttle l.be level (bits wm 15 8),
    throttle l.gu level (bits wm 23 16)⟩).pumpPorts (s.tokens.map (·.1)))

/-- TOKEN_REFILL (R205, R207): RATE × 32 ns of bytes, in tenths of a byte, up to BURST; the held requests that can pay leave. -/
def execTokenRefill (m : PortId) (s : State) : Out :=
  let r := s.reg (bQOS + 0x200 + 4 * m)
  .next ((s.setTokens m (min (s.tokensOf m + 32 * (r / 2 ^ 16)) (40960 * max 1 (r % 4096)))).pumpPorts [m])

/-- A 2-bit level one code step nearer to `want` (R35). -/
def codeStep (cur want : Nat) : Nat := if cur < want then cur + 1 else if want < cur then cur - 1 else cur

/-- The urgency level of what a master measures (R208, Table 3): of a cluster port its loads outstanding, of a DMA engine the bytes
in its read-ahead buffer. -/
def urgencyFor (m x : Nat) : Nat :=
  if m < 48 then (if x < 8 then 0 else if x < 16 then 1 else if x < 24 then 2 else 3)
  else if x ≥ 12288 then 0 else if x ≥ 8192 then 1 else if x ≥ 4096 then 2 else 3

/-- The master is an RT one: its partition's class is RT, or, of a link DMA engine, that of a transfer it runs (R199, R208). -/
def State.rtMaster (s : State) (m : Nat) : Bool :=
  if 144 ≤ m ∧ m < 160 then (s.engine (m - 48)).queue.any fun x => x.started && s.classOf m x.part == 2
  else match s.portPart m with
    | some p => s.classOf m p == 2
    | none => false

/-- URGENCY_CHANGE (R35, R208, R209): the level a master drives moves by one code step: an RT master's towards the level of what it
measures, any other master's towards 0. -/
def execUrgencyChange (m : PortId) (measured : Nat) (s : State) : Out :=
  .next (s.setUrgency m (codeStep (s.urgencyOf m) (if s.rtMaster m then urgencyFor m measured else 0)))

/-- REQUEST_AGE_PROMOTE (R201): a BE or BG request that has waited 4 µs rises to level 2. -/
def execRequestAgePromote (m : PortId) (p : PartId) (a : Fin 4398046511104) (s : State) : Out :=
  let k := s.classOf m p
  .next (if k = 0 ∨ k = 3 then { s with aged := s.aged ++ [(m.val, sectorOf a)] } else s)

/-- Bytes that a grant of 100 MB/s stands for in a window of a length code (R214, R219). -/
def windowUnit (code : Nat) : Nat :=
  match code with
  | 0 => 1000
  | 1 => 10000
  | _ => 100000

/-- Bytes a grant stands for in the window in force (R214, R219). -/
def State.grantBytes (s : State) (g p : Nat) : Nat :=
  s.reg (bQOS + 0x1000 + 0x80 * g + 4 * p) % 2 ^ 16 * windowUnit (s.group g).window

/-- A guarantee-missed event of group `g` is still unread (R216, R420). -/
def Inst.missUnread (i : Inst) (g : Nat) : Bool :=
  let unread := fun k => if i.headWrap = i.tailWrap then decide (i.head ≤ k) && decide (k < i.tail)
    else decide (i.head ≤ k) || decide (k < i.tail)
  (i.ring.any fun e => unread e.1 && e.2.type == 2 && bits e.2.detail 95 88 == g)
    || i.held.any fun e => e.type == 2 && bits e.detail 95 88 == g

/-- A miss of partition `p` at group `g` (R216). -/
def State.miss (s : State) (g p served demand : Nat) : State :=
  let rt := s.reg (bQOS + 4 * p) % 4 == 2
  let s1 := (s.setBits (if rt then bQOS + 0x614 else bQOS + 0x610) (2 ^ p)).bump (bQOS + 0x2000 + 4 * p) 1
  let s2 := (s1.msix 0 1).ledgerPart 0x0600 p g (if rt then 2 else 1) 0 0
  let unread := match s2.instOf p with
    | some v => (s2.inst v).missUnread g
    | none => false
  if unread then s2
  else s2.mbEvent p 2 (served % 2 ^ 32 * 2 ^ 128 + demand % 2 ^ 32 * 2 ^ 96 + g * 2 ^ 88 + (if rt then 2 else 1) * 2 ^ 80)

/-- Sum of the grants at a group. -/
def State.granted (s : State) (g : Nat) : Nat :=
  ((List.range 32).map fun p =>
    let v := s.reg (bQOS + 0x1000 + 0x80 * g + 4 * p)
    if bitAt v 31 then v % 65536 else 0).sum

/-- The guarantee of R214 does not hold for any partition at a group now: the grants exceed R213, or a way move, a clear or a
self-refresh exit is in progress. -/
def State.groupExempt (s : State) (g : Nat) : Bool :=
  let k := s.group g
  decide (s.granted g > s.reg (bQOS + 0x608) % 65536) || !k.waysMoving.isEmpty || k.clearing || k.exiting

/-- The demand of R214 of a partition: what it had served at the home, accepted no later than 2 µs before the close, with what still
waits. -/
def State.demandOf (s : State) (g p queued : Nat) : Nat :=
  (((s.servedOf (32 * g + p)).accepts.filter fun x => decide (x.1 + 2000 ≤ s.now)).map (·.2)).sum + queued

/-- One partition judged at the close of a window (R214, R215); `w` is what the home's queue holds of it. -/
def State.judge (s : State) (g p : Nat) (busy : Bool) (w : Window) : State :=
  let cls := s.reg (bQOS + 4 * p) % 4
  if !bitAt (s.reg (bQOS + 0x1000 + 0x80 * g + 4 * p)) 31 || !(cls == 1 || cls == 2) then s
  else if busy || s.groupExempt g || w.paused || (s.part p).st == .rebinding then s.bump (bQOS + 0x618) 1
  else
    let h := s.servedOf (32 * g + p)
    let d := s.demandOf g p w.queued
    let short := decide (h.charged ≤ s.grantBytes g p) && decide (h.bytes < min d (s.grantBytes g p))
    if short || (cls == 2 && decide (w.longest > s.reg (bQOS + 0x60C) % 65536)) then s.miss g p h.bytes d else s

/-- The partitions judged in turn. -/
def State.judgeAll (s : State) (g : Nat) (busy : Bool) (ws : List Window) : List Nat → State
  | [] => s
  | p :: ps => (s.judge g p busy ((ws.find? fun w => w.part == p).getD ⟨p, 0, 0, false⟩)).judgeAll g busy ws ps

/-- MONITOR_WINDOW_CLOSE (R214 to R216, R219): every granted partition is judged, and the next window opens with the length that
QOS_WINDOW gives. `busy`: the window overlapped a way move, a clear or a self-refresh exit of the group; `ws` says what the home's
queue holds, by partition. -/
def execMonitorWindowClose (g : GroupId) (busy : Bool) (ws : List Window) (s : State) : Out :=
  let s1 := s.judgeAll g busy ws (List.range 32)
  let s2 : State := { s1 with served := tblClear (32 * g) (32 * g + 32) s1.served }
  .next (s2.setGroup g { s2.group g with window := s2.reg (bQOS + 0x604) % 4 })

end Sys2Proof.Machine
end

