-- ==== Sys2Proof/Machine/Matrix.lean ====
section
/-! DEFINITION. Matrix steps LOADB, MMA, ZERO and DRAIN (spec/04: R78 to R84, R97, R591; spec/03: R58 to R61; spec/05:
R111; spec/06: R141 to R147, R169). -/
namespace Sys2Proof.Machine

/-- Rate classes (R58, R79). -/
inductive Rate where
  | tern | c4 | c8 | c6 | c16 | f32
deriving DecidableEq, Repr

/-- K per row of a class, dense (R79, Table 2). -/
def Rate.k : Rate → Nat
  | .tern | .c4 => 256
  | .c8 | .c6 => 128
  | .c16 => 64
  | .f32 => 16
/-- N of a class (R79, Table 2). -/
def Rate.n : Rate → Nat
  | .tern => 128
  | _ => 64

/-- A permitted operand pair: class, products per reduction group, INT32 accumulation, and whether the 64-position
folding of R60 applies. -/
structure PairRule where
  rate : Rate
  group : Nat
  int : Bool
  folded : Bool
deriving DecidableEq, Repr

/-- The pairs with operand A first, as R58, Table 3 lists them. -/
def pairRule1 : Fmt → Fmt → Option PairRule
  | .fp32, .fp32 => some ⟨.f32, 4, false, true⟩
  | .bf16, .bf16 | .bf16, .fp16 | .fp16, .bf16 | .fp16, .fp16 => some ⟨.c16, 16, false, true⟩
  | .e2m1, .e2m1 => some ⟨.c4, 32, false, false⟩
  | .e3m2, .e3m2 | .e3m2, .e2m3 | .e3m2, .e2m1 | .e2m3, .e3m2 | .e2m3, .e2m3 | .e2m3, .e2m1 => some ⟨.c6, 32, false, false⟩
  | .e5m2, b | .e4m3, b => if isMx b then some ⟨.c8, 32, false, false⟩ else none
  | .blk4, .blk4 => some ⟨.c4, 16, false, false⟩
  | .int8, .blk4 => some ⟨.c8, 16, false, false⟩
  | .int8, .int8 | .int8, .int4 => some ⟨.c8, 32, true, false⟩
  | .int4, .int4 => some ⟨.c4, 32, true, false⟩
  | .int8, .tern2 => some ⟨.tern, 32, false, false⟩
  | .bf16, .tern2 => some ⟨.c16, 32, false, true⟩
  | _, _ => none

/-- Either operand may take either position (R58). -/
def pairRule (a b : Fmt) : Option PairRule := (pairRule1 a b).orElse fun _ => pairRule1 b a

/-- The classes a tile's format takes part in (R58, R111). -/
def fmtRates : Fmt → List Rate
  | .fp32 => [.f32]
  | .bf16 | .fp16 => [.c16]
  | .e5m2 | .e4m3 => [.c8]
  | .e3m2 | .e2m3 => [.c6, .c8]
  | .e2m1 => [.c4, .c6, .c8]
  | .int8 => [.c8, .tern]
  | .int4 => [.c4, .c8]
  | .tern2 => [.tern, .c16]
  | .blk4 => [.c4, .c8]
  | .int32 => []

/-- SCALED agrees with the format (R97): set only for the MX formats and Blk4, and always for Blk4. -/
def scaleOk (f : Fmt) (scaled : Bool) : Bool := if f = .blk4 then scaled else if scaled then isMx f else true

/-- A run of `len` bytes per row stays inside the scratchpad (R591). -/
def extentOk (off rows stride len : Nat) : Bool := decide (off + (rows - 1) * stride + len ≤ 2 ^ 20)

/-- A plane of `len` bytes stays inside the scratchpad (R591). -/
def planeOk (off len : Nat) : Bool := decide (off + len ≤ 2 ^ 20)

/-- Bytes of the planes behind AUX_BASE: the scale plane, then the metadata plane at the next 32-byte boundary (R96). -/
def metaOff (d : Desc) (scalePlane : Nat) : Nat :=
  if d.scaled then ceilDiv (d.auxOff + scalePlane) 32 * 32 else d.auxOff

/-- An operand without metadata in the executing core's scratchpad: its format, if the descriptor is good for a matrix
step (R97, R111, R591). -/
def matrixOperand (c : Nat) (d : Desc) : Option Fmt :=
  match fmtOf d.fmt with
  | none => none
  | some f =>
    if d.space = 1 ∧ d.core = c ∧ scaleOk f d.scaled ∧ !d.sparse ∧ extentOk d.off d.rows d.stride (rowBytes f d.elems)
        ∧ (!d.scaled ∨ planeOk d.auxOff (d.rows * scaleBytes f d.elems)) then some f else none

/-- Rows of a packed plane: `n` rows of `len` bytes, `stride` apart. -/
def State.spadRows (s : State) (c off stride len : Nat) : Nat → List (List Byte)
  | 0 => []
  | n + 1 => s.spadRead c off len :: s.spadRows c (off + stride) stride len n

/-- Poisoned words under rows of a plane. -/
def State.poisonRows (s : State) (c off stride len : Nat) : Nat → Nat
  | 0 => 0
  | n + 1 => s.poisonIn c off len + s.poisonRows c (off + stride) stride len n

/-- Metadata nibbles of a column (R82). -/
def nibbles : List Byte → List Nat
  | [] => []
  | b :: bs => b.toNat % 16 :: b.toNat / 16 :: nibbles bs

/-- Kept elements put back at their logical positions, `z` elsewhere; a reserved nibble gives four zeros (R82, R83). -/
def expand24 {α : Type} (z : α) : List Nat → List α → List α
  | m :: ms, x :: y :: rest =>
    let p := m % 4
    let q := m / 4
    let g := if p < q then (List.range 4).map (fun i => if i = p then x else if i = q then y else z) else [z, z, z, z]
    g ++ expand24 z ms rest
  | _, _ => []

/-- Groups treated as zero (R83). -/
def badGroups (ms : List Nat) : Nat := (ms.filter fun m => !(decide (m % 4 < m / 4))).length

/-- A 2:4 column of Tern2: the 32 kept weights of a block spread over its 16 groups, then scaled, so that a NaN scale makes every
element of its groups NaN, the zeros with them (R57, R82, R83). -/
def ternSparse : Nat → List Nat → List Byte → List Val
  | 0, _, _ => []
  | nb + 1, ms, bs =>
    let sc := e8m0 (nth 0 bs 7).toNat
    (expand24 0 (ms.take 16) (ternWeights bs)).map (fun t => mulV (valOfInt t) sc) ++ ternSparse nb (ms.drop 16) (bs.drop 8)

/-- Values of a tile column over its logical K (R54 to R57, R82 to R84). -/
def Tile.colVals (t : Tile) (i : Nat) : List Val :=
  let bs := nth [] t.cols i
  let sc := nth [] t.scales i
  if t.sparse then
    let ms := nibbles (nth [] t.mets i)
    if t.fmt = .tern2 then ternSparse (t.k / 64) ms bs
    else applyScales t.fmt t.scaled sc 0 (expand24 0 ms (unpackRow t.fmt (t.k / 2) bs))
  else rowVals t.fmt t.scaled t.k bs sc

/-- A tile holds an infinite or NaN element or a NaN scale (R169). -/
def Tile.hasSpecial (t : Tile) : Bool :=
  (List.range t.n).any fun i => (t.colVals i).any fun v => !isFin v

/-- The word at `off` of the core's scratchpad met an uncorrectable error (R594): poisoned where its line is written. -/
def State.upset (s : State) (c : Nat) : Option (Fin 1048576) → State
  | none => s
  | some o =>
    if s.lineWritten c o.val then { s with spadPoison := tblSet (fun _ => false) s.spadPoison (c * 2 ^ 17 + o.val / 8) true }
    else s

/-- The tile a LOADB reads (R80, R82, R111). -/
def State.readTile (s : State) (c : Nat) (d : Desc) (f : Fmt) : Tile :=
  let stored := if d.sparse then d.elems / 2 else d.elems
  let sb := if d.scaled then scaleBytes f d.elems else 0
  let t : Tile :=
    { fmt := f, n := d.rows, k := d.elems, sparse := d.sparse, scaled := d.scaled,
      cols := s.spadRows c d.off d.stride (rowBytes f stored) d.rows,
      scales := s.spadRows c d.auxOff sb sb d.rows,
      mets := if d.sparse then s.spadRows c (metaOff d (d.rows * sb)) (d.elems / 8) (d.elems / 8) d.rows else [],
      special := false }
  { t with special := t.hasSpecial }

/-- A LOADB's conditions (R97, R111, R591), and the tile's format. -/
def tileOk (c : Nat) (d : Desc) : Option Fmt :=
  match fmtOf d.fmt with
  | none => none
  | some f =>
    let stored := if d.sparse then d.elems / 2 else d.elems
    let sb := if d.scaled then scaleBytes f d.elems else 0
    let shape := (fmtRates f).any fun r => r.n == d.rows && (if d.sparse then 2 * r.k else r.k) == d.elems
    if d.space = 1 ∧ d.core = c ∧ scaleOk f d.scaled ∧ shape ∧ extentOk d.off d.rows d.stride (rowBytes f stored)
        ∧ (!d.scaled ∨ planeOk d.auxOff (d.rows * sb))
        ∧ (!d.sparse ∨ planeOk (metaOff d (d.rows * sb)) (d.rows * (d.elems / 8))) then some f else none

/-- Poisoned words a LOADB reads. -/
def State.tilePoison (s : State) (c : Nat) (d : Desc) (f : Fmt) : Nat :=
  let stored := if d.sparse then d.elems / 2 else d.elems
  let sb := if d.scaled then scaleBytes f d.elems else 0
  s.poisonRows c d.off d.stride (rowBytes f stored) d.rows + s.poisonRows c d.auxOff sb sb d.rows
    + (if d.sparse then s.poisonRows c (metaOff d (d.rows * sb)) (d.elems / 8) (d.elems / 8) d.rows else 0)

/-- A weight buffer written. -/
def Core.setBuf (k : Core) (b : Bool) (t : Option Tile) : Core := if b then { k with w1 := t } else { k with w0 := t }
/-- A weight buffer. -/
def Core.buf (k : Core) (b : Bool) : Option Tile := if b then k.w1 else k.w0
/-- An accumulator bank. -/
def Core.bank (k : Core) (b : Bool) : Bank := if b then k.acc1 else k.acc0
/-- An accumulator bank written. -/
def Core.setBank (k : Core) (b : Bool) (x : Bank) : Core := if b then { k with acc1 := x } else { k with acc0 := x }

/-- LOADB (R80, R81, R111, R83, R169). DESIGN CHOICE (log 60): a group with a reserved nibble is counted once, by the LOADB that
reads it, and not by each MMA that uses the tile: R83 counts groups and does not say when. -/
def execLoadb (c : CoreId) (w : StepWord) (upset : Option (Fin 1048576)) (s : State) : Out :=
  .next (s.issue c .mx fun s =>
    let s := s.upset c upset
    match (s.poolRaw (s.core c) (fld w 111 96) (fld w 95 88) 0).map (fun v => ownCore c (descOf v)) with
    | none => s.seqFault c 3
    | some d => match tileOk c d with
      | none => s.seqFault c 1
      | some f =>
        let p := s.tilePoison c d f
        if p > 0 then (s.countPoison c p).seqFault c 2
        else
          let t := s.readTile c d f
          (s.modCore c fun k => k.setBuf (flag w 119) (some t)).bump (dpReg (c / 16) 0x20)
            ((t.mets.map fun m => badGroups (nibbles m)).sum))

/-! Accumulation -/

/-- Products of a reduction group. -/
def products : List Val → List Val → List Val
  | a :: as, b :: bs => mulV a b :: products as bs
  | _, _ => []

/-- Exact sum of values. -/
def sumV : List Val → Val
  | [] => .num false 0 0
  | v :: vs => addV v (sumV vs)

/-- Leading bit position of the largest finite magnitude. -/
def leadBit : List Val → Option Int
  | [] => none
  | .num _ m e :: vs =>
    let r := leadBit vs
    if m = 0 then r else
      let l := (Nat.log2 m : Int) + e
      some (match r with | some x => max l x | none => l)
  | _ :: vs => leadBit vs

/-- The bits of a term at or above position `q`; the rest is discarded, toward zero in magnitude (R60). -/
def truncAt (q : Int) : Val → Val
  | .num a m e => if e ≥ q then .num a m e else .num a (m / 2 ^ (q - e).toNat) q
  | v => v

/-- One reduction group folded into an FP32 accumulator (R59; R60 where `folded`): an exactly zero group sum leaves it
unchanged. -/
def foldGroup (folded : Bool) (terms : List Val) (acc : Nat) : Nat :=
  if isZero (sumV terms) then acc
  else
    let a := decFloat fFp32 acc
    if folded then
      match leadBit (a :: terms) with
      | some l => encRne fFp32 (addV (truncAt (l - 64) a) (sumV (terms.map (truncAt (l - 64)))))
      | none => encRne fFp32 (addV a (sumV terms))
    else encRne fFp32 (addV a (sumV terms))

/-- A value as an integer (INT8 and INT4 products). -/
def intOfVal : Val → Int
  | .num a m e => (if a then -1 else 1) * (m * 2 ^ e.toNat : Nat)
  | _ => 0

/-- One group added to an INT32 accumulator: it saturates at the bound it passes and stays there (R61). -/
def foldInt (x : Int) (acc : Nat × Bool) : Nat × Bool :=
  if acc.2 then acc
  else
    let t := signed 32 acc.1 + x
    if t > 2147483647 then (0x7FFFFFFF, true)
    else if t < -2147483648 then (0x80000000, true)
    else (unsigned 32 t, false)

/-- All groups of a row and a column folded in ascending K (R58). -/
def foldRow (r : PairRule) (g : Nat) : Nat → List Val → List Val → Nat × Bool → Nat × Bool
  | 0, _, _, acc => acc
  | fuel + 1, as, bs, acc =>
    if as.isEmpty then acc else
    let ps := products (as.take g) (bs.take g)
    let acc' := if r.int then foldInt (intOfVal (sumV ps)) acc else (foldGroup r.folded ps acc.1, acc.2)
    foldRow r g fuel (as.drop g) (bs.drop g) acc'

/-- Every column of one A row accumulated into bank row `m`. -/
def mmaRow (r : PairRule) (g : Nat) (cols : List (List Val)) (as : List Val) (m : Nat) (b : Bank) : Bank :=
  (cols.zipIdx).foldl (fun (b : Bank) (x : List Val × Nat) =>
      let key := 128 * m + x.2
      let old := (tblGet (fun _ => 0) b.acc key, tblGet (fun _ => false) b.stuck key)
      let new := foldRow r g 256 as x.1 old
      { b with acc := tblSet (fun _ => 0) b.acc key new.1, stuck := tblSet (fun _ => false) b.stuck key new.2 }) b

/-- An A row is empty: every element encodes a zero and no scale is NaN (R169). A zero element under a NaN scale is NaN. -/
def rowEmpty (f : Fmt) (scaled : Bool) (n : Nat) (bs scales : List Byte) : Bool :=
  (rowVals f false n bs []).all isZero && (rowVals f scaled n bs scales).all isZero

/-- The A rows streamed against the tile; `pick` gives the parts of the row and of the columns that meet. Rows of zeros against
a tile not marked special leave the bank unchanged (R59, R169). -/
def mmaRows (r : PairRule) (g : Nat) (cols : List (List Val)) (special : Bool) (pick : List Val → List Val) :
    Nat → List (List Val) → Bank → Bank
  | _, [], b => b
  | m, as :: rest, b =>
    if as.all isZero && !special then mmaRows r g cols special pick (m + 1) rest b
    else mmaRows r g cols special pick (m + 1) rest (mmaRow r g cols (pick as) m b)

/-! Lists (R140 to R142) -/

/-- A list descriptor is good (R141): shape, space, owner, alignment and extent. -/
def listDescOk (c : Nat) (d : Desc) : Bool :=
  d.fmt == 0xC && d.rows == 1 && !d.scaled && !d.sparse && d.round == 0 && d.aux == 0 && d.space == 1 && d.core == c
    && d.off % 32 == 0 && decide (d.off + 4 * d.elems ≤ 2 ^ 20) && decide (d.elems ≥ 4)

/-- KIND of a list header. -/
def State.listKind (s : State) (c off : Nat) : Nat := s.spadWord c off / 2 ^ 24
/-- ENTRIES of a list header. -/
def State.listEntries (s : State) (c off : Nat) : Nat := s.spadWord c off % 2 ^ 24
/-- The list is of kind `kind`, and its `words` entry words fit (R141). -/
def State.listOk (s : State) (c : Nat) (d : Desc) (kind words : Nat) : Bool :=
  listDescOk c d && s.listKind c d.off == kind && decide (4 + words ≤ d.elems)
/-- Entry `i` of a list. -/
def State.listEntry (s : State) (c off i : Nat) : Nat := s.spadWord c (off + 16 + 4 * i)

/-- Poisoned words under a list: its header and its entries (R594). -/
def State.listPoison (s : State) (c : Nat) (d : Desc) (words : Nat) : Nat := s.poisonIn c d.off (16 + 4 * words)

/-- Poisoned words under the block-index list of an MMA; none where it has no list or a bad one (R146, R594). -/
def State.blockListPoison (s : State) (c : Nat) (w : StepWord) : Nat :=
  if fld w 87 72 = 0xFFFF then 0
  else match s.poolDesc c (fld w 87 72) (fld w 95 88) 0 with
    | some l => if listDescOk c l then s.listPoison c l (min (s.listEntries c l.off) (l.elems - 4)) else 0
    | none => 0

/-- Slots of a tile (R144, Table 3); the FP32 class has none. -/
def slotsOf (r : Rate) (sparse : Bool) : Nat :=
  let n := match r with
    | .tern | .c4 => 4
    | .c8 | .c6 => 2
    | .c16 => 1
    | .f32 => 0
  if sparse then 2 * n else n

/-- The 64-element runs of a row that the entries name, in slot order (R145). -/
def pickBlocks (ks : List Nat) (row : List Val) : List Val := ks.flatMap fun k => (row.drop (64 * k)).take 64

/-- What an MMA reads, if its conditions hold (R78, R80, R97, R111, R145, R146, R591): the pair rule, the A format, and
the entries of its block-index list. -/
def State.mmaCheck (s : State) (c : Nat) (w : StepWord) (d : Desc) (t : Tile) : Option (PairRule × Fmt × Option (List Nat)) :=
  match matrixOperand c d with
  | none => none
  | some f => match pairRule f t.fmt with
    | none => none
    | some r =>
      let bank := (s.core c).bank (flag w 118)
      let kindOk := bank.kind == .none || bank.kind == (if r.int then .i32 else .f32)
      let shapeOk := t.n == r.rate.n && t.k == (if t.sparse then 2 * r.rate.k else r.rate.k)
      let rowsOk := decide (1 ≤ d.rows) && decide (d.rows ≤ 256)
      if !(kindOk && shapeOk && rowsOk) then none
      else if fld w 87 72 = 0xFFFF then (if d.elems = t.k then some (r, f, none) else none)
      else match s.poolDesc c (fld w 87 72) (fld w 95 88) 0 with
        | none => none
        | some l =>
          let n := s.listEntries c l.off
          let ks := (List.range n).map fun j => s.listEntry c l.off j % 2 ^ 16
          if r.rate != .f32 && s.listOk c l 1 n && d.elems % 64 == 0 && decide (n ≤ slotsOf r.rate t.sparse)
              && ks.all (fun k => decide (64 * k < d.elems)) then some (r, f, some ks) else none

/-- MMA (R59 to R61, R78 to R84, R111, R144 to R147, R169). -/
def execMma (c : CoreId) (w : StepWord) (upset : Option (Fin 1048576)) (s : State) : Out :=
  .next (s.issue c .mx fun s =>
    let s := s.upset c upset
    match s.poolDesc c (fld w 111 96) (fld w 95 88) 0, (s.core c).buf (flag w 119) with
    | none, _ => s.seqFault c 3
    | some _, none => s.seqFault c 1
    | some d, some t =>
      if fld w 87 72 ≠ 0xFFFF ∧ (s.poolDesc c (fld w 87 72) (fld w 95 88) 0).isNone then s.seqFault c 3
      else if s.blockListPoison c w > 0 then (s.countPoison c (s.blockListPoison c w)).seqFault c 2
      else match s.mmaCheck c w d t with
      | none => s.seqFault c 1
      | some (r, f, ks) =>
        let sb := if d.scaled then scaleBytes f d.elems else 0
        let p := s.poisonRows c d.off d.stride (rowBytes f d.elems) d.rows + s.poisonRows c d.auxOff sb sb d.rows
        if p > 0 then (s.countPoison c p).seqFault c 2
        else
          let elems := fun m => s.spadRead c (d.off + m * d.stride) (rowBytes f d.elems)
          let scales := fun m => s.spadRead c (d.auxOff + m * sb) sb
          let rows := (List.range d.rows).map fun m => rowVals f d.scaled d.elems (elems m) (scales m)
          let gated := (List.range d.rows).filter fun m => !t.special && rowEmpty f d.scaled d.elems (elems m) (scales m)
          let g := if t.sparse ∧ t.fmt = .tern2 then 64 else r.group
          let pick := match ks with
            | none => fun x => x
            | some l => pickBlocks l
          let keep := match ks with
            | none => t.k
            | some l => 64 * l.length
          let cols := (List.range t.n).map fun i => (t.colVals i).take keep
          let bank := (s.core c).bank (flag w 118)
          let res := if keep = 0 then bank
            else mmaRows r g cols t.special pick 0 rows { bank with kind := if r.int then .i32 else .f32 }
          ((s.modCore c fun k => k.setBank (flag w 118) res).bump64 (dpReg (c / 16) 8) (if keep = 0 then 0 else d.rows)).bump64
            (spReg (c / 16) 0) (if keep = 0 then 0 else gated.length))

/-- ZERO (R80): every accumulator of the bank at zero, kind none. -/
def execZero (c : CoreId) (w : StepWord) (s : State) : Out :=
  .next (s.issue c .mx fun s => s.modCore c fun k => k.setBank (flag w 118) Bank.empty)

/-- Bytes of `n` accumulators from key `key`. -/
def accRow (b : Bank) (key n : Nat) : List Byte := (tblRun (fun _ => 0) b.acc key n).flatMap (toBytes 4)

/-- Rows of a bank written to the scratchpad. -/
def State.drainRows (s : State) (c : Nat) (b : Bank) (off stride n : Nat) : Nat → Nat → State
  | _, 0 => s
  | m, rows + 1 => (s.spadWrite c off (accRow b (128 * m) n)).drainRows c b (off + stride) stride n (m + 1) rows

/-- DRAIN (R80, R81, R111). -/
def execDrain (c : CoreId) (w : StepWord) (s : State) : Out :=
  .next (s.issue c .mx fun s =>
    match s.poolDesc c (fld w 111 96) (fld w 95 88) 0 with
    | none => s.seqFault c 3
    | some d =>
      let b := (s.core c).bank (flag w 118)
      let fmtOk := match b.kind with
        | .none => d.fmt == 0 || d.fmt == 0xC
        | .f32 => d.fmt == 0
        | .i32 => d.fmt == 0xC
      if fmtOk && d.space == 1 && d.core == c.val && !d.scaled && !d.sparse && decide (d.round < 2)
          && decide (1 ≤ d.rows) && decide (d.rows ≤ 256) && (d.elems == 64 || d.elems == 128)
          && extentOk d.off d.rows d.stride (4 * d.elems) then
        s.drainRows c b d.off d.stride d.elems 0 d.rows
      else s.seqFault c 1)

end Sys2Proof.Machine
end

