-- ==== Sys2Proof/Machine/WinOps.lean ====
section
/-! DEFINITION. Window requests at the borrower: the checks of R240, the flits of a transaction (R287, R288), and the
order that a master port keeps between overlapping requests (R291). -/
namespace Sys2Proof.Machine

/-- A refusal counted (R241). -/
def State.countRefuse (s : State) (code : Nat) : State := s.bump (bXLT + 0xA000 + 4 * code) 1

/-- The borrower's checks in order; the code of the first that fails (R240, Table 7). An entry that met an error is not VALID
(R529). -/
def OutWin.check (o : OutWin) (p off len : Nat) (write : Bool) : Option Nat :=
  if !o.valid || o.failed || o.bad then some 1
  else if o.part ≠ p then some 2
  else if !(if write then o.w else o.r) then some 3
  else if off + len ≤ o.size * 2 ^ 25 then none else some 3

/-- Enable bits of bytes lo to lo + n − 1 of a unit. -/
def byteMask (lo n : Nat) : Nat := 2 ^ (lo + n) - 2 ^ lo

/-- The write flits of `bs` at window offset `off`: WRM for a partly written unit, WR for up to 7 whole units (R287,
R288). Each is kind, offset, units, AUX and body. -/
def writeFlits (off : Nat) (bs : List Byte) : Nat → List (Nat × Nat × Nat × Nat × List Byte)
  | 0 => []
  | fuel + 1 =>
    if bs.isEmpty then []
    else
      let lo := off % 32
      if lo ≠ 0 ∨ bs.length < 32 then
        let n := min bs.length (32 - lo)
        let body := List.replicate lo 0 ++ bs.take n ++ List.replicate (32 - lo - n) 0
        (0x11, off - lo, 1, byteMask lo n, body) :: writeFlits (off + n) (bs.drop n) fuel
      else
        let k := min 7 (bs.length / 32)
        (0x10, off, k, 0, bs.take (32 * k)) :: writeFlits (off + 32 * k) (bs.drop (32 * k)) fuel

/-- Units that [off, off + len) touches. -/
def unitsOf (off len : Nat) : Nat := (off + len - 1) / 32 + 1 - off / 32

/-- Two byte ranges share a 32-byte unit. -/
def unitsMeet (a n b m : Nat) : Bool := decide (a / 32 ≤ (b + m - 1) / 32) && decide (b / 32 ≤ (a + n - 1) / 32)

/-- Flits sent one after the other. -/
def State.sendFlits (s : State) : List Flit → State
  | [] => s
  | f :: fs => (s.sendFlit f).sendFlits fs

/-- A window request sent as one transaction under a fresh TAG (R240, R288, R289). -/
def State.sendWin (s : State) (r : WinReq) : State :=
  let o := s.outWin r.entry
  let p := s.part r.part
  let base : Flit :=
    { kind := 0x12, vc := 0, hops := 0, dst := o.target, src := s.reg bFAB, comp := p.comp, cepoch := p.epoch % 65536,
      tag := s.freeTag, units := 0, total := unitsOf r.off r.len, window := o.window, gen := o.gen,
      offset := r.off / 32 * 32, aux := 0, body := [] }
  let s1 := s.newTxn ⟨if r.write then .write else .read, r.engine, r.core, r.seq, r.entry, r.off, r.len, 0, false⟩
  if r.write then
    s1.sendFlits ((writeFlits r.off r.bytes r.bytes.length).map fun x =>
      { base with kind := x.1, offset := x.2.1, units := x.2.2.1, aux := x.2.2.2.1, body := x.2.2.2.2 })
  else s1.sendFlit base

/-- A request must wait behind an earlier one of its engine port, which issues in order (R229), and behind a write of its master
port that shares a unit and is not acknowledged (R291). -/
def mustWait (r : WinReq) (txns : Tbl (Option Txn)) (earlier : List WinReq) : Bool :=
  (txns.any fun e => match e.2 with
    | some t => t.kind == .write && !t.resting && t.entry == r.entry && enginePort t.engine == enginePort r.engine
        && unitsMeet t.base t.len r.off r.len
    | none => false)
  || earlier.any fun x => x.engine == r.engine
        || (x.write && x.entry == r.entry && enginePort x.engine == enginePort r.engine && unitsMeet x.off x.len r.off r.len)

/-- Every waiting window request that may leave is sent, in order; the others stay. -/
def State.pumpWinQ (s : State) (kept : List WinReq) : List WinReq → State
  | [] => { s with winQ := kept }
  | r :: rs =>
    if mustWait r s.txns kept then s.pumpWinQ (kept ++ [r]) rs
    else (s.sendWin r).pumpWinQ kept rs

/-- The window queue served. -/
def State.pumpWin (s : State) : State := s.pumpWinQ [] s.winQ

/-- Requests of at most 4,096 bytes for `n` bytes at offset `off` (R288). -/
def winSplit (off n : Nat) : Nat → List (Nat × Nat)
  | 0 => []
  | fuel + 1 =>
    if n = 0 then []
    else
      let k := min n (4096 - off % 4096)
      (off, k) :: winSplit (off + k) (n - k) fuel

end Sys2Proof.Machine
end

