-- ==== Sys2Proof/Machine/XferOps.lean ====
section
/-! DEFINITION. Transfers: operand checks, the 2-D move with conversion, transposition and repetition, and the life of a
transfer in its engine's queue (spec/04: R94 to R98, R101, R591; spec/03: R66, R68, R69; spec/05: R114). -/
namespace Sys2Proof.Machine

/-! Status codes (R98, Table 13) -/
def stFormat : Nat := 1
def stShape : Nat := 2
def stTrans : Nat := 3
def stIndex : Nat := 5
def stWindow : Nat := 6
def stParked : Nat := 7
def stPoison : Nat := 8

/-! Operands -/

/-- Bytes of an operand's row. -/
def Desc.rowLen (d : Desc) (f : Fmt) : Nat := rowBytes f d.elems
/-- Scale bytes of an operand's row. -/
def Desc.scaleLen (d : Desc) (f : Fmt) : Nat := if d.scaled then scaleBytes f d.elems else 0
/-- Address of the scale plane in the space of BASE (R96). -/
def Desc.planeAddr (d : Desc) : Nat := if d.space = 1 then d.core * 2 ^ 20 + d.auxOff else d.aux

/-- The operand's extent lies in the scratchpad (R591). -/
def Desc.extent (d : Desc) (f : Fmt) : Bool :=
  d.space != 1 || (extentOk d.off d.rows d.stride (d.rowLen f) && planeOk d.auxOff (d.rows * d.scaleLen f))

/-- Block size of a block-scaled destination, 0 otherwise (R69). -/
def dstBlock (f : Fmt) (scaled : Bool) : Nat :=
  if f = .blk4 ∨ f = .tern2 then blockSize f else if isMx f && scaled then 32 else 0

/-- Formats of a transfer's operands, where R68, R69 and R97 allow it. -/
def xferFormats (sd dd : Desc) (transpose : Bool) : Option (Fmt × Fmt) :=
  match fmtOf sd.fmt, fmtOf dd.fmt with
  | some a, some b =>
    let plain := a == b && !(transpose && sd.scaled)
    let blk := dstBlock b dd.scaled
    if sd.space ≤ 2 ∧ dd.space ≤ 2 ∧ dd.round < 2 ∧ scaleOk a sd.scaled ∧ scaleOk b dd.scaled ∧ !sd.sparse ∧ !dd.sparse
        ∧ pairAllowed a b ∧ !(plain && isMx a && sd.scaled && !dd.scaled)
        ∧ (plain ∨ blk = 0 ∨ dd.elems % blk = 0)
        ∧ (sd.space ≠ 1 ∨ sd.core < 768) ∧ (dd.space ≠ 1 ∨ dd.core < 768)
    then some (a, b) else none
  | _, _ => none

/-- The operand lies in the scratchpad of a cluster at P15 (R95). -/
def State.parkedOperand (s : State) (d : Desc) : Bool := d.space == 1 && s.parked (d.core / 16)

/-! Accesses of an engine -/

/-- A run of bytes read for a transfer: scratchpad, tenant virtual, or window data already fetched. -/
def State.xRead (s : State) (x : Xfer) (e space a n : Nat) : State × Nat × List Byte :=
  if n = 0 then (s, 0, [])
  else match space with
  | 1 =>
    let c := a / 2 ^ 20
    let off := a % 2 ^ 20
    let p := s.poisonIn c off n
    if p > 0 then (s.countPoison c p, stPoison, []) else (s, 0, s.spadRead c off n)
  | 0 => s.readVa e x.part a n (sectors n)
  | _ =>
    if x.missing.any fun q => decide (q.1 < a + n) && decide (a < q.1 + q.2) then (s, stWindow, [])
    else (s, 0, tblRun (fun _ => 0) x.fetched a n)

/-- A run of bytes written for a transfer; status, bytes acknowledged at once, window requests queued. -/
def State.xWrite (s : State) (x : Xfer) (e space a : Nat) (bs : List Byte) : State × Nat × Nat × Nat :=
  if bs.isEmpty then (s, 0, 0, 0)
  else match space with
  | 1 => (s.spadWrite (a / 2 ^ 20) (a % 2 ^ 20) bs, 0, bs.length, 0)
  | 0 => let r := s.writeVa e x.part a bs (sectors bs.length); (r.1, r.2.1, r.2.2, 0)
  | _ =>
    let entry := a / 2 ^ 42
    let off := a % 2 ^ 42
    match (s.outWin entry).check x.part off bs.length true with
    | some code => (s.countRefuse code, stWindow, 0, 0)
    | none =>
      let parts := winSplit off bs.length (bs.length / 4096 + 2)
      let reqs := parts.map fun q =>
        (⟨true, e, x.core, x.seq, x.part, entry, q.1, q.2, (bs.drop (q.1 - off)).take q.2⟩ : WinReq)
      ({ s with winQ := s.winQ ++ reqs }, 0, 0, parts.length)

/-! The move -/

/-- A move in progress. -/
structure Mv where
  s : State
  st : Nat
  bytes : Nat
  counts : Counts
  remote : Nat

/-- Bytes written at a destination address. -/
def Mv.put (m : Mv) (x : Xfer) (e space a : Nat) (bs : List Byte) : Mv :=
  if m.st ≠ 0 then m
  else
    let r := m.s.xWrite x e space a bs
    { m with s := r.1, st := r.2.1, bytes := m.bytes + r.2.2.1, remote := m.remote + r.2.2.2 }

/-- A formed row written: elements, then scale bytes. -/
def Mv.putRow (m : Mv) (x : Xfer) (e : Nat) (dd : Desc) (df : Fmt) (row : Nat) (r : List Byte × List Byte × Counts) : Mv :=
  let m1 := (m.put x e dd.space (dd.base + row * dd.stride) r.1).put x e dd.space
    (dd.planeAddr + row * dd.scaleLen df) (if dd.scaled then r.2.1 else [])
  if m1.st = 0 then { m1 with counts := cntAdd m1.counts r.2.2 } else m1

/-- A source row read: its bytes and scale bytes. -/
def Mv.getRow (m : Mv) (x : Xfer) (e : Nat) (sd : Desc) (sf : Fmt) (row : Nat) : Mv × List Byte × List Byte :=
  if m.st ≠ 0 then (m, [], [])
  else
    match m.s.xRead x e sd.space (sd.base + row * sd.stride) (sd.rowLen sf) with
    | (s1, 0, bs) =>
      match s1.xRead x e sd.space (sd.planeAddr + row * sd.scaleLen sf) (sd.scaleLen sf) with
      | (s2, 0, sc) => ({ m with s := s2 }, bs, sc)
      | (s2, st, _) => ({ m with s := s2, st := st }, [], [])
    | (s1, st, _) => ({ m with s := s1, st := st }, [], [])

/-- The seed where the destination rounds stochastically (R65, R114). -/
def Xfer.srSeed (x : Xfer) : Option Nat := if x.dst.round = 1 then some x.seed else none

/-- One row moved and converted; `idx` is the R66 index of its first element. -/
def Mv.moveRow (m : Mv) (x : Xfer) (e : Nat) (sd dd : Desc) (sf df : Fmt) (srow drow idx : Nat) : Mv :=
  let g := m.getRow x e sd sf srow
  g.1.putRow x e dd df drow (convRow sf df sd.scaled dd.scaled x.srSeed idx dd.elems g.2.1 g.2.2)

/-- Rows `i` on of a plain 2-D move. -/
def Mv.moveRows (m : Mv) (x : Xfer) (e : Nat) (sd dd : Desc) (sf df : Fmt) (base i : Nat) : Nat → Mv
  | 0 => m
  | n + 1 => if m.st ≠ 0 then m
    else (m.moveRow x e sd dd sf df i i (base + i * dd.elems)).moveRows x e sd dd sf df base (i + 1) n

/-- Every source row read. -/
def Mv.readRows (m : Mv) (x : Xfer) (e : Nat) (sd : Desc) (sf : Fmt) (i : Nat) : Nat → Mv × List (List Byte × List Byte)
  | 0 => (m, [])
  | n + 1 =>
    let g := m.getRow x e sd sf i
    let r := g.1.readRows x e sd sf (i + 1) n
    (r.1, g.2 :: r.2)

/-- A transposed row: element codes where source and destination share an unscaled format, values otherwise (R95). -/
def transRow (sf df : Fmt) (ss ds : Bool) (seed : Option Nat) (idx j n : Nat) (rows : List (List Byte × List Byte)) :
    List Byte × List Byte × Counts :=
  if sf = df ∧ !ss then
    (packRow df (rows.map fun r => nth 0 (unpackRow sf n r.1) j),
      if ds then List.replicate (scaleBytes df rows.length) 0x7F else [], cnt0)
  else encRow df ds seed idx (rows.map fun r => nth Val.nan (rowVals sf ss n r.1 r.2) j)

/-- Destination rows `j` on of a transposing move. -/
def Mv.putTrans (m : Mv) (x : Xfer) (e : Nat) (sd dd : Desc) (sf df : Fmt) (rows : List (List Byte × List Byte))
    (base j : Nat) : Nat → Mv
  | 0 => m
  | n + 1 => if m.st ≠ 0 then m
    else (m.putRow x e dd df j (transRow sf df sd.scaled dd.scaled x.srSeed (base + j * dd.elems) j sd.elems rows)).putTrans
      x e sd dd sf df rows base (j + 1) n

/-- One 2-D move. -/
def Mv.move2d (m : Mv) (x : Xfer) (e : Nat) (sd dd : Desc) (sf df : Fmt) (base : Nat) : Mv :=
  if x.kind = .copyt then
    let r := m.readRows x e sd sf 0 sd.rows
    r.1.putTrans x e sd dd sf df r.2 base 0 dd.rows
  else m.moveRows x e sd dd sf df base 0 dd.rows

/-- An operand at a repetition: BASE advanced by the strides, the plane by whole planes (R101). -/
def Desc.at_ (d : Desc) (f : Fmt) (delta r : Nat) : Desc :=
  { d with base := d.base + delta, aux := d.aux + r * (d.rows * d.scaleLen f) }

/-- A repetition would run past the end of a scratchpad (R101, R591). -/
def Desc.pastEnd (d : Desc) (f : Fmt) (delta r : Nat) : Bool :=
  d.space == 1 && !(extentOk (d.off + delta) d.rows d.stride (d.rowLen f)
    && planeOk (d.auxOff + r * (d.rows * d.scaleLen f)) (d.rows * d.scaleLen f))

/-- Repetitions `r` on, in ascending order (R101). -/
def Mv.repeats (m : Mv) (x : Xfer) (e : Nat) (rep : Repeat) (sf df : Fmt) (r : Nat) : Nat → Mv
  | 0 => m
  | n + 1 =>
    if m.st ≠ 0 then m
    else
      let j2 := r / rep.count1
      let j1 := r % rep.count1
      let ds := j2 * rep.src2 + j1 * rep.src1
      let dd := j2 * rep.dst2 + j1 * rep.dst1
      if x.src.pastEnd sf ds r || x.dst.pastEnd df dd r then { m with st := stShape }
      else
        (m.move2d x e (x.src.at_ sf ds r) (x.dst.at_ df dd r) sf df (r * (x.dst.rows * x.dst.elems))).repeats
          x e rep sf df (r + 1) n

/-! Indexed moves (R148, R150) -/

/-- A row of +0 elements with scale bytes 0x00 (R148; a Tern2 zero is the digit 1, R57). -/
def zeroRow (f : Fmt) (d : Desc) : List Byte × List Byte × Counts :=
  (zeroBytes f d.elems, List.replicate (d.scaleLen f) 0, cnt0)

/-- Entries `i` on of a gather (R148). -/
def Mv.gather (m : Mv) (x : Xfer) (e : Nat) (sf df : Fmt) (i : Nat) : List Nat → Mv
  | [] => m
  | n :: ns =>
    if m.st ≠ 0 then m
    else if n = 0xFFFFFFFF then (m.putRow x e x.dst df i (zeroRow df x.dst)).gather x e sf df (i + 1) ns
    else if n ≥ x.src.rows then { m with st := stIndex }
    else (m.moveRow x e x.src x.dst sf df n i (i * x.dst.elems)).gather x e sf df (i + 1) ns

/-- Entries `i` on of a scatter; later entries prevail (R148, R150). -/
def Mv.scatter (m : Mv) (x : Xfer) (e : Nat) (sf df : Fmt) (i : Nat) : List Nat → Mv
  | [] => m
  | n :: ns =>
    if m.st ≠ 0 then m
    else if n = 0xFFFFFFFF then m.scatter x e sf df (i + 1) ns
    else if n ≥ x.dst.rows then { m with st := stIndex }
    else (m.moveRow x e x.src x.dst sf df i n (i * x.dst.elems)).scatter x e sf df (i + 1) ns

/-- Entries `i` on of a direct-mode scatter: entry TARGET and DST_ROW name a buffer of the set and its row (R157, R166). -/
def Mv.direct (m : Mv) (x : Xfer) (e : Nat) (sf : Fmt) (i : Nat) : List Nat → Mv
  | [] => m
  | n :: ns =>
    if m.st ≠ 0 then m
    else
      let t := n / 2 ^ 20
      let row := n % 2 ^ 20
      if t = 0xFFF then m.direct x e sf (i + 1) ns
      else
        match x.dsts[t]? with
        | none => { m with st := stIndex }
        | some dd =>
          match fmtOf dd.fmt with
          | none => { m with st := stFormat }
          | some df =>
            if i ≥ x.src.rows ∨ row ≥ dd.rows then { m with st := stIndex }
            else (m.moveRow { x with dst := dd } e x.src dd sf df i row (i * dd.elems)).direct x e sf (i + 1) ns

/-! The engine's queue -/

/-- A transfer found in its engine's queue by core and step number. -/
def State.findXfer (s : State) (e core seq : Nat) : Option Xfer :=
  (s.engine e).queue.find? fun x => x.core == core && x.seq == seq

/-- A transfer of an engine changed. -/
def State.modXfer (s : State) (e core seq : Nat) (f : Xfer → Xfer) : State :=
  s.setEngine e { s.engine e with queue := (s.engine e).queue.map fun x => if x.core = core ∧ x.seq = seq then f x else x }

/-- A finished move recorded: status, bytes, counts, and what is still to be acknowledged (one acknowledgement stands
for all local writes, log 19). -/
def Mv.close (m : Mv) (x : Xfer) (e : Nat) : State :=
  (m.s.modXfer e x.core x.seq fun y =>
    { y with status := m.st, bytes := y.bytes + m.bytes, counts := m.counts, moved := true,
             unacked := y.unacked + m.remote + (if m.bytes > 0 then 1 else 0) }).pumpWin

/-- Indices of a row index list. -/
def State.listAll (s : State) (c off : Nat) : List Nat := (List.range (s.listEntries c off)).map (s.listEntry c off)

/-! What a stopped transfer leaves (R98): beyond the bytes counted its destination is undefined -/

/-- The bytes of one destination row, in the order in which they are written: space, address and length of the elements, then
of the scale plane. -/
def Desc.rowRanges (d : Desc) (f : Fmt) (row : Nat) : List (Nat × Nat × Nat) :=
  [(d.space, d.base + row * d.stride, d.rowLen f), (d.space, d.planeAddr + row * d.scaleLen f, d.scaleLen f)]

/-- Every byte of the destinations that a transfer writes, in its order; a repetition past the end of a scratchpad writes none
(R101, R591). -/
def State.dstRanges (s : State) (x : Xfer) : List (Nat × Nat × Nat) :=
  let rowOf := fun (d : Desc) (row : Nat) => match fmtOf d.fmt with
    | some f => if row < d.rows then d.rowRanges f row else []
    | none => []
  let list := match x.idx with
    | some l => s.listAll x.core l.off
    | none => []
  match x.kind, x.rep with
  | .direct, _ => list.flatMap fun n => match x.dsts[n / 2 ^ 20]? with
    | some d => rowOf d (n % 2 ^ 20)
    | none => []
  | .scatter, _ => list.flatMap fun n => rowOf x.dst n
  | _, some rep => match fmtOf x.dst.fmt with
    | some f => (List.range (rep.count1 * rep.count2)).flatMap fun r =>
        let delta := r / rep.count1 * rep.dst2 + r % rep.count1 * rep.dst1
        if x.dst.pastEnd f delta r then [] else
          (List.range x.dst.rows).flatMap fun i => (x.dst.at_ f delta r).rowRanges f i
    | none => []
  | _, none => (List.range x.dst.rows).flatMap (rowOf x.dst)

/-- Ranges without their first `n` bytes on this module. -/
def dropBytes (n : Nat) : List (Nat × Nat × Nat) → List (Nat × Nat × Nat)
  | [] => []
  | q :: qs =>
    if q.1 = 2 then dropBytes n qs
    else if q.2.2 ≤ n then dropBytes (n - q.2.2) qs
    else (q.1, q.2.1 + n, q.2.2 - n) :: dropBytes 0 qs

/-- Bytes that the spec leaves undefined take free values, where the transfer may write at all (DESIGN CHOICE, log 49). -/
def State.leaveOpen (s : State) (x : Xfer) (e : Nat) : List (Nat × Nat × Nat) → State
  | [] => s
  | q :: qs =>
    let bs := toBytes q.2.2 (Config.free s.freeCtr)
    let w := s.draw.writeVa e x.part q.2.1 bs (sectors q.2.2)
    (if q.1 = 0 then (if w.2.1 = 0 then w.1 else s)
     else if q.1 = 1 ∧ q.2.1 % 2 ^ 20 + q.2.2 ≤ 2 ^ 20 then s.draw.spadWrite (q.2.1 / 2 ^ 20) (q.2.1 % 2 ^ 20) bs
     else s).leaveOpen x e qs

/-- A move that has stopped leaves the rest of its destination open. -/
def Mv.rest (m : Mv) (x : Xfer) (e : Nat) (rs : List (Nat × Nat × Nat)) : Mv :=
  if m.st = 0 then m else { m with s := m.s.leaveOpen x e (dropBytes m.bytes rs) }

/-- Poisoned words under the list of a transfer, where the list's descriptor is good (R594). -/
def State.idxPoison (s : State) (x : Xfer) : Nat :=
  match x.idx with
  | some d => if listDescOk x.core d then s.listPoison x.core d (min (s.listEntries x.core d.off) (d.elems - 4)) else 0
  | none => 0

/-- A transfer refused or stopped before any byte; the poisoned words of its list are counted (R100, R594). -/
def State.refuseXfer (s : State) (x : Xfer) (e st : Nat) : State :=
  (if st = stPoison then s.countPoison x.core (s.idxPoison x) else s).modXfer e x.core x.seq fun y => { y with status := st, moved := true }

/-- The first check of a transfer that fails gives its status; formats otherwise (R95, R97, R101, R142, R148, R591, R594). A COPYT
transposes 1-, 2- and 4-byte elements into any format R68 allows. -/
def State.xferCheck (s : State) (x : Xfer) : Except Nat (Fmt × Fmt) :=
  match xferFormats x.src x.dst (x.kind == .copyt) with
  | none => .error stFormat
  | some (a, b) =>
    let wide := fun f : Fmt => fmtBits f == 8 || fmtBits f == 16 || fmtBits f == 32
    let indexed := x.kind == .gather || x.kind == .scatter
    let listGood := match x.idx with
      | some d => s.listOk x.core d 2 (s.listEntries x.core d.off)
      | none => false
    let entries := match x.idx with
      | some d => s.listEntries x.core d.off
      | none => 0
    let dense := if x.kind == .gather then x.dst.rows else x.src.rows
    if x.kind == .copyt && !(wide a) then .error stFormat
    else if (match x.rep with
      | some r => r.count1 == 0 || r.count2 == 0
      | none => false) then .error stFormat
    else if indexed && decide (s.idxPoison x > 0) then .error stPoison
    else if indexed && !listGood then .error stFormat
    else if (if x.kind == .copyt then !(x.dst.rows == x.src.elems && x.dst.elems == x.src.rows)
      else if indexed then !(x.src.elems == x.dst.elems && entries == dense)
      else !(x.src.rows == x.dst.rows && x.src.elems == x.dst.elems)) then .error stShape
    else if !(x.src.extent a && x.dst.extent b) then .error stShape
    else if s.parkedOperand x.src || s.parkedOperand x.dst then .error stParked
    else .ok (a, b)

/-- The first check of a direct-mode scatter that fails (R142, R155, R166). -/
def State.directCheck (s : State) (x : Xfer) : Except Nat Fmt :=
  match fmtOf x.src.fmt, x.idx with
  | some a, some l =>
    if s.idxPoison x > 0 then .error stPoison
    else if !(s.listOk x.core l 3 (s.listEntries x.core l.off)) then .error stFormat
    else if !(x.dsts.all fun d => (xferFormats x.src d false).isSome) then .error stFormat
    else if !(x.dsts.all fun d => d.elems == x.src.elems) then .error stShape
    else if !(x.src.extent a && x.dsts.all fun d => (fmtOf d.fmt).all fun f => d.extent f) then .error stShape
    else if s.parkedOperand x.src || x.dsts.any fun d => s.parkedOperand d then .error stParked
    else .ok a
  | _, _ => .error stFormat

/-- The data of a direct-mode scatter moved. -/
def State.runDirect (s : State) (x : Xfer) (e : Nat) : State :=
  match s.directCheck x, x.idx with
  | .ok a, some l => (((⟨s, 0, 0, cnt0, 0⟩ : Mv).direct x e a 0 (s.listAll x.core l.off)).rest x e (s.dstRanges x)).close x e
  | .error st, _ => s.refuseXfer x e st
  | .ok _, none => s.refuseXfer x e stFormat

/-- The data of a transfer moved, all sources being at hand. -/
def State.runXfer (s : State) (x : Xfer) (e : Nat) : State :=
  if x.kind = .direct then s.runDirect x e else
  match s.xferCheck x with
  | .error st => s.refuseXfer x e st
  | .ok (a, b) =>
    let m : Mv := ⟨s, 0, 0, cnt0, 0⟩
    let r := match x.kind with
      | .gather => (match x.idx with
        | some d => m.gather x e a b 0 (s.listAll x.core d.off)
        | none => m)
      | .scatter => (match x.idx with
        | some d => m.scatter x e a b 0 (s.listAll x.core d.off)
        | none => m)
      | _ => match x.rep with
        | some rep => m.repeats x e rep a b 0 (rep.count1 * rep.count2)
        | none => m.move2d x e x.src x.dst a b 0
    (r.rest x e (s.dstRanges x)).close x e

/-! Sources behind a window (R240, R288): fetched first, then moved -/

/-- Address ranges that a transfer reads in SPACE 0x2. -/
def State.srcRanges (s : State) (x : Xfer) (f : Fmt) : List (Nat × Nat) :=
  let d := x.src
  let rowsOf := fun (b : Desc) => (List.range b.rows).flatMap fun i =>
    [(b.base + i * b.stride, b.rowLen f), (b.planeAddr + i * b.scaleLen f, b.scaleLen f)]
  let rowAt := fun n => [(d.base + n * d.stride, d.rowLen f), (d.planeAddr + n * d.scaleLen f, d.scaleLen f)]
  let all := match x.kind, x.rep, x.idx with
    | .dispatch, _, some l => (s.listAll x.core l.off).flatMap fun n =>
        if n / 2 ^ 20 = 0xFFF ∨ d.rows ≤ n % 2 ^ 20 then [] else rowAt (n % 2 ^ 20)
    | .direct, _, some l => (s.listAll x.core l.off).zipIdx.flatMap fun (n : Nat × Nat) =>
        if n.1 / 2 ^ 20 = 0xFFF ∨ d.rows ≤ n.2 then [] else rowAt n.2
    | .gather, _, some l => ((s.listAll x.core l.off).takeWhile fun n => n == 0xFFFFFFFF || decide (n < d.rows)).flatMap fun n =>
        if n = 0xFFFFFFFF then [] else rowAt n
    | _, some rep, _ => (List.range (rep.count1 * rep.count2)).flatMap fun r =>
        rowsOf (d.at_ f (r / rep.count1 * rep.src2 + r % rep.count1 * rep.src1) r)
    | _, _, _ => rowsOf d
  all.filter fun q => q.2 ≠ 0

/-- Window reads queued for the ranges; at the first range that fails the borrower's checks no more is fetched, and the
move will stop there (R98, R240). -/
def State.fetchRanges (s : State) (x : Xfer) (e : Nat) : List (Nat × Nat) → State
  | [] => s.pumpWin
  | q :: qs =>
    let entry := q.1 / 2 ^ 42
    let off := q.1 % 2 ^ 42
    match (s.outWin entry).check x.part off q.2 false with
    | some code =>
      ((s.countRefuse code).modXfer e x.core x.seq fun y => { y with missing := y.missing ++ [(q.1, q.2)] }).pumpWin
    | none =>
      let parts := winSplit off q.2 (q.2 / 4096 + 2)
      let reqs := parts.map fun r => (⟨false, e, x.core, x.seq, x.part, entry, r.1, r.2, []⟩ : WinReq)
      let s1 := { s with winQ := s.winQ ++ reqs }
      (s1.modXfer e x.core x.seq fun y => { y with reads := y.reads + parts.length }).fetchRanges x e qs

/-- A fresh transfer. -/
def Xfer.fresh (kind : XferKind) (core seq part : Nat) (src dst : Desc) : Xfer :=
  { kind, core, seq, part, src, dst, rep := none, idx := none, dsts := [], seed := 0, statrec := true, statOff := 0, sig := 0xFFFFF,
    status := 0, bytes := 0, counts := cnt0, unacked := 0, reads := 0, moved := false, fetched := [], missing := [], disp := none,
    host := none, started := false, picks := [] }

/-- The engine can take a transfer: a DMA engine holds up to 16, a load/store port up to 32 (R94, R95). -/
def State.hasRoom (s : State) (e : Nat) : Bool := decide ((s.engine e).queue.length < if e < 112 then 16 else 32)

/-- A reserve-mode or other transfer step's common fields (R114, Table 7). -/
def stepXfer (kind : XferKind) (c seq part : Nat) (w : StepWord) (src dst : Desc) (seed : Nat) : Xfer :=
  { Xfer.fresh kind c seq part src dst with
    seed := seed, statrec := flag w 118, statOff := fld w 19 0, sig := fld w 55 36 }

end Sys2Proof.Machine
end

