-- ==== Sys2Proof/Machine/Transfer.lean ====
section
/-! DEFINITION. Transfer steps: LS, the DMA and link transfers, bucket-count transfers, allocations and frees; the engines' queues,
which run at most four transfers, and the XF queue, whose steps wait for room in an engine (spec/04: R94, R95; spec/05: R108,
R114, R115; spec/06: R148 to R166, R168; spec/13: R366 to R370). -/
namespace Sys2Proof.Machine

/-- Descriptor of a transfer step's field (R115). -/
def State.xferDesc (s : State) (c : Nat) (w : StepWord) (field : Nat) : Option Desc := s.poolDesc c field (fld w 63 56) 0

/-- SRC and DST of a transfer step; a descriptor-range fault where an index reaches past the pool (R115). -/
def State.withDescs (s : State) (c : Nat) (w : StepWord) (f : Desc → Desc → State) : State :=
  match s.xferDesc c w (fld w 111 96), s.xferDesc c w (fld w 95 80) with
  | some a, some b => f a b
  | _, _ => s.seqFault c 3

/-- The seed where a destination rounds stochastically, with its seed-range fault (R65, R66, R115). -/
def State.withSeed (s : State) (c : Nat) (w : StepWord) (ds : List Desc) (f : Nat → State) : State :=
  if ds.any fun d => d.round == 1 then
    match s.seedOf c (fld w 35 20) with
    | some x => f x
    | none => s.seqFault c 4
  else f 0

/-- Engine 2k + ENG of the executing core's cluster (R114). -/
def clusterEngine (c : Nat) (w : StepWord) : Nat := 2 * (c / 16) + b2n (flag w 119)

/-- The link DMA engine `f` lies on the fabric die of a link of the transfer's path (R114; FD0 has engines 0 to 7 and links 0 to 47):
of the slots that the Curator's routing entry gives the module behind the window it names. A transfer without a window, or to a
module without a link, takes any engine (DESIGN CHOICE, log 20). -/
def State.lcopyDie (s : State) (c : Nat) (w : StepWord) (f : Fin 16) : Bool :=
  let links := ([s.xferDesc c w (fld w 111 96), s.xferDesc c w (fld w 95 80)].filterMap fun d => d).flatMap fun d =>
    if d.space = 2 then (s.eligible (s.outWin (d.base / 2 ^ 42)).target).map (·.1) else []
  links.isEmpty || links.any fun i => decide (i < 48) == decide (f.val < 8)

/-- The operands of an LS: 32 to 4,096 bytes in multiples of 32, one side the core's own scratchpad, the other a
scratchpad of the cluster or a tenant virtual address, no conversion (R94; log 20). -/
def lsOk (c : Nat) (sd dd : Desc) : Bool :=
  match xferFormats sd dd false with
  | none => false
  | some (a, b) =>
    let n := dd.rows * dd.rowLen b
    let own := fun d : Desc => d.space == 1 && d.core == c
    let far := fun d : Desc => d.space == 0 || (d.space == 1 && d.core / 16 == c / 16)
    a == b && !sd.scaled && !dd.scaled && decide (32 ≤ n) && decide (n ≤ 4096) && n % 32 == 0
      && ((own sd && far dd) || (own dd && far sd))

/-- The `n` descriptors from a field on; none where an index reaches past the pool. -/
def State.descRun (s : State) (c : Nat) (w : StepWord) (field i : Nat) : Nat → Option (List Desc)
  | 0 => some []
  | n + 1 =>
    match s.poolDesc c field (fld w 63 56) i, s.descRun c w field (i + 1) n with
    | some d, some ds => some (d :: ds)
    | _, _ => none

/-- BUCKETS of a route list (R157, Table 5). -/
def State.routeBuckets (s : State) (c off : Nat) : Nat := s.spadWord c (off + 4) / 2 ^ 20
/-- The route list is in direct mode. -/
def State.routeDirect (s : State) (c off : Nat) : Bool := bitAt (s.spadWord c (off + 4)) 0

/-! Dispatch (R155 to R158) -/

/-- The form of a bucket's row descriptor and header descriptor is good (R155). -/
def bucketForm (src rows hdr : Desc) : Bool :=
  (xferFormats src rows false).isSome && rows.space == 1 && hdr.space == 1 && rows.core == hdr.core
    && hdr.fmt == 0xC && hdr.rows == 1 && hdr.elems == 8 && decide (hdr.core < 768) && rows.elems == src.elems

/-- The extents of a bucket's descriptors lie in the scratchpad (R591). -/
def bucketExtent (rows hdr : Desc) : Bool := hdr.extent .int32 && (fmtOf rows.fmt).all fun f => rows.extent f

/-- CAP of the bucket's header is at most the ROWS of its row descriptor (R155). -/
def State.bucketCap (s : State) (rows hdr : Desc) : Bool :=
  decide (s.spadWord hdr.core (hdr.off + 16) % 65536 ≤ rows.rows)

/-- Every bucket of a set meets a condition. -/
def setAll (f : Desc → Desc → Bool) : List Desc → List Desc → Bool
  | [], _ => true
  | _ :: _, [] => false
  | r :: rs, h :: hs => f r h && setAll f rs hs

/-- Entries of a reserve-mode list that name bucket `b`, in list order. -/
def entriesOf (b i : Nat) : List Nat → List Nat
  | [] => []
  | n :: ns => if n / 2 ^ 20 = b then i :: entriesOf b (i + 1) ns else entriesOf b (i + 1) ns

/-- Every entry is in range or marked absent (R157). -/
def routeOk (buckets rows : Nat) (l : List Nat) : Bool :=
  l.all fun n => n / 2 ^ 20 == 0xFFF || (decide (n / 2 ^ 20 < buckets) && decide (n % 2 ^ 20 < rows))

/-- Requests to the buckets of `bs`, in order (R158 step 2); `count` is false for a stopped dispatch, which sends zero
counts (R165). -/
def State.sendRequests (s : State) (x : Xfer) (e self : Nat) (entries : List Nat) (count : Bool) : List Nat → State
  | [] => s
  | b :: bs =>
    let es := if count then (entriesOf b 0 entries).map fun i => (i, b) else []
    let rows := nth x.src x.dsts b
    let hdr := nth x.src (x.dsts.drop (x.dsts.length / 2)) b
    (s.emit (.bucketReq hdr.base ⟨self, e, x.core, x.seq, b, rows, es⟩)).sendRequests x e self entries count bs

/-- Entry `i` of the dispatch's route list. -/
def State.routeEntry (s : State) (x : Xfer) (d : Disp) (i : Nat) : Nat := s.listEntry x.core d.listOff i
/-- Entries in list order. -/
def sortEntries : List Nat → List Nat
  | [] => []
  | x :: xs => (sortEntries xs).filter (· < x) ++ [x] ++ (sortEntries xs).filter (x < ·)

/-- The request to the spill bucket, once every other grant is back (R158 step 4, R165). -/
def State.spillRequest (s : State) (x : Xfer) (e : Nat) (d : Disp) : State × Disp :=
  if d.waiting.isEmpty ∧ d.spill < d.buckets ∧ !d.spillSent then
    let named := if x.status = 0 then entriesOf d.spill 0 (s.listAll x.core d.listOff) else []
    let es := if x.status = 0 then named ++ sortEntries d.overflow else []
    let hdr := nth x.src (x.dsts.drop d.buckets) d.spill
    let req : BucketReq := ⟨d.self, e, x.core, x.seq, d.spill, nth x.src x.dsts d.spill,
      es.map fun i => (i, s.routeEntry x d i / 2 ^ 20)⟩
    (s.emit (.bucketReq hdr.base req),
      { d with spillSent := true, waiting := [d.spill], asked := tblSet (fun _ => []) d.asked d.spill es })
  else (s, d)

/-- The first check of a reserve-mode dispatch that fails, and whether its set is good, so that the producer owes it requests
and dones (R142, R155, R165, R591, R594). -/
def State.dispatchCheck (s : State) (x : Xfer) : Except (Nat × Bool) Fmt :=
  let n := x.dsts.length / 2
  let rows := x.dsts.take n
  let hdrs := x.dsts.drop n
  match fmtOf x.src.fmt, x.idx with
  | some f, some l =>
    if s.idxPoison x > 0 then .error (stPoison, false)
    else if !(s.listOk x.core l 3 (s.listEntries x.core l.off)) || !(setAll (bucketForm x.src) rows hdrs) then
      .error (stFormat, false)
    else if !(setAll bucketExtent rows hdrs) then .error (stShape, false)
    else if !(setAll s.bucketCap rows hdrs) then .error (stFormat, false)
    else if !(x.src.extent f) then .error (stShape, true)
    else if s.parkedOperand x.src || rows.any fun d => s.parkedOperand d then .error (stParked, true)
    else .ok f
  | _, _ => .error (stFormat, false)

/-- A reserve-mode dispatch begun: its route list read, and a request to every bucket of the set but the spill bucket, whose
request follows once every grant is back. With a status other than 0, or an entry out of range, the requests have count zero (R157,
R158 steps 1 and 2, R165). -/
def State.openDispatch (s : State) (x : Xfer) (e : Nat) (l : Desc) (st : Nat) : State :=
  let c := x.core
  let off := l.off
  let n := x.dsts.length / 2
  let entries := s.listAll c off
  let w2 := s.spadWord c (off + 8)
  let spill := w2 / 2 ^ 20
  let st' := if st ≠ 0 then st else if routeOk n x.src.rows entries then 0 else stIndex
  let bs := (List.range n).filter fun b => b ≠ spill
  let self := bits (s.spadWord c (off + 4)) 19 8
  let d : Disp :=
    { buckets := n, self := self, spill := spill, listOff := off, carryOff := w2 % 2 ^ 20,
      carryCap := s.spadWord c (off + 12) % 65536, carried := 0,
      asked := if st' = 0 then bs.map fun b => (b, entriesOf b 0 entries) else [], waiting := bs, overflow := [], excess := [],
      spillSent := false, toDone := [] }
  let s1 := s.modXfer e c x.seq fun y => { y with disp := some d, moved := true, status := st' }
  let s2 := s1.sendRequests x e self entries (st' == 0) bs
  let q := s2.spillRequest { x with status := st' } e d
  q.1.modXfer e c x.seq fun y => { y with disp := some q.2 }

/-- A reserve-mode dispatch run (R155, R157, R158, R165). -/
def State.runDispatch (s : State) (x : Xfer) (e : Nat) : State :=
  match s.dispatchCheck x, x.idx with
  | .ok _, some l => s.openDispatch x e l 0
  | .error (st, owes), some l => if owes then s.openDispatch x e l st else s.refuseXfer x e st
  | _, none => s.refuseXfer x e stFormat

/-! Transfers that load a selector or hold pool pages -/

/-- A bucket-count transfer run (R168, R591, R594): the word at SRC into the selector that `seed` names. -/
def State.runBucketCount (s : State) (x : Xfer) (e : Nat) : State :=
  let sd := x.src
  if sd.space ≠ 1 ∨ sd.core / 16 ≠ x.core / 16 then s.refuseXfer x e stFormat
  else if sd.off + 4 > 2 ^ 20 ∨ !((fmtOf sd.fmt).all fun f => sd.extent f) then s.refuseXfer x e stShape
  else
    let p := s.poisonIn sd.core sd.off 4
    if p > 0 then (s.countPoison sd.core p).refuseXfer x e stPoison
    else
      let v := s.spadWord sd.core sd.off
      (s.modCore x.core fun k => { k with sel := tblSet (fun _ => 0) k.sel x.seed v }).refuseXfer x e 0

/-- A descriptor of an allocation or a free (R369, R370): the number of pages it has room for. -/
def pagesForm (c : Nat) (d : Desc) : Option Nat :=
  if d.space = 1 ∧ d.core = c ∧ d.fmt = 0xC ∧ d.rows = 1 ∧ d.elems % 2 = 0 ∧ 4 ≤ d.elems ∧ d.elems ≤ 18 ∧ !d.scaled ∧ !d.sparse
  then some (d.elems / 2 - 1) else none

/-- The partition may use the allocator (R366). -/
def State.hasAlloc (s : State) (p : Nat) : Bool := bitAt (s.part p).flags 2

/-- The page is in the pool and free, and no block of it is withheld (R187). -/
def State.pageFree (s : State) (pg : Nat) : Bool :=
  s.poolPage pg == some ⟨none, false⟩ && !(s.withheld.any fun w => w.block / 8192 == pg)

/-- Free pages of the pool. -/
def State.freePages (s : State) : Nat := (s.pool.filter fun e => s.pageFree e.1).length

/-- The pages and arena slots the allocator picks are free, distinct and ascending by slot, and as many as asked or as
the pool holds (R369; which of them, the spec leaves to the module: log 21). -/
def State.picksOk (s : State) (p n : Nat) (picks : List (Nat × Nat)) : Bool :=
  picks.length == min n s.freePages && picks.all (fun x => s.pageFree x.1 && decide (x.2 < 4096)
      && (s.arenaSlot (4096 * p + x.2)).isNone)
    && decide ((picks.map (·.1)).Nodup) && decide ((picks.map (·.2)).Pairwise (· < ·))

/-- Picked pages handed to partition `p`. -/
def State.takePages (s : State) (p : Nat) : List (Nat × Nat) → State
  | [] => s
  | x :: xs => ((s.setPoolPage x.1 (some ⟨some p, false⟩)).setArena (4096 * p + x.2) (some x.1)).takePages p xs

/-- Base of the partition's arena in tenant virtual space (R368). -/
def State.arenaVa (s : State) (p : Nat) : Nat := s.reg (bCMP + 0x80 * p + 0x38) / 2 ^ 35 * 2 ^ 35

/-- The lowest free pages in the lowest free arena slots: what an allocation takes where the pages its command picked are no
longer free when it starts (DESIGN CHOICE, log 21). -/
def State.lowPicks (s : State) (p n : Nat) : List (Nat × Nat) :=
  let pages := ((s.pool.filter fun e => s.pageFree e.1).map (·.1)).take n
  let slots := ((List.range 4096).filter fun i => (s.arenaSlot (4096 * p + i)).isNone).take n
  pages.zip slots

/-- An allocation run (R369, R591). -/
def State.runAlloc (s : State) (x : Xfer) (e : Nat) : State :=
  let dd := x.dst
  let p := x.part
  match pagesForm x.core dd with
  | some n =>
    if !s.hasAlloc p then s.refuseXfer x e stFormat
    else if !(dd.extent .int32) then s.refuseXfer x e stShape
    else
      let picks := if s.picksOk p n x.picks then x.picks else s.lowPicks p n
      let words := toBytes 4 picks.length ++ toBytes 4 0
        ++ picks.flatMap fun y => toBytes 8 (s.arenaVa p + y.2 * 2 ^ 25)
      (((s.takePages p picks).refuseXfer x e 0).spadWrite dd.core dd.off words).modXfer e x.core x.seq
        fun y => { y with bytes := words.length, unacked := 1 }
  | none => s.refuseXfer x e stFormat

/-- The arena slot of a tenant virtual address, 4,096 where it is no page of the arena. -/
def State.arenaIndex (s : State) (p va : Nat) : Nat :=
  if s.arenaVa p ≤ va ∧ va % 2 ^ 25 = 0 then min 4096 ((va - s.arenaVa p) / 2 ^ 25) else 4096

/-- The pool page that partition `p` holds in slot `i`. -/
def State.slotPage (s : State) (p i : Nat) : Option Nat := if i < 4096 then s.arenaSlot (4096 * p + i) else none

/-- Page `pg` in slot `i` unmapped and invalidated, its clear begun (R370). -/
def State.freeSlot (s : State) (p i pg : Nat) : State :=
  ((s.setArena (4096 * p + i) none).dropXlt fun x => x.part == p && x.ipa * 2 ^ x.bits / 2 ^ 25 == arenaBase / 2 ^ 25 + i).setPoolPage pg
    (some ⟨none, true⟩)

/-- The page at a tenant virtual address freed, unless an address before it has stopped the transfer (R370). -/
def State.freeOne (p : Nat) (r : State × Nat) (va : Nat) : State × Nat :=
  if r.2 ≠ 0 then r
  else match r.1.slotPage p (r.1.arenaIndex p va) with
    | none => (r.1, stIndex)
    | some pg => (r.1.freeSlot p (r.1.arenaIndex p va) pg, 0)

/-- The pages at tenant virtual addresses freed in order; the first that is not held stops with INDEX (R370). -/
def State.freeList (s : State) (p : Nat) (vs : List Nat) : State × Nat := vs.foldl (State.freeOne p) (s, 0)

/-- A free run (R370, R591, R594). -/
def State.runFree (s : State) (x : Xfer) (e : Nat) : State :=
  let sd := x.src
  match pagesForm x.core sd with
  | none => s.refuseXfer x e stFormat
  | some n =>
    if !s.hasAlloc x.part then s.refuseXfer x e stFormat
    else if !(sd.extent .int32) then s.refuseXfer x e stShape
    else
      let po := s.poisonIn x.core sd.off 8
      let k := s.spadWord x.core sd.off
      if po > 0 then (s.countPoison x.core po).refuseXfer x e stPoison
      else if k = 0 ∨ k > n then s.refuseXfer x e stFormat
      else
        let po := s.poisonIn x.core (sd.off + 8) (8 * k)
        if po > 0 then (s.countPoison x.core po).refuseXfer x e stPoison
        else
          let vas := (List.range k).map fun i => ofBytes (s.spadRead x.core (sd.off + 8 + 8 * i) 8)
          let r := s.freeList x.part vas
          r.1.refuseXfer x e r.2

/-! The engine runs its queue (R95) -/

/-- A transfer run, all its sources being at hand. -/
def State.runNow (s : State) (x : Xfer) (e : Nat) : State :=
  match x.kind with
  | .dispatch => s.runDispatch x e
  | .bucketCount => s.runBucketCount x e
  | .alloc => s.runAlloc x e
  | .free => s.runFree x e
  | _ => s.runXfer x e

/-- The format in which a transfer reads its source, if its checks hold. -/
def State.sourceFmt (s : State) (x : Xfer) : Option Fmt :=
  match x.kind with
  | .dispatch => (s.dispatchCheck x).toOption
  | .direct => (s.directCheck x).toOption
  | .bucketCount | .alloc | .free => none
  | _ => ((s.xferCheck x).toOption).map (·.1)

/-- A transfer of an engine moves its data once no window read is outstanding. -/
def State.runIfFetched (s : State) (e core seq : Nat) : State :=
  match s.findXfer e core seq with
  | some x => if x.reads = 0 ∧ x.started ∧ !x.moved then s.runNow x e else s
  | none => s

/-- A transfer begun: one already refused ends, local sources move at once (log 19), window sources are fetched first. -/
def State.beginXfer (s : State) (x : Xfer) (e : Nat) : State :=
  if x.status ≠ 0 then s.refuseXfer x e x.status
  else match (if x.src.space = 2 then s.sourceFmt x else none) with
    | some a => (s.fetchRanges x e (s.srcRanges x a)).runIfFetched e x.core x.seq
    | none => s.runNow x e

/-- The next transfer an engine starts: the oldest not started, while fewer than four run; a load/store port starts each at once
(R94, R95). -/
def nextStart (e : Nat) (q : List Xfer) : Option Xfer :=
  if e < 112 ∧ 4 ≤ (q.filter (·.started)).length then none else q.find? fun x => !x.started

/-- Transfers of an engine started in queue order (R95). -/
def State.pumpEngine (s : State) (e : Nat) : Nat → State
  | 0 => s
  | n + 1 => match nextStart e (s.engine e).queue with
    | none => s
    | some x =>
      ((s.modXfer e x.core x.seq fun y => { y with started := true }).beginXfer { x with started := true } e).pumpEngine e n

/-- A transfer put into its engine's queue (R95). -/
def State.startXfer (s : State) (x : Xfer) (e : Nat) : State :=
  (s.setEngine e { s.engine e with queue := (s.engine e).queue ++ [x] }).pumpEngine e 4

/-- A transfer put into its engine's queue that ends with a status without moving anything. -/
def State.startRefused (s : State) (x : Xfer) (e st : Nat) : State := s.startXfer { x with status := st } e

/-! The steps of the XF queue (R108, R114) -/

/-- COPY and COPYT with their repeat descriptor (R95, R101). -/
def State.startCopy (s : State) (kind : XferKind) (c e : Nat) (w : StepWord) (n : Nat) : State :=
  s.withDescs c w fun sd dd => s.withSeed c w [dd] fun seed =>
    let x := stepXfer kind c n (s.core c).part w sd dd seed
    if fld w 79 64 = 0xFFFF then s.startXfer x e
    else match s.poolRaw (s.core c) (fld w 79 64) (fld w 63 56) 0 with
      | none => s.seqFault c 3
      | some v => s.startXfer { x with rep := some (repeatOf v) } e

/-- LCOPY; an IDX other than 0xFFFF is refused (R114). -/
def State.startLcopy (s : State) (c e : Nat) (w : StepWord) (n : Nat) : State :=
  s.withDescs c w fun sd dd => s.withSeed c w [dd] fun seed =>
    let x := stepXfer .lcopy c n (s.core c).part w sd dd seed
    if fld w 79 64 = 0xFFFF then s.startXfer x e else s.startRefused x e stFormat

/-- LS (R94). -/
def State.startLs (s : State) (c e : Nat) (w : StepWord) (n : Nat) : State :=
  s.withDescs c w fun sd dd =>
    let x := stepXfer .ls c n (s.core c).part w sd dd 0
    if fld w 79 64 = 0xFFFF ∧ lsOk c sd dd then s.startXfer x e else s.startRefused x e stFormat

/-- GATHER (R148). -/
def State.startGather (s : State) (c e : Nat) (w : StepWord) (n : Nat) : State :=
  s.withDescs c w fun sd dd => s.withSeed c w [dd] fun seed =>
    match s.xferDesc c w (fld w 79 64) with
    | none => s.seqFault c 3
    | some l => s.startXfer { stepXfer .gather c n (s.core c).part w sd dd seed with idx := some l } e

/-- SCATTER: through a row index list (R148, R150), or through a route list, in direct mode (R157, R166) or in reserve mode, which is
a dispatch (R155). -/
def State.startScatter (s : State) (c e : Nat) (w : StepWord) (n : Nat) : State :=
  s.withDescs c w fun sd dd =>
    match s.xferDesc c w (fld w 79 64) with
    | none => s.seqFault c 3
    | some l =>
      let x := { stepXfer .scatter c n (s.core c).part w sd dd 0 with idx := some l }
      if listDescOk c l && s.listKind c l.off == 3 then
        let m := s.routeBuckets c l.off
        let direct := s.routeDirect c l.off
        match s.descRun c w (fld w 95 80) 0 (if direct then m else 2 * m) with
        | none => s.seqFault c 3
        | some ds => s.withSeed c w (ds.take m) fun seed =>
            s.startXfer { x with kind := if direct then .direct else .dispatch, dsts := ds, seed := seed } e
      else s.withSeed c w [dd] fun seed => s.startXfer { x with seed := seed } e

/-- BUCKET_COUNT_TRANSFER (R168). -/
def State.startBucketCount (s : State) (c e : Nat) (w : StepWord) (n : Nat) : State :=
  match s.xferDesc c w (fld w 111 96) with
  | none => s.seqFault c 3
  | some sd =>
    let x := stepXfer .bucketCount c n (s.core c).part w sd sd (fld w 95 80 - 0xFFF0)
    if fld w 79 64 = 0xFFFF then s.startXfer x e else s.startRefused x e stFormat

/-- ALLOCATION (R369). -/
def State.startAlloc (s : State) (c e : Nat) (w : StepWord) (n : Nat) (picks : List (Nat × Nat)) : State :=
  match s.xferDesc c w (fld w 95 80) with
  | none => s.seqFault c 3
  | some dd =>
    let x := { stepXfer .alloc c n (s.core c).part w dd dd 0 with picks := picks }
    if fld w 79 64 = 0xFFFF then s.startXfer x e else s.startRefused x e stFormat

/-- FREE (R370). -/
def State.startFree (s : State) (c e : Nat) (w : StepWord) (n : Nat) : State :=
  match s.xferDesc c w (fld w 111 96) with
  | none => s.seqFault c 3
  | some sd =>
    let x := stepXfer .free c n (s.core c).part w sd sd 0
    if fld w 79 64 = 0xFFFF then s.startXfer x e else s.startRefused x e stFormat

/-- A step of the XF queue handed to its engine. -/
def State.startStep (s : State) (c e n : Nat) (w : StepWord) : XfStep → State
  | .copy u => (s.upset c u).startCopy .copy c e w n
  | .copyt => s.startCopy .copyt c e w n
  | .lcopy _ => s.startLcopy c e w n
  | .ls u => (s.upset c u).startLs c e w n
  | .gather => s.startGather c e w n
  | .scatter => s.startScatter c e w n
  | .bucketCount => s.startBucketCount c e w n
  | .alloc picks => s.startAlloc c e w n picks
  | .free => s.startFree c e w n

/-- Engine of a step of the XF queue: 2k + ENG of the executing core's cluster, the link DMA engine, or the core's load/store port
(R94, R114). -/
def XfStep.engine (c : Nat) (w : StepWord) : XfStep → Nat
  | .lcopy f => 96 + f
  | .ls _ => 112 + c
  | _ => clusterEngine c w

/-- A held step handed to its engine, at the loop iteration of its dispatch (R115). -/
def State.startHeld (s : State) (c : Nat) (h : HeldXf) : State :=
  let k := s.core c
  ((s.setCore c { k with loops := h.loops, begun := h.begun }).startStep c h.engine h.seq h.word h.form).modCore c
    fun k' => { k' with loops := k.loops, begun := k.begun }

/-- The held steps of a core handed over in order, as long as their engines have room; the first that must go on waiting is
noted at its engine (R108). -/
def State.pumpHeld (s : State) (c : Nat) : Nat → State
  | 0 => s
  | n + 1 => match (s.core c).held with
    | [] => s
    | h :: t =>
      if s.hasRoom h.engine then ((s.modCore c fun k => { k with held := t }).startHeld c h).pumpHeld c n
      else s.setEngine h.engine { s.engine h.engine with waiting := (s.engine h.engine).waiting ++ [c] }

/-- The cores that wait for an engine served in the order in which they came. -/
def State.pumpCores (s : State) : List Nat → State
  | [] => s
  | c :: cs => (s.pumpHeld c 32).pumpCores cs

/-- An engine has lost a transfer: it starts the next ones, and takes those that wait for room (R95, R108). -/
def State.refillEngine (s : State) (e : Nat) : State :=
  let s1 := s.pumpEngine e 4
  (s1.setEngine e { s1.engine e with waiting := [] }).pumpCores (s1.engine e).waiting

/-- A step of the XF queue offered to its engine: taken at once where no earlier XF step of the core waits and the engine has room,
held otherwise (R108). -/
def State.offerStep (s : State) (c n : Nat) (w : StepWord) (f : XfStep) : State :=
  let k := s.core c
  let e := f.engine c w
  if k.held.isEmpty ∧ s.hasRoom e then s.startStep c e n w f
  else
    let s1 := s.setCore c { k with held := k.held ++ [⟨n, w, f, e, k.loops, k.begun⟩] }
    if k.held.isEmpty then s1.setEngine e { s1.engine e with waiting := (s1.engine e).waiting ++ [c] } else s1

/-- The word is a bucket-count transfer, an allocation or a free, and not a COPY (R168, R369, R370). -/
def specialCopy (w : StepWord) : Bool :=
  (decide (0xFFF0 ≤ fld w 95 80) && decide (fld w 95 80 ≤ 0xFFF3)) || fld w 111 96 == 0xFFE0 || fld w 95 80 == 0xFFE1

/-- A transfer step dispatched to XF (R108, R109). -/
def State.issueXfer (s : State) (c : Nat) (w : StepWord) (f : XfStep) : State :=
  s.issue c .xf fun s' => s'.offerStep c ((s'.core c).seq - 1) w f

/-- COPY (R95, R101, R114). -/
def execCopy (c : CoreId) (w : StepWord) (upset : Option (Fin 1048576)) (s : State) : Out :=
  .next (if specialCopy w then s else s.issueXfer c w (.copy upset))

/-- COPYT (R95). -/
def execCopyt (c : CoreId) (w : StepWord) (s : State) : Out := .next (s.issueXfer c w .copyt)

/-- LCOPY on the link DMA engine of the transfer's path (R114). -/
def execLcopy (c : CoreId) (w : StepWord) (f : Fin 16) (s : State) : Out :=
  .next (if s.lcopyDie c w f then s.issueXfer c w (.lcopy f) else s)

/-- LS on the core's load/store port (R94). -/
def execLs (c : CoreId) (w : StepWord) (upset : Option (Fin 1048576)) (s : State) : Out :=
  .next (s.issueXfer c w (.ls upset))

/-- GATHER (R148). -/
def execGather (c : CoreId) (w : StepWord) (s : State) : Out := .next (s.issueXfer c w .gather)

/-- SCATTER (R148, R150, R155, R157, R166). -/
def execScatter (c : CoreId) (w : StepWord) (s : State) : Out := .next (s.issueXfer c w .scatter)

/-- DISPATCH: a SCATTER whose list is a reserve-mode route list (R155 to R158, R165); the list decides what the step is when the
engine takes it. -/
def execDispatch (c : CoreId) (w : StepWord) (s : State) : Out := .next (s.issueXfer c w .scatter)

/-- BUCKET_COUNT_TRANSFER: a COPY whose DST field is 0xFFF0 to 0xFFF3 (R168). -/
def execBucketCountTransfer (c : CoreId) (w : StepWord) (s : State) : Out :=
  .next (if fld w 95 80 < 0xFFF0 ∨ fld w 95 80 > 0xFFF3 then s else s.issueXfer c w .bucketCount)

/-- ALLOCATION: a COPY whose SRC field is 0xFFE0 (R369). -/
def execAllocation (c : CoreId) (w : StepWord) (picks : List (Nat × Nat)) (s : State) : Out :=
  .next (
    let p := (s.core c).part
    let n := match s.xferDesc c w (fld w 95 80) with
      | some dd => (pagesForm c dd).getD 0
      | none => 0
    if fld w 111 96 ≠ 0xFFE0 ∨ (n ≠ 0 ∧ s.hasAlloc p ∧ !s.picksOk p n picks) then s else s.issueXfer c w (.alloc picks))

/-- FREE: a COPY whose DST field is 0xFFE1 (R370). -/
def execFree (c : CoreId) (w : StepWord) (s : State) : Out :=
  .next (if fld w 95 80 ≠ 0xFFE1 then s else s.issueXfer c w .free)

/-- POOL_PAGE_CLEAR_DONE: a freed page's clear ends and the page is free (R370, R466). -/
def execPoolPageClearDone (pg : Fin 16384) (s : State) : Out :=
  .next (if s.poolPage pg = some ⟨none, true⟩ then
      (s.clearRange (pg * 2 ^ 25) ((pg + 1) * 2 ^ 25)).setPoolPage pg (some ⟨none, false⟩)
    else s)

end Sys2Proof.Machine
end

