-- ==== Sys2Proof/Machine/Buckets.lean ====
section
/-! DEFINITION. Expert buckets: the bucket controller's round and the producer's side of a dispatch (spec/06: R158 to
R165). -/
namespace Sys2Proof.Machine

/-! The header (R155, Table 4); `h` is core × 2^20 + offset -/

/-- Word `i` of a bucket header. -/
def State.hdrWord (s : State) (h i : Nat) : Nat := s.spadWord (h / 2 ^ 20) (h % 2 ^ 20 + 4 * i)
/-- Word `i` of a bucket header written. -/
def State.setHdrWord (s : State) (h i v : Nat) : State := s.spadSetWord (h / 2 ^ 20) (h % 2 ^ 20 + 4 * i) v
/-- PRODUCERS. -/
def State.hdrProducers (s : State) (h : Nat) : Nat := s.hdrWord h 4 / 2 ^ 16
/-- CAP. -/
def State.hdrCap (s : State) (h : Nat) : Nat := s.hdrWord h 4 % 2 ^ 16
/-- The bucket has a provenance list. -/
def State.hasProv (s : State) (h : Nat) : Bool := s.hdrWord h 6 != 0xFFFFFFFF

/-- The launch of core `c` runs in deterministic-sum mode (R62: FLAGS bit 0 of the image). -/
def State.detsum (s : State) (c : Nat) : Bool := bitAt (imgField (s.imageOf (s.core c)) 5 1) 0

/-- Offset of the tag array of a spill bucket (R163). -/
def tagOff (prov cap : Nat) : Nat := ceilDiv (prov + 16 + 4 * cap) 32 * 32

/-- Provenance entries, and tags in a spill bucket, for the slots granted from `slot` on (R160, R163, R166). -/
def State.putProv (s : State) (h self slot : Nat) : List (Nat × Nat) → State
  | [] => s
  | x :: xs =>
    let c := h / 2 ^ 20
    let prov := s.hdrWord h 6 % 2 ^ 20
    let s1 := s.spadSetWord c (prov + 16 + 4 * slot) (self * 2 ^ 20 + x.1)
    let s2 := if bitAt (s.hdrWord h 5) 3 then s1.spadSetWord c (tagOff prov (s.hdrCap h) + 4 * slot) (x.2 * 2 ^ 20) else s1
    s2.putProv h self (slot + 1) xs

/-- A request granted (R160): slots from COUNT on, the header's counts, provenance, and the grant sent to the producer
with the bucket's policy (a spill bucket's is drop, R163). -/
def State.grantReq (s : State) (h : Nat) (r : BucketReq) : State :=
  let n := r.entries.length
  let count := s.hdrWord h 0
  let g := min n (s.hdrCap h - count)
  let w5 := s.hdrWord h 5
  let policy := if bitAt w5 3 then 0 else w5 % 4
  let s1 := ((s.setHdrWord h 0 (count + g)).setHdrWord h 1 ((s.hdrWord h 1 + n) % 2 ^ 32)).setHdrWord h 2
    ((s.hdrWord h 2 + (n - g)) % 2 ^ 32)
  let s2 := if s.hasProv h then s1.putProv h r.self count (r.entries.take g) else s1
  s2.emit (.bucketGrant r.engine r.core r.seq r.bucket count g policy)

def State.grantAll (s : State) (h : Nat) : List BucketReq → State
  | [] => s
  | r :: rs => (s.grantReq h r).grantAll h rs

/-- A request put in its place by ascending SELF (R161). -/
def insertReq (r : BucketReq) : List BucketReq → List BucketReq
  | [] => [r]
  | x :: xs => if r.self < x.self then r :: x :: xs else x :: insertReq r xs

/-- A round opened (R159): COUNT, ARRIVED and OVERFLOW zero, ROUND raised. -/
def State.openRound (s : State) (h : Nat) : State :=
  let s1 := (((s.setHdrWord h 0 0).setHdrWord h 1 0).setHdrWord h 2 0).setHdrWord h 3 ((s.hdrWord h 3 + 1) % 2 ^ 32)
  s1.setBucket h { s1.bucket h with isOpen := true, requests := 0, dones := 0, gather := [] }

/-- A request taken into the round: opened where none is open, held past PRODUCERS, gathered under R62 until all are
there, granted at once otherwise (R159 to R161). -/
def State.takeReq (s : State) (h : Nat) (r : BucketReq) : State :=
  let b := s.bucket h
  if (b.isOpen && decide (b.requests ≥ s.hdrProducers h)) || b.zeroFill then
    s.setBucket h { b with held := b.held ++ [r] }
  else
    let s1 := if b.isOpen then s else s.openRound h
    let b1 := s1.bucket h
    let b2 := { b1 with requests := b1.requests + 1, rows := some r.rows }
    if s1.detsum (h / 2 ^ 20) then
      let g := insertReq r b1.gather
      if g.length = s1.hdrProducers h then (s1.setBucket h { b2 with gather := [] }).grantAll h g
      else s1.setBucket h { b2 with gather := g }
    else (s1.setBucket h b2).grantReq h r

/-- Held requests offered again once a round has closed; those past PRODUCERS are held once more. -/
def State.takeAll (s : State) (h : Nat) : List BucketReq → State
  | [] => s
  | r :: rs => (s.takeReq h r).takeAll h rs

/-- The held requests open the next round (R159). -/
def State.nextRound (s : State) (h : Nat) : State :=
  let b := s.bucket h
  (s.setBucket h { b with held := [], zeroFill := false }).takeAll h b.held

/-- Rows `i` on of a bucket written as +0 elements with scale bytes 0x00 (R159). -/
def State.zeroRows (s : State) (d : Desc) (f : Fmt) (i : Nat) : Nat → State
  | 0 => s
  | n + 1 =>
    let s1 := s.spadWrite d.core (d.off + i * d.stride) (zeroBytes f d.elems)
    let s2 := s1.spadWrite d.core (d.auxOff + i * d.scaleLen f) (List.replicate (d.scaleLen f) 0)
    s2.zeroRows d f (i + 1) n

/-- DONE_OBJ raised by 1 where enabled (R159): a cluster-scope object of the header's cluster (R156). -/
def State.raiseDoneObj (s : State) (h : Nat) : State :=
  let w7 := s.hdrWord h 7
  if bitAt w7 8 then s.emit (.objAdd (0x100 * (h / 2 ^ 24) + w7 % 256) 1 1 (h / 2 ^ 20)) else s

/-- ROUND_CLOSE (R159): provenance ENTRIES, then the zero-fill, or DONE_OBJ where there is none. -/
def State.closeRound (s : State) (h : Nat) : State :=
  let count := s.hdrWord h 0
  let s1 := if s.hasProv h then s.spadSetWord (h / 2 ^ 20) (s.hdrWord h 6 % 2 ^ 20) (0x3000000 + count) else s
  let s2 := s1.setBucket h { s1.bucket h with isOpen := false }
  match (if bitAt (s2.hdrWord h 5) 2 then (s2.bucket h).rows else none) with
  | some d => match fmtOf d.fmt with
    | some f => (s2.zeroRows d f count (s2.hdrCap h - count)).setBucket h { s2.bucket h with zeroFill := true }
    | none => (s2.raiseDoneObj h).nextRound h
  | none => (s2.raiseDoneObj h).nextRound h

/-- BUCKET_REQUEST (R159 to R161). -/
def execBucketRequest (h : HdrAddr) (r : BucketReq) (s : State) : Out := .next (s.takeReq h r)

/-- BUCKET_DONE (R159): the PRODUCERS-th done closes the round. -/
def execBucketDone (h : HdrAddr) (s : State) : Out :=
  let b := s.bucket h
  .next (if b.isOpen then
      let s1 := s.setBucket h { b with dones := b.dones + 1 }
      if b.dones + 1 = s.hdrProducers h then s1.closeRound h else s1
    else s)

/-- ZERO_FILL_ACKNOWLEDGED (R159): DONE_OBJ is raised, and held requests open the next round. -/
def execZeroFillAcknowledged (h : HdrAddr) (s : State) : Out :=
  .next (if (s.bucket h).zeroFill then (s.raiseDoneObj h).nextRound h else s)

/-! The producer's side -/

/-- BUCKET of entry `i` rewritten; SRC_ROW is unchanged (R162). -/
def State.rewriteEntry (s : State) (x : Xfer) (d : Disp) (i b : Nat) : State :=
  s.spadSetWord x.core (d.listOff + 16 + 4 * i) (b * 2 ^ 20 + s.routeEntry x d i % 2 ^ 20)
/-- BUCKET of entries rewritten. -/
def State.rewriteAll (s : State) (x : Xfer) (d : Disp) (b : Nat) : List Nat → State
  | [] => s
  | i :: is => (s.rewriteEntry x d i b).rewriteAll x d b is

/-- Granted rows written from slot `slot` on, in entry order (R158 step 3). -/
def Mv.putGranted (m : Mv) (x : Xfer) (e : Nat) (d : Disp) (dd : Desc) (sf df : Fmt) (slot : Nat) : List Nat → Mv
  | [] => m
  | i :: is =>
    if m.st ≠ 0 then m
    else (m.moveRow { x with dst := dd } e x.src dd sf df (m.s.routeEntry x d i % 2 ^ 20) slot (i * dd.elems)).putGranted
      x e d dd sf df (slot + 1) is

/-- Offset of row `k` of the carry region (R164). -/
def carryRow (x : Xfer) (d : Disp) (k : Nat) : Nat :=
  ceilDiv (d.carryOff + 16 + 4 * d.carryCap) 32 * 32 + k * x.src.stride

/-- One overflow row deferred into the carry region, or lost (R161, R164): the row unconverted and its entry. -/
def Mv.deferRow (m : Mv) (x : Xfer) (e : Nat) (d : Disp) (b : Nat) (sf : Fmt) (i : Nat) : Mv × Disp :=
  if m.st ≠ 0 then (m, d)
  else
    let lost := ({ m with s := (m.s.bump (spReg (x.core / 16) 0x1C) 1).rewriteEntry x d i 0xFFF }, d)
    if d.carryOff = 0xFFFFF ∨ d.carried ≥ d.carryCap ∨ x.src.scaled then lost
    else
      let g := m.getRow x e x.src sf (m.s.routeEntry x d i % 2 ^ 20)
      let k := d.carried
      let m1 := g.1.put x e 1 (x.core * 2 ^ 20 + carryRow x d k) g.2.1
      let s1 := m1.s.spadSetWord x.core (d.carryOff + 16 + 4 * k) (b * 2 ^ 20 + k)
      ({ m1 with s := (s1.bump (spReg (x.core / 16) 0x18) 1).rewriteEntry x d i 0xFFF }, { d with carried := k + 1 })

/-- One row of the remaining overflow dealt with (R158 step 5, R161 to R164, Table 6): entry, bucket and the policy its grant
carried. Rows beyond a spill bucket, and rows under the spill policy of a set without one, are lost. -/
def Mv.dealWith (m : Mv) (x : Xfer) (e : Nat) (d : Disp) (sf : Fmt) (o : Nat × Nat × Nat) : Mv × Disp :=
  let k := x.core / 16
  let gone := fun off : Nat => ({ m with s := (m.s.bump (spReg k off) 1).rewriteEntry x d o.1 0xFFF }, d)
  if m.st ≠ 0 then (m, d)
  else if o.2.1 = d.spill then gone 0x1C
  else match o.2.2 with
    | 1 => gone 0x1C
    | 2 => m.deferRow x e d o.2.1 sf o.1
    | _ => gone 0x10

/-- The remaining overflow dealt with in entry order. -/
def Mv.dealAll (m : Mv) (x : Xfer) (e : Nat) (d : Disp) (sf : Fmt) : List (Nat × Nat × Nat) → Mv × Disp
  | [] => (m, { d with excess := [] })
  | o :: os => let r := m.dealWith x e d sf o; r.1.dealAll x e r.2 sf os

/-- Overflow put in entry order. -/
def sortOver (l : List (Nat × Nat × Nat)) : List (Nat × Nat × Nat) :=
  (sortEntries (l.map (·.1)).eraseDups).flatMap fun i => l.filter fun o => o.1 == i

/-- The overflow of a grant noted: rows under the spill policy are offered to the spill bucket, the others wait until every grant is
back (R158 steps 4 and 5, R161). -/
def State.noteOverflow (s : State) (x : Xfer) (d : Disp) (b policy : Nat) (ovf : List Nat) : State × Disp :=
  if policy = 1 ∧ b ≠ d.spill ∧ d.spill < d.buckets then
    (s.bump (spReg (x.core / 16) 0x14) ovf.length, { d with overflow := d.overflow ++ ovf })
  else (s, { d with excess := d.excess ++ ovf.map fun i => (i, b, policy) })

/-- A grant at the dispatching engine (R158 steps 3 to 6, R161 to R165). Slots granted to a stopped dispatch keep their
contents. -/
def State.takeGrant (s : State) (x : Xfer) (e : Nat) (d : Disp) (b first granted policy : Nat) : State :=
  let es := tblGet (fun _ => []) d.asked b
  let dd := nth x.src x.dsts b
  let m0 : Mv := ⟨s, x.status, 0, cnt0, 0⟩
  match fmtOf x.src.fmt, fmtOf dd.fmt with
  | some sf, some df =>
    let landed := es.take granted
    let m1 := m0.putGranted x e d dd sf df first landed
    let wrote := decide (m1.bytes > 0)
    let spilled := if b = d.spill then landed.filter fun i => s.routeEntry x d i / 2 ^ 20 ≠ d.spill else []
    let m2 := if m1.st = 0 then { m1 with s := m1.s.rewriteAll x d d.spill spilled } else m1
    let o := if m2.st = 0 then m2.s.noteOverflow x d b policy (es.drop granted) else (m2.s, d)
    let d1 := { o.2 with waiting := o.2.waiting.filter (· ≠ b), toDone := o.2.toDone ++ if wrote then [b] else [] }
    let hdr := nth x.src (x.dsts.drop d.buckets) b
    let s1 := if wrote then o.1 else o.1.emit (.bucketDone hdr.base)
    let q := s1.spillRequest { x with status := m2.st } e d1
    let r := if q.2.waiting.isEmpty then ({ m2 with s := q.1 } : Mv).dealAll x e q.2 sf (sortOver q.2.excess)
      else ({ m2 with s := q.1 }, q.2)
    r.1.s.modXfer e x.core x.seq fun y =>
      { y with status := r.1.st, bytes := y.bytes + r.1.bytes, counts := cntAdd y.counts r.1.counts,
               unacked := y.unacked + (if wrote then 1 else 0), disp := some r.2 }
  | _, _ => s

/-- BUCKET_GRANT (R158, R161 to R165). -/
def execBucketGrant (e : EngineId) (core seq bucket first granted policy : Nat) (s : State) : Out :=
  .next (match s.findXfer e core seq with
    | some x => (match x.disp with
      | some d => if d.waiting.contains bucket then s.takeGrant x e d bucket first granted policy else s
      | none => s)
    | none => s)

/-- WRITE_ACKNOWLEDGEMENT (R593): a transfer's writes are acknowledged; a bucket whose writes these were gets its done
(R158 step 6). -/
def execWriteAcknowledgement (e : XferEngineId) (core seq : Nat) (s : State) : Out :=
  .next (match s.findXfer e core seq with
    | none => s
    | some x =>
      if x.unacked = 0 then s
      else
        let s1 := s.modXfer e core seq fun y =>
          { y with unacked := y.unacked - 1, disp := y.disp.map fun d => { d with toDone := d.toDone.drop 1 } }
        match x.disp with
        | some d => (match d.toDone with
          | b :: _ => s1.emit (.bucketDone (nth x.src (x.dsts.drop d.buckets) b).base)
          | [] => s1)
        | none => s1)

end Sys2Proof.Machine
end

