-- ==== Sys2Proof/Machine/HostOps.lean ====
section
/-! DEFINITION. Operations of the host port: rings, completion records, interrupts, reference counts, the start and the
end of descriptors (spec/14: R379 to R388, R399 to R401; spec/15: R408, R410 to R413). -/
namespace Sys2Proof.Machine

/-! Registers of a function -/

/-- A HIF register of function `fn` at an offset of the block. -/
def State.hif (s : State) (fn off : Nat) : Nat := s.reg (hifKey fn (bHIF + off))
def kSqCfg (fn r : Nat) : Nat := hifKey fn (bHIF + 0x108 + 0x20 * r)
def kSqStat (fn r : Nat) : Nat := hifKey fn (bHIF + 0x110 + 0x20 * r)
def kCqCfg (fn q : Nat) : Nat := hifKey fn (bHIF + 0x408 + 0x20 * q)
def kRefCfg (fn : Nat) : Nat := hifKey fn (bHIF + 0x908)
def kRefStat (fn : Nat) : Nat := hifKey fn (bHIF + 0x90C)

/-- HIF_FN_STATUS.ATOMIC: AtomicOp Requester Enable of the function. -/
def State.atomicOn (s : State) (fn : Nat) : Bool := s.pcie.atomic.contains fn

/-- The partition of a VF's instance belongs to a confidential composition, and its TDI is not in RUN over IDE: no host request
is sent for it (R487). -/
def State.hostShut (s : State) (fn : Nat) : Bool :=
  fn != 0 && (s.part (fn - 1)).st != .free && bitAt (s.part (fn - 1)).flags 1 && (s.inst fn).tdi != .run

/-- Size of a ring by its configuration. -/
def ringSize (cfg : Nat) : Nat := 2 ^ (cfg % 32)

/-! Fields of a descriptor (R387) -/

/-- Bytes `b` to `b + n - 1` of a descriptor. -/
def HostDesc.fld (d : HostDesc) (b n : Nat) : Nat := d.raw / 2 ^ (8 * b) % 2 ^ (8 * n)
def HostDesc.type (d : HostDesc) : Nat := d.fld 0 1
def HostDesc.fence (d : HostDesc) : Bool := bitAt d.raw 8
def HostDesc.event (d : HostDesc) : Bool := bitAt d.raw 9
def HostDesc.nocomp (d : HostDesc) : Bool := bitAt d.raw 10
def HostDesc.ctx (d : HostDesc) : Nat := d.fld 2 2
def HostDesc.cookie (d : HostDesc) : Nat := d.fld 8 8
/-- The reference-count entries the descriptor names, REF0 before REF1. -/
def HostDesc.refs (d : HostDesc) : List Nat := [d.fld 16 4, d.fld 20 4].filter (· ≠ 0xFFFFFFFF)

/-! Completion rings (R385, R399, R400) -/

/-- A completion record without its phase (R399, Table 7). -/
def HostDesc.record (d : HostDesc) (status result : Nat) : Nat :=
  d.type * 2 ^ 248 + status * 2 ^ 240 + d.ring * 2 ^ 236 + d.index * 2 ^ 216 + result % 2 ^ 128 * 2 ^ 64 + d.cookie

/-- The interrupt of a completion ring (R400, R401). -/
def State.cqInterrupt (s : State) (fn q : Nat) : State :=
  (s.setCq fn q { s.cq fn q with pend := 0 }).msix fn (bits (s.reg (kCqCfg fn q)) 23 16)

/-- A record written at TAIL, which advances; the interrupt follows where one is due (R385, R400). -/
def State.cqPut (s : State) (fn q : Nat) (c : CqRec) : State :=
  let k := s.cq fn q
  let cfg := s.reg (kCqCfg fn q)
  let n := ringSize cfg
  let base := s.hif fn (0x400 + 0x20 * q) / 4096 * 4096
  let s1 := s.hostWrite fn (base + 32 * k.tail) (toBytes 32 (c.bits + b2n k.phase * 2 ^ 232))
  let s2 := s1.setCq fn q { k with tail := (k.tail + 1) % n, phase := if k.tail + 1 = n then !k.phase else k.phase,
                                   pend := k.pend + 1 }
  if c.event then s2.cqInterrupt fn q
  else if bitAt cfg 30 then s2
  else if k.pend + 1 ≥ bits cfg 15 8 then s2.cqInterrupt fn q
  else s2

/-- The ring has space: at most size - 1 unread records (R385). -/
def State.cqRoom (s : State) (fn q : Nat) : Bool :=
  let k := s.cq fn q
  (k.tail + 1) % ringSize (s.reg (kCqCfg fn q)) != k.head

/-- Waiting records written while there is space. -/
def State.cqDrain (s : State) (fn q : Nat) : List CqRec → State
  | [] => s.setCq fn q { s.cq fn q with waiting := [] }
  | c :: cs =>
    if s.cqRoom fn q && !s.hostShut fn then (s.cqPut fn q c).cqDrain fn q cs
    else s.setCq fn q { s.cq fn q with waiting := c :: cs }

/-- The records that wait for a ring written where it is enabled and has space. -/
def State.cqGo (s : State) (fn q : Nat) : State :=
  if bitAt (s.reg (kCqCfg fn q)) 31 then s.cqDrain fn q (s.cq fn q).waiting else s

/-- A record for a completion ring: written, or held until the ring is enabled and has space (R385). During an ABORT of the
function's instance a record that cannot be written is discarded (R424). -/
def State.cqOffer (s : State) (fn q : Nat) (c : CqRec) : State :=
  let k := s.cq fn q
  let now := bitAt (s.reg (kCqCfg fn q)) 31 && k.waiting.isEmpty && s.cqRoom fn q && !s.hostShut fn
  let abort := match (s.inst fn).quiesce with
    | some x => x.abort
    | none => false
  if now then s.cqPut fn q c
  else if abort then s
  else s.setCq fn q { k with waiting := k.waiting ++ [c] }

/-- Completions of a function that wait for space (R385). -/
def State.waitingOf (s : State) (fn : Nat) : Nat :=
  ((List.range 16).map fun q => (s.cq fn q).waiting.length).sum

/-! Reference counts (R410 to R413) -/

/-- An outcome of Table 2: the bit, the count, the mailbox event or PF0's vector 0, the record. `sent` says that the FetchAdd was
sent. -/
def State.refOutcome (s : State) (fn bit entry code : Nat) (sent : Bool) : State :=
  let s1 := (s.setBits (kRefStat fn) (2 ^ bit)).bump (hifKey fn (bHIF + 0x910)) 1
  let s2 := if fn = 0 then s1.ledger 0x0701 (srcOf3 0xFF 0 0) entry code 0 else s1.ledgerPart 0x0701 (fn - 1) entry code 0 0
  if fn = 0 then s2.msix 0 0
  else s2.mbEvent (fn - 1) (if bit = 29 then 7 else 8) (entry + (if bit = 30 ∧ sent then 2 ^ 32 else 0))

/-- The decrements of a descriptor sent; how many FetchAdds are on their way (R411, R413). Where no table is enabled
nothing is sent. -/
def State.sendRefs (s : State) (d : HostDesc) : List Nat → State × Nat
  | [] => (s, 0)
  | e :: es =>
    let cfg := s.reg (kRefCfg d.fn)
    if s.hostShut d.fn then (s.refOutcome d.fn 30 e 2 false).sendRefs d es
    else if !bitAt cfg 31 ∨ e ≥ 2 ^ (cfg % 32) then (s.refOutcome d.fn 31 e 1 false).sendRefs d es
    else
      let s1 : State := { s with refOps := s.refOps ++ [⟨d.id, d.fn, e⟩] }
      let r := (s1.emit (.fetchAdd d.fn e)).sendRefs d es
      (r.1, r.2 + 1)

/-! Instances and contexts -/

/-- The function's instance may fetch: PF0, or a READY instance (R415, R487). -/
def State.fetches (s : State) (fn : Nat) : Bool := fn == 0 || ((s.inst fn).st == .ready && !s.hostShut fn)

/-- The context of a descriptor exists, or it names none (R408). -/
def State.ctxOk (s : State) (d : HostDesc) : Bool :=
  d.ctx == 0xFFFF || (d.fn != 0 && decide (d.ctx < 256) && (s.inst d.fn).ctxs.contains d.ctx)

/-- A quiesced target (R424): every descriptor and FetchAdd of it has completed. The descriptor that asked for the quiesce
is then to complete. -/
def State.drainedInst (s : State) (v : Nat) : Bool :=
  !(s.descs.any fun d => d.fn == v) && !(s.refOps.any fun r => r.fn == v)

/-! Completion of a descriptor (R386) -/

/-- Descriptors of a ring, in ring order. -/
def State.ringDescs (s : State) (fn r : Nat) : List HostDesc := s.descs.filter fun d => d.fn == fn && d.ring == r

/-- The record of a descriptor written after its FetchAdds, and the descriptor gone; NOCOMP leaves out an OK record without
EVENT (R387), and a completion that FLR discarded is not written (R374). -/
def State.finishDesc (s : State) (d : HostDesc) (status result : Nat) : State :=
  let s1 := { s with descs := s.descs.filter fun x => x.id != d.id }
  let q := bits (s.reg (kSqCfg d.fn d.ring)) 27 24
  if d.dropped ∨ (status = 0 ∧ d.nocomp ∧ !d.event) then s1
  else s1.cqOffer d.fn q ⟨d.record status result, d.event⟩

/-- A descriptor ends: its decrements leave, and its record follows once they have completed (R386, R411). NO_ATOMIC
performs none. -/
def State.complete (s : State) (id status result : Nat) : State :=
  match s.desc id with
  | none => s
  | some d =>
    match d.st with
    | .ended _ _ _ => s
    | _ =>
      let r := s.sendRefs d (if status = 5 then [] else d.refs)
      if r.2 = 0 then r.1.finishDesc d status result
      else r.1.modDesc id fun x => { x with st := .ended status result r.2, obj := none }

/-! Start of a descriptor (R383, R384, R388) -/

/-- The descriptor has not started. -/
def HostDesc.waitsStart (d : HostDesc) : Bool := d.st == .fetched

/-- The descriptor has completed but for its decrements. -/
def HostDesc.isOver (d : HostDesc) : Bool := match d.st with
  | .ended _ _ _ => true
  | _ => false

/-- The next descriptor of a ring that may start: the first not started, where FENCE, SIGNAL and WAIT allow it. -/
def startableIn : List HostDesc → Option HostDesc
  | [] => none
  | d :: ds =>
    if d.waitsStart then some d
    else match startableIn ds with
      | none => none
      | some e => if e.fence || e.type == 5 || d.type == 6 then none else some e

/-- The next descriptor of a ring, where it may start. -/
def State.startable (s : State) (fn r : Nat) : Option HostDesc := startableIn (s.ringDescs fn r)

/-- Bytes of a body that a type's fields cover, as (first byte, length); the rest is reserved (R389 to R397). -/
def bodyFields (type : Nat) : List (Nat × Nat) :=
  match type with
  | 1 => [(24, 12)]
  | 2 => [(24, 1)]
  | 3 => [(24, 1), (32, 8)]
  | 4 => [(24, 1), (32, 32)]
  | 5 => [(24, 1), (28, 12)]
  | 6 => [(24, 1), (28, 8), (40, 4)]
  | 7 => [(24, 1), (28, 16), (48, 8)]
  | 8 => [(24, 2), (28, 4)]
  | 9 => [(24, 2), (28, 16), (48, 12)]
  | _ => []

/-- Mask of the bytes listed. -/
def fieldMask : List (Nat × Nat) → Nat
  | [] => 0
  | f :: fs => (2 ^ (8 * f.2) - 1) * 2 ^ (8 * f.1) ||| fieldMask fs

/-- Reserved bits within a type's fields are zero, and its codes are ones the tables list. -/
def fieldsClean (d : HostDesc) : Bool :=
  match d.type with
  | 1 => d.fld 24 8 / 2 ^ 52 == 0
  | 4 =>
    let mode := d.fld 24 1
    if mode = 0 then
      bits d.raw (8 * 32 + 63) (8 * 32 + 56) == 0 && bits d.raw (8 * 40 + 63) (8 * 40 + 56) == 0 && d.fld 52 12 == 0
    else mode == 1
  | 5 | 6 => bits d.raw (8 * 32 + 31) (8 * 32 + 20) == 0
  | 7 => d.fld 31 1 == 0 && (d.fld 24 1 == 1 || d.fld 24 1 == 2 || d.fld 24 1 == 3 || d.fld 24 1 == 4 || d.fld 24 1 == 5)
  | 8 => decide (d.fld 25 1 ≤ 2) && (d.fld 25 1 == 0 || d.fld 28 4 == 0) && decide (1 ≤ d.fld 24 1) && decide (d.fld 24 1 ≤ 32)
  | 9 =>
    let c := d.fld 24 2
    c == 1 || (decide (0x100 ≤ c) && decide (c ≤ 0x103)) || (decide (0x200 ≤ c) && decide (c ≤ 0x202)) || c == 0x300 || c == 0x301
      || (decide (0x400 ≤ c) && decide (c ≤ 0x4FF))
  | _ => true

/-- Header bytes 0 to 23 but for bits [15:11] and [63:32], which are reserved (R387). -/
def headerMask : Nat := 2 ^ 192 - 2 ^ 64 + (2 ^ 32 - 1 - (2 ^ 16 - 2 ^ 11))

/-- The partition of a VF runs on its anchor here (R334). -/
def State.isAnchor (s : State) (p : Nat) : Bool := (s.part p).st != .free && (s.part p).anchor == s.reg bFAB

/-- The partition of a composition whose anchor this module is (R334). -/
def State.anchorOf (s : State) (comp : Nat) : Option Nat :=
  (List.range 32).find? fun p => s.isAnchor p && (s.part p).comp == comp

/-- This module is the anchor that a BIND concerns: the one its envelope names at reserve, else that of its composition, which
an update names in its envelope (R388, R395). -/
def State.bindHere (s : State) (d : HostDesc) : Bool :=
  match d.fld 24 1 with
  | 1 => s.hostNat 0 (d.fld 32 8 + 0x0C) 2 == s.reg bFAB
  | 3 => (s.anchorOf (s.hostNat 0 (d.fld 32 8 + 8) 3)).isSome
  | _ => (s.anchorOf (d.fld 28 3)).isSome

/-- The module refuses the descriptor (R388). BIND and QUIESCE carry their own conditions. -/
def State.refuses (s : State) (d : HostDesc) : Bool :=
  let t := d.type
  decide (t > 9) || (d.fn == 0 && decide (1 ≤ t) && decide (t ≤ 6)) || (d.fn != 0 && decide (t ≥ 7))
    || d.raw &&& (headerMask ||| fieldMask (bodyFields t)) != d.raw || !fieldsClean d
    || (decide (1 ≤ t) && decide (t ≤ 3) && !s.isAnchor (d.fn - 1))
    || (t == 7 && !s.bindHere d)
    || (t == 4 && (s.part (d.fn - 1)).role == 2 && bitAt (s.part (d.fn - 1)).flags 1)

/-- The status with which a descriptor ends at its start, before any other effect: NO_ATOMIC, REFUSED, or ABORTED for a
context that does not exist (R375, R388, R408); none where it runs. -/
def State.startStatus (s : State) (d : HostDesc) : Option Nat :=
  if !d.refs.isEmpty && !s.atomicOn d.fn then some 5
  else if s.refuses d then some 1
  else if !s.ctxOk d then some 3
  else if d.type = 9 ∧ d.fld 24 2 > 0x408 then some 2
  else none

/-- RESULT of such a descriptor: UNSUPPORTED for a Custodian command that R445 does not list, else zero. -/
def startResult (status : Nat) : Nat := if status = 2 then 0x0E else 0

/-- Descriptors of a ring that end at their start do so, in ring order (R388). -/
def State.endRefused (s : State) (fn r : Nat) : Nat → State
  | 0 => s
  | fuel + 1 =>
    match s.startable fn r with
    | none => s
    | some d => match s.startStatus d with
      | none => s
      | some st => (s.complete d.id st (startResult st)).endRefused fn r fuel

/-- A ring looked at again after a fetch, a start or a completion. -/
def State.ringGo (s : State) (fn r : Nat) : State := s.endRefused fn r (s.ringDescs fn r).length

/-- Another ring of the function with PRIO = 1 has a startable descriptor, and this ring has PRIO = 0 (R384). -/
def State.prioBlocked (s : State) (fn r : Nat) : Bool :=
  !bitAt (s.reg (kSqCfg fn r)) 28 &&
    (List.range 16).any fun r' => bitAt (s.reg (kSqCfg fn r')) 28 && (s.startable fn r').isSome

/-- The next descriptor of a ring, of type `t`, started; then the ring is looked at again. A ring whose next descriptor is
of another type, or that must wait, does nothing (log 1). -/
def State.startDesc (s : State) (fn r t : Nat) (f : HostDesc → State → State) : State :=
  match s.startable fn r with
  | none => s
  | some d =>
    if d.type ≠ t ∨ (s.startStatus d).isSome ∨ s.prioBlocked fn r then s
    else (f { d with st := .running } (s.modDesc d.id fun x => { x with st := .running })).ringGo fn r

/-- A descriptor ends and its ring goes on. -/
def State.endDesc (s : State) (id status result : Nat) : State :=
  match s.desc id with
  | none => s
  | some d => (s.complete id status result).ringGo d.fn d.ring

/-- RESULT of a QUIESCE: code and count (R423). -/
def quiesceResult (code count : Nat) : Nat := code + count * 2 ^ 16

/-- The next descriptor of a ring started where it meets a test. -/
def State.startIf (s : State) (fn r t : Nat) (ok : HostDesc → Bool) (f : HostDesc → State → State) : State :=
  match s.startable fn r with
  | none => s
  | some d => if ok d then s.startDesc fn r t f else s

/-- The host reaches a function: HOST_READY is 1 and the function is there (R373, R535). -/
def State.hostOn (s : State) (fn : Nat) : Bool := s.boot.ready && decide (fn ≤ s.pcie.vfs)

/-- Descriptors of a function still to complete (R416, R424). -/
def State.openDescs (s : State) (fn : Nat) : Nat := (s.descs.filter fun d => d.fn == fn).length

/-- STATUS of a QUIESCE by its code (R423). -/
def quiesceStatus (code : Nat) : Nat := if code = 0 then 0 else 2

/-- A QUIESCE descriptor ends. -/
def State.quiesceDone (s : State) (desc code count : Nat) : State := s.endDesc desc (quiesceStatus code) (quiesceResult code count)

/-- A drained target whose quiesce is in force is QUIESCED, and its QUIESCE completes (R424). -/
def State.quiesceEnd (s : State) (v : Nat) : State :=
  match (s.inst v).quiesce with
  | some q =>
    if s.drainedInst v then
      let s1 := s.modInst v fun i => { i with st := .quiesced, quiesce := none }
      match q.desc with
      | some d => s1.quiesceDone d 0 q.count
      | none => s1
    else s
  | none => s

end Sys2Proof.Machine
end

