-- ==== Sys2Proof/Machine/Windows.lean ====
section
/-! DEFINITION. Loan windows: the lender's and the borrower's side of window transactions, opening and revocation
(spec/09: R239 to R245; spec/11: R287 to R292). -/
namespace Sys2Proof.Machine

/-! The lender -/

/-- A response flit to the source of a request (R287). -/
def State.respond (s : State) (f : Flit) (kind aux : Nat) : State :=
  s.sendFlit { f with kind := kind, vc := 3, hops := 0, dst := f.src, src := s.reg bFAB, units := 0, aux := aux, body := [] }

/-- The lender's checks in order; the code of the first that fails (R241, Table 7). An entry that met an error is not VALID (R529). -/
def InWin.check (w : InWin) (gen comp off len : Nat) (write : Bool) : Option Nat :=
  if w.revoking then some 0x16
  else if !w.valid || w.bad then some 0x11
  else if w.gen ≠ gen then some 0x12
  else if w.grantee ≠ comp then some 0x13
  else if !(if write then w.w else w.r) then some 0x14
  else if off + len > w.size * 2 ^ 25 then some 0x15
  else none

/-- A refusal counted and sent (R241, R288). -/
def State.refuse (s : State) (f : Flit) (code : Nat) : State := (s.countRefuse code).respond f 0x32 code

/-- Core and offset behind a scratchpad window (R220, R241). -/
def scratchAt (w : InWin) (off : Nat) : Nat × Nat := (w.base % 64 * 16 + off / 2 ^ 20, off % 2 ^ 20)

/-- A range of a scratchpad window lies in the 16 scratchpads of its cluster. SIZE 1 covers 32 MiB and a cluster holds 16: the
spec names no code for the rest of the window, and it ends with TARGET (DESIGN CHOICE log 23). -/
def inScratch (w : InWin) (off n : Nat) : Bool := decide (w.base % 64 < 48) && decide (off + n ≤ 2 ^ 24)

/-- Bytes written behind a window; 0 or the code TARGET (R241). `fd` is the fabric die by which the request came in. -/
def State.winStore (s : State) (fd : Nat) (w : InWin) (off : Nat) (bs : List Byte) : State × Nat :=
  if w.scratch then
    let c := scratchAt w off
    if inScratch w off bs.length then (s.spadWrite c.1 c.2 bs, 0) else (s, 0x17)
  else
    let r := s.writeIpa fd w.part (w.base * 2 ^ 25 + off) bs (sectors bs.length)
    (r.1, if r.2 = 0 then 0 else 0x17)

/-- Bytes read behind a window; 0 or the code TARGET (R241). -/
def State.winLoad (s : State) (fd : Nat) (w : InWin) (off n : Nat) : State × Nat × List Byte :=
  if w.scratch then
    let c := scratchAt w off
    let p := s.poisonIn c.1 c.2 n
    if !inScratch w off n then (s, 0x17, [])
    else if p > 0 then (s.countPoison c.1 p, 0x17, [])
    else (s, 0, s.spadRead c.1 c.2 n)
  else
    let r := s.readIpa fd w.part (w.base * 2 ^ 25 + off) n (sectors n)
    if r.2.1 = 0 then (r.1, 0, r.2.2) else (r.1, 0x17, [])

/-- Key of a transaction at the lender. -/
def rxKey (f : Flit) : Nat := f.src * 65536 + f.tag

/-- One more accepted request on a window, or one fewer (R243). -/
def State.accept (s : State) (w : Nat) : State := s.setInWin w { s.inWin w with accepted := (s.inWin w).accepted + 1 }
def State.unaccept (s : State) (w : Nat) : State := s.setInWin w { s.inWin w with accepted := (s.inWin w).accepted - 1 }

/-- The contiguous runs of enabled bytes of a mask: first byte and length. -/
def maskRuns (mask i : Nat) : Nat → List (Nat × Nat)
  | 0 => []
  | fuel + 1 =>
    if i ≥ 32 then []
    else if bitAt mask i then
      let n := ((List.range (32 - i)).takeWhile fun k => bitAt mask (i + k)).length
      (i, n) :: maskRuns mask (i + n) fuel
    else maskRuns mask (i + 1) fuel

/-- The runs of a masked unit written. -/
def State.winStoreRuns (s : State) (fd : Nat) (w : InWin) (off : Nat) (body : List Byte) : List (Nat × Nat) → State × Nat
  | [] => (s, 0)
  | r :: rs =>
    match s.winStore fd w (off + r.1) ((body.drop r.1).take r.2) with
    | (s1, 0) => s1.winStoreRuns fd w off body rs
    | x => x

/-- A transaction refused from this flit on: one REFUSE, and a record until the last of its flits has come (R288). -/
def State.refuseTxn (s : State) (f : Flit) (t : RxTxn) (code : Nat) : State :=
  (s.setRxTxn (rxKey f) (if t.got + f.units ≥ t.total then none else
    some { t with got := t.got + f.units, refused := true, waiting := [] })).refuse f code

/-- The units of a write flit written; 0 or the code TARGET. -/
def State.takeFlit (s : State) (f : Flit) (w : InWin) : State × Nat :=
  if f.kind = 0x11 then s.winStoreRuns f.fd w f.offset f.body (maskRuns f.aux 0 33)
  else s.winStore f.fd w f.offset (f.body.take (32 * f.units))

/-- The units of an accepted write flit written; a failure at the home ends the transaction with TARGET. -/
def State.takeUnits (s : State) (f : Flit) (t : RxTxn) : State :=
  match s.takeFlit f (s.inWin t.window) with
  | (s1, 0) => s1.setRxTxn (rxKey f) (some { t with got := t.got + f.units })
  | (s1, code) => (s1.unaccept t.window).refuseTxn f t code

/-- The flits of a transaction judged once all have come, written in turn; the first failure ends it. -/
def State.takeHeld (s : State) (t : RxTxn) : List Flit → State
  | [] => s
  | f :: fs =>
    match s.takeFlit f (s.inWin t.window) with
    | (s1, 0) => s1.takeHeld t fs
    | (s1, code) => ((s1.setRxTxn (rxKey f) none).unaccept t.window).refuse f code

/-- A flit of a transaction whose range is not known yet: it waits, or with it the transaction is whole (R288, R291). -/
def State.waitUnits (s : State) (f : Flit) (t : RxTxn) : State :=
  let t1 : RxTxn := { t with got := t.got + f.units, waiting := t.waiting ++ [f] }
  if t1.got ≥ t.total then (s.setRxTxn (rxKey f) (some { t1 with waiting := [] })).takeHeld t t1.waiting
  else s.setRxTxn (rxKey f) (some t1)

/-- A window write flit at the lender (R241, R288): the whole transaction is judged at its first flit; flits of a refused one are
discarded. Flits may come in any order (R291), so where the first to come does not show that TOTAL units fit in the window, its flits
wait until one lies outside or all have come (DESIGN CHOICE log 23). Window 1,023 carries Curator messages (R338). -/
def State.lendWrite (s : State) (f : Flit) : State :=
  if f.window = 1023 then s
  else match s.rxTxn (rxKey f) with
  | some t =>
    if t.refused then s.setRxTxn (rxKey f) (if t.got + f.units ≥ t.total then none else some { t with got := t.got + f.units })
    else if f.offset + 32 * f.units > (s.inWin t.window).size * 2 ^ 25 then (s.unaccept t.window).refuseTxn f t 0x15
    else if t.waiting.isEmpty then s.takeUnits f t
    else s.waitUnits f t
  | none =>
    let w := s.inWin f.window
    let t : RxTxn := ⟨f.window, f.gen, w.part, f.total, 0, false, []⟩
    match w.check f.gen f.comp f.offset (32 * f.units) true with
    | some code => s.refuseTxn f t code
    | none =>
      if f.offset + 32 * f.total ≤ w.size * 2 ^ 25 then (s.accept f.window).takeUnits f t
      else (s.accept f.window).waitUnits f t

/-- WR (R241, R288). -/
def execWr (f : Flit) (s : State) : Out :=
  .next (if f.kind = 0x10 ∧ f.dst = s.reg bFAB then s.lendWrite f else s)

/-- WRM: one unit under a byte mask (R287). -/
def execWrm (f : Flit) (s : State) : Out :=
  .next (if f.kind = 0x11 ∧ f.units = 1 ∧ f.dst = s.reg bFAB then s.lendWrite f else s)

/-- RDATA flits of up to 7 units (R288). -/
def State.sendData (s : State) (f : Flit) (off : Nat) (bs : List Byte) : Nat → State
  | 0 => s
  | fuel + 1 =>
    if bs.isEmpty then s
    else
      let k := min 7 (bs.length / 32)
      (s.sendFlit { f with kind := 0x31, vc := 3, hops := 0, dst := f.src, src := s.reg bFAB, units := k, offset := off,
                           aux := 0, body := bs.take (32 * k) }).sendData f (off + 32 * k) (bs.drop (32 * k)) fuel

/-- RD (R241, R288): checked, served whole, answered with RDATA or REFUSE. -/
def execRd (f : Flit) (s : State) : Out :=
  .next (if f.kind ≠ 0x12 ∨ f.dst ≠ s.reg bFAB then s
    else
      let w := s.inWin f.window
      match w.check f.gen f.comp f.offset (32 * f.total) false with
      | some code => s.refuse f code
      | none =>
        match s.winLoad f.fd w f.offset (32 * f.total) with
        | (s1, 0, bs) => s1.sendData f f.offset bs (f.total + 1)
        | (s1, code, _) => s1.refuse f code)

/-- TRANSACTION_VISIBLE (R288): every unit is visible; one ACK leaves. -/
def execTransactionVisible (src : Fin 16384) (tag : Fin 65536) (s : State) : Out :=
  .next (match s.rxTxn (src * 65536 + tag) with
    | some t =>
      if !t.refused ∧ t.waiting.isEmpty ∧ t.got ≥ t.total then
        ((s.setRxTxn (src * 65536 + tag) none).unaccept t.window).sendFlit
          { kind := 0x30, vc := 3, hops := 0, dst := src, src := s.reg bFAB, comp := (s.inWin t.window).grantee, cepoch := 0,
            tag := tag, units := 0, total := t.total, window := t.window, gen := t.gen, offset := 0, aux := 0, body := [] }
      else s
    | none => s)

/-- WRITE_ABANDON (R290): a write that has not received all its units is given up without an ACK; its units stay. -/
def execWriteAbandon (src : Fin 16384) (tag : Fin 65536) (s : State) : Out :=
  .next (match s.rxTxn (src * 65536 + tag) with
    | some t =>
      if t.got ≥ t.total then s
      else
        let s1 := s.setRxTxn (src * 65536 + tag) none
        if t.refused then s1 else s1.unaccept t.window
    | none => s)

/-! The borrower -/

/-- A window read's data in hand, or refused: the transfer has one read fewer to wait for and runs once none is left. -/
def State.readEnded (s : State) (t : Txn) : State :=
  (s.modXfer t.engine t.core t.seq fun y => { y with reads := y.reads - 1 }).runIfFetched t.engine t.core t.seq

/-- The engine number that stands for a host SIGNAL descriptor. -/
def hostEngine : Nat := 2000

/-- The ADD of a remote signal has been acknowledged, or is lost: its step, transfer or host descriptor completes (R316,
R393). -/
def State.sigEnded (s : State) (t : Txn) (lost : Bool) : State :=
  if t.engine = hostEngine then (if lost then s.endDesc t.seq 2 3 else s.endDesc t.seq 0 0)
  else if t.engine ≥ 880 then s.stepDone t.core .sy t.seq
  else if t.core < 768 then s.stepDone t.core .xf t.seq else s

/-- ACK (R288, R289): the write's bytes are acknowledged, or the signal has arrived; held requests may leave (R291). -/
def execAck (f : Flit) (s : State) : Out :=
  .next (match (if f.kind = 0x30 then s.txn f.tag else none) with
    | none => s
    | some t =>
      if t.resting then s
      else
        let s1 := s.setTxn f.tag none
        match t.kind with
        | .write => (s1.modXfer t.engine t.core t.seq fun y =>
            { y with unacked := y.unacked - 1, bytes := y.bytes + t.len }).pumpWin
        | .sig => s1.sigEnded t false
        | .read => s)

/-- RDATA (R288): units stored at their window offset; the last one ends the transaction. -/
def execRdata (f : Flit) (s : State) : Out :=
  .next (match (if f.kind = 0x31 then s.txn f.tag else none) with
    | none => s
    | some t =>
      if t.resting ∨ t.kind ≠ .read then s
      else
        let s1 := s.modXfer t.engine t.core t.seq fun y =>
          { y with fetched := tblSetRun (fun _ => 0) y.fetched (t.entry * 2 ^ 42 + f.offset) (f.body.take (32 * f.units)) }
        let got := t.got + f.units
        if got ≥ unitsOf t.base t.len then ((s1.setTxn f.tag none).readEnded t).pumpWin
        else s1.setTxn f.tag (some { t with got := got }))

/-- A transaction ended without its effect: the WINDOW status for its transfer (R98, R240, R245). -/
def State.windowFailed (s : State) (t : Txn) : State :=
  match t.kind with
  | .write => (s.modXfer t.engine t.core t.seq fun y =>
      { y with unacked := y.unacked - 1, status := if y.status = 0 then stWindow else y.status }).pumpWin
  | .read =>
    ((s.modXfer t.engine t.core t.seq fun y =>
      { y with missing := y.missing ++ [(t.entry * 2 ^ 42 + t.base, t.len)] }).readEnded t).pumpWin
  | .sig => s.sigEnded t true

/-- REFUSE (R287, R289): the transaction ends with the lender's code, which the borrower counts (R241). -/
def execRefuse (f : Flit) (s : State) : Out :=
  .next (match (if f.kind = 0x32 then s.txn f.tag else none) with
    | none => s
    | some t => if t.resting then s else ((s.countRefuse (f.aux % 256)).setTxn f.tag none).windowFailed t)

/-- WINDOW_TIMEOUT (R245, R289): no response for 2 ms; the outbound entry is FAILED. A second timeout of the resting TAG,
2 ms later, frees it. -/
def execWindowTimeout (tag : Fin 65536) (s : State) : Out :=
  .next (match s.txn tag with
    | none => s
    | some t =>
      if t.resting then s.setTxn tag none
      else if t.kind = .sig then s
      else
        let o := s.outWin t.entry
        let s1 := ((s.setTxn tag (some { t with resting := true })).setOutWin t.entry { o with failed := true }).countRefuse 4
        let s2 := s1.ledgerPart 0x0201 o.part t.entry 4 0 0
        (s2.mbEvent o.part 5 (o.vwin * 2 ^ 48 + t.entry * 2 ^ 32 + o.target)).windowFailed t)

/-- OUTBOUND_OPEN (R242): the borrower's Curator writes the outbound entry of a window notice. -/
def execOutboundOpen (e : WindowId) (part : PartId) (target : Fin 16384) (window : WindowId) (gen : Fin 256) (size : Fin 65536)
    (vwin : WindowId) (r w : Bool) (s : State) : Out :=
  .next (s.setOutWin e ⟨true, false, r, w, part, size, gen, window, target, vwin, false⟩)

/-- WINDOW_REVOKE (R243, R244): REVOKING set on an open window. -/
def execWindowRevoke (w : WindowId) (s : State) : Out :=
  let i := s.inWin w
  .next (if i.valid then s.setInWin w { i with revoking := true } else s)

/-- REVOKE_DRAINED (R243): no accepted request remains; the entry closes, GEN rises, the borrower's Curator is told. -/
def execRevokeDrained (w : WindowId) (s : State) : Out :=
  let i := s.inWin w
  .next (if i.revoking ∧ i.accepted = 0 then
      (s.setInWin w { i with valid := false, revoking := false, gen := (i.gen + 1) % 256 }).emit (.curator i.borrower 1 w i.grantee)
    else s)

/-- OUTBOUND_CLEAR (R243): the outbound entry is cleared and the instance told. -/
def execOutboundClear (e : WindowId) (s : State) : Out :=
  let o := s.outWin e
  .next (if o.valid then
      (s.setOutWin e { o with valid := false }).mbEvent o.part 4 (o.vwin * 2 ^ 48 + e * 2 ^ 32 + o.target)
    else s)

end Sys2Proof.Machine
end

