-- ==== Sys2Proof/Machine/Sync.lean ====
section
/-! DEFINITION. Synchronisation objects: the operations applied at their home, waits and wakes, signals, the debugger and
the state dump (spec/12: R305 to R320). -/
namespace Sys2Proof.Machine

/-! Operations at the home (R308 to R311) -/

/-- The firing condition (R309). -/
def SyncObj.fires (o : SyncObj) : Bool :=
  decide (o.target % 2 ^ 24 ≤ o.count) && decide (Nat.max (o.target / 2 ^ 24) 1 ≤ o.waiters.length) && o.fault == 0

/-- Waiters released: a core's wake wire rises, a host WAIT completes with result 0x00 (R309, R312, R394). -/
def State.release (s : State) : List Waiter → State
  | [] => s
  | .core c w :: ws =>
    ((s.modCore c fun k => { k with released := true, wires := k.wires ||| 2 ^ w }).emit (.wake c w)).release ws
  | .host d :: ws => (s.endDesc d 0 0).release ws

/-- The firing condition tested after an operation: the object fires at most once (R309). -/
def State.objTest (s : State) (n : Nat) : State :=
  let o := s.obj n
  if o.fires then
    (s.setObj n { o with waiters := [], count := o.count - o.target % 2 ^ 24, fired := (o.fired + 1) % 65536 }).release o.waiters
  else s

/-- What a synchronisation fault reports: the count, a Ledger record, the instance's event, the launch's fault (R311).
Source kinds: 0 core step, 1 transfer or bucket, 2 remote SIG, 3 host descriptor. -/
def State.objReport (s : State) (n srcKind src : Nat) : State :=
  let o := s.obj n
  match o.owner with
  | none => s
  | some p =>
    let core := if srcKind = 0 then src else 0
    let s1 := (s.bump (bSYN + 0x10) 1).ledgerPart 0x0400 p n o.fault src o.vobj
    let s2 := s1.mbEvent p 6 (o.vobj * 2 ^ 44 + n * 2 ^ 24 + o.fault * 2 ^ 16 + srcKind * 2 ^ 14 + core)
    if (s2.part p).launch.isNone then s2
    else if srcKind = 0 then s2.seqFault src 5
    else s2.launchFault p 0xFFFFFFFF 5

/-- An object whose INIT exceeded MAX reports at the first touch (R307). -/
def State.objPrimed (s : State) (n srcKind src : Nat) : State :=
  if (s.obj n).primed then (s.setObj n { s.obj n with primed := false }).objReport n srcKind src else s

/-- An ADD applied at the home; 0 where it was, 1 where the object is or becomes faulted (R308, R311). -/
def State.objAdd (s : State) (n : Nat) (a : Int) (srcKind src : Nat) : State × Nat :=
  let o := s.obj n
  if o.fault ≠ 0 then (s.objPrimed n srcKind src, 1)
  else
    let v : Int := o.count + a
    if v < 0 then ((s.setObj n { o with fault := 1 }).objReport n srcKind src, 1)
    else if v > o.max then ((s.setObj n { o with fault := 2 }).objReport n srcKind src, 1)
    else ((s.setObj n { o with count := v.toNat, tsLast := s.now }).objTest n, 0)

/-- A JOIN applied at the home (R308); false where the object is faulted. -/
def State.objJoin (s : State) (n : Nat) (w : Waiter) (srcKind src : Nat) : State :=
  let o := s.obj n
  if o.fault ≠ 0 then s.objPrimed n srcKind src
  else if o.waiters.contains w then s
  else (s.setObj n { o with waiters := o.waiters ++ [w], tsLast := s.now }).objTest n

/-- The object is assigned to the partition of core `c` (R305). -/
def State.objOf (s : State) (n c : Nat) : Bool := (s.obj n).owner == some (s.core c).part

/-- OBJECT_ADD (R308): a step (0) or a transfer or bucket (1) of core `src` raises the object. -/
def execObjectAdd (n : ObjId) (amount : Fin 256) (srcKind : Fin 2) (src : CoreId) (s : State) : Out :=
  .next (if s.objOf n src then (s.objAdd n amount.val srcKind src).1 else s)

/-- OBJECT_JOIN (R309). -/
def execObjectJoin (n : ObjId) (c : CoreId) (wire : Fin 8) (s : State) : Out :=
  .next (if s.objOf n c ∧ (s.core c).waitObj = some n.val then s.objJoin n (.core c wire) 0 c else s)

/-! Steps (R312, R314) -/

/-- WAIT (R312): the core JOINs the object and gates its clocks. Its waiters lie on the object's module (R306). -/
def execWait (c : CoreId) (w : StepWord) (s : State) : Out :=
  .next (s.front c fun k =>
    match s.objRef c (fld w 119 100) with
    | none => s.seqFault c 5
    | some r =>
      if r.fid ≠ s.reg bFAB then s.seqFault c 5
      else
        (s.setCore c { k with st := .waiting, waitObj := some r.obj, wire := fld w 99 97, released := false, gated := true,
                              waitFrom := s.now, waitPeriod := s.pwr.period }).emit
          (.objJoin r.obj c (fld w 99 97)))

/-- WAKE (R312): the wire opens the gate; a core whose JOIN has not been released goes back to sleep. -/
def execWake (c : CoreId) (wire : Fin 8) (s : State) : Out :=
  .next (
    let k := s.core c
    if k.st ≠ .waiting then s
    else if k.released then
      s.setCore c { k with st := .running, waitObj := none, released := false, gated := false,
                           waitAcc := k.waitAcc + (s.now - k.waitFrom), wires := k.wires - (k.wires &&& 2 ^ wire.val) }.advance
    else s.bump (bSYN + 0x14) 1)

/-- SIGNAL (R314): the object is raised once the covered steps have completed. An AMOUNT of 0 is bad configuration (R7,
R116). -/
def execSignal (c : CoreId) (w : StepWord) (s : State) : Out :=
  if (s.core c).ready ∧ fld w 95 88 = 0 then .fault (.undefinedWithin "partition")
  else .next (
    let k := s.core c
    let s1 := s.issue c .sy fun s1 =>
      s1.modCore c fun k1 => { k1 with
        signals := k1.signals ++ [⟨k.seq, fld w 119 100, fld w 95 88, k.masked (fld w 99 96)⟩] }
    s1.raiseReady c (s1.core c).signals)

/-! SIG flits (R292, R316) -/

/-- The partition that holds a composition here. -/
def State.partOf (s : State) (comp : Nat) : Option Nat :=
  (List.range 32).find? fun p => (s.part p).st != .free && (s.part p).comp == comp

/-- SIG (R292, R316): checked against the composition, the object and the epoch; applied and acknowledged. -/
def execSig (f : Flit) (s : State) : Out :=
  .next (if f.kind ≠ 0x13 ∨ f.dst ≠ s.reg bFAB then s
    else
      let n := f.aux / 65536
      match s.partOf f.comp with
      | none => s.dropFlit 0x104
      | some p =>
        if (s.obj n).owner ≠ some p then s.dropFlit 0x104
        else if (s.part p).epoch % 65536 ≠ f.cepoch then s.dropFlit 0x100
        else ((s.objAdd n (f.aux / 256 % 256 : Nat) 2 0).1).respond f 0x30 0)

/-- SIG_ACK_TIMEOUT (R316): the signal completes all the same, and is counted lost. -/
def execSigAckTimeout (tag : Fin 65536) (s : State) : Out :=
  .next (match s.txn tag with
    | none => s
    | some t =>
      if t.kind ≠ .sig ∨ t.resting then s
      else
        let s1 := (s.bump (bSYN + 0xC) 1).ledger 0x0401 (srcOf3 0xFF 0 0) t.base tag t.entry
        (s1.setTxn tag (some { t with resting := true })).sigEnded t true)

/-! The debugger (R318, R319) -/

def kDbgObj (p : Nat) : Nat := bSYN + 0x1000 + 0x10 * p
def kDbgVal (p : Nat) : Nat := bSYN + 0x1004 + 0x10 * p
def kDbgStat (p : Nat) : Nat := bSYN + 0x100C + 0x10 * p

/-- The debugger's right to the object, or the result that refuses it (R318, R319). -/
def State.dbgRight (s : State) (fn p n : Nat) : Option Nat :=
  match (s.obj n).owner with
  | none => if fn = 0 then some 2 else some 1
  | some q =>
    if bitAt (s.part q).flags 1 then some 1
    else if fn ≠ 0 ∧ (q ≠ p ∨ !bitAt (s.reg (bSYN + 0x100 + 4 * p)) 0) then some 1
    else none

/-- A debugger command of function `fn` in the block of partition `p`: `f` answers a result and the state. A VF reaches
its own partition's block only (R331). -/
def State.dbg (s : State) (fn p : Nat) (f : Nat → SyncObj → Nat → State × Nat) : State :=
  if fn ≠ 0 ∧ fn ≠ p + 1 then s
  else
    let n := s.reg (kDbgObj p)
    match s.dbgRight fn p n with
    | some r => s.setReg (kDbgStat p) r
    | none => let r := f n (s.obj n) (s.reg (kDbgVal p)); r.1.setReg (kDbgStat p) r.2

/-- DBG_SET (R319). -/
def execDbgSet (fn : FnId) (p : PartId) (s : State) : Out :=
  .next (s.dbg fn p fun n o v =>
    if v > o.max then (s, 3) else ((s.setObj n { o with count := v, tsLast := s.now }).objTest n, 0))

/-- DBG_ADD (R319). -/
def execDbgAdd (fn : FnId) (p : PartId) (s : State) : Out :=
  .next (s.dbg fn p fun n o v =>
    let x : Int := o.count + signed 32 v
    if o.fault ≠ 0 then (s, 4)
    else if x < 0 ∨ x > o.max then (s, 3)
    else ((s.setObj n { o with count := x.toNat, tsLast := s.now }).objTest n, 0))

/-- DBG_RELEASE (R308, R319). -/
def execDbgRelease (fn : FnId) (p : PartId) (s : State) : Out :=
  .next (s.dbg fn p fun n o _ =>
    if o.fault ≠ 0 then (s, 4)
    else ((s.setObj n { o with waiters := [], fired := (o.fired + 1) % 65536, tsLast := s.now }).release o.waiters, 0))

/-- DBG_CLEAR_FAULT (R308, R319). -/
def execDbgClearFault (fn : FnId) (p : PartId) (s : State) : Out :=
  .next (s.dbg fn p fun n o _ =>
    ((s.setObj n { o with fault := 0, primed := false, tsLast := s.now }).objTest n, 0))

/-! The state dump (R320) -/

/-- An object record (Table 8). -/
def State.objRecord (s : State) (n : Nat) : List Byte :=
  let o := s.obj n
  toBytes 32 (n * 2 ^ 242 + b2n o.owner.isSome * 2 ^ 241 + o.owner.getD 0 * 2 ^ 236 + o.fault * 2 ^ 234 +
    o.waiters.length * 2 ^ 224 + o.count * 2 ^ 192 + o.target * 2 ^ 160 + o.max * 2 ^ 128 + o.fired * 2 ^ 112 +
    o.vobj * 2 ^ 88 + o.tsLast)

/-- STATE of SEQ_CORE_STATE (R139, Table 13). -/
def CoreSt.code : CoreSt → Nat
  | .idle => 0 | .running => 1 | .waiting => 2 | .stalled => 3 | .stopped => 4 | .done => 5 | .faulted => 6

/-- The core is on a waiter list. -/
def State.onList (s : State) (c : Nat) : Bool :=
  match (s.core c).waitObj with
  | none => false
  | some n => (s.obj n).waiters.any fun w => match w with
    | .core c' _ => c' == c
    | .host _ => false

/-- SEQ_CORE_STEP: the step index, with bit 31 in the variant section (R107, R139). -/
def Core.stepReg (k : Core) : Nat := k.step + (if k.inVar then 2 ^ 31 else 0)

/-- A core record (Table 9). -/
def State.coreRecord (s : State) (c : Nat) : List Byte :=
  let k := s.core c
  toBytes 16 (c * 2 ^ 118 + k.st.code * 2 ^ 114 + b2n (s.onList c) * 2 ^ 113 + k.wire * 2 ^ 110 +
    k.waitObj.getD 0 * 2 ^ 96 + k.stepReg * 2 ^ 64 + k.rbseq * 2 ^ 32)

/-- The whole dump: header, objects, cores; one instant for all of them (log 29). -/
def State.dump (s : State) : List Byte :=
  toBytes 64 (0x53594E44 + (16384 * 2 ^ 16 + 768) * 2 ^ 32 + s.now * 2 ^ 64 + s.now * 2 ^ 128) ++
    (List.range 16384).flatMap s.objRecord ++ (List.range 768).flatMap s.coreRecord

def kDumpCtrl : Nat := bSYN + 8

/-- STATE_DUMP (R320): GO written; ignored while GO is 1. -/
def execStateDump (s : State) : Out :=
  .next (if bitAt (s.reg kDumpCtrl) 0 then s
    else (s.setReg kDumpCtrl 1).hostWrite 0 (s.reg bSYN / 4096 * 4096) s.dump)

/-- STATE_DUMP_END (R320): the writes are done, or one has failed. -/
def execStateDumpEnd (ok : Bool) (s : State) : Out :=
  .next (if bitAt (s.reg kDumpCtrl) 0 then s.setReg kDumpCtrl (if ok then 2 else 2 ^ 31) else s)

end Sys2Proof.Machine
end

