-- ==== Sys2Proof/Machine/Global.lean ====
section
/-! DEFINITION. Global operations: GLOBAL steps, tree nodes, GOP flits, sums in canonical order, block maps and the
consistent snapshot (spec/12: R321 to R327; spec/06: R151 to R154). -/
namespace Sys2Proof.Machine

/-! Payloads -/

/-- Bytes of an operand's row and of its scale plane row. -/
def payRow (d : Desc) : Nat := match fmtOf d.fmt with
  | some f => d.rowLen f
  | none => 0
def payScale (d : Desc) : Nat := match fmtOf d.fmt with
  | some f => d.scaleLen f
  | none => 0

/-- The byte runs of a payload: its rows, then its scale plane. -/
def payRuns (d : Desc) : List (Nat × Nat) :=
  ((List.range d.rows).map fun r => (d.base + r * d.stride, payRow d)) ++
    (if payScale d = 0 then [] else [(d.planeAddr, d.rows * payScale d)])

/-- A run read for core `c`; the fault code of the sequencer, or 0. -/
def State.payRead (s : State) (c : Nat) (d : Desc) (r : Nat × Nat) : State × Nat × List Byte :=
  if d.space = 1 then
    let p := s.poisonIn (r.1 / 2 ^ 20) (r.1 % 2 ^ 20) r.2
    if p > 0 then (s.countPoison c p, 2, []) else (s, 0, s.spadRead (r.1 / 2 ^ 20) (r.1 % 2 ^ 20) r.2)
  else
    match s.readVa (112 + c) (s.core c).part r.1 r.2 (sectors r.2) with
    | (s1, 0, bs) => (s1, 0, bs)
    | (s1, 8, _) => (s1, 2, [])
    | (s1, _, _) => (s1, 7, [])

/-- A run written for core `c`. -/
def State.payWrite (s : State) (c : Nat) (d : Desc) (a : Nat) (bs : List Byte) : State :=
  if bs.isEmpty then s
  else if d.space = 1 then s.spadWrite (a / 2 ^ 20) (a % 2 ^ 20) bs
  else (s.writeVa (112 + c) (s.core c).part a bs (sectors bs.length)).1

/-- A whole payload read. -/
def State.payReads (s : State) (c : Nat) (d : Desc) : List (Nat × Nat) → State × Nat × List Byte
  | [] => (s, 0, [])
  | r :: rs =>
    match s.payRead c d r with
    | (s1, 0, bs) =>
      let x := s1.payReads c d rs
      (x.1, x.2.1, bs ++ x.2.2)
    | x => x

/-- 32-bit words of a byte string, the last one padded with zero. -/
def wordsOf : List Byte → Nat → List (Option Nat)
  | _, 0 => []
  | [], _ => []
  | bs, fuel + 1 => some (ofBytes (bs.take 4)) :: wordsOf (bs.drop 4) fuel

/-- The bytes of words with what each byte position holds; absent words give none. -/
def bytesOf (ws : List (Option Nat)) : List (Option Byte) :=
  ws.flatMap fun w => match w with
    | some v => (toBytes 4 v).map some
    | none => [none, none, none, none]

/-- The present bytes at the head of a list. -/
def headBytes : List (Option Byte) → List Byte
  | some b :: bs => b :: headBytes bs
  | _ => []

/-- Present bytes written at an address, skipping the absent ones. -/
def State.paySparse (s : State) (c : Nat) (d : Desc) (a : Nat) (bs : List (Option Byte)) : Nat → State
  | 0 => s
  | fuel + 1 =>
    match bs with
    | [] => s
    | none :: _ =>
      let k := (bs.takeWhile fun b => b.isNone).length
      s.paySparse c d (a + k) (bs.drop k) fuel
    | some _ :: _ =>
      let h := headBytes bs
      (s.payWrite c d a h).paySparse c d (a + h.length) (bs.drop h.length) fuel

/-- A result written over the runs of a payload. -/
def State.payStore (s : State) (c : Nat) (d : Desc) (bs : List (Option Byte)) : List (Nat × Nat) → State
  | [] => s
  | r :: rs => (s.paySparse c d r.1 (bs.take r.2) (2 * r.2 + 1)).payStore c d (bs.drop r.2) rs

/-! Sums (R62, R63, R326) -/

/-- FP32 addition with RNE. -/
def addF32 (a b : Nat) : Nat := encRne fFp32 (addV (decFloat fFp32 a) (decFloat fFp32 b))

/-- Two contributions of an element; an absent one is skipped (R152). -/
def addOpt : Option Nat → Option Nat → Option Nat
  | some a, some b => some (addF32 a b)
  | some a, none => some a
  | none, b => b

/-- Two payloads added element by element. -/
def addWords : List (Option Nat) → List (Option Nat) → List (Option Nat)
  | [], ys => ys
  | xs, [] => xs
  | x :: xs, y :: ys => addOpt x y :: addWords xs ys

/-- Payloads added one after the other. -/
def addAll : List (List (Option Nat)) → List (Option Nat)
  | [] => []
  | x :: xs => xs.foldl addWords x

/-- The partials of one level and run, by index (R326); a prefix partial stands at the last entry folded into it. -/
def runParts (ps : List Partial) (level j : Nat) : List Partial :=
  (List.range 48).flatMap fun i => ps.filter fun x => x.level == level && x.index == 48 * j + i

/-- A run of one level added in order, as a partial of the next level; a run with no contributions gives none (R326). -/
def addRun (ps : List Partial) (level j : Nat) : List Partial :=
  let xs := runParts ps level j
  if xs.isEmpty then [] else [⟨none, level + 1, false, j, addAll (xs.map (·.words))⟩]

/-- The canonical tree over the partials of a level of `n` entries and of those above it, each partial taken at the level its
label gives (R326). -/
def canonical (ps : List Partial) (level n : Nat) : Nat → List (Option Nat)
  | 0 => []
  | fuel + 1 =>
    if n ≤ 1 then addAll ((ps.filter fun x => x.level == level).map (·.words))
    else canonical (ps ++ (List.range (ceilDiv n 48)).flatMap (addRun ps level)) (level + 1) (ceilDiv n 48) fuel

/-- Whether a node holds every entry of run `j` of a level of `n` entries (R326). -/
def runWhole (ps : List Partial) (level n j : Nat) : Bool :=
  (List.range (min 48 (n - 48 * j))).all fun i => ps.any fun x => x.level == level && !x.pre && x.index == 48 * j + i

/-- What a node below the root sends up under R62: each run it holds whole added, level by level, and every other partial
unchanged (R326). -/
def foldRuns (ps : List Partial) (level n : Nat) : Nat → List Partial
  | 0 => ps
  | fuel + 1 =>
    if n ≤ 1 then ps
    else
      let js := (List.range (ceilDiv n 48)).filter (runWhole ps level n)
      foldRuns ((ps.filter fun x => !(x.level == level && js.contains (x.index / 48))) ++ js.flatMap (addRun ps level))
        (level + 1) (ceilDiv n 48) fuel

/-- Words added into a payload at a word offset. -/
def addAt (ws : List (Option Nat)) (off : Nat) (new : List (Option Nat)) : List (Option Nat) :=
  addWords ws (List.replicate off none ++ new)

/-! The group in the image (R105, R124) -/

/-- Key of a group's tree node. -/
def treeKey (p g : Nat) : Nat := p * 65536 + g

/-- A virtual cluster has a core that is not idle (R105). -/
def clusterBusy (im : List Byte) (v : Nat) : Bool :=
  (List.range 16).any fun j => imgField im (secOff im 0 + 16 * (16 * v + j)) 2 != 0xFFFF

/-- Position of virtual cluster `v` among the member clusters of group `g` (R326). -/
def clusterPos (im : List Byte) (g v : Nat) : Nat :=
  let first := imgField im (secOff im 8 + 16 * g + 4) 4
  ((List.range (v - first)).filter fun i => clusterBusy im (first + i)).length

/-- The member clusters of a group. -/
def clusterCount (im : List Byte) (g : Nat) : Nat :=
  let o := secOff im 8 + 16 * g
  ((List.range (imgField im (o + 8) 4)).filter fun i => clusterBusy im (imgField im (o + 4) 4 + i)).length

/-- DETSUM (R62, R102). -/
def detSum (im : List Byte) : Bool := bitAt (imgField im 5 1) 0

/-! Block maps (R151, R152) -/

/-- Blocks of a payload. -/
def blockCount (d : Desc) : Nat := d.rows / 64 * (d.elems / 64)

/-- The flag of the block that holds byte `i` of a payload, rows first; the scale bytes of a block go with it (R151). -/
def byteFlag (d : Desc) (m : List Bool) (i : Nat) : Bool :=
  let across := max 1 (d.elems / 64)
  let lead := d.rows * payRow d
  let len := if i < lead then payRow d else payScale d
  let k := if i < lead then i else i - lead
  nth false m (k / max 1 len / 64 * across + k % max 1 len / max 1 (len / across))

/-- A payload with only its flagged blocks; a word goes with any byte of it that is flagged. -/
def maskWords (d : Desc) (m : List Bool) (ws : List (Option Nat)) : List (Option Nat) :=
  ws.zipIdx.map fun x => if (List.range 4).any fun j => byteFlag d m (4 * x.2 + j) then x.1 else none

/-- The bytes of a payload whose elements are all +0, rows first. -/
def payZero (d : Desc) : List Byte :=
  (match fmtOf d.fmt with
    | some f => (List.replicate d.rows (zeroBytes f d.elems)).flatten
    | none => []) ++ List.replicate (d.rows * payScale d) 0

/-- The result a destination writes (R152): flagged blocks, and +0 in the others where ZERO_UNSENT is 1. -/
def mapResult (d : Desc) (m : List Bool) (zero : Bool) (bs : List (Option Byte)) : List (Option Byte) :=
  (payZero d).zipIdx.map fun x => if byteFlag d m x.2 then nth none bs x.2 else if zero then some x.1 else none

/-- Two maps joined. -/
def orMap : List Bool → List Bool → List Bool
  | [], ys => ys
  | xs, [] => xs
  | x :: xs, y :: ys => (x || y) :: orMap xs ys

/-- The bits of a block map list of core `c`. -/
def State.readMap (s : State) (c off n : Nat) : List Bool :=
  (List.range n).map fun j => bitAt (s.spadWord c (off + 16 + 4 * (j / 32))) (j % 32)

/-- A map as the list that travels: the header and the bitmap (R140, R151). -/
def mapBytes (m : List Bool) (zero : Bool) : List Byte :=
  toBytes 4 (4 * 2 ^ 24 + m.length) ++ toBytes 4 (b2n zero) ++ toBytes 8 0 ++
    toBytes (4 * ceilDiv m.length 32) (m.zipIdx.map fun x => b2n x.1 * 2 ^ x.2).sum

/-- Map bits of a flit body that starts at a byte offset of the list, at their places; none where the offset lies in the header. -/
def mapBits (off : Nat) (body : List Byte) : List Bool :=
  let bs := body.drop (16 - off)
  List.replicate (8 * (off - 16)) false ++ (List.range (8 * bs.length)).map fun j => bitAt (nth 0 bs (j / 8)).toNat (j % 8)

/-! GOP flits (R323, R326) -/

/-- A GOP flit for a tree edge. -/
def State.gop (s : State) (p tree op dir seq link label idx units off : Nat) (body : List Byte) : State :=
  let q := s.part p
  let fid := match (s.lnk link).hello with
    | some h => h.fid
    | none => 0x3FFF
  s.queueOn link <| Flit.sealed
    { kind := 0x20, vc := 6, hops := 0, dst := fid, src := s.reg bFAB, comp := q.comp, cepoch := q.epoch % 65536,
      tag := idx % 65536, units := units, total := 0, window := label * 64 + idx / 65536 % 16, gen := 0, offset := off,
      aux := tree * 65536 + op * 4096 + dir * 256 + seq % 256, body := body }

/-- Words cut into flits of up to 7 consecutive units that hold a present word: byte offset and bytes. -/
def unitRuns (off : Nat) (ws : List (Option Nat)) : Nat → List (Nat × List Byte)
  | 0 => []
  | fuel + 1 =>
    if ws.isEmpty then []
    else if (ws.take 8).all fun w => w.isNone then unitRuns (off + 32) (ws.drop 8) fuel
    else
      let k := ((List.range 7).takeWhile fun i => (ws.drop (8 * i)).take 8 |>.any fun w => w.isSome).length
      let part := ws.take (8 * k)
      let bytes := part.flatMap fun w => toBytes 4 (w.getD 0)
      (off, bytes ++ List.replicate (32 * k - bytes.length) 0) :: unitRuns (off + 32 * k) (ws.drop (8 * k)) fuel

/-- Flits of one partial or of the result on an edge. -/
def State.gopWords (s : State) (p tree op dir seq link label idx : Nat) : List (Nat × List Byte) → State
  | [] => s
  | x :: xs => (s.gop p tree op dir seq link label idx (x.2.length / 32) x.1 x.2).gopWords p tree op dir seq link label idx xs

/-- The runs of a payload. -/
def runsOf (ws : List (Option Nat)) : List (Nat × List Byte) := unitRuns 0 ws (ws.length + 1)

/-- The map on an edge. -/
def State.gopMap (s : State) (p tree op dir seq link : Nat) (m : Option (List Bool)) (zero : Bool) : State :=
  match m with
  | none => s
  | some bs => s.gopWords p tree op (dir + 8) seq link 0 0 (runsOf (wordsOf (mapBytes bs zero) (bs.length + 8)))

/-- Partials on an edge. -/
def State.gopPartials (s : State) (p tree op dir seq link : Nat) : List Partial → State
  | [] => s
  | x :: xs =>
    (s.gopWords p tree op dir seq link (x.level * 2 + b2n x.pre) x.index (runsOf x.words)).gopPartials p tree op dir seq link xs

/-! The node -/

/-- The virtual cluster sums of the members here: position and sum, in virtual order (R326). -/
def memberSums (im : List Byte) (g : Nat) (cs : List Contrib) (vs : List Nat) : List (Nat × List (Option Nat)) :=
  vs.filterMap fun v =>
    let mine := (List.range 16).flatMap fun j => (cs.filter fun c => c.vcore == 16 * v + j).map (·.words)
    if mine.isEmpty then none else some (clusterPos im g v, addAll mine)

/-- Virtual clusters that contribute here, rising. -/
def contribClusters (cs : List Contrib) (im : List Byte) (g : Nat) : List Nat :=
  let o := secOff im 8 + 16 * g
  ((List.range (imgField im (o + 8) 4)).map (imgField im (o + 4) 4 + ·)).filter fun v => cs.any fun c => c.vcore / 16 == v

/-- The partials a node holds under R62: the sums of its own virtual clusters and what its children sent (R326). -/
def heldPartials (im : List Byte) (g : Nat) (n : TreeNode) : List Partial :=
  (memberSums im g n.contribs (contribClusters n.contribs im g)).map (fun x => ⟨none, 0, false, x.1, x.2⟩) ++ n.partials

/-- What a node below the root sends up: under R62 its partials with whole runs added, else its sum in arrival order, labelled
LEVEL = 7 (R63, R326). -/
def nodePartials (im : List Byte) (g : Nat) (n : TreeNode) : List Partial :=
  if detSum im then foldRuns (heldPartials im g n) 0 (clusterCount im g) 5 else [⟨none, 7, false, 0, n.sum⟩]

/-- The result at the root (R325, R326). -/
def rootResult (im : List Byte) (g : Nat) (n : TreeNode) : List (Option Nat) :=
  if n.kind = 1 then
    match n.contribs.find? fun c => c.vcore == n.root with
    | some c => c.words
    | none => []
  else if n.kind = 2 then
    if detSum im then canonical (heldPartials im g n) 0 (clusterCount im g) 5 else n.sum
  else []

/-- An image of the running launch of a partition. -/
def State.launchImage (s : State) (p : Nat) : List Byte :=
  match (s.part p).launch with
  | some l => match tblGet (fun _ => none) (s.part p).images l.slot with
    | some im => im.bytes
    | none => []
  | none => []

/-- A member core's result written, and its step listed as ready to complete (R321). -/
def State.memberDone (s : State) (g : Nat) (n : TreeNode) (c : Contrib) : State :=
  let ws := match n.map with
    | some m => mapResult c.desc m n.zeroUnsent (bytesOf n.result)
    | none => bytesOf n.result
  let writes := n.kind == 2 || (n.kind == 1 && c.vcore != n.root)
  let s1 := if writes then s.payStore c.core c.desc ws (payRuns c.desc) else s
  s1.modCore c.core fun k => { k with syDone := k.syDone ++ [(c.seq, c.obj, g)] }

/-- Every member's result written. -/
def State.membersDone (s : State) (g : Nat) (n : TreeNode) : List Contrib → State
  | [] => s
  | c :: cs => (s.memberDone g n c).membersDone g n cs

/-- A node at rest before its next operation. -/
def TreeNode.next (n : TreeNode) : TreeNode :=
  { n with seq := (n.seq + 1) % 256, live := false, contribs := [], childDone := [], partials := [], sum := [], map := none,
           zeroUnsent := false, result := [], noTime := false, upSent := false, cut := none, late := false }

/-! Snapshot records (R327, Table 11) -/

/-- COUNT of cluster-scope object `i` of cluster `k`; zero where the partition declares none. -/
def State.clusterCountOf (s : State) (p k i : Nat) : Nat :=
  let o := s.obj (0x100 * k + i)
  if o.owner = some p ∧ o.vobj ≠ 0xFFFFF then o.count else 0

/-- The (number, COUNT) pairs of the device-scope objects homed here, by virtual number. -/
def State.devicePairs (s : State) (p slot : Nat) : List Byte :=
  ((s.part p).dobj.filter fun e => decide (e.1 / 2 ^ 20 = slot)).flatMap fun e =>
    match e.2 with
    | some r => if r.fid = s.reg bFAB then toBytes 4 (0x80000 + e.1 % 2 ^ 20) ++ toBytes 4 (s.obj r.obj).count else []
    | none => []

/-- The record of one member core. -/
def State.snapRecord (s : State) (p : Nat) (n : TreeNode) (t : Nat) (c : Contrib) : List Byte :=
  let k := s.core c.core
  let mates := n.contribs.filter fun x => x.vcore / 16 == c.vcore / 16
  let lowest := mates.all fun x => decide (c.vcore ≤ x.vcore)
  let first := n.contribs.all fun x => decide (c.vcore ≤ x.vcore)
  let o := match k.waitObj with
    | some i => s.obj i
    | none => SyncObj.reset
  let tail := (if lowest then (List.range 256).flatMap fun i => toBytes 4 (s.clusterCountOf p (c.core / 16) i) else []) ++
    (if first then s.devicePairs p k.slot else [])
  let need := 64 + tail.length
  let room := c.desc.rows * payRow c.desc
  toBytes 8 t ++ toBytes 4 (1 + 2 * b2n n.noTime + 4 * b2n n.late + 8 * b2n (decide (room < need))) ++
    toBytes 4 k.stepReg ++ toBytes 4 k.rbseq ++ toBytes 4 k.iteration ++ toBytes 4 k.st.code ++
    toBytes 4 (if k.waitObj.isSome then o.vobj else 0xFFFFF) ++ toBytes 4 o.count ++ toBytes 4 o.fired ++ toBytes 24 0 ++ tail

/-- The records of the members, taken from one state. -/
def State.snapStore (s0 : State) (p : Nat) (n : TreeNode) (t : Nat) (s : State) : List Contrib → State
  | [] => s
  | c :: cs => s0.snapStore p n t (s.payStore c.core c.desc ((s0.snapRecord p n t c).map some) (payRuns c.desc)) cs

/-! Progress -/

/-- The core has an operation in progress on a group: it has contributed, and its step has not completed (R322). -/
def Core.inGroup (k : Core) (c g : Nat) (n : TreeNode) : Bool :=
  n.contribs.any (fun x => x.core == c) || k.syDone.any fun d => d.2.2 == g

/-- GLOBAL steps whose group has no operation of the core in progress, started in SY order (R108, R322): payload and map
are read, and the contribution joins its node. At most 64 trees are live. -/
def State.startGlobals (s : State) (c : Nat) : Nat → State
  | 0 => s
  | fuel + 1 =>
    let k := s.core c
    match k.syWait with
    | [] => s
    | g :: gs =>
      let key := treeKey k.part g.group
      let n := s.tree key
      let live := (s.trees.filter fun e => e.2.live).length
      if k.inGroup c g.group n || (!n.live && decide (live ≥ 64)) then s
      else
        let off := match g.mapDesc with
          | some d => d.off
          | none => 0
        let mapOk := match g.mapDesc with
          | some d => s.listOk c d 4 (ceilDiv (blockCount g.desc) 32) && s.listEntries c d.off == blockCount g.desc
          | none => true
        if !mapOk then s.seqFault c 1
        else
          let m := g.mapDesc.map fun _ => s.readMap c off (blockCount g.desc)
          match (if g.kind = 2 ∨ (g.kind = 1 ∧ k.vcore = n.root) then s.payReads c g.desc (payRuns g.desc) else (s, 0, [])) with
          | (s1, 0, bs) =>
            let ws := wordsOf bs (bs.length + 1)
            let sent := match m with
              | some bits_ => maskWords g.desc bits_ ws
              | none => ws
            let skipped := match m with
              | some bits_ => (bits_.filter fun b => !b).length
              | none => 0
            let x : Contrib := ⟨c, k.vcore, g.seq, g.desc, g.obj, sent, m, bitAt (s.spadWord c (off + 4)) 0⟩
            let s2 := (s1.modCore c fun k => { k with syWait := gs }).bump64 (spReg (c / 16) 8) skipped
            ((s2.setTree key { n with live := true, kind := if n.live then n.kind else g.kind, contribs := n.contribs ++ [x],
                                      sum := if g.kind = 2 then addWords n.sum sent else n.sum,
                                      noTime := n.noTime || (g.kind == 3 && !s.timeValid) }).raiseReady c (s2.core c).signals).startGlobals c fuel
          | (s1, code, _) => s1.seqFault c code

/-- The result goes down every child edge (R324, R325). -/
def State.sendDown (s : State) (p g : Nat) (n : TreeNode) (body : List (Option Nat)) : List Nat → State
  | [] => s
  | l :: ls =>
    let s1 := s.gopMap p g n.kind 2 n.seq l n.map n.zeroUnsent
    let s2 := s1.gopWords p g n.kind 2 n.seq l 0 0 (runsOf body)
    (s2.gop p g n.kind 6 n.seq l 0 0 0 0 []).sendDown p g n body ls

/-- An operation over at a node: the members' steps may complete, the node waits for its next operation. -/
def State.nodeOver (s : State) (key : Nat) (n : TreeNode) : State :=
  (s.membersDone (key % 65536) n n.contribs).setTree key n.next

/-- The snapshot latched: records written, the operation over (R327). -/
def State.latch (s : State) (p key : Nat) (n : TreeNode) (t : Nat) : State :=
  (s.snapStore p n t s n.contribs).nodeOver key n

/-- The unit of a snapshot's down flit: T and NOTIME (R327). -/
def cutWords (t : Nat) (noTime : Bool) : List (Option Nat) :=
  [some (t % 2 ^ 32), some (t / 2 ^ 32), some (b2n noTime), some 0, some 0, some 0, some 0, some 0]

/-- The up phase is complete at a node: every member has contributed and every child has sent its LAST up flit. -/
def TreeNode.upReady (n : TreeNode) : Bool :=
  n.live && !n.upSent && n.members.all (fun m => n.contribs.any fun c => c.core == m.1) &&
    n.children.all fun l => n.childDone.contains l

/-- The map of the operation at this node (R152): of a reduce-add, the OR of its members' maps and its children's; of a
broadcast, whose only contributor is ROOT_VCORE, that member's. -/
def nodeMap (n : TreeNode) : Option (List Bool) :=
  if n.kind = 1 then (n.contribs.find? fun c => c.vcore == n.root).bind (·.map)
  else
    let own := n.contribs.filterMap (·.map)
    match (match n.map with
      | some m => [m.take (match n.contribs with
        | c :: _ => blockCount c.desc
        | [] => m.length)]
      | none => []) ++ own with
    | [] => none
    | x :: xs => some (xs.foldl orMap x)

/-- What a node does once its up phase is complete (R324 to R327). -/
def State.nodeGo (s : State) (p g : Nat) : State :=
  let key := treeKey p g
  let n0 := s.tree key
  if !n0.upReady then s
  else
    let im := s.launchImage p
    let n := { n0 with map := nodeMap n0 }
    match n.parent with
    | some l =>
      let s1 := s.gopMap p g n.kind 1 n.seq l n.map false
      let s2 :=
        if n.kind = 2 then (s1.gopPartials p g 2 1 n.seq l (nodePartials im g n)).gop p g 2 5 n.seq l 0 0 0 0 []
        else if n.kind = 3 then s1.gop p g 3 5 n.seq l 0 0 1 0 (toBytes 32 (b2n n.noTime))
        else s1.gop p g n.kind 5 n.seq l 0 0 0 0 []
      s2.setTree key { n with upSent := true }
    | none =>
      let z := match n.contribs.find? fun c => c.vcore == n.root with
        | some c => c.zeroUnsent
        | none => false
      if n.kind = 3 then
        let alone := n.children.isEmpty
        let t := if alone then s.now else s.now + 150 + n.levels * (500 + Config.cableDelay)
        let n1 := { n with upSent := true, cut := some t, noTime := n.noTime && !alone }
        let s1 := s.sendDown p g n1 (cutWords t n1.noTime) n.children
        if alone then s1.latch p key n1 t else s1.setTree key n1
      else
        let n1 := { n with upSent := true, zeroUnsent := z, result := rootResult im g n }
        (s.sendDown p g n1 n1.result n.children).nodeOver key n1

/-- The nodes of the groups `gs` driven on. -/
def State.nodesGo (s : State) (p : Nat) : List Nat → State
  | [] => s
  | g :: gs => (s.nodeGo p g).nodesGo p gs

/-- GLOBAL steps of the cores `cs` that can start now (R322), and their nodes driven on. -/
def State.wakeGlobals (s : State) : List Nat → State
  | [] => s
  | c :: cs =>
    ((s.startGlobals c 33).nodesGo (s.core c).part ((s.core c).syWait.map (·.group))).wakeGlobals cs

/-- The cores with GLOBAL steps that have not started (R322). -/
def State.globalWaiters (s : State) : List Nat := (s.cores.filter fun e => !e.2.syWait.isEmpty).map (·.1)

/-- A node driven on after something has reached it; the end of its operation may let other steps start (R322). -/
def State.nodeRun (s : State) (p g : Nat) : State :=
  let s1 := s.nodeGo p g
  if (s1.tree (treeKey p g)).live then s1 else s1.wakeGlobals s1.globalWaiters

/-! GOP (R323 to R327) -/

/-- Words placed at a word offset of a payload. -/
def putWords (ws : List (Option Nat)) (off : Nat) (new : List (Option Nat)) : List (Option Nat) :=
  let base := ws ++ List.replicate (off + new.length - ws.length) none
  base.take off ++ new ++ base.drop (off + new.length)

/-- A partial's words received from a child. -/
def putPartial (link level : Nat) (pre : Bool) (index off : Nat) (new : List (Option Nat)) : List Partial → List Partial
  | [] => [⟨some link, level, pre, index, putWords [] off new⟩]
  | x :: xs =>
    if x.link = some link ∧ x.level = level ∧ x.pre = pre ∧ x.index = index then { x with words := putWords x.words off new } :: xs
    else x :: putPartial link level pre index off new xs

/-- A GOP flit of the operation in progress, or of the next one, taken by its node. -/
def State.gopTake (s : State) (p link : Nat) (f : Flit) : State :=
  let g := f.aux / 65536
  let key := treeKey p g
  let n := s.tree key
  let dir := f.aux / 256 % 16
  let last := bitAt dir 2
  let isMap := bitAt dir 3
  let op := f.aux / 4096 % 16
  let ws := wordsOf (f.body.take (32 * f.units)) (8 * f.units)
  if dir % 4 = 1 then
    if !n.children.contains link then s.bump (bSYN + 0x18) 1
    else
      let n1 := { n with live := true, kind := if n.live then n.kind else op }
      let n2 :=
        if isMap then { n1 with map := some (orMap (n1.map.getD []) (mapBits f.offset f.body)) }
        else if op = 3 then { n1 with noTime := n1.noTime || (decide (f.units > 0) && bitAt (nth 0 f.body 0).toNat 0) }
        else if f.units = 0 then n1
        else if f.window / 128 % 8 = 7 then { n1 with sum := addAt n1.sum (f.offset / 4) ws }
        else
          let ps := putPartial link (f.window / 128 % 8) (bitAt f.window 6) (f.window % 16 * 65536 + f.tag) (f.offset / 4) ws n1.partials
          { n1 with partials := ps }
      let n3 := if last then { n2 with childDone := n2.childDone ++ [link] } else n2
      (s.setTree key n3).nodeRun p g
  else if dir % 4 = 2 then
    if n.parent ≠ some link ∨ !n.upSent then s.bump (bSYN + 0x18) 1
    else
      let s1 := n.children.foldl (fun s l => s.gop p g op dir n.seq l 0 0 f.units f.offset f.body) s
      if op = 3 ∧ f.units > 0 then
        let t := ofBytes (f.body.take 8)
        let n1 := { n with cut := some t, noTime := bitAt (nth 0 f.body 8).toNat 0, late := decide (s.now > t) }
        if s.now > t then (s1.latch p key n1 t).nodeRun p g else s1.setTree key n1
      else
        let n1 :=
          if isMap then
            { n with map := some (orMap (if f.offset = 0 then [] else n.map.getD []) (mapBits f.offset f.body)),
                     zeroUnsent := if f.offset = 0 then bitAt (nth 0 f.body 4).toNat 0 else n.zeroUnsent }
          else if f.units = 0 then n else { n with result := putWords n.result (f.offset / 4) ws }
        if last ∧ op ≠ 3 then (s1.nodeOver key n1).nodeRun p g else s1.setTree key n1
  else s.bump (bSYN + 0x18) 1

/-- Held flits that name the operation the node has reached. -/
def State.gopHeld (s : State) (p g : Nat) : List (Nat × Flit) → State
  | [] => s
  | x :: xs =>
    if x.2.aux % 256 = (s.tree (treeKey p g)).seq then (s.gopTake p x.1 x.2).gopHeld p g xs
    else
      let s1 := s.gopHeld p g xs
      s1.setTree (treeKey p g) { s1.tree (treeKey p g) with held := x :: (s1.tree (treeKey p g)).held }

/-- The held flits of a node that has reached their operation (R324). -/
def State.gopDrain (s : State) (p g : Nat) : State :=
  let n := s.tree (treeKey p g)
  if n.held.any fun x => x.2.aux % 256 == n.seq then (s.setTree (treeKey p g) { n with held := [] }).gopHeld p g n.held else s

/-- A GOP flit checked under R292 and R324, then taken, held or dropped. -/
def State.gopCheck (s : State) (link : Nat) (f : Flit) : State :=
  match s.partOf f.comp with
  | none => s.dropFlit 0x104
  | some p =>
    if (s.part p).epoch % 65536 ≠ f.cepoch then s.dropFlit 0x100
    else
      let g := f.aux / 65536
      let n := s.tree (treeKey p g)
      if f.aux % 256 = n.seq then (s.gopTake p link f).gopDrain p g
      else if f.aux % 256 = (n.seq + 1) % 256 then s.setTree (treeKey p g) { n with held := n.held ++ [(link, f)] }
      else s.bump (bSYN + 0x18) 1

/-! GLOBAL steps -/

/-- The payload's format, shape and extent are such as the operation takes (R97, R321, R591). -/
def payOk (d : Desc) (kind : Nat) : Bool :=
  match fmtOf d.fmt with
  | none => false
  | some f => decide (d.space < 2) && scaleOk f d.scaled && (kind != 2 || d.fmt == 0) && d.extent f

/-- A GLOBAL step of kind `kind` (R110, R152, R321, R322). A reserved KIND, a map on a barrier or a snapshot, and a payload
of another shape fault the itinerary. -/
def State.globalStep (s : State) (c : Nat) (w : StepWord) (kind : Nat) : State :=
  s.front c fun k =>
    let g := fld w 79 64
    let kd := fld w 119 116
    let map_ := fld w 63 48
    if kd ≥ 4 then s.seqFault c 1
    else if kd ≠ kind then s
    else if map_ ≠ 0xFFFF ∧ (kind = 0 ∨ kind = 3) then s.seqFault c 1
    else
      match (if kind = 0 then some (descOf 0) else s.poolDesc c (fld w 95 80) 0 0),
          (if map_ = 0xFFFF then some none else (s.poolDesc c map_ 0 0).map some) with
      | some d, some md =>
        let sparseOk := match md with
          | some m => listDescOk c m && d.rows % 64 == 0 && d.elems % 64 == 0
          | none => true
        if kind ≠ 0 ∧ !payOk d kind then s.seqFault c 1
        else if !sparseOk then s.seqFault c 1
        else
          let s1 := s.issue c .sy fun s1 =>
            s1.modCore c fun k1 => { k1 with syWait := k1.syWait ++ [⟨k.seq, g, kind, d, md, fld w 115 96⟩] }
          ((s1.startGlobals c 33).nodeRun k.part g).gopDrain k.part g
      | _, _ => s.seqFault c 3

/-- BARRIER (R321). -/
def execBarrier (c : CoreId) (w : StepWord) (s : State) : Out := .next (s.globalStep c w 0)
/-- BROADCAST (R321, R325). -/
def execBroadcast (c : CoreId) (w : StepWord) (s : State) : Out := .next (s.globalStep c w 1)
/-- REDUCE_ADD (R321, R325, R326). -/
def execReduceAdd (c : CoreId) (w : StepWord) (s : State) : Out := .next (s.globalStep c w 2)
/-- CONSISTENT_SNAPSHOT (R327). -/
def execConsistentSnapshot (c : CoreId) (w : StepWord) (s : State) : Out := .next (s.globalStep c w 3)

/-- SNAPSHOT_CUT (R327): the tick T has come. -/
def execSnapshotCut (p : PartId) (g : Fin 65536) (s : State) : Out :=
  .next (
    let n := s.tree (treeKey p g)
    match n.cut with
    | some t => if n.live ∧ t ≤ s.now then ((s.latch p (treeKey p g) n t).nodeRun p g).gopDrain p g else s
    | none => s)

end Sys2Proof.Machine
end

