-- ==== Sys2Proof/Machine/Image.lean ====
section
/-! DEFINITION. Itinerary images: the checks of the load and the rebasing of a loaded copy (spec/05: R102 to R127, R133,
R134; spec/09: R220). -/
namespace Sys2Proof.Machine

/-! Fields of the header (R102, Table 1) -/
def imBytes (im : List Byte) : Nat := imgField im 8 4
def imVclusters (im : List Byte) : Nat := imgField im 0x10 4
def imVgroups (im : List Byte) : Nat := imgField im 0x14 4
def imBound (im : List Byte) : Nat := imgField im 0x18 8
def imDevObjs (im : List Byte) : Nat := imgField im 0x28 4
def imSpadUsed (im : List Byte) : Nat := imgField im 0x2C 4
def imMaxModules (im : List Byte) : Nat := imgField im 0x30 4

/-- MAGIC, FMT_REV, HDR_BYTES, IMAGE_BYTES, then CHECK: the first that fails (R133, Table 9). -/
def headerCheck (im : List Byte) : Nat :=
  let n := imBytes im
  if imgField im 0 4 ≠ 0x3449524C then 1
  else if imgField im 4 1 ≠ 3 then 2
  else if imgField im 6 2 ≠ 256 then 1
  else if n < 320 ∨ n > 0xFFFFFFC0 ∨ n % 64 ≠ 0 ∨ n ≠ im.length then 3
  else if crc32c (im.take 12 ++ [0, 0, 0, 0] ++ im.drop 16) ≠ imgField im 12 4 then 4
  else 0

/-! The section table (R103, R107) -/

/-- Entry size of a section (R103, Table 2); 0 for the step tables. -/
def entrySize : Nat → Nat
  | 1 => 0 | 2 => 336 | 4 => 32 | 5 => 8 | 6 | 7 => 24
  | _ => 16

/-- Largest COUNT of a section, where Table 2 gives one. -/
def countMax : Nat → Option Nat
  | 2 => some 4096
  | 8 | 10 => some 65536
  | _ => none

/-- A section that is in use. -/
def secUsed (im : List Byte) (i : Nat) : Bool := secCount im i != 0 || secBytes im i != 0

/-- The entry of the section table keeps R103: an unused section too has the ENTRY_BYTES of Table 2, and only its OFFSET is not
read. -/
def secGood (im : List Byte) (i : Nat) : Bool :=
  if !secUsed im i then i != 0 && i != 1 && i != 4 && secEntry im i == entrySize i
  else
    secOff im i % 64 == 0 && decide (256 ≤ secOff im i) && decide (secOff im i + secBytes im i ≤ imBytes im)
      && secEntry im i == entrySize i && secCount im i != 0
      && (if i = 1 then decide (8 * secCount im 1 ≤ secBytes im 1) else secBytes im i == secCount im i * entrySize i)
      && (match countMax i with
        | some m => decide (secCount im i ≤ m)
        | none => true)
      && (i != 0 || secCount im 0 == 16 * imVclusters im)

/-- Two sections in use do not overlap. -/
def secApart (im : List Byte) (i j : Nat) : Bool :=
  !secUsed im i || !secUsed im j || decide (secOff im i + secBytes im i ≤ secOff im j)
    || decide (secOff im j + secBytes im j ≤ secOff im i)

/-- OFFSET and STEPS of step table `t` (R107). -/
def tabOff (im : List Byte) (t : Nat) : Nat := imgField im (secOff im 1 + 8 * t) 4
def tabSteps (im : List Byte) (t : Nat) : Nat := imgField im (secOff im 1 + 8 * t + 4) 4

/-- A directory entry keeps R107. -/
def tabGood (im : List Byte) (t : Nat) : Bool :=
  tabOff im t % 16 == 0 && decide (1 ≤ tabSteps im t) && decide (tabSteps im t ≤ 2 ^ 24)
    && decide (8 * secCount im 1 ≤ tabOff im t) && decide (tabOff im t + 16 * tabSteps im t ≤ secBytes im 1)

/-- The section table and the directory keep R103 and R107. -/
def sectionsGood (im : List Byte) : Bool :=
  ((List.range 12).all fun i => secGood im i) &&
    ((List.range 12).all fun i => (List.range i).all fun j => secApart im i j) &&
    (List.range (secCount im 1)).all fun t => tabGood im t

/-! Step words (R110) -/

/-- The step words of table `t`, from its first. -/
def tabWords (im : List Byte) (t : Nat) : List Nat :=
  (List.range (tabSteps im t)).map fun i => imgField im (secOff im 1 + tabOff im t + 16 * i) 16
/-- The step words of the variant-step section from `first` on, `n` of them. -/
def varWords (im : List Byte) (first n : Nat) : List Nat :=
  (List.range n).map fun i => imgField im (secOff im 3 + 16 * (first + i)) 16

/-- The opcode is one of Table 3. -/
def opcodeOk (w : Nat) : Bool :=
  let o := bits w 127 120
  decide (o ≤ 6) || (decide (0x10 ≤ o) && decide (o ≤ 0x13)) || (decide (0x20 ≤ o) && decide (o ≤ 0x32)) || o == 0x38
    || (decide (0x40 ≤ o) && decide (o ≤ 0x44)) || (decide (0x50 ≤ o) && decide (o ≤ 0x52))

/-- Every step word of the image. -/
def allWords (im : List Byte) : List Nat :=
  ((List.range (secCount im 1)).flatMap fun t => tabWords im t) ++ varWords im 0 (secCount im 3)

/-! Structure (R117 to R120) -/

/-- What a scan of a step sequence finds: it keeps the rules of loops, it has an END outside loops, and its VSELs with
table, mode and loop depth. -/
structure Scan where
  good : Bool
  ended : Bool
  vsels : List (Nat × Nat × Nat)
deriving DecidableEq, Repr

/-- Loop ends that are still ahead at step `i`. -/
def openLoops (i : Nat) : List Nat → List Nat
  | [] => []
  | e :: es => if e ≤ i then openLoops i es else e :: es

/-- Steps `i` on of a sequence of `n`, the loop ends open there, `base` loops around the sequence; `inVar` for a variant
sequence, which may hold no END, VSEL or REBIND (R120). -/
def scanSteps (n base : Nat) (inVar : Bool) (i : Nat) (ends : List Nat) (r : Scan) : List Nat → Scan
  | [] => r
  | w :: ws =>
    let st := openLoops i ends
    let o := bits w 127 120
    if o = 2 then
      let e := i + 1 + bits w 87 72
      let ok := bits w 119 88 != 0 && bits w 87 72 != 0 && decide (e ≤ n) && (match st with
        | x :: _ => decide (e ≤ x)
        | [] => true) && decide (base + st.length + 1 ≤ 4)
      scanSteps n base inVar (i + 1) (e :: st) { r with good := r.good && ok } ws
    else if inVar && (o == 1 || o == 3 || o == 5) then scanSteps n base inVar (i + 1) st { r with good := false } ws
    else if o = 1 ∧ st.isEmpty then scanSteps n base inVar (i + 1) st { r with ended := true } ws
    else if o = 3 then
      scanSteps n base inVar (i + 1) st { r with vsels := r.vsels ++ [(bits w 119 108, bits w 107 106, base + st.length)] } ws
    else scanSteps n base inVar (i + 1) st r ws

/-- A scan of a whole sequence. -/
def scanOf (base : Nat) (inVar : Bool) (ws : List Nat) : Scan := scanSteps ws.length base inVar 0 [] ⟨true, false, []⟩ ws

/-- Offset of variant table `v` (R118). -/
def varOff (im : List Byte) (v : Nat) : Nat := secOff im 2 + 336 * v
def varEntries (im : List Byte) (v : Nat) : Nat := imgField im (varOff im v) 1
def varThresh (im : List Byte) (v e : Nat) : Nat := imgField im (varOff im v + 0x10 + 4 * e) 4
def varFirst (im : List Byte) (v e : Nat) : Nat := imgField im (varOff im v + 0x50 + 16 * e) 4
def varSteps (im : List Byte) (v e : Nat) : Nat := imgField im (varOff im v + 0x54 + 16 * e) 4

/-- The entry's sequence lies in the variant-step section. -/
def varInside (im : List Byte) (v e : Nat) : Bool := decide (varFirst im v e + varSteps im v e ≤ secCount im 3)

/-- The sequences of variant table `v` keep R117 and R120 at a depth. -/
def varGood (im : List Byte) (v depth : Nat) : Bool :=
  (List.range (varEntries im v)).all fun e =>
    !varInside im v e || (scanOf depth true (varWords im (varFirst im v e) (varSteps im v e))).good

/-- A VSEL of a step table: thresholds that do not decrease where MODE reads them (R118), and loops within R117. -/
def vselGood (im : List Byte) (x : Nat × Nat × Nat) : Bool :=
  decide (secCount im 2 ≤ x.1) ||
    ((x.2.1 != 1 || (List.range (varEntries im x.1 - 1)).all fun e => decide (varThresh im x.1 e ≤ varThresh im x.1 (e + 1)))
      && varGood im x.1 x.2.2)

/-- Structure of every table (R117, R118, R120). -/
def structureGood (im : List Byte) : Bool :=
  ((List.range (secCount im 2)).all fun v =>
    decide (1 ≤ varEntries im v) && decide (varEntries im v ≤ 16) && varGood im v 0) &&
  (List.range (secCount im 1)).all fun t =>
    let r := scanOf 0 false (tabWords im t)
    r.good && r.ended && r.vsels.all (vselGood im)

/-! Cross-references (R105, R116, R121, R122, R124) -/

/-- Objects a step word names. -/
def objsOf (w : Nat) : List Nat :=
  let o := bits w 127 120
  if o = 0x50 ∨ o = 0x51 then [bits w 119 100]
  else if o = 0x52 then (if bits w 115 96 = 0xFFFFF then [] else [bits w 115 96])
  else if o = 0x38 ∨ (0x40 ≤ o ∧ o ≤ 0x44) then (if bits w 55 36 = 0xFFFFF then [] else [bits w 55 36])
  else []

/-- Offset of declaration `i`: OWNER, OBJ, INIT, TARGET, MAX (R121). -/
def declOff (im : List Byte) (i : Nat) : Nat := secOff im 6 + 24 * i
def declOwner (im : List Byte) (i : Nat) : Nat := imgField im (declOff im i) 4
def declObj (im : List Byte) (i : Nat) : Nat := imgField im (declOff im i + 4) 4 % 2 ^ 20

/-- The object is declared for an owner. -/
def declared (im : List Byte) (owner obj : Nat) : Bool :=
  (List.range (secCount im 6)).any fun i => declOwner im i == owner && declObj im i == obj

/-- The declaration names an object that can exist. -/
def declGood (im : List Byte) (i : Nat) : Bool :=
  if declOwner im i = 0xFFFFFFFF then decide (0x80000 ≤ declObj im i) && decide (declObj im i < 0x80000 + imDevObjs im)
  else decide (declOwner im i < imVclusters im) && decide (declObj im i ≤ 0xFF)

/-- TABLE, DESC_BASE and SEED_BASE of virtual core `v` (R105). -/
def coreTable (im : List Byte) (v : Nat) : Nat := imgField im (secOff im 0 + 16 * v) 2
def coreDesc (im : List Byte) (v : Nat) : Nat := imgField im (secOff im 0 + 16 * v + 4) 4
def coreSeed (im : List Byte) (v : Nat) : Nat := imgField im (secOff im 0 + 16 * v + 8) 4

/-- The core map entry names sections that exist; the pools' indices are checked as they are used (R115). -/
def coreGood (im : List Byte) (v : Nat) : Bool :=
  (coreTable im v == 0xFFFF || decide (coreTable im v < secCount im 1))
    && decide (coreDesc im v ≤ secCount im 4) && decide (coreSeed im v ≤ secCount im 5)

/-- The indices of a step word into other sections. -/
def wordGood (im : List Byte) (w : Nat) : Bool :=
  match bits w 127 120 with
  | 3 => decide (bits w 119 108 < secCount im 2)
  | 4 => decide (bits w 119 104 < secCount im 10)
  | 5 => decide (bits w 119 88 < secCount im 11)
  | 0x52 => decide (bits w 79 64 < secCount im 8)
  | _ => true

/-- A step of virtual core `v` exists (R107, R122). -/
def stepGood (im : List Byte) (v st : Nat) : Bool :=
  decide (v < 16 * imVclusters im) &&
    (if st ≥ 2 ^ 31 then decide (st - 2 ^ 31 < secCount im 3)
    else coreTable im v != 0xFFFF && decide (st < tabSteps im (coreTable im v)))

/-- An edge keeps R122. -/
def edgeGood (im : List Byte) (i : Nat) : Bool :=
  let o := secOff im 7 + 24 * i
  declared im (imgField im o 4) (imgField im (o + 4) 4 % 2 ^ 20) && stepGood im (imgField im (o + 8) 4) (imgField im (o + 12) 4)
    && stepGood im (imgField im (o + 16) 4) (imgField im (o + 20) 4)

/-- A group's indices keep to the image (R124, R133). -/
def groupGood (im : List Byte) (i : Nat) : Bool :=
  let o := secOff im 8 + 16 * i
  decide (imgField im (o + 4) 4 + imgField im (o + 8) 4 ≤ imVclusters im)
    && decide (imgField im (o + 12) 4 < 16 * imVclusters im)

/-- Objects a core of table `t` may name: those of the table and of the variants it selects. -/
def tabObjs (im : List Byte) (t : Nat) : List Nat :=
  let ws := tabWords im t
  ws.flatMap objsOf ++ ws.flatMap fun w =>
    if bits w 127 120 = 3 then
      (List.range (varEntries im (bits w 119 108))).flatMap fun e =>
        (varWords im (varFirst im (bits w 119 108) e) (varSteps im (bits w 119 108) e)).flatMap objsOf
    else []

/-- Every object that a virtual core's steps name is declared (R121). -/
def coreObjsGood (im : List Byte) (v : Nat) : Bool :=
  coreTable im v == 0xFFFF || (tabObjs im (coreTable im v)).all fun o =>
    if o ≥ 0x80000 then declared im 0xFFFFFFFF o else declared im (v / 16) o

/-- Every object that any step word of the image names has a declaration, the words of tables and variants that no core runs
included (R121). -/
def wordObjsGood (im : List Byte) : Bool :=
  (allWords im).all fun w => (objsOf w).all fun o =>
    (List.range (secCount im 6)).any fun i => declObj im i == o
      && (if o ≥ 0x80000 then declOwner im i == 0xFFFFFFFF else declOwner im i != 0xFFFFFFFF)

/-- Traffic entry `i` (R125): SRC, DST and BYTES. A unit has its kind in bits [31:30], 0 a virtual cluster, 1 a virtual channel
group, 2 host memory, and its index below. -/
structure Traffic where
  srcKind : Nat
  src : Nat
  dstKind : Nat
  dst : Nat
  bytes : Nat
deriving DecidableEq, Repr

/-- Traffic entry `i`. -/
def trafficAt (im : List Byte) (i : Nat) : Traffic :=
  let o := secOff im 9 + 16 * i
  let a := imgField im o 4
  let b := imgField im (o + 4) 4
  ⟨a / 2 ^ 30, a % 2 ^ 30, b / 2 ^ 30, b % 2 ^ 30, imgField im (o + 8) 8⟩

/-- The traffic matrix of an image. -/
def trafficOf (im : List Byte) : List Traffic := (List.range (secCount im 9)).map (trafficAt im)

/-- A unit of a traffic entry is one of the image's (R125, R133): its index stays within the units of its kind. The reserved kind and
host memory have no index to check. -/
def unitGood (im : List Byte) (kind i : Nat) : Bool :=
  match kind with
  | 0 => decide (i < imVclusters im)
  | 1 => decide (i < imVgroups im)
  | _ => true

/-- The entries of the traffic matrix name units of the image. -/
def trafficGood (im : List Byte) : Bool :=
  (trafficOf im).all fun t => unitGood im t.srcKind t.src && unitGood im t.dstKind t.dst

/-- Distinct cluster-scope objects of virtual cluster `v`: at most 256. -/
def clusterObjsGood (im : List Byte) (v : Nat) : Bool :=
  decide ((((List.range (secCount im 6)).filter fun i => declOwner im i == v).length) ≤ 256)

/-- Every cross-reference holds. -/
def rangesGood (im : List Byte) : Bool :=
  ((List.range (secCount im 0)).all fun v => coreGood im v) &&
  ((List.range (secCount im 2)).all fun v => (List.range (varEntries im v)).all fun e => varInside im v e) &&
  ((allWords im).all fun w => wordGood im w) &&
  ((List.range (secCount im 6)).all fun i => declGood im i) &&
  ((List.range (imVclusters im)).all fun v => clusterObjsGood im v) &&
  ((List.range (secCount im 7)).all fun i => edgeGood im i) &&
  ((List.range (secCount im 8)).all fun i => groupGood im i) &&
  wordObjsGood im && trafficGood im &&
  (List.range (secCount im 0)).all fun v => coreObjsGood im v

/-! Capacity (R133) -/

/-- What the composition's envelope provides: clusters, groups, device objects, members. -/
structure Caps where
  clusters : Nat
  groups : Nat
  devObjs : Nat
  members : Nat
deriving DecidableEq, Repr

/-- The image keeps within the envelope (R133, Table 9, code 0x09). DEDUCED (log 62): MAX_MODULES is beyond the envelope where it is
greater than the envelope's number of members, as VCLUSTERS and VGROUPS are. -/
def capacityGood (c : Caps) (im : List Byte) : Bool :=
  decide (imVclusters im ≤ c.clusters) && decide (imVgroups im ≤ c.groups) && decide (imMaxModules im ≤ c.members)
    && decide (imSpadUsed im ≤ 2 ^ 20) && decide (imDevObjs im ≤ c.devObjs)

/-- The checks of a load in order; the status of the first that fails (R133). -/
def imageCheck (c : Caps) (im : List Byte) : Nat :=
  if headerCheck im ≠ 0 then headerCheck im
  else if !sectionsGood im then 5
  else if !(allWords im).all opcodeOk then 6
  else if !structureGood im then 7
  else if !rangesGood im then 8
  else if !capacityGood c im then 9
  else 0

/-! Rebasing (R134, R220) -/

/-- The entry of a key in an association list. -/
def assoc (k : Nat) : List (Nat × Nat) → Option Nat
  | [] => none
  | x :: xs => if x.1 = k then some x.2 else assoc k xs

/-- A descriptor of the pool on a placement: virtual cores become physical ones, virtual cores elsewhere and virtual
windows become outbound entries; a virtual core that is placed nowhere becomes core 0xFFFF_FFFE, which no unit has. -/
def rebaseDesc (pl : SlotPlace) (wins : List (Nat × Nat)) (v : Nat) : Nat :=
  let space := bits v 55 52
  let base := bits v 51 0
  let rest := v - base - bits v 55 52 * 2 ^ 52
  if space = 1 then
    let c := base / 2 ^ 20
    let off := base % 2 ^ 20
    if c = 0xFFFFFFFF then v
    else match assoc (c / 16) pl.vclus, assoc (c / 16) pl.remotes with
      | some k, _ => rest + 2 ^ 52 + (16 * k + c % 16) * 2 ^ 20 + off
      | none, some e =>
        let aux := bits v 179 128
        rest - aux * 2 ^ 128 + 2 * 2 ^ 52 + e * 2 ^ 42 + c % 16 * 2 ^ 20 + off
          + (e * 2 ^ 42 + c % 16 * 2 ^ 20 + aux % 2 ^ 20) * 2 ^ 128
      | none, none => rest + 2 ^ 52 + 0xFFFFFFFE * 2 ^ 20 + off
  else if space = 2 then
    match assoc (base / 2 ^ 42) wins with
    | some e =>
      let aux := bits v 179 128
      rest - aux * 2 ^ 128 + 2 * 2 ^ 52 + e * 2 ^ 42 + base % 2 ^ 42 + (e * 2 ^ 42 + aux % 2 ^ 42) * 2 ^ 128
    | none => v
  else v

/-- The rebased copy of an image (R134). -/
def rebase (pl : SlotPlace) (wins : List (Nat × Nat)) (im : List Byte) : List Byte :=
  let o := secOff im 4
  let n := secCount im 4
  im.take o ++ ((List.range n).flatMap fun i => toBytes 32 (rebaseDesc pl wins (imgField im (o + 32 * i) 32)))
    ++ im.drop (o + 32 * n)

end Sys2Proof.Machine
end

