-- ==== Sys2Proof/Machine/Place.lean ====
section
/-! DEFINITION. Placement by the traffic matrix (spec/13: R340; spec/05: R125; spec/02: R23, R26). -/
namespace Sys2Proof.Machine

/-- A virtual unit of an image: a virtual cluster or a virtual channel group. -/
inductive VUnit where
  | clu (v : Nat)
  | grp (v : Nat)
deriving DecidableEq, Repr

/-- The unit that a traffic entry's kind and index name (R125); host memory is no unit of the image. -/
def vunit (kind i : Nat) : Option VUnit :=
  match kind with
  | 0 => some (.clu i)
  | 1 => some (.grp i)
  | _ => none

/-- Row and column of cluster `k` on its die's mesh (R23). -/
def cluStop (k : Nat) : Nat × Nat := (1 + k % 12 / 4, k % 4)

/-- Clusters whose stops are one mesh hop apart on one die (R26). -/
def oneHop (a b : Nat) : Bool :=
  let x := cluStop a
  let y := cluStop b
  a / 12 == b / 12 && ((x.1 - y.1) + (y.1 - x.1) + ((x.2 - y.2) + (y.2 - x.2)) == 1)

/-- Time of a byte between two units by their distance class, in units of 1/3,200 ns: 3,200 divided by the bandwidth in GB/s of
R26, Table 5 (1,600 adjacent, 400 on one die, 200 across dies), and of a cluster and a channel group (640 on the group's own die,
200 across). The spec gives no class for two channel groups: their pairs do not move the minimum (DEDUCED, log 28). A physical
unit is a cluster, or the channel group of a span. -/
def byteCost (a : VUnit) (x : Nat) (b : VUnit) (y : Nat) : Nat :=
  match a, b with
  | .clu _, .clu _ => if oneHop x y then 2 else if x / 12 = y / 12 then 8 else 16
  | .clu _, .grp _ => if x / 12 = y / 8 then 5 else 16
  | .grp _, .clu _ => if y / 12 = x / 8 then 5 else 16
  | .grp _, .grp _ => 0

/-- A unit placed: its cluster or span, and the cluster or channel group that counts for distance. -/
structure Placed where
  unit : VUnit
  at_ : Nat
  phys : Nat
deriving DecidableEq, Repr

/-- What placing `u` at `x` adds to the sum of R340: its traffic with the units placed before it. Pairs with units elsewhere and with
host memory cost the same on every placement here. -/
def addCost (ts : List Traffic) (acc : List Placed) (u : VUnit) (x : Nat) : Nat :=
  (ts.map fun t =>
    match vunit t.srcKind t.src, vunit t.dstKind t.dst with
    | some a, some b =>
      if a = u then (acc.filter fun p => p.unit = b).foldl (fun n p => n + t.bytes * byteCost u x b p.phys) 0
      else if b = u then (acc.filter fun p => p.unit = a).foldl (fun n p => n + t.bytes * byteCost a p.phys u x) 0
      else 0
    | _, _ => 0).sum

/-- Two units may not share a physical one. -/
def clashes (acc : List Placed) (u : VUnit) (i : Nat) : Bool :=
  acc.any fun p => match p.unit, u with
    | .clu _, .clu _ => p.at_ == i
    | .grp _, .grp _ => p.at_ == i
    | _, _ => false

/-- The cheapest placement found so far beats a cost. -/
def beaten (best : Option (Nat × List Placed)) (c : Nat) : Bool :=
  match best with
  | some b => decide (b.1 ≤ c)
  | none => false

/-- The placement of the units with the least cost; among those of equal cost the one that puts the first unit on the lowest
physical number, then the second, and so on (R340; the order of units is DEDUCED, log 28). `cands` lists a unit's physical units
in ascending order, each with the number that counts for distance. A branch that costs no less than the best is left. -/
def bestPlace (ts : List Traffic) (cands : VUnit → List (Nat × Nat)) :
    List VUnit → List Placed → Nat → Option (Nat × List Placed) → Option (Nat × List Placed)
  | [], acc, c, best => if beaten best c then best else some (c, acc)
  | u :: us, acc, c, best =>
    (cands u).foldl (fun best x =>
      let c' := c + addCost ts acc u x.2
      if clashes acc u x.1 || beaten best c' then best
      else bestPlace ts cands us (acc ++ [⟨u, x.1, x.2⟩]) c' best) best

/-- The members of a list of units in ascending order. -/
def ascend : List Nat → List Nat
  | [] => []
  | x :: xs => (ascend xs).filter (· < x) ++ [x] ++ (ascend xs).filter (x ≤ ·)

/-- The virtual units that a member's placement names, put where R340 puts them: on the clusters `clus` and the spans `spans` (by their
groups). Where there is no room for them the placement stays as it is, for the checks to refuse. -/
def SlotPlace.choose (pl : SlotPlace) (im : List Byte) (clus : List Nat) (spans : List Nat) : SlotPlace :=
  let units := (ascend (pl.vclus.map (·.1))).map VUnit.clu ++ (ascend (pl.vgrps.map (·.1))).map VUnit.grp
  let cands : VUnit → List (Nat × Nat) := fun u => match u with
    | .clu _ => clus.map fun k => (k, k)
    | .grp _ => spans.zipIdx.map fun (x : Nat × Nat) => (x.2, x.1)
  match bestPlace (trafficOf im) cands units [] 0 none with
  | none => pl
  | some r =>
    { pl with
      vclus := r.2.filterMap fun p => match p.unit with
        | .clu v => some (v, p.at_)
        | .grp _ => none,
      vgrps := r.2.filterMap fun p => match p.unit with
        | .grp v => some (v, p.at_)
        | .clu _ => none }

end Sys2Proof.Machine
end

