-- ==== Sys2Proof/Machine/PowerOps.lean ====
section
/-! DEFINITION. Steps of the clusters (spec/18: R490, R491; spec/02: R26, R36, R37). -/
namespace Sys2Proof.Machine

/-- Supply voltage of a step in mV (R490, Table 1). -/
def stepVolt (p : Nat) : Nat :=
  nth 550 [950, 920, 890, 860, 835, 810, 785, 760, 740, 720, 700, 680, 660, 640, 620, 550] p
/-- Typical cluster power of a step at power class 15, in 10 mW (R490, Table 1). -/
def stepPower (p : Nat) : Nat :=
  nth 40 [4210, 3780, 3370, 3000, 2690, 2400, 2120, 1870, 1670, 1470, 1290, 1130, 970, 830, 700, 40] p

/-- Clusters one mesh hop from cluster `k` on its die (R23, R26). -/
def adjacent (k : Nat) : List Nat :=
  let l := k % 12
  (if l ≥ 4 then [k - 4] else []) ++ (if l < 8 then [k + 4] else []) ++ (if l % 4 > 0 then [k - 1] else [])
    ++ (if l % 4 < 3 then [k + 1] else [])

/-- Two steps of adjacent running clusters keep R36: within 6 steps and 150 mV. -/
def stepsAgree (a b : Nat) : Bool :=
  decide (a ≤ b + 6) && decide (b ≤ a + 6) && decide (stepVolt a ≤ stepVolt b + 150) && decide (stepVolt b ≤ stepVolt a + 150)

/-- Steps of the running clusters adjacent to `k`. -/
def State.nearSteps (s : State) (k : Nat) : List Nat := ((adjacent k).map fun j => (s.clu j).step).filter (· ≠ 15)

/-- The slowest step up to `p` that keeps R36 beside the given steps, or none. -/
def slowest (near : List Nat) : Nat → Option Nat
  | 0 => if near.all fun x => stepsAgree 0 x then some 0 else none
  | p + 1 => if near.all fun x => stepsAgree (p + 1) x then some (p + 1) else slowest near p

/-- Step `p` of cluster `k` keeps R36 beside the slower of its running neighbours in a list of steps by cluster (15 parked). -/
def keeps36 (ts : List Nat) (k p : Nat) : Bool :=
  (adjacent k).all fun j => nth 15 ts j == 15 || decide (nth 15 ts j ≤ p) || stepsAgree p (nth 15 ts j)

/-- The faster cluster of an offending pair lowered, one step a round (R36; R493, row 3). -/
def clampRound : List Nat → List Nat → List Nat
  | [], ts => ts
  | k :: ks, ts =>
    clampRound ks (if nth 15 ts k ≠ 15 ∧ !keeps36 ts k (nth 15 ts k) then ts.set k (nth 15 ts k + 1) else ts)

/-- Rounds until no pair offends. -/
def clampAll : Nat → List Nat → List Nat
  | 0, ts => ts
  | n + 1, ts =>
    let t' := clampRound (List.range 48) ts
    if t' = ts then ts else clampAll n t'

/-- The steps the clusters run at. -/
def State.steps (s : State) : List Nat := (List.range 48).map fun k => (s.clu k).step

/-- A running cluster lowered to a step; a rise in progress that R36 no longer allows beside `near` is given up (R36, R491). -/
def Cluster.lowerTo (c : Cluster) (t : Nat) (near : List Nat) : Cluster :=
  let c1 := if t > c.step then { c with step := t, goal := t, target := max c.target t, volt := stepVolt t } else c
  if near.all fun x => x == 15 || stepsAgree c1.goal x then c1 else { c1 with goal := c1.step }

/-- The clusters held to a list of steps. -/
def State.lowerAll (s : State) (ts : List Nat) : List Nat → State
  | [] => s
  | k :: ks =>
    ((if (s.clu k).step ≠ 15 then
        s.modClu k fun c => c.lowerTo (nth 15 ts k) ((adjacent k).map fun j => nth 15 ts j)
      else s)).lowerAll ts ks

/-- Where a parked cluster starts (R37; DESIGN CHOICE log 32): the slowest step that keeps R36 beside its running neighbours; where
there is none, the fastest that keeps it beside the slowest of them. -/
def raiseStep (near : List Nat) : Nat :=
  match slowest near 14 with
  | some p => p
  | none => ((List.range 15).find? fun p => stepsAgree p (near.foldl max 0)).getD 14

/-- A parked cluster raised (R37, R347, R359). Faster neighbours that its step offends are lowered (R36; R493, row 3; DESIGN
CHOICE log 32). -/
def State.raiseCluster (s : State) (k : Nat) : State :=
  if (s.clu k).step = 15 then
    let p := raiseStep (s.nearSteps k)
    let s1 := s.modClu k fun c => { c with step := p, goal := p, target := p, volt := stepVolt p, idleAt := s.now,
                                           thermCeil := min 14 c.thermCeil }
    s1.lowerAll (clampAll 700 s1.steps) (List.range 48)
  else s

/-- Clusters raised. -/
def State.raiseClusters (s : State) : List Nat → State
  | [] => s
  | k :: ks => (s.raiseCluster k).raiseClusters ks

end Sys2Proof.Machine
end

