-- ==== Sys2Proof/Machine/Launch.lean ====
section
/-! DEFINITION. Launches and images: loading, the start and the end of a launch, the LOAD, UNLOAD and LAUNCH descriptors,
the end of a transfer (spec/05: R114, R121, R133 to R138; spec/04: R95, R98; spec/13: R339, R347, R364; spec/14: R389, R390;
spec/15: R409; spec/19: R518, R519). -/
namespace Sys2Proof.Machine

/-! The end of a transfer (R95, R98, R114) -/

/-- ENGINE of a status record (R98, Table 12); for a load/store port the spec states no number, so it is a free value. -/
def State.engineCode (s : State) (e : Nat) : Nat :=
  if e < 96 then e else if e < 112 then 0x80 + (e - 96) else Config.free s.freeCtr % 256

/-- The transfer status record (R98, Table 12). -/
def State.statusRecord (s : State) (x : Xfer) (e : Nat) : Nat :=
  s.now % 2 ^ 32 * 2 ^ 96 + x.bytes % 2 ^ 32 * 2 ^ 64 + min 65535 x.counts.ovf * 2 ^ 48 + min 65535 x.counts.nan * 2 ^ 32
    + min 65535 x.counts.sat * 2 ^ 16 + s.engineCode e * 2 ^ 8 + x.status

/-- Nothing of the transfer is outstanding. -/
def Xfer.isOver (x : Xfer) : Bool :=
  x.moved && x.reads == 0 && x.unacked == 0 && (match x.disp with
    | some d => d.waiting.isEmpty && d.toDone.isEmpty
    | none => true)

/-- The carry header of a dispatch (R164): word 0 with KIND 3 and the number of rows it deferred. -/
def State.carryHeader (s : State) (x : Xfer) : State :=
  match x.disp with
  | some d => if d.carryOff = 0xFFFFF then s else s.spadSetWord x.core d.carryOff (3 * 2 ^ 24 + d.carried)
  | none => s

/-- Sequencer fault code of a step's transfer that ended with a status (R114, R138, Table 11; log 20). -/
def xferFaultCode (x : Xfer) : Nat :=
  if x.kind = .ls ∧ x.status = stTrans then 7 else if x.kind = .ls ∧ x.status = stPoison then 2 else 6

/-- A step's transfer ends: the status record or the fault, then the signal, then the step's completion. -/
def State.stepXferEnd (s : State) (x : Xfer) (e : Nat) : State :=
  let s1 := s.carryHeader x
  let s2 := if x.statrec then s1.spadWrite x.core x.statOff (toBytes 16 (s1.statusRecord x e))
    else if x.status ≠ 0 then s1.seqFault x.core (xferFaultCode x) else s1
  let s3 := if x.sig = 0xFFFFF then s2 else s2.raise x.core x.sig 1 1 e x.seq
  if x.sig ≠ 0xFFFFF ∧ s2.isRemote x.core x.sig then s3 else s3.stepDone x.core .xf x.seq

/-- TRANSFER_COMPLETION (R95, R98, R391): the oldest transfer of an engine, wholly acknowledged, ends. -/
def execTransferCompletion (e : XferEngineId) (s : State) : Out :=
  .next (match (s.engine e).queue with
    | [] => s
    | x :: xs =>
      if !x.isOver then s
      else
        let s1 := (s.setEngine e { s.engine e with queue := xs }).draw
        (match x.host with
        | some d => s1.endDesc d (if x.status = 0 then 0 else 2) (s.statusRecord x e)
        | none => s1.stepXferEnd x e).refillEngine e)

/-! Placement of an image on this member -/

/-- Key of a virtual unit of a slot. -/
def unitKey (slot v : Nat) : Nat := slot * 2 ^ 20 + v

/-- The virtual clusters of a slot placed here, each with its cluster. -/
def Part.placed (q : Part) (slot : Nat) : List (Nat × Nat) :=
  q.vmap.filterMap fun e => if e.1 / 2 ^ 20 = slot then e.2.map fun k => (e.1 % 2 ^ 20, k) else none

/-- Entries set in a table of options. -/
def setSome {α : Type} [DecidableEq α] (slot : Nat) : List (Nat × α) → Tbl (Option α) → Tbl (Option α)
  | [], t => t
  | x :: xs, t => setSome slot xs (tblSet (fun _ => none) t (unitKey slot x.1) (some x.2))

/-- A slot's units removed from a table. -/
def dropSlot {α : Type} (slot : Nat) (t : Tbl α) : Tbl α := tblClear (slot * 2 ^ 20) ((slot + 1) * 2 ^ 20) t

/-- The placement of a slot recorded (R340). -/
def Part.place (q : Part) (pl : SlotPlace) : Part :=
  { q with vmap := setSome pl.slot pl.vclus (dropSlot pl.slot q.vmap), gmap := setSome pl.slot pl.vgrps (dropSlot pl.slot q.gmap),
           dobj := setSome pl.slot pl.dobjs (dropSlot pl.slot q.dobj),
           trees := tblSet (fun _ => []) q.trees pl.slot pl.trees }

/-- The image of a slot. -/
def Part.image (q : Part) (slot : Nat) : Option Image := tblGet (fun _ => none) q.images slot

/-- Clusters of a mask. -/
def maskList (n m : Nat) : List Nat := (List.range n).filter fun i => bitAt m i

/-- Device objects a module may assign (R305). -/
def deviceObj (o : Nat) : Bool := decide (0x3000 ≤ o) && decide (o < 0x4000)

/-- Device objects of this module that a partition holds. -/
def Part.devHeld (q : Part) (own : Nat) : List Nat := q.dobj.filterMap fun e => match e.2 with
  | some r => if r.fid = own then some r.obj else none
  | none => none

/-- A placement names each virtual unit once and keeps to the slice (R339, R340): virtual clusters of the image on distinct
clusters of the slice, no more than the envelope gives; virtual groups on distinct spans; on a composition of one member every unit
of the image. -/
def State.unitsOk (s : State) (p : Nat) (im : List Byte) (pl : SlotPlace) : Bool :=
  let q := s.part p
  let room := match q.entry with
    | some e => decide (pl.vclus.length ≤ e.clusters)
    | none => false
  decide ((pl.vclus.map (·.1)).Nodup) && decide ((pl.vclus.map (·.2)).Nodup) && decide ((pl.vgrps.map (·.1)).Nodup)
    && pl.vclus.all (fun x => decide (x.1 < imVclusters im) && decide (x.2 < 48) && bitAt q.clusters x.2)
    && decide ((pl.vgrps.map (·.2)).Nodup)
    && pl.vgrps.all (fun x => decide (x.1 < imVgroups im) && decide (x.2 < q.spans.length))
    && room
    && (decide (q.members.length > 1) || q.anchor != s.reg bFAB ||
      (pl.vclus.length == imVclusters im && pl.vgrps.length == imVgroups im))

/-- Virtual clusters whose cores consume device-scope object `d`: the edges name them (R122). -/
def consumersOf (im : List Byte) (d : Nat) : List Nat :=
  (List.range (secCount im 7)).filterMap fun i =>
    let o := secOff im 7 + 24 * i
    if imgField im o 4 = 0xFFFFFFFF ∧ imgField im (o + 4) 4 % 2 ^ 20 = 0x80000 + d then some (imgField im (o + 16) 4 / 16) else none

/-- Each device-scope object lies on the module of its consumers (R122, R306): on this one only where every consumer is placed here,
elsewhere only where none is. -/
def consumersOk (im : List Byte) (own : Nat) (pl : SlotPlace) : Bool :=
  pl.dobjs.all fun x => (consumersOf im x.1).all fun v => (x.2.fid == own) == pl.vclus.any fun y => y.1 == v

/-- A placement's device objects here are distinct device objects, free, or at a re-bind (`keep`) the partition's own, and
no more than the envelope provides (R305, R306). -/
def State.objsOk (s : State) (p : Nat) (im : List Byte) (pl : SlotPlace) (keep : Bool) : Bool :=
  let q := s.part p
  let own := s.reg bFAB
  let here : List Nat := pl.dobjs.filterMap fun x => if x.2.fid = own then some x.2.obj else none
  let held := ({ q with dobj := dropSlot pl.slot q.dobj }.devHeld own).length
  let room := match q.entry with
    | some e => decide (held + here.length ≤ e.devObjs)
    | none => false
  decide ((pl.dobjs.map (·.1)).Nodup) && decide (here.Nodup)
    && pl.dobjs.all (fun x => decide (x.1 < imDevObjs im))
    && here.all (fun o => deviceObj o && ((s.obj o).owner.isNone || (keep && (s.obj o).owner == some p)))
    && room
    && consumersOk im own pl
    && (decide (q.members.length > 1) || q.anchor != own || pl.dobjs.length == imDevObjs im)

/-- The edges of a tree are links of the slice that are ACTIVE, at most 48 of them downwards (R323). -/
def State.treeOk (s : State) (p : Nat) (t : TreeSpec) : Bool :=
  decide (t.children.length ≤ 48) && decide (t.children.Nodup)
    && (t.children ++ t.parent.toList).all fun i =>
      decide (i < 96) && bitAt (s.part p).links i && (s.lnk i).st == .active && !t.children.contains (t.parent.getD 96)

/-- The edges of a group's tree here, none where it has none. -/
def treeSpec (g : Nat) : List TreeSpec → TreeSpec
  | [] => ⟨g, none, [], 0⟩
  | t :: ts => if t.group = g then t else treeSpec g ts

/-- Levels of edges that a tree over `n` modules may have: the least L with 48^L at least `n` (R323). -/
def treeDepth (n : Nat) : Nat := ((List.range 4).find? fun l => decide (n ≤ 48 ^ l)).getD 4

/-- Virtual clusters of group `g` with a member core (R124). -/
def groupClusters (im : List Byte) (g : Nat) : List Nat :=
  let o := secOff im 8 + 16 * g
  ((List.range (imgField im (o + 8) 4)).map (imgField im (o + 4) 4 + ·)).filter fun v =>
    (List.range 16).any fun j => coreTable im (16 * v + j) != 0xFFFF

/-- The trees of an image's groups (R124, R323, R326): radix and links of each edge, the depth, an edge wherever a group has members
here and elsewhere, and, for an ORDERED composition, a leaf's member clusters contiguous among the group's. -/
def State.treesOk (s : State) (p : Nat) (im : List Byte) (pl : SlotPlace) : Bool :=
  pl.trees.all (fun t => s.treeOk p t && decide (t.levels ≤ treeDepth (s.part p).members.length)) &&
  (List.range (secCount im 8)).all fun g =>
    let all := groupClusters im g
    let here := all.filter fun v => pl.vclus.any fun x => x.1 == v
    let t := treeSpec g pl.trees
    (here.isEmpty || here.length == all.length || t.parent.isSome || !t.children.isEmpty)
      && (!bitAt (s.part p).flags 3 || !t.children.isEmpty || here.isEmpty
        || (((all.dropWhile fun v => !here.contains v).take here.length) == here))

/-- A slot's placement keeps the rules (R124, R306, R323, R339, R340). -/
def State.placeOk (s : State) (p : Nat) (im : List Byte) (pl : SlotPlace) : Bool :=
  s.unitsOk p im pl && s.objsOk p im pl false && s.treesOk p im pl

/-- The placement that this member's Curator makes of a slot's units homed here (R340). -/
def State.placed (s : State) (p : Nat) (im : List Byte) (pl : SlotPlace) : SlotPlace :=
  pl.choose im (maskList 48 (s.part p).clusters) ((s.part p).spans.map (·.1))

/-- The physical object of declaration `i` of an image, where it lies on this module (R306). -/
def State.declPhys (s : State) (p slot : Nat) (im : List Byte) (i : Nat) : Option Nat :=
  let q := s.part p
  if declOwner im i = 0xFFFFFFFF then
    match tblGet (fun _ => none) q.dobj (unitKey slot (declObj im i - 0x80000)) with
    | some r => if r.fid = s.reg bFAB then some r.obj else none
    | none => none
  else (tblGet (fun _ => none) q.vmap (unitKey slot (declOwner im i))).map fun k => 0x100 * k + declObj im i

/-- The objects of an image assigned to its partition (R305). -/
def State.assignObjs (s : State) (p slot : Nat) (im : List Byte) : List Nat → State
  | [] => s
  | i :: is =>
    (match s.declPhys p slot im i with
    | some o => s.setObj o { s.obj o with owner := some p, vobj := declObj im i }
    | none => s).assignObjs p slot im is

/-- Host WAITs of an object's list completed; its cores stay. -/
def State.endHostWaits (s : State) (status result : Nat) : List Waiter → State
  | [] => s
  | .host d :: ws => (s.endDesc d status result).endHostWaits status result ws
  | .core _ _ :: ws => s.endHostWaits status result ws

/-- An object unassigned, its host WAITs completed (R409). -/
def State.freeObj (s : State) (o status result : Nat) : State :=
  let ws := (s.obj o).waiters
  (s.setObj o SyncObj.reset).endHostWaits status result ws

/-- Objects unassigned. -/
def State.freeObjs (s : State) (status result : Nat) : List Nat → State
  | [] => s
  | o :: os => (s.freeObj o status result).freeObjs status result os

/-- The objects of an image of a slot. -/
def State.imageObjs (s : State) (p slot : Nat) (im : List Byte) : List Nat :=
  (List.range (secCount im 6)).filterMap fun i => s.declPhys p slot im i

/-- An image rebased on its placement and its objects assigned (R134, R306). -/
def State.bindImage (s : State) (p : Nat) (pl : SlotPlace) : State :=
  match (s.part p).image pl.slot with
  | none => s
  | some im =>
    let s1 := s.modPart p fun q =>
      { (q.place pl) with images := tblSet (fun _ => none) q.images pl.slot (some { im with bytes := rebase pl q.windows im.raw }) }
    s1.assignObjs p pl.slot im.raw (List.range (secCount im.raw 6))

/-! Launch start (R121, R135, R136, R347) -/

/-- Shared clusters of a partition, those that another may hold (R363). -/
def State.sharedOf (s : State) (p : Nat) : List Nat := (maskList 48 (s.part p).clusters).filter fun k => (s.clu k).shared

/-- The partition holds all its clusters. -/
def State.holdsAll (s : State) (p : Nat) : Bool :=
  (s.sharedOf p).all fun k => (s.clu k).bound && (s.clu k).part == p

/-- The L1s of a cluster's engine ports: its two DMA engines and its 16 load/store ports (R225). -/
def clusterL1s (k : Nat) : List Nat := [2 * k, 2 * k + 1] ++ (List.range 16).map fun j => 112 + 16 * k + j

/-- L1s invalidated. -/
def State.dropL1s (s : State) : List Nat → State
  | [] => s
  | e :: es => (s.setL1 e []).dropL1s es

/-- A cluster reloaded where its tag is stale, and raised (R136, R347). -/
def State.reload (s : State) (p k : Nat) : State :=
  let s1 := s.raiseCluster k
  let c := s1.clu k
  let e := (s.part p).epoch
  let s2 := s1.setClu k { c with bound := true, part := p, epoch := e, idleAt := s.now }
  if c.bound ∧ c.part = p ∧ c.epoch = e then s2
  else s2.dropL1s (clusterL1s k)

/-- Clusters reloaded. -/
def State.reloads (s : State) (p : Nat) : List Nat → State
  | [] => s
  | k :: ks => (s.reload p k).reloads p ks

/-- A core as a launch finds it (R80, R135, R139): position, counters and queues empty; the banks of a non-idle core are as after
ZERO and its weight buffers hold no tile; vector and predicate registers stay, and an idle core's datapath too. -/
def Core.launch (k : Core) (p slot v table desc seed : Nat) : Core :=
  { Core.reset with
    st := if table = 0xFFFF then .idle else .running, part := p, slot := slot, vcore := v, table := table, descBase := desc,
    seedBase := seed, vregs := k.vregs, preds := k.preds,
    w0 := if table = 0xFFFF then k.w0 else none, w1 := if table = 0xFFFF then k.w1 else none,
    acc0 := if table = 0xFFFF then k.acc0 else Bank.empty, acc1 := if table = 0xFFFF then k.acc1 else Bank.empty }

/-- The cores of a placed virtual cluster started. -/
def State.startCores (s : State) (p slot v k : Nat) (im : List Byte) : Nat → State
  | 0 => s
  | j + 1 =>
    let c := 16 * k + j
    let u := 16 * v + j
    (s.modCore c fun x => x.launch p slot u (coreTable im u) (coreDesc im u) (coreSeed im u)).startCores p slot v k im j

/-- The cores of every placed virtual cluster started. -/
def State.startClusters (s : State) (p slot : Nat) (im : List Byte) : List (Nat × Nat) → State
  | [] => s
  | x :: xs => (s.startCores p slot x.1 x.2 im 16).startClusters p slot im xs

/-- Declared objects set (R121, R307); host waiters still listed end with result RESET (R409). -/
def State.setDecls (s : State) (p slot : Nat) (im : List Byte) : List Nat → State
  | [] => s
  | i :: is =>
    (match s.declPhys p slot im i with
    | none => s
    | some o =>
      let init := imgField im (declOff im i + 8) 4
      let mx := imgField im (declOff im i + 16) 4
      let ws := (s.obj o).waiters
      (s.setObj o { owner := some p, count := init, target := imgField im (declOff im i + 12) 4, max := mx, fired := 0,
                    fault := if init > mx then 2 else 0, waiters := [], vobj := declObj im i, tsLast := s.now,
                    primed := decide (init > mx) }).endHostWaits 2 5 ws).setDecls p slot im is

/-- Objects of partition `p` that no image of the launch declares carry no number. -/
def clearVobj (p : Nat) : Tbl SyncObj → Tbl SyncObj
  | [] => []
  | e :: t => (e.1, if e.2.owner = some p then { e.2 with vobj := 0xFFFFF } else e.2) :: clearVobj p t

/-- Members of group `g` on this module: physical and virtual core, in virtual order (R124, R326). -/
def groupMembers (q : Part) (slot : Nat) (im : List Byte) (g : Nat) : List (Nat × Nat) :=
  let o := secOff im 8 + 16 * g
  ((List.range (imgField im (o + 8) 4)).map (imgField im (o + 4) 4 + ·)).flatMap fun v =>
    match tblGet (fun _ => none) q.vmap (unitKey slot v) with
    | some k => ((List.range 16).filter fun j => coreTable im (16 * v + j) != 0xFFFF).map fun j => (16 * k + j, 16 * v + j)
    | none => []

/-- The tree nodes of a launch, SEQ 0 (R323). -/
def State.startTrees (s : State) (p slot : Nat) (im : List Byte) : List Nat → State
  | [] => s
  | g :: gs =>
    let q := s.part p
    let t := treeSpec g (tblGet (fun _ => []) q.trees slot)
    let n := { TreeNode.empty with
      parent := t.parent, children := t.children, levels := t.levels, members := groupMembers q slot im g,
      root := imgField im (secOff im 8 + 16 * g + 12) 4 }
    (s.setTree (treeKey p g) n).startTrees p slot im gs

/-- The part of a launch that a member runs started (R135). -/
def State.startMember (s : State) (p slot : Nat) : State :=
  let q := s.part p
  match q.image slot with
  | none => s
  | some im =>
    let pl := q.placed slot
    let s1 := s.reloads p (pl.map (·.2))
    let s2 := { s1 with objs := clearVobj p s1.objs }
    let s3 := s2.setDecls p slot im.bytes (List.range (secCount im.bytes 6))
    let s4 := { s3 with trees := tblClear (treeKey p 0) (treeKey (p + 1) 0) s3.trees }
    let s5 := s4.startTrees p slot im.bytes (List.range (secCount im.bytes 8))
    s5.startClusters p slot im.bytes pl

/-- Time in ns after which a launch's watchdog fires: BOUND ÷ 0.9 GHz × F (R518). -/
def watchLimit (bound f : Nat) : Nat := bound * 10 * f / 36

def kWdogCfg (p : Nat) : Nat := bERR + 0x20C + 0x20 * p
def kWdogStat (p : Nat) : Nat := bERR + 0x210 + 0x20 * p

/-- A message of the Curator to every other member (R338). -/
def State.tellMembers (s : State) (p kind a b : Nat) : State :=
  let own := s.reg bFAB
  s.emits (((s.part p).members.filter fun m => m.fid != own).map fun m => .curator m.fid kind a b)

/-- Fabric IDs of the other members. -/
def State.otherMembers (s : State) (p : Nat) : List Nat :=
  ((s.part p).members.map (·.fid)).filter (· ≠ s.reg bFAB)

/-- A launch started at the anchor: the start broadcast, this member's part, the watchdog (R135, R518). -/
def State.startLaunch (s : State) (p : Nat) (x : Queued) : State :=
  let f := s.reg (kWdogCfg p) % 32
  let bound := match (s.part p).image x.slot with
    | some im => imBound im.bytes
    | none => 0
  let l : Launch :=
    { slot := x.slot, salt := x.salt, cookie := x.cookie, start := s.now, result := 0, faultCore := 0xFFFFFFFF, faultCode := 0,
      rebind := false, carried := false, host := some x.desc, waiting := s.otherMembers p, localDone := false, ctx := x.ctx,
      at_ := x.at_, limit := watchLimit bound f, paused := 0 }
  let s1 := (s.modPart p fun q => { q with launch := some l, swAsked := false }).setReg (kWdogStat p) (2 ^ 31 + x.slot)
  (s1.tellMembers p 9 x.slot x.salt).startMember p x.slot

/-- The next queued launch starts, where the composition is sealed and idle and holds its clusters; where it does not, a
switch-in request goes to every member that may share them (R135, R364). -/
def State.launchNext (s : State) (p : Nat) : State :=
  let q := s.part p
  match q.queue with
  | [] => s
  | x :: xs =>
    let stops := match q.op with
      | some o => (o.op == 3 || o.op == 4) && decide (o.step ≥ 1)
      | none => false
    if q.launch.isSome ∨ !(q.st = .sealed ∨ q.st = .suspended) ∨ stops = true then s
    else if q.st = .sealed ∧ s.holdsAll p ∧ q.swWait.isEmpty ∧ (q.swAsked ∨ !bitAt q.flags 4 ∨ q.members.length ≤ 1) then
      (s.modPart p fun q => { q with queue := xs }).startLaunch p x
    else if q.swAsked then s
    else
      let s1 := s.modPart p fun q => { q with swAsked := true, swWait := s.otherMembers p }
      let s2 := s1.tellMembers p 15 x.at_ 0
      { s2 with switches := s2.switches ++ [⟨p, x.at_⟩] }

/-! The end of a launch (R137, R138, R364, R390) -/

/-- Every core of the partition here has ended and every transfer its engines took is done. -/
def State.localQuiet (s : State) (p : Nat) : Bool :=
  s.cores.all (fun e => e.2.part != p || !e.2.active) &&
    s.engines.all fun e => e.2.queue.all fun x => x.part != p || x.host.isSome

/-- STATUS of a LAUNCH completion by its result (R399, Table 8). -/
def launchStatus (r : Nat) : Nat := if r = 0 then 0 else if r = 3 then 3 else 2

/-- RESULT of a LAUNCH (R390). -/
def launchResult (l : Launch) (t : Nat) : Nat :=
  l.result + l.faultCode * 2 ^ 8 + l.faultCore % 2 ^ 32 * 2 ^ 16 + (t - l.start) % 2 ^ 64 * 2 ^ 48

/-- Clusters of the partition count as idle from now (R497). -/
def State.idleFrom (s : State) : List Nat → State
  | [] => s
  | k :: ks => (s.modClu k fun c => { c with idleAt := s.now }).idleFrom ks

/-- The launch of a partition over on this module. -/
def State.launchOver (s : State) (p : Nat) : State :=
  (s.modPart p fun q => { q with launch := none }).idleFrom (maskList 48 (s.part p).clusters)

/-- The launch of a partition completes (R137, R390): the gather is complete at the anchor, which writes the result, and the next launch
starts; another member reports its part to the anchor. -/
def State.launchComplete (s : State) (p : Nat) : State :=
  let q := s.part p
  match q.launch with
  | none => s
  | some l =>
    if !s.localQuiet p ∨ q.st = .resetting then s
    else if q.anchor ≠ s.reg bFAB then
      (s.launchOver p).emit (.curator q.anchor 10 l.result (l.faultCore * 256 + l.faultCode))
    else if !l.waiting.isEmpty then s
    else
      let s1 := (s.launchOver p).setReg (kWdogStat p) 0
      let s2 := match l.host with
        | some d => s1.endDesc d (launchStatus l.result) (launchResult l s.now)
        | none => s1
      s2.launchNext p

/-! Images (R133, R389) -/

/-- What the envelope provides over all members (R133). -/
def Part.caps (q : Part) : Caps :=
  ⟨(q.members.map (·.clusters)).sum, (q.members.map (·.groups)).sum, (q.members.map (·.devObjs)).sum, q.members.length⟩

/-- Bytes the itinerary store holds (R341): the images and the catalogue. -/
def Part.storeUsed (q : Part) : Nat :=
  (q.images.map fun e => match e.2 with
    | some im => im.raw.length
    | none => 0).sum + q.catalogue.length

/-- The lowest slot without an image. -/
def Part.freeSlot (q : Part) : Option Nat := (List.range 64).find? fun i => (q.image i).isNone

/-- An image checked and, where it passes, stored and placed in a slot (R133, R134, R339); the load status. Before the seal
it is only stored. -/
def State.loadImage (s : State) (p slot : Nat) (bs : List Byte) (pl : SlotPlace) : State × Nat :=
  let q := s.part p
  let c := imageCheck q.caps bs
  let pl := s.placed p bs pl
  let sealed_ := q.st ≠ .reserved
  if c ≠ 0 then (s, c)
  else if q.storeUsed + bs.length > 2 ^ 28 then (s, 0x0A)
  else if sealed_ ∧ !(s.placeOk p bs { pl with slot := slot }) then (s, 9)
  else
    let s1 := s.modPart p fun q => { q with images := tblSet (fun _ => none) q.images slot (some ⟨bs, bs⟩) }
    (if sealed_ then s1.bindImage p { pl with slot := slot } else s1, 0)

/-- An image taken out of a slot (R389, R409): its host WAITs end UNKNOWN, its objects are freed. -/
def State.dropImage (s : State) (p slot : Nat) : State :=
  match (s.part p).image slot with
  | none => s
  | some im =>
    let os := s.imageObjs p slot im.raw
    (s.freeObjs 2 2 os).modPart p fun q =>
      { q with images := tblSet (fun _ => none) q.images slot none, vmap := dropSlot slot q.vmap, gmap := dropSlot slot q.gmap,
               dobj := dropSlot slot q.dobj, trees := tblSet (fun _ => []) q.trees slot [],
               mplaces := q.mplaces.map fun m => (m.1, m.2.filter fun x => x.slot != slot) }

/-- The states in which images may be loaded (R348, Table 6); a load during a seal waits (R353). -/
def Part.loadable (q : Part) : Bool :=
  (q.st == .reserved || q.st == .sealed || q.st == .suspended) && (match q.op with
    | some o => o.op != 2
    | none => true)

/-- STATUS and RESULT of a LOAD. -/
def loadResult (status slot : Nat) : Nat × Nat := (if status = 0 then 0 else 2, status + slot * 256)

/-- Placements of a member recorded at the anchor, in place of what it placed before in the same slots. -/
def Part.addPlaces (q : Part) (fid : Nat) (pls : List SlotPlace) : Part :=
  let old := (q.mplaces.filter fun m => m.1 == fid).flatMap fun m => m.2.filter fun x => pls.all fun y => y.slot != x.slot
  { q with mplaces := (q.mplaces.filter fun m => m.1 != fid) ++ [(fid, old ++ pls)] }

/-- A LOAD ends at the anchor. -/
def State.loadEnd (s : State) (desc status slot : Nat) : State :=
  s.endDesc desc (loadResult status slot).1 (loadResult status slot).2

/-- A LOAD at the anchor (R389): the image is read through the partition's translation; an image that cannot be read ends
the load FAILED with a status the spec does not state (free). -/
def State.loadHere (s : State) (d : HostDesc) (p : Nat) (pl : SlotPlace) : State :=
  let q := s.part p
  match q.freeSlot with
  | none => s.loadEnd d.id 0x0B 0
  | some slot =>
    let n := d.fld 32 4
    match s.readVa hostIn p (d.fld 24 8 % 2 ^ 52) n (sectors n) with
    | (s1, 0, bs) =>
      let r := s1.loadImage p slot bs pl
      if r.2 ≠ 0 then r.1.loadEnd d.id r.2 slot
      else
        let s2 := if q.st = .reserved then r.1 else r.1.modPart p fun q =>
          q.addPlaces (s.reg bFAB) [{ s.placed p bs pl with slot := slot }]
        if (s2.otherMembers p).isEmpty then s2.loadEnd d.id 0 slot
        else
          let s3 := (s2.modPart p fun q => { q with loads := q.loads ++ [⟨d.id, slot, s.otherMembers p, 0⟩] }).tellMembers p 11 slot 0
          s3.emits ((s.otherMembers p).map fun f => .catalogue f bs)
    | (s1, _, _) => (s1.draw).endDesc d.id 2 (Config.free s.freeCtr % 256 + slot * 256)

/-- LOAD (R389). `pl` is this member's part of the image's placement (R339, R340; log 28). -/
def execLoad (from_ : LoadFrom) (pl : SlotPlace) (s : State) : Out :=
  .next (match from_ with
    | .ring fn r =>
      if (match s.startable fn r with
        | some d => d.type == 1 && s.isAnchor (d.fn - 1) && !(s.part (d.fn - 1)).loadable
        | none => false) then s
      else s.startDesc fn r 1 fun d s => s.loadHere d (fn - 1) pl
    | .member p slot bytes =>
      let q := s.part p
      if !q.loadable ∨ q.anchor = s.reg bFAB then s
      else
        let r := s.loadImage p slot bytes pl
        r.1.emit (.curator q.anchor 12 slot r.2))

/-- A launch of the slot runs or waits. -/
def Part.slotBusy (q : Part) (slot : Nat) : Bool :=
  (match q.launch with
    | some l => l.slot == slot
    | none => false) || q.queue.any fun x => x.slot == slot

/-- UNLOAD (R389). -/
def execUnload (from_ : SlotFrom) (s : State) : Out :=
  .next (match from_ with
    | .ring fn r => s.startDesc fn r 2 fun d s =>
      let p := fn.val - 1
      let slot := d.fld 24 1
      if (s.part p).slotBusy slot then s.endDesc d.id 2 1
      else if ((s.part p).image slot).isNone then s.endDesc d.id 2 2
      else ((s.dropImage p slot).tellMembers p 13 slot 0).endDesc d.id 0 0
    | .member p slot _ => if (s.part p).anchor = s.reg bFAB then s else s.dropImage p slot)

/-- LAUNCH (R135, R390): accepted into the anchor's queue; a slot without an image ends FAILED. At another member the
start broadcast starts its part. -/
def execLaunch (from_ : SlotFrom) (s : State) : Out :=
  .next (match from_ with
    | .ring fn r => s.startDesc fn r 3 fun d s =>
      let p := fn.val - 1
      let slot := d.fld 24 1
      if ((s.part p).image slot).isNone then s.endDesc d.id 2 1
      else
        (s.modPart p fun q => { q with queue := q.queue ++ [⟨d.id, slot, d.fld 32 8, d.cookie, d.ctx, s.now⟩] }).launchNext p
    | .member p slot salt =>
      let q := s.part p
      if q.anchor = s.reg bFAB ∨ q.st ≠ .sealed ∨ q.launch.isSome then s
      else
        let l : Launch :=
          { slot := slot, salt := salt.toNat, cookie := 0, start := s.now, result := 0, faultCore := 0xFFFFFFFF, faultCode := 0,
            rebind := false, carried := false, host := none, waiting := [], localDone := false, ctx := 0xFFFF, at_ := s.now,
            limit := 0, paused := 0 }
        (s.modPart p fun q => { q with launch := some l }).startMember p slot)

end Sys2Proof.Machine
end

