-- ==== Sys2Proof/Machine/TdiOps.lean ====
section
/-! DEFINITION. Work taken out of the engines by descriptor, context resets, TDIs and tenant sessions that a change of a
partition's state ends (spec/19: R522; spec/15: R424; spec/17: R479, R486). -/
namespace Sys2Proof.Machine

/-- Host copies of the removed work completed ABORTED (R399, R524). -/
def State.abortCopies (s : State) : List (Nat × Xfer) → State
  | [] => s
  | x :: xs => (match x.2.host with
    | some d => s.endDesc d 3 (s.statusRecord x.2 x.1)
    | none => s).abortCopies xs

/-- Transfers stopped whose data has not moved yet: their destinations are undefined (R424, R522, R524; log 49). -/
def State.stopXfers (s : State) : List (Nat × Xfer) → State
  | [] => s
  | x :: xs =>
    let good := match (if x.2.kind = .direct then (s.directCheck x.2).map fun _ => () else (s.xferCheck x.2).map fun _ => ()) with
      | .ok _ => true
      | .error _ => false
    (if !x.2.started ∨ x.2.moved ∨ x.2.src.space ≠ 2 ∨ x.2.disp.isSome ∨ !good then s
     else s.leaveOpen x.2 x.1 (dropBytes 0 (s.dstRanges x.2))).stopXfers xs

/-- Engines that have lost transfers go on with the next ones (R95, R108). -/
def State.refillAll (s : State) : List Nat → State
  | [] => s
  | e :: es => (s.refillEngine e).refillAll es

/-- The transfers of the engines that meet a test removed; what remains, and they with their engines. -/
def State.dropXfers (s : State) (f : Xfer → Bool) : State × List (Nat × Xfer) :=
  let gone := s.engines.flatMap fun e => (e.2.queue.filter f).map fun x => (e.1, x)
  let es := s.engines.filterMap fun e =>
    let k : Engine := { e.2 with queue := e.2.queue.filter fun x => !f x }
    if k.queue.isEmpty ∧ k.waiting.isEmpty then none else some (e.1, k)
  (({ s with engines := es } : State).stopXfers gone, gone)

/-- Transfers removed, and the engines that lost them going on. -/
def State.pullXfers (s : State) (f : Xfer → Bool) : State × List (Nat × Xfer) :=
  let r := s.dropXfers f
  (r.1.refillAll ((r.2.map (·.1)).eraseDups), r.2)

/-- The descriptor is the running launch of its partition. -/
def State.isRunning (s : State) (d : HostDesc) : Bool :=
  match (s.part (d.fn - 1)).launch with
  | some l => d.fn != 0 && l.host == some d.id
  | none => false

/-- A fetched descriptor removed from every queue and list, and completed ABORTED (R424, R522). A SIGNAL's flit that is out
changes nothing any more here. -/
def State.removeDesc (s : State) (d : HostDesc) : State :=
  let r := s.pullXfers fun x => x.host == some d.id
  let s1 := r.1
  let s2 : State := match d.obj with
    | some o => s1.setObj o { s1.obj o with waiters := (s1.obj o).waiters.filter fun w => w != .host d.id }
    | none => s1
  let s3 := if d.fn = 0 then s2 else s2.modPart (d.fn - 1) fun q =>
    { q with queue := q.queue.filter fun x => x.desc != d.id, loads := q.loads.filter fun x => x.desc != d.id }
  let s4 : State := { s3 with txns := s3.txns.map fun e => (e.1, e.2.map fun t =>
    if t.engine = 2000 ∧ t.seq = d.id then { t with resting := true } else t) }
  match r.2 with
  | x :: _ => s4.endDesc d.id 3 (s4.statusRecord x.2 x.1)
  | [] => s4.endDesc d.id 3 (if d.type = 3 then 3 else 0)

/-- The descriptors of a list removed, but for running launches and those that have ended; how many there were. -/
def State.removeDescs (s : State) : List HostDesc → State × Nat
  | [] => (s, 0)
  | d :: ds =>
    match s.desc d.id with
    | none => s.removeDescs ds
    | some x =>
      if x.isOver ∨ s.isRunning x then s.removeDescs ds
      else
        let r := (s.removeDesc x).removeDescs ds
        (r.1, r.2 + 1)

/-- The work of a context of VF `v` removed, its instance told; how many descriptors were aborted (R522). Causes: 1 instance
request, 2 manager, 3 module. A running launch is left to the composition reset. -/
def State.ctxRemove (s : State) (v h cause : Nat) : State × Nat :=
  let r := s.removeDescs (s.descs.filter fun d => d.fn == v && d.ctx == h)
  let s1 := (r.1.mbEvent (v - 1) 9 (h + cause * 2 ^ 16)).ledgerPart 0x0A04 (v - 1) h cause 0 0
  (s1, r.2)

/-- Contexts removed. -/
def State.ctxRemoves (s : State) (v cause : Nat) : List Nat → State
  | [] => s
  | h :: hs => ((s.ctxRemove v h cause).1).ctxRemoves v cause hs

/-- A TDI leaves LOCKED or RUN for a state; leaving RUN resets every context of its instance (R486, R522). -/
def State.tdiTo (s : State) (v : Nat) (st : TdiSt) : State :=
  let i := s.inst v
  let s1 := s.setInst v { i with tdi := st }
  if i.tdi = .run ∧ st ≠ .run then s1.ctxRemoves v 3 i.ctxs else s1

/-- A TDI enters ERROR (R486). -/
def State.tdiFail (s : State) (v : Nat) : State :=
  if (s.inst v).tdi = .locked ∨ (s.inst v).tdi = .run then s.tdiTo v .error else s

/-- The tenant sessions of a partition end, with what they have pending (R479). -/
def State.endTenants (s : State) (p : Nat) : State :=
  { s with
    sessions := s.sessions.map fun x => if (x.tenant.map (·.part)) = some p then { x with tenant := none } else x,
    seals := tblSet (fun _ => []) s.seals p [] }

end Sys2Proof.Machine
end

