-- ==== Sys2Proof/Machine/CurOps.lean ====
section
/-! DEFINITION. Operations of the Curator: envelopes, the choice and the release of units, windows, placement, the
catalogue, migration, switching (spec/13: R332 to R365; spec/17: R457, R459, R466). -/
namespace Sys2Proof.Machine

/-! Envelopes (R335, R336) -/

/-- A member entry (R335, Table 3), and whether a reserved field of it is non-zero. -/
def memberOf (bs : List Byte) (o : Nat) : EnvMember × Bool :=
  let f := fun a n => imgField bs (o + a) n
  (⟨f 0 2, f 2 1, f 3 1, f 4 1, f 5 1, f 6 2, f 8 2, f 0xA 2, bitAt (f 0xC 1) 0, f 0x10 12⟩,
   decide (f 0xC 1 ≥ 2) || f 0xD 3 != 0 || f 0x1C 4 != 0)

/-- An envelope read from bytes (R335). -/
def envelopeOf (bs : List Byte) : Envelope :=
  let f := fun a n => imgField bs a n
  let n := f 0x10 4
  let ms := (List.range (min n 12288)).map fun i => memberOf bs (64 + 32 * i)
  { role := f 5 1, flags := f 6 2, comp := f 8 3, anchor := f 0xC 2, sfr := f 0xE 1, seq := f 0x14 4, quantum := f 0x18 4,
    members := ms.map (·.1),
    bad := decide (bs.length < 64 + 32 * n) || f 0 4 != 0x564E4543 || f 4 1 != 1 || decide (n = 0) || decide (n > 12288)
      || decide (f 5 1 > 2) || decide (f 6 2 ≥ 32) || f 0xB 1 != 0 || f 0xF 1 != 0 || f 0x1C 36 != 0 || f 0x14 4 == 0
      || ms.any (·.2) }

/-- FLAGS of an envelope (R335, Table 2). -/
def flagConf (flags : Nat) : Bool := bitAt flags 1
def flagAlloc (flags : Nat) : Bool := bitAt flags 2
def flagSliceable (flags : Nat) : Bool := bitAt flags 4

/-- A Fabric ID that names a module (R272). -/
def fidOk (f : Nat) : Bool := decide (f < 16384) && decide (f % 64 < 48)

/-- A member entry that its role or its range does not allow (R332, R335, R336). -/
def memberBad (role flags : Nat) (m : EnvMember) : Bool :=
  decide (m.clusters > 48) || decide (m.groups = 0) || decide (m.groups > 32) || decide (m.ways > 16) || decide (m.share > 60)
    || decide (m.grant > 4400) || decide (m.devObjs > 4096) || decide (m.carve % m.groups ≠ 0) || decide (m.carve > m.groups * 378)
    || (role == 2 && (m.clusters != 0 || !m.dedicated))
    || (role == 1 && (m.clusters == 0 || !m.dedicated || m.grant == 0))
    || (role == 0 && (m.clusters == 0 || (!bitAt flags 0 && m.grant != 0)))

/-- R336: the envelope is refused with ENVELOPE. -/
def State.envelopeBad (s : State) (e : Envelope) : Bool :=
  let fids := e.members.map (·.fid)
  e.bad || fids.any (fun f => !fidOk f) || !decide fids.Nodup || !fids.contains e.anchor
    || (flagAlloc e.flags && (flagConf e.flags || decide (e.members.length > s.reg (bCMP + 0x1000) % 2 ^ 14)))
    || (flagSliceable e.flags && e.role != 0) || e.members.any (memberBad e.role e.flags)

/-- The entry of a module. -/
def Envelope.entryOf (e : Envelope) (fid : Nat) : Option EnvMember := e.members.find? fun m => m.fid == fid

/-- SCHED_FMT_REV of this module (R1). -/
def schedFmtRev : Nat := 3

/-! State of a partition and results -/

/-- CMP_PART_STATE.STATE (R348, Table 6). -/
def PartSt.code : PartSt → Nat
  | .free => 0 | .reserved => 1 | .sealed => 2 | .rebinding => 3 | .suspended => 4 | .resetting => 5 | .failed => 6
  | .dissolving => 7

/-- A partition's state changed, and its instance told (R422: COMPOSITION). Outside SEALED and REBINDING its tenant sessions end
(R479); a reset, a failure and a dissolution take its TDI to ERROR (R486). -/
def State.setSt (s : State) (p : Nat) (st : PartSt) : State :=
  if (s.part p).st = st then s
  else
    let s1 := (s.modPart p fun q => { q with st := st }).mbEvent p 0x0B (st.code * 2 ^ 64 + (s.part p).epoch)
    let s2 := if st = .sealed ∨ st = .rebinding then s1 else s1.endTenants p
    if st = .resetting ∨ st = .failed ∨ st = .dissolving then s2.tdiFail (p + 1) else s2

def kPartResult (p : Nat) : Nat := bCMP + 0x80 * p + 0x40
def kPartCtrl (p : Nat) : Nat := bCMP + 0x80 * p + 0x2C

/-- The catalogue hash (R346). -/
def catHash (bs : List Byte) : List Byte := toBytes 48 (Config.sha384 bs).toNat

/-- The descriptors that wait for an operation completed, each with the hash and the epoch written where it asks for them
(R395). -/
def State.endBinds (s : State) (code epoch : Nat) (cat : List Byte) (hash : Bool) : List (Nat × Nat) → State
  | [] => s
  | d :: ds =>
    let s1 := if hash ∧ d.2 ≠ 0 then s.hostWrite 0 d.2 (catHash cat ++ toBytes 8 epoch) else s
    (s1.endDesc d.1 (if code = 0 then 0 else 2) (code + epoch * 2 ^ 16)).endBinds code epoch cat hash ds

/-- Requests over MCTP that end with an operation: the event of R405 and the replies with the code (R403, Table 11). -/
def State.mctpBindEnd (s : State) (seqs : List Nat) (comp code : Nat) : State :=
  if seqs.isEmpty then s
  else (s.emits (seqs.map fun q => .mctp ([0x7E, 0xC7, 0xA5, 0x83, BitVec.ofNat 8 q, 0, BitVec.ofNat 8 code]))).mctpEvent 4 comp

/-- The Curator's operation on a partition ends with a result of Table 9 (R352). -/
def State.opEnd (s : State) (p code : Nat) : State :=
  let q := s.part p
  match q.op with
  | none => s
  | some o =>
    let s1 := (s.modPart p fun q => { q with op := none, plan := none }).setReg (kPartResult p) (o.op * 2 ^ 16 + code)
    let s2 := if o.op = 3 ∧ !q.rebindDue then s1.clearBits (kPartCtrl p) 1 else s1
    let s3 := s2.endBinds code q.epoch q.catalogue (code == 0 && (o.op == 2 || o.op == 3)) o.descs
    s3.mctpBindEnd o.mctp q.comp code

/-- A bind request that ends without an operation: no partition holds it. -/
def State.bindReply (s : State) (descs : List (Nat × Nat)) (mctp : List Nat) (comp code : Nat) : State :=
  let s1 := s.endBinds code 0 [] false descs
  s1.mctpBindEnd mctp comp code

/-- A Curator serves an operation (R353). -/
def State.curBusy (s : State) : Bool := s.parts.any fun e => e.2.op.isSome

/-! Free units (R174, R340, R341, R349, R363, R448, R459, R187) -/

/-- Partitions whose slice holds a cluster. -/
def State.holdersOf (s : State) (k : Nat) : List Nat :=
  (List.range 32).filter fun p => (s.part p).st != .free && (bitAt (s.part p).clusters k || bitAt (s.part p).newClu k)

/-- The lowest clusters that a slice of `n` takes: free ones, then, for a SLICEABLE envelope, those that fewer than four
SLICEABLE partitions hold (R363). -/
def State.pickClusters (s : State) (n : Nat) (slice : Bool) : Option (List Nat) :=
  let free := (List.range 48).filter fun k => (s.holdersOf k).isEmpty
  let more := (List.range 48).filter fun k =>
    let h := s.holdersOf k
    !h.isEmpty && decide (h.length < 4) && h.all fun p => flagSliceable (s.part p).flags
  if n ≤ free.length then some (free.take n)
  else if slice ∧ n ≤ free.length + more.length then some (free ++ more.take (n - free.length))
  else none

/-- Pages of a region: 32, in region 11 26 (R172). -/
def regionPages (q : Nat) : Nat := if q % 12 = 11 then 26 else 32

/-- A region free to be given: no owner, no clear in progress, not in the pool, and keys to be had (R174, R448, R459, R466). -/
def State.regionFree (s : State) (q : Nat) : Bool :=
  (s.region q).owner.isNone && !(s.region q).clearing && !((s.group (q / 12)).taking.any fun t => t.regions.contains (q % 12))
    && !(s.cus.badKeys.any fun x => x / 12 == q / 12)
    && (s.poolPage (q / 12 * 512 + q % 12 * 32)).isNone && s.drbgUp

/-- A block of the page is withheld (R187). -/
def State.pageWithheld (s : State) (pg : Nat) : Bool := s.withheld.any fun w => w.block / 8192 == pg

/-- `n` pages from `pg` on are not withheld. -/
def State.pagesOk (s : State) (pg n : Nat) : Bool := (List.range n).all fun i => !s.pageWithheld (pg + i)

/-- Where `n` pages fit in group `g`: the first page in the group, and the regions taken. -/
def State.fitGroup (s : State) (g n : Nat) (dedicated : Bool) : Option (Nat × List Nat) :=
  if n > 378 then none
  else if dedicated then
    if (s.group g).mode = .free ∧ (List.range 12).all (fun r => s.regionFree (12 * g + r)) then
      ((List.range (379 - n)).find? fun o => s.pagesOk (512 * g + o) n).map fun o => (o, List.range 12)
    else none
  else if (s.group g).mode = .dedicated then none
  else
    ((List.range 12).find? fun r =>
      decide (32 * r + n ≤ 378) && (List.range (ceilDiv n 32)).all (fun i => s.regionFree (12 * g + r + i))
        && s.pagesOk (512 * g + 32 * r) n).map fun r => (32 * r, (List.range (ceilDiv n 32)).map (r + ·))

/-- Pool ways of a group that are not under a move (R191). -/
def State.poolWays (s : State) (g : Nat) : List Nat :=
  (List.range 16).filter fun w =>
    s.wayKind (16 * g + w) == .pool && (s.group g).waysMoving.all fun e => e.1 != w

/-- Pages of the itinerary store and of the save area (R341). -/
def extraPages (flags clusters : Nat) : Nat :=
  8 + (if flagSliceable flags then ceilDiv (clusters * (16 * 2 ^ 20 + 65536)) (2 ^ 25) else 0)

/-- The share entry of a partition that an envelope or a prepared update gives it, the larger in each count (R353). -/
def State.claims (s : State) (x : Nat) : List EnvMember :=
  let q := s.part x
  if q.st = .free then []
  else match q.entry, q.newEnv.bind fun e => e.entryOf (s.reg bFAB) with
    | some a, some b => [{ a with share := max a.share b.share, devObjs := max a.devObjs b.devObjs }]
    | some a, none => [a]
    | none, some b => [b]
    | none, none => []

/-- Key of a grant (R219). -/
def kGrant (g p : Nat) : Nat := bQOS + 0x1000 + 0x80 * g + 4 * p

/-- What partition `x` has of a grant at group `g`, or will have under its prepared update, the larger (R213, R353). -/
def State.grantClaim (s : State) (g x : Nat) : Nat :=
  let q := s.part x
  let now := if bitAt (s.reg (kGrant g x)) 31 then s.reg (kGrant g x) % 65536 else 0
  let next := match q.newEnv.bind fun e => e.entryOf (s.reg bFAB) with
    | some m => if (q.newSpans.map (·.1)).contains g then m.grant else 0
    | none => 0
  max now next

/-- The grants at a group but those of partition `p` leave room for `rate` more (R213). -/
def State.grantFits (s : State) (p g rate : Nat) : Bool :=
  decide ((((List.range 32).filter fun x => x != p).map (s.grantClaim g)).sum + rate ≤ s.reg (bQOS + 0x608) % 65536)

/-- The lowest `n` groups outside `skip` in which `pages` pages fit, each with the first page there and its regions; one has
the pool ways asked (R340, R341), and where `rate` is given the room for the grant (R213). -/
def State.pickGroups (s : State) (n pages ways : Nat) (dedicated : Bool) (rate : Option (Nat × Nat)) (skip : List Nat) :
    Option (List (Nat × Nat × List Nat)) :=
  let room := fun g => match rate with
    | some r => s.grantFits r.1 g r.2
    | none => true
  let fits := (List.range 32).filterMap fun g =>
    if skip.contains g ∨ !room g ∨ !(dedicated || decide (ways ≤ (s.poolWays g).length)) then none
    else (s.fitGroup g pages dedicated).map fun x => (g, x)
  if n ≤ fits.length then some (fits.take n) else none

/-! Taking units (R349 step 3) -/

/-- A group joins a slice: ways under move, grant, and mode, owner and regions, which wait until it has left self-refresh
(R174, R191, R193, R197, R212). -/
def State.takeGroup (s : State) (p : Nat) (m : EnvMember) (x : Nat × Nat × List Nat) : State :=
  let g := x.1
  let k := s.group g
  let t : Taking := ⟨p, m.dedicated, x.2.2⟩
  let moves := if m.dedicated then [] else ((s.poolWays g).take m.ways).map fun w => (w, WayKind.part p)
  let s1 := s.setGroup g { k with waysMoving := k.waysMoving ++ moves }
  let s2 := if k.selfRefresh then s1.setGroup g { s1.group g with taking := k.taking ++ [t], exiting := true }
    else s1.giveTakings g [t]
  if m.grant = 0 then s2 else s2.setReg (kGrant g p) (2 ^ 31 + m.grant)

def State.takeGroups (s : State) (p : Nat) (m : EnvMember) : List (Nat × Nat × List Nat) → State
  | [] => s
  | x :: xs => (s.takeGroup p m x).takeGroups p m xs

/-- CLASS of a role (R199, R344). -/
def classCode (role flags : Nat) : Nat := if role = 1 then 2 else if role = 2 ∨ bitAt flags 0 then 1 else 0

/-- Master ports of clusters (R199, Table 1). -/
def portsOf (ks : List Nat) : List Nat := ks ++ ks.flatMap fun k => [48 + 2 * k, 49 + 2 * k]

/-- Token buckets of an RT partition's masters (R206); the sum is split evenly, the rest to the first ports (log 28). -/
def State.setBuckets (s : State) (base rem : Nat) : List Nat → State
  | [] => s
  | m :: ms => (s.setReg (bQOS + 0x200 + 4 * m) ((base + b2n (decide (0 < rem))) * 2 ^ 16 + 16)).setBuckets base (rem - 1) ms

/-- The clusters of a mask. -/
def listMask (ks : List Nat) : Nat := (ks.map fun k => 2 ^ k).sum

/-- SHARED of a cluster's tag: more than one slice holds it (R371). -/
def State.reshare (s : State) : List Nat → State
  | [] => s
  | k :: ks => (s.modClu k fun c => { c with shared := decide (2 ≤ (s.holdersOf k).length) }).reshare ks

/-- Partition numbers prepared and free (R343). -/
def State.freePart (s : State) : Option Nat :=
  (List.range 32).find? fun p =>
    (s.part p).st == .free && (s.part p).clears.isEmpty && bitAt (s.reg (bXLT + 0x40 * p + 8)) 0
      && s.reg (bCMP + 0x80 * p + 0x30) / 2 ^ 16 % 2 ^ 41 != 0

/-- Mesh shares and device objects are left for the entry, prepared updates of other partitions counted (R211, R332, R353). -/
def State.countsFit (s : State) (p : Nat) (m : EnvMember) : Bool :=
  let others := ((List.range 32).filter fun x => x != p).flatMap s.claims
  decide ((others.map (·.share)).sum + m.share ≤ 60) && decide ((others.map (·.devObjs)).sum + m.devObjs ≤ 4096)

/-- Registers that a slice's class, shares and grants set (R199, R206, R210, R219). -/
def State.setQos (s : State) (p role flags : Nat) (m : EnvMember) (ks : List Nat) : State :=
  let s1 := s.setReg (bQOS + 4 * p) (classCode role flags)
  let s2 := (s1.setReg (bQOS + 0x80 + 8 * p) (m.share * 0x01010101)).setReg (bQOS + 0x84 + 8 * p) (m.share * 0x0101)
  if role = 1 then
    let ports := portsOf ks
    s2.setBuckets (m.grant * m.groups / ports.length) (m.grant * m.groups % ports.length) ports
  else s2

/-! The Curator's stage-2 tables (R341, R342) -/

/-- Pages of each span (R341). -/
def Part.each (q : Part) : Nat :=
  (match q.entry with
    | some e => e.carve
    | none => 0) / max 1 q.spans.length

/-- The page of memory behind page `k` of the carve-out (R341). -/
def Part.pageAt (q : Part) (k : Nat) : Option Nat :=
  if q.each = 0 then none else (q.spans[k / q.each]?).map fun x => x.2 + k % q.each

/-- GiB `n` of the carve-out is 32 pages in order from an aligned one, so one leaf maps it: the first page. -/
def Part.bigLeaf (q : Part) (n : Nat) : Option Nat :=
  (q.pageAt (32 * n)).bind fun pg =>
    if pg % 32 = 0 ∧ (List.range 32).all (fun i => q.pageAt (32 * n + i) == some (pg + i)) then some pg else none

/-- GiB `n` of the carve-out maps some page. -/
def Part.mapsIn (q : Part) (n : Nat) : Bool := (List.range 32).any fun i => (q.pageAt (32 * n + i)).isSome

/-- The GiB of the carve-out that need a level-2 table, in order. -/
def Part.smallGibs (q : Part) : List Nat :=
  (List.range (ceilDiv (q.each * q.spans.length) 32)).filter fun n => (q.bigLeaf n).isNone && q.mapsIn n

/-- A stage-2 leaf over a page of memory with both rights, and a pointer entry (R222, Table 3). -/
def leafEntry (pg : Nat) : Nat := pg * 2 ^ 25 + 0x1B
def pointerEntry (a : Nat) : Nat := a + 1

/-- Where the tables under level-0 entry `i`, and under the `r`-th GiB of `smallGibs`, lie in the area at `a`: the spec leaves the
order of the area to the Curator (DESIGN CHOICE log 31). -/
def levelOne (a i : Nat) : Nat := a + 256 * i
def levelTwo (a r : Nat) : Nat := a + 0xC00 + 256 * r

/-- The level-1 entry of GiB `n`. -/
def Part.entryOne (q : Part) (a n : Nat) : Nat :=
  match q.bigLeaf n with
  | some pg => leafEntry pg
  | none => if q.mapsIn n then pointerEntry (levelTwo a (q.smallGibs.takeWhile (· ≠ n)).length) else 0

/-- The level-0 entries below 0x60_0000_0000 that map something. -/
def Part.topUsed (q : Part) : List Nat :=
  (List.range 12).filter fun i => decide (1024 * i < q.each * q.spans.length)

/-- A table of 64-bit entries. -/
def tableBytes (es : List Nat) : List Byte := es.flatMap (toBytes 8)

/-- IOVA of the area for a partition's tables (CMP_PART_S2AREA, R343). -/
def State.s2Area (s : State) (p : Nat) : Nat := s.reg (bCMP + 0x80 * p + 0x30) / 2 ^ 16 % 2 ^ 41 * 2 ^ 16
/-- IOVA of a partition's stage-2 root table. -/
def State.s2Root (s : State) (p : Nat) : Nat := s.reg (bXLT + 8 + 0x40 * p) / 2 ^ 16 % 2 ^ 41 * 2 ^ 16

/-- Tables written to host memory through PF0's access. -/
def State.writeTables (s : State) : List (Nat × List Nat) → State
  | [] => s
  | x :: xs => (s.hostWrite 0 x.1 (tableBytes x.2)).writeTables xs

/-- The Curator's stage-2 entries of partition `p` written (R342): the tables under the root first, then level-0 entries 0 to 11. -/
def State.mapCarve (s : State) (p : Nat) : State :=
  let q := s.part p
  let a := s.s2Area p
  s.writeTables (q.smallGibs.zipIdx.map (fun x => (levelTwo a x.2, (List.range 32).map fun i => match q.pageAt (32 * x.1 + i) with
      | some pg => leafEntry pg
      | none => 0))
    ++ q.topUsed.map (fun i => (levelOne a i, (List.range 32).map fun j => q.entryOne a (32 * i + j)))
    ++ [(s.s2Root p, (List.range 12).map fun i => if q.topUsed.contains i then pointerEntry (levelOne a i) else 0)])

/-- The Curator's level-0 entries of a partition made invalid. -/
def State.unmapCarve (s : State) (p : Nat) : State := s.writeTables [(s.s2Root p, List.replicate 12 0)]

/-- A slice reserved on this module (R349 step 3): the result of Table 9, and the partition taken. -/
def State.reserveHere (s : State) (e : Envelope) (m : EnvMember) : State × Nat × Nat :=
  let pages := m.carve / max 1 m.groups + ceilDiv (extraPages e.flags m.clusters) (max 1 m.groups)
  match s.freePart, s.pickClusters m.clusters (flagSliceable e.flags) with
  | some p, some ks =>
    match s.pickGroups m.groups pages m.ways m.dedicated (some (p, m.grant)) [] with
    | none => (s, if (s.pickGroups m.groups pages m.ways m.dedicated none []).isSome then 5 else 3, 0)
    | some gs =>
      if !s.countsFit p m ∨ (flagConf e.flags ∧ !m.dedicated ∧ m.ways = 0) then (s, 3, 0)
      else
        let s1 := s.takeGroups p m gs
        let q : Part :=
          { Part.reset with
            comp := e.comp, role := e.role, flags := e.flags, anchor := e.anchor, envSeq := e.seq, quantum := max 1000 e.quantum,
            entry := some m, members := e.members, clusters := listMask ks, groups := listMask (gs.map (·.1)), links := m.links,
            spans := gs.map fun x => (x.1, 512 * x.1 + x.2.1) }
        let s2 := ((s1.setPart p q).setQos p e.role e.flags m ks).mapCarve p
        let s3 := (s2.setReg (bQOS + 0x2000 + 4 * p) 0).setReg (bXLT + 0x40 * p + 0x1C) 0
        ((s3.reshare ks).setSt p .reserved, 0, p)
  | _, _ => (s, 3, 0)

/-! Release (R352, R357, R366 to R370, R466) -/

/-- Windows that meet a test set REVOKING (R243, R244); their numbers. -/
def State.revokeWins (s : State) (f : InWin → Bool) : List Nat → State × List Nat
  | [] => (s, [])
  | w :: ws =>
    let i := s.inWin w
    let s1 := if i.valid ∧ f i then s.setInWin w { i with revoking := true } else s
    let r := s1.revokeWins f ws
    (r.1, if i.valid ∧ f i then w :: r.2 else r.2)

/-- Outbound entries of a partition cleared. -/
def closeOut (p : Nat) (t : Tbl OutWin) : Tbl OutWin :=
  t.map fun e => (e.1, if e.2.part = p then { e.2 with valid := false } else e.2)

/-- Pool pages of a partition go to be cleared (R370). -/
def State.freePool (s : State) (p : Nat) : State :=
  { s with
    pool := s.pool.map fun e => (e.1, match e.2 with
      | some g => if g.owner = some p then some ⟨none, true⟩ else e.2
      | none => e.2),
    arena := tblClear (4096 * p) (4096 * (p + 1)) s.arena }

/-- Objects of a partition. -/
def State.objsOf (s : State) (p : Nat) : List Nat := s.objs.filterMap fun e => if e.2.owner = some p then some e.1 else none

/-- A region leaves its owner: translations and cache lines go, the keys are destroyed, the clear begins (R194, R448, R466). -/
def State.dropRegion (s : State) (q : Nat) : State :=
  let lo := sectorOf (regionBase q)
  let hi := sectorOf (regionBase q + regionSize q)
  { s.setRegion q { Region.reset with clearing := true } with lines := tblClear lo hi s.lines }

def State.dropRegions (s : State) : List Nat → State
  | [] => s
  | q :: qs => (s.dropRegion q).dropRegions qs

/-- Regions that a partition owns. -/
def State.regionsOf (s : State) (p : Nat) : List Nat := s.regions.filterMap fun e => if e.2.owner = some p then some e.1 else none

/-- A group leaves a slice: its regions are cleared, its ways go back to the pool, its grant ends. -/
def State.dropGroup (s : State) (p g : Nat) : State :=
  let s := s.wakeGroup g
  let rs := (s.regionsOf p).filter fun q => q / 12 == g
  let s1 := s.dropRegions rs
  let k := s1.group g
  let mine := (List.range 16).filter fun w => s1.wayKind (16 * g + w) == .part p
  let s2 := s1.setGroup g
    { k with clearing := true, waysMoving := (k.waysMoving.filter fun e => e.2 != .part p) ++ mine.map fun w => (w, WayKind.pool) }
  (s2.setReg (kGrant g p) 0).modPart p fun q => { q with clears := q.clears ++ rs }

def State.dropGroups (s : State) (p : Nat) : List Nat → State
  | [] => s
  | g :: gs => (s.dropGroup p g).dropGroups p gs

/-- Masters that are no RT masters any longer drive level 0 (R208). -/
def State.calmPorts (s : State) : List Nat → State
  | [] => s
  | m :: ms => (s.setUrgency m 0).calmPorts ms

/-- Clusters of a slice untagged, where the tag is the partition's. -/
def State.untag (s : State) (p : Nat) : List Nat → State
  | [] => s
  | k :: ks =>
    (if (s.clu k).bound ∧ (s.clu k).part = p then
      (s.modClu k fun c => { c with bound := false, fixed := false, fixedLow := false, idleAt := s.now }).calmPorts (portsOf [k])
    else s).untag p ks

/-- Token buckets put back to their reset values. -/
def State.resetBuckets (s : State) : List Nat → State
  | [] => s
  | m :: ms => (s.setReg (bQOS + 0x200 + 4 * m) 0x04000010).resetBuckets ms

/-- The bandwidth settings, trees and switch-in requests of partition `p` dropped. -/
def State.dropPlan (s : State) (p : Nat) : State :=
  let s1 := ((s.setReg (bQOS + 4 * p) 0).setReg (bQOS + 0x80 + 8 * p) 0).setReg (bQOS + 0x84 + 8 * p) 0
  { s1 with trees := tblClear (treeKey p 0) (treeKey (p + 1) 0) s1.trees, switches := s1.switches.filter fun x => x.part != p }

/-- Everything a partition holds given back (R352, R357); regions and groups become free once their clear is done. -/
def State.releasePart (s : State) (p : Nat) : State :=
  let q := s.part p
  let ks := maskList 48 (q.clusters ||| q.newClu)
  let s1 := (s.revokeWins (fun i => i.part == p || i.grantee == q.comp) (List.range 1023)).1
  let s2 := { s1 with outWins := closeOut p s1.outWins }
  let s3 := (s2.freeObjs 2 2 (s2.objsOf p)).freePool p
  let s4 := ((s3.purgeXlt fun e => e.part == p).unmapCarve p).untag p ks
  let s5 := s4.dropGroups p (maskList 32 (q.groups ||| listMask (q.newSpans.map (·.1))))
  (if q.role = 1 then s5.resetBuckets (portsOf ks) else s5).dropPlan p

/-- A partition whose clears are done is FREE (R357 step 5). -/
def State.freePartition (s : State) (p : Nat) : State :=
  let q := s.part p
  let ks := maskList 48 q.clusters
  let s0 : State := { s with slack := s.slack.filter fun e => e.2.part != p }
  let s1 := (s0.setPart p { Part.reset with clears := q.clears }).reshare ks
  ((s1.setReg (kWdogStat p) 0).clearBits (kPartCtrl p) 1).mbEvent p 0x0B 0

/-! Windows lent (R242, R301, R457) -/

/-- Two ranges of 32 MiB units meet. -/
def rangesMeet (a n b m : Nat) : Bool := decide (a < b + m) && decide (b < a + n)

/-- The Curator may open the window (R301, R457). -/
def State.lendOk (s : State) (p : Nat) (l : LendSpec) : Bool :=
  let q := s.part p
  (!flagConf q.flags || l.comp == q.comp || q.role == 2)
    && (if l.scratch then bitAt q.clusters (l.base % 64)
        else (List.range 1023).all fun w =>
          let i := s.inWin w
          !(i.valid && i.part == p && !i.scratch && rangesMeet i.base i.size l.base l.size) || (!i.w && !l.w))

/-! Pins (R226) -/

/-- Pages of a list of GiB-sized leaves and 32 MiB leaves of the carve-out that meet pages [lo, lo + n). -/
def Part.leavesIn (q : Part) (lo n : Nat) : Nat :=
  ((List.range (ceilDiv (q.each * q.spans.length) 32)).map fun g =>
    let here := (List.range 32).filter fun i => decide (lo ≤ 32 * g + i) && decide (32 * g + i < lo + n) && (q.pageAt (32 * g + i)).isSome
    if here.isEmpty then 0 else if (q.bigLeaf g).isSome then 1 else here.length).sum

/-- Pins of a memory window: its stage-2 leaves in the carve-out, and a page of 32 MiB each of what lies beyond (R226). -/
def State.winPins (s : State) (i : InWin) : Nat :=
  if !(i.valid || i.revoking) || i.scratch then 0
  else
    let q := s.part i.part
    let carve := q.each * q.spans.length
    q.leavesIn i.base i.size + (i.base + i.size - max i.base carve)

/-- Pins in the L2 of compute die `d`: the carve-out and store of each partition with clusters there, and the windows lent
(R226), counted by stage-2 leaves (log 31). -/
def State.pinsOn (s : State) (d : Nat) : Nat :=
  ((List.range 32).map fun p =>
    let q := s.part p
    if q.st = .free ∨ !s.onDie p d then 0 else q.leavesIn 0 (q.each * q.spans.length) + 8).sum
  + (s.inWins.map fun e => s.winPins e.2).sum

/-- More pins than the L2 of some die may hold (R226). -/
def State.pinsOver (s : State) : Bool := (List.range 4).any fun d => decide (s.pinsOn d > 4096)

/-- The stage-2 entries of a page range of a partition pinned in all four L2s (R226, R242). -/
def State.pinRange (s : State) (p lo : Nat) : Nat → State
  | 0 => s
  | n + 1 =>
    let ipa := (lo + n) * 2 ^ 25
    let s1 := match s.stage2 p ipa with
      | .ok t => (List.range 4).foldl (fun (s : State) d => s.setL2 d (l2Put { t.entry p ipa with pinned := true } (s.l2of d))) s
      | .error _ => s
    s1.pinRange p lo n

/-- A window opened in the lowest free inbound entry: its pins are made (R226, R242 step 1), the entry is written, and the
borrower's Curator told its number, GEN and SIZE (R242). -/
def State.openWin (s : State) (p : Nat) (l : LendSpec) : Option State :=
  if !s.lendOk p l then none
  else match (List.range 1023).find? fun w => !(s.inWin w).valid && !(s.inWin w).revoking with
    | none => none
    | some w =>
      let g := (s.inWin w).gen
      let s := if l.scratch then s else s.pinRange p l.base l.size
      some ((s.setInWin w ⟨true, false, l.r, l.w, l.scratch, p, l.size, l.base, l.comp, g, l.borrower, 0, false⟩).emit
        (.curator l.borrower 8 (w + g * 2 ^ 16 + l.size * 2 ^ 24) (b2n l.r + 2 * b2n l.w + 4 * b2n l.scratch)))

def State.openWins (s : State) (p : Nat) : List LendSpec → Option State
  | [] => some s
  | l :: ls => match s.openWin p l with
    | none => none
    | some s1 => s1.openWins p ls

/-! Placement (R339, R340, R350 step 3) -/

/-- One image placed; the result that refuses it, or 0 (R350 step 3, R352). -/
def State.placeSlot (s : State) (p : Nat) (keep : Bool) (pl : SlotPlace) : State × Nat :=
  match (s.part p).image pl.slot with
  | none => (s, 3)
  | some im =>
    if !s.unitsOk p im.raw pl then (s, 3)
    else if !s.objsOk p im.raw pl keep then (s, 7)
    else if !s.treesOk p im.raw pl then (s, 8)
    else (s.bindImage p pl, 0)

def State.placeSlots (s : State) (p : Nat) (keep : Bool) : List SlotPlace → State × Nat
  | [] => (s, 0)
  | x :: xs =>
    match s.placeSlot p keep x with
    | (s1, 0) => s1.placeSlots p keep xs
    | r => r

/-- The placements of a plan as the Curator makes them of the units homed here (R340), over the slice that the partition has, or
that an update gives it. -/
def State.placedAll (s : State) (p : Nat) (clus spans : List Nat) (pls : List SlotPlace) : List SlotPlace :=
  pls.map fun pl => match (s.part p).image pl.slot with
    | some im => pl.choose im.raw clus spans
    | none => pl

/-- A plan with the placements of R340. -/
def State.placedPlan (s : State) (p : Nat) (plan : PlaceSpec) : PlaceSpec :=
  let q := s.part p
  let clus := maskList 48 (if q.newEnv.isSome then q.newClu else q.clusters)
  let spans := if plan.spans.isEmpty then (if q.newSpans.isEmpty then q.spans else q.newSpans).map (·.1) else plan.spans
  { plan with places := s.placedAll p clus spans plan.places }

/-- Slots with an image. -/
def Part.slots (q : Part) : List Nat := (List.range 64).filter fun i => (q.image i).isSome

/-- The placement names the loaded images, each once. -/
def Part.slotsNamed (q : Part) (pls : List SlotPlace) : Bool :=
  decide ((pls.map (·.slot)).Nodup) && q.slots.all fun i => pls.any fun x => x.slot == i

/-- The clusters that no other partition holds flash-cleared (R93, R350). -/
def State.clearClusters (s : State) (p : Nat) : List Nat → State
  | [] => s
  | k :: ks => (if (s.clu k).bound ∧ (s.clu k).part ≠ p then s else s.flashClear k).clearClusters p ks

/-- Eight bytes at an intermediate address as the Curator sees them; zero where they cannot be had. -/
def State.peek (s : State) (p ipa : Nat) : Nat :=
  match s.stage2 p ipa with
  | .ok t =>
    if t.host then (match s.hostFn p with
      | some fn => s.hostNat fn t.addr 8
      | none => 0)
    else if s.isPoison (sectorOf t.addr) then 0 else ofBytes (s.hbmRun t.addr 8)
  | .error _ => 0

/-- The leaves of a stage-1 table, with the tenant virtual address of each (R221, R222). `fuel` counts the levels left. -/
def State.s1Leaves (s : State) (p : Nat) : Nat → Nat → Nat → List (Nat × S1Res)
  | 0, _, _ => []
  | fuel + 1, table, va =>
    let level := 2 - fuel
    (List.range (if level = 0 then 131072 else 32)).flatMap fun i =>
      let e := entryOf (s.peek p (table + 8 * i))
      let at_ := va + i * 2 ^ levelBits level
      if !e.valid || e.bad true level then []
      else if e.leaf then [(at_, ⟨e.addr, levelBits level, e.r, e.w⟩)]
      else s.s1Leaves p fuel e.addr at_

/-- The combined entries of the pages of a stage-1 leaf that lie in the carve-out (R226). -/
def State.pinsOf (s : State) (p : Nat) (x : Nat × S1Res) : List XltEntry :=
  (List.range (2 ^ (x.2.bits - 25))).filterMap fun i =>
    let ipa := x.2.ipa + i * 2 ^ 25
    if ipa ≥ 0x6000000000 then none
    else match s.stage2 p ipa with
      | .ok t =>
        let b := min x.2.bits t.bits
        if i % 2 ^ (b - 25) ≠ 0 then none
        else some ⟨p, true, (x.1 + i * 2 ^ 25) / 2 ^ b, b, t.host, t.addr / 2 ^ b, ipa / 2 ^ b, x.2.r && t.r, x.2.w && t.w, true⟩
      | .error _ => none

/-- Entries put into the L2 of a die. -/
def State.putL2 (s : State) (d : Nat) (es : List XltEntry) : State := s.setL2 d (es.foldl (fun l e => l2Put e l) (s.l2of d))

/-- The combined entries of every page of the carve-out pinned in the L2 of each die that holds clusters of the partition, so far as
stage 1 maps them (R226, R230). -/
def State.pinCarve (s : State) (p : Nat) : State :=
  let root := s.reg (bXLT + 0x40 * p)
  if !bitAt root 0 then s
  else
    let es := (s.s1Leaves p 3 (root / 2 ^ 20 % 2 ^ 28 * 2 ^ 20) 0).flatMap (s.pinsOf p)
    (List.range 4).foldl (fun s d => if s.onDie p d then s.putL2 d es else s) s

/-- What waited for the groups of a slice to leave self-refresh is done by the time it is placed (R197). -/
def State.wakeGroups (s : State) : List Nat → State
  | [] => s
  | g :: gs => (s.wakeGroup g).wakeGroups gs

/-- A slice placed for the seal (R350 step 3): the result, or 0. A refused placement leaves the state as it was. -/
def State.placePart (s : State) (p : Nat) (pl : PlaceSpec) : State × Nat :=
  let q := s.part p
  let s0 := ((s.wakeGroups (q.spans.map (·.1))).freeObjs 2 2 (s.objsOf p)).modPart p fun q => { q with windows := pl.windows }
  let s0 := (s0.revokeWins (fun i => i.part == p) (List.range 1023)).1
  if !q.slotsNamed pl.places then (s, 3)
  else if !s.treeOk p pl.tree then (s, 8)
  else match s0.placeSlots p false pl.places with
    | (s1, 0) => match s1.openWins p pl.lends with
      | none => (s, 9)
      | some s2 =>
        if s2.pinsOver then (s, 6)
        else (((s2.modPart p fun q => { q with ctree := pl.tree, windows := pl.windows }).clearClusters p (maskList 48 q.clusters)).pinCarve p, 0)
    | (_, c) => (s, c)

/-- What a member reports of itself (R345, Table 4). -/
def State.infoOf (s : State) (p : Nat) : MemberInfo :=
  let q := s.part p
  ⟨s.reg bFAB, p, q.clusters, q.groups, q.links, q.spans.map (·.1)⟩

/-! The catalogue (R345, R346) -/

/-- The member index of a Fabric ID. -/
def memberIndex (q : Part) (fid : Nat) : Nat := (q.members.takeWhile fun m => m.fid != fid).length

/-- The entry of a unit: where some member places it, its index and the unit (R345). -/
def mapEntry (q : Part) (slot shift : Nat) (f : SlotPlace → List (Nat × Nat)) (v : Nat) : Nat :=
  match q.mplaces.findSome? fun m => (m.2.find? fun x => x.slot == slot).bind fun pl => (assoc v (f pl)).map fun u => (m.1, u) with
  | some (fid, u) => memberIndex q fid * 2 ^ 18 + u * 2 ^ shift
  | none => 0xFFFFFFFF

/-- A map of `n` entries, padded to a multiple of 32 bytes. -/
def mapPart (n : Nat) (f : Nat → Nat) : List Byte :=
  (List.range n).flatMap (fun v => toBytes 4 (f v)) ++ List.replicate (32 * ceilDiv n 8 - 4 * n) 0

/-- The device-object entry: the home member and the object. -/
def objEntry (q : Part) (slot v : Nat) : Nat :=
  match q.mplaces.findSome? fun m => (m.2.find? fun x => x.slot == slot).bind fun pl => (pl.dobjs.find? fun d => d.1 == v).map (·.2) with
  | some r => memberIndex q r.fid * 2 ^ 18 + r.obj
  | none => 0xFFFFFFFF

/-- An image section. -/
def imagePart (q : Part) (slot : Nat) (im : List Byte) : List Byte :=
  toBytes 4 slot ++ toBytes 4 (imVclusters im) ++ toBytes 4 (imVgroups im) ++ toBytes 4 (imDevObjs im) ++ (im.drop 0x38).take 8
    ++ (im.drop 0x0C).take 4 ++ toBytes 4 0
    ++ mapPart (imVclusters im) (mapEntry q slot 12 (·.vclus))
    ++ mapPart (imVgroups im) (mapEntry q slot 13 (·.vgrps))
    ++ mapPart (imDevObjs im) (objEntry q slot)

/-- A member-table entry. -/
def infoPart (i : MemberInfo) : List Byte :=
  toBytes 2 i.fid ++ toBytes 1 i.part ++ toBytes 1 0 ++ toBytes 6 i.clusters ++ toBytes 2 0 ++ toBytes 4 i.groups ++ toBytes 12 i.links
    ++ (List.range 32).flatMap (fun j => toBytes 1 ((i.spans[j]?).getD 0xFF)) ++ toBytes 4 0

/-- A window-table entry. -/
def winPart (w : WinRow) : List Byte :=
  toBytes 2 w.vwin ++ toBytes 2 w.entry ++ toBytes 4 w.borrower ++ toBytes 2 w.lender ++ toBytes 2 w.window ++ toBytes 2 w.size
    ++ toBytes 1 (w.flags % 8) ++ toBytes 1 0

/-- What a member reported, none where it has not. -/
def infoFor (q : Part) (fid : Nat) : List MemberInfo := (q.infos.filter fun i => i.fid == fid).take 1

/-- The catalogue at an epoch (R345, Tables 4 and 5). -/
def catalogueOf (q : Part) (epoch : Nat) (ws : List WinRow) : List Byte :=
  let infos := q.members.flatMap fun m => infoFor q m.fid
  let ims := q.slots.flatMap fun i => match q.image i with
    | some im => imagePart q i im.raw
    | none => []
  let imgOff := 64 + 64 * infos.length
  let winOff := imgOff + ims.length
  let bytes := winOff + 16 * ws.length
  toBytes 4 0x47544143 ++ toBytes 1 1 ++ toBytes 1 q.role ++ toBytes 2 q.flags ++ toBytes 4 q.comp ++ toBytes 2 q.anchor
    ++ toBytes 1 schedFmtRev ++ toBytes 1 0 ++ toBytes 4 infos.length ++ toBytes 4 q.slots.length ++ toBytes 4 q.envSeq
    ++ toBytes 4 ws.length ++ toBytes 8 epoch ++ toBytes 4 imgOff ++ toBytes 4 winOff ++ toBytes 4 bytes ++ toBytes 12 0
    ++ infos.flatMap infoPart ++ ims ++ ws.flatMap winPart

/-- Every virtual unit of every loaded image has one home (R339). -/
def homesOk (q : Part) : Bool :=
  q.slots.all fun i => match q.image i with
    | some im =>
      let pls := q.mplaces.flatMap fun m => m.2.filter fun x => x.slot == i
      let vs : List Nat := pls.flatMap fun x => x.vclus.map (·.1)
      let gs : List Nat := pls.flatMap fun x => x.vgrps.map (·.1)
      decide vs.Nodup && decide gs.Nodup && vs.length == imVclusters im.raw && gs.length == imVgroups im.raw
    | none => true

/-- Tags of the running clusters that no other partition holds (R347, R350 step 4). A Decode partition's clusters are at a
fixed frequency (R344). -/
def State.tagClusters (s : State) (p : Nat) : List Nat → State
  | [] => s
  | k :: ks =>
    let q := s.part p
    let c := s.clu k
    let c1 := { c with fixed := c.fixed || q.role == 1 }
    (s.setClu k (if (c.bound ∧ c.part ≠ p ∧ c.shared) ∨ c.step = 15 then c1
      else { c1 with bound := true, part := p, epoch := q.epoch })).tagClusters p ks

/-- The catalogue stored at its epoch, the tags written, the partition SEALED (R350 step 4). -/
def State.sealPart (s : State) (p : Nat) (cat : List Byte) : State :=
  let s1 := s.modPart p fun q => { q with catalogue := cat, epoch := imgField cat 0x20 8 }
  ((s1.tagClusters p (maskList 48 (s1.part p).clusters)).setReg (bCMP + 0x80 * p + 0x4C) 0).setSt p .sealed

/-! Migration (R359, R360) -/

/-- Entries of a table in [lo, lo + n) moved to begin at `to`, over what lay there, from the table as it was before. -/
def moveRange {α : Type} [DecidableEq α] (d : Nat → α) (old : Tbl α) (lo n dst : Nat) (t : Tbl α) : Tbl α :=
  (old.filter fun e => decide (lo ≤ e.1) && decide (e.1 < lo + n)).foldl (fun t e => tblSet d t (dst + (e.1 - lo)) e.2)
    (tblClear dst (dst + n) t)

/-- A sector's tag after its copy, under the destination's key. -/
def State.retag (s : State) (lo n : Nat) : State :=
  { s with tags := s.tags.map fun e =>
      (e.1, if lo ≤ e.1 ∧ e.1 < lo + n then e.2.map fun t => { t with keyNo := s.keyOf (e.1 * 512) } else e.2) }

/-- Sectors of a page whose integrity check fails are written poisoned at the destination, with the alarm (R360). -/
def State.copyBad (s0 : State) (p src dst : Nat) (s : State) : List (Nat × Option SectorTag) → State
  | [] => s
  | e :: t =>
    match e.2 with
    | some g =>
      if src * 65536 ≤ e.1 ∧ e.1 < (src + 1) * 65536 ∧ g.keyNo ≠ s0.keyOf (e.1 * 512) then
        s0.copyBad p src dst ((s.markPoison (dst * 65536 + (e.1 - src * 65536))).integrityAlarm p (g.ipa * 512)) t
      else s0.copyBad p src dst s t
    | none => s0.copyBad p src dst s t

/-- One page copied from its place in state `s0` (R360). -/
def State.copyPage (s0 : State) (p src dst : Nat) (s : State) : State :=
  let s1 := { s with
    hbm := moveRange (fun _ => 0) s0.hbm (src * 2 ^ 25) (2 ^ 25) (dst * 2 ^ 25) s.hbm,
    poison := moveRange (fun _ => false) s0.poison (src * 65536) 65536 (dst * 65536) s.poison,
    tags := moveRange (fun _ => none) s0.tags (src * 65536) 65536 (dst * 65536) s.tags,
    lines := tblClear (src * 65536) ((src + 1) * 65536) (tblClear (dst * 65536) ((dst + 1) * 65536) s.lines),
    scrub := { s.scrub with upsets := s.scrub.upsets.filter fun x => x.1 / 65536 != dst } }
  s0.copyBad p src dst (s1.retag (dst * 65536) 65536) s0.tags

/-- The page behind page `i` of the carve-out (R341). -/
def pagePlace (spans : List (Nat × Nat)) (each i : Nat) : Option Nat :=
  if each = 0 then none else (spans[i / each]?).map fun x => x.2 + i % each

/-- Pages of the carve-out that move, as (source, destination). -/
def pageMoves (old : List (Nat × Nat)) (oldEach : Nat) (new_ : List (Nat × Nat)) (newEach : Nat) : List (Nat × Nat) :=
  (List.range (old.length * oldEach)).filterMap fun i =>
    match pagePlace old oldEach i, pagePlace new_ newEach i with
    | some a, some b => if a = b then none else some (a, b)
    | _, _ => none

def State.copyPages (s0 : State) (p : Nat) (s : State) : List (Nat × Nat) → State
  | [] => s
  | x :: xs => s0.copyPages p (s0.copyPage p x.1 x.2 s) xs

/-- SPAD_LIVE of the rebind point at which a core stands (R127); 0 for a core that stands at none. -/
def liveBytes (im : List Byte) (k : Core) : Nat :=
  let w := if k.inVar then imgField im (secOff im 3 + 16 * k.step) 16
    else imgField im (secOff im 1 + tabOff im k.table + 16 * k.step) 16
  let rb := bits w 119 88
  if bits w 127 120 ≠ 5 ∨ rb ≥ secCount im 11 then 0 else imgField im (secOff im 11 + 16 * rb + 4) 4

/-- SPAD_LIVE at the rebind point where partition `p` stands: one value for every core's scratchpad, the idle cores' included
(R127). -/
def State.liveAt (s : State) (p : Nat) (im : List Byte) : Nat :=
  s.cores.foldl (fun n e => if e.2.part = p ∧ e.2.st = .stopped then max n (liveBytes im e.2) else n) 0

/-- A core's scratchpad and its execution state moved from core `a` to core `b` (R129, R360). -/
def State.moveCore (s0 : State) (im : List Byte) (live a b : Nat) (s : State) : State :=
  let k := s0.core a
  let zeros := imSpadUsed im - live
  let s1 := s.spadWrite b 0 (s0.spadRead a 0 live)
  let bad : List Nat := (List.range (live / 8)).filter fun w => tblGet (fun _ => false) s0.spadPoison (a * 2 ^ 17 + w)
  let s2 : State := { s1 with spadPoison := bad.foldl (fun t w => tblSet (fun _ => false) t (b * 2 ^ 17 + w) true) s1.spadPoison }
  let s3 := s2.spadWrite b live (List.replicate zeros 0)
  let d := s0.core b
  s3.setCore b { k with w0 := d.w0, w1 := d.w1, acc0 := d.acc0, acc1 := d.acc1, vregs := d.vregs, preds := d.preds }

def State.moveCores (s0 : State) (im : List Byte) (live a b : Nat) (s : State) : Nat → State
  | 0 => s
  | j + 1 => s0.moveCores im live a b (s0.moveCore im live (16 * a + j) (16 * b + j) s) j

/-- The cores of a cluster that no virtual cluster runs on any more are idle. -/
def State.idleCores (s : State) (k : Nat) : Nat → State
  | 0 => s
  | j + 1 => (s.modCore (16 * k + j) fun c => { c with st := .idle, loops := [], stall := .none, phase := none }).idleCores k j

/-- Moved virtual clusters of the running image: source and destination. -/
def State.moveClusters (s0 : State) (im : List Byte) (live : Nat) (s : State) : List (Nat × Nat) → State
  | [] => s
  | x :: xs => s0.moveClusters im live (if x.1 = x.2 then s else s0.moveCores im live x.1 x.2 (s.flashClear x.2) 16) xs

/-- Objects moved to their new numbers (R317): COUNT, TARGET, MAX, FIRED and FAULT go with them. -/
def moveObjs (s0 : State) (p : Nat) (t : Tbl SyncObj) : List (Nat × Nat) → Tbl SyncObj
  | [] => t
  | x :: xs => moveObjs s0 p (tblSet (fun _ => SyncObj.reset) t x.2 { s0.obj x.1 with waiters := [] }) xs

/-- Pairs of old and new numbers by a common key. -/
def pairMoves (old new_ : List (Nat × Nat)) : List (Nat × Nat) :=
  old.filterMap fun x => (assoc x.1 new_).map fun y => (x.2, y)

/-- Objects of a slot that move: cluster-scope ones with their cluster, device-scope ones by the placement. -/
def State.objMoves (s : State) (p : Nat) (pl : SlotPlace) : List (Nat × Nat) :=
  let q := s.part p
  let ks := pairMoves (q.placed pl.slot) pl.vclus
  let here := fun (l : List (Nat × ObjRef)) => l.filterMap fun x => if x.2.fid = s.reg bFAB then some (x.1, x.2.obj) else none
  let old := q.dobj.filterMap fun e => if e.1 / 2 ^ 20 = pl.slot then e.2.map fun r => (e.1 % 2 ^ 20, r) else none
  ks.flatMap (fun x => ((s.objsOf p).filter fun o => decide (o < 0x3000) && o / 256 == x.1).map fun o => (o, 256 * x.2 + o % 256))
    ++ pairMoves (here old) (here pl.dobjs)

/-- Members of the tree nodes of a launch after its clusters have moved (R323). -/
def State.rebuildTrees (s : State) (p slot : Nat) (im : List Byte) (ts : List TreeSpec) : List Nat → State
  | [] => s
  | g :: gs =>
    let n := s.tree (treeKey p g)
    let t := treeSpec g ts
    let n1 := { n with members := groupMembers (s.part p) slot im g, parent := t.parent, children := t.children, levels := t.levels }
    (s.setTree (treeKey p g) n1).rebuildTrees p slot im ts gs

/-- Cluster fields of the scratchpad windows a partition lends rewritten (R359 step 4). -/
def rewins (p : Nat) (ks : List (Nat × Nat)) (t : Tbl InWin) : Tbl InWin :=
  t.map fun e => (e.1, if e.2.part = p ∧ e.2.scratch then
    { e.2 with base := e.2.base / 64 * 64 + (assoc (e.2.base % 64) ks).getD (e.2.base % 64) } else e.2)

/-- Host waiters of a partition withdrawn at the start of a pause (R409). -/
def State.withdraw (s : State) (p : Nat) : List Nat → State
  | [] => s
  | o :: os =>
    let ids : List Nat := (s.obj o).waiters.filterMap fun w => match w with
      | .host d => some d
      | .core _ _ => none
    let s1 := s.setObj o { s.obj o with waiters := (s.obj o).waiters.filter fun w => match w with
      | .host _ => false
      | .core _ _ => true }
    let ds : List HostDesc := s1.descs.map fun d => if ids.contains d.id then { d with asleep := true } else d
    ({ s1 with descs := ds }).withdraw p os

/-- The page of a group that the slice holds or has prepared. -/
def Part.pageIn (q : Part) (g : Nat) : Option Nat := assoc g (q.spans ++ q.newSpans)

/-- New spans by the plan's groups; where it names none, the slice's own (R340). -/
def Part.planSpans (q : Part) (gs : List Nat) : Option (List (Nat × Nat)) :=
  let want := if gs.isEmpty then (if q.newSpans.isEmpty then q.spans else q.newSpans).map (·.1) else gs
  if decide want.Nodup then want.mapM fun g => (q.pageIn g).map fun pg => (g, pg) else none

/-- A window lent over something that the slice no longer has: pages beyond the carve-out, or a cluster (R244, R356). -/
def InWin.overGone (i : InWin) (p carve clusters : Nat) : Bool :=
  i.part == p && (if i.scratch then !bitAt clusters (i.base % 64) else decide (i.base < 12288) && decide (carve < i.base + i.size))

/-- Windows over removed resources revoked (R356). -/
def State.revokeGone (s : State) (p carve clusters : Nat) : State := (s.revokeWins (·.overGone p carve clusters) (List.range 1023)).1

/-- The pause's work on this member (R359 steps 1 to 4, R360): `plan` becomes the placement. The result, or 0. -/
def State.migrate (s : State) (p : Nat) (plan : PlaceSpec) : State × Nat :=
  let q := s.part p
  let entry := (q.newEnv.bind fun e => e.entryOf (s.reg bFAB)).orElse fun _ => q.entry
  let carve := fun (e : Option EnvMember) => match e with
    | some m => m.carve
    | none => 0
  let each := carve q.entry / max 1 q.spans.length
  let slot := q.launch.map (·.slot)
  match q.planSpans plan.spans with
  | none => (s, 3)
  | some spans =>
    let fresh := if q.newEnv.isSome then (maskList 48 q.newClu).filter fun k => !bitAt q.clusters k else []
    let s1 := ((s.wakeGroups (spans.map (·.1))).setSt p .rebinding).withdraw p (s.objsOf p)
    let s1 := (s1.modPart p fun q => { q with pauseAt := s.now }).clearClusters p fresh
    let moved := pageMoves q.spans each spans (carve entry / max 1 spans.length)
    let s2 := s1.copyPages p s1 moved
    let gone := (maskList 32 q.groups).filter fun g => !(spans.map (·.1)).contains g
    let moves := plan.places.flatMap (s1.objMoves p)
    let ks := plan.places.flatMap fun pl => pairMoves (q.placed pl.slot) pl.vclus
    let run : Option (List Byte × List (Nat × Nat) × SlotPlace) := slot.bind fun i =>
      (q.image i).bind fun im => (plan.places.find? (fun x : SlotPlace => x.slot == i)).map fun pl =>
        (im.bytes, pairMoves (q.placed i) pl.vclus, pl)
    let left := fun (ms : List (Nat × Nat)) => (ms.map (·.1)).filter fun k => !(ms.map (·.2)).contains k
    let s3 : State := match run with
      | some r => (left r.2.1).foldl (fun (s : State) k => s.idleCores k 16)
          (s1.moveClusters r.1 (s1.liveAt p r.1) (s2.raiseClusters (r.2.1.map (·.2) ++ fresh)) r.2.1)
      | none => s2.raiseClusters fresh
    let s4 : State := { s3.freeObjs 2 2 (moves.map (·.1)) with inWins := rewins p ks s3.inWins }
    let s4 : State := { s4 with objs := moveObjs s1 p s4.objs moves }
    let s5 := s4.modPart p fun q =>
      { q with entry := entry, clusters := if q.newEnv.isSome then q.newClu else q.clusters,
               spans := spans, groups := listMask (spans.map (·.1)), windows := plan.windows, ctree := plan.tree }
    match s5.placeSlots p true plan.places with
    | (s6, 0) =>
      if s6.pinsOver then (s, 6) else
      let s7 := match run, slot with
        | some (_, _, pl), some i => (match (s6.part p).image i with
          | some im => s6.rebuildTrees p i im.bytes pl.trees (List.range (secCount im.bytes 8))
          | none => s6)
        | _, _ => s6
      let out := (maskList 48 q.clusters).filter fun k => !bitAt (s7.part p).clusters k
      let s8 := (((s7.revokeGone p (carve entry) (s7.part p).clusters).dropGroups p gone).untag p out).reshare out
      let mib := 32 * moved.length +
        ceilDiv (match run with
          | some (im, ms, _) => 16 * imSpadUsed im * (ms.filter fun x => x.1 != x.2).length
          | none => 0) (2 ^ 20)
      ((((s8.mapCarve p).dropXlt fun e => e.part == p).pinCarve p).setReg (bCMP + 0x80 * p + 0x48) mib, 0)
    | (_, c) => (s, c)

/-! Accession and deaccession (R354 to R356) -/

/-- Pages that a partition's regions of a group hold. -/
def State.pagesHeld (s : State) (p g : Nat) : Nat := (((s.regionsOf p).filter fun q => q / 12 == g).map regionPages).sum

/-- The slice of an envelope update prepared on this module (R355): the result, or 0. Kept groups are the lowest; a group is
kept where its new span fits in the regions it has. -/
def State.accede (s : State) (p : Nat) (e : Envelope) (m : EnvMember) : State × Nat :=
  let q := s.part p
  let old := maskList 48 q.clusters
  let gs := q.spans.take m.groups
  let each := m.carve / max 1 m.groups + ceilDiv (extraPages q.flags m.clusters) (max 1 m.groups)
  let added := if m.clusters ≤ old.length then some [] else s.pickClusters (m.clusters - old.length) (flagSliceable q.flags)
  let pick := fun rate => s.pickGroups (m.groups - gs.length) each m.ways m.dedicated rate (q.spans.map (·.1))
  let more := pick (some (p, m.grant))
  if more.isNone ∧ (pick none).isSome then (s, 5) else
  match added, more with
  | some ks, some xs =>
    if !s.countsFit p m ∨ gs.any (fun x => decide (each > s.pagesHeld p x.1 - (if m.dedicated then x.2 % 512 else x.2 % 32))
        || !s.pagesOk x.2 each) then (s, 3)
    else if gs.any fun x => !s.grantFits p x.1 m.grant then (s, 5)
    else
      let s1 := s.takeGroups p m xs
      (s1.modPart p fun q =>
        { q with newEnv := some e, newClu := listMask (old.take m.clusters ++ ks),
                 newSpans := gs ++ xs.map fun x => (x.1, 512 * x.1 + x.2.1) }, 0)
  | _, _ => (s, 3)

/-- What an update prepared given back (R352: the composition unchanged). -/
def State.dropUpdate (s : State) (p : Nat) : State :=
  let q := s.part p
  let added := (q.newSpans.map (·.1)).filter fun g => !bitAt q.groups g
  (s.dropGroups p added).modPart p fun q => { q with newEnv := none, newClu := 0, newSpans := [] }

/-- Ways of a shared group brought to the number an entry gives (R191, R193). -/
def State.fitWays (s : State) (p : Nat) (m : EnvMember) : List Nat → State
  | [] => s
  | g :: gs =>
    let k := s.group g
    let mine := (List.range 16).filter fun w => s.wayKind (16 * g + w) == .part p || k.waysMoving.contains (w, .part p)
    let moves := if m.dedicated then []
      else if mine.length < m.ways then ((s.poolWays g).take (m.ways - mine.length)).map fun w => (w, WayKind.part p)
      else (mine.drop m.ways).map fun w => (w, WayKind.pool)
    (s.setGroup g { k with waysMoving := (k.waysMoving.filter fun x => moves.all fun y => y.1 != x.1) ++ moves }).fitWays p m gs

/-- Grants of a slice's groups written (R212). -/
def State.writeGrants (s : State) (p rate : Nat) : List Nat → State
  | [] => s
  | g :: gs => (s.setReg (kGrant g p) (if rate = 0 then 0 else 2 ^ 31 + rate)).writeGrants p rate gs

/-- A prepared update takes effect (R354): the slice, the registers, the envelope in force. -/
def State.commitUpdate (s : State) (p : Nat) : State :=
  let q := s.part p
  match q.newEnv.bind fun e => (e.entryOf (s.reg bFAB)).map fun m => (e, m) with
  | none => s
  | some (e, m) =>
    let spans := if q.newSpans.isEmpty then q.spans else q.newSpans
    let gone := (maskList 32 q.groups).filter fun g => !(spans.map (·.1)).contains g
    let lost := (maskList 48 q.clusters).filter fun k => !bitAt q.newClu k
    let s1 := s.modPart p fun q =>
      { q with entry := some m, envSeq := e.seq, members := e.members, quantum := max 1000 e.quantum, links := m.links,
               clusters := q.newClu, spans := spans, groups := listMask (spans.map (·.1)), newEnv := none, newClu := 0, newSpans := [] }
    let gs := spans.map (·.1)
    let ks := maskList 48 q.newClu
    let s1 := s1.revokeGone p m.carve q.newClu
    let s2 := ((((s1.dropGroups p gone).untag p lost).reshare (lost ++ ks)).setQos p q.role q.flags m ks).mapCarve p
    (s2.writeGrants p m.grant gs).fitWays p m gs

/-! Time-slicing (R363, R364) -/

/-- Written-since-bind bits and bytes of a cluster saved into the holder's save area. -/
def State.saveCluster (s : State) (p k : Nat) : State :=
  let lo := 16 * k * 2 ^ 20
  let wl := 16 * k * 2 ^ 15
  s.modPart p fun q =>
    { q with saved := moveRange (fun _ => 0) s.spad lo (2 ^ 24) lo q.saved, savedW := moveRange (fun _ => false) s.spadWritten wl (2 ^ 19) wl q.savedW }

/-- A cluster passes to partition `p`: the holder's scratchpads saved, the cluster cleared, the newcomer's restored, the tag
written (R364 steps 1 to 4). -/
def State.switchCluster (s : State) (p k : Nat) : State :=
  let c := s.clu k
  if c.bound ∧ c.part = p then s
  else
    let s1 := (if c.bound then s.saveCluster c.part k else s).flashClear k
    let q := s1.part p
    let s2 := { s1 with
      spad := moveRange (fun _ => 0) q.saved (16 * k * 2 ^ 20) (2 ^ 24) (16 * k * 2 ^ 20) s1.spad,
      spadWritten := moveRange (fun _ => false) q.savedW (16 * k * 2 ^ 15) (2 ^ 19) (16 * k * 2 ^ 15) s1.spadWritten }
    s2.reload p k

def State.switchClusters (s : State) (p : Nat) : List Nat → State
  | [] => s
  | k :: ks => (s.switchCluster p k).switchClusters p ks

/-- Another partition that holds a cluster may be switched out (R363, R364): its launch is complete here, and its quantum
has expired or it has no launch queued. -/
def State.yields (s : State) (h : Nat) : Bool :=
  let q := s.part h
  q.launch.isNone && q.st != .rebinding && q.st != .resetting && q.op.isNone && (q.queue.isEmpty || q.quantumOver)

/-- Holders of a partition's clusters other than itself. -/
def State.blockers (s : State) (p : Nat) : List Nat :=
  ((maskList 48 (s.part p).clusters).filterMap fun k =>
    if (s.clu k).bound ∧ (s.clu k).part ≠ p then some (s.clu k).part else none).eraseDups

/-- The first of the pending requests: the oldest timestamp, then the lowest composition ID. -/
def State.bestSwitch (s : State) : List SwitchReq → Option SwitchReq
  | [] => none
  | x :: xs => match s.bestSwitch xs with
    | none => some x
    | some y =>
      if x.at_ < y.at_ ∨ (x.at_ = y.at_ ∧ (s.part x.part).comp ≤ (s.part y.part).comp) then some x else some y

/-- Holders switched out. -/
def State.suspend (s : State) : List Nat → State
  | [] => s
  | h :: hs => ((s.setSt h .suspended).modPart h fun q => { q with quantumOver := false }).suspend hs

/-- Pending switch-in requests granted in their order while the holders yield (R364). -/
def State.grantSwitches (s : State) : Nat → State
  | 0 => s
  | fuel + 1 =>
    match s.bestSwitch s.switches with
    | none => s
    | some x =>
      let bs := s.blockers x.part
      if !bs.all s.yields then s
      else
        let s1 := (s.switchClusters x.part (maskList 48 (s.part x.part).clusters)).suspend bs
        let s2 := { s1 with switches := s1.switches.filter fun y => y.part != x.part }
        let s3 := (s2.setSt x.part .sealed).modPart x.part fun q => { q with switchAt := s.now, quantumOver := false }
        let s4 := if (s3.part x.part).anchor = s3.reg bFAB then s3.launchNext x.part else s3.emit (.curator (s3.part x.part).anchor 16 0 0)
        s4.grantSwitches fuel

end Sys2Proof.Machine
end

