-- ==== Sys2Proof/Machine/CompReset.lean ====
section
/-! DEFINITION. Composition resets, the launch watchdog and samples (spec/19: R518 to R520, R524, R527; spec/12: R328). -/
namespace Sys2Proof.Machine

/-! Samples (R520) -/

def kSampleAddr (p : Nat) : Nat := bERR + 0x200 + 0x20 * p
def kSampleLen (p : Nat) : Nat := bERR + 0x208 + 0x20 * p
def kSampleStat (p : Nat) : Nat := bERR + 0x218 + 0x20 * p

/-- Bytes 0 to 4,095 of a core's scratchpad, zeros for a confidential composition (R488); of a cluster switched out, its
saved bytes. -/
def State.sampleCore (s : State) (p c : Nat) : List Byte :=
  if flagConf (s.part p).flags then List.replicate 4096 0
  else if (s.clu (c / 16)).bound ∧ (s.clu (c / 16)).part ≠ p then
    (List.range 4096).map fun i =>
      if tblGet (fun _ => false) (s.part p).savedW (c * 2 ^ 15 + i / 32) then tblGet (fun _ => 0) (s.part p).saved (c * 2 ^ 20 + i) else 0
  else s.spadRead c 0 4096

/-- The record of a core; of a cluster switched out, that of a core at rest. -/
def State.sampleRec (s : State) (p c : Nat) : List Byte :=
  if (s.clu (c / 16)).bound ∧ (s.clu (c / 16)).part ≠ p then (s.setCore c Core.reset).coreRecord c else s.coreRecord c

/-- A sample (R520, Table 5), taken at one instant (log 29). `slot` is the launch's slot or 0xFF, `running` tells that the
cores were not stopped. -/
def State.sampleBytes (s : State) (p slot : Nat) (running cut : Bool) : List Byte :=
  let q := s.part p
  let os := s.objsOf p
  let cs := (maskList 48 q.clusters).flatMap fun k => (List.range 16).map (16 * k + ·)
  toBytes 4 0x504D4153 ++ toBytes 4 (os.length * 65536 + cs.length) ++ toBytes 8 s.now ++ toBytes 8 s.now
    ++ toBytes 4 (p * 2 ^ 24 + q.comp) ++ toBytes 1 slot ++ toBytes 1 (b2n (flagConf q.flags) + 2 * b2n cut + 4 * b2n running)
    ++ toBytes 2 0 ++ toBytes 4 4096 ++ toBytes 28 0
    ++ os.flatMap s.objRecord ++ cs.flatMap (s.sampleRec p) ++ cs.flatMap (s.sampleCore p)

/-- A sample taken and written; where ERR_SAMPLE_ADDR is zero none is, and the HANG event follows at once (R519, R520). -/
def State.takeSample (s : State) (p slot : Nat) (running : Bool) (hang : Option Nat) : State :=
  let a := s.reg (kSampleAddr p) / 64 * 64
  if a = 0 then match hang with
    | some i => s.mbEvent p 0x0D i
    | none => s
  else
    let len := s.reg (kSampleLen p)
    let full := s.sampleBytes p slot running false
    let cut := decide (full.length > len)
    let bs := (if cut then s.sampleBytes p slot running true else full).take len
    ((s.setReg (kSampleStat p) 0).hostWrite 0 a bs).modPart p fun q => { q with sample := some ⟨bs.length, cut, hang⟩ }

/-- SAMPLE (R520): the manager's request through ERR_PART_CTRL. -/
def execSample (p : PartId) (s : State) : Out :=
  .next (if (s.part p).sample.isSome then s else s.takeSample p 0xFF (s.part p).launch.isSome none)

/-- SAMPLE_END (R519, R520): the host writes are done, or one has failed. -/
def execSampleEnd (p : PartId) (ok : Bool) (s : State) : Out :=
  .next (match (s.part p).sample with
    | none => s
    | some x =>
      let s1 := (s.modPart p fun q => { q with sample := none }).setReg (kSampleStat p)
        (2 ^ 31 + (if ok then 0 else 2 ^ 30) + (if x.cut then 2 ^ 29 else 0) + x.bytes / 256)
      let s2 := s1.ledgerPart 0x0502 p p 0 0 x.bytes
      match x.hang with
      | some i => s2.mbEvent p 0x0D i
      | none => s2)

/-! Composition reset (R524) -/

/-- The model's numbers of the causes. -/
def ResetCause.code : ResetCause → Nat
  | .watchdog => 1 | .context => 2 | .memberReset => 3 | .rebind => 4 | .lost => 5 | .manager => 6

/-- A core stopped and emptied; the registers of its datapath stay (R523, R524). -/
def Core.cleared (k : Core) : Core :=
  { Core.reset with w0 := k.w0, w1 := k.w1, acc0 := k.acc0, acc1 := k.acc1, vregs := k.vregs, preds := k.preds }

/-- Waiters of objects removed and faults cleared (R328, R524); host WAITs end FAILED with RESET. -/
def State.calmObjs (s : State) : List Nat → State
  | [] => s
  | o :: os =>
    let x := s.obj o
    ((s.setObj o { x with waiters := [], fault := 0, primed := false }).endHostWaits 2 5 x.waiters).calmObjs os

/-- Trees with every operation abandoned and SEQ zero (R328). -/
def calmTrees (p : Nat) (t : Tbl TreeNode) : Tbl TreeNode :=
  t.map fun e => (e.1, if e.1 / 65536 = p then
    { TreeNode.empty with parent := e.2.parent, children := e.2.children, members := e.2.members, levels := e.2.levels, root := e.2.root }
    else e.2)

/-- Transactions of removed work rest until their time is over (R289). -/
def State.restTxns (s : State) (p : Nat) : State :=
  { s with txns := s.txns.map fun e => (e.1, e.2.map fun t =>
      if t.engine ≠ hostEngine ∧ ((t.core < 768 ∧ (s.core t.core).part = p) ∨ (t.kind ≠ .sig ∧ (s.outWin t.entry).part = p))
      then { t with resting := true } else t) }

/-- Queued launches ended ABORTED (R524 step 3). -/
def State.abortQueue (s : State) : List Queued → State
  | [] => s
  | x :: xs => (s.endDesc x.desc 3 3).abortQueue xs

/-- Clusters flash-cleared (R93). -/
def State.flashAll (s : State) : List Nat → State
  | [] => s
  | k :: ks => (s.flashClear k).flashAll ks

/-- Work of a partition removed from cores and engines (R524 step 1). -/
def State.removeWork (s : State) (p : Nat) : State :=
  let s0 := s.restTxns p
  let s1 : State := { s0 with
    cores := s0.cores.map fun e => (e.1, if e.2.part = p then e.2.cleared else e.2),
    winQ := s0.winQ.filter fun r => r.part != p,
    trees := calmTrees p s0.trees }
  let held := (maskList 48 (s.part p).clusters).filter fun k => (s.clu k).bound && (s.clu k).part == p
  let s2 : State := { s1 with buckets := s1.buckets.filter fun e => !held.contains (e.1 / 2 ^ 24) }
  let r := s2.pullXfers fun x => x.part == p
  r.1.abortCopies r.2

/-- A member's part of a composition reset up to the hold (R524 steps 1 to 3). -/
def State.resetLocal (s : State) (p : Nat) (cause : ResetCause) (asked : Bool) : State :=
  let q := s.part p
  let held := (maskList 48 q.clusters).filter fun k => !((s.clu k).bound && (s.clu k).part != p)
  let slot := match q.launch with
    | some l => l.slot
    | none => 0xFF
  let s1 := ((s.draw).ledgerPart 0x0A03 p q.comp (Config.free s.freeCtr % 2 ^ 32) 0 0).opEnd p 0x0C
  let s2 := ((s1.dropUpdate p).modPart p fun q => { q with swAsked := false, swWait := [] }).setSt p .resetting
  let s3 := if cause = .watchdog then s2.takeSample p slot false (some slot) else s2
  let s4 := s3.removeWork p
  let s5 := ((s4.calmObjs (s4.objsOf p)).flashAll held).freePool p
  let r := s5.revokeWins (fun i => i.grantee == q.comp || i.part == p) (List.range 1023)
  let s6 := (r.1.abortQueue q.queue).modPart p fun q =>
    { q with queue := [], rst := some ⟨cause.code, s.now, false, [], [], asked, false, r.2, false⟩,
             launch := if q.anchor = s.reg bFAB then q.launch else none }
  { s6 with switches := s6.switches.filter fun x => x.part != p }

/-- A composition reset on an edge of the composition tree (R323, Table 10; R328). -/
def State.resetFlit (s : State) (p dir link : Nat) : State := s.gop p 0xFFFF 4 dir 0 link 0 0 0 0 []

def State.resetFlits (s : State) (p dir : Nat) : List Nat → State
  | [] => s
  | l :: ls => (s.resetFlit p dir l).resetFlits p dir ls

/-- States in which a composition reset starts (R524, R527). -/
def PartSt.resets (st : PartSt) : Bool := st == .sealed || st == .suspended || st == .failed || st == .rebinding

/-- The result of a launch that a reset ends: WATCHDOG or ABORTED, where none is settled (R519, R522, R524). -/
def Launch.ended (l : Launch) (cause : ResetCause) : Launch :=
  if l.result ≠ 0 then l else { l with result := if cause = .watchdog then 2 else 3 }

/-- A warm reset is pending: it takes in every narrower reset (R525, R527). -/
def State.warmDue (s : State) : Bool := s.boot.pending.isSome

/-- A composition reset started at the anchor (R524 step 1); one that runs takes in another, and a pending warm reset every one
(R527). -/
def State.resetStart (s : State) (p : Nat) (cause : ResetCause) : State :=
  let q := s.part p
  if s.warmDue || !q.st.resets then s
  else
    let s1 := s.modPart p fun q => { q with launch := q.launch.map fun l => l.ended cause }
    let s2 := if cause = .watchdog then s1.tellMembers p 26 1 0 else s1
    (s2.resetFlits p 6 q.ctree.children).resetLocal p cause false

/-- Windows reopened under a new GEN, and their borrowers told (R242, R524 step 5). -/
def State.reopen (s : State) : List Nat → State
  | [] => s
  | w :: ws =>
    let i := s.inWin w
    let g := if i.revoking then (i.gen + 1) % 256 else i.gen
    let s1 := s.setInWin w { i with valid := true, revoking := false, gen := g, accepted := 0, bad := false }
    (s1.emit (.curator i.borrower 8 (w + g * 2 ^ 16 + i.size * 2 ^ 24) (b2n i.r + 2 * b2n i.w + 4 * b2n i.scratch))).reopen ws

/-- A context of VF `v` holds the launch that its partition runs (R522). -/
def State.ctxRuns (s : State) (v h : Nat) : Bool :=
  match (s.part (v - 1)).launch with
  | some l => s.isAnchor (v - 1) && l.ctx == h && l.host.isSome && l.result == 0
  | none => false

/-- A TDI goes to a state by `f`; where it leaves RUN, its contexts are reset, and the running launch that one of them holds brings
a composition reset (R486, R522). -/
def State.tdiOut (s : State) (v : Nat) (f : State → State) : State :=
  let s1 := f s
  if (s.inst v).tdi = .run ∧ (s1.inst v).tdi ≠ .run ∧ (s.inst v).ctxs.any (s.ctxRuns v) then s1.resetStart (v - 1) .context else s1

/-- A TDI enters ERROR, but by a composition reset (R486). -/
def State.tdiLeave (s : State) (v : Nat) : State := s.tdiOut v fun s => s.tdiFail v

/-- Bytes of the request area. -/
def Inst.req (i : Inst) (o n : Nat) : Nat := ofBytes (tblRun (fun _ => 0) i.page (0x40 + o) n)

/-- The reply written, and VF vector 0 raised. -/
def State.mbReply (s : State) (v status : Nat) (results : List Byte) : State :=
  let i := s.inst v
  let bs := toBytes 2 (i.req 0 2 % 2 ^ 15 + 2 ^ 15) ++ toBytes 2 (i.req 2 2) ++ toBytes 1 status ++ toBytes 3 0 ++ results
  (s.setInst v { i with page := tblSetRun (fun _ => 0) i.page 0xC0 bs }).msix v 0

/-- The CTX_RESET that the reset has taken in is answered (R527); it has aborted nothing itself (log 54). -/
def State.ctxAnswer (s : State) (p : Nat) : State :=
  if (s.part p).ctxAsk then (s.modPart p fun q => { q with ctxAsk := false }).mbReply (p + 1) 0 (toBytes 4 0) else s

/-- A partition back at rest after its reset (R524 step 5). -/
def State.resetOver (s : State) (p : Nat) (r : ResetSt) : State :=
  let s1 := (s.reopen r.windows).modPart p fun q => { q with rst := none }
  (s1.setSt p (if s1.holdsAll p then .sealed else .suspended)).ctxAnswer p

/-- The launch that the reset ended writes its completion (R519, R390). -/
def State.resetLaunch (s : State) (p : Nat) (r : ResetSt) : State :=
  match (s.part p).launch with
  | none => s
  | some l =>
    let s1 := (s.launchOver p).setReg (kWdogStat p) 0
    let v := if l.result = 2 then { l with faultCore := 0xFFFFFFFF } else l
    match l.host with
    | some d => s1.endDesc d (launchStatus l.result) (launchResult v (if l.result = 2 then r.at_ else s.now))
    | none => s1

/-- Every other member has confirmed, over the tree or by message. -/
def State.allConfirmed (s : State) (p : Nat) (r : ResetSt) : Bool :=
  (s.part p).ctree.children.all (fun l => r.kids.contains l) && ((s.otherMembers p).isEmpty || !(s.part p).ctree.children.isEmpty)
    || (s.otherMembers p).all fun f => r.heard.contains f

/-- A reset driven on once something has reached it (R524 steps 4 and 5). -/
def State.resetGo (s : State) (p : Nat) : State :=
  let q := s.part p
  match q.rst with
  | none => s
  | some r =>
    if !r.held then s
    else if q.anchor = s.reg bFAB then
      if s.allConfirmed p r then (((s.resetOver p r).resetLaunch p r).launchNext p) else s
    else if q.ctree.children.all fun l => r.kids.contains l then
      let s1 := match q.ctree.parent with
        | some l => s.resetFlit p 5 l
        | none => s
      let s2 := if r.asked then s1.emit (.curator q.anchor 27 0 0) else s1
      s2.resetOver p r
    else if r.asked then ((s.emit (.curator q.anchor 27 0 0)).modPart p fun q => { q with rst := some { r with asked := false } })
    else s

/-- COMP_RESET (R524): the manager's ERR_PART_CTRL.COMP_RESET, acted on at the anchor in SEALED, SUSPENDED or FAILED (R532). -/
def execCompReset (p : PartId) (s : State) : Out :=
  .next (
    let q := s.part p
    if s.isAnchor p ∧ (q.st = .sealed ∨ q.st = .suspended ∨ q.st = .failed) then s.resetStart p .manager else s)

/-- RESET_HOLD_END (R524 step 4): 2 ms after the engines stopped. -/
def execResetHoldEnd (p : PartId) (s : State) : Out :=
  .next (match (s.part p).rst with
    | some r => if s.now < r.at_ + 2000000 then s else (s.modPart p fun q => { q with rst := some { r with held := true } }).resetGo p
    | none => s)

/-- RESET_CONFIRM_TIMEOUT (R524): 10 ms without a confirmation. The anchor repeats the reset by message, and then gives the
member up: the composition is FAILED. -/
def execResetConfirmTimeout (p : PartId) (s : State) : Out :=
  .next (match (s.part p).rst with
    | none => s
    | some r =>
      if (s.part p).anchor ≠ s.reg bFAB ∨ s.allConfirmed p r then s
      else if !r.repeated then
        (s.modPart p fun q => { q with rst := some { r with repeated := true } }).tellMembers p 26 r.cause 0
      else
        ((s.reopen r.windows).modPart p fun q => { q with rst := none }).setSt p .failed |>.ctxAnswer p |>.resetLaunch p r)

/-- The up flit of a child, or the down flit of the parent, of a composition reset (R324, R328). -/
def State.resetGop (s : State) (p link dir : Nat) : State :=
  let q := s.part p
  if dir % 4 = 2 ∧ q.ctree.parent = some link then
    if q.st.resets then (s.resetFlits p 6 q.ctree.children).resetLocal p .manager false else s
  else if dir % 4 = 1 ∧ q.ctree.children.contains link then
    match q.rst with
    | some r => (s.modPart p fun q => { q with rst := some { r with kids := r.kids ++ [link] } }).resetGo p
    | none => s
  else s.bump (bSYN + 0x18) 1

/-- GOP (R292, R323, R324, R328): a flit of kind 0x20 for this module, come in over a link. -/
def execGop (link : LinkId) (f : Flit) (s : State) : Out :=
  .next (if f.kind ≠ 0x20 ∨ f.dst ≠ s.reg bFAB then s
    else if f.aux / 65536 = 0xFFFF ∧ f.aux / 4096 % 16 = 4 then
      match s.partOf f.comp with
      | none => s.dropFlit 0x104
      | some p => if (s.part p).epoch % 65536 ≠ f.cepoch then s.dropFlit 0x100 else s.resetGop p link (f.aux / 256 % 16)
    else s.gopCheck link f)

/-! The watchdog (R518, R519) -/

/-- WATCHDOG_FIRE (R518, R519): the launch has run for its limit, re-bind pauses left out. -/
def execWatchdogFire (p : PartId) (s : State) : Out :=
  .next (
    let q := s.part p
    match q.launch with
    | none => s
    | some l =>
      if q.anchor ≠ s.reg bFAB ∨ l.result ≠ 0 ∨ q.st ≠ .sealed ∨ s.now < l.start + l.paused + l.limit then s
      else
        let s1 := (s.bump (bERR + 0x21C + 0x20 * p) 1).ledgerPart 0x0501 p l.slot l.faultCode 0 0
        s1.resetStart p .watchdog)

end Sys2Proof.Machine
end

