-- ==== Sys2Proof/Machine/HostObj.lean ====
section
/-! DEFINITION. The objects that SIGNAL and WAIT descriptors name, and host waiters over a re-bind (spec/14: R392; spec/15:
R409). -/
namespace Sys2Proof.Machine

/-- The offset of the image section of a slot in a catalogue (R345). -/
def catSection (cat : List Byte) (slot : Nat) : Nat → Nat → Option Nat
  | 0, _ => none
  | n + 1, o =>
    if imgField cat o 4 = slot then some o
    else
      let pad := fun k => 32 * ceilDiv k 8
      catSection cat slot n (o + 32 + pad (imgField cat (o + 4) 4) + pad (imgField cat (o + 8) 4) + pad (imgField cat (o + 12) 4))

/-- A placement entry of a catalogue: the member's Fabric ID and the unit field; `map_` is 0 for virtual clusters, 2 for
device objects. -/
def catEntry (cat : List Byte) (slot map_ v : Nat) : Option (Nat × Nat) :=
  (catSection cat slot (imgField cat 0x14 4) (imgField cat 0x28 4)).bind fun o =>
    let pad := fun k => 32 * ceilDiv k 8
    let n := imgField cat (o + 4 + 4 * map_) 4
    let base := o + 32 + (if map_ = 0 then 0 else pad (imgField cat (o + 4) 4) + pad (imgField cat (o + 8) 4))
    let e := imgField cat (base + 4 * v) 4
    if v ≥ n ∨ e = 0xFFFFFFFF then none else some (imgField cat (64 + 64 * (e / 2 ^ 18)) 2, e % 2 ^ 18)

/-- The physical object of an object name (R116, R306, R392): from this module's placement, else from the catalogue. -/
def State.namedObj (s : State) (p slot v obj : Nat) : Option ObjRef :=
  let q := s.part p
  let own := s.reg bFAB
  let found :=
    if (q.image slot).isNone then none
    else if v = 0xFFFFFFFF then
      if obj < 0x80000 ∨ obj ≥ 0xFFFFF then none
      else match tblGet (fun _ => none) q.dobj (unitKey slot (obj - 0x80000)) with
        | some r => some r
        | none => (catEntry q.catalogue slot 2 (obj - 0x80000)).map fun x => ⟨x.1, x.2 % 2 ^ 14⟩
    else if obj ≥ 0x100 then none
    else match tblGet (fun _ => none) q.vmap (unitKey slot v) with
      | some k => some ⟨own, 0x100 * k + obj⟩
      | none => (catEntry q.catalogue slot 0 v).map fun x => ⟨x.1, 0x100 * (x.2 / 2 ^ 12) + obj⟩
  match found with
  | some r => if r.fid = own ∧ (s.obj r.obj).owner ≠ some p then none else some r
  | none => none

/-- The object that a SIGNAL or WAIT descriptor names (R392). -/
def State.descObj (s : State) (d : HostDesc) : Option ObjRef := s.namedObj (d.fn - 1) (d.fld 24 1) (d.fld 28 4) (d.fld 32 4 % 2 ^ 20)

/-- Host waiters of a partition joined again when its cores resume (R409). -/
def State.rejoin (s : State) : List HostDesc → State
  | [] => s
  | d :: ds =>
    let s1 := s.modDesc d.id fun x => { x with asleep := false, late := false }
    (if d.late then s1.endDesc d.id 4 1
    else match s1.descObj d with
      | none => s1.endDesc d.id 2 2
      | some r =>
        if r.fid ≠ s.reg bFAB then s1.endDesc d.id 2 4
        else (s1.modDesc d.id fun x => { x with obj := some r.obj }).objJoin r.obj (.host d.id) 3 0).rejoin ds

/-- The waiters withdrawn from a partition's objects. -/
def State.sleepers (s : State) (p : Nat) : List HostDesc := s.descs.filter fun d => d.asleep && d.fn == p + 1

end Sys2Proof.Machine
end

