-- ==== Sys2Proof/Machine/Rings.lean ====
section
/-! DEFINITION. Rings and doorbells, descriptor fetches, NOP, COPY, SIGNAL and WAIT descriptors, reference counts, function resets
(spec/14: R372 to R386, R391 to R394, R400; spec/15: R411, R413, R415; spec/19: R526; spec/20: R535). -/
namespace Sys2Proof.Machine

/-! Ring registers (R379) -/

/-- A configuration with the fields of `m` taken from a write, LOG2SIZE only where it is 6 to 16 (R406). -/
def cfgFields (m old v : Nat) : Nat :=
  let n := (old - (old &&& m)) ||| (v &&& m)
  if 6 ≤ v % 32 ∧ v % 32 ≤ 16 then n / 32 * 32 + v % 32 else n / 32 * 32 + old % 32

/-- HIF_SQ_CFG (R379): while ENABLE is 1 only ENABLE is taken; setting it starts the ring at entry 0. -/
def execHifSqCfg (fn : FnId) (r : Fin 16) (v : W32) (s : State) : Out :=
  .next (if !s.hostOn fn then s
    else
      let k := kSqCfg fn r
      let old := s.reg k
      if bitAt old 31 then (if bitAt v.toNat 31 then s else s.clearBits k (2 ^ 31))
      else
        let s1 := s.setReg k (cfgFields 0x9F000000 old v.toNat)
        if bitAt v.toNat 31 then s1.setSq fn r Sq.reset else s1)

/-- A submission ring that names completion ring `q` is enabled or has descriptors in flight. -/
def State.cqUsed (s : State) (fn q : Nat) : Bool :=
  (List.range 16).any fun r =>
    bits (s.reg (kSqCfg fn r)) 27 24 == q
      && (bitAt (s.reg (kSqCfg fn r)) 31 || (s.ringDescs fn r).any fun d => !d.dropped)

/-- A vector that a completion ring of the function may name (R401). -/
def vectorOk (fn vec : Nat) : Bool := if fn = 0 then decide (64 ≤ vec) else decide (1 ≤ vec) && decide (vec ≤ 63)

/-- HIF_CQ_CFG (R379, R401): as HIF_SQ_CFG; a ring in use is not disabled, and a vector that is not its own is ignored. -/
def execHifCqCfg (fn : FnId) (q : Fin 16) (v : W32) (s : State) : Out :=
  .next (if !s.hostOn fn then s
    else
      let k := kCqCfg fn q
      let old := s.reg k
      if bitAt old 31 then
        if bitAt v.toNat 31 ∨ s.cqUsed fn q ∨ !(s.cq fn q).waiting.isEmpty then s else s.clearBits k (2 ^ 31)
      else
        let m := if vectorOk fn (bits v.toNat 23 16) then 0xC0FFFF00 else 0xC000FF00
        let s1 := s.setReg k (cfgFields m old v.toNat)
        if bitAt v.toNat 31 then (s1.setCq fn q { s1.cq fn q with tail := 0, phase := true, head := 0, pend := 0 }).cqGo fn q
        else s1)

/-! Doorbells (R380) -/

/-- SQ_DOORBELL (R380): the new tail; one at or above the ring's size sets DBERR. -/
def execSqDoorbell (fn : FnId) (r : Fin 16) (v : Fin 65536) (s : State) : Out :=
  .next (
    let cfg := s.reg (kSqCfg fn r)
    if !s.hostOn fn ∨ !bitAt cfg 31 then s
    else if v.val ≥ ringSize cfg then s.setBits (kSqStat fn r) (2 ^ 31)
    else s.setSq fn r { s.sq fn r with tail := v })

/-- DBERR set on the submission rings that name a completion ring. -/
def State.cqDberr (s : State) (fn q : Nat) : List Nat → State
  | [] => s
  | r :: rs => (if bits (s.reg (kSqCfg fn r)) 27 24 = q then s.setBits (kSqStat fn r) (2 ^ 31) else s).cqDberr fn q rs

/-- CQ_DOORBELL (R380, R385): the new head, and waiting completions written. The DBERR of a value out of range is shown by the
submission rings that name the ring (DEDUCED, log 34). -/
def execCqDoorbell (fn : FnId) (q : Fin 16) (v : Fin 65536) (s : State) : Out :=
  .next (
    let cfg := s.reg (kCqCfg fn q)
    if !s.hostOn fn ∨ !bitAt cfg 31 then s
    else if v.val ≥ ringSize cfg then s.cqDberr fn q (List.range 16)
    else (s.setCq fn q { s.cq fn q with head := v }).cqGo fn q)

/-! Fetching (R382, R385) -/

/-- The fetched descriptors of a run of ring entries, oldest first. -/
def State.takeDescs (s : State) (fn r base i size : Nat) : Nat → State
  | 0 => s
  | n + 1 =>
    let d : HostDesc := ⟨s.nextDesc, fn, r, i, s.hostNat fn (base + 64 * i) 64, .fetched, false, none, false, false⟩
    { s with descs := s.descs ++ [d], nextDesc := s.nextDesc + 1 }.takeDescs fn r base ((i + 1) % size) size n

/-- DESCRIPTOR_FETCH (R382): at most 32 descriptors delivered from HEAD on, or a read that failed, which disables the ring. -/
def execDescriptorFetch (fn : FnId) (r : Fin 16) (ok : Bool) (s : State) : Out :=
  .next (
    let cfg := s.reg (kSqCfg fn r)
    let q := s.sq fn r
    let size := ringSize cfg
    let n := min 32 ((q.tail + size - q.head) % size)
    let full := decide (256 ≤ s.waitingOf fn) && !(s.cq fn (bits cfg 27 24)).waiting.isEmpty
    if !s.hostOn fn ∨ !bitAt cfg 31 ∨ !s.fetches fn ∨ n = 0 ∨ full = true then s
    else if !ok then
      let s1 := (s.clearBits (kSqCfg fn r) (2 ^ 31)).setBits (kSqStat fn r) (2 ^ 30)
      let s2 := if fn.val = 0 then s1.ledger 0x0700 (srcOf3 0xFF 0 0) r 0 0 else s1.ledgerPart 0x0700 (fn - 1) r 0 0 0
      s2.msix fn 0
    else
      let base := s.hif fn (0x100 + 0x20 * r) / 4096 * 4096
      ((s.takeDescs fn r base q.head size n).setSq fn r { q with head := (q.head + n) % size }).ringGo fn r)

/-- DESC_NOP (R388): a NOP completes when it starts. -/
def execDescNop (fn : FnId) (r : Fin 16) (s : State) : Out :=
  .next (s.startDesc fn r 0 fun d s => s.endDesc d.id 0 0)

/-! COPY (R391) -/

/-- A copy may run on engine `e`: a cluster DMA engine of the partition, or a link DMA engine where it has no clusters. -/
def State.copyEngine (s : State) (p e : Nat) : Bool :=
  let cl := (s.part p).clusters
  if e < 96 then bitAt cl (e / 2) else cl == 0

/-- A host copy put into its engine's queue. -/
def State.startHostCopy (s : State) (d : HostDesc) (e : Nat) (src dst : Desc) (rep : Option Repeat) (seed : Nat) (bad : Nat) : State :=
  let x := { Xfer.fresh .hostCopy 1000 d.id (d.fn - 1) src dst with host := some d.id, rep := rep, seed := seed }
  if bad ≠ 0 then s.startRefused x e bad
  else if src.space = 1 ∨ dst.space = 1 then s.startRefused x e stFormat
  else s.startXfer x e

/-- An operand of a linear copy: `n` bytes from an address on, as rows of 32. -/
def linearDesc (v n : Nat) : Desc :=
  { fmt := 8, scaled := false, round := 0, sparse := false, rows := n / 32, aux := 0, stride := 32, elems := 32,
    space := bits v 55 52, base := bits v 51 0 }

/-- COPY_LINEAR (R391). -/
def execCopyLinear (fn : FnId) (r : Fin 16) (e : EngineId) (s : State) : Out :=
  .next (if !s.copyEngine (fn - 1) e ∨ !s.hasRoom e then s
    else s.startIf fn r 4 (fun d => d.fld 24 1 == 0) fun d s =>
      let n := d.fld 48 4
      s.startHostCopy d e (linearDesc (d.fld 32 8) n) (linearDesc (d.fld 40 8) n) none 0
        (if n < 32 ∨ n > 2 ^ 30 ∨ n % 32 ≠ 0 then stFormat else 0))

/-- COPY_DESCRIBED (R391): `ok` says whether the reads of its descriptors in host memory complete. -/
def execCopyDescribed (fn : FnId) (r : Fin 16) (e : EngineId) (ok : Bool) (s : State) : Out :=
  .next (if !s.copyEngine (fn - 1) e ∨ !s.hasRoom e then s
    else s.startIf fn r 4 (fun d => d.fld 24 1 == 1) fun d s =>
      let src := descOf (s.hostNat fn (d.fld 32 8) 32)
      let dst := descOf (s.hostNat fn (d.fld 40 8) 32)
      let rep := if d.fld 56 8 = 0 then none else some (repeatOf (s.hostNat fn (d.fld 56 8) 32))
      s.startHostCopy d e src dst rep (d.fld 48 8) (if ok then 0 else stTrans))

/-! SIGNAL and WAIT (R392 to R394) -/

/-- SIGNAL and WAIT are held while the partition is REBINDING (R409). -/
def State.syncHeld (s : State) (fn : Nat) : Bool := (s.part (fn - 1)).st == .rebinding

/-- HOST_SIGNAL (R393): the ADD applied here, or sent to the object's home. A SIG flit carries an amount of 1 to 255 (R292); what
it carries for another is free (log 35). -/
def execHostSignal (fn : FnId) (r : Fin 16) (s : State) : Out :=
  .next (if s.syncHeld fn then s
    else s.startDesc fn r 5 fun d s =>
      match s.descObj d with
      | none => s.endDesc d.id 2 2
      | some o =>
        if o.fid = s.reg bFAB then
          let x := s.objAdd o.obj (signed 32 (d.fld 36 4)) 3 0
          x.1.endDesc d.id (if x.2 = 0 then 0 else 2) x.2
        else
          let p := s.part (fn - 1)
          let a := d.fld 36 4
          let amount := if 1 ≤ a ∧ a ≤ 255 then a else Config.free s.freeCtr % 256
          (s.draw.newTxn ⟨.sig, hostEngine, 1000, d.id, o.fid, o.obj, 0, 0, false⟩).sendFlit
            { kind := 0x13, vc := 0, hops := 0, dst := o.fid, src := s.reg bFAB, comp := p.comp, cepoch := p.epoch % 65536,
              tag := s.freeTag, units := 0, total := 0, window := 0, gen := 0, offset := 0,
              aux := o.obj * 65536 + amount * 256, body := [] })

/-- Host waiters of the module, those withdrawn for a pause among them (R394). -/
def State.hostWaiters (s : State) : Nat := (s.descs.filter fun d => d.obj.isSome || d.asleep).length

/-- HOST_WAIT (R394). -/
def execHostWait (fn : FnId) (r : Fin 16) (s : State) : Out :=
  .next (if s.syncHeld fn then s
    else s.startDesc fn r 6 fun d s =>
      match s.descObj d with
      | none => s.endDesc d.id 2 2
      | some o =>
        if o.fid ≠ s.reg bFAB then s.endDesc d.id 2 4
        else if s.hostWaiters ≥ 255 then s.endDesc d.id 2 3
        else (s.modDesc d.id fun x => { x with obj := some o.obj }).objJoin o.obj (.host d.id) 3 0)

/-- HOST_WAIT_TIMEOUT (R394, R409): the waiter leaves the list; one withdrawn for a pause ends when the cores resume. -/
def execHostWaitTimeout (id : Nat) (s : State) : Out :=
  .next (match s.desc id with
    | none => s
    | some d =>
      if d.type ≠ 6 ∨ d.fld 40 4 = 0 ∨ d.st ≠ .running then s
      else if d.asleep then s.modDesc id fun x => { x with late := true }
      else match d.obj with
        | none => s
        | some o =>
          (s.setObj o { s.obj o with waiters := (s.obj o).waiters.filter fun w => w != .host id }).endDesc id 4 1)

/-! Reference counts (R411, R413) -/

/-- A FetchAdd of a descriptor is over; its record follows once none is out (R386). -/
def State.refDone (s : State) (id : Nat) : State :=
  match s.desc id with
  | none => s
  | some d =>
    match d.st with
    | .ended st res n =>
      if n ≤ 1 then (s.finishDesc d st res).ringGo d.fn d.ring
      else s.modDesc id fun x => { x with st := .ended st res (n - 1) }
    | _ => s

/-- FETCHADD_COMPLETE (R411, R413): FetchAdd `n` of those on their way completes with the entry's old value, or fails. -/
def execFetchaddComplete (n : Nat) (ok : Bool) (s : State) : Out :=
  .next (match s.refOps[n]? with
    | none => s
    | some x =>
      let s1 : State := { s with refOps := s.refOps.eraseIdx n }
      let a := s1.hif x.fn 0x900 / 4096 * 4096 + 4 * x.entry
      let old := s1.hostNat x.fn a 4
      let s2 :=
        if !ok then s1.refOutcome x.fn 30 x.entry 2 true
        else
          let s3 := s1.hostWrite x.fn a (toBytes 4 ((old + 0xFFFFFFFF) % 2 ^ 32))
          if old = 0 then s3.refOutcome x.fn 29 x.entry 3 true else s3
      s2.refDone x.desc)

/-- COALESCE_TIMEOUT (R400): the interrupt of a ring's pending records. -/
def execCoalesceTimeout (fn : FnId) (q : Fin 16) (s : State) : Out :=
  .next (if (s.cq fn q).pend > 0 ∧ !bitAt (s.reg (kCqCfg fn q)) 30 then s.cqInterrupt fn q else s)

/-! Function resets (R374, R415, R526, R535) -/

/-- Registers of a function's rings. -/
def ringKey (fn k : Nat) : Bool :=
  decide (hifKey fn (bHIF + 0x100) ≤ k) && decide (k < hifKey fn (bHIF + 0x800))

/-- Function Level Reset (R374): PCIe state, ring registers, MSI-X table and doorbells; completions of fetched descriptors are
discarded; a TDI goes to ERROR (R486). -/
def State.flr (s : State) (fn : Nat) : State :=
  let s1 : State := { s with
    descs := s.descs.map fun d => if d.fn = fn then { d with dropped := true } else d,
    sqs := tblClear (16 * fn) (16 * fn + 16) s.sqs,
    cqs := tblClear (16 * fn) (16 * fn + 16) s.cqs,
    regs := s.regs.filter fun e => !ringKey fn e.1,
    pcie := { s.pcie with atomic := s.pcie.atomic.filter fun x => x != fn, ats := s.pcie.ats.filter fun x => x != fn,
                          msixT := tblClear (1024 * fn) (1024 * fn + 1024) s.pcie.msixT,
                          pba := tblClear (256 * fn) (256 * fn + 256) s.pcie.pba } }
  if fn = 0 then s1 else s1.tdiLeave fn

/-- Functions reset. -/
def State.flrs (s : State) : List Nat → State
  | [] => s
  | fn :: fns => (s.flr fn).flrs fns

/-- FLR (R374); a pending warm reset takes it in (R527). -/
def execFlr (fn : FnId) (s : State) : Out := .next (if s.hostOn fn ∧ !s.warmDue then s.flr fn else s)

/-- PCIE_RESET (R526): every function as FLR does, and nothing else; a pending warm reset takes it in (R527). -/
def execPcieReset (s : State) : Out := .next (if s.warmDue then s else s.flrs (List.range 33))

/-- PERST_DEASSERT (R535): the port begins to answer configuration requests, unless ROM recovery holds it in reset (R553). -/
def execPerstDeassert (s : State) : Out :=
  .next (if s.boot.good ∧ !s.boot.recovery then { s with pcie := { s.pcie with up := true } } else s)

/-- VF_ENABLE_CHANGE (R373, R415): `n` VFs are enabled; a VF that disappears is treated as after FLR. -/
def execVfEnableChange (n : Fin 33) (s : State) : Out :=
  .next (
    let s1 := s.flrs ((List.range (s.pcie.vfs - n)).map fun i => n + 1 + i)
    { s1 with pcie := { s1.pcie with vfs := n } })

end Sys2Proof.Machine
end

