-- ==== Sys2Proof/Machine/Instances.lean ====
section
/-! DEFINITION. QUIESCE, the instance commands, the mailbox and its requests, context resets (spec/15: R408, R415 to R425;
spec/14: R396, R397; spec/19: R522). -/
namespace Sys2Proof.Machine

/-! Quiescing (R423 to R425) -/

/-- The count of a quiesce's result: descriptors still to complete for a DRAIN, those that an ABORT removes, which have not ended
(R423, R424). -/
def State.quiesceCount (s : State) (v : Nat) (abort : Bool) : Nat :=
  if abort then (s.descs.filter fun d => d.fn == v && !d.isOver).length else s.openDescs v

/-- The target starts to come to rest: no more fetching, and its event. -/
def State.quiesceStart (s : State) (v : Nat) (abort : Bool) (desc : Nat) : State :=
  (s.modInst v fun i =>
    { i with st := .quiescing, quiesceMode := b2n abort, quiesce := some ⟨abort, some desc, s.quiesceCount v abort⟩ }).mbEvent
    (v - 1) 0x0A (b2n abort)

/-- A DRAIN in force ends with a code and the number of descriptors that have drained. -/
def State.drainOver (s : State) (v code : Nat) : State :=
  match (s.inst v).quiesce with
  | some q =>
    let s1 := s.modInst v fun i => { i with quiesce := none }
    match q.desc with
    | some d => s1.quiesceDone d code (q.count - s1.openDescs v)
    | none => s1
  | none => s

/-- An ABORT of the instance is in force (R425). -/
def State.aborting (s : State) (v : Nat) : Bool :=
  match (s.inst v).quiesce with
  | some q => q.abort
  | none => false

/-- MODE of a QUIESCE. -/
def HostDesc.mode (d : HostDesc) : Nat := d.fld 25 1
/-- TARGET of a QUIESCE. -/
def HostDesc.target (d : HostDesc) : Nat := d.fld 24 1

/-- QUIESCE_DRAIN (R424, R425). A DRAIN that meets an ABORT in force ends BUSY (DESIGN CHOICE, log 36). -/
def execQuiesceDrain (r : Fin 16) (s : State) : Out :=
  .next (s.startIf 0 r 8 (fun d => d.mode == 0) fun d s =>
    let v := d.target
    let i := s.inst v
    if i.st = .absent then s.quiesceDone d.id 1 0
    else if i.st = .quiesced then s.quiesceDone d.id 0 0
    else if i.quiesce.isSome then s.quiesceDone d.id 4 0
    else s.quiesceStart v false d.id)

/-- QUIESCE_DRAIN_END (R424): every descriptor and FetchAdd of the target has completed. -/
def execQuiesceDrainEnd (v : Fin 33) (s : State) : Out := .next (if v.val = 0 then s else s.quiesceEnd v)

/-- QUIESCE_TIMEOUT (R423): the TIMEOUT of a DRAIN passes; the target stays QUIESCING. -/
def execQuiesceTimeout (v : Fin 33) (s : State) : Out :=
  .next (match (s.inst v).quiesce with
    | some q =>
      match q.desc.bind s.desc with
      | some d => if q.abort ∨ d.fld 28 4 = 0 ∨ s.drainedInst v then s else s.drainOver v 3
      | none => s
    | none => s)

/-- The running launch of an instance's composition ends ABORTED at the anchor; every member stops (R424). -/
def State.abortLaunch (s : State) (p : Nat) : State :=
  match (s.part p).launch with
  | some l =>
    if !s.isAnchor p ∨ l.result ≠ 0 then s
    else
      let s1 : State := { s.modPart p (fun q => { q with launch := some { l with result := 3 } }) with cores := stopOthers p 0xFFFFFFFF s.cores }
      s1.tellMembers p 14 0xFFFFFFFF 0
  | none => s

/-- QUIESCE_ABORT (R424, R425): every fetched descriptor of the target removed; a DRAIN in force is PREEMPTED; its TDI goes to
ERROR. -/
def execQuiesceAbort (r : Fin 16) (s : State) : Out :=
  .next (s.startIf 0 r 8 (fun d => d.mode == 1) fun d s =>
    let v := d.target
    let i := s.inst v
    if i.st = .absent then s.quiesceDone d.id 1 0
    else if i.st = .quiesced then s.quiesceDone d.id 0 0
    else if s.aborting v then s.quiesceDone d.id 4 0
    else
      let s1 := (s.drainOver v 5).quiesceStart v true d.id
      let s2 := (s1.removeDescs (s1.descs.filter fun x => x.fn == v)).1
      ((s2.tdiLeave v).abortLaunch (v - 1)).quiesceEnd v)

/-- QUIESCE_RESUME (R425): back to READY; during an ABORT it waits. -/
def execQuiesceResume (r : Fin 16) (s : State) : Out :=
  .next (s.startIf 0 r 8 (fun d => d.mode == 2 && !s.aborting d.target) fun d s =>
    let v := d.target
    let i := s.inst v
    if i.st = .absent then s.quiesceDone d.id 1 0
    else if i.st = .ready then s.quiesceDone d.id 2 0
    else
      let s1 := (s.drainOver v 6).modInst v fun i => { i with st := .ready, quiesceMode := 0 }
      (s1.mbEvent (v - 1) 0x0A 2).quiesceDone d.id 0 0)

/-! MGMT commands (R397) -/

/-- CMD of an MGMT. -/
def HostDesc.cmd (d : HostDesc) : Nat := d.fld 24 2
/-- ARG0 of an MGMT. -/
def HostDesc.arg0 (d : HostDesc) : Nat := d.fld 28 4
/-- The bytes that IN names. -/
def State.mgmtIn (s : State) (d : HostDesc) : List Byte := s.hostRead 0 (d.fld 32 8) (d.fld 40 4)

/-- An MGMT ends: STATUS, its status byte and the bytes written to OUT (R397). -/
def State.mgmtEnd (s : State) (id status : Nat) (out : List Byte) : State :=
  match s.desc id with
  | none => s
  | some d =>
    let bs := out.take (d.fld 56 4)
    let s1 := if bs.isEmpty then s else s.hostWrite 0 (d.fld 48 8) bs
    s1.endDesc id (if status = 0 then 0 else 2) (status + bs.length * 2 ^ 16)

/-- The next descriptor of PF0's ring `r`, where it is the MGMT command `cmd`. -/
def State.mgmt (s : State) (r cmd : Nat) (f : HostDesc → State → State) : State := s.startIf 0 r 9 (fun d => d.cmd == cmd) f

/-! Instances (R415, R416) -/

/-- Key of HIF_FN_STATUS of a function. -/
def kFnStatus (fn : Nat) : Nat := hifKey fn (bHIF + 4)

/-- Every ring of a function disabled. -/
def State.ringsOff (s : State) (fn : Nat) : List Nat → State
  | [] => s
  | r :: rs => ((s.clearBits (kSqCfg fn r) (2 ^ 31)).clearBits (kCqCfg fn r) (2 ^ 31)).ringsOff fn rs

/-- An instance's host-side state cleared: contexts, held events and mailbox; its reference table is disabled or set back. -/
def State.clearInst (s : State) (v : Nat) (st : InstSt) : State :=
  let i := s.inst v
  s.setInst v { Inst.reset with st := st, part := v - 1, tdi := i.tdi }

/-- INST_CREATE (R416). -/
def execInstCreate (r : Fin 16) (s : State) : Out :=
  .next (s.mgmt r 0x100 fun d s =>
    let v := d.arg0 % 64
    if v = 0 ∨ v > 32 then s.mgmtEnd d.id 4 []
    else if v > s.pcie.vfs then s.mgmtEnd d.id 1 []
    else if (s.inst v).st ≠ .absent then s.mgmtEnd d.id 2 []
    else
      let s1 := ((s.clearInst v .ready).setReg (kRefCfg v) 0xA).setReg (hifKey v (bHIF + 0x900)) 0
      (s1.setReg (kFnStatus v) 1).mgmtEnd d.id 0 [])

/-- INST_REMOVE and INST_RESET clear a QUIESCED instance (R416, R486); a pending warm reset takes them in (R527). -/
def State.instClear (s : State) (d : HostDesc) (st : InstSt) : State :=
  let v := d.arg0 % 64
  if v = 0 ∨ v > 32 then s.mgmtEnd d.id 4 []
  else if (s.inst v).st ≠ .quiesced then s.mgmtEnd d.id 3 []
  else if s.warmDue then s
  else
    let s1 := ((s.tdiLeave v).clearInst v st).ringsOff v (List.range 16)
    let s2 := s1.clearBits (kRefCfg v) (2 ^ 31)
    (s2.setReg (kFnStatus v) (if st = .ready then 1 else 0)).mgmtEnd d.id 0 []

/-- INST_REMOVE (R416). -/
def execInstRemove (r : Fin 16) (s : State) : Out := .next (s.mgmt r 0x101 fun d s => s.instClear d .absent)

/-- INST_RESET (R416). -/
def execInstReset (r : Fin 16) (s : State) : Out := .next (s.mgmt r 0x102 fun d s => s.instClear d .ready)

/-- STATE of an instance (R415, Table 4). -/
def InstSt.code : InstSt → Nat
  | .absent => 0 | .ready => 1 | .quiescing => 2 | .quiesced => 3

/-- Events lost, over all types. -/
def Inst.lostSum (i : Inst) : Nat := (i.lost.map (·.2)).sum

/-- INST_STATUS (R416). -/
def execInstStatus (r : Fin 16) (s : State) : Out :=
  .next (s.mgmt r 0x103 fun d s =>
    let v := d.arg0 % 64
    if v = 0 ∨ v > 32 then s.mgmtEnd d.id 4 []
    else
      let i := s.inst v
      s.mgmtEnd d.id 0 (toBytes 1 i.st.code ++ toBytes 1 i.quiesceMode ++ toBytes 1 (v - 1) ++ toBytes 1 0
        ++ toBytes 4 (s.part (v - 1)).comp ++ toBytes 4 (s.openDescs v) ++ toBytes 4 i.lostSum))

/-! The mailbox (R417, R418, R420, R421) -/

/-- A doorbell of the mailbox reaches it: the writer's function is there, and the instance is not ABSENT (R415, R535). -/
def State.mbOn (s : State) (fn v : Nat) : Bool := s.hostOn fn && v != 0 && (s.inst v).st != .absent

/-- MB_TOMGR_DB (R418). -/
def execMbTomgrDb (v : Fin 33) (s : State) : Out :=
  .next (if !s.mbOn v v then s
    else if (s.inst v).toMgr then s.modInst v fun i => { i with mgrOvr := true }
    else (s.modInst v fun i => { i with toMgr := true }).msix 0 (31 + v))

/-- MB_TOMGR_ACK (R418). -/
def execMbTomgrAck (v : Fin 33) (s : State) : Out :=
  .next (if s.mbOn 0 v ∧ (s.inst v).toMgr then (s.modInst v fun i => { i with toMgr := false }).msix v 0 else s)

/-- MB_TOINST_DB (R418). -/
def execMbToinstDb (v : Fin 33) (s : State) : Out :=
  .next (if !s.mbOn 0 v then s
    else if (s.inst v).toInst then s.modInst v fun i => { i with instOvr := true }
    else (s.modInst v fun i => { i with toInst := true }).msix v 0)

/-- MB_TOINST_ACK (R418). -/
def execMbToinstAck (v : Fin 33) (s : State) : Out :=
  .next (if s.mbOn v v ∧ (s.inst v).toInst then (s.modInst v fun i => { i with toInst := false }).msix 0 (31 + v) else s)

/-- Held events written while the ring has space, oldest first (R421). -/
def Inst.refill : Nat → Inst → Inst
  | 0, i => i
  | n + 1, i =>
    match i.held with
    | [] => i
    | e :: es => if i.full then i else Inst.refill n (({ i with held := es } : Inst).put e)

/-- MB_EVT_HEAD (R417, R420, R421): an index above 95 is ignored; a record written into an empty ring raises VF vector 0. -/
def execMbEvtHead (v : Fin 33) (x : Fin 256) (s : State) : Out :=
  .next (if !s.mbOn v v ∨ x.val % 128 > 95 then s
    else
      let i : Inst := { s.inst v with head := x.val % 128, headWrap := bitAt x 7 }
      let s1 := s.setInst v (i.refill 32)
      if i.empty && !i.held.isEmpty && i.notify then s1.msix v 0 else s1)

/-! Module requests (R419) -/

/-- Argument bytes that a request defines, as (first, length). -/
def reqArgs (code : Nat) : List (Nat × Nat) :=
  match code with
  | 2 | 3 => [(8, 2)]
  | 4 => [(8, 12)]
  | _ => []

/-- A byte of the request is reserved. -/
def reqReserved (code i : Nat) : Bool :=
  decide (4 ≤ i) && !(reqArgs code).any fun a => decide (a.1 ≤ i) && decide (i < a.1 + a.2)

/-- A request of VF `v` served. A CODE that is reserved answers UNKNOWN, a reserved byte that is not zero RANGE; a request of
another kind is another command (log 1). -/
def State.mbRequest (s : State) (v code : Nat) (f : State → State) : State :=
  if !s.mbOn v v then s
  else
    let i := s.inst v
    let c := i.req 0 2
    if c = 0 ∨ c > 5 then s.mbReply v 1 []
    else if c ≠ code then s
    else if (List.range 128).any fun j => reqReserved code j && i.req j 1 != 0 then s.mbReply v 2 []
    else f s

/-- CTX_CREATE (R408, R419): the lowest free handle. -/
def execCtxCreate (v : Fin 33) (s : State) : Out :=
  .next (s.mbRequest v 1 fun s =>
    match (List.range 256).find? fun h => !(s.inst v).ctxs.contains h with
    | none => s.mbReply v 6 []
    | some h => (s.modInst v fun i => { i with ctxs := i.ctxs ++ [h] }).mbReply v 0 (toBytes 2 h))

/-- CTX_DESTROY (R419). -/
def execCtxDestroy (v : Fin 33) (s : State) : Out :=
  .next (s.mbRequest v 2 fun s =>
    let h := (s.inst v).req 8 2
    if !(s.inst v).ctxs.contains h then s.mbReply v 2 []
    else if s.descs.any fun d => d.fn == v.val && d.ctx == h then s.mbReply v 3 []
    else (s.modInst v fun i => { i with ctxs := i.ctxs.filter fun x => x != h }).mbReply v 0 [])

/-- A context reset (R522): its work removed, and where it holds the running launch, a composition reset; how many descriptors
were aborted. -/
def State.ctxReset (s : State) (v h cause : Nat) : State × Nat :=
  let r := s.ctxRemove v h cause
  if s.ctxRuns v h then (r.1.resetStart (v - 1) .context, r.2 + 1) else r

/-- CTX_RESET (R419, R522). A composition reset in progress takes it in, and its reply is written when that is over; a pending warm
reset takes it in for good (R527). -/
def execCtxReset (v : Fin 33) (s : State) : Out :=
  .next (s.mbRequest v 3 fun s =>
    let h := (s.inst v).req 8 2
    if !(s.inst v).ctxs.contains h then s.mbReply v 2 []
    else if s.warmDue then s
    else if (s.part (v - 1)).rst.isSome then s.modPart (v - 1) fun q => { q with ctxAsk := true }
    else
      let r := s.ctxReset v h 1
      r.1.mbReply v 0 (toBytes 4 r.2))

def kCtxStat : Nat := bERR + 0x604

/-- ERR_CTX_RESET (R522, R532): the manager's context reset, with cause 0x02; a wider reset takes it in (R527). -/
def execErrCtxReset (w : W32) (s : State) : Out :=
  .next (
    let v := bits w.toNat 21 16
    let h := w.toNat % 65536
    if !s.boot.ready then s
    else if v = 0 ∨ v > 32 ∨ !(s.inst v).ctxs.contains h then s.setReg kCtxStat 1
    else if s.warmDue then s
    else if (s.part (v - 1)).rst.isSome then s.setReg kCtxStat 0
    else ((s.ctxReset v h 2).1).setReg kCtxStat 0)

/-- The partition is bound and has a catalogue. -/
def Part.catalogued (q : Part) : Bool := q.st != .free && q.st != .reserved && !q.catalogue.isEmpty

/-- CATALOGUE_READ (R419): `ok` says whether the writes to the host complete; none is sent outside RUN (R487). -/
def execCatalogueRead (v : Fin 33) (ok : Bool) (s : State) : Out :=
  .next (s.mbRequest v 4 fun s =>
    let i := s.inst v
    let q := s.part (v - 1)
    if !q.catalogued then s.mbReply v 4 []
    else if !ok ∨ s.hostShut v then s.mbReply v 5 []
    else
      (s.hostWrite v (i.req 8 8) (q.catalogue.take (i.req 16 4))).mbReply v 0
        (toBytes 4 q.catalogue.length ++ toBytes 4 0 ++ toBytes 8 q.epoch))

/-- INFO (R419). -/
def execInfo (v : Fin 33) (s : State) : Out :=
  .next (s.mbRequest v 5 fun s =>
    let q := s.part (v - 1)
    s.mbReply v 0 (toBytes 1 (v - 1) ++ toBytes 1 q.role ++ toBytes 1 q.st.code
      ++ toBytes 1 (b2n (s.isAnchor (v - 1)) + 2 * b2n (bitAt q.flags 1)) ++ toBytes 4 q.comp ++ toBytes 8 q.epoch ++ toBytes 2 q.anchor))

end Sys2Proof.Machine
end

