-- ==== Sys2Proof/Machine/Mctp.lean ====
section
/-! DEFINITION. Sideband management over MCTP: control messages, BIND fragments, events, CMIS reads (spec/14: R398, R402 to
R405; spec/21: R579). REG_READ and REG_WRITE are in Registers. -/
namespace Sys2Proof.Machine

/-- A binding of the endpoint: 0 SMBus, 1 PCIe VDM (R402, R406). In ROM recovery only SMBus answers (R553). -/
def State.mctpOn (s : State) (bus : Nat) : Bool :=
  if s.boot.recovery then bus == 0
  else s.boot.run && bitAt (s.reg (hifKey 0 (bHIF + 0x800))) bus && (bus == 0 || s.boot.ready)

/-- A binding serves Stolcor messages: not in ROM recovery, where MCTP control and PLDM alone are answered (R403, R553). -/
def State.vendorOn (s : State) (bus : Nat) : Bool := s.mctpOn bus && !s.boot.recovery

/-- An MCTP control response: command, completion code, data (PRESUMED, the MCTP base specification; log 37). -/
def State.ctlReply (s : State) (cmd cc : Nat) (data : List Byte) : State :=
  s.emit (.mctp ([0, BitVec.ofNat 8 cmd, BitVec.ofNat 8 cc] ++ data))

/-- HIF_MCTP_EID. -/
def kMctpEid : Nat := hifKey 0 (bHIF + 0x808)

/-- SET_ENDPOINT_ID (R402): operations set and force; EIDs 0 and 0xFF are not taken. The module is never bus owner. -/
def execSetEndpointId (bus : Fin 2) (op : Fin 4) (eid : Fin 256) (s : State) : Out :=
  .next (if !s.mctpOn bus then s
    else if op.val ≥ 2 ∨ eid.val = 0 ∨ eid.val = 255 then s.ctlReply 1 2 []
    else ({ s with eid := eid }.setReg kMctpEid eid).ctlReply 1 0 [0, BitVec.ofNat 8 eid, 0])

/-- GET_ENDPOINT_ID (R402). -/
def execGetEndpointId (bus : Fin 2) (s : State) : Out :=
  .next (if s.mctpOn bus then s.ctlReply 2 0 [BitVec.ofNat 8 s.eid, 0, 0] else s)

/-- GET_ENDPOINT_UUID (R402). -/
def execGetEndpointUuid (bus : Fin 2) (s : State) : Out :=
  .next (if s.mctpOn bus then s.ctlReply 3 0 (toBytes 16 Config.uuid.toNat) else s)

/-- Message types of Table 10. -/
def mctpTypes : List Nat := [0x01, 0x05, 0x06, 0x7E]

/-- GET_MCTP_VERSION_SUPPORT (R402): of the base (0xFF), of control (0x00) or of a supported type. -/
def execGetMctpVersionSupport (bus : Fin 2) (type : Fin 256) (s : State) : Out :=
  .next (if !s.mctpOn bus then s
    else if type.val = 0xFF ∨ type.val = 0 ∨ mctpTypes.contains type.val then s.ctlReply 4 0 (Config.mctpVersions type)
    else s.ctlReply 4 0x80 [])

/-- GET_MESSAGE_TYPE_SUPPORT (R402, Table 10). -/
def execGetMessageTypeSupport (bus : Fin 2) (s : State) : Out :=
  .next (if s.mctpOn bus then s.ctlReply 5 0 ([4] ++ mctpTypes.map (BitVec.ofNat 8)) else s)

/-- GET_VDM_SUPPORT (R402, Table 10): one vendor ID, PCI 0xC7A5. -/
def execGetVdmSupport (bus : Fin 2) (selector : Fin 256) (s : State) : Out :=
  .next (if !s.mctpOn bus then s
    else if selector.val = 0 then s.ctlReply 6 0 [0xFF, 0, 0xC7, 0xA5, 0, 0]
    else s.ctlReply 6 2 [])

/-! Stolcor management messages (R403, R404) -/

/-- A response: CMD with bit 7, SEQ, status, payload. -/
def State.stolReply (s : State) (cmd seq status : Nat) (data : List Byte) : State :=
  s.emit (.mctp ([0x7E, 0xC7, 0xA5, BitVec.ofNat 8 (cmd + 0x80), BitVec.ofNat 8 seq, BitVec.ofNat 8 status] ++ data))

/-- REG_WRITE and BIND are accepted inside an SPDM secured session over MCTP, or with PLAIN_OK (R404). -/
def State.mayWrite (s : State) (session : Option (Fin 65536)) : Bool :=
  bitAt (s.reg (hifKey 0 (bHIF + 0x800))) 2
    || match session with
      | some i => s.sessions.any fun x => x.id == i.val && x.conn == 1 && x.up
      | none => false

/-- MCTP_BIND (R403, R404): a fragment assembled by its OFFSET; a fragment of another BIND discards an incomplete one. Once
TOTAL bytes have arrived the request waits for the Curator, and its code is answered when it ends. -/
def execMctpBind (bus : Fin 2) (session : Option (Fin 65536)) (seq : Fin 256) (head : List Byte) (total off : Nat) (bytes : List Byte)
    (s : State) : Out :=
  .next (
    let op := ofBytes (head.take 1)
    if !s.vendorOn bus then s
    else if !s.mayWrite session then s.stolReply 3 seq 1 []
    else if op = 0 ∨ op > 5 ∨ head.length ≠ 24 ∨ bytes.length > 4000 ∨ off + bytes.length > total then s.stolReply 3 seq 2 []
    else
      let fresh : McBind := ⟨head, op, ofBytes ((head.drop 4).take 3), total, [], [], seq⟩
      let b : McBind := match s.mcBind with
        | some x => if x.head = head ∧ x.total = total then x else fresh
        | none => fresh
      let b1 : McBind := { b with
        bytes := tblSetRun (fun _ => 0) b.bytes off bytes,
        got := tblSetRun (fun _ => false) b.got off (List.replicate bytes.length true), seq := seq }
      if b1.got.length ≥ total then { s with mcBind := none, mcWait := s.mcWait ++ [b1] }
      else { s with mcBind := some b1 }.stolReply 3 seq 0 [])

/-! Events (R405) -/

/-- EVENT_ACK (R405): the event of a SEQ is acknowledged, and a waiting one takes its place. -/
def execEventAck (bus : Fin 2) (seq : Fin 256) (s : State) : Out :=
  .next (if !s.vendorOn bus then s
    else
      let s1 : State := { s with events := s.events.filter fun e => e.seq != seq.val }
      s1.sendEvents s1.eventsWait)

/-- EVENT_REPEAT (R405): an unacknowledged event sent again. -/
def execEventRepeat (seq : Fin 256) (s : State) : Out :=
  .next (match s.events.find? fun e => e.seq == seq.val with
    | some e => if s.fmValid then s.emit (.event e) else s
    | none => s)

/-! CMIS reads (R398, R403) -/

/-- The status of a read of a cable's management memory, and its bytes. `got` is what the cable gave, none where it did not
acknowledge. -/
def State.cmis (s : State) (arg n : Nat) (got : Option (List Byte)) : Nat × List Byte :=
  let c := bits arg 31 24
  if n = 0 ∨ n > 128 ∨ arg % 256 + n > 256 ∨ c ≥ 24 then (3, [])
  else if (s.cage c).pow ≠ .on then (1, [])
  else match got with
    | none => (2, [])
    | some bs => (0, (bs ++ List.replicate n 0).take n)

/-- CMIS_READ (R398). -/
def execCmisRead (r : Fin 16) (got : Option (List Byte)) (s : State) : Out :=
  .next (s.mgmt r 1 fun d s =>
    let x := s.cmis d.arg0 (d.fld 56 4) got
    s.mgmtEnd d.id x.1 x.2)

/-- MCTP_CMIS_READ (R403). -/
def execMctpCmisRead (bus : Fin 2) (seq : Fin 256) (arg : W32) (n : Fin 256) (got : Option (List Byte)) (s : State) : Out :=
  .next (if !s.vendorOn bus then s
    else
      let x := s.cmis arg.toNat n got
      s.stolReply 6 seq x.1 x.2)

/-- SMB_CLK_LOW_TIMEOUT (R579): the module releases the SMBus; a message being assembled there is the sender's to repeat, and
no state of the module changes (DESIGN CHOICE, log 38). -/
def execSmbClkLowTimeout (s : State) : Out := .next s

end Sys2Proof.Machine
end

