-- ==== Sys2Proof/Machine/Custodian.lean ====
section
/-! DEFINITION. The Custodian: requests, key slots, debug operation, entropy (spec/16: R428 to R456). -/
namespace Sys2Proof.Machine

/-! Derived keys (R431, R432; the functions are uninterpreted, log 8) -/

/-- A string as its ASCII bytes (R431). -/
def ascii (t : String) : List Byte := t.toList.map fun c => BitVec.ofNat 8 c.toNat

/-- The serial number as a context. -/
def serialBytes : List Byte := toBytes 8 Config.serial.toNat

/-- The test root is in use (R435, R437). -/
def DbgSt.testRoot (d : DbgSt) : Bool := d == .debug || d == .returnPending

/-- The root: the UDS, or under the test root bits [383:128] of a hash that anyone can compute (R432, R435). -/
def State.root (s : State) : List Byte :=
  if s.cus.dbg.testRoot then toBytes 32 ((Config.sha384 (ascii "STOLCOR-TEST-ROOT" ++ serialBytes)).toNat / 2 ^ 128)
  else toBytes 32 Config.uds.toNat

/-- DeviceID, hybrid signing (R432, Table 2). -/
def State.deviceId (s : State) : Nat := Config.kdf s.root (ascii "DEVICEID") serialBytes 1024 % 2 ^ 1024
/-- The import key, hybrid key agreement. -/
def State.importKey (s : State) : Nat := Config.kdf s.root (ascii "IMPORT") serialBytes 1024 % 2 ^ 1024
/-- The storage root key. -/
def State.srk (s : State) : Nat := Config.kdf s.root (ascii "STORAGE") serialBytes 256 % 2 ^ 256

/-- The debug state byte: DEBUG under the test root (R436). -/
def DbgSt.byte (d : DbgSt) : Nat := if d.testRoot then 2 else 0

/-- What CDI_1 is derived from: the digest of the Custodian image that runs, its security version, the debug state (R432). -/
def State.cdiInputs (s : State) : List Byte :=
  let h := (tblGet (fun _ => FwType.reset) s.fw.types 1).run
  toBytes 48 h.digest ++ toBytes 4 h.arb ++ toBytes 1 s.cus.dbg.byte

/-- CDI_1 (R432). -/
def State.cdi1 (s : State) : List Byte := toBytes 48 (Config.hmac384 s.root s.cdiInputs).toNat

/-- The Alias key, hybrid signing (R432). -/
def State.aliasKey (s : State) : Nat := Config.kdf s.cdi1 (ascii "ALIAS") serialBytes 1024 % 2 ^ 1024

/-- The ML seed of `n` bytes and the P-384 bits of a hybrid seed: bits [1023:512], cut to their leading bytes, and [511:0] (R431). -/
def mlSeed (n seed : Nat) : Nat := seed / 2 ^ 512 / 2 ^ (512 - 8 * n)
def ecBits (seed : Nat) : Nat := seed % 2 ^ 512

/-- The public halves of the signing and of the agreement pairs (R431). -/
def signPublic (seed : Nat) : List Byte := Config.mldsaPublic (mlSeed 32 seed) ++ Config.p384Public (ecBits seed)
def agreePublic (seed : Nat) : List Byte := Config.mlkemPublic (mlSeed 64 seed) ++ Config.p384Public (ecBits seed)

/-- What the Alias certificate carries: the DeviceID that issues it, the Alias public key, the CDI_1 inputs, the import public key
(R433, R441). -/
def State.aliasBody (s : State) : List Byte :=
  signPublic s.deviceId ++ signPublic s.aliasKey ++ s.cdiInputs ++ agreePublic s.importKey

/-- A certificate chain as SEC_CERTS returns it (R433). -/
def State.certChain (s : State) (chain : Nat) : List Byte := Config.certs chain s.cus.dbg.testRoot s.aliasBody

/-- A signature under the Alias key (R432, R433). -/
def State.aliasSign (s : State) (scheme rnd : Nat) (bs : List Byte) : List Byte :=
  Config.sign scheme (if scheme = 0 then ecBits s.aliasKey else mlSeed 32 s.aliasKey) rnd bs

/-! Slots (R438 to R443) -/

def State.keySlot (s : State) (n : Nat) : KeySlot := tblGet (fun _ => KeySlot.empty) s.cus.slots n
def State.setKeySlot (s : State) (n : Nat) (k : KeySlot) : State :=
  { s with cus := { s.cus with slots := tblSet (fun _ => KeySlot.empty) s.cus.slots n k } }

/-- The copy with the higher SEQ (R439). -/
def KeySlot.current (k : KeySlot) : SlotCopy := if k.a.seq ≥ k.b.seq then k.a else k.b

/-- `n` more program operations of a slot, with the most pulses one of them took (R442). -/
def KeySlot.wearBy (k : KeySlot) (n pulses : Nat) : KeySlot :=
  { k with writes := k.writes + n, wear := k.wear || decide (pulses > 4) || decide (k.writes + n > 80000) }

/-- A slot written (R439): the copy that is not current, with SEQ one higher. -/
def KeySlot.write (k : KeySlot) (c : SlotCopy) (pulses : Nat) : KeySlot :=
  let c1 := { c with seq := k.current.seq + 1 }
  (if k.a.seq ≥ k.b.seq then { k with b := c1 } else { k with a := c1 }).wearBy 1 pulses

/-- A slot destroyed and verified (R443). -/
def KeySlot.destroyed (k : KeySlot) (pulses : Nat) : KeySlot :=
  { k with a := SlotCopy.zero, b := SlotCopy.zero, gen := k.gen + 1, bad := false }.wearBy 2 pulses

/-- A security event: the alarm bit and the Ledger record (R430, R440, R443, R448, R453). -/
def State.secEvent (s : State) (bit event object code : Nat) : State :=
  (s.secAlarm bit).ledger (0x0800 + event) (srcOf3 0xFF 0 0) object code 0

/-- A slot becomes unusable because its check fails (R440). -/
def State.slotFails (s : State) (n : Nat) : State :=
  (s.setKeySlot n { s.keySlot n with bad := true }).secEvent 3 6 n 6

/-- Whether a slot can take a new key (R440 to R442); 0 where it can. -/
def State.slotFree (s : State) (n : Nat) : Nat :=
  let k := s.keySlot n
  if k.bad then 6
  else if k.current.used then (if k.current.rootTest ≠ s.cus.dbg.testRoot then 7 else 5)
  else if k.writes + 1 > 100000 then 8
  else 0

/-- The slot storage key (R432), which changes at each destruction. -/
def State.slotStorage (s : State) (n : Nat) : Nat :=
  Config.kdf (toBytes 32 s.srk) (ascii "SLOT") (toBytes 1 n ++ toBytes 4 (s.keySlot n).gen) 256 % 2 ^ 256

/-- The bytes 0 to 251 of a slot copy: the key wrapped under the slot storage key (R438, Table 4). -/
def State.copyBytes (s : State) (n : Nat) (c : SlotCopy) : List Byte :=
  toBytes 1 (b2n c.used) ++ toBytes 1 c.type ++ toBytes 1 c.usage ++ toBytes 1 (b2n c.rootTest) ++ toBytes 4 c.seq
    ++ toBytes 4 (s.keySlot n).writes ++ toBytes 4 0 ++ fit 236 (Config.keyWrap (s.slotStorage n) c.key)

/-- CHECK of a slot copy (R438). -/
def State.copyCheck (s : State) (n : Nat) (c : SlotCopy) : Nat :=
  (Config.hmac384 (toBytes 32 (s.slotStorage n)) (s.copyBytes n c)).toNat % 2 ^ 32

/-- A slot written with a key (R439, R441). -/
def State.fillSlot (s : State) (n type usage pulses key : Nat) : State :=
  s.setKeySlot n ((s.keySlot n).write ⟨true, type, usage, s.cus.dbg.testRoot, 0, key⟩ pulses)

/-- The key material of an import blob, where it unwraps (R441): `n` counts the three parts that follow it (DEDUCED log 39). -/
def State.unwrapBlob (s : State) (b : List Byte) : Option Nat :=
  let n := imgField b 4 4
  if n < 1665 ∨ b.length < 8 + n then none
  else
    let ct := (b.drop 8).take 1568
    let pub := (b.drop 1576).take 97
    let secret := Config.mlkemDecaps (mlSeed 64 s.importKey) ct ++ Config.ecdh (ecBits s.importKey) pub
    Config.keyUnwrap (Config.kdf secret (ascii "IMPORT-KEK") serialBytes 256 % 2 ^ 256) ((b.drop 1673).take (n - 1665))

/-- A TYPE and USAGE that Table 4 lists. -/
def slotKind (type usage : Nat) : Bool := decide (1 ≤ type) && decide (type ≤ 4) && decide (usage < 16)

/-- A generate or an import served; its status (R441, R442). -/
def State.serveReq (s : State) (q : CusReq) : State × Nat :=
  let n := q.arg % 256
  let type := bits q.arg 15 8
  let usage := bits q.arg 23 16
  let st := s.slotFree n
  if st ≠ 0 then (s, st)
  else if q.cmd = 0x402 then (s.newKey.1.fillSlot n type usage q.pulses s.newKey.2, 0)
  else match (if q.ok then s.unwrapBlob q.blob else none) with
    | some key => (s.fillSlot n type usage q.pulses key, 0)
    | none => (s, 0x0A)

/-- Held requests served in order. -/
def State.serveHeld (s : State) : List CusReq → State
  | [] => s
  | q :: qs =>
    let r := s.serveReq q
    (r.1.mgmtEnd q.desc r.2 []).serveHeld qs

/-- Held requests ended with a status. -/
def State.failHeld (s : State) (status : Nat) : List CusReq → State
  | [] => s
  | q :: qs => (s.mgmtEnd q.desc status []).failHeld status qs

/-- A request that needs the DRBG: served, held or ended ES_FAIL by the entropy state (R434, R446, R454). -/
def State.keyRequest (s : State) (q : CusReq) : State :=
  match s.cus.es with
  | .ready => let r := s.serveReq q; r.1.mgmtEnd q.desc r.2 []
  | .failed => s.mgmtEnd q.desc 2 []
  | _ => { s with cus := { s.cus with queue := s.cus.queue ++ [q] } }

/-- A Custodian request that is not held: the Custodian serves (R430). -/
def State.cusReq (s : State) (r cmd : Nat) (f : HostDesc → State → State) : State :=
  if s.cus.ready ∧ s.cus.queue.length < 16 then s.mgmt r cmd f else s

/-! Requests (R445, R446) -/

/-- NOT_READY or ES_FAIL (R446). -/
def State.drbgStatus (s : State) : Nat := if s.cus.es = .failed then 2 else 1

/-- SEC_RANDOM (R445): bytes of the DRBG, free values (log 8). -/
def execSecRandom (r : Fin 16) (s : State) : Out :=
  .next (s.cusReq r 0x400 fun d s =>
    let n := d.fld 56 4
    if n = 0 ∨ n > 1024 then s.mgmtEnd d.id 3 []
    else if !s.drbgUp then s.mgmtEnd d.id s.drbgStatus []
    else (s.drbg 1).draw.mgmtEnd d.id 0 (toBytes n (Config.free s.freeCtr)))

/-- SEC_SLOT_INFO (R440, R445). `ok` says that the current copy passes its check. -/
def execSecSlotInfo (r : Fin 16) (ok : Bool) (s : State) : Out :=
  .next (s.cusReq r 0x401 fun d s =>
    let n := d.arg0 % 256
    if n < 16 then s.mgmtEnd d.id 0x0C []
    else
      let k0 := s.keySlot n
      let s1 := if k0.current.used ∧ !k0.bad ∧ k0.current.rootTest = s.cus.dbg.testRoot ∧ !ok then s.slotFails n else s
      let k := s1.keySlot n
      let c := k.current
      s1.mgmtEnd d.id 0 (toBytes 1 (if k.bad then 2 else b2n c.used) ++ toBytes 1 c.type ++ toBytes 1 c.usage
        ++ toBytes 1 (b2n c.rootTest + 2 * b2n k.wear) ++ toBytes 4 k.writes ++ toBytes 4 k.gen ++ toBytes 4 0))

/-- SEC_SLOT_GENERATE (R441): `pulses` is what the program operation takes. -/
def execSecSlotGenerate (r : Fin 16) (pulses : Fin 256) (s : State) : Out :=
  .next (s.cusReq r 0x402 fun d s =>
    let a := d.arg0
    if a % 256 < 16 then s.mgmtEnd d.id 0x0C []
    else if !slotKind (bits a 15 8) (bits a 23 16) then s.mgmtEnd d.id 3 []
    else s.keyRequest ⟨d.id, 0x402, a, true, pulses, []⟩)

/-- SEC_SLOT_IMPORT (R441): `ok` says that the blob's ciphertext and public key pass the input checks of FIPS 203 and of the curve,
which the spec does not restate (log 8). -/
def execSecSlotImport (r : Fin 16) (ok : Bool) (pulses : Fin 256) (s : State) : Out :=
  .next (s.cusReq r 0x403 fun d s =>
    let n := d.arg0 % 256
    let b := s.mgmtIn d
    let type := imgField b 0 1
    let usage := imgField b 1 1
    if n < 16 then s.mgmtEnd d.id 0x0C []
    else s.keyRequest ⟨d.id, 0x403, n + type * 256 + usage * 65536, ok && slotKind type usage && imgField b 2 2 == 0, pulses, b⟩)

/-- SEC_SLOT_DESTROY (R443): `ok` says that both copies read back as zero. -/
def execSecSlotDestroy (r : Fin 16) (ok : Bool) (pulses : Fin 256) (s : State) : Out :=
  .next (s.cusReq r 0x404 fun d s =>
    let n := d.arg0 % 256
    let k := s.keySlot n
    if n < 16 then s.mgmtEnd d.id 0x0C []
    else if k.current.used ∧ !k.bad ∧ k.current.rootTest ≠ s.cus.dbg.testRoot then s.mgmtEnd d.id 7 []
    else if ok then (s.setKeySlot n (k.destroyed pulses)).mgmtEnd d.id 0 []
    else ((s.setKeySlot n { k.destroyed pulses with bad := true }).secEvent 4 8 n 9).mgmtEnd d.id 9 [])

/-- SEC_CERTS (R433, R445). -/
def execSecCerts (r : Fin 16) (s : State) : Out :=
  .next (s.cusReq r 0x405 fun d s =>
    if d.arg0 > 1 then s.mgmtEnd d.id 3 []
    else if !s.cus.certs then s.mgmtEnd d.id s.drbgStatus []
    else s.mgmtEnd d.id 0 (s.certChain d.arg0))

/-- SEC_NONCE (R435). -/
def execSecNonce (r : Fin 16) (s : State) : Out :=
  .next (s.cusReq r 0x406 fun d s =>
    if !s.drbgUp then s.mgmtEnd d.id s.drbgStatus []
    else
      let x := Config.free s.freeCtr % 2 ^ 256
      let s1 := (s.drbg 1).draw
      { s1 with cus := { s1.cus with nonce := some x } }.mgmtEnd d.id 0 (toBytes 32 x))

/-- SEC_DEBUG_TOKEN (R435, R437): `sig` says that both halves of the signature verify and the serial number is the module's,
`nonce` is the nonce in the token. -/
def execSecDebugToken (r : Fin 16) (sig : Bool) (nonce : Nat) (s : State) : Out :=
  .next (s.cusReq r 0x407 fun d s =>
    if s.cus.dbg.testRoot then s.mgmtEnd d.id 3 []
    else
      let s1 : State := { s with cus := { s.cus with nonce := none } }
      if sig ∧ s.cus.nonce = some nonce then { s1 with cus := { s1.cus with dbg := .debugPending } }.mgmtEnd d.id 0 []
      else (s1.secEvent 5 9 0 0x0B).mgmtEnd d.id 0x0B [])

/-- SEC_DEBUG_RETURN (R437). -/
def execSecDebugReturn (r : Fin 16) (s : State) : Out :=
  .next (s.cusReq r 0x408 fun d s =>
    match s.cus.dbg with
    | .debug => { s with cus := { s.cus with dbg := .returnPending } }.mgmtEnd d.id 0 []
    | .debugPending => { s with cus := { s.cus with dbg := .production } }.mgmtEnd d.id 0 []
    | _ => s.mgmtEnd d.id 3 [])

/-! The Custodian's start (R430, R437, R439, R450) -/

/-- A slot as a start finds it: an interrupted write has not happened (R439); a slot of the test root is destroyed at the return
to production (R437). -/
def KeySlot.atStart (k : KeySlot) (wipe : Bool) : KeySlot :=
  let k1 : KeySlot :=
    if k.busy then
      (if k.a.seq ≥ k.b.seq then { k with a := SlotCopy.zero, busy := false } else { k with b := SlotCopy.zero, busy := false })
    else k
  if wipe ∧ k1.current.used ∧ k1.current.rootTest then k1.destroyed 0 else k1

/-- The debug state at the next start (R437, Table 3). -/
def DbgSt.next : DbgSt → DbgSt
  | .debugPending => .debug
  | .returnPending => .production
  | d => d

/-- The Custodian started from its ROM: entropy STARTUP, no certificates, nonce or sessions. -/
def State.cusStart (s : State) : State :=
  let c := s.cus
  let wipe := c.dbg == .returnPending
  { s with
    cus := { c with ready := true, es := .startup, testing := true, certs := false, dbg := c.dbg.next, reqs := 0, reseeds := 0,
                    nonce := none, queue := [], entropy := Entropy.reset, slots := (c.slots.map fun e => (e.1, e.2.atStart wipe)) },
    sessions := [], spdm := [], seals := [] }

/-- GLITCH (R430, R549): alarm, record, restart; waiting requests end BUSY, SPDM sessions end, an activation under way ends BUSY. -/
def execGlitch (s : State) : Out :=
  .next (if !s.cus.ready then s
    else
      let s1 := (s.failHeld 0x0D s.cus.queue).secEvent 0 5 0 0
      let s2 := match s1.fw.act with
        | some a =>
          if a.type = 2 then
            let s3 : State := { s1 with fw := { s1.fw with act := none, lastStatus := 9 } }
            match a.desc with
            | some d => s3.mgmtEnd d 9 []
            | none => s3
          else s1
        | none => s1
      s2.cusStart)

/-! Entropy (R449 to R455) -/

/-- A test failure counted and reported. -/
def State.esFail (s : State) (st : EsSt) : State :=
  { s with cus := { s.cus with es := st, testing := false, esFails := satAdd 0xFFFFFFFF s.cus.esFails 1 } }.secEvent 2 7 0 2

/-- The source enters FAILED: held requests end ES_FAIL (R454). -/
def State.esFailed (s : State) : State :=
  let s1 := (s.esFail .failed).failHeld 2 s.cus.queue
  { s1 with cus := { s1.cus with queue := [] } }

/-- ENTROPY_STARTUP_DONE (R450, R453, R454): the start-up tests end; the held requests are served, or fail. -/
def execEntropyStartupDone (pass : Bool) (s : State) : Out :=
  .next (if !s.cus.testing then s
    else if !pass then s.esFailed
    else
      let q := s.cus.queue
      ({ s with cus := { s.cus with es := .ready, testing := false, reqs := 0, queue := [] } }.serveHeld q).startKeyings allLinks)

/-- A sample fails a health test: it is discarded with the conditioning block that would have included it (R449), and what R453
and R454 say follows. -/
def State.testFails (s : State) : State :=
  let e := s.cus.entropy
  let s1 : State := { s with cus := { s.cus with entropy := { e with fill := 0, discarded := e.discarded + 1 } } }
  match s.cus.es with
  | .ready => s1.esFail .retest
  | .startup | .retest => if s.cus.testing then s1.esFailed else s
  | _ => s

/-- HEALTH_TEST_FAIL (R449, R453, R454). -/
def execHealthTestFail (s : State) : Out := .next s.testFails

/-- A sample through both continuous health tests of its source (R449): whether it passes, and the tests after it. The repetition
count test fails at 41 equal samples in a row; the adaptive proportion test at 793 of a window of 1,024 that equal its first
(the cutoff of SP 800-90B for H = 0.5 and α = 2^-20; PRESUMED log 39). -/
def Noise.sample (x : Noise) (bit : Bool) : Bool × Noise :=
  let run := if x.run ≠ 0 ∧ x.last = bit then x.run + 1 else 1
  let first := if x.pos = 0 then bit else x.first
  let same := if x.pos = 0 then 1 else if bit = first then x.same + 1 else x.same
  let pos := if x.pos + 1 = 1024 then 0 else x.pos + 1
  (decide (run < 41) && decide (same < 793), ⟨bit, run, first, pos, same⟩)

/-- The source samples: not before a start, not in the 10 ms before a retest, not once it has failed (R450, R453, R454). -/
def Cus.samples (c : Cus) : Bool := c.es == .ready || c.testing

/-- A sample of each noise source: 512 of each fill a conditioning block (R449), whose output is discarded during start-up (R450). -/
def State.sampleBoth (s : State) (x y : Bool) : State :=
  let e := s.cus.entropy
  let a := e.a.sample x
  let b := e.b.sample y
  let full := decide (e.fill + 1 = 512)
  let s1 : State := { s with cus := { s.cus with entropy :=
    { e with a := a.2, b := b.2, fill := if full then 0 else e.fill + 1, blocks := e.blocks + (if full && !s.cus.testing then 1 else 0) } } }
  if a.1 && b.1 then s1 else s1.testFails

/-- RETEST_WAIT_END (R453): the start-up tests repeat. -/
def execRetestWaitEnd (s : State) : Out :=
  .next (if s.cus.es = .retest then { s with cus := { s.cus with testing := true, entropy := { s.cus.entropy with a := .reset, b := .reset, fill := 0 } } }
    else s)

/-- DRBG_RESEED (R452): after 2^20 generate requests. -/
def execDrbgReseed (s : State) : Out :=
  .next (if s.drbgUp ∧ s.cus.reqs ≥ 2 ^ 20 then
      { s with cus := { s.cus with reqs := 0, reseeds := satAdd 0xFFFFFFFF s.cus.reseeds 1 } }
    else s)

/-- ALIAS_CERT_ISSUE (R433, R455): its signatures draw on the DRBG once (DESIGN CHOICE, log 39). -/
def execAliasCertIssue (s : State) : Out :=
  .next (if s.drbgUp ∧ !s.cus.certs then
      let s1 := s.drbg 1
      { s1 with cus := { s1.cus with certs := true } }
    else s)

/-! Registers (R456) -/

/-- Entropy state code (R455, Table 7). -/
def EsSt.code : EsSt → Nat
  | .off => 0 | .startup => 1 | .ready => 2 | .retest => 3 | .failed => 4

/-- Debug state code (R437, Table 3). -/
def DbgSt.code : DbgSt → Nat
  | .production => 0 | .debugPending => 1 | .debug => 2 | .returnPending => 3

/-- SEC_STATUS (R456, Table 9). -/
def State.secStatus (s : State) : Nat :=
  s.cus.dbg.code * 4096 + s.cus.es.code * 16 + b2n s.cus.dbg.testRoot * 8 + b2n s.cus.certs * 4 + b2n s.drbgUp * 2 + b2n s.cus.ready

/-- SEC_SLOTS (R456). -/
def State.secSlots (s : State) : Nat :=
  (s.cus.slots.filter fun e => e.2.wear).length * 65536 + (s.cus.slots.filter fun e => e.2.bad).length

end Sys2Proof.Machine
end

