-- ==== Sys2Proof/Machine/Ledger.lean ====
section
/-! DEFINITION. The Ledger: its ring, coalescing, the rolling region, reads and clears (spec/19: R511 to R517). -/
namespace Sys2Proof.Machine

/-- The record at a position. -/
def Ledger.at_ (l : Ledger) (i : Nat) : Option LRec := tblGet (fun _ => none) l.recs i
/-- A record put at a position. -/
def Ledger.set (l : Ledger) (i : Nat) (r : LRec) : Ledger := { l with recs := tblSet (fun _ => none) l.recs i (some r) }

/-- ERR_LOST of a class. -/
def kLost (c : Nat) : Nat := bERR + 0x100 + 4 * (c % 16)
/-- ERR_INTAKE_LOST. -/
def kIntakeLost : Nat := bERR + 0x10

/-- A new record written (R514): positions 0 to 4,095 in order, then the rolling region, where a lost one is counted. -/
def State.ledgerPut (s : State) (r : LRec) : State :=
  let l := s.lring
  let full := decide (l.held ≥ 4096)
  let r1 := { r with rolling := full, seq := l.seq }
  let s1 := if full then (match l.at_ l.next with
    | some o => s.bump (kLost (o.type / 256)) 1
    | none => s) else s
  { s1 with lring := { l.set l.next r1 with
      held := min 4096 (l.held + 1), total := (l.total + 1) % 2 ^ 64, seq := (l.seq + 1) % 2 ^ 32,
      next := if l.next + 1 < 4096 then l.next + 1 else 3840 } }

/-- The record of an event (R511). -/
def LedgerEv.record (e : LedgerEv) : LRec :=
  { type := e.type, sev := e.sev, rolling := false, seq := 0, first := e.ts, last := e.ts, count := 1, source := e.source,
    owner := e.owner, object := e.object, code := e.code, arg := e.arg, value := e.value }

/-- A record takes an event of window `w` ns (R513). -/
def LRec.takes (r : LRec) (e : LedgerEv) (w : Nat) : Bool :=
  r.type == e.type && r.source == e.source && r.owner == e.owner && decide (e.ts ≤ r.first + w)

/-- ERR_LEDGER_CFG.WINDOW in ns. -/
def State.ledgerWindow (s : State) : Nat := s.reg (bERR + 4) % 65536 * 1000000

/-- LEDGER_EVENT (R513, R514): the oldest event of the intake queue merges into a held record, or is written as a new one. -/
def execLedgerEvent (s : State) : Out :=
  .next (match s.intake with
    | [] => s
    | e :: es =>
      let s1 : State := { s with intake := es }
      let hit : Option (Nat × Option LRec) := s.lring.recs.find? fun x => match x.2 with
        | some r => r.takes e s.ledgerWindow
        | none => false
      match hit with
      | some (i, some r) => { s1 with lring := s1.lring.set i { r with count := satAdd 0xFFFFFFFF r.count 1, last := e.ts } }
      | _ => s1.ledgerPut e.record)

/-- The bytes of a record (R511, Table 2). -/
def LRec.bytes (r : LRec) : List Byte :=
  toBytes 2 r.type ++ toBytes 1 r.sev ++ toBytes 1 (b2n (decide (r.count > 1)) + 2 * b2n r.rolling) ++ toBytes 4 r.seq ++ toBytes 8 r.first
    ++ toBytes 8 r.last ++ toBytes 4 r.count ++ toBytes 4 r.source ++ toBytes 4 r.owner ++ toBytes 4 0 ++ toBytes 8 r.object
    ++ toBytes 4 r.code ++ toBytes 4 r.arg ++ toBytes 8 r.value

/-- The 64 bytes at a position. -/
def Ledger.bytesAt (l : Ledger) (i : Nat) : List Byte :=
  match l.at_ (i % 4096) with
  | some r => r.bytes
  | none => toBytes 64 0

/-- LEDGER_READ (R517). -/
def execLedgerRead (r : Fin 16) (s : State) : Out :=
  .next (s.mgmt r 0x300 fun d s =>
    let n := d.fld 56 4
    if n % 64 ≠ 0 ∨ n > 262144 then s.mgmtEnd d.id 1 []
    else s.mgmtEnd d.id 0 ((List.range (n / 64)).flatMap fun i => s.lring.bytesAt (d.arg0 % 4096 + i)))

/-- Every lost counter set to zero. -/
def State.lostZero (s : State) : List Nat → State
  | [] => s
  | c :: cs => (s.setReg (kLost c) 0).lostZero cs

/-- A record of the management complex itself, written at once. -/
def State.ownRecord (s : State) (type code : Nat) : State :=
  s.ledgerPut (LedgerEv.record ⟨type, sevOf type, srcOf3 0xFF 0 0, 0, 0, code, 0, 0, s.now⟩)

/-- LEDGER_CLEAR (R517). -/
def execLedgerClear (r : Fin 16) (s : State) : Out :=
  .next (s.mgmt r 0x301 fun d s =>
    let s1 := ((s.lostZero (List.range 16)).setReg kIntakeLost 0)
    let s2 : State := { s1 with lring := { Ledger.empty with seq := s1.lring.seq } }
    (s2.ownRecord 0x0A05 0).mgmtEnd d.id 0 [])

/-- ERR_LEDGER_STAT (R532). -/
def Ledger.stat (l : Ledger) : Nat := b2n (decide (l.held ≥ 4096)) * 2 ^ 31 + l.next * 2 ^ 16 + l.held

end Sys2Proof.Machine
end

