-- ==== Sys2Proof/Machine/Power.lean ====
section
/-! DEFINITION. The power controller: control periods, steps, ceilings, the backstop, the cap, slack telemetry (spec/18: R490 to
R504, R506 to R509). Power is counted in 10 mW and rounded down (log 43). -/
namespace Sys2Proof.Machine

def kPwrEvt : Nat := bPWR + 0x10
def kPwrCap : Nat := bPWR

/-- Bits of PWR_EVT set; PF0 vector 5 rises (R509). -/
def State.pwrEvt (s : State) (m : Nat) : State := (s.setBits kPwrEvt m).msix 0 5

/-- A power event with its Ledger record (R498, R501, R504). -/
def State.pwrEvent (s : State) (m event object code : Nat) : State :=
  (s.pwrEvt m).ledger (0x0900 + event) (srcOf3 0xFF 0 0) object code 0

/-- The clusters. -/
def allClusters : List Nat := List.range 48
/-- The cores of a cluster. -/
def coresOf (k : Nat) : List Nat := (List.range 16).map (16 * k + ·)
/-- PWR_CTRL. -/
def State.pwrCtrl (s : State) : Nat := s.reg (bPWR + 4)

/-- A core of the cluster holds a running launch (R136, R493). -/
def State.holdsLaunch (s : State) (k : Nat) : Bool := (coresOf k).any fun c => (s.core c).active

/-- The cluster belongs to a Decode partition (R344). -/
def State.decodeClu (s : State) (k : Nat) : Bool := (s.clu k).bound && (s.part (s.clu k).part).role == 1

/-! Phase states (R499) -/

/-- The power class and MEMBOUND of a core's current phase (R126). -/
def State.coreHint (s : State) (k : Core) : Option (Nat × Bool) :=
  k.phase.map fun ph =>
    let im := s.imageOf k
    let off := secOff im 10 + 16 * ph
    (imgField im (off + 2) 1 % 16, bitAt (imgField im (off + 3) 1) 0)

/-- A cluster's phase state from its non-idle cores: a change of it is remembered for one period. The class of a cluster without
such a core is 15, as where a core has no current phase (DESIGN CHOICE log 43). -/
def State.phaseState (s : State) (k : Nat) : Cluster :=
  let c := s.clu k
  let cs := ((coresOf k).map s.core).filter fun x => x.st != .idle
  let live : Bool := cs.any Core.active
  let hs : List (Option (Nat × Bool)) := cs.map fun x => if live then s.coreHint x else none
  let crit := live && cs.any fun x => x.phase.isSome && x.crit
  let mb := !hs.isEmpty && hs.all fun h => match h with
    | some x => x.2
    | none => false
  let cls := if !hs.isEmpty && hs.all Option.isSome then (hs.filterMap fun h => h.map (·.1)).foldl max 0 else 15
  let waiting := !(crit && bitAt s.pwrCtrl 1) && !cs.isEmpty && cs.all fun x => x.st == .waiting && decide (x.waitPeriod < s.pwr.period)
  { c with crit := crit, memBound := mb, cls := cls, waiting := waiting,
           changed := decide (c.crit ≠ crit ∨ c.memBound ≠ mb ∨ c.cls ≠ cls ∨ c.waiting ≠ waiting) }

/-! Measurement (R492, R495, R503) -/

/-- The hottest of some sensors. -/
def hottest (l : List Nat) : Nat := l.foldl max 0

/-- The measurements of a period taken in. -/
def State.measure (s : State) (m : PeriodMeas) : List Nat → State
  | [] =>
    let dies : List Nat := (List.range 4).map fun d => hottest ((List.range 12).map fun i => nth 0 m.temp (12 * d + i))
    { s with pwr := { s.pwr with input := m.watt, volt := m.volt, energy := s.pwr.energy + m.watt,
                                 dieTemp := dies ++ [nth 0 m.fabTemp 0, nth 0 m.fabTemp 1] } }
  | k :: ks =>
    (s.modClu k fun c => { c with power := nth 0 m.power k, temp := nth 0 m.temp k, energy := c.energy + nth 0 m.power k }).measure m ks

/-! Thermal ceilings (R504) -/

/-- Temperatures of the two stacks of a cluster's die (R22). -/
def State.stackTemps (s : State) (k : Nat) : List Nat :=
  [s.reg (bMEM + 0x500 + 8 * (k / 12)) % 256, s.reg (bMEM + 0x504 + 8 * (k / 12)) % 256]

/-- A cluster's thermal ceiling after a period; whether it fell for its own temperature and for a stack; whether it is to park. -/
def State.ceiling (s : State) (k : Nat) : Cluster × Bool × Bool × Bool :=
  let c := s.clu k
  let ts := s.stackTemps k
  let stack := ts.any fun t => decide (t ≥ 95)
  let held := stack || (c.stackHeld && !ts.all fun t => decide (t ≤ 92))
  let hot := decide (c.temp ≥ 100)
  if hot || stack then
    if c.thermCeil < 14 then ({ c with thermCeil := c.thermCeil + 1, stackHeld := held }, hot, stack, false)
    else ({ c with stackHeld := held }, false, false, !s.holdsLaunch k)
  else if c.temp ≤ 97 ∧ !held then ({ c with thermCeil := c.thermCeil - 1, stackHeld := held }, false, false, false)
  else ({ c with stackHeld := held }, false, false, false)

/-- Whether row 3 of Table 2 lowers the cluster for its temperature: an adjacent one is more than 30 °C colder (R36). -/
def State.tooHot (s : State) (k : Nat) : Bool := (adjacent k).any fun j => decide ((s.clu k).temp > (s.clu j).temp + 30)

/-- The ceiling of rows 2, 3 and 6 of Table 2 (R493, R494, R500). -/
def State.rowCeil (s : State) (k : Nat) : Nat :=
  let c := s.clu k
  let mbStep := bits s.pwrCtrl 11 8
  let mb := if c.memBound ∧ !(c.crit && bitAt s.pwrCtrl 1) ∧ mbStep ≠ 15 then mbStep else 0
  let cold := if s.tooHot k ∧ c.step ≠ 15 then min 14 (c.step + 1) else 0
  max c.thermCeil (max mb cold)

/-- The ceilings of every cluster moved; which events the period raises. Parking follows in `park`. -/
def State.ceilings (s : State) : List Nat → State × Bool × Bool × List Nat
  | [] => (s, false, false, [])
  | k :: ks =>
    let x := s.ceiling k
    let r := (s.setClu k x.1).ceilings ks
    (r.1, x.2.1 || r.2.1, x.2.2.1 || r.2.2.1, if x.2.2.2 then k :: r.2.2.2 else r.2.2.2)

/-- The events of the thermal ceilings: the first period of a run in which one falls (R504). -/
def State.thermalEvents (s : State) (fell stack : Bool) : State :=
  let hotDie := decide (100 ≤ max (nth 0 s.pwr.dieTemp 4) (nth 0 s.pwr.dieTemp 5))
  let f := fell || hotDie
  let s1 := if f && !s.pwr.fellTemp then s.pwrEvent 4 0 0 (hottest s.pwr.dieTemp) else s
  let s2 := if stack && !s.pwr.fellStack then
      s1.pwrEvent 8 1 0 (hottest ((List.range 8).map fun i => s.reg (bMEM + 0x500 + 4 * i) % 256))
    else s1
  { s2 with pwr := { s2.pwr with fellTemp := f, fellStack := stack } }

/-! Parking (R497) -/

/-- A cluster parked (R490). -/
def Cluster.park (c : Cluster) : Cluster :=
  { c with step := 15, target := 15, goal := 15, volt := 550, fixed := false, fixedLow := false, clamped := false, capCeil := c.thermCeil }

/-- Whether a cluster parks: rows 2 and 5 of Table 2. `forced` lists those whose ceiling would fall below P14. -/
def State.parks (s : State) (k : Nat) (forced : List Nat) : Bool :=
  let c := s.clu k
  let q := s.part c.part
  c.step != 15 && !s.holdsLaunch k &&
    (forced.contains k || decide (c.step < c.thermCeil) || !c.bound
      || (!s.decodeClu k && q.launch.isNone && q.queue.isEmpty && decide (s.now ≥ c.idleAt + bits s.pwrCtrl 23 16 * 100000)))

/-- The clusters that park do. -/
def State.park (s : State) (forced : List Nat) : List Nat → State
  | [] => s
  | k :: ks => ((if s.parks k forced then s.modClu k Cluster.park else s)).park forced ks

/-! Allocation (R494). Targets are lists by cluster. -/

/-- A cluster as the allocation sees it. `live`: running and not parked. -/
structure Gov where
  live : Bool
  fixed : Bool
  crit : Bool
  waiting : Bool
  changed : Bool
  step : Nat
  power : Nat
  cls : Nat
  ceil : Nat
deriving DecidableEq, Repr

/-- The allocation's view of a cluster. -/
def State.gov (s : State) (k : Nat) : Gov :=
  let c := s.clu k
  let live := c.step != 15
  let ctrl := s.pwrCtrl
  { live := live, fixed := live && (bitAt ctrl 0 || s.decodeClu k), crit := c.crit && bitAt ctrl 1, waiting := c.waiting,
    changed := c.changed, step := c.step, power := c.power, cls := c.cls, ceil := min 14 (s.rowCeil k) }

/-- The predicted power of a cluster at a step. -/
def Gov.pred (g : Gov) (p : Nat) : Nat :=
  if !g.live ∨ g.waiting then g.power
  else if g.changed then stepPower p * (g.cls + 1) / 16
  else g.power * stepPower p / stepPower g.step

/-- The predicted power of all clusters. -/
def spend (gs : List Gov) (ts : List Nat) : Nat := ((gs.zip ts).map fun x => x.1.pred x.2).sum

/-- The fixed cluster with the highest number that is still above P14. -/
def lastFixed (gs : List Gov) (ts : List Nat) : Option Nat :=
  (allClusters.filter fun k => match gs[k]? with
    | some g => g.fixed && decide (nth 15 ts k < 14)
    | none => false).getLast?

/-- The first loop of R494. -/
def lowerFixed (gs : List Gov) (budget : Int) : Nat → List Nat → List Nat
  | 0, ts => ts
  | n + 1, ts =>
    if (spend gs ts : Int) > budget then
      match lastFixed gs ts with
      | some k => lowerFixed gs budget n (ts.set k (nth 15 ts k + 1))
      | none => ts
    else ts

/-- Cluster `k` could rise but for the budget. -/
def couldRise (gs : List Gov) (ts : List Nat) (k : Nat) : Bool :=
  match gs[k]? with
  | some g => g.live && !g.fixed && !g.waiting && decide (nth 15 ts k > g.ceil) && keeps36 ts k (nth 15 ts k - 1)
  | none => false

/-- One round of a pass: each cluster of it is raised one step where it can be. -/
def raiseRound (gs : List Gov) (budget : Int) (crit : Bool) : List Nat → List Nat → List Nat
  | [], ts => ts
  | k :: ks, ts =>
    let t' := ts.set k (nth 15 ts k - 1)
    let mine := match gs[k]? with
      | some g => g.crit == crit
      | none => false
    if mine && couldRise gs ts k && decide ((spend gs t' : Int) ≤ budget) then raiseRound gs budget crit ks t'
    else raiseRound gs budget crit ks ts

/-- A pass: rounds until one raises nothing. -/
def raisePass (gs : List Gov) (budget : Int) (crit : Bool) : Nat → List Nat → List Nat
  | 0, ts => ts
  | n + 1, ts =>
    let t' := raiseRound gs budget crit allClusters ts
    if t' = ts then ts else raisePass gs budget crit n t'

/-- The targets before the passes. -/
def startTargets (gs : List Gov) : List Nat := gs.map fun g => if !g.live then 15 else if g.fixed then max 5 g.ceil else 14

/-- The budget in 10 mW: the cap less what the clusters do not draw (R494). -/
def State.budget (s : State) : Int :=
  let clusters := (allClusters.map fun k => (s.clu k).power).sum
  (s.reg kPwrCap % 128 * 2500 : Nat) - ((s.pwr.input * 100 : Nat) - (clusters : Nat) : Int)

/-! Steps (R491, R494) -/

/-- The steps run once the lowered clusters have switched, before any rise (R491). -/
def lowered (gs : List Gov) (ts : List Nat) : List Nat :=
  (gs.zip ts).map fun x => if x.1.live then max x.1.step x.2 else 15

/-- The step a rise goes to: at most 3 steps up, and no faster than R36 allows beside the steps its neighbours now run at, which
rise later or not at all (R36, R494). -/
def riseTo (now : List Nat) (k t : Nat) : Nat → Nat
  | 0 => nth 15 now k
  | n + 1 =>
    let g := nth 15 now k - (n + 1)
    if t ≤ g ∧ keeps36 now k g then g else riseTo now k t n

/-- A cluster moved toward its target (R491, R494): lowered at once; raised to `goal` once the voltage is reached. `clamp` says
that R36 holds it back; a fixed cluster is low while its target or the step it runs is below P5 (R501). -/
def Cluster.move (c : Cluster) (t goal : Nat) (fixed clamp : Bool) (ceil : Nat) : Cluster :=
  let c1 := { c with target := t, fixed := fixed, fixedLow := fixed && (decide (t > 5) || decide (c.step > 5)), clamped := clamp, capCeil := ceil }
  if t ≥ c.step then { c1 with step := t, goal := t, volt := stepVolt t }
  else { c1 with goal := goal }

/-- Targets given to the clusters; a fixed cluster that leaves P5 is reported (R501). `now` is the steps run after the lowering. -/
def State.moveAll (s : State) (gs : List Gov) (ts raw now : List Nat) : List Nat → State
  | [] => s
  | k :: ks =>
    match gs[k]? with
    | none => s.moveAll gs ts raw now ks
    | some g =>
      if !g.live then s.moveAll gs ts raw now ks
      else
        let t := nth 15 ts k
        let c := s.clu k
        let clamp := decide (t ≠ nth 15 raw k) || (s.tooHot k && decide (t = g.ceil))
        let s1 := s.setClu k (c.move t (riseTo now k t 3) g.fixed clamp g.ceil)
        (if g.fixed ∧ t > 5 ∧ !c.fixedLow then s1.pwrEvent 2 3 k t else s1).moveAll gs ts raw now ks

/-- Phase states renewed. -/
def State.phases (s : State) : List Nat → State
  | [] => s
  | k :: ks => (s.setClu k (s.phaseState k)).phases ks

/-- What every period does, with the governor or under the backstop: measurements, ceilings, parking. -/
def State.periodStart (s : State) (m : PeriodMeas) : State :=
  let r := (s.measure m allClusters).ceilings allClusters
  (((r.1.thermalEvents r.2.1 r.2.2.1).phases allClusters)).park r.2.2.2 allClusters

/-- A period noted: the input power, and whether some cluster stood below its ceiling for want of budget (R509). -/
def PowerSt.note (p : PowerSt) (want : Bool) : PowerSt :=
  { p with hist := ((p.input, want) :: p.hist).take 200, period := p.period + 1 }

/-- CONTROL_PERIOD (R492 to R501). -/
def execControlPeriod (m : PeriodMeas) (s : State) : Out :=
  .next (if !s.boot.run then s
    else
      let s1 := s.periodStart m
      let gs := allClusters.map s1.gov
      let budget := s1.budget
      let t1 := lowerFixed gs budget 432 (startTargets gs)
      let unmet := decide ((spend gs t1 : Int) > budget)
      let t2 := if unmet then t1 else raisePass gs budget true 700 t1
      let t3 := if unmet then t1 else raisePass gs budget false 700 t2
      let want := allClusters.any fun k => couldRise gs t3 k
      let ts := clampAll 700 t3
      let s2 := if unmet then s1.pwrEvent 1 2 0 0 else s1
      let s3 := s2.moveAll gs ts t3 (lowered gs ts) allClusters
      { s3 with pwr := { s3.pwr.note want with unmet := unmet, backstop := false } })

/-- VOLTAGE_REACHED (R491): the clock of a rising cluster switches. -/
def execVoltageReached (k : ClusterId) (s : State) : Out :=
  .next (
    let c := s.clu k
    if c.goal < c.step ∧ c.step ≠ 15 then s.setClu k { c with step := c.goal, volt := stepVolt c.goal } else s)

/-- DROOP_TRIP (R502): the trip is counted; the stretch is time only. -/
def execDroopTrip (k : ClusterId) (s : State) : Out :=
  .next (s.modClu k fun c => { c with droop := satAdd 0xFFFFFFFF c.droop 1 })

/-- BACKSTOP_ENTRY (R506). -/
def execBackstopEntry (s : State) : Out :=
  .next (if !s.boot.run ∨ s.pwr.backstop then s
    else
      let s1 : State := { s with pwr := { s.pwr with backstop := true, backstopSeen := true } }
      if s.pwr.backstopSeen then s1 else s1.pwrEvent 0x20 5 0 0)

/-- Targets of the backstop: each running cluster at its step, and with the power over the cap one step lower (R506). -/
def backstopTargets (gs : List Gov) (ovl : Bool) : List Nat :=
  let free := gs.any fun g => g.live && !g.fixed && decide (g.step < 14)
  gs.map fun g =>
    if !g.live then 15
    else
      let low := ovl && decide (g.step < 14) && (if free then !g.fixed else g.fixed)
      max g.ceil (if low then g.step + 1 else g.step)

/-- BACKSTOP_PERIOD (R506). -/
def execBackstopPeriod (m : PeriodMeas) (s : State) : Out :=
  .next (if !s.boot.run ∨ !s.pwr.backstop then s
    else
      let s1 := s.periodStart m
      let gs := allClusters.map s1.gov
      let t := backstopTargets gs (decide (m.watt > s1.reg kPwrCap % 128 * 25))
      let ts := clampAll 700 t
      let s2 := s1.moveAll gs ts t (lowered gs ts) allClusters
      { s2 with pwr := s2.pwr.note false })

/-- PWR_CAP (R496): `mctp` says by which path the write comes. -/
def execPwrCap (mctp : Bool) (v : W32) (s : State) : Out :=
  .next (
    let old := s.reg kPwrCap
    let cap := v.toNat % 128
    if !mctp ∧ !s.hostOn 0 then s
    else if !mctp ∧ bitAt old 31 then s.pwrEvt 0x10
    else if cap < 40 ∨ cap > 104 then s
    else s.setReg kPwrCap (cap + (if mctp then v.toNat / 2 ^ 31 else old / 2 ^ 31) * 2 ^ 31))

/-- PWR_SLACK_CLEAR (R508). -/
def execPwrSlackClear (v : W32) (s : State) : Out := .next (if bitAt v.toNat 0 then { s with slack := [] } else s)

/-! Views (R509) -/

/-- PWR_STATUS (Table 3). -/
def State.pwrStatus (s : State) : Nat :=
  let n := fun f => (allClusters.filter fun k => f (s.clu k)).length
  b2n s.pwr.unmet * 2 ^ 31 + b2n s.pwr.backstop * 2 ^ 30 + n (fun c => decide (c.thermCeil > 0)) * 2 ^ 16
    + n (fun c => c.step == 15) * 2 ^ 8 + n (fun c => c.crit)

/-- PWR_AVG10 (Table 3). -/
def State.pwrAvg10 (s : State) : Nat :=
  let h := s.pwr.hist
  let n := max 1 h.length
  (h.filter fun x => x.2).length * 1000 / n * 2 ^ 16 + min 65535 ((h.map (·.1)).sum / n)

/-- PWR_CLU_STATUS (Table 6). -/
def Cluster.status (c : Cluster) : Nat :=
  c.step * 2 ^ 28 + c.target * 2 ^ 24 + min 255 c.temp * 2 ^ 16 + b2n c.crit * 2 ^ 15 + b2n c.memBound * 2 ^ 14 + b2n c.fixed * 2 ^ 13
    + b2n (c.fixed && decide (c.step > 5)) * 2 ^ 12 + b2n (decide (c.thermCeil > 0)) * 2 ^ 11 + b2n c.clamped * 2 ^ 10 + c.volt

/-- PWR_SLK_ID (Table 7). -/
def Slack.id (e : Slack) : Nat := b2n e.valid * 2 ^ 31 + e.part * 2 ^ 24 + b2n e.crit * 2 ^ 16 + e.phase

end Sys2Proof.Machine
end

