-- ==== Sys2Proof/Machine/Resets.lean ====
section
/-! DEFINITION. Reset domains: the compute part, warm and hard module resets, the management watchdog, thermal shutdown (spec/19:
R521 to R530; spec/18: R505). -/
namespace Sys2Proof.Machine

/-! The compute part (R523) -/

/-- Launches running or queued here end ABORTED, and their compositions are reset: by this module where it is the anchor, and by
the anchor, which a message tells, elsewhere (R523 step 2; message 26). -/
def State.resetLaunches (s : State) : List Nat → State
  | [] => s
  | p :: ps =>
    let q := s.part p
    (if q.st.resets ∧ (q.launch.isSome ∨ !q.queue.isEmpty ∨ q.st = .rebinding) then
      if q.anchor = s.reg bFAB then s.resetStart p .memberReset else s.emit (.curator q.anchor 26 3 0)
    else s).resetLaunches ps

/-- Objects cleared, their assignment kept, their waiter lists emptied (R523 step 4). -/
def State.clearObjs (s : State) : List Nat → State
  | [] => s
  | o :: os =>
    let x := s.obj o
    ((s.setObj o { SyncObj.reset with owner := x.owner, vobj := x.vobj }).endHostWaits 2 5 x.waiters).clearObjs os

/-- Cluster tags marked stale: an epoch of 0, which no catalogue carries (R523 step 6; log 44). -/
def State.staleTags (s : State) : List Nat → State
  | [] => s
  | k :: ks => (s.modClu k fun c => { c with epoch := 0 }).staleTags ks

/-- The pins of every partition placed here made again (R226, R523 step 5). -/
def State.repin (s : State) : List Nat → State
  | [] => s
  | p :: ps => (if (s.part p).st = .free ∨ (s.part p).st = .reserved then s else s.pinCarve p).repin ps

/-- The pins of every window that this module lends, or will reopen, made again (R226, R242, R523 step 5). -/
def State.repinWins (s : State) : List Nat → State
  | [] => s
  | w :: ws =>
    let i := s.inWin w
    (if (i.valid ∨ i.revoking) ∧ !i.scratch then s.pinRange i.part i.base i.size else s).repinWins ws

/-- A compute-part reset (R523). A re-bind in progress ends with RESET first (R362, R527). -/
def State.computeReset (s : State) : State :=
  let s1 := (s.ledger 0x0A02 (srcOf3 0xFF 0 0) 1 0 0).resetLaunches (List.range 32)
  let r := s1.dropXfers fun _ => true
  let s2 := r.1.abortCopies r.2
  let s3 : State := { s2 with cores := [], engines := [], buckets := [], winQ := [], l1 := [], l2 := [] }
  ((((s3.repin (List.range 32)).repinWins (List.range 1023)).flashAll allClusters).clearObjs (s3.objs.map (·.1))).staleTags allClusters

/-- COMPUTE_PART_RESET (R521, R523, R529); a pending warm reset takes it in (R527). -/
def execComputePartReset (s : State) : Out := .next (if s.boot.run ∧ !s.warmDue then s.computeReset else s)

/-! Module resets (R521, R525) -/

/-- A region at a module reset: what had an owner has lost its keys and is cleared before it is assigned again (R447, R466, R525). -/
def Region.atReset (r : Region) : Region :=
  if r.owner.isSome || r.keyed || r.clearing then { Region.reset with clearing := true } else Region.reset

/-- Groups with a region to clear. -/
def clearingGroups (t : Tbl Region) : List Nat := (List.range 32).filter fun g => t.any fun e => e.1 / 12 == g && e.2.clearing

/-- Groups marked as clearing. -/
def State.markClearing (s : State) : List Nat → State
  | [] => s
  | g :: gs => (s.setGroup g { Group.reset with clearing := true }).markClearing gs

/-- The module off, or at the start of a module reset: everything but the island, the secure NVM, the SPI NOR, the memory's
cells, and after a warm reset the Ledger with its intake, is as after reset (R521, R525, R563). -/
def State.down (s : State) (warm : Bool) (cause : Nat) : State :=
  let rs : Tbl Region := (s.regions.map fun e => (e.1, e.2.atReset)).filter fun e => e.2 != Region.reset
  let s1 : State := { State.reset with
    pending := s.pending, out := s.out, freeCtr := s.freeCtr, host := s.host, hbm := s.hbm, poison := s.poison, tags := s.tags,
    regions := rs, withheld := s.withheld, repairRows := s.repairRows,
    scrub := { Patrol.reset with upsets := s.scrub.upsets, spares := s.scrub.spares },
    lring := if warm then s.lring else { Ledger.empty with seq := 0 }, intake := if warm then s.intake else [],
    cus := { Cus.reset with dbg := s.cus.dbg, slots := s.cus.slots, keyCount := s.cus.keyCount },
    fw := { FwSt.reset with types := s.fw.types, revoked := s.fw.revoked },
    panel := { s.panel with locSince := 0, under := false, overV := false, rev := false,
                            cell := if s.panel.cell = .disabled then .charging else s.panel.cell },
    boot := { Boot.reset with warm := warm, cause := cause, shut := s.boot.shut, prior := s.boot.prior } }
  s1.markClearing (clearingGroups rs)

/-- A warm reset begun (R525). -/
def State.warmReset (s : State) (cause : Nat) : State := s.down true cause
/-- A hard reset begun (R525). -/
def State.hardReset (s : State) (cause : Nat) : State := s.down false cause

/-- A warm reset requested with notice (R525): one is pending until the manager acknowledges it, or for 1 s. A second one is
absorbed (R527). -/
def State.warmNotice (s : State) (cause : Nat) : State :=
  if s.boot.pending.isSome then s
  else
    let s1 : State := { s with boot := { s.boot with pending := some cause } }
    (s1.ledger 0x0A01 (srcOf3 0xFF 0 0) 2 cause 0).msix 0 0

/-- MODULE_WARM_RESET (R521, R525): SVC_RESET_CMD through PF0 at once (cause 0x03), over MCTP with notice (0x05). -/
def execModuleWarmReset (mctp : Bool) (s : State) : Out :=
  .next (if !s.boot.run then s else if mctp then s.warmNotice 5 else if s.hostOn 0 then s.warmReset 3 else s)

/-- MODULE_HARD_RESET (R521, R525): causes 0x04 through PF0 and 0x06 over MCTP. -/
def execModuleHardReset (mctp : Bool) (s : State) : Out :=
  .next (if !s.boot.run then s else if mctp then s.hardReset 6 else if s.hostOn 0 then s.hardReset 4 else s)

/-- SVC_RESET_ACK (R525, R533): ignored over MCTP. -/
def execSvcResetAck (mctp : Bool) (s : State) : Out :=
  .next (match s.boot.pending with
    | some c => if !mctp ∧ s.hostOn 0 then s.warmReset c else s
    | none => s)

/-- RESET_NOTICE_EXPIRY (R525): 1 s after the request. -/
def execResetNoticeExpiry (s : State) : Out :=
  .next (match s.boot.pending with
    | some c => s.warmReset c
    | none => s)

/-- MGMT_WATCHDOG (R529): a warm reset without notice, cause 0x07. -/
def execMgmtWatchdog (s : State) : Out :=
  .next (if s.boot.run then (s.ledger 0x0A06 (srcOf3 0xFF 0 0) 2 7 0).warmReset 7 else s)

/-- SVC_RTC (R578): whole seconds in [63:15], fractions of 1/32,768 s below. -/
def Panel.rtc (p : Panel) : Nat := p.rtcNs * 32768 / 1000000000 % 2 ^ 64

/-- THERMAL_SHUTDOWN (R505): every package supply and cage output is off; the island keeps the sensor and the time. -/
def execThermalShutdown (sensor : Fin 65536) (s : State) : Out :=
  .next (if s.boot.good then
      let s1 := s.down false s.boot.cause
      { s1 with boot := { s1.boot with shut := true, prior := some (sensor, s.panel.rtc) } }
    else s)

end Sys2Proof.Machine
end

