-- ==== Sys2Proof/Machine/Links.lean ====
section
/-! DEFINITION. Links: training, hellos, quarantine and the LNK registers (spec/10: R249 to R258, R269). -/
namespace Sys2Proof.Machine

/-- Why a cage keeps its links DISABLED, or none (R249, R260, R263, R264). Links that the attention sequence has taken out stay out
until its end (R265; DEDUCED, log 25). -/
def State.cageCause (s : State) (c : Nat) : Option Nat :=
  let k := s.cage c
  if k.attn = .draining then some 0x0C
  else if k.pow = .on then (if k.ready then none else if k.low then some 4 else some 3)
  else if !k.present then some 2
  else some 3

/-- SIGNAL_DETECT (R250, step 1), in a cage that is ON with CMIS ready (R249). -/
def execSignalDetect (i : LinkId) (s : State) : Out :=
  .next (
    let l := s.lnk i
    let k := s.cage (i / 4)
    if l.st = .detect ∧ !l.waiting ∧ k.pow = .on ∧ k.ready then s.setLnk i { l with st := .equalise } else s)

/-- EQUALISE_DONE (R250, R251): receivers trained; the inverted ones of physical lanes 0 and 1 are corrected and shown in POL, by
logical lane once the lane order is known (R252). -/
def execEqualiseDone (i : LinkId) (pol0 pol1 : Bool) (s : State) : Out :=
  .next (
    let l := s.lnk i
    if l.st = .equalise then s.setLnk i { l with st := .align, pol0 := pol0, pol1 := pol1 } else s)

/-- ALIGN_LOCK (R250, R251): lock reached; a swap of the lanes is corrected and shown in SWAP, and POL follows the logical lanes. -/
def execAlignLock (i : LinkId) (swap : Bool) (s : State) : Out :=
  .next (
    let l := s.lnk i
    if l.st = .align then
      s.setLnk i { l with st := .neighbour, swap := swap, pol0 := if swap then l.pol1 else l.pol0, pol1 := if swap then l.pol0 else l.pol1 }
    else s)

/-- TRAINING_TIMEOUT (R250, Table 3). -/
def execTrainingTimeout (i : LinkId) (s : State) : Out :=
  .next (
    let fail (c : Nat) : State := (s.linkTo i .detect c).modLnk i fun l => { l with waiting := true }
    match (s.lnk i).st with
    | .equalise => fail 0x07
    | .align => fail 0x08
    | .neighbour => fail 0x0D
    | _ => s)

/-- DETECT_RETRY (R250): the 100 ms wait is over. -/
def execDetectRetry (i : LinkId) (s : State) : Out :=
  .next (if (s.lnk i).st = .detect then s.modLnk i fun l => { l with waiting := false } else s)

/-- NO_SIGNAL_LANE (R252). -/
def execNoSignalLane (i : LinkId) (lane : Fin 2) (s : State) : Out :=
  .next (if (s.lnk i).st = .detect then s.modLnk i fun l => { l with cause := 5 + lane.val } else s)

/-- The credit grant of an end that enters ACTIVE (R281): 8 slots on each of VC 0 to 6 and 328 shared. -/
def grantWord : Nat :=
  0xFFFF * 2 ^ 112 + 2 ^ 111 + 328 * 2 ^ 80 + 8 * (2 ^ 72 + 2 ^ 64 + 2 ^ 56 + 2 ^ 48 + 2 ^ 40 + 2 ^ 32 + 2 ^ 24)

/-- Following a parent starts once its link is out of quarantine (R42, Table 9). -/
def State.parentUp (s : State) (i : Nat) : State :=
  let t := s.time
  if t.st = .unsynced ∧ t.ctrl % 4 = 1 ∧ bits t.ctrl 15 8 = i ∧ i < 96 ∧ !t.pendingCtrl then
    { s with time := t.acquire i false }
  else s

/-- QUARANTINE_EXIT (R257): every condition holds at both ends. -/
def execQuarantineExit (i : LinkId) (s : State) : Out :=
  .next (if (s.lnk i).st = .quarantine ∧ s.quarCause i = 0 then
    ((s.linkTo i .active 0).control i 3 grantWord true).parentUp i
  else s)

/-- LOSS_OF_LOCK (R253). -/
def execLossOfLock (i : LinkId) (s : State) : Out :=
  .next (if (s.lnk i).carries then s.linkTo i .detect 0x09 else s)

/-- FEC_EXCESS (R253). -/
def execFecExcess (i : LinkId) (s : State) : Out :=
  .next (if (s.lnk i).carries then s.linkTo i .detect 0x0A else s)

/-- The states from NEIGHBOUR onwards. -/
def Link.meets (l : Link) : Bool := l.carries || l.st == .neighbour || l.st == .quarantine

/-- HELLO_SEND (R254). -/
def execHelloSend (i : LinkId) (s : State) : Out :=
  .next (if (s.lnk i).meets then s.control i 1 (s.helloWord i false) false else s)

/-- The checks of R255 applied again to a link in NEIGHBOUR, QUARANTINE or ACTIVE. -/
def State.recheck (s : State) (i : Nat) : State :=
  let l := s.lnk i
  match l.hello with
  | none => s
  | some h =>
    match l.st with
    | .neighbour => s.toQuarantine i
    | .quarantine => s.requar i
    | .active => if (s.helloFault i h).isSome then s.toQuarantine i else s
    | _ => s

/-- HELLO (R254, R255, R276): the hello and the word's MAC field, which must be its CRC. GOODBYE takes the link to DETECT. -/
def execHello (i : LinkId) (h : Hello) (mac : W64) (s : State) : Out :=
  .next (if !(s.lnk i).meets ∨ mac.toNat ≠ wordCrc 1 h.payload then s
    else
      let s1 := s.modLnk i fun l => { l with hello := some h, pReady := h.ready }
      if h.goodbye then s1.linkTo i .detect 0x0B
      else (s1.recheck i).modLnk i fun l => { l with pReady := h.ready })

/-- LNK_EXPECT (R255, R269): the checks run again. -/
def execLnkExpect (i : LinkId) (v : W32) (s : State) : Out :=
  .next (
    let s1 := s.setReg (kLnkExpect i) (v.toNat &&& 0x8FFFC07F)
    if (s1.lnk i).st = .neighbour then s1 else s1.recheck i)

/-- QUAR_CLEAR (R258). -/
def execQuarClear (i : LinkId) (s : State) : Out :=
  .next ((s.modLnk i fun l => { l with secHold := false }).requar i)

/-- RETRAIN (R269, Table 9). A DISABLED link stays where it is. -/
def execRetrain (i : LinkId) (s : State) : Out :=
  .next (if (s.lnk i).st = .disabled then s else s.linkTo i .detect 0x0E)

/-- QUAR_FORCE (R257): 1 holds the link in QUARANTINE; an ACTIVE link goes there. -/
def execQuarForce (i : LinkId) (on : Bool) (s : State) : Out :=
  .next (
    let s1 := if on then s.setBits (kLnkCtrl i) 2 else s.clearBits (kLnkCtrl i) 2
    if on ∧ (s1.lnk i).st = .active then s1.toQuarantine i else s1.requar i)

/-- ENABLE (R249, Table 2). -/
def execEnable (i : LinkId) (on : Bool) (s : State) : Out :=
  .next (
    if on then
      let s1 := s.setBits (kLnkCtrl i) 1
      if (s1.lnk i).st = .disabled then
        match s1.cageCause (i / 4) with
        | none => s1.linkTo i .detect 0
        | some c => s1.modLnk i fun l => { l with cause := c }
      else s1
    else (s.clearBits (kLnkCtrl i) 1).linkTo i .disabled 1)

end Sys2Proof.Machine
end

