-- ==== Sys2Proof/Machine/Fabric.lean ====
section
/-! DEFINITION. The stream on a link: bundles, control words, credits, replay, routing banks (spec/11: R271 to R304;
spec/17: R472, R474). -/
namespace Sys2Proof.Machine

/-! Flits received -/

/-- The kinds of Table 5. -/
def knownKind (k : Nat) : Bool := isRequestKind k || isResponseKind k || k == 0x20

/-- A field outside the range that Table 1, Table 4 or Table 5 gives (R280, R287). The ACK of a SIG echoes its TOTAL of 0 (DEDUCED
log 25). -/
def Flit.malformed (f : Flit) : Bool :=
  !knownKind f.kind || decide (f.dst % 64 ≥ 48) || decide (f.units > 7) || decide (f.hops > 2) || decide (f.vc ≠ vcOf f.kind f.hops) ||
    (match f.kind with
     | 0x10 => decide (f.total = 0 ∨ f.total > 128 ∨ f.offset % 32 ≠ 0)
     | 0x11 => decide (f.total = 0 ∨ f.total > 128 ∨ f.units ≠ 1 ∨ f.offset % 32 ≠ 0)
     | 0x12 => decide (f.total = 0 ∨ f.total > 128 ∨ f.units ≠ 0)
     | 0x13 => decide (f.total ≠ 0 ∨ f.units ≠ 0 ∨ f.window ≠ 0 ∨ f.gen ≠ 0 ∨ f.offset ≠ 0 ∨
         f.aux / 65536 < 0x3000 ∨ f.aux / 65536 > 0x3FFF ∨ f.aux / 256 % 256 = 0)
     | 0x20 => decide (f.hops ≠ 0 ∨ f.total ≠ 0)
     | 0x30 => decide (f.total > 128 ∨ f.units ≠ 0)
     | 0x31 => decide (f.total = 0 ∨ f.total > 128)
     | _ => decide (f.total = 0 ∨ f.total > 128 ∨ f.units ≠ 0 ∨ f.aux % 256 < 0x11 ∨ f.aux % 256 > 0x17))

/-- An accepted flit is dropped, delivered where its CHECK holds, or sent onward (R275, R287, R296). -/
def State.forward (s : State) (f : Flit) : State :=
  if f.malformed then (s.freeRx f).dropFlit 0x11C
  else if f.dst = s.reg bFAB then (if f.check = f.crc then s.deliver f else (s.freeRx f).dropFlit 0x118)
  else if f.kind = 0x20 then (s.freeRx f).dropFlit 0x11C
  else if f.hops ≥ 2 then (s.freeRx f).dropFlit 0x10C
  else s.route { f with hops := f.hops + 1 }

/-- The flits of a verified bundle accepted in unbroken LSEQ order, each into a free slot of the receive buffer (R272, R281, R283). A
flit sent without a credit finds none and is not accepted (DESIGN CHOICE log 25). -/
def State.acceptFlits (s : State) (i : Nat) : List LFlit → State
  | [] => s
  | x :: xs =>
    let l := s.lnk i
    let slot : Slot := ⟨i, x.pool, x.flit.vc⟩
    if x.flit.kind = 0 ∨ x.lseq ≠ l.rxLseq ∨ !l.hasSlot slot then s.acceptFlits i xs
    else
      ((s.setLnk i { l.takeSlot slot with rxLseq := (l.rxLseq + 1) % 65536, ackDue := true }).forward
        { x.flit with slot := some slot }).acceptFlits i xs

/-- The receive side moves to its pending key (R472): counters restart, the old key is destroyed. -/
def Link.takePending (l : Link) : Link :=
  match l.pending with
  | some p => { l with rxKey := p.1, rxEpoch := p.2, rxCtr := 0, rxCctr := 0, pending := none, keys := if l.exch.isNone then .keyed else l.keys }
  | none => l

/-- Under which key a received bundle verifies, and its flits (R273, R472): the current key with the counter expected next, then
the pending key with counter 0. -/
def Link.unseal (l : Link) (body tag : List Byte) : Verify × List LFlit :=
  match openBundle l.rxKey l.rxEpoch l.rxCtr body tag with
  | some p => (.current, flitsOf 8 p)
  | none =>
    match l.pending with
    | none => (.fails, [])
    | some k =>
      match openBundle k.1 k.2 0 body tag with
      | some p => (.pendingKey, flitsOf 8 p)
      | none => (.fails, [])

/-- A bundle verified under the current key: the next one is expected at the next counter and place (R271, R273). -/
def Link.verified (l : Link) : Link := { l with tagFails := 0, rxCtr := l.rxCtr + 1, rxPos := (l.rxPos + 16) % 32 }

/-- BUNDLE (R271 to R273, R283, R284, R474): the 2,048 bytes of its flits as they arrive and its tag; `corrected` counts the
codewords with corrected symbols. -/
def execBundle (i : LinkId) (tag : BitVec 128) (corrected : Fin 256) (body : List Byte) (s : State) : Out :=
  .next (
    let s0 := s.bump (kLnkFecCorr i) corrected
    let l := s0.lnk i
    if l.st = .quarantine then s0.ledger 0x0301 (srcOf3 4 4 i) i 0 0
    else if !l.carries ∨ l.replayWait then s0
    else match l.unseal body (toBytes 16 tag.toNat) with
      | (.fails, _) =>
        let s1 := s0.setLnk i { l with tagFails := l.tagFails + 1 }
        if l.tagFails + 1 ≥ 3 then s1.linkAlarm i else s1.askReplay i
      | (.current, fs) => (s0.setLnk i l.verified).acceptFlits i fs
      | (.pendingKey, fs) => (s0.setLnk i l.takePending.verified).acceptFlits i fs)

/-- UNCORRECTABLE_FEC_CODEWORD (R273, R284). -/
def execUncorrectableFecCodeword (i : LinkId) (s : State) : Out :=
  .next (
    let s1 := s.bump (kLnkFecUnc i) 1
    if (s1.lnk i).carries then s1.askReplay i else s1)

/-! Control words received -/

/-- Under which key an authenticated word verifies (R277, R472). -/
def Link.verify (l : Link) (kind payload cctr mac : Nat) : Verify :=
  if mac = wordMac l.rxKey l.rxEpoch kind payload cctr then .current
  else match l.pending with
    | some p => if mac = wordMac p.1 p.2 kind payload cctr then .pendingKey else .fails
    | none => .fails

/-- An authenticated word accepted: its MAC verifies and its counter exceeds the last one's (R277); none where it is
discarded. -/
def State.acceptWord (s : State) (i kind payload cctr mac : Nat) : Option State :=
  let l := s.lnk i
  match l.verify kind payload cctr mac with
  | .fails => none
  | .current => if cctr > l.rxCctr then some (s.setLnk i { l with rxCctr := cctr }) else none
  | .pendingKey => if cctr > 0 then some (s.setLnk i { l.takePending with rxCctr := cctr }) else none

/-- A word discarded (R277). -/
def State.discardWord (s : State) : State := s.bump (bFAB + 0x120) 1

/-- What an authenticated word in ACTIVE or DRAINING does, or its discard. -/
def State.onWord (s : State) (i kind payload cctr mac : Nat) (f : State → State) : State :=
  if (s.lnk i).carries then
    match s.acceptWord i kind payload cctr mac with
    | some s1 => f s1
    | none => s.discardWord
  else s

/-- EPOCH (R257, R276, R298, R299): the announced active epoch is kept; a staged module that follows may activate. In QUARANTINE
the word's MAC field is its CRC. -/
def execEpoch (i : LinkId) (active staged : W32) (ready : Bool) (cctr : Fin (2 ^ 48)) (mac : W64) (s : State) : Out :=
  .next (
    let p := epochPayload active.toNat staged.toNat ready
    if (s.lnk i).st = .quarantine then
      (if mac.toNat = wordCrc 2 p then (s.modLnk i fun l => { l with pEpoch := some active.toNat }).requar i else s)
    else s.onWord i 2 p cctr mac.toNat fun s1 =>
      let s2 := s1.modLnk i fun l => { l with pEpoch := some active.toNat }
      let c := s2.reg kRteCtrl
      if bitAt c 2 ∧ bitAt c 1 ∧ active.toNat = s2.reg kRteStaged ∧ (s2.lnk i).st = .active then s2.activateRoutes
      else s2.rehold i)

/-- Fields of a CREDIT_ACK: the seven dedicated counts, VC 0 first (R281). -/
def dedCounts (p : Nat) : List Nat := (List.range 7).map fun v => p / 2 ^ (24 + 8 * v) % 256

/-- The replay buffer without the flits up to and including an LSEQ (R283). -/
def freeAcked (lseq : Nat) (fs : List LFlit) : List LFlit :=
  if fs.any fun x => x.lseq == lseq then (fs.dropWhile fun x => x.lseq != lseq).drop 1 else fs

/-- Credits and acknowledgements taken from a CREDIT_ACK (R281, R283). -/
def Link.takeCredits (l : Link) (p : Nat) : Link :=
  let shared := bits p 95 80
  let ded := dedCounts p
  let l1 := { l with replay := freeAcked (bits p 127 112) l.replay }
  if bitAt p 111 then
    { l1 with credShared := shared, credDed := ded, seenShared := 0, seenDed := [0, 0, 0, 0, 0, 0, 0] }
  else
    { l1 with credShared := l.credShared + (shared + 65536 - l.seenShared) % 65536, seenShared := shared,
              credDed := (l.credDed.zip (l.seenDed.zip ded)).map fun x => x.1 + (x.2.2 + 256 - x.2.1) % 256,
              seenDed := ded }

/-- CREDIT_ACK (R281, R283). -/
def execCreditAck (i : LinkId) (payload : BitVec 128) (cctr : Fin (2 ^ 48)) (mac : W64) (s : State) : Out :=
  .next (s.onWord i 3 payload.toNat cctr mac.toNat fun s1 => (s1.modLnk i fun l => l.takeCredits payload.toNat).pump i)

/-- Flits sent again in new bundles with their LSEQ (R282, R284). -/
def State.resend (s : State) (i : Nat) (fs : List LFlit) : Nat → State
  | 0 => s
  | fuel + 1 => if fs.isEmpty then s else (s.sendBundle i (fs.take 8)).resend i (fs.drop 8) fuel

/-- REPLAY_REQ (R284, R285): replay from the named LSEQ, in a stream that starts afresh (R271), or the alarm where that flit is no
longer held. -/
def execReplayReq (i : LinkId) (next : Fin 65536) (cctr : Fin (2 ^ 48)) (mac : W64) (s : State) : Out :=
  .next (s.onWord i 4 (next * 2 ^ 112) cctr mac.toNat fun s1 =>
    let l := s1.lnk i
    if next.val = l.txLseq ∨ l.replay.any (fun x => x.lseq == next.val) then
      let again := l.replay.dropWhile fun x => x.lseq != next.val
      ((s1.control i 5 (next * 2 ^ 112 + l.txCtr * 2 ^ 64) true).modLnk i fun l => { l with txPos := 0 }).resend i again again.length
    else s1.linkAlarm i)

/-- REPLAY_START (R284): the counter is adopted only above every verified bundle's; the stream starts afresh (R271). -/
def execReplayStart (i : LinkId) (first : Fin 65536) (ctr : Fin (2 ^ 48)) (cctr : Fin (2 ^ 48)) (mac : W64) (s : State) : Out :=
  .next (s.onWord i 5 (first * 2 ^ 112 + ctr * 2 ^ 64) cctr mac.toNat fun s1 =>
      let l := s1.lnk i
      if l.rxCtr ≤ ctr.val then s1.setLnk i { l with rxCtr := ctr, rxPos := 0, replayWait := false } else s1)

/-- IDLE (R276). -/
def execIdle (i : LinkId) (s : State) : Out := .next (let _ := i; s)

/-! Words sent -/

/-- The payload of this end's CREDIT_ACK (R281). -/
def Link.creditWord (l : Link) : Nat :=
  (l.rxLseq + 65535) % 65536 * 2 ^ 112 + l.freedShared * 2 ^ 80 +
    ((List.range 7).map fun v => nth 0 l.freedDed v * 2 ^ (24 + 8 * v)).sum

/-- CREDIT_ACK_SEND (R278): while there are credits or acknowledgements to return. -/
def execCreditAckSend (i : LinkId) (s : State) : Out :=
  .next (
    let l := s.lnk i
    if l.carries ∧ l.ackDue then (s.control i 3 l.creditWord true).modLnk i fun l => { l with ackDue := false } else s)

/-- EPOCH_SEND (R278). -/
def execEpochSend (i : LinkId) (s : State) : Out := .next (s.announce i)

/-- REPLAY_REQ_REPEAT (R284): until a REPLAY_START arrives. -/
def execReplayReqRepeat (i : LinkId) (s : State) : Out :=
  .next (
    let l := s.lnk i
    if l.carries ∧ l.replayWait then s.control i 4 (l.rxLseq * 2 ^ 112) true else s)

/-- FLIT_AGED (R290): the flit at place `n` of a link's queue has waited 400 µs. -/
def execFlitAged (i : LinkId) (n : Fin 65536) (s : State) : Out :=
  .next (
    let l := s.lnk i
    match l.queue[n.val]? with
    | some f => ((s.setLnk i { l with queue := l.queue.eraseIdx n }).freeRx f).dropFlit 0x110
    | none => s)

/-! Routing banks and the FAB registers -/

/-- COMMIT (R298): ignored while STAGE_READY is 0. -/
def execCommit (s : State) : Out := .next (if bitAt (s.reg kRteCtrl) 2 then s.activateRoutes else s)

/-- STAGE_READY (R298): the bit written; a change is announced on every link (R278). -/
def execStageReady (on : Bool) (s : State) : Out :=
  .next ((if on then s.setBits kRteCtrl 4 else s.clearBits kRteCtrl 4).announceOn allLinks)

/-- FAB_ID (R304): ignored while any link is ACTIVE or DRAINING. -/
def execFabId (v : W32) (s : State) : Out :=
  .next (if allLinks.any (fun i => (s.lnk i).carries) then s else s.setReg bFAB (v.toNat % 16384))

/-- Registers put to zero: `n` of them from a key on. -/
def State.zeroRegs (s : State) (k : Nat) : Nat → State
  | 0 => s
  | n + 1 => (s.setReg k 0).zeroRegs (k + 4) n

/-- FAB_CNT_CLEAR (R304). -/
def execFabCntClear (v : W32) (s : State) : Out :=
  .next (if bitAt v.toNat 0 then s.zeroRegs (bFAB + 0x100) 11 else s)

end Sys2Proof.Machine
end

