-- ==== Sys2Proof/Machine/Keys.lean ====
section
/-! DEFINITION. Working keys: re-encryption of memory regions and the keying of links (spec/17: R464, R465, R467 to R474). -/
namespace Sys2Proof.Machine

/-! Regions (R464) -/

/-- A region's re-encryption is due: 2^36 writes under its keys. -/
def State.rekeyDue (s : State) (q : Nat) : Bool :=
  (s.region q).owner.isSome && (s.region q).keyed && !(s.region q).rekeying && decide ((s.region q).writes ≥ 2 ^ 36)

/-- REGION_REKEY (R454, R464): new keys are drawn and the walk begins. A group re-encrypts one region at a time, the lowest
first. -/
def execRegionRekey (q : RegionId) (s : State) : Out :=
  .next (
    let others := (List.range 12).map fun r => q.val / 12 * 12 + r
    if s.drbgUp ∧ s.rekeyDue q ∧ (others.all fun x => !(s.region x).rekeying && (decide (q.val ≤ x) || !s.rekeyDue x)) then
      let k := s.newKey
      k.1.modRegion q fun r => { r with rekeying := true, pointer := 0, newKeyNo := k.2, newWrites := 0 }
    else s)

/-- A sector re-encrypted (R464 steps 2 and 3): its tag under the new key, counted as a write under it; a sector that fails its
check is poisoned and reported, a clear one stays clear. -/
def State.reencrypt (s : State) (q sec : Nat) (bad : Bool) : State :=
  let r := s.region q
  match s.tag sec with
  | none => s
  | some t =>
    let s1 := (s.setTag sec (some { t with keyNo := r.newKeyNo })).setRegion q { r with newWrites := r.newWrites + 1 }
    if bad ∨ t.keyNo ≠ r.keyNo then (s1.markPoison sec).integrityAlarm t.part (t.ipa * 512) else s1

/-- One sector of a walk (log 40): the pointer advances past it. -/
def State.walkStep (s : State) (q : Nat) : State :=
  let r := s.region q
  if r.rekeying ∧ r.pointer < regionSize q / 512 then
    (s.reencrypt q (regionBase q / 512 + r.pointer) false).modRegion q fun r => { r with pointer := r.pointer + 1 }
  else s

/-- One sector of each walk. -/
def State.walkSteps (s : State) : List Nat → State
  | [] => s
  | q :: qs => (s.walkStep q).walkSteps qs

/-- The rest of a walk: the sectors that hold data from the pointer on. -/
def State.walkRest (s : State) (q : Nat) (bad : List Nat) : List Nat → State
  | [] => s
  | sec :: secs => (s.reencrypt q sec (bad.contains sec)).walkRest q bad secs

/-- REENCRYPT_DONE (R464, R465): the walk ends, the old keys are destroyed, a halt ends. `bad` lists the sectors that failed
their check; `zeroed` says that the key registers read as zero (R448). -/
def execReencryptDone (q : RegionId) (bad : List Nat) (zeroed : Bool) (s : State) : Out :=
  .next (
    let r := s.region q
    if !r.rekeying then s
    else
      let lo := regionBase q / 512 + r.pointer
      let hi := (regionBase q + regionSize q) / 512
      let secs : List Nat := (s.tags.filter fun e => decide (lo ≤ e.1) && decide (e.1 < hi)).map (·.1)
      let s1 := s.walkRest q bad secs
      let s2 := (s1.modRegion q fun r => { r with
        rekeying := false, halted := false, pointer := 0, writes := r.newWrites, newWrites := 0, keyNo := r.newKeyNo, newKeyNo := 0,
        rekeys := satAdd 0xFFFFFFFF r.rekeys 1 })
      if zeroed then s2
      else ({ s2 with cus := { s2.cus with badKeys := s2.cus.badKeys ++ [q.val] } }.secAlarm 4).ledger 0x0808 (srcOf3 0xFF 0 0) q 0 0)

/-! Link keying (R467 to R474; the order of the messages between the ends, log 41) -/

/-- The words of an authenticated message taken one by one; whether all were accepted (R277, R468). -/
def State.takeWords (s : State) (i : Nat) : List (Nat × Nat × Nat) → State × Bool
  | [] => (s, true)
  | w :: ws =>
    match s.acceptWord i 7 w.1 w.2.1 w.2.2 with
    | some s1 => s1.takeWords i ws
    | none => let r := s.discardWord.takeWords i ws; (r.1, false)

/-- A REKEY message received (R468): the payloads of its words with their counters and MAC fields. Unauthenticated in QUARANTINE,
where each word must pass its CRC, authenticated in ACTIVE and DRAINING. It is acted on only where every word of it is accepted
and the Custodian can serve it; its sender repeats it (log 41). -/
def State.rekeyWord (s : State) (i : Nat) (payloads cctrs macs : List Nat) (f : State → State) : State :=
  if cctrs.length ≠ payloads.length ∨ macs.length ≠ payloads.length then s
  else if (s.lnk i).st = .quarantine then
    (if s.drbgUp ∧ s.cus.ready ∧ (payloads.zip macs).all fun x => x.2 == wordCrc 7 x.1 then f s else s)
  else if (s.lnk i).carries then
    let r := s.takeWords i (payloads.zip (cctrs.zip macs))
    if r.2 ∧ r.1.drbgUp ∧ r.1.cus.ready then f r.1 else r.1
  else s

/-- The exchange of a link changed. -/
def State.modExch (s : State) (i : Nat) (f : Exchange → Exchange) : State :=
  s.modLnk i fun l => { l with exch := l.exch.map f }

/-- The exchange has sent a message. -/
def Exchange.hasSent (x : Exchange) (msg : Nat) : Bool := x.sent.any fun m => m.1 == msg

/-- An ACK sent. -/
def State.ackRekey (s : State) (i xid msg : Nat) : State := s.rekeyOut i 5 xid [] msg

/-- A message of the exchange in progress taken: acknowledged, and acted on once. -/
def State.takeRekey (s : State) (i xid msg : Nat) (ok : Exchange → Bool) (f : Exchange → State → State) : State :=
  match (s.lnk i).exch with
  | none => s
  | some x =>
    if x.xid ≠ xid ∨ !ok x then s
    else if x.received.contains msg then s.ackRekey i xid msg
    else f x ((s.ackRekey i xid msg).modExch i fun y => { y with received := y.received ++ [msg] })

/-! The keys agreed (R469, R471) -/

/-- SERIAL, FABRIC_ID and LINK as the transcript takes them, 8, 2 and 1 bytes (DEDUCED log 41). -/
def partyBytes (serial fid link : Nat) : List Byte := toBytes 8 serial ++ toBytes 2 fid ++ toBytes 1 link

/-- The transcript hash of an exchange (R469). -/
def State.transcript (s : State) (i : Nat) (initiator : Bool) (initMsg respMsg : List Byte) : List Byte :=
  let own := partyBytes Config.serial.toNat (s.reg bFAB) i
  let theirs := match (s.lnk i).hello with
    | some h => partyBytes h.serial h.fid h.link
    | none => []
  toBytes 48 (Config.sha384 (initMsg ++ respMsg ++ (if initiator then own ++ theirs else theirs ++ own))).toNat

/-- The two keys of an exchange from its shared secrets, for sending and for receiving: the upper half keys the direction from the
initiator (R469, R471). -/
def agreedKeys (secret hash : List Byte) (rollover initiator : Bool) : Nat × Nat :=
  let label := ascii (if rollover then "LINK-ROLL" else "LINK")
  let k := Config.kdf secret label hash 512 % 2 ^ 512
  if initiator then (k / 2 ^ 256, k % 2 ^ 256) else (k % 2 ^ 256, k / 2 ^ 256)

/-- RESP of an end to an INIT, and the shared secrets (R469): the ciphertext, its ephemeral P-384 key, 32 random bytes. -/
def respBytes (eph rnd : Nat) (init : List Byte) : List Byte × List Byte :=
  let e := Config.mlkemEncaps (init.take 1568) eph
  (fit 1568 e.1 ++ fit 97 (Config.p384Public eph) ++ toBytes 32 rnd, e.2 ++ Config.ecdh eph ((init.drop 1568).take 97))

/-- The initiator's shared secrets from a RESP (R469). -/
def respSecret (eph : Nat) (resp : List Byte) : List Byte :=
  Config.mlkemDecaps eph (resp.take 1568) ++ Config.ecdh eph ((resp.drop 1568).take 97)

/-- A rollover's receive key is pending from here, at the next epoch (R472). -/
def Link.holdPending (l : Link) (keys : Nat × Nat) : Link := { l with pending := some (keys.2, l.rxEpoch + 1) }

/-- SWITCH sent (R472): on a rollover what follows is under the new key, at the next epoch, with counters from 0. -/
def State.sendSwitch (s : State) (i : Nat) (x : Exchange) : State :=
  if x.rollover then
    (s.sendRekey i 6 x.xid [] ((s.lnk i).keyEpoch + 1)).modLnk i fun l =>
      { l with txCtr := 0, txCctr := 0, keyEpoch := l.keyEpoch + 1,
               txKey := match x.keys with
                 | some k => k.1
                 | none => l.txKey }
  else s.sendRekey i 6 x.xid [] 0

/-- The link keyed by full keying: both directions at epoch 0, with their counters at 0 (R467). -/
def Link.loadKeys (l : Link) (x : Exchange) : Link :=
  if x.rollover then l
  else match x.keys with
    | some k => { l with txKey := k.1, rxKey := k.2, keyEpoch := 0, rxEpoch := 0, txCtr := 0, rxCtr := 0, txCctr := 0, rxCctr := 0 }
    | none => l

/-- An exchange with a SWITCH received and one acknowledged is complete: the link is keyed (R257, R469). -/
def State.keyingDone (s : State) (i : Nat) : State :=
  match (s.lnk i).exch with
  | none => s
  | some x =>
    if x.received.contains 6 ∧ x.acked.contains 6 then
      (s.modLnk i fun l => { l.loadKeys x with exch := none, keyed := true, keys := .keyed, retryKey := false }).requar i
    else s

/-- A keying that fails: the exchange ends, the failure is counted and recorded (R470). A rollover leaves the current key. -/
def State.keyingFails (s : State) (i : Nat) (retry : Bool) : State :=
  (((s.modLnk i fun l => { l with exch := none, keys := if l.st = .quarantine then .none else .keyed,
                                  keyFails := satAdd 255 l.keyFails 1, retryKey := retry }).ledger 0x0802 (srcOf3 4 4 i) i 0 0)).requar i

/-- ABORT sent, and the keying failed. -/
def State.abortKeying (s : State) (i xid : Nat) (retry : Bool) : State := (s.rekeyOut i 7 xid [] 0).keyingFails i retry

/-- A failed chain or signature: ABORT, and the link security alarm with SEC_HOLD (R258, R470). -/
def State.keyingAlarm (s : State) (i xid : Nat) : State :=
  (((s.abortKeying i xid false).secAlarm 6).modLnk i fun l => { l with secHold := true }).requar i

/-- INIT answered: the responder's side begins, and RESP is sent. A rollover's new key is pending from here (R472). -/
def State.answerInit (s : State) (i xid : Nat) (init : List Byte) : State :=
  let l := s.lnk i
  let roll := l.st != .quarantine
  let e := Config.free s.freeCtr % 2 ^ 512
  let r := respBytes e (Config.free (s.freeCtr + 1)) init
  let ks := agreedKeys r.2 (s.transcript i false init r.1) roll false
  let x : Exchange := ⟨xid, false, roll, [1], [], [], e, init, r.1, some ks⟩
  let l1 := { l with exch := some x, keys := if roll then .rolling else .keying, retryKey := false }
  let s1 := ((s.drbg 1).draw.draw).setLnk i (if roll then l1.holdPending ks else { l1 with pending := none })
  (s1.ackRekey i xid 1).sendRekey i 2 xid r.1 0

/-- REKEY_INIT (R469, R471): where both ends have begun, the INIT of the end with the lower SERIAL proceeds. -/
def execRekeyInit (i : LinkId) (m : RekeyMsg) (cctrs macs : List Nat) (s : State) : Out :=
  .next (s.rekeyWord i (rekeyWords 1 m.xid m.data 0) cctrs macs fun s =>
    let l := s.lnk i
    match l.hello with
    | none => s
    | some h =>
      let lower := decide (Config.serial.toNat < h.serial)
      match l.exch with
      | some x =>
        if x.xid = m.xid ∧ x.received.contains 1 then s.ackRekey i m.xid 1
        else if lower ∧ (x.initiator ∨ l.st = .quarantine) then s
        else s.answerInit i m.xid m.data
      | none => if lower ∧ l.st = .quarantine then s else s.answerInit i m.xid m.data)

/-- RESP taken by the initiator: the keys of the exchange are agreed (R469, R471). -/
def State.takeResp (s : State) (i : Nat) (x : Exchange) (resp : List Byte) : State × Exchange :=
  let ks := agreedKeys (respSecret x.eph resp) (s.transcript i true x.initMsg resp) x.rollover true
  (s.modExch i fun y => { y with respMsg := resp, keys := some ks }, { x with respMsg := resp, keys := some ks })

/-- CERT of this end: both chains without the root (R469). -/
def State.linkCert (s : State) : List Byte := Config.linkCerts s.cus.dbg.testRoot s.aliasBody

/-- REKEY_RESP (R469, R471): the initiator goes on with CERT, or on a rollover with SWITCH. -/
def execRekeyResp (i : LinkId) (m : RekeyMsg) (cctrs macs : List Nat) (s : State) : Out :=
  .next (s.rekeyWord i (rekeyWords 2 m.xid m.data 0) cctrs macs fun s =>
    s.takeRekey i m.xid 2 (fun x => x.initiator) fun x s =>
      let r := s.takeResp i x m.data
      if x.rollover then
        (match r.2.keys with
          | some ks => r.1.modLnk i fun l => l.holdPending ks
          | none => r.1).sendSwitch i r.2
      else r.1.sendRekey i 3 m.xid r.1.linkCert 0)

/-- SIGN of this end: the hybrid Alias signature over the transcript hash (R469). -/
def State.signBytes (s : State) (i : Nat) (x : Exchange) : List Byte :=
  let hash := s.transcript i x.initiator x.initMsg x.respMsg
  fit 96 (s.aliasSign 0 s.freeCtr hash) ++ fit 4627 (s.aliasSign 1 (s.freeCtr + 1) hash)

/-- REKEY_CERT (R470): `chains` says that both chains verify, `debug` that the partner's debug state is this end's. -/
def execRekeyCert (i : LinkId) (m : RekeyMsg) (chains debug : Bool) (cctrs macs : List Nat) (s : State) : Out :=
  .next (s.rekeyWord i (rekeyWords 3 m.xid m.data 0) cctrs macs fun s =>
    s.takeRekey i m.xid 3 (fun x => !x.rollover && x.received.contains (if x.initiator then 2 else 1)) fun x s =>
      if !chains then s.keyingAlarm i m.xid
      else if !debug then s.abortKeying i m.xid true
      else
        let s1 := if x.hasSent 3 then s else s.sendRekey i 3 m.xid s.linkCert 0
        ((s1.drbg 1).draw.draw).sendRekey i 4 m.xid (s1.signBytes i x) 0)

/-- REKEY_SIGN (R470): `ok` says that both halves verify and the certificate names the SERIAL of the hellos. -/
def execRekeySign (i : LinkId) (m : RekeyMsg) (ok : Bool) (cctrs macs : List Nat) (s : State) : Out :=
  .next (s.rekeyWord i (rekeyWords 4 m.xid m.data 0) cctrs macs fun s =>
    s.takeRekey i m.xid 4 (fun x => !x.rollover && x.received.contains 3) fun x s =>
      if ok then s.sendSwitch i x else s.keyingAlarm i m.xid)

/-- REKEY_ACK (R468): the named message is sent no more. A rollover's responder switches once its RESP is acknowledged. -/
def execRekeyAck (i : LinkId) (xid : Fin 256) (msg : Fin 8) (cctr : Fin (2 ^ 48)) (mac : W64) (s : State) : Out :=
  .next (s.rekeyWord i (rekeyWords 5 xid [] msg) [cctr] [mac.toNat] fun s =>
    match (s.lnk i).exch with
    | none => s
    | some x =>
      if x.xid ≠ xid.val ∨ !x.hasSent msg ∨ x.acked.contains msg.val then s
      else
        let s1 := s.modExch i fun y => { y with acked := y.acked ++ [msg.val] }
        let s2 := if x.rollover ∧ !x.initiator ∧ msg.val = 2 then s1.sendSwitch i x else s1
        s2.keyingDone i)

/-- REKEY_SWITCH (R469, R472): in full keying its epoch is 0, in a rollover the next one. -/
def execRekeySwitch (i : LinkId) (xid : Fin 256) (epoch : W32) (cctr : Fin (2 ^ 48)) (mac : W64) (s : State) : Out :=
  .next (s.rekeyWord i (rekeyWords 6 xid [] epoch.toNat) [cctr] [mac.toNat] fun s =>
    let l := s.lnk i
    (s.takeRekey i xid 6
      (fun x =>
        if x.rollover then (x.received.contains 1 || x.received.contains 2)
          && epoch.toNat == (if l.pending.isNone then l.rxEpoch else l.rxEpoch + 1)
        else x.received.contains 4 && epoch.toNat == 0)
      fun _ s => s).keyingDone i)

/-- REKEY_ABORT (R470): the exchange ends at this end too, and is retried. -/
def execRekeyAbort (i : LinkId) (xid : Fin 256) (cctr : Fin (2 ^ 48)) (mac : W64) (s : State) : Out :=
  .next (s.rekeyWord i (rekeyWords 7 xid [] 0) [cctr] [mac.toNat] fun s =>
    match (s.lnk i).exch with
    | some x => if x.xid = xid.val then s.keyingFails i true else s
    | none => s)

/-- Messages sent again. A SWITCH names the epoch in force for sending. -/
def State.resendRekey (s : State) (i xid : Nat) : List (Nat × List Byte) → State
  | [] => s
  | m :: ms => (s.rekeyOut i m.1 xid m.2 (if m.1 = 6 then (s.lnk i).keyEpoch else 0)).resendRekey i xid ms

/-- REKEY_RESEND (R468): every message without an ACK is sent again. -/
def execRekeyResend (i : LinkId) (s : State) : Out :=
  .next (match (s.lnk i).exch with
    | some x => s.resendRekey i x.xid (x.sent.filter fun m => !x.acked.contains m.1)
    | none => s)

/-- REKEY_TIMEOUT (R470, R471). -/
def execRekeyTimeout (i : LinkId) (s : State) : Out :=
  .next (match (s.lnk i).exch with
    | some x => s.abortKeying i x.xid true
    | none => s)

/-- A rollover begun (R471). -/
def State.rollover (s : State) (i : Nat) : State :=
  let l := s.lnk i
  if l.carries ∧ l.exch.isNone ∧ s.drbgUp then s.beginExch i true else s

/-- A transmit counter has reached 2^47 (R471). -/
def Link.rollDue (l : Link) : Bool := decide (l.txCtr ≥ 2 ^ 47) || decide (l.txCctr ≥ 2 ^ 47)

/-- KEYING_RETRY (R470, R471). -/
def execKeyingRetry (i : LinkId) (s : State) : Out :=
  .next (
    let l := s.lnk i
    if !l.retryKey then s
    else if l.st = .quarantine then s.startKeying i
    else if l.rollDue then s.rollover i
    else s.setLnk i { l with retryKey := false })

/-- ROLLOVER_START (R471). -/
def execRolloverStart (i : LinkId) (s : State) : Out := .next (if (s.lnk i).rollDue then s.rollover i else s)

/-- COUNTER_STOP (R473): the link goes to QUARANTINE with cause REKEY, and full keying runs. -/
def execCounterStop (i : LinkId) (s : State) : Out :=
  .next (
    let l := s.lnk i
    if l.carries ∧ (l.txCtr ≥ ctrLimit ∨ l.txCctr ≥ ctrLimit) then
      let s1 := ((s.ledger 0x0803 (srcOf3 4 4 i) i 0 0).linkTo i .quarantine 0x15).modLnk i fun l => { l with keys := .stopped }
      s1.startKeying i
    else s)

end Sys2Proof.Machine
end

