-- ==== Sys2Proof/Machine/Spdm.lean ====
section
/-! DEFINITION. Attestation over SPDM: connections, sessions, signatures, measurements, the Provenance report (spec/17: R475 to
R478, R480). Message codes are those of the SPDM standard (PRESUMED, log 37). -/
namespace Sys2Proof.Machine

/-! Connections and sessions -/

def State.conn (s : State) (c : Nat) : Spdm := tblGet (fun _ => Spdm.reset) s.spdm c
def State.modConn (s : State) (c : Nat) (f : Spdm → Spdm) : State :=
  { s with spdm := tblSet (fun _ => Spdm.reset) s.spdm c (f (s.conn c)) }

/-- Image type `t` (1 Custodian, 2 management, 3 link microcode). -/
def State.fwType (s : State) (t : Nat) : FwType := tblGet (fun _ => FwType.reset) s.fw.types t

/-- The responder answers on a transport: DOE on PF0, or MCTP (R475). -/
def State.spdmOn (s : State) (c : Nat) : Bool :=
  s.boot.run && s.cus.ready && !s.boot.recovery && (if c = 0 then s.hostOn 0 else s.mctpOn 0 || s.mctpOn 1)

/-- A response. -/
def State.spdmReply (s : State) (c code : Nat) (bs : List Byte) : State := s.emit (.spdm c code bs)

/-- An ERROR response with its code (PRESUMED, log 37). -/
def State.spdmError (s : State) (c code : Nat) : State := s.emit (.spdm c 0x7F [BitVec.ofNat 8 code])

/-- A request that needs the connection set up to stage `n`; otherwise ERROR UnexpectedRequest. -/
def State.spdmAt (s : State) (c n : Nat) (f : State → State) : State :=
  if !s.spdmOn c then s else if (s.conn c).stage < n then s.spdmError c 4 else f s

/-- A request that needs the DRBG: it is served while the DRBG is ready, fails in FAILED, and waits otherwise: its command stands
for the moment of service (R434, R454; log 41). -/
def State.spdmDrbg (s : State) (c : Nat) (f : State → State) : State :=
  if s.drbgUp then f s else if s.cus.es = .failed then s.spdmError c 5 else s

/-- A session of a transport. -/
def State.session (s : State) (c id : Nat) : Option Session := s.sessions.find? fun x => x.id == id && x.conn == c
def State.modSession (s : State) (id : Nat) (f : Session → Session) : State :=
  { s with sessions := s.sessions.map fun x => if x.id = id then f x else x }

/-- The consents that a session contributed to pending SEALs lapse (R479). -/
def lapse (id : Nat) (l : List SealReq) : List SealReq :=
  (l.map fun (r : SealReq) => if r.done then r else { r with matched := r.matched.filter fun m => m.2 != id }).filter
    fun r => r.done || !r.matched.isEmpty

/-- A tenant session ends: its keys go, its pending SEAL requests lapse (R448, R479). -/
def State.closeTenant (s : State) (id : Nat) : State :=
  let s1 := s.modSession id fun x => { x with tenant := none }
  { s1 with seals := (s1.seals.map fun e => (e.1, lapse id e.2)).filter fun e => !e.2.isEmpty }

/-- An SPDM session ends, with its tenant session (R475, R479). -/
def State.endSession (s : State) (id : Nat) : State :=
  let s1 := s.closeTenant id
  { s1 with sessions := s1.sessions.filter fun x => x.id != id }

/-- A signed response: the ECDSA half is sent, the bytes stay for GET_PQ_SIG (R476). -/
def State.spdmSigned (s : State) (c code : Nat) (data : List Byte) : State :=
  let s1 := ((s.drbg 1).draw.modConn c fun k => { k with signed := some data })
  s1.spdmReply c code (data ++ s.aliasSign 0 s.freeCtr data)

/-- The ECDSA chain of slot 0 (R475). -/
def State.spdmChain (s : State) : List Byte := s.certChain 1

/-! Requests (R475, Table 3) -/

/-- GET_VERSION: the connection starts anew. -/
def execGetVersion (c : Fin 2) (s : State) : Out :=
  .next (if s.spdmOn c then (s.modConn c fun _ => { Spdm.reset with stage := 1 }).spdmReply c 0x04 (Config.standardReply 0x04) else s)

/-- GET_CAPABILITIES. -/
def execGetCapabilities (c : Fin 2) (s : State) : Out :=
  .next (s.spdmAt c 1 fun s =>
    (s.modConn c fun k => { k with stage := max 2 k.stage }).spdmReply c 0x61 (Config.standardReply 0x61))

/-- NEGOTIATE_ALGORITHMS: `common` says that the requester offers the algorithms of Table 3. -/
def execNegotiateAlgorithms (c : Fin 2) (common : Bool) (s : State) : Out :=
  .next (s.spdmAt c 2 fun s =>
    if common then (s.modConn c fun k => { k with stage := 3 }).spdmReply c 0x63 (Config.standardReply 0x63) else s.spdmError c 1)

/-- GET_DIGESTS: SHA-384 of the chain of slot 0; it waits for the certificates (R434, R455). -/
def execGetDigests (c : Fin 2) (s : State) : Out :=
  .next (s.spdmAt c 3 fun s =>
    if s.cus.certs then s.spdmReply c 0x01 (toBytes 1 1 ++ toBytes 48 (Config.sha384 s.spdmChain).toNat)
    else s.spdmDrbg c fun s => s)

/-- GET_CERTIFICATE of slot 0. -/
def execGetCertificate (c : Fin 2) (slot : Fin 8) (off len : Fin 65536) (s : State) : Out :=
  .next (s.spdmAt c 3 fun s =>
    if slot.val ≠ 0 ∨ off.val > s.spdmChain.length then s.spdmError c 1
    else if s.cus.certs then s.spdmReply c 0x02 ((s.spdmChain.drop off).take len)
    else s.spdmDrbg c fun s => s)

/-- CHALLENGE with a nonce. -/
def execChallenge (c : Fin 2) (nonce : Fin (2 ^ 256)) (s : State) : Out :=
  .next (s.spdmAt c 3 fun s => s.spdmDrbg c fun s =>
    s.spdmSigned c 0x03 (toBytes 32 nonce ++ toBytes 48 (Config.sha384 s.spdmChain).toNat ++ toBytes 32 (Config.free s.freeCtr)))

/-- Tamper coverage code (R477, R478). -/
def Coverage.code : Coverage → Nat
  | .full => 0 | .mains => 1 | .lapsed => 2

/-- ID_REVISION (R1). -/
def idRevision : Nat := 2 * 2 ^ 28 + Config.stepMinor.val * 2 ^ 24 + (3 + Config.moduleRev.val) * 2 ^ 16 + 0x0301

/-- Measurement `k` (R475, Table 3). -/
def State.measurement (s : State) : Nat → List Byte
  | 1 => toBytes 48 Config.romDigest.toNat
  | 2 => toBytes 48 (s.fwType 1).run.digest ++ toBytes 4 (s.fwType 1).run.arb
  | 3 => toBytes 48 (s.fwType 2).run.digest ++ toBytes 4 (s.fwType 2).run.arb
  | 4 => toBytes 48 (s.fwType 3).run.digest
  | _ => toBytes 4 idRevision ++ toBytes 1 s.cus.dbg.code ++ toBytes 1 s.panel.cov.code

/-- GET_MEASUREMENTS: 0 their number, 1 to 5 one, 0xFF all, signed or not. -/
def execGetMeasurements (c : Fin 2) (k : Fin 256) (sign : Bool) (s : State) : Out :=
  .next (s.spdmAt c 3 fun s =>
    if k.val > 5 ∧ k.val ≠ 0xFF then s.spdmError c 1
    else
      let bs : List Byte := if k.val = 0 then [5] else if k.val = 0xFF then ([1, 2, 3, 4, 5] : List Nat).flatMap s.measurement else s.measurement k
      if sign then s.spdmDrbg c fun s => s.spdmSigned c 0x60 bs else s.spdmReply c 0x60 bs)

/-- The lowest session number not in use (DESIGN CHOICE, log 41). -/
def State.freeSession (s : State) : Nat :=
  ((List.range 33).find? fun i => s.sessions.all fun x => x.id != i).getD 0

/-- What KEY_EXCHANGE agrees (R476, R479): the ciphertext for the requester's encapsulation key, and the ML-KEM shared secret with
the Export Master Secret. The command carries neither the requester's key nor the transcript, so that both are free (log 41). -/
def State.keyAgreed (s : State) : List Byte × List Byte :=
  let e := Config.mlkemEncaps (toBytes 1568 (Config.free (s.freeCtr + 1))) (Config.free (s.freeCtr + 2))
  (fit 1568 e.1, e.2 ++ toBytes 48 (Config.free (s.freeCtr + 3)))

/-- KEY_EXCHANGE: at most 32 sessions; `hybrid` says that element 0x02 came with it, and the response then carries the ciphertext as
element 0x03 (R476). -/
def execKeyExchange (c : Fin 2) (hybrid : Bool) (s : State) : Out :=
  .next (s.spdmAt c 3 fun s =>
    if s.sessions.length ≥ 32 then s.spdmError c 0x0A
    else s.spdmDrbg c fun s =>
      let id := s.freeSession
      let s1 : State := { s.draw.draw.draw with sessions := s.sessions ++ [⟨id, c, false, hybrid, 0, none, s.keyAgreed.2⟩] }
      s1.spdmSigned c 0x64 (toBytes 4 id ++ toBytes 32 (Config.free s.freeCtr)
        ++ (if hybrid then toBytes 1 3 ++ s.keyAgreed.1 else [])))

/-- FINISH: `ok` says that its MAC verifies. A failure ends the session. -/
def execFinish (c : Fin 2) (id : Fin 65536) (ok : Bool) (s : State) : Out :=
  .next (s.spdmAt c 3 fun s =>
    match s.session c id with
    | none => s.spdmError c 4
    | some x =>
      if x.up then s.spdmError c 4
      else if ok then (s.modSession id fun x => { x with up := true }).spdmReply c 0x65 []
      else (s.endSession id).spdmError c 6)

/-- A request inside an established session; elsewhere ERROR InvalidSession. -/
def State.inSession (s : State) (c id : Nat) (f : State → State) : State :=
  s.spdmAt c 3 fun s =>
    match s.session c id with
    | some x => if x.up then f s else s.spdmError c 2
    | none => s.spdmError c 2

/-- HEARTBEAT: the session lives on. -/
def execHeartbeat (c : Fin 2) (id : Fin 65536) (s : State) : Out :=
  .next (s.inSession c id fun s => s.spdmReply c 0x68 [])

/-- HEARTBEAT_MISSED: the session ends. -/
def execHeartbeatMissed (id : Fin 65536) (s : State) : Out := .next (s.endSession id)

/-- KEY_UPDATE: the session's keys are renewed. -/
def execKeyUpdate (c : Fin 2) (id : Fin 65536) (s : State) : Out :=
  .next (s.inSession c id fun s => (s.modSession id fun x => { x with gen := x.gen + 1 }).spdmReply c 0x69 [])

/-- END_SESSION. -/
def execEndSession (c : Fin 2) (id : Fin 65536) (s : State) : Out :=
  .next (s.inSession c id fun s => (s.endSession id).spdmReply c 0x6C [])

/-- CHUNK_SEND: one chunk of a large request; after the last the request is whole and comes as its own command (log 37). -/
def execChunkSend (c : Fin 2) (last : Bool) (bytes : List Byte) (s : State) : Out :=
  .next (s.spdmAt c 2 fun s =>
    (s.modConn c fun k => { k with inBytes := if last then [] else k.inBytes ++ bytes }).spdmReply c 0x85 [])

/-- CHUNK_GET: the next `n` bytes of the large response. -/
def execChunkGet (c : Fin 2) (n : Fin 65536) (s : State) : Out :=
  .next (s.spdmAt c 2 fun s =>
    let bs := (s.conn c).outBytes
    if bs.isEmpty then s.spdmError c 4
    else (s.modConn c fun k => { k with outBytes := bs.drop n }).spdmReply c 0x86 (bs.take n))

/-! Vendor requests (R480) -/

/-- A response to a vendor request; a large one can be fetched in chunks too (log 37). -/
def State.vendReply (s : State) (c code status : Nat) (bs : List Byte) : State :=
  let r : List Byte := toBytes 1 (code + 0x80) ++ toBytes 1 status ++ bs
  (s.modConn c fun k => { k with outBytes := r }).spdmReply c 0x7E r

/-- GET_ML_CHAIN. -/
def execGetMlChain (c : Fin 2) (off : W32) (len : Fin 65536) (s : State) : Out :=
  .next (s.spdmAt c 3 fun s =>
    let chain := s.certChain 0
    if !s.cus.certs then s.vendReply c 1 9 []
    else if off.toNat > chain.length then s.vendReply c 1 0x0B []
    else s.vendReply c 1 0 ((chain.drop off.toNat).take len))

/-- The Provenance report without its signatures (R477, Table 4). -/
def State.provenance (s : State) (p : Option Nat) (nonce : Nat) : List Byte :=
  let q : Part := match p with
    | some p => s.part p
    | none => Part.reset
  let run := match p with
    | some p => (s.inst (p + 1)).tdi == .run
    | none => false
  let ims : List (Nat × Image) := (List.range 64).filterMap fun i => (tblGet (fun _ => none) q.images i).map fun im => (i, im)
  toBytes 4 0x564F5250 ++ toBytes 1 1 ++ toBytes 1 s.cus.dbg.code ++ toBytes 1 s.panel.cov.code
    ++ toBytes 1 (b2n s.cus.dbg.testRoot + 2 * b2n s.timeValid + 4 * b2n (bitAt q.flags 1) + 8 * b2n run + 16 * b2n s.pcie.ide)
    ++ toBytes 8 Config.serial.toNat ++ toBytes 4 idRevision ++ toBytes 2 (s.reg bFAB) ++ toBytes 1 (p.getD 0) ++ toBytes 1 q.role
    ++ toBytes 4 q.comp ++ toBytes 4 ims.length ++ toBytes 8 q.epoch ++ toBytes 8 s.now ++ toBytes 32 nonce
    ++ (if p.isSome then catHash q.catalogue else toBytes 48 0)
    ++ toBytes 48 Config.romDigest.toNat ++ toBytes 48 (s.fwType 1).run.digest ++ toBytes 48 (s.fwType 2).run.digest
    ++ toBytes 48 (s.fwType 3).run.digest ++ toBytes 4 (s.fwType 1).run.arb ++ toBytes 4 (s.fwType 2).run.arb ++ toBytes 8 0
    ++ ims.flatMap fun e => toBytes 1 e.1 ++ toBytes 3 0 ++ toBytes 48 (Config.sha384 e.2.raw).toNat

/-- GET_PROVENANCE (R477): both signatures are over the bytes before the first. -/
def execGetProvenance (c : Fin 2) (comp : W32) (nonce : Fin (2 ^ 256)) (s : State) : Out :=
  .next (s.spdmAt c 3 fun s =>
    let p := if comp.toNat = 0 then none else s.partOf comp.toNat
    if comp.toNat ≠ 0 ∧ p.isNone then s.vendReply c 2 2 []
    else if !s.drbgUp then s.vendReply c 2 9 []
    else
      let bs := s.provenance p nonce
      (s.drbg 2).draw.draw.vendReply c 2 0 (bs ++ s.aliasSign 0 s.freeCtr bs ++ s.aliasSign 1 (s.freeCtr + 1) bs))

/-- GET_PQ_SIG (R476): the ML-DSA-87 signature of the last signed response; without one RANGE (log 37). -/
def execGetPqSig (c : Fin 2) (s : State) : Out :=
  .next (s.spdmAt c 3 fun s =>
    match (s.conn c).signed with
    | none => s.vendReply c 3 0x0B []
    | some bs =>
      if !s.drbgUp then s.vendReply c 3 9 [] else (s.drbg 1).draw.vendReply c 3 0 (s.aliasSign 1 s.freeCtr bs))

end Sys2Proof.Machine
end

