-- ==== Sys2Proof/Machine/Tenant.lean ====
section
/-! DEFINITION. Tenant sessions and sealed data, and the TDISP interface of the VFs (spec/17: R479 to R487). -/
namespace Sys2Proof.Machine

/-- A vendor request inside a tenant session; elsewhere NO_TENANT (R480). -/
def State.inTenant (s : State) (c id code : Nat) (f : Session → Tenant → State → State) : State :=
  s.spdmAt c 3 fun s =>
    match s.session c id with
    | none => s.vendReply c code 0x0A []
    | some x =>
      match x.tenant with
      | some t => if x.up then f x t s else s.vendReply c code 0x0A []
      | none => s.vendReply c code 0x0A []

/-- A key register of a tenant session (R481). -/
def Tenant.key (t : Tenant) (h : Nat) : Option Nat := tblGet (fun _ => none) t.keys h

/-- A key register of a session's tenant set. -/
def State.setTenantKey (s : State) (id h : Nat) (k : Option Nat) : State :=
  s.modSession id fun x => { x with tenant := x.tenant.map fun t => { t with keys := tblSet (fun _ => none) t.keys h k } }

/-- The tenant session key (R479): the composition ID and the session ID are taken as 4 bytes each (DEDUCED log 41). -/
def Session.tsk (x : Session) (comp : Nat) : Nat :=
  Config.kdf x.secret (ascii "TENANT") (toBytes 4 comp ++ toBytes 4 x.id) 256 % 2 ^ 256

/-- OPEN_TENANT (R479): at most 16 tenant sessions, one in an SPDM session. -/
def execOpenTenant (c : Fin 2) (id : Fin 65536) (comp : W32) (s : State) : Out :=
  .next (s.spdmAt c 3 fun s =>
    match s.session c id with
    | none => s.vendReply c 4 4 []
    | some x =>
      if !x.up ∨ !x.hybrid then s.vendReply c 4 4 []
      else match s.partOf comp.toNat with
        | none => s.vendReply c 4 2 []
        | some p =>
          let q := s.part p
          if !flagConf q.flags ∨ q.st ≠ .sealed then s.vendReply c 4 3 []
          else if x.tenant.isSome ∨ (s.sessions.filter fun y => y.tenant.isSome).length ≥ 16 then s.vendReply c 4 5 []
          else (s.modSession id fun y => { y with tenant := some ⟨p, x.tsk comp.toNat, []⟩ }).vendReply c 4 0 [])

/-- DELIVER_KEY (R481). -/
def execDeliverKey (c : Fin 2) (id : Fin 65536) (h : Fin 256) (wrapped : List Byte) (s : State) : Out :=
  .next (s.inTenant c id 5 fun _ t s =>
    if h.val > 3 ∨ wrapped.length ≠ 40 then s.vendReply c 5 0x0B []
    else match Config.keyUnwrap t.tsk wrapped with
      | none => s.vendReply c 5 6 []
      | some k => (s.setTenantKey id h (some k)).vendReply c 5 0 (toBytes 48 (Config.sha384 (toBytes 32 k)).toNat))

/-- DROP_KEY. -/
def execDropKey (c : Fin 2) (id : Fin 65536) (h : Fin 256) (s : State) : Out :=
  .next (s.inTenant c id 6 fun _ t s =>
    if h.val > 3 then s.vendReply c 6 0x0B []
    else if (t.key h).isNone then s.vendReply c 6 6 []
    else (s.setTenantKey id h none).vendReply c 6 0 [])

/-- CLOSE_TENANT (R479). -/
def execCloseTenant (c : Fin 2) (id : Fin 65536) (s : State) : Out :=
  .next (s.inTenant c id 9 fun _ _ s => (s.closeTenant id).vendReply c 9 0 [])

/-! Sealed extents (R482) -/

/-- Bytes of the extent before its ciphertext. -/
def extHead (chunks : Nat) : Nat := ceilDiv (64 + 16 * chunks) 64 * 64
/-- Length of chunk `i`. -/
def chunkLen (chunks last i : Nat) : Nat := if i + 1 = chunks then last else 65536
/-- Bytes of an extent. -/
def extSize (chunks last : Nat) : Nat := extHead chunks + 65536 * (chunks - 1) + last
/-- CHUNKS and LAST_BYTES in range. -/
def extFits (chunks last : Nat) : Bool :=
  decide (1 ≤ chunks) && decide (chunks ≤ 2 ^ 24) && decide (16 ≤ last) && decide (last ≤ 65536) && last % 16 == 0

/-- Every 4 KiB of [va, va + 4096 n) translates with read and write rights. -/
def State.extentXlt (s : State) (p va : Nat) : Nat → State × Bool
  | 0 => (s, true)
  | n + 1 =>
    match s.translate cusPort p va false with
    | (s1, none) => (s1, false)
    | (s1, some _) =>
      match s1.translate cusPort p va true with
      | (s2, none) => (s2, false)
      | (s2, some _) => s2.extentXlt p ((va / 4096 + 1) * 4096) n

/-- The 4 KiB pages that `n` bytes from `va` touch. -/
def pagesOf (va n : Nat) : Nat := (va + n - 1) / 4096 + 1 - va / 4096

/-- A nonce of R482: the prefix, then the chunk number. -/
def chunkNonce (prefix_ : List Byte) (i : Nat) : Nat := ofBytes (prefix_ ++ toBytes 4 i)

/-- Bytes at a tenant address. -/
def State.cusRead (s : State) (p va n : Nat) : State × Nat × List Byte := s.readVa cusPort p va n (sectors n)
def State.cusWrite (s : State) (p va : Nat) (bs : List Byte) : State := (s.writeVa cusPort p va bs (sectors bs.length)).1

/-- Chunks decrypted from chunk `i` on; how many failed, and the first (R483). -/
def State.unsealChunks (s : State) (p va key : Nat) (hdr : List Byte) (chunks last i : Nat) : Nat → State × Nat × Option Nat
  | 0 => (s, 0, none)
  | n + 1 =>
    let at_ := va + extHead chunks + 65536 * i
    let len := chunkLen chunks last i
    let ct := s.cusRead p at_ len
    let tag := ct.1.cusRead p (va + 64 + 16 * i) 16
    let pt : Option (List Byte) :=
      if ct.2.1 = 0 ∧ tag.2.1 = 0 then
        gcmOpen key (chunkNonce ((hdr.drop 16).take 8) i) (hdr.take 32) ct.2.2 tag.2.2
      else none
    let s1 := tag.1.cusWrite p at_ (match pt with
      | some bs => bs
      | none => List.replicate len 0)
    let r := s1.unsealChunks p va key hdr chunks last (i + 1) n
    if pt.isSome then r else (r.1, r.2.1 + 1, some i)

/-- UNSEAL (R483): `hash` is the consent hash. -/
def execUnseal (c : Fin 2) (id : Fin 65536) (h : Fin 256) (va : W64) (hash : Fin (2 ^ 384)) (s : State) : Out :=
  .next (s.inTenant c id 7 fun _ t s =>
    if h.val > 3 then s.vendReply c 7 0x0B []
    else match t.key h with
      | none => s.vendReply c 7 6 []
      | some key =>
        let p := t.part
        let cs := (s.part p).consents
        if !cs.contains hash.val ∧ cs.length ≥ 64 then s.vendReply c 7 5 []
        else
          let a := va.toNat
          let x := s.extentXlt p a (pagesOf a 64)
          let r := x.1.cusRead p a 64
          if !x.2 ∨ r.2.1 ≠ 0 then r.1.vendReply c 7 8 []
          else
            let hdr := r.2.2
            let f := fun o n => ofBytes ((hdr.drop o).take n)
            let chunks := f 8 4
            let last := f 12 4
            if f 0 4 ≠ 0x4C414553 ∨ f 4 1 ≠ 1 ∨ f 5 3 ≠ 0 ∨ f 32 32 ≠ 0 ∨ !extFits chunks last then r.1.vendReply c 7 7 []
            else
              let y := r.1.extentXlt p a (pagesOf a (extSize chunks last))
              if !y.2 then y.1.vendReply c 7 7 []
              else
                let u := y.1.unsealChunks p a key hdr chunks last 0 chunks
                let s1 := (u.1.cusWrite p a (toBytes 4 0)).modPart p fun q =>
                  { q with consents := if q.consents.contains hash.val then q.consents else q.consents ++ [hash.val] }
                let s2 := s1.draw
                s2.vendReply c 7 0 (toBytes 4 u.2.1 ++ toBytes 4 (match u.2.2 with
                  | some i => i
                  | none => Config.free s1.freeCtr)))

/-- Chunks encrypted from chunk `i` on (R484). A chunk whose plaintext cannot be read is encrypted over free bytes (log 42). -/
def State.sealChunks (s : State) (p va key : Nat) (hdr : List Byte) (chunks last i : Nat) : Nat → State
  | 0 => s
  | n + 1 =>
    let at_ := va + extHead chunks + 65536 * i
    let len := chunkLen chunks last i
    let pt := s.cusRead p at_ len
    let bs : List Byte := if pt.2.1 = 0 then pt.2.2 else toBytes len (Config.free pt.1.freeCtr)
    let s1 := if pt.2.1 = 0 then pt.1 else pt.1.draw
    let e := gcmSeal key (chunkNonce ((hdr.drop 16).take 8) i) (hdr.take 32) bs
    ((s1.cusWrite p at_ e.1).cusWrite p (va + 64 + 16 * i) e.2).sealChunks p va key hdr chunks last (i + 1) n

/-- The extent sealed: header, ciphertext, tags (R484). -/
def State.performSeal (s : State) (p va key chunks last label : Nat) : State :=
  let hdr : List Byte := toBytes 4 0x4C414553 ++ toBytes 1 1 ++ toBytes 3 0 ++ toBytes 4 chunks ++ toBytes 4 last
    ++ toBytes 8 (Config.free s.freeCtr) ++ toBytes 8 label ++ toBytes 32 0
  (((s.drbg 1).draw).cusWrite p va hdr).sealChunks p va key hdr chunks last 0 chunks

/-- Requests for the same SEAL (R484). -/
def SealReq.same (a b : SealReq) : Bool :=
  a.extent == b.extent && a.chunks == b.chunks && a.last == b.last && a.label == b.label && a.digest == b.digest

/-- SEAL requests whose 60 s are over (R484). -/
def liveSeals (now : Nat) (l : List SealReq) : List SealReq := l.filter fun r => decide (now < r.since + 60000000000)

/-- SEAL (R484): performed once every consent hash recorded is matched by a secret; identical requests gather them for 60 s. -/
def execSeal (c : Fin 2) (id : Fin 65536) (h : Fin 256) (va : W64) (chunks last : W32) (label : W64) (secrets : List (List Byte)) (s : State) :
    Out :=
  .next (s.inTenant c id 8 fun _ t s =>
    if h.val > 3 ∨ secrets.length > 8 ∨ (secrets.any fun b => b.length != 32) then s.vendReply c 8 0x0B []
    else match t.key h with
      | none => s.vendReply c 8 6 []
      | some key =>
        let p := t.part
        if !extFits chunks.toNat last.toNat then s.vendReply c 8 7 []
        else if !s.drbgUp then s.vendReply c 8 9 []
        else
          let x := s.extentXlt p va.toNat (pagesOf va.toNat (extSize chunks.toNat last.toNat))
          if !x.2 then x.1.vendReply c 8 8 []
          else
            let s1 := x.1
            let recorded := (s1.part p).consents
            let given : List (Nat × Nat) :=
              (secrets.map fun b => ((Config.sha384 b).toNat, id.val)).filter fun m => recorded.contains m.1
            let digest := (Config.sha384 (toBytes 32 key)).toNat
            let fresh : SealReq := ⟨va.toNat, chunks.toNat, last.toNat, label.toNat, digest, given, s1.now, false⟩
            let all : List SealReq := liveSeals s1.now (tblGet (fun _ => []) s1.seals p)
            let old := all.find? fun r => r.same fresh
            let rest := all.filter fun r => !r.same fresh
            let req : SealReq := match old with
              | some r => { r with matched := r.matched ++ given }
              | none => fresh
            let put := fun (s : State) (r : SealReq) => { s with seals := tblSet (fun _ => []) s.seals p (rest ++ [r]) }
            if req.done then s1.vendReply c 8 0 []
            else if recorded.all fun m => req.matched.any fun y => y.1 == m then
              (put (s1.performSeal p va.toNat key chunks.toNat last.toNat label.toNat) { req with done := true, since := s1.now }).vendReply c 8 0 []
            else (put s1 req).vendReply c 8 1 [])

/-- SEAL_CONSENT_EXPIRY (R484): what has been gathered for 60 s lapses. -/
def execSealConsentExpiry (p : PartId) (s : State) : Out :=
  .next { s with seals := tblSet (fun _ => []) s.seals p (liveSeals s.now (tblGet (fun _ => []) s.seals p)) }

/-! TDISP (R486). Message and error codes are those of the PCIe standard (PRESUMED, log 37). -/

/-- State code of a TDI (PRESUMED, log 37). -/
def TdiSt.code : TdiSt → Nat
  | .unlocked => 0 | .locked => 1 | .run => 2 | .error => 3

/-- A TDISP response. -/
def State.tdispReply (s : State) (v code : Nat) (bs : List Byte) : State := s.emit (.tdisp v code bs)
/-- A TDISP error. -/
def State.tdispError (s : State) (v code : Nat) : State := s.emit (.tdisp v 0x7F (toBytes 4 code))

/-- A request of a secured session over DOE that names a VF's TDI. -/
def State.tdispReq (s : State) (id v : Nat) (f : State → State) : State :=
  match s.session 0 id with
  | none => s
  | some x =>
    if !s.spdmOn 0 ∨ !x.up then s
    else if v = 0 ∨ v > s.pcie.vfs then s.tdispError v 0x101
    else f s

/-- GET_TDISP_VERSION. -/
def execGetTdispVersion (id : Fin 65536) (v : FnId) (s : State) : Out :=
  .next (s.tdispReq id v fun s => s.tdispReply v 1 (Config.standardReply 0x101))

/-- GET_TDISP_CAPABILITIES. -/
def execGetTdispCapabilities (id : Fin 65536) (v : FnId) (s : State) : Out :=
  .next (s.tdispReq id v fun s => s.tdispReply v 2 (Config.standardReply 0x102))

/-- LOCK_INTERFACE_REQUEST: the instance is READY, its partition SEALED in a confidential composition, its IDE stream keyed. -/
def execLockInterfaceRequest (id : Fin 65536) (v : FnId) (s : State) : Out :=
  .next (s.tdispReq id v fun s =>
    let i := s.inst v
    let q := s.part (v - 1)
    if i.tdi ≠ .unlocked ∨ i.st ≠ .ready ∨ q.st ≠ .sealed ∨ !flagConf q.flags ∨ !s.pcie.ide then s.tdispError v 4
    else if !s.drbgUp then s.tdispError v 0x103
    else
      let n := Config.free s.freeCtr % 2 ^ 256
      ((s.drbg 1).draw.setInst v { i with tdi := .locked, nonce := n }).tdispReply v 3 (toBytes 32 n))

/-- GET_DEVICE_INTERFACE_REPORT: its device-specific data is the partition, the composition, the epoch, the catalogue hash. -/
def execGetDeviceInterfaceReport (id : Fin 65536) (v : FnId) (s : State) : Out :=
  .next (s.tdispReq id v fun s =>
    let q := s.part (v - 1)
    if (s.inst v).tdi = .locked ∨ (s.inst v).tdi = .run then
      s.tdispReply v 4 (Config.standardReply 0x104 ++ toBytes 1 (v - 1) ++ toBytes 4 q.comp ++ toBytes 8 q.epoch ++ catHash q.catalogue)
    else s.tdispError v 4)

/-- GET_DEVICE_INTERFACE_STATE. -/
def execGetDeviceInterfaceState (id : Fin 65536) (v : FnId) (s : State) : Out :=
  .next (s.tdispReq id v fun s => s.tdispReply v 5 (toBytes 1 (s.inst v).tdi.code))

/-- The waiting completions of a function's rings written where they can be (R487). -/
def State.cqGoAll (s : State) (fn : Nat) : List Nat → State
  | [] => s
  | r :: rs => (s.cqGo fn r).cqGoAll fn rs

/-- START_INTERFACE_REQUEST with the nonce of LOCK: RUN, and what waited for it is sent (R487). -/
def execStartInterfaceRequest (id : Fin 65536) (v : FnId) (nonce : Fin (2 ^ 256)) (s : State) : Out :=
  .next (s.tdispReq id v fun s =>
    let i := s.inst v
    if i.tdi ≠ .locked then s.tdispError v 4
    else if i.nonce ≠ nonce.val then s.tdispError v 0x102
    else ((s.setInst v { i with tdi := .run, nonce := 0 }).cqGoAll v (List.range 16)).tdispReply v 6 [])

/-- STOP_INTERFACE_REQUEST: the TDI is UNLOCKED again. -/
def execStopInterfaceRequest (id : Fin 65536) (v : FnId) (s : State) : Out :=
  .next (s.tdispReq id v fun s => (s.tdiOut v fun s => s.tdiTo v .unlocked).tdispReply v 7 [])

end Sys2Proof.Machine
end

