-- ==== Sys2Proof/Machine/Firmware.lean ====
section
/-! DEFINITION. Firmware images: headers, landing, activation, cancelling (spec/20: R537 to R551, R555, R558 to R560). -/
namespace Sys2Proof.Machine

def State.setFwType (s : State) (t : Nat) (x : FwType) : State :=
  { s with fw := { s.fw with types := tblSet (fun _ => FwType.reset) s.fw.types t x } }
def State.modFwType (s : State) (t : Nat) (f : FwType → FwType) : State := s.setFwType t (f (s.fwType t))

/-- A record of class 0x0C about an image (R560). -/
def State.fwRecord (s : State) (event t code : Nat) (h : FwHdr) : State :=
  s.ledgerFull (0x0C00 + event) (srcOf3 0xFF 0 0) 0 t code 0 (h.version * 2 ^ 32 + h.arb)

/-! Headers (R539, R542) -/

/-- Bytes [a, b) are zero. -/
def zeroIn (bs : List Byte) (a b : Nat) : Bool := ((bs.drop a).take (b - a)).all (· == 0)

/-- A header as parsed (R539, Table 3). `clean`: MAGIC, HDR_FORMAT and every reserved field are right. -/
def FwHdr.parse (bs : List Byte) : FwHdr :=
  let type := imgField bs 5 1
  { type := type, keyId := imgField bs 6 1, revoke := imgField bs 7 1, version := imgField bs 8 4, arb := imgField bs 0xC 4,
    idMatch := imgField bs 0x10 4, idMask := imgField bs 0x14 4, payload := imgField bs 0x18 4, sfr := imgField bs 0x1C 1,
    digest := imgField bs 0x40 48, serial := imgField bs 0x70 8,
    clean := imgField bs 0 4 == 0x57464C53 && imgField bs 4 1 == 1 && zeroIn bs 0x1D 0x20 && zeroIn bs 0x2C 0x30 && zeroIn bs 0x78 0x100
      && zeroIn bs 0x1373 0x2000 && (type == 1 || imgField bs 7 1 == 0) && (type == 2 || imgField bs 0x1C 1 == 0) }

/-- Most payload bytes of a type (R538, R539). -/
def maxPayload (t : Nat) : Nat := (if t = 1 then 4 else if t = 2 then 64 else 8) * 2 ^ 20 - 8192

/-- The checks of R542 in their order; 0 where all pass. `sig` says that both halves of the signature verify; a KEY_ID above
3 names no key. -/
def State.headerStatus (s : State) (t : Nat) (h : FwHdr) (sig : Bool) : Nat :=
  if !h.clean then 1
  else if h.type ≠ t ∨ t = 0 ∨ t > 3 then 2
  else if h.payload > maxPayload t ∨ h.payload % 16 ≠ 0 then 3
  else if idRevision &&& h.idMask ≠ h.idMatch ∨ (h.serial ≠ 0 ∧ h.serial ≠ Config.serial.toNat) then 4
  else if bitAt s.fw.revoked h.keyId then 5
  else if h.arb < (s.fwType t).floor then 6
  else if !sig ∨ h.keyId > 3 then 7
  else 0

/-- The floor of a type raised to an image's ARB; a floor never falls (R551). -/
def State.raiseFloor (s : State) (t : Nat) (h : FwHdr) : State :=
  if (s.fwType t).floor < h.arb then (s.modFwType t fun x => { x with floor := h.arb }).fwRecord 8 t 0 h else s

/-! Transfers (R541 to R543) -/

/-- Who waits for a transfer hears how it ended: the descriptor, or the USB port (R545, R572); PLDM learns it in its own
exchanges. -/
def State.tellXfer (s : State) (src : FwFrom) (status : Nat) : State :=
  match src with
  | .desc id => s.mgmtEnd id status []
  | .pldm => s
  | .dfu => s.emit (.dfu (if status = 0 then 0 else if status = 0x0B then 3 else 7) [])

/-- A transfer ends with a status of Table 4; a failure is recorded. -/
def State.endXfer (s : State) (status : Nat) : State :=
  match s.fw.xfer with
  | none => s
  | some x =>
    let s1 : State := { s with fw := { s.fw with xfer := none, lastStatus := status, lastOp := 1, lastType := x.type, dl := status,
                                                 dlAt := if s.boot.recovery then some s.now else s.fw.dlAt } }
    let s2 := if status = 0 then s1 else s1.fwRecord 1 x.type status (x.hdr.getD FwHdr.none)
    s2.tellXfer x.src status

/-- Why a transfer of a type may not start; 0 where it may (R541, R546, R549). -/
def State.xferStatus (s : State) (t : Nat) : Nat :=
  if t = 0 ∨ t > 3 then 2
  else if s.fw.xfer.isSome ∨ (s.fw.act.map (·.type)) = some t then 9
  else if (s.fwType t).stgSt = .activated ∧ (s.fwType t).copy then 0x0A
  else 0

/-- FW_STAGE (R541, R545): `ok` says that the reads of the PF0 buffer succeed. -/
def execFwStage (r : Fin 16) (ok : Bool) (s : State) : Out :=
  .next (s.mgmt r 0x200 fun d s =>
    let t := d.arg0 % 256
    let c := s.xferStatus t
    let n := d.fld 40 4
    if c ≠ 0 then (s.fwRecord 1 t c FwHdr.none).mgmtEnd d.id c []
    else
      let s1 : State := { s with fw := { s.fw with xfer := some ⟨.desc d.id, t, n, s.mgmtIn d, none⟩, progress := 0 } }
      if !ok then s1.endXfer 0x0F
      else if n < 8192 then s1.endXfer 1
      else s1)

/-- IMAGE_HEADER (R542, R543, R553): the header has arrived and is checked; the region is then LANDING, and in recovery the active
slot is invalid. -/
def execImageHeader (sig : Bool) (s : State) : Out :=
  .next (match s.fw.xfer with
    | none => s
    | some x =>
      if x.hdr.isSome ∨ x.bytes.length < 8192 then s
      else
        let h := FwHdr.parse x.bytes
        let c := s.headerStatus x.type h sig
        if c ≠ 0 then s.endXfer c
        else
          let s1 := s.modFwType x.type fun y =>
            if s.boot.recovery then { y with valid := false } else { y with stg := FwHdr.none, stgSt := .landing, copy := false }
          { s1 with fw := { s1.fw with xfer := some { x with hdr := some h } } })

/-- A sector erase that took `e.2` ms (R555). -/
def State.erased (s : State) (e : Nat × Nat) : State :=
  let f := { s.fw with maxErase := max s.fw.maxErase e.2 }
  if e.2 > 300 then
    ({ s with fw := { f with norWear := true, slow := satAdd 0xFFFF f.slow 1 } }).ledgerFull 0x0C06 (srcOf3 0xFF 0 0) 0 e.1 0 0 0
  else { s with fw := f }

/-- The erases of a region. -/
def State.erases (s : State) : List (Nat × Nat) → State
  | [] => s
  | e :: es => (s.erased e).erases es

/-- All the bytes of a transfer have come. -/
def FwXfer.whole (x : FwXfer) (h : FwHdr) : Bool := decide (x.bytes.length ≥ 8192 + h.payload) || decide (x.bytes.length ≥ x.len)

/-- IMAGE_LANDED (R543, R553, R555): `tag` says that the GCM tag matches, `es` gives the erases as (sector, ms). -/
def execImageLanded (tag : Bool) (es : List (Nat × Nat)) (s : State) : Out :=
  .next (match s.fw.xfer with
    | none => s
    | some x =>
      match x.hdr with
      | none => s
      | some h =>
        if !x.whole h then s
        else
          let s0 := s.erases es
          let s1 : State := { s0 with fw := { s0.fw with progress := x.bytes.length / 1024 } }
          let pay := (x.bytes.drop 8192).take h.payload
          if pay.length < h.payload ∨ (Config.sha384 pay).toNat ≠ h.digest ∨ !tag then s1.endXfer 8
          else if s.boot.recovery then
            (s1.modFwType x.type fun y => { y with act := h, valid := true, stg := FwHdr.none, stgSt := .empty, copy := false }).endXfer 0
          else
            ((s1.modFwType x.type fun y => { y with stg := h, stgSt := .staged, copy := true }).fwRecord 0 x.type 0 h).endXfer 0)

/-- A sector failure of the SPI NOR (R555). -/
def State.norFailure (s : State) (sector : Nat) : State :=
  { s with fw := { s.fw with norFail := true } }.ledgerFull 0x0C07 (srcOf3 0xFF 0 0) 0 sector 0x0B 0 0

/-- NOR_ERASE_TIMEOUT (R555): a sector failure, which ends a landing with FLASH_FAIL. -/
def execNorEraseTimeout (sector : Fin 65536) (s : State) : Out :=
  .next (
    let s2 := s.norFailure sector
    match s.fw.xfer with
    | some x => if x.hdr.isSome then s2.endXfer 0x0B else s2
    | none => s2)

/-- FW_CANCEL (R545). -/
def execFwCancel (r : Fin 16) (s : State) : Out :=
  .next (s.mgmt r 0x202 fun d s => (s.endXfer 0x10).mgmtEnd d.id 0 [])

/-! Activation (R547 to R550) -/

/-- An operation of the Curator, a dissolution or a composition reset involves a partition here (R549). -/
def State.partsMoving (s : State) : Bool :=
  s.curBusy || s.parts.any fun e => e.2.rst.isSome || e.2.st == .rebinding || e.2.st == .resetting || e.2.st == .dissolving

/-- Every partition is FREE. -/
def State.allFree (s : State) : Bool := s.parts.all fun e => e.2.st == .free

/-- Why an activation is refused; 0 where it starts (R545 to R549, R558). `link` is 0 to 95, or 0xFF. -/
def State.actStatus (s : State) (t link : Nat) (sig payload : Bool) : Nat :=
  let x := s.fwType t
  if t = 1 then 0x11
  else if t = 0 ∨ t > 3 ∨ (t = 3 ∧ link > 95 ∧ link ≠ 0xFF) then 2
  else if s.fw.act.isSome ∨ (s.fw.xfer.map (·.type)) = some t ∨ s.partsMoving then 9
  else if x.stgSt ≠ .staged ∧ x.stgSt ≠ .activated then 0x0C
  else
    let c := s.headerStatus t x.stg sig
    if c ≠ 0 then c
    else if !payload then 8
    else if t = 2 ∧ x.stg.sfr ≠ schedFmtRev ∧ !s.allFree then 0x0D
    else 0

/-- An activation begun. -/
def State.startAct (s : State) (t link : Nat) (desc : Option Nat) (thenLinks : Bool) : State :=
  { s with fw := { s.fw with act := some ⟨t, if t = 3 then (if link = 0xFF then allLinks else [link]) else [], desc, false, thenLinks⟩ } }

/-- An activation ends with a status; the descriptor that waits for it completes, and a failure is recorded. -/
def State.endAct (s : State) (t status : Nat) (desc : Option Nat) : State :=
  let s1 : State := { s with fw := { s.fw with act := none, lastStatus := status, lastOp := 2, lastType := t,
                                               pldm := if s.fw.pldm = .activate then .idle else s.fw.pldm } }
  let s2 := s1.fwRecord (if status = 0 then 2 else 3) t status (s.fwType t).stg
  match desc with
  | some d => s2.mgmtEnd d status []
  | none => s2

/-- FW_ACTIVATE (R545, R547 to R550): `sig` and `payload` are what the renewed checks of the staged image find. -/
def execFwActivate (r : Fin 16) (sig payload : Bool) (s : State) : Out :=
  .next (s.mgmt r 0x201 fun d s =>
    let t := d.arg0 % 256
    let link := bits d.arg0 15 8
    let c := s.actStatus t link sig payload
    if c = 0 then s.startAct t link (some d.id) false
    else if s.fw.act.isSome then s.mgmtEnd d.id c []
    else s.endAct t c (some d.id))

/-- The links that follow a management activation over PLDM (R544). -/
def State.goOn (s : State) (a : FwAct) : State :=
  if a.thenLinks ∧ (s.fwType 3).stgSt = .staged then s.startAct 3 0xFF a.desc false
  else s

/-- MGMT_IMAGE_READY (R548): the pause ends, the floor is raised, the region is ACTIVATED. -/
def execMgmtImageReady (s : State) : Out :=
  .next (match s.fw.act with
    | none => s
    | some a =>
      if a.type ≠ 2 then s
      else
        let h := (s.fwType 2).stg
        let s1 := (s.raiseFloor 2 h).modFwType 2 fun x => { x with stgSt := .activated, run := h }
        let more := decide (a.thenLinks = true ∧ (s.fwType 3).stgSt = .staged)
        let p := s.fw.pldm
        let s2 := s1.endAct 2 0 a.desc
        if more then { s2 with fw := { s2.fw with pldm := p } }.goOn a else s2)

/-- MGMT_READY_TIMEOUT (R548): the old image runs on, the region is FAILED and never copied. -/
def execMgmtReadyTimeout (s : State) : Out :=
  .next (match s.fw.act with
    | none => s
    | some a =>
      if a.type ≠ 2 then s
      else (s.modFwType 2 fun x => { x with stgSt := .failed, copy := false }).endAct 2 0x0E a.desc)

/-- MICROCODE_SWITCH (R550, R551): the next link runs the new microcode; the first success raises the floor; after the last link the
region is ACTIVATED. -/
def execMicrocodeSwitch (i : LinkId) (s : State) : Out :=
  .next (match s.fw.act with
    | none => s
    | some a =>
      if a.type ≠ 3 ∨ a.links.head? ≠ some i.val then s
      else
        let h := (s.fwType 3).stg
        let s1 := if a.some_ then s else s.raiseFloor 3 h
        let s2 : State := { s1 with fw := { s1.fw with lnkVer := tblSet (fun _ => 0) s1.fw.lnkVer i h.version } }
        let s3 := if i.val = 0 then s2.modFwType 3 fun x => { x with run := h } else s2
        match a.links.drop 1 with
        | [] => (s3.modFwType 3 fun x => { x with stgSt := .activated }).endAct 3 0 a.desc
        | ls => { s3 with fw := { s3.fw with act := some { a with links := ls, some_ := true } } })

/-- MICROCODE_READY_TIMEOUT (R550): the link keeps its old bank, and the activation stops; the region stays STAGED. -/
def execMicrocodeReadyTimeout (i : LinkId) (s : State) : Out :=
  .next (match s.fw.act with
    | none => s
    | some a => if a.type ≠ 3 ∨ a.links.head? ≠ some i.val then s else s.endAct 3 0x0E a.desc)

/-! Views (R559) -/

/-- SVC_FW_UPD (Table 8). -/
def State.fwUpd (s : State) : Nat :=
  let f := s.fw
  let st := match f.act, f.xfer with
    | some _, _ => 4
    | none, some x => (match x.hdr with
      | none => 1
      | some h => if x.whole h then 3 else 2)
    | none, none => 0
  f.lastStatus * 2 ^ 24 + f.lastOp * 2 ^ 16 + f.lastType * 2 ^ 8 + st

/-- State code of a staging region (Table 9). -/
def StgSt.code : StgSt → Nat
  | .empty => 0 | .landing => 1 | .staged => 2 | .activated => 3 | .failed => 4

/-- The seven registers of an image type (Table 8). -/
def FwType.regs (x : FwType) : List Nat :=
  let on := x.stgSt != .empty && x.stgSt != .landing
  [x.act.version, x.act.arb, if on then x.stg.version else 0, if on then x.stg.arb else 0, x.floor,
   b2n x.copy * 2 ^ 31 + x.stgSt.code, x.run.version]

end Sys2Proof.Machine
end

