-- ==== Sys2Proof/Machine/Boot.lean ====
section
/-! DEFINITION. Start-up, ROM recovery, and firmware update over PLDM and USB DFU (spec/20: R534 to R537, R544, R551 to R555; spec/19:
R516; spec/07: R188; spec/21: R566, R572, R576). -/
namespace Sys2Proof.Machine

/-! Tamper coverage (R576) -/

/-- The coverage that the island gives: LAPSED lasts until the clock has been set again and the cell reads above 2.8 V. -/
def Panel.covNow (p : Panel) : Coverage :=
  let good := p.cell != .absent && p.cell != .reversed && decide (p.mv > 2800)
  if p.cov = .lapsed ∧ !(p.rtcValid && good) then .lapsed
  else if good then .full
  else .mains

/-- The coverage brought up to date; while the module runs a change sets COVERAGE and writes a record. -/
def State.coverage (s : State) : State :=
  let c := s.panel.covNow
  if c = s.panel.cov then s
  else
    let s1 : State := { s with panel := { s.panel with cov := c } }
    if s.boot.run then (s1.svcEvt (bSVC + 4) 0x40).panelRecord 9 0 c.code s.panel.mv else s1

/-! The start (R534 to R537) -/

/-- The image types (R539). -/
def fwTypes : List Nat := [1, 2, 3]

/-- The image of a type is to be copied at the next start (R537). -/
def FwType.copies (x : FwType) : Bool := x.copy && (x.stgSt == .staged || x.stgSt == .activated)

/-- The sector failures of a copy (R555). -/
def State.copyFailures (s : State) : List Nat → State
  | [] => s
  | n :: ns => (s.norFailure n).copyFailures ns

/-- Pending images copied into the active slot; a sector failure leaves the slot without a valid image (R537, R555; log 46). -/
def State.copyImages (s : State) (m : StartMeas) : List Nat → State
  | [] => s
  | t :: ts =>
    let bad := (m.failed.filter fun e => e.1 == t).map (·.2)
    (if (s.fwType t).copies then
      if bad.isEmpty then
        let s1 := (s.modFwType t fun x => { x with act := x.stg, valid := true, copy := false }).fwRecord 4 t 0 (s.fwType t).stg
        { s1 with boot := { s1.boot with copied := true } }
      else (s.modFwType t fun x => { x with valid := false }).copyFailures bad
    else s).copyImages m ts

/-- The copies of a start, with the erases they need (R537, R555). -/
def State.copyPending (s : State) (m : StartMeas) : State :=
  (if fwTypes.any fun t => (s.fwType t).copies then s.erases m.erases else s).copyImages m fwTypes

/-- An active image passes its check at a start (R552): `ok` says so of what the model does not hold. -/
def State.imagePasses (s : State) (t : Nat) (ok : Bool) : Bool :=
  let x := s.fwType t
  x.valid && ok && decide (x.act.arb ≥ x.floor) && !bitAt s.fw.revoked x.act.keyId

/-- The active images that fail are no longer valid. -/
def State.failImages (s : State) (m : StartMeas) : List Nat → State
  | [] => s
  | t :: ts =>
    (if s.imagePasses t (m.passes.contains t) then s else s.modFwType t fun x => { x with valid := false }).failImages m ts

/-- The active images run, with their floors raised (R551). -/
def State.runImages (s : State) : List Nat → State
  | [] => s
  | t :: ts => ((s.raiseFloor t (s.fwType t).act).modFwType t fun x => { x with run := x.act }).runImages ts

/-- The REVOKE bits of the Custodian image blown, but for its own key (R551). -/
def State.blowFuses (s : State) : State :=
  let h := (s.fwType 1).act
  let bits_ := h.revoke - (h.revoke &&& 2 ^ h.keyId)
  { s with fw := { s.fw with revoked := s.fw.revoked ||| bits_ } }

/-- Spare rows left in a bank: every bank has at least one before its first repair (R188). -/
def State.sparesOf (s : State) (bank : Nat) : Nat :=
  match s.scrub.spares.find? fun e => e.1 == bank with
  | some e => e.2
  | none => 1

/-- A 4 KiB block repaired with a spare row of its bank, and written with zeros (R188). -/
def State.repairBlock (s : State) (b : Nat) : State :=
  let k := Config.bankOf b
  let left := (k, s.sparesOf k - 1) :: s.scrub.spares.filter fun e => e.1 != k
  (({ s with scrub := { s.scrub with spares := left } }).clearRange (b * 4096) (b * 4096 + 4096)).ledger 0x0106 (srcOf3 0xFF 0 0)
    (b * 4096) 0 (dpaGroup (b * 4096))

/-- A withheld block's turn at a start: repaired, or permanent where its bank has no spare row left (R188). -/
def State.repairEntry (s : State) (w : Withheld) : State :=
  if s.sparesOf (Config.bankOf w.block) = 0 then
    let ws : List Withheld := s.withheld.map fun x => if x.block = w.block then { x with permanent := true } else x
    ({ s with withheld := ws }.ledger 0x0107 (srcOf3 0xFF 0 0) (w.block * 4096) 0 (dpaGroup (w.block * 4096)))
  else { s with withheld := s.withheld.filter fun x => x.block != w.block }.repairBlock w.block

/-- Withheld blocks in turn, oldest first, until `n` are repaired (R188). -/
def State.repairEntries (s : State) (n : Nat) : List Withheld → State × Nat
  | [] => (s, n)
  | w :: ws =>
    if n = 0 then (s, 0)
    else (s.repairEntry w).repairEntries (if s.sparesOf (Config.bankOf w.block) = 0 then n else n - 1) ws

/-- The block of a raw sector that a pass of the scrubber found heavy. -/
def heavyBlock (i : Nat) : Nat := (i / rawSectors * 2 ^ 34 + i % rawSectors * 512) / 4096

/-- A row with many corrections is repaired where its page is free and its bank has a spare row left (R184, R188); a row of the
tag region lies in no page. -/
def State.heavyReady (s : State) (i : Nat) : Bool :=
  decide (i % rawSectors < dataSectors) && (s.region (regionOf (heavyBlock i * 4096))).owner.isNone
    && decide (s.sparesOf (Config.bankOf (heavyBlock i)) ≠ 0)

/-- Rows with many corrections in turn, until `n` are repaired; the others stay candidates (R184, R188). -/
def State.repairHeavy (s : State) (n : Nat) : List Nat → State
  | [] => s
  | i :: is =>
    if n ≠ 0 ∧ s.heavyReady i then
      ({ s with repairRows := s.repairRows.erase i }.repairBlock (heavyBlock i)).repairHeavy (n - 1) is
    else s.repairHeavy n is

/-- The spare rows read from the stacks at a start, and after a warm reset the repairs: at most 32, the oldest entries first
(R188). -/
def State.repair (s : State) (m : StartMeas) : State :=
  let s1 : State := { s with scrub := { s.scrub with spares := m.spares ++ s.scrub.spares.filter fun e => m.spares.all fun x => x.1 != e.1 } }
  if !s1.boot.warm then s1
  else
    let r := s1.repairEntries 32 (s1.withheld.filter fun w => !w.permanent)
    r.1.repairHeavy r.2 r.1.repairRows

/-- Records whose ECC fails replaced by one of TYPE 0 with its SEQ (R516). -/
def Ledger.replaceBad (l : Ledger) : List Nat → Ledger
  | [] => l
  | i :: is => (match l.at_ i with
    | some r => l.set i ⟨0, 0, false, r.seq, 0, 0, 0, 0, 0, 0, 0, 0, 0⟩
    | none => l).replaceBad is

/-- The Ledger at the start after a warm reset (R516). -/
def State.ledgerStart (s : State) (m : StartMeas) : State :=
  if s.boot.warm then
    (({ s with lring := s.lring.replaceBad m.badRecs }).ownRecord 0x0A07 0).ownRecord 0x0A00 s.boot.cause
  else s

/-- A due panel report: an event bit and a record. The input voltage that VALUE holds is the one at the event, which nothing
keeps: a free value (log 4). -/
def State.dueReport (s : State) (due volt : Bool) (bit event : Nat) : State :=
  if due then
    let s1 := s.svcEvt (bSVC + 4) (2 ^ bit)
    if volt then s1.draw.panelRecord event 0 0 (Config.free s1.freeCtr % 2 ^ 64) else s1.panelRecord event 0 0 0
  else s

/-- Tamper events of the time off reported, one record each (R577). -/
def State.tamperReports (s : State) : Nat → State
  | 0 => s
  | n + 1 => (((s.secEvent 1 0x0A 0 0).svcEvt (bSVC + 4) 0x100)).tamperReports n

/-- What happened while the module was off, reported at its start (R505, R554, R563, R565, R576, R577). -/
def State.dues (s : State) (m : StartMeas) : State :=
  let p := s.panel
  let s1 := ((s.dueReport p.hardDue false 1 1).dueReport p.overDue true 7 0x0C).dueReport p.revDue true 7 0x0D
  let s2 := s1.tamperReports p.tamperDue
  let s3 := if m.pressed then (s2.svcEvt (bSVC + 4) 8).panelRecord 3 0 0 0 else s2
  let s4 := match s.boot.prior with
    | some (sensor, t) => (s3.setBits (bPWR + 0x10) 0x40).ledger 0x0904 (srcOf3 0xFF 0 0) sensor 0 t
    | none => s3
  let s5 := if s.boot.recovered then s4.fwRecord 5 0 0 FwHdr.none else s4
  let s6 := if p.lostDue then (s5.svcEvt (bSVC + 4) 0x40).panelRecord 9 0 2 p.mv else s5
  let s7 : State :=
    { s6 with
      panel := { s6.panel with hardDue := false, overDue := false, overV := p.overDue, revDue := false, rev := p.revDue, tamperDue := 0,
                               lostDue := false, powerLost := p.lostDue, cov := if p.lostDue then .lapsed else p.cov,
                               stuck := p.stuck || m.pressed, open_ := false },
      boot := { s6.boot with prior := none, warm := false } }
  s7.coverage

/-- ROM recovery entered (R552, R553): the Custodian firmware and everything behind it stays off. -/
def State.enterRecovery (s : State) : State :=
  { s with boot := { s.boot with good := true, recovery := true } }

/-- Every link port runs one microcode version. -/
def lnkVers (v : Nat) : List Nat → Tbl Nat
  | [] => []
  | i :: is => tblSet (fun _ => 0) (lnkVers v is) i v

/-- The main path of a start, once every image has passed (R534, Table 1). -/
def State.startMain (s : State) (m : StartMeas) : State :=
  let s1 := ((s.runImages fwTypes).blowFuses).cusStart
  let s2 : State :=
    { s1 with
      boot := { s1.boot with good := true, run := true, ready := true, stage := 4 },
      fw := { s1.fw with lnkVer := lnkVers (s1.fwType 3).act.version allLinks } }
  ((s2.ledgerStart m).repair m).dues m

/-- POWER_GOOD (R534 to R537, R551 to R554, R564): the whole start-up sequence. Power-good needs a charged bulk, closed tamper switches,
and no thermal shutdown in force. -/
def execPowerGood (m : StartMeas) (s : State) : Out :=
  .next (if s.boot.good ∨ s.boot.shut ∨ !s.panel.dc ∨ s.panel.swap ≠ .charged then s
    else
      let s1 := (s.copyPending m).failImages m fwTypes
      if fwTypes.all fun t => (s1.fwType t).valid then s1.startMain m else s1.enterRecovery)

/-- RECOVERY_EXIT (R554). -/
def execRecoveryExit (s : State) : Out :=
  .next (match s.fw.dlAt with
    | some t =>
      if s.boot.recovery ∧ s.fw.xfer.isNone ∧ fwTypes.all (fun t => (s.fwType t).valid) ∧ s.now ≥ t + 1000000000 then
        let s1 := s.hardReset s.boot.cause
        { s1 with boot := { s1.boot with recovered := true } }
      else s
    | none => s)

/-! PLDM for Firmware Update (R544; message layouts and completion codes PRESUMED, DSP0267; log 37) -/

/-- A PLDM message from the module: command, then its bytes. -/
def State.pldm (s : State) (code : Nat) (bs : List Byte) : State := s.emit (.pldm code bs)
/-- The firmware device moved to a state. -/
def State.pldmTo (s : State) (st : PldmSt) : State := { s with fw := { s.fw with pldm := st, pldmPrev := s.fw.pldm } }
/-- A PLDM request that the endpoint takes (R402, R544). -/
def State.pldmReq (s : State) (bus : Nat) (f : State → State) : Out := .next (if s.mctpOn bus then f s else s)
/-- A request that a state of the firmware device must allow; INVALID_STATE elsewhere, NOT_IN_UPDATE_MODE in IDLE. -/
def State.pldmIn (s : State) (bus code : Nat) (ok : PldmSt → Bool) (f : State → State) : Out :=
  s.pldmReq bus fun s =>
    if ok s.fw.pldm then f s
    else if s.fw.pldm = .idle then s.pldm code [0x80]
    else s.pldm code [0x84]

/-- Identifiers of the module (R544, Table 5). -/
def pldmIds : List Byte :=
  toBytes 2 0 ++ toBytes 2 2 ++ toBytes 2 0xC7A5 ++ toBytes 2 0x0100 ++ toBytes 2 2 ++ toBytes 2 0x4C04
    ++ toBytes 2 0xFFFF ++ toBytes 2 8 ++ toBytes 8 Config.serial.toNat

/-- QUERY_DEVICE_IDENTIFIERS (R544, Table 5). -/
def execQueryDeviceIdentifiers (bus : Fin 2) (s : State) : Out :=
  s.pldmReq bus fun s => s.pldm 1 ([0] ++ toBytes 4 pldmIds.length ++ [3] ++ pldmIds)

/-- A component's entry: classification firmware, identifier, active and pending VERSION. -/
def State.pldmComponent (s : State) (t : Nat) : List Byte :=
  let x := s.fwType t
  toBytes 2 0x000A ++ toBytes 2 t ++ toBytes 4 x.act.version ++ toBytes 4 (if x.copies then x.stg.version else 0)

/-- GET_FIRMWARE_PARAMETERS (R544). -/
def execGetFirmwareParameters (bus : Fin 2) (s : State) : Out :=
  s.pldmReq bus fun s => s.pldm 2 ([0] ++ toBytes 2 3 ++ (fwTypes.flatMap fun t => s.pldmComponent t))

/-- REQUEST_UPDATE (R541, R544). -/
def execRequestUpdate (bus : Fin 2) (maxSize : W32) (s : State) : Out :=
  s.pldmReq bus fun s =>
    if s.fw.xfer.isSome ∨ s.fw.pldm ≠ .idle then s.pldm 0x10 [0x81]
    else ({ s with fw := { s.fw with piece := min 2048 maxSize.toNat } }.pldmTo .learn).pldm 0x10 [0, 0, 0, 0]

/-- PASS_COMPONENT_TABLE (R544): the last entry of the table ends LEARN COMPONENTS. -/
def execPassComponentTable (bus : Fin 2) (id : Fin 65536) (last : Bool) (s : State) : Out :=
  s.pldmIn bus 0x13 (· == .learn) fun s =>
    let known := decide (1 ≤ id.val ∧ id.val ≤ 3)
    (if last then s.pldmTo .ready else s).pldm 0x13 [0, BitVec.ofNat 8 (b2n !known), 0]

/-- The next piece requested: RequestFirmwareData with offset and length. -/
def State.pldmAsk (s : State) : State :=
  match s.fw.xfer with
  | some x => if x.bytes.length < x.len then
      s.pldm 0x15 (toBytes 4 x.bytes.length ++ toBytes 4 (min s.fw.piece (x.len - x.bytes.length))) else s
  | none => s

/-- UPDATE_COMPONENT (R541, R544, R546): a transfer starts, and the module requests its first piece. -/
def execUpdateComponent (bus : Fin 2) (id : Fin 65536) (len : W32) (s : State) : Out :=
  s.pldmIn bus 0x14 (· == .ready) fun s =>
    let c := s.xferStatus id
    if c ≠ 0 then (s.fwRecord 1 id c FwHdr.none).pldm 0x14 [0, 1, 0, 0, 0, 0, 0, 0, 0]
    else
      let s1 : State := { s with fw := { s.fw with xfer := some ⟨.pldm, id, len.toNat, [], none⟩, comp := id, progress := 0 } }
      ((s1.pldmTo .download).pldm 0x14 [0, 0, 0, 0, 0, 0, 0, 0, 0]).pldmAsk

/-- FIRMWARE_DATA (R544): a piece of at most the size asked for; a header too short for R542 ends the transfer. -/
def execFirmwareData (bs : List Byte) (s : State) : Out :=
  .next (match s.fw.xfer with
    | some x =>
      if x.src ≠ .pldm ∨ s.fw.pldm ≠ .download ∨ bs.length ≠ min s.fw.piece (x.len - x.bytes.length) ∨ bs = [] then s
      else
        let x1 : FwXfer := { x with bytes := x.bytes ++ bs }
        let s1 : State := { s with fw := { s.fw with xfer := some x1, progress := x1.bytes.length / 1024 } }
        if x1.bytes.length ≥ x1.len ∧ x1.len < 8192 then s1.endXfer 1 else s1.pldmAsk
    | none => s)

/-- TRANSFER_COMPLETE (R544): once the transfer has ended; its result carries the status. -/
def execTransferComplete (s : State) : Out :=
  .next (if s.fw.pldm = .download ∧ s.fw.xfer.isNone then
      (if s.fw.dl = 0 then s.pldmTo .verify else s).pldm 0x16 [BitVec.ofNat 8 s.fw.dl]
    else s)

/-- VERIFY_COMPLETE (R544). -/
def execVerifyComplete (s : State) : Out :=
  .next (if s.fw.pldm = .verify then (s.pldmTo .apply).pldm 0x17 [0] else s)

/-- APPLY_COMPLETE (R544): success after the checks of R543. -/
def execApplyComplete (s : State) : Out :=
  .next (if s.fw.pldm = .apply then (s.pldmTo .ready).pldm 0x18 [0, 0, 0] else s)

/-- The type that a self-contained activation starts with: management, then link microcode (R544). -/
def State.actFirst (s : State) : Option Nat :=
  if (s.fwType 2).stgSt = .staged then some 2 else if (s.fwType 3).stgSt = .staged then some 3 else none

/-- ACTIVATE_FIRMWARE (R544, R547): `sig` and `payload` are what the renewed checks find. A Custodian image takes effect at a
module reset. -/
def execActivateFirmware (bus : Fin 2) (selfContained sig payload : Bool) (s : State) : Out :=
  s.pldmIn bus 0x1A (· == .ready) fun s =>
    if !selfContained ∨ s.boot.recovery then (s.pldmTo .idle).pldm 0x1A [0, 0, 0]
    else match s.actFirst with
      | none => (s.pldmTo .idle).pldm 0x1A [0x8B]
      | some t =>
        let c := s.actStatus t 0xFF sig payload
        if c ≠ 0 then
          (if s.fw.act.isSome then s else s.endAct t c none).pldm 0x1A [0x8C]
        else ((s.startAct t 0xFF none (t == 2)).pldmTo .activate).pldm 0x1A [0, 0, 0]

/-- Code of a state (GetStatus). -/
def PldmSt.code : PldmSt → Nat
  | .idle => 0 | .learn => 1 | .ready => 2 | .download => 3 | .verify => 4 | .apply => 5 | .activate => 6

/-- GET_STATUS (R544): state, previous state, status of the last download. -/
def execGetStatus (bus : Fin 2) (s : State) : Out :=
  s.pldmReq bus fun s =>
    s.pldm 0x1B [0, BitVec.ofNat 8 s.fw.pldm.code, BitVec.ofNat 8 s.fw.pldmPrev.code, 0, BitVec.ofNat 8 s.fw.dl, 0x65, 0, 0, 0, 0, 0]

/-- The PLDM transfer in progress ends CANCELLED. -/
def State.pldmDrop (s : State) : State :=
  match s.fw.xfer with
  | some x => if x.src = .pldm then s.endXfer 0x10 else s
  | none => s

/-- CANCEL_UPDATE_COMPONENT (R542, R544). -/
def execCancelUpdateComponent (bus : Fin 2) (s : State) : Out :=
  s.pldmIn bus 0x1C (fun st => st == .download || st == .verify || st == .apply) fun s =>
    ((s.pldmDrop).pldmTo .ready).pldm 0x1C [0]

/-- CANCEL_UPDATE (R542, R544). -/
def execCancelUpdate (bus : Fin 2) (s : State) : Out :=
  s.pldmIn bus 0x1D (fun st => st != .idle && st != .activate) fun s =>
    ((s.pldmDrop).pldmTo .idle).pldm 0x1D [0, 0, 0, 0, 0, 0, 0, 0, 0, 0]

/-! USB DFU (R553, R572; the block protocol PRESUMED, DFU 1.1; log 37) -/

/-- DFU_DOWNLOAD of a block of at most 4,096 bytes: `first` says that it is block 0, `last` that the download ends with it. -/
def execDfuDownload (alt : Fin 4) (bs : List Byte) (first last : Bool) (s : State) : Out :=
  .next (if !s.boot.recovery ∨ alt.val = 3 ∨ bs.length > 4096 then s
    else
      let busy : Bool := match s.fw.xfer with
        | some x => x.src != .dfu || (!first && x.type != alt.val + 1)
        | none => !first
      if busy then s.emit (.dfu 0x0F [])
      else
        let old : FwXfer := match s.fw.xfer with
          | some x => if first then ⟨.dfu, alt.val + 1, 2 ^ 32, [], none⟩ else x
          | none => ⟨.dfu, alt.val + 1, 2 ^ 32, [], none⟩
        let bytes := old.bytes ++ bs
        let x1 : FwXfer := { old with bytes := bytes, len := if last then bytes.length else old.len }
        let s1 : State := { s with fw := { s.fw with xfer := some x1 } }
        if last ∧ bytes.length < 8192 then s1.endXfer 1 else s1)

/-- DFU_UPLOAD (R572): alternate setting 3 gives the status of the last download. -/
def execDfuUpload (alt : Fin 4) (s : State) : Out :=
  .next (if s.boot.recovery ∧ alt.val = 3 then s.emit (.dfu 0 [BitVec.ofNat 8 s.fw.dl, 0, 0, 0]) else s)

/-- USB_DISCONNECTION (R572): a DFU download ends short of its bytes; the active slot stays as it is. -/
def execUsbDisconnection (s : State) : Out :=
  .next (match s.fw.xfer with
    | some x => if x.src = .dfu then
        { s with fw := { s.fw with xfer := none, dl := 8, lastStatus := 8, lastOp := 1, lastType := x.type } } else s
    | none => s)

end Sys2Proof.Machine
end

