-- ==== Sys2Proof/Machine/Control.lean ====
section
/-! DEFINITION. Control steps of the sequencer and the completion of queued steps (spec/05: R109, R110, R117 to R119,
R126 to R129, R137). -/
namespace Sys2Proof.Machine

/-- NOP (R110). -/
def execNop (c : CoreId) (_w : StepWord) (s : State) : Out :=
  .next (s.front c fun k => s.setCore c k.advance)

/-- END (R137): the core is DONE once its queues are empty and its transfers acknowledged. -/
def execEnd (c : CoreId) (_w : StepWord) (s : State) : Out :=
  .next (s.front c fun k => (s.setCore c { k with stall := .drainEnd }).wakeFront c)

/-- LOOP (R117): the COUNT and BODY of the word open a loop over the steps that follow. -/
def execLoop (c : CoreId) (w : StepWord) (s : State) : Out :=
  .next (s.front c fun k =>
    let f : LoopFrame := ⟨k.step + 1, fld w 87 72, fld w 119 88, 0, k.inVar⟩
    s.setCore c ({ k with step := k.step + 1, loops := f :: k.loops }.begin (loopKey f.first f.inVar)))

/-- The first of the entries `i` to `n - 1` whose threshold is at least `x` (R119, MODE 0b01). -/
def thresholdEntry (im : List Byte) (off x : Nat) : Nat → Nat → Option Nat
  | _, 0 => none
  | i, n + 1 => if x ≤ imgField im (off + 0x10 + 4 * i) 4 then some i else thresholdEntry im off x (i + 1) n

/-- VSEL (R109, R118, R119): the front end first waits for every earlier SETSEL; then an entry is chosen by the selector, and its
steps are dispatched in place of the VSEL; where no entry qualifies the last one is taken and counted. A reserved MODE faults
(R110). -/
def execVsel (c : CoreId) (w : StepWord) (s : State) : Out :=
  .next (s.front c fun k =>
    let mode := fld w 107 106
    if !k.setsels.isEmpty then s.setCore c { k with st := .stalled, stall := .vsel k.setsels }
    else if mode ≥ 2 then s.seqFault c 1
    else
      let im := s.imageOf k
      let off := secOff im 2 + 336 * fld w 119 108
      let n := imgField im off 1
      let x := tblGet (fun _ => 0) k.sel (fld w 105 104)
      let pick := if mode = 0 then (if x < n then some x else none) else thresholdEntry im off x 0 n
      let e := pick.getD (n - 1)
      let first := imgField im (off + 0x50 + 16 * e) 4
      let steps := imgField im (off + 0x54 + 16 * e) 4
      let k1 := if pick.isSome then k else { k with vrange := satAdd 0xFFFFFFFF k.vrange 1 }
      s.setCore c (if steps = 0 then k1.advance
        else { k1 with inVar := true, step := first, varEnd := first + steps, varRet := k.step + 1 }))

/-- PHASE (R126, R499, R507): the core leaves its phase and enters another; a critical entry marks the slack entry. -/
def execPhase (c : CoreId) (w : StepWord) (s : State) : Out :=
  .next (s.front c fun k =>
    let s1 := s.phaseEnd c
    let s2 := s1.setCore c { k with phase := some (fld w 119 104), crit := flag w 103, phaseAt := s.now, waitAcc := 0,
                                    phaseEnergy := (s.clu (c / 16)).energy }.advance
    match s2.findSlack k.part (fld w 119 104) with
    | some e => if flag w 103 then s2.setSlack e { s2.slackOf e with crit := true } else s2
    | none => s2)

/-- REBIND (R127, R128): the core drains, and stops at the rebind point while a re-bind is requested. -/
def execRebind (c : CoreId) (_w : StepWord) (s : State) : Out :=
  .next (s.front c fun k => (s.setCore c { k with stall := .drainRebind }).wakeFront c)

/-- FENCE (R109): dispatch stops until every earlier step in the named queues has completed. -/
def execFence (c : CoreId) (w : StepWord) (s : State) : Out :=
  .next (s.front c fun k =>
    let d := k.masked (fld w 119 116)
    s.setCore c (if d.isEmpty then k.advance else { k with st := .stalled, stall := .fence d }))

/-- QUEUE_STEP_COMPLETED (R109): the oldest step of MX or VX completes; in SY the oldest GLOBAL step whose results are
written completes, its object is raised (R321), and GLOBAL steps behind it may start (R322). The bank waits of the step are counted at its cluster (R100). -/
def execQueueStepCompleted (c : CoreId) (q : StepEnd) (s : State) : Out :=
  let k := s.core c
  let held : Bool := match q.queue.val with
    | 0 => !k.qMx.isEmpty
    | 1 => !k.qVx.isEmpty
    | _ => !k.syDone.isEmpty
  let s := if held = true ∧ q.waits ≠ 0 then s.bump64 (dpReg (c / 16) 0x18) q.waits else s
  .next (match q.queue.val with
    | 0 => match k.qMx with
      | n :: _ => s.stepDone c .mx n
      | [] => s
    | 1 => match k.qVx with
      | n :: _ => s.stepDone c .vx n
      | [] => s
    | _ => match k.syDone with
      | d :: ds =>
        let s1 := s.setCore c { k with syDone := ds }
        let o := d.2.1
        let s2 := if o = 0xFFFFF then s1 else s1.raise c o 1 0 (880 + c) d.1
        (if o ≠ 0xFFFFF ∧ s1.isRemote c o then s2 else s2.stepDone c .sy d.1).wakeGlobals [c.val]
      | [] => s)

end Sys2Proof.Machine
end

