-- ==== Sys2Proof/Machine/Curator.lean ====
section
/-! DEFINITION. The Curator's commands: reserve, seal, update, re-bind, dissolution, switching, the allocator pool, and the end
of a launch (spec/13: R338 to R371; spec/05: R128, R137; spec/17: R466). -/
namespace Sys2Proof.Machine

/-! Requests (R352, R353, R395) -/

/-- A bind request ends at once with a result, on a partition that stays as it was. -/
def State.bindEnd (s : State) (p op code : Nat) (descs : List (Nat × Nat)) (mctp : List Nat) : State :=
  let s1 := (s.setReg (kPartResult p) (op * 2 ^ 16 + code)).endBinds code (s.part p).epoch [] false descs
  s1.mctpBindEnd mctp (s.part p).comp code

/-- The bind request with operation code `op` taken from its source; `f` has the descriptors and the MCTP requests that wait, the
composition, and the envelope's bytes. A source whose next request is another does nothing (log 1). -/
def State.bindGo (s : State) (from_ : BindFrom) (op : Nat)
    (f : List (Nat × Nat) → List Nat → Nat → List Byte → State → State) : State :=
  match from_ with
  | .ring r =>
    match s.startable 0 r with
    | some d =>
      if d.type = 7 ∧ d.fld 24 1 = op then
        s.startDesc 0 r 7 fun d s =>
          let env := if op = 1 ∨ op = 3 then s.hostRead 0 (d.fld 32 8) (d.fld 40 4) else []
          f [(d.id, d.fld 48 8)] [] (d.fld 28 3) env s
      else s
    | none => s
  | .mctp =>
    match s.mcWait with
    | m :: ms => if m.op = op then f [] [m.seq] m.comp (tblRun (fun _ => 0) m.bytes 0 m.total) { s with mcWait := ms } else s
    | [] => s

/-- The operation code that a source's next bind request names. -/
def State.bindOp (s : State) (from_ : BindFrom) : Option (Nat × Nat) :=
  match from_ with
  | .ring r => match s.startable 0 r with
    | some d => if d.type = 7 then some (d.fld 24 1, if d.fld 24 1 = 3 then s.hostNat 0 (d.fld 32 8 + 8) 3 else d.fld 28 3) else none
    | none => none
  | .mctp => match s.mcWait with
    | m :: _ => some (m.op, if m.op = 3 then ofBytes (tblRun (fun _ => 0) m.bytes 8 3) else m.comp)
    | [] => none

/-- The request must wait for the Curator (R353): it serves an operation of another composition, or a re-bind that an update
or a later re-bind waits for (R354, R358). -/
def State.bindWaits (s : State) (from_ : BindFrom) : Bool :=
  match s.bindOp from_ with
  | none => true
  | some (op, comp) =>
    if op = 1 then s.curBusy
    else
      let mine := s.anchorOf comp
      (s.parts.any fun e => e.2.op.isSome && some e.1 != mine)
        || match mine.bind fun p => (s.part p).op with
          | some o => (op == 3 && (o.op == 3 || o.op == 4)) || (op == 4 && ((o.op == 3 && decide (o.step ≥ 1)) || o.op == 4))
          | none => false

/-- Messages with an envelope or a catalogue to every other member (R338). -/
def State.tellBytes (s : State) (p kind a : Nat) (bs : List Byte) : State :=
  s.emits ((s.otherMembers p).flatMap fun f => [.curator f kind a 0, .catalogue f bs])

/-- An operation begun at the anchor. -/
def State.opBegin (s : State) (p op : Nat) (descs : List (Nat × Nat)) (mctp : List Nat) (env : Option Envelope) : State :=
  s.modPart p fun q => { q with op := some ⟨op, 0, s.otherMembers p, 0, descs, mctp, env, s.now⟩, stops := [] }

/-- An operation's record changed. -/
def State.modOp (s : State) (p : Nat) (f : BindOp → BindOp) : State := s.modPart p fun q => { q with op := q.op.map f }

/-! Reserve (R349) -/

/-- What a failed reserve gives back on this module (R352). -/
def State.undoReserve (s : State) (p code : Nat) : State :=
  ((((s.opEnd p code).tellMembers p 17 0 0).setSt p .dissolving).releasePart p)

/-- BIND_RESERVE (R333, R336, R337, R349). -/
def execBindReserve (from_ : BindFrom) (s : State) : Out :=
  .next (if s.bindWaits from_ then s
    else s.bindGo from_ 1 fun descs mctp _ env s =>
      let e := envelopeOf env
      match e.entryOf (s.reg bFAB) with
      | none => s.bindReply descs mctp e.comp 1
      | some m =>
        if s.envelopeBad e ∨ e.anchor ≠ s.reg bFAB then s.bindReply descs mctp e.comp 1
        else if e.comp = 0 ∨ e.comp = 0xFFFFFF ∨ (s.partOf e.comp).isSome then s.bindReply descs mctp e.comp 4
        else if e.sfr ≠ schedFmtRev then s.bindReply descs mctp e.comp 2
        else
          let r := s.reserveHere e m
          if r.2.1 ≠ 0 then s.bindReply descs mctp e.comp r.2.1
          else
            let p := r.2.2
            let s1 := (r.1.opBegin p 1 descs mctp none).modPart p fun q => { q with infos := [r.1.infoOf p] }
            if (s1.otherMembers p).isEmpty then s1.opEnd p 0 else s1.tellBytes p 2 e.comp env)

/-- PREPARE (R349 step 3, R354, R355): a member takes what its entry asks, or for a composition it already holds prepares the
update, and replies. -/
def execPrepare (env : List Byte) (s : State) : Out :=
  .next (
    let e := envelopeOf env
    if e.anchor = s.reg bFAB ∨ e.bad then s
    else match e.entryOf (s.reg bFAB) with
      | none => s
      | some m =>
        match s.partOf e.comp with
        | some p =>
          if memberBad (s.part p).role (s.part p).flags m then s.emit (.curator e.anchor 3 1 0)
          else if (s.part p).anchor ≠ e.anchor then s.emit (.curator e.anchor 3 4 0)
          else
            let r := (s.dropUpdate p).accede p e m
            r.1.emit (.curator e.anchor 3 r.2 p)
        | none =>
          if memberBad e.role e.flags m then s.emit (.curator e.anchor 3 1 0)
          else if e.sfr ≠ schedFmtRev then s.emit (.curator e.anchor 3 2 0)
          else
            let r := s.reserveHere e m
            r.1.emit (.curator e.anchor 3 r.2.1 r.2.2))

/-! Dissolution (R357) -/

/-- A dissolution whose clears are done here, and, at the anchor, on every member, is over. -/
def State.dissolveGo (s : State) (p : Nat) : State :=
  let q := s.part p
  if q.st ≠ .dissolving ∨ !q.clears.isEmpty then s
  else if q.anchor ≠ s.reg bFAB then (s.emit (.curator q.anchor 18 q.comp 0)).freePartition p
  else match q.op with
    | some o => if o.wait.isEmpty then (s.opEnd p 0).freePartition p else s
    | none => s.freePartition p

/-- This module's part of a dissolution. -/
def State.dissolveHere (s : State) (p : Nat) : State := ((s.setSt p .dissolving).releasePart p).dissolveGo p

/-- BIND_DISSOLVE (R357). -/
def execBindDissolve (from_ : BindFrom) (s : State) : Out :=
  .next (if s.bindWaits from_ then s
    else s.bindGo from_ 5 fun descs mctp comp _ s =>
      match s.anchorOf comp with
      | none => s.bindReply descs mctp comp 0x0D
      | some p =>
        let q := s.part p
        if q.launch.isSome ∨ !q.queue.isEmpty ∨ q.op.isSome ∨ q.st = .rebinding ∨ q.st = .resetting ∨ q.st = .dissolving then
          s.bindEnd p 5 0x0D descs mctp
        else ((s.opBegin p 5 descs mctp none).tellMembers p 17 0 0).dissolveHere p)

/-- DISSOLVE at a member (R357). -/
def execDissolve (p : PartId) (s : State) : Out :=
  .next (
    let q := s.part p
    if q.anchor = s.reg bFAB ∨ q.st = .free ∨ q.st = .dissolving then s else s.dissolveHere p)

/-- Regions whose clear is over struck from the partitions that wait for it. -/
def State.clearDone (s : State) (q : Nat) : List Nat → State
  | [] => s
  | p :: ps =>
    (if (s.part p).clears.contains q then (s.modPart p fun x => { x with clears := x.clears.filter (· ≠ q) }).dissolveGo p else s).clearDone q ps

/-- REGION_CLEAR_DONE (R448, R466, R528): the region is clear and free. A key register that did not read as zero after its
destruction stays unusable until module reset. -/
def execRegionClearDone (q : RegionId) (zeroised : Bool) (s : State) : Out :=
  .next (if !(s.region q).clearing then s
    else
      let s1 := if zeroised then s
        else ({ s with cus := { s.cus with badKeys := s.cus.badKeys ++ [q.val] } }.secAlarm 4).ledger 0x0808 (srcOf3 0xFF 0 0) q 0 0
      (s1.regionCleared q).clearDone q (List.range 32))

/-! Seal (R350) -/

/-- The anchor assembles the catalogue and sends it; its own part is sealed (R350 step 4). -/
def State.sealSend (s : State) (p : Nat) (table : List WinRow) : State :=
  let q := s.part p
  if !homesOk q then s.opEnd p 3
  else
    let cat := catalogueOf q 1 table
    let s1 := ((s.modOp p fun o => { o with step := 1, wait := s.otherMembers p }).tellBytes p 6 1 cat).sealPart p cat
    if (s1.otherMembers p).isEmpty then s1.opEnd p 0 else s1

/-- BIND_SEAL (R350). `plan` is the placement of the anchor's own part (log 28). -/
def execBindSeal (from_ : BindFrom) (plan : PlaceSpec) (s : State) : Out :=
  .next (if s.bindWaits from_ then s
    else s.bindGo from_ 2 fun descs mctp comp _ s =>
      match s.anchorOf comp with
      | none => s.bindReply descs mctp comp 0x0D
      | some p =>
        let q := s.part p
        if q.st ≠ .reserved ∨ q.op.isSome then s.bindEnd p 2 0x0D descs mctp
        else
          let plan := s.placedPlan p plan
          let r := s.placePart p plan
          if r.2 ≠ 0 then s.bindEnd p 2 r.2 descs mctp
          else
            let s1 := (r.1.opBegin p 2 descs mctp none).modPart p fun q =>
              { (q.addPlaces (s.reg bFAB) plan.places) with plan := some plan, infos := q.infos.filter (·.fid != s.reg bFAB) ++ [r.1.infoOf p] }
            if (s1.otherMembers p).isEmpty then s1.sealSend p plan.table else s1.tellMembers p 4 0 0)

/-- PLACE at a member: the placement of a seal (R350 step 3), or, during a re-bind, the pause with its migration (R359). -/
def execPlace (p : PartId) (plan : PlaceSpec) (s : State) : Out :=
  .next (
    let q := s.part p
    if q.anchor = s.reg bFAB then s
    else if q.st = .reserved then
      let r := s.placePart p (s.placedPlan p plan)
      r.1.emit (.curator q.anchor 5 r.2 0)
    else if q.st = .sealed then
      match q.plan with
      | some pl =>
        let r := s.migrate p pl
        r.1.emit (.curator q.anchor 5 r.2 0)
      | none => s
    else s)

/-- The flip on this module (R359 step 5). -/
def State.flipPart (s : State) (p : Nat) (cat : List Byte) : State :=
  let s1 := s.modPart p fun q => { q with catalogue := cat, epoch := imgField cat 0x20 8, plan := none }
  s1.tagClusters p (maskList 48 (s1.part p).clusters)

/-- The member-table entry of a catalogue for this module agrees with its own part (R350 step 4). -/
def State.catMatches (s : State) (p : Nat) (cat : List Byte) : Bool :=
  (List.range (imgField cat 0x10 4)).any fun i => (cat.drop (64 + 64 * i)).take 64 == infoPart (s.infoOf p)

/-- CURATOR_SEAL at a member (R350 step 4, R359 step 5). -/
def execCuratorSeal (p : PartId) (cat : List Byte) (s : State) : Out :=
  .next (
    let q := s.part p
    if q.anchor = s.reg bFAB ∨ !s.catMatches p cat then s
    else if q.st = .reserved then (s.sealPart p cat).emit (.curator q.anchor 7 0 0)
    else if q.st = .rebinding then (s.flipPart p cat).emit (.curator q.anchor 24 0 0)
    else s)

/-! Re-binding (R128, R358 to R361) -/

/-- A pause ends on this module: cores resume, waiters join again, SEALED (R359 step 6, R361, R409). -/
def State.resumePart (s : State) (p : Nat) : State :=
  let q := s.part p
  let d := s.now - q.pauseAt
  let s1 := (s.setReg (bCMP + 0x80 * p + 0x44) (d / 1000)).bump (bCMP + 0x80 * p + 0x4C) 1
  let s2 := s1.modPart p fun q =>
    { q with launch := q.launch.map fun l => { l with rebind := false, carried := false, paused := l.paused + d } }
  let s3 : State := { s2 with cores := resumeAll p s2.cores }
  (s3.setSt p .sealed).rejoin (s3.sleepers p)

/-- The members an update leaves out are told to dissolve (R356). -/
def State.dropMembers (s : State) (old new_ : List EnvMember) : State :=
  s.emits ((old.filter fun m => new_.all fun n => n.fid != m.fid).map fun m => .curator m.fid 17 0 0)

/-- The anchor ends a re-bind: RESUME to every member (R359 step 6). -/
def State.resumeAllMembers (s : State) (p : Nat) : State :=
  let q := s.part p
  let s1 := ((s.tellMembers p 25 0 0).dropMembers q.members (match q.newEnv with
    | some e => e.members
    | none => q.members)).commitUpdate p
  let s2 := (s1.resumePart p).modPart p fun q => { q with resumedAt := s.now }
  ((s2.opEnd p 0).launchNext p).grantSwitches 32

/-- The anchor assembles the catalogue of the new epoch and sends it; its own part flips (R359 step 5). -/
def State.flipSend (s : State) (p : Nat) (table : List WinRow) : State :=
  let q := s.part p
  let cat := catalogueOf q (q.epoch + 1) table
  let s1 := ((s.modOp p fun o => { o with step := 3, wait := s.otherMembers p }).tellBytes p 6 (q.epoch + 1) cat).flipPart p cat
  if (s1.otherMembers p).isEmpty then s1.resumeAllMembers p else s1

/-- A plan dropped, at every member (R352). -/
def State.planDropped (s : State) (p code : Nat) : State :=
  let s1 := ((s.tellMembers p 28 1 0).dropUpdate p).modPart p fun q =>
    { q with launch := q.launch.map fun l => { l with rebind := false, carried := false } }
  let s2 : State := { s1 with cores := resumeAll p s1.cores }
  (s2.opEnd p code).launchNext p

/-- The pause begins at the anchor (R359 step 1). -/
def State.pauseStart (s : State) (p : Nat) : State :=
  match (s.part p).plan with
  | none => s
  | some plan =>
    let r := s.migrate p plan
    if r.2 ≠ 0 then s.planDropped p r.2
    else
      let s1 := (r.1.modOp p fun o => { o with step := 2, wait := s.otherMembers p }).modPart p fun q =>
        { (q.addPlaces (s.reg bFAB) plan.places) with infos := q.infos.filter (·.fid != s.reg bFAB) ++ [r.1.infoOf p] }
      if (s1.otherMembers p).isEmpty then s1.flipSend p plan.table else s1.tellMembers p 4 0 0

/-- Every plan is made: the launch is asked to stop; without one the stop is immediate (R128, R358). A core that has reached
END carries the request to the end of the launch. -/
def State.rebindGo (s : State) (p : Nat) : State :=
  let q := s.part p
  match q.op with
  | none => s
  | some o =>
    if !(o.op = 3 ∨ o.op = 4) ∨ o.step ≠ 0 ∨ q.plan.isNone ∨ !o.wait.isEmpty then s
    else
      let s1 := (s.modOp p fun o => { o with step := 1 }).tellMembers p 21 0 0
      match q.launch with
      | some l =>
        let ended := s.cores.any fun e => e.2.part == p && e.2.st == .done
        s1.modPart p fun q => { q with launch := some { l with rebind := !ended, carried := ended } }
      | none => if (s1.otherMembers p).isEmpty ∧ s1.now ≥ q.resumedAt + 10000 then s1.pauseStart p else s1

/-- A re-bind begun: the Curators plan while the composition runs (R358). -/
def State.rebindBegin (s : State) (p : Nat) (descs : List (Nat × Nat)) (mctp : List Nat) : State :=
  (s.opBegin p 3 descs mctp none).tellMembers p 19 0 0

/-- A re-bind request of the anchor's partition: begun, joined to one in planning, or refused with STATE (R352, R358). -/
def State.rebindAsk (s : State) (p : Nat) (descs : List (Nat × Nat)) (mctp : List Nat) : State :=
  let q := s.part p
  match q.op with
  | some o =>
    if o.op = 3 ∧ o.step = 0 then s.modOp p fun o => { o with descs := o.descs ++ descs, mctp := o.mctp ++ mctp }
    else s.bindEnd p 3 0x0D descs mctp
  | none => if q.st = .sealed then s.rebindBegin p descs mctp else s.bindEnd p 3 0x0D descs mctp

/-- BIND_REBIND (R358). -/
def execBindRebind (from_ : BindFrom) (s : State) : Out :=
  .next (if s.bindWaits from_ then s
    else s.bindGo from_ 4 fun descs mctp comp _ s =>
      match s.anchorOf comp with
      | none => s.bindReply descs mctp comp 0x0D
      | some p => s.rebindAsk p descs mctp)

/-- REBIND_REQUEST (R128, R353, R358): at the anchor CMP_PART_CTRL.REBIND written through PF0, ignored but in SEALED (R371): it
joins a plan being computed, and one that comes later, or while the Curator serves another operation, keeps the bit and waits for
a REBIND_REQUEST that finds the Curator free (log 1); at
another member the anchor's request to stop, which a member with a core that has reached END carries to the end of the launch. -/
def execRebindRequest (p : PartId) (s : State) : Out :=
  .next (
    let q := s.part p
    if q.st = .free then s
    else if q.anchor = s.reg bFAB then
      if q.st ≠ .sealed then s
      else
        let s1 := s.setBits (kPartCtrl p) 1
        match q.op with
        | some o => if o.op = 3 ∧ o.step = 0 then s1 else s1.modPart p fun q => { q with rebindDue := true }
        | none =>
          if s.curBusy then s1.modPart p fun q => { q with rebindDue := true }
          else (s1.modPart p fun q => { q with rebindDue := false }).rebindBegin p [] []
    else match q.launch with
      | some l =>
        if s.cores.any fun e => e.2.part == p.val && e.2.st == .done then
          (s.modPart p fun q => { q with launch := some { l with carried := true } }).emit (.curator q.anchor 29 0 0)
        else s.modPart p fun q => { q with launch := some { l with rebind := true } }
      | none => s.emit (.curator q.anchor 22 0 0))

/-- REBIND_PLAN_DONE (R340, R358): this module's plan, or the result that refuses it; a plan that does not hold is refused
before any core stops. -/
def execRebindPlanDone (p : PartId) (result : Fin 16) (plan : PlaceSpec) (s : State) : Out :=
  .next (
    let q := s.part p
    let plan := s.placedPlan p plan
    let code := if result.val ≠ 0 then result.val else (s.migrate p plan).2
    if q.st ≠ .sealed then s
    else if q.anchor ≠ s.reg bFAB then
      ((if code = 0 then s.modPart p fun q => { q with plan := some plan } else s)).emit (.curator q.anchor 20 code 0)
    else match q.op with
      | none => s
      | some o =>
        if !(o.op = 3 ∨ o.op = 4) ∨ o.step ≠ 0 ∨ q.plan.isSome then s
        else if code ≠ 0 then s.planDropped p code
        else (s.modPart p fun q => { q with plan := some plan }).rebindGo p)

/-- RESUME at a member (R128 step 5, R361): after the flip the cores go on at the new placement; before it, the request is
carried to the end of the launch. -/
def execResume (p : PartId) (s : State) : Out :=
  .next (
    let q := s.part p
    if q.anchor = s.reg bFAB then s
    else if q.st = .rebinding then ((s.commitUpdate p).resumePart p)
    else match q.launch with
      | some l =>
        if l.rebind then
          { s.modPart p (fun q => { q with launch := some { l with rebind := false, carried := true } }) with cores := resumeAll p s.cores }
        else s
      | none => s)

/-! Envelope updates (R354 to R356) -/

/-- Virtual clusters that each member is home to. -/
def homedOn (q : Part) (fid slot : Nat) : Nat :=
  ((q.mplaces.filter fun m => m.1 == fid).map fun m => ((m.2.filter fun x => x.slot == slot).map fun x => x.vclus.length).sum).sum

/-- R356: the update would take units that hold homes. -/
def unitsHeld (q : Part) (e : Envelope) : Bool :=
  q.members.any fun m =>
    match e.entryOf m.fid with
    | some n => q.slots.any fun i => decide (n.clusters < homedOn q m.fid i)
    | none => q.mplaces.any fun x => x.1 == m.fid && x.2.any fun y => !y.vclus.isEmpty || !y.vgrps.isEmpty || !y.dobjs.isEmpty

/-- The members' preparations of an update are in (R354): a RESERVED composition takes it at once, a SEALED one plans its
re-bind. -/
def State.updateGo (s : State) (p : Nat) : State :=
  let q := s.part p
  match q.op with
  | none => s
  | some o =>
    if !o.wait.isEmpty then s
    else if o.result ≠ 0 then s.planDropped p o.result
    else if q.st = .reserved then
      let s1 := ((s.tellMembers p 28 0 0).dropMembers q.members (match o.env with
        | some e => e.members
        | none => q.members)).commitUpdate p
      s1.opEnd p 0
    else (s.modOp p fun o => { o with wait := s.otherMembers p }).tellMembers p 19 0 0

/-- An update keeps the partition's role and flags (R17, R335): the spec names no result for an envelope that gives others, so its
entries are judged by the partition's, and its own ROLE and FLAGS have no effect (DESIGN CHOICE, log 53). -/
def Part.ownRole (q : Part) (e : Envelope) : Envelope := { e with role := q.role, flags := q.flags }

/-- BIND_ENVELOPE_UPDATE (R17, R18, R335, R336, R354 to R356). -/
def execBindEnvelopeUpdate (from_ : BindFrom) (s : State) : Out :=
  .next (if s.bindWaits from_ then s
    else s.bindGo from_ 3 fun descs mctp _ env s =>
      let e := envelopeOf env
      match s.anchorOf e.comp with
      | none => s.bindReply descs mctp e.comp 0x0D
      | some p =>
        let q := s.part p
        match e.entryOf (s.reg bFAB) with
        | none => s.bindEnd p 4 1 descs mctp
        | some m =>
          if !(q.st = .reserved ∨ q.st = .sealed) ∨ q.op.isSome then s.bindEnd p 4 0x0D descs mctp
          else if s.envelopeBad e ∨ s.envelopeBad (q.ownRole e) ∨ e.anchor ≠ q.anchor ∨ e.seq ≤ q.envSeq then
            s.bindEnd p 4 1 descs mctp
          else if e.sfr ≠ schedFmtRev then s.bindEnd p 4 2 descs mctp
          else if unitsHeld q e then s.bindEnd p 4 0x0E descs mctp
          else
            let r := s.accede p e m
            if r.2 ≠ 0 then s.bindEnd p 4 r.2 descs mctp
            else
              let s1 := r.1.opBegin p 4 descs mctp (some e)
              let others := (e.members.map (·.fid)).filter (· ≠ s.reg bFAB)
              let s2 := s1.modOp p fun o => { o with wait := others }
              (s2.emits (others.flatMap fun f => [.curator f 2 e.comp 0, .catalogue f env])).updateGo p)

/-! Reports (R338, R349, R350, R357, R359, R364, R389, R524) -/

/-- A fault that another member has met (R138). -/
def State.remoteFault (s : State) (p vcore code : Nat) : State :=
  match (s.part p).launch with
  | none => s
  | some l =>
    if l.result ≠ 0 then s
    else
      let s1 := s.modPart p fun q => { q with launch := some { l with result := 1, faultCore := vcore, faultCode := code } }
      let s2 : State := { s1 with cores := stopOthers p 0xFFFFFFFF s1.cores }
      if (s.part p).anchor = s.reg bFAB then s2.tellMembers p 14 vcore code else s2

/-- The members' stops compared (R128 steps 3 and 4): the pause begins once all stand at one instance; the others go on to
the largest. -/
def State.stopsGo (s : State) (p : Nat) : State :=
  let q := s.part p
  let n : Nat := q.stops.foldl (fun a x => max a x.2) 0
  let low : List (Nat × Nat) := q.stops.filter fun x => decide (x.2 < n)
  if !(q.members.all fun m => q.stops.any fun x => x.1 == m.fid) then s
  else if low.isEmpty then (if allStopped p n s.cores then s.pauseStart p else s)
  else
    let s1 := s.modPart p fun q => { q with stops := q.stops.filter fun x => decide (x.2 ≥ n) }
    let s2 := s1.emits ((low.filter fun x => x.1 != s.reg bFAB).map fun x => .curator x.1 22 n 1)
    if low.any fun x => x.1 == s.reg bFAB then { s2 with cores := passBelow p n s2.cores } else s2

/-- A member struck from those an operation waits for, with its first failing result. -/
def BindOp.heard (o : BindOp) (fid result : Nat) : BindOp :=
  { o with wait := o.wait.filter (· ≠ fid), result := if o.result = 0 then result else o.result }

/-- A report that the anchor's operation waits for. -/
def State.opReport (s : State) (p fid : Nat) (rep : Report) (o : BindOp) : State :=
  match rep with
  | .prepared result info =>
    let s1 := (s.modOp p fun o => o.heard fid result).modPart p fun q => { q with infos := q.infos.filter (·.fid != fid) ++ [info] }
    if o.op = 4 then s1.updateGo p
    else if o.op ≠ 1 ∨ !(o.heard fid result).wait.isEmpty then s1
    else if (o.heard fid result).result = 0 then s1.opEnd p 0
    else s1.undoReserve p (o.heard fid result).result |>.dissolveGo p
  | .placed result info places =>
    let s1 := (s.modOp p fun o => o.heard fid result).modPart p fun q =>
      if places.isEmpty then q else { (q.addPlaces fid places) with infos := q.infos.filter (·.fid != fid) ++ [info] }
    let h := o.heard fid result
    if !h.wait.isEmpty then s1
    else if o.op = 2 then
      if h.result ≠ 0 then s1.opEnd p h.result
      else match (s1.part p).plan with
        | some plan => s1.sealSend p plan.table
        | none => s1
    else if o.step = 0 then (if h.result ≠ 0 then s1.planDropped p h.result else s1.rebindGo p)
    else if o.step = 2 then
      match (s1.part p).plan with
      | some plan => s1.flipSend p plan.table
      | none => s1
    else s1
  | .sealed_ _ =>
    let s1 := s.modOp p fun o => o.heard fid 0
    if o.op = 2 ∧ o.step = 1 ∧ (o.heard fid 0).wait.isEmpty then s1.opEnd p 0 else s1
  | .flipped _ info places =>
    let s1 := (s.modOp p fun o => o.heard fid 0).modPart p fun q =>
      { (q.addPlaces fid places) with infos := q.infos.filter (·.fid != fid) ++ [info] }
    if o.step = 3 ∧ (o.heard fid 0).wait.isEmpty then s1.resumeAllMembers p else s1
  | .dissolved => (s.modOp p fun o => o.heard fid 0).dissolveGo p
  | _ => s

/-- A LOAD's reply from a member (R389). -/
def State.loadReport (s : State) (p fid slot status : Nat) (places : List SlotPlace) : State :=
  match (s.part p).loads.find? fun l => l.slot == slot with
  | none => s
  | some l =>
    let l1 := { l with wait := l.wait.filter (· ≠ fid), status := if l.status = 0 then status else l.status }
    let s1 := s.modPart p fun q => { (q.addPlaces fid places) with loads := q.loads.map fun x => if x.desc = l.desc then l1 else x }
    if !l1.wait.isEmpty then s1
    else
      let s2 := s1.modPart p fun q => { q with loads := q.loads.filter (·.desc != l.desc) }
      if l1.status = 0 then s2.loadEnd l.desc 0 slot
      else ((s2.dropImage p slot).tellMembers p 13 slot 0).loadEnd l.desc l1.status slot

/-- MEMBER_REPORT: what a member's Curator tells the anchor, or the anchor a member, or a module's own cores their Curator
(R338). -/
def execMemberReport (p : PartId) (fid : Fin 16384) (rep : Report) (s : State) : Out :=
  .next (
    let q := s.part p
    let atAnchor := q.anchor == s.reg bFAB
    match rep with
    | .faulted v code => s.remoteFault p v code
    | .stopped n =>
      if fid.val = s.reg bFAB ∧ !allStopped p n s.cores then s
      else if !atAnchor then (if fid.val = s.reg bFAB then s.emit (.curator q.anchor 22 n 0) else s)
      else match q.op with
        | some o =>
          if o.step ≠ 1 ∨ s.now < q.resumedAt + 10000 then s
          else (s.modPart p fun q => { q with stops := q.stops.filter (·.1 != fid.val) ++ [(fid.val, n)] }).stopsGo p
        | none => s
    | .carried =>
      if !atAnchor then s
      else match q.launch with
        | some l =>
          if l.rebind then
            let s1 := (s.modPart p fun q => { q with launch := some { l with carried := true, rebind := false }, stops := [] }).tellMembers p 25 0 0
            { s1 with cores := resumeAll p s1.cores }
          else s
        | none => s
    | .passTo n => if atAnchor then s else { s with cores := passBelow p n s.cores }
    | .loaded slot status places => if atAnchor then s.loadReport p fid slot status places else s
    | .launchEnd result core code =>
      if !atAnchor then s
      else match q.launch with
        | none => s
        | some l =>
          let l1 := if l.result = 0 ∧ result ≠ 0 then { l with result := result, faultCore := core, faultCode := code } else l
          let l2 := { l1 with waiting := l1.waiting.filter (· ≠ fid.val), carried := l1.carried || l1.rebind, rebind := false }
          let s1 := s.modPart p fun q => { q with launch := some l2 }
          if l.rebind then { s1.tellMembers p 25 0 0 with cores := resumeAll p s1.cores } else s1
    | .switchedIn =>
      if atAnchor then (s.modPart p fun q => { q with swWait := q.swWait.filter (· ≠ fid.val) }).launchNext p else s
    | .resetDone =>
      match q.rst with
      | some r => if atAnchor then (s.modPart p fun q => { q with rst := some { r with heard := r.heard ++ [fid.val] } }).resetGo p else s
      | none => s
    | r => match q.op with
      | some o => if atAnchor ∧ (o.wait.contains fid.val ∨ r = .dissolved) then s.opReport p fid r o else s
      | none => s)

/-- A member is given up: it was unreachable or exceeded its bound (code 0x0A), or is lost (0x0B) (R338, R352, R357, R362). -/
def State.memberGone (s : State) (p code : Nat) : State :=
  let q := s.part p
  match q.op with
  | none => s
  | some o =>
    if o.op = 1 then (s.undoReserve p code).dissolveGo p
    else if o.op = 5 then (s.modOp p fun o => { o with wait := [] }).dissolveGo p
    else if o.op = 2 then (if code = 0x0B then (s.opEnd p code).setSt p .failed else s.opEnd p code)
    else if q.st = .reserved then s.planDropped p code
    else ((s.opEnd p code).setSt p .failed).resetStart p (if code = 0x0B then .lost else .rebind)

/-- MEMBER_TIMEOUT (R352): a member exceeded its step bound. -/
def execMemberTimeout (p : PartId) (s : State) : Out :=
  .next (
    let q := s.part p
    match q.op with
    | some o => if q.anchor = s.reg bFAB ∧ !o.wait.isEmpty then s.memberGone p 0x0A else s
    | none => s)

/-- The message that an operation waits for a reply to, sent once more (R338). -/
def State.resendTo (s : State) (fid : Nat) (q : Part) (o : BindOp) : State :=
  match o.op, o.step with
  | 1, _ => s.emit (.curator fid 2 q.comp 0)
  | 5, _ => s.emit (.curator fid 17 0 0)
  | 2, 0 => s.emit (.curator fid 4 0 0)
  | 2, _ => s.emits [.curator fid 6 1 0, .catalogue fid q.catalogue]
  | _, 0 => s.emit (.curator fid 19 0 0)
  | _, 1 => s.emit (.curator fid 21 0 0)
  | _, 2 => s.emit (.curator fid 4 0 0)
  | _, _ => s.emits [.curator fid 6 q.epoch 0, .catalogue fid q.catalogue]

/-- CURATOR_MESSAGE_RETRY (R338): a message ended with TIMEOUT; it is sent again up to three times, and then the receiver is
unreachable. -/
def execCuratorMessageRetry (p : PartId) (fid : Fin 16384) (s : State) : Out :=
  .next (
    let q := s.part p
    match q.op with
    | none => s
    | some o =>
      let n := tblGet (fun _ => 0) q.retries fid.val
      if q.anchor ≠ s.reg bFAB ∨ !o.wait.contains fid.val then s
      else if n < 3 then (s.modPart p fun q => { q with retries := tblSet (fun _ => 0) q.retries fid.val (n + 1) }).resendTo fid q o
      else (s.modPart p fun q => { q with retries := tblSet (fun _ => 0) q.retries fid.val 0 }).memberGone p 0x0A)

/-- COMPOSITION_RESET (R328, R524): at the anchor the start of one of the causes of R524; at another member the anchor's
message, with the cause. A member lost or timed out first ends the operation in progress (R352, R362). -/
def execCompositionReset (p : PartId) (cause : ResetCause) (s : State) : Out :=
  .next (
    let q := s.part p
    if q.anchor = s.reg bFAB then
      if cause = .lost ∧ q.op.isSome then s.memberGone p 0x0B
      else if cause = .lost ∧ q.st.resets then (s.setSt p .failed).resetStart p cause
      else s.resetStart p cause
    else match q.rst with
      | some r => (s.modPart p fun q => { q with rst := some { r with asked := true } }).resetGo p
      | none => if q.st.resets then s.resetLocal p cause true else s)

/-! Switching (R363, R364) -/

/-- SWITCH_IN_REQUEST (R364): an anchor's request for the shared clusters of a partition here, with its launch's acceptance
timestamp; granted in their order where the holders may be switched out. -/
def execSwitchInRequest (p : PartId) (at_ : W64) (s : State) : Out :=
  .next (
    let q := s.part p
    let s1 := if s.switches.any (fun x => x.part == p.val) ∨ q.anchor = s.reg bFAB ∨ !(q.st = .sealed ∨ q.st = .suspended) then s
      else { s with switches := s.switches ++ [⟨p, at_.toNat⟩] }
    s1.grantSwitches 32)

/-- QUANTUM_EXPIRY (R363, R364). -/
def execQuantumExpiry (p : PartId) (s : State) : Out :=
  .next (
    let q := s.part p
    if flagSliceable q.flags ∧ q.st = .sealed ∧ s.now ≥ q.switchAt + 1000 * q.quantum then
      (s.modPart p fun q => { q with quantumOver := true }).grantSwitches 32
    else s)

/-- LAUNCH_COMPLETE (R137, R390): every core's END is reached and every transfer done; the gather goes to the anchor, and
there ends the launch. A re-bind request carried to the end of the launch is served then (R128 step 5). -/
def execLaunchComplete (p : PartId) (s : State) : Out :=
  .next (
    let q := s.part p
    match q.launch with
    | none => s
    | some l =>
      let s1 := if l.carried ∧ q.anchor = s.reg bFAB ∧ !l.waiting.isEmpty then s.tellMembers p 25 0 0 else s
      let s2 := s1.launchComplete p
      let q2 := s2.part p
      if q2.launch.isSome then s2
      else match q2.op with
        | some o =>
          if q.anchor = s.reg bFAB ∧ o.step = 1 ∧ (o.op = 3 ∨ o.op = 4) then
            (if (s2.otherMembers p).isEmpty then s2.pauseStart p else s2.tellMembers p 21 0 0 |>.modPart p fun q =>
              { q with stops := [(s.reg bFAB, 0)] })
          else s2.grantSwitches 32
        | none => s2.grantSwitches 32)

/-! The allocator pool (R367) -/

/-- Pages of region `r` of group `g`. -/
def poolPages (g r : Nat) : List Nat := (List.range (regionPages (12 * g + r))).map fun i => 512 * g + 32 * r + i

def State.setPages (s : State) (v : Option PoolPage) : List Nat → State
  | [] => s
  | x :: xs => (s.setPoolPage x v).setPages v xs

/-- CMP_POOL_ADD (R367, R371): a region without owner of a free or shared group joins the pool; a free group becomes shared. -/
def execCmpPoolAdd (v : W32) (s : State) : Out :=
  .next (
    let g := bits v.toNat 12 8
    let r := bits v.toNat 3 0
    let q := 12 * g + r
    if r ≥ 12 ∨ !s.regionFree q ∨ (s.group g).mode = .dedicated ∨ (s.pool.filter (·.2.isSome)).length + regionPages q > 4096 then s
    else
      let k := s.newKey
      let s1 := k.1.setRegion q { Region.reset with keyed := true, keyNo := k.2 }
      let m := s1.group g
      (s1.setGroup g { m with mode := .shared, exiting := m.exiting || m.selfRefresh }).setPages (some ⟨none, false⟩) (poolPages g r))

/-- CMP_POOL_REMOVE (R367): ignored unless every page of the region is free. -/
def execCmpPoolRemove (v : W32) (s : State) : Out :=
  .next (
    let g := bits v.toNat 12 8
    let r := bits v.toNat 3 0
    if r < 12 ∧ (poolPages g r).all (fun x => s.poolPage x == some ⟨none, false⟩) then
      ((s.setPages none (poolPages g r)).setRegion (12 * g + r) Region.reset).freeIfEmpty g
    else s)

end Sys2Proof.Machine
end

