-- ==== Sys2Proof/Machine/Panel.lean ====
section
/-! DEFINITION. The DC input, the reset button, locate, the cell, the real-time clock and the tamper monitor (spec/21: R563 to R578, R582,
R583). A command whose precondition does not hold has no effect (log 1). -/
namespace Sys2Proof.Machine

/-- The panel changed. -/
def State.modPanel (s : State) (f : Panel → Panel) : State := { s with panel := f s.panel }

/-- An event bit of SVC_PANEL_EVT and its record, while the module runs (R582, R583). -/
def State.panelNote (s : State) (bit event code value : Nat) : State :=
  if s.boot.run then (s.svcEvt (bSVC + 4) (2 ^ bit)).panelRecord event 0 code value else s

/-- A record of class 0x0B without an event bit, while the module runs. -/
def State.panelOnly (s : State) (event code value : Nat) : State :=
  if s.boot.run then s.panelRecord event 0 code value else s

/-- The cell can carry the island: present, not reversed, 2.4 V or more (R575, R583). -/
def Panel.cellPowers (p : Panel) : Bool := p.cell != .absent && p.cell != .reversed && decide (p.mv ≥ 2400)
/-- The island is powered, and the tamper monitor armed (R577). -/
def Panel.armed (p : Panel) : Bool := p.dc || p.cellPowers

/-- The island loses all power (R575, R578): RTC_VALID clears, and the next start reports it. -/
def State.islandLoss (s : State) : State := s.modPanel fun p => { p with rtcValid := false, rtcNs := 0, lostDue := true }
/-- The island loses all power where nothing feeds it any more. -/
def State.islandCheck (s : State) : State := if s.panel.armed then s else s.islandLoss

/-! The DC input (R563, R564) -/

/-- DC_INPUT_RISE (R505, R564): the input comes back after `absent` ms; 1 s or more ends a thermal shutdown. -/
def execDcInputRise (absent : Nat) (s : State) : Out :=
  .next (if s.panel.dc then s
    else
      let s1 := s.modPanel fun p => { p with dc := true, swap := .charging }
      if s.boot.shut ∧ absent ≥ 1000 then { s1 with boot := { s1.boot with shut := false, cause := 8 } } else s1)

/-- The switch moves from one state to another. -/
def State.swapTo (s : State) (a b : HotSwap) : State :=
  if s.panel.dc ∧ s.panel.swap = a then s.modPanel fun p => { p with swap := b } else s

/-- BULK_CHARGED (R564, step 2). -/
def execBulkCharged (s : State) : Out := .next (s.swapTo .charging .charged)

/-- BULK_CHARGE_TIMEOUT (R564, step 2). -/
def execBulkChargeTimeout (s : State) : Out := .next (s.swapTo .charging .retry)

/-- HOT_SWAP_RETRY (R564, step 2). -/
def execHotSwapRetry (s : State) : Out := .next (s.swapTo .retry .charging)

/-- UNDERVOLTAGE (R563). -/
def execUndervoltage (mv : Fin 65536) (s : State) : Out :=
  .next (if s.boot.good ∧ !s.panel.under then (s.modPanel fun p => { p with under := true }).panelNote 7 0x0B 0 mv else s)

/-- UNDERVOLTAGE_CLEARED (R563). -/
def execUndervoltageCleared (s : State) : Out := .next (s.modPanel fun p => { p with under := false })

/-- Power-good removed (R563): every supply but the island is off. -/
def State.powerOff (s : State) : State := if s.boot.good then s.down false 0 else s

/-- BROWN_OUT (R563, R575). -/
def execBrownOut (s : State) : Out :=
  .next (if s.panel.dc then ((s.powerOff.modPanel fun p => { p with dc := false, swap := .open_ })).islandCheck else s)

/-- OVERVOLTAGE (R563): the switch opens and stays open. -/
def execOvervoltage (s : State) : Out :=
  .next (if s.panel.dc then s.powerOff.modPanel fun p => { p with swap := .blocked, overDue := true } else s)

/-- OVERVOLT_RECLOSE (R563). -/
def execOvervoltReclose (s : State) : Out := .next (s.swapTo .blocked .charging)

/-- INPUT_REVERSAL (R563): recorded by the island where a cell is present. -/
def execInputReversal (s : State) : Out :=
  .next (if !s.panel.dc ∧ s.panel.cellPowers then s.modPanel fun p => { p with revDue := true } else s)

/-! The reset button (R565 to R567) -/

/-- BUTTON_RELEASE after `ms` of holding (R565 to R567, Table 5). -/
def execButtonRelease (ms : Nat) (s : State) : Out :=
  .next (if !s.panel.dc then s
    else
      let s1 := s.modPanel fun p => { p with down := false }
      if s.panel.stuck ∨ !s.boot.run ∨ ms < 100 ∨ ms ≥ 8000 then s1
      else if ms > 3000 ∨ !s.boot.ready then s1.panelNote 2 2 0 0
      else (s1.panelNote 0 0 0 0).warmNotice 1)

/-- BUTTON_HOLD_8S (R565 to R567): a hard reset, unless the button is stuck or has not been released for 1 s since the last one; `up`
is how long in ms it had been released before. -/
def execButtonHold8s (up : Nat) (s : State) : Out :=
  .next (
    let p := s.panel
    if !p.dc then s
    else if p.stuck ∨ (p.forced ∧ up < 1000) then s.modPanel fun p => { p with down := true }
    else
      let s1 := s.hardReset 2
      { s1 with panel := { s1.panel with down := true, forced := true, hardDue := true }, boot := { s1.boot with shut := false } })

/-- BUTTON_STUCK (R566). -/
def execButtonStuck (s : State) : Out :=
  .next (if !s.panel.dc ∨ s.panel.stuck then s
    else (s.modPanel fun p => { p with stuck := true, down := true }).panelNote 3 3 0 0)

/-- BUTTON_UNSTUCK (R566): released for 1 s. -/
def execButtonUnstuck (s : State) : Out :=
  .next (if s.panel.stuck then s.modPanel fun p => { p with stuck := false, down := false, forced := false } else s)

/-! Locate (R569, R570) -/

/-- SVC_LOCATE. -/
def kLocate : Nat := bSVC + 8

/-- ON and TIMEOUT as given; a change of ON is recorded, and a 1 starts the timeout (R570). -/
def State.locate (s : State) (v : Nat) : State :=
  let old := bitAt (s.reg kLocate) 0
  let s1 := s.setReg kLocate v
  let s2 := if bitAt v 0 then s1.modPanel fun p => { p with locSince := s.now } else s1
  if bitAt v 0 = old then s2 else s2.panelOnly 0x0E (v % 2) 0

/-- LOCATE_TOUCH (R570): ON inverted, but for a stuck key (R569). -/
def execLocateTouch (s : State) : Out :=
  .next (if !s.boot.run ∨ bitAt (s.reg (bSVC + 0x10)) 24 then s
    else
      let r := s.reg kLocate
      s.locate (if bitAt r 0 then r - 1 else r + 1))

/-- The bits of a 32-bit value that a mask reaches. -/
def masked (v m : Nat) : Nat := v &&& m

/-- SVC_LOCATE written through PF0 or over MCTP (R570). -/
def execSvcLocate (mctp : Bool) (v : W32) (s : State) : Out :=
  .next (if s.boot.run ∧ (mctp ∨ s.hostOn 0) then s.locate (masked v.toNat 0xFF01) else s)

/-- LOCATE_TIMEOUT (R570): TIMEOUT minutes after ON was last set. -/
def execLocateTimeout (s : State) : Out :=
  .next (
    let r := s.reg kLocate
    let t := bits r 15 8
    if s.boot.run ∧ bitAt r 0 ∧ t ≠ 0 ∧ s.now ≥ s.panel.locSince + t * 60000000000 then s.locate (r - 1) else s)

/-! The cell (R573 to R576) -/

/-- Cell state code (Table 7). -/
def CellSt.code : CellSt → Nat
  | .absent => 0 | .settling => 1 | .charging => 2 | .full => 3 | .reversed => 4 | .fault => 5 | .disabled => 6

/-- SVC_BATT_CTRL. -/
def kBattCtrl : Nat := bSVC + 0x24
/-- The charge current in 10 µA (R573): constant below and from 2.5 V; at 3.10 V ± 30 mV the voltage is constant instead, and the
current, which no rule then gives, is `free` (log 45). -/
def chargeCur (free mv : Nat) : Nat := if mv < 2500 then 10 else if mv < 3070 then 100 else free % 101

/-- The cell in a new state, with what it then reads; an exit from SETTLING is recorded, and `note` records an entry (R574). -/
def State.cellTo (s : State) (st : CellSt) (mv cur : Nat) (note : Option Nat) : State :=
  let s1 := s.modPanel fun p => { p with cell := st, mv := mv, cur := cur }
  let s2 := if s.panel.cell = .settling ∧ st ≠ .settling then s1.panelNote 5 6 st.code mv else s1
  let s3 := match note with
    | some e => s2.panelNote 5 e st.code mv
    | none => s2
  s3.coverage.islandCheck

/-- The cell charging, at a new voltage. -/
def State.chargeAt (s : State) (mv : Nat) : State := s.draw.cellTo .charging mv (chargeCur (Config.free s.freeCtr) mv) none

/-- CELL_INSERTED (R574): SETTLING. -/
def execCellInserted (mv : Fin 65536) (s : State) : Out :=
  .next (if s.panel.cell = .absent then s.cellTo .settling mv 0 none else s)

/-- Charging, or DISABLED where CHARGE_EN is 0. -/
def State.chargeCell (s : State) (mv : Nat) : State :=
  if bitAt (s.reg kBattCtrl) 0 then s.chargeAt mv else s.cellTo .disabled mv 0 none

/-- CELL_SETTLED (R574). -/
def execCellSettled (mv : Fin 65536) (s : State) : Out :=
  .next (if s.panel.cell = .settling then s.chargeCell mv else s)

/-- CELL_REMOVED (R574, R575). -/
def execCellRemoved (s : State) : Out :=
  .next (if s.panel.cell = .absent then s else s.cellTo .absent 0 0 (some 5))

/-- CELL_REVERSED (R574): VOLTS reads zero. -/
def execCellReversed (s : State) : Out :=
  .next (if s.panel.cell = .reversed then s else s.cellTo .reversed 0 0 (some 7))

/-- CELL_FULL (R573). -/
def execCellFull (mv : Fin 65536) (s : State) : Out :=
  .next (if s.panel.cell = .charging then s.cellTo .full mv 0 none else s)

/-- CELL_RECHARGE (R573). -/
def execCellRecharge (mv : Fin 65536) (s : State) : Out :=
  .next (if s.panel.cell = .full ∧ mv.val < 3000 then s.chargeCell mv else s)

/-- CELL_FAULT (R574): of a cell that is present. -/
def execCellFault (mv : Fin 65536) (s : State) : Out :=
  .next (match s.panel.cell with
    | .absent | .reversed | .fault => s
    | _ => s.cellTo .fault mv 0 (some 8))

/-- CELL_VOLTAGE_THRESHOLD (R576): the cell reads a new voltage. -/
def execCellVoltageThreshold (mv : Fin 65536) (s : State) : Out :=
  .next (match s.panel.cell with
    | .absent | .reversed => s
    | .charging => s.chargeAt mv
    | st => s.cellTo st mv 0 none)

/-- CHARGE_EN (R574, R583), written through PF0 or over MCTP. -/
def execChargeEn (mctp on : Bool) (s : State) : Out :=
  .next (if !s.boot.run ∨ (!mctp ∧ !s.hostOn 0) then s
    else
      let s1 := s.setReg kBattCtrl (b2n on)
      match s1.panel.cell, on with
      | .disabled, true => s1.chargeCell s1.panel.mv
      | .charging, false | .full, false => s1.cellTo .disabled s1.panel.mv 0 none
      | _, _ => s1)

/-- ISLAND_POWER_LOSS (R575): with no DC input, the cell falls below 2.4 V. -/
def execIslandPowerLoss (s : State) : Out := .next (if s.panel.dc then s else s.islandLoss)

/-! The clock and the tamper monitor (R577, R578) -/

/-- SVC_RTC_SET (R578): accepted only while RTC_VALID is 0. -/
def execSvcRtcSet (mctp : Bool) (v : W64) (s : State) : Out :=
  .next (if !s.boot.run ∨ (!mctp ∧ !s.hostOn 0) ∨ s.panel.rtcValid then s
    else ((s.modPanel fun p => { p with rtcValid := true, rtcNs := ceilDiv (v.toNat * 1000000000) 32768 }).panelOnly 0x0A 0 v.toNat).coverage)

/-- TAMPER_EVENT (R577): the cover, or the cold plate, opens while the monitor is armed. -/
def execTamperEvent (plate : Bool) (s : State) : Out :=
  .next (if !s.panel.armed then s
    else
      let s1 := s.modPanel fun p =>
        { p with open_ := true, source := if plate then 2 else 1, tampers := satAdd 0xFFFF p.tampers 1, tamperTime := p.rtc }
      if s.boot.run then (s1.secEvent 1 0x0A 0 0).svcEvt (bSVC + 4) 0x100
      else s1.modPanel fun p => { p with tamperDue := p.tamperDue + 1 })

/-! Views (R533, R559, R571, R583) -/

/-- SVC_PANEL_STATUS (Tables 6 and 11). -/
def State.panelStatus (s : State) : Nat :=
  let p := s.panel
  let keys := s.reg (bSVC + 0x10)
  let pwr := if s.boot.shut then 3 else if p.under then 2 else b2n s.boot.good
  let st := if s.boot.recovery then 4 else if s.boot.pending.isSome then 3 else if s.boot.ready then 1 else if s.boot.good then 2 else 0
  let fault := if s.reg kSecAlarm ≠ 0 ∨ (p.open_ ∧ !s.boot.good) then 3 else if p.stuck ∨ keys ≠ 0 then 2 else if p.cov ≠ .full then 1 else 0
  b2n p.down * 2 ^ 31 + b2n p.stuck * 2 ^ 30 + b2n (bitAt keys 24) * 2 ^ 29 + pwr * 256 + st * 16 + fault

/-- SVC_BATT (Table 12). -/
def Panel.batt (p : Panel) : Nat := p.cell.code * 2 ^ 28 + p.cov.code * 2 ^ 26 + p.cur % 1024 * 2 ^ 16 + p.mv

/-- SVC_ISLAND (Table 11). -/
def Panel.island (p : Panel) : Nat :=
  b2n p.rtcValid * 2 ^ 31 + b2n p.powerLost * 2 ^ 30 + b2n p.armed * 2 ^ 29 + p.source * 2 ^ 24 + p.tampers

/-- SVC_INPUT (Table 11). -/
def Panel.input (p : Panel) : Nat := b2n p.rev * 4 + b2n p.overV * 2 + b2n p.under

/-- SVC_RESET_STAT (R533, Table 11). -/
def Boot.resetStat (b : Boot) : Nat := b2n b.pending.isSome * 2 ^ 31 + b.cause * 2 ^ 16

/-- Some link is still training (R534, step 8). -/
def State.training (s : State) : Bool :=
  s.links.any fun e => e.2.st == .detect || e.2.st == .equalise || e.2.st == .align || e.2.st == .neighbour

/-- SVC_FW_BOOT (R559, Table 8). -/
def State.fwBoot (s : State) : Nat :=
  let stage := if s.boot.stage = 4 ∧ !s.training then 5 else s.boot.stage
  b2n s.boot.recovered * 2 ^ 31 + b2n s.boot.copied * 2 ^ 30 + stage * 2 ^ 16 + b2n s.boot.ready

/-- SVC_FW_NOR (R559, Table 8). -/
def FwSt.nor (f : FwSt) : Nat := b2n f.norWear * 2 ^ 31 + b2n f.norFail * 2 ^ 30 + f.slow

end Sys2Proof.Machine
end

