-- ==== Sys2Proof/Machine/Time.lean ====
section
/-! DEFINITION. Fabric time (spec/02: R40 to R49; spec/11: R278, R279). -/
namespace Sys2Proof.Machine

def kTsCtrl : Nat := bFAB + 0x40C

/-- The Fabric ID of the sender's time root, 0x3FFF when UNSYNCED (R279). -/
def State.tsRoot (s : State) : Nat :=
  match s.time.st with
  | .unsynced => 0x3FFF
  | .root => s.reg bFAB
  | _ => s.time.root

/-- Code of a time-synchronisation state (R48, Table 11). -/
def TsSt.code : TsSt → Nat
  | .unsynced => 0 | .acquiring => 1 | .locked => 2 | .holdover => 3 | .root => 4

/-- VALID (R45). -/
def TimeSync.valid (t : TimeSync) : Bool := (t.st == .root || t.st == .locked || t.st == .holdover) && !t.conflict

/-- PARENT_LINK and HOPS read none and zero in ROOT and UNSYNCED (R48). -/
def TimeSync.follows (t : TimeSync) : Bool := t.st == .acquiring || t.st == .locked || t.st == .holdover

/-- FAB_TS_STATUS (R48, Table 11). -/
def TimeSync.status (t : TimeSync) : Nat :=
  (if t.follows then t.link else 0xFF) * 65536 + (if t.follows then t.hops else 0) * 256 + b2n t.conflict * 16 +
    b2n t.valid * 8 + t.st.code

/-- FAB_TS_OFFSET in ps (R48). -/
def State.tsOffset (s : State) : Nat :=
  let o := s.time.offset
  if !s.time.follows then 0
  else if -(2 ^ 31 : Int) ≤ o ∧ o < 2 ^ 31 then unsigned 32 o
  else (Config.tsOffset s.freeCtr).toNat

/-- FAB_TS_CTRL (R48, R49): a MODE of 0b11 leaves MODE as it is; a change waits for the next exchange period. -/
def execFabTsCtrl (v : W32) (s : State) : Out :=
  .next (
      let mode := if v.toNat % 4 = 3 then s.reg kTsCtrl % 4 else v.toNat % 4
      let x := bits v.toNat 15 8 * 256 + mode
      let s1 := s.setReg kTsCtrl x
      { s1 with time := { s.time with pendingCtrl := s.time.pendingCtrl || decide (x ≠ s.time.ctrl) } })

/-- FAB_TS_SET (R43, R48): in ROOT only, and never backwards. -/
def execFabTsSet (v : W64) (s : State) : Out :=
  .next (if s.time.st = .root ∧ s.now ≤ v.toNat then { s with now := v.toNat } else s)

/-- Not following any parent; the next state of Table 9 is taken where its condition already holds. -/
def State.restartTime (s : State) (ctrl : Nat) : State :=
  let t : TimeSync := { s.time.unsync with ctrl := ctrl, pendingCtrl := false }
  let p := bits ctrl 15 8
  if ctrl % 4 = 2 then { s with time := { t with st := .root } }
  else if ctrl % 4 = 1 ∧ p < 96 ∧ (s.lnk p).st = .active then { s with time := t.acquire p false }
  else { s with time := t }

/-- A pending write of FAB_TS_CTRL takes effect (R49): from LOCKED, a new parent whose ACTIVE link's exchanges name the same root
is taken without a step of the counter. -/
def State.applyTsCtrl (s : State) : State :=
  let t := s.time
  let new := s.reg kTsCtrl
  let p := bits new 15 8
  if !t.pendingCtrl then s
  else if t.st = .locked ∧ new % 4 = 1 ∧ t.ctrl % 4 = 1 ∧ p < 96 ∧ (s.lnk p).st = .active ∧ (s.lnk p).rxRoot = t.root then
    { s with time := { t.acquire p true with ctrl := new, pendingCtrl := false } }
  else s.restartTime new

/-- TIME_SEND (R49, R278, R279): the exchange period of link `i`; `frac` is the stamp's part of a nanosecond. -/
def execTimeSend (i : LinkId) (frac : Fin 16) (s : State) : Out :=
  .next (
    let s1 := s.applyTsCtrl
    let l := s1.lnk i
    if l.st = .active then
      let at_ := (s1.now * 16 + frac) % 2 ^ 48
      let hops := if s1.time.follows then s1.time.hops else 0
      let pay := at_ * 2 ^ 80 + l.rxTimeAt * 2 ^ 32 + l.timeSeq * 2 ^ 24 + l.rxTimeSeq * 2 ^ 16 + s1.tsRoot * 4 + hops
      (s1.setLnk i { l with timeSeq := (l.timeSeq + 1) % 256,
                            txTimes := tblSet (fun _ => 0) l.txTimes l.timeSeq at_ }).control i 6 pay true
    else s1)

/-- Offset from the parent in units of 1/4 of 125 ps, from the four stamps (R279): twice the mean of both directions. It is
the parent's time less the module's, positive where the module is behind (DESIGN CHOICE log 26). -/
def stampOffset (t1 t2 t3 t4 : Nat) : Int := signed 48 (t2 + 2 ^ 48 - t1) + signed 48 (t3 + 2 ^ 48 - t4)
/-- Twice the link delay in units of 62.5 ps. -/
def stampDelay (t1 t2 t3 t4 : Nat) : Int := signed 48 (t4 + 2 ^ 48 - t1) - signed 48 (t3 + 2 ^ 48 - t2)

/-- The rate correction of a measured offset, within ±100 ppm (R43; log 26). -/
def rateOf (o : Int) : Int := max (-100000) (min 100000 (Config.tsRate o))

/-- ACQUIRING (R43): one forward step where the module is behind, −500 ppm until the offset is removed where it is ahead; what
is left behind after the step is left to the rate correction (log 26). -/
def State.acquireBy (s : State) (o : Int) : State :=
  let t := s.time
  if o < 0 then { s with time := { t with slew := o * 10 ^ 6, rate := -500000 } }
  else if t.stepped then { s with time := { t with slew := 0, rate := rateOf o } }
  else
    let r := t.carry (o * 10 ^ 6)
    { s with now := (s.now + r.1) % 2 ^ 64, time := { r.2 with slew := 0, rate := 0, stepped := decide (o > 0) } }

/-- A measured offset, in ps, acted on (R42, R43). -/
def State.steer (s : State) (o : Int) : State :=
  let t := s.time
  match t.st with
  | .acquiring => s.acquireBy o
  | .locked | .holdover =>
    if o > 1000000 ∨ o < -1000000 then { s with time := t.acquire t.link false }.acquireBy o
    else { s with time := { t with st := .locked, slew := 0, rate := rateOf o } }
  | _ => s

/-- A TIME word on a link that is not the parent's names another root than the parent's, or than the module's own in ROOT (R46,
R47). Until the parent has named its root there is nothing to differ from, and 0x3FFF names no root (DEDUCED log 26). -/
def State.rootDiffers (s : State) (root : Nat) : Bool :=
  let t := s.time
  root != 0x3FFF &&
    (if t.follows then (s.lnk t.link).rxRoot != 0x3FFF && root != (s.lnk t.link).rxRoot else t.st == .root && root != s.reg bFAB)

/-- TIME (R42, R43, R46, R277, R279): the word's payload, the part of a nanosecond of the moment it arrived, its counter and its
MAC. A word accepted in DRAINING says nothing: time exchanges run in ACTIVE (R249, R276). -/
def execTime (i : LinkId) (payload : BitVec 128) (frac : Fin 16) (cctr : Fin (2 ^ 48)) (mac : W64) (s : State) : Out :=
  .next (s.onWord i 6 payload.toNat cctr mac.toNat fun s0 =>
    if (s0.lnk i).st ≠ .active then s0
    else
      let p := payload.toNat
      let l := s0.lnk i
      let t4 := (s.now * 16 + frac) % 2 ^ 48
      let root := bits p 15 2
      let t1 := tblGet (fun _ => 0) l.txTimes (bits p 23 16)
      let known := l.txTimes.any fun e => e.1 == bits p 23 16
      let s1 := (s0.setLnk i { l with rxTimeAt := t4, rxTimeSeq := bits p 31 24, rxRoot := root }).parentUp i
      let t := s1.time
      if t.follows ∧ t.link = i then
        let s2 : State := { s1 with time := { t with root := root, hops := min 3 (p % 4 + 1) } }
        if known then
          let d := stampDelay t1 (bits p 79 32) (bits p 127 80) t4
          let o := stampOffset t1 (bits p 79 32) (bits p 127 80) t4 * 125 / 4
          ({ s2 with time := { s2.time with offset := o, delay := (d * 125 / 4).toNat } }).steer o
        else s2
      else if s1.rootDiffers root then
        if t.conflict then s1
        else (({ s1 with time := { t with conflict := true } }).ledger 0x0303 (srcOf3 4 4 i) i 0 root).mctpEvent 3 i
      else s1)

/-- TIME_LOCK (R42, R43): LOCKED corrects by no more than ±100 ppm. -/
def execTimeLock (s : State) : Out :=
  .next (if s.time.st = .acquiring then
    { s with time := { s.time with st := .locked, slew := 0, rate := max (-100000) (min 100000 s.time.rate) } }
  else s)

/-- HOLDOVER_ENTRY (R42): 250 µs without an exchange. -/
def execHoldoverEntry (s : State) : Out :=
  .next (if s.time.st = .locked then { s with time := { s.time with st := .holdover } } else s)

/-- HOLDOVER_EXPIRY (R42, R45): UNSYNCED, and from there ACQUIRING where the parent link is still ACTIVE in follower mode
(Table 9). -/
def execHoldoverExpiry (s : State) : Out :=
  .next (if s.time.st = .holdover then
    let r := s.restartTime s.time.ctrl
    { r with time := { r.time with pendingCtrl := s.time.pendingCtrl } }
  else s)

/-- ROOT_CONFLICT_CLEAR (R46). -/
def execRootConflictClear (s : State) : Out := .next { s with time := { s.time with conflict := false } }

/-- TIMESTAMP_DISTRIBUTE (R40): every die takes the master counter's value. -/
def execTimestampDistribute (s : State) : Out :=
  .next { s with time := { s.time with dies := [s.now, s.now, s.now, s.now, s.now, s.now] } }

end Sys2Proof.Machine
end

