-- ==== Sys2Proof/Machine/RegViews.lean ====
section
/-! DEFINITION. What each register reads: views of the state where the state holds the register in another form, the stored
value elsewhere (the register tables of spec/02 to spec/21; spec/22: R584, R585). -/
namespace Sys2Proof.Machine

/-- By what path a register is reached (R376, R404, R584): a function's BAR, or MCTP. -/
inductive Via where
  | fn (f : Nat)
  | mctp
deriving DecidableEq, Repr

/-- The 64-bit or 32-bit value of four bytes, the first byte in [7:0]. -/
def bytes4 (f : Nat → Nat) : Nat := f 0 + 256 * f 1 + 65536 * f 2 + 16777216 * f 3

/-- HIF registers of a function's copy (R406, R414). `b` is the offset of the row in the block. INFLIGHT counts the descriptors
fetched since the last Function Level Reset, which resets the ring registers (R374; DEDUCED, log 34). -/
def State.viewHif (s : State) (f b i k : Nat) : Nat :=
  if b = 0 then (if f = 0 then 0 else (f - 1) * 256) + f
  else if b = 4 then b2n (s.pcie.ide) * 4 + b2n (s.pcie.atomic.contains f) * 2 + s.reg k % 2
  else if b = 0x10C then (s.sq f i).head
  else if b = 0x110 then
    let n := ((s.ringDescs f i).filter fun d => !d.dropped).length
    (s.reg k &&& 0xC0000000) + b2n (n == 0 && !bitAt (s.reg (kSqCfg f i)) 31) * 2 ^ 29 + n
  else if b = 0x40C then b2n (s.cq f i).phase * 65536 + (s.cq f i).tail
  else if b = 0x414 then (s.cq f i).waiting.length
  else if b = 0x800 ∨ b = 0x804 ∨ b = 0x808 then (if f = 0 then s.reg k else 0)
  else if b = 0x90C then (s.reg k &&& 0xE0000000) + (s.refOps.filter fun o => o.fn == f).length
  else if b = 0x918 then (if f = 0 then 0 else (s.inst f).quiesceMode * 256 + (s.inst f).st.code)
  else s.reg k

/-- Pool pages that meet a test. -/
def State.poolCount (s : State) (f : PoolPage → Bool) : Nat :=
  (s.pool.filter fun e => match e.2 with
    | some x => f x
    | none => false).length

/-- CMP registers (R371). -/
def State.viewCmp (s : State) (b i j k : Nat) : Nat :=
  let q := s.part i
  if b = 0 then
    q.images.length * 65536 + b2n (q.st != .free && q.anchor == s.reg bFAB) * 4096 + b2n (bitAt q.flags 1) * 2048
      + b2n (flagSliceable q.flags) * 1024 + q.role * 256 + q.st.code
  else if b = 4 then (if q.st = .free then 0 else q.comp)
  else if b = 8 then q.epoch
  else if b = 0x10 then q.clusters
  else if b = 0x18 then q.groups
  else if b = 0x1C then q.anchor
  else if b = 0x20 then bits q.links (32 * j + 31) (32 * j)
  else if b = 0x50 then s.poolCount fun x => x.owner == some i
  else if b = 0x100C then (s.poolCount fun x => x.owner.isNone && !x.clearing) * 65536 + s.poolCount fun _ => true
  else if b = 0x1010 then s.poolCount (·.clearing)
  else if b = 0x1100 then
    let c := s.clu i
    b2n c.bound * 2 ^ 31 + b2n (c.bound && c.step == 15) * 2 ^ 30 + b2n c.shared * 2 ^ 29 + c.part * 2 ^ 24
  else if b = 0x1108 then (s.clu i).epoch
  else s.reg k

/-- SEQ_DP_CYCLES: whole core cycles of the cluster (R100). -/
def State.dpCycles (s : State) (k : Nat) : Nat := (s.clu k).cyc / 10 % 2 ^ 64

/-- SEQ registers (R100, R139, R171). -/
def State.viewSeq (s : State) (b i k : Nat) : Nat :=
  let c := s.core i
  if b = 0x10000 then s.dpCycles i
  else if b = 0x20000 then c.loops.length * 256 + c.st.code
  else if b = 0x20004 then c.stepReg
  else if b = 0x20008 then c.rbseq
  else if b = 0x2000C then (match c.loops with
    | [] => 0
    | l :: _ => l.iter)
  else if b = 0x20010 then c.convNan * 65536 + c.convSat
  else if b = 0x20014 then c.convOvf
  else if b = 0x20018 then c.fault
  else if b = 0x2001C then c.vrange
  else s.reg k

/-- Mode of a group (R198, Table 7). -/
def GroupMode.code : GroupMode → Nat
  | .free => 0 | .dedicated => 1 | .shared => 2

/-- A way map byte (R198, Table 9). -/
def WayKind.byte : WayKind → Nat
  | .part p => p | .pool => 0x40 | .off => 0x80

/-- MEM registers (R198). -/
def State.viewMem (s : State) (b i j k : Nat) : Nat :=
  if b = 0 then
    let g := s.group i
    b2n (!g.waysMoving.isEmpty || g.clearing || g.exiting) * 2 ^ 31
      + (if g.mode = .dedicated then g.owner else 0) * 65536 + g.mode.code
  else if b = 4 then bytes4 fun r => match (s.region (12 * i + 4 * j + r)).owner with
    | some p => 128 + p
    | none => 0
  else if b = 0x200 then bytes4 fun w => (s.wayKind (16 * i + 4 * j + w)).byte
  else if b = 0x604 then s.scrub.pos / rawSectors * 2 ^ 24 + s.scrub.pos % rawSectors / 2048
  else if b = 0x60C then (s.poison.filter fun e => e.2).length % 2 ^ 32
  else if b = 0x610 then
    b2n (decide (s.withheld.length ≥ 256)) * 2 ^ 31 + (s.withheld.filter fun w => !w.permanent).length * 65536 + s.withheld.length
  else s.reg k

/-- QOS registers (R219). -/
def State.viewQos (s : State) (b i k : Nat) : Nat :=
  if b = 0x2100 then
    let l := s.levelOf i
    b2n l.gu * 1024 + b2n l.be * 512 + b2n l.bg * 256 + l.level
  else s.reg k

/-- XLT registers (R246). -/
def State.viewXlt (s : State) (b i k : Nat) : Nat :=
  if b = 0x1000 then s.pinsOn i
  else if b = 0x2000 then
    let w := s.inWin i
    w.base * 2 ^ 41 + w.size * 2 ^ 25 + w.part * 256 + b2n w.scratch * 16 + b2n w.w * 8 + b2n w.r * 4 + b2n w.revoking * 2 + b2n (w.valid && !w.bad)
  else if b = 0x2008 then (s.inWin i).grantee * 2 ^ 40 + (s.inWin i).gen * 2 ^ 32
  else if b = 0x6000 then
    let o := s.outWin i
    o.target * 2 ^ 50 + o.window * 2 ^ 40 + o.gen * 2 ^ 32 + o.size * 65536 + o.part * 256 + b2n o.w * 8 + b2n o.r * 4 + b2n o.failed * 2
      + b2n (o.valid && !o.bad)
  else s.reg k

/-- FAB registers (R48, R304). -/
def State.viewFab (s : State) (b i j k : Nat) : Nat :=
  if b = 0x400 then s.now
  else if b = 0x408 then s.time.status
  else if b = 0x410 then s.tsOffset
  else if b = 0x414 then unsigned 32 s.time.rate
  else if b = 0x418 then s.time.delay
  else if b = 0x100000 then tblGet (fun _ => 0) s.rteStg i / 2 ^ (64 * j) % 2 ^ 64
  else if b = 0x180000 then tblGet (fun _ => 0) s.rteAct i / 2 ^ (64 * j) % 2 ^ 64
  else s.reg k

/-- LNK registers (R269). -/
def State.viewLnk (s : State) (b i k : Nat) : Nat :=
  if b = 4 then s.lnkStatus i else if b = 0xC then s.lnkNeighbour i else s.reg k

/-- SYN registers (R307, R312, R331). -/
def State.viewSyn (s : State) (b i j k : Nat) : Nat :=
  if b = 0x1C then (s.trees.filter fun e => e.2.live).length
  else if b = 0x10000 then
    let o := s.obj i
    if j = 0 then o.count
    else if j = 1 then o.target
    else if j = 2 then o.max
    else b2n o.owner.isSome * 2 ^ 31 + o.fault * 2 ^ 29 + o.owner.getD 0 * 65536 + o.fired
  else if b = 0x60000 then
    let c := s.core i
    b2n (s.onList i) * 2 ^ 31 + c.wire * 2 ^ 24 + c.wires * 65536 + c.waitObj.getD 0
  else s.reg k

/-- PWR registers (R509). -/
def State.viewPwr (s : State) (b i j k : Nat) : Nat :=
  if b = 8 then s.pwr.input * 65536 + s.pwr.volt
  else if b = 0xC then s.pwrStatus
  else if b = 0x14 then s.pwrAvg10
  else if b = 0x18 then s.pwr.energy / 20
  else if b = 0x30 then nth 0 s.pwr.dieTemp i
  else if b = 0x100 then (s.clu i).status
  else if b = 0x104 then (s.clu i).power
  else if b = 0x108 then (s.clu i).droop
  else if b = 0x10C then (s.clu i).capCeil * 16 + (s.clu i).thermCeil
  else if b = 0x1000 then (s.slackOf i).id
  else if b = 0x1004 then (s.slackOf i).count
  else if b = 0x1008 then
    let e := s.slackOf i
    if j = 0 then e.active else if j = 1 then e.wait else e.energy
  else s.reg k

/-- SEC_SESSIONS (R489). -/
def State.secSessions (s : State) : Nat :=
  (s.sessions.filter fun x => x.tenant.isSome).length * 256 + s.sessions.length

/-- SEC registers (R456, R489). -/
def State.viewSec (s : State) (b i k : Nat) : Nat :=
  if b = 0 then s.secStatus
  else if b = 8 then s.secSlots
  else if b = 0xC then s.cus.reqs
  else if b = 0x10 then s.cus.reseeds
  else if b = 0x14 then s.cus.esFails
  else if b = 0x18 then s.cus.queue.length
  else if b = 0x1C then s.secSessions
  else if b = 0x100 then (s.lnk i).txCtr
  else if b = 0x108 then (s.lnk i).keyEpoch
  else if b = 0x10C then s.lnkKstate i
  else if b = 0x1000 then (s.region i).writes
  else if b = 0x1008 then
    let r := s.region i
    b2n r.keyed * 2 ^ 31 + b2n r.rekeying * 2 ^ 30 + b2n r.halted * 2 ^ 29 + b2n r.clearing * 2 ^ 28 + r.pointer
  else if b = 0x100C then (s.region i).rekeys
  else s.reg k

/-- ERR registers (R532). -/
def State.viewErr (s : State) (b i j k : Nat) : Nat :=
  if b = 0 then s.lring.stat
  else if b = 8 then s.lring.total
  else if b = 0x10000 then ofBytes ((s.lring.bytesAt i).drop (4 * j) |>.take 4)
  else s.reg k

/-- SVC registers (R270, R533, R559, R583). -/
def State.viewSvc (s : State) (b i j k : Nat) : Nat :=
  if b = 0 then s.panelStatus
  else if b = 0xC then s.reg (bSVC + 0x10)
  else if b = 0x20 then s.panel.batt
  else if b = 0x28 then s.panel.rtc
  else if b = 0x38 then s.panel.island
  else if b = 0x40 then s.panel.tamperTime
  else if b = 0x48 then s.panel.input
  else if b = 0x1004 then s.cageStatus i
  else if b = 0x2008 then s.boot.resetStat
  else if b = 0x3000 then s.fwBoot
  else if b = 0x3004 then s.fwUpd
  else if b = 0x3008 then s.fw.progress
  else if b = 0x3010 then nth 0 (s.fwType (i + 1)).regs j
  else if b = 0x3070 then s.fw.nor
  else if b = 0x3074 then s.fw.maxErase
  else if b = 0x3100 then tblGet (fun _ => 0) s.fw.lnkVer i
  else s.reg k

/-- The value of a register through a function (or, as PF0's copy, over MCTP). A WO register reads zero (R8). -/
def State.view (s : State) (f : Nat) (r : RegRow) (i j a : Nat) : Nat :=
  let b := r.base % 0x400000
  if r.acc = .wo then 0
  else match r.base / 0x400000 with
    | 0 => if b = 0 then idRevision else Config.serial.toNat
    | 1 => s.viewHif f b i (hifKey f a)
    | 2 => s.viewCmp b i j a
    | 3 => s.viewSeq b i a
    | 4 => s.viewMem b i j a
    | 5 => s.viewQos b i a
    | 6 => s.viewXlt b i a
    | 7 => s.viewFab b i j a
    | 8 => s.viewLnk b i a
    | 9 => s.viewSyn b i j a
    | 10 => s.viewPwr b i j a
    | 11 => s.viewSec b i a
    | 12 => s.viewErr b i j a
    | _ => s.viewSvc b i j a

/-- The cluster lies in the slice of the partition (R371). -/
def State.ownsCluster (s : State) (p k : Nat) : Bool := bitAt (s.part p).clusters k

/-- A VF reaches the register (R100, R139, R198, R219, R246, R331, R371, R584); partition `v` - 1 is its own (R415). -/
def State.vfReach (s : State) (v : Nat) (r : RegRow) (i : Nat) : Bool :=
  let b := r.base % 0x400000
  let p := v - 1
  match r.base / 0x400000 with
  | 0 => true
  | 1 => b != 0x800 && b != 0x804 && b != 0x808
  | 2 => decide (b < 0x1000) && i == p
  | 3 => s.ownsCluster p (if b ≥ 0x20000 then i / 16 else i)
  | 6 => decide (b < 0x1000) && i == p
  | 9 =>
    if b ≥ 0x60000 then s.ownsCluster p (i / 16)
    else if b ≥ 0x10000 then (s.obj i).owner == some p
    else decide (b ≥ 0x1000) && i == p
  | _ => false

/-- A register is reached by a path (R404, R584). -/
def State.reaches (s : State) (via : Via) (r : RegRow) (i : Nat) : Bool :=
  match via with
  | .mctp => r.base / 0x400000 != 11
  | .fn f => f == 0 || s.vfReach f r i

/-- A read of a register: HOST_READY gates every BAR register but the ID block and SVC_FW_BOOT (R535); a register that the path does
not reach reads zero. -/
def State.readReg (s : State) (via : Via) (r : RegRow) (i j a : Nat) : Nat :=
  let f := match via with
    | .fn f => f
    | .mctp => 0
  let up := match via with
    | .fn f => s.hostOn f || decide (a < 0x400000) || a == bSVC + 0x3000
    | .mctp => true
  if up && s.reaches via r i then s.view f r i j a else 0

/-- The word at an offset of BAR 0: a 32-bit register, or half of a 64-bit one; reserved offsets read zero (R378, R584). -/
def State.readWord (s : State) (via : Via) (a : Nat) : Nat :=
  match regAt a with
  | some (r, i, j) => s.readReg via r i j a % 2 ^ 32
  | none => if a < 4 then 0 else match regAt (a - 4) with
    | some (r, i, j) => if r.wide then s.readReg via r i j (a - 4) / 2 ^ 32 else 0
    | none => 0

end Sys2Proof.Machine
end

