-- ==== Sys2Proof/Machine/XltCmd.lean ====
section
/-! DEFINITION. Commands of address translation (spec/09: R225 to R238, R246). -/
namespace Sys2Proof.Machine

/-- The host fails every request, or no longer does. -/
def State.setHostDown (s : State) (on : Bool) : State := { s with pcie := { s.pcie with hostDown := on } }

/-- WALK_END (R223 to R229, R235, R236): a miss of an engine port ends; the caches are filled or the fault is reported.
`hostErr`: the walk's reads of host memory fail. -/
def execWalkEnd (m : EngPort) (p : PartId) (va : Fin 4503599627370496) (write hostErr : Bool) (s : State) : Out :=
  .next (if hostErr then ((s.setHostDown true).translate m p va write).1.setHostDown s.pcie.hostDown
    else (s.translate m p va write).1)

/-- XLT_INV_STAT of a partition. -/
def invStat (p : Nat) : Nat := bXLT + 0x40 * p + 0x28

/-- The queued count of XLT_INV_STAT brought up to date (R246). -/
def State.syncInv (s : State) (p : Nat) : State :=
  let v := s.reg (invStat p)
  s.setReg (invStat p) (v / 2 ^ 31 * 2 ^ 31 + (s.invOf p).length * 2 ^ 16 + v % 2 ^ 16)

/-- XLT_INV_CMD (R231): the command queued, 16 at most; a full queue, or a scope the path may not use, sets OVF. -/
def execXltInvCmd (p : PartId) (cmd : W64) (viaVf : Bool) (s : State) : Out :=
  let scope := cmd.toNat / 2 ^ 62
  let allowed := if viaVf then scope == 1 else scope == 2 || scope == 3
  .next (if allowed && decide ((s.invOf p).length < 16) then (s.setInv p (s.invOf p ++ [cmd.toNat])).syncInv p
    else s.setBits (invStat p) (2 ^ 31))

/-- The entry derives from a table entry in the range of an invalidation of partition `p` (R231, R232). A stage-2 range
may hold stage-1 tables, so every combined entry of the partition is taken to derive from it (log 24). -/
def invHits (p cmd : Nat) (e : XltEntry) : Bool :=
  let pages := if bits cmd 61 52 = 0 then 1024 else bits cmd 61 52
  let lo := bits cmd 51 25
  let a := e.page * 2 ^ (e.bits - 25)
  e.part == p && (match cmd / 2 ^ 62 with
    | 1 => e.combined && decide (a < lo + pages) && decide (lo < a + 2 ^ (e.bits - 25))
    | 2 => e.combined || (decide (a < lo + pages) && decide (lo < a + 2 ^ (e.bits - 25)))
    | _ => true)

/-- A memory window's range meets that of an invalidation of the intermediate space (R231). -/
def InWin.inRange (i : InWin) (p cmd : Nat) : Bool :=
  let pages := if bits cmd 61 52 = 0 then 1024 else bits cmd 61 52
  let lo := bits cmd 51 25
  !i.scratch && i.part == p && (cmd / 2 ^ 62 == 3 || cmd / 2 ^ 62 == 2 && decide (i.base < lo + pages) && decide (lo < i.base + i.size))

/-- A request translated with an entry in the range has not been acknowledged: one accepted through a window (R232, R243). The
module's own accesses are over when a command ends. -/
def State.invWaits (s : State) (p cmd : Nat) : Bool := s.inWins.any fun e => e.2.inRange p cmd && decide (0 < e.2.accepted)

/-- A page of a window's range has no stage-2 mapping (R244). -/
def State.unmapped (s : State) (i : InWin) : Bool :=
  (List.range i.size).any fun k => match s.stage2 i.part ((i.base + k) * 2 ^ 25) with
    | .error c => c == 4
    | .ok _ => false

/-- The windows over a range unmapped at stage 2 are revoked (R244). -/
def State.revokeUnmapped (s : State) (p cmd : Nat) : List (Nat × InWin) → State
  | [] => s
  | e :: es =>
    (if e.2.valid && e.2.inRange p cmd && s.unmapped e.2 then s.setInWin e.1 { s.inWin e.1 with revoking := true } else s).revokeUnmapped p cmd es

/-- INVALIDATION_DONE (R232, R233, R244): the oldest command of the partition completes and DONE counts it, once no request
translated with a removed entry is left. -/
def execInvalidationDone (p : PartId) (s : State) : Out :=
  .next (match s.invOf p with
    | [] => s
    | cmd :: rest =>
      if s.invWaits p cmd then s
      else
        let s1 := (s.dropXlt (invHits p cmd)).setInv p rest
        let v := s1.reg (invStat p)
        ((s1.setReg (invStat p) (v / 2 ^ 16 * 2 ^ 16 + (v % 2 ^ 16 + 1) % 2 ^ 16)).syncInv p).revokeUnmapped p cmd s.inWins)

/-- XLT_INV_STAT_READ (R246): the value read; the read clears OVF. -/
def execXltInvStatRead (p : PartId) (s : State) : Out :=
  let v := s.reg (invStat p)
  .next ((s.emit (.regValue v)).setReg (invStat p) (v % 2 ^ 31))

/-- ATS_INVALIDATION_REQUEST (R238): matching entries removed; the Invalidation Completion follows. -/
def execAtsInvalidationRequest (fn : FnId) (iova size : W64) (s : State) : Out :=
  .next ({ s with atc := s.atc.filter fun e => !(e.fn == fn.val && decide (e.iova < iova.toNat + size.toNat)
      && decide (iova.toNat < e.iova + e.size)) }.emit (.atsDone fn))

/-- ATS_TRANSLATION_COMPLETION (R238): the result cached among 1,024 entries; `ok`: the host grants the translation. -/
def execAtsTranslationCompletion (fn : FnId) (iova size target : W64) (ok : Bool) (s : State) : Out :=
  .next (if ok && s.atsOn fn then
      let rest := s.atc.filter fun e => !(e.fn == fn.val && e.iova == iova.toNat)
      { s with atc := (if rest.length < 1024 then rest else rest.drop 1) ++ [⟨fn, iova.toNat, size.toNat, target.toNat⟩] }
    else s)

end Sys2Proof.Machine
end

