-- ==== Sys2Proof/Machine/Registers.lean ====
section
/-! DEFINITION. Writes of registers through the BARs and over MCTP, and reads over MCTP (spec/00: R5, R6, R8; spec/14: R376 to R380,
R401, R403, R404, R406; spec/15: R414, R417, R418; and the register tables of every block). A register with a row of its own
is written by that row's meaning. -/
namespace Sys2Proof.Machine

/-- The next state of an outcome; the same state where it has none. -/
def stateOf (s : State) : Out → State
  | .next t => t
  | _ => s

/-- A value with the bits of a mask taken from a write (R6, R8). -/
def takeBits (old v m : Nat) : Nat := (old - (old &&& m)) ||| (v &&& m)

/-- An RW register written, where the write is not one that the register's own rule ignores. -/
def State.putReg (s : State) (k v m : Nat) (ok : Bool) : State := if ok then s.setReg k (takeBits (s.reg k) v m) else s

/-- RWL registers of a partition keep their value: its composition is sealed (R8; DEDUCED, log 47). -/
def State.rwlHeld (s : State) (p : Nat) : Bool :=
  (s.part p).st == .sealed || (s.part p).st == .rebinding || (s.part p).st == .suspended

/-- Bits of `v` that differ from `old` at position `i`. -/
def changes (old v i : Nat) : Bool := bitAt old i != bitAt v i

/-! One register, by block; `b` is the offset of its row, `i` and `j` its indices, `k` its key, `v` the whole value written -/

/-- HIF registers (R379, R400, R401, R405, R406, R414). -/
def State.writeHif (s : State) (f b i k v m : Nat) : State :=
  if b = 0x100 then s.putReg k v m (!bitAt (s.reg (kSqCfg f i)) 31)
  else if b = 0x108 then stateOf s (execHifSqCfg (Fin.ofNat 33 f) (Fin.ofNat 16 i) (BitVec.ofNat 32 v) s)
  else if b = 0x400 then s.putReg k v m (!bitAt (s.reg (kCqCfg f i)) 31)
  else if b = 0x408 then stateOf s (execHifCqCfg (Fin.ofNat 33 f) (Fin.ofNat 16 i) (BitVec.ofNat 32 v) s)
  else if b = 0x800 then s.putReg k v m (f == 0)
  else if b = 0x804 then
    let s1 := s.putReg k v m (f == 0)
    s1.sendEvents s1.eventsWait
  else if b = 0x900 then s.putReg k v m (!bitAt (s.reg (kRefCfg f)) 31)
  else if b = 0x908 then
    let old := s.reg k
    let n := v % 32
    if bitAt old 31 ∧ n ≠ old % 32 then s
    else s.setReg k (b2n (bitAt v 31) * 2 ^ 31 + (if 10 ≤ n ∧ n ≤ 24 then n else old % 32))
  else s.putReg k v m true

/-- CMP registers (R358, R366, R367, R371). -/
def State.writeCmp (s : State) (b i k v m : Nat) : State :=
  if b = 0x2C then (if bitAt v 0 then stateOf s (execRebindRequest (Fin.ofNat 32 i) s) else s)
  else if b = 0x30 ∨ b = 0x38 then s.putReg k v m (!s.rwlHeld i)
  else if b = 0x1000 then s.putReg k v m (v % 16384 != 0)
  else if b = 0x1004 then stateOf s (execCmpPoolAdd (BitVec.ofNat 32 v) s)
  else if b = 0x1008 then stateOf s (execCmpPoolRemove (BitVec.ofNat 32 v) s)
  else s

/-- Registers put back to zero. -/
def State.zeroKeys (s : State) : List Nat → State
  | [] => s
  | k :: ks => (s.setReg k 0).zeroKeys ks

/-- SEQ registers: the counters of a cluster cleared (R100, R171). -/
def State.writeSeq (s : State) (b i v : Nat) : State :=
  if !bitAt v 0 then s
  else if b = 0x10028 then (s.modClu i fun k => { k with cyc := 0 }).zeroKeys ([0, 8, 0x10, 0x18, 0x20, 0x24].map (dpReg i))
  else if b = 0x10C20 then s.zeroKeys ([0, 8, 0x10, 0x14, 0x18, 0x1C].map (spReg i))
  else s

/-- MEM registers (R198): a PERIOD outside 12 to 48 is ignored. -/
def State.writeMem (s : State) (k v : Nat) : State :=
  let p := bits v 15 8
  s.setReg k ((if 12 ≤ p ∧ p ≤ 48 then p else bits (s.reg k) 15 8) * 256 + v % 2)

/-- A partition whose slice holds the cluster of a master port is under its seal, whether or not the cluster runs it now (R8, R219;
DEDUCED, log 64). -/
def State.portHeld (s : State) (m : Nat) : Bool :=
  decide (m < 144) && (List.range 32).any fun p => s.rwlHeld p && bitAt (s.part p).clusters (if m < 48 then m else (m - 48) / 2)

/-- QOS registers (R199, R204, R205, R213 to R216, R219). CLASS 0b11 is reserved and R7 states no effect of it: it is stored as
written and ranks as background (DESIGN CHOICE, log 3). -/
def State.writeQos (s : State) (b i k v m : Nat) : State :=
  if b = 0 then s.putReg k v m (!s.rwlHeld i)
  else if b = 0x200 then
    s.putReg k v m (!s.portHeld i)
  else if b = 0x600 then
    let bg := v % 256
    let be := bits v 15 8
    let gu := bits v 23 16
    s.putReg k v m (decide (8 ≤ bg) && decide (bg ≤ be) && decide (be ≤ gu) && decide (gu ≤ 128))
  else if b = 0x604 then s.putReg k v m (v % 4 != 3)
  else if b = 0x608 then s.putReg k v m (decide (v % 65536 ≤ 0x1130))
  else if b = 0x60C then s.putReg k v m (decide (v % 65536 ≥ 100))
  else s.clearBits k (v &&& m)

/-- XLT registers (R231, R236, R238, R246): the stage-1 root is the VF's, the rest PF0's. -/
def State.writeXlt (s : State) (vf : Bool) (b i k v m : Nat) : State :=
  if b = 0 then s.putReg k v m vf
  else if b = 8 then s.putReg k v m (!vf && !s.rwlHeld i)
  else if b = 0x18 then s.clearBits k (v &&& m)
  else if b = 0x20 then stateOf s (execXltInvCmd (Fin.ofNat 32 i) (BitVec.ofNat 64 v) vf s)
  else if b = 0x2C ∨ b = 0x1020 then s.putReg k v m !vf
  else s

/-- FAB_RTE_CTRL (R298, Table 8): FOLLOW and STAGE_READY are taken before COMMIT. -/
def State.writeRteCtrl (s : State) (v : Nat) : State :=
  let s1 := if bitAt v 1 then s.setBits kRteCtrl 2 else s.clearBits kRteCtrl 2
  let s2 := if changes (s.reg kRteCtrl) v 2 then stateOf s1 (execStageReady (bitAt v 2) s1) else s1
  if bitAt v 0 then stateOf s2 (execCommit s2) else s2

/-- FAB registers (R48, R298, R304). -/
def State.writeFab (s : State) (b i j k v m : Nat) : State :=
  let staged := bitAt (s.reg kRteCtrl) 2
  if b = 0 then stateOf s (execFabId (BitVec.ofNat 32 v) s)
  else if b = 8 then s.putReg k v m !staged
  else if b = 0xC then s.writeRteCtrl v
  else if b = 0x12C then stateOf s (execFabCntClear (BitVec.ofNat 32 v) s)
  else if b = 0x40C then stateOf s (execFabTsCtrl (BitVec.ofNat 32 v) s)
  else if b = 0x420 then stateOf s (execFabTsSet (BitVec.ofNat 64 v) s)
  else if b = 0x100000 then
    if staged then s
    else
      let old := tblGet (fun _ => 0) s.rteStg i
      let new := if j = 0 then old / 2 ^ 64 * 2 ^ 64 + v else v % 2 ^ 33 * 2 ^ 64 + old % 2 ^ 64
      { s with rteStg := tblSet (fun _ => 0) s.rteStg i new }
  else s

/-- LNK_CTRL (R257, R258, R269, Table 9). -/
def State.writeLnkCtrl (s : State) (i : Nat) (v : Nat) : State :=
  let l : LinkId := Fin.ofNat 96 i
  let old := s.reg (kLnkCtrl i)
  let s1 := if changes old v 1 then stateOf s (execQuarForce l (bitAt v 1) s) else s
  let s2 := if changes old v 0 then stateOf s1 (execEnable l (bitAt v 0) s1) else s1
  let s3 := if bitAt v 3 then stateOf s2 (execQuarClear l s2) else s2
  if bitAt v 2 then stateOf s3 (execRetrain l s3) else s3

/-- LNK registers (R269). -/
def State.writeLnk (s : State) (b i v : Nat) : State :=
  if b = 0 then s.writeLnkCtrl i v
  else if b = 8 then stateOf s (execLnkExpect (Fin.ofNat 96 i) (BitVec.ofNat 32 v) s)
  else s

/-- A debugger command (R319, Table 6). -/
def State.writeDbg (s : State) (f p v : Nat) : State :=
  let fn : FnId := Fin.ofNat 33 f
  let q : PartId := Fin.ofNat 32 p
  if v % 8 = 1 then stateOf s (execDbgSet fn q s)
  else if v % 8 = 2 then stateOf s (execDbgAdd fn q s)
  else if v % 8 = 3 then stateOf s (execDbgRelease fn q s)
  else if v % 8 = 4 then stateOf s (execDbgClearFault fn q s)
  else s

/-- SYN registers (R318 to R320, R331). -/
def State.writeSyn (s : State) (f b i k v m : Nat) : State :=
  if b = 8 then (if bitAt v 0 then stateOf s (execStateDump s) else s)
  else if b = 0x100 then s.putReg k v m (f == 0)
  else if b = 0x1008 then s.writeDbg f i v
  else s.putReg k v m true

/-- PWR registers (R496, R508, R509). -/
def State.writePwr (s : State) (mctp : Bool) (b k v m : Nat) : State :=
  if b = 0 then stateOf s (execPwrCap mctp (BitVec.ofNat 32 v) s)
  else if b = 4 then
    let d := if bits v 23 16 = 0 then bits (s.reg k) 23 16 else bits v 23 16
    s.setReg k (d * 65536 + (v &&& 0xF03))
  else if b = 0x10 then s.clearBits k (v &&& m)
  else if b = 0x20 then stateOf s (execPwrSlackClear (BitVec.ofNat 32 v) s)
  else s

/-- SEC_ALARM (R456): in FAILED, ES_FAIL is set again. -/
def State.writeSec (s : State) (k v m : Nat) : State :=
  let s1 := s.clearBits k (v &&& m)
  if bitAt v 2 ∧ s1.cus.es = .failed then s1.secAlarm 2 else s1

/-- ERR registers (R513, R518, R520, R522, R524, R532). -/
def State.writeErr (s : State) (b i k v m : Nat) : State :=
  if b = 4 then s.putReg k v m (v % 65536 != 0)
  else if b = 0x20C then s.putReg k v m (decide (5 ≤ v % 32))
  else if b = 0x214 then
    let s1 := if bitAt v 1 then stateOf s (execSample (Fin.ofNat 32 i) s) else s
    if bitAt v 0 then stateOf s1 (execCompReset (Fin.ofNat 32 i) s1) else s1
  else if b = 0x600 then stateOf s (execErrCtxReset (BitVec.ofNat 32 v) s)
  else s.putReg k v m true

/-- SVC_CAGE_CTRL (R262, R264 to R267, R270, Table 13). -/
def State.writeCage (s : State) (c v : Nat) : State :=
  let q : CageId := Fin.ofNat 24 c
  let s1 := if changes (s.reg (kCageCtrl c)) v 0 then stateOf s (execPowerEn q (bitAt v 0) s) else s
  let s2 := if bitAt v 1 then stateOf s1 (execLatchClr q s1) else s1
  let s3 := if bitAt v 2 then stateOf s2 (execAttnReq q s2) else s2
  let s4 := if bitAt v 3 && !bitAt v 4 then stateOf s3 (execRelease q s3) else s3
  if bitAt v 4 then stateOf s4 (execCancel q s4) else s4

/-- SVC_RESET_CMD (R533): KEY 0x5253, then the domain. -/
def State.writeResetCmd (s : State) (mctp : Bool) (v : Nat) : State :=
  if v / 65536 ≠ 0x5253 then s
  else if v % 8 = 1 then stateOf s (execComputePartReset s)
  else if v % 8 = 2 then stateOf s (execModuleWarmReset mctp s)
  else if v % 8 = 3 then stateOf s (execModuleHardReset mctp s)
  else s

/-- SVC registers (R270, R533, R570, R574, R578, R583). -/
def State.writeSvc (s : State) (mctp : Bool) (b i k v m : Nat) : State :=
  if b = 8 then stateOf s (execSvcLocate mctp (BitVec.ofNat 32 v) s)
  else if b = 0x24 then stateOf s (execChargeEn mctp (bitAt v 0) s)
  else if b = 0x30 then stateOf s (execSvcRtcSet mctp (BitVec.ofNat 64 v) s)
  else if b = 0x1000 then s.writeCage i v
  else if b = 0x2000 then s.writeResetCmd mctp v
  else if b = 0x2004 then stateOf s (execSvcResetAck mctp s)
  else s.clearBits k (v &&& m)

/-- A register written through a path that reaches it; an RO register ignores the write (R8). -/
def State.writeRow (s : State) (via : Via) (r : RegRow) (i j a v : Nat) : State :=
  let b := r.base % 0x400000
  let m := r.mask
  let f := match via with
    | .fn f => f
    | .mctp => 0
  let mctp := via == .mctp
  if r.acc = .ro then s
  else if r.acc = .w1c ∧ r.base / 0x400000 = 1 then s.clearBits (hifKey f a) (v &&& m)
  else match r.base / 0x400000 with
    | 1 => s.writeHif f b i (hifKey f a) v m
    | 2 => if f = 0 ∨ b = 0x38 then s.writeCmp b i a v m else s
    | 3 => s.writeSeq b i v
    | 4 => s.writeMem a v
    | 5 => s.writeQos b i a v m
    | 6 => s.writeXlt (f != 0) b i a v m
    | 7 => s.writeFab b i j a v m
    | 8 => s.writeLnk b i v
    | 9 => s.writeSyn f b i a v m
    | 10 => s.writePwr mctp b a v m
    | 11 => s.writeSec a v m
    | 12 => s.writeErr b i a v m
    | 13 => s.writeSvc mctp b i a v m
    | _ => s

/-- A write of a row's register where the path reaches it. -/
def State.writeAt (s : State) (via : Via) (r : RegRow) (i j a v : Nat) : State :=
  if s.reaches via r i then s.writeRow via r i j a v else s

/-- The stored value of a 64-bit register, of which half is written. -/
def State.whole (s : State) (via : Via) (r : RegRow) (i j a : Nat) : Nat :=
  match via with
  | .fn f => s.view f r i j a
  | .mctp => s.view 0 r i j a

/-- A 4-byte write: a 32-bit register, half of a 64-bit RW or RWL one, nothing of a 64-bit WO one (R378, R404). -/
def State.writeWord (s : State) (via : Via) (a v : Nat) : State :=
  match regAt a with
  | some (r, i, j) =>
    if !r.wide then s.writeAt via r i j a v
    else if r.acc = .wo then s
    else s.writeAt via r i j a (s.whole via r i j a / 2 ^ 32 * 2 ^ 32 + v)
  | none => if a < 4 then s else match regAt (a - 4) with
    | some (r, i, j) =>
      if r.wide ∧ r.acc ≠ .wo then s.writeAt via r i j (a - 4) (v * 2 ^ 32 + s.whole via r i j (a - 4) % 2 ^ 32) else s
    | none => s

/-- An 8-byte write: a 64-bit register, and nothing elsewhere (R378). -/
def State.writeWide (s : State) (via : Via) (a v : Nat) : State :=
  match regAt a with
  | some (r, i, j) => if r.wide then s.writeAt via r i j a v else s
  | none => s

/-! BAR 2 and BAR 4 -/

/-- Areas of the mailbox page that the instance (0x040, 0x140) and the manager (0x240) write (R417, Table 6). -/
def mbArea (mgr : Bool) (o : Nat) : Bool :=
  if mgr then decide (0x240 ≤ o) && decide (o < 0x340)
  else (decide (0x40 ≤ o) && decide (o < 0xC0)) || (decide (0x140 ≤ o) && decide (o < 0x240))

/-- MB_REQ_DB (R419): the request of the page served, by its CODE. The writes of a CATALOGUE_READ complete unless the host port
refuses the first of them (log 63). -/
def State.mbServe (s : State) (v : FnId) : State :=
  let i := s.inst v
  match i.req 0 2 with
  | 2 => stateOf s (execCtxDestroy v s)
  | 3 => stateOf s (execCtxReset v s)
  | 4 => stateOf s (execCatalogueRead v (!s.hostFails v (i.req 8 8)) s)
  | 5 => stateOf s (execInfo v s)
  | _ => stateOf s (execCtxCreate v s)

/-- A write of a mailbox page by the manager or the instance (R417, R418, R420). -/
def State.writeMailbox (s : State) (mgr : Bool) (v : FnId) (o x : Nat) : State :=
  if !s.mbOn (if mgr then 0 else v) v ∨ o % 4 ≠ 0 then s
  else if mbArea mgr o then
    s.modInst v fun i => { i with page := tblSetRun (fun _ => 0) i.page o (toBytes 4 x) }
  else if o = 0 then
    s.modInst v fun i =>
      if mgr then { i with instOvr := i.instOvr && !bitAt x 6 } else { i with mgrOvr := i.mgrOvr && !bitAt x 5 }
  else if mgr then
    if o = 0xC then stateOf s (execMbTomgrAck v s)
    else if o = 0x10 then stateOf s (execMbToinstDb v s)
    else s
  else if o = 4 then s.mbServe v
  else if o = 8 then stateOf s (execMbTomgrDb v s)
  else if o = 0x14 then stateOf s (execMbToinstAck v s)
  else if o = 0x1C then stateOf s (execMbEvtHead v (Fin.ofNat 256 x) s)
  else if o = 0x20 then s.modInst v fun i => { i with notify := bitAt x 0 }
  else s

/-- MB_STATUS (R417, Table 8). -/
def Inst.mbStatus (i : Inst) : Nat :=
  i.held.length * 256 + b2n i.instOvr * 64 + b2n i.mgrOvr * 32 + b2n i.toInst * 4 + b2n i.toMgr * 2

/-- A word of an MSI-X table; a vector held in the PBA is sent once its mask bit is clear (R376, R401; PRESUMED, the PCIe
rules; log 33). -/
def State.writeMsix (s : State) (fn i x : Nat) : State :=
  let k := 1024 * fn + i
  let s1 : State :=
    { s with pcie := { s.pcie with msixT := tblSet (fun k => if k % 4 = 3 then 1 else 0) s.pcie.msixT k x } }
  let key := 256 * fn + i / 4
  if i % 4 = 3 ∧ !bitAt x 0 ∧ tblGet (fun _ => false) s.pcie.pba key then
    { s1 with pcie := { s1.pcie with pba := tblSet (fun _ => false) s1.pcie.pba key false } }.emit (.msix fn (i / 4))
  else s1

/-- Every VF's TDI in use enters ERROR. -/
def State.tdiFails (s : State) : List Nat → State
  | [] => s
  | v :: vs => (s.tdiLeave v).tdiFails vs

/-- REGISTER_WRITE (R6, R8, R378): a write of a size, at an offset or through a path that does not reach a register changes
nothing (an Unsupported Request or an ignored write). -/
def execRegisterWrite (t : RegTarget) (s : State) : Out :=
  .next (match t with
    | .bar0 fn a size v =>
      if !s.hostOn fn then s
      else if size = 4 ∧ a.val % 4 = 0 then s.writeWord (.fn fn) a (v.toNat % 2 ^ 32)
      else if size = 8 ∧ a.val % 8 = 0 then s.writeWide (.fn fn) a v.toNat
      else s
    | .mailbox mgr v o x => s.writeMailbox mgr v o x.toNat
    | .msixTable fn i x => if s.hostOn fn ∧ (fn = 0 ∨ i.val < 256) then s.writeMsix fn i x.toNat else s
    | .atsEnable fn on =>
      if s.hostOn fn then
        { s with pcie := { s.pcie with ats := s.pcie.ats.filter (fun f => f != fn.val) ++ (if on then [fn.val] else []) } }
      else s
    | .atomicEnable fn on =>
      if s.hostOn fn then
        let rest := s.pcie.atomic.filter fun f => f != fn.val
        { s with pcie := { s.pcie with atomic := if on then rest ++ [fn.val] else rest } }
      else s
    | .ideStream on =>
      let s1 : State := { s with pcie := { s.pcie with ide := on } }
      if on ∨ !s.pcie.ide then s1 else s1.tdiFails (List.range 33))

/-! MCTP (R403, R404) -/

/-- XLT_INV_STAT.OVF cleared by a read, where the word is that register (R246). -/
def State.readEffect (s : State) (a : Nat) : State :=
  match regAt a with
  | some (r, i, _) => if r.base = bXLT + 0x28 then s.clearBits (invStat i) (2 ^ 31) else s
  | none => s

/-- The effects of the reads of `n` words. -/
def State.readEffects (s : State) (a : Nat) : Nat → State
  | 0 => s
  | n + 1 => (s.readEffect a).readEffects (a + 4) n

/-- REG_READ (R404): every block but SEC; 1 to 16 words. -/
def execRegRead (bus : Fin 2) (seq : Fin 256) (block : Fin 256) (off : W32) (count : Fin 256) (s : State) : Out :=
  .next (if !s.vendorOn bus then s
    else if block.val > 13 ∨ block.val = 11 then s.stolReply 1 seq 1 []
    else if count.val = 0 ∨ count.val > 16 ∨ off.toNat % 4 ≠ 0 ∨ off.toNat + 4 * count > 0x400000 then s.stolReply 1 seq 2 []
    else
      let a := block * 0x400000 + off.toNat
      let bs := (List.range count).flatMap fun n => toBytes 4 (s.readWord .mctp (a + 4 * n))
      (s.readEffects a count).stolReply 1 seq 0 bs)

/-- A 64-bit WO register starts at an address. -/
def woWide (a : Nat) : Bool :=
  match regAt a with
  | some (r, _) => r.wide && r.acc == .wo
  | none => false

/-- The word at an address is half of a 64-bit WO register (R404). -/
def halfWo (a : Nat) : Bool := woWide a || (decide (4 ≤ a) && woWide (a - 4))

/-- Some 64-bit WO register is covered by one word only. -/
def splitsWo (a : Nat) : List W32 → Bool
  | [] => false
  | [_] => halfWo a
  | _ :: y :: ws => match regAt a with
    | some (r, _) => if r.wide then splitsWo (a + 8) ws else splitsWo (a + 4) (y :: ws)
    | none => halfWo a || splitsWo (a + 4) (y :: ws)

/-- Words written in order; two words of a 64-bit register are written as one (R404). -/
def State.writeWords (s : State) (a : Nat) : List W32 → State
  | [] => s
  | [x] => s.writeWord .mctp a x.toNat
  | x :: y :: ws => match regAt a with
    | some (r, _) =>
      if r.wide then (s.writeWide .mctp a (y.toNat * 2 ^ 32 + x.toNat)).writeWords (a + 8) ws
      else (s.writeWord .mctp a x.toNat).writeWords (a + 4) (y :: ws)
    | none => (s.writeWord .mctp a x.toNat).writeWords (a + 4) (y :: ws)

/-- REG_WRITE (R404): the FAB, LNK, PWR and SVC blocks, inside a secured session or with PLAIN_OK. -/
def execRegWrite (bus : Fin 2) (session : Option (Fin 65536)) (seq : Fin 256) (block : Fin 256) (off : W32) (ws : List W32) (s : State) :
    Out :=
  .next (if !s.vendorOn bus then s
    else if !s.mayWrite session ∨ !([7, 8, 10, 13].contains block.val) then s.stolReply 2 seq 1 []
    else
      let a := block * 0x400000 + off.toNat
      if ws.length = 0 ∨ ws.length > 16 ∨ off.toNat % 4 ≠ 0 ∨ off.toNat + 4 * ws.length > 0x400000 ∨ splitsWo a ws then
        s.stolReply 2 seq 2 []
      else (s.writeWords a ws).stolReply 2 seq 0 [])

end Sys2Proof.Machine
end

