-- ==== Sys2Proof/Machine/Approx.lean ====
section
/-! DEFINITION. The transcendental functions of R87, Table 8, in fixed point with 256 fraction bits, and the codes that lie
within a function's error bound. R88 leaves the bits within the bound open: they are drawn from `Config.transcendental`. -/
namespace Sys2Proof.Machine

/-- 1.0 in fixed point. -/
def fxOne : Int := 2 ^ 256
/-- A product in fixed point. -/
def fxMul (a b : Int) : Int := a * b / 2 ^ 256
/-- A quotient in fixed point. -/
def fxDiv (a b : Int) : Int := a * 2 ^ 256 / b
/-- π, ln 2 and 2/√π with 256 fraction bits. -/
def fxPi : Int := 0x3243f6a8885a308d313198a2e03707344a4093822299f31d0082efa98ec4e6c89
/-- ln 2. -/
def fxLn2 : Int := 0xb17217f7d1cf79abc9e3b39803f2f6af40f343267298b62d8a0d175b8baafa2b
/-- 2/√π. -/
def fxErf : Int := 0x120dd750429b6d11ae3a914fed7fd8688281341d7587cea2e7342b06199cc4161

/-- An FP32 value in fixed point; every one is exact. -/
def fxOf : Val → Int
  | .num a m e => let x : Int := if e ≥ -256 then m * 2 ^ (e + 256).toNat else m / 2 ^ (-256 - e).toNat
    if a then -x else x
  | _ => 0

/-- x held between two bounds in whole units. -/
def fxClamp (lo hi : Int) (x : Int) : Int := max (lo * fxOne) (min (hi * fxOne) x)

/-- 1 + x/k (1 + x/(k+1) (…)). -/
def expTerms : Nat → Int → Int → Int
  | 0, _, _ => fxOne
  | n + 1, k, x => fxOne + fxMul x (expTerms n (k + 1) x) / k

/-- e^x. -/
def fxExp (x : Int) : Int :=
  let k := x / fxLn2
  let e := expTerms 70 1 (x - k * fxLn2)
  if k ≥ 0 then e * 2 ^ k.toNat else e / 2 ^ (-k).toNat

/-- 1 - z/((k+1)(k+2)) (1 - z/((k+3)(k+4)) (…)): the cosine from k = 0, the sine over its argument from k = 1. -/
def altTerms : Nat → Int → Int → Int
  | 0, _, _ => fxOne
  | n + 1, k, z => fxOne - fxMul z (altTerms n (k + 2) z) / ((k + 1) * (k + 2))

/-- An angle reduced to one turn. -/
def fxTurn (x : Int) : Int :=
  let r := x % (2 * fxPi)
  if r > fxPi then r - 2 * fxPi else r
/-- sin x. -/
def fxSin (x : Int) : Int := let r := fxTurn x; fxMul r (altTerms 60 1 (fxMul r r))
/-- cos x. -/
def fxCos (x : Int) : Int := let r := fxTurn x; altTerms 60 0 (fxMul r r)

/-- t/(2k+1) + t z/(2k+3) + … -/
def oddTerms : Nat → Int → Int → Int → Int
  | 0, _, _, _ => 0
  | n + 1, k, t, z => t / (2 * k + 1) + oddTerms n (k + 1) (fxMul t z) z

/-- ln of a positive value. -/
def fxLn : Val → Int
  | .num _ m e =>
    let k := Nat.log2 m
    let f : Int := (m : Int) * 2 ^ 256 / 2 ^ k
    let z := fxDiv (f - fxOne) (f + fxOne)
    2 * oddTerms 90 0 z (fxMul z z) + ((k : Int) + e) * fxLn2
  | _ => 0

/-- 1/√x of a positive value. -/
def fxRsqrt : Val → Int
  | .num _ m e =>
    ((isqrt 360 (if e ≤ 0 then 2 ^ (512 + (-e).toNat) / m else 2 ^ 512 / (m * 2 ^ e.toNat)) 0 : Nat) : Int)
  | _ => 0

/-- Terms of the error function's series: t/(2k+1) - t z/((k+1)(2k+3)) + … -/
def erfTerms : Nat → Int → Int → Int → Int
  | 0, _, _, _ => 0
  | n + 1, k, t, z => t / (2 * k + 1) + erfTerms n (k + 1) (-(fxMul t z / (k + 1))) z

/-- erf x; from 5 on it differs from 1 by less than 2⁻³⁸. -/
def fxErfOf (x : Int) : Int := let y := fxClamp (-5) 5 x; fxMul fxErf (erfTerms 150 0 y (fxMul y y))

/-- tanh x; from 40 on it differs from 1 by less than 2⁻¹¹⁰. -/
def fxTanh (x : Int) : Int := let e := fxExp (2 * fxClamp (-40) 40 x); fxDiv (e - fxOne) (e + fxOne)
/-- 1/(1 + e^-x). -/
def fxSigmoid (x : Int) : Int := fxDiv fxOne (fxOne + fxExp (-(fxClamp (-200) 200 x)))

/-- The FP32 code at or toward `md` from the fixed-point value `v`, as a rank: negative for a negative sign. An infinity
follows the largest finite code. -/
def fxRank (up : Bool) (v : Int) : Int :=
  let c (md : RMode) : Int := (min 0x7F800000 (encMag fFp32 md v.natAbs (2 ^ 256)) : Nat)
  if v ≥ 0 then c (if up then .up else .sr 0) else -(c (if up then .sr 0 else .up))

/-- One unit in the last place at `y`, in fixed point (R87: of the FP32 result). -/
def fxUlp (y : Int) : Int :=
  2 ^ (max ((Nat.log2 y.natAbs : Int) - 256) (-126) + (256 - 23)).toNat

/-- The result the free bits `fr` choose among the FP32 values within `d` of `y`; `pos`: a zero is +0. -/
def pickNear (pos : Bool) (y d : Int) (fr : Nat) : Nat :=
  let lo := fxRank true (y - d)
  let hi := fxRank false (y + d)
  let r := lo + ((fr % 2 ^ 31 % ((hi - lo).toNat + 1) : Nat) : Int)
  if r > 0 then r.toNat else if r < 0 then 2 ^ 31 + (-r).toNat else if pos then 0 else 2 ^ 31 * (fr / 2 ^ 31)

/-- A result within `n` units in the last place; the 2⁻⁸ of a unit added covers the fixed-point error (log 9). -/
def pickUlp (pos : Bool) (n : Nat) (y : Int) (fr : Nat) : Nat := pickNear pos y (fxUlp y * (256 * n + 1) / 256) fr

/-- The result of a function of Table 8 whose bits R88 leaves open, for a finite operand (R87). -/
def boundedLane (fn : Nat) (v : Val) (fr : Nat) : Nat :=
  let x := fxOf v
  let big := decide (x.natAbs > 65536 * 2 ^ 256)
  match fn with
  | 0 => pickUlp true 1 (fxExp (fxMul (fxClamp (-300) 130 x) fxLn2)) fr
  | 1 => pickUlp true 2 (fxExp (fxClamp (-200) 130 x)) fr
  | 2 => pickUlp false 1 (fxDiv (fxLn v) fxLn2) fr
  | 3 => pickUlp false 2 (fxLn v) fr
  | 7 => pickUlp true 1 (fxRsqrt v) fr
  | 8 => if big then pickNear false (fxSin x) (2 ^ (256 - 22)) fr else pickUlp false 2 (fxSin x) fr
  | 9 => if big then pickNear false (fxCos x) (2 ^ (256 - 22)) fr else pickUlp false 2 (fxCos x) fr
  | 10 => pickUlp false 2 (fxTanh x) fr
  | 11 => pickUlp true 2 (fxSigmoid x) fr
  | _ => pickUlp false 3 (fxErfOf x) fr

end Sys2Proof.Machine
end

