-- ==== Sys2Proof/Machine/Vector.lean ====
section
/-! DEFINITION. Vector, transcendental and selector steps (spec/04: R85 to R88; spec/05: R110, R112, R113, R589, R590). -/
namespace Sys2Proof.Machine

/-! Registers and predicates -/

/-- The 512 words of a vector register. -/
def Core.vreg (k : Core) (r : Nat) : List Nat := tblRun (fun _ => 0) k.vregs (512 * r) 512
/-- A vector register written whole. -/
def Core.setVreg (k : Core) (r : Nat) (ws : List Nat) : Core := { k with vregs := tblSetRun (fun _ => 0) k.vregs (512 * r) ws }
/-- A predicate register as 512 bits. -/
def Core.pred (k : Core) (p : Nat) : Nat := tblGet (fun _ => 0) k.preds p
/-- A predicate register written. -/
def Core.setPred (k : Core) (p v : Nat) : Core := { k with preds := tblSet (fun _ => 0) k.preds p v }

/-- Words under a 512-bit mask: the new word where the bit is set, the old one elsewhere (R589). -/
def merge (m : Nat) : Nat → List Nat → List Nat → List Nat
  | i, n :: ns, o :: os => (if bitAt m i then n else o) :: merge m (i + 1) ns os
  | _, _, _ => []

/-- The governing mask of a step: PRED under PEN, every lane otherwise. A bit governs a 32-bit lane, or the two 16-bit
lanes of the word (R589). -/
def Core.mask (k : Core) (w : StepWord) : Nat := if flag w 99 then k.pred (fld w 98 96) else 2 ^ 512 - 1

/-- VD written under the predicate. -/
def Core.writeVd (k : Core) (w : StepWord) (ws : List Nat) : Core :=
  k.setVreg (fld w 119 115) (merge (k.mask w) 0 ws (k.vreg (fld w 119 115)))

/-- VA of the step. -/
def Core.va (k : Core) (w : StepWord) : List Nat := k.vreg (fld w 114 110)
/-- VB of the step. -/
def Core.vb (k : Core) (w : StepWord) : List Nat := k.vreg (fld w 109 105)
/-- VC of the step. -/
def Core.vc (k : Core) (w : StepWord) : List Nat := k.vreg (fld w 104 100)
/-- SRC_FMT. -/
def srcFmt (w : StepWord) : Nat := fld w 95 92
/-- DST_FMT. -/
def dstFmt (w : StepWord) : Nat := fld w 91 88
/-- FUNC. -/
def func (w : StepWord) : Nat := fld w 85 80

/-- Operation `f` on the 16-bit halves of three words. -/
def halves3 (f : Nat → Nat → Nat → Nat) (a b c : Nat) : Nat :=
  f (a % 65536) (b % 65536) (c % 65536) + 65536 * f (a / 65536) (b / 65536) (c / 65536)

/-- Operation `f` lane by lane on three registers. -/
def zip3 (f : Nat → Nat → Nat → Nat) : List Nat → List Nat → List Nat → List Nat
  | a :: as, b :: bs, c :: cs => f a b c :: zip3 f as bs cs
  | _, _, _ => []

/-- An exact operation on lanes of a floating-point format, rounded once (R86). -/
def laneOp (ff : FloatFmt) (f : Val → Val → Val → Val) (a b c : Nat) : Nat :=
  encRne ff (f (decFloat ff a) (decFloat ff b) (decFloat ff c))

/-- A floating-point operation on three registers of format code `code` (R85, R589). -/
def fpWords (code : Nat) (f : Val → Val → Val → Val) (as bs cs : List Nat) : List Nat :=
  match code with
  | 0 => zip3 (laneOp fFp32 f) as bs cs
  | 1 => zip3 (halves3 (laneOp ⟨8, 7, 127, true, false, 0x7FC0⟩ f)) as bs cs
  | _ => zip3 (halves3 (laneOp ⟨5, 10, 15, true, false, 0x7E00⟩ f)) as bs cs

/-- A step of the VX queue counted at its cluster (R100). -/
def State.countVx (s : State) (c : Nat) : State := s.bump64 (dpReg (c / 16) 0x10) 1

/-- A vector step: dispatched to VX, refused with a datapath format fault where `ok` fails (R110, R589). -/
def State.vxStep (s : State) (c : Nat) (ok : Bool) (f : Core → Core) : State :=
  s.issue c .vx fun s => if ok then (s.modCore c f).countVx c else s.seqFault c 1

/-- Formats 0x0 to 0x2 with DST_FMT equal (R589, Table 16). -/
def fpFmtOk (w : StepWord) : Bool := decide (srcFmt w ≤ 2) && dstFmt w == srcFmt w
/-- Formats 0x0 to 0x2 and 0xC with DST_FMT equal. -/
def anyFmtOk (w : StepWord) : Bool := (decide (srcFmt w ≤ 2) || srcFmt w == 0xC) && dstFmt w == srcFmt w
/-- Any format code 0x0 to 0xC (R589, Table 16: VPERM, VLD, VST, VIMM). -/
def moveFmtOk (w : StepWord) : Bool := decide (srcFmt w ≤ 0xC)

/-- A floating-point arithmetic step (R85, R86). -/
def State.fpStep (s : State) (c : Nat) (w : StepWord) (f : Val → Val → Val → Val) : State :=
  s.vxStep c (fpFmtOk w) fun k => k.writeVd w (fpWords (srcFmt w) f (k.va w) (k.vb w) (k.vc w))

/-- VFMA (R85, R86): VA × VB + VC, rounded once. -/
def execVfma (c : CoreId) (w : StepWord) (s : State) : Out := .next (s.fpStep c w fun a b d => addV (mulV a b) d)
/-- VADD. -/
def execVadd (c : CoreId) (w : StepWord) (s : State) : Out := .next (s.fpStep c w fun a b _ => addV a b)
/-- VSUB. -/
def execVsub (c : CoreId) (w : StepWord) (s : State) : Out := .next (s.fpStep c w fun a b _ => addV a (negV b))
/-- VMUL. -/
def execVmul (c : CoreId) (w : StepWord) (s : State) : Out := .next (s.fpStep c w fun a b _ => mulV a b)
/-- VNEG. -/
def execVneg (c : CoreId) (w : StepWord) (s : State) : Out := .next (s.fpStep c w fun a _ _ => negV a)
/-- VABS. -/
def execVabs (c : CoreId) (w : StepWord) (s : State) : Out := .next (s.fpStep c w fun a _ _ => absV a)

/-- Signed minimum or maximum of 32-bit lanes (R589). -/
def intMinMax (mx : Bool) (a b : Nat) : Nat :=
  if decide (signed 32 a ≥ signed 32 b) = mx then a else b

/-- Words of VMIN and VMAX (R589). -/
def minmaxWords (mx : Bool) (code : Nat) (as bs : List Nat) : List Nat :=
  if code = 0xC then zip3 (fun a b _ => intMinMax mx a b) as bs as
  else fpWords code (fun a b _ => minmaxV mx a b) as bs as

/-- VMIN (R589). -/
def execVmin (c : CoreId) (w : StepWord) (s : State) : Out :=
  .next (s.vxStep c (anyFmtOk w) fun k => k.writeVd w (minmaxWords false (srcFmt w) (k.va w) (k.vb w)))
/-- VMAX (R589). -/
def execVmax (c : CoreId) (w : StepWord) (s : State) : Out :=
  .next (s.vxStep c (anyFmtOk w) fun k => k.writeVd w (minmaxWords true (srcFmt w) (k.va w) (k.vb w)))

/-- A comparison of two values: 0 EQ, 1 NE, 2 LT, 3 LE; a NaN satisfies NE only (R112, R589). -/
def cmpHolds (fn : Nat) (a b : Val) : Bool :=
  if isNan a || isNan b then fn == 1
  else
    let t := cmpV a b
    match fn with
    | 0 => t == 0
    | 1 => t != 0
    | 2 => decide (t < 0)
    | _ => decide (t ≤ 0)

/-- Two words satisfy a comparison; for 16-bit lanes both halves must (R589). -/
def cmpWord (code fn a b : Nat) : Bool :=
  match code with
  | 0 => cmpHolds fn (decFloat fFp32 a) (decFloat fFp32 b)
  | 0xC => cmpHolds fn (valOfInt (signed 32 a)) (valOfInt (signed 32 b))
  | f =>
    let ff : FloatFmt := if f = 1 then ⟨8, 7, 127, true, false, 0x7FC0⟩ else ⟨5, 10, 15, true, false, 0x7E00⟩
    cmpHolds fn (decFloat ff (a % 65536)) (decFloat ff (b % 65536))
      && cmpHolds fn (decFloat ff (a / 65536)) (decFloat ff (b / 65536))

/-- Bits from index `i` as a mask. -/
def maskOf : Nat → List Bool → Nat
  | _, [] => 0
  | i, b :: bs => (if b then 2 ^ i else 0) + maskOf (i + 1) bs

/-- The comparisons of two registers. -/
def cmpWords (code fn : Nat) : List Nat → List Nat → List Bool
  | a :: as, b :: bs => cmpWord code fn a b :: cmpWords code fn as bs
  | _, _ => []

/-- VCMP (R589): a predicate; under PEN the bits whose governing bit is 0 keep their value. -/
def execVcmp (c : CoreId) (w : StepWord) (s : State) : Out :=
  .next (s.vxStep c ((decide (srcFmt w ≤ 2) || srcFmt w == 0xC) && decide (func w ≤ 3)) fun k =>
    let new := maskOf 0 (cmpWords (srcFmt w) (func w) (k.va w) (k.vb w))
    let m := k.mask w
    k.setPred (fld w 117 115) ((new &&& m) ||| (k.pred (fld w 117 115) &&& (2 ^ 512 - 1 - m))))

/-- VSELECT (R589): VA where the bit of PRED is 1, VC where it is 0. -/
def execVselect (c : CoreId) (w : StepWord) (s : State) : Out :=
  .next (s.vxStep c (anyFmtOk w) fun k =>
    k.setVreg (fld w 119 115) (merge (k.pred (fld w 98 96)) 0 (k.va w) (k.vc w)))

/-- A signed result saturated to 32 bits. -/
def sat32 (x : Int) : Nat := unsigned 32 (max (-2147483648) (min 2147483647 x))

/-- VINT on one lane (R112, FUNC). -/
def intOp (fn a b : Nat) : Nat :=
  match fn with
  | 0 => (a + b) % 2 ^ 32
  | 1 => (a + 2 ^ 32 - b) % 2 ^ 32
  | 2 => sat32 (signed 32 a + signed 32 b)
  | 3 => sat32 (signed 32 a - signed 32 b)
  | 4 => a &&& b
  | 5 => a ||| b
  | 6 => a ^^^ b
  | 7 => (a <<< (b % 32)) % 2 ^ 32
  | 8 => a >>> (b % 32)
  | 9 => unsigned 32 (signed 32 a / (2 ^ (b % 32) : Nat))
  | 10 => intMinMax false a b
  | 11 => intMinMax true a b
  | _ => (a * b) % 2 ^ 32

/-- VINT (R112). -/
def execVint (c : CoreId) (w : StepWord) (s : State) : Out :=
  .next (s.vxStep c (srcFmt w == 0xC && dstFmt w == 0xC && decide (func w ≤ 12)) fun k =>
    k.writeVd w (zip3 (fun a b _ => intOp (func w) a b) (k.va w) (k.vb w) (k.va w)))

/-- One level of the fixed pairwise order (R63). DESIGN CHOICE (log 60): the spec says only that the order is pairwise by lane index;
at every level the neighbours 2i and 2i+1 are combined. -/
def pairs (f : Nat → Nat → Nat) : List Nat → List Nat
  | a :: b :: r => f a b :: pairs f r
  | l => l

/-- Nine levels reduce 512 lanes to one (R63, R86); which lanes pair at a level is the choice of `pairs` (log 60). -/
def treeFold (f : Nat → Nat → Nat) (l : List Nat) : Nat :=
  nth 0 (pairs f (pairs f (pairs f (pairs f (pairs f (pairs f (pairs f (pairs f (pairs f l))))))))) 0

/-- The identity a disabled lane enters with (R589). -/
def redIdentity (code fn : Nat) : Nat :=
  if code = 0 then (match fn with | 0 => 0x80000000 | 1 => 0xFF800000 | _ => 0x7F800000)
  else (match fn with | 0 => 0 | 1 => 0x80000000 | _ => 0x7FFFFFFF)

/-- The combining operation of a reduction (R589). -/
def redOp (code fn a b : Nat) : Nat :=
  if code = 0 then
    match fn with
    | 0 => encRne fFp32 (addV (decFloat fFp32 a) (decFloat fFp32 b))
    | 1 => encRne fFp32 (minmaxV true (decFloat fFp32 a) (decFloat fFp32 b))
    | _ => encRne fFp32 (minmaxV false (decFloat fFp32 a) (decFloat fFp32 b))
  else
    match fn with
    | 0 => (a + b) % 2 ^ 32
    | 1 => intMinMax true a b
    | _ => intMinMax false a b

/-- VRED (R589): the enabled lanes of VA reduced to lane 0 of VD. -/
def execVred (c : CoreId) (w : StepWord) (s : State) : Out :=
  .next (s.vxStep c ((srcFmt w == 0 || srcFmt w == 0xC) && dstFmt w == srcFmt w && decide (func w ≤ 2)) fun k =>
    let ident := redIdentity (srcFmt w) (func w)
    let ls := merge (k.mask w) 0 (k.va w) (List.replicate 512 ident)
    { k with vregs := tblSet (fun _ => 0) k.vregs (512 * fld w 119 115) (treeFold (redOp (srcFmt w) (func w)) ls) })

/-- VPERM (R589): lanes of VA chosen by VB modulo 512, or lane 0 to every lane. -/
def execVperm (c : CoreId) (w : StepWord) (s : State) : Out :=
  .next (s.vxStep c (moveFmtOk w && decide (func w ≤ 1)) fun k =>
    let a := k.va w
    k.writeVd w (if func w = 0 then (k.vb w).map (fun i => nth 0 a (i % 512)) else List.replicate 512 (nth 0 a 0)))

/-- Words of `n` 32-bit lanes from bytes; missing bytes are zero. -/
def wordRun : Nat → List Byte → List Nat
  | 0, _ => []
  | n + 1, bs => ofBytes (bs.take 4) :: wordRun n (bs.drop 4)

/-- VLD (R112, R589, R594): 2,048 bytes from the offset; lanes at or beyond the end of the scratchpad read zero. -/
def execVld (c : CoreId) (w : StepWord) (upset : Option (Fin 1048576)) (s : State) : Out :=
  .next (s.issue c .vx fun s =>
    let s := s.upset c upset
    let off := fld w 51 32
    if !(moveFmtOk w) || off % 32 != 0 then s.seqFault c 1
    else
      let n := min 2048 (2 ^ 20 - off)
      let p := s.poisonIn c off n
      if p > 0 then (s.countPoison c p).seqFault c 2
      else (s.modCore c fun k => k.writeVd w (wordRun 512 (s.spadRead c off n))).countVx c)

/-- The enabled lanes of a register stored from `off`; lanes beyond the end of the scratchpad are not written. The lanes of one
64-bit word are stored together, so that two enabled ones cover it whole (R594). -/
def State.storeLanes (s : State) (c m off : Nat) : Nat → List Nat → State
  | j, x :: y :: xs =>
    let a := off + 4 * j
    let s' := if decide (a + 8 ≤ 2 ^ 20) then
        match bitAt m j, bitAt m (j + 1) with
        | true, true => s.spadWrite c a (toBytes 4 x ++ toBytes 4 y)
        | true, false => s.spadWrite c a (toBytes 4 x)
        | false, true => s.spadWrite c (a + 4) (toBytes 4 y)
        | false, false => s
      else s
    s'.storeLanes c m off (j + 2) xs
  | _, _ => s

/-- Every lane of a register is stored, so that whole words of 64 bits are covered (R594). -/
def State.storeAll (s : State) (c off : Nat) (ws : List Nat) : State :=
  s.spadWrite c off ((ws.flatMap (toBytes 4)).take (2 ^ 20 - off))

/-- VST (R112, R589): the register VA (DEDUCED, log 16) stored at the offset under the predicate. -/
def execVst (c : CoreId) (w : StepWord) (s : State) : Out :=
  .next (s.issue c .vx fun s =>
    let off := fld w 51 32
    if !(moveFmtOk w) || off % 32 != 0 then s.seqFault c 1
    else
      let k := s.core c
      (if flag w 99 then s.storeLanes c (k.mask w) off 0 (k.va w) else s.storeAll c off (k.va w)).countVx c)

/-- One transcendental result from FP32 bits (R87, Table 8): the correctly rounded functions and the special values
exactly; of the other functions, a free one of the results within the error bound of a finite operand (R88, log 9). The table
names no result for an infinite operand of EXP, LOG2, LOG, RSQRT, SIN, COS, TANH, SIGMOID and ERF: it is free. -/
def transLane (fn a b : Nat) : Nat :=
  let x := decFloat fFp32 a
  let raw := (Config.transcendental fn (BitVec.ofNat 32 a)).toNat
  let free := if isFin x then boundedLane fn x raw else raw
  let posInf := 0x7F800000
  let negInf := 0xFF800000
  if isNan x then fFp32.nanCode else
  match fn with
  | 0 => (match x with
    | .inf n => if n then 0 else posInf
    | v => if cmpV v (.num false 128 0) ≥ 0 then posInf else free)
  | 2 | 3 => if isZero x then negInf else if isNeg x then fFp32.nanCode else free
  | 4 => divF32 (.num false 1 0) x
  | 5 => divF32 x (decFloat fFp32 b)
  | 6 => sqrtF32 x
  | 7 => if isZero x then (if isNeg x then negInf else posInf) else if isNeg x then fFp32.nanCode else free
  | _ => free

/-- VTRN (R87, R88, R589). -/
def execVtrn (c : CoreId) (w : StepWord) (s : State) : Out :=
  .next (s.vxStep c (srcFmt w == 0 && dstFmt w == 0 && decide (func w ≤ 12)) fun k =>
    k.writeVd w (zip3 (fun a b _ => transLane (func w) a b) (k.va w) (k.vb w) (k.va w)))

/-- SETSEL (R113): lane 0 of VA into a selector; a VSEL waits for it until it completes (R109). -/
def execSetsel (c : CoreId) (w : StepWord) (s : State) : Out :=
  .next (s.issue c .vx fun s => s.modCore c fun k =>
    { k with setsels := k.setsels ++ [k.seq - 1], sel := tblSet (fun _ => 0) k.sel (fld w 116 115) (tblGet (fun _ => 0) k.vregs (512 * fld w 114 110)) })

/-- VIMM (R589): IMM to every 32-bit lane, or its low half to every 16-bit lane. -/
def execVimm (c : CoreId) (w : StepWord) (s : State) : Out :=
  .next (s.vxStep c (moveFmtOk w) fun k =>
    let i := fld w 63 32
    let x := if srcFmt w = 1 ∨ srcFmt w = 2 then i % 65536 * 65537 else i
    k.writeVd w (List.replicate 512 x))

/-! VCVT (R590) -/

/-- Bytes of a register. -/
def regBytes (ws : List Nat) : List Byte := ws.flatMap (toBytes 4)

/-- A scale flag agrees with its format: free for MX, set for Blk4, clear otherwise (R590). -/
def cvtScaleOk (f : Fmt) (b : Bool) : Bool := if f = .blk4 then b else if isMx f then true else !b

/-- What a VCVT's fields mean, where they are good: source, destination, scale flags, stochastic rounding. -/
def cvtFields (w : StepWord) : Option (Fmt × Fmt × Bool × Bool × Bool) :=
  match fmtOf (srcFmt w), fmtOf (dstFmt w) with
  | some a, some b =>
    let ss := bitAt (func w) 0
    let ds := bitAt (func w) 1
    if func w < 4 ∧ pairAllowed a b ∧ cvtScaleOk a ss ∧ cvtScaleOk b ds ∧ fld w 87 86 < 2
        ∧ !(a == b && ss && !ds) then some (a, b, ss, ds, fld w 87 86 == 1) else none
  | _, _ => none

/-- Elements of a VCVT (R590). -/
def cvtCount (a b : Fmt) : Nat := if fmtBits a = 32 ∨ fmtBits b = 32 then 512 else 1024

/-- The conversion of a VCVT on a core (R590): VD, the scales in VC, and the counts. The source's scales are the bytes of VB that
its blocks have; the other bytes of VC keep their contents. DEDUCED (log 60): the bytes of VD beyond the packed elements, which are
zero, are under the predicate of a 16- or 32-bit destination like the others. -/
def Core.convert (k : Core) (w : StepWord) (a b : Fmt) (ss ds : Bool) (seed : Option Nat) : Core :=
  let e := cvtCount a b
  let r := convRow a b ss ds seed 0 e ((regBytes (k.va w)).take (rowBytes a e)) ((regBytes (k.vb w)).take (scaleBytes a e))
  let out := wordRun 512 (r.1 ++ List.replicate (2048 - r.1.length) 0)
  let vd := fld w 119 115
  let k1 := if fmtBits b = 32 ∨ fmtBits b = 16 then k.writeVd w out else k.setVreg vd out
  let sc := if ds || b = .blk4 then r.2.1 else []
  let vc := fld w 104 100
  let old := regBytes (k1.vreg vc)
  let k2 := if sc.isEmpty then k1 else k1.setVreg vc (wordRun 512 (sc ++ old.drop sc.length))
  { k2 with convSat := satAdd 0xFFFF k2.convSat r.2.2.sat, convNan := satAdd 0xFFFF k2.convNan r.2.2.nan,
            convOvf := satAdd 0xFFFF k2.convOvf r.2.2.ovf }

/-- VCVT (R86, R115, R590). -/
def execVcvt (c : CoreId) (w : StepWord) (s : State) : Out :=
  .next (s.issue c .vx fun s =>
    match cvtFields w with
    | none => s.seqFault c 1
    | some (a, b, ss, ds, sr) =>
      match (if sr then s.seedOf c (fld w 79 64) else some 0) with
      | none => s.seqFault c 4
      | some sd => (s.modCore c fun k => k.convert w a b ss ds (if sr then some sd else none)).countVx c)

end Sys2Proof.Machine
end

