-- ==== Sys2Proof/Machine/Dispatch.lean ====
section
/-! DEFINITION. One arm per command. -/
namespace Sys2Proof.Machine

/-- The effect of a command on everything but the queue. -/
def exec (i : Instr) (s : State) : Host.Outcome State Fault Refusal :=
  match i with
  | .nop c w => Sys2Proof.Machine.execNop c w s
  | .endCmd c w => Sys2Proof.Machine.execEnd c w s
  | .loop c w => Sys2Proof.Machine.execLoop c w s
  | .vsel c w => Sys2Proof.Machine.execVsel c w s
  | .phase c w => Sys2Proof.Machine.execPhase c w s
  | .rebind c w => Sys2Proof.Machine.execRebind c w s
  | .fence c w => Sys2Proof.Machine.execFence c w s
  | .loadb c w upset => Sys2Proof.Machine.execLoadb c w upset s
  | .mma c w upset => Sys2Proof.Machine.execMma c w upset s
  | .zero c w => Sys2Proof.Machine.execZero c w s
  | .drain c w => Sys2Proof.Machine.execDrain c w s
  | .vfma c w => Sys2Proof.Machine.execVfma c w s
  | .vadd c w => Sys2Proof.Machine.execVadd c w s
  | .vsub c w => Sys2Proof.Machine.execVsub c w s
  | .vmul c w => Sys2Proof.Machine.execVmul c w s
  | .vneg c w => Sys2Proof.Machine.execVneg c w s
  | .vabs c w => Sys2Proof.Machine.execVabs c w s
  | .vmin c w => Sys2Proof.Machine.execVmin c w s
  | .vmax c w => Sys2Proof.Machine.execVmax c w s
  | .vcmp c w => Sys2Proof.Machine.execVcmp c w s
  | .vselect c w => Sys2Proof.Machine.execVselect c w s
  | .vint c w => Sys2Proof.Machine.execVint c w s
  | .vcvt c w => Sys2Proof.Machine.execVcvt c w s
  | .vred c w => Sys2Proof.Machine.execVred c w s
  | .vperm c w => Sys2Proof.Machine.execVperm c w s
  | .vld c w upset => Sys2Proof.Machine.execVld c w upset s
  | .vst c w => Sys2Proof.Machine.execVst c w s
  | .vtrn c w => Sys2Proof.Machine.execVtrn c w s
  | .setsel c w => Sys2Proof.Machine.execSetsel c w s
  | .vimm c w => Sys2Proof.Machine.execVimm c w s
  | .ls c w upset => Sys2Proof.Machine.execLs c w upset s
  | .copy c w upset => Sys2Proof.Machine.execCopy c w upset s
  | .gather c w => Sys2Proof.Machine.execGather c w s
  | .scatter c w => Sys2Proof.Machine.execScatter c w s
  | .dispatch c w => Sys2Proof.Machine.execDispatch c w s
  | .copyt c w => Sys2Proof.Machine.execCopyt c w s
  | .lcopy c w f => Sys2Proof.Machine.execLcopy c w f s
  | .bucketCountTransfer c w => Sys2Proof.Machine.execBucketCountTransfer c w s
  | .allocation c w picks => Sys2Proof.Machine.execAllocation c w picks s
  | .free c w => Sys2Proof.Machine.execFree c w s
  | .poolPageClearDone pg => Sys2Proof.Machine.execPoolPageClearDone pg s
  | .transferCompletion e => Sys2Proof.Machine.execTransferCompletion e s
  | .writeAcknowledgement e core seq => Sys2Proof.Machine.execWriteAcknowledgement e core seq s
  | .wait c w => Sys2Proof.Machine.execWait c w s
  | .wake c wire => Sys2Proof.Machine.execWake c wire s
  | .signal c w => Sys2Proof.Machine.execSignal c w s
  | .barrier c w => Sys2Proof.Machine.execBarrier c w s
  | .broadcast c w => Sys2Proof.Machine.execBroadcast c w s
  | .reduceAdd c w => Sys2Proof.Machine.execReduceAdd c w s
  | .consistentSnapshot c w => Sys2Proof.Machine.execConsistentSnapshot c w s
  | .snapshotCut p g => Sys2Proof.Machine.execSnapshotCut p g s
  | .gop link f => Sys2Proof.Machine.execGop link f s
  | .compositionReset p cause => Sys2Proof.Machine.execCompositionReset p cause s
  | .resetHoldEnd p => Sys2Proof.Machine.execResetHoldEnd p s
  | .resetConfirmTimeout p => Sys2Proof.Machine.execResetConfirmTimeout p s
  | .launchComplete p => Sys2Proof.Machine.execLaunchComplete p s
  | .bucketRequest h r => Sys2Proof.Machine.execBucketRequest h r s
  | .bucketGrant e core seq bucket first granted policy => Sys2Proof.Machine.execBucketGrant e core seq bucket first granted policy s
  | .bucketDone h => Sys2Proof.Machine.execBucketDone h s
  | .zeroFillAcknowledged h => Sys2Proof.Machine.execZeroFillAcknowledged h s
  | .objectAdd n amount srcKind src => Sys2Proof.Machine.execObjectAdd n amount srcKind src s
  | .objectJoin n c wire => Sys2Proof.Machine.execObjectJoin n c wire s
  | .sigAckTimeout tag => Sys2Proof.Machine.execSigAckTimeout tag s
  | .dbgSet fn p => Sys2Proof.Machine.execDbgSet fn p s
  | .dbgAdd fn p => Sys2Proof.Machine.execDbgAdd fn p s
  | .dbgRelease fn p => Sys2Proof.Machine.execDbgRelease fn p s
  | .dbgClearFault fn p => Sys2Proof.Machine.execDbgClearFault fn p s
  | .stateDump => Sys2Proof.Machine.execStateDump s
  | .stateDumpEnd ok => Sys2Proof.Machine.execStateDumpEnd ok s
  | .memWrite me others ipa a bs ecc => Sys2Proof.Machine.execMemWrite me others ipa a bs ecc s
  | .memRead me others ipa a n ecc => Sys2Proof.Machine.execMemRead me others ipa a n ecc s
  | .scrubRead ecc raced heavy => Sys2Proof.Machine.execScrubRead ecc raced heavy s
  | .refresh ch => Sys2Proof.Machine.execRefresh ch s
  | .stackTempRead st temp => Sys2Proof.Machine.execStackTempRead st temp s
  | .wayMoveDone g w => Sys2Proof.Machine.execWayMoveDone g w s
  | .selfRefreshExit g => Sys2Proof.Machine.execSelfRefreshExit g s
  | .regionClearDone q zeroised => Sys2Proof.Machine.execRegionClearDone q zeroised s
  | .groupLevelSample g level => Sys2Proof.Machine.execGroupLevelSample g level s
  | .tokenRefill m => Sys2Proof.Machine.execTokenRefill m s
  | .urgencyChange m level => Sys2Proof.Machine.execUrgencyChange m level s
  | .requestAgePromote m p a => Sys2Proof.Machine.execRequestAgePromote m p a s
  | .monitorWindowClose g busy ws => Sys2Proof.Machine.execMonitorWindowClose g busy ws s
  | .walkEnd m p va write hostErr => Sys2Proof.Machine.execWalkEnd m p va write hostErr s
  | .xltInvCmd p cmd viaVf => Sys2Proof.Machine.execXltInvCmd p cmd viaVf s
  | .invalidationDone p => Sys2Proof.Machine.execInvalidationDone p s
  | .xltInvStatRead p => Sys2Proof.Machine.execXltInvStatRead p s
  | .atsInvalidationRequest fn iova size => Sys2Proof.Machine.execAtsInvalidationRequest fn iova size s
  | .atsTranslationCompletion fn iova size target hostOn => Sys2Proof.Machine.execAtsTranslationCompletion fn iova size target hostOn s
  | .wr f => Sys2Proof.Machine.execWr f s
  | .wrm f => Sys2Proof.Machine.execWrm f s
  | .rd f => Sys2Proof.Machine.execRd f s
  | .sig f => Sys2Proof.Machine.execSig f s
  | .ack f => Sys2Proof.Machine.execAck f s
  | .rdata f => Sys2Proof.Machine.execRdata f s
  | .refuse f => Sys2Proof.Machine.execRefuse f s
  | .transactionVisible src tag => Sys2Proof.Machine.execTransactionVisible src tag s
  | .windowTimeout tag => Sys2Proof.Machine.execWindowTimeout tag s
  | .outboundOpen e part target window gen size vwin r w => Sys2Proof.Machine.execOutboundOpen e part target window gen size vwin r w s
  | .windowRevoke w => Sys2Proof.Machine.execWindowRevoke w s
  | .revokeDrained w => Sys2Proof.Machine.execRevokeDrained w s
  | .outboundClear e => Sys2Proof.Machine.execOutboundClear e s
  | .cagePresenceGained c => Sys2Proof.Machine.execCagePresenceGained c s
  | .cagePresenceLost c => Sys2Proof.Machine.execCagePresenceLost c s
  | .cageRampEnd c mv ma limiting cable => Sys2Proof.Machine.execCageRampEnd c mv ma limiting cable s
  | .cageCurrentLimit c => Sys2Proof.Machine.execCageCurrentLimit c s
  | .cageOverload c => Sys2Proof.Machine.execCageOverload c s
  | .retryWaitEnd c => Sys2Proof.Machine.execRetryWaitEnd c s
  | .failsClear c => Sys2Proof.Machine.execFailsClear c s
  | .latchClr c => Sys2Proof.Machine.execLatchClr c s
  | .powerEn c on => Sys2Proof.Machine.execPowerEn c on s
  | .cmisReady c application => Sys2Proof.Machine.execCmisReady c application s
  | .cmisReadyTimeout c => Sys2Proof.Machine.execCmisReadyTimeout c s
  | .cmisFlagRead c flags => Sys2Proof.Machine.execCmisFlagRead c flags s
  | .signalDetect x => Sys2Proof.Machine.execSignalDetect x s
  | .equaliseDone x pol0 pol1 => Sys2Proof.Machine.execEqualiseDone x pol0 pol1 s
  | .alignLock x swap => Sys2Proof.Machine.execAlignLock x swap s
  | .trainingTimeout x => Sys2Proof.Machine.execTrainingTimeout x s
  | .detectRetry x => Sys2Proof.Machine.execDetectRetry x s
  | .noSignalLane x lane => Sys2Proof.Machine.execNoSignalLane x lane s
  | .quarantineExit x => Sys2Proof.Machine.execQuarantineExit x s
  | .lossOfLock x => Sys2Proof.Machine.execLossOfLock x s
  | .fecExcess x => Sys2Proof.Machine.execFecExcess x s
  | .helloSend x => Sys2Proof.Machine.execHelloSend x s
  | .hello x h crcOk => Sys2Proof.Machine.execHello x h crcOk s
  | .lnkExpect x v => Sys2Proof.Machine.execLnkExpect x v s
  | .quarClear x => Sys2Proof.Machine.execQuarClear x s
  | .retrain x => Sys2Proof.Machine.execRetrain x s
  | .quarForce x on => Sys2Proof.Machine.execQuarForce x on s
  | .enable x on => Sys2Proof.Machine.execEnable x on s
  | .touch c => Sys2Proof.Machine.execTouch c s
  | .attnReq c => Sys2Proof.Machine.execAttnReq c s
  | .release c => Sys2Proof.Machine.execRelease c s
  | .cancel c => Sys2Proof.Machine.execCancel c s
  | .attnTimeout c => Sys2Proof.Machine.execAttnTimeout c s
  | .attnDrainEnd c => Sys2Proof.Machine.execAttnDrainEnd c s
  | .cableLowPower c => Sys2Proof.Machine.execCableLowPower c s
  | .cageSafe c => Sys2Proof.Machine.execCageSafe c s
  | .keyStuck k => Sys2Proof.Machine.execKeyStuck k s
  | .keyUnstuck k => Sys2Proof.Machine.execKeyUnstuck k s
  | .bundle x key corrected flits => Sys2Proof.Machine.execBundle x key corrected flits s
  | .epoch x active staged ready cctr key => Sys2Proof.Machine.execEpoch x active staged ready cctr key s
  | .creditAck x payload cctr key => Sys2Proof.Machine.execCreditAck x payload cctr key s
  | .replayReq x next cctr key => Sys2Proof.Machine.execReplayReq x next cctr key s
  | .replayStart x first ctr cctr key => Sys2Proof.Machine.execReplayStart x first ctr cctr key s
  | .time x payload frac cctr key => Sys2Proof.Machine.execTime x payload frac cctr key s
  | .idle x => Sys2Proof.Machine.execIdle x s
  | .creditAckSend x => Sys2Proof.Machine.execCreditAckSend x s
  | .epochSend x => Sys2Proof.Machine.execEpochSend x s
  | .timeSend x frac => Sys2Proof.Machine.execTimeSend x frac s
  | .replayReqRepeat x => Sys2Proof.Machine.execReplayReqRepeat x s
  | .flitAged x n => Sys2Proof.Machine.execFlitAged x n s
  | .writeAbandon src tag => Sys2Proof.Machine.execWriteAbandon src tag s
  | .commit => Sys2Proof.Machine.execCommit s
  | .stageReady on => Sys2Proof.Machine.execStageReady on s
  | .fabId v => Sys2Proof.Machine.execFabId v s
  | .fabCntClear v => Sys2Proof.Machine.execFabCntClear v s
  | .fabTsCtrl v => Sys2Proof.Machine.execFabTsCtrl v s
  | .fabTsSet v => Sys2Proof.Machine.execFabTsSet v s
  | .timeLock => Sys2Proof.Machine.execTimeLock s
  | .holdoverEntry => Sys2Proof.Machine.execHoldoverEntry s
  | .holdoverExpiry => Sys2Proof.Machine.execHoldoverExpiry s
  | .rootConflictClear => Sys2Proof.Machine.execRootConflictClear s
  | .timestampDistribute => Sys2Proof.Machine.execTimestampDistribute s
  | .bindReserve from_ => Sys2Proof.Machine.execBindReserve from_ s
  | .bindSeal from_ plan => Sys2Proof.Machine.execBindSeal from_ plan s
  | .bindEnvelopeUpdate from_ => Sys2Proof.Machine.execBindEnvelopeUpdate from_ s
  | .bindRebind from_ => Sys2Proof.Machine.execBindRebind from_ s
  | .bindDissolve from_ => Sys2Proof.Machine.execBindDissolve from_ s
  | .rebindRequest p => Sys2Proof.Machine.execRebindRequest p s
  | .rebindPlanDone p result plan => Sys2Proof.Machine.execRebindPlanDone p result plan s
  | .prepare env => Sys2Proof.Machine.execPrepare env s
  | .place p plan => Sys2Proof.Machine.execPlace p plan s
  | .curatorSeal p cat => Sys2Proof.Machine.execCuratorSeal p cat s
  | .resume p => Sys2Proof.Machine.execResume p s
  | .dissolve p => Sys2Proof.Machine.execDissolve p s
  | .memberReport p fid rep => Sys2Proof.Machine.execMemberReport p fid rep s
  | .memberTimeout p => Sys2Proof.Machine.execMemberTimeout p s
  | .curatorMessageRetry p fid => Sys2Proof.Machine.execCuratorMessageRetry p fid s
  | .switchInRequest p at_ => Sys2Proof.Machine.execSwitchInRequest p at_ s
  | .quantumExpiry p => Sys2Proof.Machine.execQuantumExpiry p s
  | .cmpPoolAdd v => Sys2Proof.Machine.execCmpPoolAdd v s
  | .cmpPoolRemove v => Sys2Proof.Machine.execCmpPoolRemove v s
  | .sqDoorbell fn r v => Sys2Proof.Machine.execSqDoorbell fn r v s
  | .cqDoorbell fn q v => Sys2Proof.Machine.execCqDoorbell fn q v s
  | .descriptorFetch fn r ok => Sys2Proof.Machine.execDescriptorFetch fn r ok s
  | .descNop fn r => Sys2Proof.Machine.execDescNop fn r s
  | .load from_ pl => Sys2Proof.Machine.execLoad from_ pl s
  | .unload from_ => Sys2Proof.Machine.execUnload from_ s
  | .launch from_ => Sys2Proof.Machine.execLaunch from_ s
  | .copyLinear fn r e => Sys2Proof.Machine.execCopyLinear fn r e s
  | .copyDescribed fn r e ok => Sys2Proof.Machine.execCopyDescribed fn r e ok s
  | .hostSignal fn r => Sys2Proof.Machine.execHostSignal fn r s
  | .hostWait fn r => Sys2Proof.Machine.execHostWait fn r s
  | .hostWaitTimeout id => Sys2Proof.Machine.execHostWaitTimeout id s
  | .quiesceDrain r => Sys2Proof.Machine.execQuiesceDrain r s
  | .quiesceDrainEnd v => Sys2Proof.Machine.execQuiesceDrainEnd v s
  | .quiesceTimeout v => Sys2Proof.Machine.execQuiesceTimeout v s
  | .quiesceAbort r => Sys2Proof.Machine.execQuiesceAbort r s
  | .quiesceResume r => Sys2Proof.Machine.execQuiesceResume r s
  | .fetchaddComplete n ok => Sys2Proof.Machine.execFetchaddComplete n ok s
  | .coalesceTimeout fn q => Sys2Proof.Machine.execCoalesceTimeout fn q s
  | .cmisRead r got => Sys2Proof.Machine.execCmisRead r got s
  | .instCreate r => Sys2Proof.Machine.execInstCreate r s
  | .instRemove r => Sys2Proof.Machine.execInstRemove r s
  | .instReset r => Sys2Proof.Machine.execInstReset r s
  | .instStatus r => Sys2Proof.Machine.execInstStatus r s
  | .flr fn => Sys2Proof.Machine.execFlr fn s
  | .pcieReset => Sys2Proof.Machine.execPcieReset s
  | .hifSqCfg fn r v => Sys2Proof.Machine.execHifSqCfg fn r v s
  | .hifCqCfg fn q v => Sys2Proof.Machine.execHifCqCfg fn q v s
  | .perstDeassert => Sys2Proof.Machine.execPerstDeassert s
  | .setEndpointId bus op eid => Sys2Proof.Machine.execSetEndpointId bus op eid s
  | .getEndpointId bus => Sys2Proof.Machine.execGetEndpointId bus s
  | .getEndpointUuid bus => Sys2Proof.Machine.execGetEndpointUuid bus s
  | .getMctpVersionSupport bus type => Sys2Proof.Machine.execGetMctpVersionSupport bus type s
  | .getMessageTypeSupport bus => Sys2Proof.Machine.execGetMessageTypeSupport bus s
  | .getVdmSupport bus selector => Sys2Proof.Machine.execGetVdmSupport bus selector s
  | .regRead bus seq block off count => Sys2Proof.Machine.execRegRead bus seq block off count s
  | .regWrite bus session seq block off ws => Sys2Proof.Machine.execRegWrite bus session seq block off ws s
  | .mctpBind bus session seq head total off bytes => Sys2Proof.Machine.execMctpBind bus session seq head total off bytes s
  | .eventAck bus seq => Sys2Proof.Machine.execEventAck bus seq s
  | .mctpCmisRead bus seq arg n got => Sys2Proof.Machine.execMctpCmisRead bus seq arg n got s
  | .eventRepeat seq => Sys2Proof.Machine.execEventRepeat seq s
  | .ctxCreate v => Sys2Proof.Machine.execCtxCreate v s
  | .ctxDestroy v => Sys2Proof.Machine.execCtxDestroy v s
  | .ctxReset v => Sys2Proof.Machine.execCtxReset v s
  | .catalogueRead v ok => Sys2Proof.Machine.execCatalogueRead v ok s
  | .info v => Sys2Proof.Machine.execInfo v s
  | .mbTomgrDb v => Sys2Proof.Machine.execMbTomgrDb v s
  | .mbTomgrAck v => Sys2Proof.Machine.execMbTomgrAck v s
  | .mbToinstDb v => Sys2Proof.Machine.execMbToinstDb v s
  | .mbToinstAck v => Sys2Proof.Machine.execMbToinstAck v s
  | .mbEvtHead v x => Sys2Proof.Machine.execMbEvtHead v x s
  | .secRandom r => Sys2Proof.Machine.execSecRandom r s
  | .secSlotInfo r ok => Sys2Proof.Machine.execSecSlotInfo r ok s
  | .secSlotGenerate r pulses => Sys2Proof.Machine.execSecSlotGenerate r pulses s
  | .secSlotImport r ok pulses => Sys2Proof.Machine.execSecSlotImport r ok pulses s
  | .secSlotDestroy r ok pulses => Sys2Proof.Machine.execSecSlotDestroy r ok pulses s
  | .secCerts r => Sys2Proof.Machine.execSecCerts r s
  | .secNonce r => Sys2Proof.Machine.execSecNonce r s
  | .secDebugToken r sig nonce => Sys2Proof.Machine.execSecDebugToken r sig nonce s
  | .secDebugReturn r => Sys2Proof.Machine.execSecDebugReturn r s
  | .glitch => Sys2Proof.Machine.execGlitch s
  | .entropyStartupDone pass => Sys2Proof.Machine.execEntropyStartupDone pass s
  | .healthTestFail => Sys2Proof.Machine.execHealthTestFail s
  | .retestWaitEnd => Sys2Proof.Machine.execRetestWaitEnd s
  | .drbgReseed => Sys2Proof.Machine.execDrbgReseed s
  | .aliasCertIssue => Sys2Proof.Machine.execAliasCertIssue s
  | .regionRekey q => Sys2Proof.Machine.execRegionRekey q s
  | .reencryptDone q bad zeroed => Sys2Proof.Machine.execReencryptDone q bad zeroed s
  | .rekeyInit x xid cctr key => Sys2Proof.Machine.execRekeyInit x xid cctr key s
  | .rekeyResp x xid cctr key => Sys2Proof.Machine.execRekeyResp x xid cctr key s
  | .rekeyCert x xid chains debug cctr key => Sys2Proof.Machine.execRekeyCert x xid chains debug cctr key s
  | .rekeySign x xid ok cctr key => Sys2Proof.Machine.execRekeySign x xid ok cctr key s
  | .rekeyAck x xid msg cctr key => Sys2Proof.Machine.execRekeyAck x xid msg cctr key s
  | .rekeySwitch x xid epoch cctr key => Sys2Proof.Machine.execRekeySwitch x xid epoch cctr key s
  | .rekeyAbort x xid cctr key => Sys2Proof.Machine.execRekeyAbort x xid cctr key s
  | .rekeyResend x => Sys2Proof.Machine.execRekeyResend x s
  | .keyingRetry x => Sys2Proof.Machine.execKeyingRetry x s
  | .rolloverStart x => Sys2Proof.Machine.execRolloverStart x s
  | .counterStop x => Sys2Proof.Machine.execCounterStop x s
  | .getVersion c => Sys2Proof.Machine.execGetVersion c s
  | .getCapabilities c => Sys2Proof.Machine.execGetCapabilities c s
  | .negotiateAlgorithms c common => Sys2Proof.Machine.execNegotiateAlgorithms c common s
  | .getDigests c => Sys2Proof.Machine.execGetDigests c s
  | .getCertificate c slot off len => Sys2Proof.Machine.execGetCertificate c slot off len s
  | .challenge c nonce => Sys2Proof.Machine.execChallenge c nonce s
  | .getMeasurements c k sign => Sys2Proof.Machine.execGetMeasurements c k sign s
  | .keyExchange c hybrid => Sys2Proof.Machine.execKeyExchange c hybrid s
  | .finish c id ok => Sys2Proof.Machine.execFinish c id ok s
  | .heartbeat c id => Sys2Proof.Machine.execHeartbeat c id s
  | .heartbeatMissed id => Sys2Proof.Machine.execHeartbeatMissed id s
  | .keyUpdate c id => Sys2Proof.Machine.execKeyUpdate c id s
  | .endSession c id => Sys2Proof.Machine.execEndSession c id s
  | .chunkSend c last bytes => Sys2Proof.Machine.execChunkSend c last bytes s
  | .chunkGet c n => Sys2Proof.Machine.execChunkGet c n s
  | .getMlChain c off len => Sys2Proof.Machine.execGetMlChain c off len s
  | .getProvenance c comp nonce => Sys2Proof.Machine.execGetProvenance c comp nonce s
  | .getPqSig c => Sys2Proof.Machine.execGetPqSig c s
  | .openTenant c id comp => Sys2Proof.Machine.execOpenTenant c id comp s
  | .deliverKey c id h wrapped => Sys2Proof.Machine.execDeliverKey c id h wrapped s
  | .dropKey c id h => Sys2Proof.Machine.execDropKey c id h s
  | .unsealCmd c id h va hash => Sys2Proof.Machine.execUnseal c id h va hash s
  | .sealCmd c id h va chunks last label secrets => Sys2Proof.Machine.execSeal c id h va chunks last label secrets s
  | .sealConsentExpiry p => Sys2Proof.Machine.execSealConsentExpiry p s
  | .closeTenant c id => Sys2Proof.Machine.execCloseTenant c id s
  | .getTdispVersion id v => Sys2Proof.Machine.execGetTdispVersion id v s
  | .getTdispCapabilities id v => Sys2Proof.Machine.execGetTdispCapabilities id v s
  | .lockInterfaceRequest id v => Sys2Proof.Machine.execLockInterfaceRequest id v s
  | .getDeviceInterfaceReport id v => Sys2Proof.Machine.execGetDeviceInterfaceReport id v s
  | .getDeviceInterfaceState id v => Sys2Proof.Machine.execGetDeviceInterfaceState id v s
  | .startInterfaceRequest id v nonce => Sys2Proof.Machine.execStartInterfaceRequest id v nonce s
  | .stopInterfaceRequest id v => Sys2Proof.Machine.execStopInterfaceRequest id v s
  | .controlPeriod m => Sys2Proof.Machine.execControlPeriod m s
  | .voltageReached k => Sys2Proof.Machine.execVoltageReached k s
  | .droopTrip k => Sys2Proof.Machine.execDroopTrip k s
  | .thermalShutdown sensor => Sys2Proof.Machine.execThermalShutdown sensor s
  | .backstopEntry => Sys2Proof.Machine.execBackstopEntry s
  | .backstopPeriod m => Sys2Proof.Machine.execBackstopPeriod m s
  | .pwrCap mctp v => Sys2Proof.Machine.execPwrCap mctp v s
  | .pwrSlackClear v => Sys2Proof.Machine.execPwrSlackClear v s
  | .ledgerEvent => Sys2Proof.Machine.execLedgerEvent s
  | .ledgerRead r => Sys2Proof.Machine.execLedgerRead r s
  | .ledgerClear r => Sys2Proof.Machine.execLedgerClear r s
  | .watchdogFire p => Sys2Proof.Machine.execWatchdogFire p s
  | .sample p => Sys2Proof.Machine.execSample p s
  | .sampleEnd p ok => Sys2Proof.Machine.execSampleEnd p ok s
  | .compReset p => Sys2Proof.Machine.execCompReset p s
  | .errCtxReset w => Sys2Proof.Machine.execErrCtxReset w s
  | .computePartReset => Sys2Proof.Machine.execComputePartReset s
  | .moduleWarmReset mctp => Sys2Proof.Machine.execModuleWarmReset mctp s
  | .moduleHardReset mctp => Sys2Proof.Machine.execModuleHardReset mctp s
  | .svcResetAck mctp => Sys2Proof.Machine.execSvcResetAck mctp s
  | .resetNoticeExpiry => Sys2Proof.Machine.execResetNoticeExpiry s
  | .mgmtWatchdog => Sys2Proof.Machine.execMgmtWatchdog s
  | .powerGood m => Sys2Proof.Machine.execPowerGood m s
  | .imageHeader sig => Sys2Proof.Machine.execImageHeader sig s
  | .imageLanded tag es => Sys2Proof.Machine.execImageLanded tag es s
  | .fwStage r ok => Sys2Proof.Machine.execFwStage r ok s
  | .fwActivate r sig payload => Sys2Proof.Machine.execFwActivate r sig payload s
  | .fwCancel r => Sys2Proof.Machine.execFwCancel r s
  | .mgmtImageReady => Sys2Proof.Machine.execMgmtImageReady s
  | .mgmtReadyTimeout => Sys2Proof.Machine.execMgmtReadyTimeout s
  | .microcodeSwitch x => Sys2Proof.Machine.execMicrocodeSwitch x s
  | .microcodeReadyTimeout x => Sys2Proof.Machine.execMicrocodeReadyTimeout x s
  | .queryDeviceIdentifiers bus => Sys2Proof.Machine.execQueryDeviceIdentifiers bus s
  | .getFirmwareParameters bus => Sys2Proof.Machine.execGetFirmwareParameters bus s
  | .requestUpdate bus maxSize => Sys2Proof.Machine.execRequestUpdate bus maxSize s
  | .passComponentTable bus id last => Sys2Proof.Machine.execPassComponentTable bus id last s
  | .updateComponent bus id len => Sys2Proof.Machine.execUpdateComponent bus id len s
  | .firmwareData bs => Sys2Proof.Machine.execFirmwareData bs s
  | .transferComplete => Sys2Proof.Machine.execTransferComplete s
  | .verifyComplete => Sys2Proof.Machine.execVerifyComplete s
  | .applyComplete => Sys2Proof.Machine.execApplyComplete s
  | .activateFirmware bus selfContained sig payload => Sys2Proof.Machine.execActivateFirmware bus selfContained sig payload s
  | .getStatus bus => Sys2Proof.Machine.execGetStatus bus s
  | .cancelUpdateComponent bus => Sys2Proof.Machine.execCancelUpdateComponent bus s
  | .cancelUpdate bus => Sys2Proof.Machine.execCancelUpdate bus s
  | .dfuDownload alt bs first last => Sys2Proof.Machine.execDfuDownload alt bs first last s
  | .dfuUpload alt => Sys2Proof.Machine.execDfuUpload alt s
  | .recoveryExit => Sys2Proof.Machine.execRecoveryExit s
  | .norEraseTimeout sector => Sys2Proof.Machine.execNorEraseTimeout sector s
  | .dcInputRise absent => Sys2Proof.Machine.execDcInputRise absent s
  | .bulkCharged => Sys2Proof.Machine.execBulkCharged s
  | .bulkChargeTimeout => Sys2Proof.Machine.execBulkChargeTimeout s
  | .undervoltage mv => Sys2Proof.Machine.execUndervoltage mv s
  | .brownOut => Sys2Proof.Machine.execBrownOut s
  | .overvoltage => Sys2Proof.Machine.execOvervoltage s
  | .overvoltReclose => Sys2Proof.Machine.execOvervoltReclose s
  | .inputReversal => Sys2Proof.Machine.execInputReversal s
  | .buttonRelease ms => Sys2Proof.Machine.execButtonRelease ms s
  | .buttonHold8s up => Sys2Proof.Machine.execButtonHold8s up s
  | .buttonStuck => Sys2Proof.Machine.execButtonStuck s
  | .buttonUnstuck => Sys2Proof.Machine.execButtonUnstuck s
  | .locateTouch => Sys2Proof.Machine.execLocateTouch s
  | .svcLocate mctp v => Sys2Proof.Machine.execSvcLocate mctp v s
  | .locateTimeout => Sys2Proof.Machine.execLocateTimeout s
  | .cellInserted mv => Sys2Proof.Machine.execCellInserted mv s
  | .cellSettled mv => Sys2Proof.Machine.execCellSettled mv s
  | .cellRemoved => Sys2Proof.Machine.execCellRemoved s
  | .cellReversed => Sys2Proof.Machine.execCellReversed s
  | .cellFull mv => Sys2Proof.Machine.execCellFull mv s
  | .cellRecharge mv => Sys2Proof.Machine.execCellRecharge mv s
  | .cellFault mv => Sys2Proof.Machine.execCellFault mv s
  | .chargeEn mctp on => Sys2Proof.Machine.execChargeEn mctp on s
  | .svcRtcSet mctp v => Sys2Proof.Machine.execSvcRtcSet mctp v s
  | .tamperEvent plate => Sys2Proof.Machine.execTamperEvent plate s
  | .registerWrite t => Sys2Proof.Machine.execRegisterWrite t s
  | .queueStepCompleted c q => Sys2Proof.Machine.execQueueStepCompleted c q s
  | .uncorrectableFecCodeword x => Sys2Proof.Machine.execUncorrectableFecCodeword x s
  | .cageDischargeEnd c => Sys2Proof.Machine.execCageDischargeEnd c s
  | .rekeyTimeout x => Sys2Proof.Machine.execRekeyTimeout x s
  | .smbClkLowTimeout => Sys2Proof.Machine.execSmbClkLowTimeout s
  | .usbDisconnection => Sys2Proof.Machine.execUsbDisconnection s
  | .cellVoltageThreshold mv => Sys2Proof.Machine.execCellVoltageThreshold mv s
  | .islandPowerLoss => Sys2Proof.Machine.execIslandPowerLoss s
  | .undervoltageCleared => Sys2Proof.Machine.execUndervoltageCleared s
  | .vfEnableChange n => Sys2Proof.Machine.execVfEnableChange n s
  | .hotSwapRetry => Sys2Proof.Machine.execHotSwapRetry s

end Sys2Proof.Machine
end

