-- ==== Sys2Proof/Machine/Tick.lean ====
section
/-! DEFINITION. A nanosecond of module time (spec/02: R40, R43; spec/04: R100; spec/10: R270; spec/17:
R464; spec/19: R529; spec/21: R578). -/
namespace Sys2Proof.Machine

/-- A cluster's clock over one nanosecond, in tenths of a core cycle: 2.3 GHz at P0 less 0.1 GHz a step, stopped at P15 (R100);
a droop detector may stretch it by a tenth at P0 to P13, never at P14 (R38; a free value, log 61). -/
def Cluster.cycle (k now : Nat) (c : Cluster) : Cluster :=
  if c.step ≥ 15 then c
  else { c with cyc := c.cyc + (23 - c.step) - (if c.step = 14 then 0 else (Config.stretch k now).val) }

/-- An uncorrectable error in the module's control state (R529, Table 7; a free value, log 63): a routing entry (7) has no eligible
slot until the table is restaged; an object (8) faults as by an underflow; a core (9) holds a bad step word; an inbound (10) or an
outbound (11) window entry is not VALID until the Curator rewrites it; the Curator's read of a partition's catalogue or images (12)
fails. -/
def State.controlError (s : State) (kind i x : Nat) : State :=
  match kind with
  | 7 => State.msix { s with rteAct := tblSet (fun _ => 0) s.rteAct (i % 12288) 0 } 0 6
  | 8 =>
    let o := s.obj (i % 16384)
    if o.fault = 0 then (s.setObj (i % 16384) { o with fault := 1 }).objReport (i % 16384) (1 + x % 3) (x / 4 % 2 ^ 32) else s
  | 9 => if (s.core (i % 768)).active then s.seqFault (i % 768) 2 else s
  | 10 => if (s.inWin (i % 1024)).valid then s.setInWin (i % 1024) { s.inWin (i % 1024) with bad := true } else s
  | 11 => if (s.outWin (i % 1024)).valid then s.setOutWin (i % 1024) { s.outWin (i % 1024) with bad := true } else s
  | 12 =>
    let p := i % 32
    if !(s.part p).st.resets then s
    else if (s.part p).anchor = s.reg bFAB then s.resetStart p .memberReset
    else s.emit (.curator (s.part p).anchor 26 3 0)
  | _ => s

/-- Window entries that met an error rewritten from the catalogue, at the latest 1 ms after it (R529). -/
def State.mendWins (s : State) : State :=
  { s with inWins := s.inWins.map fun (e : Nat × InWin) => (e.1, { e.2 with bad := false }),
           outWins := s.outWins.map fun (e : Nat × OutWin) => (e.1, { e.2 with bad := false }) }

/-- What befalls the arrays and the host (free values, log 63): an error comes to lie in a sector of the stack (kinds 1 to 3, R182,
R196) or in a cached line (4, R195), the host comes to refuse a page of a function or no longer does (5), or stops answering or
answers again (6) (R235), or the control state meets an error (R529). -/
def State.struck (s : State) (x : Nat × Nat × Nat) : State :=
  match x.1 with
  | 1 => { s with scrub := { s.scrub with upsets := (x.2.1, .corr) :: s.scrub.upsets.filter fun u => u.1 != x.2.1 } }
  | 2 => { s with scrub := { s.scrub with upsets := (x.2.1, .uncorr) :: s.scrub.upsets.filter fun u => u.1 != x.2.1 } }
  | 3 => { s with scrub := { s.scrub with upsets := (x.2.1, .parity) :: s.scrub.upsets.filter fun u => u.1 != x.2.1 } }
  | 4 => { s with lines := s.lines.map fun e => if e.1 = x.2.1 then (e.1, e.2.map fun (l : CacheLine) => { l with bad := true }) else e }
  | 5 =>
    let fnPage := (x.2.1, x.2.2)
    { s with pcie := { s.pcie with refused := if s.pcie.refused.contains fnPage then s.pcie.refused.erase fnPage else fnPage :: s.pcie.refused } }
  | 6 => { s with pcie := { s.pcie with hostDown := !s.pcie.hostDown } }
  | n => s.controlError n x.2.1 x.2.2

/-- What SVC_CAGE_MON shows of a cage's output, current above voltage: a measurement, free within what R261 and R262 hold the
output to (log 4): 3.3 V ± 5 % in ON, at most 6 A, and below 0.3 V once it is discharged. -/
def Cage.monitor (k : Cage) (x : Nat) : Nat :=
  let ma := x / 4096 % 6001
  match k.pow with
  | .on => ma * 65536 + (3135 + x % 331)
  | .ramp => ma * 65536 + x % 3466
  | .discharge => x % 3466
  | _ => x % 300

/-- SVC_CAGE_MON of each cage measured again, every 1 ms (R270). -/
def State.monitorCages (s : State) : List Nat → State
  | [] => s
  | c :: cs => ((s.setReg (kCageMon c) ((s.cage c).monitor (Config.free s.freeCtr))).draw).monitorCages cs

/-- The noise sources sampled at 16 MHz (R449): the bits are free values. -/
def State.sampleNoise (s : State) : State :=
  if s.cus.samples ∧ s.now * 16 % 1000 < 16 then
    let x := Config.free s.freeCtr
    s.draw.sampleBoth (bitAt x 0) (bitAt x 1)
  else s

/-- The states from ALIGN on (R249, R276). -/
def LnkSt.aligned : LnkSt → Bool
  | .disabled | .detect | .equalise => false
  | .align | .neighbour | .quarantine | .active | .draining => true

/-- IDLE words on the links that have nothing to send and no bundle open (R272, R276); one a nanosecond (DESIGN CHOICE log 2). -/
def State.idleOn (s : State) : List Nat → State
  | [] => s
  | i :: is => (if (s.lnk i).st.aligned ∧ (s.lnk i).queue.isEmpty then s.control i 8 0 false else s).idleOn is

/-- A nanosecond of module time in which no command comes (DESIGN CHOICE log 2): the timestamp of a powered module and the
real-time clock of a powered island count on (R40, R578), the clusters' cycle counters too (R100), each re-encryption walk
moves by a sector (R464), what befalls the arrays and the host does (log 63), the noise
sources are sampled (R449), idle links send IDLE (R272), and every 1 ms the cages' outputs are measured (R270) and
bad window entries rewritten (R529). -/
def State.tick (s : State) : State :=
  let s1 : State := if s.panel.armed then { s with panel := { s.panel with rtcNs := s.panel.rtcNs + 1 } } else s
  if s1.boot.good then
    let r := s1.time.tick
    let s2 : State := { s1 with now := (s1.now + r.1) % 2 ^ 64, time := r.2,
                                clus := s1.clus.map fun (e : Nat × Cluster) => (e.1, e.2.cycle e.1 s1.now) }
    let s3 := (((s2.walkSteps (List.range 384)).struck (Config.strike s.freeCtr)).draw.sampleNoise).idleOn allLinks
    if s3.now % 1000000 = 0 then (s3.monitorCages (List.range 24)).mendWins else s3
  else s1

end Sys2Proof.Machine
end

