-- ==== Sys2Proof/WellFormed.lean ====
section
/-! DEFINITION. Which commands are well formed: the word of a step is one of its row's (R110 to R116, R168, R369, R370), and the
lists that a command carries have the lengths the spec gives them. The operand types bound every unit number. -/
namespace Sys2Proof

open Machine

/-- Bits [hi:lo] of a step word. -/
def field (w : StepWord) (hi lo : Nat) : Nat := (w.extractLsb' lo (hi + 1 - lo)).toNat
/-- Bits [hi:lo] of a step word are zero, as R7 asks of a reserved field. -/
def zeros (w : StepWord) (hi lo : Nat) : Bool := field w hi lo == 0
/-- The opcode of a step word (R110, Table 3). -/
def opcode (w : StepWord) (op : Nat) : Bool := field w 127 120 == op

/-- The check of a command. -/
def Instr.wellFormed (i : Instr) : Bool :=
  match i with
  | .nop _ w => opcode w 0x0 && zeros w 119 0
  | .endCmd _ w => opcode w 0x1 && zeros w 119 0
  | .loop _ w => opcode w 0x2 && zeros w 71 0 && !zeros w 119 88 && !zeros w 87 72
  | .vsel _ w => opcode w 0x3 && zeros w 103 0
  | .phase _ w => opcode w 0x4 && zeros w 102 0
  | .rebind _ w => opcode w 0x5 && zeros w 87 0
  | .fence _ w => opcode w 0x6 && zeros w 115 0
  | .loadb _ w _ => opcode w 0x10 && zeros w 117 112 && zeros w 71 0
  | .mma _ w _ => opcode w 0x11 && zeros w 117 112 && zeros w 71 0
  | .zero _ w => opcode w 0x12 && zeros w 117 112 && zeros w 71 0
  | .drain _ w => opcode w 0x13 && zeros w 117 112 && zeros w 71 0
  | .vfma _ w => opcode w 0x20 && zeros w 31 0
  | .vadd _ w => opcode w 0x21 && zeros w 31 0
  | .vsub _ w => opcode w 0x22 && zeros w 31 0
  | .vmul _ w => opcode w 0x23 && zeros w 31 0
  | .vneg _ w => opcode w 0x24 && zeros w 31 0
  | .vabs _ w => opcode w 0x25 && zeros w 31 0
  | .vmin _ w => opcode w 0x26 && zeros w 31 0
  | .vmax _ w => opcode w 0x27 && zeros w 31 0
  | .vcmp _ w => opcode w 0x28 && zeros w 31 0
  | .vselect _ w => opcode w 0x29 && zeros w 31 0
  | .vint _ w => opcode w 0x2a && zeros w 31 0
  | .vcvt _ w => opcode w 0x2b && zeros w 31 0
  | .vred _ w => opcode w 0x2c && zeros w 31 0
  | .vperm _ w => opcode w 0x2d && zeros w 31 0
  | .vld _ w _ => opcode w 0x2e && zeros w 31 0 && zeros w 63 52
  | .vst _ w => opcode w 0x2f && zeros w 31 0 && zeros w 63 52
  | .vtrn _ w => opcode w 0x30 && zeros w 31 0
  | .setsel _ w => opcode w 0x31 && zeros w 31 0
  | .vimm _ w => opcode w 0x32 && zeros w 31 0
  | .ls _ w _ => opcode w 0x38 && zeros w 117 112
  | .copy _ w _ => opcode w 0x40 && zeros w 117 112 && !decide (0xFFF0 ≤ field w 95 80 ∧ field w 95 80 ≤ 0xFFF3) && decide (field w 111 96 ≠ 0xFFE0) && decide (field w 95 80 ≠ 0xFFE1)
  | .gather _ w => opcode w 0x41 && zeros w 117 112
  | .scatter _ w => opcode w 0x42 && zeros w 117 112
  | .dispatch _ w => opcode w 0x42 && zeros w 117 112
  | .copyt _ w => opcode w 0x43 && zeros w 117 112
  | .lcopy _ w _ => opcode w 0x44 && zeros w 117 112
  | .bucketCountTransfer _ w => opcode w 0x40 && zeros w 117 112 && decide (0xFFF0 ≤ field w 95 80 ∧ field w 95 80 ≤ 0xFFF3)
  | .allocation _ w _ => opcode w 0x40 && zeros w 117 112 && decide (field w 111 96 = 0xFFE0)
  | .free _ w => opcode w 0x40 && zeros w 117 112 && decide (field w 95 80 = 0xFFE1)
  | .poolPageClearDone _ => true
  | .transferCompletion _ => true
  | .writeAcknowledgement _ _ _ => true
  | .wait _ w => opcode w 0x50 && zeros w 96 0
  | .wake _ _ => true
  | .signal _ w => opcode w 0x51 && zeros w 87 0 && !zeros w 95 88
  | .barrier _ w => opcode w 0x52 && zeros w 47 0 && decide (field w 119 116 = 0)
  | .broadcast _ w => opcode w 0x52 && zeros w 47 0 && decide (field w 119 116 = 1)
  | .reduceAdd _ w => opcode w 0x52 && zeros w 47 0 && decide (field w 119 116 = 2)
  | .consistentSnapshot _ w => opcode w 0x52 && zeros w 47 0 && decide (field w 119 116 = 3)
  | .snapshotCut _ _ => true
  | .gop _ _ => true
  | .compositionReset _ _ => true
  | .resetHoldEnd _ => true
  | .resetConfirmTimeout _ => true
  | .launchComplete _ => true
  | .bucketRequest _ _ => true
  | .bucketGrant _ _ _ _ _ _ _ => true
  | .bucketDone _ => true
  | .zeroFillAcknowledged _ => true
  | .objectAdd _ _ _ _ => true
  | .objectJoin _ _ _ => true
  | .sigAckTimeout _ => true
  | .dbgSet _ _ => true
  | .dbgAdd _ _ => true
  | .dbgRelease _ _ => true
  | .dbgClearFault _ _ => true
  | .stateDump => true
  | .stateDumpEnd _ => true
  | .memWrite _ _ _ a bs _ => decide (1 ≤ bs.length) && decide (a.val % 512 + bs.length ≤ 512)
  | .memRead _ _ _ a n _ => decide (1 ≤ n) && decide (a.val % 512 + n ≤ 512)
  | .scrubRead _ _ _ => true
  | .refresh _ => true
  | .stackTempRead _ _ => true
  | .wayMoveDone _ _ => true
  | .selfRefreshExit _ => true
  | .regionClearDone _ _ => true
  | .groupLevelSample _ _ => true
  | .tokenRefill _ => true
  | .urgencyChange _ _ => true
  | .requestAgePromote _ _ _ => true
  | .monitorWindowClose _ _ _ => true
  | .walkEnd _ _ _ _ _ => true
  | .xltInvCmd _ _ _ => true
  | .invalidationDone _ => true
  | .xltInvStatRead _ => true
  | .atsInvalidationRequest _ _ _ => true
  | .atsTranslationCompletion _ _ _ _ _ => true
  | .wr _ => true
  | .wrm _ => true
  | .rd _ => true
  | .sig _ => true
  | .ack _ => true
  | .rdata _ => true
  | .refuse _ => true
  | .transactionVisible _ _ => true
  | .windowTimeout _ => true
  | .outboundOpen _ _ _ _ _ _ _ _ _ => true
  | .windowRevoke _ => true
  | .revokeDrained _ => true
  | .outboundClear _ => true
  | .cagePresenceGained _ => true
  | .cagePresenceLost _ => true
  | .cageRampEnd _ _ _ _ _ => true
  | .cageCurrentLimit _ => true
  | .cageOverload _ => true
  | .retryWaitEnd _ => true
  | .failsClear _ => true
  | .latchClr _ => true
  | .powerEn _ _ => true
  | .cmisReady _ _ => true
  | .cmisReadyTimeout _ => true
  | .cmisFlagRead _ _ => true
  | .signalDetect _ => true
  | .equaliseDone _ _ _ => true
  | .alignLock _ _ => true
  | .trainingTimeout _ => true
  | .detectRetry _ => true
  | .noSignalLane _ _ => true
  | .quarantineExit _ => true
  | .lossOfLock _ => true
  | .fecExcess _ => true
  | .helloSend _ => true
  | .hello _ _ _ => true
  | .lnkExpect _ _ => true
  | .quarClear _ => true
  | .retrain _ => true
  | .quarForce _ _ => true
  | .enable _ _ => true
  | .touch _ => true
  | .attnReq _ => true
  | .release _ => true
  | .cancel _ => true
  | .attnTimeout _ => true
  | .attnDrainEnd _ => true
  | .cableLowPower _ => true
  | .cageSafe _ => true
  | .keyStuck _ => true
  | .keyUnstuck _ => true
  | .bundle _ _ _ body => decide (body.length = 2048)
  | .epoch _ _ _ _ _ _ => true
  | .creditAck _ _ _ _ => true
  | .replayReq _ _ _ _ => true
  | .replayStart _ _ _ _ _ => true
  | .time _ _ _ _ _ => true
  | .idle _ => true
  | .creditAckSend _ => true
  | .epochSend _ => true
  | .timeSend _ _ => true
  | .replayReqRepeat _ => true
  | .flitAged _ _ => true
  | .writeAbandon _ _ => true
  | .commit => true
  | .stageReady _ => true
  | .fabId _ => true
  | .fabCntClear _ => true
  | .fabTsCtrl _ => true
  | .fabTsSet _ => true
  | .timeLock => true
  | .holdoverEntry => true
  | .holdoverExpiry => true
  | .rootConflictClear => true
  | .timestampDistribute => true
  | .bindReserve _ => true
  | .bindSeal _ _ => true
  | .bindEnvelopeUpdate _ => true
  | .bindRebind _ => true
  | .bindDissolve _ => true
  | .rebindRequest _ => true
  | .rebindPlanDone _ _ _ => true
  | .prepare env => decide (64 ≤ env.length)
  | .place _ _ => true
  | .curatorSeal _ _ => true
  | .resume _ => true
  | .dissolve _ => true
  | .memberReport _ _ _ => true
  | .memberTimeout _ => true
  | .curatorMessageRetry _ _ => true
  | .switchInRequest _ _ => true
  | .quantumExpiry _ => true
  | .cmpPoolAdd _ => true
  | .cmpPoolRemove _ => true
  | .sqDoorbell _ _ _ => true
  | .cqDoorbell _ _ _ => true
  | .descriptorFetch _ _ _ => true
  | .descNop _ _ => true
  | .load _ _ => true
  | .unload _ => true
  | .launch _ => true
  | .copyLinear _ _ _ => true
  | .copyDescribed _ _ _ _ => true
  | .hostSignal _ _ => true
  | .hostWait _ _ => true
  | .hostWaitTimeout _ => true
  | .quiesceDrain _ => true
  | .quiesceDrainEnd _ => true
  | .quiesceTimeout _ => true
  | .quiesceAbort _ => true
  | .quiesceResume _ => true
  | .fetchaddComplete _ _ => true
  | .coalesceTimeout _ _ => true
  | .cmisRead _ _ => true
  | .instCreate _ => true
  | .instRemove _ => true
  | .instReset _ => true
  | .instStatus _ => true
  | .flr _ => true
  | .pcieReset => true
  | .hifSqCfg _ _ _ => true
  | .hifCqCfg _ _ _ => true
  | .perstDeassert => true
  | .setEndpointId _ _ _ => true
  | .getEndpointId _ => true
  | .getEndpointUuid _ => true
  | .getMctpVersionSupport _ _ => true
  | .getMessageTypeSupport _ => true
  | .getVdmSupport _ _ => true
  | .regRead _ _ _ _ _ => true
  | .regWrite _ _ _ _ _ ws => decide (ws.length ≤ 255)
  | .mctpBind _ _ _ head total off bytes => decide (head.length = 24) && decide (total ≤ 4000) && decide (off + bytes.length ≤ total)
  | .eventAck _ _ => true
  | .mctpCmisRead _ _ _ _ _ => true
  | .eventRepeat _ => true
  | .ctxCreate _ => true
  | .ctxDestroy _ => true
  | .ctxReset _ => true
  | .catalogueRead _ _ => true
  | .info _ => true
  | .mbTomgrDb _ => true
  | .mbTomgrAck _ => true
  | .mbToinstDb _ => true
  | .mbToinstAck _ => true
  | .mbEvtHead _ _ => true
  | .secRandom _ => true
  | .secSlotInfo _ _ => true
  | .secSlotGenerate _ _ => true
  | .secSlotImport _ _ _ => true
  | .secSlotDestroy _ _ _ => true
  | .secCerts _ => true
  | .secNonce _ => true
  | .secDebugToken _ _ _ => true
  | .secDebugReturn _ => true
  | .glitch => true
  | .entropyStartupDone _ => true
  | .healthTestFail => true
  | .retestWaitEnd => true
  | .drbgReseed => true
  | .aliasCertIssue => true
  | .regionRekey _ => true
  | .reencryptDone _ _ _ => true
  | .rekeyInit _ _ _ _ => true
  | .rekeyResp _ _ _ _ => true
  | .rekeyCert _ _ _ _ _ _ => true
  | .rekeySign _ _ _ _ _ => true
  | .rekeyAck _ _ _ _ _ => true
  | .rekeySwitch _ _ _ _ _ => true
  | .rekeyAbort _ _ _ _ => true
  | .rekeyResend _ => true
  | .keyingRetry _ => true
  | .rolloverStart _ => true
  | .counterStop _ => true
  | .getVersion _ => true
  | .getCapabilities _ => true
  | .negotiateAlgorithms _ _ => true
  | .getDigests _ => true
  | .getCertificate _ _ _ _ => true
  | .challenge _ _ => true
  | .getMeasurements _ _ _ => true
  | .keyExchange _ _ => true
  | .finish _ _ _ => true
  | .heartbeat _ _ => true
  | .heartbeatMissed _ => true
  | .keyUpdate _ _ => true
  | .endSession _ _ => true
  | .chunkSend _ _ _ => true
  | .chunkGet _ _ => true
  | .getMlChain _ _ _ => true
  | .getProvenance _ _ _ => true
  | .getPqSig _ => true
  | .openTenant _ _ _ => true
  | .deliverKey _ _ _ _ => true
  | .dropKey _ _ _ => true
  | .unsealCmd _ _ _ _ _ => true
  | .sealCmd _ _ _ _ _ _ _ _ => true
  | .sealConsentExpiry _ => true
  | .closeTenant _ _ => true
  | .getTdispVersion _ _ => true
  | .getTdispCapabilities _ _ => true
  | .lockInterfaceRequest _ _ => true
  | .getDeviceInterfaceReport _ _ => true
  | .getDeviceInterfaceState _ _ => true
  | .startInterfaceRequest _ _ _ => true
  | .stopInterfaceRequest _ _ => true
  | .controlPeriod _ => true
  | .voltageReached _ => true
  | .droopTrip _ => true
  | .thermalShutdown _ => true
  | .backstopEntry => true
  | .backstopPeriod _ => true
  | .pwrCap _ _ => true
  | .pwrSlackClear _ => true
  | .ledgerEvent => true
  | .ledgerRead _ => true
  | .ledgerClear _ => true
  | .watchdogFire _ => true
  | .sample _ => true
  | .sampleEnd _ _ => true
  | .compReset _ => true
  | .errCtxReset _ => true
  | .computePartReset => true
  | .moduleWarmReset _ => true
  | .moduleHardReset _ => true
  | .svcResetAck _ => true
  | .resetNoticeExpiry => true
  | .mgmtWatchdog => true
  | .powerGood _ => true
  | .imageHeader _ => true
  | .imageLanded _ _ => true
  | .fwStage _ _ => true
  | .fwActivate _ _ _ => true
  | .fwCancel _ => true
  | .mgmtImageReady => true
  | .mgmtReadyTimeout => true
  | .microcodeSwitch _ => true
  | .microcodeReadyTimeout _ => true
  | .queryDeviceIdentifiers _ => true
  | .getFirmwareParameters _ => true
  | .requestUpdate _ _ => true
  | .passComponentTable _ _ _ => true
  | .updateComponent _ _ _ => true
  | .firmwareData _ => true
  | .transferComplete => true
  | .verifyComplete => true
  | .applyComplete => true
  | .activateFirmware _ _ _ _ => true
  | .getStatus _ => true
  | .cancelUpdateComponent _ => true
  | .cancelUpdate _ => true
  | .dfuDownload _ bs _ _ => decide (bs.length ≤ 4096)
  | .dfuUpload _ => true
  | .recoveryExit => true
  | .norEraseTimeout _ => true
  | .dcInputRise _ => true
  | .bulkCharged => true
  | .bulkChargeTimeout => true
  | .undervoltage _ => true
  | .brownOut => true
  | .overvoltage => true
  | .overvoltReclose => true
  | .inputReversal => true
  | .buttonRelease _ => true
  | .buttonHold8s _ => true
  | .buttonStuck => true
  | .buttonUnstuck => true
  | .locateTouch => true
  | .svcLocate _ _ => true
  | .locateTimeout => true
  | .cellInserted _ => true
  | .cellSettled _ => true
  | .cellRemoved => true
  | .cellReversed => true
  | .cellFull _ => true
  | .cellRecharge _ => true
  | .cellFault _ => true
  | .chargeEn _ _ => true
  | .svcRtcSet _ _ => true
  | .tamperEvent _ => true
  | .registerWrite _ => true
  | .queueStepCompleted _ _ => true
  | .uncorrectableFecCodeword _ => true
  | .cageDischargeEnd _ => true
  | .rekeyTimeout _ => true
  | .smbClkLowTimeout => true
  | .usbDisconnection => true
  | .cellVoltageThreshold _ => true
  | .islandPowerLoss => true
  | .undervoltageCleared => true
  | .vfEnableChange _ => true
  | .hotSwapRetry => true

end Sys2Proof
end

