-- ==== Sys2Proof/Safety.lean ====
section
/-! DEFINITION. What counts as a safe step, and the canonical form of memory. -/
namespace Sys2Proof

open Machine

/-- The canonical form of a byte memory: addresses strictly rising, no listed byte zero (log 6). -/
def Memory.wf (m : Tbl Byte) : Bool := tblWf (fun _ => 0) m

/-- HBM, scratchpads and host memory are in canonical form. -/
def Memory.allWf (s : State) : Bool := Memory.wf s.hbm && Memory.wf s.spad && Memory.wf s.host

/-- A command completes: it answers a next state. -/
def Completes (c : Instr) (s : State) : Prop := ∃ t, exec c s = .next t

/-- Command `i` completes: core `c` becomes `k`, and but for counters in registers nothing else changes. -/
def CoreGives (c : Nat) (s : State) (i : Instr) (k : Core) : Prop :=
  ∃ t, exec i s = .next t ∧ t.core c = k ∧ t = { s with cores := t.cores, regs := t.regs } ∧ ∀ d, d ≠ c → t.core d = s.core d

/-- Command `i` completes by faulting core `c` with a code (R138); no memory, vector register or accumulator changes. -/
def CoreFaults (c : Nat) (s : State) (i : Instr) (code : Nat) : Prop :=
  ∃ t, exec i s = .next t ∧ (t.core c).st = .faulted ∧ (t.core c).fault = code ∧ t.hbm = s.hbm ∧ t.spad = s.spad
    ∧ (t.core c).vregs = (s.core c).vregs ∧ (t.core c).acc0 = (s.core c).acc0 ∧ (t.core c).acc1 = (s.core c).acc1

/-- A ring's next descriptor `d`, of type `t`, starts: it is next, no test of its start refuses it, no other ring goes
first. `s0` is the state with the descriptor marked running. -/
def RingStarts (s : State) (fn r t : Nat) (d : HostDesc) (s0 : State) : Prop :=
  s.startable fn r = some d ∧ d.type = t ∧ s.startStatus d = none ∧ s.prioBlocked fn r = false
    ∧ s0 = s.modDesc d.id fun x => { x with st := .running }

/-- PF0's ring `r` has the MGMT command `cmd` as its next descriptor `d`, and it starts. -/
def MgmtStarts (s : State) (r cmd : Nat) (d : HostDesc) (s0 : State) : Prop := RingStarts s 0 r 9 d s0 ∧ d.cmd = cmd

/-- The Curator takes a source's next bind request, of operation `op`: the descriptors and MCTP requests that wait for its
end, the composition, the envelope's bytes, and the state with the request taken. -/
def BindStarts (s : State) (from_ : BindFrom) (op : Nat) (descs : List (Nat × Nat)) (mctp : List Nat) (comp : Nat)
    (env : List Byte) (s0 : State) : Prop :=
  s.bindWaits from_ = false ∧
  match from_ with
  | .ring r => ∃ d, RingStarts s 0 r 7 d s0 ∧ d.fld 24 1 = op ∧ descs = [(d.id, d.fld 48 8)] ∧ mctp = [] ∧ comp = d.fld 28 3
      ∧ env = if op = 1 ∨ op = 3 then s0.hostRead 0 (d.fld 32 8) (d.fld 40 4) else []
  | .mctp => ∃ m ms, s.mcWait = m :: ms ∧ m.op = op ∧ descs = [] ∧ mctp = [m.seq] ∧ comp = m.comp
      ∧ env = tblRun (fun _ => 0) m.bytes 0 m.total ∧ s0 = { s with mcWait := ms }

/-- The source of a bind request goes on behind it. -/
def bindEnds (from_ : BindFrom) (t : State) : State :=
  match from_ with
  | .ring r => t.ringGo 0 r
  | .mctp => t

/-- A queue of commands runs through: each command, with the queue's rest, completes. -/
def RunsThrough : List Instr → State → Prop
  | [], _ => True
  | c :: cs, s => ∃ t, exec c { s with pending := cs } = .next t ∧ RunsThrough cs t

end Sys2Proof
end

