-- ==== Sys2Proof/Certificates/Slice0/Obligations.lean ====
section
/-! DEFINITION. The statements for the provers. -/

open Sys2Proof Sys2Proof.Machine

/-- Control steps of a ready front end (R109, R110, R117, R126, R128, R137). -/
def Obligations.ControlSteps : Prop := ∀ (c : CoreId) (w : StepWord) (s : State),
  ((s.core c).ready = true →
    exec (.nop c w) s = .next (s.setCore c (s.core c).advance)
    ∧ (∃ t, exec (.loop c w) s = .next t
        ∧ (t.core c).loops = ⟨(s.core c).step + 1, fld w 87 72, fld w 119 88, 0, (s.core c).inVar⟩ :: (s.core c).loops
        ∧ (t.core c).step = (s.core c).step + 1 ∧ t = { s with cores := t.cores } ∧ ∀ d, d ≠ c.val → t.core d = s.core d)
    ∧ (∃ t, exec (.phase c w) s = .next t
        ∧ t.core c = { s.core c with phase := some (fld w 119 104), crit := flag w 103, phaseAt := s.now, waitAcc := 0,
                                     phaseEnergy := (s.clu (c.val / 16)).energy }.advance
        ∧ t = { s with cores := t.cores, slack := t.slack, regs := t.regs, pwr := t.pwr } ∧ ∀ d, d ≠ c.val → t.core d = s.core d)
    ∧ ((s.core c).masked (fld w 119 116) = [] → exec (.fence c w) s = .next (s.setCore c (s.core c).advance))
    ∧ ((s.core c).masked (fld w 119 116) ≠ [] → exec (.fence c w) s =
        .next (s.setCore c { s.core c with st := .stalled, stall := .fence ((s.core c).masked (fld w 119 116)) }))
    ∧ ((s.core c).drained = true → ((s.part (s.core c).part).launch.map (·.rebind)) ≠ some true →
        (∃ t, exec (.rebind c w) s = .next t
          ∧ t.core c = { s.core c with st := .running, stall := .none, rbseq := (s.core c).rbseq + 1 }.advance
          ∧ t = { s with cores := t.cores } ∧ ∀ d, d ≠ c.val → t.core d = s.core d)
        ∧ (∃ t, exec (.endCmd c w) s = .next t ∧ (t.core c).st = .done ∧ (t.core c).phase = none
          ∧ t = { s with cores := t.cores, slack := t.slack, regs := t.regs, pwr := t.pwr }
          ∧ ∀ d, d ≠ c.val → t.core d = s.core d)))
  ∧ (∀ n ns waits, (s.core c).signals = [] → (s.core c).stall = .none →
      let s1 := if waits = 0 then s else s.bump64 (dpReg (c.val / 16) 0x18) waits
      let sets := (s.core c).setsels.filter (· ≠ n)
      ((s.core c).qMx = n :: ns → exec (.queueStepCompleted c ⟨0, waits⟩) s =
          .next (s1.setCore c { s.core c with qMx := (n :: ns).filter (· ≠ n), setsels := sets }))
      ∧ ((s.core c).qVx = n :: ns → exec (.queueStepCompleted c ⟨1, waits⟩) s =
          .next (s1.setCore c { s.core c with qVx := (n :: ns).filter (· ≠ n), setsels := sets }))
      ∧ (∀ g ds, (s.core c).syDone = (n, 0xFFFFF, g) :: ds → (s.core c).syWait = [] → ∃ t, exec (.queueStepCompleted c ⟨2, waits⟩) s = .next t
        ∧ t.core c = { s.core c with syDone := ds, qSy := (s.core c).qSy.filter (· ≠ n), setsels := sets }
        ∧ t = { s1 with cores := t.cores } ∧ ∀ d, d ≠ c.val → t.core d = s.core d))

/-- The position after a step (R115, R117). -/
def Obligations.LoopsRepeat : Prop := ∀ k : Core,
  (∀ f fs, k.loops = f :: fs → f.inVar = k.inVar → k.step + 1 = f.first + f.body → f.iter + 1 < f.count →
    k.advance.step = f.first ∧ k.advance.loops = { f with iter := f.iter + 1 } :: fs
      ∧ k.advance.begunOf (loopKey f.first f.inVar) = k.begunOf (loopKey f.first f.inVar) + 1)
  ∧ (∀ f, k.loops = [f] → f.inVar = k.inVar → k.inVar = false → k.step + 1 = f.first + f.body → f.count ≤ f.iter + 1 →
    k.advance = { k with step := k.step + 1, loops := [] })
  ∧ (k.loops = [] → k.inVar = false → k.advance = { k with step := k.step + 1 })

/-- VSEL (R110, R118, R119). -/
def Obligations.VariantSelect : Prop := ∀ (c : CoreId) (w : StepWord) (s : State), (s.core c).ready = true →
  let k := s.core c
  (k.setsels ≠ [] → exec (.vsel c w) s = .next (s.setCore c { k with st := .stalled, stall := .vsel k.setsels }))
  ∧ (k.setsels = [] →
  let im := s.imageOf k
  let off := secOff im 2 + 336 * fld w 119 108
  let n := imgField im off 1
  let x := tblGet (fun _ => 0) k.sel (fld w 105 104)
  let enters (e : Nat) (oor : Nat) : Prop := imgField im (off + 0x54 + 16 * e) 4 ≠ 0 →
    exec (.vsel c w) s = .next (s.setCore c
      { k with vrange := oor, inVar := true, step := imgField im (off + 0x50 + 16 * e) 4,
               varEnd := imgField im (off + 0x50 + 16 * e) 4 + imgField im (off + 0x54 + 16 * e) 4, varRet := k.step + 1 })
  ((fld w 107 106 = 0 → x < n → enters x k.vrange)
  ∧ (fld w 107 106 = 0 → n ≤ x → enters (n - 1) (min 0xFFFFFFFF (k.vrange + 1)))
  ∧ (fld w 107 106 = 1 → ∀ e, e < n → x ≤ imgField im (off + 0x10 + 4 * e) 4 →
      (∀ d, d < e → imgField im (off + 0x10 + 4 * d) 4 < x) → enters e k.vrange)
  ∧ (fld w 107 106 = 1 → (∀ d, d < n → imgField im (off + 0x10 + 4 * d) 4 < x) →
      enters (n - 1) (min 0xFFFFFFFF (k.vrange + 1)))
  ∧ (2 ≤ fld w 107 106 → ∃ t, exec (.vsel c w) s = .next t ∧ (t.core c).st = .faulted ∧ (t.core c).fault = 1
      ∧ t.hbm = s.hbm ∧ t.spad = s.spad)))

/-- Matrix steps (R80 to R82, R108, R111, R115). -/
def Obligations.MatrixSteps : Prop := ∀ (c : CoreId) (w : StepWord) (s : State), (s.core c).ready = true →
  let K := (s.core c).enqueue .mx
  let d? := s.poolDesc c (fld w 111 96) (fld w 95 88) 0
  ((s.core c).qMx.length < 32 →
    CoreGives c s (.zero c w) (K.setBank (flag w 118) Bank.empty).moveOn
    ∧ (∀ d f, d? = some d → tileOk c d = some f → s.tilePoison c d f = 0 →
        CoreGives c s (.loadb c w none) (K.setBuf (flag w 119) (some (s.readTile c d f))).moveOn)
    ∧ (∀ d tl r f, d? = some d → (s.core c).buf (flag w 119) = some tl → fld w 87 72 = 0xFFFF →
        s.mmaCheck c w d tl = some (r, f, none) → tl.k ≠ 0 →
        s.poisonRows c d.off d.stride (rowBytes f d.elems) d.rows
          + s.poisonRows c d.auxOff (if d.scaled then scaleBytes f d.elems else 0) (if d.scaled then scaleBytes f d.elems else 0) d.rows = 0 →
        CoreGives c s (.mma c w none) (K.setBank (flag w 118)
          (mmaRows r (if tl.sparse ∧ tl.fmt = .tern2 then 64 else r.group) ((List.range tl.n).map fun i => (tl.colVals i).take tl.k)
            tl.special (fun x => x) 0
            ((List.range d.rows).map fun m => rowVals f d.scaled d.elems (s.spadRead c (d.off + m * d.stride) (rowBytes f d.elems))
              (s.spadRead c (d.auxOff + m * (if d.scaled then scaleBytes f d.elems else 0)) (if d.scaled then scaleBytes f d.elems else 0)))
            { (s.core c).bank (flag w 118) with kind := if r.int then .i32 else .f32 })).moveOn)
    ∧ (∀ d, d? = some d → ((s.core c).bank (flag w 118)).kind = .f32 → d.fmt = 0 → d.space = 1 → d.core = c.val → d.scaled = false →
        d.sparse = false → d.round < 2 → 1 ≤ d.rows → d.rows ≤ 256 → (d.elems = 64 ∨ d.elems = 128) →
        extentOk d.off d.rows d.stride (4 * d.elems) = true →
        let x := s.drainRows c ((s.core c).bank (flag w 118)) d.off d.stride d.elems 0 d.rows
        ∃ t, exec (.drain c w) s = .next t ∧ t.core c = K.moveOn ∧ t.spad = x.spad ∧ t.spadWritten = x.spadWritten
          ∧ t.spadPoison = x.spadPoison
          ∧ t = { s with cores := t.cores, spad := t.spad, spadWritten := t.spadWritten, spadPoison := t.spadPoison }
          ∧ ∀ d, d ≠ c.val → t.core d = s.core d)
    ∧ (d? = none → CoreFaults c s (.loadb c w none) 3 ∧ CoreFaults c s (.mma c w none) 3 ∧ CoreFaults c s (.drain c w) 3)
    ∧ (∀ d, d? = some d → tileOk c d = none → CoreFaults c s (.loadb c w none) 1)
    ∧ (∀ d f, d? = some d → tileOk c d = some f → 0 < s.tilePoison c d f → CoreFaults c s (.loadb c w none) 2)
    ∧ (∀ d, d? = some d → (s.core c).buf (flag w 119) = none → CoreFaults c s (.mma c w none) 1))
  ∧ (32 ≤ (s.core c).qMx.length → ∀ i ∈ [Instr.loadb c w none, .mma c w none, .zero c w, .drain c w],
      exec i s = .next (s.setCore c ((s.core c).queueStall .mx)))

/-- Vector arithmetic (R85, R86, R589). -/
def Obligations.VectorArithmetic : Prop := ∀ (c : CoreId) (w : StepWord) (s : State), (s.core c).ready = true →
  let K := (s.core c).enqueue .vx
  let fp (f : Val → Val → Val → Val) := (K.writeVd w (fpWords (srcFmt w) f (K.va w) (K.vb w) (K.vc w))).moveOn
  ((s.core c).qVx.length < 32 →
    (fpFmtOk w = true →
      CoreGives c s (.vfma c w) (fp fun a b d => addV (mulV a b) d) ∧ CoreGives c s (.vadd c w) (fp fun a b _ => addV a b)
      ∧ CoreGives c s (.vsub c w) (fp fun a b _ => addV a (negV b)) ∧ CoreGives c s (.vmul c w) (fp fun a b _ => mulV a b)
      ∧ CoreGives c s (.vneg c w) (fp fun a _ _ => negV a) ∧ CoreGives c s (.vabs c w) (fp fun a _ _ => absV a))
    ∧ (anyFmtOk w = true →
      CoreGives c s (.vmin c w) (K.writeVd w (minmaxWords false (srcFmt w) (K.va w) (K.vb w))).moveOn
      ∧ CoreGives c s (.vmax c w) (K.writeVd w (minmaxWords true (srcFmt w) (K.va w) (K.vb w))).moveOn)
    ∧ ((srcFmt w ≤ 2 ∨ srcFmt w = 0xC) → func w ≤ 3 → CoreGives c s (.vcmp c w) (K.setPred (fld w 117 115)
        ((maskOf 0 (cmpWords (srcFmt w) (func w) (K.va w) (K.vb w)) &&& K.mask w)
          ||| (K.pred (fld w 117 115) &&& (2 ^ 512 - 1 - K.mask w)))).moveOn)
    ∧ (fpFmtOk w = false → ∀ i ∈ [Instr.vfma c w, .vadd c w, .vsub c w, .vmul c w, .vneg c w, .vabs c w], CoreFaults c s i 1)
    ∧ (anyFmtOk w = false → CoreFaults c s (.vmin c w) 1 ∧ CoreFaults c s (.vmax c w) 1)
    ∧ (3 < func w → CoreFaults c s (.vcmp c w) 1))
  ∧ (32 ≤ (s.core c).qVx.length →
      ∀ i ∈ [Instr.vfma c w, .vadd c w, .vsub c w, .vmul c w, .vneg c w, .vabs c w, .vmin c w, .vmax c w, .vcmp c w],
        exec i s = .next (s.setCore c ((s.core c).queueStall .vx)))

/-- Vector moves and conversions (R87, R112, R113, R589, R590). -/
def Obligations.VectorMoves : Prop := ∀ (c : CoreId) (w : StepWord) (s : State), (s.core c).ready = true →
  let K := (s.core c).enqueue .vx
  let off := fld w 51 32
  let vd := fld w 119 115
  ((s.core c).qVx.length < 32 →
    (anyFmtOk w = true → CoreGives c s (.vselect c w) (K.setVreg vd (merge (K.pred (fld w 98 96)) 0 (K.va w) (K.vc w))).moveOn)
    ∧ (srcFmt w = 0xC → dstFmt w = 0xC → func w ≤ 12 →
        CoreGives c s (.vint c w) (K.writeVd w (zip3 (fun a b _ => intOp (func w) a b) (K.va w) (K.vb w) (K.va w))).moveOn)
    ∧ ((srcFmt w = 0 ∨ srcFmt w = 0xC) → dstFmt w = srcFmt w → func w ≤ 2 →
        let red := treeFold (redOp (srcFmt w) (func w)) (merge (K.mask w) 0 (K.va w) (List.replicate 512 (redIdentity (srcFmt w) (func w))))
        CoreGives c s (.vred c w) (({ K with vregs := tblSet (fun _ => 0) K.vregs (512 * vd) red } : Core).moveOn))
    ∧ (moveFmtOk w = true → func w = 0 →
        CoreGives c s (.vperm c w) (K.writeVd w ((K.vb w).map fun i => nth 0 (K.va w) (i % 512))).moveOn)
    ∧ (moveFmtOk w = true → func w = 1 →
        CoreGives c s (.vperm c w) (K.writeVd w (List.replicate 512 (nth 0 (K.va w) 0))).moveOn)
    ∧ (srcFmt w = 0 → dstFmt w = 0 → func w ≤ 12 →
        CoreGives c s (.vtrn c w) (K.writeVd w (zip3 (fun a b _ => transLane (func w) a b) (K.va w) (K.vb w) (K.va w))).moveOn)
    ∧ (moveFmtOk w = true → CoreGives c s (.vimm c w) (K.writeVd w (List.replicate 512
        (if srcFmt w = 1 ∨ srcFmt w = 2 then fld w 63 32 % 65536 * 65537 else fld w 63 32))).moveOn)
    ∧ CoreGives c s (.setsel c w) (({ K with
        setsels := K.setsels ++ [(s.core c).seq],
        sel := tblSet (fun _ => 0) K.sel (fld w 116 115) (tblGet (fun _ => 0) K.vregs (512 * fld w 114 110)) } : Core).moveOn)
    ∧ (∀ a b ss ds, cvtFields w = some (a, b, ss, ds, false) → CoreGives c s (.vcvt c w) (K.convert w a b ss ds none).moveOn)
    ∧ (∀ a b ss ds, cvtFields w = some (a, b, ss, ds, true) →
        (∀ sd, s.seedOf c (fld w 79 64) = some sd → CoreGives c s (.vcvt c w) (K.convert w a b ss ds (some sd)).moveOn)
        ∧ (s.seedOf c (fld w 79 64) = none → CoreFaults c s (.vcvt c w) 4))
    ∧ (moveFmtOk w = true → off % 32 = 0 → s.poisonIn c off (min 2048 (2 ^ 20 - off)) = 0 →
        CoreGives c s (.vld c w none) (K.writeVd w (wordRun 512 (s.spadRead c off (min 2048 (2 ^ 20 - off))))).moveOn)
    ∧ (moveFmtOk w = true → off % 32 = 0 →
        let x := if flag w 99 then s.storeLanes c ((s.core c).mask w) off 0 ((s.core c).va w) else s.storeAll c off ((s.core c).va w)
        ∃ t, exec (.vst c w) s = .next t ∧ t.core c = K.moveOn ∧ t.spad = x.spad ∧ t.spadWritten = x.spadWritten
          ∧ t.spadPoison = x.spadPoison
          ∧ t = { s with cores := t.cores, regs := t.regs, spad := t.spad, spadWritten := t.spadWritten, spadPoison := t.spadPoison }
          ∧ ∀ d, d ≠ c.val → t.core d = s.core d)
    ∧ (off % 32 ≠ 0 → CoreFaults c s (.vld c w none) 1 ∧ CoreFaults c s (.vst c w) 1)
    ∧ (moveFmtOk w = true → off % 32 = 0 → 0 < s.poisonIn c off (min 2048 (2 ^ 20 - off)) → CoreFaults c s (.vld c w none) 2)
    ∧ (cvtFields w = none → CoreFaults c s (.vcvt c w) 1))
  ∧ (32 ≤ (s.core c).qVx.length →
      ∀ i ∈ [Instr.vselect c w, .vint c w, .vcvt c w, .vred c w, .vperm c w, .vld c w none, .vst c w, .vtrn c w, .setsel c w,
          .vimm c w], exec i s = .next (s.setCore c ((s.core c).queueStall .vx)))

/-- Transfer steps (R94, R95, R101, R108, R114, R115, R148, R157, R166). -/
def Obligations.TransferStart : Prop := ∀ (c : CoreId) (w : StepWord) (u : Option (Fin 1048576)) (f : Fin 16) (s : State),
  (s.core c).ready = true →
  let k := s.core c
  let e := clusterEngine c w
  let q := s.setCore c (k.enqueue .xf)
  let plain := fld w 79 64 = 0xFFFF
  let goes (t : State) : Out := .next (t.modCore c Core.moveOn)
  let forms : List (Instr × XfStep × Nat) := [(.copyt c w, .copyt, e), (.gather c w, .gather, e), (.scatter c w, .scatter, e),
    (.dispatch c w, .scatter, e), (.ls c w u, .ls u, 112 + c), (.lcopy c w f, .lcopy f, 96 + f), (.copy c w u, .copy u, e)]
  let admits (i : Instr) : Prop := (i = .copy c w u → specialCopy w = false) ∧ (i = .lcopy c w f → s.lcopyDie c w f = true)
  (k.qXf.length < 32 →
    (∀ i ∈ forms, admits i.1 → (k.held ≠ [] ∨ s.hasRoom i.2.2 = false) →
      let t := q.setCore c { k.enqueue .xf with held := k.held ++ [⟨k.seq, w, i.2.1, i.2.2, k.loops, k.begun⟩] }
      exec i.1 s = goes (if k.held = [] then
        t.setEngine i.2.2 { t.engine i.2.2 with waiting := (t.engine i.2.2).waiting ++ [c.val] } else t))
    ∧ (k.held = [] → ∀ sd dd seed, (dd.round ≠ 1 → seed = 0) →
      let x (t : State) (kind : XferKind) := stepXfer kind c k.seq (t.core c).part w sd dd seed
      (let t := q.upset c u
       t.xferDesc c w (fld w 111 96) = some sd → t.xferDesc c w (fld w 95 80) = some dd →
        (dd.round = 1 → t.seedOf c (fld w 35 20) = some seed) →
        (s.hasRoom e = true → specialCopy w = false →
          (plain → exec (.copy c w u) s = goes (t.startXfer (x t .copy) e))
          ∧ (∀ v, ¬ plain → t.poolRaw (t.core c) (fld w 79 64) (fld w 63 56) 0 = some v →
              exec (.copy c w u) s = goes (t.startXfer { x t .copy with rep := some (repeatOf v) } e)))
        ∧ (s.hasRoom (112 + c) = true → seed = 0 →
            exec (.ls c w u) s = goes (if plain ∧ lsOk c sd dd = true then t.startXfer (x t .ls) (112 + c)
              else t.startRefused (x t .ls) (112 + c) stFormat)))
      ∧ (q.xferDesc c w (fld w 111 96) = some sd → q.xferDesc c w (fld w 95 80) = some dd →
        (dd.round = 1 → q.seedOf c (fld w 35 20) = some seed) →
        (s.hasRoom (96 + f) = true → s.lcopyDie c w f = true →
          exec (.lcopy c w f) s = goes (if plain then q.startXfer (x q .lcopy) (96 + f)
            else q.startRefused (x q .lcopy) (96 + f) stFormat))
        ∧ (s.hasRoom e = true →
          (plain → exec (.copyt c w) s = goes (q.startXfer (x q .copyt) e))
          ∧ (∀ v, ¬ plain → q.poolRaw (q.core c) (fld w 79 64) (fld w 63 56) 0 = some v →
              exec (.copyt c w) s = goes (q.startXfer { x q .copyt with rep := some (repeatOf v) } e))
          ∧ (∀ l, q.xferDesc c w (fld w 79 64) = some l →
            let listed := listDescOk c l = true ∧ q.listKind c l.off = 3
            exec (.gather c w) s = goes (q.startXfer { x q .gather with idx := some l } e)
            ∧ (¬ listed → exec (.scatter c w) s = goes (q.startXfer { x q .scatter with idx := some l } e)))))
      ∧ (q.xferDesc c w (fld w 111 96) = some sd → q.xferDesc c w (fld w 95 80) = some dd → s.hasRoom e = true →
        ∀ l, q.xferDesc c w (fld w 79 64) = some l → listDescOk c l = true → q.listKind c l.off = 3 →
          let m := q.routeBuckets c l.off
          let direct := q.routeDirect c l.off
          ∀ ds sd', q.descRun c w (fld w 95 80) 0 (if direct then m else 2 * m) = some ds →
            (if (ds.take m).any (fun d => d.round == 1) then q.seedOf c (fld w 35 20) = some sd' else sd' = 0) →
            ∀ i ∈ [Instr.scatter c w, .dispatch c w], exec i s =
              goes (q.startXfer { stepXfer .scatter c k.seq (q.core c).part w sd dd 0 with
                kind := if direct then .direct else .dispatch, idx := some l, dsts := ds, seed := sd' } e)))
    ∧ (k.held = [] → q.xferDesc c w (fld w 111 96) = none →
        (s.hasRoom e = true → specialCopy w = false → CoreFaults c s (.copy c w none) 3)
        ∧ (s.hasRoom e = true → ∀ i ∈ [Instr.copyt c w, .gather c w, .scatter c w, .dispatch c w], CoreFaults c s i 3)
        ∧ (s.hasRoom (96 + f) = true → s.lcopyDie c w f = true → CoreFaults c s (.lcopy c w f) 3)
        ∧ (s.hasRoom (112 + c) = true → CoreFaults c s (.ls c w none) 3))
    ∧ (k.held = [] → ∀ sd dd, q.xferDesc c w (fld w 111 96) = some sd → q.xferDesc c w (fld w 95 80) = some dd → dd.round = 1 →
        q.seedOf c (fld w 35 20) = none → s.hasRoom e = true →
        CoreFaults c s (.copyt c w) 4 ∧ CoreFaults c s (.gather c w) 4))
  ∧ (specialCopy w = true → exec (.copy c w u) s = .next s)
  ∧ (s.lcopyDie c w f = false → exec (.lcopy c w f) s = .next s)
  ∧ (32 ≤ k.qXf.length → ∀ i ∈ forms, admits i.1 → exec i.1 s = .next (s.setCore c (k.queueStall .xf)))

/-- Bucket counts, allocations and frees (R168, R369, R370). -/
def Obligations.AllocatorTransfers : Prop := ∀ (c : CoreId) (w : StepWord) (s : State),
  let k := s.core c
  let e := clusterEngine c w
  let q := s.setCore c (k.enqueue .xf)
  let goes (t : State) : Out := .next (t.modCore c Core.moveOn)
  (k.ready = true → k.qXf.length < 32 → k.held = [] → s.hasRoom e = true → fld w 79 64 = 0xFFFF →
    (∀ sd, 0xFFF0 ≤ fld w 95 80 → fld w 95 80 ≤ 0xFFF3 → q.xferDesc c w (fld w 111 96) = some sd →
      exec (.bucketCountTransfer c w) s =
        goes (q.startXfer (stepXfer .bucketCount c k.seq (q.core c).part w sd sd (fld w 95 80 - 0xFFF0)) e))
    ∧ (∀ dd n picks, fld w 111 96 = 0xFFE0 → s.xferDesc c w (fld w 95 80) = some dd → q.xferDesc c w (fld w 95 80) = some dd →
      pagesForm c dd = some n → (s.hasAlloc k.part = true → s.picksOk k.part n picks = true) →
      exec (.allocation c w picks) s =
        goes (q.startXfer { stepXfer .alloc c k.seq (q.core c).part w dd dd 0 with picks := picks } e))
    ∧ (∀ sd, fld w 95 80 = 0xFFE1 → q.xferDesc c w (fld w 111 96) = some sd →
      exec (.free c w) s = goes (q.startXfer (stepXfer .free c k.seq (q.core c).part w sd sd 0) e)))
  ∧ (∀ (x : Xfer) (d : Nat),
    (x.kind = .bucketCount → x.src.space = 1 → x.src.core / 16 = x.core / 16 → x.src.off + 4 ≤ 2 ^ 20 →
      (fmtOf x.src.fmt).all (fun f => x.src.extent f) = true → s.poisonIn x.src.core x.src.off 4 = 0 →
      s.runNow x d = (s.modCore x.core fun k =>
        { k with sel := tblSet (fun _ => 0) k.sel x.seed (s.spadWord x.src.core x.src.off) }).refuseXfer x d 0)
    ∧ (x.kind = .alloc → ∀ n, pagesForm x.core x.dst = some n → s.hasAlloc x.part = true → x.dst.extent .int32 = true →
      s.picksOk x.part n x.picks = true →
      let words := toBytes 4 x.picks.length ++ toBytes 4 0 ++ x.picks.flatMap fun y => toBytes 8 (s.arenaVa x.part + y.2 * 2 ^ 25)
      s.runNow x d = (((s.takePages x.part x.picks).refuseXfer x d 0).spadWrite x.dst.core x.dst.off words).modXfer d x.core x.seq
        fun y => { y with bytes := words.length, unacked := 1 })
    ∧ (x.kind = .free → ∀ n, pagesForm x.core x.src = some n → s.hasAlloc x.part = true → x.src.extent .int32 = true →
      let j := s.spadWord x.core x.src.off
      0 < j → j ≤ n → s.poisonIn x.core x.src.off 8 = 0 → s.poisonIn x.core (x.src.off + 8) (8 * j) = 0 →
      let r := s.freeList x.part ((List.range j).map fun i => ofBytes (s.spadRead x.core (x.src.off + 8 + 8 * i) 8))
      s.runNow x d = r.1.refuseXfer x d r.2))
  ∧ (∀ pg : Fin 16384, s.poolPage pg = some ⟨none, true⟩ → ∃ t, exec (.poolPageClearDone pg) s = .next t
      ∧ t.poolPage pg = some ⟨none, false⟩ ∧ (∀ p, p ≠ pg.val → t.poolPage p = s.poolPage p)
      ∧ t = { s.clearRange (pg * 2 ^ 25) ((pg + 1) * 2 ^ 25) with pool := t.pool })

/-- Acknowledgement and completion of transfers (R95, R98, R114, R593). -/
def Obligations.TransferEnds : Prop := ∀ (e : XferEngineId) (core seq : Nat) (s : State),
  (∀ x, s.findXfer e core seq = some x → 0 < x.unacked →
    let s1 := s.modXfer e core seq fun y =>
      { y with unacked := y.unacked - 1, disp := y.disp.map fun d => { d with toDone := d.toDone.drop 1 } }
    ((∀ d, x.disp = some d → d.toDone = []) → exec (.writeAcknowledgement e core seq) s = .next s1)
    ∧ (∀ d b bs, x.disp = some d → d.toDone = b :: bs → exec (.writeAcknowledgement e core seq) s =
        .next (s1.emit (.bucketDone (nth x.src (x.dsts.drop d.buckets) b).base))))
  ∧ (∀ x xs, (s.engine e).queue = x :: xs →
    let s1 := (s.setEngine e { s.engine e with queue := xs }).draw
    let ends (t : State) := exec (.transferCompletion e) s = .next (t.refillEngine e)
    ((0 < x.unacked ∨ 0 < x.reads ∨ x.moved = false) → exec (.transferCompletion e) s = .next s)
    ∧ (x.isOver = true → ∀ d, x.host = some d → ends (s1.endDesc d (if x.status = 0 then 0 else 2) (s.statusRecord x e)))
    ∧ (x.isOver = true → x.host = none → x.disp = none →
      (x.statrec = false → x.status = 0 → x.sig = 0xFFFFF → ends (s1.stepDone x.core .xf x.seq))
      ∧ (x.statrec = true → x.sig = 0xFFFFF →
          ends ((s1.spadWrite x.core x.statOff (toBytes 16 (s1.statusRecord x e))).stepDone x.core .xf x.seq))
      ∧ (x.statrec = false → x.status ≠ 0 → x.sig = 0xFFFFF →
          ends ((s1.seqFault x.core (xferFaultCode x)).stepDone x.core .xf x.seq))
      ∧ (x.statrec = false → x.status = 0 → x.sig ≠ 0xFFFFF → s1.isRemote x.core x.sig = false →
          ends ((s1.raise x.core x.sig 1 1 e x.seq).stepDone x.core .xf x.seq))
      ∧ (x.statrec = false → x.status = 0 → x.sig ≠ 0xFFFFF → s1.isRemote x.core x.sig = true →
          ends (s1.raise x.core x.sig 1 1 e x.seq))))

/-- What a refused transfer leaves unchanged (R95, R98). -/
def Obligations.RefusedTransferFrame : Prop := ∀ (x : Xfer) (e : Nat) (s : State),
  (x.kind ∈ [XferKind.copy, .copyt, .lcopy, .ls, .gather, .scatter] → ∀ st, s.xferCheck x = .error st →
    s.runNow x e = s.refuseXfer x e st ∧ (x.status = 0 → s.beginXfer x e = s.refuseXfer x e st))
  ∧ (x.kind = .direct → ∀ st, s.directCheck x = .error st → s.runNow x e = s.refuseXfer x e st)
  ∧ (x.kind = .dispatch → ∀ st, s.dispatchCheck x = .error (st, false) → s.runNow x e = s.refuseXfer x e st)
  ∧ (x.status ≠ 0 → s.beginXfer x e = s.refuseXfer x e x.status)
  ∧ ∀ st, ∃ t, s.refuseXfer x e st = t ∧ (t.engine e).queue = (s.engine e).queue.map (fun y =>
        if y.core = x.core ∧ y.seq = x.seq then { y with status := st, moved := true } else y)
      ∧ t = { s with engines := t.engines, regs := t.regs } ∧ ∀ d, d ≠ e → t.engine d = s.engine d

/-- ADD and JOIN at an object's home (R308, R309, R311). -/
def Obligations.ObjectOperations : Prop := ∀ (n : ObjId) (a : Fin 256) (kind : Fin 2) (c : CoreId) (wire : Fin 8) (s : State),
  s.objOf n c = true →
  let o := s.obj n
  let need := o.target % 2 ^ 24
  let enough (count : Nat) (l : List Waiter) : Prop := need ≤ count ∧ Nat.max (o.target / 2 ^ 24) 1 ≤ l.length
  let fired (t : State) (count : Nat) (l : List Waiter) : Prop :=
    t.obj n = { o with waiters := [], count := count - need, fired := (o.fired + 1) % 65536, tsLast := s.now }
      ∧ ∀ d w, Waiter.core d w ∈ l → (t.core d).released = true
  let others (t : State) : Prop := ∀ m, m ≠ n.val → t.obj m = s.obj m
  (o.fault = 0 → o.count + a.val ≤ o.max →
    ∃ t, exec (.objectAdd n a kind c) s = .next t ∧ others t
      ∧ (enough (o.count + a) o.waiters → fired t (o.count + a) o.waiters)
      ∧ (¬ enough (o.count + a) o.waiters → t = s.setObj n { o with count := o.count + a.val, tsLast := s.now }))
  ∧ (o.fault = 0 → o.max < o.count + a.val →
    ∃ t, exec (.objectAdd n a kind c) s = .next t ∧ others t ∧ t.obj n = { o with fault := 2 })
  ∧ (o.fault ≠ 0 → ∃ t, exec (.objectAdd n a kind c) s = .next t ∧ others t ∧ t.obj n = { o with primed := false })
  ∧ ((s.core c).waitObj = some n.val →
    (o.fault = 0 → Waiter.core c wire ∉ o.waiters →
      let l := o.waiters ++ [Waiter.core c wire]
      ∃ t, exec (.objectJoin n c wire) s = .next t ∧ others t ∧ (enough o.count l → fired t o.count l)
        ∧ (¬ enough o.count l → t = s.setObj n { o with waiters := l, tsLast := s.now }))
    ∧ (o.fault ≠ 0 → ∃ t, exec (.objectJoin n c wire) s = .next t ∧ others t ∧ t.obj n = { o with primed := false }))

/-- Waiting, waking and signalling (R312, R314, R316). -/
def Obligations.WaitAndSignal : Prop := ∀ (c : CoreId) (w : StepWord) (wire : Fin 8) (tag : Fin 65536) (s : State),
  let k := s.core c
  (k.ready = true →
    (∀ r, s.objRef c (fld w 119 100) = some r → r.fid = s.reg bFAB →
      let asleep : Core := { k with
        st := .waiting, waitObj := some r.obj, wire := fld w 99 97, released := false, gated := true, waitFrom := s.now,
        waitPeriod := s.pwr.period }
      exec (.wait c w) s = .next ((s.setCore c asleep).emit (.objJoin r.obj c (fld w 99 97))))
    ∧ (∀ r, s.objRef c (fld w 119 100) = some r → r.fid ≠ s.reg bFAB → CoreFaults c s (.wait c w) 5)
    ∧ (s.objRef c (fld w 119 100) = none → CoreFaults c s (.wait c w) 5)
    ∧ (fld w 95 88 = 0 → exec (.signal c w) s = .fault (.undefinedWithin "partition"))
    ∧ (fld w 95 88 ≠ 0 → k.qSy.length < 32 → k.signals = [] → k.masked (fld w 99 96) ≠ [] →
        let held : List PendSignal := [⟨k.seq, fld w 119 100, fld w 95 88, k.masked (fld w 99 96)⟩]
        exec (.signal c w) s = .next (s.setCore c ({ k.enqueue .sy with signals := held } : Core).moveOn))
    ∧ (fld w 95 88 ≠ 0 → k.qSy.length < 32 → k.signals = [] → k.masked (fld w 99 96) = [] → k.syWait = [] →
        ∀ r, s.objRef c (fld w 119 100) = some r → r.fid = s.reg bFAB → ∃ t, exec (.signal c w) s = .next t
          ∧ t.out = s.out ++ [.objAdd r.obj (fld w 95 88) 0 c] ∧ (t.core c).signals = []
          ∧ (t.core c).qSy = k.qSy.filter (· ≠ k.seq) ∧ (t.core c).step = k.advance.step
          ∧ t = { s with cores := t.cores, out := t.out } ∧ ∀ d, d ≠ c.val → t.core d = s.core d)
    ∧ (fld w 95 88 ≠ 0 → k.signals = [] → 32 ≤ k.qSy.length → exec (.signal c w) s = .next (s.setCore c (k.queueStall .sy))))
  ∧ (k.st = .waiting → k.released = true → exec (.wake c wire) s = .next (s.setCore c
      { k with st := .running, waitObj := none, released := false, gated := false,
               waitAcc := k.waitAcc + (s.now - k.waitFrom), wires := k.wires - (k.wires &&& 2 ^ wire.val) }.advance))
  ∧ (k.st = .waiting → k.released = false → exec (.wake c wire) s =
      .next (s.setReg (bSYN + 0x14) (satAdd 0xFFFFFFFF (s.reg (bSYN + 0x14)) 1)))
  ∧ (k.st ≠ .waiting → exec (.wake c wire) s = .next s)
  ∧ (∀ t, s.txn tag = some t → t.kind = .sig → t.resting = false →
      let lost := ((s.bump (bSYN + 0xC) 1).ledger 0x0401 (srcOf3 0xFF 0 0) t.base tag t.entry).setTxn tag (some { t with resting := true })
      (t.engine = hostEngine → exec (.sigAckTimeout tag) s = .next (lost.endDesc t.seq 2 3))
      ∧ (880 ≤ t.engine → t.engine ≠ hostEngine → exec (.sigAckTimeout tag) s = .next (lost.stepDone t.core .sy t.seq))
      ∧ (t.engine < 880 → t.engine ≠ hostEngine → t.core < 768 → exec (.sigAckTimeout tag) s = .next (lost.stepDone t.core .xf t.seq))
      ∧ (t.engine < 880 → t.engine ≠ hostEngine → 768 ≤ t.core → exec (.sigAckTimeout tag) s = .next lost))
  ∧ ((∀ t, s.txn tag = some t → t.kind ≠ .sig ∨ t.resting = true) → exec (.sigAckTimeout tag) s = .next s)

/-- SIG (R292, R316). -/
def Obligations.SigFlit : Prop := ∀ (f : Flit) (s : State), f.kind = 0x13 → f.dst = s.reg bFAB →
  let n := f.aux / 65536
  (s.partOf f.comp = none → exec (.sig f) s = .next (s.dropFlit 0x104))
  ∧ (∀ p, s.partOf f.comp = some p → (s.obj n).owner ≠ some p → exec (.sig f) s = .next (s.dropFlit 0x104))
  ∧ (∀ p, s.partOf f.comp = some p → (s.obj n).owner = some p → (s.part p).epoch % 65536 ≠ f.cepoch →
      exec (.sig f) s = .next (s.dropFlit 0x100))
  ∧ (∀ p, s.partOf f.comp = some p → (s.obj n).owner = some p → (s.part p).epoch % 65536 = f.cepoch →
      let t := (s.objAdd n (f.aux / 256 % 256 : Nat) 2 0).1
      let ack : Flit := { f with kind := 0x30, vc := 3, hops := 0, dst := f.src, src := t.reg bFAB, units := 0, aux := 0, body := [] }
      exec (.sig f) s = .next (t.sendFlit ack))

/-- Debugger commands (R308, R318, R319). -/
def Obligations.DebuggerCommands : Prop := ∀ (fn : FnId) (p : PartId) (s : State), (fn.val = 0 ∨ fn.val = p.val + 1) →
  let n := s.reg (kDbgObj p)
  let v := s.reg (kDbgVal p)
  let o := s.obj n
  let stat (t : State) (r : Nat) := t.setReg (kDbgStat p) r
  (∀ r, s.dbgRight fn p n = some r → ∀ i ∈ [Instr.dbgSet fn p, .dbgAdd fn p, .dbgRelease fn p, .dbgClearFault fn p],
      exec i s = .next (stat s r))
  ∧ (s.dbgRight fn p n = none →
    (o.max < v → exec (.dbgSet fn p) s = .next (stat s 3))
    ∧ (v ≤ o.max → exec (.dbgSet fn p) s = .next (stat ((s.setObj n { o with count := v, tsLast := s.now }).objTest n) 0))
    ∧ (o.fault ≠ 0 → exec (.dbgAdd fn p) s = .next (stat s 4) ∧ exec (.dbgRelease fn p) s = .next (stat s 4))
    ∧ (o.fault = 0 →
      ((o.count : Int) + signed 32 v < 0 ∨ (o.max : Int) < o.count + signed 32 v → exec (.dbgAdd fn p) s = .next (stat s 3))
      ∧ (∀ m : Nat, (o.count : Int) + signed 32 v = m → m ≤ o.max →
          exec (.dbgAdd fn p) s = .next (stat ((s.setObj n { o with count := m, tsLast := s.now }).objTest n) 0))
      ∧ exec (.dbgRelease fn p) s = .next (stat
          ((s.setObj n { o with waiters := [], fired := (o.fired + 1) % 65536, tsLast := s.now }).release o.waiters) 0))
    ∧ exec (.dbgClearFault fn p) s = .next (stat
        ((s.setObj n { o with fault := 0, primed := false, tsLast := s.now }).objTest n) 0))
  ∧ (s.dbgRight fn p n = some 2 ↔ fn.val = 0 ∧ o.owner = none)

/-- STATE_DUMP (R320). -/
def Obligations.StateDump : Prop := ∀ s : State,
  (bitAt (s.reg kDumpCtrl) 0 = false → exec .stateDump s =
      .next { s.setReg kDumpCtrl 1 with host := tblSetRun (fun _ => 0) s.host (s.reg bSYN / 4096 * 4096) s.dump })
  ∧ (bitAt (s.reg kDumpCtrl) 0 = true → exec .stateDump s = .next s
      ∧ exec (.stateDumpEnd true) s = .next (s.setReg kDumpCtrl 2) ∧ exec (.stateDumpEnd false) s = .next (s.setReg kDumpCtrl (2 ^ 31)))
  ∧ s.dump.length = 536640

/-- GLOBAL steps (R110, R152, R321, R322, R327). -/
def Obligations.GlobalSteps : Prop := ∀ (c : CoreId) (w : StepWord) (p : PartId) (g : Fin 65536) (s : State),
  let k := s.core c
  let step (kind : Nat) : Instr := if kind = 0 then .barrier c w else if kind = 1 then .broadcast c w
    else if kind = 2 then .reduceAdd c w else .consistentSnapshot c w
  let goes (kind : Nat) (d : Desc) (md : Option Desc) : Out :=
    let queued : Core := { k.enqueue .sy with syWait := k.syWait ++ [⟨k.seq, fld w 79 64, kind, d, md, fld w 115 96⟩] }
    .next ((((s.setCore c queued.moveOn).startGlobals c 33).nodeRun k.part (fld w 79 64)).gopDrain k.part (fld w 79 64))
  (k.ready = true →
    (4 ≤ fld w 119 116 → ∀ i ∈ [Instr.barrier c w, .broadcast c w, .reduceAdd c w, .consistentSnapshot c w], CoreFaults c s i 1)
    ∧ (∀ kind, kind < 4 → fld w 119 116 = kind → k.qSy.length < 32 →
      (kind = 0 → fld w 63 48 = 0xFFFF → exec (.barrier c w) s = goes 0 (descOf 0) none)
      ∧ ((kind = 0 ∨ kind = 3) → fld w 63 48 ≠ 0xFFFF → CoreFaults c s (step kind) 1)
      ∧ (∀ d, kind ≠ 0 → s.poolDesc c (fld w 95 80) 0 0 = some d →
        (fld w 63 48 = 0xFFFF → payOk d kind = true → exec (step kind) s = goes kind d none)
        ∧ (fld w 63 48 = 0xFFFF → payOk d kind = false → CoreFaults c s (step kind) 1)
        ∧ (∀ md, kind ≠ 3 → fld w 63 48 ≠ 0xFFFF → s.poolDesc c (fld w 63 48) 0 0 = some md → payOk d kind = true →
            listDescOk c md = true → d.rows % 64 = 0 → d.elems % 64 = 0 → exec (step kind) s = goes kind d (some md)))
      ∧ (kind ≠ 0 → fld w 63 48 = 0xFFFF → s.poolDesc c (fld w 95 80) 0 0 = none → CoreFaults c s (step kind) 3)))
  ∧ (∀ t, (s.tree (treeKey p g)).cut = some t →
    (t ≤ s.now → (s.tree (treeKey p g)).live = true →
      exec (.snapshotCut p g) s = .next (((s.latch p (treeKey p g) (s.tree (treeKey p g)) t).nodeRun p g).gopDrain p g))
    ∧ (s.now < t → exec (.snapshotCut p g) s = .next s))

/-- GOP (R292, R323, R324, R328). -/
def Obligations.GopFlit : Prop := ∀ (link : LinkId) (f : Flit) (s : State), f.kind = 0x20 → f.dst = s.reg bFAB →
  let reset := f.aux / 65536 = 0xFFFF ∧ f.aux / 4096 % 16 = 4
  (s.partOf f.comp = none → exec (.gop link f) s = .next (s.dropFlit 0x104))
  ∧ (∀ p, s.partOf f.comp = some p → (s.part p).epoch % 65536 ≠ f.cepoch → exec (.gop link f) s = .next (s.dropFlit 0x100))
  ∧ (∀ p, s.partOf f.comp = some p → (s.part p).epoch % 65536 = f.cepoch →
    let n := s.tree (treeKey p (f.aux / 65536))
    (reset → exec (.gop link f) s = .next (s.resetGop p link (f.aux / 256 % 16)))
    ∧ (¬ reset → f.aux % 256 = n.seq →
        let t := s.gopTake p link f
        let m := t.tree (treeKey p (f.aux / 65536))
        exec (.gop link f) s = .next (if m.held.any fun x => x.2.aux % 256 == m.seq then
            (t.setTree (treeKey p (f.aux / 65536)) { m with held := [] }).gopHeld p (f.aux / 65536) m.held
          else t))
    ∧ (¬ reset → f.aux % 256 ≠ n.seq → f.aux % 256 = (n.seq + 1) % 256 → exec (.gop link f) s =
        .next (s.setTree (treeKey p (f.aux / 65536)) { n with held := n.held ++ [(link.val, f)] }))
    ∧ (¬ reset → f.aux % 256 ≠ n.seq → f.aux % 256 ≠ (n.seq + 1) % 256 → exec (.gop link f) s =
        .next (s.setReg (bSYN + 0x18) (satAdd 0xFFFFFFFF (s.reg (bSYN + 0x18)) 1))))

/-- Composition resets and the launch watchdog (R518, R519, R524, R527). -/
def Obligations.CompositionResets : Prop := ∀ (p : PartId) (s : State),
  let q := s.part p
  (s.isAnchor p = true → (q.st = .sealed ∨ q.st = .suspended ∨ q.st = .failed) → s.boot.pending = none →
    ∃ t, exec (.compReset p) s = .next t ∧ (t.part p).st = .resetting ∧ (t.part p).queue = []
      ∧ (∀ l, q.launch = some l → l.result = 0 → (t.part p).launch = some { l with result := 3 })
      ∧ ∀ c, (s.core c).part = p.val → (t.core c).st = .idle ∧ (t.core c).outstanding = [] ∧ (t.core c).fault = 0)
  ∧ (s.isAnchor p = false ∨ ¬ (q.st = .sealed ∨ q.st = .suspended ∨ q.st = .failed) ∨ s.boot.pending ≠ none → exec (.compReset p) s = .next s)
  ∧ (∀ r, q.rst = some r →
    (s.now < r.at_ + 2000000 → exec (.resetHoldEnd p) s = .next s)
    ∧ (r.at_ + 2000000 ≤ s.now → exec (.resetHoldEnd p) s =
        .next ((s.modPart p fun q => { q with rst := some { r with held := true } }).resetGo p))
    ∧ (q.anchor = s.reg bFAB → s.allConfirmed p r = false →
      (r.repeated = false → exec (.resetConfirmTimeout p) s =
        .next ((s.modPart p fun q => { q with rst := some { r with repeated := true } }).tellMembers p 26 r.cause 0))
      ∧ (r.repeated = true → exec (.resetConfirmTimeout p) s = .next
          (((((s.reopen r.windows).modPart p fun q => { q with rst := none }).setSt p .failed).ctxAnswer p).resetLaunch p r))))
  ∧ (∀ l, q.launch = some l →
    (s.now < l.start + l.paused + l.limit → exec (.watchdogFire p) s = .next s)
    ∧ (q.anchor = s.reg bFAB → l.result = 0 → q.st = .sealed → l.start + l.paused + l.limit ≤ s.now →
      exec (.watchdogFire p) s = .next (((s.bump (bERR + 0x21C + 0x20 * p) 1).ledgerPart 0x0501 p l.slot l.faultCode 0 0).resetStart
        p .watchdog)))

/-- Samples, and the completion of a launch (R137, R390, R520, R524). -/
def Obligations.SamplesAndCompletion : Prop := ∀ (p : PartId) (ok : Bool) (s : State),
  let q := s.part p
  (q.sample.isSome = true → exec (.sample p) s = .next s)
  ∧ (q.sample = none → s.reg (kSampleAddr p) / 64 ≠ 0 →
    let full := s.sampleBytes p 0xFF q.launch.isSome false
    let cut := decide (full.length > s.reg (kSampleLen p))
    let bs := (if cut then s.sampleBytes p 0xFF q.launch.isSome true else full).take (s.reg (kSampleLen p))
    exec (.sample p) s = .next (((s.setReg (kSampleStat p) 0).hostWrite 0 (s.reg (kSampleAddr p) / 64 * 64) bs).modPart p fun q =>
      { q with sample := some ⟨bs.length, cut, none⟩ }))
  ∧ (∀ x, q.sample = some x → x.hang = none → exec (.sampleEnd p ok) s = .next
      (((s.modPart p fun q => { q with sample := none }).setReg (kSampleStat p)
        (2 ^ 31 + (if ok then 0 else 2 ^ 30) + (if x.cut then 2 ^ 29 else 0) + x.bytes / 256)).ledgerPart 0x0502 p p 0 0 x.bytes))
  ∧ (∀ l, q.launch = some l →
    (q.anchor = s.reg bFAB → l.waiting ≠ [] →
      exec (.launchComplete p) s = .next (if l.carried then s.tellMembers p 25 0 0 else s))
    ∧ (¬ (q.anchor = s.reg bFAB ∧ l.waiting ≠ []) → s.localQuiet p = false → exec (.launchComplete p) s = .next s)
    ∧ (s.localQuiet p = true → q.st ≠ .resetting →
      (q.anchor ≠ s.reg bFAB → exec (.launchComplete p) s =
        .next (((s.launchOver p).emit (.curator q.anchor 10 l.result (l.faultCore * 256 + l.faultCode))).grantSwitches 32))
      ∧ (∀ d, q.anchor = s.reg bFAB → l.waiting = [] → l.host = some d →
        let t := (((s.launchOver p).setReg (kWdogStat p) 0).endDesc d (launchStatus l.result) (launchResult l s.now)).launchNext p
        ((t.part p).launch.isSome = true → exec (.launchComplete p) s = .next t)
        ∧ ((t.part p).launch = none → (∀ o, (t.part p).op = some o → ¬ (o.step = 1 ∧ (o.op = 3 ∨ o.op = 4))) →
          exec (.launchComplete p) s = .next (t.grantSwitches 32))
        ∧ (∀ o, (t.part p).launch = none → (t.part p).op = some o → o.step = 1 → (o.op = 3 ∨ o.op = 4) →
          (t.otherMembers p = [] → exec (.launchComplete p) s = .next (t.pauseStart p))
          ∧ (t.otherMembers p ≠ [] → exec (.launchComplete p) s =
            .next ((t.tellMembers p 21 0 0).modPart p fun q => { q with stops := [(s.reg bFAB, 0)] }))))))

/-- BIND_RESERVE (R333, R337, R349, R352). -/
def Obligations.BindReserve : Prop := ∀ (from_ : BindFrom) (descs : List (Nat × Nat)) (mctp : List Nat) (comp : Nat)
    (env : List Byte) (s s0 : State), BindStarts s from_ 1 descs mctp comp env s0 →
  let e := envelopeOf env
  let own := s0.reg bFAB
  let answers (code : Nat) := exec (.bindReserve from_) s = .next (bindEnds from_ (s0.bindReply descs mctp e.comp code))
  (e.entryOf own = none → answers 1)
  ∧ (∀ m, e.entryOf own = some m →
    ((s0.envelopeBad e = true ∨ e.anchor ≠ own) → answers 1)
    ∧ (s0.envelopeBad e = false → e.anchor = own →
      ((e.comp = 0 ∨ e.comp = 0xFFFFFF ∨ (s0.partOf e.comp).isSome) → answers 4)
      ∧ (¬ (e.comp = 0 ∨ e.comp = 0xFFFFFF ∨ (s0.partOf e.comp).isSome) →
        (e.sfr ≠ schedFmtRev → answers 2)
        ∧ (e.sfr = schedFmtRev → ∀ t code p, s0.reserveHere e m = (t, code, p) →
          (code ≠ 0 → answers code ∧ t = s0)
          ∧ (code = 0 →
            (s0.part p).st = .free ∧ (t.part p).st = .reserved ∧ (t.part p).comp = e.comp ∧ (∀ x, x ≠ p → t.part x = s0.part x)
            ∧ (let t1 := (t.opBegin p 1 descs mctp none).modPart p fun q => { q with infos := [t.infoOf p] }
               (t1.otherMembers p = [] → exec (.bindReserve from_) s = .next (bindEnds from_ (t1.opEnd p 0)))
               ∧ (t1.otherMembers p ≠ [] → exec (.bindReserve from_) s = .next (bindEnds from_ (t1.tellBytes p 2 e.comp env)))))))))

/-- Bind operations at the anchor (R335, R350, R354 to R358). -/
def Obligations.BindOperations : Prop := ∀ (from_ : BindFrom) (plan : PlaceSpec) (descs : List (Nat × Nat)) (mctp : List Nat) (comp : Nat)
    (env : List Byte) (s s0 : State),
  let fin (t : State) : Out := .next (bindEnds from_ t)
  let e := envelopeOf env
  (BindStarts s from_ 2 descs mctp comp env s0 →
    (s0.anchorOf comp = none → exec (.bindSeal from_ plan) s = fin (s0.bindReply descs mctp comp 0x0D))
    ∧ (∀ p, s0.anchorOf comp = some p →
      ((s0.part p).st ≠ .reserved ∨ (s0.part p).op.isSome → exec (.bindSeal from_ plan) s = fin (s0.bindEnd p 2 0x0D descs mctp))
      ∧ ((s0.part p).st = .reserved → (s0.part p).op = none → ∀ pl t code, s0.placedPlan p plan = pl → s0.placePart p pl = (t, code) →
        (code ≠ 0 → exec (.bindSeal from_ plan) s = fin (s0.bindEnd p 2 code descs mctp))
        ∧ (code = 0 →
          let t1 := (t.opBegin p 2 descs mctp none).modPart p fun q => { (q.addPlaces (s0.reg bFAB) pl.places) with
            plan := some pl, infos := q.infos.filter (·.fid != s0.reg bFAB) ++ [t.infoOf p] }
          (t1.otherMembers p = [] → exec (.bindSeal from_ plan) s = fin (t1.sealSend p pl.table))
          ∧ (t1.otherMembers p ≠ [] → exec (.bindSeal from_ plan) s = fin (t1.tellMembers p 4 0 0))))))
  ∧ (BindStarts s from_ 5 descs mctp comp env s0 →
    (s0.anchorOf comp = none → exec (.bindDissolve from_) s = fin (s0.bindReply descs mctp comp 0x0D))
    ∧ (∀ p, s0.anchorOf comp = some p →
      let q := s0.part p
      let busy := q.launch.isSome = true ∨ q.queue ≠ [] ∨ q.op.isSome = true ∨ q.st = .rebinding ∨ q.st = .resetting ∨ q.st = .dissolving
      (busy → exec (.bindDissolve from_) s = fin (s0.bindEnd p 5 0x0D descs mctp))
      ∧ (¬ busy → exec (.bindDissolve from_) s = fin (((s0.opBegin p 5 descs mctp none).tellMembers p 17 0 0).dissolveHere p))))
  ∧ (BindStarts s from_ 4 descs mctp comp env s0 →
    (s0.anchorOf comp = none → exec (.bindRebind from_) s = fin (s0.bindReply descs mctp comp 0x0D))
    ∧ (∀ p, s0.anchorOf comp = some p →
      (∀ o, (s0.part p).op = some o → o.op = 3 → o.step = 0 → exec (.bindRebind from_) s =
          fin (s0.modOp p fun o => { o with descs := o.descs ++ descs, mctp := o.mctp ++ mctp }))
      ∧ (∀ o, (s0.part p).op = some o → ¬ (o.op = 3 ∧ o.step = 0) → exec (.bindRebind from_) s = fin (s0.bindEnd p 3 0x0D descs mctp))
      ∧ ((s0.part p).op = none → (s0.part p).st = .sealed → exec (.bindRebind from_) s = fin (s0.rebindBegin p descs mctp))
      ∧ ((s0.part p).op = none → (s0.part p).st ≠ .sealed → exec (.bindRebind from_) s = fin (s0.bindEnd p 3 0x0D descs mctp))))
  ∧ (BindStarts s from_ 3 descs mctp comp env s0 →
    (s0.anchorOf e.comp = none → exec (.bindEnvelopeUpdate from_) s = fin (s0.bindReply descs mctp e.comp 0x0D))
    ∧ (∀ p, s0.anchorOf e.comp = some p → e.entryOf (s0.reg bFAB) = none →
      exec (.bindEnvelopeUpdate from_) s = fin (s0.bindEnd p 4 1 descs mctp))
    ∧ (∀ p m, s0.anchorOf e.comp = some p → e.entryOf (s0.reg bFAB) = some m →
      let q := s0.part p
      let ends (code : Nat) := exec (.bindEnvelopeUpdate from_) s = fin (s0.bindEnd p 4 code descs mctp)
      (¬ (q.st = .reserved ∨ q.st = .sealed) ∨ q.op.isSome = true → ends 0x0D)
      ∧ ((q.st = .reserved ∨ q.st = .sealed) → q.op = none →
        let bad := s0.envelopeBad e || s0.envelopeBad { e with role := q.role, flags := q.flags }
        (bad = true ∨ e.anchor ≠ q.anchor ∨ e.seq ≤ q.envSeq → ends 1)
        ∧ (bad = false → e.anchor = q.anchor → q.envSeq < e.seq →
          (e.sfr ≠ schedFmtRev → ends 2)
          ∧ (e.sfr = schedFmtRev → unitsHeld q e = true → ends 0x0E)
          ∧ (e.sfr = schedFmtRev → unitsHeld q e = false → ∀ t code, s0.accede p e m = (t, code) →
            (code ≠ 0 → ends code)
            ∧ (code = 0 →
              let others := (e.members.map (·.fid)).filter (· ≠ s0.reg bFAB)
              let t1 := (t.opBegin p 4 descs mctp (some e)).modOp p fun o => { o with wait := others }
              exec (.bindEnvelopeUpdate from_) s =
                fin ((t1.emits (others.flatMap fun f => [.curator f 2 e.comp 0, .catalogue f env])).updateGo p)))))))

/-- A member's part in bind operations (R349, R350, R355, R357 to R361). -/
def Obligations.MemberOperations : Prop := ∀ (p : PartId) (plan : PlaceSpec) (cat env : List Byte) (result : Fin 16) (s : State),
  let q := s.part p
  let own := s.reg bFAB
  let e := envelopeOf env
  (e.anchor ≠ own → e.bad = false → ∀ m, e.entryOf own = some m →
    let bad (role flags : Nat) : Bool := memberBad role flags m
    (∀ x, s.partOf e.comp = some x → bad (s.part x).role (s.part x).flags = true →
      exec (.prepare env) s = .next (s.emit (.curator e.anchor 3 1 0)))
    ∧ (s.partOf e.comp = none → bad e.role e.flags = true → exec (.prepare env) s = .next (s.emit (.curator e.anchor 3 1 0)))
    ∧ (∀ x, s.partOf e.comp = some x → bad (s.part x).role (s.part x).flags = false → (s.part x).anchor = e.anchor → ∀ t code, (s.dropUpdate x).accede x e m = (t, code) →
      exec (.prepare env) s = .next (t.emit (.curator e.anchor 3 code x)))
    ∧ (∀ x, s.partOf e.comp = some x → bad (s.part x).role (s.part x).flags = false → (s.part x).anchor ≠ e.anchor → exec (.prepare env) s = .next (s.emit (.curator e.anchor 3 4 0)))
    ∧ (s.partOf e.comp = none → bad e.role e.flags = false → e.sfr ≠ schedFmtRev → exec (.prepare env) s = .next (s.emit (.curator e.anchor 3 2 0)))
    ∧ (s.partOf e.comp = none → bad e.role e.flags = false → e.sfr = schedFmtRev → ∀ t code x, s.reserveHere e m = (t, code, x) →
      exec (.prepare env) s = .next (t.emit (.curator e.anchor 3 code x))))
  ∧ (q.anchor ≠ own →
    (q.st = .reserved → ∀ t code, s.placePart p (s.placedPlan p plan) = (t, code) →
      exec (.place p plan) s = .next (t.emit (.curator q.anchor 5 code 0)))
    ∧ (q.st = .sealed → ∀ pl t code, q.plan = some pl → s.migrate p pl = (t, code) →
      exec (.place p plan) s = .next (t.emit (.curator q.anchor 5 code 0)))
    ∧ (s.catMatches p cat = false → exec (.curatorSeal p cat) s = .next s)
    ∧ (s.catMatches p cat = true → q.st = .reserved → exec (.curatorSeal p cat) s = .next ((s.sealPart p cat).emit (.curator q.anchor 7 0 0)))
    ∧ (s.catMatches p cat = true → q.st = .rebinding → exec (.curatorSeal p cat) s =
        .next ((s.flipPart p cat).emit (.curator q.anchor 24 0 0)))
    ∧ (q.st ≠ .free → q.st ≠ .dissolving → exec (.dissolve p) s = .next (s.dissolveHere p))
    ∧ (q.st ≠ .free → ∀ l, q.launch = some l → exec (.rebindRequest p) s =
        if s.cores.any (fun e => e.2.part == p.val && e.2.st == .done) then
          .next ((s.modPart p fun q => { q with launch := some { l with carried := true } }).emit (.curator q.anchor 29 0 0))
        else .next (s.modPart p fun q => { q with launch := some { l with rebind := true } }))
    ∧ (q.st ≠ .free → q.launch = none → exec (.rebindRequest p) s = .next (s.emit (.curator q.anchor 22 0 0)))
    ∧ (q.st = .sealed → result.val ≠ 0 → exec (.rebindPlanDone p result plan) s = .next (s.emit (.curator q.anchor 20 result 0)))
    ∧ (q.st = .sealed → result.val = 0 → ∀ pl, s.placedPlan p plan = pl → (s.migrate p pl).2 = 0 →
      exec (.rebindPlanDone p result plan) s = .next ((s.modPart p fun q => { q with plan := some pl }).emit (.curator q.anchor 20 0 0)))
    ∧ (q.st = .rebinding → exec (.resume p) s = .next ((s.commitUpdate p).resumePart p)))
  ∧ (q.anchor = own → q.st = .sealed →
    (q.op = none → s.curBusy = false → exec (.rebindRequest p) s = .next ((s.setBits (kPartCtrl p) 1).rebindBegin p [] []))
    ∧ (∀ o, q.op = some o → (o.op = 3 ∨ o.op = 4) → o.step = 0 → q.plan = none →
      (result.val ≠ 0 → exec (.rebindPlanDone p result plan) s = .next (s.planDropped p result))
      ∧ (result.val = 0 → ∀ pl, s.placedPlan p plan = pl → (s.migrate p pl).2 = 0 →
          exec (.rebindPlanDone p result plan) s = .next ((s.modPart p fun q => { q with plan := some pl }).rebindGo p))))

/-- Reports and losses (R138, R338, R352, R362, R524). -/
def Obligations.MemberReports : Prop := ∀ (p : PartId) (fid : Fin 16384) (cause : ResetCause) (s : State),
  let q := s.part p
  let own := s.reg bFAB
  (∀ v code l, q.launch = some l → l.result ≠ 0 → exec (.memberReport p fid (.faulted v code)) s = .next s)
  ∧ (∀ v code l, q.launch = some l → l.result = 0 → ∃ t, exec (.memberReport p fid (.faulted v code)) s = .next t
      ∧ (t.part p).launch = some { l with result := 1, faultCore := v, faultCode := code }
      ∧ t = { s with parts := t.parts, cores := t.cores, out := t.out } ∧ ∀ x, x ≠ p.val → t.part x = s.part x)
  ∧ (q.anchor = own →
    (exec (.memberReport p fid .switchedIn) s =
      .next ((s.modPart p fun q => { q with swWait := q.swWait.filter (· ≠ fid.val) }).launchNext p))
    ∧ (∀ slot status places, exec (.memberReport p fid (.loaded slot status places)) s = .next (s.loadReport p fid slot status places))
    ∧ (∀ o result info, q.op = some o → o.wait.contains fid.val = true →
        exec (.memberReport p fid (.prepared result info)) s = .next (s.opReport p fid (.prepared result info) o))
    ∧ (∀ o, q.op = some o → o.wait ≠ [] → exec (.memberTimeout p) s = .next (s.memberGone p 0x0A))
    ∧ (∀ o, q.op = some o → o.wait.contains fid.val = true → tblGet (fun _ => 0) q.retries fid.val < 3 →
        exec (.curatorMessageRetry p fid) s = .next ((s.modPart p fun q =>
          { q with retries := tblSet (fun _ => 0) q.retries fid.val (tblGet (fun _ => 0) q.retries fid.val + 1) }).resendTo fid q o))
    ∧ (∀ o, q.op = some o → o.wait.contains fid.val = true → 3 ≤ tblGet (fun _ => 0) q.retries fid.val →
        exec (.curatorMessageRetry p fid) s = .next ((s.modPart p fun q =>
          { q with retries := tblSet (fun _ => 0) q.retries fid.val 0 }).memberGone p 0x0A))
    ∧ (cause ≠ .lost → exec (.compositionReset p cause) s = .next (s.resetStart p cause))
    ∧ (q.op.isSome = true → exec (.compositionReset p .lost) s = .next (s.memberGone p 0x0B))
    ∧ (q.op = none → q.st.resets = true → exec (.compositionReset p .lost) s = .next ((s.setSt p .failed).resetStart p .lost)))
  ∧ (q.anchor ≠ own →
    (∀ r, q.rst = some r → exec (.compositionReset p cause) s =
        .next ((s.modPart p fun q => { q with rst := some { r with asked := true } }).resetGo p))
    ∧ (q.rst = none → q.st.resets = true → exec (.compositionReset p cause) s = .next (s.resetLocal p cause true)))

/-- Switching and the pool (R363, R364, R367). -/
def Obligations.SwitchingAndPool : Prop := ∀ (p : PartId) (at_ : W64) (v : W32) (s : State),
  let q := s.part p
  let g := bits v.toNat 12 8
  let r := bits v.toNat 3 0
  (s.now < q.switchAt + 1000 * q.quantum → exec (.quantumExpiry p) s = .next s)
  ∧ (flagSliceable q.flags = true → q.st = .sealed → q.switchAt + 1000 * q.quantum ≤ s.now →
      exec (.quantumExpiry p) s = .next ((s.modPart p fun q => { q with quantumOver := true }).grantSwitches 32))
  ∧ (q.anchor ≠ s.reg bFAB → (q.st = .sealed ∨ q.st = .suspended) → s.switches.any (fun x => x.part == p.val) = false →
      exec (.switchInRequest p at_) s = .next (({ s with switches := s.switches ++ [⟨p, at_.toNat⟩] } : State).grantSwitches 32))
  ∧ (r < 12 → s.regionFree (12 * g + r) = true → (s.group g).mode ≠ .dedicated →
      (s.pool.filter (·.2.isSome)).length + regionPages (12 * g + r) ≤ 4096 →
      ∃ t, exec (.cmpPoolAdd v) s = .next t ∧ (t.group g).mode = .shared
        ∧ (t.region (12 * g + r)).keyed = true ∧ (t.region (12 * g + r)).keyNo = s.cus.keyCount + 1 ∧ (t.region (12 * g + r)).owner = none
        ∧ (∀ x ∈ poolPages g r, t.poolPage x = some ⟨none, false⟩) ∧ ∀ x, x ∉ poolPages g r → t.poolPage x = s.poolPage x)
  ∧ (r < 12 → (∀ x ∈ poolPages g r, s.poolPage x = some ⟨none, false⟩) →
      ∃ t, exec (.cmpPoolRemove v) s = .next t ∧ t.region (12 * g + r) = Region.reset
        ∧ (∀ x ∈ poolPages g r, t.poolPage x = none) ∧ ∀ x, x ∉ poolPages g r → t.poolPage x = s.poolPage x)
  ∧ (12 ≤ r → exec (.cmpPoolAdd v) s = .next s ∧ exec (.cmpPoolRemove v) s = .next s)

/-- MEM_READ and MEM_WRITE (R177, R178, R182, R183, R201, R205, R207, R462, R463). -/
def Obligations.MemoryAccess : Prop := ∀ (me : ReqInfo) (others : List ReqInfo) (ipa : Fin 281474976710656) (a : Fin 4398046511104) (n : Nat)
    (bs : List Byte) (ecc : Ecc) (s : State),
  let m : ReqInfo := { me with sector := sectorOf a }
  let g := dpaGroup a
  let held (len : Nat) (data : Option (List Byte)) : HeldReq := ⟨m, s.classOf me.port me.part, ipa, a, len, data, ecc⟩
  let rd := exec (.memRead me others ipa a n ecc) s
  let wr := exec (.memWrite me others ipa a bs ecc) s
  let cell (t : State) (b : Nat) : Byte := tblGet (fun _ => 0) t.hbm b
  (∃ t, rd = .next t ∧ t.hbm = s.hbm ∧ t.spad = s.spad ∧ t.host = s.host)
  ∧ (∃ t, wr = .next t ∧ t.spad = s.spad ∧ t.host = s.host ∧ ∀ b, (b < a.val ∨ a.val + bs.length ≤ b) → cell t b = cell s b)
  ∧ (s.servedNext m others = false → rd = .next s ∧ wr = .next s)
  ∧ (s.servedNext m others = true → n ≠ 0 → a.val % 512 + n ≤ 512 →
    let waits := s.needsTokens (s.classOf me.port me.part) g = true ∧ (s.tokensOf me.port < tokenCharge n
      ∨ ∃ x ∈ (s.port me.port).waiting, dieOfAddr x.addr = dieOfAddr a ∧ s.needsTokens x.cls (dpaGroup x.addr) = true)
    (waits → rd = .next (s.setPort me.port { s.port me.port with waiting := (s.port me.port).waiting ++ [held n none] }))
    ∧ (¬ waits →
      let answers (st : Nat) (bytes : List Byte) := ∃ t, rd = .next t ∧ t.out.getLast? = some (.memResult me.port st bytes)
      (dpaMapped a = false → answers 3 [])
      ∧ (dpaMapped a = true → s.holder a ≠ some me.part → answers 4 [])
      ∧ (dpaMapped a = true → s.holder a = some me.part → s.line (sectorOf a) = none →
        (s.isPoison (sectorOf a) = true → answers 8 [])
        ∧ (s.isPoison (sectorOf a) = false → ecc = .none → s.latent (sectorOf a) = .none → s.tagOk me.part ipa a = true →
            answers 0 (s.hbmRun a n))
        ∧ (s.isPoison (sectorOf a) = false → ecc = .uncorr → answers 8 []))))
  ∧ (s.servedNext m others = true → bs ≠ [] → a.val % 512 + bs.length ≤ 512 →
    let waits := s.needsTokens (s.classOf me.port me.part) g = true ∧ (s.tokensOf me.port < tokenCharge bs.length
      ∨ ∃ x ∈ (s.port me.port).waiting, dieOfAddr x.addr = dieOfAddr a ∧ s.needsTokens x.cls (dpaGroup x.addr) = true)
    (waits → wr = .next (s.setPort me.port { s.port me.port with waiting := (s.port me.port).waiting ++ [held bs.length (some bs)] }))
    ∧ (¬ waits →
      let answers (st : Nat) := ∃ t, wr = .next t ∧ t.out.getLast? = some (.memResult me.port st []) ∧ t.hbm = s.hbm
      (dpaMapped a = false → answers 3)
      ∧ (dpaMapped a = true → s.holder a ≠ some me.part → answers 4)
      ∧ (dpaMapped a = true → s.holder a = some me.part → (s.region (regionOf a)).writes < 2 ^ 37 → bs.length = 512 →
        s.garbles (sectorOf a) ecc = false → Memory.allWf s = true →
        ∃ t, wr = .next t ∧ t.out.getLast? = some (.memResult me.port 0 []) ∧ t.isPoison (sectorOf a) = false
          ∧ tblRun (fun _ => 0) t.hbm a 512 = bs)))

/-- Upkeep of the memory (R180, R184 to R188, R193, R197, R204, R466). -/
def Obligations.MemoryUpkeep : Prop := ∀ (ecc : Ecc) (raced heavy : Bool) (ch : ChannelId) (st : StackId) (temp : Fin 256) (g : GroupId) (w : Fin 16)
    (q : RegionId) (s : State),
  let grp := s.scrub.pos / rawSectors
  let i := s.scrub.pos % rawSectors
  let a := grp * 2 ^ 34 + i * 512
  let waits := s.needsTokens 3 grp = true ∧ s.tokensOf 163 < tokenCharge 512
  let paid := s.takeTokens 163 3 grp 512
  ((bitAt (s.reg (bMEM + 0x600)) 0 = false ∨ waits) → exec (.scrubRead ecc raced heavy) s = .next s)
  ∧ (bitAt (s.reg (bMEM + 0x600)) 0 = true → ¬ waits →
    (exec (.scrubRead ecc true false) s = .next paid.scrubNext)
    ∧ (i < dataSectors → s.latent (sectorOf a) = .none →
      exec (.scrubRead .none false false) s = .next paid.scrubNext
      ∧ exec (.scrubRead .corr false false) s = .next ((paid.calm (sectorOf a)).bump (bMEM + 0x400 + 8 * grp) 1).scrubNext)
    ∧ (i < dataSectors → ∃ t, exec (.scrubRead .uncorr false heavy) s = .next t ∧ t.isPoison (sectorOf a) = true
          ∧ ∀ x, x ≠ sectorOf a → t.isPoison x = s.isPoison x)
    ∧ (dataSectors ≤ i → exec (.scrubRead .corr false false) s = .next (paid.bump (bMEM + 0x400 + 8 * grp) 1).scrubNext)
    ∧ (∃ t, exec (.scrubRead ecc raced heavy) s = .next t
        ∧ t.scrub.pos = (if s.scrub.pos + 1 < 32 * rawSectors then s.scrub.pos + 1 else 0) ∧ t.hbm = s.hbm
        ∧ t.repairRows = s.repairRows ++ (if heavy then [s.scrub.pos] else [])))
  ∧ (exec (.refresh ch) s = .next { s with refreshes := tblSet (fun _ => 0) s.refreshes ch (tblGet (fun _ => 0) s.refreshes ch + 1) })
  ∧ (let k := bMEM + 0x500 + 4 * st.val
     let was := bitAt (s.reg k) 1
     let hot := decide (85 ≤ temp.val) || (was && decide (80 ≤ temp.val))
     ∃ t, exec (.stackTempRead st temp) s = .next t ∧ t.reg k = temp.val * 256 + 2 * b2n hot + 1
        ∧ ((hot = false ∨ was = true) → t = s.setReg k (temp.val * 256 + 2 * b2n hot + 1)))
  ∧ (∀ kind, (s.group g).waysMoving.find? (fun e => e.1 == w.val) = some (w.val, kind) →
      ∃ t, exec (.wayMoveDone g w) s = .next t ∧ t.wayKind (16 * g + w) = kind ∧ t.hbm = s.hbm
        ∧ (t.group g).waysMoving = (s.group g).waysMoving.filter fun x => x.1 ≠ w.val)
  ∧ ((s.group g).selfRefresh = false → exec (.selfRefreshExit g) s = .next s)
  ∧ ((s.group g).selfRefresh = true → (s.group g).taking = [] → exec (.selfRefreshExit g) s =
      .next (s.setGroup g { s.group g with selfRefresh := false, exiting := false }))
  ∧ (∀ tk, (s.group g).selfRefresh = true → (s.group g).taking = [tk] → (∀ r ∈ tk.regions, r < 12) →
      ∃ t, exec (.selfRefreshExit g) s = .next t ∧ (t.group g).selfRefresh = false ∧ (t.group g).taking = []
        ∧ (t.group g).mode = (if tk.dedicated then .dedicated else .shared)
        ∧ ∀ r, r < 12 → (r ∈ tk.regions → (t.region (12 * g + r)).owner = some tk.part ∧ (t.region (12 * g + r)).keyed = true)
          ∧ (r ∉ tk.regions → t.region (12 * g + r) = s.region (12 * g + r)))
  ∧ ((s.region q).clearing = false → ∀ z, exec (.regionClearDone q z) s = .next s)
  ∧ ((s.region q).clearing = true → ∃ t, exec (.regionClearDone q true) s = .next t
      ∧ ∀ b, regionBase q ≤ b → b < regionBase q + regionSize q → tblGet (fun _ => 0) t.hbm b = 0)

/-- Bandwidth regulation (R35, R203 to R209, R214 to R216, R219). -/
def Obligations.BandwidthRegulation : Prop := ∀ (g : GroupId) (level : Fin 129) (m : PortId) (x : Nat) (p : PartId) (a : Fin 4398046511104)
    (busy : Bool) (ws : List Window) (s : State),
  (let wm := s.reg (bQOS + 0x600)
   let l := s.levelOf g
   let throttled (old : Bool) (mark : Nat) := decide (mark ≤ level.val) || (old && decide (mark ≤ level.val + 8))
   let t := s.setLevel g ⟨level, throttled l.bg (wm % 256), throttled l.be (bits wm 15 8), throttled l.gu (bits wm 23 16)⟩
   exec (.groupLevelSample g level) s = .next (t.pumpPorts (s.tokens.map (·.1)))
   ∧ ((∀ port, (s.port port).waiting = []) → exec (.groupLevelSample g level) s = .next t))
  ∧ (let r := s.reg (bQOS + 0x200 + 4 * m.val)
     let have_ := min (s.tokensOf m + 32 * (r / 2 ^ 16)) (40960 * max 1 (r % 4096))
     let t := s.setTokens m have_
     ((s.port m).waiting = [] → exec (.tokenRefill m) s = .next t)
     ∧ ∀ h, (s.port m).waiting = [h] →
       let needs := s.needsTokens h.cls (dpaGroup h.addr) = true
       (needs → have_ < tokenCharge h.n → exec (.tokenRefill m) s = .next t)
       ∧ ((needs → tokenCharge h.n ≤ have_) → exec (.tokenRefill m) s =
           .next (((t.setPort m { t.port m with waiting := [] }).takeTokens m h.cls (dpaGroup h.addr) h.n).serve h)))
  ∧ (let want := if s.rtMaster m = false then 0
        else if m.val < 48 then (if x < 8 then 0 else if x < 16 then 1 else if x < 24 then 2 else 3)
        else if 12288 ≤ x then 0 else if 8192 ≤ x then 1 else if 4096 ≤ x then 2 else 3
     let u := s.urgencyOf m
     (u < want → exec (.urgencyChange m x) s = .next (s.setUrgency m (u + 1)))
     ∧ (want < u → exec (.urgencyChange m x) s = .next (s.setUrgency m (u - 1)))
     ∧ (u = want → exec (.urgencyChange m x) s = .next (s.setUrgency m u)))
  ∧ ((s.classOf m p = 0 ∨ s.classOf m p = 3) → exec (.requestAgePromote m p a) s = .next { s with aged := s.aged ++ [(m.val, sectorOf a)] })
  ∧ (¬ (s.classOf m p = 0 ∨ s.classOf m p = 3) → exec (.requestAgePromote m p a) s = .next s)
  ∧ (let of (q : Nat) : Window := (ws.find? fun w => w.part == q).getD ⟨q, 0, 0, false⟩
     let cls (q : Nat) := s.reg (bQOS + 4 * q) % 4
     let judged (q : Nat) : Prop := bitAt (s.reg (bQOS + 0x1000 + 0x80 * g + 4 * q)) 31 = true ∧ (cls q = 1 ∨ cls q = 2)
     let exempt (q : Nat) : Prop := busy = true ∨ s.groupExempt g = true ∨ (of q).paused = true ∨ (s.part q).st = .rebinding
     let missed (q : Nat) : Prop := let h := s.servedOf (32 * g + q)
       let demand := s.demandOf g q (of q).queued
       (h.charged ≤ s.grantBytes g q ∧ h.bytes < min demand (s.grantBytes g q)) ∨ (cls q = 2 ∧ s.reg (bQOS + 0x60C) % 65536 < (of q).longest)
     let k := bQOS + 0x2000 + 4 * p.val
     ∃ t, exec (.monitorWindowClose g busy ws) s = .next t
      ∧ (∀ q, q < 32 → t.servedOf (32 * g + q) = HomeWin.reset)
      ∧ t.group g = { s.group g with window := s.reg (bQOS + 0x604) % 4 }
      ∧ (judged p ∧ ¬ exempt p ∧ missed p → t.reg k = satAdd 0xFFFFFFFF (s.reg k) 1)
      ∧ (¬ (judged p ∧ ¬ exempt p ∧ missed p) → t.reg k = s.reg k)
      ∧ ((∀ q, q < 32 → ¬ (judged q ∧ exempt q)) → t.reg (bQOS + 0x618) = s.reg (bQOS + 0x618))
      ∧ ((∀ q, q < 32 → (judged q ∧ exempt q ↔ q = p.val)) → t.reg (bQOS + 0x618) = satAdd 0xFFFFFFFF (s.reg (bQOS + 0x618)) 1))

/-- Translation commands (R222 to R236, R244, R246). -/
def Obligations.Translation : Prop := ∀ (m : EngPort) (p : PartId) (va : Fin 4503599627370496) (write hostErr viaVf : Bool) (cmd : W64) (s : State),
  let b := bXLT + 0x40 * p.val
  let d := dieOfEngine m
  let faults (t s1 : State) (code addr : Nat) : Prop :=
    t.reg (b + 0x1C) = satAdd 0xFFFFFFFF (s1.reg (b + 0x1C)) 1
      ∧ (bitAt (s1.reg (b + 0x18)) 31 = false → t.reg (b + 0x10) = addr
          ∧ t.reg (b + 0x18) = 2 ^ 31 + enginePort m * 2 ^ 16 + b2n write * 256 + code)
      ∧ (bitAt (s1.reg (b + 0x18)) 31 = true → t.reg (b + 0x10) = s1.reg (b + 0x10) ∧ t.reg (b + 0x18) = s1.reg (b + 0x18))
      ∧ t.hbm = s1.hbm ∧ t.spad = s1.spad ∧ t.host = s1.host
  (∀ e, (s.l1of m).find? (fun e => e.serves p va write) = some e → e.part = p.val
      ∧ exec (.walkEnd m p va write hostErr) s = .next (s.setL1 m (l1Put e (s.l1of m))))
  ∧ ((s.l1of m).find? (fun e => e.serves p va write) = none →
      (∀ e, (s.l2of d).find? (fun e => e.serves p va write) = some e → e.part = p.val
        ∧ exec (.walkEnd m p va write hostErr) s = .next (s.fillL1 m e))
      ∧ ((s.l2of d).find? (fun e => e.serves p va write) = none →
        let s0 := s.bump (bXLT + 0x1010 + 4 * d) 1
        (bitAt (s.reg b) 0 = false → ∃ t, exec (.walkEnd m p va write hostErr) s = .next t ∧ faults t s 1 va
          ∧ t.reg (bXLT + 0x1010 + 4 * d) = satAdd 0xFFFFFFFF (s.reg (bXLT + 0x1010 + 4 * d)) 1)
        ∧ (∀ s1 x, s0.walk d p va write = (s1, .ok x) →
          exec (.walkEnd m p va write false) s = .next ((s1.setL2 d (l2Put x (s1.l2of d))).fillL1 m x))
        ∧ (∀ s1 f, s0.walk d p va write = (s1, .error f) → ∃ t, exec (.walkEnd m p va write false) s = .next t ∧ faults t s1 f.code f.addr)
        ∧ (let at_ := s.reg b / 2 ^ 20 % 2 ^ 28 * 2 ^ 20 + 8 * levelIndex va 2
           bitAt (s.reg b) 0 = true → bitAt (s.reg (b + 8)) 0 = true → (∀ e ∈ s.l2of d, e.combined = true) →
           ¬ (arenaBase ≤ at_ ∧ at_ < arenaBase + 2 ^ 37) →
           ∃ t, exec (.walkEnd m p va write true) s = .next t ∧ faults t s 9 at_)))
  ∧ (let allowed := if viaVf then cmd.toNat / 2 ^ 62 = 1 else 2 ≤ cmd.toNat / 2 ^ 62
     (allowed → (s.invOf p).length < 16 →
       ∃ t, exec (.xltInvCmd p cmd viaVf) s = .next t ∧ t.invOf p = s.invOf p ++ [cmd.toNat] ∧ (∀ x, x ≠ p.val → t.invOf x = s.invOf x)
         ∧ t = { s with invq := t.invq, regs := t.regs })
     ∧ (¬ allowed ∨ 16 ≤ (s.invOf p).length →
       exec (.xltInvCmd p cmd viaVf) s = .next (s.setReg (invStat p) (s.reg (invStat p) ||| 2 ^ 31))))
  ∧ (∀ c rest, s.invOf p = c :: rest →
      (s.invWaits p c = true → exec (.invalidationDone p) s = .next s)
      ∧ (s.invWaits p c = false → ∃ t, exec (.invalidationDone p) s = .next t ∧ t.invOf p = rest
        ∧ t.reg (invStat p) % 2 ^ 16 = (s.reg (invStat p) % 2 ^ 16 + 1) % 2 ^ 16
        ∧ (∀ port e, e ∈ t.l1of port → invHits p c e = false)
        ∧ (∀ d e, e ∈ t.l2of d → invHits p c e = true → e.r = false ∧ e.w = false)
        ∧ (∀ w, t.inWin w = s.inWin w ∨ t.inWin w = { s.inWin w with revoking := true })
        ∧ (∀ w i, (w, i) ∈ s.inWins → i.valid = true → i.inRange p c = true → s.unmapped i = true → (t.inWin w).revoking = true)
        ∧ t = { s with l1 := t.l1, l2 := t.l2, invq := t.invq, regs := t.regs, inWins := t.inWins }))
  ∧ (s.invOf p = [] → exec (.invalidationDone p) s = .next s)
  ∧ (exec (.xltInvStatRead p) s = .next ((s.emit (.regValue (s.reg (invStat p)))).setReg (invStat p) (s.reg (invStat p) % 2 ^ 31)))

/-- ATS (R238). -/
def Obligations.AtsCommands : Prop := ∀ (fn : FnId) (iova size target : W64) (hostOn : Bool) (s : State),
  let hit (e : AtcEntry) : Prop := e.fn = fn.val ∧ e.iova < iova.toNat + size.toNat ∧ iova.toNat < e.iova + e.size
  (∃ t, exec (.atsInvalidationRequest fn iova size) s = .next t ∧ (∀ e, e ∈ t.atc ↔ e ∈ s.atc ∧ ¬ hit e)
      ∧ t.out = s.out ++ [.atsDone fn] ∧ t = { s with atc := t.atc, out := t.out })
  ∧ (hostOn = false ∨ s.atsOn fn = false → exec (.atsTranslationCompletion fn iova size target hostOn) s = .next s)
  ∧ (hostOn = true → s.atsOn fn = true → s.atc.length ≤ 1024 →
      ∃ t, exec (.atsTranslationCompletion fn iova size target hostOn) s = .next t ∧ t.atc.length ≤ 1024
        ∧ t.atc.getLast? = some ⟨fn, iova.toNat, size.toNat, target.toNat⟩
        ∧ (∀ e ∈ t.atc, e = ⟨fn, iova.toNat, size.toNat, target.toNat⟩ ∨ (e ∈ s.atc ∧ ¬ (e.fn = fn.val ∧ e.iova = iova.toNat)))
        ∧ t = { s with atc := t.atc })

/-- The lender's side (R241, R288, R290, R291). -/
def Obligations.WindowLender : Prop := ∀ (f : Flit) (src : Fin 16384) (tag : Fin 65536) (s : State),
  let w := s.inWin f.window
  let kept (t : State) : Prop := t.hbm = s.hbm ∧ t.spad = s.spad ∧ t.host = s.host
  (f.dst = s.reg bFAB →
    (∀ code, f.kind = 0x12 → w.check f.gen f.comp f.offset (32 * f.total) false = some code →
      exec (.rd f) s = .next ((s.bump (bXLT + 0xA000 + 4 * code) 1).respond f 0x32 code))
    ∧ (∀ bs, f.kind = 0x12 → w.check f.gen f.comp f.offset (32 * f.total) false = none →
      s.winLoad f.fd w f.offset (32 * f.total) = (s, 0, bs) → exec (.rd f) s = .next (s.sendData f f.offset bs (f.total + 1)))
    ∧ (s.rxTxn (rxKey f) = none → f.window ≠ 1023 →
      let new (units : Nat) (refused : Bool) (waiting : List Flit) : RxTxn := ⟨f.window, f.gen, w.part, f.total, units, refused, waiting⟩
      (∀ code, w.check f.gen f.comp f.offset (32 * f.units) true = some code →
        (f.kind = 0x10 → ∃ t, exec (.wr f) s = .next t ∧ kept t
          ∧ t.rxTxn (rxKey f) = (if f.total ≤ f.units then none else some (new f.units true [])))
        ∧ (f.kind = 0x11 → f.units = 1 → ∃ t, exec (.wrm f) s = .next t ∧ kept t))
      ∧ (f.kind = 0x10 → w.check f.gen f.comp f.offset (32 * f.units) true = none → f.offset + 32 * f.total ≤ w.size * 2 ^ 25 →
        w.scratch = true → inScratch w f.offset (f.body.take (32 * f.units)).length = true →
        ∃ t, exec (.wr f) s = .next t ∧ t.rxTxn (rxKey f) = some (new f.units false [])
          ∧ t.inWin f.window = { w with accepted := w.accepted + 1 }
          ∧ t.spad = (s.spadWrite (scratchAt w f.offset).1 (scratchAt w f.offset).2 (f.body.take (32 * f.units))).spad)
      ∧ (f.kind = 0x11 → f.units = 1 → w.check f.gen f.comp f.offset (32 * f.units) true = none →
        f.offset + 32 * f.total ≤ w.size * 2 ^ 25 →
        exec (.wrm f) s = .next ((s.accept f.window).takeUnits f (new 0 false [])))
      ∧ (f.kind = 0x10 → w.check f.gen f.comp f.offset (32 * f.units) true = none → w.size * 2 ^ 25 < f.offset + 32 * f.total →
        f.units < f.total → exec (.wr f) s = .next ((s.accept f.window).setRxTxn (rxKey f) (some (new f.units false [f])))))
    ∧ (∀ t, s.rxTxn (rxKey f) = some t → f.window ≠ 1023 → f.kind = 0x10 →
      (t.refused = true → exec (.wr f) s = .next (s.setRxTxn (rxKey f)
        (if t.total ≤ t.got + f.units then none else some { t with got := t.got + f.units })))
      ∧ (t.refused = false → (s.inWin t.window).size * 2 ^ 25 < f.offset + 32 * f.units →
        ∃ u, exec (.wr f) s = .next u ∧ kept u ∧ u.inWin t.window = { s.inWin t.window with accepted := (s.inWin t.window).accepted - 1 }
          ∧ u.rxTxn (rxKey f) = (if t.total ≤ t.got + f.units then none
              else some { t with got := t.got + f.units, refused := true, waiting := [] }))))
  ∧ (∀ t, s.rxTxn (src * 65536 + tag) = some t →
    ((t.refused = true ∨ t.waiting ≠ [] ∨ t.got < t.total) → exec (.transactionVisible src tag) s = .next s)
    ∧ (t.refused = false → t.waiting = [] → t.total ≤ t.got → ∃ u, exec (.transactionVisible src tag) s = .next u
        ∧ u.rxTxn (src * 65536 + tag) = none ∧ u.inWin t.window = { s.inWin t.window with accepted := (s.inWin t.window).accepted - 1 }
        ∧ kept u)
    ∧ (t.got < t.total → t.refused = false →
        exec (.writeAbandon src tag) s = .next ((s.setRxTxn (src * 65536 + tag) none).unaccept t.window))
    ∧ (t.got < t.total → t.refused = true → exec (.writeAbandon src tag) s = .next (s.setRxTxn (src * 65536 + tag) none))
    ∧ (t.total ≤ t.got → exec (.writeAbandon src tag) s = .next s))

/-- The borrower's side (R240, R245, R288, R289). -/
def Obligations.WindowBorrower : Prop := ∀ (f : Flit) (tag : Fin 65536) (s : State),
  (∀ t, s.txn f.tag = some t → t.resting = false →
    (f.kind = 0x30 → t.kind = .write → exec (.ack f) s = .next (((s.setTxn f.tag none).modXfer t.engine t.core t.seq fun y =>
        { y with unacked := y.unacked - 1, bytes := y.bytes + t.len }).pumpWin))
    ∧ (f.kind = 0x30 → t.kind = .sig → exec (.ack f) s = .next ((s.setTxn f.tag none).sigEnded t false))
    ∧ (f.kind = 0x31 → t.kind = .read →
      let s1 := s.modXfer t.engine t.core t.seq fun y =>
        { y with fetched := tblSetRun (fun _ => 0) y.fetched (t.entry * 2 ^ 42 + f.offset) (f.body.take (32 * f.units)) }
      (t.got + f.units < unitsOf t.base t.len → exec (.rdata f) s = .next (s1.setTxn f.tag (some { t with got := t.got + f.units })))
      ∧ (unitsOf t.base t.len ≤ t.got + f.units → exec (.rdata f) s = .next (((s1.setTxn f.tag none).readEnded t).pumpWin)))
    ∧ (f.kind = 0x32 → exec (.refuse f) s = .next (((s.bump (bXLT + 0xA000 + 4 * (f.aux % 256)) 1).setTxn f.tag none).windowFailed t)))
  ∧ (∀ t, s.txn tag = some t →
    (t.resting = true → exec (.windowTimeout tag) s = .next (s.setTxn tag none))
    ∧ (t.resting = false → t.kind ≠ .sig →
      let o := s.outWin t.entry
      exec (.windowTimeout tag) s = .next ((((((s.setTxn tag (some { t with resting := true })).setOutWin t.entry
          { o with failed := true }).bump (bXLT + 0xA010) 1).ledgerPart 0x0201 o.part t.entry 4 0 0).mbEvent o.part 5
            (o.vwin * 2 ^ 48 + t.entry * 2 ^ 32 + o.target)).windowFailed t)))

/-- Window entries (R239, R242 to R244). -/
def Obligations.WindowEntries : Prop := ∀ (e w vwin window : WindowId) (part : PartId) (target : Fin 16384) (gen : Fin 256) (size : Fin 65536)
    (r wr : Bool) (s : State),
  let i := s.inWin w
  (∃ t, exec (.outboundOpen e part target window gen size vwin r wr) s = .next t
    ∧ t.outWin e = ⟨true, false, r, wr, part, size, gen, window, target, vwin, false⟩ ∧ (∀ x, x ≠ e.val → t.outWin x = s.outWin x)
    ∧ t = { s with outWins := t.outWins })
  ∧ (i.valid = true → exec (.windowRevoke w) s = .next (s.setInWin w { i with revoking := true }))
  ∧ (i.valid = false → exec (.windowRevoke w) s = .next s)
  ∧ (i.revoking = true → i.accepted = 0 → exec (.revokeDrained w) s = .next ((s.setInWin w
      { i with valid := false, revoking := false, gen := (i.gen + 1) % 256 }).emit (.curator i.borrower 1 w i.grantee)))
  ∧ (0 < i.accepted → exec (.revokeDrained w) s = .next s)
  ∧ ((s.outWin e).valid = true → exec (.outboundClear e) s = .next ((s.setOutWin e { s.outWin e with valid := false }).mbEvent
      (s.outWin e).part 4 ((s.outWin e).vwin * 2 ^ 48 + e * 2 ^ 32 + (s.outWin e).target)))
  ∧ ((s.outWin e).valid = false → exec (.outboundClear e) s = .next s)

/-- The supply of a cage (R260 to R264). -/
def Obligations.CageSupply : Prop := ∀ (c : CageId) (mv ma : Fin 65536) (limiting app : Bool) (cable : CableId) (flags : W32) (s : State),
  let k := s.cage c
  let gone : Cage := { k with present := false, attn := if k.attn = .keyStuck then .keyStuck else .idle }
  let idle := (k.pow = .off ∨ k.pow = .debounce) ∧ k.attn ≠ .safe ∧ s.powerEn c = true
  let seen := (s.setCage c { k with present := true, fails := 0 }).svcEvt (kCageEvt c) 1
  (k.present = false → idle → exec (.cagePresenceGained c) s =
      .next (seen.modCage c fun k => { k with pow := .ramp, active := false, low := false, ready := false }))
  ∧ (let again := k.pow = .discharge ∧ k.next = .off ∧ k.toSafe = false ∧ s.powerEn c = true
     (k.present = false → ¬ idle → ¬ again → exec (.cagePresenceGained c) s = .next seen)
     ∧ (k.present = false → again → exec (.cagePresenceGained c) s = .next (seen.modCage c fun k => { k with next := .ramp })))
  ∧ (k.present = false → exec (.cagePresenceLost c) s = .next s)
  ∧ (k.present = true →
    (k.pow = .on → exec (.cagePresenceLost c) s = .next (((s.linksDown 2 (cageLinks c)).setCage c
        { gone.switchOff .off with toSafe := false }).svcEvt (kCageEvt c) 2))
    ∧ (k.pow = .ramp → exec (.cagePresenceLost c) s = .next (s.setCage c (gone.switchOff .off)))
    ∧ (k.pow = .retryWait ∨ k.pow = .latched → exec (.cagePresenceLost c) s = .next (s.setCage c { gone with pow := .off, fails := 0 }))
    ∧ (k.pow = .discharge → exec (.cagePresenceLost c) s = .next (s.setCage c { gone with next := .off, fails := 0, toSafe := false }))
    ∧ (k.pow = .off ∨ k.pow = .debounce → exec (.cagePresenceLost c) s = .next (s.setCage c { gone with pow := .off })))
  ∧ (k.pow ≠ .ramp → exec (.cageRampEnd c mv ma limiting cable) s = .next s)
  ∧ (k.pow = .ramp →
    let s0 := s.setReg (kCageMon c) (ma.val * 65536 + mv.val)
    let on := s0.setCage c { k with pow := .on, active := cable.active, low := false, ready := !cable.active }
    (2970 ≤ mv.val → limiting = false →
      (cable.active = false → exec (.cageRampEnd c mv ma limiting cable) s = .next (on.linksUp (cageLinks c)))
      ∧ (cable.active = true → 16000 < cable.milliwatt → exec (.cageRampEnd c mv ma limiting cable) s = .next (on.cmisFault c))
      ∧ (cable.active = true → cable.milliwatt ≤ 16000 → exec (.cageRampEnd c mv ma limiting cable) s = .next on))
    ∧ (mv.val < 2970 ∨ limiting = true → exec (.cageRampEnd c mv ma limiting cable) s = .next (s0.supplyFailure c false))
    ∧ (∃ t, exec (.cageCurrentLimit c) s = .next t ∧ (2 ≤ k.fails → (t.cage c).pow = .latched ∧ (t.cage c).fails = 3)
        ∧ (k.fails < 2 → (t.cage c).pow = .discharge ∧ (t.cage c).next = .retryWait ∧ (t.cage c).fails = k.fails + 1)))
  ∧ (k.pow = .on → exec (.cageCurrentLimit c) s = .next (s.supplyFailure c false)
      ∧ exec (.cageOverload c) s = .next (s.supplyFailure c true)
      ∧ exec (.failsClear c) s = .next (s.modCage c fun k => { k with fails := 0 })
      ∧ (flags.toNat ≠ 0 → exec (.cmisFlagRead c flags) s = .next (s.ledger 0x0304 (srcOf3 4 5 c) c 0 flags.toNat)))
  ∧ (k.pow ≠ .on → ∀ i ∈ [Instr.cageOverload c, .failsClear c, .cmisFlagRead c flags], exec i s = .next s)
  ∧ (k.pow = .discharge → k.toSafe = false → exec (.cageDischargeEnd c) s = .next (s.setCage c { k with pow := k.next, next := .off }))
  ∧ (k.pow = .discharge → k.toSafe = true → exec (.cageDischargeEnd c) s =
      .next ((s.setCage c { k with pow := k.next, next := .off }).attnSafe c))
  ∧ (k.pow = .retryWait → exec (.retryWaitEnd c) s = .next (s.modCage c fun k => { k with pow := .ramp }))
  ∧ (k.pow ≠ .retryWait → exec (.retryWaitEnd c) s = .next s)
  ∧ (k.pow = .latched → exec (.latchClr c) s = .next ((s.modCage c fun k => { k with fails := 0 }).powerRestart c))
  ∧ (k.pow ≠ .latched → exec (.latchClr c) s = .next s)
  ∧ (k.pow = .off → k.attn ≠ .safe → exec (.powerEn c true) s = .next ((s.setBits (kCageCtrl c) 1).powerRestart c))
  ∧ (let again := k.pow = .discharge ∧ k.next = .off ∧ k.toSafe = false ∧ k.present = true
     (k.pow ≠ .off ∨ k.attn = .safe → ¬ again → exec (.powerEn c true) s = .next (s.setBits (kCageCtrl c) 1))
     ∧ (again → exec (.powerEn c true) s = .next ((s.setBits (kCageCtrl c) 1).modCage c fun k => { k with next := .debounce })))
  ∧ (let off := (s.clearBits (kCageCtrl c) 1).linksDown 3 (cageLinks c)
     (k.pow = .ramp ∨ k.pow = .on → exec (.powerEn c false) s = .next (off.modCage c fun k => k.switchOff .off))
     ∧ (k.pow = .debounce ∨ k.pow = .retryWait → exec (.powerEn c false) s = .next (off.modCage c fun k => { k with pow := .off }))
     ∧ (k.pow = .discharge → exec (.powerEn c false) s = .next (off.modCage c fun k => { k with next := .off }))
     ∧ (k.pow = .off ∨ k.pow = .latched → exec (.powerEn c false) s = .next off))
  ∧ (k.pow = .on → k.active = true → k.low = false → k.ready = false →
      exec (.cmisReadyTimeout c) s = .next (s.cmisFault c) ∧ exec (.cmisReady c false) s = .next (s.cmisFault c)
      ∧ exec (.cmisReady c true) s = .next ((s.setCage c { k with ready := true }).linksUp (cageLinks c)))
  ∧ (k.ready = true → exec (.cmisReadyTimeout c) s = .next s ∧ exec (.cmisReady c app) s = .next s)

/-- The attention sequence (R265 to R267, R569). -/
def Obligations.Attention : Prop := ∀ (c : CageId) (key : Fin 25) (s : State),
  let k := s.cage c
  let stuck := bitAt (s.reg (bSVC + 0x10)) c.val
  (stuck = false → k.attn = .idle → exec (.touch c) s = .next (s.attnRequest c))
  ∧ (stuck = false → k.attn ≠ .idle → exec (.touch c) s = .next (s.attnCancel c))
  ∧ (stuck = true → exec (.touch c) s = .next s)
  ∧ (stuck = false → k.attn = .draining → exec (.touch c) s = .next s)
  ∧ (k.attn = .idle ∨ k.attn = .keyStuck → exec (.attnReq c) s = .next (s.attnRequest c))
  ∧ (k.attn ≠ .idle → k.attn ≠ .keyStuck → exec (.attnReq c) s = .next s)
  ∧ (k.attn = .requested → (cageLinks c).any s.routed = false →
    let d := (s.setCage c { k with attn := .draining }).drainLinks (cageLinks c)
    (k.pow = .off ∨ k.pow = .latched → exec (.release c) s = .next (d.attnSafe c))
    ∧ (k.pow ≠ .off → k.pow ≠ .latched → exec (.release c) s = .next d))
  ∧ (k.attn ≠ .requested ∨ (cageLinks c).any s.routed = true → exec (.release c) s = .next (s.svcEvt (kCageEvt c) 0x40))
  ∧ (k.attn = .requested → exec (.cancel c) s = .next (s.modCage c Cage.calm) ∧ exec (.attnTimeout c) s = .next (s.modCage c Cage.calm))
  ∧ (k.attn = .safe → exec (.cancel c) s = .next ((s.modCage c Cage.calm).powerRestart c))
  ∧ (k.attn ≠ .requested → exec (.attnTimeout c) s = .next s)
  ∧ (k.attn = .draining → exec (.attnDrainEnd c) s = .next (s.goodbyes (cageLinks c))
    ∧ ((∃ i ∈ cageLinks c, (s.lnk i).st ≠ .disabled) → exec (.cableLowPower c) s = .next s)
    ∧ ((∀ i ∈ cageLinks c, (s.lnk i).st = .disabled) → (k.pow = .on ∨ k.pow = .ramp) →
      exec (.cableLowPower c) s = .next (s.setCage c { k.switchOff .off with low := k.active, toSafe := true }))
    ∧ (k.pow = .discharge → k.toSafe = true → exec (.cageSafe c) s =
        .next ((s.setCage c { k with pow := .off, next := .off }).attnSafe c)))
  ∧ (k.attn ≠ .draining → ∀ i ∈ [Instr.attnDrainEnd c, .cableLowPower c, .cageSafe c], exec i s = .next s)
  ∧ (∃ t, exec (.keyStuck key) s = .next t ∧ (key.val < 24 → (t.cage key).attn = .keyStuck)
      ∧ (∀ x, x ≠ key.val → t.cage x = s.cage x) ∧ (key.val = 24 → t.cages = s.cages))
  ∧ (let s1 := s.clearBits (bSVC + 0x10) (2 ^ key.val)
     (key.val < 24 → (s.cage key).attn = .keyStuck → exec (.keyUnstuck key) s = .next (s1.modCage key fun c => { c with attn := .idle }))
     ∧ (key.val = 24 ∨ (s.cage key).attn ≠ .keyStuck → exec (.keyUnstuck key) s = .next s1))

/-- Links (R249 to R258, R269). -/
def Obligations.LinkStates : Prop := ∀ (i : LinkId) (p0 p1 swap : Bool) (lane : Fin 2) (h : Hello) (mac : W64) (v : W32) (s : State),
  let l := s.lnk i
  let fail (c : Nat) : Out := .next ((s.linkTo i .detect c).modLnk i fun l => { l with waiting := true })
  let k := s.cage (i / 4)
  (l.st = .detect → l.waiting = false → k.pow = .on → k.ready = true → exec (.signalDetect i) s = .next (s.setLnk i { l with st := .equalise }))
  ∧ ((l.st ≠ .detect ∨ l.waiting = true ∨ k.pow ≠ .on ∨ k.ready = false) → exec (.signalDetect i) s = .next s)
  ∧ (l.st = .equalise → exec (.equaliseDone i p0 p1) s = .next (s.setLnk i { l with st := .align, pol0 := p0, pol1 := p1 })
      ∧ exec (.trainingTimeout i) s = fail 0x07)
  ∧ (l.st = .align → exec (.alignLock i false) s = .next (s.setLnk i { l with st := .neighbour, swap := false })
      ∧ exec (.alignLock i true) s = .next (s.setLnk i { l with st := .neighbour, swap := true, pol0 := l.pol1, pol1 := l.pol0 })
      ∧ exec (.trainingTimeout i) s = fail 0x08)
  ∧ (l.st = .neighbour → exec (.trainingTimeout i) s = fail 0x0D)
  ∧ (l.st = .detect → exec (.detectRetry i) s = .next (s.modLnk i fun l => { l with waiting := false })
      ∧ exec (.noSignalLane i lane) s = .next (s.modLnk i fun l => { l with cause := 5 + lane.val }))
  ∧ (l.carries = true → exec (.lossOfLock i) s = .next (s.linkTo i .detect 0x09) ∧ exec (.fecExcess i) s = .next (s.linkTo i .detect 0x0A))
  ∧ (l.carries = false → exec (.lossOfLock i) s = .next s ∧ exec (.fecExcess i) s = .next s)
  ∧ (l.st = .quarantine → s.quarCause i = 0 → exec (.quarantineExit i) s =
      .next (((s.linkTo i .active 0).control i 3 grantWord true).parentUp i))
  ∧ (l.st ≠ .quarantine ∨ s.quarCause i ≠ 0 → exec (.quarantineExit i) s = .next s)
  ∧ (l.meets = true → exec (.helloSend i) s = .next (s.emit (.control i ⟨1, s.helloWord i false, 0, wordCrc 1 (s.helloWord i false)⟩)))
  ∧ (l.meets = false → exec (.helloSend i) s = .next s)
  ∧ (l.meets = true →
    let s1 := s.modLnk i fun l => { l with hello := some h, pReady := h.ready }
    let good := mac.toNat = wordCrc 1 h.payload
    (¬ good → exec (.hello i h mac) s = .next s)
    ∧ (good → h.goodbye = true → exec (.hello i h mac) s = .next (s1.linkTo i .detect 0x0B))
    ∧ (good → h.goodbye = false → exec (.hello i h mac) s = .next ((s1.recheck i).modLnk i fun l => { l with pReady := h.ready })))
  ∧ (l.meets = false → exec (.hello i h mac) s = .next s)
  ∧ (let s1 := s.setReg (kLnkExpect i) (v.toNat &&& 0x8FFFC07F)
     (l.st = .neighbour → exec (.lnkExpect i v) s = .next s1) ∧ (l.st ≠ .neighbour → exec (.lnkExpect i v) s = .next (s1.recheck i)))
  ∧ (exec (.quarClear i) s = .next ((s.modLnk i fun l => { l with secHold := false }).requar i))
  ∧ (l.st ≠ .disabled → exec (.retrain i) s = .next (s.linkTo i .detect 0x0E))
  ∧ (l.st = .disabled → exec (.retrain i) s = .next s)
  ∧ (l.st = .active → exec (.quarForce i true) s = .next ((s.setBits (kLnkCtrl i) 2).toQuarantine i))
  ∧ (exec (.quarForce i false) s = .next ((s.clearBits (kLnkCtrl i) 2).requar i))
  ∧ (exec (.enable i false) s = .next ((s.clearBits (kLnkCtrl i) 1).linkTo i .disabled 1))
  ∧ (l.st = .disabled → (s.setBits (kLnkCtrl i) 1).cageCause (i / 4) = none →
      exec (.enable i true) s = .next ((s.setBits (kLnkCtrl i) 1).linkTo i .detect 0))
  ∧ (l.st ≠ .disabled → exec (.enable i true) s = .next (s.setBits (kLnkCtrl i) 1))

/-- The only way to ACTIVE (R249, R257). -/
def Obligations.ActiveOnlyFromQuarantine : Prop := ∀ (i j : LinkId) (p0 p1 swap on : Bool) (lane : Fin 2) (h : Hello) (mac : W64) (v : W32) (s : State),
  (∀ c ∈ [Instr.signalDetect i, .equaliseDone i p0 p1, .alignLock i swap, .trainingTimeout i, .detectRetry i, .noSignalLane i lane,
      .lossOfLock i, .fecExcess i, .helloSend i, .hello i h mac, .lnkExpect i v, .quarClear i, .retrain i, .quarForce i on, .enable i on],
    ∃ t, exec c s = .next t ∧ ((t.lnk j).st = .active → (s.lnk j).st = .active))
  ∧ ∃ t, exec (.quarantineExit i) s = .next t ∧ ((t.lnk j).st = .active → (s.lnk j).st = .active
      ∨ (j = i ∧ (s.lnk i).st = .quarantine ∧ s.quarCause i = 0))

/-- The stream (R271 to R298). -/
def Obligations.LinkStream : Prop := ∀ (i : LinkId) (c : Fin 256) (tag : BitVec 128) (body : List Byte) (x : LFlit) (xs : List LFlit) (ready : Bool)
    (p : BitVec 128) (active staged : W32) (next first n : Fin 65536) (ctr cctr : Fin (2 ^ 48)) (mac : W64) (s : State),
  let s0 := s.bump (kLnkFecCorr i) c
  let l := s.lnk i
  let carries := l.carries = true
  let opens (key epoch ctr : Nat) := openBundle key epoch ctr body (toBytes 16 tag.toNat)
  let taken : State := s.modLnk i fun k => { k with rxCctr := cctr }
  let fresh (kind payload : Nat) := mac.toNat = wordMac l.rxKey l.rxEpoch kind payload cctr ∧ l.rxCctr < cctr.val
  let stale (kind payload : Nat) := l.verify kind payload cctr mac.toNat = .fails
    ∨ (mac.toNat = wordMac l.rxKey l.rxEpoch kind payload cctr ∧ cctr.val ≤ l.rxCctr)
  let ePay := epochPayload active.toNat staged.toNat ready
  (l.st = .quarantine → exec (.bundle i tag c body) s = .next (s0.ledger 0x0301 (srcOf3 4 4 i) i 0 0))
  ∧ (¬ carries ∨ l.replayWait = true → l.st ≠ .quarantine → exec (.bundle i tag c body) s = .next s0)
  ∧ (carries → l.replayWait = false →
    let got (k : Link) (q : List Byte) : State := (s0.setLnk i { k with tagFails := 0, rxPos := (l.rxPos + 16) % 32 }).acceptFlits i (flitsOf 8 q)
    let bad := s0.setLnk i { l with tagFails := l.tagFails + 1 }
    let failed : State := if l.tagFails < 2 then bad.askReplay i else bad.linkAlarm i
    (∀ q, opens l.rxKey l.rxEpoch l.rxCtr = some q → exec (.bundle i tag c body) s = .next (got { l with rxCtr := l.rxCtr + 1 } q))
    ∧ (l.pending = none → opens l.rxKey l.rxEpoch l.rxCtr = none → exec (.bundle i tag c body) s = .next failed)
    ∧ (∀ k, l.pending = some k → exec (.bundle i tag c body) s =
        .next (match opens l.rxKey l.rxEpoch l.rxCtr, opens k.1 k.2 0 with
          | some q, _ => got { l with rxCtr := l.rxCtr + 1 } q
          | none, some q => got { l.takePending with rxCtr := 1 } q
          | none, none => failed)))
  ∧ (let slot : Slot := ⟨i, x.pool, x.flit.vc⟩
     let f : Flit := { x.flit with slot := some slot }
     let a := s.setLnk i { l.takeSlot slot with rxLseq := (l.rxLseq + 1) % 65536, ackDue := true }
     let drop (off : Nat) : State := ((a.freeRx f).dropFlit off).acceptFlits i xs
     (x.lseq ≠ l.rxLseq ∨ x.flit.kind = 0 ∨ l.hasSlot slot = false → s.acceptFlits i (x :: xs) = s.acceptFlits i xs)
     ∧ (x.lseq = l.rxLseq → x.flit.kind ≠ 0 → l.hasSlot slot = true →
       (f.malformed = true → s.acceptFlits i (x :: xs) = drop 0x11C)
       ∧ (f.malformed = false →
         (f.dst = a.reg bFAB → f.check = f.crc → s.acceptFlits i (x :: xs) = (a.deliver f).acceptFlits i xs)
         ∧ (f.dst = a.reg bFAB → f.check ≠ f.crc → s.acceptFlits i (x :: xs) = drop 0x118)
         ∧ (f.dst ≠ a.reg bFAB → f.kind = 0x20 → s.acceptFlits i (x :: xs) = drop 0x11C)
         ∧ (f.dst ≠ a.reg bFAB → f.kind ≠ 0x20 → 2 ≤ f.hops → s.acceptFlits i (x :: xs) = drop 0x10C)
         ∧ (f.dst ≠ a.reg bFAB → f.kind ≠ 0x20 → f.hops < 2 →
             s.acceptFlits i (x :: xs) = (a.route { f with hops := f.hops + 1 }).acceptFlits i xs))))
  ∧ (carries → exec (.uncorrectableFecCodeword i) s = .next ((s.bump (kLnkFecUnc i) 1).askReplay i))
  ∧ (¬ carries → exec (.uncorrectableFecCodeword i) s = .next (s.bump (kLnkFecUnc i) 1))
  ∧ (carries → fresh 3 p.toNat → exec (.creditAck i p cctr mac) s = .next ((taken.modLnk i fun k => k.takeCredits p.toNat).pump i))
  ∧ (carries → fresh 4 (next * 2 ^ 112) →
    let again := l.replay.dropWhile fun y => y.lseq != next.val
    (next.val = l.txLseq ∨ l.replay.any (fun y => y.lseq == next.val) = true →
      exec (.replayReq i next cctr mac) s = .next (((taken.control i 5 (next * 2 ^ 112 + l.txCtr * 2 ^ 64) true).modLnk i fun k =>
        { k with txPos := 0 }).resend i again again.length))
    ∧ (next.val ≠ l.txLseq → l.replay.any (fun y => y.lseq == next.val) = false →
      exec (.replayReq i next cctr mac) s = .next (taken.linkAlarm i)))
  ∧ (carries → fresh 5 (first * 2 ^ 112 + ctr * 2 ^ 64) →
    (l.rxCtr ≤ ctr.val → exec (.replayStart i first ctr cctr mac) s =
        .next (s.setLnk i { l with rxCctr := cctr, rxCtr := ctr, rxPos := 0, replayWait := false }))
    ∧ (ctr.val < l.rxCtr → exec (.replayStart i first ctr cctr mac) s = .next taken))
  ∧ (carries → fresh 2 ePay →
    let e := s.modLnk i fun k => { k with rxCctr := cctr, pEpoch := some active.toNat }
    let go := bitAt (s.reg kRteCtrl) 2 = true ∧ bitAt (s.reg kRteCtrl) 1 = true ∧ active.toNat = s.reg kRteStaged ∧ l.st = .active
    (go → exec (.epoch i active staged ready cctr mac) s = .next e.activateRoutes)
    ∧ (¬ go → exec (.epoch i active staged ready cctr mac) s = .next (e.rehold i)))
  ∧ (carries → ∀ w ∈ [(3, p.toNat, Instr.creditAck i p cctr mac), (4, next * 2 ^ 112, .replayReq i next cctr mac),
      (5, first * 2 ^ 112 + ctr * 2 ^ 64, .replayStart i first ctr cctr mac), (2, ePay, .epoch i active staged ready cctr mac)],
      stale w.1 w.2.1 → exec w.2.2 s = .next (s.bump (bFAB + 0x120) 1))
  ∧ (¬ carries → ∀ w ∈ [Instr.creditAck i p cctr mac, .replayReq i next cctr mac, .replayStart i first ctr cctr mac], exec w s = .next s)
  ∧ (l.st = .quarantine → (mac.toNat = wordCrc 2 ePay → exec (.epoch i active staged ready cctr mac) s =
      .next ((s.modLnk i fun k => { k with pEpoch := some active.toNat }).requar i))
    ∧ (mac.toNat ≠ wordCrc 2 ePay → exec (.epoch i active staged ready cctr mac) s = .next s))
  ∧ (¬ carries → l.st ≠ .quarantine → exec (.epoch i active staged ready cctr mac) s = .next s)
  ∧ exec (.idle i) s = .next s
  ∧ (carries → l.ackDue = true → exec (.creditAckSend i) s =
      .next ((s.control i 3 l.creditWord true).modLnk i fun k => { k with ackDue := false }))
  ∧ (¬ carries ∨ l.ackDue = false → exec (.creditAckSend i) s = .next s)
  ∧ (let pay := epochPayload (s.reg kRteEpoch) (s.reg kRteStaged) (bitAt (s.reg kRteCtrl) 2)
     (carries → exec (.epochSend i) s = .next (s.control i 2 pay true))
     ∧ (l.st = .quarantine → exec (.epochSend i) s = .next (s.control i 2 pay false))
     ∧ (¬ carries → l.st ≠ .quarantine → exec (.epochSend i) s = .next s))
  ∧ (carries → l.replayWait = true → exec (.replayReqRepeat i) s = .next (s.control i 4 (l.rxLseq * 2 ^ 112) true))
  ∧ (¬ carries ∨ l.replayWait = false → exec (.replayReqRepeat i) s = .next s)
  ∧ (∀ f, l.queue[n.val]? = some f →
      exec (.flitAged i n) s = .next (((s.setLnk i { l with queue := l.queue.eraseIdx n }).freeRx f).dropFlit 0x110))
  ∧ (l.queue.length ≤ n.val → exec (.flitAged i n) s = .next s)

/-- The routing banks (R298, R304). -/
def Obligations.RoutingBanks : Prop := ∀ (v : W32) (s : State),
  (bitAt (s.reg kRteCtrl) 2 = true → ∃ t, exec .commit s = .next t ∧ t.rteAct = s.rteStg ∧ t.rteStg = s.rteAct
    ∧ t.reg kRteEpoch = s.reg kRteStaged ∧ bitAt (t.reg kRteCtrl) 2 = false)
  ∧ (bitAt (s.reg kRteCtrl) 2 = false → exec .commit s = .next s)
  ∧ (exec (.stageReady true) s = .next ((s.setBits kRteCtrl 4).announceOn allLinks))
  ∧ (exec (.stageReady false) s = .next ((s.clearBits kRteCtrl 4).announceOn allLinks))
  ∧ (∀ on, ∃ t, exec (.stageReady on) s = .next t ∧ bitAt (t.reg kRteCtrl) 2 = on ∧ t.rteAct = s.rteAct ∧ t.rteStg = s.rteStg)
  ∧ ((∃ i < 96, (s.lnk i).carries = true) → exec (.fabId v) s = .next s)
  ∧ ((∀ i < 96, (s.lnk i).carries = false) → exec (.fabId v) s = .next (s.setReg bFAB (v.toNat % 16384)))
  ∧ (bitAt v.toNat 0 = true → ∃ t, exec (.fabCntClear v) s = .next t ∧ (∀ n < 11, t.reg (bFAB + 0x100 + 4 * n) = 0)
      ∧ t = { s with regs := t.regs } ∧ ∀ k, (∀ n < 11, k ≠ bFAB + 0x100 + 4 * n) → t.reg k = s.reg k)
  ∧ (bitAt v.toNat 0 = false → exec (.fabCntClear v) s = .next s)

/-- Fabric time (R40 to R49, R278, R279). -/
def Obligations.FabricTime : Prop := ∀ (i : LinkId) (v : W32) (d : W64) (frac : Fin 16) (p : BitVec 128) (cctr : Fin (2 ^ 48)) (mac : W64) (s : State),
  let t := s.time
  let l := s.lnk i
  let root := bits p.toNat 15 2
  let fresh := mac.toNat = wordMac l.rxKey l.rxEpoch 6 p.toNat cctr ∧ l.rxCctr < cctr.val
  let word := exec (.time i p frac cctr mac) s
  (t.st = .root → s.now ≤ d.toNat → exec (.fabTsSet d) s = .next { s with now := d.toNat })
  ∧ (t.st ≠ .root ∨ d.toNat < s.now → exec (.fabTsSet d) s = .next s)
  ∧ (∃ u, exec (.fabTsCtrl v) s = .next u ∧ (v.toNat % 4 ≠ 3 → u.reg kTsCtrl % 4 = v.toNat % 4)
      ∧ (v.toNat % 4 = 3 → u.reg kTsCtrl % 4 = s.reg kTsCtrl % 4) ∧ bits (u.reg kTsCtrl) 15 8 = bits v.toNat 15 8
      ∧ (u.reg kTsCtrl ≠ t.ctrl → u.time.pendingCtrl = true) ∧ u = { s with regs := u.regs, time := { t with pendingCtrl := u.time.pendingCtrl } })
  ∧ (t.pendingCtrl = false → l.st ≠ .active → exec (.timeSend i frac) s = .next s)
  ∧ (t.pendingCtrl = false → l.st = .active →
    let at_ := (s.now * 16 + frac) % 2 ^ 48
    let l1 : Link := { l with timeSeq := (l.timeSeq + 1) % 256, txTimes := tblSet (fun _ => 0) l.txTimes l.timeSeq at_ }
    exec (.timeSend i frac) s = .next ((s.setLnk i l1).control i 6
        (at_ * 2 ^ 80 + l.rxTimeAt * 2 ^ 32 + l.timeSeq * 2 ^ 24 + l.rxTimeSeq * 2 ^ 16 + s.tsRoot * 4 + (if t.follows then t.hops else 0)) true))
  ∧ (t.pendingCtrl = true → l.st ≠ .active → s.reg kTsCtrl % 4 = 2 →
      ∃ u, exec (.timeSend i frac) s = .next u ∧ u.time.st = .root ∧ u.time.pendingCtrl = false)
  ∧ (l.carries = false → word = .next s)
  ∧ (l.carries = true → (l.verify 6 p.toNat cctr mac.toNat = .fails
      ∨ (mac.toNat = wordMac l.rxKey l.rxEpoch 6 p.toNat cctr ∧ cctr.val ≤ l.rxCctr)) → word = .next (s.bump (bFAB + 0x120) 1))
  ∧ (l.st = .draining → fresh → word = .next (s.modLnk i fun k => { k with rxCctr := cctr }))
  ∧ (l.st = .active → fresh →
    let named := (s.lnk t.link).rxRoot
    (t.follows = true → t.link = i.val → ∃ u, word = .next u ∧ u.time.root = root ∧ u.time.hops = min 3 (p.toNat % 4 + 1)
        ∧ (u.lnk i).rxCctr = cctr.val)
    ∧ (t.follows = true → t.link ≠ i.val → root ≠ 0x3FFF → named ≠ 0x3FFF → root ≠ named → t.conflict = false →
        ∃ u, word = .next u ∧ u.time = { t with conflict := true } ∧ u.now = s.now)
    ∧ (t.follows = true → t.link ≠ i.val → (root = 0x3FFF ∨ named = 0x3FFF ∨ root = named) →
        ∃ u, word = .next u ∧ u.time = t ∧ u.now = s.now)
    ∧ (t.st = .root → root ≠ 0x3FFF → root ≠ s.reg bFAB → t.conflict = false →
        ∃ u, word = .next u ∧ u.time = { t with conflict := true } ∧ u.now = s.now))
  ∧ (t.st = .acquiring → exec .timeLock s =
      .next { s with time := { t with st := .locked, slew := 0, rate := max (-100000) (min 100000 t.rate) } })
  ∧ (t.st ≠ .acquiring → exec .timeLock s = .next s)
  ∧ (t.st = .locked → exec .holdoverEntry s = .next { s with time := { t with st := .holdover } })
  ∧ (t.st ≠ .locked → exec .holdoverEntry s = .next s)
  ∧ (t.st = .holdover → ∃ u, exec .holdoverExpiry s = .next u ∧ u = { s with time := u.time } ∧ u.time.pendingCtrl = t.pendingCtrl
      ∧ (let parent := t.ctrl % 4 = 1 ∧ bits t.ctrl 15 8 < 96 ∧ (s.lnk (bits t.ctrl 15 8)).st = .active
         (parent → u.time.st = .acquiring ∧ u.time.link = bits t.ctrl 15 8)
         ∧ (¬ parent → t.ctrl % 4 ≠ 2 → u.time.st = .unsynced ∧ u.time.offset = 0 ∧ u.time.rate = 0 ∧ u.time.root = 0x3FFF)))
  ∧ (t.st ≠ .holdover → exec .holdoverExpiry s = .next s)
  ∧ exec .rootConflictClear s = .next { s with time := { t with conflict := false } }
  ∧ (∃ u, exec .timestampDistribute s = .next u ∧ u.time.dies.length = 6 ∧ (∀ x ∈ u.time.dies, x = s.now)
      ∧ u = { s with time := { t with dies := u.time.dies } })

/-- Expert buckets (R158 to R161). -/
def Obligations.BucketRounds : Prop := ∀ (h : HdrAddr) (r : BucketReq) (e : EngineId) (core seq b first granted policy : Nat) (s : State),
  let k := s.bucket h
  (k.zeroFill = true ∨ (k.isOpen = true ∧ s.hdrProducers h ≤ k.requests) →
    exec (.bucketRequest h r) s = .next (s.setBucket h { k with held := k.held ++ [r] }))
  ∧ (k.zeroFill = false → (k.isOpen = false ∨ k.requests < s.hdrProducers h) →
    let s1 := if k.isOpen then s else s.openRound h
    let k1 := s1.bucket h
    let k2 : Bucket := { k1 with requests := k1.requests + 1, rows := some r.rows }
    (s1.detsum (h / 2 ^ 20) = false → exec (.bucketRequest h r) s = .next ((s1.setBucket h k2).grantReq h r))
    ∧ (s1.detsum (h / 2 ^ 20) = true → k1.gather.length + 1 = s1.hdrProducers h →
      exec (.bucketRequest h r) s = .next ((s1.setBucket h { k2 with gather := [] }).grantAll h (insertReq r k1.gather)))
    ∧ (s1.detsum (h / 2 ^ 20) = true → k1.gather.length + 1 ≠ s1.hdrProducers h →
      exec (.bucketRequest h r) s = .next (s1.setBucket h { k2 with gather := insertReq r k1.gather })))
  ∧ (k.isOpen = false → exec (.bucketDone h) s = .next s)
  ∧ (k.isOpen = true → k.dones + 1 ≠ s.hdrProducers h → exec (.bucketDone h) s = .next (s.setBucket h { k with dones := k.dones + 1 }))
  ∧ (k.isOpen = true → k.dones + 1 = s.hdrProducers h →
      exec (.bucketDone h) s = .next ((s.setBucket h { k with dones := k.dones + 1 }).closeRound h))
  ∧ (k.zeroFill = true → exec (.zeroFillAcknowledged h) s = .next ((s.raiseDoneObj h).nextRound h))
  ∧ (k.zeroFill = false → exec (.zeroFillAcknowledged h) s = .next s)
  ∧ (∀ x d, s.findXfer e core seq = some x → x.disp = some d → b ∈ d.waiting →
      exec (.bucketGrant e core seq b first granted policy) s = .next (s.takeGrant x e d b first granted policy))
  ∧ (s.findXfer e core seq = none → exec (.bucketGrant e core seq b first granted policy) s = .next s)

/-- Working keys (R464 to R473). -/
def Obligations.WorkingKeys : Prop := ∀ (q : RegionId) (i : LinkId) (m : RekeyMsg) (cctrs macs : List Nat) (xid : Fin 256) (msg : Fin 8)
    (bad : List Nat) (chains debug ok : Bool) (cctr : Fin (2 ^ 48)) (mac : W64) (epoch : W32) (s : State),
  let r := s.region q
  let l := s.lnk i
  let up := s.drbgUp = true ∧ s.cus.ready = true
  let quar := l.st = .quarantine
  let words (kind : Nat) := rekeyWords kind m.xid m.data 0
  let good (kind : Nat) : Prop := cctrs.length = (words kind).length ∧ macs = (words kind).map (wordCrc 7)
  let goodOne (kind data : Nat) : Prop := mac.toNat = wordCrc 7 (rekeyPayload kind xid 0 data)
  let long := [(1, Instr.rekeyInit i m cctrs macs), (2, .rekeyResp i m cctrs macs), (3, .rekeyCert i m chains debug cctrs macs),
    (4, .rekeySign i m ok cctrs macs)]
  let short := [(5, msg.val, Instr.rekeyAck i xid msg cctr mac), (6, epoch.toNat, .rekeySwitch i xid epoch cctr mac),
    (7, 0, .rekeyAbort i xid cctr mac)]
  let next (x : Exchange) (kind : Nat) : Prop := l.exch = some x ∧ x.xid = m.xid ∧ kind ∉ x.received
  let ack (y : State) (id kind : Nat) : State := (y.ackRekey i id kind).modExch i fun y => { y with received := y.received ++ [kind] }
  (s.drbgUp = true → s.rekeyDue q = true →
    (∀ n < 12, (s.region (q.val / 12 * 12 + n)).rekeying = false ∧ (q.val / 12 * 12 + n < q.val → s.rekeyDue (q.val / 12 * 12 + n) = false)) →
    ∃ t, exec (.regionRekey q) s = .next t ∧ (t.region q).rekeying = true ∧ (t.region q).pointer = 0 ∧ (t.region q).newWrites = 0
      ∧ (t.region q).keyNo = r.keyNo ∧ t.hbm = s.hbm ∧ t.tags = s.tags)
  ∧ (s.drbgUp = false ∨ s.rekeyDue q = false → exec (.regionRekey q) s = .next s)
  ∧ (r.rekeying = false → exec (.reencryptDone q bad ok) s = .next s)
  ∧ (r.rekeying = true → ∃ t, exec (.reencryptDone q bad ok) s = .next t ∧ (t.region q).rekeying = false ∧ (t.region q).halted = false
      ∧ (t.region q).pointer = 0 ∧ (t.region q).keyNo = r.newKeyNo ∧ (t.region q).rekeys = satAdd 0xFFFFFFFF r.rekeys 1
      ∧ t.hbm = s.hbm ∧ (ok = false → t.cus.badKeys = s.cus.badKeys ++ [q.val]) ∧ (ok = true → t.cus = s.cus))
  ∧ (quar → ∀ w ∈ long, (¬ up ∨ ¬ good w.1) → exec w.2 s = .next s)
  ∧ (quar → ∀ w ∈ short, (¬ up ∨ ¬ goodOne w.1 w.2.1) → exec w.2.2 s = .next s)
  ∧ (¬ quar → l.carries = false → ∀ w ∈ long.map (·.2) ++ short.map (·.2.2), exec w s = .next s)
  ∧ (l.carries = true → ∀ w ∈ long, cctrs.length = (words w.1).length → macs.length = (words w.1).length →
      let y := s.takeWords i ((words w.1).zip (cctrs.zip macs))
      (y.2 = false ∨ y.1.drbgUp = false ∨ y.1.cus.ready = false) → exec w.2 s = .next y.1)
  ∧ (up → quar → good 1 → l.exch = none → ∀ h, l.hello = some h →
      (h.serial ≤ Config.serial.toNat → exec (.rekeyInit i m cctrs macs) s = .next (s.answerInit i m.xid m.data))
      ∧ (Config.serial.toNat < h.serial → exec (.rekeyInit i m cctrs macs) s = .next s))
  ∧ (up → quar → good 2 → ∀ x, next x 2 → x.initiator = true → x.rollover = false →
      let y := ((ack s m.xid 2).takeResp i x m.data).1
      exec (.rekeyResp i m cctrs macs) s = .next (y.sendRekey i 3 m.xid y.linkCert 0))
  ∧ (∀ s1 x, l.carries = true → cctrs.length = (words 2).length → macs.length = (words 2).length →
      s.takeWords i ((words 2).zip (cctrs.zip macs)) = (s1, true) → s1.drbgUp = true → s1.cus.ready = true →
      (s1.lnk i).exch = some x → x.xid = m.xid → 2 ∉ x.received → x.initiator = true → x.rollover = true →
      let ks := agreedKeys (respSecret x.eph m.data) (s1.transcript i true x.initMsg m.data) true true
      ∃ t, exec (.rekeyResp i m cctrs macs) s = .next t ∧ (t.lnk i).txKey = ks.1 ∧ (t.lnk i).keyEpoch = (s1.lnk i).keyEpoch + 1
        ∧ (t.lnk i).txCtr = 0 ∧ (t.lnk i).txCctr = 0 ∧ (t.lnk i).pending = some (ks.2, (s1.lnk i).rxEpoch + 1)
        ∧ (t.lnk i).rxKey = (s1.lnk i).rxKey)
  ∧ (up → quar → good 3 → ∀ x, next x 3 → x.rollover = false → (if x.initiator then 2 else 1) ∈ x.received →
      let a := ack s m.xid 3
      (chains = false → exec (.rekeyCert i m chains debug cctrs macs) s = .next (a.keyingAlarm i m.xid))
      ∧ (chains = true → debug = false → exec (.rekeyCert i m chains debug cctrs macs) s = .next (a.abortKeying i m.xid true))
      ∧ (chains = true → debug = true →
        let y := if x.hasSent 3 = true then a else a.sendRekey i 3 m.xid a.linkCert 0
        exec (.rekeyCert i m chains debug cctrs macs) s = .next (((y.drbg 1).draw.draw).sendRekey i 4 m.xid (y.signBytes i x) 0)))
  ∧ (up → quar → good 4 → ∀ x, next x 4 → x.rollover = false → 3 ∈ x.received →
      (ok = true → exec (.rekeySign i m ok cctrs macs) s = .next ((ack s m.xid 4).sendRekey i 6 m.xid [] 0))
      ∧ (ok = false → exec (.rekeySign i m ok cctrs macs) s = .next ((ack s m.xid 4).keyingAlarm i m.xid)))
  ∧ (up → quar → goodOne 5 msg → ∀ x, l.exch = some x → x.xid = xid.val → x.hasSent msg = true → msg.val ∉ x.acked → x.rollover = false →
      exec (.rekeyAck i xid msg cctr mac) s = .next ((s.modExch i fun y => { y with acked := y.acked ++ [msg.val] }).keyingDone i))
  ∧ (up → quar → goodOne 6 0 → epoch.toNat = 0 → ∀ x, l.exch = some x → x.xid = xid.val → 6 ∉ x.received → x.rollover = false → 4 ∈ x.received →
      exec (.rekeySwitch i xid epoch cctr mac) s = .next ((ack s xid 6).keyingDone i)
      ∧ (6 ∈ x.acked → ∃ t, exec (.rekeySwitch i xid epoch cctr mac) s = .next t ∧ (t.lnk i).keyed = true ∧ (t.lnk i).keys = .keyed
          ∧ (t.lnk i).exch = none ∧ ∀ ks, x.keys = some ks → (t.lnk i).txKey = ks.1 ∧ (t.lnk i).rxKey = ks.2
            ∧ (t.lnk i).keyEpoch = 0 ∧ (t.lnk i).rxEpoch = 0 ∧ (t.lnk i).txCtr = 0 ∧ (t.lnk i).rxCtr = 0))
  ∧ (up → quar → goodOne 7 0 → ∀ x, l.exch = some x → x.xid = xid.val → exec (.rekeyAbort i xid cctr mac) s = .next (s.keyingFails i true))
  ∧ (quar → ∀ x, l.exch = some x →
      (x.xid ≠ m.xid → ∀ c ∈ [Instr.rekeyResp i m cctrs macs, .rekeyCert i m chains debug cctrs macs, .rekeySign i m ok cctrs macs], exec c s = .next s)
      ∧ (x.xid ≠ xid.val → ∀ c ∈ [Instr.rekeyAck i xid msg cctr mac, .rekeyAbort i xid cctr mac], exec c s = .next s))
  ∧ (l.exch = none → exec (.rekeyResend i) s = .next s ∧ exec (.rekeyTimeout i) s = .next s)
  ∧ (∀ x, l.exch = some x → exec (.rekeyResend i) s = .next (s.resendRekey i x.xid (x.sent.filter fun y => !x.acked.contains y.1))
      ∧ exec (.rekeyTimeout i) s = .next (s.abortKeying i x.xid true))
  ∧ (l.retryKey = false → exec (.keyingRetry i) s = .next s)
  ∧ (l.retryKey = true → (quar → exec (.keyingRetry i) s = .next (s.startKeying i))
      ∧ (¬ quar → l.rollDue = true → exec (.keyingRetry i) s = .next (s.rollover i))
      ∧ (¬ quar → l.rollDue = false → exec (.keyingRetry i) s = .next (s.setLnk i { l with retryKey := false })))
  ∧ (l.txCtr < 2 ^ 47 → l.txCctr < 2 ^ 47 → exec (.rolloverStart i) s = .next s)
  ∧ (2 ^ 47 ≤ l.txCtr ∨ 2 ^ 47 ≤ l.txCctr → exec (.rolloverStart i) s = .next (s.rollover i))
  ∧ (l.carries = true → (2 ^ 48 - 2 ^ 16 ≤ l.txCtr ∨ 2 ^ 48 - 2 ^ 16 ≤ l.txCctr) → exec (.counterStop i) s =
      .next ((((s.ledger 0x0803 (srcOf3 4 4 i) i 0 0).linkTo i .quarantine 0x15).modLnk i fun k => { k with keys := .stopped }).startKeying i))
  ∧ (l.carries = false ∨ (l.txCtr < 2 ^ 48 - 2 ^ 16 ∧ l.txCctr < 2 ^ 48 - 2 ^ 16) → exec (.counterStop i) s = .next s)

/-- The Custodian (R430 to R454). -/
def Obligations.CustodianRequests : Prop := ∀ (r : Fin 16) (ok : Bool) (pulses : Fin 256) (nonce : Nat) (d : HostDesc) (s0 s : State),
  let go (cmd : Nat) : Prop := s.cus.ready = true ∧ s.cus.queue.length < 16 ∧ MgmtStarts s r cmd d s0
  let fin (t : State) : Out := .next (t.ringGo 0 r)
  let ends (status : Nat) (bs : List Byte) : Out := fin (s0.mgmtEnd d.id status bs)
  let n := d.arg0 % 256
  let k := s.keySlot n
  let root := s.cus.dbg.testRoot
  let up := s.drbgUp = true
  (go 0x400 →
    (d.fld 56 4 = 0 ∨ 1024 < d.fld 56 4 → exec (.secRandom r) s = ends 3 [])
    ∧ (1 ≤ d.fld 56 4 → d.fld 56 4 ≤ 1024 → ¬ up → exec (.secRandom r) s = ends s.drbgStatus [])
    ∧ (1 ≤ d.fld 56 4 → d.fld 56 4 ≤ 1024 → up → exec (.secRandom r) s =
        fin ((s0.drbg 1).draw.mgmtEnd d.id 0 (toBytes (d.fld 56 4) (Config.free s.freeCtr)))))
  ∧ (go 0x401 → (n < 16 → exec (.secSlotInfo r ok) s = ends 0x0C [])
    ∧ (16 ≤ n → k.current.used = true → k.bad = false → k.current.rootTest = root → ok = false →
        ∃ t, exec (.secSlotInfo r ok) s = .next t ∧ (t.keySlot n).bad = true)
    ∧ (16 ≤ n → k.current.used = false → k.bad = false → exec (.secSlotInfo r ok) s = ends 0
        (toBytes 1 0 ++ toBytes 1 k.current.type ++ toBytes 1 k.current.usage ++ toBytes 1 (b2n k.current.rootTest + 2 * b2n k.wear)
          ++ toBytes 4 k.writes ++ toBytes 4 k.gen ++ toBytes 4 0)))
  ∧ (go 0x402 → (n < 16 → exec (.secSlotGenerate r pulses) s = ends 0x0C [])
    ∧ (16 ≤ n → slotKind (bits d.arg0 15 8) (bits d.arg0 23 16) = false → exec (.secSlotGenerate r pulses) s = ends 3 [])
    ∧ (16 ≤ n → slotKind (bits d.arg0 15 8) (bits d.arg0 23 16) = true →
      (up → s.slotFree n ≠ 0 → exec (.secSlotGenerate r pulses) s = ends (s.slotFree n) [])
      ∧ (up → s.slotFree n = 0 → exec (.secSlotGenerate r pulses) s =
          fin ((s0.newKey.1.fillSlot n (bits d.arg0 15 8) (bits d.arg0 23 16) pulses s0.newKey.2).mgmtEnd d.id 0 []))
      ∧ (s.cus.es = .failed → exec (.secSlotGenerate r pulses) s = ends 2 [])
      ∧ (¬ up → s.cus.es ≠ .failed → exec (.secSlotGenerate r pulses) s =
          fin { s0 with cus := { s.cus with queue := s.cus.queue ++ [⟨d.id, 0x402, d.arg0, true, pulses, []⟩] } })))
  ∧ (go 0x403 → (n < 16 → exec (.secSlotImport r ok pulses) s = ends 0x0C [])
    ∧ (16 ≤ n →
      let b := s0.mgmtIn d
      let type := imgField b 0 1
      let usage := imgField b 1 1
      let good := ok = true ∧ slotKind type usage = true ∧ imgField b 2 2 = 0
      (up → s.slotFree n ≠ 0 → exec (.secSlotImport r ok pulses) s = ends (s.slotFree n) [])
      ∧ (up → s.slotFree n = 0 → ¬ good → exec (.secSlotImport r ok pulses) s = ends 0x0A [])
      ∧ (up → s.slotFree n = 0 → good → exec (.secSlotImport r ok pulses) s = match s0.unwrapBlob b with
          | some key => fin ((s0.fillSlot n type usage pulses key).mgmtEnd d.id 0 [])
          | none => ends 0x0A [])
      ∧ (s.cus.es = .failed → exec (.secSlotImport r ok pulses) s = ends 2 [])))
  ∧ (go 0x404 → (n < 16 → exec (.secSlotDestroy r ok pulses) s = ends 0x0C [])
    ∧ (16 ≤ n → k.current.used = true → k.bad = false → k.current.rootTest ≠ root → exec (.secSlotDestroy r ok pulses) s = ends 7 [])
    ∧ (16 ≤ n → (k.current.used = false ∨ k.bad = true ∨ k.current.rootTest = root) →
      (ok = true → exec (.secSlotDestroy r ok pulses) s = fin ((s0.setKeySlot n (k.destroyed pulses)).mgmtEnd d.id 0 []))
      ∧ (ok = false → exec (.secSlotDestroy r ok pulses) s = fin (((s0.setKeySlot n { k.destroyed pulses with bad := true }).secEvent 4 8 n 9).mgmtEnd
          d.id 9 []))))
  ∧ (go 0x405 → (1 < d.arg0 → exec (.secCerts r) s = ends 3 [])
    ∧ (d.arg0 ≤ 1 → s.cus.certs = true → exec (.secCerts r) s = ends 0 (s0.certChain d.arg0))
    ∧ (d.arg0 ≤ 1 → s.cus.certs = false → exec (.secCerts r) s = ends s.drbgStatus []))
  ∧ (go 0x406 → (¬ up → exec (.secNonce r) s = ends s.drbgStatus [])
    ∧ (up → ∃ t, exec (.secNonce r) s = .next t ∧ t.cus.nonce = some (Config.free s.freeCtr % 2 ^ 256)))
  ∧ (go 0x407 → (root = true → exec (.secDebugToken r ok nonce) s = ends 3 [])
    ∧ (root = false → ok = true → s.cus.nonce = some nonce →
        exec (.secDebugToken r ok nonce) s = fin ({ s0 with cus := { s.cus with nonce := none, dbg := .debugPending } }.mgmtEnd d.id 0 []))
    ∧ (root = false → ok = false ∨ s.cus.nonce ≠ some nonce →
        exec (.secDebugToken r ok nonce) s = fin (({ s0 with cus := { s.cus with nonce := none } }.secEvent 5 9 0 0x0B).mgmtEnd d.id 0x0B [])))
  ∧ (go 0x408 →
    (s.cus.dbg = .debug → exec (.secDebugReturn r) s = fin ({ s0 with cus := { s.cus with dbg := .returnPending } }.mgmtEnd d.id 0 []))
    ∧ (s.cus.dbg = .debugPending → exec (.secDebugReturn r) s = fin ({ s0 with cus := { s.cus with dbg := .production } }.mgmtEnd d.id 0 []))
    ∧ (s.cus.dbg = .production ∨ s.cus.dbg = .returnPending → exec (.secDebugReturn r) s = ends 3 []))
  ∧ (s.cus.ready = false → ∀ c ∈ [Instr.secRandom r, .secSlotInfo r ok, .secSlotGenerate r pulses, .secSlotImport r ok pulses, .secSlotDestroy r ok pulses,
      .secCerts r, .secNonce r, .secDebugToken r ok nonce, .secDebugReturn r, .glitch], exec c s = .next s)
  ∧ (s.cus.ready = true → ∃ t, exec .glitch s = .next t ∧ t.cus.ready = true ∧ t.cus.es = .startup ∧ t.cus.testing = true ∧ t.cus.certs = false
      ∧ t.cus.nonce = none ∧ t.cus.queue = [] ∧ t.cus.dbg = s.cus.dbg.next ∧ t.spdm = [] ∧ t.sessions = [])
  ∧ (s.cus.testing = false → exec (.entropyStartupDone ok) s = .next s)
  ∧ (s.cus.testing = true → ok = false → ∃ t, exec (.entropyStartupDone ok) s = .next t ∧ t.cus.es = .failed ∧ t.cus.queue = [])
  ∧ (s.cus.testing = true → ok = true → exec (.entropyStartupDone ok) s = .next (({ s with cus := { s.cus with
      es := .ready, testing := false, reqs := 0, queue := [] } }.serveHeld s.cus.queue).startKeyings allLinks))
  ∧ (let dropped : State := { s with cus := { s.cus with entropy := { s.cus.entropy with fill := 0, discarded := s.cus.entropy.discarded + 1 } } }
     (up → exec .healthTestFail s = .next (dropped.esFail .retest))
     ∧ (s.cus.testing = true → s.cus.es = .startup ∨ s.cus.es = .retest → exec .healthTestFail s = .next dropped.esFailed)
     ∧ (s.cus.testing = false → s.cus.es ≠ .ready → exec .healthTestFail s = .next s))
  ∧ (s.cus.es = .retest → exec .retestWaitEnd s = .next { s with cus := { s.cus with
      testing := true, entropy := { s.cus.entropy with a := .reset, b := .reset, fill := 0 } } })
  ∧ (s.cus.es ≠ .retest → exec .retestWaitEnd s = .next s)
  ∧ (up → 2 ^ 20 ≤ s.cus.reqs → exec .drbgReseed s = .next { s with
      cus := { s.cus with reqs := 0, reseeds := satAdd 0xFFFFFFFF s.cus.reseeds 1 } })
  ∧ (¬ up ∨ s.cus.reqs < 2 ^ 20 → exec .drbgReseed s = .next s)
  ∧ (up → s.cus.certs = false → ∃ t, exec .aliasCertIssue s = .next t ∧ t.cus.certs = true ∧ t = { s with cus := t.cus })
  ∧ (¬ up ∨ s.cus.certs = true → exec .aliasCertIssue s = .next s)

/-- Rings and host work (R373 to R411, R415, R526). -/
def Obligations.HostRings : Prop := ∀ (fn : FnId) (r : Fin 16) (v : W32) (x : Fin 65536) (e : EngineId) (ok : Bool) (pl : SlotPlace)
    (p : PartId) (slot : SlotId) (salt : W64) (bytes : List Byte) (vfs : Fin 33) (n : Nat) (d : HostDesc) (s0 s : State),
  let on := s.hostOn fn = true
  let sq := s.reg (kSqCfg fn r)
  let cq := s.reg (kCqCfg fn r)
  let go (t : Nat) : Prop := RingStarts s fn r t d s0
  let fin (t : State) : Out := .next (t.ringGo fn r)
  let room := s.copyEngine (fn - 1) e = true ∧ s.hasRoom e = true
  let q := s.part (fn - 1)
  (¬ on → ∀ c ∈ [Instr.hifSqCfg fn r v, .hifCqCfg fn r v, .sqDoorbell fn r x, .cqDoorbell fn r x, .descriptorFetch fn r ok, .flr fn], exec c s = .next s)
  ∧ (on → bitAt sq 31 = true → exec (.hifSqCfg fn r v) s = .next (if bitAt v.toNat 31 then s else s.clearBits (kSqCfg fn r) (2 ^ 31)))
  ∧ (on → bitAt sq 31 = false →
    let s1 := s.setReg (kSqCfg fn r) (cfgFields 0x9F000000 sq v.toNat)
    exec (.hifSqCfg fn r v) s = .next (if bitAt v.toNat 31 then s1.setSq fn r Sq.reset else s1))
  ∧ (on → bitAt cq 31 = true → bitAt v.toNat 31 = true ∨ s.cqUsed fn r = true ∨ (s.cq fn r).waiting ≠ [] → exec (.hifCqCfg fn r v) s = .next s)
  ∧ (on → bitAt cq 31 = true → bitAt v.toNat 31 = false → s.cqUsed fn r = false → (s.cq fn r).waiting = [] →
      exec (.hifCqCfg fn r v) s = .next (s.clearBits (kCqCfg fn r) (2 ^ 31)))
  ∧ (on → bitAt cq 31 = false → bitAt v.toNat 31 = false → ∃ t, exec (.hifCqCfg fn r v) s = .next t ∧ bitAt (t.reg (kCqCfg fn r)) 31 = false
      ∧ t = { s with regs := t.regs })
  ∧ (on → bitAt cq 31 = false → bitAt v.toNat 31 = true → (s.cq fn r).waiting = [] → ∃ t, exec (.hifCqCfg fn r v) s = .next t
      ∧ (t.cq fn r).tail = 0 ∧ (t.cq fn r).head = 0 ∧ (t.cq fn r).phase = true ∧ t.host = s.host)
  ∧ (on → bitAt sq 31 = true → (x.val < ringSize sq → exec (.sqDoorbell fn r x) s = .next (s.setSq fn r { s.sq fn r with tail := x }))
      ∧ (ringSize sq ≤ x.val → exec (.sqDoorbell fn r x) s = .next (s.setBits (kSqStat fn r) (2 ^ 31))))
  ∧ (bitAt sq 31 = false → exec (.sqDoorbell fn r x) s = .next s ∧ exec (.descriptorFetch fn r ok) s = .next s)
  ∧ (on → bitAt cq 31 = true → (x.val < ringSize cq → exec (.cqDoorbell fn r x) s = .next ((s.setCq fn r { s.cq fn r with head := x }).cqGo fn r))
      ∧ (ringSize cq ≤ x.val → exec (.cqDoorbell fn r x) s = .next (s.cqDberr fn r (List.range 16))))
  ∧ (bitAt cq 31 = false → exec (.cqDoorbell fn r x) s = .next s)
  ∧ (let k := s.sq fn r
     let m := min 32 ((k.tail + ringSize sq - k.head) % ringSize sq)
     on → bitAt sq 31 = true → s.fetches fn = true → 0 < m → s.waitingOf fn < 256 →
      (exec (.descriptorFetch fn r true) s = .next (((s.takeDescs fn r (s.hif fn (0x100 + 0x20 * r) / 4096 * 4096) k.head (ringSize sq) m).setSq
          fn r { k with head := (k.head + m) % ringSize sq }).ringGo fn r))
      ∧ ∃ t, exec (.descriptorFetch fn r false) s = .next t ∧ bitAt (t.reg (kSqCfg fn r)) 31 = false ∧ bitAt (t.reg (kSqStat fn r)) 30 = true)
  ∧ (go 0 → exec (.descNop fn r) s = fin (s0.endDesc d.id 0 0))
  ∧ (s.startable fn r = none → ∀ c ∈ [Instr.descNop fn r, .load (.ring fn r) pl, .unload (.ring fn r), .launch (.ring fn r), .copyLinear fn r e,
      .copyDescribed fn r e ok, .hostSignal fn r, .hostWait fn r], exec c s = .next s)
  ∧ (room → go 4 → d.fld 24 1 = 0 →
    let len := d.fld 48 4
    exec (.copyLinear fn r e) s = fin (s0.startHostCopy { d with st := .running } e (linearDesc (d.fld 32 8) len) (linearDesc (d.fld 40 8) len) none 0
      (if len < 32 ∨ 2 ^ 30 < len ∨ len % 32 ≠ 0 then stFormat else 0)))
  ∧ (room → go 4 → d.fld 24 1 = 1 → exec (.copyDescribed fn r e ok) s = fin (s0.startHostCopy { d with st := .running } e
      (descOf (s0.hostNat fn (d.fld 32 8) 32)) (descOf (s0.hostNat fn (d.fld 40 8) 32))
      (if d.fld 56 8 = 0 then none else some (repeatOf (s0.hostNat fn (d.fld 56 8) 32))) (d.fld 48 8) (if ok then 0 else stTrans)))
  ∧ (¬ room → exec (.copyLinear fn r e) s = .next s ∧ exec (.copyDescribed fn r e ok) s = .next s)
  ∧ (s.syncHeld fn = true → exec (.hostSignal fn r) s = .next s ∧ exec (.hostWait fn r) s = .next s)
  ∧ (s.syncHeld fn = false →
    (go 5 → (s0.descObj d = none → exec (.hostSignal fn r) s = fin (s0.endDesc d.id 2 2))
      ∧ ∀ o, s0.descObj d = some o → o.fid = s.reg bFAB → exec (.hostSignal fn r) s =
          (let a := s0.objAdd o.obj (signed 32 (d.fld 36 4)) 3 0; fin (a.1.endDesc d.id (if a.2 = 0 then 0 else 2) a.2)))
    ∧ (go 6 → (s0.descObj d = none → exec (.hostWait fn r) s = fin (s0.endDesc d.id 2 2))
      ∧ ∀ o, s0.descObj d = some o →
        (o.fid ≠ s.reg bFAB → exec (.hostWait fn r) s = fin (s0.endDesc d.id 2 4))
        ∧ (o.fid = s.reg bFAB → 255 ≤ s0.hostWaiters → exec (.hostWait fn r) s = fin (s0.endDesc d.id 2 3))
        ∧ (o.fid = s.reg bFAB → s0.hostWaiters < 255 → exec (.hostWait fn r) s =
            fin ((s0.modDesc d.id fun y => { y with obj := some o.obj }).objJoin o.obj (.host d.id) 3 0))))
  ∧ (s.desc n = none → exec (.hostWaitTimeout n) s = .next s)
  ∧ (∀ o, s.desc n = some d → d.type = 6 → d.fld 40 4 ≠ 0 → d.st = .running → d.asleep = false → d.obj = some o → exec (.hostWaitTimeout n) s =
      .next ((s.setObj o { s.obj o with waiters := (s.obj o).waiters.filter fun w => w != .host n }).endDesc n 4 1))
  ∧ (s.refOps.length ≤ n → exec (.fetchaddComplete n ok) s = .next s)
  ∧ (∀ y, s.refOps[n]? = some y →
    let s1 : State := { s with refOps := s.refOps.eraseIdx n }
    let a := s.hif y.fn 0x900 / 4096 * 4096 + 4 * y.entry
    let old := s.hostNat y.fn a 4
    let s3 := s1.hostWrite y.fn a (toBytes 4 ((old + 0xFFFFFFFF) % 2 ^ 32))
    (old ≠ 0 → exec (.fetchaddComplete n true) s = .next (s3.refDone y.desc))
    ∧ (old = 0 → exec (.fetchaddComplete n true) s = .next ((s3.refOutcome y.fn 29 y.entry 3 true).refDone y.desc))
    ∧ exec (.fetchaddComplete n false) s = .next ((s1.refOutcome y.fn 30 y.entry 2 true).refDone y.desc))
  ∧ (0 < (s.cq fn r).pend → bitAt cq 30 = false → exec (.coalesceTimeout fn r) s = .next (s.cqInterrupt fn r))
  ∧ ((s.cq fn r).pend = 0 ∨ bitAt cq 30 = true → exec (.coalesceTimeout fn r) s = .next s)
  ∧ (go 1 → q.loadable = true → exec (.load (.ring fn r) pl) s = fin (s0.loadHere { d with st := .running } (fn - 1) pl))
  ∧ ((s.part p).loadable = false ∨ (s.part p).anchor = s.reg bFAB → exec (.load (.member p slot bytes) pl) s = .next s)
  ∧ (go 2 → (q.slotBusy (d.fld 24 1) = true → exec (.unload (.ring fn r)) s = fin (s0.endDesc d.id 2 1))
    ∧ (q.slotBusy (d.fld 24 1) = false → q.image (d.fld 24 1) = none → exec (.unload (.ring fn r)) s = fin (s0.endDesc d.id 2 2))
    ∧ (q.slotBusy (d.fld 24 1) = false → q.image (d.fld 24 1) ≠ none → exec (.unload (.ring fn r)) s =
        fin (((s0.dropImage (fn - 1) (d.fld 24 1)).tellMembers (fn - 1) 13 (d.fld 24 1) 0).endDesc d.id 0 0)))
  ∧ ((s.part p).anchor ≠ s.reg bFAB → exec (.unload (.member p slot salt)) s = .next (s.dropImage p slot))
  ∧ (go 3 → (q.image (d.fld 24 1) = none → exec (.launch (.ring fn r)) s = fin (s0.endDesc d.id 2 1))
    ∧ (q.image (d.fld 24 1) ≠ none → exec (.launch (.ring fn r)) s = fin ((s0.modPart (fn - 1) fun q => { q with
        queue := q.queue ++ [⟨d.id, d.fld 24 1, d.fld 32 8, d.cookie, d.ctx, s.now⟩] }).launchNext (fn - 1))))
  ∧ ((s.part p).anchor = s.reg bFAB → exec (.launch (.member p slot salt)) s = .next s)
  ∧ (on → s.boot.pending = none → exec (.flr fn) s = .next (s.flr fn))
  ∧ (s.boot.pending ≠ none → exec (.flr fn) s = .next s ∧ exec .pcieReset s = .next s)
  ∧ (on → s.boot.pending = none → fn.val = 0 ∨ ((s.inst fn).tdi ≠ .locked ∧ (s.inst fn).tdi ≠ .run) → ∃ t, exec (.flr fn) s = .next t ∧ t.sq fn r = Sq.reset
      ∧ t.reg (kSqCfg fn r) = regReset (kSqCfg fn r) ∧ fn.val ∉ t.pcie.atomic
      ∧ ∀ y ∈ t.descs, y.fn = fn.val → y.dropped = true)
  ∧ (s.boot.pending = none → exec .pcieReset s = .next (s.flrs (List.range 33)))
  ∧ (s.boot.good = true → s.boot.recovery = false → exec .perstDeassert s = .next { s with pcie := { s.pcie with up := true } })
  ∧ (s.boot.good = false ∨ s.boot.recovery = true → exec .perstDeassert s = .next s)
  ∧ (∃ t, exec (.vfEnableChange vfs) s = .next t ∧ t.pcie.vfs = vfs.val ∧ t.boot = s.boot)

/-- Instances (R408, R416 to R425, R522). -/
def Obligations.Instances : Prop := ∀ (r : Fin 16) (v : Fin 33) (x : Fin 256) (w : W32) (ok : Bool) (d : HostDesc) (s0 s : State),
  let go (m : Nat) : Prop := RingStarts s 0 r 8 d s0 ∧ d.mode = m
  let i := s.inst d.target
  let fin (t : State) : Out := .next (t.ringGo 0 r)
  let done_ (c : Nat) : Out := fin (s0.quiesceDone d.id c 0)
  let mg (cmd : Nat) : Prop := MgmtStarts s r cmd d s0
  let ends (status : Nat) : Out := fin (s0.mgmtEnd d.id status [])
  let n := d.arg0 % 64
  let j := s.inst v
  let c := j.req 0 2
  let asks (code : Nat) : Prop := s.mbOn v v = true ∧ c = code ∧ ∀ k < 128, reqReserved code k = true → j.req k 1 = 0
  let h := j.req 8 2
  let q := s.part (v - 1)
  (go 0 → (i.st = .absent → exec (.quiesceDrain r) s = done_ 1) ∧ (i.st = .quiesced → exec (.quiesceDrain r) s = done_ 0)
    ∧ (i.st ≠ .absent → i.st ≠ .quiesced → i.quiesce.isSome = true → exec (.quiesceDrain r) s = done_ 4)
    ∧ (i.st ≠ .absent → i.st ≠ .quiesced → i.quiesce = none → exec (.quiesceDrain r) s = fin (s0.quiesceStart d.target false d.id)))
  ∧ (go 1 → (i.st = .absent → exec (.quiesceAbort r) s = done_ 1) ∧ (i.st = .quiesced → exec (.quiesceAbort r) s = done_ 0)
    ∧ (i.st ≠ .absent → i.st ≠ .quiesced → s.aborting d.target = true → exec (.quiesceAbort r) s = done_ 4)
    ∧ (i.st ≠ .absent → i.st ≠ .quiesced → s.aborting d.target = false →
      let s1 := (s0.drainOver d.target 5).quiesceStart d.target true d.id
      exec (.quiesceAbort r) s = fin (((((s1.removeDescs (s1.descs.filter fun y => y.fn == d.target)).1).tdiLeave d.target).abortLaunch
        (d.target - 1)).quiesceEnd d.target)))
  ∧ (go 2 → s.aborting d.target = false → (i.st = .absent → exec (.quiesceResume r) s = done_ 1) ∧ (i.st = .ready → exec (.quiesceResume r) s = done_ 2)
    ∧ (i.st = .quiescing ∨ i.st = .quiesced → exec (.quiesceResume r) s = fin (((((s0.drainOver d.target 6).modInst d.target fun k =>
        { k with st := .ready, quiesceMode := 0 }).mbEvent (d.target - 1) 0x0A 2)).quiesceDone d.id 0 0)))
  ∧ (j.quiesce = none → exec (.quiesceDrainEnd v) s = .next s ∧ exec (.quiesceTimeout v) s = .next s)
  ∧ (∀ z, v.val ≠ 0 → j.quiesce = some z → (s.drainedInst v = false → exec (.quiesceDrainEnd v) s = .next s)
    ∧ (s.drainedInst v = true → z.desc = none → exec (.quiesceDrainEnd v) s = .next (s.modInst v fun k => { k with st := .quiesced, quiesce := none }))
    ∧ (s.drainedInst v = true → ∀ y, z.desc = some y → exec (.quiesceDrainEnd v) s =
        .next ((s.modInst v fun k => { k with st := .quiesced, quiesce := none }).quiesceDone y 0 z.count))
    ∧ (s.drainedInst v = false → z.abort = false → ∀ y u, z.desc = some y → s.desc y = some u → u.fld 28 4 ≠ 0 →
        exec (.quiesceTimeout v) s = .next (s.drainOver v 3)))
  ∧ (mg 0x100 → (n = 0 ∨ 32 < n → exec (.instCreate r) s = ends 4)
    ∧ (1 ≤ n → n ≤ 32 → s.pcie.vfs < n → exec (.instCreate r) s = ends 1)
    ∧ (1 ≤ n → n ≤ 32 → n ≤ s.pcie.vfs → (s.inst n).st ≠ .absent → exec (.instCreate r) s = ends 2)
    ∧ (1 ≤ n → n ≤ 32 → n ≤ s.pcie.vfs → (s.inst n).st = .absent → exec (.instCreate r) s = fin (((((s0.clearInst n .ready).setReg (kRefCfg n) 0xA).setReg
        (hifKey n (bHIF + 0x900)) 0).setReg (kFnStatus n) 1).mgmtEnd d.id 0 [])))
  ∧ (mg 0x101 → exec (.instRemove r) s = fin (s0.instClear { d with st := .running } .absent))
  ∧ (mg 0x101 → 1 ≤ n → n ≤ 32 → (s.inst n).st ≠ .quiesced → exec (.instRemove r) s = ends 3)
  ∧ (mg 0x102 → exec (.instReset r) s = fin (s0.instClear { d with st := .running } .ready))
  ∧ (mg 0x103 → (n = 0 ∨ 32 < n → exec (.instStatus r) s = ends 4)
    ∧ (1 ≤ n → n ≤ 32 → ∃ bs, bs.length = 16 ∧ bs.take 1 = toBytes 1 (s.inst n).st.code ∧ exec (.instStatus r) s = fin (s0.mgmtEnd d.id 0 bs)))
  ∧ (s.mbOn v v = true → (j.toMgr = true → exec (.mbTomgrDb v) s = .next (s.modInst v fun k => { k with mgrOvr := true }))
    ∧ (j.toMgr = false → exec (.mbTomgrDb v) s = .next ((s.modInst v fun k => { k with toMgr := true }).msix 0 (31 + v)))
    ∧ (j.toInst = true → exec (.mbToinstAck v) s = .next ((s.modInst v fun k => { k with toInst := false }).msix 0 (31 + v)))
    ∧ (96 ≤ x.val % 128 → exec (.mbEvtHead v x) s = .next s)
    ∧ (x.val % 128 < 96 → j.held = [] → exec (.mbEvtHead v x) s =
        .next (s.setInst v { j with head := x.val % 128, headWrap := bitAt x 7 })))
  ∧ (s.mbOn v v = false → ∀ y ∈ [Instr.mbTomgrDb v, .mbToinstAck v, .mbEvtHead v x, .ctxCreate v, .ctxDestroy v, .ctxReset v, .catalogueRead v ok, .info v],
      exec y s = .next s)
  ∧ (s.mbOn 0 v = true → (j.toInst = true → exec (.mbToinstDb v) s = .next (s.modInst v fun k => { k with instOvr := true }))
    ∧ (j.toInst = false → exec (.mbToinstDb v) s = .next ((s.modInst v fun k => { k with toInst := true }).msix v 0))
    ∧ (j.toMgr = true → exec (.mbTomgrAck v) s = .next ((s.modInst v fun k => { k with toMgr := false }).msix v 0)))
  ∧ (s.mbOn 0 v = false → exec (.mbToinstDb v) s = .next s ∧ exec (.mbTomgrAck v) s = .next s)
  ∧ (s.mbOn v v = true → c = 0 ∨ 5 < c → ∀ y ∈ [Instr.ctxCreate v, .ctxDestroy v, .ctxReset v, .catalogueRead v ok, .info v],
      exec y s = .next (s.mbReply v 1 []))
  ∧ (asks 1 → (∀ k < 256, k ∈ j.ctxs) → exec (.ctxCreate v) s = .next (s.mbReply v 6 []))
  ∧ (asks 1 → ∀ k < 256, k ∉ j.ctxs → (∀ m < k, m ∈ j.ctxs) →
      exec (.ctxCreate v) s = .next ((s.modInst v fun y => { y with ctxs := y.ctxs ++ [k] }).mbReply v 0 (toBytes 2 k)))
  ∧ (asks 2 → (h ∉ j.ctxs → exec (.ctxDestroy v) s = .next (s.mbReply v 2 []))
    ∧ (h ∈ j.ctxs → (∃ y ∈ s.descs, y.fn = v ∧ y.ctx = h) → exec (.ctxDestroy v) s = .next (s.mbReply v 3 []))
    ∧ (h ∈ j.ctxs → (∀ y ∈ s.descs, y.fn = v → y.ctx ≠ h) →
      exec (.ctxDestroy v) s = .next ((s.modInst v fun y => { y with ctxs := y.ctxs.filter fun z => z != h }).mbReply v 0 [])))
  ∧ (asks 3 → (h ∉ j.ctxs → exec (.ctxReset v) s = .next (s.mbReply v 2 []))
    ∧ (h ∈ j.ctxs → s.boot.pending ≠ none → exec (.ctxReset v) s = .next s)
    ∧ (h ∈ j.ctxs → s.boot.pending = none → q.rst.isSome = true → exec (.ctxReset v) s = .next (s.modPart (v - 1) fun q => { q with ctxAsk := true }))
    ∧ (h ∈ j.ctxs → s.boot.pending = none → q.rst = none →
        exec (.ctxReset v) s = .next ((s.ctxReset v h 1).1.mbReply v 0 (toBytes 4 (s.ctxReset v h 1).2))))
  ∧ (asks 4 → (q.catalogued = false → exec (.catalogueRead v ok) s = .next (s.mbReply v 4 []))
    ∧ (q.catalogued = true → ok = false ∨ s.hostShut v = true → exec (.catalogueRead v ok) s = .next (s.mbReply v 5 []))
    ∧ (q.catalogued = true → ok = true → s.hostShut v = false → exec (.catalogueRead v ok) s =
        .next ((s.hostWrite v (j.req 8 8) (q.catalogue.take (j.req 16 4))).mbReply v 0
          (toBytes 4 q.catalogue.length ++ toBytes 4 0 ++ toBytes 8 q.epoch))))
  ∧ (asks 5 → ∃ bs, exec (.info v) s = .next (s.mbReply v 0 bs) ∧ bs.length = 18 ∧ bs.take 1 = toBytes 1 (v - 1) ∧ bs.drop 16 = toBytes 2 q.anchor)
  ∧ (let f := bits w.toNat 21 16
     (s.boot.ready = false → exec (.errCtxReset w) s = .next s)
     ∧ (s.boot.ready = true → f = 0 ∨ 32 < f ∨ w.toNat % 65536 ∉ (s.inst f).ctxs → exec (.errCtxReset w) s = .next (s.setReg kCtxStat 1))
     ∧ (s.boot.ready = true → 1 ≤ f → f ≤ 32 → w.toNat % 65536 ∈ (s.inst f).ctxs → s.boot.pending ≠ none → exec (.errCtxReset w) s = .next s)
     ∧ (s.boot.ready = true → 1 ≤ f → f ≤ 32 → w.toNat % 65536 ∈ (s.inst f).ctxs → s.boot.pending = none → (s.part (f - 1)).rst = none →
        exec (.errCtxReset w) s = .next ((s.ctxReset f (w.toNat % 65536) 2).1.setReg kCtxStat 0)))

/-- Sideband management (R398, R402 to R405, R579). The codes of the control messages are PRESUMED (log 37). -/
def Obligations.SidebandManagement : Prop := ∀ (bus : Fin 2) (op : Fin 4) (eid type sel seq len : Fin 256) (session : Option (Fin 65536))
    (head bytes : List Byte) (total off : Nat) (arg : W32) (got : Option (List Byte)) (r : Fin 16) (d : HostDesc) (s0 s : State),
  let on := s.mctpOn bus = true
  let o := ofBytes (head.take 1)
  let reply (st : Nat) : Out := .next (s.stolReply 3 seq st [])
  let bind := exec (.mctpBind bus session seq head total off bytes) s
  (¬ on → ∀ c ∈ [Instr.setEndpointId bus op eid, .getEndpointId bus, .getEndpointUuid bus, .getMctpVersionSupport bus type, .getMessageTypeSupport bus,
      .getVdmSupport bus sel, .mctpBind bus session seq head total off bytes, .eventAck bus seq, .mctpCmisRead bus seq arg len got], exec c s = .next s)
  ∧ (on →
    (2 ≤ op.val ∨ eid.val = 0 ∨ eid.val = 255 → exec (.setEndpointId bus op eid) s = .next (s.ctlReply 1 2 []))
    ∧ (op.val < 2 → eid.val ≠ 0 → eid.val ≠ 255 → ∃ t, exec (.setEndpointId bus op eid) s = .next t ∧ t.eid = eid.val ∧ t.reg kMctpEid = eid.val
        ∧ t.out = s.out ++ [.mctp [0, 1, 0, 0, BitVec.ofNat 8 eid, 0]] ∧ t = { s with eid := t.eid, regs := t.regs, out := t.out })
    ∧ exec (.getEndpointId bus) s = .next (s.ctlReply 2 0 [BitVec.ofNat 8 s.eid, 0, 0])
    ∧ exec (.getEndpointUuid bus) s = .next (s.ctlReply 3 0 (toBytes 16 Config.uuid.toNat))
    ∧ (type.val ∈ [0xFF, 0, 1, 5, 6, 0x7E] → exec (.getMctpVersionSupport bus type) s = .next (s.ctlReply 4 0 (Config.mctpVersions type)))
    ∧ (type.val ∉ [0xFF, 0, 1, 5, 6, 0x7E] → exec (.getMctpVersionSupport bus type) s = .next (s.ctlReply 4 0x80 []))
    ∧ exec (.getMessageTypeSupport bus) s = .next (s.ctlReply 5 0 [4, 1, 5, 6, 0x7E])
    ∧ (sel.val = 0 → exec (.getVdmSupport bus sel) s = .next (s.ctlReply 6 0 [0xFF, 0, 0xC7, 0xA5, 0, 0]))
    ∧ (sel.val ≠ 0 → exec (.getVdmSupport bus sel) s = .next (s.ctlReply 6 2 []))
    ∧ (s.boot.recovery = true → ∀ c ∈ [Instr.mctpBind bus session seq head total off bytes, .eventAck bus seq, .mctpCmisRead bus seq arg len got],
        exec c s = .next s)
    ∧ (s.boot.recovery = false → s.mayWrite session = false → bind = reply 1)
    ∧ (s.boot.recovery = false → s.mayWrite session = true →
      (o = 0 ∨ 5 < o ∨ head.length ≠ 24 ∨ 4000 < bytes.length ∨ total < off + bytes.length → bind = reply 2)
      ∧ (1 ≤ o → o ≤ 5 → head.length = 24 → off + bytes.length ≤ total → s.mcBind = none →
        let b : McBind := ⟨head, o, ofBytes ((head.drop 4).take 3), total, tblSetRun (fun _ => 0) [] off bytes,
          tblSetRun (fun _ => false) [] off (List.replicate bytes.length true), seq⟩
        (bytes.length ≤ 4000 → off = 0 → bytes.length = total → bind = .next { s with mcBind := none, mcWait := s.mcWait ++ [b] })
        ∧ (bytes.length ≤ 4000 → bytes.length < total → bind = .next ({ s with mcBind := some b }.stolReply 3 seq 0 []))))
    ∧ (s.boot.recovery = false → exec (.eventAck bus seq) s = .next (let s1 : State := { s with events := s.events.filter fun e => e.seq != seq.val }; s1.sendEvents s1.eventsWait))
    ∧ (s.boot.recovery = false → exec (.mctpCmisRead bus seq arg len got) s =
        .next (s.stolReply 6 seq (s.cmis arg.toNat len got).1 (s.cmis arg.toNat len got).2)))
  ∧ (∀ e ∈ s.events, e.seq = seq.val → (∀ x ∈ s.events, x.seq = seq.val → x = e) → s.fmValid = true → exec (.eventRepeat seq) s = .next (s.emit (.event e)))
  ∧ ((∀ e ∈ s.events, e.seq ≠ seq.val) ∨ s.fmValid = false → exec (.eventRepeat seq) s = .next s)
  ∧ (MgmtStarts s r 1 d s0 → exec (.cmisRead r got) s =
      .next ((s0.mgmtEnd d.id (s.cmis d.arg0 (d.fld 56 4) got).1 (s.cmis d.arg0 (d.fld 56 4) got).2).ringGo 0 r))
  ∧ (let n := len.val
     let c := bits arg.toNat 31 24
     (n = 0 ∨ 128 < n ∨ 256 < arg.toNat % 256 + n ∨ 24 ≤ c → (s.cmis arg.toNat n got) = (3, []))
     ∧ (1 ≤ n → n ≤ 128 → arg.toNat % 256 + n ≤ 256 → c < 24 →
       ((s.cage c).pow ≠ .on → s.cmis arg.toNat n got = (1, [])) ∧ ((s.cage c).pow = .on → got = none → s.cmis arg.toNat n got = (2, []))
       ∧ (∀ bs, (s.cage c).pow = .on → got = some bs → n ≤ bs.length → s.cmis arg.toNat n got = (0, bs.take n))))
  ∧ exec .smbClkLowTimeout s = .next s

/-- SPDM (R475 to R480). Message codes PRESUMED (log 37). -/
def Obligations.SpdmRequests : Prop := ∀ (c : Fin 2) (slot : Fin 8) (off len id n : Fin 65536) (k : Fin 256) (nonce : Fin (2 ^ 256)) (w : W32)
    (flag : Bool) (bs : List Byte) (s : State),
  let on := s.spdmOn c = true
  let st := (s.conn c).stage
  let chain := s.spdmChain
  let err (code : Nat) : Out := .next (s.spdmError c code)
  let vend (code status : Nat) : Out := .next (s.vendReply c code status [])
  let up := s.drbgUp = true
  let setUp := on ∧ 3 ≤ st
  let late : List Instr := [.getDigests c, .getCertificate c slot off len, .challenge c nonce, .getMeasurements c k flag, .keyExchange c flag, .finish c id flag,
      .heartbeat c id, .keyUpdate c id, .endSession c id, .getMlChain c w len, .getProvenance c w nonce, .getPqSig c]
  (¬ on → ∀ i ∈ late ++ [Instr.getVersion c, .getCapabilities c, .negotiateAlgorithms c flag, .chunkSend c flag bs, .chunkGet c n], exec i s = .next s)
  ∧ (on → st < 3 → ∀ i ∈ late, exec i s = err 4)
  ∧ (on → (∃ t, exec (.getVersion c) s = .next t ∧ (t.conn c).stage = 1 ∧ (t.conn c).signed = none ∧ t = { s with spdm := t.spdm, out := t.out })
    ∧ (1 ≤ st → ∃ t, exec (.getCapabilities c) s = .next t ∧ (t.conn c).stage = max 2 st ∧ t = { s with spdm := t.spdm, out := t.out })
    ∧ (st < 1 → exec (.getCapabilities c) s = err 4)
    ∧ (2 ≤ st → flag = true → ∃ t, exec (.negotiateAlgorithms c flag) s = .next t ∧ (t.conn c).stage = 3 ∧ t = { s with spdm := t.spdm, out := t.out })
    ∧ (2 ≤ st → flag = false → exec (.negotiateAlgorithms c flag) s = err 1)
    ∧ (st < 2 → ∀ i ∈ [Instr.negotiateAlgorithms c flag, .chunkSend c flag bs, .chunkGet c n], exec i s = err 4)
    ∧ (2 ≤ st → ∃ t, exec (.chunkSend c flag bs) s = .next t ∧ (t.conn c).inBytes = if flag then [] else (s.conn c).inBytes ++ bs)
    ∧ (2 ≤ st → (s.conn c).outBytes = [] → exec (.chunkGet c n) s = err 4)
    ∧ (2 ≤ st → (s.conn c).outBytes ≠ [] → exec (.chunkGet c n) s = .next ((s.modConn c fun x => { x with
        outBytes := (s.conn c).outBytes.drop n }).spdmReply c 0x86 ((s.conn c).outBytes.take n))))
  ∧ (setUp →
    (s.cus.certs = true → exec (.getDigests c) s = .next (s.spdmReply c 0x01 (toBytes 1 1 ++ toBytes 48 (Config.sha384 chain).toNat)))
    ∧ (s.cus.certs = false → s.cus.es ≠ .failed → exec (.getDigests c) s = .next s)
    ∧ (s.cus.certs = false → s.cus.es = .failed → exec (.getDigests c) s = err 5)
    ∧ (slot.val ≠ 0 ∨ chain.length < off.val → exec (.getCertificate c slot off len) s = err 1)
    ∧ (slot.val = 0 → off.val ≤ chain.length → s.cus.certs = true →
        exec (.getCertificate c slot off len) s = .next (s.spdmReply c 0x02 ((chain.drop off).take len)))
    ∧ (up → exec (.challenge c nonce) s = .next (s.spdmSigned c 0x03
        (toBytes 32 nonce ++ toBytes 48 (Config.sha384 chain).toNat ++ toBytes 32 (Config.free s.freeCtr))))
    ∧ (s.cus.es = .failed → exec (.challenge c nonce) s = err 5)
    ∧ (¬ up → s.cus.es ≠ .failed → exec (.challenge c nonce) s = .next s)
    ∧ (5 < k.val → k.val ≠ 0xFF → exec (.getMeasurements c k flag) s = err 1)
    ∧ (exec (.getMeasurements c 0 false) s = .next (s.spdmReply c 0x60 [5]))
    ∧ (1 ≤ k.val → k.val ≤ 5 → exec (.getMeasurements c k false) s = .next (s.spdmReply c 0x60 (s.measurement k)))
    ∧ (1 ≤ k.val → k.val ≤ 5 → up → exec (.getMeasurements c k true) s = .next (s.spdmSigned c 0x60 (s.measurement k)))
    ∧ (32 ≤ s.sessions.length → exec (.keyExchange c flag) s = err 0x0A)
    ∧ (s.sessions.length < 32 → up → ∃ t, exec (.keyExchange c flag) s = .next t ∧ t.sessions = s.sessions ++ [⟨s.freeSession, c, false, flag, 0, none, s.keyAgreed.2⟩]
        ∧ (t.conn c).signed.isSome = true)
    ∧ (s.session c id = none → exec (.finish c id flag) s = err 4 ∧ ∀ i ∈ [Instr.heartbeat c id, .keyUpdate c id, .endSession c id], exec i s = err 2)
    ∧ (∀ x, s.session c id = some x →
      (x.up = true → exec (.finish c id flag) s = err 4
        ∧ exec (.heartbeat c id) s = .next (s.spdmReply c 0x68 [])
        ∧ exec (.keyUpdate c id) s = .next ((s.modSession id fun y => { y with gen := y.gen + 1 }).spdmReply c 0x69 [])
        ∧ exec (.endSession c id) s = .next ((s.endSession id).spdmReply c 0x6C []))
      ∧ (x.up = false → exec (.finish c id true) s = .next ((s.modSession id fun y => { y with up := true }).spdmReply c 0x65 [])
        ∧ exec (.finish c id false) s = .next ((s.endSession id).spdmError c 6)
        ∧ ∀ i ∈ [Instr.heartbeat c id, .keyUpdate c id, .endSession c id], exec i s = err 2))
    ∧ (let ml := s.certChain 0
       (s.cus.certs = false → exec (.getMlChain c w len) s = vend 1 9)
       ∧ (s.cus.certs = true → exec (.getMlChain c w len) s =
           if ml.length < w.toNat then vend 1 0x0B else .next (s.vendReply c 1 0 ((ml.drop w.toNat).take len))))
    ∧ (let rep (p : Option Nat) : Out := .next ((s.drbg 2).draw.draw.vendReply c 2 0 (s.provenance p nonce ++
          s.aliasSign 0 s.freeCtr (s.provenance p nonce) ++ s.aliasSign 1 (s.freeCtr + 1) (s.provenance p nonce)))
       (w.toNat = 0 → up → exec (.getProvenance c w nonce) s = rep none)
       ∧ (w.toNat ≠ 0 → s.partOf w.toNat = none → exec (.getProvenance c w nonce) s = vend 2 2)
       ∧ (∀ p, w.toNat ≠ 0 → s.partOf w.toNat = some p → up → exec (.getProvenance c w nonce) s = rep (some p))
       ∧ (w.toNat = 0 → ¬ up → exec (.getProvenance c w nonce) s = vend 2 9))
    ∧ ((s.conn c).signed = none → exec (.getPqSig c) s = vend 3 0x0B)
    ∧ ((s.conn c).signed ≠ none → ¬ up → exec (.getPqSig c) s = vend 3 9)
    ∧ ((s.conn c).signed = some bs → up → exec (.getPqSig c) s = .next ((s.drbg 1).draw.vendReply c 3 0 (s.aliasSign 1 s.freeCtr bs))))
  ∧ (∃ t, exec (.heartbeatMissed id) s = .next t ∧ (∀ x ∈ t.sessions, x.id ≠ id.val)
      ∧ (∀ x ∈ s.sessions, x.id ≠ id.val → x ∈ t.sessions) ∧ t.out = s.out ∧ t.cus = s.cus)

/-- Tenants and TDISP (R479 to R487). Message codes PRESUMED (log 37). -/
def Obligations.TenantsAndTdisp : Prop := ∀ (c : Fin 2) (id : Fin 65536) (h : Fin 256) (comp chunks last : W32) (va label : W64) (hash : Fin (2 ^ 384))
    (nonce : Fin (2 ^ 256)) (bs : List Byte) (secrets : List (List Byte)) (v : FnId) (p : PartId) (s : State),
  let setUp := s.spdmOn c = true ∧ 3 ≤ (s.conn c).stage
  let x := s.session c id
  let vend (code status : Nat) : Out := .next (s.vendReply c code status [])
  let fifteen := (s.sessions.filter fun y => y.tenant.isSome).length < 16
  let up := s.drbgUp = true
  (setUp → x = none → exec (.openTenant c id comp) s = vend 4 4)
  ∧ (∀ y, setUp → x = some y →
    (y.up = false ∨ y.hybrid = false → exec (.openTenant c id comp) s = vend 4 4)
    ∧ (y.up = true → y.hybrid = true → s.partOf comp.toNat = none → exec (.openTenant c id comp) s = vend 4 2)
    ∧ (∀ r, y.up = true → y.hybrid = true → s.partOf comp.toNat = some r →
      (flagConf (s.part r).flags = false ∨ (s.part r).st ≠ .sealed → exec (.openTenant c id comp) s = vend 4 3)
      ∧ (flagConf (s.part r).flags = true → (s.part r).st = .sealed → y.tenant ≠ none ∨ ¬ fifteen → exec (.openTenant c id comp) s = vend 4 5)
      ∧ (flagConf (s.part r).flags = true → (s.part r).st = .sealed → y.tenant = none → fifteen → exec (.openTenant c id comp) s =
          .next ((s.modSession id fun z => { z with tenant := some ⟨r, y.tsk comp.toNat, []⟩ }).vendReply c 4 0 []))))
  ∧ (setUp → (∀ y, x = some y → y.up = false ∨ y.tenant = none) → exec (.deliverKey c id h bs) s = vend 5 0x0A ∧ exec (.dropKey c id h) s = vend 6 0x0A
      ∧ exec (.unsealCmd c id h va hash) s = vend 7 0x0A ∧ exec (.sealCmd c id h va chunks last label secrets) s = vend 8 0x0A
      ∧ exec (.closeTenant c id) s = vend 9 0x0A)
  ∧ (∀ y t, setUp → x = some y → y.up = true → y.tenant = some t →
    (3 < h.val ∨ bs.length ≠ 40 → exec (.deliverKey c id h bs) s = vend 5 0x0B)
    ∧ (h.val ≤ 3 → bs.length = 40 → exec (.deliverKey c id h bs) s = match Config.keyUnwrap t.tsk bs with
        | some k => .next ((s.setTenantKey id h (some k)).vendReply c 5 0 (toBytes 48 (Config.sha384 (toBytes 32 k)).toNat))
        | none => vend 5 6)
    ∧ (3 < h.val → exec (.dropKey c id h) s = vend 6 0x0B ∧ exec (.unsealCmd c id h va hash) s = vend 7 0x0B
        ∧ exec (.sealCmd c id h va chunks last label secrets) s = vend 8 0x0B)
    ∧ (h.val ≤ 3 → t.key h = none → exec (.dropKey c id h) s = vend 6 6 ∧ exec (.unsealCmd c id h va hash) s = vend 7 6
        ∧ (secrets = [] → exec (.sealCmd c id h va chunks last label secrets) s = vend 8 6))
    ∧ (∀ k, h.val ≤ 3 → t.key h = some k → exec (.dropKey c id h) s = .next ((s.setTenantKey id h none).vendReply c 6 0 [])
      ∧ (hash.val ∉ (s.part t.part).consents → 64 ≤ (s.part t.part).consents.length → exec (.unsealCmd c id h va hash) s = vend 7 5)
      ∧ (hash.val ∈ (s.part t.part).consents ∨ (s.part t.part).consents.length < 64 →
        let a := va.toNat
        let z := s.extentXlt t.part a (pagesOf a 64)
        let r := z.1.cusRead t.part a 64
        let f (o n : Nat) := ofBytes ((r.2.2.drop o).take n)
        let good := f 0 4 = 0x4C414553 ∧ f 4 1 = 1 ∧ f 5 3 = 0 ∧ f 32 32 = 0 ∧ extFits (f 8 4) (f 12 4) = true
        let y := r.1.extentXlt t.part a (pagesOf a (extSize (f 8 4) (f 12 4)))
        (z.2 = false ∨ r.2.1 ≠ 0 → exec (.unsealCmd c id h va hash) s = .next (r.1.vendReply c 7 8 []))
        ∧ (z.2 = true → r.2.1 = 0 → ¬ good → exec (.unsealCmd c id h va hash) s = .next (r.1.vendReply c 7 7 []))
        ∧ (z.2 = true → r.2.1 = 0 → good → y.2 = false → exec (.unsealCmd c id h va hash) s = .next (y.1.vendReply c 7 7 []))
        ∧ (z.2 = true → r.2.1 = 0 → good → y.2 = true →
          let u := y.1.unsealChunks t.part a k r.2.2 (f 8 4) (f 12 4) 0 (f 8 4)
          let s1 := (u.1.cusWrite t.part a (toBytes 4 0)).modPart t.part fun q =>
            { q with consents := if q.consents.contains hash.val then q.consents else q.consents ++ [hash.val] }
          exec (.unsealCmd c id h va hash) s =
            .next (s1.draw.vendReply c 7 0 (toBytes 4 u.2.1 ++ toBytes 4 (u.2.2.getD (Config.free s1.freeCtr))))))
      ∧ (secrets = [] → extFits chunks.toNat last.toNat = false → exec (.sealCmd c id h va chunks last label secrets) s = vend 8 7)
      ∧ (secrets = [] → extFits chunks.toNat last.toNat = true → ¬ up → exec (.sealCmd c id h va chunks last label secrets) s = vend 8 9)
      ∧ (secrets = [] → extFits chunks.toNat last.toNat = true → up →
        let z := s.extentXlt t.part va.toNat (pagesOf va.toNat (extSize chunks.toNat last.toNat))
        let done : SealReq := ⟨va.toNat, chunks.toNat, last.toNat, label.toNat, (Config.sha384 (toBytes 32 k)).toNat, [], z.1.now, true⟩
        (z.2 = false → exec (.sealCmd c id h va chunks last label secrets) s = .next (z.1.vendReply c 8 8 []))
        ∧ (z.2 = true → (z.1.part t.part).consents = [] → tblGet (fun _ => []) z.1.seals t.part = [] →
          exec (.sealCmd c id h va chunks last label secrets) s =
            (let u := z.1.performSeal t.part va.toNat k chunks.toNat last.toNat label.toNat
             .next ({ u with seals := tblSet (fun _ => []) u.seals t.part [done] }.vendReply c 8 0 [])))))
    ∧ exec (.closeTenant c id) s = .next ((s.closeTenant id).vendReply c 9 0 []))
  ∧ (exec (.sealConsentExpiry p) s = .next { s with seals := tblSet (fun _ => []) s.seals p (liveSeals s.now (tblGet (fun _ => []) s.seals p)) })
  ∧ (let reqs : List Instr := [.getTdispVersion id v, .getTdispCapabilities id v, .lockInterfaceRequest id v, .getDeviceInterfaceReport id v,
       .getDeviceInterfaceState id v, .startInterfaceRequest id v nonce, .stopInterfaceRequest id v]
     let i := s.inst v
     let q := s.part (v - 1)
     let err (code : Nat) : Out := .next (s.tdispError v code)
     (s.session 0 id = none ∨ s.spdmOn 0 = false → ∀ r ∈ reqs, exec r s = .next s)
     ∧ (∀ y, s.session 0 id = some y → y.up = true → s.spdmOn 0 = true →
       (v.val = 0 ∨ s.pcie.vfs < v.val → ∀ r ∈ reqs, exec r s = err 0x101)
       ∧ (1 ≤ v.val → v.val ≤ s.pcie.vfs →
         exec (.getTdispVersion id v) s = .next (s.tdispReply v 1 (Config.standardReply 0x101))
         ∧ exec (.getTdispCapabilities id v) s = .next (s.tdispReply v 2 (Config.standardReply 0x102))
         ∧ exec (.getDeviceInterfaceState id v) s = .next (s.tdispReply v 5 (toBytes 1 i.tdi.code))
         ∧ exec (.stopInterfaceRequest id v) s = .next ((s.tdiOut v fun s => s.tdiTo v .unlocked).tdispReply v 7 [])
         ∧ (i.tdi = .locked ∨ i.tdi = .run → exec (.getDeviceInterfaceReport id v) s = .next (s.tdispReply v 4 (Config.standardReply 0x104
              ++ toBytes 1 (v - 1) ++ toBytes 4 q.comp ++ toBytes 8 q.epoch ++ catHash q.catalogue)))
         ∧ (i.tdi = .unlocked ∨ i.tdi = .error → exec (.getDeviceInterfaceReport id v) s = err 4)
         ∧ (i.tdi ≠ .unlocked ∨ i.st ≠ .ready ∨ q.st ≠ .sealed ∨ flagConf q.flags = false ∨ s.pcie.ide = false →
              exec (.lockInterfaceRequest id v) s = err 4)
         ∧ (i.tdi = .unlocked → i.st = .ready → q.st = .sealed → flagConf q.flags = true → s.pcie.ide = true → up →
              ∃ t, exec (.lockInterfaceRequest id v) s = .next t ∧ (t.inst v).tdi = .locked ∧ (t.inst v).nonce = Config.free s.freeCtr % 2 ^ 256)
         ∧ (i.tdi ≠ .locked → exec (.startInterfaceRequest id v nonce) s = err 4)
         ∧ (i.tdi = .locked → i.nonce ≠ nonce.val → exec (.startInterfaceRequest id v nonce) s = err 0x102)
         ∧ (i.tdi = .locked → i.nonce = nonce.val → exec (.startInterfaceRequest id v nonce) s =
              .next (((s.setInst v { i with tdi := .run, nonce := 0 }).cqGoAll v (List.range 16)).tdispReply v 6 [])))))

/-- The power controller (R491 to R508). -/
def Obligations.PowerController : Prop := ∀ (m : PeriodMeas) (k : ClusterId) (v : W32) (s : State),
  let c := s.clu k
  let cap := v.toNat % 128
  let old := s.reg kPwrCap
  let measured (t : State) : Prop := t.pwr.period = s.pwr.period + 1 ∧ t.pwr.input = m.watt ∧ t.pwr.energy = s.pwr.energy + m.watt
    ∧ t.hbm = s.hbm ∧ t.spad = s.spad ∧ t.cores = s.cores ∧ t.parts = s.parts
    ∧ ∀ j < 48, (t.clu j).power = nth 0 m.power j ∧ (t.clu j).temp = nth 0 m.temp j ∧ (t.clu j).energy = (s.clu j).energy + nth 0 m.power j
  (s.boot.run = true → ∃ t, exec (.controlPeriod m) s = .next t ∧ measured t ∧ t.pwr.backstop = false)
  ∧ (s.boot.run = false → exec (.controlPeriod m) s = .next s ∧ exec .backstopEntry s = .next s ∧ exec (.backstopPeriod m) s = .next s)
  ∧ (s.boot.run = true → s.pwr.backstop = true → ∃ t, exec (.backstopPeriod m) s = .next t ∧ measured t ∧ t.pwr.backstop = true)
  ∧ (s.pwr.backstop = false → exec (.backstopPeriod m) s = .next s)
  ∧ (s.pwr.backstop = true → exec .backstopEntry s = .next s)
  ∧ (s.boot.run = true → s.pwr.backstop = false →
    let s1 : State := { s with pwr := { s.pwr with backstop := true, backstopSeen := true } }
    (s.pwr.backstopSeen = true → exec .backstopEntry s = .next s1) ∧ (s.pwr.backstopSeen = false → exec .backstopEntry s = .next (s1.pwrEvent 0x20 5 0 0)))
  ∧ (c.goal < c.step → c.step ≠ 15 → exec (.voltageReached k) s = .next (s.setClu k { c with step := c.goal, volt := stepVolt c.goal }))
  ∧ (c.step ≤ c.goal ∨ c.step = 15 → exec (.voltageReached k) s = .next s)
  ∧ exec (.droopTrip k) s = .next (s.setClu k { c with droop := satAdd 0xFFFFFFFF c.droop 1 })
  ∧ (s.hostOn 0 = false → exec (.pwrCap false v) s = .next s)
  ∧ (s.hostOn 0 = true → bitAt old 31 = true → exec (.pwrCap false v) s = .next (s.pwrEvt 0x10))
  ∧ (s.hostOn 0 = true → bitAt old 31 = false → 40 ≤ cap → cap ≤ 104 → exec (.pwrCap false v) s = .next (s.setReg kPwrCap (cap + old / 2 ^ 31 * 2 ^ 31)))
  ∧ (40 ≤ cap → cap ≤ 104 → exec (.pwrCap true v) s = .next (s.setReg kPwrCap (cap + v.toNat / 2 ^ 31 * 2 ^ 31)))
  ∧ (cap < 40 ∨ 104 < cap → exec (.pwrCap true v) s = .next s ∧ ∃ t, exec (.pwrCap false v) s = .next t ∧ t.reg kPwrCap = s.reg kPwrCap)
  ∧ (bitAt v.toNat 0 = true → exec (.pwrSlackClear v) s = .next { s with slack := [] })
  ∧ (bitAt v.toNat 0 = false → exec (.pwrSlackClear v) s = .next s)

/-- The Ledger (R513 to R517) and the resets (R505, R521 to R529). -/
def Obligations.LedgerAndResets : Prop := ∀ (r : Fin 16) (mctp : Bool) (sensor : Fin 65536) (d : HostDesc) (s0 s : State),
  let run := s.boot.run = true
  let fin (t : State) : Out := .next (t.ringGo 0 r)
  let kept (t : State) : Prop := t.boot.run = false ∧ t.boot.good = false ∧ t.hbm = s.hbm ∧ t.poison = s.poison ∧ t.cus.slots = s.cus.slots
    ∧ t.fw.types = s.fw.types ∧ t.pending = s.pending ∧ t.out = s.out
  let warm (cause : Nat) (t : State) : Prop := kept t ∧ t.boot.warm = true ∧ t.boot.cause = cause
  let hard (t : State) : Prop := kept t ∧ t.boot.warm = false ∧ t.intake = [] ∧ t.lring.held = 0
  (s.intake = [] → exec .ledgerEvent s = .next s)
  ∧ (∀ e es, s.intake = e :: es → (∀ x ∈ s.lring.recs, ∀ y, x.2 = some y → y.takes e s.ledgerWindow = false) →
    ∃ t, exec .ledgerEvent s = .next t ∧ t.intake = es ∧ t.lring.at_ s.lring.next = some { e.record with
      seq := s.lring.seq, rolling := decide (4096 ≤ s.lring.held) } ∧ t.lring.held = min 4096 (s.lring.held + 1)
      ∧ t.lring.next = if s.lring.next + 1 < 4096 then s.lring.next + 1 else 3840)
  ∧ (∀ e es i y, s.intake = e :: es → (i, some y) ∈ s.lring.recs → y.takes e s.ledgerWindow = true →
      (∀ x ∈ s.lring.recs, ∀ z, x.2 = some z → z.takes e s.ledgerWindow = true → x = (i, some y)) →
      exec .ledgerEvent s = .next { s with intake := es, lring := s.lring.set i { y with count := satAdd 0xFFFFFFFF y.count 1, last := e.ts } })
  ∧ (MgmtStarts s r 0x300 d s0 →
    (d.fld 56 4 % 64 ≠ 0 ∨ 262144 < d.fld 56 4 → exec (.ledgerRead r) s = fin (s0.mgmtEnd d.id 1 []))
    ∧ (d.fld 56 4 % 64 = 0 → d.fld 56 4 ≤ 262144 → exec (.ledgerRead r) s =
        fin (s0.mgmtEnd d.id 0 ((List.range (d.fld 56 4 / 64)).flatMap fun i => s.lring.bytesAt (d.arg0 % 4096 + i)))))
  ∧ (MgmtStarts s r 0x301 d s0 → ∃ t, exec (.ledgerClear r) s = .next t ∧ t.lring.held = 1 ∧ t.lring.seq = (s.lring.seq + 1) % 2 ^ 32
      ∧ (t.lring.at_ 0).map (·.type) = some 0x0A05)
  ∧ (s.boot.pending ≠ none → exec .computePartReset s = .next s)
  ∧ (run → s.boot.pending = none → ∃ t, exec .computePartReset s = .next t ∧ t.cores = [] ∧ t.engines = [] ∧ t.buckets = [] ∧ t.l1 = []
      ∧ (∀ k, ∀ e ∈ t.l2of k, e.pinned = true) ∧ ∀ c < 768, ∀ off < 2 ^ 20, t.spadByte c off = 0)
  ∧ (s.boot.run = false → ∀ c ∈ [Instr.computePartReset, .moduleWarmReset mctp, .moduleHardReset mctp, .mgmtWatchdog], exec c s = .next s)
  ∧ (run → s.hostOn 0 = true → ∃ t, exec (.moduleWarmReset false) s = .next t ∧ warm 3 t ∧ t.lring = s.lring ∧ t.intake = s.intake)
  ∧ (run → s.boot.pending = none → ∃ t, exec (.moduleWarmReset true) s = .next t ∧ t.boot = { s.boot with pending := some 5 } ∧ t.cores = s.cores)
  ∧ (run → s.boot.pending ≠ none → exec (.moduleWarmReset true) s = .next s)
  ∧ (run → ∃ t, exec (.moduleHardReset true) s = .next t ∧ hard t ∧ t.boot.cause = 6)
  ∧ (run → s.hostOn 0 = true → ∃ t, exec (.moduleHardReset false) s = .next t ∧ hard t ∧ t.boot.cause = 4)
  ∧ (s.boot.pending = none → exec (.svcResetAck mctp) s = .next s ∧ exec .resetNoticeExpiry s = .next s)
  ∧ (∀ c, s.boot.pending = some c →
    (mctp = true ∨ s.hostOn 0 = false → exec (.svcResetAck mctp) s = .next s)
    ∧ (s.hostOn 0 = true → ∃ t, exec (.svcResetAck false) s = .next t ∧ warm c t ∧ t.lring = s.lring ∧ t.intake = s.intake)
    ∧ ∃ t, exec .resetNoticeExpiry s = .next t ∧ warm c t ∧ t.lring = s.lring ∧ t.intake = s.intake)
  ∧ (run → ∃ t, exec .mgmtWatchdog s = .next t ∧ warm 7 t ∧ t.lring = s.lring)
  ∧ (s.boot.good = true → ∃ t, exec (.thermalShutdown sensor) s = .next t ∧ hard t ∧ t.boot.shut = true ∧ t.boot.prior = some (sensor.val, s.panel.rtc))
  ∧ (s.boot.good = false → exec (.thermalShutdown sensor) s = .next s)

/-- Firmware images (R541 to R555). -/
def Obligations.FirmwareImages : Prop := ∀ (r : Fin 16) (ok sig payload tag : Bool) (es : List (Nat × Nat)) (sector : Fin 65536) (i : LinkId)
    (d : HostDesc) (x : FwXfer) (h : FwHdr) (a : FwAct) (s0 s : State),
  let fin (t : State) : Out := .next (t.ringGo 0 r)
  let t := d.arg0 % 256
  let n := d.fld 40 4
  let began : State := { s0 with fw := { s0.fw with xfer := some ⟨.desc d.id, t, n, s0.mgmtIn d, none⟩, progress := 0 } }
  let pay := (x.bytes.drop 8192).take h.payload
  (MgmtStarts s r 0x200 d s0 →
    (t = 0 ∨ 3 < t → s.xferStatus t = 2)
    ∧ (1 ≤ t → t ≤ 3 → s.fw.xfer.isSome = true ∨ s.fw.act.map (·.type) = some t → s.xferStatus t = 9)
    ∧ (s.xferStatus t ≠ 0 → exec (.fwStage r ok) s = fin ((s0.fwRecord 1 t (s.xferStatus t) FwHdr.none).mgmtEnd d.id (s.xferStatus t) []))
    ∧ (s.xferStatus t = 0 → ok = false → exec (.fwStage r ok) s = fin (began.endXfer 0x0F))
    ∧ (s.xferStatus t = 0 → ok = true → n < 8192 → exec (.fwStage r ok) s = fin (began.endXfer 1))
    ∧ (s.xferStatus t = 0 → ok = true → 8192 ≤ n → exec (.fwStage r ok) s = fin began))
  ∧ (s.fw.xfer = none → exec (.imageHeader sig) s = .next s ∧ exec (.imageLanded tag es) s = .next s)
  ∧ (s.fw.xfer = some x →
    (x.hdr.isSome = true ∨ x.bytes.length < 8192 → exec (.imageHeader sig) s = .next s)
    ∧ (x.hdr = none → 8192 ≤ x.bytes.length →
      let p := FwHdr.parse x.bytes
      let c := s.headerStatus x.type p sig
      (c ≠ 0 → exec (.imageHeader sig) s = .next (s.endXfer c))
      ∧ (c = 0 → s.boot.recovery = true → ∃ u, exec (.imageHeader sig) s = .next u ∧ u.fwType x.type = { s.fwType x.type with valid := false }
          ∧ u.fw.xfer = some { x with hdr := some p } ∧ u = { s with fw := u.fw })
      ∧ (c = 0 → s.boot.recovery = false → ∃ u, exec (.imageHeader sig) s = .next u ∧ (u.fwType x.type).stgSt = .landing
          ∧ (u.fwType x.type).copy = false ∧ (u.fwType x.type).act = (s.fwType x.type).act ∧ u.fw.xfer = some { x with hdr := some p }
          ∧ u = { s with fw := u.fw }))
    ∧ (x.hdr = some h → x.whole h = false → exec (.imageLanded tag es) s = .next s)
    ∧ (x.hdr = some h → x.whole h = true →
      (pay.length < h.payload ∨ (Config.sha384 pay).toNat ≠ h.digest ∨ tag = false → ∃ u, exec (.imageLanded tag es) s = .next u
          ∧ u.fw.xfer = none ∧ u.fw.lastStatus = 8 ∧ u.fw.types = s.fw.types)
      ∧ (h.payload ≤ pay.length → (Config.sha384 pay).toNat = h.digest → tag = true → ∃ u, exec (.imageLanded tag es) s = .next u
          ∧ u.fw.xfer = none ∧ u.fw.lastStatus = 0
          ∧ u.fwType x.type = if s.boot.recovery then { s.fwType x.type with act := h, valid := true, stg := FwHdr.none, stgSt := .empty, copy := false }
            else { s.fwType x.type with stg := h, stgSt := .staged, copy := true }))
    ∧ (x.hdr = some h → ∃ u, exec (.norEraseTimeout sector) s = .next u ∧ u.fw.norFail = true ∧ u.fw.xfer = none ∧ u.fw.lastStatus = 0x0B))
  ∧ (s.fw.xfer = none → ∃ u, exec (.norEraseTimeout sector) s = .next u ∧ u.fw = { s.fw with norFail := true })
  ∧ (MgmtStarts s r 0x202 d s0 → exec (.fwCancel r) s = fin ((s0.endXfer 0x10).mgmtEnd d.id 0 []))
  ∧ (MgmtStarts s r 0x201 d s0 →
    let link := bits d.arg0 15 8
    let c := s.actStatus t link sig payload
    (c = 0 → exec (.fwActivate r sig payload) s = fin (s0.startAct t link (some d.id) false))
    ∧ (c ≠ 0 → s.fw.act.isSome = true → exec (.fwActivate r sig payload) s = fin (s0.mgmtEnd d.id c []))
    ∧ (c ≠ 0 → s.fw.act = none → exec (.fwActivate r sig payload) s = fin (s0.endAct t c (some d.id))))
  ∧ (s.fw.act = none → ∀ c ∈ [Instr.mgmtImageReady, .mgmtReadyTimeout, .microcodeSwitch i, .microcodeReadyTimeout i], exec c s = .next s)
  ∧ (s.fw.act = some a → a.type = 2 →
    (a.thenLinks = false → exec .mgmtImageReady s = .next (((s.raiseFloor 2 (s.fwType 2).stg).modFwType 2 fun y =>
        { y with stgSt := .activated, run := (s.fwType 2).stg }).endAct 2 0 a.desc))
    ∧ (∃ u, exec .mgmtImageReady s = .next u ∧ (u.fwType 2).stgSt = .activated ∧ (u.fwType 2).run = (s.fwType 2).stg
        ∧ (u.fwType 2).floor = max (s.fwType 2).floor (s.fwType 2).stg.arb)
    ∧ exec .mgmtReadyTimeout s = .next ((s.modFwType 2 fun y => { y with stgSt := .failed, copy := false }).endAct 2 0x0E a.desc)
    ∧ exec (.microcodeSwitch i) s = .next s ∧ exec (.microcodeReadyTimeout i) s = .next s)
  ∧ (s.fw.act = some a → a.type = 3 → exec .mgmtImageReady s = .next s ∧ exec .mgmtReadyTimeout s = .next s
    ∧ (∀ ls, a.links = i.val :: ls → exec (.microcodeReadyTimeout i) s = .next (s.endAct 3 0x0E a.desc)
      ∧ ∃ u, exec (.microcodeSwitch i) s = .next u ∧ tblGet (fun _ => 0) u.fw.lnkVer i = (s.fwType 3).stg.version
        ∧ (ls = [] → u.fw.act = none ∧ (u.fwType 3).stgSt = .activated) ∧ (ls ≠ [] → u.fw.act = some { a with links := ls, some_ := true })
        ∧ (u.fwType 3).floor = if a.some_ then (s.fwType 3).floor else max (s.fwType 3).floor (s.fwType 3).stg.arb)
    ∧ (a.links.head? ≠ some i.val → exec (.microcodeSwitch i) s = .next s ∧ exec (.microcodeReadyTimeout i) s = .next s))

/-- The start and firmware update (R534, R544, R552 to R554, R572). PLDM and DFU codes PRESUMED (log 37). -/
def Obligations.StartAndUpdate : Prop := ∀ (m : StartMeas) (bus : Fin 2) (id : Fin 65536) (w : W32) (alt : Fin 4) (last first self sig payload : Bool)
    (bs : List Byte) (x : FwXfer) (s : State),
  let on := s.mctpOn bus = true
  let st := s.fw.pldm
  let answers (code : Nat) (b : List Byte) : Out := .next (s.pldm code b)
  let fit := s.boot.good = false ∧ s.boot.shut = false ∧ s.panel.dc = true ∧ s.panel.swap = .charged
  (¬ fit → exec (.powerGood m) s = .next s)
  ∧ (fit →
    let s1 := (s.copyPending m).failImages m fwTypes
    ((∀ t ∈ fwTypes, (s1.fwType t).valid = true) → ∃ u, exec (.powerGood m) s = .next u ∧ u.boot.run = true ∧ u.boot.ready = true ∧ u.boot.good = true
        ∧ u.cus.ready = true ∧ u.cus.es = .startup)
    ∧ ((∃ t ∈ fwTypes, (s1.fwType t).valid = false) → exec (.powerGood m) s = .next { s1 with boot := { s1.boot with good := true, recovery := true } }))
  ∧ (s.fw.dlAt = none ∨ s.boot.recovery = false → exec .recoveryExit s = .next s)
  ∧ (∀ t, s.fw.dlAt = some t → s.boot.recovery = true → s.fw.xfer = none → (∀ y ∈ fwTypes, (s.fwType y).valid = true) → t + 1000000000 ≤ s.now →
      ∃ u, exec .recoveryExit s = .next u ∧ u.boot.recovered = true ∧ u.boot.recovery = false ∧ u.boot.good = false)
  ∧ (¬ on → ∀ c ∈ [Instr.queryDeviceIdentifiers bus, .getFirmwareParameters bus, .requestUpdate bus w, .passComponentTable bus id last, .updateComponent bus id w,
      .activateFirmware bus self sig payload, .getStatus bus, .cancelUpdateComponent bus, .cancelUpdate bus], exec c s = .next s)
  ∧ (on →
    exec (.queryDeviceIdentifiers bus) s = answers 1 ([0] ++ toBytes 4 pldmIds.length ++ [3] ++ pldmIds)
    ∧ exec (.getFirmwareParameters bus) s = answers 2 ([0] ++ toBytes 2 3 ++ (s.pldmComponent 1 ++ s.pldmComponent 2 ++ s.pldmComponent 3))
    ∧ exec (.getStatus bus) s = answers 0x1B
        [0, BitVec.ofNat 8 st.code, BitVec.ofNat 8 s.fw.pldmPrev.code, 0, BitVec.ofNat 8 s.fw.dl, 0x65, 0, 0, 0, 0, 0]
    ∧ (s.fw.xfer.isSome = true ∨ st ≠ .idle → exec (.requestUpdate bus w) s = answers 0x10 [0x81])
    ∧ (s.fw.xfer = none → st = .idle → ∃ u, exec (.requestUpdate bus w) s = .next u ∧ u.fw.pldm = .learn ∧ u.fw.piece = min 2048 w.toNat
        ∧ u = { s with fw := u.fw, out := u.out })
    ∧ (st = .idle → exec (.passComponentTable bus id last) s = answers 0x13 [0x80] ∧ exec (.updateComponent bus id w) s = answers 0x14 [0x80]
        ∧ exec (.activateFirmware bus self sig payload) s = answers 0x1A [0x80] ∧ exec (.cancelUpdateComponent bus) s = answers 0x1C [0x80]
        ∧ exec (.cancelUpdate bus) s = answers 0x1D [0x80])
    ∧ (st ≠ .idle → st ≠ .learn → exec (.passComponentTable bus id last) s = answers 0x13 [0x84])
    ∧ (st ≠ .idle → st ≠ .ready → exec (.updateComponent bus id w) s = answers 0x14 [0x84] ∧ exec (.activateFirmware bus self sig payload) s = answers 0x1A [0x84])
    ∧ (st = .learn → ∃ u b, exec (.passComponentTable bus id last) s = .next (u.pldm 0x13 [0, b, 0]) ∧ u = (if last then s.pldmTo .ready else s)
        ∧ (1 ≤ id.val → id.val ≤ 3 → b = 0) ∧ (id.val = 0 ∨ 3 < id.val → b = 1))
    ∧ (st = .ready → s.xferStatus id ≠ 0 → exec (.updateComponent bus id w) s =
        .next ((s.fwRecord 1 id (s.xferStatus id) FwHdr.none).pldm 0x14 [0, 1, 0, 0, 0, 0, 0, 0, 0]))
    ∧ (st = .ready → s.xferStatus id = 0 → ∃ u, exec (.updateComponent bus id w) s = .next u ∧ u.fw.pldm = .download
        ∧ u.fw.xfer = some ⟨.pldm, id, w.toNat, [], none⟩ ∧ u = { s with fw := u.fw, out := u.out })
    ∧ (st = .ready → self = false ∨ s.boot.recovery = true → exec (.activateFirmware bus self sig payload) s = .next ((s.pldmTo .idle).pldm 0x1A [0, 0, 0]))
    ∧ (st = .ready → self = true → s.boot.recovery = false → s.actFirst = none →
        exec (.activateFirmware bus self sig payload) s = .next ((s.pldmTo .idle).pldm 0x1A [0x8B]))
    ∧ (∀ t, st = .ready → self = true → s.boot.recovery = false → s.actFirst = some t → s.actStatus t 0xFF sig payload = 0 →
        exec (.activateFirmware bus self sig payload) s = .next (((s.startAct t 0xFF none (t == 2)).pldmTo .activate).pldm 0x1A [0, 0, 0]))
    ∧ (st = .download ∨ st = .verify ∨ st = .apply → exec (.cancelUpdateComponent bus) s = .next ((s.pldmDrop.pldmTo .ready).pldm 0x1C [0]))
    ∧ (st ≠ .idle → st ≠ .activate → exec (.cancelUpdate bus) s = .next ((s.pldmDrop.pldmTo .idle).pldm 0x1D [0, 0, 0, 0, 0, 0, 0, 0, 0, 0])))
  ∧ (s.fw.xfer = none ∨ st ≠ .download → exec (.firmwareData bs) s = .next s)
  ∧ (s.fw.xfer = some x → x.src = .pldm → st = .download →
    let x1 : FwXfer := { x with bytes := x.bytes ++ bs }
    let s1 : State := { s with fw := { s.fw with xfer := some x1, progress := x1.bytes.length / 1024 } }
    bs ≠ [] → bs.length = min s.fw.piece (x.len - x.bytes.length) →
      (x1.bytes.length < x.len ∨ 8192 ≤ x.len → exec (.firmwareData bs) s = .next s1.pldmAsk)
      ∧ (x.len ≤ x1.bytes.length → x.len < 8192 → exec (.firmwareData bs) s = .next (s1.endXfer 1)))
  ∧ (st = .download → s.fw.xfer = none → exec .transferComplete s =
      .next ((if s.fw.dl = 0 then s.pldmTo .verify else s).pldm 0x16 [BitVec.ofNat 8 s.fw.dl]))
  ∧ (st ≠ .download ∨ s.fw.xfer.isSome = true → exec .transferComplete s = .next s)
  ∧ (st = .verify → exec .verifyComplete s = .next ((s.pldmTo .apply).pldm 0x17 [0])) ∧ (st ≠ .verify → exec .verifyComplete s = .next s)
  ∧ (st = .apply → exec .applyComplete s = .next ((s.pldmTo .ready).pldm 0x18 [0, 0, 0])) ∧ (st ≠ .apply → exec .applyComplete s = .next s)
  ∧ (s.boot.recovery = false ∨ alt.val = 3 ∨ 4096 < bs.length → exec (.dfuDownload alt bs first last) s = .next s)
  ∧ (s.boot.recovery = true → alt.val < 3 → bs.length ≤ 4096 →
    (s.fw.xfer = none → exec (.dfuDownload alt bs true false) s = .next { s with fw := { s.fw with xfer := some ⟨.dfu, alt.val + 1, 2 ^ 32, bs, none⟩ } })
    ∧ (s.fw.xfer = none → exec (.dfuDownload alt bs false last) s = .next (s.emit (.dfu 0x0F [])))
    ∧ (s.fw.xfer = some x → x.src = .dfu → x.type = alt.val + 1 →
      exec (.dfuDownload alt bs false false) s = .next { s with fw := { s.fw with xfer := some { x with bytes := x.bytes ++ bs } } })
    ∧ (s.fw.xfer = some x → x.src ≠ .dfu → exec (.dfuDownload alt bs first last) s = .next (s.emit (.dfu 0x0F []))))
  ∧ (s.boot.recovery = true → alt.val = 3 → exec (.dfuUpload alt) s = .next (s.emit (.dfu 0 [BitVec.ofNat 8 s.fw.dl, 0, 0, 0])))
  ∧ (s.boot.recovery = false ∨ alt.val ≠ 3 → exec (.dfuUpload alt) s = .next s)
  ∧ (s.fw.xfer = some x → x.src = .dfu → exec .usbDisconnection s =
      .next { s with fw := { s.fw with xfer := none, dl := 8, lastStatus := 8, lastOp := 1, lastType := x.type } })
  ∧ (s.fw.xfer = none → exec .usbDisconnection s = .next s)

/-- The panel (R563 to R578). -/
def Obligations.PanelCommands : Prop := ∀ (n ms : Nat) (mv : Fin 65536) (mctp on plate : Bool) (v : W32) (w : W64) (s : State),
  let p := s.panel
  let dc := p.dc = true
  let run := s.boot.run = true
  let goes (q : Panel) : Out := .next { s with panel := q }
  let swaps (c : Instr) (a b : HotSwap) : Prop := (dc → p.swap = a → exec c s = goes { p with swap := b }) ∧ (p.dc = false ∨ p.swap ≠ a → exec c s = .next s)
  let reach := mctp = true ∨ s.hostOn 0 = true
  let r := s.reg kLocate
  let cell (mv cur : Nat) (st : CellSt) (note : Option Nat) : Out := .next (s.cellTo st mv cur note)
  (dc → exec (.dcInputRise n) s = .next s)
  ∧ (p.dc = false → ∃ t, exec (.dcInputRise n) s = .next t ∧ t.panel = { p with dc := true, swap := .charging }
      ∧ t.boot = (if s.boot.shut ∧ 1000 ≤ n then { s.boot with shut := false, cause := 8 } else s.boot) ∧ t = { s with panel := t.panel, boot := t.boot })
  ∧ swaps Instr.bulkCharged .charging .charged ∧ swaps Instr.bulkChargeTimeout .charging .retry ∧ swaps Instr.hotSwapRetry .retry .charging
  ∧ swaps Instr.overvoltReclose .blocked .charging
  ∧ (s.boot.good = true → p.under = false → exec (.undervoltage mv) s = .next ((s.modPanel fun p => { p with under := true }).panelNote 7 0x0B 0 mv))
  ∧ (s.boot.good = false ∨ p.under = true → exec (.undervoltage mv) s = .next s)
  ∧ exec .undervoltageCleared s = goes { p with under := false }
  ∧ (p.dc = false → exec .brownOut s = .next s ∧ exec .overvoltage s = .next s)
  ∧ (dc → (∃ t, exec .brownOut s = .next t ∧ t.panel.dc = false ∧ t.panel.swap = .open_ ∧ t.boot.good = false)
    ∧ ∃ t, exec .overvoltage s = .next t ∧ t.panel.dc = true ∧ t.panel.swap = .blocked ∧ t.panel.overDue = true ∧ t.boot.good = false)
  ∧ (p.dc = false → p.cellPowers = true → exec .inputReversal s = goes { p with revDue := true })
  ∧ (dc ∨ p.cellPowers = false → exec .inputReversal s = .next s)
  ∧ (p.dc = false → ∀ c ∈ [Instr.buttonRelease ms, .buttonHold8s n, .buttonStuck], exec c s = .next s)
  ∧ (dc → (p.stuck = true ∨ s.boot.run = false ∨ ms < 100 ∨ 8000 ≤ ms → exec (.buttonRelease ms) s = goes { p with down := false })
    ∧ (p.stuck = false → run → 100 ≤ ms → ms ≤ 3000 → s.boot.ready = true → s.boot.pending = none → ∃ t, exec (.buttonRelease ms) s = .next t
        ∧ t.boot.pending = some 1 ∧ t.panel.down = false ∧ t.cores = s.cores)
    ∧ (p.stuck = false → run → 3000 < ms → ms < 8000 → ∃ t, exec (.buttonRelease ms) s = .next t ∧ t.boot = s.boot ∧ t.panel.down = false)
    ∧ (p.stuck = true ∨ (p.forced = true ∧ n < 1000) → exec (.buttonHold8s n) s = goes { p with down := true })
    ∧ (p.stuck = false → p.forced = false ∨ 1000 ≤ n → ∃ t, exec (.buttonHold8s n) s = .next t ∧ t.boot.run = false ∧ t.boot.cause = 2 ∧ t.boot.shut = false
        ∧ t.panel.forced = true ∧ t.panel.hardDue = true ∧ t.hbm = s.hbm)
    ∧ (p.stuck = true → exec .buttonStuck s = .next s)
    ∧ (p.stuck = false → exec .buttonStuck s = .next ((s.modPanel fun p => { p with stuck := true, down := true }).panelNote 3 3 0 0)))
  ∧ (p.stuck = true → exec .buttonUnstuck s = goes { p with stuck := false, down := false, forced := false })
  ∧ (p.stuck = false → exec .buttonUnstuck s = .next s)
  ∧ (s.boot.run = false ∨ bitAt (s.reg (bSVC + 0x10)) 24 = true → exec .locateTouch s = .next s)
  ∧ (run → bitAt (s.reg (bSVC + 0x10)) 24 = false → exec .locateTouch s = .next (s.locate (if bitAt r 0 then r - 1 else r + 1)))
  ∧ (run → reach → exec (.svcLocate mctp v) s = .next (s.locate (v.toNat &&& 0xFF01)))
  ∧ (s.boot.run = false ∨ ¬ reach → exec (.svcLocate mctp v) s = .next s)
  ∧ (run → bitAt r 0 = true → bits r 15 8 ≠ 0 → p.locSince + bits r 15 8 * 60000000000 ≤ s.now → ∃ t, exec .locateTimeout s = .next t
      ∧ t.reg kLocate = r - 1 ∧ t.panel = p)
  ∧ (s.boot.run = false ∨ bitAt r 0 = false ∨ bits r 15 8 = 0 ∨ s.now < p.locSince + bits r 15 8 * 60000000000 → exec .locateTimeout s = .next s)
  ∧ (p.cell = .absent → exec (.cellInserted mv) s = cell mv 0 .settling none ∧ exec .cellRemoved s = .next s ∧ exec (.cellFault mv) s = .next s
      ∧ exec (.cellVoltageThreshold mv) s = .next s)
  ∧ (p.cell ≠ .absent → exec (.cellInserted mv) s = .next s ∧ exec .cellRemoved s = cell 0 0 .absent (some 5))
  ∧ (p.cell = .settling → bitAt (s.reg kBattCtrl) 0 = true → exec (.cellSettled mv) s = .next (s.chargeAt mv))
  ∧ (p.cell = .settling → bitAt (s.reg kBattCtrl) 0 = false → exec (.cellSettled mv) s = cell mv 0 .disabled none)
  ∧ (mv.val < 2500 → ∀ y, chargeCur y mv = 10) ∧ (2500 ≤ mv.val → mv.val < 3070 → ∀ y, chargeCur y mv = 100)
  ∧ (p.cell ≠ .settling → exec (.cellSettled mv) s = .next s)
  ∧ (p.cell ≠ .reversed → exec .cellReversed s = cell 0 0 .reversed (some 7)) ∧ (p.cell = .reversed → exec .cellReversed s = .next s)
  ∧ (p.cell = .charging → exec (.cellFull mv) s = cell mv 0 .full none) ∧ (p.cell ≠ .charging → exec (.cellFull mv) s = .next s)
  ∧ (p.cell = .full → mv.val < 3000 → exec (.cellRecharge mv) s = .next (s.chargeCell mv))
  ∧ (p.cell ≠ .full ∨ 3000 ≤ mv.val → exec (.cellRecharge mv) s = .next s)
  ∧ (p.cell ∈ [CellSt.settling, .charging, .full, .disabled] → exec (.cellFault mv) s = cell mv 0 .fault (some 8))
  ∧ (p.cell = .charging → exec (.cellVoltageThreshold mv) s = .next (s.chargeAt mv))
  ∧ (p.cell ∈ [CellSt.settling, .full, .fault, .disabled] → exec (.cellVoltageThreshold mv) s = cell mv 0 p.cell none)
  ∧ (s.boot.run = false ∨ ¬ reach → exec (.chargeEn mctp on) s = .next s ∧ exec (.svcRtcSet mctp w) s = .next s)
  ∧ (run → reach →
    let s1 := s.setReg kBattCtrl (b2n on)
    (p.cell = .disabled → on = true → exec (.chargeEn mctp on) s = .next (s1.chargeAt p.mv))
    ∧ (p.cell = .charging ∨ p.cell = .full → on = false → exec (.chargeEn mctp on) s = .next (s1.cellTo .disabled p.mv 0 none))
    ∧ (p.cell ∈ [CellSt.absent, .settling, .reversed, .fault] → exec (.chargeEn mctp on) s = .next s1)
    ∧ (p.rtcValid = true → exec (.svcRtcSet mctp w) s = .next s)
    ∧ (p.rtcValid = false → ∃ t, exec (.svcRtcSet mctp w) s = .next t ∧ t.panel.rtcValid = true ∧ t.panel.rtcNs = ceilDiv (w.toNat * 1000000000) 32768))
  ∧ (dc → exec .islandPowerLoss s = .next s)
  ∧ (p.dc = false → exec .islandPowerLoss s = goes { p with rtcValid := false, rtcNs := 0, lostDue := true })
  ∧ (p.armed = false → exec (.tamperEvent plate) s = .next s)
  ∧ (p.armed = true → ∃ t, exec (.tamperEvent plate) s = .next t ∧ t.panel.open_ = true ∧ t.panel.source = (if plate then 2 else 1)
      ∧ t.panel.tampers = satAdd 0xFFFF p.tampers 1 ∧ t.panel.tamperDue = p.tamperDue + (if s.boot.run then 0 else 1))

/-- Registers (R6, R8, R378, R403, R404). -/
def Obligations.RegisterAccess : Prop := ∀ (fn : FnId) (a : Fin (2 ^ 26)) (size : Nat) (v : W64) (i : Fin 1024) (o : Fin 4096) (x : W32) (on mgr : Bool)
    (bus : Fin 2) (session : Option (Fin 65536)) (seq block count : Fin 256) (off : W32) (ws : List W32) (r : RegRow) (k l : Nat) (s : State),
  let here := s.hostOn fn = true
  let bar := exec (.registerWrite (.bar0 fn a size v)) s
  let base := block.val * 0x400000 + off.toNat
  let rd := exec (.regRead bus seq block off count) s
  let wr := exec (.regWrite bus session seq block off ws) s
  let up := s.mctpOn bus = true ∧ s.boot.recovery = false
  let n := ws.length
  let badRead := count.val = 0 ∨ 16 < count.val ∨ off.toNat % 4 ≠ 0 ∨ 0x400000 < off.toNat + 4 * count.val
  let badWrite := n = 0 ∨ 16 < n ∨ off.toNat % 4 ≠ 0 ∨ 0x400000 < off.toNat + 4 * n ∨ splitsWo base ws = true
  (¬ here ∨ (size = 4 ∧ a.val % 4 ≠ 0) ∨ (size = 8 ∧ a.val % 8 ≠ 0) ∨ (size ≠ 4 ∧ size ≠ 8) → bar = .next s)
  ∧ (here → size = 4 → a.val % 4 = 0 →
    (regAt a = some (r, k, l) → r.wide = false → r.acc = .ro ∨ s.reaches (.fn fn) r k = false → bar = .next s)
    ∧ (regAt a = some (r, k, l) → r.wide = false → s.reaches (.fn fn) r k = true → bar = .next (s.writeRow (.fn fn) r k l a (v.toNat % 2 ^ 32)))
    ∧ (regAt a = some (r, k, l) → r.wide = true → r.acc = .wo → bar = .next s)
    ∧ (regAt a = none → a.val < 4 ∨ regAt (a - 4) = none → bar = .next s))
  ∧ (here → size = 8 → a.val % 8 = 0 →
    (regAt a = some (r, k, l) → r.wide = true → s.reaches (.fn fn) r k = true → bar = .next (s.writeRow (.fn fn) r k l a v.toNat))
    ∧ (regAt a = some (r, k, l) → r.wide = false ∨ r.acc = .ro → bar = .next s)
    ∧ (regAt a = none → bar = .next s))
  ∧ (here → ∃ t, exec (.registerWrite (.atomicEnable fn on)) s = .next t ∧ (fn.val ∈ t.pcie.atomic ↔ on = true)
      ∧ (∀ f, f ≠ fn.val → (f ∈ t.pcie.atomic ↔ f ∈ s.pcie.atomic)) ∧ t = { s with pcie := { s.pcie with atomic := t.pcie.atomic } })
  ∧ (¬ here → exec (.registerWrite (.atomicEnable fn on)) s = .next s ∧ exec (.registerWrite (.msixTable fn i x)) s = .next s)
  ∧ (here → fn.val = 0 ∨ i.val < 256 → ∃ t, exec (.registerWrite (.msixTable fn i x)) s = .next t ∧ t.msixWord fn i = x.toNat
      ∧ t = { s with pcie := t.pcie, out := t.out })
  ∧ exec (.registerWrite (.ideStream true)) s = .next { s with pcie := { s.pcie with ide := true } }
  ∧ (s.mbOn (if mgr then 0 else fn) fn = false ∨ o.val % 4 ≠ 0 → exec (.registerWrite (.mailbox mgr fn o x)) s = .next s)
  ∧ (s.mbOn (if mgr then 0 else fn) fn = true → o.val % 4 = 0 → mbArea mgr o = true → exec (.registerWrite (.mailbox mgr fn o x)) s =
      .next (s.setInst fn { s.inst fn with page := tblSetRun (fun _ => 0) (s.inst fn).page o (toBytes 4 x.toNat) }))
  ∧ (¬ up → rd = .next s ∧ wr = .next s)
  ∧ (up →
    (13 < block.val ∨ block.val = 11 → rd = .next (s.stolReply 1 seq 1 []))
    ∧ (block.val ≤ 13 → block.val ≠ 11 → badRead → rd = .next (s.stolReply 1 seq 2 []))
    ∧ (block.val ≤ 13 → block.val ≠ 11 → ¬ badRead → rd = .next ((s.readEffects base count).stolReply 1 seq 0
        ((List.range count).flatMap fun m => toBytes 4 (s.readWord .mctp (base + 4 * m)))))
    ∧ (s.mayWrite session = false ∨ block.val ∉ [7, 8, 10, 13] → wr = .next (s.stolReply 2 seq 1 []))
    ∧ (s.mayWrite session = true → block.val ∈ [7, 8, 10, 13] → badWrite → wr = .next (s.stolReply 2 seq 2 []))
    ∧ (s.mayWrite session = true → block.val ∈ [7, 8, 10, 13] → ¬ badWrite → wr = .next ((s.writeWords base ws).stolReply 2 seq 0 [])))

/-- The queue (log 1, log 2) and the one stop of the model (R7, R10, R116). -/
def Obligations.QueueFirst : Prop := ∀ (c : Instr) (cs : List Instr) (s : State),
  (s.pending = c :: cs → step s = exec c { s with pending := cs })
  ∧ (s.pending = [] → ∃ t, step s = .next t ∧ t.pending = [])
  ∧ ((∀ (k : CoreId) (w : StepWord), c = .signal k w → (s.core k).ready = true → fld w 95 88 ≠ 0) → Completes c s)
  ∧ (∀ (k : CoreId) (w : StepWord), (s.core k).ready = true → fld w 95 88 = 0 → exec (.signal k w) s = .fault (.undefinedWithin "partition"))
  ∧ ((∀ d ∈ cs, ∀ (k : CoreId) (w : StepWord), d ≠ .signal k w) → RunsThrough cs s)

/-- The state at reset; what the spec does not give is the model's choice (log 5). -/
def Obligations.AtReset : Prop :=
  let s := State.reset
  s.pending = [] ∧ s.out = [] ∧ Memory.allWf s = true ∧ s.hbm = [] ∧ s.spad = [] ∧ s.host = [] ∧ s.now = 0
  ∧ s.boot.good = false ∧ s.boot.run = false ∧ s.boot.ready = false ∧ s.pcie.up = false ∧ s.pcie.vfs = 0
  ∧ (∀ i, (s.lnk i).st = .disabled) ∧ (∀ c, (s.cage c).pow = .off ∧ (s.cage c).attn = .idle) ∧ (∀ k, (s.clu k).step = 15)
  ∧ (∀ p, (s.part p).st = .free) ∧ (∀ v, (s.inst v).st = .absent ∧ (s.inst v).tdi = .unlocked) ∧ (∀ c, (s.core c).st = .idle)
  ∧ s.time.st = .unsynced ∧ s.cus.es = .off ∧ s.cus.ready = false ∧ s.fw.xfer = none ∧ s.fw.act = none ∧ s.lring.held = 0 ∧ s.intake = []
  ∧ (∀ e, (s.engine e).queue = []) ∧ s.descs = [] ∧ s.sessions = [] ∧ s.events = [] ∧ s.txns = []
  ∧ (∀ k, s.reg k = regReset k) ∧ s.reg (kSqCfg 0 0) = 6 ∧ s.reg kTsCtrl = 0xFF00 ∧ s.reg bFAB = 0x3FFF ∧ (∀ c off, s.spadByte c off = 0)

/-- The memories' form is an invariant (log 6). -/
def Obligations.MemoryForm : Prop := ∀ (s t : State), Memory.allWf s = true → step s = .next t → Memory.allWf t = true

/-- The queue's order, and the floors (R551). -/
def Obligations.QueueAndFloors : Prop :=
  (∀ (c : Instr) (s t : State), exec c s = .next t → t.pending = s.pending)
  ∧ ∀ (s t : State) (ty : Nat), step s = .next t → (s.fwType ty).floor ≤ (t.fwType ty).floor

/-- R266. -/
def Obligations.ReleaseAccepted : Prop := ∀ (c : CageId) (s : State),
  let names := ∃ e ∈ s.rteAct, ∃ i ∈ cageLinks c, entryNames e.2 i = true
  ((s.cage c).attn = .requested → ¬ names → ∃ t, exec (.release c) s = .next t ∧ ((t.cage c).attn = .draining ∨ (t.cage c).attn = .safe))
  ∧ ((s.cage c).attn ≠ .requested ∨ names → ∃ t, exec (.release c) s = .next t ∧ bitAt (t.reg (kCageEvt c)) 6 = true ∧ t.cages = s.cages ∧ t.links = s.links
      ∧ (∀ k, k ≠ kCageEvt c → t.reg k = s.reg k)
      ∧ ((s.cage c).attn = .requested → (t.cage c).attn = .requested ∧ ∃ u, exec (.attnTimeout c) t = .next u ∧ (u.cage c).attn ≠ .requested))

/-- R546. -/
def Obligations.CopyPending : Prop := ∀ (r : Fin 16) (bus : Fin 2) (id : Fin 65536) (len : W32) (d : HostDesc) (s0 s : State),
  let free (t : Nat) : Prop := 1 ≤ t ∧ t ≤ 3 ∧ s.fw.xfer = none ∧ s.fw.act.map (·.type) ≠ some t
  let held (t : Nat) : Prop := (s.fwType t).stgSt = .activated ∧ (s.fwType t).copy = true
  let t := d.arg0 % 256
  let pldm := s.mctpOn bus = true ∧ s.fw.pldm = .ready
  (MgmtStarts s r 0x200 d s0 → free t → held t → ∀ ok, ∃ u, exec (.fwStage r ok) s = .next u
      ∧ u = ((s0.fwRecord 1 t 0x0A FwHdr.none).mgmtEnd d.id 0x0A []).ringGo 0 r ∧ u.fw = s.fw)
  ∧ (pldm → free id → held id → ∃ u, exec (.updateComponent bus id len) s = .next u ∧ u.fw = s.fw)
  ∧ (MgmtStarts s r 0x200 d s0 → free t → ¬ held t → 8192 ≤ d.fld 40 4 → ∃ u, exec (.fwStage r true) s = .next u
      ∧ u.fw.xfer = some ⟨.desc d.id, t, d.fld 40 4, s.mgmtIn d, none⟩)
  ∧ (pldm → free id → ¬ held id → ∃ u, exec (.updateComponent bus id len) s = .next u ∧ u.fw.xfer = some ⟨.pldm, id, len.toNat, [], none⟩)

/-- Scratchpad bytes (R89, R93, R594). -/
def Obligations.ScratchpadReadsBack : Prop := ∀ (s : State) (c off : Nat) (bs : List Byte),
  off + bs.length ≤ 2 ^ 20 → (∀ i < bs.length, s.spadPoisoned c (off + i) = false) →
  (s.spadWrite c off bs).spadRead c off bs.length = bs
  ∧ (∀ k o, o < 2 ^ 20 → (k ≠ c ∨ o < off ∨ off + bs.length ≤ o) → (s.spadWrite c off bs).spadByte k o = s.spadByte k o)
  ∧ (s.spadWrite c off bs).hbm = s.hbm ∧ (s.spadWrite c off bs).host = s.host
end

