-- ==== Sys2Proof/Laws/Tables.lean ====
section
/-! SUPPORT. Sparse tables: a read after a write, and the canonical form under every table operation. -/
namespace Sys2Proof.Laws

open Machine

variable {α : Type}

theorem tblGet_tblErase_self (d : Nat → α) (t : Tbl α) (k : Nat) : tblGet d (tblErase k t) k = d k := by
  induction t with
  | nil => rfl
  | cons e t ih =>
    by_cases h : e.1 = k <;> simp [tblErase, tblGet, h, ih]

theorem tblGet_tblErase_ne (d : Nat → α) (t : Tbl α) {k j : Nat} (hj : j ≠ k) :
    tblGet d (tblErase k t) j = tblGet d t j := by
  induction t with
  | nil => rfl
  | cons e t ih =>
    by_cases h : e.1 = k
    · have hn : ¬ k = j := fun e => hj e.symm
      simp [tblErase, tblGet, h, ih, hn]
    · by_cases h2 : e.1 = j <;> simp [tblErase, tblGet, h, h2, ih, hj]

theorem tblGet_tblIns_ne (d : Nat → α) (t : Tbl α) {k j : Nat} (v : α) (hj : j ≠ k) :
    tblGet d (tblIns k v t) j = tblGet d t j := by
  have hn : ¬ k = j := fun e => hj e.symm
  induction t with
  | nil => simp [tblIns, tblGet, hn]
  | cons e t ih =>
    by_cases h : k < e.1
    · simp [tblIns, tblGet, h, hn]
    · simp only [tblIns, h, ite_false, tblGet, ih]

theorem tblGet_tblIns_self (d : Nat → α) (t : Tbl α) (k : Nat) (v : α) (hk : ∀ e ∈ t, e.1 ≠ k) :
    tblGet d (tblIns k v t) k = v := by
  induction t with
  | nil => simp [tblIns, tblGet]
  | cons e t ih =>
    have h1 : ¬ e.1 = k := hk e (by simp)
    by_cases h : k < e.1
    · simp [tblIns, tblGet, h]
    · simp [tblIns, tblGet, h, h1, ih fun x hx => hk x (by simp [hx])]

theorem tblErase_free (t : Tbl α) (k : Nat) : ∀ e ∈ tblErase k t, e.1 ≠ k := by
  induction t with
  | nil => simp [tblErase]
  | cons e t ih =>
    intro x hx
    by_cases h : e.1 = k
    · exact ih x (by simpa [tblErase, h] using hx)
    · simp only [tblErase, h, ite_false, List.mem_cons] at hx
      rcases hx with rfl | hx
      · exact h
      · exact ih x hx

/-- A key just written reads as written. -/
@[simp] theorem tblGet_tblSet_self [DecidableEq α] (d : Nat → α) (t : Tbl α) (k : Nat) (v : α) :
    tblGet d (tblSet d t k v) k = v := by
  by_cases h : v = d k
  · simp [tblSet, h, tblGet_tblErase_self]
  · simp [tblSet, h, tblGet_tblIns_self d _ k v (tblErase_free t k)]

/-- Every other key reads as before. -/
theorem tblGet_tblSet_ne [DecidableEq α] (d : Nat → α) (t : Tbl α) {k j : Nat} (v : α) (hj : j ≠ k) :
    tblGet d (tblSet d t k v) j = tblGet d t j := by
  by_cases h : v = d k
  · simp [tblSet, h, tblGet_tblErase_ne d t hj]
  · simp [tblSet, h, tblGet_tblIns_ne d _ v hj, tblGet_tblErase_ne d t hj]

/-- A table without key `k` is its own erasure. -/
theorem tblErase_of_free (t : Tbl α) (k : Nat) (h : ∀ e ∈ t, e.1 ≠ k) : tblErase k t = t := by
  induction t with
  | nil => rfl
  | cons e t ih =>
    have he := h e (List.mem_cons_self ..)
    simp [tblErase, he, ih fun x hx => h x (List.mem_cons_of_mem _ hx)]

/-- Erasing an inserted key gives the table back. -/
theorem tblErase_tblIns (t : Tbl α) (k : Nat) (v : α) (h : ∀ e ∈ t, e.1 ≠ k) : tblErase k (tblIns k v t) = t := by
  induction t with
  | nil => simp [tblIns, tblErase]
  | cons e t ih =>
    have he := h e (List.mem_cons_self ..)
    have ht : ∀ x ∈ t, x.1 ≠ k := fun x hx => h x (List.mem_cons_of_mem _ hx)
    by_cases hlt : k < e.1
    · simp [tblIns, hlt, tblErase, he, tblErase_of_free t k ht]
    · simp [tblIns, hlt, tblErase, he, ih ht]

/-- Of two writes of one key the second remains. -/
@[simp] theorem tblSet_tblSet [DecidableEq α] (d : Nat → α) (t : Tbl α) (k : Nat) (v w : α) :
    tblSet d (tblSet d t k v) k w = tblSet d t k w := by
  have h : tblErase k (tblSet d t k v) = tblErase k t := by
    by_cases hv : v = d k
    · simp [tblSet, hv, tblErase_of_free _ k (tblErase_free t k)]
    · simp [tblSet, hv, tblErase_tblIns _ k v (tblErase_free t k)]
  unfold tblSet at h ⊢
  rw [h]

/-- A run of keys below or above `j` leaves `j` as it was. -/
theorem tblGet_tblSetRun_ne [DecidableEq α] (d : Nat → α) (vs : List α) (t : Tbl α) (k j : Nat)
    (h : j < k ∨ k + vs.length ≤ j) : tblGet d (tblSetRun d t k vs) j = tblGet d t j := by
  induction vs generalizing t k with
  | nil => rfl
  | cons v vs ih =>
    simp only [List.length_cons] at h
    simp only [tblSetRun]
    rw [ih _ _ (by omega), tblGet_tblSet_ne d t v (by omega)]

/-- A run of keys just written reads as written. -/
theorem tblRun_tblSetRun [DecidableEq α] (d : Nat → α) (vs : List α) (t : Tbl α) (k : Nat) :
    tblRun d (tblSetRun d t k vs) k vs.length = vs := by
  induction vs generalizing t k with
  | nil => rfl
  | cons v vs ih =>
    simp only [List.length_cons, tblRun, tblSetRun, ih, List.cons.injEq, and_true]
    rw [tblGet_tblSetRun_ne d vs _ _ _ (by omega), tblGet_tblSet_self]

variable [DecidableEq α] {d : Nat → α}

theorem tblWfFrom_mono {lo lo' : Nat} {t : Tbl α} (h : lo' ≤ lo) (w : tblWfFrom d lo t = true) :
    tblWfFrom d lo' t = true := by
  cases t with
  | nil => rfl
  | cons e t =>
    simp only [tblWfFrom, Bool.and_eq_true, decide_eq_true_eq] at w ⊢
    exact ⟨⟨by omega, w.1.2⟩, w.2⟩

theorem tblWfFrom_lo {lo : Nat} {t : Tbl α} (w : tblWfFrom d lo t = true) : ∀ e ∈ t, lo ≤ e.1 := by
  induction t generalizing lo with
  | nil => simp
  | cons e t ih =>
    simp only [tblWfFrom, Bool.and_eq_true, decide_eq_true_eq] at w
    intro x hx
    rcases List.mem_cons.mp hx with rfl | hx
    · exact w.1.1
    · have := ih w.2 x hx; omega

theorem tblWfFrom_erase {lo : Nat} {t : Tbl α} (k : Nat) (w : tblWfFrom d lo t = true) :
    tblWfFrom d lo (tblErase k t) = true := by
  induction t generalizing lo with
  | nil => rfl
  | cons e t ih =>
    simp only [tblWfFrom, Bool.and_eq_true, decide_eq_true_eq] at w
    by_cases h : e.1 = k
    · simpa [tblErase, h] using tblWfFrom_mono (by omega) (ih w.2)
    · simp only [tblErase, h, ite_false, tblWfFrom, Bool.and_eq_true, decide_eq_true_eq]
      exact ⟨w.1, ih w.2⟩

theorem tblWfFrom_ins {lo : Nat} {t : Tbl α} {k : Nat} {v : α} (hlo : lo ≤ k) (hv : v ≠ d k)
    (hk : ∀ e ∈ t, e.1 ≠ k) (w : tblWfFrom d lo t = true) : tblWfFrom d lo (tblIns k v t) = true := by
  induction t generalizing lo with
  | nil => simp [tblIns, tblWfFrom, hlo, hv]
  | cons e t ih =>
    have w' := w
    simp only [tblWfFrom, Bool.and_eq_true, decide_eq_true_eq] at w
    have hne := hk e (by simp)
    by_cases h : k < e.1
    · simp only [tblIns, h, ite_true, tblWfFrom, Bool.and_eq_true, decide_eq_true_eq]
      exact ⟨⟨hlo, hv⟩, ⟨by omega, w.1.2⟩, w.2⟩
    · simp only [tblIns, h, ite_false, tblWfFrom, Bool.and_eq_true, decide_eq_true_eq]
      exact ⟨w.1, ih (by omega) (fun x hx => hk x (by simp [hx])) w.2⟩

/-- A write keeps the canonical form. -/
theorem tblWf_tblSet {t : Tbl α} (k : Nat) (v : α) (w : tblWf d t = true) : tblWf d (tblSet d t k v) = true := by
  unfold tblSet
  split
  · exact tblWfFrom_erase k w
  · exact tblWfFrom_ins (Nat.zero_le _) (by assumption) (tblErase_free t k) (tblWfFrom_erase k w)

/-- A run of writes keeps the canonical form. -/
theorem tblWf_tblSetRun {t : Tbl α} (k : Nat) (vs : List α) (w : tblWf d t = true) :
    tblWf d (tblSetRun d t k vs) = true := by
  induction vs generalizing t k with
  | nil => exact w
  | cons v vs ih => exact ih (k + 1) (tblWf_tblSet k v w)

theorem tblWfFrom_filter {lo : Nat} {t : Tbl α} (p : Nat × α → Bool) (w : tblWfFrom d lo t = true) :
    tblWfFrom d lo (t.filter p) = true := by
  induction t generalizing lo with
  | nil => rfl
  | cons e t ih =>
    simp only [tblWfFrom, Bool.and_eq_true, decide_eq_true_eq] at w
    by_cases h : p e
    · simp only [List.filter_cons, h, ite_true, tblWfFrom, Bool.and_eq_true, decide_eq_true_eq]
      exact ⟨w.1, ih w.2⟩
    · simpa [List.filter_cons, h] using tblWfFrom_mono (by omega) (ih w.2)

/-- Clearing a range keeps the canonical form. -/
theorem tblWf_tblClear {t : Tbl α} (lo hi : Nat) (w : tblWf d t = true) : tblWf d (tblClear lo hi t) = true :=
  tblWfFrom_filter _ w

end Sys2Proof.Laws
end

