-- ==== Sys2Proof/Laws/Keeps.lean ====
section
/-! SUPPORT. Every operation leaves the queue as it is and keeps the canonical form of the memories. -/
namespace Sys2Proof.Laws

open Machine

/-- A queue, and a floor for each image type. -/
structure Base where
  queue : List Instr
  floor : Nat → Nat

/-- The queue is the base's, the memories are in canonical form, and no image type's floor lies below the base's. -/
def KeepC (b : Base) (p : List Instr) (m sp h : Tbl Byte) (ts : Tbl FwType) : Prop :=
  p = b.queue ∧ Memory.wf m = true ∧ Memory.wf sp = true ∧ Memory.wf h = true ∧
    ∀ t, b.floor t ≤ (tblGet (fun _ => FwType.reset) ts t).floor

/-- The same of a state. -/
def Keep (b : Base) (s : State) : Prop := KeepC b s.pending s.hbm s.spad s.host s.fw.types

variable {qq : Base}

/-- A next state, where there is one, keeps them. -/
def KeepO (b : Base) (o : Out) : Prop := ∀ t, o = .next t → Keep b t

theorem keepO_next {t : State} (h : Keep qq t) : KeepO qq (.next t) := fun u e => by
  cases e
  exact h

theorem keepO_fault {f : Fault} : KeepO qq (.fault f) := fun u e => nomatch e

theorem keepO_ite {c : Prop} [Decidable c] {a b : Out} (ha : c → KeepO qq a) (hb : ¬c → KeepO qq b) :
    KeepO qq (if c then a else b) := by
  split
  · exact ha ‹_›
  · exact hb ‹_›

theorem keep_fst {β : Type} {x : State × β} {s : State} {b : β} (e : x = (s, b)) (h : Keep qq x.1) : Keep qq s := by
  rw [e] at h
  exact h

theorem keep_ite {c : Prop} [Decidable c] {a b : State} (ha : c → Keep qq a) (hb : ¬c → Keep qq b) :
    Keep qq (if c then a else b) := by
  split
  · exact ha ‹_›
  · exact hb ‹_›

theorem keep_pite {β : Type} {c : Prop} [Decidable c] {a b : State × β} (ha : c → Keep qq a.1) (hb : ¬c → Keep qq b.1) :
    Keep qq (if c then a else b).1 := by
  split
  · exact ha ‹_›
  · exact hb ‹_›

theorem keepC_of {s : State} (h : Keep qq s) : KeepC qq s.pending s.hbm s.spad s.host s.fw.types := h

theorem keep_foldl {β : Type} {g : State → β → State} (hg : ∀ s b, Keep qq s → Keep qq (g s b)) {l : List β} {s : State}
    (h : Keep qq s) : Keep qq (l.foldl g s) := by
  induction l generalizing s with
  | nil => exact h
  | cons b l ih => exact ih (hg s b h)

theorem keep_mk {x0 : List Instr} {x1 : List Emit} {x2 : Nat} {x3 : Tbl Nat} {x4 : Tbl Byte} {x5 : Nat} {x6 : Tbl Core} {x7 : Tbl Byte} {x8 : Tbl Bool} {x9 : Tbl Bool} {x10 : Tbl Engine} {x11 : Tbl Bucket} {x12 : Tbl Byte} {x13 : Tbl Bool} {x14 : Tbl (Option SectorTag)} {x15 : Tbl Group} {x16 : Tbl Region} {x17 : Tbl WayKind} {x18 : Tbl (Option CacheLine)} {x19 : Nat} {x20 : List Withheld} {x21 : List Nat} {x22 : Tbl (List XltEntry)} {x23 : Tbl (List XltEntry)} {x24 : Tbl (List Nat)} {x25 : Tbl InWin} {x26 : Tbl OutWin} {x27 : Tbl (Option Txn)} {x28 : Nat} {x29 : Tbl SyncObj} {x30 : Tbl TreeNode} {x31 : Tbl Part} {x32 : Tbl Inst} {x33 : List LedgerEv} {x34 : Tbl (Option PoolPage)} {x35 : Tbl (Option Nat)} {x36 : List AtcEntry} {x37 : Tbl Level} {x38 : Tbl Port} {x39 : Tbl Nat} {x40 : List (Nat × Nat)} {x41 : Tbl HomeWin} {x42 : Tbl Nat} {x43 : Patrol} {x44 : Tbl Link} {x45 : Tbl Cage} {x46 : Tbl Nat} {x47 : Tbl Nat} {x48 : Tbl (Option RxTxn)} {x49 : TimeSync} {x50 : List WinReq} {x51 : Tbl Cluster} {x52 : List McEvent} {x53 : List McEvent} {x54 : Nat} {x55 : List HostDesc} {x56 : Nat} {x57 : Tbl Sq} {x58 : Tbl Cq} {x59 : List RefOp} {x60 : List SwitchReq} {x61 : Option McBind} {x62 : List McBind} {x63 : Nat} {x64 : Nat} {x65 : PowerSt} {x66 : Tbl Slack} {x67 : Cus} {x68 : Ledger} {x69 : List Session} {x70 : Tbl Spdm} {x71 : Tbl (List SealReq)} {x72 : FwSt} {x73 : Boot} {x74 : Pcie} {x75 : Panel}
    : Keep qq (State.mk x0 x1 x2 x3 x4 x5 x6 x7 x8 x9 x10 x11 x12 x13 x14 x15 x16 x17 x18 x19 x20 x21 x22 x23 x24 x25 x26 x27 x28 x29 x30 x31 x32 x33 x34 x35 x36 x37 x38 x39 x40 x41 x42 x43 x44 x45 x46 x47 x48 x49 x50 x51 x52 x53 x54 x55 x56 x57 x58 x59 x60 x61 x62 x63 x64 x65 x66 x67 x68 x69 x70 x71 x72 x73 x74 x75) = KeepC qq x0 x12 x7 x4 x72.types := rfl

theorem wf_move {old t : Tbl Byte} (lo n dst : Nat) (w : Memory.wf t = true) :
    Memory.wf (moveRange (fun _ => 0) old lo n dst t) = true := by
  have key : ∀ (l : Tbl Byte) (u : Tbl Byte), Memory.wf u = true →
      Memory.wf (l.foldl (fun t e => tblSet (fun _ => 0) t (dst + (e.1 - lo)) e.2) u) = true := by
    intro l
    induction l with
    | nil => exact fun u h => h
    | cons e l ih => exact fun u h => ih _ (tblWf_tblSet _ _ h)
  exact key _ _ (tblWf_tblClear _ _ w)

section

variable {p : List Instr} {m sp h old : Tbl Byte} {ts : Tbl FwType}

theorem keepC_run (k : Nat) (vs : List Byte) (c : KeepC qq p m sp h ts) :
    KeepC qq p (tblSetRun (fun _ => 0) m k vs) sp h ts := ⟨c.1, tblWf_tblSetRun k vs c.2.1, c.2.2⟩
theorem keepC_clear (lo hi : Nat) (c : KeepC qq p m sp h ts) : KeepC qq p (tblClear lo hi m) sp h ts :=
  ⟨c.1, tblWf_tblClear lo hi c.2.1, c.2.2⟩
theorem keepC_move (lo n dst : Nat) (c : KeepC qq p m sp h ts) :
    KeepC qq p (moveRange (fun _ => 0) old lo n dst m) sp h ts := ⟨c.1, wf_move lo n dst c.2.1, c.2.2⟩
theorem keepC_spad (k : Nat) (v : Byte) (c : KeepC qq p m sp h ts) :
    KeepC qq p m (tblSet (fun _ => 0) sp k v) h ts := ⟨c.1, c.2.1, tblWf_tblSet k v c.2.2.1, c.2.2.2⟩
theorem keepC_spadNil (c : KeepC qq p m sp h ts) : KeepC qq p m State.reset.spad h ts := ⟨c.1, c.2.1, rfl, c.2.2.2⟩
theorem keepC_spadMove (lo n dst : Nat) (c : KeepC qq p m sp h ts) :
    KeepC qq p m (moveRange (fun _ => 0) old lo n dst sp) h ts := ⟨c.1, c.2.1, wf_move lo n dst c.2.2.1, c.2.2.2⟩
theorem keepC_spadClear (lo hi : Nat) (c : KeepC qq p m sp h ts) : KeepC qq p m (tblClear lo hi sp) h ts :=
  ⟨c.1, c.2.1, tblWf_tblClear lo hi c.2.2.1, c.2.2.2⟩
theorem keepC_host (k : Nat) (vs : List Byte) (c : KeepC qq p m sp h ts) :
    KeepC qq p m sp (tblSetRun (fun _ => 0) h k vs) ts := ⟨c.1, c.2.1, c.2.2.1, tblWf_tblSetRun k vs c.2.2.2.1, c.2.2.2.2⟩

end

theorem keep_setFwType {s : State} (t : Nat) (x : FwType) (h : Keep qq s) (hx : (s.fwType t).floor ≤ x.floor) :
    Keep qq (s.setFwType t x) := by
  refine ⟨h.1, h.2.1, h.2.2.1, h.2.2.2.1, fun u => ?_⟩
  by_cases e : u = t
  · subst e
    simpa [State.setFwType] using Nat.le_trans (h.2.2.2.2 u) hx
  · simpa [State.setFwType, tblGet_tblSet_ne _ _ _ e] using h.2.2.2.2 u

theorem keep_modFwType {s : State} (t : Nat) (f : FwType → FwType) (h : Keep qq s) (hf : ∀ x, x.floor ≤ (f x).floor) :
    Keep qq (s.modFwType t f) := keep_setFwType t _ h (hf _)



theorem keep_setReg {s : State} (k : Nat) (v : Nat) (h_s : Keep qq s) :
    Keep qq (State.setReg s k v) := h_s

theorem keep_bump {s : State} (k : Nat) (n : Nat) (h_s : Keep qq s) :
    Keep qq (State.bump s k n) := h_s

theorem keep_bump64 {s : State} (k : Nat) (n : Nat) (h_s : Keep qq s) :
    Keep qq (State.bump64 s k n) := h_s

theorem keep_setBits {s : State} (k : Nat) (m : Nat) (h_s : Keep qq s) :
    Keep qq (State.setBits s k m) := h_s

theorem keep_clearBits {s : State} (k : Nat) (m : Nat) (h_s : Keep qq s) :
    Keep qq (State.clearBits s k m) := h_s

theorem keep_emit {s : State} (e : Emit) (h_s : Keep qq s) :
    Keep qq (State.emit s e) := h_s

theorem keep_emits {s : State} (es : List Emit) (h_s : Keep qq s) :
    Keep qq (State.emits s es) := h_s

theorem keep_draw {s : State} (h_s : Keep qq s) :
    Keep qq (State.draw s) := h_s

theorem keep_msix {s : State} (fn : Nat) (vec : Nat) (h_s : Keep qq s) :
    Keep qq (State.msix s fn vec) := by
  unfold State.msix
  repeat' (first | (with_reducible first | assumption | apply keepC_of | apply keep_emit | apply keep_ite | apply keep_pite | refine keep_fst (by assumption) ?_) | intro _ | simp only [keep_mk] | split | extract_lets | simp +zetaDelta only [keep_mk])

theorem keep_ledgerFull {s : State} (type : Nat) (source : Nat) (owner : Nat) (object : Nat) (code : Nat) (arg : Nat) (value : Nat) (h_s : Keep qq s) :
    Keep qq (State.ledgerFull s type source owner object code arg value) := by
  unfold State.ledgerFull
  repeat' (first | (with_reducible first | assumption | apply keepC_of | apply keep_bump | apply keep_ite | apply keep_pite | refine keep_fst (by assumption) ?_) | intro _ | simp only [keep_mk] | split | extract_lets | simp +zetaDelta only [keep_mk])

theorem keep_setCore {s : State} (c : Nat) (k : Core) (h_s : Keep qq s) :
    Keep qq (State.setCore s c k) := h_s

theorem keep_modCore {s : State} (c : Nat) (f : Core → Core) (h_s : Keep qq s) :
    Keep qq (State.modCore s c f) := h_s

theorem keep_setEngine {s : State} (e : Nat) (k : Engine) (h_s : Keep qq s) :
    Keep qq (State.setEngine s e k) := h_s

theorem keep_setBucket {s : State} (h : Nat) (b : Bucket) (h_s : Keep qq s) :
    Keep qq (State.setBucket s h b) := h_s

theorem keep_setGroup {s : State} (g : Nat) (k : Group) (h_s : Keep qq s) :
    Keep qq (State.setGroup s g k) := h_s

theorem keep_setRegion {s : State} (q : Nat) (k : Region) (h_s : Keep qq s) :
    Keep qq (State.setRegion s q k) := h_s

theorem keep_modRegion {s : State} (q : Nat) (f : Region → Region) (h_s : Keep qq s) :
    Keep qq (State.modRegion s q f) := h_s

theorem keep_setWay {s : State} (i : Nat) (k : WayKind) (h_s : Keep qq s) :
    Keep qq (State.setWay s i k) := h_s

theorem keep_setLine {s : State} (i : Nat) (k : Option CacheLine) (h_s : Keep qq s) :
    Keep qq (State.setLine s i k) := h_s

theorem keep_setTag {s : State} (i : Nat) (k : Option SectorTag) (h_s : Keep qq s) :
    Keep qq (State.setTag s i k) := h_s

theorem keep_setPoison {s : State} (i : Nat) (k : Bool) (h_s : Keep qq s) :
    Keep qq (State.setPoison s i k) := h_s

theorem keep_setL1 {s : State} (port : Nat) (k : List XltEntry) (h_s : Keep qq s) :
    Keep qq (State.setL1 s port k) := h_s

theorem keep_setL2 {s : State} (d : Nat) (k : List XltEntry) (h_s : Keep qq s) :
    Keep qq (State.setL2 s d k) := h_s

theorem keep_setInv {s : State} (p : Nat) (k : List Nat) (h_s : Keep qq s) :
    Keep qq (State.setInv s p k) := h_s

theorem keep_setInWin {s : State} (w : Nat) (k : InWin) (h_s : Keep qq s) :
    Keep qq (State.setInWin s w k) := h_s

theorem keep_setOutWin {s : State} (w : Nat) (k : OutWin) (h_s : Keep qq s) :
    Keep qq (State.setOutWin s w k) := h_s

theorem keep_setTxn {s : State} (t : Nat) (k : Option Txn) (h_s : Keep qq s) :
    Keep qq (State.setTxn s t k) := h_s

theorem keep_newTxn {s : State} (t : Txn) (h_s : Keep qq s) :
    Keep qq (State.newTxn s t) := h_s

theorem keep_setObj {s : State} (n : Nat) (k : SyncObj) (h_s : Keep qq s) :
    Keep qq (State.setObj s n k) := h_s

theorem keep_setTree {s : State} (k : Nat) (t : TreeNode) (h_s : Keep qq s) :
    Keep qq (State.setTree s k t) := h_s

theorem keep_setPart {s : State} (p : Nat) (k : Part) (h_s : Keep qq s) :
    Keep qq (State.setPart s p k) := h_s

theorem keep_modPart {s : State} (p : Nat) (f : Part → Part) (h_s : Keep qq s) :
    Keep qq (State.modPart s p f) := h_s

theorem keep_setPoolPage {s : State} (i : Nat) (k : Option PoolPage) (h_s : Keep qq s) :
    Keep qq (State.setPoolPage s i k) := h_s

theorem keep_setArena {s : State} (i : Nat) (k : Option Nat) (h_s : Keep qq s) :
    Keep qq (State.setArena s i k) := h_s

theorem keep_setLevel {s : State} (g : Nat) (k : Level) (h_s : Keep qq s) :
    Keep qq (State.setLevel s g k) := h_s

theorem keep_setPort {s : State} (m : Nat) (k : Port) (h_s : Keep qq s) :
    Keep qq (State.setPort s m k) := h_s

theorem keep_setTokens {s : State} (m : Nat) (k : Nat) (h_s : Keep qq s) :
    Keep qq (State.setTokens s m k) := h_s

theorem keep_setUrgency {s : State} (m : Nat) (k : Nat) (h_s : Keep qq s) :
    Keep qq (State.setUrgency s m k) := h_s

theorem keep_setServed {s : State} (i : Nat) (k : HomeWin) (h_s : Keep qq s) :
    Keep qq (State.setServed s i k) := h_s

theorem keep_setLnk {s : State} (i : Nat) (k : Link) (h_s : Keep qq s) :
    Keep qq (State.setLnk s i k) := h_s

theorem keep_modLnk {s : State} (i : Nat) (f : Link → Link) (h_s : Keep qq s) :
    Keep qq (State.modLnk s i f) := h_s

theorem keep_setCage {s : State} (i : Nat) (k : Cage) (h_s : Keep qq s) :
    Keep qq (State.setCage s i k) := h_s

theorem keep_modCage {s : State} (i : Nat) (f : Cage → Cage) (h_s : Keep qq s) :
    Keep qq (State.modCage s i f) := h_s

theorem keep_setClu {s : State} (k : Nat) (c : Cluster) (h_s : Keep qq s) :
    Keep qq (State.setClu s k c) := h_s

theorem keep_modClu {s : State} (k : Nat) (f : Cluster → Cluster) (h_s : Keep qq s) :
    Keep qq (State.modClu s k f) := h_s

theorem keep_setRxTxn {s : State} (i : Nat) (k : Option RxTxn) (h_s : Keep qq s) :
    Keep qq (State.setRxTxn s i k) := h_s

theorem keep_setSq {s : State} (fn : Nat) (r : Nat) (k : Sq) (h_s : Keep qq s) :
    Keep qq (State.setSq s fn r k) := h_s

theorem keep_setCq {s : State} (fn : Nat) (r : Nat) (k : Cq) (h_s : Keep qq s) :
    Keep qq (State.setCq s fn r k) := h_s

theorem keep_modDesc {s : State} (i : Nat) (f : HostDesc → HostDesc) (h_s : Keep qq s) :
    Keep qq (State.modDesc s i f) := h_s

theorem keep_hostWrite {s : State} (fn : Nat) (a : Nat) (bs : List Byte) (h_s : Keep qq s) :
    Keep qq (State.hostWrite s fn a bs) := by
  exact ⟨h_s.1, h_s.2.1, h_s.2.2.1, tblWf_tblSetRun _ _ h_s.2.2.2.1, h_s.2.2.2.2⟩

theorem keep_ledgerPart {s : State} (type : Nat) (p : Nat) (object : Nat) (code : Nat) (arg : Nat) (value : Nat) (h_s : Keep qq s) :
    Keep qq (State.ledgerPart s type p object code arg value) := by
  unfold State.ledgerPart
  repeat' (first | (with_reducible first | assumption | apply keep_ledgerFull | apply keep_ite) | intro _)

theorem keep_ledger {s : State} (type : Nat) (source : Nat) (object : Nat) (code : Nat) (value : Nat) (h_s : Keep qq s) :
    Keep qq (State.ledger s type source object code value) := by
  unfold State.ledger
  repeat' (first | (with_reducible first | assumption | apply keep_ledgerFull | apply keep_ite) | intro _)

theorem keep_drbg {s : State} (n : Nat) (h_s : Keep qq s) :
    Keep qq (State.drbg s n) := by
  unfold State.drbg
  repeat' (first | (with_reducible first | assumption | apply keepC_of | apply keep_ite | apply keep_pite | refine keep_fst (by assumption) ?_) | intro _ | simp only [keep_mk] | split | extract_lets | simp +zetaDelta only [keep_mk])

theorem keep_newKey {s : State} (h_s : Keep qq s) :
    Keep qq (State.newKey s).1 := by
  unfold State.newKey
  repeat' (first | (with_reducible first | assumption | apply keepC_of | apply keep_drbg | apply keep_ite | apply keep_pite | refine keep_fst (by assumption) ?_) | intro _ | simp only [keep_mk] | split | extract_lets | simp +zetaDelta only [keep_mk])

theorem keep_setInst {s : State} (v : Nat) (k : Inst) (h_s : Keep qq s) :
    Keep qq (State.setInst s v k) := h_s

theorem keep_modInst {s : State} (v : Nat) (f : Inst → Inst) (h_s : Keep qq s) :
    Keep qq (State.modInst s v f) := h_s

theorem keep_mbEvent {s : State} (p : Nat) (type : Nat) (detail : Nat) (h_s : Keep qq s) :
    Keep qq (State.mbEvent s p type detail) := by
  unfold State.mbEvent
  repeat' (first | (with_reducible first | assumption | apply keep_ledgerPart | apply keep_setInst | apply keep_msix | apply keep_ite) | intro _ | simp only [keep_mk] | split)

theorem keep_setSlack {s : State} (e : Nat) (k : Slack) (h_s : Keep qq s) :
    Keep qq (State.setSlack s e k) := h_s

theorem keep_takeSlack {s : State} (h_s : Keep qq s) :
    Keep qq (State.takeSlack s).1 := by
  unfold State.takeSlack
  repeat' (first | (with_reducible first | assumption | apply keep_bump | apply keep_ite) | intro _ | simp only [keep_mk] | split)

theorem keep_phaseEnd {s : State} (c : Nat) (h_s : Keep qq s) :
    Keep qq (State.phaseEnd s c) := by
  unfold State.phaseEnd
  repeat' (first | (with_reducible first | assumption | apply keepC_of | apply keep_takeSlack | apply keep_setSlack | apply keep_ite | apply keep_pite | refine keep_fst (by assumption) ?_) | intro _ | simp only [keep_mk] | split | extract_lets | simp +zetaDelta only [keep_mk])

theorem keep_tellFault {s : State} (p : Nat) (vcore : Nat) (code : Nat) (h_s : Keep qq s) :
    Keep qq (State.tellFault s p vcore code) := by
  unfold State.tellFault
  repeat' (first | (with_reducible first | assumption | apply keep_emit | apply keep_emits | apply keep_ite) | intro _)

theorem keep_launchFault {s : State} (p : Nat) (c : Nat) (code : Nat) (h_s : Keep qq s) :
    Keep qq (State.launchFault s p c code) := by
  unfold State.launchFault
  repeat' (first | (with_reducible first | assumption | apply keepC_of | apply keep_modPart | apply keep_tellFault | apply keep_ite | apply keep_pite | refine keep_fst (by assumption) ?_) | intro _ | simp only [keep_mk] | split | extract_lets | simp +zetaDelta only [keep_mk])

theorem keep_seqFault {s : State} (c : Nat) (code : Nat) (h_s : Keep qq s) :
    Keep qq (State.seqFault s c code) := by
  unfold State.seqFault
  repeat' (first | (with_reducible first | assumption | apply keep_launchFault | apply keep_modCore | apply keep_ite) | intro _)

theorem keep_openLine {s : State} (c : Nat) (off : Nat) (h_s : Keep qq s) :
    Keep qq (State.openLine s c off) := by
  unfold State.openLine
  repeat' (first | (with_reducible first | assumption | apply keepC_of | apply keep_ite | apply keep_pite | apply keep_foldl | apply keepC_run | apply keepC_clear | apply keepC_move | apply keepC_spad | apply keepC_spadNil | apply keepC_spadMove | apply keepC_spadClear | apply keepC_host | refine keep_fst (by assumption) ?_) | intro _ | simp only [keep_mk] | split | extract_lets | simp +zetaDelta only [keep_mk])

theorem keep_spadPut {s : State} (c : Nat) (lo : Nat) (hi : Nat) (off : Nat) (b : Byte) (h_s : Keep qq s) :
    Keep qq (State.spadPut s c lo hi off b) := by
  unfold State.spadPut
  repeat' (first | (with_reducible first | assumption | apply keepC_of | apply keep_openLine | apply keep_ite | apply keep_pite | apply keep_foldl | apply keepC_run | apply keepC_clear | apply keepC_move | apply keepC_spad | apply keepC_spadNil | apply keepC_spadMove | apply keepC_spadClear | apply keepC_host | refine keep_fst (by assumption) ?_) | intro _ | simp only [keep_mk] | split | extract_lets | simp +zetaDelta only [keep_mk])

theorem keep_spadPuts {s : State} (c : Nat) (lo : Nat) (hi : Nat) (off : Nat) (a6 : List Byte) (h_s : Keep qq s) :
    Keep qq (State.spadPuts s c lo hi off a6) := by
  revert h_s
  fun_induction State.spadPuts s c lo hi off a6
  all_goals intros
  all_goals (repeat' (first | (with_reducible first | assumption | apply keep_spadPut | apply keep_ite) | intro _ | apply_assumption))

theorem keep_spadWrite {s : State} (c : Nat) (off : Nat) (bs : List Byte) (h_s : Keep qq s) :
    Keep qq (State.spadWrite s c off bs) := by
  unfold State.spadWrite
  repeat' (first | (with_reducible first | assumption | apply keepC_of | apply keep_spadPuts | apply keep_ite | apply keep_pite | refine keep_fst (by assumption) ?_) | intro _ | simp only [keep_mk] | split | extract_lets | simp +zetaDelta only [keep_mk])

theorem keep_spadSetWord {s : State} (c : Nat) (off : Nat) (v : Nat) (h_s : Keep qq s) :
    Keep qq (State.spadSetWord s c off v) := by
  unfold State.spadSetWord
  repeat' (first | (with_reducible first | assumption | apply keep_spadWrite | apply keep_ite) | intro _)

theorem keep_flashClear {s : State} (k : Nat) (h_s : Keep qq s) :
    Keep qq (State.flashClear s k) := h_s

theorem keep_countPoison {s : State} (c : Nat) (n : Nat) (h_s : Keep qq s) :
    Keep qq (State.countPoison s c n) := h_s

theorem keep_calm {s : State} (sec : Nat) (h_s : Keep qq s) :
    Keep qq (State.calm s sec) := h_s

theorem keep_markPoison {s : State} (sec : Nat) (h_s : Keep qq s) :
    Keep qq (State.markPoison s sec) := h_s

theorem keep_dropPoison {s : State} (sec : Nat) (h_s : Keep qq s) :
    Keep qq (State.dropPoison s sec) := h_s

theorem keep_memRecord {s : State} (code : Nat) (a : Nat) (h_s : Keep qq s) :
    Keep qq (State.memRecord s code a) := by
  unfold State.memRecord
  repeat' (first | (with_reducible first | assumption | apply keep_ledgerPart | apply keep_ledger | apply keep_ite) | intro _ | simp only [keep_mk] | split)

theorem keep_corrected {s : State} (a : Nat) (h_s : Keep qq s) :
    Keep qq (State.corrected s a) := by
  unfold State.corrected
  repeat' (first | (with_reducible first | assumption | apply keep_memRecord | apply keep_bump | apply keep_calm | apply keep_ite) | intro _)

theorem keep_uncorrected {s : State} (a : Nat) (h_s : Keep qq s) :
    Keep qq (State.uncorrected s a) := by
  unfold State.uncorrected
  repeat' (first | (with_reducible first | assumption | apply keep_memRecord | apply keep_bump | apply keep_markPoison | apply keep_ite) | intro _)

theorem keep_integrityAlarm {s : State} (p : Nat) (ipa : Nat) (h_s : Keep qq s) :
    Keep qq (State.integrityAlarm s p ipa) := by
  unfold State.integrityAlarm
  repeat' (first | (with_reducible first | assumption | apply keep_mbEvent | apply keep_ledgerPart | apply keep_msix | apply keep_setBits | apply keep_ite) | intro _)

theorem keep_loseLine {s : State} (sec : Nat) (h_s : Keep qq s) :
    Keep qq (State.loseLine s sec) := by
  unfold State.loseLine
  repeat' (first | (with_reducible first | assumption | apply keep_memRecord | apply keep_markPoison | apply keep_ite) | intro _)

theorem keep_writeBack {s : State} (sec : Nat) (h_s : Keep qq s) :
    Keep qq (State.writeBack s sec) := by
  unfold State.writeBack
  repeat' (first | (with_reducible first | assumption | apply keep_uncorrected | apply keep_calm | apply keep_dropPoison | apply keep_ite) | intro _)

theorem keep_evict {s : State} (sec : Nat) (l : CacheLine) (h_s : Keep qq s) :
    Keep qq (State.evict s sec l) := by
  unfold State.evict
  repeat' (first | (with_reducible first | assumption | apply keep_setLine | apply keep_loseLine | apply keep_writeBack | apply keep_bump | apply keep_corrected | apply keep_ite) | intro _ | simp only [keep_mk] | split)

theorem keep_takeWay {s : State} (a : Nat) (ways : List Nat) {t_ : State} {w_ : _} (h_s : Keep qq s) (e_ : State.takeWay s a ways = some (w_, t_)) :
    Keep qq t_ := by
  unfold State.takeWay at e_
  dsimp only at e_
  repeat' split at e_
  all_goals first | (cases e_; done) | (cases e_; repeat' (first | (with_reducible first | assumption | apply keepC_of | apply keep_evict | apply keep_ite | apply keep_pite | refine keep_fst (by assumption) ?_) | intro _ | simp only [keep_mk] | split | extract_lets | simp +zetaDelta only [keep_mk]))

theorem keep_touchLine {s : State} (a : Nat) (p : Nat) (valid : Nat) (dirty : Nat) (h_s : Keep qq s) :
    Keep qq (State.touchLine s a p valid dirty) := by
  unfold State.touchLine
  repeat' (first | (with_reducible first | assumption | apply keepC_of | apply keep_setLine | apply keep_ite | apply keep_pite | refine keep_takeWay _ _ ?_ (by assumption) | refine keep_fst (by assumption) ?_) | intro _ | simp only [keep_mk] | split | extract_lets | simp +zetaDelta only [keep_mk])

theorem keep_charge {s : State} (g : Nat) (p : Nat) (cost : Nat) (n : Nat) (paid : Bool) (h_s : Keep qq s) :
    Keep qq (State.charge s g p cost n paid) := by
  unfold State.charge
  repeat' (first | (with_reducible first | assumption | apply keep_setServed | apply keep_ite) | intro _)

theorem keep_stackRead {s : State} (p : Nat) (ipa : Nat) (a : Nat) (n : Nat) (e : Ecc) (paid : Bool) (h_s : Keep qq s) :
    Keep qq (State.stackRead s p ipa a n e paid).1 := by
  unfold State.stackRead
  repeat' (first | (with_reducible first | assumption | apply keep_charge | apply keep_uncorrected | apply keep_corrected | apply keep_touchLine | apply keep_integrityAlarm | apply keep_ite) | intro _ | simp only [keep_mk] | split)

theorem keep_dropBad {s : State} (a : Nat) (l : CacheLine) (h_s : Keep qq s) :
    Keep qq (State.dropBad s a l) := by
  unfold State.dropBad
  repeat' (first | (with_reducible first | assumption | apply keep_bump | apply keep_setLine | apply keep_loseLine | apply keep_ite) | intro _)

theorem keep_homeRead {s : State} (p : Nat) (ipa : Nat) (a : Nat) (n : Nat) (e : Ecc) (paid : Bool) (h_s : Keep qq s) :
    Keep qq (State.homeRead s p ipa a n e paid).1 := by
  unfold State.homeRead
  repeat' (first | (with_reducible first | assumption | apply keep_ledgerPart | apply keep_integrityAlarm | apply keep_stackRead | apply keep_dropBad | apply keep_charge | apply keep_touchLine | apply keep_ite) | intro _ | simp only [keep_mk] | split)

theorem keep_storeSector {s : State} (p : Nat) (ipa : Nat) (a : Nat) (bs : List Byte) (h_s : Keep qq s) :
    Keep qq (State.storeSector s p ipa a bs) := by
  unfold State.storeSector
  repeat' (first | (with_reducible first | assumption | apply keepC_of | apply keep_setTag | apply keep_dropPoison | apply keep_modRegion | apply keep_touchLine | apply keep_ite | apply keep_pite | apply keep_foldl | apply keepC_run | apply keepC_clear | apply keepC_move | apply keepC_spad | apply keepC_spadNil | apply keepC_spadMove | apply keepC_spadClear | apply keepC_host | refine keep_fst (by assumption) ?_) | intro _ | simp only [keep_mk] | split | extract_lets | simp +zetaDelta only [keep_mk])

theorem keep_stackWrite {s : State} (p : Nat) (ipa : Nat) (a : Nat) (bs : List Byte) (e : Ecc) (h_s : Keep qq s) :
    Keep qq (State.stackWrite s p ipa a bs e).1 := by
  unfold State.stackWrite
  repeat' (first | (with_reducible first | assumption | apply keep_uncorrected | apply keep_calm | apply keep_storeSector | apply keep_ite) | intro _ | simp only [keep_mk] | split)

theorem keep_partWrite {s : State} (p : Nat) (ipa : Nat) (a : Nat) (bs : List Byte) (e : Ecc) (paid : Bool) (h_s : Keep qq s) :
    Keep qq (State.partWrite s p ipa a bs e paid).1 := by
  unfold State.partWrite
  repeat' (first | (with_reducible first | assumption | apply keep_charge | apply keep_storeSector | apply keep_integrityAlarm | apply keep_uncorrected | apply keep_stackWrite | apply keep_corrected | apply keep_ite) | intro _ | simp only [keep_mk] | split)

theorem keep_healLine {s : State} (sec : Nat) (h_s : Keep qq s) :
    Keep qq (State.healLine s sec) := by
  unfold State.healLine
  repeat' (first | (with_reducible first | assumption | apply keep_setLine | apply keep_ite) | intro _ | simp only [keep_mk] | split)

theorem keep_homeWrite {s : State} (p : Nat) (ipa : Nat) (a : Nat) (bs : List Byte) (e : Ecc) (paid : Bool) (h_s : Keep qq s) :
    Keep qq (State.homeWrite s p ipa a bs e paid).1 := by
  unfold State.homeWrite
  repeat' (first | (with_reducible first | assumption | apply keep_ledgerPart | apply keep_integrityAlarm | apply keep_modRegion | apply keep_charge | apply keep_storeSector | apply keep_healLine | apply keep_stackWrite | apply keep_partWrite | apply keep_dropBad | apply keep_ite) | intro _ | simp only [keep_mk] | split)

theorem keep_clearRange {s : State} (lo : Nat) (hi : Nat) (h_s : Keep qq s) :
    Keep qq (State.clearRange s lo hi) := by
  unfold State.clearRange
  repeat' (first | (with_reducible first | assumption | apply keepC_of | apply keep_ite | apply keep_pite | apply keep_foldl | apply keepC_run | apply keepC_clear | apply keepC_move | apply keepC_spad | apply keepC_spadNil | apply keepC_spadMove | apply keepC_spadClear | apply keepC_host | refine keep_fst (by assumption) ?_) | intro _ | simp only [keep_mk] | split | extract_lets | simp +zetaDelta only [keep_mk])

theorem keep_takeTokens {s : State} (port : Nat) (cls : Nat) (g : Nat) (n : Nat) (h_s : Keep qq s) :
    Keep qq (State.takeTokens s port cls g n) := by
  unfold State.takeTokens
  repeat' (first | (with_reducible first | assumption | apply keep_setTokens | apply keep_ite) | intro _)

theorem keep_hostGoes {s : State} (fn : Nat) (a : Nat) (h_s : Keep qq s) :
    Keep qq (State.hostGoes s fn a) := by
  unfold State.hostGoes
  repeat' (first | (with_reducible first | assumption | apply keep_emit | apply keep_ite) | intro _)

theorem keep_stage2At {s : State} (d : Nat) (p : Nat) (ipa : Nat) (h_s : Keep qq s) :
    Keep qq (State.stage2At s d p ipa).1 := by
  unfold State.stage2At
  repeat' (first | (with_reducible first | assumption | apply keep_setL2 | apply keep_ite) | intro _ | simp only [keep_mk] | split)

theorem keep_readTable {s : State} (d : Nat) (p : Nat) (ipa : Nat) (h_s : Keep qq s) :
    Keep qq (State.readTable s d p ipa).1 := by
  unfold State.readTable
  repeat' (first | (with_reducible first | assumption | apply keepC_of | apply keep_stage2At | apply keep_hostGoes | apply keep_homeRead | apply keep_ite | apply keep_pite | refine keep_fst (by assumption) ?_) | intro _ | simp only [keep_mk] | split | extract_lets | simp +zetaDelta only [keep_mk])

theorem keep_s1Walk {s : State} (d : Nat) (p : Nat) (va : Nat) (a5 : Nat) (a6 : Nat) (h_s : Keep qq s) :
    Keep qq (State.s1Walk s d p va a5 a6).1 := by
  revert h_s
  fun_induction State.s1Walk s d p va a5 a6
  all_goals intros
  all_goals (repeat' (first | (with_reducible first | assumption | apply keepC_of | apply keep_readTable | apply keep_ite | apply keep_pite | refine keep_fst (by assumption) ?_) | intro _ | simp only [keep_mk] | split | extract_lets | simp +zetaDelta only [keep_mk] | apply_assumption))

theorem keep_walk {s : State} (d : Nat) (p : Nat) (va : Nat) (write : Bool) (h_s : Keep qq s) :
    Keep qq (State.walk s d p va write).1 := by
  unfold State.walk
  repeat' (first | (with_reducible first | assumption | apply keepC_of | apply keep_s1Walk | apply keep_stage2At | apply keep_ledgerPart | apply keep_ite | apply keep_pite | refine keep_fst (by assumption) ?_) | intro _ | simp only [keep_mk] | split | extract_lets | simp +zetaDelta only [keep_mk])

theorem keep_xltFault {s : State} (p : Nat) (port : Nat) (write : Bool) (f : XFault) (h_s : Keep qq s) :
    Keep qq (State.xltFault s p port write f) := by
  unfold State.xltFault
  repeat' (first | (with_reducible first | assumption | apply keep_setReg | apply keep_ledgerPart | apply keep_bump | apply keep_mbEvent | apply keep_msix | apply keep_ite) | intro _)

theorem keep_fillL1 {s : State} (e : Nat) (x : XltEntry) (h_s : Keep qq s) :
    Keep qq (State.fillL1 s e x) := by
  unfold State.fillL1
  repeat' (first | (with_reducible first | assumption | apply keep_setL1 | apply keep_ite) | intro _)

theorem keep_translate {s : State} (e : Nat) (p : Nat) (va : Nat) (write : Bool) (h_s : Keep qq s) :
    Keep qq (State.translate s e p va write).1 := by
  unfold State.translate
  repeat' (first | (with_reducible first | assumption | apply keepC_of | apply keep_setL1 | apply keep_fillL1 | apply keep_bump | apply keep_walk | apply keep_setL2 | apply keep_xltFault | apply keep_ite | apply keep_pite | refine keep_fst (by assumption) ?_) | intro _ | simp only [keep_mk] | split | extract_lets | simp +zetaDelta only [keep_mk])

theorem keep_dropXlt {s : State} (f : XltEntry → Bool) (h_s : Keep qq s) :
    Keep qq (State.dropXlt s f) := h_s

theorem keep_purgeXlt {s : State} (f : XltEntry → Bool) (h_s : Keep qq s) :
    Keep qq (State.purgeXlt s f) := h_s

theorem keep_spend {s : State} (e : Nat) (p : Nat) (a : Nat) (n : Nat) (h_s : Keep qq s) :
    Keep qq (State.spend s e p a n) := by
  unfold State.spend
  repeat' (first | (with_reducible first | assumption | apply keep_takeTokens | apply keep_ite) | intro _)

theorem keep_readVa {s : State} (e : Nat) (p : Nat) (va : Nat) (n : Nat) (a6 : Nat) (h_s : Keep qq s) :
    Keep qq (State.readVa s e p va n a6).1 := by
  revert h_s
  fun_induction State.readVa s e p va n a6
  all_goals intros
  all_goals (repeat' (first | (with_reducible first | assumption | apply keepC_of | apply keep_translate | apply keep_xltFault | apply keep_hostGoes | apply keep_homeRead | apply keep_spend | apply keep_ite | apply keep_pite | refine keep_fst (by assumption) ?_) | intro _ | simp only [keep_mk] | split | extract_lets | simp +zetaDelta only [keep_mk] | apply_assumption))

theorem keep_writeVa {s : State} (e : Nat) (p : Nat) (va : Nat) (bs : List Byte) (a6 : Nat) (h_s : Keep qq s) :
    Keep qq (State.writeVa s e p va bs a6).1 := by
  revert h_s
  fun_induction State.writeVa s e p va bs a6
  all_goals intros
  all_goals (repeat' (first | (with_reducible first | assumption | apply keepC_of | apply keep_translate | apply keep_xltFault | apply keep_hostWrite | apply keep_hostGoes | apply keep_homeWrite | apply keep_spend | apply keep_ite | apply keep_pite | refine keep_fst (by assumption) ?_) | intro _ | simp only [keep_mk] | split | extract_lets | simp +zetaDelta only [keep_mk] | apply_assumption))

theorem keep_readIpa {s : State} (fd : Nat) (p : Nat) (ipa : Nat) (n : Nat) (a6 : Nat) (h_s : Keep qq s) :
    Keep qq (State.readIpa s fd p ipa n a6).1 := by
  revert h_s
  fun_induction State.readIpa s fd p ipa n a6
  all_goals intros
  all_goals (repeat' (first | (with_reducible first | assumption | apply keepC_of | apply keep_stage2At | apply keep_xltFault | apply keep_hostGoes | apply keep_homeRead | apply keep_spend | apply keep_ite | apply keep_pite | refine keep_fst (by assumption) ?_) | intro _ | simp only [keep_mk] | split | extract_lets | simp +zetaDelta only [keep_mk] | apply_assumption))

theorem keep_writeIpa {s : State} (fd : Nat) (p : Nat) (ipa : Nat) (bs : List Byte) (a6 : Nat) (h_s : Keep qq s) :
    Keep qq (State.writeIpa s fd p ipa bs a6).1 := by
  revert h_s
  fun_induction State.writeIpa s fd p ipa bs a6
  all_goals intros
  all_goals (repeat' (first | (with_reducible first | assumption | apply keepC_of | apply keep_stage2At | apply keep_xltFault | apply keep_hostWrite | apply keep_hostGoes | apply keep_homeWrite | apply keep_spend | apply keep_ite | apply keep_pite | refine keep_fst (by assumption) ?_) | intro _ | simp only [keep_mk] | split | extract_lets | simp +zetaDelta only [keep_mk] | apply_assumption))

theorem keep_serve {s : State} (r : HeldReq) (h_s : Keep qq s) :
    Keep qq (State.serve s r) := by
  unfold State.serve
  repeat' (first | (with_reducible first | assumption | apply keepC_of | apply keep_homeRead | apply keep_emit | apply keep_homeWrite | apply keep_ite | apply keep_pite | refine keep_fst (by assumption) ?_) | intro _ | simp only [keep_mk] | split | extract_lets | simp +zetaDelta only [keep_mk])

theorem keep_request {s : State} (r : HeldReq) (others : List ReqInfo) (h_s : Keep qq s) :
    Keep qq (State.request s r others) := by
  unfold State.request
  repeat' (first | (with_reducible first | assumption | apply keep_setPort | apply keep_serve | apply keep_takeTokens | apply keep_ite) | intro _)

theorem keep_pumpHeldReqs {s : State} (m : Nat) (a3 : List HeldReq) (h_s : Keep qq s) :
    Keep qq (State.pumpHeldReqs s m a3) := by
  revert h_s
  fun_induction State.pumpHeldReqs s m a3
  all_goals intros
  all_goals (repeat' (first | (with_reducible first | assumption | apply keep_setPort | apply keep_serve | apply keep_takeTokens | apply keep_ite) | intro _ | apply_assumption))

theorem keep_pumpPorts {s : State} (a2 : List Nat) (h_s : Keep qq s) :
    Keep qq (State.pumpPorts s a2) := by
  revert h_s
  fun_induction State.pumpPorts s a2
  all_goals intros
  all_goals (repeat' (first | (with_reducible first | assumption | apply keep_pumpHeldReqs | apply keep_ite) | intro _ | apply_assumption))

theorem keep_execMemRead (me : ReqInfo) (others : List ReqInfo) (ipa : Fin 281474976710656) (a : Fin 4398046511104) (n : Nat) (ecc : Ecc) {s : State} (h_s : Keep qq s) :
    KeepO qq (execMemRead me others ipa a n ecc s) := by
  unfold execMemRead
  repeat' (first | (with_reducible first | assumption | apply keepO_next | apply keep_request | apply keep_ite) | intro _)

theorem keep_execMemWrite (me : ReqInfo) (others : List ReqInfo) (ipa : Fin 281474976710656) (a : Fin 4398046511104) (bs : List Byte) (ecc : Ecc) {s : State} (h_s : Keep qq s) :
    KeepO qq (execMemWrite me others ipa a bs ecc s) := by
  unfold execMemWrite
  repeat' (first | (with_reducible first | assumption | apply keepO_next | apply keep_request | apply keep_ite) | intro _)

theorem keep_withhold {s : State} (a : Nat) (h_s : Keep qq s) :
    Keep qq (State.withhold s a) := by
  unfold State.withhold
  repeat' (first | (with_reducible first | assumption | apply keepC_of | apply keep_ledger | apply keep_ite | apply keep_pite | refine keep_fst (by assumption) ?_) | intro _ | simp only [keep_mk] | split | extract_lets | simp +zetaDelta only [keep_mk])

theorem keep_scrubPoison {s : State} (a : Nat) (h_s : Keep qq s) :
    Keep qq (State.scrubPoison s a) := by
  unfold State.scrubPoison
  repeat' (first | (with_reducible first | assumption | apply keep_bump | apply keep_markPoison | apply keep_mbEvent | apply keep_ledgerPart | apply keep_withhold | apply keep_ledger | apply keep_ite) | intro _ | simp only [keep_mk] | split)

theorem keep_scrubTag {s : State} (g : Nat) (a : Nat) (e : Ecc) (h_s : Keep qq s) :
    Keep qq (State.scrubTag s g a e) := by
  unfold State.scrubTag
  repeat' (first | (with_reducible first | assumption | apply keep_bump | apply keep_ledger | apply keep_ite) | intro _ | simp only [keep_mk] | split)

theorem keep_scrubNext {s : State} (h_s : Keep qq s) :
    Keep qq (State.scrubNext s) := by
  unfold State.scrubNext
  repeat' (first | (with_reducible first | assumption | apply keepC_of | apply keep_bump | apply keep_ite | apply keep_pite | refine keep_fst (by assumption) ?_) | intro _ | simp only [keep_mk] | split | extract_lets | simp +zetaDelta only [keep_mk])

theorem keep_scrubCheck {s : State} (g : Nat) (i : Nat) (ecc : Ecc) (raced : Bool) (h_s : Keep qq s) :
    Keep qq (State.scrubCheck s g i ecc raced) := by
  unfold State.scrubCheck
  repeat' (first | (with_reducible first | assumption | apply keep_scrubTag | apply keep_bump | apply keep_calm | apply keep_scrubPoison | apply keep_ite) | intro _ | simp only [keep_mk] | split)

theorem keep_execScrubRead (ecc : Ecc) (raced : Bool) (heavy : Bool) {s : State} (h_s : Keep qq s) :
    KeepO qq (execScrubRead ecc raced heavy s) := by
  unfold execScrubRead
  repeat' (first | (with_reducible first | assumption | apply keepO_next | apply keepO_ite | exact keepO_fault | apply keepC_of | apply keep_scrubCheck | apply keep_takeTokens | apply keep_scrubNext | apply keep_ite | apply keep_pite | refine keep_fst (by assumption) ?_) | intro _ | simp only [keep_mk] | split | extract_lets | simp +zetaDelta only [keep_mk])

theorem keep_execRefresh (ch : ChannelId) {s : State} (h_s : Keep qq s) :
    KeepO qq (execRefresh ch s) := by
  unfold execRefresh
  repeat' (first | (with_reducible first | assumption | apply keepO_next | apply keepO_ite | exact keepO_fault | apply keepC_of | apply keep_ite | apply keep_pite | refine keep_fst (by assumption) ?_) | intro _ | simp only [keep_mk] | split | extract_lets | simp +zetaDelta only [keep_mk])

theorem keep_execStackTempRead (st : StackId) (temp : Fin 256) {s : State} (h_s : Keep qq s) :
    KeepO qq (execStackTempRead st temp s) := by
  unfold execStackTempRead
  repeat' (first | (with_reducible first | assumption | apply keepO_next | apply keep_setReg | apply keep_ledger | apply keep_ite) | intro _)

theorem keep_cleanLines {s : State} (a2 : List (Nat × CacheLine)) (h_s : Keep qq s) :
    Keep qq (State.cleanLines s a2) := by
  revert h_s
  fun_induction State.cleanLines s a2
  all_goals intros
  all_goals (repeat' (first | (with_reducible first | assumption | apply keep_evict | apply keep_ite) | intro _ | apply_assumption))

theorem keep_execWayMoveDone (g : GroupId) (w : Fin 16) {s : State} (h_s : Keep qq s) :
    KeepO qq (execWayMoveDone g w s) := by
  unfold execWayMoveDone
  repeat' (first | (with_reducible first | assumption | apply keepO_next | apply keep_setWay | apply keep_cleanLines | apply keep_setGroup | apply keep_ite) | intro _ | simp only [keep_mk] | split)

theorem keep_takeRegions {s : State} (p : Nat) (g : Nat) (a4 : List Nat) (h_s : Keep qq s) :
    Keep qq (State.takeRegions s p g a4) := by
  revert h_s
  fun_induction State.takeRegions s p g a4
  all_goals intros
  all_goals (repeat' (first | (with_reducible first | assumption | apply keep_newKey | apply keep_setRegion | apply keep_ite) | intro _ | apply_assumption))

theorem keep_giveTakings {s : State} (g : Nat) (a3 : List Taking) (h_s : Keep qq s) :
    Keep qq (State.giveTakings s g a3) := by
  revert h_s
  fun_induction State.giveTakings s g a3
  all_goals intros
  all_goals (repeat' (first | (with_reducible first | assumption | apply keep_takeRegions | apply keep_setGroup | apply keep_ite) | intro _ | apply_assumption))

theorem keep_wakeGroup {s : State} (g : Nat) (h_s : Keep qq s) :
    Keep qq (State.wakeGroup s g) := by
  unfold State.wakeGroup
  repeat' (first | (with_reducible first | assumption | apply keep_giveTakings | apply keep_setGroup | apply keep_ite) | intro _)

theorem keep_execSelfRefreshExit (g : GroupId) {s : State} (h_s : Keep qq s) :
    KeepO qq (execSelfRefreshExit g s) := by
  unfold execSelfRefreshExit
  repeat' (first | (with_reducible first | assumption | apply keepO_next | apply keep_wakeGroup | apply keep_ite) | intro _)

theorem keep_freeIfEmpty {s : State} (g : Nat) (h_s : Keep qq s) :
    Keep qq (State.freeIfEmpty s g) := by
  unfold State.freeIfEmpty
  repeat' (first | (with_reducible first | assumption | apply keep_setGroup | apply keep_ite) | intro _)

theorem keep_withholdAll {s : State} (a2 : List (Nat × Bool)) (h_s : Keep qq s) :
    Keep qq (State.withholdAll s a2) := by
  revert h_s
  fun_induction State.withholdAll s a2
  all_goals intros
  all_goals (repeat' (first | (with_reducible first | assumption | apply keep_withhold | apply keep_ite) | intro _ | apply_assumption))

theorem keep_regionCleared {s : State} (q : Nat) (h_s : Keep qq s) :
    Keep qq (State.regionCleared s q) := by
  unfold State.regionCleared
  repeat' (first | (with_reducible first | assumption | apply keep_withholdAll | apply keep_freeIfEmpty | apply keep_setRegion | apply keep_clearRange | apply keep_ite) | intro _)

theorem keep_execGroupLevelSample (g : GroupId) (level : Fin 129) {s : State} (h_s : Keep qq s) :
    KeepO qq (execGroupLevelSample g level s) := by
  unfold execGroupLevelSample
  repeat' (first | (with_reducible first | assumption | apply keepO_next | apply keep_pumpPorts | apply keep_setLevel | apply keep_ite) | intro _)

theorem keep_execTokenRefill (m : PortId) {s : State} (h_s : Keep qq s) :
    KeepO qq (execTokenRefill m s) := by
  unfold execTokenRefill
  repeat' (first | (with_reducible first | assumption | apply keepO_next | apply keep_pumpPorts | apply keep_setTokens | apply keep_ite) | intro _)

theorem keep_execUrgencyChange (m : PortId) (measured : Nat) {s : State} (h_s : Keep qq s) :
    KeepO qq (execUrgencyChange m measured s) := by
  unfold execUrgencyChange
  repeat' (first | (with_reducible first | assumption | apply keepO_next | apply keep_setUrgency | apply keep_ite) | intro _)

theorem keep_execRequestAgePromote (m : PortId) (p : PartId) (a : Fin 4398046511104) {s : State} (h_s : Keep qq s) :
    KeepO qq (execRequestAgePromote m p a s) := by
  unfold execRequestAgePromote
  repeat' (first | (with_reducible first | assumption | apply keepO_next | apply keepO_ite | exact keepO_fault | apply keepC_of | apply keep_ite | apply keep_pite | refine keep_fst (by assumption) ?_) | intro _ | simp only [keep_mk] | split | extract_lets | simp +zetaDelta only [keep_mk])

theorem keep_miss {s : State} (g : Nat) (p : Nat) (served : Nat) (demand : Nat) (h_s : Keep qq s) :
    Keep qq (State.miss s g p served demand) := by
  unfold State.miss
  repeat' (first | (with_reducible first | assumption | apply keep_bump | apply keep_setBits | apply keep_ledgerPart | apply keep_msix | apply keep_mbEvent | apply keep_ite) | intro _)

theorem keep_judge {s : State} (g : Nat) (p : Nat) (busy : Bool) (w : Window) (h_s : Keep qq s) :
    Keep qq (State.judge s g p busy w) := by
  unfold State.judge
  repeat' (first | (with_reducible first | assumption | apply keep_bump | apply keep_miss | apply keep_ite) | intro _)

theorem keep_judgeAll {s : State} (g : Nat) (busy : Bool) (ws : List Window) (a5 : List Nat) (h_s : Keep qq s) :
    Keep qq (State.judgeAll s g busy ws a5) := by
  revert h_s
  fun_induction State.judgeAll s g busy ws a5
  all_goals intros
  all_goals (repeat' (first | (with_reducible first | assumption | apply keep_judge | apply keep_ite) | intro _ | apply_assumption))

theorem keep_execMonitorWindowClose (g : GroupId) (busy : Bool) (ws : List Window) {s : State} (h_s : Keep qq s) :
    KeepO qq (execMonitorWindowClose g busy ws s) := by
  unfold execMonitorWindowClose
  repeat' (first | (with_reducible first | assumption | apply keepO_next | apply keepO_ite | exact keepO_fault | apply keepC_of | apply keep_judgeAll | apply keep_setGroup | apply keep_ite | apply keep_pite | refine keep_fst (by assumption) ?_) | intro _ | simp only [keep_mk] | split | extract_lets | simp +zetaDelta only [keep_mk])

theorem keep_dropFlit {s : State} (off : Nat) (h_s : Keep qq s) :
    Keep qq (State.dropFlit s off) := by
  unfold State.dropFlit
  repeat' (first | (with_reducible first | assumption | apply keep_ledger | apply keep_bump | apply keep_ite) | intro _)

theorem keep_freeRx {s : State} (f : Flit) (h_s : Keep qq s) :
    Keep qq (State.freeRx s f) := by
  unfold State.freeRx
  repeat' (first | (with_reducible first | assumption | apply keep_modLnk | apply keep_ite) | intro _ | simp only [keep_mk] | split)

theorem keep_freeRxs {s : State} (a2 : List LFlit) (h_s : Keep qq s) :
    Keep qq (State.freeRxs s a2) := by
  revert h_s
  fun_induction State.freeRxs s a2
  all_goals intros
  all_goals (repeat' (first | (with_reducible first | assumption | apply keep_freeRx | apply keep_ite) | intro _ | apply_assumption))

theorem keep_dropSlots {s : State} (i : Nat) (h_s : Keep qq s) :
    Keep qq (State.dropSlots s i) := h_s

theorem keep_sendBundle {s : State} (i : Nat) (fs : List LFlit) (h_s : Keep qq s) :
    Keep qq (State.sendBundle s i fs) := h_s

theorem keep_pumpLink {s : State} (i : Nat) (a3 : Nat) (h_s : Keep qq s) :
    Keep qq (State.pumpLink s i a3) := by
  revert h_s
  fun_induction State.pumpLink s i a3
  all_goals intros
  all_goals (repeat' (first | (with_reducible first | assumption | apply keep_freeRxs | apply keep_sendBundle | apply keep_setLnk | apply keep_ite) | intro _ | apply_assumption))

theorem keep_pump {s : State} (i : Nat) (h_s : Keep qq s) :
    Keep qq (State.pump s i) := by
  unfold State.pump
  repeat' (first | (with_reducible first | assumption | apply keep_pumpLink | apply keep_ite) | intro _)

theorem keep_queueOn {s : State} (i : Nat) (f : Flit) (h_s : Keep qq s) :
    Keep qq (State.queueOn s i f) := by
  unfold State.queueOn
  repeat' (first | (with_reducible first | assumption | apply keep_pump | apply keep_modLnk | apply keep_ite) | intro _)

theorem keep_deliver {s : State} (f : Flit) (h_s : Keep qq s) :
    Keep qq (State.deliver s f) := by
  unfold State.deliver
  repeat' (first | (with_reducible first | assumption | apply keep_emit | apply keep_freeRx | apply keep_ite) | intro _)

theorem keep_route {s : State} (f : Flit) (h_s : Keep qq s) :
    Keep qq (State.route s f) := by
  unfold State.route
  repeat' (first | (with_reducible first | assumption | apply keep_deliver | apply keep_queueOn | apply keep_dropFlit | apply keep_freeRx | apply keep_ite) | intro _ | simp only [keep_mk] | split)

theorem keep_sendFlit {s : State} (f : Flit) (h_s : Keep qq s) :
    Keep qq (State.sendFlit s f) := by
  unfold State.sendFlit
  repeat' (first | (with_reducible first | assumption | apply keep_route | apply keep_ite) | intro _)

theorem keep_raise {s : State} (c : Nat) (n : Nat) (amount : Nat) (srcKind : Nat) (engine : Nat) (seq : Nat) (h_s : Keep qq s) :
    Keep qq (State.raise s c n amount srcKind engine seq) := by
  unfold State.raise
  repeat' (first | (with_reducible first | assumption | apply keep_seqFault | apply keep_emit | apply keep_sendFlit | apply keep_newTxn | apply keep_ite) | intro _ | simp only [keep_mk] | split)

theorem keep_raiseReady {s : State} (c : Nat) (a3 : List PendSignal) (h_s : Keep qq s) :
    Keep qq (State.raiseReady s c a3) := by
  revert h_s
  fun_induction State.raiseReady s c a3
  all_goals intros
  all_goals (repeat' (first | (with_reducible first | assumption | apply keep_modCore | apply keep_raise | apply keep_ite) | intro _ | apply_assumption))

theorem keep_stopAtRebind {s : State} (c : Nat) (h_s : Keep qq s) :
    Keep qq (State.stopAtRebind s c) := by
  unfold State.stopAtRebind
  repeat' (first | (with_reducible first | assumption | apply keepC_of | apply keep_modCore | apply keep_emit | apply keep_ite | apply keep_pite | refine keep_fst (by assumption) ?_) | intro _ | simp only [keep_mk] | split | extract_lets | simp +zetaDelta only [keep_mk])

theorem keep_finishCore {s : State} (c : Nat) (h_s : Keep qq s) :
    Keep qq (State.finishCore s c) := by
  unfold State.finishCore
  repeat' (first | (with_reducible first | assumption | apply keepC_of | apply keep_phaseEnd | apply keep_setCore | apply keep_modPart | apply keep_emit | apply keep_emits | apply keep_ite | apply keep_pite | refine keep_fst (by assumption) ?_) | intro _ | simp only [keep_mk] | split | extract_lets | simp +zetaDelta only [keep_mk])

theorem keep_wakeFront {s : State} (c : Nat) (h_s : Keep qq s) :
    Keep qq (State.wakeFront s c) := by
  unfold State.wakeFront
  repeat' (first | (with_reducible first | assumption | apply keep_setCore | apply keep_finishCore | apply keep_stopAtRebind | apply keep_ite) | intro _ | simp only [keep_mk] | split)

theorem keep_stepDone {s : State} (c : Nat) (q : Queue) (n : Nat) (h_s : Keep qq s) :
    Keep qq (State.stepDone s c q n) := by
  unfold State.stepDone
  repeat' (first | (with_reducible first | assumption | apply keep_modCore | apply keep_wakeFront | apply keep_raiseReady | apply keep_ite) | intro _)

theorem keep_issue {s : State} (c : Nat) (q : Queue) (f : State → State) (h_s : Keep qq s) (h_f : ∀ v0, Keep qq v0 → Keep qq (f v0)) :
    Keep qq (State.issue s c q f) := by
  unfold State.issue
  repeat' (first | (with_reducible first | assumption | apply keep_modCore | apply keep_setCore | apply keep_ite | apply h_f) | intro _)

theorem keep_front {s : State} (c : Nat) (f : Core → State) (h_s : Keep qq s) (h_f : ∀ v0, Keep qq (f v0)) :
    Keep qq (State.front s c f) := by
  unfold State.front
  repeat' (first | (with_reducible first | assumption | apply keep_ite | apply h_f) | intro _)

theorem keep_upset {s : State} (c : Nat) (a3 : Option (Fin 1048576)) (h_s : Keep qq s) :
    Keep qq (State.upset s c a3) := by
  unfold State.upset
  repeat' (first | (with_reducible first | assumption | apply keepC_of | apply keep_ite | apply keep_pite | refine keep_fst (by assumption) ?_) | intro _ | simp only [keep_mk] | split | extract_lets | simp +zetaDelta only [keep_mk])

theorem keep_execLoadb (c : CoreId) (w : StepWord) (upset : Option (Fin 1048576)) {s : State} (h_s : Keep qq s) :
    KeepO qq (execLoadb c w upset s) := by
  unfold execLoadb
  repeat' (first | (with_reducible first | assumption | apply keepO_next | apply keep_issue | apply keep_upset | apply keep_seqFault | apply keep_countPoison | apply keep_bump | apply keep_modCore | apply keep_ite) | intro _ | simp only [keep_mk] | split)

theorem keep_execMma (c : CoreId) (w : StepWord) (upset : Option (Fin 1048576)) {s : State} (h_s : Keep qq s) :
    KeepO qq (execMma c w upset s) := by
  unfold execMma
  repeat' (first | (with_reducible first | assumption | apply keepO_next | apply keep_issue | apply keep_upset | apply keep_seqFault | apply keep_countPoison | apply keep_bump64 | apply keep_modCore | apply keep_ite) | intro _ | simp only [keep_mk] | split)

theorem keep_execZero (c : CoreId) (w : StepWord) {s : State} (h_s : Keep qq s) :
    KeepO qq (execZero c w s) := by
  unfold execZero
  repeat' (first | (with_reducible first | assumption | apply keepO_next | apply keep_issue | apply keep_modCore | apply keep_ite) | intro _)

theorem keep_drainRows {s : State} (c : Nat) (b : Bank) (off : Nat) (stride : Nat) (n : Nat) (a7 : Nat) (a8 : Nat) (h_s : Keep qq s) :
    Keep qq (State.drainRows s c b off stride n a7 a8) := by
  revert h_s
  fun_induction State.drainRows s c b off stride n a7 a8
  all_goals intros
  all_goals (repeat' (first | (with_reducible first | assumption | apply keep_spadWrite | apply keep_ite) | intro _ | apply_assumption))

theorem keep_execDrain (c : CoreId) (w : StepWord) {s : State} (h_s : Keep qq s) :
    KeepO qq (execDrain c w s) := by
  unfold execDrain
  repeat' (first | (with_reducible first | assumption | apply keepO_next | apply keep_issue | apply keep_seqFault | apply keep_drainRows | apply keep_ite) | intro _ | simp only [keep_mk] | split)

theorem keep_countRefuse {s : State} (code : Nat) (h_s : Keep qq s) :
    Keep qq (State.countRefuse s code) := h_s

theorem keep_sendFlits {s : State} (a2 : List Flit) (h_s : Keep qq s) :
    Keep qq (State.sendFlits s a2) := by
  revert h_s
  fun_induction State.sendFlits s a2
  all_goals intros
  all_goals (repeat' (first | (with_reducible first | assumption | apply keep_sendFlit | apply keep_ite) | intro _ | apply_assumption))

theorem keep_sendWin {s : State} (r : WinReq) (h_s : Keep qq s) :
    Keep qq (State.sendWin s r) := by
  unfold State.sendWin
  repeat' (first | (with_reducible first | assumption | apply keep_newTxn | apply keep_sendFlits | apply keep_sendFlit | apply keep_ite) | intro _)

theorem keep_pumpWinQ {s : State} (kept : List WinReq) (a3 : List WinReq) (h_s : Keep qq s) :
    Keep qq (State.pumpWinQ s kept a3) := by
  revert h_s
  fun_induction State.pumpWinQ s kept a3
  all_goals intros
  all_goals (repeat' (first | (with_reducible first | assumption | apply keep_sendWin | apply keep_ite) | intro _ | apply_assumption))

theorem keep_pumpWin {s : State} (h_s : Keep qq s) :
    Keep qq (State.pumpWin s) := by
  unfold State.pumpWin
  repeat' (first | (with_reducible first | assumption | apply keep_pumpWinQ | apply keep_ite) | intro _)

theorem keep_xRead {s : State} (x : Xfer) (e : Nat) (space : Nat) (a : Nat) (n : Nat) (h_s : Keep qq s) :
    Keep qq (State.xRead s x e space a n).1 := by
  unfold State.xRead
  repeat' (first | (with_reducible first | assumption | apply keep_countPoison | apply keep_readVa | apply keep_ite) | intro _ | simp only [keep_mk] | split)

theorem keep_xWrite {s : State} (x : Xfer) (e : Nat) (space : Nat) (a : Nat) (bs : List Byte) (h_s : Keep qq s) :
    Keep qq (State.xWrite s x e space a bs).1 := by
  unfold State.xWrite
  repeat' (first | (with_reducible first | assumption | apply keepC_of | apply keep_spadWrite | apply keep_writeVa | apply keep_countRefuse | apply keep_ite | apply keep_pite | refine keep_fst (by assumption) ?_) | intro _ | simp only [keep_mk] | split | extract_lets | simp +zetaDelta only [keep_mk])

theorem keep_Mv_put {m : Mv} (x : Xfer) (e : Nat) (space : Nat) (a : Nat) (bs : List Byte) (h_m : Keep qq m.s) :
    Keep qq (Mv.put m x e space a bs).s := by
  unfold Mv.put
  repeat' (first | (with_reducible first | assumption | apply keep_xWrite | apply keep_ite) | intro _ | simp only [keep_mk] | split)

theorem keep_Mv_putRow {m : Mv} (x : Xfer) (e : Nat) (dd : Desc) (df : Fmt) (row : Nat) (r : List Byte × List Byte × Counts) (h_m : Keep qq m.s) :
    Keep qq (Mv.putRow m x e dd df row r).s := by
  unfold Mv.putRow
  repeat' (first | (with_reducible first | assumption | apply keep_Mv_put | apply keep_ite) | intro _ | simp only [keep_mk] | split)

theorem keep_Mv_getRow {m : Mv} (x : Xfer) (e : Nat) (sd : Desc) (sf : Fmt) (row : Nat) (h_m : Keep qq m.s) :
    Keep qq (Mv.getRow m x e sd sf row).1.s := by
  unfold Mv.getRow
  repeat' (first | (with_reducible first | assumption | apply keepC_of | apply keep_xRead | apply keep_ite | apply keep_pite | refine keep_fst (by assumption) ?_) | intro _ | simp only [keep_mk] | split | extract_lets | simp +zetaDelta only [keep_mk])

theorem keep_Mv_moveRow {m : Mv} (x : Xfer) (e : Nat) (sd : Desc) (dd : Desc) (sf : Fmt) (df : Fmt) (srow : Nat) (drow : Nat) (idx : Nat) (h_m : Keep qq m.s) :
    Keep qq (Mv.moveRow m x e sd dd sf df srow drow idx).s := by
  unfold Mv.moveRow
  repeat' (first | (with_reducible first | assumption | apply keep_Mv_getRow | apply keep_Mv_putRow | apply keep_ite) | intro _)

theorem keep_Mv_moveRows {m : Mv} (x : Xfer) (e : Nat) (sd : Desc) (dd : Desc) (sf : Fmt) (df : Fmt) (base : Nat) (i : Nat) (a10 : Nat) (h_m : Keep qq m.s) :
    Keep qq (Mv.moveRows m x e sd dd sf df base i a10).s := by
  revert h_m
  fun_induction Mv.moveRows m x e sd dd sf df base i a10
  all_goals intros
  all_goals (repeat' (first | (with_reducible first | assumption | apply keep_Mv_moveRow | apply keep_ite) | intro _ | apply_assumption))

theorem keep_Mv_readRows {m : Mv} (x : Xfer) (e : Nat) (sd : Desc) (sf : Fmt) (i : Nat) (a7 : Nat) (h_m : Keep qq m.s) :
    Keep qq (Mv.readRows m x e sd sf i a7).1.s := by
  revert h_m
  fun_induction Mv.readRows m x e sd sf i a7
  all_goals intros
  all_goals (repeat' (first | (with_reducible first | assumption | apply keep_Mv_getRow | apply keep_ite) | intro _ | apply_assumption))

theorem keep_Mv_putTrans {m : Mv} (x : Xfer) (e : Nat) (sd : Desc) (dd : Desc) (sf : Fmt) (df : Fmt) (rows : List (List Byte × List Byte)) (base : Nat) (j : Nat) (a11 : Nat) (h_m : Keep qq m.s) :
    Keep qq (Mv.putTrans m x e sd dd sf df rows base j a11).s := by
  revert h_m
  fun_induction Mv.putTrans m x e sd dd sf df rows base j a11
  all_goals intros
  all_goals (repeat' (first | (with_reducible first | assumption | apply keep_Mv_putRow | apply keep_ite) | intro _ | apply_assumption))

theorem keep_Mv_move2d {m : Mv} (x : Xfer) (e : Nat) (sd : Desc) (dd : Desc) (sf : Fmt) (df : Fmt) (base : Nat) (h_m : Keep qq m.s) :
    Keep qq (Mv.move2d m x e sd dd sf df base).s := by
  unfold Mv.move2d
  repeat' (first | (with_reducible first | assumption | apply keep_Mv_readRows | apply keep_Mv_putTrans | apply keep_Mv_moveRows | apply keep_ite) | intro _ | simp only [keep_mk] | split)

theorem keep_Mv_repeats {m : Mv} (x : Xfer) (e : Nat) (rep : Repeat) (sf : Fmt) (df : Fmt) (r : Nat) (a8 : Nat) (h_m : Keep qq m.s) :
    Keep qq (Mv.repeats m x e rep sf df r a8).s := by
  revert h_m
  fun_induction Mv.repeats m x e rep sf df r a8
  all_goals intros
  all_goals (repeat' (first | (with_reducible first | assumption | apply keep_Mv_move2d | apply keep_ite) | intro _ | apply_assumption))

theorem keep_Mv_gather {m : Mv} (x : Xfer) (e : Nat) (sf : Fmt) (df : Fmt) (i : Nat) (a7 : List Nat) (h_m : Keep qq m.s) :
    Keep qq (Mv.gather m x e sf df i a7).s := by
  revert h_m
  fun_induction Mv.gather m x e sf df i a7
  all_goals intros
  all_goals (repeat' (first | (with_reducible first | assumption | apply keep_Mv_putRow | apply keep_Mv_moveRow | apply keep_ite) | intro _ | apply_assumption))

theorem keep_Mv_scatter {m : Mv} (x : Xfer) (e : Nat) (sf : Fmt) (df : Fmt) (i : Nat) (a7 : List Nat) (h_m : Keep qq m.s) :
    Keep qq (Mv.scatter m x e sf df i a7).s := by
  revert h_m
  fun_induction Mv.scatter m x e sf df i a7
  all_goals intros
  all_goals (repeat' (first | (with_reducible first | assumption | apply keep_Mv_moveRow | apply keep_ite) | intro _ | apply_assumption))

theorem keep_Mv_direct {m : Mv} (x : Xfer) (e : Nat) (sf : Fmt) (i : Nat) (a6 : List Nat) (h_m : Keep qq m.s) :
    Keep qq (Mv.direct m x e sf i a6).s := by
  revert h_m
  fun_induction Mv.direct m x e sf i a6
  all_goals intros
  all_goals (repeat' (first | (with_reducible first | assumption | apply keep_Mv_moveRow | apply keep_ite) | intro _ | apply_assumption))

theorem keep_modXfer {s : State} (e : Nat) (core : Nat) (seq : Nat) (f : Xfer → Xfer) (h_s : Keep qq s) :
    Keep qq (State.modXfer s e core seq f) := h_s

theorem keep_Mv_close {m : Mv} (x : Xfer) (e : Nat) (h_m : Keep qq m.s) :
    Keep qq (Mv.close m x e) := by
  unfold Mv.close
  repeat' (first | (with_reducible first | assumption | apply keep_pumpWin | apply keep_modXfer | apply keep_ite) | intro _)

theorem keep_leaveOpen {s : State} (x : Xfer) (e : Nat) (a4 : List (Nat × Nat × Nat)) (h_s : Keep qq s) :
    Keep qq (State.leaveOpen s x e a4) := by
  revert h_s
  fun_induction State.leaveOpen s x e a4
  all_goals intros
  all_goals (repeat' (first | (with_reducible first | assumption | apply keep_writeVa | apply keep_draw | apply keep_spadWrite | apply keep_ite) | intro _ | apply_assumption))

theorem keep_Mv_rest {m : Mv} (x : Xfer) (e : Nat) (rs : List (Nat × Nat × Nat)) (h_m : Keep qq m.s) :
    Keep qq (Mv.rest m x e rs).s := by
  unfold Mv.rest
  repeat' (first | (with_reducible first | assumption | apply keep_leaveOpen | apply keep_ite) | intro _ | simp only [keep_mk] | split)

theorem keep_refuseXfer {s : State} (x : Xfer) (e : Nat) (st : Nat) (h_s : Keep qq s) :
    Keep qq (State.refuseXfer s x e st) := by
  unfold State.refuseXfer
  repeat' (first | (with_reducible first | assumption | apply keep_modXfer | apply keep_countPoison | apply keep_ite) | intro _)

theorem keep_runDirect {s : State} (x : Xfer) (e : Nat) (h_s : Keep qq s) :
    Keep qq (State.runDirect s x e) := by
  unfold State.runDirect
  repeat' (first | (with_reducible first | assumption | apply keep_Mv_close | apply keep_Mv_rest | apply keep_Mv_direct | apply keep_refuseXfer | apply keep_ite) | intro _ | simp only [keep_mk] | split)

theorem keep_runXfer {s : State} (x : Xfer) (e : Nat) (h_s : Keep qq s) :
    Keep qq (State.runXfer s x e) := by
  unfold State.runXfer
  repeat' (first | (with_reducible first | assumption | apply keep_runDirect | apply keep_refuseXfer | apply keep_Mv_gather | apply keep_Mv_scatter | apply keep_Mv_repeats | apply keep_Mv_move2d | apply keep_Mv_close | apply keep_Mv_rest | apply keep_ite) | intro _ | simp only [keep_mk] | split)

theorem keep_fetchRanges {s : State} (x : Xfer) (e : Nat) (a4 : List (Nat × Nat)) (h_s : Keep qq s) :
    Keep qq (State.fetchRanges s x e a4) := by
  revert h_s
  fun_induction State.fetchRanges s x e a4
  all_goals intros
  all_goals (repeat' (first | (with_reducible first | assumption | apply keep_pumpWin | apply keep_modXfer | apply keep_countRefuse | apply keep_ite) | intro _ | apply_assumption))

theorem keep_withDescs {s : State} (c : Nat) (w : StepWord) (f : Desc → Desc → State) (h_s : Keep qq s) (h_f : ∀ v0 v1, Keep qq (f v0 v1)) :
    Keep qq (State.withDescs s c w f) := by
  unfold State.withDescs
  repeat' (first | (with_reducible first | assumption | apply keep_seqFault | apply keep_ite | apply h_f) | intro _ | simp only [keep_mk] | split)

theorem keep_withSeed {s : State} (c : Nat) (w : StepWord) (ds : List Desc) (f : Nat → State) (h_s : Keep qq s) (h_f : ∀ v0, Keep qq (f v0)) :
    Keep qq (State.withSeed s c w ds f) := by
  unfold State.withSeed
  repeat' (first | (with_reducible first | assumption | apply keep_seqFault | apply keep_ite | apply h_f) | intro _ | simp only [keep_mk] | split)

theorem keep_sendRequests {s : State} (x : Xfer) (e : Nat) (self : Nat) (entries : List Nat) (count : Bool) (a7 : List Nat) (h_s : Keep qq s) :
    Keep qq (State.sendRequests s x e self entries count a7) := by
  revert h_s
  fun_induction State.sendRequests s x e self entries count a7
  all_goals intros
  all_goals (repeat' (first | (with_reducible first | assumption | apply keep_emit | apply keep_ite) | intro _ | apply_assumption))

theorem keep_spillRequest {s : State} (x : Xfer) (e : Nat) (d : Disp) (h_s : Keep qq s) :
    Keep qq (State.spillRequest s x e d).1 := by
  unfold State.spillRequest
  repeat' (first | (with_reducible first | assumption | apply keep_emit | apply keep_ite) | intro _ | simp only [keep_mk] | split)

theorem keep_openDispatch {s : State} (x : Xfer) (e : Nat) (l : Desc) (st : Nat) (h_s : Keep qq s) :
    Keep qq (State.openDispatch s x e l st) := by
  unfold State.openDispatch
  repeat' (first | (with_reducible first | assumption | apply keep_modXfer | apply keep_sendRequests | apply keep_spillRequest | apply keep_ite) | intro _)

theorem keep_runDispatch {s : State} (x : Xfer) (e : Nat) (h_s : Keep qq s) :
    Keep qq (State.runDispatch s x e) := by
  unfold State.runDispatch
  repeat' (first | (with_reducible first | assumption | apply keep_openDispatch | apply keep_refuseXfer | apply keep_ite) | intro _ | simp only [keep_mk] | split)

theorem keep_runBucketCount {s : State} (x : Xfer) (e : Nat) (h_s : Keep qq s) :
    Keep qq (State.runBucketCount s x e) := by
  unfold State.runBucketCount
  repeat' (first | (with_reducible first | assumption | apply keep_refuseXfer | apply keep_countPoison | apply keep_modCore | apply keep_ite) | intro _)

theorem keep_takePages {s : State} (p : Nat) (a3 : List (Nat × Nat)) (h_s : Keep qq s) :
    Keep qq (State.takePages s p a3) := by
  revert h_s
  fun_induction State.takePages s p a3
  all_goals intros
  all_goals (repeat' (first | (with_reducible first | assumption | apply keep_setArena | apply keep_setPoolPage | apply keep_ite) | intro _ | apply_assumption))

theorem keep_runAlloc {s : State} (x : Xfer) (e : Nat) (h_s : Keep qq s) :
    Keep qq (State.runAlloc s x e) := by
  unfold State.runAlloc
  repeat' (first | (with_reducible first | assumption | apply keep_refuseXfer | apply keep_modXfer | apply keep_spadWrite | apply keep_takePages | apply keep_ite) | intro _ | simp only [keep_mk] | split)

theorem keep_freeSlot {s : State} (p : Nat) (i : Nat) (pg : Nat) (h_s : Keep qq s) :
    Keep qq (State.freeSlot s p i pg) := h_s

theorem keep_freeOne {r : State × Nat} (p va : Nat) (h : Keep qq r.1) : Keep qq (State.freeOne p r va).1 := by
  unfold State.freeOne
  split
  · exact h
  · split
    · exact h
    · exact keep_freeSlot _ _ _ h

theorem keep_freeList {s : State} (p : Nat) (vs : List Nat) (h : Keep qq s) : Keep qq (s.freeList p vs).1 := by
  have key : ∀ (vs : List Nat) (r : State × Nat), Keep qq r.1 → Keep qq (vs.foldl (State.freeOne p) r).1 := by
    intro vs
    induction vs with
    | nil => exact fun r h => h
    | cons v vs ih => exact fun r h => ih _ (keep_freeOne p v h)
  exact key vs (s, 0) h

theorem keep_runFree {s : State} (x : Xfer) (e : Nat) (h_s : Keep qq s) :
    Keep qq (State.runFree s x e) := by
  unfold State.runFree
  repeat' (first | (with_reducible first | assumption | apply keep_refuseXfer | apply keep_countPoison | apply keep_freeList | apply keep_ite) | intro _ | simp only [keep_mk] | split)

theorem keep_runNow {s : State} (x : Xfer) (e : Nat) (h_s : Keep qq s) :
    Keep qq (State.runNow s x e) := by
  unfold State.runNow
  repeat' (first | (with_reducible first | assumption | apply keep_runDispatch | apply keep_runBucketCount | apply keep_runAlloc | apply keep_runFree | apply keep_runXfer | apply keep_ite) | intro _ | simp only [keep_mk] | split)

theorem keep_runIfFetched {s : State} (e : Nat) (core : Nat) (seq : Nat) (h_s : Keep qq s) :
    Keep qq (State.runIfFetched s e core seq) := by
  unfold State.runIfFetched
  repeat' (first | (with_reducible first | assumption | apply keep_runNow | apply keep_ite) | intro _ | simp only [keep_mk] | split)

theorem keep_beginXfer {s : State} (x : Xfer) (e : Nat) (h_s : Keep qq s) :
    Keep qq (State.beginXfer s x e) := by
  unfold State.beginXfer
  repeat' (first | (with_reducible first | assumption | apply keep_refuseXfer | apply keep_runIfFetched | apply keep_fetchRanges | apply keep_runNow | apply keep_ite) | intro _ | simp only [keep_mk] | split)

theorem keep_pumpEngine {s : State} (e : Nat) (a3 : Nat) (h_s : Keep qq s) :
    Keep qq (State.pumpEngine s e a3) := by
  revert h_s
  fun_induction State.pumpEngine s e a3
  all_goals intros
  all_goals (repeat' (first | (with_reducible first | assumption | apply keep_beginXfer | apply keep_modXfer | apply keep_ite) | intro _ | apply_assumption))

theorem keep_startXfer {s : State} (x : Xfer) (e : Nat) (h_s : Keep qq s) :
    Keep qq (State.startXfer s x e) := by
  unfold State.startXfer
  repeat' (first | (with_reducible first | assumption | apply keep_pumpEngine | apply keep_setEngine | apply keep_ite) | intro _)

theorem keep_startRefused {s : State} (x : Xfer) (e : Nat) (st : Nat) (h_s : Keep qq s) :
    Keep qq (State.startRefused s x e st) := by
  unfold State.startRefused
  repeat' (first | (with_reducible first | assumption | apply keep_startXfer | apply keep_ite) | intro _)

theorem keep_startCopy {s : State} (kind : XferKind) (c : Nat) (e : Nat) (w : StepWord) (n : Nat) (h_s : Keep qq s) :
    Keep qq (State.startCopy s kind c e w n) := by
  unfold State.startCopy
  repeat' (first | (with_reducible first | assumption | apply keep_withDescs | apply keep_withSeed | apply keep_startXfer | apply keep_seqFault | apply keep_ite) | intro _ | simp only [keep_mk] | split)

theorem keep_startLcopy {s : State} (c : Nat) (e : Nat) (w : StepWord) (n : Nat) (h_s : Keep qq s) :
    Keep qq (State.startLcopy s c e w n) := by
  unfold State.startLcopy
  repeat' (first | (with_reducible first | assumption | apply keep_withDescs | apply keep_withSeed | apply keep_startXfer | apply keep_startRefused | apply keep_ite) | intro _)

theorem keep_startLs {s : State} (c : Nat) (e : Nat) (w : StepWord) (n : Nat) (h_s : Keep qq s) :
    Keep qq (State.startLs s c e w n) := by
  unfold State.startLs
  repeat' (first | (with_reducible first | assumption | apply keep_withDescs | apply keep_startXfer | apply keep_startRefused | apply keep_ite) | intro _)

theorem keep_startGather {s : State} (c : Nat) (e : Nat) (w : StepWord) (n : Nat) (h_s : Keep qq s) :
    Keep qq (State.startGather s c e w n) := by
  unfold State.startGather
  repeat' (first | (with_reducible first | assumption | apply keep_withDescs | apply keep_withSeed | apply keep_seqFault | apply keep_startXfer | apply keep_ite) | intro _ | simp only [keep_mk] | split)

theorem keep_startScatter {s : State} (c : Nat) (e : Nat) (w : StepWord) (n : Nat) (h_s : Keep qq s) :
    Keep qq (State.startScatter s c e w n) := by
  unfold State.startScatter
  repeat' (first | (with_reducible first | assumption | apply keep_withDescs | apply keep_seqFault | apply keep_withSeed | apply keep_startXfer | apply keep_ite) | intro _ | simp only [keep_mk] | split)

theorem keep_startBucketCount {s : State} (c : Nat) (e : Nat) (w : StepWord) (n : Nat) (h_s : Keep qq s) :
    Keep qq (State.startBucketCount s c e w n) := by
  unfold State.startBucketCount
  repeat' (first | (with_reducible first | assumption | apply keep_seqFault | apply keep_startXfer | apply keep_startRefused | apply keep_ite) | intro _ | simp only [keep_mk] | split)

theorem keep_startAlloc {s : State} (c : Nat) (e : Nat) (w : StepWord) (n : Nat) (picks : List (Nat × Nat)) (h_s : Keep qq s) :
    Keep qq (State.startAlloc s c e w n picks) := by
  unfold State.startAlloc
  repeat' (first | (with_reducible first | assumption | apply keep_seqFault | apply keep_startXfer | apply keep_startRefused | apply keep_ite) | intro _ | simp only [keep_mk] | split)

theorem keep_startFree {s : State} (c : Nat) (e : Nat) (w : StepWord) (n : Nat) (h_s : Keep qq s) :
    Keep qq (State.startFree s c e w n) := by
  unfold State.startFree
  repeat' (first | (with_reducible first | assumption | apply keep_seqFault | apply keep_startXfer | apply keep_startRefused | apply keep_ite) | intro _ | simp only [keep_mk] | split)

theorem keep_startStep {s : State} (c : Nat) (e : Nat) (n : Nat) (w : StepWord) (a6 : XfStep) (h_s : Keep qq s) :
    Keep qq (State.startStep s c e n w a6) := by
  unfold State.startStep
  repeat' (first | (with_reducible first | assumption | apply keep_startCopy | apply keep_upset | apply keep_startLcopy | apply keep_startLs | apply keep_startGather | apply keep_startScatter | apply keep_startBucketCount | apply keep_startAlloc | apply keep_startFree | apply keep_ite) | intro _ | simp only [keep_mk] | split)

theorem keep_startHeld {s : State} (c : Nat) (h : HeldXf) (h_s : Keep qq s) :
    Keep qq (State.startHeld s c h) := by
  unfold State.startHeld
  repeat' (first | (with_reducible first | assumption | apply keep_modCore | apply keep_startStep | apply keep_setCore | apply keep_ite) | intro _)

theorem keep_pumpHeld {s : State} (c : Nat) (a3 : Nat) (h_s : Keep qq s) :
    Keep qq (State.pumpHeld s c a3) := by
  revert h_s
  fun_induction State.pumpHeld s c a3
  all_goals intros
  all_goals (repeat' (first | (with_reducible first | assumption | apply keep_startHeld | apply keep_modCore | apply keep_setEngine | apply keep_ite) | intro _ | apply_assumption))

theorem keep_pumpCores {s : State} (a2 : List Nat) (h_s : Keep qq s) :
    Keep qq (State.pumpCores s a2) := by
  revert h_s
  fun_induction State.pumpCores s a2
  all_goals intros
  all_goals (repeat' (first | (with_reducible first | assumption | apply keep_pumpHeld | apply keep_ite) | intro _ | apply_assumption))

theorem keep_refillEngine {s : State} (e : Nat) (h_s : Keep qq s) :
    Keep qq (State.refillEngine s e) := by
  unfold State.refillEngine
  repeat' (first | (with_reducible first | assumption | apply keep_pumpEngine | apply keep_pumpCores | apply keep_setEngine | apply keep_ite) | intro _)

theorem keep_offerStep {s : State} (c : Nat) (n : Nat) (w : StepWord) (f : XfStep) (h_s : Keep qq s) :
    Keep qq (State.offerStep s c n w f) := by
  unfold State.offerStep
  repeat' (first | (with_reducible first | assumption | apply keep_startStep | apply keep_setCore | apply keep_setEngine | apply keep_ite) | intro _)

theorem keep_issueXfer {s : State} (c : Nat) (w : StepWord) (f : XfStep) (h_s : Keep qq s) :
    Keep qq (State.issueXfer s c w f) := by
  unfold State.issueXfer
  repeat' (first | (with_reducible first | assumption | apply keep_issue | apply keep_offerStep | apply keep_ite) | intro _)

theorem keep_execCopy (c : CoreId) (w : StepWord) (upset : Option (Fin 1048576)) {s : State} (h_s : Keep qq s) :
    KeepO qq (execCopy c w upset s) := by
  unfold execCopy
  repeat' (first | (with_reducible first | assumption | apply keepO_next | apply keep_issueXfer | apply keep_ite) | intro _)

theorem keep_execCopyt (c : CoreId) (w : StepWord) {s : State} (h_s : Keep qq s) :
    KeepO qq (execCopyt c w s) := by
  unfold execCopyt
  repeat' (first | (with_reducible first | assumption | apply keepO_next | apply keep_issueXfer | apply keep_ite) | intro _)

theorem keep_execLcopy (c : CoreId) (w : StepWord) (f : Fin 16) {s : State} (h_s : Keep qq s) :
    KeepO qq (execLcopy c w f s) := by
  unfold execLcopy
  repeat' (first | (with_reducible first | assumption | apply keepO_next | apply keep_issueXfer | apply keep_ite) | intro _)

theorem keep_execLs (c : CoreId) (w : StepWord) (upset : Option (Fin 1048576)) {s : State} (h_s : Keep qq s) :
    KeepO qq (execLs c w upset s) := by
  unfold execLs
  repeat' (first | (with_reducible first | assumption | apply keepO_next | apply keep_issueXfer | apply keep_ite) | intro _)

theorem keep_execGather (c : CoreId) (w : StepWord) {s : State} (h_s : Keep qq s) :
    KeepO qq (execGather c w s) := by
  unfold execGather
  repeat' (first | (with_reducible first | assumption | apply keepO_next | apply keep_issueXfer | apply keep_ite) | intro _)

theorem keep_execScatter (c : CoreId) (w : StepWord) {s : State} (h_s : Keep qq s) :
    KeepO qq (execScatter c w s) := by
  unfold execScatter
  repeat' (first | (with_reducible first | assumption | apply keepO_next | apply keep_issueXfer | apply keep_ite) | intro _)

theorem keep_execDispatch (c : CoreId) (w : StepWord) {s : State} (h_s : Keep qq s) :
    KeepO qq (execDispatch c w s) := by
  unfold execDispatch
  repeat' (first | (with_reducible first | assumption | apply keepO_next | apply keep_issueXfer | apply keep_ite) | intro _)

theorem keep_execBucketCountTransfer (c : CoreId) (w : StepWord) {s : State} (h_s : Keep qq s) :
    KeepO qq (execBucketCountTransfer c w s) := by
  unfold execBucketCountTransfer
  repeat' (first | (with_reducible first | assumption | apply keepO_next | apply keep_issueXfer | apply keep_ite) | intro _)

theorem keep_execAllocation (c : CoreId) (w : StepWord) (picks : List (Nat × Nat)) {s : State} (h_s : Keep qq s) :
    KeepO qq (execAllocation c w picks s) := by
  unfold execAllocation
  repeat' (first | (with_reducible first | assumption | apply keepO_next | apply keep_issueXfer | apply keep_ite) | intro _)

theorem keep_execFree (c : CoreId) (w : StepWord) {s : State} (h_s : Keep qq s) :
    KeepO qq (execFree c w s) := by
  unfold execFree
  repeat' (first | (with_reducible first | assumption | apply keepO_next | apply keep_issueXfer | apply keep_ite) | intro _)

theorem keep_execPoolPageClearDone (pg : Fin 16384) {s : State} (h_s : Keep qq s) :
    KeepO qq (execPoolPageClearDone pg s) := by
  unfold execPoolPageClearDone
  repeat' (first | (with_reducible first | assumption | apply keepO_next | apply keep_setPoolPage | apply keep_clearRange | apply keep_ite) | intro _)

theorem keep_setHdrWord {s : State} (h : Nat) (i : Nat) (v : Nat) (h_s : Keep qq s) :
    Keep qq (State.setHdrWord s h i v) := by
  unfold State.setHdrWord
  repeat' (first | (with_reducible first | assumption | apply keep_spadSetWord | apply keep_ite) | intro _)

theorem keep_putProv {s : State} (h : Nat) (self : Nat) (slot : Nat) (a5 : List (Nat × Nat)) (h_s : Keep qq s) :
    Keep qq (State.putProv s h self slot a5) := by
  revert h_s
  fun_induction State.putProv s h self slot a5
  all_goals intros
  all_goals (repeat' (first | (with_reducible first | assumption | apply keep_spadSetWord | apply keep_ite) | intro _ | apply_assumption))

theorem keep_grantReq {s : State} (h : Nat) (r : BucketReq) (h_s : Keep qq s) :
    Keep qq (State.grantReq s h r) := by
  unfold State.grantReq
  repeat' (first | (with_reducible first | assumption | apply keep_setHdrWord | apply keep_putProv | apply keep_emit | apply keep_ite) | intro _)

theorem keep_grantAll {s : State} (h : Nat) (a3 : List BucketReq) (h_s : Keep qq s) :
    Keep qq (State.grantAll s h a3) := by
  revert h_s
  fun_induction State.grantAll s h a3
  all_goals intros
  all_goals (repeat' (first | (with_reducible first | assumption | apply keep_grantReq | apply keep_ite) | intro _ | apply_assumption))

theorem keep_openRound {s : State} (h : Nat) (h_s : Keep qq s) :
    Keep qq (State.openRound s h) := by
  unfold State.openRound
  repeat' (first | (with_reducible first | assumption | apply keep_setHdrWord | apply keep_setBucket | apply keep_ite) | intro _)

theorem keep_takeReq {s : State} (h : Nat) (r : BucketReq) (h_s : Keep qq s) :
    Keep qq (State.takeReq s h r) := by
  unfold State.takeReq
  repeat' (first | (with_reducible first | assumption | apply keep_setBucket | apply keep_openRound | apply keep_grantAll | apply keep_grantReq | apply keep_ite) | intro _)

theorem keep_takeAll {s : State} (h : Nat) (a3 : List BucketReq) (h_s : Keep qq s) :
    Keep qq (State.takeAll s h a3) := by
  revert h_s
  fun_induction State.takeAll s h a3
  all_goals intros
  all_goals (repeat' (first | (with_reducible first | assumption | apply keep_takeReq | apply keep_ite) | intro _ | apply_assumption))

theorem keep_nextRound {s : State} (h : Nat) (h_s : Keep qq s) :
    Keep qq (State.nextRound s h) := by
  unfold State.nextRound
  repeat' (first | (with_reducible first | assumption | apply keep_takeAll | apply keep_setBucket | apply keep_ite) | intro _)

theorem keep_zeroRows {s : State} (d : Desc) (f : Fmt) (i : Nat) (a5 : Nat) (h_s : Keep qq s) :
    Keep qq (State.zeroRows s d f i a5) := by
  revert h_s
  fun_induction State.zeroRows s d f i a5
  all_goals intros
  all_goals (repeat' (first | (with_reducible first | assumption | apply keep_spadWrite | apply keep_ite) | intro _ | apply_assumption))

theorem keep_raiseDoneObj {s : State} (h : Nat) (h_s : Keep qq s) :
    Keep qq (State.raiseDoneObj s h) := by
  unfold State.raiseDoneObj
  repeat' (first | (with_reducible first | assumption | apply keep_emit | apply keep_ite) | intro _)

theorem keep_closeRound {s : State} (h : Nat) (h_s : Keep qq s) :
    Keep qq (State.closeRound s h) := by
  unfold State.closeRound
  repeat' (first | (with_reducible first | assumption | apply keep_spadSetWord | apply keep_setBucket | apply keep_zeroRows | apply keep_nextRound | apply keep_raiseDoneObj | apply keep_ite) | intro _ | simp only [keep_mk] | split)

theorem keep_execBucketRequest (h : HdrAddr) (r : BucketReq) {s : State} (h_s : Keep qq s) :
    KeepO qq (execBucketRequest h r s) := by
  unfold execBucketRequest
  repeat' (first | (with_reducible first | assumption | apply keepO_next | apply keep_takeReq | apply keep_ite) | intro _)

theorem keep_execBucketDone (h : HdrAddr) {s : State} (h_s : Keep qq s) :
    KeepO qq (execBucketDone h s) := by
  unfold execBucketDone
  repeat' (first | (with_reducible first | assumption | apply keepO_next | apply keep_setBucket | apply keep_closeRound | apply keep_ite) | intro _)

theorem keep_execZeroFillAcknowledged (h : HdrAddr) {s : State} (h_s : Keep qq s) :
    KeepO qq (execZeroFillAcknowledged h s) := by
  unfold execZeroFillAcknowledged
  repeat' (first | (with_reducible first | assumption | apply keepO_next | apply keep_nextRound | apply keep_raiseDoneObj | apply keep_ite) | intro _)

theorem keep_rewriteEntry {s : State} (x : Xfer) (d : Disp) (i : Nat) (b : Nat) (h_s : Keep qq s) :
    Keep qq (State.rewriteEntry s x d i b) := by
  unfold State.rewriteEntry
  repeat' (first | (with_reducible first | assumption | apply keep_spadSetWord | apply keep_ite) | intro _)

theorem keep_rewriteAll {s : State} (x : Xfer) (d : Disp) (b : Nat) (a5 : List Nat) (h_s : Keep qq s) :
    Keep qq (State.rewriteAll s x d b a5) := by
  revert h_s
  fun_induction State.rewriteAll s x d b a5
  all_goals intros
  all_goals (repeat' (first | (with_reducible first | assumption | apply keep_rewriteEntry | apply keep_ite) | intro _ | apply_assumption))

theorem keep_Mv_putGranted {m : Mv} (x : Xfer) (e : Nat) (d : Disp) (dd : Desc) (sf : Fmt) (df : Fmt) (slot : Nat) (a9 : List Nat) (h_m : Keep qq m.s) :
    Keep qq (Mv.putGranted m x e d dd sf df slot a9).s := by
  revert h_m
  fun_induction Mv.putGranted m x e d dd sf df slot a9
  all_goals intros
  all_goals (repeat' (first | (with_reducible first | assumption | apply keep_Mv_moveRow | apply keep_ite) | intro _ | apply_assumption))

theorem keep_Mv_deferRow {m : Mv} (x : Xfer) (e : Nat) (d : Disp) (b : Nat) (sf : Fmt) (i : Nat) (h_m : Keep qq m.s) :
    Keep qq (Mv.deferRow m x e d b sf i).1.s := by
  unfold Mv.deferRow
  repeat' (first | (with_reducible first | assumption | apply keep_rewriteEntry | apply keep_bump | apply keep_Mv_getRow | apply keep_Mv_put | apply keep_spadSetWord | apply keep_ite) | intro _ | simp only [keep_mk] | split)

theorem keep_Mv_dealWith {m : Mv} (x : Xfer) (e : Nat) (d : Disp) (sf : Fmt) (o : Nat × Nat × Nat) (h_m : Keep qq m.s) :
    Keep qq (Mv.dealWith m x e d sf o).1.s := by
  unfold Mv.dealWith
  repeat' (first | (with_reducible first | assumption | apply keep_rewriteEntry | apply keep_bump | apply keep_Mv_deferRow | apply keep_ite) | intro _ | simp only [keep_mk] | split)

theorem keep_Mv_dealAll {m : Mv} (x : Xfer) (e : Nat) (d : Disp) (sf : Fmt) (a6 : List (Nat × Nat × Nat)) (h_m : Keep qq m.s) :
    Keep qq (Mv.dealAll m x e d sf a6).1.s := by
  revert h_m
  fun_induction Mv.dealAll m x e d sf a6
  all_goals intros
  all_goals (repeat' (first | (with_reducible first | assumption | apply keep_Mv_dealWith | apply keep_ite) | intro _ | apply_assumption))

theorem keep_noteOverflow {s : State} (x : Xfer) (d : Disp) (b : Nat) (policy : Nat) (ovf : List Nat) (h_s : Keep qq s) :
    Keep qq (State.noteOverflow s x d b policy ovf).1 := by
  unfold State.noteOverflow
  repeat' (first | (with_reducible first | assumption | apply keep_bump | apply keep_ite) | intro _ | simp only [keep_mk] | split)

theorem keep_takeGrant {s : State} (x : Xfer) (e : Nat) (d : Disp) (b : Nat) (first : Nat) (granted : Nat) (policy : Nat) (h_s : Keep qq s) :
    Keep qq (State.takeGrant s x e d b first granted policy) := by
  unfold State.takeGrant
  repeat' (first | (with_reducible first | assumption | apply keep_Mv_putGranted | apply keep_rewriteAll | apply keep_noteOverflow | apply keep_emit | apply keep_spillRequest | apply keep_Mv_dealAll | apply keep_modXfer | apply keep_ite) | intro _ | simp only [keep_mk] | split)

theorem keep_execBucketGrant (e : EngineId) (core : Nat) (seq : Nat) (bucket : Nat) (first : Nat) (granted : Nat) (policy : Nat) {s : State} (h_s : Keep qq s) :
    KeepO qq (execBucketGrant e core seq bucket first granted policy s) := by
  unfold execBucketGrant
  repeat' (first | (with_reducible first | assumption | apply keepO_next | apply keep_takeGrant | apply keep_ite) | intro _ | simp only [keep_mk] | split)

theorem keep_execWriteAcknowledgement (e : XferEngineId) (core : Nat) (seq : Nat) {s : State} (h_s : Keep qq s) :
    KeepO qq (execWriteAcknowledgement e core seq s) := by
  unfold execWriteAcknowledgement
  repeat' (first | (with_reducible first | assumption | apply keepO_next | apply keep_modXfer | apply keep_emit | apply keep_ite) | intro _ | simp only [keep_mk] | split)

theorem keep_cqInterrupt {s : State} (fn : Nat) (q : Nat) (h_s : Keep qq s) :
    Keep qq (State.cqInterrupt s fn q) := by
  unfold State.cqInterrupt
  repeat' (first | (with_reducible first | assumption | apply keep_msix | apply keep_setCq | apply keep_ite) | intro _)

theorem keep_cqPut {s : State} (fn : Nat) (q : Nat) (c : CqRec) (h_s : Keep qq s) :
    Keep qq (State.cqPut s fn q c) := by
  unfold State.cqPut
  repeat' (first | (with_reducible first | assumption | apply keep_hostWrite | apply keep_setCq | apply keep_cqInterrupt | apply keep_ite) | intro _)

theorem keep_cqDrain {s : State} (fn : Nat) (q : Nat) (a4 : List CqRec) (h_s : Keep qq s) :
    Keep qq (State.cqDrain s fn q a4) := by
  revert h_s
  fun_induction State.cqDrain s fn q a4
  all_goals intros
  all_goals (repeat' (first | (with_reducible first | assumption | apply keep_setCq | apply keep_cqPut | apply keep_ite) | intro _ | apply_assumption))

theorem keep_cqGo {s : State} (fn : Nat) (q : Nat) (h_s : Keep qq s) :
    Keep qq (State.cqGo s fn q) := by
  unfold State.cqGo
  repeat' (first | (with_reducible first | assumption | apply keep_cqDrain | apply keep_ite) | intro _)

theorem keep_cqOffer {s : State} (fn : Nat) (q : Nat) (c : CqRec) (h_s : Keep qq s) :
    Keep qq (State.cqOffer s fn q c) := by
  unfold State.cqOffer
  repeat' (first | (with_reducible first | assumption | apply keep_cqPut | apply keep_setCq | apply keep_ite) | intro _)

theorem keep_refOutcome {s : State} (fn : Nat) (bit : Nat) (entry : Nat) (code : Nat) (sent : Bool) (h_s : Keep qq s) :
    Keep qq (State.refOutcome s fn bit entry code sent) := by
  unfold State.refOutcome
  repeat' (first | (with_reducible first | assumption | apply keep_bump | apply keep_setBits | apply keep_ledger | apply keep_ledgerPart | apply keep_msix | apply keep_mbEvent | apply keep_ite) | intro _)

theorem keep_sendRefs {s : State} (d : HostDesc) (a3 : List Nat) (h_s : Keep qq s) :
    Keep qq (State.sendRefs s d a3).1 := by
  revert h_s
  fun_induction State.sendRefs s d a3
  all_goals intros
  all_goals (repeat' (first | (with_reducible first | assumption | apply keep_refOutcome | apply keep_emit | apply keep_ite) | intro _ | apply_assumption))

theorem keep_finishDesc {s : State} (d : HostDesc) (status : Nat) (result : Nat) (h_s : Keep qq s) :
    Keep qq (State.finishDesc s d status result) := by
  unfold State.finishDesc
  repeat' (first | (with_reducible first | assumption | apply keepC_of | apply keep_cqOffer | apply keep_ite | apply keep_pite | refine keep_fst (by assumption) ?_) | intro _ | simp only [keep_mk] | split | extract_lets | simp +zetaDelta only [keep_mk])

theorem keep_complete {s : State} (id : Nat) (status : Nat) (result : Nat) (h_s : Keep qq s) :
    Keep qq (State.complete s id status result) := by
  unfold State.complete
  repeat' (first | (with_reducible first | assumption | apply keep_sendRefs | apply keep_finishDesc | apply keep_modDesc | apply keep_ite) | intro _ | simp only [keep_mk] | split)

theorem keep_endRefused {s : State} (fn : Nat) (r : Nat) (a4 : Nat) (h_s : Keep qq s) :
    Keep qq (State.endRefused s fn r a4) := by
  revert h_s
  fun_induction State.endRefused s fn r a4
  all_goals intros
  all_goals (repeat' (first | (with_reducible first | assumption | apply keep_complete | apply keep_ite) | intro _ | apply_assumption))

theorem keep_ringGo {s : State} (fn : Nat) (r : Nat) (h_s : Keep qq s) :
    Keep qq (State.ringGo s fn r) := by
  unfold State.ringGo
  repeat' (first | (with_reducible first | assumption | apply keep_endRefused | apply keep_ite) | intro _)

theorem keep_startDesc {s : State} (fn : Nat) (r : Nat) (t : Nat) (f : HostDesc → State → State) (h_s : Keep qq s) (h_f : ∀ v0 v1, Keep qq v1 → Keep qq (f v0 v1)) :
    Keep qq (State.startDesc s fn r t f) := by
  unfold State.startDesc
  repeat' (first | (with_reducible first | assumption | apply keep_ringGo | apply keep_modDesc | apply keep_ite | apply h_f) | intro _ | simp only [keep_mk] | split)

theorem keep_endDesc {s : State} (id : Nat) (status : Nat) (result : Nat) (h_s : Keep qq s) :
    Keep qq (State.endDesc s id status result) := by
  unfold State.endDesc
  repeat' (first | (with_reducible first | assumption | apply keep_ringGo | apply keep_complete | apply keep_ite) | intro _ | simp only [keep_mk] | split)

theorem keep_startIf {s : State} (fn : Nat) (r : Nat) (t : Nat) (ok : HostDesc → Bool) (f : HostDesc → State → State) (h_s : Keep qq s) (h_f : ∀ v0 v1, Keep qq v1 → Keep qq (f v0 v1)) :
    Keep qq (State.startIf s fn r t ok f) := by
  unfold State.startIf
  repeat' (first | (with_reducible first | assumption | apply keep_startDesc | apply keep_ite | apply h_f) | intro _ | simp only [keep_mk] | split)

theorem keep_quiesceDone {s : State} (desc : Nat) (code : Nat) (count : Nat) (h_s : Keep qq s) :
    Keep qq (State.quiesceDone s desc code count) := by
  unfold State.quiesceDone
  repeat' (first | (with_reducible first | assumption | apply keep_endDesc | apply keep_ite) | intro _)

theorem keep_quiesceEnd {s : State} (v : Nat) (h_s : Keep qq s) :
    Keep qq (State.quiesceEnd s v) := by
  unfold State.quiesceEnd
  repeat' (first | (with_reducible first | assumption | apply keep_modInst | apply keep_quiesceDone | apply keep_ite) | intro _ | simp only [keep_mk] | split)

theorem keep_respond {s : State} (f : Flit) (kind : Nat) (aux : Nat) (h_s : Keep qq s) :
    Keep qq (State.respond s f kind aux) := by
  unfold State.respond
  repeat' (first | (with_reducible first | assumption | apply keep_sendFlit | apply keep_ite) | intro _)

theorem keep_refuse {s : State} (f : Flit) (code : Nat) (h_s : Keep qq s) :
    Keep qq (State.refuse s f code) := by
  unfold State.refuse
  repeat' (first | (with_reducible first | assumption | apply keep_respond | apply keep_countRefuse | apply keep_ite) | intro _)

theorem keep_winStore {s : State} (fd : Nat) (w : InWin) (off : Nat) (bs : List Byte) (h_s : Keep qq s) :
    Keep qq (State.winStore s fd w off bs).1 := by
  unfold State.winStore
  repeat' (first | (with_reducible first | assumption | apply keep_spadWrite | apply keep_writeIpa | apply keep_ite) | intro _ | simp only [keep_mk] | split)

theorem keep_winLoad {s : State} (fd : Nat) (w : InWin) (off : Nat) (n : Nat) (h_s : Keep qq s) :
    Keep qq (State.winLoad s fd w off n).1 := by
  unfold State.winLoad
  repeat' (first | (with_reducible first | assumption | apply keep_countPoison | apply keep_readIpa | apply keep_ite) | intro _ | simp only [keep_mk] | split)

theorem keep_accept {s : State} (w : Nat) (h_s : Keep qq s) :
    Keep qq (State.accept s w) := h_s

theorem keep_unaccept {s : State} (w : Nat) (h_s : Keep qq s) :
    Keep qq (State.unaccept s w) := h_s

theorem keep_winStoreRuns {s : State} (fd : Nat) (w : InWin) (off : Nat) (body : List Byte) (a6 : List (Nat × Nat)) (h_s : Keep qq s) :
    Keep qq (State.winStoreRuns s fd w off body a6).1 := by
  revert h_s
  fun_induction State.winStoreRuns s fd w off body a6
  all_goals intros
  all_goals (repeat' (first | (with_reducible first | assumption | apply keepC_of | apply keep_winStore | apply keep_ite | apply keep_pite | refine keep_fst (by assumption) ?_) | intro _ | simp only [keep_mk] | split | extract_lets | simp +zetaDelta only [keep_mk] | apply_assumption))

theorem keep_refuseTxn {s : State} (f : Flit) (t : RxTxn) (code : Nat) (h_s : Keep qq s) :
    Keep qq (State.refuseTxn s f t code) := by
  unfold State.refuseTxn
  repeat' (first | (with_reducible first | assumption | apply keep_refuse | apply keep_setRxTxn | apply keep_ite) | intro _)

theorem keep_takeFlit {s : State} (f : Flit) (w : InWin) (h_s : Keep qq s) :
    Keep qq (State.takeFlit s f w).1 := by
  unfold State.takeFlit
  repeat' (first | (with_reducible first | assumption | apply keep_winStoreRuns | apply keep_winStore | apply keep_ite) | intro _ | simp only [keep_mk] | split)

theorem keep_takeUnits {s : State} (f : Flit) (t : RxTxn) (h_s : Keep qq s) :
    Keep qq (State.takeUnits s f t) := by
  unfold State.takeUnits
  repeat' (first | (with_reducible first | assumption | apply keepC_of | apply keep_takeFlit | apply keep_setRxTxn | apply keep_refuseTxn | apply keep_unaccept | apply keep_ite | apply keep_pite | refine keep_fst (by assumption) ?_) | intro _ | simp only [keep_mk] | split | extract_lets | simp +zetaDelta only [keep_mk])

theorem keep_takeHeld {s : State} (t : RxTxn) (a3 : List Flit) (h_s : Keep qq s) :
    Keep qq (State.takeHeld s t a3) := by
  revert h_s
  fun_induction State.takeHeld s t a3
  all_goals intros
  all_goals (repeat' (first | (with_reducible first | assumption | apply keepC_of | apply keep_takeFlit | apply keep_refuse | apply keep_unaccept | apply keep_setRxTxn | apply keep_ite | apply keep_pite | refine keep_fst (by assumption) ?_) | intro _ | simp only [keep_mk] | split | extract_lets | simp +zetaDelta only [keep_mk] | apply_assumption))

theorem keep_waitUnits {s : State} (f : Flit) (t : RxTxn) (h_s : Keep qq s) :
    Keep qq (State.waitUnits s f t) := by
  unfold State.waitUnits
  repeat' (first | (with_reducible first | assumption | apply keep_takeHeld | apply keep_setRxTxn | apply keep_ite) | intro _)

theorem keep_lendWrite {s : State} (f : Flit) (h_s : Keep qq s) :
    Keep qq (State.lendWrite s f) := by
  unfold State.lendWrite
  repeat' (first | (with_reducible first | assumption | apply keep_setRxTxn | apply keep_refuseTxn | apply keep_unaccept | apply keep_takeUnits | apply keep_waitUnits | apply keep_accept | apply keep_ite) | intro _ | simp only [keep_mk] | split)

theorem keep_execWr (f : Flit) {s : State} (h_s : Keep qq s) :
    KeepO qq (execWr f s) := by
  unfold execWr
  repeat' (first | (with_reducible first | assumption | apply keepO_next | apply keep_lendWrite | apply keep_ite) | intro _)

theorem keep_execWrm (f : Flit) {s : State} (h_s : Keep qq s) :
    KeepO qq (execWrm f s) := by
  unfold execWrm
  repeat' (first | (with_reducible first | assumption | apply keepO_next | apply keep_lendWrite | apply keep_ite) | intro _)

theorem keep_sendData {s : State} (f : Flit) (off : Nat) (bs : List Byte) (a5 : Nat) (h_s : Keep qq s) :
    Keep qq (State.sendData s f off bs a5) := by
  revert h_s
  fun_induction State.sendData s f off bs a5
  all_goals intros
  all_goals (repeat' (first | (with_reducible first | assumption | apply keep_sendFlit | apply keep_ite) | intro _ | apply_assumption))

theorem keep_execRd (f : Flit) {s : State} (h_s : Keep qq s) :
    KeepO qq (execRd f s) := by
  unfold execRd
  repeat' (first | (with_reducible first | assumption | apply keepO_next | apply keepO_ite | exact keepO_fault | apply keepC_of | apply keep_refuse | apply keep_winLoad | apply keep_sendData | apply keep_ite | apply keep_pite | refine keep_fst (by assumption) ?_) | intro _ | simp only [keep_mk] | split | extract_lets | simp +zetaDelta only [keep_mk])

theorem keep_execTransactionVisible (src : Fin 16384) (tag : Fin 65536) {s : State} (h_s : Keep qq s) :
    KeepO qq (execTransactionVisible src tag s) := by
  unfold execTransactionVisible
  repeat' (first | (with_reducible first | assumption | apply keepO_next | apply keep_sendFlit | apply keep_unaccept | apply keep_setRxTxn | apply keep_ite) | intro _ | simp only [keep_mk] | split)

theorem keep_execWriteAbandon (src : Fin 16384) (tag : Fin 65536) {s : State} (h_s : Keep qq s) :
    KeepO qq (execWriteAbandon src tag s) := by
  unfold execWriteAbandon
  repeat' (first | (with_reducible first | assumption | apply keepO_next | apply keep_setRxTxn | apply keep_unaccept | apply keep_ite) | intro _ | simp only [keep_mk] | split)

theorem keep_readEnded {s : State} (t : Txn) (h_s : Keep qq s) :
    Keep qq (State.readEnded s t) := by
  unfold State.readEnded
  repeat' (first | (with_reducible first | assumption | apply keep_runIfFetched | apply keep_modXfer | apply keep_ite) | intro _)

theorem keep_sigEnded {s : State} (t : Txn) (lost : Bool) (h_s : Keep qq s) :
    Keep qq (State.sigEnded s t lost) := by
  unfold State.sigEnded
  repeat' (first | (with_reducible first | assumption | apply keep_endDesc | apply keep_stepDone | apply keep_ite) | intro _)

theorem keep_execAck (f : Flit) {s : State} (h_s : Keep qq s) :
    KeepO qq (execAck f s) := by
  unfold execAck
  repeat' (first | (with_reducible first | assumption | apply keepO_next | apply keep_setTxn | apply keep_pumpWin | apply keep_modXfer | apply keep_sigEnded | apply keep_ite) | intro _ | simp only [keep_mk] | split)

theorem keep_execRdata (f : Flit) {s : State} (h_s : Keep qq s) :
    KeepO qq (execRdata f s) := by
  unfold execRdata
  repeat' (first | (with_reducible first | assumption | apply keepO_next | apply keep_modXfer | apply keep_pumpWin | apply keep_readEnded | apply keep_setTxn | apply keep_ite) | intro _ | simp only [keep_mk] | split)

theorem keep_windowFailed {s : State} (t : Txn) (h_s : Keep qq s) :
    Keep qq (State.windowFailed s t) := by
  unfold State.windowFailed
  repeat' (first | (with_reducible first | assumption | apply keep_pumpWin | apply keep_modXfer | apply keep_readEnded | apply keep_sigEnded | apply keep_ite) | intro _ | simp only [keep_mk] | split)

theorem keep_execRefuse (f : Flit) {s : State} (h_s : Keep qq s) :
    KeepO qq (execRefuse f s) := by
  unfold execRefuse
  repeat' (first | (with_reducible first | assumption | apply keepO_next | apply keep_windowFailed | apply keep_setTxn | apply keep_countRefuse | apply keep_ite) | intro _ | simp only [keep_mk] | split)

theorem keep_execWindowTimeout (tag : Fin 65536) {s : State} (h_s : Keep qq s) :
    KeepO qq (execWindowTimeout tag s) := by
  unfold execWindowTimeout
  repeat' (first | (with_reducible first | assumption | apply keepO_next | apply keep_setTxn | apply keep_countRefuse | apply keep_setOutWin | apply keep_ledgerPart | apply keep_windowFailed | apply keep_mbEvent | apply keep_ite) | intro _ | simp only [keep_mk] | split)

theorem keep_execOutboundOpen (e : WindowId) (part : PartId) (target : Fin 16384) (window : WindowId) (gen : Fin 256) (size : Fin 65536) (vwin : WindowId) (r : Bool) (w : Bool) {s : State} (h_s : Keep qq s) :
    KeepO qq (execOutboundOpen e part target window gen size vwin r w s) := by
  unfold execOutboundOpen
  repeat' (first | (with_reducible first | assumption | apply keepO_next | apply keep_setOutWin | apply keep_ite) | intro _)

theorem keep_execWindowRevoke (w : WindowId) {s : State} (h_s : Keep qq s) :
    KeepO qq (execWindowRevoke w s) := by
  unfold execWindowRevoke
  repeat' (first | (with_reducible first | assumption | apply keepO_next | apply keep_setInWin | apply keep_ite) | intro _)

theorem keep_execRevokeDrained (w : WindowId) {s : State} (h_s : Keep qq s) :
    KeepO qq (execRevokeDrained w s) := by
  unfold execRevokeDrained
  repeat' (first | (with_reducible first | assumption | apply keepO_next | apply keep_emit | apply keep_setInWin | apply keep_ite) | intro _)

theorem keep_execOutboundClear (e : WindowId) {s : State} (h_s : Keep qq s) :
    KeepO qq (execOutboundClear e s) := by
  unfold execOutboundClear
  repeat' (first | (with_reducible first | assumption | apply keepO_next | apply keep_mbEvent | apply keep_setOutWin | apply keep_ite) | intro _)

theorem keep_release {s : State} (a2 : List Waiter) (h_s : Keep qq s) :
    Keep qq (State.release s a2) := by
  revert h_s
  fun_induction State.release s a2
  all_goals intros
  all_goals (repeat' (first | (with_reducible first | assumption | apply keep_emit | apply keep_modCore | apply keep_endDesc | apply keep_ite) | intro _ | apply_assumption))

theorem keep_objTest {s : State} (n : Nat) (h_s : Keep qq s) :
    Keep qq (State.objTest s n) := by
  unfold State.objTest
  repeat' (first | (with_reducible first | assumption | apply keep_release | apply keep_setObj | apply keep_ite) | intro _)

theorem keep_objReport {s : State} (n : Nat) (srcKind : Nat) (src : Nat) (h_s : Keep qq s) :
    Keep qq (State.objReport s n srcKind src) := by
  unfold State.objReport
  repeat' (first | (with_reducible first | assumption | apply keep_ledgerPart | apply keep_bump | apply keep_mbEvent | apply keep_seqFault | apply keep_launchFault | apply keep_ite) | intro _ | simp only [keep_mk] | split)

theorem keep_objPrimed {s : State} (n : Nat) (srcKind : Nat) (src : Nat) (h_s : Keep qq s) :
    Keep qq (State.objPrimed s n srcKind src) := by
  unfold State.objPrimed
  repeat' (first | (with_reducible first | assumption | apply keep_objReport | apply keep_setObj | apply keep_ite) | intro _)

theorem keep_objAdd {s : State} (n : Nat) (a : Int) (srcKind : Nat) (src : Nat) (h_s : Keep qq s) :
    Keep qq (State.objAdd s n a srcKind src).1 := by
  unfold State.objAdd
  repeat' (first | (with_reducible first | assumption | apply keep_objPrimed | apply keep_objReport | apply keep_setObj | apply keep_objTest | apply keep_ite) | intro _ | simp only [keep_mk] | split)

theorem keep_objJoin {s : State} (n : Nat) (w : Waiter) (srcKind : Nat) (src : Nat) (h_s : Keep qq s) :
    Keep qq (State.objJoin s n w srcKind src) := by
  unfold State.objJoin
  repeat' (first | (with_reducible first | assumption | apply keep_objPrimed | apply keep_objTest | apply keep_setObj | apply keep_ite) | intro _)

theorem keep_execObjectAdd (n : ObjId) (amount : Fin 256) (srcKind : Fin 2) (src : CoreId) {s : State} (h_s : Keep qq s) :
    KeepO qq (execObjectAdd n amount srcKind src s) := by
  unfold execObjectAdd
  repeat' (first | (with_reducible first | assumption | apply keepO_next | apply keep_objAdd | apply keep_ite) | intro _)

theorem keep_execObjectJoin (n : ObjId) (c : CoreId) (wire : Fin 8) {s : State} (h_s : Keep qq s) :
    KeepO qq (execObjectJoin n c wire s) := by
  unfold execObjectJoin
  repeat' (first | (with_reducible first | assumption | apply keepO_next | apply keep_objJoin | apply keep_ite) | intro _)

theorem keep_execWait (c : CoreId) (w : StepWord) {s : State} (h_s : Keep qq s) :
    KeepO qq (execWait c w s) := by
  unfold execWait
  repeat' (first | (with_reducible first | assumption | apply keepO_next | apply keep_front | apply keep_seqFault | apply keep_emit | apply keep_setCore | apply keep_ite) | intro _ | simp only [keep_mk] | split)

theorem keep_execWake (c : CoreId) (wire : Fin 8) {s : State} (h_s : Keep qq s) :
    KeepO qq (execWake c wire s) := by
  unfold execWake
  repeat' (first | (with_reducible first | assumption | apply keepO_next | apply keep_setCore | apply keep_bump | apply keep_ite) | intro _)

theorem keep_execSignal (c : CoreId) (w : StepWord) {s : State} (h_s : Keep qq s) :
    KeepO qq (execSignal c w s) := by
  unfold execSignal
  repeat' (first | (with_reducible first | assumption | apply keepO_next | apply keepO_ite | exact keepO_fault | apply keepC_of | apply keep_issue | apply keep_modCore | apply keep_raiseReady | apply keep_ite | apply keep_pite | refine keep_fst (by assumption) ?_) | intro _ | simp only [keep_mk] | split | extract_lets | simp +zetaDelta only [keep_mk])

theorem keep_execSig (f : Flit) {s : State} (h_s : Keep qq s) :
    KeepO qq (execSig f s) := by
  unfold execSig
  repeat' (first | (with_reducible first | assumption | apply keepO_next | apply keep_dropFlit | apply keep_respond | apply keep_objAdd | apply keep_ite) | intro _ | simp only [keep_mk] | split)

theorem keep_execSigAckTimeout (tag : Fin 65536) {s : State} (h_s : Keep qq s) :
    KeepO qq (execSigAckTimeout tag s) := by
  unfold execSigAckTimeout
  repeat' (first | (with_reducible first | assumption | apply keepO_next | apply keep_ledger | apply keep_bump | apply keep_sigEnded | apply keep_setTxn | apply keep_ite) | intro _ | simp only [keep_mk] | split)

theorem keep_dbg {s : State} (fn : Nat) (p : Nat) (f : Nat → SyncObj → Nat → State × Nat) (h_s : Keep qq s) (h_f : ∀ v0 v1 v2, Keep qq (f v0 v1 v2).1) :
    Keep qq (State.dbg s fn p f) := by
  unfold State.dbg
  repeat' (first | (with_reducible first | assumption | apply keep_setReg | apply keep_ite | apply h_f) | intro _ | simp only [keep_mk] | split)

theorem keep_execDbgSet (fn : FnId) (p : PartId) {s : State} (h_s : Keep qq s) :
    KeepO qq (execDbgSet fn p s) := by
  unfold execDbgSet
  repeat' (first | (with_reducible first | assumption | apply keepO_next | apply keep_dbg | apply keep_objTest | apply keep_setObj | apply keep_ite) | intro _ | simp only [keep_mk] | split)

theorem keep_execDbgAdd (fn : FnId) (p : PartId) {s : State} (h_s : Keep qq s) :
    KeepO qq (execDbgAdd fn p s) := by
  unfold execDbgAdd
  repeat' (first | (with_reducible first | assumption | apply keepO_next | apply keep_dbg | apply keep_objTest | apply keep_setObj | apply keep_ite) | intro _ | simp only [keep_mk] | split)

theorem keep_execDbgRelease (fn : FnId) (p : PartId) {s : State} (h_s : Keep qq s) :
    KeepO qq (execDbgRelease fn p s) := by
  unfold execDbgRelease
  repeat' (first | (with_reducible first | assumption | apply keepO_next | apply keep_dbg | apply keep_release | apply keep_setObj | apply keep_ite) | intro _ | simp only [keep_mk] | split)

theorem keep_execDbgClearFault (fn : FnId) (p : PartId) {s : State} (h_s : Keep qq s) :
    KeepO qq (execDbgClearFault fn p s) := by
  unfold execDbgClearFault
  repeat' (first | (with_reducible first | assumption | apply keepO_next | apply keep_dbg | apply keep_objTest | apply keep_setObj | apply keep_ite) | intro _)

theorem keep_execStateDump {s : State} (h_s : Keep qq s) :
    KeepO qq (execStateDump s) := by
  unfold execStateDump
  repeat' (first | (with_reducible first | assumption | apply keepO_next | apply keep_hostWrite | apply keep_setReg | apply keep_ite) | intro _)

theorem keep_execStateDumpEnd (ok : Bool) {s : State} (h_s : Keep qq s) :
    KeepO qq (execStateDumpEnd ok s) := by
  unfold execStateDumpEnd
  repeat' (first | (with_reducible first | assumption | apply keepO_next | apply keep_setReg | apply keep_ite) | intro _)

theorem keep_payRead {s : State} (c : Nat) (d : Desc) (r : Nat × Nat) (h_s : Keep qq s) :
    Keep qq (State.payRead s c d r).1 := by
  unfold State.payRead
  repeat' (first | (with_reducible first | assumption | apply keepC_of | apply keep_countPoison | apply keep_readVa | apply keep_ite | apply keep_pite | refine keep_fst (by assumption) ?_) | intro _ | simp only [keep_mk] | split | extract_lets | simp +zetaDelta only [keep_mk])

theorem keep_payWrite {s : State} (c : Nat) (d : Desc) (a : Nat) (bs : List Byte) (h_s : Keep qq s) :
    Keep qq (State.payWrite s c d a bs) := by
  unfold State.payWrite
  repeat' (first | (with_reducible first | assumption | apply keep_spadWrite | apply keep_writeVa | apply keep_ite) | intro _)

theorem keep_payReads {s : State} (c : Nat) (d : Desc) (a4 : List (Nat × Nat)) (h_s : Keep qq s) :
    Keep qq (State.payReads s c d a4).1 := by
  revert h_s
  fun_induction State.payReads s c d a4
  all_goals intros
  all_goals (repeat' (first | (with_reducible first | assumption | apply keepC_of | apply keep_payRead | apply keep_ite | apply keep_pite | refine keep_fst (by assumption) ?_) | intro _ | simp only [keep_mk] | split | extract_lets | simp +zetaDelta only [keep_mk] | apply_assumption))

theorem keep_paySparse {s : State} (c : Nat) (d : Desc) (a : Nat) (bs : List (Option Byte)) (a6 : Nat) (h_s : Keep qq s) :
    Keep qq (State.paySparse s c d a bs a6) := by
  revert h_s
  fun_induction State.paySparse s c d a bs a6
  all_goals intros
  all_goals (repeat' (first | (with_reducible first | assumption | apply keep_payWrite | apply keep_ite) | intro _ | apply_assumption))

theorem keep_payStore {s : State} (c : Nat) (d : Desc) (bs : List (Option Byte)) (a5 : List (Nat × Nat)) (h_s : Keep qq s) :
    Keep qq (State.payStore s c d bs a5) := by
  revert h_s
  fun_induction State.payStore s c d bs a5
  all_goals intros
  all_goals (repeat' (first | (with_reducible first | assumption | apply keep_paySparse | apply keep_ite) | intro _ | apply_assumption))

theorem keep_gop {s : State} (p : Nat) (tree : Nat) (op : Nat) (dir : Nat) (seq : Nat) (link : Nat) (label : Nat) (idx : Nat) (units : Nat) (off : Nat) (body : List Byte) (h_s : Keep qq s) :
    Keep qq (State.gop s p tree op dir seq link label idx units off body) := by
  unfold State.gop
  repeat' (first | (with_reducible first | assumption | apply keep_queueOn | apply keep_ite) | intro _)

theorem keep_gopWords {s : State} (p : Nat) (tree : Nat) (op : Nat) (dir : Nat) (seq : Nat) (link : Nat) (label : Nat) (idx : Nat) (a10 : List (Nat × List Byte)) (h_s : Keep qq s) :
    Keep qq (State.gopWords s p tree op dir seq link label idx a10) := by
  revert h_s
  fun_induction State.gopWords s p tree op dir seq link label idx a10
  all_goals intros
  all_goals (repeat' (first | (with_reducible first | assumption | apply keep_gop | apply keep_ite) | intro _ | apply_assumption))

theorem keep_gopMap {s : State} (p : Nat) (tree : Nat) (op : Nat) (dir : Nat) (seq : Nat) (link : Nat) (m : Option (List Bool)) (zero : Bool) (h_s : Keep qq s) :
    Keep qq (State.gopMap s p tree op dir seq link m zero) := by
  unfold State.gopMap
  repeat' (first | (with_reducible first | assumption | apply keep_gopWords | apply keep_ite) | intro _ | simp only [keep_mk] | split)

theorem keep_gopPartials {s : State} (p : Nat) (tree : Nat) (op : Nat) (dir : Nat) (seq : Nat) (link : Nat) (a8 : List Partial) (h_s : Keep qq s) :
    Keep qq (State.gopPartials s p tree op dir seq link a8) := by
  revert h_s
  fun_induction State.gopPartials s p tree op dir seq link a8
  all_goals intros
  all_goals (repeat' (first | (with_reducible first | assumption | apply keep_gopWords | apply keep_ite) | intro _ | apply_assumption))

theorem keep_memberDone {s : State} (g : Nat) (n : TreeNode) (c : Contrib) (h_s : Keep qq s) :
    Keep qq (State.memberDone s g n c) := by
  unfold State.memberDone
  repeat' (first | (with_reducible first | assumption | apply keep_payStore | apply keep_modCore | apply keep_ite) | intro _)

theorem keep_membersDone {s : State} (g : Nat) (n : TreeNode) (a4 : List Contrib) (h_s : Keep qq s) :
    Keep qq (State.membersDone s g n a4) := by
  revert h_s
  fun_induction State.membersDone s g n a4
  all_goals intros
  all_goals (repeat' (first | (with_reducible first | assumption | apply keep_memberDone | apply keep_ite) | intro _ | apply_assumption))

theorem keep_snapStore {s0 : State} (p : Nat) (n : TreeNode) (t : Nat) {s : State} (a6 : List Contrib) (h_s0 : Keep qq s0) (h_s : Keep qq s) :
    Keep qq (State.snapStore s0 p n t s a6) := by
  revert h_s0 h_s
  fun_induction State.snapStore s0 p n t s a6
  all_goals intros
  all_goals (repeat' (first | (with_reducible first | assumption | apply keep_payStore | apply keep_ite) | intro _ | apply_assumption))

theorem keep_startGlobals {s : State} (c : Nat) (a3 : Nat) (h_s : Keep qq s) :
    Keep qq (State.startGlobals s c a3) := by
  induction a3 generalizing s c with
  | zero =>
    unfold State.startGlobals
    repeat' (first | (with_reducible first | assumption | apply keepC_of | apply keep_seqFault | apply keep_payReads | apply keep_bump64 | apply keep_modCore | apply keep_raiseReady | apply keep_setTree | apply keep_ite | apply keep_pite | refine keep_fst (by assumption) ?_) | intro _ | simp only [keep_mk] | split | extract_lets | simp +zetaDelta only [keep_mk])
  | succ n ih =>
    unfold State.startGlobals
    repeat' (first | (with_reducible first | assumption | apply keepC_of | apply keep_seqFault | apply keep_payReads | apply keep_bump64 | apply keep_modCore | apply keep_raiseReady | apply keep_setTree | apply keep_ite | apply keep_pite | apply ih | refine keep_fst (by assumption) ?_) | intro _ | simp only [keep_mk] | split | extract_lets | simp +zetaDelta only [keep_mk])

theorem keep_sendDown {s : State} (p : Nat) (g : Nat) (n : TreeNode) (body : List (Option Nat)) (a6 : List Nat) (h_s : Keep qq s) :
    Keep qq (State.sendDown s p g n body a6) := by
  revert h_s
  fun_induction State.sendDown s p g n body a6
  all_goals intros
  all_goals (repeat' (first | (with_reducible first | assumption | apply keep_gopMap | apply keep_gopWords | apply keep_gop | apply keep_ite) | intro _ | apply_assumption))

theorem keep_nodeOver {s : State} (key : Nat) (n : TreeNode) (h_s : Keep qq s) :
    Keep qq (State.nodeOver s key n) := by
  unfold State.nodeOver
  repeat' (first | (with_reducible first | assumption | apply keep_setTree | apply keep_membersDone | apply keep_ite) | intro _)

theorem keep_latch {s : State} (p : Nat) (key : Nat) (n : TreeNode) (t : Nat) (h_s : Keep qq s) :
    Keep qq (State.latch s p key n t) := by
  unfold State.latch
  repeat' (first | (with_reducible first | assumption | apply keep_nodeOver | apply keep_snapStore | apply keep_ite) | intro _)

theorem keep_nodeGo {s : State} (p : Nat) (g : Nat) (h_s : Keep qq s) :
    Keep qq (State.nodeGo s p g) := by
  unfold State.nodeGo
  repeat' (first | (with_reducible first | assumption | apply keep_gopMap | apply keep_gop | apply keep_gopPartials | apply keep_setTree | apply keep_sendDown | apply keep_latch | apply keep_nodeOver | apply keep_ite) | intro _ | simp only [keep_mk] | split)

theorem keep_nodesGo {s : State} (p : Nat) (a3 : List Nat) (h_s : Keep qq s) :
    Keep qq (State.nodesGo s p a3) := by
  revert h_s
  fun_induction State.nodesGo s p a3
  all_goals intros
  all_goals (repeat' (first | (with_reducible first | assumption | apply keep_nodeGo | apply keep_ite) | intro _ | apply_assumption))

theorem keep_wakeGlobals {s : State} (a2 : List Nat) (h_s : Keep qq s) :
    Keep qq (State.wakeGlobals s a2) := by
  revert h_s
  fun_induction State.wakeGlobals s a2
  all_goals intros
  all_goals (repeat' (first | (with_reducible first | assumption | apply keep_nodesGo | apply keep_startGlobals | apply keep_ite) | intro _ | apply_assumption))

theorem keep_nodeRun {s : State} (p : Nat) (g : Nat) (h_s : Keep qq s) :
    Keep qq (State.nodeRun s p g) := by
  unfold State.nodeRun
  repeat' (first | (with_reducible first | assumption | apply keep_nodeGo | apply keep_wakeGlobals | apply keep_ite) | intro _)

theorem keep_gopTake {s : State} (p : Nat) (link : Nat) (f : Flit) (h_s : Keep qq s) :
    Keep qq (State.gopTake s p link f) := by
  unfold State.gopTake
  repeat' (first | (with_reducible first | assumption | apply keepC_of | apply keep_bump | apply keep_nodeRun | apply keep_setTree | apply keep_gop | apply keep_latch | apply keep_nodeOver | apply keep_ite | apply keep_pite | apply keep_foldl | apply keepC_run | apply keepC_clear | apply keepC_move | apply keepC_spad | apply keepC_spadNil | apply keepC_spadMove | apply keepC_spadClear | apply keepC_host | refine keep_fst (by assumption) ?_) | intro _ | simp only [keep_mk] | split | extract_lets | simp +zetaDelta only [keep_mk])

theorem keep_gopHeld {s : State} (p : Nat) (g : Nat) (a4 : List (Nat × Flit)) (h_s : Keep qq s) :
    Keep qq (State.gopHeld s p g a4) := by
  revert h_s
  fun_induction State.gopHeld s p g a4
  all_goals intros
  all_goals (repeat' (first | (with_reducible first | assumption | apply keep_gopTake | apply keep_setTree | apply keep_ite) | intro _ | apply_assumption))

theorem keep_gopDrain {s : State} (p : Nat) (g : Nat) (h_s : Keep qq s) :
    Keep qq (State.gopDrain s p g) := by
  unfold State.gopDrain
  repeat' (first | (with_reducible first | assumption | apply keep_gopHeld | apply keep_setTree | apply keep_ite) | intro _)

theorem keep_gopCheck {s : State} (link : Nat) (f : Flit) (h_s : Keep qq s) :
    Keep qq (State.gopCheck s link f) := by
  unfold State.gopCheck
  repeat' (first | (with_reducible first | assumption | apply keep_dropFlit | apply keep_gopDrain | apply keep_gopTake | apply keep_setTree | apply keep_bump | apply keep_ite) | intro _ | simp only [keep_mk] | split)

theorem keep_globalStep {s : State} (c : Nat) (w : StepWord) (kind : Nat) (h_s : Keep qq s) :
    Keep qq (State.globalStep s c w kind) := by
  unfold State.globalStep
  repeat' (first | (with_reducible first | assumption | apply keep_front | apply keep_seqFault | apply keep_issue | apply keep_modCore | apply keep_gopDrain | apply keep_nodeRun | apply keep_startGlobals | apply keep_ite) | intro _ | simp only [keep_mk] | split)

theorem keep_execBarrier (c : CoreId) (w : StepWord) {s : State} (h_s : Keep qq s) :
    KeepO qq (execBarrier c w s) := by
  unfold execBarrier
  repeat' (first | (with_reducible first | assumption | apply keepO_next | apply keep_globalStep | apply keep_ite) | intro _)

theorem keep_execBroadcast (c : CoreId) (w : StepWord) {s : State} (h_s : Keep qq s) :
    KeepO qq (execBroadcast c w s) := by
  unfold execBroadcast
  repeat' (first | (with_reducible first | assumption | apply keepO_next | apply keep_globalStep | apply keep_ite) | intro _)

theorem keep_execReduceAdd (c : CoreId) (w : StepWord) {s : State} (h_s : Keep qq s) :
    KeepO qq (execReduceAdd c w s) := by
  unfold execReduceAdd
  repeat' (first | (with_reducible first | assumption | apply keepO_next | apply keep_globalStep | apply keep_ite) | intro _)

theorem keep_execConsistentSnapshot (c : CoreId) (w : StepWord) {s : State} (h_s : Keep qq s) :
    KeepO qq (execConsistentSnapshot c w s) := by
  unfold execConsistentSnapshot
  repeat' (first | (with_reducible first | assumption | apply keepO_next | apply keep_globalStep | apply keep_ite) | intro _)

theorem keep_execSnapshotCut (p : PartId) (g : Fin 65536) {s : State} (h_s : Keep qq s) :
    KeepO qq (execSnapshotCut p g s) := by
  unfold execSnapshotCut
  repeat' (first | (with_reducible first | assumption | apply keepO_next | apply keep_gopDrain | apply keep_nodeRun | apply keep_latch | apply keep_ite) | intro _ | simp only [keep_mk] | split)

theorem keep_lowerAll {s : State} (ts : List Nat) (a3 : List Nat) (h_s : Keep qq s) :
    Keep qq (State.lowerAll s ts a3) := by
  revert h_s
  fun_induction State.lowerAll s ts a3
  all_goals intros
  all_goals (repeat' (first | (with_reducible first | assumption | apply keep_modClu | apply keep_ite) | intro _ | apply_assumption))

theorem keep_raiseCluster {s : State} (k : Nat) (h_s : Keep qq s) :
    Keep qq (State.raiseCluster s k) := by
  unfold State.raiseCluster
  repeat' (first | (with_reducible first | assumption | apply keep_modClu | apply keep_lowerAll | apply keep_ite) | intro _)

theorem keep_raiseClusters {s : State} (a2 : List Nat) (h_s : Keep qq s) :
    Keep qq (State.raiseClusters s a2) := by
  revert h_s
  fun_induction State.raiseClusters s a2
  all_goals intros
  all_goals (repeat' (first | (with_reducible first | assumption | apply keep_raiseCluster | apply keep_ite) | intro _ | apply_assumption))

theorem keep_carryHeader {s : State} (x : Xfer) (h_s : Keep qq s) :
    Keep qq (State.carryHeader s x) := by
  unfold State.carryHeader
  repeat' (first | (with_reducible first | assumption | apply keep_spadSetWord | apply keep_ite) | intro _ | simp only [keep_mk] | split)

theorem keep_stepXferEnd {s : State} (x : Xfer) (e : Nat) (h_s : Keep qq s) :
    Keep qq (State.stepXferEnd s x e) := by
  unfold State.stepXferEnd
  repeat' (first | (with_reducible first | assumption | apply keep_carryHeader | apply keep_spadWrite | apply keep_seqFault | apply keep_raise | apply keep_stepDone | apply keep_ite) | intro _)

theorem keep_execTransferCompletion (e : XferEngineId) {s : State} (h_s : Keep qq s) :
    KeepO qq (execTransferCompletion e s) := by
  unfold execTransferCompletion
  repeat' (first | (with_reducible first | assumption | apply keepO_next | apply keep_draw | apply keep_setEngine | apply keep_refillEngine | apply keep_endDesc | apply keep_stepXferEnd | apply keep_ite) | intro _ | simp only [keep_mk] | split)

theorem keep_assignObjs {s : State} (p : Nat) (slot : Nat) (im : List Byte) (a5 : List Nat) (h_s : Keep qq s) :
    Keep qq (State.assignObjs s p slot im a5) := by
  induction a5 generalizing s p slot im with
  | nil =>
    unfold State.assignObjs
    repeat' (first | (with_reducible first | assumption | apply keep_setObj | apply keep_ite) | intro _ | simp only [keep_mk] | split)
  | cons x xs ih =>
    unfold State.assignObjs
    repeat' (first | (with_reducible first | assumption | apply keep_setObj | apply keep_ite | apply ih) | intro _ | simp only [keep_mk] | split)

theorem keep_endHostWaits {s : State} (status : Nat) (result : Nat) (a4 : List Waiter) (h_s : Keep qq s) :
    Keep qq (State.endHostWaits s status result a4) := by
  revert h_s
  fun_induction State.endHostWaits s status result a4
  all_goals intros
  all_goals (repeat' (first | (with_reducible first | assumption | apply keep_endDesc | apply keep_ite) | intro _ | apply_assumption))

theorem keep_freeObj {s : State} (o : Nat) (status : Nat) (result : Nat) (h_s : Keep qq s) :
    Keep qq (State.freeObj s o status result) := by
  unfold State.freeObj
  repeat' (first | (with_reducible first | assumption | apply keep_endHostWaits | apply keep_setObj | apply keep_ite) | intro _)

theorem keep_freeObjs {s : State} (status : Nat) (result : Nat) (a4 : List Nat) (h_s : Keep qq s) :
    Keep qq (State.freeObjs s status result a4) := by
  revert h_s
  fun_induction State.freeObjs s status result a4
  all_goals intros
  all_goals (repeat' (first | (with_reducible first | assumption | apply keep_freeObj | apply keep_ite) | intro _ | apply_assumption))

theorem keep_bindImage {s : State} (p : Nat) (pl : SlotPlace) (h_s : Keep qq s) :
    Keep qq (State.bindImage s p pl) := by
  unfold State.bindImage
  repeat' (first | (with_reducible first | assumption | apply keep_modPart | apply keep_assignObjs | apply keep_ite) | intro _ | simp only [keep_mk] | split)

theorem keep_dropL1s {s : State} (a2 : List Nat) (h_s : Keep qq s) :
    Keep qq (State.dropL1s s a2) := by
  revert h_s
  fun_induction State.dropL1s s a2
  all_goals intros
  all_goals (repeat' (first | (with_reducible first | assumption | apply keep_setL1 | apply keep_ite) | intro _ | apply_assumption))

theorem keep_reload {s : State} (p : Nat) (k : Nat) (h_s : Keep qq s) :
    Keep qq (State.reload s p k) := by
  unfold State.reload
  repeat' (first | (with_reducible first | assumption | apply keep_raiseCluster | apply keep_setClu | apply keep_dropL1s | apply keep_ite) | intro _)

theorem keep_reloads {s : State} (p : Nat) (a3 : List Nat) (h_s : Keep qq s) :
    Keep qq (State.reloads s p a3) := by
  revert h_s
  fun_induction State.reloads s p a3
  all_goals intros
  all_goals (repeat' (first | (with_reducible first | assumption | apply keep_reload | apply keep_ite) | intro _ | apply_assumption))

theorem keep_startCores {s : State} (p : Nat) (slot : Nat) (v : Nat) (k : Nat) (im : List Byte) (a7 : Nat) (h_s : Keep qq s) :
    Keep qq (State.startCores s p slot v k im a7) := by
  revert h_s
  fun_induction State.startCores s p slot v k im a7
  all_goals intros
  all_goals (repeat' (first | (with_reducible first | assumption | apply keep_modCore | apply keep_ite) | intro _ | apply_assumption))

theorem keep_startClusters {s : State} (p : Nat) (slot : Nat) (im : List Byte) (a5 : List (Nat × Nat)) (h_s : Keep qq s) :
    Keep qq (State.startClusters s p slot im a5) := by
  revert h_s
  fun_induction State.startClusters s p slot im a5
  all_goals intros
  all_goals (repeat' (first | (with_reducible first | assumption | apply keep_startCores | apply keep_ite) | intro _ | apply_assumption))

theorem keep_setDecls {s : State} (p : Nat) (slot : Nat) (im : List Byte) (a5 : List Nat) (h_s : Keep qq s) :
    Keep qq (State.setDecls s p slot im a5) := by
  induction a5 generalizing s p slot im with
  | nil =>
    unfold State.setDecls
    repeat' (first | (with_reducible first | assumption | apply keep_endHostWaits | apply keep_setObj | apply keep_ite) | intro _ | simp only [keep_mk] | split)
  | cons x xs ih =>
    unfold State.setDecls
    repeat' (first | (with_reducible first | assumption | apply keep_endHostWaits | apply keep_setObj | apply keep_ite | apply ih) | intro _ | simp only [keep_mk] | split)

theorem keep_startTrees {s : State} (p : Nat) (slot : Nat) (im : List Byte) (a5 : List Nat) (h_s : Keep qq s) :
    Keep qq (State.startTrees s p slot im a5) := by
  revert h_s
  fun_induction State.startTrees s p slot im a5
  all_goals intros
  all_goals (repeat' (first | (with_reducible first | assumption | apply keep_setTree | apply keep_ite) | intro _ | apply_assumption))

theorem keep_startMember {s : State} (p : Nat) (slot : Nat) (h_s : Keep qq s) :
    Keep qq (State.startMember s p slot) := by
  unfold State.startMember
  repeat' (first | (with_reducible first | assumption | apply keepC_of | apply keep_reloads | apply keep_setDecls | apply keep_startTrees | apply keep_startClusters | apply keep_ite | apply keep_pite | refine keep_fst (by assumption) ?_) | intro _ | simp only [keep_mk] | split | extract_lets | simp +zetaDelta only [keep_mk])

theorem keep_tellMembers {s : State} (p : Nat) (kind : Nat) (a : Nat) (b : Nat) (h_s : Keep qq s) :
    Keep qq (State.tellMembers s p kind a b) := h_s

theorem keep_startLaunch {s : State} (p : Nat) (x : Queued) (h_s : Keep qq s) :
    Keep qq (State.startLaunch s p x) := by
  unfold State.startLaunch
  repeat' (first | (with_reducible first | assumption | apply keep_setReg | apply keep_modPart | apply keep_startMember | apply keep_tellMembers | apply keep_ite) | intro _)

theorem keep_launchNext {s : State} (p : Nat) (h_s : Keep qq s) :
    Keep qq (State.launchNext s p) := by
  unfold State.launchNext
  repeat' (first | (with_reducible first | assumption | apply keepC_of | apply keep_startLaunch | apply keep_modPart | apply keep_tellMembers | apply keep_ite | apply keep_pite | refine keep_fst (by assumption) ?_) | intro _ | simp only [keep_mk] | split | extract_lets | simp +zetaDelta only [keep_mk])

theorem keep_idleFrom {s : State} (a2 : List Nat) (h_s : Keep qq s) :
    Keep qq (State.idleFrom s a2) := by
  revert h_s
  fun_induction State.idleFrom s a2
  all_goals intros
  all_goals (repeat' (first | (with_reducible first | assumption | apply keep_modClu | apply keep_ite) | intro _ | apply_assumption))

theorem keep_launchOver {s : State} (p : Nat) (h_s : Keep qq s) :
    Keep qq (State.launchOver s p) := by
  unfold State.launchOver
  repeat' (first | (with_reducible first | assumption | apply keep_idleFrom | apply keep_modPart | apply keep_ite) | intro _)

theorem keep_launchComplete {s : State} (p : Nat) (h_s : Keep qq s) :
    Keep qq (State.launchComplete s p) := by
  unfold State.launchComplete
  repeat' (first | (with_reducible first | assumption | apply keep_emit | apply keep_launchOver | apply keep_setReg | apply keep_endDesc | apply keep_launchNext | apply keep_ite) | intro _ | simp only [keep_mk] | split)

theorem keep_loadImage {s : State} (p : Nat) (slot : Nat) (bs : List Byte) (pl : SlotPlace) (h_s : Keep qq s) :
    Keep qq (State.loadImage s p slot bs pl).1 := by
  unfold State.loadImage
  repeat' (first | (with_reducible first | assumption | apply keep_modPart | apply keep_bindImage | apply keep_ite) | intro _ | simp only [keep_mk] | split)

theorem keep_dropImage {s : State} (p : Nat) (slot : Nat) (h_s : Keep qq s) :
    Keep qq (State.dropImage s p slot) := by
  unfold State.dropImage
  repeat' (first | (with_reducible first | assumption | apply keep_modPart | apply keep_freeObjs | apply keep_ite) | intro _ | simp only [keep_mk] | split)

theorem keep_loadEnd {s : State} (desc : Nat) (status : Nat) (slot : Nat) (h_s : Keep qq s) :
    Keep qq (State.loadEnd s desc status slot) := by
  unfold State.loadEnd
  repeat' (first | (with_reducible first | assumption | apply keep_endDesc | apply keep_ite) | intro _)

theorem keep_loadHere {s : State} (d : HostDesc) (p : Nat) (pl : SlotPlace) (h_s : Keep qq s) :
    Keep qq (State.loadHere s d p pl) := by
  unfold State.loadHere
  repeat' (first | (with_reducible first | assumption | apply keepC_of | apply keep_loadEnd | apply keep_readVa | apply keep_loadImage | apply keep_modPart | apply keep_tellMembers | apply keep_emits | apply keep_endDesc | apply keep_draw | apply keep_ite | apply keep_pite | refine keep_fst (by assumption) ?_) | intro _ | simp only [keep_mk] | split | extract_lets | simp +zetaDelta only [keep_mk])

theorem keep_execLoad (from_ : LoadFrom) (pl : SlotPlace) {s : State} (h_s : Keep qq s) :
    KeepO qq (execLoad from_ pl s) := by
  unfold execLoad
  repeat' (first | (with_reducible first | assumption | apply keepO_next | apply keep_startDesc | apply keep_loadHere | apply keep_loadImage | apply keep_emit | apply keep_ite) | intro _ | simp only [keep_mk] | split)

theorem keep_execUnload (from_ : SlotFrom) {s : State} (h_s : Keep qq s) :
    KeepO qq (execUnload from_ s) := by
  unfold execUnload
  repeat' (first | (with_reducible first | assumption | apply keepO_next | apply keep_startDesc | apply keep_endDesc | apply keep_tellMembers | apply keep_dropImage | apply keep_ite) | intro _ | simp only [keep_mk] | split)

theorem keep_execLaunch (from_ : SlotFrom) {s : State} (h_s : Keep qq s) :
    KeepO qq (execLaunch from_ s) := by
  unfold execLaunch
  repeat' (first | (with_reducible first | assumption | apply keepO_next | apply keep_startDesc | apply keep_endDesc | apply keep_launchNext | apply keep_modPart | apply keep_startMember | apply keep_ite) | intro _ | simp only [keep_mk] | split)

theorem keep_abortCopies {s : State} (a2 : List (Nat × Xfer)) (h_s : Keep qq s) :
    Keep qq (State.abortCopies s a2) := by
  induction a2 generalizing s with
  | nil =>
    unfold State.abortCopies
    repeat' (first | (with_reducible first | assumption | apply keep_endDesc | apply keep_ite) | intro _ | simp only [keep_mk] | split)
  | cons x xs ih =>
    unfold State.abortCopies
    repeat' (first | (with_reducible first | assumption | apply keep_endDesc | apply keep_ite | apply ih) | intro _ | simp only [keep_mk] | split)

theorem keep_stopXfers {s : State} (a2 : List (Nat × Xfer)) (h_s : Keep qq s) :
    Keep qq (State.stopXfers s a2) := by
  revert h_s
  fun_induction State.stopXfers s a2
  all_goals intros
  all_goals (repeat' (first | (with_reducible first | assumption | apply keep_leaveOpen | apply keep_ite) | intro _ | apply_assumption))

theorem keep_refillAll {s : State} (a2 : List Nat) (h_s : Keep qq s) :
    Keep qq (State.refillAll s a2) := by
  revert h_s
  fun_induction State.refillAll s a2
  all_goals intros
  all_goals (repeat' (first | (with_reducible first | assumption | apply keep_refillEngine | apply keep_ite) | intro _ | apply_assumption))

theorem keep_dropXfers {s : State} (f : Xfer → Bool) (h_s : Keep qq s) :
    Keep qq (State.dropXfers s f).1 := by
  unfold State.dropXfers
  repeat' (first | (with_reducible first | assumption | apply keepC_of | apply keep_stopXfers | apply keep_ite | apply keep_pite | refine keep_fst (by assumption) ?_) | intro _ | simp only [keep_mk] | split | extract_lets | simp +zetaDelta only [keep_mk])

theorem keep_pullXfers {s : State} (f : Xfer → Bool) (h_s : Keep qq s) :
    Keep qq (State.pullXfers s f).1 := by
  unfold State.pullXfers
  repeat' (first | (with_reducible first | assumption | apply keep_dropXfers | apply keep_refillAll | apply keep_ite) | intro _)

theorem keep_removeDesc {s : State} (d : HostDesc) (h_s : Keep qq s) :
    Keep qq (State.removeDesc s d) := by
  unfold State.removeDesc
  repeat' (first | (with_reducible first | assumption | apply keepC_of | apply keep_pullXfers | apply keep_setObj | apply keep_modPart | apply keep_endDesc | apply keep_ite | apply keep_pite | refine keep_fst (by assumption) ?_) | intro _ | simp only [keep_mk] | split | extract_lets | simp +zetaDelta only [keep_mk])

theorem keep_removeDescs {s : State} (a2 : List HostDesc) (h_s : Keep qq s) :
    Keep qq (State.removeDescs s a2).1 := by
  revert h_s
  fun_induction State.removeDescs s a2
  all_goals intros
  all_goals (repeat' (first | (with_reducible first | assumption | apply keep_removeDesc | apply keep_ite) | intro _ | apply_assumption))

theorem keep_ctxRemove {s : State} (v : Nat) (h : Nat) (cause : Nat) (h_s : Keep qq s) :
    Keep qq (State.ctxRemove s v h cause).1 := by
  unfold State.ctxRemove
  repeat' (first | (with_reducible first | assumption | apply keep_removeDescs | apply keep_ledgerPart | apply keep_mbEvent | apply keep_ite) | intro _)

theorem keep_ctxRemoves {s : State} (v : Nat) (cause : Nat) (a4 : List Nat) (h_s : Keep qq s) :
    Keep qq (State.ctxRemoves s v cause a4) := by
  revert h_s
  fun_induction State.ctxRemoves s v cause a4
  all_goals intros
  all_goals (repeat' (first | (with_reducible first | assumption | apply keep_ctxRemove | apply keep_ite) | intro _ | apply_assumption))

theorem keep_tdiTo {s : State} (v : Nat) (st : TdiSt) (h_s : Keep qq s) :
    Keep qq (State.tdiTo s v st) := by
  unfold State.tdiTo
  repeat' (first | (with_reducible first | assumption | apply keep_setInst | apply keep_ctxRemoves | apply keep_ite) | intro _)

theorem keep_tdiFail {s : State} (v : Nat) (h_s : Keep qq s) :
    Keep qq (State.tdiFail s v) := by
  unfold State.tdiFail
  repeat' (first | (with_reducible first | assumption | apply keep_tdiTo | apply keep_ite) | intro _)

theorem keep_endTenants {s : State} (p : Nat) (h_s : Keep qq s) :
    Keep qq (State.endTenants s p) := h_s

theorem keep_sendEvents {s : State} (a2 : List McEvent) (h_s : Keep qq s) :
    Keep qq (State.sendEvents s a2) := by
  revert h_s
  fun_induction State.sendEvents s a2
  all_goals intros
  all_goals (repeat' (first | (with_reducible first | assumption | apply keep_emit | apply keep_ite) | intro _ | apply_assumption))

theorem keep_mctpEvent {s : State} (code : Nat) (object : Nat) (h_s : Keep qq s) :
    Keep qq (State.mctpEvent s code object) := by
  unfold State.mctpEvent
  repeat' (first | (with_reducible first | assumption | apply keepC_of | apply keep_sendEvents | apply keep_ite | apply keep_pite | refine keep_fst (by assumption) ?_) | intro _ | simp only [keep_mk] | split | extract_lets | simp +zetaDelta only [keep_mk])

theorem keep_svcEvt {s : State} (k : Nat) (m : Nat) (h_s : Keep qq s) :
    Keep qq (State.svcEvt s k m) := by
  unfold State.svcEvt
  repeat' (first | (with_reducible first | assumption | apply keep_msix | apply keep_setBits | apply keep_ite) | intro _)

theorem keep_secAlarm {s : State} (b : Nat) (h_s : Keep qq s) :
    Keep qq (State.secAlarm s b) := by
  unfold State.secAlarm
  repeat' (first | (with_reducible first | assumption | apply keep_msix | apply keep_setBits | apply keep_ite) | intro _)

theorem keep_panelRecord {s : State} (event : Nat) (object : Nat) (code : Nat) (value : Nat) (h_s : Keep qq s) :
    Keep qq (State.panelRecord s event object code value) := by
  unfold State.panelRecord
  repeat' (first | (with_reducible first | assumption | apply keep_ledger | apply keep_ite) | intro _)

theorem keep_sendWords {s : State} (i : Nat) (kind : Nat) (payloads : List Nat) (auth : Bool) (h_s : Keep qq s) :
    Keep qq (State.sendWords s i kind payloads auth) := by
  unfold State.sendWords
  repeat' (first | (with_reducible first | assumption | apply keep_emits | apply keep_setLnk | apply keep_ite) | intro _)

theorem keep_control {s : State} (i : Nat) (kind : Nat) (payload : Nat) (auth : Bool) (h_s : Keep qq s) :
    Keep qq (State.control s i kind payload auth) := by
  unfold State.control
  repeat' (first | (with_reducible first | assumption | apply keep_sendWords | apply keep_ite) | intro _)

theorem keep_announce {s : State} (i : Nat) (h_s : Keep qq s) :
    Keep qq (State.announce s i) := by
  unfold State.announce
  repeat' (first | (with_reducible first | assumption | apply keep_control | apply keep_ite) | intro _)

theorem keep_announceOn {s : State} (a2 : List Nat) (h_s : Keep qq s) :
    Keep qq (State.announceOn s a2) := by
  revert h_s
  fun_induction State.announceOn s a2
  all_goals intros
  all_goals (repeat' (first | (with_reducible first | assumption | apply keep_announce | apply keep_ite) | intro _ | apply_assumption))

theorem keep_requar {s : State} (i : Nat) (h_s : Keep qq s) :
    Keep qq (State.requar s i) := by
  unfold State.requar
  repeat' (first | (with_reducible first | assumption | apply keep_modLnk | apply keep_ite) | intro _)

theorem keep_requarOn {s : State} (a2 : List Nat) (h_s : Keep qq s) :
    Keep qq (State.requarOn s a2) := by
  revert h_s
  fun_induction State.requarOn s a2
  all_goals intros
  all_goals (repeat' (first | (with_reducible first | assumption | apply keep_requar | apply keep_ite) | intro _ | apply_assumption))

theorem keep_dropFlits {s : State} (off : Nat) (a3 : Nat) (h_s : Keep qq s) :
    Keep qq (State.dropFlits s off a3) := by
  revert h_s
  fun_induction State.dropFlits s off a3
  all_goals intros
  all_goals (repeat' (first | (with_reducible first | assumption | apply keep_dropFlit | apply keep_ite) | intro _ | apply_assumption))

theorem keep_reroute {s : State} (a2 : List Flit) (h_s : Keep qq s) :
    Keep qq (State.reroute s a2) := by
  revert h_s
  fun_induction State.reroute s a2
  all_goals intros
  all_goals (repeat' (first | (with_reducible first | assumption | apply keep_dropFlit | apply keep_freeRx | apply keep_route | apply keep_ite) | intro _ | apply_assumption))

theorem keep_parentLost {s : State} (i : Nat) (h_s : Keep qq s) :
    Keep qq (State.parentLost s i) := by
  unfold State.parentLost
  repeat' (first | (with_reducible first | assumption | apply keepC_of | apply keep_ite | apply keep_pite | refine keep_fst (by assumption) ?_) | intro _ | simp only [keep_mk] | split | extract_lets | simp +zetaDelta only [keep_mk])

theorem keep_linkTo {s : State} (i : Nat) (st : LnkSt) (cause : Nat) (h_s : Keep qq s) :
    Keep qq (State.linkTo s i st cause) := by
  unfold State.linkTo
  repeat' (first | (with_reducible first | assumption | apply keep_ledger | apply keep_bump | apply keep_mctpEvent | apply keep_dropFlits | apply keep_dropSlots | apply keep_setLnk | apply keep_reroute | apply keep_parentLost | apply keep_ite) | intro _)

theorem keep_rekeyOut {s : State} (i : Nat) (msg : Nat) (xid : Nat) (bs : List Byte) (small : Nat) (h_s : Keep qq s) :
    Keep qq (State.rekeyOut s i msg xid bs small) := by
  unfold State.rekeyOut
  repeat' (first | (with_reducible first | assumption | apply keep_sendWords | apply keep_ite) | intro _)

theorem keep_sendRekey {s : State} (i : Nat) (msg : Nat) (xid : Nat) (bs : List Byte) (small : Nat) (h_s : Keep qq s) :
    Keep qq (State.sendRekey s i msg xid bs small) := by
  unfold State.sendRekey
  repeat' (first | (with_reducible first | assumption | apply keep_modLnk | apply keep_rekeyOut | apply keep_ite) | intro _)

theorem keep_beginExch {s : State} (i : Nat) (rollover : Bool) (h_s : Keep qq s) :
    Keep qq (State.beginExch s i rollover) := by
  unfold State.beginExch
  repeat' (first | (with_reducible first | assumption | apply keep_sendRekey | apply keep_setLnk | apply keep_draw | apply keep_drbg | apply keep_ite) | intro _)

theorem keep_startKeying {s : State} (i : Nat) (h_s : Keep qq s) :
    Keep qq (State.startKeying s i) := by
  unfold State.startKeying
  repeat' (first | (with_reducible first | assumption | apply keep_beginExch | apply keep_ite) | intro _ | simp only [keep_mk] | split)

theorem keep_startKeyings {s : State} (a2 : List Nat) (h_s : Keep qq s) :
    Keep qq (State.startKeyings s a2) := by
  revert h_s
  fun_induction State.startKeyings s a2
  all_goals intros
  all_goals (repeat' (first | (with_reducible first | assumption | apply keep_startKeying | apply keep_ite) | intro _ | apply_assumption))

theorem keep_toQuarantine {s : State} (i : Nat) (h_s : Keep qq s) :
    Keep qq (State.toQuarantine s i) := by
  unfold State.toQuarantine
  repeat' (first | (with_reducible first | assumption | apply keep_startKeying | apply keep_requar | apply keep_linkTo | apply keep_ite) | intro _)

theorem keep_linkAlarm {s : State} (i : Nat) (h_s : Keep qq s) :
    Keep qq (State.linkAlarm s i) := by
  unfold State.linkAlarm
  repeat' (first | (with_reducible first | assumption | apply keep_toQuarantine | apply keep_modLnk | apply keep_ledger | apply keep_secAlarm | apply keep_ite) | intro _)

theorem keep_rehold {s : State} (i : Nat) (h_s : Keep qq s) :
    Keep qq (State.rehold s i) := by
  unfold State.rehold
  repeat' (first | (with_reducible first | assumption | apply keep_setLnk | apply keep_bump | apply keep_pump | apply keep_ite) | intro _ | simp only [keep_mk] | split)

theorem keep_reholdOn {s : State} (a2 : List Nat) (h_s : Keep qq s) :
    Keep qq (State.reholdOn s a2) := by
  revert h_s
  fun_induction State.reholdOn s a2
  all_goals intros
  all_goals (repeat' (first | (with_reducible first | assumption | apply keep_rehold | apply keep_ite) | intro _ | apply_assumption))

theorem keep_tableWritten {s : State} (a2 : List Nat) (h_s : Keep qq s) :
    Keep qq (State.tableWritten s a2) := by
  revert h_s
  fun_induction State.tableWritten s a2
  all_goals intros
  all_goals (repeat' (first | (with_reducible first | assumption | apply keep_modLnk | apply keep_ite) | intro _ | apply_assumption))

theorem keep_activateRoutes {s : State} (h_s : Keep qq s) :
    Keep qq (State.activateRoutes s) := by
  unfold State.activateRoutes
  repeat' (first | (with_reducible first | assumption | apply keepC_of | apply keep_clearBits | apply keep_setReg | apply keep_reholdOn | apply keep_requarOn | apply keep_announceOn | apply keep_tableWritten | apply keep_ite | apply keep_pite | refine keep_fst (by assumption) ?_) | intro _ | simp only [keep_mk] | split | extract_lets | simp +zetaDelta only [keep_mk])

theorem keep_askReplay {s : State} (i : Nat) (h_s : Keep qq s) :
    Keep qq (State.askReplay s i) := by
  unfold State.askReplay
  repeat' (first | (with_reducible first | assumption | apply keep_control | apply keep_bump | apply keep_setLnk | apply keep_ite) | intro _)

theorem keep_linkDown {s : State} (i : Nat) (cause : Nat) (h_s : Keep qq s) :
    Keep qq (State.linkDown s i cause) := by
  unfold State.linkDown
  repeat' (first | (with_reducible first | assumption | apply keep_linkTo | apply keep_ite) | intro _)

theorem keep_linksDown {s : State} (cause : Nat) (a3 : List Nat) (h_s : Keep qq s) :
    Keep qq (State.linksDown s cause a3) := by
  revert h_s
  fun_induction State.linksDown s cause a3
  all_goals intros
  all_goals (repeat' (first | (with_reducible first | assumption | apply keep_linkDown | apply keep_ite) | intro _ | apply_assumption))

theorem keep_linksUp {s : State} (a2 : List Nat) (h_s : Keep qq s) :
    Keep qq (State.linksUp s a2) := by
  revert h_s
  fun_induction State.linksUp s a2
  all_goals intros
  all_goals (repeat' (first | (with_reducible first | assumption | apply keep_linkTo | apply keep_ite) | intro _ | apply_assumption))

theorem keep_supplyFailure {s : State} (c : Nat) (overload : Bool) (h_s : Keep qq s) :
    Keep qq (State.supplyFailure s c overload) := by
  unfold State.supplyFailure
  repeat' (first | (with_reducible first | assumption | apply keep_linksDown | apply keep_svcEvt | apply keep_bump | apply keep_ledger | apply keep_setCage | apply keep_ite) | intro _)

theorem keep_cmisFault {s : State} (c : Nat) (h_s : Keep qq s) :
    Keep qq (State.cmisFault s c) := by
  unfold State.cmisFault
  repeat' (first | (with_reducible first | assumption | apply keep_linksDown | apply keep_svcEvt | apply keep_modCage | apply keep_ite) | intro _)

theorem keep_powerRestart {s : State} (c : Nat) (h_s : Keep qq s) :
    Keep qq (State.powerRestart s c) := h_s

theorem keep_attnRequest {s : State} (c : Nat) (h_s : Keep qq s) :
    Keep qq (State.attnRequest s c) := by
  unfold State.attnRequest
  repeat' (first | (with_reducible first | assumption | apply keep_mctpEvent | apply keep_svcEvt | apply keep_modCage | apply keep_ite) | intro _)

theorem keep_attnCancel {s : State} (c : Nat) (h_s : Keep qq s) :
    Keep qq (State.attnCancel s c) := by
  unfold State.attnCancel
  repeat' (first | (with_reducible first | assumption | apply keep_modCage | apply keep_powerRestart | apply keep_ite) | intro _ | simp only [keep_mk] | split)

theorem keep_attnSafe {s : State} (c : Nat) (h_s : Keep qq s) :
    Keep qq (State.attnSafe s c) := by
  unfold State.attnSafe
  repeat' (first | (with_reducible first | assumption | apply keep_svcEvt | apply keep_modCage | apply keep_ite) | intro _)

theorem keep_setSt {s : State} (p : Nat) (st : PartSt) (h_s : Keep qq s) :
    Keep qq (State.setSt s p st) := by
  unfold State.setSt
  repeat' (first | (with_reducible first | assumption | apply keep_mbEvent | apply keep_modPart | apply keep_endTenants | apply keep_tdiFail | apply keep_ite) | intro _)

theorem keep_endBinds {s : State} (code : Nat) (epoch : Nat) (cat : List Byte) (hash : Bool) (a6 : List (Nat × Nat)) (h_s : Keep qq s) :
    Keep qq (State.endBinds s code epoch cat hash a6) := by
  revert h_s
  fun_induction State.endBinds s code epoch cat hash a6
  all_goals intros
  all_goals (repeat' (first | (with_reducible first | assumption | apply keep_hostWrite | apply keep_endDesc | apply keep_ite) | intro _ | apply_assumption))

theorem keep_mctpBindEnd {s : State} (seqs : List Nat) (comp : Nat) (code : Nat) (h_s : Keep qq s) :
    Keep qq (State.mctpBindEnd s seqs comp code) := by
  unfold State.mctpBindEnd
  repeat' (first | (with_reducible first | assumption | apply keep_mctpEvent | apply keep_emits | apply keep_ite) | intro _)

theorem keep_opEnd {s : State} (p : Nat) (code : Nat) (h_s : Keep qq s) :
    Keep qq (State.opEnd s p code) := by
  unfold State.opEnd
  repeat' (first | (with_reducible first | assumption | apply keep_setReg | apply keep_modPart | apply keep_clearBits | apply keep_endBinds | apply keep_mctpBindEnd | apply keep_ite) | intro _ | simp only [keep_mk] | split)

theorem keep_bindReply {s : State} (descs : List (Nat × Nat)) (mctp : List Nat) (comp : Nat) (code : Nat) (h_s : Keep qq s) :
    Keep qq (State.bindReply s descs mctp comp code) := by
  unfold State.bindReply
  repeat' (first | (with_reducible first | assumption | apply keep_endBinds | apply keep_mctpBindEnd | apply keep_ite) | intro _)

theorem keep_takeGroup {s : State} (p : Nat) (m : EnvMember) (x : Nat × Nat × List Nat) (h_s : Keep qq s) :
    Keep qq (State.takeGroup s p m x) := by
  unfold State.takeGroup
  repeat' (first | (with_reducible first | assumption | apply keep_setGroup | apply keep_giveTakings | apply keep_setReg | apply keep_ite) | intro _)

theorem keep_takeGroups {s : State} (p : Nat) (m : EnvMember) (a4 : List (Nat × Nat × List Nat)) (h_s : Keep qq s) :
    Keep qq (State.takeGroups s p m a4) := by
  revert h_s
  fun_induction State.takeGroups s p m a4
  all_goals intros
  all_goals (repeat' (first | (with_reducible first | assumption | apply keep_takeGroup | apply keep_ite) | intro _ | apply_assumption))

theorem keep_setBuckets {s : State} (base : Nat) (rem : Nat) (a4 : List Nat) (h_s : Keep qq s) :
    Keep qq (State.setBuckets s base rem a4) := by
  revert h_s
  fun_induction State.setBuckets s base rem a4
  all_goals intros
  all_goals (repeat' (first | (with_reducible first | assumption | apply keep_setReg | apply keep_ite) | intro _ | apply_assumption))

theorem keep_reshare {s : State} (a2 : List Nat) (h_s : Keep qq s) :
    Keep qq (State.reshare s a2) := by
  revert h_s
  fun_induction State.reshare s a2
  all_goals intros
  all_goals (repeat' (first | (with_reducible first | assumption | apply keep_modClu | apply keep_ite) | intro _ | apply_assumption))

theorem keep_setQos {s : State} (p : Nat) (role : Nat) (flags : Nat) (m : EnvMember) (ks : List Nat) (h_s : Keep qq s) :
    Keep qq (State.setQos s p role flags m ks) := by
  unfold State.setQos
  repeat' (first | (with_reducible first | assumption | apply keep_setReg | apply keep_setBuckets | apply keep_ite) | intro _)

theorem keep_writeTables {s : State} (a2 : List (Nat × List Nat)) (h_s : Keep qq s) :
    Keep qq (State.writeTables s a2) := by
  revert h_s
  fun_induction State.writeTables s a2
  all_goals intros
  all_goals (repeat' (first | (with_reducible first | assumption | apply keep_hostWrite | apply keep_ite) | intro _ | apply_assumption))

theorem keep_mapCarve {s : State} (p : Nat) (h_s : Keep qq s) :
    Keep qq (State.mapCarve s p) := by
  unfold State.mapCarve
  repeat' (first | (with_reducible first | assumption | apply keep_writeTables | apply keep_ite) | intro _)

theorem keep_unmapCarve {s : State} (p : Nat) (h_s : Keep qq s) :
    Keep qq (State.unmapCarve s p) := by
  unfold State.unmapCarve
  repeat' (first | (with_reducible first | assumption | apply keep_writeTables | apply keep_ite) | intro _)

theorem keep_reserveHere {s : State} (e : Envelope) (m : EnvMember) (h_s : Keep qq s) :
    Keep qq (State.reserveHere s e m).1 := by
  unfold State.reserveHere
  repeat' (first | (with_reducible first | assumption | apply keep_takeGroups | apply keep_mapCarve | apply keep_setQos | apply keep_setPart | apply keep_setReg | apply keep_setSt | apply keep_reshare | apply keep_ite) | intro _ | simp only [keep_mk] | split)

theorem keep_revokeWins {s : State} (f : InWin → Bool) (a3 : List Nat) (h_s : Keep qq s) :
    Keep qq (State.revokeWins s f a3).1 := by
  revert h_s
  fun_induction State.revokeWins s f a3
  all_goals intros
  all_goals (repeat' (first | (with_reducible first | assumption | apply keep_setInWin | apply keep_ite) | intro _ | apply_assumption))

theorem keep_freePool {s : State} (p : Nat) (h_s : Keep qq s) :
    Keep qq (State.freePool s p) := h_s

theorem keep_dropRegion {s : State} (q : Nat) (h_s : Keep qq s) :
    Keep qq (State.dropRegion s q) := h_s

theorem keep_dropRegions {s : State} (a2 : List Nat) (h_s : Keep qq s) :
    Keep qq (State.dropRegions s a2) := by
  revert h_s
  fun_induction State.dropRegions s a2
  all_goals intros
  all_goals (repeat' (first | (with_reducible first | assumption | apply keep_dropRegion | apply keep_ite) | intro _ | apply_assumption))

theorem keep_dropGroup {s : State} (p : Nat) (g : Nat) (h_s : Keep qq s) :
    Keep qq (State.dropGroup s p g) := by
  unfold State.dropGroup
  repeat' (first | (with_reducible first | assumption | apply keep_wakeGroup | apply keep_dropRegions | apply keep_setGroup | apply keep_modPart | apply keep_setReg | apply keep_ite) | intro _)

theorem keep_dropGroups {s : State} (p : Nat) (a3 : List Nat) (h_s : Keep qq s) :
    Keep qq (State.dropGroups s p a3) := by
  revert h_s
  fun_induction State.dropGroups s p a3
  all_goals intros
  all_goals (repeat' (first | (with_reducible first | assumption | apply keep_dropGroup | apply keep_ite) | intro _ | apply_assumption))

theorem keep_calmPorts {s : State} (a2 : List Nat) (h_s : Keep qq s) :
    Keep qq (State.calmPorts s a2) := by
  revert h_s
  fun_induction State.calmPorts s a2
  all_goals intros
  all_goals (repeat' (first | (with_reducible first | assumption | apply keep_setUrgency | apply keep_ite) | intro _ | apply_assumption))

theorem keep_untag {s : State} (p : Nat) (a3 : List Nat) (h_s : Keep qq s) :
    Keep qq (State.untag s p a3) := by
  revert h_s
  fun_induction State.untag s p a3
  all_goals intros
  all_goals (repeat' (first | (with_reducible first | assumption | apply keep_calmPorts | apply keep_modClu | apply keep_ite) | intro _ | apply_assumption))

theorem keep_resetBuckets {s : State} (a2 : List Nat) (h_s : Keep qq s) :
    Keep qq (State.resetBuckets s a2) := by
  revert h_s
  fun_induction State.resetBuckets s a2
  all_goals intros
  all_goals (repeat' (first | (with_reducible first | assumption | apply keep_setReg | apply keep_ite) | intro _ | apply_assumption))

theorem keep_dropPlan {s : State} (p : Nat) (h_s : Keep qq s) :
    Keep qq (State.dropPlan s p) := h_s

theorem keep_closeOut {s : State} (p : Nat) (h : Keep qq s) : Keep qq { s with outWins := closeOut p s.outWins } := h

theorem keep_releasePart {s : State} (p : Nat) (h_s : Keep qq s) : Keep qq (State.releasePart s p) := by
  unfold State.releasePart
  refine keep_dropPlan _ (keep_ite (fun _ => keep_resetBuckets _ ?_) fun _ => ?_)
  all_goals exact keep_dropGroups _ _ (keep_untag _ _ (keep_unmapCarve _ (keep_purgeXlt _ (keep_freePool _ (keep_freeObjs _ _ _
    (keep_closeOut _ (keep_revokeWins _ _ h_s)))))))

theorem keep_freePartition {s : State} (p : Nat) (h_s : Keep qq s) :
    Keep qq (State.freePartition s p) := by
  unfold State.freePartition
  repeat' (first | (with_reducible first | assumption | apply keepC_of | apply keep_reshare | apply keep_setPart | apply keep_mbEvent | apply keep_clearBits | apply keep_setReg | apply keep_ite | apply keep_pite | refine keep_fst (by assumption) ?_) | intro _ | simp only [keep_mk] | split | extract_lets | simp +zetaDelta only [keep_mk])

theorem keep_pinRange {s : State} (p : Nat) (lo : Nat) (a4 : Nat) (h_s : Keep qq s) :
    Keep qq (State.pinRange s p lo a4) := by
  induction a4 generalizing s p lo with
  | zero =>
    unfold State.pinRange
    repeat' (first | (with_reducible first | assumption | apply keepC_of | apply keep_setL2 | apply keep_ite | apply keep_pite | apply keep_foldl | apply keepC_run | apply keepC_clear | apply keepC_move | apply keepC_spad | apply keepC_spadNil | apply keepC_spadMove | apply keepC_spadClear | apply keepC_host | refine keep_fst (by assumption) ?_) | intro _ | simp only [keep_mk] | split | extract_lets | simp +zetaDelta only [keep_mk])
  | succ n ih =>
    unfold State.pinRange
    repeat' (first | (with_reducible first | assumption | apply keepC_of | apply keep_setL2 | apply keep_ite | apply keep_pite | apply keep_foldl | apply keepC_run | apply keepC_clear | apply keepC_move | apply keepC_spad | apply keepC_spadNil | apply keepC_spadMove | apply keepC_spadClear | apply keepC_host | apply ih | refine keep_fst (by assumption) ?_) | intro _ | simp only [keep_mk] | split | extract_lets | simp +zetaDelta only [keep_mk])

theorem keep_openWin {s : State} (p : Nat) (l : LendSpec) {t_ : State} (h_s : Keep qq s) (e_ : State.openWin s p l = some t_) :
    Keep qq t_ := by
  unfold State.openWin at e_
  repeat' split at e_
  all_goals first | (cases e_; done) | (cases e_; repeat' (first | (with_reducible first | assumption | apply keepC_of | apply keep_pinRange | apply keep_emit | apply keep_setInWin | apply keep_ite | apply keep_pite | refine keep_fst (by assumption) ?_) | intro _ | simp only [keep_mk] | split | extract_lets | simp +zetaDelta only [keep_mk]))

theorem keep_openWins {s : State} (p : Nat) (a3 : List LendSpec) {t_ : State} (h_s : Keep qq s) (e_ : State.openWins s p a3 = some t_) :
    Keep qq t_ := by
  induction a3 generalizing s with
  | nil => cases e_; exact h_s
  | cons l ls ih =>
    unfold State.openWins at e_
    split at e_
    · cases e_
    · exact ih (keep_openWin _ _ h_s (by assumption)) e_

theorem keep_placeSlot {s : State} (p : Nat) (keep : Bool) (pl : SlotPlace) (h_s : Keep qq s) :
    Keep qq (State.placeSlot s p keep pl).1 := by
  unfold State.placeSlot
  repeat' (first | (with_reducible first | assumption | apply keep_bindImage | apply keep_ite) | intro _ | simp only [keep_mk] | split)

theorem keep_placeSlots {s : State} (p : Nat) (keep : Bool) (a4 : List SlotPlace) (h_s : Keep qq s) :
    Keep qq (State.placeSlots s p keep a4).1 := by
  revert h_s
  fun_induction State.placeSlots s p keep a4
  all_goals intros
  all_goals (repeat' (first | (with_reducible first | assumption | apply keepC_of | apply keep_placeSlot | apply keep_ite | apply keep_pite | refine keep_fst (by assumption) ?_) | intro _ | simp only [keep_mk] | split | extract_lets | simp +zetaDelta only [keep_mk] | apply_assumption))

theorem keep_clearClusters {s : State} (p : Nat) (a3 : List Nat) (h_s : Keep qq s) :
    Keep qq (State.clearClusters s p a3) := by
  revert h_s
  fun_induction State.clearClusters s p a3
  all_goals intros
  all_goals (repeat' (first | (with_reducible first | assumption | apply keep_flashClear | apply keep_ite) | intro _ | apply_assumption))

theorem keep_putL2 {s : State} (d : Nat) (es : List XltEntry) (h_s : Keep qq s) :
    Keep qq (State.putL2 s d es) := h_s

theorem keep_pinCarve {s : State} (p : Nat) (h_s : Keep qq s) :
    Keep qq (State.pinCarve s p) := by
  unfold State.pinCarve
  repeat' (first | (with_reducible first | assumption | apply keepC_of | apply keep_putL2 | apply keep_ite | apply keep_pite | apply keep_foldl | apply keepC_run | apply keepC_clear | apply keepC_move | apply keepC_spad | apply keepC_spadNil | apply keepC_spadMove | apply keepC_spadClear | apply keepC_host | refine keep_fst (by assumption) ?_) | intro _ | simp only [keep_mk] | split | extract_lets | simp +zetaDelta only [keep_mk])

theorem keep_wakeGroups {s : State} (a2 : List Nat) (h_s : Keep qq s) :
    Keep qq (State.wakeGroups s a2) := by
  revert h_s
  fun_induction State.wakeGroups s a2
  all_goals intros
  all_goals (repeat' (first | (with_reducible first | assumption | apply keep_wakeGroup | apply keep_ite) | intro _ | apply_assumption))

theorem keep_placePart {s : State} (p : Nat) (pl : PlaceSpec) (h_s : Keep qq s) :
    Keep qq (State.placePart s p pl).1 := by
  unfold State.placePart
  repeat' (first | (with_reducible first | assumption | apply keepC_of | apply keep_modPart | apply keep_freeObjs | apply keep_wakeGroups | apply keep_revokeWins | apply keep_placeSlots | apply keep_pinCarve | apply keep_clearClusters | apply keep_ite | apply keep_pite | refine keep_openWins _ _ ?_ (by assumption) | refine keep_fst (by assumption) ?_) | intro _ | simp only [keep_mk] | split | extract_lets | simp +zetaDelta only [keep_mk])

theorem keep_tagClusters {s : State} (p : Nat) (a3 : List Nat) (h_s : Keep qq s) :
    Keep qq (State.tagClusters s p a3) := by
  revert h_s
  fun_induction State.tagClusters s p a3
  all_goals intros
  all_goals (repeat' (first | (with_reducible first | assumption | apply keep_setClu | apply keep_ite) | intro _ | apply_assumption))

theorem keep_sealPart {s : State} (p : Nat) (cat : List Byte) (h_s : Keep qq s) :
    Keep qq (State.sealPart s p cat) := by
  unfold State.sealPart
  repeat' (first | (with_reducible first | assumption | apply keep_modPart | apply keep_setSt | apply keep_setReg | apply keep_tagClusters | apply keep_ite) | intro _)

theorem keep_retag {s : State} (lo : Nat) (n : Nat) (h_s : Keep qq s) :
    Keep qq (State.retag s lo n) := h_s

theorem keep_copyBad {s0 : State} (p : Nat) (src : Nat) (dst : Nat) {s : State} (a6 : List (Nat × Option SectorTag)) (h_s0 : Keep qq s0) (h_s : Keep qq s) :
    Keep qq (State.copyBad s0 p src dst s a6) := by
  revert h_s0 h_s
  fun_induction State.copyBad s0 p src dst s a6
  all_goals intros
  all_goals (repeat' (first | (with_reducible first | assumption | apply keep_integrityAlarm | apply keep_markPoison | apply keep_ite) | intro _ | apply_assumption))

theorem keep_copyPage {s0 : State} (p : Nat) (src : Nat) (dst : Nat) {s : State} (h_s0 : Keep qq s0) (h_s : Keep qq s) :
    Keep qq (State.copyPage s0 p src dst s) := by
  unfold State.copyPage
  repeat' (first | (with_reducible first | assumption | apply keepC_of | apply keep_copyBad | apply keep_retag | apply keep_ite | apply keep_pite | apply keep_foldl | apply keepC_run | apply keepC_clear | apply keepC_move | apply keepC_spad | apply keepC_spadNil | apply keepC_spadMove | apply keepC_spadClear | apply keepC_host | refine keep_fst (by assumption) ?_) | intro _ | simp only [keep_mk] | split | extract_lets | simp +zetaDelta only [keep_mk])

theorem keep_copyPages {s0 : State} (p : Nat) {s : State} (a4 : List (Nat × Nat)) (h_s0 : Keep qq s0) (h_s : Keep qq s) :
    Keep qq (State.copyPages s0 p s a4) := by
  revert h_s0 h_s
  fun_induction State.copyPages s0 p s a4
  all_goals intros
  all_goals (repeat' (first | (with_reducible first | assumption | apply keep_copyPage | apply keep_ite) | intro _ | apply_assumption))

theorem keep_moveCore {s0 : State} (im : List Byte) (live : Nat) (a : Nat) (b : Nat) {s : State} (h_s0 : Keep qq s0) (h_s : Keep qq s) :
    Keep qq (State.moveCore s0 im live a b s) := by
  unfold State.moveCore
  repeat' (first | (with_reducible first | assumption | apply keepC_of | apply keep_spadWrite | apply keep_setCore | apply keep_ite | apply keep_pite | refine keep_fst (by assumption) ?_) | intro _ | simp only [keep_mk] | split | extract_lets | simp +zetaDelta only [keep_mk])

theorem keep_moveCores {s0 : State} (im : List Byte) (live : Nat) (a : Nat) (b : Nat) {s : State} (a7 : Nat) (h_s0 : Keep qq s0) (h_s : Keep qq s) :
    Keep qq (State.moveCores s0 im live a b s a7) := by
  revert h_s0 h_s
  fun_induction State.moveCores s0 im live a b s a7
  all_goals intros
  all_goals (repeat' (first | (with_reducible first | assumption | apply keep_moveCore | apply keep_ite) | intro _ | apply_assumption))

theorem keep_idleCores {s : State} (k : Nat) (a3 : Nat) (h_s : Keep qq s) :
    Keep qq (State.idleCores s k a3) := by
  revert h_s
  fun_induction State.idleCores s k a3
  all_goals intros
  all_goals (repeat' (first | (with_reducible first | assumption | apply keep_modCore | apply keep_ite) | intro _ | apply_assumption))

theorem keep_moveClusters {s0 : State} (im : List Byte) (live : Nat) {s : State} (a5 : List (Nat × Nat)) (h_s0 : Keep qq s0) (h_s : Keep qq s) :
    Keep qq (State.moveClusters s0 im live s a5) := by
  revert h_s0 h_s
  fun_induction State.moveClusters s0 im live s a5
  all_goals intros
  all_goals (repeat' (first | (with_reducible first | assumption | apply keep_moveCores | apply keep_flashClear | apply keep_ite) | intro _ | apply_assumption))

theorem keep_rebuildTrees {s : State} (p : Nat) (slot : Nat) (im : List Byte) (ts : List TreeSpec) (a6 : List Nat) (h_s : Keep qq s) :
    Keep qq (State.rebuildTrees s p slot im ts a6) := by
  revert h_s
  fun_induction State.rebuildTrees s p slot im ts a6
  all_goals intros
  all_goals (repeat' (first | (with_reducible first | assumption | apply keep_setTree | apply keep_ite) | intro _ | apply_assumption))

theorem keep_withdraw {s : State} (p : Nat) (a3 : List Nat) (h_s : Keep qq s) :
    Keep qq (State.withdraw s p a3) := by
  revert h_s
  fun_induction State.withdraw s p a3
  all_goals intros
  all_goals (repeat' (first | (with_reducible first | assumption | apply keep_setObj | apply keep_ite) | intro _ | apply_assumption))

theorem keep_revokeGone {s : State} (p : Nat) (carve : Nat) (clusters : Nat) (h_s : Keep qq s) :
    Keep qq (State.revokeGone s p carve clusters) := by
  unfold State.revokeGone
  repeat' (first | (with_reducible first | assumption | apply keep_revokeWins | apply keep_ite) | intro _)

theorem keep_migrate {s : State} (p : Nat) (plan : PlaceSpec) (h_s : Keep qq s) :
    Keep qq (State.migrate s p plan).1 := by
  unfold State.migrate
  repeat' (first | (with_reducible first | assumption | apply keepC_of | apply keep_withdraw | apply keep_setSt | apply keep_wakeGroups | apply keep_clearClusters | apply keep_modPart | apply keep_copyPages | apply keep_idleCores | apply keep_moveClusters | apply keep_raiseClusters | apply keep_freeObjs | apply keep_placeSlots | apply keep_rebuildTrees | apply keep_reshare | apply keep_untag | apply keep_dropGroups | apply keep_revokeGone | apply keep_setReg | apply keep_pinCarve | apply keep_dropXlt | apply keep_mapCarve | apply keep_ite | apply keep_pite | apply keep_foldl | apply keepC_run | apply keepC_clear | apply keepC_move | apply keepC_spad | apply keepC_spadNil | apply keepC_spadMove | apply keepC_spadClear | apply keepC_host | refine keep_fst (by assumption) ?_) | intro _ | simp only [keep_mk] | split | extract_lets | simp +zetaDelta only [keep_mk])

theorem keep_accede {s : State} (p : Nat) (e : Envelope) (m : EnvMember) (h_s : Keep qq s) :
    Keep qq (State.accede s p e m).1 := by
  unfold State.accede
  repeat' (first | (with_reducible first | assumption | apply keep_takeGroups | apply keep_modPart | apply keep_ite) | intro _ | simp only [keep_mk] | split)

theorem keep_dropUpdate {s : State} (p : Nat) (h_s : Keep qq s) :
    Keep qq (State.dropUpdate s p) := by
  unfold State.dropUpdate
  repeat' (first | (with_reducible first | assumption | apply keep_modPart | apply keep_dropGroups | apply keep_ite) | intro _)

theorem keep_fitWays {s : State} (p : Nat) (m : EnvMember) (a4 : List Nat) (h_s : Keep qq s) :
    Keep qq (State.fitWays s p m a4) := by
  revert h_s
  fun_induction State.fitWays s p m a4
  all_goals intros
  all_goals (repeat' (first | (with_reducible first | assumption | apply keep_setGroup | apply keep_ite) | intro _ | apply_assumption))

theorem keep_writeGrants {s : State} (p : Nat) (rate : Nat) (a4 : List Nat) (h_s : Keep qq s) :
    Keep qq (State.writeGrants s p rate a4) := by
  revert h_s
  fun_induction State.writeGrants s p rate a4
  all_goals intros
  all_goals (repeat' (first | (with_reducible first | assumption | apply keep_setReg | apply keep_ite) | intro _ | apply_assumption))

theorem keep_commitUpdate {s : State} (p : Nat) (h_s : Keep qq s) :
    Keep qq (State.commitUpdate s p) := by
  unfold State.commitUpdate
  repeat' (first | (with_reducible first | assumption | apply keep_modPart | apply keep_revokeGone | apply keep_mapCarve | apply keep_setQos | apply keep_reshare | apply keep_untag | apply keep_dropGroups | apply keep_fitWays | apply keep_writeGrants | apply keep_ite) | intro _ | simp only [keep_mk] | split)

theorem keep_saveCluster {s : State} (p : Nat) (k : Nat) (h_s : Keep qq s) :
    Keep qq (State.saveCluster s p k) := h_s

theorem keep_switchCluster {s : State} (p : Nat) (k : Nat) (h_s : Keep qq s) :
    Keep qq (State.switchCluster s p k) := by
  unfold State.switchCluster
  repeat' (first | (with_reducible first | assumption | apply keepC_of | apply keep_flashClear | apply keep_saveCluster | apply keep_reload | apply keep_ite | apply keep_pite | apply keep_foldl | apply keepC_run | apply keepC_clear | apply keepC_move | apply keepC_spad | apply keepC_spadNil | apply keepC_spadMove | apply keepC_spadClear | apply keepC_host | refine keep_fst (by assumption) ?_) | intro _ | simp only [keep_mk] | split | extract_lets | simp +zetaDelta only [keep_mk])

theorem keep_switchClusters {s : State} (p : Nat) (a3 : List Nat) (h_s : Keep qq s) :
    Keep qq (State.switchClusters s p a3) := by
  revert h_s
  fun_induction State.switchClusters s p a3
  all_goals intros
  all_goals (repeat' (first | (with_reducible first | assumption | apply keep_switchCluster | apply keep_ite) | intro _ | apply_assumption))

theorem keep_suspend {s : State} (a2 : List Nat) (h_s : Keep qq s) :
    Keep qq (State.suspend s a2) := by
  revert h_s
  fun_induction State.suspend s a2
  all_goals intros
  all_goals (repeat' (first | (with_reducible first | assumption | apply keep_modPart | apply keep_setSt | apply keep_ite) | intro _ | apply_assumption))

theorem keep_grantSwitches {s : State} (a2 : Nat) (h_s : Keep qq s) :
    Keep qq (State.grantSwitches s a2) := by
  induction a2 generalizing s with
  | zero =>
    unfold State.grantSwitches
    repeat' (first | (with_reducible first | assumption | apply keepC_of | apply keep_suspend | apply keep_switchClusters | apply keep_modPart | apply keep_setSt | apply keep_launchNext | apply keep_emit | apply keep_ite | apply keep_pite | refine keep_fst (by assumption) ?_) | intro _ | simp only [keep_mk] | split | extract_lets | simp +zetaDelta only [keep_mk])
  | succ n ih =>
    unfold State.grantSwitches
    repeat' (first | (with_reducible first | assumption | apply keepC_of | apply keep_suspend | apply keep_switchClusters | apply keep_modPart | apply keep_setSt | apply keep_launchNext | apply keep_emit | apply keep_ite | apply keep_pite | apply ih | refine keep_fst (by assumption) ?_) | intro _ | simp only [keep_mk] | split | extract_lets | simp +zetaDelta only [keep_mk])

theorem keep_takeSample {s : State} (p : Nat) (slot : Nat) (running : Bool) (hang : Option Nat) (h_s : Keep qq s) :
    Keep qq (State.takeSample s p slot running hang) := by
  unfold State.takeSample
  repeat' (first | (with_reducible first | assumption | apply keep_mbEvent | apply keep_modPart | apply keep_hostWrite | apply keep_setReg | apply keep_ite) | intro _ | simp only [keep_mk] | split)

theorem keep_execSample (p : PartId) {s : State} (h_s : Keep qq s) :
    KeepO qq (execSample p s) := by
  unfold execSample
  repeat' (first | (with_reducible first | assumption | apply keepO_next | apply keep_takeSample | apply keep_ite) | intro _)

theorem keep_execSampleEnd (p : PartId) (ok : Bool) {s : State} (h_s : Keep qq s) :
    KeepO qq (execSampleEnd p ok s) := by
  unfold execSampleEnd
  repeat' (first | (with_reducible first | assumption | apply keepO_next | apply keep_setReg | apply keep_modPart | apply keep_ledgerPart | apply keep_mbEvent | apply keep_ite) | intro _ | simp only [keep_mk] | split)

theorem keep_calmObjs {s : State} (a2 : List Nat) (h_s : Keep qq s) :
    Keep qq (State.calmObjs s a2) := by
  revert h_s
  fun_induction State.calmObjs s a2
  all_goals intros
  all_goals (repeat' (first | (with_reducible first | assumption | apply keep_endHostWaits | apply keep_setObj | apply keep_ite) | intro _ | apply_assumption))

theorem keep_restTxns {s : State} (p : Nat) (h_s : Keep qq s) :
    Keep qq (State.restTxns s p) := h_s

theorem keep_abortQueue {s : State} (a2 : List Queued) (h_s : Keep qq s) :
    Keep qq (State.abortQueue s a2) := by
  revert h_s
  fun_induction State.abortQueue s a2
  all_goals intros
  all_goals (repeat' (first | (with_reducible first | assumption | apply keep_endDesc | apply keep_ite) | intro _ | apply_assumption))

theorem keep_flashAll {s : State} (a2 : List Nat) (h_s : Keep qq s) :
    Keep qq (State.flashAll s a2) := by
  revert h_s
  fun_induction State.flashAll s a2
  all_goals intros
  all_goals (repeat' (first | (with_reducible first | assumption | apply keep_flashClear | apply keep_ite) | intro _ | apply_assumption))

theorem keep_removeWork {s : State} (p : Nat) (h_s : Keep qq s) :
    Keep qq (State.removeWork s p) := by
  unfold State.removeWork
  repeat' (first | (with_reducible first | assumption | apply keepC_of | apply keep_restTxns | apply keep_pullXfers | apply keep_abortCopies | apply keep_ite | apply keep_pite | refine keep_fst (by assumption) ?_) | intro _ | simp only [keep_mk] | split | extract_lets | simp +zetaDelta only [keep_mk])

theorem keep_resetLocal {s : State} (p : Nat) (cause : ResetCause) (asked : Bool) (h_s : Keep qq s) :
    Keep qq (State.resetLocal s p cause asked) := by
  unfold State.resetLocal
  repeat' (first | (with_reducible first | assumption | apply keepC_of | apply keep_opEnd | apply keep_ledgerPart | apply keep_draw | apply keep_setSt | apply keep_modPart | apply keep_dropUpdate | apply keep_takeSample | apply keep_removeWork | apply keep_freePool | apply keep_flashAll | apply keep_calmObjs | apply keep_revokeWins | apply keep_abortQueue | apply keep_ite | apply keep_pite | refine keep_fst (by assumption) ?_) | intro _ | simp only [keep_mk] | split | extract_lets | simp +zetaDelta only [keep_mk])

theorem keep_resetFlit {s : State} (p : Nat) (dir : Nat) (link : Nat) (h_s : Keep qq s) :
    Keep qq (State.resetFlit s p dir link) := by
  unfold State.resetFlit
  repeat' (first | (with_reducible first | assumption | apply keep_gop | apply keep_ite) | intro _)

theorem keep_resetFlits {s : State} (p : Nat) (dir : Nat) (a4 : List Nat) (h_s : Keep qq s) :
    Keep qq (State.resetFlits s p dir a4) := by
  revert h_s
  fun_induction State.resetFlits s p dir a4
  all_goals intros
  all_goals (repeat' (first | (with_reducible first | assumption | apply keep_resetFlit | apply keep_ite) | intro _ | apply_assumption))

theorem keep_resetStart {s : State} (p : Nat) (cause : ResetCause) (h_s : Keep qq s) :
    Keep qq (State.resetStart s p cause) := by
  unfold State.resetStart
  repeat' (first | (with_reducible first | assumption | apply keep_modPart | apply keep_tellMembers | apply keep_resetLocal | apply keep_resetFlits | apply keep_ite) | intro _)

theorem keep_reopen {s : State} (a2 : List Nat) (h_s : Keep qq s) :
    Keep qq (State.reopen s a2) := by
  revert h_s
  fun_induction State.reopen s a2
  all_goals intros
  all_goals (repeat' (first | (with_reducible first | assumption | apply keep_setInWin | apply keep_emit | apply keep_ite) | intro _ | apply_assumption))

theorem keep_tdiOut {s : State} (v : Nat) (f : State → State) (h_s : Keep qq s) (h_f : ∀ v0, Keep qq v0 → Keep qq (f v0)) :
    Keep qq (State.tdiOut s v f) := by
  unfold State.tdiOut
  repeat' (first | (with_reducible first | assumption | apply keep_resetStart | apply keep_ite | apply h_f) | intro _)

theorem keep_tdiLeave {s : State} (v : Nat) (h_s : Keep qq s) :
    Keep qq (State.tdiLeave s v) := by
  unfold State.tdiLeave
  repeat' (first | (with_reducible first | assumption | apply keep_tdiOut | apply keep_tdiFail | apply keep_ite) | intro _)

theorem keep_mbReply {s : State} (v : Nat) (status : Nat) (results : List Byte) (h_s : Keep qq s) :
    Keep qq (State.mbReply s v status results) := by
  unfold State.mbReply
  repeat' (first | (with_reducible first | assumption | apply keep_msix | apply keep_setInst | apply keep_ite) | intro _)

theorem keep_ctxAnswer {s : State} (p : Nat) (h_s : Keep qq s) :
    Keep qq (State.ctxAnswer s p) := by
  unfold State.ctxAnswer
  repeat' (first | (with_reducible first | assumption | apply keep_mbReply | apply keep_modPart | apply keep_ite) | intro _)

theorem keep_resetOver {s : State} (p : Nat) (r : ResetSt) (h_s : Keep qq s) :
    Keep qq (State.resetOver s p r) := by
  unfold State.resetOver
  repeat' (first | (with_reducible first | assumption | apply keep_modPart | apply keep_reopen | apply keep_ctxAnswer | apply keep_setSt | apply keep_ite) | intro _)

theorem keep_resetLaunch {s : State} (p : Nat) (r : ResetSt) (h_s : Keep qq s) :
    Keep qq (State.resetLaunch s p r) := by
  unfold State.resetLaunch
  repeat' (first | (with_reducible first | assumption | apply keep_setReg | apply keep_launchOver | apply keep_endDesc | apply keep_ite) | intro _ | simp only [keep_mk] | split)

theorem keep_resetGo {s : State} (p : Nat) (h_s : Keep qq s) :
    Keep qq (State.resetGo s p) := by
  unfold State.resetGo
  repeat' (first | (with_reducible first | assumption | apply keep_launchNext | apply keep_resetLaunch | apply keep_resetOver | apply keep_resetFlit | apply keep_emit | apply keep_modPart | apply keep_ite) | intro _ | simp only [keep_mk] | split)

theorem keep_execCompReset (p : PartId) {s : State} (h_s : Keep qq s) :
    KeepO qq (execCompReset p s) := by
  unfold execCompReset
  repeat' (first | (with_reducible first | assumption | apply keepO_next | apply keep_resetStart | apply keep_ite) | intro _)

theorem keep_execResetHoldEnd (p : PartId) {s : State} (h_s : Keep qq s) :
    KeepO qq (execResetHoldEnd p s) := by
  unfold execResetHoldEnd
  repeat' (first | (with_reducible first | assumption | apply keepO_next | apply keep_resetGo | apply keep_modPart | apply keep_ite) | intro _ | simp only [keep_mk] | split)

theorem keep_execResetConfirmTimeout (p : PartId) {s : State} (h_s : Keep qq s) :
    KeepO qq (execResetConfirmTimeout p s) := by
  unfold execResetConfirmTimeout
  repeat' (first | (with_reducible first | assumption | apply keepO_next | apply keep_tellMembers | apply keep_modPart | apply keep_resetLaunch | apply keep_ctxAnswer | apply keep_setSt | apply keep_reopen | apply keep_ite) | intro _ | simp only [keep_mk] | split)

theorem keep_resetGop {s : State} (p : Nat) (link : Nat) (dir : Nat) (h_s : Keep qq s) :
    Keep qq (State.resetGop s p link dir) := by
  unfold State.resetGop
  repeat' (first | (with_reducible first | assumption | apply keep_resetLocal | apply keep_resetFlits | apply keep_resetGo | apply keep_modPart | apply keep_bump | apply keep_ite) | intro _ | simp only [keep_mk] | split)

theorem keep_execGop (link : LinkId) (f : Flit) {s : State} (h_s : Keep qq s) :
    KeepO qq (execGop link f s) := by
  unfold execGop
  repeat' (first | (with_reducible first | assumption | apply keepO_next | apply keep_dropFlit | apply keep_resetGop | apply keep_gopCheck | apply keep_ite) | intro _ | simp only [keep_mk] | split)

theorem keep_execWatchdogFire (p : PartId) {s : State} (h_s : Keep qq s) :
    KeepO qq (execWatchdogFire p s) := by
  unfold execWatchdogFire
  repeat' (first | (with_reducible first | assumption | apply keepO_next | apply keep_ledgerPart | apply keep_bump | apply keep_resetStart | apply keep_ite) | intro _ | simp only [keep_mk] | split)

theorem keep_rejoin {s : State} (a2 : List HostDesc) (h_s : Keep qq s) :
    Keep qq (State.rejoin s a2) := by
  induction a2 generalizing s with
  | nil =>
    unfold State.rejoin
    repeat' (first | (with_reducible first | assumption | apply keep_modDesc | apply keep_endDesc | apply keep_objJoin | apply keep_ite) | intro _ | simp only [keep_mk] | split)
  | cons x xs ih =>
    unfold State.rejoin
    repeat' (first | (with_reducible first | assumption | apply keep_modDesc | apply keep_endDesc | apply keep_objJoin | apply keep_ite | apply ih) | intro _ | simp only [keep_mk] | split)

theorem keep_execHifSqCfg (fn : FnId) (r : Fin 16) (v : W32) {s : State} (h_s : Keep qq s) :
    KeepO qq (execHifSqCfg fn r v s) := by
  unfold execHifSqCfg
  repeat' (first | (with_reducible first | assumption | apply keepO_next | apply keep_clearBits | apply keep_setReg | apply keep_setSq | apply keep_ite) | intro _)

theorem keep_execHifCqCfg (fn : FnId) (q : Fin 16) (v : W32) {s : State} (h_s : Keep qq s) :
    KeepO qq (execHifCqCfg fn q v s) := by
  unfold execHifCqCfg
  repeat' (first | (with_reducible first | assumption | apply keepO_next | apply keep_clearBits | apply keep_setReg | apply keep_cqGo | apply keep_setCq | apply keep_ite) | intro _)

theorem keep_execSqDoorbell (fn : FnId) (r : Fin 16) (v : Fin 65536) {s : State} (h_s : Keep qq s) :
    KeepO qq (execSqDoorbell fn r v s) := by
  unfold execSqDoorbell
  repeat' (first | (with_reducible first | assumption | apply keepO_next | apply keep_setBits | apply keep_setSq | apply keep_ite) | intro _)

theorem keep_cqDberr {s : State} (fn : Nat) (q : Nat) (a4 : List Nat) (h_s : Keep qq s) :
    Keep qq (State.cqDberr s fn q a4) := by
  revert h_s
  fun_induction State.cqDberr s fn q a4
  all_goals intros
  all_goals (repeat' (first | (with_reducible first | assumption | apply keep_setBits | apply keep_ite) | intro _ | apply_assumption))

theorem keep_execCqDoorbell (fn : FnId) (q : Fin 16) (v : Fin 65536) {s : State} (h_s : Keep qq s) :
    KeepO qq (execCqDoorbell fn q v s) := by
  unfold execCqDoorbell
  repeat' (first | (with_reducible first | assumption | apply keepO_next | apply keep_cqDberr | apply keep_cqGo | apply keep_setCq | apply keep_ite) | intro _)

theorem keep_takeDescs {s : State} (fn : Nat) (r : Nat) (base : Nat) (i : Nat) (size : Nat) (a7 : Nat) (h_s : Keep qq s) :
    Keep qq (State.takeDescs s fn r base i size a7) := by
  revert h_s
  fun_induction State.takeDescs s fn r base i size a7
  all_goals intros
  all_goals (repeat' (first | (with_reducible first | assumption | apply keep_ite) | intro _ | apply_assumption))

theorem keep_execDescriptorFetch (fn : FnId) (r : Fin 16) (ok : Bool) {s : State} (h_s : Keep qq s) :
    KeepO qq (execDescriptorFetch fn r ok s) := by
  unfold execDescriptorFetch
  repeat' (first | (with_reducible first | assumption | apply keepO_next | apply keep_setBits | apply keep_clearBits | apply keep_ledger | apply keep_ledgerPart | apply keep_msix | apply keep_ringGo | apply keep_setSq | apply keep_takeDescs | apply keep_ite) | intro _)

theorem keep_execDescNop (fn : FnId) (r : Fin 16) {s : State} (h_s : Keep qq s) :
    KeepO qq (execDescNop fn r s) := by
  unfold execDescNop
  repeat' (first | (with_reducible first | assumption | apply keepO_next | apply keep_startDesc | apply keep_endDesc | apply keep_ite) | intro _)

theorem keep_startHostCopy {s : State} (d : HostDesc) (e : Nat) (src : Desc) (dst : Desc) (rep : Option Repeat) (seed : Nat) (bad : Nat) (h_s : Keep qq s) :
    Keep qq (State.startHostCopy s d e src dst rep seed bad) := by
  unfold State.startHostCopy
  repeat' (first | (with_reducible first | assumption | apply keep_startRefused | apply keep_startXfer | apply keep_ite) | intro _)

theorem keep_execCopyLinear (fn : FnId) (r : Fin 16) (e : EngineId) {s : State} (h_s : Keep qq s) :
    KeepO qq (execCopyLinear fn r e s) := by
  unfold execCopyLinear
  repeat' (first | (with_reducible first | assumption | apply keepO_next | apply keep_startIf | apply keep_startHostCopy | apply keep_ite) | intro _)

theorem keep_execCopyDescribed (fn : FnId) (r : Fin 16) (e : EngineId) (ok : Bool) {s : State} (h_s : Keep qq s) :
    KeepO qq (execCopyDescribed fn r e ok s) := by
  unfold execCopyDescribed
  repeat' (first | (with_reducible first | assumption | apply keepO_next | apply keep_startIf | apply keep_startHostCopy | apply keep_ite) | intro _)

theorem keep_execHostSignal (fn : FnId) (r : Fin 16) {s : State} (h_s : Keep qq s) :
    KeepO qq (execHostSignal fn r s) := by
  unfold execHostSignal
  repeat' (first | (with_reducible first | assumption | apply keepO_next | apply keep_startDesc | apply keep_endDesc | apply keep_objAdd | apply keep_sendFlit | apply keep_newTxn | apply keep_draw | apply keep_ite) | intro _ | simp only [keep_mk] | split)

theorem keep_execHostWait (fn : FnId) (r : Fin 16) {s : State} (h_s : Keep qq s) :
    KeepO qq (execHostWait fn r s) := by
  unfold execHostWait
  repeat' (first | (with_reducible first | assumption | apply keepO_next | apply keep_startDesc | apply keep_endDesc | apply keep_objJoin | apply keep_modDesc | apply keep_ite) | intro _ | simp only [keep_mk] | split)

theorem keep_execHostWaitTimeout (id : Nat) {s : State} (h_s : Keep qq s) :
    KeepO qq (execHostWaitTimeout id s) := by
  unfold execHostWaitTimeout
  repeat' (first | (with_reducible first | assumption | apply keepO_next | apply keep_modDesc | apply keep_endDesc | apply keep_setObj | apply keep_ite) | intro _ | simp only [keep_mk] | split)

theorem keep_refDone {s : State} (id : Nat) (h_s : Keep qq s) :
    Keep qq (State.refDone s id) := by
  unfold State.refDone
  repeat' (first | (with_reducible first | assumption | apply keep_ringGo | apply keep_finishDesc | apply keep_modDesc | apply keep_ite) | intro _ | simp only [keep_mk] | split)

theorem keep_execFetchaddComplete (n : Nat) (ok : Bool) {s : State} (h_s : Keep qq s) :
    KeepO qq (execFetchaddComplete n ok s) := by
  unfold execFetchaddComplete
  repeat' (first | (with_reducible first | assumption | apply keepO_next | apply keepO_ite | exact keepO_fault | apply keepC_of | apply keep_refOutcome | apply keep_hostWrite | apply keep_refDone | apply keep_ite | apply keep_pite | refine keep_fst (by assumption) ?_) | intro _ | simp only [keep_mk] | split | extract_lets | simp +zetaDelta only [keep_mk])

theorem keep_execCoalesceTimeout (fn : FnId) (q : Fin 16) {s : State} (h_s : Keep qq s) :
    KeepO qq (execCoalesceTimeout fn q s) := by
  unfold execCoalesceTimeout
  repeat' (first | (with_reducible first | assumption | apply keepO_next | apply keep_cqInterrupt | apply keep_ite) | intro _)

theorem keep_flr {s : State} (fn : Nat) (h_s : Keep qq s) :
    Keep qq (State.flr s fn) := by
  unfold State.flr
  repeat' (first | (with_reducible first | assumption | apply keepC_of | apply keep_tdiLeave | apply keep_ite | apply keep_pite | refine keep_fst (by assumption) ?_) | intro _ | simp only [keep_mk] | split | extract_lets | simp +zetaDelta only [keep_mk])

theorem keep_flrs {s : State} (a2 : List Nat) (h_s : Keep qq s) :
    Keep qq (State.flrs s a2) := by
  revert h_s
  fun_induction State.flrs s a2
  all_goals intros
  all_goals (repeat' (first | (with_reducible first | assumption | apply keep_flr | apply keep_ite) | intro _ | apply_assumption))

theorem keep_execFlr (fn : FnId) {s : State} (h_s : Keep qq s) :
    KeepO qq (execFlr fn s) := by
  unfold execFlr
  repeat' (first | (with_reducible first | assumption | apply keepO_next | apply keep_flr | apply keep_ite) | intro _)

theorem keep_execPcieReset {s : State} (h_s : Keep qq s) :
    KeepO qq (execPcieReset s) := by
  unfold execPcieReset
  repeat' (first | (with_reducible first | assumption | apply keepO_next | apply keep_flrs | apply keep_ite) | intro _)

theorem keep_execPerstDeassert {s : State} (h_s : Keep qq s) :
    KeepO qq (execPerstDeassert s) := by
  unfold execPerstDeassert
  repeat' (first | (with_reducible first | assumption | apply keepO_next | apply keepO_ite | exact keepO_fault | apply keepC_of | apply keep_ite | apply keep_pite | refine keep_fst (by assumption) ?_) | intro _ | simp only [keep_mk] | split | extract_lets | simp +zetaDelta only [keep_mk])

theorem keep_execVfEnableChange (n : Fin 33) {s : State} (h_s : Keep qq s) :
    KeepO qq (execVfEnableChange n s) := by
  unfold execVfEnableChange
  repeat' (first | (with_reducible first | assumption | apply keepO_next | apply keepO_ite | exact keepO_fault | apply keepC_of | apply keep_flrs | apply keep_ite | apply keep_pite | refine keep_fst (by assumption) ?_) | intro _ | simp only [keep_mk] | split | extract_lets | simp +zetaDelta only [keep_mk])

theorem keep_quiesceStart {s : State} (v : Nat) (abort : Bool) (desc : Nat) (h_s : Keep qq s) :
    Keep qq (State.quiesceStart s v abort desc) := by
  unfold State.quiesceStart
  repeat' (first | (with_reducible first | assumption | apply keep_mbEvent | apply keep_modInst | apply keep_ite) | intro _)

theorem keep_drainOver {s : State} (v : Nat) (code : Nat) (h_s : Keep qq s) :
    Keep qq (State.drainOver s v code) := by
  unfold State.drainOver
  repeat' (first | (with_reducible first | assumption | apply keep_modInst | apply keep_quiesceDone | apply keep_ite) | intro _ | simp only [keep_mk] | split)

theorem keep_execQuiesceDrain (r : Fin 16) {s : State} (h_s : Keep qq s) :
    KeepO qq (execQuiesceDrain r s) := by
  unfold execQuiesceDrain
  repeat' (first | (with_reducible first | assumption | apply keepO_next | apply keep_startIf | apply keep_quiesceDone | apply keep_quiesceStart | apply keep_ite) | intro _)

theorem keep_execQuiesceDrainEnd (v : Fin 33) {s : State} (h_s : Keep qq s) :
    KeepO qq (execQuiesceDrainEnd v s) := by
  unfold execQuiesceDrainEnd
  repeat' (first | (with_reducible first | assumption | apply keepO_next | apply keep_quiesceEnd | apply keep_ite) | intro _)

theorem keep_execQuiesceTimeout (v : Fin 33) {s : State} (h_s : Keep qq s) :
    KeepO qq (execQuiesceTimeout v s) := by
  unfold execQuiesceTimeout
  repeat' (first | (with_reducible first | assumption | apply keepO_next | apply keep_drainOver | apply keep_ite) | intro _ | simp only [keep_mk] | split)

theorem keep_abortLaunch {s : State} (p : Nat) (h_s : Keep qq s) :
    Keep qq (State.abortLaunch s p) := by
  unfold State.abortLaunch
  repeat' (first | (with_reducible first | assumption | apply keepC_of | apply keep_modPart | apply keep_tellMembers | apply keep_ite | apply keep_pite | refine keep_fst (by assumption) ?_) | intro _ | simp only [keep_mk] | split | extract_lets | simp +zetaDelta only [keep_mk])

theorem keep_execQuiesceAbort (r : Fin 16) {s : State} (h_s : Keep qq s) :
    KeepO qq (execQuiesceAbort r s) := by
  unfold execQuiesceAbort
  repeat' (first | (with_reducible first | assumption | apply keepO_next | apply keep_startIf | apply keep_quiesceDone | apply keep_quiesceStart | apply keep_drainOver | apply keep_removeDescs | apply keep_quiesceEnd | apply keep_abortLaunch | apply keep_tdiLeave | apply keep_ite) | intro _)

theorem keep_execQuiesceResume (r : Fin 16) {s : State} (h_s : Keep qq s) :
    KeepO qq (execQuiesceResume r s) := by
  unfold execQuiesceResume
  repeat' (first | (with_reducible first | assumption | apply keepO_next | apply keep_startIf | apply keep_quiesceDone | apply keep_modInst | apply keep_drainOver | apply keep_mbEvent | apply keep_ite) | intro _)

theorem keep_mgmtEnd {s : State} (id : Nat) (status : Nat) (out : List Byte) (h_s : Keep qq s) :
    Keep qq (State.mgmtEnd s id status out) := by
  unfold State.mgmtEnd
  repeat' (first | (with_reducible first | assumption | apply keep_hostWrite | apply keep_endDesc | apply keep_ite) | intro _ | simp only [keep_mk] | split)

theorem keep_mgmt {s : State} (r : Nat) (cmd : Nat) (f : HostDesc → State → State) (h_s : Keep qq s) (h_f : ∀ v0 v1, Keep qq v1 → Keep qq (f v0 v1)) :
    Keep qq (State.mgmt s r cmd f) := by
  unfold State.mgmt
  repeat' (first | (with_reducible first | assumption | apply keep_startIf | apply keep_ite | apply h_f) | intro _)

theorem keep_ringsOff {s : State} (fn : Nat) (a3 : List Nat) (h_s : Keep qq s) :
    Keep qq (State.ringsOff s fn a3) := by
  revert h_s
  fun_induction State.ringsOff s fn a3
  all_goals intros
  all_goals (repeat' (first | (with_reducible first | assumption | apply keep_clearBits | apply keep_ite) | intro _ | apply_assumption))

theorem keep_clearInst {s : State} (v : Nat) (st : InstSt) (h_s : Keep qq s) :
    Keep qq (State.clearInst s v st) := h_s

theorem keep_execInstCreate (r : Fin 16) {s : State} (h_s : Keep qq s) :
    KeepO qq (execInstCreate r s) := by
  unfold execInstCreate
  repeat' (first | (with_reducible first | assumption | apply keepO_next | apply keep_mgmt | apply keep_mgmtEnd | apply keep_setReg | apply keep_clearInst | apply keep_ite) | intro _)

theorem keep_instClear {s : State} (d : HostDesc) (st : InstSt) (h_s : Keep qq s) :
    Keep qq (State.instClear s d st) := by
  unfold State.instClear
  repeat' (first | (with_reducible first | assumption | apply keep_mgmtEnd | apply keep_ringsOff | apply keep_clearInst | apply keep_tdiLeave | apply keep_clearBits | apply keep_setReg | apply keep_ite) | intro _)

theorem keep_execInstRemove (r : Fin 16) {s : State} (h_s : Keep qq s) :
    KeepO qq (execInstRemove r s) := by
  unfold execInstRemove
  repeat' (first | (with_reducible first | assumption | apply keepO_next | apply keep_mgmt | apply keep_instClear | apply keep_ite) | intro _)

theorem keep_execInstReset (r : Fin 16) {s : State} (h_s : Keep qq s) :
    KeepO qq (execInstReset r s) := by
  unfold execInstReset
  repeat' (first | (with_reducible first | assumption | apply keepO_next | apply keep_mgmt | apply keep_instClear | apply keep_ite) | intro _)

theorem keep_execInstStatus (r : Fin 16) {s : State} (h_s : Keep qq s) :
    KeepO qq (execInstStatus r s) := by
  unfold execInstStatus
  repeat' (first | (with_reducible first | assumption | apply keepO_next | apply keep_mgmt | apply keep_mgmtEnd | apply keep_ite) | intro _)

theorem keep_execMbTomgrDb (v : Fin 33) {s : State} (h_s : Keep qq s) :
    KeepO qq (execMbTomgrDb v s) := by
  unfold execMbTomgrDb
  repeat' (first | (with_reducible first | assumption | apply keepO_next | apply keep_modInst | apply keep_msix | apply keep_ite) | intro _)

theorem keep_execMbTomgrAck (v : Fin 33) {s : State} (h_s : Keep qq s) :
    KeepO qq (execMbTomgrAck v s) := by
  unfold execMbTomgrAck
  repeat' (first | (with_reducible first | assumption | apply keepO_next | apply keep_msix | apply keep_modInst | apply keep_ite) | intro _)

theorem keep_execMbToinstDb (v : Fin 33) {s : State} (h_s : Keep qq s) :
    KeepO qq (execMbToinstDb v s) := by
  unfold execMbToinstDb
  repeat' (first | (with_reducible first | assumption | apply keepO_next | apply keep_modInst | apply keep_msix | apply keep_ite) | intro _)

theorem keep_execMbToinstAck (v : Fin 33) {s : State} (h_s : Keep qq s) :
    KeepO qq (execMbToinstAck v s) := by
  unfold execMbToinstAck
  repeat' (first | (with_reducible first | assumption | apply keepO_next | apply keep_msix | apply keep_modInst | apply keep_ite) | intro _)

theorem keep_execMbEvtHead (v : Fin 33) (x : Fin 256) {s : State} (h_s : Keep qq s) :
    KeepO qq (execMbEvtHead v x s) := by
  unfold execMbEvtHead
  repeat' (first | (with_reducible first | assumption | apply keepO_next | apply keep_setInst | apply keep_msix | apply keep_ite) | intro _)

theorem keep_mbRequest {s : State} (v : Nat) (code : Nat) (f : State → State) (h_s : Keep qq s) (h_f : ∀ v0, Keep qq v0 → Keep qq (f v0)) :
    Keep qq (State.mbRequest s v code f) := by
  unfold State.mbRequest
  repeat' (first | (with_reducible first | assumption | apply keep_mbReply | apply keep_ite | apply h_f) | intro _)

theorem keep_execCtxCreate (v : Fin 33) {s : State} (h_s : Keep qq s) :
    KeepO qq (execCtxCreate v s) := by
  unfold execCtxCreate
  repeat' (first | (with_reducible first | assumption | apply keepO_next | apply keep_mbRequest | apply keep_mbReply | apply keep_modInst | apply keep_ite) | intro _ | simp only [keep_mk] | split)

theorem keep_execCtxDestroy (v : Fin 33) {s : State} (h_s : Keep qq s) :
    KeepO qq (execCtxDestroy v s) := by
  unfold execCtxDestroy
  repeat' (first | (with_reducible first | assumption | apply keepO_next | apply keep_mbRequest | apply keep_mbReply | apply keep_modInst | apply keep_ite) | intro _)

theorem keep_ctxReset {s : State} (v : Nat) (h : Nat) (cause : Nat) (h_s : Keep qq s) :
    Keep qq (State.ctxReset s v h cause).1 := by
  unfold State.ctxReset
  repeat' (first | (with_reducible first | assumption | apply keep_ctxRemove | apply keep_resetStart | apply keep_ite) | intro _ | simp only [keep_mk] | split)

theorem keep_execCtxReset (v : Fin 33) {s : State} (h_s : Keep qq s) :
    KeepO qq (execCtxReset v s) := by
  unfold execCtxReset
  repeat' (first | (with_reducible first | assumption | apply keepO_next | apply keep_mbRequest | apply keep_mbReply | apply keep_modPart | apply keep_ctxReset | apply keep_ite) | intro _)

theorem keep_execErrCtxReset (w : W32) {s : State} (h_s : Keep qq s) :
    KeepO qq (execErrCtxReset w s) := by
  unfold execErrCtxReset
  repeat' (first | (with_reducible first | assumption | apply keepO_next | apply keep_setReg | apply keep_ctxReset | apply keep_ite) | intro _)

theorem keep_execCatalogueRead (v : Fin 33) (ok : Bool) {s : State} (h_s : Keep qq s) :
    KeepO qq (execCatalogueRead v ok s) := by
  unfold execCatalogueRead
  repeat' (first | (with_reducible first | assumption | apply keepO_next | apply keep_mbRequest | apply keep_mbReply | apply keep_hostWrite | apply keep_ite) | intro _)

theorem keep_execInfo (v : Fin 33) {s : State} (h_s : Keep qq s) :
    KeepO qq (execInfo v s) := by
  unfold execInfo
  repeat' (first | (with_reducible first | assumption | apply keepO_next | apply keep_mbRequest | apply keep_mbReply | apply keep_ite) | intro _)

theorem keep_execCagePresenceGained (c : CageId) {s : State} (h_s : Keep qq s) :
    KeepO qq (execCagePresenceGained c s) := by
  unfold execCagePresenceGained
  repeat' (first | (with_reducible first | assumption | apply keepO_next | apply keep_svcEvt | apply keep_setCage | apply keep_modCage | apply keep_ite) | intro _)

theorem keep_execCagePresenceLost (c : CageId) {s : State} (h_s : Keep qq s) :
    KeepO qq (execCagePresenceLost c s) := by
  unfold execCagePresenceLost
  repeat' (first | (with_reducible first | assumption | apply keepO_next | apply keep_svcEvt | apply keep_setCage | apply keep_linksDown | apply keep_ite) | intro _ | simp only [keep_mk] | split)

theorem keep_execCageRampEnd (c : CageId) (mv : Fin 65536) (ma : Fin 65536) (limiting : Bool) (cable : CableId) {s : State} (h_s : Keep qq s) :
    KeepO qq (execCageRampEnd c mv ma limiting cable s) := by
  unfold execCageRampEnd
  repeat' (first | (with_reducible first | assumption | apply keepO_next | apply keep_setReg | apply keep_setCage | apply keep_linksUp | apply keep_cmisFault | apply keep_supplyFailure | apply keep_ite) | intro _)

theorem keep_execCageCurrentLimit (c : CageId) {s : State} (h_s : Keep qq s) :
    KeepO qq (execCageCurrentLimit c s) := by
  unfold execCageCurrentLimit
  repeat' (first | (with_reducible first | assumption | apply keepO_next | apply keep_supplyFailure | apply keep_ite) | intro _)

theorem keep_execCageOverload (c : CageId) {s : State} (h_s : Keep qq s) :
    KeepO qq (execCageOverload c s) := by
  unfold execCageOverload
  repeat' (first | (with_reducible first | assumption | apply keepO_next | apply keep_supplyFailure | apply keep_ite) | intro _)

theorem keep_execCageDischargeEnd (c : CageId) {s : State} (h_s : Keep qq s) :
    KeepO qq (execCageDischargeEnd c s) := by
  unfold execCageDischargeEnd
  repeat' (first | (with_reducible first | assumption | apply keepO_next | apply keep_setCage | apply keep_attnSafe | apply keep_ite) | intro _)

theorem keep_execRetryWaitEnd (c : CageId) {s : State} (h_s : Keep qq s) :
    KeepO qq (execRetryWaitEnd c s) := by
  unfold execRetryWaitEnd
  repeat' (first | (with_reducible first | assumption | apply keepO_next | apply keep_modCage | apply keep_ite) | intro _)

theorem keep_execFailsClear (c : CageId) {s : State} (h_s : Keep qq s) :
    KeepO qq (execFailsClear c s) := by
  unfold execFailsClear
  repeat' (first | (with_reducible first | assumption | apply keepO_next | apply keep_modCage | apply keep_ite) | intro _)

theorem keep_execLatchClr (c : CageId) {s : State} (h_s : Keep qq s) :
    KeepO qq (execLatchClr c s) := by
  unfold execLatchClr
  repeat' (first | (with_reducible first | assumption | apply keepO_next | apply keep_powerRestart | apply keep_modCage | apply keep_ite) | intro _)

theorem keep_execPowerEn (c : CageId) (on : Bool) {s : State} (h_s : Keep qq s) :
    KeepO qq (execPowerEn c on s) := by
  unfold execPowerEn
  repeat' (first | (with_reducible first | assumption | apply keepO_next | apply keep_setBits | apply keep_powerRestart | apply keep_modCage | apply keep_linksDown | apply keep_clearBits | apply keep_ite) | intro _ | simp only [keep_mk] | split)

theorem keep_execCmisReady (c : CageId) (application : Bool) {s : State} (h_s : Keep qq s) :
    KeepO qq (execCmisReady c application s) := by
  unfold execCmisReady
  repeat' (first | (with_reducible first | assumption | apply keepO_next | apply keep_linksUp | apply keep_setCage | apply keep_cmisFault | apply keep_ite) | intro _)

theorem keep_execCmisReadyTimeout (c : CageId) {s : State} (h_s : Keep qq s) :
    KeepO qq (execCmisReadyTimeout c s) := by
  unfold execCmisReadyTimeout
  repeat' (first | (with_reducible first | assumption | apply keepO_next | apply keep_cmisFault | apply keep_ite) | intro _)

theorem keep_execCmisFlagRead (c : CageId) (flags : W32) {s : State} (h_s : Keep qq s) :
    KeepO qq (execCmisFlagRead c flags s) := by
  unfold execCmisFlagRead
  repeat' (first | (with_reducible first | assumption | apply keepO_next | apply keep_ledger | apply keep_ite) | intro _)

theorem keep_execTouch (c : CageId) {s : State} (h_s : Keep qq s) :
    KeepO qq (execTouch c s) := by
  unfold execTouch
  repeat' (first | (with_reducible first | assumption | apply keepO_next | apply keep_attnRequest | apply keep_attnCancel | apply keep_ite) | intro _)

theorem keep_execAttnReq (c : CageId) {s : State} (h_s : Keep qq s) :
    KeepO qq (execAttnReq c s) := by
  unfold execAttnReq
  repeat' (first | (with_reducible first | assumption | apply keepO_next | apply keep_attnRequest | apply keep_ite) | intro _)

theorem keep_drainLinks {s : State} (a2 : List Nat) (h_s : Keep qq s) :
    Keep qq (State.drainLinks s a2) := by
  revert h_s
  fun_induction State.drainLinks s a2
  all_goals intros
  all_goals (repeat' (first | (with_reducible first | assumption | apply keep_linkTo | apply keep_linkDown | apply keep_ite) | intro _ | apply_assumption))

theorem keep_execRelease (c : CageId) {s : State} (h_s : Keep qq s) :
    KeepO qq (execRelease c s) := by
  unfold execRelease
  repeat' (first | (with_reducible first | assumption | apply keepO_next | apply keep_drainLinks | apply keep_setCage | apply keep_attnSafe | apply keep_svcEvt | apply keep_ite) | intro _)

theorem keep_execCancel (c : CageId) {s : State} (h_s : Keep qq s) :
    KeepO qq (execCancel c s) := by
  unfold execCancel
  repeat' (first | (with_reducible first | assumption | apply keepO_next | apply keep_attnCancel | apply keep_ite) | intro _)

theorem keep_execAttnTimeout (c : CageId) {s : State} (h_s : Keep qq s) :
    KeepO qq (execAttnTimeout c s) := by
  unfold execAttnTimeout
  repeat' (first | (with_reducible first | assumption | apply keepO_next | apply keep_modCage | apply keep_ite) | intro _)

theorem keep_goodbyes {s : State} (a2 : List Nat) (h_s : Keep qq s) :
    Keep qq (State.goodbyes s a2) := by
  revert h_s
  fun_induction State.goodbyes s a2
  all_goals intros
  all_goals (repeat' (first | (with_reducible first | assumption | apply keep_linkDown | apply keep_control | apply keep_ite) | intro _ | apply_assumption))

theorem keep_execAttnDrainEnd (c : CageId) {s : State} (h_s : Keep qq s) :
    KeepO qq (execAttnDrainEnd c s) := by
  unfold execAttnDrainEnd
  repeat' (first | (with_reducible first | assumption | apply keepO_next | apply keep_goodbyes | apply keep_ite) | intro _)

theorem keep_execCableLowPower (c : CageId) {s : State} (h_s : Keep qq s) :
    KeepO qq (execCableLowPower c s) := by
  unfold execCableLowPower
  repeat' (first | (with_reducible first | assumption | apply keepO_next | apply keep_setCage | apply keep_ite) | intro _)

theorem keep_execCageSafe (c : CageId) {s : State} (h_s : Keep qq s) :
    KeepO qq (execCageSafe c s) := by
  unfold execCageSafe
  repeat' (first | (with_reducible first | assumption | apply keepO_next | apply keep_attnSafe | apply keep_setCage | apply keep_ite) | intro _)

theorem keep_execKeyStuck (k : Fin 25) {s : State} (h_s : Keep qq s) :
    KeepO qq (execKeyStuck k s) := by
  unfold execKeyStuck
  repeat' (first | (with_reducible first | assumption | apply keepO_next | apply keep_panelRecord | apply keep_svcEvt | apply keep_setBits | apply keep_modCage | apply keep_ite) | intro _)

theorem keep_execKeyUnstuck (k : Fin 25) {s : State} (h_s : Keep qq s) :
    KeepO qq (execKeyUnstuck k s) := by
  unfold execKeyUnstuck
  repeat' (first | (with_reducible first | assumption | apply keepO_next | apply keep_clearBits | apply keep_modCage | apply keep_ite) | intro _)

theorem keep_ctlReply {s : State} (cmd : Nat) (cc : Nat) (data : List Byte) (h_s : Keep qq s) :
    Keep qq (State.ctlReply s cmd cc data) := h_s

theorem keep_execSetEndpointId (bus : Fin 2) (op : Fin 4) (eid : Fin 256) {s : State} (h_s : Keep qq s) :
    KeepO qq (execSetEndpointId bus op eid s) := by
  unfold execSetEndpointId
  repeat' (first | (with_reducible first | assumption | apply keepO_next | apply keepO_ite | exact keepO_fault | apply keepC_of | apply keep_ctlReply | apply keep_setReg | apply keep_ite | apply keep_pite | refine keep_fst (by assumption) ?_) | intro _ | simp only [keep_mk] | split | extract_lets | simp +zetaDelta only [keep_mk])

theorem keep_execGetEndpointId (bus : Fin 2) {s : State} (h_s : Keep qq s) :
    KeepO qq (execGetEndpointId bus s) := by
  unfold execGetEndpointId
  repeat' (first | (with_reducible first | assumption | apply keepO_next | apply keep_ctlReply | apply keep_ite) | intro _)

theorem keep_execGetEndpointUuid (bus : Fin 2) {s : State} (h_s : Keep qq s) :
    KeepO qq (execGetEndpointUuid bus s) := by
  unfold execGetEndpointUuid
  repeat' (first | (with_reducible first | assumption | apply keepO_next | apply keep_ctlReply | apply keep_ite) | intro _)

theorem keep_execGetMctpVersionSupport (bus : Fin 2) (type : Fin 256) {s : State} (h_s : Keep qq s) :
    KeepO qq (execGetMctpVersionSupport bus type s) := by
  unfold execGetMctpVersionSupport
  repeat' (first | (with_reducible first | assumption | apply keepO_next | apply keep_ctlReply | apply keep_ite) | intro _)

theorem keep_execGetMessageTypeSupport (bus : Fin 2) {s : State} (h_s : Keep qq s) :
    KeepO qq (execGetMessageTypeSupport bus s) := by
  unfold execGetMessageTypeSupport
  repeat' (first | (with_reducible first | assumption | apply keepO_next | apply keep_ctlReply | apply keep_ite) | intro _)

theorem keep_execGetVdmSupport (bus : Fin 2) (selector : Fin 256) {s : State} (h_s : Keep qq s) :
    KeepO qq (execGetVdmSupport bus selector s) := by
  unfold execGetVdmSupport
  repeat' (first | (with_reducible first | assumption | apply keepO_next | apply keep_ctlReply | apply keep_ite) | intro _)

theorem keep_stolReply {s : State} (cmd : Nat) (seq : Nat) (status : Nat) (data : List Byte) (h_s : Keep qq s) :
    Keep qq (State.stolReply s cmd seq status data) := h_s

theorem keep_execMctpBind (bus : Fin 2) (session : Option (Fin 65536)) (seq : Fin 256) (head : List Byte) (total : Nat) (off : Nat) (bytes : List Byte) {s : State} (h_s : Keep qq s) :
    KeepO qq (execMctpBind bus session seq head total off bytes s) := by
  unfold execMctpBind
  repeat' (first | (with_reducible first | assumption | apply keepO_next | apply keepO_ite | exact keepO_fault | apply keepC_of | apply keep_stolReply | apply keep_ite | apply keep_pite | refine keep_fst (by assumption) ?_) | intro _ | simp only [keep_mk] | split | extract_lets | simp +zetaDelta only [keep_mk])

theorem keep_execEventAck (bus : Fin 2) (seq : Fin 256) {s : State} (h_s : Keep qq s) :
    KeepO qq (execEventAck bus seq s) := by
  unfold execEventAck
  repeat' (first | (with_reducible first | assumption | apply keepO_next | apply keepO_ite | exact keepO_fault | apply keepC_of | apply keep_sendEvents | apply keep_ite | apply keep_pite | refine keep_fst (by assumption) ?_) | intro _ | simp only [keep_mk] | split | extract_lets | simp +zetaDelta only [keep_mk])

theorem keep_execEventRepeat (seq : Fin 256) {s : State} (h_s : Keep qq s) :
    KeepO qq (execEventRepeat seq s) := by
  unfold execEventRepeat
  repeat' (first | (with_reducible first | assumption | apply keepO_next | apply keep_emit | apply keep_ite) | intro _ | simp only [keep_mk] | split)

theorem keep_execCmisRead (r : Fin 16) (got : Option (List Byte)) {s : State} (h_s : Keep qq s) :
    KeepO qq (execCmisRead r got s) := by
  unfold execCmisRead
  repeat' (first | (with_reducible first | assumption | apply keepO_next | apply keep_mgmt | apply keep_mgmtEnd | apply keep_ite) | intro _)

theorem keep_execMctpCmisRead (bus : Fin 2) (seq : Fin 256) (arg : W32) (n : Fin 256) (got : Option (List Byte)) {s : State} (h_s : Keep qq s) :
    KeepO qq (execMctpCmisRead bus seq arg n got s) := by
  unfold execMctpCmisRead
  repeat' (first | (with_reducible first | assumption | apply keepO_next | apply keep_stolReply | apply keep_ite) | intro _)

theorem keep_execSmbClkLowTimeout {s : State} (h_s : Keep qq s) :
    KeepO qq (execSmbClkLowTimeout s) := by
  unfold execSmbClkLowTimeout
  repeat' (first | (with_reducible first | assumption | apply keepO_next | apply keep_ite) | intro _)

theorem keep_setKeySlot {s : State} (n : Nat) (k : KeySlot) (h_s : Keep qq s) :
    Keep qq (State.setKeySlot s n k) := h_s

theorem keep_secEvent {s : State} (bit : Nat) (event : Nat) (object : Nat) (code : Nat) (h_s : Keep qq s) :
    Keep qq (State.secEvent s bit event object code) := by
  unfold State.secEvent
  repeat' (first | (with_reducible first | assumption | apply keep_ledger | apply keep_secAlarm | apply keep_ite) | intro _)

theorem keep_slotFails {s : State} (n : Nat) (h_s : Keep qq s) :
    Keep qq (State.slotFails s n) := by
  unfold State.slotFails
  repeat' (first | (with_reducible first | assumption | apply keep_secEvent | apply keep_setKeySlot | apply keep_ite) | intro _)

theorem keep_fillSlot {s : State} (n : Nat) (type : Nat) (usage : Nat) (pulses : Nat) (key : Nat) (h_s : Keep qq s) :
    Keep qq (State.fillSlot s n type usage pulses key) := h_s

theorem keep_serveReq {s : State} (q : CusReq) (h_s : Keep qq s) :
    Keep qq (State.serveReq s q).1 := by
  unfold State.serveReq
  repeat' (first | (with_reducible first | assumption | apply keep_fillSlot | apply keep_newKey | apply keep_ite) | intro _ | simp only [keep_mk] | split)

theorem keep_serveHeld {s : State} (a2 : List CusReq) (h_s : Keep qq s) :
    Keep qq (State.serveHeld s a2) := by
  revert h_s
  fun_induction State.serveHeld s a2
  all_goals intros
  all_goals (repeat' (first | (with_reducible first | assumption | apply keep_serveReq | apply keep_mgmtEnd | apply keep_ite) | intro _ | apply_assumption))

theorem keep_failHeld {s : State} (status : Nat) (a3 : List CusReq) (h_s : Keep qq s) :
    Keep qq (State.failHeld s status a3) := by
  revert h_s
  fun_induction State.failHeld s status a3
  all_goals intros
  all_goals (repeat' (first | (with_reducible first | assumption | apply keep_mgmtEnd | apply keep_ite) | intro _ | apply_assumption))

theorem keep_keyRequest {s : State} (q : CusReq) (h_s : Keep qq s) :
    Keep qq (State.keyRequest s q) := by
  unfold State.keyRequest
  repeat' (first | (with_reducible first | assumption | apply keepC_of | apply keep_serveReq | apply keep_mgmtEnd | apply keep_ite | apply keep_pite | refine keep_fst (by assumption) ?_) | intro _ | simp only [keep_mk] | split | extract_lets | simp +zetaDelta only [keep_mk])

theorem keep_cusReq {s : State} (r : Nat) (cmd : Nat) (f : HostDesc → State → State) (h_s : Keep qq s) (h_f : ∀ v0 v1, Keep qq v1 → Keep qq (f v0 v1)) :
    Keep qq (State.cusReq s r cmd f) := by
  unfold State.cusReq
  repeat' (first | (with_reducible first | assumption | apply keep_mgmt | apply keep_ite | apply h_f) | intro _)

theorem keep_execSecRandom (r : Fin 16) {s : State} (h_s : Keep qq s) :
    KeepO qq (execSecRandom r s) := by
  unfold execSecRandom
  repeat' (first | (with_reducible first | assumption | apply keepO_next | apply keep_cusReq | apply keep_mgmtEnd | apply keep_draw | apply keep_drbg | apply keep_ite) | intro _)

theorem keep_execSecSlotInfo (r : Fin 16) (ok : Bool) {s : State} (h_s : Keep qq s) :
    KeepO qq (execSecSlotInfo r ok s) := by
  unfold execSecSlotInfo
  repeat' (first | (with_reducible first | assumption | apply keepO_next | apply keep_cusReq | apply keep_mgmtEnd | apply keep_slotFails | apply keep_ite) | intro _)

theorem keep_execSecSlotGenerate (r : Fin 16) (pulses : Fin 256) {s : State} (h_s : Keep qq s) :
    KeepO qq (execSecSlotGenerate r pulses s) := by
  unfold execSecSlotGenerate
  repeat' (first | (with_reducible first | assumption | apply keepO_next | apply keep_cusReq | apply keep_mgmtEnd | apply keep_keyRequest | apply keep_ite) | intro _)

theorem keep_execSecSlotImport (r : Fin 16) (ok : Bool) (pulses : Fin 256) {s : State} (h_s : Keep qq s) :
    KeepO qq (execSecSlotImport r ok pulses s) := by
  unfold execSecSlotImport
  repeat' (first | (with_reducible first | assumption | apply keepO_next | apply keep_cusReq | apply keep_mgmtEnd | apply keep_keyRequest | apply keep_ite) | intro _)

theorem keep_execSecSlotDestroy (r : Fin 16) (ok : Bool) (pulses : Fin 256) {s : State} (h_s : Keep qq s) :
    KeepO qq (execSecSlotDestroy r ok pulses s) := by
  unfold execSecSlotDestroy
  repeat' (first | (with_reducible first | assumption | apply keepO_next | apply keep_cusReq | apply keep_mgmtEnd | apply keep_setKeySlot | apply keep_secEvent | apply keep_ite) | intro _)

theorem keep_execSecCerts (r : Fin 16) {s : State} (h_s : Keep qq s) :
    KeepO qq (execSecCerts r s) := by
  unfold execSecCerts
  repeat' (first | (with_reducible first | assumption | apply keepO_next | apply keep_cusReq | apply keep_mgmtEnd | apply keep_ite) | intro _)

theorem keep_execSecNonce (r : Fin 16) {s : State} (h_s : Keep qq s) :
    KeepO qq (execSecNonce r s) := by
  unfold execSecNonce
  repeat' (first | (with_reducible first | assumption | apply keepO_next | apply keepO_ite | exact keepO_fault | apply keepC_of | apply keep_cusReq | apply keep_mgmtEnd | apply keep_draw | apply keep_drbg | apply keep_ite | apply keep_pite | refine keep_fst (by assumption) ?_) | intro _ | simp only [keep_mk] | split | extract_lets | simp +zetaDelta only [keep_mk])

theorem keep_execSecDebugToken (r : Fin 16) (sig : Bool) (nonce : Nat) {s : State} (h_s : Keep qq s) :
    KeepO qq (execSecDebugToken r sig nonce s) := by
  unfold execSecDebugToken
  repeat' (first | (with_reducible first | assumption | apply keepO_next | apply keepO_ite | exact keepO_fault | apply keepC_of | apply keep_cusReq | apply keep_mgmtEnd | apply keep_secEvent | apply keep_ite | apply keep_pite | refine keep_fst (by assumption) ?_) | intro _ | simp only [keep_mk] | split | extract_lets | simp +zetaDelta only [keep_mk])

theorem keep_execSecDebugReturn (r : Fin 16) {s : State} (h_s : Keep qq s) :
    KeepO qq (execSecDebugReturn r s) := by
  unfold execSecDebugReturn
  repeat' (first | (with_reducible first | assumption | apply keepO_next | apply keepO_ite | exact keepO_fault | apply keepC_of | apply keep_cusReq | apply keep_mgmtEnd | apply keep_ite | apply keep_pite | refine keep_fst (by assumption) ?_) | intro _ | simp only [keep_mk] | split | extract_lets | simp +zetaDelta only [keep_mk])

theorem keep_cusStart {s : State} (h_s : Keep qq s) :
    Keep qq (State.cusStart s) := h_s

theorem keep_execGlitch {s : State} (h_s : Keep qq s) :
    KeepO qq (execGlitch s) := by
  unfold execGlitch
  repeat' (first | (with_reducible first | assumption | apply keepO_next | apply keepO_ite | exact keepO_fault | apply keepC_of | apply keep_secEvent | apply keep_failHeld | apply keep_mgmtEnd | apply keep_cusStart | apply keep_ite | apply keep_pite | refine keep_fst (by assumption) ?_) | intro _ | simp only [keep_mk] | split | extract_lets | simp +zetaDelta only [keep_mk])

theorem keep_esFail {s : State} (st : EsSt) (h_s : Keep qq s) :
    Keep qq (State.esFail s st) := by
  unfold State.esFail
  repeat' (first | (with_reducible first | assumption | apply keepC_of | apply keep_secEvent | apply keep_ite | apply keep_pite | refine keep_fst (by assumption) ?_) | intro _ | simp only [keep_mk] | split | extract_lets | simp +zetaDelta only [keep_mk])

theorem keep_esFailed {s : State} (h_s : Keep qq s) :
    Keep qq (State.esFailed s) := by
  unfold State.esFailed
  repeat' (first | (with_reducible first | assumption | apply keepC_of | apply keep_failHeld | apply keep_esFail | apply keep_ite | apply keep_pite | refine keep_fst (by assumption) ?_) | intro _ | simp only [keep_mk] | split | extract_lets | simp +zetaDelta only [keep_mk])

theorem keep_execEntropyStartupDone (pass : Bool) {s : State} (h_s : Keep qq s) :
    KeepO qq (execEntropyStartupDone pass s) := by
  unfold execEntropyStartupDone
  repeat' (first | (with_reducible first | assumption | apply keepO_next | apply keepO_ite | exact keepO_fault | apply keepC_of | apply keep_esFailed | apply keep_startKeyings | apply keep_serveHeld | apply keep_ite | apply keep_pite | refine keep_fst (by assumption) ?_) | intro _ | simp only [keep_mk] | split | extract_lets | simp +zetaDelta only [keep_mk])

theorem keep_testFails {s : State} (h_s : Keep qq s) :
    Keep qq (State.testFails s) := by
  unfold State.testFails
  repeat' (first | (with_reducible first | assumption | apply keepC_of | apply keep_esFail | apply keep_esFailed | apply keep_ite | apply keep_pite | refine keep_fst (by assumption) ?_) | intro _ | simp only [keep_mk] | split | extract_lets | simp +zetaDelta only [keep_mk])

theorem keep_execHealthTestFail {s : State} (h_s : Keep qq s) :
    KeepO qq (execHealthTestFail s) := by
  unfold execHealthTestFail
  repeat' (first | (with_reducible first | assumption | apply keepO_next | apply keep_testFails | apply keep_ite) | intro _)

theorem keep_sampleBoth {s : State} (x : Bool) (y : Bool) (h_s : Keep qq s) :
    Keep qq (State.sampleBoth s x y) := by
  unfold State.sampleBoth
  repeat' (first | (with_reducible first | assumption | apply keepC_of | apply keep_testFails | apply keep_ite | apply keep_pite | refine keep_fst (by assumption) ?_) | intro _ | simp only [keep_mk] | split | extract_lets | simp +zetaDelta only [keep_mk])

theorem keep_execRetestWaitEnd {s : State} (h_s : Keep qq s) :
    KeepO qq (execRetestWaitEnd s) := by
  unfold execRetestWaitEnd
  repeat' (first | (with_reducible first | assumption | apply keepO_next | apply keepO_ite | exact keepO_fault | apply keepC_of | apply keep_ite | apply keep_pite | refine keep_fst (by assumption) ?_) | intro _ | simp only [keep_mk] | split | extract_lets | simp +zetaDelta only [keep_mk])

theorem keep_execDrbgReseed {s : State} (h_s : Keep qq s) :
    KeepO qq (execDrbgReseed s) := by
  unfold execDrbgReseed
  repeat' (first | (with_reducible first | assumption | apply keepO_next | apply keepO_ite | exact keepO_fault | apply keepC_of | apply keep_ite | apply keep_pite | refine keep_fst (by assumption) ?_) | intro _ | simp only [keep_mk] | split | extract_lets | simp +zetaDelta only [keep_mk])

theorem keep_execAliasCertIssue {s : State} (h_s : Keep qq s) :
    KeepO qq (execAliasCertIssue s) := by
  unfold execAliasCertIssue
  repeat' (first | (with_reducible first | assumption | apply keepO_next | apply keepO_ite | exact keepO_fault | apply keepC_of | apply keep_drbg | apply keep_ite | apply keep_pite | refine keep_fst (by assumption) ?_) | intro _ | simp only [keep_mk] | split | extract_lets | simp +zetaDelta only [keep_mk])

theorem keep_ledgerPut {s : State} (r : LRec) (h_s : Keep qq s) :
    Keep qq (State.ledgerPut s r) := by
  unfold State.ledgerPut
  repeat' (first | (with_reducible first | assumption | apply keepC_of | apply keep_bump | apply keep_ite | apply keep_pite | refine keep_fst (by assumption) ?_) | intro _ | simp only [keep_mk] | split | extract_lets | simp +zetaDelta only [keep_mk])

theorem keep_execLedgerEvent {s : State} (h_s : Keep qq s) :
    KeepO qq (execLedgerEvent s) := by
  unfold execLedgerEvent
  repeat' (first | (with_reducible first | assumption | apply keepO_next | apply keepO_ite | exact keepO_fault | apply keepC_of | apply keep_ledgerPut | apply keep_ite | apply keep_pite | refine keep_fst (by assumption) ?_) | intro _ | simp only [keep_mk] | split | extract_lets | simp +zetaDelta only [keep_mk])

theorem keep_execLedgerRead (r : Fin 16) {s : State} (h_s : Keep qq s) :
    KeepO qq (execLedgerRead r s) := by
  unfold execLedgerRead
  repeat' (first | (with_reducible first | assumption | apply keepO_next | apply keep_mgmt | apply keep_mgmtEnd | apply keep_ite) | intro _)

theorem keep_lostZero {s : State} (a2 : List Nat) (h_s : Keep qq s) :
    Keep qq (State.lostZero s a2) := by
  revert h_s
  fun_induction State.lostZero s a2
  all_goals intros
  all_goals (repeat' (first | (with_reducible first | assumption | apply keep_setReg | apply keep_ite) | intro _ | apply_assumption))

theorem keep_ownRecord {s : State} (type : Nat) (code : Nat) (h_s : Keep qq s) :
    Keep qq (State.ownRecord s type code) := by
  unfold State.ownRecord
  repeat' (first | (with_reducible first | assumption | apply keep_ledgerPut | apply keep_ite) | intro _)

theorem keep_execLedgerClear (r : Fin 16) {s : State} (h_s : Keep qq s) :
    KeepO qq (execLedgerClear r s) := by
  unfold execLedgerClear
  repeat' (first | (with_reducible first | assumption | apply keepO_next | apply keepO_ite | exact keepO_fault | apply keepC_of | apply keep_mgmt | apply keep_setReg | apply keep_lostZero | apply keep_mgmtEnd | apply keep_ownRecord | apply keep_ite | apply keep_pite | refine keep_fst (by assumption) ?_) | intro _ | simp only [keep_mk] | split | extract_lets | simp +zetaDelta only [keep_mk])

theorem keep_pwrEvt {s : State} (m : Nat) (h_s : Keep qq s) :
    Keep qq (State.pwrEvt s m) := by
  unfold State.pwrEvt
  repeat' (first | (with_reducible first | assumption | apply keep_msix | apply keep_setBits | apply keep_ite) | intro _)

theorem keep_pwrEvent {s : State} (m : Nat) (event : Nat) (object : Nat) (code : Nat) (h_s : Keep qq s) :
    Keep qq (State.pwrEvent s m event object code) := by
  unfold State.pwrEvent
  repeat' (first | (with_reducible first | assumption | apply keep_ledger | apply keep_pwrEvt | apply keep_ite) | intro _)

theorem keep_measure {s : State} (m : PeriodMeas) (a3 : List Nat) (h_s : Keep qq s) :
    Keep qq (State.measure s m a3) := by
  revert h_s
  fun_induction State.measure s m a3
  all_goals intros
  all_goals (repeat' (first | (with_reducible first | assumption | apply keep_modClu | apply keep_ite) | intro _ | apply_assumption))

theorem keep_ceilings {s : State} (a2 : List Nat) (h_s : Keep qq s) :
    Keep qq (State.ceilings s a2).1 := by
  revert h_s
  fun_induction State.ceilings s a2
  all_goals intros
  all_goals (repeat' (first | (with_reducible first | assumption | apply keep_setClu | apply keep_ite) | intro _ | apply_assumption))

theorem keep_thermalEvents {s : State} (fell : Bool) (stack : Bool) (h_s : Keep qq s) :
    Keep qq (State.thermalEvents s fell stack) := by
  unfold State.thermalEvents
  repeat' (first | (with_reducible first | assumption | apply keepC_of | apply keep_pwrEvent | apply keep_ite | apply keep_pite | refine keep_fst (by assumption) ?_) | intro _ | simp only [keep_mk] | split | extract_lets | simp +zetaDelta only [keep_mk])

theorem keep_park {s : State} (forced : List Nat) (a3 : List Nat) (h_s : Keep qq s) :
    Keep qq (State.park s forced a3) := by
  revert h_s
  fun_induction State.park s forced a3
  all_goals intros
  all_goals (repeat' (first | (with_reducible first | assumption | apply keep_modClu | apply keep_ite) | intro _ | apply_assumption))

theorem keep_moveAll {s : State} (gs : List Gov) (ts : List Nat) (raw : List Nat) (now : List Nat) (a6 : List Nat) (h_s : Keep qq s) :
    Keep qq (State.moveAll s gs ts raw now a6) := by
  revert h_s
  fun_induction State.moveAll s gs ts raw now a6
  all_goals intros
  all_goals (repeat' (first | (with_reducible first | assumption | apply keep_setClu | apply keep_pwrEvent | apply keep_ite) | intro _ | apply_assumption))

theorem keep_phases {s : State} (a2 : List Nat) (h_s : Keep qq s) :
    Keep qq (State.phases s a2) := by
  revert h_s
  fun_induction State.phases s a2
  all_goals intros
  all_goals (repeat' (first | (with_reducible first | assumption | apply keep_setClu | apply keep_ite) | intro _ | apply_assumption))

theorem keep_periodStart {s : State} (m : PeriodMeas) (h_s : Keep qq s) :
    Keep qq (State.periodStart s m) := by
  unfold State.periodStart
  repeat' (first | (with_reducible first | assumption | apply keep_ceilings | apply keep_measure | apply keep_park | apply keep_phases | apply keep_thermalEvents | apply keep_ite) | intro _)

theorem keep_execControlPeriod (m : PeriodMeas) {s : State} (h_s : Keep qq s) :
    KeepO qq (execControlPeriod m s) := by
  unfold execControlPeriod
  repeat' (first | (with_reducible first | assumption | apply keepO_next | apply keepO_ite | exact keepO_fault | apply keepC_of | apply keep_periodStart | apply keep_pwrEvent | apply keep_moveAll | apply keep_ite | apply keep_pite | refine keep_fst (by assumption) ?_) | intro _ | simp only [keep_mk] | split | extract_lets | simp +zetaDelta only [keep_mk])

theorem keep_execVoltageReached (k : ClusterId) {s : State} (h_s : Keep qq s) :
    KeepO qq (execVoltageReached k s) := by
  unfold execVoltageReached
  repeat' (first | (with_reducible first | assumption | apply keepO_next | apply keep_setClu | apply keep_ite) | intro _)

theorem keep_execDroopTrip (k : ClusterId) {s : State} (h_s : Keep qq s) :
    KeepO qq (execDroopTrip k s) := by
  unfold execDroopTrip
  repeat' (first | (with_reducible first | assumption | apply keepO_next | apply keep_modClu | apply keep_ite) | intro _)

theorem keep_execBackstopEntry {s : State} (h_s : Keep qq s) :
    KeepO qq (execBackstopEntry s) := by
  unfold execBackstopEntry
  repeat' (first | (with_reducible first | assumption | apply keepO_next | apply keepO_ite | exact keepO_fault | apply keepC_of | apply keep_pwrEvent | apply keep_ite | apply keep_pite | refine keep_fst (by assumption) ?_) | intro _ | simp only [keep_mk] | split | extract_lets | simp +zetaDelta only [keep_mk])

theorem keep_execBackstopPeriod (m : PeriodMeas) {s : State} (h_s : Keep qq s) :
    KeepO qq (execBackstopPeriod m s) := by
  unfold execBackstopPeriod
  repeat' (first | (with_reducible first | assumption | apply keepO_next | apply keepO_ite | exact keepO_fault | apply keepC_of | apply keep_periodStart | apply keep_moveAll | apply keep_ite | apply keep_pite | refine keep_fst (by assumption) ?_) | intro _ | simp only [keep_mk] | split | extract_lets | simp +zetaDelta only [keep_mk])

theorem keep_execPwrCap (mctp : Bool) (v : W32) {s : State} (h_s : Keep qq s) :
    KeepO qq (execPwrCap mctp v s) := by
  unfold execPwrCap
  repeat' (first | (with_reducible first | assumption | apply keepO_next | apply keep_pwrEvt | apply keep_setReg | apply keep_ite) | intro _)

theorem keep_execPwrSlackClear (v : W32) {s : State} (h_s : Keep qq s) :
    KeepO qq (execPwrSlackClear v s) := by
  unfold execPwrSlackClear
  repeat' (first | (with_reducible first | assumption | apply keepO_next | apply keepO_ite | exact keepO_fault | apply keepC_of | apply keep_ite | apply keep_pite | refine keep_fst (by assumption) ?_) | intro _ | simp only [keep_mk] | split | extract_lets | simp +zetaDelta only [keep_mk])

theorem keep_resetLaunches {s : State} (a2 : List Nat) (h_s : Keep qq s) :
    Keep qq (State.resetLaunches s a2) := by
  revert h_s
  fun_induction State.resetLaunches s a2
  all_goals intros
  all_goals (repeat' (first | (with_reducible first | assumption | apply keep_resetStart | apply keep_emit | apply keep_ite) | intro _ | apply_assumption))

theorem keep_clearObjs {s : State} (a2 : List Nat) (h_s : Keep qq s) :
    Keep qq (State.clearObjs s a2) := by
  revert h_s
  fun_induction State.clearObjs s a2
  all_goals intros
  all_goals (repeat' (first | (with_reducible first | assumption | apply keep_endHostWaits | apply keep_setObj | apply keep_ite) | intro _ | apply_assumption))

theorem keep_staleTags {s : State} (a2 : List Nat) (h_s : Keep qq s) :
    Keep qq (State.staleTags s a2) := by
  revert h_s
  fun_induction State.staleTags s a2
  all_goals intros
  all_goals (repeat' (first | (with_reducible first | assumption | apply keep_modClu | apply keep_ite) | intro _ | apply_assumption))

theorem keep_repin {s : State} (a2 : List Nat) (h_s : Keep qq s) :
    Keep qq (State.repin s a2) := by
  revert h_s
  fun_induction State.repin s a2
  all_goals intros
  all_goals (repeat' (first | (with_reducible first | assumption | apply keep_pinCarve | apply keep_ite) | intro _ | apply_assumption))

theorem keep_repinWins {s : State} (a2 : List Nat) (h_s : Keep qq s) :
    Keep qq (State.repinWins s a2) := by
  revert h_s
  fun_induction State.repinWins s a2
  all_goals intros
  all_goals (repeat' (first | (with_reducible first | assumption | apply keep_pinRange | apply keep_ite) | intro _ | apply_assumption))

theorem keep_computeReset {s : State} (h_s : Keep qq s) :
    Keep qq (State.computeReset s) := by
  unfold State.computeReset
  repeat' (first | (with_reducible first | assumption | apply keepC_of | apply keep_resetLaunches | apply keep_ledger | apply keep_dropXfers | apply keep_abortCopies | apply keep_staleTags | apply keep_clearObjs | apply keep_flashAll | apply keep_repinWins | apply keep_repin | apply keep_ite | apply keep_pite | refine keep_fst (by assumption) ?_) | intro _ | simp only [keep_mk] | split | extract_lets | simp +zetaDelta only [keep_mk])

theorem keep_execComputePartReset {s : State} (h_s : Keep qq s) :
    KeepO qq (execComputePartReset s) := by
  unfold execComputePartReset
  repeat' (first | (with_reducible first | assumption | apply keepO_next | apply keep_computeReset | apply keep_ite) | intro _)

theorem keep_markClearing {s : State} (a2 : List Nat) (h_s : Keep qq s) :
    Keep qq (State.markClearing s a2) := by
  revert h_s
  fun_induction State.markClearing s a2
  all_goals intros
  all_goals (repeat' (first | (with_reducible first | assumption | apply keep_setGroup | apply keep_ite) | intro _ | apply_assumption))

theorem keep_down {s : State} (warm : Bool) (cause : Nat) (h_s : Keep qq s) :
    Keep qq (State.down s warm cause) := by
  unfold State.down
  repeat' (first | (with_reducible first | assumption | apply keepC_of | apply keep_markClearing | apply keep_ite | apply keep_pite | apply keep_foldl | apply keepC_run | apply keepC_clear | apply keepC_move | apply keepC_spad | apply keepC_spadNil | apply keepC_spadMove | apply keepC_spadClear | apply keepC_host | refine keep_fst (by assumption) ?_) | intro _ | simp only [keep_mk] | split | extract_lets | simp +zetaDelta only [keep_mk])

theorem keep_warmReset {s : State} (cause : Nat) (h_s : Keep qq s) :
    Keep qq (State.warmReset s cause) := by
  unfold State.warmReset
  repeat' (first | (with_reducible first | assumption | apply keep_down | apply keep_ite) | intro _)

theorem keep_hardReset {s : State} (cause : Nat) (h_s : Keep qq s) :
    Keep qq (State.hardReset s cause) := by
  unfold State.hardReset
  repeat' (first | (with_reducible first | assumption | apply keep_down | apply keep_ite) | intro _)

theorem keep_warmNotice {s : State} (cause : Nat) (h_s : Keep qq s) :
    Keep qq (State.warmNotice s cause) := by
  unfold State.warmNotice
  repeat' (first | (with_reducible first | assumption | apply keepC_of | apply keep_msix | apply keep_ledger | apply keep_ite | apply keep_pite | refine keep_fst (by assumption) ?_) | intro _ | simp only [keep_mk] | split | extract_lets | simp +zetaDelta only [keep_mk])

theorem keep_execModuleWarmReset (mctp : Bool) {s : State} (h_s : Keep qq s) :
    KeepO qq (execModuleWarmReset mctp s) := by
  unfold execModuleWarmReset
  repeat' (first | (with_reducible first | assumption | apply keepO_next | apply keep_warmNotice | apply keep_warmReset | apply keep_ite) | intro _)

theorem keep_execModuleHardReset (mctp : Bool) {s : State} (h_s : Keep qq s) :
    KeepO qq (execModuleHardReset mctp s) := by
  unfold execModuleHardReset
  repeat' (first | (with_reducible first | assumption | apply keepO_next | apply keep_hardReset | apply keep_ite) | intro _)

theorem keep_execSvcResetAck (mctp : Bool) {s : State} (h_s : Keep qq s) :
    KeepO qq (execSvcResetAck mctp s) := by
  unfold execSvcResetAck
  repeat' (first | (with_reducible first | assumption | apply keepO_next | apply keep_warmReset | apply keep_ite) | intro _ | simp only [keep_mk] | split)

theorem keep_execResetNoticeExpiry {s : State} (h_s : Keep qq s) :
    KeepO qq (execResetNoticeExpiry s) := by
  unfold execResetNoticeExpiry
  repeat' (first | (with_reducible first | assumption | apply keepO_next | apply keep_warmReset | apply keep_ite) | intro _ | simp only [keep_mk] | split)

theorem keep_execMgmtWatchdog {s : State} (h_s : Keep qq s) :
    KeepO qq (execMgmtWatchdog s) := by
  unfold execMgmtWatchdog
  repeat' (first | (with_reducible first | assumption | apply keepO_next | apply keep_warmReset | apply keep_ledger | apply keep_ite) | intro _)

theorem keep_execThermalShutdown (sensor : Fin 65536) {s : State} (h_s : Keep qq s) :
    KeepO qq (execThermalShutdown sensor s) := by
  unfold execThermalShutdown
  repeat' (first | (with_reducible first | assumption | apply keepO_next | apply keepO_ite | exact keepO_fault | apply keepC_of | apply keep_down | apply keep_ite | apply keep_pite | refine keep_fst (by assumption) ?_) | intro _ | simp only [keep_mk] | split | extract_lets | simp +zetaDelta only [keep_mk])

theorem keep_execSignalDetect (i : LinkId) {s : State} (h_s : Keep qq s) :
    KeepO qq (execSignalDetect i s) := by
  unfold execSignalDetect
  repeat' (first | (with_reducible first | assumption | apply keepO_next | apply keep_setLnk | apply keep_ite) | intro _)

theorem keep_execEqualiseDone (i : LinkId) (pol0 : Bool) (pol1 : Bool) {s : State} (h_s : Keep qq s) :
    KeepO qq (execEqualiseDone i pol0 pol1 s) := by
  unfold execEqualiseDone
  repeat' (first | (with_reducible first | assumption | apply keepO_next | apply keep_setLnk | apply keep_ite) | intro _)

theorem keep_execAlignLock (i : LinkId) (swap : Bool) {s : State} (h_s : Keep qq s) :
    KeepO qq (execAlignLock i swap s) := by
  unfold execAlignLock
  repeat' (first | (with_reducible first | assumption | apply keepO_next | apply keep_setLnk | apply keep_ite) | intro _)

theorem keep_execTrainingTimeout (i : LinkId) {s : State} (h_s : Keep qq s) :
    KeepO qq (execTrainingTimeout i s) := by
  unfold execTrainingTimeout
  repeat' (first | (with_reducible first | assumption | apply keepO_next | apply keep_modLnk | apply keep_linkTo | apply keep_ite) | intro _ | simp only [keep_mk] | split)

theorem keep_execDetectRetry (i : LinkId) {s : State} (h_s : Keep qq s) :
    KeepO qq (execDetectRetry i s) := by
  unfold execDetectRetry
  repeat' (first | (with_reducible first | assumption | apply keepO_next | apply keep_modLnk | apply keep_ite) | intro _)

theorem keep_execNoSignalLane (i : LinkId) (lane : Fin 2) {s : State} (h_s : Keep qq s) :
    KeepO qq (execNoSignalLane i lane s) := by
  unfold execNoSignalLane
  repeat' (first | (with_reducible first | assumption | apply keepO_next | apply keep_modLnk | apply keep_ite) | intro _)

theorem keep_parentUp {s : State} (i : Nat) (h_s : Keep qq s) :
    Keep qq (State.parentUp s i) := by
  unfold State.parentUp
  repeat' (first | (with_reducible first | assumption | apply keepC_of | apply keep_ite | apply keep_pite | refine keep_fst (by assumption) ?_) | intro _ | simp only [keep_mk] | split | extract_lets | simp +zetaDelta only [keep_mk])

theorem keep_execQuarantineExit (i : LinkId) {s : State} (h_s : Keep qq s) :
    KeepO qq (execQuarantineExit i s) := by
  unfold execQuarantineExit
  repeat' (first | (with_reducible first | assumption | apply keepO_next | apply keep_parentUp | apply keep_control | apply keep_linkTo | apply keep_ite) | intro _)

theorem keep_execLossOfLock (i : LinkId) {s : State} (h_s : Keep qq s) :
    KeepO qq (execLossOfLock i s) := by
  unfold execLossOfLock
  repeat' (first | (with_reducible first | assumption | apply keepO_next | apply keep_linkTo | apply keep_ite) | intro _)

theorem keep_execFecExcess (i : LinkId) {s : State} (h_s : Keep qq s) :
    KeepO qq (execFecExcess i s) := by
  unfold execFecExcess
  repeat' (first | (with_reducible first | assumption | apply keepO_next | apply keep_linkTo | apply keep_ite) | intro _)

theorem keep_execHelloSend (i : LinkId) {s : State} (h_s : Keep qq s) :
    KeepO qq (execHelloSend i s) := by
  unfold execHelloSend
  repeat' (first | (with_reducible first | assumption | apply keepO_next | apply keep_control | apply keep_ite) | intro _)

theorem keep_recheck {s : State} (i : Nat) (h_s : Keep qq s) :
    Keep qq (State.recheck s i) := by
  unfold State.recheck
  repeat' (first | (with_reducible first | assumption | apply keep_toQuarantine | apply keep_requar | apply keep_ite) | intro _ | simp only [keep_mk] | split)

theorem keep_execHello (i : LinkId) (h : Hello) (mac : W64) {s : State} (h_s : Keep qq s) :
    KeepO qq (execHello i h mac s) := by
  unfold execHello
  repeat' (first | (with_reducible first | assumption | apply keepO_next | apply keep_modLnk | apply keep_linkTo | apply keep_recheck | apply keep_ite) | intro _)

theorem keep_execLnkExpect (i : LinkId) (v : W32) {s : State} (h_s : Keep qq s) :
    KeepO qq (execLnkExpect i v s) := by
  unfold execLnkExpect
  repeat' (first | (with_reducible first | assumption | apply keepO_next | apply keep_setReg | apply keep_recheck | apply keep_ite) | intro _)

theorem keep_execQuarClear (i : LinkId) {s : State} (h_s : Keep qq s) :
    KeepO qq (execQuarClear i s) := by
  unfold execQuarClear
  repeat' (first | (with_reducible first | assumption | apply keepO_next | apply keep_requar | apply keep_modLnk | apply keep_ite) | intro _)

theorem keep_execRetrain (i : LinkId) {s : State} (h_s : Keep qq s) :
    KeepO qq (execRetrain i s) := by
  unfold execRetrain
  repeat' (first | (with_reducible first | assumption | apply keepO_next | apply keep_linkTo | apply keep_ite) | intro _)

theorem keep_execQuarForce (i : LinkId) (on : Bool) {s : State} (h_s : Keep qq s) :
    KeepO qq (execQuarForce i on s) := by
  unfold execQuarForce
  repeat' (first | (with_reducible first | assumption | apply keepO_next | apply keep_setBits | apply keep_clearBits | apply keep_toQuarantine | apply keep_requar | apply keep_ite) | intro _)

theorem keep_execEnable (i : LinkId) (on : Bool) {s : State} (h_s : Keep qq s) :
    KeepO qq (execEnable i on s) := by
  unfold execEnable
  repeat' (first | (with_reducible first | assumption | apply keepO_next | apply keep_setBits | apply keep_linkTo | apply keep_modLnk | apply keep_clearBits | apply keep_ite) | intro _ | simp only [keep_mk] | split)

theorem keep_forward {s : State} (f : Flit) (h_s : Keep qq s) :
    Keep qq (State.forward s f) := by
  unfold State.forward
  repeat' (first | (with_reducible first | assumption | apply keep_dropFlit | apply keep_freeRx | apply keep_deliver | apply keep_route | apply keep_ite) | intro _)

theorem keep_acceptFlits {s : State} (i : Nat) (a3 : List LFlit) (h_s : Keep qq s) :
    Keep qq (State.acceptFlits s i a3) := by
  revert h_s
  fun_induction State.acceptFlits s i a3
  all_goals intros
  all_goals (repeat' (first | (with_reducible first | assumption | apply keep_forward | apply keep_setLnk | apply keep_ite) | intro _ | apply_assumption))

theorem keep_execBundle (i : LinkId) (tag : BitVec 128) (corrected : Fin 256) (body : List Byte) {s : State} (h_s : Keep qq s) :
    KeepO qq (execBundle i tag corrected body s) := by
  unfold execBundle
  repeat' (first | (with_reducible first | assumption | apply keepO_next | apply keep_bump | apply keep_ledger | apply keep_setLnk | apply keep_linkAlarm | apply keep_askReplay | apply keep_acceptFlits | apply keep_ite) | intro _ | simp only [keep_mk] | split)

theorem keep_execUncorrectableFecCodeword (i : LinkId) {s : State} (h_s : Keep qq s) :
    KeepO qq (execUncorrectableFecCodeword i s) := by
  unfold execUncorrectableFecCodeword
  repeat' (first | (with_reducible first | assumption | apply keepO_next | apply keep_bump | apply keep_askReplay | apply keep_ite) | intro _)

theorem keep_acceptWord {s : State} (i : Nat) (kind : Nat) (payload : Nat) (cctr : Nat) (mac : Nat) {t_ : State} (h_s : Keep qq s) (e_ : State.acceptWord s i kind payload cctr mac = some t_) :
    Keep qq t_ := by
  unfold State.acceptWord at e_
  dsimp only at e_
  repeat' split at e_
  all_goals first | (cases e_; done) | (cases e_; repeat' (first | (with_reducible first | assumption | apply keepC_of | apply keep_setLnk | apply keep_ite | apply keep_pite | refine keep_fst (by assumption) ?_) | intro _ | simp only [keep_mk] | split | extract_lets | simp +zetaDelta only [keep_mk]))

theorem keep_discardWord {s : State} (h_s : Keep qq s) :
    Keep qq (State.discardWord s) := h_s

theorem keep_onWord {s : State} (i : Nat) (kind : Nat) (payload : Nat) (cctr : Nat) (mac : Nat) (f : State → State) (h_s : Keep qq s) (h_f : ∀ v0, Keep qq v0 → Keep qq (f v0)) :
    Keep qq (State.onWord s i kind payload cctr mac f) := by
  unfold State.onWord
  repeat' (first | (with_reducible first | assumption | apply keep_discardWord | apply keep_ite | apply h_f | refine keep_acceptWord _ _ _ _ _ ?_ (by assumption)) | intro _ | simp only [keep_mk] | split)

theorem keep_execEpoch (i : LinkId) (active : W32) (staged : W32) (ready : Bool) (cctr : Fin (2 ^ 48)) (mac : W64) {s : State} (h_s : Keep qq s) :
    KeepO qq (execEpoch i active staged ready cctr mac s) := by
  unfold execEpoch
  repeat' (first | (with_reducible first | assumption | apply keepO_next | apply keep_requar | apply keep_modLnk | apply keep_onWord | apply keep_activateRoutes | apply keep_rehold | apply keep_ite) | intro _)

theorem keep_execCreditAck (i : LinkId) (payload : BitVec 128) (cctr : Fin (2 ^ 48)) (mac : W64) {s : State} (h_s : Keep qq s) :
    KeepO qq (execCreditAck i payload cctr mac s) := by
  unfold execCreditAck
  repeat' (first | (with_reducible first | assumption | apply keepO_next | apply keep_onWord | apply keep_pump | apply keep_modLnk | apply keep_ite) | intro _)

theorem keep_resend {s : State} (i : Nat) (fs : List LFlit) (a4 : Nat) (h_s : Keep qq s) :
    Keep qq (State.resend s i fs a4) := by
  revert h_s
  fun_induction State.resend s i fs a4
  all_goals intros
  all_goals (repeat' (first | (with_reducible first | assumption | apply keep_sendBundle | apply keep_ite) | intro _ | apply_assumption))

theorem keep_execReplayReq (i : LinkId) (next : Fin 65536) (cctr : Fin (2 ^ 48)) (mac : W64) {s : State} (h_s : Keep qq s) :
    KeepO qq (execReplayReq i next cctr mac s) := by
  unfold execReplayReq
  repeat' (first | (with_reducible first | assumption | apply keepO_next | apply keep_onWord | apply keep_resend | apply keep_modLnk | apply keep_control | apply keep_linkAlarm | apply keep_ite) | intro _)

theorem keep_execReplayStart (i : LinkId) (first : Fin 65536) (ctr : Fin (2 ^ 48)) (cctr : Fin (2 ^ 48)) (mac : W64) {s : State} (h_s : Keep qq s) :
    KeepO qq (execReplayStart i first ctr cctr mac s) := by
  unfold execReplayStart
  repeat' (first | (with_reducible first | assumption | apply keepO_next | apply keep_onWord | apply keep_setLnk | apply keep_ite) | intro _)

theorem keep_execIdle (i : LinkId) {s : State} (h_s : Keep qq s) :
    KeepO qq (execIdle i s) := by
  unfold execIdle
  repeat' (first | (with_reducible first | assumption | apply keepO_next | apply keep_ite) | intro _)

theorem keep_execCreditAckSend (i : LinkId) {s : State} (h_s : Keep qq s) :
    KeepO qq (execCreditAckSend i s) := by
  unfold execCreditAckSend
  repeat' (first | (with_reducible first | assumption | apply keepO_next | apply keep_modLnk | apply keep_control | apply keep_ite) | intro _)

theorem keep_execEpochSend (i : LinkId) {s : State} (h_s : Keep qq s) :
    KeepO qq (execEpochSend i s) := by
  unfold execEpochSend
  repeat' (first | (with_reducible first | assumption | apply keepO_next | apply keep_announce | apply keep_ite) | intro _)

theorem keep_execReplayReqRepeat (i : LinkId) {s : State} (h_s : Keep qq s) :
    KeepO qq (execReplayReqRepeat i s) := by
  unfold execReplayReqRepeat
  repeat' (first | (with_reducible first | assumption | apply keepO_next | apply keep_control | apply keep_ite) | intro _)

theorem keep_execFlitAged (i : LinkId) (n : Fin 65536) {s : State} (h_s : Keep qq s) :
    KeepO qq (execFlitAged i n s) := by
  unfold execFlitAged
  repeat' (first | (with_reducible first | assumption | apply keepO_next | apply keep_dropFlit | apply keep_freeRx | apply keep_setLnk | apply keep_ite) | intro _ | simp only [keep_mk] | split)

theorem keep_execCommit {s : State} (h_s : Keep qq s) :
    KeepO qq (execCommit s) := by
  unfold execCommit
  repeat' (first | (with_reducible first | assumption | apply keepO_next | apply keep_activateRoutes | apply keep_ite) | intro _)

theorem keep_execStageReady (on : Bool) {s : State} (h_s : Keep qq s) :
    KeepO qq (execStageReady on s) := by
  unfold execStageReady
  repeat' (first | (with_reducible first | assumption | apply keepO_next | apply keep_announceOn | apply keep_setBits | apply keep_clearBits | apply keep_ite) | intro _)

theorem keep_execFabId (v : W32) {s : State} (h_s : Keep qq s) :
    KeepO qq (execFabId v s) := by
  unfold execFabId
  repeat' (first | (with_reducible first | assumption | apply keepO_next | apply keep_setReg | apply keep_ite) | intro _)

theorem keep_zeroRegs {s : State} (k : Nat) (a3 : Nat) (h_s : Keep qq s) :
    Keep qq (State.zeroRegs s k a3) := by
  revert h_s
  fun_induction State.zeroRegs s k a3
  all_goals intros
  all_goals (repeat' (first | (with_reducible first | assumption | apply keep_setReg | apply keep_ite) | intro _ | apply_assumption))

theorem keep_execFabCntClear (v : W32) {s : State} (h_s : Keep qq s) :
    KeepO qq (execFabCntClear v s) := by
  unfold execFabCntClear
  repeat' (first | (with_reducible first | assumption | apply keepO_next | apply keep_zeroRegs | apply keep_ite) | intro _)

theorem keep_execRegionRekey (q : RegionId) {s : State} (h_s : Keep qq s) :
    KeepO qq (execRegionRekey q s) := by
  unfold execRegionRekey
  repeat' (first | (with_reducible first | assumption | apply keepO_next | apply keep_newKey | apply keep_modRegion | apply keep_ite) | intro _)

theorem keep_reencrypt {s : State} (q : Nat) (sec : Nat) (bad : Bool) (h_s : Keep qq s) :
    Keep qq (State.reencrypt s q sec bad) := by
  unfold State.reencrypt
  repeat' (first | (with_reducible first | assumption | apply keep_setRegion | apply keep_setTag | apply keep_integrityAlarm | apply keep_markPoison | apply keep_ite) | intro _ | simp only [keep_mk] | split)

theorem keep_walkStep {s : State} (q : Nat) (h_s : Keep qq s) :
    Keep qq (State.walkStep s q) := by
  unfold State.walkStep
  repeat' (first | (with_reducible first | assumption | apply keep_modRegion | apply keep_reencrypt | apply keep_ite) | intro _)

theorem keep_walkSteps {s : State} (a2 : List Nat) (h_s : Keep qq s) :
    Keep qq (State.walkSteps s a2) := by
  revert h_s
  fun_induction State.walkSteps s a2
  all_goals intros
  all_goals (repeat' (first | (with_reducible first | assumption | apply keep_walkStep | apply keep_ite) | intro _ | apply_assumption))

theorem keep_walkRest {s : State} (q : Nat) (bad : List Nat) (a4 : List Nat) (h_s : Keep qq s) :
    Keep qq (State.walkRest s q bad a4) := by
  revert h_s
  fun_induction State.walkRest s q bad a4
  all_goals intros
  all_goals (repeat' (first | (with_reducible first | assumption | apply keep_reencrypt | apply keep_ite) | intro _ | apply_assumption))

theorem keep_execReencryptDone (q : RegionId) (bad : List Nat) (zeroed : Bool) {s : State} (h_s : Keep qq s) :
    KeepO qq (execReencryptDone q bad zeroed s) := by
  unfold execReencryptDone
  repeat' (first | (with_reducible first | assumption | apply keepO_next | apply keepO_ite | exact keepO_fault | apply keepC_of | apply keep_walkRest | apply keep_modRegion | apply keep_ledger | apply keep_secAlarm | apply keep_ite | apply keep_pite | refine keep_fst (by assumption) ?_) | intro _ | simp only [keep_mk] | split | extract_lets | simp +zetaDelta only [keep_mk])

theorem keep_takeWords {s : State} (i : Nat) (a3 : List (Nat × Nat × Nat)) (h_s : Keep qq s) :
    Keep qq (State.takeWords s i a3).1 := by
  revert h_s
  fun_induction State.takeWords s i a3
  all_goals intros
  all_goals (repeat' (first | (with_reducible first | assumption | apply keep_discardWord | apply keep_ite | refine keep_acceptWord _ _ _ _ _ ?_ (by assumption)) | intro _ | apply_assumption))

theorem keep_rekeyWord {s : State} (i : Nat) (payloads : List Nat) (cctrs : List Nat) (macs : List Nat) (f : State → State) (h_s : Keep qq s) (h_f : ∀ v0, Keep qq v0 → Keep qq (f v0)) :
    Keep qq (State.rekeyWord s i payloads cctrs macs f) := by
  unfold State.rekeyWord
  repeat' (first | (with_reducible first | assumption | apply keep_takeWords | apply keep_ite | apply h_f) | intro _)

theorem keep_modExch {s : State} (i : Nat) (f : Exchange → Exchange) (h_s : Keep qq s) :
    Keep qq (State.modExch s i f) := h_s

theorem keep_ackRekey {s : State} (i : Nat) (xid : Nat) (msg : Nat) (h_s : Keep qq s) :
    Keep qq (State.ackRekey s i xid msg) := by
  unfold State.ackRekey
  repeat' (first | (with_reducible first | assumption | apply keep_rekeyOut | apply keep_ite) | intro _)

theorem keep_takeRekey {s : State} (i : Nat) (xid : Nat) (msg : Nat) (ok : Exchange → Bool) (f : Exchange → State → State) (h_s : Keep qq s) (h_f : ∀ v0 v1, Keep qq v1 → Keep qq (f v0 v1)) :
    Keep qq (State.takeRekey s i xid msg ok f) := by
  unfold State.takeRekey
  repeat' (first | (with_reducible first | assumption | apply keep_ackRekey | apply keep_modExch | apply keep_ite | apply h_f) | intro _ | simp only [keep_mk] | split)

theorem keep_sendSwitch {s : State} (i : Nat) (x : Exchange) (h_s : Keep qq s) :
    Keep qq (State.sendSwitch s i x) := by
  unfold State.sendSwitch
  repeat' (first | (with_reducible first | assumption | apply keep_modLnk | apply keep_sendRekey | apply keep_ite) | intro _)

theorem keep_keyingDone {s : State} (i : Nat) (h_s : Keep qq s) :
    Keep qq (State.keyingDone s i) := by
  unfold State.keyingDone
  repeat' (first | (with_reducible first | assumption | apply keep_requar | apply keep_modLnk | apply keep_ite) | intro _ | simp only [keep_mk] | split)

theorem keep_keyingFails {s : State} (i : Nat) (retry : Bool) (h_s : Keep qq s) :
    Keep qq (State.keyingFails s i retry) := by
  unfold State.keyingFails
  repeat' (first | (with_reducible first | assumption | apply keep_requar | apply keep_ledger | apply keep_modLnk | apply keep_ite) | intro _)

theorem keep_abortKeying {s : State} (i : Nat) (xid : Nat) (retry : Bool) (h_s : Keep qq s) :
    Keep qq (State.abortKeying s i xid retry) := by
  unfold State.abortKeying
  repeat' (first | (with_reducible first | assumption | apply keep_keyingFails | apply keep_rekeyOut | apply keep_ite) | intro _)

theorem keep_keyingAlarm {s : State} (i : Nat) (xid : Nat) (h_s : Keep qq s) :
    Keep qq (State.keyingAlarm s i xid) := by
  unfold State.keyingAlarm
  repeat' (first | (with_reducible first | assumption | apply keep_requar | apply keep_modLnk | apply keep_secAlarm | apply keep_abortKeying | apply keep_ite) | intro _)

theorem keep_answerInit {s : State} (i : Nat) (xid : Nat) (init : List Byte) (h_s : Keep qq s) :
    Keep qq (State.answerInit s i xid init) := by
  unfold State.answerInit
  repeat' (first | (with_reducible first | assumption | apply keep_setLnk | apply keep_draw | apply keep_drbg | apply keep_sendRekey | apply keep_ackRekey | apply keep_ite) | intro _)

theorem keep_execRekeyInit (i : LinkId) (m : RekeyMsg) (cctrs : List Nat) (macs : List Nat) {s : State} (h_s : Keep qq s) :
    KeepO qq (execRekeyInit i m cctrs macs s) := by
  unfold execRekeyInit
  repeat' (first | (with_reducible first | assumption | apply keepO_next | apply keep_rekeyWord | apply keep_ackRekey | apply keep_answerInit | apply keep_ite) | intro _ | simp only [keep_mk] | split)

theorem keep_takeResp {s : State} (i : Nat) (x : Exchange) (resp : List Byte) (h_s : Keep qq s) :
    Keep qq (State.takeResp s i x resp).1 := h_s

theorem keep_execRekeyResp (i : LinkId) (m : RekeyMsg) (cctrs : List Nat) (macs : List Nat) {s : State} (h_s : Keep qq s) :
    KeepO qq (execRekeyResp i m cctrs macs s) := by
  unfold execRekeyResp
  repeat' (first | (with_reducible first | assumption | apply keepO_next | apply keep_rekeyWord | apply keep_takeRekey | apply keep_takeResp | apply keep_sendSwitch | apply keep_modLnk | apply keep_sendRekey | apply keep_ite) | intro _ | simp only [keep_mk] | split)

theorem keep_execRekeyCert (i : LinkId) (m : RekeyMsg) (chains : Bool) (debug : Bool) (cctrs : List Nat) (macs : List Nat) {s : State} (h_s : Keep qq s) :
    KeepO qq (execRekeyCert i m chains debug cctrs macs s) := by
  unfold execRekeyCert
  repeat' (first | (with_reducible first | assumption | apply keepO_next | apply keep_rekeyWord | apply keep_takeRekey | apply keep_keyingAlarm | apply keep_abortKeying | apply keep_sendRekey | apply keep_draw | apply keep_drbg | apply keep_ite) | intro _)

theorem keep_execRekeySign (i : LinkId) (m : RekeyMsg) (ok : Bool) (cctrs : List Nat) (macs : List Nat) {s : State} (h_s : Keep qq s) :
    KeepO qq (execRekeySign i m ok cctrs macs s) := by
  unfold execRekeySign
  repeat' (first | (with_reducible first | assumption | apply keepO_next | apply keep_rekeyWord | apply keep_takeRekey | apply keep_sendSwitch | apply keep_keyingAlarm | apply keep_ite) | intro _)

theorem keep_execRekeyAck (i : LinkId) (xid : Fin 256) (msg : Fin 8) (cctr : Fin (2 ^ 48)) (mac : W64) {s : State} (h_s : Keep qq s) :
    KeepO qq (execRekeyAck i xid msg cctr mac s) := by
  unfold execRekeyAck
  repeat' (first | (with_reducible first | assumption | apply keepO_next | apply keep_rekeyWord | apply keep_modExch | apply keep_sendSwitch | apply keep_keyingDone | apply keep_ite) | intro _ | simp only [keep_mk] | split)

theorem keep_execRekeySwitch (i : LinkId) (xid : Fin 256) (epoch : W32) (cctr : Fin (2 ^ 48)) (mac : W64) {s : State} (h_s : Keep qq s) :
    KeepO qq (execRekeySwitch i xid epoch cctr mac s) := by
  unfold execRekeySwitch
  repeat' (first | (with_reducible first | assumption | apply keepO_next | apply keep_rekeyWord | apply keep_keyingDone | apply keep_takeRekey | apply keep_ite) | intro _)

theorem keep_execRekeyAbort (i : LinkId) (xid : Fin 256) (cctr : Fin (2 ^ 48)) (mac : W64) {s : State} (h_s : Keep qq s) :
    KeepO qq (execRekeyAbort i xid cctr mac s) := by
  unfold execRekeyAbort
  repeat' (first | (with_reducible first | assumption | apply keepO_next | apply keep_rekeyWord | apply keep_keyingFails | apply keep_ite) | intro _ | simp only [keep_mk] | split)

theorem keep_resendRekey {s : State} (i : Nat) (xid : Nat) (a4 : List (Nat × List Byte)) (h_s : Keep qq s) :
    Keep qq (State.resendRekey s i xid a4) := by
  revert h_s
  fun_induction State.resendRekey s i xid a4
  all_goals intros
  all_goals (repeat' (first | (with_reducible first | assumption | apply keep_rekeyOut | apply keep_ite) | intro _ | apply_assumption))

theorem keep_execRekeyResend (i : LinkId) {s : State} (h_s : Keep qq s) :
    KeepO qq (execRekeyResend i s) := by
  unfold execRekeyResend
  repeat' (first | (with_reducible first | assumption | apply keepO_next | apply keep_resendRekey | apply keep_ite) | intro _ | simp only [keep_mk] | split)

theorem keep_execRekeyTimeout (i : LinkId) {s : State} (h_s : Keep qq s) :
    KeepO qq (execRekeyTimeout i s) := by
  unfold execRekeyTimeout
  repeat' (first | (with_reducible first | assumption | apply keepO_next | apply keep_abortKeying | apply keep_ite) | intro _ | simp only [keep_mk] | split)

theorem keep_rollover {s : State} (i : Nat) (h_s : Keep qq s) :
    Keep qq (State.rollover s i) := by
  unfold State.rollover
  repeat' (first | (with_reducible first | assumption | apply keep_beginExch | apply keep_ite) | intro _)

theorem keep_execKeyingRetry (i : LinkId) {s : State} (h_s : Keep qq s) :
    KeepO qq (execKeyingRetry i s) := by
  unfold execKeyingRetry
  repeat' (first | (with_reducible first | assumption | apply keepO_next | apply keep_startKeying | apply keep_rollover | apply keep_setLnk | apply keep_ite) | intro _)

theorem keep_execRolloverStart (i : LinkId) {s : State} (h_s : Keep qq s) :
    KeepO qq (execRolloverStart i s) := by
  unfold execRolloverStart
  repeat' (first | (with_reducible first | assumption | apply keepO_next | apply keep_rollover | apply keep_ite) | intro _)

theorem keep_execCounterStop (i : LinkId) {s : State} (h_s : Keep qq s) :
    KeepO qq (execCounterStop i s) := by
  unfold execCounterStop
  repeat' (first | (with_reducible first | assumption | apply keepO_next | apply keep_modLnk | apply keep_linkTo | apply keep_ledger | apply keep_startKeying | apply keep_ite) | intro _)

theorem keep_modConn {s : State} (c : Nat) (f : Spdm → Spdm) (h_s : Keep qq s) :
    Keep qq (State.modConn s c f) := h_s

theorem keep_spdmReply {s : State} (c : Nat) (code : Nat) (bs : List Byte) (h_s : Keep qq s) :
    Keep qq (State.spdmReply s c code bs) := h_s

theorem keep_spdmError {s : State} (c : Nat) (code : Nat) (h_s : Keep qq s) :
    Keep qq (State.spdmError s c code) := h_s

theorem keep_spdmAt {s : State} (c : Nat) (n : Nat) (f : State → State) (h_s : Keep qq s) (h_f : ∀ v0, Keep qq v0 → Keep qq (f v0)) :
    Keep qq (State.spdmAt s c n f) := by
  unfold State.spdmAt
  repeat' (first | (with_reducible first | assumption | apply keep_spdmError | apply keep_ite | apply h_f) | intro _)

theorem keep_spdmDrbg {s : State} (c : Nat) (f : State → State) (h_s : Keep qq s) (h_f : ∀ v0, Keep qq v0 → Keep qq (f v0)) :
    Keep qq (State.spdmDrbg s c f) := by
  unfold State.spdmDrbg
  repeat' (first | (with_reducible first | assumption | apply keep_spdmError | apply keep_ite | apply h_f) | intro _)

theorem keep_modSession {s : State} (id : Nat) (f : Session → Session) (h_s : Keep qq s) :
    Keep qq (State.modSession s id f) := h_s

theorem keep_closeTenant {s : State} (id : Nat) (h_s : Keep qq s) :
    Keep qq (State.closeTenant s id) := h_s

theorem keep_endSession {s : State} (id : Nat) (h_s : Keep qq s) :
    Keep qq (State.endSession s id) := h_s

theorem keep_spdmSigned {s : State} (c : Nat) (code : Nat) (data : List Byte) (h_s : Keep qq s) :
    Keep qq (State.spdmSigned s c code data) := by
  unfold State.spdmSigned
  repeat' (first | (with_reducible first | assumption | apply keep_modConn | apply keep_draw | apply keep_drbg | apply keep_spdmReply | apply keep_ite) | intro _)

theorem keep_execGetVersion (c : Fin 2) {s : State} (h_s : Keep qq s) :
    KeepO qq (execGetVersion c s) := by
  unfold execGetVersion
  repeat' (first | (with_reducible first | assumption | apply keepO_next | apply keep_spdmReply | apply keep_modConn | apply keep_ite) | intro _)

theorem keep_execGetCapabilities (c : Fin 2) {s : State} (h_s : Keep qq s) :
    KeepO qq (execGetCapabilities c s) := by
  unfold execGetCapabilities
  repeat' (first | (with_reducible first | assumption | apply keepO_next | apply keep_spdmAt | apply keep_spdmReply | apply keep_modConn | apply keep_ite) | intro _)

theorem keep_execNegotiateAlgorithms (c : Fin 2) (common : Bool) {s : State} (h_s : Keep qq s) :
    KeepO qq (execNegotiateAlgorithms c common s) := by
  unfold execNegotiateAlgorithms
  repeat' (first | (with_reducible first | assumption | apply keepO_next | apply keep_spdmAt | apply keep_spdmReply | apply keep_modConn | apply keep_spdmError | apply keep_ite) | intro _)

theorem keep_execGetDigests (c : Fin 2) {s : State} (h_s : Keep qq s) :
    KeepO qq (execGetDigests c s) := by
  unfold execGetDigests
  repeat' (first | (with_reducible first | assumption | apply keepO_next | apply keep_spdmAt | apply keep_spdmReply | apply keep_spdmDrbg | apply keep_ite) | intro _)

theorem keep_execGetCertificate (c : Fin 2) (slot : Fin 8) (off : Fin 65536) (len : Fin 65536) {s : State} (h_s : Keep qq s) :
    KeepO qq (execGetCertificate c slot off len s) := by
  unfold execGetCertificate
  repeat' (first | (with_reducible first | assumption | apply keepO_next | apply keep_spdmAt | apply keep_spdmError | apply keep_spdmReply | apply keep_spdmDrbg | apply keep_ite) | intro _)

theorem keep_execChallenge (c : Fin 2) (nonce : Fin (2 ^ 256)) {s : State} (h_s : Keep qq s) :
    KeepO qq (execChallenge c nonce s) := by
  unfold execChallenge
  repeat' (first | (with_reducible first | assumption | apply keepO_next | apply keep_spdmAt | apply keep_spdmDrbg | apply keep_spdmSigned | apply keep_ite) | intro _)

theorem keep_execGetMeasurements (c : Fin 2) (k : Fin 256) (sign : Bool) {s : State} (h_s : Keep qq s) :
    KeepO qq (execGetMeasurements c k sign s) := by
  unfold execGetMeasurements
  repeat' (first | (with_reducible first | assumption | apply keepO_next | apply keep_spdmAt | apply keep_spdmError | apply keep_spdmDrbg | apply keep_spdmSigned | apply keep_spdmReply | apply keep_ite) | intro _)

theorem keep_execKeyExchange (c : Fin 2) (hybrid : Bool) {s : State} (h_s : Keep qq s) :
    KeepO qq (execKeyExchange c hybrid s) := by
  unfold execKeyExchange
  repeat' (first | (with_reducible first | assumption | apply keepO_next | apply keepO_ite | exact keepO_fault | apply keepC_of | apply keep_spdmAt | apply keep_spdmError | apply keep_spdmDrbg | apply keep_draw | apply keep_spdmSigned | apply keep_ite | apply keep_pite | refine keep_fst (by assumption) ?_) | intro _ | simp only [keep_mk] | split | extract_lets | simp +zetaDelta only [keep_mk])

theorem keep_execFinish (c : Fin 2) (id : Fin 65536) (ok : Bool) {s : State} (h_s : Keep qq s) :
    KeepO qq (execFinish c id ok s) := by
  unfold execFinish
  repeat' (first | (with_reducible first | assumption | apply keepO_next | apply keep_spdmAt | apply keep_spdmError | apply keep_spdmReply | apply keep_modSession | apply keep_endSession | apply keep_ite) | intro _ | simp only [keep_mk] | split)

theorem keep_inSession {s : State} (c : Nat) (id : Nat) (f : State → State) (h_s : Keep qq s) (h_f : ∀ v0, Keep qq v0 → Keep qq (f v0)) :
    Keep qq (State.inSession s c id f) := by
  unfold State.inSession
  repeat' (first | (with_reducible first | assumption | apply keep_spdmAt | apply keep_spdmError | apply keep_ite | apply h_f) | intro _ | simp only [keep_mk] | split)

theorem keep_execHeartbeat (c : Fin 2) (id : Fin 65536) {s : State} (h_s : Keep qq s) :
    KeepO qq (execHeartbeat c id s) := by
  unfold execHeartbeat
  repeat' (first | (with_reducible first | assumption | apply keepO_next | apply keep_inSession | apply keep_spdmReply | apply keep_ite) | intro _)

theorem keep_execHeartbeatMissed (id : Fin 65536) {s : State} (h_s : Keep qq s) :
    KeepO qq (execHeartbeatMissed id s) := by
  unfold execHeartbeatMissed
  repeat' (first | (with_reducible first | assumption | apply keepO_next | apply keep_endSession | apply keep_ite) | intro _)

theorem keep_execKeyUpdate (c : Fin 2) (id : Fin 65536) {s : State} (h_s : Keep qq s) :
    KeepO qq (execKeyUpdate c id s) := by
  unfold execKeyUpdate
  repeat' (first | (with_reducible first | assumption | apply keepO_next | apply keep_inSession | apply keep_spdmReply | apply keep_modSession | apply keep_ite) | intro _)

theorem keep_execEndSession (c : Fin 2) (id : Fin 65536) {s : State} (h_s : Keep qq s) :
    KeepO qq (execEndSession c id s) := by
  unfold execEndSession
  repeat' (first | (with_reducible first | assumption | apply keepO_next | apply keep_inSession | apply keep_spdmReply | apply keep_endSession | apply keep_ite) | intro _)

theorem keep_execChunkSend (c : Fin 2) (last : Bool) (bytes : List Byte) {s : State} (h_s : Keep qq s) :
    KeepO qq (execChunkSend c last bytes s) := by
  unfold execChunkSend
  repeat' (first | (with_reducible first | assumption | apply keepO_next | apply keep_spdmAt | apply keep_spdmReply | apply keep_modConn | apply keep_ite) | intro _)

theorem keep_execChunkGet (c : Fin 2) (n : Fin 65536) {s : State} (h_s : Keep qq s) :
    KeepO qq (execChunkGet c n s) := by
  unfold execChunkGet
  repeat' (first | (with_reducible first | assumption | apply keepO_next | apply keep_spdmAt | apply keep_spdmError | apply keep_spdmReply | apply keep_modConn | apply keep_ite) | intro _)

theorem keep_vendReply {s : State} (c : Nat) (code : Nat) (status : Nat) (bs : List Byte) (h_s : Keep qq s) :
    Keep qq (State.vendReply s c code status bs) := h_s

theorem keep_execGetMlChain (c : Fin 2) (off : W32) (len : Fin 65536) {s : State} (h_s : Keep qq s) :
    KeepO qq (execGetMlChain c off len s) := by
  unfold execGetMlChain
  repeat' (first | (with_reducible first | assumption | apply keepO_next | apply keep_spdmAt | apply keep_vendReply | apply keep_ite) | intro _)

theorem keep_execGetProvenance (c : Fin 2) (comp : W32) (nonce : Fin (2 ^ 256)) {s : State} (h_s : Keep qq s) :
    KeepO qq (execGetProvenance c comp nonce s) := by
  unfold execGetProvenance
  repeat' (first | (with_reducible first | assumption | apply keepO_next | apply keep_spdmAt | apply keep_vendReply | apply keep_draw | apply keep_drbg | apply keep_ite) | intro _)

theorem keep_execGetPqSig (c : Fin 2) {s : State} (h_s : Keep qq s) :
    KeepO qq (execGetPqSig c s) := by
  unfold execGetPqSig
  repeat' (first | (with_reducible first | assumption | apply keepO_next | apply keep_spdmAt | apply keep_vendReply | apply keep_draw | apply keep_drbg | apply keep_ite) | intro _ | simp only [keep_mk] | split)

theorem keep_inTenant {s : State} (c : Nat) (id : Nat) (code : Nat) (f : Session → Tenant → State → State) (h_s : Keep qq s) (h_f : ∀ v0 v1 v2, Keep qq v2 → Keep qq (f v0 v1 v2)) :
    Keep qq (State.inTenant s c id code f) := by
  unfold State.inTenant
  repeat' (first | (with_reducible first | assumption | apply keep_spdmAt | apply keep_vendReply | apply keep_ite | apply h_f) | intro _ | simp only [keep_mk] | split)

theorem keep_setTenantKey {s : State} (id : Nat) (h : Nat) (k : Option Nat) (h_s : Keep qq s) :
    Keep qq (State.setTenantKey s id h k) := h_s

theorem keep_execOpenTenant (c : Fin 2) (id : Fin 65536) (comp : W32) {s : State} (h_s : Keep qq s) :
    KeepO qq (execOpenTenant c id comp s) := by
  unfold execOpenTenant
  repeat' (first | (with_reducible first | assumption | apply keepO_next | apply keepO_ite | exact keepO_fault | apply keepC_of | apply keep_spdmAt | apply keep_vendReply | apply keep_modSession | apply keep_ite | apply keep_pite | refine keep_fst (by assumption) ?_) | intro _ | simp only [keep_mk] | split | extract_lets | simp +zetaDelta only [keep_mk])

theorem keep_execDeliverKey (c : Fin 2) (id : Fin 65536) (h : Fin 256) (wrapped : List Byte) {s : State} (h_s : Keep qq s) :
    KeepO qq (execDeliverKey c id h wrapped s) := by
  unfold execDeliverKey
  repeat' (first | (with_reducible first | assumption | apply keepO_next | apply keep_inTenant | apply keep_vendReply | apply keep_setTenantKey | apply keep_ite) | intro _ | simp only [keep_mk] | split)

theorem keep_execDropKey (c : Fin 2) (id : Fin 65536) (h : Fin 256) {s : State} (h_s : Keep qq s) :
    KeepO qq (execDropKey c id h s) := by
  unfold execDropKey
  repeat' (first | (with_reducible first | assumption | apply keepO_next | apply keep_inTenant | apply keep_vendReply | apply keep_setTenantKey | apply keep_ite) | intro _)

theorem keep_execCloseTenant (c : Fin 2) (id : Fin 65536) {s : State} (h_s : Keep qq s) :
    KeepO qq (execCloseTenant c id s) := by
  unfold execCloseTenant
  repeat' (first | (with_reducible first | assumption | apply keepO_next | apply keep_inTenant | apply keep_vendReply | apply keep_closeTenant | apply keep_ite) | intro _)

theorem keep_extentXlt {s : State} (p : Nat) (va : Nat) (a4 : Nat) (h_s : Keep qq s) :
    Keep qq (State.extentXlt s p va a4).1 := by
  revert h_s
  fun_induction State.extentXlt s p va a4
  all_goals intros
  all_goals (repeat' (first | (with_reducible first | assumption | apply keepC_of | apply keep_translate | apply keep_ite | apply keep_pite | refine keep_fst (by assumption) ?_) | intro _ | simp only [keep_mk] | split | extract_lets | simp +zetaDelta only [keep_mk] | apply_assumption))

theorem keep_cusRead {s : State} (p : Nat) (va : Nat) (n : Nat) (h_s : Keep qq s) :
    Keep qq (State.cusRead s p va n).1 := by
  unfold State.cusRead
  repeat' (first | (with_reducible first | assumption | apply keep_readVa | apply keep_ite) | intro _)

theorem keep_cusWrite {s : State} (p : Nat) (va : Nat) (bs : List Byte) (h_s : Keep qq s) :
    Keep qq (State.cusWrite s p va bs) := by
  unfold State.cusWrite
  repeat' (first | (with_reducible first | assumption | apply keep_writeVa | apply keep_ite) | intro _)

theorem keep_unsealChunks {s : State} (p : Nat) (va : Nat) (key : Nat) (hdr : List Byte) (chunks : Nat) (last : Nat) (i : Nat) (a9 : Nat) (h_s : Keep qq s) :
    Keep qq (State.unsealChunks s p va key hdr chunks last i a9).1 := by
  revert h_s
  fun_induction State.unsealChunks s p va key hdr chunks last i a9
  all_goals intros
  all_goals (repeat' (first | (with_reducible first | assumption | apply keep_cusRead | apply keep_cusWrite | apply keep_ite) | intro _ | apply_assumption))

theorem keep_execUnseal (c : Fin 2) (id : Fin 65536) (h : Fin 256) (va : W64) (hash : Fin (2 ^ 384)) {s : State} (h_s : Keep qq s) :
    KeepO qq (execUnseal c id h va hash s) := by
  unfold execUnseal
  repeat' (first | (with_reducible first | assumption | apply keepO_next | apply keep_inTenant | apply keep_vendReply | apply keep_extentXlt | apply keep_cusRead | apply keep_unsealChunks | apply keep_modPart | apply keep_cusWrite | apply keep_draw | apply keep_ite) | intro _ | simp only [keep_mk] | split)

theorem keep_sealChunks {s : State} (p : Nat) (va : Nat) (key : Nat) (hdr : List Byte) (chunks : Nat) (last : Nat) (i : Nat) (a9 : Nat) (h_s : Keep qq s) :
    Keep qq (State.sealChunks s p va key hdr chunks last i a9) := by
  revert h_s
  fun_induction State.sealChunks s p va key hdr chunks last i a9
  all_goals intros
  all_goals (repeat' (first | (with_reducible first | assumption | apply keep_cusRead | apply keep_draw | apply keep_cusWrite | apply keep_ite) | intro _ | apply_assumption))

theorem keep_performSeal {s : State} (p : Nat) (va : Nat) (key : Nat) (chunks : Nat) (last : Nat) (label : Nat) (h_s : Keep qq s) :
    Keep qq (State.performSeal s p va key chunks last label) := by
  unfold State.performSeal
  repeat' (first | (with_reducible first | assumption | apply keep_sealChunks | apply keep_cusWrite | apply keep_draw | apply keep_drbg | apply keep_ite) | intro _)

theorem keep_execSeal (c : Fin 2) (id : Fin 65536) (h : Fin 256) (va : W64) (chunks : W32) (last : W32) (label : W64) (secrets : List (List Byte)) {s : State} (h_s : Keep qq s) :
    KeepO qq (execSeal c id h va chunks last label secrets s) := by
  unfold execSeal
  repeat' (first | (with_reducible first | assumption | apply keepO_next | apply keepO_ite | exact keepO_fault | apply keepC_of | apply keep_inTenant | apply keep_vendReply | apply keep_extentXlt | apply keep_performSeal | apply keep_ite | apply keep_pite | refine keep_fst (by assumption) ?_) | intro _ | simp only [keep_mk] | split | extract_lets | simp +zetaDelta only [keep_mk])

theorem keep_execSealConsentExpiry (p : PartId) {s : State} (h_s : Keep qq s) :
    KeepO qq (execSealConsentExpiry p s) := by
  unfold execSealConsentExpiry
  repeat' (first | (with_reducible first | assumption | apply keepO_next | apply keepO_ite | exact keepO_fault | apply keepC_of | apply keep_ite | apply keep_pite | refine keep_fst (by assumption) ?_) | intro _ | simp only [keep_mk] | split | extract_lets | simp +zetaDelta only [keep_mk])

theorem keep_tdispReply {s : State} (v : Nat) (code : Nat) (bs : List Byte) (h_s : Keep qq s) :
    Keep qq (State.tdispReply s v code bs) := h_s

theorem keep_tdispError {s : State} (v : Nat) (code : Nat) (h_s : Keep qq s) :
    Keep qq (State.tdispError s v code) := h_s

theorem keep_tdispReq {s : State} (id : Nat) (v : Nat) (f : State → State) (h_s : Keep qq s) (h_f : ∀ v0, Keep qq v0 → Keep qq (f v0)) :
    Keep qq (State.tdispReq s id v f) := by
  unfold State.tdispReq
  repeat' (first | (with_reducible first | assumption | apply keep_tdispError | apply keep_ite | apply h_f) | intro _ | simp only [keep_mk] | split)

theorem keep_execGetTdispVersion (id : Fin 65536) (v : FnId) {s : State} (h_s : Keep qq s) :
    KeepO qq (execGetTdispVersion id v s) := by
  unfold execGetTdispVersion
  repeat' (first | (with_reducible first | assumption | apply keepO_next | apply keep_tdispReq | apply keep_tdispReply | apply keep_ite) | intro _)

theorem keep_execGetTdispCapabilities (id : Fin 65536) (v : FnId) {s : State} (h_s : Keep qq s) :
    KeepO qq (execGetTdispCapabilities id v s) := by
  unfold execGetTdispCapabilities
  repeat' (first | (with_reducible first | assumption | apply keepO_next | apply keep_tdispReq | apply keep_tdispReply | apply keep_ite) | intro _)

theorem keep_execLockInterfaceRequest (id : Fin 65536) (v : FnId) {s : State} (h_s : Keep qq s) :
    KeepO qq (execLockInterfaceRequest id v s) := by
  unfold execLockInterfaceRequest
  repeat' (first | (with_reducible first | assumption | apply keepO_next | apply keep_tdispReq | apply keep_tdispError | apply keep_tdispReply | apply keep_setInst | apply keep_draw | apply keep_drbg | apply keep_ite) | intro _)

theorem keep_execGetDeviceInterfaceReport (id : Fin 65536) (v : FnId) {s : State} (h_s : Keep qq s) :
    KeepO qq (execGetDeviceInterfaceReport id v s) := by
  unfold execGetDeviceInterfaceReport
  repeat' (first | (with_reducible first | assumption | apply keepO_next | apply keep_tdispReq | apply keep_tdispReply | apply keep_tdispError | apply keep_ite) | intro _)

theorem keep_execGetDeviceInterfaceState (id : Fin 65536) (v : FnId) {s : State} (h_s : Keep qq s) :
    KeepO qq (execGetDeviceInterfaceState id v s) := by
  unfold execGetDeviceInterfaceState
  repeat' (first | (with_reducible first | assumption | apply keepO_next | apply keep_tdispReq | apply keep_tdispReply | apply keep_ite) | intro _)

theorem keep_cqGoAll {s : State} (fn : Nat) (a3 : List Nat) (h_s : Keep qq s) :
    Keep qq (State.cqGoAll s fn a3) := by
  revert h_s
  fun_induction State.cqGoAll s fn a3
  all_goals intros
  all_goals (repeat' (first | (with_reducible first | assumption | apply keep_cqGo | apply keep_ite) | intro _ | apply_assumption))

theorem keep_execStartInterfaceRequest (id : Fin 65536) (v : FnId) (nonce : Fin (2 ^ 256)) {s : State} (h_s : Keep qq s) :
    KeepO qq (execStartInterfaceRequest id v nonce s) := by
  unfold execStartInterfaceRequest
  repeat' (first | (with_reducible first | assumption | apply keepO_next | apply keep_tdispReq | apply keep_tdispError | apply keep_tdispReply | apply keep_cqGoAll | apply keep_setInst | apply keep_ite) | intro _)

theorem keep_execStopInterfaceRequest (id : Fin 65536) (v : FnId) {s : State} (h_s : Keep qq s) :
    KeepO qq (execStopInterfaceRequest id v s) := by
  unfold execStopInterfaceRequest
  repeat' (first | (with_reducible first | assumption | apply keepO_next | apply keep_tdispReq | apply keep_tdispReply | apply keep_tdiOut | apply keep_tdiTo | apply keep_ite) | intro _)

theorem keep_fwRecord {s : State} (event : Nat) (t : Nat) (code : Nat) (h : FwHdr) (h_s : Keep qq s) :
    Keep qq (State.fwRecord s event t code h) := by
  unfold State.fwRecord
  repeat' (first | (with_reducible first | assumption | apply keep_ledgerFull | apply keep_ite) | intro _)

theorem keep_raiseFloor {s : State} (t : Nat) (x : FwHdr) (h_s : Keep qq s) : Keep qq (State.raiseFloor s t x) := by
  unfold State.raiseFloor
  split
  · exact keep_fwRecord _ _ _ _ (keep_setFwType _ _ h_s (Nat.le_of_lt ‹_›))
  · exact h_s

theorem keep_tellXfer {s : State} (src : FwFrom) (status : Nat) (h_s : Keep qq s) :
    Keep qq (State.tellXfer s src status) := by
  unfold State.tellXfer
  repeat' (first | (with_reducible first | assumption | apply keep_mgmtEnd | apply keep_emit | apply keep_ite) | intro _ | simp only [keep_mk] | split)

theorem keep_endXfer {s : State} (status : Nat) (h_s : Keep qq s) :
    Keep qq (State.endXfer s status) := by
  unfold State.endXfer
  repeat' (first | (with_reducible first | assumption | apply keepC_of | apply keep_fwRecord | apply keep_tellXfer | apply keep_ite | apply keep_pite | refine keep_fst (by assumption) ?_) | intro _ | simp only [keep_mk] | split | extract_lets | simp +zetaDelta only [keep_mk])

theorem keep_execFwStage (r : Fin 16) (ok : Bool) {s : State} (h_s : Keep qq s) :
    KeepO qq (execFwStage r ok s) := by
  unfold execFwStage
  repeat' (first | (with_reducible first | assumption | apply keepO_next | apply keepO_ite | exact keepO_fault | apply keepC_of | apply keep_mgmt | apply keep_mgmtEnd | apply keep_fwRecord | apply keep_endXfer | apply keep_ite | apply keep_pite | refine keep_fst (by assumption) ?_) | intro _ | simp only [keep_mk] | split | extract_lets | simp +zetaDelta only [keep_mk])

theorem keep_execImageHeader (sig : Bool) {s : State} (h_s : Keep qq s) :
    KeepO qq (execImageHeader sig s) := by
  unfold execImageHeader
  repeat' (first | (with_reducible first | assumption | apply keepO_next | apply keepO_ite | exact keepO_fault | apply keepC_of | apply keep_endXfer | apply keep_ite | apply keep_pite | apply keep_modFwType | refine keep_fst (by assumption) ?_) | intro _ | exact Nat.le_refl _ | simp only [keep_mk] | split | extract_lets | simp +zetaDelta only [keep_mk])

theorem keep_erased {s : State} (e : Nat × Nat) (h_s : Keep qq s) :
    Keep qq (State.erased s e) := by
  unfold State.erased
  repeat' (first | (with_reducible first | assumption | apply keepC_of | apply keep_ledgerFull | apply keep_ite | apply keep_pite | refine keep_fst (by assumption) ?_) | intro _ | simp only [keep_mk] | split | extract_lets | simp +zetaDelta only [keep_mk])

theorem keep_erases {s : State} (a2 : List (Nat × Nat)) (h_s : Keep qq s) :
    Keep qq (State.erases s a2) := by
  revert h_s
  fun_induction State.erases s a2
  all_goals intros
  all_goals (repeat' (first | (with_reducible first | assumption | apply keep_erased | apply keep_ite) | intro _ | apply_assumption))

theorem keep_execImageLanded (tag : Bool) (es : List (Nat × Nat)) {s : State} (h_s : Keep qq s) :
    KeepO qq (execImageLanded tag es s) := by
  unfold execImageLanded
  repeat' (first | (with_reducible first | assumption | apply keepO_next | apply keepO_ite | exact keepO_fault | apply keepC_of | apply keep_fwRecord | apply keep_endXfer | apply keep_erases | apply keep_ite | apply keep_pite | apply keep_modFwType | refine keep_fst (by assumption) ?_) | intro _ | exact Nat.le_refl _ | simp only [keep_mk] | split | extract_lets | simp +zetaDelta only [keep_mk])

theorem keep_norFailure {s : State} (sector : Nat) (h_s : Keep qq s) :
    Keep qq (State.norFailure s sector) := by
  unfold State.norFailure
  repeat' (first | (with_reducible first | assumption | apply keepC_of | apply keep_ledgerFull | apply keep_ite | apply keep_pite | refine keep_fst (by assumption) ?_) | intro _ | simp only [keep_mk] | split | extract_lets | simp +zetaDelta only [keep_mk])

theorem keep_execNorEraseTimeout (sector : Fin 65536) {s : State} (h_s : Keep qq s) :
    KeepO qq (execNorEraseTimeout sector s) := by
  unfold execNorEraseTimeout
  repeat' (first | (with_reducible first | assumption | apply keepO_next | apply keep_norFailure | apply keep_endXfer | apply keep_ite) | intro _ | simp only [keep_mk] | split)

theorem keep_execFwCancel (r : Fin 16) {s : State} (h_s : Keep qq s) :
    KeepO qq (execFwCancel r s) := by
  unfold execFwCancel
  repeat' (first | (with_reducible first | assumption | apply keepO_next | apply keep_mgmt | apply keep_mgmtEnd | apply keep_endXfer | apply keep_ite) | intro _)

theorem keep_startAct {s : State} (t : Nat) (link : Nat) (desc : Option Nat) (thenLinks : Bool) (h_s : Keep qq s) :
    Keep qq (State.startAct s t link desc thenLinks) := h_s

theorem keep_endAct {s : State} (t : Nat) (status : Nat) (desc : Option Nat) (h_s : Keep qq s) :
    Keep qq (State.endAct s t status desc) := by
  unfold State.endAct
  repeat' (first | (with_reducible first | assumption | apply keepC_of | apply keep_fwRecord | apply keep_mgmtEnd | apply keep_ite | apply keep_pite | refine keep_fst (by assumption) ?_) | intro _ | simp only [keep_mk] | split | extract_lets | simp +zetaDelta only [keep_mk])

theorem keep_execFwActivate (r : Fin 16) (sig : Bool) (payload : Bool) {s : State} (h_s : Keep qq s) :
    KeepO qq (execFwActivate r sig payload s) := by
  unfold execFwActivate
  repeat' (first | (with_reducible first | assumption | apply keepO_next | apply keep_mgmt | apply keep_startAct | apply keep_mgmtEnd | apply keep_endAct | apply keep_ite) | intro _)

theorem keep_goOn {s : State} (a : FwAct) (h_s : Keep qq s) :
    Keep qq (State.goOn s a) := by
  unfold State.goOn
  repeat' (first | (with_reducible first | assumption | apply keep_startAct | apply keep_ite) | intro _)

theorem keep_execMgmtImageReady {s : State} (h_s : Keep qq s) :
    KeepO qq (execMgmtImageReady s) := by
  unfold execMgmtImageReady
  repeat' (first | (with_reducible first | assumption | apply keepO_next | apply keepO_ite | exact keepO_fault | apply keepC_of | apply keep_goOn | apply keep_raiseFloor | apply keep_endAct | apply keep_ite | apply keep_pite | apply keep_modFwType | refine keep_fst (by assumption) ?_) | intro _ | exact Nat.le_refl _ | simp only [keep_mk] | split | extract_lets | simp +zetaDelta only [keep_mk])

theorem keep_execMgmtReadyTimeout {s : State} (h_s : Keep qq s) :
    KeepO qq (execMgmtReadyTimeout s) := by
  unfold execMgmtReadyTimeout
  repeat' (first | (with_reducible first | assumption | apply keepO_next | apply keep_endAct | apply keep_ite | apply keep_modFwType) | intro _ | exact Nat.le_refl _ | simp only [keep_mk] | split)

theorem keep_execMicrocodeSwitch (i : LinkId) {s : State} (h_s : Keep qq s) :
    KeepO qq (execMicrocodeSwitch i s) := by
  unfold execMicrocodeSwitch
  repeat' (first | (with_reducible first | assumption | apply keepO_next | apply keepO_ite | exact keepO_fault | apply keepC_of | apply keep_raiseFloor | apply keep_endAct | apply keep_ite | apply keep_pite | apply keep_modFwType | refine keep_fst (by assumption) ?_) | intro _ | exact Nat.le_refl _ | simp only [keep_mk] | split | extract_lets | simp +zetaDelta only [keep_mk])

theorem keep_execMicrocodeReadyTimeout (i : LinkId) {s : State} (h_s : Keep qq s) :
    KeepO qq (execMicrocodeReadyTimeout i s) := by
  unfold execMicrocodeReadyTimeout
  repeat' (first | (with_reducible first | assumption | apply keepO_next | apply keep_endAct | apply keep_ite) | intro _ | simp only [keep_mk] | split)

theorem keep_coverage {s : State} (h_s : Keep qq s) :
    Keep qq (State.coverage s) := by
  unfold State.coverage
  repeat' (first | (with_reducible first | assumption | apply keepC_of | apply keep_panelRecord | apply keep_svcEvt | apply keep_ite | apply keep_pite | refine keep_fst (by assumption) ?_) | intro _ | simp only [keep_mk] | split | extract_lets | simp +zetaDelta only [keep_mk])

theorem keep_copyFailures {s : State} (a2 : List Nat) (h_s : Keep qq s) :
    Keep qq (State.copyFailures s a2) := by
  revert h_s
  fun_induction State.copyFailures s a2
  all_goals intros
  all_goals (repeat' (first | (with_reducible first | assumption | apply keep_norFailure | apply keep_ite) | intro _ | apply_assumption))

theorem keep_copyImages {s : State} (m : StartMeas) (ts : List Nat) (h_s : Keep qq s) : Keep qq (State.copyImages s m ts) := by
  induction ts generalizing s with
  | nil => exact h_s
  | cons t ts ih =>
    unfold State.copyImages
    refine ih (keep_ite (fun _ => ?_) fun _ => h_s)
    split
    · exact keep_fwRecord _ _ _ _ (keep_modFwType _ _ h_s fun _ => Nat.le_refl _)
    · exact keep_copyFailures _ (keep_modFwType _ _ h_s fun _ => Nat.le_refl _)

theorem keep_copyPending {s : State} (m : StartMeas) (h_s : Keep qq s) :
    Keep qq (State.copyPending s m) := by
  unfold State.copyPending
  repeat' (first | (with_reducible first | assumption | apply keep_copyImages | apply keep_erases | apply keep_ite) | intro _)

theorem keep_failImages {s : State} (x : StartMeas) (ts : List Nat) (h_s : Keep qq s) : Keep qq (State.failImages s x ts) := by
  induction ts generalizing s with
  | nil => exact h_s
  | cons t ts ih =>
    unfold State.failImages
    exact ih (keep_ite (fun _ => h_s) fun _ => keep_modFwType _ _ h_s fun _ => Nat.le_refl _)

theorem keep_runImages {s : State} (a1 : List Nat) (h_s : Keep qq s) :
    Keep qq (State.runImages s a1) := by
  revert h_s
  fun_induction State.runImages s a1
  all_goals intros
  all_goals (repeat' (first | (with_reducible first | assumption | apply keep_raiseFloor | apply keep_ite | apply keep_modFwType) | intro _ | apply_assumption | exact Nat.le_refl _))

theorem keep_blowFuses {s : State} (h_s : Keep qq s) :
    Keep qq (State.blowFuses s) := h_s

theorem keep_repairBlock {s : State} (b : Nat) (h_s : Keep qq s) :
    Keep qq (State.repairBlock s b) := by
  unfold State.repairBlock
  repeat' (first | (with_reducible first | assumption | apply keepC_of | apply keep_ledger | apply keep_clearRange | apply keep_ite | apply keep_pite | refine keep_fst (by assumption) ?_) | intro _ | simp only [keep_mk] | split | extract_lets | simp +zetaDelta only [keep_mk])

theorem keep_repairEntry {s : State} (w : Withheld) (h_s : Keep qq s) :
    Keep qq (State.repairEntry s w) := by
  unfold State.repairEntry
  repeat' (first | (with_reducible first | assumption | apply keepC_of | apply keep_ledger | apply keep_repairBlock | apply keep_ite | apply keep_pite | refine keep_fst (by assumption) ?_) | intro _ | simp only [keep_mk] | split | extract_lets | simp +zetaDelta only [keep_mk])

theorem keep_repairEntries {s : State} (n : Nat) (a3 : List Withheld) (h_s : Keep qq s) :
    Keep qq (State.repairEntries s n a3).1 := by
  revert h_s
  fun_induction State.repairEntries s n a3
  all_goals intros
  all_goals (repeat' (first | (with_reducible first | assumption | apply keep_repairEntry | apply keep_ite) | intro _ | apply_assumption))

theorem keep_repairHeavy {s : State} (n : Nat) (a3 : List Nat) (h_s : Keep qq s) :
    Keep qq (State.repairHeavy s n a3) := by
  revert h_s
  fun_induction State.repairHeavy s n a3
  all_goals intros
  all_goals (repeat' (first | (with_reducible first | assumption | apply keep_repairBlock | apply keep_ite) | intro _ | apply_assumption))

theorem keep_repair {s : State} (m : StartMeas) (h_s : Keep qq s) :
    Keep qq (State.repair s m) := by
  unfold State.repair
  repeat' (first | (with_reducible first | assumption | apply keepC_of | apply keep_repairEntries | apply keep_repairHeavy | apply keep_ite | apply keep_pite | refine keep_fst (by assumption) ?_) | intro _ | simp only [keep_mk] | split | extract_lets | simp +zetaDelta only [keep_mk])

theorem keep_ledgerStart {s : State} (m : StartMeas) (h_s : Keep qq s) :
    Keep qq (State.ledgerStart s m) := by
  unfold State.ledgerStart
  repeat' (first | (with_reducible first | assumption | apply keepC_of | apply keep_ownRecord | apply keep_ite | apply keep_pite | refine keep_fst (by assumption) ?_) | intro _ | simp only [keep_mk] | split | extract_lets | simp +zetaDelta only [keep_mk])

theorem keep_dueReport {s : State} (due : Bool) (volt : Bool) (bit : Nat) (event : Nat) (h_s : Keep qq s) :
    Keep qq (State.dueReport s due volt bit event) := by
  unfold State.dueReport
  repeat' (first | (with_reducible first | assumption | apply keep_svcEvt | apply keep_panelRecord | apply keep_draw | apply keep_ite) | intro _)

theorem keep_tamperReports {s : State} (a2 : Nat) (h_s : Keep qq s) :
    Keep qq (State.tamperReports s a2) := by
  revert h_s
  fun_induction State.tamperReports s a2
  all_goals intros
  all_goals (repeat' (first | (with_reducible first | assumption | apply keep_svcEvt | apply keep_secEvent | apply keep_ite) | intro _ | apply_assumption))

theorem keep_dues {s : State} (m : StartMeas) (h_s : Keep qq s) :
    Keep qq (State.dues s m) := by
  unfold State.dues
  repeat' (first | (with_reducible first | assumption | apply keepC_of | apply keep_dueReport | apply keep_tamperReports | apply keep_panelRecord | apply keep_svcEvt | apply keep_ledger | apply keep_setBits | apply keep_fwRecord | apply keep_coverage | apply keep_ite | apply keep_pite | refine keep_fst (by assumption) ?_) | intro _ | simp only [keep_mk] | split | extract_lets | simp +zetaDelta only [keep_mk])

theorem keep_enterRecovery {s : State} (h_s : Keep qq s) :
    Keep qq (State.enterRecovery s) := h_s

theorem keep_startMain {s : State} (m : StartMeas) (h_s : Keep qq s) :
    Keep qq (State.startMain s m) := by
  unfold State.startMain
  repeat' (first | (with_reducible first | assumption | apply keepC_of | apply keep_cusStart | apply keep_blowFuses | apply keep_runImages | apply keep_dues | apply keep_repair | apply keep_ledgerStart | apply keep_ite | apply keep_pite | refine keep_fst (by assumption) ?_) | intro _ | simp only [keep_mk] | split | extract_lets | simp +zetaDelta only [keep_mk])

theorem keep_execPowerGood (m : StartMeas) {s : State} (h_s : Keep qq s) :
    KeepO qq (execPowerGood m s) := by
  unfold execPowerGood
  repeat' (first | (with_reducible first | assumption | apply keepO_next | apply keep_failImages | apply keep_copyPending | apply keep_startMain | apply keep_enterRecovery | apply keep_ite) | intro _)

theorem keep_execRecoveryExit {s : State} (h_s : Keep qq s) :
    KeepO qq (execRecoveryExit s) := by
  unfold execRecoveryExit
  repeat' (first | (with_reducible first | assumption | apply keepO_next | apply keepO_ite | exact keepO_fault | apply keepC_of | apply keep_hardReset | apply keep_ite | apply keep_pite | refine keep_fst (by assumption) ?_) | intro _ | simp only [keep_mk] | split | extract_lets | simp +zetaDelta only [keep_mk])

theorem keep_pldm {s : State} (code : Nat) (bs : List Byte) (h_s : Keep qq s) :
    Keep qq (State.pldm s code bs) := h_s

theorem keep_pldmTo {s : State} (st : PldmSt) (h_s : Keep qq s) :
    Keep qq (State.pldmTo s st) := h_s

theorem keep_pldmReq {s : State} (bus : Nat) (f : State → State) (h_s : Keep qq s) (h_f : ∀ v0, Keep qq v0 → Keep qq (f v0)) :
    KeepO qq (State.pldmReq s bus f) := by
  unfold State.pldmReq
  repeat' (first | (with_reducible first | assumption | apply keepO_next | apply keep_ite | apply h_f) | intro _)

theorem keep_pldmIn {s : State} (bus : Nat) (code : Nat) (ok : PldmSt → Bool) (f : State → State) (h_s : Keep qq s) (h_f : ∀ v0, Keep qq v0 → Keep qq (f v0)) :
    KeepO qq (State.pldmIn s bus code ok f) := by
  unfold State.pldmIn
  repeat' (first | (with_reducible first | assumption | apply keepO_next | apply keep_pldmReq | apply keep_pldm | apply keep_ite | apply h_f) | intro _)

theorem keep_execQueryDeviceIdentifiers (bus : Fin 2) {s : State} (h_s : Keep qq s) :
    KeepO qq (execQueryDeviceIdentifiers bus s) := by
  unfold execQueryDeviceIdentifiers
  repeat' (first | (with_reducible first | assumption | apply keepO_next | apply keep_pldmReq | apply keep_pldm | apply keep_ite) | intro _)

theorem keep_execGetFirmwareParameters (bus : Fin 2) {s : State} (h_s : Keep qq s) :
    KeepO qq (execGetFirmwareParameters bus s) := by
  unfold execGetFirmwareParameters
  repeat' (first | (with_reducible first | assumption | apply keepO_next | apply keep_pldmReq | apply keep_pldm | apply keep_ite) | intro _)

theorem keep_execRequestUpdate (bus : Fin 2) (maxSize : W32) {s : State} (h_s : Keep qq s) :
    KeepO qq (execRequestUpdate bus maxSize s) := by
  unfold execRequestUpdate
  repeat' (first | (with_reducible first | assumption | apply keepO_next | apply keepO_ite | exact keepO_fault | apply keepC_of | apply keep_pldmReq | apply keep_pldm | apply keep_pldmTo | apply keep_ite | apply keep_pite | refine keep_fst (by assumption) ?_) | intro _ | simp only [keep_mk] | split | extract_lets | simp +zetaDelta only [keep_mk])

theorem keep_execPassComponentTable (bus : Fin 2) (id : Fin 65536) (last : Bool) {s : State} (h_s : Keep qq s) :
    KeepO qq (execPassComponentTable bus id last s) := by
  unfold execPassComponentTable
  repeat' (first | (with_reducible first | assumption | apply keepO_next | apply keep_pldmIn | apply keep_pldm | apply keep_pldmTo | apply keep_ite) | intro _)

theorem keep_pldmAsk {s : State} (h_s : Keep qq s) :
    Keep qq (State.pldmAsk s) := by
  unfold State.pldmAsk
  repeat' (first | (with_reducible first | assumption | apply keep_pldm | apply keep_ite) | intro _ | simp only [keep_mk] | split)

theorem keep_execUpdateComponent (bus : Fin 2) (id : Fin 65536) (len : W32) {s : State} (h_s : Keep qq s) :
    KeepO qq (execUpdateComponent bus id len s) := by
  unfold execUpdateComponent
  repeat' (first | (with_reducible first | assumption | apply keepO_next | apply keepO_ite | exact keepO_fault | apply keepC_of | apply keep_pldmIn | apply keep_pldm | apply keep_fwRecord | apply keep_pldmAsk | apply keep_pldmTo | apply keep_ite | apply keep_pite | refine keep_fst (by assumption) ?_) | intro _ | simp only [keep_mk] | split | extract_lets | simp +zetaDelta only [keep_mk])

theorem keep_execFirmwareData (bs : List Byte) {s : State} (h_s : Keep qq s) :
    KeepO qq (execFirmwareData bs s) := by
  unfold execFirmwareData
  repeat' (first | (with_reducible first | assumption | apply keepO_next | apply keepO_ite | exact keepO_fault | apply keepC_of | apply keep_endXfer | apply keep_pldmAsk | apply keep_ite | apply keep_pite | refine keep_fst (by assumption) ?_) | intro _ | simp only [keep_mk] | split | extract_lets | simp +zetaDelta only [keep_mk])

theorem keep_execTransferComplete {s : State} (h_s : Keep qq s) :
    KeepO qq (execTransferComplete s) := by
  unfold execTransferComplete
  repeat' (first | (with_reducible first | assumption | apply keepO_next | apply keep_pldm | apply keep_pldmTo | apply keep_ite) | intro _)

theorem keep_execVerifyComplete {s : State} (h_s : Keep qq s) :
    KeepO qq (execVerifyComplete s) := by
  unfold execVerifyComplete
  repeat' (first | (with_reducible first | assumption | apply keepO_next | apply keep_pldm | apply keep_pldmTo | apply keep_ite) | intro _)

theorem keep_execApplyComplete {s : State} (h_s : Keep qq s) :
    KeepO qq (execApplyComplete s) := by
  unfold execApplyComplete
  repeat' (first | (with_reducible first | assumption | apply keepO_next | apply keep_pldm | apply keep_pldmTo | apply keep_ite) | intro _)

theorem keep_execActivateFirmware (bus : Fin 2) (selfContained : Bool) (sig : Bool) (payload : Bool) {s : State} (h_s : Keep qq s) :
    KeepO qq (execActivateFirmware bus selfContained sig payload s) := by
  unfold execActivateFirmware
  repeat' (first | (with_reducible first | assumption | apply keepO_next | apply keep_pldmIn | apply keep_pldm | apply keep_pldmTo | apply keep_endAct | apply keep_startAct | apply keep_ite) | intro _ | simp only [keep_mk] | split)

theorem keep_execGetStatus (bus : Fin 2) {s : State} (h_s : Keep qq s) :
    KeepO qq (execGetStatus bus s) := by
  unfold execGetStatus
  repeat' (first | (with_reducible first | assumption | apply keepO_next | apply keep_pldmReq | apply keep_pldm | apply keep_ite) | intro _)

theorem keep_pldmDrop {s : State} (h_s : Keep qq s) :
    Keep qq (State.pldmDrop s) := by
  unfold State.pldmDrop
  repeat' (first | (with_reducible first | assumption | apply keep_endXfer | apply keep_ite) | intro _ | simp only [keep_mk] | split)

theorem keep_execCancelUpdateComponent (bus : Fin 2) {s : State} (h_s : Keep qq s) :
    KeepO qq (execCancelUpdateComponent bus s) := by
  unfold execCancelUpdateComponent
  repeat' (first | (with_reducible first | assumption | apply keepO_next | apply keep_pldmIn | apply keep_pldm | apply keep_pldmTo | apply keep_pldmDrop | apply keep_ite) | intro _)

theorem keep_execCancelUpdate (bus : Fin 2) {s : State} (h_s : Keep qq s) :
    KeepO qq (execCancelUpdate bus s) := by
  unfold execCancelUpdate
  repeat' (first | (with_reducible first | assumption | apply keepO_next | apply keep_pldmIn | apply keep_pldm | apply keep_pldmTo | apply keep_pldmDrop | apply keep_ite) | intro _)

theorem keep_execDfuDownload (alt : Fin 4) (bs : List Byte) (first : Bool) (last : Bool) {s : State} (h_s : Keep qq s) :
    KeepO qq (execDfuDownload alt bs first last s) := by
  unfold execDfuDownload
  repeat' (first | (with_reducible first | assumption | apply keepO_next | apply keepO_ite | exact keepO_fault | apply keepC_of | apply keep_emit | apply keep_endXfer | apply keep_ite | apply keep_pite | refine keep_fst (by assumption) ?_) | intro _ | simp only [keep_mk] | split | extract_lets | simp +zetaDelta only [keep_mk])

theorem keep_execDfuUpload (alt : Fin 4) {s : State} (h_s : Keep qq s) :
    KeepO qq (execDfuUpload alt s) := by
  unfold execDfuUpload
  repeat' (first | (with_reducible first | assumption | apply keepO_next | apply keep_emit | apply keep_ite) | intro _)

theorem keep_execUsbDisconnection {s : State} (h_s : Keep qq s) :
    KeepO qq (execUsbDisconnection s) := by
  unfold execUsbDisconnection
  repeat' (first | (with_reducible first | assumption | apply keepO_next | apply keepO_ite | exact keepO_fault | apply keepC_of | apply keep_ite | apply keep_pite | refine keep_fst (by assumption) ?_) | intro _ | simp only [keep_mk] | split | extract_lets | simp +zetaDelta only [keep_mk])

theorem keep_execNop (c : CoreId) (_w : StepWord) {s : State} (h_s : Keep qq s) :
    KeepO qq (execNop c _w s) := by
  unfold execNop
  repeat' (first | (with_reducible first | assumption | apply keepO_next | apply keep_front | apply keep_setCore | apply keep_ite) | intro _)

theorem keep_execEnd (c : CoreId) (_w : StepWord) {s : State} (h_s : Keep qq s) :
    KeepO qq (execEnd c _w s) := by
  unfold execEnd
  repeat' (first | (with_reducible first | assumption | apply keepO_next | apply keep_front | apply keep_wakeFront | apply keep_setCore | apply keep_ite) | intro _)

theorem keep_execLoop (c : CoreId) (w : StepWord) {s : State} (h_s : Keep qq s) :
    KeepO qq (execLoop c w s) := by
  unfold execLoop
  repeat' (first | (with_reducible first | assumption | apply keepO_next | apply keep_front | apply keep_setCore | apply keep_ite) | intro _)

theorem keep_execVsel (c : CoreId) (w : StepWord) {s : State} (h_s : Keep qq s) :
    KeepO qq (execVsel c w s) := by
  unfold execVsel
  repeat' (first | (with_reducible first | assumption | apply keepO_next | apply keep_front | apply keep_setCore | apply keep_seqFault | apply keep_ite) | intro _)

theorem keep_execPhase (c : CoreId) (w : StepWord) {s : State} (h_s : Keep qq s) :
    KeepO qq (execPhase c w s) := by
  unfold execPhase
  repeat' (first | (with_reducible first | assumption | apply keepO_next | apply keep_front | apply keep_phaseEnd | apply keep_setCore | apply keep_setSlack | apply keep_ite) | intro _ | simp only [keep_mk] | split)

theorem keep_execRebind (c : CoreId) (_w : StepWord) {s : State} (h_s : Keep qq s) :
    KeepO qq (execRebind c _w s) := by
  unfold execRebind
  repeat' (first | (with_reducible first | assumption | apply keepO_next | apply keep_front | apply keep_wakeFront | apply keep_setCore | apply keep_ite) | intro _)

theorem keep_execFence (c : CoreId) (w : StepWord) {s : State} (h_s : Keep qq s) :
    KeepO qq (execFence c w s) := by
  unfold execFence
  repeat' (first | (with_reducible first | assumption | apply keepO_next | apply keep_front | apply keep_setCore | apply keep_ite) | intro _)

theorem keep_execQueueStepCompleted (c : CoreId) (q : StepEnd) {s : State} (h_s : Keep qq s) :
    KeepO qq (execQueueStepCompleted c q s) := by
  unfold execQueueStepCompleted
  repeat' (first | (with_reducible first | assumption | apply keepO_next | apply keep_bump64 | apply keep_stepDone | apply keep_setCore | apply keep_raise | apply keep_wakeGlobals | apply keep_ite) | intro _ | simp only [keep_mk] | split)

theorem keep_bindEnd {s : State} (p : Nat) (op : Nat) (code : Nat) (descs : List (Nat × Nat)) (mctp : List Nat) (h_s : Keep qq s) :
    Keep qq (State.bindEnd s p op code descs mctp) := by
  unfold State.bindEnd
  repeat' (first | (with_reducible first | assumption | apply keep_endBinds | apply keep_setReg | apply keep_mctpBindEnd | apply keep_ite) | intro _)

theorem keep_bindGo {s : State} (from_ : BindFrom) (op : Nat) (f : List (Nat × Nat) → List Nat → Nat → List Byte → State → State) (h_s : Keep qq s) (h_f : ∀ v0 v1 v2 v3 v4, Keep qq v4 → Keep qq (f v0 v1 v2 v3 v4)) :
    Keep qq (State.bindGo s from_ op f) := by
  unfold State.bindGo
  repeat' (first | (with_reducible first | assumption | apply keepC_of | apply keep_startDesc | apply keep_ite | apply keep_pite | apply h_f | refine keep_fst (by assumption) ?_) | intro _ | simp only [keep_mk] | split | extract_lets | simp +zetaDelta only [keep_mk])

theorem keep_tellBytes {s : State} (p : Nat) (kind : Nat) (a : Nat) (bs : List Byte) (h_s : Keep qq s) :
    Keep qq (State.tellBytes s p kind a bs) := h_s

theorem keep_opBegin {s : State} (p : Nat) (op : Nat) (descs : List (Nat × Nat)) (mctp : List Nat) (env : Option Envelope) (h_s : Keep qq s) :
    Keep qq (State.opBegin s p op descs mctp env) := h_s

theorem keep_modOp {s : State} (p : Nat) (f : BindOp → BindOp) (h_s : Keep qq s) :
    Keep qq (State.modOp s p f) := h_s

theorem keep_undoReserve {s : State} (p : Nat) (code : Nat) (h_s : Keep qq s) :
    Keep qq (State.undoReserve s p code) := by
  unfold State.undoReserve
  repeat' (first | (with_reducible first | assumption | apply keep_releasePart | apply keep_setSt | apply keep_tellMembers | apply keep_opEnd | apply keep_ite) | intro _)

theorem keep_execBindReserve (from_ : BindFrom) {s : State} (h_s : Keep qq s) :
    KeepO qq (execBindReserve from_ s) := by
  unfold execBindReserve
  repeat' (first | (with_reducible first | assumption | apply keepO_next | apply keep_bindGo | apply keep_bindReply | apply keep_reserveHere | apply keep_modPart | apply keep_opBegin | apply keep_opEnd | apply keep_tellBytes | apply keep_ite) | intro _ | simp only [keep_mk] | split)

theorem keep_execPrepare (env : List Byte) {s : State} (h_s : Keep qq s) :
    KeepO qq (execPrepare env s) := by
  unfold execPrepare
  repeat' (first | (with_reducible first | assumption | apply keepO_next | apply keep_emit | apply keep_accede | apply keep_dropUpdate | apply keep_reserveHere | apply keep_ite) | intro _ | simp only [keep_mk] | split)

theorem keep_dissolveGo {s : State} (p : Nat) (h_s : Keep qq s) :
    Keep qq (State.dissolveGo s p) := by
  unfold State.dissolveGo
  repeat' (first | (with_reducible first | assumption | apply keep_freePartition | apply keep_emit | apply keep_opEnd | apply keep_ite) | intro _ | simp only [keep_mk] | split)

theorem keep_dissolveHere {s : State} (p : Nat) (h_s : Keep qq s) :
    Keep qq (State.dissolveHere s p) := by
  unfold State.dissolveHere
  repeat' (first | (with_reducible first | assumption | apply keep_dissolveGo | apply keep_releasePart | apply keep_setSt | apply keep_ite) | intro _)

theorem keep_execBindDissolve (from_ : BindFrom) {s : State} (h_s : Keep qq s) :
    KeepO qq (execBindDissolve from_ s) := by
  unfold execBindDissolve
  repeat' (first | (with_reducible first | assumption | apply keepO_next | apply keep_bindGo | apply keep_bindReply | apply keep_bindEnd | apply keep_dissolveHere | apply keep_tellMembers | apply keep_opBegin | apply keep_ite) | intro _ | simp only [keep_mk] | split)

theorem keep_execDissolve (p : PartId) {s : State} (h_s : Keep qq s) :
    KeepO qq (execDissolve p s) := by
  unfold execDissolve
  repeat' (first | (with_reducible first | assumption | apply keepO_next | apply keep_dissolveHere | apply keep_ite) | intro _)

theorem keep_clearDone {s : State} (q : Nat) (a3 : List Nat) (h_s : Keep qq s) :
    Keep qq (State.clearDone s q a3) := by
  revert h_s
  fun_induction State.clearDone s q a3
  all_goals intros
  all_goals (repeat' (first | (with_reducible first | assumption | apply keep_dissolveGo | apply keep_modPart | apply keep_ite) | intro _ | apply_assumption))

theorem keep_execRegionClearDone (q : RegionId) (zeroised : Bool) {s : State} (h_s : Keep qq s) :
    KeepO qq (execRegionClearDone q zeroised s) := by
  unfold execRegionClearDone
  repeat' (first | (with_reducible first | assumption | apply keepO_next | apply keepO_ite | exact keepO_fault | apply keepC_of | apply keep_ledger | apply keep_secAlarm | apply keep_clearDone | apply keep_regionCleared | apply keep_ite | apply keep_pite | refine keep_fst (by assumption) ?_) | intro _ | simp only [keep_mk] | split | extract_lets | simp +zetaDelta only [keep_mk])

theorem keep_sealSend {s : State} (p : Nat) (table : List WinRow) (h_s : Keep qq s) :
    Keep qq (State.sealSend s p table) := by
  unfold State.sealSend
  repeat' (first | (with_reducible first | assumption | apply keep_opEnd | apply keep_sealPart | apply keep_tellBytes | apply keep_modOp | apply keep_ite) | intro _)

theorem keep_execBindSeal (from_ : BindFrom) (plan : PlaceSpec) {s : State} (h_s : Keep qq s) :
    KeepO qq (execBindSeal from_ plan s) := by
  unfold execBindSeal
  repeat' (first | (with_reducible first | assumption | apply keepO_next | apply keep_bindGo | apply keep_bindReply | apply keep_bindEnd | apply keep_placePart | apply keep_modPart | apply keep_opBegin | apply keep_sealSend | apply keep_tellMembers | apply keep_ite) | intro _ | simp only [keep_mk] | split)

theorem keep_execPlace (p : PartId) (plan : PlaceSpec) {s : State} (h_s : Keep qq s) :
    KeepO qq (execPlace p plan s) := by
  unfold execPlace
  repeat' (first | (with_reducible first | assumption | apply keepO_next | apply keep_placePart | apply keep_emit | apply keep_migrate | apply keep_ite) | intro _ | simp only [keep_mk] | split)

theorem keep_flipPart {s : State} (p : Nat) (cat : List Byte) (h_s : Keep qq s) :
    Keep qq (State.flipPart s p cat) := by
  unfold State.flipPart
  repeat' (first | (with_reducible first | assumption | apply keep_modPart | apply keep_tagClusters | apply keep_ite) | intro _)

theorem keep_execCuratorSeal (p : PartId) (cat : List Byte) {s : State} (h_s : Keep qq s) :
    KeepO qq (execCuratorSeal p cat s) := by
  unfold execCuratorSeal
  repeat' (first | (with_reducible first | assumption | apply keepO_next | apply keep_emit | apply keep_sealPart | apply keep_flipPart | apply keep_ite) | intro _)

theorem keep_resumePart {s : State} (p : Nat) (h_s : Keep qq s) :
    Keep qq (State.resumePart s p) := by
  unfold State.resumePart
  repeat' (first | (with_reducible first | assumption | apply keepC_of | apply keep_bump | apply keep_setReg | apply keep_modPart | apply keep_rejoin | apply keep_setSt | apply keep_ite | apply keep_pite | refine keep_fst (by assumption) ?_) | intro _ | simp only [keep_mk] | split | extract_lets | simp +zetaDelta only [keep_mk])

theorem keep_dropMembers {s : State} (old : List EnvMember) (new_ : List EnvMember) (h_s : Keep qq s) :
    Keep qq (State.dropMembers s old new_) := h_s

theorem keep_resumeAllMembers {s : State} (p : Nat) (h_s : Keep qq s) :
    Keep qq (State.resumeAllMembers s p) := by
  unfold State.resumeAllMembers
  repeat' (first | (with_reducible first | assumption | apply keep_commitUpdate | apply keep_dropMembers | apply keep_tellMembers | apply keep_modPart | apply keep_resumePart | apply keep_grantSwitches | apply keep_launchNext | apply keep_opEnd | apply keep_ite) | intro _)

theorem keep_flipSend {s : State} (p : Nat) (table : List WinRow) (h_s : Keep qq s) :
    Keep qq (State.flipSend s p table) := by
  unfold State.flipSend
  repeat' (first | (with_reducible first | assumption | apply keep_flipPart | apply keep_tellBytes | apply keep_modOp | apply keep_resumeAllMembers | apply keep_ite) | intro _)

theorem keep_planDropped {s : State} (p : Nat) (code : Nat) (h_s : Keep qq s) :
    Keep qq (State.planDropped s p code) := by
  unfold State.planDropped
  repeat' (first | (with_reducible first | assumption | apply keepC_of | apply keep_modPart | apply keep_dropUpdate | apply keep_tellMembers | apply keep_launchNext | apply keep_opEnd | apply keep_ite | apply keep_pite | refine keep_fst (by assumption) ?_) | intro _ | simp only [keep_mk] | split | extract_lets | simp +zetaDelta only [keep_mk])

theorem keep_pauseStart {s : State} (p : Nat) (h_s : Keep qq s) :
    Keep qq (State.pauseStart s p) := by
  unfold State.pauseStart
  repeat' (first | (with_reducible first | assumption | apply keep_migrate | apply keep_planDropped | apply keep_modPart | apply keep_modOp | apply keep_flipSend | apply keep_tellMembers | apply keep_ite) | intro _ | simp only [keep_mk] | split)

theorem keep_rebindGo {s : State} (p : Nat) (h_s : Keep qq s) :
    Keep qq (State.rebindGo s p) := by
  unfold State.rebindGo
  repeat' (first | (with_reducible first | assumption | apply keep_tellMembers | apply keep_modOp | apply keep_modPart | apply keep_pauseStart | apply keep_ite) | intro _ | simp only [keep_mk] | split)

theorem keep_rebindBegin {s : State} (p : Nat) (descs : List (Nat × Nat)) (mctp : List Nat) (h_s : Keep qq s) :
    Keep qq (State.rebindBegin s p descs mctp) := h_s

theorem keep_rebindAsk {s : State} (p : Nat) (descs : List (Nat × Nat)) (mctp : List Nat) (h_s : Keep qq s) :
    Keep qq (State.rebindAsk s p descs mctp) := by
  unfold State.rebindAsk
  repeat' (first | (with_reducible first | assumption | apply keep_modOp | apply keep_bindEnd | apply keep_rebindBegin | apply keep_ite) | intro _ | simp only [keep_mk] | split)

theorem keep_execBindRebind (from_ : BindFrom) {s : State} (h_s : Keep qq s) :
    KeepO qq (execBindRebind from_ s) := by
  unfold execBindRebind
  repeat' (first | (with_reducible first | assumption | apply keepO_next | apply keep_bindGo | apply keep_bindReply | apply keep_rebindAsk | apply keep_ite) | intro _ | simp only [keep_mk] | split)

theorem keep_execRebindRequest (p : PartId) {s : State} (h_s : Keep qq s) :
    KeepO qq (execRebindRequest p s) := by
  unfold execRebindRequest
  repeat' (first | (with_reducible first | assumption | apply keepO_next | apply keep_setBits | apply keep_modPart | apply keep_rebindBegin | apply keep_emit | apply keep_ite) | intro _ | simp only [keep_mk] | split)

theorem keep_execRebindPlanDone (p : PartId) (result : Fin 16) (plan : PlaceSpec) {s : State} (h_s : Keep qq s) :
    KeepO qq (execRebindPlanDone p result plan s) := by
  unfold execRebindPlanDone
  repeat' (first | (with_reducible first | assumption | apply keepO_next | apply keep_migrate | apply keep_emit | apply keep_modPart | apply keep_planDropped | apply keep_rebindGo | apply keep_ite) | intro _ | simp only [keep_mk] | split)

theorem keep_execResume (p : PartId) {s : State} (h_s : Keep qq s) :
    KeepO qq (execResume p s) := by
  unfold execResume
  repeat' (first | (with_reducible first | assumption | apply keepO_next | apply keepO_ite | exact keepO_fault | apply keepC_of | apply keep_resumePart | apply keep_commitUpdate | apply keep_modPart | apply keep_ite | apply keep_pite | refine keep_fst (by assumption) ?_) | intro _ | simp only [keep_mk] | split | extract_lets | simp +zetaDelta only [keep_mk])

theorem keep_updateGo {s : State} (p : Nat) (h_s : Keep qq s) :
    Keep qq (State.updateGo s p) := by
  unfold State.updateGo
  repeat' (first | (with_reducible first | assumption | apply keep_planDropped | apply keep_commitUpdate | apply keep_dropMembers | apply keep_tellMembers | apply keep_opEnd | apply keep_modOp | apply keep_ite) | intro _ | simp only [keep_mk] | split)

theorem keep_execBindEnvelopeUpdate (from_ : BindFrom) {s : State} (h_s : Keep qq s) :
    KeepO qq (execBindEnvelopeUpdate from_ s) := by
  unfold execBindEnvelopeUpdate
  repeat' (first | (with_reducible first | assumption | apply keepO_next | apply keep_bindGo | apply keep_bindReply | apply keep_bindEnd | apply keep_accede | apply keep_opBegin | apply keep_modOp | apply keep_updateGo | apply keep_emits | apply keep_ite) | intro _ | simp only [keep_mk] | split)

theorem keep_remoteFault {s : State} (p : Nat) (vcore : Nat) (code : Nat) (h_s : Keep qq s) :
    Keep qq (State.remoteFault s p vcore code) := by
  unfold State.remoteFault
  repeat' (first | (with_reducible first | assumption | apply keepC_of | apply keep_modPart | apply keep_tellMembers | apply keep_ite | apply keep_pite | refine keep_fst (by assumption) ?_) | intro _ | simp only [keep_mk] | split | extract_lets | simp +zetaDelta only [keep_mk])

theorem keep_stopsGo {s : State} (p : Nat) (h_s : Keep qq s) :
    Keep qq (State.stopsGo s p) := by
  unfold State.stopsGo
  repeat' (first | (with_reducible first | assumption | apply keepC_of | apply keep_pauseStart | apply keep_modPart | apply keep_emits | apply keep_ite | apply keep_pite | refine keep_fst (by assumption) ?_) | intro _ | simp only [keep_mk] | split | extract_lets | simp +zetaDelta only [keep_mk])

theorem keep_opReport {s : State} (p : Nat) (fid : Nat) (rep : Report) (o : BindOp) (h_s : Keep qq s) :
    Keep qq (State.opReport s p fid rep o) := by
  unfold State.opReport
  repeat' (first | (with_reducible first | assumption | apply keep_modPart | apply keep_modOp | apply keep_updateGo | apply keep_opEnd | apply keep_dissolveGo | apply keep_undoReserve | apply keep_sealSend | apply keep_planDropped | apply keep_rebindGo | apply keep_flipSend | apply keep_resumeAllMembers | apply keep_ite) | intro _ | simp only [keep_mk] | split)

theorem keep_loadReport {s : State} (p : Nat) (fid : Nat) (slot : Nat) (status : Nat) (places : List SlotPlace) (h_s : Keep qq s) :
    Keep qq (State.loadReport s p fid slot status places) := by
  unfold State.loadReport
  repeat' (first | (with_reducible first | assumption | apply keep_modPart | apply keep_loadEnd | apply keep_tellMembers | apply keep_dropImage | apply keep_ite) | intro _ | simp only [keep_mk] | split)

theorem keep_execMemberReport (p : PartId) (fid : Fin 16384) (rep : Report) {s : State} (h_s : Keep qq s) :
    KeepO qq (execMemberReport p fid rep s) := by
  unfold execMemberReport
  repeat' (first | (with_reducible first | assumption | apply keepO_next | apply keepO_ite | exact keepO_fault | apply keepC_of | apply keep_remoteFault | apply keep_emit | apply keep_stopsGo | apply keep_modPart | apply keep_tellMembers | apply keep_loadReport | apply keep_launchNext | apply keep_resetGo | apply keep_opReport | apply keep_ite | apply keep_pite | refine keep_fst (by assumption) ?_) | intro _ | simp only [keep_mk] | split | extract_lets | simp +zetaDelta only [keep_mk])

theorem keep_memberGone {s : State} (p : Nat) (code : Nat) (h_s : Keep qq s) :
    Keep qq (State.memberGone s p code) := by
  unfold State.memberGone
  repeat' (first | (with_reducible first | assumption | apply keep_dissolveGo | apply keep_undoReserve | apply keep_modOp | apply keep_setSt | apply keep_opEnd | apply keep_planDropped | apply keep_resetStart | apply keep_ite) | intro _ | simp only [keep_mk] | split)

theorem keep_execMemberTimeout (p : PartId) {s : State} (h_s : Keep qq s) :
    KeepO qq (execMemberTimeout p s) := by
  unfold execMemberTimeout
  repeat' (first | (with_reducible first | assumption | apply keepO_next | apply keep_memberGone | apply keep_ite) | intro _ | simp only [keep_mk] | split)

theorem keep_resendTo {s : State} (fid : Nat) (q : Part) (o : BindOp) (h_s : Keep qq s) :
    Keep qq (State.resendTo s fid q o) := by
  unfold State.resendTo
  repeat' (first | (with_reducible first | assumption | apply keep_emit | apply keep_emits | apply keep_ite) | intro _ | simp only [keep_mk] | split)

theorem keep_execCuratorMessageRetry (p : PartId) (fid : Fin 16384) {s : State} (h_s : Keep qq s) :
    KeepO qq (execCuratorMessageRetry p fid s) := by
  unfold execCuratorMessageRetry
  repeat' (first | (with_reducible first | assumption | apply keepO_next | apply keep_resendTo | apply keep_modPart | apply keep_memberGone | apply keep_ite) | intro _ | simp only [keep_mk] | split)

theorem keep_execCompositionReset (p : PartId) (cause : ResetCause) {s : State} (h_s : Keep qq s) :
    KeepO qq (execCompositionReset p cause s) := by
  unfold execCompositionReset
  repeat' (first | (with_reducible first | assumption | apply keepO_next | apply keep_memberGone | apply keep_resetStart | apply keep_setSt | apply keep_resetGo | apply keep_modPart | apply keep_resetLocal | apply keep_ite) | intro _ | simp only [keep_mk] | split)

theorem keep_execSwitchInRequest (p : PartId) (at_ : W64) {s : State} (h_s : Keep qq s) :
    KeepO qq (execSwitchInRequest p at_ s) := by
  unfold execSwitchInRequest
  repeat' (first | (with_reducible first | assumption | apply keepO_next | apply keepO_ite | exact keepO_fault | apply keepC_of | apply keep_grantSwitches | apply keep_ite | apply keep_pite | refine keep_fst (by assumption) ?_) | intro _ | simp only [keep_mk] | split | extract_lets | simp +zetaDelta only [keep_mk])

theorem keep_execQuantumExpiry (p : PartId) {s : State} (h_s : Keep qq s) :
    KeepO qq (execQuantumExpiry p s) := by
  unfold execQuantumExpiry
  repeat' (first | (with_reducible first | assumption | apply keepO_next | apply keep_grantSwitches | apply keep_modPart | apply keep_ite) | intro _)

theorem keep_execLaunchComplete (p : PartId) {s : State} (h_s : Keep qq s) :
    KeepO qq (execLaunchComplete p s) := by
  unfold execLaunchComplete
  repeat' (first | (with_reducible first | assumption | apply keepO_next | apply keep_tellMembers | apply keep_launchComplete | apply keep_pauseStart | apply keep_modPart | apply keep_grantSwitches | apply keep_ite) | intro _ | simp only [keep_mk] | split)

theorem keep_setPages {s : State} (v : Option PoolPage) (a3 : List Nat) (h_s : Keep qq s) :
    Keep qq (State.setPages s v a3) := by
  revert h_s
  fun_induction State.setPages s v a3
  all_goals intros
  all_goals (repeat' (first | (with_reducible first | assumption | apply keep_setPoolPage | apply keep_ite) | intro _ | apply_assumption))

theorem keep_execCmpPoolAdd (v : W32) {s : State} (h_s : Keep qq s) :
    KeepO qq (execCmpPoolAdd v s) := by
  unfold execCmpPoolAdd
  repeat' (first | (with_reducible first | assumption | apply keepO_next | apply keep_newKey | apply keep_setRegion | apply keep_setPages | apply keep_setGroup | apply keep_ite) | intro _)

theorem keep_execCmpPoolRemove (v : W32) {s : State} (h_s : Keep qq s) :
    KeepO qq (execCmpPoolRemove v s) := by
  unfold execCmpPoolRemove
  repeat' (first | (with_reducible first | assumption | apply keepO_next | apply keep_freeIfEmpty | apply keep_setRegion | apply keep_setPages | apply keep_ite) | intro _)

theorem keep_modPanel {s : State} (f : Panel → Panel) (h_s : Keep qq s) :
    Keep qq (State.modPanel s f) := h_s

theorem keep_panelNote {s : State} (bit : Nat) (event : Nat) (code : Nat) (value : Nat) (h_s : Keep qq s) :
    Keep qq (State.panelNote s bit event code value) := by
  unfold State.panelNote
  repeat' (first | (with_reducible first | assumption | apply keep_panelRecord | apply keep_svcEvt | apply keep_ite) | intro _)

theorem keep_panelOnly {s : State} (event : Nat) (code : Nat) (value : Nat) (h_s : Keep qq s) :
    Keep qq (State.panelOnly s event code value) := by
  unfold State.panelOnly
  repeat' (first | (with_reducible first | assumption | apply keep_panelRecord | apply keep_ite) | intro _)

theorem keep_islandLoss {s : State} (h_s : Keep qq s) :
    Keep qq (State.islandLoss s) := h_s

theorem keep_islandCheck {s : State} (h_s : Keep qq s) :
    Keep qq (State.islandCheck s) := by
  unfold State.islandCheck
  repeat' (first | (with_reducible first | assumption | apply keep_islandLoss | apply keep_ite) | intro _)

theorem keep_execDcInputRise (absent : Nat) {s : State} (h_s : Keep qq s) :
    KeepO qq (execDcInputRise absent s) := by
  unfold execDcInputRise
  repeat' (first | (with_reducible first | assumption | apply keepO_next | apply keepO_ite | exact keepO_fault | apply keepC_of | apply keep_modPanel | apply keep_ite | apply keep_pite | refine keep_fst (by assumption) ?_) | intro _ | simp only [keep_mk] | split | extract_lets | simp +zetaDelta only [keep_mk])

theorem keep_swapTo {s : State} (a : HotSwap) (b : HotSwap) (h_s : Keep qq s) :
    Keep qq (State.swapTo s a b) := by
  unfold State.swapTo
  repeat' (first | (with_reducible first | assumption | apply keep_modPanel | apply keep_ite) | intro _)

theorem keep_execBulkCharged {s : State} (h_s : Keep qq s) :
    KeepO qq (execBulkCharged s) := by
  unfold execBulkCharged
  repeat' (first | (with_reducible first | assumption | apply keepO_next | apply keep_swapTo | apply keep_ite) | intro _)

theorem keep_execBulkChargeTimeout {s : State} (h_s : Keep qq s) :
    KeepO qq (execBulkChargeTimeout s) := by
  unfold execBulkChargeTimeout
  repeat' (first | (with_reducible first | assumption | apply keepO_next | apply keep_swapTo | apply keep_ite) | intro _)

theorem keep_execHotSwapRetry {s : State} (h_s : Keep qq s) :
    KeepO qq (execHotSwapRetry s) := by
  unfold execHotSwapRetry
  repeat' (first | (with_reducible first | assumption | apply keepO_next | apply keep_swapTo | apply keep_ite) | intro _)

theorem keep_execUndervoltage (mv : Fin 65536) {s : State} (h_s : Keep qq s) :
    KeepO qq (execUndervoltage mv s) := by
  unfold execUndervoltage
  repeat' (first | (with_reducible first | assumption | apply keepO_next | apply keep_panelNote | apply keep_modPanel | apply keep_ite) | intro _)

theorem keep_execUndervoltageCleared {s : State} (h_s : Keep qq s) :
    KeepO qq (execUndervoltageCleared s) := by
  unfold execUndervoltageCleared
  repeat' (first | (with_reducible first | assumption | apply keepO_next | apply keep_modPanel | apply keep_ite) | intro _)

theorem keep_powerOff {s : State} (h_s : Keep qq s) :
    Keep qq (State.powerOff s) := by
  unfold State.powerOff
  repeat' (first | (with_reducible first | assumption | apply keep_down | apply keep_ite) | intro _)

theorem keep_execBrownOut {s : State} (h_s : Keep qq s) :
    KeepO qq (execBrownOut s) := by
  unfold execBrownOut
  repeat' (first | (with_reducible first | assumption | apply keepO_next | apply keep_islandCheck | apply keep_modPanel | apply keep_powerOff | apply keep_ite) | intro _)

theorem keep_execOvervoltage {s : State} (h_s : Keep qq s) :
    KeepO qq (execOvervoltage s) := by
  unfold execOvervoltage
  repeat' (first | (with_reducible first | assumption | apply keepO_next | apply keep_modPanel | apply keep_powerOff | apply keep_ite) | intro _)

theorem keep_execOvervoltReclose {s : State} (h_s : Keep qq s) :
    KeepO qq (execOvervoltReclose s) := by
  unfold execOvervoltReclose
  repeat' (first | (with_reducible first | assumption | apply keepO_next | apply keep_swapTo | apply keep_ite) | intro _)

theorem keep_execInputReversal {s : State} (h_s : Keep qq s) :
    KeepO qq (execInputReversal s) := by
  unfold execInputReversal
  repeat' (first | (with_reducible first | assumption | apply keepO_next | apply keep_modPanel | apply keep_ite) | intro _)

theorem keep_execButtonRelease (ms : Nat) {s : State} (h_s : Keep qq s) :
    KeepO qq (execButtonRelease ms s) := by
  unfold execButtonRelease
  repeat' (first | (with_reducible first | assumption | apply keepO_next | apply keep_modPanel | apply keep_panelNote | apply keep_warmNotice | apply keep_ite) | intro _)

theorem keep_execButtonHold8s (up : Nat) {s : State} (h_s : Keep qq s) :
    KeepO qq (execButtonHold8s up s) := by
  unfold execButtonHold8s
  repeat' (first | (with_reducible first | assumption | apply keepO_next | apply keepO_ite | exact keepO_fault | apply keepC_of | apply keep_modPanel | apply keep_hardReset | apply keep_ite | apply keep_pite | refine keep_fst (by assumption) ?_) | intro _ | simp only [keep_mk] | split | extract_lets | simp +zetaDelta only [keep_mk])

theorem keep_execButtonStuck {s : State} (h_s : Keep qq s) :
    KeepO qq (execButtonStuck s) := by
  unfold execButtonStuck
  repeat' (first | (with_reducible first | assumption | apply keepO_next | apply keep_panelNote | apply keep_modPanel | apply keep_ite) | intro _)

theorem keep_execButtonUnstuck {s : State} (h_s : Keep qq s) :
    KeepO qq (execButtonUnstuck s) := by
  unfold execButtonUnstuck
  repeat' (first | (with_reducible first | assumption | apply keepO_next | apply keep_modPanel | apply keep_ite) | intro _)

theorem keep_locate {s : State} (v : Nat) (h_s : Keep qq s) :
    Keep qq (State.locate s v) := by
  unfold State.locate
  repeat' (first | (with_reducible first | assumption | apply keep_setReg | apply keep_modPanel | apply keep_panelOnly | apply keep_ite) | intro _)

theorem keep_execLocateTouch {s : State} (h_s : Keep qq s) :
    KeepO qq (execLocateTouch s) := by
  unfold execLocateTouch
  repeat' (first | (with_reducible first | assumption | apply keepO_next | apply keep_locate | apply keep_ite) | intro _)

theorem keep_execSvcLocate (mctp : Bool) (v : W32) {s : State} (h_s : Keep qq s) :
    KeepO qq (execSvcLocate mctp v s) := by
  unfold execSvcLocate
  repeat' (first | (with_reducible first | assumption | apply keepO_next | apply keep_locate | apply keep_ite) | intro _)

theorem keep_execLocateTimeout {s : State} (h_s : Keep qq s) :
    KeepO qq (execLocateTimeout s) := by
  unfold execLocateTimeout
  repeat' (first | (with_reducible first | assumption | apply keepO_next | apply keep_locate | apply keep_ite) | intro _)

theorem keep_cellTo {s : State} (st : CellSt) (mv : Nat) (cur : Nat) (note : Option Nat) (h_s : Keep qq s) :
    Keep qq (State.cellTo s st mv cur note) := by
  unfold State.cellTo
  repeat' (first | (with_reducible first | assumption | apply keep_modPanel | apply keep_panelNote | apply keep_islandCheck | apply keep_coverage | apply keep_ite) | intro _ | simp only [keep_mk] | split)

theorem keep_chargeAt {s : State} (mv : Nat) (h_s : Keep qq s) :
    Keep qq (State.chargeAt s mv) := by
  unfold State.chargeAt
  repeat' (first | (with_reducible first | assumption | apply keep_cellTo | apply keep_draw | apply keep_ite) | intro _)

theorem keep_execCellInserted (mv : Fin 65536) {s : State} (h_s : Keep qq s) :
    KeepO qq (execCellInserted mv s) := by
  unfold execCellInserted
  repeat' (first | (with_reducible first | assumption | apply keepO_next | apply keep_cellTo | apply keep_ite) | intro _)

theorem keep_chargeCell {s : State} (mv : Nat) (h_s : Keep qq s) :
    Keep qq (State.chargeCell s mv) := by
  unfold State.chargeCell
  repeat' (first | (with_reducible first | assumption | apply keep_chargeAt | apply keep_cellTo | apply keep_ite) | intro _)

theorem keep_execCellSettled (mv : Fin 65536) {s : State} (h_s : Keep qq s) :
    KeepO qq (execCellSettled mv s) := by
  unfold execCellSettled
  repeat' (first | (with_reducible first | assumption | apply keepO_next | apply keep_chargeCell | apply keep_ite) | intro _)

theorem keep_execCellRemoved {s : State} (h_s : Keep qq s) :
    KeepO qq (execCellRemoved s) := by
  unfold execCellRemoved
  repeat' (first | (with_reducible first | assumption | apply keepO_next | apply keep_cellTo | apply keep_ite) | intro _)

theorem keep_execCellReversed {s : State} (h_s : Keep qq s) :
    KeepO qq (execCellReversed s) := by
  unfold execCellReversed
  repeat' (first | (with_reducible first | assumption | apply keepO_next | apply keep_cellTo | apply keep_ite) | intro _)

theorem keep_execCellFull (mv : Fin 65536) {s : State} (h_s : Keep qq s) :
    KeepO qq (execCellFull mv s) := by
  unfold execCellFull
  repeat' (first | (with_reducible first | assumption | apply keepO_next | apply keep_cellTo | apply keep_ite) | intro _)

theorem keep_execCellRecharge (mv : Fin 65536) {s : State} (h_s : Keep qq s) :
    KeepO qq (execCellRecharge mv s) := by
  unfold execCellRecharge
  repeat' (first | (with_reducible first | assumption | apply keepO_next | apply keep_chargeCell | apply keep_ite) | intro _)

theorem keep_execCellFault (mv : Fin 65536) {s : State} (h_s : Keep qq s) :
    KeepO qq (execCellFault mv s) := by
  unfold execCellFault
  repeat' (first | (with_reducible first | assumption | apply keepO_next | apply keep_cellTo | apply keep_ite) | intro _ | simp only [keep_mk] | split)

theorem keep_execCellVoltageThreshold (mv : Fin 65536) {s : State} (h_s : Keep qq s) :
    KeepO qq (execCellVoltageThreshold mv s) := by
  unfold execCellVoltageThreshold
  repeat' (first | (with_reducible first | assumption | apply keepO_next | apply keep_chargeAt | apply keep_cellTo | apply keep_ite) | intro _ | simp only [keep_mk] | split)

theorem keep_execChargeEn (mctp : Bool) (on : Bool) {s : State} (h_s : Keep qq s) :
    KeepO qq (execChargeEn mctp on s) := by
  unfold execChargeEn
  repeat' (first | (with_reducible first | assumption | apply keepO_next | apply keep_setReg | apply keep_chargeCell | apply keep_cellTo | apply keep_ite) | intro _ | simp only [keep_mk] | split)

theorem keep_execIslandPowerLoss {s : State} (h_s : Keep qq s) :
    KeepO qq (execIslandPowerLoss s) := by
  unfold execIslandPowerLoss
  repeat' (first | (with_reducible first | assumption | apply keepO_next | apply keep_islandLoss | apply keep_ite) | intro _)

theorem keep_execSvcRtcSet (mctp : Bool) (v : W64) {s : State} (h_s : Keep qq s) :
    KeepO qq (execSvcRtcSet mctp v s) := by
  unfold execSvcRtcSet
  repeat' (first | (with_reducible first | assumption | apply keepO_next | apply keep_coverage | apply keep_panelOnly | apply keep_modPanel | apply keep_ite) | intro _)

theorem keep_execTamperEvent (plate : Bool) {s : State} (h_s : Keep qq s) :
    KeepO qq (execTamperEvent plate s) := by
  unfold execTamperEvent
  repeat' (first | (with_reducible first | assumption | apply keepO_next | apply keep_modPanel | apply keep_svcEvt | apply keep_secEvent | apply keep_ite) | intro _)

theorem keep_execFabTsCtrl (v : W32) {s : State} (h_s : Keep qq s) :
    KeepO qq (execFabTsCtrl v s) := by
  unfold execFabTsCtrl
  repeat' (first | (with_reducible first | assumption | apply keepO_next | apply keepO_ite | exact keepO_fault | apply keepC_of | apply keep_setReg | apply keep_ite | apply keep_pite | refine keep_fst (by assumption) ?_) | intro _ | simp only [keep_mk] | split | extract_lets | simp +zetaDelta only [keep_mk])

theorem keep_execFabTsSet (v : W64) {s : State} (h_s : Keep qq s) :
    KeepO qq (execFabTsSet v s) := by
  unfold execFabTsSet
  repeat' (first | (with_reducible first | assumption | apply keepO_next | apply keepO_ite | exact keepO_fault | apply keepC_of | apply keep_ite | apply keep_pite | refine keep_fst (by assumption) ?_) | intro _ | simp only [keep_mk] | split | extract_lets | simp +zetaDelta only [keep_mk])

theorem keep_restartTime {s : State} (ctrl : Nat) (h_s : Keep qq s) :
    Keep qq (State.restartTime s ctrl) := by
  unfold State.restartTime
  repeat' (first | (with_reducible first | assumption | apply keepC_of | apply keep_ite | apply keep_pite | refine keep_fst (by assumption) ?_) | intro _ | simp only [keep_mk] | split | extract_lets | simp +zetaDelta only [keep_mk])

theorem keep_applyTsCtrl {s : State} (h_s : Keep qq s) :
    Keep qq (State.applyTsCtrl s) := by
  unfold State.applyTsCtrl
  repeat' (first | (with_reducible first | assumption | apply keepC_of | apply keep_restartTime | apply keep_ite | apply keep_pite | refine keep_fst (by assumption) ?_) | intro _ | simp only [keep_mk] | split | extract_lets | simp +zetaDelta only [keep_mk])

theorem keep_execTimeSend (i : LinkId) (frac : Fin 16) {s : State} (h_s : Keep qq s) :
    KeepO qq (execTimeSend i frac s) := by
  unfold execTimeSend
  repeat' (first | (with_reducible first | assumption | apply keepO_next | apply keep_applyTsCtrl | apply keep_control | apply keep_setLnk | apply keep_ite) | intro _)

theorem keep_acquireBy {s : State} (o : Int) (h_s : Keep qq s) :
    Keep qq (State.acquireBy s o) := by
  unfold State.acquireBy
  repeat' (first | (with_reducible first | assumption | apply keepC_of | apply keep_ite | apply keep_pite | refine keep_fst (by assumption) ?_) | intro _ | simp only [keep_mk] | split | extract_lets | simp +zetaDelta only [keep_mk])

theorem keep_steer {s : State} (o : Int) (h_s : Keep qq s) :
    Keep qq (State.steer s o) := by
  unfold State.steer
  repeat' (first | (with_reducible first | assumption | apply keepC_of | apply keep_acquireBy | apply keep_ite | apply keep_pite | refine keep_fst (by assumption) ?_) | intro _ | simp only [keep_mk] | split | extract_lets | simp +zetaDelta only [keep_mk])

theorem keep_execTime (i : LinkId) (payload : BitVec 128) (frac : Fin 16) (cctr : Fin (2 ^ 48)) (mac : W64) {s : State} (h_s : Keep qq s) :
    KeepO qq (execTime i payload frac cctr mac s) := by
  unfold execTime
  repeat' (first | (with_reducible first | assumption | apply keepO_next | apply keepO_ite | exact keepO_fault | apply keepC_of | apply keep_onWord | apply keep_parentUp | apply keep_setLnk | apply keep_steer | apply keep_mctpEvent | apply keep_ledger | apply keep_ite | apply keep_pite | refine keep_fst (by assumption) ?_) | intro _ | simp only [keep_mk] | split | extract_lets | simp +zetaDelta only [keep_mk])

theorem keep_execTimeLock {s : State} (h_s : Keep qq s) :
    KeepO qq (execTimeLock s) := by
  unfold execTimeLock
  repeat' (first | (with_reducible first | assumption | apply keepO_next | apply keepO_ite | exact keepO_fault | apply keepC_of | apply keep_ite | apply keep_pite | refine keep_fst (by assumption) ?_) | intro _ | simp only [keep_mk] | split | extract_lets | simp +zetaDelta only [keep_mk])

theorem keep_execHoldoverEntry {s : State} (h_s : Keep qq s) :
    KeepO qq (execHoldoverEntry s) := by
  unfold execHoldoverEntry
  repeat' (first | (with_reducible first | assumption | apply keepO_next | apply keepO_ite | exact keepO_fault | apply keepC_of | apply keep_ite | apply keep_pite | refine keep_fst (by assumption) ?_) | intro _ | simp only [keep_mk] | split | extract_lets | simp +zetaDelta only [keep_mk])

theorem keep_execHoldoverExpiry {s : State} (h_s : Keep qq s) :
    KeepO qq (execHoldoverExpiry s) := by
  unfold execHoldoverExpiry
  repeat' (first | (with_reducible first | assumption | apply keepO_next | apply keepO_ite | exact keepO_fault | apply keepC_of | apply keep_restartTime | apply keep_ite | apply keep_pite | refine keep_fst (by assumption) ?_) | intro _ | simp only [keep_mk] | split | extract_lets | simp +zetaDelta only [keep_mk])

theorem keep_execRootConflictClear {s : State} (h_s : Keep qq s) :
    KeepO qq (execRootConflictClear s) := by
  unfold execRootConflictClear
  repeat' (first | (with_reducible first | assumption | apply keepO_next | apply keepO_ite | exact keepO_fault | apply keepC_of | apply keep_ite | apply keep_pite | refine keep_fst (by assumption) ?_) | intro _ | simp only [keep_mk] | split | extract_lets | simp +zetaDelta only [keep_mk])

theorem keep_execTimestampDistribute {s : State} (h_s : Keep qq s) :
    KeepO qq (execTimestampDistribute s) := by
  unfold execTimestampDistribute
  repeat' (first | (with_reducible first | assumption | apply keepO_next | apply keepO_ite | exact keepO_fault | apply keepC_of | apply keep_ite | apply keep_pite | refine keep_fst (by assumption) ?_) | intro _ | simp only [keep_mk] | split | extract_lets | simp +zetaDelta only [keep_mk])

theorem keep_setHostDown {s : State} (on : Bool) (h_s : Keep qq s) :
    Keep qq (State.setHostDown s on) := h_s

theorem keep_execWalkEnd (m : EngPort) (p : PartId) (va : Fin 4503599627370496) (write : Bool) (hostErr : Bool) {s : State} (h_s : Keep qq s) :
    KeepO qq (execWalkEnd m p va write hostErr s) := by
  unfold execWalkEnd
  repeat' (first | (with_reducible first | assumption | apply keepO_next | apply keep_setHostDown | apply keep_translate | apply keep_ite) | intro _)

theorem keep_syncInv {s : State} (p : Nat) (h_s : Keep qq s) :
    Keep qq (State.syncInv s p) := by
  unfold State.syncInv
  repeat' (first | (with_reducible first | assumption | apply keep_setReg | apply keep_ite) | intro _)

theorem keep_execXltInvCmd (p : PartId) (cmd : W64) (viaVf : Bool) {s : State} (h_s : Keep qq s) :
    KeepO qq (execXltInvCmd p cmd viaVf s) := by
  unfold execXltInvCmd
  repeat' (first | (with_reducible first | assumption | apply keepO_next | apply keep_syncInv | apply keep_setInv | apply keep_setBits | apply keep_ite) | intro _)

theorem keep_revokeUnmapped {s : State} (p : Nat) (cmd : Nat) (a4 : List (Nat × InWin)) (h_s : Keep qq s) :
    Keep qq (State.revokeUnmapped s p cmd a4) := by
  revert h_s
  fun_induction State.revokeUnmapped s p cmd a4
  all_goals intros
  all_goals (repeat' (first | (with_reducible first | assumption | apply keep_setInWin | apply keep_ite) | intro _ | apply_assumption))

theorem keep_execInvalidationDone (p : PartId) {s : State} (h_s : Keep qq s) :
    KeepO qq (execInvalidationDone p s) := by
  unfold execInvalidationDone
  repeat' (first | (with_reducible first | assumption | apply keepO_next | apply keep_setInv | apply keep_dropXlt | apply keep_revokeUnmapped | apply keep_syncInv | apply keep_setReg | apply keep_ite) | intro _ | simp only [keep_mk] | split)

theorem keep_execXltInvStatRead (p : PartId) {s : State} (h_s : Keep qq s) :
    KeepO qq (execXltInvStatRead p s) := by
  unfold execXltInvStatRead
  repeat' (first | (with_reducible first | assumption | apply keepO_next | apply keep_setReg | apply keep_emit | apply keep_ite) | intro _)

theorem keep_execAtsInvalidationRequest (fn : FnId) (iova : W64) (size : W64) {s : State} (h_s : Keep qq s) :
    KeepO qq (execAtsInvalidationRequest fn iova size s) := by
  unfold execAtsInvalidationRequest
  repeat' (first | (with_reducible first | assumption | apply keepO_next | apply keepO_ite | exact keepO_fault | apply keepC_of | apply keep_emit | apply keep_ite | apply keep_pite | refine keep_fst (by assumption) ?_) | intro _ | simp only [keep_mk] | split | extract_lets | simp +zetaDelta only [keep_mk])

theorem keep_execAtsTranslationCompletion (fn : FnId) (iova : W64) (size : W64) (target : W64) (ok : Bool) {s : State} (h_s : Keep qq s) :
    KeepO qq (execAtsTranslationCompletion fn iova size target ok s) := by
  unfold execAtsTranslationCompletion
  repeat' (first | (with_reducible first | assumption | apply keepO_next | apply keepO_ite | exact keepO_fault | apply keepC_of | apply keep_ite | apply keep_pite | refine keep_fst (by assumption) ?_) | intro _ | simp only [keep_mk] | split | extract_lets | simp +zetaDelta only [keep_mk])

theorem keep_stateOf {s : State} {o : Out} (h : Keep qq s) (ho : KeepO qq o) : Keep qq (stateOf s o) := by
  cases o with
  | next t => exact ho t rfl
  | fault r => exact h
  | refused r => exact h

theorem keep_putReg {s : State} (k : Nat) (v : Nat) (m : Nat) (ok : Bool) (h_s : Keep qq s) :
    Keep qq (State.putReg s k v m ok) := by
  unfold State.putReg
  repeat' (first | (with_reducible first | assumption | apply keep_setReg | apply keep_ite) | intro _)

theorem keep_writeHif {s : State} (f : Nat) (b : Nat) (i : Nat) (k : Nat) (v : Nat) (m : Nat) (h_s : Keep qq s) :
    Keep qq (State.writeHif s f b i k v m) := by
  unfold State.writeHif
  repeat' (first | (with_reducible first | assumption | apply keep_putReg | apply keep_stateOf | apply keep_execHifSqCfg | apply keep_execHifCqCfg | apply keep_sendEvents | apply keep_setReg | apply keep_ite) | intro _)

theorem keep_writeCmp {s : State} (b : Nat) (i : Nat) (k : Nat) (v : Nat) (m : Nat) (h_s : Keep qq s) :
    Keep qq (State.writeCmp s b i k v m) := by
  unfold State.writeCmp
  repeat' (first | (with_reducible first | assumption | apply keep_stateOf | apply keep_execRebindRequest | apply keep_putReg | apply keep_execCmpPoolAdd | apply keep_execCmpPoolRemove | apply keep_ite) | intro _)

theorem keep_zeroKeys {s : State} (a2 : List Nat) (h_s : Keep qq s) :
    Keep qq (State.zeroKeys s a2) := by
  revert h_s
  fun_induction State.zeroKeys s a2
  all_goals intros
  all_goals (repeat' (first | (with_reducible first | assumption | apply keep_setReg | apply keep_ite) | intro _ | apply_assumption))

theorem keep_writeSeq {s : State} (b : Nat) (i : Nat) (v : Nat) (h_s : Keep qq s) :
    Keep qq (State.writeSeq s b i v) := by
  unfold State.writeSeq
  repeat' (first | (with_reducible first | assumption | apply keep_zeroKeys | apply keep_modClu | apply keep_ite) | intro _)

theorem keep_writeMem {s : State} (k : Nat) (v : Nat) (h_s : Keep qq s) :
    Keep qq (State.writeMem s k v) := h_s

theorem keep_writeQos {s : State} (b : Nat) (i : Nat) (k : Nat) (v : Nat) (m : Nat) (h_s : Keep qq s) :
    Keep qq (State.writeQos s b i k v m) := by
  unfold State.writeQos
  repeat' (first | (with_reducible first | assumption | apply keep_putReg | apply keep_clearBits | apply keep_ite) | intro _)

theorem keep_writeXlt {s : State} (vf : Bool) (b : Nat) (i : Nat) (k : Nat) (v : Nat) (m : Nat) (h_s : Keep qq s) :
    Keep qq (State.writeXlt s vf b i k v m) := by
  unfold State.writeXlt
  repeat' (first | (with_reducible first | assumption | apply keep_putReg | apply keep_clearBits | apply keep_stateOf | apply keep_execXltInvCmd | apply keep_ite) | intro _)

theorem keep_writeRteCtrl {s : State} (v : Nat) (h_s : Keep qq s) :
    Keep qq (State.writeRteCtrl s v) := by
  unfold State.writeRteCtrl
  repeat' (first | (with_reducible first | assumption | apply keep_setBits | apply keep_clearBits | apply keep_stateOf | apply keep_execStageReady | apply keep_execCommit | apply keep_ite) | intro _)

theorem keep_writeFab {s : State} (b : Nat) (i : Nat) (j : Nat) (k : Nat) (v : Nat) (m : Nat) (h_s : Keep qq s) :
    Keep qq (State.writeFab s b i j k v m) := by
  unfold State.writeFab
  repeat' (first | (with_reducible first | assumption | apply keepC_of | apply keep_stateOf | apply keep_execFabId | apply keep_putReg | apply keep_writeRteCtrl | apply keep_execFabCntClear | apply keep_execFabTsCtrl | apply keep_execFabTsSet | apply keep_ite | apply keep_pite | refine keep_fst (by assumption) ?_) | intro _ | simp only [keep_mk] | split | extract_lets | simp +zetaDelta only [keep_mk])

theorem keep_writeLnkCtrl {s : State} (i : Nat) (v : Nat) (h_s : Keep qq s) :
    Keep qq (State.writeLnkCtrl s i v) := by
  unfold State.writeLnkCtrl
  repeat' (first | (with_reducible first | assumption | apply keep_stateOf | apply keep_execQuarForce | apply keep_execEnable | apply keep_execQuarClear | apply keep_execRetrain | apply keep_ite) | intro _)

theorem keep_writeLnk {s : State} (b : Nat) (i : Nat) (v : Nat) (h_s : Keep qq s) :
    Keep qq (State.writeLnk s b i v) := by
  unfold State.writeLnk
  repeat' (first | (with_reducible first | assumption | apply keep_writeLnkCtrl | apply keep_stateOf | apply keep_execLnkExpect | apply keep_ite) | intro _)

theorem keep_writeDbg {s : State} (f : Nat) (p : Nat) (v : Nat) (h_s : Keep qq s) :
    Keep qq (State.writeDbg s f p v) := by
  unfold State.writeDbg
  repeat' (first | (with_reducible first | assumption | apply keep_stateOf | apply keep_execDbgSet | apply keep_execDbgAdd | apply keep_execDbgRelease | apply keep_execDbgClearFault | apply keep_ite) | intro _)

theorem keep_writeSyn {s : State} (f : Nat) (b : Nat) (i : Nat) (k : Nat) (v : Nat) (m : Nat) (h_s : Keep qq s) :
    Keep qq (State.writeSyn s f b i k v m) := by
  unfold State.writeSyn
  repeat' (first | (with_reducible first | assumption | apply keep_stateOf | apply keep_execStateDump | apply keep_putReg | apply keep_writeDbg | apply keep_ite) | intro _)

theorem keep_writePwr {s : State} (mctp : Bool) (b : Nat) (k : Nat) (v : Nat) (m : Nat) (h_s : Keep qq s) :
    Keep qq (State.writePwr s mctp b k v m) := by
  unfold State.writePwr
  repeat' (first | (with_reducible first | assumption | apply keep_stateOf | apply keep_execPwrCap | apply keep_setReg | apply keep_clearBits | apply keep_execPwrSlackClear | apply keep_ite) | intro _)

theorem keep_writeSec {s : State} (k : Nat) (v : Nat) (m : Nat) (h_s : Keep qq s) :
    Keep qq (State.writeSec s k v m) := by
  unfold State.writeSec
  repeat' (first | (with_reducible first | assumption | apply keep_clearBits | apply keep_secAlarm | apply keep_ite) | intro _)

theorem keep_writeErr {s : State} (b : Nat) (i : Nat) (k : Nat) (v : Nat) (m : Nat) (h_s : Keep qq s) :
    Keep qq (State.writeErr s b i k v m) := by
  unfold State.writeErr
  repeat' (first | (with_reducible first | assumption | apply keep_putReg | apply keep_stateOf | apply keep_execSample | apply keep_execCompReset | apply keep_execErrCtxReset | apply keep_ite) | intro _)

theorem keep_writeCage {s : State} (c : Nat) (v : Nat) (h_s : Keep qq s) :
    Keep qq (State.writeCage s c v) := by
  unfold State.writeCage
  repeat' (first | (with_reducible first | assumption | apply keep_stateOf | apply keep_execPowerEn | apply keep_execLatchClr | apply keep_execAttnReq | apply keep_execRelease | apply keep_execCancel | apply keep_ite) | intro _)

theorem keep_writeResetCmd {s : State} (mctp : Bool) (v : Nat) (h_s : Keep qq s) :
    Keep qq (State.writeResetCmd s mctp v) := by
  unfold State.writeResetCmd
  repeat' (first | (with_reducible first | assumption | apply keep_stateOf | apply keep_execComputePartReset | apply keep_execModuleWarmReset | apply keep_execModuleHardReset | apply keep_ite) | intro _)

theorem keep_writeSvc {s : State} (mctp : Bool) (b : Nat) (i : Nat) (k : Nat) (v : Nat) (m : Nat) (h_s : Keep qq s) :
    Keep qq (State.writeSvc s mctp b i k v m) := by
  unfold State.writeSvc
  repeat' (first | (with_reducible first | assumption | apply keep_stateOf | apply keep_execSvcLocate | apply keep_execChargeEn | apply keep_execSvcRtcSet | apply keep_writeCage | apply keep_writeResetCmd | apply keep_execSvcResetAck | apply keep_clearBits | apply keep_ite) | intro _)

theorem keep_writeRow {s : State} (via : Via) (r : RegRow) (i : Nat) (j : Nat) (a : Nat) (v : Nat) (h_s : Keep qq s) :
    Keep qq (State.writeRow s via r i j a v) := by
  unfold State.writeRow
  repeat' (first | (with_reducible first | assumption | apply keep_clearBits | apply keep_writeHif | apply keep_writeCmp | apply keep_writeSeq | apply keep_writeMem | apply keep_writeQos | apply keep_writeXlt | apply keep_writeFab | apply keep_writeLnk | apply keep_writeSyn | apply keep_writePwr | apply keep_writeSec | apply keep_writeErr | apply keep_writeSvc | apply keep_ite) | intro _ | simp only [keep_mk] | split)

theorem keep_writeAt {s : State} (via : Via) (r : RegRow) (i : Nat) (j : Nat) (a : Nat) (v : Nat) (h_s : Keep qq s) :
    Keep qq (State.writeAt s via r i j a v) := by
  unfold State.writeAt
  repeat' (first | (with_reducible first | assumption | apply keep_writeRow | apply keep_ite) | intro _)

theorem keep_writeWord {s : State} (via : Via) (a : Nat) (v : Nat) (h_s : Keep qq s) :
    Keep qq (State.writeWord s via a v) := by
  unfold State.writeWord
  repeat' (first | (with_reducible first | assumption | apply keep_writeAt | apply keep_ite) | intro _ | simp only [keep_mk] | split)

theorem keep_writeWide {s : State} (via : Via) (a : Nat) (v : Nat) (h_s : Keep qq s) :
    Keep qq (State.writeWide s via a v) := by
  unfold State.writeWide
  repeat' (first | (with_reducible first | assumption | apply keep_writeAt | apply keep_ite) | intro _ | simp only [keep_mk] | split)

theorem keep_mbServe {s : State} (v : FnId) (h_s : Keep qq s) :
    Keep qq (State.mbServe s v) := by
  unfold State.mbServe
  repeat' (first | (with_reducible first | assumption | apply keep_stateOf | apply keep_execCtxDestroy | apply keep_execCtxReset | apply keep_execCatalogueRead | apply keep_execInfo | apply keep_execCtxCreate | apply keep_ite) | intro _ | simp only [keep_mk] | split)

theorem keep_writeMailbox {s : State} (mgr : Bool) (v : FnId) (o : Nat) (x : Nat) (h_s : Keep qq s) :
    Keep qq (State.writeMailbox s mgr v o x) := by
  unfold State.writeMailbox
  repeat' (first | (with_reducible first | assumption | apply keep_modInst | apply keep_stateOf | apply keep_execMbTomgrAck | apply keep_execMbToinstDb | apply keep_mbServe | apply keep_execMbTomgrDb | apply keep_execMbToinstAck | apply keep_execMbEvtHead | apply keep_ite) | intro _)

theorem keep_writeMsix {s : State} (fn : Nat) (i : Nat) (x : Nat) (h_s : Keep qq s) :
    Keep qq (State.writeMsix s fn i x) := by
  unfold State.writeMsix
  repeat' (first | (with_reducible first | assumption | apply keepC_of | apply keep_emit | apply keep_ite | apply keep_pite | refine keep_fst (by assumption) ?_) | intro _ | simp only [keep_mk] | split | extract_lets | simp +zetaDelta only [keep_mk])

theorem keep_tdiFails {s : State} (a2 : List Nat) (h_s : Keep qq s) :
    Keep qq (State.tdiFails s a2) := by
  revert h_s
  fun_induction State.tdiFails s a2
  all_goals intros
  all_goals (repeat' (first | (with_reducible first | assumption | apply keep_tdiLeave | apply keep_ite) | intro _ | apply_assumption))

theorem keep_execRegisterWrite (t : RegTarget) {s : State} (h_s : Keep qq s) :
    KeepO qq (execRegisterWrite t s) := by
  unfold execRegisterWrite
  repeat' (first | (with_reducible first | assumption | apply keepO_next | apply keepO_ite | exact keepO_fault | apply keepC_of | apply keep_writeWord | apply keep_writeWide | apply keep_writeMailbox | apply keep_writeMsix | apply keep_tdiFails | apply keep_ite | apply keep_pite | refine keep_fst (by assumption) ?_) | intro _ | simp only [keep_mk] | split | extract_lets | simp +zetaDelta only [keep_mk])

theorem keep_readEffect {s : State} (a : Nat) (h_s : Keep qq s) :
    Keep qq (State.readEffect s a) := by
  unfold State.readEffect
  repeat' (first | (with_reducible first | assumption | apply keep_clearBits | apply keep_ite) | intro _ | simp only [keep_mk] | split)

theorem keep_readEffects {s : State} (a : Nat) (a3 : Nat) (h_s : Keep qq s) :
    Keep qq (State.readEffects s a a3) := by
  revert h_s
  fun_induction State.readEffects s a a3
  all_goals intros
  all_goals (repeat' (first | (with_reducible first | assumption | apply keep_readEffect | apply keep_ite) | intro _ | apply_assumption))

theorem keep_execRegRead (bus : Fin 2) (seq : Fin 256) (block : Fin 256) (off : W32) (count : Fin 256) {s : State} (h_s : Keep qq s) :
    KeepO qq (execRegRead bus seq block off count s) := by
  unfold execRegRead
  repeat' (first | (with_reducible first | assumption | apply keepO_next | apply keep_stolReply | apply keep_readEffects | apply keep_ite) | intro _)

theorem keep_writeWords {s : State} (a : Nat) (a3 : List W32) (h_s : Keep qq s) :
    Keep qq (State.writeWords s a a3) := by
  revert h_s
  fun_induction State.writeWords s a a3
  all_goals intros
  all_goals (repeat' (first | (with_reducible first | assumption | apply keep_writeWord | apply keep_writeWide | apply keep_ite) | intro _ | apply_assumption))

theorem keep_execRegWrite (bus : Fin 2) (session : Option (Fin 65536)) (seq : Fin 256) (block : Fin 256) (off : W32) (ws : List W32) {s : State} (h_s : Keep qq s) :
    KeepO qq (execRegWrite bus session seq block off ws s) := by
  unfold execRegWrite
  repeat' (first | (with_reducible first | assumption | apply keepO_next | apply keep_stolReply | apply keep_writeWords | apply keep_ite) | intro _)

theorem keep_controlError {s : State} (kind : Nat) (i : Nat) (x : Nat) (h_s : Keep qq s) :
    Keep qq (State.controlError s kind i x) := by
  unfold State.controlError
  repeat' (first | (with_reducible first | assumption | apply keepC_of | apply keep_msix | apply keep_objReport | apply keep_setObj | apply keep_seqFault | apply keep_setInWin | apply keep_setOutWin | apply keep_resetStart | apply keep_emit | apply keep_ite | apply keep_pite | refine keep_fst (by assumption) ?_) | intro _ | simp only [keep_mk] | split | extract_lets | simp +zetaDelta only [keep_mk])

theorem keep_mendWins {s : State} (h_s : Keep qq s) :
    Keep qq (State.mendWins s) := h_s

theorem keep_struck {s : State} (x : Nat × Nat × Nat) (h_s : Keep qq s) :
    Keep qq (State.struck s x) := by
  unfold State.struck
  repeat' (first | (with_reducible first | assumption | apply keepC_of | apply keep_controlError | apply keep_ite | apply keep_pite | refine keep_fst (by assumption) ?_) | intro _ | simp only [keep_mk] | split | extract_lets | simp +zetaDelta only [keep_mk])

theorem keep_monitorCages {s : State} (a2 : List Nat) (h_s : Keep qq s) :
    Keep qq (State.monitorCages s a2) := by
  revert h_s
  fun_induction State.monitorCages s a2
  all_goals intros
  all_goals (repeat' (first | (with_reducible first | assumption | apply keep_draw | apply keep_setReg | apply keep_ite) | intro _ | apply_assumption))

theorem keep_sampleNoise {s : State} (h_s : Keep qq s) :
    Keep qq (State.sampleNoise s) := by
  unfold State.sampleNoise
  repeat' (first | (with_reducible first | assumption | apply keep_sampleBoth | apply keep_draw | apply keep_ite) | intro _)

theorem keep_idleOn {s : State} (a2 : List Nat) (h_s : Keep qq s) :
    Keep qq (State.idleOn s a2) := by
  revert h_s
  fun_induction State.idleOn s a2
  all_goals intros
  all_goals (repeat' (first | (with_reducible first | assumption | apply keep_control | apply keep_ite) | intro _ | apply_assumption))

theorem keep_tick {s : State} (h_s : Keep qq s) :
    Keep qq (State.tick s) := by
  unfold State.tick
  repeat' (first | (with_reducible first | assumption | apply keepC_of | apply keep_idleOn | apply keep_sampleNoise | apply keep_draw | apply keep_struck | apply keep_walkSteps | apply keep_mendWins | apply keep_monitorCages | apply keep_ite | apply keep_pite | refine keep_fst (by assumption) ?_) | intro _ | simp only [keep_mk] | split | extract_lets | simp +zetaDelta only [keep_mk])

theorem keep_countVx {s : State} (c : Nat) (h_s : Keep qq s) :
    Keep qq (State.countVx s c) := h_s

theorem keep_vxStep {s : State} (c : Nat) (ok : Bool) (f : Core → Core) (h_s : Keep qq s) :
    Keep qq (State.vxStep s c ok f) := by
  unfold State.vxStep
  repeat' (first | (with_reducible first | assumption | apply keep_issue | apply keep_countVx | apply keep_modCore | apply keep_seqFault | apply keep_ite) | intro _)

theorem keep_fpStep {s : State} (c : Nat) (w : StepWord) (f : Val → Val → Val → Val) (h_s : Keep qq s) :
    Keep qq (State.fpStep s c w f) := by
  unfold State.fpStep
  repeat' (first | (with_reducible first | assumption | apply keep_vxStep | apply keep_ite) | intro _)

theorem keep_execVfma (c : CoreId) (w : StepWord) {s : State} (h_s : Keep qq s) :
    KeepO qq (execVfma c w s) := by
  unfold execVfma
  repeat' (first | (with_reducible first | assumption | apply keepO_next | apply keep_fpStep | apply keep_ite) | intro _)

theorem keep_execVadd (c : CoreId) (w : StepWord) {s : State} (h_s : Keep qq s) :
    KeepO qq (execVadd c w s) := by
  unfold execVadd
  repeat' (first | (with_reducible first | assumption | apply keepO_next | apply keep_fpStep | apply keep_ite) | intro _)

theorem keep_execVsub (c : CoreId) (w : StepWord) {s : State} (h_s : Keep qq s) :
    KeepO qq (execVsub c w s) := by
  unfold execVsub
  repeat' (first | (with_reducible first | assumption | apply keepO_next | apply keep_fpStep | apply keep_ite) | intro _)

theorem keep_execVmul (c : CoreId) (w : StepWord) {s : State} (h_s : Keep qq s) :
    KeepO qq (execVmul c w s) := by
  unfold execVmul
  repeat' (first | (with_reducible first | assumption | apply keepO_next | apply keep_fpStep | apply keep_ite) | intro _)

theorem keep_execVneg (c : CoreId) (w : StepWord) {s : State} (h_s : Keep qq s) :
    KeepO qq (execVneg c w s) := by
  unfold execVneg
  repeat' (first | (with_reducible first | assumption | apply keepO_next | apply keep_fpStep | apply keep_ite) | intro _)

theorem keep_execVabs (c : CoreId) (w : StepWord) {s : State} (h_s : Keep qq s) :
    KeepO qq (execVabs c w s) := by
  unfold execVabs
  repeat' (first | (with_reducible first | assumption | apply keepO_next | apply keep_fpStep | apply keep_ite) | intro _)

theorem keep_execVmin (c : CoreId) (w : StepWord) {s : State} (h_s : Keep qq s) :
    KeepO qq (execVmin c w s) := by
  unfold execVmin
  repeat' (first | (with_reducible first | assumption | apply keepO_next | apply keep_vxStep | apply keep_ite) | intro _)

theorem keep_execVmax (c : CoreId) (w : StepWord) {s : State} (h_s : Keep qq s) :
    KeepO qq (execVmax c w s) := by
  unfold execVmax
  repeat' (first | (with_reducible first | assumption | apply keepO_next | apply keep_vxStep | apply keep_ite) | intro _)

theorem keep_execVcmp (c : CoreId) (w : StepWord) {s : State} (h_s : Keep qq s) :
    KeepO qq (execVcmp c w s) := by
  unfold execVcmp
  repeat' (first | (with_reducible first | assumption | apply keepO_next | apply keep_vxStep | apply keep_ite) | intro _)

theorem keep_execVselect (c : CoreId) (w : StepWord) {s : State} (h_s : Keep qq s) :
    KeepO qq (execVselect c w s) := by
  unfold execVselect
  repeat' (first | (with_reducible first | assumption | apply keepO_next | apply keep_vxStep | apply keep_ite) | intro _)

theorem keep_execVint (c : CoreId) (w : StepWord) {s : State} (h_s : Keep qq s) :
    KeepO qq (execVint c w s) := by
  unfold execVint
  repeat' (first | (with_reducible first | assumption | apply keepO_next | apply keep_vxStep | apply keep_ite) | intro _)

theorem keep_execVred (c : CoreId) (w : StepWord) {s : State} (h_s : Keep qq s) :
    KeepO qq (execVred c w s) := by
  unfold execVred
  repeat' (first | (with_reducible first | assumption | apply keepO_next | apply keep_vxStep | apply keep_ite) | intro _)

theorem keep_execVperm (c : CoreId) (w : StepWord) {s : State} (h_s : Keep qq s) :
    KeepO qq (execVperm c w s) := by
  unfold execVperm
  repeat' (first | (with_reducible first | assumption | apply keepO_next | apply keep_vxStep | apply keep_ite) | intro _)

theorem keep_execVld (c : CoreId) (w : StepWord) (upset : Option (Fin 1048576)) {s : State} (h_s : Keep qq s) :
    KeepO qq (execVld c w upset s) := by
  unfold execVld
  repeat' (first | (with_reducible first | assumption | apply keepO_next | apply keep_issue | apply keep_upset | apply keep_seqFault | apply keep_countPoison | apply keep_countVx | apply keep_modCore | apply keep_ite) | intro _)

theorem keep_storeLanes {s : State} (c : Nat) (m : Nat) (off : Nat) (a5 : Nat) (a6 : List Nat) (h_s : Keep qq s) :
    Keep qq (State.storeLanes s c m off a5 a6) := by
  revert h_s
  fun_induction State.storeLanes s c m off a5 a6
  all_goals intros
  all_goals (repeat' (first | (with_reducible first | assumption | apply keep_spadWrite | apply keep_ite) | intro _ | simp only [keep_mk] | split | apply_assumption))

theorem keep_storeAll {s : State} (c : Nat) (off : Nat) (ws : List Nat) (h_s : Keep qq s) :
    Keep qq (State.storeAll s c off ws) := by
  unfold State.storeAll
  repeat' (first | (with_reducible first | assumption | apply keep_spadWrite | apply keep_ite) | intro _)

theorem keep_execVst (c : CoreId) (w : StepWord) {s : State} (h_s : Keep qq s) :
    KeepO qq (execVst c w s) := by
  unfold execVst
  repeat' (first | (with_reducible first | assumption | apply keepO_next | apply keep_issue | apply keep_seqFault | apply keep_countVx | apply keep_storeLanes | apply keep_storeAll | apply keep_ite) | intro _)

theorem keep_execVtrn (c : CoreId) (w : StepWord) {s : State} (h_s : Keep qq s) :
    KeepO qq (execVtrn c w s) := by
  unfold execVtrn
  repeat' (first | (with_reducible first | assumption | apply keepO_next | apply keep_vxStep | apply keep_ite) | intro _)

theorem keep_execSetsel (c : CoreId) (w : StepWord) {s : State} (h_s : Keep qq s) :
    KeepO qq (execSetsel c w s) := by
  unfold execSetsel
  repeat' (first | (with_reducible first | assumption | apply keepO_next | apply keep_issue | apply keep_modCore | apply keep_ite) | intro _)

theorem keep_execVimm (c : CoreId) (w : StepWord) {s : State} (h_s : Keep qq s) :
    KeepO qq (execVimm c w s) := by
  unfold execVimm
  repeat' (first | (with_reducible first | assumption | apply keepO_next | apply keep_vxStep | apply keep_ite) | intro _)

theorem keep_execVcvt (c : CoreId) (w : StepWord) {s : State} (h_s : Keep qq s) :
    KeepO qq (execVcvt c w s) := by
  unfold execVcvt
  repeat' (first | (with_reducible first | assumption | apply keepO_next | apply keep_issue | apply keep_seqFault | apply keep_countVx | apply keep_modCore | apply keep_ite) | intro _ | simp only [keep_mk] | split)

end Sys2Proof.Laws
end

