-- ==== Sys2Proof/Laws/State.lean ====
section
/-! SUPPORT. What each update of the state leaves as it was: one theorem for each update, one conjunct for each other field; and
the value read back after a write of the same key or of another one. -/
namespace Sys2Proof.Laws

open Machine

variable (s : State)

@[simp] theorem setReg_frame (k v : Nat) :
    (s.setReg k v).pending = s.pending ∧ (s.setReg k v).out = s.out ∧ (s.setReg k v).freeCtr = s.freeCtr ∧
    (s.setReg k v).host = s.host ∧ (s.setReg k v).now = s.now ∧ (s.setReg k v).cores = s.cores ∧ (s.setReg k v).spad = s.spad ∧
    (s.setReg k v).spadWritten = s.spadWritten ∧ (s.setReg k v).spadPoison = s.spadPoison ∧
    (s.setReg k v).engines = s.engines ∧ (s.setReg k v).buckets = s.buckets ∧ (s.setReg k v).hbm = s.hbm ∧
    (s.setReg k v).poison = s.poison ∧ (s.setReg k v).tags = s.tags ∧ (s.setReg k v).groups = s.groups ∧
    (s.setReg k v).regions = s.regions ∧ (s.setReg k v).ways = s.ways ∧ (s.setReg k v).lines = s.lines ∧
    (s.setReg k v).cacheClock = s.cacheClock ∧ (s.setReg k v).withheld = s.withheld ∧
    (s.setReg k v).repairRows = s.repairRows ∧ (s.setReg k v).l1 = s.l1 ∧ (s.setReg k v).l2 = s.l2 ∧
    (s.setReg k v).invq = s.invq ∧ (s.setReg k v).inWins = s.inWins ∧ (s.setReg k v).outWins = s.outWins ∧
    (s.setReg k v).txns = s.txns ∧ (s.setReg k v).nextTag = s.nextTag ∧ (s.setReg k v).objs = s.objs ∧
    (s.setReg k v).trees = s.trees ∧ (s.setReg k v).parts = s.parts ∧ (s.setReg k v).insts = s.insts ∧
    (s.setReg k v).intake = s.intake ∧ (s.setReg k v).pool = s.pool ∧ (s.setReg k v).arena = s.arena ∧
    (s.setReg k v).atc = s.atc ∧ (s.setReg k v).levels = s.levels ∧ (s.setReg k v).tokens = s.tokens ∧
    (s.setReg k v).urgency = s.urgency ∧ (s.setReg k v).aged = s.aged ∧ (s.setReg k v).served = s.served ∧
    (s.setReg k v).refreshes = s.refreshes ∧ (s.setReg k v).scrub = s.scrub ∧ (s.setReg k v).links = s.links ∧
    (s.setReg k v).cages = s.cages ∧ (s.setReg k v).rteAct = s.rteAct ∧ (s.setReg k v).rteStg = s.rteStg ∧
    (s.setReg k v).rxTxns = s.rxTxns ∧ (s.setReg k v).time = s.time ∧ (s.setReg k v).winQ = s.winQ ∧
    (s.setReg k v).clus = s.clus ∧ (s.setReg k v).events = s.events ∧ (s.setReg k v).eventsWait = s.eventsWait ∧
    (s.setReg k v).eventSeq = s.eventSeq ∧ (s.setReg k v).descs = s.descs ∧ (s.setReg k v).nextDesc = s.nextDesc ∧
    (s.setReg k v).sqs = s.sqs ∧ (s.setReg k v).cqs = s.cqs ∧ (s.setReg k v).refOps = s.refOps ∧
    (s.setReg k v).switches = s.switches ∧ (s.setReg k v).mcBind = s.mcBind ∧ (s.setReg k v).mcWait = s.mcWait ∧
    (s.setReg k v).eid = s.eid ∧ (s.setReg k v).lastFn = s.lastFn ∧ (s.setReg k v).pwr = s.pwr ∧
    (s.setReg k v).slack = s.slack ∧ (s.setReg k v).cus = s.cus ∧ (s.setReg k v).lring = s.lring ∧
    (s.setReg k v).sessions = s.sessions ∧ (s.setReg k v).spdm = s.spdm ∧ (s.setReg k v).seals = s.seals ∧
    (s.setReg k v).fw = s.fw ∧ (s.setReg k v).boot = s.boot ∧ (s.setReg k v).pcie = s.pcie ∧ (s.setReg k v).panel = s.panel :=
  by repeat' constructor

@[simp] theorem emit_frame (e : Emit) :
    (s.emit e).pending = s.pending ∧ (s.emit e).freeCtr = s.freeCtr ∧ (s.emit e).regs = s.regs ∧ (s.emit e).host = s.host ∧
    (s.emit e).now = s.now ∧ (s.emit e).cores = s.cores ∧ (s.emit e).spad = s.spad ∧ (s.emit e).spadWritten = s.spadWritten ∧
    (s.emit e).spadPoison = s.spadPoison ∧ (s.emit e).engines = s.engines ∧ (s.emit e).buckets = s.buckets ∧
    (s.emit e).hbm = s.hbm ∧ (s.emit e).poison = s.poison ∧ (s.emit e).tags = s.tags ∧ (s.emit e).groups = s.groups ∧
    (s.emit e).regions = s.regions ∧ (s.emit e).ways = s.ways ∧ (s.emit e).lines = s.lines ∧
    (s.emit e).cacheClock = s.cacheClock ∧ (s.emit e).withheld = s.withheld ∧ (s.emit e).repairRows = s.repairRows ∧
    (s.emit e).l1 = s.l1 ∧ (s.emit e).l2 = s.l2 ∧ (s.emit e).invq = s.invq ∧ (s.emit e).inWins = s.inWins ∧
    (s.emit e).outWins = s.outWins ∧ (s.emit e).txns = s.txns ∧ (s.emit e).nextTag = s.nextTag ∧ (s.emit e).objs = s.objs ∧
    (s.emit e).trees = s.trees ∧ (s.emit e).parts = s.parts ∧ (s.emit e).insts = s.insts ∧ (s.emit e).intake = s.intake ∧
    (s.emit e).pool = s.pool ∧ (s.emit e).arena = s.arena ∧ (s.emit e).atc = s.atc ∧ (s.emit e).levels = s.levels ∧
    (s.emit e).tokens = s.tokens ∧ (s.emit e).urgency = s.urgency ∧ (s.emit e).aged = s.aged ∧ (s.emit e).served = s.served ∧
    (s.emit e).refreshes = s.refreshes ∧ (s.emit e).scrub = s.scrub ∧ (s.emit e).links = s.links ∧ (s.emit e).cages = s.cages ∧
    (s.emit e).rteAct = s.rteAct ∧ (s.emit e).rteStg = s.rteStg ∧ (s.emit e).rxTxns = s.rxTxns ∧ (s.emit e).time = s.time ∧
    (s.emit e).winQ = s.winQ ∧ (s.emit e).clus = s.clus ∧ (s.emit e).events = s.events ∧ (s.emit e).eventsWait = s.eventsWait ∧
    (s.emit e).eventSeq = s.eventSeq ∧ (s.emit e).descs = s.descs ∧ (s.emit e).nextDesc = s.nextDesc ∧ (s.emit e).sqs = s.sqs ∧
    (s.emit e).cqs = s.cqs ∧ (s.emit e).refOps = s.refOps ∧ (s.emit e).switches = s.switches ∧ (s.emit e).mcBind = s.mcBind ∧
    (s.emit e).mcWait = s.mcWait ∧ (s.emit e).eid = s.eid ∧ (s.emit e).lastFn = s.lastFn ∧ (s.emit e).pwr = s.pwr ∧
    (s.emit e).slack = s.slack ∧ (s.emit e).cus = s.cus ∧ (s.emit e).lring = s.lring ∧ (s.emit e).sessions = s.sessions ∧
    (s.emit e).spdm = s.spdm ∧ (s.emit e).seals = s.seals ∧ (s.emit e).fw = s.fw ∧ (s.emit e).boot = s.boot ∧
    (s.emit e).pcie = s.pcie ∧ (s.emit e).panel = s.panel :=
  by repeat' constructor

@[simp] theorem emits_frame (es : List Emit) :
    (s.emits es).pending = s.pending ∧ (s.emits es).freeCtr = s.freeCtr ∧ (s.emits es).regs = s.regs ∧
    (s.emits es).host = s.host ∧ (s.emits es).now = s.now ∧ (s.emits es).cores = s.cores ∧ (s.emits es).spad = s.spad ∧
    (s.emits es).spadWritten = s.spadWritten ∧ (s.emits es).spadPoison = s.spadPoison ∧ (s.emits es).engines = s.engines ∧
    (s.emits es).buckets = s.buckets ∧ (s.emits es).hbm = s.hbm ∧ (s.emits es).poison = s.poison ∧ (s.emits es).tags = s.tags ∧
    (s.emits es).groups = s.groups ∧ (s.emits es).regions = s.regions ∧ (s.emits es).ways = s.ways ∧
    (s.emits es).lines = s.lines ∧ (s.emits es).cacheClock = s.cacheClock ∧ (s.emits es).withheld = s.withheld ∧
    (s.emits es).repairRows = s.repairRows ∧ (s.emits es).l1 = s.l1 ∧ (s.emits es).l2 = s.l2 ∧ (s.emits es).invq = s.invq ∧
    (s.emits es).inWins = s.inWins ∧ (s.emits es).outWins = s.outWins ∧ (s.emits es).txns = s.txns ∧
    (s.emits es).nextTag = s.nextTag ∧ (s.emits es).objs = s.objs ∧ (s.emits es).trees = s.trees ∧
    (s.emits es).parts = s.parts ∧ (s.emits es).insts = s.insts ∧ (s.emits es).intake = s.intake ∧ (s.emits es).pool = s.pool ∧
    (s.emits es).arena = s.arena ∧ (s.emits es).atc = s.atc ∧ (s.emits es).levels = s.levels ∧ (s.emits es).tokens = s.tokens ∧
    (s.emits es).urgency = s.urgency ∧ (s.emits es).aged = s.aged ∧ (s.emits es).served = s.served ∧
    (s.emits es).refreshes = s.refreshes ∧ (s.emits es).scrub = s.scrub ∧ (s.emits es).links = s.links ∧
    (s.emits es).cages = s.cages ∧ (s.emits es).rteAct = s.rteAct ∧ (s.emits es).rteStg = s.rteStg ∧
    (s.emits es).rxTxns = s.rxTxns ∧ (s.emits es).time = s.time ∧ (s.emits es).winQ = s.winQ ∧ (s.emits es).clus = s.clus ∧
    (s.emits es).events = s.events ∧ (s.emits es).eventsWait = s.eventsWait ∧ (s.emits es).eventSeq = s.eventSeq ∧
    (s.emits es).descs = s.descs ∧ (s.emits es).nextDesc = s.nextDesc ∧ (s.emits es).sqs = s.sqs ∧ (s.emits es).cqs = s.cqs ∧
    (s.emits es).refOps = s.refOps ∧ (s.emits es).switches = s.switches ∧ (s.emits es).mcBind = s.mcBind ∧
    (s.emits es).mcWait = s.mcWait ∧ (s.emits es).eid = s.eid ∧ (s.emits es).lastFn = s.lastFn ∧ (s.emits es).pwr = s.pwr ∧
    (s.emits es).slack = s.slack ∧ (s.emits es).cus = s.cus ∧ (s.emits es).lring = s.lring ∧
    (s.emits es).sessions = s.sessions ∧ (s.emits es).spdm = s.spdm ∧ (s.emits es).seals = s.seals ∧ (s.emits es).fw = s.fw ∧
    (s.emits es).boot = s.boot ∧ (s.emits es).pcie = s.pcie ∧ (s.emits es).panel = s.panel :=
  by repeat' constructor

@[simp] theorem draw_frame :
    (s.draw).pending = s.pending ∧ (s.draw).out = s.out ∧ (s.draw).regs = s.regs ∧ (s.draw).host = s.host ∧
    (s.draw).now = s.now ∧ (s.draw).cores = s.cores ∧ (s.draw).spad = s.spad ∧ (s.draw).spadWritten = s.spadWritten ∧
    (s.draw).spadPoison = s.spadPoison ∧ (s.draw).engines = s.engines ∧ (s.draw).buckets = s.buckets ∧ (s.draw).hbm = s.hbm ∧
    (s.draw).poison = s.poison ∧ (s.draw).tags = s.tags ∧ (s.draw).groups = s.groups ∧ (s.draw).regions = s.regions ∧
    (s.draw).ways = s.ways ∧ (s.draw).lines = s.lines ∧ (s.draw).cacheClock = s.cacheClock ∧ (s.draw).withheld = s.withheld ∧
    (s.draw).repairRows = s.repairRows ∧ (s.draw).l1 = s.l1 ∧ (s.draw).l2 = s.l2 ∧ (s.draw).invq = s.invq ∧
    (s.draw).inWins = s.inWins ∧ (s.draw).outWins = s.outWins ∧ (s.draw).txns = s.txns ∧ (s.draw).nextTag = s.nextTag ∧
    (s.draw).objs = s.objs ∧ (s.draw).trees = s.trees ∧ (s.draw).parts = s.parts ∧ (s.draw).insts = s.insts ∧
    (s.draw).intake = s.intake ∧ (s.draw).pool = s.pool ∧ (s.draw).arena = s.arena ∧ (s.draw).atc = s.atc ∧
    (s.draw).levels = s.levels ∧ (s.draw).tokens = s.tokens ∧ (s.draw).urgency = s.urgency ∧ (s.draw).aged = s.aged ∧
    (s.draw).served = s.served ∧ (s.draw).refreshes = s.refreshes ∧ (s.draw).scrub = s.scrub ∧ (s.draw).links = s.links ∧
    (s.draw).cages = s.cages ∧ (s.draw).rteAct = s.rteAct ∧ (s.draw).rteStg = s.rteStg ∧ (s.draw).rxTxns = s.rxTxns ∧
    (s.draw).time = s.time ∧ (s.draw).winQ = s.winQ ∧ (s.draw).clus = s.clus ∧ (s.draw).events = s.events ∧
    (s.draw).eventsWait = s.eventsWait ∧ (s.draw).eventSeq = s.eventSeq ∧ (s.draw).descs = s.descs ∧
    (s.draw).nextDesc = s.nextDesc ∧ (s.draw).sqs = s.sqs ∧ (s.draw).cqs = s.cqs ∧ (s.draw).refOps = s.refOps ∧
    (s.draw).switches = s.switches ∧ (s.draw).mcBind = s.mcBind ∧ (s.draw).mcWait = s.mcWait ∧ (s.draw).eid = s.eid ∧
    (s.draw).lastFn = s.lastFn ∧ (s.draw).pwr = s.pwr ∧ (s.draw).slack = s.slack ∧ (s.draw).cus = s.cus ∧
    (s.draw).lring = s.lring ∧ (s.draw).sessions = s.sessions ∧ (s.draw).spdm = s.spdm ∧ (s.draw).seals = s.seals ∧
    (s.draw).fw = s.fw ∧ (s.draw).boot = s.boot ∧ (s.draw).pcie = s.pcie ∧ (s.draw).panel = s.panel :=
  by repeat' constructor

@[simp] theorem setCore_frame (c : Nat) (k : Core) :
    (s.setCore c k).pending = s.pending ∧ (s.setCore c k).out = s.out ∧ (s.setCore c k).freeCtr = s.freeCtr ∧
    (s.setCore c k).regs = s.regs ∧ (s.setCore c k).host = s.host ∧ (s.setCore c k).now = s.now ∧
    (s.setCore c k).spad = s.spad ∧ (s.setCore c k).spadWritten = s.spadWritten ∧ (s.setCore c k).spadPoison = s.spadPoison ∧
    (s.setCore c k).engines = s.engines ∧ (s.setCore c k).buckets = s.buckets ∧ (s.setCore c k).hbm = s.hbm ∧
    (s.setCore c k).poison = s.poison ∧ (s.setCore c k).tags = s.tags ∧ (s.setCore c k).groups = s.groups ∧
    (s.setCore c k).regions = s.regions ∧ (s.setCore c k).ways = s.ways ∧ (s.setCore c k).lines = s.lines ∧
    (s.setCore c k).cacheClock = s.cacheClock ∧ (s.setCore c k).withheld = s.withheld ∧
    (s.setCore c k).repairRows = s.repairRows ∧ (s.setCore c k).l1 = s.l1 ∧ (s.setCore c k).l2 = s.l2 ∧
    (s.setCore c k).invq = s.invq ∧ (s.setCore c k).inWins = s.inWins ∧ (s.setCore c k).outWins = s.outWins ∧
    (s.setCore c k).txns = s.txns ∧ (s.setCore c k).nextTag = s.nextTag ∧ (s.setCore c k).objs = s.objs ∧
    (s.setCore c k).trees = s.trees ∧ (s.setCore c k).parts = s.parts ∧ (s.setCore c k).insts = s.insts ∧
    (s.setCore c k).intake = s.intake ∧ (s.setCore c k).pool = s.pool ∧ (s.setCore c k).arena = s.arena ∧
    (s.setCore c k).atc = s.atc ∧ (s.setCore c k).levels = s.levels ∧ (s.setCore c k).tokens = s.tokens ∧
    (s.setCore c k).urgency = s.urgency ∧ (s.setCore c k).aged = s.aged ∧ (s.setCore c k).served = s.served ∧
    (s.setCore c k).refreshes = s.refreshes ∧ (s.setCore c k).scrub = s.scrub ∧ (s.setCore c k).links = s.links ∧
    (s.setCore c k).cages = s.cages ∧ (s.setCore c k).rteAct = s.rteAct ∧ (s.setCore c k).rteStg = s.rteStg ∧
    (s.setCore c k).rxTxns = s.rxTxns ∧ (s.setCore c k).time = s.time ∧ (s.setCore c k).winQ = s.winQ ∧
    (s.setCore c k).clus = s.clus ∧ (s.setCore c k).events = s.events ∧ (s.setCore c k).eventsWait = s.eventsWait ∧
    (s.setCore c k).eventSeq = s.eventSeq ∧ (s.setCore c k).descs = s.descs ∧ (s.setCore c k).nextDesc = s.nextDesc ∧
    (s.setCore c k).sqs = s.sqs ∧ (s.setCore c k).cqs = s.cqs ∧ (s.setCore c k).refOps = s.refOps ∧
    (s.setCore c k).switches = s.switches ∧ (s.setCore c k).mcBind = s.mcBind ∧ (s.setCore c k).mcWait = s.mcWait ∧
    (s.setCore c k).eid = s.eid ∧ (s.setCore c k).lastFn = s.lastFn ∧ (s.setCore c k).pwr = s.pwr ∧
    (s.setCore c k).slack = s.slack ∧ (s.setCore c k).cus = s.cus ∧ (s.setCore c k).lring = s.lring ∧
    (s.setCore c k).sessions = s.sessions ∧ (s.setCore c k).spdm = s.spdm ∧ (s.setCore c k).seals = s.seals ∧
    (s.setCore c k).fw = s.fw ∧ (s.setCore c k).boot = s.boot ∧ (s.setCore c k).pcie = s.pcie ∧
    (s.setCore c k).panel = s.panel :=
  by repeat' constructor

@[simp] theorem setEngine_frame (e : Nat) (k : Engine) :
    (s.setEngine e k).pending = s.pending ∧ (s.setEngine e k).out = s.out ∧ (s.setEngine e k).freeCtr = s.freeCtr ∧
    (s.setEngine e k).regs = s.regs ∧ (s.setEngine e k).host = s.host ∧ (s.setEngine e k).now = s.now ∧
    (s.setEngine e k).cores = s.cores ∧ (s.setEngine e k).spad = s.spad ∧ (s.setEngine e k).spadWritten = s.spadWritten ∧
    (s.setEngine e k).spadPoison = s.spadPoison ∧ (s.setEngine e k).buckets = s.buckets ∧ (s.setEngine e k).hbm = s.hbm ∧
    (s.setEngine e k).poison = s.poison ∧ (s.setEngine e k).tags = s.tags ∧ (s.setEngine e k).groups = s.groups ∧
    (s.setEngine e k).regions = s.regions ∧ (s.setEngine e k).ways = s.ways ∧ (s.setEngine e k).lines = s.lines ∧
    (s.setEngine e k).cacheClock = s.cacheClock ∧ (s.setEngine e k).withheld = s.withheld ∧
    (s.setEngine e k).repairRows = s.repairRows ∧ (s.setEngine e k).l1 = s.l1 ∧ (s.setEngine e k).l2 = s.l2 ∧
    (s.setEngine e k).invq = s.invq ∧ (s.setEngine e k).inWins = s.inWins ∧ (s.setEngine e k).outWins = s.outWins ∧
    (s.setEngine e k).txns = s.txns ∧ (s.setEngine e k).nextTag = s.nextTag ∧ (s.setEngine e k).objs = s.objs ∧
    (s.setEngine e k).trees = s.trees ∧ (s.setEngine e k).parts = s.parts ∧ (s.setEngine e k).insts = s.insts ∧
    (s.setEngine e k).intake = s.intake ∧ (s.setEngine e k).pool = s.pool ∧ (s.setEngine e k).arena = s.arena ∧
    (s.setEngine e k).atc = s.atc ∧ (s.setEngine e k).levels = s.levels ∧ (s.setEngine e k).tokens = s.tokens ∧
    (s.setEngine e k).urgency = s.urgency ∧ (s.setEngine e k).aged = s.aged ∧ (s.setEngine e k).served = s.served ∧
    (s.setEngine e k).refreshes = s.refreshes ∧ (s.setEngine e k).scrub = s.scrub ∧ (s.setEngine e k).links = s.links ∧
    (s.setEngine e k).cages = s.cages ∧ (s.setEngine e k).rteAct = s.rteAct ∧ (s.setEngine e k).rteStg = s.rteStg ∧
    (s.setEngine e k).rxTxns = s.rxTxns ∧ (s.setEngine e k).time = s.time ∧ (s.setEngine e k).winQ = s.winQ ∧
    (s.setEngine e k).clus = s.clus ∧ (s.setEngine e k).events = s.events ∧ (s.setEngine e k).eventsWait = s.eventsWait ∧
    (s.setEngine e k).eventSeq = s.eventSeq ∧ (s.setEngine e k).descs = s.descs ∧ (s.setEngine e k).nextDesc = s.nextDesc ∧
    (s.setEngine e k).sqs = s.sqs ∧ (s.setEngine e k).cqs = s.cqs ∧ (s.setEngine e k).refOps = s.refOps ∧
    (s.setEngine e k).switches = s.switches ∧ (s.setEngine e k).mcBind = s.mcBind ∧ (s.setEngine e k).mcWait = s.mcWait ∧
    (s.setEngine e k).eid = s.eid ∧ (s.setEngine e k).lastFn = s.lastFn ∧ (s.setEngine e k).pwr = s.pwr ∧
    (s.setEngine e k).slack = s.slack ∧ (s.setEngine e k).cus = s.cus ∧ (s.setEngine e k).lring = s.lring ∧
    (s.setEngine e k).sessions = s.sessions ∧ (s.setEngine e k).spdm = s.spdm ∧ (s.setEngine e k).seals = s.seals ∧
    (s.setEngine e k).fw = s.fw ∧ (s.setEngine e k).boot = s.boot ∧ (s.setEngine e k).pcie = s.pcie ∧
    (s.setEngine e k).panel = s.panel :=
  by repeat' constructor

@[simp] theorem setBucket_frame (h : Nat) (b : Bucket) :
    (s.setBucket h b).pending = s.pending ∧ (s.setBucket h b).out = s.out ∧ (s.setBucket h b).freeCtr = s.freeCtr ∧
    (s.setBucket h b).regs = s.regs ∧ (s.setBucket h b).host = s.host ∧ (s.setBucket h b).now = s.now ∧
    (s.setBucket h b).cores = s.cores ∧ (s.setBucket h b).spad = s.spad ∧ (s.setBucket h b).spadWritten = s.spadWritten ∧
    (s.setBucket h b).spadPoison = s.spadPoison ∧ (s.setBucket h b).engines = s.engines ∧ (s.setBucket h b).hbm = s.hbm ∧
    (s.setBucket h b).poison = s.poison ∧ (s.setBucket h b).tags = s.tags ∧ (s.setBucket h b).groups = s.groups ∧
    (s.setBucket h b).regions = s.regions ∧ (s.setBucket h b).ways = s.ways ∧ (s.setBucket h b).lines = s.lines ∧
    (s.setBucket h b).cacheClock = s.cacheClock ∧ (s.setBucket h b).withheld = s.withheld ∧
    (s.setBucket h b).repairRows = s.repairRows ∧ (s.setBucket h b).l1 = s.l1 ∧ (s.setBucket h b).l2 = s.l2 ∧
    (s.setBucket h b).invq = s.invq ∧ (s.setBucket h b).inWins = s.inWins ∧ (s.setBucket h b).outWins = s.outWins ∧
    (s.setBucket h b).txns = s.txns ∧ (s.setBucket h b).nextTag = s.nextTag ∧ (s.setBucket h b).objs = s.objs ∧
    (s.setBucket h b).trees = s.trees ∧ (s.setBucket h b).parts = s.parts ∧ (s.setBucket h b).insts = s.insts ∧
    (s.setBucket h b).intake = s.intake ∧ (s.setBucket h b).pool = s.pool ∧ (s.setBucket h b).arena = s.arena ∧
    (s.setBucket h b).atc = s.atc ∧ (s.setBucket h b).levels = s.levels ∧ (s.setBucket h b).tokens = s.tokens ∧
    (s.setBucket h b).urgency = s.urgency ∧ (s.setBucket h b).aged = s.aged ∧ (s.setBucket h b).served = s.served ∧
    (s.setBucket h b).refreshes = s.refreshes ∧ (s.setBucket h b).scrub = s.scrub ∧ (s.setBucket h b).links = s.links ∧
    (s.setBucket h b).cages = s.cages ∧ (s.setBucket h b).rteAct = s.rteAct ∧ (s.setBucket h b).rteStg = s.rteStg ∧
    (s.setBucket h b).rxTxns = s.rxTxns ∧ (s.setBucket h b).time = s.time ∧ (s.setBucket h b).winQ = s.winQ ∧
    (s.setBucket h b).clus = s.clus ∧ (s.setBucket h b).events = s.events ∧ (s.setBucket h b).eventsWait = s.eventsWait ∧
    (s.setBucket h b).eventSeq = s.eventSeq ∧ (s.setBucket h b).descs = s.descs ∧ (s.setBucket h b).nextDesc = s.nextDesc ∧
    (s.setBucket h b).sqs = s.sqs ∧ (s.setBucket h b).cqs = s.cqs ∧ (s.setBucket h b).refOps = s.refOps ∧
    (s.setBucket h b).switches = s.switches ∧ (s.setBucket h b).mcBind = s.mcBind ∧ (s.setBucket h b).mcWait = s.mcWait ∧
    (s.setBucket h b).eid = s.eid ∧ (s.setBucket h b).lastFn = s.lastFn ∧ (s.setBucket h b).pwr = s.pwr ∧
    (s.setBucket h b).slack = s.slack ∧ (s.setBucket h b).cus = s.cus ∧ (s.setBucket h b).lring = s.lring ∧
    (s.setBucket h b).sessions = s.sessions ∧ (s.setBucket h b).spdm = s.spdm ∧ (s.setBucket h b).seals = s.seals ∧
    (s.setBucket h b).fw = s.fw ∧ (s.setBucket h b).boot = s.boot ∧ (s.setBucket h b).pcie = s.pcie ∧
    (s.setBucket h b).panel = s.panel :=
  by repeat' constructor

@[simp] theorem setGroup_frame (g : Nat) (k : Group) :
    (s.setGroup g k).pending = s.pending ∧ (s.setGroup g k).out = s.out ∧ (s.setGroup g k).freeCtr = s.freeCtr ∧
    (s.setGroup g k).regs = s.regs ∧ (s.setGroup g k).host = s.host ∧ (s.setGroup g k).now = s.now ∧
    (s.setGroup g k).cores = s.cores ∧ (s.setGroup g k).spad = s.spad ∧ (s.setGroup g k).spadWritten = s.spadWritten ∧
    (s.setGroup g k).spadPoison = s.spadPoison ∧ (s.setGroup g k).engines = s.engines ∧ (s.setGroup g k).buckets = s.buckets ∧
    (s.setGroup g k).hbm = s.hbm ∧ (s.setGroup g k).poison = s.poison ∧ (s.setGroup g k).tags = s.tags ∧
    (s.setGroup g k).regions = s.regions ∧ (s.setGroup g k).ways = s.ways ∧ (s.setGroup g k).lines = s.lines ∧
    (s.setGroup g k).cacheClock = s.cacheClock ∧ (s.setGroup g k).withheld = s.withheld ∧
    (s.setGroup g k).repairRows = s.repairRows ∧ (s.setGroup g k).l1 = s.l1 ∧ (s.setGroup g k).l2 = s.l2 ∧
    (s.setGroup g k).invq = s.invq ∧ (s.setGroup g k).inWins = s.inWins ∧ (s.setGroup g k).outWins = s.outWins ∧
    (s.setGroup g k).txns = s.txns ∧ (s.setGroup g k).nextTag = s.nextTag ∧ (s.setGroup g k).objs = s.objs ∧
    (s.setGroup g k).trees = s.trees ∧ (s.setGroup g k).parts = s.parts ∧ (s.setGroup g k).insts = s.insts ∧
    (s.setGroup g k).intake = s.intake ∧ (s.setGroup g k).pool = s.pool ∧ (s.setGroup g k).arena = s.arena ∧
    (s.setGroup g k).atc = s.atc ∧ (s.setGroup g k).levels = s.levels ∧ (s.setGroup g k).tokens = s.tokens ∧
    (s.setGroup g k).urgency = s.urgency ∧ (s.setGroup g k).aged = s.aged ∧ (s.setGroup g k).served = s.served ∧
    (s.setGroup g k).refreshes = s.refreshes ∧ (s.setGroup g k).scrub = s.scrub ∧ (s.setGroup g k).links = s.links ∧
    (s.setGroup g k).cages = s.cages ∧ (s.setGroup g k).rteAct = s.rteAct ∧ (s.setGroup g k).rteStg = s.rteStg ∧
    (s.setGroup g k).rxTxns = s.rxTxns ∧ (s.setGroup g k).time = s.time ∧ (s.setGroup g k).winQ = s.winQ ∧
    (s.setGroup g k).clus = s.clus ∧ (s.setGroup g k).events = s.events ∧ (s.setGroup g k).eventsWait = s.eventsWait ∧
    (s.setGroup g k).eventSeq = s.eventSeq ∧ (s.setGroup g k).descs = s.descs ∧ (s.setGroup g k).nextDesc = s.nextDesc ∧
    (s.setGroup g k).sqs = s.sqs ∧ (s.setGroup g k).cqs = s.cqs ∧ (s.setGroup g k).refOps = s.refOps ∧
    (s.setGroup g k).switches = s.switches ∧ (s.setGroup g k).mcBind = s.mcBind ∧ (s.setGroup g k).mcWait = s.mcWait ∧
    (s.setGroup g k).eid = s.eid ∧ (s.setGroup g k).lastFn = s.lastFn ∧ (s.setGroup g k).pwr = s.pwr ∧
    (s.setGroup g k).slack = s.slack ∧ (s.setGroup g k).cus = s.cus ∧ (s.setGroup g k).lring = s.lring ∧
    (s.setGroup g k).sessions = s.sessions ∧ (s.setGroup g k).spdm = s.spdm ∧ (s.setGroup g k).seals = s.seals ∧
    (s.setGroup g k).fw = s.fw ∧ (s.setGroup g k).boot = s.boot ∧ (s.setGroup g k).pcie = s.pcie ∧
    (s.setGroup g k).panel = s.panel :=
  by repeat' constructor

@[simp] theorem setRegion_frame (q : Nat) (k : Region) :
    (s.setRegion q k).pending = s.pending ∧ (s.setRegion q k).out = s.out ∧ (s.setRegion q k).freeCtr = s.freeCtr ∧
    (s.setRegion q k).regs = s.regs ∧ (s.setRegion q k).host = s.host ∧ (s.setRegion q k).now = s.now ∧
    (s.setRegion q k).cores = s.cores ∧ (s.setRegion q k).spad = s.spad ∧ (s.setRegion q k).spadWritten = s.spadWritten ∧
    (s.setRegion q k).spadPoison = s.spadPoison ∧ (s.setRegion q k).engines = s.engines ∧
    (s.setRegion q k).buckets = s.buckets ∧ (s.setRegion q k).hbm = s.hbm ∧ (s.setRegion q k).poison = s.poison ∧
    (s.setRegion q k).tags = s.tags ∧ (s.setRegion q k).groups = s.groups ∧ (s.setRegion q k).ways = s.ways ∧
    (s.setRegion q k).lines = s.lines ∧ (s.setRegion q k).cacheClock = s.cacheClock ∧ (s.setRegion q k).withheld = s.withheld ∧
    (s.setRegion q k).repairRows = s.repairRows ∧ (s.setRegion q k).l1 = s.l1 ∧ (s.setRegion q k).l2 = s.l2 ∧
    (s.setRegion q k).invq = s.invq ∧ (s.setRegion q k).inWins = s.inWins ∧ (s.setRegion q k).outWins = s.outWins ∧
    (s.setRegion q k).txns = s.txns ∧ (s.setRegion q k).nextTag = s.nextTag ∧ (s.setRegion q k).objs = s.objs ∧
    (s.setRegion q k).trees = s.trees ∧ (s.setRegion q k).parts = s.parts ∧ (s.setRegion q k).insts = s.insts ∧
    (s.setRegion q k).intake = s.intake ∧ (s.setRegion q k).pool = s.pool ∧ (s.setRegion q k).arena = s.arena ∧
    (s.setRegion q k).atc = s.atc ∧ (s.setRegion q k).levels = s.levels ∧ (s.setRegion q k).tokens = s.tokens ∧
    (s.setRegion q k).urgency = s.urgency ∧ (s.setRegion q k).aged = s.aged ∧ (s.setRegion q k).served = s.served ∧
    (s.setRegion q k).refreshes = s.refreshes ∧ (s.setRegion q k).scrub = s.scrub ∧ (s.setRegion q k).links = s.links ∧
    (s.setRegion q k).cages = s.cages ∧ (s.setRegion q k).rteAct = s.rteAct ∧ (s.setRegion q k).rteStg = s.rteStg ∧
    (s.setRegion q k).rxTxns = s.rxTxns ∧ (s.setRegion q k).time = s.time ∧ (s.setRegion q k).winQ = s.winQ ∧
    (s.setRegion q k).clus = s.clus ∧ (s.setRegion q k).events = s.events ∧ (s.setRegion q k).eventsWait = s.eventsWait ∧
    (s.setRegion q k).eventSeq = s.eventSeq ∧ (s.setRegion q k).descs = s.descs ∧ (s.setRegion q k).nextDesc = s.nextDesc ∧
    (s.setRegion q k).sqs = s.sqs ∧ (s.setRegion q k).cqs = s.cqs ∧ (s.setRegion q k).refOps = s.refOps ∧
    (s.setRegion q k).switches = s.switches ∧ (s.setRegion q k).mcBind = s.mcBind ∧ (s.setRegion q k).mcWait = s.mcWait ∧
    (s.setRegion q k).eid = s.eid ∧ (s.setRegion q k).lastFn = s.lastFn ∧ (s.setRegion q k).pwr = s.pwr ∧
    (s.setRegion q k).slack = s.slack ∧ (s.setRegion q k).cus = s.cus ∧ (s.setRegion q k).lring = s.lring ∧
    (s.setRegion q k).sessions = s.sessions ∧ (s.setRegion q k).spdm = s.spdm ∧ (s.setRegion q k).seals = s.seals ∧
    (s.setRegion q k).fw = s.fw ∧ (s.setRegion q k).boot = s.boot ∧ (s.setRegion q k).pcie = s.pcie ∧
    (s.setRegion q k).panel = s.panel :=
  by repeat' constructor

@[simp] theorem setWay_frame (i : Nat) (k : WayKind) :
    (s.setWay i k).pending = s.pending ∧ (s.setWay i k).out = s.out ∧ (s.setWay i k).freeCtr = s.freeCtr ∧
    (s.setWay i k).regs = s.regs ∧ (s.setWay i k).host = s.host ∧ (s.setWay i k).now = s.now ∧ (s.setWay i k).cores = s.cores ∧
    (s.setWay i k).spad = s.spad ∧ (s.setWay i k).spadWritten = s.spadWritten ∧ (s.setWay i k).spadPoison = s.spadPoison ∧
    (s.setWay i k).engines = s.engines ∧ (s.setWay i k).buckets = s.buckets ∧ (s.setWay i k).hbm = s.hbm ∧
    (s.setWay i k).poison = s.poison ∧ (s.setWay i k).tags = s.tags ∧ (s.setWay i k).groups = s.groups ∧
    (s.setWay i k).regions = s.regions ∧ (s.setWay i k).lines = s.lines ∧ (s.setWay i k).cacheClock = s.cacheClock ∧
    (s.setWay i k).withheld = s.withheld ∧ (s.setWay i k).repairRows = s.repairRows ∧ (s.setWay i k).l1 = s.l1 ∧
    (s.setWay i k).l2 = s.l2 ∧ (s.setWay i k).invq = s.invq ∧ (s.setWay i k).inWins = s.inWins ∧
    (s.setWay i k).outWins = s.outWins ∧ (s.setWay i k).txns = s.txns ∧ (s.setWay i k).nextTag = s.nextTag ∧
    (s.setWay i k).objs = s.objs ∧ (s.setWay i k).trees = s.trees ∧ (s.setWay i k).parts = s.parts ∧
    (s.setWay i k).insts = s.insts ∧ (s.setWay i k).intake = s.intake ∧ (s.setWay i k).pool = s.pool ∧
    (s.setWay i k).arena = s.arena ∧ (s.setWay i k).atc = s.atc ∧ (s.setWay i k).levels = s.levels ∧
    (s.setWay i k).tokens = s.tokens ∧ (s.setWay i k).urgency = s.urgency ∧ (s.setWay i k).aged = s.aged ∧
    (s.setWay i k).served = s.served ∧ (s.setWay i k).refreshes = s.refreshes ∧ (s.setWay i k).scrub = s.scrub ∧
    (s.setWay i k).links = s.links ∧ (s.setWay i k).cages = s.cages ∧ (s.setWay i k).rteAct = s.rteAct ∧
    (s.setWay i k).rteStg = s.rteStg ∧ (s.setWay i k).rxTxns = s.rxTxns ∧ (s.setWay i k).time = s.time ∧
    (s.setWay i k).winQ = s.winQ ∧ (s.setWay i k).clus = s.clus ∧ (s.setWay i k).events = s.events ∧
    (s.setWay i k).eventsWait = s.eventsWait ∧ (s.setWay i k).eventSeq = s.eventSeq ∧ (s.setWay i k).descs = s.descs ∧
    (s.setWay i k).nextDesc = s.nextDesc ∧ (s.setWay i k).sqs = s.sqs ∧ (s.setWay i k).cqs = s.cqs ∧
    (s.setWay i k).refOps = s.refOps ∧ (s.setWay i k).switches = s.switches ∧ (s.setWay i k).mcBind = s.mcBind ∧
    (s.setWay i k).mcWait = s.mcWait ∧ (s.setWay i k).eid = s.eid ∧ (s.setWay i k).lastFn = s.lastFn ∧
    (s.setWay i k).pwr = s.pwr ∧ (s.setWay i k).slack = s.slack ∧ (s.setWay i k).cus = s.cus ∧ (s.setWay i k).lring = s.lring ∧
    (s.setWay i k).sessions = s.sessions ∧ (s.setWay i k).spdm = s.spdm ∧ (s.setWay i k).seals = s.seals ∧
    (s.setWay i k).fw = s.fw ∧ (s.setWay i k).boot = s.boot ∧ (s.setWay i k).pcie = s.pcie ∧ (s.setWay i k).panel = s.panel :=
  by repeat' constructor

@[simp] theorem setLine_frame (i : Nat) (k : Option CacheLine) :
    (s.setLine i k).pending = s.pending ∧ (s.setLine i k).out = s.out ∧ (s.setLine i k).freeCtr = s.freeCtr ∧
    (s.setLine i k).regs = s.regs ∧ (s.setLine i k).host = s.host ∧ (s.setLine i k).now = s.now ∧
    (s.setLine i k).cores = s.cores ∧ (s.setLine i k).spad = s.spad ∧ (s.setLine i k).spadWritten = s.spadWritten ∧
    (s.setLine i k).spadPoison = s.spadPoison ∧ (s.setLine i k).engines = s.engines ∧ (s.setLine i k).buckets = s.buckets ∧
    (s.setLine i k).hbm = s.hbm ∧ (s.setLine i k).poison = s.poison ∧ (s.setLine i k).tags = s.tags ∧
    (s.setLine i k).groups = s.groups ∧ (s.setLine i k).regions = s.regions ∧ (s.setLine i k).ways = s.ways ∧
    (s.setLine i k).cacheClock = s.cacheClock ∧ (s.setLine i k).withheld = s.withheld ∧
    (s.setLine i k).repairRows = s.repairRows ∧ (s.setLine i k).l1 = s.l1 ∧ (s.setLine i k).l2 = s.l2 ∧
    (s.setLine i k).invq = s.invq ∧ (s.setLine i k).inWins = s.inWins ∧ (s.setLine i k).outWins = s.outWins ∧
    (s.setLine i k).txns = s.txns ∧ (s.setLine i k).nextTag = s.nextTag ∧ (s.setLine i k).objs = s.objs ∧
    (s.setLine i k).trees = s.trees ∧ (s.setLine i k).parts = s.parts ∧ (s.setLine i k).insts = s.insts ∧
    (s.setLine i k).intake = s.intake ∧ (s.setLine i k).pool = s.pool ∧ (s.setLine i k).arena = s.arena ∧
    (s.setLine i k).atc = s.atc ∧ (s.setLine i k).levels = s.levels ∧ (s.setLine i k).tokens = s.tokens ∧
    (s.setLine i k).urgency = s.urgency ∧ (s.setLine i k).aged = s.aged ∧ (s.setLine i k).served = s.served ∧
    (s.setLine i k).refreshes = s.refreshes ∧ (s.setLine i k).scrub = s.scrub ∧ (s.setLine i k).links = s.links ∧
    (s.setLine i k).cages = s.cages ∧ (s.setLine i k).rteAct = s.rteAct ∧ (s.setLine i k).rteStg = s.rteStg ∧
    (s.setLine i k).rxTxns = s.rxTxns ∧ (s.setLine i k).time = s.time ∧ (s.setLine i k).winQ = s.winQ ∧
    (s.setLine i k).clus = s.clus ∧ (s.setLine i k).events = s.events ∧ (s.setLine i k).eventsWait = s.eventsWait ∧
    (s.setLine i k).eventSeq = s.eventSeq ∧ (s.setLine i k).descs = s.descs ∧ (s.setLine i k).nextDesc = s.nextDesc ∧
    (s.setLine i k).sqs = s.sqs ∧ (s.setLine i k).cqs = s.cqs ∧ (s.setLine i k).refOps = s.refOps ∧
    (s.setLine i k).switches = s.switches ∧ (s.setLine i k).mcBind = s.mcBind ∧ (s.setLine i k).mcWait = s.mcWait ∧
    (s.setLine i k).eid = s.eid ∧ (s.setLine i k).lastFn = s.lastFn ∧ (s.setLine i k).pwr = s.pwr ∧
    (s.setLine i k).slack = s.slack ∧ (s.setLine i k).cus = s.cus ∧ (s.setLine i k).lring = s.lring ∧
    (s.setLine i k).sessions = s.sessions ∧ (s.setLine i k).spdm = s.spdm ∧ (s.setLine i k).seals = s.seals ∧
    (s.setLine i k).fw = s.fw ∧ (s.setLine i k).boot = s.boot ∧ (s.setLine i k).pcie = s.pcie ∧
    (s.setLine i k).panel = s.panel :=
  by repeat' constructor

@[simp] theorem setTag_frame (i : Nat) (k : Option SectorTag) :
    (s.setTag i k).pending = s.pending ∧ (s.setTag i k).out = s.out ∧ (s.setTag i k).freeCtr = s.freeCtr ∧
    (s.setTag i k).regs = s.regs ∧ (s.setTag i k).host = s.host ∧ (s.setTag i k).now = s.now ∧ (s.setTag i k).cores = s.cores ∧
    (s.setTag i k).spad = s.spad ∧ (s.setTag i k).spadWritten = s.spadWritten ∧ (s.setTag i k).spadPoison = s.spadPoison ∧
    (s.setTag i k).engines = s.engines ∧ (s.setTag i k).buckets = s.buckets ∧ (s.setTag i k).hbm = s.hbm ∧
    (s.setTag i k).poison = s.poison ∧ (s.setTag i k).groups = s.groups ∧ (s.setTag i k).regions = s.regions ∧
    (s.setTag i k).ways = s.ways ∧ (s.setTag i k).lines = s.lines ∧ (s.setTag i k).cacheClock = s.cacheClock ∧
    (s.setTag i k).withheld = s.withheld ∧ (s.setTag i k).repairRows = s.repairRows ∧ (s.setTag i k).l1 = s.l1 ∧
    (s.setTag i k).l2 = s.l2 ∧ (s.setTag i k).invq = s.invq ∧ (s.setTag i k).inWins = s.inWins ∧
    (s.setTag i k).outWins = s.outWins ∧ (s.setTag i k).txns = s.txns ∧ (s.setTag i k).nextTag = s.nextTag ∧
    (s.setTag i k).objs = s.objs ∧ (s.setTag i k).trees = s.trees ∧ (s.setTag i k).parts = s.parts ∧
    (s.setTag i k).insts = s.insts ∧ (s.setTag i k).intake = s.intake ∧ (s.setTag i k).pool = s.pool ∧
    (s.setTag i k).arena = s.arena ∧ (s.setTag i k).atc = s.atc ∧ (s.setTag i k).levels = s.levels ∧
    (s.setTag i k).tokens = s.tokens ∧ (s.setTag i k).urgency = s.urgency ∧ (s.setTag i k).aged = s.aged ∧
    (s.setTag i k).served = s.served ∧ (s.setTag i k).refreshes = s.refreshes ∧ (s.setTag i k).scrub = s.scrub ∧
    (s.setTag i k).links = s.links ∧ (s.setTag i k).cages = s.cages ∧ (s.setTag i k).rteAct = s.rteAct ∧
    (s.setTag i k).rteStg = s.rteStg ∧ (s.setTag i k).rxTxns = s.rxTxns ∧ (s.setTag i k).time = s.time ∧
    (s.setTag i k).winQ = s.winQ ∧ (s.setTag i k).clus = s.clus ∧ (s.setTag i k).events = s.events ∧
    (s.setTag i k).eventsWait = s.eventsWait ∧ (s.setTag i k).eventSeq = s.eventSeq ∧ (s.setTag i k).descs = s.descs ∧
    (s.setTag i k).nextDesc = s.nextDesc ∧ (s.setTag i k).sqs = s.sqs ∧ (s.setTag i k).cqs = s.cqs ∧
    (s.setTag i k).refOps = s.refOps ∧ (s.setTag i k).switches = s.switches ∧ (s.setTag i k).mcBind = s.mcBind ∧
    (s.setTag i k).mcWait = s.mcWait ∧ (s.setTag i k).eid = s.eid ∧ (s.setTag i k).lastFn = s.lastFn ∧
    (s.setTag i k).pwr = s.pwr ∧ (s.setTag i k).slack = s.slack ∧ (s.setTag i k).cus = s.cus ∧ (s.setTag i k).lring = s.lring ∧
    (s.setTag i k).sessions = s.sessions ∧ (s.setTag i k).spdm = s.spdm ∧ (s.setTag i k).seals = s.seals ∧
    (s.setTag i k).fw = s.fw ∧ (s.setTag i k).boot = s.boot ∧ (s.setTag i k).pcie = s.pcie ∧ (s.setTag i k).panel = s.panel :=
  by repeat' constructor

@[simp] theorem setPoison_frame (i : Nat) (k : Bool) :
    (s.setPoison i k).pending = s.pending ∧ (s.setPoison i k).out = s.out ∧ (s.setPoison i k).freeCtr = s.freeCtr ∧
    (s.setPoison i k).regs = s.regs ∧ (s.setPoison i k).host = s.host ∧ (s.setPoison i k).now = s.now ∧
    (s.setPoison i k).cores = s.cores ∧ (s.setPoison i k).spad = s.spad ∧ (s.setPoison i k).spadWritten = s.spadWritten ∧
    (s.setPoison i k).spadPoison = s.spadPoison ∧ (s.setPoison i k).engines = s.engines ∧
    (s.setPoison i k).buckets = s.buckets ∧ (s.setPoison i k).hbm = s.hbm ∧ (s.setPoison i k).tags = s.tags ∧
    (s.setPoison i k).groups = s.groups ∧ (s.setPoison i k).regions = s.regions ∧ (s.setPoison i k).ways = s.ways ∧
    (s.setPoison i k).lines = s.lines ∧ (s.setPoison i k).cacheClock = s.cacheClock ∧ (s.setPoison i k).withheld = s.withheld ∧
    (s.setPoison i k).repairRows = s.repairRows ∧ (s.setPoison i k).l1 = s.l1 ∧ (s.setPoison i k).l2 = s.l2 ∧
    (s.setPoison i k).invq = s.invq ∧ (s.setPoison i k).inWins = s.inWins ∧ (s.setPoison i k).outWins = s.outWins ∧
    (s.setPoison i k).txns = s.txns ∧ (s.setPoison i k).nextTag = s.nextTag ∧ (s.setPoison i k).objs = s.objs ∧
    (s.setPoison i k).trees = s.trees ∧ (s.setPoison i k).parts = s.parts ∧ (s.setPoison i k).insts = s.insts ∧
    (s.setPoison i k).intake = s.intake ∧ (s.setPoison i k).pool = s.pool ∧ (s.setPoison i k).arena = s.arena ∧
    (s.setPoison i k).atc = s.atc ∧ (s.setPoison i k).levels = s.levels ∧ (s.setPoison i k).tokens = s.tokens ∧
    (s.setPoison i k).urgency = s.urgency ∧ (s.setPoison i k).aged = s.aged ∧ (s.setPoison i k).served = s.served ∧
    (s.setPoison i k).refreshes = s.refreshes ∧ (s.setPoison i k).scrub = s.scrub ∧ (s.setPoison i k).links = s.links ∧
    (s.setPoison i k).cages = s.cages ∧ (s.setPoison i k).rteAct = s.rteAct ∧ (s.setPoison i k).rteStg = s.rteStg ∧
    (s.setPoison i k).rxTxns = s.rxTxns ∧ (s.setPoison i k).time = s.time ∧ (s.setPoison i k).winQ = s.winQ ∧
    (s.setPoison i k).clus = s.clus ∧ (s.setPoison i k).events = s.events ∧ (s.setPoison i k).eventsWait = s.eventsWait ∧
    (s.setPoison i k).eventSeq = s.eventSeq ∧ (s.setPoison i k).descs = s.descs ∧ (s.setPoison i k).nextDesc = s.nextDesc ∧
    (s.setPoison i k).sqs = s.sqs ∧ (s.setPoison i k).cqs = s.cqs ∧ (s.setPoison i k).refOps = s.refOps ∧
    (s.setPoison i k).switches = s.switches ∧ (s.setPoison i k).mcBind = s.mcBind ∧ (s.setPoison i k).mcWait = s.mcWait ∧
    (s.setPoison i k).eid = s.eid ∧ (s.setPoison i k).lastFn = s.lastFn ∧ (s.setPoison i k).pwr = s.pwr ∧
    (s.setPoison i k).slack = s.slack ∧ (s.setPoison i k).cus = s.cus ∧ (s.setPoison i k).lring = s.lring ∧
    (s.setPoison i k).sessions = s.sessions ∧ (s.setPoison i k).spdm = s.spdm ∧ (s.setPoison i k).seals = s.seals ∧
    (s.setPoison i k).fw = s.fw ∧ (s.setPoison i k).boot = s.boot ∧ (s.setPoison i k).pcie = s.pcie ∧
    (s.setPoison i k).panel = s.panel :=
  by repeat' constructor

@[simp] theorem setL1_frame (port : Nat) (k : List XltEntry) :
    (s.setL1 port k).pending = s.pending ∧ (s.setL1 port k).out = s.out ∧ (s.setL1 port k).freeCtr = s.freeCtr ∧
    (s.setL1 port k).regs = s.regs ∧ (s.setL1 port k).host = s.host ∧ (s.setL1 port k).now = s.now ∧
    (s.setL1 port k).cores = s.cores ∧ (s.setL1 port k).spad = s.spad ∧ (s.setL1 port k).spadWritten = s.spadWritten ∧
    (s.setL1 port k).spadPoison = s.spadPoison ∧ (s.setL1 port k).engines = s.engines ∧ (s.setL1 port k).buckets = s.buckets ∧
    (s.setL1 port k).hbm = s.hbm ∧ (s.setL1 port k).poison = s.poison ∧ (s.setL1 port k).tags = s.tags ∧
    (s.setL1 port k).groups = s.groups ∧ (s.setL1 port k).regions = s.regions ∧ (s.setL1 port k).ways = s.ways ∧
    (s.setL1 port k).lines = s.lines ∧ (s.setL1 port k).cacheClock = s.cacheClock ∧ (s.setL1 port k).withheld = s.withheld ∧
    (s.setL1 port k).repairRows = s.repairRows ∧ (s.setL1 port k).l2 = s.l2 ∧ (s.setL1 port k).invq = s.invq ∧
    (s.setL1 port k).inWins = s.inWins ∧ (s.setL1 port k).outWins = s.outWins ∧ (s.setL1 port k).txns = s.txns ∧
    (s.setL1 port k).nextTag = s.nextTag ∧ (s.setL1 port k).objs = s.objs ∧ (s.setL1 port k).trees = s.trees ∧
    (s.setL1 port k).parts = s.parts ∧ (s.setL1 port k).insts = s.insts ∧ (s.setL1 port k).intake = s.intake ∧
    (s.setL1 port k).pool = s.pool ∧ (s.setL1 port k).arena = s.arena ∧ (s.setL1 port k).atc = s.atc ∧
    (s.setL1 port k).levels = s.levels ∧ (s.setL1 port k).tokens = s.tokens ∧ (s.setL1 port k).urgency = s.urgency ∧
    (s.setL1 port k).aged = s.aged ∧ (s.setL1 port k).served = s.served ∧ (s.setL1 port k).refreshes = s.refreshes ∧
    (s.setL1 port k).scrub = s.scrub ∧ (s.setL1 port k).links = s.links ∧ (s.setL1 port k).cages = s.cages ∧
    (s.setL1 port k).rteAct = s.rteAct ∧ (s.setL1 port k).rteStg = s.rteStg ∧ (s.setL1 port k).rxTxns = s.rxTxns ∧
    (s.setL1 port k).time = s.time ∧ (s.setL1 port k).winQ = s.winQ ∧ (s.setL1 port k).clus = s.clus ∧
    (s.setL1 port k).events = s.events ∧ (s.setL1 port k).eventsWait = s.eventsWait ∧ (s.setL1 port k).eventSeq = s.eventSeq ∧
    (s.setL1 port k).descs = s.descs ∧ (s.setL1 port k).nextDesc = s.nextDesc ∧ (s.setL1 port k).sqs = s.sqs ∧
    (s.setL1 port k).cqs = s.cqs ∧ (s.setL1 port k).refOps = s.refOps ∧ (s.setL1 port k).switches = s.switches ∧
    (s.setL1 port k).mcBind = s.mcBind ∧ (s.setL1 port k).mcWait = s.mcWait ∧ (s.setL1 port k).eid = s.eid ∧
    (s.setL1 port k).lastFn = s.lastFn ∧ (s.setL1 port k).pwr = s.pwr ∧ (s.setL1 port k).slack = s.slack ∧
    (s.setL1 port k).cus = s.cus ∧ (s.setL1 port k).lring = s.lring ∧ (s.setL1 port k).sessions = s.sessions ∧
    (s.setL1 port k).spdm = s.spdm ∧ (s.setL1 port k).seals = s.seals ∧ (s.setL1 port k).fw = s.fw ∧
    (s.setL1 port k).boot = s.boot ∧ (s.setL1 port k).pcie = s.pcie ∧ (s.setL1 port k).panel = s.panel :=
  by repeat' constructor

@[simp] theorem setL2_frame (d : Nat) (k : List XltEntry) :
    (s.setL2 d k).pending = s.pending ∧ (s.setL2 d k).out = s.out ∧ (s.setL2 d k).freeCtr = s.freeCtr ∧
    (s.setL2 d k).regs = s.regs ∧ (s.setL2 d k).host = s.host ∧ (s.setL2 d k).now = s.now ∧ (s.setL2 d k).cores = s.cores ∧
    (s.setL2 d k).spad = s.spad ∧ (s.setL2 d k).spadWritten = s.spadWritten ∧ (s.setL2 d k).spadPoison = s.spadPoison ∧
    (s.setL2 d k).engines = s.engines ∧ (s.setL2 d k).buckets = s.buckets ∧ (s.setL2 d k).hbm = s.hbm ∧
    (s.setL2 d k).poison = s.poison ∧ (s.setL2 d k).tags = s.tags ∧ (s.setL2 d k).groups = s.groups ∧
    (s.setL2 d k).regions = s.regions ∧ (s.setL2 d k).ways = s.ways ∧ (s.setL2 d k).lines = s.lines ∧
    (s.setL2 d k).cacheClock = s.cacheClock ∧ (s.setL2 d k).withheld = s.withheld ∧ (s.setL2 d k).repairRows = s.repairRows ∧
    (s.setL2 d k).l1 = s.l1 ∧ (s.setL2 d k).invq = s.invq ∧ (s.setL2 d k).inWins = s.inWins ∧
    (s.setL2 d k).outWins = s.outWins ∧ (s.setL2 d k).txns = s.txns ∧ (s.setL2 d k).nextTag = s.nextTag ∧
    (s.setL2 d k).objs = s.objs ∧ (s.setL2 d k).trees = s.trees ∧ (s.setL2 d k).parts = s.parts ∧
    (s.setL2 d k).insts = s.insts ∧ (s.setL2 d k).intake = s.intake ∧ (s.setL2 d k).pool = s.pool ∧
    (s.setL2 d k).arena = s.arena ∧ (s.setL2 d k).atc = s.atc ∧ (s.setL2 d k).levels = s.levels ∧
    (s.setL2 d k).tokens = s.tokens ∧ (s.setL2 d k).urgency = s.urgency ∧ (s.setL2 d k).aged = s.aged ∧
    (s.setL2 d k).served = s.served ∧ (s.setL2 d k).refreshes = s.refreshes ∧ (s.setL2 d k).scrub = s.scrub ∧
    (s.setL2 d k).links = s.links ∧ (s.setL2 d k).cages = s.cages ∧ (s.setL2 d k).rteAct = s.rteAct ∧
    (s.setL2 d k).rteStg = s.rteStg ∧ (s.setL2 d k).rxTxns = s.rxTxns ∧ (s.setL2 d k).time = s.time ∧
    (s.setL2 d k).winQ = s.winQ ∧ (s.setL2 d k).clus = s.clus ∧ (s.setL2 d k).events = s.events ∧
    (s.setL2 d k).eventsWait = s.eventsWait ∧ (s.setL2 d k).eventSeq = s.eventSeq ∧ (s.setL2 d k).descs = s.descs ∧
    (s.setL2 d k).nextDesc = s.nextDesc ∧ (s.setL2 d k).sqs = s.sqs ∧ (s.setL2 d k).cqs = s.cqs ∧
    (s.setL2 d k).refOps = s.refOps ∧ (s.setL2 d k).switches = s.switches ∧ (s.setL2 d k).mcBind = s.mcBind ∧
    (s.setL2 d k).mcWait = s.mcWait ∧ (s.setL2 d k).eid = s.eid ∧ (s.setL2 d k).lastFn = s.lastFn ∧ (s.setL2 d k).pwr = s.pwr ∧
    (s.setL2 d k).slack = s.slack ∧ (s.setL2 d k).cus = s.cus ∧ (s.setL2 d k).lring = s.lring ∧
    (s.setL2 d k).sessions = s.sessions ∧ (s.setL2 d k).spdm = s.spdm ∧ (s.setL2 d k).seals = s.seals ∧
    (s.setL2 d k).fw = s.fw ∧ (s.setL2 d k).boot = s.boot ∧ (s.setL2 d k).pcie = s.pcie ∧ (s.setL2 d k).panel = s.panel :=
  by repeat' constructor

@[simp] theorem setInv_frame (p : Nat) (k : List Nat) :
    (s.setInv p k).pending = s.pending ∧ (s.setInv p k).out = s.out ∧ (s.setInv p k).freeCtr = s.freeCtr ∧
    (s.setInv p k).regs = s.regs ∧ (s.setInv p k).host = s.host ∧ (s.setInv p k).now = s.now ∧ (s.setInv p k).cores = s.cores ∧
    (s.setInv p k).spad = s.spad ∧ (s.setInv p k).spadWritten = s.spadWritten ∧ (s.setInv p k).spadPoison = s.spadPoison ∧
    (s.setInv p k).engines = s.engines ∧ (s.setInv p k).buckets = s.buckets ∧ (s.setInv p k).hbm = s.hbm ∧
    (s.setInv p k).poison = s.poison ∧ (s.setInv p k).tags = s.tags ∧ (s.setInv p k).groups = s.groups ∧
    (s.setInv p k).regions = s.regions ∧ (s.setInv p k).ways = s.ways ∧ (s.setInv p k).lines = s.lines ∧
    (s.setInv p k).cacheClock = s.cacheClock ∧ (s.setInv p k).withheld = s.withheld ∧
    (s.setInv p k).repairRows = s.repairRows ∧ (s.setInv p k).l1 = s.l1 ∧ (s.setInv p k).l2 = s.l2 ∧
    (s.setInv p k).inWins = s.inWins ∧ (s.setInv p k).outWins = s.outWins ∧ (s.setInv p k).txns = s.txns ∧
    (s.setInv p k).nextTag = s.nextTag ∧ (s.setInv p k).objs = s.objs ∧ (s.setInv p k).trees = s.trees ∧
    (s.setInv p k).parts = s.parts ∧ (s.setInv p k).insts = s.insts ∧ (s.setInv p k).intake = s.intake ∧
    (s.setInv p k).pool = s.pool ∧ (s.setInv p k).arena = s.arena ∧ (s.setInv p k).atc = s.atc ∧
    (s.setInv p k).levels = s.levels ∧ (s.setInv p k).tokens = s.tokens ∧ (s.setInv p k).urgency = s.urgency ∧
    (s.setInv p k).aged = s.aged ∧ (s.setInv p k).served = s.served ∧ (s.setInv p k).refreshes = s.refreshes ∧
    (s.setInv p k).scrub = s.scrub ∧ (s.setInv p k).links = s.links ∧ (s.setInv p k).cages = s.cages ∧
    (s.setInv p k).rteAct = s.rteAct ∧ (s.setInv p k).rteStg = s.rteStg ∧ (s.setInv p k).rxTxns = s.rxTxns ∧
    (s.setInv p k).time = s.time ∧ (s.setInv p k).winQ = s.winQ ∧ (s.setInv p k).clus = s.clus ∧
    (s.setInv p k).events = s.events ∧ (s.setInv p k).eventsWait = s.eventsWait ∧ (s.setInv p k).eventSeq = s.eventSeq ∧
    (s.setInv p k).descs = s.descs ∧ (s.setInv p k).nextDesc = s.nextDesc ∧ (s.setInv p k).sqs = s.sqs ∧
    (s.setInv p k).cqs = s.cqs ∧ (s.setInv p k).refOps = s.refOps ∧ (s.setInv p k).switches = s.switches ∧
    (s.setInv p k).mcBind = s.mcBind ∧ (s.setInv p k).mcWait = s.mcWait ∧ (s.setInv p k).eid = s.eid ∧
    (s.setInv p k).lastFn = s.lastFn ∧ (s.setInv p k).pwr = s.pwr ∧ (s.setInv p k).slack = s.slack ∧
    (s.setInv p k).cus = s.cus ∧ (s.setInv p k).lring = s.lring ∧ (s.setInv p k).sessions = s.sessions ∧
    (s.setInv p k).spdm = s.spdm ∧ (s.setInv p k).seals = s.seals ∧ (s.setInv p k).fw = s.fw ∧ (s.setInv p k).boot = s.boot ∧
    (s.setInv p k).pcie = s.pcie ∧ (s.setInv p k).panel = s.panel :=
  by repeat' constructor

@[simp] theorem setInWin_frame (w : Nat) (k : InWin) :
    (s.setInWin w k).pending = s.pending ∧ (s.setInWin w k).out = s.out ∧ (s.setInWin w k).freeCtr = s.freeCtr ∧
    (s.setInWin w k).regs = s.regs ∧ (s.setInWin w k).host = s.host ∧ (s.setInWin w k).now = s.now ∧
    (s.setInWin w k).cores = s.cores ∧ (s.setInWin w k).spad = s.spad ∧ (s.setInWin w k).spadWritten = s.spadWritten ∧
    (s.setInWin w k).spadPoison = s.spadPoison ∧ (s.setInWin w k).engines = s.engines ∧ (s.setInWin w k).buckets = s.buckets ∧
    (s.setInWin w k).hbm = s.hbm ∧ (s.setInWin w k).poison = s.poison ∧ (s.setInWin w k).tags = s.tags ∧
    (s.setInWin w k).groups = s.groups ∧ (s.setInWin w k).regions = s.regions ∧ (s.setInWin w k).ways = s.ways ∧
    (s.setInWin w k).lines = s.lines ∧ (s.setInWin w k).cacheClock = s.cacheClock ∧ (s.setInWin w k).withheld = s.withheld ∧
    (s.setInWin w k).repairRows = s.repairRows ∧ (s.setInWin w k).l1 = s.l1 ∧ (s.setInWin w k).l2 = s.l2 ∧
    (s.setInWin w k).invq = s.invq ∧ (s.setInWin w k).outWins = s.outWins ∧ (s.setInWin w k).txns = s.txns ∧
    (s.setInWin w k).nextTag = s.nextTag ∧ (s.setInWin w k).objs = s.objs ∧ (s.setInWin w k).trees = s.trees ∧
    (s.setInWin w k).parts = s.parts ∧ (s.setInWin w k).insts = s.insts ∧ (s.setInWin w k).intake = s.intake ∧
    (s.setInWin w k).pool = s.pool ∧ (s.setInWin w k).arena = s.arena ∧ (s.setInWin w k).atc = s.atc ∧
    (s.setInWin w k).levels = s.levels ∧ (s.setInWin w k).tokens = s.tokens ∧ (s.setInWin w k).urgency = s.urgency ∧
    (s.setInWin w k).aged = s.aged ∧ (s.setInWin w k).served = s.served ∧ (s.setInWin w k).refreshes = s.refreshes ∧
    (s.setInWin w k).scrub = s.scrub ∧ (s.setInWin w k).links = s.links ∧ (s.setInWin w k).cages = s.cages ∧
    (s.setInWin w k).rteAct = s.rteAct ∧ (s.setInWin w k).rteStg = s.rteStg ∧ (s.setInWin w k).rxTxns = s.rxTxns ∧
    (s.setInWin w k).time = s.time ∧ (s.setInWin w k).winQ = s.winQ ∧ (s.setInWin w k).clus = s.clus ∧
    (s.setInWin w k).events = s.events ∧ (s.setInWin w k).eventsWait = s.eventsWait ∧ (s.setInWin w k).eventSeq = s.eventSeq ∧
    (s.setInWin w k).descs = s.descs ∧ (s.setInWin w k).nextDesc = s.nextDesc ∧ (s.setInWin w k).sqs = s.sqs ∧
    (s.setInWin w k).cqs = s.cqs ∧ (s.setInWin w k).refOps = s.refOps ∧ (s.setInWin w k).switches = s.switches ∧
    (s.setInWin w k).mcBind = s.mcBind ∧ (s.setInWin w k).mcWait = s.mcWait ∧ (s.setInWin w k).eid = s.eid ∧
    (s.setInWin w k).lastFn = s.lastFn ∧ (s.setInWin w k).pwr = s.pwr ∧ (s.setInWin w k).slack = s.slack ∧
    (s.setInWin w k).cus = s.cus ∧ (s.setInWin w k).lring = s.lring ∧ (s.setInWin w k).sessions = s.sessions ∧
    (s.setInWin w k).spdm = s.spdm ∧ (s.setInWin w k).seals = s.seals ∧ (s.setInWin w k).fw = s.fw ∧
    (s.setInWin w k).boot = s.boot ∧ (s.setInWin w k).pcie = s.pcie ∧ (s.setInWin w k).panel = s.panel :=
  by repeat' constructor

@[simp] theorem setOutWin_frame (w : Nat) (k : OutWin) :
    (s.setOutWin w k).pending = s.pending ∧ (s.setOutWin w k).out = s.out ∧ (s.setOutWin w k).freeCtr = s.freeCtr ∧
    (s.setOutWin w k).regs = s.regs ∧ (s.setOutWin w k).host = s.host ∧ (s.setOutWin w k).now = s.now ∧
    (s.setOutWin w k).cores = s.cores ∧ (s.setOutWin w k).spad = s.spad ∧ (s.setOutWin w k).spadWritten = s.spadWritten ∧
    (s.setOutWin w k).spadPoison = s.spadPoison ∧ (s.setOutWin w k).engines = s.engines ∧
    (s.setOutWin w k).buckets = s.buckets ∧ (s.setOutWin w k).hbm = s.hbm ∧ (s.setOutWin w k).poison = s.poison ∧
    (s.setOutWin w k).tags = s.tags ∧ (s.setOutWin w k).groups = s.groups ∧ (s.setOutWin w k).regions = s.regions ∧
    (s.setOutWin w k).ways = s.ways ∧ (s.setOutWin w k).lines = s.lines ∧ (s.setOutWin w k).cacheClock = s.cacheClock ∧
    (s.setOutWin w k).withheld = s.withheld ∧ (s.setOutWin w k).repairRows = s.repairRows ∧ (s.setOutWin w k).l1 = s.l1 ∧
    (s.setOutWin w k).l2 = s.l2 ∧ (s.setOutWin w k).invq = s.invq ∧ (s.setOutWin w k).inWins = s.inWins ∧
    (s.setOutWin w k).txns = s.txns ∧ (s.setOutWin w k).nextTag = s.nextTag ∧ (s.setOutWin w k).objs = s.objs ∧
    (s.setOutWin w k).trees = s.trees ∧ (s.setOutWin w k).parts = s.parts ∧ (s.setOutWin w k).insts = s.insts ∧
    (s.setOutWin w k).intake = s.intake ∧ (s.setOutWin w k).pool = s.pool ∧ (s.setOutWin w k).arena = s.arena ∧
    (s.setOutWin w k).atc = s.atc ∧ (s.setOutWin w k).levels = s.levels ∧ (s.setOutWin w k).tokens = s.tokens ∧
    (s.setOutWin w k).urgency = s.urgency ∧ (s.setOutWin w k).aged = s.aged ∧ (s.setOutWin w k).served = s.served ∧
    (s.setOutWin w k).refreshes = s.refreshes ∧ (s.setOutWin w k).scrub = s.scrub ∧ (s.setOutWin w k).links = s.links ∧
    (s.setOutWin w k).cages = s.cages ∧ (s.setOutWin w k).rteAct = s.rteAct ∧ (s.setOutWin w k).rteStg = s.rteStg ∧
    (s.setOutWin w k).rxTxns = s.rxTxns ∧ (s.setOutWin w k).time = s.time ∧ (s.setOutWin w k).winQ = s.winQ ∧
    (s.setOutWin w k).clus = s.clus ∧ (s.setOutWin w k).events = s.events ∧ (s.setOutWin w k).eventsWait = s.eventsWait ∧
    (s.setOutWin w k).eventSeq = s.eventSeq ∧ (s.setOutWin w k).descs = s.descs ∧ (s.setOutWin w k).nextDesc = s.nextDesc ∧
    (s.setOutWin w k).sqs = s.sqs ∧ (s.setOutWin w k).cqs = s.cqs ∧ (s.setOutWin w k).refOps = s.refOps ∧
    (s.setOutWin w k).switches = s.switches ∧ (s.setOutWin w k).mcBind = s.mcBind ∧ (s.setOutWin w k).mcWait = s.mcWait ∧
    (s.setOutWin w k).eid = s.eid ∧ (s.setOutWin w k).lastFn = s.lastFn ∧ (s.setOutWin w k).pwr = s.pwr ∧
    (s.setOutWin w k).slack = s.slack ∧ (s.setOutWin w k).cus = s.cus ∧ (s.setOutWin w k).lring = s.lring ∧
    (s.setOutWin w k).sessions = s.sessions ∧ (s.setOutWin w k).spdm = s.spdm ∧ (s.setOutWin w k).seals = s.seals ∧
    (s.setOutWin w k).fw = s.fw ∧ (s.setOutWin w k).boot = s.boot ∧ (s.setOutWin w k).pcie = s.pcie ∧
    (s.setOutWin w k).panel = s.panel :=
  by repeat' constructor

@[simp] theorem setTxn_frame (t : Nat) (k : Option Txn) :
    (s.setTxn t k).pending = s.pending ∧ (s.setTxn t k).out = s.out ∧ (s.setTxn t k).freeCtr = s.freeCtr ∧
    (s.setTxn t k).regs = s.regs ∧ (s.setTxn t k).host = s.host ∧ (s.setTxn t k).now = s.now ∧ (s.setTxn t k).cores = s.cores ∧
    (s.setTxn t k).spad = s.spad ∧ (s.setTxn t k).spadWritten = s.spadWritten ∧ (s.setTxn t k).spadPoison = s.spadPoison ∧
    (s.setTxn t k).engines = s.engines ∧ (s.setTxn t k).buckets = s.buckets ∧ (s.setTxn t k).hbm = s.hbm ∧
    (s.setTxn t k).poison = s.poison ∧ (s.setTxn t k).tags = s.tags ∧ (s.setTxn t k).groups = s.groups ∧
    (s.setTxn t k).regions = s.regions ∧ (s.setTxn t k).ways = s.ways ∧ (s.setTxn t k).lines = s.lines ∧
    (s.setTxn t k).cacheClock = s.cacheClock ∧ (s.setTxn t k).withheld = s.withheld ∧
    (s.setTxn t k).repairRows = s.repairRows ∧ (s.setTxn t k).l1 = s.l1 ∧ (s.setTxn t k).l2 = s.l2 ∧
    (s.setTxn t k).invq = s.invq ∧ (s.setTxn t k).inWins = s.inWins ∧ (s.setTxn t k).outWins = s.outWins ∧
    (s.setTxn t k).nextTag = s.nextTag ∧ (s.setTxn t k).objs = s.objs ∧ (s.setTxn t k).trees = s.trees ∧
    (s.setTxn t k).parts = s.parts ∧ (s.setTxn t k).insts = s.insts ∧ (s.setTxn t k).intake = s.intake ∧
    (s.setTxn t k).pool = s.pool ∧ (s.setTxn t k).arena = s.arena ∧ (s.setTxn t k).atc = s.atc ∧
    (s.setTxn t k).levels = s.levels ∧ (s.setTxn t k).tokens = s.tokens ∧ (s.setTxn t k).urgency = s.urgency ∧
    (s.setTxn t k).aged = s.aged ∧ (s.setTxn t k).served = s.served ∧ (s.setTxn t k).refreshes = s.refreshes ∧
    (s.setTxn t k).scrub = s.scrub ∧ (s.setTxn t k).links = s.links ∧ (s.setTxn t k).cages = s.cages ∧
    (s.setTxn t k).rteAct = s.rteAct ∧ (s.setTxn t k).rteStg = s.rteStg ∧ (s.setTxn t k).rxTxns = s.rxTxns ∧
    (s.setTxn t k).time = s.time ∧ (s.setTxn t k).winQ = s.winQ ∧ (s.setTxn t k).clus = s.clus ∧
    (s.setTxn t k).events = s.events ∧ (s.setTxn t k).eventsWait = s.eventsWait ∧ (s.setTxn t k).eventSeq = s.eventSeq ∧
    (s.setTxn t k).descs = s.descs ∧ (s.setTxn t k).nextDesc = s.nextDesc ∧ (s.setTxn t k).sqs = s.sqs ∧
    (s.setTxn t k).cqs = s.cqs ∧ (s.setTxn t k).refOps = s.refOps ∧ (s.setTxn t k).switches = s.switches ∧
    (s.setTxn t k).mcBind = s.mcBind ∧ (s.setTxn t k).mcWait = s.mcWait ∧ (s.setTxn t k).eid = s.eid ∧
    (s.setTxn t k).lastFn = s.lastFn ∧ (s.setTxn t k).pwr = s.pwr ∧ (s.setTxn t k).slack = s.slack ∧
    (s.setTxn t k).cus = s.cus ∧ (s.setTxn t k).lring = s.lring ∧ (s.setTxn t k).sessions = s.sessions ∧
    (s.setTxn t k).spdm = s.spdm ∧ (s.setTxn t k).seals = s.seals ∧ (s.setTxn t k).fw = s.fw ∧ (s.setTxn t k).boot = s.boot ∧
    (s.setTxn t k).pcie = s.pcie ∧ (s.setTxn t k).panel = s.panel :=
  by repeat' constructor

@[simp] theorem setObj_frame (n : Nat) (k : SyncObj) :
    (s.setObj n k).pending = s.pending ∧ (s.setObj n k).out = s.out ∧ (s.setObj n k).freeCtr = s.freeCtr ∧
    (s.setObj n k).regs = s.regs ∧ (s.setObj n k).host = s.host ∧ (s.setObj n k).now = s.now ∧ (s.setObj n k).cores = s.cores ∧
    (s.setObj n k).spad = s.spad ∧ (s.setObj n k).spadWritten = s.spadWritten ∧ (s.setObj n k).spadPoison = s.spadPoison ∧
    (s.setObj n k).engines = s.engines ∧ (s.setObj n k).buckets = s.buckets ∧ (s.setObj n k).hbm = s.hbm ∧
    (s.setObj n k).poison = s.poison ∧ (s.setObj n k).tags = s.tags ∧ (s.setObj n k).groups = s.groups ∧
    (s.setObj n k).regions = s.regions ∧ (s.setObj n k).ways = s.ways ∧ (s.setObj n k).lines = s.lines ∧
    (s.setObj n k).cacheClock = s.cacheClock ∧ (s.setObj n k).withheld = s.withheld ∧
    (s.setObj n k).repairRows = s.repairRows ∧ (s.setObj n k).l1 = s.l1 ∧ (s.setObj n k).l2 = s.l2 ∧
    (s.setObj n k).invq = s.invq ∧ (s.setObj n k).inWins = s.inWins ∧ (s.setObj n k).outWins = s.outWins ∧
    (s.setObj n k).txns = s.txns ∧ (s.setObj n k).nextTag = s.nextTag ∧ (s.setObj n k).trees = s.trees ∧
    (s.setObj n k).parts = s.parts ∧ (s.setObj n k).insts = s.insts ∧ (s.setObj n k).intake = s.intake ∧
    (s.setObj n k).pool = s.pool ∧ (s.setObj n k).arena = s.arena ∧ (s.setObj n k).atc = s.atc ∧
    (s.setObj n k).levels = s.levels ∧ (s.setObj n k).tokens = s.tokens ∧ (s.setObj n k).urgency = s.urgency ∧
    (s.setObj n k).aged = s.aged ∧ (s.setObj n k).served = s.served ∧ (s.setObj n k).refreshes = s.refreshes ∧
    (s.setObj n k).scrub = s.scrub ∧ (s.setObj n k).links = s.links ∧ (s.setObj n k).cages = s.cages ∧
    (s.setObj n k).rteAct = s.rteAct ∧ (s.setObj n k).rteStg = s.rteStg ∧ (s.setObj n k).rxTxns = s.rxTxns ∧
    (s.setObj n k).time = s.time ∧ (s.setObj n k).winQ = s.winQ ∧ (s.setObj n k).clus = s.clus ∧
    (s.setObj n k).events = s.events ∧ (s.setObj n k).eventsWait = s.eventsWait ∧ (s.setObj n k).eventSeq = s.eventSeq ∧
    (s.setObj n k).descs = s.descs ∧ (s.setObj n k).nextDesc = s.nextDesc ∧ (s.setObj n k).sqs = s.sqs ∧
    (s.setObj n k).cqs = s.cqs ∧ (s.setObj n k).refOps = s.refOps ∧ (s.setObj n k).switches = s.switches ∧
    (s.setObj n k).mcBind = s.mcBind ∧ (s.setObj n k).mcWait = s.mcWait ∧ (s.setObj n k).eid = s.eid ∧
    (s.setObj n k).lastFn = s.lastFn ∧ (s.setObj n k).pwr = s.pwr ∧ (s.setObj n k).slack = s.slack ∧
    (s.setObj n k).cus = s.cus ∧ (s.setObj n k).lring = s.lring ∧ (s.setObj n k).sessions = s.sessions ∧
    (s.setObj n k).spdm = s.spdm ∧ (s.setObj n k).seals = s.seals ∧ (s.setObj n k).fw = s.fw ∧ (s.setObj n k).boot = s.boot ∧
    (s.setObj n k).pcie = s.pcie ∧ (s.setObj n k).panel = s.panel :=
  by repeat' constructor

@[simp] theorem setTree_frame (k : Nat) (t : TreeNode) :
    (s.setTree k t).pending = s.pending ∧ (s.setTree k t).out = s.out ∧ (s.setTree k t).freeCtr = s.freeCtr ∧
    (s.setTree k t).regs = s.regs ∧ (s.setTree k t).host = s.host ∧ (s.setTree k t).now = s.now ∧
    (s.setTree k t).cores = s.cores ∧ (s.setTree k t).spad = s.spad ∧ (s.setTree k t).spadWritten = s.spadWritten ∧
    (s.setTree k t).spadPoison = s.spadPoison ∧ (s.setTree k t).engines = s.engines ∧ (s.setTree k t).buckets = s.buckets ∧
    (s.setTree k t).hbm = s.hbm ∧ (s.setTree k t).poison = s.poison ∧ (s.setTree k t).tags = s.tags ∧
    (s.setTree k t).groups = s.groups ∧ (s.setTree k t).regions = s.regions ∧ (s.setTree k t).ways = s.ways ∧
    (s.setTree k t).lines = s.lines ∧ (s.setTree k t).cacheClock = s.cacheClock ∧ (s.setTree k t).withheld = s.withheld ∧
    (s.setTree k t).repairRows = s.repairRows ∧ (s.setTree k t).l1 = s.l1 ∧ (s.setTree k t).l2 = s.l2 ∧
    (s.setTree k t).invq = s.invq ∧ (s.setTree k t).inWins = s.inWins ∧ (s.setTree k t).outWins = s.outWins ∧
    (s.setTree k t).txns = s.txns ∧ (s.setTree k t).nextTag = s.nextTag ∧ (s.setTree k t).objs = s.objs ∧
    (s.setTree k t).parts = s.parts ∧ (s.setTree k t).insts = s.insts ∧ (s.setTree k t).intake = s.intake ∧
    (s.setTree k t).pool = s.pool ∧ (s.setTree k t).arena = s.arena ∧ (s.setTree k t).atc = s.atc ∧
    (s.setTree k t).levels = s.levels ∧ (s.setTree k t).tokens = s.tokens ∧ (s.setTree k t).urgency = s.urgency ∧
    (s.setTree k t).aged = s.aged ∧ (s.setTree k t).served = s.served ∧ (s.setTree k t).refreshes = s.refreshes ∧
    (s.setTree k t).scrub = s.scrub ∧ (s.setTree k t).links = s.links ∧ (s.setTree k t).cages = s.cages ∧
    (s.setTree k t).rteAct = s.rteAct ∧ (s.setTree k t).rteStg = s.rteStg ∧ (s.setTree k t).rxTxns = s.rxTxns ∧
    (s.setTree k t).time = s.time ∧ (s.setTree k t).winQ = s.winQ ∧ (s.setTree k t).clus = s.clus ∧
    (s.setTree k t).events = s.events ∧ (s.setTree k t).eventsWait = s.eventsWait ∧ (s.setTree k t).eventSeq = s.eventSeq ∧
    (s.setTree k t).descs = s.descs ∧ (s.setTree k t).nextDesc = s.nextDesc ∧ (s.setTree k t).sqs = s.sqs ∧
    (s.setTree k t).cqs = s.cqs ∧ (s.setTree k t).refOps = s.refOps ∧ (s.setTree k t).switches = s.switches ∧
    (s.setTree k t).mcBind = s.mcBind ∧ (s.setTree k t).mcWait = s.mcWait ∧ (s.setTree k t).eid = s.eid ∧
    (s.setTree k t).lastFn = s.lastFn ∧ (s.setTree k t).pwr = s.pwr ∧ (s.setTree k t).slack = s.slack ∧
    (s.setTree k t).cus = s.cus ∧ (s.setTree k t).lring = s.lring ∧ (s.setTree k t).sessions = s.sessions ∧
    (s.setTree k t).spdm = s.spdm ∧ (s.setTree k t).seals = s.seals ∧ (s.setTree k t).fw = s.fw ∧
    (s.setTree k t).boot = s.boot ∧ (s.setTree k t).pcie = s.pcie ∧ (s.setTree k t).panel = s.panel :=
  by repeat' constructor

@[simp] theorem setPart_frame (p : Nat) (k : Part) :
    (s.setPart p k).pending = s.pending ∧ (s.setPart p k).out = s.out ∧ (s.setPart p k).freeCtr = s.freeCtr ∧
    (s.setPart p k).regs = s.regs ∧ (s.setPart p k).host = s.host ∧ (s.setPart p k).now = s.now ∧
    (s.setPart p k).cores = s.cores ∧ (s.setPart p k).spad = s.spad ∧ (s.setPart p k).spadWritten = s.spadWritten ∧
    (s.setPart p k).spadPoison = s.spadPoison ∧ (s.setPart p k).engines = s.engines ∧ (s.setPart p k).buckets = s.buckets ∧
    (s.setPart p k).hbm = s.hbm ∧ (s.setPart p k).poison = s.poison ∧ (s.setPart p k).tags = s.tags ∧
    (s.setPart p k).groups = s.groups ∧ (s.setPart p k).regions = s.regions ∧ (s.setPart p k).ways = s.ways ∧
    (s.setPart p k).lines = s.lines ∧ (s.setPart p k).cacheClock = s.cacheClock ∧ (s.setPart p k).withheld = s.withheld ∧
    (s.setPart p k).repairRows = s.repairRows ∧ (s.setPart p k).l1 = s.l1 ∧ (s.setPart p k).l2 = s.l2 ∧
    (s.setPart p k).invq = s.invq ∧ (s.setPart p k).inWins = s.inWins ∧ (s.setPart p k).outWins = s.outWins ∧
    (s.setPart p k).txns = s.txns ∧ (s.setPart p k).nextTag = s.nextTag ∧ (s.setPart p k).objs = s.objs ∧
    (s.setPart p k).trees = s.trees ∧ (s.setPart p k).insts = s.insts ∧ (s.setPart p k).intake = s.intake ∧
    (s.setPart p k).pool = s.pool ∧ (s.setPart p k).arena = s.arena ∧ (s.setPart p k).atc = s.atc ∧
    (s.setPart p k).levels = s.levels ∧ (s.setPart p k).tokens = s.tokens ∧ (s.setPart p k).urgency = s.urgency ∧
    (s.setPart p k).aged = s.aged ∧ (s.setPart p k).served = s.served ∧ (s.setPart p k).refreshes = s.refreshes ∧
    (s.setPart p k).scrub = s.scrub ∧ (s.setPart p k).links = s.links ∧ (s.setPart p k).cages = s.cages ∧
    (s.setPart p k).rteAct = s.rteAct ∧ (s.setPart p k).rteStg = s.rteStg ∧ (s.setPart p k).rxTxns = s.rxTxns ∧
    (s.setPart p k).time = s.time ∧ (s.setPart p k).winQ = s.winQ ∧ (s.setPart p k).clus = s.clus ∧
    (s.setPart p k).events = s.events ∧ (s.setPart p k).eventsWait = s.eventsWait ∧ (s.setPart p k).eventSeq = s.eventSeq ∧
    (s.setPart p k).descs = s.descs ∧ (s.setPart p k).nextDesc = s.nextDesc ∧ (s.setPart p k).sqs = s.sqs ∧
    (s.setPart p k).cqs = s.cqs ∧ (s.setPart p k).refOps = s.refOps ∧ (s.setPart p k).switches = s.switches ∧
    (s.setPart p k).mcBind = s.mcBind ∧ (s.setPart p k).mcWait = s.mcWait ∧ (s.setPart p k).eid = s.eid ∧
    (s.setPart p k).lastFn = s.lastFn ∧ (s.setPart p k).pwr = s.pwr ∧ (s.setPart p k).slack = s.slack ∧
    (s.setPart p k).cus = s.cus ∧ (s.setPart p k).lring = s.lring ∧ (s.setPart p k).sessions = s.sessions ∧
    (s.setPart p k).spdm = s.spdm ∧ (s.setPart p k).seals = s.seals ∧ (s.setPart p k).fw = s.fw ∧
    (s.setPart p k).boot = s.boot ∧ (s.setPart p k).pcie = s.pcie ∧ (s.setPart p k).panel = s.panel :=
  by repeat' constructor

@[simp] theorem setPoolPage_frame (i : Nat) (k : Option PoolPage) :
    (s.setPoolPage i k).pending = s.pending ∧ (s.setPoolPage i k).out = s.out ∧ (s.setPoolPage i k).freeCtr = s.freeCtr ∧
    (s.setPoolPage i k).regs = s.regs ∧ (s.setPoolPage i k).host = s.host ∧ (s.setPoolPage i k).now = s.now ∧
    (s.setPoolPage i k).cores = s.cores ∧ (s.setPoolPage i k).spad = s.spad ∧ (s.setPoolPage i k).spadWritten = s.spadWritten ∧
    (s.setPoolPage i k).spadPoison = s.spadPoison ∧ (s.setPoolPage i k).engines = s.engines ∧
    (s.setPoolPage i k).buckets = s.buckets ∧ (s.setPoolPage i k).hbm = s.hbm ∧ (s.setPoolPage i k).poison = s.poison ∧
    (s.setPoolPage i k).tags = s.tags ∧ (s.setPoolPage i k).groups = s.groups ∧ (s.setPoolPage i k).regions = s.regions ∧
    (s.setPoolPage i k).ways = s.ways ∧ (s.setPoolPage i k).lines = s.lines ∧ (s.setPoolPage i k).cacheClock = s.cacheClock ∧
    (s.setPoolPage i k).withheld = s.withheld ∧ (s.setPoolPage i k).repairRows = s.repairRows ∧ (s.setPoolPage i k).l1 = s.l1 ∧
    (s.setPoolPage i k).l2 = s.l2 ∧ (s.setPoolPage i k).invq = s.invq ∧ (s.setPoolPage i k).inWins = s.inWins ∧
    (s.setPoolPage i k).outWins = s.outWins ∧ (s.setPoolPage i k).txns = s.txns ∧ (s.setPoolPage i k).nextTag = s.nextTag ∧
    (s.setPoolPage i k).objs = s.objs ∧ (s.setPoolPage i k).trees = s.trees ∧ (s.setPoolPage i k).parts = s.parts ∧
    (s.setPoolPage i k).insts = s.insts ∧ (s.setPoolPage i k).intake = s.intake ∧ (s.setPoolPage i k).arena = s.arena ∧
    (s.setPoolPage i k).atc = s.atc ∧ (s.setPoolPage i k).levels = s.levels ∧ (s.setPoolPage i k).tokens = s.tokens ∧
    (s.setPoolPage i k).urgency = s.urgency ∧ (s.setPoolPage i k).aged = s.aged ∧ (s.setPoolPage i k).served = s.served ∧
    (s.setPoolPage i k).refreshes = s.refreshes ∧ (s.setPoolPage i k).scrub = s.scrub ∧ (s.setPoolPage i k).links = s.links ∧
    (s.setPoolPage i k).cages = s.cages ∧ (s.setPoolPage i k).rteAct = s.rteAct ∧ (s.setPoolPage i k).rteStg = s.rteStg ∧
    (s.setPoolPage i k).rxTxns = s.rxTxns ∧ (s.setPoolPage i k).time = s.time ∧ (s.setPoolPage i k).winQ = s.winQ ∧
    (s.setPoolPage i k).clus = s.clus ∧ (s.setPoolPage i k).events = s.events ∧ (s.setPoolPage i k).eventsWait = s.eventsWait ∧
    (s.setPoolPage i k).eventSeq = s.eventSeq ∧ (s.setPoolPage i k).descs = s.descs ∧
    (s.setPoolPage i k).nextDesc = s.nextDesc ∧ (s.setPoolPage i k).sqs = s.sqs ∧ (s.setPoolPage i k).cqs = s.cqs ∧
    (s.setPoolPage i k).refOps = s.refOps ∧ (s.setPoolPage i k).switches = s.switches ∧ (s.setPoolPage i k).mcBind = s.mcBind ∧
    (s.setPoolPage i k).mcWait = s.mcWait ∧ (s.setPoolPage i k).eid = s.eid ∧ (s.setPoolPage i k).lastFn = s.lastFn ∧
    (s.setPoolPage i k).pwr = s.pwr ∧ (s.setPoolPage i k).slack = s.slack ∧ (s.setPoolPage i k).cus = s.cus ∧
    (s.setPoolPage i k).lring = s.lring ∧ (s.setPoolPage i k).sessions = s.sessions ∧ (s.setPoolPage i k).spdm = s.spdm ∧
    (s.setPoolPage i k).seals = s.seals ∧ (s.setPoolPage i k).fw = s.fw ∧ (s.setPoolPage i k).boot = s.boot ∧
    (s.setPoolPage i k).pcie = s.pcie ∧ (s.setPoolPage i k).panel = s.panel :=
  by repeat' constructor

@[simp] theorem setArena_frame (i : Nat) (k : Option Nat) :
    (s.setArena i k).pending = s.pending ∧ (s.setArena i k).out = s.out ∧ (s.setArena i k).freeCtr = s.freeCtr ∧
    (s.setArena i k).regs = s.regs ∧ (s.setArena i k).host = s.host ∧ (s.setArena i k).now = s.now ∧
    (s.setArena i k).cores = s.cores ∧ (s.setArena i k).spad = s.spad ∧ (s.setArena i k).spadWritten = s.spadWritten ∧
    (s.setArena i k).spadPoison = s.spadPoison ∧ (s.setArena i k).engines = s.engines ∧ (s.setArena i k).buckets = s.buckets ∧
    (s.setArena i k).hbm = s.hbm ∧ (s.setArena i k).poison = s.poison ∧ (s.setArena i k).tags = s.tags ∧
    (s.setArena i k).groups = s.groups ∧ (s.setArena i k).regions = s.regions ∧ (s.setArena i k).ways = s.ways ∧
    (s.setArena i k).lines = s.lines ∧ (s.setArena i k).cacheClock = s.cacheClock ∧ (s.setArena i k).withheld = s.withheld ∧
    (s.setArena i k).repairRows = s.repairRows ∧ (s.setArena i k).l1 = s.l1 ∧ (s.setArena i k).l2 = s.l2 ∧
    (s.setArena i k).invq = s.invq ∧ (s.setArena i k).inWins = s.inWins ∧ (s.setArena i k).outWins = s.outWins ∧
    (s.setArena i k).txns = s.txns ∧ (s.setArena i k).nextTag = s.nextTag ∧ (s.setArena i k).objs = s.objs ∧
    (s.setArena i k).trees = s.trees ∧ (s.setArena i k).parts = s.parts ∧ (s.setArena i k).insts = s.insts ∧
    (s.setArena i k).intake = s.intake ∧ (s.setArena i k).pool = s.pool ∧ (s.setArena i k).atc = s.atc ∧
    (s.setArena i k).levels = s.levels ∧ (s.setArena i k).tokens = s.tokens ∧ (s.setArena i k).urgency = s.urgency ∧
    (s.setArena i k).aged = s.aged ∧ (s.setArena i k).served = s.served ∧ (s.setArena i k).refreshes = s.refreshes ∧
    (s.setArena i k).scrub = s.scrub ∧ (s.setArena i k).links = s.links ∧ (s.setArena i k).cages = s.cages ∧
    (s.setArena i k).rteAct = s.rteAct ∧ (s.setArena i k).rteStg = s.rteStg ∧ (s.setArena i k).rxTxns = s.rxTxns ∧
    (s.setArena i k).time = s.time ∧ (s.setArena i k).winQ = s.winQ ∧ (s.setArena i k).clus = s.clus ∧
    (s.setArena i k).events = s.events ∧ (s.setArena i k).eventsWait = s.eventsWait ∧ (s.setArena i k).eventSeq = s.eventSeq ∧
    (s.setArena i k).descs = s.descs ∧ (s.setArena i k).nextDesc = s.nextDesc ∧ (s.setArena i k).sqs = s.sqs ∧
    (s.setArena i k).cqs = s.cqs ∧ (s.setArena i k).refOps = s.refOps ∧ (s.setArena i k).switches = s.switches ∧
    (s.setArena i k).mcBind = s.mcBind ∧ (s.setArena i k).mcWait = s.mcWait ∧ (s.setArena i k).eid = s.eid ∧
    (s.setArena i k).lastFn = s.lastFn ∧ (s.setArena i k).pwr = s.pwr ∧ (s.setArena i k).slack = s.slack ∧
    (s.setArena i k).cus = s.cus ∧ (s.setArena i k).lring = s.lring ∧ (s.setArena i k).sessions = s.sessions ∧
    (s.setArena i k).spdm = s.spdm ∧ (s.setArena i k).seals = s.seals ∧ (s.setArena i k).fw = s.fw ∧
    (s.setArena i k).boot = s.boot ∧ (s.setArena i k).pcie = s.pcie ∧ (s.setArena i k).panel = s.panel :=
  by repeat' constructor

@[simp] theorem setLevel_frame (g : Nat) (k : Level) :
    (s.setLevel g k).pending = s.pending ∧ (s.setLevel g k).out = s.out ∧ (s.setLevel g k).freeCtr = s.freeCtr ∧
    (s.setLevel g k).regs = s.regs ∧ (s.setLevel g k).host = s.host ∧ (s.setLevel g k).now = s.now ∧
    (s.setLevel g k).cores = s.cores ∧ (s.setLevel g k).spad = s.spad ∧ (s.setLevel g k).spadWritten = s.spadWritten ∧
    (s.setLevel g k).spadPoison = s.spadPoison ∧ (s.setLevel g k).engines = s.engines ∧ (s.setLevel g k).buckets = s.buckets ∧
    (s.setLevel g k).hbm = s.hbm ∧ (s.setLevel g k).poison = s.poison ∧ (s.setLevel g k).tags = s.tags ∧
    (s.setLevel g k).groups = s.groups ∧ (s.setLevel g k).regions = s.regions ∧ (s.setLevel g k).ways = s.ways ∧
    (s.setLevel g k).lines = s.lines ∧ (s.setLevel g k).cacheClock = s.cacheClock ∧ (s.setLevel g k).withheld = s.withheld ∧
    (s.setLevel g k).repairRows = s.repairRows ∧ (s.setLevel g k).l1 = s.l1 ∧ (s.setLevel g k).l2 = s.l2 ∧
    (s.setLevel g k).invq = s.invq ∧ (s.setLevel g k).inWins = s.inWins ∧ (s.setLevel g k).outWins = s.outWins ∧
    (s.setLevel g k).txns = s.txns ∧ (s.setLevel g k).nextTag = s.nextTag ∧ (s.setLevel g k).objs = s.objs ∧
    (s.setLevel g k).trees = s.trees ∧ (s.setLevel g k).parts = s.parts ∧ (s.setLevel g k).insts = s.insts ∧
    (s.setLevel g k).intake = s.intake ∧ (s.setLevel g k).pool = s.pool ∧ (s.setLevel g k).arena = s.arena ∧
    (s.setLevel g k).atc = s.atc ∧ (s.setLevel g k).tokens = s.tokens ∧ (s.setLevel g k).urgency = s.urgency ∧
    (s.setLevel g k).aged = s.aged ∧ (s.setLevel g k).served = s.served ∧ (s.setLevel g k).refreshes = s.refreshes ∧
    (s.setLevel g k).scrub = s.scrub ∧ (s.setLevel g k).links = s.links ∧ (s.setLevel g k).cages = s.cages ∧
    (s.setLevel g k).rteAct = s.rteAct ∧ (s.setLevel g k).rteStg = s.rteStg ∧ (s.setLevel g k).rxTxns = s.rxTxns ∧
    (s.setLevel g k).time = s.time ∧ (s.setLevel g k).winQ = s.winQ ∧ (s.setLevel g k).clus = s.clus ∧
    (s.setLevel g k).events = s.events ∧ (s.setLevel g k).eventsWait = s.eventsWait ∧ (s.setLevel g k).eventSeq = s.eventSeq ∧
    (s.setLevel g k).descs = s.descs ∧ (s.setLevel g k).nextDesc = s.nextDesc ∧ (s.setLevel g k).sqs = s.sqs ∧
    (s.setLevel g k).cqs = s.cqs ∧ (s.setLevel g k).refOps = s.refOps ∧ (s.setLevel g k).switches = s.switches ∧
    (s.setLevel g k).mcBind = s.mcBind ∧ (s.setLevel g k).mcWait = s.mcWait ∧ (s.setLevel g k).eid = s.eid ∧
    (s.setLevel g k).lastFn = s.lastFn ∧ (s.setLevel g k).pwr = s.pwr ∧ (s.setLevel g k).slack = s.slack ∧
    (s.setLevel g k).cus = s.cus ∧ (s.setLevel g k).lring = s.lring ∧ (s.setLevel g k).sessions = s.sessions ∧
    (s.setLevel g k).spdm = s.spdm ∧ (s.setLevel g k).seals = s.seals ∧ (s.setLevel g k).fw = s.fw ∧
    (s.setLevel g k).boot = s.boot ∧ (s.setLevel g k).pcie = s.pcie ∧ (s.setLevel g k).panel = s.panel :=
  by repeat' constructor

@[simp] theorem setPort_frame (m : Nat) (k : Port) :
    (s.setPort m k).pending = s.pending ∧ (s.setPort m k).out = s.out ∧ (s.setPort m k).freeCtr = s.freeCtr ∧
    (s.setPort m k).regs = s.regs ∧ (s.setPort m k).host = s.host ∧ (s.setPort m k).now = s.now ∧
    (s.setPort m k).cores = s.cores ∧ (s.setPort m k).spad = s.spad ∧ (s.setPort m k).spadWritten = s.spadWritten ∧
    (s.setPort m k).spadPoison = s.spadPoison ∧ (s.setPort m k).engines = s.engines ∧
    (s.setPort m k).buckets = s.buckets ∧ (s.setPort m k).hbm = s.hbm ∧ (s.setPort m k).poison = s.poison ∧
    (s.setPort m k).tags = s.tags ∧ (s.setPort m k).groups = s.groups ∧ (s.setPort m k).regions = s.regions ∧
    (s.setPort m k).ways = s.ways ∧ (s.setPort m k).lines = s.lines ∧ (s.setPort m k).cacheClock = s.cacheClock ∧
    (s.setPort m k).withheld = s.withheld ∧ (s.setPort m k).repairRows = s.repairRows ∧ (s.setPort m k).l1 = s.l1 ∧
    (s.setPort m k).l2 = s.l2 ∧ (s.setPort m k).invq = s.invq ∧ (s.setPort m k).inWins = s.inWins ∧
    (s.setPort m k).outWins = s.outWins ∧ (s.setPort m k).txns = s.txns ∧ (s.setPort m k).nextTag = s.nextTag ∧
    (s.setPort m k).objs = s.objs ∧ (s.setPort m k).trees = s.trees ∧ (s.setPort m k).parts = s.parts ∧
    (s.setPort m k).insts = s.insts ∧ (s.setPort m k).intake = s.intake ∧ (s.setPort m k).pool = s.pool ∧
    (s.setPort m k).arena = s.arena ∧ (s.setPort m k).atc = s.atc ∧ (s.setPort m k).levels = s.levels ∧
    (s.setPort m k).urgency = s.urgency ∧ (s.setPort m k).aged = s.aged ∧ (s.setPort m k).served = s.served ∧
    (s.setPort m k).refreshes = s.refreshes ∧ (s.setPort m k).scrub = s.scrub ∧ (s.setPort m k).links = s.links ∧
    (s.setPort m k).cages = s.cages ∧ (s.setPort m k).rteAct = s.rteAct ∧ (s.setPort m k).rteStg = s.rteStg ∧
    (s.setPort m k).rxTxns = s.rxTxns ∧ (s.setPort m k).time = s.time ∧ (s.setPort m k).winQ = s.winQ ∧
    (s.setPort m k).clus = s.clus ∧ (s.setPort m k).events = s.events ∧ (s.setPort m k).eventsWait = s.eventsWait ∧
    (s.setPort m k).eventSeq = s.eventSeq ∧ (s.setPort m k).descs = s.descs ∧ (s.setPort m k).nextDesc = s.nextDesc ∧
    (s.setPort m k).sqs = s.sqs ∧ (s.setPort m k).cqs = s.cqs ∧ (s.setPort m k).refOps = s.refOps ∧
    (s.setPort m k).switches = s.switches ∧ (s.setPort m k).mcBind = s.mcBind ∧ (s.setPort m k).mcWait = s.mcWait ∧
    (s.setPort m k).eid = s.eid ∧ (s.setPort m k).lastFn = s.lastFn ∧ (s.setPort m k).pwr = s.pwr ∧
    (s.setPort m k).slack = s.slack ∧ (s.setPort m k).cus = s.cus ∧ (s.setPort m k).lring = s.lring ∧
    (s.setPort m k).sessions = s.sessions ∧ (s.setPort m k).spdm = s.spdm ∧ (s.setPort m k).seals = s.seals ∧
    (s.setPort m k).fw = s.fw ∧ (s.setPort m k).boot = s.boot ∧ (s.setPort m k).pcie = s.pcie ∧
    (s.setPort m k).panel = s.panel :=
  by repeat' constructor

@[simp] theorem setTokens_frame (m k : Nat) :
    (s.setTokens m k).pending = s.pending ∧ (s.setTokens m k).out = s.out ∧ (s.setTokens m k).freeCtr = s.freeCtr ∧
    (s.setTokens m k).regs = s.regs ∧ (s.setTokens m k).host = s.host ∧ (s.setTokens m k).now = s.now ∧
    (s.setTokens m k).cores = s.cores ∧ (s.setTokens m k).spad = s.spad ∧ (s.setTokens m k).spadWritten = s.spadWritten ∧
    (s.setTokens m k).spadPoison = s.spadPoison ∧ (s.setTokens m k).engines = s.engines ∧
    (s.setTokens m k).buckets = s.buckets ∧ (s.setTokens m k).hbm = s.hbm ∧ (s.setTokens m k).poison = s.poison ∧
    (s.setTokens m k).tags = s.tags ∧ (s.setTokens m k).groups = s.groups ∧ (s.setTokens m k).regions = s.regions ∧
    (s.setTokens m k).ways = s.ways ∧ (s.setTokens m k).lines = s.lines ∧ (s.setTokens m k).cacheClock = s.cacheClock ∧
    (s.setTokens m k).withheld = s.withheld ∧ (s.setTokens m k).repairRows = s.repairRows ∧ (s.setTokens m k).l1 = s.l1 ∧
    (s.setTokens m k).l2 = s.l2 ∧ (s.setTokens m k).invq = s.invq ∧ (s.setTokens m k).inWins = s.inWins ∧
    (s.setTokens m k).outWins = s.outWins ∧ (s.setTokens m k).txns = s.txns ∧ (s.setTokens m k).nextTag = s.nextTag ∧
    (s.setTokens m k).objs = s.objs ∧ (s.setTokens m k).trees = s.trees ∧ (s.setTokens m k).parts = s.parts ∧
    (s.setTokens m k).insts = s.insts ∧ (s.setTokens m k).intake = s.intake ∧ (s.setTokens m k).pool = s.pool ∧
    (s.setTokens m k).arena = s.arena ∧ (s.setTokens m k).atc = s.atc ∧ (s.setTokens m k).levels = s.levels ∧
    (s.setTokens m k).urgency = s.urgency ∧ (s.setTokens m k).aged = s.aged ∧ (s.setTokens m k).served = s.served ∧
    (s.setTokens m k).refreshes = s.refreshes ∧ (s.setTokens m k).scrub = s.scrub ∧ (s.setTokens m k).links = s.links ∧
    (s.setTokens m k).cages = s.cages ∧ (s.setTokens m k).rteAct = s.rteAct ∧ (s.setTokens m k).rteStg = s.rteStg ∧
    (s.setTokens m k).rxTxns = s.rxTxns ∧ (s.setTokens m k).time = s.time ∧ (s.setTokens m k).winQ = s.winQ ∧
    (s.setTokens m k).clus = s.clus ∧ (s.setTokens m k).events = s.events ∧ (s.setTokens m k).eventsWait = s.eventsWait ∧
    (s.setTokens m k).eventSeq = s.eventSeq ∧ (s.setTokens m k).descs = s.descs ∧ (s.setTokens m k).nextDesc = s.nextDesc ∧
    (s.setTokens m k).sqs = s.sqs ∧ (s.setTokens m k).cqs = s.cqs ∧ (s.setTokens m k).refOps = s.refOps ∧
    (s.setTokens m k).switches = s.switches ∧ (s.setTokens m k).mcBind = s.mcBind ∧ (s.setTokens m k).mcWait = s.mcWait ∧
    (s.setTokens m k).eid = s.eid ∧ (s.setTokens m k).lastFn = s.lastFn ∧ (s.setTokens m k).pwr = s.pwr ∧
    (s.setTokens m k).slack = s.slack ∧ (s.setTokens m k).cus = s.cus ∧ (s.setTokens m k).lring = s.lring ∧
    (s.setTokens m k).sessions = s.sessions ∧ (s.setTokens m k).spdm = s.spdm ∧ (s.setTokens m k).seals = s.seals ∧
    (s.setTokens m k).fw = s.fw ∧ (s.setTokens m k).boot = s.boot ∧ (s.setTokens m k).pcie = s.pcie ∧
    (s.setTokens m k).panel = s.panel :=
  by repeat' constructor

@[simp] theorem setUrgency_frame (m k : Nat) :
    (s.setUrgency m k).pending = s.pending ∧ (s.setUrgency m k).out = s.out ∧ (s.setUrgency m k).freeCtr = s.freeCtr ∧
    (s.setUrgency m k).regs = s.regs ∧ (s.setUrgency m k).host = s.host ∧ (s.setUrgency m k).now = s.now ∧
    (s.setUrgency m k).cores = s.cores ∧ (s.setUrgency m k).spad = s.spad ∧ (s.setUrgency m k).spadWritten = s.spadWritten ∧
    (s.setUrgency m k).spadPoison = s.spadPoison ∧ (s.setUrgency m k).engines = s.engines ∧
    (s.setUrgency m k).buckets = s.buckets ∧ (s.setUrgency m k).hbm = s.hbm ∧ (s.setUrgency m k).poison = s.poison ∧
    (s.setUrgency m k).tags = s.tags ∧ (s.setUrgency m k).groups = s.groups ∧ (s.setUrgency m k).regions = s.regions ∧
    (s.setUrgency m k).ways = s.ways ∧ (s.setUrgency m k).lines = s.lines ∧ (s.setUrgency m k).cacheClock = s.cacheClock ∧
    (s.setUrgency m k).withheld = s.withheld ∧ (s.setUrgency m k).repairRows = s.repairRows ∧ (s.setUrgency m k).l1 = s.l1 ∧
    (s.setUrgency m k).l2 = s.l2 ∧ (s.setUrgency m k).invq = s.invq ∧ (s.setUrgency m k).inWins = s.inWins ∧
    (s.setUrgency m k).outWins = s.outWins ∧ (s.setUrgency m k).txns = s.txns ∧ (s.setUrgency m k).nextTag = s.nextTag ∧
    (s.setUrgency m k).objs = s.objs ∧ (s.setUrgency m k).trees = s.trees ∧ (s.setUrgency m k).parts = s.parts ∧
    (s.setUrgency m k).insts = s.insts ∧ (s.setUrgency m k).intake = s.intake ∧ (s.setUrgency m k).pool = s.pool ∧
    (s.setUrgency m k).arena = s.arena ∧ (s.setUrgency m k).atc = s.atc ∧ (s.setUrgency m k).levels = s.levels ∧
    (s.setUrgency m k).tokens = s.tokens ∧ (s.setUrgency m k).aged = s.aged ∧ (s.setUrgency m k).served = s.served ∧
    (s.setUrgency m k).refreshes = s.refreshes ∧ (s.setUrgency m k).scrub = s.scrub ∧ (s.setUrgency m k).links = s.links ∧
    (s.setUrgency m k).cages = s.cages ∧ (s.setUrgency m k).rteAct = s.rteAct ∧ (s.setUrgency m k).rteStg = s.rteStg ∧
    (s.setUrgency m k).rxTxns = s.rxTxns ∧ (s.setUrgency m k).time = s.time ∧ (s.setUrgency m k).winQ = s.winQ ∧
    (s.setUrgency m k).clus = s.clus ∧ (s.setUrgency m k).events = s.events ∧ (s.setUrgency m k).eventsWait = s.eventsWait ∧
    (s.setUrgency m k).eventSeq = s.eventSeq ∧ (s.setUrgency m k).descs = s.descs ∧ (s.setUrgency m k).nextDesc = s.nextDesc ∧
    (s.setUrgency m k).sqs = s.sqs ∧ (s.setUrgency m k).cqs = s.cqs ∧ (s.setUrgency m k).refOps = s.refOps ∧
    (s.setUrgency m k).switches = s.switches ∧ (s.setUrgency m k).mcBind = s.mcBind ∧ (s.setUrgency m k).mcWait = s.mcWait ∧
    (s.setUrgency m k).eid = s.eid ∧ (s.setUrgency m k).lastFn = s.lastFn ∧ (s.setUrgency m k).pwr = s.pwr ∧
    (s.setUrgency m k).slack = s.slack ∧ (s.setUrgency m k).cus = s.cus ∧ (s.setUrgency m k).lring = s.lring ∧
    (s.setUrgency m k).sessions = s.sessions ∧ (s.setUrgency m k).spdm = s.spdm ∧ (s.setUrgency m k).seals = s.seals ∧
    (s.setUrgency m k).fw = s.fw ∧ (s.setUrgency m k).boot = s.boot ∧ (s.setUrgency m k).pcie = s.pcie ∧
    (s.setUrgency m k).panel = s.panel :=
  by repeat' constructor

@[simp] theorem setServed_frame (i : Nat) (k : HomeWin) :
    (s.setServed i k).pending = s.pending ∧ (s.setServed i k).out = s.out ∧ (s.setServed i k).freeCtr = s.freeCtr ∧
    (s.setServed i k).regs = s.regs ∧ (s.setServed i k).host = s.host ∧ (s.setServed i k).now = s.now ∧
    (s.setServed i k).cores = s.cores ∧ (s.setServed i k).spad = s.spad ∧ (s.setServed i k).spadWritten = s.spadWritten ∧
    (s.setServed i k).spadPoison = s.spadPoison ∧ (s.setServed i k).engines = s.engines ∧
    (s.setServed i k).buckets = s.buckets ∧ (s.setServed i k).hbm = s.hbm ∧ (s.setServed i k).poison = s.poison ∧
    (s.setServed i k).tags = s.tags ∧ (s.setServed i k).groups = s.groups ∧ (s.setServed i k).regions = s.regions ∧
    (s.setServed i k).ways = s.ways ∧ (s.setServed i k).lines = s.lines ∧ (s.setServed i k).cacheClock = s.cacheClock ∧
    (s.setServed i k).withheld = s.withheld ∧ (s.setServed i k).repairRows = s.repairRows ∧ (s.setServed i k).l1 = s.l1 ∧
    (s.setServed i k).l2 = s.l2 ∧ (s.setServed i k).invq = s.invq ∧ (s.setServed i k).inWins = s.inWins ∧
    (s.setServed i k).outWins = s.outWins ∧ (s.setServed i k).txns = s.txns ∧ (s.setServed i k).nextTag = s.nextTag ∧
    (s.setServed i k).objs = s.objs ∧ (s.setServed i k).trees = s.trees ∧ (s.setServed i k).parts = s.parts ∧
    (s.setServed i k).insts = s.insts ∧ (s.setServed i k).intake = s.intake ∧ (s.setServed i k).pool = s.pool ∧
    (s.setServed i k).arena = s.arena ∧ (s.setServed i k).atc = s.atc ∧ (s.setServed i k).levels = s.levels ∧
    (s.setServed i k).tokens = s.tokens ∧ (s.setServed i k).urgency = s.urgency ∧ (s.setServed i k).aged = s.aged ∧
    (s.setServed i k).refreshes = s.refreshes ∧ (s.setServed i k).scrub = s.scrub ∧ (s.setServed i k).links = s.links ∧
    (s.setServed i k).cages = s.cages ∧ (s.setServed i k).rteAct = s.rteAct ∧ (s.setServed i k).rteStg = s.rteStg ∧
    (s.setServed i k).rxTxns = s.rxTxns ∧ (s.setServed i k).time = s.time ∧ (s.setServed i k).winQ = s.winQ ∧
    (s.setServed i k).clus = s.clus ∧ (s.setServed i k).events = s.events ∧ (s.setServed i k).eventsWait = s.eventsWait ∧
    (s.setServed i k).eventSeq = s.eventSeq ∧ (s.setServed i k).descs = s.descs ∧ (s.setServed i k).nextDesc = s.nextDesc ∧
    (s.setServed i k).sqs = s.sqs ∧ (s.setServed i k).cqs = s.cqs ∧ (s.setServed i k).refOps = s.refOps ∧
    (s.setServed i k).switches = s.switches ∧ (s.setServed i k).mcBind = s.mcBind ∧ (s.setServed i k).mcWait = s.mcWait ∧
    (s.setServed i k).eid = s.eid ∧ (s.setServed i k).lastFn = s.lastFn ∧ (s.setServed i k).pwr = s.pwr ∧
    (s.setServed i k).slack = s.slack ∧ (s.setServed i k).cus = s.cus ∧ (s.setServed i k).lring = s.lring ∧
    (s.setServed i k).sessions = s.sessions ∧ (s.setServed i k).spdm = s.spdm ∧ (s.setServed i k).seals = s.seals ∧
    (s.setServed i k).fw = s.fw ∧ (s.setServed i k).boot = s.boot ∧ (s.setServed i k).pcie = s.pcie ∧
    (s.setServed i k).panel = s.panel :=
  by repeat' constructor

@[simp] theorem setLnk_frame (i : Nat) (k : Link) :
    (s.setLnk i k).pending = s.pending ∧ (s.setLnk i k).out = s.out ∧ (s.setLnk i k).freeCtr = s.freeCtr ∧
    (s.setLnk i k).regs = s.regs ∧ (s.setLnk i k).host = s.host ∧ (s.setLnk i k).now = s.now ∧ (s.setLnk i k).cores = s.cores ∧
    (s.setLnk i k).spad = s.spad ∧ (s.setLnk i k).spadWritten = s.spadWritten ∧ (s.setLnk i k).spadPoison = s.spadPoison ∧
    (s.setLnk i k).engines = s.engines ∧ (s.setLnk i k).buckets = s.buckets ∧ (s.setLnk i k).hbm = s.hbm ∧
    (s.setLnk i k).poison = s.poison ∧ (s.setLnk i k).tags = s.tags ∧ (s.setLnk i k).groups = s.groups ∧
    (s.setLnk i k).regions = s.regions ∧ (s.setLnk i k).ways = s.ways ∧ (s.setLnk i k).lines = s.lines ∧
    (s.setLnk i k).cacheClock = s.cacheClock ∧ (s.setLnk i k).withheld = s.withheld ∧
    (s.setLnk i k).repairRows = s.repairRows ∧ (s.setLnk i k).l1 = s.l1 ∧ (s.setLnk i k).l2 = s.l2 ∧
    (s.setLnk i k).invq = s.invq ∧ (s.setLnk i k).inWins = s.inWins ∧ (s.setLnk i k).outWins = s.outWins ∧
    (s.setLnk i k).txns = s.txns ∧ (s.setLnk i k).nextTag = s.nextTag ∧ (s.setLnk i k).objs = s.objs ∧
    (s.setLnk i k).trees = s.trees ∧ (s.setLnk i k).parts = s.parts ∧ (s.setLnk i k).insts = s.insts ∧
    (s.setLnk i k).intake = s.intake ∧ (s.setLnk i k).pool = s.pool ∧ (s.setLnk i k).arena = s.arena ∧
    (s.setLnk i k).atc = s.atc ∧ (s.setLnk i k).levels = s.levels ∧ (s.setLnk i k).tokens = s.tokens ∧
    (s.setLnk i k).urgency = s.urgency ∧ (s.setLnk i k).aged = s.aged ∧ (s.setLnk i k).served = s.served ∧
    (s.setLnk i k).refreshes = s.refreshes ∧ (s.setLnk i k).scrub = s.scrub ∧ (s.setLnk i k).cages = s.cages ∧
    (s.setLnk i k).rteAct = s.rteAct ∧ (s.setLnk i k).rteStg = s.rteStg ∧ (s.setLnk i k).rxTxns = s.rxTxns ∧
    (s.setLnk i k).time = s.time ∧ (s.setLnk i k).winQ = s.winQ ∧ (s.setLnk i k).clus = s.clus ∧
    (s.setLnk i k).events = s.events ∧ (s.setLnk i k).eventsWait = s.eventsWait ∧ (s.setLnk i k).eventSeq = s.eventSeq ∧
    (s.setLnk i k).descs = s.descs ∧ (s.setLnk i k).nextDesc = s.nextDesc ∧ (s.setLnk i k).sqs = s.sqs ∧
    (s.setLnk i k).cqs = s.cqs ∧ (s.setLnk i k).refOps = s.refOps ∧ (s.setLnk i k).switches = s.switches ∧
    (s.setLnk i k).mcBind = s.mcBind ∧ (s.setLnk i k).mcWait = s.mcWait ∧ (s.setLnk i k).eid = s.eid ∧
    (s.setLnk i k).lastFn = s.lastFn ∧ (s.setLnk i k).pwr = s.pwr ∧ (s.setLnk i k).slack = s.slack ∧
    (s.setLnk i k).cus = s.cus ∧ (s.setLnk i k).lring = s.lring ∧ (s.setLnk i k).sessions = s.sessions ∧
    (s.setLnk i k).spdm = s.spdm ∧ (s.setLnk i k).seals = s.seals ∧ (s.setLnk i k).fw = s.fw ∧ (s.setLnk i k).boot = s.boot ∧
    (s.setLnk i k).pcie = s.pcie ∧ (s.setLnk i k).panel = s.panel :=
  by repeat' constructor

@[simp] theorem setCage_frame (i : Nat) (k : Cage) :
    (s.setCage i k).pending = s.pending ∧ (s.setCage i k).out = s.out ∧ (s.setCage i k).freeCtr = s.freeCtr ∧
    (s.setCage i k).regs = s.regs ∧ (s.setCage i k).host = s.host ∧ (s.setCage i k).now = s.now ∧
    (s.setCage i k).cores = s.cores ∧ (s.setCage i k).spad = s.spad ∧ (s.setCage i k).spadWritten = s.spadWritten ∧
    (s.setCage i k).spadPoison = s.spadPoison ∧ (s.setCage i k).engines = s.engines ∧ (s.setCage i k).buckets = s.buckets ∧
    (s.setCage i k).hbm = s.hbm ∧ (s.setCage i k).poison = s.poison ∧ (s.setCage i k).tags = s.tags ∧
    (s.setCage i k).groups = s.groups ∧ (s.setCage i k).regions = s.regions ∧ (s.setCage i k).ways = s.ways ∧
    (s.setCage i k).lines = s.lines ∧ (s.setCage i k).cacheClock = s.cacheClock ∧ (s.setCage i k).withheld = s.withheld ∧
    (s.setCage i k).repairRows = s.repairRows ∧ (s.setCage i k).l1 = s.l1 ∧ (s.setCage i k).l2 = s.l2 ∧
    (s.setCage i k).invq = s.invq ∧ (s.setCage i k).inWins = s.inWins ∧ (s.setCage i k).outWins = s.outWins ∧
    (s.setCage i k).txns = s.txns ∧ (s.setCage i k).nextTag = s.nextTag ∧ (s.setCage i k).objs = s.objs ∧
    (s.setCage i k).trees = s.trees ∧ (s.setCage i k).parts = s.parts ∧ (s.setCage i k).insts = s.insts ∧
    (s.setCage i k).intake = s.intake ∧ (s.setCage i k).pool = s.pool ∧ (s.setCage i k).arena = s.arena ∧
    (s.setCage i k).atc = s.atc ∧ (s.setCage i k).levels = s.levels ∧ (s.setCage i k).tokens = s.tokens ∧
    (s.setCage i k).urgency = s.urgency ∧ (s.setCage i k).aged = s.aged ∧ (s.setCage i k).served = s.served ∧
    (s.setCage i k).refreshes = s.refreshes ∧ (s.setCage i k).scrub = s.scrub ∧ (s.setCage i k).links = s.links ∧
    (s.setCage i k).rteAct = s.rteAct ∧ (s.setCage i k).rteStg = s.rteStg ∧ (s.setCage i k).rxTxns = s.rxTxns ∧
    (s.setCage i k).time = s.time ∧ (s.setCage i k).winQ = s.winQ ∧ (s.setCage i k).clus = s.clus ∧
    (s.setCage i k).events = s.events ∧ (s.setCage i k).eventsWait = s.eventsWait ∧ (s.setCage i k).eventSeq = s.eventSeq ∧
    (s.setCage i k).descs = s.descs ∧ (s.setCage i k).nextDesc = s.nextDesc ∧ (s.setCage i k).sqs = s.sqs ∧
    (s.setCage i k).cqs = s.cqs ∧ (s.setCage i k).refOps = s.refOps ∧ (s.setCage i k).switches = s.switches ∧
    (s.setCage i k).mcBind = s.mcBind ∧ (s.setCage i k).mcWait = s.mcWait ∧ (s.setCage i k).eid = s.eid ∧
    (s.setCage i k).lastFn = s.lastFn ∧ (s.setCage i k).pwr = s.pwr ∧ (s.setCage i k).slack = s.slack ∧
    (s.setCage i k).cus = s.cus ∧ (s.setCage i k).lring = s.lring ∧ (s.setCage i k).sessions = s.sessions ∧
    (s.setCage i k).spdm = s.spdm ∧ (s.setCage i k).seals = s.seals ∧ (s.setCage i k).fw = s.fw ∧
    (s.setCage i k).boot = s.boot ∧ (s.setCage i k).pcie = s.pcie ∧ (s.setCage i k).panel = s.panel :=
  by repeat' constructor

@[simp] theorem setClu_frame (k : Nat) (c : Cluster) :
    (s.setClu k c).pending = s.pending ∧ (s.setClu k c).out = s.out ∧ (s.setClu k c).freeCtr = s.freeCtr ∧
    (s.setClu k c).regs = s.regs ∧ (s.setClu k c).host = s.host ∧ (s.setClu k c).now = s.now ∧ (s.setClu k c).cores = s.cores ∧
    (s.setClu k c).spad = s.spad ∧ (s.setClu k c).spadWritten = s.spadWritten ∧ (s.setClu k c).spadPoison = s.spadPoison ∧
    (s.setClu k c).engines = s.engines ∧ (s.setClu k c).buckets = s.buckets ∧ (s.setClu k c).hbm = s.hbm ∧
    (s.setClu k c).poison = s.poison ∧ (s.setClu k c).tags = s.tags ∧ (s.setClu k c).groups = s.groups ∧
    (s.setClu k c).regions = s.regions ∧ (s.setClu k c).ways = s.ways ∧ (s.setClu k c).lines = s.lines ∧
    (s.setClu k c).cacheClock = s.cacheClock ∧ (s.setClu k c).withheld = s.withheld ∧
    (s.setClu k c).repairRows = s.repairRows ∧ (s.setClu k c).l1 = s.l1 ∧ (s.setClu k c).l2 = s.l2 ∧
    (s.setClu k c).invq = s.invq ∧ (s.setClu k c).inWins = s.inWins ∧ (s.setClu k c).outWins = s.outWins ∧
    (s.setClu k c).txns = s.txns ∧ (s.setClu k c).nextTag = s.nextTag ∧ (s.setClu k c).objs = s.objs ∧
    (s.setClu k c).trees = s.trees ∧ (s.setClu k c).parts = s.parts ∧ (s.setClu k c).insts = s.insts ∧
    (s.setClu k c).intake = s.intake ∧ (s.setClu k c).pool = s.pool ∧ (s.setClu k c).arena = s.arena ∧
    (s.setClu k c).atc = s.atc ∧ (s.setClu k c).levels = s.levels ∧ (s.setClu k c).tokens = s.tokens ∧
    (s.setClu k c).urgency = s.urgency ∧ (s.setClu k c).aged = s.aged ∧ (s.setClu k c).served = s.served ∧
    (s.setClu k c).refreshes = s.refreshes ∧ (s.setClu k c).scrub = s.scrub ∧ (s.setClu k c).links = s.links ∧
    (s.setClu k c).cages = s.cages ∧ (s.setClu k c).rteAct = s.rteAct ∧ (s.setClu k c).rteStg = s.rteStg ∧
    (s.setClu k c).rxTxns = s.rxTxns ∧ (s.setClu k c).time = s.time ∧ (s.setClu k c).winQ = s.winQ ∧
    (s.setClu k c).events = s.events ∧ (s.setClu k c).eventsWait = s.eventsWait ∧ (s.setClu k c).eventSeq = s.eventSeq ∧
    (s.setClu k c).descs = s.descs ∧ (s.setClu k c).nextDesc = s.nextDesc ∧ (s.setClu k c).sqs = s.sqs ∧
    (s.setClu k c).cqs = s.cqs ∧ (s.setClu k c).refOps = s.refOps ∧ (s.setClu k c).switches = s.switches ∧
    (s.setClu k c).mcBind = s.mcBind ∧ (s.setClu k c).mcWait = s.mcWait ∧ (s.setClu k c).eid = s.eid ∧
    (s.setClu k c).lastFn = s.lastFn ∧ (s.setClu k c).pwr = s.pwr ∧ (s.setClu k c).slack = s.slack ∧
    (s.setClu k c).cus = s.cus ∧ (s.setClu k c).lring = s.lring ∧ (s.setClu k c).sessions = s.sessions ∧
    (s.setClu k c).spdm = s.spdm ∧ (s.setClu k c).seals = s.seals ∧ (s.setClu k c).fw = s.fw ∧ (s.setClu k c).boot = s.boot ∧
    (s.setClu k c).pcie = s.pcie ∧ (s.setClu k c).panel = s.panel :=
  by repeat' constructor

@[simp] theorem setRxTxn_frame (i : Nat) (k : Option RxTxn) :
    (s.setRxTxn i k).pending = s.pending ∧ (s.setRxTxn i k).out = s.out ∧ (s.setRxTxn i k).freeCtr = s.freeCtr ∧
    (s.setRxTxn i k).regs = s.regs ∧ (s.setRxTxn i k).host = s.host ∧ (s.setRxTxn i k).now = s.now ∧
    (s.setRxTxn i k).cores = s.cores ∧ (s.setRxTxn i k).spad = s.spad ∧ (s.setRxTxn i k).spadWritten = s.spadWritten ∧
    (s.setRxTxn i k).spadPoison = s.spadPoison ∧ (s.setRxTxn i k).engines = s.engines ∧ (s.setRxTxn i k).buckets = s.buckets ∧
    (s.setRxTxn i k).hbm = s.hbm ∧ (s.setRxTxn i k).poison = s.poison ∧ (s.setRxTxn i k).tags = s.tags ∧
    (s.setRxTxn i k).groups = s.groups ∧ (s.setRxTxn i k).regions = s.regions ∧ (s.setRxTxn i k).ways = s.ways ∧
    (s.setRxTxn i k).lines = s.lines ∧ (s.setRxTxn i k).cacheClock = s.cacheClock ∧ (s.setRxTxn i k).withheld = s.withheld ∧
    (s.setRxTxn i k).repairRows = s.repairRows ∧ (s.setRxTxn i k).l1 = s.l1 ∧ (s.setRxTxn i k).l2 = s.l2 ∧
    (s.setRxTxn i k).invq = s.invq ∧ (s.setRxTxn i k).inWins = s.inWins ∧ (s.setRxTxn i k).outWins = s.outWins ∧
    (s.setRxTxn i k).txns = s.txns ∧ (s.setRxTxn i k).nextTag = s.nextTag ∧ (s.setRxTxn i k).objs = s.objs ∧
    (s.setRxTxn i k).trees = s.trees ∧ (s.setRxTxn i k).parts = s.parts ∧ (s.setRxTxn i k).insts = s.insts ∧
    (s.setRxTxn i k).intake = s.intake ∧ (s.setRxTxn i k).pool = s.pool ∧ (s.setRxTxn i k).arena = s.arena ∧
    (s.setRxTxn i k).atc = s.atc ∧ (s.setRxTxn i k).levels = s.levels ∧ (s.setRxTxn i k).tokens = s.tokens ∧
    (s.setRxTxn i k).urgency = s.urgency ∧ (s.setRxTxn i k).aged = s.aged ∧ (s.setRxTxn i k).served = s.served ∧
    (s.setRxTxn i k).refreshes = s.refreshes ∧ (s.setRxTxn i k).scrub = s.scrub ∧ (s.setRxTxn i k).links = s.links ∧
    (s.setRxTxn i k).cages = s.cages ∧ (s.setRxTxn i k).rteAct = s.rteAct ∧ (s.setRxTxn i k).rteStg = s.rteStg ∧
    (s.setRxTxn i k).time = s.time ∧ (s.setRxTxn i k).winQ = s.winQ ∧ (s.setRxTxn i k).clus = s.clus ∧
    (s.setRxTxn i k).events = s.events ∧ (s.setRxTxn i k).eventsWait = s.eventsWait ∧ (s.setRxTxn i k).eventSeq = s.eventSeq ∧
    (s.setRxTxn i k).descs = s.descs ∧ (s.setRxTxn i k).nextDesc = s.nextDesc ∧ (s.setRxTxn i k).sqs = s.sqs ∧
    (s.setRxTxn i k).cqs = s.cqs ∧ (s.setRxTxn i k).refOps = s.refOps ∧ (s.setRxTxn i k).switches = s.switches ∧
    (s.setRxTxn i k).mcBind = s.mcBind ∧ (s.setRxTxn i k).mcWait = s.mcWait ∧ (s.setRxTxn i k).eid = s.eid ∧
    (s.setRxTxn i k).lastFn = s.lastFn ∧ (s.setRxTxn i k).pwr = s.pwr ∧ (s.setRxTxn i k).slack = s.slack ∧
    (s.setRxTxn i k).cus = s.cus ∧ (s.setRxTxn i k).lring = s.lring ∧ (s.setRxTxn i k).sessions = s.sessions ∧
    (s.setRxTxn i k).spdm = s.spdm ∧ (s.setRxTxn i k).seals = s.seals ∧ (s.setRxTxn i k).fw = s.fw ∧
    (s.setRxTxn i k).boot = s.boot ∧ (s.setRxTxn i k).pcie = s.pcie ∧ (s.setRxTxn i k).panel = s.panel :=
  by repeat' constructor

@[simp] theorem setSq_frame (fn r : Nat) (k : Sq) :
    (s.setSq fn r k).pending = s.pending ∧ (s.setSq fn r k).out = s.out ∧ (s.setSq fn r k).freeCtr = s.freeCtr ∧
    (s.setSq fn r k).regs = s.regs ∧ (s.setSq fn r k).host = s.host ∧ (s.setSq fn r k).now = s.now ∧
    (s.setSq fn r k).cores = s.cores ∧ (s.setSq fn r k).spad = s.spad ∧ (s.setSq fn r k).spadWritten = s.spadWritten ∧
    (s.setSq fn r k).spadPoison = s.spadPoison ∧ (s.setSq fn r k).engines = s.engines ∧ (s.setSq fn r k).buckets = s.buckets ∧
    (s.setSq fn r k).hbm = s.hbm ∧ (s.setSq fn r k).poison = s.poison ∧ (s.setSq fn r k).tags = s.tags ∧
    (s.setSq fn r k).groups = s.groups ∧ (s.setSq fn r k).regions = s.regions ∧ (s.setSq fn r k).ways = s.ways ∧
    (s.setSq fn r k).lines = s.lines ∧ (s.setSq fn r k).cacheClock = s.cacheClock ∧ (s.setSq fn r k).withheld = s.withheld ∧
    (s.setSq fn r k).repairRows = s.repairRows ∧ (s.setSq fn r k).l1 = s.l1 ∧ (s.setSq fn r k).l2 = s.l2 ∧
    (s.setSq fn r k).invq = s.invq ∧ (s.setSq fn r k).inWins = s.inWins ∧ (s.setSq fn r k).outWins = s.outWins ∧
    (s.setSq fn r k).txns = s.txns ∧ (s.setSq fn r k).nextTag = s.nextTag ∧ (s.setSq fn r k).objs = s.objs ∧
    (s.setSq fn r k).trees = s.trees ∧ (s.setSq fn r k).parts = s.parts ∧ (s.setSq fn r k).insts = s.insts ∧
    (s.setSq fn r k).intake = s.intake ∧ (s.setSq fn r k).pool = s.pool ∧ (s.setSq fn r k).arena = s.arena ∧
    (s.setSq fn r k).atc = s.atc ∧ (s.setSq fn r k).levels = s.levels ∧ (s.setSq fn r k).tokens = s.tokens ∧
    (s.setSq fn r k).urgency = s.urgency ∧ (s.setSq fn r k).aged = s.aged ∧ (s.setSq fn r k).served = s.served ∧
    (s.setSq fn r k).refreshes = s.refreshes ∧ (s.setSq fn r k).scrub = s.scrub ∧ (s.setSq fn r k).links = s.links ∧
    (s.setSq fn r k).cages = s.cages ∧ (s.setSq fn r k).rteAct = s.rteAct ∧ (s.setSq fn r k).rteStg = s.rteStg ∧
    (s.setSq fn r k).rxTxns = s.rxTxns ∧ (s.setSq fn r k).time = s.time ∧ (s.setSq fn r k).winQ = s.winQ ∧
    (s.setSq fn r k).clus = s.clus ∧ (s.setSq fn r k).events = s.events ∧ (s.setSq fn r k).eventsWait = s.eventsWait ∧
    (s.setSq fn r k).eventSeq = s.eventSeq ∧ (s.setSq fn r k).descs = s.descs ∧ (s.setSq fn r k).nextDesc = s.nextDesc ∧
    (s.setSq fn r k).cqs = s.cqs ∧ (s.setSq fn r k).refOps = s.refOps ∧ (s.setSq fn r k).switches = s.switches ∧
    (s.setSq fn r k).mcBind = s.mcBind ∧ (s.setSq fn r k).mcWait = s.mcWait ∧ (s.setSq fn r k).eid = s.eid ∧
    (s.setSq fn r k).lastFn = s.lastFn ∧ (s.setSq fn r k).pwr = s.pwr ∧ (s.setSq fn r k).slack = s.slack ∧
    (s.setSq fn r k).cus = s.cus ∧ (s.setSq fn r k).lring = s.lring ∧ (s.setSq fn r k).sessions = s.sessions ∧
    (s.setSq fn r k).spdm = s.spdm ∧ (s.setSq fn r k).seals = s.seals ∧ (s.setSq fn r k).fw = s.fw ∧
    (s.setSq fn r k).boot = s.boot ∧ (s.setSq fn r k).pcie = s.pcie ∧ (s.setSq fn r k).panel = s.panel :=
  by repeat' constructor

@[simp] theorem setCq_frame (fn r : Nat) (k : Cq) :
    (s.setCq fn r k).pending = s.pending ∧ (s.setCq fn r k).out = s.out ∧ (s.setCq fn r k).freeCtr = s.freeCtr ∧
    (s.setCq fn r k).regs = s.regs ∧ (s.setCq fn r k).host = s.host ∧ (s.setCq fn r k).now = s.now ∧
    (s.setCq fn r k).cores = s.cores ∧ (s.setCq fn r k).spad = s.spad ∧ (s.setCq fn r k).spadWritten = s.spadWritten ∧
    (s.setCq fn r k).spadPoison = s.spadPoison ∧ (s.setCq fn r k).engines = s.engines ∧ (s.setCq fn r k).buckets = s.buckets ∧
    (s.setCq fn r k).hbm = s.hbm ∧ (s.setCq fn r k).poison = s.poison ∧ (s.setCq fn r k).tags = s.tags ∧
    (s.setCq fn r k).groups = s.groups ∧ (s.setCq fn r k).regions = s.regions ∧ (s.setCq fn r k).ways = s.ways ∧
    (s.setCq fn r k).lines = s.lines ∧ (s.setCq fn r k).cacheClock = s.cacheClock ∧ (s.setCq fn r k).withheld = s.withheld ∧
    (s.setCq fn r k).repairRows = s.repairRows ∧ (s.setCq fn r k).l1 = s.l1 ∧ (s.setCq fn r k).l2 = s.l2 ∧
    (s.setCq fn r k).invq = s.invq ∧ (s.setCq fn r k).inWins = s.inWins ∧ (s.setCq fn r k).outWins = s.outWins ∧
    (s.setCq fn r k).txns = s.txns ∧ (s.setCq fn r k).nextTag = s.nextTag ∧ (s.setCq fn r k).objs = s.objs ∧
    (s.setCq fn r k).trees = s.trees ∧ (s.setCq fn r k).parts = s.parts ∧ (s.setCq fn r k).insts = s.insts ∧
    (s.setCq fn r k).intake = s.intake ∧ (s.setCq fn r k).pool = s.pool ∧ (s.setCq fn r k).arena = s.arena ∧
    (s.setCq fn r k).atc = s.atc ∧ (s.setCq fn r k).levels = s.levels ∧ (s.setCq fn r k).tokens = s.tokens ∧
    (s.setCq fn r k).urgency = s.urgency ∧ (s.setCq fn r k).aged = s.aged ∧ (s.setCq fn r k).served = s.served ∧
    (s.setCq fn r k).refreshes = s.refreshes ∧ (s.setCq fn r k).scrub = s.scrub ∧ (s.setCq fn r k).links = s.links ∧
    (s.setCq fn r k).cages = s.cages ∧ (s.setCq fn r k).rteAct = s.rteAct ∧ (s.setCq fn r k).rteStg = s.rteStg ∧
    (s.setCq fn r k).rxTxns = s.rxTxns ∧ (s.setCq fn r k).time = s.time ∧ (s.setCq fn r k).winQ = s.winQ ∧
    (s.setCq fn r k).clus = s.clus ∧ (s.setCq fn r k).events = s.events ∧ (s.setCq fn r k).eventsWait = s.eventsWait ∧
    (s.setCq fn r k).eventSeq = s.eventSeq ∧ (s.setCq fn r k).descs = s.descs ∧ (s.setCq fn r k).nextDesc = s.nextDesc ∧
    (s.setCq fn r k).sqs = s.sqs ∧ (s.setCq fn r k).refOps = s.refOps ∧ (s.setCq fn r k).switches = s.switches ∧
    (s.setCq fn r k).mcBind = s.mcBind ∧ (s.setCq fn r k).mcWait = s.mcWait ∧ (s.setCq fn r k).eid = s.eid ∧
    (s.setCq fn r k).lastFn = s.lastFn ∧ (s.setCq fn r k).pwr = s.pwr ∧ (s.setCq fn r k).slack = s.slack ∧
    (s.setCq fn r k).cus = s.cus ∧ (s.setCq fn r k).lring = s.lring ∧ (s.setCq fn r k).sessions = s.sessions ∧
    (s.setCq fn r k).spdm = s.spdm ∧ (s.setCq fn r k).seals = s.seals ∧ (s.setCq fn r k).fw = s.fw ∧
    (s.setCq fn r k).boot = s.boot ∧ (s.setCq fn r k).pcie = s.pcie ∧ (s.setCq fn r k).panel = s.panel :=
  by repeat' constructor

@[simp] theorem modDesc_frame (i : Nat) (f : HostDesc → HostDesc) :
    (s.modDesc i f).pending = s.pending ∧ (s.modDesc i f).out = s.out ∧ (s.modDesc i f).freeCtr = s.freeCtr ∧
    (s.modDesc i f).regs = s.regs ∧ (s.modDesc i f).host = s.host ∧ (s.modDesc i f).now = s.now ∧
    (s.modDesc i f).cores = s.cores ∧ (s.modDesc i f).spad = s.spad ∧ (s.modDesc i f).spadWritten = s.spadWritten ∧
    (s.modDesc i f).spadPoison = s.spadPoison ∧ (s.modDesc i f).engines = s.engines ∧ (s.modDesc i f).buckets = s.buckets ∧
    (s.modDesc i f).hbm = s.hbm ∧ (s.modDesc i f).poison = s.poison ∧ (s.modDesc i f).tags = s.tags ∧
    (s.modDesc i f).groups = s.groups ∧ (s.modDesc i f).regions = s.regions ∧ (s.modDesc i f).ways = s.ways ∧
    (s.modDesc i f).lines = s.lines ∧ (s.modDesc i f).cacheClock = s.cacheClock ∧ (s.modDesc i f).withheld = s.withheld ∧
    (s.modDesc i f).repairRows = s.repairRows ∧ (s.modDesc i f).l1 = s.l1 ∧ (s.modDesc i f).l2 = s.l2 ∧
    (s.modDesc i f).invq = s.invq ∧ (s.modDesc i f).inWins = s.inWins ∧ (s.modDesc i f).outWins = s.outWins ∧
    (s.modDesc i f).txns = s.txns ∧ (s.modDesc i f).nextTag = s.nextTag ∧ (s.modDesc i f).objs = s.objs ∧
    (s.modDesc i f).trees = s.trees ∧ (s.modDesc i f).parts = s.parts ∧ (s.modDesc i f).insts = s.insts ∧
    (s.modDesc i f).intake = s.intake ∧ (s.modDesc i f).pool = s.pool ∧ (s.modDesc i f).arena = s.arena ∧
    (s.modDesc i f).atc = s.atc ∧ (s.modDesc i f).levels = s.levels ∧ (s.modDesc i f).tokens = s.tokens ∧
    (s.modDesc i f).urgency = s.urgency ∧ (s.modDesc i f).aged = s.aged ∧ (s.modDesc i f).served = s.served ∧
    (s.modDesc i f).refreshes = s.refreshes ∧ (s.modDesc i f).scrub = s.scrub ∧ (s.modDesc i f).links = s.links ∧
    (s.modDesc i f).cages = s.cages ∧ (s.modDesc i f).rteAct = s.rteAct ∧ (s.modDesc i f).rteStg = s.rteStg ∧
    (s.modDesc i f).rxTxns = s.rxTxns ∧ (s.modDesc i f).time = s.time ∧ (s.modDesc i f).winQ = s.winQ ∧
    (s.modDesc i f).clus = s.clus ∧ (s.modDesc i f).events = s.events ∧ (s.modDesc i f).eventsWait = s.eventsWait ∧
    (s.modDesc i f).eventSeq = s.eventSeq ∧ (s.modDesc i f).nextDesc = s.nextDesc ∧ (s.modDesc i f).sqs = s.sqs ∧
    (s.modDesc i f).cqs = s.cqs ∧ (s.modDesc i f).refOps = s.refOps ∧ (s.modDesc i f).switches = s.switches ∧
    (s.modDesc i f).mcBind = s.mcBind ∧ (s.modDesc i f).mcWait = s.mcWait ∧ (s.modDesc i f).eid = s.eid ∧
    (s.modDesc i f).lastFn = s.lastFn ∧ (s.modDesc i f).pwr = s.pwr ∧ (s.modDesc i f).slack = s.slack ∧
    (s.modDesc i f).cus = s.cus ∧ (s.modDesc i f).lring = s.lring ∧ (s.modDesc i f).sessions = s.sessions ∧
    (s.modDesc i f).spdm = s.spdm ∧ (s.modDesc i f).seals = s.seals ∧ (s.modDesc i f).fw = s.fw ∧
    (s.modDesc i f).boot = s.boot ∧ (s.modDesc i f).pcie = s.pcie ∧ (s.modDesc i f).panel = s.panel :=
  by repeat' constructor

@[simp] theorem hostWrite_frame (fn a : Nat) (bs : List Byte) :
    (s.hostWrite fn a bs).pending = s.pending ∧ (s.hostWrite fn a bs).out = s.out ∧ (s.hostWrite fn a bs).freeCtr = s.freeCtr ∧
    (s.hostWrite fn a bs).regs = s.regs ∧ (s.hostWrite fn a bs).now = s.now ∧ (s.hostWrite fn a bs).cores = s.cores ∧
    (s.hostWrite fn a bs).spad = s.spad ∧ (s.hostWrite fn a bs).spadWritten = s.spadWritten ∧
    (s.hostWrite fn a bs).spadPoison = s.spadPoison ∧ (s.hostWrite fn a bs).engines = s.engines ∧
    (s.hostWrite fn a bs).buckets = s.buckets ∧ (s.hostWrite fn a bs).hbm = s.hbm ∧ (s.hostWrite fn a bs).poison = s.poison ∧
    (s.hostWrite fn a bs).tags = s.tags ∧ (s.hostWrite fn a bs).groups = s.groups ∧ (s.hostWrite fn a bs).regions = s.regions ∧
    (s.hostWrite fn a bs).ways = s.ways ∧ (s.hostWrite fn a bs).lines = s.lines ∧
    (s.hostWrite fn a bs).cacheClock = s.cacheClock ∧ (s.hostWrite fn a bs).withheld = s.withheld ∧
    (s.hostWrite fn a bs).repairRows = s.repairRows ∧ (s.hostWrite fn a bs).l1 = s.l1 ∧ (s.hostWrite fn a bs).l2 = s.l2 ∧
    (s.hostWrite fn a bs).invq = s.invq ∧ (s.hostWrite fn a bs).inWins = s.inWins ∧ (s.hostWrite fn a bs).outWins = s.outWins ∧
    (s.hostWrite fn a bs).txns = s.txns ∧ (s.hostWrite fn a bs).nextTag = s.nextTag ∧ (s.hostWrite fn a bs).objs = s.objs ∧
    (s.hostWrite fn a bs).trees = s.trees ∧ (s.hostWrite fn a bs).parts = s.parts ∧ (s.hostWrite fn a bs).insts = s.insts ∧
    (s.hostWrite fn a bs).intake = s.intake ∧ (s.hostWrite fn a bs).pool = s.pool ∧ (s.hostWrite fn a bs).arena = s.arena ∧
    (s.hostWrite fn a bs).atc = s.atc ∧ (s.hostWrite fn a bs).levels = s.levels ∧ (s.hostWrite fn a bs).tokens = s.tokens ∧
    (s.hostWrite fn a bs).urgency = s.urgency ∧ (s.hostWrite fn a bs).aged = s.aged ∧ (s.hostWrite fn a bs).served = s.served ∧
    (s.hostWrite fn a bs).refreshes = s.refreshes ∧ (s.hostWrite fn a bs).scrub = s.scrub ∧
    (s.hostWrite fn a bs).links = s.links ∧ (s.hostWrite fn a bs).cages = s.cages ∧ (s.hostWrite fn a bs).rteAct = s.rteAct ∧
    (s.hostWrite fn a bs).rteStg = s.rteStg ∧ (s.hostWrite fn a bs).rxTxns = s.rxTxns ∧ (s.hostWrite fn a bs).time = s.time ∧
    (s.hostWrite fn a bs).winQ = s.winQ ∧ (s.hostWrite fn a bs).clus = s.clus ∧ (s.hostWrite fn a bs).events = s.events ∧
    (s.hostWrite fn a bs).eventsWait = s.eventsWait ∧ (s.hostWrite fn a bs).eventSeq = s.eventSeq ∧
    (s.hostWrite fn a bs).descs = s.descs ∧ (s.hostWrite fn a bs).nextDesc = s.nextDesc ∧ (s.hostWrite fn a bs).sqs = s.sqs ∧
    (s.hostWrite fn a bs).cqs = s.cqs ∧ (s.hostWrite fn a bs).refOps = s.refOps ∧ (s.hostWrite fn a bs).switches = s.switches ∧
    (s.hostWrite fn a bs).mcBind = s.mcBind ∧ (s.hostWrite fn a bs).mcWait = s.mcWait ∧ (s.hostWrite fn a bs).eid = s.eid ∧
    (s.hostWrite fn a bs).lastFn = s.lastFn ∧ (s.hostWrite fn a bs).pwr = s.pwr ∧ (s.hostWrite fn a bs).slack = s.slack ∧
    (s.hostWrite fn a bs).cus = s.cus ∧ (s.hostWrite fn a bs).lring = s.lring ∧ (s.hostWrite fn a bs).sessions = s.sessions ∧
    (s.hostWrite fn a bs).spdm = s.spdm ∧ (s.hostWrite fn a bs).seals = s.seals ∧ (s.hostWrite fn a bs).fw = s.fw ∧
    (s.hostWrite fn a bs).boot = s.boot ∧ (s.hostWrite fn a bs).pcie = s.pcie ∧ (s.hostWrite fn a bs).panel = s.panel :=
  by repeat' constructor

@[simp] theorem setInst_frame (v : Nat) (k : Inst) :
    (s.setInst v k).pending = s.pending ∧ (s.setInst v k).out = s.out ∧ (s.setInst v k).freeCtr = s.freeCtr ∧
    (s.setInst v k).regs = s.regs ∧ (s.setInst v k).host = s.host ∧ (s.setInst v k).now = s.now ∧
    (s.setInst v k).cores = s.cores ∧ (s.setInst v k).spad = s.spad ∧ (s.setInst v k).spadWritten = s.spadWritten ∧
    (s.setInst v k).spadPoison = s.spadPoison ∧ (s.setInst v k).engines = s.engines ∧ (s.setInst v k).buckets = s.buckets ∧
    (s.setInst v k).hbm = s.hbm ∧ (s.setInst v k).poison = s.poison ∧ (s.setInst v k).tags = s.tags ∧
    (s.setInst v k).groups = s.groups ∧ (s.setInst v k).regions = s.regions ∧ (s.setInst v k).ways = s.ways ∧
    (s.setInst v k).lines = s.lines ∧ (s.setInst v k).cacheClock = s.cacheClock ∧ (s.setInst v k).withheld = s.withheld ∧
    (s.setInst v k).repairRows = s.repairRows ∧ (s.setInst v k).l1 = s.l1 ∧ (s.setInst v k).l2 = s.l2 ∧
    (s.setInst v k).invq = s.invq ∧ (s.setInst v k).inWins = s.inWins ∧ (s.setInst v k).outWins = s.outWins ∧
    (s.setInst v k).txns = s.txns ∧ (s.setInst v k).nextTag = s.nextTag ∧ (s.setInst v k).objs = s.objs ∧
    (s.setInst v k).trees = s.trees ∧ (s.setInst v k).parts = s.parts ∧ (s.setInst v k).intake = s.intake ∧
    (s.setInst v k).pool = s.pool ∧ (s.setInst v k).arena = s.arena ∧ (s.setInst v k).atc = s.atc ∧
    (s.setInst v k).levels = s.levels ∧ (s.setInst v k).tokens = s.tokens ∧ (s.setInst v k).urgency = s.urgency ∧
    (s.setInst v k).aged = s.aged ∧ (s.setInst v k).served = s.served ∧ (s.setInst v k).refreshes = s.refreshes ∧
    (s.setInst v k).scrub = s.scrub ∧ (s.setInst v k).links = s.links ∧ (s.setInst v k).cages = s.cages ∧
    (s.setInst v k).rteAct = s.rteAct ∧ (s.setInst v k).rteStg = s.rteStg ∧ (s.setInst v k).rxTxns = s.rxTxns ∧
    (s.setInst v k).time = s.time ∧ (s.setInst v k).winQ = s.winQ ∧ (s.setInst v k).clus = s.clus ∧
    (s.setInst v k).events = s.events ∧ (s.setInst v k).eventsWait = s.eventsWait ∧ (s.setInst v k).eventSeq = s.eventSeq ∧
    (s.setInst v k).descs = s.descs ∧ (s.setInst v k).nextDesc = s.nextDesc ∧ (s.setInst v k).sqs = s.sqs ∧
    (s.setInst v k).cqs = s.cqs ∧ (s.setInst v k).refOps = s.refOps ∧ (s.setInst v k).switches = s.switches ∧
    (s.setInst v k).mcBind = s.mcBind ∧ (s.setInst v k).mcWait = s.mcWait ∧ (s.setInst v k).eid = s.eid ∧
    (s.setInst v k).lastFn = s.lastFn ∧ (s.setInst v k).pwr = s.pwr ∧ (s.setInst v k).slack = s.slack ∧
    (s.setInst v k).cus = s.cus ∧ (s.setInst v k).lring = s.lring ∧ (s.setInst v k).sessions = s.sessions ∧
    (s.setInst v k).spdm = s.spdm ∧ (s.setInst v k).seals = s.seals ∧ (s.setInst v k).fw = s.fw ∧
    (s.setInst v k).boot = s.boot ∧ (s.setInst v k).pcie = s.pcie ∧ (s.setInst v k).panel = s.panel :=
  by repeat' constructor

@[simp] theorem setSlack_frame (e : Nat) (k : Slack) :
    (s.setSlack e k).pending = s.pending ∧ (s.setSlack e k).out = s.out ∧ (s.setSlack e k).freeCtr = s.freeCtr ∧
    (s.setSlack e k).regs = s.regs ∧ (s.setSlack e k).host = s.host ∧ (s.setSlack e k).now = s.now ∧
    (s.setSlack e k).cores = s.cores ∧ (s.setSlack e k).spad = s.spad ∧ (s.setSlack e k).spadWritten = s.spadWritten ∧
    (s.setSlack e k).spadPoison = s.spadPoison ∧ (s.setSlack e k).engines = s.engines ∧ (s.setSlack e k).buckets = s.buckets ∧
    (s.setSlack e k).hbm = s.hbm ∧ (s.setSlack e k).poison = s.poison ∧ (s.setSlack e k).tags = s.tags ∧
    (s.setSlack e k).groups = s.groups ∧ (s.setSlack e k).regions = s.regions ∧ (s.setSlack e k).ways = s.ways ∧
    (s.setSlack e k).lines = s.lines ∧ (s.setSlack e k).cacheClock = s.cacheClock ∧ (s.setSlack e k).withheld = s.withheld ∧
    (s.setSlack e k).repairRows = s.repairRows ∧ (s.setSlack e k).l1 = s.l1 ∧ (s.setSlack e k).l2 = s.l2 ∧
    (s.setSlack e k).invq = s.invq ∧ (s.setSlack e k).inWins = s.inWins ∧ (s.setSlack e k).outWins = s.outWins ∧
    (s.setSlack e k).txns = s.txns ∧ (s.setSlack e k).nextTag = s.nextTag ∧ (s.setSlack e k).objs = s.objs ∧
    (s.setSlack e k).trees = s.trees ∧ (s.setSlack e k).parts = s.parts ∧ (s.setSlack e k).insts = s.insts ∧
    (s.setSlack e k).intake = s.intake ∧ (s.setSlack e k).pool = s.pool ∧ (s.setSlack e k).arena = s.arena ∧
    (s.setSlack e k).atc = s.atc ∧ (s.setSlack e k).levels = s.levels ∧ (s.setSlack e k).tokens = s.tokens ∧
    (s.setSlack e k).urgency = s.urgency ∧ (s.setSlack e k).aged = s.aged ∧ (s.setSlack e k).served = s.served ∧
    (s.setSlack e k).refreshes = s.refreshes ∧ (s.setSlack e k).scrub = s.scrub ∧ (s.setSlack e k).links = s.links ∧
    (s.setSlack e k).cages = s.cages ∧ (s.setSlack e k).rteAct = s.rteAct ∧ (s.setSlack e k).rteStg = s.rteStg ∧
    (s.setSlack e k).rxTxns = s.rxTxns ∧ (s.setSlack e k).time = s.time ∧ (s.setSlack e k).winQ = s.winQ ∧
    (s.setSlack e k).clus = s.clus ∧ (s.setSlack e k).events = s.events ∧ (s.setSlack e k).eventsWait = s.eventsWait ∧
    (s.setSlack e k).eventSeq = s.eventSeq ∧ (s.setSlack e k).descs = s.descs ∧ (s.setSlack e k).nextDesc = s.nextDesc ∧
    (s.setSlack e k).sqs = s.sqs ∧ (s.setSlack e k).cqs = s.cqs ∧ (s.setSlack e k).refOps = s.refOps ∧
    (s.setSlack e k).switches = s.switches ∧ (s.setSlack e k).mcBind = s.mcBind ∧ (s.setSlack e k).mcWait = s.mcWait ∧
    (s.setSlack e k).eid = s.eid ∧ (s.setSlack e k).lastFn = s.lastFn ∧ (s.setSlack e k).pwr = s.pwr ∧
    (s.setSlack e k).cus = s.cus ∧ (s.setSlack e k).lring = s.lring ∧ (s.setSlack e k).sessions = s.sessions ∧
    (s.setSlack e k).spdm = s.spdm ∧ (s.setSlack e k).seals = s.seals ∧ (s.setSlack e k).fw = s.fw ∧
    (s.setSlack e k).boot = s.boot ∧ (s.setSlack e k).pcie = s.pcie ∧ (s.setSlack e k).panel = s.panel :=
  by repeat' constructor

@[simp] theorem core_setCore (k : Nat) (v : Core) : (s.setCore k v).core k = v := tblGet_tblSet_self _ _ k v
theorem core_setCore_ne {j k : Nat} (v : Core) (h : j ≠ k) : (s.setCore k v).core j = s.core j := tblGet_tblSet_ne _ _ v h
@[simp] theorem setCore_twice (k : Nat) (v w : Core) : (s.setCore k v).setCore k w = s.setCore k w := by simp [State.setCore]

@[simp] theorem engine_setEngine (k : Nat) (v : Engine) : (s.setEngine k v).engine k = v := tblGet_tblSet_self _ _ k v
theorem engine_setEngine_ne {j k : Nat} (v : Engine) (h : j ≠ k) : (s.setEngine k v).engine j = s.engine j := tblGet_tblSet_ne _ _ v h
@[simp] theorem setEngine_twice (k : Nat) (v w : Engine) : (s.setEngine k v).setEngine k w = s.setEngine k w := by simp [State.setEngine]

@[simp] theorem bucket_setBucket (k : Nat) (v : Bucket) : (s.setBucket k v).bucket k = v := tblGet_tblSet_self _ _ k v
theorem bucket_setBucket_ne {j k : Nat} (v : Bucket) (h : j ≠ k) : (s.setBucket k v).bucket j = s.bucket j := tblGet_tblSet_ne _ _ v h
@[simp] theorem setBucket_twice (k : Nat) (v w : Bucket) : (s.setBucket k v).setBucket k w = s.setBucket k w := by simp [State.setBucket]

@[simp] theorem group_setGroup (k : Nat) (v : Group) : (s.setGroup k v).group k = v := tblGet_tblSet_self _ _ k v
theorem group_setGroup_ne {j k : Nat} (v : Group) (h : j ≠ k) : (s.setGroup k v).group j = s.group j := tblGet_tblSet_ne _ _ v h
@[simp] theorem setGroup_twice (k : Nat) (v w : Group) : (s.setGroup k v).setGroup k w = s.setGroup k w := by simp [State.setGroup]

@[simp] theorem region_setRegion (k : Nat) (v : Region) : (s.setRegion k v).region k = v := tblGet_tblSet_self _ _ k v
theorem region_setRegion_ne {j k : Nat} (v : Region) (h : j ≠ k) : (s.setRegion k v).region j = s.region j := tblGet_tblSet_ne _ _ v h
@[simp] theorem setRegion_twice (k : Nat) (v w : Region) : (s.setRegion k v).setRegion k w = s.setRegion k w := by simp [State.setRegion]

@[simp] theorem wayKind_setWay (k : Nat) (v : WayKind) : (s.setWay k v).wayKind k = v := tblGet_tblSet_self _ _ k v
theorem wayKind_setWay_ne {j k : Nat} (v : WayKind) (h : j ≠ k) : (s.setWay k v).wayKind j = s.wayKind j := tblGet_tblSet_ne _ _ v h
@[simp] theorem setWay_twice (k : Nat) (v w : WayKind) : (s.setWay k v).setWay k w = s.setWay k w := by simp [State.setWay]

@[simp] theorem line_setLine (k : Nat) (v : Option CacheLine) : (s.setLine k v).line k = v := tblGet_tblSet_self _ _ k v
theorem line_setLine_ne {j k : Nat} (v : Option CacheLine) (h : j ≠ k) : (s.setLine k v).line j = s.line j := tblGet_tblSet_ne _ _ v h
@[simp] theorem setLine_twice (k : Nat) (v w : Option CacheLine) : (s.setLine k v).setLine k w = s.setLine k w := by simp [State.setLine]

@[simp] theorem tag_setTag (k : Nat) (v : Option SectorTag) : (s.setTag k v).tag k = v := tblGet_tblSet_self _ _ k v
theorem tag_setTag_ne {j k : Nat} (v : Option SectorTag) (h : j ≠ k) : (s.setTag k v).tag j = s.tag j := tblGet_tblSet_ne _ _ v h
@[simp] theorem setTag_twice (k : Nat) (v w : Option SectorTag) : (s.setTag k v).setTag k w = s.setTag k w := by simp [State.setTag]

@[simp] theorem isPoison_setPoison (k : Nat) (v : Bool) : (s.setPoison k v).isPoison k = v := tblGet_tblSet_self _ _ k v
theorem isPoison_setPoison_ne {j k : Nat} (v : Bool) (h : j ≠ k) : (s.setPoison k v).isPoison j = s.isPoison j := tblGet_tblSet_ne _ _ v h
@[simp] theorem setPoison_twice (k : Nat) (v w : Bool) : (s.setPoison k v).setPoison k w = s.setPoison k w := by simp [State.setPoison]

@[simp] theorem l1of_setL1 (k : Nat) (v : List XltEntry) : (s.setL1 k v).l1of k = v := tblGet_tblSet_self _ _ k v
theorem l1of_setL1_ne {j k : Nat} (v : List XltEntry) (h : j ≠ k) : (s.setL1 k v).l1of j = s.l1of j := tblGet_tblSet_ne _ _ v h
@[simp] theorem setL1_twice (k : Nat) (v w : List XltEntry) : (s.setL1 k v).setL1 k w = s.setL1 k w := by simp [State.setL1]

@[simp] theorem l2of_setL2 (k : Nat) (v : List XltEntry) : (s.setL2 k v).l2of k = v := tblGet_tblSet_self _ _ k v
theorem l2of_setL2_ne {j k : Nat} (v : List XltEntry) (h : j ≠ k) : (s.setL2 k v).l2of j = s.l2of j := tblGet_tblSet_ne _ _ v h
@[simp] theorem setL2_twice (k : Nat) (v w : List XltEntry) : (s.setL2 k v).setL2 k w = s.setL2 k w := by simp [State.setL2]

@[simp] theorem invOf_setInv (k : Nat) (v : List Nat) : (s.setInv k v).invOf k = v := tblGet_tblSet_self _ _ k v
theorem invOf_setInv_ne {j k : Nat} (v : List Nat) (h : j ≠ k) : (s.setInv k v).invOf j = s.invOf j := tblGet_tblSet_ne _ _ v h
@[simp] theorem setInv_twice (k : Nat) (v w : List Nat) : (s.setInv k v).setInv k w = s.setInv k w := by simp [State.setInv]

@[simp] theorem inWin_setInWin (k : Nat) (v : InWin) : (s.setInWin k v).inWin k = v := tblGet_tblSet_self _ _ k v
theorem inWin_setInWin_ne {j k : Nat} (v : InWin) (h : j ≠ k) : (s.setInWin k v).inWin j = s.inWin j := tblGet_tblSet_ne _ _ v h
@[simp] theorem setInWin_twice (k : Nat) (v w : InWin) : (s.setInWin k v).setInWin k w = s.setInWin k w := by simp [State.setInWin]

@[simp] theorem outWin_setOutWin (k : Nat) (v : OutWin) : (s.setOutWin k v).outWin k = v := tblGet_tblSet_self _ _ k v
theorem outWin_setOutWin_ne {j k : Nat} (v : OutWin) (h : j ≠ k) : (s.setOutWin k v).outWin j = s.outWin j := tblGet_tblSet_ne _ _ v h
@[simp] theorem setOutWin_twice (k : Nat) (v w : OutWin) : (s.setOutWin k v).setOutWin k w = s.setOutWin k w := by simp [State.setOutWin]

@[simp] theorem txn_setTxn (k : Nat) (v : Option Txn) : (s.setTxn k v).txn k = v := tblGet_tblSet_self _ _ k v
theorem txn_setTxn_ne {j k : Nat} (v : Option Txn) (h : j ≠ k) : (s.setTxn k v).txn j = s.txn j := tblGet_tblSet_ne _ _ v h
@[simp] theorem setTxn_twice (k : Nat) (v w : Option Txn) : (s.setTxn k v).setTxn k w = s.setTxn k w := by simp [State.setTxn]

@[simp] theorem obj_setObj (k : Nat) (v : SyncObj) : (s.setObj k v).obj k = v := tblGet_tblSet_self _ _ k v
theorem obj_setObj_ne {j k : Nat} (v : SyncObj) (h : j ≠ k) : (s.setObj k v).obj j = s.obj j := tblGet_tblSet_ne _ _ v h
@[simp] theorem setObj_twice (k : Nat) (v w : SyncObj) : (s.setObj k v).setObj k w = s.setObj k w := by simp [State.setObj]

@[simp] theorem tree_setTree (k : Nat) (v : TreeNode) : (s.setTree k v).tree k = v := tblGet_tblSet_self _ _ k v
theorem tree_setTree_ne {j k : Nat} (v : TreeNode) (h : j ≠ k) : (s.setTree k v).tree j = s.tree j := tblGet_tblSet_ne _ _ v h
@[simp] theorem setTree_twice (k : Nat) (v w : TreeNode) : (s.setTree k v).setTree k w = s.setTree k w := by simp [State.setTree]

@[simp] theorem part_setPart (k : Nat) (v : Part) : (s.setPart k v).part k = v := tblGet_tblSet_self _ _ k v
theorem part_setPart_ne {j k : Nat} (v : Part) (h : j ≠ k) : (s.setPart k v).part j = s.part j := tblGet_tblSet_ne _ _ v h
@[simp] theorem setPart_twice (k : Nat) (v w : Part) : (s.setPart k v).setPart k w = s.setPart k w := by simp [State.setPart]

@[simp] theorem poolPage_setPoolPage (k : Nat) (v : Option PoolPage) : (s.setPoolPage k v).poolPage k = v := tblGet_tblSet_self _ _ k v
theorem poolPage_setPoolPage_ne {j k : Nat} (v : Option PoolPage) (h : j ≠ k) : (s.setPoolPage k v).poolPage j = s.poolPage j := tblGet_tblSet_ne _ _ v h
@[simp] theorem setPoolPage_twice (k : Nat) (v w : Option PoolPage) : (s.setPoolPage k v).setPoolPage k w = s.setPoolPage k w := by simp [State.setPoolPage]

@[simp] theorem arenaSlot_setArena (k : Nat) (v : Option Nat) : (s.setArena k v).arenaSlot k = v := tblGet_tblSet_self _ _ k v
theorem arenaSlot_setArena_ne {j k : Nat} (v : Option Nat) (h : j ≠ k) : (s.setArena k v).arenaSlot j = s.arenaSlot j := tblGet_tblSet_ne _ _ v h
@[simp] theorem setArena_twice (k : Nat) (v w : Option Nat) : (s.setArena k v).setArena k w = s.setArena k w := by simp [State.setArena]

@[simp] theorem levelOf_setLevel (k : Nat) (v : Level) : (s.setLevel k v).levelOf k = v := tblGet_tblSet_self _ _ k v
theorem levelOf_setLevel_ne {j k : Nat} (v : Level) (h : j ≠ k) : (s.setLevel k v).levelOf j = s.levelOf j := tblGet_tblSet_ne _ _ v h
@[simp] theorem setLevel_twice (k : Nat) (v w : Level) : (s.setLevel k v).setLevel k w = s.setLevel k w := by simp [State.setLevel]

@[simp] theorem port_setPort (k : Nat) (v : Port) : (s.setPort k v).port k = v := tblGet_tblSet_self _ _ k v
theorem port_setPort_ne {j k : Nat} (v : Port) (h : j ≠ k) : (s.setPort k v).port j = s.port j := tblGet_tblSet_ne _ _ v h
@[simp] theorem setPort_twice (k : Nat) (v w : Port) : (s.setPort k v).setPort k w = s.setPort k w := by simp [State.setPort]
@[simp] theorem tokensOf_setTokens (k : Nat) (v : Nat) : (s.setTokens k v).tokensOf k = v := by simp [State.tokensOf, State.setTokens]
theorem tokensOf_setTokens_ne {j k : Nat} (v : Nat) (h : j ≠ k) : (s.setTokens k v).tokensOf j = s.tokensOf j := by
  simp [State.tokensOf, State.setTokens, port_setPort_ne s _ h]
@[simp] theorem setTokens_twice (k : Nat) (v w : Nat) : (s.setTokens k v).setTokens k w = s.setTokens k w := by simp [State.setTokens]

@[simp] theorem urgencyOf_setUrgency (k : Nat) (v : Nat) : (s.setUrgency k v).urgencyOf k = v := tblGet_tblSet_self _ _ k v
theorem urgencyOf_setUrgency_ne {j k : Nat} (v : Nat) (h : j ≠ k) : (s.setUrgency k v).urgencyOf j = s.urgencyOf j := tblGet_tblSet_ne _ _ v h
@[simp] theorem setUrgency_twice (k : Nat) (v w : Nat) : (s.setUrgency k v).setUrgency k w = s.setUrgency k w := by simp [State.setUrgency]

@[simp] theorem servedOf_setServed (k : Nat) (v : HomeWin) : (s.setServed k v).servedOf k = v := tblGet_tblSet_self _ _ k v
theorem servedOf_setServed_ne {j k : Nat} (v : HomeWin) (h : j ≠ k) : (s.setServed k v).servedOf j = s.servedOf j := tblGet_tblSet_ne _ _ v h
@[simp] theorem setServed_twice (k : Nat) (v w : HomeWin) : (s.setServed k v).setServed k w = s.setServed k w := by simp [State.setServed]

@[simp] theorem lnk_setLnk (k : Nat) (v : Link) : (s.setLnk k v).lnk k = v := tblGet_tblSet_self _ _ k v
theorem lnk_setLnk_ne {j k : Nat} (v : Link) (h : j ≠ k) : (s.setLnk k v).lnk j = s.lnk j := tblGet_tblSet_ne _ _ v h
@[simp] theorem setLnk_twice (k : Nat) (v w : Link) : (s.setLnk k v).setLnk k w = s.setLnk k w := by simp [State.setLnk]

@[simp] theorem cage_setCage (k : Nat) (v : Cage) : (s.setCage k v).cage k = v := tblGet_tblSet_self _ _ k v
theorem cage_setCage_ne {j k : Nat} (v : Cage) (h : j ≠ k) : (s.setCage k v).cage j = s.cage j := tblGet_tblSet_ne _ _ v h
@[simp] theorem setCage_twice (k : Nat) (v w : Cage) : (s.setCage k v).setCage k w = s.setCage k w := by simp [State.setCage]

@[simp] theorem clu_setClu (k : Nat) (v : Cluster) : (s.setClu k v).clu k = v := tblGet_tblSet_self _ _ k v
theorem clu_setClu_ne {j k : Nat} (v : Cluster) (h : j ≠ k) : (s.setClu k v).clu j = s.clu j := tblGet_tblSet_ne _ _ v h
@[simp] theorem setClu_twice (k : Nat) (v w : Cluster) : (s.setClu k v).setClu k w = s.setClu k w := by simp [State.setClu]

@[simp] theorem rxTxn_setRxTxn (k : Nat) (v : Option RxTxn) : (s.setRxTxn k v).rxTxn k = v := tblGet_tblSet_self _ _ k v
theorem rxTxn_setRxTxn_ne {j k : Nat} (v : Option RxTxn) (h : j ≠ k) : (s.setRxTxn k v).rxTxn j = s.rxTxn j := tblGet_tblSet_ne _ _ v h
@[simp] theorem setRxTxn_twice (k : Nat) (v w : Option RxTxn) : (s.setRxTxn k v).setRxTxn k w = s.setRxTxn k w := by simp [State.setRxTxn]

@[simp] theorem inst_setInst (k : Nat) (v : Inst) : (s.setInst k v).inst k = v := tblGet_tblSet_self _ _ k v
theorem inst_setInst_ne {j k : Nat} (v : Inst) (h : j ≠ k) : (s.setInst k v).inst j = s.inst j := tblGet_tblSet_ne _ _ v h
@[simp] theorem setInst_twice (k : Nat) (v w : Inst) : (s.setInst k v).setInst k w = s.setInst k w := by simp [State.setInst]

@[simp] theorem slackOf_setSlack (k : Nat) (v : Slack) : (s.setSlack k v).slackOf k = v := tblGet_tblSet_self _ _ k v
theorem slackOf_setSlack_ne {j k : Nat} (v : Slack) (h : j ≠ k) : (s.setSlack k v).slackOf j = s.slackOf j := tblGet_tblSet_ne _ _ v h
@[simp] theorem setSlack_twice (k : Nat) (v w : Slack) : (s.setSlack k v).setSlack k w = s.setSlack k w := by simp [State.setSlack]

@[simp] theorem reg_setReg (k : Nat) (v : Nat) : (s.setReg k v).reg k = v := tblGet_tblSet_self _ _ k v
theorem reg_setReg_ne {j k : Nat} (v : Nat) (h : j ≠ k) : (s.setReg k v).reg j = s.reg j := tblGet_tblSet_ne _ _ v h
@[simp] theorem setReg_twice (k : Nat) (v w : Nat) : (s.setReg k v).setReg k w = s.setReg k w := by simp [State.setReg]

@[simp] theorem core_modCore (k : Nat) (f : Core → Core) : (s.modCore k f).core k = f (s.core k) := core_setCore s k _
theorem core_modCore_ne {j k : Nat} (f : Core → Core) (h : j ≠ k) : (s.modCore k f).core j = s.core j := core_setCore_ne s _ h

@[simp] theorem part_modPart (k : Nat) (f : Part → Part) : (s.modPart k f).part k = f (s.part k) := part_setPart s k _
theorem part_modPart_ne {j k : Nat} (f : Part → Part) (h : j ≠ k) : (s.modPart k f).part j = s.part j := part_setPart_ne s _ h

@[simp] theorem lnk_modLnk (k : Nat) (f : Link → Link) : (s.modLnk k f).lnk k = f (s.lnk k) := lnk_setLnk s k _
theorem lnk_modLnk_ne {j k : Nat} (f : Link → Link) (h : j ≠ k) : (s.modLnk k f).lnk j = s.lnk j := lnk_setLnk_ne s _ h

@[simp] theorem cage_modCage (k : Nat) (f : Cage → Cage) : (s.modCage k f).cage k = f (s.cage k) := cage_setCage s k _
theorem cage_modCage_ne {j k : Nat} (f : Cage → Cage) (h : j ≠ k) : (s.modCage k f).cage j = s.cage j := cage_setCage_ne s _ h

@[simp] theorem clu_modClu (k : Nat) (f : Cluster → Cluster) : (s.modClu k f).clu k = f (s.clu k) := clu_setClu s k _
theorem clu_modClu_ne {j k : Nat} (f : Cluster → Cluster) (h : j ≠ k) : (s.modClu k f).clu j = s.clu j := clu_setClu_ne s _ h

@[simp] theorem region_modRegion (k : Nat) (f : Region → Region) : (s.modRegion k f).region k = f (s.region k) := region_setRegion s k _
theorem region_modRegion_ne {j k : Nat} (f : Region → Region) (h : j ≠ k) : (s.modRegion k f).region j = s.region j := region_setRegion_ne s _ h

@[simp] theorem inst_modInst (k : Nat) (f : Inst → Inst) : (s.modInst k f).inst k = f (s.inst k) := inst_setInst s k _
theorem inst_modInst_ne {j k : Nat} (f : Inst → Inst) (h : j ≠ k) : (s.modInst k f).inst j = s.inst j := inst_setInst_ne s _ h

end Sys2Proof.Laws
end

