-- ==== Sys2Proof/Laws/Wire.lean ====
section
/-! SUPPORT. What the operations of a link's bytes do: numbers and their bytes, sealing and opening, and the MACs of control words
(spec/11: R273, R277). -/
namespace Sys2Proof.Laws
open Sys2Proof.Machine

theorem ofBytes_toBytes (n v : Nat) : ofBytes (toBytes n v) = v % 256 ^ n := by
  induction n generalizing v with
  | zero => simp [toBytes, ofBytes, Nat.mod_one]
  | succ n ih =>
    have e : v % 256 % 2 ^ 8 = v % 256 := by omega
    simp only [toBytes, ofBytes, ih, BitVec.toNat_ofNat, e]
    rw [Nat.pow_succ', Nat.mod_mul]

theorem toBytes_length (n v : Nat) : (toBytes n v).length = n := by
  induction n generalizing v with
  | zero => rfl
  | succ n ih => simp [toBytes, ih]

theorem ofBytes_lt (l : List Byte) : ofBytes l < 256 ^ l.length := by
  induction l with
  | nil => simp [ofBytes]
  | cons b l ih =>
    have := b.isLt
    simp only [ofBytes, List.length_cons, Nat.pow_succ]
    omega

theorem fit_length (n : Nat) (bs : List Byte) : (fit n bs).length = n := by
  simp only [fit, List.length_append, List.length_take, List.length_replicate]
  omega

/-- A control word's MAC has 64 bits. -/
theorem wordMac_lt (key epoch kind payload cctr : Nat) : wordMac key epoch kind payload cctr < 2 ^ 64 := by
  have h := ofBytes_lt (fit 8 (gcmSeal key (linkNonce epoch cctr 1) ((toBytes 32 (wordTop kind payload cctr)).drop 8) []).2)
  rw [fit_length] at h
  exact h

/-- The key stream taken twice leaves the text. -/
theorem gcmText_twice (key nonce : Nat) (bs : List Byte) : gcmText key nonce (gcmText key nonce bs) = bs := by
  apply List.ext_getElem <;> simp [gcmText, BitVec.xor_assoc]

/-- What is sealed opens to what it was. -/
theorem gcmOpen_gcmSeal (key nonce : Nat) (aad bs : List Byte) :
    gcmOpen key nonce aad (gcmSeal key nonce aad bs).1 (gcmSeal key nonce aad bs).2 = some bs := by
  simp [gcmOpen, gcmSeal, gcmText_twice]

end Sys2Proof.Laws
end

