-- ==== Sys2Proof/Tests/Slice0.lean ====
section
/-! SUPPORT. Tests of the model: a state and operands that meet the hypotheses of each clause of each obligation, ill-formed
commands that `Instr.wellFormed` refuses, and small runs. -/
set_option Elab.async false
namespace Sys2Proof.Tests
open Sys2Proof.Machine

/-- Some MAC verifies, and some does not. -/
theorem mac_toNat (k e kind p c : Nat) : (BitVec.ofNat 64 (wordMac k e kind p c)).toNat = wordMac k e kind p c := by
  rw [BitVec.toNat_ofNat]
  exact Nat.mod_eq_of_lt (Laws.wordMac_lt _ _ _ _ _)
/-- Some tag opens a bundle, and some does not. -/
theorem opens_tag (k e c : Nat) (b : List Byte) :
    (openBundle k e c b (toBytes 16 (Config.gcmTag k (linkNonce e c 0) [] b).toNat)).isSome = true := by
  simp [openBundle, gcmOpen]
theorem opens_not (k e c : Nat) (b : List Byte) : ∃ tag : BitVec 128, openBundle k e c b (toBytes 16 tag.toNat) = none := by
  have h : ∀ a b : BitVec 128, toBytes 16 a.toNat = toBytes 16 b.toNat → a = b := by
    intro a b h
    have h2 := congrArg ofBytes h
    have e : ∀ x : BitVec 128, x.toNat % 256 ^ 16 = x.toNat := fun x => Nat.mod_eq_of_lt (by have := x.isLt; omega)
    rw [Laws.ofBytes_toBytes, Laws.ofBytes_toBytes, e, e] at h2
    exact BitVec.eq_of_toNat_eq h2
  by_cases g : Config.gcmTag k (linkNonce e c 0) [] b = 0
  · refine ⟨1, ?_⟩
    simp only [openBundle, gcmOpen]
    rw [if_neg]
    intro x
    exact absurd ((h _ _ x).trans g) (by decide)
  · refine ⟨0, ?_⟩
    simp only [openBundle, gcmOpen]
    rw [if_neg]
    intro x
    exact g (h _ _ x).symm

/-- A word with control counter 0 is discarded. -/
theorem stale_word (s : State) (i kind p mac : Nat) (h : (s.lnk i).pending = none) : s.acceptWord i kind p 0 mac = none := by
  by_cases g : mac = wordMac (s.lnk i).rxKey (s.lnk i).rxEpoch kind p 0
  · simp [State.acceptWord, Link.verify, ← g]
  · simp [State.acceptWord, Link.verify, h, g]
/-- A word under the key in use with a higher counter is accepted. -/
theorem fresh_word (s : State) (i kind p c : Nat) (h : (s.lnk i).rxCctr < c) :
    s.acceptWord i kind p c (wordMac (s.lnk i).rxKey (s.lnk i).rxEpoch kind p c) = some (s.setLnk i { s.lnk i with rxCctr := c }) := by
  simp [State.acceptWord, Link.verify, h]

/-! The states and operands that the witnesses use -/

/-- A number from its fields: place and value of each. -/
def word (l : List (Nat × Nat)) : Nat := l.foldr (fun x n => x.2 * 2 ^ x.1 + n) 0
/-- A step word from its fields. -/
def sw (l : List (Nat × Nat)) : StepWord := BitVec.ofNat 128 (word l)
/-- Zero bytes. -/
def zs (n : Nat) : List Byte := List.replicate n 0
/-- An entry of an image's section table. -/
def secRow (off size n each : Nat) : List Byte := toBytes 16 (word [(0, off), (32, size), (64, n), (96, each)])
/-- An image with variant sets, a descriptor pool and seeds. -/
def image (vs pool seeds : List Byte) : Option Image :=
  some ⟨[], zs 96 ++ secRow 192 vs.length (vs.length / 336) 336 ++ zs 16
    ++ secRow (192 + vs.length) pool.length (pool.length / 32) 32
    ++ secRow (192 + vs.length + pool.length) seeds.length (seeds.length / 8) 8 ++ zs 32 ++ vs ++ pool ++ seeds⟩
/-- A dense descriptor with the even rounding. -/
def desc (fmt rows stride elems space base : Nat) : List Byte :=
  toBytes 32 (word [(0, base), (52, space), (64, elems), (96, stride), (192, rows), (244, fmt)])
/-- A running core. -/
def runs : Core := { Core.reset with st := .running }
/-- Core 0 as given. -/
def up (k : Core) : State := State.reset.setCore 0 k
/-- Core 0 as given, and its image. -/
def upWith (im : Option Image) (k : Core) : State := (up k).modPart 0 fun p => { p with images := [(0, im)] }
/-- Link 0 is active and the route to every module's first entry. -/
def linked (s : State) : State := { s.setLnk 0 { Link.reset with st := .active } with rteAct := [(0, 0x801)] }
/-- A full queue. -/
def full : List Nat := List.range 32
/-- A transfer that has moved everything. -/
def movedXfer : Xfer :=
  { Xfer.fresh .copy 0 1 0 (descOf 0) (descOf 0) with moved := true, statrec := false }
/-- Engine 0 with a transfer at its front. -/
def eng (x : Xfer) : State := State.reset.setEngine 0 ⟨[x], []⟩
/-- A flit to this module. -/
def flit (kind aux : Nat) : Flit :=
  ⟨kind, 0, 0, State.reset.reg bFAB, 5, 7, 0, 0, 0, 0, 0, 0, 0, aux, [], 0, none⟩
/-- Partition 0 as given. -/
def partAs (q : Part) : State := State.reset.setPart 0 q
/-- A sealed partition of composition 7. -/
def bound : Part := { Part.reset with st := .sealed, comp := 7 }

/-- An envelope of composition 7, its anchor, SFR, SEQ and members. -/
def envel (anchor sfr seq : Nat) (ms : List (List Byte)) : List Byte :=
  toBytes 64 (word [(0, 0x564E4543), (32, 1), (64, 7), (96, anchor), (112, sfr), (128, ms.length), (160, seq)]) ++ ms.flatten
/-- A member's entry with one cluster and one group. -/
def memb (fid : Nat) : List Byte := toBytes 32 (word [(0, fid), (16, 1), (24, 1)])
/-- The module has Fabric ID 1, and its DRBG runs. -/
def fid1 : State := { State.reset.setReg bFAB 1 with cus := { Cus.reset with es := .ready } }
/-- Its partition 0 is prepared. -/
def prep : State := (fid1.setReg (bXLT + 8) 1).setReg (bCMP + 0x30) (2 ^ 16)
/-- A bind request over MCTP at its front. -/
def ask (op comp : Nat) (bs : List Byte) (s : State) : State :=
  { s with mcWait := [⟨[], op, comp, bs.length, tblSetRun (fun _ => 0) [] 0 bs, [], 5⟩] }
/-- Composition 7 with Fabric ID 1 as its anchor, in partition 0. -/
def anch (q : Part) : State := fid1.setPart 0 { q with comp := 7, anchor := 1 }
/-- A member's entry. -/
def entry (fid : Nat) : EnvMember := ⟨fid, 1, 1, 0, 0, 0, 0, 0, false, 0⟩
/-- A launch under way. -/
def lau : Launch := ⟨0, 0, 0, 0, 0, 0xFFFFFFFF, 0, false, false, none, [], false, 0, 0, 5, 0⟩
/-- A composition reset under way. -/
def rset : ResetSt := ⟨0, 0, false, [], [], false, false, [], false⟩
/-- A placement of nothing. -/
def noPlan : PlaceSpec := ⟨[], [], [], [], [], ⟨0xFFFF, none, [], 0⟩⟩
/-- An operation of the Curator under way. -/
def doing (op step : Nat) (wait : List Nat) : Option BindOp := some ⟨op, step, wait, 0, [], [], none, 0⟩

/-- A memory request of partition 0 at port 0. -/
def req : ReqInfo := ⟨0, 0, 0, false, 0⟩
/-- Region 0 owned by partition 0. -/
def owned : State := State.reset.setRegion 0 { Region.reset with owner := some 0, keyed := true }
/-- Partition 0 translates: its stage-1 table lies in page 0 of its arena, at HBM address 0, with the given first entry. -/
def xlated (e : Nat) : State :=
  { ((owned.setReg bXLT (arenaBase + 1)).setReg (bXLT + 8) 1).setArena 0 (some 0) with hbm := tblSetRun (fun _ => 0) [] 0 (toBytes 8 e) }
/-- A window of one unit open to composition 7. -/
def win : InWin := { InWin.closed with valid := true, r := true, w := true, scratch := true, size := 1, grantee := 7 }
/-- A data flit of one unit. -/
def data (kind : Nat) : Flit := { flit kind 0 with units := 1, total := 1, body := zs 32 }
/-- Cage 0 as given. -/
def cag (k : Cage) : State := State.reset.modCage 0 fun _ => k
/-- Cage 0 with a cable and the given power state. -/
def fed (x : CagePow) : Cage := { Cage.reset with pow := x, present := true }

/-- Link 0 as given. -/
def lnkAs (l : Link) : State := fid1.setLnk 0 l
/-- A link in a state. -/
def inSt (x : LnkSt) : Link := { Link.reset with st := x }
/-- A flit of link sequence number 0 of the shared pool. -/
def lf (f : Flit) : LFlit := ⟨0, true, f⟩
/-- A write flit of one unit for a Fabric ID. -/
def wr (dst hops : Nat) : Flit := { data 0x10 with dst := dst, hops := hops, vc := vcOf 0x10 hops }
/-- The time state given. -/
def timed (x : TsSt) : State := { fid1 with time := { TimeSync.reset with st := x } }
/-- The header at offset 0 of core 0's scratchpad, with PRODUCERS 1. -/
def hdr : State := State.reset.spadSetWord 0 16 0x10000
/-- A bucket with its round open. -/
def opened : Bucket := { Bucket.idle with isOpen := true }

/-- The Custodian is up, its DRBG ready. -/
def cusUp : Cus := { Cus.reset with ready := true, es := .ready }
/-- A module with a Custodian. -/
def withCus (c : Cus) : State := { State.reset.setReg bFAB 1 with cus := c }
/-- A descriptor's bits: type, no context, no references, and fields. -/
def raw (type : Nat) (l : List (Nat × Nat)) : Nat := word ([(0, type), (16, 0xFFFF), (128, 2 ^ 64 - 1)] ++ l)
/-- A descriptor of function `fn` fetched into its ring 0. -/
def put (fn type : Nat) (l : List (Nat × Nat)) (s : State) : State :=
  { s with descs := [⟨1, fn, 0, 0, raw type l, .fetched, false, none, false, false⟩] }
/-- An MGMT descriptor in PF0's ring 0. -/
def ask9 (cmd arg0 out : Nat) (s : State) : State := put 0 9 [(192, cmd), (224, arg0), (448, out)] s
/-- A key slot in use. -/
def usedSlot : KeySlot := { KeySlot.empty with a := ⟨true, 1, 0, false, 1, 5⟩ }
/-- A link in QUARANTINE with an exchange, on a module whose DRBG and Custodian are up. -/
def exch (x : Exchange) : State := (withCus cusUp).setLnk 0 { inSt .quarantine with exch := some x }
/-- An exchange that this end did not start. -/
def xch : Exchange := ⟨3, false, false, [], [], [], 0, [], [], none⟩
/-- A module that has started, with one VF enabled. -/
def hostUp (s : State) : State := { s with boot := { Boot.reset with good := true, run := true, ready := true }, pcie := { Pcie.reset with up := true, vfs := 1 } }

/-- The fields that name virtual core 0xFFFFFFFF and its object 0x80000. -/
def named : List (Nat × Nat) := [(224, 0xFFFFFFFF), (256, 0x80000)]
/-- The object is 0x3000 of the module with Fabric ID `f`. -/
def homed (f : Nat) : State :=
  (fid1.setPart 0 { bound with images := [(0, some ⟨[], []⟩)], dobj := [(0, some ⟨f, 0x3000⟩)] }).setObj 0x3000 { SyncObj.reset with owner := some 0 }
/-- With 255 waiting descriptors of another function behind. -/
def crowd (s : State) : State :=
  { s with descs := s.descs ++ (List.range 255).map fun i => ⟨i + 2, 2, 0, i, raw 6 [], .running, false, some 0x3001, false, false⟩ }

/-- VF 1's instance as given, on a module that has started. -/
def vf (i : Inst) : State := (hostUp (withCus cusUp)).setInst 1 i
/-- An instance that is READY. -/
def readyInst : Inst := { Inst.reset with st := .ready }
/-- A QUIESCE descriptor for VF 1. -/
def quiet (mode : Nat) (s : State) : State := put 0 8 [(192, 1), (200, mode)] s
/-- VF 1's request page with a code and a first argument. -/
def asks (code arg : Nat) : Inst := { readyInst with page := tblSetRun (fun _ => 0) [] 0x40 (toBytes 16 (word [(0, code), (64, arg)])), ctxs := [3] }
/-- The sideband bus serves requests. -/
def mctp : State := (hostUp (withCus cusUp)).setReg (hifKey 0 (bHIF + 0x800)) 7
/-- Connection 0 at stage 3. -/
def conn3 (s : State) : State := { s with spdm := [(0, { Spdm.reset with stage := 3 })] }
/-- A module that answers SPDM on connection 0. -/
def spdm : State := conn3 (hostUp (withCus { cusUp with certs := true }))
/-- A hybrid session 9 on connection 0. -/
def sess : Session := ⟨9, 0, true, true, 1, none, []⟩
/-- With session 9. -/
def with9 (x : Session) (s : State) : State := { s with sessions := [x] }
/-- A tenant of partition 0 with a key in register 0. -/
def tenant : Tenant := ⟨0, 5, [(0, some 6)]⟩
/-- Session 9 with its tenant, on a module that answers SPDM. -/
def tsess : State := with9 { sess with tenant := some tenant } spdm
/-- A confidential composition 7, sealed, in partition 0. -/
def conf : Part := { bound with flags := 2 }
/-- Page 0 of partition 0 translates to region 0 at the Custodian's port. -/
def mapped (s : State) : State :=
  (s.setRegion 0 { Region.reset with owner := some 0, keyed := true }).setL1 cusPort [⟨0, true, 0, 16, false, 0, 0, true, true, false⟩]

/-- That state with a warm reset under notice. -/
def due (s : State) : State := { s with boot := { s.boot with pending := some 3 } }
/-- Partition 0 holds a sealed extent's header at address 0, of the given chunks, the last of 16 bytes. -/
def extent (chunks : Nat) : State :=
  { mapped (tsess.setPart 0 { conf with consents := [1] }) with
    hbm := tblSetRun (fun _ => 0) [] 0 (toBytes 16 (word [(0, 0x4C414553), (32, 1), (64, chunks), (96, 16)])) }
/-- A module that runs, with the given panel. -/
def panelOf (p : Panel) : State := { hostUp fid1 with panel := p }
/-- The panel with its DC input. -/
def fedPanel : Panel := { Panel.reset with dc := true, swap := .charged }
/-- A cell in a state. -/
def cellIn (x : CellSt) : State := panelOf { fedPanel with cell := x, mv := 2999 }
/-- The state of updates as given, on a module that has started. -/
def fw (f : FwSt) : State := { hostUp (withCus cusUp) with fw := f }
/-- The state of updates as given, over the sideband. -/
def pldm (f : FwSt) : State := { mctp with fw := f }
/-- Updates in a state of the PLDM agent. -/
def pldmIn (x : PldmSt) : FwSt := { FwSt.reset with pldm := x }
/-- A transfer of image type 2. -/
def xferOf (src : FwFrom) (len : Nat) (bs : List Byte) : FwXfer := ⟨src, 2, len, bs, none⟩
/-- In recovery. -/
def recov (f : FwSt) : State := { State.reset with fw := f, boot := { Boot.reset with good := true, run := true, recovery := true } }
/-- A staged image of type 2. -/
def staged : FwSt := { FwSt.reset with types := [(2, { FwType.reset with stgSt := .staged, stg := { FwHdr.none with type := 2, sfr := 3 } })] }
/-- An image of type 2 activated, its copy pending. -/
def pendingCopy : FwSt := { FwSt.reset with types := [(2, { FwType.reset with stgSt := .activated, copy := true })] }
/-- A Ledger event. -/
def lev : LedgerEv := ⟨1, 2, 0, 0, 0, 0, 0, 0, 5⟩
/-- A Ledger record of that event. -/
def lrec : LRec := ⟨1, 2, false, 1, 5, 5, 1, 0, 0, 0, 0, 0, 0⟩

/-- A link that meets every condition of R257. -/
def goodLink : Link :=
  { inSt .quarantine with hello := some ⟨Config.serial.toNat + 1, 1, 5, 6, false, false⟩, tableNew := true, pEpoch := some 0, keyed := true, pReady := true }
/-- That link, link 0, with its expected neighbour in LNK_EXPECT. -/
def goodState : State := { fid1.setReg (kLnkExpect 0) (word [(31, 1), (14, 5), (0, 6)]) with links := [(0, goodLink)] }
theorem goodState_lnk : goodState.lnk 0 = goodLink := rfl
theorem goodState_cause : goodState.quarCause 0 = 0 := by
  have h1 : bitAt (goodState.reg (kLnkCtrl 0)) 1 = false := by decide +kernel
  have h2 : goodState.reg kRteEpoch = 0 := by decide +kernel
  have h3 : goodState.reg (kLnkExpect 0) = word [(31, 1), (14, 5), (0, 6)] := by decide +kernel
  have h4 : bitAt (word [(31, 1), (14, 5), (0, 6)]) 31 = true := by decide +kernel
  have h5 : bits (word [(31, 1), (14, 5), (0, 6)]) 27 14 = 5 := by decide +kernel
  have h6 : bits (word [(31, 1), (14, 5), (0, 6)]) 6 0 = 6 := by decide +kernel
  simp [State.quarCause, State.ownFault, State.helloFault, goodState_lnk, goodLink, h1, h2, h3, h4, h5, h6, inSt, Link.reset, protoRev]
/-- A header that passes every check of R542: its fields, and nothing reserved. -/
def goodFields : List Byte := toBytes 64 (word [(0, 0x57464C53), (32, 1), (40, 2), (224, 3)])
/-- That header, whole. -/
def goodHeader : List Byte := goodFields ++ zs 8128
theorem goodHeader_field (o n : Nat) (h : o + n ≤ 64) : imgField goodHeader o n = imgField goodFields o n := by
  have h1 : goodFields.length = 64 := by decide +kernel
  have h2 : n ≤ goodFields.length - o := by omega
  simp only [imgField, goodHeader]
  rw [List.drop_append_of_le_length (by omega), List.take_append_of_le_length (by simpa using h2)]
theorem goodHeader_zero (o n : Nat) (h : 64 ≤ o) : imgField goodHeader o n = 0 := by
  have h1 : goodFields.length = 64 := by decide +kernel
  have h2 : ∀ k, ofBytes (List.replicate k 0) = 0 := by
    intro k
    induction k with
    | zero => rfl
    | succ k ih => rw [List.replicate_succ, ofBytes, ih]; rfl
  simp only [imgField, goodHeader, zs]
  rw [List.drop_append, List.drop_eq_nil_of_le (by omega), List.nil_append, List.drop_replicate, List.take_replicate, h2]
/-- A header of type 2 without payload, key 0, ARB 0, and no identity conditions passes R542. -/
theorem header_passes (s : State) (h : FwHdr) (h1 : h.clean = true) (h2 : h.type = 2) (h3 : h.payload = 0) (h4 : h.idMask = 0)
    (h5 : h.idMatch = 0) (h6 : h.serial = 0) (h7 : h.keyId = 0) (h8 : h.arb = 0) (h9 : s.fw.revoked = 0) (h10 : (s.fwType 2).floor = 0) :
    s.headerStatus 2 h true = 0 := by
  have h11 : ∀ m : Nat, ¬ ((0 : Nat) > m) := Nat.not_lt_zero
  simp [State.headerStatus, h1, h2, h3, h4, h5, h6, h7, h8, h9, h10, bitAt, -Nat.not_lt_zero, h11]
theorem goodHeader_clean : (FwHdr.parse goodHeader).clean = true := by
  have hz : ∀ a b, 64 ≤ a → zeroIn goodHeader a b = true := by
    intro a b h
    have h1 : goodFields.length = 64 := by decide +kernel
    simp only [zeroIn, goodHeader, zs]
    rw [List.drop_append, List.drop_eq_nil_of_le (by omega), List.nil_append, List.drop_replicate, List.take_replicate]
    simp
  have hl : ∀ a b, b ≤ 64 → a ≤ b → zeroIn goodHeader a b = zeroIn goodFields a b := by
    intro a b h h'
    have h1 : goodFields.length = 64 := by decide +kernel
    simp only [zeroIn, goodHeader]
    rw [List.drop_append_of_le_length (by omega), List.take_append_of_le_length (by rw [List.length_drop]; omega)]
  have f : ∀ o n, o + n ≤ 64 → imgField goodHeader o n = imgField goodFields o n := goodHeader_field
  simp only [FwHdr.parse, hz _ _ (show 64 ≤ 0x78 by decide), hz _ _ (show 64 ≤ 0x1373 by decide), hl 0x1D 0x20 (by decide) (by decide), hl 0x2C 0x30 (by decide) (by decide),
    f 0 4 (by decide), f 4 1 (by decide), f 5 1 (by decide), f 7 1 (by decide), f 0x1C 1 (by decide)]
  decide +kernel
theorem goodHeader_passes (s : State) (h1 : s.fw.revoked = 0) (h2 : (s.fwType 2).floor = 0) :
    s.headerStatus 2 (FwHdr.parse goodHeader) true = 0 := by
  have f : ∀ o n v, o + n ≤ 64 → imgField goodFields o n = v → imgField goodHeader o n = v := fun o n v h e => (goodHeader_field o n h).trans e
  exact header_passes s _ goodHeader_clean (f 5 1 _ (by decide) (by decide +kernel)) (f 0x18 4 _ (by decide) (by decide +kernel))
    (f 0x14 4 _ (by decide) (by decide +kernel)) (f 0x10 4 _ (by decide) (by decide +kernel)) (goodHeader_zero 0x70 8 (by decide))
    (f 6 1 _ (by decide) (by decide +kernel)) (f 0xC 4 _ (by decide) (by decide +kernel)) h1 h2
theorem staged_passes (s : State) (h1 : s.fw.xfer = none) (h2 : s.fw.act = none) (h3 : s.partsMoving = false) (h4 : s.fw.revoked = 0)
    (h5 : s.fwType 2 = { FwType.reset with stgSt := .staged, stg := { FwHdr.none with type := 2, sfr := 3 } }) (t l : Nat) (ht : t = 2) :
    s.actStatus t l true true = 0 := by
  subst ht
  have h6 : s.headerStatus 2 (s.fwType 2).stg true = 0 := by
    rw [h5]; exact header_passes s _ rfl rfl rfl rfl rfl rfl rfl rfl h4 (by rw [h5]; rfl)
  rw [h5] at h6
  simp [State.actStatus, h1, h2, h3, h5, h6, schedFmtRev]
/-- A header received, of an image without payload. -/
def headed : FwXfer := xferOf .pldm 8192 goodHeader
/-- A whole image of no payload, its digest as the header says. -/
def whole : FwXfer := { xferOf .pldm 8192 [] with bytes := zs 8192, hdr := some { FwHdr.none with type := 2, digest := (Config.sha384 []).toNat } }
/-- A running module whose queue holds one command. -/
def oneWaits : State := { State.reset with pending := [.ledgerEvent] }

/-- Link 0 renews its keys: this end sent REKEY_INIT. -/
def rolling : State := (withCus cusUp).setLnk 0 { inSt .active with exch := some { xch with initiator := true, rollover := true } }
/-- The MAC of a REKEY_RESP of no data that it accepts. -/
def rollMac : Nat := wordMac (rolling.lnk 0).rxKey (rolling.lnk 0).rxEpoch 7 (rekeyPayload 2 3 0 0) 1
theorem rolling_takes : rolling.takeWords 0 ((rekeyWords 2 3 [] 0).zip ([1].zip [rollMac])) =
    (rolling.setLnk 0 { rolling.lnk 0 with rxCctr := 1 }, true) := by
  have e : rekeyWords 2 3 [] 0 = [rekeyPayload 2 3 0 0] := by decide +kernel
  rw [e]
  simp only [List.zip_cons_cons, List.zip_nil_right, State.takeWords]
  unfold rollMac
  rw [fresh_word _ _ _ _ _ (by decide +kernel)]
/-- With no window open, revoking revokes nothing. -/
theorem revoke_none (s : State) (f : InWin → Bool) (l : List Nat) (h : s.inWins = []) : s.revokeWins f l = (s, []) := by
  induction l with
  | nil => rfl
  | cons w l ih =>
    have e : (s.inWin w).valid = false := by rw [State.inWin, h]; rfl
    simp [State.revokeWins, e, ih]
/-- The state in which `State.placePart` places, where no window is open. -/
def placeFrom (s : State) (p : Nat) (pl : PlaceSpec) : State :=
  ((s.wakeGroups ((s.part p).spans.map (·.1))).freeObjs 2 2 (s.objsOf p)).modPart p fun q => { q with windows := pl.windows }
/-- A placement as `State.placePart` does it where no window is open. -/
def placeBare (s : State) (p : Nat) (pl : PlaceSpec) : State × Nat :=
  if !(s.part p).slotsNamed pl.places then (s, 3)
  else if !s.treeOk p pl.tree then (s, 8)
  else match (placeFrom s p pl).placeSlots p false pl.places with
    | (s1, 0) => match s1.openWins p pl.lends with
      | none => (s, 9)
      | some s2 =>
        if s2.pinsOver then (s, 6)
        else (((s2.modPart p fun q => { q with ctree := pl.tree, windows := pl.windows }).clearClusters p (maskList 48 (s.part p).clusters)).pinCarve p, 0)
    | (_, c) => (s, c)
theorem placePart_bare (s : State) (p : Nat) (pl : PlaceSpec) (h : (placeFrom s p pl).inWins = []) : s.placePart p pl = placeBare s p pl := by
  have e : ((placeFrom s p pl).revokeWins (fun i => i.part == p) (List.range 1023)).1 = placeFrom s p pl :=
    congrArg Prod.fst (revoke_none _ _ _ h)
  unfold placeFrom at e
  unfold State.placePart placeBare placeFrom
  simp only [e]
  all_goals
    clear e h
    generalize ((s.wakeGroups ((s.part p).spans.map (·.1))).freeObjs 2 2 (s.objsOf p)).modPart p (fun q => { q with windows := pl.windows }) = s0
    split
    · rfl
    · split
      · rfl
      · rcases s0.placeSlots p false pl.places with ⟨s1, _ | c⟩
        · simp only
          rcases s1.openWins p pl.lends with _ | s2
          · rfl
          · simp only
        · rfl
/-- A placement asked of composition 7's anchor. -/
def asked (q : Part) : State := ask 2 7 [] (anch { q with st := .reserved })
/-- That state with the request taken. -/
def taken (q : Part) : State := { asked q with mcWait := [] }
/-- The anchor's state after the placement `pl` that `r` answers. -/
def placed (q : Part) (pl : PlaceSpec) (r : State × Nat) : State :=
  (r.1.opBegin 0 2 [] [5] none).modPart 0 fun x =>
    { (x.addPlaces ((taken q).reg bFAB) pl.places) with plan := some pl, infos := x.infos.filter (·.fid != (taken q).reg bFAB) ++ [r.1.infoOf 0] }
/-- A reserved part with two other members. -/
def withTwo : Part := { bound with members := [entry 1, entry 2] }
theorem alone_plan : (taken bound).placedPlan 0 noPlan = noPlan := by decide +kernel
theorem withTwo_plan : (taken withTwo).placedPlan 0 noPlan = noPlan := by decide +kernel
theorem alone_bare : (taken bound).placePart 0 noPlan = placeBare (taken bound) 0 noPlan := placePart_bare _ _ _ (by decide +kernel)
theorem withTwo_bare : (taken withTwo).placePart 0 noPlan = placeBare (taken withTwo) 0 noPlan := placePart_bare _ _ _ (by decide +kernel)
theorem alone_code : ((taken bound).placePart 0 ((taken bound).placedPlan 0 noPlan)).2 = 0 := by
  rw [alone_plan, alone_bare]; decide +kernel
theorem withTwo_code : ((taken withTwo).placePart 0 ((taken withTwo).placedPlan 0 noPlan)).2 = 0 := by
  rw [withTwo_plan, withTwo_bare]; decide +kernel
theorem alone_others : (placed bound ((taken bound).placedPlan 0 noPlan) ((taken bound).placePart 0 ((taken bound).placedPlan 0 noPlan))).otherMembers 0 = [] := by
  rw [alone_plan, alone_bare]; decide +kernel
theorem withTwo_others : (placed withTwo ((taken withTwo).placedPlan 0 noPlan) ((taken withTwo).placePart 0 ((taken withTwo).placedPlan 0 noPlan))).otherMembers 0 ≠ [] := by
  rw [withTwo_plan, withTwo_bare]; decide +kernel

/-- The hypotheses of each clause of `Obligations.ControlSteps` are met. -/
theorem witness_ControlSteps :
  (∃ (c : CoreId) (s : State), ((s.core c).ready = true)) ∧
  (∃ (c : CoreId) (w : StepWord) (s : State), ((s.core c).ready = true) ∧ ((s.core c).masked (fld w 119 116) = [])) ∧
  (∃ (c : CoreId) (w : StepWord) (s : State), ((s.core c).ready = true) ∧ ((s.core c).masked (fld w 119 116) ≠ [])) ∧
  (∃ (c : CoreId) (s : State), ((s.core c).ready = true) ∧ ((s.core c).drained = true) ∧ (((s.part (s.core c).part).launch.map (·.rebind)) ≠ some true)) ∧
  (∃ (c : CoreId) (s : State), ((s.core c).signals = []) ∧ ((s.core c).stall = .none) ∧ ((((s.core c).qMx).head?).isSome = true)) ∧
  (∃ (c : CoreId) (s : State), ((s.core c).signals = []) ∧ ((s.core c).stall = .none) ∧ ((((s.core c).qVx).head?).isSome = true)) ∧
  (∃ (c : CoreId) (s : State) (n : _) (g : _) (ds : _), ((s.core c).signals = []) ∧ ((s.core c).stall = .none) ∧ ((s.core c).syDone = (n, 0xFFFFF, g) :: ds) ∧ ((s.core c).syWait = [])) :=
  ⟨⟨0, (up runs), by decide +kernel⟩,
   ⟨0, (sw [(116, 15)]), (up runs), by decide +kernel⟩,
   ⟨0, (sw [(116, 8)]), (up { runs with qMx := [3] }), by decide +kernel⟩,
   ⟨0, (up runs), by decide +kernel⟩,
   ⟨0, (up { runs with qMx := [3, 4] }), by decide +kernel⟩,
   ⟨0, (up { runs with qVx := [3, 4] }), by decide +kernel⟩,
   ⟨0, (up { runs with syDone := [(3, 0xFFFFF, 0)], qSy := [3] }), 3, 0, [], by decide +kernel⟩⟩

/-- The hypotheses of each clause of `Obligations.LoopsRepeat` are met. -/
theorem witness_LoopsRepeat :
  (∃ (k : Core), (∃ f ∈ k.loops.head?, (f.inVar = k.inVar) ∧ (k.step + 1 = f.first + f.body) ∧ (f.iter + 1 < f.count))) ∧
  (∃ (k : Core), (∃ f ∈ k.loops.head?, (k.loops.tail = []) ∧ (f.inVar = k.inVar) ∧ (k.inVar = false) ∧ (k.step + 1 = f.first + f.body) ∧ (f.count ≤ f.iter + 1))) ∧
  (∃ (k : Core), (k.loops = []) ∧ (k.inVar = false)) :=
  ⟨⟨({ runs with step := 1, loops := [⟨1, 1, 2, 0, false⟩] }), by decide +kernel⟩,
   ⟨({ runs with step := 1, loops := [⟨1, 1, 2, 1, false⟩] }), by decide +kernel⟩,
   ⟨runs, by decide +kernel⟩⟩

/-- The hypotheses of each clause of `Obligations.VariantSelect` are met. -/
theorem witness_VariantSelect :
  (∃ (c : CoreId) (s : State), ((s.core c).ready = true) ∧ (let k := s.core c; (k.setsels ≠ []))) ∧
  (∃ (c : CoreId) (w : StepWord) (s : State), ((s.core c).ready = true) ∧ (let k := s.core c; (k.setsels = []) ∧ (let im := s.imageOf k; (let off := secOff im 2 + 336 * fld w 119 108; (let n := imgField im off 1; (let x := tblGet (fun _ => 0) k.sel (fld w 105 104); (fld w 107 106 = 0) ∧ (x < n))))))) ∧
  (∃ (c : CoreId) (w : StepWord) (s : State), ((s.core c).ready = true) ∧ (let k := s.core c; (k.setsels = []) ∧ (let im := s.imageOf k; (let off := secOff im 2 + 336 * fld w 119 108; (let n := imgField im off 1; (let x := tblGet (fun _ => 0) k.sel (fld w 105 104); (fld w 107 106 = 0) ∧ (n ≤ x))))))) ∧
  (∃ (c : CoreId) (w : StepWord) (s : State) (e : _), ((s.core c).ready = true) ∧ (let k := s.core c; (k.setsels = []) ∧ (let im := s.imageOf k; (let off := secOff im 2 + 336 * fld w 119 108; (let n := imgField im off 1; (let x := tblGet (fun _ => 0) k.sel (fld w 105 104); (fld w 107 106 = 1) ∧ (e < n) ∧ (x ≤ imgField im (off + 0x10 + 4 * e) 4) ∧ (∀ d, d < e → imgField im (off + 0x10 + 4 * d) 4 < x))))))) ∧
  (∃ (c : CoreId) (w : StepWord) (s : State), ((s.core c).ready = true) ∧ (let k := s.core c; (k.setsels = []) ∧ (let im := s.imageOf k; (let off := secOff im 2 + 336 * fld w 119 108; (let n := imgField im off 1; (let x := tblGet (fun _ => 0) k.sel (fld w 105 104); (fld w 107 106 = 1) ∧ (∀ d, d < n → imgField im (off + 0x10 + 4 * d) 4 < x))))))) ∧
  (∃ (c : CoreId) (w : StepWord) (s : State), ((s.core c).ready = true) ∧ (let k := s.core c; (k.setsels = []) ∧ (2 ≤ fld w 107 106))) :=
  ⟨⟨0, (up { runs with setsels := [3] }), by decide +kernel⟩,
   ⟨0, (sw []), (upWith (image (toBytes 336 2) [] []) { runs with sel := [(0, 1)] }), by decide +kernel⟩,
   ⟨0, (sw []), (upWith (image (toBytes 336 2) [] []) { runs with sel := [(0, 2)] }), by decide +kernel⟩,
   ⟨0, (sw [(106, 1)]), (upWith (image (toBytes 336 (word [(0, 2), (128, 4), (160, 9)])) [] []) { runs with sel := [(0, 5)] }), 1, by decide +kernel⟩,
   ⟨0, (sw [(106, 1)]), (upWith (image (toBytes 336 (word [(0, 2), (128, 4), (160, 9)])) [] []) { runs with sel := [(0, 10)] }), by decide +kernel⟩,
   ⟨0, (sw [(106, 2)]), (up runs), by decide +kernel⟩⟩

/-- The hypotheses of each clause of `Obligations.MatrixSteps` are met. -/
theorem witness_MatrixSteps :
  (∃ (c : CoreId) (w : StepWord) (s : State), ((s.core c).ready = true) ∧ (let d? := s.poolDesc c (fld w 111 96) (fld w 95 88) 0; ((s.core c).qMx.length < 32) ∧ (∃ d ∈ d?, (∃ f ∈ (tileOk c d), (s.tilePoison c d f = 0))))) ∧
  (∃ (c : CoreId) (w : StepWord) (s : State), ((s.core c).ready = true) ∧ (let d? := s.poolDesc c (fld w 111 96) (fld w 95 88) 0; ((s.core c).qMx.length < 32) ∧ (∃ d ∈ d?, (∃ tl ∈ ((s.core c).buf (flag w 119)), (fld w 87 72 = 0xFFFF) ∧ (∃ p_ ∈ (s.mmaCheck c w d tl), (let f := p_.2.1; (p_.2.2 = none) ∧ (tl.k ≠ 0) ∧ (s.poisonRows c d.off d.stride (rowBytes f d.elems) d.rows + s.poisonRows c d.auxOff (if d.scaled then scaleBytes f d.elems else 0) (if d.scaled then scaleBytes f d.elems else 0) d.rows = 0))))))) ∧
  (∃ (c : CoreId) (w : StepWord) (s : State), ((s.core c).ready = true) ∧ (let d? := s.poolDesc c (fld w 111 96) (fld w 95 88) 0; ((s.core c).qMx.length < 32) ∧ (∃ d ∈ d?, (((s.core c).bank (flag w 118)).kind = .f32) ∧ (d.fmt = 0) ∧ (d.space = 1) ∧ (d.core = c.val) ∧ (d.scaled = false) ∧ (d.sparse = false) ∧ (d.round < 2) ∧ (1 ≤ d.rows) ∧ (d.rows ≤ 256) ∧ ((d.elems = 64 ∨ d.elems = 128)) ∧ (extentOk d.off d.rows d.stride (4 * d.elems) = true)))) ∧
  (∃ (c : CoreId) (w : StepWord) (s : State), ((s.core c).ready = true) ∧ (let d? := s.poolDesc c (fld w 111 96) (fld w 95 88) 0; ((s.core c).qMx.length < 32) ∧ (d? = none))) ∧
  (∃ (c : CoreId) (w : StepWord) (s : State), ((s.core c).ready = true) ∧ (let d? := s.poolDesc c (fld w 111 96) (fld w 95 88) 0; ((s.core c).qMx.length < 32) ∧ (∃ d ∈ d?, (tileOk c d = none)))) ∧
  (∃ (c : CoreId) (w : StepWord) (s : State), ((s.core c).ready = true) ∧ (let d? := s.poolDesc c (fld w 111 96) (fld w 95 88) 0; ((s.core c).qMx.length < 32) ∧ (∃ d ∈ d?, (∃ f ∈ (tileOk c d), (0 < s.tilePoison c d f))))) ∧
  (∃ (c : CoreId) (w : StepWord) (s : State), ((s.core c).ready = true) ∧ (let d? := s.poolDesc c (fld w 111 96) (fld w 95 88) 0; ((s.core c).qMx.length < 32) ∧ (∃ d ∈ d?, ((s.core c).buf (flag w 119) = none)))) ∧
  (∃ (c : CoreId) (s : State), ((s.core c).ready = true) ∧ (32 ≤ (s.core c).qMx.length)) :=
  ⟨⟨0, (sw []), (upWith (image [] (desc 0 64 64 16 1 0) []) runs), by decide +kernel⟩,
   ⟨0, (sw [(72, 0xFFFF)]), (upWith (image [] (desc 0 1 64 16 1 0) []) { runs with w0 := some ⟨.fp32, 64, 16, false, false, [], [], [], false⟩ }), by decide +kernel⟩,
   ⟨0, (sw []), (upWith (image [] (desc 0 256 256 64 1 0) []) { runs with acc0 := ⟨.f32, [], []⟩ }), by decide +kernel⟩,
   ⟨0, (sw [(96, 1)]), (upWith (image [] (desc 0 64 64 16 1 0) []) runs), by decide +kernel⟩,
   ⟨0, (sw []), (upWith (image [] (desc 0 63 64 16 1 0) []) runs), by decide +kernel⟩,
   ⟨0, (sw []), ({ upWith (image [] (desc 0 64 64 16 1 0) []) runs with spadPoison := [(0, true)], spadWritten := [(0, true)] }), by decide +kernel⟩,
   ⟨0, (sw []), (upWith (image [] (desc 0 1 64 16 1 0) []) runs), by decide +kernel⟩,
   ⟨0, (up { runs with qMx := full }), by decide +kernel⟩⟩

/-- The hypotheses of each clause of `Obligations.VectorArithmetic` are met. -/
theorem witness_VectorArithmetic :
  (∃ (c : CoreId) (w : StepWord) (s : State), ((s.core c).ready = true) ∧ ((s.core c).qVx.length < 32) ∧ (fpFmtOk w = true)) ∧
  (∃ (c : CoreId) (w : StepWord) (s : State), ((s.core c).ready = true) ∧ ((s.core c).qVx.length < 32) ∧ (anyFmtOk w = true)) ∧
  (∃ (c : CoreId) (w : StepWord) (s : State), ((s.core c).ready = true) ∧ ((s.core c).qVx.length < 32) ∧ ((srcFmt w ≤ 2 ∨ srcFmt w = 0xC)) ∧ (func w ≤ 3)) ∧
  (∃ (c : CoreId) (w : StepWord) (s : State), ((s.core c).ready = true) ∧ ((s.core c).qVx.length < 32) ∧ (fpFmtOk w = false)) ∧
  (∃ (c : CoreId) (w : StepWord) (s : State), ((s.core c).ready = true) ∧ ((s.core c).qVx.length < 32) ∧ (anyFmtOk w = false)) ∧
  (∃ (c : CoreId) (w : StepWord) (s : State), ((s.core c).ready = true) ∧ ((s.core c).qVx.length < 32) ∧ (3 < func w)) ∧
  (∃ (c : CoreId) (s : State), ((s.core c).ready = true) ∧ (32 ≤ (s.core c).qVx.length)) :=
  ⟨⟨0, (sw [(92, 2), (88, 2)]), (up { runs with qVx := full.tail }), by decide +kernel⟩,
   ⟨0, (sw [(92, 0xC), (88, 0xC)]), (up { runs with qVx := full.tail }), by decide +kernel⟩,
   ⟨0, (sw [(92, 0xC), (80, 3)]), (up { runs with qVx := full.tail }), by decide +kernel⟩,
   ⟨0, (sw [(92, 3), (88, 3)]), (up { runs with qVx := full.tail }), by decide +kernel⟩,
   ⟨0, (sw [(92, 2), (88, 1)]), (up { runs with qVx := full.tail }), by decide +kernel⟩,
   ⟨0, (sw [(80, 4)]), (up { runs with qVx := full.tail }), by decide +kernel⟩,
   ⟨0, (up { runs with qVx := full }), by decide +kernel⟩⟩

/-- The hypotheses of each clause of `Obligations.VectorMoves` are met. -/
theorem witness_VectorMoves :
  (∃ (c : CoreId) (w : StepWord) (s : State), ((s.core c).ready = true) ∧ ((s.core c).qVx.length < 32) ∧ (anyFmtOk w = true)) ∧
  (∃ (c : CoreId) (w : StepWord) (s : State), ((s.core c).ready = true) ∧ ((s.core c).qVx.length < 32) ∧ (srcFmt w = 0xC) ∧ (dstFmt w = 0xC) ∧ (func w ≤ 12)) ∧
  (∃ (c : CoreId) (w : StepWord) (s : State), ((s.core c).ready = true) ∧ ((s.core c).qVx.length < 32) ∧ (srcFmt w = 0 ∨ srcFmt w = 0xC) ∧ (dstFmt w = srcFmt w) ∧ (func w ≤ 2)) ∧
  (∃ (c : CoreId) (w : StepWord) (s : State), ((s.core c).ready = true) ∧ ((s.core c).qVx.length < 32) ∧ (moveFmtOk w = true) ∧ (func w = 0)) ∧
  (∃ (c : CoreId) (w : StepWord) (s : State), ((s.core c).ready = true) ∧ ((s.core c).qVx.length < 32) ∧ (moveFmtOk w = true) ∧ (func w = 1)) ∧
  (∃ (c : CoreId) (w : StepWord) (s : State), ((s.core c).ready = true) ∧ ((s.core c).qVx.length < 32) ∧ (srcFmt w = 0) ∧ (dstFmt w = 0) ∧ (func w ≤ 12)) ∧
  (∃ (c : CoreId) (w : StepWord) (s : State), ((s.core c).ready = true) ∧ ((s.core c).qVx.length < 32) ∧ (moveFmtOk w = true)) ∧
  (∃ (c : CoreId) (s : State), ((s.core c).ready = true) ∧ ((s.core c).qVx.length < 32)) ∧
  (∃ (c : CoreId) (w : StepWord) (s : State), ((s.core c).ready = true) ∧ ((s.core c).qVx.length < 32) ∧ (∃ p_ ∈ (cvtFields w), (p_.2.2.2.2 = false))) ∧
  (∃ (c : CoreId) (w : StepWord) (s : State), ((s.core c).ready = true) ∧ ((s.core c).qVx.length < 32) ∧ (∃ p_ ∈ (cvtFields w), (p_.2.2.2.2 = true) ∧ ((s.seedOf c (fld w 79 64)).isSome = true))) ∧
  (∃ (c : CoreId) (w : StepWord) (s : State), ((s.core c).ready = true) ∧ ((s.core c).qVx.length < 32) ∧ (∃ p_ ∈ (cvtFields w), (p_.2.2.2.2 = true) ∧ (s.seedOf c (fld w 79 64) = none))) ∧
  (∃ (c : CoreId) (w : StepWord) (s : State), ((s.core c).ready = true) ∧ (let off := fld w 51 32; ((s.core c).qVx.length < 32) ∧ (moveFmtOk w = true) ∧ (off % 32 = 0) ∧ (s.poisonIn c off (min 2048 (2 ^ 20 - off)) = 0))) ∧
  (∃ (c : CoreId) (w : StepWord) (s : State), ((s.core c).ready = true) ∧ (let off := fld w 51 32; ((s.core c).qVx.length < 32) ∧ (moveFmtOk w = true) ∧ (off % 32 = 0))) ∧
  (∃ (c : CoreId) (w : StepWord) (s : State), ((s.core c).ready = true) ∧ (let off := fld w 51 32; ((s.core c).qVx.length < 32) ∧ (off % 32 ≠ 0))) ∧
  (∃ (c : CoreId) (w : StepWord) (s : State), ((s.core c).ready = true) ∧ (let off := fld w 51 32; ((s.core c).qVx.length < 32) ∧ (moveFmtOk w = true) ∧ (off % 32 = 0) ∧ (0 < s.poisonIn c off (min 2048 (2 ^ 20 - off))))) ∧
  (∃ (c : CoreId) (w : StepWord) (s : State), ((s.core c).ready = true) ∧ ((s.core c).qVx.length < 32) ∧ (cvtFields w = none)) ∧
  (∃ (c : CoreId) (s : State), ((s.core c).ready = true) ∧ (32 ≤ (s.core c).qVx.length)) :=
  ⟨⟨0, (sw [(92, 2), (88, 2)]), (up runs), by decide +kernel⟩,
   ⟨0, (sw [(92, 0xC), (88, 0xC), (80, 12)]), (up runs), by decide +kernel⟩,
   ⟨0, (sw [(92, 0xC), (88, 0xC), (80, 2)]), (up runs), by decide +kernel⟩,
   ⟨0, (sw [(92, 0xC)]), (up runs), by decide +kernel⟩,
   ⟨0, (sw [(92, 0xC), (80, 1)]), (up runs), by decide +kernel⟩,
   ⟨0, (sw [(80, 12)]), (up runs), by decide +kernel⟩,
   ⟨0, (sw [(92, 2), (88, 2)]), (up runs), by decide +kernel⟩,
   ⟨0, (up runs), by decide +kernel⟩,
   ⟨0, (sw [(88, 1)]), (up runs), by decide +kernel⟩,
   ⟨0, (sw [(92, 0), (88, 2), (86, 1)]), (upWith (image [] [] (toBytes 8 9)) runs), by decide +kernel⟩,
   ⟨0, (sw [(92, 0), (88, 2), (86, 1)]), (up runs), by decide +kernel⟩,
   ⟨0, (sw [(32, 0xFFFE0)]), (up runs), by decide +kernel⟩,
   ⟨0, (sw [(32, 0xFFFE0)]), (up runs), by decide +kernel⟩,
   ⟨0, (sw [(32, 31)]), (up runs), by decide +kernel⟩,
   ⟨0, (sw [(32, 0xFFFE0)]), ({ up runs with spadWritten := [(0x7FFF, true)], spadPoison := [(0x1FFFF, true)] }), by decide +kernel⟩,
   ⟨0, (sw [(80, 4)]), (up runs), by decide +kernel⟩,
   ⟨0, (up { runs with qVx := full }), by decide +kernel⟩⟩

/-- The hypotheses of each clause of `Obligations.TransferStart` are met. -/
theorem witness_TransferStart :
  (∃ (c : CoreId) (w : StepWord) (u : Option (Fin 1048576)) (f : Fin 16) (s : State), ((s.core c).ready = true) ∧ (let k := s.core c; (let e := clusterEngine c w; (let forms : List (Instr × XfStep × Nat) := [(.copyt c w, .copyt, e), (.gather c w, .gather, e), (.scatter c w, .scatter, e), (.dispatch c w, .scatter, e), (.ls c w u, .ls u, 112 + c), (.lcopy c w f, .lcopy f, 96 + f), (.copy c w u, .copy u, e)]; (k.qXf.length < 32) ∧ (∃ i ∈ forms, (i.1 = .copy c w u → specialCopy w = false) ∧ (i.1 = .lcopy c w f → s.lcopyDie c w f = true) ∧ (k.held ≠ [] ∨ s.hasRoom i.2.2 = false)))))) ∧
  (∃ (c : CoreId) (w : StepWord) (u : Option (Fin 1048576)) (s : State) (seed : _), ((s.core c).ready = true) ∧ (let k := s.core c; (let e := clusterEngine c w; (let q := s.setCore c (k.enqueue .xf); (let plain := fld w 79 64 = 0xFFFF; (k.qXf.length < 32) ∧ (k.held = []) ∧ (let t := q.upset c u; ((t.xferDesc c w (fld w 111 96)).isSome = true) ∧ (∃ dd ∈ (t.xferDesc c w (fld w 95 80)), (dd.round ≠ 1 → seed = 0) ∧ (dd.round = 1 → t.seedOf c (fld w 35 20) = some seed) ∧ (s.hasRoom e = true) ∧ (specialCopy w = false) ∧ (plain)))))))) ∧
  (∃ (c : CoreId) (w : StepWord) (u : Option (Fin 1048576)) (s : State) (seed : _), ((s.core c).ready = true) ∧ (let k := s.core c; (let e := clusterEngine c w; (let q := s.setCore c (k.enqueue .xf); (let plain := fld w 79 64 = 0xFFFF; (k.qXf.length < 32) ∧ (k.held = []) ∧ (let t := q.upset c u; ((t.xferDesc c w (fld w 111 96)).isSome = true) ∧ (∃ dd ∈ (t.xferDesc c w (fld w 95 80)), (dd.round ≠ 1 → seed = 0) ∧ (dd.round = 1 → t.seedOf c (fld w 35 20) = some seed) ∧ (s.hasRoom e = true) ∧ (specialCopy w = false) ∧ (¬ plain) ∧ ((t.poolRaw (t.core c) (fld w 79 64) (fld w 63 56) 0).isSome = true)))))))) ∧
  (∃ (c : CoreId) (w : StepWord) (u : Option (Fin 1048576)) (s : State) (seed : _), ((s.core c).ready = true) ∧ (let k := s.core c; (let q := s.setCore c (k.enqueue .xf); (k.qXf.length < 32) ∧ (k.held = []) ∧ (let t := q.upset c u; ((t.xferDesc c w (fld w 111 96)).isSome = true) ∧ (∃ dd ∈ (t.xferDesc c w (fld w 95 80)), (dd.round ≠ 1 → seed = 0) ∧ (dd.round = 1 → t.seedOf c (fld w 35 20) = some seed) ∧ (s.hasRoom (112 + c) = true) ∧ (seed = 0)))))) ∧
  (∃ (c : CoreId) (w : StepWord) (f : Fin 16) (s : State) (seed : _), ((s.core c).ready = true) ∧ (let k := s.core c; (let q := s.setCore c (k.enqueue .xf); (k.qXf.length < 32) ∧ (k.held = []) ∧ ((q.xferDesc c w (fld w 111 96)).isSome = true) ∧ (∃ dd ∈ (q.xferDesc c w (fld w 95 80)), (dd.round ≠ 1 → seed = 0) ∧ (dd.round = 1 → q.seedOf c (fld w 35 20) = some seed) ∧ (s.hasRoom (96 + f) = true) ∧ (s.lcopyDie c w f = true))))) ∧
  (∃ (c : CoreId) (w : StepWord) (s : State) (seed : _), ((s.core c).ready = true) ∧ (let k := s.core c; (let e := clusterEngine c w; (let q := s.setCore c (k.enqueue .xf); (let plain := fld w 79 64 = 0xFFFF; (k.qXf.length < 32) ∧ (k.held = []) ∧ ((q.xferDesc c w (fld w 111 96)).isSome = true) ∧ (∃ dd ∈ (q.xferDesc c w (fld w 95 80)), (dd.round ≠ 1 → seed = 0) ∧ (dd.round = 1 → q.seedOf c (fld w 35 20) = some seed) ∧ (s.hasRoom e = true) ∧ (plain))))))) ∧
  (∃ (c : CoreId) (w : StepWord) (s : State) (seed : _), ((s.core c).ready = true) ∧ (let k := s.core c; (let e := clusterEngine c w; (let q := s.setCore c (k.enqueue .xf); (let plain := fld w 79 64 = 0xFFFF; (k.qXf.length < 32) ∧ (k.held = []) ∧ ((q.xferDesc c w (fld w 111 96)).isSome = true) ∧ (∃ dd ∈ (q.xferDesc c w (fld w 95 80)), (dd.round ≠ 1 → seed = 0) ∧ (dd.round = 1 → q.seedOf c (fld w 35 20) = some seed) ∧ (s.hasRoom e = true) ∧ (¬ plain) ∧ ((q.poolRaw (q.core c) (fld w 79 64) (fld w 63 56) 0).isSome = true))))))) ∧
  (∃ (c : CoreId) (w : StepWord) (s : State) (seed : _), ((s.core c).ready = true) ∧ (let k := s.core c; (let e := clusterEngine c w; (let q := s.setCore c (k.enqueue .xf); (k.qXf.length < 32) ∧ (k.held = []) ∧ ((q.xferDesc c w (fld w 111 96)).isSome = true) ∧ (∃ dd ∈ (q.xferDesc c w (fld w 95 80)), (dd.round ≠ 1 → seed = 0) ∧ (dd.round = 1 → q.seedOf c (fld w 35 20) = some seed) ∧ (s.hasRoom e = true) ∧ ((q.xferDesc c w (fld w 79 64)).isSome = true)))))) ∧
  (∃ (c : CoreId) (w : StepWord) (s : State) (seed : _), ((s.core c).ready = true) ∧ (let k := s.core c; (let e := clusterEngine c w; (let q := s.setCore c (k.enqueue .xf); (k.qXf.length < 32) ∧ (k.held = []) ∧ ((q.xferDesc c w (fld w 111 96)).isSome = true) ∧ (∃ dd ∈ (q.xferDesc c w (fld w 95 80)), (dd.round ≠ 1 → seed = 0) ∧ (dd.round = 1 → q.seedOf c (fld w 35 20) = some seed) ∧ (s.hasRoom e = true) ∧ (∃ l ∈ (q.xferDesc c w (fld w 79 64)), (¬ (listDescOk c l = true ∧ q.listKind c l.off = 3)))))))) ∧
  (∃ (c : CoreId) (w : StepWord) (s : State) (seed : _) (sd' : _), ((s.core c).ready = true) ∧ (let k := s.core c; (let e := clusterEngine c w; (let q := s.setCore c (k.enqueue .xf); (k.qXf.length < 32) ∧ (k.held = []) ∧ ((q.xferDesc c w (fld w 111 96)).isSome = true) ∧ (∃ dd ∈ (q.xferDesc c w (fld w 95 80)), (dd.round ≠ 1 → seed = 0) ∧ (s.hasRoom e = true) ∧ (∃ l ∈ (q.xferDesc c w (fld w 79 64)), (listDescOk c l = true) ∧ (q.listKind c l.off = 3) ∧ (let m := q.routeBuckets c l.off; (let direct := q.routeDirect c l.off; (∃ ds ∈ (q.descRun c w (fld w 95 80) 0 (if direct then m else 2 * m)), (if (ds.take m).any (fun d => d.round == 1) then q.seedOf c (fld w 35 20) = some sd' else sd' = 0)))))))))) ∧
  (∃ (c : CoreId) (w : StepWord) (s : State), ((s.core c).ready = true) ∧ (let k := s.core c; (let e := clusterEngine c w; (let q := s.setCore c (k.enqueue .xf); (k.qXf.length < 32) ∧ (k.held = []) ∧ (q.xferDesc c w (fld w 111 96) = none) ∧ (s.hasRoom e = true) ∧ (specialCopy w = false))))) ∧
  (∃ (c : CoreId) (w : StepWord) (s : State), ((s.core c).ready = true) ∧ (let k := s.core c; (let e := clusterEngine c w; (let q := s.setCore c (k.enqueue .xf); (k.qXf.length < 32) ∧ (k.held = []) ∧ (q.xferDesc c w (fld w 111 96) = none) ∧ (s.hasRoom e = true))))) ∧
  (∃ (c : CoreId) (w : StepWord) (f : Fin 16) (s : State), ((s.core c).ready = true) ∧ (let k := s.core c; (let q := s.setCore c (k.enqueue .xf); (k.qXf.length < 32) ∧ (k.held = []) ∧ (q.xferDesc c w (fld w 111 96) = none) ∧ (s.hasRoom (96 + f) = true) ∧ (s.lcopyDie c w f = true)))) ∧
  (∃ (c : CoreId) (w : StepWord) (s : State), ((s.core c).ready = true) ∧ (let k := s.core c; (let q := s.setCore c (k.enqueue .xf); (k.qXf.length < 32) ∧ (k.held = []) ∧ (q.xferDesc c w (fld w 111 96) = none) ∧ (s.hasRoom (112 + c) = true)))) ∧
  (∃ (c : CoreId) (w : StepWord) (s : State), ((s.core c).ready = true) ∧ (let k := s.core c; (let e := clusterEngine c w; (let q := s.setCore c (k.enqueue .xf); (k.qXf.length < 32) ∧ (k.held = []) ∧ ((q.xferDesc c w (fld w 111 96)).isSome = true) ∧ (∃ dd ∈ (q.xferDesc c w (fld w 95 80)), (dd.round = 1) ∧ (q.seedOf c (fld w 35 20) = none) ∧ (s.hasRoom e = true)))))) ∧
  (∃ (c : CoreId) (w : StepWord) (s : State), ((s.core c).ready = true) ∧ (specialCopy w = true)) ∧
  (∃ (c : CoreId) (w : StepWord) (f : Fin 16) (s : State), ((s.core c).ready = true) ∧ (s.lcopyDie c w f = false)) ∧
  (∃ (c : CoreId) (w : StepWord) (u : Option (Fin 1048576)) (f : Fin 16) (s : State), ((s.core c).ready = true) ∧ (let k := s.core c; (let e := clusterEngine c w; (let forms : List (Instr × XfStep × Nat) := [(.copyt c w, .copyt, e), (.gather c w, .gather, e), (.scatter c w, .scatter, e), (.dispatch c w, .scatter, e), (.ls c w u, .ls u, 112 + c), (.lcopy c w f, .lcopy f, 96 + f), (.copy c w u, .copy u, e)]; (32 ≤ k.qXf.length) ∧ (∃ i ∈ forms, (i.1 = .copy c w u → specialCopy w = false) ∧ (i.1 = .lcopy c w f → s.lcopyDie c w f = true)))))) :=
  ⟨⟨0, (sw []), none, 0, (up { runs with held := [⟨3, sw [], .copyt, 0, [], []⟩] }), by decide +kernel⟩,
   ⟨0, (sw [(64, 0xFFFF)]), none, (upWith (image [] (desc 0 1 64 16 1 0) []) runs), 0, by decide +kernel⟩,
   ⟨0, (sw []), none, (upWith (image [] (desc 0 1 64 16 1 0) []) runs), 0, by decide +kernel⟩,
   ⟨0, (sw [(64, 0xFFFF)]), (some 0), (upWith (image [] (desc 0 1 64 16 1 0) []) runs), 0, by decide +kernel⟩,
   ⟨0, (sw [(64, 0xFFFF)]), 15, (upWith (image [] (desc 0 1 64 16 1 0) []) runs), 0, by decide +kernel⟩,
   ⟨0, (sw [(64, 0xFFFF)]), (upWith (image [] (toBytes 32 (word [(241, 1)])) (toBytes 8 9)) runs), 9, by decide +kernel⟩,
   ⟨0, (sw []), (upWith (image [] (desc 0 1 64 16 1 0) []) runs), 0, by decide +kernel⟩,
   ⟨0, (sw []), (upWith (image [] (desc 0 1 64 16 1 0) []) runs), 0, by decide +kernel⟩,
   ⟨0, (sw []), (upWith (image [] (desc 0 1 64 16 1 0) []) runs), 0, by decide +kernel⟩,
   ⟨0, (sw []), ((upWith (image [] (desc 0xC 1 16 4 1 0) []) runs).spadWrite 0 0 (toBytes 8 (word [(24, 3), (32, 1), (52, 1)]))), 0, 0, by decide +kernel⟩,
   ⟨0, (sw []), (up runs), by decide +kernel⟩,
   ⟨0, (sw []), (up runs), by decide +kernel⟩,
   ⟨0, (sw []), 0, (up runs), by decide +kernel⟩,
   ⟨0, (sw []), (up runs), by decide +kernel⟩,
   ⟨0, (sw []), (upWith (image [] (toBytes 32 (word [(241, 1)])) []) runs), by decide +kernel⟩,
   ⟨0, (sw [(80, 0xFFF0)]), (up runs), by decide +kernel⟩,
   ⟨0, (sw []), 15, (linked (upWith (image [] (desc 0 1 64 16 2 0) []) runs)), by decide +kernel⟩,
   ⟨0, (sw []), none, 0, (up { runs with qXf := full }), by decide +kernel⟩⟩

/-- The hypotheses of each clause of `Obligations.AllocatorTransfers` are met. -/
theorem witness_AllocatorTransfers :
  (∃ (c : CoreId) (w : StepWord) (s : State), (let k := s.core c; (let e := clusterEngine c w; (let q := s.setCore c (k.enqueue .xf); (k.ready = true) ∧ (k.qXf.length < 32) ∧ (k.held = []) ∧ (s.hasRoom e = true) ∧ (fld w 79 64 = 0xFFFF) ∧ (0xFFF0 ≤ fld w 95 80) ∧ (fld w 95 80 ≤ 0xFFF3) ∧ ((q.xferDesc c w (fld w 111 96)).isSome = true))))) ∧
  (∃ (c : CoreId) (w : StepWord) (s : State) (picks : _), (let k := s.core c; (let e := clusterEngine c w; (let q := s.setCore c (k.enqueue .xf); (k.ready = true) ∧ (k.qXf.length < 32) ∧ (k.held = []) ∧ (s.hasRoom e = true) ∧ (fld w 79 64 = 0xFFFF) ∧ (fld w 111 96 = 0xFFE0) ∧ (∃ dd ∈ (s.xferDesc c w (fld w 95 80)), (q.xferDesc c w (fld w 95 80) = some dd) ∧ (∃ n ∈ (pagesForm c dd), (s.hasAlloc k.part = true → s.picksOk k.part n picks = true))))))) ∧
  (∃ (c : CoreId) (w : StepWord) (s : State), (let k := s.core c; (let e := clusterEngine c w; (let q := s.setCore c (k.enqueue .xf); (k.ready = true) ∧ (k.qXf.length < 32) ∧ (k.held = []) ∧ (s.hasRoom e = true) ∧ (fld w 79 64 = 0xFFFF) ∧ (fld w 95 80 = 0xFFE1) ∧ ((q.xferDesc c w (fld w 111 96)).isSome = true))))) ∧
  (∃ (s : State) (x : Xfer), (x.kind = .bucketCount) ∧ (x.src.space = 1) ∧ (x.src.core / 16 = x.core / 16) ∧ (x.src.off + 4 ≤ 2 ^ 20) ∧ ((fmtOf x.src.fmt).all (fun f => x.src.extent f) = true) ∧ (s.poisonIn x.src.core x.src.off 4 = 0)) ∧
  (∃ (s : State) (x : Xfer), (x.kind = .alloc) ∧ (∃ n ∈ (pagesForm x.core x.dst), (s.hasAlloc x.part = true) ∧ (x.dst.extent .int32 = true) ∧ (s.picksOk x.part n x.picks = true))) ∧
  (∃ (s : State) (x : Xfer), (x.kind = .free) ∧ (∃ n ∈ (pagesForm x.core x.src), (s.hasAlloc x.part = true) ∧ (x.src.extent .int32 = true) ∧ (let j := s.spadWord x.core x.src.off; (0 < j) ∧ (j ≤ n) ∧ (s.poisonIn x.core x.src.off 8 = 0) ∧ (s.poisonIn x.core (x.src.off + 8) (8 * j) = 0)))) ∧
  (∃ (s : State) (pg : Fin 16384), (s.poolPage pg = some ⟨none, true⟩)) :=
  ⟨⟨0, (sw [(64, 0xFFFF), (80, 0xFFF3)]), (upWith (image [] (desc 0xC 1 16 4 1 0) []) runs), by decide +kernel⟩,
   ⟨0, (sw [(64, 0xFFFF), (96, 0xFFE0)]), (((upWith (image [] (desc 0xC 1 16 4 1 0) []) runs).modPart 0 fun q => { q with flags := 4 }).setPoolPage 5 (some ⟨none, false⟩)), [(5, 4095)], by decide +kernel⟩,
   ⟨0, (sw [(64, 0xFFFF), (80, 0xFFE1)]), (upWith (image [] (desc 0xC 1 16 4 1 0) []) runs), by decide +kernel⟩,
   ⟨State.reset, { movedXfer with kind := .bucketCount, src := descOf (word [(52, 1), (244, 0xC), (192, 1), (64, 1)]) }, by decide +kernel⟩,
   ⟨((State.reset.modPart 0 fun q => { q with flags := 4 }).setPoolPage 5 (some ⟨none, false⟩)), { movedXfer with kind := .alloc, dst := descOf (ofBytes (desc 0xC 1 16 4 1 0)), picks := [(5, 4095)] }, by decide +kernel⟩,
   ⟨((State.reset.modPart 0 fun q => { q with flags := 4 }).spadWrite 0 0 (toBytes 8 1)), { movedXfer with kind := .free, src := descOf (ofBytes (desc 0xC 1 16 4 1 0)) }, by decide +kernel⟩,
   ⟨(State.reset.setPoolPage 5 (some ⟨none, true⟩)), 5, by decide +kernel⟩⟩

/-- The hypotheses of each clause of `Obligations.TransferEnds` are met. -/
theorem witness_TransferEnds :
  (∃ (e : XferEngineId) (core : Nat) (seq : Nat) (s : State), (∃ x ∈ (s.findXfer e core seq), (0 < x.unacked) ∧ (∀ d ∈ (x.disp), d.toDone = []))) ∧
  (∃ (e : XferEngineId) (core : Nat) (seq : Nat) (s : State), (∃ x ∈ (s.findXfer e core seq), (0 < x.unacked) ∧ (∃ d ∈ (x.disp), (((d.toDone).head?).isSome = true)))) ∧
  (∃ (e : XferEngineId) (s : State), (∃ x ∈ (((s.engine e).queue).head?), (0 < x.unacked ∨ 0 < x.reads ∨ x.moved = false))) ∧
  (∃ (e : XferEngineId) (s : State), (∃ x ∈ (((s.engine e).queue).head?), (x.isOver = true) ∧ (x.host.isSome = true))) ∧
  (∃ (e : XferEngineId) (s : State), (∃ x ∈ (((s.engine e).queue).head?), (x.isOver = true) ∧ (x.host = none) ∧ (x.disp = none) ∧ (x.statrec = false) ∧ (x.status = 0) ∧ (x.sig = 0xFFFFF))) ∧
  (∃ (e : XferEngineId) (s : State), (∃ x ∈ (((s.engine e).queue).head?), (x.isOver = true) ∧ (x.host = none) ∧ (x.disp = none) ∧ (x.statrec = true) ∧ (x.sig = 0xFFFFF))) ∧
  (∃ (e : XferEngineId) (s : State), (∃ x ∈ (((s.engine e).queue).head?), (x.isOver = true) ∧ (x.host = none) ∧ (x.disp = none) ∧ (x.statrec = false) ∧ (x.status ≠ 0) ∧ (x.sig = 0xFFFFF))) ∧
  (∃ (e : XferEngineId) (s : State), (∃ x ∈ (((s.engine e).queue).head?), (let xs := ((s.engine e).queue).tail; (let s1 := (s.setEngine e { s.engine e with queue := xs }).draw; (x.isOver = true) ∧ (x.host = none) ∧ (x.disp = none) ∧ (x.statrec = false) ∧ (x.status = 0) ∧ (x.sig ≠ 0xFFFFF) ∧ (s1.isRemote x.core x.sig = false))))) ∧
  (∃ (e : XferEngineId) (s : State), (∃ x ∈ (((s.engine e).queue).head?), (let xs := ((s.engine e).queue).tail; (let s1 := (s.setEngine e { s.engine e with queue := xs }).draw; (x.isOver = true) ∧ (x.host = none) ∧ (x.disp = none) ∧ (x.statrec = false) ∧ (x.status = 0) ∧ (x.sig ≠ 0xFFFFF) ∧ (s1.isRemote x.core x.sig = true))))) :=
  ⟨⟨0, 0, 1, (eng { movedXfer with unacked := 1 }), by decide +kernel⟩,
   ⟨0, 0, 1, (eng { movedXfer with unacked := 1, disp := some ⟨1, 0, 0, 0, 0, 0, 0, [], [], [], [], false, [0]⟩ }), by decide +kernel⟩,
   ⟨0, (eng { movedXfer with unacked := 1 }), by decide +kernel⟩,
   ⟨0, (eng { movedXfer with host := some 1 }), by decide +kernel⟩,
   ⟨0, (eng movedXfer), by decide +kernel⟩,
   ⟨0, (eng { movedXfer with statrec := true }), by decide +kernel⟩,
   ⟨0, (eng { movedXfer with status := 5 }), by decide +kernel⟩,
   ⟨0, (eng { movedXfer with sig := 3 }), by decide +kernel⟩,
   ⟨0, ((eng { movedXfer with sig := 0x80000 }).setPart 0 { Part.reset with dobj := [(0, some ⟨5, 9⟩)] }), by decide +kernel⟩⟩

/-- The hypotheses of each clause of `Obligations.RefusedTransferFrame` are met. -/
theorem witness_RefusedTransferFrame :
  (∃ (x : Xfer) (s : State) (st : _), (x.kind ∈ [XferKind.copy, .copyt, .lcopy, .ls, .gather, .scatter]) ∧ (s.xferCheck x = .error st)) ∧
  (∃ (x : Xfer) (s : State) (st : _), (x.kind ∈ [XferKind.copy, .copyt, .lcopy, .ls, .gather, .scatter]) ∧ (s.xferCheck x = .error st) ∧ (x.status = 0)) ∧
  (∃ (x : Xfer) (s : State) (st : _), (x.kind = .direct) ∧ (s.directCheck x = .error st)) ∧
  (∃ (x : Xfer) (s : State) (st : _), (x.kind = .dispatch) ∧ (s.dispatchCheck x = .error (st, false))) ∧
  (∃ (x : Xfer), (x.status ≠ 0)) :=
  ⟨⟨({ movedXfer with src := descOf (13 * 2 ^ 244) }), State.reset, _, by decide +kernel, rfl⟩,
   ⟨({ movedXfer with src := descOf (13 * 2 ^ 244) }), State.reset, _, by decide +kernel, rfl, rfl⟩,
   ⟨({ movedXfer with kind := .direct, src := descOf (13 * 2 ^ 244) }), State.reset, _, by decide +kernel, rfl⟩,
   ⟨({ movedXfer with kind := .dispatch, src := descOf (13 * 2 ^ 244) }), State.reset, _, by decide +kernel, rfl⟩,
   ⟨{ movedXfer with status := 3 }, by decide +kernel⟩⟩

/-- The hypotheses of each clause of `Obligations.ObjectOperations` are met. -/
theorem witness_ObjectOperations :
  (∃ (n : ObjId) (a : Fin 256) (c : CoreId) (s : State), (s.objOf n c = true) ∧ (let o := s.obj n; (o.fault = 0) ∧ (o.count + a.val ≤ o.max))) ∧
  (∃ (n : ObjId) (a : Fin 256) (c : CoreId) (s : State), (s.objOf n c = true) ∧ (let o := s.obj n; (o.fault = 0) ∧ (o.max < o.count + a.val))) ∧
  (∃ (n : ObjId) (c : CoreId) (s : State), (s.objOf n c = true) ∧ (let o := s.obj n; (o.fault ≠ 0))) ∧
  (∃ (n : ObjId) (c : CoreId) (wire : Fin 8) (s : State), (s.objOf n c = true) ∧ (let o := s.obj n; ((s.core c).waitObj = some n.val) ∧ (o.fault = 0) ∧ (Waiter.core c wire ∉ o.waiters))) ∧
  (∃ (n : ObjId) (c : CoreId) (s : State), (s.objOf n c = true) ∧ (let o := s.obj n; ((s.core c).waitObj = some n.val) ∧ (o.fault ≠ 0))) :=
  ⟨⟨3, 4, 0, (State.reset.setObj 3 { SyncObj.reset with owner := some 0, max := 4 }), by decide +kernel⟩,
   ⟨3, 5, 0, (State.reset.setObj 3 { SyncObj.reset with owner := some 0, max := 4 }), by decide +kernel⟩,
   ⟨0, 0, (State.reset.setObj 0 { SyncObj.reset with owner := some 0, fault := 1 }), by decide +kernel⟩,
   ⟨3, 0, 7, ((up { runs with waitObj := some 3 }).setObj 3 { SyncObj.reset with owner := some 0 }), by decide +kernel⟩,
   ⟨3, 0, ((up { runs with waitObj := some 3 }).setObj 3 { SyncObj.reset with owner := some 0, fault := 2 }), by decide +kernel⟩⟩

/-- The hypotheses of each clause of `Obligations.WaitAndSignal` are met. -/
theorem witness_WaitAndSignal :
  (∃ (c : CoreId) (w : StepWord) (s : State), (let k := s.core c; (k.ready = true) ∧ (∃ r ∈ (s.objRef c (fld w 119 100)), (r.fid = s.reg bFAB)))) ∧
  (∃ (c : CoreId) (w : StepWord) (s : State), (let k := s.core c; (k.ready = true) ∧ (∃ r ∈ (s.objRef c (fld w 119 100)), (r.fid ≠ s.reg bFAB)))) ∧
  (∃ (c : CoreId) (w : StepWord) (s : State), (let k := s.core c; (k.ready = true) ∧ (s.objRef c (fld w 119 100) = none))) ∧
  (∃ (c : CoreId) (w : StepWord) (s : State), (let k := s.core c; (k.ready = true) ∧ (fld w 95 88 = 0))) ∧
  (∃ (c : CoreId) (w : StepWord) (s : State), (let k := s.core c; (k.ready = true) ∧ (fld w 95 88 ≠ 0) ∧ (k.qSy.length < 32) ∧ (k.signals = []) ∧ (k.masked (fld w 99 96) ≠ []))) ∧
  (∃ (c : CoreId) (w : StepWord) (s : State), (let k := s.core c; (k.ready = true) ∧ (fld w 95 88 ≠ 0) ∧ (k.qSy.length < 32) ∧ (k.signals = []) ∧ (k.masked (fld w 99 96) = []) ∧ (k.syWait = []) ∧ (∃ r ∈ (s.objRef c (fld w 119 100)), (r.fid = s.reg bFAB)))) ∧
  (∃ (c : CoreId) (w : StepWord) (s : State), (let k := s.core c; (k.ready = true) ∧ (fld w 95 88 ≠ 0) ∧ (k.signals = []) ∧ (32 ≤ k.qSy.length))) ∧
  (∃ (c : CoreId) (s : State), (let k := s.core c; (k.st = .waiting) ∧ (k.released = true))) ∧
  (∃ (c : CoreId) (s : State), (let k := s.core c; (k.st = .waiting) ∧ (k.released = false))) ∧
  (∃ (c : CoreId) (s : State), (let k := s.core c; (k.st ≠ .waiting))) ∧
  (∃ (tag : Fin 65536) (s : State), (∃ t ∈ (s.txn tag), (t.kind = .sig) ∧ (t.resting = false) ∧ (t.engine = hostEngine))) ∧
  (∃ (tag : Fin 65536) (s : State), (∃ t ∈ (s.txn tag), (t.kind = .sig) ∧ (t.resting = false) ∧ (880 ≤ t.engine) ∧ (t.engine ≠ hostEngine))) ∧
  (∃ (tag : Fin 65536) (s : State), (∃ t ∈ (s.txn tag), (t.kind = .sig) ∧ (t.resting = false) ∧ (t.engine < 880) ∧ (t.engine ≠ hostEngine) ∧ (t.core < 768))) ∧
  (∃ (tag : Fin 65536) (s : State), (∃ t ∈ (s.txn tag), (t.kind = .sig) ∧ (t.resting = false) ∧ (t.engine < 880) ∧ (t.engine ≠ hostEngine) ∧ (768 ≤ t.core))) ∧
  (∃ (tag : Fin 65536) (s : State), (∀ t ∈ (s.txn tag), t.kind ≠ .sig ∨ t.resting = true)) :=
  ⟨⟨0, (sw [(100, 0xFF)]), (up runs), by decide +kernel⟩,
   ⟨0, (sw [(100, 0x80000)]), ((up runs).setPart 0 { Part.reset with dobj := [(0, some ⟨5, 9⟩)] }), by decide +kernel⟩,
   ⟨0, (sw [(100, 0x100)]), (up runs), by decide +kernel⟩,
   ⟨0, (sw []), (up runs), by decide +kernel⟩,
   ⟨0, (sw [(88, 1), (96, 1)]), (up { runs with qSy := full.tail }), by decide +kernel⟩,
   ⟨0, (sw [(88, 1), (100, 0x80000)]), ((homed 1).setCore 0 runs), by decide +kernel⟩,
   ⟨0, (sw [(88, 1)]), (up { runs with qSy := full }), by decide +kernel⟩,
   ⟨0, (up { runs with st := .waiting, released := true }), by decide +kernel⟩,
   ⟨0, (up { runs with st := .waiting }), by decide +kernel⟩,
   ⟨0, State.reset, by decide +kernel⟩,
   ⟨4, (State.reset.setTxn 4 (some ⟨.sig, hostEngine, 0, 1, 0, 0, 0, 0, false⟩)), by decide +kernel⟩,
   ⟨4, (State.reset.setTxn 4 (some ⟨.sig, 880, 0, 1, 0, 0, 0, 0, false⟩)), by decide +kernel⟩,
   ⟨4, (State.reset.setTxn 4 (some ⟨.sig, 3, 0, 1, 0, 0, 0, 0, false⟩)), by decide +kernel⟩,
   ⟨4, (State.reset.setTxn 4 (some ⟨.sig, 3, 768, 1, 0, 0, 0, 0, false⟩)), by decide +kernel⟩,
   ⟨0, State.reset, by decide +kernel⟩⟩

/-- The hypotheses of each clause of `Obligations.SigFlit` are met. -/
theorem witness_SigFlit :
  (∃ (f : Flit) (s : State), (f.kind = 0x13) ∧ (f.dst = s.reg bFAB) ∧ (s.partOf f.comp = none)) ∧
  (∃ (f : Flit) (s : State), (f.kind = 0x13) ∧ (f.dst = s.reg bFAB) ∧ (let n := f.aux / 65536; (∃ p ∈ (s.partOf f.comp), ((s.obj n).owner ≠ some p)))) ∧
  (∃ (f : Flit) (s : State), (f.kind = 0x13) ∧ (f.dst = s.reg bFAB) ∧ (let n := f.aux / 65536; (∃ p ∈ (s.partOf f.comp), ((s.obj n).owner = some p) ∧ ((s.part p).epoch % 65536 ≠ f.cepoch)))) ∧
  (∃ (f : Flit) (s : State), (f.kind = 0x13) ∧ (f.dst = s.reg bFAB) ∧ (let n := f.aux / 65536; (∃ p ∈ (s.partOf f.comp), ((s.obj n).owner = some p) ∧ ((s.part p).epoch % 65536 = f.cepoch)))) :=
  ⟨⟨(flit 0x13 0), State.reset, by decide +kernel⟩,
   ⟨(flit 0x13 0), (partAs bound), by decide +kernel⟩,
   ⟨(flit 0x13 0x20000), ((partAs { bound with epoch := 1 }).setObj 2 { SyncObj.reset with owner := some 0 }), by decide +kernel⟩,
   ⟨(flit 0x13 0x20000), ((partAs { bound with epoch := 0x10000 }).setObj 2 { SyncObj.reset with owner := some 0 }), by decide +kernel⟩⟩

/-- The hypotheses of each clause of `Obligations.DebuggerCommands` are met. -/
theorem witness_DebuggerCommands :
  (∃ (fn : FnId) (p : PartId) (s : State), ((fn.val = 0 ∨ fn.val = p.val + 1)) ∧ (let n := s.reg (kDbgObj p); ((s.dbgRight fn p n).isSome = true))) ∧
  (∃ (fn : FnId) (p : PartId) (s : State), ((fn.val = 0 ∨ fn.val = p.val + 1)) ∧ (let n := s.reg (kDbgObj p); (let v := s.reg (kDbgVal p); (let o := s.obj n; (s.dbgRight fn p n = none) ∧ (o.max < v))))) ∧
  (∃ (fn : FnId) (p : PartId) (s : State), ((fn.val = 0 ∨ fn.val = p.val + 1)) ∧ (let n := s.reg (kDbgObj p); (let v := s.reg (kDbgVal p); (let o := s.obj n; (s.dbgRight fn p n = none) ∧ (v ≤ o.max))))) ∧
  (∃ (fn : FnId) (p : PartId) (s : State), ((fn.val = 0 ∨ fn.val = p.val + 1)) ∧ (let n := s.reg (kDbgObj p); (let o := s.obj n; (s.dbgRight fn p n = none) ∧ (o.fault ≠ 0)))) ∧
  (∃ (fn : FnId) (p : PartId) (s : State), ((fn.val = 0 ∨ fn.val = p.val + 1)) ∧ (let n := s.reg (kDbgObj p); (let v := s.reg (kDbgVal p); (let o := s.obj n; (s.dbgRight fn p n = none) ∧ (o.fault = 0) ∧ ((o.count : Int) + signed 32 v < 0 ∨ (o.max : Int) < o.count + signed 32 v))))) ∧
  (∃ (fn : FnId) (p : PartId) (s : State) (m : Nat), ((fn.val = 0 ∨ fn.val = p.val + 1)) ∧ (let n := s.reg (kDbgObj p); (let v := s.reg (kDbgVal p); (let o := s.obj n; (s.dbgRight fn p n = none) ∧ (o.fault = 0) ∧ ((o.count : Int) + signed 32 v = m) ∧ (m ≤ o.max))))) :=
  ⟨⟨0, 0, State.reset, by decide +kernel⟩,
   ⟨1, 0, (((State.reset.setObj 0 { SyncObj.reset with owner := some 0 }).setReg (kDbgVal 0) 1).setReg (bSYN + 0x100) 1), by decide +kernel⟩,
   ⟨0, 0, ((State.reset.setObj 0 { SyncObj.reset with owner := some 0 })), by decide +kernel⟩,
   ⟨0, 0, ((State.reset.setObj 0 { SyncObj.reset with owner := some 0, fault := 1 })), by decide +kernel⟩,
   ⟨0, 0, ((State.reset.setObj 0 { SyncObj.reset with owner := some 0, max := 3 }).setReg (kDbgVal 0) 0xFFFFFFFF), by decide +kernel⟩,
   ⟨0, 0, ((State.reset.setObj 0 { SyncObj.reset with owner := some 0, count := 1, max := 3 }).setReg (kDbgVal 0) 0xFFFFFFFF), 0, by decide +kernel⟩⟩

/-- The hypotheses of each clause of `Obligations.StateDump` are met. -/
theorem witness_StateDump :
  (∃ (s : State), (bitAt (s.reg kDumpCtrl) 0 = false)) ∧
  (∃ (s : State), (bitAt (s.reg kDumpCtrl) 0 = true)) :=
  ⟨⟨State.reset, by decide +kernel⟩,
   ⟨(State.reset.setReg kDumpCtrl 1), by decide +kernel⟩⟩

/-- The hypotheses of each clause of `Obligations.GlobalSteps` are met. -/
theorem witness_GlobalSteps :
  (∃ (c : CoreId) (w : StepWord) (s : State), (let k := s.core c; (k.ready = true) ∧ (4 ≤ fld w 119 116))) ∧
  (∃ (c : CoreId) (w : StepWord) (s : State), (let k := s.core c; (k.ready = true) ∧ (let kind := fld w 119 116; (kind < 4) ∧ (k.qSy.length < 32) ∧ (kind = 0) ∧ (fld w 63 48 = 0xFFFF)))) ∧
  (∃ (c : CoreId) (w : StepWord) (s : State), (let k := s.core c; (k.ready = true) ∧ (let kind := fld w 119 116; (kind < 4) ∧ (k.qSy.length < 32) ∧ ((kind = 0 ∨ kind = 3)) ∧ (fld w 63 48 ≠ 0xFFFF)))) ∧
  (∃ (c : CoreId) (w : StepWord) (s : State), (let k := s.core c; (k.ready = true) ∧ (let kind := fld w 119 116; (kind < 4) ∧ (k.qSy.length < 32) ∧ (kind ≠ 0) ∧ (∃ d ∈ (s.poolDesc c (fld w 95 80) 0 0), (fld w 63 48 = 0xFFFF) ∧ (payOk d kind = true))))) ∧
  (∃ (c : CoreId) (w : StepWord) (s : State), (let k := s.core c; (k.ready = true) ∧ (let kind := fld w 119 116; (kind < 4) ∧ (k.qSy.length < 32) ∧ (kind ≠ 0) ∧ (∃ d ∈ (s.poolDesc c (fld w 95 80) 0 0), (fld w 63 48 = 0xFFFF) ∧ (payOk d kind = false))))) ∧
  (∃ (c : CoreId) (w : StepWord) (s : State), (let k := s.core c; (k.ready = true) ∧ (let kind := fld w 119 116; (kind < 4) ∧ (k.qSy.length < 32) ∧ (kind ≠ 0) ∧ (∃ d ∈ (s.poolDesc c (fld w 95 80) 0 0), (kind ≠ 3) ∧ (fld w 63 48 ≠ 0xFFFF) ∧ (∃ md ∈ (s.poolDesc c (fld w 63 48) 0 0), (payOk d kind = true) ∧ (listDescOk c md = true) ∧ (d.rows % 64 = 0) ∧ (d.elems % 64 = 0)))))) ∧
  (∃ (c : CoreId) (w : StepWord) (s : State), (let k := s.core c; (k.ready = true) ∧ (let kind := fld w 119 116; (kind < 4) ∧ (k.qSy.length < 32) ∧ (kind ≠ 0) ∧ (fld w 63 48 = 0xFFFF) ∧ (s.poolDesc c (fld w 95 80) 0 0 = none)))) ∧
  (∃ (p : PartId) (g : Fin 65536) (s : State), (∃ t ∈ ((s.tree (treeKey p g)).cut), (t ≤ s.now) ∧ ((s.tree (treeKey p g)).live = true))) ∧
  (∃ (p : PartId) (g : Fin 65536) (s : State), (∃ t ∈ ((s.tree (treeKey p g)).cut), (s.now < t))) :=
  ⟨⟨0, (sw [(116, 4)]), (up runs), by decide +kernel⟩,
   ⟨0, (sw [(48, 0xFFFF)]), (up runs), by decide +kernel⟩,
   ⟨0, (sw [(116, 3)]), (up runs), by decide +kernel⟩,
   ⟨0, (sw [(116, 2), (48, 0xFFFF)]), (upWith (image [] (desc 0 1 64 16 1 0) []) runs), by decide +kernel⟩,
   ⟨0, (sw [(116, 2), (48, 0xFFFF)]), (upWith (image [] (desc 1 1 64 16 1 0) []) runs), by decide +kernel⟩,
   ⟨0, (sw [(116, 1), (48, 1)]), (upWith (image [] (desc 0 64 256 64 1 0 ++ desc 0xC 1 16 4 1 0) []) runs), by decide +kernel⟩,
   ⟨0, (sw [(116, 3), (48, 0xFFFF)]), (up runs), by decide +kernel⟩,
   ⟨0, 9, (State.reset.setTree 9 { TreeNode.empty with cut := some 0, live := true }), by decide +kernel⟩,
   ⟨0, 9, (State.reset.setTree 9 { TreeNode.empty with cut := some 1, live := true }), by decide +kernel⟩⟩

/-- The hypotheses of each clause of `Obligations.GopFlit` are met. -/
theorem witness_GopFlit :
  (∃ (f : Flit) (s : State), (f.kind = 0x20) ∧ (f.dst = s.reg bFAB) ∧ (s.partOf f.comp = none)) ∧
  (∃ (f : Flit) (s : State), (f.kind = 0x20) ∧ (f.dst = s.reg bFAB) ∧ (∃ p ∈ (s.partOf f.comp), ((s.part p).epoch % 65536 ≠ f.cepoch))) ∧
  (∃ (f : Flit) (s : State), (f.kind = 0x20) ∧ (f.dst = s.reg bFAB) ∧ (let reset := f.aux / 65536 = 0xFFFF ∧ f.aux / 4096 % 16 = 4; (∃ p ∈ (s.partOf f.comp), ((s.part p).epoch % 65536 = f.cepoch) ∧ (reset)))) ∧
  (∃ (f : Flit) (s : State), (f.kind = 0x20) ∧ (f.dst = s.reg bFAB) ∧ (let reset := f.aux / 65536 = 0xFFFF ∧ f.aux / 4096 % 16 = 4; (∃ p ∈ (s.partOf f.comp), ((s.part p).epoch % 65536 = f.cepoch) ∧ (let n := s.tree (treeKey p (f.aux / 65536)); (¬ reset) ∧ (f.aux % 256 = n.seq))))) ∧
  (∃ (f : Flit) (s : State), (f.kind = 0x20) ∧ (f.dst = s.reg bFAB) ∧ (let reset := f.aux / 65536 = 0xFFFF ∧ f.aux / 4096 % 16 = 4; (∃ p ∈ (s.partOf f.comp), ((s.part p).epoch % 65536 = f.cepoch) ∧ (let n := s.tree (treeKey p (f.aux / 65536)); (¬ reset) ∧ (f.aux % 256 ≠ n.seq) ∧ (f.aux % 256 = (n.seq + 1) % 256))))) ∧
  (∃ (f : Flit) (s : State), (f.kind = 0x20) ∧ (f.dst = s.reg bFAB) ∧ (let reset := f.aux / 65536 = 0xFFFF ∧ f.aux / 4096 % 16 = 4; (∃ p ∈ (s.partOf f.comp), ((s.part p).epoch % 65536 = f.cepoch) ∧ (let n := s.tree (treeKey p (f.aux / 65536)); (¬ reset) ∧ (f.aux % 256 ≠ n.seq) ∧ (f.aux % 256 ≠ (n.seq + 1) % 256))))) :=
  ⟨⟨(flit 0x20 0), State.reset, by decide +kernel⟩,
   ⟨(flit 0x20 0), (partAs { bound with epoch := 1 }), by decide +kernel⟩,
   ⟨(flit 0x20 0xFFFF4000), (partAs bound), by decide +kernel⟩,
   ⟨(flit 0x20 0x90000), (partAs bound), by decide +kernel⟩,
   ⟨(flit 0x20 0x90001), (partAs bound), by decide +kernel⟩,
   ⟨(flit 0x20 0x90002), (partAs bound), by decide +kernel⟩⟩

/-- The hypotheses of each clause of `Obligations.CompositionResets` are met. -/
theorem witness_CompositionResets :
  (∃ (p : PartId) (s : State), (let q := s.part p; (s.isAnchor p = true) ∧ (q.st = .sealed ∨ q.st = .suspended ∨ q.st = .failed) ∧ (s.boot.pending = none))) ∧
  (∃ (p : PartId) (s : State), (let q := s.part p; (s.isAnchor p = false ∨ ¬ (q.st = .sealed ∨ q.st = .suspended ∨ q.st = .failed) ∨ s.boot.pending ≠ none))) ∧
  (∃ (p : PartId) (s : State), (let q := s.part p; (∃ r ∈ (q.rst), (s.now < r.at_ + 2000000)))) ∧
  (∃ (p : PartId) (s : State), (let q := s.part p; (∃ r ∈ (q.rst), (r.at_ + 2000000 ≤ s.now)))) ∧
  (∃ (p : PartId) (s : State), (let q := s.part p; (∃ r ∈ (q.rst), (q.anchor = s.reg bFAB) ∧ (s.allConfirmed p r = false) ∧ (r.repeated = false)))) ∧
  (∃ (p : PartId) (s : State), (let q := s.part p; (∃ r ∈ (q.rst), (q.anchor = s.reg bFAB) ∧ (s.allConfirmed p r = false) ∧ (r.repeated = true)))) ∧
  (∃ (p : PartId) (s : State), (let q := s.part p; (∃ l ∈ (q.launch), (s.now < l.start + l.paused + l.limit)))) ∧
  (∃ (p : PartId) (s : State), (let q := s.part p; (∃ l ∈ (q.launch), (q.anchor = s.reg bFAB) ∧ (l.result = 0) ∧ (q.st = .sealed) ∧ (l.start + l.paused + l.limit ≤ s.now)))) :=
  ⟨⟨0, (partAs { bound with anchor := 0x3FFF, st := .failed }), by decide +kernel⟩,
   ⟨0, State.reset, by decide +kernel⟩,
   ⟨0, ({ partAs { bound with rst := some rset } with now := 1999999 }), by decide +kernel⟩,
   ⟨0, ({ partAs { bound with rst := some rset } with now := 2000000 }), by decide +kernel⟩,
   ⟨0, (partAs { bound with rst := some rset, ctree := ⟨0xFFFF, none, [4], 0⟩, members := [entry 2] }), by decide +kernel⟩,
   ⟨0, (partAs { bound with rst := some { rset with repeated := true }, ctree := ⟨0xFFFF, none, [4], 0⟩, members := [entry 2] }), by decide +kernel⟩,
   ⟨0, ({ partAs { bound with launch := some lau } with now := 4 }), by decide +kernel⟩,
   ⟨0, ({ partAs { bound with launch := some lau } with now := 5 }), by decide +kernel⟩⟩

/-- The hypotheses of each clause of `Obligations.SamplesAndCompletion` are met. -/
theorem witness_SamplesAndCompletion :
  (∃ (p : PartId) (s : State), (let q := s.part p; (q.sample.isSome = true))) ∧
  (∃ (p : PartId) (s : State), (let q := s.part p; (q.sample = none) ∧ (s.reg (kSampleAddr p) / 64 ≠ 0))) ∧
  (∃ (p : PartId) (s : State), (let q := s.part p; (∃ x ∈ (q.sample), (x.hang = none)))) ∧
  (∃ (p : PartId) (s : State), (let q := s.part p; (∃ l ∈ (q.launch), (q.anchor = s.reg bFAB) ∧ (l.waiting ≠ [])))) ∧
  (∃ (p : PartId) (s : State), (let q := s.part p; (∃ l ∈ (q.launch), (¬ (q.anchor = s.reg bFAB ∧ l.waiting ≠ [])) ∧ (s.localQuiet p = false)))) ∧
  (∃ (p : PartId) (s : State), (let q := s.part p; (q.launch.isSome = true) ∧ (s.localQuiet p = true) ∧ (q.st ≠ .resetting) ∧ (q.anchor ≠ s.reg bFAB))) ∧
  (∃ (p : PartId) (s : State), (let q := s.part p; (∃ l ∈ (q.launch), (s.localQuiet p = true) ∧ (q.st ≠ .resetting) ∧ (q.anchor = s.reg bFAB) ∧ (l.waiting = []) ∧ (∃ d ∈ (l.host), (let t := (((s.launchOver p).setReg (kWdogStat p) 0).endDesc d (launchStatus l.result) (launchResult l s.now)).launchNext p; ((t.part p).launch.isSome = true)))))) ∧
  (∃ (p : PartId) (s : State), (let q := s.part p; (∃ l ∈ (q.launch), (s.localQuiet p = true) ∧ (q.st ≠ .resetting) ∧ (q.anchor = s.reg bFAB) ∧ (l.waiting = []) ∧ (∃ d ∈ (l.host), (let t := (((s.launchOver p).setReg (kWdogStat p) 0).endDesc d (launchStatus l.result) (launchResult l s.now)).launchNext p; ((t.part p).launch = none) ∧ (∀ o ∈ ((t.part p).op), ¬ (o.step = 1 ∧ (o.op = 3 ∨ o.op = 4)))))))) ∧
  (∃ (p : PartId) (s : State), (let q := s.part p; (∃ l ∈ (q.launch), (s.localQuiet p = true) ∧ (q.st ≠ .resetting) ∧ (q.anchor = s.reg bFAB) ∧ (l.waiting = []) ∧ (∃ d ∈ (l.host), (let t := (((s.launchOver p).setReg (kWdogStat p) 0).endDesc d (launchStatus l.result) (launchResult l s.now)).launchNext p; ((t.part p).launch = none) ∧ (∃ o ∈ ((t.part p).op), (o.step = 1) ∧ (o.op = 3 ∨ o.op = 4) ∧ (t.otherMembers p = []))))))) ∧
  (∃ (p : PartId) (s : State), (let q := s.part p; (∃ l ∈ (q.launch), (s.localQuiet p = true) ∧ (q.st ≠ .resetting) ∧ (q.anchor = s.reg bFAB) ∧ (l.waiting = []) ∧ (∃ d ∈ (l.host), (let t := (((s.launchOver p).setReg (kWdogStat p) 0).endDesc d (launchStatus l.result) (launchResult l s.now)).launchNext p; ((t.part p).launch = none) ∧ (∃ o ∈ ((t.part p).op), (o.step = 1) ∧ (o.op = 3 ∨ o.op = 4) ∧ (t.otherMembers p ≠ []))))))) :=
  ⟨⟨0, (partAs { bound with sample := some ⟨0, false, none⟩ }), by decide +kernel⟩,
   ⟨0, (State.reset.setReg (kSampleAddr 0) 64), by decide +kernel⟩,
   ⟨0, (partAs { bound with sample := some ⟨0, false, none⟩ }), by decide +kernel⟩,
   ⟨0, (partAs { bound with launch := some { lau with waiting := [2] } }), by decide +kernel⟩,
   ⟨0, ((up runs).setPart 0 { bound with launch := some lau }), by decide +kernel⟩,
   ⟨0, (partAs { bound with launch := some lau, anchor := 2 }), by decide +kernel⟩,
   ⟨0, (partAs { bound with launch := some { lau with host := some 1 }, queue := [⟨2, 0, 0, 0, 0, 0⟩], images := [(0, some ⟨[], zs 192⟩)] }), by decide +kernel⟩,
   ⟨0, (partAs { bound with launch := some { lau with host := some 1 } }), by decide +kernel⟩,
   ⟨0, (partAs { bound with launch := some { lau with host := some 1 }, op := doing 3 1 [] }), by decide +kernel⟩,
   ⟨0, (partAs { bound with launch := some { lau with host := some 1 }, op := doing 3 1 [], members := [entry 2] }), by decide +kernel⟩⟩

/-- The hypotheses of each clause of `Obligations.BindReserve` are met. -/
theorem witness_BindReserve :
  (∃ (s : State), (s.bindWaits .mctp = false) ∧ (∃ m_ ∈ s.mcWait.head?, (let ms_ := s.mcWait.tail; (m_.op = 1) ∧ (let env := tblRun (fun _ => 0) m_.bytes 0 m_.total; (let s0 := { s with mcWait := ms_ }; (let e := envelopeOf env; (let own := s0.reg bFAB; (e.entryOf own = none)))))))) ∧
  (∃ (s : State), (s.bindWaits .mctp = false) ∧ (∃ m_ ∈ s.mcWait.head?, (let ms_ := s.mcWait.tail; (m_.op = 1) ∧ (let env := tblRun (fun _ => 0) m_.bytes 0 m_.total; (let s0 := { s with mcWait := ms_ }; (let e := envelopeOf env; (let own := s0.reg bFAB; (∃ m ∈ (e.entryOf own), ((s0.envelopeBad e = true ∨ e.anchor ≠ own)))))))))) ∧
  (∃ (s : State), (s.bindWaits .mctp = false) ∧ (∃ m_ ∈ s.mcWait.head?, (let ms_ := s.mcWait.tail; (m_.op = 1) ∧ (let env := tblRun (fun _ => 0) m_.bytes 0 m_.total; (let s0 := { s with mcWait := ms_ }; (let e := envelopeOf env; (let own := s0.reg bFAB; (∃ m ∈ (e.entryOf own), (s0.envelopeBad e = false) ∧ (e.anchor = own) ∧ ((e.comp = 0 ∨ e.comp = 0xFFFFFF ∨ (s0.partOf e.comp).isSome)))))))))) ∧
  (∃ (s : State), (s.bindWaits .mctp = false) ∧ (∃ m_ ∈ s.mcWait.head?, (let ms_ := s.mcWait.tail; (m_.op = 1) ∧ (let env := tblRun (fun _ => 0) m_.bytes 0 m_.total; (let s0 := { s with mcWait := ms_ }; (let e := envelopeOf env; (let own := s0.reg bFAB; (∃ m ∈ (e.entryOf own), (s0.envelopeBad e = false) ∧ (e.anchor = own) ∧ (¬ (e.comp = 0 ∨ e.comp = 0xFFFFFF ∨ (s0.partOf e.comp).isSome)) ∧ (e.sfr ≠ schedFmtRev))))))))) ∧
  (∃ (s : State), (s.bindWaits .mctp = false) ∧ (∃ m_ ∈ s.mcWait.head?, (let ms_ := s.mcWait.tail; (m_.op = 1) ∧ (let env := tblRun (fun _ => 0) m_.bytes 0 m_.total; (let s0 := { s with mcWait := ms_ }; (let e := envelopeOf env; (let own := s0.reg bFAB; (∃ m ∈ (e.entryOf own), (s0.envelopeBad e = false) ∧ (e.anchor = own) ∧ (¬ (e.comp = 0 ∨ e.comp = 0xFFFFFF ∨ (s0.partOf e.comp).isSome)) ∧ (e.sfr = schedFmtRev) ∧ (let code := (s0.reserveHere e m).2.1; (code ≠ 0)))))))))) ∧
  (∃ (s : State) (x : _), (s.bindWaits .mctp = false) ∧ (∃ m_ ∈ s.mcWait.head?, (let ms_ := s.mcWait.tail; (m_.op = 1) ∧ (let env := tblRun (fun _ => 0) m_.bytes 0 m_.total; (let s0 := { s with mcWait := ms_ }; (let e := envelopeOf env; (let own := s0.reg bFAB; (∃ m ∈ (e.entryOf own), (s0.envelopeBad e = false) ∧ (e.anchor = own) ∧ (¬ (e.comp = 0 ∨ e.comp = 0xFFFFFF ∨ (s0.partOf e.comp).isSome)) ∧ (e.sfr = schedFmtRev) ∧ (let code := (s0.reserveHere e m).2.1; (let p := (s0.reserveHere e m).2.2; (code = 0) ∧ (x ≠ p))))))))))) ∧
  (∃ (s : State), (s.bindWaits .mctp = false) ∧ (∃ m_ ∈ s.mcWait.head?, (let ms_ := s.mcWait.tail; (m_.op = 1) ∧ (let descs := ([] : List (Nat × Nat)); (let mctp := [m_.seq]; (let env := tblRun (fun _ => 0) m_.bytes 0 m_.total; (let s0 := { s with mcWait := ms_ }; (let e := envelopeOf env; (let own := s0.reg bFAB; (∃ m ∈ (e.entryOf own), (s0.envelopeBad e = false) ∧ (e.anchor = own) ∧ (¬ (e.comp = 0 ∨ e.comp = 0xFFFFFF ∨ (s0.partOf e.comp).isSome)) ∧ (e.sfr = schedFmtRev) ∧ (let t := (s0.reserveHere e m).1; (let code := (s0.reserveHere e m).2.1; (let p := (s0.reserveHere e m).2.2; (code = 0) ∧ (let t1 := (t.opBegin p 1 descs mctp none).modPart p fun q => { q with infos := [t.infoOf p] }; (t1.otherMembers p = []))))))))))))))) ∧
  (∃ (s : State), (s.bindWaits .mctp = false) ∧ (∃ m_ ∈ s.mcWait.head?, (let ms_ := s.mcWait.tail; (m_.op = 1) ∧ (let descs := ([] : List (Nat × Nat)); (let mctp := [m_.seq]; (let env := tblRun (fun _ => 0) m_.bytes 0 m_.total; (let s0 := { s with mcWait := ms_ }; (let e := envelopeOf env; (let own := s0.reg bFAB; (∃ m ∈ (e.entryOf own), (s0.envelopeBad e = false) ∧ (e.anchor = own) ∧ (¬ (e.comp = 0 ∨ e.comp = 0xFFFFFF ∨ (s0.partOf e.comp).isSome)) ∧ (e.sfr = schedFmtRev) ∧ (let t := (s0.reserveHere e m).1; (let code := (s0.reserveHere e m).2.1; (let p := (s0.reserveHere e m).2.2; (code = 0) ∧ (let t1 := (t.opBegin p 1 descs mctp none).modPart p fun q => { q with infos := [t.infoOf p] }; (t1.otherMembers p ≠ []))))))))))))))) :=
  ⟨⟨(ask 1 0 (envel 2 3 1 [memb 2]) fid1), by decide +kernel⟩,
   ⟨(ask 1 0 (envel 2 3 1 [memb 1, memb 2]) fid1), by decide +kernel⟩,
   ⟨(ask 1 0 (envel 1 3 1 [memb 1]) (fid1.setPart 3 bound)), by decide +kernel⟩,
   ⟨(ask 1 0 (envel 1 4 1 [memb 1]) fid1), by decide +kernel⟩,
   ⟨(ask 1 0 (envel 1 3 1 [memb 1]) { fid1 with cus := Cus.reset }), by decide +kernel⟩,
   ⟨(ask 1 0 (envel 1 3 1 [memb 1]) prep), 1, by decide +kernel⟩,
   ⟨(ask 1 0 (envel 1 3 1 [memb 1]) prep), by decide +kernel⟩,
   ⟨(ask 1 0 (envel 1 3 1 [memb 1, memb 2]) prep), by decide +kernel⟩⟩

/-- The hypotheses of each clause of `Obligations.BindOperations` are met. -/
theorem witness_BindOperations :
  (∃ (s : State), (s.bindWaits .mctp = false) ∧ (∃ m_ ∈ (s.mcWait.head?), (let ms_ := s.mcWait.tail; (m_.op = 2) ∧ (let comp := m_.comp; (let s0 := { s with mcWait := ms_ }; (s0.anchorOf comp = none)))))) ∧
  (∃ (s : State), (s.bindWaits .mctp = false) ∧ (∃ m_ ∈ (s.mcWait.head?), (let ms_ := s.mcWait.tail; (m_.op = 2) ∧ (let comp := m_.comp; (let s0 := { s with mcWait := ms_ }; (∃ p ∈ (s0.anchorOf comp), ((s0.part p).st ≠ .reserved ∨ (s0.part p).op.isSome))))))) ∧
  (∃ (plan : PlaceSpec) (s : State), (s.bindWaits .mctp = false) ∧ (∃ m_ ∈ (s.mcWait.head?), (let ms_ := s.mcWait.tail; (m_.op = 2) ∧ (let comp := m_.comp; (let s0 := { s with mcWait := ms_ }; (∃ p ∈ (s0.anchorOf comp), ((s0.part p).st = .reserved) ∧ ((s0.part p).op = none) ∧ (let pl := s0.placedPlan p plan; (let code := (s0.placePart p pl).2; (code ≠ 0))))))))) ∧
  (∃ (plan : PlaceSpec) (s : State), (s.bindWaits .mctp = false) ∧ (∃ m_ ∈ (s.mcWait.head?), (let ms_ := s.mcWait.tail; (m_.op = 2) ∧ (let descs := ([] : List (Nat × Nat)); (let mctp := [m_.seq]; (let comp := m_.comp; (let s0 := { s with mcWait := ms_ }; (∃ p ∈ (s0.anchorOf comp), ((s0.part p).st = .reserved) ∧ ((s0.part p).op = none) ∧ (let pl := s0.placedPlan p plan; (let t := (s0.placePart p pl).1; (let code := (s0.placePart p pl).2; (code = 0) ∧ (let t1 := (t.opBegin p 2 descs mctp none).modPart p fun q => { (q.addPlaces (s0.reg bFAB) pl.places) with plan := some pl, infos := q.infos.filter (·.fid != s0.reg bFAB) ++ [t.infoOf p] }; (t1.otherMembers p = []))))))))))))) ∧
  (∃ (plan : PlaceSpec) (s : State), (s.bindWaits .mctp = false) ∧ (∃ m_ ∈ (s.mcWait.head?), (let ms_ := s.mcWait.tail; (m_.op = 2) ∧ (let descs := ([] : List (Nat × Nat)); (let mctp := [m_.seq]; (let comp := m_.comp; (let s0 := { s with mcWait := ms_ }; (∃ p ∈ (s0.anchorOf comp), ((s0.part p).st = .reserved) ∧ ((s0.part p).op = none) ∧ (let pl := s0.placedPlan p plan; (let t := (s0.placePart p pl).1; (let code := (s0.placePart p pl).2; (code = 0) ∧ (let t1 := (t.opBegin p 2 descs mctp none).modPart p fun q => { (q.addPlaces (s0.reg bFAB) pl.places) with plan := some pl, infos := q.infos.filter (·.fid != s0.reg bFAB) ++ [t.infoOf p] }; (t1.otherMembers p ≠ []))))))))))))) ∧
  (∃ (s : State), (s.bindWaits .mctp = false) ∧ (∃ m_ ∈ (s.mcWait.head?), (let ms_ := s.mcWait.tail; (m_.op = 5) ∧ (let comp := m_.comp; (let s0 := { s with mcWait := ms_ }; (s0.anchorOf comp = none)))))) ∧
  (∃ (s : State), (s.bindWaits .mctp = false) ∧ (∃ m_ ∈ (s.mcWait.head?), (let ms_ := s.mcWait.tail; (m_.op = 5) ∧ (let comp := m_.comp; (let s0 := { s with mcWait := ms_ }; (∃ p ∈ (s0.anchorOf comp), (let q := s0.part p; (let busy := q.launch.isSome = true ∨ q.queue ≠ [] ∨ q.op.isSome = true ∨ q.st = .rebinding ∨ q.st = .resetting ∨ q.st = .dissolving; (busy))))))))) ∧
  (∃ (s : State), (s.bindWaits .mctp = false) ∧ (∃ m_ ∈ (s.mcWait.head?), (let ms_ := s.mcWait.tail; (m_.op = 5) ∧ (let comp := m_.comp; (let s0 := { s with mcWait := ms_ }; (∃ p ∈ (s0.anchorOf comp), (let q := s0.part p; (let busy := q.launch.isSome = true ∨ q.queue ≠ [] ∨ q.op.isSome = true ∨ q.st = .rebinding ∨ q.st = .resetting ∨ q.st = .dissolving; (¬ busy))))))))) ∧
  (∃ (s : State), (s.bindWaits .mctp = false) ∧ (∃ m_ ∈ (s.mcWait.head?), (let ms_ := s.mcWait.tail; (m_.op = 4) ∧ (let comp := m_.comp; (let s0 := { s with mcWait := ms_ }; (s0.anchorOf comp = none)))))) ∧
  (∃ (s : State), (s.bindWaits .mctp = false) ∧ (∃ m_ ∈ (s.mcWait.head?), (let ms_ := s.mcWait.tail; (m_.op = 4) ∧ (let comp := m_.comp; (let s0 := { s with mcWait := ms_ }; (∃ p ∈ (s0.anchorOf comp), (∃ o ∈ ((s0.part p).op), (o.op = 3) ∧ (o.step = 0)))))))) ∧
  (∃ (s : State), (s.bindWaits .mctp = false) ∧ (∃ m_ ∈ (s.mcWait.head?), (let ms_ := s.mcWait.tail; (m_.op = 4) ∧ (let comp := m_.comp; (let s0 := { s with mcWait := ms_ }; (∃ p ∈ (s0.anchorOf comp), (∃ o ∈ ((s0.part p).op), (¬ (o.op = 3 ∧ o.step = 0))))))))) ∧
  (∃ (s : State), (s.bindWaits .mctp = false) ∧ (∃ m_ ∈ (s.mcWait.head?), (let ms_ := s.mcWait.tail; (m_.op = 4) ∧ (let comp := m_.comp; (let s0 := { s with mcWait := ms_ }; (∃ p ∈ (s0.anchorOf comp), ((s0.part p).op = none) ∧ ((s0.part p).st = .sealed))))))) ∧
  (∃ (s : State), (s.bindWaits .mctp = false) ∧ (∃ m_ ∈ (s.mcWait.head?), (let ms_ := s.mcWait.tail; (m_.op = 4) ∧ (let comp := m_.comp; (let s0 := { s with mcWait := ms_ }; (∃ p ∈ (s0.anchorOf comp), ((s0.part p).op = none) ∧ ((s0.part p).st ≠ .sealed))))))) ∧
  (∃ (s : State), (s.bindWaits .mctp = false) ∧ (∃ m_ ∈ (s.mcWait.head?), (let ms_ := s.mcWait.tail; (m_.op = 3) ∧ (let env := tblRun (fun _ => 0) m_.bytes 0 m_.total; (let e := envelopeOf env; (let s0 := { s with mcWait := ms_ }; (s0.anchorOf e.comp = none))))))) ∧
  (∃ (s : State), (s.bindWaits .mctp = false) ∧ (∃ m_ ∈ (s.mcWait.head?), (let ms_ := s.mcWait.tail; (m_.op = 3) ∧ (let env := tblRun (fun _ => 0) m_.bytes 0 m_.total; (let e := envelopeOf env; (let s0 := { s with mcWait := ms_ }; ((s0.anchorOf e.comp).isSome = true) ∧ (e.entryOf (s0.reg bFAB) = none))))))) ∧
  (∃ (s : State), (s.bindWaits .mctp = false) ∧ (∃ m_ ∈ (s.mcWait.head?), (let ms_ := s.mcWait.tail; (m_.op = 3) ∧ (let env := tblRun (fun _ => 0) m_.bytes 0 m_.total; (let e := envelopeOf env; (let s0 := { s with mcWait := ms_ }; (∃ p ∈ (s0.anchorOf e.comp), ((e.entryOf (s0.reg bFAB)).isSome = true) ∧ (let q := s0.part p; (¬ (q.st = .reserved ∨ q.st = .sealed) ∨ q.op.isSome = true))))))))) ∧
  (∃ (s : State), (s.bindWaits .mctp = false) ∧ (∃ m_ ∈ (s.mcWait.head?), (let ms_ := s.mcWait.tail; (m_.op = 3) ∧ (let env := tblRun (fun _ => 0) m_.bytes 0 m_.total; (let e := envelopeOf env; (let s0 := { s with mcWait := ms_ }; (∃ p ∈ (s0.anchorOf e.comp), ((e.entryOf (s0.reg bFAB)).isSome = true) ∧ (let q := s0.part p; (q.st = .reserved ∨ q.st = .sealed) ∧ (q.op = none) ∧ (let bad := s0.envelopeBad e || s0.envelopeBad { e with role := q.role, flags := q.flags }; (bad = true ∨ e.anchor ≠ q.anchor ∨ e.seq ≤ q.envSeq)))))))))) ∧
  (∃ (s : State), (s.bindWaits .mctp = false) ∧ (∃ m_ ∈ (s.mcWait.head?), (let ms_ := s.mcWait.tail; (m_.op = 3) ∧ (let env := tblRun (fun _ => 0) m_.bytes 0 m_.total; (let e := envelopeOf env; (let s0 := { s with mcWait := ms_ }; (∃ p ∈ (s0.anchorOf e.comp), ((e.entryOf (s0.reg bFAB)).isSome = true) ∧ (let q := s0.part p; (q.st = .reserved ∨ q.st = .sealed) ∧ (q.op = none) ∧ (let bad := s0.envelopeBad e || s0.envelopeBad { e with role := q.role, flags := q.flags }; (bad = false) ∧ (e.anchor = q.anchor) ∧ (q.envSeq < e.seq) ∧ (e.sfr ≠ schedFmtRev)))))))))) ∧
  (∃ (s : State), (s.bindWaits .mctp = false) ∧ (∃ m_ ∈ (s.mcWait.head?), (let ms_ := s.mcWait.tail; (m_.op = 3) ∧ (let env := tblRun (fun _ => 0) m_.bytes 0 m_.total; (let e := envelopeOf env; (let s0 := { s with mcWait := ms_ }; (∃ p ∈ (s0.anchorOf e.comp), ((e.entryOf (s0.reg bFAB)).isSome = true) ∧ (let q := s0.part p; (q.st = .reserved ∨ q.st = .sealed) ∧ (q.op = none) ∧ (let bad := s0.envelopeBad e || s0.envelopeBad { e with role := q.role, flags := q.flags }; (bad = false) ∧ (e.anchor = q.anchor) ∧ (q.envSeq < e.seq) ∧ (e.sfr = schedFmtRev) ∧ (unitsHeld q e = true)))))))))) ∧
  (∃ (s : State), (s.bindWaits .mctp = false) ∧ (∃ m_ ∈ (s.mcWait.head?), (let ms_ := s.mcWait.tail; (m_.op = 3) ∧ (let env := tblRun (fun _ => 0) m_.bytes 0 m_.total; (let e := envelopeOf env; (let s0 := { s with mcWait := ms_ }; (∃ p ∈ (s0.anchorOf e.comp), (∃ m ∈ (e.entryOf (s0.reg bFAB)), (let q := s0.part p; (q.st = .reserved ∨ q.st = .sealed) ∧ (q.op = none) ∧ (let bad := s0.envelopeBad e || s0.envelopeBad { e with role := q.role, flags := q.flags }; (bad = false) ∧ (e.anchor = q.anchor) ∧ (q.envSeq < e.seq) ∧ (e.sfr = schedFmtRev) ∧ (unitsHeld q e = false) ∧ (let code := (s0.accede p e m).2; (code ≠ 0)))))))))))) ∧
  (∃ (s : State), (s.bindWaits .mctp = false) ∧ (∃ m_ ∈ (s.mcWait.head?), (let ms_ := s.mcWait.tail; (m_.op = 3) ∧ (let env := tblRun (fun _ => 0) m_.bytes 0 m_.total; (let e := envelopeOf env; (let s0 := { s with mcWait := ms_ }; (∃ p ∈ (s0.anchorOf e.comp), (∃ m ∈ (e.entryOf (s0.reg bFAB)), (let q := s0.part p; (q.st = .reserved ∨ q.st = .sealed) ∧ (q.op = none) ∧ (let bad := s0.envelopeBad e || s0.envelopeBad { e with role := q.role, flags := q.flags }; (bad = false) ∧ (e.anchor = q.anchor) ∧ (q.envSeq < e.seq) ∧ (e.sfr = schedFmtRev) ∧ (unitsHeld q e = false) ∧ (let code := (s0.accede p e m).2; (code = 0)))))))))))) :=
  ⟨⟨(ask 2 7 [] fid1), by decide +kernel⟩,
   ⟨(ask 2 7 [] (anch bound)), by decide +kernel⟩,
   ⟨({ noPlan with tree := ⟨0xFFFF, none, [4], 0⟩ }), (ask 2 7 [] (anch { bound with st := .reserved })), by decide +kernel⟩,
   ⟨noPlan, asked bound, (by decide +kernel), _, rfl, (by decide +kernel), 0, (by decide +kernel), (by decide +kernel), (by decide +kernel), alone_code, alone_others⟩,
   ⟨noPlan, asked withTwo, (by decide +kernel), _, rfl, (by decide +kernel), 0, (by decide +kernel), (by decide +kernel), (by decide +kernel), withTwo_code, withTwo_others⟩,
   ⟨(ask 5 7 [] fid1), by decide +kernel⟩,
   ⟨(ask 5 7 [] (anch { bound with st := .resetting })), by decide +kernel⟩,
   ⟨(ask 5 7 [] (anch bound)), by decide +kernel⟩,
   ⟨(ask 4 7 [] fid1), by decide +kernel⟩,
   ⟨(ask 4 7 [] (anch { bound with op := doing 3 0 [] })), by decide +kernel⟩,
   ⟨(ask 4 7 [] (anch { bound with op := doing 2 0 [] })), by decide +kernel⟩,
   ⟨(ask 4 7 [] (anch bound)), by decide +kernel⟩,
   ⟨(ask 4 7 [] (anch { bound with st := .failed })), by decide +kernel⟩,
   ⟨(ask 3 7 (envel 1 3 1 [memb 1]) fid1), by decide +kernel⟩,
   ⟨(ask 3 7 (envel 1 3 1 [memb 2]) (anch { bound with st := .failed })), by decide +kernel⟩,
   ⟨(ask 3 7 (envel 1 3 1 [memb 1]) (anch { bound with st := .failed })), by decide +kernel⟩,
   ⟨(ask 3 7 (envel 1 3 1 [memb 1]) (anch { bound with envSeq := 1 })), by decide +kernel⟩,
   ⟨(ask 3 7 (envel 1 4 2 [memb 1]) (anch { bound with envSeq := 1 })), by decide +kernel⟩,
   ⟨(ask 3 7 (envel 1 3 2 [memb 1]) (anch { bound with envSeq := 1, members := [entry 1, entry 2], mplaces := [(2, [⟨0, [(0, 0)], [], [], [], []⟩])] })), by decide +kernel⟩,
   ⟨(ask 3 7 (envel 1 3 2 [memb 1]) { anch { bound with envSeq := 1 } with cus := Cus.reset }), by decide +kernel⟩,
   ⟨(ask 3 7 (envel 1 3 2 [memb 1]) (anch { bound with envSeq := 1 })), by decide +kernel⟩⟩

/-- The hypotheses of each clause of `Obligations.MemberOperations` are met. -/
theorem witness_MemberOperations :
  (∃ (env : List Byte) (s : State), (let own := s.reg bFAB; (let e := envelopeOf env; (e.anchor ≠ own) ∧ (e.bad = false) ∧ (∃ m ∈ (e.entryOf own), (let bad (role flags : Nat) : Bool := memberBad role flags m; (∃ x ∈ (s.partOf e.comp), (bad (s.part x).role (s.part x).flags = true))))))) ∧
  (∃ (env : List Byte) (s : State), (let own := s.reg bFAB; (let e := envelopeOf env; (e.anchor ≠ own) ∧ (e.bad = false) ∧ (∃ m ∈ (e.entryOf own), (let bad (role flags : Nat) : Bool := memberBad role flags m; (s.partOf e.comp = none) ∧ (bad e.role e.flags = true)))))) ∧
  (∃ (env : List Byte) (s : State), (let own := s.reg bFAB; (let e := envelopeOf env; (e.anchor ≠ own) ∧ (e.bad = false) ∧ (∃ m ∈ (e.entryOf own), (let bad (role flags : Nat) : Bool := memberBad role flags m; (∃ x ∈ (s.partOf e.comp), (bad (s.part x).role (s.part x).flags = false) ∧ ((s.part x).anchor = e.anchor))))))) ∧
  (∃ (env : List Byte) (s : State), (let own := s.reg bFAB; (let e := envelopeOf env; (e.anchor ≠ own) ∧ (e.bad = false) ∧ (∃ m ∈ (e.entryOf own), (let bad (role flags : Nat) : Bool := memberBad role flags m; (∃ x ∈ (s.partOf e.comp), (bad (s.part x).role (s.part x).flags = false) ∧ ((s.part x).anchor ≠ e.anchor))))))) ∧
  (∃ (env : List Byte) (s : State), (let own := s.reg bFAB; (let e := envelopeOf env; (e.anchor ≠ own) ∧ (e.bad = false) ∧ (∃ m ∈ (e.entryOf own), (let bad (role flags : Nat) : Bool := memberBad role flags m; (s.partOf e.comp = none) ∧ (bad e.role e.flags = false) ∧ (e.sfr ≠ schedFmtRev)))))) ∧
  (∃ (env : List Byte) (s : State), (let own := s.reg bFAB; (let e := envelopeOf env; (e.anchor ≠ own) ∧ (e.bad = false) ∧ (∃ m ∈ (e.entryOf own), (let bad (role flags : Nat) : Bool := memberBad role flags m; (s.partOf e.comp = none) ∧ (bad e.role e.flags = false) ∧ (e.sfr = schedFmtRev)))))) ∧
  (∃ (p : PartId) (s : State), (let q := s.part p; (let own := s.reg bFAB; (q.anchor ≠ own) ∧ (q.st = .reserved)))) ∧
  (∃ (p : PartId) (s : State), (let q := s.part p; (let own := s.reg bFAB; (q.anchor ≠ own) ∧ (q.st = .sealed) ∧ (q.plan.isSome = true)))) ∧
  (∃ (p : PartId) (cat : List Byte) (s : State), (let q := s.part p; (let own := s.reg bFAB; (q.anchor ≠ own) ∧ (s.catMatches p cat = false)))) ∧
  (∃ (p : PartId) (cat : List Byte) (s : State), (let q := s.part p; (let own := s.reg bFAB; (q.anchor ≠ own) ∧ (s.catMatches p cat = true) ∧ (q.st = .reserved)))) ∧
  (∃ (p : PartId) (cat : List Byte) (s : State), (let q := s.part p; (let own := s.reg bFAB; (q.anchor ≠ own) ∧ (s.catMatches p cat = true) ∧ (q.st = .rebinding)))) ∧
  (∃ (p : PartId) (s : State), (let q := s.part p; (let own := s.reg bFAB; (q.anchor ≠ own) ∧ (q.st ≠ .free) ∧ (q.st ≠ .dissolving)))) ∧
  (∃ (p : PartId) (s : State), (let q := s.part p; (let own := s.reg bFAB; (q.anchor ≠ own) ∧ (q.st ≠ .free) ∧ (q.launch.isSome = true)))) ∧
  (∃ (p : PartId) (s : State), (let q := s.part p; (let own := s.reg bFAB; (q.anchor ≠ own) ∧ (q.st ≠ .free) ∧ (q.launch = none)))) ∧
  (∃ (p : PartId) (result : Fin 16) (s : State), (let q := s.part p; (let own := s.reg bFAB; (q.anchor ≠ own) ∧ (q.st = .sealed) ∧ (result.val ≠ 0)))) ∧
  (∃ (p : PartId) (plan : PlaceSpec) (result : Fin 16) (s : State), (let q := s.part p; (let own := s.reg bFAB; (q.anchor ≠ own) ∧ (q.st = .sealed) ∧ (result.val = 0) ∧ (let pl := s.placedPlan p plan; ((s.migrate p pl).2 = 0))))) ∧
  (∃ (p : PartId) (s : State), (let q := s.part p; (let own := s.reg bFAB; (q.anchor ≠ own) ∧ (q.st = .rebinding)))) ∧
  (∃ (p : PartId) (s : State), (let q := s.part p; (let own := s.reg bFAB; (q.anchor = own) ∧ (q.st = .sealed) ∧ (q.op = none) ∧ (s.curBusy = false)))) ∧
  (∃ (p : PartId) (result : Fin 16) (s : State), (let q := s.part p; (let own := s.reg bFAB; (q.anchor = own) ∧ (q.st = .sealed) ∧ (∃ o ∈ (q.op), (o.op = 3 ∨ o.op = 4) ∧ (o.step = 0) ∧ (q.plan = none) ∧ (result.val ≠ 0))))) ∧
  (∃ (p : PartId) (plan : PlaceSpec) (result : Fin 16) (s : State), (let q := s.part p; (let own := s.reg bFAB; (q.anchor = own) ∧ (q.st = .sealed) ∧ (∃ o ∈ (q.op), (o.op = 3 ∨ o.op = 4) ∧ (o.step = 0) ∧ (q.plan = none) ∧ (result.val = 0) ∧ (let pl := s.placedPlan p plan; ((s.migrate p pl).2 = 0)))))) :=
  ⟨⟨(envel 2 3 1 [memb 1, memb 2]), (fid1.setPart 0 { bound with role := 2, anchor := 2 }), by decide +kernel⟩,
   ⟨(envel 2 3 1 [toBytes 32 1, memb 2]), fid1, by decide +kernel⟩,
   ⟨(envel 2 3 1 [memb 1, memb 2]), (fid1.setPart 0 { bound with anchor := 2 }), by decide +kernel⟩,
   ⟨(envel 2 3 1 [memb 1, memb 2]), (fid1.setPart 0 { bound with anchor := 3 }), by decide +kernel⟩,
   ⟨(envel 2 4 1 [memb 1, memb 2]), fid1, by decide +kernel⟩,
   ⟨(envel 2 3 1 [memb 1, memb 2]), fid1, by decide +kernel⟩,
   ⟨0, (fid1.setPart 0 { bound with st := .reserved, anchor := 2 }), by decide +kernel⟩,
   ⟨0, (fid1.setPart 0 { bound with plan := some noPlan, anchor := 2 }), by decide +kernel⟩,
   ⟨0, [], fid1, by decide +kernel⟩,
   ⟨0, (zs 16 ++ toBytes 48 1 ++ infoPart ⟨1, 0, 0, 0, 0, []⟩), (fid1.setPart 0 { bound with st := .reserved, anchor := 2 }), by decide +kernel⟩,
   ⟨0, (zs 16 ++ toBytes 48 1 ++ infoPart ⟨1, 0, 0, 0, 0, []⟩), (fid1.setPart 0 { bound with st := .rebinding, anchor := 2 }), by decide +kernel⟩,
   ⟨0, (fid1.setPart 0 { bound with anchor := 2 }), by decide +kernel⟩,
   ⟨0, (fid1.setPart 0 { bound with anchor := 2, launch := some lau }), by decide +kernel⟩,
   ⟨0, (fid1.setPart 0 { bound with anchor := 2 }), by decide +kernel⟩,
   ⟨0, 15, (fid1.setPart 0 { bound with anchor := 2 }), by decide +kernel⟩,
   ⟨0, noPlan, 0, (fid1.setPart 0 { bound with anchor := 2 }), by decide +kernel⟩,
   ⟨0, (fid1.setPart 0 { bound with st := .rebinding, anchor := 2 }), by decide +kernel⟩,
   ⟨0, (anch bound), by decide +kernel⟩,
   ⟨0, 15, (anch { bound with op := doing 3 0 [] }), by decide +kernel⟩,
   ⟨0, noPlan, 0, (anch { bound with op := doing 4 0 [] }), by decide +kernel⟩⟩

/-- The hypotheses of each clause of `Obligations.MemberReports` are met. -/
theorem witness_MemberReports :
  (∃ (p : PartId) (s : State), (let q := s.part p; (∃ l ∈ q.launch, (l.result ≠ 0)))) ∧
  (∃ (p : PartId) (s : State), (let q := s.part p; (∃ l ∈ q.launch, (l.result = 0)))) ∧
  (∃ (p : PartId) (s : State), (let q := s.part p; (let own := s.reg bFAB; (q.anchor = own) ∧ (∃ o ∈ q.op, (o.wait ≠ []))))) ∧
  (∃ (p : PartId) (fid : Fin 16384) (s : State), (let q := s.part p; (let own := s.reg bFAB; (q.anchor = own) ∧ (∃ o ∈ q.op, (o.wait.contains fid.val = true) ∧ (tblGet (fun _ => 0) q.retries fid.val < 3))))) ∧
  (∃ (p : PartId) (fid : Fin 16384) (s : State), (let q := s.part p; (let own := s.reg bFAB; (q.anchor = own) ∧ (∃ o ∈ q.op, (o.wait.contains fid.val = true) ∧ (3 ≤ tblGet (fun _ => 0) q.retries fid.val))))) ∧
  (∃ (p : PartId) (cause : ResetCause) (s : State), (let q := s.part p; (let own := s.reg bFAB; (q.anchor = own) ∧ (cause ≠ .lost)))) ∧
  (∃ (p : PartId) (s : State), (let q := s.part p; (let own := s.reg bFAB; (q.anchor = own) ∧ (q.op.isSome = true)))) ∧
  (∃ (p : PartId) (s : State), (let q := s.part p; (let own := s.reg bFAB; (q.anchor = own) ∧ (q.op = none) ∧ (q.st.resets = true)))) ∧
  (∃ (p : PartId) (s : State), (let q := s.part p; (let own := s.reg bFAB; (q.anchor ≠ own) ∧ (q.rst.isSome = true)))) ∧
  (∃ (p : PartId) (s : State), (let q := s.part p; (let own := s.reg bFAB; (q.anchor ≠ own) ∧ (q.rst = none) ∧ (q.st.resets = true)))) :=
  ⟨⟨0, (partAs { bound with launch := some { lau with result := 1 } }), by decide +kernel⟩,
   ⟨0, (partAs { bound with launch := some lau }), by decide +kernel⟩,
   ⟨0, (partAs { bound with op := doing 1 0 [2] }), by decide +kernel⟩,
   ⟨0, 2, (partAs { bound with op := doing 1 0 [2], retries := [(2, 2)] }), by decide +kernel⟩,
   ⟨0, 2, (partAs { bound with op := doing 1 0 [2], retries := [(2, 3)] }), by decide +kernel⟩,
   ⟨0, .rebind, State.reset, by decide +kernel⟩,
   ⟨0, (partAs { bound with op := doing 1 0 [2] }), by decide +kernel⟩,
   ⟨0, (partAs bound), by decide +kernel⟩,
   ⟨0, (partAs { bound with anchor := 2, rst := some rset }), by decide +kernel⟩,
   ⟨0, (partAs { bound with anchor := 2 }), by decide +kernel⟩⟩

/-- The hypotheses of each clause of `Obligations.SwitchingAndPool` are met. -/
theorem witness_SwitchingAndPool :
  (∃ (p : PartId) (s : State), (let q := s.part p; (s.now < q.switchAt + 1000 * q.quantum))) ∧
  (∃ (p : PartId) (s : State), (let q := s.part p; (flagSliceable q.flags = true) ∧ (q.st = .sealed) ∧ (q.switchAt + 1000 * q.quantum ≤ s.now))) ∧
  (∃ (p : PartId) (s : State), (let q := s.part p; (q.anchor ≠ s.reg bFAB) ∧ ((q.st = .sealed ∨ q.st = .suspended)) ∧ (s.switches.any (fun x => x.part == p.val) = false))) ∧
  (∃ (v : W32) (s : State), (let g := bits v.toNat 12 8; (let r := bits v.toNat 3 0; (r < 12) ∧ (s.regionFree (12 * g + r) = true) ∧ ((s.group g).mode ≠ .dedicated) ∧ ((s.pool.filter (·.2.isSome)).length + regionPages (12 * g + r) ≤ 4096)))) ∧
  (∃ (v : W32) (s : State), (let g := bits v.toNat 12 8; (let r := bits v.toNat 3 0; (r < 12) ∧ ((∀ x ∈ poolPages g r, s.poolPage x = some ⟨none, false⟩))))) ∧
  (∃ (v : W32), (let r := bits v.toNat 3 0; (12 ≤ r))) :=
  ⟨⟨0, ({ partAs { bound with quantum := 1000 } with now := 999999 }), by decide +kernel⟩,
   ⟨0, ({ partAs { bound with quantum := 1000, flags := 16 } with now := 1000000 }), by decide +kernel⟩,
   ⟨0, (partAs { bound with anchor := 2 }), by decide +kernel⟩,
   ⟨0xB, fid1, by decide +kernel⟩,
   ⟨0xB, ({ fid1 with pool := (poolPages 0 11).map fun i => (i, some ⟨none, false⟩) }), by decide +kernel⟩,
   ⟨0xC, by decide +kernel⟩⟩

/-- The hypotheses of each clause of `Obligations.MemoryAccess` are met. -/
theorem witness_MemoryAccess :
  (∃ (me : ReqInfo) (others : List ReqInfo) (a : Fin 4398046511104) (s : State), (let m : ReqInfo := { me with sector := sectorOf a }; (s.servedNext m others = false))) ∧
  (∃ (me : ReqInfo) (others : List ReqInfo) (a : Fin 4398046511104) (n : Nat) (s : State), (let m : ReqInfo := { me with sector := sectorOf a }; (let g := dpaGroup a; (s.servedNext m others = true) ∧ (n ≠ 0) ∧ (a.val % 512 + n ≤ 512) ∧ (s.needsTokens (s.classOf me.port me.part) g = true) ∧ (s.tokensOf me.port < tokenCharge n ∨ ∃ x ∈ (s.port me.port).waiting, dieOfAddr x.addr = dieOfAddr a ∧ s.needsTokens x.cls (dpaGroup x.addr) = true)))) ∧
  (∃ (me : ReqInfo) (others : List ReqInfo) (a : Fin 4398046511104) (n : Nat) (s : State), (let m : ReqInfo := { me with sector := sectorOf a }; (let g := dpaGroup a; (s.servedNext m others = true) ∧ (n ≠ 0) ∧ (a.val % 512 + n ≤ 512) ∧ (¬ (s.needsTokens (s.classOf me.port me.part) g = true ∧ (s.tokensOf me.port < tokenCharge n ∨ ∃ x ∈ (s.port me.port).waiting, dieOfAddr x.addr = dieOfAddr a ∧ s.needsTokens x.cls (dpaGroup x.addr) = true))) ∧ (dpaMapped a = false)))) ∧
  (∃ (me : ReqInfo) (others : List ReqInfo) (a : Fin 4398046511104) (n : Nat) (s : State), (let m : ReqInfo := { me with sector := sectorOf a }; (let g := dpaGroup a; (s.servedNext m others = true) ∧ (n ≠ 0) ∧ (a.val % 512 + n ≤ 512) ∧ (¬ (s.needsTokens (s.classOf me.port me.part) g = true ∧ (s.tokensOf me.port < tokenCharge n ∨ ∃ x ∈ (s.port me.port).waiting, dieOfAddr x.addr = dieOfAddr a ∧ s.needsTokens x.cls (dpaGroup x.addr) = true))) ∧ (dpaMapped a = true) ∧ (s.holder a ≠ some me.part)))) ∧
  (∃ (me : ReqInfo) (others : List ReqInfo) (a : Fin 4398046511104) (n : Nat) (s : State), (let m : ReqInfo := { me with sector := sectorOf a }; (let g := dpaGroup a; (s.servedNext m others = true) ∧ (n ≠ 0) ∧ (a.val % 512 + n ≤ 512) ∧ (¬ (s.needsTokens (s.classOf me.port me.part) g = true ∧ (s.tokensOf me.port < tokenCharge n ∨ ∃ x ∈ (s.port me.port).waiting, dieOfAddr x.addr = dieOfAddr a ∧ s.needsTokens x.cls (dpaGroup x.addr) = true))) ∧ (dpaMapped a = true) ∧ (s.holder a = some me.part) ∧ (s.line (sectorOf a) = none) ∧ (s.isPoison (sectorOf a) = true)))) ∧
  (∃ (me : ReqInfo) (others : List ReqInfo) (ipa : Fin 281474976710656) (a : Fin 4398046511104) (n : Nat) (ecc : Ecc) (s : State), (let m : ReqInfo := { me with sector := sectorOf a }; (let g := dpaGroup a; (s.servedNext m others = true) ∧ (n ≠ 0) ∧ (a.val % 512 + n ≤ 512) ∧ (¬ (s.needsTokens (s.classOf me.port me.part) g = true ∧ (s.tokensOf me.port < tokenCharge n ∨ ∃ x ∈ (s.port me.port).waiting, dieOfAddr x.addr = dieOfAddr a ∧ s.needsTokens x.cls (dpaGroup x.addr) = true))) ∧ (dpaMapped a = true) ∧ (s.holder a = some me.part) ∧ (s.line (sectorOf a) = none) ∧ (s.isPoison (sectorOf a) = false) ∧ (ecc = .none) ∧ (s.latent (sectorOf a) = .none) ∧ (s.tagOk me.part ipa a = true)))) ∧
  (∃ (me : ReqInfo) (others : List ReqInfo) (a : Fin 4398046511104) (n : Nat) (ecc : Ecc) (s : State), (let m : ReqInfo := { me with sector := sectorOf a }; (let g := dpaGroup a; (s.servedNext m others = true) ∧ (n ≠ 0) ∧ (a.val % 512 + n ≤ 512) ∧ (¬ (s.needsTokens (s.classOf me.port me.part) g = true ∧ (s.tokensOf me.port < tokenCharge n ∨ ∃ x ∈ (s.port me.port).waiting, dieOfAddr x.addr = dieOfAddr a ∧ s.needsTokens x.cls (dpaGroup x.addr) = true))) ∧ (dpaMapped a = true) ∧ (s.holder a = some me.part) ∧ (s.line (sectorOf a) = none) ∧ (s.isPoison (sectorOf a) = false) ∧ (ecc = .uncorr)))) ∧
  (∃ (me : ReqInfo) (others : List ReqInfo) (a : Fin 4398046511104) (bs : List Byte) (s : State), (let m : ReqInfo := { me with sector := sectorOf a }; (let g := dpaGroup a; (s.servedNext m others = true) ∧ (bs ≠ []) ∧ (a.val % 512 + bs.length ≤ 512) ∧ (s.needsTokens (s.classOf me.port me.part) g = true) ∧ (s.tokensOf me.port < tokenCharge bs.length ∨ ∃ x ∈ (s.port me.port).waiting, dieOfAddr x.addr = dieOfAddr a ∧ s.needsTokens x.cls (dpaGroup x.addr) = true)))) ∧
  (∃ (me : ReqInfo) (others : List ReqInfo) (a : Fin 4398046511104) (bs : List Byte) (s : State), (let m : ReqInfo := { me with sector := sectorOf a }; (let g := dpaGroup a; (s.servedNext m others = true) ∧ (bs ≠ []) ∧ (a.val % 512 + bs.length ≤ 512) ∧ (¬ (s.needsTokens (s.classOf me.port me.part) g = true ∧ (s.tokensOf me.port < tokenCharge bs.length ∨ ∃ x ∈ (s.port me.port).waiting, dieOfAddr x.addr = dieOfAddr a ∧ s.needsTokens x.cls (dpaGroup x.addr) = true))) ∧ (dpaMapped a = false)))) ∧
  (∃ (me : ReqInfo) (others : List ReqInfo) (a : Fin 4398046511104) (bs : List Byte) (s : State), (let m : ReqInfo := { me with sector := sectorOf a }; (let g := dpaGroup a; (s.servedNext m others = true) ∧ (bs ≠ []) ∧ (a.val % 512 + bs.length ≤ 512) ∧ (¬ (s.needsTokens (s.classOf me.port me.part) g = true ∧ (s.tokensOf me.port < tokenCharge bs.length ∨ ∃ x ∈ (s.port me.port).waiting, dieOfAddr x.addr = dieOfAddr a ∧ s.needsTokens x.cls (dpaGroup x.addr) = true))) ∧ (dpaMapped a = true) ∧ (s.holder a ≠ some me.part)))) ∧
  (∃ (me : ReqInfo) (others : List ReqInfo) (a : Fin 4398046511104) (bs : List Byte) (ecc : Ecc) (s : State), (let m : ReqInfo := { me with sector := sectorOf a }; (let g := dpaGroup a; (s.servedNext m others = true) ∧ (bs ≠ []) ∧ (a.val % 512 + bs.length ≤ 512) ∧ (¬ (s.needsTokens (s.classOf me.port me.part) g = true ∧ (s.tokensOf me.port < tokenCharge bs.length ∨ ∃ x ∈ (s.port me.port).waiting, dieOfAddr x.addr = dieOfAddr a ∧ s.needsTokens x.cls (dpaGroup x.addr) = true))) ∧ (dpaMapped a = true) ∧ (s.holder a = some me.part) ∧ ((s.region (regionOf a)).writes < 2 ^ 37) ∧ (bs.length = 512) ∧ (s.garbles (sectorOf a) ecc = false) ∧ (Memory.allWf s = true)))) :=
  ⟨⟨req, [{ req with age := 1 }], 0, State.reset, by decide +kernel⟩,
   ⟨req, [], 0, 32, ((owned.setReg bQOS 2).setTokens 0 319), by decide +kernel⟩,
   ⟨req, [], 0x2F4000000, 512, owned, by decide +kernel⟩,
   ⟨req, [], 0x40000000, 512, owned, by decide +kernel⟩,
   ⟨req, [], 511, 1, (owned.setPoison 0 true), by decide +kernel⟩,
   ⟨req, [], 5, 0x3FFFFFFF, 1, .none, owned, by decide +kernel⟩,
   ⟨req, [], 0x3FFFFFFF, 1, .uncorr, owned, by decide +kernel⟩,
   ⟨req, [], 0, (zs 32), ((owned.setReg bQOS 2).setTokens 0 319), by decide +kernel⟩,
   ⟨req, [], 0x2F4000000, (zs 512), owned, by decide +kernel⟩,
   ⟨req, [], 0x40000000, (zs 512), owned, by decide +kernel⟩,
   ⟨req, [], 0x3FFFFE00, (zs 512), .none, owned, by decide +kernel⟩⟩

/-- The hypotheses of each clause of `Obligations.MemoryUpkeep` are met. -/
theorem witness_MemoryUpkeep :
  (∃ (s : State), (let grp := s.scrub.pos / rawSectors; (bitAt (s.reg (bMEM + 0x600)) 0 = false ∨ (s.needsTokens 3 grp = true ∧ s.tokensOf 163 < tokenCharge 512)))) ∧
  (∃ (s : State), (let grp := s.scrub.pos / rawSectors; (bitAt (s.reg (bMEM + 0x600)) 0 = true) ∧ (¬ (s.needsTokens 3 grp = true ∧ s.tokensOf 163 < tokenCharge 512)))) ∧
  (∃ (s : State), (let grp := s.scrub.pos / rawSectors; (let i := s.scrub.pos % rawSectors; (let a := grp * 2 ^ 34 + i * 512; (bitAt (s.reg (bMEM + 0x600)) 0 = true) ∧ (¬ (s.needsTokens 3 grp = true ∧ s.tokensOf 163 < tokenCharge 512)) ∧ (i < dataSectors) ∧ (s.latent (sectorOf a) = .none))))) ∧
  (∃ (s : State), (let grp := s.scrub.pos / rawSectors; (let i := s.scrub.pos % rawSectors; (bitAt (s.reg (bMEM + 0x600)) 0 = true) ∧ (¬ (s.needsTokens 3 grp = true ∧ s.tokensOf 163 < tokenCharge 512)) ∧ (i < dataSectors)))) ∧
  (∃ (s : State), (let grp := s.scrub.pos / rawSectors; (let i := s.scrub.pos % rawSectors; (bitAt (s.reg (bMEM + 0x600)) 0 = true) ∧ (¬ (s.needsTokens 3 grp = true ∧ s.tokensOf 163 < tokenCharge 512)) ∧ (dataSectors ≤ i)))) ∧
  (∃ (g : GroupId) (w : Fin 16) (s : State) (kind : _), ((s.group g).waysMoving.find? (fun e => e.1 == w.val) = some (w.val, kind))) ∧
  (∃ (g : GroupId) (s : State), ((s.group g).selfRefresh = false)) ∧
  (∃ (g : GroupId) (s : State), ((s.group g).selfRefresh = true) ∧ ((s.group g).taking = [])) ∧
  (∃ (g : GroupId) (s : State) (tk : _), ((s.group g).selfRefresh = true) ∧ ((s.group g).taking = [tk]) ∧ (∀ r ∈ tk.regions, r < 12)) ∧
  (∃ (q : RegionId) (s : State), ((s.region q).clearing = false)) ∧
  (∃ (q : RegionId) (s : State), ((s.region q).clearing = true)) :=
  ⟨⟨(State.reset.clearBits (bMEM + 0x600) 1), by decide +kernel⟩,
   ⟨(State.reset.setReg (bMEM + 0x600) 1), by decide +kernel⟩,
   ⟨({ State.reset.setReg (bMEM + 0x600) 1 with scrub := { Patrol.reset with pos := dataSectors - 1 } }), by decide +kernel⟩,
   ⟨({ State.reset.setReg (bMEM + 0x600) 1 with scrub := { Patrol.reset with pos := dataSectors - 1 } }), by decide +kernel⟩,
   ⟨({ State.reset.setReg (bMEM + 0x600) 1 with scrub := { Patrol.reset with pos := dataSectors } }), by decide +kernel⟩,
   ⟨0, 3, (State.reset.setGroup 0 { Group.reset with waysMoving := [(3, .off)] }), .off, by decide +kernel⟩,
   ⟨0, (State.reset.setGroup 0 { State.reset.group 0 with selfRefresh := false }), by decide +kernel⟩,
   ⟨0, State.reset, by decide +kernel⟩,
   ⟨0, (State.reset.setGroup 0 { State.reset.group 0 with taking := [⟨0, true, [0, 11]⟩] }), ⟨0, true, [0, 11]⟩, by decide +kernel⟩,
   ⟨0, owned, by decide +kernel⟩,
   ⟨0, (State.reset.setRegion 0 { Region.reset with clearing := true }), by decide +kernel⟩⟩

/-- The hypotheses of each clause of `Obligations.BandwidthRegulation` are met. -/
theorem witness_BandwidthRegulation :
  (∃ (s : State), (∀ port, (s.port port).waiting = [])) ∧
  (∃ (m : PortId) (s : State), ((s.port m).waiting = [])) ∧
  (∃ (m : PortId) (s : State) (h : _), (let r := s.reg (bQOS + 0x200 + 4 * m.val); (let have_ := min (s.tokensOf m + 32 * (r / 2 ^ 16)) (40960 * max 1 (r % 4096)); ((s.port m).waiting = [h]) ∧ (s.needsTokens h.cls (dpaGroup h.addr) = true) ∧ (have_ < tokenCharge h.n)))) ∧
  (∃ (m : PortId) (s : State) (h : _), (let r := s.reg (bQOS + 0x200 + 4 * m.val); (let have_ := min (s.tokensOf m + 32 * (r / 2 ^ 16)) (40960 * max 1 (r % 4096)); ((s.port m).waiting = [h]) ∧ ((s.needsTokens h.cls (dpaGroup h.addr) = true) → tokenCharge h.n ≤ have_)))) ∧
  (∃ (m : PortId) (x : Nat) (s : State), (let want := if s.rtMaster m = false then 0 else if m.val < 48 then (if x < 8 then 0 else if x < 16 then 1 else if x < 24 then 2 else 3) else if 12288 ≤ x then 0 else if 8192 ≤ x then 1 else if 4096 ≤ x then 2 else 3; (let u := s.urgencyOf m; (u < want)))) ∧
  (∃ (m : PortId) (x : Nat) (s : State), (let want := if s.rtMaster m = false then 0 else if m.val < 48 then (if x < 8 then 0 else if x < 16 then 1 else if x < 24 then 2 else 3) else if 12288 ≤ x then 0 else if 8192 ≤ x then 1 else if 4096 ≤ x then 2 else 3; (let u := s.urgencyOf m; (want < u)))) ∧
  (∃ (m : PortId) (x : Nat) (s : State), (let want := if s.rtMaster m = false then 0 else if m.val < 48 then (if x < 8 then 0 else if x < 16 then 1 else if x < 24 then 2 else 3) else if 12288 ≤ x then 0 else if 8192 ≤ x then 1 else if 4096 ≤ x then 2 else 3; (let u := s.urgencyOf m; (u = want)))) ∧
  (∃ (m : PortId) (p : PartId) (s : State), (s.classOf m p = 0 ∨ s.classOf m p = 3)) ∧
  (∃ (m : PortId) (p : PartId) (s : State), (¬ (s.classOf m p = 0 ∨ s.classOf m p = 3))) :=
  ⟨⟨State.reset, fun _ => rfl⟩,
   ⟨0, State.reset, by decide +kernel⟩,
   ⟨0, ((State.reset.setPort 0 { Port.reset with waiting := [⟨req, 2, 0, 0, 32, none, .none⟩] }).setReg (bQOS + 0x200) 0), ⟨req, 2, 0, 0, 32, none, .none⟩, by decide +kernel⟩,
   ⟨0, (State.reset.setPort 0 { Port.reset with waiting := [⟨req, 0, 0, 0, 32, none, .none⟩] }), ⟨req, 0, 0, 0, 32, none, .none⟩, by decide +kernel⟩,
   ⟨0, 24, ((State.reset.setReg bQOS 2).modClu 0 fun c => { c with bound := true }), by decide +kernel⟩,
   ⟨0, 0, (State.reset.setUrgency 0 2), by decide +kernel⟩,
   ⟨0, 0, State.reset, by decide +kernel⟩,
   ⟨0, 0, State.reset, by decide +kernel⟩,
   ⟨160, 0, State.reset, by decide +kernel⟩⟩

/-- The hypotheses of each clause of `Obligations.Translation` are met. -/
theorem witness_Translation :
  (∃ (m : EngPort) (p : PartId) (va : Fin 4503599627370496) (write : Bool) (s : State), (((s.l1of m).find? (fun e => e.serves p va write)).isSome = true)) ∧
  (∃ (m : EngPort) (p : PartId) (va : Fin 4503599627370496) (write : Bool) (s : State), (let d := dieOfEngine m; (∃ e ∈ ((s.l2of d).find? (fun e => e.serves p va write)), ((s.l1of m).find? (fun e => e.serves p va write) = none)))) ∧
  (∃ (m : EngPort) (p : PartId) (va : Fin 4503599627370496) (write : Bool) (s : State), (let b := bXLT + 0x40 * p.val; (let d := dieOfEngine m; ((s.l1of m).find? (fun e => e.serves p va write) = none) ∧ ((s.l2of d).find? (fun e => e.serves p va write) = none) ∧ (bitAt (s.reg b) 0 = false)))) ∧
  (∃ (m : EngPort) (p : PartId) (va : Fin 4503599627370496) (write : Bool) (s : State), (let d := dieOfEngine m; ((s.l1of m).find? (fun e => e.serves p va write) = none) ∧ ((s.l2of d).find? (fun e => e.serves p va write) = none) ∧ (let s0 := s.bump (bXLT + 0x1010 + 4 * d) 1; ((s0.walk d p va write).2.isOk = true)))) ∧
  (∃ (m : EngPort) (p : PartId) (va : Fin 4503599627370496) (write : Bool) (s : State), (let d := dieOfEngine m; ((s.l1of m).find? (fun e => e.serves p va write) = none) ∧ ((s.l2of d).find? (fun e => e.serves p va write) = none) ∧ (let s0 := s.bump (bXLT + 0x1010 + 4 * d) 1; ((s0.walk d p va write).2.isOk = false)))) ∧
  (∃ (m : EngPort) (p : PartId) (va : Fin 4503599627370496) (write : Bool) (s : State), (let b := bXLT + 0x40 * p.val; (let d := dieOfEngine m; ((s.l1of m).find? (fun e => e.serves p va write) = none) ∧ ((s.l2of d).find? (fun e => e.serves p va write) = none) ∧ (let at_ := s.reg b / 2 ^ 20 % 2 ^ 28 * 2 ^ 20 + 8 * levelIndex va 2; (bitAt (s.reg b) 0 = true) ∧ (bitAt (s.reg (b + 8)) 0 = true) ∧ (∀ e ∈ s.l2of d, e.combined = true) ∧ (¬ (arenaBase ≤ at_ ∧ at_ < arenaBase + 2 ^ 37)))))) ∧
  (∃ (p : PartId) (viaVf : Bool) (cmd : W64) (s : State), (let allowed := if viaVf then cmd.toNat / 2 ^ 62 = 1 else 2 ≤ cmd.toNat / 2 ^ 62; (allowed) ∧ ((s.invOf p).length < 16))) ∧
  (∃ (p : PartId) (viaVf : Bool) (cmd : W64) (s : State), (let allowed := if viaVf then cmd.toNat / 2 ^ 62 = 1 else 2 ≤ cmd.toNat / 2 ^ 62; (¬ allowed ∨ 16 ≤ (s.invOf p).length))) ∧
  (∃ (p : PartId) (s : State), (∃ c ∈ ((s.invOf p).head?), (s.invWaits p c = true))) ∧
  (∃ (p : PartId) (s : State), (∃ c ∈ ((s.invOf p).head?), (s.invWaits p c = false))) ∧
  (∃ (p : PartId) (s : State), (s.invOf p = [])) :=
  ⟨⟨0, 0, 0xFFF, false, (State.reset.setL1 0 [⟨0, true, 0, 12, false, 0, 0, true, false, false⟩]), by decide +kernel⟩,
   ⟨0, 0, 0xFFF, false, (State.reset.setL2 (dieOfEngine 0) [⟨0, true, 0, 12, false, 0, 0, true, false, false⟩]), by decide +kernel⟩,
   ⟨0, 0, 0xFFF, true, (State.reset.setL1 0 [⟨0, true, 0, 12, false, 0, 0, true, false, false⟩]), by decide +kernel⟩,
   ⟨0, 0, 0xFFF, true, (xlated (arenaBase + 0x1B)), by decide +kernel⟩,
   ⟨0, 0, 0xFFF, true, (xlated 0), by decide +kernel⟩,
   ⟨0, 0, 0xFFF, true, ((State.reset.setReg bXLT 1).setReg (bXLT + 8) 1), by decide +kernel⟩,
   ⟨0, true, 0x4000000000000000, (State.reset.setInv 0 (full.take 15)), by decide +kernel⟩,
   ⟨0, true, 0x8000000000000000, State.reset, by decide +kernel⟩,
   ⟨0, ((State.reset.setInv 0 [3 * 2 ^ 62]).setInWin 0 { win with scratch := false, accepted := 1 }), by decide +kernel⟩,
   ⟨0, (State.reset.setInv 0 [1]), by decide +kernel⟩,
   ⟨0, State.reset, by decide +kernel⟩⟩

/-- The hypotheses of each clause of `Obligations.AtsCommands` are met. -/
theorem witness_AtsCommands :
  (∃ (fn : FnId) (hostOn : Bool) (s : State), (hostOn = false ∨ s.atsOn fn = false)) ∧
  (∃ (fn : FnId) (hostOn : Bool) (s : State), (hostOn = true) ∧ (s.atsOn fn = true) ∧ (s.atc.length ≤ 1024)) :=
  ⟨⟨0, true, State.reset, by decide +kernel⟩,
   ⟨0, true, ({ State.reset.setReg (bXLT + 0x1020) 1 with pcie := { Pcie.reset with ats := [0] } }), by decide +kernel⟩⟩

/-- The hypotheses of each clause of `Obligations.WindowLender` are met. -/
theorem witness_WindowLender :
  (∃ (f : Flit) (s : State), (let w := s.inWin f.window; (f.dst = s.reg bFAB) ∧ (f.kind = 0x12) ∧ ((w.check f.gen f.comp f.offset (32 * f.total) false).isSome = true))) ∧
  (∃ (f : Flit) (s : State), (let w := s.inWin f.window; (f.dst = s.reg bFAB) ∧ (f.kind = 0x12) ∧ (w.check f.gen f.comp f.offset (32 * f.total) false = none) ∧ (s.winLoad f.fd w f.offset (32 * f.total) = (s, 0, (s.winLoad f.fd w f.offset (32 * f.total)).2.2)))) ∧
  (∃ (f : Flit) (s : State), (let w := s.inWin f.window; (f.dst = s.reg bFAB) ∧ (s.rxTxn (rxKey f) = none) ∧ (f.window ≠ 1023) ∧ ((w.check f.gen f.comp f.offset (32 * f.units) true).isSome = true) ∧ (f.kind = 0x10))) ∧
  (∃ (f : Flit) (s : State), (let w := s.inWin f.window; (f.dst = s.reg bFAB) ∧ (s.rxTxn (rxKey f) = none) ∧ (f.window ≠ 1023) ∧ ((w.check f.gen f.comp f.offset (32 * f.units) true).isSome = true) ∧ (f.kind = 0x11) ∧ (f.units = 1))) ∧
  (∃ (f : Flit) (s : State), (let w := s.inWin f.window; (f.dst = s.reg bFAB) ∧ (s.rxTxn (rxKey f) = none) ∧ (f.window ≠ 1023) ∧ (f.kind = 0x10) ∧ (w.check f.gen f.comp f.offset (32 * f.units) true = none) ∧ (f.offset + 32 * f.total ≤ w.size * 2 ^ 25) ∧ (w.scratch = true) ∧ (inScratch w f.offset (f.body.take (32 * f.units)).length = true))) ∧
  (∃ (f : Flit) (s : State), (let w := s.inWin f.window; (f.dst = s.reg bFAB) ∧ (s.rxTxn (rxKey f) = none) ∧ (f.window ≠ 1023) ∧ (f.kind = 0x11) ∧ (f.units = 1) ∧ (w.check f.gen f.comp f.offset (32 * f.units) true = none) ∧ (f.offset + 32 * f.total ≤ w.size * 2 ^ 25))) ∧
  (∃ (f : Flit) (s : State), (let w := s.inWin f.window; (f.dst = s.reg bFAB) ∧ (s.rxTxn (rxKey f) = none) ∧ (f.window ≠ 1023) ∧ (f.kind = 0x10) ∧ (w.check f.gen f.comp f.offset (32 * f.units) true = none) ∧ (w.size * 2 ^ 25 < f.offset + 32 * f.total) ∧ (f.units < f.total))) ∧
  (∃ (f : Flit) (s : State), (f.dst = s.reg bFAB) ∧ (∃ t ∈ (s.rxTxn (rxKey f)), (f.window ≠ 1023) ∧ (f.kind = 0x10) ∧ (t.refused = true))) ∧
  (∃ (f : Flit) (s : State), (f.dst = s.reg bFAB) ∧ (∃ t ∈ (s.rxTxn (rxKey f)), (f.window ≠ 1023) ∧ (f.kind = 0x10) ∧ (t.refused = false) ∧ ((s.inWin t.window).size * 2 ^ 25 < f.offset + 32 * f.units))) ∧
  (∃ (src : Fin 16384) (tag : Fin 65536) (s : State), (∃ t ∈ (s.rxTxn (src * 65536 + tag)), (t.refused = true ∨ t.waiting ≠ [] ∨ t.got < t.total))) ∧
  (∃ (src : Fin 16384) (tag : Fin 65536) (s : State), (∃ t ∈ (s.rxTxn (src * 65536 + tag)), (t.refused = false) ∧ (t.waiting = []) ∧ (t.total ≤ t.got))) ∧
  (∃ (src : Fin 16384) (tag : Fin 65536) (s : State), (∃ t ∈ (s.rxTxn (src * 65536 + tag)), (t.got < t.total) ∧ (t.refused = false))) ∧
  (∃ (src : Fin 16384) (tag : Fin 65536) (s : State), (∃ t ∈ (s.rxTxn (src * 65536 + tag)), (t.got < t.total) ∧ (t.refused = true))) ∧
  (∃ (src : Fin 16384) (tag : Fin 65536) (s : State), (∃ t ∈ (s.rxTxn (src * 65536 + tag)), (t.total ≤ t.got))) :=
  ⟨⟨(data 0x12), State.reset, by decide +kernel⟩,
   ⟨({ data 0x12 with offset := 2 ^ 24 - 32 }), (State.reset.setInWin 0 { win with base := 16 }), by decide +kernel⟩,
   ⟨(data 0x10), State.reset, by decide +kernel⟩,
   ⟨(data 0x11), State.reset, by decide +kernel⟩,
   ⟨({ data 0x10 with offset := 2 ^ 20 - 32, total := 2 }), (State.reset.setInWin 0 { win with base := 47 }), by decide +kernel⟩,
   ⟨({ data 0x11 with offset := 2 ^ 25 - 32 }), (State.reset.setInWin 0 win), by decide +kernel⟩,
   ⟨({ data 0x10 with offset := 2 ^ 25 - 32, total := 2 }), (State.reset.setInWin 0 win), by decide +kernel⟩,
   ⟨(data 0x10), (State.reset.setRxTxn (rxKey (data 0x10)) (some ⟨0, 0, 0, 2, 1, true, []⟩)), by decide +kernel⟩,
   ⟨({ data 0x10 with offset := 2 ^ 25 }), ((State.reset.setRxTxn (rxKey (data 0x10)) (some ⟨0, 0, 0, 2, 1, false, []⟩)).setInWin 0 win), by decide +kernel⟩,
   ⟨5, 0, (State.reset.setRxTxn (rxKey (data 0x10)) (some ⟨0, 0, 0, 2, 1, false, []⟩)), by decide +kernel⟩,
   ⟨5, 0, (State.reset.setRxTxn (rxKey (data 0x10)) (some ⟨0, 0, 0, 2, 2, false, []⟩)), by decide +kernel⟩,
   ⟨5, 0, (State.reset.setRxTxn (rxKey (data 0x10)) (some ⟨0, 0, 0, 2, 1, false, []⟩)), by decide +kernel⟩,
   ⟨5, 0, (State.reset.setRxTxn (rxKey (data 0x10)) (some ⟨0, 0, 0, 2, 1, true, []⟩)), by decide +kernel⟩,
   ⟨5, 0, (State.reset.setRxTxn (rxKey (data 0x10)) (some ⟨0, 0, 0, 2, 2, false, []⟩)), by decide +kernel⟩⟩

/-- The hypotheses of each clause of `Obligations.WindowBorrower` are met. -/
theorem witness_WindowBorrower :
  (∃ (f : Flit) (s : State), (∃ t ∈ (s.txn f.tag), (t.resting = false) ∧ (f.kind = 0x30) ∧ (t.kind = .write))) ∧
  (∃ (f : Flit) (s : State), (∃ t ∈ (s.txn f.tag), (t.resting = false) ∧ (f.kind = 0x30) ∧ (t.kind = .sig))) ∧
  (∃ (f : Flit) (s : State), (∃ t ∈ (s.txn f.tag), (t.resting = false) ∧ (f.kind = 0x31) ∧ (t.kind = .read) ∧ (t.got + f.units < unitsOf t.base t.len))) ∧
  (∃ (f : Flit) (s : State), (∃ t ∈ (s.txn f.tag), (t.resting = false) ∧ (f.kind = 0x31) ∧ (t.kind = .read) ∧ (unitsOf t.base t.len ≤ t.got + f.units))) ∧
  (∃ (f : Flit) (s : State), (∃ t ∈ (s.txn f.tag), (t.resting = false) ∧ (f.kind = 0x32))) ∧
  (∃ (tag : Fin 65536) (s : State), (∃ t ∈ (s.txn tag), (t.resting = true))) ∧
  (∃ (tag : Fin 65536) (s : State), (∃ t ∈ (s.txn tag), (t.resting = false) ∧ (t.kind ≠ .sig))) :=
  ⟨⟨(flit 0x30 0), (State.reset.setTxn 0 (some ⟨.write, 96, 0, 1, 0, 0, 32, 0, false⟩)), by decide +kernel⟩,
   ⟨(flit 0x30 0), (State.reset.setTxn 0 (some ⟨.sig, 96, 0, 1, 0, 0, 32, 0, false⟩)), by decide +kernel⟩,
   ⟨(data 0x31), (State.reset.setTxn 0 (some ⟨.read, 96, 0, 1, 0, 0, 64, 0, false⟩)), by decide +kernel⟩,
   ⟨(data 0x31), (State.reset.setTxn 0 (some ⟨.read, 96, 0, 1, 0, 0, 64, 1, false⟩)), by decide +kernel⟩,
   ⟨(flit 0x32 0), (State.reset.setTxn 0 (some ⟨.write, 96, 0, 1, 0, 0, 32, 0, false⟩)), by decide +kernel⟩,
   ⟨0, (State.reset.setTxn 0 (some ⟨.write, 96, 0, 1, 0, 0, 32, 0, true⟩)), by decide +kernel⟩,
   ⟨0, (State.reset.setTxn 0 (some ⟨.read, 96, 0, 1, 0, 0, 32, 0, false⟩)), by decide +kernel⟩⟩

/-- The hypotheses of each clause of `Obligations.WindowEntries` are met. -/
theorem witness_WindowEntries :
  (∃ (w : WindowId) (s : State), (let i := s.inWin w; (i.valid = true))) ∧
  (∃ (w : WindowId) (s : State), (let i := s.inWin w; (i.valid = false))) ∧
  (∃ (w : WindowId) (s : State), (let i := s.inWin w; (i.revoking = true) ∧ (i.accepted = 0))) ∧
  (∃ (w : WindowId) (s : State), (let i := s.inWin w; (0 < i.accepted))) ∧
  (∃ (e : WindowId) (s : State), ((s.outWin e).valid = true)) ∧
  (∃ (e : WindowId) (s : State), ((s.outWin e).valid = false)) :=
  ⟨⟨1023, (State.reset.setInWin 1023 win), by decide +kernel⟩,
   ⟨1023, State.reset, by decide +kernel⟩,
   ⟨0, (State.reset.setInWin 0 { win with revoking := true }), by decide +kernel⟩,
   ⟨0, (State.reset.setInWin 0 { win with accepted := 1 }), by decide +kernel⟩,
   ⟨0, (State.reset.setOutWin 0 { OutWin.closed with valid := true }), by decide +kernel⟩,
   ⟨0, State.reset, by decide +kernel⟩⟩

/-- The hypotheses of each clause of `Obligations.CageSupply` are met. -/
theorem witness_CageSupply :
  (∃ (c : CageId) (s : State), (let k := s.cage c; (k.present = false) ∧ (k.pow = .off ∨ k.pow = .debounce) ∧ (k.attn ≠ .safe) ∧ (s.powerEn c = true))) ∧
  (∃ (c : CageId) (s : State), (let k := s.cage c; (k.present = false) ∧ (¬ ((k.pow = .off ∨ k.pow = .debounce) ∧ k.attn ≠ .safe ∧ s.powerEn c = true)) ∧ (¬ (k.pow = .discharge ∧ k.next = .off ∧ k.toSafe = false ∧ s.powerEn c = true)))) ∧
  (∃ (c : CageId) (s : State), (let k := s.cage c; (k.present = false) ∧ (k.pow = .discharge) ∧ (k.next = .off) ∧ (k.toSafe = false) ∧ (s.powerEn c = true))) ∧
  (∃ (c : CageId) (s : State), (let k := s.cage c; (k.present = false))) ∧
  (∃ (c : CageId) (s : State), (let k := s.cage c; (k.present = true) ∧ (k.pow = .on))) ∧
  (∃ (c : CageId) (s : State), (let k := s.cage c; (k.present = true) ∧ (k.pow = .ramp))) ∧
  (∃ (c : CageId) (s : State), (let k := s.cage c; (k.present = true) ∧ (k.pow = .retryWait ∨ k.pow = .latched))) ∧
  (∃ (c : CageId) (s : State), (let k := s.cage c; (k.present = true) ∧ (k.pow = .discharge))) ∧
  (∃ (c : CageId) (s : State), (let k := s.cage c; (k.present = true) ∧ (k.pow = .off ∨ k.pow = .debounce))) ∧
  (∃ (c : CageId) (s : State), (let k := s.cage c; (k.pow ≠ .ramp))) ∧
  (∃ (c : CageId) (mv : Fin 65536) (limiting : Bool) (cable : CableId) (s : State), (let k := s.cage c; (k.pow = .ramp) ∧ (2970 ≤ mv.val) ∧ (limiting = false) ∧ (cable.active = false))) ∧
  (∃ (c : CageId) (mv : Fin 65536) (limiting : Bool) (cable : CableId) (s : State), (let k := s.cage c; (k.pow = .ramp) ∧ (2970 ≤ mv.val) ∧ (limiting = false) ∧ (cable.active = true) ∧ (16000 < cable.milliwatt))) ∧
  (∃ (c : CageId) (mv : Fin 65536) (limiting : Bool) (cable : CableId) (s : State), (let k := s.cage c; (k.pow = .ramp) ∧ (2970 ≤ mv.val) ∧ (limiting = false) ∧ (cable.active = true) ∧ (cable.milliwatt ≤ 16000))) ∧
  (∃ (c : CageId) (mv : Fin 65536) (limiting : Bool) (s : State), (let k := s.cage c; (k.pow = .ramp) ∧ (mv.val < 2970 ∨ limiting = true))) ∧
  (∃ (c : CageId) (s : State), (let k := s.cage c; (k.pow = .ramp))) ∧
  (∃ (c : CageId) (s : State), (let k := s.cage c; (k.pow = .on))) ∧
  (∃ (c : CageId) (flags : W32) (s : State), (let k := s.cage c; (k.pow = .on) ∧ (flags.toNat ≠ 0))) :=
  ⟨⟨0, (State.reset.setReg (bSVC + 0x200) 1), by decide +kernel⟩,
   ⟨0, (cag { Cage.reset with attn := .safe }), by decide +kernel⟩,
   ⟨0, ((cag { Cage.reset with pow := .discharge }).setReg (bSVC + 0x200) 1), by decide +kernel⟩,
   ⟨0, State.reset, by decide +kernel⟩,
   ⟨0, (cag (fed .on)), by decide +kernel⟩,
   ⟨0, (cag (fed .ramp)), by decide +kernel⟩,
   ⟨0, (cag (fed .latched)), by decide +kernel⟩,
   ⟨0, (cag (fed .discharge)), by decide +kernel⟩,
   ⟨0, (cag (fed .debounce)), by decide +kernel⟩,
   ⟨0, (cag (fed .on)), by decide +kernel⟩,
   ⟨0, 2970, false, ⟨false, 0⟩, (cag (fed .ramp)), by decide +kernel⟩,
   ⟨0, 2970, false, ⟨true, 16001⟩, (cag (fed .ramp)), by decide +kernel⟩,
   ⟨0, 2970, false, ⟨true, 16000⟩, (cag (fed .ramp)), by decide +kernel⟩,
   ⟨0, 2969, false, (cag (fed .ramp)), by decide +kernel⟩,
   ⟨0, (cag (fed .ramp)), by decide +kernel⟩,
   ⟨0, (cag (fed .on)), by decide +kernel⟩,
   ⟨0, 1, (cag (fed .on)), by decide +kernel⟩⟩

/-- The hypotheses of each clause of `Obligations.CageSupply` are met, continued. -/
theorem witness_CageSupply_2 :
  (∃ (c : CageId) (s : State), (let k := s.cage c; (k.pow ≠ .on))) ∧
  (∃ (c : CageId) (s : State), (let k := s.cage c; (k.pow = .discharge) ∧ (k.toSafe = false))) ∧
  (∃ (c : CageId) (s : State), (let k := s.cage c; (k.pow = .discharge) ∧ (k.toSafe = true))) ∧
  (∃ (c : CageId) (s : State), (let k := s.cage c; (k.pow = .retryWait))) ∧
  (∃ (c : CageId) (s : State), (let k := s.cage c; (k.pow ≠ .retryWait))) ∧
  (∃ (c : CageId) (s : State), (let k := s.cage c; (k.pow = .latched))) ∧
  (∃ (c : CageId) (s : State), (let k := s.cage c; (k.pow ≠ .latched))) ∧
  (∃ (c : CageId) (s : State), (let k := s.cage c; (k.pow = .off) ∧ (k.attn ≠ .safe))) ∧
  (∃ (c : CageId) (s : State), (let k := s.cage c; (k.pow ≠ .off ∨ k.attn = .safe) ∧ (¬ (k.pow = .discharge ∧ k.next = .off ∧ k.toSafe = false ∧ k.present = true)))) ∧
  (∃ (c : CageId) (s : State), (let k := s.cage c; (k.pow = .discharge) ∧ (k.next = .off) ∧ (k.toSafe = false) ∧ (k.present = true))) ∧
  (∃ (c : CageId) (s : State), (let k := s.cage c; (k.pow = .ramp ∨ k.pow = .on))) ∧
  (∃ (c : CageId) (s : State), (let k := s.cage c; (k.pow = .debounce ∨ k.pow = .retryWait))) ∧
  (∃ (c : CageId) (s : State), (let k := s.cage c; (k.pow = .discharge))) ∧
  (∃ (c : CageId) (s : State), (let k := s.cage c; (k.pow = .off ∨ k.pow = .latched))) ∧
  (∃ (c : CageId) (s : State), (let k := s.cage c; (k.pow = .on) ∧ (k.active = true) ∧ (k.low = false) ∧ (k.ready = false))) ∧
  (∃ (c : CageId) (s : State), (let k := s.cage c; (k.ready = true))) :=
  ⟨⟨0, State.reset, by decide +kernel⟩,
   ⟨0, (cag (fed .discharge)), by decide +kernel⟩,
   ⟨0, (cag { fed .discharge with toSafe := true }), by decide +kernel⟩,
   ⟨0, (cag (fed .retryWait)), by decide +kernel⟩,
   ⟨0, State.reset, by decide +kernel⟩,
   ⟨0, (cag (fed .latched)), by decide +kernel⟩,
   ⟨0, State.reset, by decide +kernel⟩,
   ⟨0, State.reset, by decide +kernel⟩,
   ⟨0, (cag (fed .on)), by decide +kernel⟩,
   ⟨0, (cag (fed .discharge)), by decide +kernel⟩,
   ⟨0, (cag (fed .ramp)), by decide +kernel⟩,
   ⟨0, (cag (fed .debounce)), by decide +kernel⟩,
   ⟨0, (cag (fed .discharge)), by decide +kernel⟩,
   ⟨0, State.reset, by decide +kernel⟩,
   ⟨0, (cag { fed .on with active := true }), by decide +kernel⟩,
   ⟨0, (cag { fed .on with ready := true }), by decide +kernel⟩⟩

/-- The hypotheses of each clause of `Obligations.Attention` are met. -/
theorem witness_Attention :
  (∃ (c : CageId) (s : State), (let k := s.cage c; (let stuck := bitAt (s.reg (bSVC + 0x10)) c.val; (stuck = false) ∧ (k.attn = .idle)))) ∧
  (∃ (c : CageId) (s : State), (let k := s.cage c; (let stuck := bitAt (s.reg (bSVC + 0x10)) c.val; (stuck = false) ∧ (k.attn ≠ .idle)))) ∧
  (∃ (c : CageId) (s : State), (let stuck := bitAt (s.reg (bSVC + 0x10)) c.val; (stuck = true))) ∧
  (∃ (c : CageId) (s : State), (let k := s.cage c; (let stuck := bitAt (s.reg (bSVC + 0x10)) c.val; (stuck = false) ∧ (k.attn = .draining)))) ∧
  (∃ (c : CageId) (s : State), (let k := s.cage c; (k.attn = .idle ∨ k.attn = .keyStuck))) ∧
  (∃ (c : CageId) (s : State), (let k := s.cage c; (k.attn ≠ .idle) ∧ (k.attn ≠ .keyStuck))) ∧
  (∃ (c : CageId) (s : State), (let k := s.cage c; (k.attn = .requested) ∧ ((cageLinks c).any s.routed = false) ∧ (k.pow = .off ∨ k.pow = .latched))) ∧
  (∃ (c : CageId) (s : State), (let k := s.cage c; (k.attn = .requested) ∧ ((cageLinks c).any s.routed = false) ∧ (k.pow ≠ .off) ∧ (k.pow ≠ .latched))) ∧
  (∃ (c : CageId) (s : State), (let k := s.cage c; (k.attn ≠ .requested ∨ (cageLinks c).any s.routed = true))) ∧
  (∃ (c : CageId) (s : State), (let k := s.cage c; (k.attn = .requested))) ∧
  (∃ (c : CageId) (s : State), (let k := s.cage c; (k.attn = .safe))) ∧
  (∃ (c : CageId) (s : State), (let k := s.cage c; (k.attn ≠ .requested))) ∧
  (∃ (c : CageId) (s : State), (let k := s.cage c; (k.attn = .draining))) ∧
  (∃ (c : CageId) (s : State), (let k := s.cage c; (k.attn = .draining) ∧ (∃ i ∈ cageLinks c, (s.lnk i).st ≠ .disabled))) ∧
  (∃ (c : CageId) (s : State), (let k := s.cage c; (k.attn = .draining) ∧ (∀ i ∈ cageLinks c, (s.lnk i).st = .disabled) ∧ (k.pow = .on ∨ k.pow = .ramp))) ∧
  (∃ (c : CageId) (s : State), (let k := s.cage c; (k.attn = .draining) ∧ (k.pow = .discharge) ∧ (k.toSafe = true))) ∧
  (∃ (c : CageId) (s : State), (let k := s.cage c; (k.attn ≠ .draining))) ∧
  (∃ (key : Fin 25) (s : State), (key.val < 24) ∧ ((s.cage key).attn = .keyStuck)) ∧
  (∃ (key : Fin 25) (s : State), (key.val = 24 ∨ (s.cage key).attn ≠ .keyStuck)) :=
  ⟨⟨0, State.reset, by decide +kernel⟩,
   ⟨0, (cag { Cage.reset with attn := .safe }), by decide +kernel⟩,
   ⟨23, (State.reset.setReg (bSVC + 0x10) 0x800000), by decide +kernel⟩,
   ⟨0, (cag { Cage.reset with attn := .draining }), by decide +kernel⟩,
   ⟨0, (cag { Cage.reset with attn := .keyStuck }), by decide +kernel⟩,
   ⟨0, (cag { Cage.reset with attn := .requested }), by decide +kernel⟩,
   ⟨0, (cag { Cage.reset with attn := .requested }), by decide +kernel⟩,
   ⟨0, (cag { fed .on with attn := .requested }), by decide +kernel⟩,
   ⟨0, State.reset, by decide +kernel⟩,
   ⟨0, (cag { fed .on with attn := .requested }), by decide +kernel⟩,
   ⟨0, (cag { Cage.reset with attn := .safe }), by decide +kernel⟩,
   ⟨0, State.reset, by decide +kernel⟩,
   ⟨0, (cag { fed .on with attn := .draining }), by decide +kernel⟩,
   ⟨0, ((cag { fed .on with attn := .draining }).setLnk 0 (inSt .active)), by decide +kernel⟩,
   ⟨0, (cag { fed .ramp with attn := .draining }), by decide +kernel⟩,
   ⟨0, (cag { fed .discharge with attn := .draining, toSafe := true }), by decide +kernel⟩,
   ⟨0, State.reset, by decide +kernel⟩,
   ⟨23, (State.reset.modCage 23 fun k => { k with attn := .keyStuck }), by decide +kernel⟩,
   ⟨24, State.reset, by decide +kernel⟩⟩

/-- The hypotheses of each clause of `Obligations.LinkStates` are met. -/
theorem witness_LinkStates :
  (∃ (i : LinkId) (s : State), (let l := s.lnk i; (let k := s.cage (i / 4); (l.st = .detect) ∧ (l.waiting = false) ∧ (k.pow = .on) ∧ (k.ready = true)))) ∧
  (∃ (i : LinkId) (s : State), (let l := s.lnk i; (let k := s.cage (i / 4); (l.st ≠ .detect ∨ l.waiting = true ∨ k.pow ≠ .on ∨ k.ready = false)))) ∧
  (∃ (i : LinkId) (s : State), (let l := s.lnk i; (l.st = .equalise))) ∧
  (∃ (i : LinkId) (s : State), (let l := s.lnk i; (l.st = .align))) ∧
  (∃ (i : LinkId) (s : State), (let l := s.lnk i; (l.st = .neighbour))) ∧
  (∃ (i : LinkId) (s : State), (let l := s.lnk i; (l.st = .detect))) ∧
  (∃ (i : LinkId) (s : State), (let l := s.lnk i; (l.carries = true))) ∧
  (∃ (i : LinkId) (s : State), (let l := s.lnk i; (l.carries = false))) ∧
  (∃ (i : LinkId) (s : State), (let l := s.lnk i; (l.st = .quarantine) ∧ (s.quarCause i = 0))) ∧
  (∃ (i : LinkId) (s : State), (let l := s.lnk i; (l.st ≠ .quarantine ∨ s.quarCause i ≠ 0))) ∧
  (∃ (i : LinkId) (s : State), (let l := s.lnk i; (l.meets = true))) ∧
  (∃ (i : LinkId) (s : State), (let l := s.lnk i; (l.meets = false))) ∧
  (∃ (i : LinkId) (h : Hello) (mac : W64) (s : State), (let l := s.lnk i; (l.meets = true) ∧ (let good := mac.toNat = wordCrc 1 h.payload; (¬ good)))) ∧
  (∃ (i : LinkId) (h : Hello) (mac : W64) (s : State), (let l := s.lnk i; (l.meets = true) ∧ (let good := mac.toNat = wordCrc 1 h.payload; (good) ∧ (h.goodbye = true)))) ∧
  (∃ (i : LinkId) (h : Hello) (mac : W64) (s : State), (let l := s.lnk i; (l.meets = true) ∧ (let good := mac.toNat = wordCrc 1 h.payload; (good) ∧ (h.goodbye = false)))) ∧
  (∃ (i : LinkId) (s : State), (let l := s.lnk i; (l.st ≠ .neighbour))) ∧
  (∃ (i : LinkId) (s : State), (let l := s.lnk i; (l.st ≠ .disabled))) ∧
  (∃ (i : LinkId) (s : State), (let l := s.lnk i; (l.st = .disabled))) ∧
  (∃ (i : LinkId) (s : State), (let l := s.lnk i; (l.st = .active))) ∧
  (∃ (i : LinkId) (s : State), (let l := s.lnk i; (l.st = .disabled) ∧ ((s.setBits (kLnkCtrl i) 1).cageCause (i / 4) = none))) :=
  ⟨⟨0, ((lnkAs (inSt .detect)).modCage 0 fun k => { k with pow := .on, ready := true }), by decide +kernel⟩,
   ⟨0, (lnkAs (inSt .detect)), by decide +kernel⟩,
   ⟨0, (lnkAs (inSt .equalise)), by decide +kernel⟩,
   ⟨0, (lnkAs (inSt .align)), by decide +kernel⟩,
   ⟨0, (lnkAs (inSt .neighbour)), by decide +kernel⟩,
   ⟨0, (lnkAs (inSt .detect)), by decide +kernel⟩,
   ⟨0, (lnkAs (inSt .draining)), by decide +kernel⟩,
   ⟨0, fid1, by decide +kernel⟩,
   ⟨0, goodState, congrArg Link.st goodState_lnk, goodState_cause⟩,
   ⟨0, fid1, by decide +kernel⟩,
   ⟨0, (lnkAs (inSt .neighbour)), by decide +kernel⟩,
   ⟨0, fid1, by decide +kernel⟩,
   ⟨0, ⟨0, 0, 0, 0, false, false⟩, 0, (lnkAs (inSt .neighbour)), by decide +kernel⟩,
   ⟨0, ⟨0, 0, 0, 0, true, false⟩, (BitVec.ofNat 64 (wordCrc 1 (Hello.payload ⟨0, 0, 0, 0, true, false⟩))), (lnkAs (inSt .quarantine)), by decide +kernel⟩,
   ⟨0, ⟨0, 0, 0, 0, false, false⟩, (BitVec.ofNat 64 (wordCrc 1 (Hello.payload ⟨0, 0, 0, 0, false, false⟩))), (lnkAs (inSt .neighbour)), by decide +kernel⟩,
   ⟨0, (lnkAs (inSt .active)), by decide +kernel⟩,
   ⟨0, (lnkAs (inSt .active)), by decide +kernel⟩,
   ⟨0, (lnkAs (inSt .disabled)), by decide +kernel⟩,
   ⟨0, (lnkAs (inSt .active)), by decide +kernel⟩,
   ⟨0, (fid1.modCage 0 fun _ => { fed .on with ready := true }), by decide +kernel⟩⟩

/-- The hypotheses of each clause of `Obligations.LinkStream` are met. -/
theorem witness_LinkStream :
  (∃ (i : LinkId) (s : State), (let l := s.lnk i; (l.st = .quarantine))) ∧
  (∃ (i : LinkId) (s : State), (let l := s.lnk i; (¬ (l.carries = true) ∨ l.replayWait = true) ∧ (l.st ≠ .quarantine))) ∧
  (∃ (i : LinkId) (tag : BitVec 128) (body : List Byte) (ctr : Fin (2 ^ 48)) (s : State), (let l := s.lnk i; (let opens (key epoch ctr : Nat) := openBundle key epoch ctr body (toBytes 16 tag.toNat); (l.carries = true) ∧ (l.replayWait = false) ∧ ((opens l.rxKey l.rxEpoch l.rxCtr).isSome = true)))) ∧
  (∃ (i : LinkId) (tag : BitVec 128) (body : List Byte) (ctr : Fin (2 ^ 48)) (s : State), (let l := s.lnk i; (let opens (key epoch ctr : Nat) := openBundle key epoch ctr body (toBytes 16 tag.toNat); (l.carries = true) ∧ (l.replayWait = false) ∧ (l.pending = none) ∧ (opens l.rxKey l.rxEpoch l.rxCtr = none)))) ∧
  (∃ (i : LinkId) (s : State), (let l := s.lnk i; (l.carries = true) ∧ (l.replayWait = false) ∧ (l.pending.isSome = true))) ∧
  (∃ (i : LinkId) (x : LFlit) (s : State), (let l := s.lnk i; (let slot : Slot := ⟨i, x.pool, x.flit.vc⟩; (x.lseq ≠ l.rxLseq ∨ x.flit.kind = 0 ∨ l.hasSlot slot = false)))) ∧
  (∃ (i : LinkId) (x : LFlit) (s : State), (let l := s.lnk i; (let slot : Slot := ⟨i, x.pool, x.flit.vc⟩; (let f : Flit := { x.flit with slot := some slot }; (x.lseq = l.rxLseq) ∧ (x.flit.kind ≠ 0) ∧ (l.hasSlot slot = true) ∧ (f.malformed = true))))) ∧
  (∃ (i : LinkId) (x : LFlit) (s : State), (let l := s.lnk i; (let slot : Slot := ⟨i, x.pool, x.flit.vc⟩; (let f : Flit := { x.flit with slot := some slot }; (let a := s.setLnk i { l.takeSlot slot with rxLseq := (l.rxLseq + 1) % 65536, ackDue := true }; (x.lseq = l.rxLseq) ∧ (x.flit.kind ≠ 0) ∧ (l.hasSlot slot = true) ∧ (f.malformed = false) ∧ (f.dst = a.reg bFAB) ∧ (f.check = f.crc)))))) ∧
  (∃ (i : LinkId) (x : LFlit) (s : State), (let l := s.lnk i; (let slot : Slot := ⟨i, x.pool, x.flit.vc⟩; (let f : Flit := { x.flit with slot := some slot }; (let a := s.setLnk i { l.takeSlot slot with rxLseq := (l.rxLseq + 1) % 65536, ackDue := true }; (x.lseq = l.rxLseq) ∧ (x.flit.kind ≠ 0) ∧ (l.hasSlot slot = true) ∧ (f.malformed = false) ∧ (f.dst = a.reg bFAB) ∧ (f.check ≠ f.crc)))))) ∧
  (∃ (i : LinkId) (x : LFlit) (s : State), (let l := s.lnk i; (let slot : Slot := ⟨i, x.pool, x.flit.vc⟩; (let f : Flit := { x.flit with slot := some slot }; (let a := s.setLnk i { l.takeSlot slot with rxLseq := (l.rxLseq + 1) % 65536, ackDue := true }; (x.lseq = l.rxLseq) ∧ (x.flit.kind ≠ 0) ∧ (l.hasSlot slot = true) ∧ (f.malformed = false) ∧ (f.dst ≠ a.reg bFAB) ∧ (f.kind = 0x20)))))) ∧
  (∃ (i : LinkId) (x : LFlit) (s : State), (let l := s.lnk i; (let slot : Slot := ⟨i, x.pool, x.flit.vc⟩; (let f : Flit := { x.flit with slot := some slot }; (let a := s.setLnk i { l.takeSlot slot with rxLseq := (l.rxLseq + 1) % 65536, ackDue := true }; (x.lseq = l.rxLseq) ∧ (x.flit.kind ≠ 0) ∧ (l.hasSlot slot = true) ∧ (f.malformed = false) ∧ (f.dst ≠ a.reg bFAB) ∧ (f.kind ≠ 0x20) ∧ (2 ≤ f.hops)))))) ∧
  (∃ (i : LinkId) (x : LFlit) (s : State), (let l := s.lnk i; (let slot : Slot := ⟨i, x.pool, x.flit.vc⟩; (let f : Flit := { x.flit with slot := some slot }; (let a := s.setLnk i { l.takeSlot slot with rxLseq := (l.rxLseq + 1) % 65536, ackDue := true }; (x.lseq = l.rxLseq) ∧ (x.flit.kind ≠ 0) ∧ (l.hasSlot slot = true) ∧ (f.malformed = false) ∧ (f.dst ≠ a.reg bFAB) ∧ (f.kind ≠ 0x20) ∧ (f.hops < 2)))))) ∧
  (∃ (i : LinkId) (s : State), (let l := s.lnk i; (l.carries = true))) ∧
  (∃ (i : LinkId) (s : State), (let l := s.lnk i; (¬ (l.carries = true)))) ∧
  (∃ (i : LinkId) (p : BitVec 128) (cctr : Fin (2 ^ 48)) (mac : W64) (s : State), (let l := s.lnk i; (let fresh (kind payload : Nat) := mac.toNat = wordMac l.rxKey l.rxEpoch kind payload cctr ∧ l.rxCctr < cctr.val; (l.carries = true) ∧ (fresh 3 p.toNat)))) ∧
  (∃ (i : LinkId) (next : Fin 65536) (cctr : Fin (2 ^ 48)) (mac : W64) (s : State), (let l := s.lnk i; (let fresh (kind payload : Nat) := mac.toNat = wordMac l.rxKey l.rxEpoch kind payload cctr ∧ l.rxCctr < cctr.val; (l.carries = true) ∧ (fresh 4 (next * 2 ^ 112)) ∧ (next.val = l.txLseq ∨ l.replay.any (fun y => y.lseq == next.val) = true)))) :=
  ⟨⟨0, (lnkAs (inSt .quarantine)), by decide +kernel⟩,
   ⟨0, (lnkAs { inSt .active with replayWait := true }), by decide +kernel⟩,
   ⟨0, _, [], 0, (lnkAs (inSt .active)), by decide +kernel, by decide +kernel, opens_tag _ _ _ _⟩,
   (opens_not _ _ _ []).elim fun tag h => ⟨0, tag, [], 0, (lnkAs (inSt .active)), by decide +kernel, by decide +kernel, rfl, h⟩,
   ⟨0, (lnkAs { inSt .active with pending := some (1, 1) }), by decide +kernel⟩,
   ⟨0, ({ lf (wr 1 0) with lseq := 1 }), (lnkAs (inSt .active)), by decide +kernel⟩,
   ⟨0, (lf (wr 1 3)), (lnkAs (inSt .active)), by decide +kernel⟩,
   ⟨0, (lf (wr 1 2).sealed), (lnkAs (inSt .active)), by decide +kernel⟩,
   ⟨0, (lf (wr 1 2)), (lnkAs (inSt .active)), by decide +kernel⟩,
   ⟨0, (lf { flit 0x20 0 with dst := 5, vc := vcOf 0x20 0 }), (lnkAs (inSt .active)), by decide +kernel⟩,
   ⟨0, (lf (wr 5 2)), (lnkAs (inSt .active)), by decide +kernel⟩,
   ⟨0, (lf (wr 5 1)), (lnkAs (inSt .active)), by decide +kernel⟩,
   ⟨0, (lnkAs (inSt .active)), by decide +kernel⟩,
   ⟨0, fid1, by decide +kernel⟩,
   ⟨0, 1, 1, _, (lnkAs (inSt .active)), by decide +kernel, ⟨mac_toNat _ _ _ _ _, by decide +kernel⟩⟩,
   ⟨0, 0, 1, _, (lnkAs (inSt .active)), by decide +kernel, ⟨mac_toNat _ _ _ _ _, by decide +kernel⟩, by decide +kernel⟩⟩

/-- The hypotheses of each clause of `Obligations.LinkStream` are met, continued. -/
theorem witness_LinkStream_2 :
  (∃ (i : LinkId) (next : Fin 65536) (cctr : Fin (2 ^ 48)) (mac : W64) (s : State), (let l := s.lnk i; (let fresh (kind payload : Nat) := mac.toNat = wordMac l.rxKey l.rxEpoch kind payload cctr ∧ l.rxCctr < cctr.val; (l.carries = true) ∧ (fresh 4 (next * 2 ^ 112)) ∧ (next.val ≠ l.txLseq) ∧ (l.replay.any (fun y => y.lseq == next.val) = false)))) ∧
  (∃ (i : LinkId) (first : Fin 65536) (ctr : Fin (2 ^ 48)) (cctr : Fin (2 ^ 48)) (mac : W64) (s : State), (let l := s.lnk i; (let fresh (kind payload : Nat) := mac.toNat = wordMac l.rxKey l.rxEpoch kind payload cctr ∧ l.rxCctr < cctr.val; (l.carries = true) ∧ (fresh 5 (first * 2 ^ 112 + ctr * 2 ^ 64)) ∧ (l.rxCtr ≤ ctr.val)))) ∧
  (∃ (i : LinkId) (first : Fin 65536) (ctr : Fin (2 ^ 48)) (cctr : Fin (2 ^ 48)) (mac : W64) (s : State), (let l := s.lnk i; (let fresh (kind payload : Nat) := mac.toNat = wordMac l.rxKey l.rxEpoch kind payload cctr ∧ l.rxCctr < cctr.val; (l.carries = true) ∧ (fresh 5 (first * 2 ^ 112 + ctr * 2 ^ 64)) ∧ (ctr.val < l.rxCtr)))) ∧
  (∃ (i : LinkId) (ready : Bool) (active : W32) (staged : W32) (cctr : Fin (2 ^ 48)) (mac : W64) (s : State), (let l := s.lnk i; (let fresh (kind payload : Nat) := mac.toNat = wordMac l.rxKey l.rxEpoch kind payload cctr ∧ l.rxCctr < cctr.val; (let ePay := epochPayload active.toNat staged.toNat ready; (l.carries = true) ∧ (fresh 2 ePay) ∧ (bitAt (s.reg kRteCtrl) 2 = true) ∧ (bitAt (s.reg kRteCtrl) 1 = true) ∧ (active.toNat = s.reg kRteStaged) ∧ (l.st = .active))))) ∧
  (∃ (i : LinkId) (ready : Bool) (active : W32) (staged : W32) (cctr : Fin (2 ^ 48)) (mac : W64) (s : State), (let l := s.lnk i; (let fresh (kind payload : Nat) := mac.toNat = wordMac l.rxKey l.rxEpoch kind payload cctr ∧ l.rxCctr < cctr.val; (let ePay := epochPayload active.toNat staged.toNat ready; (l.carries = true) ∧ (fresh 2 ePay) ∧ (¬ (bitAt (s.reg kRteCtrl) 2 = true ∧ bitAt (s.reg kRteCtrl) 1 = true ∧ active.toNat = s.reg kRteStaged ∧ l.st = .active)))))) ∧
  (∃ (i : LinkId) (ready : Bool) (p : BitVec 128) (active : W32) (staged : W32) (next : Fin 65536) (first : Fin 65536) (ctr : Fin (2 ^ 48)) (cctr : Fin (2 ^ 48)) (mac : W64) (s : State), (let l := s.lnk i; (let stale (kind payload : Nat) := l.verify kind payload cctr mac.toNat = .fails ∨ (mac.toNat = wordMac l.rxKey l.rxEpoch kind payload cctr ∧ cctr.val ≤ l.rxCctr); (let ePay := epochPayload active.toNat staged.toNat ready; (l.carries = true) ∧ (∃ w ∈ [(3, p.toNat, Instr.creditAck i p cctr mac), (4, next * 2 ^ 112, .replayReq i next cctr mac), (5, first * 2 ^ 112 + ctr * 2 ^ 64, .replayStart i first ctr cctr mac), (2, ePay, .epoch i active staged ready cctr mac)], (stale w.1 w.2.1)))))) ∧
  (∃ (i : LinkId) (ready : Bool) (active : W32) (staged : W32) (mac : W64) (s : State), (let l := s.lnk i; (let ePay := epochPayload active.toNat staged.toNat ready; (l.st = .quarantine) ∧ (mac.toNat = wordCrc 2 ePay)))) ∧
  (∃ (i : LinkId) (ready : Bool) (active : W32) (staged : W32) (mac : W64) (s : State), (let l := s.lnk i; (let ePay := epochPayload active.toNat staged.toNat ready; (l.st = .quarantine) ∧ (mac.toNat ≠ wordCrc 2 ePay)))) ∧
  (∃ (i : LinkId) (s : State), (let l := s.lnk i; (¬ (l.carries = true)) ∧ (l.st ≠ .quarantine))) ∧
  (∃ (i : LinkId) (s : State), (let l := s.lnk i; (l.carries = true) ∧ (l.ackDue = true))) ∧
  (∃ (i : LinkId) (s : State), (let l := s.lnk i; (¬ (l.carries = true) ∨ l.ackDue = false))) ∧
  (∃ (i : LinkId) (s : State), (let l := s.lnk i; (l.carries = true) ∧ (l.replayWait = true))) ∧
  (∃ (i : LinkId) (s : State), (let l := s.lnk i; (¬ (l.carries = true) ∨ l.replayWait = false))) ∧
  (∃ (i : LinkId) (n : Fin 65536) (s : State), (let l := s.lnk i; ((l.queue[n.val]?).isSome = true))) ∧
  (∃ (i : LinkId) (n : Fin 65536) (s : State), (let l := s.lnk i; (l.queue.length ≤ n.val))) :=
  ⟨⟨0, 1, 1, _, (lnkAs (inSt .active)), by decide +kernel, ⟨mac_toNat _ _ _ _ _, by decide +kernel⟩, by decide +kernel, by decide +kernel⟩,
   ⟨0, 0, 0, 1, _, (lnkAs (inSt .active)), by decide +kernel, ⟨mac_toNat _ _ _ _ _, by decide +kernel⟩, by decide +kernel⟩,
   ⟨0, 0, 0, 1, _, (lnkAs { inSt .active with rxCtr := 1 }), by decide +kernel, ⟨mac_toNat _ _ _ _ _, by decide +kernel⟩, by decide +kernel⟩,
   ⟨0, false, 0, 0, 1, _, ((lnkAs (inSt .active)).setReg kRteCtrl 6), by decide +kernel, ⟨mac_toNat _ _ _ _ _, by decide +kernel⟩, by decide +kernel, by decide +kernel, by decide +kernel, by decide +kernel⟩,
   ⟨0, false, 0, 0, 1, _, (lnkAs (inSt .active)), by decide +kernel, ⟨mac_toNat _ _ _ _ _, by decide +kernel⟩, by decide +kernel⟩,
   ⟨0, false, 1, 0, 0, 0, 0, 0, 0, _, (lnkAs (inSt .active)), by decide +kernel, _, List.mem_cons_self, Or.inr ⟨mac_toNat _ _ _ _ _, by decide +kernel⟩⟩,
   ⟨0, false, 0, 0, (BitVec.ofNat 64 (wordCrc 2 (epochPayload 0 0 false))), (lnkAs (inSt .quarantine)), by decide +kernel⟩,
   ⟨0, false, 0, 0, 0, (lnkAs (inSt .quarantine)), by decide +kernel⟩,
   ⟨0, fid1, by decide +kernel⟩,
   ⟨0, (lnkAs { inSt .active with ackDue := true }), by decide +kernel⟩,
   ⟨0, (lnkAs (inSt .active)), by decide +kernel⟩,
   ⟨0, (lnkAs { inSt .active with replayWait := true }), by decide +kernel⟩,
   ⟨0, (lnkAs (inSt .active)), by decide +kernel⟩,
   ⟨0, 0, (lnkAs { inSt .active with queue := [wr 1 0] }), by decide +kernel⟩,
   ⟨0, 1, (lnkAs { inSt .active with queue := [wr 1 0] }), by decide +kernel⟩⟩

/-- The hypotheses of each clause of `Obligations.RoutingBanks` are met. -/
theorem witness_RoutingBanks :
  (∃ (s : State), (bitAt (s.reg kRteCtrl) 2 = true)) ∧
  (∃ (s : State), (bitAt (s.reg kRteCtrl) 2 = false)) ∧
  (∃ (s : State), ((∃ i < 96, (s.lnk i).carries = true))) ∧
  (∃ (s : State), ((∀ i < 96, (s.lnk i).carries = false))) ∧
  (∃ (v : W32), (bitAt v.toNat 0 = true)) ∧
  (∃ (v : W32), (bitAt v.toNat 0 = false)) :=
  ⟨⟨(fid1.setReg kRteCtrl 4), by decide +kernel⟩,
   ⟨fid1, by decide +kernel⟩,
   ⟨(fid1.modLnk 95 fun _ => inSt .active), by decide +kernel⟩,
   ⟨fid1, by decide +kernel⟩,
   ⟨1, by decide +kernel⟩,
   ⟨0, by decide +kernel⟩⟩

/-- The hypotheses of each clause of `Obligations.FabricTime` are met. -/
theorem witness_FabricTime :
  (∃ (d : W64) (s : State), (let t := s.time; (t.st = .root) ∧ (s.now ≤ d.toNat))) ∧
  (∃ (d : W64) (s : State), (let t := s.time; (t.st ≠ .root ∨ d.toNat < s.now))) ∧
  (∃ (i : LinkId) (s : State), (let t := s.time; (let l := s.lnk i; (t.pendingCtrl = false) ∧ (l.st ≠ .active)))) ∧
  (∃ (i : LinkId) (s : State), (let t := s.time; (let l := s.lnk i; (t.pendingCtrl = false) ∧ (l.st = .active)))) ∧
  (∃ (i : LinkId) (s : State), (let t := s.time; (let l := s.lnk i; (t.pendingCtrl = true) ∧ (l.st ≠ .active) ∧ (s.reg kTsCtrl % 4 = 2)))) ∧
  (∃ (i : LinkId) (s : State), (let l := s.lnk i; (l.carries = false))) ∧
  (∃ (i : LinkId) (p : BitVec 128) (cctr : Fin (2 ^ 48)) (mac : W64) (s : State), (let l := s.lnk i; (l.carries = true) ∧ (l.verify 6 p.toNat cctr mac.toNat = .fails ∨ (mac.toNat = wordMac l.rxKey l.rxEpoch 6 p.toNat cctr ∧ cctr.val ≤ l.rxCctr)))) ∧
  (∃ (i : LinkId) (p : BitVec 128) (cctr : Fin (2 ^ 48)) (mac : W64) (s : State), (let l := s.lnk i; (let fresh := mac.toNat = wordMac l.rxKey l.rxEpoch 6 p.toNat cctr ∧ l.rxCctr < cctr.val; (l.st = .draining) ∧ (fresh)))) ∧
  (∃ (i : LinkId) (p : BitVec 128) (cctr : Fin (2 ^ 48)) (mac : W64) (s : State), (let t := s.time; (let l := s.lnk i; (let fresh := mac.toNat = wordMac l.rxKey l.rxEpoch 6 p.toNat cctr ∧ l.rxCctr < cctr.val; (l.st = .active) ∧ (fresh) ∧ (t.follows = true) ∧ (t.link = i.val))))) ∧
  (∃ (i : LinkId) (p : BitVec 128) (cctr : Fin (2 ^ 48)) (mac : W64) (s : State), (let t := s.time; (let l := s.lnk i; (let root := bits p.toNat 15 2; (let fresh := mac.toNat = wordMac l.rxKey l.rxEpoch 6 p.toNat cctr ∧ l.rxCctr < cctr.val; (l.st = .active) ∧ (fresh) ∧ (let named := (s.lnk t.link).rxRoot; (t.follows = true) ∧ (t.link ≠ i.val) ∧ (root ≠ 0x3FFF) ∧ (named ≠ 0x3FFF) ∧ (root ≠ named) ∧ (t.conflict = false))))))) ∧
  (∃ (i : LinkId) (p : BitVec 128) (cctr : Fin (2 ^ 48)) (mac : W64) (s : State), (let t := s.time; (let l := s.lnk i; (let root := bits p.toNat 15 2; (let fresh := mac.toNat = wordMac l.rxKey l.rxEpoch 6 p.toNat cctr ∧ l.rxCctr < cctr.val; (l.st = .active) ∧ (fresh) ∧ (let named := (s.lnk t.link).rxRoot; (t.follows = true) ∧ (t.link ≠ i.val) ∧ (root = 0x3FFF ∨ named = 0x3FFF ∨ root = named))))))) ∧
  (∃ (i : LinkId) (p : BitVec 128) (cctr : Fin (2 ^ 48)) (mac : W64) (s : State), (let t := s.time; (let l := s.lnk i; (let root := bits p.toNat 15 2; (let fresh := mac.toNat = wordMac l.rxKey l.rxEpoch 6 p.toNat cctr ∧ l.rxCctr < cctr.val; (l.st = .active) ∧ (fresh) ∧ (t.st = .root) ∧ (root ≠ 0x3FFF) ∧ (root ≠ s.reg bFAB) ∧ (t.conflict = false)))))) ∧
  (∃ (s : State), (let t := s.time; (t.st = .acquiring))) ∧
  (∃ (s : State), (let t := s.time; (t.st ≠ .acquiring))) ∧
  (∃ (s : State), (let t := s.time; (t.st = .locked))) ∧
  (∃ (s : State), (let t := s.time; (t.st ≠ .locked))) ∧
  (∃ (s : State), (let t := s.time; (t.st = .holdover))) ∧
  (∃ (s : State), (let t := s.time; (t.st ≠ .holdover))) :=
  ⟨⟨5, ({ timed .root with now := 5 }), by decide +kernel⟩,
   ⟨5, ({ timed .root with now := 6 }), by decide +kernel⟩,
   ⟨0, fid1, by decide +kernel⟩,
   ⟨0, (lnkAs (inSt .active)), by decide +kernel⟩,
   ⟨0, ({ fid1.setReg kTsCtrl 2 with time := { TimeSync.reset with pendingCtrl := true } }), by decide +kernel⟩,
   ⟨0, fid1, by decide +kernel⟩,
   ⟨0, 1, 0, _, (lnkAs (inSt .active)), by decide +kernel, Or.inr ⟨mac_toNat _ _ _ _ _, by decide +kernel⟩⟩,
   ⟨0, 1, 1, _, (lnkAs (inSt .draining)), by decide +kernel, ⟨mac_toNat _ _ _ _ _, by decide +kernel⟩⟩,
   ⟨0, 1, 1, _, ({ (lnkAs (inSt .active)) with time := { TimeSync.reset with st := .holdover, link := 0 } }), by decide +kernel, ⟨mac_toNat _ _ _ _ _, by decide +kernel⟩, by decide +kernel, by decide +kernel⟩,
   ⟨0, 8, 1, _, ({ (lnkAs (inSt .active)).setLnk 4 { inSt .active with rxRoot := 5 } with time := { TimeSync.reset with st := .locked, link := 4, root := 5 } }), by decide +kernel, ⟨mac_toNat _ _ _ _ _, by decide +kernel⟩, by decide +kernel, by decide +kernel, by decide +kernel, by decide +kernel, by decide +kernel, by decide +kernel⟩,
   ⟨0, 8, 1, _, ({ (lnkAs (inSt .active)) with time := { TimeSync.reset with st := .locked, link := 4, root := 5 } }), by decide +kernel, ⟨mac_toNat _ _ _ _ _, by decide +kernel⟩, by decide +kernel, by decide +kernel, by decide +kernel⟩,
   ⟨0, 8, 1, _, ({ (lnkAs (inSt .active)) with time := { TimeSync.reset with st := .root } }), by decide +kernel, ⟨mac_toNat _ _ _ _ _, by decide +kernel⟩, by decide +kernel, by decide +kernel, by decide +kernel, by decide +kernel⟩,
   ⟨(timed .acquiring), by decide +kernel⟩,
   ⟨(timed .root), by decide +kernel⟩,
   ⟨(timed .locked), by decide +kernel⟩,
   ⟨(timed .root), by decide +kernel⟩,
   ⟨(timed .holdover), by decide +kernel⟩,
   ⟨(timed .root), by decide +kernel⟩⟩

/-- The hypotheses of each clause of `Obligations.BucketRounds` are met. -/
theorem witness_BucketRounds :
  (∃ (h : HdrAddr) (s : State), (let k := s.bucket h; (k.zeroFill = true ∨ (k.isOpen = true ∧ s.hdrProducers h ≤ k.requests)))) ∧
  (∃ (h : HdrAddr) (s : State), (let k := s.bucket h; (k.zeroFill = false) ∧ ((k.isOpen = false ∨ k.requests < s.hdrProducers h)) ∧ (let s1 := if k.isOpen then s else s.openRound h; (s1.detsum (h / 2 ^ 20) = false)))) ∧
  (∃ (h : HdrAddr) (s : State), (let k := s.bucket h; (k.zeroFill = false) ∧ ((k.isOpen = false ∨ k.requests < s.hdrProducers h)) ∧ (let s1 := if k.isOpen then s else s.openRound h; (let k1 := s1.bucket h; (s1.detsum (h / 2 ^ 20) = true) ∧ (k1.gather.length + 1 = s1.hdrProducers h))))) ∧
  (∃ (h : HdrAddr) (s : State), (let k := s.bucket h; (k.zeroFill = false) ∧ ((k.isOpen = false ∨ k.requests < s.hdrProducers h)) ∧ (let s1 := if k.isOpen then s else s.openRound h; (let k1 := s1.bucket h; (s1.detsum (h / 2 ^ 20) = true) ∧ (k1.gather.length + 1 ≠ s1.hdrProducers h))))) ∧
  (∃ (h : HdrAddr) (s : State), (let k := s.bucket h; (k.isOpen = false))) ∧
  (∃ (h : HdrAddr) (s : State), (let k := s.bucket h; (k.isOpen = true) ∧ (k.dones + 1 ≠ s.hdrProducers h))) ∧
  (∃ (h : HdrAddr) (s : State), (let k := s.bucket h; (k.isOpen = true) ∧ (k.dones + 1 = s.hdrProducers h))) ∧
  (∃ (h : HdrAddr) (s : State), (let k := s.bucket h; (k.zeroFill = true))) ∧
  (∃ (e : EngineId) (core : Nat) (seq : Nat) (b : Nat) (s : State), (∃ x ∈ (s.findXfer e core seq), (∃ d ∈ x.disp, (b ∈ d.waiting)))) ∧
  (∃ (e : EngineId) (core : Nat) (seq : Nat) (s : State), (s.findXfer e core seq = none)) :=
  ⟨⟨0, (State.reset.setBucket 0 opened), by decide +kernel⟩,
   ⟨0, State.reset, by decide +kernel⟩,
   ⟨0, (({ hdr with cores := [(0, runs)] }).setPart 0 { Part.reset with images := [(0, some ⟨[], toBytes 8 (2 ^ 40)⟩)] }), by decide +kernel⟩,
   ⟨0, ((({ hdr with cores := [(0, runs)] }).setPart 0 { Part.reset with images := [(0, some ⟨[], toBytes 8 (2 ^ 40)⟩)] }).spadSetWord 0 16 0x20000), by decide +kernel⟩,
   ⟨0, State.reset, by decide +kernel⟩,
   ⟨0, (State.reset.setBucket 0 opened), by decide +kernel⟩,
   ⟨0, (hdr.setBucket 0 opened), by decide +kernel⟩,
   ⟨0, (State.reset.setBucket 0 { Bucket.idle with zeroFill := true }), by decide +kernel⟩,
   ⟨0, 0, 1, 4, (eng { movedXfer with disp := some ⟨1, 0, 0, 0, 0, 0, 0, [], [4], [], [], false, []⟩ }), by decide +kernel⟩,
   ⟨0, 0, 1, State.reset, by decide +kernel⟩⟩

/-- The hypotheses of each clause of `Obligations.WorkingKeys` are met. -/
theorem witness_WorkingKeys :
  (∃ (q : RegionId) (s : State), (s.drbgUp = true) ∧ (s.rekeyDue q = true) ∧ (∀ n < 12, (s.region (q.val / 12 * 12 + n)).rekeying = false ∧ (q.val / 12 * 12 + n < q.val → s.rekeyDue (q.val / 12 * 12 + n) = false))) ∧
  (∃ (q : RegionId) (s : State), (s.drbgUp = false ∨ s.rekeyDue q = false)) ∧
  (∃ (q : RegionId) (s : State), (let r := s.region q; (r.rekeying = false))) ∧
  (∃ (q : RegionId) (s : State), (let r := s.region q; (r.rekeying = true))) ∧
  (∃ (i : LinkId) (m : RekeyMsg) (cctrs : List Nat) (macs : List Nat) (chains : Bool) (debug : Bool) (ok : Bool) (s : State), (let l := s.lnk i; (let quar := l.st = .quarantine; (let words (kind : Nat) := rekeyWords kind m.xid m.data 0; (let long := [(1, Instr.rekeyInit i m cctrs macs), (2, .rekeyResp i m cctrs macs), (3, .rekeyCert i m chains debug cctrs macs), (4, .rekeySign i m ok cctrs macs)]; (quar) ∧ (∃ w ∈ long, (¬ (s.drbgUp = true ∧ s.cus.ready = true) ∨ ¬ (cctrs.length = (words w.1).length ∧ macs = (words w.1).map (wordCrc 7))))))))) ∧
  (∃ (i : LinkId) (xid : Fin 256) (msg : Fin 8) (cctr : Fin (2 ^ 48)) (mac : W64) (epoch : W32) (s : State), (let l := s.lnk i; (let quar := l.st = .quarantine; (let goodOne (kind data : Nat) : Prop := mac.toNat = wordCrc 7 (rekeyPayload kind xid 0 data); (let short := [(5, msg.val, Instr.rekeyAck i xid msg cctr mac), (6, epoch.toNat, .rekeySwitch i xid epoch cctr mac), (7, 0, .rekeyAbort i xid cctr mac)]; (quar) ∧ (∃ w ∈ short, (¬ (s.drbgUp = true ∧ s.cus.ready = true) ∨ ¬ goodOne w.1 w.2.1))))))) ∧
  (∃ (i : LinkId) (s : State), (let l := s.lnk i; (let quar := l.st = .quarantine; (¬ quar) ∧ (l.carries = false)))) ∧
  (∃ (i : LinkId) (m : RekeyMsg) (cctrs : List Nat) (macs : List Nat) (chains : Bool) (debug : Bool) (ok : Bool) (s : State), (let l := s.lnk i; (let words (kind : Nat) := rekeyWords kind m.xid m.data 0; (let long := [(1, Instr.rekeyInit i m cctrs macs), (2, .rekeyResp i m cctrs macs), (3, .rekeyCert i m chains debug cctrs macs), (4, .rekeySign i m ok cctrs macs)]; (l.carries = true) ∧ (∃ w ∈ long, (cctrs.length = (words w.1).length) ∧ (macs.length = (words w.1).length) ∧ (let y := s.takeWords i ((words w.1).zip (cctrs.zip macs)); (y.2 = false ∨ y.1.drbgUp = false ∨ y.1.cus.ready = false))))))) ∧
  (∃ (i : LinkId) (m : RekeyMsg) (cctrs : List Nat) (macs : List Nat) (s : State), (let l := s.lnk i; (let quar := l.st = .quarantine; (let words (kind : Nat) := rekeyWords kind m.xid m.data 0; (s.drbgUp = true) ∧ (s.cus.ready = true) ∧ (quar) ∧ (cctrs.length = (words 1).length) ∧ (macs = (words 1).map (wordCrc 7)) ∧ (l.exch = none) ∧ (∃ h ∈ (l.hello), (h.serial ≤ Config.serial.toNat)))))) ∧
  (∃ (i : LinkId) (m : RekeyMsg) (cctrs : List Nat) (macs : List Nat) (s : State), (let l := s.lnk i; (let quar := l.st = .quarantine; (let words (kind : Nat) := rekeyWords kind m.xid m.data 0; (s.drbgUp = true) ∧ (s.cus.ready = true) ∧ (quar) ∧ (cctrs.length = (words 1).length) ∧ (macs = (words 1).map (wordCrc 7)) ∧ (l.exch = none) ∧ (∃ h ∈ (l.hello), (Config.serial.toNat < h.serial)))))) ∧
  (∃ (i : LinkId) (m : RekeyMsg) (cctrs : List Nat) (macs : List Nat) (s : State), (let l := s.lnk i; (let quar := l.st = .quarantine; (let words (kind : Nat) := rekeyWords kind m.xid m.data 0; (s.drbgUp = true) ∧ (s.cus.ready = true) ∧ (quar) ∧ (cctrs.length = (words 2).length) ∧ (macs = (words 2).map (wordCrc 7)) ∧ (∃ x ∈ (l.exch), (x.xid = m.xid) ∧ (2 ∉ x.received) ∧ (x.initiator = true) ∧ (x.rollover = false)))))) ∧
  (∃ (i : LinkId) (m : RekeyMsg) (cctrs : List Nat) (macs : List Nat) (s : State), (let l := s.lnk i; (let words (kind : Nat) := rekeyWords kind m.xid m.data 0; (l.carries = true) ∧ (cctrs.length = (words 2).length) ∧ (macs.length = (words 2).length) ∧ (let s1 := (s.takeWords i ((words 2).zip (cctrs.zip macs))).1; ((s.takeWords i ((words 2).zip (cctrs.zip macs))).2 = true) ∧ (s1.drbgUp = true) ∧ (s1.cus.ready = true) ∧ (∃ x ∈ ((s1.lnk i).exch), (x.xid = m.xid) ∧ (2 ∉ x.received) ∧ (x.initiator = true) ∧ (x.rollover = true)))))) ∧
  (∃ (i : LinkId) (m : RekeyMsg) (cctrs : List Nat) (macs : List Nat) (chains : Bool) (s : State), (let l := s.lnk i; (let quar := l.st = .quarantine; (let words (kind : Nat) := rekeyWords kind m.xid m.data 0; (s.drbgUp = true) ∧ (s.cus.ready = true) ∧ (quar) ∧ (cctrs.length = (words 3).length) ∧ (macs = (words 3).map (wordCrc 7)) ∧ (∃ x ∈ (l.exch), (x.xid = m.xid) ∧ (3 ∉ x.received) ∧ (x.rollover = false) ∧ ((if x.initiator then 2 else 1) ∈ x.received) ∧ (chains = false)))))) ∧
  (∃ (i : LinkId) (m : RekeyMsg) (cctrs : List Nat) (macs : List Nat) (chains : Bool) (debug : Bool) (s : State), (let l := s.lnk i; (let quar := l.st = .quarantine; (let words (kind : Nat) := rekeyWords kind m.xid m.data 0; (s.drbgUp = true) ∧ (s.cus.ready = true) ∧ (quar) ∧ (cctrs.length = (words 3).length) ∧ (macs = (words 3).map (wordCrc 7)) ∧ (∃ x ∈ (l.exch), (x.xid = m.xid) ∧ (3 ∉ x.received) ∧ (x.rollover = false) ∧ ((if x.initiator then 2 else 1) ∈ x.received) ∧ (chains = true) ∧ (debug = false)))))) ∧
  (∃ (i : LinkId) (m : RekeyMsg) (cctrs : List Nat) (macs : List Nat) (chains : Bool) (debug : Bool) (s : State), (let l := s.lnk i; (let quar := l.st = .quarantine; (let words (kind : Nat) := rekeyWords kind m.xid m.data 0; (s.drbgUp = true) ∧ (s.cus.ready = true) ∧ (quar) ∧ (cctrs.length = (words 3).length) ∧ (macs = (words 3).map (wordCrc 7)) ∧ (∃ x ∈ (l.exch), (x.xid = m.xid) ∧ (3 ∉ x.received) ∧ (x.rollover = false) ∧ ((if x.initiator then 2 else 1) ∈ x.received) ∧ (chains = true) ∧ (debug = true)))))) ∧
  (∃ (i : LinkId) (m : RekeyMsg) (cctrs : List Nat) (macs : List Nat) (ok : Bool) (s : State), (let l := s.lnk i; (let quar := l.st = .quarantine; (let words (kind : Nat) := rekeyWords kind m.xid m.data 0; (s.drbgUp = true) ∧ (s.cus.ready = true) ∧ (quar) ∧ (cctrs.length = (words 4).length) ∧ (macs = (words 4).map (wordCrc 7)) ∧ (∃ x ∈ (l.exch), (x.xid = m.xid) ∧ (4 ∉ x.received) ∧ (x.rollover = false) ∧ (3 ∈ x.received) ∧ (ok = true)))))) ∧
  (∃ (i : LinkId) (m : RekeyMsg) (cctrs : List Nat) (macs : List Nat) (ok : Bool) (s : State), (let l := s.lnk i; (let quar := l.st = .quarantine; (let words (kind : Nat) := rekeyWords kind m.xid m.data 0; (s.drbgUp = true) ∧ (s.cus.ready = true) ∧ (quar) ∧ (cctrs.length = (words 4).length) ∧ (macs = (words 4).map (wordCrc 7)) ∧ (∃ x ∈ (l.exch), (x.xid = m.xid) ∧ (4 ∉ x.received) ∧ (x.rollover = false) ∧ (3 ∈ x.received) ∧ (ok = false)))))) :=
  ⟨⟨11, ((withCus cusUp).setRegion 11 { Region.reset with owner := some 0, keyed := true, writes := 2 ^ 36 }), by decide +kernel⟩,
   ⟨0, ((withCus cusUp).setRegion 0 { Region.reset with owner := some 0, keyed := true, writes := 2 ^ 36 - 1 }), by decide +kernel⟩,
   ⟨0, owned, by decide +kernel⟩,
   ⟨0, (State.reset.setRegion 0 { Region.reset with rekeying := true }), by decide +kernel⟩,
   ⟨0, ⟨3, []⟩, [], [], true, true, true, (lnkAs (inSt .quarantine)), by decide +kernel⟩,
   ⟨0, 3, 0, 0, 0, 0, (lnkAs (inSt .quarantine)), by decide +kernel⟩,
   ⟨0, fid1, by decide +kernel⟩,
   ⟨0, ⟨3, []⟩, [0], [0], true, true, true, (lnkAs (inSt .active)), by decide +kernel, _, List.mem_cons_self, by decide +kernel, by decide +kernel, Or.inl (by simp only [rekeyWords, rekeyRest, List.length_nil, List.zip_cons_cons, List.zip_nil_right, State.takeWords]; rw [stale_word _ _ _ _ _ rfl])⟩,
   ⟨0, ⟨3, []⟩, [0], ((rekeyWords 1 3 [] 0).map (wordCrc 7)), ((withCus cusUp).setLnk 0 { inSt .quarantine with hello := some ⟨0, 1, 5, 6, false, false⟩ }), by decide +kernel, by decide +kernel, by decide +kernel, by decide +kernel, by decide +kernel, by decide +kernel, _, rfl, Nat.zero_le _⟩,
   ⟨0, ⟨3, []⟩, [0], ((rekeyWords 1 3 [] 0).map (wordCrc 7)), ((withCus cusUp).setLnk 0 { inSt .quarantine with hello := some ⟨Config.serial.toNat + 1, 1, 5, 6, false, false⟩ }), by decide +kernel, by decide +kernel, by decide +kernel, by decide +kernel, by decide +kernel, by decide +kernel, _, rfl, Nat.lt_succ_self _⟩,
   ⟨0, ⟨3, []⟩, [0], ((rekeyWords 2 3 [] 0).map (wordCrc 7)), (exch { xch with initiator := true }), by decide +kernel⟩,
   ⟨0, ⟨3, []⟩, [1], [rollMac], rolling, by decide +kernel, rfl, rfl, congrArg Prod.snd rolling_takes,
    (congrArg (·.1.drbgUp) rolling_takes).trans (by decide +kernel), (congrArg (·.1.cus.ready) rolling_takes).trans (by decide +kernel),
    { xch with initiator := true, rollover := true }, (congrArg (fun y => (y.1.lnk 0).exch) rolling_takes).trans (by decide +kernel), by decide +kernel⟩,
   ⟨0, ⟨3, []⟩, [0], ((rekeyWords 3 3 [] 0).map (wordCrc 7)), false, (exch { xch with received := [1] }), by decide +kernel⟩,
   ⟨0, ⟨3, []⟩, [0], ((rekeyWords 3 3 [] 0).map (wordCrc 7)), true, false, (exch { xch with received := [1] }), by decide +kernel⟩,
   ⟨0, ⟨3, []⟩, [0], ((rekeyWords 3 3 [] 0).map (wordCrc 7)), true, true, (exch { xch with received := [1] }), by decide +kernel⟩,
   ⟨0, ⟨3, []⟩, [0], ((rekeyWords 4 3 [] 0).map (wordCrc 7)), true, (exch { xch with received := [1, 3] }), by decide +kernel⟩,
   ⟨0, ⟨3, []⟩, [0], ((rekeyWords 4 3 [] 0).map (wordCrc 7)), false, (exch { xch with received := [1, 3] }), by decide +kernel⟩⟩

/-- The hypotheses of each clause of `Obligations.WorkingKeys` are met, continued. -/
theorem witness_WorkingKeys_2 :
  (∃ (i : LinkId) (xid : Fin 256) (msg : Fin 8) (mac : W64) (s : State), (let l := s.lnk i; (let quar := l.st = .quarantine; (let goodOne (kind data : Nat) : Prop := mac.toNat = wordCrc 7 (rekeyPayload kind xid 0 data); (s.drbgUp = true) ∧ (s.cus.ready = true) ∧ (quar) ∧ (goodOne 5 msg) ∧ (∃ x ∈ (l.exch), (x.xid = xid.val) ∧ (x.hasSent msg = true) ∧ (msg.val ∉ x.acked) ∧ (x.rollover = false)))))) ∧
  (∃ (i : LinkId) (xid : Fin 256) (mac : W64) (epoch : W32) (s : State), (let l := s.lnk i; (let quar := l.st = .quarantine; (let goodOne (kind data : Nat) : Prop := mac.toNat = wordCrc 7 (rekeyPayload kind xid 0 data); (s.drbgUp = true) ∧ (s.cus.ready = true) ∧ (quar) ∧ (goodOne 6 0) ∧ (epoch.toNat = 0) ∧ (∃ x ∈ (l.exch), (x.xid = xid.val) ∧ (6 ∉ x.received) ∧ (x.rollover = false) ∧ (4 ∈ x.received)))))) ∧
  (∃ (i : LinkId) (xid : Fin 256) (mac : W64) (epoch : W32) (s : State), (let l := s.lnk i; (let quar := l.st = .quarantine; (let goodOne (kind data : Nat) : Prop := mac.toNat = wordCrc 7 (rekeyPayload kind xid 0 data); (s.drbgUp = true) ∧ (s.cus.ready = true) ∧ (quar) ∧ (goodOne 6 0) ∧ (epoch.toNat = 0) ∧ (∃ x ∈ (l.exch), (x.xid = xid.val) ∧ (6 ∉ x.received) ∧ (x.rollover = false) ∧ (4 ∈ x.received) ∧ (6 ∈ x.acked)))))) ∧
  (∃ (i : LinkId) (xid : Fin 256) (mac : W64) (s : State), (let l := s.lnk i; (let quar := l.st = .quarantine; (let goodOne (kind data : Nat) : Prop := mac.toNat = wordCrc 7 (rekeyPayload kind xid 0 data); (s.drbgUp = true) ∧ (s.cus.ready = true) ∧ (quar) ∧ (goodOne 7 0) ∧ (∃ x ∈ (l.exch), (x.xid = xid.val)))))) ∧
  (∃ (i : LinkId) (m : RekeyMsg) (s : State), (let l := s.lnk i; (let quar := l.st = .quarantine; (quar) ∧ (∃ x ∈ (l.exch), (x.xid ≠ m.xid))))) ∧
  (∃ (i : LinkId) (xid : Fin 256) (s : State), (let l := s.lnk i; (let quar := l.st = .quarantine; (quar) ∧ (∃ x ∈ (l.exch), (x.xid ≠ xid.val))))) ∧
  (∃ (i : LinkId) (s : State), (let l := s.lnk i; (l.exch = none))) ∧
  (∃ (i : LinkId) (s : State), (let l := s.lnk i; (l.exch.isSome = true))) ∧
  (∃ (i : LinkId) (s : State), (let l := s.lnk i; (l.retryKey = false))) ∧
  (∃ (i : LinkId) (s : State), (let l := s.lnk i; (let quar := l.st = .quarantine; (l.retryKey = true) ∧ (quar)))) ∧
  (∃ (i : LinkId) (s : State), (let l := s.lnk i; (let quar := l.st = .quarantine; (l.retryKey = true) ∧ (¬ quar) ∧ (l.rollDue = true)))) ∧
  (∃ (i : LinkId) (s : State), (let l := s.lnk i; (let quar := l.st = .quarantine; (l.retryKey = true) ∧ (¬ quar) ∧ (l.rollDue = false)))) ∧
  (∃ (i : LinkId) (s : State), (let l := s.lnk i; (l.txCtr < 2 ^ 47) ∧ (l.txCctr < 2 ^ 47))) ∧
  (∃ (i : LinkId) (s : State), (let l := s.lnk i; (2 ^ 47 ≤ l.txCtr ∨ 2 ^ 47 ≤ l.txCctr))) ∧
  (∃ (i : LinkId) (s : State), (let l := s.lnk i; (l.carries = true) ∧ (2 ^ 48 - 2 ^ 16 ≤ l.txCtr ∨ 2 ^ 48 - 2 ^ 16 ≤ l.txCctr))) ∧
  (∃ (i : LinkId) (s : State), (let l := s.lnk i; (l.carries = false ∨ (l.txCtr < 2 ^ 48 - 2 ^ 16 ∧ l.txCctr < 2 ^ 48 - 2 ^ 16)))) :=
  ⟨⟨0, 3, 6, (BitVec.ofNat 64 (wordCrc 7 (rekeyPayload 5 3 0 6))), (exch { xch with sent := [(6, [])] }), by decide +kernel⟩,
   ⟨0, 3, (BitVec.ofNat 64 (wordCrc 7 (rekeyPayload 6 3 0 0))), 0, (exch { xch with received := [1, 3, 4] }), by decide +kernel⟩,
   ⟨0, 3, (BitVec.ofNat 64 (wordCrc 7 (rekeyPayload 6 3 0 0))), 0, (exch { xch with received := [1, 3, 4], acked := [6] }), by decide +kernel⟩,
   ⟨0, 3, (BitVec.ofNat 64 (wordCrc 7 (rekeyPayload 7 3 0 0))), (exch xch), by decide +kernel⟩,
   ⟨0, ⟨4, []⟩, (exch xch), by decide +kernel⟩,
   ⟨0, 4, (exch xch), by decide +kernel⟩,
   ⟨0, State.reset, by decide +kernel⟩,
   ⟨0, (exch xch), by decide +kernel⟩,
   ⟨0, State.reset, by decide +kernel⟩,
   ⟨0, (lnkAs { inSt .quarantine with retryKey := true }), by decide +kernel⟩,
   ⟨0, (lnkAs { inSt .active with retryKey := true, txCtr := 2 ^ 47 }), by decide +kernel⟩,
   ⟨0, (lnkAs { inSt .active with retryKey := true, txCtr := 2 ^ 47 - 1 }), by decide +kernel⟩,
   ⟨0, (lnkAs { inSt .active with txCtr := 2 ^ 47 - 1, txCctr := 2 ^ 47 - 1 }), by decide +kernel⟩,
   ⟨0, (lnkAs { inSt .active with txCctr := 2 ^ 47 }), by decide +kernel⟩,
   ⟨0, (lnkAs { inSt .active with txCtr := 2 ^ 48 - 2 ^ 16 }), by decide +kernel⟩,
   ⟨0, fid1, by decide +kernel⟩⟩

/-- The hypotheses of each clause of `Obligations.CustodianRequests` are met. -/
theorem witness_CustodianRequests :
  (∃ (r : Fin 16) (s : State), (s.cus.ready = true) ∧ (s.cus.queue.length < 16) ∧ (∃ d ∈ (s.startable 0 r), (d.type = 9) ∧ (s.startStatus d = none) ∧ (s.prioBlocked 0 r = false) ∧ (d.cmd = 0x400) ∧ (d.fld 56 4 = 0 ∨ 1024 < d.fld 56 4))) ∧
  (∃ (r : Fin 16) (s : State), (s.cus.ready = true) ∧ (s.cus.queue.length < 16) ∧ (∃ d ∈ (s.startable 0 r), (d.type = 9) ∧ (s.startStatus d = none) ∧ (s.prioBlocked 0 r = false) ∧ (d.cmd = 0x400) ∧ (1 ≤ d.fld 56 4) ∧ (d.fld 56 4 ≤ 1024) ∧ (¬ (s.drbgUp = true)))) ∧
  (∃ (r : Fin 16) (s : State), (s.cus.ready = true) ∧ (s.cus.queue.length < 16) ∧ (∃ d ∈ (s.startable 0 r), (d.type = 9) ∧ (s.startStatus d = none) ∧ (s.prioBlocked 0 r = false) ∧ (d.cmd = 0x400) ∧ (1 ≤ d.fld 56 4) ∧ (d.fld 56 4 ≤ 1024) ∧ (s.drbgUp = true))) ∧
  (∃ (r : Fin 16) (s : State), (s.cus.ready = true) ∧ (s.cus.queue.length < 16) ∧ (∃ d ∈ (s.startable 0 r), (let n := d.arg0 % 256; (d.type = 9) ∧ (s.startStatus d = none) ∧ (s.prioBlocked 0 r = false) ∧ (d.cmd = 0x401) ∧ (n < 16)))) ∧
  (∃ (r : Fin 16) (ok : Bool) (s : State), (let root := s.cus.dbg.testRoot; (s.cus.ready = true) ∧ (s.cus.queue.length < 16) ∧ (∃ d ∈ (s.startable 0 r), (let n := d.arg0 % 256; (let k := s.keySlot n; (d.type = 9) ∧ (s.startStatus d = none) ∧ (s.prioBlocked 0 r = false) ∧ (d.cmd = 0x401) ∧ (16 ≤ n) ∧ (k.current.used = true) ∧ (k.bad = false) ∧ (k.current.rootTest = root) ∧ (ok = false)))))) ∧
  (∃ (r : Fin 16) (s : State), (s.cus.ready = true) ∧ (s.cus.queue.length < 16) ∧ (∃ d ∈ (s.startable 0 r), (let n := d.arg0 % 256; (let k := s.keySlot n; (d.type = 9) ∧ (s.startStatus d = none) ∧ (s.prioBlocked 0 r = false) ∧ (d.cmd = 0x401) ∧ (16 ≤ n) ∧ (k.current.used = false) ∧ (k.bad = false))))) ∧
  (∃ (r : Fin 16) (s : State), (s.cus.ready = true) ∧ (s.cus.queue.length < 16) ∧ (∃ d ∈ (s.startable 0 r), (let n := d.arg0 % 256; (d.type = 9) ∧ (s.startStatus d = none) ∧ (s.prioBlocked 0 r = false) ∧ (d.cmd = 0x402) ∧ (n < 16)))) ∧
  (∃ (r : Fin 16) (s : State), (s.cus.ready = true) ∧ (s.cus.queue.length < 16) ∧ (∃ d ∈ (s.startable 0 r), (let n := d.arg0 % 256; (d.type = 9) ∧ (s.startStatus d = none) ∧ (s.prioBlocked 0 r = false) ∧ (d.cmd = 0x402) ∧ (16 ≤ n) ∧ (slotKind (bits d.arg0 15 8) (bits d.arg0 23 16) = false)))) ∧
  (∃ (r : Fin 16) (s : State), (s.cus.ready = true) ∧ (s.cus.queue.length < 16) ∧ (∃ d ∈ (s.startable 0 r), (let n := d.arg0 % 256; (d.type = 9) ∧ (s.startStatus d = none) ∧ (s.prioBlocked 0 r = false) ∧ (d.cmd = 0x402) ∧ (16 ≤ n) ∧ (slotKind (bits d.arg0 15 8) (bits d.arg0 23 16) = true) ∧ (s.drbgUp = true) ∧ (s.slotFree n ≠ 0)))) ∧
  (∃ (r : Fin 16) (s : State), (s.cus.ready = true) ∧ (s.cus.queue.length < 16) ∧ (∃ d ∈ (s.startable 0 r), (let n := d.arg0 % 256; (d.type = 9) ∧ (s.startStatus d = none) ∧ (s.prioBlocked 0 r = false) ∧ (d.cmd = 0x402) ∧ (16 ≤ n) ∧ (slotKind (bits d.arg0 15 8) (bits d.arg0 23 16) = true) ∧ (s.drbgUp = true) ∧ (s.slotFree n = 0)))) ∧
  (∃ (r : Fin 16) (s : State), (s.cus.ready = true) ∧ (s.cus.queue.length < 16) ∧ (∃ d ∈ (s.startable 0 r), (let n := d.arg0 % 256; (d.type = 9) ∧ (s.startStatus d = none) ∧ (s.prioBlocked 0 r = false) ∧ (d.cmd = 0x402) ∧ (16 ≤ n) ∧ (slotKind (bits d.arg0 15 8) (bits d.arg0 23 16) = true) ∧ (s.cus.es = .failed)))) ∧
  (∃ (r : Fin 16) (s : State), (s.cus.ready = true) ∧ (s.cus.queue.length < 16) ∧ (∃ d ∈ (s.startable 0 r), (let n := d.arg0 % 256; (d.type = 9) ∧ (s.startStatus d = none) ∧ (s.prioBlocked 0 r = false) ∧ (d.cmd = 0x402) ∧ (16 ≤ n) ∧ (slotKind (bits d.arg0 15 8) (bits d.arg0 23 16) = true) ∧ (¬ (s.drbgUp = true)) ∧ (s.cus.es ≠ .failed)))) ∧
  (∃ (r : Fin 16) (s : State), (s.cus.ready = true) ∧ (s.cus.queue.length < 16) ∧ (∃ d ∈ (s.startable 0 r), (let n := d.arg0 % 256; (d.type = 9) ∧ (s.startStatus d = none) ∧ (s.prioBlocked 0 r = false) ∧ (d.cmd = 0x403) ∧ (n < 16)))) ∧
  (∃ (r : Fin 16) (s : State), (s.cus.ready = true) ∧ (s.cus.queue.length < 16) ∧ (∃ d ∈ (s.startable 0 r), (let n := d.arg0 % 256; (d.type = 9) ∧ (s.startStatus d = none) ∧ (s.prioBlocked 0 r = false) ∧ (d.cmd = 0x403) ∧ (16 ≤ n) ∧ (s.drbgUp = true) ∧ (s.slotFree n ≠ 0)))) ∧
  (∃ (r : Fin 16) (ok : Bool) (s : State), (s.cus.ready = true) ∧ (s.cus.queue.length < 16) ∧ (∃ d ∈ (s.startable 0 r), (let n := d.arg0 % 256; (d.type = 9) ∧ (s.startStatus d = none) ∧ (s.prioBlocked 0 r = false) ∧ (let s0 := s.modDesc d.id fun x => { x with st := .running }; (d.cmd = 0x403) ∧ (16 ≤ n) ∧ (let b := s0.mgmtIn d; (let type := imgField b 0 1; (let usage := imgField b 1 1; (s.drbgUp = true) ∧ (s.slotFree n = 0) ∧ (¬ (ok = true ∧ slotKind type usage = true ∧ imgField b 2 2 = 0))))))))) ∧
  (∃ (r : Fin 16) (ok : Bool) (s : State), (s.cus.ready = true) ∧ (s.cus.queue.length < 16) ∧ (∃ d ∈ (s.startable 0 r), (let n := d.arg0 % 256; (d.type = 9) ∧ (s.startStatus d = none) ∧ (s.prioBlocked 0 r = false) ∧ (let s0 := s.modDesc d.id fun x => { x with st := .running }; (d.cmd = 0x403) ∧ (16 ≤ n) ∧ (let b := s0.mgmtIn d; (let type := imgField b 0 1; (let usage := imgField b 1 1; (s.drbgUp = true) ∧ (s.slotFree n = 0) ∧ (ok = true) ∧ (slotKind type usage = true) ∧ (imgField b 2 2 = 0)))))))) ∧
  (∃ (r : Fin 16) (s : State), (s.cus.ready = true) ∧ (s.cus.queue.length < 16) ∧ (∃ d ∈ (s.startable 0 r), (let n := d.arg0 % 256; (d.type = 9) ∧ (s.startStatus d = none) ∧ (s.prioBlocked 0 r = false) ∧ (d.cmd = 0x403) ∧ (16 ≤ n) ∧ (s.cus.es = .failed)))) ∧
  (∃ (r : Fin 16) (s : State), (s.cus.ready = true) ∧ (s.cus.queue.length < 16) ∧ (∃ d ∈ (s.startable 0 r), (let n := d.arg0 % 256; (d.type = 9) ∧ (s.startStatus d = none) ∧ (s.prioBlocked 0 r = false) ∧ (d.cmd = 0x404) ∧ (n < 16)))) ∧
  (∃ (r : Fin 16) (s : State), (let root := s.cus.dbg.testRoot; (s.cus.ready = true) ∧ (s.cus.queue.length < 16) ∧ (∃ d ∈ (s.startable 0 r), (let n := d.arg0 % 256; (let k := s.keySlot n; (d.type = 9) ∧ (s.startStatus d = none) ∧ (s.prioBlocked 0 r = false) ∧ (d.cmd = 0x404) ∧ (16 ≤ n) ∧ (k.current.used = true) ∧ (k.bad = false) ∧ (k.current.rootTest ≠ root)))))) ∧
  (∃ (r : Fin 16) (ok : Bool) (s : State), (let root := s.cus.dbg.testRoot; (s.cus.ready = true) ∧ (s.cus.queue.length < 16) ∧ (∃ d ∈ (s.startable 0 r), (let n := d.arg0 % 256; (let k := s.keySlot n; (d.type = 9) ∧ (s.startStatus d = none) ∧ (s.prioBlocked 0 r = false) ∧ (d.cmd = 0x404) ∧ (16 ≤ n) ∧ (k.current.used = false ∨ k.bad = true ∨ k.current.rootTest = root) ∧ (ok = true)))))) ∧
  (∃ (r : Fin 16) (ok : Bool) (s : State), (let root := s.cus.dbg.testRoot; (s.cus.ready = true) ∧ (s.cus.queue.length < 16) ∧ (∃ d ∈ (s.startable 0 r), (let n := d.arg0 % 256; (let k := s.keySlot n; (d.type = 9) ∧ (s.startStatus d = none) ∧ (s.prioBlocked 0 r = false) ∧ (d.cmd = 0x404) ∧ (16 ≤ n) ∧ (k.current.used = false ∨ k.bad = true ∨ k.current.rootTest = root) ∧ (ok = false)))))) ∧
  (∃ (r : Fin 16) (s : State), (s.cus.ready = true) ∧ (s.cus.queue.length < 16) ∧ (∃ d ∈ (s.startable 0 r), (d.type = 9) ∧ (s.startStatus d = none) ∧ (s.prioBlocked 0 r = false) ∧ (d.cmd = 0x405) ∧ (1 < d.arg0))) ∧
  (∃ (r : Fin 16) (s : State), (s.cus.ready = true) ∧ (s.cus.queue.length < 16) ∧ (∃ d ∈ (s.startable 0 r), (d.type = 9) ∧ (s.startStatus d = none) ∧ (s.prioBlocked 0 r = false) ∧ (d.cmd = 0x405) ∧ (d.arg0 ≤ 1) ∧ (s.cus.certs = true))) :=
  ⟨⟨0, (ask9 0x400 0 1025 (withCus cusUp)), by decide +kernel⟩,
   ⟨0, (ask9 0x400 0 1024 (withCus { cusUp with es := .failed })), by decide +kernel⟩,
   ⟨0, (ask9 0x400 0 1024 (withCus cusUp)), by decide +kernel⟩,
   ⟨0, (ask9 0x401 15 64 (withCus cusUp)), by decide +kernel⟩,
   ⟨0, false, ((ask9 0x401 16 64 (withCus cusUp)).setKeySlot 16 usedSlot), by decide +kernel⟩,
   ⟨0, (ask9 0x401 255 64 (withCus cusUp)), by decide +kernel⟩,
   ⟨0, (ask9 0x402 15 0 (withCus cusUp)), by decide +kernel⟩,
   ⟨0, (ask9 0x402 0x0510 0 (withCus cusUp)), by decide +kernel⟩,
   ⟨0, ((ask9 0x402 0x0F0410 0 (withCus cusUp)).setKeySlot 16 usedSlot), by decide +kernel⟩,
   ⟨0, (ask9 0x402 0x0F0410 0 (withCus cusUp)), by decide +kernel⟩,
   ⟨0, (ask9 0x402 0x0F0410 0 (withCus { cusUp with es := .failed })), by decide +kernel⟩,
   ⟨0, (ask9 0x402 0x0F0410 0 (withCus { cusUp with es := .retest })), by decide +kernel⟩,
   ⟨0, (ask9 0x403 15 0 (withCus cusUp)), by decide +kernel⟩,
   ⟨0, ((ask9 0x403 16 0 (withCus cusUp)).setKeySlot 16 usedSlot), by decide +kernel⟩,
   ⟨0, true, (ask9 0x403 16 0 (withCus cusUp)), by decide +kernel⟩,
   ⟨0, true, ((put 0 9 [(192, 0x403), (224, 16), (320, 8)] (withCus cusUp)).hostWrite 0 0 [1]), by decide +kernel⟩,
   ⟨0, (ask9 0x403 16 0 (withCus { cusUp with es := .failed })), by decide +kernel⟩,
   ⟨0, (ask9 0x404 15 0 (withCus cusUp)), by decide +kernel⟩,
   ⟨0, ((ask9 0x404 16 0 (withCus { cusUp with dbg := .debug })).setKeySlot 16 usedSlot), by decide +kernel⟩,
   ⟨0, true, (ask9 0x404 16 0 (withCus cusUp)), by decide +kernel⟩,
   ⟨0, false, ((ask9 0x404 16 0 (withCus cusUp)).setKeySlot 16 usedSlot), by decide +kernel⟩,
   ⟨0, (ask9 0x405 2 0 (withCus cusUp)), by decide +kernel⟩,
   ⟨0, (ask9 0x405 1 0 (withCus { cusUp with certs := true })), by decide +kernel⟩⟩

/-- The hypotheses of each clause of `Obligations.CustodianRequests` are met, continued. -/
theorem witness_CustodianRequests_2 :
  (∃ (r : Fin 16) (s : State), (s.cus.ready = true) ∧ (s.cus.queue.length < 16) ∧ (∃ d ∈ (s.startable 0 r), (d.type = 9) ∧ (s.startStatus d = none) ∧ (s.prioBlocked 0 r = false) ∧ (d.cmd = 0x405) ∧ (d.arg0 ≤ 1) ∧ (s.cus.certs = false))) ∧
  (∃ (r : Fin 16) (s : State), (s.cus.ready = true) ∧ (s.cus.queue.length < 16) ∧ (∃ d ∈ (s.startable 0 r), (d.type = 9) ∧ (s.startStatus d = none) ∧ (s.prioBlocked 0 r = false) ∧ (d.cmd = 0x406) ∧ (¬ (s.drbgUp = true)))) ∧
  (∃ (r : Fin 16) (s : State), (s.cus.ready = true) ∧ (s.cus.queue.length < 16) ∧ (∃ d ∈ (s.startable 0 r), (d.type = 9) ∧ (s.startStatus d = none) ∧ (s.prioBlocked 0 r = false) ∧ (d.cmd = 0x406) ∧ (s.drbgUp = true))) ∧
  (∃ (r : Fin 16) (s : State), (let root := s.cus.dbg.testRoot; (s.cus.ready = true) ∧ (s.cus.queue.length < 16) ∧ (∃ d ∈ (s.startable 0 r), (d.type = 9) ∧ (s.startStatus d = none) ∧ (s.prioBlocked 0 r = false) ∧ (d.cmd = 0x407) ∧ (root = true)))) ∧
  (∃ (r : Fin 16) (ok : Bool) (s : State), (let root := s.cus.dbg.testRoot; (s.cus.ready = true) ∧ (s.cus.queue.length < 16) ∧ (∃ d ∈ (s.startable 0 r), (d.type = 9) ∧ (s.startStatus d = none) ∧ (s.prioBlocked 0 r = false) ∧ (d.cmd = 0x407) ∧ (root = false) ∧ (ok = true) ∧ (s.cus.nonce.isSome = true)))) ∧
  (∃ (r : Fin 16) (ok : Bool) (nonce : Nat) (s : State), (let root := s.cus.dbg.testRoot; (s.cus.ready = true) ∧ (s.cus.queue.length < 16) ∧ (∃ d ∈ (s.startable 0 r), (d.type = 9) ∧ (s.startStatus d = none) ∧ (s.prioBlocked 0 r = false) ∧ (d.cmd = 0x407) ∧ (root = false) ∧ (ok = false ∨ s.cus.nonce ≠ some nonce)))) ∧
  (∃ (r : Fin 16) (s : State), (s.cus.ready = true) ∧ (s.cus.queue.length < 16) ∧ (∃ d ∈ (s.startable 0 r), (d.type = 9) ∧ (s.startStatus d = none) ∧ (s.prioBlocked 0 r = false) ∧ (d.cmd = 0x408) ∧ (s.cus.dbg = .debug))) ∧
  (∃ (r : Fin 16) (s : State), (s.cus.ready = true) ∧ (s.cus.queue.length < 16) ∧ (∃ d ∈ (s.startable 0 r), (d.type = 9) ∧ (s.startStatus d = none) ∧ (s.prioBlocked 0 r = false) ∧ (d.cmd = 0x408) ∧ (s.cus.dbg = .debugPending))) ∧
  (∃ (r : Fin 16) (s : State), (s.cus.ready = true) ∧ (s.cus.queue.length < 16) ∧ (∃ d ∈ (s.startable 0 r), (d.type = 9) ∧ (s.startStatus d = none) ∧ (s.prioBlocked 0 r = false) ∧ (d.cmd = 0x408) ∧ (s.cus.dbg = .production ∨ s.cus.dbg = .returnPending))) ∧
  (∃ (s : State), (s.cus.ready = false)) ∧
  (∃ (s : State), (s.cus.ready = true)) ∧
  (∃ (s : State), (s.cus.testing = false)) ∧
  (∃ (ok : Bool) (s : State), (s.cus.testing = true) ∧ (ok = false)) ∧
  (∃ (ok : Bool) (s : State), (s.cus.testing = true) ∧ (ok = true)) ∧
  (∃ (s : State), (s.drbgUp = true)) ∧
  (∃ (s : State), (s.cus.testing = true) ∧ (s.cus.es = .startup ∨ s.cus.es = .retest)) ∧
  (∃ (s : State), (s.cus.testing = false) ∧ (s.cus.es ≠ .ready)) ∧
  (∃ (s : State), (s.cus.es = .retest)) ∧
  (∃ (s : State), (s.cus.es ≠ .retest)) ∧
  (∃ (s : State), (s.drbgUp = true) ∧ (2 ^ 20 ≤ s.cus.reqs)) ∧
  (∃ (s : State), (¬ (s.drbgUp = true) ∨ s.cus.reqs < 2 ^ 20)) ∧
  (∃ (s : State), (s.drbgUp = true) ∧ (s.cus.certs = false)) ∧
  (∃ (s : State), (¬ (s.drbgUp = true) ∨ s.cus.certs = true)) :=
  ⟨⟨0, (ask9 0x405 0 0 (withCus cusUp)), by decide +kernel⟩,
   ⟨0, (ask9 0x406 0 32 (withCus { cusUp with es := .startup })), by decide +kernel⟩,
   ⟨0, (ask9 0x406 0 32 (withCus cusUp)), by decide +kernel⟩,
   ⟨0, (ask9 0x407 0 0 (withCus { cusUp with dbg := .debug })), by decide +kernel⟩,
   ⟨0, true, (ask9 0x407 0 0 (withCus { cusUp with nonce := some 9 })), by decide +kernel⟩,
   ⟨0, true, 8, (ask9 0x407 0 0 (withCus { cusUp with nonce := some 9 })), by decide +kernel⟩,
   ⟨0, (ask9 0x408 0 0 (withCus { cusUp with dbg := .debug })), by decide +kernel⟩,
   ⟨0, (ask9 0x408 0 0 (withCus { cusUp with dbg := .debugPending })), by decide +kernel⟩,
   ⟨0, (ask9 0x408 0 0 (withCus cusUp)), by decide +kernel⟩,
   ⟨State.reset, by decide +kernel⟩,
   ⟨(withCus cusUp), by decide +kernel⟩,
   ⟨State.reset, by decide +kernel⟩,
   ⟨false, (withCus { cusUp with testing := true }), by decide +kernel⟩,
   ⟨true, (withCus { cusUp with testing := true }), by decide +kernel⟩,
   ⟨(withCus cusUp), by decide +kernel⟩,
   ⟨(withCus { cusUp with testing := true, es := .startup }), by decide +kernel⟩,
   ⟨State.reset, by decide +kernel⟩,
   ⟨(withCus { cusUp with es := .retest }), by decide +kernel⟩,
   ⟨State.reset, by decide +kernel⟩,
   ⟨(withCus { cusUp with reqs := 2 ^ 20 }), by decide +kernel⟩,
   ⟨(withCus { cusUp with reqs := 2 ^ 20 - 1 }), by decide +kernel⟩,
   ⟨(withCus cusUp), by decide +kernel⟩,
   ⟨State.reset, by decide +kernel⟩⟩

/-- The hypotheses of each clause of `Obligations.HostRings` are met. -/
theorem witness_HostRings :
  (∃ (fn : FnId) (s : State), (¬ (s.hostOn fn = true))) ∧
  (∃ (fn : FnId) (r : Fin 16) (s : State), (let sq := s.reg (kSqCfg fn r); (s.hostOn fn = true) ∧ (bitAt sq 31 = true))) ∧
  (∃ (fn : FnId) (r : Fin 16) (s : State), (let sq := s.reg (kSqCfg fn r); (s.hostOn fn = true) ∧ (bitAt sq 31 = false))) ∧
  (∃ (fn : FnId) (r : Fin 16) (v : W32) (s : State), (let cq := s.reg (kCqCfg fn r); (s.hostOn fn = true) ∧ (bitAt cq 31 = true) ∧ (bitAt v.toNat 31 = true ∨ s.cqUsed fn r = true ∨ (s.cq fn r).waiting ≠ []))) ∧
  (∃ (fn : FnId) (r : Fin 16) (v : W32) (s : State), (let cq := s.reg (kCqCfg fn r); (s.hostOn fn = true) ∧ (bitAt cq 31 = true) ∧ (bitAt v.toNat 31 = false) ∧ (s.cqUsed fn r = false) ∧ ((s.cq fn r).waiting = []))) ∧
  (∃ (fn : FnId) (r : Fin 16) (v : W32) (s : State), (let cq := s.reg (kCqCfg fn r); (s.hostOn fn = true) ∧ (bitAt cq 31 = false) ∧ (bitAt v.toNat 31 = false))) ∧
  (∃ (fn : FnId) (r : Fin 16) (v : W32) (s : State), (let cq := s.reg (kCqCfg fn r); (s.hostOn fn = true) ∧ (bitAt cq 31 = false) ∧ (bitAt v.toNat 31 = true) ∧ ((s.cq fn r).waiting = []))) ∧
  (∃ (fn : FnId) (r : Fin 16) (x : Fin 65536) (s : State), (let sq := s.reg (kSqCfg fn r); (s.hostOn fn = true) ∧ (bitAt sq 31 = true) ∧ (x.val < ringSize sq))) ∧
  (∃ (fn : FnId) (r : Fin 16) (x : Fin 65536) (s : State), (let sq := s.reg (kSqCfg fn r); (s.hostOn fn = true) ∧ (bitAt sq 31 = true) ∧ (ringSize sq ≤ x.val))) ∧
  (∃ (fn : FnId) (r : Fin 16) (s : State), (let sq := s.reg (kSqCfg fn r); (bitAt sq 31 = false))) ∧
  (∃ (fn : FnId) (r : Fin 16) (x : Fin 65536) (s : State), (let cq := s.reg (kCqCfg fn r); (s.hostOn fn = true) ∧ (bitAt cq 31 = true) ∧ (x.val < ringSize cq))) ∧
  (∃ (fn : FnId) (r : Fin 16) (x : Fin 65536) (s : State), (let cq := s.reg (kCqCfg fn r); (s.hostOn fn = true) ∧ (bitAt cq 31 = true) ∧ (ringSize cq ≤ x.val))) ∧
  (∃ (fn : FnId) (r : Fin 16) (s : State), (let cq := s.reg (kCqCfg fn r); (bitAt cq 31 = false))) ∧
  (∃ (fn : FnId) (r : Fin 16) (s : State), (let sq := s.reg (kSqCfg fn r); (let k := s.sq fn r; (let m := min 32 ((k.tail + ringSize sq - k.head) % ringSize sq); (s.hostOn fn = true) ∧ (bitAt sq 31 = true) ∧ (s.fetches fn = true) ∧ (0 < m) ∧ (s.waitingOf fn < 256))))) ∧
  (∃ (fn : FnId) (r : Fin 16) (s : State), (∃ d ∈ (s.startable fn r), (d.type = 0) ∧ (s.startStatus d = none) ∧ (s.prioBlocked fn r = false))) ∧
  (∃ (fn : FnId) (r : Fin 16) (s : State), (s.startable fn r = none)) ∧
  (∃ (fn : FnId) (r : Fin 16) (e : EngineId) (s : State), (s.copyEngine (fn - 1) e = true) ∧ (s.hasRoom e = true) ∧ (∃ d ∈ (s.startable fn r), (d.type = 4) ∧ (s.startStatus d = none) ∧ (s.prioBlocked fn r = false) ∧ (d.fld 24 1 = 0))) :=
  ⟨⟨32, (hostUp fid1), by decide +kernel⟩,
   ⟨1, 0, (hostUp (fid1.setReg (kSqCfg 1 0) 0x80000000)), by decide +kernel⟩,
   ⟨1, 0, (hostUp fid1), by decide +kernel⟩,
   ⟨1, 0, 0x80000000, (hostUp (fid1.setReg (kCqCfg 1 0) 0x80000000)), by decide +kernel⟩,
   ⟨1, 0, 0, (hostUp (fid1.setReg (kCqCfg 1 0) 0x80000000)), by decide +kernel⟩,
   ⟨1, 0, 0, (hostUp fid1), by decide +kernel⟩,
   ⟨1, 0, 0x80000000, (hostUp fid1), by decide +kernel⟩,
   ⟨1, 0, 15, (hostUp (fid1.setReg (kSqCfg 1 0) 0x80000004)), by decide +kernel⟩,
   ⟨1, 0, 16, (hostUp (fid1.setReg (kSqCfg 1 0) 0x80000004)), by decide +kernel⟩,
   ⟨1, 0, (hostUp fid1), by decide +kernel⟩,
   ⟨1, 0, 15, (hostUp (fid1.setReg (kCqCfg 1 0) 0x80000004)), by decide +kernel⟩,
   ⟨1, 0, 16, (hostUp (fid1.setReg (kCqCfg 1 0) 0x80000004)), by decide +kernel⟩,
   ⟨0, 0, (fid1.setCq 0 0 { Cq.reset with pend := 1 }), by decide +kernel⟩,
   ⟨0, 0, ((hostUp (fid1.setReg (kSqCfg 0 0) 0x80000004)).setSq 0 0 ⟨0, 1⟩), by decide +kernel⟩,
   ⟨1, 0, (put 1 0 [] fid1), by decide +kernel⟩,
   ⟨1, 0, fid1, by decide +kernel⟩,
   ⟨1, 0, 96, (put 1 4 [] fid1), by decide +kernel⟩⟩

/-- The hypotheses of each clause of `Obligations.HostRings` are met, continued. -/
theorem witness_HostRings_2 :
  (∃ (fn : FnId) (r : Fin 16) (e : EngineId) (s : State), (s.copyEngine (fn - 1) e = true) ∧ (s.hasRoom e = true) ∧ (∃ d ∈ (s.startable fn r), (d.type = 4) ∧ (s.startStatus d = none) ∧ (s.prioBlocked fn r = false) ∧ (d.fld 24 1 = 1))) ∧
  (∃ (fn : FnId) (e : EngineId) (s : State), (¬ (s.copyEngine (fn - 1) e = true ∧ s.hasRoom e = true))) ∧
  (∃ (fn : FnId) (s : State), (s.syncHeld fn = true)) ∧
  (∃ (fn : FnId) (r : Fin 16) (x : Fin 65536) (s : State), (s.syncHeld fn = false) ∧ (∃ d ∈ (s.startable fn r), (d.type = 5) ∧ (s.startStatus d = none) ∧ (s.prioBlocked fn r = false) ∧ (let s0 := s.modDesc d.id fun x => { x with st := .running }; (s0.descObj d = none)))) ∧
  (∃ (fn : FnId) (r : Fin 16) (x : Fin 65536) (s : State), (s.syncHeld fn = false) ∧ (∃ d ∈ (s.startable fn r), (d.type = 5) ∧ (s.startStatus d = none) ∧ (s.prioBlocked fn r = false) ∧ (let s0 := s.modDesc d.id fun x => { x with st := .running }; (∃ o ∈ (s0.descObj d), (o.fid = s.reg bFAB))))) ∧
  (∃ (fn : FnId) (r : Fin 16) (x : Fin 65536) (s : State), (s.syncHeld fn = false) ∧ (∃ d ∈ (s.startable fn r), (d.type = 6) ∧ (s.startStatus d = none) ∧ (s.prioBlocked fn r = false) ∧ (let s0 := s.modDesc d.id fun x => { x with st := .running }; (s0.descObj d = none)))) ∧
  (∃ (fn : FnId) (r : Fin 16) (x : Fin 65536) (s : State), (s.syncHeld fn = false) ∧ (∃ d ∈ (s.startable fn r), (d.type = 6) ∧ (s.startStatus d = none) ∧ (s.prioBlocked fn r = false) ∧ (let s0 := s.modDesc d.id fun x => { x with st := .running }; (∃ o ∈ (s0.descObj d), (o.fid ≠ s.reg bFAB))))) ∧
  (∃ (fn : FnId) (r : Fin 16) (x : Fin 65536) (s : State), (s.syncHeld fn = false) ∧ (∃ d ∈ (s.startable fn r), (d.type = 6) ∧ (s.startStatus d = none) ∧ (s.prioBlocked fn r = false) ∧ (let s0 := s.modDesc d.id fun x => { x with st := .running }; (∃ o ∈ (s0.descObj d), (o.fid = s.reg bFAB) ∧ (255 ≤ s0.hostWaiters))))) ∧
  (∃ (fn : FnId) (r : Fin 16) (x : Fin 65536) (s : State), (s.syncHeld fn = false) ∧ (∃ d ∈ (s.startable fn r), (d.type = 6) ∧ (s.startStatus d = none) ∧ (s.prioBlocked fn r = false) ∧ (let s0 := s.modDesc d.id fun x => { x with st := .running }; (∃ o ∈ (s0.descObj d), (o.fid = s.reg bFAB) ∧ (s0.hostWaiters < 255))))) ∧
  (∃ (n : Nat) (s : State), (s.desc n = none)) ∧
  (∃ (n : Nat) (s : State), (∃ d ∈ (s.desc n), (d.type = 6) ∧ (d.fld 40 4 ≠ 0) ∧ (d.st = .running) ∧ (d.asleep = false) ∧ (d.obj.isSome = true))) ∧
  (∃ (n : Nat) (s : State), (s.refOps.length ≤ n)) ∧
  (∃ (n : Nat) (s : State), (∃ y ∈ (s.refOps[n]?), (let a := s.hif y.fn 0x900 / 4096 * 4096 + 4 * y.entry; (let old := s.hostNat y.fn a 4; (old ≠ 0))))) ∧
  (∃ (n : Nat) (s : State), (∃ y ∈ (s.refOps[n]?), (let a := s.hif y.fn 0x900 / 4096 * 4096 + 4 * y.entry; (let old := s.hostNat y.fn a 4; (old = 0))))) ∧
  (∃ (n : Nat) (s : State), ((s.refOps[n]?).isSome = true)) ∧
  (∃ (fn : FnId) (r : Fin 16) (s : State), (let cq := s.reg (kCqCfg fn r); (0 < (s.cq fn r).pend) ∧ (bitAt cq 30 = false))) ∧
  (∃ (fn : FnId) (r : Fin 16) (s : State), (let cq := s.reg (kCqCfg fn r); ((s.cq fn r).pend = 0 ∨ bitAt cq 30 = true))) :=
  ⟨⟨1, 0, 96, (put 1 4 [(192, 1)] fid1), by decide +kernel⟩,
   ⟨1, 0, fid1, by decide +kernel⟩,
   ⟨1, (fid1.setPart 0 { bound with st := .rebinding }), by decide +kernel⟩,
   ⟨1, 0, 0, (put 1 5 [(224, 0x3FFF)] fid1), by decide +kernel⟩,
   ⟨1, 0, 0, (put 1 5 named (homed 1)), by decide +kernel⟩,
   ⟨1, 0, 0, (put 1 6 [(224, 0x3FFF)] fid1), by decide +kernel⟩,
   ⟨1, 0, 0, (put 1 6 named (homed 2)), by decide +kernel⟩,
   ⟨1, 0, 0, (crowd (put 1 6 named (homed 1))), by decide +kernel⟩,
   ⟨1, 0, 0, (put 1 6 named (homed 1)), by decide +kernel⟩,
   ⟨1, fid1, by decide +kernel⟩,
   ⟨1, ({ fid1 with descs := [⟨1, 1, 0, 0, raw 6 [(320, 1)], .running, false, some 0x3000, false, false⟩] }), by decide +kernel⟩,
   ⟨0, fid1, by decide +kernel⟩,
   ⟨0, ({ fid1 with refOps := [⟨1, 1, 0⟩], host := [(hostKey 1 0, 1)] }), by decide +kernel⟩,
   ⟨0, ({ fid1 with refOps := [⟨1, 1, 0⟩] }), by decide +kernel⟩,
   ⟨0, ({ fid1 with refOps := [⟨1, 1, 0⟩] }), by decide +kernel⟩,
   ⟨0, 0, (fid1.setCq 0 0 { Cq.reset with pend := 1 }), by decide +kernel⟩,
   ⟨0, 0, fid1, by decide +kernel⟩⟩

/-- The hypotheses of each clause of `Obligations.HostRings` are met, continued. -/
theorem witness_HostRings_3 :
  (∃ (fn : FnId) (r : Fin 16) (s : State), (let q := s.part (fn - 1); (∃ d ∈ (s.startable fn r), (d.type = 1) ∧ (s.startStatus d = none) ∧ (s.prioBlocked fn r = false) ∧ (q.loadable = true)))) ∧
  (∃ (p : PartId) (s : State), ((s.part p).loadable = false ∨ (s.part p).anchor = s.reg bFAB)) ∧
  (∃ (fn : FnId) (r : Fin 16) (s : State), (let q := s.part (fn - 1); (∃ d ∈ (s.startable fn r), (d.type = 2) ∧ (s.startStatus d = none) ∧ (s.prioBlocked fn r = false) ∧ (q.slotBusy (d.fld 24 1) = true)))) ∧
  (∃ (fn : FnId) (r : Fin 16) (s : State), (let q := s.part (fn - 1); (∃ d ∈ (s.startable fn r), (d.type = 2) ∧ (s.startStatus d = none) ∧ (s.prioBlocked fn r = false) ∧ (q.slotBusy (d.fld 24 1) = false) ∧ (q.image (d.fld 24 1) = none)))) ∧
  (∃ (fn : FnId) (r : Fin 16) (s : State), (let q := s.part (fn - 1); (∃ d ∈ (s.startable fn r), (d.type = 2) ∧ (s.startStatus d = none) ∧ (s.prioBlocked fn r = false) ∧ (q.slotBusy (d.fld 24 1) = false) ∧ (q.image (d.fld 24 1) ≠ none)))) ∧
  (∃ (p : PartId) (s : State), ((s.part p).anchor ≠ s.reg bFAB)) ∧
  (∃ (fn : FnId) (r : Fin 16) (s : State), (let q := s.part (fn - 1); (∃ d ∈ (s.startable fn r), (d.type = 3) ∧ (s.startStatus d = none) ∧ (s.prioBlocked fn r = false) ∧ (q.image (d.fld 24 1) = none)))) ∧
  (∃ (fn : FnId) (r : Fin 16) (s : State), (let q := s.part (fn - 1); (∃ d ∈ (s.startable fn r), (d.type = 3) ∧ (s.startStatus d = none) ∧ (s.prioBlocked fn r = false) ∧ (q.image (d.fld 24 1) ≠ none)))) ∧
  (∃ (p : PartId) (s : State), ((s.part p).anchor = s.reg bFAB)) ∧
  (∃ (fn : FnId) (s : State), (s.hostOn fn = true) ∧ (s.boot.pending = none)) ∧
  (∃ (s : State), (s.boot.pending ≠ none)) ∧
  (∃ (fn : FnId) (s : State), (s.hostOn fn = true) ∧ (s.boot.pending = none) ∧ (fn.val = 0 ∨ ((s.inst fn).tdi ≠ .locked ∧ (s.inst fn).tdi ≠ .run))) ∧
  (∃ (s : State), (s.boot.pending = none)) ∧
  (∃ (s : State), (s.boot.good = true) ∧ (s.boot.recovery = false)) ∧
  (∃ (s : State), (s.boot.good = false ∨ s.boot.recovery = true)) :=
  ⟨⟨1, 0, (put 1 1 [] (anch bound)), by decide +kernel⟩,
   ⟨0, (anch bound), by decide +kernel⟩,
   ⟨1, 0, (put 1 2 [] (anch { bound with launch := some lau })), by decide +kernel⟩,
   ⟨1, 0, (put 1 2 [] (anch bound)), by decide +kernel⟩,
   ⟨1, 0, (put 1 2 [] (anch { bound with images := [(0, some ⟨[], []⟩)] })), by decide +kernel⟩,
   ⟨0, fid1, by decide +kernel⟩,
   ⟨1, 0, (put 1 3 [] (anch bound)), by decide +kernel⟩,
   ⟨1, 0, (put 1 3 [] (anch { bound with images := [(0, some ⟨[], []⟩)] })), by decide +kernel⟩,
   ⟨0, (anch bound), by decide +kernel⟩,
   ⟨0, (hostUp fid1), by decide +kernel⟩,
   ⟨(due (hostUp fid1)), by decide +kernel⟩,
   ⟨0, (hostUp fid1), by decide +kernel⟩,
   ⟨State.reset, by decide +kernel⟩,
   ⟨(hostUp fid1), by decide +kernel⟩,
   ⟨State.reset, by decide +kernel⟩⟩

/-- The hypotheses of each clause of `Obligations.Instances` are met. -/
theorem witness_Instances :
  (∃ (r : Fin 16) (s : State), (∃ d ∈ (s.startable 0 r), (let i := s.inst d.target; (d.type = 8) ∧ (s.startStatus d = none) ∧ (s.prioBlocked 0 r = false) ∧ (d.mode = 0) ∧ (i.st = .absent)))) ∧
  (∃ (r : Fin 16) (s : State), (∃ d ∈ (s.startable 0 r), (let i := s.inst d.target; (d.type = 8) ∧ (s.startStatus d = none) ∧ (s.prioBlocked 0 r = false) ∧ (d.mode = 0) ∧ (i.st = .quiesced)))) ∧
  (∃ (r : Fin 16) (s : State), (∃ d ∈ (s.startable 0 r), (let i := s.inst d.target; (d.type = 8) ∧ (s.startStatus d = none) ∧ (s.prioBlocked 0 r = false) ∧ (d.mode = 0) ∧ (i.st ≠ .absent) ∧ (i.st ≠ .quiesced) ∧ (i.quiesce.isSome = true)))) ∧
  (∃ (r : Fin 16) (s : State), (∃ d ∈ (s.startable 0 r), (let i := s.inst d.target; (d.type = 8) ∧ (s.startStatus d = none) ∧ (s.prioBlocked 0 r = false) ∧ (d.mode = 0) ∧ (i.st ≠ .absent) ∧ (i.st ≠ .quiesced) ∧ (i.quiesce = none)))) ∧
  (∃ (r : Fin 16) (s : State), (∃ d ∈ (s.startable 0 r), (let i := s.inst d.target; (d.type = 8) ∧ (s.startStatus d = none) ∧ (s.prioBlocked 0 r = false) ∧ (d.mode = 1) ∧ (i.st = .absent)))) ∧
  (∃ (r : Fin 16) (s : State), (∃ d ∈ (s.startable 0 r), (let i := s.inst d.target; (d.type = 8) ∧ (s.startStatus d = none) ∧ (s.prioBlocked 0 r = false) ∧ (d.mode = 1) ∧ (i.st = .quiesced)))) ∧
  (∃ (r : Fin 16) (s : State), (∃ d ∈ (s.startable 0 r), (let i := s.inst d.target; (d.type = 8) ∧ (s.startStatus d = none) ∧ (s.prioBlocked 0 r = false) ∧ (d.mode = 1) ∧ (i.st ≠ .absent) ∧ (i.st ≠ .quiesced) ∧ (s.aborting d.target = true)))) ∧
  (∃ (r : Fin 16) (s : State), (∃ d ∈ (s.startable 0 r), (let i := s.inst d.target; (d.type = 8) ∧ (s.startStatus d = none) ∧ (s.prioBlocked 0 r = false) ∧ (d.mode = 1) ∧ (i.st ≠ .absent) ∧ (i.st ≠ .quiesced) ∧ (s.aborting d.target = false)))) ∧
  (∃ (r : Fin 16) (s : State), (∃ d ∈ (s.startable 0 r), (let i := s.inst d.target; (d.type = 8) ∧ (s.startStatus d = none) ∧ (s.prioBlocked 0 r = false) ∧ (d.mode = 2) ∧ (s.aborting d.target = false) ∧ (i.st = .absent)))) ∧
  (∃ (r : Fin 16) (s : State), (∃ d ∈ (s.startable 0 r), (let i := s.inst d.target; (d.type = 8) ∧ (s.startStatus d = none) ∧ (s.prioBlocked 0 r = false) ∧ (d.mode = 2) ∧ (s.aborting d.target = false) ∧ (i.st = .ready)))) ∧
  (∃ (r : Fin 16) (s : State), (∃ d ∈ (s.startable 0 r), (let i := s.inst d.target; (d.type = 8) ∧ (s.startStatus d = none) ∧ (s.prioBlocked 0 r = false) ∧ (d.mode = 2) ∧ (s.aborting d.target = false) ∧ (i.st = .quiescing ∨ i.st = .quiesced)))) ∧
  (∃ (v : Fin 33) (s : State), (let j := s.inst v; (j.quiesce = none))) ∧
  (∃ (v : Fin 33) (s : State), (let j := s.inst v; (v.val ≠ 0) ∧ (j.quiesce.isSome = true) ∧ (s.drainedInst v = false))) ∧
  (∃ (v : Fin 33) (s : State), (let j := s.inst v; (v.val ≠ 0) ∧ (∃ z ∈ (j.quiesce), (s.drainedInst v = true) ∧ (z.desc = none)))) ∧
  (∃ (v : Fin 33) (s : State), (let j := s.inst v; (v.val ≠ 0) ∧ (∃ z ∈ (j.quiesce), (s.drainedInst v = true) ∧ (z.desc.isSome = true)))) ∧
  (∃ (v : Fin 33) (s : State), (let j := s.inst v; (v.val ≠ 0) ∧ (∃ z ∈ (j.quiesce), (s.drainedInst v = false) ∧ (z.abort = false) ∧ (∃ y ∈ (z.desc), (∃ u ∈ (s.desc y), (u.fld 28 4 ≠ 0)))))) ∧
  (∃ (r : Fin 16) (s : State), (∃ d ∈ (s.startable 0 r), (let n := d.arg0 % 64; (d.type = 9) ∧ (s.startStatus d = none) ∧ (s.prioBlocked 0 r = false) ∧ (d.cmd = 0x100) ∧ (n = 0 ∨ 32 < n)))) ∧
  (∃ (r : Fin 16) (s : State), (∃ d ∈ (s.startable 0 r), (let n := d.arg0 % 64; (d.type = 9) ∧ (s.startStatus d = none) ∧ (s.prioBlocked 0 r = false) ∧ (d.cmd = 0x100) ∧ (1 ≤ n) ∧ (n ≤ 32) ∧ (s.pcie.vfs < n)))) :=
  ⟨⟨0, (quiet 0 (vf Inst.reset)), by decide +kernel⟩,
   ⟨0, (quiet 0 (vf { readyInst with st := .quiesced })), by decide +kernel⟩,
   ⟨0, (quiet 0 (vf { readyInst with st := .quiescing, quiesce := some ⟨false, none, 0⟩ })), by decide +kernel⟩,
   ⟨0, (quiet 0 (vf readyInst)), by decide +kernel⟩,
   ⟨0, (quiet 1 (vf Inst.reset)), by decide +kernel⟩,
   ⟨0, (quiet 1 (vf { readyInst with st := .quiesced })), by decide +kernel⟩,
   ⟨0, (quiet 1 (vf { readyInst with st := .quiescing, quiesce := some ⟨true, none, 0⟩ })), by decide +kernel⟩,
   ⟨0, (quiet 1 (vf readyInst)), by decide +kernel⟩,
   ⟨0, (quiet 2 (vf Inst.reset)), by decide +kernel⟩,
   ⟨0, (quiet 2 (vf readyInst)), by decide +kernel⟩,
   ⟨0, (quiet 2 (vf { readyInst with st := .quiesced })), by decide +kernel⟩,
   ⟨1, (vf readyInst), by decide +kernel⟩,
   ⟨1, ({ vf { readyInst with st := .quiescing, quiesce := some ⟨false, some 4, 0⟩ } with descs := [⟨5, 1, 0, 0, 0, .running, false, none, false, false⟩] }), by decide +kernel⟩,
   ⟨1, (vf { readyInst with st := .quiescing, quiesce := some ⟨false, none, 0⟩ }), by decide +kernel⟩,
   ⟨1, (vf { readyInst with st := .quiescing, quiesce := some ⟨false, some 4, 0⟩ }), by decide +kernel⟩,
   ⟨1, ({ vf { readyInst with st := .quiescing, quiesce := some ⟨false, some 4, 0⟩ } with descs := [⟨4, 0, 0, 0, raw 8 [(192, 1), (224, 5)], .running, false, none, false, false⟩, ⟨5, 1, 0, 0, raw 0 [], .running, false, none, false, false⟩] }), by decide +kernel⟩,
   ⟨0, (ask9 0x100 33 0 (vf Inst.reset)), by decide +kernel⟩,
   ⟨0, (ask9 0x100 32 0 (vf Inst.reset)), by decide +kernel⟩⟩

/-- The hypotheses of each clause of `Obligations.Instances` are met, continued. -/
theorem witness_Instances_2 :
  (∃ (r : Fin 16) (s : State), (∃ d ∈ (s.startable 0 r), (let n := d.arg0 % 64; (d.type = 9) ∧ (s.startStatus d = none) ∧ (s.prioBlocked 0 r = false) ∧ (d.cmd = 0x100) ∧ (1 ≤ n) ∧ (n ≤ 32) ∧ (n ≤ s.pcie.vfs) ∧ ((s.inst n).st ≠ .absent)))) ∧
  (∃ (r : Fin 16) (s : State), (∃ d ∈ (s.startable 0 r), (let n := d.arg0 % 64; (d.type = 9) ∧ (s.startStatus d = none) ∧ (s.prioBlocked 0 r = false) ∧ (d.cmd = 0x100) ∧ (1 ≤ n) ∧ (n ≤ 32) ∧ (n ≤ s.pcie.vfs) ∧ ((s.inst n).st = .absent)))) ∧
  (∃ (r : Fin 16) (s : State), (∃ d ∈ (s.startable 0 r), (d.type = 9) ∧ (s.startStatus d = none) ∧ (s.prioBlocked 0 r = false) ∧ (d.cmd = 0x101))) ∧
  (∃ (r : Fin 16) (s : State), (∃ d ∈ (s.startable 0 r), (let n := d.arg0 % 64; (d.type = 9) ∧ (s.startStatus d = none) ∧ (s.prioBlocked 0 r = false) ∧ (d.cmd = 0x101) ∧ (1 ≤ n) ∧ (n ≤ 32) ∧ ((s.inst n).st ≠ .quiesced)))) ∧
  (∃ (r : Fin 16) (s : State), (∃ d ∈ (s.startable 0 r), (d.type = 9) ∧ (s.startStatus d = none) ∧ (s.prioBlocked 0 r = false) ∧ (d.cmd = 0x102))) ∧
  (∃ (r : Fin 16) (s : State), (∃ d ∈ (s.startable 0 r), (let n := d.arg0 % 64; (d.type = 9) ∧ (s.startStatus d = none) ∧ (s.prioBlocked 0 r = false) ∧ (d.cmd = 0x103) ∧ (n = 0 ∨ 32 < n)))) ∧
  (∃ (r : Fin 16) (s : State), (∃ d ∈ (s.startable 0 r), (let n := d.arg0 % 64; (d.type = 9) ∧ (s.startStatus d = none) ∧ (s.prioBlocked 0 r = false) ∧ (d.cmd = 0x103) ∧ (1 ≤ n) ∧ (n ≤ 32)))) ∧
  (∃ (v : Fin 33) (s : State), (let j := s.inst v; (s.mbOn v v = true) ∧ (j.toMgr = true))) ∧
  (∃ (v : Fin 33) (s : State), (let j := s.inst v; (s.mbOn v v = true) ∧ (j.toMgr = false))) ∧
  (∃ (v : Fin 33) (s : State), (let j := s.inst v; (s.mbOn v v = true) ∧ (j.toInst = true))) ∧
  (∃ (v : Fin 33) (x : Fin 256) (s : State), (s.mbOn v v = true) ∧ (96 ≤ x.val % 128)) ∧
  (∃ (v : Fin 33) (x : Fin 256) (s : State), (let j := s.inst v; (s.mbOn v v = true) ∧ (x.val % 128 < 96) ∧ (j.held = []))) ∧
  (∃ (v : Fin 33) (s : State), (s.mbOn v v = false)) ∧
  (∃ (v : Fin 33) (s : State), (let j := s.inst v; (s.mbOn 0 v = true) ∧ (j.toInst = true))) ∧
  (∃ (v : Fin 33) (s : State), (let j := s.inst v; (s.mbOn 0 v = true) ∧ (j.toInst = false))) ∧
  (∃ (v : Fin 33) (s : State), (let j := s.inst v; (s.mbOn 0 v = true) ∧ (j.toMgr = true))) ∧
  (∃ (v : Fin 33) (s : State), (s.mbOn 0 v = false)) ∧
  (∃ (v : Fin 33) (s : State), (let j := s.inst v; (let c := j.req 0 2; (s.mbOn v v = true) ∧ (c = 0 ∨ 5 < c)))) :=
  ⟨⟨0, (ask9 0x100 1 0 (vf readyInst)), by decide +kernel⟩,
   ⟨0, (ask9 0x100 1 0 (vf Inst.reset)), by decide +kernel⟩,
   ⟨0, (ask9 0x101 1 0 (vf readyInst)), by decide +kernel⟩,
   ⟨0, (ask9 0x101 1 0 (vf readyInst)), by decide +kernel⟩,
   ⟨0, (ask9 0x102 0 0 (vf readyInst)), by decide +kernel⟩,
   ⟨0, (ask9 0x103 33 0 (vf readyInst)), by decide +kernel⟩,
   ⟨0, (ask9 0x103 32 0 (vf readyInst)), by decide +kernel⟩,
   ⟨1, (vf { readyInst with toMgr := true }), by decide +kernel⟩,
   ⟨1, (vf readyInst), by decide +kernel⟩,
   ⟨1, (vf { readyInst with toInst := true }), by decide +kernel⟩,
   ⟨1, 96, (vf readyInst), by decide +kernel⟩,
   ⟨1, 95, (vf readyInst), by decide +kernel⟩,
   ⟨1, (vf Inst.reset), by decide +kernel⟩,
   ⟨1, ({ vf { readyInst with toInst := true } with freeCtr := 1 }), by decide +kernel⟩,
   ⟨1, ({ vf readyInst with freeCtr := 1 }), by decide +kernel⟩,
   ⟨1, ({ vf { readyInst with toMgr := true } with freeCtr := 1 }), by decide +kernel⟩,
   ⟨1, (vf Inst.reset), by decide +kernel⟩,
   ⟨1, (vf (asks 6 0)), by decide +kernel⟩⟩

/-- The hypotheses of each clause of `Obligations.Instances` are met, continued. -/
theorem witness_Instances_3 :
  (∃ (v : Fin 33) (s : State), (let j := s.inst v; (let c := j.req 0 2; (s.mbOn v v = true ∧ c = 1 ∧ ∀ k < 128, reqReserved 1 k = true → j.req k 1 = 0) ∧ (∀ k < 256, k ∈ j.ctxs)))) ∧
  (∃ (v : Fin 33) (s : State), (let j := s.inst v; (let c := j.req 0 2; (s.mbOn v v = true ∧ c = 1 ∧ ∀ k < 128, reqReserved 1 k = true → j.req k 1 = 0) ∧ (∃ k < 256, (k ∉ j.ctxs) ∧ (∀ m < k, m ∈ j.ctxs))))) ∧
  (∃ (v : Fin 33) (s : State), (let j := s.inst v; (let c := j.req 0 2; (let h := j.req 8 2; (s.mbOn v v = true ∧ c = 2 ∧ ∀ k < 128, reqReserved 2 k = true → j.req k 1 = 0) ∧ (h ∉ j.ctxs))))) ∧
  (∃ (v : Fin 33) (s : State), (let j := s.inst v; (let c := j.req 0 2; (let h := j.req 8 2; (s.mbOn v v = true ∧ c = 2 ∧ ∀ k < 128, reqReserved 2 k = true → j.req k 1 = 0) ∧ (h ∈ j.ctxs) ∧ (∃ y ∈ s.descs, y.fn = v ∧ y.ctx = h))))) ∧
  (∃ (v : Fin 33) (s : State), (let j := s.inst v; (let c := j.req 0 2; (let h := j.req 8 2; (s.mbOn v v = true ∧ c = 2 ∧ ∀ k < 128, reqReserved 2 k = true → j.req k 1 = 0) ∧ (h ∈ j.ctxs) ∧ (∀ y ∈ s.descs, y.fn = v → y.ctx ≠ h))))) ∧
  (∃ (v : Fin 33) (s : State), (let j := s.inst v; (let c := j.req 0 2; (let h := j.req 8 2; (s.mbOn v v = true ∧ c = 3 ∧ ∀ k < 128, reqReserved 3 k = true → j.req k 1 = 0) ∧ (h ∉ j.ctxs))))) ∧
  (∃ (v : Fin 33) (s : State), (let j := s.inst v; (let c := j.req 0 2; (let h := j.req 8 2; (s.mbOn v v = true ∧ c = 3 ∧ ∀ k < 128, reqReserved 3 k = true → j.req k 1 = 0) ∧ (h ∈ j.ctxs) ∧ (s.boot.pending ≠ none))))) ∧
  (∃ (v : Fin 33) (s : State), (let j := s.inst v; (let c := j.req 0 2; (let h := j.req 8 2; (let q := s.part (v - 1); (s.mbOn v v = true ∧ c = 3 ∧ ∀ k < 128, reqReserved 3 k = true → j.req k 1 = 0) ∧ (h ∈ j.ctxs) ∧ (s.boot.pending = none) ∧ (q.rst.isSome = true)))))) ∧
  (∃ (v : Fin 33) (s : State), (let j := s.inst v; (let c := j.req 0 2; (let h := j.req 8 2; (let q := s.part (v - 1); (s.mbOn v v = true ∧ c = 3 ∧ ∀ k < 128, reqReserved 3 k = true → j.req k 1 = 0) ∧ (h ∈ j.ctxs) ∧ (s.boot.pending = none) ∧ (q.rst = none)))))) ∧
  (∃ (v : Fin 33) (s : State), (let j := s.inst v; (let c := j.req 0 2; (let q := s.part (v - 1); (s.mbOn v v = true ∧ c = 4 ∧ ∀ k < 128, reqReserved 4 k = true → j.req k 1 = 0) ∧ (q.catalogued = false))))) ∧
  (∃ (v : Fin 33) (ok : Bool) (s : State), (let j := s.inst v; (let c := j.req 0 2; (let q := s.part (v - 1); (s.mbOn v v = true ∧ c = 4 ∧ ∀ k < 128, reqReserved 4 k = true → j.req k 1 = 0) ∧ (q.catalogued = true) ∧ (ok = false ∨ s.hostShut v = true))))) ∧
  (∃ (v : Fin 33) (ok : Bool) (s : State), (let j := s.inst v; (let c := j.req 0 2; (let q := s.part (v - 1); (s.mbOn v v = true ∧ c = 4 ∧ ∀ k < 128, reqReserved 4 k = true → j.req k 1 = 0) ∧ (q.catalogued = true) ∧ (ok = true) ∧ (s.hostShut v = false))))) ∧
  (∃ (v : Fin 33) (s : State), (let j := s.inst v; (let c := j.req 0 2; (s.mbOn v v = true ∧ c = 5 ∧ ∀ k < 128, reqReserved 5 k = true → j.req k 1 = 0)))) ∧
  (∃ (s : State), (s.boot.ready = false)) ∧
  (∃ (w : W32) (s : State), (let f := bits w.toNat 21 16; (s.boot.ready = true) ∧ (f = 0 ∨ 32 < f ∨ w.toNat % 65536 ∉ (s.inst f).ctxs))) ∧
  (∃ (w : W32) (s : State), (let f := bits w.toNat 21 16; (s.boot.ready = true) ∧ (1 ≤ f) ∧ (f ≤ 32) ∧ (w.toNat % 65536 ∈ (s.inst f).ctxs) ∧ (s.boot.pending ≠ none))) ∧
  (∃ (w : W32) (s : State), (let f := bits w.toNat 21 16; (s.boot.ready = true) ∧ (1 ≤ f) ∧ (f ≤ 32) ∧ (w.toNat % 65536 ∈ (s.inst f).ctxs) ∧ (s.boot.pending = none) ∧ ((s.part (f - 1)).rst = none))) :=
  ⟨⟨1, (vf { asks 1 0 with ctxs := List.range 256 }), by decide +kernel⟩,
   ⟨1, (vf { asks 1 0 with ctxs := List.range 255 }), by decide +kernel⟩,
   ⟨1, (vf (asks 2 4)), by decide +kernel⟩,
   ⟨1, ({ vf (asks 2 3) with descs := [⟨5, 1, 0, 0, 3 * 2 ^ 16, .running, false, none, false, false⟩] }), by decide +kernel⟩,
   ⟨1, (vf (asks 2 3)), by decide +kernel⟩,
   ⟨1, (vf (asks 3 4)), by decide +kernel⟩,
   ⟨1, (due (vf (asks 3 3))), by decide +kernel⟩,
   ⟨1, ((vf (asks 3 3)).setPart 0 { bound with rst := some rset }), by decide +kernel⟩,
   ⟨1, (vf (asks 3 3)), by decide +kernel⟩,
   ⟨1, (vf (asks 4 0)), by decide +kernel⟩,
   ⟨1, false, ((vf (asks 4 0)).setPart 0 { bound with catalogue := [0] }), by decide +kernel⟩,
   ⟨1, true, ((vf (asks 4 0)).setPart 0 { bound with catalogue := [0] }), by decide +kernel⟩,
   ⟨1, (vf (asks 5 0)), by decide +kernel⟩,
   ⟨State.reset, by decide +kernel⟩,
   ⟨0x210003, (vf (asks 0 0)), by decide +kernel⟩,
   ⟨0x010003, (due (vf (asks 0 0))), by decide +kernel⟩,
   ⟨0x010003, (vf (asks 0 0)), by decide +kernel⟩⟩

/-- The hypotheses of each clause of `Obligations.SidebandManagement` are met. -/
theorem witness_SidebandManagement :
  (∃ (bus : Fin 2) (s : State), (¬ (s.mctpOn bus = true))) ∧
  (∃ (bus : Fin 2) (op : Fin 4) (eid : Fin 256) (s : State), (s.mctpOn bus = true) ∧ (2 ≤ op.val ∨ eid.val = 0 ∨ eid.val = 255)) ∧
  (∃ (bus : Fin 2) (op : Fin 4) (eid : Fin 256) (s : State), (s.mctpOn bus = true) ∧ (op.val < 2) ∧ (eid.val ≠ 0) ∧ (eid.val ≠ 255)) ∧
  (∃ (bus : Fin 2) (s : State), (s.mctpOn bus = true)) ∧
  (∃ (bus : Fin 2) (type : Fin 256) (s : State), (s.mctpOn bus = true) ∧ (type.val ∈ [0xFF, 0, 1, 5, 6, 0x7E])) ∧
  (∃ (bus : Fin 2) (type : Fin 256) (s : State), (s.mctpOn bus = true) ∧ (type.val ∉ [0xFF, 0, 1, 5, 6, 0x7E])) ∧
  (∃ (bus : Fin 2) (sel : Fin 256) (s : State), (s.mctpOn bus = true) ∧ (sel.val = 0)) ∧
  (∃ (bus : Fin 2) (sel : Fin 256) (s : State), (s.mctpOn bus = true) ∧ (sel.val ≠ 0)) ∧
  (∃ (bus : Fin 2) (s : State), (s.mctpOn bus = true) ∧ (s.boot.recovery = true)) ∧
  (∃ (bus : Fin 2) (session : Option (Fin 65536)) (s : State), (s.mctpOn bus = true) ∧ (s.boot.recovery = false) ∧ (s.mayWrite session = false)) ∧
  (∃ (bus : Fin 2) (session : Option (Fin 65536)) (head : List Byte) (bytes : List Byte) (total : Nat) (off : Nat) (s : State), (let o := ofBytes (head.take 1); (s.mctpOn bus = true) ∧ (s.boot.recovery = false) ∧ (s.mayWrite session = true) ∧ (o = 0 ∨ 5 < o ∨ head.length ≠ 24 ∨ 4000 < bytes.length ∨ total < off + bytes.length))) ∧
  (∃ (bus : Fin 2) (session : Option (Fin 65536)) (head : List Byte) (bytes : List Byte) (total : Nat) (off : Nat) (s : State), (let o := ofBytes (head.take 1); (s.mctpOn bus = true) ∧ (s.boot.recovery = false) ∧ (s.mayWrite session = true) ∧ (1 ≤ o) ∧ (o ≤ 5) ∧ (head.length = 24) ∧ (off + bytes.length ≤ total) ∧ (s.mcBind = none) ∧ (bytes.length ≤ 4000) ∧ (off = 0) ∧ (bytes.length = total))) ∧
  (∃ (bus : Fin 2) (session : Option (Fin 65536)) (head : List Byte) (bytes : List Byte) (total : Nat) (off : Nat) (s : State), (let o := ofBytes (head.take 1); (s.mctpOn bus = true) ∧ (s.boot.recovery = false) ∧ (s.mayWrite session = true) ∧ (1 ≤ o) ∧ (o ≤ 5) ∧ (head.length = 24) ∧ (off + bytes.length ≤ total) ∧ (s.mcBind = none) ∧ (bytes.length ≤ 4000) ∧ (bytes.length < total))) ∧
  (∃ (bus : Fin 2) (s : State), (s.mctpOn bus = true) ∧ (s.boot.recovery = false)) ∧
  (∃ (seq : Fin 256) (s : State), (∃ e ∈ s.events, (e.seq = seq.val) ∧ (∀ x ∈ s.events, x.seq = seq.val → x = e) ∧ (s.fmValid = true))) ∧
  (∃ (seq : Fin 256) (s : State), ((∀ e ∈ s.events, e.seq ≠ seq.val) ∨ s.fmValid = false)) ∧
  (∃ (r : Fin 16) (s : State), (∃ d ∈ (s.startable 0 r), (d.type = 9) ∧ (s.startStatus d = none) ∧ (s.prioBlocked 0 r = false) ∧ (d.cmd = 1))) ∧
  (∃ (len : Fin 256) (arg : W32), (let n := len.val; (let c := bits arg.toNat 31 24; (n = 0 ∨ 128 < n ∨ 256 < arg.toNat % 256 + n ∨ 24 ≤ c)))) ∧
  (∃ (len : Fin 256) (arg : W32) (s : State), (let n := len.val; (let c := bits arg.toNat 31 24; (1 ≤ n) ∧ (n ≤ 128) ∧ (arg.toNat % 256 + n ≤ 256) ∧ (c < 24) ∧ ((s.cage c).pow ≠ .on)))) ∧
  (∃ (len : Fin 256) (arg : W32) (got : Option (List Byte)) (s : State), (let n := len.val; (let c := bits arg.toNat 31 24; (1 ≤ n) ∧ (n ≤ 128) ∧ (arg.toNat % 256 + n ≤ 256) ∧ (c < 24) ∧ ((s.cage c).pow = .on) ∧ (got = none)))) ∧
  (∃ (len : Fin 256) (arg : W32) (got : Option (List Byte)) (s : State), (let n := len.val; (let c := bits arg.toNat 31 24; (1 ≤ n) ∧ (n ≤ 128) ∧ (arg.toNat % 256 + n ≤ 256) ∧ (c < 24) ∧ ((s.cage c).pow = .on) ∧ (∃ bs ∈ (got), (n ≤ bs.length))))) :=
  ⟨⟨0, State.reset, by decide +kernel⟩,
   ⟨0, 2, 8, mctp, by decide +kernel⟩,
   ⟨0, 1, 254, mctp, by decide +kernel⟩,
   ⟨0, mctp, by decide +kernel⟩,
   ⟨0, 0x7E, mctp, by decide +kernel⟩,
   ⟨0, 2, mctp, by decide +kernel⟩,
   ⟨0, 0, mctp, by decide +kernel⟩,
   ⟨0, 1, mctp, by decide +kernel⟩,
   ⟨0, (recov FwSt.reset), by decide +kernel⟩,
   ⟨0, none, (mctp.setReg (hifKey 0 (bHIF + 0x800)) 3), by decide +kernel⟩,
   ⟨0, none, (zs 24), [], 0, 0, mctp, by decide +kernel⟩,
   ⟨0, none, (5 :: zs 23), [1], 1, 0, mctp, by decide +kernel⟩,
   ⟨0, none, (5 :: zs 23), [1], 2, 0, mctp, by decide +kernel⟩,
   ⟨0, mctp, by decide +kernel⟩,
   ⟨4, ({ State.reset.setReg (hifKey 0 (bHIF + 0x804)) 0x100 with events := [⟨4, 1, 0, 0, 1⟩] }), by decide +kernel⟩,
   ⟨4, (State.reset.setReg (hifKey 0 (bHIF + 0x804)) 0x100), by decide +kernel⟩,
   ⟨0, (ask9 1 0 0 (withCus cusUp)), by decide +kernel⟩,
   ⟨1, 0x18000000, by decide +kernel⟩,
   ⟨128, 0x80, State.reset, by decide +kernel⟩,
   ⟨128, 0x80, none, (cag (fed .on)), by decide +kernel⟩,
   ⟨128, 0x80, (some (zs 128)), (cag (fed .on)), by decide +kernel⟩⟩

/-- The hypotheses of each clause of `Obligations.SpdmRequests` are met. -/
theorem witness_SpdmRequests :
  (∃ (c : Fin 2) (s : State), (¬ (s.spdmOn c = true))) ∧
  (∃ (c : Fin 2) (s : State), (let st := (s.conn c).stage; (s.spdmOn c = true) ∧ (st < 3))) ∧
  (∃ (c : Fin 2) (s : State), (s.spdmOn c = true)) ∧
  (∃ (c : Fin 2) (s : State), (let st := (s.conn c).stage; (s.spdmOn c = true) ∧ (1 ≤ st))) ∧
  (∃ (c : Fin 2) (s : State), (let st := (s.conn c).stage; (s.spdmOn c = true) ∧ (st < 1))) ∧
  (∃ (c : Fin 2) (flag : Bool) (s : State), (let st := (s.conn c).stage; (s.spdmOn c = true) ∧ (2 ≤ st) ∧ (flag = true))) ∧
  (∃ (c : Fin 2) (flag : Bool) (s : State), (let st := (s.conn c).stage; (s.spdmOn c = true) ∧ (2 ≤ st) ∧ (flag = false))) ∧
  (∃ (c : Fin 2) (s : State), (let st := (s.conn c).stage; (s.spdmOn c = true) ∧ (st < 2))) ∧
  (∃ (c : Fin 2) (s : State), (let st := (s.conn c).stage; (s.spdmOn c = true) ∧ (2 ≤ st))) ∧
  (∃ (c : Fin 2) (s : State), (let st := (s.conn c).stage; (s.spdmOn c = true) ∧ (2 ≤ st) ∧ ((s.conn c).outBytes = []))) ∧
  (∃ (c : Fin 2) (s : State), (let st := (s.conn c).stage; (s.spdmOn c = true) ∧ (2 ≤ st) ∧ ((s.conn c).outBytes ≠ []))) ∧
  (∃ (c : Fin 2) (s : State), (let st := (s.conn c).stage; (let setUp := (s.spdmOn c = true) ∧ 3 ≤ st; (setUp) ∧ (s.cus.certs = true)))) ∧
  (∃ (c : Fin 2) (s : State), (let st := (s.conn c).stage; (let setUp := (s.spdmOn c = true) ∧ 3 ≤ st; (setUp) ∧ (s.cus.certs = false) ∧ (s.cus.es ≠ .failed)))) ∧
  (∃ (c : Fin 2) (s : State), (let st := (s.conn c).stage; (let setUp := (s.spdmOn c = true) ∧ 3 ≤ st; (setUp) ∧ (s.cus.certs = false) ∧ (s.cus.es = .failed)))) ∧
  (∃ (c : Fin 2) (slot : Fin 8) (off : Fin 65536) (s : State), (let st := (s.conn c).stage; (let chain := s.spdmChain; (let setUp := (s.spdmOn c = true) ∧ 3 ≤ st; (setUp) ∧ (slot.val ≠ 0 ∨ chain.length < off.val))))) ∧
  (∃ (c : Fin 2) (slot : Fin 8) (off : Fin 65536) (s : State), (let st := (s.conn c).stage; (let chain := s.spdmChain; (let setUp := (s.spdmOn c = true) ∧ 3 ≤ st; (setUp) ∧ (slot.val = 0) ∧ (off.val ≤ chain.length) ∧ (s.cus.certs = true))))) ∧
  (∃ (c : Fin 2) (s : State), (let st := (s.conn c).stage; (let setUp := (s.spdmOn c = true) ∧ 3 ≤ st; (setUp) ∧ (s.drbgUp = true)))) ∧
  (∃ (c : Fin 2) (s : State), (let st := (s.conn c).stage; (let setUp := (s.spdmOn c = true) ∧ 3 ≤ st; (setUp) ∧ (s.cus.es = .failed)))) :=
  ⟨⟨0, State.reset, by decide +kernel⟩,
   ⟨0, ({ spdm with spdm := [] }), by decide +kernel⟩,
   ⟨0, spdm, by decide +kernel⟩,
   ⟨0, ({ spdm with spdm := [(0, { Spdm.reset with stage := 1 })] }), by decide +kernel⟩,
   ⟨0, ({ spdm with spdm := [] }), by decide +kernel⟩,
   ⟨0, true, ({ spdm with spdm := [(0, { Spdm.reset with stage := 2 })] }), by decide +kernel⟩,
   ⟨0, false, ({ spdm with spdm := [(0, { Spdm.reset with stage := 2 })] }), by decide +kernel⟩,
   ⟨0, ({ spdm with spdm := [(0, { Spdm.reset with stage := 1 })] }), by decide +kernel⟩,
   ⟨0, ({ spdm with spdm := [(0, { Spdm.reset with stage := 2 })] }), by decide +kernel⟩,
   ⟨0, spdm, by decide +kernel⟩,
   ⟨0, ({ spdm with spdm := [(0, { Spdm.reset with stage := 2, outBytes := [1] })] }), by decide +kernel⟩,
   ⟨0, spdm, by decide +kernel⟩,
   ⟨0, (conn3 (hostUp (withCus cusUp))), by decide +kernel⟩,
   ⟨0, (conn3 (hostUp (withCus { cusUp with es := .failed }))), by decide +kernel⟩,
   ⟨0, 1, 0, spdm, by decide +kernel⟩,
   ⟨0, 0, 0, spdm, (by decide +kernel), (by decide +kernel), Nat.zero_le _, (by decide +kernel)⟩,
   ⟨0, spdm, by decide +kernel⟩,
   ⟨0, (conn3 (hostUp (withCus { cusUp with es := .failed }))), by decide +kernel⟩⟩

/-- The hypotheses of each clause of `Obligations.SpdmRequests` are met, continued. -/
theorem witness_SpdmRequests_2 :
  (∃ (c : Fin 2) (s : State), (let st := (s.conn c).stage; (let setUp := (s.spdmOn c = true) ∧ 3 ≤ st; (setUp) ∧ (¬ (s.drbgUp = true)) ∧ (s.cus.es ≠ .failed)))) ∧
  (∃ (c : Fin 2) (k : Fin 256) (s : State), (let st := (s.conn c).stage; (let setUp := (s.spdmOn c = true) ∧ 3 ≤ st; (setUp) ∧ (5 < k.val) ∧ (k.val ≠ 0xFF)))) ∧
  (∃ (c : Fin 2) (s : State), (let st := (s.conn c).stage; (let setUp := (s.spdmOn c = true) ∧ 3 ≤ st; (setUp)))) ∧
  (∃ (c : Fin 2) (k : Fin 256) (s : State), (let st := (s.conn c).stage; (let setUp := (s.spdmOn c = true) ∧ 3 ≤ st; (setUp) ∧ (1 ≤ k.val) ∧ (k.val ≤ 5)))) ∧
  (∃ (c : Fin 2) (k : Fin 256) (s : State), (let st := (s.conn c).stage; (let setUp := (s.spdmOn c = true) ∧ 3 ≤ st; (setUp) ∧ (1 ≤ k.val) ∧ (k.val ≤ 5) ∧ (s.drbgUp = true)))) ∧
  (∃ (c : Fin 2) (s : State), (let st := (s.conn c).stage; (let setUp := (s.spdmOn c = true) ∧ 3 ≤ st; (setUp) ∧ (32 ≤ s.sessions.length)))) ∧
  (∃ (c : Fin 2) (s : State), (let st := (s.conn c).stage; (let setUp := (s.spdmOn c = true) ∧ 3 ≤ st; (setUp) ∧ (s.sessions.length < 32) ∧ (s.drbgUp = true)))) ∧
  (∃ (c : Fin 2) (id : Fin 65536) (s : State), (let st := (s.conn c).stage; (let setUp := (s.spdmOn c = true) ∧ 3 ≤ st; (setUp) ∧ (s.session c id = none)))) ∧
  (∃ (c : Fin 2) (id : Fin 65536) (s : State), (let st := (s.conn c).stage; (let setUp := (s.spdmOn c = true) ∧ 3 ≤ st; (setUp) ∧ (∃ x ∈ (s.session c id), (x.up = true))))) ∧
  (∃ (c : Fin 2) (id : Fin 65536) (s : State), (let st := (s.conn c).stage; (let setUp := (s.spdmOn c = true) ∧ 3 ≤ st; (setUp) ∧ (∃ x ∈ (s.session c id), (x.up = false))))) ∧
  (∃ (c : Fin 2) (s : State), (let st := (s.conn c).stage; (let setUp := (s.spdmOn c = true) ∧ 3 ≤ st; (setUp) ∧ (s.cus.certs = false)))) ∧
  (∃ (c : Fin 2) (w : W32) (s : State), (let st := (s.conn c).stage; (let setUp := (s.spdmOn c = true) ∧ 3 ≤ st; (setUp) ∧ (w.toNat = 0) ∧ (s.drbgUp = true)))) ∧
  (∃ (c : Fin 2) (w : W32) (s : State), (let st := (s.conn c).stage; (let setUp := (s.spdmOn c = true) ∧ 3 ≤ st; (setUp) ∧ (w.toNat ≠ 0) ∧ (s.partOf w.toNat = none)))) ∧
  (∃ (c : Fin 2) (w : W32) (s : State), (let st := (s.conn c).stage; (let setUp := (s.spdmOn c = true) ∧ 3 ≤ st; (setUp) ∧ (w.toNat ≠ 0) ∧ ((s.partOf w.toNat).isSome = true) ∧ (s.drbgUp = true)))) ∧
  (∃ (c : Fin 2) (w : W32) (s : State), (let st := (s.conn c).stage; (let setUp := (s.spdmOn c = true) ∧ 3 ≤ st; (setUp) ∧ (w.toNat = 0) ∧ (¬ (s.drbgUp = true))))) ∧
  (∃ (c : Fin 2) (s : State), (let st := (s.conn c).stage; (let setUp := (s.spdmOn c = true) ∧ 3 ≤ st; (setUp) ∧ ((s.conn c).signed = none)))) ∧
  (∃ (c : Fin 2) (s : State), (let st := (s.conn c).stage; (let setUp := (s.spdmOn c = true) ∧ 3 ≤ st; (setUp) ∧ ((s.conn c).signed ≠ none) ∧ (¬ (s.drbgUp = true))))) ∧
  (∃ (c : Fin 2) (s : State), (let st := (s.conn c).stage; (let setUp := (s.spdmOn c = true) ∧ 3 ≤ st; (setUp) ∧ (((s.conn c).signed).isSome = true) ∧ (s.drbgUp = true)))) :=
  ⟨⟨0, (conn3 (hostUp (withCus { cusUp with es := .startup }))), by decide +kernel⟩,
   ⟨0, 6, spdm, by decide +kernel⟩,
   ⟨0, spdm, by decide +kernel⟩,
   ⟨0, 5, spdm, by decide +kernel⟩,
   ⟨0, 5, spdm, by decide +kernel⟩,
   ⟨0, ({ spdm with sessions := List.replicate 32 sess }), by decide +kernel⟩,
   ⟨0, ({ spdm with sessions := List.replicate 31 sess }), by decide +kernel⟩,
   ⟨0, 9, spdm, by decide +kernel⟩,
   ⟨0, 9, (with9 sess spdm), by decide +kernel⟩,
   ⟨0, 9, (with9 { sess with up := false } spdm), by decide +kernel⟩,
   ⟨0, (conn3 (hostUp (withCus cusUp))), by decide +kernel⟩,
   ⟨0, 0, spdm, by decide +kernel⟩,
   ⟨0, 7, spdm, by decide +kernel⟩,
   ⟨0, 7, (spdm.setPart 0 bound), by decide +kernel⟩,
   ⟨0, 0, (conn3 (hostUp (withCus { cusUp with es := .startup }))), by decide +kernel⟩,
   ⟨0, spdm, by decide +kernel⟩,
   ⟨0, ({ hostUp (withCus { cusUp with es := .startup }) with spdm := [(0, { Spdm.reset with stage := 3, signed := some [] })] }), by decide +kernel⟩,
   ⟨0, ({ hostUp (withCus cusUp) with spdm := [(0, { Spdm.reset with stage := 3, signed := some [] })] }), by decide +kernel⟩⟩

/-- The hypotheses of each clause of `Obligations.TenantsAndTdisp` are met. -/
theorem witness_TenantsAndTdisp :
  (∃ (c : Fin 2) (id : Fin 65536) (s : State), (let x := s.session c id; (s.spdmOn c = true) ∧ (3 ≤ (s.conn c).stage) ∧ (x = none))) ∧
  (∃ (c : Fin 2) (id : Fin 65536) (s : State), (let x := s.session c id; (s.spdmOn c = true) ∧ (3 ≤ (s.conn c).stage) ∧ (∃ y ∈ (x), (y.up = false ∨ y.hybrid = false)))) ∧
  (∃ (c : Fin 2) (id : Fin 65536) (comp : W32) (s : State), (let x := s.session c id; (s.spdmOn c = true) ∧ (3 ≤ (s.conn c).stage) ∧ (∃ y ∈ (x), (y.up = true) ∧ (y.hybrid = true) ∧ (s.partOf comp.toNat = none)))) ∧
  (∃ (c : Fin 2) (id : Fin 65536) (comp : W32) (s : State), (let x := s.session c id; (s.spdmOn c = true) ∧ (3 ≤ (s.conn c).stage) ∧ (∃ y ∈ (x), (y.up = true) ∧ (y.hybrid = true) ∧ (∃ r ∈ (s.partOf comp.toNat), (flagConf (s.part r).flags = false ∨ (s.part r).st ≠ .sealed))))) ∧
  (∃ (c : Fin 2) (id : Fin 65536) (comp : W32) (s : State), (let x := s.session c id; (s.spdmOn c = true) ∧ (3 ≤ (s.conn c).stage) ∧ (∃ y ∈ (x), (let fifteen := (s.sessions.filter fun y => y.tenant.isSome).length < 16; (y.up = true) ∧ (y.hybrid = true) ∧ (∃ r ∈ (s.partOf comp.toNat), (flagConf (s.part r).flags = true) ∧ ((s.part r).st = .sealed) ∧ (y.tenant ≠ none ∨ ¬ fifteen)))))) ∧
  (∃ (c : Fin 2) (id : Fin 65536) (comp : W32) (s : State), (let x := s.session c id; (s.spdmOn c = true) ∧ (3 ≤ (s.conn c).stage) ∧ (∃ y ∈ (x), (let fifteen := (s.sessions.filter fun y => y.tenant.isSome).length < 16; (y.up = true) ∧ (y.hybrid = true) ∧ (∃ r ∈ (s.partOf comp.toNat), (flagConf (s.part r).flags = true) ∧ ((s.part r).st = .sealed) ∧ (y.tenant = none) ∧ (fifteen)))))) ∧
  (∃ (c : Fin 2) (id : Fin 65536) (s : State), (let x := s.session c id; (s.spdmOn c = true) ∧ (3 ≤ (s.conn c).stage) ∧ (∀ y ∈ (x), y.up = false ∨ y.tenant = none))) ∧
  (∃ (c : Fin 2) (id : Fin 65536) (h : Fin 256) (bs : List Byte) (s : State), (let x := s.session c id; (s.spdmOn c = true) ∧ (3 ≤ (s.conn c).stage) ∧ (∃ y ∈ (x), (y.up = true) ∧ (y.tenant.isSome = true) ∧ (3 < h.val ∨ bs.length ≠ 40)))) ∧
  (∃ (c : Fin 2) (id : Fin 65536) (h : Fin 256) (bs : List Byte) (s : State), (let x := s.session c id; (s.spdmOn c = true) ∧ (3 ≤ (s.conn c).stage) ∧ (∃ y ∈ (x), (y.up = true) ∧ (y.tenant.isSome = true) ∧ (h.val ≤ 3) ∧ (bs.length = 40)))) ∧
  (∃ (c : Fin 2) (id : Fin 65536) (h : Fin 256) (s : State), (let x := s.session c id; (s.spdmOn c = true) ∧ (3 ≤ (s.conn c).stage) ∧ (∃ y ∈ (x), (y.up = true) ∧ (y.tenant.isSome = true) ∧ (3 < h.val)))) ∧
  (∃ (c : Fin 2) (id : Fin 65536) (h : Fin 256) (s : State), (let x := s.session c id; (s.spdmOn c = true) ∧ (3 ≤ (s.conn c).stage) ∧ (∃ y ∈ (x), (y.up = true) ∧ (∃ t ∈ (y.tenant), (h.val ≤ 3) ∧ (t.key h = none))))) ∧
  (∃ (c : Fin 2) (id : Fin 65536) (h : Fin 256) (secrets : List (List Byte)) (s : State), (let x := s.session c id; (s.spdmOn c = true) ∧ (3 ≤ (s.conn c).stage) ∧ (∃ y ∈ (x), (y.up = true) ∧ (∃ t ∈ (y.tenant), (h.val ≤ 3) ∧ (t.key h = none) ∧ (secrets = []))))) ∧
  (∃ (c : Fin 2) (id : Fin 65536) (h : Fin 256) (s : State), (let x := s.session c id; (s.spdmOn c = true) ∧ (3 ≤ (s.conn c).stage) ∧ (∃ y ∈ (x), (y.up = true) ∧ (∃ t ∈ (y.tenant), (h.val ≤ 3) ∧ ((t.key h).isSome = true))))) ∧
  (∃ (c : Fin 2) (id : Fin 65536) (h : Fin 256) (hash : Fin (2 ^ 384)) (s : State), (let x := s.session c id; (s.spdmOn c = true) ∧ (3 ≤ (s.conn c).stage) ∧ (∃ y ∈ (x), (y.up = true) ∧ (∃ t ∈ (y.tenant), (h.val ≤ 3) ∧ ((t.key h).isSome = true) ∧ (hash.val ∉ (s.part t.part).consents) ∧ (64 ≤ (s.part t.part).consents.length))))) ∧
  (∃ (c : Fin 2) (id : Fin 65536) (h : Fin 256) (va : W64) (hash : Fin (2 ^ 384)) (s : State), (let x := s.session c id; (s.spdmOn c = true) ∧ (3 ≤ (s.conn c).stage) ∧ (∃ y ∈ (x), (y.up = true) ∧ (∃ t ∈ (y.tenant), (h.val ≤ 3) ∧ ((t.key h).isSome = true) ∧ (hash.val ∈ (s.part t.part).consents ∨ (s.part t.part).consents.length < 64) ∧ (let a := va.toNat; (let z := s.extentXlt t.part a (pagesOf a 64); (let r := z.1.cusRead t.part a 64; (z.2 = false ∨ r.2.1 ≠ 0)))))))) ∧
  (∃ (c : Fin 2) (id : Fin 65536) (h : Fin 256) (va : W64) (hash : Fin (2 ^ 384)) (s : State), (let x := s.session c id; (s.spdmOn c = true) ∧ (3 ≤ (s.conn c).stage) ∧ (∃ y ∈ (x), (y.up = true) ∧ (∃ t ∈ (y.tenant), (h.val ≤ 3) ∧ ((t.key h).isSome = true) ∧ (hash.val ∈ (s.part t.part).consents ∨ (s.part t.part).consents.length < 64) ∧ (let a := va.toNat; (let z := s.extentXlt t.part a (pagesOf a 64); (let r := z.1.cusRead t.part a 64; (let f (o n : Nat) := ofBytes ((r.2.2.drop o).take n); (z.2 = true) ∧ (r.2.1 = 0) ∧ (¬ (f 0 4 = 0x4C414553 ∧ f 4 1 = 1 ∧ f 5 3 = 0 ∧ f 32 32 = 0 ∧ extFits (f 8 4) (f 12 4) = true)))))))))) ∧
  (∃ (c : Fin 2) (id : Fin 65536) (h : Fin 256) (va : W64) (hash : Fin (2 ^ 384)) (s : State), (let x := s.session c id; (s.spdmOn c = true) ∧ (3 ≤ (s.conn c).stage) ∧ (∃ y ∈ (x), (y.up = true) ∧ (∃ t ∈ (y.tenant), (h.val ≤ 3) ∧ ((t.key h).isSome = true) ∧ (hash.val ∈ (s.part t.part).consents ∨ (s.part t.part).consents.length < 64) ∧ (let a := va.toNat; (let z := s.extentXlt t.part a (pagesOf a 64); (let r := z.1.cusRead t.part a 64; (let f (o n : Nat) := ofBytes ((r.2.2.drop o).take n); (let y := r.1.extentXlt t.part a (pagesOf a (extSize (f 8 4) (f 12 4))); (z.2 = true) ∧ (r.2.1 = 0) ∧ (f 0 4 = 0x4C414553) ∧ (f 4 1 = 1) ∧ (f 5 3 = 0) ∧ (f 32 32 = 0) ∧ (extFits (f 8 4) (f 12 4) = true) ∧ (y.2 = false)))))))))) :=
  ⟨⟨0, 9, spdm, by decide +kernel⟩,
   ⟨0, 9, (with9 { sess with hybrid := false } spdm), by decide +kernel⟩,
   ⟨0, 9, 7, (with9 sess spdm), by decide +kernel⟩,
   ⟨0, 9, 7, (with9 sess (spdm.setPart 0 bound)), by decide +kernel⟩,
   ⟨0, 9, 7, (with9 { sess with tenant := some tenant } (spdm.setPart 0 conf)), by decide +kernel⟩,
   ⟨0, 9, 7, (with9 sess (spdm.setPart 0 conf)), by decide +kernel⟩,
   ⟨0, 9, (with9 sess spdm), by decide +kernel⟩,
   ⟨0, 9, 3, (zs 41), tsess, by decide +kernel⟩,
   ⟨0, 9, 3, (zs 40), tsess, by decide +kernel⟩,
   ⟨0, 9, 4, tsess, by decide +kernel⟩,
   ⟨0, 9, 3, tsess, by decide +kernel⟩,
   ⟨0, 9, 3, [], tsess, by decide +kernel⟩,
   ⟨0, 9, 0, tsess, by decide +kernel⟩,
   ⟨0, 9, 0, 1, (tsess.setPart 0 { conf with consents := (List.range 64).map (· + 2) }), by decide +kernel⟩,
   ⟨0, 9, 0, 0, 1, (tsess.setPart 0 { conf with consents := [1] }), by decide +kernel⟩,
   ⟨0, 9, 0, 0, 1, (mapped (tsess.setPart 0 { conf with consents := [1] })), by decide +kernel⟩,
   ⟨0, 9, 0, 0, 1, (extent 2), by decide +kernel⟩⟩

/-- The hypotheses of each clause of `Obligations.TenantsAndTdisp` are met, continued. -/
theorem witness_TenantsAndTdisp_2 :
  (∃ (c : Fin 2) (id : Fin 65536) (h : Fin 256) (va : W64) (hash : Fin (2 ^ 384)) (s : State), (let x := s.session c id; (s.spdmOn c = true) ∧ (3 ≤ (s.conn c).stage) ∧ (∃ y ∈ (x), (y.up = true) ∧ (∃ t ∈ (y.tenant), (h.val ≤ 3) ∧ ((t.key h).isSome = true) ∧ (hash.val ∈ (s.part t.part).consents ∨ (s.part t.part).consents.length < 64) ∧ (let a := va.toNat; (let z := s.extentXlt t.part a (pagesOf a 64); (let r := z.1.cusRead t.part a 64; (let f (o n : Nat) := ofBytes ((r.2.2.drop o).take n); (let y := r.1.extentXlt t.part a (pagesOf a (extSize (f 8 4) (f 12 4))); (z.2 = true) ∧ (r.2.1 = 0) ∧ (f 0 4 = 0x4C414553) ∧ (f 4 1 = 1) ∧ (f 5 3 = 0) ∧ (f 32 32 = 0) ∧ (extFits (f 8 4) (f 12 4) = true) ∧ (y.2 = true)))))))))) ∧
  (∃ (c : Fin 2) (id : Fin 65536) (h : Fin 256) (chunks : W32) (last : W32) (secrets : List (List Byte)) (s : State), (let x := s.session c id; (s.spdmOn c = true) ∧ (3 ≤ (s.conn c).stage) ∧ (∃ y ∈ (x), (y.up = true) ∧ (∃ t ∈ (y.tenant), (h.val ≤ 3) ∧ ((t.key h).isSome = true) ∧ (secrets = []) ∧ (extFits chunks.toNat last.toNat = false))))) ∧
  (∃ (c : Fin 2) (id : Fin 65536) (h : Fin 256) (chunks : W32) (last : W32) (secrets : List (List Byte)) (s : State), (let x := s.session c id; (s.spdmOn c = true) ∧ (3 ≤ (s.conn c).stage) ∧ (∃ y ∈ (x), (y.up = true) ∧ (∃ t ∈ (y.tenant), (h.val ≤ 3) ∧ ((t.key h).isSome = true) ∧ (secrets = []) ∧ (extFits chunks.toNat last.toNat = true) ∧ (¬ (s.drbgUp = true)))))) ∧
  (∃ (c : Fin 2) (id : Fin 65536) (h : Fin 256) (chunks : W32) (last : W32) (va : W64) (secrets : List (List Byte)) (s : State), (let x := s.session c id; (s.spdmOn c = true) ∧ (3 ≤ (s.conn c).stage) ∧ (∃ y ∈ (x), (y.up = true) ∧ (∃ t ∈ (y.tenant), (h.val ≤ 3) ∧ ((t.key h).isSome = true) ∧ (secrets = []) ∧ (extFits chunks.toNat last.toNat = true) ∧ (s.drbgUp = true) ∧ (let z := s.extentXlt t.part va.toNat (pagesOf va.toNat (extSize chunks.toNat last.toNat)); (z.2 = false)))))) ∧
  (∃ (c : Fin 2) (id : Fin 65536) (h : Fin 256) (chunks : W32) (last : W32) (va : W64) (secrets : List (List Byte)) (s : State), (let x := s.session c id; (s.spdmOn c = true) ∧ (3 ≤ (s.conn c).stage) ∧ (∃ y ∈ (x), (y.up = true) ∧ (∃ t ∈ (y.tenant), (h.val ≤ 3) ∧ ((t.key h).isSome = true) ∧ (secrets = []) ∧ (extFits chunks.toNat last.toNat = true) ∧ (s.drbgUp = true) ∧ (let z := s.extentXlt t.part va.toNat (pagesOf va.toNat (extSize chunks.toNat last.toNat)); (z.2 = true) ∧ ((z.1.part t.part).consents = []) ∧ (tblGet (fun _ => []) z.1.seals t.part = [])))))) ∧
  (∃ (c : Fin 2) (id : Fin 65536) (s : State), (let x := s.session c id; (s.spdmOn c = true) ∧ (3 ≤ (s.conn c).stage) ∧ (∃ y ∈ (x), (y.up = true) ∧ (y.tenant.isSome = true)))) ∧
  (∃ (id : Fin 65536) (s : State), (s.session 0 id = none ∨ s.spdmOn 0 = false)) ∧
  (∃ (id : Fin 65536) (v : FnId) (s : State), (∃ y ∈ (s.session 0 id), (y.up = true) ∧ (s.spdmOn 0 = true) ∧ (v.val = 0 ∨ s.pcie.vfs < v.val))) ∧
  (∃ (id : Fin 65536) (v : FnId) (s : State), (∃ y ∈ (s.session 0 id), (y.up = true) ∧ (s.spdmOn 0 = true) ∧ (1 ≤ v.val) ∧ (v.val ≤ s.pcie.vfs))) ∧
  (∃ (id : Fin 65536) (v : FnId) (s : State), (let i := s.inst v; (∃ y ∈ (s.session 0 id), (y.up = true) ∧ (s.spdmOn 0 = true) ∧ (1 ≤ v.val) ∧ (v.val ≤ s.pcie.vfs) ∧ (i.tdi = .locked ∨ i.tdi = .run)))) ∧
  (∃ (id : Fin 65536) (v : FnId) (s : State), (let i := s.inst v; (∃ y ∈ (s.session 0 id), (y.up = true) ∧ (s.spdmOn 0 = true) ∧ (1 ≤ v.val) ∧ (v.val ≤ s.pcie.vfs) ∧ (i.tdi = .unlocked ∨ i.tdi = .error)))) ∧
  (∃ (id : Fin 65536) (v : FnId) (s : State), (let i := s.inst v; (let q := s.part (v - 1); (∃ y ∈ (s.session 0 id), (y.up = true) ∧ (s.spdmOn 0 = true) ∧ (1 ≤ v.val) ∧ (v.val ≤ s.pcie.vfs) ∧ (i.tdi ≠ .unlocked ∨ i.st ≠ .ready ∨ q.st ≠ .sealed ∨ flagConf q.flags = false ∨ s.pcie.ide = false))))) ∧
  (∃ (id : Fin 65536) (v : FnId) (s : State), (let i := s.inst v; (let q := s.part (v - 1); (∃ y ∈ (s.session 0 id), (y.up = true) ∧ (s.spdmOn 0 = true) ∧ (1 ≤ v.val) ∧ (v.val ≤ s.pcie.vfs) ∧ (i.tdi = .unlocked) ∧ (i.st = .ready) ∧ (q.st = .sealed) ∧ (flagConf q.flags = true) ∧ (s.pcie.ide = true) ∧ (s.drbgUp = true))))) ∧
  (∃ (id : Fin 65536) (v : FnId) (s : State), (let i := s.inst v; (∃ y ∈ (s.session 0 id), (y.up = true) ∧ (s.spdmOn 0 = true) ∧ (1 ≤ v.val) ∧ (v.val ≤ s.pcie.vfs) ∧ (i.tdi ≠ .locked)))) ∧
  (∃ (id : Fin 65536) (nonce : Fin (2 ^ 256)) (v : FnId) (s : State), (let i := s.inst v; (∃ y ∈ (s.session 0 id), (y.up = true) ∧ (s.spdmOn 0 = true) ∧ (1 ≤ v.val) ∧ (v.val ≤ s.pcie.vfs) ∧ (i.tdi = .locked) ∧ (i.nonce ≠ nonce.val)))) ∧
  (∃ (id : Fin 65536) (nonce : Fin (2 ^ 256)) (v : FnId) (s : State), (let i := s.inst v; (∃ y ∈ (s.session 0 id), (y.up = true) ∧ (s.spdmOn 0 = true) ∧ (1 ≤ v.val) ∧ (v.val ≤ s.pcie.vfs) ∧ (i.tdi = .locked) ∧ (i.nonce = nonce.val)))) :=
  ⟨⟨0, 9, 0, 0, 1, (extent 1), by decide +kernel⟩,
   ⟨0, 9, 0, 1, 8, [], tsess, by decide +kernel⟩,
   ⟨0, 9, 0, 1, 16, [], (with9 { sess with tenant := some tenant } (conn3 (hostUp (withCus { cusUp with es := .startup })))), by decide +kernel⟩,
   ⟨0, 9, 0, 1, 16, 0, [], tsess, by decide +kernel⟩,
   ⟨0, 9, 0, 1, 16, 0, [], (mapped tsess), by decide +kernel⟩,
   ⟨0, 9, tsess, by decide +kernel⟩,
   ⟨9, spdm, by decide +kernel⟩,
   ⟨9, 0, (with9 sess spdm), by decide +kernel⟩,
   ⟨9, 1, (with9 sess (spdm.setInst 1 readyInst)), by decide +kernel⟩,
   ⟨9, 1, (with9 sess (spdm.setInst 1 { readyInst with tdi := .run })), by decide +kernel⟩,
   ⟨9, 1, (with9 sess (spdm.setInst 1 { readyInst with tdi := .error })), by decide +kernel⟩,
   ⟨9, 1, (with9 sess (spdm.setInst 1 readyInst)), by decide +kernel⟩,
   ⟨9, 1, (with9 sess ({ ((spdm.setInst 1 readyInst).setPart 0 conf) with pcie := { Pcie.reset with up := true, vfs := 1, ide := true } })), by decide +kernel⟩,
   ⟨9, 1, (with9 sess (spdm.setInst 1 readyInst)), by decide +kernel⟩,
   ⟨9, 5, 1, (with9 sess (spdm.setInst 1 { readyInst with tdi := .locked, nonce := 4 })), by decide +kernel⟩,
   ⟨9, 5, 1, (with9 sess (spdm.setInst 1 { readyInst with tdi := .locked, nonce := 5 })), by decide +kernel⟩⟩

/-- The hypotheses of each clause of `Obligations.PowerController` are met. -/
theorem witness_PowerController :
  (∃ (s : State), (s.boot.run = false)) ∧
  (∃ (s : State), (s.boot.run = true) ∧ (s.pwr.backstop = true)) ∧
  (∃ (s : State), (s.boot.run = true) ∧ (s.pwr.backstop = false) ∧ (s.pwr.backstopSeen = true)) ∧
  (∃ (s : State), (s.boot.run = true) ∧ (s.pwr.backstop = false) ∧ (s.pwr.backstopSeen = false)) ∧
  (∃ (k : ClusterId) (s : State), (let c := s.clu k; (c.goal < c.step) ∧ (c.step ≠ 15))) ∧
  (∃ (k : ClusterId) (s : State), (let c := s.clu k; (c.step ≤ c.goal ∨ c.step = 15))) ∧
  (∃ (s : State), (s.hostOn 0 = false)) ∧
  (∃ (s : State), (let old := s.reg kPwrCap; (s.hostOn 0 = true) ∧ (bitAt old 31 = true))) ∧
  (∃ (v : W32) (s : State), (let cap := v.toNat % 128; (let old := s.reg kPwrCap; (s.hostOn 0 = true) ∧ (bitAt old 31 = false) ∧ (40 ≤ cap) ∧ (cap ≤ 104)))) ∧
  (∃ (v : W32), (let cap := v.toNat % 128; (cap < 40 ∨ 104 < cap))) ∧
  (∃ (v : W32), (bitAt v.toNat 0 = true)) ∧
  (∃ (v : W32), (bitAt v.toNat 0 = false)) :=
  ⟨⟨State.reset, by decide +kernel⟩,
   ⟨({ hostUp fid1 with pwr := { PowerSt.reset with backstop := true } }), by decide +kernel⟩,
   ⟨({ hostUp fid1 with pwr := { PowerSt.reset with backstopSeen := true } }), by decide +kernel⟩,
   ⟨(hostUp fid1), by decide +kernel⟩,
   ⟨0, (fid1.modClu 0 fun c => { c with step := 5, goal := 4 }), by decide +kernel⟩,
   ⟨0, fid1, by decide +kernel⟩,
   ⟨State.reset, by decide +kernel⟩,
   ⟨((hostUp fid1).setReg kPwrCap 0x80000000), by decide +kernel⟩,
   ⟨104, ((hostUp fid1).setReg kPwrCap 40), by decide +kernel⟩,
   ⟨105, by decide +kernel⟩,
   ⟨1, by decide +kernel⟩,
   ⟨0, by decide +kernel⟩⟩

/-- The hypotheses of each clause of `Obligations.LedgerAndResets` are met. -/
theorem witness_LedgerAndResets :
  (∃ (s : State), (s.intake = [])) ∧
  (∃ (s : State), (∃ e ∈ ((s.intake).head?), (∀ x ∈ s.lring.recs, ∀ y ∈ (x.2), y.takes e s.ledgerWindow = false))) ∧
  (∃ (s : State) (i : _) (y : _), (∃ e ∈ ((s.intake).head?), ((i, some y) ∈ s.lring.recs) ∧ (y.takes e s.ledgerWindow = true) ∧ (∀ x ∈ s.lring.recs, ∀ z ∈ (x.2), z.takes e s.ledgerWindow = true → x = (i, some y)))) ∧
  (∃ (r : Fin 16) (s : State), (∃ d ∈ (s.startable 0 r), (d.type = 9) ∧ (s.startStatus d = none) ∧ (s.prioBlocked 0 r = false) ∧ (d.cmd = 0x300) ∧ (d.fld 56 4 % 64 ≠ 0 ∨ 262144 < d.fld 56 4))) ∧
  (∃ (r : Fin 16) (s : State), (∃ d ∈ (s.startable 0 r), (d.type = 9) ∧ (s.startStatus d = none) ∧ (s.prioBlocked 0 r = false) ∧ (d.cmd = 0x300) ∧ (d.fld 56 4 % 64 = 0) ∧ (d.fld 56 4 ≤ 262144))) ∧
  (∃ (r : Fin 16) (s : State), (∃ d ∈ (s.startable 0 r), (d.type = 9) ∧ (s.startStatus d = none) ∧ (s.prioBlocked 0 r = false) ∧ (d.cmd = 0x301))) ∧
  (∃ (s : State), (s.boot.pending ≠ none)) ∧
  (∃ (s : State), (s.boot.run = true) ∧ (s.boot.pending = none)) ∧
  (∃ (s : State), (s.boot.run = false)) ∧
  (∃ (s : State), (s.boot.run = true) ∧ (s.hostOn 0 = true)) ∧
  (∃ (s : State), (s.boot.run = true) ∧ (s.boot.pending ≠ none)) ∧
  (∃ (s : State), (s.boot.run = true)) ∧
  (∃ (s : State), (s.boot.pending = none)) ∧
  (∃ (mctp : Bool) (s : State), (s.boot.pending.isSome = true) ∧ (mctp = true ∨ s.hostOn 0 = false)) ∧
  (∃ (s : State), (s.boot.pending.isSome = true) ∧ (s.hostOn 0 = true)) ∧
  (∃ (s : State), (s.boot.pending.isSome = true)) ∧
  (∃ (s : State), (s.boot.good = true)) ∧
  (∃ (s : State), (s.boot.good = false)) :=
  ⟨⟨State.reset, by decide +kernel⟩,
   ⟨({ State.reset with intake := [lev], lring := { Ledger.empty with recs := [(0, some { lrec with type := 2 })] } }), by decide +kernel⟩,
   ⟨({ State.reset with intake := [lev], lring := { Ledger.empty with recs := [(0, some lrec)] } }), 0, lrec, by decide +kernel⟩,
   ⟨0, (ask9 0x300 0 65 (withCus cusUp)), by decide +kernel⟩,
   ⟨0, (ask9 0x300 0 262144 (withCus cusUp)), by decide +kernel⟩,
   ⟨0, (ask9 0x301 0 0 (withCus cusUp)), by decide +kernel⟩,
   ⟨(due (hostUp fid1)), by decide +kernel⟩,
   ⟨(hostUp fid1), by decide +kernel⟩,
   ⟨State.reset, by decide +kernel⟩,
   ⟨(hostUp fid1), by decide +kernel⟩,
   ⟨({ hostUp fid1 with boot := { Boot.reset with good := true, run := true, ready := true, pending := some 3 } }), by decide +kernel⟩,
   ⟨(hostUp fid1), by decide +kernel⟩,
   ⟨State.reset, by decide +kernel⟩,
   ⟨true, (due (hostUp fid1)), by decide +kernel⟩,
   ⟨(due (hostUp fid1)), by decide +kernel⟩,
   ⟨(due (hostUp fid1)), by decide +kernel⟩,
   ⟨(hostUp fid1), by decide +kernel⟩,
   ⟨State.reset, by decide +kernel⟩⟩

/-- The hypotheses of each clause of `Obligations.FirmwareImages` are met (part 1 of 2). -/
theorem witness_FirmwareImages_1 :
  (∃ (r : Fin 16) (s : State), (∃ d ∈ (s.startable 0 r), (let t := d.arg0 % 256; (d.type = 9) ∧ (s.startStatus d = none) ∧ (s.prioBlocked 0 r = false) ∧ (d.cmd = 0x200) ∧ (t = 0 ∨ 3 < t)))) ∧
  (∃ (r : Fin 16) (s : State), (∃ d ∈ (s.startable 0 r), (let t := d.arg0 % 256; (d.type = 9) ∧ (s.startStatus d = none) ∧ (s.prioBlocked 0 r = false) ∧ (d.cmd = 0x200) ∧ (1 ≤ t) ∧ (t ≤ 3) ∧ (s.fw.xfer.isSome = true ∨ s.fw.act.map (·.type) = some t)))) ∧
  (∃ (r : Fin 16) (s : State), (∃ d ∈ (s.startable 0 r), (let t := d.arg0 % 256; (d.type = 9) ∧ (s.startStatus d = none) ∧ (s.prioBlocked 0 r = false) ∧ (d.cmd = 0x200) ∧ (s.xferStatus t ≠ 0)))) ∧
  (∃ (r : Fin 16) (ok : Bool) (s : State), (∃ d ∈ (s.startable 0 r), (let t := d.arg0 % 256; (d.type = 9) ∧ (s.startStatus d = none) ∧ (s.prioBlocked 0 r = false) ∧ (d.cmd = 0x200) ∧ (s.xferStatus t = 0) ∧ (ok = false)))) ∧
  (∃ (r : Fin 16) (ok : Bool) (s : State), (∃ d ∈ (s.startable 0 r), (let t := d.arg0 % 256; (let n := d.fld 40 4; (d.type = 9) ∧ (s.startStatus d = none) ∧ (s.prioBlocked 0 r = false) ∧ (d.cmd = 0x200) ∧ (s.xferStatus t = 0) ∧ (ok = true) ∧ (n < 8192))))) ∧
  (∃ (r : Fin 16) (ok : Bool) (s : State), (∃ d ∈ (s.startable 0 r), (let t := d.arg0 % 256; (let n := d.fld 40 4; (d.type = 9) ∧ (s.startStatus d = none) ∧ (s.prioBlocked 0 r = false) ∧ (d.cmd = 0x200) ∧ (s.xferStatus t = 0) ∧ (ok = true) ∧ (8192 ≤ n))))) ∧
  (∃ (s : State), (s.fw.xfer = none)) ∧
  (∃ (s : State), (∃ x ∈ s.fw.xfer, (x.hdr.isSome = true ∨ x.bytes.length < 8192))) ∧
  (∃ (sig : Bool) (s : State), (∃ x ∈ s.fw.xfer, (x.hdr = none) ∧ (8192 ≤ x.bytes.length) ∧ (let p := FwHdr.parse x.bytes; (let c := s.headerStatus x.type p sig; (c ≠ 0))))) ∧
  (∃ (sig : Bool) (s : State), (∃ x ∈ s.fw.xfer, (x.hdr = none) ∧ (8192 ≤ x.bytes.length) ∧ (let p := FwHdr.parse x.bytes; (let c := s.headerStatus x.type p sig; (c = 0) ∧ (s.boot.recovery = true))))) ∧
  (∃ (sig : Bool) (s : State), (∃ x ∈ s.fw.xfer, (x.hdr = none) ∧ (8192 ≤ x.bytes.length) ∧ (let p := FwHdr.parse x.bytes; (let c := s.headerStatus x.type p sig; (c = 0) ∧ (s.boot.recovery = false))))) :=
  ⟨⟨0, (ask9 0x200 4 0 (fw FwSt.reset)), by decide +kernel⟩,
   ⟨0, (ask9 0x200 2 0 (fw { FwSt.reset with act := some ⟨2, [], none, false, false⟩ })), by decide +kernel⟩,
   ⟨0, (ask9 0x200 0 0 (fw FwSt.reset)), by decide +kernel⟩,
   ⟨0, false, (ask9 0x200 3 0 (fw FwSt.reset)), by decide +kernel⟩,
   ⟨0, true, (put 0 9 [(192, 0x200), (224, 3), (320, 8191)] (fw FwSt.reset)), by decide +kernel⟩,
   ⟨0, true, (put 0 9 [(192, 0x200), (224, 1), (320, 8192)] (fw FwSt.reset)), by decide +kernel⟩,
   ⟨State.reset, by decide +kernel⟩,
   ⟨(fw { FwSt.reset with xfer := some (xferOf .pldm 9000 (zs 8191)) }), by decide +kernel⟩,
   ⟨true, (fw { FwSt.reset with xfer := some (xferOf .pldm 9000 (zs 8192)) }), by decide +kernel⟩,
   ⟨true, recov { FwSt.reset with xfer := some headed }, headed, rfl, rfl, (by decide +kernel), goodHeader_passes _ rfl rfl, rfl⟩,
   ⟨true, fw { FwSt.reset with xfer := some headed }, headed, rfl, rfl, (by decide +kernel), goodHeader_passes _ rfl rfl, rfl⟩⟩

/-- The hypotheses of each clause of `Obligations.FirmwareImages` are met (part 2 of 2). -/
theorem witness_FirmwareImages_2 :
  (∃ (s : State), (∃ x ∈ s.fw.xfer, (∃ h ∈ x.hdr, (x.whole h = false)))) ∧
  (∃ (tag : Bool) (s : State), (∃ x ∈ s.fw.xfer, (∃ h ∈ x.hdr, (let pay := (x.bytes.drop 8192).take h.payload; (x.whole h = true) ∧ (pay.length < h.payload ∨ (Config.sha384 pay).toNat ≠ h.digest ∨ tag = false))))) ∧
  (∃ (tag : Bool) (s : State), (∃ x ∈ s.fw.xfer, (∃ h ∈ x.hdr, (let pay := (x.bytes.drop 8192).take h.payload; (x.whole h = true) ∧ (h.payload ≤ pay.length) ∧ ((Config.sha384 pay).toNat = h.digest) ∧ (tag = true))))) ∧
  (∃ (r : Fin 16) (s : State), (∃ d ∈ (s.startable 0 r), (d.type = 9) ∧ (s.startStatus d = none) ∧ (s.prioBlocked 0 r = false) ∧ (d.cmd = 0x202))) ∧
  (∃ (r : Fin 16) (sig : Bool) (payload : Bool) (s : State), (∃ d ∈ (s.startable 0 r), (let t := d.arg0 % 256; (d.type = 9) ∧ (s.startStatus d = none) ∧ (s.prioBlocked 0 r = false) ∧ (d.cmd = 0x201) ∧ (let link := bits d.arg0 15 8; (let c := s.actStatus t link sig payload; (c = 0)))))) ∧
  (∃ (r : Fin 16) (sig : Bool) (payload : Bool) (s : State), (∃ d ∈ (s.startable 0 r), (let t := d.arg0 % 256; (d.type = 9) ∧ (s.startStatus d = none) ∧ (s.prioBlocked 0 r = false) ∧ (d.cmd = 0x201) ∧ (let link := bits d.arg0 15 8; (let c := s.actStatus t link sig payload; (c ≠ 0) ∧ (s.fw.act.isSome = true)))))) ∧
  (∃ (r : Fin 16) (sig : Bool) (payload : Bool) (s : State), (∃ d ∈ (s.startable 0 r), (let t := d.arg0 % 256; (d.type = 9) ∧ (s.startStatus d = none) ∧ (s.prioBlocked 0 r = false) ∧ (d.cmd = 0x201) ∧ (let link := bits d.arg0 15 8; (let c := s.actStatus t link sig payload; (c ≠ 0) ∧ (s.fw.act = none)))))) ∧
  (∃ (s : State), (∃ a ∈ s.fw.act, (a.type = 2) ∧ (a.thenLinks = false))) ∧
  (∃ (i : LinkId) (s : State) (ls : _), (∃ a ∈ s.fw.act, (a.type = 3) ∧ (a.links = i.val :: ls))) ∧
  (∃ (i : LinkId) (s : State), (∃ a ∈ s.fw.act, (a.type = 3) ∧ (a.links.head? ≠ some i.val))) :=
  ⟨⟨(fw { FwSt.reset with xfer := some { xferOf .pldm 9000 (zs 8192) with hdr := some { FwHdr.none with payload := 16 } } }), by decide +kernel⟩,
   ⟨false, fw { FwSt.reset with xfer := some whole }, whole, rfl, _, rfl, (by decide +kernel), .inr (.inr rfl)⟩,
   ⟨true, fw { FwSt.reset with xfer := some whole }, whole, rfl, _, rfl, (by decide +kernel), (by decide +kernel), rfl, rfl⟩,
   ⟨0, (ask9 0x202 2 0 (fw FwSt.reset)), by decide +kernel⟩,
   ⟨0, true, true, ask9 0x201 2 0 (fw staged), _, rfl, (by decide +kernel), (by decide +kernel), (by decide +kernel), (by decide +kernel), staged_passes _ rfl rfl (by decide +kernel) rfl rfl _ _ (by decide +kernel)⟩,
   ⟨0, true, true, (ask9 0x201 2 0 (fw { FwSt.reset with act := some ⟨3, [], none, false, false⟩ })), by decide +kernel⟩,
   ⟨0, true, true, (ask9 0x201 2 0 (fw FwSt.reset)), by decide +kernel⟩,
   ⟨(fw { FwSt.reset with act := some ⟨2, [], none, false, false⟩ }), by decide +kernel⟩,
   ⟨4, (fw { FwSt.reset with act := some ⟨3, [4, 5], none, false, false⟩ }), [5], by decide +kernel⟩,
   ⟨5, (fw { FwSt.reset with act := some ⟨3, [4, 5], none, false, false⟩ }), by decide +kernel⟩⟩

/-- The hypotheses of each clause of `Obligations.StartAndUpdate` are met (part 1 of 3). -/
theorem witness_StartAndUpdate_1 :
  (∃ (s : State), (¬ (s.boot.good = false ∧ s.boot.shut = false ∧ s.panel.dc = true ∧ s.panel.swap = .charged))) ∧
  (∃ (m : StartMeas) (s : State), ((s.boot.good = false ∧ s.boot.shut = false ∧ s.panel.dc = true ∧ s.panel.swap = .charged)) ∧ (let s1 := (s.copyPending m).failImages m fwTypes; ((∀ t ∈ fwTypes, (s1.fwType t).valid = true)))) ∧
  (∃ (m : StartMeas) (s : State), ((s.boot.good = false ∧ s.boot.shut = false ∧ s.panel.dc = true ∧ s.panel.swap = .charged)) ∧ (let s1 := (s.copyPending m).failImages m fwTypes; ((∃ t ∈ fwTypes, (s1.fwType t).valid = false)))) ∧
  (∃ (s : State), (s.fw.dlAt = none ∨ s.boot.recovery = false)) ∧
  (∃ (s : State), (∃ t ∈ s.fw.dlAt, (s.boot.recovery = true) ∧ (s.fw.xfer = none) ∧ ((∀ y ∈ fwTypes, (s.fwType y).valid = true)) ∧ (t + 1000000000 ≤ s.now))) ∧
  (∃ (bus : Fin 2) (s : State), (¬ (s.mctpOn bus = true))) ∧
  (∃ (bus : Fin 2) (s : State), (let st := s.fw.pldm; ((s.mctpOn bus = true)) ∧ (s.fw.xfer.isSome = true ∨ st ≠ .idle))) ∧
  (∃ (bus : Fin 2) (s : State), (let st := s.fw.pldm; ((s.mctpOn bus = true)) ∧ (s.fw.xfer = none) ∧ (st = .idle))) ∧
  (∃ (bus : Fin 2) (s : State), (let st := s.fw.pldm; ((s.mctpOn bus = true)) ∧ (st ≠ .idle) ∧ (st ≠ .learn))) ∧
  (∃ (bus : Fin 2) (s : State), (let st := s.fw.pldm; ((s.mctpOn bus = true)) ∧ (st ≠ .idle) ∧ (st ≠ .ready))) ∧
  (∃ (bus : Fin 2) (s : State), (let st := s.fw.pldm; ((s.mctpOn bus = true)) ∧ (st = .learn))) :=
  ⟨⟨State.reset, by decide +kernel⟩,
   ⟨⟨[1, 2, 3], [], [], false, [], []⟩, ({ State.reset with panel := fedPanel }), by decide +kernel⟩,
   ⟨⟨[1, 3], [], [], false, [], []⟩, ({ State.reset with panel := fedPanel }), by decide +kernel⟩,
   ⟨State.reset, by decide +kernel⟩,
   ⟨({ recov { FwSt.reset with dlAt := some 0 } with now := 1000000000 }), by decide +kernel⟩,
   ⟨0, State.reset, by decide +kernel⟩,
   ⟨0, (pldm (pldmIn .ready)), by decide +kernel⟩,
   ⟨0, (pldm (pldmIn .idle)), by decide +kernel⟩,
   ⟨0, (pldm (pldmIn .ready)), by decide +kernel⟩,
   ⟨0, (pldm (pldmIn .learn)), by decide +kernel⟩,
   ⟨0, (pldm (pldmIn .learn)), by decide +kernel⟩⟩

/-- The hypotheses of each clause of `Obligations.StartAndUpdate` are met (part 2 of 3). -/
theorem witness_StartAndUpdate_2 :
  (∃ (bus : Fin 2) (id : Fin 65536) (s : State), (let st := s.fw.pldm; ((s.mctpOn bus = true)) ∧ (st = .ready) ∧ (s.xferStatus id ≠ 0))) ∧
  (∃ (bus : Fin 2) (id : Fin 65536) (s : State), (let st := s.fw.pldm; ((s.mctpOn bus = true)) ∧ (st = .ready) ∧ (s.xferStatus id = 0))) ∧
  (∃ (bus : Fin 2) (self : Bool) (s : State), (let st := s.fw.pldm; ((s.mctpOn bus = true)) ∧ (st = .ready) ∧ (self = false ∨ s.boot.recovery = true))) ∧
  (∃ (bus : Fin 2) (self : Bool) (s : State), (let st := s.fw.pldm; ((s.mctpOn bus = true)) ∧ (st = .ready) ∧ (self = true) ∧ (s.boot.recovery = false) ∧ (s.actFirst = none))) ∧
  (∃ (bus : Fin 2) (self : Bool) (sig : Bool) (payload : Bool) (s : State), (let st := s.fw.pldm; ((s.mctpOn bus = true)) ∧ (st = .ready) ∧ (self = true) ∧ (s.boot.recovery = false) ∧ (∃ t ∈ s.actFirst, (s.actStatus t 0xFF sig payload = 0)))) ∧
  (∃ (bus : Fin 2) (s : State), (let st := s.fw.pldm; ((s.mctpOn bus = true)) ∧ (st = .download ∨ st = .verify ∨ st = .apply))) ∧
  (∃ (bus : Fin 2) (s : State), (let st := s.fw.pldm; ((s.mctpOn bus = true)) ∧ (st ≠ .idle) ∧ (st ≠ .activate))) ∧
  (∃ (s : State), (let st := s.fw.pldm; (s.fw.xfer = none ∨ st ≠ .download))) ∧
  (∃ (bs : List Byte) (s : State), (let st := s.fw.pldm; (∃ x ∈ s.fw.xfer, (x.src = .pldm) ∧ (st = .download) ∧ (let x1 : FwXfer := { x with bytes := x.bytes ++ bs }; (bs ≠ []) ∧ (bs.length = min s.fw.piece (x.len - x.bytes.length)) ∧ (x1.bytes.length < x.len ∨ 8192 ≤ x.len))))) ∧
  (∃ (bs : List Byte) (s : State), (let st := s.fw.pldm; (∃ x ∈ s.fw.xfer, (x.src = .pldm) ∧ (st = .download) ∧ (let x1 : FwXfer := { x with bytes := x.bytes ++ bs }; (bs ≠ []) ∧ (bs.length = min s.fw.piece (x.len - x.bytes.length)) ∧ (x.len ≤ x1.bytes.length) ∧ (x.len < 8192))))) ∧
  (∃ (s : State), (let st := s.fw.pldm; (st = .download) ∧ (s.fw.xfer = none))) :=
  ⟨⟨0, 4, (pldm (pldmIn .ready)), by decide +kernel⟩,
   ⟨0, 3, (pldm (pldmIn .ready)), by decide +kernel⟩,
   ⟨0, false, (pldm (pldmIn .ready)), by decide +kernel⟩,
   ⟨0, true, (pldm (pldmIn .ready)), by decide +kernel⟩,
   ⟨0, true, true, true, pldm { staged with pldm := .ready }, (by decide +kernel), (by decide +kernel), (by decide +kernel), (by decide +kernel), 2, (by decide +kernel), staged_passes _ rfl rfl (by decide +kernel) rfl rfl _ _ rfl⟩,
   ⟨0, (pldm (pldmIn .apply)), by decide +kernel⟩,
   ⟨0, (pldm (pldmIn .apply)), by decide +kernel⟩,
   ⟨State.reset, by decide +kernel⟩,
   ⟨(zs 2048), (pldm { pldmIn .download with xfer := some (xferOf .pldm 9000 []) }), by decide +kernel⟩,
   ⟨(zs 1), (pldm { pldmIn .download with xfer := some (xferOf .pldm 2049 (zs 2048)) }), by decide +kernel⟩,
   ⟨(pldm (pldmIn .download)), by decide +kernel⟩⟩

/-- The hypotheses of each clause of `Obligations.StartAndUpdate` are met (part 3 of 3). -/
theorem witness_StartAndUpdate_3 :
  (∃ (s : State), (let st := s.fw.pldm; (st ≠ .download ∨ s.fw.xfer.isSome = true))) ∧
  (∃ (s : State), (let st := s.fw.pldm; (st = .verify))) ∧
  (∃ (s : State), (let st := s.fw.pldm; (st ≠ .verify))) ∧
  (∃ (s : State), (let st := s.fw.pldm; (st = .apply))) ∧
  (∃ (s : State), (let st := s.fw.pldm; (st ≠ .apply))) ∧
  (∃ (alt : Fin 4) (bs : List Byte) (s : State), (s.boot.recovery = false ∨ alt.val = 3 ∨ 4096 < bs.length)) ∧
  (∃ (alt : Fin 4) (bs : List Byte) (s : State), (s.boot.recovery = true) ∧ (alt.val < 3) ∧ (bs.length ≤ 4096) ∧ (s.fw.xfer = none)) ∧
  (∃ (alt : Fin 4) (bs : List Byte) (s : State), (s.boot.recovery = true) ∧ (alt.val < 3) ∧ (bs.length ≤ 4096) ∧ (∃ x ∈ s.fw.xfer, (x.src = .dfu) ∧ (x.type = alt.val + 1))) ∧
  (∃ (alt : Fin 4) (bs : List Byte) (s : State), (s.boot.recovery = true) ∧ (alt.val < 3) ∧ (bs.length ≤ 4096) ∧ (∃ x ∈ s.fw.xfer, (x.src ≠ .dfu))) ∧
  (∃ (alt : Fin 4) (s : State), (s.boot.recovery = true) ∧ (alt.val = 3)) ∧
  (∃ (alt : Fin 4) (s : State), (s.boot.recovery = false ∨ alt.val ≠ 3)) :=
  ⟨⟨State.reset, by decide +kernel⟩,
   ⟨(pldm (pldmIn .verify)), by decide +kernel⟩,
   ⟨State.reset, by decide +kernel⟩,
   ⟨(pldm (pldmIn .apply)), by decide +kernel⟩,
   ⟨State.reset, by decide +kernel⟩,
   ⟨3, [], (recov FwSt.reset), by decide +kernel⟩,
   ⟨2, (zs 4096), (recov FwSt.reset), by decide +kernel⟩,
   ⟨1, (zs 4096), (recov { FwSt.reset with xfer := some (xferOf .dfu 0 []) }), by decide +kernel⟩,
   ⟨1, [], (recov { FwSt.reset with xfer := some (xferOf .pldm 0 []) }), by decide +kernel⟩,
   ⟨3, (recov FwSt.reset), by decide +kernel⟩,
   ⟨2, (recov FwSt.reset), by decide +kernel⟩⟩

/-- The hypotheses of each clause of `Obligations.PanelCommands` are met (part 1 of 3). -/
theorem witness_PanelCommands_1 :
  (∃ (s : State), (let p := s.panel; (s.boot.good = true) ∧ (p.under = false))) ∧
  (∃ (s : State), (let p := s.panel; (s.boot.good = false ∨ p.under = true))) ∧
  (∃ (s : State), (let p := s.panel; (p.dc = false) ∧ (p.cellPowers = true))) ∧
  (∃ (s : State), (let p := s.panel; ((p.dc = true) ∨ p.cellPowers = false))) ∧
  (∃ (ms : Nat) (s : State), (let p := s.panel; ((p.dc = true)) ∧ (p.stuck = true ∨ s.boot.run = false ∨ ms < 100 ∨ 8000 ≤ ms))) ∧
  (∃ (ms : Nat) (s : State), (let p := s.panel; ((p.dc = true)) ∧ (p.stuck = false) ∧ ((s.boot.run = true)) ∧ (100 ≤ ms) ∧ (ms ≤ 3000) ∧ (s.boot.ready = true) ∧ (s.boot.pending = none))) ∧
  (∃ (ms : Nat) (s : State), (let p := s.panel; ((p.dc = true)) ∧ (p.stuck = false) ∧ ((s.boot.run = true)) ∧ (3000 < ms) ∧ (ms < 8000))) ∧
  (∃ (n : Nat) (s : State), (let p := s.panel; ((p.dc = true)) ∧ (p.stuck = true ∨ (p.forced = true ∧ n < 1000)))) ∧
  (∃ (n : Nat) (s : State), (let p := s.panel; ((p.dc = true)) ∧ (p.stuck = false) ∧ (p.forced = false ∨ 1000 ≤ n))) ∧
  (∃ (s : State), (let p := s.panel; ((p.dc = true)) ∧ (p.stuck = true))) ∧
  (∃ (s : State), (s.boot.run = false ∨ bitAt (s.reg (bSVC + 0x10)) 24 = true)) ∧
  (∃ (s : State), ((s.boot.run = true)) ∧ (bitAt (s.reg (bSVC + 0x10)) 24 = false)) :=
  ⟨⟨(panelOf fedPanel), by decide +kernel⟩,
   ⟨(panelOf { fedPanel with under := true }), by decide +kernel⟩,
   ⟨(panelOf { Panel.reset with cell := .full, mv := 2400 }), by decide +kernel⟩,
   ⟨(panelOf { Panel.reset with cell := .full, mv := 2399 }), by decide +kernel⟩,
   ⟨99, (panelOf fedPanel), by decide +kernel⟩,
   ⟨3000, (panelOf fedPanel), by decide +kernel⟩,
   ⟨7999, (panelOf fedPanel), by decide +kernel⟩,
   ⟨999, (panelOf { fedPanel with forced := true }), by decide +kernel⟩,
   ⟨1000, (panelOf { fedPanel with forced := true }), by decide +kernel⟩,
   ⟨(panelOf { fedPanel with stuck := true }), by decide +kernel⟩,
   ⟨((panelOf fedPanel).setReg (bSVC + 0x10) 0x1000000), by decide +kernel⟩,
   ⟨(panelOf fedPanel), by decide +kernel⟩⟩

/-- The hypotheses of each clause of `Obligations.PanelCommands` are met (part 2 of 3). -/
theorem witness_PanelCommands_2 :
  (∃ (mctp : Bool) (s : State), (s.boot.run = false ∨ ¬ (mctp = true ∨ s.hostOn 0 = true))) ∧
  (∃ (s : State), (let p := s.panel; (let r := s.reg kLocate; ((s.boot.run = true)) ∧ (bitAt r 0 = true) ∧ (bits r 15 8 ≠ 0) ∧ (p.locSince + bits r 15 8 * 60000000000 ≤ s.now)))) ∧
  (∃ (s : State), (let p := s.panel; (let r := s.reg kLocate; (s.boot.run = false ∨ bitAt r 0 = false ∨ bits r 15 8 = 0 ∨ s.now < p.locSince + bits r 15 8 * 60000000000)))) ∧
  (∃ (s : State), (let p := s.panel; (p.cell = .absent))) ∧
  (∃ (s : State), (let p := s.panel; (p.cell ≠ .absent))) ∧
  (∃ (s : State), (let p := s.panel; (p.cell = .settling) ∧ (bitAt (s.reg kBattCtrl) 0 = true))) ∧
  (∃ (s : State), (let p := s.panel; (p.cell = .settling) ∧ (bitAt (s.reg kBattCtrl) 0 = false))) ∧
  (∃ (s : State), (let p := s.panel; (p.cell ≠ .settling))) ∧
  (∃ (s : State), (let p := s.panel; (p.cell ≠ .reversed))) ∧
  (∃ (s : State), (let p := s.panel; (p.cell = .reversed))) ∧
  (∃ (s : State), (let p := s.panel; (p.cell = .charging))) ∧
  (∃ (s : State), (let p := s.panel; (p.cell ≠ .charging))) :=
  ⟨⟨true, State.reset, by decide +kernel⟩,
   ⟨({ (panelOf fedPanel).setReg kLocate 0x101 with now := 60000000000 }), by decide +kernel⟩,
   ⟨({ (panelOf fedPanel).setReg kLocate 0x101 with now := 59999999999 }), by decide +kernel⟩,
   ⟨(cellIn .absent), by decide +kernel⟩,
   ⟨(cellIn .full), by decide +kernel⟩,
   ⟨(cellIn .settling), by decide +kernel⟩,
   ⟨((cellIn .settling).clearBits kBattCtrl 1), by decide +kernel⟩,
   ⟨(cellIn .full), by decide +kernel⟩,
   ⟨(cellIn .full), by decide +kernel⟩,
   ⟨(cellIn .reversed), by decide +kernel⟩,
   ⟨(cellIn .charging), by decide +kernel⟩,
   ⟨(cellIn .full), by decide +kernel⟩⟩

/-- The hypotheses of each clause of `Obligations.PanelCommands` are met (part 3 of 3). -/
theorem witness_PanelCommands_3 :
  (∃ (mv : Fin 65536) (s : State), (let p := s.panel; (p.cell = .full) ∧ (mv.val < 3000))) ∧
  (∃ (mv : Fin 65536) (s : State), (let p := s.panel; (p.cell ≠ .full ∨ 3000 ≤ mv.val))) ∧
  (∃ (s : State), (let p := s.panel; (p.cell ∈ [CellSt.settling, .charging, .full, .disabled]))) ∧
  (∃ (s : State), (let p := s.panel; (p.cell ∈ [CellSt.settling, .full, .fault, .disabled]))) ∧
  (∃ (mctp : Bool) (on : Bool) (s : State), (let p := s.panel; ((s.boot.run = true)) ∧ ((mctp = true ∨ s.hostOn 0 = true)) ∧ (p.cell = .disabled) ∧ (on = true))) ∧
  (∃ (mctp : Bool) (on : Bool) (s : State), (let p := s.panel; ((s.boot.run = true)) ∧ ((mctp = true ∨ s.hostOn 0 = true)) ∧ (p.cell = .charging ∨ p.cell = .full) ∧ (on = false))) ∧
  (∃ (mctp : Bool) (s : State), (let p := s.panel; ((s.boot.run = true)) ∧ ((mctp = true ∨ s.hostOn 0 = true)) ∧ (p.cell ∈ [CellSt.absent, .settling, .reversed, .fault]))) ∧
  (∃ (mctp : Bool) (s : State), (let p := s.panel; ((s.boot.run = true)) ∧ ((mctp = true ∨ s.hostOn 0 = true)) ∧ (p.rtcValid = true))) ∧
  (∃ (mctp : Bool) (s : State), (let p := s.panel; ((s.boot.run = true)) ∧ ((mctp = true ∨ s.hostOn 0 = true)) ∧ (p.rtcValid = false))) ∧
  (∃ (s : State), (let p := s.panel; (p.armed = false))) ∧
  (∃ (s : State), (let p := s.panel; (p.armed = true))) :=
  ⟨⟨2999, (cellIn .full), by decide +kernel⟩,
   ⟨3000, (cellIn .full), by decide +kernel⟩,
   ⟨(cellIn .disabled), by decide +kernel⟩,
   ⟨(cellIn .disabled), by decide +kernel⟩,
   ⟨true, true, (cellIn .disabled), by decide +kernel⟩,
   ⟨true, false, (cellIn .full), by decide +kernel⟩,
   ⟨true, (cellIn .fault), by decide +kernel⟩,
   ⟨true, (panelOf { fedPanel with rtcValid := true }), by decide +kernel⟩,
   ⟨true, (panelOf fedPanel), by decide +kernel⟩,
   ⟨State.reset, by decide +kernel⟩,
   ⟨(panelOf fedPanel), by decide +kernel⟩⟩

/-- The hypotheses of each clause of `Obligations.PanelCommands` are met, continued. -/
theorem witness_PanelCommands_4 :
  (∃ (s : State), (s.panel.dc = true) ∧ (s.panel.stuck = false)) ∧
  (∃ (s : State), (s.panel.stuck = true)) ∧
  (∃ (s : State), (s.panel.stuck = false)) ∧
  (∃ (mctp : Bool) (s : State), (s.boot.run = true) ∧ (mctp = true ∨ s.hostOn 0 = true)) ∧
  (∃ (mv : Fin 65536), (mv.val < 2500)) ∧
  (∃ (mv : Fin 65536), (2500 ≤ mv.val) ∧ (mv.val < 3070)) :=
  ⟨⟨(panelOf fedPanel), by decide +kernel⟩,
   ⟨(panelOf { fedPanel with stuck := true }), by decide +kernel⟩,
   ⟨(panelOf fedPanel), by decide +kernel⟩,
   ⟨true, (panelOf fedPanel), by decide +kernel⟩,
   ⟨2499, by decide +kernel⟩,
   ⟨3069, by decide +kernel⟩⟩

/-- The hypotheses of each clause of `Obligations.RegisterAccess` are met. -/
theorem witness_RegisterAccess :
  (∃ (fn : FnId) (a : Fin (2 ^ 26)) (size : Nat) (s : State), (¬ (s.hostOn fn = true) ∨ (size = 4 ∧ a.val % 4 ≠ 0) ∨ (size = 8 ∧ a.val % 8 ≠ 0) ∨ (size ≠ 4 ∧ size ≠ 8))) ∧
  (∃ (fn : FnId) (a : Fin (2 ^ 26)) (size : Nat) (s : State), ((s.hostOn fn = true)) ∧ (size = 4) ∧ (a.val % 4 = 0) ∧ (∃ p_ ∈ (regAt a), (let r := p_.1; (let k := p_.2.1; (r.wide = false) ∧ (r.acc = .ro ∨ s.reaches (.fn fn) r k = false))))) ∧
  (∃ (fn : FnId) (a : Fin (2 ^ 26)) (size : Nat) (s : State), ((s.hostOn fn = true)) ∧ (size = 4) ∧ (a.val % 4 = 0) ∧ (∃ p_ ∈ (regAt a), (let r := p_.1; (let k := p_.2.1; (r.wide = false) ∧ (s.reaches (.fn fn) r k = true))))) ∧
  (∃ (fn : FnId) (a : Fin (2 ^ 26)) (size : Nat) (s : State), ((s.hostOn fn = true)) ∧ (size = 4) ∧ (a.val % 4 = 0) ∧ (∃ p_ ∈ (regAt a), (let r := p_.1; (r.wide = true) ∧ (r.acc = .wo)))) ∧
  (∃ (fn : FnId) (a : Fin (2 ^ 26)) (size : Nat) (s : State), ((s.hostOn fn = true)) ∧ (size = 4) ∧ (a.val % 4 = 0) ∧ (regAt a = none) ∧ (a.val < 4 ∨ regAt (a - 4) = none)) ∧
  (∃ (fn : FnId) (a : Fin (2 ^ 26)) (size : Nat) (s : State), ((s.hostOn fn = true)) ∧ (size = 8) ∧ (a.val % 8 = 0) ∧ (∃ p_ ∈ (regAt a), (let r := p_.1; (let k := p_.2.1; (r.wide = true) ∧ (s.reaches (.fn fn) r k = true))))) ∧
  (∃ (fn : FnId) (a : Fin (2 ^ 26)) (size : Nat) (s : State), ((s.hostOn fn = true)) ∧ (size = 8) ∧ (a.val % 8 = 0) ∧ (∃ p_ ∈ (regAt a), (let r := p_.1; (r.wide = false ∨ r.acc = .ro)))) ∧
  (∃ (fn : FnId) (a : Fin (2 ^ 26)) (size : Nat) (s : State), ((s.hostOn fn = true)) ∧ (size = 8) ∧ (a.val % 8 = 0) ∧ (regAt a = none)) ∧
  (∃ (fn : FnId) (s : State), (¬ (s.hostOn fn = true))) ∧
  (∃ (fn : FnId) (i : Fin 1024) (s : State), ((s.hostOn fn = true)) ∧ (fn.val = 0 ∨ i.val < 256)) ∧
  (∃ (fn : FnId) (o : Fin 4096) (mgr : Bool) (s : State), (s.mbOn (if mgr then 0 else fn) fn = false ∨ o.val % 4 ≠ 0)) ∧
  (∃ (fn : FnId) (o : Fin 4096) (mgr : Bool) (s : State), (s.mbOn (if mgr then 0 else fn) fn = true) ∧ (o.val % 4 = 0) ∧ (mbArea mgr o = true)) ∧
  (∃ (bus : Fin 2) (s : State), (¬ (s.mctpOn bus = true ∧ s.boot.recovery = false))) ∧
  (∃ (bus : Fin 2) (block : Fin 256) (s : State), ((s.mctpOn bus = true ∧ s.boot.recovery = false)) ∧ (13 < block.val ∨ block.val = 11)) ∧
  (∃ (bus : Fin 2) (block : Fin 256) (count : Fin 256) (off : W32) (s : State), ((s.mctpOn bus = true ∧ s.boot.recovery = false)) ∧ (block.val ≤ 13) ∧ (block.val ≠ 11) ∧ ((count.val = 0 ∨ 16 < count.val ∨ off.toNat % 4 ≠ 0 ∨ 0x400000 < off.toNat + 4 * count.val))) ∧
  (∃ (bus : Fin 2) (block : Fin 256) (count : Fin 256) (off : W32) (s : State), ((s.mctpOn bus = true ∧ s.boot.recovery = false)) ∧ (block.val ≤ 13) ∧ (block.val ≠ 11) ∧ (¬ (count.val = 0 ∨ 16 < count.val ∨ off.toNat % 4 ≠ 0 ∨ 0x400000 < off.toNat + 4 * count.val))) ∧
  (∃ (bus : Fin 2) (session : Option (Fin 65536)) (block : Fin 256) (s : State), ((s.mctpOn bus = true ∧ s.boot.recovery = false)) ∧ (s.mayWrite session = false ∨ block.val ∉ [7, 8, 10, 13])) ∧
  (∃ (bus : Fin 2) (session : Option (Fin 65536)) (block : Fin 256) (off : W32) (ws : List W32) (s : State), (let base := block.val * 0x400000 + off.toNat; (let n := ws.length; ((s.mctpOn bus = true ∧ s.boot.recovery = false)) ∧ (s.mayWrite session = true) ∧ (block.val ∈ [7, 8, 10, 13]) ∧ ((n = 0 ∨ 16 < n ∨ off.toNat % 4 ≠ 0 ∨ 0x400000 < off.toNat + 4 * n ∨ splitsWo base ws = true))))) ∧
  (∃ (bus : Fin 2) (session : Option (Fin 65536)) (block : Fin 256) (off : W32) (ws : List W32) (s : State), (let base := block.val * 0x400000 + off.toNat; (let n := ws.length; ((s.mctpOn bus = true ∧ s.boot.recovery = false)) ∧ (s.mayWrite session = true) ∧ (block.val ∈ [7, 8, 10, 13]) ∧ (¬ (n = 0 ∨ 16 < n ∨ off.toNat % 4 ≠ 0 ∨ 0x400000 < off.toNat + 4 * n ∨ splitsWo base ws = true))))) :=
  ⟨⟨0, 2, 4, (hostUp fid1), by decide +kernel⟩,
   ⟨0, 0, 4, (hostUp fid1), by decide +kernel⟩,
   ⟨0, ⟨bPWR, by decide⟩, 4, (hostUp fid1), by decide +kernel⟩,
   ⟨0, ⟨bXLT + 0x20, by decide⟩, 4, (hostUp fid1), by decide +kernel⟩,
   ⟨0, 0x3FFFFFC, 4, (hostUp fid1), by decide +kernel⟩,
   ⟨0, ⟨bXLT, by decide⟩, 8, (hostUp fid1), by decide +kernel⟩,
   ⟨0, ⟨bPWR, by decide⟩, 8, (hostUp fid1), by decide +kernel⟩,
   ⟨0, 0x3FFFFF8, 8, (hostUp fid1), by decide +kernel⟩,
   ⟨2, (hostUp fid1), by decide +kernel⟩,
   ⟨1, 255, (hostUp fid1), by decide +kernel⟩,
   ⟨1, 0, false, (hostUp fid1), by decide +kernel⟩,
   ⟨1, 0xBC, false, (vf readyInst), by decide +kernel⟩,
   ⟨0, State.reset, by decide +kernel⟩,
   ⟨0, 14, mctp, by decide +kernel⟩,
   ⟨0, 13, 17, 0, mctp, by decide +kernel⟩,
   ⟨0, 13, 16, 0x3FFFC0, mctp, by decide +kernel⟩,
   ⟨0, none, 9, mctp, by decide +kernel⟩,
   ⟨0, none, 13, 0x3FFFFC, [0, 0], mctp, by decide +kernel⟩,
   ⟨0, none, 13, 0x3FFFFC, [0], mctp, by decide +kernel⟩⟩

/-- The hypotheses of each clause of `Obligations.QueueFirst` are met. -/
theorem witness_QueueFirst :
  (∃ (s : State), (s.pending.head?.isSome = true)) ∧
  (∃ (s : State), (s.pending = [])) ∧
  (∃ (c : Instr) (s : State), ((∀ (k : CoreId) (w : StepWord), c = .signal k w → (s.core k).ready = true → fld w 95 88 ≠ 0))) ∧
  (∃ (s : State) (k : CoreId) (w : StepWord), ((s.core k).ready = true) ∧ (fld w 95 88 = 0)) ∧
  (∃ (cs : List Instr), ((∀ d ∈ cs, ∀ (k : CoreId) (w : StepWord), d ≠ .signal k w))) :=
  ⟨⟨oneWaits, rfl⟩,
   ⟨State.reset, by decide +kernel⟩,
   ⟨.nop 0 0, State.reset, fun _ _ h => nomatch h⟩,
   ⟨(up runs), 0, (sw []), by decide +kernel⟩,
   ⟨[], fun _ h => nomatch h⟩⟩

/-- The hypotheses of each clause of `Obligations.MemoryForm` are met. -/
theorem witness_MemoryForm :
  (∃ (s : State) (t : State), (Memory.allWf s = true) ∧ (step s = .next t)) :=
  ⟨oneWaits, _, (by decide +kernel), rfl⟩

/-- The hypotheses of each clause of `Obligations.QueueAndFloors` are met. -/
theorem witness_QueueAndFloors :
  (∃ (c : Instr) (s : State) (t : State), (exec c s = .next t)) ∧
  (∃ (s : State) (t : State), (step s = .next t)) :=
  ⟨⟨.nop 0 0, State.reset, _, rfl⟩,
   ⟨oneWaits, _, rfl⟩⟩

/-- The hypotheses of each clause of `Obligations.ReleaseAccepted` are met. -/
theorem witness_ReleaseAccepted :
  (∃ (c : CageId) (s : State), ((s.cage c).attn = .requested) ∧ (¬ (∃ e ∈ s.rteAct, ∃ i ∈ cageLinks c, entryNames e.2 i = true))) ∧
  (∃ (c : CageId) (s : State), ((s.cage c).attn ≠ .requested ∨ (∃ e ∈ s.rteAct, ∃ i ∈ cageLinks c, entryNames e.2 i = true))) :=
  ⟨⟨0, (cag { Cage.reset with attn := .requested }), by decide +kernel⟩,
   ⟨0, State.reset, by decide +kernel⟩⟩

/-- The hypotheses of each clause of `Obligations.CopyPending` are met. -/
theorem witness_CopyPending :
  (∃ (r : Fin 16) (s : State), (∃ d ∈ (s.startable 0 r), (let t := d.arg0 % 256; (d.type = 9) ∧ (s.startStatus d = none) ∧ (s.prioBlocked 0 r = false) ∧ (d.cmd = 0x200) ∧ (1 ≤ t) ∧ (t ≤ 3) ∧ (s.fw.xfer = none) ∧ (s.fw.act.map (·.type) ≠ some t) ∧ ((s.fwType t).stgSt = .activated) ∧ ((s.fwType t).copy = true)))) ∧
  (∃ (bus : Fin 2) (id : Fin 65536) (s : State), ((s.mctpOn bus = true ∧ s.fw.pldm = .ready)) ∧ (1 ≤ id) ∧ (id ≤ 3) ∧ (s.fw.xfer = none) ∧ (s.fw.act.map (·.type) ≠ some id) ∧ ((s.fwType id).stgSt = .activated) ∧ ((s.fwType id).copy = true)) ∧
  (∃ (r : Fin 16) (s : State), (∃ d ∈ (s.startable 0 r), (let t := d.arg0 % 256; (d.type = 9) ∧ (s.startStatus d = none) ∧ (s.prioBlocked 0 r = false) ∧ (d.cmd = 0x200) ∧ (1 ≤ t) ∧ (t ≤ 3) ∧ (s.fw.xfer = none) ∧ (s.fw.act.map (·.type) ≠ some t) ∧ (¬ ((s.fwType t).stgSt = .activated ∧ (s.fwType t).copy = true)) ∧ (8192 ≤ d.fld 40 4)))) ∧
  (∃ (bus : Fin 2) (id : Fin 65536) (s : State), ((s.mctpOn bus = true ∧ s.fw.pldm = .ready)) ∧ (1 ≤ id) ∧ (id ≤ 3) ∧ (s.fw.xfer = none) ∧ (s.fw.act.map (·.type) ≠ some id) ∧ (¬ ((s.fwType id).stgSt = .activated ∧ (s.fwType id).copy = true))) :=
  ⟨⟨0, (ask9 0x200 2 0 (fw pendingCopy)), by decide +kernel⟩,
   ⟨0, 2, (pldm { pendingCopy with pldm := .ready }), by decide +kernel⟩,
   ⟨0, (put 0 9 [(192, 0x200), (224, 2), (320, 8192)] (fw FwSt.reset)), by decide +kernel⟩,
   ⟨0, 3, (pldm (pldmIn .ready)), by decide +kernel⟩⟩

/-- The hypotheses of each clause of `Obligations.ScratchpadReadsBack` are met. -/
theorem witness_ScratchpadReadsBack :
  (∃ (s : State) (c : Nat) (off : Nat) (bs : List Byte) (k : _) (o : _), (off + bs.length ≤ 2 ^ 20) ∧ ((∀ i < bs.length, s.spadPoisoned c (off + i) = false)) ∧ (o < 2 ^ 20) ∧ ((k ≠ c ∨ o < off ∨ off + bs.length ≤ o))) :=
  ⟨State.reset, 0, 0xFFFFF, [1], 0, 0xFFFFE, by decide +kernel⟩

/-! Ill-formed commands, one for each check of `Instr.wellFormed`, and their well-formed neighbours. -/

/-- Control steps of another opcode or with a reserved bit (R7, R110, Table 3). -/
theorem test_illFormed_control : ∀ i ∈ [Instr.nop 0 (sw [(120, 1)]), .nop 0 (sw [(5, 1)]), .endCmd 0 0, .loop 0 (sw [(120, 2), (88, 0), (72, 3)]),
    .loop 0 (sw [(120, 2), (88, 3), (72, 0)]), .loop 0 (sw [(120, 2), (88, 3), (72, 3), (0, 1)]), .vsel 0 (sw [(120, 3), (103, 1)]),
    .phase 0 (sw [(120, 4), (102, 1)]), .rebind 0 (sw [(120, 5), (87, 1)]), .fence 0 (sw [(120, 6), (115, 1)])], i.wellFormed = false := by decide +kernel
/-- Datapath and load/store steps of another opcode or with a reserved bit (R7, R110). -/
theorem test_illFormed_datapath : ∀ i ∈ [Instr.loadb 0 (sw [(120, 0x11)]) none, .mma 0 (sw [(120, 0x11), (112, 1)]) none, .zero 0 (sw [(120, 0x12), (71, 1)]),
    .drain 0 0, .vadd 0 (sw [(120, 0x21), (31, 1)]), .vld 0 (sw [(120, 0x2E), (52, 1)]) none, .vst 0 (sw [(120, 0x2F), (63, 1)]),
    .ls 0 (sw [(120, 0x38), (117, 1)]) none], i.wellFormed = false := by decide +kernel
/-- Transfer steps whose references are those of another row (R168, R369, R370). -/
theorem test_illFormed_transfer : ∀ i ∈ [Instr.copy 0 (sw [(120, 0x40), (80, 0xFFF0)]) none, .copy 0 (sw [(120, 0x40), (96, 0xFFE0)]) none,
    .copy 0 (sw [(120, 0x40), (80, 0xFFE1)]) none, .bucketCountTransfer 0 (sw [(120, 0x40), (80, 5)]), .allocation 0 (sw [(120, 0x40), (96, 5)]) [],
    .free 0 (sw [(120, 0x40), (80, 5)]), .gather 0 0, .lcopy 0 (sw [(120, 0x44), (115, 1)]) 0], i.wellFormed = false := by decide +kernel
/-- Synchronization steps: SIGNAL by 0, a reserved bit, another KIND (R110, R195). -/
theorem test_illFormed_sync : ∀ i ∈ [Instr.signal 0 (sw [(120, 0x51)]), .wait 0 (sw [(120, 0x50), (96, 1)]), .barrier 0 (sw [(120, 0x52), (116, 1)]),
    .broadcast 0 (sw [(120, 0x52)]), .reduceAdd 0 (sw [(120, 0x52), (116, 2), (47, 1)]), .consistentSnapshot 0 (sw [(120, 0x52), (116, 7)])],
    i.wellFormed = false := by decide +kernel
/-- Lists of a length that the spec does not give them. -/
theorem test_illFormed_lists : ∀ i ∈ [Instr.memWrite req [] 0 0 [] .none, .memWrite req [] 0 511 [0, 0] .none, .memRead req [] 0 0 0 .none,
    .memRead req [] 0 1 512 .none, .bundle 0 0 0 (zs 2047), .prepare [], .regWrite 0 none 0 0 0 (List.replicate 256 0),
    .mctpBind 0 none 0 [] 0 0 [], .mctpBind 0 none 0 (zs 24) 4001 0 [], .mctpBind 0 none 0 (zs 24) 1 1 [0], .dfuDownload 0 (zs 4097) true false],
    i.wellFormed = false := by decide +kernel
/-- Their well-formed neighbours. -/
theorem test_wellFormed : ∀ i ∈ [Instr.nop 0 0, .endCmd 0 (sw [(120, 1)]), .loop 0 (sw [(120, 2), (88, 3), (72, 3)]), .vsel 0 (sw [(120, 3), (104, 1)]),
    .mma 0 (sw [(120, 0x11), (118, 3), (72, 1)]) none, .vadd 0 (sw [(120, 0x21), (32, 1)]), .copy 0 (sw [(120, 0x40), (80, 0xFFEF), (96, 5)]) none,
    .bucketCountTransfer 0 (sw [(120, 0x40), (80, 0xFFF3)]), .free 0 (sw [(120, 0x40), (80, 0xFFE1)]), .signal 0 (sw [(120, 0x51), (88, 1)]),
    .broadcast 0 (sw [(120, 0x52), (116, 1)]), .memWrite req [] 0 511 [0] .none, .bundle 0 0 0 (zs 2048),
    .mctpBind 0 none 0 (zs 24) 1 0 [0]], i.wellFormed = true := by decide +kernel

/-! Small runs, their results worked out by hand from the spec. -/

/-- The check value of CRC-32C, of the nine digits (the published value of that code). -/
theorem test_crc32c : crc32c [0x31, 0x32, 0x33, 0x34, 0x35, 0x36, 0x37, 0x38, 0x39] = 0xE3069283 := by decide +kernel
/-- FP32: 1 + 1 = 2; 1 + 2^-24 is a tie that falls to the even 1; 1 + 3·2^-24 rises to 1 + 2^-22; max + max is infinity. -/
theorem test_fp32_add : addF32 0x3F800000 0x3F800000 = 0x40000000 ∧ addF32 0x3F800000 0x33800000 = 0x3F800000 ∧
    addF32 0x3F800000 0x34400000 = 0x3F800002 ∧ addF32 0x7F7FFFFF 0x7F7FFFFF = 0x7F800000 := by decide +kernel
/-- No row gives bits, so no word spells a command. -/
theorem test_no_word : decodeTableWord 8 1 = none := rfl
/-- A core that runs goes on past a NOP (R110). -/
theorem test_nop : (match exec (.nop 0 0) (up runs) with | .next t => (t.core 0).step == 1 | _ => false) = true := by decide +kernel
/-- A module that is not powered idles. -/
theorem test_idle : (match step State.reset with | .next t => decide (t = State.reset) | _ => false) = true := by decide +kernel
/-- The memory after reset has its form. -/
theorem test_reset_memory : Memory.allWf State.reset = true := by decide +kernel

end Sys2Proof.Tests
end

section
/-! PROOFS. The queue under a tick: every operation that a nanosecond of module time is made of leaves the queue as it is, in
every state, whatever the form of its memories (spec/02: R40; log 2). -/
namespace Sys2Proof.Laws

open Machine

section

variable (s : State) (m : Mv)

@[simp] theorem pending_ite (c : Prop) [Decidable c] (a b : State) :
    (if c then a else b).pending = if c then a.pending else b.pending := apply_ite ..

@[simp] theorem mv_s_ite (c : Prop) [Decidable c] (a b : Mv) : (if c then a else b).s = if c then a.s else b.s := apply_ite ..

@[simp] theorem fst_ite {β : Type} (c : Prop) [Decidable c] (a b : State × β) :
    (if c then a else b).1 = if c then a.1 else b.1 := apply_ite ..

theorem pending_fst {β : Type} {x : State × β} {t : State} {b : β} (h : x = (t, b)) : t.pending = x.1.pending := by
  rw [h]

/-- A walk over a list leaves the queue as it is where each of its steps does. -/
theorem pending_of_cons {α : Type} (f : State → List α → State) (hnil : ∀ s, (f s []).pending = s.pending)
    (hcons : ∀ s x xs, ∃ t, f s (x :: xs) = f t xs ∧ t.pending = s.pending) (s : State) (l : List α) :
    (f s l).pending = s.pending := by
  induction l generalizing s with
  | nil => exact hnil s
  | cons x xs ih =>
    obtain ⟨t, hf, ht⟩ := hcons s x xs
    rw [hf, ih, ht]

/-! #### Registers, events and records -/

@[simp] theorem pending_bump (k n : Nat) : (s.bump k n).pending = s.pending := rfl
@[simp] theorem pending_setBits (k m : Nat) : (s.setBits k m).pending = s.pending := rfl
@[simp] theorem pending_clearBits (k m : Nat) : (s.clearBits k m).pending = s.pending := rfl
@[simp] theorem pending_msix (fn vec : Nat) : (s.msix fn vec).pending = s.pending := by simp [State.msix]

@[simp] theorem pending_ledgerFull (type source owner object code arg value : Nat) :
    (s.ledgerFull type source owner object code arg value).pending = s.pending := by
  simp [State.ledgerFull]

@[simp] theorem pending_modCore (c : Nat) (f : Core → Core) : (s.modCore c f).pending = s.pending := rfl
@[simp] theorem pending_modRegion (q : Nat) (f : Region → Region) : (s.modRegion q f).pending = s.pending := rfl
@[simp] theorem pending_newTxn (t : Txn) : (s.newTxn t).pending = s.pending := rfl
@[simp] theorem pending_modPart (p : Nat) (f : Part → Part) : (s.modPart p f).pending = s.pending := rfl
@[simp] theorem pending_modLnk (i : Nat) (f : Link → Link) : (s.modLnk i f).pending = s.pending := rfl

@[simp] theorem pending_ledgerPart (type p object code arg value : Nat) :
    (s.ledgerPart type p object code arg value).pending = s.pending := by
  simp [State.ledgerPart]

@[simp] theorem pending_ledger (type source object code value : Nat) :
    (s.ledger type source object code value).pending = s.pending := by
  simp [State.ledger]

@[simp] theorem pending_drbg (n : Nat) : (s.drbg n).pending = s.pending := by simp [State.drbg]
@[simp] theorem pending_newKey : s.newKey.1.pending = s.pending := by simp [State.newKey]

@[simp] theorem pending_mbEvent (p type detail : Nat) : (s.mbEvent p type detail).pending = s.pending := by
  simp only [State.mbEvent]
  split <;> simp

@[simp] theorem pending_tellFault (p vcore code : Nat) : (s.tellFault p vcore code).pending = s.pending := by
  simp [State.tellFault]

@[simp] theorem pending_launchFault (p c code : Nat) : (s.launchFault p c code).pending = s.pending := by
  simp only [State.launchFault]
  split <;> simp

@[simp] theorem pending_seqFault (c code : Nat) : (s.seqFault c code).pending = s.pending := by simp [State.seqFault]

/-! #### Flits and bundles -/

@[simp] theorem pending_dropFlit (off : Nat) : (s.dropFlit off).pending = s.pending := by simp [State.dropFlit]

@[simp] theorem pending_freeRx (f : Flit) : (s.freeRx f).pending = s.pending := by
  simp only [State.freeRx]
  split <;> simp

@[simp] theorem pending_freeRxs (l : List LFlit) : (s.freeRxs l).pending = s.pending :=
  pending_of_cons State.freeRxs (fun _ => rfl) (fun _ _ _ => ⟨_, rfl, by simp⟩) s l

@[simp] theorem pending_sendBundle (i : Nat) (fs : List LFlit) : (s.sendBundle i fs).pending = s.pending := rfl

@[simp] theorem pending_pumpLink (i fuel : Nat) : (s.pumpLink i fuel).pending = s.pending := by
  induction fuel generalizing s with
  | zero => rfl
  | succ n ih => simp [State.pumpLink, ih]

@[simp] theorem pending_pump (i : Nat) : (s.pump i).pending = s.pending := by simp [State.pump]
@[simp] theorem pending_queueOn (i : Nat) (f : Flit) : (s.queueOn i f).pending = s.pending := by simp [State.queueOn]
@[simp] theorem pending_deliver (f : Flit) : (s.deliver f).pending = s.pending := by simp [State.deliver]

@[simp] theorem pending_route (f : Flit) : (s.route f).pending = s.pending := by
  simp only [State.route]
  split
  · simp
  · split <;> simp

@[simp] theorem pending_sendFlit (f : Flit) : (s.sendFlit f).pending = s.pending := by simp [State.sendFlit]

/-! #### Scratchpads -/

@[simp] theorem pending_openLine (c off : Nat) : (s.openLine c off).pending = s.pending := by simp [State.openLine]

@[simp] theorem pending_spadPut (c lo hi off : Nat) (b : Byte) : (s.spadPut c lo hi off b).pending = s.pending := by
  simp [State.spadPut]

@[simp] theorem pending_spadPuts (c lo hi off : Nat) (l : List Byte) : (s.spadPuts c lo hi off l).pending = s.pending := by
  induction l generalizing s off with
  | nil => rfl
  | cons b bs ih => simp [State.spadPuts, ih]

@[simp] theorem pending_spadWrite (c off : Nat) (bs : List Byte) : (s.spadWrite c off bs).pending = s.pending := by
  simp [State.spadWrite]

@[simp] theorem pending_flashClear (k : Nat) : (s.flashClear k).pending = s.pending := rfl
@[simp] theorem pending_countPoison (c n : Nat) : (s.countPoison c n).pending = s.pending := rfl

/-! #### Management events, alarms and control words -/

@[simp] theorem pending_sendEvents (l : List McEvent) : (s.sendEvents l).pending = s.pending := by
  induction l generalizing s with
  | nil => rfl
  | cons e es ih => simp [State.sendEvents, ih]

@[simp] theorem pending_mctpEvent (code object : Nat) : (s.mctpEvent code object).pending = s.pending := by
  simp only [State.mctpEvent]
  (repeat' split) <;> simp

@[simp] theorem pending_secAlarm (b : Nat) : (s.secAlarm b).pending = s.pending := by simp [State.secAlarm]

@[simp] theorem pending_sendWords (i kind : Nat) (payloads : List Nat) (auth : Bool) :
    (s.sendWords i kind payloads auth).pending = s.pending := by
  simp [State.sendWords]

@[simp] theorem pending_control (i kind payload : Nat) (auth : Bool) : (s.control i kind payload auth).pending = s.pending := by
  simp [State.control]

/-! #### The stack and its cache -/

@[simp] theorem pending_calm (sec : Nat) : (s.calm sec).pending = s.pending := rfl
@[simp] theorem pending_markPoison (sec : Nat) : (s.markPoison sec).pending = s.pending := rfl
@[simp] theorem pending_dropPoison (sec : Nat) : (s.dropPoison sec).pending = s.pending := rfl

@[simp] theorem pending_memRecord (code a : Nat) : (s.memRecord code a).pending = s.pending := by
  simp only [State.memRecord]
  split <;> simp

@[simp] theorem pending_corrected (a : Nat) : (s.corrected a).pending = s.pending := by simp [State.corrected]
@[simp] theorem pending_uncorrected (a : Nat) : (s.uncorrected a).pending = s.pending := by simp [State.uncorrected]

@[simp] theorem pending_integrityAlarm (p ipa : Nat) : (s.integrityAlarm p ipa).pending = s.pending := by
  simp [State.integrityAlarm]

@[simp] theorem pending_loseLine (sec : Nat) : (s.loseLine sec).pending = s.pending := by simp [State.loseLine]
@[simp] theorem pending_writeBack (sec : Nat) : (s.writeBack sec).pending = s.pending := by simp [State.writeBack]

@[simp] theorem pending_evict (sec : Nat) (l : CacheLine) : (s.evict sec l).pending = s.pending := by
  simp only [State.evict]
  (repeat' split) <;> simp

theorem pending_takeWay {s t : State} {a w : Nat} {ways : List Nat} (h : s.takeWay a ways = some (w, t)) :
    t.pending = s.pending := by
  simp only [State.takeWay] at h
  split at h
  · cases h
    rfl
  · split at h
    · cases h
      simp
    · cases h

@[simp] theorem pending_touchLine (a p valid dirty : Nat) : (s.touchLine a p valid dirty).pending = s.pending := by
  simp only [State.touchLine]
  split
  · simp
  · split
    · next h => simpa using pending_takeWay h
    · rfl

@[simp] theorem pending_charge (g p cost n : Nat) (paid : Bool) : (s.charge g p cost n paid).pending = s.pending := by
  simp [State.charge]

@[simp] theorem pending_stackRead (p ipa a n : Nat) (e : Ecc) (paid : Bool) :
    (s.stackRead p ipa a n e paid).1.pending = s.pending := by
  simp only [State.stackRead]
  (repeat' split) <;> simp

@[simp] theorem pending_dropBad (a : Nat) (l : CacheLine) : (s.dropBad a l).pending = s.pending := by simp [State.dropBad]

@[simp] theorem pending_homeRead (p ipa a n : Nat) (e : Ecc) (paid : Bool) :
    (s.homeRead p ipa a n e paid).1.pending = s.pending := by
  simp only [State.homeRead]
  (repeat' split) <;> simp

@[simp] theorem pending_storeSector (p ipa a : Nat) (bs : List Byte) : (s.storeSector p ipa a bs).pending = s.pending := by
  simp [State.storeSector]

@[simp] theorem pending_stackWrite (p ipa a : Nat) (bs : List Byte) (e : Ecc) :
    (s.stackWrite p ipa a bs e).1.pending = s.pending := by
  simp only [State.stackWrite]
  split <;> simp

@[simp] theorem pending_partWrite (p ipa a : Nat) (bs : List Byte) (e : Ecc) (paid : Bool) :
    (s.partWrite p ipa a bs e paid).1.pending = s.pending := by
  simp only [State.partWrite]
  (repeat' split) <;> simp

@[simp] theorem pending_healLine (sec : Nat) : (s.healLine sec).pending = s.pending := by
  simp only [State.healLine]
  split <;> simp

@[simp] theorem pending_homeWrite (p ipa a : Nat) (bs : List Byte) (e : Ecc) (paid : Bool) :
    (s.homeWrite p ipa a bs e paid).1.pending = s.pending := by
  simp only [State.homeWrite]
  (repeat' split) <;> simp

@[simp] theorem pending_takeTokens (port cls g n : Nat) : (s.takeTokens port cls g n).pending = s.pending := by
  simp [State.takeTokens]

/-! #### Translation and the accesses through it -/

@[simp] theorem pending_hostGoes (fn a : Nat) : (s.hostGoes fn a).pending = s.pending := by simp [State.hostGoes]

@[simp] theorem pending_stage2At (d p ipa : Nat) : (s.stage2At d p ipa).1.pending = s.pending := by
  simp only [State.stage2At]
  (repeat' split) <;> simp

@[simp] theorem pending_readTable (d p ipa : Nat) : (s.readTable d p ipa).1.pending = s.pending := by
  simp only [State.readTable]
  split
  · next h => simp [pending_fst h]
  · next s1 t h =>
    have h1 : s1.pending = s.pending := by simp [pending_fst h]
    split
    · exact h1
    · split
      · split
        · simp [h1]
        · exact h1
      · split <;> next h2 => simp [pending_fst h2, h1]

@[simp] theorem pending_s1Walk (d p va fuel table : Nat) : (s.s1Walk d p va fuel table).1.pending = s.pending := by
  induction fuel generalizing s table with
  | zero => rfl
  | succ n ih =>
    simp only [State.s1Walk]
    split
    · next h => simp [pending_fst h]
    · next s1 v h =>
      have h1 : s1.pending = s.pending := by simp [pending_fst h]
      simp [ih, h1]

@[simp] theorem pending_walk (d p va : Nat) (write : Bool) : (s.walk d p va write).1.pending = s.pending := by
  simp only [State.walk]
  split
  · rfl
  · split
    · next h => simp [pending_fst h]
    · next s1 a h =>
      have h1 : s1.pending = s.pending := by simp [pending_fst h]
      simp only [fst_ite, pending_ite, h1]
      refine ite_eq_left_iff.2 fun _ => ?_
      split
      · next h2 => simp [pending_fst h2, h1]
      · next s2 t h2 =>
        have h3 : s2.pending = s.pending := by simp [pending_fst h2, h1]
        simp [h3]

@[simp] theorem pending_xltFault (p port : Nat) (write : Bool) (f : XFault) :
    (s.xltFault p port write f).pending = s.pending := by
  simp [State.xltFault]

@[simp] theorem pending_fillL1 (e : Nat) (x : XltEntry) : (s.fillL1 e x).pending = s.pending := by simp [State.fillL1]

@[simp] theorem pending_translate (e p va : Nat) (write : Bool) : (s.translate e p va write).1.pending = s.pending := by
  simp only [State.translate]
  split
  · simp
  · split
    · simp
    · split <;> next h => simp [pending_fst h]

@[simp] theorem pending_dropXlt (f : XltEntry → Bool) : (s.dropXlt f).pending = s.pending := rfl
@[simp] theorem pending_spend (e p a n : Nat) : (s.spend e p a n).pending = s.pending := by simp [State.spend]

@[simp] theorem pending_readVa (e p va n fuel : Nat) : (s.readVa e p va n fuel).1.pending = s.pending := by
  induction fuel generalizing s va n with
  | zero => rfl
  | succ k ih =>
    simp only [State.readVa]
    split
    · rfl
    · split
      · next h => simp [pending_fst h]
      · next s1 x h =>
        have h1 : s1.pending = s.pending := by simp [pending_fst h]
        split
        · split <;> simp [ih, h1]
        · split <;> next h2 => simp [ih, pending_fst h2, h1]

@[simp] theorem pending_writeVa (e p va : Nat) (bs : List Byte) (fuel : Nat) :
    (s.writeVa e p va bs fuel).1.pending = s.pending := by
  induction fuel generalizing s va bs with
  | zero => rfl
  | succ k ih =>
    simp only [State.writeVa]
    split
    · rfl
    · split
      · next h => simp [pending_fst h]
      · next s1 x h =>
        have h1 : s1.pending = s.pending := by simp [pending_fst h]
        split
        · split <;> simp [ih, h1]
        · split <;> next h2 => simp [ih, pending_fst h2, h1]

/-! #### Regions and groups -/

@[simp] theorem pending_takeRegions (p g : Nat) (l : List Nat) : (s.takeRegions p g l).pending = s.pending :=
  pending_of_cons (fun s l => s.takeRegions p g l) (fun _ => rfl) (fun _ _ _ => ⟨_, rfl, by simp⟩) s l

@[simp] theorem pending_giveTakings (g : Nat) (l : List Taking) : (s.giveTakings g l).pending = s.pending :=
  pending_of_cons (fun s l => s.giveTakings g l) (fun _ => rfl) (fun _ _ _ => ⟨_, rfl, by simp⟩) s l

@[simp] theorem pending_wakeGroup (g : Nat) : (s.wakeGroup g).pending = s.pending := by simp [State.wakeGroup]

/-! #### Scratchpad upsets -/

@[simp] theorem pending_upset (c : Nat) (o : Option (Fin 1048576)) : (s.upset c o).pending = s.pending := by
  cases o <;> simp [State.upset]

/-! #### Requests through windows -/

@[simp] theorem pending_countRefuse (code : Nat) : (s.countRefuse code).pending = s.pending := rfl

@[simp] theorem pending_sendFlits (l : List Flit) : (s.sendFlits l).pending = s.pending :=
  pending_of_cons State.sendFlits (fun _ => rfl) (fun _ _ _ => ⟨_, rfl, by simp⟩) s l

@[simp] theorem pending_sendWin (r : WinReq) : (s.sendWin r).pending = s.pending := by simp [State.sendWin]

@[simp] theorem pending_pumpWinQ (kept l : List WinReq) : (s.pumpWinQ kept l).pending = s.pending := by
  induction l generalizing s kept with
  | nil => rfl
  | cons r rs ih => simp [State.pumpWinQ, ih]

@[simp] theorem pending_pumpWin : s.pumpWin.pending = s.pending := by simp [State.pumpWin]

/-! #### The rows a transfer moves -/

@[simp] theorem pending_xRead (x : Xfer) (e space a n : Nat) : (s.xRead x e space a n).1.pending = s.pending := by
  simp only [State.xRead]
  split
  · rfl
  · split <;> simp

@[simp] theorem pending_xWrite (x : Xfer) (e space a : Nat) (bs : List Byte) :
    (s.xWrite x e space a bs).1.pending = s.pending := by
  simp only [State.xWrite]
  split
  · rfl
  · split
    · simp
    · simp
    · split <;> simp

@[simp] theorem pending_mv_put (x : Xfer) (e space a : Nat) (bs : List Byte) :
    (m.put x e space a bs).s.pending = m.s.pending := by
  simp only [Mv.put]
  split <;> simp

@[simp] theorem pending_mv_putRow (x : Xfer) (e : Nat) (dd : Desc) (df : Fmt) (row : Nat) (r : List Byte × List Byte × Counts) :
    (m.putRow x e dd df row r).s.pending = m.s.pending := by
  simp only [Mv.putRow]
  split <;> simp

@[simp] theorem pending_mv_getRow (x : Xfer) (e : Nat) (sd : Desc) (sf : Fmt) (row : Nat) :
    (m.getRow x e sd sf row).1.s.pending = m.s.pending := by
  simp only [Mv.getRow]
  split
  · rfl
  · split
    · next s1 bs h =>
      have h1 : s1.pending = m.s.pending := by simp [pending_fst h]
      split <;> next h2 => simp [pending_fst h2, h1]
    · next h => simp [pending_fst h]

@[simp] theorem pending_mv_moveRow (x : Xfer) (e : Nat) (sd dd : Desc) (sf df : Fmt) (srow drow idx : Nat) :
    (m.moveRow x e sd dd sf df srow drow idx).s.pending = m.s.pending := by
  simp [Mv.moveRow]

@[simp] theorem pending_mv_moveRows (x : Xfer) (e : Nat) (sd dd : Desc) (sf df : Fmt) (base i n : Nat) :
    (m.moveRows x e sd dd sf df base i n).s.pending = m.s.pending := by
  induction n generalizing m i with
  | zero => rfl
  | succ n ih =>
    simp only [Mv.moveRows]
    split <;> simp [ih]

@[simp] theorem pending_mv_readRows (x : Xfer) (e : Nat) (sd : Desc) (sf : Fmt) (i n : Nat) :
    (m.readRows x e sd sf i n).1.s.pending = m.s.pending := by
  induction n generalizing m i with
  | zero => rfl
  | succ n ih => simp [Mv.readRows, ih]

@[simp] theorem pending_mv_putTrans (x : Xfer) (e : Nat) (sd dd : Desc) (sf df : Fmt) (rows : List (List Byte × List Byte))
    (base j n : Nat) :
    (m.putTrans x e sd dd sf df rows base j n).s.pending = m.s.pending := by
  induction n generalizing m j with
  | zero => rfl
  | succ n ih =>
    simp only [Mv.putTrans]
    split <;> simp [ih]

@[simp] theorem pending_mv_move2d (x : Xfer) (e : Nat) (sd dd : Desc) (sf df : Fmt) (base : Nat) :
    (m.move2d x e sd dd sf df base).s.pending = m.s.pending := by
  simp only [Mv.move2d]
  split <;> simp

@[simp] theorem pending_mv_repeats (x : Xfer) (e : Nat) (rep : Repeat) (sf df : Fmt) (r n : Nat) :
    (m.repeats x e rep sf df r n).s.pending = m.s.pending := by
  induction n generalizing m r with
  | zero => rfl
  | succ n ih =>
    simp only [Mv.repeats]
    (repeat' split) <;> simp [ih]

@[simp] theorem pending_mv_gather (x : Xfer) (e : Nat) (sf df : Fmt) (i : Nat) (l : List Nat) :
    (m.gather x e sf df i l).s.pending = m.s.pending := by
  induction l generalizing m i with
  | nil => rfl
  | cons n ns ih =>
    simp only [Mv.gather]
    (repeat' split) <;> simp [ih]

@[simp] theorem pending_mv_scatter (x : Xfer) (e : Nat) (sf df : Fmt) (i : Nat) (l : List Nat) :
    (m.scatter x e sf df i l).s.pending = m.s.pending := by
  induction l generalizing m i with
  | nil => rfl
  | cons n ns ih =>
    simp only [Mv.scatter]
    (repeat' split) <;> simp [ih]

@[simp] theorem pending_mv_direct (x : Xfer) (e : Nat) (sf : Fmt) (i : Nat) (l : List Nat) :
    (m.direct x e sf i l).s.pending = m.s.pending := by
  induction l generalizing m i with
  | nil => rfl
  | cons n ns ih =>
    simp only [Mv.direct]
    (repeat' split) <;> simp [ih]

@[simp] theorem pending_modXfer (e core seq : Nat) (f : Xfer → Xfer) : (s.modXfer e core seq f).pending = s.pending := rfl
@[simp] theorem pending_mv_close (x : Xfer) (e : Nat) : (m.close x e).pending = m.s.pending := by simp [Mv.close]

@[simp] theorem pending_leaveOpen (x : Xfer) (e : Nat) (l : List (Nat × Nat × Nat)) : (s.leaveOpen x e l).pending = s.pending :=
  pending_of_cons (fun s l => s.leaveOpen x e l) (fun _ => rfl) (fun _ _ _ => ⟨_, rfl, by simp⟩) s l

@[simp] theorem pending_mv_rest (x : Xfer) (e : Nat) (rs : List (Nat × Nat × Nat)) : (m.rest x e rs).s.pending = m.s.pending := by
  simp only [Mv.rest]
  split <;> simp

@[simp] theorem pending_refuseXfer (x : Xfer) (e st : Nat) : (s.refuseXfer x e st).pending = s.pending := by
  simp [State.refuseXfer]

@[simp] theorem pending_runDirect (x : Xfer) (e : Nat) : (s.runDirect x e).pending = s.pending := by
  simp only [State.runDirect]
  split <;> simp

@[simp] theorem pending_runXfer (x : Xfer) (e : Nat) : (s.runXfer x e).pending = s.pending := by
  simp only [State.runXfer]
  (repeat' split) <;> simp

@[simp] theorem pending_fetchRanges (x : Xfer) (e : Nat) (l : List (Nat × Nat)) : (s.fetchRanges x e l).pending = s.pending := by
  induction l generalizing s with
  | nil => simp [State.fetchRanges]
  | cons q qs ih =>
    simp only [State.fetchRanges]
    split <;> simp [ih]

/-! #### Transfers -/

@[simp] theorem pending_withDescs (c : Nat) (w : StepWord) (f : Desc → Desc → State)
    (hf : ∀ sd dd, (f sd dd).pending = s.pending) :
    (s.withDescs c w f).pending = s.pending := by
  simp only [State.withDescs]
  split <;> simp [hf]

@[simp] theorem pending_withSeed (c : Nat) (w : StepWord) (ds : List Desc) (f : Nat → State)
    (hf : ∀ seed, (f seed).pending = s.pending) :
    (s.withSeed c w ds f).pending = s.pending := by
  simp only [State.withSeed]
  (repeat' split) <;> simp [hf]

@[simp] theorem pending_sendRequests (x : Xfer) (e self : Nat) (entries : List Nat) (count : Bool) (l : List Nat) :
    (s.sendRequests x e self entries count l).pending = s.pending :=
  pending_of_cons (fun s l => s.sendRequests x e self entries count l) (fun _ => rfl) (fun _ _ _ => ⟨_, rfl, by simp⟩) s l

@[simp] theorem pending_spillRequest (x : Xfer) (e : Nat) (d : Disp) : (s.spillRequest x e d).1.pending = s.pending := by
  simp only [State.spillRequest]
  split <;> simp

@[simp] theorem pending_openDispatch (x : Xfer) (e : Nat) (l : Desc) (st : Nat) :
    (s.openDispatch x e l st).pending = s.pending := by
  simp [State.openDispatch]

@[simp] theorem pending_runDispatch (x : Xfer) (e : Nat) : (s.runDispatch x e).pending = s.pending := by
  simp only [State.runDispatch]
  split <;> simp

@[simp] theorem pending_runBucketCount (x : Xfer) (e : Nat) : (s.runBucketCount x e).pending = s.pending := by
  simp [State.runBucketCount]

@[simp] theorem pending_takePages (p : Nat) (l : List (Nat × Nat)) : (s.takePages p l).pending = s.pending :=
  pending_of_cons (fun s l => s.takePages p l) (fun _ => rfl) (fun _ _ _ => ⟨_, rfl, by simp⟩) s l

@[simp] theorem pending_runAlloc (x : Xfer) (e : Nat) : (s.runAlloc x e).pending = s.pending := by
  simp only [State.runAlloc]
  split <;> simp

@[simp] theorem pending_freeSlot (p i pg : Nat) : (s.freeSlot p i pg).pending = s.pending := rfl

@[simp] theorem pending_freeOne (p : Nat) (r : State × Nat) (va : Nat) : (State.freeOne p r va).1.pending = r.1.pending := by
  simp only [State.freeOne]
  (repeat' split) <;> simp

@[simp] theorem pending_freeList (p : Nat) (vs : List Nat) : (s.freeList p vs).1.pending = s.pending :=
  List.foldlRecOn (motive := fun r : State × Nat => r.1.pending = s.pending) vs _ rfl
    fun r h va _ => (pending_freeOne p r va).trans h

@[simp] theorem pending_runFree (x : Xfer) (e : Nat) : (s.runFree x e).pending = s.pending := by
  simp only [State.runFree]
  split <;> simp

@[simp] theorem pending_runNow (x : Xfer) (e : Nat) : (s.runNow x e).pending = s.pending := by
  simp only [State.runNow]
  split <;> simp

@[simp] theorem pending_runIfFetched (e core seq : Nat) : (s.runIfFetched e core seq).pending = s.pending := by
  simp only [State.runIfFetched]
  split <;> simp

@[simp] theorem pending_beginXfer (x : Xfer) (e : Nat) : (s.beginXfer x e).pending = s.pending := by
  simp only [State.beginXfer]
  (repeat' split) <;> simp

@[simp] theorem pending_pumpEngine (e fuel : Nat) : (s.pumpEngine e fuel).pending = s.pending := by
  induction fuel generalizing s with
  | zero => rfl
  | succ n ih =>
    simp only [State.pumpEngine]
    split <;> simp [ih]

@[simp] theorem pending_startXfer (x : Xfer) (e : Nat) : (s.startXfer x e).pending = s.pending := by simp [State.startXfer]

@[simp] theorem pending_startRefused (x : Xfer) (e st : Nat) : (s.startRefused x e st).pending = s.pending := by
  simp [State.startRefused]

@[simp] theorem pending_startCopy (kind : XferKind) (c e : Nat) (w : StepWord) (n : Nat) :
    (s.startCopy kind c e w n).pending = s.pending := by
  simp only [State.startCopy]
  (repeat' split) <;> simp

@[simp] theorem pending_startLcopy (c e : Nat) (w : StepWord) (n : Nat) : (s.startLcopy c e w n).pending = s.pending := by
  simp [State.startLcopy]

@[simp] theorem pending_startLs (c e : Nat) (w : StepWord) (n : Nat) : (s.startLs c e w n).pending = s.pending := by
  simp [State.startLs]

@[simp] theorem pending_startGather (c e : Nat) (w : StepWord) (n : Nat) : (s.startGather c e w n).pending = s.pending := by
  simp only [State.startGather]
  split <;> simp

@[simp] theorem pending_startScatter (c e : Nat) (w : StepWord) (n : Nat) : (s.startScatter c e w n).pending = s.pending := by
  simp only [State.startScatter]
  refine pending_withDescs s c w _ fun sd dd => ?_
  split
  · simp
  · split
    · split <;> simp
    · simp

@[simp] theorem pending_startBucketCount (c e : Nat) (w : StepWord) (n : Nat) :
    (s.startBucketCount c e w n).pending = s.pending := by
  simp only [State.startBucketCount]
  split <;> simp

@[simp] theorem pending_startAlloc (c e : Nat) (w : StepWord) (n : Nat) (picks : List (Nat × Nat)) :
    (s.startAlloc c e w n picks).pending = s.pending := by
  simp only [State.startAlloc]
  split <;> simp

@[simp] theorem pending_startFree (c e : Nat) (w : StepWord) (n : Nat) : (s.startFree c e w n).pending = s.pending := by
  simp only [State.startFree]
  split <;> simp

@[simp] theorem pending_startStep (c e n : Nat) (w : StepWord) (f : XfStep) : (s.startStep c e n w f).pending = s.pending := by
  cases f <;> simp [State.startStep]

@[simp] theorem pending_startHeld (c : Nat) (h : HeldXf) : (s.startHeld c h).pending = s.pending := by simp [State.startHeld]

@[simp] theorem pending_pumpHeld (c fuel : Nat) : (s.pumpHeld c fuel).pending = s.pending := by
  induction fuel generalizing s with
  | zero => rfl
  | succ n ih =>
    simp only [State.pumpHeld]
    split <;> simp [ih]

@[simp] theorem pending_pumpCores (l : List Nat) : (s.pumpCores l).pending = s.pending :=
  pending_of_cons State.pumpCores (fun _ => rfl) (fun _ _ _ => ⟨_, rfl, by simp⟩) s l

@[simp] theorem pending_refillEngine (e : Nat) : (s.refillEngine e).pending = s.pending := by simp [State.refillEngine]

/-! #### Descriptors and completions -/

@[simp] theorem pending_cqInterrupt (fn q : Nat) : (s.cqInterrupt fn q).pending = s.pending := by simp [State.cqInterrupt]
@[simp] theorem pending_cqPut (fn q : Nat) (c : CqRec) : (s.cqPut fn q c).pending = s.pending := by simp [State.cqPut]
@[simp] theorem pending_cqOffer (fn q : Nat) (c : CqRec) : (s.cqOffer fn q c).pending = s.pending := by simp [State.cqOffer]

@[simp] theorem pending_refOutcome (fn bit entry code : Nat) (sent : Bool) :
    (s.refOutcome fn bit entry code sent).pending = s.pending := by
  simp [State.refOutcome]

@[simp] theorem pending_sendRefs (d : HostDesc) (l : List Nat) : (s.sendRefs d l).1.pending = s.pending := by
  induction l generalizing s with
  | nil => rfl
  | cons e es ih => simp [State.sendRefs, ih]

@[simp] theorem pending_finishDesc (d : HostDesc) (status result : Nat) : (s.finishDesc d status result).pending = s.pending := by
  simp [State.finishDesc]

@[simp] theorem pending_complete (id status result : Nat) : (s.complete id status result).pending = s.pending := by
  simp only [State.complete]
  (repeat' split) <;> simp

@[simp] theorem pending_endRefused (fn r fuel : Nat) : (s.endRefused fn r fuel).pending = s.pending := by
  induction fuel generalizing s with
  | zero => rfl
  | succ n ih =>
    simp only [State.endRefused]
    split
    · rfl
    · split <;> simp [ih]

@[simp] theorem pending_ringGo (fn r : Nat) : (s.ringGo fn r).pending = s.pending := by simp [State.ringGo]

@[simp] theorem pending_endDesc (id status result : Nat) : (s.endDesc id status result).pending = s.pending := by
  simp only [State.endDesc]
  split <;> simp

/-! #### Faults of synchronization objects -/

@[simp] theorem pending_objReport (n srcKind src : Nat) : (s.objReport n srcKind src).pending = s.pending := by
  simp only [State.objReport]
  split <;> simp

/-! #### Global operations -/

@[simp] theorem pending_gop (p tree op dir seq link label idx units off : Nat) (body : List Byte) :
    (s.gop p tree op dir seq link label idx units off body).pending = s.pending := by
  simp [State.gop]

/-! #### Launches -/

@[simp] theorem pending_endHostWaits (status result : Nat) (l : List Waiter) :
    (s.endHostWaits status result l).pending = s.pending := by
  induction l generalizing s with
  | nil => rfl
  | cons w ws ih => cases w <;> simp [State.endHostWaits, ih]

@[simp] theorem pending_tellMembers (p kind a b : Nat) : (s.tellMembers p kind a b).pending = s.pending := rfl

/-! #### Descriptors and transfers removed -/

@[simp] theorem pending_abortCopies (l : List (Nat × Xfer)) : (s.abortCopies l).pending = s.pending := by
  refine pending_of_cons State.abortCopies (fun _ => rfl) (fun s x xs => ⟨_, rfl, ?_⟩) s l
  split <;> simp

@[simp] theorem pending_stopXfers (l : List (Nat × Xfer)) : (s.stopXfers l).pending = s.pending :=
  pending_of_cons State.stopXfers (fun _ => rfl) (fun _ _ _ => ⟨_, rfl, by simp⟩) s l

@[simp] theorem pending_refillAll (l : List Nat) : (s.refillAll l).pending = s.pending :=
  pending_of_cons State.refillAll (fun _ => rfl) (fun _ _ _ => ⟨_, rfl, by simp⟩) s l

@[simp] theorem pending_dropXfers (f : Xfer → Bool) : (s.dropXfers f).1.pending = s.pending := by simp [State.dropXfers]
@[simp] theorem pending_pullXfers (f : Xfer → Bool) : (s.pullXfers f).1.pending = s.pending := by simp [State.pullXfers]

@[simp] theorem pending_removeDesc (d : HostDesc) : (s.removeDesc d).pending = s.pending := by
  simp only [State.removeDesc]
  (repeat' split) <;> simp

@[simp] theorem pending_removeDescs (l : List HostDesc) : (s.removeDescs l).1.pending = s.pending := by
  induction l generalizing s with
  | nil => rfl
  | cons d ds ih =>
    simp only [State.removeDescs]
    split <;> simp [ih]

@[simp] theorem pending_ctxRemove (v h cause : Nat) : (s.ctxRemove v h cause).1.pending = s.pending := by simp [State.ctxRemove]

@[simp] theorem pending_ctxRemoves (v cause : Nat) (l : List Nat) : (s.ctxRemoves v cause l).pending = s.pending :=
  pending_of_cons (fun s l => s.ctxRemoves v cause l) (fun _ => rfl) (fun _ _ _ => ⟨_, rfl, by simp⟩) s l

@[simp] theorem pending_tdiTo (v : Nat) (st : TdiSt) : (s.tdiTo v st).pending = s.pending := by simp [State.tdiTo]
@[simp] theorem pending_tdiFail (v : Nat) : (s.tdiFail v).pending = s.pending := by simp [State.tdiFail]
@[simp] theorem pending_endTenants (p : Nat) : (s.endTenants p).pending = s.pending := rfl

/-! #### Partitions -/

@[simp] theorem pending_setSt (p : Nat) (st : PartSt) : (s.setSt p st).pending = s.pending := by simp [State.setSt]

@[simp] theorem pending_endBinds (code epoch : Nat) (cat : List Byte) (hash : Bool) (l : List (Nat × Nat)) :
    (s.endBinds code epoch cat hash l).pending = s.pending :=
  pending_of_cons (fun s l => s.endBinds code epoch cat hash l) (fun _ => rfl) (fun _ _ _ => ⟨_, rfl, by simp⟩) s l

@[simp] theorem pending_mctpBindEnd (seqs : List Nat) (comp code : Nat) : (s.mctpBindEnd seqs comp code).pending = s.pending := by
  simp [State.mctpBindEnd]

@[simp] theorem pending_opEnd (p code : Nat) : (s.opEnd p code).pending = s.pending := by
  simp only [State.opEnd]
  split <;> simp

@[simp] theorem pending_revokeWins (f : InWin → Bool) (l : List Nat) : (s.revokeWins f l).1.pending = s.pending := by
  induction l generalizing s with
  | nil => rfl
  | cons w ws ih => simp [State.revokeWins, ih]

@[simp] theorem pending_freePool (p : Nat) : (s.freePool p).pending = s.pending := rfl
@[simp] theorem pending_dropRegion (q : Nat) : (s.dropRegion q).pending = s.pending := rfl

@[simp] theorem pending_dropRegions (l : List Nat) : (s.dropRegions l).pending = s.pending :=
  pending_of_cons State.dropRegions (fun _ => rfl) (fun _ _ _ => ⟨_, rfl, by simp⟩) s l

@[simp] theorem pending_dropGroup (p g : Nat) : (s.dropGroup p g).pending = s.pending := by simp [State.dropGroup]

@[simp] theorem pending_dropGroups (p : Nat) (l : List Nat) : (s.dropGroups p l).pending = s.pending :=
  pending_of_cons (fun s l => s.dropGroups p l) (fun _ => rfl) (fun _ _ _ => ⟨_, rfl, by simp⟩) s l

@[simp] theorem pending_dropUpdate (p : Nat) : (s.dropUpdate p).pending = s.pending := by simp [State.dropUpdate]

/-! #### Composition resets -/

@[simp] theorem pending_takeSample (p slot : Nat) (running : Bool) (hang : Option Nat) :
    (s.takeSample p slot running hang).pending = s.pending := by
  simp only [State.takeSample]
  (repeat' split) <;> simp

@[simp] theorem pending_calmObjs (l : List Nat) : (s.calmObjs l).pending = s.pending :=
  pending_of_cons State.calmObjs (fun _ => rfl) (fun _ _ _ => ⟨_, rfl, by simp⟩) s l

@[simp] theorem pending_restTxns (p : Nat) : (s.restTxns p).pending = s.pending := rfl

@[simp] theorem pending_abortQueue (l : List Queued) : (s.abortQueue l).pending = s.pending :=
  pending_of_cons State.abortQueue (fun _ => rfl) (fun _ _ _ => ⟨_, rfl, by simp⟩) s l

@[simp] theorem pending_flashAll (l : List Nat) : (s.flashAll l).pending = s.pending :=
  pending_of_cons State.flashAll (fun _ => rfl) (fun _ _ _ => ⟨_, rfl, by simp⟩) s l

@[simp] theorem pending_removeWork (p : Nat) : (s.removeWork p).pending = s.pending := by simp [State.removeWork]

@[simp] theorem pending_resetLocal (p : Nat) (cause : ResetCause) (asked : Bool) :
    (s.resetLocal p cause asked).pending = s.pending := by
  simp [State.resetLocal]

@[simp] theorem pending_resetFlit (p dir link : Nat) : (s.resetFlit p dir link).pending = s.pending := by simp [State.resetFlit]

@[simp] theorem pending_resetFlits (p dir : Nat) (l : List Nat) : (s.resetFlits p dir l).pending = s.pending :=
  pending_of_cons (fun s l => s.resetFlits p dir l) (fun _ => rfl) (fun _ _ _ => ⟨_, rfl, by simp⟩) s l

@[simp] theorem pending_resetStart (p : Nat) (cause : ResetCause) : (s.resetStart p cause).pending = s.pending := by
  simp [State.resetStart]

/-! #### Management descriptors -/

@[simp] theorem pending_mgmtEnd (id status : Nat) (out : List Byte) : (s.mgmtEnd id status out).pending = s.pending := by
  simp only [State.mgmtEnd]
  split <;> simp

/-! #### The entropy source -/

@[simp] theorem pending_secEvent (bit event object code : Nat) : (s.secEvent bit event object code).pending = s.pending := by
  simp [State.secEvent]

@[simp] theorem pending_failHeld (status : Nat) (l : List CusReq) : (s.failHeld status l).pending = s.pending :=
  pending_of_cons (fun s l => s.failHeld status l) (fun _ => rfl) (fun _ _ _ => ⟨_, rfl, by simp⟩) s l

@[simp] theorem pending_esFail (st : EsSt) : (s.esFail st).pending = s.pending := by simp [State.esFail]
@[simp] theorem pending_esFailed : s.esFailed.pending = s.pending := by simp [State.esFailed]

@[simp] theorem pending_testFails : s.testFails.pending = s.pending := by
  simp only [State.testFails]
  split <;> simp

@[simp] theorem pending_sampleBoth (x y : Bool) : (s.sampleBoth x y).pending = s.pending := by simp [State.sampleBoth]

/-! #### Re-encryption walks -/

@[simp] theorem pending_reencrypt (q sec : Nat) (bad : Bool) : (s.reencrypt q sec bad).pending = s.pending := by
  simp only [State.reencrypt]
  split <;> simp

@[simp] theorem pending_walkStep (q : Nat) : (s.walkStep q).pending = s.pending := by simp [State.walkStep]

@[simp] theorem pending_walkSteps (l : List Nat) : (s.walkSteps l).pending = s.pending :=
  pending_of_cons State.walkSteps (fun _ => rfl) (fun _ _ _ => ⟨_, rfl, by simp⟩) s l

/-! #### The tick -/

@[simp] theorem pending_controlError (kind i x : Nat) : (s.controlError kind i x).pending = s.pending := by
  simp only [State.controlError]
  split <;> simp

@[simp] theorem pending_mendWins : s.mendWins.pending = s.pending := rfl

@[simp] theorem pending_struck (x : Nat × Nat × Nat) : (s.struck x).pending = s.pending := by
  simp only [State.struck]
  split <;> simp

@[simp] theorem pending_monitorCages (l : List Nat) : (s.monitorCages l).pending = s.pending :=
  pending_of_cons State.monitorCages (fun _ => rfl) (fun _ _ _ => ⟨_, rfl, by simp⟩) s l

@[simp] theorem pending_sampleNoise : s.sampleNoise.pending = s.pending := by simp [State.sampleNoise]

@[simp] theorem pending_idleOn (l : List Nat) : (s.idleOn l).pending = s.pending :=
  pending_of_cons State.idleOn (fun _ => rfl) (fun _ _ _ => ⟨_, rfl, by simp⟩) s l

@[simp] theorem pending_tick : s.tick.pending = s.pending := by simp [State.tick]

end

/-! ### The step (R7, R10, R116) -/

/-- A step runs the command at the front of the queue, with the queue's rest (log 1). -/
theorem step_of_pending_cons {c : Instr} {cs : List Instr} {s : State} (h : s.pending = c :: cs) :
    step s = exec c { s with pending := cs } := by
  simp only [step, h]

theorem step_of_pending_nil {s : State} (h : s.pending = []) : step s = .next s.tick := by
  simp only [step, h]

/-- The one stop of the model: SIGNAL with an AMOUNT of 0 on a core that is ready (R7, log 3). -/
theorem signal_of_zero {k : CoreId} {w : StepWord} {s : State} (hk : (s.core k).ready = true) (hw : fld w 95 88 = 0) :
    exec (.signal k w) s = .fault (.undefinedWithin "partition") :=
  if_pos ⟨hk, hw⟩

theorem signal_completes {k : CoreId} {w : StepWord} {s : State} (h : (s.core k).ready = true → fld w 95 88 ≠ 0) :
    Completes (.signal k w) s :=
  ⟨_, if_neg fun hz => h hz.1 hz.2⟩

/-- Every command but SIGNAL answers a next state in every state: its meaning is a next state by definition. -/
theorem completes_of_ne_signal {c : Instr} (h : ∀ k w, c ≠ .signal k w) (s : State) : Completes c s := by
  cases c with
  | signal k w => exact absurd rfl (h k w)
  | _ => exact ⟨_, rfl⟩

theorem runsThrough_of_ne_signal {cs : List Instr} (h : ∀ d ∈ cs, ∀ k w, d ≠ .signal k w) (s : State) :
    RunsThrough cs s := by
  induction cs generalizing s with
  | nil => trivial
  | cons c cs ih =>
    obtain ⟨t, ht⟩ := completes_of_ne_signal (h c List.mem_cons_self) { s with pending := cs }
    exact ⟨t, ht, ih (fun d hd => h d (List.mem_cons_of_mem c hd)) t⟩

/-- Settles O54: the tick leaves the empty queue empty, by the frame of every operation that a tick is made of; the
commands by cases. -/
theorem queueFirst : Obligations.QueueFirst := by
  intro c cs s
  refine ⟨step_of_pending_cons, fun h => ⟨_, step_of_pending_nil h, (pending_tick s).trans h⟩, fun h => ?_,
    fun k w => signal_of_zero, fun h => runsThrough_of_ne_signal h s⟩
  by_cases hc : ∃ k w, c = .signal k w
  · obtain ⟨k, w, rfl⟩ := hc
    exact signal_completes (h k w rfl)
  · exact completes_of_ne_signal (fun k w he => hc ⟨k, w, he⟩) s

end Sys2Proof.Laws
end

section
/-! PROOFS. Writes of registers, and reads and writes of registers over MCTP (spec/14: R378, R403, R404). -/
namespace Sys2Proof.Laws

open Machine

theorem exec_registerWrite (t : RegTarget) (s : State) : exec (.registerWrite t) s = execRegisterWrite t s := rfl

theorem exec_regRead (bus : Fin 2) (seq block : Fin 256) (off : W32) (count : Fin 256) (s : State) :
    exec (.regRead bus seq block off count) s = execRegRead bus seq block off count s := rfl

theorem exec_regWrite (bus : Fin 2) (session : Option (Fin 65536)) (seq block : Fin 256) (off : W32) (ws : List W32) (s : State) :
    exec (.regWrite bus session seq block off ws) s = execRegWrite bus session seq block off ws s := rfl

/-! ### Writes of registers through BAR 0 (R8, R378) -/

section

variable {s : State} {via : Via} {r : RegRow} {i j a v : Nat}

/-- A write through a path that does not reach the register changes nothing (R404, R584). -/
theorem writeAt_of_not_reaches (h : s.reaches via r i = false) : s.writeAt via r i j a v = s := by
  simp [State.writeAt, h]

theorem writeAt_of_reaches (h : s.reaches via r i = true) : s.writeAt via r i j a v = s.writeRow via r i j a v := if_pos h

/-- An RO register ignores a write (R8). -/
theorem writeAt_of_ro (h : r.acc = .ro) : s.writeAt via r i j a v = s := by
  simp [State.writeAt, State.writeRow, h]

theorem writeWord_of_narrow (hr : regAt a = some (r, i, j)) (hw : r.wide = false) :
    s.writeWord via a v = s.writeAt via r i j a v := by
  simp [State.writeWord, hr, hw]

/-- A 4-byte write of a 64-bit WO register is ignored (R378). -/
theorem writeWord_of_wide_wo (hr : regAt a = some (r, i, j)) (hw : r.wide = true) (ha : r.acc = .wo) :
    s.writeWord via a v = s := by
  simp [State.writeWord, hr, hw, ha]

/-- A 4-byte write where no register lies, nor the lower half of one before it, changes nothing (R378, R584). -/
theorem writeWord_of_none (hr : regAt a = none) (hlo : a < 4 ∨ regAt (a - 4) = none) : s.writeWord via a v = s := by
  rcases hlo with hlo | hlo <;> simp [State.writeWord, hr, hlo]

theorem writeWide_of_wide (hr : regAt a = some (r, i, j)) (hw : r.wide = true) :
    s.writeWide via a v = s.writeAt via r i j a v := by
  simp [State.writeWide, hr, hw]

/-- An 8-byte write of a 32-bit register or of an RO one changes nothing (R378, R8). -/
theorem writeWide_of_narrow_or_ro (hr : regAt a = some (r, i, j)) (h : r.wide = false ∨ r.acc = .ro) :
    s.writeWide via a v = s := by
  rcases h with hw | ha
  · simp [State.writeWide, hr, hw]
  · simp [State.writeWide, hr, writeAt_of_ro ha]

theorem writeWide_of_none (hr : regAt a = none) : s.writeWide via a v = s := by
  simp [State.writeWide, hr]

end

section

variable {s : State} {fn : FnId}

theorem bar0_of_ignored {a : Fin (2 ^ 26)} {size : Nat} {v : W64}
    (h : ¬ s.hostOn fn = true ∨ (size = 4 ∧ a.val % 4 ≠ 0) ∨ (size = 8 ∧ a.val % 8 ≠ 0) ∨ (size ≠ 4 ∧ size ≠ 8)) :
    exec (.registerWrite (.bar0 fn a size v)) s = .next s := by
  show Host.Outcome.next (ite _ _ _) = _
  by_cases hf : s.hostOn fn = true
  · have hsize := h.resolve_left (not_not_intro hf)
    rw [if_neg (by simp [hf]), if_neg (by omega), if_neg (by omega)]
  · rw [if_pos (by simp [hf])]

theorem bar0_of_word {a : Fin (2 ^ 26)} {v : W64} (hf : s.hostOn fn = true) (ha : a.val % 4 = 0) :
    exec (.registerWrite (.bar0 fn a 4 v)) s = .next (s.writeWord (.fn fn) a (v.toNat % 2 ^ 32)) := by
  simp [exec_registerWrite, execRegisterWrite, hf, ha]

theorem bar0_of_wide {a : Fin (2 ^ 26)} {v : W64} (hf : s.hostOn fn = true) (ha : a.val % 8 = 0) :
    exec (.registerWrite (.bar0 fn a 8 v)) s = .next (s.writeWide (.fn fn) a v.toNat) := by
  simp [exec_registerWrite, execRegisterWrite, hf, ha]

/-! ### The other targets of a register write -/

/-- AtomicOp enable: the function's own entry is written and nothing else (the model's choice: log 51). -/
theorem atomicEnable_of_hostOn (on : Bool) (hf : s.hostOn fn = true) :
    ∃ t, exec (.registerWrite (.atomicEnable fn on)) s = .next t ∧ (fn.val ∈ t.pcie.atomic ↔ on = true)
      ∧ (∀ f, f ≠ fn.val → (f ∈ t.pcie.atomic ↔ f ∈ s.pcie.atomic))
      ∧ t = { s with pcie := { s.pcie with atomic := t.pcie.atomic } } := by
  refine ⟨_, congrArg Host.Outcome.next (if_pos hf), ?_, fun f hne => ?_, rfl⟩
  · cases on <;> simp
  · cases on <;> simp [hne]

theorem atomicEnable_of_not_hostOn (on : Bool) (hf : ¬ s.hostOn fn = true) :
    exec (.registerWrite (.atomicEnable fn on)) s = .next s :=
  congrArg Host.Outcome.next (if_neg hf)

theorem msixTable_of_not_hostOn (i : Fin 1024) (x : W32) (hf : ¬ s.hostOn fn = true) :
    exec (.registerWrite (.msixTable fn i x)) s = .next s :=
  congrArg Host.Outcome.next (if_neg fun h => hf h.1)

/-- A word written to an MSI-X table reads back; but for the PBA and the interrupt that it lets go nothing else changes
(R376, R401). -/
theorem writeMsix_spec (s : State) (f i x : Nat) :
    (s.writeMsix f i x).msixWord f i = x
      ∧ s.writeMsix f i x = { s with pcie := (s.writeMsix f i x).pcie, out := (s.writeMsix f i x).out } := by
  simp only [State.writeMsix]
  split <;> exact ⟨tblGet_tblSet_self _ _ _ _, rfl⟩

theorem msixTable_of_hostOn (i : Fin 1024) (x : W32) (hf : s.hostOn fn = true) (hi : fn.val = 0 ∨ i.val < 256) :
    ∃ t, exec (.registerWrite (.msixTable fn i x)) s = .next t ∧ t.msixWord fn i = x.toNat
      ∧ t = { s with pcie := t.pcie, out := t.out } :=
  ⟨_, congrArg Host.Outcome.next (if_pos ⟨hf, hi.imp_left Fin.ext⟩), writeMsix_spec s fn i x.toNat⟩

/-- IDE stream on (the model's choice: log 51). -/
theorem ideStream_on (s : State) :
    exec (.registerWrite (.ideStream true)) s = .next { s with pcie := { s.pcie with ide := true } } := rfl

theorem mailbox_of_ignored {mgr : Bool} {o : Fin 4096} (x : W32)
    (h : s.mbOn (if mgr then 0 else fn) fn = false ∨ o.val % 4 ≠ 0) :
    exec (.registerWrite (.mailbox mgr fn o x)) s = .next s :=
  congrArg Host.Outcome.next (if_pos (h.imp_left fun hm => by simp [hm]))

/-- A write into the side's own area of the mailbox page (R417). -/
theorem mailbox_of_area {mgr : Bool} {o : Fin 4096} (x : W32) (hm : s.mbOn (if mgr then 0 else fn) fn = true)
    (ho : o.val % 4 = 0) (ha : mbArea mgr o = true) : exec (.registerWrite (.mailbox mgr fn o x)) s =
      .next (s.setInst fn { s.inst fn with page := tblSetRun (fun _ => 0) (s.inst fn).page o (toBytes 4 x.toNat) }) := by
  simp [exec_registerWrite, execRegisterWrite, State.writeMailbox, State.modInst, hm, ho, ha]

end

/-! ### Reads and writes over MCTP (R403, R404) -/

section

variable {s : State} {bus : Fin 2} {seq block count : Fin 256} {off : W32} {session : Option (Fin 65536)} {ws : List W32}

theorem vendorOn_iff : s.vendorOn bus = true ↔ s.mctpOn bus = true ∧ s.boot.recovery = false := by
  simp [State.vendorOn]

theorem regRead_of_off (h : ¬ s.vendorOn bus = true) : exec (.regRead bus seq block off count) s = .next s := by
  simp [exec_regRead, execRegRead, h]

theorem regWrite_of_off (h : ¬ s.vendorOn bus = true) : exec (.regWrite bus session seq block off ws) s = .next s := by
  simp [exec_regWrite, execRegWrite, h]

/-- What REG_READ answers where the vendor messages are served (R404); RANGE for an unaligned offset or one outside the block is
the model's choice (log 47). -/
theorem regRead_of_on (h : s.vendorOn bus = true) : exec (.regRead bus seq block off count) s = .next
    (if 13 < block.val ∨ block.val = 11 then s.stolReply 1 seq 1 []
    else if count.val = 0 ∨ 16 < count.val ∨ off.toNat % 4 ≠ 0 ∨ 0x400000 < off.toNat + 4 * count.val then s.stolReply 1 seq 2 []
    else (s.readEffects (block.val * 0x400000 + off.toNat) count).stolReply 1 seq 0
      ((List.range count).flatMap fun m => toBytes 4 (s.readWord .mctp (block.val * 0x400000 + off.toNat + 4 * m)))) :=
  congrArg Host.Outcome.next (if_neg (by simp [h]))

/-- What REG_WRITE answers where the vendor messages are served (R404; log 47 as for REG_READ). -/
theorem regWrite_of_on (h : s.vendorOn bus = true) : exec (.regWrite bus session seq block off ws) s = .next
    (if s.mayWrite session = false ∨ block.val ∉ [7, 8, 10, 13] then s.stolReply 2 seq 1 []
    else if ws.length = 0 ∨ 16 < ws.length ∨ off.toNat % 4 ≠ 0 ∨ 0x400000 < off.toNat + 4 * ws.length
      ∨ splitsWo (block.val * 0x400000 + off.toNat) ws = true then s.stolReply 2 seq 2 []
    else (s.writeWords (block.val * 0x400000 + off.toNat) ws).stolReply 2 seq 0 []) := by
  simp [exec_regWrite, execRegWrite, h]

end

/-- Settles O53, target by target and answer by answer. -/
theorem registerAccess : Obligations.RegisterAccess := by
  intro fn a size v i o x on mgr bus session seq block count off ws r k l s
  dsimp only
  refine ⟨bar0_of_ignored, fun hf hsize ha => ?_, fun hf hsize ha => ?_, atomicEnable_of_hostOn on,
    fun hf => ⟨atomicEnable_of_not_hostOn on hf, msixTable_of_not_hostOn i x hf⟩, msixTable_of_hostOn i x, ideStream_on s,
    mailbox_of_ignored x, mailbox_of_area x, fun hup => ?_, fun hup => ?_⟩
  · subst hsize
    rw [bar0_of_word hf ha]
    refine ⟨fun hr hw hro => ?_, fun hr hw hre => ?_, fun hr hw hwo => ?_, fun hr hlo => ?_⟩
    · rw [writeWord_of_narrow hr hw, hro.elim writeAt_of_ro writeAt_of_not_reaches]
    · rw [writeWord_of_narrow hr hw, writeAt_of_reaches hre]
    · rw [writeWord_of_wide_wo hr hw hwo]
    · rw [writeWord_of_none hr hlo]
  · subst hsize
    rw [bar0_of_wide hf ha]
    refine ⟨fun hr hw hre => ?_, fun hr h => ?_, fun hr => ?_⟩
    · rw [writeWide_of_wide hr hw, writeAt_of_reaches hre]
    · rw [writeWide_of_narrow_or_ro hr h]
    · rw [writeWide_of_none hr]
  · have hoff := mt vendorOn_iff.1 hup
    exact ⟨regRead_of_off hoff, regWrite_of_off hoff⟩
  · have hon := vendorOn_iff.2 hup
    rw [regRead_of_on hon, regWrite_of_on hon]
    refine ⟨fun hb => ?_, fun hb hs hbad => ?_, fun hb hs hgood => ?_, fun hb => ?_, fun hm hb hbad => ?_, fun hm hb hgood => ?_⟩
    · rw [if_pos hb]
    · rw [if_neg (by omega), if_pos hbad]
    · rw [if_neg (by omega), if_neg hgood]
    · rw [if_pos hb]
    · rw [if_neg (by simp [hm, hb]), if_pos hbad]
    · rw [if_neg (by simp [hm, hb]), if_neg hgood]

end Sys2Proof.Laws
end

section
/-! PROOFS. What a report leaves as it was: an interrupt, a Ledger record, a mailbox event or an event to the fabric manager
(spec/14: R400, R405; spec/15: R420; spec/19: R511, R515). -/
namespace Sys2Proof.Laws

open Machine

/-- `s` with the places that reports go to, and the registers, as in `t`. -/
def withReports (s t : State) : State :=
  { s with regs := t.regs, pcie := t.pcie, out := t.out, intake := t.intake, insts := t.insts, events := t.events,
           eventsWait := t.eventsWait, eventSeq := t.eventSeq }

/-- `t` is `s` after reports: beside the places that they go to, only counters of the ERR block have changed. -/
structure Reported (s t : State) : Prop where
  rest : t = withReports s t
  reg : ∀ k, k < bERR → t.reg k = s.reg k

section

variable {s t u : State}

theorem reported_refl (s : State) : Reported s s := ⟨rfl, fun _ _ => rfl⟩

theorem reported_trans (h : Reported s t) (h' : Reported t u) : Reported s u :=
  ⟨h'.rest.trans (congrArg (withReports · u) h.rest :), fun k hk => (h'.reg k hk).trans (h.reg k hk)⟩

end

section

variable (s : State)

@[simp] theorem reg_bump_self (k n : Nat) : (s.bump k n).reg k = satAdd 0xFFFFFFFF (s.reg k) n := reg_setReg s k _

theorem reg_bump_ne {j k : Nat} (n : Nat) (h : j ≠ k) : (s.bump k n).reg j = s.reg j := reg_setReg_ne s _ h

theorem reg_setBits_ne {j k : Nat} (m : Nat) (h : j ≠ k) : (s.setBits k m).reg j = s.reg j := reg_setReg_ne s _ h

theorem reported_bump {k : Nat} (n : Nat) (hk : bERR ≤ k) : Reported s (s.bump k n) :=
  ⟨rfl, fun _ hj => reg_bump_ne s n (by omega)⟩

theorem reported_msix (fn vec : Nat) : Reported s (s.msix fn vec) := by
  unfold State.msix
  split <;> exact ⟨rfl, fun _ _ => rfl⟩

theorem reported_ledgerFull (type source owner object code arg value : Nat) :
    Reported s (s.ledgerFull type source owner object code arg value) := by
  unfold State.ledgerFull
  split
  · exact ⟨rfl, fun _ _ => rfl⟩
  · exact reported_trans (reported_bump s 1 (by omega)) (reported_bump _ 1 (by omega))

theorem reported_ledgerPart (type p object code arg value : Nat) : Reported s (s.ledgerPart type p object code arg value) :=
  reported_ledgerFull ..

theorem reported_ledger (type source object code value : Nat) : Reported s (s.ledger type source object code value) :=
  reported_ledgerFull ..

theorem reported_mbEvent (p type detail : Nat) : Reported s (s.mbEvent p type detail) := by
  unfold State.mbEvent
  split
  · exact reported_ledgerPart ..
  · dsimp only
    split
    · exact reported_trans (t := s.setInst _ _) ⟨rfl, fun _ _ => rfl⟩ (reported_msix ..)
    · exact ⟨rfl, fun _ _ => rfl⟩

theorem reported_sendEvents (es : List McEvent) : Reported s (s.sendEvents es) := by
  induction es generalizing s with
  | nil => exact ⟨rfl, fun _ _ => rfl⟩
  | cons e es ih =>
    unfold State.sendEvents
    split
    · refine reported_trans ?_ (ih _)
      exact ⟨rfl, fun _ _ => rfl⟩
    · exact ⟨rfl, fun _ _ => rfl⟩

theorem reported_mctpEvent (code object : Nat) : Reported s (s.mctpEvent code object) := by
  unfold State.mctpEvent
  split
  · exact ⟨rfl, fun _ _ => rfl⟩
  · split
    · exact ⟨rfl, fun _ _ => rfl⟩
    · exact reported_sendEvents ..

end

end Sys2Proof.Laws
end

section
/-! PROOFS. Regulation of memory bandwidth: throttles, tokens, urgency, age, and the close of a window (spec/02: R35; spec/08: R199
to R216). -/
namespace Sys2Proof.Laws

open Machine

/-! ### Ports and their held requests (R204, R205, R207) -/

section

variable {s : State} {m : Nat}

theorem pumpHeldReqs_nil : s.pumpHeldReqs m [] = s := rfl

theorem pumpPorts_singleton : s.pumpPorts [m] = s.pumpHeldReqs m (s.port m).waiting := rfl

theorem pumpPorts_of_idle (h : ∀ port, (s.port port).waiting = []) (l : List Nat) : s.pumpPorts l = s := by
  induction l with
  | nil => rfl
  | cons m ms ih => rw [State.pumpPorts, h m, pumpHeldReqs_nil, ih]

/-- The one request held at a port goes on waiting where it needs more tokens than the bucket holds (R207). -/
theorem pumpHeldReqs_of_short {h : HeldReq} (hn : s.needsTokens h.cls (dpaGroup h.addr) = true)
    (ht : s.tokensOf m < tokenCharge h.n) : s.pumpHeldReqs m [h] = s :=
  if_pos ⟨hn, .inl ht⟩

/-- The one request held at a port leaves it and is served where it needs no tokens or the bucket holds enough (R205, R207). -/
theorem pumpHeldReqs_of_enough {h : HeldReq} (hw : (s.port m).waiting = [h])
    (ht : s.needsTokens h.cls (dpaGroup h.addr) = true → tokenCharge h.n ≤ s.tokensOf m) :
    s.pumpHeldReqs m [h] =
      ((s.setPort m { s.port m with waiting := [] }).takeTokens m h.cls (dpaGroup h.addr) h.n).serve h := by
  have hgo : ¬ (s.needsTokens h.cls (dpaGroup h.addr) = true ∧ (s.tokensOf m < tokenCharge h.n ∨
      ((s.port m).waiting.takeWhile fun x => x != h).any
        (fun x => dieOfAddr x.addr == dieOfAddr h.addr && s.needsTokens x.cls (dpaGroup x.addr)) = true)) := by
    rintro ⟨hn, hlt | hany⟩
    · exact absurd (ht hn) (Nat.not_le.2 hlt)
    · simp [hw] at hany
  have herase : (s.port m).waiting.erase h = [] := by simp [hw]
  rw [State.pumpHeldReqs, herase]
  exact if_neg hgo

@[simp] theorem waiting_setTokens (k : Nat) : ((s.setTokens m k).port m).waiting = (s.port m).waiting := by
  simp [State.setTokens]

end

/-! ### The commands of the ports (R35, R201, R203 to R209) -/

section

variable {s : State}

theorem exec_groupLevelSample (g : GroupId) (level : Fin 129) : exec (.groupLevelSample g level) s =
    .next ((s.setLevel g ⟨level, throttle (s.levelOf g).bg level (s.reg (bQOS + 0x600) % 256),
      throttle (s.levelOf g).be level (bits (s.reg (bQOS + 0x600)) 15 8),
      throttle (s.levelOf g).gu level (bits (s.reg (bQOS + 0x600)) 23 16)⟩).pumpPorts (s.tokens.map (·.1))) := rfl

/-- The tokens in a port's bucket after a refill, in tenths of a byte (R205). -/
def refilled (s : State) (m : PortId) : Nat :=
  min (s.tokensOf m + 32 * (s.reg (bQOS + 0x200 + 4 * m) / 2 ^ 16)) (40960 * max 1 (s.reg (bQOS + 0x200 + 4 * m) % 4096))

/-- After a refill the requests held at the port are looked at. -/
theorem exec_tokenRefill (m : PortId) : exec (.tokenRefill m) s =
    .next ((s.setTokens m (refilled s m)).pumpHeldReqs m (s.port m).waiting) := by
  rw [← waiting_setTokens (refilled s m), ← pumpPorts_singleton]
  rfl

theorem exec_urgencyChange (m : PortId) (x : Nat) : exec (.urgencyChange m x) s =
    .next (s.setUrgency m (codeStep (s.urgencyOf m) (if s.rtMaster m then urgencyFor m x else 0))) := rfl

theorem codeStep_of_lt {u want : Nat} (h : u < want) : codeStep u want = u + 1 := if_pos h
theorem codeStep_of_gt {u want : Nat} (h : want < u) : codeStep u want = u - 1 := by
  rw [codeStep, if_neg (by omega), if_pos h]
@[simp] theorem codeStep_self (u : Nat) : codeStep u u = u := by simp [codeStep]

/-- The urgency moves by one code step toward the level that is wanted of the master (R35, R208, R209). -/
theorem urgencyChange_steps {m : PortId} {x want : Nat} (hw : (if s.rtMaster m then urgencyFor m x else 0) = want) :
    (s.urgencyOf m < want → exec (.urgencyChange m x) s = .next (s.setUrgency m (s.urgencyOf m + 1)))
    ∧ (want < s.urgencyOf m → exec (.urgencyChange m x) s = .next (s.setUrgency m (s.urgencyOf m - 1)))
    ∧ (s.urgencyOf m = want → exec (.urgencyChange m x) s = .next (s.setUrgency m (s.urgencyOf m))) := by
  rw [exec_urgencyChange, hw]
  refine ⟨fun h => ?_, fun h => ?_, fun h => ?_⟩
  · rw [codeStep_of_lt h]
  · rw [codeStep_of_gt h]
  · rw [← h, codeStep_self]

end

/-! ### A partition judged at the close of a window (R214 to R216) -/

/-- A partition with a grant in the group and of class GU or RT is judged (R214). -/
def judged (s : State) (g q : Nat) : Bool :=
  bitAt (s.reg (bQOS + 0x1000 + 0x80 * g + 4 * q)) 31 && (s.reg (bQOS + 4 * q) % 4 == 1 || s.reg (bQOS + 4 * q) % 4 == 2)

/-- The guarantee does not hold for the partition in this window (R214). -/
def exempted (s : State) (g q : Nat) (busy : Bool) (w : Window) : Bool :=
  busy || s.groupExempt g || w.paused || (s.part q).st == .rebinding

/-- The partition had less than its guarantee in this window (R214, R215). -/
def missed (s : State) (g q : Nat) (w : Window) : Bool :=
  (decide ((s.servedOf (32 * g + q)).charged ≤ s.grantBytes g q) &&
      decide ((s.servedOf (32 * g + q)).bytes < min (s.demandOf g q w.queued) (s.grantBytes g q)))
    || (s.reg (bQOS + 4 * q) % 4 == 2 && decide (w.longest > s.reg (bQOS + 0x60C) % 65536))

/-- What the home's queue holds of a partition. -/
def windowOf (ws : List Window) (q : Nat) : Window := (ws.find? fun w => w.part == q).getD ⟨q, 0, 0, false⟩

theorem windowOf_eq (ws : List Window) (q : Nat) :
    windowOf ws q = (ws.find? fun w => w.part == q).getD ⟨q, 0, 0, false⟩ := rfl

section

variable {s t : State} {g q : Nat} {busy : Bool} {w : Window}

/-- A partition is judged in one of three ways: counted exempt, counted as missed, or left as it is. -/
theorem judge_eq (s : State) (g q : Nat) (busy : Bool) (w : Window) : s.judge g q busy w =
    if judged s g q then
      if exempted s g q busy w then s.bump (bQOS + 0x618) 1
      else if missed s g q w then s.miss g q (s.servedOf (32 * g + q)).bytes (s.demandOf g q w.queued)
      else s
    else s := by
  rw [State.judge, judged]
  dsimp only
  cases bitAt (s.reg (bQOS + 0x1000 + 0x80 * g + 4 * q)) 31
  · rfl
  · generalize (s.reg (bQOS + 4 * q) % 4 == 1 || s.reg (bQOS + 4 * q) % 4 == 2) = c
    cases c <;> rfl

/-- The event register of a partition's class (R216). -/
def missEvent (s : State) (p : Nat) : Nat := if s.reg (bQOS + 4 * p) % 4 == 2 then bQOS + 0x614 else bQOS + 0x610

theorem missEvent_cases (s : State) (p : Nat) : missEvent s p = bQOS + 0x614 ∨ missEvent s p = bQOS + 0x610 := by
  unfold missEvent
  split
  · exact .inl rfl
  · exact .inr rfl

/-- A miss is marked in its class's event register and counted for its partition; the rest is reports (R216). -/
theorem reported_miss (s : State) (g p served demand : Nat) :
    Reported ((s.setBits (missEvent s p) (2 ^ p)).bump (bQOS + 0x2000 + 4 * p) 1) (s.miss g p served demand) := by
  unfold State.miss
  extract_lets rt s1 s2 unread
  have h : Reported s1 s2 := reported_trans (reported_msix s1 0 1) (reported_ledgerPart ..)
  split
  · exact h
  · exact reported_trans h (reported_mbEvent ..)

/-- Of the QOS registers a miss moves the event registers and its partition's count, which it raises by one. -/
theorem reg_miss {p served demand k : Nat} (hk : k < bERR) (h : k ≠ bQOS + 0x610) (h' : k ≠ bQOS + 0x614) :
    (s.miss g p served demand).reg k = (s.bump (bQOS + 0x2000 + 4 * p) 1).reg k := by
  have hne : (s.setBits (missEvent s p) (2 ^ p)).reg k = s.reg k :=
    reg_setBits_ne s _ (by rcases missEvent_cases s p with e | e <;> omega)
  rw [(reported_miss s g p served demand).reg k hk]
  by_cases hkp : k = bQOS + 0x2000 + 4 * p
  · subst hkp
    rw [reg_bump_self, reg_bump_self, hne]
  · rw [reg_bump_ne _ 1 hkp, reg_bump_ne _ 1 hkp, hne]

/-- A register of the QOS block from which the close of a window takes its limits: no event register and no count. -/
def qosSetting (k : Nat) : Prop := (bQOS ≤ k ∧ k < bQOS + 0x610) ∨ (bQOS + 0x1000 ≤ k ∧ k < bQOS + 0x2000)

/-- `t` shows to the close of a window what `s` shows: the limits, and what is measured. -/
structure SameWindow (s t : State) : Prop where
  reg : ∀ k, qosSetting k → t.reg k = s.reg k
  groups : t.groups = s.groups
  parts : t.parts = s.parts
  served : t.served = s.served
  now : t.now = s.now

theorem sameWindow_refl (s : State) : SameWindow s s := ⟨fun _ _ => rfl, rfl, rfl, rfl, rfl⟩

theorem sameWindow_trans {u : State} (h : SameWindow s t) (h' : SameWindow t u) : SameWindow s u :=
  ⟨fun k hk => (h'.reg k hk).trans (h.reg k hk), h'.groups.trans h.groups, h'.parts.trans h.parts,
    h'.served.trans h.served, h'.now.trans h.now⟩

theorem sameWindow_bump {k : Nat} (n : Nat) (hk : ¬ qosSetting k) : SameWindow s (s.bump k n) :=
  ⟨fun _ hj => reg_bump_ne s n fun e => hk (e ▸ hj), rfl, rfl, rfl, rfl⟩

theorem sameWindow_miss (s : State) (g p served demand : Nat) : SameWindow s (s.miss g p served demand) := by
  have hr := (reported_miss s g p served demand).rest
  refine ⟨fun k hk => ?_, (congrArg State.groups hr :), (congrArg State.parts hr :), (congrArg State.served hr :),
    (congrArg State.now hr :)⟩
  simp only [qosSetting, bQOS] at hk
  rw [reg_miss (by simp only [bERR]; omega) (by simp only [bQOS]; omega) (by simp only [bQOS]; omega),
    reg_bump_ne s 1 (by simp only [bQOS]; omega)]

theorem sameWindow_judge (s : State) (g q : Nat) (busy : Bool) (w : Window) : SameWindow s (s.judge g q busy w) := by
  rw [judge_eq]
  split
  · split
    · exact sameWindow_bump 1 (by simp [qosSetting, bQOS])
    · split
      · exact sameWindow_miss ..
      · exact sameWindow_refl s
  · exact sameWindow_refl s

/-! What decides the judgement is the same in two states that show the same window. -/

section

variable (h : SameWindow s t) (hg : g < 32) (hq : q < 32)

include h hg hq

theorem reg_grant_same : t.reg (bQOS + 0x1000 + 0x80 * g + 4 * q) = s.reg (bQOS + 0x1000 + 0x80 * g + 4 * q) :=
  h.reg _ (by simp only [qosSetting, bQOS]; omega)

theorem grantBytes_same : t.grantBytes g q = s.grantBytes g q := by
  simp only [State.grantBytes, State.group, reg_grant_same h hg hq, h.groups]

omit hg in
theorem reg_class_same : t.reg (bQOS + 4 * q) = s.reg (bQOS + 4 * q) := h.reg _ (by simp only [qosSetting, bQOS]; omega)

omit hg hq in
theorem demandOf_same (n : Nat) : t.demandOf g q n = s.demandOf g q n := by
  simp only [State.demandOf, State.servedOf, h.served, h.now]

omit hq in
theorem groupExempt_same : t.groupExempt g = s.groupExempt g := by
  have hsum : t.granted g = s.granted g := by
    unfold State.granted
    refine congrArg List.sum (List.map_congr_left fun p hp => ?_)
    rw [reg_grant_same h hg (List.mem_range.1 hp)]
  simp only [State.groupExempt, State.group, hsum, h.groups, h.reg (bQOS + 0x608) (by simp [qosSetting, bQOS])]

theorem judged_same : judged t g q = judged s g q := by
  simp only [judged, reg_grant_same h hg hq, reg_class_same h hq]

omit hq in
theorem exempted_same : exempted t g q busy w = exempted s g q busy w := by
  simp only [exempted, State.part, groupExempt_same h hg, h.parts]

theorem missed_same : missed t g q w = missed s g q w := by
  have hserved : t.servedOf (32 * g + q) = s.servedOf (32 * g + q) := by rw [State.servedOf, h.served, State.servedOf]
  rw [missed, hserved, grantBytes_same h hg hq, demandOf_same h, reg_class_same h hq,
    h.reg (bQOS + 0x60C) (by simp [qosSetting, bQOS]), missed]

end

/-! What one judgement counts. -/

theorem reg_judge_exempts : (s.judge g q busy w).reg (bQOS + 0x618) =
    if judged s g q && exempted s g q busy w then satAdd 0xFFFFFFFF (s.reg (bQOS + 0x618)) 1 else s.reg (bQOS + 0x618) := by
  have hmiss (a b : Nat) : (s.miss g q a b).reg (bQOS + 0x618) = s.reg (bQOS + 0x618) := by
    rw [reg_miss (by decide) (by decide) (by decide), reg_bump_ne s 1 (by omega)]
  rw [judge_eq]
  cases judged s g q
  · simp
  · cases exempted s g q busy w
    · cases missed s g q w <;> simp [hmiss]
    · simp

theorem reg_judge_misses {p : Nat} (hp : p < 32) : (s.judge g q busy w).reg (bQOS + 0x2000 + 4 * p) =
    if judged s g q && !exempted s g q busy w && missed s g q w && q == p then
      satAdd 0xFFFFFFFF (s.reg (bQOS + 0x2000 + 4 * p)) 1
    else s.reg (bQOS + 0x2000 + 4 * p) := by
  have hexempt : (s.bump (bQOS + 0x618) 1).reg (bQOS + 0x2000 + 4 * p) = s.reg (bQOS + 0x2000 + 4 * p) :=
    reg_bump_ne s 1 (by omega)
  have hmiss (a b : Nat) : (s.miss g q a b).reg (bQOS + 0x2000 + 4 * p) =
      if q = p then satAdd 0xFFFFFFFF (s.reg (bQOS + 0x2000 + 4 * p)) 1 else s.reg (bQOS + 0x2000 + 4 * p) := by
    rw [reg_miss (by simp only [bQOS, bERR]; omega) (by omega) (by omega)]
    split
    · next h => rw [h, reg_bump_self]
    · exact reg_bump_ne s 1 (by omega)
  rw [judge_eq]
  cases judged s g q
  · simp
  · cases exempted s g q busy w
    · cases missed s g q w <;> simp [hmiss]
    · simp [hexempt]

end

/-! ### The partitions judged in turn -/

section

variable {s t : State} {g : Nat} {busy : Bool} {ws : List Window} {l : List Nat}

theorem sameWindow_judgeAll (h : SameWindow s t) : SameWindow s (t.judgeAll g busy ws l) := by
  induction l generalizing t with
  | nil => exact h
  | cons q l ih => exact ih (sameWindow_trans h (sameWindow_judge ..))

/-- A count that a judgement raises where `hit` holds of its partition, and otherwise leaves, is raised once by the judgements
in turn where `hit` holds of `p` and of no other partition, and is left where it does not hold of `p` either. -/
theorem reg_judgeAll {k p : Nat} {hit : Nat → Bool} (hl : ∀ q ∈ l, q < 32) (hnd : l.Nodup)
    (hcount : ∀ t q, q < 32 → SameWindow s t → (t.judge g q busy (windowOf ws q)).reg k =
      if hit q then satAdd 0xFFFFFFFF (t.reg k) 1 else t.reg k)
    (hone : ∀ q ∈ l, hit q = true → q = p) (h : SameWindow s t) :
    (t.judgeAll g busy ws l).reg k = if p ∈ l ∧ hit p = true then satAdd 0xFFFFFFFF (t.reg k) 1 else t.reg k := by
  induction l generalizing t with
  | nil => simp [State.judgeAll]
  | cons q l ih =>
    obtain ⟨hql, hlnd⟩ := List.nodup_cons.1 hnd
    have hstep := hcount t q (hl q List.mem_cons_self) h
    have hrest := ih (fun x hx => hl x (List.mem_cons_of_mem q hx)) hlnd
      (fun x hx => hone x (List.mem_cons_of_mem q hx)) (sameWindow_trans h (sameWindow_judge t g q busy (windowOf ws q)))
    rw [State.judgeAll, ← windowOf_eq, hrest, hstep]
    by_cases hq : hit q = true
    · obtain rfl := hone q List.mem_cons_self hq
      simp [hql, hq]
    · by_cases hp : p = q
      · subst hp
        simp [hq]
      · simp [hq, hp]

end

/-! ### The close of a window -/

theorem tblGet_tblClear {α : Type} (d : Nat → α) {lo hi k : Nat} (t : Tbl α) (hlo : lo ≤ k) (hhi : k < hi) :
    tblGet d (tblClear lo hi t) k = d k := by
  induction t with
  | nil => rfl
  | cons e t ih =>
    rw [tblClear, List.filter_cons]
    split
    · next he =>
      have hne : e.1 ≠ k := by
        rintro rfl
        simp [hlo, hhi] at he
      rw [tblGet, if_neg hne]
      exact ih
    · exact ih

section

variable {s : State} {g q : Nat} {busy : Bool} {w : Window}

theorem judged_iff : judged s g q = true ↔ bitAt (s.reg (bQOS + 0x1000 + 0x80 * g + 4 * q)) 31 = true
    ∧ (s.reg (bQOS + 4 * q) % 4 = 1 ∨ s.reg (bQOS + 4 * q) % 4 = 2) := by
  simp [judged]

theorem exempted_iff : exempted s g q busy w = true ↔
    busy = true ∨ s.groupExempt g = true ∨ w.paused = true ∨ (s.part q).st = .rebinding := by
  simp [exempted, or_assoc]

theorem missed_iff : missed s g q w = true ↔
    ((s.servedOf (32 * g + q)).charged ≤ s.grantBytes g q
      ∧ (s.servedOf (32 * g + q)).bytes < min (s.demandOf g q w.queued) (s.grantBytes g q))
    ∨ (s.reg (bQOS + 4 * q) % 4 = 2 ∧ s.reg (bQOS + 0x60C) % 65536 < w.longest) := by
  simp only [missed, Bool.or_eq_true, Bool.and_eq_true, decide_eq_true_eq, beq_iff_eq, gt_iff_lt]

end

section

variable (g : GroupId) (busy : Bool) (ws : List Window) (s : State)

/-- The state after the close of a window: the partitions judged, nothing served yet, and the length of QOS_WINDOW. -/
def windowClosed : State :=
  let t := s.judgeAll g busy ws (List.range 32)
  { t with served := tblClear (32 * g) (32 * g + 32) t.served }.setGroup g
    { t.group g with window := t.reg (bQOS + 0x604) % 4 }

theorem exec_monitorWindowClose : exec (.monitorWindowClose g busy ws) s = .next (windowClosed g busy ws s) := rfl

theorem reg_windowClosed (k : Nat) : (windowClosed g busy ws s).reg k = (s.judgeAll g busy ws (List.range 32)).reg k := rfl

theorem servedOf_windowClosed {q : Nat} (hq : q < 32) : (windowClosed g busy ws s).servedOf (32 * g + q) = HomeWin.reset :=
  tblGet_tblClear _ _ (by omega) (by omega)

theorem group_windowClosed : (windowClosed g busy ws s).group g = { s.group g with window := s.reg (bQOS + 0x604) % 4 } := by
  have h : SameWindow s (s.judgeAll g busy ws (List.range 32)) := sameWindow_judgeAll (sameWindow_refl s)
  rw [windowClosed, group_setGroup, h.reg _ (by simp [qosSetting, bQOS]), State.group, h.groups, State.group]

/-- The misses of a partition: raised by one where it is judged, not exempt and missed its guarantee (R214 to R216). -/
theorem reg_windowClosed_misses (p : PartId) : (windowClosed g busy ws s).reg (bQOS + 0x2000 + 4 * p) =
    if judged s g p && !exempted s g p busy (windowOf ws p) && missed s g p (windowOf ws p) then
      satAdd 0xFFFFFFFF (s.reg (bQOS + 0x2000 + 4 * p)) 1
    else s.reg (bQOS + 0x2000 + 4 * p) := by
  have h := reg_judgeAll (k := bQOS + 0x2000 + 4 * p.val) (p := p.val) (g := g.val) (busy := busy) (ws := ws) (l := List.range 32)
    (hit := fun q => judged s g q && !exempted s g q busy (windowOf ws q) && missed s g q (windowOf ws q) && q == p.val)
    (fun _ => List.mem_range.1) List.nodup_range
    (fun t q hq ht => by
      rw [reg_judge_misses p.isLt, judged_same ht g.isLt hq, exempted_same ht g.isLt, missed_same ht g.isLt hq])
    (fun q _ hq => by simpa using (Bool.and_eq_true_iff.1 hq).2) (sameWindow_refl s)
  simpa [reg_windowClosed, p.isLt] using h

/-- The exemptions of the group: raised by one where one partition alone is judged and exempt (R214). -/
theorem reg_windowClosed_exempts {p : Nat}
    (hone : ∀ q, q < 32 → (judged s g q && exempted s g q busy (windowOf ws q)) = true → q = p) :
    (windowClosed g busy ws s).reg (bQOS + 0x618) =
      if p < 32 ∧ (judged s g p && exempted s g p busy (windowOf ws p)) = true then
        satAdd 0xFFFFFFFF (s.reg (bQOS + 0x618)) 1
      else s.reg (bQOS + 0x618) := by
  have h := reg_judgeAll (k := bQOS + 0x618) (p := p) (g := g.val) (busy := busy) (ws := ws) (l := List.range 32)
    (hit := fun q => judged s g q && exempted s g q busy (windowOf ws q))
    (fun _ => List.mem_range.1) List.nodup_range
    (fun t q hq ht => by rw [reg_judge_exempts, judged_same ht g.isLt hq, exempted_same ht g.isLt])
    (fun q hq => hone q (List.mem_range.1 hq)) (sameWindow_refl s)
  simpa only [reg_windowClosed, List.mem_range] using h

end

/-- Settles O27, command by command; at the close of a window by what each judgement in turn counts. -/
theorem bandwidthRegulation : Obligations.BandwidthRegulation := by
  intro g level m x p a busy ws s
  dsimp only
  refine ⟨⟨exec_groupLevelSample g level, fun hidle => ?_⟩, ⟨fun hw => ?_, fun h hw => ⟨fun hn ht => ?_, fun ht => ?_⟩⟩,
    urgencyChange_steps (by cases s.rtMaster m <;> rfl), fun hc => ?_, fun hc => ?_, _, exec_monitorWindowClose g busy ws s,
    fun q => servedOf_windowClosed g busy ws s, group_windowClosed g busy ws s, ?_⟩
  · rw [exec_groupLevelSample]
    refine congrArg Host.Outcome.next (pumpPorts_of_idle ?_ _)
    exact hidle
  · rw [exec_tokenRefill, hw]
    rfl
  · rw [exec_tokenRefill, hw]
    refine congrArg Host.Outcome.next (pumpHeldReqs_of_short ?_ (by rwa [tokensOf_setTokens]))
    exact hn
  · rw [exec_tokenRefill, hw]
    refine congrArg Host.Outcome.next (pumpHeldReqs_of_enough (by rw [waiting_setTokens, hw]) ?_)
    rw [tokensOf_setTokens]
    exact ht
  · exact congrArg Host.Outcome.next (if_pos hc)
  · exact congrArg Host.Outcome.next (if_neg hc)
  · simp only [← windowOf_eq, ← judged_iff, ← exempted_iff, ← missed_iff]
    refine ⟨fun h => ?_, fun h => ?_, fun h => ?_, fun h => ?_⟩
    · rw [reg_windowClosed_misses, if_pos (by simpa [and_assoc] using h)]
    · rw [reg_windowClosed_misses, if_neg (by simpa [and_assoc] using h)]
    · rw [reg_windowClosed_exempts g busy ws s (p := 0) fun q hq hh => absurd (Bool.and_eq_true_iff.1 hh) (h q hq)]
      exact if_neg fun hh => h 0 (by omega) (Bool.and_eq_true_iff.1 hh.2)
    · rw [reg_windowClosed_exempts g busy ws s fun q hq hh => (h q hq).1 (Bool.and_eq_true_iff.1 hh)]
      exact if_pos ⟨p.isLt, Bool.and_eq_true_iff.2 ((h p p.isLt).2 rfl)⟩

end Sys2Proof.Laws
end

section
/-! PROOFS. Fabric time: the exchange, locking, holdover, the root conflict and the registers (spec/02: R40 to R49; spec/11: R277 to
R279). -/
namespace Sys2Proof.Laws

open Machine

/-! ### The registers (R43, R48, R49) -/

/-- The value that a write of FAB_TS_CTRL leaves: MODE stays where 0b11 is written (R49). -/
def tsCtrlOf (old v : Nat) : Nat := bits v 15 8 * 256 + if v % 4 = 3 then old % 4 else v % 4

theorem tsCtrlOf_mode (old v : Nat) : tsCtrlOf old v % 4 = if v % 4 = 3 then old % 4 else v % 4 := by
  unfold tsCtrlOf
  split <;> omega

theorem tsCtrlOf_parent (old v : Nat) : bits (tsCtrlOf old v) 15 8 = bits v 15 8 := by
  have hv : bits v 15 8 < 256 := Nat.mod_lt _ (by decide)
  have hm : (if v % 4 = 3 then old % 4 else v % 4) < 256 := by split <;> omega
  rw [bits, tsCtrlOf]
  generalize bits v 15 8 = b at hv
  generalize (if v % 4 = 3 then old % 4 else v % 4) = x at hm
  omega

section

variable (v : W32) (s : State)

theorem exec_fabTsCtrl : exec (.fabTsCtrl v) s = .next { s.setReg kTsCtrl (tsCtrlOf (s.reg kTsCtrl) v.toNat) with
    time := { s.time with pendingCtrl :=
      s.time.pendingCtrl || decide (tsCtrlOf (s.reg kTsCtrl) v.toNat ≠ s.time.ctrl) } } := rfl

/-- A write of FAB_TS_CTRL is kept, and where it changes what is in force it waits for the next exchange period (R49). -/
theorem fabTsCtrl_spec : ∃ u, exec (.fabTsCtrl v) s = .next u ∧ u.reg kTsCtrl = tsCtrlOf (s.reg kTsCtrl) v.toNat
    ∧ (u.reg kTsCtrl ≠ s.time.ctrl → u.time.pendingCtrl = true)
    ∧ u = { s with regs := u.regs, time := { s.time with pendingCtrl := u.time.pendingCtrl } } := by
  have hreg := reg_setReg s kTsCtrl (tsCtrlOf (s.reg kTsCtrl) v.toNat)
  refine ⟨_, exec_fabTsCtrl v s, hreg, fun hne => ?_, rfl⟩
  have hx : tsCtrlOf (s.reg kTsCtrl) v.toNat ≠ s.time.ctrl := fun e => hne (hreg.trans e)
  simp [hx]

end

section

variable {d : W64} {s : State}

/-- FAB_TS_SET sets the time base in ROOT, and never backwards (R43). -/
theorem fabTsSet_of_root (h : s.time.st = .root) (hd : s.now ≤ d.toNat) :
    exec (.fabTsSet d) s = .next { s with now := d.toNat } :=
  congrArg Host.Outcome.next (if_pos ⟨h, hd⟩)

theorem fabTsSet_ignored (h : s.time.st ≠ .root ∨ d.toNat < s.now) : exec (.fabTsSet d) s = .next s :=
  congrArg Host.Outcome.next (if_neg fun hg => h.elim (fun hst => hst hg.1) fun hd => Nat.not_le.2 hd hg.2)

end

/-! ### Restarts and the exchange period (R42, R49, R278, R279) -/

section

variable {s : State} {ctrl : Nat}

theorem restartTime_of_root (h : ctrl % 4 = 2) : s.restartTime ctrl =
    { s with time := { s.time.unsync with ctrl := ctrl, pendingCtrl := false, st := .root } } :=
  if_pos h

theorem restartTime_of_parent (h : ctrl % 4 = 1 ∧ bits ctrl 15 8 < 96 ∧ (s.lnk (bits ctrl 15 8)).st = .active) :
    s.restartTime ctrl = { s with time :=
      ({ s.time.unsync with ctrl := ctrl, pendingCtrl := false } : TimeSync).acquire (bits ctrl 15 8) false } := by
  rw [State.restartTime, if_neg (by omega), if_pos h]

theorem restartTime_of_alone (h : ¬ (ctrl % 4 = 1 ∧ bits ctrl 15 8 < 96 ∧ (s.lnk (bits ctrl 15 8)).st = .active))
    (h2 : ctrl % 4 ≠ 2) :
    s.restartTime ctrl = { s with time := { s.time.unsync with ctrl := ctrl, pendingCtrl := false } } := by
  rw [State.restartTime, if_neg h2, if_neg h]

theorem restartTime_rest (s : State) (ctrl : Nat) : s.restartTime ctrl = { s with time := (s.restartTime ctrl).time } := by
  unfold State.restartTime
  dsimp only
  split
  · rfl
  · split <;> rfl

theorem applyTsCtrl_of_idle (h : s.time.pendingCtrl = false) : s.applyTsCtrl = s := by simp [State.applyTsCtrl, h]

/-- A pending change to ROOT is taken at once (R49). -/
theorem applyTsCtrl_of_root (h : s.time.pendingCtrl = true) (hm : s.reg kTsCtrl % 4 = 2) :
    s.applyTsCtrl = s.restartTime (s.reg kTsCtrl) := by
  simp [State.applyTsCtrl, h, hm]

end

section

variable {s : State} {i : LinkId} (frac : Fin 16)

/-- Off ACTIVE the exchange period sends nothing, and only a pending change of FAB_TS_CTRL takes effect. -/
theorem timeSend_of_not_active (h : (s.applyTsCtrl.lnk i).st ≠ .active) : exec (.timeSend i frac) s = .next s.applyTsCtrl :=
  congrArg Host.Outcome.next (if_neg h)

theorem timeSend_of_active (h : (s.applyTsCtrl.lnk i).st = .active) : exec (.timeSend i frac) s =
    .next (let t := s.applyTsCtrl
      let l := t.lnk i
      let at_ := (t.now * 16 + frac) % 2 ^ 48
      (t.setLnk i { l with timeSeq := (l.timeSeq + 1) % 256,
                           txTimes := tblSet (fun _ => 0) l.txTimes l.timeSeq at_ }).control i 6
        (at_ * 2 ^ 80 + l.rxTimeAt * 2 ^ 32 + l.timeSeq * 2 ^ 24 + l.rxTimeSeq * 2 ^ 16 + t.tsRoot * 4 +
          (if t.time.follows then t.time.hops else 0)) true) :=
  congrArg Host.Outcome.next (if_pos h)

/-- A pending change to ROOT takes effect in the exchange period of a link that is not ACTIVE. -/
theorem timeSend_to_root (hp : s.time.pendingCtrl = true) (hl : (s.lnk i).st ≠ .active) (hm : s.reg kTsCtrl % 4 = 2) :
    ∃ u, exec (.timeSend i frac) s = .next u ∧ u.time.st = .root ∧ u.time.pendingCtrl = false := by
  have happly := (applyTsCtrl_of_root hp hm).trans (restartTime_of_root hm)
  refine ⟨_, timeSend_of_not_active frac ?_, ?_⟩
  · rw [happly]
    exact hl
  · rw [happly]
    exact ⟨rfl, rfl⟩

end

/-! ### Words received (R276, R277) -/

section

variable {s : State} {i kind payload cctr mac : Nat} {f : State → State}

theorem verify_of_mac {l : Link} (h : mac = wordMac l.rxKey l.rxEpoch kind payload cctr) :
    l.verify kind payload cctr mac = .current := if_pos h

theorem onWord_of_not_carries (h : (s.lnk i).carries = false) : s.onWord i kind payload cctr mac f = s := by
  simp [State.onWord, h]

/-- A word whose MAC fails, or whose counter is not above the last one's, is discarded and counted. -/
theorem onWord_of_discarded (hc : (s.lnk i).carries = true) (h : (s.lnk i).verify kind payload cctr mac = .fails
      ∨ (mac = wordMac (s.lnk i).rxKey (s.lnk i).rxEpoch kind payload cctr ∧ cctr ≤ (s.lnk i).rxCctr)) :
    s.onWord i kind payload cctr mac f = s.bump (bFAB + 0x120) 1 := by
  have hnone : s.acceptWord i kind payload cctr mac = none := by
    rcases h with hfails | ⟨hmac, hold⟩
    · simp [State.acceptWord, hfails]
    · simp [State.acceptWord, verify_of_mac hmac, hold]
  simp [State.onWord, hc, hnone, State.discardWord]

/-- A fresh word is acted on, with its counter kept. -/
theorem onWord_of_fresh (hc : (s.lnk i).carries = true)
    (h : mac = wordMac (s.lnk i).rxKey (s.lnk i).rxEpoch kind payload cctr ∧ (s.lnk i).rxCctr < cctr) :
    s.onWord i kind payload cctr mac f = f (s.modLnk i fun k => { k with rxCctr := cctr }) := by
  have hsome : s.acceptWord i kind payload cctr mac = some (s.modLnk i fun k => { k with rxCctr := cctr }) := by
    simp [State.acceptWord, verify_of_mac h.1, h.2, State.modLnk]
  simp [State.onWord, hc, hsome]

theorem carries_of_active {l : Link} (h : l.st = .active) : l.carries = true := by simp [Link.carries, h]
theorem carries_of_draining {l : Link} (h : l.st = .draining) : l.carries = true := by simp [Link.carries, h]

end

/-! ### What a measured offset does (R42, R43) -/

section

variable (s : State) (o : Int)

/-- Acquiring moves the counter, the rate and the slew, and neither the parent's root and hops nor a link. -/
theorem acquireBy_keeps : (s.acquireBy o).time.root = s.time.root ∧ (s.acquireBy o).time.hops = s.time.hops
    ∧ (s.acquireBy o).links = s.links := by
  unfold State.acquireBy
  dsimp only
  split
  · exact ⟨rfl, rfl, rfl⟩
  · split <;> exact ⟨rfl, rfl, rfl⟩

theorem steer_keeps : (s.steer o).time.root = s.time.root ∧ (s.steer o).time.hops = s.time.hops
    ∧ (s.steer o).links = s.links := by
  have hagain (t : State) : t = { s with time := s.time.acquire s.time.link false } →
      (t.acquireBy o).time.root = s.time.root ∧ (t.acquireBy o).time.hops = s.time.hops ∧ (t.acquireBy o).links = s.links := by
    rintro rfl
    exact acquireBy_keeps _ o
  unfold State.steer
  dsimp only
  split
  · exact acquireBy_keeps s o
  · split
    · exact hagain _ rfl
    · exact ⟨rfl, rfl, rfl⟩
  · split
    · exact hagain _ rfl
    · exact ⟨rfl, rfl, rfl⟩
  · exact ⟨rfl, rfl, rfl⟩

end

/-! ### A TIME word (R42, R43, R46, R277, R279) -/

theorem parentUp_of_synced {s : State} (i : Nat) (h : s.time.st ≠ .unsynced) : s.parentUp i = s := if_neg fun hp => h hp.1

/-- A link with what it keeps of a TIME word: the stamp of its arrival, its number and the root it names. -/
def heardLink (l : Link) (now : Nat) (frac : Fin 16) (p : Nat) (cctr : Fin (2 ^ 48)) : Link :=
  { l with rxCctr := cctr, rxTimeAt := (now * 16 + frac) % 2 ^ 48, rxTimeSeq := bits p 31 24, rxRoot := bits p 15 2 }

/-- The state with what link `i` keeps of a TIME word. -/
def heard (s : State) (i : LinkId) (p : BitVec 128) (frac : Fin 16) (cctr : Fin (2 ^ 48)) : State :=
  s.setLnk i (heardLink (s.lnk i) s.now frac p.toNat cctr)

/-- What a TIME word that names `root` does to the state that keeps it: on the parent's link it gives its root and hops and steers
by the offset and the delay where they are measured; on another link it raises the conflict once where its root differs (R46). -/
def heeded (s : State) (i : LinkId) (root hops : Nat) (measured : Option (Int × Nat)) : State :=
  if s.time.follows ∧ s.time.link = i then
    match measured with
    | some m => { s with time := { s.time with root := root, hops := hops, offset := m.1, delay := m.2 } }.steer m.1
    | none => { s with time := { s.time with root := root, hops := hops } }
  else if s.rootDiffers root then
    if s.time.conflict then s
    else (({ s with time := { s.time with conflict := true } }).ledger 0x0303 (srcOf3 4 4 i) i 0 root).mctpEvent 3 i
  else s

theorem heeded_of_parent {s : State} {i : LinkId} (root hops : Nat) (measured : Option (Int × Nat))
    (hp : s.time.follows = true ∧ s.time.link = i) : (heeded s i root hops measured).time.root = root
      ∧ (heeded s i root hops measured).time.hops = hops ∧ (heeded s i root hops measured).links = s.links := by
  unfold heeded
  rw [if_pos hp]
  cases measured with
  | some m => exact steer_keeps _ _
  | none => exact ⟨rfl, rfl, rfl⟩

section

variable {i : LinkId} {p : BitVec 128} {frac : Fin 16} {cctr : Fin (2 ^ 48)} {mac : W64} {s : State}

theorem heard_eq : (s.modLnk i fun k => { k with rxCctr := cctr }).setLnk i
    { (s.modLnk i fun k => { k with rxCctr := cctr }).lnk i with
      rxTimeAt := (s.now * 16 + frac) % 2 ^ 48, rxTimeSeq := bits p.toNat 31 24, rxRoot := bits p.toNat 15 2 } =
    heard s i p frac cctr := by
  rw [lnk_modLnk, State.modLnk, setLnk_twice, heard, heardLink]

theorem heard_time : (heard s i p frac cctr).time = s.time := rfl

theorem exec_time : exec (.time i p frac cctr mac) s = execTime i p frac cctr mac s := rfl

theorem time_of_not_carries (h : (s.lnk i).carries = false) : exec (.time i p frac cctr mac) s = .next s :=
  congrArg Host.Outcome.next (onWord_of_not_carries h)

theorem time_of_discarded (hc : (s.lnk i).carries = true) (h : (s.lnk i).verify 6 p.toNat cctr mac.toNat = .fails
      ∨ (mac.toNat = wordMac (s.lnk i).rxKey (s.lnk i).rxEpoch 6 p.toNat cctr ∧ cctr.val ≤ (s.lnk i).rxCctr)) :
    exec (.time i p frac cctr mac) s = .next (s.bump (bFAB + 0x120) 1) :=
  congrArg Host.Outcome.next (onWord_of_discarded hc h)

section

variable (hf : mac.toNat = wordMac (s.lnk i).rxKey (s.lnk i).rxEpoch 6 p.toNat cctr ∧ (s.lnk i).rxCctr < cctr.val)

include hf

/-- In DRAINING a TIME word is accepted and says nothing (R249, R276). -/
theorem time_of_draining (hd : (s.lnk i).st = .draining) :
    exec (.time i p frac cctr mac) s = .next (s.modLnk i fun k => { k with rxCctr := cctr }) := by
  refine congrArg Host.Outcome.next ((onWord_of_fresh (carries_of_draining hd) hf).trans (if_pos ?_))
  rw [lnk_modLnk]
  simp [hd]

variable (ha : (s.lnk i).st = .active) (hst : s.time.st ≠ .unsynced)

include ha hst

/-- In ACTIVE a TIME word is kept and heeded; what it measures is known where it answers a word that was sent. -/
theorem time_of_active : ∃ measured, exec (.time i p frac cctr mac) s =
    .next (heeded (heard s i p frac cctr) i (bits p.toNat 15 2) (min 3 (p.toNat % 4 + 1)) measured) := by
  have hnot : ¬ ((s.modLnk i fun k => { k with rxCctr := cctr.val }).lnk i).st ≠ .active := by
    rw [lnk_modLnk]
    simp [ha]
  rw [exec_time, execTime, onWord_of_fresh (carries_of_active ha) hf, if_neg hnot]
  extract_lets q l t4 root t1 known s1 t s2 d o
  have hs1 : s1 = heard s i p frac cctr := (congrArg (State.parentUp · i) heard_eq).trans (parentUp_of_synced i hst)
  refine ⟨if known then some (o, (d * 125 / 4).toNat) else none, congrArg Host.Outcome.next ?_⟩
  rw [← hs1]
  cases known <;> rfl

/-- A TIME word on the parent's link gives its root and hops, and steers by what it measures (R42, R279). -/
theorem time_of_parent (hp : s.time.follows = true ∧ s.time.link = i) : ∃ u, exec (.time i p frac cctr mac) s = .next u
    ∧ u.time.root = bits p.toNat 15 2 ∧ u.time.hops = min 3 (p.toNat % 4 + 1) ∧ (u.lnk i).rxCctr = cctr.val := by
  obtain ⟨measured, hu⟩ := time_of_active hf ha hst
  obtain ⟨hroot, hhops, hlinks⟩ := heeded_of_parent (bits p.toNat 15 2) (min 3 (p.toNat % 4 + 1)) measured
    (show (heard s i p frac cctr).time.follows = true ∧ (heard s i p frac cctr).time.link = i from hp)
  refine ⟨_, hu, hroot, hhops, ?_⟩
  rw [State.lnk, hlinks]
  exact congrArg Link.rxCctr (lnk_setLnk s i _)

/-- A TIME word on another link than the parent's that names no other root is kept, and says nothing. -/
theorem time_of_same (hp : ¬ (s.time.follows = true ∧ s.time.link = i))
    (hd : ¬ (heard s i p frac cctr).rootDiffers (bits p.toNat 15 2) = true) :
    ∃ u, exec (.time i p frac cctr mac) s = .next u ∧ u.time = s.time ∧ u.now = s.now := by
  obtain ⟨measured, hu⟩ := time_of_active hf ha hst
  exact ⟨_, hu.trans (congrArg Host.Outcome.next ((if_neg hp).trans (if_neg hd))), rfl, rfl⟩

/-- One that names another root raises the conflict, with its record and its event (R46). -/
theorem time_of_conflict (hp : ¬ (s.time.follows = true ∧ s.time.link = i))
    (hd : (heard s i p frac cctr).rootDiffers (bits p.toNat 15 2) = true) (hc : s.time.conflict = false) :
    ∃ u, exec (.time i p frac cctr mac) s = .next u ∧ u.time = { s.time with conflict := true } ∧ u.now = s.now := by
  obtain ⟨measured, hu⟩ := time_of_active hf ha hst
  have hr := (reported_trans (reported_ledger { heard s i p frac cctr with time := { s.time with conflict := true } }
    0x0303 (srcOf3 4 4 i) i 0 (bits p.toNat 15 2)) (reported_mctpEvent _ 3 i)).rest
  exact ⟨_, hu.trans (congrArg Host.Outcome.next ((if_neg hp).trans ((if_pos hd).trans (if_neg (by simp [heard_time, hc]))))),
    (congrArg State.time hr :), (congrArg State.now hr :)⟩

end

/-- On another link than the parent's a root differs from the one that the parent's last word named; 0x3FFF names no root (the
model's choice: log 26). -/
theorem rootDiffers_of_follows (hf : s.time.follows = true) (hl : s.time.link ≠ i.val) (root : Nat) :
    (heard s i p frac cctr).rootDiffers root = true ↔
      root ≠ 0x3FFF ∧ (s.lnk s.time.link).rxRoot ≠ 0x3FFF ∧ root ≠ (s.lnk s.time.link).rxRoot := by
  have hlnk : (heard s i p frac cctr).lnk s.time.link = s.lnk s.time.link := lnk_setLnk_ne s _ hl
  simp [State.rootDiffers, heard_time, hf, hlnk]

theorem follows_of_root (h : s.time.st = .root) : s.time.follows = false := by simp [TimeSync.follows, h]

theorem synced_of_follows (h : s.time.follows = true) : s.time.st ≠ .unsynced := by
  intro e
  simp [TimeSync.follows, e] at h

/-- At a root a root differs from the module's own. -/
theorem rootDiffers_of_root (h : s.time.st = .root) (root : Nat) :
    (heard s i p frac cctr).rootDiffers root = true ↔ root ≠ 0x3FFF ∧ root ≠ s.reg bFAB := by
  have hreg : (heard s i p frac cctr).reg bFAB = s.reg bFAB := rfl
  simp [State.rootDiffers, heard_time, follows_of_root h, h, hreg]

end

/-! ### Locking and holdover (R42, R43, R45) -/

section

variable {s : State}

theorem timeLock_of_acquiring (h : s.time.st = .acquiring) : exec .timeLock s =
    .next { s with time := { s.time with st := .locked, slew := 0, rate := max (-100000) (min 100000 s.time.rate) } } :=
  congrArg Host.Outcome.next (if_pos h)

theorem timeLock_ignored (h : s.time.st ≠ .acquiring) : exec .timeLock s = .next s := congrArg Host.Outcome.next (if_neg h)

theorem holdoverEntry_of_locked (h : s.time.st = .locked) :
    exec .holdoverEntry s = .next { s with time := { s.time with st := .holdover } } :=
  congrArg Host.Outcome.next (if_pos h)

theorem holdoverEntry_ignored (h : s.time.st ≠ .locked) : exec .holdoverEntry s = .next s :=
  congrArg Host.Outcome.next (if_neg h)

/-- Holdover's expiry restarts the synchronisation from FAB_TS_CTRL's value in force, and leaves a pending one pending (R42). -/
theorem holdoverExpiry_of_holdover (h : s.time.st = .holdover) : exec .holdoverExpiry s =
    .next { s with time := { (s.restartTime s.time.ctrl).time with pendingCtrl := s.time.pendingCtrl } } := by
  have he : exec .holdoverExpiry s = .next { s.restartTime s.time.ctrl with
      time := { (s.restartTime s.time.ctrl).time with pendingCtrl := s.time.pendingCtrl } } :=
    congrArg Host.Outcome.next (if_pos h)
  rw [he, restartTime_rest]

theorem holdoverExpiry_ignored (h : s.time.st ≠ .holdover) : exec .holdoverExpiry s = .next s :=
  congrArg Host.Outcome.next (if_neg h)

end

/-- Settles O39, command by command; a TIME word by the link it came on and the root it names. That 0x3FFF names no root is the
model's choice (log 26). -/
theorem fabricTime : Obligations.FabricTime := by
  intro i v d frac p cctr mac s
  dsimp only
  refine ⟨fabTsSet_of_root, fabTsSet_ignored, ?_, fun hp hl => ?_, fun hp hl => ?_, timeSend_to_root frac, time_of_not_carries,
    time_of_discarded, fun hl hf => time_of_draining hf hl, fun hl hf => ⟨fun hfol hlink => ?_,
    fun hfol hlink hr hn hne hc => ?_, fun hfol hlink h => ?_, fun hst hr hne hc => ?_⟩, timeLock_of_acquiring, timeLock_ignored,
    holdoverEntry_of_locked, holdoverEntry_ignored, fun h => ⟨_, holdoverExpiry_of_holdover h, rfl, rfl, fun hpar => ?_,
    fun hpar hm => ?_⟩, holdoverExpiry_ignored, rfl, ⟨_, rfl, rfl, ?_, rfl⟩⟩
  · obtain ⟨u, hu, hreg, hpend, hrest⟩ := fabTsCtrl_spec v s
    refine ⟨u, hu, fun hm => ?_, fun hm => ?_, ?_, hpend, hrest⟩
    · rw [hreg, tsCtrlOf_mode, if_neg hm]
    · rw [hreg, tsCtrlOf_mode, if_pos hm]
    · rw [hreg, tsCtrlOf_parent]
  · rw [timeSend_of_not_active frac (by rwa [applyTsCtrl_of_idle hp]), applyTsCtrl_of_idle hp]
  · rw [timeSend_of_active frac (by rwa [applyTsCtrl_of_idle hp]), applyTsCtrl_of_idle hp]
  · exact time_of_parent hf hl (synced_of_follows hfol) ⟨hfol, hlink⟩
  · exact time_of_conflict hf hl (synced_of_follows hfol) (fun h => hlink h.2)
      ((rootDiffers_of_follows hfol hlink _).2 ⟨hr, hn, hne⟩) hc
  · refine time_of_same hf hl (synced_of_follows hfol) (fun h => hlink h.2) fun hd => ?_
    obtain ⟨hr, hn, hne⟩ := (rootDiffers_of_follows hfol hlink _).1 hd
    omega
  · exact time_of_conflict hf hl (by simp [hst]) (fun h => by simp [follows_of_root hst] at h)
      ((rootDiffers_of_root hst _).2 ⟨hr, hne⟩) hc
  · rw [restartTime_of_parent hpar]
    exact ⟨rfl, rfl⟩
  · rw [restartTime_of_alone hpar hm]
    exact ⟨rfl, rfl, rfl, rfl⟩
  · simp

end Sys2Proof.Laws
end

section
/-! PROOFS. The front end of a core: its position, the control steps, the completion of queued steps, and the choice of a variant
(spec/05: R109, R110, R115, R117 to R119, R126, R128, R137). -/
namespace Sys2Proof.Laws

open Machine

/-! ### The position after a step (R115, R117) -/

section

variable {k : Core} {f : LoopFrame} {fs : List LoopFrame}

/-- Outside every loop and every variant the position is settled. -/
theorem settle_of_outside (hl : k.loops = []) (hv : k.inVar = false) (fuel : Nat) : k.settle fuel = k := by
  cases fuel with
  | zero => rfl
  | succ fuel => simp [Core.settle, hl, hv]

theorem settle_repeats (hl : k.loops = f :: fs) (hv : f.inVar = k.inVar) (hs : k.step = f.first + f.body)
    (hi : f.iter + 1 < f.count) (fuel : Nat) : k.settle (fuel + 1) =
      { k with step := f.first, loops := { f with iter := f.iter + 1 } :: fs }.begin (loopKey f.first f.inVar) := by
  rw [Core.settle, hl]
  exact (if_pos ⟨hv, hs⟩).trans (if_pos hi)

theorem settle_leaves (hl : k.loops = f :: fs) (hv : f.inVar = k.inVar) (hs : k.step = f.first + f.body)
    (hi : f.count ≤ f.iter + 1) (fuel : Nat) : k.settle (fuel + 1) = { k with loops := fs }.settle fuel := by
  rw [Core.settle, hl]
  exact (if_pos ⟨hv, hs⟩).trans (if_neg (Nat.not_lt.2 hi))

@[simp] theorem begunOf_begin (k : Core) (key : Nat) : (k.begin key).begunOf key = k.begunOf key + 1 :=
  tblGet_tblSet_self (fun _ => 0) k.begun key (k.begunOf key + 1)

/-- A body with iterations left starts again from its first step. -/
theorem advance_repeats (hl : k.loops = f :: fs) (hv : f.inVar = k.inVar) (hs : k.step + 1 = f.first + f.body)
    (hi : f.iter + 1 < f.count) : k.advance =
      { k with step := f.first, loops := { f with iter := f.iter + 1 } :: fs }.begin (loopKey f.first f.inVar) :=
  settle_repeats (k := { k with step := k.step + 1 }) hl hv hs hi 5

/-- The last iteration of an only loop leads behind its body. -/
theorem advance_leaves (hl : k.loops = [f]) (hv : f.inVar = k.inVar) (ho : k.inVar = false)
    (hs : k.step + 1 = f.first + f.body) (hi : f.count ≤ f.iter + 1) :
    k.advance = { k with step := k.step + 1, loops := [] } :=
  (settle_leaves (k := { k with step := k.step + 1 }) hl hv hs hi 5).trans
    (settle_of_outside (k := { k with step := k.step + 1, loops := [] }) rfl ho 5)

theorem advance_of_outside (hl : k.loops = []) (hv : k.inVar = false) : k.advance = { k with step := k.step + 1 } :=
  settle_of_outside (k := { k with step := k.step + 1 }) hl hv 6

end

/-- Settles O2: one clause for a body that repeats, one for a loop that is left, one for a step outside every loop. -/
theorem loopsRepeat : Obligations.LoopsRepeat := by
  refine fun k => ⟨fun f fs hl hv hs hi => ?_, fun f hl hv ho hs hi => advance_leaves hl hv ho hs hi, advance_of_outside⟩
  rw [advance_repeats hl hv hs hi]
  exact ⟨rfl, rfl, begunOf_begin _ _⟩

/-! ### A fault of a core (R138) -/

section

variable (s : State) (p c code : Nat)

/-- The stop of a launch's other cores passes the faulted core by. -/
@[simp] theorem tblGet_stopOthers (d : Nat → Core) (t : Tbl Core) : tblGet d (stopOthers p c t) c = tblGet d t c := by
  induction t with
  | nil => rfl
  | cons e t ih =>
    by_cases h : e.1 = c
    · simp [stopOthers, tblGet, h]
    · simp [stopOthers, tblGet, h, ih]

theorem tellFault_eq (v : Nat) : s.tellFault p v code = { s with out := (s.tellFault p v code).out } := by
  by_cases h : (s.part p).anchor = s.reg bFAB <;> simp [State.tellFault, State.emit, State.emits, h]

/-- What a launch fault writes: the partition, the cores, the outputs. -/
theorem launchFault_eq : s.launchFault p c code =
    { s with parts := (s.launchFault p c code).parts, cores := (s.launchFault p c code).cores,
             out := (s.launchFault p c code).out } := by
  simp only [State.launchFault]
  split
  · rfl
  · next l =>
    split
    · rw [tellFault_eq]
      rfl
    · rfl

/-- A launch fault does not touch the core that raises it. -/
@[simp] theorem core_launchFault : (s.launchFault p c code).core c = s.core c := by
  simp only [State.launchFault]
  split
  · rfl
  · next l =>
    split
    · rw [tellFault_eq]
      exact tblGet_stopOthers p c _ _
    · exact tblGet_stopOthers p c _ _

@[simp] theorem core_seqFault : (s.seqFault c code).core c = (s.core c).stop code := by simp [State.seqFault]

theorem seqFault_eq : s.seqFault c code =
    { s with parts := (s.seqFault c code).parts, cores := (s.seqFault c code).cores, out := (s.seqFault c code).out } := by
  rw [State.seqFault, launchFault_eq]
  rfl

end

/-! ### The end of a phase (R507) -/

section

variable (s : State) (c : Nat)

theorem takeSlack_eq : s.takeSlack.1 = { s with regs := s.takeSlack.1.regs } := by
  unfold State.takeSlack
  split <;> rfl

/-- What the end of a phase writes: the slack table, the register that counts evictions from it, and its clock. -/
theorem phaseEnd_writes : ∃ sl rg pw, s.phaseEnd c = { s with slack := sl, regs := rg, pwr := pw } := by
  unfold State.phaseEnd
  dsimp only
  split
  · exact ⟨_, _, _, rfl⟩
  · split
    · exact ⟨_, _, _, rfl⟩
    · rw [takeSlack_eq]
      exact ⟨_, _, _, rfl⟩

@[simp] theorem core_phaseEnd (d : Nat) : (s.phaseEnd c).core d = s.core d := by
  obtain ⟨sl, rg, pw, h⟩ := phaseEnd_writes s c
  rw [h]
  rfl

@[simp] theorem part_phaseEnd (p : Nat) : (s.phaseEnd c).part p = s.part p := by
  obtain ⟨sl, rg, pw, h⟩ := phaseEnd_writes s c
  rw [h]
  rfl

end

/-- From `s` to `t` only core `c`, the slack table, registers and the power controller's account are written: what steps that end a
phase do (R507). -/
def PhaseWrites (c : Nat) (s t : State) : Prop :=
  t = { s with cores := t.cores, slack := t.slack, regs := t.regs, pwr := t.pwr } ∧ ∀ d, d ≠ c → t.core d = s.core d

section

variable {s t u : State} {c : Nat}

theorem phaseWrites_trans (h : PhaseWrites c s t) (h' : PhaseWrites c t u) : PhaseWrites c s u := by
  obtain ⟨ht, hcores⟩ := h
  obtain ⟨hu, hcores'⟩ := h'
  refine ⟨?_, fun d hd => (hcores' d hd).trans (hcores d hd)⟩
  rw [hu, ht]

theorem phaseWrites_setCore (k : Core) : PhaseWrites c s (s.setCore c k) := ⟨rfl, fun _ hd => core_setCore_ne s k hd⟩

theorem phaseWrites_slack (sl : Tbl Slack) : PhaseWrites c s { s with slack := sl } := ⟨rfl, fun _ _ => rfl⟩

theorem phaseWrites_phaseEnd : PhaseWrites c s (s.phaseEnd c) := by
  obtain ⟨sl, rg, pw, h⟩ := phaseEnd_writes s c
  rw [h]
  exact ⟨rfl, fun _ _ => rfl⟩

end

/-! ### What wakes the front end (R109, R128, R137) -/

section

variable {s : State} {c : Nat}

theorem wakeFront_of_no_stall (h : (s.core c).stall = .none) : s.wakeFront c = s := by rw [State.wakeFront, h]

/-- A drained END ends the core where no re-bind request is pending. -/
theorem wakeFront_of_drainEnd (hs : (s.core c).stall = .drainEnd) (hd : (s.core c).drained = true)
    (hl : ((s.part (s.core c).part).launch.map (·.rebind)) ≠ some true) :
    s.wakeFront c = (s.phaseEnd c).setCore c { s.core c with st := .done, stall := .none, phase := none } := by
  simp only [State.wakeFront, hs, hd, if_true, State.finishCore, core_phaseEnd, part_phaseEnd]
  split
  · next l hlaunch =>
    have hr : ¬ l.rebind = true := fun hr => hl (by simp [hlaunch, hr])
    exact if_neg hr
  · rfl

/-- A drained REBIND passes where no re-bind request is pending. -/
theorem wakeFront_of_drainRebind (hs : (s.core c).stall = .drainRebind) (hd : (s.core c).drained = true)
    (hl : ((s.part (s.core c).part).launch.map (·.rebind)) ≠ some true) : s.wakeFront c =
      s.setCore c { s.core c with st := .running, stall := .none, rbseq := (s.core c).rbseq + 1 }.advance := by
  simp only [State.wakeFront, hs, hd, if_true, if_neg hl]

end

/-! ### The control steps of a ready front end (R109, R110, R117, R126, R128, R137) -/

section

variable {c : CoreId} {w : StepWord} {s : State}

theorem front_of_ready {c : Nat} (h : (s.core c).ready = true) (f : Core → State) : s.front c f = f (s.core c) := if_pos h

theorem nop_of_ready (h : (s.core c).ready = true) : exec (.nop c w) s = .next (s.setCore c (s.core c).advance) :=
  congrArg Host.Outcome.next (front_of_ready h _)

theorem loop_of_ready (h : (s.core c).ready = true) : exec (.loop c w) s = .next (s.setCore c
    ({ s.core c with
        step := (s.core c).step + 1,
        loops := ⟨(s.core c).step + 1, fld w 87 72, fld w 119 88, 0, (s.core c).inVar⟩ :: (s.core c).loops }.begin
      (loopKey ((s.core c).step + 1) (s.core c).inVar))) :=
  congrArg Host.Outcome.next (front_of_ready h _)

/-- The core `c` of `s` in the phase that a PHASE step's word names, before it moves on (R126). -/
def phaseEntered (c : CoreId) (w : StepWord) (s : State) : Core :=
  { s.core c with phase := some (fld w 119 104), crit := flag w 103, phaseAt := s.now, waitAcc := 0,
                  phaseEnergy := (s.clu (c.val / 16)).energy }

theorem exec_phase : exec (.phase c w) s = execPhase c w s := rfl

/-- The slack table apart, PHASE enters its phase behind the end of the present one. -/
theorem phase_of_ready (h : (s.core c).ready = true) : ∃ sl, exec (.phase c w) s =
    .next { (s.phaseEnd c).setCore c (phaseEntered c w s).advance with slack := sl } := by
  rw [exec_phase, execPhase, front_of_ready h]
  dsimp only
  split
  · split <;> exact ⟨_, rfl⟩
  · exact ⟨_, rfl⟩

theorem fence_of_clear (h : (s.core c).ready = true) (hm : (s.core c).masked (fld w 119 116) = []) :
    exec (.fence c w) s = .next (s.setCore c (s.core c).advance) := by
  refine congrArg Host.Outcome.next ((front_of_ready h _).trans ?_)
  simp only [hm, List.isEmpty_nil, if_true]

theorem fence_of_outstanding (h : (s.core c).ready = true) (hm : (s.core c).masked (fld w 119 116) ≠ []) :
    exec (.fence c w) s =
      .next (s.setCore c { s.core c with st := .stalled, stall := .fence ((s.core c).masked (fld w 119 116)) }) := by
  refine congrArg Host.Outcome.next ((front_of_ready h _).trans ?_)
  simp only [List.isEmpty_iff, if_neg hm]

theorem rebind_of_drained (h : (s.core c).ready = true) (hd : (s.core c).drained = true)
    (hl : ((s.part (s.core c).part).launch.map (·.rebind)) ≠ some true) : exec (.rebind c w) s = .next (s.setCore c
      { s.core c with st := .running, stall := .none, rbseq := (s.core c).rbseq + 1 }.advance) := by
  refine congrArg Host.Outcome.next ((front_of_ready h _).trans ?_)
  rw [wakeFront_of_drainRebind (by rw [core_setCore]) (by rw [core_setCore]; exact hd) (by rw [core_setCore]; exact hl),
    core_setCore, setCore_twice]

theorem end_of_drained (h : (s.core c).ready = true) (hd : (s.core c).drained = true)
    (hl : ((s.part (s.core c).part).launch.map (·.rebind)) ≠ some true) : exec (.endCmd c w) s =
      .next (((s.setCore c { s.core c with stall := .drainEnd }).phaseEnd c).setCore c
        { s.core c with st := .done, stall := .none, phase := none }) := by
  refine congrArg Host.Outcome.next ((front_of_ready h _).trans ?_)
  rw [wakeFront_of_drainEnd (by rw [core_setCore]) (by rw [core_setCore]; exact hd) (by rw [core_setCore]; exact hl), core_setCore]

end

/-! ### The completion of a queued step (R100, R109, R321, R322) -/

section

/-- The bank waits of a completed step counted at the core's cluster (R100). -/
def waitsCounted (s : State) (c : CoreId) (waits : Nat) : State :=
  if waits = 0 then s else s.bump64 (dpReg (c.val / 16) 0x18) waits

/-- Of the core `k`, queue `q` without step `n`, and `n` no longer among the SETSELs that a VSEL waits for (R109). -/
def stepLeft (k : Core) (q : Queue) (n : Nat) : Core :=
  { k.setQueue q ((k.queue q).filter (· ≠ n)) with setsels := k.setsels.filter (· ≠ n) }

variable {s : State} {c : CoreId} {n waits : Nat} {ns : List Nat}

theorem waitsCounted_eq (s : State) (c : CoreId) (waits : Nat) :
    waitsCounted s c waits = { s with regs := (waitsCounted s c waits).regs } := by
  unfold waitsCounted
  split <;> rfl

@[simp] theorem core_waitsCounted (d : Nat) : (waitsCounted s c waits).core d = s.core d := by
  rw [waitsCounted_eq]
  rfl

/-- Where nothing is held back, nothing but what waits for SETSELs depends on a completed step. -/
theorem dropDep_of_quiet {k : Core} (hsig : k.signals = []) (hst : k.stall = .none) (n : Nat) :
    k.dropDep n = { k with setsels := k.setsels.filter (· ≠ n) } := by
  obtain ⟨⟩ := k
  subst hsig hst
  rfl

@[simp] theorem signals_setQueue (k : Core) (q : Queue) (l : List Nat) : (k.setQueue q l).signals = k.signals := by cases q <;> rfl
@[simp] theorem stall_setQueue (k : Core) (q : Queue) (l : List Nat) : (k.setQueue q l).stall = k.stall := by cases q <;> rfl
@[simp] theorem setsels_setQueue (k : Core) (q : Queue) (l : List Nat) : (k.setQueue q l).setsels = k.setsels := by cases q <;> rfl
@[simp] theorem syWait_setQueue (k : Core) (q : Queue) (l : List Nat) : (k.setQueue q l).syWait = k.syWait := by cases q <;> rfl

/-- The completion of a step of a core without held signals and without a stall: the step leaves its queue. -/
theorem stepDone_of_quiet {c : Nat} (hsig : (s.core c).signals = []) (hst : (s.core c).stall = .none) (q : Queue) (n : Nat) :
    s.stepDone c q n = s.setCore c (stepLeft (s.core c) q n) := by
  have hdrop : ((s.core c).setQueue q (((s.core c).queue q).filter (· ≠ n))).dropDep n = stepLeft (s.core c) q n := by
    rw [dropDep_of_quiet (by simpa using hsig) (by simpa using hst), setsels_setQueue, stepLeft]
  have hnone : (stepLeft (s.core c) q n).signals = [] := (signals_setQueue ..).trans hsig
  have hraise : ∀ t : State, t.raiseReady c [] = t := fun _ => rfl
  simp only [State.stepDone, State.modCore, hdrop, core_setCore, hnone, hraise]
  exact wakeFront_of_no_stall (by rw [core_setCore]; exact (stall_setQueue ..).trans hst)

theorem stepDone_waitsCounted (hsig : (s.core c).signals = []) (hst : (s.core c).stall = .none) (q : Queue) :
    (waitsCounted s c waits).stepDone c q n = (waitsCounted s c waits).setCore c (stepLeft (s.core c) q n) := by
  rw [stepDone_of_quiet (by rwa [core_waitsCounted]) (by rwa [core_waitsCounted]), core_waitsCounted]

theorem exec_queueStepCompleted (e : StepEnd) : exec (.queueStepCompleted c e) s = execQueueStepCompleted c e s := rfl

theorem queueStepCompleted_mx (hq : (s.core c).qMx = n :: ns) :
    exec (.queueStepCompleted c ⟨0, waits⟩) s = .next ((waitsCounted s c waits).stepDone c .mx n) := by
  simp [exec_queueStepCompleted, execQueueStepCompleted, hq, waitsCounted]

theorem queueStepCompleted_vx (hq : (s.core c).qVx = n :: ns) :
    exec (.queueStepCompleted c ⟨1, waits⟩) s = .next ((waitsCounted s c waits).stepDone c .vx n) := by
  simp [exec_queueStepCompleted, execQueueStepCompleted, hq, waitsCounted]

/-- Without an object a GLOBAL step's completion raises nothing (R321). -/
theorem queueStepCompleted_sy {g : Nat} {ds : List (Nat × Nat × Nat)} (hq : (s.core c).syDone = (n, 0xFFFFF, g) :: ds) :
    exec (.queueStepCompleted c ⟨2, waits⟩) s =
      .next ((((waitsCounted s c waits).setCore c { s.core c with syDone := ds }).stepDone c .sy n).wakeGlobals [c.val]) := by
  simp [exec_queueStepCompleted, execQueueStepCompleted, hq, waitsCounted]

/-- No GLOBAL step of the core waits to start. -/
theorem wakeGlobals_of_none {c : Nat} (h : (s.core c).syWait = []) : s.wakeGlobals [c] = s := by
  have hstart : s.startGlobals c 33 = s := by rw [State.startGlobals]; simp only [h]
  rw [State.wakeGlobals, hstart, h]
  rfl

end

/-- Settles O1: the control steps one by one, then the completion in each of the three queues. -/
theorem controlSteps : Obligations.ControlSteps := by
  refine fun c w s => ⟨fun hr => ⟨nop_of_ready hr, ⟨_, loop_of_ready hr, ?_⟩, ?_, fence_of_clear hr, fence_of_outstanding hr,
    fun hd hl => ⟨⟨_, rebind_of_drained hr hd hl, core_setCore .., rfl, fun _ hn => core_setCore_ne s _ hn⟩,
      ⟨_, end_of_drained hr hd hl, ?_⟩⟩⟩, fun n ns waits hsig hst => ⟨fun hq => ?_, fun hq => ?_, fun g ds hq hw => ?_⟩⟩
  · refine ⟨?_, ?_, rfl, fun _ hn => core_setCore_ne s _ hn⟩ <;> rw [core_setCore] <;> rfl
  · obtain ⟨sl, he⟩ := phase_of_ready (w := w) hr
    exact ⟨_, he, core_setCore .., phaseWrites_trans (phaseWrites_trans phaseWrites_phaseEnd (phaseWrites_setCore _))
      (phaseWrites_slack sl)⟩
  · rw [core_setCore]
    exact ⟨rfl, rfl, phaseWrites_trans (phaseWrites_trans (phaseWrites_setCore _) phaseWrites_phaseEnd) (phaseWrites_setCore _)⟩
  · rw [queueStepCompleted_mx hq, stepDone_waitsCounted hsig hst, stepLeft, ← hq]
    rfl
  · rw [queueStepCompleted_vx hq, stepDone_waitsCounted hsig hst, stepLeft, ← hq]
    rfl
  · refine ⟨_, queueStepCompleted_sy hq, ?_⟩
    rw [stepDone_of_quiet (by rw [core_setCore]; exact hsig) (by rw [core_setCore]; exact hst), setCore_twice, core_setCore,
      wakeGlobals_of_none (by rw [core_setCore]; exact (syWait_setQueue ..).trans hw)]
    refine ⟨core_setCore .., rfl, fun d hn => ?_⟩
    rw [core_setCore_ne _ _ hn, core_waitsCounted]

/-! ### The choice of a variant (R110, R118, R119) -/

section

variable (im : List Byte) (off x : Nat)

/-- The scan from entry `i` finds the first entry whose threshold reaches the selector (R119). -/
theorem thresholdEntry_first {e : Nat} (hx : x ≤ imgField im (off + 0x10 + 4 * e) 4) (i n : Nat) (hi : i ≤ e) (hn : e < i + n)
    (hlow : ∀ d, i ≤ d → d < e → imgField im (off + 0x10 + 4 * d) 4 < x) : thresholdEntry im off x i n = some e := by
  induction n generalizing i with
  | zero => omega
  | succ n ih =>
    rw [thresholdEntry]
    rcases Nat.eq_or_lt_of_le hi with rfl | hlt
    · exact if_pos hx
    · rw [if_neg (Nat.not_le.2 (hlow i (Nat.le_refl i) hlt))]
      exact ih (i + 1) hlt (by omega) fun d hd => hlow d (by omega)

theorem thresholdEntry_none (i n : Nat) (hlow : ∀ d, d < i + n → imgField im (off + 0x10 + 4 * d) 4 < x) :
    thresholdEntry im off x i n = none := by
  induction n generalizing i with
  | zero => rfl
  | succ n ih =>
    rw [thresholdEntry, if_neg (Nat.not_le.2 (hlow i (by omega)))]
    exact ih (i + 1) fun d hd => hlow d (by omega)

end

section

variable {c : CoreId} {w : StepWord} {s : State}

theorem vsel_of_setsels (h : (s.core c).ready = true) (hset : (s.core c).setsels ≠ []) : exec (.vsel c w) s =
    .next (s.setCore c { s.core c with st := .stalled, stall := .vsel (s.core c).setsels }) := by
  refine congrArg Host.Outcome.next ((front_of_ready h _).trans (if_pos ?_))
  simp [hset]

theorem vsel_of_reserved (h : (s.core c).ready = true) (hset : (s.core c).setsels = []) (hm : 2 ≤ fld w 107 106) :
    exec (.vsel c w) s = .next (s.seqFault c 1) := by
  refine congrArg Host.Outcome.next ((front_of_ready h _).trans ((if_neg ?_).trans (if_pos hm)))
  simp [hset]

/-- Offset, in the image of the core's launch, of the variant that a VSEL's word names (R118). -/
def variantOff (c : CoreId) (w : StepWord) (s : State) : Nat := secOff (s.imageOf (s.core c)) 2 + 336 * fld w 119 108

/-- Number of entries of that variant. -/
def variantEntries (c : CoreId) (w : StepWord) (s : State) : Nat := imgField (s.imageOf (s.core c)) (variantOff c w s) 1

/-- Value of the selector that a VSEL's word names (R119). -/
def variantSel (c : CoreId) (w : StepWord) (s : State) : Nat := tblGet (fun _ => 0) (s.core c).sel (fld w 105 104)

/-- The entry that a VSEL's selector and mode choose; none where none qualifies (R119). -/
def variantPick (c : CoreId) (w : StepWord) (s : State) : Option Nat :=
  if fld w 107 106 = 0 then (if variantSel c w s < variantEntries c w s then some (variantSel c w s) else none)
  else thresholdEntry (s.imageOf (s.core c)) (variantOff c w s) (variantSel c w s) 0 (variantEntries c w s)

/-- The core `k` at a VSEL whose variant, at `off` of the image, has `n` entries: gone on to the picked entry, or to the last and
one more value out of range counted. An entry without steps is passed (R118, R119). -/
def variantTaken (k : Core) (im : List Byte) (off n : Nat) (pick : Option Nat) : Core :=
  let first := imgField im (off + 0x50 + 16 * pick.getD (n - 1)) 4
  let steps := imgField im (off + 0x54 + 16 * pick.getD (n - 1)) 4
  let k1 := if pick.isSome then k else { k with vrange := satAdd 0xFFFFFFFF k.vrange 1 }
  if steps = 0 then k1.advance else { k1 with inVar := true, step := first, varEnd := first + steps, varRet := k.step + 1 }

/-- VSEL leads into the steps of entry `e`, if it has any, with `oor` selector values out of range counted (R118, R119). -/
def VselEnters (c : CoreId) (w : StepWord) (s : State) (e oor : Nat) : Prop :=
  let im := s.imageOf (s.core c)
  let off := variantOff c w s
  imgField im (off + 0x54 + 16 * e) 4 ≠ 0 → exec (.vsel c w) s = .next (s.setCore c
    { s.core c with vrange := oor, inVar := true, step := imgField im (off + 0x50 + 16 * e) 4,
                    varEnd := imgField im (off + 0x50 + 16 * e) 4 + imgField im (off + 0x54 + 16 * e) 4,
                    varRet := (s.core c).step + 1 })

theorem variantPick_direct (hm : fld w 107 106 = 0) (hx : variantSel c w s < variantEntries c w s) :
    variantPick c w s = some (variantSel c w s) :=
  (if_pos hm).trans (if_pos hx)

theorem variantPick_direct_none (hm : fld w 107 106 = 0) (hx : variantEntries c w s ≤ variantSel c w s) :
    variantPick c w s = none :=
  (if_pos hm).trans (if_neg (Nat.not_lt.2 hx))

theorem variantPick_threshold (hm : fld w 107 106 = 1) : variantPick c w s =
    thresholdEntry (s.imageOf (s.core c)) (variantOff c w s) (variantSel c w s) 0 (variantEntries c w s) :=
  if_neg (by omega)

section

variable (hr : (s.core c).ready = true) (hset : (s.core c).setsels = []) (hm : fld w 107 106 < 2)

include hr hset hm

theorem vsel_of_mode : exec (.vsel c w) s = .next (s.setCore c (variantTaken (s.core c) (s.imageOf (s.core c)) (variantOff c w s)
    (variantEntries c w s) (variantPick c w s))) :=
  congrArg Host.Outcome.next ((front_of_ready hr _).trans ((if_neg (by simp [hset])).trans (if_neg (Nat.not_le.2 hm))))

/-- The qualifying entry is entered, and nothing is counted. -/
theorem vselEnters_of_pick {e : Nat} (hp : variantPick c w s = some e) : VselEnters c w s e (s.core c).vrange := by
  intro he
  rw [vsel_of_mode hr hset hm, hp]
  exact congrArg (fun k => Host.Outcome.next (s.setCore c k)) (if_neg he)

/-- Where no entry qualifies the last is entered, and counted. -/
theorem vselEnters_of_no_pick (hp : variantPick c w s = none) :
    VselEnters c w s (variantEntries c w s - 1) (min 0xFFFFFFFF ((s.core c).vrange + 1)) := by
  intro he
  rw [vsel_of_mode hr hset hm, hp]
  exact congrArg (fun k => Host.Outcome.next (s.setCore c k)) (if_neg he)

end

end

/-- Settles O3: a VSEL waits for its SETSELs; else its mode decides which entry qualifies, and that entry or the last is entered. -/
theorem variantSelect : Obligations.VariantSelect := by
  refine fun c w s hr => ⟨vsel_of_setsels hr, fun hset => ⟨fun hm hx => ?_, fun hm hx => ?_, fun hm e he hx hlow => ?_,
    fun hm hlow => ?_, fun hm => ⟨_, vsel_of_reserved hr hset hm, ?_⟩⟩⟩
  · exact vselEnters_of_pick hr hset (by omega) (variantPick_direct hm hx)
  · exact vselEnters_of_no_pick hr hset (by omega) (variantPick_direct_none hm hx)
  · refine vselEnters_of_pick hr hset (by omega) ((variantPick_threshold hm).trans ?_)
    exact thresholdEntry_first _ _ _ hx 0 _ (Nat.zero_le e) (by rwa [Nat.zero_add]) fun d _ => hlow d
  · refine vselEnters_of_no_pick hr hset (by omega) ((variantPick_threshold hm).trans ?_)
    exact thresholdEntry_none _ _ _ 0 _ (by rwa [Nat.zero_add])
  · rw [core_seqFault, seqFault_eq]
    exact ⟨rfl, rfl, rfl, rfl⟩

end Sys2Proof.Laws
end

section
/-! PROOFS. Transfers that load a selector, allocations and frees of pool pages, and the rounds of expert buckets (spec/06: R158 to
R161, R168; spec/13: R366, R369, R370). -/
namespace Sys2Proof.Laws

open Machine

/-! ### A transfer step taken by its engine at once (R108, R114) -/

section

@[simp] theorem seq_enqueue (k : Core) (q : Queue) : (k.enqueue q).seq = k.seq + 1 := by cases q <;> rfl
@[simp] theorem held_enqueue (k : Core) (q : Queue) : (k.enqueue q).held = k.held := by cases q <;> rfl

variable {s : State} {c n : Nat} {w : StepWord} {f : XfStep}

@[simp] theorem hasRoom_setCore (k : Core) (e : Nat) : (s.setCore c k).hasRoom e = s.hasRoom e := rfl

theorem offerStep_of_room (hh : (s.core c).held = []) (he : s.hasRoom (f.engine c w) = true) :
    s.offerStep c n w f = s.startStep c (f.engine c w) n w f :=
  if_pos ⟨List.isEmpty_iff.2 hh, he⟩

/-- With room in the queue and in the engine and no earlier step waiting, a transfer step takes the next number, its engine starts it,
and the front end moves on. -/
theorem issueXfer_of_room {t : State} (hr : (s.core c).ready = true) (hq : (s.core c).qXf.length < 32) (hh : (s.core c).held = [])
    (he : s.hasRoom (f.engine c w) = true)
    (ht : (s.setCore c ((s.core c).enqueue .xf)).startStep c (f.engine c w) (s.core c).seq w f = t) :
    s.issueXfer c w f = t.modCore c Core.moveOn := by
  have hheld : ((s.setCore c ((s.core c).enqueue .xf)).core c).held = [] := by rwa [core_setCore, held_enqueue]
  have hseq : ((s.setCore c ((s.core c).enqueue .xf)).core c).seq - 1 = (s.core c).seq := by
    rw [core_setCore, seq_enqueue, Nat.add_sub_cancel]
  refine (if_pos hr).trans ((if_pos hq).trans (congrArg (State.modCore · c Core.moveOn) ?_))
  exact (offerStep_of_room hheld he).trans (hseq ▸ ht)

variable {sd dd : Desc} (e : Nat)

theorem startBucketCount_of_desc (hd : s.xferDesc c w (fld w 111 96) = some sd) (hi : fld w 79 64 = 0xFFFF) :
    s.startBucketCount c e w n =
      s.startXfer (stepXfer .bucketCount c n (s.core c).part w sd sd (fld w 95 80 - 0xFFF0)) e := by
  rw [State.startBucketCount, hd]
  exact if_pos hi

theorem startAlloc_of_desc (picks : List (Nat × Nat)) (hd : s.xferDesc c w (fld w 95 80) = some dd) (hi : fld w 79 64 = 0xFFFF) :
    s.startAlloc c e w n picks =
      s.startXfer { stepXfer .alloc c n (s.core c).part w dd dd 0 with picks := picks } e := by
  rw [State.startAlloc, hd]
  exact if_pos hi

theorem startFree_of_desc (hd : s.xferDesc c w (fld w 111 96) = some sd) (hi : fld w 79 64 = 0xFFFF) :
    s.startFree c e w n = s.startXfer (stepXfer .free c n (s.core c).part w sd sd 0) e := by
  rw [State.startFree, hd]
  exact if_pos hi

end

/-! ### Bucket-count transfers, allocations and frees dispatched (R168, R369, R370) -/

section

variable {s : State} {c : CoreId} {w : StepWord}

theorem bucketCountTransfer_of_dst (hl : 0xFFF0 ≤ fld w 95 80) (hu : fld w 95 80 ≤ 0xFFF3) :
    exec (.bucketCountTransfer c w) s = .next (s.issueXfer c w .bucketCount) :=
  congrArg Host.Outcome.next (if_neg (by omega))

/-- An allocation whose picks are those of the allocator is dispatched; without the allocator any picks are. -/
theorem allocation_of_picks {dd : Desc} {n : Nat} {picks : List (Nat × Nat)} (hs : fld w 111 96 = 0xFFE0)
    (hd : s.xferDesc c w (fld w 95 80) = some dd) (hf : pagesForm c dd = some n)
    (hp : s.hasAlloc (s.core c).part = true → s.picksOk (s.core c).part n picks = true) :
    exec (.allocation c w picks) s = .next (s.issueXfer c w (.alloc picks)) := by
  refine congrArg Host.Outcome.next (if_neg ?_)
  rw [hd]
  rintro (hne | ⟨-, ha, hbad⟩)
  · exact hne hs
  · simp [hf, hp ha] at hbad

theorem free_of_dst (hd : fld w 95 80 = 0xFFE1) : exec (.free c w) s = .next (s.issueXfer c w .free) :=
  congrArg Host.Outcome.next (if_neg (not_not_intro hd))

end

/-! ### The same transfers run by their engine -/

section

variable {s : State} {x : Xfer} {n : Nat} (e : Nat)

/-- The word at the source of a bucket-count transfer goes to its selector (R168). -/
theorem runBucketCount_of_good (hs : x.src.space = 1) (hc : x.src.core / 16 = x.core / 16) (ho : x.src.off + 4 ≤ 2 ^ 20)
    (hx : (fmtOf x.src.fmt).all (fun f => x.src.extent f) = true) (hp : s.poisonIn x.src.core x.src.off 4 = 0) :
    s.runBucketCount x e = (s.modCore x.core fun k =>
      { k with sel := tblSet (fun _ => 0) k.sel x.seed (s.spadWord x.src.core x.src.off) }).refuseXfer x e 0 := by
  have hextent : ¬ (x.src.off + 4 > 2 ^ 20 ∨ (!(fmtOf x.src.fmt).all fun f => x.src.extent f) = true) := by
    rintro (hover | hout)
    · omega
    · simp [hx] at hout
  exact (if_neg (by simp [hs, hc])).trans ((if_neg hextent).trans (if_neg (by omega)))

/-- An allocation takes the pages picked for it and writes their number and addresses to its destination (R369). -/
theorem runAlloc_of_picks (hf : pagesForm x.core x.dst = some n) (ha : s.hasAlloc x.part = true)
    (hx : x.dst.extent .int32 = true) (hp : s.picksOk x.part n x.picks = true) :
    let words := toBytes 4 x.picks.length ++ toBytes 4 0 ++ x.picks.flatMap fun y => toBytes 8 (s.arenaVa x.part + y.2 * 2 ^ 25)
    s.runAlloc x e = (((s.takePages x.part x.picks).refuseXfer x e 0).spadWrite x.dst.core x.dst.off words).modXfer e x.core x.seq
      fun y => { y with bytes := words.length, unacked := 1 } := by
  simp [State.runAlloc, hf, ha, hx, hp]

/-- A free takes back the pages of its list and ends with the list's status (R370). -/
theorem runFree_of_list (hf : pagesForm x.core x.src = some n) (ha : s.hasAlloc x.part = true) (hx : x.src.extent .int32 = true)
    (hpos : 0 < s.spadWord x.core x.src.off) (hn : s.spadWord x.core x.src.off ≤ n) (hp : s.poisonIn x.core x.src.off 8 = 0)
    (hps : s.poisonIn x.core (x.src.off + 8) (8 * s.spadWord x.core x.src.off) = 0) :
    let r := s.freeList x.part ((List.range (s.spadWord x.core x.src.off)).map fun i =>
      ofBytes (s.spadRead x.core (x.src.off + 8 + 8 * i) 8))
    s.runFree x e = r.1.refuseXfer x e r.2 := by
  have hcount : ¬ (s.spadWord x.core x.src.off = 0 ∨ s.spadWord x.core x.src.off > n) := by omega
  simp only [State.runFree, hf, ha, hx, hp, hps, if_neg hcount, gt_iff_lt, Nat.lt_irrefl, Bool.not_true, Bool.false_eq_true, if_false]

theorem runNow_of_bucketCount (h : x.kind = .bucketCount) : s.runNow x e = s.runBucketCount x e := by rw [State.runNow, h]
theorem runNow_of_alloc (h : x.kind = .alloc) : s.runNow x e = s.runAlloc x e := by rw [State.runNow, h]
theorem runNow_of_free (h : x.kind = .free) : s.runNow x e = s.runFree x e := by rw [State.runNow, h]

/-- A page whose clear is under way becomes free, and its bytes are cleared (R370). -/
theorem poolPageClearDone_of_clearing {pg : Fin 16384} (h : s.poolPage pg = some ⟨none, true⟩) : exec (.poolPageClearDone pg) s =
    .next ((s.clearRange (pg * 2 ^ 25) ((pg + 1) * 2 ^ 25)).setPoolPage pg (some ⟨none, false⟩)) :=
  congrArg Host.Outcome.next (if_pos h)

@[simp] theorem poolPage_clearRange (lo hi p : Nat) : (s.clearRange lo hi).poolPage p = s.poolPage p := rfl

end

/-- Settles O8: each step is dispatched and its engine starts it, then each transfer as its engine runs it, then the end of a page's
clear. That one acknowledgement stands for all of an allocation's writes is the model's choice (log 19). -/
theorem allocatorTransfers : Obligations.AllocatorTransfers := by
  refine fun c w s => ⟨fun hr hq hh he hi => ⟨fun sd hl hu hd => ?_, fun dd n picks hs hd hd' hf hp => ?_, fun sd hdst hd => ?_⟩,
    fun x d => ⟨fun hk hs hc ho hx hp => ?_, fun hk n hf ha hx hp => ?_, fun hk n hf ha hx => ?_⟩, fun pg h => ?_⟩
  · exact (bucketCountTransfer_of_dst hl hu).trans (congrArg Host.Outcome.next
      (issueXfer_of_room (f := .bucketCount) hr hq hh he (startBucketCount_of_desc _ hd hi)))
  · exact (allocation_of_picks hs hd hf hp).trans (congrArg Host.Outcome.next
      (issueXfer_of_room (f := .alloc picks) hr hq hh he (startAlloc_of_desc _ picks hd' hi)))
  · exact (free_of_dst hdst).trans (congrArg Host.Outcome.next
      (issueXfer_of_room (f := .free) hr hq hh he (startFree_of_desc _ hd hi)))
  · exact (runNow_of_bucketCount d hk).trans (runBucketCount_of_good d hs hc ho hx hp)
  · exact (runNow_of_alloc d hk).trans (runAlloc_of_picks d hf ha hx hp)
  · exact fun hpos hn hp hps => (runNow_of_free d hk).trans (runFree_of_list d hf ha hx hpos hn hp hps)
  · exact ⟨_, poolPageClearDone_of_clearing h, poolPage_setPoolPage .., fun p hp => poolPage_setPoolPage_ne _ _ hp, rfl⟩

/-! ### A bucket's round (R159 to R161) -/

/-- The state in which a request taken at once counts: the round that is open, or the next one opened for it (R159). -/
def inRound (s : State) (h : Nat) : State := if (s.bucket h).isOpen then s else s.openRound h

/-- A bucket with one more request of its round (R158, R159). -/
def requested (k : Bucket) (r : BucketReq) : Bucket := { k with requests := k.requests + 1, rows := some r.rows }

section

variable {s : State} {h : Nat} {r : BucketReq}

@[simp] theorem length_insertReq (r : BucketReq) (l : List BucketReq) : (insertReq r l).length = l.length + 1 := by
  induction l with
  | nil => rfl
  | cons x xs ih =>
    rw [insertReq]
    split
    · rfl
    · rw [List.length_cons, ih, List.length_cons]

/-- A request past PRODUCERS, or one that comes while the zero-fill runs, waits (R159). -/
theorem takeReq_held (hh : (s.bucket h).zeroFill = true ∨ ((s.bucket h).isOpen = true ∧ s.hdrProducers h ≤ (s.bucket h).requests)) :
    s.takeReq h r = s.setBucket h { s.bucket h with held := (s.bucket h).held ++ [r] } := by
  refine if_pos ?_
  rw [Bool.or_eq_true, Bool.and_eq_true, decide_eq_true_iff]
  exact hh.symm

section

variable (hz : (s.bucket h).zeroFill = false) (ho : (s.bucket h).isOpen = false ∨ (s.bucket h).requests < s.hdrProducers h)

include hz ho

/-- Any other request is of the round, and deterministic sum decides whether it is gathered (R160, R161). -/
theorem takeReq_taken : s.takeReq h r =
    let s1 := inRound s h
    let b := requested (s1.bucket h) r
    let g := insertReq r (s1.bucket h).gather
    if s1.detsum (h / 2 ^ 20) then
      if g.length = s1.hdrProducers h then (s1.setBucket h { b with gather := [] }).grantAll h g
      else s1.setBucket h { b with gather := g }
    else (s1.setBucket h b).grantReq h r := by
  refine if_neg ?_
  rw [Bool.or_eq_true, Bool.and_eq_true, decide_eq_true_iff, hz]
  rintro (⟨hopen, hfull⟩ | hfill)
  · rcases ho with hclosed | hroom
    · exact Bool.false_ne_true (hclosed.symm.trans hopen)
    · exact Nat.not_le.2 hroom hfull
  · exact Bool.false_ne_true hfill

theorem takeReq_granted (hd : (inRound s h).detsum (h / 2 ^ 20) = false) :
    s.takeReq h r = ((inRound s h).setBucket h (requested ((inRound s h).bucket h) r)).grantReq h r :=
  (takeReq_taken hz ho).trans (if_neg (Bool.eq_false_iff.1 hd))

theorem takeReq_last (hd : (inRound s h).detsum (h / 2 ^ 20) = true)
    (hn : ((inRound s h).bucket h).gather.length + 1 = (inRound s h).hdrProducers h) : s.takeReq h r =
      ((inRound s h).setBucket h { requested ((inRound s h).bucket h) r with gather := [] }).grantAll h
        (insertReq r ((inRound s h).bucket h).gather) :=
  (takeReq_taken hz ho).trans ((if_pos hd).trans (if_pos ((length_insertReq ..).trans hn)))

theorem takeReq_gathered (hd : (inRound s h).detsum (h / 2 ^ 20) = true)
    (hn : ((inRound s h).bucket h).gather.length + 1 ≠ (inRound s h).hdrProducers h) : s.takeReq h r =
      (inRound s h).setBucket h
        { requested ((inRound s h).bucket h) r with gather := insertReq r ((inRound s h).bucket h).gather } :=
  (takeReq_taken hz ho).trans ((if_pos hd).trans (if_neg fun hl => hn ((length_insertReq ..).symm.trans hl)))

end

end

section

variable {h : HdrAddr} {s : State}

theorem bucketDone_of_closed (ho : (s.bucket h).isOpen = false) : exec (.bucketDone h) s = .next s :=
  congrArg Host.Outcome.next (if_neg (by simp [ho]))

theorem bucketDone_of_open (ho : (s.bucket h).isOpen = true) : exec (.bucketDone h) s =
    let s1 := s.setBucket h { s.bucket h with dones := (s.bucket h).dones + 1 }
    .next (if (s.bucket h).dones + 1 = s.hdrProducers h then s1.closeRound h else s1) :=
  congrArg Host.Outcome.next (if_pos ho)

theorem zeroFillAcknowledged_of_filling (hz : (s.bucket h).zeroFill = true) :
    exec (.zeroFillAcknowledged h) s = .next ((s.raiseDoneObj h).nextRound h) :=
  congrArg Host.Outcome.next (if_pos hz)

theorem zeroFillAcknowledged_ignored (hz : (s.bucket h).zeroFill = false) : exec (.zeroFillAcknowledged h) s = .next s :=
  congrArg Host.Outcome.next (if_neg (by simp [hz]))

variable {e : EngineId} {core seq b : Nat} (first granted policy : Nat)

theorem exec_bucketGrant : exec (.bucketGrant e core seq b first granted policy) s =
    execBucketGrant e core seq b first granted policy s := rfl

theorem bucketGrant_of_waiting {x : Xfer} {d : Disp} (hx : s.findXfer e core seq = some x) (hd : x.disp = some d)
    (hb : b ∈ d.waiting) : exec (.bucketGrant e core seq b first granted policy) s =
      .next (s.takeGrant x e d b first granted policy) := by
  rw [exec_bucketGrant, execBucketGrant, hx]
  simp [hd, hb]

theorem bucketGrant_ignored (hx : s.findXfer e core seq = none) :
    exec (.bucketGrant e core seq b first granted policy) s = .next s := by
  rw [exec_bucketGrant, execBucketGrant, hx]

end

/-- Settles O40: a request by whether it waits, is granted or is gathered; a done by whether it is the last; then the zero-fill's
acknowledgement and the grant. -/
theorem bucketRounds : Obligations.BucketRounds := by
  refine fun h r e core seq b first granted policy s => ⟨fun hh => ?_, fun hz ho => ⟨fun hd => ?_, fun hd hn => ?_, fun hd hn => ?_⟩,
    bucketDone_of_closed, fun ho hn => ?_, fun ho hn => ?_, zeroFillAcknowledged_of_filling, zeroFillAcknowledged_ignored,
    fun x d hx hd hb => bucketGrant_of_waiting first granted policy hx hd hb, bucketGrant_ignored first granted policy⟩
  · exact congrArg Host.Outcome.next (takeReq_held hh)
  · exact congrArg Host.Outcome.next (takeReq_granted hz ho hd)
  · exact congrArg Host.Outcome.next (takeReq_last hz ho hd hn)
  · exact congrArg Host.Outcome.next (takeReq_gathered hz ho hd hn)
  · exact (bucketDone_of_open ho).trans (congrArg Host.Outcome.next (if_neg hn))
  · exact (bucketDone_of_open ho).trans (congrArg Host.Outcome.next (if_pos hn))

end Sys2Proof.Laws
end

section
/-! PROOFS. The canonical form of the memories is an invariant (spec/04: R89; spec/07: R174; spec/15: R410; log 6): the architect's
law of each command and of the tick, put together over the step. -/
namespace Sys2Proof.Laws

open Machine

/-- Every command leaves the queue as it is, keeps the memories in canonical form and lowers no floor. -/
theorem keepO_exec {b : Base} {s : State} (i : Instr) (keeps : Keep b s) : KeepO b (exec i s) :=
  match i with
  | .nop c w => keep_execNop c w keeps
  | .endCmd c w => keep_execEnd c w keeps
  | .loop c w => keep_execLoop c w keeps
  | .vsel c w => keep_execVsel c w keeps
  | .phase c w => keep_execPhase c w keeps
  | .rebind c w => keep_execRebind c w keeps
  | .fence c w => keep_execFence c w keeps
  | .loadb c w upset => keep_execLoadb c w upset keeps
  | .mma c w upset => keep_execMma c w upset keeps
  | .zero c w => keep_execZero c w keeps
  | .drain c w => keep_execDrain c w keeps
  | .vfma c w => keep_execVfma c w keeps
  | .vadd c w => keep_execVadd c w keeps
  | .vsub c w => keep_execVsub c w keeps
  | .vmul c w => keep_execVmul c w keeps
  | .vneg c w => keep_execVneg c w keeps
  | .vabs c w => keep_execVabs c w keeps
  | .vmin c w => keep_execVmin c w keeps
  | .vmax c w => keep_execVmax c w keeps
  | .vcmp c w => keep_execVcmp c w keeps
  | .vselect c w => keep_execVselect c w keeps
  | .vint c w => keep_execVint c w keeps
  | .vcvt c w => keep_execVcvt c w keeps
  | .vred c w => keep_execVred c w keeps
  | .vperm c w => keep_execVperm c w keeps
  | .vld c w upset => keep_execVld c w upset keeps
  | .vst c w => keep_execVst c w keeps
  | .vtrn c w => keep_execVtrn c w keeps
  | .setsel c w => keep_execSetsel c w keeps
  | .vimm c w => keep_execVimm c w keeps
  | .ls c w upset => keep_execLs c w upset keeps
  | .copy c w upset => keep_execCopy c w upset keeps
  | .gather c w => keep_execGather c w keeps
  | .scatter c w => keep_execScatter c w keeps
  | .dispatch c w => keep_execDispatch c w keeps
  | .copyt c w => keep_execCopyt c w keeps
  | .lcopy c w f => keep_execLcopy c w f keeps
  | .bucketCountTransfer c w => keep_execBucketCountTransfer c w keeps
  | .allocation c w picks => keep_execAllocation c w picks keeps
  | .free c w => keep_execFree c w keeps
  | .poolPageClearDone pg => keep_execPoolPageClearDone pg keeps
  | .transferCompletion e => keep_execTransferCompletion e keeps
  | .writeAcknowledgement e core seq => keep_execWriteAcknowledgement e core seq keeps
  | .wait c w => keep_execWait c w keeps
  | .wake c wire => keep_execWake c wire keeps
  | .signal c w => keep_execSignal c w keeps
  | .barrier c w => keep_execBarrier c w keeps
  | .broadcast c w => keep_execBroadcast c w keeps
  | .reduceAdd c w => keep_execReduceAdd c w keeps
  | .consistentSnapshot c w => keep_execConsistentSnapshot c w keeps
  | .snapshotCut p g => keep_execSnapshotCut p g keeps
  | .gop link f => keep_execGop link f keeps
  | .compositionReset p cause => keep_execCompositionReset p cause keeps
  | .resetHoldEnd p => keep_execResetHoldEnd p keeps
  | .resetConfirmTimeout p => keep_execResetConfirmTimeout p keeps
  | .launchComplete p => keep_execLaunchComplete p keeps
  | .bucketRequest h r => keep_execBucketRequest h r keeps
  | .bucketGrant e core seq bucket first granted policy => keep_execBucketGrant e core seq bucket first granted policy keeps
  | .bucketDone h => keep_execBucketDone h keeps
  | .zeroFillAcknowledged h => keep_execZeroFillAcknowledged h keeps
  | .objectAdd n amount srcKind src => keep_execObjectAdd n amount srcKind src keeps
  | .objectJoin n c wire => keep_execObjectJoin n c wire keeps
  | .sigAckTimeout tag => keep_execSigAckTimeout tag keeps
  | .dbgSet fn p => keep_execDbgSet fn p keeps
  | .dbgAdd fn p => keep_execDbgAdd fn p keeps
  | .dbgRelease fn p => keep_execDbgRelease fn p keeps
  | .dbgClearFault fn p => keep_execDbgClearFault fn p keeps
  | .stateDump => keep_execStateDump keeps
  | .stateDumpEnd ok => keep_execStateDumpEnd ok keeps
  | .memWrite me others ipa a bs ecc => keep_execMemWrite me others ipa a bs ecc keeps
  | .memRead me others ipa a n ecc => keep_execMemRead me others ipa a n ecc keeps
  | .scrubRead ecc raced heavy => keep_execScrubRead ecc raced heavy keeps
  | .refresh ch => keep_execRefresh ch keeps
  | .stackTempRead st temp => keep_execStackTempRead st temp keeps
  | .wayMoveDone g w => keep_execWayMoveDone g w keeps
  | .selfRefreshExit g => keep_execSelfRefreshExit g keeps
  | .regionClearDone q zeroised => keep_execRegionClearDone q zeroised keeps
  | .groupLevelSample g level => keep_execGroupLevelSample g level keeps
  | .tokenRefill m => keep_execTokenRefill m keeps
  | .urgencyChange m level => keep_execUrgencyChange m level keeps
  | .requestAgePromote m p a => keep_execRequestAgePromote m p a keeps
  | .monitorWindowClose g busy ws => keep_execMonitorWindowClose g busy ws keeps
  | .walkEnd m p va write hostErr => keep_execWalkEnd m p va write hostErr keeps
  | .xltInvCmd p cmd viaVf => keep_execXltInvCmd p cmd viaVf keeps
  | .invalidationDone p => keep_execInvalidationDone p keeps
  | .xltInvStatRead p => keep_execXltInvStatRead p keeps
  | .atsInvalidationRequest fn iova size => keep_execAtsInvalidationRequest fn iova size keeps
  | .atsTranslationCompletion fn iova size target hostOn => keep_execAtsTranslationCompletion fn iova size target hostOn keeps
  | .wr f => keep_execWr f keeps
  | .wrm f => keep_execWrm f keeps
  | .rd f => keep_execRd f keeps
  | .sig f => keep_execSig f keeps
  | .ack f => keep_execAck f keeps
  | .rdata f => keep_execRdata f keeps
  | .refuse f => keep_execRefuse f keeps
  | .transactionVisible src tag => keep_execTransactionVisible src tag keeps
  | .windowTimeout tag => keep_execWindowTimeout tag keeps
  | .outboundOpen e part target window gen size vwin r w => keep_execOutboundOpen e part target window gen size vwin r w keeps
  | .windowRevoke w => keep_execWindowRevoke w keeps
  | .revokeDrained w => keep_execRevokeDrained w keeps
  | .outboundClear e => keep_execOutboundClear e keeps
  | .cagePresenceGained c => keep_execCagePresenceGained c keeps
  | .cagePresenceLost c => keep_execCagePresenceLost c keeps
  | .cageRampEnd c mv ma limiting cable => keep_execCageRampEnd c mv ma limiting cable keeps
  | .cageCurrentLimit c => keep_execCageCurrentLimit c keeps
  | .cageOverload c => keep_execCageOverload c keeps
  | .retryWaitEnd c => keep_execRetryWaitEnd c keeps
  | .failsClear c => keep_execFailsClear c keeps
  | .latchClr c => keep_execLatchClr c keeps
  | .powerEn c on => keep_execPowerEn c on keeps
  | .cmisReady c application => keep_execCmisReady c application keeps
  | .cmisReadyTimeout c => keep_execCmisReadyTimeout c keeps
  | .cmisFlagRead c flags => keep_execCmisFlagRead c flags keeps
  | .signalDetect x => keep_execSignalDetect x keeps
  | .equaliseDone x pol0 pol1 => keep_execEqualiseDone x pol0 pol1 keeps
  | .alignLock x swap => keep_execAlignLock x swap keeps
  | .trainingTimeout x => keep_execTrainingTimeout x keeps
  | .detectRetry x => keep_execDetectRetry x keeps
  | .noSignalLane x lane => keep_execNoSignalLane x lane keeps
  | .quarantineExit x => keep_execQuarantineExit x keeps
  | .lossOfLock x => keep_execLossOfLock x keeps
  | .fecExcess x => keep_execFecExcess x keeps
  | .helloSend x => keep_execHelloSend x keeps
  | .hello x h crcOk => keep_execHello x h crcOk keeps
  | .lnkExpect x v => keep_execLnkExpect x v keeps
  | .quarClear x => keep_execQuarClear x keeps
  | .retrain x => keep_execRetrain x keeps
  | .quarForce x on => keep_execQuarForce x on keeps
  | .enable x on => keep_execEnable x on keeps
  | .touch c => keep_execTouch c keeps
  | .attnReq c => keep_execAttnReq c keeps
  | .release c => keep_execRelease c keeps
  | .cancel c => keep_execCancel c keeps
  | .attnTimeout c => keep_execAttnTimeout c keeps
  | .attnDrainEnd c => keep_execAttnDrainEnd c keeps
  | .cableLowPower c => keep_execCableLowPower c keeps
  | .cageSafe c => keep_execCageSafe c keeps
  | .keyStuck k => keep_execKeyStuck k keeps
  | .keyUnstuck k => keep_execKeyUnstuck k keeps
  | .bundle x key corrected flits => keep_execBundle x key corrected flits keeps
  | .epoch x active staged ready cctr key => keep_execEpoch x active staged ready cctr key keeps
  | .creditAck x payload cctr key => keep_execCreditAck x payload cctr key keeps
  | .replayReq x next cctr key => keep_execReplayReq x next cctr key keeps
  | .replayStart x first ctr cctr key => keep_execReplayStart x first ctr cctr key keeps
  | .time x payload frac cctr key => keep_execTime x payload frac cctr key keeps
  | .idle x => keep_execIdle x keeps
  | .creditAckSend x => keep_execCreditAckSend x keeps
  | .epochSend x => keep_execEpochSend x keeps
  | .timeSend x frac => keep_execTimeSend x frac keeps
  | .replayReqRepeat x => keep_execReplayReqRepeat x keeps
  | .flitAged x n => keep_execFlitAged x n keeps
  | .writeAbandon src tag => keep_execWriteAbandon src tag keeps
  | .commit => keep_execCommit keeps
  | .stageReady on => keep_execStageReady on keeps
  | .fabId v => keep_execFabId v keeps
  | .fabCntClear v => keep_execFabCntClear v keeps
  | .fabTsCtrl v => keep_execFabTsCtrl v keeps
  | .fabTsSet v => keep_execFabTsSet v keeps
  | .timeLock => keep_execTimeLock keeps
  | .holdoverEntry => keep_execHoldoverEntry keeps
  | .holdoverExpiry => keep_execHoldoverExpiry keeps
  | .rootConflictClear => keep_execRootConflictClear keeps
  | .timestampDistribute => keep_execTimestampDistribute keeps
  | .bindReserve from_ => keep_execBindReserve from_ keeps
  | .bindSeal from_ plan => keep_execBindSeal from_ plan keeps
  | .bindEnvelopeUpdate from_ => keep_execBindEnvelopeUpdate from_ keeps
  | .bindRebind from_ => keep_execBindRebind from_ keeps
  | .bindDissolve from_ => keep_execBindDissolve from_ keeps
  | .rebindRequest p => keep_execRebindRequest p keeps
  | .rebindPlanDone p result plan => keep_execRebindPlanDone p result plan keeps
  | .prepare env => keep_execPrepare env keeps
  | .place p plan => keep_execPlace p plan keeps
  | .curatorSeal p cat => keep_execCuratorSeal p cat keeps
  | .resume p => keep_execResume p keeps
  | .dissolve p => keep_execDissolve p keeps
  | .memberReport p fid rep => keep_execMemberReport p fid rep keeps
  | .memberTimeout p => keep_execMemberTimeout p keeps
  | .curatorMessageRetry p fid => keep_execCuratorMessageRetry p fid keeps
  | .switchInRequest p at_ => keep_execSwitchInRequest p at_ keeps
  | .quantumExpiry p => keep_execQuantumExpiry p keeps
  | .cmpPoolAdd v => keep_execCmpPoolAdd v keeps
  | .cmpPoolRemove v => keep_execCmpPoolRemove v keeps
  | .sqDoorbell fn r v => keep_execSqDoorbell fn r v keeps
  | .cqDoorbell fn q v => keep_execCqDoorbell fn q v keeps
  | .descriptorFetch fn r ok => keep_execDescriptorFetch fn r ok keeps
  | .descNop fn r => keep_execDescNop fn r keeps
  | .load from_ pl => keep_execLoad from_ pl keeps
  | .unload from_ => keep_execUnload from_ keeps
  | .launch from_ => keep_execLaunch from_ keeps
  | .copyLinear fn r e => keep_execCopyLinear fn r e keeps
  | .copyDescribed fn r e ok => keep_execCopyDescribed fn r e ok keeps
  | .hostSignal fn r => keep_execHostSignal fn r keeps
  | .hostWait fn r => keep_execHostWait fn r keeps
  | .hostWaitTimeout id => keep_execHostWaitTimeout id keeps
  | .quiesceDrain r => keep_execQuiesceDrain r keeps
  | .quiesceDrainEnd v => keep_execQuiesceDrainEnd v keeps
  | .quiesceTimeout v => keep_execQuiesceTimeout v keeps
  | .quiesceAbort r => keep_execQuiesceAbort r keeps
  | .quiesceResume r => keep_execQuiesceResume r keeps
  | .fetchaddComplete n ok => keep_execFetchaddComplete n ok keeps
  | .coalesceTimeout fn q => keep_execCoalesceTimeout fn q keeps
  | .cmisRead r got => keep_execCmisRead r got keeps
  | .instCreate r => keep_execInstCreate r keeps
  | .instRemove r => keep_execInstRemove r keeps
  | .instReset r => keep_execInstReset r keeps
  | .instStatus r => keep_execInstStatus r keeps
  | .flr fn => keep_execFlr fn keeps
  | .pcieReset => keep_execPcieReset keeps
  | .hifSqCfg fn r v => keep_execHifSqCfg fn r v keeps
  | .hifCqCfg fn q v => keep_execHifCqCfg fn q v keeps
  | .perstDeassert => keep_execPerstDeassert keeps
  | .setEndpointId bus op eid => keep_execSetEndpointId bus op eid keeps
  | .getEndpointId bus => keep_execGetEndpointId bus keeps
  | .getEndpointUuid bus => keep_execGetEndpointUuid bus keeps
  | .getMctpVersionSupport bus type => keep_execGetMctpVersionSupport bus type keeps
  | .getMessageTypeSupport bus => keep_execGetMessageTypeSupport bus keeps
  | .getVdmSupport bus selector => keep_execGetVdmSupport bus selector keeps
  | .regRead bus seq block off count => keep_execRegRead bus seq block off count keeps
  | .regWrite bus session seq block off ws => keep_execRegWrite bus session seq block off ws keeps
  | .mctpBind bus session seq head total off bytes => keep_execMctpBind bus session seq head total off bytes keeps
  | .eventAck bus seq => keep_execEventAck bus seq keeps
  | .mctpCmisRead bus seq arg n got => keep_execMctpCmisRead bus seq arg n got keeps
  | .eventRepeat seq => keep_execEventRepeat seq keeps
  | .ctxCreate v => keep_execCtxCreate v keeps
  | .ctxDestroy v => keep_execCtxDestroy v keeps
  | .ctxReset v => keep_execCtxReset v keeps
  | .catalogueRead v ok => keep_execCatalogueRead v ok keeps
  | .info v => keep_execInfo v keeps
  | .mbTomgrDb v => keep_execMbTomgrDb v keeps
  | .mbTomgrAck v => keep_execMbTomgrAck v keeps
  | .mbToinstDb v => keep_execMbToinstDb v keeps
  | .mbToinstAck v => keep_execMbToinstAck v keeps
  | .mbEvtHead v x => keep_execMbEvtHead v x keeps
  | .secRandom r => keep_execSecRandom r keeps
  | .secSlotInfo r ok => keep_execSecSlotInfo r ok keeps
  | .secSlotGenerate r pulses => keep_execSecSlotGenerate r pulses keeps
  | .secSlotImport r ok pulses => keep_execSecSlotImport r ok pulses keeps
  | .secSlotDestroy r ok pulses => keep_execSecSlotDestroy r ok pulses keeps
  | .secCerts r => keep_execSecCerts r keeps
  | .secNonce r => keep_execSecNonce r keeps
  | .secDebugToken r sig nonce => keep_execSecDebugToken r sig nonce keeps
  | .secDebugReturn r => keep_execSecDebugReturn r keeps
  | .glitch => keep_execGlitch keeps
  | .entropyStartupDone pass => keep_execEntropyStartupDone pass keeps
  | .healthTestFail => keep_execHealthTestFail keeps
  | .retestWaitEnd => keep_execRetestWaitEnd keeps
  | .drbgReseed => keep_execDrbgReseed keeps
  | .aliasCertIssue => keep_execAliasCertIssue keeps
  | .regionRekey q => keep_execRegionRekey q keeps
  | .reencryptDone q bad zeroed => keep_execReencryptDone q bad zeroed keeps
  | .rekeyInit x xid cctr key => keep_execRekeyInit x xid cctr key keeps
  | .rekeyResp x xid cctr key => keep_execRekeyResp x xid cctr key keeps
  | .rekeyCert x xid chains debug cctr key => keep_execRekeyCert x xid chains debug cctr key keeps
  | .rekeySign x xid ok cctr key => keep_execRekeySign x xid ok cctr key keeps
  | .rekeyAck x xid msg cctr key => keep_execRekeyAck x xid msg cctr key keeps
  | .rekeySwitch x xid epoch cctr key => keep_execRekeySwitch x xid epoch cctr key keeps
  | .rekeyAbort x xid cctr key => keep_execRekeyAbort x xid cctr key keeps
  | .rekeyResend x => keep_execRekeyResend x keeps
  | .keyingRetry x => keep_execKeyingRetry x keeps
  | .rolloverStart x => keep_execRolloverStart x keeps
  | .counterStop x => keep_execCounterStop x keeps
  | .getVersion c => keep_execGetVersion c keeps
  | .getCapabilities c => keep_execGetCapabilities c keeps
  | .negotiateAlgorithms c common => keep_execNegotiateAlgorithms c common keeps
  | .getDigests c => keep_execGetDigests c keeps
  | .getCertificate c slot off len => keep_execGetCertificate c slot off len keeps
  | .challenge c nonce => keep_execChallenge c nonce keeps
  | .getMeasurements c k sign => keep_execGetMeasurements c k sign keeps
  | .keyExchange c hybrid => keep_execKeyExchange c hybrid keeps
  | .finish c id ok => keep_execFinish c id ok keeps
  | .heartbeat c id => keep_execHeartbeat c id keeps
  | .heartbeatMissed id => keep_execHeartbeatMissed id keeps
  | .keyUpdate c id => keep_execKeyUpdate c id keeps
  | .endSession c id => keep_execEndSession c id keeps
  | .chunkSend c last bytes => keep_execChunkSend c last bytes keeps
  | .chunkGet c n => keep_execChunkGet c n keeps
  | .getMlChain c off len => keep_execGetMlChain c off len keeps
  | .getProvenance c comp nonce => keep_execGetProvenance c comp nonce keeps
  | .getPqSig c => keep_execGetPqSig c keeps
  | .openTenant c id comp => keep_execOpenTenant c id comp keeps
  | .deliverKey c id h wrapped => keep_execDeliverKey c id h wrapped keeps
  | .dropKey c id h => keep_execDropKey c id h keeps
  | .unsealCmd c id h va hash => keep_execUnseal c id h va hash keeps
  | .sealCmd c id h va chunks last label secrets => keep_execSeal c id h va chunks last label secrets keeps
  | .sealConsentExpiry p => keep_execSealConsentExpiry p keeps
  | .closeTenant c id => keep_execCloseTenant c id keeps
  | .getTdispVersion id v => keep_execGetTdispVersion id v keeps
  | .getTdispCapabilities id v => keep_execGetTdispCapabilities id v keeps
  | .lockInterfaceRequest id v => keep_execLockInterfaceRequest id v keeps
  | .getDeviceInterfaceReport id v => keep_execGetDeviceInterfaceReport id v keeps
  | .getDeviceInterfaceState id v => keep_execGetDeviceInterfaceState id v keeps
  | .startInterfaceRequest id v nonce => keep_execStartInterfaceRequest id v nonce keeps
  | .stopInterfaceRequest id v => keep_execStopInterfaceRequest id v keeps
  | .controlPeriod m => keep_execControlPeriod m keeps
  | .voltageReached k => keep_execVoltageReached k keeps
  | .droopTrip k => keep_execDroopTrip k keeps
  | .thermalShutdown sensor => keep_execThermalShutdown sensor keeps
  | .backstopEntry => keep_execBackstopEntry keeps
  | .backstopPeriod m => keep_execBackstopPeriod m keeps
  | .pwrCap mctp v => keep_execPwrCap mctp v keeps
  | .pwrSlackClear v => keep_execPwrSlackClear v keeps
  | .ledgerEvent => keep_execLedgerEvent keeps
  | .ledgerRead r => keep_execLedgerRead r keeps
  | .ledgerClear r => keep_execLedgerClear r keeps
  | .watchdogFire p => keep_execWatchdogFire p keeps
  | .sample p => keep_execSample p keeps
  | .sampleEnd p ok => keep_execSampleEnd p ok keeps
  | .compReset p => keep_execCompReset p keeps
  | .errCtxReset w => keep_execErrCtxReset w keeps
  | .computePartReset => keep_execComputePartReset keeps
  | .moduleWarmReset mctp => keep_execModuleWarmReset mctp keeps
  | .moduleHardReset mctp => keep_execModuleHardReset mctp keeps
  | .svcResetAck mctp => keep_execSvcResetAck mctp keeps
  | .resetNoticeExpiry => keep_execResetNoticeExpiry keeps
  | .mgmtWatchdog => keep_execMgmtWatchdog keeps
  | .powerGood m => keep_execPowerGood m keeps
  | .imageHeader sig => keep_execImageHeader sig keeps
  | .imageLanded tag es => keep_execImageLanded tag es keeps
  | .fwStage r ok => keep_execFwStage r ok keeps
  | .fwActivate r sig payload => keep_execFwActivate r sig payload keeps
  | .fwCancel r => keep_execFwCancel r keeps
  | .mgmtImageReady => keep_execMgmtImageReady keeps
  | .mgmtReadyTimeout => keep_execMgmtReadyTimeout keeps
  | .microcodeSwitch x => keep_execMicrocodeSwitch x keeps
  | .microcodeReadyTimeout x => keep_execMicrocodeReadyTimeout x keeps
  | .queryDeviceIdentifiers bus => keep_execQueryDeviceIdentifiers bus keeps
  | .getFirmwareParameters bus => keep_execGetFirmwareParameters bus keeps
  | .requestUpdate bus maxSize => keep_execRequestUpdate bus maxSize keeps
  | .passComponentTable bus id last => keep_execPassComponentTable bus id last keeps
  | .updateComponent bus id len => keep_execUpdateComponent bus id len keeps
  | .firmwareData bs => keep_execFirmwareData bs keeps
  | .transferComplete => keep_execTransferComplete keeps
  | .verifyComplete => keep_execVerifyComplete keeps
  | .applyComplete => keep_execApplyComplete keeps
  | .activateFirmware bus selfContained sig payload => keep_execActivateFirmware bus selfContained sig payload keeps
  | .getStatus bus => keep_execGetStatus bus keeps
  | .cancelUpdateComponent bus => keep_execCancelUpdateComponent bus keeps
  | .cancelUpdate bus => keep_execCancelUpdate bus keeps
  | .dfuDownload alt bs first last => keep_execDfuDownload alt bs first last keeps
  | .dfuUpload alt => keep_execDfuUpload alt keeps
  | .recoveryExit => keep_execRecoveryExit keeps
  | .norEraseTimeout sector => keep_execNorEraseTimeout sector keeps
  | .dcInputRise absent => keep_execDcInputRise absent keeps
  | .bulkCharged => keep_execBulkCharged keeps
  | .bulkChargeTimeout => keep_execBulkChargeTimeout keeps
  | .undervoltage mv => keep_execUndervoltage mv keeps
  | .brownOut => keep_execBrownOut keeps
  | .overvoltage => keep_execOvervoltage keeps
  | .overvoltReclose => keep_execOvervoltReclose keeps
  | .inputReversal => keep_execInputReversal keeps
  | .buttonRelease ms => keep_execButtonRelease ms keeps
  | .buttonHold8s up => keep_execButtonHold8s up keeps
  | .buttonStuck => keep_execButtonStuck keeps
  | .buttonUnstuck => keep_execButtonUnstuck keeps
  | .locateTouch => keep_execLocateTouch keeps
  | .svcLocate mctp v => keep_execSvcLocate mctp v keeps
  | .locateTimeout => keep_execLocateTimeout keeps
  | .cellInserted mv => keep_execCellInserted mv keeps
  | .cellSettled mv => keep_execCellSettled mv keeps
  | .cellRemoved => keep_execCellRemoved keeps
  | .cellReversed => keep_execCellReversed keeps
  | .cellFull mv => keep_execCellFull mv keeps
  | .cellRecharge mv => keep_execCellRecharge mv keeps
  | .cellFault mv => keep_execCellFault mv keeps
  | .chargeEn mctp on => keep_execChargeEn mctp on keeps
  | .svcRtcSet mctp v => keep_execSvcRtcSet mctp v keeps
  | .tamperEvent plate => keep_execTamperEvent plate keeps
  | .registerWrite t => keep_execRegisterWrite t keeps
  | .queueStepCompleted c q => keep_execQueueStepCompleted c q keeps
  | .uncorrectableFecCodeword x => keep_execUncorrectableFecCodeword x keeps
  | .cageDischargeEnd c => keep_execCageDischargeEnd c keeps
  | .rekeyTimeout x => keep_execRekeyTimeout x keeps
  | .smbClkLowTimeout => keep_execSmbClkLowTimeout keeps
  | .usbDisconnection => keep_execUsbDisconnection keeps
  | .cellVoltageThreshold mv => keep_execCellVoltageThreshold mv keeps
  | .islandPowerLoss => keep_execIslandPowerLoss keeps
  | .undervoltageCleared => keep_execUndervoltageCleared keeps
  | .vfEnableChange n => keep_execVfEnableChange n keeps
  | .hotSwapRetry => keep_execHotSwapRetry keeps

/-- A step takes the front of the queue, keeps the memories in canonical form and lowers no floor. -/
theorem keepO_step {b : Base} {s : State} (h : Keep b s) : KeepO ⟨b.queue.tail, b.floor⟩ (step s) := by
  obtain ⟨hq, hmem⟩ := h
  cases hp : s.pending with
  | nil =>
    rw [step_of_pending_nil hp]
    exact keepO_next (keep_tick ⟨by rw [← hq, hp, List.tail_nil], hmem⟩)
  | cons c cs =>
    rw [step_of_pending_cons hp]
    exact keepO_exec c ⟨by rw [← hq, hp, List.tail_cons], hmem⟩

/-- Over a base of the state's own queue and no floors, what is kept is the canonical form. -/
theorem keep_own_iff_allWf (s : State) : Keep ⟨s.pending, fun _ => 0⟩ s ↔ Memory.allWf s = true := by
  simp [Keep, KeepC, Memory.allWf, and_assoc]

theorem allWf_of_keep {b : Base} {s : State} (h : Keep b s) : Memory.allWf s = true := by
  obtain ⟨-, hhbm, hspad, hhost, -⟩ := h
  simp [Memory.allWf, hhbm, hspad, hhost]

/-- Settles O56: every command and the tick keep the form, so that each step does. -/
theorem memoryForm : Obligations.MemoryForm := fun s t hs ht =>
  allWf_of_keep (keepO_step ((keep_own_iff_allWf s).2 hs) t ht)

end Sys2Proof.Laws
end

section
/-! PROOFS. Requests at their home: what stops a whole write from taking the poison of its sector away (spec/07: R178, R183, R190,
R195). -/
namespace Sys2Proof.Laws

open Machine

/-- Partition 0 owns region 0 and may use one way of its group, and the table of lines lists sector 0 twice: as in no way, then in
that way, dirty and with a word that is uncorrectable. No memory's form speaks of this table. -/
def lineListedTwice : State :=
  { (State.reset.setRegion 0 { Region.reset with owner := some 0, keyed := true }).setWay 0 (.part 0) with
    lines := [(0, none), (0, some ⟨0, 0xFFFF, 1, 0, true⟩)] }

/-- A request of port 0 and partition 0 to sector 0. -/
def firstSectorReq : ReqInfo := ⟨0, 0, 0, false, 0⟩

/-- A whole sector of zeros. -/
def zeroSector : List Byte := List.replicate 512 0

/-- The request is served at once, finds the sector its own and its region below its bound of writes, and meets no parity error. -/
theorem lineListedTwice_serves :
    lineListedTwice.servedNext firstSectorReq [] = true ∧ lineListedTwice.needsTokens (lineListedTwice.classOf 0 0) 0 = false
    ∧ lineListedTwice.holder 0 = some 0 ∧ (lineListedTwice.region 0).writes < 2 ^ 37
    ∧ lineListedTwice.garbles 0 .none = false ∧ Memory.allWf lineListedTwice = true := by
  decide +kernel

/-- The bank holds no line of sector 0 by the first entry of the table, and so takes a way for it; the way's oldest line is sector 0
again, by the second entry, whose eviction loses it and poisons the sector just written (R190, R195). -/
theorem lineListedTwice_poisoned {t : State}
    (h : exec (.memWrite firstSectorReq [] 0 0 zeroSector .none) lineListedTwice = .next t) : t.isPoison 0 = true := by
  have hrun : (match exec (.memWrite firstSectorReq [] 0 0 zeroSector .none) lineListedTwice with
      | .next u => u.isPoison 0
      | _ => false) = true := by
    decide +kernel
  rw [h] at hrun
  exact hrun

/-- Refutes O25: in `lineListedTwice` every hypothesis of the last clause holds, and the whole write answers with its sector
poisoned. The clause asks for the canonical form of the memories and not for that of the table of lines. -/
theorem not_memoryAccess : ¬ Obligations.MemoryAccess := by
  intro h
  obtain ⟨hnext, hfree, hholder, hwrites, hgarbles, hwf⟩ := lineListedTwice_serves
  obtain ⟨-, -, -, -, hwrite⟩ := h firstSectorReq [] 0 0 0 zeroSector .none lineListedTwice
  have hlen : zeroSector.length = 512 := List.length_replicate
  obtain ⟨-, hserved⟩ := hwrite hnext (List.ne_nil_of_length_pos (by omega)) (by simp [hlen])
  obtain ⟨-, -, hgood⟩ := hserved fun hwaits => Bool.false_ne_true (hfree.symm.trans hwaits.1)
  obtain ⟨t, ht, -, hclean, -⟩ := hgood (by decide) hholder hwrites hlen hgarbles hwf
  exact Bool.false_ne_true (hclean.symm.trans (lineListedTwice_poisoned ht))

end Sys2Proof.Laws
end

section
/-! PROOFS. What the upkeep of the memory leaves as it was: the bytes of HBM, the scrubber's place, the candidates for repair and the
groups (spec/07: R182 to R195). -/
namespace Sys2Proof.Laws

open Machine

/-- `t` has the bytes of HBM, the scrubber's place, the candidates for repair and the groups that `s` has. -/
structure StacksKept (s t : State) : Prop where
  hbm : t.hbm = s.hbm
  pos : t.scrub.pos = s.scrub.pos
  repairRows : t.repairRows = s.repairRows
  groups : t.groups = s.groups

section

variable {s t u : State}

theorem stacksKept_trans (h : StacksKept s t) (h' : StacksKept t u) : StacksKept s u :=
  ⟨h'.hbm.trans h.hbm, h'.pos.trans h.pos, h'.repairRows.trans h.repairRows, h'.groups.trans h.groups⟩

theorem stacksKept_of_reported (h : Reported s t) : StacksKept s t := by
  rw [h.rest]
  exact ⟨rfl, rfl, rfl, rfl⟩

theorem isPoison_of_reported (h : Reported s t) (x : Nat) : t.isPoison x = s.isPoison x := by
  rw [h.rest]
  rfl

end

section

variable (s : State)

theorem stacksKept_refl : StacksKept s s := ⟨rfl, rfl, rfl, rfl⟩
theorem stacksKept_bump (k n : Nat) : StacksKept s (s.bump k n) := ⟨rfl, rfl, rfl, rfl⟩
theorem stacksKept_calm (sec : Nat) : StacksKept s (s.calm sec) := ⟨rfl, rfl, rfl, rfl⟩
theorem stacksKept_setLine (sec : Nat) (l : Option CacheLine) : StacksKept s (s.setLine sec l) := ⟨rfl, rfl, rfl, rfl⟩
theorem stacksKept_markPoison (sec : Nat) : StacksKept s (s.markPoison sec) := ⟨rfl, rfl, rfl, rfl⟩

theorem reported_memRecord (code a : Nat) : Reported s (s.memRecord code a) := by
  unfold State.memRecord
  split
  · exact reported_ledgerPart ..
  · exact reported_ledger ..

theorem stacksKept_loseLine (sec : Nat) : StacksKept s (s.loseLine sec) :=
  stacksKept_trans (stacksKept_markPoison s sec) (stacksKept_of_reported (reported_memRecord ..))

theorem stacksKept_uncorrected (a : Nat) : StacksKept s (s.uncorrected a) := by
  unfold State.uncorrected
  exact stacksKept_trans (stacksKept_trans (stacksKept_markPoison ..) (stacksKept_bump ..))
    (stacksKept_of_reported (reported_memRecord ..))

theorem stacksKept_corrected (a : Nat) : StacksKept s (s.corrected a) := by
  unfold State.corrected
  exact stacksKept_trans (stacksKept_trans (stacksKept_calm ..) (stacksKept_bump ..))
    (stacksKept_of_reported (reported_memRecord ..))

theorem stacksKept_writeBack (sec : Nat) : StacksKept s (s.writeBack sec) := by
  unfold State.writeBack
  split
  · exact stacksKept_uncorrected s _
  · exact ⟨rfl, rfl, rfl, rfl⟩

theorem stacksKept_evict (sec : Nat) (l : CacheLine) : StacksKept s (s.evict sec l) := by
  refine stacksKept_trans (stacksKept_setLine s sec none) ?_
  simp only [State.evict]
  split
  · exact stacksKept_refl _
  split
  · exact stacksKept_loseLine ..
  split
  · exact stacksKept_writeBack ..
  split
  · exact stacksKept_loseLine ..
  split
  · exact stacksKept_trans (stacksKept_bump ..) (stacksKept_loseLine ..)
  · exact stacksKept_trans (stacksKept_corrected ..) (stacksKept_writeBack ..)
  · exact stacksKept_writeBack ..

theorem stacksKept_cleanLines (l : List (Nat × CacheLine)) : StacksKept s (s.cleanLines l) := by
  induction l generalizing s with
  | nil => exact stacksKept_refl s
  | cons e es ih => exact stacksKept_trans (stacksKept_evict s e.1 e.2) (ih _)

end

end Sys2Proof.Laws
end

section
/-! PROOFS. The scrubber (spec/07: R184 to R188; spec/08: R204, R205). -/
namespace Sys2Proof.Laws

open Machine

section

variable (s : State)

theorem takeTokens_frame (port cls g n : Nat) :
    (s.takeTokens port cls g n).poison = s.poison ∧ (s.takeTokens port cls g n).scrub = s.scrub
    ∧ StacksKept s (s.takeTokens port cls g n) := by
  unfold State.takeTokens
  split <;> exact ⟨rfl, rfl, rfl, rfl, rfl, rfl⟩

theorem withhold_frame (a : Nat) : StacksKept s (s.withhold a) ∧ ∀ x, (s.withhold a).isPoison x = s.isPoison x := by
  simp only [State.withhold]
  split
  · exact ⟨stacksKept_refl s, fun _ => rfl⟩
  split
  · exact ⟨⟨rfl, rfl, rfl, rfl⟩, fun _ => rfl⟩
  · have h := reported_ledger s 0x0103 (srcOf3 0xFF 0 0) a 0 (dpaGroup a)
    exact ⟨stacksKept_of_reported h, isPoison_of_reported h⟩

/-- Beside the mark of the sector, an uncorrectable error that the scrubber finds leads to reports and to a withheld block (R185,
R187). -/
theorem scrubPoison_frame (a : Nat) : StacksKept s (s.scrubPoison a)
    ∧ ∀ x, (s.scrubPoison a).isPoison x = (s.markPoison (sectorOf a)).isPoison x := by
  have hmark : StacksKept s ((s.markPoison (sectorOf a)).bump (bMEM + 0x404 + 8 * dpaGroup a) 1) :=
    stacksKept_trans (stacksKept_markPoison ..) (stacksKept_bump ..)
  simp only [State.scrubPoison]
  generalize hs1 : (s.markPoison (sectorOf a)).bump (bMEM + 0x404 + 8 * dpaGroup a) 1 = s1 at hmark
  have hpoison : ∀ x, s1.isPoison x = (s.markPoison (sectorOf a)).isPoison x := by
    subst hs1
    exact fun _ => rfl
  split
  next p _ =>
    have h := reported_trans (reported_ledgerPart s1 0x0102 p (s1.ipaOf p (a / 512 * 512)) 0 0 (dpaGroup a))
      (reported_mbEvent _ p 1 (s1.ipaOf p (a / 512 * 512)))
    exact ⟨stacksKept_trans hmark (stacksKept_of_reported h), fun x => (isPoison_of_reported h x).trans (hpoison x)⟩
  next =>
    have h := reported_ledger s1 0x0102 (srcOf3 0xFF 0 0) a 0 (dpaGroup a)
    obtain ⟨hkept, hsame⟩ := withhold_frame (s1.ledger 0x0102 (srcOf3 0xFF 0 0) a 0 (dpaGroup a)) a
    exact ⟨stacksKept_trans hmark (stacksKept_trans (stacksKept_of_reported h) hkept),
      fun x => ((hsame x).trans (isPoison_of_reported h x)).trans (hpoison x)⟩

@[simp] theorem isPoison_markPoison_self (sec : Nat) : (s.markPoison sec).isPoison sec = true :=
  isPoison_setPoison (s.setLine sec none) sec true

theorem isPoison_markPoison_ne {sec x : Nat} (h : x ≠ sec) : (s.markPoison sec).isPoison x = s.isPoison x :=
  isPoison_setPoison_ne (s.setLine sec none) true h

theorem stacksKept_scrubTag (g a : Nat) (e : Ecc) : StacksKept s (s.scrubTag g a e) := by
  unfold State.scrubTag
  split
  · exact stacksKept_bump ..
  · exact stacksKept_trans (stacksKept_bump ..) (stacksKept_of_reported (reported_ledger ..))
  · exact stacksKept_refl s

theorem stacksKept_scrubCheck (g i : Nat) (e : Ecc) (raced : Bool) : StacksKept s (s.scrubCheck g i e raced) := by
  simp only [State.scrubCheck]
  split
  · exact stacksKept_refl s
  split
  · exact stacksKept_scrubTag ..
  split
  · exact stacksKept_trans (stacksKept_calm ..) (stacksKept_bump ..)
  · exact (scrubPoison_frame s _).1
  · exact stacksKept_refl s

theorem scrubNext_frame : s.scrubNext.scrub.pos = (if s.scrub.pos + 1 < 32 * rawSectors then s.scrub.pos + 1 else 0)
    ∧ s.scrubNext.hbm = s.hbm ∧ s.scrubNext.repairRows = s.repairRows ∧ s.scrubNext.poison = s.poison := by
  unfold State.scrubNext
  split <;> exact ⟨rfl, rfl, rfl, rfl⟩

end

section

variable (s : State) (g i : Nat)

theorem scrubCheck_of_raced (e : Ecc) : s.scrubCheck g i e true = s := rfl

theorem met_of_clean {sec : Nat} (h : s.latent sec = .none) : s.met sec .none = .none := by simp [State.met, h]

theorem scrubCheck_of_clean (hi : i < dataSectors) (hl : s.latent (sectorOf (g * 2 ^ 34 + i * 512)) = .none) :
    s.scrubCheck g i .none false = s := by
  simp only [State.scrubCheck, met_of_clean s hl, ge_iff_le, Nat.not_le.2 hi, Bool.false_eq_true, if_false]

theorem scrubCheck_of_corr (hi : i < dataSectors) : s.scrubCheck g i .corr false =
    (s.calm (sectorOf (g * 2 ^ 34 + i * 512))).bump (bMEM + 0x400 + 8 * g) 1 := by
  simp [State.scrubCheck, State.met, Nat.not_le.2 hi]

theorem scrubCheck_of_uncorr (hi : i < dataSectors) : s.scrubCheck g i .uncorr false = s.scrubPoison (g * 2 ^ 34 + i * 512) := by
  simp [State.scrubCheck, State.met, Nat.not_le.2 hi]

theorem scrubCheck_of_tag_corr (hi : dataSectors ≤ i) : s.scrubCheck g i .corr false = s.bump (bMEM + 0x400 + 8 * g) 1 := by
  simp [State.scrubCheck, State.scrubTag, hi]

end

/-- The scrub read waits for tokens of its port in a group that is throttled for its class (R204, R205). -/
def scrubWaits (s : State) : Prop :=
  s.needsTokens 3 (s.scrub.pos / rawSectors) = true ∧ s.tokensOf 163 < tokenCharge 512

/-- The state with the scrub read's tokens taken (R205). -/
def scrubPaid (s : State) : State := s.takeTokens 163 3 (s.scrub.pos / rawSectors) 512

/-- The state after the check of the scrubber's sector, with its row a candidate for repair where it had many corrections (R188). -/
def scrubChecked (s : State) (ecc : Ecc) (raced heavy : Bool) : State :=
  let t := (scrubPaid s).scrubCheck (s.scrub.pos / rawSectors) (s.scrub.pos % rawSectors) ecc raced
  if heavy then { t with repairRows := t.repairRows ++ [s.scrub.pos] } else t

section

variable {s : State} {ecc : Ecc} {raced heavy : Bool}

theorem scrubRead_of_idle (h : bitAt (s.reg (bMEM + 0x600)) 0 = false ∨ scrubWaits s) :
    exec (.scrubRead ecc raced heavy) s = .next s :=
  congrArg Host.Outcome.next (if_pos (h.imp_left fun h0 => by rw [h0]; rfl))

theorem scrubRead_of_on (hon : bitAt (s.reg (bMEM + 0x600)) 0 = true) (hgo : ¬ scrubWaits s) :
    exec (.scrubRead ecc raced heavy) s = .next (scrubChecked s ecc raced heavy).scrubNext :=
  congrArg Host.Outcome.next (if_neg (not_or.2 ⟨by rw [hon]; exact Bool.false_ne_true, hgo⟩))

theorem isPoison_scrubPaid (x : Nat) : (scrubPaid s).isPoison x = s.isPoison x :=
  congrArg (tblGet (fun _ => false) · x) (takeTokens_frame s 163 3 (s.scrub.pos / rawSectors) 512).1

theorem latent_scrubPaid (x : Nat) : (scrubPaid s).latent x = s.latent x := by
  obtain ⟨-, hscrub, -⟩ := takeTokens_frame s 163 3 (s.scrub.pos / rawSectors) 512
  rw [State.latent, scrubPaid, hscrub]
  rfl

theorem scrubChecked_frame : (scrubChecked s ecc raced heavy).hbm = s.hbm
    ∧ (scrubChecked s ecc raced heavy).scrub.pos = s.scrub.pos
    ∧ (scrubChecked s ecc raced heavy).repairRows = s.repairRows ++ (if heavy then [s.scrub.pos] else []) := by
  obtain ⟨-, -, hpaid⟩ := takeTokens_frame s 163 3 (s.scrub.pos / rawSectors) 512
  have h := stacksKept_trans hpaid
    (stacksKept_scrubCheck _ (s.scrub.pos / rawSectors) (s.scrub.pos % rawSectors) ecc raced)
  cases heavy with
  | false => exact ⟨h.hbm, h.pos, h.repairRows.trans (List.append_nil _).symm⟩
  | true => exact ⟨h.hbm, h.pos, congrArg (· ++ [s.scrub.pos]) h.repairRows⟩

/-- Whatever the read met, the scrubber moves on, HBM keeps its bytes, and the row is a candidate for repair where it had many
corrections (R184, R188). -/
theorem scrubRead_moves_on (hon : bitAt (s.reg (bMEM + 0x600)) 0 = true) (hgo : ¬ scrubWaits s) :
    ∃ t, exec (.scrubRead ecc raced heavy) s = .next t
      ∧ t.scrub.pos = (if s.scrub.pos + 1 < 32 * rawSectors then s.scrub.pos + 1 else 0) ∧ t.hbm = s.hbm
      ∧ t.repairRows = s.repairRows ++ (if heavy then [s.scrub.pos] else []) := by
  obtain ⟨hhbm, hpos, hrows⟩ := scrubChecked_frame (s := s) (ecc := ecc) (raced := raced) (heavy := heavy)
  obtain ⟨hpos', hhbm', hrows', -⟩ := scrubNext_frame (scrubChecked s ecc raced heavy)
  exact ⟨_, scrubRead_of_on hon hgo, by rw [hpos', hpos], hhbm'.trans hhbm, hrows'.trans hrows⟩

/-- An uncorrectable error marks the scrubber's sector and no other (R185). -/
theorem isPoison_scrubChecked_uncorr (hi : s.scrub.pos % rawSectors < dataSectors) (x : Nat) :
    (scrubChecked s .uncorr false heavy).scrubNext.isPoison x =
      (s.markPoison (sectorOf (s.scrub.pos / rawSectors * 2 ^ 34 + s.scrub.pos % rawSectors * 512))).isPoison x := by
  obtain ⟨-, -, -, hnext⟩ := scrubNext_frame (scrubChecked s .uncorr false heavy)
  have hrow : (scrubChecked s .uncorr false heavy).isPoison x =
      ((scrubPaid s).scrubPoison (s.scrub.pos / rawSectors * 2 ^ 34 + s.scrub.pos % rawSectors * 512)).isPoison x := by
    rw [scrubChecked, scrubCheck_of_uncorr _ _ _ hi]
    split <;> rfl
  rw [State.isPoison, hnext]
  refine (hrow.trans ((scrubPoison_frame _ _).2 x)).trans ?_
  by_cases hx : x = sectorOf (s.scrub.pos / rawSectors * 2 ^ 34 + s.scrub.pos % rawSectors * 512)
  · rw [hx, isPoison_markPoison_self, isPoison_markPoison_self]
  · rw [isPoison_markPoison_ne _ hx, isPoison_markPoison_ne _ hx, isPoison_scrubPaid]

end

end Sys2Proof.Laws
end

section
/-! PROOFS. Stacks, ways under a move and groups in self-refresh (spec/07: R174, R180, R193, R197; spec/16: R448). -/
namespace Sys2Proof.Laws

open Machine

/-! ### The temperature of a stack (R180) -/

/-- A stack is HOT from 85 °C until it falls below 80 °C. -/
def stackHot (was : Bool) (temp : Nat) : Bool := decide (85 ≤ temp) || (was && decide (80 ≤ temp))

theorem stackTempRead_spec (st : StackId) (temp : Fin 256) (s : State) :
    let k := bMEM + 0x500 + 4 * st.val
    let hot := stackHot (bitAt (s.reg k) 1) temp
    let shown := s.setReg k (temp.val * 256 + 2 * b2n hot + 1)
    ∃ t, exec (.stackTempRead st temp) s = .next t ∧ t.reg k = temp.val * 256 + 2 * b2n hot + 1
      ∧ ((hot = false ∨ bitAt (s.reg k) 1 = true) → t = shown) := by
  intro k hot shown
  have hk : k < bERR := by
    have := st.isLt
    simp only [k, bMEM, bERR]
    omega
  refine ⟨if hot && !bitAt (s.reg k) 1 then shown.ledger 0x0901 (srcOf3 0xFF 0 st) st temp 0 else shown, rfl, ?_, fun h => ?_⟩
  · split
    · exact ((reported_ledger ..).reg k hk).trans (reg_setReg s k _)
    · exact reg_setReg s k _
  · exact if_neg fun hnew => by rcases h with h | h <;> simp [h] at hnew

/-! ### A way under a move (R193) -/

/-- The state with the lines of a way written back and the way passed to its new assignment. -/
def wayPassed (s : State) (g w : Nat) (kind : WayKind) : State :=
  (s.cleanLines (linesOfWay g w s.lines)).setWay (16 * g + w) kind

section

variable {g : GroupId} {w : Fin 16} {kind : WayKind} {s : State}

theorem wayMoveDone_of_moving (h : (s.group g).waysMoving.find? (fun e => e.1 == w.val) = some (w.val, kind)) :
    exec (.wayMoveDone g w) s = .next ((wayPassed s g w kind).setGroup g { (wayPassed s g w kind).group g with
      waysMoving := ((wayPassed s g w kind).group g).waysMoving.filter fun x => x.1 ≠ w.val }) := by
  change execWayMoveDone g w s = _
  simp only [execWayMoveDone, h, wayPassed]

theorem wayMoveDone_spec (h : (s.group g).waysMoving.find? (fun e => e.1 == w.val) = some (w.val, kind)) :
    ∃ t, exec (.wayMoveDone g w) s = .next t ∧ t.wayKind (16 * g + w) = kind ∧ t.hbm = s.hbm
      ∧ (t.group g).waysMoving = (s.group g).waysMoving.filter fun x => x.1 ≠ w.val := by
  have hclean := stacksKept_cleanLines s (linesOfWay g w s.lines)
  have hgroup : (wayPassed s g w kind).group g = s.group g := congrArg (tblGet (fun _ => Group.reset) · g.val) hclean.groups
  refine ⟨_, wayMoveDone_of_moving h, wayKind_setWay .., hclean.hbm, ?_⟩
  rw [group_setGroup, hgroup]

end

/-! ### Regions given out at the end of self-refresh (R174, R197, R448) -/

section

variable (s : State) (p g : Nat)

@[simp] theorem regions_newKey : s.newKey.1.regions = s.regions := by
  unfold State.newKey State.drbg
  split <;> rfl

@[simp] theorem groups_newKey : s.newKey.1.groups = s.groups := by
  unfold State.newKey State.drbg
  split <;> rfl

@[simp] theorem groups_takeRegions (l : List Nat) : (s.takeRegions p g l).groups = s.groups := by
  induction l generalizing s with
  | nil => rfl
  | cons x xs ih => simp [State.takeRegions, ih]

theorem region_takeRegions_of_notMem {l : List Nat} {r : Nat} (h : r ∉ l) :
    (s.takeRegions p g l).region (12 * g + r) = s.region (12 * g + r) := by
  induction l generalizing s with
  | nil => rfl
  | cons x xs ih =>
    obtain ⟨hx, hxs⟩ := not_or.1 fun hr => h (List.mem_cons.2 hr)
    rw [State.takeRegions, ih _ hxs, region_setRegion_ne _ _ (by omega)]
    simp [State.region]

theorem region_takeRegions_of_mem {l : List Nat} {r : Nat} (h : r ∈ l) :
    ((s.takeRegions p g l).region (12 * g + r)).owner = some p ∧ ((s.takeRegions p g l).region (12 * g + r)).keyed = true := by
  induction l generalizing s with
  | nil => exact absurd h List.not_mem_nil
  | cons x xs ih =>
    rw [State.takeRegions]
    by_cases hxs : r ∈ xs
    · exact ih _ hxs
    · obtain rfl : r = x := (List.mem_cons.1 h).resolve_right hxs
      rw [region_takeRegions_of_notMem _ _ _ hxs, region_setRegion]
      exact ⟨rfl, rfl⟩

end

section

variable {s : State} {g : GroupId}

theorem selfRefreshExit_of_awake (h : (s.group g).selfRefresh = false) : exec (.selfRefreshExit g) s = .next s :=
  congrArg Host.Outcome.next (if_neg (by rw [h]; exact Bool.false_ne_true))

theorem selfRefreshExit_of_asleep (h : (s.group g).selfRefresh = true) : exec (.selfRefreshExit g) s =
    .next ((s.setGroup g { s.group g with selfRefresh := false, exiting := false, taking := [] }).giveTakings g (s.group g).taking) :=
  congrArg Host.Outcome.next (if_pos h)

theorem selfRefreshExit_of_untaken (h : (s.group g).selfRefresh = true) (ht : (s.group g).taking = []) :
    exec (.selfRefreshExit g) s = .next (s.setGroup g { s.group g with selfRefresh := false, exiting := false }) := by
  rw [selfRefreshExit_of_asleep h, ht, State.giveTakings, ← ht]

/-- The partition that took regions of the group meanwhile owns exactly those now, each under keys. -/
theorem selfRefreshExit_of_taken {tk : Taking} (h : (s.group g).selfRefresh = true) (ht : (s.group g).taking = [tk]) :
    ∃ t, exec (.selfRefreshExit g) s = .next t ∧ (t.group g).selfRefresh = false ∧ (t.group g).taking = []
      ∧ (t.group g).mode = (if tk.dedicated then .dedicated else .shared)
      ∧ ∀ r, (r ∈ tk.regions → (t.region (12 * g + r)).owner = some tk.part ∧ (t.region (12 * g + r)).keyed = true)
        ∧ (r ∉ tk.regions → t.region (12 * g + r) = s.region (12 * g + r)) := by
  refine ⟨_, selfRefreshExit_of_asleep h, ?_⟩
  rw [ht, State.giveTakings, State.giveTakings]
  generalize hs1 : s.setGroup g { s.group g with selfRefresh := false, exiting := false, taking := [] } = s1
  have hgroup : (s1.takeRegions tk.part g tk.regions).group g =
      { s.group g with selfRefresh := false, exiting := false, taking := [] } := by
    rw [State.group, groups_takeRegions, ← hs1]
    exact group_setGroup ..
  have hregion : ∀ x, s1.region x = s.region x := by
    subst hs1
    exact fun _ => rfl
  rw [group_setGroup, hgroup]
  exact ⟨rfl, rfl, rfl, fun r => ⟨region_takeRegions_of_mem s1 tk.part g,
    fun hr => (region_takeRegions_of_notMem s1 tk.part g hr).trans (hregion _)⟩⟩

end

end Sys2Proof.Laws
end

section
/-! PROOFS. The end of a region's clear (spec/07: R180; spec/17: R466; spec/19: R528): the region's bytes are zero, and what a
dissolution then ends leaves HBM as it is. -/
namespace Sys2Proof.Laws

open Machine

section

variable (s : State)

/-- A walk over a list leaves HBM as it is where each of its steps does. -/
theorem hbm_of_cons {α : Type} (f : State → List α → State) (hnil : ∀ s, (f s []).hbm = s.hbm)
    (hcons : ∀ s x xs, ∃ t, f s (x :: xs) = f t xs ∧ t.hbm = s.hbm) (l : List α) : (f s l).hbm = s.hbm := by
  induction l generalizing s with
  | nil => exact hnil s
  | cons x xs ih =>
    obtain ⟨t, hf, ht⟩ := hcons s x xs
    rw [hf, ih, ht]

@[simp] theorem hbm_ite (c : Prop) [Decidable c] (a b : State) :
    (if c then a else b).hbm = if c then a.hbm else b.hbm := apply_ite ..

theorem hbm_of_reported {s t : State} (h : Reported s t) : t.hbm = s.hbm := (stacksKept_of_reported h).hbm

@[simp] theorem hbm_bump (k n : Nat) : (s.bump k n).hbm = s.hbm := rfl
@[simp] theorem hbm_setBits (k m : Nat) : (s.setBits k m).hbm = s.hbm := rfl
@[simp] theorem hbm_clearBits (k m : Nat) : (s.clearBits k m).hbm = s.hbm := rfl
@[simp] theorem hbm_modPart (p : Nat) (f : Part → Part) : (s.modPart p f).hbm = s.hbm := rfl
@[simp] theorem hbm_modClu (k : Nat) (f : Cluster → Cluster) : (s.modClu k f).hbm = s.hbm := rfl
@[simp] theorem hbm_msix (fn vec : Nat) : (s.msix fn vec).hbm = s.hbm := hbm_of_reported (reported_msix ..)

@[simp] theorem hbm_ledger (type source object code value : Nat) : (s.ledger type source object code value).hbm = s.hbm :=
  hbm_of_reported (reported_ledger ..)

@[simp] theorem hbm_ledgerPart (type p object code arg value : Nat) : (s.ledgerPart type p object code arg value).hbm = s.hbm :=
  hbm_of_reported (reported_ledgerPart ..)

@[simp] theorem hbm_mbEvent (p type detail : Nat) : (s.mbEvent p type detail).hbm = s.hbm := hbm_of_reported (reported_mbEvent ..)
@[simp] theorem hbm_mctpEvent (code object : Nat) : (s.mctpEvent code object).hbm = s.hbm := hbm_of_reported (reported_mctpEvent ..)

/-! ### Descriptors and completions (R385, R386, R411) -/

@[simp] theorem hbm_cqInterrupt (fn q : Nat) : (s.cqInterrupt fn q).hbm = s.hbm := by simp [State.cqInterrupt]
@[simp] theorem hbm_cqPut (fn q : Nat) (c : CqRec) : (s.cqPut fn q c).hbm = s.hbm := by simp [State.cqPut]
@[simp] theorem hbm_cqOffer (fn q : Nat) (c : CqRec) : (s.cqOffer fn q c).hbm = s.hbm := by simp [State.cqOffer]

@[simp] theorem hbm_refOutcome (fn bit entry code : Nat) (sent : Bool) : (s.refOutcome fn bit entry code sent).hbm = s.hbm := by
  simp [State.refOutcome]

@[simp] theorem hbm_sendRefs (d : HostDesc) (l : List Nat) : (s.sendRefs d l).1.hbm = s.hbm := by
  induction l generalizing s with
  | nil => rfl
  | cons e es ih => simp [State.sendRefs, ih]

@[simp] theorem hbm_finishDesc (d : HostDesc) (status result : Nat) : (s.finishDesc d status result).hbm = s.hbm := by
  simp [State.finishDesc]

@[simp] theorem hbm_complete (id status result : Nat) : (s.complete id status result).hbm = s.hbm := by
  simp only [State.complete]
  (repeat' split) <;> simp

@[simp] theorem hbm_endRefused (fn r fuel : Nat) : (s.endRefused fn r fuel).hbm = s.hbm := by
  induction fuel generalizing s with
  | zero => rfl
  | succ n ih =>
    simp only [State.endRefused]
    split
    · rfl
    · split <;> simp [ih]

@[simp] theorem hbm_endDesc (id status result : Nat) : (s.endDesc id status result).hbm = s.hbm := by
  simp only [State.endDesc]
  split <;> simp [State.ringGo]

/-! ### The end of a dissolution (R352, R357) -/

@[simp] theorem hbm_endBinds (code epoch : Nat) (cat : List Byte) (hash : Bool) (l : List (Nat × Nat)) :
    (s.endBinds code epoch cat hash l).hbm = s.hbm :=
  hbm_of_cons s (fun s l => s.endBinds code epoch cat hash l) (fun _ => rfl) (fun _ _ _ => ⟨_, rfl, by simp⟩) l

@[simp] theorem hbm_mctpBindEnd (seqs : List Nat) (comp code : Nat) : (s.mctpBindEnd seqs comp code).hbm = s.hbm := by
  simp [State.mctpBindEnd]

@[simp] theorem hbm_opEnd (p code : Nat) : (s.opEnd p code).hbm = s.hbm := by
  simp only [State.opEnd]
  split <;> simp

@[simp] theorem hbm_reshare (ks : List Nat) : (s.reshare ks).hbm = s.hbm :=
  hbm_of_cons s State.reshare (fun _ => rfl) (fun _ _ _ => ⟨_, rfl, by simp⟩) ks

@[simp] theorem hbm_freePartition (p : Nat) : (s.freePartition p).hbm = s.hbm := by simp [State.freePartition]

@[simp] theorem hbm_dissolveGo (p : Nat) : (s.dissolveGo p).hbm = s.hbm := by
  simp only [State.dissolveGo]
  (repeat' split) <;> simp

@[simp] theorem hbm_clearDone (q : Nat) (l : List Nat) : (s.clearDone q l).hbm = s.hbm :=
  hbm_of_cons s (fun s l => s.clearDone q l) (fun _ => rfl) (fun _ _ _ => ⟨_, rfl, by simp⟩) l

/-! ### The region itself (R466, R528) -/

@[simp] theorem hbm_withholdAll (l : List (Nat × Bool)) : (s.withholdAll l).hbm = s.hbm :=
  hbm_of_cons s State.withholdAll (fun _ => rfl) (fun s e _ => ⟨_, rfl, (withhold_frame s (e.1 * 512)).1.hbm⟩) l

@[simp] theorem hbm_freeIfEmpty (g : Nat) : (s.freeIfEmpty g).hbm = s.hbm := by simp [State.freeIfEmpty]

theorem hbm_regionCleared (q : Nat) : (s.regionCleared q).hbm = tblClear (regionBase q) (regionBase q + regionSize q) s.hbm := by
  simp [State.regionCleared, State.clearRange]

end

theorem tblGet_tblClear_of_mem {α : Type} (d : Nat → α) (t : Tbl α) {lo hi k : Nat} (hlo : lo ≤ k) (hhi : k < hi) :
    tblGet d (tblClear lo hi t) k = d k := by
  induction t with
  | nil => rfl
  | cons e t ih =>
    rw [tblClear, List.filter_cons]
    split
    next hkeep =>
      have hne : e.1 ≠ k := by
        rintro rfl
        simp [hlo, hhi] at hkeep
      rw [tblGet, if_neg hne]
      exact ih
    next => exact ih

section

variable {q : RegionId} {s : State}

theorem regionClearDone_of_idle (h : (s.region q).clearing = false) (z : Bool) : exec (.regionClearDone q z) s = .next s :=
  congrArg Host.Outcome.next (if_pos (by rw [h]; rfl))

/-- The end of a clear whose key register read as zero. -/
theorem regionClearDone_of_zeroised (h : (s.region q).clearing = true) : exec (.regionClearDone q true) s =
    .next ((s.regionCleared q).clearDone q (List.range 32)) :=
  congrArg Host.Outcome.next (if_neg (by rw [h]; exact Bool.false_ne_true))

end

/-- Settles O26, command by command; a scrub read by whether it waits, and by what it met. -/
theorem memoryUpkeep : Obligations.MemoryUpkeep := by
  intro ecc raced heavy ch st temp g w q s
  refine ⟨scrubRead_of_idle, fun hon hgo => ⟨scrubRead_of_on hon hgo, fun hi hl => ⟨?_, ?_⟩, fun hi => ?_, fun hi => ?_,
    scrubRead_moves_on hon hgo⟩, rfl, stackTempRead_spec st temp s, fun kind => wayMoveDone_spec, selfRefreshExit_of_awake,
    selfRefreshExit_of_untaken, fun tk h ht _ => ?_, regionClearDone_of_idle, fun h => ?_⟩
  · rw [scrubRead_of_on hon hgo]
    exact congrArg (Host.Outcome.next ·.scrubNext) (scrubCheck_of_clean _ _ _ hi ((latent_scrubPaid _).trans hl))
  · rw [scrubRead_of_on hon hgo]
    exact congrArg (Host.Outcome.next ·.scrubNext) (scrubCheck_of_corr _ _ _ hi)
  · exact ⟨_, scrubRead_of_on hon hgo, (isPoison_scrubChecked_uncorr hi _).trans (isPoison_markPoison_self ..),
      fun x hx => (isPoison_scrubChecked_uncorr hi x).trans (isPoison_markPoison_ne s hx)⟩
  · rw [scrubRead_of_on hon hgo]
    exact congrArg (Host.Outcome.next ·.scrubNext) (scrubCheck_of_tag_corr _ _ _ hi)
  · obtain ⟨t, hexec, hself, htaking, hmode, hregions⟩ := selfRefreshExit_of_taken h ht
    exact ⟨t, hexec, hself, htaking, hmode, fun r _ => hregions r⟩
  · refine ⟨_, regionClearDone_of_zeroised h, fun b hlo hhi => ?_⟩
    rw [hbm_clearDone, hbm_regionCleared]
    exact tblGet_tblClear_of_mem _ _ hlo hhi

end Sys2Proof.Laws
end

section
/-! PROOFS. Address translation: the table entry that a failed walk reports (spec/09: R221, R235). -/
namespace Sys2Proof.Laws

open Machine

/-- Partition 0 has a stage-1 and a stage-2 root, both at 0; every cache is empty. -/
def rootsAtZero : State := (State.reset.setReg bXLT 1).setReg (bXLT + 8) 1

/-- An address in the second page of level 0: its level-0 index is 1, its level-2 index 0. -/
def secondTopPage : Fin 4503599627370496 := 2 ^ 35

/-- The hypotheses of the clause on a failed host read are met: no cached entry serves, both roots are valid and no table lies in
the arena. -/
theorem rootsAtZero_walks :
    (rootsAtZero.l1of 0).find? (fun e => e.serves 0 secondTopPage false) = none
    ∧ (rootsAtZero.l2of (dieOfEngine 0)).find? (fun e => e.serves 0 secondTopPage false) = none
    ∧ bitAt (rootsAtZero.reg bXLT) 0 = true ∧ bitAt (rootsAtZero.reg (bXLT + 8)) 0 = true
    ∧ rootsAtZero.l2of (dieOfEngine 0) = [] ∧ bitAt (rootsAtZero.reg (bXLT + 0x18)) 31 = false := by
  decide +kernel

/-- The entry of the table at the stage-1 root that the index of level 2 selects. -/
theorem rootsAtZero_level2 :
    rootsAtZero.reg bXLT / 2 ^ 20 % 2 ^ 28 * 2 ^ 20 + 8 * levelIndex secondTopPage 2 = 0 := by
  decide +kernel

/-- The walk reads the table of level 0 first, at VA[51:35] (R221, Table 2), and reports that entry, the one at 8. -/
theorem rootsAtZero_reports {t : State} (h : exec (.walkEnd 0 0 secondTopPage false true) rootsAtZero = .next t) :
    t.reg (bXLT + 0x10) = 8 := by
  have hrun : (match exec (.walkEnd 0 0 secondTopPage false true) rootsAtZero with
      | .next u => u.reg (bXLT + 0x10)
      | _ => 0) = 8 := by
    decide +kernel
  rw [h] at hrun
  exact hrun

/-- Refutes O28: in `rootsAtZero` the first table read of a walk at `secondTopPage` fails at the entry that VA[51:35] selects, as R221
has it, and the clause on that read asks for the entry that VA[29:25] selects, the index of level 2. -/
theorem not_translation : ¬ Obligations.Translation := by
  intro h
  obtain ⟨hl1, hl2, hs1, hs2, hempty, hfree⟩ := rootsAtZero_walks
  obtain ⟨-, hmiss, -⟩ := h 0 0 secondTopPage false true false 0 rootsAtZero
  obtain ⟨-, hwalk⟩ := hmiss hl1
  obtain ⟨-, -, -, hhost⟩ := hwalk hl2
  obtain ⟨t, hexec, -, hreport, -⟩ := hhost hs1 hs2 (fun e he => by simp [hempty] at he) (by
    rintro ⟨hlo, -⟩
    exact absurd (Nat.le_trans hlo (Nat.le_of_eq rootsAtZero_level2)) (by decide))
  obtain ⟨haddr, -⟩ := hreport hfree
  have heq : 8 = 0 := (rootsAtZero_reports hexec).symm.trans (haddr.trans rootsAtZero_level2)
  exact absurd heq (by decide)

end Sys2Proof.Laws
end

section
/-! PROOFS. ATS: invalidations and cached results (spec/09: R238). -/
namespace Sys2Proof.Laws

open Machine

section

variable {fn : FnId} {iova size target : W64} {hostOn : Bool} {s : State}

/-- A cached translation is kept by an invalidation exactly where it is another function's or its range lies outside. -/
theorem mem_atc_invalidated {e : AtcEntry} :
    e ∈ s.atc.filter (fun e => !(e.fn == fn.val && decide (e.iova < iova.toNat + size.toNat) && decide (iova.toNat < e.iova + e.size)))
      ↔ e ∈ s.atc ∧ ¬ (e.fn = fn.val ∧ e.iova < iova.toNat + size.toNat ∧ iova.toNat < e.iova + e.size) := by
  rw [List.mem_filter, Bool.not_eq_true', ← Bool.not_eq_true]
  simp only [Bool.and_eq_true, beq_iff_eq, decide_eq_true_eq, and_assoc]

theorem atsTranslationCompletion_of_off (h : hostOn = false ∨ s.atsOn fn = false) :
    exec (.atsTranslationCompletion fn iova size target hostOn) s = .next s :=
  congrArg Host.Outcome.next (if_neg (by rcases h with h | h <;> simp [h]))

/-- The cached translations but for one of the same function and address, the oldest gone where 1,024 are left. -/
def atcMakesRoom (fn iova : Nat) (l : List AtcEntry) : List AtcEntry :=
  let rest := l.filter fun e => !(e.fn == fn && e.iova == iova)
  if rest.length < 1024 then rest else rest.drop 1

theorem atsTranslationCompletion_of_on (hon : hostOn = true) (hats : s.atsOn fn = true) :
    exec (.atsTranslationCompletion fn iova size target hostOn) s =
      .next { s with atc := atcMakesRoom fn iova.toNat s.atc ++ [⟨fn, iova.toNat, size.toNat, target.toNat⟩] } :=
  congrArg Host.Outcome.next (if_pos (by simp [hon, hats]))

end

section

variable {fn iova : Nat} {l : List AtcEntry}

theorem length_atcMakesRoom (h : l.length ≤ 1024) : (atcMakesRoom fn iova l).length < 1024 := by
  have hle := List.length_filter_le (fun e : AtcEntry => !(e.fn == fn && e.iova == iova)) l
  unfold atcMakesRoom
  dsimp only
  split
  · assumption
  · rw [List.length_drop]
    omega

theorem mem_of_mem_atcMakesRoom {e : AtcEntry} (h : e ∈ atcMakesRoom fn iova l) : e ∈ l ∧ ¬ (e.fn = fn ∧ e.iova = iova) := by
  have hmem : e ∈ l.filter fun e => !(e.fn == fn && e.iova == iova) := by
    unfold atcMakesRoom at h
    dsimp only at h
    split at h
    · exact h
    · exact List.mem_of_mem_drop h
  obtain ⟨hl, hne⟩ := List.mem_filter.1 hmem
  exact ⟨hl, fun ⟨hfn, hiova⟩ => by simp [hfn, hiova] at hne⟩

end

/-- Settles O29, command by command. -/
theorem atsCommands : Obligations.AtsCommands := by
  intro fn iova size target hostOn s
  refine ⟨⟨_, rfl, fun e => mem_atc_invalidated, rfl, rfl⟩, atsTranslationCompletion_of_off, fun hon hats hlen =>
    ⟨_, atsTranslationCompletion_of_on hon hats, ?_, List.getLast?_concat .., fun e he => ?_, rfl⟩⟩
  · exact Nat.le_trans (Nat.le_of_eq List.length_append) (length_atcMakesRoom hlen)
  · rcases List.mem_append.1 he with hold | hnew
    · exact .inr (mem_of_mem_atcMakesRoom hold)
    · exact .inl (List.mem_singleton.1 hnew)

end Sys2Proof.Laws
end

section
/-! PROOFS. Window entries and the borrower of a window (spec/09: R239 to R245; spec/11: R287 to R291). -/
namespace Sys2Proof.Laws

open Machine

/-! ### Window entries -/

section

variable {e w : WindowId} {s : State}

theorem windowRevoke_of_open (h : (s.inWin w).valid = true) :
    exec (.windowRevoke w) s = .next (s.setInWin w { s.inWin w with revoking := true }) :=
  congrArg Host.Outcome.next (if_pos h)

theorem windowRevoke_of_closed (h : (s.inWin w).valid = false) : exec (.windowRevoke w) s = .next s :=
  congrArg Host.Outcome.next (if_neg (by simp [h]))

theorem revokeDrained_of_drained (h : (s.inWin w).revoking = true) (ha : (s.inWin w).accepted = 0) :
    exec (.revokeDrained w) s = .next ((s.setInWin w { s.inWin w with
      valid := false, revoking := false, gen := ((s.inWin w).gen + 1) % 256 }).emit
        (.curator (s.inWin w).borrower 1 w (s.inWin w).grantee)) :=
  congrArg Host.Outcome.next (if_pos ⟨h, ha⟩)

theorem revokeDrained_of_accepted (h : 0 < (s.inWin w).accepted) : exec (.revokeDrained w) s = .next s :=
  congrArg Host.Outcome.next (if_neg fun hd => absurd hd.2 (Nat.ne_of_gt h))

theorem outboundClear_of_open (h : (s.outWin e).valid = true) : exec (.outboundClear e) s =
    .next ((s.setOutWin e { s.outWin e with valid := false }).mbEvent (s.outWin e).part 4
      ((s.outWin e).vwin * 2 ^ 48 + e * 2 ^ 32 + (s.outWin e).target)) :=
  congrArg Host.Outcome.next (if_pos h)

theorem outboundClear_of_closed (h : (s.outWin e).valid = false) : exec (.outboundClear e) s = .next s :=
  congrArg Host.Outcome.next (if_neg (by simp [h]))

end

/-- Settles O32, command by command. -/
theorem windowEntries : Obligations.WindowEntries := by
  intro e w vwin window part target gen size r wr s
  exact ⟨⟨_, rfl, outWin_setOutWin .., fun x hx => outWin_setOutWin_ne s _ hx, rfl⟩, windowRevoke_of_open, windowRevoke_of_closed,
    revokeDrained_of_drained, revokeDrained_of_accepted, outboundClear_of_open, outboundClear_of_closed⟩

/-! ### The borrower -/

section

variable {f : Flit} {s : State} {t : Txn}

theorem exec_ack : exec (.ack f) s = execAck f s := rfl
theorem exec_rdata : exec (.rdata f) s = execRdata f s := rfl
theorem exec_refuse : exec (.refuse f) s = execRefuse f s := rfl

/-- The transfer of a read with the units of a flit of its data in hand. -/
def unitsFetched (s : State) (t : Txn) (f : Flit) : State :=
  s.modXfer t.engine t.core t.seq fun y =>
    { y with fetched := tblSetRun (fun _ => 0) y.fetched (t.entry * 2 ^ 42 + f.offset) (f.body.take (32 * f.units)) }

section

variable (ht : s.txn f.tag = some t) (hlive : t.resting = false)

include ht hlive

theorem ack_of_write (hf : f.kind = 0x30) (hk : t.kind = .write) : exec (.ack f) s =
    .next (((s.setTxn f.tag none).modXfer t.engine t.core t.seq fun y =>
      { y with unacked := y.unacked - 1, bytes := y.bytes + t.len }).pumpWin) := by
  simp [exec_ack, execAck, hf, ht, hlive, hk]

theorem ack_of_sig (hf : f.kind = 0x30) (hk : t.kind = .sig) :
    exec (.ack f) s = .next ((s.setTxn f.tag none).sigEnded t false) := by
  simp [exec_ack, execAck, hf, ht, hlive, hk]

theorem rdata_of_read (hf : f.kind = 0x31) (hk : t.kind = .read) : exec (.rdata f) s =
    .next (if unitsOf t.base t.len ≤ t.got + f.units then (((unitsFetched s t f).setTxn f.tag none).readEnded t).pumpWin
      else (unitsFetched s t f).setTxn f.tag (some { t with got := t.got + f.units })) := by
  simp [exec_rdata, execRdata, unitsFetched, hf, ht, hlive, hk]

theorem refuse_of_live (hf : f.kind = 0x32) : exec (.refuse f) s =
    .next (((s.countRefuse (f.aux % 256)).setTxn f.tag none).windowFailed t) := by
  simp [exec_refuse, execRefuse, hf, ht, hlive]

end

end

section

variable {tag : Fin 65536} {s : State} {t : Txn} (ht : s.txn tag = some t)

theorem exec_windowTimeout : exec (.windowTimeout tag) s = execWindowTimeout tag s := rfl

include ht

theorem windowTimeout_of_resting (hr : t.resting = true) : exec (.windowTimeout tag) s = .next (s.setTxn tag none) := by
  simp [exec_windowTimeout, execWindowTimeout, ht, hr]

/-- The first period without a response: the TAG rests, the entry is FAILED, and code 4, the Ledger and the mailbox have it (R245). -/
theorem windowTimeout_of_live (hr : t.resting = false) (hk : t.kind ≠ .sig) : exec (.windowTimeout tag) s =
    .next ((((((s.setTxn tag (some { t with resting := true })).setOutWin t.entry
      { s.outWin t.entry with failed := true }).countRefuse 4).ledgerPart 0x0201 (s.outWin t.entry).part t.entry 4 0 0).mbEvent
        (s.outWin t.entry).part 5 ((s.outWin t.entry).vwin * 2 ^ 48 + t.entry * 2 ^ 32 + (s.outWin t.entry).target)).windowFailed t) := by
  simp [exec_windowTimeout, execWindowTimeout, ht, hr, hk]

end

/-- Settles O31, response by response, and the two periods of a timeout. -/
theorem windowBorrower : Obligations.WindowBorrower := by
  refine fun f tag s => ⟨fun t ht hlive => ⟨ack_of_write ht hlive, ack_of_sig ht hlive, fun hf hk => ⟨fun hmore => ?_, fun hlast => ?_⟩,
    refuse_of_live ht hlive⟩, fun t ht => ⟨windowTimeout_of_resting ht, windowTimeout_of_live ht⟩⟩
  · rw [rdata_of_read ht hlive hf hk, if_neg (by omega)]
    rfl
  · rw [rdata_of_read ht hlive hf hk, if_pos hlast]
    rfl

end Sys2Proof.Laws
end

section
/-! PROOFS. What a flit sent leaves as it was (spec/11: R271 to R273, R281, R282, R296, R304). -/
namespace Sys2Proof.Laws

open Machine

/-- `t` is `s` but for the links, the registers, and the places that reports and what is sent go to. -/
def Sent (s t : State) : Prop := t = { withReports s t with links := t.links }

section

variable {s t u : State}

theorem sent_trans (h : Sent s t) (h' : Sent t u) : Sent s u :=
  h'.trans (congrArg (fun x : State => { withReports x u with links := u.links }) h :)

theorem sent_of_reported (h : Reported s t) : Sent s t := by
  rw [Sent, h.rest]
  rfl

/-- No byte of HBM, scratchpads or host memory differs. -/
def SameMemory (s t : State) : Prop := t.hbm = s.hbm ∧ t.spad = s.spad ∧ t.host = s.host

theorem sameMemory_of_sent (h : Sent s t) : SameMemory s t := by
  rw [SameMemory, h]
  exact ⟨rfl, rfl, rfl⟩

theorem rxTxn_of_sent (h : Sent s t) (k : Nat) : t.rxTxn k = s.rxTxn k := by
  rw [h]
  rfl

theorem inWin_of_sent (h : Sent s t) (w : Nat) : t.inWin w = s.inWin w := by
  rw [h]
  rfl

end

section

variable (s : State)

theorem sent_refl : Sent s s := rfl
theorem sent_bump (k n : Nat) : Sent s (s.bump k n) := rfl
theorem sent_emit (e : Emit) : Sent s (s.emit e) := rfl
theorem sent_setLnk (i : Nat) (l : Link) : Sent s (s.setLnk i l) := rfl
theorem sent_sendBundle (i : Nat) (fs : List LFlit) : Sent s (s.sendBundle i fs) := rfl
theorem sent_modLnk (i : Nat) (f : Link → Link) : Sent s (s.modLnk i f) := rfl

theorem sent_freeRx (f : Flit) : Sent s (s.freeRx f) := by
  unfold State.freeRx
  split
  · exact sent_modLnk ..
  · exact sent_refl s

theorem sent_freeRxs (fs : List LFlit) : Sent s (s.freeRxs fs) := by
  induction fs generalizing s with
  | nil => exact sent_refl s
  | cons f fs ih => exact sent_trans (sent_freeRx s f.flit) (ih _)

theorem sent_pumpLink (i fuel : Nat) : Sent s (s.pumpLink i fuel) := by
  induction fuel generalizing s with
  | zero => exact sent_refl s
  | succ n ih =>
    simp only [State.pumpLink]
    split
    · split
      · exact sent_refl s
      · have hsent := sent_trans (sent_setLnk s i _) (sent_sendBundle (s.setLnk i ((s.lnk i).fill 8).1) i ((s.lnk i).fill 8).2)
        exact sent_trans (sent_trans hsent (sent_freeRxs _ _)) (ih _)
    · exact sent_refl s

theorem sent_queueOn (i : Nat) (f : Flit) : Sent s (s.queueOn i f) := sent_trans (sent_modLnk s i _) (sent_pumpLink ..)

theorem sent_dropFlit (off : Nat) : Sent s (s.dropFlit off) :=
  sent_trans (sent_bump ..) (sent_of_reported (reported_ledger ..))

theorem sent_sendFlit (f : Flit) : Sent s (s.sendFlit f) := by
  simp only [State.sendFlit, State.route]
  split
  · exact sent_trans (sent_freeRx ..) (sent_emit ..)
  · split
    · exact sent_queueOn ..
    · exact sent_trans (sent_freeRx ..) (sent_dropFlit ..)

end

end Sys2Proof.Laws
end

section
/-! PROOFS. The lender of a window (spec/09: R239 to R243; spec/11: R287 to R291). -/
namespace Sys2Proof.Laws

open Machine

/-! ### The operations of the lender -/

section

variable (s : State) (f : Flit)

theorem sent_refuse (code : Nat) : Sent s (s.refuse f code) := sent_trans (sent_bump ..) (sent_sendFlit ..)

/-- A refused transaction writes no byte and touches no window, and its record is kept while flits of it are to come (R288). -/
theorem refuseTxn_spec (t : RxTxn) (code : Nat) : SameMemory s (s.refuseTxn f t code)
    ∧ (∀ w, (s.refuseTxn f t code).inWin w = s.inWin w)
    ∧ (s.refuseTxn f t code).rxTxn (rxKey f) =
      if t.total ≤ t.got + f.units then none else some { t with got := t.got + f.units, refused := true, waiting := [] } := by
  have hsent := sent_refuse (s.setRxTxn (rxKey f) (if t.got + f.units ≥ t.total then none else
    some { t with got := t.got + f.units, refused := true, waiting := [] })) f code
  exact ⟨(sameMemory_of_sent hsent :), (inWin_of_sent hsent :), (rxTxn_of_sent hsent _).trans (rxTxn_setRxTxn ..)⟩

/-! Bytes written to a scratchpad do not depend on the windows, and leave them. -/

theorem lineWritten_setInWin (w : Nat) (k : InWin) (c off : Nat) : (s.setInWin w k).lineWritten c off = s.lineWritten c off := rfl
theorem spadPoisoned_setInWin (w : Nat) (k : InWin) (c off : Nat) :
    (s.setInWin w k).spadPoisoned c off = s.spadPoisoned c off := rfl

theorem openLine_setInWin (w : Nat) (k : InWin) (c off : Nat) :
    (s.setInWin w k).openLine c off = (s.openLine c off).setInWin w k := by
  by_cases h : s.lineWritten c off = true
  · simp only [State.openLine, lineWritten_setInWin, h, if_true]
  · simp only [State.openLine, lineWritten_setInWin, h]
    rfl

theorem spadPut_setInWin (w : Nat) (k : InWin) (c lo hi off : Nat) (b : Byte) :
    (s.setInWin w k).spadPut c lo hi off b = (s.spadPut c lo hi off b).setInWin w k := by
  simp only [State.spadPut, openLine_setInWin, spadPoisoned_setInWin]
  split <;> rfl

theorem spadPuts_setInWin (w : Nat) (k : InWin) (c lo hi off : Nat) (bs : List Byte) :
    (s.setInWin w k).spadPuts c lo hi off bs = (s.spadPuts c lo hi off bs).setInWin w k := by
  induction bs generalizing s off with
  | nil => rfl
  | cons b bs ih => rw [State.spadPuts, spadPut_setInWin, ih, State.spadPuts]

theorem spadWrite_setInWin (w : Nat) (k : InWin) (c off : Nat) (bs : List Byte) :
    (s.setInWin w k).spadWrite c off bs = (s.spadWrite c off bs).setInWin w k := by
  simp only [State.spadWrite, spadPuts_setInWin]
  rfl

@[simp] theorem inWin_accept (w : Nat) : (s.accept w).inWin w = { s.inWin w with accepted := (s.inWin w).accepted + 1 } :=
  inWin_setInWin ..

@[simp] theorem inWin_unaccept (w : Nat) : (s.unaccept w).inWin w = { s.inWin w with accepted := (s.inWin w).accepted - 1 } :=
  inWin_setInWin ..

end

/-! ### Reads (R241) -/

section

variable {s : State} {f : Flit} {code : Nat} {bs : List Byte} (hd : f.dst = s.reg bFAB)

theorem exec_rd : exec (.rd f) s = execRd f s := rfl

include hd

theorem rd_of_check (hk : f.kind = 0x12) (hc : (s.inWin f.window).check f.gen f.comp f.offset (32 * f.total) false = some code) :
    exec (.rd f) s = .next (s.refuse f code) := by
  simp [exec_rd, execRd, hk, hd, hc]

theorem rd_of_served (hk : f.kind = 0x12) (hc : (s.inWin f.window).check f.gen f.comp f.offset (32 * f.total) false = none)
    (hl : s.winLoad f.fd (s.inWin f.window) f.offset (32 * f.total) = (s, 0, bs)) :
    exec (.rd f) s = .next (s.sendData f f.offset bs (f.total + 1)) := by
  simp [exec_rd, execRd, hk, hd, hc, hl]

end

/-! ### Writes (R241, R288) -/

/-- The record of a transaction whose first flit is `f`, before any of its units is counted. -/
def firstTxn (s : State) (f : Flit) : RxTxn := ⟨f.window, f.gen, (s.inWin f.window).part, f.total, 0, false, []⟩

section

variable {s : State} {f : Flit} {t : RxTxn} {code : Nat}

theorem wr_of_lent (hd : f.dst = s.reg bFAB) (hk : f.kind = 0x10) : exec (.wr f) s = .next (s.lendWrite f) :=
  congrArg Host.Outcome.next (if_pos ⟨hk, hd⟩)

theorem wrm_of_lent (hd : f.dst = s.reg bFAB) (hk : f.kind = 0x11) (hu : f.units = 1) :
    exec (.wrm f) s = .next (s.lendWrite f) :=
  congrArg Host.Outcome.next (if_pos ⟨hk, hu, hd⟩)

section

variable (hw : f.window ≠ 1023)

include hw

section

variable (hn : s.rxTxn (rxKey f) = none)

include hn

theorem lendWrite_of_check (hc : (s.inWin f.window).check f.gen f.comp f.offset (32 * f.units) true = some code) :
    s.lendWrite f = s.refuseTxn f (firstTxn s f) code := by
  simp [State.lendWrite, firstTxn, hw, hn, hc]

variable (hc : (s.inWin f.window).check f.gen f.comp f.offset (32 * f.units) true = none)

include hc

theorem lendWrite_of_fits (hs : f.offset + 32 * f.total ≤ (s.inWin f.window).size * 2 ^ 25) :
    s.lendWrite f = (s.accept f.window).takeUnits f (firstTxn s f) := by
  simp only [State.lendWrite, hw, hn, hc, hs, firstTxn, if_true, if_false]

/-- A first flit of a write that may reach beyond SIZE waits for the others (the model's choice: log 23). -/
theorem lendWrite_of_beyond (hs : (s.inWin f.window).size * 2 ^ 25 < f.offset + 32 * f.total) (hmore : f.units < f.total) :
    s.lendWrite f =
      (s.accept f.window).setRxTxn (rxKey f) (some { firstTxn s f with got := f.units, waiting := [f] }) := by
  simp only [State.lendWrite, hw, hn, hc, if_false, State.waitUnits, firstTxn, Nat.zero_add, List.nil_append, ge_iff_le]
  rw [if_neg (by omega), if_neg (by omega)]

end

section

variable (ht : s.rxTxn (rxKey f) = some t)

include ht

theorem lendWrite_of_refused (hr : t.refused = true) : s.lendWrite f =
    s.setRxTxn (rxKey f) (if t.total ≤ t.got + f.units then none else some { t with got := t.got + f.units }) := by
  simp [State.lendWrite, hw, ht, hr]

theorem lendWrite_of_outside (hr : t.refused = false) (ho : (s.inWin t.window).size * 2 ^ 25 < f.offset + 32 * f.units) :
    s.lendWrite f = (s.unaccept t.window).refuseTxn f t 0x15 := by
  simp only [State.lendWrite, hw, ht, hr, if_false, Bool.false_eq_true, gt_iff_lt, ho, if_true]

end

end

/-- The units of a WR that lie in a scratchpad window's cluster are stored there, and counted. -/
theorem takeUnits_of_scratch (hk : f.kind = 0x10) (hs : (s.inWin t.window).scratch = true)
    (hin : inScratch (s.inWin t.window) f.offset (f.body.take (32 * f.units)).length = true) :
    s.takeUnits f t = (s.spadWrite (scratchAt (s.inWin t.window) f.offset).1 (scratchAt (s.inWin t.window) f.offset).2
      (f.body.take (32 * f.units))).setRxTxn (rxKey f) (some { t with got := t.got + f.units }) := by
  have hstore : s.takeFlit f (s.inWin t.window) = (s.spadWrite (scratchAt (s.inWin t.window) f.offset).1
      (scratchAt (s.inWin t.window) f.offset).2 (f.body.take (32 * f.units)), 0) := by
    rw [State.takeFlit, if_neg (by omega), State.winStore, if_pos hs]
    exact if_pos hin
  simp only [State.takeUnits, hstore]

end

section

variable {s : State} {f : Flit} (hd : f.dst = s.reg bFAB) (hw : f.window ≠ 1023)

include hd hw

/-- The first flit of a write that passes stores its units in the window's scratchpad and counts the request as accepted. -/
theorem wr_stores_scratch (hn : s.rxTxn (rxKey f) = none) (hk : f.kind = 0x10)
    (hc : (s.inWin f.window).check f.gen f.comp f.offset (32 * f.units) true = none)
    (hfit : f.offset + 32 * f.total ≤ (s.inWin f.window).size * 2 ^ 25) (hs : (s.inWin f.window).scratch = true)
    (hin : inScratch (s.inWin f.window) f.offset (f.body.take (32 * f.units)).length = true) :
    ∃ t, exec (.wr f) s = .next t ∧ t.rxTxn (rxKey f) = some { firstTxn s f with got := f.units }
      ∧ t.inWin f.window = { s.inWin f.window with accepted := (s.inWin f.window).accepted + 1 }
      ∧ t.spad = (s.spadWrite (scratchAt (s.inWin f.window) f.offset).1 (scratchAt (s.inWin f.window) f.offset).2
        (f.body.take (32 * f.units))).spad := by
  have htake := takeUnits_of_scratch (s := s.accept f.window) (t := firstTxn s f) hk
    (by rw [firstTxn, inWin_accept]; exact hs) (by rw [firstTxn, inWin_accept]; exact hin)
  refine ⟨_, (wr_of_lent hd hk).trans (congrArg Host.Outcome.next ((lendWrite_of_fits hw hn hc hfit).trans htake)), ?_, ?_, ?_⟩
  · rw [rxTxn_setRxTxn, firstTxn, Nat.zero_add]
  · rw [State.accept, spadWrite_setInWin]
    exact inWin_setInWin ..
  · rw [firstTxn, inWin_accept, State.accept, spadWrite_setInWin]
    rfl

/-- A flit outside the window ends its transaction, whatever came before it: nothing is written, and it is no longer counted. -/
theorem wr_of_outside {t : RxTxn} (ht : s.rxTxn (rxKey f) = some t) (hk : f.kind = 0x10) (hr : t.refused = false)
    (ho : (s.inWin t.window).size * 2 ^ 25 < f.offset + 32 * f.units) :
    ∃ u, exec (.wr f) s = .next u ∧ SameMemory s u
      ∧ u.inWin t.window = { s.inWin t.window with accepted := (s.inWin t.window).accepted - 1 }
      ∧ u.rxTxn (rxKey f) = if t.total ≤ t.got + f.units then none
        else some { t with got := t.got + f.units, refused := true, waiting := [] } := by
  obtain ⟨hmem, hwins, hrx⟩ := refuseTxn_spec (s.unaccept t.window) f t 0x15
  exact ⟨_, (wr_of_lent hd hk).trans (congrArg Host.Outcome.next (lendWrite_of_outside hw ht hr ho)), hmem,
    (hwins _).trans (inWin_unaccept ..), hrx⟩

end

/-! ### The end of a write (R288, R290) -/

section

variable {src : Fin 16384} {tag : Fin 65536} {s : State} {t : RxTxn} (ht : s.rxTxn (src * 65536 + tag) = some t)

theorem exec_transactionVisible : exec (.transactionVisible src tag) s = execTransactionVisible src tag s := rfl
theorem exec_writeAbandon : exec (.writeAbandon src tag) s = execWriteAbandon src tag s := rfl

include ht

theorem transactionVisible_of_open (h : t.refused = true ∨ t.waiting ≠ [] ∨ t.got < t.total) :
    exec (.transactionVisible src tag) s = .next s := by
  rw [exec_transactionVisible, execTransactionVisible, ht]
  refine congrArg Host.Outcome.next (if_neg ?_)
  rintro ⟨hr, hwait, hgot⟩
  rcases h with h | h | h
  · simp [h] at hr
  · exact h (List.isEmpty_iff.1 hwait)
  · omega

theorem transactionVisible_of_whole (hr : t.refused = false) (hwait : t.waiting = []) (hgot : t.total ≤ t.got) :
    ∃ u, exec (.transactionVisible src tag) s = .next u ∧ u.rxTxn (src * 65536 + tag) = none
      ∧ u.inWin t.window = { s.inWin t.window with accepted := (s.inWin t.window).accepted - 1 } ∧ SameMemory s u := by
  rw [exec_transactionVisible, execTransactionVisible, ht]
  refine ⟨_, congrArg Host.Outcome.next (if_pos ⟨by simp [hr], by simp [hwait], hgot⟩), ?_, ?_, ?_⟩
  · exact (rxTxn_of_sent (sent_sendFlit ..) _).trans (rxTxn_setRxTxn s _ none :)
  · exact (inWin_of_sent (sent_sendFlit ..) _).trans (inWin_unaccept ..)
  · exact (sameMemory_of_sent (sent_sendFlit ((s.setRxTxn (src * 65536 + tag) none).unaccept t.window) _) :)

theorem writeAbandon_of_short (hgot : t.got < t.total) : exec (.writeAbandon src tag) s = .next
    (if t.refused then s.setRxTxn (src * 65536 + tag) none else (s.setRxTxn (src * 65536 + tag) none).unaccept t.window) := by
  rw [exec_writeAbandon, execWriteAbandon, ht]
  exact congrArg Host.Outcome.next (if_neg (by omega))

theorem writeAbandon_of_whole (hgot : t.total ≤ t.got) : exec (.writeAbandon src tag) s = .next s := by
  rw [exec_writeAbandon, execWriteAbandon, ht]
  exact congrArg Host.Outcome.next (if_pos hgot)

end

/-- Settles O30: reads, the first flit of a write, its later flits, and the write's end, each by what the lender's check finds. -/
theorem windowLender : Obligations.WindowLender := by
  intro f src tag s
  dsimp only
  refine ⟨fun hd => ⟨fun code => rd_of_check hd, fun bs => rd_of_served hd, fun hn hw => ⟨fun code hc => ⟨fun hk => ?_, fun hk hu => ?_⟩,
    fun hk hc hfit hs hin => wr_stores_scratch hd hw hn hk hc hfit hs hin, fun hk hu hc hfit => ?_, fun hk hc hbeyond hmore => ?_⟩,
    fun t ht hw hk => ⟨fun hr => ?_, wr_of_outside hd hw ht hk⟩⟩,
    fun t ht => ⟨transactionVisible_of_open ht, transactionVisible_of_whole ht, fun hgot hr => ?_, fun hgot hr => ?_,
      writeAbandon_of_whole ht⟩⟩
  · obtain ⟨hmem, -, hrx⟩ := refuseTxn_spec s f (firstTxn s f) code
    rw [wr_of_lent hd hk, lendWrite_of_check hw hn hc]
    exact ⟨_, rfl, hmem, by simpa [firstTxn] using hrx⟩
  · obtain ⟨hmem, -, -⟩ := refuseTxn_spec s f (firstTxn s f) code
    rw [wrm_of_lent hd hk hu, lendWrite_of_check hw hn hc]
    exact ⟨_, rfl, hmem⟩
  · rw [wrm_of_lent hd hk hu, lendWrite_of_fits hw hn hc hfit]
    rfl
  · rw [wr_of_lent hd hk, lendWrite_of_beyond hw hn hc hbeyond hmore]
    rfl
  · rw [wr_of_lent hd hk, lendWrite_of_refused hw ht hr]
  · rw [writeAbandon_of_short ht hgot, if_neg (by simp [hr])]
  · rw [writeAbandon_of_short ht hgot, if_pos hr]

end Sys2Proof.Laws
end

section
/-! PROOFS. The state that each link is in under the operations of the fabric: what is sent, dropped or counted keeps it, and a
link is moved by `State.linkTo` alone (spec/10: R249, R253, R257; spec/11: R272, R286, R296; spec/17: R468, R469). -/
namespace Sys2Proof.Laws

open Machine

/-- Every link is in the state in `t` that it is in in `s`. -/
structure SameSt (s t : State) : Prop where
  st : ∀ j, (t.lnk j).st = (s.lnk j).st

section

variable {s t u : State}

theorem sameSt_refl (s : State) : SameSt s s := ⟨fun _ => rfl⟩
theorem sameSt_comp (h' : SameSt t u) (h : SameSt s t) : SameSt s u := ⟨fun j => (h'.st j).trans (h.st j)⟩

theorem sameSt_of_links (h : t.links = s.links) : SameSt s t := ⟨fun j => by rw [State.lnk, h, ← State.lnk]⟩

theorem sameSt_of_reported (h : Reported s t) : SameSt s t := sameSt_of_links (congrArg State.links h.rest :)

theorem sameSt_ite {c : Prop} [Decidable c] (ht : SameSt s t) (hu : SameSt s u) : SameSt s (if c then t else u) := by
  split
  · exact ht
  · exact hu

end

/-! ### One link written -/

section

variable (s : State) (i : Nat)

theorem st_setLnk (k : Link) (j : Nat) : ((s.setLnk i k).lnk j).st = if j = i then k.st else (s.lnk j).st := by
  by_cases h : j = i
  · rw [if_pos h, h, lnk_setLnk]
  · rw [if_neg h, lnk_setLnk_ne s k h]

theorem sameSt_setLnk {k : Link} (h : k.st = (s.lnk i).st) : SameSt s (s.setLnk i k) := by
  refine ⟨fun j => ?_⟩
  rw [st_setLnk]
  split
  · next hj => rw [h, hj]
  · rfl

theorem sameSt_modLnk {f : Link → Link} (h : ∀ l, (f l).st = l.st) : SameSt s (s.modLnk i f) := sameSt_setLnk s i (h _)

end

/-! ### Sending (R272, R281, R286, R296) -/

theorem freeSlot_st (l : Link) (x : Slot) : (l.freeSlot x).st = l.st := by
  unfold Link.freeSlot
  split <;> rfl

theorem fill_st (l : Link) (n : Nat) : (l.fill n).1.st = l.st := by
  induction n generalizing l with
  | zero => rfl
  | succ n ih =>
    unfold Link.fill
    split
    · rfl
    · split
      · exact ih _
      · rfl

section

variable (s : State)

theorem sameSt_bump (k n : Nat) : SameSt s (s.bump k n) := sameSt_of_links rfl
theorem sameSt_emit (e : Emit) : SameSt s (s.emit e) := sameSt_of_links rfl
theorem sameSt_emits (es : List Emit) : SameSt s (s.emits es) := sameSt_of_links rfl
theorem sameSt_draw : SameSt s s.draw := sameSt_of_links rfl

theorem sameSt_dropFlit (off : Nat) : SameSt s (s.dropFlit off) :=
  sameSt_comp (sameSt_of_reported (reported_ledger ..)) (sameSt_bump ..)

theorem sameSt_dropFlits (off n : Nat) : SameSt s (s.dropFlits off n) := by
  induction n generalizing s with
  | zero => exact sameSt_refl s
  | succ n ih => exact sameSt_comp (ih _) (sameSt_dropFlit s off)

theorem sameSt_freeRx (f : Flit) : SameSt s (s.freeRx f) := by
  unfold State.freeRx
  split
  · exact sameSt_modLnk _ _ fun l => freeSlot_st l _
  · exact sameSt_refl s

theorem sameSt_freeRxs (fs : List LFlit) : SameSt s (s.freeRxs fs) := by
  induction fs generalizing s with
  | nil => exact sameSt_refl s
  | cons f fs ih => exact sameSt_comp (ih _) (sameSt_freeRx s f.flit)

theorem sameSt_sendBundle (i : Nat) (fs : List LFlit) : SameSt s (s.sendBundle i fs) :=
  sameSt_comp (sameSt_emit ..) (sameSt_setLnk s i rfl)

theorem sameSt_pumpLink (i fuel : Nat) : SameSt s (s.pumpLink i fuel) := by
  induction fuel generalizing s with
  | zero => exact sameSt_refl s
  | succ n ih =>
    have hfill := sameSt_comp (sameSt_sendBundle _ i ((s.lnk i).fill 8).2) (sameSt_setLnk s i (fill_st (s.lnk i) 8))
    exact sameSt_ite (sameSt_ite (sameSt_refl s) (sameSt_comp (ih _) (sameSt_comp (sameSt_freeRxs _ _) hfill))) (sameSt_refl s)

theorem sameSt_queueOn (i : Nat) (f : Flit) : SameSt s (s.queueOn i f) :=
  sameSt_comp (sameSt_pumpLink ..) (sameSt_modLnk s i fun _ => rfl)

theorem sameSt_route (f : Flit) : SameSt s (s.route f) := by
  unfold State.route
  split
  · exact sameSt_comp (sameSt_emit ..) (sameSt_freeRx s f)
  · dsimp only
    split
    · exact sameSt_queueOn ..
    · exact sameSt_comp (sameSt_dropFlit ..) (sameSt_freeRx s f)

theorem sameSt_reroute (fs : List Flit) : SameSt s (s.reroute fs) := by
  induction fs generalizing s with
  | nil => exact sameSt_refl s
  | cons f fs ih =>
    exact sameSt_comp (ih _) (sameSt_ite (sameSt_comp (sameSt_dropFlit ..) (sameSt_freeRx s f)) (sameSt_route s f))

/-- A table whose values are changed one by one, as the value of a missing key is, reads as changed. -/
theorem tblGet_map {α : Type} {d : Nat → α} {g : α → α} (hd : ∀ k, g (d k) = d k) (t : Tbl α) (j : Nat) :
    tblGet d (t.map fun e => (e.1, g e.2)) j = g (tblGet d t j) := by
  induction t with
  | nil => exact (hd j).symm
  | cons e t ih =>
    simp only [List.map_cons, tblGet, ih]
    split <;> rfl

theorem sameSt_dropSlots (i : Nat) : SameSt s (s.dropSlots i) := by
  refine ⟨fun j => ?_⟩
  have hmap := tblGet_map (d := fun _ => Link.reset) (g := fun l => { l with queue := l.queue.map (Flit.unslot i) })
    (fun _ => rfl) s.links j
  rw [State.lnk, State.dropSlots, hmap, ← State.lnk]

end

/-! ### A link moved (R253, R286) -/

theorem enter_st (l : Link) (st : LnkSt) (c : Nat) : (l.enter st c).st = st := by cases st <;> rfl

section

variable (s : State) (i : Nat)

theorem sameSt_parentLost : SameSt s (s.parentLost i) := sameSt_ite (sameSt_of_links rfl) (sameSt_refl s)

/-- What leaving a state counts, reports and drops moves no link, nor does what follows the writing of the link. -/
theorem st_linkTo (st : LnkSt) (c j : Nat) : ((s.linkTo i st c).lnk j).st = if j = i then st else (s.lnk j).st := by
  unfold State.linkTo
  extract_lets l left s1 s2 s3 s4 s5
  have h1 : SameSt s s1 :=
    sameSt_ite (sameSt_comp (sameSt_of_reported (reported_ledger ..)) (sameSt_bump ..)) (sameSt_refl s)
  have h2 : SameSt s s2 := sameSt_ite (sameSt_comp (sameSt_of_reported (reported_mctpEvent ..)) h1) h1
  have h3 : SameSt s s3 := sameSt_ite (sameSt_comp (sameSt_dropFlits ..) h2) h2
  have h4 : SameSt (s3.setLnk i (l.enter st c)) s4 := sameSt_ite (sameSt_dropSlots ..) (sameSt_refl _)
  have h5 : SameSt (s3.setLnk i (l.enter st c)) s5 := sameSt_ite (sameSt_comp (sameSt_reroute ..) h4) h4
  have h6 := sameSt_ite (c := left = true) (sameSt_comp (sameSt_parentLost s5 i) h5) h5
  rw [h6.st j, st_setLnk, enter_st, h3.st j]

end

/-! ### Control words and key exchanges (R277, R468, R469) -/

section

variable (s : State) (i : Nat)

theorem sameSt_sendWords (kind : Nat) (payloads : List Nat) (auth : Bool) : SameSt s (s.sendWords i kind payloads auth) :=
  sameSt_ite (sameSt_comp (sameSt_emits ..) (sameSt_setLnk s i rfl)) (sameSt_emits ..)

theorem sameSt_sendRekey (msg xid : Nat) (bs : List Byte) (small : Nat) : SameSt s (s.sendRekey i msg xid bs small) :=
  sameSt_comp (sameSt_modLnk _ i fun _ => rfl) (sameSt_sendWords ..)

theorem sameSt_drbg (n : Nat) : SameSt s (s.drbg n) := sameSt_ite (sameSt_of_links rfl) (sameSt_of_links rfl)

theorem sameSt_beginExch (rollover : Bool) : SameSt s (s.beginExch i rollover) := by
  have hdrawn : SameSt s (s.drbg 1).draw.draw :=
    sameSt_comp (sameSt_draw _) (sameSt_comp (sameSt_draw _) (sameSt_drbg s 1))
  exact sameSt_comp (sameSt_sendRekey ..) (sameSt_comp (sameSt_setLnk _ i (hdrawn.st i).symm) hdrawn)

theorem sameSt_startKeying : SameSt s (s.startKeying i) := by
  unfold State.startKeying
  dsimp only
  split
  · exact sameSt_ite (sameSt_beginExch ..) (sameSt_refl s)
  · exact sameSt_refl s

theorem sameSt_requar : SameSt s (s.requar i) := sameSt_ite (sameSt_modLnk s i fun _ => rfl) (sameSt_refl s)

theorem sameSt_parentUp : SameSt s (s.parentUp i) := sameSt_ite (sameSt_of_links rfl) (sameSt_refl s)

theorem st_toQuarantine (j : Nat) : ((s.toQuarantine i).lnk j).st = if j = i then .quarantine else (s.lnk j).st := by
  rw [State.toQuarantine, (sameSt_startKeying _ i).st j, (sameSt_requar _ i).st j, st_linkTo]

end

end Sys2Proof.Laws
end

section
/-! PROOFS. The only way to ACTIVE (spec/10: R249, R257). -/
namespace Sys2Proof.Laws

open Machine

/-- Each link that is ACTIVE in `t` is so in `s`. -/
def NoneActivated (s t : State) : Prop := ∀ j, (t.lnk j).st = .active → (s.lnk j).st = .active

section

variable {s t u : State} {i : Nat}

theorem noneActivated_refl (s : State) : NoneActivated s s := fun _ => id
theorem noneActivated_comp (h' : NoneActivated t u) (h : NoneActivated s t) : NoneActivated s u := fun j ha => h j (h' j ha)
theorem noneActivated_of_sameSt (h : SameSt s t) : NoneActivated s t := fun j ha => (h.st j).symm.trans ha

theorem noneActivated_ite {c : Prop} [Decidable c] (ht : NoneActivated s t) (hu : NoneActivated s u) :
    NoneActivated s (if c then t else u) := by
  split
  · exact ht
  · exact hu

/-- Where one link alone is in another state, which is not ACTIVE, no link has become ACTIVE. -/
theorem noneActivated_of_moved {st : LnkSt} (hst : st ≠ .active) (h : ∀ j, (t.lnk j).st = if j = i then st else (s.lnk j).st) :
    NoneActivated s t := fun j ha => by
  rw [h j] at ha
  split at ha
  · exact absurd ha hst
  · exact ha

end

section

variable (s : State) (i : Nat)

theorem noneActivated_setReg (k v : Nat) : NoneActivated s (s.setReg k v) := noneActivated_of_sameSt (sameSt_of_links rfl)

theorem noneActivated_setLnk {k : Link} (h : k.st ≠ .active) : NoneActivated s (s.setLnk i k) :=
  noneActivated_of_moved h (st_setLnk s i k)

theorem noneActivated_modLnk {f : Link → Link} (h : ∀ l, (f l).st = l.st) : NoneActivated s (s.modLnk i f) :=
  noneActivated_of_sameSt (sameSt_modLnk s i h)

theorem noneActivated_linkTo {st : LnkSt} (c : Nat) (h : st ≠ .active) : NoneActivated s (s.linkTo i st c) :=
  noneActivated_of_moved h (st_linkTo s i st c)

theorem noneActivated_toQuarantine : NoneActivated s (s.toQuarantine i) :=
  noneActivated_of_moved (by decide) (st_toQuarantine s i)

theorem noneActivated_requar : NoneActivated s (s.requar i) := noneActivated_of_sameSt (sameSt_requar s i)

theorem noneActivated_recheck : NoneActivated s (s.recheck i) := by
  unfold State.recheck
  dsimp only
  split
  · exact noneActivated_refl s
  · split
    · exact noneActivated_toQuarantine s i
    · exact noneActivated_requar s i
    · exact noneActivated_ite (noneActivated_toQuarantine s i) (noneActivated_refl s)
    · exact noneActivated_refl s

end

/-- The command is carried out, and activates no link. -/
def ActivatesNone (c : Instr) (s : State) : Prop := ∃ t, exec c s = .next t ∧ NoneActivated s t

/-! ### The commands of training, hellos and the LNK registers -/

section

variable (i : LinkId) (s : State)

theorem activatesNone_signalDetect : ActivatesNone (.signalDetect i) s :=
  ⟨_, rfl, noneActivated_ite (noneActivated_setLnk s i nofun) (noneActivated_refl s)⟩

theorem activatesNone_equaliseDone (p0 p1 : Bool) : ActivatesNone (.equaliseDone i p0 p1) s :=
  ⟨_, rfl, noneActivated_ite (noneActivated_setLnk s i nofun) (noneActivated_refl s)⟩

theorem activatesNone_alignLock (swap : Bool) : ActivatesNone (.alignLock i swap) s :=
  ⟨_, rfl, noneActivated_ite (noneActivated_setLnk s i nofun) (noneActivated_refl s)⟩

theorem activatesNone_trainingTimeout : ActivatesNone (.trainingTimeout i) s := by
  have hfail (c : Nat) : NoneActivated s ((s.linkTo i .detect c).modLnk i fun l => { l with waiting := true }) :=
    noneActivated_comp (noneActivated_modLnk _ i fun _ => rfl) (noneActivated_linkTo s i c nofun)
  refine ⟨_, rfl, ?_⟩
  dsimp only
  split
  · exact hfail 0x07
  · exact hfail 0x08
  · exact hfail 0x0D
  · exact noneActivated_refl s

theorem activatesNone_detectRetry : ActivatesNone (.detectRetry i) s :=
  ⟨_, rfl, noneActivated_ite (noneActivated_modLnk s i fun _ => rfl) (noneActivated_refl s)⟩

theorem activatesNone_noSignalLane (lane : Fin 2) : ActivatesNone (.noSignalLane i lane) s :=
  ⟨_, rfl, noneActivated_ite (noneActivated_modLnk s i fun _ => rfl) (noneActivated_refl s)⟩

theorem activatesNone_lossOfLock : ActivatesNone (.lossOfLock i) s :=
  ⟨_, rfl, noneActivated_ite (noneActivated_linkTo s i 0x09 nofun) (noneActivated_refl s)⟩

theorem activatesNone_fecExcess : ActivatesNone (.fecExcess i) s :=
  ⟨_, rfl, noneActivated_ite (noneActivated_linkTo s i 0x0A nofun) (noneActivated_refl s)⟩

theorem activatesNone_helloSend : ActivatesNone (.helloSend i) s :=
  ⟨_, rfl, noneActivated_of_sameSt (sameSt_ite (sameSt_sendWords ..) (sameSt_refl s))⟩

theorem activatesNone_hello (h : Hello) (mac : W64) : ActivatesNone (.hello i h mac) s := by
  have hkept := noneActivated_modLnk s i (f := fun l => { l with hello := some h, pReady := h.ready }) fun _ => rfl
  refine ⟨_, rfl, noneActivated_ite (noneActivated_refl s) (noneActivated_comp (noneActivated_ite ?_ ?_) hkept)⟩
  · exact noneActivated_linkTo _ i 0x0B nofun
  · exact noneActivated_comp (noneActivated_modLnk _ i fun _ => rfl) (noneActivated_recheck _ i)

theorem activatesNone_lnkExpect (v : W32) : ActivatesNone (.lnkExpect i v) s :=
  ⟨_, rfl, noneActivated_comp (noneActivated_ite (noneActivated_refl _) (noneActivated_recheck _ i))
    (noneActivated_setReg s _ _)⟩

theorem activatesNone_quarClear : ActivatesNone (.quarClear i) s :=
  ⟨_, rfl, noneActivated_comp (noneActivated_requar _ i) (noneActivated_modLnk s i fun _ => rfl)⟩

theorem activatesNone_retrain : ActivatesNone (.retrain i) s :=
  ⟨_, rfl, noneActivated_ite (noneActivated_refl s) (noneActivated_linkTo s i 0x0E nofun)⟩

theorem activatesNone_quarForce (on : Bool) : ActivatesNone (.quarForce i on) s := by
  have hset : NoneActivated s (if on then s.setBits (kLnkCtrl i) 2 else s.clearBits (kLnkCtrl i) 2) :=
    noneActivated_ite (noneActivated_setReg s _ _) (noneActivated_setReg s _ _)
  exact ⟨_, rfl, noneActivated_comp (noneActivated_ite (noneActivated_toQuarantine _ i) (noneActivated_requar _ i)) hset⟩

theorem activatesNone_enable (on : Bool) : ActivatesNone (.enable i on) s := by
  refine ⟨_, rfl, noneActivated_ite
    (noneActivated_comp (noneActivated_ite ?_ (noneActivated_refl _)) (noneActivated_setReg s _ _))
    (noneActivated_comp (noneActivated_linkTo _ i 1 nofun) (noneActivated_setReg s _ _))⟩
  split
  · exact noneActivated_linkTo _ i 0 nofun
  · exact noneActivated_modLnk _ i fun _ => rfl

/-! ### The exit from quarantine (R257) -/

/-- The exit moves its link alone, and only out of QUARANTINE with no condition failing. -/
theorem active_of_quarantineExit (j : Nat) : ∃ t, exec (.quarantineExit i) s = .next t ∧
    ((t.lnk j).st = .active → (s.lnk j).st = .active ∨ (j = i ∧ (s.lnk i).st = .quarantine ∧ s.quarCause i = 0)) := by
  refine ⟨_, rfl, fun ha => ?_⟩
  split at ha
  · next hexit =>
    rw [(sameSt_parentUp _ i).st j, State.control, (sameSt_sendWords _ i 3 [grantWord] true).st j, st_linkTo] at ha
    split at ha
    · next hj => exact .inr ⟨hj, hexit⟩
    · exact .inl ha
  · exact .inl ha

end

/-- Settles O36: no command but the exit from quarantine moves a link to ACTIVE, and the exit does so with every condition met. -/
theorem activeOnlyFromQuarantine : Obligations.ActiveOnlyFromQuarantine := by
  intro i j p0 p1 swap on lane h mac v s
  refine ⟨fun c hc => ?_, ?_⟩
  · have hnone : ActivatesNone c s := by
      revert c
      simp only [List.forall_mem_cons]
      exact ⟨activatesNone_signalDetect i s, activatesNone_equaliseDone i s p0 p1, activatesNone_alignLock i s swap,
        activatesNone_trainingTimeout i s, activatesNone_detectRetry i s, activatesNone_noSignalLane i s lane,
        activatesNone_lossOfLock i s, activatesNone_fecExcess i s, activatesNone_helloSend i s, activatesNone_hello i s h mac,
        activatesNone_lnkExpect i s v, activatesNone_quarClear i s, activatesNone_retrain i s, activatesNone_quarForce i s on,
        activatesNone_enable i s on, nofun⟩
    obtain ⟨t, ht, hkept⟩ := hnone
    exact ⟨t, ht, hkept j⟩
  · obtain ⟨t, ht, hexit⟩ := active_of_quarantineExit i s j
    exact ⟨t, ht, fun ha => (hexit ha).imp_right fun ⟨hj, hq⟩ => ⟨Fin.ext hj, hq⟩⟩

end Sys2Proof.Laws
end

section
/-! PROOFS. What each command of a link does, by the state that the link is in (spec/10: R249 to R258, R269). -/
namespace Sys2Proof.Laws

open Machine

section

variable {i : LinkId} {s : State}

/-! ### Training and its loss (R249 to R253) -/

theorem signalDetect_of_ready (hst : (s.lnk i).st = .detect) (hw : (s.lnk i).waiting = false) (hp : (s.cage (i / 4)).pow = .on)
    (hr : (s.cage (i / 4)).ready = true) :
    exec (.signalDetect i) s = .next (s.setLnk i { s.lnk i with st := .equalise }) :=
  congrArg Host.Outcome.next (if_pos ⟨hst, by simp [hw], hp, hr⟩)

theorem signalDetect_of_not (h : (s.lnk i).st ≠ .detect ∨ (s.lnk i).waiting = true ∨ (s.cage (i / 4)).pow ≠ .on
    ∨ (s.cage (i / 4)).ready = false) : exec (.signalDetect i) s = .next s := by
  refine congrArg Host.Outcome.next (if_neg fun ⟨hst, hw, hp, hr⟩ => ?_)
  rcases h with h | h | h | h
  · exact h hst
  · simp [h] at hw
  · exact h hp
  · simp [h] at hr

theorem equaliseDone_of_equalise (p0 p1 : Bool) (h : (s.lnk i).st = .equalise) :
    exec (.equaliseDone i p0 p1) s = .next (s.setLnk i { s.lnk i with st := .align, pol0 := p0, pol1 := p1 }) :=
  congrArg Host.Outcome.next (if_pos h)

theorem alignLock_straight (h : (s.lnk i).st = .align) :
    exec (.alignLock i false) s = .next (s.setLnk i { s.lnk i with st := .neighbour, swap := false }) :=
  congrArg Host.Outcome.next (if_pos h)

theorem alignLock_swapped (h : (s.lnk i).st = .align) : exec (.alignLock i true) s =
    .next (s.setLnk i { s.lnk i with st := .neighbour, swap := true, pol0 := (s.lnk i).pol1, pol1 := (s.lnk i).pol0 }) :=
  congrArg Host.Outcome.next (if_pos h)

/-- Training given up: the link is back in DETECT, and waits there. -/
def trainingFailed (s : State) (i c : Nat) : State := (s.linkTo i .detect c).modLnk i fun l => { l with waiting := true }

theorem exec_trainingTimeout : exec (.trainingTimeout i) s = execTrainingTimeout i s := rfl

theorem trainingTimeout_of_equalise (h : (s.lnk i).st = .equalise) :
    exec (.trainingTimeout i) s = .next (trainingFailed s i 0x07) := by
  rw [exec_trainingTimeout, execTrainingTimeout, h]
  rfl

theorem trainingTimeout_of_align (h : (s.lnk i).st = .align) : exec (.trainingTimeout i) s = .next (trainingFailed s i 0x08) := by
  rw [exec_trainingTimeout, execTrainingTimeout, h]
  rfl

theorem trainingTimeout_of_neighbour (h : (s.lnk i).st = .neighbour) :
    exec (.trainingTimeout i) s = .next (trainingFailed s i 0x0D) := by
  rw [exec_trainingTimeout, execTrainingTimeout, h]
  rfl

theorem detectRetry_of_detect (h : (s.lnk i).st = .detect) :
    exec (.detectRetry i) s = .next (s.modLnk i fun l => { l with waiting := false }) :=
  congrArg Host.Outcome.next (if_pos h)

theorem noSignalLane_of_detect (lane : Fin 2) (h : (s.lnk i).st = .detect) :
    exec (.noSignalLane i lane) s = .next (s.modLnk i fun l => { l with cause := 5 + lane.val }) :=
  congrArg Host.Outcome.next (if_pos h)

theorem lossOfLock_of_carries (h : (s.lnk i).carries = true) : exec (.lossOfLock i) s = .next (s.linkTo i .detect 0x09) :=
  congrArg Host.Outcome.next (if_pos h)

theorem fecExcess_of_carries (h : (s.lnk i).carries = true) : exec (.fecExcess i) s = .next (s.linkTo i .detect 0x0A) :=
  congrArg Host.Outcome.next (if_pos h)

theorem lossOfLock_of_not (h : (s.lnk i).carries = false) : exec (.lossOfLock i) s = .next s :=
  congrArg Host.Outcome.next (if_neg (by simp [h]))

theorem fecExcess_of_not (h : (s.lnk i).carries = false) : exec (.fecExcess i) s = .next s :=
  congrArg Host.Outcome.next (if_neg (by simp [h]))

/-! ### Quarantine (R257, R258) -/

theorem quarantineExit_of_clear (hst : (s.lnk i).st = .quarantine) (hc : s.quarCause i = 0) :
    exec (.quarantineExit i) s = .next (((s.linkTo i .active 0).control i 3 grantWord true).parentUp i) :=
  congrArg Host.Outcome.next (if_pos ⟨hst, hc⟩)

theorem quarantineExit_of_held (h : (s.lnk i).st ≠ .quarantine ∨ s.quarCause i ≠ 0) : exec (.quarantineExit i) s = .next s :=
  congrArg Host.Outcome.next (if_neg fun ⟨hst, hc⟩ => h.elim (· hst) (· hc))

theorem quarForce_of_active (h : (s.lnk i).st = .active) :
    exec (.quarForce i true) s = .next ((s.setBits (kLnkCtrl i) 2).toQuarantine i) :=
  congrArg Host.Outcome.next (if_pos ⟨rfl, h⟩)

theorem quarForce_off : exec (.quarForce i false) s = .next ((s.clearBits (kLnkCtrl i) 2).requar i) :=
  congrArg Host.Outcome.next (if_neg fun h => nomatch h.1)

/-! ### Hellos (R254, R255, R276) -/

theorem helloSend_of_meets (h : (s.lnk i).meets = true) : exec (.helloSend i) s =
    .next (s.emit (.control i ⟨1, s.helloWord i false, 0, wordCrc 1 (s.helloWord i false)⟩)) :=
  congrArg Host.Outcome.next (if_pos h)

theorem helloSend_of_not (h : (s.lnk i).meets = false) : exec (.helloSend i) s = .next s :=
  congrArg Host.Outcome.next (if_neg (by simp [h]))

section

variable {h : Hello} {mac : W64}

theorem hello_of_not (hm : (s.lnk i).meets = false) : exec (.hello i h mac) s = .next s :=
  congrArg Host.Outcome.next (if_pos (.inl (by simp [hm])))

theorem hello_of_bad_word (hbad : ¬ mac.toNat = wordCrc 1 h.payload) : exec (.hello i h mac) s = .next s :=
  congrArg Host.Outcome.next (if_pos (.inr hbad))

/-- A hello received intact is kept, whatever it then leads to. -/
theorem hello_of_intact (hm : (s.lnk i).meets = true) (hgood : mac.toNat = wordCrc 1 h.payload) : exec (.hello i h mac) s =
    .next (let s1 := s.modLnk i fun l => { l with hello := some h, pReady := h.ready }
      if h.goodbye then s1.linkTo i .detect 0x0B else (s1.recheck i).modLnk i fun l => { l with pReady := h.ready }) :=
  congrArg Host.Outcome.next (if_neg fun hno => hno.elim (by simp [hm]) (· hgood))

theorem hello_of_goodbye (hm : (s.lnk i).meets = true) (hgood : mac.toNat = wordCrc 1 h.payload) (hbye : h.goodbye = true) :
    exec (.hello i h mac) s =
      .next ((s.modLnk i fun l => { l with hello := some h, pReady := h.ready }).linkTo i .detect 0x0B) :=
  (hello_of_intact hm hgood).trans (congrArg Host.Outcome.next (if_pos hbye))

theorem hello_of_stay (hm : (s.lnk i).meets = true) (hgood : mac.toNat = wordCrc 1 h.payload) (hstay : h.goodbye = false) :
    exec (.hello i h mac) s = .next (((s.modLnk i fun l => { l with hello := some h, pReady := h.ready }).recheck i).modLnk i
      fun l => { l with pReady := h.ready }) :=
  (hello_of_intact hm hgood).trans (congrArg Host.Outcome.next (if_neg (by simp [hstay])))

end

/-! ### The LNK registers (R249, R255, R269) -/

theorem lnkExpect_of_neighbour (v : W32) (h : (s.lnk i).st = .neighbour) :
    exec (.lnkExpect i v) s = .next (s.setReg (kLnkExpect i) (v.toNat &&& 0x8FFFC07F)) :=
  congrArg Host.Outcome.next (if_pos h)

theorem lnkExpect_of_not (v : W32) (h : (s.lnk i).st ≠ .neighbour) :
    exec (.lnkExpect i v) s = .next ((s.setReg (kLnkExpect i) (v.toNat &&& 0x8FFFC07F)).recheck i) :=
  congrArg Host.Outcome.next (if_neg h)

theorem retrain_of_not_disabled (h : (s.lnk i).st ≠ .disabled) : exec (.retrain i) s = .next (s.linkTo i .detect 0x0E) :=
  congrArg Host.Outcome.next (if_neg h)

theorem retrain_of_disabled (h : (s.lnk i).st = .disabled) : exec (.retrain i) s = .next s :=
  congrArg Host.Outcome.next (if_pos h)

theorem enable_of_disabled (h : (s.lnk i).st = .disabled) (hc : (s.setBits (kLnkCtrl i) 1).cageCause (i / 4) = none) :
    exec (.enable i true) s = .next ((s.setBits (kLnkCtrl i) 1).linkTo i .detect 0) := by
  refine congrArg Host.Outcome.next ((if_pos rfl).trans ((if_pos h).trans ?_))
  rw [hc]

theorem enable_of_not_disabled (h : (s.lnk i).st ≠ .disabled) : exec (.enable i true) s = .next (s.setBits (kLnkCtrl i) 1) :=
  congrArg Host.Outcome.next ((if_pos rfl).trans (if_neg h))

theorem enable_off : exec (.enable i false) s = .next ((s.clearBits (kLnkCtrl i) 1).linkTo i .disabled 1) := rfl

end

/-- Settles O35: each command in each state of its link, by the lemma for that case. -/
theorem linkStates : Obligations.LinkStates := by
  intro i p0 p1 swap lane h mac v s
  exact ⟨signalDetect_of_ready, signalDetect_of_not,
    fun he => ⟨equaliseDone_of_equalise p0 p1 he, trainingTimeout_of_equalise he⟩,
    fun ha => ⟨alignLock_straight ha, alignLock_swapped ha, trainingTimeout_of_align ha⟩,
    trainingTimeout_of_neighbour,
    fun hd => ⟨detectRetry_of_detect hd, noSignalLane_of_detect lane hd⟩,
    fun hc => ⟨lossOfLock_of_carries hc, fecExcess_of_carries hc⟩,
    fun hc => ⟨lossOfLock_of_not hc, fecExcess_of_not hc⟩,
    quarantineExit_of_clear, quarantineExit_of_held, helloSend_of_meets, helloSend_of_not,
    fun hm => ⟨hello_of_bad_word, hello_of_goodbye hm, hello_of_stay hm⟩, hello_of_not,
    ⟨lnkExpect_of_neighbour v, lnkExpect_of_not v⟩,
    rfl, retrain_of_not_disabled, retrain_of_disabled, quarForce_of_active, quarForce_off,
    enable_off, enable_of_disabled, enable_of_not_disabled⟩

end Sys2Proof.Laws
end

section
/-! PROOFS. The supply of a cage: what each command does by the cage's state (spec/10: R260 to R264). -/
namespace Sys2Proof.Laws

open Machine

/-! ### Reports keep every cage -/

section

variable {s t : State} (j : Nat)

theorem cage_of_reported (h : Reported s t) : t.cage j = s.cage j := by
  rw [h.rest]
  rfl

theorem cage_svcEvt (s : State) (k m : Nat) : (s.svcEvt k m).cage j = s.cage j :=
  (cage_of_reported j (reported_msix (s.setBits k m) 0 3) :)

theorem cage_ledger (s : State) (type source object code value : Nat) :
    (s.ledger type source object code value).cage j = s.cage j :=
  cage_of_reported j (reported_ledger ..)

end

section

variable {c : CageId} {s : State}

/-! ### Presence (R261, R263, R267) -/

/-- Presence gained, kept in the cage and shown in its event register. -/
def presenceSeen (s : State) (c : Nat) : State :=
  (s.setCage c { s.cage c with present := true, fails := 0 }).svcEvt (kCageEvt c) 1

/-- A cage without its cable. -/
def unplugged (k : Cage) : Cage := { k with present := false, attn := if k.attn = .keyStuck then .keyStuck else .idle }

/-- A cage that starts its supply where POWER_EN is 1. -/
def Startable (s : State) (c : Nat) : Prop :=
  ((s.cage c).pow = .off ∨ (s.cage c).pow = .debounce) ∧ (s.cage c).attn ≠ .safe ∧ s.powerEn c = true

/-- A cage whose discharge is to end in OFF, and not in SAFE, while what starts a supply, `go`, holds. -/
def Restarts (k : Cage) (go : Bool) : Prop := k.pow = .discharge ∧ k.next = .off ∧ k.toSafe = false ∧ go = true

theorem restarts_iff {k : Cage} {go : Bool} :
    Restarts k go ↔ k.pow = .discharge ∧ k.next = .off ∧ (!k.toSafe) = true ∧ go = true := by
  simp [Restarts]

theorem exec_cagePresenceLost : exec (.cagePresenceLost c) s = execCagePresenceLost c s := rfl

section

variable (hp : (s.cage c).present = false)
include hp

theorem presenceSeen_of_absent : (if (s.cage c).present then s else presenceSeen s c) = presenceSeen s c := if_neg (by simp [hp])

theorem cagePresenceGained_of_startable (h : Startable s c) : exec (.cagePresenceGained c) s =
    .next ((presenceSeen s c).modCage c fun k => { k with pow := .ramp, active := false, low := false, ready := false }) := by
  rw [← presenceSeen_of_absent hp]
  exact congrArg Host.Outcome.next (if_pos h)

theorem cagePresenceGained_of_restarts (h : Restarts (s.cage c) (s.powerEn c)) :
    exec (.cagePresenceGained c) s = .next ((presenceSeen s c).modCage c fun k => { k with next := .ramp }) := by
  rw [← presenceSeen_of_absent hp]
  exact congrArg Host.Outcome.next ((if_neg (by simp [h.1])).trans (if_pos (restarts_iff.1 h)))

theorem cagePresenceGained_of_neither (h : ¬ Startable s c) (h' : ¬ Restarts (s.cage c) (s.powerEn c)) :
    exec (.cagePresenceGained c) s = .next (presenceSeen s c) := by
  rw [← presenceSeen_of_absent hp]
  exact congrArg Host.Outcome.next ((if_neg h).trans (if_neg (mt restarts_iff.2 h')))

theorem cagePresenceLost_of_absent : exec (.cagePresenceLost c) s = .next s :=
  congrArg Host.Outcome.next (if_pos (by simp [hp]))

end

section

variable (hp : (s.cage c).present = true)
include hp

theorem cagePresenceLost_of_on (h : (s.cage c).pow = .on) : exec (.cagePresenceLost c) s =
    .next (((s.linksDown 2 (cageLinks c)).setCage c { (unplugged (s.cage c)).switchOff .off with toSafe := false }).svcEvt
      (kCageEvt c) 2) := by
  simp only [exec_cagePresenceLost, execCagePresenceLost, unplugged, hp, h]
  rfl

theorem cagePresenceLost_of_ramp (h : (s.cage c).pow = .ramp) :
    exec (.cagePresenceLost c) s = .next (s.setCage c ((unplugged (s.cage c)).switchOff .off)) := by
  simp only [exec_cagePresenceLost, execCagePresenceLost, unplugged, hp, h]
  rfl

theorem cagePresenceLost_of_failed (h : (s.cage c).pow = .retryWait ∨ (s.cage c).pow = .latched) :
    exec (.cagePresenceLost c) s = .next (s.setCage c { unplugged (s.cage c) with pow := .off, fails := 0 }) := by
  rcases h with h | h <;>
  · simp only [exec_cagePresenceLost, execCagePresenceLost, unplugged, hp, h]
    rfl

theorem cagePresenceLost_of_discharge (h : (s.cage c).pow = .discharge) : exec (.cagePresenceLost c) s =
    .next (s.setCage c { unplugged (s.cage c) with next := .off, fails := 0, toSafe := false }) := by
  simp only [exec_cagePresenceLost, execCagePresenceLost, unplugged, hp, h]
  rfl

theorem cagePresenceLost_of_off (h : (s.cage c).pow = .off ∨ (s.cage c).pow = .debounce) :
    exec (.cagePresenceLost c) s = .next (s.setCage c { unplugged (s.cage c) with pow := .off }) := by
  rcases h with h | h <;>
  · simp only [exec_cagePresenceLost, execCagePresenceLost, unplugged, hp, h]
    rfl

end

/-! ### The ramp (R260 to R262) -/

section

variable {mv ma : Fin 65536} {limiting : Bool} {cable : CableId}

/-- The voltage and the current at a ramp's end, as the monitor register shows them. -/
def measured (s : State) (c : Nat) (mv ma : Fin 65536) : State := s.setReg (kCageMon c) (ma.val * 65536 + mv.val)

/-- A cage whose ramp has ended well with `cable` in it. -/
def rampedOn (s : State) (c : Nat) (mv ma : Fin 65536) (cable : CableId) : State :=
  (measured s c mv ma).setCage c { s.cage c with pow := .on, active := cable.active, low := false, ready := !cable.active }

theorem cageRampEnd_of_not_ramp (h : (s.cage c).pow ≠ .ramp) : exec (.cageRampEnd c mv ma limiting cable) s = .next s :=
  congrArg Host.Outcome.next (if_pos h)

theorem cageRampEnd_of_failed (h : (s.cage c).pow = .ramp) (hf : mv.val < 2970 ∨ limiting = true) :
    exec (.cageRampEnd c mv ma limiting cable) s = .next ((measured s c mv ma).supplyFailure c false) :=
  congrArg Host.Outcome.next ((if_neg (· h)).trans
    (if_neg fun ⟨hv, hl⟩ => hf.elim (Nat.not_lt.2 hv) fun ht => by simp [ht] at hl))

/-- What follows a ramp that ends well is by the cable. -/
theorem cageRampEnd_of_good (h : (s.cage c).pow = .ramp) (hv : 2970 ≤ mv.val) (hl : limiting = false) :
    exec (.cageRampEnd c mv ma limiting cable) s =
      .next (if !cable.active then (rampedOn s c mv ma cable).linksUp (cageLinks c)
        else if cable.milliwatt > 16000 then (rampedOn s c mv ma cable).cmisFault c else rampedOn s c mv ma cable) :=
  congrArg Host.Outcome.next ((if_neg (· h)).trans (if_pos ⟨hv, by simp [hl]⟩))

section

variable (h : (s.cage c).pow = .ramp) (hv : 2970 ≤ mv.val) (hl : limiting = false)
include h hv hl

theorem cageRampEnd_of_passive (ha : cable.active = false) :
    exec (.cageRampEnd c mv ma limiting cable) s = .next ((rampedOn s c mv ma cable).linksUp (cageLinks c)) :=
  (cageRampEnd_of_good h hv hl).trans (congrArg Host.Outcome.next (if_pos (by simp [ha])))

theorem cageRampEnd_of_over_power (ha : cable.active = true) (hw : 16000 < cable.milliwatt) :
    exec (.cageRampEnd c mv ma limiting cable) s = .next ((rampedOn s c mv ma cable).cmisFault c) :=
  (cageRampEnd_of_good h hv hl).trans (congrArg Host.Outcome.next ((if_neg (by simp [ha])).trans (if_pos hw)))

theorem cageRampEnd_of_active (ha : cable.active = true) (hw : cable.milliwatt ≤ 16000) :
    exec (.cageRampEnd c mv ma limiting cable) s = .next (rampedOn s c mv ma cable) :=
  (cageRampEnd_of_good h hv hl).trans (congrArg Host.Outcome.next ((if_neg (by simp [ha])).trans (if_neg (Nat.not_lt.2 hw))))

end

end

/-! ### Supply failures and retries (R262) -/

/-- The third supply failure latches the cage; an earlier one leads to a retry. -/
theorem supplyFailure_spec (overload : Bool) (h : (s.cage c).pow ≠ .on) :
    (2 ≤ (s.cage c).fails → ((s.supplyFailure c overload).cage c).pow = .latched
      ∧ ((s.supplyFailure c overload).cage c).fails = 3)
    ∧ ((s.cage c).fails < 2 → ((s.supplyFailure c overload).cage c).pow = .discharge
      ∧ ((s.supplyFailure c overload).cage c).next = .retryWait
      ∧ ((s.supplyFailure c overload).cage c).fails = (s.cage c).fails + 1) := by
  simp only [State.supplyFailure, if_neg h]
  refine ⟨fun hf => ?_, fun hf => ?_⟩
  · rw [if_pos (by omega), cage_ledger, cage_svcEvt, cage_setCage]
    exact ⟨rfl, rfl⟩
  · rw [if_neg (by omega), cage_setCage]
    exact ⟨rfl, rfl, rfl⟩

theorem cageCurrentLimit_of_fed (h : (s.cage c).pow = .ramp ∨ (s.cage c).pow = .on) :
    exec (.cageCurrentLimit c) s = .next (s.supplyFailure c false) :=
  congrArg Host.Outcome.next (if_pos h)

theorem cageOverload_of_on (h : (s.cage c).pow = .on) : exec (.cageOverload c) s = .next (s.supplyFailure c true) :=
  congrArg Host.Outcome.next (if_pos h)

theorem failsClear_of_on (h : (s.cage c).pow = .on) :
    exec (.failsClear c) s = .next (s.modCage c fun k => { k with fails := 0 }) :=
  congrArg Host.Outcome.next (if_pos h)

theorem cmisFlagRead_of_on {flags : W32} (h : (s.cage c).pow = .on) (hf : flags.toNat ≠ 0) :
    exec (.cmisFlagRead c flags) s = .next (s.ledger 0x0304 (srcOf3 4 5 c) c 0 flags.toNat) :=
  congrArg Host.Outcome.next (if_pos ⟨h, hf⟩)

theorem suppliedOnly_of_not_on (flags : W32) (h : (s.cage c).pow ≠ .on) :
    ∀ i ∈ [Instr.cageOverload c, .failsClear c, .cmisFlagRead c flags], exec i s = .next s := by
  simp only [List.forall_mem_cons]
  exact ⟨congrArg Host.Outcome.next (if_neg h), congrArg Host.Outcome.next (if_neg h),
    congrArg Host.Outcome.next (if_neg fun hg => h hg.1), nofun⟩

theorem cageDischargeEnd_of_plain (h : (s.cage c).pow = .discharge) (hs : (s.cage c).toSafe = false) :
    exec (.cageDischargeEnd c) s = .next (s.setCage c { s.cage c with pow := (s.cage c).next, next := .off }) :=
  congrArg Host.Outcome.next ((if_neg (· h)).trans (if_neg (by simp [hs])))

theorem cageDischargeEnd_of_toSafe (h : (s.cage c).pow = .discharge) (hs : (s.cage c).toSafe = true) :
    exec (.cageDischargeEnd c) s =
      .next ((s.setCage c { s.cage c with pow := (s.cage c).next, next := .off }).attnSafe c) :=
  congrArg Host.Outcome.next ((if_neg (· h)).trans (if_pos hs))

theorem retryWaitEnd_of_retryWait (h : (s.cage c).pow = .retryWait) :
    exec (.retryWaitEnd c) s = .next (s.modCage c fun k => { k with pow := .ramp }) :=
  congrArg Host.Outcome.next (if_pos h)

theorem retryWaitEnd_of_not (h : (s.cage c).pow ≠ .retryWait) : exec (.retryWaitEnd c) s = .next s :=
  congrArg Host.Outcome.next (if_neg h)

theorem latchClr_of_latched (h : (s.cage c).pow = .latched) :
    exec (.latchClr c) s = .next ((s.modCage c fun k => { k with fails := 0 }).powerRestart c) :=
  congrArg Host.Outcome.next (if_pos h)

theorem latchClr_of_not (h : (s.cage c).pow ≠ .latched) : exec (.latchClr c) s = .next s :=
  congrArg Host.Outcome.next (if_neg h)

/-! ### POWER_EN (R264) -/

theorem powerEn_of_off (h : (s.cage c).pow = .off) (ha : (s.cage c).attn ≠ .safe) :
    exec (.powerEn c true) s = .next ((s.setBits (kCageCtrl c) 1).powerRestart c) :=
  congrArg Host.Outcome.next ((if_pos rfl).trans (if_pos ⟨h, ha⟩))

theorem powerEn_of_restarts (h : Restarts (s.cage c) (s.cage c).present) :
    exec (.powerEn c true) s = .next ((s.setBits (kCageCtrl c) 1).modCage c fun k => { k with next := .debounce }) :=
  congrArg Host.Outcome.next ((if_pos rfl).trans ((if_neg (by simp [h.1])).trans (if_pos (restarts_iff.1 h))))

theorem powerEn_of_neither (h : (s.cage c).pow ≠ .off ∨ (s.cage c).attn = .safe)
    (h' : ¬ Restarts (s.cage c) (s.cage c).present) : exec (.powerEn c true) s = .next (s.setBits (kCageCtrl c) 1) :=
  congrArg Host.Outcome.next ((if_pos rfl).trans
    ((if_neg fun ⟨hpow, ha⟩ => h.elim (· hpow) ha).trans (if_neg (mt restarts_iff.2 h'))))

/-- POWER_EN at 0, with the links of the cage DISABLED. -/
def powerCleared (s : State) (c : Nat) : State := (s.clearBits (kCageCtrl c) 1).linksDown 3 (cageLinks c)

theorem exec_powerEn (on : Bool) : exec (.powerEn c on) s = execPowerEn c on s := rfl

theorem powerEn_off_of_fed (h : (s.cage c).pow = .ramp ∨ (s.cage c).pow = .on) :
    exec (.powerEn c false) s = .next ((powerCleared s c).modCage c fun k => k.switchOff .off) := by
  rcases h with h | h <;>
  · simp only [exec_powerEn, execPowerEn, h, Bool.false_eq_true, if_false]
    rfl

theorem powerEn_off_of_waiting (h : (s.cage c).pow = .debounce ∨ (s.cage c).pow = .retryWait) :
    exec (.powerEn c false) s = .next ((powerCleared s c).modCage c fun k => { k with pow := .off }) := by
  rcases h with h | h <;>
  · simp only [exec_powerEn, execPowerEn, h, Bool.false_eq_true, if_false]
    rfl

theorem powerEn_off_of_discharge (h : (s.cage c).pow = .discharge) :
    exec (.powerEn c false) s = .next ((powerCleared s c).modCage c fun k => { k with next := .off }) := by
  simp only [exec_powerEn, execPowerEn, h, Bool.false_eq_true, if_false]
  rfl

theorem powerEn_off_of_unfed (h : (s.cage c).pow = .off ∨ (s.cage c).pow = .latched) :
    exec (.powerEn c false) s = .next (powerCleared s c) := by
  rcases h with h | h <;>
  · simp only [exec_powerEn, execPowerEn, h, Bool.false_eq_true, if_false]
    rfl

/-! ### CMIS (R260) -/

/-- An active cable that is out of low power and whose data path is not yet up. -/
def Starting (k : Cage) : Prop := k.pow = .on ∧ k.active = true ∧ (!k.low) = true ∧ (!k.ready) = true

theorem cmisReadyTimeout_of_starting (h : Starting (s.cage c)) : exec (.cmisReadyTimeout c) s = .next (s.cmisFault c) :=
  congrArg Host.Outcome.next (if_pos h)

theorem cmisReady_without_application (h : Starting (s.cage c)) : exec (.cmisReady c false) s = .next (s.cmisFault c) :=
  congrArg Host.Outcome.next ((if_pos h).trans (if_neg Bool.false_ne_true))

theorem cmisReady_with_application (h : Starting (s.cage c)) :
    exec (.cmisReady c true) s = .next ((s.setCage c { s.cage c with ready := true }).linksUp (cageLinks c)) :=
  congrArg Host.Outcome.next ((if_pos h).trans (if_pos rfl))

theorem not_starting_of_ready {k : Cage} (h : k.ready = true) : ¬ Starting k := fun ⟨_, _, _, hr⟩ => by simp [h] at hr

theorem cmisReadyTimeout_of_ready (h : (s.cage c).ready = true) : exec (.cmisReadyTimeout c) s = .next s :=
  congrArg Host.Outcome.next (if_neg (not_starting_of_ready h))

theorem cmisReady_of_ready (application : Bool) (h : (s.cage c).ready = true) : exec (.cmisReady c application) s = .next s :=
  congrArg Host.Outcome.next (if_neg (not_starting_of_ready h))

end

/-- Settles O33: each command in each state of the cage, by the lemma for that case. -/
theorem cageSupply : Obligations.CageSupply := by
  intro c mv ma limiting app cable flags s
  refine ⟨cagePresenceGained_of_startable, ⟨cagePresenceGained_of_neither, cagePresenceGained_of_restarts⟩,
    cagePresenceLost_of_absent, fun hp => ⟨cagePresenceLost_of_on hp, cagePresenceLost_of_ramp hp, cagePresenceLost_of_failed hp,
      cagePresenceLost_of_discharge hp, cagePresenceLost_of_off hp⟩,
    cageRampEnd_of_not_ramp, fun hr => ⟨fun hv hl => ⟨cageRampEnd_of_passive hr hv hl, cageRampEnd_of_over_power hr hv hl,
      cageRampEnd_of_active hr hv hl⟩, cageRampEnd_of_failed hr,
      _, cageCurrentLimit_of_fed (.inl hr), supplyFailure_spec false (by simp [hr])⟩,
    fun hon => ⟨cageCurrentLimit_of_fed (.inr hon), cageOverload_of_on hon, failsClear_of_on hon, cmisFlagRead_of_on hon⟩,
    suppliedOnly_of_not_on flags, cageDischargeEnd_of_plain, cageDischargeEnd_of_toSafe,
    retryWaitEnd_of_retryWait, retryWaitEnd_of_not, latchClr_of_latched, latchClr_of_not,
    powerEn_of_off, ⟨powerEn_of_neither, powerEn_of_restarts⟩,
    ⟨powerEn_off_of_fed, powerEn_off_of_waiting, powerEn_off_of_discharge, powerEn_off_of_unfed⟩,
    fun hon ha hl hr => ?_, fun hr => ⟨cmisReadyTimeout_of_ready hr, cmisReady_of_ready app hr⟩⟩
  have hst : Starting (s.cage c) := ⟨hon, ha, by simp [hl], by simp [hr]⟩
  exact ⟨cmisReadyTimeout_of_starting hst, cmisReady_without_application hst, cmisReady_with_application hst⟩

end Sys2Proof.Laws
end

section
/-! PROOFS. Routing banks and the FAB registers: what goes out over the links leaves the banks and the registers that choose them
(spec/11: R278, R298, R299, R304). -/
namespace Sys2Proof.Laws

open Machine

/-- The routing banks of `t` are those of `s`, and so is every register but the count of epoch holds. -/
structure SameRoutes (s t : State) : Prop where
  act : t.rteAct = s.rteAct
  stg : t.rteStg = s.rteStg
  reg : ∀ k, k ≠ bFAB + 0x128 → t.reg k = s.reg k

section

variable {s t u : State}

theorem sameRoutes_refl (s : State) : SameRoutes s s := ⟨rfl, rfl, fun _ _ => rfl⟩

theorem sameRoutes_comp (h' : SameRoutes t u) (h : SameRoutes s t) : SameRoutes s u :=
  ⟨h'.act.trans h.act, h'.stg.trans h.stg, fun k hk => (h'.reg k hk).trans (h.reg k hk)⟩

theorem sameRoutes_ite {c : Prop} [Decidable c] (ht : SameRoutes s t) (hu : SameRoutes s u) : SameRoutes s (if c then t else u) := by
  split
  · exact ht
  · exact hu

end

/-- What each step over one link keeps, the steps over a list of links keep. -/
theorem sameRoutes_each {g : State → List Nat → State} {f : State → Nat → State} (hf : ∀ s i, SameRoutes s (f s i))
    (hnil : ∀ s, g s [] = s) (hcons : ∀ s i is, g s (i :: is) = g (f s i) is) (s : State) (is : List Nat) :
    SameRoutes s (g s is) := by
  induction is generalizing s with
  | nil => exact (hnil s).symm ▸ sameRoutes_refl s
  | cons i is ih => exact (hcons s i is).symm ▸ sameRoutes_comp (ih _) (hf s i)

/-! ### What goes out over the links (R272, R276, R298, R299) -/

section

variable (s : State) (i : Nat)

theorem sameRoutes_setLnk (k : Link) : SameRoutes s (s.setLnk i k) := ⟨rfl, rfl, fun _ _ => rfl⟩

theorem sameRoutes_modLnk (f : Link → Link) : SameRoutes s (s.modLnk i f) := sameRoutes_setLnk s i _

theorem sameRoutes_freeRx (f : Flit) : SameRoutes s (s.freeRx f) := by
  unfold State.freeRx
  split
  · exact sameRoutes_modLnk ..
  · exact sameRoutes_refl s

theorem sameRoutes_freeRxs (fs : List LFlit) : SameRoutes s (s.freeRxs fs) := by
  induction fs generalizing s with
  | nil => exact sameRoutes_refl s
  | cons f fs ih => exact sameRoutes_comp (ih _) (sameRoutes_freeRx s f.flit)

theorem sameRoutes_sendBundle (k : Link) (fs : List LFlit) : SameRoutes s ((s.setLnk i k).sendBundle i fs) :=
  ⟨rfl, rfl, fun _ _ => rfl⟩

theorem sameRoutes_pumpLink (fuel : Nat) : SameRoutes s (s.pumpLink i fuel) := by
  induction fuel generalizing s with
  | zero => exact sameRoutes_refl s
  | succ n ih =>
    have hsent := sameRoutes_comp (sameRoutes_freeRxs _ ((s.lnk i).fill 8).2)
      (sameRoutes_sendBundle s i ((s.lnk i).fill 8).1 ((s.lnk i).fill 8).2)
    exact sameRoutes_ite (sameRoutes_ite (sameRoutes_refl s) (sameRoutes_comp (ih _) hsent)) (sameRoutes_refl s)

theorem sameRoutes_control (kind payload : Nat) (auth : Bool) : SameRoutes s (s.control i kind payload auth) :=
  sameRoutes_ite ⟨rfl, rfl, fun _ _ => rfl⟩ ⟨rfl, rfl, fun _ _ => rfl⟩

theorem sameRoutes_announce : SameRoutes s (s.announce i) :=
  sameRoutes_ite (sameRoutes_control ..) (sameRoutes_ite (sameRoutes_control ..) (sameRoutes_refl s))

theorem sameRoutes_requar : SameRoutes s (s.requar i) := sameRoutes_ite (sameRoutes_modLnk ..) (sameRoutes_refl s)

/-- A new epoch hold is counted; nothing else that epoch hold decides touches a register. -/
theorem sameRoutes_rehold : SameRoutes s (s.rehold i) := by
  refine sameRoutes_ite ?_ (sameRoutes_refl s)
  split
  · exact sameRoutes_refl s
  · exact sameRoutes_ite ⟨rfl, rfl, fun k hk => reg_bump_ne _ 1 hk⟩
      (sameRoutes_comp (sameRoutes_pumpLink ..) (sameRoutes_setLnk s i _))

end

section

variable (s : State) (is : List Nat)

theorem sameRoutes_announceOn : SameRoutes s (s.announceOn is) :=
  sameRoutes_each sameRoutes_announce (fun _ => rfl) (fun _ _ _ => rfl) s is

theorem sameRoutes_requarOn : SameRoutes s (s.requarOn is) :=
  sameRoutes_each sameRoutes_requar (fun _ => rfl) (fun _ _ _ => rfl) s is

theorem sameRoutes_reholdOn : SameRoutes s (s.reholdOn is) :=
  sameRoutes_each sameRoutes_rehold (fun _ => rfl) (fun _ _ _ => rfl) s is

theorem sameRoutes_tableWritten : SameRoutes s (s.tableWritten is) :=
  sameRoutes_each (fun s i => sameRoutes_ite (sameRoutes_modLnk s i _) (sameRoutes_refl s)) (fun _ => rfl) (fun _ _ _ => rfl) s is

end

/-! ### STAGE_READY and COMMIT (R298) -/

theorem bitAt_eq_testBit (v i : Nat) : bitAt v i = v.testBit i := Nat.testBit_eq_decide_div_mod_eq.symm

theorem bitAt_two_setBits (v : Nat) : bitAt (v ||| 4) 2 = true := by
  rw [bitAt_eq_testBit, Nat.testBit_or]
  exact Bool.or_true _

theorem bitAt_two_clearBits (v : Nat) : bitAt (v - (v &&& 4)) 2 = false := by
  have hhigh : (v &&& 4) / 4 = v / 4 % 2 := (Nat.and_div_two_pow (n := 2)).trans (Nat.and_one_is_mod _)
  have hlow : (v &&& 4) % 4 = 0 := (Nat.and_mod_two_pow (n := 2)).trans (Nat.and_zero _)
  rw [bitAt, decide_eq_false_iff_not]
  omega

section

variable (s : State)

theorem ready_setBits : bitAt ((s.setBits kRteCtrl 4).reg kRteCtrl) 2 = true := by
  rw [State.setBits, reg_setReg]
  exact bitAt_two_setBits _

theorem ready_clearBits : bitAt ((s.clearBits kRteCtrl 4).reg kRteCtrl) 2 = false := by
  rw [State.clearBits, reg_setReg]
  exact bitAt_two_clearBits _

/-- STAGE_READY as written (R298). -/
def readyWritten (on : Bool) : State := if on then s.setBits kRteCtrl 4 else s.clearBits kRteCtrl 4

theorem exec_stageReady (on : Bool) : exec (.stageReady on) s = .next ((readyWritten s on).announceOn allLinks) := rfl

theorem ready_readyWritten (on : Bool) : bitAt ((readyWritten s on).reg kRteCtrl) 2 = on := by
  cases on
  · exact ready_clearBits s
  · exact ready_setBits s

theorem readyWritten_banks (on : Bool) : (readyWritten s on).rteAct = s.rteAct ∧ (readyWritten s on).rteStg = s.rteStg := by
  cases on <;> exact ⟨rfl, rfl⟩

theorem stageReady_spec (on : Bool) : ∃ t, exec (.stageReady on) s = .next t ∧ bitAt (t.reg kRteCtrl) 2 = on
    ∧ t.rteAct = s.rteAct ∧ t.rteStg = s.rteStg := by
  have hsame := sameRoutes_announceOn (readyWritten s on) allLinks
  obtain ⟨hact, hstg⟩ := readyWritten_banks s on
  refine ⟨_, exec_stageReady s on, ?_, hsame.act.trans hact, hsame.stg.trans hstg⟩
  rw [hsame.reg kRteCtrl (by decide)]
  exact ready_readyWritten s on

/-- The banks swapped under the staged epoch, with STAGE_READY cleared and no link yet told (R298). -/
def banksSwapped : State :=
  ({ s with rteAct := s.rteStg, rteStg := s.rteAct }.setReg kRteEpoch (s.reg kRteStaged)).clearBits kRteCtrl 4

theorem activateRoutes_sameRoutes : SameRoutes (banksSwapped s) s.activateRoutes :=
  sameRoutes_comp (sameRoutes_reholdOn ..) (sameRoutes_comp (sameRoutes_requarOn ..)
    (sameRoutes_comp (sameRoutes_announceOn ..) (sameRoutes_tableWritten ..)))

theorem banksSwapped_epoch : (banksSwapped s).reg kRteEpoch = s.reg kRteStaged := by
  rw [banksSwapped, State.clearBits, reg_setReg_ne _ _ (by decide), reg_setReg]

theorem activateRoutes_spec : s.activateRoutes.rteAct = s.rteStg ∧ s.activateRoutes.rteStg = s.rteAct
    ∧ s.activateRoutes.reg kRteEpoch = s.reg kRteStaged ∧ bitAt (s.activateRoutes.reg kRteCtrl) 2 = false := by
  have hsame := activateRoutes_sameRoutes s
  refine ⟨hsame.act, hsame.stg, (hsame.reg _ (by decide)).trans (banksSwapped_epoch s), ?_⟩
  rw [hsame.reg _ (by decide)]
  exact ready_clearBits _

end

section

variable {s : State}

theorem commit_of_ready (h : bitAt (s.reg kRteCtrl) 2 = true) : exec .commit s = .next s.activateRoutes :=
  congrArg Host.Outcome.next (if_pos h)

theorem commit_of_not_ready (h : bitAt (s.reg kRteCtrl) 2 = false) : exec .commit s = .next s :=
  congrArg Host.Outcome.next (if_neg (by simp [h]))

end

/-! ### FAB_ID and the counters (R304) -/

section

variable (v : W32) {s : State}

theorem any_allLinks_iff {p : Nat → Bool} : allLinks.any p = true ↔ ∃ i < 96, p i = true := by
  simp [allLinks, List.any_eq_true]

theorem fabId_of_carrying (h : ∃ i < 96, (s.lnk i).carries = true) : exec (.fabId v) s = .next s :=
  congrArg Host.Outcome.next (if_pos (any_allLinks_iff.2 h))

theorem fabId_of_quiet (h : ∀ i < 96, (s.lnk i).carries = false) : exec (.fabId v) s = .next (s.setReg bFAB (v.toNat % 16384)) := by
  refine congrArg Host.Outcome.next (if_neg fun hany => ?_)
  obtain ⟨i, hi, hcarries⟩ := any_allLinks_iff.1 hany
  simp [h i hi] at hcarries

end

theorem zeroRegs_rest (s : State) (k n : Nat) : s.zeroRegs k n = { s with regs := (s.zeroRegs k n).regs } := by
  induction n generalizing s k with
  | zero => rfl
  | succ n ih => exact ih (s.setReg k 0) (k + 4)

theorem reg_zeroRegs_ne (s : State) {j k n : Nat} (h : ∀ m < n, j ≠ k + 4 * m) : (s.zeroRegs k n).reg j = s.reg j := by
  induction n generalizing s k with
  | zero => rfl
  | succ n ih =>
    have hrest : ∀ m < n, j ≠ k + 4 + 4 * m := fun m hm e => h (m + 1) (by omega) (by omega)
    exact (ih (s.setReg k 0) hrest).trans (reg_setReg_ne s 0 (h 0 (by omega)))

theorem reg_zeroRegs (s : State) {k m n : Nat} (h : m < n) : (s.zeroRegs k n).reg (k + 4 * m) = 0 := by
  induction n generalizing s k m with
  | zero => exact absurd h m.not_lt_zero
  | succ n ih =>
    cases m with
    | zero => exact (reg_zeroRegs_ne (s.setReg k 0) fun m _ => by omega).trans (reg_setReg s k 0)
    | succ m =>
      rw [show k + 4 * (m + 1) = k + 4 + 4 * m by omega]
      exact ih (s.setReg k 0) (Nat.lt_of_succ_lt_succ h)

section

variable {v : W32} {s : State}

theorem fabCntClear_of_set (h : bitAt v.toNat 0 = true) : exec (.fabCntClear v) s = .next (s.zeroRegs (bFAB + 0x100) 11) :=
  congrArg Host.Outcome.next (if_pos h)

theorem fabCntClear_of_not (h : bitAt v.toNat 0 = false) : exec (.fabCntClear v) s = .next s :=
  congrArg Host.Outcome.next (if_neg (by simp [h]))

end

/-- Settles O38, command by command; a commit by what the announcements after it leave as it was. -/
theorem routingBanks : Obligations.RoutingBanks := by
  intro v s
  exact ⟨fun h => ⟨_, commit_of_ready h, activateRoutes_spec s⟩, commit_of_not_ready,
    exec_stageReady s true, exec_stageReady s false, stageReady_spec s, fabId_of_carrying v, fabId_of_quiet v,
    fun h => ⟨_, fabCntClear_of_set h, fun _ hn => reg_zeroRegs s hn, zeroRegs_rest .., fun _ hk => reg_zeroRegs_ne s hk⟩,
    fabCntClear_of_not⟩

end Sys2Proof.Laws
end

section
/-! PROOFS. The stream on a link: what a bundle, each flit of it and each control word does, case by case (spec/11: R271 to R285,
R287, R290, R296, R298, R299; spec/17: R472, R474). Log 25 is the model's choice where these are silent: a flit without a free
receive slot is not accepted, a GOP flit for another module is malformed, the ACK of a SIG has TOTAL 0, the MAC of a control word
covers the rest of the word, and a bundle leaves at once with what the link can send. -/
namespace Sys2Proof.Laws

open Machine

/-! ### Flits accepted (R272, R281, R283) -/

/-- The receive slot that a flit asks for on link `i`. -/
def slotOn (i : Nat) (x : LFlit) : Slot := ⟨i, x.pool, x.flit.vc⟩

/-- A flit with the receive slot that it holds. -/
def inSlot (i : Nat) (x : LFlit) : Flit := { x.flit with slot := some (slotOn i x) }

/-- A flit in order taken into its slot, with the next LSEQ expected and an acknowledgement due. -/
def slotTaken (s : State) (i : Nat) (x : LFlit) : State :=
  s.setLnk i { (s.lnk i).takeSlot (slotOn i x) with rxLseq := ((s.lnk i).rxLseq + 1) % 65536, ackDue := true }

section

variable {s : State} {i : Nat} {x : LFlit} {xs : List LFlit}

theorem acceptFlits_of_refused (h : x.lseq ≠ (s.lnk i).rxLseq ∨ x.flit.kind = 0 ∨ (s.lnk i).hasSlot (slotOn i x) = false) :
    s.acceptFlits i (x :: xs) = s.acceptFlits i xs := by
  refine if_pos ?_
  rcases h with hl | hk | hs
  · exact .inr (.inl hl)
  · exact .inl hk
  · exact .inr (.inr (congrArg (!·) hs))

theorem acceptFlits_of_accepted (hl : x.lseq = (s.lnk i).rxLseq) (hk : x.flit.kind ≠ 0)
    (hs : (s.lnk i).hasSlot (slotOn i x) = true) : s.acceptFlits i (x :: xs) = ((slotTaken s i x).forward (inSlot i x)).acceptFlits i xs := by
  refine if_neg ?_
  rintro (hk' | hl' | hs')
  · exact hk hk'
  · exact hl' hl
  · exact Bool.false_ne_true ((congrArg (!·) hs).symm.trans hs')

end

/-! ### An accepted flit (R275, R280, R287, R296) -/

section

variable {s : State} {f : Flit}

theorem forward_of_malformed (h : f.malformed = true) : s.forward f = (s.freeRx f).dropFlit 0x11C := if_pos h

theorem forward_of_formed (h : f.malformed = false) : s.forward f =
    if f.dst = s.reg bFAB then (if f.check = f.crc then s.deliver f else (s.freeRx f).dropFlit 0x118)
    else if f.kind = 0x20 then (s.freeRx f).dropFlit 0x11C
    else if f.hops ≥ 2 then (s.freeRx f).dropFlit 0x10C
    else s.route { f with hops := f.hops + 1 } := if_neg (by simp [h])

variable (h : f.malformed = false)
include h

theorem forward_here (hd : f.dst = s.reg bFAB) (hc : f.check = f.crc) : s.forward f = s.deliver f := by
  rw [forward_of_formed h, if_pos hd, if_pos hc]

theorem forward_here_of_bad_check (hd : f.dst = s.reg bFAB) (hc : f.check ≠ f.crc) : s.forward f = (s.freeRx f).dropFlit 0x118 := by
  rw [forward_of_formed h, if_pos hd, if_neg hc]

theorem forward_gop_away (hd : f.dst ≠ s.reg bFAB) (hk : f.kind = 0x20) : s.forward f = (s.freeRx f).dropFlit 0x11C := by
  rw [forward_of_formed h, if_neg hd, if_pos hk]

theorem forward_too_far (hd : f.dst ≠ s.reg bFAB) (hk : f.kind ≠ 0x20) (hh : 2 ≤ f.hops) :
    s.forward f = (s.freeRx f).dropFlit 0x10C := by
  rw [forward_of_formed h, if_neg hd, if_neg hk, if_pos hh]

theorem forward_onward (hd : f.dst ≠ s.reg bFAB) (hk : f.kind ≠ 0x20) (hh : f.hops < 2) :
    s.forward f = s.route { f with hops := f.hops + 1 } := by
  rw [forward_of_formed h, if_neg hd, if_neg hk, if_neg (Nat.not_le.2 hh)]

end

/-! ### Bundles (R271, R273, R284, R472, R474) -/

section

variable {l : Link} {body tag p : List Byte}

theorem unseal_of_current (h : openBundle l.rxKey l.rxEpoch l.rxCtr body tag = some p) :
    l.unseal body tag = (.current, flitsOf 8 p) := by
  simp only [Link.unseal, h]

theorem unseal_without_pending (hp : l.pending = none) (h : openBundle l.rxKey l.rxEpoch l.rxCtr body tag = none) :
    l.unseal body tag = (.fails, []) := by
  simp only [Link.unseal, h, hp]

theorem unseal_of_pendingKey {k : Nat × Nat} (hp : l.pending = some k) (h : openBundle l.rxKey l.rxEpoch l.rxCtr body tag = none)
    (hk : openBundle k.1 k.2 0 body tag = some p) : l.unseal body tag = (.pendingKey, flitsOf 8 p) := by
  simp only [Link.unseal, h, hp, hk]

theorem unseal_under_neither {k : Nat × Nat} (hp : l.pending = some k) (h : openBundle l.rxKey l.rxEpoch l.rxCtr body tag = none)
    (hk : openBundle k.1 k.2 0 body tag = none) : l.unseal body tag = (.fails, []) := by
  simp only [Link.unseal, h, hp, hk]

/-- A link that takes over its pending key expects the bundle after counter 0, at the place it had reached. -/
theorem takePending_verified {k : Nat × Nat} (hp : l.pending = some k) :
    l.takePending.verified = { l.takePending with rxCtr := 1, tagFails := 0, rxPos := (l.rxPos + 16) % 32 } := by
  simp only [Link.verified, Link.takePending, hp]

end

/-- A bundle whose tag fails: a replay is asked for, and the third in a row raises the alarm (R284, R474). -/
def tagFailed (s : State) (i : Nat) : State :=
  let bad := s.setLnk i { s.lnk i with tagFails := (s.lnk i).tagFails + 1 }
  if (s.lnk i).tagFails < 2 then bad.askReplay i else bad.linkAlarm i

/-- What a received bundle leads to, by the key under which it verifies. -/
def bundleUnder (s : State) (i : Nat) : Verify × List LFlit → State
  | (.fails, _) => tagFailed s i
  | (.current, fs) => (s.setLnk i (s.lnk i).verified).acceptFlits i fs
  | (.pendingKey, fs) => (s.setLnk i (s.lnk i).takePending.verified).acceptFlits i fs

theorem not_quarantine_of_carries {l : Link} (h : l.carries = true) : l.st ≠ .quarantine :=
  fun hq => by simp [Link.carries, hq] at h

section

variable {i : LinkId} {c : Fin 256} {tag : BitVec 128} {body p : List Byte} {s : State}

theorem bundle_in_quarantine (h : (s.lnk i).st = .quarantine) :
    exec (.bundle i tag c body) s = .next ((s.bump (kLnkFecCorr i) c).ledger 0x0301 (srcOf3 4 4 i) i 0 0) :=
  congrArg Host.Outcome.next (if_pos h)

theorem bundle_not_received (h : ¬ (s.lnk i).carries = true ∨ (s.lnk i).replayWait = true) (hq : (s.lnk i).st ≠ .quarantine) :
    exec (.bundle i tag c body) s = .next (s.bump (kLnkFecCorr i) c) := by
  refine congrArg Host.Outcome.next ((if_neg hq).trans (if_pos ?_))
  exact h.imp_left fun hc => congrArg (!·) (eq_false_of_ne_true hc)

variable (hc : (s.lnk i).carries = true) (hw : (s.lnk i).replayWait = false)
include hc hw

theorem bundle_received : exec (.bundle i tag c body) s =
    .next (bundleUnder (s.bump (kLnkFecCorr i) c) i ((s.lnk i).unseal body (toBytes 16 tag.toNat))) := by
  have hin : ¬ ((!(s.lnk i).carries) = true ∨ (s.lnk i).replayWait = true) := by simp [hc, hw]
  refine congrArg Host.Outcome.next ((if_neg (not_quarantine_of_carries hc)).trans ((if_neg hin).trans ?_))
  rw [show (s.bump (kLnkFecCorr i) c).lnk i = s.lnk i from rfl]
  obtain ⟨v, fs⟩ := (s.lnk i).unseal body (toBytes 16 tag.toNat)
  cases v with
  | current => rfl
  | pendingKey => rfl
  | fails =>
    by_cases hlow : (s.lnk i).tagFails < 2
    · exact (if_neg (Nat.not_le.2 (Nat.succ_lt_succ hlow))).trans (if_pos hlow).symm
    · exact (if_pos (Nat.succ_le_succ (Nat.not_lt.1 hlow))).trans (if_neg hlow).symm

theorem bundle_under_current (h : openBundle (s.lnk i).rxKey (s.lnk i).rxEpoch (s.lnk i).rxCtr body (toBytes 16 tag.toNat) = some p) :
    exec (.bundle i tag c body) s =
      .next (((s.bump (kLnkFecCorr i) c).setLnk i (s.lnk i).verified).acceptFlits i (flitsOf 8 p)) := by
  rw [bundle_received hc hw, unseal_of_current h]
  rfl

section

variable {k : Nat × Nat} (h : openBundle (s.lnk i).rxKey (s.lnk i).rxEpoch (s.lnk i).rxCtr body (toBytes 16 tag.toNat) = none)
include h

theorem bundle_unopened_without_pending (hp : (s.lnk i).pending = none) :
    exec (.bundle i tag c body) s = .next (tagFailed (s.bump (kLnkFecCorr i) c) i) := by
  rw [bundle_received hc hw, unseal_without_pending hp h]
  rfl

theorem bundle_unopened_under_neither (hp : (s.lnk i).pending = some k)
    (hk : openBundle k.1 k.2 0 body (toBytes 16 tag.toNat) = none) :
    exec (.bundle i tag c body) s = .next (tagFailed (s.bump (kLnkFecCorr i) c) i) := by
  rw [bundle_received hc hw, unseal_under_neither hp h hk]
  rfl

/-- A bundle that opens under the pending key alone moves the receive side to that key (R472). -/
theorem bundle_under_pendingKey (hp : (s.lnk i).pending = some k)
    (hk : openBundle k.1 k.2 0 body (toBytes 16 tag.toNat) = some p) : exec (.bundle i tag c body) s =
      .next (((s.bump (kLnkFecCorr i) c).setLnk i { (s.lnk i).takePending with
        rxCtr := 1, tagFails := 0, rxPos := ((s.lnk i).rxPos + 16) % 32 }).acceptFlits i (flitsOf 8 p)) := by
  rw [bundle_received hc hw, unseal_of_pendingKey hp h hk, ← takePending_verified hp]
  rfl

end

end

section

variable {i : LinkId} {s : State}

theorem uncorrectable_of_carries (h : (s.lnk i).carries = true) :
    exec (.uncorrectableFecCodeword i) s = .next ((s.bump (kLnkFecUnc i) 1).askReplay i) := congrArg Host.Outcome.next (if_pos h)

theorem uncorrectable_of_not (h : ¬ (s.lnk i).carries = true) :
    exec (.uncorrectableFecCodeword i) s = .next (s.bump (kLnkFecUnc i) 1) := congrArg Host.Outcome.next (if_neg h)

end

/-! ### Control words received (R276, R277, R281, R283 to R285, R298, R299) -/

theorem modLnk_twice (s : State) (i : Nat) (f g : Link → Link) : (s.modLnk i f).modLnk i g = s.modLnk i fun l => g (f l) := by
  simp [State.modLnk]

/-- A control word that verifies under a link's receive key, with a counter above the last (R277). -/
def WordFresh (l : Link) (kind payload : Nat) (cctr : Fin (2 ^ 48)) (mac : W64) : Prop :=
  mac.toNat = wordMac l.rxKey l.rxEpoch kind payload cctr ∧ l.rxCctr < cctr.val

/-- A control word that does not verify, or whose counter is not above the last. -/
def WordStale (l : Link) (kind payload : Nat) (cctr : Fin (2 ^ 48)) (mac : W64) : Prop :=
  l.verify kind payload cctr mac.toNat = .fails ∨ (mac.toNat = wordMac l.rxKey l.rxEpoch kind payload cctr ∧ cctr.val ≤ l.rxCctr)

/-- A word's counter kept as the last one's. -/
def wordTaken (s : State) (i : Nat) (cctr : Fin (2 ^ 48)) : State := s.modLnk i fun k => { k with rxCctr := cctr }

/-- A partner's epoch activates the staged bank: STAGE_READY and FOLLOW are set, it is the staged epoch, and the link is ACTIVE
(R298). -/
def Follows (s : State) (i : Nat) (active : W32) : Prop :=
  bitAt (s.reg kRteCtrl) 2 = true ∧ bitAt (s.reg kRteCtrl) 1 = true ∧ active.toNat = s.reg kRteStaged ∧ (s.lnk i).st = .active

/-- The partner's active epoch kept, from a word on the stream. -/
def epochHeard (s : State) (i : Nat) (active : W32) (cctr : Fin (2 ^ 48)) : State :=
  s.modLnk i fun k => { k with rxCctr := cctr, pEpoch := some active.toNat }

section

variable {i : LinkId} {p : BitVec 128} {next first : Fin 65536} {active staged : W32} {ready : Bool} {ctr cctr : Fin (2 ^ 48)}
  {mac : W64} {s : State}

/-! Off the stream, where only QUARANTINE listens, and only to an EPOCH word with its CRC. -/

theorem creditAck_off_stream (h : (s.lnk i).carries = false) : exec (.creditAck i p cctr mac) s = .next s :=
  congrArg Host.Outcome.next (onWord_of_not_carries h)

theorem replayReq_off_stream (h : (s.lnk i).carries = false) : exec (.replayReq i next cctr mac) s = .next s :=
  congrArg Host.Outcome.next (onWord_of_not_carries h)

theorem replayStart_off_stream (h : (s.lnk i).carries = false) : exec (.replayStart i first ctr cctr mac) s = .next s :=
  congrArg Host.Outcome.next (onWord_of_not_carries h)

theorem epoch_off_stream (h : (s.lnk i).carries = false) (hq : (s.lnk i).st ≠ .quarantine) :
    exec (.epoch i active staged ready cctr mac) s = .next s :=
  congrArg Host.Outcome.next ((if_neg hq).trans (onWord_of_not_carries h))

theorem epoch_in_quarantine (hq : (s.lnk i).st = .quarantine)
    (h : mac.toNat = wordCrc 2 (epochPayload active.toNat staged.toNat ready)) : exec (.epoch i active staged ready cctr mac) s =
      .next ((s.modLnk i fun k => { k with pEpoch := some active.toNat }).requar i) :=
  congrArg Host.Outcome.next ((if_pos hq).trans (if_pos h))

theorem epoch_in_quarantine_of_bad_crc (hq : (s.lnk i).st = .quarantine)
    (h : mac.toNat ≠ wordCrc 2 (epochPayload active.toNat staged.toNat ready)) :
    exec (.epoch i active staged ready cctr mac) s = .next s :=
  congrArg Host.Outcome.next ((if_pos hq).trans (if_neg h))

/-! On the stream, a word that does not verify or is not newer than the last (R277). -/

variable (hc : (s.lnk i).carries = true)
include hc

theorem epoch_on_stream : exec (.epoch i active staged ready cctr mac) s =
    .next (s.onWord i 2 (epochPayload active.toNat staged.toNat ready) cctr mac.toNat fun s1 =>
      let s2 := s1.modLnk i fun l => { l with pEpoch := some active.toNat }
      let c := s2.reg kRteCtrl
      if bitAt c 2 ∧ bitAt c 1 ∧ active.toNat = s2.reg kRteStaged ∧ (s2.lnk i).st = .active then s2.activateRoutes else s2.rehold i) :=
  congrArg Host.Outcome.next (if_neg (not_quarantine_of_carries hc))

theorem creditAck_of_stale (h : WordStale (s.lnk i) 3 p.toNat cctr mac) :
    exec (.creditAck i p cctr mac) s = .next (s.bump (bFAB + 0x120) 1) :=
  congrArg Host.Outcome.next (onWord_of_discarded hc h)

theorem replayReq_of_stale (h : WordStale (s.lnk i) 4 (next * 2 ^ 112) cctr mac) :
    exec (.replayReq i next cctr mac) s = .next (s.bump (bFAB + 0x120) 1) :=
  congrArg Host.Outcome.next (onWord_of_discarded hc h)

theorem replayStart_of_stale (h : WordStale (s.lnk i) 5 (first * 2 ^ 112 + ctr * 2 ^ 64) cctr mac) :
    exec (.replayStart i first ctr cctr mac) s = .next (s.bump (bFAB + 0x120) 1) :=
  congrArg Host.Outcome.next (onWord_of_discarded hc h)

theorem epoch_of_stale (h : WordStale (s.lnk i) 2 (epochPayload active.toNat staged.toNat ready) cctr mac) :
    exec (.epoch i active staged ready cctr mac) s = .next (s.bump (bFAB + 0x120) 1) :=
  (epoch_on_stream hc).trans (congrArg Host.Outcome.next (onWord_of_discarded hc h))

/-! On the stream, a fresh word. -/

theorem creditAck_of_fresh (hf : WordFresh (s.lnk i) 3 p.toNat cctr mac) : exec (.creditAck i p cctr mac) s =
    .next (((wordTaken s i cctr).modLnk i fun k => k.takeCredits p.toNat).pump i) :=
  congrArg Host.Outcome.next (onWord_of_fresh hc hf)

theorem replayReq_of_held (hf : WordFresh (s.lnk i) 4 (next * 2 ^ 112) cctr mac)
    (h : next.val = (s.lnk i).txLseq ∨ (s.lnk i).replay.any (fun x => x.lseq == next.val) = true) :
    exec (.replayReq i next cctr mac) s = .next (let again := (s.lnk i).replay.dropWhile fun x => x.lseq != next.val
      (((wordTaken s i cctr).control i 5 (next * 2 ^ 112 + (s.lnk i).txCtr * 2 ^ 64) true).modLnk i fun k =>
        { k with txPos := 0 }).resend i again again.length) := by
  refine congrArg Host.Outcome.next ((onWord_of_fresh hc hf).trans ?_)
  simp only [lnk_modLnk]
  exact if_pos h

theorem replayReq_of_lost (hf : WordFresh (s.lnk i) 4 (next * 2 ^ 112) cctr mac) (hn : next.val ≠ (s.lnk i).txLseq)
    (h : (s.lnk i).replay.any (fun x => x.lseq == next.val) = false) :
    exec (.replayReq i next cctr mac) s = .next ((wordTaken s i cctr).linkAlarm i) := by
  refine congrArg Host.Outcome.next ((onWord_of_fresh hc hf).trans ?_)
  simp only [lnk_modLnk]
  exact if_neg (by simp only [hn, h, Bool.false_eq_true, or_self, not_false_eq_true])

theorem replayStart_of_ahead (hf : WordFresh (s.lnk i) 5 (first * 2 ^ 112 + ctr * 2 ^ 64) cctr mac)
    (h : (s.lnk i).rxCtr ≤ ctr.val) : exec (.replayStart i first ctr cctr mac) s =
      .next (s.setLnk i { s.lnk i with rxCctr := cctr, rxCtr := ctr, rxPos := 0, replayWait := false }) := by
  refine congrArg Host.Outcome.next ((onWord_of_fresh hc hf).trans ?_)
  simp only [lnk_modLnk, if_pos h]
  exact setLnk_twice ..

theorem replayStart_of_behind (hf : WordFresh (s.lnk i) 5 (first * 2 ^ 112 + ctr * 2 ^ 64) cctr mac)
    (h : ctr.val < (s.lnk i).rxCtr) : exec (.replayStart i first ctr cctr mac) s = .next (wordTaken s i cctr) := by
  refine congrArg Host.Outcome.next ((onWord_of_fresh hc hf).trans ?_)
  simp only [lnk_modLnk, if_neg (Nat.not_le.2 h)]
  rfl

theorem epoch_of_follows (hf : WordFresh (s.lnk i) 2 (epochPayload active.toNat staged.toNat ready) cctr mac)
    (h : Follows s i active) :
    exec (.epoch i active staged ready cctr mac) s = .next (epochHeard s i active cctr).activateRoutes := by
  refine (epoch_on_stream hc).trans (congrArg Host.Outcome.next ((onWord_of_fresh hc hf).trans ?_))
  simp only [modLnk_twice, lnk_modLnk]
  exact if_pos h

theorem epoch_of_not_follows (hf : WordFresh (s.lnk i) 2 (epochPayload active.toNat staged.toNat ready) cctr mac)
    (h : ¬ Follows s i active) :
    exec (.epoch i active staged ready cctr mac) s = .next ((epochHeard s i active cctr).rehold i) := by
  refine (epoch_on_stream hc).trans (congrArg Host.Outcome.next ((onWord_of_fresh hc hf).trans ?_))
  simp only [modLnk_twice, lnk_modLnk]
  exact if_neg h

end

/-! ### Words sent, and a flit that ages (R278, R281, R284, R290) -/

section

variable {i : LinkId} {s : State}

theorem creditAckSend_of_due (hc : (s.lnk i).carries = true) (h : (s.lnk i).ackDue = true) : exec (.creditAckSend i) s =
    .next ((s.control i 3 (s.lnk i).creditWord true).modLnk i fun k => { k with ackDue := false }) :=
  congrArg Host.Outcome.next (if_pos ⟨hc, h⟩)

theorem creditAckSend_of_not (h : ¬ (s.lnk i).carries = true ∨ (s.lnk i).ackDue = false) : exec (.creditAckSend i) s = .next s :=
  congrArg Host.Outcome.next (if_neg fun ⟨hc, hdue⟩ => h.elim (· hc) fun hno => by simp [hno] at hdue)

theorem replayReqRepeat_of_waiting (hc : (s.lnk i).carries = true) (h : (s.lnk i).replayWait = true) :
    exec (.replayReqRepeat i) s = .next (s.control i 4 ((s.lnk i).rxLseq * 2 ^ 112) true) :=
  congrArg Host.Outcome.next (if_pos ⟨hc, h⟩)

theorem replayReqRepeat_of_not (h : ¬ (s.lnk i).carries = true ∨ (s.lnk i).replayWait = false) :
    exec (.replayReqRepeat i) s = .next s :=
  congrArg Host.Outcome.next (if_neg fun ⟨hc, hwait⟩ => h.elim (· hc) fun hno => by simp [hno] at hwait)

/-- The payload that announces this module's epochs (R276). -/
def ownEpochs (s : State) : Nat := epochPayload (s.reg kRteEpoch) (s.reg kRteStaged) (bitAt (s.reg kRteCtrl) 2)

theorem epochSend_of_carries (h : (s.lnk i).carries = true) : exec (.epochSend i) s = .next (s.control i 2 (ownEpochs s) true) :=
  congrArg Host.Outcome.next (if_pos h)

theorem epochSend_in_quarantine (h : (s.lnk i).st = .quarantine) : exec (.epochSend i) s = .next (s.control i 2 (ownEpochs s) false) :=
  congrArg Host.Outcome.next ((if_neg fun hc => not_quarantine_of_carries hc h).trans (if_pos h))

theorem epochSend_of_neither (hc : ¬ (s.lnk i).carries = true) (hq : (s.lnk i).st ≠ .quarantine) : exec (.epochSend i) s = .next s :=
  congrArg Host.Outcome.next ((if_neg hc).trans (if_neg hq))

variable {n : Fin 65536}

theorem exec_flitAged : exec (.flitAged i n) s = execFlitAged i n s := rfl

theorem flitAged_of_queued {f : Flit} (h : (s.lnk i).queue[n.val]? = some f) : exec (.flitAged i n) s =
    .next (((s.setLnk i { s.lnk i with queue := (s.lnk i).queue.eraseIdx n }).freeRx f).dropFlit 0x110) := by
  simp only [exec_flitAged, execFlitAged, h]

theorem flitAged_beyond_queue (h : (s.lnk i).queue.length ≤ n.val) : exec (.flitAged i n) s = .next s := by
  simp only [exec_flitAged, execFlitAged, List.getElem?_eq_none h]

end

/-- Settles O37: each bundle, flit and word in each state of its link, by the lemma for that case. That a flit without a free receive
slot is not accepted and that a GOP flit for another module is malformed are the model's choices (log 25). -/
theorem linkStream : Obligations.LinkStream := by
  intro i c tag body x xs ready p active staged next first n ctr cctr mac s s0 l carries opens taken fresh stale ePay
  refine ⟨bundle_in_quarantine, bundle_not_received,
    fun hc hw => ⟨fun q => bundle_under_current hc hw, fun hp h => bundle_unopened_without_pending hc hw h hp,
      fun k hp => ?_⟩,
    ⟨acceptFlits_of_refused, fun hl hk hs => ?_⟩,
    uncorrectable_of_carries, uncorrectable_of_not, creditAck_of_fresh,
    fun hc hf => ⟨replayReq_of_held hc hf, replayReq_of_lost hc hf⟩,
    fun hc hf => ⟨replayStart_of_ahead hc hf, replayStart_of_behind hc hf⟩,
    fun hc hf => ⟨epoch_of_follows hc hf, epoch_of_not_follows hc hf⟩, ?_, ?_,
    fun hq => ⟨epoch_in_quarantine hq, epoch_in_quarantine_of_bad_crc hq⟩,
    fun hc => epoch_off_stream (eq_false_of_ne_true hc), rfl,
    creditAckSend_of_due, creditAckSend_of_not, ⟨epochSend_of_carries, epochSend_in_quarantine, epochSend_of_neither⟩,
    replayReqRepeat_of_waiting, replayReqRepeat_of_not, fun f => flitAged_of_queued, flitAged_beyond_queue⟩
  · split
    · next q _ hq => exact bundle_under_current hc hw hq
    · next q h hq => exact bundle_under_pendingKey hc hw h hp hq
    · next h hq => exact bundle_unopened_under_neither hc hw h hp hq
  · have accepted {t : State} (h : (slotTaken s i x).forward (inSlot i x) = t) : s.acceptFlits i (x :: xs) = t.acceptFlits i xs :=
      (acceptFlits_of_accepted hl hk hs).trans (congrArg (State.acceptFlits · i xs) h)
    exact ⟨fun hm => accepted (forward_of_malformed hm), fun hm => ⟨fun hd h => accepted (forward_here hm hd h),
      fun hd h => accepted (forward_here_of_bad_check hm hd h), fun hd h => accepted (forward_gop_away hm hd h),
      fun hd hk h => accepted (forward_too_far hm hd hk h), fun hd hk h => accepted (forward_onward hm hd hk h)⟩⟩
  · intro hc
    simp only [List.forall_mem_cons]
    exact ⟨creditAck_of_stale hc, replayReq_of_stale hc, replayStart_of_stale hc, epoch_of_stale hc, List.forall_mem_nil _⟩
  · intro hc
    have hoff := eq_false_of_ne_true hc
    simp only [List.forall_mem_cons]
    exact ⟨creditAck_off_stream hoff, replayReq_off_stream hoff, replayStart_off_stream hoff, List.forall_mem_nil _⟩

end Sys2Proof.Laws
end

section
/-! PROOFS. What the end of a host descriptor leaves as it was (spec/14: R385, R386, R411). -/
namespace Sys2Proof.Laws

open Machine

/-- `t` is `s` but for host memory, the descriptors with their completions and decrements, the registers, and the places that reports
go to. -/
def Completed (s t : State) : Prop :=
  t = { withReports s t with host := t.host, descs := t.descs, cqs := t.cqs, refOps := t.refOps }

section

variable {s t u : State}

theorem completed_trans (h : Completed s t) (h' : Completed t u) : Completed s u :=
  h'.trans (congrArg (fun x : State =>
    { withReports x u with host := u.host, descs := u.descs, cqs := u.cqs, refOps := u.refOps }) h :)

theorem completed_of_reported (h : Reported s t) : Completed s t := by
  rw [Completed, h.rest]
  rfl

theorem objs_of_completed (h : Completed s t) : t.objs = s.objs := by
  rw [h]
  rfl

theorem cores_of_completed (h : Completed s t) : t.cores = s.cores := by
  rw [h]
  rfl

end

section

variable (s : State)

theorem completed_refl : Completed s s := rfl
theorem completed_setCq (fn q : Nat) (k : Cq) : Completed s (s.setCq fn q k) := rfl
theorem completed_modDesc (i : Nat) (f : HostDesc → HostDesc) : Completed s (s.modDesc i f) := rfl

theorem completed_cqInterrupt (fn q : Nat) : Completed s (s.cqInterrupt fn q) :=
  completed_trans (completed_setCq s fn q _) (completed_of_reported (reported_msix ..))

/-- The record and the ring's indices, which the interrupt may follow. -/
theorem completed_cqPut (fn q : Nat) (c : CqRec) : Completed s (s.cqPut fn q c) := by
  have hrec (a : Nat) (bs : List Byte) (k : Cq) : Completed s ((s.hostWrite fn a bs).setCq fn q k) := rfl
  simp only [State.cqPut]
  split
  · exact completed_trans (hrec ..) (completed_cqInterrupt ..)
  · split
    · exact hrec ..
    · split
      · exact completed_trans (hrec ..) (completed_cqInterrupt ..)
      · exact hrec ..

theorem completed_cqOffer (fn q : Nat) (c : CqRec) : Completed s (s.cqOffer fn q c) := by
  simp only [State.cqOffer]
  split
  · exact completed_cqPut ..
  · split
    · split
      · exact completed_refl s
      · exact completed_setCq ..
    · exact completed_setCq ..

theorem completed_refOutcome (fn bit entry code : Nat) (sent : Bool) : Completed s (s.refOutcome fn bit entry code sent) := by
  have hcount (k m j : Nat) : Completed s ((s.setBits k m).bump j 1) := rfl
  simp only [State.refOutcome]
  split
  · exact completed_trans (completed_trans (hcount ..) (completed_of_reported (reported_ledger ..)))
      (completed_of_reported (reported_msix ..))
  · exact completed_trans (completed_trans (hcount ..) (completed_of_reported (reported_ledgerPart ..)))
      (completed_of_reported (reported_mbEvent ..))

theorem completed_sendRefs (d : HostDesc) (l : List Nat) : Completed s (s.sendRefs d l).1 := by
  induction l generalizing s with
  | nil => exact completed_refl s
  | cons e es ih =>
    simp only [State.sendRefs]
    split
    · exact completed_trans (completed_refOutcome ..) (ih _)
    · split
      · exact completed_trans (completed_refOutcome ..) (ih _)
      · refine completed_trans ?_ (ih _)
        exact rfl

theorem completed_finishDesc (d : HostDesc) (status result : Nat) : Completed s (s.finishDesc d status result) := by
  have hgone : Completed s { s with descs := s.descs.filter fun x => x.id != d.id } := rfl
  simp only [State.finishDesc]
  split
  · exact hgone
  · exact completed_trans hgone (completed_cqOffer ..)

theorem completed_complete (id status result : Nat) : Completed s (s.complete id status result) := by
  simp only [State.complete]
  split
  · exact completed_refl s
  · split
    · exact completed_refl s
    · next d _ _ _ =>
      have hsent := completed_sendRefs s d (if status = 5 then [] else d.refs)
      generalize s.sendRefs d (if status = 5 then [] else d.refs) = r at hsent ⊢
      split
      · exact completed_trans hsent (completed_finishDesc ..)
      · exact completed_trans hsent (completed_modDesc ..)

theorem completed_endRefused (fn r fuel : Nat) : Completed s (s.endRefused fn r fuel) := by
  induction fuel generalizing s with
  | zero => exact completed_refl s
  | succ n ih =>
    simp only [State.endRefused]
    split
    · exact completed_refl s
    · split
      · exact completed_refl s
      · exact completed_trans (completed_complete ..) (ih _)

theorem completed_endDesc (id status result : Nat) : Completed s (s.endDesc id status result) := by
  simp only [State.endDesc]
  split
  · exact completed_refl s
  · exact completed_trans (completed_complete ..) (completed_endRefused ..)

end

end Sys2Proof.Laws
end

section
/-! PROOFS. Synchronisation objects: the operations at their home, and the debugger's (spec/12: R307 to R311, R318, R319). -/
namespace Sys2Proof.Laws

open Machine

/-! ### The firing of an object (R309) -/

/-- COUNT has reached THRESHOLD and the list holds enough waiters (R309). -/
def CanFire (o : SyncObj) : Prop := o.target % 2 ^ 24 ≤ o.count ∧ Nat.max (o.target / 2 ^ 24) 1 ≤ o.waiters.length

theorem fires_iff {o : SyncObj} (hf : o.fault = 0) : o.fires = true ↔ CanFire o := by
  simp [SyncObj.fires, CanFire, hf]

section

variable (s : State)

theorem objs_release (l : List Waiter) : (s.release l).objs = s.objs := by
  induction l generalizing s with
  | nil => rfl
  | cons x l ih =>
    cases x with
    | core d w => exact ih _
    | host id => exact (ih _).trans (objs_of_completed (completed_endDesc ..))

theorem core_endDesc (id status result d : Nat) : (s.endDesc id status result).core d = s.core d := by
  rw [State.core, cores_of_completed (completed_endDesc ..), State.core]

/-- The core `k` with its JOIN released and wake wire `w` raised (R312). -/
def joinReleased (w : Nat) (k : Core) : Core := { k with released := true, wires := k.wires ||| 2 ^ w }

theorem release_cons_core (c w : Nat) (l : List Waiter) :
    s.release (.core c w :: l) = ((s.modCore c (joinReleased w)).emit (.wake c w)).release l := rfl

/-- A JOIN released stays released while the rest of the list is. -/
theorem released_release_of_released {d : Nat} (l : List Waiter) (h : (s.core d).released = true) :
    ((s.release l).core d).released = true := by
  induction l generalizing s with
  | nil => exact h
  | cons x l ih =>
    cases x with
    | core c w =>
      refine ih _ ?_
      by_cases hc : d = c
      · subst hc
        exact congrArg Core.released (core_modCore s d (joinReleased w) :)
      · exact (congrArg Core.released (core_modCore_ne s (joinReleased w) hc :)).trans h
    | host id => exact ih _ ((congrArg Core.released (core_endDesc ..)).trans h)

theorem released_release_of_mem {d w : Nat} {l : List Waiter} (h : Waiter.core d w ∈ l) :
    ((s.release l).core d).released = true := by
  induction l generalizing s with
  | nil => cases h
  | cons x l ih =>
    rcases List.mem_cons.1 h with rfl | hl
    · rw [release_cons_core]
      exact released_release_of_released _ l (congrArg Core.released (core_modCore s d (joinReleased w) :))
    · cases x with
      | core c v => exact ih _ hl
      | host id => exact ih _ hl

/-- The object `o` after it has fired (R309). -/
def firedObj (o : SyncObj) : SyncObj :=
  { o with waiters := [], count := o.count - o.target % 2 ^ 24, fired := (o.fired + 1) % 65536 }

variable {s} {n : Nat} {o : SyncObj}

theorem objTest_setObj_of_canFire (hf : o.fault = 0) (h : CanFire o) :
    (s.setObj n o).objTest n = (s.setObj n (firedObj o)).release o.waiters := by
  simp only [State.objTest, obj_setObj, setObj_twice, if_pos ((fires_iff hf).2 h), firedObj]

theorem objTest_setObj_of_not_canFire (hf : o.fault = 0) (h : ¬ CanFire o) : (s.setObj n o).objTest n = s.setObj n o := by
  simp only [State.objTest, obj_setObj, if_neg fun hx => h ((fires_iff hf).1 hx)]

theorem obj_release (l : List Waiter) (m : Nat) : (s.release l).obj m = s.obj m := by
  rw [State.obj, objs_release, State.obj]

/-- What the test of an object just written does: no other object changes; where the object can fire it does, once, and its waiters
are released; else nothing more changes. -/
theorem objTest_setObj_spec (hf : o.fault = 0) :
    (∀ m, m ≠ n → ((s.setObj n o).objTest n).obj m = s.obj m)
      ∧ (CanFire o → ((s.setObj n o).objTest n).obj n = firedObj o
        ∧ ∀ d w, Waiter.core d w ∈ o.waiters → (((s.setObj n o).objTest n).core d).released = true)
      ∧ (¬ CanFire o → (s.setObj n o).objTest n = s.setObj n o) := by
  by_cases hc : CanFire o
  · rw [objTest_setObj_of_canFire hf hc]
    refine ⟨fun m hm => ?_, fun _ => ⟨?_, fun d w => released_release_of_mem _⟩, fun hn => absurd hc hn⟩
    · rw [obj_release, obj_setObj_ne _ _ hm]
    · rw [obj_release, obj_setObj]
  · rw [objTest_setObj_of_not_canFire hf hc]
    exact ⟨fun m hm => obj_setObj_ne _ _ hm, fun h => absurd h hc, fun _ => rfl⟩

end

/-! ### Faults of an object (R307, R311) -/

section

variable (s : State) (n srcKind src : Nat)

theorem objs_seqFault (c code : Nat) : (s.seqFault c code).objs = s.objs := by rw [seqFault_eq]
theorem objs_launchFault (p c code : Nat) : (s.launchFault p c code).objs = s.objs := by rw [launchFault_eq]

theorem objs_objReport : (s.objReport n srcKind src).objs = s.objs := by
  simp only [State.objReport]
  split
  · rfl
  · simp only [apply_ite State.objs, objs_seqFault, objs_launchFault, ite_self]
    have hcount : Completed s (s.bump (bSYN + 0x10) 1) := rfl
    exact objs_of_completed (completed_trans (completed_trans hcount (completed_of_reported (reported_ledgerPart ..)))
      (completed_of_reported (reported_mbEvent ..)))

theorem obj_objReport (m : Nat) : (s.objReport n srcKind src).obj m = s.obj m := by
  rw [State.obj, objs_objReport, State.obj]

/-- The first touch of an object that was set up beyond MAX reports it (R307). -/
theorem obj_objPrimed : (s.objPrimed n srcKind src).obj n = { s.obj n with primed := false } := by
  unfold State.objPrimed
  split
  · rw [obj_objReport, obj_setObj]
  · next h => rw [← eq_false_of_ne_true h]

theorem obj_objPrimed_ne {m : Nat} (hm : m ≠ n) : (s.objPrimed n srcKind src).obj m = s.obj m := by
  unfold State.objPrimed
  split
  · rw [obj_objReport, obj_setObj_ne _ _ hm]
  · rfl

end

/-! ### ADD and JOIN at the home (R308, R309, R311) -/

section

variable {s : State} {n a : Nat} (srcKind src : Nat) {w : Waiter}

theorem objAdd_of_fits (hf : (s.obj n).fault = 0) (h : (s.obj n).count + a ≤ (s.obj n).max) : (s.objAdd n a srcKind src).1 =
    (s.setObj n { s.obj n with count := (s.obj n).count + a, tsLast := s.now }).objTest n := by
  have hlow : ¬ ((s.obj n).count : Int) + a < 0 := by omega
  have hhigh : ¬ ((s.obj n).count : Int) + a > (s.obj n).max := by omega
  simp only [State.objAdd, hf, ne_eq, not_true_eq_false, if_false, if_neg hlow, if_neg hhigh]
  rfl

theorem objAdd_of_overflow (hf : (s.obj n).fault = 0) (h : (s.obj n).max < (s.obj n).count + a) : (s.objAdd n a srcKind src).1 =
    (s.setObj n { s.obj n with fault := 2 }).objReport n srcKind src := by
  have hlow : ¬ ((s.obj n).count : Int) + a < 0 := by omega
  have hhigh : ((s.obj n).count : Int) + a > (s.obj n).max := by omega
  simp only [State.objAdd, hf, ne_eq, not_true_eq_false, if_false, if_neg hlow, if_pos hhigh]

theorem objAdd_of_faulted (x : Int) (hf : (s.obj n).fault ≠ 0) : (s.objAdd n x srcKind src).1 = s.objPrimed n srcKind src :=
  congrArg Prod.fst (if_pos hf)

theorem objJoin_of_new (hf : (s.obj n).fault = 0) (hw : w ∉ (s.obj n).waiters) : s.objJoin n w srcKind src =
    (s.setObj n { s.obj n with waiters := (s.obj n).waiters ++ [w], tsLast := s.now }).objTest n :=
  (if_neg (not_not_intro hf)).trans (if_neg (by simpa using hw))

theorem objJoin_of_faulted (hf : (s.obj n).fault ≠ 0) : s.objJoin n w srcKind src = s.objPrimed n srcKind src := if_pos hf

end

section

variable {n : ObjId} {c : CoreId} {s : State} (h : s.objOf n c = true)

include h

theorem objectAdd_of_assigned (a : Fin 256) (kind : Fin 2) :
    exec (.objectAdd n a kind c) s = .next (s.objAdd n a.val kind c).1 :=
  congrArg Host.Outcome.next (if_pos h)

theorem objectJoin_of_waiting (wire : Fin 8) (hw : (s.core c).waitObj = some n.val) :
    exec (.objectJoin n c wire) s = .next (s.objJoin n (.core c wire) 0 c) :=
  congrArg Host.Outcome.next (if_pos ⟨h, hw⟩)

end

/-- Settles O11: an operation that is applied by what the test behind it does, one on a faulted object by its first touch. -/
theorem objectOperations : Obligations.ObjectOperations := by
  intro n a kind c wire s hown o need enough fired others
  have hadd {t : State} (h : (s.objAdd n a.val kind c).1 = t) : exec (.objectAdd n a kind c) s = .next t :=
    (objectAdd_of_assigned hown a kind).trans (congrArg Host.Outcome.next h)
  have hjoin {t : State} (hw : (s.core c).waitObj = some n.val) (h : s.objJoin n (.core c wire) 0 c = t) :
      exec (.objectJoin n c wire) s = .next t :=
    (objectJoin_of_waiting hown wire hw).trans (congrArg Host.Outcome.next h)
  have hprimed (srcKind src : Nat) : others (s.objPrimed n srcKind src)
      ∧ (s.objPrimed n srcKind src).obj n = { o with primed := false } :=
    ⟨fun m hm => obj_objPrimed_ne s n srcKind src hm, obj_objPrimed s n srcKind src⟩
  refine ⟨fun hf hle => ⟨_, hadd (objAdd_of_fits _ _ hf hle), ?_⟩, fun hf hlt => ⟨_, hadd (objAdd_of_overflow _ _ hf hlt), ?_, ?_⟩,
    fun hf => ⟨_, hadd (objAdd_of_faulted _ _ _ hf), hprimed _ _⟩,
    fun hw => ⟨fun hf hnew => ⟨_, hjoin hw (objJoin_of_new _ _ hf hnew), ?_⟩,
      fun hf => ⟨_, hjoin hw (objJoin_of_faulted _ _ hf), hprimed _ _⟩⟩⟩
  · exact objTest_setObj_spec hf
  · exact fun m hm => (obj_objReport ..).trans (obj_setObj_ne _ _ hm)
  · exact (obj_objReport ..).trans (obj_setObj ..)
  · exact objTest_setObj_spec hf

/-! ### The debugger (R308, R318, R319) -/

section

variable {fn p : Nat} {s : State} (hfn : fn = 0 ∨ fn = p + 1) (f : Nat → SyncObj → Nat → State × Nat)

include hfn

theorem dbg_of_refused {r : Nat} (h : s.dbgRight fn p (s.reg (kDbgObj p)) = some r) : s.dbg fn p f = s.setReg (kDbgStat p) r := by
  rw [State.dbg, if_neg (by omega)]
  simp only [h]

theorem dbg_of_right (h : s.dbgRight fn p (s.reg (kDbgObj p)) = none) {t : State} {r : Nat}
    (hx : f (s.reg (kDbgObj p)) (s.obj (s.reg (kDbgObj p))) (s.reg (kDbgVal p)) = (t, r)) :
    s.dbg fn p f = t.setReg (kDbgStat p) r := by
  rw [State.dbg, if_neg (by omega)]
  simp only [h, hx]

end

/-- Only PF0 is answered UNASSIGNED, and only for an object of no partition (R318). -/
theorem dbgRight_unassigned_iff (s : State) (fn p n : Nat) : s.dbgRight fn p n = some 2 ↔ fn = 0 ∧ (s.obj n).owner = none := by
  unfold State.dbgRight
  split
  · next h => by_cases hfn : fn = 0 <;> simp [h, hfn]
  · next q h =>
    have hno : ¬ (fn = 0 ∧ (s.obj n).owner = none) := by simp [h]
    refine iff_of_false ?_ hno
    split
    · simp
    · split <;> simp

/-- Settles O14: without the right by `dbg_of_refused`; with it each command by the branch of its own condition. -/
theorem debuggerCommands : Obligations.DebuggerCommands := by
  intro fn p s hfn n v o stat
  have hright {i : Instr} {f : Nat → SyncObj → Nat → State × Nat} {t : State} {r : Nat}
      (hi : exec i s = .next (s.dbg fn p f)) (h : s.dbgRight fn p n = none) (hx : f n o v = (t, r)) : exec i s = .next (stat t r) :=
    hi.trans (congrArg Host.Outcome.next (dbg_of_right hfn f h hx))
  refine ⟨fun r hr => ?_, fun hr => ⟨fun hlt => hright rfl hr (if_pos hlt), fun hle => hright rfl hr (if_neg (Nat.not_lt.2 hle)),
    fun hf => ⟨hright rfl hr (if_pos hf), hright rfl hr (if_pos hf)⟩, fun hf => ⟨fun hout => ?_, fun m hm hle => ?_, ?_⟩, ?_⟩,
    dbgRight_unassigned_iff s fn p n⟩
  · simp only [List.forall_mem_cons]
    have hno (f : Nat → SyncObj → Nat → State × Nat) : Host.Outcome.next (s.dbg fn p f) = (.next (stat s r) : Out) :=
      congrArg Host.Outcome.next (dbg_of_refused hfn f hr)
    exact ⟨hno _, hno _, hno _, hno _, List.forall_mem_nil _⟩
  · exact hright rfl hr ((if_neg (not_not_intro hf)).trans (if_pos hout))
  · have hin : ¬ ((o.count : Int) + signed 32 v < 0 ∨ (o.max : Int) < o.count + signed 32 v) := by omega
    refine hright rfl hr ((if_neg (not_not_intro hf)).trans ((if_neg hin).trans ?_))
    rw [hm]
    rfl
  · exact hright rfl hr (if_neg (not_not_intro hf))
  · exact hright rfl hr rfl

end Sys2Proof.Laws
end

section
/-! PROOFS. WAIT, WAKE and SIGNAL steps, and signals from and to other modules (spec/12: R312, R314, R316; spec/11: R287, R292). -/
namespace Sys2Proof.Laws

open Machine

/-! ### The core behind a dispatched step (R108, R115) -/

section

variable (k : Core) (fuel : Nat)

/-- Settling writes the position only. -/
theorem settle_writes : ∃ st lo be iv, k.settle fuel = { k with step := st, loops := lo, begun := be, inVar := iv } := by
  induction fuel generalizing k with
  | zero => exact ⟨_, _, _, _, rfl⟩
  | succ n ih =>
    have hgo (k' : Core) (hk : ∃ st lo be iv, k' = { k with step := st, loops := lo, begun := be, inVar := iv }) :
        ∃ st lo be iv, k'.settle n = { k with step := st, loops := lo, begun := be, inVar := iv } := by
      obtain ⟨_, _, _, _, rfl⟩ := hk
      exact ih _
    unfold Core.settle
    split
    · split
      · split
        · exact ⟨_, _, _, _, rfl⟩
        · exact hgo _ ⟨_, _, _, _, rfl⟩
      · split
        · exact hgo _ ⟨_, _, _, _, rfl⟩
        · exact ⟨_, _, _, _, rfl⟩
    · split
      · exact hgo _ ⟨_, _, _, _, rfl⟩
      · exact ⟨_, _, _, _, rfl⟩

/-- The core `k` with `n` as its next number, the SY queue `l` and the held signals `ps`. -/
def withSy (k : Core) (n : Nat) (l : List Nat) (ps : List PendSignal) : Core := { k with seq := n, qSy := l, signals := ps }

/-- The position settles without regard to the SY queue and the signals held in it. -/
theorem settle_withSy (n : Nat) (l : List Nat) (ps : List PendSignal) :
    (withSy k n l ps).settle fuel = withSy (k.settle fuel) n l ps := by
  induction fuel generalizing k with
  | zero => rfl
  | succ m ih =>
    rw [Core.settle, Core.settle]
    cases hl : k.loops with
    | nil =>
      simp only [withSy, hl]
      split
      · exact ih { k with loops := [], inVar := false, step := k.varRet }
      · rw [hl]
    | cons f fs =>
      simp only [withSy, hl]
      split
      · split
        · rfl
        · exact ih { k with loops := fs }
      · split
        · exact ih { k with loops := f :: fs, inVar := false, step := k.varRet }
        · rw [hl]

end

section

variable {s : State} {c n : Nat} {w : StepWord}

/-- A step dispatched with room in its queue, whose only effect is on the core. -/
theorem issue_modCore_of_room {q : Queue} (g : Core → Core) (hr : (s.core c).ready = true) (hq : ((s.core c).queue q).length < 32) :
    (s.issue c q fun t => t.modCore c g) = s.setCore c (g ((s.core c).enqueue q)).moveOn := by
  refine (if_pos hr).trans ((if_pos hq).trans ?_)
  simp only [State.modCore, core_setCore, setCore_twice]

theorem issue_of_full {q : Queue} (f : State → State) (hr : (s.core c).ready = true) (hq : 32 ≤ ((s.core c).queue q).length) :
    s.issue c q f = s.setCore c ((s.core c).queueStall q) :=
  (if_pos hr).trans (if_neg (Nat.not_lt.2 hq))

theorem running_of_ready {k : Core} (h : k.ready = true) : k.st = .running := by
  simp only [Core.ready, Bool.and_eq_true, beq_iff_eq] at h
  exact h.1

theorem moveOn_of_running {k : Core} (h : k.st = .running) : k.moveOn = k.advance := if_neg (by rw [h]; decide)

/-- The SIGNAL of word `w` that core `k` takes into its SY queue, with the steps that it waits for (R314). -/
def signalOf (k : Core) (w : StepWord) : PendSignal := ⟨k.seq, fld w 119 100, fld w 95 88, k.masked (fld w 99 96)⟩

/-- The core `k` with that SIGNAL in its SY queue (R108, R314). -/
def signalTaken (k : Core) (w : StepWord) : Core := withSy k (k.seq + 1) (k.qSy ++ [k.seq]) (k.signals ++ [signalOf k w])

/-- Behind a SIGNAL the core is where any other step leaves it. -/
theorem moveOn_signalTaken {k : Core} (h : k.ready = true) :
    (signalTaken k w).moveOn = withSy k.advance (k.seq + 1) (k.qSy ++ [k.seq]) (k.signals ++ [signalOf k w]) :=
  (moveOn_of_running (k := signalTaken k w) (running_of_ready h)).trans (settle_withSy { k with step := k.step + 1 } 6 _ _ _)

@[simp] theorem part_advance (k : Core) : k.advance.part = k.part := by
  obtain ⟨st, lo, be, iv, h⟩ := settle_writes { k with step := k.step + 1 } 6
  rw [Core.advance, h]

@[simp] theorem slot_advance (k : Core) : k.advance.slot = k.slot := by
  obtain ⟨st, lo, be, iv, h⟩ := settle_writes { k with step := k.step + 1 } 6
  rw [Core.advance, h]

@[simp] theorem syWait_advance (k : Core) : k.advance.syWait = k.syWait := by
  obtain ⟨st, lo, be, iv, h⟩ := settle_writes { k with step := k.step + 1 } 6
  rw [Core.advance, h]

theorem objRef_setCore {k : Core} (hp : k.part = (s.core c).part) (hs : k.slot = (s.core c).slot) :
    (s.setCore c k).objRef c n = s.objRef c n := by
  have hcore : (s.setCore c k).core c = k := core_setCore ..
  simp only [State.objRef, hcore, hp, hs]
  rfl

/-! ### Held signals (R314, R322) -/

theorem raiseReady_of_deps {p : PendSignal} (h : p.deps ≠ []) : s.raiseReady c [p] = s := by
  have hd : p.deps.isEmpty = false := by simpa using h
  simp [State.raiseReady, hd]

theorem raise_of_local {r : ObjRef} (h : s.objRef c n = some r) (hl : r.fid = s.reg bFAB) (amount srcKind engine seq : Nat) :
    s.raise c n amount srcKind engine seq = s.emit (.objAdd r.obj amount srcKind c) := by
  simp only [State.raise, h, if_pos hl]

theorem isRemote_of_local {r : ObjRef} (h : s.objRef c n = some r) (hl : r.fid = s.reg bFAB) : s.isRemote c n = false := by
  simp [State.isRemote, h, hl]

/-- The core `k` with its SIGNAL `n` gone from the SY queue (R314). -/
def signalLeft (k : Core) (n : Nat) : Core := (withSy k k.seq (k.qSy.filter (· ≠ n)) (k.signals.filter (·.seq ≠ n))).dropDep n

/-- A SIGNAL taken and gone at once leaves the SY queue and the held signals as they were, and the core behind its step. -/
theorem signalLeft_signalTaken {k : Core} (h : k.ready = true) (hs : k.signals = []) :
    let k' := signalLeft (signalTaken k w).moveOn k.seq
    k'.signals = [] ∧ k'.qSy = k.qSy.filter (· ≠ k.seq) ∧ k'.step = k.advance.step := by
  rw [moveOn_signalTaken h, hs]
  refine ⟨?_, ?_, rfl⟩
  · simp [signalLeft, withSy, Core.dropDep, signalOf]
  · simp [signalLeft, withSy, Core.dropDep]

/-- A signal that nothing holds back, to an object of this module: its ADD leaves, and the step has completed. -/
theorem raiseReady_of_local {p : PendSignal} {r : ObjRef} (hd : p.deps = []) (hw : (s.core c).syWait = [])
    (h : s.objRef c p.obj = some r) (hl : r.fid = s.reg bFAB) : s.raiseReady c [p] =
      (s.emit (.objAdd r.obj p.amount 0 c)).setCore c (signalLeft (s.core c) p.seq) := by
  have hgo : (p.deps.isEmpty && (s.core c).syWait.all fun g => decide (p.seq < g.seq)) = true := by rw [hd, hw]; rfl
  have hcore : (s.emit (.objAdd r.obj p.amount 0 c)).core c = s.core c := rfl
  simp only [State.raiseReady, hgo, if_true, raise_of_local h hl, isRemote_of_local h hl, Bool.false_eq_true, if_false,
    State.modCore, core_setCore, setCore_twice, hcore]
  rfl

end

/-! ### The steps (R312, R314) -/

section

variable {c : CoreId} {w : StepWord} {s : State}

/-- A fault at dispatch stops the core and touches no memory, vector register or accumulator (R138). -/
theorem coreFaults_of_seqFault {i : Instr} {code : Nat} (h : exec i s = .next (s.seqFault c code)) : CoreFaults c s i code := by
  refine ⟨_, h, ?_⟩
  rw [core_seqFault, seqFault_eq]
  exact ⟨rfl, rfl, rfl, rfl, rfl, rfl, rfl⟩

section

variable (hr : (s.core c).ready = true)

include hr

theorem wait_of_local {r : ObjRef} (h : s.objRef c (fld w 119 100) = some r) (hl : r.fid = s.reg bFAB) : exec (.wait c w) s =
    .next ((s.setCore c { s.core c with
        st := .waiting, waitObj := some r.obj, wire := fld w 99 97, released := false, gated := true, waitFrom := s.now,
        waitPeriod := s.pwr.period }).emit (.objJoin r.obj c (fld w 99 97))) := by
  refine congrArg Host.Outcome.next ((front_of_ready hr _).trans ?_)
  simp only [h, hl, ne_eq, not_true_eq_false, if_false]

theorem wait_of_remote {r : ObjRef} (h : s.objRef c (fld w 119 100) = some r) (hl : r.fid ≠ s.reg bFAB) :
    exec (.wait c w) s = .next (s.seqFault c 5) := by
  refine congrArg Host.Outcome.next ((front_of_ready hr _).trans ?_)
  simp only [h, if_pos hl]

theorem wait_of_no_object (h : s.objRef c (fld w 119 100) = none) : exec (.wait c w) s = .next (s.seqFault c 5) := by
  refine congrArg Host.Outcome.next ((front_of_ready hr _).trans ?_)
  simp only [h]

end

theorem signal_of_issued {t : State} (hw : fld w 95 88 ≠ 0)
    (ht : (s.issue c .sy fun s1 => s1.modCore c fun k1 => { k1 with
      signals := k1.signals ++ [⟨(s.core c).seq, fld w 119 100, fld w 95 88, (s.core c).masked (fld w 99 96)⟩] }) = t) :
    exec (.signal c w) s = .next (t.raiseReady c (t.core c).signals) := by
  subst ht
  exact if_neg fun h => hw h.2

theorem signal_of_full (hr : (s.core c).ready = true) (hw : fld w 95 88 ≠ 0) (hs : (s.core c).signals = [])
    (hq : 32 ≤ (s.core c).qSy.length) : exec (.signal c w) s = .next (s.setCore c ((s.core c).queueStall .sy)) := by
  have hnone : ((s.setCore c ((s.core c).queueStall .sy)).core c).signals = [] := by rw [core_setCore]; exact hs
  rw [signal_of_issued hw (issue_of_full _ hr hq), hnone]
  rfl

section

variable (hr : (s.core c).ready = true) (hw : fld w 95 88 ≠ 0) (hq : (s.core c).qSy.length < 32) (hs : (s.core c).signals = [])

include hr hw hq hs

theorem signal_of_room : exec (.signal c w) s =
    .next ((s.setCore c (signalTaken (s.core c) w).moveOn).raiseReady c [signalOf (s.core c) w]) := by
  have htaken : ((s.setCore c (signalTaken (s.core c) w).moveOn).core c).signals = [signalOf (s.core c) w] := by
    rw [core_setCore, moveOn_signalTaken hr, hs]
    rfl
  exact htaken ▸ signal_of_issued hw (issue_modCore_of_room _ hr hq)

theorem signal_held (hm : (s.core c).masked (fld w 99 96) ≠ []) :
    exec (.signal c w) s = .next (s.setCore c (signalTaken (s.core c) w).moveOn) :=
  (signal_of_room hr hw hq hs).trans (congrArg Host.Outcome.next (raiseReady_of_deps hm))

/-- A SIGNAL that covers nothing outstanding, to an object of this module: the ADD leaves and the step is done. -/
theorem signal_at_once {r : ObjRef} (hm : (s.core c).masked (fld w 99 96) = []) (hsy : (s.core c).syWait = [])
    (h : s.objRef c (fld w 119 100) = some r) (hl : r.fid = s.reg bFAB) : exec (.signal c w) s =
      .next ((s.emit (.objAdd r.obj (fld w 95 88) 0 c)).setCore c (signalLeft (signalTaken (s.core c) w).moveOn (s.core c).seq)) := by
  have hmove := moveOn_signalTaken (w := w) hr
  have href : (s.setCore c (signalTaken (s.core c) w).moveOn).objRef c (fld w 119 100) = some r := by
    rw [hmove]
    refine (objRef_setCore ?_ ?_).trans h
    · exact part_advance _
    · exact slot_advance _
  have hwait : ((s.setCore c (signalTaken (s.core c) w).moveOn).core c).syWait = [] := by
    rw [core_setCore, hmove]
    exact (syWait_advance _).trans hsy
  rw [signal_of_room hr hw hq hs, raiseReady_of_local (p := signalOf (s.core c) w) hm hwait href hl, core_setCore]
  exact congrArg Host.Outcome.next (setCore_twice (s.emit _) c _ _)

end

end

section

variable {c : CoreId} {wire : Fin 8} {s : State}

theorem wake_of_released (hw : (s.core c).st = .waiting) (hr : (s.core c).released = true) : exec (.wake c wire) s =
    .next (s.setCore c { s.core c with
      st := .running, waitObj := none, released := false, gated := false,
      waitAcc := (s.core c).waitAcc + (s.now - (s.core c).waitFrom),
      wires := (s.core c).wires - ((s.core c).wires &&& 2 ^ wire.val) }.advance) :=
  congrArg Host.Outcome.next ((if_neg (not_not_intro hw)).trans (if_pos hr))

theorem wake_of_listed (hw : (s.core c).st = .waiting) (hr : (s.core c).released = false) :
    exec (.wake c wire) s = .next (s.bump (bSYN + 0x14) 1) :=
  congrArg Host.Outcome.next ((if_neg (not_not_intro hw)).trans (if_neg (by simp [hr])))

theorem wake_of_awake (hw : (s.core c).st ≠ .waiting) : exec (.wake c wire) s = .next s := congrArg Host.Outcome.next (if_pos hw)

end

/-! ### The loss of an acknowledgement (R316) -/

/-- The state in which signal `t` has been counted and recorded as lost, and its TAG rests. -/
def sigLost (s : State) (tag : Fin 65536) (t : Txn) : State :=
  ((s.bump (bSYN + 0xC) 1).ledger 0x0401 (srcOf3 0xFF 0 0) t.base tag t.entry).setTxn tag (some { t with resting := true })

section

variable {tag : Fin 65536} {t : Txn} {s : State}

theorem exec_sigAckTimeout : exec (.sigAckTimeout tag) s = execSigAckTimeout tag s := rfl

theorem sigAckTimeout_of_waiting (ht : s.txn tag = some t) (hk : t.kind = .sig) (hr : t.resting = false) :
    exec (.sigAckTimeout tag) s = .next ((sigLost s tag t).sigEnded t true) := by
  have hgo : ¬ (t.kind ≠ .sig ∨ t.resting = true) := by simp [hk, hr]
  simp only [exec_sigAckTimeout, execSigAckTimeout, ht, if_neg hgo, sigLost]

theorem sigAckTimeout_of_idle (h : ∀ t, s.txn tag = some t → t.kind ≠ .sig ∨ t.resting = true) :
    exec (.sigAckTimeout tag) s = .next s := by
  simp only [exec_sigAckTimeout, execSigAckTimeout]
  split
  · rfl
  · next t ht => rw [if_pos (h t ht)]

theorem sigEnded_of_desc (he : t.engine = hostEngine) : s.sigEnded t true = s.endDesc t.seq 2 3 := if_pos he

section

variable (he : t.engine ≠ hostEngine) (lost : Bool)

include he

theorem sigEnded_of_step (h : 880 ≤ t.engine) : s.sigEnded t lost = s.stepDone t.core .sy t.seq := (if_neg he).trans (if_pos h)

theorem sigEnded_of_xfer (h : t.engine < 880) (hc : t.core < 768) : s.sigEnded t lost = s.stepDone t.core .xf t.seq :=
  (if_neg he).trans ((if_neg (Nat.not_le.2 h)).trans (if_pos hc))

theorem sigEnded_of_no_core (h : t.engine < 880) (hc : 768 ≤ t.core) : s.sigEnded t lost = s :=
  (if_neg he).trans ((if_neg (Nat.not_le.2 h)).trans (if_neg (Nat.not_lt.2 hc)))

end

end

/-- Settles O12, step by step; a WAIT by where its object lies, a SIGNAL by what it covers, a lost acknowledgement by what it ends.
That a SIGNAL with AMOUNT 0 stops the machine by name is the model's reading of R7 and R116 (log 3). -/
theorem waitAndSignal : Obligations.WaitAndSignal := by
  intro c w wire tag s k
  refine ⟨fun hr => ⟨fun r h hl => wait_of_local hr h hl, fun r h hl => coreFaults_of_seqFault (wait_of_remote hr h hl),
    fun h => coreFaults_of_seqFault (wait_of_no_object hr h), signal_of_zero hr, fun hw hq hs hm => ?_,
    fun hw hq hs hm hsy r h hl => ⟨_, signal_at_once hr hw hq hs hm hsy h hl, rfl, ?_⟩,
    fun hw hs hq => signal_of_full hr hw hs hq⟩, wake_of_released, wake_of_listed, wake_of_awake, fun t ht hk hrest => ?_,
    sigAckTimeout_of_idle⟩
  · rw [signal_held hr hw hq hs hm, signalTaken, hs]
    rfl
  · obtain ⟨hsig, hqueue, hstep⟩ := signalLeft_signalTaken (w := w) hr hs
    rw [core_setCore]
    exact ⟨hsig, hqueue, hstep, rfl, fun d hd => core_setCore_ne _ _ hd⟩
  · rw [sigAckTimeout_of_waiting ht hk hrest]
    exact ⟨fun he => congrArg Host.Outcome.next (sigEnded_of_desc he),
      fun h he => congrArg Host.Outcome.next (sigEnded_of_step he true h),
      fun h he hc => congrArg Host.Outcome.next (sigEnded_of_xfer he true h hc),
      fun h he hc => congrArg Host.Outcome.next (sigEnded_of_no_core he true h hc)⟩

/-! ### SIG flits (R287, R292, R308, R316) -/

section

variable {f : Flit} {s : State} {p : Nat} (hk : f.kind = 0x13) (hd : f.dst = s.reg bFAB)

include hk hd

/-- A SIG flit for this module, of a composition that is not here. -/
theorem sig_of_no_composition (hp : s.partOf f.comp = none) : exec (.sig f) s = .next (s.dropFlit 0x104) := by
  refine congrArg Host.Outcome.next ((if_neg (by simp [hk, hd])).trans ?_)
  simp only [hp]

variable (hp : s.partOf f.comp = some p)

include hp

theorem sig_of_composition : exec (.sig f) s = .next (
    if (s.obj (f.aux / 65536)).owner ≠ some p then s.dropFlit 0x104
    else if (s.part p).epoch % 65536 ≠ f.cepoch then s.dropFlit 0x100
    else (s.objAdd (f.aux / 65536) (f.aux / 256 % 256 : Nat) 2 0).1.respond f 0x30 0) := by
  refine congrArg Host.Outcome.next ((if_neg (by simp [hk, hd])).trans ?_)
  simp only [hp]

end

/-- Settles O13: the three reasons to drop the flit in the order in which they are tested, and the flit that passes them. -/
theorem sigFlit : Obligations.SigFlit := by
  intro f s hk hd n
  refine ⟨sig_of_no_composition hk hd, fun p hp ho => ?_, fun p hp ho he => ?_, fun p hp ho he => ?_⟩
  · exact (sig_of_composition hk hd hp).trans (congrArg Host.Outcome.next (if_pos ho))
  · exact (sig_of_composition hk hd hp).trans (congrArg Host.Outcome.next ((if_neg (not_not_intro ho)).trans (if_pos he)))
  · exact (sig_of_composition hk hd hp).trans
      (congrArg Host.Outcome.next ((if_neg (not_not_intro ho)).trans (if_neg (not_not_intro he))))

end Sys2Proof.Laws
end

section
/-! PROOFS. The state dump (spec/12: R320). -/
namespace Sys2Proof.Laws

open Machine

section

variable (s : State)

theorem objRecord_length (n : Nat) : (s.objRecord n).length = 32 := toBytes_length ..
theorem coreRecord_length (c : Nat) : (s.coreRecord c).length = 16 := toBytes_length ..

theorem flatMap_range_length {α : Type} {f : Nat → List α} {m : Nat} (h : ∀ i, (f i).length = m) (n : Nat) :
    ((List.range n).flatMap f).length = n * m := by
  induction n with
  | zero => rw [Nat.zero_mul]; rfl
  | succ n ih =>
    rw [List.range_succ, List.flatMap_append, List.length_append, ih, List.flatMap_singleton, h, Nat.succ_mul]

/-- A header of 64 bytes, 16,384 objects of 32 and 768 cores of 16. -/
theorem dump_length : s.dump.length = 536640 := by
  rw [State.dump, List.length_append, List.length_append, toBytes_length, flatMap_range_length (objRecord_length s),
    flatMap_range_length (coreRecord_length s)]

end

section

variable {s : State}

theorem stateDump_of_idle (h : bitAt (s.reg kDumpCtrl) 0 = false) : exec .stateDump s =
    .next { s.setReg kDumpCtrl 1 with host := tblSetRun (fun _ => 0) s.host (s.reg bSYN / 4096 * 4096) s.dump } := by
  have hkey : hostKey 0 (s.reg bSYN / 4096 * 4096) = s.reg bSYN / 4096 * 4096 := by rw [hostKey, Nat.zero_mul, Nat.zero_add]
  refine congrArg Host.Outcome.next ((if_neg (by simp [h])).trans ?_)
  rw [State.hostWrite, hkey]
  rfl

theorem stateDump_of_running (h : bitAt (s.reg kDumpCtrl) 0 = true) : exec .stateDump s = .next s :=
  congrArg Host.Outcome.next (if_pos h)

theorem stateDumpEnd_of_running (h : bitAt (s.reg kDumpCtrl) 0 = true) (ok : Bool) :
    exec (.stateDumpEnd ok) s = .next (s.setReg kDumpCtrl (if ok then 2 else 2 ^ 31)) :=
  congrArg Host.Outcome.next (if_pos h)

end

/-- Settles O15. That the dump is written at one instant, at GO, is the model's choice (log 29). -/
theorem stateDump : Obligations.StateDump := fun s =>
  ⟨stateDump_of_idle, fun h => ⟨stateDump_of_running h, stateDumpEnd_of_running h true, stateDumpEnd_of_running h false⟩,
    dump_length s⟩

end Sys2Proof.Laws
end

section
/-! PROOFS. GLOBAL steps and GOP flits (spec/12: R321 to R328; spec/11: R292). -/
namespace Sys2Proof.Laws

open Machine

/-! ### GLOBAL steps (R110, R152, R321, R322) -/

/-- The GLOBAL step of each kind (R321). -/
def globalInstr (c : CoreId) (w : StepWord) (kind : Nat) : Instr :=
  if kind = 0 then .barrier c w else if kind = 1 then .broadcast c w else if kind = 2 then .reduceAdd c w else .consistentSnapshot c w

theorem exec_globalInstr (c : CoreId) (w : StepWord) (s : State) {kind : Nat} (hk : kind < 4) :
    exec (globalInstr c w kind) s = .next (s.globalStep c w kind) := by
  match kind, hk with
  | 0, _ | 1, _ | 2, _ | 3, _ => rfl

/-- The core `k` with a GLOBAL step of kind `kind` at the end of what waits in its SY queue (R322). -/
def globalTaken (k : Core) (w : StepWord) (kind : Nat) (d : Desc) (md : Option Desc) : Core :=
  { k.enqueue .sy with syWait := k.syWait ++ [⟨k.seq, fld w 79 64, kind, d, md, fld w 115 96⟩] }

/-- The state after a GLOBAL step has been queued, its core's steps have been started and its group's node has been driven on. -/
def globalGone (s : State) (c : Nat) (w : StepWord) (kind : Nat) (d : Desc) (md : Option Desc) : State :=
  (((s.setCore c (globalTaken (s.core c) w kind d md).moveOn).startGlobals c 33).nodeRun (s.core c).part (fld w 79 64)).gopDrain
    (s.core c).part (fld w 79 64)

/-- The payload's descriptor of a GLOBAL step: none of its own for a barrier (R321). -/
def globalPayload (s : State) (c : Nat) (w : StepWord) (kind : Nat) : Option Desc :=
  if kind = 0 then some (descOf 0) else s.poolDesc c (fld w 95 80) 0 0

/-- The block map's descriptor, where the step's word names one (R152). -/
def globalMap (s : State) (c : Nat) (w : StepWord) : Option (Option Desc) :=
  if fld w 63 48 = 0xFFFF then some none else (s.poolDesc c (fld w 63 48) 0 0).map some

/-- A map's descriptor is a list's, and the payload is made of whole blocks (R152). -/
def MapFits (c : Nat) (d md : Desc) : Prop := listDescOk c md = true ∧ d.rows % 64 = 0 ∧ d.elems % 64 = 0

section

variable {s : State} {c : Nat} {w : StepWord} {kind : Nat} (hr : (s.core c).ready = true)

include hr

theorem globalStep_of_reserved (h : 4 ≤ fld w 119 116) : s.globalStep c w kind = s.seqFault c 1 :=
  (front_of_ready hr _).trans (if_pos h)

variable (hk : kind < 4) (hw : fld w 119 116 = kind)

include hk hw

theorem globalStep_of_barred_map (h : kind = 0 ∨ kind = 3) (hm : fld w 63 48 ≠ 0xFFFF) : s.globalStep c w kind = s.seqFault c 1 :=
  (front_of_ready hr _).trans ((if_neg (by omega)).trans ((if_neg (not_not_intro hw)).trans (if_pos ⟨hm, h⟩)))

variable (hform : ¬ (fld w 63 48 ≠ 0xFFFF ∧ (kind = 0 ∨ kind = 3)))

include hform

/-- The payload's descriptor lies past the pool. -/
theorem globalStep_of_no_payload (hd : globalPayload s c w kind = none) : s.globalStep c w kind = s.seqFault c 3 := by
  rw [globalPayload] at hd
  refine (front_of_ready hr _).trans ((if_neg (by omega)).trans ((if_neg (not_not_intro hw)).trans ((if_neg hform).trans ?_)))
  simp only [hd]

variable {d : Desc} {md : Option Desc} (hd : globalPayload s c w kind = some d) (hmap : globalMap s c w = some md)

include hd hmap

theorem globalStep_of_bad_payload (hn : kind ≠ 0) (hp : payOk d kind = false) : s.globalStep c w kind = s.seqFault c 1 := by
  rw [globalPayload] at hd
  rw [globalMap] at hmap
  refine (front_of_ready hr _).trans ((if_neg (by omega)).trans ((if_neg (not_not_intro hw)).trans ((if_neg hform).trans ?_)))
  simp only [hd, hmap]
  exact if_pos ⟨hn, by simp [hp]⟩

theorem globalStep_of_payload (hp : kind = 0 ∨ payOk d kind = true) (hfits : ∀ m, md = some m → MapFits c d m)
    (hq : (s.core c).qSy.length < 32) : s.globalStep c w kind = globalGone s c w kind d md := by
  rw [globalPayload] at hd
  rw [globalMap] at hmap
  refine (front_of_ready hr _).trans ((if_neg (by omega)).trans ((if_neg (not_not_intro hw)).trans ((if_neg hform).trans ?_)))
  simp only [hd, hmap]
  refine (if_neg ?_).trans ((if_neg ?_).trans ?_)
  · rintro ⟨hn, hbad⟩
    simp [hp.resolve_left hn] at hbad
  · cases md with
    | none => simp
    | some m =>
      obtain ⟨hlist, hrows, helems⟩ := hfits m rfl
      simp [hlist, hrows, helems]
  · rw [issue_modCore_of_room (q := .sy) _ hr hq]
    rfl

end

section

variable {p : PartId} {g : Fin 65536} {s : State} {t : Nat} (h : (s.tree (treeKey p g)).cut = some t)

include h

theorem snapshotCut_of_due (ht : t ≤ s.now) (hl : (s.tree (treeKey p g)).live = true) : exec (.snapshotCut p g) s =
    .next (((s.latch p (treeKey p g) (s.tree (treeKey p g)) t).nodeRun p g).gopDrain p g) := by
  refine congrArg Host.Outcome.next ?_
  simp only [h]
  exact if_pos ⟨hl, ht⟩

theorem snapshotCut_of_early (ht : s.now < t) : exec (.snapshotCut p g) s = .next s := by
  refine congrArg Host.Outcome.next ?_
  simp only [h]
  exact if_neg fun hx => Nat.not_le.2 ht hx.2

end

/-- Settles O16: what is tested in a step's word and descriptors, in the order of the tests, then the cut of a snapshot.
That a cut whose time has not come changes nothing is the model's convention (log 1). -/
theorem globalSteps : Obligations.GlobalSteps := by
  intro c w p g s k step goes
  have hstep {kind : Nat} {t : State} (hk : kind < 4) (h : s.globalStep c w kind = t) : exec (step kind) s = .next t :=
    (exec_globalInstr c w s hk).trans (congrArg Host.Outcome.next h)
  have hfault {kind code : Nat} (hk : kind < 4) (h : s.globalStep c w kind = s.seqFault c code) : CoreFaults c s (step kind) code :=
    coreFaults_of_seqFault (hstep hk h)
  have hnomap (hm : fld w 63 48 = 0xFFFF) : globalMap s c w = some none := if_pos hm
  refine ⟨fun hr => ⟨fun h => ?_, fun kind hk hw hq => ⟨fun h0 hm => ?_, fun h hm => hfault hk (globalStep_of_barred_map hr hk hw h hm),
    fun d hn hd => ?_, fun hn hm hd => ?_⟩⟩, fun t ht => ⟨snapshotCut_of_due ht, snapshotCut_of_early ht⟩⟩
  · simp only [List.forall_mem_cons]
    have hres (kind : Nat) (hk : kind < 4) : CoreFaults c s (step kind) 1 := hfault hk (globalStep_of_reserved hr h)
    exact ⟨hres 0 (by decide), hres 1 (by decide), hres 2 (by decide), hres 3 (by decide), List.forall_mem_nil _⟩
  · subst h0
    exact hstep hk (globalStep_of_payload hr hk hw (fun h => h.1 hm) (if_pos rfl) (hnomap hm) (.inl rfl) nofun hq)
  · have hpay : globalPayload s c w kind = some d := (if_neg hn).trans hd
    refine ⟨fun hm hp => ?_, fun hm hp => ?_, fun md h3 hm hmd hp hl hrows helems => ?_⟩
    · exact hstep hk (globalStep_of_payload hr hk hw (fun h => h.1 hm) hpay (hnomap hm) (.inr hp) nofun hq)
    · exact hfault hk (globalStep_of_bad_payload hr hk hw (fun h => h.1 hm) hpay (hnomap hm) hn hp)
    · have hmap : globalMap s c w = some (some md) := (if_neg hm).trans (congrArg (Option.map some) hmd)
      refine hstep hk (globalStep_of_payload hr hk hw (by omega) hpay hmap (.inr hp) (fun m he => ?_) hq)
      cases he
      exact ⟨hl, hrows, helems⟩
  · exact hfault hk (globalStep_of_no_payload hr hk hw (fun h => h.1 hm) ((if_neg hn).trans hd))

/-! ### GOP flits (R292, R323, R324, R328) -/

/-- The flit belongs to its composition's reset: group 0xFFFF, OP 4 (R328). -/
def OfReset (f : Flit) : Prop := f.aux / 65536 = 0xFFFF ∧ f.aux / 4096 % 16 = 4

section

variable {link : LinkId} {f : Flit} {s : State} {p : Nat}

theorem gopCheck_of_composition (hp : s.partOf f.comp = some p) (he : (s.part p).epoch % 65536 = f.cepoch) : s.gopCheck link f =
    if f.aux % 256 = (s.tree (treeKey p (f.aux / 65536))).seq then (s.gopTake p link f).gopDrain p (f.aux / 65536)
    else if f.aux % 256 = ((s.tree (treeKey p (f.aux / 65536))).seq + 1) % 256 then
      s.setTree (treeKey p (f.aux / 65536)) { s.tree (treeKey p (f.aux / 65536)) with
        held := (s.tree (treeKey p (f.aux / 65536))).held ++ [(link.val, f)] }
    else s.bump (bSYN + 0x18) 1 := by
  simp only [State.gopCheck, hp]
  exact if_neg (not_not_intro he)

variable (hk : f.kind = 0x20) (hd : f.dst = s.reg bFAB)

include hk hd

theorem gop_of_operation (h : ¬ OfReset f) : exec (.gop link f) s = .next (s.gopCheck link f) :=
  congrArg Host.Outcome.next ((if_neg (by simp [hk, hd])).trans (if_neg h))

theorem gop_of_no_composition (hp : s.partOf f.comp = none) : exec (.gop link f) s = .next (s.dropFlit 0x104) := by
  refine congrArg Host.Outcome.next ((if_neg (by simp [hk, hd])).trans ?_)
  split
  · simp only [hp]
  · simp only [State.gopCheck, hp]

variable (hp : s.partOf f.comp = some p)

include hp

theorem gop_of_other_epoch (he : (s.part p).epoch % 65536 ≠ f.cepoch) : exec (.gop link f) s = .next (s.dropFlit 0x100) := by
  refine congrArg Host.Outcome.next ((if_neg (by simp [hk, hd])).trans ?_)
  split
  · simp only [hp]
    exact if_pos he
  · simp only [State.gopCheck, hp]
    exact if_pos he

variable (he : (s.part p).epoch % 65536 = f.cepoch)

include he

theorem gop_of_reset (h : OfReset f) : exec (.gop link f) s = .next (s.resetGop p link (f.aux / 256 % 16)) := by
  refine congrArg Host.Outcome.next ((if_neg (by simp [hk, hd])).trans ((if_pos h).trans ?_))
  simp only [hp]
  exact if_neg (not_not_intro he)

end

/-- Settles O17: the reasons to drop the flit, the composition's reset, and the flit's SEQ against its node's. -/
theorem gopFlit : Obligations.GopFlit := by
  intro link f s hk hd reset
  refine ⟨gop_of_no_composition hk hd, fun p => gop_of_other_epoch hk hd, fun p hp he => ⟨gop_of_reset hk hd hp he,
    fun hr hs => ?_, fun hr hs hn => ?_, fun hr hs hn => ?_⟩⟩
  all_goals rw [gop_of_operation hk hd hr, gopCheck_of_composition hp he]
  · rw [if_pos hs]
    rfl
  · rw [if_neg hs, if_pos hn]
  · rw [if_neg hs, if_neg hn]
    rfl

end Sys2Proof.Laws
end

section
/-! PROOFS. Bind requests that the Curator takes (spec/13: R333 to R358). -/
namespace Sys2Proof.Laws

open Machine

/-- A walk over a list leaves a part of the state as it is where each of its steps does. -/
theorem view_of_cons {α β : Type} (g : State → β) (f : State → List α → State) (hnil : ∀ s, g (f s []) = g s)
    (hcons : ∀ s x xs, ∃ t, f s (x :: xs) = f t xs ∧ g t = g s) (s : State) (l : List α) : g (f s l) = g s := by
  induction l generalizing s with
  | nil => exact hnil s
  | cons x xs ih =>
    obtain ⟨t, hf, ht⟩ := hcons s x xs
    rw [hf, ih, ht]

/-! ### The table of partitions under what a reservation writes (R349) -/

section

variable (s : State)

@[simp] theorem parts_ite (c : Prop) [Decidable c] (a b : State) :
    (if c then a else b).parts = if c then a.parts else b.parts := apply_ite ..

@[simp] theorem parts_newKey : s.newKey.1.parts = s.parts := by simp [State.newKey, State.drbg]

@[simp] theorem parts_takeRegions (p g : Nat) (l : List Nat) : (s.takeRegions p g l).parts = s.parts :=
  view_of_cons State.parts (fun s l => s.takeRegions p g l) (fun _ => rfl) (fun _ _ _ => ⟨_, rfl, by simp⟩) s l

@[simp] theorem parts_giveTakings (g : Nat) (l : List Taking) : (s.giveTakings g l).parts = s.parts :=
  view_of_cons State.parts (fun s l => s.giveTakings g l) (fun _ => rfl) (fun _ _ _ => ⟨_, rfl, by simp⟩) s l

@[simp] theorem parts_takeGroup (p : Nat) (m : EnvMember) (x : Nat × Nat × List Nat) : (s.takeGroup p m x).parts = s.parts := by
  simp [State.takeGroup]

@[simp] theorem parts_takeGroups (p : Nat) (m : EnvMember) (l : List (Nat × Nat × List Nat)) : (s.takeGroups p m l).parts = s.parts :=
  view_of_cons State.parts (fun s l => s.takeGroups p m l) (fun _ => rfl) (fun _ _ _ => ⟨_, rfl, by simp⟩) s l

@[simp] theorem parts_setBuckets (base rem : Nat) (l : List Nat) : (s.setBuckets base rem l).parts = s.parts := by
  induction l generalizing s rem with
  | nil => rfl
  | cons m ms ih => simp [State.setBuckets, ih]

@[simp] theorem parts_setQos (p role flags : Nat) (m : EnvMember) (ks : List Nat) : (s.setQos p role flags m ks).parts = s.parts := by
  simp [State.setQos]

@[simp] theorem parts_mapCarve (p : Nat) : (s.mapCarve p).parts = s.parts :=
  view_of_cons State.parts State.writeTables (fun _ => rfl) (fun _ _ _ => ⟨_, rfl, by simp⟩) s _

@[simp] theorem parts_reshare (ks : List Nat) : (s.reshare ks).parts = s.parts :=
  view_of_cons State.parts State.reshare (fun _ => rfl) (fun _ _ _ => ⟨_, rfl, rfl⟩) s ks

@[simp] theorem parts_mbEvent (p type detail : Nat) : (s.mbEvent p type detail).parts = s.parts :=
  (congrArg State.parts (reported_mbEvent s p type detail).rest :)

/-- A partition that is RESERVED anew keeps everything but its state; the others stay as they are. -/
theorem parts_setSt_reserved {p : Nat} (h : (s.part p).st ≠ .reserved) :
    (s.setSt p .reserved).parts = (s.modPart p fun q => { q with st := .reserved }).parts := by
  simp [State.setSt, h, State.endTenants]

/-- What a reservation writes once the partition is written leaves the table of partitions as it is. -/
theorem parts_reserved (p role flags k l v w : Nat) (m : EnvMember) (ks : List Nat) :
    (((((s.setQos p role flags m ks).mapCarve p).setReg k v).setReg l w).reshare ks).parts = s.parts := by
  simp

theorem parts_setPart_of_parts {s t : State} (h : t.parts = s.parts) (p : Nat) (q : Part) :
    (t.setPart p q).parts = (s.setPart p q).parts :=
  congrArg (tblSet (fun _ => Part.reset) · p q) h

theorem part_of_parts {s t : State} (h : t.parts = s.parts) (x : Nat) : t.part x = s.part x :=
  congrArg (tblGet (fun _ => Part.reset) · x) h

theorem free_of_freePart {s : State} {p : Nat} (h : s.freePart = some p) : (s.part p).st = .free := by
  have hp := List.find?_some h
  simp only [Bool.and_eq_true, beq_iff_eq] at hp
  exact hp.1.1.1

/-- A reservation either ends with a result, and nothing has changed, or takes a free partition: that partition is written, no
other is, and then it is RESERVED (R349). -/
theorem reserveHere_cases (e : Envelope) (m : EnvMember) :
    (∃ code, code ≠ 0 ∧ s.reserveHere e m = (s, code, 0))
    ∨ ∃ (p : Nat) (q : Part) (t : State), s.freePart = some p ∧ q.st = .free ∧ q.comp = e.comp ∧ t.parts = (s.setPart p q).parts
      ∧ s.reserveHere e m = (t.setSt p .reserved, 0, p) := by
  unfold State.reserveHere
  dsimp only
  split
  next p ks hp _ =>
    split
    · exact .inl ⟨_, by split <;> decide, rfl⟩
    next gs _ =>
      split
      · exact .inl ⟨3, by decide, rfl⟩
      · refine .inr ⟨p, _, _, hp, ?_, ?_,
          (parts_reserved ..).trans (parts_setPart_of_parts (parts_takeGroups s p m gs) p _), rfl⟩ <;> rfl
  next => exact .inl ⟨3, by decide, rfl⟩

variable {s} {e : Envelope} {m : EnvMember} {t : State} {code p : Nat}

theorem eq_of_reserveHere_refused (h : s.reserveHere e m = (t, code, p)) (hc : code ≠ 0) : t = s := by
  rcases reserveHere_cases s e m with ⟨_, _, hr⟩ | ⟨_, _, _, _, _, _, _, hr⟩
  · exact (congrArg Prod.fst (hr.symm.trans h)).symm
  · exact absurd (congrArg (·.2.1) (hr.symm.trans h)).symm hc

theorem parts_of_reserveHere (h : s.reserveHere e m = (t, 0, p)) :
    (s.part p).st = .free ∧ (t.part p).st = .reserved ∧ (t.part p).comp = e.comp ∧ ∀ x, x ≠ p → t.part x = s.part x := by
  rcases reserveHere_cases s e m with ⟨_, hc, hr⟩ | ⟨p', q, u, hp, hst, hcomp, hu, hr⟩
  · exact absurd (congrArg (·.2.1) (hr.symm.trans h)) hc
  · obtain ⟨rfl, -, rfl⟩ : u.setSt p' .reserved = t ∧ 0 = 0 ∧ p' = p := by simpa using hr.symm.trans h
    have hq : u.part p' = q := (part_of_parts hu p').trans (part_setPart s p' q)
    have ht := part_of_parts (parts_setSt_reserved u (p := p') (by rw [hq, hst]; decide))
    refine ⟨free_of_freePart hp, ?_, ?_, fun x hx => ?_⟩
    · rw [ht, part_modPart]
    · rw [ht, part_modPart, hq, hcomp]
    · rw [ht, part_modPart_ne _ _ hx, part_of_parts hu, part_setPart_ne _ _ hx]

end

/-! ### A bind request taken (R352, R353) -/

section

variable {s s0 : State} {from_ : BindFrom} {op : Nat} {descs : List (Nat × Nat)} {mctp : List Nat} {comp : Nat} {env : List Byte}

/-- The request that the Curator takes is what its operation works on, and then its source goes on. -/
theorem bindGo_of_starts (h : BindStarts s from_ op descs mctp comp env s0)
    (f : List (Nat × Nat) → List Nat → Nat → List Byte → State → State) :
    s.bindGo from_ op f = bindEnds from_ (f descs mctp comp env s0) := by
  obtain ⟨-, h⟩ := h
  cases from_ with
  | ring r =>
    obtain ⟨d, ⟨hd, ht, hst, hpr, rfl⟩, hop, rfl, rfl, rfl, rfl⟩ := h
    simp only [State.bindGo, hd, State.startDesc, ht, hop, hst, hpr]
    rfl
  | mctp =>
    obtain ⟨m, ms, hm, hop, rfl, rfl, rfl, rfl, rfl⟩ := h
    simp only [State.bindGo, hm]
    exact if_pos hop

/-- What a bind command answers for the request that it takes. -/
theorem next_of_bindStarts {f : List (Nat × Nat) → List Nat → Nat → List Byte → State → State} {t : State}
    (h : BindStarts s from_ op descs mctp comp env s0) (ht : f descs mctp comp env s0 = t) :
    (Host.Outcome.next (if s.bindWaits from_ then s else s.bindGo from_ op f) : Out) = .next (bindEnds from_ t) := by
  rw [if_neg (ne_true_of_eq_false h.1), bindGo_of_starts h, ht]

end

/-! ### BIND_RESERVE (R333, R337, R349, R352) -/

section

variable {s s0 : State} {from_ : BindFrom} {descs : List (Nat × Nat)} {mctp : List Nat} {comp : Nat} {env : List Byte}
variable (h : BindStarts s from_ 1 descs mctp comp env s0)

include h

theorem bindReserve_of_unnamed (hm : (envelopeOf env).entryOf (s0.reg bFAB) = none) :
    exec (.bindReserve from_) s = .next (bindEnds from_ (s0.bindReply descs mctp (envelopeOf env).comp 1)) :=
  next_of_bindStarts h (by simp only [hm])

variable {m : EnvMember} (hm : (envelopeOf env).entryOf (s0.reg bFAB) = some m)

include hm

theorem bindReserve_of_bad (hb : s0.envelopeBad (envelopeOf env) = true ∨ (envelopeOf env).anchor ≠ s0.reg bFAB) :
    exec (.bindReserve from_) s = .next (bindEnds from_ (s0.bindReply descs mctp (envelopeOf env).comp 1)) :=
  next_of_bindStarts h (by simp only [hm]; exact if_pos hb)

/-- The composition number is none that a composition may have, or one that is held. -/
def NumberTaken (s : State) (n : Nat) : Prop := n = 0 ∨ n = 0xFFFFFF ∨ (s.partOf n).isSome

variable (hb : ¬ (s0.envelopeBad (envelopeOf env) = true ∨ (envelopeOf env).anchor ≠ s0.reg bFAB))

include hb

theorem bindReserve_of_taken (hn : NumberTaken s0 (envelopeOf env).comp) :
    exec (.bindReserve from_) s = .next (bindEnds from_ (s0.bindReply descs mctp (envelopeOf env).comp 4)) :=
  next_of_bindStarts h (by simp only [hm]; exact (if_neg hb).trans (if_pos hn))

variable (hn : ¬ NumberTaken s0 (envelopeOf env).comp)

include hn

theorem bindReserve_of_version (hv : (envelopeOf env).sfr ≠ schedFmtRev) :
    exec (.bindReserve from_) s = .next (bindEnds from_ (s0.bindReply descs mctp (envelopeOf env).comp 2)) :=
  next_of_bindStarts h (by simp only [hm]; exact (if_neg hb).trans ((if_neg hn).trans (if_pos hv)))

variable (hv : (envelopeOf env).sfr = schedFmtRev) {t : State} {p : Nat}

include hv

theorem bindReserve_of_refused {code : Nat} (hr : s0.reserveHere (envelopeOf env) m = (t, code, p)) (hc : code ≠ 0) :
    exec (.bindReserve from_) s = .next (bindEnds from_ (s0.bindReply descs mctp (envelopeOf env).comp code)) :=
  next_of_bindStarts h (by
    simp only [hm, hr]
    exact (if_neg hb).trans ((if_neg hn).trans ((if_neg (not_not_intro hv)).trans (if_pos hc))))

/-- The partition `p` reserved in `t`, with the operation begun. -/
def reserveBegun (t : State) (p : Nat) (descs : List (Nat × Nat)) (mctp : List Nat) : State :=
  (t.opBegin p 1 descs mctp none).modPart p fun q => { q with infos := [t.infoOf p] }

theorem bindReserve_of_reserved (hr : s0.reserveHere (envelopeOf env) m = (t, 0, p)) {u : State}
    (hu : (if ((reserveBegun t p descs mctp).otherMembers p).isEmpty then (reserveBegun t p descs mctp).opEnd p 0
      else (reserveBegun t p descs mctp).tellBytes p 2 (envelopeOf env).comp env) = u) :
    exec (.bindReserve from_) s = .next (bindEnds from_ u) :=
  next_of_bindStarts h (by
    simp only [hm, hr]
    exact (if_neg hb).trans ((if_neg hn).trans ((if_neg (not_not_intro hv)).trans ((if_neg (not_not_intro rfl)).trans hu))))

end

/-- Settles O20: the refusals in the order of the model's checks, then what the units give. -/
theorem bindReserve : Obligations.BindReserve := by
  intro from_ descs mctp comp env s s0 h e own answers
  refine ⟨bindReserve_of_unnamed h, fun m hm => ⟨bindReserve_of_bad h hm, fun hbad hanchor => ?_⟩⟩
  have hb : ¬ (s0.envelopeBad e = true ∨ e.anchor ≠ own) := by simp [hbad, hanchor]
  refine ⟨bindReserve_of_taken h hm hb, fun hn => ⟨bindReserve_of_version h hm hb hn, fun hv t code p hr => ⟨fun hc => ?_, ?_⟩⟩⟩
  · exact ⟨bindReserve_of_refused h hm hb hn hv hr hc, eq_of_reserveHere_refused hr hc⟩
  · rintro rfl
    obtain ⟨hfree, hst, hcomp, hothers⟩ := parts_of_reserveHere hr
    exact ⟨hfree, hst, hcomp, hothers, fun halone => bindReserve_of_reserved h hm hb hn hv hr (if_pos (List.isEmpty_iff.2 halone)),
      fun hmore => bindReserve_of_reserved h hm hb hn hv hr (if_neg (mt List.isEmpty_iff.1 hmore))⟩

/-! ### BIND_SEAL (R340, R350) -/

section

variable {s s0 : State} {from_ : BindFrom} {plan : PlaceSpec} {descs : List (Nat × Nat)} {mctp : List Nat} {comp : Nat}
variable {env : List Byte} (h : BindStarts s from_ 2 descs mctp comp env s0)

include h

theorem bindSeal_of_not_anchored (ha : s0.anchorOf comp = none) :
    exec (.bindSeal from_ plan) s = .next (bindEnds from_ (s0.bindReply descs mctp comp 0x0D)) :=
  next_of_bindStarts h (by simp only [ha])

variable {p : Nat} (ha : s0.anchorOf comp = some p)

include ha

theorem bindSeal_of_state (hq : (s0.part p).st ≠ .reserved ∨ (s0.part p).op.isSome) :
    exec (.bindSeal from_ plan) s = .next (bindEnds from_ (s0.bindEnd p 2 0x0D descs mctp)) :=
  next_of_bindStarts h (by simp only [ha]; exact if_pos hq)

variable (hq : ¬ ((s0.part p).st ≠ .reserved ∨ (s0.part p).op.isSome)) {t : State}

include hq

theorem bindSeal_of_unplaced {code : Nat} (hr : s0.placePart p (s0.placedPlan p plan) = (t, code)) (hc : code ≠ 0) :
    exec (.bindSeal from_ plan) s = .next (bindEnds from_ (s0.bindEnd p 2 code descs mctp)) :=
  next_of_bindStarts h (by
    simp only [ha, hr]
    exact (if_neg hq).trans (if_pos hc))

/-- The anchor's part, in `t`, placed by `pl`, with the operation begun. -/
def sealBegun (s0 t : State) (p : Nat) (pl : PlaceSpec) (descs : List (Nat × Nat)) (mctp : List Nat) : State :=
  (t.opBegin p 2 descs mctp none).modPart p fun q =>
    { (q.addPlaces (s0.reg bFAB) pl.places) with plan := some pl, infos := q.infos.filter (·.fid != s0.reg bFAB) ++ [t.infoOf p] }

theorem bindSeal_of_placed {pl : PlaceSpec} (hpl : s0.placedPlan p plan = pl) (hr : s0.placePart p pl = (t, 0)) {u : State}
    (hu : (if ((sealBegun s0 t p pl descs mctp).otherMembers p).isEmpty then (sealBegun s0 t p pl descs mctp).sealSend p pl.table
      else (sealBegun s0 t p pl descs mctp).tellMembers p 4 0 0) = u) :
    exec (.bindSeal from_ plan) s = .next (bindEnds from_ u) :=
  next_of_bindStarts h (by
    simp only [ha, hpl, hr]
    exact (if_neg hq).trans ((if_neg (not_not_intro rfl)).trans hu))

end

/-! ### BIND_DISSOLVE (R357) -/

section

variable {s s0 : State} {from_ : BindFrom} {descs : List (Nat × Nat)} {mctp : List Nat} {comp : Nat} {env : List Byte}
variable (h : BindStarts s from_ 5 descs mctp comp env s0)

include h

theorem bindDissolve_of_not_anchored (ha : s0.anchorOf comp = none) :
    exec (.bindDissolve from_) s = .next (bindEnds from_ (s0.bindReply descs mctp comp 0x0D)) :=
  next_of_bindStarts h (by simp only [ha])

/-- What a composition is busy with that no dissolution may interrupt (R357). -/
def DissolveBusy (q : Part) : Prop :=
  q.launch.isSome = true ∨ q.queue ≠ [] ∨ q.op.isSome = true ∨ q.st = .rebinding ∨ q.st = .resetting ∨ q.st = .dissolving

variable {p : Nat} (ha : s0.anchorOf comp = some p)

include ha

theorem bindDissolve_of_busy (hb : DissolveBusy (s0.part p)) :
    exec (.bindDissolve from_) s = .next (bindEnds from_ (s0.bindEnd p 5 0x0D descs mctp)) :=
  next_of_bindStarts h (by simp only [ha]; exact if_pos (by simpa [DissolveBusy] using hb))

theorem bindDissolve_of_idle (hb : ¬ DissolveBusy (s0.part p)) : exec (.bindDissolve from_) s =
    .next (bindEnds from_ (((s0.opBegin p 5 descs mctp none).tellMembers p 17 0 0).dissolveHere p)) :=
  next_of_bindStarts h (by simp only [ha]; exact if_neg (by simpa [DissolveBusy] using hb))

end

/-! ### BIND_REBIND (R352, R358) -/

section

variable {s s0 : State} {from_ : BindFrom} {descs : List (Nat × Nat)} {mctp : List Nat} {comp : Nat} {env : List Byte}
variable {p : Nat} {o : BindOp}

theorem rebindAsk_planning (ho : (s0.part p).op = some o) (hp : o.op = 3 ∧ o.step = 0) :
    s0.rebindAsk p descs mctp = s0.modOp p fun o => { o with descs := o.descs ++ descs, mctp := o.mctp ++ mctp } := by
  simp only [State.rebindAsk, ho]
  exact if_pos hp

theorem rebindAsk_of_operation (ho : (s0.part p).op = some o) (hp : ¬ (o.op = 3 ∧ o.step = 0)) :
    s0.rebindAsk p descs mctp = s0.bindEnd p 3 0x0D descs mctp := by
  simp only [State.rebindAsk, ho]
  exact if_neg hp

theorem rebindAsk_of_sealed (ho : (s0.part p).op = none) (hst : (s0.part p).st = .sealed) :
    s0.rebindAsk p descs mctp = s0.rebindBegin p descs mctp := by
  simp only [State.rebindAsk, ho]
  exact if_pos hst

theorem rebindAsk_of_not_sealed (ho : (s0.part p).op = none) (hst : (s0.part p).st ≠ .sealed) :
    s0.rebindAsk p descs mctp = s0.bindEnd p 3 0x0D descs mctp := by
  simp only [State.rebindAsk, ho]
  exact if_neg hst

variable (h : BindStarts s from_ 4 descs mctp comp env s0)

include h

theorem bindRebind_of_not_anchored (ha : s0.anchorOf comp = none) :
    exec (.bindRebind from_) s = .next (bindEnds from_ (s0.bindReply descs mctp comp 0x0D)) :=
  next_of_bindStarts h (by simp only [ha])

theorem bindRebind_of_anchored (ha : s0.anchorOf comp = some p) {t : State} (ht : s0.rebindAsk p descs mctp = t) :
    exec (.bindRebind from_) s = .next (bindEnds from_ t) :=
  next_of_bindStarts h (by simpa only [ha] using ht)

end

/-! ### BIND_ENVELOPE_UPDATE (R335, R354 to R356) -/

/-- The update prepared here, in `t`, is sent to the other members it names, and goes on where there is none (R354). -/
def updateBegun (s0 t : State) (p : Nat) (descs : List (Nat × Nat)) (mctp : List Nat) (env : List Byte) : State :=
  let e := envelopeOf env
  let others := (e.members.map (·.fid)).filter (· ≠ s0.reg bFAB)
  let t1 := (t.opBegin p 4 descs mctp (some e)).modOp p fun o => { o with wait := others }
  (t1.emits (others.flatMap fun f => [.curator f 2 e.comp 0, .catalogue f env])).updateGo p

section

variable {s s0 : State} {from_ : BindFrom} {descs : List (Nat × Nat)} {mctp : List Nat} {comp : Nat} {env : List Byte}
variable (h : BindStarts s from_ 3 descs mctp comp env s0)

include h

theorem bindUpdate_of_not_anchored (ha : s0.anchorOf (envelopeOf env).comp = none) :
    exec (.bindEnvelopeUpdate from_) s = .next (bindEnds from_ (s0.bindReply descs mctp (envelopeOf env).comp 0x0D)) :=
  next_of_bindStarts h (by simp only [ha])

variable {p : Nat} (ha : s0.anchorOf (envelopeOf env).comp = some p)

include ha

theorem bindUpdate_of_unnamed (hm : (envelopeOf env).entryOf (s0.reg bFAB) = none) :
    exec (.bindEnvelopeUpdate from_) s = .next (bindEnds from_ (s0.bindEnd p 4 1 descs mctp)) :=
  next_of_bindStarts h (by simp only [ha, hm])

variable {m : EnvMember} (hm : (envelopeOf env).entryOf (s0.reg bFAB) = some m)

include hm

theorem bindUpdate_of_state (hq : ¬ ((s0.part p).st = .reserved ∨ (s0.part p).st = .sealed) ∨ (s0.part p).op.isSome = true) :
    exec (.bindEnvelopeUpdate from_) s = .next (bindEnds from_ (s0.bindEnd p 4 0x0D descs mctp)) :=
  next_of_bindStarts h (by
    simp only [ha, hm]
    exact if_pos (by simpa using hq))

variable (hq : ¬ (¬ ((s0.part p).st = .reserved ∨ (s0.part p).st = .sealed) ∨ (s0.part p).op.isSome = true))

include hq

/-- The envelope is bad by its own role or by the partition's, names another anchor, or is not newer than the one in force
(R335, R336; log 53). -/
def UpdateBad (s : State) (q : Part) (e : Envelope) : Prop :=
  (s.envelopeBad e || s.envelopeBad (q.ownRole e)) = true ∨ e.anchor ≠ q.anchor ∨ e.seq ≤ q.envSeq

theorem bindUpdate_of_bad (hb : UpdateBad s0 (s0.part p) (envelopeOf env)) :
    exec (.bindEnvelopeUpdate from_) s = .next (bindEnds from_ (s0.bindEnd p 4 1 descs mctp)) :=
  next_of_bindStarts h (by
    simp only [ha, hm]
    exact (if_neg (by simpa using hq)).trans (if_pos (by simpa [UpdateBad, or_assoc] using hb)))

variable (hb : ¬ UpdateBad s0 (s0.part p) (envelopeOf env))

include hb

/-- A good update goes on to the format, the homes and the slice it asks, in this order. -/
theorem bindUpdate_of_good {t : State}
    (ht : (if (envelopeOf env).sfr ≠ schedFmtRev then s0.bindEnd p 4 2 descs mctp
      else if unitsHeld (s0.part p) (envelopeOf env) then s0.bindEnd p 4 0x0E descs mctp
      else if (s0.accede p (envelopeOf env) m).2 ≠ 0 then s0.bindEnd p 4 (s0.accede p (envelopeOf env) m).2 descs mctp
      else updateBegun s0 (s0.accede p (envelopeOf env) m).1 p descs mctp env) = t) :
    exec (.bindEnvelopeUpdate from_) s = .next (bindEnds from_ t) :=
  next_of_bindStarts h (by
    simp only [ha, hm]
    exact (if_neg (by simpa using hq)).trans ((if_neg (by simpa [UpdateBad, or_assoc] using hb)).trans ht))

end

/-- Settles O21: each request in the order of its command's tests. That an update is judged by the partition's own role is the
model's choice (log 53). -/
theorem bindOperations : Obligations.BindOperations := by
  intro from_ plan descs mctp comp env s s0 fin e
  refine ⟨fun h => ⟨bindSeal_of_not_anchored h, fun p ha => ⟨bindSeal_of_state h ha, fun hst ho pl t code hpl hr => ?_⟩⟩,
    fun h => ⟨bindDissolve_of_not_anchored h, fun p ha => ⟨bindDissolve_of_busy h ha, bindDissolve_of_idle h ha⟩⟩,
    fun h => ⟨bindRebind_of_not_anchored h, fun p ha => ⟨
      fun o ho hop hstep => bindRebind_of_anchored h ha (rebindAsk_planning ho ⟨hop, hstep⟩),
      fun o ho hp => bindRebind_of_anchored h ha (rebindAsk_of_operation ho hp),
      fun ho hst => bindRebind_of_anchored h ha (rebindAsk_of_sealed ho hst),
      fun ho hst => bindRebind_of_anchored h ha (rebindAsk_of_not_sealed ho hst)⟩⟩,
    fun h => ⟨bindUpdate_of_not_anchored h, fun p => bindUpdate_of_unnamed h, fun p m ha hm => ⟨?_, ?_⟩⟩⟩
  · have hq : ¬ ((s0.part p).st ≠ .reserved ∨ (s0.part p).op.isSome) := by simp [hst, ho]
    subst hpl
    refine ⟨bindSeal_of_unplaced h ha hq hr, ?_⟩
    rintro rfl
    exact ⟨fun halone => bindSeal_of_placed h ha hq rfl hr (if_pos (List.isEmpty_iff.2 halone)),
      fun hmore => bindSeal_of_placed h ha hq rfl hr (if_neg (mt List.isEmpty_iff.1 hmore))⟩
  · exact bindUpdate_of_state h ha hm
  · intro hst ho
    have hq : ¬ (¬ ((s0.part p).st = .reserved ∨ (s0.part p).st = .sealed) ∨ (s0.part p).op.isSome = true) := by simp [hst, ho]
    refine ⟨bindUpdate_of_bad h ha hm hq, fun hbad hanchor hseq => ?_⟩
    have hb : ¬ UpdateBad s0 (s0.part p) e := by
      rintro (hb | hb | hb)
      · exact absurd (hb.symm.trans hbad) (by decide)
      · exact hb hanchor
      · exact absurd hseq (Nat.not_lt.2 hb)
    have hgood {t : State} := bindUpdate_of_good h ha hm hq hb (t := t)
    refine ⟨fun hv => hgood (if_pos hv), fun hv hu => hgood ((if_neg (not_not_intro hv)).trans (if_pos hu)),
      fun hv hu t code hr => ?_⟩
    rw [hr, if_neg (not_not_intro hv), if_neg (ne_true_of_eq_false hu)] at hgood
    refine ⟨fun hc => hgood (if_pos hc), ?_⟩
    rintro rfl
    exact hgood (if_neg (not_not_intro rfl))

end Sys2Proof.Laws
end

section
/-! PROOFS. What the members of a composition do in the bind operations (spec/13: R338 to R371). -/
namespace Sys2Proof.Laws

open Machine

/-! ### The manager's re-bind (R353, R358, R371) -/

/-- Partition 0 is SEALED, idle and anchored at this module, and a re-bind request that met a busy Curator is still due (log 1). -/
def rebindDue : State :=
  State.reset.setPart 0 { Part.reset with st := .sealed, anchor := State.reset.reg bFAB, rebindDue := true }

/-- The hypotheses of the clause on the manager's re-bind are met. -/
theorem rebindDue_idle :
    (rebindDue.part 0).anchor = rebindDue.reg bFAB ∧ (rebindDue.part 0).st = .sealed ∧ (rebindDue.part 0).op = none
    ∧ rebindDue.curBusy = false := by
  decide +kernel

/-- The request that begins the re-bind is due no longer. -/
theorem rebindDue_cleared {t : State} (h : exec (.rebindRequest 0) rebindDue = .next t) : (t.part 0).rebindDue = false := by
  have hrun : (match exec (.rebindRequest 0) rebindDue with
      | .next u => (u.part 0).rebindDue
      | _ => true) = false := by
    decide +kernel
  rw [h] at hrun
  exact hrun

/-- A re-bind begun, without more, leaves the request due. -/
theorem rebindDue_kept : (((rebindDue.setBits (kPartCtrl 0) 1).rebindBegin 0 [] []).part 0).rebindDue = true := by
  decide +kernel

/-- Refutes O22: in `rebindDue` the anchor's clause on REBIND_REQUEST asks for the state in which the re-bind is begun and nothing
else has changed; the command also clears the mark of a request that waited for the Curator. -/
theorem not_memberOperations : ¬ Obligations.MemberOperations := by
  intro h
  obtain ⟨hanchor, hsealed, hop, hfree⟩ := rebindDue_idle
  obtain ⟨-, -, hmanager⟩ := h 0 ⟨[], [], [], [], [], ⟨0, none, [], 0⟩⟩ [] [] 0 rebindDue
  obtain ⟨hbegins, -⟩ := hmanager hanchor hsealed
  exact Bool.false_ne_true ((rebindDue_cleared (hbegins hop hfree)).symm.trans rebindDue_kept)

/-! ### Reports and losses (R138, R338, R352, R362, R524) -/

section

variable {s : State} {p : PartId} {fid : Fin 16384}

/-! A fault of another member -/

theorem remoteFault_of_known {l : Launch} (hl : (s.part p).launch = some l) (hr : l.result ≠ 0) (v code : Nat) :
    s.remoteFault p v code = s := by
  simp only [State.remoteFault, hl]
  exact if_pos hr

/-- The partition with the fault of virtual core `v` as the result of its launch `l` (R137). -/
def faultTaken (l : Launch) (v code : Nat) (q : Part) : Part :=
  { q with launch := some { l with result := 1, faultCore := v, faultCode := code } }

/-- Beside the partition, the first fault of another member changes the cores and what is sent. -/
theorem remoteFault_of_first {l : Launch} (hl : (s.part p).launch = some l) (hr : l.result = 0) (v code : Nat) :
    ∃ out, s.remoteFault p v code =
      { s.modPart p (faultTaken l v code) with cores := stopOthers p 0xFFFFFFFF s.cores, out := out } := by
  simp only [State.remoteFault, hl, hr]
  by_cases ha : (s.part p).anchor = s.reg bFAB
  · exact ⟨_, (if_pos ha).trans rfl⟩
  · exact ⟨_, (if_neg ha).trans rfl⟩

variable (ha : (s.part p).anchor = s.reg bFAB)

include ha

theorem memberReport_switchedIn : exec (.memberReport p fid .switchedIn) s =
    .next ((s.modPart p fun q => { q with swWait := q.swWait.filter (· ≠ fid.val) }).launchNext p) :=
  congrArg Host.Outcome.next (if_pos (beq_iff_eq.2 ha))

theorem memberReport_loaded (slot status : Nat) (places : List SlotPlace) :
    exec (.memberReport p fid (.loaded slot status places)) s = .next (s.loadReport p fid slot status places) :=
  congrArg Host.Outcome.next (if_pos (beq_iff_eq.2 ha))

variable {o : BindOp} (ho : (s.part p).op = some o)

include ho

theorem memberReport_prepared (hw : o.wait.contains fid.val = true) (result : Nat) (info : MemberInfo) :
    exec (.memberReport p fid (.prepared result info)) s = .next (s.opReport p fid (.prepared result info) o) := by
  refine congrArg Host.Outcome.next ?_
  simp only [ho]
  exact if_pos ⟨beq_iff_eq.2 ha, .inl hw⟩

theorem memberTimeout_of_waiting (hw : o.wait ≠ []) : exec (.memberTimeout p) s = .next (s.memberGone p 0x0A) := by
  refine congrArg Host.Outcome.next ?_
  simp only [ho]
  exact if_pos ⟨ha, by simpa using hw⟩

/-- The retries that the anchor has counted for a member. -/
def retriesOf (q : Part) (fid : Nat) : Nat := tblGet (fun _ => 0) q.retries fid

theorem curatorMessageRetry_again (hw : o.wait.contains fid.val = true) (hn : retriesOf (s.part p) fid < 3) :
    exec (.curatorMessageRetry p fid) s = .next ((s.modPart p fun q =>
      { q with retries := tblSet (fun _ => 0) q.retries fid.val (retriesOf (s.part p) fid + 1) }).resendTo fid (s.part p) o) := by
  refine congrArg Host.Outcome.next ?_
  simp only [ho]
  exact (if_neg (by simpa [ha] using hw)).trans (if_pos hn)

theorem curatorMessageRetry_last (hw : o.wait.contains fid.val = true) (hn : 3 ≤ retriesOf (s.part p) fid) :
    exec (.curatorMessageRetry p fid) s = .next ((s.modPart p fun q =>
      { q with retries := tblSet (fun _ => 0) q.retries fid.val 0 }).memberGone p 0x0A) := by
  refine congrArg Host.Outcome.next ?_
  simp only [ho]
  exact (if_neg (by simpa [ha] using hw)).trans (if_neg (Nat.not_lt.2 hn))

end

/-! Composition resets by message -/

section

variable {s : State} {p : PartId} {cause : ResetCause}

theorem compositionReset_at_anchor (ha : (s.part p).anchor = s.reg bFAB) : exec (.compositionReset p cause) s =
    .next (if cause = .lost ∧ (s.part p).op.isSome then s.memberGone p 0x0B
      else if cause = .lost ∧ (s.part p).st.resets then (s.setSt p .failed).resetStart p cause
      else s.resetStart p cause) :=
  congrArg Host.Outcome.next (if_pos ha)

variable (ha : (s.part p).anchor ≠ s.reg bFAB)

include ha

theorem compositionReset_joins {r : ResetSt} (hr : (s.part p).rst = some r) : exec (.compositionReset p cause) s =
    .next ((s.modPart p fun q => { q with rst := some { r with asked := true } }).resetGo p) := by
  refine congrArg Host.Outcome.next ((if_neg ha).trans ?_)
  simp only [hr]

theorem compositionReset_starts (hr : (s.part p).rst = none) (hst : (s.part p).st.resets = true) :
    exec (.compositionReset p cause) s = .next (s.resetLocal p cause true) := by
  refine congrArg Host.Outcome.next ((if_neg ha).trans ?_)
  simp only [hr]
  exact if_pos hst

end

/-- Settles O23: a member's fault, what the anchor does with reports, timeouts and losses, and a member's part of a reset. -/
theorem memberReports : Obligations.MemberReports := by
  intro p fid cause s q own
  refine ⟨fun v code l hl hr => congrArg Host.Outcome.next (remoteFault_of_known hl hr v code), fun v code l hl hr => ?_,
    fun ha => ⟨memberReport_switchedIn ha, memberReport_loaded ha, fun o result info ho hw => memberReport_prepared ha ho hw result info,
      fun o ho => memberTimeout_of_waiting ha ho, fun o ho => curatorMessageRetry_again ha ho,
      fun o ho => curatorMessageRetry_last ha ho, fun hc => ?_, fun ho => ?_, fun ho hst => ?_⟩,
    fun ha => ⟨fun r => compositionReset_joins ha, compositionReset_starts ha⟩⟩
  · obtain ⟨out, hf⟩ := remoteFault_of_first hl hr v code
    exact ⟨_, congrArg Host.Outcome.next hf, congrArg Part.launch (part_modPart s p (faultTaken l v code)), rfl,
      fun x hx => part_modPart_ne s (faultTaken l v code) hx⟩
  · rw [compositionReset_at_anchor ha, if_neg fun h => hc h.1, if_neg fun h => hc h.1]
  · rw [compositionReset_at_anchor ha, if_pos ⟨rfl, ho⟩]
  · rw [compositionReset_at_anchor ha, if_neg fun h => Option.isSome_iff_ne_none.1 h.2 ho, if_pos ⟨rfl, hst⟩]

end Sys2Proof.Laws
end

section
/-! PROOFS. Switching of shared clusters, and the allocator pool (spec/13: R363, R364, R367). -/
namespace Sys2Proof.Laws

open Machine

/-! ### Switching (R363, R364) -/

section

variable {s : State} {p : PartId}

theorem quantumExpiry_of_early (h : s.now < (s.part p).switchAt + 1000 * (s.part p).quantum) : exec (.quantumExpiry p) s = .next s :=
  congrArg Host.Outcome.next (if_neg fun hover => Nat.not_le.2 h hover.2.2)

theorem quantumExpiry_of_over (hf : flagSliceable (s.part p).flags = true) (hst : (s.part p).st = .sealed)
    (h : (s.part p).switchAt + 1000 * (s.part p).quantum ≤ s.now) :
    exec (.quantumExpiry p) s = .next ((s.modPart p fun q => { q with quantumOver := true }).grantSwitches 32) :=
  congrArg Host.Outcome.next (if_pos ⟨hf, hst, h⟩)

theorem switchInRequest_of_first (at_ : W64) (ha : (s.part p).anchor ≠ s.reg bFAB)
    (hst : (s.part p).st = .sealed ∨ (s.part p).st = .suspended) (hw : s.switches.any (fun x => x.part == p.val) = false) :
    exec (.switchInRequest p at_) s =
      .next (({ s with switches := s.switches ++ [⟨p, at_.toNat⟩] } : State).grantSwitches 32) := by
  have hnew : ¬ (s.switches.any (fun x => x.part == p.val) = true ∨ (s.part p).anchor = s.reg bFAB
      ∨ (!decide ((s.part p).st = .sealed ∨ (s.part p).st = .suspended)) = true) := by
    simp only [hw, ha, hst]
    decide
  exact congrArg (fun t : State => Host.Outcome.next (t.grantSwitches 32)) (if_neg hnew)

end

/-! ### Pages of the pool (R367) -/

section

variable (s : State) (v : Option PoolPage)

@[simp] theorem groups_setPages (l : List Nat) : (s.setPages v l).groups = s.groups :=
  view_of_cons State.groups (fun s l => s.setPages v l) (fun _ => rfl) (fun _ _ _ => ⟨_, rfl, by simp⟩) s l

@[simp] theorem regions_setPages (l : List Nat) : (s.setPages v l).regions = s.regions :=
  view_of_cons State.regions (fun s l => s.setPages v l) (fun _ => rfl) (fun _ _ _ => ⟨_, rfl, by simp⟩) s l

theorem poolPage_setPages_of_notMem {l : List Nat} {x : Nat} (hx : x ∉ l) : (s.setPages v l).poolPage x = s.poolPage x := by
  induction l generalizing s with
  | nil => rfl
  | cons y ys ih =>
    obtain ⟨hne, hys⟩ := not_or.1 (mt List.mem_cons.2 hx)
    exact (ih _ hys).trans (poolPage_setPoolPage_ne s v hne)

theorem poolPage_setPages_of_mem {l : List Nat} {x : Nat} (hx : x ∈ l) : (s.setPages v l).poolPage x = v := by
  induction l generalizing s with
  | nil => exact absurd hx List.not_mem_nil
  | cons y ys ih =>
    by_cases hys : x ∈ ys
    · exact ih _ hys
    · obtain rfl : x = y := (List.mem_cons.1 hx).resolve_right hys
      exact (poolPage_setPages_of_notMem _ v hys).trans (poolPage_setPoolPage s x v)

theorem group_of_groups {s t : State} (h : t.groups = s.groups) (g : Nat) : t.group g = s.group g :=
  congrArg (tblGet (fun _ => Group.reset) · g) h

theorem region_of_regions {s t : State} (h : t.regions = s.regions) (q : Nat) : t.region q = s.region q :=
  congrArg (tblGet (fun _ => Region.reset) · q) h

theorem poolPage_of_pool {s t : State} (h : t.pool = s.pool) (x : Nat) : t.poolPage x = s.poolPage x :=
  congrArg (tblGet (fun _ => none) · x) h

@[simp] theorem pool_newKey : s.newKey.1.pool = s.pool := by simp [State.newKey, State.drbg, apply_ite State.pool]

@[simp] theorem regions_freeIfEmpty (g : Nat) : (s.freeIfEmpty g).regions = s.regions := by
  simp [State.freeIfEmpty, apply_ite State.regions]

@[simp] theorem pool_freeIfEmpty (g : Nat) : (s.freeIfEmpty g).pool = s.pool := by
  simp [State.freeIfEmpty, apply_ite State.pool]

end

/-! ### A region joins or leaves the pool (R367, R371) -/

/-- Region `r` of group `g` under a fresh key, its group shared: what joins the pool, before its pages do. -/
def poolRegion (s : State) (g r : Nat) : State :=
  let t := s.newKey.1.setRegion (12 * g + r) { Region.reset with keyed := true, keyNo := s.newKey.2 }
  t.setGroup g { t.group g with mode := .shared, exiting := (t.group g).exiting || (t.group g).selfRefresh }

section

variable {s : State} {v : W32} {g r : Nat}

@[simp] theorem group_poolRegion_mode : ((poolRegion s g r).group g).mode = .shared := by simp [poolRegion]

@[simp] theorem region_poolRegion :
    (poolRegion s g r).region (12 * g + r) = { Region.reset with keyed := true, keyNo := s.cus.keyCount + 1 } :=
   region_setRegion s.newKey.1 (12 * g + r) { Region.reset with keyed := true, keyNo := s.newKey.2 }

@[simp] theorem poolPage_poolRegion (x : Nat) : (poolRegion s g r).poolPage x = s.poolPage x :=
  poolPage_of_pool (by simp [poolRegion]) x

variable (hg : bits v.toNat 12 8 = g) (hr : bits v.toNat 3 0 = r)

include hg hr

theorem cmpPoolAdd_of_taken (hlt : r < 12) (hfree : s.regionFree (12 * g + r) = true) (hmode : (s.group g).mode ≠ .dedicated)
    (hroom : (s.pool.filter (·.2.isSome)).length + regionPages (12 * g + r) ≤ 4096) :
    exec (.cmpPoolAdd v) s = .next ((poolRegion s g r).setPages (some ⟨none, false⟩) (poolPages g r)) := by
  subst hg hr
  refine congrArg Host.Outcome.next (if_neg ?_)
  simp only [hfree, hmode, Bool.not_true, Bool.false_eq_true, false_or]
  omega

theorem cmpPoolRemove_of_free (hlt : r < 12) (hfree : ∀ x ∈ poolPages g r, s.poolPage x = some ⟨none, false⟩) :
    exec (.cmpPoolRemove v) s =
      .next (((s.setPages none (poolPages g r)).setRegion (12 * g + r) Region.reset).freeIfEmpty g) := by
  subst hg hr
  exact congrArg Host.Outcome.next (if_pos ⟨hlt, List.all_eq_true.2 fun x hx => beq_iff_eq.2 (hfree x hx)⟩)

omit hg in
theorem cmpPoolAdd_of_no_region (hge : 12 ≤ r) : exec (.cmpPoolAdd v) s = .next s := by
  subst hr
  exact congrArg Host.Outcome.next (if_pos (.inl hge))

omit hg in
theorem cmpPoolRemove_of_no_region (hge : 12 ≤ r) : exec (.cmpPoolRemove v) s = .next s := by
  subst hr
  exact congrArg Host.Outcome.next (if_neg fun h => Nat.not_lt.2 hge h.1)

end

/-- Settles O24: the end of a quantum, a switch-in request, and what joining and leaving the pool writes. -/
theorem switchingAndPool : Obligations.SwitchingAndPool := by
  intro p at_ v s q g r
  refine ⟨quantumExpiry_of_early, quantumExpiry_of_over, switchInRequest_of_first at_, fun hlt hfree hmode hroom => ?_,
    fun hlt hfree => ?_, fun hge => ⟨cmpPoolAdd_of_no_region rfl hge, cmpPoolRemove_of_no_region rfl hge⟩⟩
  · have hregion : ((poolRegion s g r).setPages (some ⟨none, false⟩) (poolPages g r)).region (12 * g + r)
        = { Region.reset with keyed := true, keyNo := s.cus.keyCount + 1 } :=
      (region_of_regions (regions_setPages ..) _).trans region_poolRegion
    refine ⟨_, cmpPoolAdd_of_taken rfl rfl hlt hfree hmode hroom, ?_, congrArg Region.keyed hregion, congrArg Region.keyNo hregion,
      congrArg Region.owner hregion, fun x hx => poolPage_setPages_of_mem _ _ hx,
      fun x hx => (poolPage_setPages_of_notMem _ _ hx).trans (poolPage_poolRegion x)⟩
    exact (congrArg Group.mode (group_of_groups (groups_setPages ..) g)).trans group_poolRegion_mode
  · have hpage (x : Nat) : (((s.setPages none (poolPages g r)).setRegion (12 * g + r) Region.reset).freeIfEmpty g).poolPage x
        = (s.setPages none (poolPages g r)).poolPage x :=
      poolPage_of_pool (by simp) x
    exact ⟨_, cmpPoolRemove_of_free rfl rfl hlt hfree, (region_of_regions (regions_freeIfEmpty ..) _).trans (region_setRegion ..),
      fun x hx => (hpage x).trans (poolPage_setPages_of_mem _ _ hx), fun x hx => (hpage x).trans (poolPage_setPages_of_notMem _ _ hx)⟩

end Sys2Proof.Laws
end

section
/-! PROOFS. The queue and the image types under every operation: but for the handful of operations on firmware images, each leaves
the queue of commands and the table of image types as they are, in every state, whatever the form of its memories (log 1; spec/20:
R551). -/
namespace Sys2Proof.Laws

open Machine

section

variable (s : State) (m : Mv)

@[simp] theorem fw_ite (c : Prop) [Decidable c] (a b : State) : (if c then a else b).fw = if c then a.fw else b.fw := apply_ite ..

@[simp] theorem types_ite (c : Prop) [Decidable c] (a b : FwSt) :
    (if c then a else b).types = if c then a.types else b.types := apply_ite ..

theorem fst_of_eq {β : Type} {x : State × β} {t : State} {b : β} (h : x = (t, b)) : t = x.1 := by rw [h]

/-! #### Machine/Ops.lean -/

@[simp] theorem queue_types_setReg (k v : Nat) : (s.setReg k v).pending = s.pending ∧ (s.setReg k v).fw.types = s.fw.types := ⟨rfl, rfl⟩
@[simp] theorem queue_types_bump (k n : Nat) : (s.bump k n).pending = s.pending ∧ (s.bump k n).fw.types = s.fw.types := ⟨rfl, rfl⟩
@[simp] theorem queue_types_bump64 (k n : Nat) : (s.bump64 k n).pending = s.pending ∧ (s.bump64 k n).fw.types = s.fw.types := ⟨rfl, rfl⟩

@[simp] theorem queue_types_setBits (k m : Nat) :
    (s.setBits k m).pending = s.pending ∧ (s.setBits k m).fw.types = s.fw.types := ⟨rfl, rfl⟩

@[simp] theorem queue_types_clearBits (k m : Nat) :
    (s.clearBits k m).pending = s.pending ∧ (s.clearBits k m).fw.types = s.fw.types := ⟨rfl, rfl⟩

@[simp] theorem queue_types_emit (e : Emit) : (s.emit e).pending = s.pending ∧ (s.emit e).fw.types = s.fw.types := ⟨rfl, rfl⟩
@[simp] theorem queue_types_emits (es : List Emit) : (s.emits es).pending = s.pending ∧ (s.emits es).fw.types = s.fw.types := ⟨rfl, rfl⟩
@[simp] theorem queue_types_draw : s.draw.pending = s.pending ∧ s.draw.fw.types = s.fw.types := ⟨rfl, rfl⟩

@[simp] theorem queue_types_msix (fn vec : Nat) :
    (s.msix fn vec).pending = s.pending ∧ (s.msix fn vec).fw.types = s.fw.types := by simp [State.msix]

@[simp] theorem queue_types_ledgerFull (type source owner object code arg value : Nat) :
    (s.ledgerFull type source owner object code arg value).pending = s.pending ∧
      (s.ledgerFull type source owner object code arg value).fw.types = s.fw.types := by
  simp [State.ledgerFull]

@[simp] theorem queue_types_setCore (c : Nat) (k : Core) :
    (s.setCore c k).pending = s.pending ∧ (s.setCore c k).fw.types = s.fw.types := ⟨rfl, rfl⟩

@[simp] theorem queue_types_modCore (c : Nat) (f : Core → Core) :
    (s.modCore c f).pending = s.pending ∧ (s.modCore c f).fw.types = s.fw.types := ⟨rfl, rfl⟩

@[simp] theorem queue_types_setEngine (e : Nat) (k : Engine) :
    (s.setEngine e k).pending = s.pending ∧ (s.setEngine e k).fw.types = s.fw.types := ⟨rfl, rfl⟩

@[simp] theorem queue_types_setBucket (h : Nat) (b : Bucket) :
    (s.setBucket h b).pending = s.pending ∧ (s.setBucket h b).fw.types = s.fw.types := ⟨rfl, rfl⟩

@[simp] theorem queue_types_setGroup (g : Nat) (k : Group) :
    (s.setGroup g k).pending = s.pending ∧ (s.setGroup g k).fw.types = s.fw.types := ⟨rfl, rfl⟩

@[simp] theorem queue_types_setRegion (q : Nat) (k : Region) :
    (s.setRegion q k).pending = s.pending ∧ (s.setRegion q k).fw.types = s.fw.types := ⟨rfl, rfl⟩

@[simp] theorem queue_types_modRegion (q : Nat) (f : Region → Region) :
    (s.modRegion q f).pending = s.pending ∧ (s.modRegion q f).fw.types = s.fw.types := ⟨rfl, rfl⟩

@[simp] theorem queue_types_setWay (i : Nat) (k : WayKind) :
    (s.setWay i k).pending = s.pending ∧ (s.setWay i k).fw.types = s.fw.types := ⟨rfl, rfl⟩

@[simp] theorem queue_types_setLine (i : Nat) (k : Option CacheLine) :
    (s.setLine i k).pending = s.pending ∧ (s.setLine i k).fw.types = s.fw.types := ⟨rfl, rfl⟩

@[simp] theorem queue_types_setTag (i : Nat) (k : Option SectorTag) :
    (s.setTag i k).pending = s.pending ∧ (s.setTag i k).fw.types = s.fw.types := ⟨rfl, rfl⟩

@[simp] theorem queue_types_setPoison (i : Nat) (k : Bool) :
    (s.setPoison i k).pending = s.pending ∧ (s.setPoison i k).fw.types = s.fw.types := ⟨rfl, rfl⟩

@[simp] theorem queue_types_setL1 (port : Nat) (k : List XltEntry) :
    (s.setL1 port k).pending = s.pending ∧ (s.setL1 port k).fw.types = s.fw.types := ⟨rfl, rfl⟩

@[simp] theorem queue_types_setL2 (d : Nat) (k : List XltEntry) :
    (s.setL2 d k).pending = s.pending ∧ (s.setL2 d k).fw.types = s.fw.types := ⟨rfl, rfl⟩

@[simp] theorem queue_types_setInv (p : Nat) (k : List Nat) :
    (s.setInv p k).pending = s.pending ∧ (s.setInv p k).fw.types = s.fw.types := ⟨rfl, rfl⟩

@[simp] theorem queue_types_setInWin (w : Nat) (k : InWin) :
    (s.setInWin w k).pending = s.pending ∧ (s.setInWin w k).fw.types = s.fw.types := ⟨rfl, rfl⟩

@[simp] theorem queue_types_setOutWin (w : Nat) (k : OutWin) :
    (s.setOutWin w k).pending = s.pending ∧ (s.setOutWin w k).fw.types = s.fw.types := ⟨rfl, rfl⟩

@[simp] theorem queue_types_setTxn (t : Nat) (k : Option Txn) :
    (s.setTxn t k).pending = s.pending ∧ (s.setTxn t k).fw.types = s.fw.types := ⟨rfl, rfl⟩

@[simp] theorem queue_types_newTxn (t : Txn) : (s.newTxn t).pending = s.pending ∧ (s.newTxn t).fw.types = s.fw.types := ⟨rfl, rfl⟩

@[simp] theorem queue_types_setObj (n : Nat) (k : SyncObj) :
    (s.setObj n k).pending = s.pending ∧ (s.setObj n k).fw.types = s.fw.types := ⟨rfl, rfl⟩

@[simp] theorem queue_types_setTree (k : Nat) (t : TreeNode) :
    (s.setTree k t).pending = s.pending ∧ (s.setTree k t).fw.types = s.fw.types := ⟨rfl, rfl⟩

@[simp] theorem queue_types_setPart (p : Nat) (k : Part) :
    (s.setPart p k).pending = s.pending ∧ (s.setPart p k).fw.types = s.fw.types := ⟨rfl, rfl⟩

@[simp] theorem queue_types_modPart (p : Nat) (f : Part → Part) :
    (s.modPart p f).pending = s.pending ∧ (s.modPart p f).fw.types = s.fw.types := ⟨rfl, rfl⟩

@[simp] theorem queue_types_setPoolPage (i : Nat) (k : Option PoolPage) :
    (s.setPoolPage i k).pending = s.pending ∧ (s.setPoolPage i k).fw.types = s.fw.types := ⟨rfl, rfl⟩

@[simp] theorem queue_types_setArena (i : Nat) (k : Option Nat) :
    (s.setArena i k).pending = s.pending ∧ (s.setArena i k).fw.types = s.fw.types := ⟨rfl, rfl⟩

@[simp] theorem queue_types_setLevel (g : Nat) (k : Level) :
    (s.setLevel g k).pending = s.pending ∧ (s.setLevel g k).fw.types = s.fw.types := ⟨rfl, rfl⟩

@[simp] theorem queue_types_setPort (m : Nat) (k : Port) :
    (s.setPort m k).pending = s.pending ∧ (s.setPort m k).fw.types = s.fw.types := ⟨rfl, rfl⟩

@[simp] theorem queue_types_setTokens (m k : Nat) :
    (s.setTokens m k).pending = s.pending ∧ (s.setTokens m k).fw.types = s.fw.types := ⟨rfl, rfl⟩

@[simp] theorem queue_types_setUrgency (m k : Nat) :
    (s.setUrgency m k).pending = s.pending ∧ (s.setUrgency m k).fw.types = s.fw.types := ⟨rfl, rfl⟩

@[simp] theorem queue_types_setServed (i : Nat) (k : HomeWin) :
    (s.setServed i k).pending = s.pending ∧ (s.setServed i k).fw.types = s.fw.types := ⟨rfl, rfl⟩

@[simp] theorem queue_types_setLnk (i : Nat) (k : Link) :
    (s.setLnk i k).pending = s.pending ∧ (s.setLnk i k).fw.types = s.fw.types := ⟨rfl, rfl⟩

@[simp] theorem queue_types_modLnk (i : Nat) (f : Link → Link) :
    (s.modLnk i f).pending = s.pending ∧ (s.modLnk i f).fw.types = s.fw.types := ⟨rfl, rfl⟩

@[simp] theorem queue_types_setCage (i : Nat) (k : Cage) :
    (s.setCage i k).pending = s.pending ∧ (s.setCage i k).fw.types = s.fw.types := ⟨rfl, rfl⟩

@[simp] theorem queue_types_modCage (i : Nat) (f : Cage → Cage) :
    (s.modCage i f).pending = s.pending ∧ (s.modCage i f).fw.types = s.fw.types := ⟨rfl, rfl⟩

@[simp] theorem queue_types_setClu (k : Nat) (c : Cluster) :
    (s.setClu k c).pending = s.pending ∧ (s.setClu k c).fw.types = s.fw.types := ⟨rfl, rfl⟩

@[simp] theorem queue_types_modClu (k : Nat) (f : Cluster → Cluster) :
    (s.modClu k f).pending = s.pending ∧ (s.modClu k f).fw.types = s.fw.types := ⟨rfl, rfl⟩

@[simp] theorem queue_types_setRxTxn (i : Nat) (k : Option RxTxn) :
    (s.setRxTxn i k).pending = s.pending ∧ (s.setRxTxn i k).fw.types = s.fw.types := ⟨rfl, rfl⟩

@[simp] theorem queue_types_setSq (fn r : Nat) (k : Sq) :
    (s.setSq fn r k).pending = s.pending ∧ (s.setSq fn r k).fw.types = s.fw.types := ⟨rfl, rfl⟩

@[simp] theorem queue_types_setCq (fn r : Nat) (k : Cq) :
    (s.setCq fn r k).pending = s.pending ∧ (s.setCq fn r k).fw.types = s.fw.types := ⟨rfl, rfl⟩

@[simp] theorem queue_types_modDesc (i : Nat) (f : HostDesc → HostDesc) :
    (s.modDesc i f).pending = s.pending ∧ (s.modDesc i f).fw.types = s.fw.types := ⟨rfl, rfl⟩

@[simp] theorem queue_types_hostWrite (fn a : Nat) (bs : List Byte) :
    (s.hostWrite fn a bs).pending = s.pending ∧ (s.hostWrite fn a bs).fw.types = s.fw.types := by simp [State.hostWrite]

@[simp] theorem queue_types_ledgerPart (type p object code arg value : Nat) :
    (s.ledgerPart type p object code arg value).pending = s.pending ∧
      (s.ledgerPart type p object code arg value).fw.types = s.fw.types := by
  simp [State.ledgerPart]

@[simp] theorem queue_types_ledger (type source object code value : Nat) :
    (s.ledger type source object code value).pending = s.pending ∧
      (s.ledger type source object code value).fw.types = s.fw.types := by
  simp [State.ledger]

@[simp] theorem queue_types_drbg (n : Nat) : (s.drbg n).pending = s.pending ∧ (s.drbg n).fw.types = s.fw.types := by
  simp [State.drbg]

@[simp] theorem queue_types_newKey : s.newKey.1.pending = s.pending ∧ s.newKey.1.fw.types = s.fw.types := by
  simp [State.newKey]

@[simp] theorem queue_types_setInst (v : Nat) (k : Inst) :
    (s.setInst v k).pending = s.pending ∧ (s.setInst v k).fw.types = s.fw.types := ⟨rfl, rfl⟩

@[simp] theorem queue_types_modInst (v : Nat) (f : Inst → Inst) :
    (s.modInst v f).pending = s.pending ∧ (s.modInst v f).fw.types = s.fw.types := ⟨rfl, rfl⟩

@[simp] theorem queue_types_mbEvent (p type detail : Nat) :
    (s.mbEvent p type detail).pending = s.pending ∧ (s.mbEvent p type detail).fw.types = s.fw.types := by
  simp only [State.mbEvent]
  split <;> simp

@[simp] theorem queue_types_setSlack (e : Nat) (k : Slack) :
    (s.setSlack e k).pending = s.pending ∧ (s.setSlack e k).fw.types = s.fw.types := ⟨rfl, rfl⟩

@[simp] theorem queue_types_takeSlack : s.takeSlack.1.pending = s.pending ∧ s.takeSlack.1.fw.types = s.fw.types := by
  simp only [State.takeSlack]
  split <;> simp

@[simp] theorem queue_types_phaseEnd (c : Nat) : (s.phaseEnd c).pending = s.pending ∧ (s.phaseEnd c).fw.types = s.fw.types := by
  simp only [State.phaseEnd]
  (repeat' split) <;> simp

@[simp] theorem queue_types_tellFault (p vcore code : Nat) :
    (s.tellFault p vcore code).pending = s.pending ∧ (s.tellFault p vcore code).fw.types = s.fw.types := by
  simp [State.tellFault]

@[simp] theorem queue_types_launchFault (p c code : Nat) :
    (s.launchFault p c code).pending = s.pending ∧ (s.launchFault p c code).fw.types = s.fw.types := by
  simp only [State.launchFault]
  split <;> simp

@[simp] theorem queue_types_seqFault (c code : Nat) :
    (s.seqFault c code).pending = s.pending ∧ (s.seqFault c code).fw.types = s.fw.types := by simp [State.seqFault]

/-! #### Machine/Scratch.lean -/

@[simp] theorem queue_types_openLine (c off : Nat) :
    (s.openLine c off).pending = s.pending ∧ (s.openLine c off).fw.types = s.fw.types := by simp [State.openLine]

@[simp] theorem queue_types_spadPut (c lo hi off : Nat) (b : Byte) :
    (s.spadPut c lo hi off b).pending = s.pending ∧ (s.spadPut c lo hi off b).fw.types = s.fw.types := by
  simp [State.spadPut]

@[simp] theorem queue_types_spadPuts (c lo hi off : Nat) (l : List Byte) :
    (s.spadPuts c lo hi off l).pending = s.pending ∧ (s.spadPuts c lo hi off l).fw.types = s.fw.types := by
  induction l generalizing s c lo hi off with
  | nil => exact ⟨rfl, rfl⟩
  | cons x xs ih => simp [State.spadPuts, ih]

@[simp] theorem queue_types_spadWrite (c off : Nat) (bs : List Byte) :
    (s.spadWrite c off bs).pending = s.pending ∧ (s.spadWrite c off bs).fw.types = s.fw.types := by simp [State.spadWrite]

@[simp] theorem queue_types_spadSetWord (c off v : Nat) :
    (s.spadSetWord c off v).pending = s.pending ∧ (s.spadSetWord c off v).fw.types = s.fw.types := by
  simp [State.spadSetWord]

@[simp] theorem queue_types_flashClear (k : Nat) :
    (s.flashClear k).pending = s.pending ∧ (s.flashClear k).fw.types = s.fw.types := ⟨rfl, rfl⟩

@[simp] theorem queue_types_countPoison (c n : Nat) :
    (s.countPoison c n).pending = s.pending ∧ (s.countPoison c n).fw.types = s.fw.types := ⟨rfl, rfl⟩

/-! #### Machine/Memory.lean -/

@[simp] theorem queue_types_calm (sec : Nat) : (s.calm sec).pending = s.pending ∧ (s.calm sec).fw.types = s.fw.types := ⟨rfl, rfl⟩

@[simp] theorem queue_types_markPoison (sec : Nat) :
    (s.markPoison sec).pending = s.pending ∧ (s.markPoison sec).fw.types = s.fw.types := ⟨rfl, rfl⟩

@[simp] theorem queue_types_dropPoison (sec : Nat) :
    (s.dropPoison sec).pending = s.pending ∧ (s.dropPoison sec).fw.types = s.fw.types := ⟨rfl, rfl⟩

@[simp] theorem queue_types_memRecord (code a : Nat) :
    (s.memRecord code a).pending = s.pending ∧ (s.memRecord code a).fw.types = s.fw.types := by
  simp only [State.memRecord]
  split <;> simp

@[simp] theorem queue_types_corrected (a : Nat) :
    (s.corrected a).pending = s.pending ∧ (s.corrected a).fw.types = s.fw.types := by simp [State.corrected]

@[simp] theorem queue_types_uncorrected (a : Nat) :
    (s.uncorrected a).pending = s.pending ∧ (s.uncorrected a).fw.types = s.fw.types := by simp [State.uncorrected]

@[simp] theorem queue_types_integrityAlarm (p ipa : Nat) :
    (s.integrityAlarm p ipa).pending = s.pending ∧ (s.integrityAlarm p ipa).fw.types = s.fw.types := by
  simp [State.integrityAlarm]

@[simp] theorem queue_types_loseLine (sec : Nat) :
    (s.loseLine sec).pending = s.pending ∧ (s.loseLine sec).fw.types = s.fw.types := by simp [State.loseLine]

@[simp] theorem queue_types_writeBack (sec : Nat) :
    (s.writeBack sec).pending = s.pending ∧ (s.writeBack sec).fw.types = s.fw.types := by simp [State.writeBack]

@[simp] theorem queue_types_evict (sec : Nat) (l : CacheLine) :
    (s.evict sec l).pending = s.pending ∧ (s.evict sec l).fw.types = s.fw.types := by
  simp only [State.evict]
  (repeat' split) <;> simp

theorem queue_types_takeWay {s t : State} {a w : Nat} {ways : List Nat} (h : s.takeWay a ways = some (w, t)) :
    t.pending = s.pending ∧ t.fw.types = s.fw.types := by
  simp only [State.takeWay] at h
  split at h
  · cases h
    exact ⟨rfl, rfl⟩
  · split at h
    · cases h
      simp
    · cases h

@[simp] theorem queue_types_touchLine (a p valid dirty : Nat) :
    (s.touchLine a p valid dirty).pending = s.pending ∧ (s.touchLine a p valid dirty).fw.types = s.fw.types := by
  simp only [State.touchLine]
  split
  · simp
  · split
    · next h => simpa using queue_types_takeWay h
    · exact ⟨rfl, rfl⟩

@[simp] theorem queue_types_charge (g p cost n : Nat) (paid : Bool) :
    (s.charge g p cost n paid).pending = s.pending ∧ (s.charge g p cost n paid).fw.types = s.fw.types := by
  simp [State.charge]

@[simp] theorem queue_types_stackRead (p ipa a n : Nat) (e : Ecc) (paid : Bool) :
    (s.stackRead p ipa a n e paid).1.pending = s.pending ∧ (s.stackRead p ipa a n e paid).1.fw.types = s.fw.types := by
  simp only [State.stackRead]
  (repeat' split) <;> simp

@[simp] theorem queue_types_dropBad (a : Nat) (l : CacheLine) :
    (s.dropBad a l).pending = s.pending ∧ (s.dropBad a l).fw.types = s.fw.types := by simp [State.dropBad]

@[simp] theorem queue_types_homeRead (p ipa a n : Nat) (e : Ecc) (paid : Bool) :
    (s.homeRead p ipa a n e paid).1.pending = s.pending ∧ (s.homeRead p ipa a n e paid).1.fw.types = s.fw.types := by
  simp only [State.homeRead]
  (repeat' split) <;> simp

@[simp] theorem queue_types_storeSector (p ipa a : Nat) (bs : List Byte) :
    (s.storeSector p ipa a bs).pending = s.pending ∧ (s.storeSector p ipa a bs).fw.types = s.fw.types := by
  simp [State.storeSector]

@[simp] theorem queue_types_stackWrite (p ipa a : Nat) (bs : List Byte) (e : Ecc) :
    (s.stackWrite p ipa a bs e).1.pending = s.pending ∧ (s.stackWrite p ipa a bs e).1.fw.types = s.fw.types := by
  simp [State.stackWrite]

@[simp] theorem queue_types_partWrite (p ipa a : Nat) (bs : List Byte) (e : Ecc) (paid : Bool) :
    (s.partWrite p ipa a bs e paid).1.pending = s.pending ∧ (s.partWrite p ipa a bs e paid).1.fw.types = s.fw.types := by
  simp only [State.partWrite]
  (repeat' split) <;> simp

@[simp] theorem queue_types_healLine (sec : Nat) :
    (s.healLine sec).pending = s.pending ∧ (s.healLine sec).fw.types = s.fw.types := by
  simp only [State.healLine]
  split <;> simp

@[simp] theorem queue_types_homeWrite (p ipa a : Nat) (bs : List Byte) (e : Ecc) (paid : Bool) :
    (s.homeWrite p ipa a bs e paid).1.pending = s.pending ∧ (s.homeWrite p ipa a bs e paid).1.fw.types = s.fw.types := by
  simp only [State.homeWrite]
  (repeat' split) <;> simp

@[simp] theorem queue_types_clearRange (lo hi : Nat) :
    (s.clearRange lo hi).pending = s.pending ∧ (s.clearRange lo hi).fw.types = s.fw.types := by simp [State.clearRange]

@[simp] theorem queue_types_takeTokens (port cls g n : Nat) :
    (s.takeTokens port cls g n).pending = s.pending ∧ (s.takeTokens port cls g n).fw.types = s.fw.types := by
  simp [State.takeTokens]

/-! #### Machine/Xlt.lean -/

@[simp] theorem queue_types_hostGoes (fn a : Nat) :
    (s.hostGoes fn a).pending = s.pending ∧ (s.hostGoes fn a).fw.types = s.fw.types := by simp [State.hostGoes]

@[simp] theorem queue_types_stage2At (d p ipa : Nat) :
    (s.stage2At d p ipa).1.pending = s.pending ∧ (s.stage2At d p ipa).1.fw.types = s.fw.types := by
  simp only [State.stage2At]
  (repeat' split) <;> simp

@[simp] theorem queue_types_readTable (d p ipa : Nat) :
    (s.readTable d p ipa).1.pending = s.pending ∧ (s.readTable d p ipa).1.fw.types = s.fw.types := by
  simp only [State.readTable]
  split
  · next h => simp [fst_of_eq h]
  · next s1 t h =>
    have h1 : s1.pending = s.pending ∧ s1.fw.types = s.fw.types := by simp [fst_of_eq h]
    split
    · exact h1
    · split
      · split
        · simp [h1]
        · exact h1
      · split <;> next h2 => simp [fst_of_eq h2, h1]

@[simp] theorem queue_types_s1Walk (d p va fuel table : Nat) :
    (s.s1Walk d p va fuel table).1.pending = s.pending ∧ (s.s1Walk d p va fuel table).1.fw.types = s.fw.types := by
  induction fuel generalizing s table with
  | zero => exact ⟨rfl, rfl⟩
  | succ n ih =>
    simp only [State.s1Walk]
    split
    · next h => simp [fst_of_eq h]
    · next h => simp [ih, fst_of_eq h]

@[simp] theorem queue_types_walk (d p va : Nat) (write : Bool) :
    (s.walk d p va write).1.pending = s.pending ∧ (s.walk d p va write).1.fw.types = s.fw.types := by
  simp only [State.walk]
  split
  · exact ⟨rfl, rfl⟩
  · split
    · next h => simp [fst_of_eq h]
    · next s1 a h =>
      have h1 : s1.pending = s.pending ∧ s1.fw.types = s.fw.types := by simp [fst_of_eq h]
      split
      · split
        · exact h1
        · split <;> next h2 => simp [fst_of_eq h2, h1]
      · split
        · exact h1
        · split <;> next h2 => simp [fst_of_eq h2, h1]

@[simp] theorem queue_types_xltFault (p port : Nat) (write : Bool) (f : XFault) :
    (s.xltFault p port write f).pending = s.pending ∧ (s.xltFault p port write f).fw.types = s.fw.types := by
  simp [State.xltFault]

@[simp] theorem queue_types_fillL1 (e : Nat) (x : XltEntry) :
    (s.fillL1 e x).pending = s.pending ∧ (s.fillL1 e x).fw.types = s.fw.types := by simp [State.fillL1]

@[simp] theorem queue_types_translate (e p va : Nat) (write : Bool) :
    (s.translate e p va write).1.pending = s.pending ∧ (s.translate e p va write).1.fw.types = s.fw.types := by
  simp only [State.translate]
  split
  · simp
  · split
    · simp
    · split <;> next h => simp [fst_of_eq h]

@[simp] theorem queue_types_dropXlt (f : XltEntry → Bool) :
    (s.dropXlt f).pending = s.pending ∧ (s.dropXlt f).fw.types = s.fw.types := ⟨rfl, rfl⟩

@[simp] theorem queue_types_purgeXlt (f : XltEntry → Bool) :
    (s.purgeXlt f).pending = s.pending ∧ (s.purgeXlt f).fw.types = s.fw.types := ⟨rfl, rfl⟩

@[simp] theorem queue_types_spend (e p a n : Nat) :
    (s.spend e p a n).pending = s.pending ∧ (s.spend e p a n).fw.types = s.fw.types := by simp [State.spend]

@[simp] theorem queue_types_readVa (e p va n fuel : Nat) :
    (s.readVa e p va n fuel).1.pending = s.pending ∧ (s.readVa e p va n fuel).1.fw.types = s.fw.types := by
  induction fuel generalizing s va n with
  | zero => exact ⟨rfl, rfl⟩
  | succ k ih =>
    simp only [State.readVa]
    split
    · exact ⟨rfl, rfl⟩
    · split
      · next h => simp [fst_of_eq h]
      · next s1 x h =>
        have h1 : s1.pending = s.pending ∧ s1.fw.types = s.fw.types := by simp [fst_of_eq h]
        split
        · split <;> simp [ih, h1]
        · split <;> next h2 => simp [ih, fst_of_eq h2, h1]

@[simp] theorem queue_types_writeVa (e p va : Nat) (bs : List Byte) (fuel : Nat) :
    (s.writeVa e p va bs fuel).1.pending = s.pending ∧ (s.writeVa e p va bs fuel).1.fw.types = s.fw.types := by
  induction fuel generalizing s va bs with
  | zero => exact ⟨rfl, rfl⟩
  | succ k ih =>
    simp only [State.writeVa]
    split
    · exact ⟨rfl, rfl⟩
    · split
      · next h => simp [fst_of_eq h]
      · next s1 x h =>
        have h1 : s1.pending = s.pending ∧ s1.fw.types = s.fw.types := by simp [fst_of_eq h]
        split
        · split <;> simp [ih, h1]
        · split <;> next h2 => simp [ih, fst_of_eq h2, h1]

@[simp] theorem queue_types_readIpa (fd p ipa n fuel : Nat) :
    (s.readIpa fd p ipa n fuel).1.pending = s.pending ∧ (s.readIpa fd p ipa n fuel).1.fw.types = s.fw.types := by
  induction fuel generalizing s ipa n with
  | zero => exact ⟨rfl, rfl⟩
  | succ k ih =>
    simp only [State.readIpa]
    split
    · exact ⟨rfl, rfl⟩
    · split
      · next h => simp [fst_of_eq h]
      · next s1 t h =>
        have h1 : s1.pending = s.pending ∧ s1.fw.types = s.fw.types := by simp [fst_of_eq h]
        split
        · simp [h1]
        · split
          · split <;> simp [ih, h1]
          · split <;> next h2 => simp [ih, fst_of_eq h2, h1]

@[simp] theorem queue_types_writeIpa (fd p ipa : Nat) (bs : List Byte) (fuel : Nat) :
    (s.writeIpa fd p ipa bs fuel).1.pending = s.pending ∧ (s.writeIpa fd p ipa bs fuel).1.fw.types = s.fw.types := by
  induction fuel generalizing s ipa bs with
  | zero => exact ⟨rfl, rfl⟩
  | succ k ih =>
    simp only [State.writeIpa]
    split
    · exact ⟨rfl, rfl⟩
    · split
      · next h => simp [fst_of_eq h]
      · next s1 t h =>
        have h1 : s1.pending = s.pending ∧ s1.fw.types = s.fw.types := by simp [fst_of_eq h]
        split
        · simp [h1]
        · split
          · split <;> simp [ih, h1]
          · split <;> next h2 => simp [ih, fst_of_eq h2, h1]

/-! #### Machine/Mem.lean -/

@[simp] theorem queue_types_serve (r : HeldReq) : (s.serve r).pending = s.pending ∧ (s.serve r).fw.types = s.fw.types := by
  simp only [State.serve]
  split <;> simp

@[simp] theorem queue_types_request (r : HeldReq) (others : List ReqInfo) :
    (s.request r others).pending = s.pending ∧ (s.request r others).fw.types = s.fw.types := by simp [State.request]

@[simp] theorem queue_types_pumpHeldReqs (m : Nat) (l : List HeldReq) :
    (s.pumpHeldReqs m l).pending = s.pending ∧ (s.pumpHeldReqs m l).fw.types = s.fw.types := by
  induction l generalizing s m with
  | nil => exact ⟨rfl, rfl⟩
  | cons x xs ih => simp [State.pumpHeldReqs, ih]

@[simp] theorem queue_types_pumpPorts (l : List Nat) :
    (s.pumpPorts l).pending = s.pending ∧ (s.pumpPorts l).fw.types = s.fw.types := by
  induction l generalizing s  with
  | nil => exact ⟨rfl, rfl⟩
  | cons x xs ih => simp [State.pumpPorts, ih]

@[simp] theorem queue_types_withhold (a : Nat) : (s.withhold a).pending = s.pending ∧
      (s.withhold a).fw.types = s.fw.types := by
  simp [State.withhold]

@[simp] theorem queue_types_scrubPoison (a : Nat) :
    (s.scrubPoison a).pending = s.pending ∧ (s.scrubPoison a).fw.types = s.fw.types := by
  simp only [State.scrubPoison]
  split <;> simp

@[simp] theorem queue_types_scrubTag (g a : Nat) (e : Ecc) :
    (s.scrubTag g a e).pending = s.pending ∧ (s.scrubTag g a e).fw.types = s.fw.types := by
  simp only [State.scrubTag]
  split <;> simp

@[simp] theorem queue_types_scrubNext : s.scrubNext.pending = s.pending ∧ s.scrubNext.fw.types = s.fw.types := by
  simp [State.scrubNext]

@[simp] theorem queue_types_scrubCheck (g i : Nat) (ecc : Ecc) (raced : Bool) :
    (s.scrubCheck g i ecc raced).pending = s.pending ∧ (s.scrubCheck g i ecc raced).fw.types = s.fw.types := by
  simp only [State.scrubCheck]
  (repeat' split) <;> simp

@[simp] theorem queue_types_cleanLines (l : List (Nat × CacheLine)) :
    (s.cleanLines l).pending = s.pending ∧ (s.cleanLines l).fw.types = s.fw.types := by
  induction l generalizing s  with
  | nil => exact ⟨rfl, rfl⟩
  | cons x xs ih => simp [State.cleanLines, ih]

@[simp] theorem queue_types_takeRegions (p g : Nat) (l : List Nat) :
    (s.takeRegions p g l).pending = s.pending ∧ (s.takeRegions p g l).fw.types = s.fw.types := by
  induction l generalizing s p g with
  | nil => exact ⟨rfl, rfl⟩
  | cons x xs ih => simp [State.takeRegions, ih]

@[simp] theorem queue_types_giveTakings (g : Nat) (l : List Taking) :
    (s.giveTakings g l).pending = s.pending ∧ (s.giveTakings g l).fw.types = s.fw.types := by
  induction l generalizing s g with
  | nil => exact ⟨rfl, rfl⟩
  | cons x xs ih => simp [State.giveTakings, ih]

@[simp] theorem queue_types_wakeGroup (g : Nat) :
    (s.wakeGroup g).pending = s.pending ∧ (s.wakeGroup g).fw.types = s.fw.types := by simp [State.wakeGroup]

@[simp] theorem queue_types_freeIfEmpty (g : Nat) :
    (s.freeIfEmpty g).pending = s.pending ∧ (s.freeIfEmpty g).fw.types = s.fw.types := by simp [State.freeIfEmpty]

@[simp] theorem queue_types_withholdAll (l : List (Nat × Bool)) :
    (s.withholdAll l).pending = s.pending ∧ (s.withholdAll l).fw.types = s.fw.types := by
  induction l generalizing s  with
  | nil => exact ⟨rfl, rfl⟩
  | cons x xs ih => simp [State.withholdAll, ih]

@[simp] theorem queue_types_regionCleared (q : Nat) :
    (s.regionCleared q).pending = s.pending ∧ (s.regionCleared q).fw.types = s.fw.types := by simp [State.regionCleared]

@[simp] theorem queue_types_miss (g p served demand : Nat) :
    (s.miss g p served demand).pending = s.pending ∧ (s.miss g p served demand).fw.types = s.fw.types := by simp [State.miss]

@[simp] theorem queue_types_judge (g p : Nat) (busy : Bool) (w : Window) :
    (s.judge g p busy w).pending = s.pending ∧ (s.judge g p busy w).fw.types = s.fw.types := by simp [State.judge]

@[simp] theorem queue_types_judgeAll (g : Nat) (busy : Bool) (ws : List Window) (l : List Nat) :
    (s.judgeAll g busy ws l).pending = s.pending ∧ (s.judgeAll g busy ws l).fw.types = s.fw.types := by
  induction l generalizing s g busy ws with
  | nil => exact ⟨rfl, rfl⟩
  | cons x xs ih => simp [State.judgeAll, ih]

/-! #### Machine/FabOps.lean -/

@[simp] theorem queue_types_dropFlit (off : Nat) :
    (s.dropFlit off).pending = s.pending ∧ (s.dropFlit off).fw.types = s.fw.types := by simp [State.dropFlit]

@[simp] theorem queue_types_freeRx (f : Flit) : (s.freeRx f).pending = s.pending ∧ (s.freeRx f).fw.types = s.fw.types := by
  simp only [State.freeRx]
  split <;> simp

@[simp] theorem queue_types_freeRxs (l : List LFlit) :
    (s.freeRxs l).pending = s.pending ∧ (s.freeRxs l).fw.types = s.fw.types := by
  induction l generalizing s  with
  | nil => exact ⟨rfl, rfl⟩
  | cons x xs ih => simp [State.freeRxs, ih]

@[simp] theorem queue_types_dropSlots (i : Nat) :
    (s.dropSlots i).pending = s.pending ∧ (s.dropSlots i).fw.types = s.fw.types := ⟨rfl, rfl⟩

@[simp] theorem queue_types_sendBundle (i : Nat) (fs : List LFlit) :
    (s.sendBundle i fs).pending = s.pending ∧ (s.sendBundle i fs).fw.types = s.fw.types := ⟨rfl, rfl⟩

@[simp] theorem queue_types_pumpLink (i n : Nat) :
    (s.pumpLink i n).pending = s.pending ∧ (s.pumpLink i n).fw.types = s.fw.types := by
  induction n generalizing s i with
  | zero => exact ⟨rfl, rfl⟩
  | succ n ih => simp [State.pumpLink, ih]

@[simp] theorem queue_types_pump (i : Nat) : (s.pump i).pending = s.pending ∧ (s.pump i).fw.types = s.fw.types := by
  simp [State.pump]

@[simp] theorem queue_types_queueOn (i : Nat) (f : Flit) :
    (s.queueOn i f).pending = s.pending ∧ (s.queueOn i f).fw.types = s.fw.types := by simp [State.queueOn]

@[simp] theorem queue_types_deliver (f : Flit) : (s.deliver f).pending = s.pending ∧ (s.deliver f).fw.types = s.fw.types := by
  simp [State.deliver]

@[simp] theorem queue_types_route (f : Flit) : (s.route f).pending = s.pending ∧ (s.route f).fw.types = s.fw.types := by
  simp only [State.route]
  (repeat' split) <;> simp

@[simp] theorem queue_types_sendFlit (f : Flit) : (s.sendFlit f).pending = s.pending ∧
      (s.sendFlit f).fw.types = s.fw.types := by
  simp [State.sendFlit]

/-! #### Machine/SeqOps.lean -/

@[simp] theorem queue_types_raise (c n amount srcKind engine seq : Nat) :
    (s.raise c n amount srcKind engine seq).pending = s.pending ∧
      (s.raise c n amount srcKind engine seq).fw.types = s.fw.types := by
  simp only [State.raise]
  split <;> simp

@[simp] theorem queue_types_raiseReady (c : Nat) (l : List PendSignal) :
    (s.raiseReady c l).pending = s.pending ∧ (s.raiseReady c l).fw.types = s.fw.types := by
  induction l generalizing s c with
  | nil => exact ⟨rfl, rfl⟩
  | cons x xs ih => simp [State.raiseReady, ih]

@[simp] theorem queue_types_stopAtRebind (c : Nat) :
    (s.stopAtRebind c).pending = s.pending ∧ (s.stopAtRebind c).fw.types = s.fw.types := by simp [State.stopAtRebind]

@[simp] theorem queue_types_finishCore (c : Nat) :
    (s.finishCore c).pending = s.pending ∧ (s.finishCore c).fw.types = s.fw.types := by
  simp only [State.finishCore]
  split <;> simp

@[simp] theorem queue_types_wakeFront (c : Nat) :
    (s.wakeFront c).pending = s.pending ∧ (s.wakeFront c).fw.types = s.fw.types := by
  simp only [State.wakeFront]
  split <;> simp

@[simp] theorem queue_types_stepDone (c : Nat) (q : Queue) (n : Nat) :
    (s.stepDone c q n).pending = s.pending ∧ (s.stepDone c q n).fw.types = s.fw.types := by simp [State.stepDone]

@[simp] theorem queue_types_issue (c : Nat) (q : Queue) (f : State → State)
    (hf : ∀ t, (f t).pending = t.pending ∧ (f t).fw.types = t.fw.types) :
    (s.issue c q f).pending = s.pending ∧ (s.issue c q f).fw.types = s.fw.types := by
  simp [State.issue, hf]

@[simp] theorem queue_types_front (c : Nat) (f : Core → State)
    (hf : ∀ k, (f k).pending = s.pending ∧ (f k).fw.types = s.fw.types) :
    (s.front c f).pending = s.pending ∧ (s.front c f).fw.types = s.fw.types := by
  simp [State.front, hf]

/-! #### Machine/Matrix.lean -/

@[simp] theorem queue_types_upset (c : Nat) (x : Option (Fin 1048576)) :
    (s.upset c x).pending = s.pending ∧ (s.upset c x).fw.types = s.fw.types := by
  simp only [State.upset]
  split <;> simp

@[simp] theorem queue_types_drainRows (c : Nat) (b : Bank) (off stride n k j : Nat) :
    (s.drainRows c b off stride n k j).pending = s.pending ∧ (s.drainRows c b off stride n k j).fw.types = s.fw.types := by
  induction j generalizing s c b off stride n k with
  | zero => exact ⟨rfl, rfl⟩
  | succ n ih => simp [State.drainRows, ih]

/-! #### Machine/WinOps.lean -/

@[simp] theorem queue_types_countRefuse (code : Nat) :
    (s.countRefuse code).pending = s.pending ∧ (s.countRefuse code).fw.types = s.fw.types := ⟨rfl, rfl⟩

@[simp] theorem queue_types_sendFlits (l : List Flit) :
    (s.sendFlits l).pending = s.pending ∧ (s.sendFlits l).fw.types = s.fw.types := by
  induction l generalizing s  with
  | nil => exact ⟨rfl, rfl⟩
  | cons x xs ih => simp [State.sendFlits, ih]

@[simp] theorem queue_types_sendWin (r : WinReq) : (s.sendWin r).pending = s.pending ∧
      (s.sendWin r).fw.types = s.fw.types := by
  simp [State.sendWin]

@[simp] theorem queue_types_pumpWinQ (kept l : List WinReq) :
    (s.pumpWinQ kept l).pending = s.pending ∧ (s.pumpWinQ kept l).fw.types = s.fw.types := by
  induction l generalizing s kept with
  | nil => exact ⟨rfl, rfl⟩
  | cons x xs ih => simp [State.pumpWinQ, ih]

@[simp] theorem queue_types_pumpWin : s.pumpWin.pending = s.pending ∧ s.pumpWin.fw.types = s.fw.types := by
  simp [State.pumpWin]

/-! #### Machine/XferOps.lean -/

@[simp] theorem queue_types_xRead (x : Xfer) (e space a n : Nat) :
    (s.xRead x e space a n).1.pending = s.pending ∧ (s.xRead x e space a n).1.fw.types = s.fw.types := by
  simp only [State.xRead]
  (repeat' split) <;> simp

@[simp] theorem queue_types_xWrite (x : Xfer) (e space a : Nat) (bs : List Byte) :
    (s.xWrite x e space a bs).1.pending = s.pending ∧ (s.xWrite x e space a bs).1.fw.types = s.fw.types := by
  simp only [State.xWrite]
  (repeat' split) <;> simp

@[simp] theorem queue_types_mv_put (x : Xfer) (e space a : Nat) (bs : List Byte) :
    (m.put x e space a bs).s.pending = m.s.pending ∧ (m.put x e space a bs).s.fw.types = m.s.fw.types := by
  simp only [Mv.put]
  split <;> simp

@[simp] theorem queue_types_mv_putRow (x : Xfer) (e : Nat) (dd : Desc) (df : Fmt) (row : Nat)
    (r : List Byte × List Byte × Counts) :
    (m.putRow x e dd df row r).s.pending = m.s.pending ∧ (m.putRow x e dd df row r).s.fw.types = m.s.fw.types := by
  simp only [Mv.putRow]
  split <;> simp

@[simp] theorem queue_types_mv_getRow (x : Xfer) (e : Nat) (sd : Desc) (sf : Fmt) (row : Nat) :
    (m.getRow x e sd sf row).1.s.pending = m.s.pending ∧ (m.getRow x e sd sf row).1.s.fw.types = m.s.fw.types := by
  simp only [Mv.getRow]
  split
  · exact ⟨rfl, rfl⟩
  · split
    · next s1 bs h =>
      have h1 : s1.pending = m.s.pending ∧ s1.fw.types = m.s.fw.types := by simp [fst_of_eq h]
      split <;> next h2 => simp [fst_of_eq h2, h1]
    · next h => simp [fst_of_eq h]

@[simp] theorem queue_types_mv_moveRow (x : Xfer) (e : Nat) (sd dd : Desc) (sf df : Fmt) (srow drow idx : Nat) :
    (m.moveRow x e sd dd sf df srow drow idx).s.pending = m.s.pending ∧
      (m.moveRow x e sd dd sf df srow drow idx).s.fw.types = m.s.fw.types := by
  simp [Mv.moveRow]

@[simp] theorem queue_types_mv_moveRows (x : Xfer) (e : Nat) (sd dd : Desc) (sf df : Fmt) (base i n : Nat) :
    (m.moveRows x e sd dd sf df base i n).s.pending = m.s.pending ∧
      (m.moveRows x e sd dd sf df base i n).s.fw.types = m.s.fw.types := by
  induction n generalizing m i with
  | zero => exact ⟨rfl, rfl⟩
  | succ n ih =>
    simp only [Mv.moveRows]
    split <;> simp [ih]

@[simp] theorem queue_types_mv_readRows (x : Xfer) (e : Nat) (sd : Desc) (sf : Fmt) (i n : Nat) :
    (m.readRows x e sd sf i n).1.s.pending = m.s.pending ∧ (m.readRows x e sd sf i n).1.s.fw.types = m.s.fw.types := by
  induction n generalizing m i with
  | zero => exact ⟨rfl, rfl⟩
  | succ n ih => simp [Mv.readRows, ih]

@[simp] theorem queue_types_mv_putTrans (x : Xfer) (e : Nat) (sd dd : Desc) (sf df : Fmt)
    (rows : List (List Byte × List Byte)) (base j n : Nat) :
    (m.putTrans x e sd dd sf df rows base j n).s.pending = m.s.pending ∧
      (m.putTrans x e sd dd sf df rows base j n).s.fw.types = m.s.fw.types := by
  induction n generalizing m j with
  | zero => exact ⟨rfl, rfl⟩
  | succ n ih =>
    simp only [Mv.putTrans]
    split <;> simp [ih]

@[simp] theorem queue_types_mv_move2d (x : Xfer) (e : Nat) (sd dd : Desc) (sf df : Fmt) (base : Nat) :
    (m.move2d x e sd dd sf df base).s.pending = m.s.pending ∧
      (m.move2d x e sd dd sf df base).s.fw.types = m.s.fw.types := by
  simp only [Mv.move2d]
  split <;> simp

@[simp] theorem queue_types_mv_repeats (x : Xfer) (e : Nat) (rep : Repeat) (sf df : Fmt) (r n : Nat) :
    (m.repeats x e rep sf df r n).s.pending = m.s.pending ∧
      (m.repeats x e rep sf df r n).s.fw.types = m.s.fw.types := by
  induction n generalizing m r with
  | zero => exact ⟨rfl, rfl⟩
  | succ n ih =>
    simp only [Mv.repeats]
    (repeat' split) <;> simp [ih]

@[simp] theorem queue_types_mv_gather (x : Xfer) (e : Nat) (sf df : Fmt) (i : Nat) (l : List Nat) :
    (m.gather x e sf df i l).s.pending = m.s.pending ∧ (m.gather x e sf df i l).s.fw.types = m.s.fw.types := by
  induction l generalizing m i with
  | nil => exact ⟨rfl, rfl⟩
  | cons n ns ih =>
    simp only [Mv.gather]
    (repeat' split) <;> simp [ih]

@[simp] theorem queue_types_mv_scatter (x : Xfer) (e : Nat) (sf df : Fmt) (i : Nat) (l : List Nat) :
    (m.scatter x e sf df i l).s.pending = m.s.pending ∧ (m.scatter x e sf df i l).s.fw.types = m.s.fw.types := by
  induction l generalizing m i with
  | nil => exact ⟨rfl, rfl⟩
  | cons n ns ih =>
    simp only [Mv.scatter]
    (repeat' split) <;> simp [ih]

@[simp] theorem queue_types_mv_direct (x : Xfer) (e : Nat) (sf : Fmt) (i : Nat) (l : List Nat) :
    (m.direct x e sf i l).s.pending = m.s.pending ∧ (m.direct x e sf i l).s.fw.types = m.s.fw.types := by
  induction l generalizing m i with
  | nil => exact ⟨rfl, rfl⟩
  | cons n ns ih =>
    simp only [Mv.direct]
    (repeat' split) <;> simp [ih]

@[simp] theorem queue_types_modXfer (e core seq : Nat) (f : Xfer → Xfer) :
    (s.modXfer e core seq f).pending = s.pending ∧ (s.modXfer e core seq f).fw.types = s.fw.types := ⟨rfl, rfl⟩

@[simp] theorem queue_types_mv_close (x : Xfer) (e : Nat) :
    (m.close x e).pending = m.s.pending ∧ (m.close x e).fw.types = m.s.fw.types := by
  simp [Mv.close]

@[simp] theorem queue_types_leaveOpen (x : Xfer) (e : Nat) (l : List (Nat × Nat × Nat)) :
    (s.leaveOpen x e l).pending = s.pending ∧ (s.leaveOpen x e l).fw.types = s.fw.types := by
  induction l generalizing s x e with
  | nil => exact ⟨rfl, rfl⟩
  | cons x xs ih => simp [State.leaveOpen, ih]

@[simp] theorem queue_types_mv_rest (x : Xfer) (e : Nat) (rs : List (Nat × Nat × Nat)) :
    (m.rest x e rs).s.pending = m.s.pending ∧ (m.rest x e rs).s.fw.types = m.s.fw.types := by
  simp only [Mv.rest]
  split <;> simp

@[simp] theorem queue_types_refuseXfer (x : Xfer) (e st : Nat) :
    (s.refuseXfer x e st).pending = s.pending ∧ (s.refuseXfer x e st).fw.types = s.fw.types := by simp [State.refuseXfer]

@[simp] theorem queue_types_runDirect (x : Xfer) (e : Nat) :
    (s.runDirect x e).pending = s.pending ∧ (s.runDirect x e).fw.types = s.fw.types := by
  simp only [State.runDirect]
  split <;> simp

@[simp] theorem queue_types_runXfer (x : Xfer) (e : Nat) :
    (s.runXfer x e).pending = s.pending ∧ (s.runXfer x e).fw.types = s.fw.types := by
  simp only [State.runXfer]
  (repeat' split) <;> simp

@[simp] theorem queue_types_fetchRanges (x : Xfer) (e : Nat) (l : List (Nat × Nat)) :
    (s.fetchRanges x e l).pending = s.pending ∧ (s.fetchRanges x e l).fw.types = s.fw.types := by
  induction l generalizing s with
  | nil => simp [State.fetchRanges]
  | cons q qs ih =>
    simp only [State.fetchRanges]
    split <;> simp [ih]

/-! #### Machine/Transfer.lean -/

@[simp] theorem queue_types_withDescs (c : Nat) (w : StepWord) (f : Desc → Desc → State)
    (hf : ∀ sd dd, (f sd dd).pending = s.pending ∧ (f sd dd).fw.types = s.fw.types) :
    (s.withDescs c w f).pending = s.pending ∧ (s.withDescs c w f).fw.types = s.fw.types := by
  simp only [State.withDescs]
  split <;> simp [hf]

@[simp] theorem queue_types_withSeed (c : Nat) (w : StepWord) (ds : List Desc) (f : Nat → State)
    (hf : ∀ seed, (f seed).pending = s.pending ∧ (f seed).fw.types = s.fw.types) :
    (s.withSeed c w ds f).pending = s.pending ∧ (s.withSeed c w ds f).fw.types = s.fw.types := by
  simp only [State.withSeed]
  (repeat' split) <;> simp [hf]

@[simp] theorem queue_types_sendRequests (x : Xfer) (e self : Nat) (entries : List Nat) (count : Bool) (l : List Nat) :
    (s.sendRequests x e self entries count l).pending = s.pending ∧
      (s.sendRequests x e self entries count l).fw.types = s.fw.types := by
  induction l generalizing s x e self entries count with
  | nil => exact ⟨rfl, rfl⟩
  | cons x xs ih => simp [State.sendRequests, ih]

@[simp] theorem queue_types_spillRequest (x : Xfer) (e : Nat) (d : Disp) :
    (s.spillRequest x e d).1.pending = s.pending ∧ (s.spillRequest x e d).1.fw.types = s.fw.types := by
  simp [State.spillRequest]

@[simp] theorem queue_types_openDispatch (x : Xfer) (e : Nat) (l : Desc) (st : Nat) :
    (s.openDispatch x e l st).pending = s.pending ∧ (s.openDispatch x e l st).fw.types = s.fw.types := by
  simp [State.openDispatch]

@[simp] theorem queue_types_runDispatch (x : Xfer) (e : Nat) :
    (s.runDispatch x e).pending = s.pending ∧ (s.runDispatch x e).fw.types = s.fw.types := by
  simp only [State.runDispatch]
  split <;> simp

@[simp] theorem queue_types_runBucketCount (x : Xfer) (e : Nat) :
    (s.runBucketCount x e).pending = s.pending ∧ (s.runBucketCount x e).fw.types = s.fw.types := by
  simp [State.runBucketCount]

@[simp] theorem queue_types_takePages (p : Nat) (l : List (Nat × Nat)) :
    (s.takePages p l).pending = s.pending ∧ (s.takePages p l).fw.types = s.fw.types := by
  induction l generalizing s p with
  | nil => exact ⟨rfl, rfl⟩
  | cons x xs ih => simp [State.takePages, ih]

@[simp] theorem queue_types_runAlloc (x : Xfer) (e : Nat) :
    (s.runAlloc x e).pending = s.pending ∧ (s.runAlloc x e).fw.types = s.fw.types := by
  simp only [State.runAlloc]
  split <;> simp

@[simp] theorem queue_types_freeSlot (p i pg : Nat) :
    (s.freeSlot p i pg).pending = s.pending ∧ (s.freeSlot p i pg).fw.types = s.fw.types := ⟨rfl, rfl⟩

@[simp] theorem queue_types_freeOne (p : Nat) (r : State × Nat) (va : Nat) :
    (State.freeOne p r va).1.pending = r.1.pending ∧ (State.freeOne p r va).1.fw.types = r.1.fw.types := by
  simp only [State.freeOne]
  (repeat' split) <;> simp

@[simp] theorem queue_types_freeList (p : Nat) (vs : List Nat) :
    (s.freeList p vs).1.pending = s.pending ∧ (s.freeList p vs).1.fw.types = s.fw.types :=
  List.foldlRecOn (motive := fun r : State × Nat => r.1.pending = s.pending ∧ r.1.fw.types = s.fw.types) vs _ ⟨rfl, rfl⟩
    fun _ h _ _ => by simp [h]

@[simp] theorem queue_types_runFree (x : Xfer) (e : Nat) :
    (s.runFree x e).pending = s.pending ∧ (s.runFree x e).fw.types = s.fw.types := by
  simp only [State.runFree]
  split <;> simp

@[simp] theorem queue_types_runNow (x : Xfer) (e : Nat) :
    (s.runNow x e).pending = s.pending ∧ (s.runNow x e).fw.types = s.fw.types := by
  simp only [State.runNow]
  split <;> simp

@[simp] theorem queue_types_runIfFetched (e core seq : Nat) :
    (s.runIfFetched e core seq).pending = s.pending ∧ (s.runIfFetched e core seq).fw.types = s.fw.types := by
  simp only [State.runIfFetched]
  split <;> simp

@[simp] theorem queue_types_beginXfer (x : Xfer) (e : Nat) :
    (s.beginXfer x e).pending = s.pending ∧ (s.beginXfer x e).fw.types = s.fw.types := by
  simp only [State.beginXfer]
  (repeat' split) <;> simp

@[simp] theorem queue_types_pumpEngine (e n : Nat) :
    (s.pumpEngine e n).pending = s.pending ∧ (s.pumpEngine e n).fw.types = s.fw.types := by
  induction n generalizing s e with
  | zero => exact ⟨rfl, rfl⟩
  | succ n ih =>
    simp only [State.pumpEngine]
    (repeat' split) <;> simp [ih]

@[simp] theorem queue_types_startXfer (x : Xfer) (e : Nat) :
    (s.startXfer x e).pending = s.pending ∧ (s.startXfer x e).fw.types = s.fw.types := by simp [State.startXfer]

@[simp] theorem queue_types_startRefused (x : Xfer) (e st : Nat) :
    (s.startRefused x e st).pending = s.pending ∧ (s.startRefused x e st).fw.types = s.fw.types := by
  simp [State.startRefused]

@[simp] theorem queue_types_startCopy (kind : XferKind) (c e : Nat) (w : StepWord) (n : Nat) :
    (s.startCopy kind c e w n).pending = s.pending ∧ (s.startCopy kind c e w n).fw.types = s.fw.types := by
  simp only [State.startCopy]
  (repeat' split) <;> simp

@[simp] theorem queue_types_startLcopy (c e : Nat) (w : StepWord) (n : Nat) :
    (s.startLcopy c e w n).pending = s.pending ∧ (s.startLcopy c e w n).fw.types = s.fw.types := by simp [State.startLcopy]

@[simp] theorem queue_types_startLs (c e : Nat) (w : StepWord) (n : Nat) :
    (s.startLs c e w n).pending = s.pending ∧ (s.startLs c e w n).fw.types = s.fw.types := by simp [State.startLs]

@[simp] theorem queue_types_startGather (c e : Nat) (w : StepWord) (n : Nat) :
    (s.startGather c e w n).pending = s.pending ∧ (s.startGather c e w n).fw.types = s.fw.types := by
  simp only [State.startGather]
  split <;> simp

@[simp] theorem queue_types_startScatter (c e : Nat) (w : StepWord) (n : Nat) :
    (s.startScatter c e w n).pending = s.pending ∧ (s.startScatter c e w n).fw.types = s.fw.types := by
  simp only [State.startScatter]
  refine queue_types_withDescs s c w _ fun sd dd => ?_
  split
  · simp
  · split
    · split <;> simp
    · simp

@[simp] theorem queue_types_startBucketCount (c e : Nat) (w : StepWord) (n : Nat) :
    (s.startBucketCount c e w n).pending = s.pending ∧ (s.startBucketCount c e w n).fw.types = s.fw.types := by
  simp only [State.startBucketCount]
  split <;> simp

@[simp] theorem queue_types_startAlloc (c e : Nat) (w : StepWord) (n : Nat) (picks : List (Nat × Nat)) :
    (s.startAlloc c e w n picks).pending = s.pending ∧ (s.startAlloc c e w n picks).fw.types = s.fw.types := by
  simp only [State.startAlloc]
  split <;> simp

@[simp] theorem queue_types_startFree (c e : Nat) (w : StepWord) (n : Nat) :
    (s.startFree c e w n).pending = s.pending ∧ (s.startFree c e w n).fw.types = s.fw.types := by
  simp only [State.startFree]
  split <;> simp

@[simp] theorem queue_types_startStep (c e n : Nat) (w : StepWord) (x : XfStep) :
    (s.startStep c e n w x).pending = s.pending ∧ (s.startStep c e n w x).fw.types = s.fw.types := by
  simp only [State.startStep]
  split <;> simp

@[simp] theorem queue_types_startHeld (c : Nat) (h : HeldXf) :
    (s.startHeld c h).pending = s.pending ∧ (s.startHeld c h).fw.types = s.fw.types := by simp [State.startHeld]

@[simp] theorem queue_types_pumpHeld (c n : Nat) :
    (s.pumpHeld c n).pending = s.pending ∧ (s.pumpHeld c n).fw.types = s.fw.types := by
  induction n generalizing s c with
  | zero => exact ⟨rfl, rfl⟩
  | succ n ih =>
    simp only [State.pumpHeld]
    (repeat' split) <;> simp [ih]

@[simp] theorem queue_types_pumpCores (l : List Nat) :
    (s.pumpCores l).pending = s.pending ∧ (s.pumpCores l).fw.types = s.fw.types := by
  induction l generalizing s  with
  | nil => exact ⟨rfl, rfl⟩
  | cons x xs ih => simp [State.pumpCores, ih]

@[simp] theorem queue_types_refillEngine (e : Nat) :
    (s.refillEngine e).pending = s.pending ∧ (s.refillEngine e).fw.types = s.fw.types := by simp [State.refillEngine]

@[simp] theorem queue_types_offerStep (c n : Nat) (w : StepWord) (f : XfStep) :
    (s.offerStep c n w f).pending = s.pending ∧ (s.offerStep c n w f).fw.types = s.fw.types := by simp [State.offerStep]

@[simp] theorem queue_types_issueXfer (c : Nat) (w : StepWord) (f : XfStep) :
    (s.issueXfer c w f).pending = s.pending ∧ (s.issueXfer c w f).fw.types = s.fw.types := by simp [State.issueXfer]

/-! #### Machine/Buckets.lean -/

@[simp] theorem queue_types_setHdrWord (h i v : Nat) :
    (s.setHdrWord h i v).pending = s.pending ∧ (s.setHdrWord h i v).fw.types = s.fw.types := by simp [State.setHdrWord]

@[simp] theorem queue_types_putProv (h self slot : Nat) (l : List (Nat × Nat)) :
    (s.putProv h self slot l).pending = s.pending ∧ (s.putProv h self slot l).fw.types = s.fw.types := by
  induction l generalizing s h self slot with
  | nil => exact ⟨rfl, rfl⟩
  | cons x xs ih => simp [State.putProv, ih]

@[simp] theorem queue_types_grantReq (h : Nat) (r : BucketReq) :
    (s.grantReq h r).pending = s.pending ∧ (s.grantReq h r).fw.types = s.fw.types := by simp [State.grantReq]

@[simp] theorem queue_types_grantAll (h : Nat) (l : List BucketReq) :
    (s.grantAll h l).pending = s.pending ∧ (s.grantAll h l).fw.types = s.fw.types := by
  induction l generalizing s h with
  | nil => exact ⟨rfl, rfl⟩
  | cons x xs ih => simp [State.grantAll, ih]

@[simp] theorem queue_types_openRound (h : Nat) :
    (s.openRound h).pending = s.pending ∧ (s.openRound h).fw.types = s.fw.types := by simp [State.openRound]

@[simp] theorem queue_types_takeReq (h : Nat) (r : BucketReq) :
    (s.takeReq h r).pending = s.pending ∧ (s.takeReq h r).fw.types = s.fw.types := by simp [State.takeReq]

@[simp] theorem queue_types_takeAll (h : Nat) (l : List BucketReq) :
    (s.takeAll h l).pending = s.pending ∧ (s.takeAll h l).fw.types = s.fw.types := by
  induction l generalizing s h with
  | nil => exact ⟨rfl, rfl⟩
  | cons x xs ih => simp [State.takeAll, ih]

@[simp] theorem queue_types_nextRound (h : Nat) :
    (s.nextRound h).pending = s.pending ∧ (s.nextRound h).fw.types = s.fw.types := by simp [State.nextRound]

@[simp] theorem queue_types_zeroRows (d : Desc) (f : Fmt) (i n : Nat) :
    (s.zeroRows d f i n).pending = s.pending ∧ (s.zeroRows d f i n).fw.types = s.fw.types := by
  induction n generalizing s d f i with
  | zero => exact ⟨rfl, rfl⟩
  | succ n ih => simp [State.zeroRows, ih]

@[simp] theorem queue_types_raiseDoneObj (h : Nat) :
    (s.raiseDoneObj h).pending = s.pending ∧ (s.raiseDoneObj h).fw.types = s.fw.types := by simp [State.raiseDoneObj]

@[simp] theorem queue_types_closeRound (h : Nat) :
    (s.closeRound h).pending = s.pending ∧ (s.closeRound h).fw.types = s.fw.types := by
  simp only [State.closeRound]
  (repeat' split) <;> simp

@[simp] theorem queue_types_rewriteEntry (x : Xfer) (d : Disp) (i b : Nat) :
    (s.rewriteEntry x d i b).pending = s.pending ∧ (s.rewriteEntry x d i b).fw.types = s.fw.types := by
  simp [State.rewriteEntry]

@[simp] theorem queue_types_rewriteAll (x : Xfer) (d : Disp) (b : Nat) (l : List Nat) :
    (s.rewriteAll x d b l).pending = s.pending ∧ (s.rewriteAll x d b l).fw.types = s.fw.types := by
  fun_induction State.rewriteAll s x d b l <;> simp_all

@[simp] theorem queue_types_mv_putGranted (x : Xfer) (e : Nat) (d : Disp) (dd : Desc) (sf df : Fmt) (slot : Nat) (l : List Nat) :
    (m.putGranted x e d dd sf df slot l).s.pending = m.s.pending ∧
      (m.putGranted x e d dd sf df slot l).s.fw.types = m.s.fw.types := by
  induction l generalizing m slot with
  | nil => exact ⟨rfl, rfl⟩
  | cons i is ih =>
    simp only [Mv.putGranted]
    split <;> simp [ih]

@[simp] theorem queue_types_mv_deferRow (x : Xfer) (e : Nat) (d : Disp) (b : Nat) (sf : Fmt) (i : Nat) :
    (m.deferRow x e d b sf i).1.s.pending = m.s.pending ∧ (m.deferRow x e d b sf i).1.s.fw.types = m.s.fw.types := by
  simp only [Mv.deferRow]
  (repeat' split) <;> simp

@[simp] theorem queue_types_mv_dealWith (x : Xfer) (e : Nat) (d : Disp) (sf : Fmt) (o : Nat × Nat × Nat) :
    (m.dealWith x e d sf o).1.s.pending = m.s.pending ∧ (m.dealWith x e d sf o).1.s.fw.types = m.s.fw.types := by
  simp only [Mv.dealWith]
  (repeat' split) <;> simp

@[simp] theorem queue_types_mv_dealAll (x : Xfer) (e : Nat) (d : Disp) (sf : Fmt) (l : List (Nat × Nat × Nat)) :
    (m.dealAll x e d sf l).1.s.pending = m.s.pending ∧ (m.dealAll x e d sf l).1.s.fw.types = m.s.fw.types := by
  induction l generalizing m d with
  | nil => exact ⟨rfl, rfl⟩
  | cons o os ih => simp [Mv.dealAll, ih]

@[simp] theorem queue_types_noteOverflow (x : Xfer) (d : Disp) (b policy : Nat) (ovf : List Nat) :
    (s.noteOverflow x d b policy ovf).1.pending = s.pending ∧ (s.noteOverflow x d b policy ovf).1.fw.types = s.fw.types := by
  simp [State.noteOverflow]

@[simp] theorem queue_types_takeGrant (x : Xfer) (e : Nat) (d : Disp) (b first granted policy : Nat) :
    (s.takeGrant x e d b first granted policy).pending = s.pending ∧
      (s.takeGrant x e d b first granted policy).fw.types = s.fw.types := by
  simp only [State.takeGrant]
  (repeat' split) <;> simp

/-! #### Machine/HostOps.lean -/

@[simp] theorem queue_types_cqInterrupt (fn q : Nat) :
    (s.cqInterrupt fn q).pending = s.pending ∧ (s.cqInterrupt fn q).fw.types = s.fw.types := by simp [State.cqInterrupt]

@[simp] theorem queue_types_cqPut (fn q : Nat) (c : CqRec) :
    (s.cqPut fn q c).pending = s.pending ∧ (s.cqPut fn q c).fw.types = s.fw.types := by simp [State.cqPut]

@[simp] theorem queue_types_cqDrain (fn q : Nat) (l : List CqRec) :
    (s.cqDrain fn q l).pending = s.pending ∧ (s.cqDrain fn q l).fw.types = s.fw.types := by
  induction l generalizing s fn q with
  | nil => exact ⟨rfl, rfl⟩
  | cons x xs ih => simp [State.cqDrain, ih]

@[simp] theorem queue_types_cqGo (fn q : Nat) : (s.cqGo fn q).pending = s.pending ∧ (s.cqGo fn q).fw.types = s.fw.types := by
  simp [State.cqGo]

@[simp] theorem queue_types_cqOffer (fn q : Nat) (c : CqRec) :
    (s.cqOffer fn q c).pending = s.pending ∧ (s.cqOffer fn q c).fw.types = s.fw.types := by simp [State.cqOffer]

@[simp] theorem queue_types_refOutcome (fn bit entry code : Nat) (sent : Bool) :
    (s.refOutcome fn bit entry code sent).pending = s.pending ∧
      (s.refOutcome fn bit entry code sent).fw.types = s.fw.types := by
  simp [State.refOutcome]

@[simp] theorem queue_types_sendRefs (d : HostDesc) (l : List Nat) :
    (s.sendRefs d l).1.pending = s.pending ∧ (s.sendRefs d l).1.fw.types = s.fw.types := by
  induction l generalizing s d with
  | nil => exact ⟨rfl, rfl⟩
  | cons x xs ih => simp [State.sendRefs, ih]

@[simp] theorem queue_types_finishDesc (d : HostDesc) (status result : Nat) :
    (s.finishDesc d status result).pending = s.pending ∧ (s.finishDesc d status result).fw.types = s.fw.types := by
  simp [State.finishDesc]

@[simp] theorem queue_types_complete (id status result : Nat) :
    (s.complete id status result).pending = s.pending ∧ (s.complete id status result).fw.types = s.fw.types := by
  simp only [State.complete]
  (repeat' split) <;> simp

@[simp] theorem queue_types_endRefused (fn r n : Nat) :
    (s.endRefused fn r n).pending = s.pending ∧ (s.endRefused fn r n).fw.types = s.fw.types := by
  induction n generalizing s fn r with
  | zero => exact ⟨rfl, rfl⟩
  | succ n ih =>
    simp only [State.endRefused]
    (repeat' split) <;> simp [ih]

@[simp] theorem queue_types_ringGo (fn r : Nat) :
    (s.ringGo fn r).pending = s.pending ∧ (s.ringGo fn r).fw.types = s.fw.types := by simp [State.ringGo]

@[simp] theorem queue_types_startDesc (fn r t : Nat) (f : HostDesc → State → State)
    (hf : ∀ d u, (f d u).pending = u.pending ∧ (f d u).fw.types = u.fw.types) :
    (s.startDesc fn r t f).pending = s.pending ∧ (s.startDesc fn r t f).fw.types = s.fw.types := by
  simp only [State.startDesc]
  split <;> simp [hf]

@[simp] theorem queue_types_endDesc (id status result : Nat) :
    (s.endDesc id status result).pending = s.pending ∧ (s.endDesc id status result).fw.types = s.fw.types := by
  simp only [State.endDesc]
  split <;> simp

@[simp] theorem queue_types_startIf (fn r t : Nat) (ok : HostDesc → Bool) (f : HostDesc → State → State)
    (hf : ∀ d u, (f d u).pending = u.pending ∧ (f d u).fw.types = u.fw.types) :
    (s.startIf fn r t ok f).pending = s.pending ∧ (s.startIf fn r t ok f).fw.types = s.fw.types := by
  simp only [State.startIf]
  split <;> simp [hf]

@[simp] theorem queue_types_quiesceDone (desc code count : Nat) :
    (s.quiesceDone desc code count).pending = s.pending ∧ (s.quiesceDone desc code count).fw.types = s.fw.types := by
  simp [State.quiesceDone]

@[simp] theorem queue_types_quiesceEnd (v : Nat) :
    (s.quiesceEnd v).pending = s.pending ∧ (s.quiesceEnd v).fw.types = s.fw.types := by
  simp only [State.quiesceEnd]
  (repeat' split) <;> simp

/-! #### Machine/Windows.lean -/

@[simp] theorem queue_types_respond (f : Flit) (kind aux : Nat) :
    (s.respond f kind aux).pending = s.pending ∧ (s.respond f kind aux).fw.types = s.fw.types := by simp [State.respond]

@[simp] theorem queue_types_refuse (f : Flit) (code : Nat) :
    (s.refuse f code).pending = s.pending ∧ (s.refuse f code).fw.types = s.fw.types := by simp [State.refuse]

@[simp] theorem queue_types_winStore (fd : Nat) (w : InWin) (off : Nat) (bs : List Byte) :
    (s.winStore fd w off bs).1.pending = s.pending ∧ (s.winStore fd w off bs).1.fw.types = s.fw.types := by
  simp [State.winStore]

@[simp] theorem queue_types_winLoad (fd : Nat) (w : InWin) (off n : Nat) :
    (s.winLoad fd w off n).1.pending = s.pending ∧ (s.winLoad fd w off n).1.fw.types = s.fw.types := by simp [State.winLoad]

@[simp] theorem queue_types_accept (w : Nat) : (s.accept w).pending = s.pending ∧ (s.accept w).fw.types = s.fw.types := ⟨rfl, rfl⟩
@[simp] theorem queue_types_unaccept (w : Nat) : (s.unaccept w).pending = s.pending ∧ (s.unaccept w).fw.types = s.fw.types := ⟨rfl, rfl⟩

@[simp] theorem queue_types_winStoreRuns (fd : Nat) (w : InWin) (off : Nat) (body : List Byte) (l : List (Nat × Nat)) :
    (s.winStoreRuns fd w off body l).1.pending = s.pending ∧ (s.winStoreRuns fd w off body l).1.fw.types = s.fw.types := by
  induction l generalizing s with
  | nil => exact ⟨rfl, rfl⟩
  | cons r rs ih =>
    simp only [State.winStoreRuns]
    split
    · next h => simp [ih, fst_of_eq h]
    · simp

@[simp] theorem queue_types_refuseTxn (f : Flit) (t : RxTxn) (code : Nat) :
    (s.refuseTxn f t code).pending = s.pending ∧ (s.refuseTxn f t code).fw.types = s.fw.types := by simp [State.refuseTxn]

@[simp] theorem queue_types_takeFlit (f : Flit) (w : InWin) :
    (s.takeFlit f w).1.pending = s.pending ∧ (s.takeFlit f w).1.fw.types = s.fw.types := by simp [State.takeFlit]

@[simp] theorem queue_types_takeUnits (f : Flit) (t : RxTxn) :
    (s.takeUnits f t).pending = s.pending ∧ (s.takeUnits f t).fw.types = s.fw.types := by
  simp only [State.takeUnits]
  split <;> next h => simp [fst_of_eq h]

@[simp] theorem queue_types_takeHeld (t : RxTxn) (l : List Flit) :
    (s.takeHeld t l).pending = s.pending ∧ (s.takeHeld t l).fw.types = s.fw.types := by
  induction l generalizing s with
  | nil => exact ⟨rfl, rfl⟩
  | cons f fs ih =>
    simp only [State.takeHeld]
    split <;> next h => simp [ih, fst_of_eq h]

@[simp] theorem queue_types_waitUnits (f : Flit) (t : RxTxn) :
    (s.waitUnits f t).pending = s.pending ∧ (s.waitUnits f t).fw.types = s.fw.types := by simp [State.waitUnits]

@[simp] theorem queue_types_lendWrite (f : Flit) :
    (s.lendWrite f).pending = s.pending ∧ (s.lendWrite f).fw.types = s.fw.types := by
  simp only [State.lendWrite]
  (repeat' split) <;> simp

@[simp] theorem queue_types_sendData (f : Flit) (off : Nat) (bs : List Byte) (n : Nat) :
    (s.sendData f off bs n).pending = s.pending ∧ (s.sendData f off bs n).fw.types = s.fw.types := by
  induction n generalizing s f off bs with
  | zero => exact ⟨rfl, rfl⟩
  | succ n ih => simp [State.sendData, ih]

@[simp] theorem queue_types_readEnded (t : Txn) :
    (s.readEnded t).pending = s.pending ∧ (s.readEnded t).fw.types = s.fw.types := by simp [State.readEnded]

@[simp] theorem queue_types_sigEnded (t : Txn) (lost : Bool) :
    (s.sigEnded t lost).pending = s.pending ∧ (s.sigEnded t lost).fw.types = s.fw.types := by simp [State.sigEnded]

@[simp] theorem queue_types_windowFailed (t : Txn) :
    (s.windowFailed t).pending = s.pending ∧ (s.windowFailed t).fw.types = s.fw.types := by
  simp only [State.windowFailed]
  split <;> simp

/-! #### Machine/Sync.lean -/

@[simp] theorem queue_types_release (l : List Waiter) :
    (s.release l).pending = s.pending ∧ (s.release l).fw.types = s.fw.types := by
  fun_induction State.release s l <;> simp_all

@[simp] theorem queue_types_objTest (n : Nat) : (s.objTest n).pending = s.pending ∧ (s.objTest n).fw.types = s.fw.types := by
  simp [State.objTest]

@[simp] theorem queue_types_objReport (n srcKind src : Nat) :
    (s.objReport n srcKind src).pending = s.pending ∧ (s.objReport n srcKind src).fw.types = s.fw.types := by
  simp only [State.objReport]
  split <;> simp

@[simp] theorem queue_types_objPrimed (n srcKind src : Nat) :
    (s.objPrimed n srcKind src).pending = s.pending ∧ (s.objPrimed n srcKind src).fw.types = s.fw.types := by
  simp [State.objPrimed]

@[simp] theorem queue_types_objAdd (n : Nat) (a : Int) (srcKind src : Nat) :
    (s.objAdd n a srcKind src).1.pending = s.pending ∧ (s.objAdd n a srcKind src).1.fw.types = s.fw.types := by
  simp [State.objAdd]

@[simp] theorem queue_types_objJoin (n : Nat) (w : Waiter) (srcKind src : Nat) :
    (s.objJoin n w srcKind src).pending = s.pending ∧ (s.objJoin n w srcKind src).fw.types = s.fw.types := by
  simp [State.objJoin]

@[simp] theorem queue_types_dbg (fn p : Nat) (f : Nat → SyncObj → Nat → State × Nat)
    (hf : ∀ n o v, (f n o v).1.pending = s.pending ∧ (f n o v).1.fw.types = s.fw.types) :
    (s.dbg fn p f).pending = s.pending ∧ (s.dbg fn p f).fw.types = s.fw.types := by
  simp only [State.dbg]
  (repeat' split) <;> simp [hf]

/-! #### Machine/Global.lean -/

@[simp] theorem queue_types_payRead (c : Nat) (d : Desc) (r : Nat × Nat) :
    (s.payRead c d r).1.pending = s.pending ∧ (s.payRead c d r).1.fw.types = s.fw.types := by
  simp only [State.payRead]
  split
  · split <;> simp
  · split <;> next h => simp [fst_of_eq h]

@[simp] theorem queue_types_payWrite (c : Nat) (d : Desc) (a : Nat) (bs : List Byte) :
    (s.payWrite c d a bs).pending = s.pending ∧ (s.payWrite c d a bs).fw.types = s.fw.types := by simp [State.payWrite]

@[simp] theorem queue_types_payReads (c : Nat) (d : Desc) (l : List (Nat × Nat)) :
    (s.payReads c d l).1.pending = s.pending ∧ (s.payReads c d l).1.fw.types = s.fw.types := by
  induction l generalizing s with
  | nil => exact ⟨rfl, rfl⟩
  | cons r rs ih =>
    simp only [State.payReads]
    split
    · next h => simp [ih, fst_of_eq h]
    · simp

@[simp] theorem queue_types_paySparse (c : Nat) (d : Desc) (a : Nat) (bs : List (Option Byte)) (n : Nat) :
    (s.paySparse c d a bs n).pending = s.pending ∧ (s.paySparse c d a bs n).fw.types = s.fw.types := by
  induction n generalizing s c d a bs with
  | zero => exact ⟨rfl, rfl⟩
  | succ n ih =>
    simp only [State.paySparse]
    (repeat' split) <;> simp [ih]

@[simp] theorem queue_types_payStore (c : Nat) (d : Desc) (bs : List (Option Byte)) (l : List (Nat × Nat)) :
    (s.payStore c d bs l).pending = s.pending ∧ (s.payStore c d bs l).fw.types = s.fw.types := by
  induction l generalizing s c d bs with
  | nil => exact ⟨rfl, rfl⟩
  | cons x xs ih => simp [State.payStore, ih]

@[simp] theorem queue_types_gop (p tree op dir seq link label idx units off : Nat) (body : List Byte) :
    (s.gop p tree op dir seq link label idx units off body).pending = s.pending ∧
      (s.gop p tree op dir seq link label idx units off body).fw.types = s.fw.types := by
  simp [State.gop]

@[simp] theorem queue_types_gopWords (p tree op dir seq link label idx : Nat) (l : List (Nat × List Byte)) :
    (s.gopWords p tree op dir seq link label idx l).pending = s.pending ∧
      (s.gopWords p tree op dir seq link label idx l).fw.types = s.fw.types := by
  induction l generalizing s p tree op dir seq link label idx with
  | nil => exact ⟨rfl, rfl⟩
  | cons x xs ih => simp [State.gopWords, ih]

@[simp] theorem queue_types_gopMap (p tree op dir seq link : Nat) (m : Option (List Bool)) (zero : Bool) :
    (s.gopMap p tree op dir seq link m zero).pending = s.pending ∧
      (s.gopMap p tree op dir seq link m zero).fw.types = s.fw.types := by
  simp only [State.gopMap]
  split <;> simp

@[simp] theorem queue_types_gopPartials (p tree op dir seq link : Nat) (l : List Partial) :
    (s.gopPartials p tree op dir seq link l).pending = s.pending ∧
      (s.gopPartials p tree op dir seq link l).fw.types = s.fw.types := by
  induction l generalizing s p tree op dir seq link with
  | nil => exact ⟨rfl, rfl⟩
  | cons x xs ih => simp [State.gopPartials, ih]

@[simp] theorem queue_types_memberDone (g : Nat) (n : TreeNode) (c : Contrib) :
    (s.memberDone g n c).pending = s.pending ∧ (s.memberDone g n c).fw.types = s.fw.types := by simp [State.memberDone]

@[simp] theorem queue_types_membersDone (g : Nat) (n : TreeNode) (l : List Contrib) :
    (s.membersDone g n l).pending = s.pending ∧ (s.membersDone g n l).fw.types = s.fw.types := by
  induction l generalizing s g n with
  | nil => exact ⟨rfl, rfl⟩
  | cons x xs ih => simp [State.membersDone, ih]

@[simp] theorem queue_types_snapStore (s0 : State) (p : Nat) (n : TreeNode) (t : Nat) (l : List Contrib) :
    (s0.snapStore p n t s l).pending = s.pending ∧ (s0.snapStore p n t s l).fw.types = s.fw.types := by
  induction l generalizing s with
  | nil => exact ⟨rfl, rfl⟩
  | cons c cs ih => simp [State.snapStore, ih]

@[simp] theorem queue_types_startGlobals (c fuel : Nat) :
    (s.startGlobals c fuel).pending = s.pending ∧ (s.startGlobals c fuel).fw.types = s.fw.types := by
  induction fuel generalizing s with
  | zero => exact ⟨rfl, rfl⟩
  | succ n ih =>
    simp only [State.startGlobals]
    split
    · exact ⟨rfl, rfl⟩
    · split
      · exact ⟨rfl, rfl⟩
      · generalize (!_) = unread
        split
        · simp
        · split <;> next h => simp [ih, fst_of_eq h]

@[simp] theorem queue_types_sendDown (p g : Nat) (n : TreeNode) (body : List (Option Nat)) (l : List Nat) :
    (s.sendDown p g n body l).pending = s.pending ∧ (s.sendDown p g n body l).fw.types = s.fw.types := by
  induction l generalizing s p g n body with
  | nil => exact ⟨rfl, rfl⟩
  | cons x xs ih => simp [State.sendDown, ih]

@[simp] theorem queue_types_nodeOver (key : Nat) (n : TreeNode) :
    (s.nodeOver key n).pending = s.pending ∧ (s.nodeOver key n).fw.types = s.fw.types := by simp [State.nodeOver]

@[simp] theorem queue_types_latch (p key : Nat) (n : TreeNode) (t : Nat) :
    (s.latch p key n t).pending = s.pending ∧ (s.latch p key n t).fw.types = s.fw.types := by simp [State.latch]

@[simp] theorem queue_types_nodeGo (p g : Nat) : (s.nodeGo p g).pending = s.pending ∧ (s.nodeGo p g).fw.types = s.fw.types := by
  simp only [State.nodeGo]
  (repeat' split) <;> simp

@[simp] theorem queue_types_nodesGo (p : Nat) (l : List Nat) :
    (s.nodesGo p l).pending = s.pending ∧ (s.nodesGo p l).fw.types = s.fw.types := by
  induction l generalizing s p with
  | nil => exact ⟨rfl, rfl⟩
  | cons x xs ih => simp [State.nodesGo, ih]

@[simp] theorem queue_types_wakeGlobals (l : List Nat) :
    (s.wakeGlobals l).pending = s.pending ∧ (s.wakeGlobals l).fw.types = s.fw.types := by
  induction l generalizing s  with
  | nil => exact ⟨rfl, rfl⟩
  | cons x xs ih => simp [State.wakeGlobals, ih]

@[simp] theorem queue_types_nodeRun (p g : Nat) :
    (s.nodeRun p g).pending = s.pending ∧ (s.nodeRun p g).fw.types = s.fw.types := by simp [State.nodeRun]

@[simp] theorem queue_types_gopTake (p link : Nat) (f : Flit) :
    (s.gopTake p link f).pending = s.pending ∧ (s.gopTake p link f).fw.types = s.fw.types := by
  have hdown (l : List Nat) (g op dir seq units off : Nat) (body : List Byte) :
      (l.foldl (fun s x => s.gop p g op dir seq x 0 0 units off body) s).pending = s.pending ∧
        (l.foldl (fun s x => s.gop p g op dir seq x 0 0 units off body) s).fw.types = s.fw.types :=
    List.foldlRecOn (motive := fun t : State => t.pending = s.pending ∧ t.fw.types = s.fw.types) l _ ⟨rfl, rfl⟩
      fun _ h _ _ => by simp [h]
  simp only [State.gopTake]
  (repeat' split) <;> simp [hdown]

@[simp] theorem queue_types_gopHeld (p g : Nat) (l : List (Nat × Flit)) :
    (s.gopHeld p g l).pending = s.pending ∧ (s.gopHeld p g l).fw.types = s.fw.types := by
  induction l generalizing s p g with
  | nil => exact ⟨rfl, rfl⟩
  | cons x xs ih => simp [State.gopHeld, ih]

@[simp] theorem queue_types_gopDrain (p g : Nat) :
    (s.gopDrain p g).pending = s.pending ∧ (s.gopDrain p g).fw.types = s.fw.types := by simp [State.gopDrain]

@[simp] theorem queue_types_gopCheck (link : Nat) (f : Flit) :
    (s.gopCheck link f).pending = s.pending ∧ (s.gopCheck link f).fw.types = s.fw.types := by
  simp only [State.gopCheck]
  split <;> simp

@[simp] theorem queue_types_globalStep (c : Nat) (w : StepWord) (kind : Nat) :
    (s.globalStep c w kind).pending = s.pending ∧ (s.globalStep c w kind).fw.types = s.fw.types := by
  simp only [State.globalStep]
  refine queue_types_front s c _ fun k => ?_
  split
  · simp
  · split
    · exact ⟨rfl, rfl⟩
    · split
      · simp
      · split
        · (repeat' split) <;> simp
        · simp

/-! #### Machine/PowerOps.lean -/

@[simp] theorem queue_types_lowerAll (ts l : List Nat) :
    (s.lowerAll ts l).pending = s.pending ∧ (s.lowerAll ts l).fw.types = s.fw.types := by
  induction l generalizing s ts with
  | nil => exact ⟨rfl, rfl⟩
  | cons x xs ih => simp [State.lowerAll, ih]

@[simp] theorem queue_types_raiseCluster (k : Nat) :
    (s.raiseCluster k).pending = s.pending ∧ (s.raiseCluster k).fw.types = s.fw.types := by simp [State.raiseCluster]

@[simp] theorem queue_types_raiseClusters (l : List Nat) :
    (s.raiseClusters l).pending = s.pending ∧ (s.raiseClusters l).fw.types = s.fw.types := by
  induction l generalizing s  with
  | nil => exact ⟨rfl, rfl⟩
  | cons x xs ih => simp [State.raiseClusters, ih]

/-! #### Machine/Launch.lean -/

@[simp] theorem queue_types_carryHeader (x : Xfer) :
    (s.carryHeader x).pending = s.pending ∧ (s.carryHeader x).fw.types = s.fw.types := by
  simp only [State.carryHeader]
  split <;> simp

@[simp] theorem queue_types_stepXferEnd (x : Xfer) (e : Nat) :
    (s.stepXferEnd x e).pending = s.pending ∧ (s.stepXferEnd x e).fw.types = s.fw.types := by simp [State.stepXferEnd]

@[simp] theorem queue_types_assignObjs (p slot : Nat) (im : List Byte) (l : List Nat) :
    (s.assignObjs p slot im l).pending = s.pending ∧ (s.assignObjs p slot im l).fw.types = s.fw.types := by
  induction l generalizing s p slot im with
  | nil => exact ⟨rfl, rfl⟩
  | cons x xs ih =>
    simp only [State.assignObjs]
    (repeat' split) <;> simp [ih]

@[simp] theorem queue_types_endHostWaits (status result : Nat) (l : List Waiter) :
    (s.endHostWaits status result l).pending = s.pending ∧ (s.endHostWaits status result l).fw.types = s.fw.types := by
  fun_induction State.endHostWaits s status result l <;> simp_all

@[simp] theorem queue_types_freeObj (o status result : Nat) :
    (s.freeObj o status result).pending = s.pending ∧ (s.freeObj o status result).fw.types = s.fw.types := by
  simp [State.freeObj]

@[simp] theorem queue_types_freeObjs (status result : Nat) (l : List Nat) :
    (s.freeObjs status result l).pending = s.pending ∧ (s.freeObjs status result l).fw.types = s.fw.types := by
  induction l generalizing s status result with
  | nil => exact ⟨rfl, rfl⟩
  | cons x xs ih => simp [State.freeObjs, ih]

@[simp] theorem queue_types_bindImage (p : Nat) (pl : SlotPlace) :
    (s.bindImage p pl).pending = s.pending ∧ (s.bindImage p pl).fw.types = s.fw.types := by
  simp only [State.bindImage]
  split <;> simp

@[simp] theorem queue_types_dropL1s (l : List Nat) : (s.dropL1s l).pending = s.pending ∧ (s.dropL1s l).fw.types = s.fw.types := by
  induction l generalizing s  with
  | nil => exact ⟨rfl, rfl⟩
  | cons x xs ih => simp [State.dropL1s, ih]

@[simp] theorem queue_types_reload (p k : Nat) : (s.reload p k).pending = s.pending ∧
      (s.reload p k).fw.types = s.fw.types := by
  simp [State.reload]

@[simp] theorem queue_types_reloads (p : Nat) (l : List Nat) :
    (s.reloads p l).pending = s.pending ∧ (s.reloads p l).fw.types = s.fw.types := by
  induction l generalizing s p with
  | nil => exact ⟨rfl, rfl⟩
  | cons x xs ih => simp [State.reloads, ih]

@[simp] theorem queue_types_startCores (p slot v k : Nat) (im : List Byte) (n : Nat) :
    (s.startCores p slot v k im n).pending = s.pending ∧ (s.startCores p slot v k im n).fw.types = s.fw.types := by
  induction n generalizing s p slot v k im with
  | zero => exact ⟨rfl, rfl⟩
  | succ n ih => simp [State.startCores, ih]

@[simp] theorem queue_types_startClusters (p slot : Nat) (im : List Byte) (l : List (Nat × Nat)) :
    (s.startClusters p slot im l).pending = s.pending ∧ (s.startClusters p slot im l).fw.types = s.fw.types := by
  fun_induction State.startClusters s p slot im l <;> simp_all

@[simp] theorem queue_types_setDecls (p slot : Nat) (im : List Byte) (l : List Nat) :
    (s.setDecls p slot im l).pending = s.pending ∧ (s.setDecls p slot im l).fw.types = s.fw.types := by
  induction l generalizing s p slot im with
  | nil => exact ⟨rfl, rfl⟩
  | cons x xs ih =>
    simp only [State.setDecls]
    (repeat' split) <;> simp [ih]

@[simp] theorem queue_types_startTrees (p slot : Nat) (im : List Byte) (l : List Nat) :
    (s.startTrees p slot im l).pending = s.pending ∧ (s.startTrees p slot im l).fw.types = s.fw.types := by
  induction l generalizing s p slot im with
  | nil => exact ⟨rfl, rfl⟩
  | cons x xs ih => simp [State.startTrees, ih]

@[simp] theorem queue_types_startMember (p slot : Nat) :
    (s.startMember p slot).pending = s.pending ∧ (s.startMember p slot).fw.types = s.fw.types := by
  simp only [State.startMember]
  split <;> simp

@[simp] theorem queue_types_tellMembers (p kind a b : Nat) :
    (s.tellMembers p kind a b).pending = s.pending ∧ (s.tellMembers p kind a b).fw.types = s.fw.types := ⟨rfl, rfl⟩

@[simp] theorem queue_types_startLaunch (p : Nat) (x : Queued) :
    (s.startLaunch p x).pending = s.pending ∧ (s.startLaunch p x).fw.types = s.fw.types := by simp [State.startLaunch]

@[simp] theorem queue_types_launchNext (p : Nat) :
    (s.launchNext p).pending = s.pending ∧ (s.launchNext p).fw.types = s.fw.types := by
  simp only [State.launchNext]
  split <;> simp

@[simp] theorem queue_types_idleFrom (l : List Nat) :
    (s.idleFrom l).pending = s.pending ∧ (s.idleFrom l).fw.types = s.fw.types := by
  induction l generalizing s  with
  | nil => exact ⟨rfl, rfl⟩
  | cons x xs ih => simp [State.idleFrom, ih]

@[simp] theorem queue_types_launchOver (p : Nat) :
    (s.launchOver p).pending = s.pending ∧ (s.launchOver p).fw.types = s.fw.types := by simp [State.launchOver]

@[simp] theorem queue_types_launchComplete (p : Nat) :
    (s.launchComplete p).pending = s.pending ∧ (s.launchComplete p).fw.types = s.fw.types := by
  simp only [State.launchComplete]
  (repeat' split) <;> simp

@[simp] theorem queue_types_loadImage (p slot : Nat) (bs : List Byte) (pl : SlotPlace) :
    (s.loadImage p slot bs pl).1.pending = s.pending ∧ (s.loadImage p slot bs pl).1.fw.types = s.fw.types := by
  simp [State.loadImage]

@[simp] theorem queue_types_dropImage (p slot : Nat) :
    (s.dropImage p slot).pending = s.pending ∧ (s.dropImage p slot).fw.types = s.fw.types := by
  simp only [State.dropImage]
  split <;> simp

@[simp] theorem queue_types_loadEnd (desc status slot : Nat) :
    (s.loadEnd desc status slot).pending = s.pending ∧ (s.loadEnd desc status slot).fw.types = s.fw.types := by
  simp [State.loadEnd]

@[simp] theorem queue_types_loadHere (d : HostDesc) (p : Nat) (pl : SlotPlace) :
    (s.loadHere d p pl).pending = s.pending ∧ (s.loadHere d p pl).fw.types = s.fw.types := by
  simp only [State.loadHere]
  split
  · simp
  · split <;> next h => simp [fst_of_eq h]

/-! #### Machine/TdiOps.lean -/

@[simp] theorem queue_types_abortCopies (l : List (Nat × Xfer)) :
    (s.abortCopies l).pending = s.pending ∧ (s.abortCopies l).fw.types = s.fw.types := by
  induction l generalizing s  with
  | nil => exact ⟨rfl, rfl⟩
  | cons x xs ih =>
    simp only [State.abortCopies]
    (repeat' split) <;> simp [ih]

@[simp] theorem queue_types_stopXfers (l : List (Nat × Xfer)) :
    (s.stopXfers l).pending = s.pending ∧ (s.stopXfers l).fw.types = s.fw.types := by
  induction l generalizing s  with
  | nil => exact ⟨rfl, rfl⟩
  | cons x xs ih => simp [State.stopXfers, ih]

@[simp] theorem queue_types_refillAll (l : List Nat) :
    (s.refillAll l).pending = s.pending ∧ (s.refillAll l).fw.types = s.fw.types := by
  induction l generalizing s  with
  | nil => exact ⟨rfl, rfl⟩
  | cons x xs ih => simp [State.refillAll, ih]

@[simp] theorem queue_types_dropXfers (f : Xfer → Bool) :
    (s.dropXfers f).1.pending = s.pending ∧ (s.dropXfers f).1.fw.types = s.fw.types := by simp [State.dropXfers]

@[simp] theorem queue_types_pullXfers (f : Xfer → Bool) :
    (s.pullXfers f).1.pending = s.pending ∧ (s.pullXfers f).1.fw.types = s.fw.types := by simp [State.pullXfers]

@[simp] theorem queue_types_removeDesc (d : HostDesc) :
    (s.removeDesc d).pending = s.pending ∧ (s.removeDesc d).fw.types = s.fw.types := by
  simp only [State.removeDesc]
  (repeat' split) <;> simp

@[simp] theorem queue_types_removeDescs (l : List HostDesc) :
    (s.removeDescs l).1.pending = s.pending ∧ (s.removeDescs l).1.fw.types = s.fw.types := by
  induction l generalizing s  with
  | nil => exact ⟨rfl, rfl⟩
  | cons x xs ih =>
    simp only [State.removeDescs]
    (repeat' split) <;> simp [ih]

@[simp] theorem queue_types_ctxRemove (v h cause : Nat) :
    (s.ctxRemove v h cause).1.pending = s.pending ∧ (s.ctxRemove v h cause).1.fw.types = s.fw.types := by
  simp [State.ctxRemove]

@[simp] theorem queue_types_ctxRemoves (v cause : Nat) (l : List Nat) :
    (s.ctxRemoves v cause l).pending = s.pending ∧ (s.ctxRemoves v cause l).fw.types = s.fw.types := by
  induction l generalizing s v cause with
  | nil => exact ⟨rfl, rfl⟩
  | cons x xs ih => simp [State.ctxRemoves, ih]

@[simp] theorem queue_types_tdiTo (v : Nat) (st : TdiSt) :
    (s.tdiTo v st).pending = s.pending ∧ (s.tdiTo v st).fw.types = s.fw.types := by simp [State.tdiTo]

@[simp] theorem queue_types_tdiFail (v : Nat) : (s.tdiFail v).pending = s.pending ∧ (s.tdiFail v).fw.types = s.fw.types := by
  simp [State.tdiFail]

@[simp] theorem queue_types_endTenants (p : Nat) :
    (s.endTenants p).pending = s.pending ∧ (s.endTenants p).fw.types = s.fw.types := ⟨rfl, rfl⟩

/-! #### Machine/LinkOps.lean -/

@[simp] theorem queue_types_sendEvents (l : List McEvent) :
    (s.sendEvents l).pending = s.pending ∧ (s.sendEvents l).fw.types = s.fw.types := by
  induction l generalizing s  with
  | nil => exact ⟨rfl, rfl⟩
  | cons x xs ih => simp [State.sendEvents, ih]

@[simp] theorem queue_types_mctpEvent (code object : Nat) :
    (s.mctpEvent code object).pending = s.pending ∧ (s.mctpEvent code object).fw.types = s.fw.types := by
  simp only [State.mctpEvent]
  (repeat' split) <;> simp

@[simp] theorem queue_types_svcEvt (k m : Nat) : (s.svcEvt k m).pending = s.pending ∧
      (s.svcEvt k m).fw.types = s.fw.types := by
  simp [State.svcEvt]

@[simp] theorem queue_types_secAlarm (b : Nat) : (s.secAlarm b).pending = s.pending ∧
      (s.secAlarm b).fw.types = s.fw.types := by
  simp [State.secAlarm]

@[simp] theorem queue_types_panelRecord (event object code value : Nat) :
    (s.panelRecord event object code value).pending = s.pending ∧
      (s.panelRecord event object code value).fw.types = s.fw.types := by
  simp [State.panelRecord]

@[simp] theorem queue_types_sendWords (i kind : Nat) (payloads : List Nat) (auth : Bool) :
    (s.sendWords i kind payloads auth).pending = s.pending ∧ (s.sendWords i kind payloads auth).fw.types = s.fw.types := by
  simp [State.sendWords]

@[simp] theorem queue_types_control (i kind payload : Nat) (auth : Bool) :
    (s.control i kind payload auth).pending = s.pending ∧ (s.control i kind payload auth).fw.types = s.fw.types := by
  simp [State.control]

@[simp] theorem queue_types_announce (i : Nat) : (s.announce i).pending = s.pending ∧
      (s.announce i).fw.types = s.fw.types := by
  simp [State.announce]

@[simp] theorem queue_types_announceOn (l : List Nat) :
    (s.announceOn l).pending = s.pending ∧ (s.announceOn l).fw.types = s.fw.types := by
  induction l generalizing s  with
  | nil => exact ⟨rfl, rfl⟩
  | cons x xs ih => simp [State.announceOn, ih]

@[simp] theorem queue_types_requar (i : Nat) : (s.requar i).pending = s.pending ∧ (s.requar i).fw.types = s.fw.types := by
  simp [State.requar]

@[simp] theorem queue_types_requarOn (l : List Nat) :
    (s.requarOn l).pending = s.pending ∧ (s.requarOn l).fw.types = s.fw.types := by
  induction l generalizing s  with
  | nil => exact ⟨rfl, rfl⟩
  | cons x xs ih => simp [State.requarOn, ih]

@[simp] theorem queue_types_dropFlits (off n : Nat) :
    (s.dropFlits off n).pending = s.pending ∧ (s.dropFlits off n).fw.types = s.fw.types := by
  induction n generalizing s off with
  | zero => exact ⟨rfl, rfl⟩
  | succ n ih => simp [State.dropFlits, ih]

@[simp] theorem queue_types_reroute (l : List Flit) :
    (s.reroute l).pending = s.pending ∧ (s.reroute l).fw.types = s.fw.types := by
  induction l generalizing s  with
  | nil => exact ⟨rfl, rfl⟩
  | cons x xs ih => simp [State.reroute, ih]

@[simp] theorem queue_types_parentLost (i : Nat) :
    (s.parentLost i).pending = s.pending ∧ (s.parentLost i).fw.types = s.fw.types := by simp [State.parentLost]

@[simp] theorem queue_types_linkTo (i : Nat) (st : LnkSt) (cause : Nat) :
    (s.linkTo i st cause).pending = s.pending ∧ (s.linkTo i st cause).fw.types = s.fw.types := by simp [State.linkTo]

@[simp] theorem queue_types_rekeyOut (i msg xid : Nat) (bs : List Byte) (small : Nat) :
    (s.rekeyOut i msg xid bs small).pending = s.pending ∧ (s.rekeyOut i msg xid bs small).fw.types = s.fw.types := by
  simp [State.rekeyOut]

@[simp] theorem queue_types_sendRekey (i msg xid : Nat) (bs : List Byte) (small : Nat) :
    (s.sendRekey i msg xid bs small).pending = s.pending ∧ (s.sendRekey i msg xid bs small).fw.types = s.fw.types := by
  simp [State.sendRekey]

@[simp] theorem queue_types_beginExch (i : Nat) (rollover : Bool) :
    (s.beginExch i rollover).pending = s.pending ∧ (s.beginExch i rollover).fw.types = s.fw.types := by
  simp [State.beginExch]

@[simp] theorem queue_types_startKeying (i : Nat) :
    (s.startKeying i).pending = s.pending ∧ (s.startKeying i).fw.types = s.fw.types := by
  simp only [State.startKeying]
  split <;> simp

@[simp] theorem queue_types_startKeyings (l : List Nat) :
    (s.startKeyings l).pending = s.pending ∧ (s.startKeyings l).fw.types = s.fw.types := by
  induction l generalizing s  with
  | nil => exact ⟨rfl, rfl⟩
  | cons x xs ih => simp [State.startKeyings, ih]

@[simp] theorem queue_types_toQuarantine (i : Nat) :
    (s.toQuarantine i).pending = s.pending ∧ (s.toQuarantine i).fw.types = s.fw.types := by simp [State.toQuarantine]

@[simp] theorem queue_types_linkAlarm (i : Nat) :
    (s.linkAlarm i).pending = s.pending ∧ (s.linkAlarm i).fw.types = s.fw.types := by simp [State.linkAlarm]

@[simp] theorem queue_types_rehold (i : Nat) : (s.rehold i).pending = s.pending ∧ (s.rehold i).fw.types = s.fw.types := by
  simp only [State.rehold]
  (repeat' split) <;> simp

@[simp] theorem queue_types_reholdOn (l : List Nat) :
    (s.reholdOn l).pending = s.pending ∧ (s.reholdOn l).fw.types = s.fw.types := by
  induction l generalizing s  with
  | nil => exact ⟨rfl, rfl⟩
  | cons x xs ih => simp [State.reholdOn, ih]

@[simp] theorem queue_types_tableWritten (l : List Nat) :
    (s.tableWritten l).pending = s.pending ∧ (s.tableWritten l).fw.types = s.fw.types := by
  induction l generalizing s  with
  | nil => exact ⟨rfl, rfl⟩
  | cons x xs ih => simp [State.tableWritten, ih]

@[simp] theorem queue_types_activateRoutes : s.activateRoutes.pending = s.pending ∧
      s.activateRoutes.fw.types = s.fw.types := by
  simp [State.activateRoutes]

@[simp] theorem queue_types_askReplay (i : Nat) :
    (s.askReplay i).pending = s.pending ∧ (s.askReplay i).fw.types = s.fw.types := by simp [State.askReplay]

@[simp] theorem queue_types_linkDown (i cause : Nat) :
    (s.linkDown i cause).pending = s.pending ∧ (s.linkDown i cause).fw.types = s.fw.types := by simp [State.linkDown]

@[simp] theorem queue_types_linksDown (cause : Nat) (l : List Nat) :
    (s.linksDown cause l).pending = s.pending ∧ (s.linksDown cause l).fw.types = s.fw.types := by
  induction l generalizing s cause with
  | nil => exact ⟨rfl, rfl⟩
  | cons x xs ih => simp [State.linksDown, ih]

@[simp] theorem queue_types_linksUp (l : List Nat) : (s.linksUp l).pending = s.pending ∧ (s.linksUp l).fw.types = s.fw.types := by
  induction l generalizing s  with
  | nil => exact ⟨rfl, rfl⟩
  | cons x xs ih => simp [State.linksUp, ih]

@[simp] theorem queue_types_supplyFailure (c : Nat) (overload : Bool) :
    (s.supplyFailure c overload).pending = s.pending ∧ (s.supplyFailure c overload).fw.types = s.fw.types := by
  simp [State.supplyFailure]

@[simp] theorem queue_types_cmisFault (c : Nat) :
    (s.cmisFault c).pending = s.pending ∧ (s.cmisFault c).fw.types = s.fw.types := by simp [State.cmisFault]

@[simp] theorem queue_types_powerRestart (c : Nat) :
    (s.powerRestart c).pending = s.pending ∧ (s.powerRestart c).fw.types = s.fw.types := ⟨rfl, rfl⟩

@[simp] theorem queue_types_attnRequest (c : Nat) :
    (s.attnRequest c).pending = s.pending ∧ (s.attnRequest c).fw.types = s.fw.types := by simp [State.attnRequest]

@[simp] theorem queue_types_attnCancel (c : Nat) :
    (s.attnCancel c).pending = s.pending ∧ (s.attnCancel c).fw.types = s.fw.types := by
  simp only [State.attnCancel]
  split <;> simp

@[simp] theorem queue_types_attnSafe (c : Nat) : (s.attnSafe c).pending = s.pending ∧
      (s.attnSafe c).fw.types = s.fw.types := by
  simp [State.attnSafe]

/-! #### Machine/CurOps.lean -/

@[simp] theorem queue_types_setSt (p : Nat) (st : PartSt) :
    (s.setSt p st).pending = s.pending ∧ (s.setSt p st).fw.types = s.fw.types := by simp [State.setSt]

@[simp] theorem queue_types_endBinds (code epoch : Nat) (cat : List Byte) (hash : Bool) (l : List (Nat × Nat)) :
    (s.endBinds code epoch cat hash l).pending = s.pending ∧ (s.endBinds code epoch cat hash l).fw.types = s.fw.types := by
  induction l generalizing s code epoch cat hash with
  | nil => exact ⟨rfl, rfl⟩
  | cons x xs ih => simp [State.endBinds, ih]

@[simp] theorem queue_types_mctpBindEnd (seqs : List Nat) (comp code : Nat) :
    (s.mctpBindEnd seqs comp code).pending = s.pending ∧ (s.mctpBindEnd seqs comp code).fw.types = s.fw.types := by
  simp [State.mctpBindEnd]

@[simp] theorem queue_types_opEnd (p code : Nat) :
    (s.opEnd p code).pending = s.pending ∧ (s.opEnd p code).fw.types = s.fw.types := by
  simp only [State.opEnd]
  split <;> simp

@[simp] theorem queue_types_bindReply (descs : List (Nat × Nat)) (mctp : List Nat) (comp code : Nat) :
    (s.bindReply descs mctp comp code).pending = s.pending ∧ (s.bindReply descs mctp comp code).fw.types = s.fw.types := by
  simp [State.bindReply]

@[simp] theorem queue_types_takeGroup (p : Nat) (m : EnvMember) (x : Nat × Nat × List Nat) :
    (s.takeGroup p m x).pending = s.pending ∧ (s.takeGroup p m x).fw.types = s.fw.types := by simp [State.takeGroup]

@[simp] theorem queue_types_takeGroups (p : Nat) (m : EnvMember) (l : List (Nat × Nat × List Nat)) :
    (s.takeGroups p m l).pending = s.pending ∧ (s.takeGroups p m l).fw.types = s.fw.types := by
  induction l generalizing s p m with
  | nil => exact ⟨rfl, rfl⟩
  | cons x xs ih => simp [State.takeGroups, ih]

@[simp] theorem queue_types_setBuckets (base rem : Nat) (l : List Nat) :
    (s.setBuckets base rem l).pending = s.pending ∧ (s.setBuckets base rem l).fw.types = s.fw.types := by
  induction l generalizing s base rem with
  | nil => exact ⟨rfl, rfl⟩
  | cons x xs ih => simp [State.setBuckets, ih]

@[simp] theorem queue_types_reshare (l : List Nat) : (s.reshare l).pending = s.pending ∧ (s.reshare l).fw.types = s.fw.types := by
  induction l generalizing s  with
  | nil => exact ⟨rfl, rfl⟩
  | cons x xs ih => simp [State.reshare, ih]

@[simp] theorem queue_types_setQos (p role flags : Nat) (m : EnvMember) (ks : List Nat) :
    (s.setQos p role flags m ks).pending = s.pending ∧ (s.setQos p role flags m ks).fw.types = s.fw.types := by
  simp [State.setQos]

@[simp] theorem queue_types_writeTables (l : List (Nat × List Nat)) :
    (s.writeTables l).pending = s.pending ∧ (s.writeTables l).fw.types = s.fw.types := by
  induction l generalizing s  with
  | nil => exact ⟨rfl, rfl⟩
  | cons x xs ih => simp [State.writeTables, ih]

@[simp] theorem queue_types_mapCarve (p : Nat) : (s.mapCarve p).pending = s.pending ∧
      (s.mapCarve p).fw.types = s.fw.types := by
  simp [State.mapCarve]

@[simp] theorem queue_types_unmapCarve (p : Nat) :
    (s.unmapCarve p).pending = s.pending ∧ (s.unmapCarve p).fw.types = s.fw.types := by simp [State.unmapCarve]

@[simp] theorem queue_types_reserveHere (e : Envelope) (m : EnvMember) :
    (s.reserveHere e m).1.pending = s.pending ∧ (s.reserveHere e m).1.fw.types = s.fw.types := by
  simp only [State.reserveHere]
  (repeat' split) <;> simp

@[simp] theorem queue_types_revokeWins (f : InWin → Bool) (l : List Nat) :
    (s.revokeWins f l).1.pending = s.pending ∧ (s.revokeWins f l).1.fw.types = s.fw.types := by
  induction l generalizing s f with
  | nil => exact ⟨rfl, rfl⟩
  | cons x xs ih => simp [State.revokeWins, ih]

@[simp] theorem queue_types_freePool (p : Nat) : (s.freePool p).pending = s.pending ∧ (s.freePool p).fw.types = s.fw.types := ⟨rfl, rfl⟩

@[simp] theorem queue_types_dropRegion (q : Nat) :
    (s.dropRegion q).pending = s.pending ∧ (s.dropRegion q).fw.types = s.fw.types := ⟨rfl, rfl⟩

@[simp] theorem queue_types_dropRegions (l : List Nat) :
    (s.dropRegions l).pending = s.pending ∧ (s.dropRegions l).fw.types = s.fw.types := by
  induction l generalizing s  with
  | nil => exact ⟨rfl, rfl⟩
  | cons x xs ih => simp [State.dropRegions, ih]

@[simp] theorem queue_types_dropGroup (p g : Nat) :
    (s.dropGroup p g).pending = s.pending ∧ (s.dropGroup p g).fw.types = s.fw.types := by simp [State.dropGroup]

@[simp] theorem queue_types_dropGroups (p : Nat) (l : List Nat) :
    (s.dropGroups p l).pending = s.pending ∧ (s.dropGroups p l).fw.types = s.fw.types := by
  induction l generalizing s p with
  | nil => exact ⟨rfl, rfl⟩
  | cons x xs ih => simp [State.dropGroups, ih]

@[simp] theorem queue_types_calmPorts (l : List Nat) :
    (s.calmPorts l).pending = s.pending ∧ (s.calmPorts l).fw.types = s.fw.types := by
  induction l generalizing s  with
  | nil => exact ⟨rfl, rfl⟩
  | cons x xs ih => simp [State.calmPorts, ih]

@[simp] theorem queue_types_untag (p : Nat) (l : List Nat) :
    (s.untag p l).pending = s.pending ∧ (s.untag p l).fw.types = s.fw.types := by
  induction l generalizing s p with
  | nil => exact ⟨rfl, rfl⟩
  | cons x xs ih => simp [State.untag, ih]

@[simp] theorem queue_types_resetBuckets (l : List Nat) :
    (s.resetBuckets l).pending = s.pending ∧ (s.resetBuckets l).fw.types = s.fw.types := by
  induction l generalizing s  with
  | nil => exact ⟨rfl, rfl⟩
  | cons x xs ih => simp [State.resetBuckets, ih]

@[simp] theorem queue_types_dropPlan (p : Nat) : (s.dropPlan p).pending = s.pending ∧ (s.dropPlan p).fw.types = s.fw.types := ⟨rfl, rfl⟩

@[simp] theorem queue_types_releasePart (p : Nat) :
    (s.releasePart p).pending = s.pending ∧ (s.releasePart p).fw.types = s.fw.types := by
  have hrest (t : State) (w : Tbl OutWin) (objs : List Nat) (role : Bool) (ks gs ports : List Nat) :
      let u := (((((({ t with outWins := w } : State).freeObjs 2 2 objs).freePool p).purgeXlt fun e => e.part == p).unmapCarve p).untag
        p ks).dropGroups p gs
      ((if role then u.resetBuckets ports else u).dropPlan p).pending = t.pending ∧
        ((if role then u.resetBuckets ports else u).dropPlan p).fw.types = t.fw.types := by
    cases role <;> simp
  obtain ⟨hp, ht⟩ := hrest (s.revokeWins (fun i => i.part == p || i.grantee == (s.part p).comp) (List.range 1023)).1 _ _
    ((s.part p).role == 1) _ _ _
  simp only [beq_iff_eq] at hp ht
  exact ⟨hp.trans (queue_types_revokeWins ..).1, ht.trans (queue_types_revokeWins ..).2⟩

@[simp] theorem queue_types_freePartition (p : Nat) :
    (s.freePartition p).pending = s.pending ∧ (s.freePartition p).fw.types = s.fw.types := by simp [State.freePartition]

@[simp] theorem queue_types_pinRange (p lo n : Nat) :
    (s.pinRange p lo n).pending = s.pending ∧ (s.pinRange p lo n).fw.types = s.fw.types := by
  have hput (l : List Nat) (s : State) (x : XltEntry) :
      (l.foldl (fun (s : State) d => s.setL2 d (l2Put x (s.l2of d))) s).pending = s.pending ∧
        (l.foldl (fun (s : State) d => s.setL2 d (l2Put x (s.l2of d))) s).fw.types = s.fw.types :=
    List.foldlRecOn (motive := fun t : State => t.pending = s.pending ∧ t.fw.types = s.fw.types) l _ ⟨rfl, rfl⟩
      fun _ h _ _ => by simp [h]
  induction n generalizing s with
  | zero => exact ⟨rfl, rfl⟩
  | succ n ih =>
    simp only [State.pinRange]
    split <;> simp [ih, hput]

theorem queue_types_openWin {s t : State} {p : Nat} {l : LendSpec} (h : s.openWin p l = some t) :
    t.pending = s.pending ∧ t.fw.types = s.fw.types := by
  simp only [State.openWin] at h
  split at h
  · cases h
  · split at h
    · cases h
    · cases h
      simp

theorem queue_types_openWins {s t : State} {p : Nat} {l : List LendSpec} (h : s.openWins p l = some t) :
    t.pending = s.pending ∧ t.fw.types = s.fw.types := by
  induction l generalizing s with
  | nil =>
    cases h
    exact ⟨rfl, rfl⟩
  | cons x xs ih =>
    simp only [State.openWins] at h
    split at h
    · cases h
    · next h1 => simp [ih h, queue_types_openWin h1]

@[simp] theorem queue_types_placeSlot (p : Nat) (keep : Bool) (pl : SlotPlace) :
    (s.placeSlot p keep pl).1.pending = s.pending ∧ (s.placeSlot p keep pl).1.fw.types = s.fw.types := by
  simp only [State.placeSlot]
  split <;> simp

@[simp] theorem queue_types_placeSlots (p : Nat) (keep : Bool) (l : List SlotPlace) :
    (s.placeSlots p keep l).1.pending = s.pending ∧ (s.placeSlots p keep l).1.fw.types = s.fw.types := by
  induction l generalizing s with
  | nil => exact ⟨rfl, rfl⟩
  | cons x xs ih =>
    simp only [State.placeSlots]
    split
    · next h => simp [ih, fst_of_eq h]
    · simp

@[simp] theorem queue_types_clearClusters (p : Nat) (l : List Nat) :
    (s.clearClusters p l).pending = s.pending ∧ (s.clearClusters p l).fw.types = s.fw.types := by
  induction l generalizing s p with
  | nil => exact ⟨rfl, rfl⟩
  | cons x xs ih => simp [State.clearClusters, ih]

@[simp] theorem queue_types_putL2 (d : Nat) (es : List XltEntry) :
    (s.putL2 d es).pending = s.pending ∧ (s.putL2 d es).fw.types = s.fw.types := ⟨rfl, rfl⟩

@[simp] theorem queue_types_pinCarve (p : Nat) :
    (s.pinCarve p).pending = s.pending ∧ (s.pinCarve p).fw.types = s.fw.types := by
  have hput (l : List Nat) (es : List XltEntry) :
      (l.foldl (fun (s : State) d => if s.onDie p d then s.putL2 d es else s) s).pending = s.pending ∧
        (l.foldl (fun (s : State) d => if s.onDie p d then s.putL2 d es else s) s).fw.types = s.fw.types :=
    List.foldlRecOn (motive := fun t : State => t.pending = s.pending ∧ t.fw.types = s.fw.types) l _ ⟨rfl, rfl⟩
      fun _ h _ _ => by simp [h]
  simp only [State.pinCarve]
  split
  · exact ⟨rfl, rfl⟩
  · exact hput ..

@[simp] theorem queue_types_wakeGroups (l : List Nat) :
    (s.wakeGroups l).pending = s.pending ∧ (s.wakeGroups l).fw.types = s.fw.types := by
  induction l generalizing s  with
  | nil => exact ⟨rfl, rfl⟩
  | cons x xs ih => simp [State.wakeGroups, ih]

@[simp] theorem queue_types_placePart (p : Nat) (pl : PlaceSpec) :
    (s.placePart p pl).1.pending = s.pending ∧ (s.placePart p pl).1.fw.types = s.fw.types := by
  simp only [State.placePart]
  split
  · exact ⟨rfl, rfl⟩
  · split
    · exact ⟨rfl, rfl⟩
    · split
      · next h1 =>
        split
        · exact ⟨rfl, rfl⟩
        · next h2 =>
          split
          · exact ⟨rfl, rfl⟩
          · simp [queue_types_openWins h2, fst_of_eq h1]
      · exact ⟨rfl, rfl⟩

@[simp] theorem queue_types_tagClusters (p : Nat) (l : List Nat) :
    (s.tagClusters p l).pending = s.pending ∧ (s.tagClusters p l).fw.types = s.fw.types := by
  induction l generalizing s p with
  | nil => exact ⟨rfl, rfl⟩
  | cons x xs ih => simp [State.tagClusters, ih]

@[simp] theorem queue_types_sealPart (p : Nat) (cat : List Byte) :
    (s.sealPart p cat).pending = s.pending ∧ (s.sealPart p cat).fw.types = s.fw.types := by simp [State.sealPart]

@[simp] theorem queue_types_retag (lo n : Nat) : (s.retag lo n).pending = s.pending ∧ (s.retag lo n).fw.types = s.fw.types := ⟨rfl, rfl⟩

@[simp] theorem queue_types_copyBad (s0 : State) (p src dst : Nat) (l : List (Nat × Option SectorTag)) :
    (s0.copyBad p src dst s l).pending = s.pending ∧ (s0.copyBad p src dst s l).fw.types = s.fw.types := by
  induction l generalizing s with
  | nil => exact ⟨rfl, rfl⟩
  | cons e t ih =>
    simp only [State.copyBad]
    (repeat' split) <;> simp [ih]

@[simp] theorem queue_types_copyPage (s0 : State) (p src dst : Nat) :
    (s0.copyPage p src dst s).pending = s.pending ∧ (s0.copyPage p src dst s).fw.types = s.fw.types := by
  simp [State.copyPage]

@[simp] theorem queue_types_copyPages (s0 : State) (p : Nat) (l : List (Nat × Nat)) :
    (s0.copyPages p s l).pending = s.pending ∧ (s0.copyPages p s l).fw.types = s.fw.types := by
  induction l generalizing s with
  | nil => exact ⟨rfl, rfl⟩
  | cons x xs ih => simp [State.copyPages, ih]

@[simp] theorem queue_types_moveCore (s0 : State) (im : List Byte) (live a b : Nat) :
    (s0.moveCore im live a b s).pending = s.pending ∧ (s0.moveCore im live a b s).fw.types = s.fw.types := by
  simp [State.moveCore]

@[simp] theorem queue_types_moveCores (s0 : State) (im : List Byte) (live a b n : Nat) :
    (s0.moveCores im live a b s n).pending = s.pending ∧ (s0.moveCores im live a b s n).fw.types = s.fw.types := by
  induction n generalizing s with
  | zero => exact ⟨rfl, rfl⟩
  | succ n ih => simp [State.moveCores, ih]

@[simp] theorem queue_types_idleCores (k n : Nat) :
    (s.idleCores k n).pending = s.pending ∧ (s.idleCores k n).fw.types = s.fw.types := by
  induction n generalizing s k with
  | zero => exact ⟨rfl, rfl⟩
  | succ n ih => simp [State.idleCores, ih]

@[simp] theorem queue_types_moveClusters (s0 : State) (im : List Byte) (live : Nat) (l : List (Nat × Nat)) :
    (s0.moveClusters im live s l).pending = s.pending ∧ (s0.moveClusters im live s l).fw.types = s.fw.types := by
  induction l generalizing s with
  | nil => exact ⟨rfl, rfl⟩
  | cons x xs ih => simp [State.moveClusters, ih]

@[simp] theorem queue_types_rebuildTrees (p slot : Nat) (im : List Byte) (ts : List TreeSpec) (l : List Nat) :
    (s.rebuildTrees p slot im ts l).pending = s.pending ∧ (s.rebuildTrees p slot im ts l).fw.types = s.fw.types := by
  induction l generalizing s p slot im ts with
  | nil => exact ⟨rfl, rfl⟩
  | cons x xs ih => simp [State.rebuildTrees, ih]

@[simp] theorem queue_types_withdraw (p : Nat) (l : List Nat) :
    (s.withdraw p l).pending = s.pending ∧ (s.withdraw p l).fw.types = s.fw.types := by
  induction l generalizing s p with
  | nil => exact ⟨rfl, rfl⟩
  | cons x xs ih => simp [State.withdraw, ih]

@[simp] theorem queue_types_revokeGone (p carve clusters : Nat) :
    (s.revokeGone p carve clusters).pending = s.pending ∧ (s.revokeGone p carve clusters).fw.types = s.fw.types := by
  simp [State.revokeGone]

@[simp] theorem queue_types_migrate (p : Nat) (plan : PlaceSpec) :
    (s.migrate p plan).1.pending = s.pending ∧ (s.migrate p plan).1.fw.types = s.fw.types := by
  have hidle (l : List Nat) (t : State) : (l.foldl (fun (s : State) k => s.idleCores k 16) t).pending = t.pending ∧
      (l.foldl (fun (s : State) k => s.idleCores k 16) t).fw.types = t.fw.types :=
    List.foldlRecOn (motive := fun u : State => u.pending = t.pending ∧ u.fw.types = t.fw.types) l _ ⟨rfl, rfl⟩
      fun _ h _ _ => by simp [h]
  unfold State.migrate
  extract_lets q entry carve each slot fresh ks run left
  clear_value run slot
  split
  · exact ⟨rfl, rfl⟩
  · extract_lets s0 s1 moved s2 gone moves s3 s4a s4b s4 s5 mib
    have h2 : s2.pending = s.pending ∧ s2.fw.types = s.fw.types := by simp [s2, s1, s0]
    have h3 : s3.pending = s.pending ∧ s3.fw.types = s.fw.types := by
      simp only [s3]
      split <;> simp [hidle, h2]
    have h5 : s5.pending = s.pending ∧ s5.fw.types = s.fw.types := by simp [s5, s4, s4b, s4a, h3]
    clear_value s5
    split
    · next h =>
      have h6 := fst_of_eq h
      split
      · exact ⟨rfl, rfl⟩
      · extract_lets s7 out s8 
        have h7 : s7.pending = s.pending ∧ s7.fw.types = s.fw.types := by
          simp only [s7]
          (repeat' split) <;> simp [h6, h5]
        clear_value s7
        simp [s8, h7]
    · exact ⟨rfl, rfl⟩

@[simp] theorem queue_types_accede (p : Nat) (e : Envelope) (m : EnvMember) :
    (s.accede p e m).1.pending = s.pending ∧ (s.accede p e m).1.fw.types = s.fw.types := by
  simp only [State.accede]
  (repeat' split) <;> simp

@[simp] theorem queue_types_dropUpdate (p : Nat) :
    (s.dropUpdate p).pending = s.pending ∧ (s.dropUpdate p).fw.types = s.fw.types := by simp [State.dropUpdate]

@[simp] theorem queue_types_fitWays (p : Nat) (m : EnvMember) (l : List Nat) :
    (s.fitWays p m l).pending = s.pending ∧ (s.fitWays p m l).fw.types = s.fw.types := by
  induction l generalizing s p m with
  | nil => exact ⟨rfl, rfl⟩
  | cons x xs ih => simp [State.fitWays, ih]

@[simp] theorem queue_types_writeGrants (p rate : Nat) (l : List Nat) :
    (s.writeGrants p rate l).pending = s.pending ∧ (s.writeGrants p rate l).fw.types = s.fw.types := by
  induction l generalizing s p rate with
  | nil => exact ⟨rfl, rfl⟩
  | cons x xs ih => simp [State.writeGrants, ih]

@[simp] theorem queue_types_commitUpdate (p : Nat) :
    (s.commitUpdate p).pending = s.pending ∧ (s.commitUpdate p).fw.types = s.fw.types := by
  simp only [State.commitUpdate]
  split <;> simp

@[simp] theorem queue_types_saveCluster (p k : Nat) :
    (s.saveCluster p k).pending = s.pending ∧ (s.saveCluster p k).fw.types = s.fw.types := ⟨rfl, rfl⟩

@[simp] theorem queue_types_switchCluster (p k : Nat) :
    (s.switchCluster p k).pending = s.pending ∧ (s.switchCluster p k).fw.types = s.fw.types := by simp [State.switchCluster]

@[simp] theorem queue_types_switchClusters (p : Nat) (l : List Nat) :
    (s.switchClusters p l).pending = s.pending ∧ (s.switchClusters p l).fw.types = s.fw.types := by
  induction l generalizing s p with
  | nil => exact ⟨rfl, rfl⟩
  | cons x xs ih => simp [State.switchClusters, ih]

@[simp] theorem queue_types_suspend (l : List Nat) : (s.suspend l).pending = s.pending ∧ (s.suspend l).fw.types = s.fw.types := by
  induction l generalizing s  with
  | nil => exact ⟨rfl, rfl⟩
  | cons x xs ih => simp [State.suspend, ih]

@[simp] theorem queue_types_grantSwitches (n : Nat) :
    (s.grantSwitches n).pending = s.pending ∧ (s.grantSwitches n).fw.types = s.fw.types := by
  induction n generalizing s  with
  | zero => exact ⟨rfl, rfl⟩
  | succ n ih =>
    simp only [State.grantSwitches]
    (repeat' split) <;> simp [ih]

/-! #### Machine/CompReset.lean -/

@[simp] theorem queue_types_takeSample (p slot : Nat) (running : Bool) (hang : Option Nat) :
    (s.takeSample p slot running hang).pending = s.pending ∧ (s.takeSample p slot running hang).fw.types = s.fw.types := by
  simp only [State.takeSample]
  (repeat' split) <;> simp

@[simp] theorem queue_types_calmObjs (l : List Nat) :
    (s.calmObjs l).pending = s.pending ∧ (s.calmObjs l).fw.types = s.fw.types := by
  induction l generalizing s  with
  | nil => exact ⟨rfl, rfl⟩
  | cons x xs ih => simp [State.calmObjs, ih]

@[simp] theorem queue_types_restTxns (p : Nat) : (s.restTxns p).pending = s.pending ∧ (s.restTxns p).fw.types = s.fw.types := ⟨rfl, rfl⟩

@[simp] theorem queue_types_abortQueue (l : List Queued) :
    (s.abortQueue l).pending = s.pending ∧ (s.abortQueue l).fw.types = s.fw.types := by
  induction l generalizing s  with
  | nil => exact ⟨rfl, rfl⟩
  | cons x xs ih => simp [State.abortQueue, ih]

@[simp] theorem queue_types_flashAll (l : List Nat) :
    (s.flashAll l).pending = s.pending ∧ (s.flashAll l).fw.types = s.fw.types := by
  induction l generalizing s  with
  | nil => exact ⟨rfl, rfl⟩
  | cons x xs ih => simp [State.flashAll, ih]

@[simp] theorem queue_types_removeWork (p : Nat) :
    (s.removeWork p).pending = s.pending ∧ (s.removeWork p).fw.types = s.fw.types := by simp [State.removeWork]

@[simp] theorem queue_types_resetLocal (p : Nat) (cause : ResetCause) (asked : Bool) :
    (s.resetLocal p cause asked).pending = s.pending ∧ (s.resetLocal p cause asked).fw.types = s.fw.types := by
  simp [State.resetLocal]

@[simp] theorem queue_types_resetFlit (p dir link : Nat) :
    (s.resetFlit p dir link).pending = s.pending ∧ (s.resetFlit p dir link).fw.types = s.fw.types := by
  simp [State.resetFlit]

@[simp] theorem queue_types_resetFlits (p dir : Nat) (l : List Nat) :
    (s.resetFlits p dir l).pending = s.pending ∧ (s.resetFlits p dir l).fw.types = s.fw.types := by
  induction l generalizing s p dir with
  | nil => exact ⟨rfl, rfl⟩
  | cons x xs ih => simp [State.resetFlits, ih]

@[simp] theorem queue_types_resetStart (p : Nat) (cause : ResetCause) :
    (s.resetStart p cause).pending = s.pending ∧ (s.resetStart p cause).fw.types = s.fw.types := by simp [State.resetStart]

@[simp] theorem queue_types_reopen (l : List Nat) : (s.reopen l).pending = s.pending ∧ (s.reopen l).fw.types = s.fw.types := by
  induction l generalizing s  with
  | nil => exact ⟨rfl, rfl⟩
  | cons x xs ih => simp [State.reopen, ih]

@[simp] theorem queue_types_tdiOut (v : Nat) (f : State → State)
    (hf : ∀ t, (f t).pending = t.pending ∧ (f t).fw.types = t.fw.types) :
    (s.tdiOut v f).pending = s.pending ∧ (s.tdiOut v f).fw.types = s.fw.types := by
  simp only [State.tdiOut]
  split <;> simp [hf]

@[simp] theorem queue_types_tdiLeave (v : Nat) : (s.tdiLeave v).pending = s.pending ∧
      (s.tdiLeave v).fw.types = s.fw.types := by
  simp [State.tdiLeave]

@[simp] theorem queue_types_mbReply (v status : Nat) (results : List Byte) :
    (s.mbReply v status results).pending = s.pending ∧ (s.mbReply v status results).fw.types = s.fw.types := by
  simp [State.mbReply]

@[simp] theorem queue_types_ctxAnswer (p : Nat) :
    (s.ctxAnswer p).pending = s.pending ∧ (s.ctxAnswer p).fw.types = s.fw.types := by simp [State.ctxAnswer]

@[simp] theorem queue_types_resetOver (p : Nat) (r : ResetSt) :
    (s.resetOver p r).pending = s.pending ∧ (s.resetOver p r).fw.types = s.fw.types := by simp [State.resetOver]

@[simp] theorem queue_types_resetLaunch (p : Nat) (r : ResetSt) :
    (s.resetLaunch p r).pending = s.pending ∧ (s.resetLaunch p r).fw.types = s.fw.types := by
  simp only [State.resetLaunch]
  (repeat' split) <;> simp

@[simp] theorem queue_types_resetGo (p : Nat) : (s.resetGo p).pending = s.pending ∧ (s.resetGo p).fw.types = s.fw.types := by
  simp only [State.resetGo]
  (repeat' split) <;> simp

@[simp] theorem queue_types_resetGop (p link dir : Nat) :
    (s.resetGop p link dir).pending = s.pending ∧ (s.resetGop p link dir).fw.types = s.fw.types := by
  simp only [State.resetGop]
  (repeat' split) <;> simp

/-! #### Machine/HostObj.lean -/

@[simp] theorem queue_types_rejoin (l : List HostDesc) :
    (s.rejoin l).pending = s.pending ∧ (s.rejoin l).fw.types = s.fw.types := by
  induction l generalizing s  with
  | nil => exact ⟨rfl, rfl⟩
  | cons x xs ih =>
    simp only [State.rejoin]
    (repeat' split) <;> simp [ih]

/-! #### Machine/Rings.lean -/

@[simp] theorem queue_types_cqDberr (fn q : Nat) (l : List Nat) :
    (s.cqDberr fn q l).pending = s.pending ∧ (s.cqDberr fn q l).fw.types = s.fw.types := by
  induction l generalizing s fn q with
  | nil => exact ⟨rfl, rfl⟩
  | cons x xs ih => simp [State.cqDberr, ih]

@[simp] theorem queue_types_takeDescs (fn r base i size n : Nat) :
    (s.takeDescs fn r base i size n).pending = s.pending ∧ (s.takeDescs fn r base i size n).fw.types = s.fw.types := by
  induction n generalizing s fn r base i size with
  | zero => exact ⟨rfl, rfl⟩
  | succ n ih => simp [State.takeDescs, ih]

@[simp] theorem queue_types_startHostCopy (d : HostDesc) (e : Nat) (src dst : Desc) (rep : Option Repeat) (seed bad : Nat) :
    (s.startHostCopy d e src dst rep seed bad).pending = s.pending ∧
      (s.startHostCopy d e src dst rep seed bad).fw.types = s.fw.types := by
  simp [State.startHostCopy]

@[simp] theorem queue_types_refDone (id : Nat) : (s.refDone id).pending = s.pending ∧ (s.refDone id).fw.types = s.fw.types := by
  simp only [State.refDone]
  (repeat' split) <;> simp

@[simp] theorem queue_types_flr (fn : Nat) : (s.flr fn).pending = s.pending ∧ (s.flr fn).fw.types = s.fw.types := by
  simp [State.flr]

@[simp] theorem queue_types_flrs (l : List Nat) : (s.flrs l).pending = s.pending ∧ (s.flrs l).fw.types = s.fw.types := by
  induction l generalizing s  with
  | nil => exact ⟨rfl, rfl⟩
  | cons x xs ih => simp [State.flrs, ih]

/-! #### Machine/Instances.lean -/

@[simp] theorem queue_types_quiesceStart (v : Nat) (abort : Bool) (desc : Nat) :
    (s.quiesceStart v abort desc).pending = s.pending ∧ (s.quiesceStart v abort desc).fw.types = s.fw.types := by
  simp [State.quiesceStart]

@[simp] theorem queue_types_drainOver (v code : Nat) :
    (s.drainOver v code).pending = s.pending ∧ (s.drainOver v code).fw.types = s.fw.types := by
  simp only [State.drainOver]
  (repeat' split) <;> simp

@[simp] theorem queue_types_abortLaunch (p : Nat) :
    (s.abortLaunch p).pending = s.pending ∧ (s.abortLaunch p).fw.types = s.fw.types := by
  simp only [State.abortLaunch]
  split <;> simp

@[simp] theorem queue_types_mgmtEnd (id status : Nat) (out : List Byte) :
    (s.mgmtEnd id status out).pending = s.pending ∧ (s.mgmtEnd id status out).fw.types = s.fw.types := by
  simp only [State.mgmtEnd]
  split <;> simp

@[simp] theorem queue_types_mgmt (r cmd : Nat) (f : HostDesc → State → State)
    (hf : ∀ d u, (f d u).pending = u.pending ∧ (f d u).fw.types = u.fw.types) :
    (s.mgmt r cmd f).pending = s.pending ∧ (s.mgmt r cmd f).fw.types = s.fw.types := by
  simp [State.mgmt, hf]

@[simp] theorem queue_types_ringsOff (fn : Nat) (l : List Nat) :
    (s.ringsOff fn l).pending = s.pending ∧ (s.ringsOff fn l).fw.types = s.fw.types := by
  induction l generalizing s fn with
  | nil => exact ⟨rfl, rfl⟩
  | cons x xs ih => simp [State.ringsOff, ih]

@[simp] theorem queue_types_clearInst (v : Nat) (st : InstSt) :
    (s.clearInst v st).pending = s.pending ∧ (s.clearInst v st).fw.types = s.fw.types := ⟨rfl, rfl⟩

@[simp] theorem queue_types_instClear (d : HostDesc) (st : InstSt) :
    (s.instClear d st).pending = s.pending ∧ (s.instClear d st).fw.types = s.fw.types := by
  simp only [State.instClear, pending_ite, fw_ite, types_ite, queue_types_mgmtEnd, queue_types_setReg, queue_types_clearBits,
    queue_types_ringsOff, queue_types_clearInst, queue_types_tdiLeave, ite_self, and_self]

@[simp] theorem queue_types_mbRequest (v code : Nat) (f : State → State)
    (hf : ∀ t, (f t).pending = t.pending ∧ (f t).fw.types = t.fw.types) :
    (s.mbRequest v code f).pending = s.pending ∧ (s.mbRequest v code f).fw.types = s.fw.types := by
  simp only [State.mbRequest]
  (repeat' split) <;> simp [hf]

@[simp] theorem queue_types_ctxReset (v h cause : Nat) :
    (s.ctxReset v h cause).1.pending = s.pending ∧ (s.ctxReset v h cause).1.fw.types = s.fw.types := by simp [State.ctxReset]

/-! #### Machine/Cages.lean -/

@[simp] theorem queue_types_drainLinks (l : List Nat) :
    (s.drainLinks l).pending = s.pending ∧ (s.drainLinks l).fw.types = s.fw.types := by
  induction l generalizing s  with
  | nil => exact ⟨rfl, rfl⟩
  | cons x xs ih => simp [State.drainLinks, ih]

@[simp] theorem queue_types_goodbyes (l : List Nat) :
    (s.goodbyes l).pending = s.pending ∧ (s.goodbyes l).fw.types = s.fw.types := by
  induction l generalizing s  with
  | nil => exact ⟨rfl, rfl⟩
  | cons x xs ih => simp [State.goodbyes, ih]

/-! #### Machine/Mctp.lean -/

@[simp] theorem queue_types_ctlReply (cmd cc : Nat) (data : List Byte) :
    (s.ctlReply cmd cc data).pending = s.pending ∧ (s.ctlReply cmd cc data).fw.types = s.fw.types := ⟨rfl, rfl⟩

@[simp] theorem queue_types_stolReply (cmd seq status : Nat) (data : List Byte) :
    (s.stolReply cmd seq status data).pending = s.pending ∧
      (s.stolReply cmd seq status data).fw.types = s.fw.types := ⟨rfl, rfl⟩

/-! #### Machine/Custodian.lean -/

@[simp] theorem queue_types_setKeySlot (n : Nat) (k : KeySlot) :
    (s.setKeySlot n k).pending = s.pending ∧ (s.setKeySlot n k).fw.types = s.fw.types := ⟨rfl, rfl⟩

@[simp] theorem queue_types_secEvent (bit event object code : Nat) :
    (s.secEvent bit event object code).pending = s.pending ∧ (s.secEvent bit event object code).fw.types = s.fw.types := by
  simp [State.secEvent]

@[simp] theorem queue_types_slotFails (n : Nat) :
    (s.slotFails n).pending = s.pending ∧ (s.slotFails n).fw.types = s.fw.types := by simp [State.slotFails]

@[simp] theorem queue_types_fillSlot (n type usage pulses key : Nat) :
    (s.fillSlot n type usage pulses key).pending = s.pending ∧
      (s.fillSlot n type usage pulses key).fw.types = s.fw.types := ⟨rfl, rfl⟩

@[simp] theorem queue_types_serveReq (q : CusReq) :
    (s.serveReq q).1.pending = s.pending ∧ (s.serveReq q).1.fw.types = s.fw.types := by
  simp only [State.serveReq]
  (repeat' split) <;> simp

@[simp] theorem queue_types_serveHeld (l : List CusReq) :
    (s.serveHeld l).pending = s.pending ∧ (s.serveHeld l).fw.types = s.fw.types := by
  induction l generalizing s  with
  | nil => exact ⟨rfl, rfl⟩
  | cons x xs ih => simp [State.serveHeld, ih]

@[simp] theorem queue_types_failHeld (status : Nat) (l : List CusReq) :
    (s.failHeld status l).pending = s.pending ∧ (s.failHeld status l).fw.types = s.fw.types := by
  induction l generalizing s status with
  | nil => exact ⟨rfl, rfl⟩
  | cons x xs ih => simp [State.failHeld, ih]

@[simp] theorem queue_types_keyRequest (q : CusReq) :
    (s.keyRequest q).pending = s.pending ∧ (s.keyRequest q).fw.types = s.fw.types := by
  simp only [State.keyRequest]
  split <;> simp

@[simp] theorem queue_types_cusReq (r cmd : Nat) (f : HostDesc → State → State)
    (hf : ∀ d u, (f d u).pending = u.pending ∧ (f d u).fw.types = u.fw.types) :
    (s.cusReq r cmd f).pending = s.pending ∧ (s.cusReq r cmd f).fw.types = s.fw.types := by
  simp only [State.cusReq]
  split <;> simp [hf]

@[simp] theorem queue_types_cusStart : s.cusStart.pending = s.pending ∧ s.cusStart.fw.types = s.fw.types := ⟨rfl, rfl⟩

@[simp] theorem queue_types_esFail (st : EsSt) : (s.esFail st).pending = s.pending ∧ (s.esFail st).fw.types = s.fw.types := by
  simp [State.esFail]

@[simp] theorem queue_types_esFailed : s.esFailed.pending = s.pending ∧ s.esFailed.fw.types = s.fw.types := by
  simp [State.esFailed]

@[simp] theorem queue_types_testFails : s.testFails.pending = s.pending ∧ s.testFails.fw.types = s.fw.types := by
  simp only [State.testFails]
  split <;> simp

@[simp] theorem queue_types_sampleBoth (x y : Bool) :
    (s.sampleBoth x y).pending = s.pending ∧ (s.sampleBoth x y).fw.types = s.fw.types := by simp [State.sampleBoth]

/-! #### Machine/Ledger.lean -/

@[simp] theorem queue_types_ledgerPut (r : LRec) :
    (s.ledgerPut r).pending = s.pending ∧ (s.ledgerPut r).fw.types = s.fw.types := by
  simp only [State.ledgerPut]
  (repeat' split) <;> simp

@[simp] theorem queue_types_lostZero (l : List Nat) :
    (s.lostZero l).pending = s.pending ∧ (s.lostZero l).fw.types = s.fw.types := by
  induction l generalizing s  with
  | nil => exact ⟨rfl, rfl⟩
  | cons x xs ih => simp [State.lostZero, ih]

@[simp] theorem queue_types_ownRecord (type code : Nat) :
    (s.ownRecord type code).pending = s.pending ∧ (s.ownRecord type code).fw.types = s.fw.types := by simp [State.ownRecord]

/-! #### Machine/Power.lean -/

@[simp] theorem queue_types_pwrEvt (m : Nat) : (s.pwrEvt m).pending = s.pending ∧ (s.pwrEvt m).fw.types = s.fw.types := by
  simp [State.pwrEvt]

@[simp] theorem queue_types_pwrEvent (m event object code : Nat) :
    (s.pwrEvent m event object code).pending = s.pending ∧ (s.pwrEvent m event object code).fw.types = s.fw.types := by
  simp [State.pwrEvent]

@[simp] theorem queue_types_measure (m : PeriodMeas) (l : List Nat) :
    (s.measure m l).pending = s.pending ∧ (s.measure m l).fw.types = s.fw.types := by
  induction l generalizing s m with
  | nil => exact ⟨rfl, rfl⟩
  | cons x xs ih => simp [State.measure, ih]

@[simp] theorem queue_types_ceilings (l : List Nat) :
    (s.ceilings l).1.pending = s.pending ∧ (s.ceilings l).1.fw.types = s.fw.types := by
  induction l generalizing s  with
  | nil => exact ⟨rfl, rfl⟩
  | cons x xs ih => simp [State.ceilings, ih]

@[simp] theorem queue_types_thermalEvents (fell stack : Bool) :
    (s.thermalEvents fell stack).pending = s.pending ∧ (s.thermalEvents fell stack).fw.types = s.fw.types := by
  simp [State.thermalEvents]

@[simp] theorem queue_types_park (forced l : List Nat) :
    (s.park forced l).pending = s.pending ∧ (s.park forced l).fw.types = s.fw.types := by
  induction l generalizing s forced with
  | nil => exact ⟨rfl, rfl⟩
  | cons x xs ih => simp [State.park, ih]

@[simp] theorem queue_types_moveAll (gs : List Gov) (ts raw now l : List Nat) :
    (s.moveAll gs ts raw now l).pending = s.pending ∧ (s.moveAll gs ts raw now l).fw.types = s.fw.types := by
  induction l generalizing s gs ts raw now with
  | nil => exact ⟨rfl, rfl⟩
  | cons x xs ih =>
    simp only [State.moveAll]
    (repeat' split) <;> simp [ih]

@[simp] theorem queue_types_phases (l : List Nat) : (s.phases l).pending = s.pending ∧ (s.phases l).fw.types = s.fw.types := by
  induction l generalizing s  with
  | nil => exact ⟨rfl, rfl⟩
  | cons x xs ih => simp [State.phases, ih]

@[simp] theorem queue_types_periodStart (m : PeriodMeas) :
    (s.periodStart m).pending = s.pending ∧ (s.periodStart m).fw.types = s.fw.types := by simp [State.periodStart]

/-! #### Machine/Resets.lean -/

@[simp] theorem queue_types_resetLaunches (l : List Nat) :
    (s.resetLaunches l).pending = s.pending ∧ (s.resetLaunches l).fw.types = s.fw.types := by
  induction l generalizing s  with
  | nil => exact ⟨rfl, rfl⟩
  | cons x xs ih => simp [State.resetLaunches, ih]

@[simp] theorem queue_types_clearObjs (l : List Nat) :
    (s.clearObjs l).pending = s.pending ∧ (s.clearObjs l).fw.types = s.fw.types := by
  induction l generalizing s  with
  | nil => exact ⟨rfl, rfl⟩
  | cons x xs ih => simp [State.clearObjs, ih]

@[simp] theorem queue_types_staleTags (l : List Nat) :
    (s.staleTags l).pending = s.pending ∧ (s.staleTags l).fw.types = s.fw.types := by
  induction l generalizing s  with
  | nil => exact ⟨rfl, rfl⟩
  | cons x xs ih => simp [State.staleTags, ih]

@[simp] theorem queue_types_repin (l : List Nat) : (s.repin l).pending = s.pending ∧ (s.repin l).fw.types = s.fw.types := by
  induction l generalizing s  with
  | nil => exact ⟨rfl, rfl⟩
  | cons x xs ih => simp [State.repin, ih]

@[simp] theorem queue_types_repinWins (l : List Nat) :
    (s.repinWins l).pending = s.pending ∧ (s.repinWins l).fw.types = s.fw.types := by
  induction l generalizing s  with
  | nil => exact ⟨rfl, rfl⟩
  | cons x xs ih => simp [State.repinWins, ih]

@[simp] theorem queue_types_computeReset : s.computeReset.pending = s.pending ∧ s.computeReset.fw.types = s.fw.types := by
  simp [State.computeReset]

@[simp] theorem queue_types_markClearing (l : List Nat) :
    (s.markClearing l).pending = s.pending ∧ (s.markClearing l).fw.types = s.fw.types := by
  induction l generalizing s  with
  | nil => exact ⟨rfl, rfl⟩
  | cons x xs ih => simp [State.markClearing, ih]

@[simp] theorem queue_types_down (warm : Bool) (cause : Nat) :
    (s.down warm cause).pending = s.pending ∧ (s.down warm cause).fw.types = s.fw.types := by simp [State.down]

@[simp] theorem queue_types_warmReset (cause : Nat) :
    (s.warmReset cause).pending = s.pending ∧ (s.warmReset cause).fw.types = s.fw.types := by simp [State.warmReset]

@[simp] theorem queue_types_hardReset (cause : Nat) :
    (s.hardReset cause).pending = s.pending ∧ (s.hardReset cause).fw.types = s.fw.types := by simp [State.hardReset]

@[simp] theorem queue_types_warmNotice (cause : Nat) :
    (s.warmNotice cause).pending = s.pending ∧ (s.warmNotice cause).fw.types = s.fw.types := by simp [State.warmNotice]

/-! #### Machine/Links.lean -/

@[simp] theorem queue_types_parentUp (i : Nat) : (s.parentUp i).pending = s.pending ∧
      (s.parentUp i).fw.types = s.fw.types := by
  simp [State.parentUp]

@[simp] theorem queue_types_recheck (i : Nat) : (s.recheck i).pending = s.pending ∧ (s.recheck i).fw.types = s.fw.types := by
  simp only [State.recheck]
  (repeat' split) <;> simp

/-! #### Machine/Fabric.lean -/

@[simp] theorem queue_types_forward (f : Flit) : (s.forward f).pending = s.pending ∧ (s.forward f).fw.types = s.fw.types := by
  simp [State.forward]

@[simp] theorem queue_types_acceptFlits (i : Nat) (l : List LFlit) :
    (s.acceptFlits i l).pending = s.pending ∧ (s.acceptFlits i l).fw.types = s.fw.types := by
  induction l generalizing s i with
  | nil => exact ⟨rfl, rfl⟩
  | cons x xs ih => simp [State.acceptFlits, ih]

theorem queue_types_acceptWord {s t : State} {i kind payload cctr mac : Nat} (h : s.acceptWord i kind payload cctr mac = some t) :
    t.pending = s.pending ∧ t.fw.types = s.fw.types := by
  simp only [State.acceptWord] at h
  split at h
  · cases h
  all_goals
    split at h
    · cases h
      exact ⟨rfl, rfl⟩
    · cases h

@[simp] theorem queue_types_discardWord : s.discardWord.pending = s.pending ∧ s.discardWord.fw.types = s.fw.types := ⟨rfl, rfl⟩

@[simp] theorem queue_types_onWord (i kind payload cctr mac : Nat) (f : State → State)
    (hf : ∀ t, (f t).pending = t.pending ∧ (f t).fw.types = t.fw.types) :
    (s.onWord i kind payload cctr mac f).pending = s.pending ∧
      (s.onWord i kind payload cctr mac f).fw.types = s.fw.types := by
  simp only [State.onWord]
  split
  · split
    · next h => simp [hf, queue_types_acceptWord h]
    · simp
  · exact ⟨rfl, rfl⟩

@[simp] theorem queue_types_resend (i : Nat) (fs : List LFlit) (n : Nat) :
    (s.resend i fs n).pending = s.pending ∧ (s.resend i fs n).fw.types = s.fw.types := by
  induction n generalizing s i fs with
  | zero => exact ⟨rfl, rfl⟩
  | succ n ih => simp [State.resend, ih]

@[simp] theorem queue_types_zeroRegs (k n : Nat) :
    (s.zeroRegs k n).pending = s.pending ∧ (s.zeroRegs k n).fw.types = s.fw.types := by
  induction n generalizing s k with
  | zero => exact ⟨rfl, rfl⟩
  | succ n ih => simp [State.zeroRegs, ih]

/-! #### Machine/Keys.lean -/

@[simp] theorem queue_types_reencrypt (q sec : Nat) (bad : Bool) :
    (s.reencrypt q sec bad).pending = s.pending ∧ (s.reencrypt q sec bad).fw.types = s.fw.types := by
  simp only [State.reencrypt]
  split <;> simp

@[simp] theorem queue_types_walkStep (q : Nat) : (s.walkStep q).pending = s.pending ∧
      (s.walkStep q).fw.types = s.fw.types := by
  simp [State.walkStep]

@[simp] theorem queue_types_walkSteps (l : List Nat) :
    (s.walkSteps l).pending = s.pending ∧ (s.walkSteps l).fw.types = s.fw.types := by
  induction l generalizing s  with
  | nil => exact ⟨rfl, rfl⟩
  | cons x xs ih => simp [State.walkSteps, ih]

@[simp] theorem queue_types_walkRest (q : Nat) (bad l : List Nat) :
    (s.walkRest q bad l).pending = s.pending ∧ (s.walkRest q bad l).fw.types = s.fw.types := by
  induction l generalizing s q bad with
  | nil => exact ⟨rfl, rfl⟩
  | cons x xs ih => simp [State.walkRest, ih]

@[simp] theorem queue_types_takeWords (i : Nat) (l : List (Nat × Nat × Nat)) :
    (s.takeWords i l).1.pending = s.pending ∧ (s.takeWords i l).1.fw.types = s.fw.types := by
  induction l generalizing s with
  | nil => exact ⟨rfl, rfl⟩
  | cons w ws ih =>
    simp only [State.takeWords]
    split
    · next h => simp [ih, queue_types_acceptWord h]
    · simp [ih]

@[simp] theorem queue_types_rekeyWord (i : Nat) (payloads cctrs macs : List Nat) (f : State → State)
    (hf : ∀ t, (f t).pending = t.pending ∧ (f t).fw.types = t.fw.types) :
    (s.rekeyWord i payloads cctrs macs f).pending = s.pending ∧
      (s.rekeyWord i payloads cctrs macs f).fw.types = s.fw.types := by
  simp only [State.rekeyWord]
  (repeat' split) <;> simp [hf]

@[simp] theorem queue_types_modExch (i : Nat) (f : Exchange → Exchange) :
    (s.modExch i f).pending = s.pending ∧ (s.modExch i f).fw.types = s.fw.types := ⟨rfl, rfl⟩

@[simp] theorem queue_types_ackRekey (i xid msg : Nat) :
    (s.ackRekey i xid msg).pending = s.pending ∧ (s.ackRekey i xid msg).fw.types = s.fw.types := by simp [State.ackRekey]

@[simp] theorem queue_types_takeRekey (i xid msg : Nat) (ok : Exchange → Bool) (f : Exchange → State → State)
    (hf : ∀ x t, (f x t).pending = t.pending ∧ (f x t).fw.types = t.fw.types) :
    (s.takeRekey i xid msg ok f).pending = s.pending ∧ (s.takeRekey i xid msg ok f).fw.types = s.fw.types := by
  simp only [State.takeRekey]
  (repeat' split) <;> simp [hf]

@[simp] theorem queue_types_sendSwitch (i : Nat) (x : Exchange) :
    (s.sendSwitch i x).pending = s.pending ∧ (s.sendSwitch i x).fw.types = s.fw.types := by simp [State.sendSwitch]

@[simp] theorem queue_types_keyingDone (i : Nat) :
    (s.keyingDone i).pending = s.pending ∧ (s.keyingDone i).fw.types = s.fw.types := by
  simp only [State.keyingDone]
  split <;> simp

@[simp] theorem queue_types_keyingFails (i : Nat) (retry : Bool) :
    (s.keyingFails i retry).pending = s.pending ∧ (s.keyingFails i retry).fw.types = s.fw.types := by
  simp [State.keyingFails]

@[simp] theorem queue_types_abortKeying (i xid : Nat) (retry : Bool) :
    (s.abortKeying i xid retry).pending = s.pending ∧ (s.abortKeying i xid retry).fw.types = s.fw.types := by
  simp [State.abortKeying]

@[simp] theorem queue_types_keyingAlarm (i xid : Nat) :
    (s.keyingAlarm i xid).pending = s.pending ∧ (s.keyingAlarm i xid).fw.types = s.fw.types := by simp [State.keyingAlarm]

@[simp] theorem queue_types_answerInit (i xid : Nat) (init : List Byte) :
    (s.answerInit i xid init).pending = s.pending ∧ (s.answerInit i xid init).fw.types = s.fw.types := by
  simp [State.answerInit]

@[simp] theorem queue_types_takeResp (i : Nat) (x : Exchange) (resp : List Byte) :
    (s.takeResp i x resp).1.pending = s.pending ∧ (s.takeResp i x resp).1.fw.types = s.fw.types := ⟨rfl, rfl⟩

@[simp] theorem queue_types_resendRekey (i xid : Nat) (l : List (Nat × List Byte)) :
    (s.resendRekey i xid l).pending = s.pending ∧ (s.resendRekey i xid l).fw.types = s.fw.types := by
  induction l generalizing s i xid with
  | nil => exact ⟨rfl, rfl⟩
  | cons x xs ih => simp [State.resendRekey, ih]

@[simp] theorem queue_types_rollover (i : Nat) : (s.rollover i).pending = s.pending ∧
      (s.rollover i).fw.types = s.fw.types := by
  simp [State.rollover]

/-! #### Machine/Spdm.lean -/

@[simp] theorem queue_types_modConn (c : Nat) (f : Spdm → Spdm) :
    (s.modConn c f).pending = s.pending ∧ (s.modConn c f).fw.types = s.fw.types := ⟨rfl, rfl⟩

@[simp] theorem queue_types_spdmReply (c code : Nat) (bs : List Byte) :
    (s.spdmReply c code bs).pending = s.pending ∧ (s.spdmReply c code bs).fw.types = s.fw.types := ⟨rfl, rfl⟩

@[simp] theorem queue_types_spdmError (c code : Nat) :
    (s.spdmError c code).pending = s.pending ∧ (s.spdmError c code).fw.types = s.fw.types := ⟨rfl, rfl⟩

@[simp] theorem queue_types_spdmAt (c n : Nat) (f : State → State)
    (hf : ∀ t, (f t).pending = t.pending ∧ (f t).fw.types = t.fw.types) :
    (s.spdmAt c n f).pending = s.pending ∧ (s.spdmAt c n f).fw.types = s.fw.types := by
  simp only [State.spdmAt]
  (repeat' split) <;> simp [hf]

@[simp] theorem queue_types_spdmDrbg (c : Nat) (f : State → State)
    (hf : ∀ t, (f t).pending = t.pending ∧ (f t).fw.types = t.fw.types) :
    (s.spdmDrbg c f).pending = s.pending ∧ (s.spdmDrbg c f).fw.types = s.fw.types := by
  simp only [State.spdmDrbg]
  (repeat' split) <;> simp [hf]

@[simp] theorem queue_types_modSession (id : Nat) (f : Session → Session) :
    (s.modSession id f).pending = s.pending ∧ (s.modSession id f).fw.types = s.fw.types := ⟨rfl, rfl⟩

@[simp] theorem queue_types_closeTenant (id : Nat) :
    (s.closeTenant id).pending = s.pending ∧ (s.closeTenant id).fw.types = s.fw.types := ⟨rfl, rfl⟩

@[simp] theorem queue_types_endSession (id : Nat) :
    (s.endSession id).pending = s.pending ∧ (s.endSession id).fw.types = s.fw.types := ⟨rfl, rfl⟩

@[simp] theorem queue_types_spdmSigned (c code : Nat) (data : List Byte) :
    (s.spdmSigned c code data).pending = s.pending ∧ (s.spdmSigned c code data).fw.types = s.fw.types := by
  simp [State.spdmSigned]

@[simp] theorem queue_types_inSession (c id : Nat) (f : State → State)
    (hf : ∀ t, (f t).pending = t.pending ∧ (f t).fw.types = t.fw.types) :
    (s.inSession c id f).pending = s.pending ∧ (s.inSession c id f).fw.types = s.fw.types := by
  refine queue_types_spdmAt s c 3 _ fun t => ?_
  (repeat' split) <;> simp [hf]

@[simp] theorem queue_types_vendReply (c code status : Nat) (bs : List Byte) :
    (s.vendReply c code status bs).pending = s.pending ∧ (s.vendReply c code status bs).fw.types = s.fw.types := ⟨rfl, rfl⟩

/-! #### Machine/Tenant.lean -/

@[simp] theorem queue_types_inTenant (c id code : Nat) (f : Session → Tenant → State → State)
    (hf : ∀ x y t, (f x y t).pending = t.pending ∧ (f x y t).fw.types = t.fw.types) :
    (s.inTenant c id code f).pending = s.pending ∧ (s.inTenant c id code f).fw.types = s.fw.types := by
  refine queue_types_spdmAt s c 3 _ fun t => ?_
  (repeat' split) <;> simp [hf]

@[simp] theorem queue_types_setTenantKey (id h : Nat) (k : Option Nat) :
    (s.setTenantKey id h k).pending = s.pending ∧ (s.setTenantKey id h k).fw.types = s.fw.types := ⟨rfl, rfl⟩

@[simp] theorem queue_types_extentXlt (p va n : Nat) :
    (s.extentXlt p va n).1.pending = s.pending ∧ (s.extentXlt p va n).1.fw.types = s.fw.types := by
  induction n generalizing s va with
  | zero => exact ⟨rfl, rfl⟩
  | succ n ih =>
    simp only [State.extentXlt]
    split
    · next h => simp [fst_of_eq h]
    · next s1 _ h =>
      have h1 : s1.pending = s.pending ∧ s1.fw.types = s.fw.types := by simp [fst_of_eq h]
      split <;> next h2 => simp [ih, fst_of_eq h2, h1]

@[simp] theorem queue_types_cusRead (p va n : Nat) :
    (s.cusRead p va n).1.pending = s.pending ∧ (s.cusRead p va n).1.fw.types = s.fw.types := by simp [State.cusRead]

@[simp] theorem queue_types_cusWrite (p va : Nat) (bs : List Byte) :
    (s.cusWrite p va bs).pending = s.pending ∧ (s.cusWrite p va bs).fw.types = s.fw.types := by simp [State.cusWrite]

@[simp] theorem queue_types_unsealChunks (p va key : Nat) (hdr : List Byte) (chunks last i n : Nat) :
    (s.unsealChunks p va key hdr chunks last i n).1.pending = s.pending ∧
      (s.unsealChunks p va key hdr chunks last i n).1.fw.types = s.fw.types := by
  induction n generalizing s p va key hdr chunks last i with
  | zero => exact ⟨rfl, rfl⟩
  | succ n ih => simp [State.unsealChunks, ih]

@[simp] theorem queue_types_sealChunks (p va key : Nat) (hdr : List Byte) (chunks last i n : Nat) :
    (s.sealChunks p va key hdr chunks last i n).pending = s.pending ∧
      (s.sealChunks p va key hdr chunks last i n).fw.types = s.fw.types := by
  induction n generalizing s p va key hdr chunks last i with
  | zero => exact ⟨rfl, rfl⟩
  | succ n ih => simp [State.sealChunks, ih]

@[simp] theorem queue_types_performSeal (p va key chunks last label : Nat) :
    (s.performSeal p va key chunks last label).pending = s.pending ∧
      (s.performSeal p va key chunks last label).fw.types = s.fw.types := by
  simp [State.performSeal]

@[simp] theorem queue_types_tdispReply (v code : Nat) (bs : List Byte) :
    (s.tdispReply v code bs).pending = s.pending ∧ (s.tdispReply v code bs).fw.types = s.fw.types := ⟨rfl, rfl⟩

@[simp] theorem queue_types_tdispError (v code : Nat) :
    (s.tdispError v code).pending = s.pending ∧ (s.tdispError v code).fw.types = s.fw.types := ⟨rfl, rfl⟩

@[simp] theorem queue_types_tdispReq (id v : Nat) (f : State → State)
    (hf : ∀ t, (f t).pending = t.pending ∧ (f t).fw.types = t.fw.types) :
    (s.tdispReq id v f).pending = s.pending ∧ (s.tdispReq id v f).fw.types = s.fw.types := by
  simp only [State.tdispReq]
  (repeat' split) <;> simp [hf]

@[simp] theorem queue_types_cqGoAll (fn : Nat) (l : List Nat) :
    (s.cqGoAll fn l).pending = s.pending ∧ (s.cqGoAll fn l).fw.types = s.fw.types := by
  induction l generalizing s fn with
  | nil => exact ⟨rfl, rfl⟩
  | cons x xs ih => simp [State.cqGoAll, ih]

/-! #### Machine/Firmware.lean -/

@[simp] theorem queue_types_fwRecord (event t code : Nat) (h : FwHdr) :
    (s.fwRecord event t code h).pending = s.pending ∧ (s.fwRecord event t code h).fw.types = s.fw.types := by
  simp [State.fwRecord]

@[simp] theorem queue_types_tellXfer (src : FwFrom) (status : Nat) :
    (s.tellXfer src status).pending = s.pending ∧ (s.tellXfer src status).fw.types = s.fw.types := by
  simp only [State.tellXfer]
  split <;> simp

@[simp] theorem queue_types_endXfer (status : Nat) :
    (s.endXfer status).pending = s.pending ∧ (s.endXfer status).fw.types = s.fw.types := by
  simp only [State.endXfer]
  split <;> simp

@[simp] theorem queue_types_erased (e : Nat × Nat) : (s.erased e).pending = s.pending ∧
      (s.erased e).fw.types = s.fw.types := by
  simp [State.erased]

@[simp] theorem queue_types_erases (l : List (Nat × Nat)) :
    (s.erases l).pending = s.pending ∧ (s.erases l).fw.types = s.fw.types := by
  induction l generalizing s  with
  | nil => exact ⟨rfl, rfl⟩
  | cons x xs ih => simp [State.erases, ih]

@[simp] theorem queue_types_norFailure (sector : Nat) :
    (s.norFailure sector).pending = s.pending ∧ (s.norFailure sector).fw.types = s.fw.types := by simp [State.norFailure]

@[simp] theorem queue_types_startAct (t link : Nat) (desc : Option Nat) (thenLinks : Bool) :
    (s.startAct t link desc thenLinks).pending = s.pending ∧
      (s.startAct t link desc thenLinks).fw.types = s.fw.types := ⟨rfl, rfl⟩

@[simp] theorem queue_types_endAct (t status : Nat) (desc : Option Nat) :
    (s.endAct t status desc).pending = s.pending ∧ (s.endAct t status desc).fw.types = s.fw.types := by
  simp only [State.endAct]
  split <;> simp

@[simp] theorem queue_types_goOn (a : FwAct) : (s.goOn a).pending = s.pending ∧ (s.goOn a).fw.types = s.fw.types := by
  simp [State.goOn]

/-! #### Machine/Boot.lean -/

@[simp] theorem queue_types_coverage : s.coverage.pending = s.pending ∧ s.coverage.fw.types = s.fw.types := by
  simp [State.coverage]

@[simp] theorem queue_types_copyFailures (l : List Nat) :
    (s.copyFailures l).pending = s.pending ∧ (s.copyFailures l).fw.types = s.fw.types := by
  induction l generalizing s  with
  | nil => exact ⟨rfl, rfl⟩
  | cons x xs ih => simp [State.copyFailures, ih]

@[simp] theorem queue_types_blowFuses : s.blowFuses.pending = s.pending ∧ s.blowFuses.fw.types = s.fw.types := ⟨rfl, rfl⟩

@[simp] theorem queue_types_repairBlock (b : Nat) :
    (s.repairBlock b).pending = s.pending ∧ (s.repairBlock b).fw.types = s.fw.types := by simp [State.repairBlock]

@[simp] theorem queue_types_repairEntry (w : Withheld) :
    (s.repairEntry w).pending = s.pending ∧ (s.repairEntry w).fw.types = s.fw.types := by simp [State.repairEntry]

@[simp] theorem queue_types_repairEntries (n : Nat) (l : List Withheld) :
    (s.repairEntries n l).1.pending = s.pending ∧ (s.repairEntries n l).1.fw.types = s.fw.types := by
  induction l generalizing s n with
  | nil => exact ⟨rfl, rfl⟩
  | cons x xs ih => simp [State.repairEntries, ih]

@[simp] theorem queue_types_repairHeavy (n : Nat) (l : List Nat) :
    (s.repairHeavy n l).pending = s.pending ∧ (s.repairHeavy n l).fw.types = s.fw.types := by
  induction l generalizing s n with
  | nil => exact ⟨rfl, rfl⟩
  | cons x xs ih => simp [State.repairHeavy, ih]

@[simp] theorem queue_types_repair (m : StartMeas) : (s.repair m).pending = s.pending ∧
      (s.repair m).fw.types = s.fw.types := by
  simp [State.repair]

@[simp] theorem queue_types_ledgerStart (m : StartMeas) :
    (s.ledgerStart m).pending = s.pending ∧ (s.ledgerStart m).fw.types = s.fw.types := by simp [State.ledgerStart]

@[simp] theorem queue_types_dueReport (due volt : Bool) (bit event : Nat) :
    (s.dueReport due volt bit event).pending = s.pending ∧ (s.dueReport due volt bit event).fw.types = s.fw.types := by
  simp [State.dueReport]

@[simp] theorem queue_types_tamperReports (n : Nat) :
    (s.tamperReports n).pending = s.pending ∧ (s.tamperReports n).fw.types = s.fw.types := by
  induction n generalizing s  with
  | zero => exact ⟨rfl, rfl⟩
  | succ n ih => simp [State.tamperReports, ih]

@[simp] theorem queue_types_dues (m : StartMeas) : (s.dues m).pending = s.pending ∧ (s.dues m).fw.types = s.fw.types := by
  simp only [State.dues]
  (repeat' split) <;> simp

@[simp] theorem queue_types_enterRecovery : s.enterRecovery.pending = s.pending ∧ s.enterRecovery.fw.types = s.fw.types := ⟨rfl, rfl⟩

@[simp] theorem queue_types_pldm (code : Nat) (bs : List Byte) :
    (s.pldm code bs).pending = s.pending ∧ (s.pldm code bs).fw.types = s.fw.types := ⟨rfl, rfl⟩

@[simp] theorem queue_types_pldmTo (st : PldmSt) : (s.pldmTo st).pending = s.pending ∧ (s.pldmTo st).fw.types = s.fw.types := ⟨rfl, rfl⟩

@[simp] theorem queue_types_pldmAsk : s.pldmAsk.pending = s.pending ∧ s.pldmAsk.fw.types = s.fw.types := by
  simp only [State.pldmAsk]
  split <;> simp

@[simp] theorem queue_types_pldmDrop : s.pldmDrop.pending = s.pending ∧ s.pldmDrop.fw.types = s.fw.types := by
  simp only [State.pldmDrop]
  split <;> simp

/-! #### Machine/Curator.lean -/

@[simp] theorem queue_types_bindEnd (p op code : Nat) (descs : List (Nat × Nat)) (mctp : List Nat) :
    (s.bindEnd p op code descs mctp).pending = s.pending ∧ (s.bindEnd p op code descs mctp).fw.types = s.fw.types := by
  simp [State.bindEnd]

@[simp] theorem queue_types_bindGo (from_ : BindFrom) (op : Nat) (f : List (Nat × Nat) → List Nat → Nat → List Byte → State → State)
    (hf : ∀ ds ms c env t, (f ds ms c env t).pending = t.pending ∧ (f ds ms c env t).fw.types = t.fw.types) :
    (s.bindGo from_ op f).pending = s.pending ∧ (s.bindGo from_ op f).fw.types = s.fw.types := by
  simp only [State.bindGo]
  (repeat' split) <;> simp [hf]

@[simp] theorem queue_types_tellBytes (p kind a : Nat) (bs : List Byte) :
    (s.tellBytes p kind a bs).pending = s.pending ∧ (s.tellBytes p kind a bs).fw.types = s.fw.types := ⟨rfl, rfl⟩

@[simp] theorem queue_types_opBegin (p op : Nat) (descs : List (Nat × Nat)) (mctp : List Nat) (env : Option Envelope) :
    (s.opBegin p op descs mctp env).pending = s.pending ∧ (s.opBegin p op descs mctp env).fw.types = s.fw.types := ⟨rfl, rfl⟩

@[simp] theorem queue_types_modOp (p : Nat) (f : BindOp → BindOp) :
    (s.modOp p f).pending = s.pending ∧ (s.modOp p f).fw.types = s.fw.types := ⟨rfl, rfl⟩

@[simp] theorem queue_types_undoReserve (p code : Nat) :
    (s.undoReserve p code).pending = s.pending ∧ (s.undoReserve p code).fw.types = s.fw.types := by simp [State.undoReserve]

@[simp] theorem queue_types_dissolveGo (p : Nat) :
    (s.dissolveGo p).pending = s.pending ∧ (s.dissolveGo p).fw.types = s.fw.types := by
  simp only [State.dissolveGo]
  (repeat' split) <;> simp

@[simp] theorem queue_types_dissolveHere (p : Nat) :
    (s.dissolveHere p).pending = s.pending ∧ (s.dissolveHere p).fw.types = s.fw.types := by simp [State.dissolveHere]

@[simp] theorem queue_types_clearDone (q : Nat) (l : List Nat) :
    (s.clearDone q l).pending = s.pending ∧ (s.clearDone q l).fw.types = s.fw.types := by
  induction l generalizing s q with
  | nil => exact ⟨rfl, rfl⟩
  | cons x xs ih => simp [State.clearDone, ih]

@[simp] theorem queue_types_sealSend (p : Nat) (table : List WinRow) :
    (s.sealSend p table).pending = s.pending ∧ (s.sealSend p table).fw.types = s.fw.types := by simp [State.sealSend]

@[simp] theorem queue_types_flipPart (p : Nat) (cat : List Byte) :
    (s.flipPart p cat).pending = s.pending ∧ (s.flipPart p cat).fw.types = s.fw.types := by simp [State.flipPart]

@[simp] theorem queue_types_resumePart (p : Nat) :
    (s.resumePart p).pending = s.pending ∧ (s.resumePart p).fw.types = s.fw.types := by simp [State.resumePart]

@[simp] theorem queue_types_dropMembers (old new_ : List EnvMember) :
    (s.dropMembers old new_).pending = s.pending ∧ (s.dropMembers old new_).fw.types = s.fw.types := ⟨rfl, rfl⟩

@[simp] theorem queue_types_resumeAllMembers (p : Nat) :
    (s.resumeAllMembers p).pending = s.pending ∧ (s.resumeAllMembers p).fw.types = s.fw.types := by
  simp [State.resumeAllMembers]

@[simp] theorem queue_types_flipSend (p : Nat) (table : List WinRow) :
    (s.flipSend p table).pending = s.pending ∧ (s.flipSend p table).fw.types = s.fw.types := by simp [State.flipSend]

@[simp] theorem queue_types_planDropped (p code : Nat) :
    (s.planDropped p code).pending = s.pending ∧ (s.planDropped p code).fw.types = s.fw.types := by simp [State.planDropped]

@[simp] theorem queue_types_pauseStart (p : Nat) :
    (s.pauseStart p).pending = s.pending ∧ (s.pauseStart p).fw.types = s.fw.types := by
  simp only [State.pauseStart]
  split <;> simp

@[simp] theorem queue_types_rebindGo (p : Nat) : (s.rebindGo p).pending = s.pending ∧ (s.rebindGo p).fw.types = s.fw.types := by
  simp only [State.rebindGo]
  (repeat' split) <;> simp

@[simp] theorem queue_types_rebindBegin (p : Nat) (descs : List (Nat × Nat)) (mctp : List Nat) :
    (s.rebindBegin p descs mctp).pending = s.pending ∧ (s.rebindBegin p descs mctp).fw.types = s.fw.types := ⟨rfl, rfl⟩

@[simp] theorem queue_types_rebindAsk (p : Nat) (descs : List (Nat × Nat)) (mctp : List Nat) :
    (s.rebindAsk p descs mctp).pending = s.pending ∧ (s.rebindAsk p descs mctp).fw.types = s.fw.types := by
  simp only [State.rebindAsk]
  split <;> simp

@[simp] theorem queue_types_updateGo (p : Nat) : (s.updateGo p).pending = s.pending ∧ (s.updateGo p).fw.types = s.fw.types := by
  simp only [State.updateGo]
  split <;> simp

@[simp] theorem queue_types_remoteFault (p vcore code : Nat) :
    (s.remoteFault p vcore code).pending = s.pending ∧ (s.remoteFault p vcore code).fw.types = s.fw.types := by
  simp only [State.remoteFault]
  split <;> simp

@[simp] theorem queue_types_stopsGo (p : Nat) : (s.stopsGo p).pending = s.pending ∧ (s.stopsGo p).fw.types = s.fw.types := by
  simp [State.stopsGo]

@[simp] theorem queue_types_opReport (p fid : Nat) (rep : Report) (o : BindOp) :
    (s.opReport p fid rep o).pending = s.pending ∧ (s.opReport p fid rep o).fw.types = s.fw.types := by
  simp only [State.opReport]
  (repeat' split) <;> simp

@[simp] theorem queue_types_loadReport (p fid slot status : Nat) (places : List SlotPlace) :
    (s.loadReport p fid slot status places).pending = s.pending ∧
      (s.loadReport p fid slot status places).fw.types = s.fw.types := by
  simp only [State.loadReport]
  split <;> simp

@[simp] theorem queue_types_memberGone (p code : Nat) :
    (s.memberGone p code).pending = s.pending ∧ (s.memberGone p code).fw.types = s.fw.types := by
  simp only [State.memberGone]
  split <;> simp

@[simp] theorem queue_types_resendTo (fid : Nat) (q : Part) (o : BindOp) :
    (s.resendTo fid q o).pending = s.pending ∧ (s.resendTo fid q o).fw.types = s.fw.types := by
  simp only [State.resendTo]
  split <;> simp

@[simp] theorem queue_types_setPages (v : Option PoolPage) (l : List Nat) :
    (s.setPages v l).pending = s.pending ∧ (s.setPages v l).fw.types = s.fw.types := by
  induction l generalizing s v with
  | nil => exact ⟨rfl, rfl⟩
  | cons x xs ih => simp [State.setPages, ih]

/-! #### Machine/Panel.lean -/

@[simp] theorem queue_types_modPanel (f : Panel → Panel) :
    (s.modPanel f).pending = s.pending ∧ (s.modPanel f).fw.types = s.fw.types := ⟨rfl, rfl⟩

@[simp] theorem queue_types_panelNote (bit event code value : Nat) :
    (s.panelNote bit event code value).pending = s.pending ∧ (s.panelNote bit event code value).fw.types = s.fw.types := by
  simp [State.panelNote]

@[simp] theorem queue_types_panelOnly (event code value : Nat) :
    (s.panelOnly event code value).pending = s.pending ∧ (s.panelOnly event code value).fw.types = s.fw.types := by
  simp [State.panelOnly]

@[simp] theorem queue_types_islandLoss : s.islandLoss.pending = s.pending ∧ s.islandLoss.fw.types = s.fw.types := ⟨rfl, rfl⟩

@[simp] theorem queue_types_islandCheck : s.islandCheck.pending = s.pending ∧ s.islandCheck.fw.types = s.fw.types := by
  simp [State.islandCheck]

@[simp] theorem queue_types_swapTo (a b : HotSwap) :
    (s.swapTo a b).pending = s.pending ∧ (s.swapTo a b).fw.types = s.fw.types := by simp [State.swapTo]

@[simp] theorem queue_types_powerOff : s.powerOff.pending = s.pending ∧ s.powerOff.fw.types = s.fw.types := by
  simp [State.powerOff]

@[simp] theorem queue_types_locate (v : Nat) : (s.locate v).pending = s.pending ∧ (s.locate v).fw.types = s.fw.types := by
  simp [State.locate]

@[simp] theorem queue_types_cellTo (st : CellSt) (mv cur : Nat) (note : Option Nat) :
    (s.cellTo st mv cur note).pending = s.pending ∧ (s.cellTo st mv cur note).fw.types = s.fw.types := by
  simp only [State.cellTo]
  split <;> simp

@[simp] theorem queue_types_chargeAt (mv : Nat) :
    (s.chargeAt mv).pending = s.pending ∧ (s.chargeAt mv).fw.types = s.fw.types := by simp [State.chargeAt]

@[simp] theorem queue_types_chargeCell (mv : Nat) :
    (s.chargeCell mv).pending = s.pending ∧ (s.chargeCell mv).fw.types = s.fw.types := by simp [State.chargeCell]

/-! #### Machine/Time.lean -/

@[simp] theorem queue_types_restartTime (ctrl : Nat) :
    (s.restartTime ctrl).pending = s.pending ∧ (s.restartTime ctrl).fw.types = s.fw.types := by simp [State.restartTime]

@[simp] theorem queue_types_applyTsCtrl : s.applyTsCtrl.pending = s.pending ∧ s.applyTsCtrl.fw.types = s.fw.types := by
  simp [State.applyTsCtrl]

@[simp] theorem queue_types_acquireBy (o : Int) :
    (s.acquireBy o).pending = s.pending ∧ (s.acquireBy o).fw.types = s.fw.types := by simp [State.acquireBy]

@[simp] theorem queue_types_steer (o : Int) : (s.steer o).pending = s.pending ∧ (s.steer o).fw.types = s.fw.types := by
  simp only [State.steer]
  split <;> simp

/-! #### Machine/XltCmd.lean -/

@[simp] theorem queue_types_setHostDown (on : Bool) :
    (s.setHostDown on).pending = s.pending ∧ (s.setHostDown on).fw.types = s.fw.types := ⟨rfl, rfl⟩

@[simp] theorem queue_types_syncInv (p : Nat) : (s.syncInv p).pending = s.pending ∧ (s.syncInv p).fw.types = s.fw.types := by
  simp [State.syncInv]

@[simp] theorem queue_types_revokeUnmapped (p cmd : Nat) (l : List (Nat × InWin)) :
    (s.revokeUnmapped p cmd l).pending = s.pending ∧ (s.revokeUnmapped p cmd l).fw.types = s.fw.types := by
  induction l generalizing s p cmd with
  | nil => exact ⟨rfl, rfl⟩
  | cons x xs ih => simp [State.revokeUnmapped, ih]

/-! #### Machine/Registers.lean -/

@[simp] theorem queue_types_putReg (k v m : Nat) (ok : Bool) :
    (s.putReg k v m ok).pending = s.pending ∧ (s.putReg k v m ok).fw.types = s.fw.types := by simp [State.putReg]

@[simp] theorem queue_types_zeroKeys (l : List Nat) :
    (s.zeroKeys l).pending = s.pending ∧ (s.zeroKeys l).fw.types = s.fw.types := by
  induction l generalizing s  with
  | nil => exact ⟨rfl, rfl⟩
  | cons x xs ih => simp [State.zeroKeys, ih]

@[simp] theorem queue_types_writeSeq (b i v : Nat) :
    (s.writeSeq b i v).pending = s.pending ∧ (s.writeSeq b i v).fw.types = s.fw.types := by simp [State.writeSeq]

@[simp] theorem queue_types_writeMem (k v : Nat) :
    (s.writeMem k v).pending = s.pending ∧ (s.writeMem k v).fw.types = s.fw.types := ⟨rfl, rfl⟩

@[simp] theorem queue_types_writeQos (b i k v m : Nat) :
    (s.writeQos b i k v m).pending = s.pending ∧ (s.writeQos b i k v m).fw.types = s.fw.types := by simp [State.writeQos]

@[simp] theorem queue_types_writeSec (k v m : Nat) :
    (s.writeSec k v m).pending = s.pending ∧ (s.writeSec k v m).fw.types = s.fw.types := by simp [State.writeSec]

@[simp] theorem queue_types_writeMsix (fn i x : Nat) :
    (s.writeMsix fn i x).pending = s.pending ∧ (s.writeMsix fn i x).fw.types = s.fw.types := by simp [State.writeMsix]

@[simp] theorem queue_types_tdiFails (l : List Nat) :
    (s.tdiFails l).pending = s.pending ∧ (s.tdiFails l).fw.types = s.fw.types := by
  induction l generalizing s  with
  | nil => exact ⟨rfl, rfl⟩
  | cons x xs ih => simp [State.tdiFails, ih]

@[simp] theorem queue_types_readEffect (a : Nat) :
    (s.readEffect a).pending = s.pending ∧ (s.readEffect a).fw.types = s.fw.types := by
  simp only [State.readEffect]
  split <;> simp

@[simp] theorem queue_types_readEffects (a n : Nat) :
    (s.readEffects a n).pending = s.pending ∧ (s.readEffects a n).fw.types = s.fw.types := by
  induction n generalizing s a with
  | zero => exact ⟨rfl, rfl⟩
  | succ n ih => simp [State.readEffects, ih]

/-! #### Machine/Tick.lean -/

@[simp] theorem queue_types_controlError (kind i x : Nat) :
    (s.controlError kind i x).pending = s.pending ∧ (s.controlError kind i x).fw.types = s.fw.types := by
  simp only [State.controlError]
  split <;> simp

@[simp] theorem queue_types_mendWins : s.mendWins.pending = s.pending ∧ s.mendWins.fw.types = s.fw.types := ⟨rfl, rfl⟩

@[simp] theorem queue_types_struck (x : Nat × Nat × Nat) :
    (s.struck x).pending = s.pending ∧ (s.struck x).fw.types = s.fw.types := by
  simp only [State.struck]
  split <;> simp

@[simp] theorem queue_types_monitorCages (l : List Nat) :
    (s.monitorCages l).pending = s.pending ∧ (s.monitorCages l).fw.types = s.fw.types := by
  induction l generalizing s  with
  | nil => exact ⟨rfl, rfl⟩
  | cons x xs ih => simp [State.monitorCages, ih]

@[simp] theorem queue_types_sampleNoise : s.sampleNoise.pending = s.pending ∧ s.sampleNoise.fw.types = s.fw.types := by
  simp [State.sampleNoise]

@[simp] theorem queue_types_idleOn (l : List Nat) : (s.idleOn l).pending = s.pending ∧ (s.idleOn l).fw.types = s.fw.types := by
  induction l generalizing s  with
  | nil => exact ⟨rfl, rfl⟩
  | cons x xs ih => simp [State.idleOn, ih]

@[simp] theorem queue_types_tick : s.tick.pending = s.pending ∧ s.tick.fw.types = s.fw.types := by simp [State.tick]

/-! #### Machine/Vector.lean -/

@[simp] theorem queue_types_countVx (c : Nat) : (s.countVx c).pending = s.pending ∧ (s.countVx c).fw.types = s.fw.types := ⟨rfl, rfl⟩

@[simp] theorem queue_types_vxStep (c : Nat) (ok : Bool) (f : Core → Core) :
    (s.vxStep c ok f).pending = s.pending ∧ (s.vxStep c ok f).fw.types = s.fw.types := by simp [State.vxStep]

@[simp] theorem queue_types_fpStep (c : Nat) (w : StepWord) (f : Val → Val → Val → Val) :
    (s.fpStep c w f).pending = s.pending ∧ (s.fpStep c w f).fw.types = s.fw.types := by simp [State.fpStep]

@[simp] theorem queue_types_storeLanes (c m off j : Nat) (l : List Nat) :
    (s.storeLanes c m off j l).pending = s.pending ∧ (s.storeLanes c m off j l).fw.types = s.fw.types := by
  fun_induction State.storeLanes s c m off j l with
  | case1 s j x y xs a s' ih =>
    rw [ih.1, ih.2]
    dsimp only [s']
    (repeat' split) <;> simp
  | case2 => exact ⟨rfl, rfl⟩

@[simp] theorem queue_types_storeAll (c off : Nat) (ws : List Nat) :
    (s.storeAll c off ws).pending = s.pending ∧ (s.storeAll c off ws).fw.types = s.fw.types := by simp [State.storeAll]

end

end Sys2Proof.Laws
end

section
/-! PROOFS. The queue and the image types under every command (log 1; spec/20: R551): all but those of IMAGE_HEADER, IMAGE_LANDED,
MGMT_IMAGE_READY, MGMT_READY_TIMEOUT, MICROCODE_SWITCH and POWER_GOOD leave both as they are. -/
namespace Sys2Proof.Laws

open Machine

section

variable (s : State)

/-- A command's answer, where it is a next state, leaves the queue and the image types as they are. -/
def QueueTypesKept (s : State) (o : Out) : Prop := ∀ t, o = .next t → t.pending = s.pending ∧ t.fw.types = s.fw.types

@[simp] theorem queueTypesKept_next {s t : State} : QueueTypesKept s (.next t) ↔ t.pending = s.pending ∧ t.fw.types = s.fw.types :=
  ⟨fun h => h t rfl, fun h u e => by cases e; exact h⟩

@[simp] theorem queueTypesKept_fault {f : Fault} : QueueTypesKept s (.fault f) := fun _ e => nomatch e

@[simp] theorem queueTypesKept_ite {c : Prop} [Decidable c] {a b : Out} :
    QueueTypesKept s (if c then a else b) ↔ (if c then QueueTypesKept s a else QueueTypesKept s b) := by
  split <;> rfl

theorem queueTypesKept_pldmReq (bus : Nat) (f : State → State)
    (hf : ∀ t, (f t).pending = t.pending ∧ (f t).fw.types = t.fw.types) : QueueTypesKept s (s.pldmReq bus f) := by
  refine queueTypesKept_next.2 ?_
  split
  · exact hf s
  · exact ⟨rfl, rfl⟩

theorem queueTypesKept_pldmIn (bus code : Nat) (ok : PldmSt → Bool) (f : State → State)
    (hf : ∀ t, (f t).pending = t.pending ∧ (f t).fw.types = t.fw.types) : QueueTypesKept s (s.pldmIn bus code ok f) := by
  refine queueTypesKept_pldmReq s _ _ fun t => ?_
  split
  · exact hf t
  · split <;> simp

theorem queueTypesKept_execMemRead (me : ReqInfo) (others : List ReqInfo) (ipa : Fin 281474976710656) (a : Fin 4398046511104) (n : Nat) (ecc : Ecc) :
    QueueTypesKept s (execMemRead me others ipa a n ecc s) := by simp [execMemRead]

theorem queueTypesKept_execMemWrite (me : ReqInfo) (others : List ReqInfo) (ipa : Fin 281474976710656) (a : Fin 4398046511104) (bs : List Byte) (ecc : Ecc) :
    QueueTypesKept s (execMemWrite me others ipa a bs ecc s) := by simp [execMemWrite]

theorem queueTypesKept_execScrubRead (ecc : Ecc) (raced : Bool) (heavy : Bool) :
    QueueTypesKept s (execScrubRead ecc raced heavy s) := by simp [execScrubRead]

theorem queueTypesKept_execRefresh (ch : ChannelId) : QueueTypesKept s (execRefresh ch s) := by simp [execRefresh]

theorem queueTypesKept_execStackTempRead (st : StackId) (temp : Fin 256) :
    QueueTypesKept s (execStackTempRead st temp s) := by simp [execStackTempRead]

theorem queueTypesKept_execWayMoveDone (g : GroupId) (w : Fin 16) : QueueTypesKept s (execWayMoveDone g w s) := by
  simp only [execWayMoveDone]
  split <;> simp

theorem queueTypesKept_execSelfRefreshExit (g : GroupId) : QueueTypesKept s (execSelfRefreshExit g s) := by simp [execSelfRefreshExit]

theorem queueTypesKept_execGroupLevelSample (g : GroupId) (level : Fin 129) :
    QueueTypesKept s (execGroupLevelSample g level s) := by simp [execGroupLevelSample]

theorem queueTypesKept_execTokenRefill (m : PortId) : QueueTypesKept s (execTokenRefill m s) := by simp [execTokenRefill]

theorem queueTypesKept_execUrgencyChange (m : PortId) (measured : Nat) :
    QueueTypesKept s (execUrgencyChange m measured s) := by simp [execUrgencyChange]

theorem queueTypesKept_execRequestAgePromote (m : PortId) (p : PartId) (a : Fin 4398046511104) :
    QueueTypesKept s (execRequestAgePromote m p a s) := by simp [execRequestAgePromote]

theorem queueTypesKept_execMonitorWindowClose (g : GroupId) (busy : Bool) (ws : List Window) :
    QueueTypesKept s (execMonitorWindowClose g busy ws s) := by simp [execMonitorWindowClose]

theorem queueTypesKept_execLoadb (c : CoreId) (w : StepWord) (upset : Option (Fin 1048576)) :
    QueueTypesKept s (execLoadb c w upset s) := by
  refine queueTypesKept_next.2 (queue_types_issue s _ _ _ fun t => ?_)
  dsimp only
  (repeat' split) <;> simp

theorem queueTypesKept_execMma (c : CoreId) (w : StepWord) (upset : Option (Fin 1048576)) :
    QueueTypesKept s (execMma c w upset s) := by
  refine queueTypesKept_next.2 (queue_types_issue s _ _ _ fun t => ?_)
  dsimp only
  (repeat' split) <;> simp

theorem queueTypesKept_execZero (c : CoreId) (w : StepWord) : QueueTypesKept s (execZero c w s) := by simp [execZero]

theorem queueTypesKept_execDrain (c : CoreId) (w : StepWord) : QueueTypesKept s (execDrain c w s) := by
  refine queueTypesKept_next.2 (queue_types_issue s _ _ _ fun t => ?_)
  (repeat' split) <;> simp

theorem queueTypesKept_execCopy (c : CoreId) (w : StepWord) (upset : Option (Fin 1048576)) :
    QueueTypesKept s (execCopy c w upset s) := by simp [execCopy]

theorem queueTypesKept_execCopyt (c : CoreId) (w : StepWord) : QueueTypesKept s (execCopyt c w s) := by simp [execCopyt]
theorem queueTypesKept_execLcopy (c : CoreId) (w : StepWord) (f : Fin 16) : QueueTypesKept s (execLcopy c w f s) := by simp [execLcopy]

theorem queueTypesKept_execLs (c : CoreId) (w : StepWord) (upset : Option (Fin 1048576)) :
    QueueTypesKept s (execLs c w upset s) := by simp [execLs]

theorem queueTypesKept_execGather (c : CoreId) (w : StepWord) : QueueTypesKept s (execGather c w s) := by simp [execGather]
theorem queueTypesKept_execScatter (c : CoreId) (w : StepWord) : QueueTypesKept s (execScatter c w s) := by simp [execScatter]
theorem queueTypesKept_execDispatch (c : CoreId) (w : StepWord) : QueueTypesKept s (execDispatch c w s) := by simp [execDispatch]

theorem queueTypesKept_execBucketCountTransfer (c : CoreId) (w : StepWord) :
    QueueTypesKept s (execBucketCountTransfer c w s) := by simp [execBucketCountTransfer]

theorem queueTypesKept_execAllocation (c : CoreId) (w : StepWord) (picks : List (Nat × Nat)) :
    QueueTypesKept s (execAllocation c w picks s) := by simp [execAllocation]

theorem queueTypesKept_execFree (c : CoreId) (w : StepWord) : QueueTypesKept s (execFree c w s) := by simp [execFree]
theorem queueTypesKept_execPoolPageClearDone (pg : Fin 16384) : QueueTypesKept s (execPoolPageClearDone pg s) := by simp [execPoolPageClearDone]
theorem queueTypesKept_execBucketRequest (h : HdrAddr) (r : BucketReq) : QueueTypesKept s (execBucketRequest h r s) := by simp [execBucketRequest]
theorem queueTypesKept_execBucketDone (h : HdrAddr) : QueueTypesKept s (execBucketDone h s) := by simp [execBucketDone]
theorem queueTypesKept_execZeroFillAcknowledged (h : HdrAddr) : QueueTypesKept s (execZeroFillAcknowledged h s) := by simp [execZeroFillAcknowledged]

theorem queueTypesKept_execBucketGrant (e : EngineId) (core : Nat) (seq : Nat) (bucket : Nat) (first : Nat) (granted : Nat) (policy : Nat) :
    QueueTypesKept s (execBucketGrant e core seq bucket first granted policy s) := by
  simp only [execBucketGrant]
  (repeat' split) <;> simp

theorem queueTypesKept_execWriteAcknowledgement (e : XferEngineId) (core : Nat) (seq : Nat) :
    QueueTypesKept s (execWriteAcknowledgement e core seq s) := by
  simp only [execWriteAcknowledgement]
  (repeat' split) <;> simp

theorem queueTypesKept_execWr (f : Flit) : QueueTypesKept s (execWr f s) := by simp [execWr]
theorem queueTypesKept_execWrm (f : Flit) : QueueTypesKept s (execWrm f s) := by simp [execWrm]

theorem queueTypesKept_execRd (f : Flit) : QueueTypesKept s (execRd f s) := by
  refine queueTypesKept_next.2 ?_
  split
  · exact ⟨rfl, rfl⟩
  · dsimp only
    split
    · simp
    · split <;> next h => simp [fst_of_eq h]

theorem queueTypesKept_execTransactionVisible (src : Fin 16384) (tag : Fin 65536) :
    QueueTypesKept s (execTransactionVisible src tag s) := by
  simp only [execTransactionVisible]
  split <;> simp

theorem queueTypesKept_execWriteAbandon (src : Fin 16384) (tag : Fin 65536) :
    QueueTypesKept s (execWriteAbandon src tag s) := by
  simp only [execWriteAbandon]
  split <;> simp

theorem queueTypesKept_execAck (f : Flit) : QueueTypesKept s (execAck f s) := by
  simp only [execAck]
  (repeat' split) <;> simp

theorem queueTypesKept_execRdata (f : Flit) : QueueTypesKept s (execRdata f s) := by
  simp only [execRdata]
  split <;> simp

theorem queueTypesKept_execRefuse (f : Flit) : QueueTypesKept s (execRefuse f s) := by
  simp only [execRefuse]
  split <;> simp

theorem queueTypesKept_execWindowTimeout (tag : Fin 65536) : QueueTypesKept s (execWindowTimeout tag s) := by
  simp only [execWindowTimeout]
  split <;> simp

theorem queueTypesKept_execOutboundOpen (e : WindowId) (part : PartId) (target : Fin 16384) (window : WindowId) (gen : Fin 256) (size : Fin 65536) (vwin : WindowId) (r : Bool) (w : Bool) :
    QueueTypesKept s (execOutboundOpen e part target window gen size vwin r w s) := by simp [execOutboundOpen]

theorem queueTypesKept_execWindowRevoke (w : WindowId) : QueueTypesKept s (execWindowRevoke w s) := by simp [execWindowRevoke]
theorem queueTypesKept_execRevokeDrained (w : WindowId) : QueueTypesKept s (execRevokeDrained w s) := by simp [execRevokeDrained]
theorem queueTypesKept_execOutboundClear (e : WindowId) : QueueTypesKept s (execOutboundClear e s) := by simp [execOutboundClear]

theorem queueTypesKept_execObjectAdd (n : ObjId) (amount : Fin 256) (srcKind : Fin 2) (src : CoreId) :
    QueueTypesKept s (execObjectAdd n amount srcKind src s) := by simp [execObjectAdd]

theorem queueTypesKept_execObjectJoin (n : ObjId) (c : CoreId) (wire : Fin 8) :
    QueueTypesKept s (execObjectJoin n c wire s) := by simp [execObjectJoin]

theorem queueTypesKept_execWait (c : CoreId) (w : StepWord) : QueueTypesKept s (execWait c w s) := by
  simp only [execWait]
  split <;> simp

theorem queueTypesKept_execWake (c : CoreId) (wire : Fin 8) : QueueTypesKept s (execWake c wire s) := by simp [execWake]
theorem queueTypesKept_execSignal (c : CoreId) (w : StepWord) : QueueTypesKept s (execSignal c w s) := by simp [execSignal]

theorem queueTypesKept_execSig (f : Flit) : QueueTypesKept s (execSig f s) := by
  simp only [execSig]
  (repeat' split) <;> simp

theorem queueTypesKept_execSigAckTimeout (tag : Fin 65536) : QueueTypesKept s (execSigAckTimeout tag s) := by
  simp only [execSigAckTimeout]
  split <;> simp

theorem queueTypesKept_execDbgSet (fn : FnId) (p : PartId) : QueueTypesKept s (execDbgSet fn p s) := by simp [execDbgSet]
theorem queueTypesKept_execDbgAdd (fn : FnId) (p : PartId) : QueueTypesKept s (execDbgAdd fn p s) := by simp [execDbgAdd]
theorem queueTypesKept_execDbgRelease (fn : FnId) (p : PartId) : QueueTypesKept s (execDbgRelease fn p s) := by simp [execDbgRelease]
theorem queueTypesKept_execDbgClearFault (fn : FnId) (p : PartId) : QueueTypesKept s (execDbgClearFault fn p s) := by simp [execDbgClearFault]
theorem queueTypesKept_execStateDump : QueueTypesKept s (execStateDump s) := by simp [execStateDump]
theorem queueTypesKept_execStateDumpEnd (ok : Bool) : QueueTypesKept s (execStateDumpEnd ok s) := by simp [execStateDumpEnd]
theorem queueTypesKept_execBarrier (c : CoreId) (w : StepWord) : QueueTypesKept s (execBarrier c w s) := by simp [execBarrier]
theorem queueTypesKept_execBroadcast (c : CoreId) (w : StepWord) : QueueTypesKept s (execBroadcast c w s) := by simp [execBroadcast]
theorem queueTypesKept_execReduceAdd (c : CoreId) (w : StepWord) : QueueTypesKept s (execReduceAdd c w s) := by simp [execReduceAdd]

theorem queueTypesKept_execConsistentSnapshot (c : CoreId) (w : StepWord) :
    QueueTypesKept s (execConsistentSnapshot c w s) := by simp [execConsistentSnapshot]

theorem queueTypesKept_execSnapshotCut (p : PartId) (g : Fin 65536) : QueueTypesKept s (execSnapshotCut p g s) := by
  simp only [execSnapshotCut]
  split <;> simp

theorem queueTypesKept_execTransferCompletion (e : XferEngineId) : QueueTypesKept s (execTransferCompletion e s) := by
  simp only [execTransferCompletion]
  (repeat' split) <;> simp

theorem queueTypesKept_execLoad (from_ : LoadFrom) (pl : SlotPlace) : QueueTypesKept s (execLoad from_ pl s) := by
  simp only [execLoad]
  split <;> simp

theorem queueTypesKept_execUnload (from_ : SlotFrom) : QueueTypesKept s (execUnload from_ s) := by
  simp only [execUnload]
  split <;> simp

theorem queueTypesKept_execLaunch (from_ : SlotFrom) : QueueTypesKept s (execLaunch from_ s) := by
  simp only [execLaunch]
  split <;> simp

theorem queueTypesKept_execSample (p : PartId) : QueueTypesKept s (execSample p s) := by simp [execSample]

theorem queueTypesKept_execSampleEnd (p : PartId) (ok : Bool) : QueueTypesKept s (execSampleEnd p ok s) := by
  simp only [execSampleEnd]
  (repeat' split) <;> simp

theorem queueTypesKept_execCompReset (p : PartId) : QueueTypesKept s (execCompReset p s) := by simp [execCompReset]

theorem queueTypesKept_execResetHoldEnd (p : PartId) : QueueTypesKept s (execResetHoldEnd p s) := by
  simp only [execResetHoldEnd]
  split <;> simp

theorem queueTypesKept_execResetConfirmTimeout (p : PartId) : QueueTypesKept s (execResetConfirmTimeout p s) := by
  simp only [execResetConfirmTimeout]
  split <;> simp

theorem queueTypesKept_execGop (link : LinkId) (f : Flit) : QueueTypesKept s (execGop link f s) := by
  simp only [execGop]
  (repeat' split) <;> simp

theorem queueTypesKept_execWatchdogFire (p : PartId) : QueueTypesKept s (execWatchdogFire p s) := by
  simp only [execWatchdogFire]
  split <;> simp

theorem queueTypesKept_execHifSqCfg (fn : FnId) (r : Fin 16) (v : W32) : QueueTypesKept s (execHifSqCfg fn r v s) := by simp [execHifSqCfg]
theorem queueTypesKept_execHifCqCfg (fn : FnId) (q : Fin 16) (v : W32) : QueueTypesKept s (execHifCqCfg fn q v s) := by simp [execHifCqCfg]

theorem queueTypesKept_execSqDoorbell (fn : FnId) (r : Fin 16) (v : Fin 65536) :
    QueueTypesKept s (execSqDoorbell fn r v s) := by simp [execSqDoorbell]

theorem queueTypesKept_execCqDoorbell (fn : FnId) (q : Fin 16) (v : Fin 65536) :
    QueueTypesKept s (execCqDoorbell fn q v s) := by simp [execCqDoorbell]

theorem queueTypesKept_execDescriptorFetch (fn : FnId) (r : Fin 16) (ok : Bool) :
    QueueTypesKept s (execDescriptorFetch fn r ok s) := by simp [execDescriptorFetch]

theorem queueTypesKept_execDescNop (fn : FnId) (r : Fin 16) : QueueTypesKept s (execDescNop fn r s) := by simp [execDescNop]

theorem queueTypesKept_execCopyLinear (fn : FnId) (r : Fin 16) (e : EngineId) :
    QueueTypesKept s (execCopyLinear fn r e s) := by simp [execCopyLinear]

theorem queueTypesKept_execCopyDescribed (fn : FnId) (r : Fin 16) (e : EngineId) (ok : Bool) :
    QueueTypesKept s (execCopyDescribed fn r e ok s) := by simp [execCopyDescribed]

theorem queueTypesKept_execHostSignal (fn : FnId) (r : Fin 16) : QueueTypesKept s (execHostSignal fn r s) := by
  refine queueTypesKept_next.2 ?_
  split
  · exact ⟨rfl, rfl⟩
  · refine queue_types_startDesc s _ _ _ _ fun d t => ?_
    (repeat' split) <;> simp

theorem queueTypesKept_execHostWait (fn : FnId) (r : Fin 16) : QueueTypesKept s (execHostWait fn r s) := by
  refine queueTypesKept_next.2 ?_
  split
  · exact ⟨rfl, rfl⟩
  · refine queue_types_startDesc s _ _ _ _ fun d t => ?_
    (repeat' split) <;> simp

theorem queueTypesKept_execHostWaitTimeout (id : Nat) : QueueTypesKept s (execHostWaitTimeout id s) := by
  simp only [execHostWaitTimeout]
  (repeat' split) <;> simp

theorem queueTypesKept_execFetchaddComplete (n : Nat) (ok : Bool) : QueueTypesKept s (execFetchaddComplete n ok s) := by
  simp only [execFetchaddComplete]
  split <;> simp

theorem queueTypesKept_execCoalesceTimeout (fn : FnId) (q : Fin 16) : QueueTypesKept s (execCoalesceTimeout fn q s) := by simp [execCoalesceTimeout]
theorem queueTypesKept_execFlr (fn : FnId) : QueueTypesKept s (execFlr fn s) := by simp [execFlr]
theorem queueTypesKept_execPcieReset : QueueTypesKept s (execPcieReset s) := by simp [execPcieReset]
theorem queueTypesKept_execPerstDeassert : QueueTypesKept s (execPerstDeassert s) := by simp [execPerstDeassert]
theorem queueTypesKept_execVfEnableChange (n : Fin 33) : QueueTypesKept s (execVfEnableChange n s) := by simp [execVfEnableChange]
theorem queueTypesKept_execQuiesceDrain (r : Fin 16) : QueueTypesKept s (execQuiesceDrain r s) := by simp [execQuiesceDrain]
theorem queueTypesKept_execQuiesceDrainEnd (v : Fin 33) : QueueTypesKept s (execQuiesceDrainEnd v s) := by simp [execQuiesceDrainEnd]

theorem queueTypesKept_execQuiesceTimeout (v : Fin 33) : QueueTypesKept s (execQuiesceTimeout v s) := by
  simp only [execQuiesceTimeout]
  (repeat' split) <;> simp

theorem queueTypesKept_execQuiesceAbort (r : Fin 16) : QueueTypesKept s (execQuiesceAbort r s) := by simp [execQuiesceAbort]
theorem queueTypesKept_execQuiesceResume (r : Fin 16) : QueueTypesKept s (execQuiesceResume r s) := by simp [execQuiesceResume]
theorem queueTypesKept_execInstCreate (r : Fin 16) : QueueTypesKept s (execInstCreate r s) := by simp [execInstCreate]
theorem queueTypesKept_execInstRemove (r : Fin 16) : QueueTypesKept s (execInstRemove r s) := by simp [execInstRemove]
theorem queueTypesKept_execInstReset (r : Fin 16) : QueueTypesKept s (execInstReset r s) := by simp [execInstReset]
theorem queueTypesKept_execInstStatus (r : Fin 16) : QueueTypesKept s (execInstStatus r s) := by simp [execInstStatus]
theorem queueTypesKept_execMbTomgrDb (v : Fin 33) : QueueTypesKept s (execMbTomgrDb v s) := by simp [execMbTomgrDb]
theorem queueTypesKept_execMbTomgrAck (v : Fin 33) : QueueTypesKept s (execMbTomgrAck v s) := by simp [execMbTomgrAck]
theorem queueTypesKept_execMbToinstDb (v : Fin 33) : QueueTypesKept s (execMbToinstDb v s) := by simp [execMbToinstDb]
theorem queueTypesKept_execMbToinstAck (v : Fin 33) : QueueTypesKept s (execMbToinstAck v s) := by simp [execMbToinstAck]
theorem queueTypesKept_execMbEvtHead (v : Fin 33) (x : Fin 256) : QueueTypesKept s (execMbEvtHead v x s) := by simp [execMbEvtHead]

theorem queueTypesKept_execCtxCreate (v : Fin 33) : QueueTypesKept s (execCtxCreate v s) := by
  refine queueTypesKept_next.2 (queue_types_mbRequest s _ _ _ fun t => ?_)
  (repeat' split) <;> simp

theorem queueTypesKept_execCtxDestroy (v : Fin 33) : QueueTypesKept s (execCtxDestroy v s) := by simp [execCtxDestroy]
theorem queueTypesKept_execCtxReset (v : Fin 33) : QueueTypesKept s (execCtxReset v s) := by simp [execCtxReset]
theorem queueTypesKept_execErrCtxReset (w : W32) : QueueTypesKept s (execErrCtxReset w s) := by simp [execErrCtxReset]
theorem queueTypesKept_execCatalogueRead (v : Fin 33) (ok : Bool) : QueueTypesKept s (execCatalogueRead v ok s) := by simp [execCatalogueRead]
theorem queueTypesKept_execInfo (v : Fin 33) : QueueTypesKept s (execInfo v s) := by simp [execInfo]
theorem queueTypesKept_execCagePresenceGained (c : CageId) : QueueTypesKept s (execCagePresenceGained c s) := by simp [execCagePresenceGained]

theorem queueTypesKept_execCagePresenceLost (c : CageId) : QueueTypesKept s (execCagePresenceLost c s) := by
  simp only [execCagePresenceLost]
  (repeat' split) <;> simp

theorem queueTypesKept_execCageRampEnd (c : CageId) (mv : Fin 65536) (ma : Fin 65536) (limiting : Bool) (cable : CableId) :
    QueueTypesKept s (execCageRampEnd c mv ma limiting cable s) := by simp [execCageRampEnd]

theorem queueTypesKept_execCageCurrentLimit (c : CageId) : QueueTypesKept s (execCageCurrentLimit c s) := by simp [execCageCurrentLimit]
theorem queueTypesKept_execCageOverload (c : CageId) : QueueTypesKept s (execCageOverload c s) := by simp [execCageOverload]
theorem queueTypesKept_execCageDischargeEnd (c : CageId) : QueueTypesKept s (execCageDischargeEnd c s) := by simp [execCageDischargeEnd]
theorem queueTypesKept_execRetryWaitEnd (c : CageId) : QueueTypesKept s (execRetryWaitEnd c s) := by simp [execRetryWaitEnd]
theorem queueTypesKept_execFailsClear (c : CageId) : QueueTypesKept s (execFailsClear c s) := by simp [execFailsClear]
theorem queueTypesKept_execLatchClr (c : CageId) : QueueTypesKept s (execLatchClr c s) := by simp [execLatchClr]

theorem queueTypesKept_execPowerEn (c : CageId) (on : Bool) : QueueTypesKept s (execPowerEn c on s) := by
  simp only [execPowerEn]
  (repeat' split) <;> simp

theorem queueTypesKept_execCmisReady (c : CageId) (application : Bool) :
    QueueTypesKept s (execCmisReady c application s) := by simp [execCmisReady]

theorem queueTypesKept_execCmisReadyTimeout (c : CageId) : QueueTypesKept s (execCmisReadyTimeout c s) := by simp [execCmisReadyTimeout]
theorem queueTypesKept_execCmisFlagRead (c : CageId) (flags : W32) : QueueTypesKept s (execCmisFlagRead c flags s) := by simp [execCmisFlagRead]
theorem queueTypesKept_execTouch (c : CageId) : QueueTypesKept s (execTouch c s) := by simp [execTouch]
theorem queueTypesKept_execAttnReq (c : CageId) : QueueTypesKept s (execAttnReq c s) := by simp [execAttnReq]
theorem queueTypesKept_execRelease (c : CageId) : QueueTypesKept s (execRelease c s) := by simp [execRelease]
theorem queueTypesKept_execCancel (c : CageId) : QueueTypesKept s (execCancel c s) := by simp [execCancel]
theorem queueTypesKept_execAttnTimeout (c : CageId) : QueueTypesKept s (execAttnTimeout c s) := by simp [execAttnTimeout]
theorem queueTypesKept_execAttnDrainEnd (c : CageId) : QueueTypesKept s (execAttnDrainEnd c s) := by simp [execAttnDrainEnd]
theorem queueTypesKept_execCableLowPower (c : CageId) : QueueTypesKept s (execCableLowPower c s) := by simp [execCableLowPower]
theorem queueTypesKept_execCageSafe (c : CageId) : QueueTypesKept s (execCageSafe c s) := by simp [execCageSafe]
theorem queueTypesKept_execKeyStuck (k : Fin 25) : QueueTypesKept s (execKeyStuck k s) := by simp [execKeyStuck]
theorem queueTypesKept_execKeyUnstuck (k : Fin 25) : QueueTypesKept s (execKeyUnstuck k s) := by simp [execKeyUnstuck]

theorem queueTypesKept_execSetEndpointId (bus : Fin 2) (op : Fin 4) (eid : Fin 256) :
    QueueTypesKept s (execSetEndpointId bus op eid s) := by simp [execSetEndpointId]

theorem queueTypesKept_execGetEndpointId (bus : Fin 2) : QueueTypesKept s (execGetEndpointId bus s) := by simp [execGetEndpointId]
theorem queueTypesKept_execGetEndpointUuid (bus : Fin 2) : QueueTypesKept s (execGetEndpointUuid bus s) := by simp [execGetEndpointUuid]

theorem queueTypesKept_execGetMctpVersionSupport (bus : Fin 2) (type : Fin 256) :
    QueueTypesKept s (execGetMctpVersionSupport bus type s) := by simp [execGetMctpVersionSupport]

theorem queueTypesKept_execGetMessageTypeSupport (bus : Fin 2) : QueueTypesKept s (execGetMessageTypeSupport bus s) := by simp [execGetMessageTypeSupport]

theorem queueTypesKept_execGetVdmSupport (bus : Fin 2) (selector : Fin 256) :
    QueueTypesKept s (execGetVdmSupport bus selector s) := by simp [execGetVdmSupport]

theorem queueTypesKept_execMctpBind (bus : Fin 2) (session : Option (Fin 65536)) (seq : Fin 256) (head : List Byte) (total : Nat) (off : Nat) (bytes : List Byte) :
    QueueTypesKept s (execMctpBind bus session seq head total off bytes s) := by simp [execMctpBind]

theorem queueTypesKept_execEventAck (bus : Fin 2) (seq : Fin 256) : QueueTypesKept s (execEventAck bus seq s) := by simp [execEventAck]

theorem queueTypesKept_execEventRepeat (seq : Fin 256) : QueueTypesKept s (execEventRepeat seq s) := by
  simp only [execEventRepeat]
  split <;> simp

theorem queueTypesKept_execCmisRead (r : Fin 16) (got : Option (List Byte)) :
    QueueTypesKept s (execCmisRead r got s) := by simp [execCmisRead]

theorem queueTypesKept_execMctpCmisRead (bus : Fin 2) (seq : Fin 256) (arg : W32) (n : Fin 256) (got : Option (List Byte)) :
    QueueTypesKept s (execMctpCmisRead bus seq arg n got s) := by simp [execMctpCmisRead]

theorem queueTypesKept_execSmbClkLowTimeout : QueueTypesKept s (execSmbClkLowTimeout s) := by simp [execSmbClkLowTimeout]
theorem queueTypesKept_execSecRandom (r : Fin 16) : QueueTypesKept s (execSecRandom r s) := by simp [execSecRandom]
theorem queueTypesKept_execSecSlotInfo (r : Fin 16) (ok : Bool) : QueueTypesKept s (execSecSlotInfo r ok s) := by simp [execSecSlotInfo]

theorem queueTypesKept_execSecSlotGenerate (r : Fin 16) (pulses : Fin 256) :
    QueueTypesKept s (execSecSlotGenerate r pulses s) := by simp [execSecSlotGenerate]

theorem queueTypesKept_execSecSlotImport (r : Fin 16) (ok : Bool) (pulses : Fin 256) :
    QueueTypesKept s (execSecSlotImport r ok pulses s) := by simp [execSecSlotImport]

theorem queueTypesKept_execSecSlotDestroy (r : Fin 16) (ok : Bool) (pulses : Fin 256) :
    QueueTypesKept s (execSecSlotDestroy r ok pulses s) := by simp [execSecSlotDestroy]

theorem queueTypesKept_execSecCerts (r : Fin 16) : QueueTypesKept s (execSecCerts r s) := by simp [execSecCerts]
theorem queueTypesKept_execSecNonce (r : Fin 16) : QueueTypesKept s (execSecNonce r s) := by simp [execSecNonce]

theorem queueTypesKept_execSecDebugToken (r : Fin 16) (sig : Bool) (nonce : Nat) :
    QueueTypesKept s (execSecDebugToken r sig nonce s) := by simp [execSecDebugToken]

theorem queueTypesKept_execSecDebugReturn (r : Fin 16) : QueueTypesKept s (execSecDebugReturn r s) := by
  refine queueTypesKept_next.2 (queue_types_cusReq s _ _ _ fun d t => ?_)
  (repeat' split) <;> simp

theorem queueTypesKept_execGlitch : QueueTypesKept s (execGlitch s) := by
  simp only [execGlitch]
  (repeat' split) <;> simp

theorem queueTypesKept_execEntropyStartupDone (pass : Bool) : QueueTypesKept s (execEntropyStartupDone pass s) := by simp [execEntropyStartupDone]
theorem queueTypesKept_execHealthTestFail : QueueTypesKept s (execHealthTestFail s) := by simp [execHealthTestFail]
theorem queueTypesKept_execRetestWaitEnd : QueueTypesKept s (execRetestWaitEnd s) := by simp [execRetestWaitEnd]
theorem queueTypesKept_execDrbgReseed : QueueTypesKept s (execDrbgReseed s) := by simp [execDrbgReseed]
theorem queueTypesKept_execAliasCertIssue : QueueTypesKept s (execAliasCertIssue s) := by simp [execAliasCertIssue]

theorem queueTypesKept_execLedgerEvent : QueueTypesKept s (execLedgerEvent s) := by
  simp only [execLedgerEvent]
  (repeat' split) <;> simp

theorem queueTypesKept_execLedgerRead (r : Fin 16) : QueueTypesKept s (execLedgerRead r s) := by simp [execLedgerRead]
theorem queueTypesKept_execLedgerClear (r : Fin 16) : QueueTypesKept s (execLedgerClear r s) := by simp [execLedgerClear]

theorem queueTypesKept_execControlPeriod (m : PeriodMeas) : QueueTypesKept s (execControlPeriod m s) := by
  simp only [execControlPeriod, queueTypesKept_next]
  (repeat' split) <;> simp

theorem queueTypesKept_execVoltageReached (k : ClusterId) : QueueTypesKept s (execVoltageReached k s) := by simp [execVoltageReached]
theorem queueTypesKept_execDroopTrip (k : ClusterId) : QueueTypesKept s (execDroopTrip k s) := by simp [execDroopTrip]
theorem queueTypesKept_execBackstopEntry : QueueTypesKept s (execBackstopEntry s) := by simp [execBackstopEntry]
theorem queueTypesKept_execBackstopPeriod (m : PeriodMeas) : QueueTypesKept s (execBackstopPeriod m s) := by simp [execBackstopPeriod]
theorem queueTypesKept_execPwrCap (mctp : Bool) (v : W32) : QueueTypesKept s (execPwrCap mctp v s) := by simp [execPwrCap]
theorem queueTypesKept_execPwrSlackClear (v : W32) : QueueTypesKept s (execPwrSlackClear v s) := by simp [execPwrSlackClear]
theorem queueTypesKept_execComputePartReset : QueueTypesKept s (execComputePartReset s) := by simp [execComputePartReset]
theorem queueTypesKept_execModuleWarmReset (mctp : Bool) : QueueTypesKept s (execModuleWarmReset mctp s) := by simp [execModuleWarmReset]
theorem queueTypesKept_execModuleHardReset (mctp : Bool) : QueueTypesKept s (execModuleHardReset mctp s) := by simp [execModuleHardReset]

theorem queueTypesKept_execSvcResetAck (mctp : Bool) : QueueTypesKept s (execSvcResetAck mctp s) := by
  simp only [execSvcResetAck]
  split <;> simp

theorem queueTypesKept_execResetNoticeExpiry : QueueTypesKept s (execResetNoticeExpiry s) := by
  simp only [execResetNoticeExpiry]
  split <;> simp

theorem queueTypesKept_execMgmtWatchdog : QueueTypesKept s (execMgmtWatchdog s) := by simp [execMgmtWatchdog]
theorem queueTypesKept_execThermalShutdown (sensor : Fin 65536) : QueueTypesKept s (execThermalShutdown sensor s) := by simp [execThermalShutdown]
theorem queueTypesKept_execSignalDetect (i : LinkId) : QueueTypesKept s (execSignalDetect i s) := by simp [execSignalDetect]

theorem queueTypesKept_execEqualiseDone (i : LinkId) (pol0 : Bool) (pol1 : Bool) :
    QueueTypesKept s (execEqualiseDone i pol0 pol1 s) := by simp [execEqualiseDone]

theorem queueTypesKept_execAlignLock (i : LinkId) (swap : Bool) : QueueTypesKept s (execAlignLock i swap s) := by simp [execAlignLock]

theorem queueTypesKept_execTrainingTimeout (i : LinkId) : QueueTypesKept s (execTrainingTimeout i s) := by
  simp only [execTrainingTimeout]
  split <;> simp

theorem queueTypesKept_execDetectRetry (i : LinkId) : QueueTypesKept s (execDetectRetry i s) := by simp [execDetectRetry]
theorem queueTypesKept_execNoSignalLane (i : LinkId) (lane : Fin 2) : QueueTypesKept s (execNoSignalLane i lane s) := by simp [execNoSignalLane]
theorem queueTypesKept_execQuarantineExit (i : LinkId) : QueueTypesKept s (execQuarantineExit i s) := by simp [execQuarantineExit]
theorem queueTypesKept_execLossOfLock (i : LinkId) : QueueTypesKept s (execLossOfLock i s) := by simp [execLossOfLock]
theorem queueTypesKept_execFecExcess (i : LinkId) : QueueTypesKept s (execFecExcess i s) := by simp [execFecExcess]
theorem queueTypesKept_execHelloSend (i : LinkId) : QueueTypesKept s (execHelloSend i s) := by simp [execHelloSend]
theorem queueTypesKept_execHello (i : LinkId) (h : Hello) (mac : W64) : QueueTypesKept s (execHello i h mac s) := by simp [execHello]
theorem queueTypesKept_execLnkExpect (i : LinkId) (v : W32) : QueueTypesKept s (execLnkExpect i v s) := by simp [execLnkExpect]
theorem queueTypesKept_execQuarClear (i : LinkId) : QueueTypesKept s (execQuarClear i s) := by simp [execQuarClear]
theorem queueTypesKept_execRetrain (i : LinkId) : QueueTypesKept s (execRetrain i s) := by simp [execRetrain]
theorem queueTypesKept_execQuarForce (i : LinkId) (on : Bool) : QueueTypesKept s (execQuarForce i on s) := by simp [execQuarForce]

theorem queueTypesKept_execEnable (i : LinkId) (on : Bool) : QueueTypesKept s (execEnable i on s) := by
  simp only [execEnable]
  (repeat' split) <;> simp

theorem queueTypesKept_execBundle (i : LinkId) (tag : BitVec 128) (corrected : Fin 256) (body : List Byte) :
    QueueTypesKept s (execBundle i tag corrected body s) := by
  simp only [execBundle]
  (repeat' split) <;> simp

theorem queueTypesKept_execUncorrectableFecCodeword (i : LinkId) :
    QueueTypesKept s (execUncorrectableFecCodeword i s) := by simp [execUncorrectableFecCodeword]

theorem queueTypesKept_execEpoch (i : LinkId) (active : W32) (staged : W32) (ready : Bool) (cctr : Fin (2 ^ 48)) (mac : W64) :
    QueueTypesKept s (execEpoch i active staged ready cctr mac s) := by simp [execEpoch]

theorem queueTypesKept_execCreditAck (i : LinkId) (payload : BitVec 128) (cctr : Fin (2 ^ 48)) (mac : W64) :
    QueueTypesKept s (execCreditAck i payload cctr mac s) := by simp [execCreditAck]

theorem queueTypesKept_execReplayReq (i : LinkId) (next : Fin 65536) (cctr : Fin (2 ^ 48)) (mac : W64) :
    QueueTypesKept s (execReplayReq i next cctr mac s) := by simp [execReplayReq]

theorem queueTypesKept_execReplayStart (i : LinkId) (first : Fin 65536) (ctr : Fin (2 ^ 48)) (cctr : Fin (2 ^ 48)) (mac : W64) :
    QueueTypesKept s (execReplayStart i first ctr cctr mac s) := by simp [execReplayStart]

theorem queueTypesKept_execIdle (i : LinkId) : QueueTypesKept s (execIdle i s) := by simp [execIdle]
theorem queueTypesKept_execCreditAckSend (i : LinkId) : QueueTypesKept s (execCreditAckSend i s) := by simp [execCreditAckSend]
theorem queueTypesKept_execEpochSend (i : LinkId) : QueueTypesKept s (execEpochSend i s) := by simp [execEpochSend]
theorem queueTypesKept_execReplayReqRepeat (i : LinkId) : QueueTypesKept s (execReplayReqRepeat i s) := by simp [execReplayReqRepeat]

theorem queueTypesKept_execFlitAged (i : LinkId) (n : Fin 65536) : QueueTypesKept s (execFlitAged i n s) := by
  simp only [execFlitAged]
  split <;> simp

theorem queueTypesKept_execCommit : QueueTypesKept s (execCommit s) := by simp [execCommit]
theorem queueTypesKept_execStageReady (on : Bool) : QueueTypesKept s (execStageReady on s) := by simp [execStageReady]
theorem queueTypesKept_execFabId (v : W32) : QueueTypesKept s (execFabId v s) := by simp [execFabId]
theorem queueTypesKept_execFabCntClear (v : W32) : QueueTypesKept s (execFabCntClear v s) := by simp [execFabCntClear]
theorem queueTypesKept_execRegionRekey (q : RegionId) : QueueTypesKept s (execRegionRekey q s) := by simp [execRegionRekey]

theorem queueTypesKept_execReencryptDone (q : RegionId) (bad : List Nat) (zeroed : Bool) :
    QueueTypesKept s (execReencryptDone q bad zeroed s) := by simp [execReencryptDone]

theorem queueTypesKept_execRekeyInit (i : LinkId) (m : RekeyMsg) (cctrs : List Nat) (macs : List Nat) :
    QueueTypesKept s (execRekeyInit i m cctrs macs s) := by
  refine queueTypesKept_next.2 (queue_types_rekeyWord s _ _ _ _ _ fun t => ?_)
  dsimp only
  (repeat' split) <;> simp

theorem queueTypesKept_execRekeyResp (i : LinkId) (m : RekeyMsg) (cctrs : List Nat) (macs : List Nat) :
    QueueTypesKept s (execRekeyResp i m cctrs macs s) := by
  refine queueTypesKept_next.2 (queue_types_rekeyWord s _ _ _ _ _ fun t => queue_types_takeRekey t _ _ _ _ _ fun x u => ?_)
  dsimp only
  split
  · split <;> simp
  · simp

theorem queueTypesKept_execRekeyCert (i : LinkId) (m : RekeyMsg) (chains : Bool) (debug : Bool) (cctrs : List Nat) (macs : List Nat) :
    QueueTypesKept s (execRekeyCert i m chains debug cctrs macs s) := by simp [execRekeyCert]

theorem queueTypesKept_execRekeySign (i : LinkId) (m : RekeyMsg) (ok : Bool) (cctrs : List Nat) (macs : List Nat) :
    QueueTypesKept s (execRekeySign i m ok cctrs macs s) := by simp [execRekeySign]

theorem queueTypesKept_execRekeyAck (i : LinkId) (xid : Fin 256) (msg : Fin 8) (cctr : Fin (2 ^ 48)) (mac : W64) :
    QueueTypesKept s (execRekeyAck i xid msg cctr mac s) := by
  refine queueTypesKept_next.2 (queue_types_rekeyWord s _ _ _ _ _ fun t => ?_)
  (repeat' split) <;> simp

theorem queueTypesKept_execRekeySwitch (i : LinkId) (xid : Fin 256) (epoch : W32) (cctr : Fin (2 ^ 48)) (mac : W64) :
    QueueTypesKept s (execRekeySwitch i xid epoch cctr mac s) := by simp [execRekeySwitch]

theorem queueTypesKept_execRekeyAbort (i : LinkId) (xid : Fin 256) (cctr : Fin (2 ^ 48)) (mac : W64) :
    QueueTypesKept s (execRekeyAbort i xid cctr mac s) := by
  refine queueTypesKept_next.2 (queue_types_rekeyWord s _ _ _ _ _ fun t => ?_)
  (repeat' split) <;> simp

theorem queueTypesKept_execRekeyResend (i : LinkId) : QueueTypesKept s (execRekeyResend i s) := by
  simp only [execRekeyResend]
  split <;> simp

theorem queueTypesKept_execRekeyTimeout (i : LinkId) : QueueTypesKept s (execRekeyTimeout i s) := by
  simp only [execRekeyTimeout]
  split <;> simp

theorem queueTypesKept_execKeyingRetry (i : LinkId) : QueueTypesKept s (execKeyingRetry i s) := by simp [execKeyingRetry]
theorem queueTypesKept_execRolloverStart (i : LinkId) : QueueTypesKept s (execRolloverStart i s) := by simp [execRolloverStart]
theorem queueTypesKept_execCounterStop (i : LinkId) : QueueTypesKept s (execCounterStop i s) := by simp [execCounterStop]
theorem queueTypesKept_execGetVersion (c : Fin 2) : QueueTypesKept s (execGetVersion c s) := by simp [execGetVersion]
theorem queueTypesKept_execGetCapabilities (c : Fin 2) : QueueTypesKept s (execGetCapabilities c s) := by simp [execGetCapabilities]

theorem queueTypesKept_execNegotiateAlgorithms (c : Fin 2) (common : Bool) :
    QueueTypesKept s (execNegotiateAlgorithms c common s) := by simp [execNegotiateAlgorithms]

theorem queueTypesKept_execGetDigests (c : Fin 2) : QueueTypesKept s (execGetDigests c s) := by simp [execGetDigests]

theorem queueTypesKept_execGetCertificate (c : Fin 2) (slot : Fin 8) (off : Fin 65536) (len : Fin 65536) :
    QueueTypesKept s (execGetCertificate c slot off len s) := by simp [execGetCertificate]

theorem queueTypesKept_execChallenge (c : Fin 2) (nonce : Fin (2 ^ 256)) :
    QueueTypesKept s (execChallenge c nonce s) := by simp [execChallenge]

theorem queueTypesKept_execGetMeasurements (c : Fin 2) (k : Fin 256) (sign : Bool) :
    QueueTypesKept s (execGetMeasurements c k sign s) := by simp [execGetMeasurements]

theorem queueTypesKept_execKeyExchange (c : Fin 2) (hybrid : Bool) : QueueTypesKept s (execKeyExchange c hybrid s) := by simp [execKeyExchange]

theorem queueTypesKept_execFinish (c : Fin 2) (id : Fin 65536) (ok : Bool) : QueueTypesKept s (execFinish c id ok s) := by
  refine queueTypesKept_next.2 (queue_types_spdmAt s _ _ _ fun t => ?_)
  (repeat' split) <;> simp

theorem queueTypesKept_execHeartbeat (c : Fin 2) (id : Fin 65536) : QueueTypesKept s (execHeartbeat c id s) := by simp [execHeartbeat]
theorem queueTypesKept_execHeartbeatMissed (id : Fin 65536) : QueueTypesKept s (execHeartbeatMissed id s) := by simp [execHeartbeatMissed]
theorem queueTypesKept_execKeyUpdate (c : Fin 2) (id : Fin 65536) : QueueTypesKept s (execKeyUpdate c id s) := by simp [execKeyUpdate]
theorem queueTypesKept_execEndSession (c : Fin 2) (id : Fin 65536) : QueueTypesKept s (execEndSession c id s) := by simp [execEndSession]

theorem queueTypesKept_execChunkSend (c : Fin 2) (last : Bool) (bytes : List Byte) :
    QueueTypesKept s (execChunkSend c last bytes s) := by simp [execChunkSend]

theorem queueTypesKept_execChunkGet (c : Fin 2) (n : Fin 65536) : QueueTypesKept s (execChunkGet c n s) := by simp [execChunkGet]

theorem queueTypesKept_execGetMlChain (c : Fin 2) (off : W32) (len : Fin 65536) :
    QueueTypesKept s (execGetMlChain c off len s) := by simp [execGetMlChain]

theorem queueTypesKept_execGetProvenance (c : Fin 2) (comp : W32) (nonce : Fin (2 ^ 256)) :
    QueueTypesKept s (execGetProvenance c comp nonce s) := by simp [execGetProvenance]

theorem queueTypesKept_execGetPqSig (c : Fin 2) : QueueTypesKept s (execGetPqSig c s) := by
  refine queueTypesKept_next.2 (queue_types_spdmAt s _ _ _ fun t => ?_)
  (repeat' split) <;> simp

theorem queueTypesKept_execOpenTenant (c : Fin 2) (id : Fin 65536) (comp : W32) :
    QueueTypesKept s (execOpenTenant c id comp s) := by
  refine queueTypesKept_next.2 (queue_types_spdmAt s _ _ _ fun t => ?_)
  (repeat' split) <;> simp

theorem queueTypesKept_execDeliverKey (c : Fin 2) (id : Fin 65536) (h : Fin 256) (wrapped : List Byte) :
    QueueTypesKept s (execDeliverKey c id h wrapped s) := by
  refine queueTypesKept_next.2 (queue_types_inTenant s _ _ _ _ fun _ _ t => ?_)
  (repeat' split) <;> simp

theorem queueTypesKept_execDropKey (c : Fin 2) (id : Fin 65536) (h : Fin 256) :
    QueueTypesKept s (execDropKey c id h s) := by simp [execDropKey]

theorem queueTypesKept_execCloseTenant (c : Fin 2) (id : Fin 65536) : QueueTypesKept s (execCloseTenant c id s) := by simp [execCloseTenant]

theorem queueTypesKept_execUnseal (c : Fin 2) (id : Fin 65536) (h : Fin 256) (va : W64) (hash : Fin (2 ^ 384)) :
    QueueTypesKept s (execUnseal c id h va hash s) := by
  refine queueTypesKept_next.2 (queue_types_inTenant s _ _ _ _ fun _ _ t => ?_)
  (repeat' split) <;> simp

theorem queueTypesKept_execSeal (c : Fin 2) (id : Fin 65536) (h : Fin 256) (va : W64) (chunks : W32) (last : W32) (label : W64) (secrets : List (List Byte)) :
    QueueTypesKept s (execSeal c id h va chunks last label secrets s) := by
  refine queueTypesKept_next.2 (queue_types_inTenant s _ _ _ _ fun _ _ t => ?_)
  (repeat' split) <;> simp

theorem queueTypesKept_execSealConsentExpiry (p : PartId) : QueueTypesKept s (execSealConsentExpiry p s) := by simp [execSealConsentExpiry]

theorem queueTypesKept_execGetTdispVersion (id : Fin 65536) (v : FnId) :
    QueueTypesKept s (execGetTdispVersion id v s) := by simp [execGetTdispVersion]

theorem queueTypesKept_execGetTdispCapabilities (id : Fin 65536) (v : FnId) :
    QueueTypesKept s (execGetTdispCapabilities id v s) := by simp [execGetTdispCapabilities]

theorem queueTypesKept_execLockInterfaceRequest (id : Fin 65536) (v : FnId) :
    QueueTypesKept s (execLockInterfaceRequest id v s) := by simp [execLockInterfaceRequest]

theorem queueTypesKept_execGetDeviceInterfaceReport (id : Fin 65536) (v : FnId) :
    QueueTypesKept s (execGetDeviceInterfaceReport id v s) := by simp [execGetDeviceInterfaceReport]

theorem queueTypesKept_execGetDeviceInterfaceState (id : Fin 65536) (v : FnId) :
    QueueTypesKept s (execGetDeviceInterfaceState id v s) := by simp [execGetDeviceInterfaceState]

theorem queueTypesKept_execStartInterfaceRequest (id : Fin 65536) (v : FnId) (nonce : Fin (2 ^ 256)) :
    QueueTypesKept s (execStartInterfaceRequest id v nonce s) := by simp [execStartInterfaceRequest]

theorem queueTypesKept_execStopInterfaceRequest (id : Fin 65536) (v : FnId) :
    QueueTypesKept s (execStopInterfaceRequest id v s) := by simp [execStopInterfaceRequest]

theorem queueTypesKept_execFwStage (r : Fin 16) (ok : Bool) : QueueTypesKept s (execFwStage r ok s) := by simp [execFwStage]

theorem queueTypesKept_execNorEraseTimeout (sector : Fin 65536) : QueueTypesKept s (execNorEraseTimeout sector s) := by
  simp only [execNorEraseTimeout]
  split <;> simp

theorem queueTypesKept_execFwCancel (r : Fin 16) : QueueTypesKept s (execFwCancel r s) := by simp [execFwCancel]

theorem queueTypesKept_execFwActivate (r : Fin 16) (sig : Bool) (payload : Bool) :
    QueueTypesKept s (execFwActivate r sig payload s) := by simp [execFwActivate]

theorem queueTypesKept_execMicrocodeReadyTimeout (i : LinkId) : QueueTypesKept s (execMicrocodeReadyTimeout i s) := by
  simp only [execMicrocodeReadyTimeout]
  split <;> simp

theorem queueTypesKept_execRecoveryExit : QueueTypesKept s (execRecoveryExit s) := by
  simp only [execRecoveryExit]
  split <;> simp

theorem queueTypesKept_execQueryDeviceIdentifiers (bus : Fin 2) :
    QueueTypesKept s (execQueryDeviceIdentifiers bus s) := by
  refine queueTypesKept_pldmReq s _ _ fun t => ?_
  simp

theorem queueTypesKept_execGetFirmwareParameters (bus : Fin 2) : QueueTypesKept s (execGetFirmwareParameters bus s) := by
  refine queueTypesKept_pldmReq s _ _ fun t => ?_
  simp

theorem queueTypesKept_execRequestUpdate (bus : Fin 2) (maxSize : W32) :
    QueueTypesKept s (execRequestUpdate bus maxSize s) := by
  refine queueTypesKept_pldmReq s _ _ fun t => ?_
  split <;> simp

theorem queueTypesKept_execPassComponentTable (bus : Fin 2) (id : Fin 65536) (last : Bool) :
    QueueTypesKept s (execPassComponentTable bus id last s) := by
  refine queueTypesKept_pldmIn s _ _ _ _ fun t => ?_
  (repeat' split) <;> simp

theorem queueTypesKept_execUpdateComponent (bus : Fin 2) (id : Fin 65536) (len : W32) :
    QueueTypesKept s (execUpdateComponent bus id len s) := by
  refine queueTypesKept_pldmIn s _ _ _ _ fun t => ?_
  simp

theorem queueTypesKept_execFirmwareData (bs : List Byte) : QueueTypesKept s (execFirmwareData bs s) := by
  simp only [execFirmwareData]
  split <;> simp

theorem queueTypesKept_execTransferComplete : QueueTypesKept s (execTransferComplete s) := by simp [execTransferComplete]
theorem queueTypesKept_execVerifyComplete : QueueTypesKept s (execVerifyComplete s) := by simp [execVerifyComplete]
theorem queueTypesKept_execApplyComplete : QueueTypesKept s (execApplyComplete s) := by simp [execApplyComplete]

theorem queueTypesKept_execActivateFirmware (bus : Fin 2) (selfContained : Bool) (sig : Bool) (payload : Bool) :
    QueueTypesKept s (execActivateFirmware bus selfContained sig payload s) := by
  refine queueTypesKept_pldmIn s _ _ _ _ fun t => ?_
  (repeat' split) <;> simp

theorem queueTypesKept_execGetStatus (bus : Fin 2) : QueueTypesKept s (execGetStatus bus s) := by
  refine queueTypesKept_pldmReq s _ _ fun t => ?_
  simp

theorem queueTypesKept_execCancelUpdateComponent (bus : Fin 2) : QueueTypesKept s (execCancelUpdateComponent bus s) := by
  refine queueTypesKept_pldmIn s _ _ _ _ fun t => ?_
  simp

theorem queueTypesKept_execCancelUpdate (bus : Fin 2) : QueueTypesKept s (execCancelUpdate bus s) := by
  refine queueTypesKept_pldmIn s _ _ _ _ fun t => ?_
  simp

theorem queueTypesKept_execDfuDownload (alt : Fin 4) (bs : List Byte) (first : Bool) (last : Bool) :
    QueueTypesKept s (execDfuDownload alt bs first last s) := by simp [execDfuDownload]

theorem queueTypesKept_execDfuUpload (alt : Fin 4) : QueueTypesKept s (execDfuUpload alt s) := by simp [execDfuUpload]

theorem queueTypesKept_execUsbDisconnection : QueueTypesKept s (execUsbDisconnection s) := by
  simp only [execUsbDisconnection]
  split <;> simp

theorem queueTypesKept_execNop (c : CoreId) (_w : StepWord) : QueueTypesKept s (execNop c _w s) := by simp [execNop]
theorem queueTypesKept_execEnd (c : CoreId) (_w : StepWord) : QueueTypesKept s (execEnd c _w s) := by simp [execEnd]
theorem queueTypesKept_execLoop (c : CoreId) (w : StepWord) : QueueTypesKept s (execLoop c w s) := by simp [execLoop]
theorem queueTypesKept_execVsel (c : CoreId) (w : StepWord) : QueueTypesKept s (execVsel c w s) := by simp [execVsel]

theorem queueTypesKept_execPhase (c : CoreId) (w : StepWord) : QueueTypesKept s (execPhase c w s) := by
  refine queueTypesKept_next.2 (queue_types_front s _ _ fun k => ?_)
  dsimp only
  split
  · split <;> simp
  · simp

theorem queueTypesKept_execRebind (c : CoreId) (_w : StepWord) : QueueTypesKept s (execRebind c _w s) := by simp [execRebind]
theorem queueTypesKept_execFence (c : CoreId) (w : StepWord) : QueueTypesKept s (execFence c w s) := by simp [execFence]

theorem queueTypesKept_execQueueStepCompleted (c : CoreId) (q : StepEnd) :
    QueueTypesKept s (execQueueStepCompleted c q s) := by
  simp only [execQueueStepCompleted]
  (repeat' split) <;> simp

theorem queueTypesKept_execBindReserve (from_ : BindFrom) : QueueTypesKept s (execBindReserve from_ s) := by
  refine queueTypesKept_next.2 ?_
  split
  · exact ⟨rfl, rfl⟩
  · refine queue_types_bindGo s _ _ _ fun _ _ _ _ t => ?_
    dsimp only
    (repeat' split) <;> simp

theorem queueTypesKept_execPrepare (env : List Byte) : QueueTypesKept s (execPrepare env s) := by
  simp only [execPrepare]
  (repeat' split) <;> simp

theorem queueTypesKept_execBindDissolve (from_ : BindFrom) : QueueTypesKept s (execBindDissolve from_ s) := by
  refine queueTypesKept_next.2 ?_
  split
  · exact ⟨rfl, rfl⟩
  · refine queue_types_bindGo s _ _ _ fun _ _ _ _ t => ?_
    (repeat' split) <;> simp

theorem queueTypesKept_execDissolve (p : PartId) : QueueTypesKept s (execDissolve p s) := by simp [execDissolve]

theorem queueTypesKept_execRegionClearDone (q : RegionId) (zeroised : Bool) :
    QueueTypesKept s (execRegionClearDone q zeroised s) := by simp [execRegionClearDone]

theorem queueTypesKept_execBindSeal (from_ : BindFrom) (plan : PlaceSpec) :
    QueueTypesKept s (execBindSeal from_ plan s) := by
  refine queueTypesKept_next.2 ?_
  split
  · exact ⟨rfl, rfl⟩
  · refine queue_types_bindGo s _ _ _ fun _ _ _ _ t => ?_
    (repeat' split) <;> simp

theorem queueTypesKept_execPlace (p : PartId) (plan : PlaceSpec) : QueueTypesKept s (execPlace p plan s) := by
  simp only [execPlace]
  (repeat' split) <;> simp

theorem queueTypesKept_execCuratorSeal (p : PartId) (cat : List Byte) : QueueTypesKept s (execCuratorSeal p cat s) := by simp [execCuratorSeal]

theorem queueTypesKept_execBindRebind (from_ : BindFrom) : QueueTypesKept s (execBindRebind from_ s) := by
  refine queueTypesKept_next.2 ?_
  split
  · exact ⟨rfl, rfl⟩
  · refine queue_types_bindGo s _ _ _ fun _ _ _ _ t => ?_
    (repeat' split) <;> simp

theorem queueTypesKept_execRebindRequest (p : PartId) : QueueTypesKept s (execRebindRequest p s) := by
  simp only [execRebindRequest]
  (repeat' split) <;> simp

theorem queueTypesKept_execRebindPlanDone (p : PartId) (result : Fin 16) (plan : PlaceSpec) :
    QueueTypesKept s (execRebindPlanDone p result plan s) := by
  simp only [execRebindPlanDone]
  (repeat' split) <;> simp

theorem queueTypesKept_execResume (p : PartId) : QueueTypesKept s (execResume p s) := by
  simp only [execResume]
  (repeat' split) <;> simp

theorem queueTypesKept_execBindEnvelopeUpdate (from_ : BindFrom) : QueueTypesKept s (execBindEnvelopeUpdate from_ s) := by
  refine queueTypesKept_next.2 ?_
  split
  · exact ⟨rfl, rfl⟩
  · refine queue_types_bindGo s _ _ _ fun _ _ _ _ t => ?_
    dsimp only
    (repeat' split) <;> simp

theorem queueTypesKept_execMemberReport (p : PartId) (fid : Fin 16384) (rep : Report) :
    QueueTypesKept s (execMemberReport p fid rep s) := by
  simp only [execMemberReport]
  (repeat' split) <;> simp

theorem queueTypesKept_execMemberTimeout (p : PartId) : QueueTypesKept s (execMemberTimeout p s) := by
  simp only [execMemberTimeout]
  split <;> simp

theorem queueTypesKept_execCuratorMessageRetry (p : PartId) (fid : Fin 16384) :
    QueueTypesKept s (execCuratorMessageRetry p fid s) := by
  simp only [execCuratorMessageRetry]
  split <;> simp

theorem queueTypesKept_execCompositionReset (p : PartId) (cause : ResetCause) :
    QueueTypesKept s (execCompositionReset p cause s) := by
  simp only [execCompositionReset]
  (repeat' split) <;> simp

theorem queueTypesKept_execSwitchInRequest (p : PartId) (at_ : W64) : QueueTypesKept s (execSwitchInRequest p at_ s) := by simp [execSwitchInRequest]
theorem queueTypesKept_execQuantumExpiry (p : PartId) : QueueTypesKept s (execQuantumExpiry p s) := by simp [execQuantumExpiry]

theorem queueTypesKept_execLaunchComplete (p : PartId) : QueueTypesKept s (execLaunchComplete p s) := by
  simp only [execLaunchComplete]
  (repeat' split) <;> simp

theorem queueTypesKept_execCmpPoolAdd (v : W32) : QueueTypesKept s (execCmpPoolAdd v s) := by simp [execCmpPoolAdd]
theorem queueTypesKept_execCmpPoolRemove (v : W32) : QueueTypesKept s (execCmpPoolRemove v s) := by simp [execCmpPoolRemove]
theorem queueTypesKept_execDcInputRise (absent : Nat) : QueueTypesKept s (execDcInputRise absent s) := by simp [execDcInputRise]
theorem queueTypesKept_execBulkCharged : QueueTypesKept s (execBulkCharged s) := by simp [execBulkCharged]
theorem queueTypesKept_execBulkChargeTimeout : QueueTypesKept s (execBulkChargeTimeout s) := by simp [execBulkChargeTimeout]
theorem queueTypesKept_execHotSwapRetry : QueueTypesKept s (execHotSwapRetry s) := by simp [execHotSwapRetry]
theorem queueTypesKept_execUndervoltage (mv : Fin 65536) : QueueTypesKept s (execUndervoltage mv s) := by simp [execUndervoltage]
theorem queueTypesKept_execUndervoltageCleared : QueueTypesKept s (execUndervoltageCleared s) := by simp [execUndervoltageCleared]
theorem queueTypesKept_execBrownOut : QueueTypesKept s (execBrownOut s) := by simp [execBrownOut]
theorem queueTypesKept_execOvervoltage : QueueTypesKept s (execOvervoltage s) := by simp [execOvervoltage]
theorem queueTypesKept_execOvervoltReclose : QueueTypesKept s (execOvervoltReclose s) := by simp [execOvervoltReclose]
theorem queueTypesKept_execInputReversal : QueueTypesKept s (execInputReversal s) := by simp [execInputReversal]
theorem queueTypesKept_execButtonRelease (ms : Nat) : QueueTypesKept s (execButtonRelease ms s) := by simp [execButtonRelease]
theorem queueTypesKept_execButtonHold8s (up : Nat) : QueueTypesKept s (execButtonHold8s up s) := by simp [execButtonHold8s]
theorem queueTypesKept_execButtonStuck : QueueTypesKept s (execButtonStuck s) := by simp [execButtonStuck]
theorem queueTypesKept_execButtonUnstuck : QueueTypesKept s (execButtonUnstuck s) := by simp [execButtonUnstuck]
theorem queueTypesKept_execLocateTouch : QueueTypesKept s (execLocateTouch s) := by simp [execLocateTouch]
theorem queueTypesKept_execSvcLocate (mctp : Bool) (v : W32) : QueueTypesKept s (execSvcLocate mctp v s) := by simp [execSvcLocate]
theorem queueTypesKept_execLocateTimeout : QueueTypesKept s (execLocateTimeout s) := by simp [execLocateTimeout]
theorem queueTypesKept_execCellInserted (mv : Fin 65536) : QueueTypesKept s (execCellInserted mv s) := by simp [execCellInserted]
theorem queueTypesKept_execCellSettled (mv : Fin 65536) : QueueTypesKept s (execCellSettled mv s) := by simp [execCellSettled]
theorem queueTypesKept_execCellRemoved : QueueTypesKept s (execCellRemoved s) := by simp [execCellRemoved]
theorem queueTypesKept_execCellReversed : QueueTypesKept s (execCellReversed s) := by simp [execCellReversed]
theorem queueTypesKept_execCellFull (mv : Fin 65536) : QueueTypesKept s (execCellFull mv s) := by simp [execCellFull]
theorem queueTypesKept_execCellRecharge (mv : Fin 65536) : QueueTypesKept s (execCellRecharge mv s) := by simp [execCellRecharge]

theorem queueTypesKept_execCellFault (mv : Fin 65536) : QueueTypesKept s (execCellFault mv s) := by
  simp only [execCellFault]
  split <;> simp

theorem queueTypesKept_execCellVoltageThreshold (mv : Fin 65536) : QueueTypesKept s (execCellVoltageThreshold mv s) := by
  simp only [execCellVoltageThreshold]
  split <;> simp

theorem queueTypesKept_execChargeEn (mctp : Bool) (on : Bool) : QueueTypesKept s (execChargeEn mctp on s) := by
  simp only [execChargeEn]
  (repeat' split) <;> simp

theorem queueTypesKept_execIslandPowerLoss : QueueTypesKept s (execIslandPowerLoss s) := by simp [execIslandPowerLoss]
theorem queueTypesKept_execSvcRtcSet (mctp : Bool) (v : W64) : QueueTypesKept s (execSvcRtcSet mctp v s) := by simp [execSvcRtcSet]
theorem queueTypesKept_execTamperEvent (plate : Bool) : QueueTypesKept s (execTamperEvent plate s) := by simp [execTamperEvent]
theorem queueTypesKept_execFabTsCtrl (v : W32) : QueueTypesKept s (execFabTsCtrl v s) := by simp [execFabTsCtrl]
theorem queueTypesKept_execFabTsSet (v : W64) : QueueTypesKept s (execFabTsSet v s) := by simp [execFabTsSet]
theorem queueTypesKept_execTimeSend (i : LinkId) (frac : Fin 16) : QueueTypesKept s (execTimeSend i frac s) := by simp [execTimeSend]

theorem queueTypesKept_execTime (i : LinkId) (payload : BitVec 128) (frac : Fin 16) (cctr : Fin (2 ^ 48)) (mac : W64) :
    QueueTypesKept s (execTime i payload frac cctr mac s) := by simp [execTime]

theorem queueTypesKept_execTimeLock : QueueTypesKept s (execTimeLock s) := by simp [execTimeLock]
theorem queueTypesKept_execHoldoverEntry : QueueTypesKept s (execHoldoverEntry s) := by simp [execHoldoverEntry]
theorem queueTypesKept_execHoldoverExpiry : QueueTypesKept s (execHoldoverExpiry s) := by simp [execHoldoverExpiry]
theorem queueTypesKept_execRootConflictClear : QueueTypesKept s (execRootConflictClear s) := by simp [execRootConflictClear]
theorem queueTypesKept_execTimestampDistribute : QueueTypesKept s (execTimestampDistribute s) := by simp [execTimestampDistribute]

theorem queueTypesKept_execWalkEnd (m : EngPort) (p : PartId) (va : Fin 4503599627370496) (write : Bool) (hostErr : Bool) :
    QueueTypesKept s (execWalkEnd m p va write hostErr s) := by simp [execWalkEnd]

theorem queueTypesKept_execXltInvCmd (p : PartId) (cmd : W64) (viaVf : Bool) :
    QueueTypesKept s (execXltInvCmd p cmd viaVf s) := by simp [execXltInvCmd]

theorem queueTypesKept_execInvalidationDone (p : PartId) : QueueTypesKept s (execInvalidationDone p s) := by
  simp only [execInvalidationDone]
  split <;> simp

theorem queueTypesKept_execXltInvStatRead (p : PartId) : QueueTypesKept s (execXltInvStatRead p s) := by simp [execXltInvStatRead]

theorem queueTypesKept_execAtsInvalidationRequest (fn : FnId) (iova : W64) (size : W64) :
    QueueTypesKept s (execAtsInvalidationRequest fn iova size s) := by simp [execAtsInvalidationRequest]

theorem queueTypesKept_execAtsTranslationCompletion (fn : FnId) (iova : W64) (size : W64) (target : W64) (ok : Bool) :
    QueueTypesKept s (execAtsTranslationCompletion fn iova size target ok s) := by simp [execAtsTranslationCompletion]

theorem queueTypesKept_execRegRead (bus : Fin 2) (seq : Fin 256) (block : Fin 256) (off : W32) (count : Fin 256) :
    QueueTypesKept s (execRegRead bus seq block off count s) := by simp [execRegRead]

theorem queueTypesKept_execVfma (c : CoreId) (w : StepWord) : QueueTypesKept s (execVfma c w s) := by simp [execVfma]
theorem queueTypesKept_execVadd (c : CoreId) (w : StepWord) : QueueTypesKept s (execVadd c w s) := by simp [execVadd]
theorem queueTypesKept_execVsub (c : CoreId) (w : StepWord) : QueueTypesKept s (execVsub c w s) := by simp [execVsub]
theorem queueTypesKept_execVmul (c : CoreId) (w : StepWord) : QueueTypesKept s (execVmul c w s) := by simp [execVmul]
theorem queueTypesKept_execVneg (c : CoreId) (w : StepWord) : QueueTypesKept s (execVneg c w s) := by simp [execVneg]
theorem queueTypesKept_execVabs (c : CoreId) (w : StepWord) : QueueTypesKept s (execVabs c w s) := by simp [execVabs]
theorem queueTypesKept_execVmin (c : CoreId) (w : StepWord) : QueueTypesKept s (execVmin c w s) := by simp [execVmin]
theorem queueTypesKept_execVmax (c : CoreId) (w : StepWord) : QueueTypesKept s (execVmax c w s) := by simp [execVmax]
theorem queueTypesKept_execVcmp (c : CoreId) (w : StepWord) : QueueTypesKept s (execVcmp c w s) := by simp [execVcmp]
theorem queueTypesKept_execVselect (c : CoreId) (w : StepWord) : QueueTypesKept s (execVselect c w s) := by simp [execVselect]
theorem queueTypesKept_execVint (c : CoreId) (w : StepWord) : QueueTypesKept s (execVint c w s) := by simp [execVint]

theorem queueTypesKept_execVred (c : CoreId) (w : StepWord) : QueueTypesKept s (execVred c w s) :=
  queueTypesKept_next.2 (queue_types_vxStep ..)

theorem queueTypesKept_execVperm (c : CoreId) (w : StepWord) : QueueTypesKept s (execVperm c w s) :=
  queueTypesKept_next.2 (queue_types_vxStep ..)

theorem queueTypesKept_execVld (c : CoreId) (w : StepWord) (upset : Option (Fin 1048576)) :
    QueueTypesKept s (execVld c w upset s) := by simp [execVld]

theorem queueTypesKept_execVst (c : CoreId) (w : StepWord) : QueueTypesKept s (execVst c w s) := by simp [execVst]
theorem queueTypesKept_execVtrn (c : CoreId) (w : StepWord) : QueueTypesKept s (execVtrn c w s) := by simp [execVtrn]
theorem queueTypesKept_execSetsel (c : CoreId) (w : StepWord) : QueueTypesKept s (execSetsel c w s) := by simp [execSetsel]

theorem queueTypesKept_execVimm (c : CoreId) (w : StepWord) : QueueTypesKept s (execVimm c w s) :=
  queueTypesKept_next.2 (queue_types_vxStep ..)

theorem queueTypesKept_execVcvt (c : CoreId) (w : StepWord) : QueueTypesKept s (execVcvt c w s) := by
  refine queueTypesKept_next.2 (queue_types_issue s _ _ _ fun t => ?_)
  (repeat' split) <;> simp

end

end Sys2Proof.Laws
end

section
/-! PROOFS. Writes of registers, which run commands, and the firmware floors: no step lowers one (spec/20: R551). -/
namespace Sys2Proof.Laws

open Machine

section

variable (s : State)

theorem queue_types_stateOf {o : Out} (h : QueueTypesKept s o) :
    (stateOf s o).pending = s.pending ∧ (stateOf s o).fw.types = s.fw.types := by
  cases o with
  | next t => exact h t rfl
  | fault f => exact ⟨rfl, rfl⟩
  | refused r => exact ⟨rfl, rfl⟩

@[simp] theorem queue_types_writeHif (f b i k v m : Nat) :
    (s.writeHif f b i k v m).pending = s.pending ∧ (s.writeHif f b i k v m).fw.types = s.fw.types := by
  simp [State.writeHif, queue_types_stateOf, queueTypesKept_execHifSqCfg, queueTypesKept_execHifCqCfg]

@[simp] theorem queue_types_writeCmp (b i k v m : Nat) :
    (s.writeCmp b i k v m).pending = s.pending ∧ (s.writeCmp b i k v m).fw.types = s.fw.types := by
  simp [State.writeCmp, queue_types_stateOf, queueTypesKept_execRebindRequest, queueTypesKept_execCmpPoolAdd,
    queueTypesKept_execCmpPoolRemove]

@[simp] theorem queue_types_writeXlt (vf : Bool) (b i k v m : Nat) :
    (s.writeXlt vf b i k v m).pending = s.pending ∧ (s.writeXlt vf b i k v m).fw.types = s.fw.types := by
  simp [State.writeXlt, queue_types_stateOf, queueTypesKept_execXltInvCmd]

@[simp] theorem queue_types_writeRteCtrl (v : Nat) :
    (s.writeRteCtrl v).pending = s.pending ∧ (s.writeRteCtrl v).fw.types = s.fw.types := by
  simp [State.writeRteCtrl, queue_types_stateOf, queueTypesKept_execStageReady, queueTypesKept_execCommit]

@[simp] theorem queue_types_writeFab (b i j k v m : Nat) :
    (s.writeFab b i j k v m).pending = s.pending ∧ (s.writeFab b i j k v m).fw.types = s.fw.types := by
  simp [State.writeFab, queue_types_stateOf, queueTypesKept_execFabId, queueTypesKept_execFabCntClear,
    queueTypesKept_execFabTsCtrl, queueTypesKept_execFabTsSet]

@[simp] theorem queue_types_writeLnkCtrl (i v : Nat) :
    (s.writeLnkCtrl i v).pending = s.pending ∧ (s.writeLnkCtrl i v).fw.types = s.fw.types := by
  simp [State.writeLnkCtrl, queue_types_stateOf, queueTypesKept_execQuarForce, queueTypesKept_execEnable,
    queueTypesKept_execQuarClear, queueTypesKept_execRetrain]

@[simp] theorem queue_types_writeLnk (b i v : Nat) :
    (s.writeLnk b i v).pending = s.pending ∧ (s.writeLnk b i v).fw.types = s.fw.types := by
  simp [State.writeLnk, queue_types_stateOf, queueTypesKept_execLnkExpect]

@[simp] theorem queue_types_writeDbg (f p v : Nat) :
    (s.writeDbg f p v).pending = s.pending ∧ (s.writeDbg f p v).fw.types = s.fw.types := by
  simp [State.writeDbg, queue_types_stateOf, queueTypesKept_execDbgSet, queueTypesKept_execDbgAdd,
    queueTypesKept_execDbgRelease, queueTypesKept_execDbgClearFault]

@[simp] theorem queue_types_writeSyn (f b i k v m : Nat) :
    (s.writeSyn f b i k v m).pending = s.pending ∧ (s.writeSyn f b i k v m).fw.types = s.fw.types := by
  simp [State.writeSyn, queue_types_stateOf, queueTypesKept_execStateDump]

@[simp] theorem queue_types_writePwr (mctp : Bool) (b k v m : Nat) :
    (s.writePwr mctp b k v m).pending = s.pending ∧ (s.writePwr mctp b k v m).fw.types = s.fw.types := by
  simp [State.writePwr, queue_types_stateOf, queueTypesKept_execPwrCap, queueTypesKept_execPwrSlackClear]

@[simp] theorem queue_types_writeErr (b i k v m : Nat) :
    (s.writeErr b i k v m).pending = s.pending ∧ (s.writeErr b i k v m).fw.types = s.fw.types := by
  simp [State.writeErr, queue_types_stateOf, queueTypesKept_execSample, queueTypesKept_execCompReset,
    queueTypesKept_execErrCtxReset]

@[simp] theorem queue_types_writeCage (c v : Nat) :
    (s.writeCage c v).pending = s.pending ∧ (s.writeCage c v).fw.types = s.fw.types := by
  simp [State.writeCage, queue_types_stateOf, queueTypesKept_execPowerEn, queueTypesKept_execLatchClr,
    queueTypesKept_execAttnReq, queueTypesKept_execRelease, queueTypesKept_execCancel]

@[simp] theorem queue_types_writeResetCmd (mctp : Bool) (v : Nat) :
    (s.writeResetCmd mctp v).pending = s.pending ∧ (s.writeResetCmd mctp v).fw.types = s.fw.types := by
  simp [State.writeResetCmd, queue_types_stateOf, queueTypesKept_execComputePartReset, queueTypesKept_execModuleWarmReset,
    queueTypesKept_execModuleHardReset]

@[simp] theorem queue_types_writeSvc (mctp : Bool) (b i k v m : Nat) :
    (s.writeSvc mctp b i k v m).pending = s.pending ∧ (s.writeSvc mctp b i k v m).fw.types = s.fw.types := by
  simp [State.writeSvc, queue_types_stateOf, queueTypesKept_execSvcLocate, queueTypesKept_execChargeEn,
    queueTypesKept_execSvcRtcSet, queueTypesKept_execSvcResetAck]

@[simp] theorem queue_types_writeRow (via : Via) (r : RegRow) (i j a v : Nat) :
    (s.writeRow via r i j a v).pending = s.pending ∧ (s.writeRow via r i j a v).fw.types = s.fw.types := by
  simp only [State.writeRow]
  split
  · exact ⟨rfl, rfl⟩
  · split
    · simp
    · split <;> simp

@[simp] theorem queue_types_writeAt (via : Via) (r : RegRow) (i j a v : Nat) :
    (s.writeAt via r i j a v).pending = s.pending ∧ (s.writeAt via r i j a v).fw.types = s.fw.types := by
  simp [State.writeAt]

@[simp] theorem queue_types_writeWord (via : Via) (a v : Nat) :
    (s.writeWord via a v).pending = s.pending ∧ (s.writeWord via a v).fw.types = s.fw.types := by
  simp only [State.writeWord]
  (repeat' split) <;> simp

@[simp] theorem queue_types_writeWide (via : Via) (a v : Nat) :
    (s.writeWide via a v).pending = s.pending ∧ (s.writeWide via a v).fw.types = s.fw.types := by
  simp only [State.writeWide]
  split <;> simp

@[simp] theorem queue_types_writeWords (a : Nat) (ws : List W32) :
    (s.writeWords a ws).pending = s.pending ∧ (s.writeWords a ws).fw.types = s.fw.types := by
  fun_induction State.writeWords s a ws <;> simp_all

@[simp] theorem queue_types_mbServe (v : FnId) :
    (s.mbServe v).pending = s.pending ∧ (s.mbServe v).fw.types = s.fw.types := by
  simp only [State.mbServe]
  split <;> simp [queue_types_stateOf, queueTypesKept_execCtxDestroy, queueTypesKept_execCtxReset,
    queueTypesKept_execCatalogueRead, queueTypesKept_execInfo, queueTypesKept_execCtxCreate]

@[simp] theorem queue_types_writeMailbox (mgr : Bool) (v : FnId) (o x : Nat) :
    (s.writeMailbox mgr v o x).pending = s.pending ∧ (s.writeMailbox mgr v o x).fw.types = s.fw.types := by
  simp [State.writeMailbox, queue_types_stateOf, queueTypesKept_execMbTomgrAck, queueTypesKept_execMbToinstDb,
    queueTypesKept_execMbTomgrDb, queueTypesKept_execMbToinstAck, queueTypesKept_execMbEvtHead]

theorem queueTypesKept_execRegisterWrite (t : RegTarget) : QueueTypesKept s (execRegisterWrite t s) := by
  refine queueTypesKept_next.2 ?_
  cases t <;> dsimp only <;> (repeat' split) <;> simp

theorem queueTypesKept_execRegWrite (bus : Fin 2) (session : Option (Fin 65536)) (seq block : Fin 256) (off : W32)
    (ws : List W32) : QueueTypesKept s (execRegWrite bus session seq block off ws s) := by
  refine queueTypesKept_next.2 ?_
  (repeat' split) <;> simp

/-- The queue stays as it is and no image type's floor falls. -/
def QueueKeptFloorsRise (s t : State) : Prop := t.pending = s.pending ∧ ∀ ty, (s.fwType ty).floor ≤ (t.fwType ty).floor

variable {s} {t u : State}

theorem QueueKeptFloorsRise.refl : QueueKeptFloorsRise s s := ⟨rfl, fun _ => le_rfl⟩

theorem QueueKeptFloorsRise.trans (h : QueueKeptFloorsRise s t) (h' : QueueKeptFloorsRise t u) : QueueKeptFloorsRise s u :=
  ⟨h'.1.trans h.1, fun ty => (h.2 ty).trans (h'.2 ty)⟩

theorem QueueKeptFloorsRise.of_types (h : t.pending = s.pending ∧ t.fw.types = s.fw.types) : QueueKeptFloorsRise s t :=
  ⟨h.1, fun ty => by simp [State.fwType, h.2]⟩

theorem QueueKeptFloorsRise.then_types (h : QueueKeptFloorsRise s t) (h' : u.pending = t.pending ∧ u.fw.types = t.fw.types) :
    QueueKeptFloorsRise s u :=
  h.trans (.of_types h')

theorem floorsRise_setFwType (ty : Nat) (x : FwType) (hx : (s.fwType ty).floor ≤ x.floor) :
    QueueKeptFloorsRise s (s.setFwType ty x) := by
  refine ⟨rfl, fun u => ?_⟩
  by_cases hu : u = ty
  · subst hu
    simpa [State.fwType, State.setFwType] using hx
  · simp [State.fwType, State.setFwType, tblGet_tblSet_ne _ _ _ hu]

theorem floorsRise_modFwType (ty : Nat) (f : FwType → FwType) (hf : ∀ x, x.floor ≤ (f x).floor) :
    QueueKeptFloorsRise s (s.modFwType ty f) :=
  floorsRise_setFwType ty _ (hf _)

/-- A floor is only ever raised (R551). -/
theorem floorsRise_raiseFloor (ty : Nat) (h : FwHdr) : QueueKeptFloorsRise s (s.raiseFloor ty h) := by
  unfold State.raiseFloor
  split
  · next hlt =>
    refine QueueKeptFloorsRise.then_types ?_ (queue_types_fwRecord ..)
    exact floorsRise_setFwType ty _ (Nat.le_of_lt hlt)
  · exact .refl

theorem floorsRise_copyImages (m : StartMeas) (l : List Nat) : QueueKeptFloorsRise s (s.copyImages m l) := by
  induction l generalizing s with
  | nil => exact .refl
  | cons ty tys ih =>
    refine .trans ?_ ih
    split
    · split
      · refine QueueKeptFloorsRise.then_types (QueueKeptFloorsRise.then_types ?_ (queue_types_fwRecord ..)) ⟨rfl, rfl⟩
        exact floorsRise_modFwType ty _ fun _ => le_rfl
      · refine QueueKeptFloorsRise.then_types ?_ (queue_types_copyFailures ..)
        exact floorsRise_modFwType ty _ fun _ => le_rfl
    · exact .refl

theorem floorsRise_copyPending (m : StartMeas) : QueueKeptFloorsRise s (s.copyPending m) := by
  refine .trans (.of_types ?_) (floorsRise_copyImages m fwTypes)
  split <;> simp

theorem floorsRise_failImages (m : StartMeas) (l : List Nat) : QueueKeptFloorsRise s (s.failImages m l) := by
  induction l generalizing s with
  | nil => exact .refl
  | cons ty tys ih =>
    refine .trans ?_ ih
    split
    · exact .refl
    · exact floorsRise_modFwType ty _ fun _ => le_rfl

theorem floorsRise_runImages (l : List Nat) : QueueKeptFloorsRise s (s.runImages l) := by
  induction l generalizing s with
  | nil => exact .refl
  | cons ty tys ih =>
    refine .trans (.trans (floorsRise_raiseFloor ty (s.fwType ty).act) ?_) ih
    exact floorsRise_modFwType ty _ fun _ => le_rfl

theorem queue_types_startRest (m : StartMeas) (t : State) (b : Boot) (w : Tbl Nat) :
    let u := (({ t with boot := b, fw := { t.fw with lnkVer := w } } : State).ledgerStart m).repair m
    (u.dues m).pending = t.pending ∧ (u.dues m).fw.types = t.fw.types := by
  simp

theorem floorsRise_startMain (m : StartMeas) : QueueKeptFloorsRise s (s.startMain m) := by
  have h := (floorsRise_runImages (s := s) fwTypes).then_types
    (u := (s.runImages fwTypes).blowFuses.cusStart) (by simp)
  unfold State.startMain
  generalize (s.runImages fwTypes).blowFuses.cusStart = s1 at h ⊢
  generalize allLinks = l
  dsimp only
  exact h.then_types (queue_types_startRest m ..)

theorem floorsRise_execPowerGood (m : StartMeas) (h : execPowerGood m s = .next t) : QueueKeptFloorsRise s t := by
  cases h
  split
  · exact .refl
  · have himages := (floorsRise_copyPending (s := s) m).trans (floorsRise_failImages m fwTypes)
    dsimp only
    generalize (s.copyPending m).failImages m fwTypes = s1 at himages ⊢
    split
    · exact himages.trans (floorsRise_startMain m)
    · exact himages.then_types ⟨rfl, rfl⟩

theorem floorsRise_execImageHeader (sig : Bool) (h : execImageHeader sig s = .next t) : QueueKeptFloorsRise s t := by
  cases h
  split
  · exact .refl
  · next x _ =>
    split
    · exact .refl
    · dsimp only
      split
      · exact .of_types (queue_types_endXfer ..)
      · refine (floorsRise_setFwType x.type _ ?_).then_types ⟨rfl, rfl⟩
        split <;> exact le_rfl

theorem floorsRise_execImageLanded (tag : Bool) (es : List (Nat × Nat)) (h : execImageLanded tag es s = .next t) :
    QueueKeptFloorsRise s t := by
  cases h
  split
  · exact .refl
  · split
    · exact .refl
    · next x _ _ _ _ =>
      split
      · exact .refl
      · have h1 : QueueKeptFloorsRise s { s.erases es with fw := { (s.erases es).fw with progress := x.bytes.length / 1024 } } :=
          (QueueKeptFloorsRise.of_types (queue_types_erases ..)).then_types ⟨rfl, rfl⟩
        dsimp only
        split
        · exact h1.then_types (queue_types_endXfer ..)
        · split
          · refine QueueKeptFloorsRise.then_types (h1.trans ?_) (queue_types_endXfer ..)
            exact floorsRise_modFwType x.type _ fun _ => le_rfl
          · refine QueueKeptFloorsRise.then_types (QueueKeptFloorsRise.then_types (h1.trans ?_) (queue_types_fwRecord ..))
              (queue_types_endXfer ..)
            exact floorsRise_modFwType x.type _ fun _ => le_rfl

theorem floorsRise_execMgmtImageReady (h : execMgmtImageReady s = .next t) : QueueKeptFloorsRise s t := by
  cases h
  split
  · exact .refl
  · split
    · exact .refl
    · dsimp only
      have h1 : QueueKeptFloorsRise s ((s.raiseFloor 2 (s.fwType 2).stg).modFwType 2 fun x =>
          { x with stgSt := .activated, run := (s.fwType 2).stg }) :=
        (floorsRise_raiseFloor 2 _).trans (floorsRise_modFwType 2 _ fun _ => le_rfl)
      split
      · exact QueueKeptFloorsRise.then_types ((h1.then_types (queue_types_endAct ..)).then_types ⟨rfl, rfl⟩)
          (queue_types_goOn ..)
      · exact h1.then_types (queue_types_endAct ..)

theorem floorsRise_execMgmtReadyTimeout (h : execMgmtReadyTimeout s = .next t) : QueueKeptFloorsRise s t := by
  cases h
  split
  · exact .refl
  · split
    · exact .refl
    · refine QueueKeptFloorsRise.then_types ?_ (queue_types_endAct ..)
      exact floorsRise_modFwType 2 _ fun _ => le_rfl

theorem floorsRise_execMicrocodeSwitch (i : LinkId) (h : execMicrocodeSwitch i s = .next t) : QueueKeptFloorsRise s t := by
  cases h
  split
  · exact .refl
  · split
    · exact .refl
    · next a _ _ =>
      extract_lets img s1 fw s2 s3
      have h1 : QueueKeptFloorsRise s s1 := by
        unfold s1
        split
        · exact .refl
        · exact floorsRise_raiseFloor 3 img
      have h2 : QueueKeptFloorsRise s s2 := h1.then_types ⟨rfl, rfl⟩
      clear_value s2
      have h3 : QueueKeptFloorsRise s s3 := by
        unfold s3
        split
        · refine h2.trans ?_
          exact floorsRise_modFwType 3 _ fun _ => le_rfl
        · exact h2
      clear_value s3
      split
      · refine QueueKeptFloorsRise.then_types (h3.trans ?_) (queue_types_endAct ..)
        exact floorsRise_modFwType 3 _ fun _ => le_rfl
      · exact h3.then_types ⟨rfl, rfl⟩

/-- The commands that may raise a floor or give an image another state (R542, R543, R548, R550, R553; R534). -/
def movesImages : Instr → Bool
  | .imageHeader .. | .imageLanded .. | .mgmtImageReady | .mgmtReadyTimeout | .microcodeSwitch .. | .powerGood .. => true
  | _ => false

/-- Every other command leaves the queue and the image types as they are. -/
theorem queueTypesKept_exec (s : State) (c : Instr) (h : movesImages c = false) : QueueTypesKept s (exec c s) :=
  match c with
  | .imageHeader .. | .imageLanded .. | .mgmtImageReady | .mgmtReadyTimeout | .microcodeSwitch .. | .powerGood .. => nomatch h
  | .nop c w => queueTypesKept_execNop s c w
  | .endCmd c w => queueTypesKept_execEnd s c w
  | .loop c w => queueTypesKept_execLoop s c w
  | .vsel c w => queueTypesKept_execVsel s c w
  | .phase c w => queueTypesKept_execPhase s c w
  | .rebind c w => queueTypesKept_execRebind s c w
  | .fence c w => queueTypesKept_execFence s c w
  | .loadb c w upset => queueTypesKept_execLoadb s c w upset
  | .mma c w upset => queueTypesKept_execMma s c w upset
  | .zero c w => queueTypesKept_execZero s c w
  | .drain c w => queueTypesKept_execDrain s c w
  | .vfma c w => queueTypesKept_execVfma s c w
  | .vadd c w => queueTypesKept_execVadd s c w
  | .vsub c w => queueTypesKept_execVsub s c w
  | .vmul c w => queueTypesKept_execVmul s c w
  | .vneg c w => queueTypesKept_execVneg s c w
  | .vabs c w => queueTypesKept_execVabs s c w
  | .vmin c w => queueTypesKept_execVmin s c w
  | .vmax c w => queueTypesKept_execVmax s c w
  | .vcmp c w => queueTypesKept_execVcmp s c w
  | .vselect c w => queueTypesKept_execVselect s c w
  | .vint c w => queueTypesKept_execVint s c w
  | .vcvt c w => queueTypesKept_execVcvt s c w
  | .vred c w => queueTypesKept_execVred s c w
  | .vperm c w => queueTypesKept_execVperm s c w
  | .vld c w upset => queueTypesKept_execVld s c w upset
  | .vst c w => queueTypesKept_execVst s c w
  | .vtrn c w => queueTypesKept_execVtrn s c w
  | .setsel c w => queueTypesKept_execSetsel s c w
  | .vimm c w => queueTypesKept_execVimm s c w
  | .ls c w upset => queueTypesKept_execLs s c w upset
  | .copy c w upset => queueTypesKept_execCopy s c w upset
  | .gather c w => queueTypesKept_execGather s c w
  | .scatter c w => queueTypesKept_execScatter s c w
  | .dispatch c w => queueTypesKept_execDispatch s c w
  | .copyt c w => queueTypesKept_execCopyt s c w
  | .lcopy c w f => queueTypesKept_execLcopy s c w f
  | .bucketCountTransfer c w => queueTypesKept_execBucketCountTransfer s c w
  | .allocation c w picks => queueTypesKept_execAllocation s c w picks
  | .free c w => queueTypesKept_execFree s c w
  | .poolPageClearDone pg => queueTypesKept_execPoolPageClearDone s pg
  | .transferCompletion e => queueTypesKept_execTransferCompletion s e
  | .writeAcknowledgement e core seq => queueTypesKept_execWriteAcknowledgement s e core seq
  | .wait c w => queueTypesKept_execWait s c w
  | .wake c wire => queueTypesKept_execWake s c wire
  | .signal c w => queueTypesKept_execSignal s c w
  | .barrier c w => queueTypesKept_execBarrier s c w
  | .broadcast c w => queueTypesKept_execBroadcast s c w
  | .reduceAdd c w => queueTypesKept_execReduceAdd s c w
  | .consistentSnapshot c w => queueTypesKept_execConsistentSnapshot s c w
  | .snapshotCut p g => queueTypesKept_execSnapshotCut s p g
  | .gop link f => queueTypesKept_execGop s link f
  | .compositionReset p cause => queueTypesKept_execCompositionReset s p cause
  | .resetHoldEnd p => queueTypesKept_execResetHoldEnd s p
  | .resetConfirmTimeout p => queueTypesKept_execResetConfirmTimeout s p
  | .launchComplete p => queueTypesKept_execLaunchComplete s p
  | .bucketRequest h r => queueTypesKept_execBucketRequest s h r
  | .bucketGrant e core seq bucket first granted policy => queueTypesKept_execBucketGrant s e core seq bucket first granted policy
  | .bucketDone h => queueTypesKept_execBucketDone s h
  | .zeroFillAcknowledged h => queueTypesKept_execZeroFillAcknowledged s h
  | .objectAdd n amount srcKind src => queueTypesKept_execObjectAdd s n amount srcKind src
  | .objectJoin n c wire => queueTypesKept_execObjectJoin s n c wire
  | .sigAckTimeout tag => queueTypesKept_execSigAckTimeout s tag
  | .dbgSet fn p => queueTypesKept_execDbgSet s fn p
  | .dbgAdd fn p => queueTypesKept_execDbgAdd s fn p
  | .dbgRelease fn p => queueTypesKept_execDbgRelease s fn p
  | .dbgClearFault fn p => queueTypesKept_execDbgClearFault s fn p
  | .stateDump => queueTypesKept_execStateDump s
  | .stateDumpEnd ok => queueTypesKept_execStateDumpEnd s ok
  | .memWrite me others ipa a bs ecc => queueTypesKept_execMemWrite s me others ipa a bs ecc
  | .memRead me others ipa a n ecc => queueTypesKept_execMemRead s me others ipa a n ecc
  | .scrubRead ecc raced heavy => queueTypesKept_execScrubRead s ecc raced heavy
  | .refresh ch => queueTypesKept_execRefresh s ch
  | .stackTempRead st temp => queueTypesKept_execStackTempRead s st temp
  | .wayMoveDone g w => queueTypesKept_execWayMoveDone s g w
  | .selfRefreshExit g => queueTypesKept_execSelfRefreshExit s g
  | .regionClearDone q zeroised => queueTypesKept_execRegionClearDone s q zeroised
  | .groupLevelSample g level => queueTypesKept_execGroupLevelSample s g level
  | .tokenRefill m => queueTypesKept_execTokenRefill s m
  | .urgencyChange m level => queueTypesKept_execUrgencyChange s m level
  | .requestAgePromote m p a => queueTypesKept_execRequestAgePromote s m p a
  | .monitorWindowClose g busy ws => queueTypesKept_execMonitorWindowClose s g busy ws
  | .walkEnd m p va write hostErr => queueTypesKept_execWalkEnd s m p va write hostErr
  | .xltInvCmd p cmd viaVf => queueTypesKept_execXltInvCmd s p cmd viaVf
  | .invalidationDone p => queueTypesKept_execInvalidationDone s p
  | .xltInvStatRead p => queueTypesKept_execXltInvStatRead s p
  | .atsInvalidationRequest fn iova size => queueTypesKept_execAtsInvalidationRequest s fn iova size
  | .atsTranslationCompletion fn iova size target hostOn => queueTypesKept_execAtsTranslationCompletion s fn iova size target hostOn
  | .wr f => queueTypesKept_execWr s f
  | .wrm f => queueTypesKept_execWrm s f
  | .rd f => queueTypesKept_execRd s f
  | .sig f => queueTypesKept_execSig s f
  | .ack f => queueTypesKept_execAck s f
  | .rdata f => queueTypesKept_execRdata s f
  | .refuse f => queueTypesKept_execRefuse s f
  | .transactionVisible src tag => queueTypesKept_execTransactionVisible s src tag
  | .windowTimeout tag => queueTypesKept_execWindowTimeout s tag
  | .outboundOpen e part target window gen size vwin r w => queueTypesKept_execOutboundOpen s e part target window gen size vwin r w
  | .windowRevoke w => queueTypesKept_execWindowRevoke s w
  | .revokeDrained w => queueTypesKept_execRevokeDrained s w
  | .outboundClear e => queueTypesKept_execOutboundClear s e
  | .cagePresenceGained c => queueTypesKept_execCagePresenceGained s c
  | .cagePresenceLost c => queueTypesKept_execCagePresenceLost s c
  | .cageRampEnd c mv ma limiting cable => queueTypesKept_execCageRampEnd s c mv ma limiting cable
  | .cageCurrentLimit c => queueTypesKept_execCageCurrentLimit s c
  | .cageOverload c => queueTypesKept_execCageOverload s c
  | .retryWaitEnd c => queueTypesKept_execRetryWaitEnd s c
  | .failsClear c => queueTypesKept_execFailsClear s c
  | .latchClr c => queueTypesKept_execLatchClr s c
  | .powerEn c on => queueTypesKept_execPowerEn s c on
  | .cmisReady c application => queueTypesKept_execCmisReady s c application
  | .cmisReadyTimeout c => queueTypesKept_execCmisReadyTimeout s c
  | .cmisFlagRead c flags => queueTypesKept_execCmisFlagRead s c flags
  | .signalDetect x => queueTypesKept_execSignalDetect s x
  | .equaliseDone x pol0 pol1 => queueTypesKept_execEqualiseDone s x pol0 pol1
  | .alignLock x swap => queueTypesKept_execAlignLock s x swap
  | .trainingTimeout x => queueTypesKept_execTrainingTimeout s x
  | .detectRetry x => queueTypesKept_execDetectRetry s x
  | .noSignalLane x lane => queueTypesKept_execNoSignalLane s x lane
  | .quarantineExit x => queueTypesKept_execQuarantineExit s x
  | .lossOfLock x => queueTypesKept_execLossOfLock s x
  | .fecExcess x => queueTypesKept_execFecExcess s x
  | .helloSend x => queueTypesKept_execHelloSend s x
  | .hello x h crcOk => queueTypesKept_execHello s x h crcOk
  | .lnkExpect x v => queueTypesKept_execLnkExpect s x v
  | .quarClear x => queueTypesKept_execQuarClear s x
  | .retrain x => queueTypesKept_execRetrain s x
  | .quarForce x on => queueTypesKept_execQuarForce s x on
  | .enable x on => queueTypesKept_execEnable s x on
  | .touch c => queueTypesKept_execTouch s c
  | .attnReq c => queueTypesKept_execAttnReq s c
  | .release c => queueTypesKept_execRelease s c
  | .cancel c => queueTypesKept_execCancel s c
  | .attnTimeout c => queueTypesKept_execAttnTimeout s c
  | .attnDrainEnd c => queueTypesKept_execAttnDrainEnd s c
  | .cableLowPower c => queueTypesKept_execCableLowPower s c
  | .cageSafe c => queueTypesKept_execCageSafe s c
  | .keyStuck k => queueTypesKept_execKeyStuck s k
  | .keyUnstuck k => queueTypesKept_execKeyUnstuck s k
  | .bundle x key corrected flits => queueTypesKept_execBundle s x key corrected flits
  | .epoch x active staged ready cctr key => queueTypesKept_execEpoch s x active staged ready cctr key
  | .creditAck x payload cctr key => queueTypesKept_execCreditAck s x payload cctr key
  | .replayReq x next cctr key => queueTypesKept_execReplayReq s x next cctr key
  | .replayStart x first ctr cctr key => queueTypesKept_execReplayStart s x first ctr cctr key
  | .time x payload frac cctr key => queueTypesKept_execTime s x payload frac cctr key
  | .idle x => queueTypesKept_execIdle s x
  | .creditAckSend x => queueTypesKept_execCreditAckSend s x
  | .epochSend x => queueTypesKept_execEpochSend s x
  | .timeSend x frac => queueTypesKept_execTimeSend s x frac
  | .replayReqRepeat x => queueTypesKept_execReplayReqRepeat s x
  | .flitAged x n => queueTypesKept_execFlitAged s x n
  | .writeAbandon src tag => queueTypesKept_execWriteAbandon s src tag
  | .commit => queueTypesKept_execCommit s
  | .stageReady on => queueTypesKept_execStageReady s on
  | .fabId v => queueTypesKept_execFabId s v
  | .fabCntClear v => queueTypesKept_execFabCntClear s v
  | .fabTsCtrl v => queueTypesKept_execFabTsCtrl s v
  | .fabTsSet v => queueTypesKept_execFabTsSet s v
  | .timeLock => queueTypesKept_execTimeLock s
  | .holdoverEntry => queueTypesKept_execHoldoverEntry s
  | .holdoverExpiry => queueTypesKept_execHoldoverExpiry s
  | .rootConflictClear => queueTypesKept_execRootConflictClear s
  | .timestampDistribute => queueTypesKept_execTimestampDistribute s
  | .bindReserve from_ => queueTypesKept_execBindReserve s from_
  | .bindSeal from_ plan => queueTypesKept_execBindSeal s from_ plan
  | .bindEnvelopeUpdate from_ => queueTypesKept_execBindEnvelopeUpdate s from_
  | .bindRebind from_ => queueTypesKept_execBindRebind s from_
  | .bindDissolve from_ => queueTypesKept_execBindDissolve s from_
  | .rebindRequest p => queueTypesKept_execRebindRequest s p
  | .rebindPlanDone p result plan => queueTypesKept_execRebindPlanDone s p result plan
  | .prepare env => queueTypesKept_execPrepare s env
  | .place p plan => queueTypesKept_execPlace s p plan
  | .curatorSeal p cat => queueTypesKept_execCuratorSeal s p cat
  | .resume p => queueTypesKept_execResume s p
  | .dissolve p => queueTypesKept_execDissolve s p
  | .memberReport p fid rep => queueTypesKept_execMemberReport s p fid rep
  | .memberTimeout p => queueTypesKept_execMemberTimeout s p
  | .curatorMessageRetry p fid => queueTypesKept_execCuratorMessageRetry s p fid
  | .switchInRequest p at_ => queueTypesKept_execSwitchInRequest s p at_
  | .quantumExpiry p => queueTypesKept_execQuantumExpiry s p
  | .cmpPoolAdd v => queueTypesKept_execCmpPoolAdd s v
  | .cmpPoolRemove v => queueTypesKept_execCmpPoolRemove s v
  | .sqDoorbell fn r v => queueTypesKept_execSqDoorbell s fn r v
  | .cqDoorbell fn q v => queueTypesKept_execCqDoorbell s fn q v
  | .descriptorFetch fn r ok => queueTypesKept_execDescriptorFetch s fn r ok
  | .descNop fn r => queueTypesKept_execDescNop s fn r
  | .load from_ pl => queueTypesKept_execLoad s from_ pl
  | .unload from_ => queueTypesKept_execUnload s from_
  | .launch from_ => queueTypesKept_execLaunch s from_
  | .copyLinear fn r e => queueTypesKept_execCopyLinear s fn r e
  | .copyDescribed fn r e ok => queueTypesKept_execCopyDescribed s fn r e ok
  | .hostSignal fn r => queueTypesKept_execHostSignal s fn r
  | .hostWait fn r => queueTypesKept_execHostWait s fn r
  | .hostWaitTimeout id => queueTypesKept_execHostWaitTimeout s id
  | .quiesceDrain r => queueTypesKept_execQuiesceDrain s r
  | .quiesceDrainEnd v => queueTypesKept_execQuiesceDrainEnd s v
  | .quiesceTimeout v => queueTypesKept_execQuiesceTimeout s v
  | .quiesceAbort r => queueTypesKept_execQuiesceAbort s r
  | .quiesceResume r => queueTypesKept_execQuiesceResume s r
  | .fetchaddComplete n ok => queueTypesKept_execFetchaddComplete s n ok
  | .coalesceTimeout fn q => queueTypesKept_execCoalesceTimeout s fn q
  | .cmisRead r got => queueTypesKept_execCmisRead s r got
  | .instCreate r => queueTypesKept_execInstCreate s r
  | .instRemove r => queueTypesKept_execInstRemove s r
  | .instReset r => queueTypesKept_execInstReset s r
  | .instStatus r => queueTypesKept_execInstStatus s r
  | .flr fn => queueTypesKept_execFlr s fn
  | .pcieReset => queueTypesKept_execPcieReset s
  | .hifSqCfg fn r v => queueTypesKept_execHifSqCfg s fn r v
  | .hifCqCfg fn q v => queueTypesKept_execHifCqCfg s fn q v
  | .perstDeassert => queueTypesKept_execPerstDeassert s
  | .setEndpointId bus op eid => queueTypesKept_execSetEndpointId s bus op eid
  | .getEndpointId bus => queueTypesKept_execGetEndpointId s bus
  | .getEndpointUuid bus => queueTypesKept_execGetEndpointUuid s bus
  | .getMctpVersionSupport bus type => queueTypesKept_execGetMctpVersionSupport s bus type
  | .getMessageTypeSupport bus => queueTypesKept_execGetMessageTypeSupport s bus
  | .getVdmSupport bus selector => queueTypesKept_execGetVdmSupport s bus selector
  | .regRead bus seq block off count => queueTypesKept_execRegRead s bus seq block off count
  | .regWrite bus session seq block off ws => queueTypesKept_execRegWrite s bus session seq block off ws
  | .mctpBind bus session seq head total off bytes => queueTypesKept_execMctpBind s bus session seq head total off bytes
  | .eventAck bus seq => queueTypesKept_execEventAck s bus seq
  | .mctpCmisRead bus seq arg n got => queueTypesKept_execMctpCmisRead s bus seq arg n got
  | .eventRepeat seq => queueTypesKept_execEventRepeat s seq
  | .ctxCreate v => queueTypesKept_execCtxCreate s v
  | .ctxDestroy v => queueTypesKept_execCtxDestroy s v
  | .ctxReset v => queueTypesKept_execCtxReset s v
  | .catalogueRead v ok => queueTypesKept_execCatalogueRead s v ok
  | .info v => queueTypesKept_execInfo s v
  | .mbTomgrDb v => queueTypesKept_execMbTomgrDb s v
  | .mbTomgrAck v => queueTypesKept_execMbTomgrAck s v
  | .mbToinstDb v => queueTypesKept_execMbToinstDb s v
  | .mbToinstAck v => queueTypesKept_execMbToinstAck s v
  | .mbEvtHead v x => queueTypesKept_execMbEvtHead s v x
  | .secRandom r => queueTypesKept_execSecRandom s r
  | .secSlotInfo r ok => queueTypesKept_execSecSlotInfo s r ok
  | .secSlotGenerate r pulses => queueTypesKept_execSecSlotGenerate s r pulses
  | .secSlotImport r ok pulses => queueTypesKept_execSecSlotImport s r ok pulses
  | .secSlotDestroy r ok pulses => queueTypesKept_execSecSlotDestroy s r ok pulses
  | .secCerts r => queueTypesKept_execSecCerts s r
  | .secNonce r => queueTypesKept_execSecNonce s r
  | .secDebugToken r sig nonce => queueTypesKept_execSecDebugToken s r sig nonce
  | .secDebugReturn r => queueTypesKept_execSecDebugReturn s r
  | .glitch => queueTypesKept_execGlitch s
  | .entropyStartupDone pass => queueTypesKept_execEntropyStartupDone s pass
  | .healthTestFail => queueTypesKept_execHealthTestFail s
  | .retestWaitEnd => queueTypesKept_execRetestWaitEnd s
  | .drbgReseed => queueTypesKept_execDrbgReseed s
  | .aliasCertIssue => queueTypesKept_execAliasCertIssue s
  | .regionRekey q => queueTypesKept_execRegionRekey s q
  | .reencryptDone q bad zeroed => queueTypesKept_execReencryptDone s q bad zeroed
  | .rekeyInit x xid cctr key => queueTypesKept_execRekeyInit s x xid cctr key
  | .rekeyResp x xid cctr key => queueTypesKept_execRekeyResp s x xid cctr key
  | .rekeyCert x xid chains debug cctr key => queueTypesKept_execRekeyCert s x xid chains debug cctr key
  | .rekeySign x xid ok cctr key => queueTypesKept_execRekeySign s x xid ok cctr key
  | .rekeyAck x xid msg cctr key => queueTypesKept_execRekeyAck s x xid msg cctr key
  | .rekeySwitch x xid epoch cctr key => queueTypesKept_execRekeySwitch s x xid epoch cctr key
  | .rekeyAbort x xid cctr key => queueTypesKept_execRekeyAbort s x xid cctr key
  | .rekeyResend x => queueTypesKept_execRekeyResend s x
  | .keyingRetry x => queueTypesKept_execKeyingRetry s x
  | .rolloverStart x => queueTypesKept_execRolloverStart s x
  | .counterStop x => queueTypesKept_execCounterStop s x
  | .getVersion c => queueTypesKept_execGetVersion s c
  | .getCapabilities c => queueTypesKept_execGetCapabilities s c
  | .negotiateAlgorithms c common => queueTypesKept_execNegotiateAlgorithms s c common
  | .getDigests c => queueTypesKept_execGetDigests s c
  | .getCertificate c slot off len => queueTypesKept_execGetCertificate s c slot off len
  | .challenge c nonce => queueTypesKept_execChallenge s c nonce
  | .getMeasurements c k sign => queueTypesKept_execGetMeasurements s c k sign
  | .keyExchange c hybrid => queueTypesKept_execKeyExchange s c hybrid
  | .finish c id ok => queueTypesKept_execFinish s c id ok
  | .heartbeat c id => queueTypesKept_execHeartbeat s c id
  | .heartbeatMissed id => queueTypesKept_execHeartbeatMissed s id
  | .keyUpdate c id => queueTypesKept_execKeyUpdate s c id
  | .endSession c id => queueTypesKept_execEndSession s c id
  | .chunkSend c last bytes => queueTypesKept_execChunkSend s c last bytes
  | .chunkGet c n => queueTypesKept_execChunkGet s c n
  | .getMlChain c off len => queueTypesKept_execGetMlChain s c off len
  | .getProvenance c comp nonce => queueTypesKept_execGetProvenance s c comp nonce
  | .getPqSig c => queueTypesKept_execGetPqSig s c
  | .openTenant c id comp => queueTypesKept_execOpenTenant s c id comp
  | .deliverKey c id h wrapped => queueTypesKept_execDeliverKey s c id h wrapped
  | .dropKey c id h => queueTypesKept_execDropKey s c id h
  | .unsealCmd c id h va hash => queueTypesKept_execUnseal s c id h va hash
  | .sealCmd c id h va chunks last label secrets => queueTypesKept_execSeal s c id h va chunks last label secrets
  | .sealConsentExpiry p => queueTypesKept_execSealConsentExpiry s p
  | .closeTenant c id => queueTypesKept_execCloseTenant s c id
  | .getTdispVersion id v => queueTypesKept_execGetTdispVersion s id v
  | .getTdispCapabilities id v => queueTypesKept_execGetTdispCapabilities s id v
  | .lockInterfaceRequest id v => queueTypesKept_execLockInterfaceRequest s id v
  | .getDeviceInterfaceReport id v => queueTypesKept_execGetDeviceInterfaceReport s id v
  | .getDeviceInterfaceState id v => queueTypesKept_execGetDeviceInterfaceState s id v
  | .startInterfaceRequest id v nonce => queueTypesKept_execStartInterfaceRequest s id v nonce
  | .stopInterfaceRequest id v => queueTypesKept_execStopInterfaceRequest s id v
  | .controlPeriod m => queueTypesKept_execControlPeriod s m
  | .voltageReached k => queueTypesKept_execVoltageReached s k
  | .droopTrip k => queueTypesKept_execDroopTrip s k
  | .thermalShutdown sensor => queueTypesKept_execThermalShutdown s sensor
  | .backstopEntry => queueTypesKept_execBackstopEntry s
  | .backstopPeriod m => queueTypesKept_execBackstopPeriod s m
  | .pwrCap mctp v => queueTypesKept_execPwrCap s mctp v
  | .pwrSlackClear v => queueTypesKept_execPwrSlackClear s v
  | .ledgerEvent => queueTypesKept_execLedgerEvent s
  | .ledgerRead r => queueTypesKept_execLedgerRead s r
  | .ledgerClear r => queueTypesKept_execLedgerClear s r
  | .watchdogFire p => queueTypesKept_execWatchdogFire s p
  | .sample p => queueTypesKept_execSample s p
  | .sampleEnd p ok => queueTypesKept_execSampleEnd s p ok
  | .compReset p => queueTypesKept_execCompReset s p
  | .errCtxReset w => queueTypesKept_execErrCtxReset s w
  | .computePartReset => queueTypesKept_execComputePartReset s
  | .moduleWarmReset mctp => queueTypesKept_execModuleWarmReset s mctp
  | .moduleHardReset mctp => queueTypesKept_execModuleHardReset s mctp
  | .svcResetAck mctp => queueTypesKept_execSvcResetAck s mctp
  | .resetNoticeExpiry => queueTypesKept_execResetNoticeExpiry s
  | .mgmtWatchdog => queueTypesKept_execMgmtWatchdog s
  | .fwStage r ok => queueTypesKept_execFwStage s r ok
  | .fwActivate r sig payload => queueTypesKept_execFwActivate s r sig payload
  | .fwCancel r => queueTypesKept_execFwCancel s r
  | .microcodeReadyTimeout x => queueTypesKept_execMicrocodeReadyTimeout s x
  | .queryDeviceIdentifiers bus => queueTypesKept_execQueryDeviceIdentifiers s bus
  | .getFirmwareParameters bus => queueTypesKept_execGetFirmwareParameters s bus
  | .requestUpdate bus maxSize => queueTypesKept_execRequestUpdate s bus maxSize
  | .passComponentTable bus id last => queueTypesKept_execPassComponentTable s bus id last
  | .updateComponent bus id len => queueTypesKept_execUpdateComponent s bus id len
  | .firmwareData bs => queueTypesKept_execFirmwareData s bs
  | .transferComplete => queueTypesKept_execTransferComplete s
  | .verifyComplete => queueTypesKept_execVerifyComplete s
  | .applyComplete => queueTypesKept_execApplyComplete s
  | .activateFirmware bus selfContained sig payload => queueTypesKept_execActivateFirmware s bus selfContained sig payload
  | .getStatus bus => queueTypesKept_execGetStatus s bus
  | .cancelUpdateComponent bus => queueTypesKept_execCancelUpdateComponent s bus
  | .cancelUpdate bus => queueTypesKept_execCancelUpdate s bus
  | .dfuDownload alt bs first last => queueTypesKept_execDfuDownload s alt bs first last
  | .dfuUpload alt => queueTypesKept_execDfuUpload s alt
  | .recoveryExit => queueTypesKept_execRecoveryExit s
  | .norEraseTimeout sector => queueTypesKept_execNorEraseTimeout s sector
  | .dcInputRise absent => queueTypesKept_execDcInputRise s absent
  | .bulkCharged => queueTypesKept_execBulkCharged s
  | .bulkChargeTimeout => queueTypesKept_execBulkChargeTimeout s
  | .undervoltage mv => queueTypesKept_execUndervoltage s mv
  | .brownOut => queueTypesKept_execBrownOut s
  | .overvoltage => queueTypesKept_execOvervoltage s
  | .overvoltReclose => queueTypesKept_execOvervoltReclose s
  | .inputReversal => queueTypesKept_execInputReversal s
  | .buttonRelease ms => queueTypesKept_execButtonRelease s ms
  | .buttonHold8s up => queueTypesKept_execButtonHold8s s up
  | .buttonStuck => queueTypesKept_execButtonStuck s
  | .buttonUnstuck => queueTypesKept_execButtonUnstuck s
  | .locateTouch => queueTypesKept_execLocateTouch s
  | .svcLocate mctp v => queueTypesKept_execSvcLocate s mctp v
  | .locateTimeout => queueTypesKept_execLocateTimeout s
  | .cellInserted mv => queueTypesKept_execCellInserted s mv
  | .cellSettled mv => queueTypesKept_execCellSettled s mv
  | .cellRemoved => queueTypesKept_execCellRemoved s
  | .cellReversed => queueTypesKept_execCellReversed s
  | .cellFull mv => queueTypesKept_execCellFull s mv
  | .cellRecharge mv => queueTypesKept_execCellRecharge s mv
  | .cellFault mv => queueTypesKept_execCellFault s mv
  | .chargeEn mctp on => queueTypesKept_execChargeEn s mctp on
  | .svcRtcSet mctp v => queueTypesKept_execSvcRtcSet s mctp v
  | .tamperEvent plate => queueTypesKept_execTamperEvent s plate
  | .registerWrite t => queueTypesKept_execRegisterWrite s t
  | .queueStepCompleted c q => queueTypesKept_execQueueStepCompleted s c q
  | .uncorrectableFecCodeword x => queueTypesKept_execUncorrectableFecCodeword s x
  | .cageDischargeEnd c => queueTypesKept_execCageDischargeEnd s c
  | .rekeyTimeout x => queueTypesKept_execRekeyTimeout s x
  | .smbClkLowTimeout => queueTypesKept_execSmbClkLowTimeout s
  | .usbDisconnection => queueTypesKept_execUsbDisconnection s
  | .cellVoltageThreshold mv => queueTypesKept_execCellVoltageThreshold s mv
  | .islandPowerLoss => queueTypesKept_execIslandPowerLoss s
  | .undervoltageCleared => queueTypesKept_execUndervoltageCleared s
  | .vfEnableChange n => queueTypesKept_execVfEnableChange s n
  | .hotSwapRetry => queueTypesKept_execHotSwapRetry s

theorem floorsRise_exec (c : Instr) (h : exec c s = .next t) : QueueKeptFloorsRise s t := by
  cases hm : movesImages c with
  | false => exact .of_types (queueTypesKept_exec s c hm t h)
  | true =>
    unfold movesImages at hm
    split at hm
    · exact floorsRise_execImageHeader _ h
    · exact floorsRise_execImageLanded _ _ h
    · exact floorsRise_execMgmtImageReady h
    · exact floorsRise_execMgmtReadyTimeout h
    · exact floorsRise_execMicrocodeSwitch _ h
    · exact floorsRise_execPowerGood _ h
    · cases hm

end

/-- Settles O57: a command keeps the queue and lowers no floor, and a tick, which changes no image type, lowers none either. -/
theorem queueAndFloors : Obligations.QueueAndFloors := by
  refine ⟨fun c s t h => (floorsRise_exec c h).1, fun s t ty h => ?_⟩
  cases hp : s.pending with
  | nil =>
    rw [step_of_pending_nil hp] at h
    cases h
    exact (QueueKeptFloorsRise.of_types (queue_types_tick s)).2 ty
  | cons c cs =>
    rw [step_of_pending_cons hp] at h
    exact (floorsRise_exec c h).2 ty

end Sys2Proof.Laws
end

section
/-! PROOFS. A ring's next descriptor that starts (spec/14: R383, R384, R388, R397), and a transfer while a copy is pending
(spec/20: R546). -/
namespace Sys2Proof.Laws

open Machine

/-! ### A descriptor that starts -/

section

variable {s s0 : State} {fn r t cmd : Nat} {d : HostDesc}

/-- The descriptor marked running is what its meaning works on, and then the ring goes on. -/
theorem startDesc_of_starts (h : RingStarts s fn r t d s0) (f : HostDesc → State → State) :
    s.startDesc fn r t f = (f { d with st := .running } s0).ringGo fn r := by
  obtain ⟨hd, ht, hst, hpr, rfl⟩ := h
  simp [State.startDesc, hd, ht, hst, hpr]

theorem startIf_of_starts (h : RingStarts s fn r t d s0) {ok : HostDesc → Bool} (hok : ok d = true)
    (f : HostDesc → State → State) : s.startIf fn r t ok f = (f { d with st := .running } s0).ringGo fn r := by
  simp [State.startIf, h.1, hok, startDesc_of_starts h]

theorem mgmt_of_starts (h : MgmtStarts s r cmd d s0) (f : HostDesc → State → State) :
    s.mgmt r cmd f = (f { d with st := .running } s0).ringGo 0 r :=
  startIf_of_starts h.1 (by simp [h.2]) f

theorem cusReq_of_starts (hr : s.cus.ready = true) (hq : s.cus.queue.length < 16) (h : MgmtStarts s r cmd d s0)
    (f : HostDesc → State → State) : s.cusReq r cmd f = (f { d with st := .running } s0).ringGo 0 r := by
  simp only [State.cusReq, hr, hq, true_and, if_true, mgmt_of_starts h]

theorem eq_modDesc_of_starts (h : RingStarts s fn r t d s0) : s0 = s.modDesc d.id fun x => { x with st := .running } :=
  h.2.2.2.2

theorem completed_of_starts (h : RingStarts s fn r t d s0) : Completed s s0 := by
  rw [eq_modDesc_of_starts h]
  exact completed_modDesc ..

end

section

variable (s : State)

theorem completed_ringGo (fn r : Nat) : Completed s (s.ringGo fn r) := completed_endRefused ..

theorem completed_hostWrite (fn a : Nat) (bs : List Byte) : Completed s (s.hostWrite fn a bs) := rfl

theorem completed_mgmtEnd (id status : Nat) (out : List Byte) : Completed s (s.mgmtEnd id status out) := by
  simp only [State.mgmtEnd]
  split
  · exact completed_refl s
  · refine completed_trans ?_ (completed_endDesc ..)
    split
    · exact completed_refl s
    · exact completed_hostWrite ..

variable {s} {t : State}

theorem fw_of_completed (h : Completed s t) : t.fw = s.fw := by
  rw [h]
  rfl

@[simp] theorem fw_ringGo (fn r : Nat) : (s.ringGo fn r).fw = s.fw := fw_of_completed (completed_ringGo ..)
@[simp] theorem fw_mgmtEnd (id status : Nat) (out : List Byte) : (s.mgmtEnd id status out).fw = s.fw :=
  fw_of_completed (completed_mgmtEnd ..)

@[simp] theorem fw_fwRecord (event ty code : Nat) (h : FwHdr) : (s.fwRecord event ty code h).fw = s.fw :=
  fw_of_completed (completed_of_reported (reported_ledgerFull ..))

end

/-! ### Transfers (R541, R546) -/

section

variable {s t : State} {ty : Nat}

theorem xferStatus_of_fw (h : t.fw = s.fw) : t.xferStatus ty = s.xferStatus ty := by
  have hdef : t.xferStatus ty = State.xferStatus { s with fw := t.fw } ty := rfl
  rw [hdef, h]

/-- The type exists, no transfer is held, and no activation of the type is under way. -/
def TransferFree (s : State) (ty : Nat) : Prop := 1 ≤ ty ∧ ty ≤ 3 ∧ s.fw.xfer = none ∧ s.fw.act.map (·.type) ≠ some ty

/-- The staged image is activated and still to be copied (R546). -/
def CopyHeld (s : State) (ty : Nat) : Prop := (s.fwType ty).stgSt = .activated ∧ (s.fwType ty).copy = true

theorem xferStatus_of_free (hf : TransferFree s ty) : s.xferStatus ty =
    if (s.fwType ty).stgSt = .activated ∧ (s.fwType ty).copy then 0x0A else 0 := by
  obtain ⟨hlow, hhigh, hx, ha⟩ := hf
  simp only [State.xferStatus, if_neg (show ¬ (ty = 0 ∨ ty > 3) by omega), hx, Option.isSome_none, Bool.false_eq_true, ha,
    or_self, if_false]

theorem xferStatus_of_held (hf : TransferFree s ty) (hh : CopyHeld s ty) : s.xferStatus ty = 0x0A :=
  (xferStatus_of_free hf).trans (if_pos hh)

theorem xferStatus_of_not_held (hf : TransferFree s ty) (hh : ¬ CopyHeld s ty) : s.xferStatus ty = 0 :=
  (xferStatus_of_free hf).trans (if_neg hh)

end

section

variable {s s0 : State} {r : Fin 16} {d : HostDesc} (h : MgmtStarts s r 0x200 d s0)

include h

theorem fw_of_mgmtStarts : s0.fw = s.fw := fw_of_completed (completed_of_starts h.1)

theorem mgmtIn_of_starts (st : DescSt) : s0.mgmtIn { d with st := st } = s.mgmtIn d := by
  rw [eq_modDesc_of_starts h.1]
  rfl

/-- The transfer that FW_STAGE starts (R541). -/
def stageBegun (s0 : State) (d : HostDesc) (bytes : List Byte) : State :=
  { s0 with fw := { s0.fw with xfer := some ⟨.desc d.id, d.arg0 % 256, d.fld 40 4, bytes, none⟩, progress := 0 } }

theorem fwStage_of_refused {code : Nat} (hc : s.xferStatus (d.arg0 % 256) = code) (h0 : code ≠ 0) (ok : Bool) :
    exec (.fwStage r ok) s = .next (((s0.fwRecord 1 (d.arg0 % 256) code FwHdr.none).mgmtEnd d.id code []).ringGo 0 r) := by
  refine congrArg Host.Outcome.next ((mgmt_of_starts h _).trans (congrArg (State.ringGo · 0 r) ?_))
  have hc0 : s0.xferStatus (d.arg0 % 256) = code := (xferStatus_of_fw (fw_of_mgmtStarts h)).trans hc
  subst hc0
  exact if_pos h0

theorem fwStage_of_started (hc : s.xferStatus (d.arg0 % 256) = 0) (ok : Bool) :
    exec (.fwStage r ok) s = .next ((if !ok then (stageBegun s0 d (s.mgmtIn d)).endXfer 0x0F
      else if d.fld 40 4 < 8192 then (stageBegun s0 d (s.mgmtIn d)).endXfer 1 else stageBegun s0 d (s.mgmtIn d)).ringGo 0 r) := by
  refine congrArg Host.Outcome.next ((mgmt_of_starts h _).trans (congrArg (State.ringGo · 0 r) ?_))
  have hc0 : ¬ s0.xferStatus (d.arg0 % 256) ≠ 0 :=
    not_not_intro ((xferStatus_of_fw (fw_of_mgmtStarts h)).trans hc)
  rw [← mgmtIn_of_starts h .running]
  exact if_neg hc0

end

section

variable {s : State} {bus : Fin 2} {id : Fin 65536} {len : W32} (hon : s.mctpOn bus = true) (hst : s.fw.pldm = .ready)

include hon hst

theorem pldmIn_of_ready (code : Nat) (f : State → State) : s.pldmIn bus code (· == .ready) f = .next (f s) := by
  simp [State.pldmIn, State.pldmReq, hon, hst]

theorem updateComponent_of_refused (hc : s.xferStatus id ≠ 0) : exec (.updateComponent bus id len) s =
    .next ((s.fwRecord 1 id (s.xferStatus id) FwHdr.none).pldm 0x14 [0, 1, 0, 0, 0, 0, 0, 0, 0]) := by
  show execUpdateComponent bus id len s = _
  rw [execUpdateComponent, pldmIn_of_ready hon hst]
  exact congrArg Host.Outcome.next (if_pos hc)

/-- The transfer that UPDATE_COMPONENT starts (R544). -/
def componentBegun (s : State) (id len : Nat) : State :=
  { s with fw := { s.fw with xfer := some ⟨.pldm, id, len, [], none⟩, comp := id, progress := 0 } }

theorem updateComponent_of_started (hc : s.xferStatus id = 0) : exec (.updateComponent bus id len) s =
    .next ((((componentBegun s id len.toNat).pldmTo .download).pldm 0x14 [0, 0, 0, 0, 0, 0, 0, 0, 0]).pldmAsk) := by
  show execUpdateComponent bus id len s = _
  rw [execUpdateComponent, pldmIn_of_ready hon hst]
  exact congrArg Host.Outcome.next (if_neg (not_not_intro hc))

end

@[simp] theorem fw_pldm (s : State) (code : Nat) (bs : List Byte) : (s.pldm code bs).fw = s.fw := rfl

@[simp] theorem fw_pldmAsk (s : State) : s.pldmAsk.fw = s.fw := by
  simp only [State.pldmAsk]
  split
  · split <;> rfl
  · rfl

/-- Settles O59: while the copy is pending the transfer's status is 0x0A and nothing starts; else it is 0 and the transfer starts. -/
theorem copyPending : Obligations.CopyPending := by
  intro r bus id len d s0 s free held t pldm
  refine ⟨fun h hf hh ok => ?_, fun ⟨hon, hst⟩ hf hh => ?_, fun h hf hh hlen => ?_, fun ⟨hon, hst⟩ hf hh => ?_⟩
  · have hc : s.xferStatus t = 0x0A := xferStatus_of_held hf hh
    exact ⟨_, fwStage_of_refused h hc (by decide) ok, rfl, by simp [fw_of_mgmtStarts h]⟩
  · have hc : s.xferStatus id = 0x0A := xferStatus_of_held hf hh
    exact ⟨_, updateComponent_of_refused hon hst (by simp [hc]), by simp⟩
  · refine ⟨_, fwStage_of_started h (xferStatus_of_not_held hf hh) true, ?_⟩
    simp [Nat.not_lt.2 hlen, stageBegun, t]
  · refine ⟨_, updateComponent_of_started hon hst (xferStatus_of_not_held hf hh), ?_⟩
    simp [componentBegun, State.pldmTo]

end Sys2Proof.Laws
end

section
/-! PROOFS. What the operations of memories, links, engines and host descriptors leave as it was: the cores and the partitions. -/
namespace Sys2Proof.Laws

open Machine

section

variable (s : State) (m : Mv)

@[simp] theorem cores_ite (c : Prop) [Decidable c] (a b : State) :
    (if c then a else b).cores = if c then a.cores else b.cores := apply_ite ..

@[simp] theorem cores_parts_setReg (k v : Nat) : (s.setReg k v).cores = s.cores ∧ (s.setReg k v).parts = s.parts := ⟨rfl, rfl⟩
@[simp] theorem cores_parts_bump (k n : Nat) : (s.bump k n).cores = s.cores ∧ (s.bump k n).parts = s.parts := ⟨rfl, rfl⟩

@[simp] theorem cores_parts_setBits (k m : Nat) :
    (s.setBits k m).cores = s.cores ∧ (s.setBits k m).parts = s.parts := ⟨rfl, rfl⟩

@[simp] theorem cores_parts_clearBits (k m : Nat) :
    (s.clearBits k m).cores = s.cores ∧ (s.clearBits k m).parts = s.parts := ⟨rfl, rfl⟩

@[simp] theorem cores_parts_emit (e : Emit) : (s.emit e).cores = s.cores ∧ (s.emit e).parts = s.parts := ⟨rfl, rfl⟩
@[simp] theorem cores_parts_emits (es : List Emit) : (s.emits es).cores = s.cores ∧ (s.emits es).parts = s.parts := ⟨rfl, rfl⟩
@[simp] theorem cores_parts_draw : s.draw.cores = s.cores ∧ s.draw.parts = s.parts := ⟨rfl, rfl⟩

@[simp] theorem cores_parts_msix (fn vec : Nat) :
    (s.msix fn vec).cores = s.cores ∧ (s.msix fn vec).parts = s.parts := by simp [State.msix]

@[simp] theorem cores_parts_ledgerFull (type source owner object code arg value : Nat) :
    (s.ledgerFull type source owner object code arg value).cores = s.cores
      ∧ (s.ledgerFull type source owner object code arg value).parts = s.parts := by simp [State.ledgerFull]

@[simp] theorem cores_parts_setEngine (e : Nat) (k : Engine) :
    (s.setEngine e k).cores = s.cores ∧ (s.setEngine e k).parts = s.parts := ⟨rfl, rfl⟩

@[simp] theorem cores_parts_setGroup (g : Nat) (k : Group) :
    (s.setGroup g k).cores = s.cores ∧ (s.setGroup g k).parts = s.parts := ⟨rfl, rfl⟩

@[simp] theorem cores_parts_setRegion (q : Nat) (k : Region) :
    (s.setRegion q k).cores = s.cores ∧ (s.setRegion q k).parts = s.parts := ⟨rfl, rfl⟩

@[simp] theorem cores_parts_modRegion (q : Nat) (f : Region → Region) :
    (s.modRegion q f).cores = s.cores ∧ (s.modRegion q f).parts = s.parts := ⟨rfl, rfl⟩

@[simp] theorem cores_parts_setLine (i : Nat) (k : Option CacheLine) :
    (s.setLine i k).cores = s.cores ∧ (s.setLine i k).parts = s.parts := ⟨rfl, rfl⟩

@[simp] theorem cores_parts_setTag (i : Nat) (k : Option SectorTag) :
    (s.setTag i k).cores = s.cores ∧ (s.setTag i k).parts = s.parts := ⟨rfl, rfl⟩

@[simp] theorem cores_parts_setPoison (i : Nat) (k : Bool) :
    (s.setPoison i k).cores = s.cores ∧ (s.setPoison i k).parts = s.parts := ⟨rfl, rfl⟩

@[simp] theorem cores_parts_setL1 (port : Nat) (k : List XltEntry) :
    (s.setL1 port k).cores = s.cores ∧ (s.setL1 port k).parts = s.parts := ⟨rfl, rfl⟩

@[simp] theorem cores_parts_setL2 (d : Nat) (k : List XltEntry) :
    (s.setL2 d k).cores = s.cores ∧ (s.setL2 d k).parts = s.parts := ⟨rfl, rfl⟩

@[simp] theorem cores_parts_setInWin (w : Nat) (k : InWin) :
    (s.setInWin w k).cores = s.cores ∧ (s.setInWin w k).parts = s.parts := ⟨rfl, rfl⟩

@[simp] theorem cores_parts_setTxn (t : Nat) (k : Option Txn) :
    (s.setTxn t k).cores = s.cores ∧ (s.setTxn t k).parts = s.parts := ⟨rfl, rfl⟩

@[simp] theorem cores_parts_newTxn (t : Txn) : (s.newTxn t).cores = s.cores ∧ (s.newTxn t).parts = s.parts := ⟨rfl, rfl⟩

@[simp] theorem cores_parts_setObj (n : Nat) (k : SyncObj) :
    (s.setObj n k).cores = s.cores ∧ (s.setObj n k).parts = s.parts := ⟨rfl, rfl⟩

@[simp] theorem cores_parts_setPoolPage (i : Nat) (k : Option PoolPage) :
    (s.setPoolPage i k).cores = s.cores ∧ (s.setPoolPage i k).parts = s.parts := ⟨rfl, rfl⟩

@[simp] theorem cores_parts_setArena (i : Nat) (k : Option Nat) :
    (s.setArena i k).cores = s.cores ∧ (s.setArena i k).parts = s.parts := ⟨rfl, rfl⟩

@[simp] theorem cores_parts_setPort (m : Nat) (k : Port) :
    (s.setPort m k).cores = s.cores ∧ (s.setPort m k).parts = s.parts := ⟨rfl, rfl⟩

@[simp] theorem cores_parts_setTokens (m k : Nat) :
    (s.setTokens m k).cores = s.cores ∧ (s.setTokens m k).parts = s.parts := ⟨rfl, rfl⟩

@[simp] theorem cores_parts_setServed (i : Nat) (k : HomeWin) :
    (s.setServed i k).cores = s.cores ∧ (s.setServed i k).parts = s.parts := ⟨rfl, rfl⟩

@[simp] theorem cores_parts_setLnk (i : Nat) (k : Link) :
    (s.setLnk i k).cores = s.cores ∧ (s.setLnk i k).parts = s.parts := ⟨rfl, rfl⟩

@[simp] theorem cores_parts_modLnk (i : Nat) (f : Link → Link) :
    (s.modLnk i f).cores = s.cores ∧ (s.modLnk i f).parts = s.parts := ⟨rfl, rfl⟩

@[simp] theorem cores_parts_setCq (fn r : Nat) (k : Cq) :
    (s.setCq fn r k).cores = s.cores ∧ (s.setCq fn r k).parts = s.parts := ⟨rfl, rfl⟩

@[simp] theorem cores_parts_modDesc (i : Nat) (f : HostDesc → HostDesc) :
    (s.modDesc i f).cores = s.cores ∧ (s.modDesc i f).parts = s.parts := ⟨rfl, rfl⟩

@[simp] theorem cores_parts_hostWrite (fn a : Nat) (bs : List Byte) :
    (s.hostWrite fn a bs).cores = s.cores ∧ (s.hostWrite fn a bs).parts = s.parts := ⟨rfl, rfl⟩

@[simp] theorem cores_parts_ledgerPart (type p object code arg value : Nat) :
    (s.ledgerPart type p object code arg value).cores = s.cores
      ∧ (s.ledgerPart type p object code arg value).parts = s.parts := by simp [State.ledgerPart]

@[simp] theorem cores_parts_ledger (type source object code value : Nat) :
    (s.ledger type source object code value).cores = s.cores
      ∧ (s.ledger type source object code value).parts = s.parts := by simp [State.ledger]

@[simp] theorem cores_parts_drbg (n : Nat) : (s.drbg n).cores = s.cores ∧ (s.drbg n).parts = s.parts := by simp [State.drbg]
@[simp] theorem cores_parts_newKey : s.newKey.1.cores = s.cores ∧ s.newKey.1.parts = s.parts := by simp [State.newKey]

@[simp] theorem cores_parts_setInst (v : Nat) (k : Inst) :
    (s.setInst v k).cores = s.cores ∧ (s.setInst v k).parts = s.parts := ⟨rfl, rfl⟩

@[simp] theorem cores_parts_mbEvent (p type detail : Nat) :
    (s.mbEvent p type detail).cores = s.cores ∧ (s.mbEvent p type detail).parts = s.parts := by
  simp only [State.mbEvent]
  split <;> simp

@[simp] theorem cores_parts_tellFault (p vcore code : Nat) :
    (s.tellFault p vcore code).cores = s.cores ∧ (s.tellFault p vcore code).parts = s.parts := by simp [State.tellFault]

@[simp] theorem cores_parts_openLine (c off : Nat) :
    (s.openLine c off).cores = s.cores ∧ (s.openLine c off).parts = s.parts := by simp [State.openLine]

@[simp] theorem cores_parts_spadPut (c lo hi off : Nat) (b : Byte) :
    (s.spadPut c lo hi off b).cores = s.cores ∧ (s.spadPut c lo hi off b).parts = s.parts := by simp [State.spadPut]

@[simp] theorem cores_parts_spadPuts (c lo hi off : Nat) (a6 : List Byte) :
    (s.spadPuts c lo hi off a6).cores = s.cores ∧ (s.spadPuts c lo hi off a6).parts = s.parts := by
  induction a6 generalizing s c lo hi off with
  | nil => exact ⟨rfl, rfl⟩
  | cons x xs ih => simp [State.spadPuts, ih]

@[simp] theorem cores_parts_spadWrite (c off : Nat) (bs : List Byte) :
    (s.spadWrite c off bs).cores = s.cores ∧ (s.spadWrite c off bs).parts = s.parts := by simp [State.spadWrite]

@[simp] theorem cores_parts_spadSetWord (c off v : Nat) :
    (s.spadSetWord c off v).cores = s.cores ∧ (s.spadSetWord c off v).parts = s.parts := by simp [State.spadSetWord]

@[simp] theorem cores_parts_flashClear (k : Nat) :
    (s.flashClear k).cores = s.cores ∧ (s.flashClear k).parts = s.parts := ⟨rfl, rfl⟩

@[simp] theorem cores_parts_countPoison (c n : Nat) :
    (s.countPoison c n).cores = s.cores ∧ (s.countPoison c n).parts = s.parts := ⟨rfl, rfl⟩

@[simp] theorem cores_parts_calm (sec : Nat) : (s.calm sec).cores = s.cores ∧ (s.calm sec).parts = s.parts := ⟨rfl, rfl⟩

@[simp] theorem cores_parts_markPoison (sec : Nat) :
    (s.markPoison sec).cores = s.cores ∧ (s.markPoison sec).parts = s.parts := ⟨rfl, rfl⟩

@[simp] theorem cores_parts_dropPoison (sec : Nat) :
    (s.dropPoison sec).cores = s.cores ∧ (s.dropPoison sec).parts = s.parts := ⟨rfl, rfl⟩

@[simp] theorem cores_parts_memRecord (code a : Nat) :
    (s.memRecord code a).cores = s.cores ∧ (s.memRecord code a).parts = s.parts := by
  simp only [State.memRecord]
  split <;> simp

@[simp] theorem cores_parts_corrected (a : Nat) :
    (s.corrected a).cores = s.cores ∧ (s.corrected a).parts = s.parts := by simp [State.corrected]

@[simp] theorem cores_parts_uncorrected (a : Nat) :
    (s.uncorrected a).cores = s.cores ∧ (s.uncorrected a).parts = s.parts := by simp [State.uncorrected]

@[simp] theorem cores_parts_integrityAlarm (p ipa : Nat) :
    (s.integrityAlarm p ipa).cores = s.cores ∧ (s.integrityAlarm p ipa).parts = s.parts := by simp [State.integrityAlarm]

@[simp] theorem cores_parts_loseLine (sec : Nat) :
    (s.loseLine sec).cores = s.cores ∧ (s.loseLine sec).parts = s.parts := by simp [State.loseLine]

@[simp] theorem cores_parts_writeBack (sec : Nat) :
    (s.writeBack sec).cores = s.cores ∧ (s.writeBack sec).parts = s.parts := by simp [State.writeBack]

@[simp] theorem cores_parts_evict (sec : Nat) (l : CacheLine) :
    (s.evict sec l).cores = s.cores ∧ (s.evict sec l).parts = s.parts := by
  simp only [State.evict]
  (repeat' split) <;> simp

theorem cores_parts_takeWay {s t : State} {a w : Nat} {ways : List Nat} (h : s.takeWay a ways = some (w, t)) :
    t.cores = s.cores ∧ t.parts = s.parts := by
  simp only [State.takeWay] at h
  split at h
  · cases h
    exact ⟨rfl, rfl⟩
  · split at h
    · cases h
      simp
    · cases h

@[simp] theorem cores_parts_touchLine (a p valid dirty : Nat) :
    (s.touchLine a p valid dirty).cores = s.cores ∧ (s.touchLine a p valid dirty).parts = s.parts := by
  simp only [State.touchLine]
  split
  · simp
  · split
    · next h => simpa using cores_parts_takeWay h
    · exact ⟨rfl, rfl⟩

@[simp] theorem cores_parts_charge (g p cost n : Nat) (paid : Bool) :
    (s.charge g p cost n paid).cores = s.cores ∧ (s.charge g p cost n paid).parts = s.parts := by simp [State.charge]

@[simp] theorem cores_parts_stackRead (p ipa a n : Nat) (e : Ecc) (paid : Bool) :
    (s.stackRead p ipa a n e paid).1.cores = s.cores ∧ (s.stackRead p ipa a n e paid).1.parts = s.parts := by
  simp only [State.stackRead]
  (repeat' split) <;> simp

@[simp] theorem cores_parts_dropBad (a : Nat) (l : CacheLine) :
    (s.dropBad a l).cores = s.cores ∧ (s.dropBad a l).parts = s.parts := by simp [State.dropBad]

@[simp] theorem cores_parts_homeRead (p ipa a n : Nat) (e : Ecc) (paid : Bool) :
    (s.homeRead p ipa a n e paid).1.cores = s.cores ∧ (s.homeRead p ipa a n e paid).1.parts = s.parts := by
  simp only [State.homeRead]
  (repeat' split) <;> simp

@[simp] theorem cores_parts_storeSector (p ipa a : Nat) (bs : List Byte) :
    (s.storeSector p ipa a bs).cores = s.cores ∧ (s.storeSector p ipa a bs).parts = s.parts := by simp [State.storeSector]

@[simp] theorem cores_parts_stackWrite (p ipa a : Nat) (bs : List Byte) (e : Ecc) :
    (s.stackWrite p ipa a bs e).1.cores = s.cores ∧ (s.stackWrite p ipa a bs e).1.parts = s.parts := by simp [State.stackWrite]

@[simp] theorem cores_parts_partWrite (p ipa a : Nat) (bs : List Byte) (e : Ecc) (paid : Bool) :
    (s.partWrite p ipa a bs e paid).1.cores = s.cores ∧ (s.partWrite p ipa a bs e paid).1.parts = s.parts := by
  simp only [State.partWrite]
  (repeat' split) <;> simp

@[simp] theorem cores_parts_healLine (sec : Nat) : (s.healLine sec).cores = s.cores ∧ (s.healLine sec).parts = s.parts := by
  simp only [State.healLine]
  split <;> simp

@[simp] theorem cores_parts_homeWrite (p ipa a : Nat) (bs : List Byte) (e : Ecc) (paid : Bool) :
    (s.homeWrite p ipa a bs e paid).1.cores = s.cores ∧ (s.homeWrite p ipa a bs e paid).1.parts = s.parts := by
  simp only [State.homeWrite]
  (repeat' split) <;> simp

@[simp] theorem cores_parts_takeTokens (port cls g n : Nat) :
    (s.takeTokens port cls g n).cores = s.cores ∧ (s.takeTokens port cls g n).parts = s.parts := by simp [State.takeTokens]

@[simp] theorem cores_parts_hostGoes (fn a : Nat) :
    (s.hostGoes fn a).cores = s.cores ∧ (s.hostGoes fn a).parts = s.parts := by simp [State.hostGoes]

@[simp] theorem cores_parts_stage2At (d p ipa : Nat) :
    (s.stage2At d p ipa).1.cores = s.cores ∧ (s.stage2At d p ipa).1.parts = s.parts := by
  simp only [State.stage2At]
  (repeat' split) <;> simp

@[simp] theorem cores_parts_readTable (d p ipa : Nat) :
    (s.readTable d p ipa).1.cores = s.cores ∧ (s.readTable d p ipa).1.parts = s.parts := by
  simp only [State.readTable]
  split
  · next h => simp [fst_of_eq h]
  · next s1 t h =>
    have h1 : s1.cores = s.cores ∧ s1.parts = s.parts := by simp [fst_of_eq h]
    split
    · exact h1
    · split
      · split
        · simp [h1]
        · exact h1
      · split <;> next h2 => simp [fst_of_eq h2, h1]

@[simp] theorem cores_parts_s1Walk (d p va fuel table : Nat) :
    (s.s1Walk d p va fuel table).1.cores = s.cores ∧ (s.s1Walk d p va fuel table).1.parts = s.parts := by
  induction fuel generalizing s table with
  | zero => exact ⟨rfl, rfl⟩
  | succ n ih =>
    simp only [State.s1Walk]
    split
    · next h => simp [fst_of_eq h]
    · next h => simp [ih, fst_of_eq h]

@[simp] theorem cores_parts_walk (d p va : Nat) (write : Bool) :
    (s.walk d p va write).1.cores = s.cores ∧ (s.walk d p va write).1.parts = s.parts := by
  simp only [State.walk]
  split
  · exact ⟨rfl, rfl⟩
  · split
    · next h => simp [fst_of_eq h]
    · next s1 a h =>
      have h1 : s1.cores = s.cores ∧ s1.parts = s.parts := by simp [fst_of_eq h]
      split
      · split
        · exact h1
        · split <;> next h2 => simp [fst_of_eq h2, h1]
      · split
        · exact h1
        · split <;> next h2 => simp [fst_of_eq h2, h1]

@[simp] theorem cores_parts_xltFault (p port : Nat) (write : Bool) (f : XFault) :
    (s.xltFault p port write f).cores = s.cores ∧ (s.xltFault p port write f).parts = s.parts := by simp [State.xltFault]

@[simp] theorem cores_parts_fillL1 (e : Nat) (x : XltEntry) :
    (s.fillL1 e x).cores = s.cores ∧ (s.fillL1 e x).parts = s.parts := by simp [State.fillL1]

@[simp] theorem cores_parts_translate (e p va : Nat) (write : Bool) :
    (s.translate e p va write).1.cores = s.cores ∧ (s.translate e p va write).1.parts = s.parts := by
  simp only [State.translate]
  split
  · simp
  · split
    · simp
    · split <;> next h => simp [fst_of_eq h]

@[simp] theorem cores_parts_dropXlt (f : XltEntry → Bool) :
    (s.dropXlt f).cores = s.cores ∧ (s.dropXlt f).parts = s.parts := ⟨rfl, rfl⟩

@[simp] theorem cores_parts_spend (e p a n : Nat) :
    (s.spend e p a n).cores = s.cores ∧ (s.spend e p a n).parts = s.parts := by simp [State.spend]

@[simp] theorem cores_parts_readVa (e p va n fuel : Nat) :
    (s.readVa e p va n fuel).1.cores = s.cores ∧ (s.readVa e p va n fuel).1.parts = s.parts := by
  induction fuel generalizing s va n with
  | zero => exact ⟨rfl, rfl⟩
  | succ k ih =>
    simp only [State.readVa]
    split
    · exact ⟨rfl, rfl⟩
    · split
      · next h => simp [fst_of_eq h]
      · next s1 x h =>
        have h1 : s1.cores = s.cores ∧ s1.parts = s.parts := by simp [fst_of_eq h]
        split
        · split <;> simp [ih, h1]
        · split <;> next h2 => simp [ih, fst_of_eq h2, h1]

@[simp] theorem cores_parts_writeVa (e p va : Nat) (bs : List Byte) (fuel : Nat) :
    (s.writeVa e p va bs fuel).1.cores = s.cores ∧ (s.writeVa e p va bs fuel).1.parts = s.parts := by
  induction fuel generalizing s va bs with
  | zero => exact ⟨rfl, rfl⟩
  | succ k ih =>
    simp only [State.writeVa]
    split
    · exact ⟨rfl, rfl⟩
    · split
      · next h => simp [fst_of_eq h]
      · next s1 x h =>
        have h1 : s1.cores = s.cores ∧ s1.parts = s.parts := by simp [fst_of_eq h]
        split
        · split <;> simp [ih, h1]
        · split <;> next h2 => simp [ih, fst_of_eq h2, h1]

@[simp] theorem cores_parts_takeRegions (p g : Nat) (a4 : List Nat) :
    (s.takeRegions p g a4).cores = s.cores ∧ (s.takeRegions p g a4).parts = s.parts := by
  induction a4 generalizing s p g with
  | nil => exact ⟨rfl, rfl⟩
  | cons x xs ih => simp [State.takeRegions, ih]

@[simp] theorem cores_parts_giveTakings (g : Nat) (a3 : List Taking) :
    (s.giveTakings g a3).cores = s.cores ∧ (s.giveTakings g a3).parts = s.parts := by
  induction a3 generalizing s g with
  | nil => exact ⟨rfl, rfl⟩
  | cons x xs ih => simp [State.giveTakings, ih]

@[simp] theorem cores_parts_wakeGroup (g : Nat) :
    (s.wakeGroup g).cores = s.cores ∧ (s.wakeGroup g).parts = s.parts := by simp [State.wakeGroup]

@[simp] theorem cores_parts_dropFlit (off : Nat) :
    (s.dropFlit off).cores = s.cores ∧ (s.dropFlit off).parts = s.parts := by simp [State.dropFlit]

@[simp] theorem cores_parts_freeRx (f : Flit) : (s.freeRx f).cores = s.cores ∧ (s.freeRx f).parts = s.parts := by
  simp only [State.freeRx]
  split <;> simp

@[simp] theorem cores_parts_freeRxs (a2 : List LFlit) : (s.freeRxs a2).cores = s.cores ∧ (s.freeRxs a2).parts = s.parts := by
  induction a2 generalizing s  with
  | nil => exact ⟨rfl, rfl⟩
  | cons x xs ih => simp [State.freeRxs, ih]

@[simp] theorem cores_parts_sendBundle (i : Nat) (fs : List LFlit) :
    (s.sendBundle i fs).cores = s.cores ∧ (s.sendBundle i fs).parts = s.parts := ⟨rfl, rfl⟩

@[simp] theorem cores_parts_pumpLink (i a3 : Nat) : (s.pumpLink i a3).cores = s.cores ∧ (s.pumpLink i a3).parts = s.parts := by
  induction a3 generalizing s i with
  | zero => exact ⟨rfl, rfl⟩
  | succ n ih => simp [State.pumpLink, ih]

@[simp] theorem cores_parts_pump (i : Nat) : (s.pump i).cores = s.cores ∧ (s.pump i).parts = s.parts := by simp [State.pump]

@[simp] theorem cores_parts_queueOn (i : Nat) (f : Flit) :
    (s.queueOn i f).cores = s.cores ∧ (s.queueOn i f).parts = s.parts := by simp [State.queueOn]

@[simp] theorem cores_parts_deliver (f : Flit) :
    (s.deliver f).cores = s.cores ∧ (s.deliver f).parts = s.parts := by simp [State.deliver]

@[simp] theorem cores_parts_route (f : Flit) : (s.route f).cores = s.cores ∧ (s.route f).parts = s.parts := by
  simp only [State.route]
  (repeat' split) <;> simp

@[simp] theorem cores_parts_sendFlit (f : Flit) :
    (s.sendFlit f).cores = s.cores ∧ (s.sendFlit f).parts = s.parts := by simp [State.sendFlit]

@[simp] theorem cores_parts_upset (c : Nat) (a3 : Option (Fin 1048576)) :
    (s.upset c a3).cores = s.cores ∧ (s.upset c a3).parts = s.parts := by
  simp only [State.upset]
  split <;> simp

@[simp] theorem cores_parts_countRefuse (code : Nat) :
    (s.countRefuse code).cores = s.cores ∧ (s.countRefuse code).parts = s.parts := ⟨rfl, rfl⟩

@[simp] theorem cores_parts_sendFlits (a2 : List Flit) :
    (s.sendFlits a2).cores = s.cores ∧ (s.sendFlits a2).parts = s.parts := by
  induction a2 generalizing s  with
  | nil => exact ⟨rfl, rfl⟩
  | cons x xs ih => simp [State.sendFlits, ih]

@[simp] theorem cores_parts_sendWin (r : WinReq) :
    (s.sendWin r).cores = s.cores ∧ (s.sendWin r).parts = s.parts := by simp [State.sendWin]

@[simp] theorem cores_parts_pumpWinQ (kept a3 : List WinReq) :
    (s.pumpWinQ kept a3).cores = s.cores ∧ (s.pumpWinQ kept a3).parts = s.parts := by
  induction a3 generalizing s kept with
  | nil => exact ⟨rfl, rfl⟩
  | cons x xs ih => simp [State.pumpWinQ, ih]

@[simp] theorem cores_parts_pumpWin : s.pumpWin.cores = s.cores ∧ s.pumpWin.parts = s.parts := by simp [State.pumpWin]

@[simp] theorem cores_parts_xRead (x : Xfer) (e space a n : Nat) :
    (s.xRead x e space a n).1.cores = s.cores ∧ (s.xRead x e space a n).1.parts = s.parts := by
  simp only [State.xRead]
  (repeat' split) <;> simp

@[simp] theorem cores_parts_xWrite (x : Xfer) (e space a : Nat) (bs : List Byte) :
    (s.xWrite x e space a bs).1.cores = s.cores ∧ (s.xWrite x e space a bs).1.parts = s.parts := by
  simp only [State.xWrite]
  (repeat' split) <;> simp

@[simp] theorem cores_parts_mv_put (x : Xfer) (e space a : Nat) (bs : List Byte) :
    (m.put x e space a bs).s.cores = m.s.cores ∧ (m.put x e space a bs).s.parts = m.s.parts := by
  simp only [Mv.put]
  split <;> simp

@[simp] theorem cores_parts_mv_putRow (x : Xfer) (e : Nat) (dd : Desc) (df : Fmt) (row : Nat)
    (r : List Byte × List Byte × Counts) :
    (m.putRow x e dd df row r).s.cores = m.s.cores ∧ (m.putRow x e dd df row r).s.parts = m.s.parts := by
  simp only [Mv.putRow]
  split <;> simp

@[simp] theorem cores_parts_mv_getRow (x : Xfer) (e : Nat) (sd : Desc) (sf : Fmt) (row : Nat) :
    (m.getRow x e sd sf row).1.s.cores = m.s.cores ∧ (m.getRow x e sd sf row).1.s.parts = m.s.parts := by
  simp only [Mv.getRow]
  split
  · exact ⟨rfl, rfl⟩
  · split
    · next s1 bs h =>
      have h1 : s1.cores = m.s.cores ∧ s1.parts = m.s.parts := by simp [fst_of_eq h]
      split <;> next h2 => simp [fst_of_eq h2, h1]
    · next h => simp [fst_of_eq h]

@[simp] theorem cores_parts_mv_moveRow (x : Xfer) (e : Nat) (sd dd : Desc) (sf df : Fmt) (srow drow idx : Nat) :
    (m.moveRow x e sd dd sf df srow drow idx).s.cores = m.s.cores ∧
      (m.moveRow x e sd dd sf df srow drow idx).s.parts = m.s.parts := by
  simp [Mv.moveRow]

@[simp] theorem cores_parts_mv_moveRows (x : Xfer) (e : Nat) (sd dd : Desc) (sf df : Fmt) (base i n : Nat) :
    (m.moveRows x e sd dd sf df base i n).s.cores = m.s.cores ∧
      (m.moveRows x e sd dd sf df base i n).s.parts = m.s.parts := by
  induction n generalizing m i with
  | zero => exact ⟨rfl, rfl⟩
  | succ n ih =>
    simp only [Mv.moveRows]
    split <;> simp [ih]

@[simp] theorem cores_parts_mv_readRows (x : Xfer) (e : Nat) (sd : Desc) (sf : Fmt) (i n : Nat) :
    (m.readRows x e sd sf i n).1.s.cores = m.s.cores ∧ (m.readRows x e sd sf i n).1.s.parts = m.s.parts := by
  induction n generalizing m i with
  | zero => exact ⟨rfl, rfl⟩
  | succ n ih => simp [Mv.readRows, ih]

@[simp] theorem cores_parts_mv_putTrans (x : Xfer) (e : Nat) (sd dd : Desc) (sf df : Fmt)
    (rows : List (List Byte × List Byte)) (base j n : Nat) :
    (m.putTrans x e sd dd sf df rows base j n).s.cores = m.s.cores ∧
      (m.putTrans x e sd dd sf df rows base j n).s.parts = m.s.parts := by
  induction n generalizing m j with
  | zero => exact ⟨rfl, rfl⟩
  | succ n ih =>
    simp only [Mv.putTrans]
    split <;> simp [ih]

@[simp] theorem cores_parts_mv_move2d (x : Xfer) (e : Nat) (sd dd : Desc) (sf df : Fmt) (base : Nat) :
    (m.move2d x e sd dd sf df base).s.cores = m.s.cores ∧
      (m.move2d x e sd dd sf df base).s.parts = m.s.parts := by
  simp only [Mv.move2d]
  split <;> simp

@[simp] theorem cores_parts_mv_repeats (x : Xfer) (e : Nat) (rep : Repeat) (sf df : Fmt) (r n : Nat) :
    (m.repeats x e rep sf df r n).s.cores = m.s.cores ∧
      (m.repeats x e rep sf df r n).s.parts = m.s.parts := by
  induction n generalizing m r with
  | zero => exact ⟨rfl, rfl⟩
  | succ n ih =>
    simp only [Mv.repeats]
    (repeat' split) <;> simp [ih]

@[simp] theorem cores_parts_mv_gather (x : Xfer) (e : Nat) (sf df : Fmt) (i : Nat) (l : List Nat) :
    (m.gather x e sf df i l).s.cores = m.s.cores ∧ (m.gather x e sf df i l).s.parts = m.s.parts := by
  induction l generalizing m i with
  | nil => exact ⟨rfl, rfl⟩
  | cons n ns ih =>
    simp only [Mv.gather]
    (repeat' split) <;> simp [ih]

@[simp] theorem cores_parts_mv_scatter (x : Xfer) (e : Nat) (sf df : Fmt) (i : Nat) (l : List Nat) :
    (m.scatter x e sf df i l).s.cores = m.s.cores ∧ (m.scatter x e sf df i l).s.parts = m.s.parts := by
  induction l generalizing m i with
  | nil => exact ⟨rfl, rfl⟩
  | cons n ns ih =>
    simp only [Mv.scatter]
    (repeat' split) <;> simp [ih]

@[simp] theorem cores_parts_mv_direct (x : Xfer) (e : Nat) (sf : Fmt) (i : Nat) (l : List Nat) :
    (m.direct x e sf i l).s.cores = m.s.cores ∧ (m.direct x e sf i l).s.parts = m.s.parts := by
  induction l generalizing m i with
  | nil => exact ⟨rfl, rfl⟩
  | cons n ns ih =>
    simp only [Mv.direct]
    (repeat' split) <;> simp [ih]

@[simp] theorem cores_parts_modXfer (e core seq : Nat) (f : Xfer → Xfer) :
    (s.modXfer e core seq f).cores = s.cores ∧ (s.modXfer e core seq f).parts = s.parts := ⟨rfl, rfl⟩

@[simp] theorem cores_parts_mv_close (x : Xfer) (e : Nat) :
    (m.close x e).cores = m.s.cores ∧ (m.close x e).parts = m.s.parts := by
  simp [Mv.close]

@[simp] theorem cores_parts_leaveOpen (x : Xfer) (e : Nat) (a4 : List (Nat × Nat × Nat)) :
    (s.leaveOpen x e a4).cores = s.cores ∧ (s.leaveOpen x e a4).parts = s.parts := by
  induction a4 generalizing s x e with
  | nil => exact ⟨rfl, rfl⟩
  | cons x xs ih => simp [State.leaveOpen, ih]

@[simp] theorem cores_parts_mv_rest (x : Xfer) (e : Nat) (rs : List (Nat × Nat × Nat)) :
    (m.rest x e rs).s.cores = m.s.cores ∧ (m.rest x e rs).s.parts = m.s.parts := by
  simp only [Mv.rest]
  split <;> simp

@[simp] theorem cores_parts_refuseXfer (x : Xfer) (e st : Nat) :
    (s.refuseXfer x e st).cores = s.cores ∧ (s.refuseXfer x e st).parts = s.parts := by simp [State.refuseXfer]

@[simp] theorem cores_parts_runDirect (x : Xfer) (e : Nat) :
    (s.runDirect x e).cores = s.cores ∧ (s.runDirect x e).parts = s.parts := by
  simp only [State.runDirect]
  split <;> simp

@[simp] theorem cores_parts_runXfer (x : Xfer) (e : Nat) :
    (s.runXfer x e).cores = s.cores ∧ (s.runXfer x e).parts = s.parts := by
  simp only [State.runXfer]
  (repeat' split) <;> simp

@[simp] theorem cores_parts_fetchRanges (x : Xfer) (e : Nat) (l : List (Nat × Nat)) :
    (s.fetchRanges x e l).cores = s.cores ∧ (s.fetchRanges x e l).parts = s.parts := by
  induction l generalizing s with
  | nil => simp [State.fetchRanges]
  | cons q qs ih =>
    simp only [State.fetchRanges]
    split <;> simp [ih]

@[simp] theorem cores_parts_sendRequests (x : Xfer) (e self : Nat) (entries : List Nat) (count : Bool) (a7 : List Nat) :
    (s.sendRequests x e self entries count a7).cores = s.cores
      ∧ (s.sendRequests x e self entries count a7).parts = s.parts := by
  induction a7 generalizing s x e self entries count with
  | nil => exact ⟨rfl, rfl⟩
  | cons x xs ih => simp [State.sendRequests, ih]

@[simp] theorem cores_parts_spillRequest (x : Xfer) (e : Nat) (d : Disp) :
    (s.spillRequest x e d).1.cores = s.cores ∧ (s.spillRequest x e d).1.parts = s.parts := by simp [State.spillRequest]

@[simp] theorem cores_parts_openDispatch (x : Xfer) (e : Nat) (l : Desc) (st : Nat) :
    (s.openDispatch x e l st).cores = s.cores ∧ (s.openDispatch x e l st).parts = s.parts := by simp [State.openDispatch]

@[simp] theorem cores_parts_runDispatch (x : Xfer) (e : Nat) :
    (s.runDispatch x e).cores = s.cores ∧ (s.runDispatch x e).parts = s.parts := by
  simp only [State.runDispatch]
  split <;> simp

@[simp] theorem cores_parts_takePages (p : Nat) (a3 : List (Nat × Nat)) :
    (s.takePages p a3).cores = s.cores ∧ (s.takePages p a3).parts = s.parts := by
  induction a3 generalizing s p with
  | nil => exact ⟨rfl, rfl⟩
  | cons x xs ih => simp [State.takePages, ih]

@[simp] theorem cores_parts_runAlloc (x : Xfer) (e : Nat) :
    (s.runAlloc x e).cores = s.cores ∧ (s.runAlloc x e).parts = s.parts := by
  simp only [State.runAlloc]
  split <;> simp

@[simp] theorem cores_parts_freeSlot (p i pg : Nat) :
    (s.freeSlot p i pg).cores = s.cores ∧ (s.freeSlot p i pg).parts = s.parts := ⟨rfl, rfl⟩

@[simp] theorem cores_parts_freeOne (p : Nat) (r : State × Nat) (va : Nat) :
    (State.freeOne p r va).1.cores = r.1.cores ∧ (State.freeOne p r va).1.parts = r.1.parts := by
  simp only [State.freeOne]
  (repeat' split) <;> simp

@[simp] theorem cores_parts_freeList (p : Nat) (vs : List Nat) :
    (s.freeList p vs).1.cores = s.cores ∧ (s.freeList p vs).1.parts = s.parts :=
  List.foldlRecOn (motive := fun r : State × Nat => r.1.cores = s.cores ∧ r.1.parts = s.parts) vs _ ⟨rfl, rfl⟩
    fun _ h _ _ => by simp [h]

@[simp] theorem cores_parts_runFree (x : Xfer) (e : Nat) :
    (s.runFree x e).cores = s.cores ∧ (s.runFree x e).parts = s.parts := by
  simp only [State.runFree]
  split <;> simp

@[simp] theorem cores_parts_rewriteEntry (x : Xfer) (d : Disp) (i b : Nat) :
    (s.rewriteEntry x d i b).cores = s.cores ∧ (s.rewriteEntry x d i b).parts = s.parts := by simp [State.rewriteEntry]

@[simp] theorem cores_parts_mv_putGranted (x : Xfer) (e : Nat) (d : Disp) (dd : Desc) (sf df : Fmt) (slot : Nat) (l : List Nat) :
    
    (m.putGranted x e d dd sf df slot l).s.cores = m.s.cores ∧
      (m.putGranted x e d dd sf df slot l).s.parts = m.s.parts := by
  induction l generalizing m slot with
  | nil => exact ⟨rfl, rfl⟩
  | cons i is ih =>
    simp only [Mv.putGranted]
    split <;> simp [ih]

@[simp] theorem cores_parts_mv_deferRow (x : Xfer) (e : Nat) (d : Disp) (b : Nat) (sf : Fmt) (i : Nat) :
    (m.deferRow x e d b sf i).1.s.cores = m.s.cores ∧ (m.deferRow x e d b sf i).1.s.parts = m.s.parts := by
  simp only [Mv.deferRow]
  (repeat' split) <;> simp

@[simp] theorem cores_parts_mv_dealWith (x : Xfer) (e : Nat) (d : Disp) (sf : Fmt) (o : Nat × Nat × Nat) :
    (m.dealWith x e d sf o).1.s.cores = m.s.cores ∧ (m.dealWith x e d sf o).1.s.parts = m.s.parts := by
  simp only [Mv.dealWith]
  (repeat' split) <;> simp

@[simp] theorem cores_parts_mv_dealAll (x : Xfer) (e : Nat) (d : Disp) (sf : Fmt) (l : List (Nat × Nat × Nat)) :
    (m.dealAll x e d sf l).1.s.cores = m.s.cores ∧ (m.dealAll x e d sf l).1.s.parts = m.s.parts := by
  induction l generalizing m d with
  | nil => exact ⟨rfl, rfl⟩
  | cons o os ih => simp [Mv.dealAll, ih]

@[simp] theorem cores_parts_cqInterrupt (fn q : Nat) :
    (s.cqInterrupt fn q).cores = s.cores ∧ (s.cqInterrupt fn q).parts = s.parts := by simp [State.cqInterrupt]

@[simp] theorem cores_parts_cqPut (fn q : Nat) (c : CqRec) :
    (s.cqPut fn q c).cores = s.cores ∧ (s.cqPut fn q c).parts = s.parts := by simp [State.cqPut]

@[simp] theorem cores_parts_cqOffer (fn q : Nat) (c : CqRec) :
    (s.cqOffer fn q c).cores = s.cores ∧ (s.cqOffer fn q c).parts = s.parts := by simp [State.cqOffer]

@[simp] theorem cores_parts_refOutcome (fn bit entry code : Nat) (sent : Bool) :
    (s.refOutcome fn bit entry code sent).cores = s.cores
      ∧ (s.refOutcome fn bit entry code sent).parts = s.parts := by simp [State.refOutcome]

@[simp] theorem cores_parts_sendRefs (d : HostDesc) (a3 : List Nat) :
    (s.sendRefs d a3).1.cores = s.cores ∧ (s.sendRefs d a3).1.parts = s.parts := by
  induction a3 generalizing s d with
  | nil => exact ⟨rfl, rfl⟩
  | cons x xs ih => simp [State.sendRefs, ih]

@[simp] theorem cores_parts_finishDesc (d : HostDesc) (status result : Nat) :
    (s.finishDesc d status result).cores = s.cores
      ∧ (s.finishDesc d status result).parts = s.parts := by simp [State.finishDesc]

@[simp] theorem cores_parts_complete (id status result : Nat) :
    (s.complete id status result).cores = s.cores ∧ (s.complete id status result).parts = s.parts := by
  simp only [State.complete]
  (repeat' split) <;> simp

@[simp] theorem cores_parts_endRefused (fn r a4 : Nat) :
    (s.endRefused fn r a4).cores = s.cores ∧ (s.endRefused fn r a4).parts = s.parts := by
  induction a4 generalizing s fn r with
  | zero => exact ⟨rfl, rfl⟩
  | succ n ih =>
    simp only [State.endRefused]
    (repeat' split) <;> simp [ih]

@[simp] theorem cores_parts_ringGo (fn r : Nat) :
    (s.ringGo fn r).cores = s.cores ∧ (s.ringGo fn r).parts = s.parts := by simp [State.ringGo]

@[simp] theorem cores_parts_endDesc (id status result : Nat) :
    (s.endDesc id status result).cores = s.cores ∧ (s.endDesc id status result).parts = s.parts := by
  simp only [State.endDesc]
  split <;> simp

@[simp] theorem cores_parts_gop (p tree op dir seq link label idx units off : Nat) (body : List Byte) :
    (s.gop p tree op dir seq link label idx units off body).cores = s.cores
      ∧ (s.gop p tree op dir seq link label idx units off body).parts = s.parts := by simp [State.gop]

@[simp] theorem cores_parts_endHostWaits (status result : Nat) (a4 : List Waiter) :
    (s.endHostWaits status result a4).cores = s.cores ∧ (s.endHostWaits status result a4).parts = s.parts := by
  fun_induction State.endHostWaits s status result a4 <;> simp_all

@[simp] theorem cores_parts_abortCopies (a2 : List (Nat × Xfer)) :
    (s.abortCopies a2).cores = s.cores ∧ (s.abortCopies a2).parts = s.parts := by
  induction a2 generalizing s  with
  | nil => exact ⟨rfl, rfl⟩
  | cons x xs ih =>
    simp only [State.abortCopies]
    (repeat' split) <;> simp [ih]

@[simp] theorem cores_parts_stopXfers (a2 : List (Nat × Xfer)) :
    (s.stopXfers a2).cores = s.cores ∧ (s.stopXfers a2).parts = s.parts := by
  induction a2 generalizing s  with
  | nil => exact ⟨rfl, rfl⟩
  | cons x xs ih => simp [State.stopXfers, ih]

@[simp] theorem cores_parts_dropXfers (f : Xfer → Bool) :
    (s.dropXfers f).1.cores = s.cores ∧ (s.dropXfers f).1.parts = s.parts := by simp [State.dropXfers]

@[simp] theorem cores_parts_endTenants (p : Nat) :
    (s.endTenants p).cores = s.cores ∧ (s.endTenants p).parts = s.parts := ⟨rfl, rfl⟩

@[simp] theorem cores_parts_sendEvents (a2 : List McEvent) :
    (s.sendEvents a2).cores = s.cores ∧ (s.sendEvents a2).parts = s.parts := by
  induction a2 generalizing s  with
  | nil => exact ⟨rfl, rfl⟩
  | cons x xs ih => simp [State.sendEvents, ih]

@[simp] theorem cores_parts_mctpEvent (code object : Nat) :
    (s.mctpEvent code object).cores = s.cores ∧ (s.mctpEvent code object).parts = s.parts := by
  simp only [State.mctpEvent]
  (repeat' split) <;> simp

@[simp] theorem cores_parts_endBinds (code epoch : Nat) (cat : List Byte) (hash : Bool) (a6 : List (Nat × Nat)) :
    (s.endBinds code epoch cat hash a6).cores = s.cores ∧ (s.endBinds code epoch cat hash a6).parts = s.parts := by
  induction a6 generalizing s code epoch cat hash with
  | nil => exact ⟨rfl, rfl⟩
  | cons x xs ih => simp [State.endBinds, ih]

@[simp] theorem cores_parts_mctpBindEnd (seqs : List Nat) (comp code : Nat) :
    (s.mctpBindEnd seqs comp code).cores = s.cores
      ∧ (s.mctpBindEnd seqs comp code).parts = s.parts := by simp [State.mctpBindEnd]

@[simp] theorem cores_parts_revokeWins (f : InWin → Bool) (a3 : List Nat) :
    (s.revokeWins f a3).1.cores = s.cores ∧ (s.revokeWins f a3).1.parts = s.parts := by
  induction a3 generalizing s f with
  | nil => exact ⟨rfl, rfl⟩
  | cons x xs ih => simp [State.revokeWins, ih]

@[simp] theorem cores_parts_freePool (p : Nat) : (s.freePool p).cores = s.cores ∧ (s.freePool p).parts = s.parts := ⟨rfl, rfl⟩

@[simp] theorem cores_parts_dropRegion (q : Nat) :
    (s.dropRegion q).cores = s.cores ∧ (s.dropRegion q).parts = s.parts := ⟨rfl, rfl⟩

@[simp] theorem cores_parts_dropRegions (a2 : List Nat) :
    (s.dropRegions a2).cores = s.cores ∧ (s.dropRegions a2).parts = s.parts := by
  induction a2 generalizing s  with
  | nil => exact ⟨rfl, rfl⟩
  | cons x xs ih => simp [State.dropRegions, ih]

@[simp] theorem cores_parts_calmObjs (a2 : List Nat) : (s.calmObjs a2).cores = s.cores ∧ (s.calmObjs a2).parts = s.parts := by
  induction a2 generalizing s  with
  | nil => exact ⟨rfl, rfl⟩
  | cons x xs ih => simp [State.calmObjs, ih]

@[simp] theorem cores_parts_abortQueue (a2 : List Queued) :
    (s.abortQueue a2).cores = s.cores ∧ (s.abortQueue a2).parts = s.parts := by
  induction a2 generalizing s  with
  | nil => exact ⟨rfl, rfl⟩
  | cons x xs ih => simp [State.abortQueue, ih]

@[simp] theorem cores_parts_flashAll (a2 : List Nat) : (s.flashAll a2).cores = s.cores ∧ (s.flashAll a2).parts = s.parts := by
  induction a2 generalizing s  with
  | nil => exact ⟨rfl, rfl⟩
  | cons x xs ih => simp [State.flashAll, ih]

@[simp] theorem cores_parts_resetFlit (p dir link : Nat) :
    (s.resetFlit p dir link).cores = s.cores ∧ (s.resetFlit p dir link).parts = s.parts := by simp [State.resetFlit]

@[simp] theorem cores_parts_resetFlits (p dir : Nat) (a4 : List Nat) :
    (s.resetFlits p dir a4).cores = s.cores ∧ (s.resetFlits p dir a4).parts = s.parts := by
  induction a4 generalizing s p dir with
  | nil => exact ⟨rfl, rfl⟩
  | cons x xs ih => simp [State.resetFlits, ih]
end

end Sys2Proof.Laws
end

section
/-! PROOFS. A composition reset (spec/19: R518, R519, R524, R527): what happens at the member leaves every core that the reset has
emptied as it is, the partition's state and anchor, and the result of its launch. -/
namespace Sys2Proof.Laws

open Machine

/-! ### What a reset relies on -/

/-- The core is idle, with nothing outstanding or held and no fault. -/
structure Rested (k : Core) : Prop where
  idle : k.st = .idle
  nothing : k.outstanding = []
  clean : k.fault = 0
  unheld : k.held = []

theorem not_active_of_rested {k : Core} (h : Rested k) : k.active = false := by simp [Core.active, h.idle]

theorem rested_cleared (k : Core) : Rested k.cleared := ⟨rfl, rfl, rfl, rfl⟩

/-- From `s` to `t` no core changes its owner; rested cores stay rested, but for `busy`; and the partition `p` keeps its state, its
anchor and a launch whose result is settled. -/
structure KeepsReset (p : Nat) (busy : Option Nat) (s t : State) : Prop where
  owner : ∀ d, (t.core d).part = (s.core d).part
  rested : ∀ d, some d ≠ busy → Rested (s.core d) → Rested (t.core d)
  st : (t.part p).st = (s.part p).st
  anchor : (t.part p).anchor = (s.part p).anchor
  launch : ∀ l, l.result ≠ 0 → (s.part p).launch = some l → (t.part p).launch = some l

section

variable {p : Nat} {b : Option Nat} {s t u : State}

theorem keepsReset_trans (h : KeepsReset p b s t) (h' : KeepsReset p b t u) : KeepsReset p b s u :=
  ⟨fun d => (h'.owner d).trans (h.owner d), fun d hd hk => h'.rested d hd (h.rested d hd hk), h'.st.trans h.st,
    h'.anchor.trans h.anchor, fun l hl hq => h'.launch l hl (h.launch l hl hq)⟩

theorem keepsReset_of_eq (h : t.cores = s.cores ∧ t.parts = s.parts) : KeepsReset p b s t := by
  obtain ⟨hc, hp⟩ := h
  have hcore (d : Nat) : t.core d = s.core d := by rw [State.core, hc, State.core]
  have hpart : t.part p = s.part p := part_of_parts hp p
  exact ⟨fun d => by rw [hcore], fun d _ hk => by rwa [hcore], by rw [hpart], by rw [hpart], fun l _ hq => by rwa [hpart]⟩

theorem keepsReset_refl (s : State) : KeepsReset p b s s := keepsReset_of_eq ⟨rfl, rfl⟩

theorem keepsReset_before (h : KeepsReset p b s t) (e : u.cores = t.cores ∧ u.parts = t.parts) : KeepsReset p b s u :=
  keepsReset_trans h (keepsReset_of_eq e)

theorem keepsReset_after (e : t.cores = s.cores ∧ t.parts = s.parts) (h : KeepsReset p b t u) : KeepsReset p b s u :=
  keepsReset_trans (keepsReset_of_eq e) h

/-- What spares every core spares every core but one. -/
theorem keepsReset_widen (h : KeepsReset p none s t) : KeepsReset p b s t :=
  ⟨h.owner, fun d _ hk => h.rested d (Option.some_ne_none d) hk, h.st, h.anchor, h.launch⟩

theorem keepsReset_ite {c : Prop} [Decidable c] {x y : State} (hx : KeepsReset p b s x) (hy : KeepsReset p b s y) :
    KeepsReset p b s (if c then x else y) := by
  split
  · exact hx
  · exact hy

variable (s)

theorem keepsReset_modCore (c : Nat) {f : Core → Core} (hp : (f (s.core c)).part = (s.core c).part)
    (hr : b = some c ∨ (Rested (s.core c) → Rested (f (s.core c)))) : KeepsReset p b s (s.modCore c f) := by
  have hpart : (s.modCore c f).part p = s.part p := part_of_parts rfl p
  refine ⟨fun d => ?_, fun d hd hk => ?_, by rw [hpart], by rw [hpart], fun l _ hq => by rwa [hpart]⟩ <;>
    by_cases hdc : d = c
  · subst hdc
    rw [core_modCore, hp]
  · rw [core_modCore_ne _ _ hdc]
  · subst hdc
    rw [core_modCore]
    exact (hr.resolve_left fun h => hd h.symm) hk
  · rwa [core_modCore_ne _ _ hdc]

theorem keepsReset_modPart (q : Nat) {f : Part → Part} (hs : (f (s.part q)).st = (s.part q).st)
    (ha : (f (s.part q)).anchor = (s.part q).anchor)
    (hl : ∀ l, l.result ≠ 0 → (s.part q).launch = some l → (f (s.part q)).launch = some l) :
    KeepsReset p b s (s.modPart q f) := by
  refine ⟨fun _ => rfl, fun _ _ hk => hk, ?_, ?_, fun l hl' hq => ?_⟩ <;> by_cases hqp : p = q
  · subst hqp
    rw [part_modPart, hs]
  · rw [part_modPart_ne _ _ hqp]
  · subst hqp
    rw [part_modPart, ha]
  · rw [part_modPart_ne _ _ hqp]
  · subst hqp
    rw [part_modPart]
    exact hl l hl' hq
  · rwa [part_modPart_ne _ _ hqp]

/-! ### A launch faults (R138) -/

/-- A core is stopped with the launch, or stays as it is. -/
theorem core_stopOthers_cases (q c d : Nat) (l : Tbl Core) :
    tblGet (fun _ => Core.reset) (stopOthers q c l) d = tblGet (fun _ => Core.reset) l d
      ∨ ((tblGet (fun _ => Core.reset) l d).active = true
        ∧ tblGet (fun _ => Core.reset) (stopOthers q c l) d = (tblGet (fun _ => Core.reset) l d).stop 8) := by
  induction l with
  | nil => exact .inl rfl
  | cons e l ih =>
    simp only [stopOthers, tblGet]
    by_cases hd : e.1 = d
    · simp only [if_pos hd]
      split
      · next h => exact .inr ⟨h.2.2, rfl⟩
      · exact .inl rfl
    · simpa only [if_neg hd] using ih

theorem keepsReset_stopOthers (q c : Nat) : KeepsReset p b s { s with cores := stopOthers q c s.cores } := by
  refine ⟨fun d => ?_, fun d _ hk => ?_, rfl, rfl, fun _ _ h => h⟩ <;>
    rcases core_stopOthers_cases q c d s.cores with h | ⟨hact, h⟩
  · exact congrArg Core.part h
  · exact (congrArg Core.part h).trans rfl
  · exact Eq.mpr (congrArg Rested h) hk
  · exact absurd (hact.symm.trans (not_active_of_rested hk)) (by decide)

/-- A launch takes in a fault: a settled result stays. -/
theorem keepsReset_faultLaunch {q : Nat} {l l' : Launch} (hl : (s.part q).launch = some l) (h : l.result ≠ 0 → l' = l) :
    KeepsReset p b s (s.modPart q fun q => { q with launch := some l' }) :=
  keepsReset_modPart s q rfl rfl fun l2 h2 e => by
    obtain rfl := Option.some.inj (hl.symm.trans e)
    exact congrArg some (h h2)

theorem keepsReset_launchFault (q c code : Nat) : KeepsReset p b s (s.launchFault q c code) := by
  simp only [State.launchFault]
  split
  · exact keepsReset_refl s
  · next l hl =>
    have hfault (l' : Launch) (h : l.result ≠ 0 → l' = l) :=
      keepsReset_trans (keepsReset_faultLaunch (p := p) (b := b) s hl h) (keepsReset_stopOthers _ q c)
    split
    · next h0 => exact keepsReset_before (hfault _ fun h => absurd h0 h) (cores_parts_tellFault ..)
    · exact hfault _ fun _ => rfl

theorem keepsReset_seqFault (c code : Nat) : KeepsReset p (some c) s (s.seqFault c code) :=
  keepsReset_trans (keepsReset_modCore s c rfl (.inl rfl)) (keepsReset_launchFault ..)

/-! ### The engines (R94, R95, R108) -/

theorem keepsReset_runBucketCount (x : Xfer) (e : Nat) : KeepsReset p b s (s.runBucketCount x e) := by
  simp only [State.runBucketCount]
  split
  · exact keepsReset_of_eq (by simp)
  · split
    · exact keepsReset_of_eq (by simp)
    · split
      · exact keepsReset_of_eq (by simp)
      · refine keepsReset_before (keepsReset_modCore s x.core (by rfl) (.inr fun h => ?_)) (cores_parts_refuseXfer ..)
        exact ⟨h.idle, h.nothing, h.clean, h.unheld⟩

theorem keepsReset_runNow (x : Xfer) (e : Nat) : KeepsReset p b s (s.runNow x e) := by
  simp only [State.runNow]
  split
  · exact keepsReset_of_eq (by simp)
  · exact keepsReset_runBucketCount ..
  · exact keepsReset_of_eq (by simp)
  · exact keepsReset_of_eq (by simp)
  · exact keepsReset_of_eq (by simp)

theorem keepsReset_runIfFetched (e core seq : Nat) : KeepsReset p b s (s.runIfFetched e core seq) := by
  simp only [State.runIfFetched]
  split
  · exact keepsReset_ite (keepsReset_runNow ..) (keepsReset_refl s)
  · exact keepsReset_refl s

theorem keepsReset_beginXfer (x : Xfer) (e : Nat) : KeepsReset p b s (s.beginXfer x e) := by
  simp only [State.beginXfer]
  split
  · exact keepsReset_of_eq (by simp)
  · split
    · exact keepsReset_after (by simp) (keepsReset_runIfFetched ..)
    · exact keepsReset_runNow ..

theorem keepsReset_pumpEngine (e n : Nat) : KeepsReset p b s (s.pumpEngine e n) := by
  induction n generalizing s with
  | zero => exact keepsReset_refl s
  | succ n ih =>
    simp only [State.pumpEngine]
    split
    · exact keepsReset_refl s
    · exact keepsReset_trans (keepsReset_after (by simp) (keepsReset_beginXfer ..)) (ih _)

theorem keepsReset_startXfer (x : Xfer) (e : Nat) : KeepsReset p b s (s.startXfer x e) :=
  keepsReset_after (by simp) (keepsReset_pumpEngine ..)

theorem keepsReset_startRefused (x : Xfer) (e st : Nat) : KeepsReset p b s (s.startRefused x e st) := keepsReset_startXfer ..

variable (c : Nat) (w : StepWord)

theorem keepsReset_withDescs {f : Desc → Desc → State} (hf : ∀ a d, KeepsReset p (some c) s (f a d)) :
    KeepsReset p (some c) s (s.withDescs c w f) := by
  simp only [State.withDescs]
  split
  · exact hf _ _
  · exact keepsReset_seqFault ..

theorem keepsReset_withSeed (ds : List Desc) {f : Nat → State} (hf : ∀ n, KeepsReset p (some c) s (f n)) :
    KeepsReset p (some c) s (s.withSeed c w ds f) := by
  simp only [State.withSeed]
  split
  · split
    · exact hf _
    · exact keepsReset_seqFault ..
  · exact hf 0

theorem keepsReset_startCopy (kind : XferKind) (e n : Nat) : KeepsReset p (some c) s (s.startCopy kind c e w n) := by
  refine keepsReset_withDescs s c w fun _ _ => keepsReset_withSeed s c w _ fun _ => keepsReset_ite (keepsReset_startXfer ..) ?_
  split
  · exact keepsReset_seqFault ..
  · exact keepsReset_startXfer ..

theorem keepsReset_startLcopy (e n : Nat) : KeepsReset p (some c) s (s.startLcopy c e w n) :=
  keepsReset_withDescs s c w fun _ _ => keepsReset_withSeed s c w _ fun _ =>
    keepsReset_ite (keepsReset_startXfer ..) (keepsReset_startRefused ..)

theorem keepsReset_startLs (e n : Nat) : KeepsReset p (some c) s (s.startLs c e w n) :=
  keepsReset_withDescs s c w fun _ _ => keepsReset_ite (keepsReset_startXfer ..) (keepsReset_startRefused ..)

theorem keepsReset_startGather (e n : Nat) : KeepsReset p (some c) s (s.startGather c e w n) := by
  refine keepsReset_withDescs s c w fun _ _ => keepsReset_withSeed s c w _ fun _ => ?_
  split
  · exact keepsReset_seqFault ..
  · exact keepsReset_startXfer ..

theorem keepsReset_startScatter (e n : Nat) : KeepsReset p (some c) s (s.startScatter c e w n) := by
  refine keepsReset_withDescs s c w fun _ _ => ?_
  split
  · exact keepsReset_seqFault ..
  · refine keepsReset_ite ?_ (keepsReset_withSeed s c w _ fun _ => keepsReset_startXfer ..)
    dsimp only
    split
    · exact keepsReset_seqFault ..
    · exact keepsReset_withSeed s c w _ fun _ => keepsReset_startXfer ..

theorem keepsReset_startBucketCount (e n : Nat) : KeepsReset p (some c) s (s.startBucketCount c e w n) := by
  simp only [State.startBucketCount]
  split
  · exact keepsReset_seqFault ..
  · exact keepsReset_ite (keepsReset_startXfer ..) (keepsReset_startRefused ..)

theorem keepsReset_startAlloc (e n : Nat) (picks : List (Nat × Nat)) : KeepsReset p (some c) s (s.startAlloc c e w n picks) := by
  simp only [State.startAlloc]
  split
  · exact keepsReset_seqFault ..
  · exact keepsReset_ite (keepsReset_startXfer ..) (keepsReset_startRefused ..)

theorem keepsReset_startFree (e n : Nat) : KeepsReset p (some c) s (s.startFree c e w n) := by
  simp only [State.startFree]
  split
  · exact keepsReset_seqFault ..
  · exact keepsReset_ite (keepsReset_startXfer ..) (keepsReset_startRefused ..)

theorem keepsReset_startStep (e n : Nat) (form : XfStep) : KeepsReset p (some c) s (s.startStep c e n w form) := by
  cases form with
  | copy u => exact keepsReset_after (by simp) (keepsReset_startCopy (s.upset c u) c w .copy e n)
  | copyt => exact keepsReset_startCopy ..
  | lcopy _ => exact keepsReset_startLcopy ..
  | ls u => exact keepsReset_after (by simp) (keepsReset_startLs (s.upset c u) c w e n)
  | gather => exact keepsReset_startGather ..
  | scatter => exact keepsReset_startScatter ..
  | bucketCount => exact keepsReset_startBucketCount ..
  | alloc picks => exact keepsReset_startAlloc ..
  | free => exact keepsReset_startFree ..

theorem keepsReset_startHeld (h : HeldXf) : KeepsReset p (some c) s (s.startHeld c h) := by
  simp only [State.startHeld]
  refine keepsReset_trans (keepsReset_trans ?_ (keepsReset_startStep ..)) (keepsReset_modCore _ c (by rfl) (.inl rfl))
  exact keepsReset_modCore s c (f := fun k => { k with loops := h.loops, begun := h.begun }) rfl (.inl rfl)

/-- Held steps are handed over for a core that is not rested. -/
theorem keepsReset_pumpHeld_of_busy (n : Nat) : KeepsReset p (some c) s (s.pumpHeld c n) := by
  induction n generalizing s with
  | zero => exact keepsReset_refl s
  | succ n ih =>
    simp only [State.pumpHeld]
    split
    · exact keepsReset_refl s
    · split
      · exact keepsReset_trans (keepsReset_trans (keepsReset_modCore s c rfl (.inl rfl)) (keepsReset_startHeld ..)) (ih _)
      · exact keepsReset_of_eq (by simp)

theorem pumpHeld_of_unheld (h : (s.core c).held = []) (n : Nat) : s.pumpHeld c n = s := by
  cases n with
  | zero => rfl
  | succ n => simp only [State.pumpHeld, h]

theorem keepsReset_pumpHeld (n : Nat) : KeepsReset p none s (s.pumpHeld c n) := by
  by_cases hc : (s.core c).held = []
  · rw [pumpHeld_of_unheld s c hc]
    exact keepsReset_refl s
  · have h : KeepsReset p (some c) s (s.pumpHeld c n) := keepsReset_pumpHeld_of_busy s c n
    refine ⟨h.owner, fun d _ hk => ?_, h.st, h.anchor, h.launch⟩
    exact h.rested d (fun e => hc (Option.some.inj e ▸ hk.unheld)) hk

theorem keepsReset_pumpCores (l : List Nat) : KeepsReset p none s (s.pumpCores l) := by
  induction l generalizing s with
  | nil => exact keepsReset_refl s
  | cons d l ih => exact keepsReset_trans (keepsReset_pumpHeld ..) (ih _)

theorem keepsReset_refillEngine (e : Nat) : KeepsReset p none s (s.refillEngine e) :=
  keepsReset_trans (keepsReset_before (keepsReset_pumpEngine s e 4) (by simp)) (keepsReset_pumpCores ..)

theorem keepsReset_refillAll (l : List Nat) : KeepsReset p none s (s.refillAll l) := by
  induction l generalizing s with
  | nil => exact keepsReset_refl s
  | cons e l ih => exact keepsReset_trans (keepsReset_refillEngine ..) (ih _)

theorem keepsReset_pullXfers (f : Xfer → Bool) : KeepsReset p none s (s.pullXfers f).1 :=
  keepsReset_after (by simp) (keepsReset_refillAll ..)

/-! ### Contexts, the TDI and the state of a partition (R424, R486, R522) -/

theorem keepsReset_removeDesc (d : HostDesc) : KeepsReset p none s (s.removeDesc d) := by
  unfold State.removeDesc
  extract_lets r s1 s2 s3 s4
  have h1 : KeepsReset p none s s1 := keepsReset_pullXfers ..
  have h2 : KeepsReset p none s1 s2 := by
    simp only [s2]
    split
    · exact keepsReset_of_eq ⟨rfl, rfl⟩
    · exact keepsReset_refl s1
  have h3 : KeepsReset p none s2 s3 := keepsReset_ite (keepsReset_refl s2) (keepsReset_modPart s2 _ rfl rfl fun _ _ h => h)
  have h4 : KeepsReset p none s3 s4 := keepsReset_of_eq ⟨rfl, rfl⟩
  have h := keepsReset_trans (keepsReset_trans h1 h2) (keepsReset_trans h3 h4)
  clear_value s4
  split
  · exact keepsReset_before h (cores_parts_endDesc ..)
  · exact keepsReset_before h (cores_parts_endDesc ..)

theorem keepsReset_removeDescs (l : List HostDesc) : KeepsReset p none s (s.removeDescs l).1 := by
  induction l generalizing s with
  | nil => exact keepsReset_refl s
  | cons d l ih =>
    simp only [State.removeDescs]
    split
    · exact ih s
    · split
      · exact ih s
      · exact keepsReset_trans (keepsReset_removeDesc ..) (ih _)

theorem keepsReset_ctxRemove (v h cause : Nat) : KeepsReset p none s (s.ctxRemove v h cause).1 :=
  keepsReset_before (keepsReset_before (keepsReset_removeDescs ..) (cores_parts_mbEvent ..)) (cores_parts_ledgerPart ..)

theorem keepsReset_ctxRemoves (v cause : Nat) (l : List Nat) : KeepsReset p none s (s.ctxRemoves v cause l) := by
  induction l generalizing s with
  | nil => exact keepsReset_refl s
  | cons h l ih => exact keepsReset_trans (keepsReset_ctxRemove ..) (ih _)

theorem keepsReset_tdiTo (v : Nat) (st : TdiSt) : KeepsReset p none s (s.tdiTo v st) :=
  keepsReset_ite (keepsReset_after (by simp) (keepsReset_ctxRemoves ..)) (keepsReset_of_eq (by simp))

theorem keepsReset_tdiFail (v : Nat) : KeepsReset p none s (s.tdiFail v) :=
  keepsReset_ite (keepsReset_tdiTo ..) (keepsReset_refl s)

/-- The partition goes to the state `st`: what it relies on stays, and that is its state then. -/
theorem keepsReset_setSt (st : PartSt) :
    KeepsReset p none (s.modPart p fun q => { q with st := st }) (s.setSt p st) := by
  simp only [State.setSt]
  split
  · next h => exact ⟨fun _ => rfl, fun _ _ hk => hk, by simp [h], by simp, fun l _ hq => by simpa using hq⟩
  · have htold : KeepsReset p none (s.modPart p fun q => { q with st := st })
        ((s.modPart p fun q => { q with st := st }).mbEvent p 0x0B (st.code * 2 ^ 64 + (s.part p).epoch)) :=
      keepsReset_of_eq (by simp)
    have htenants : KeepsReset p none (s.modPart p fun q => { q with st := st })
        (if st = .sealed ∨ st = .rebinding
          then (s.modPart p fun q => { q with st := st }).mbEvent p 0x0B (st.code * 2 ^ 64 + (s.part p).epoch)
          else ((s.modPart p fun q => { q with st := st }).mbEvent p 0x0B (st.code * 2 ^ 64 + (s.part p).epoch)).endTenants p) :=
      keepsReset_ite htold (keepsReset_before htold (by simp))
    exact keepsReset_ite (keepsReset_trans htenants (keepsReset_tdiFail ..)) htenants

/-! ### The reset at a member (R524 steps 1 to 3) -/

theorem keepsReset_opEnd (q code : Nat) : KeepsReset p none s (s.opEnd q code) := by
  simp only [State.opEnd]
  split
  · exact keepsReset_refl s
  · exact keepsReset_before (keepsReset_modPart s q (f := fun q => { q with op := none, plan := none }) rfl rfl fun _ _ h => h)
      (by simp)

theorem keepsReset_dropGroups (q : Nat) (l : List Nat) : KeepsReset p none s (s.dropGroups q l) := by
  induction l generalizing s with
  | nil => exact keepsReset_refl s
  | cons g l ih =>
    simp only [State.dropGroups, State.dropGroup]
    refine keepsReset_trans ?_ (ih _)
    refine keepsReset_trans ?_ (keepsReset_modPart _ q (by rfl) (by rfl) fun _ _ h => h)
    exact keepsReset_of_eq (by simp)

theorem keepsReset_dropUpdate (q : Nat) : KeepsReset p none s (s.dropUpdate q) := by
  simp only [State.dropUpdate]
  exact keepsReset_trans (keepsReset_dropGroups ..) (keepsReset_modPart _ q (by rfl) (by rfl) fun _ _ h => h)

/-- The cores of a partition, each emptied. -/
def clearedCores (p : Nat) (l : Tbl Core) : Tbl Core := l.map fun e => (e.1, if e.2.part = p then e.2.cleared else e.2)

theorem core_clearedCores (d : Nat) : tblGet (fun _ => Core.reset) (clearedCores p s.cores) d =
    if (s.core d).part = p then (s.core d).cleared else s.core d :=
  tblGet_map (g := fun k => if k.part = p then k.cleared else k) (fun _ => ite_self Core.reset) s.cores d

/-- The work of a partition removed, but for the transfers of the engines (R524 step 1). -/
def workStopped (p : Nat) (s : State) : State :=
  let s1 : State := { s.restTxns p with
    cores := clearedCores p s.cores, winQ := s.winQ.filter fun r => r.part != p, trees := calmTrees p s.trees }
  let held := (maskList 48 (s.part p).clusters).filter fun k => (s.clu k).bound && (s.clu k).part == p
  { s1 with buckets := s1.buckets.filter fun e => !held.contains (e.1 / 2 ^ 24) }

theorem removeWork_eq : s.removeWork p = ((workStopped p s).pullXfers fun x => x.part == p).1.abortCopies
    ((workStopped p s).pullXfers fun x => x.part == p).2 := rfl

theorem part_workStopped : (workStopped p s).part p = s.part p := rfl

theorem core_workStopped (d : Nat) : (workStopped p s).core d =
    if (s.core d).part = p then (s.core d).cleared else s.core d := core_clearedCores s d

theorem keepsReset_removeWork : KeepsReset p none (workStopped p s) (s.removeWork p) := by
  rw [removeWork_eq]
  exact keepsReset_before (keepsReset_pullXfers ..) (cores_parts_abortCopies ..)

end

end Sys2Proof.Laws
end

section
/-! PROOFS. Composition resets and the launch watchdog (spec/19: R518, R519, R524, R527). -/
namespace Sys2Proof.Laws

open Machine

section

variable (s : State)

@[simp] theorem regs_freeRxs (l : List LFlit) : (s.freeRxs l).regs = s.regs := by
  induction l generalizing s with
  | nil => rfl
  | cons f l ih =>
    refine (ih _).trans ?_
    simp only [State.freeRx]
    split <;> rfl

@[simp] theorem regs_pumpLink (i n : Nat) : (s.pumpLink i n).regs = s.regs := by
  induction n generalizing s with
  | zero => rfl
  | succ n ih =>
    simp only [State.pumpLink]
    split
    · split
      · rfl
      · exact (ih _).trans (regs_freeRxs ..)
    · rfl

@[simp] theorem regs_resetFlits (p dir : Nat) (l : List Nat) : (s.resetFlits p dir l).regs = s.regs := by
  induction l generalizing s with
  | nil => rfl
  | cons x l ih => exact (ih _).trans (regs_pumpLink ..)

/-! ### A member's part of a reset by the manager (R524 steps 1 to 3) -/

variable (p : Nat)

/-- The reset recorded, the partition's operation ended and its update dropped. -/
def resetBegun : State :=
  (((s.draw.ledgerPart 0x0A03 p (s.part p).comp (Config.free s.freeCtr % 2 ^ 32) 0 0).opEnd p 0x0C).dropUpdate p).modPart p
    fun q => { q with swAsked := false, swWait := [] }

/-- The partition RESETTING, and its work gone from cores and engines. -/
def resetStopped : State := ((resetBegun s p).setSt p .resetting).removeWork p

/-- Its objects calmed, its clusters cleared, its pool freed, its windows revoked, and its queued launches ended. -/
def resetEmptied (held : List Nat) (f : InWin → Bool) (l : List Nat) (queued : List Queued) : State :=
  ((((((resetStopped s p).calmObjs ((resetStopped s p).objsOf p)).flashAll held).freePool p).revokeWins f l).1).abortQueue queued

variable {s p}

theorem cores_parts_resetEmptied (held : List Nat) (f : InWin → Bool) (l : List Nat) (queued : List Queued) :
    (resetEmptied s p held f l queued).cores = (resetStopped s p).cores
      ∧ (resetEmptied s p held f l queued).parts = (resetStopped s p).parts := by simp [resetEmptied]

theorem keepsReset_resetBegun : KeepsReset p none s (resetBegun s p) := by
  unfold resetBegun
  refine keepsReset_trans (keepsReset_trans (keepsReset_trans ?_ (keepsReset_opEnd _ p 0x0C)) (keepsReset_dropUpdate _ p))
    (keepsReset_modPart _ p (by rfl) (by rfl) fun _ _ h => h)
  exact keepsReset_of_eq (by simp)

theorem setSt_spec (x : State) (st : PartSt) : ((x.setSt p st).part p).st = st
    ∧ ((x.setSt p st).part p).anchor = (x.part p).anchor
    ∧ (∀ l, l.result ≠ 0 → (x.part p).launch = some l → ((x.setSt p st).part p).launch = some l)
    ∧ ∀ d, ((x.setSt p st).core d).part = (x.core d).part := by
  have h := keepsReset_setSt (p := p) x st
  have hpart : (x.modPart p fun q => { q with st := st }).part p = { x.part p with st := st } := part_modPart ..
  exact ⟨h.st.trans (congrArg Part.st hpart), h.anchor.trans (congrArg Part.anchor hpart :),
    fun l hl hq => h.launch l hl ((congrArg Part.launch hpart).trans hq), h.owner⟩

theorem removeWork_spec (x : State) : ((x.removeWork p).part p).st = (x.part p).st
    ∧ ((x.removeWork p).part p).anchor = (x.part p).anchor
    ∧ (∀ l, l.result ≠ 0 → (x.part p).launch = some l → ((x.removeWork p).part p).launch = some l)
    ∧ ∀ d, (x.core d).part = p → Rested ((x.removeWork p).core d) := by
  have h := keepsReset_removeWork (p := p) x
  refine ⟨h.st, h.anchor, h.launch, fun d hd => h.rested d (Option.some_ne_none d) ?_⟩
  rw [core_workStopped, if_pos hd]
  exact rested_cleared _

/-- The partition is RESETTING under its anchor; a launch whose result is settled stays; and every core of it is rested. -/
theorem resetStopped_spec : ((resetStopped s p).part p).st = .resetting
    ∧ ((resetStopped s p).part p).anchor = (s.part p).anchor
    ∧ (∀ l, l.result ≠ 0 → (s.part p).launch = some l → ((resetStopped s p).part p).launch = some l)
    ∧ ∀ d, (s.core d).part = p → Rested ((resetStopped s p).core d) := by
  have hb : KeepsReset p none s (resetBegun s p) := keepsReset_resetBegun
  obtain ⟨hst, ha, hl, ho⟩ := setSt_spec (p := p) (resetBegun s p) .resetting
  obtain ⟨hst', ha', hl', hr⟩ := removeWork_spec (p := p) ((resetBegun s p).setSt p .resetting)
  exact ⟨hst'.trans hst, ha'.trans (ha.trans hb.anchor), fun l h0 h => hl' l h0 (hl l h0 (hb.launch l h0 h)),
    fun d hd => hr d ((ho d).trans ((hb.owner d).trans hd))⟩

/-- The partition `q` at the end of its part of the reset. -/
def resetPart (s : State) (cause : ResetCause) (asked : Bool) (windows : List Nat) (q : Part) : Part :=
  { q with queue := [], rst := some ⟨cause.code, s.now, false, [], [], asked, false, windows, false⟩,
           launch := if q.anchor = s.reg bFAB then q.launch else none }

theorem resetLocal_eq (asked : Bool) : ∃ held f l windows x, x = resetEmptied s p held f l (s.part p).queue
    ∧ s.resetLocal p .manager asked =
      { x.modPart p (resetPart s .manager asked windows) with
        switches := (x.modPart p (resetPart s .manager asked windows)).switches.filter fun y => y.part != p } := by
  refine ⟨(maskList 48 (s.part p).clusters).filter fun k => !((s.clu k).bound && (s.clu k).part != p),
    fun i => i.grantee == (s.part p).comp || i.part == p, List.range 1023, ?_, _, rfl, ?_⟩
  swap
  · simp only [State.resetLocal, reduceCtorEq, if_false]
    rfl

theorem resetLocal_spec (ha : (s.part p).anchor = s.reg bFAB) (asked : Bool) :
    ((s.resetLocal p .manager asked).part p).st = .resetting ∧ ((s.resetLocal p .manager asked).part p).queue = []
      ∧ (∀ l, l.result ≠ 0 → (s.part p).launch = some l → ((s.resetLocal p .manager asked).part p).launch = some l)
      ∧ ∀ d, (s.core d).part = p → Rested ((s.resetLocal p .manager asked).core d) := by
  obtain ⟨held, f, l, windows, x, hx, he⟩ := resetLocal_eq (s := s) (p := p) asked
  obtain ⟨hcores, hparts⟩ := cores_parts_resetEmptied (s := s) (p := p) held f l (s.part p).queue
  rw [← hx] at hcores hparts
  obtain ⟨hst, hanchor, hlaunch, hrest⟩ := resetStopped_spec (s := s) (p := p)
  rw [← part_of_parts hparts] at hst hanchor hlaunch
  have hpart : (s.resetLocal p .manager asked).part p = resetPart s .manager asked windows (x.part p) := by
    rw [he]
    exact part_modPart ..
  rw [hpart]
  refine ⟨hst, rfl, fun l hl hq => ?_, fun d hd => ?_⟩
  · exact (if_pos (hanchor.trans ha)).trans (hlaunch l hl hq)
  · have hcore : (s.resetLocal p .manager asked).core d = (resetStopped s p).core d := by
      rw [he]
      exact congrArg (tblGet (fun _ => Core.reset) · d) hcores
    rw [hcore]
    exact hrest d hd

/-! ### The manager's reset at the anchor -/

/-- The composition's partition is in a state in which the manager's reset acts, and no warm reset is under notice (R527, R532). -/
def MayReset (s : State) (p : Nat) : Prop :=
  s.isAnchor p = true ∧ ((s.part p).st = .sealed ∨ (s.part p).st = .suspended ∨ (s.part p).st = .failed) ∧ s.boot.pending = none

theorem resetStart_of_mayReset (h : MayReset s p) : s.resetStart p .manager =
    ((s.modPart p fun q => { q with launch := q.launch.map fun l => l.ended .manager }).resetFlits p 6
      (s.part p).ctree.children).resetLocal p .manager false := by
  obtain ⟨-, hst, hp⟩ := h
  have hno : (s.warmDue || !(s.part p).st.resets) = false := by
    simp only [State.warmDue, hp]
    rcases hst with hst | hst | hst <;> rw [hst] <;> rfl
  simp only [State.resetStart, hno]
  rfl

theorem compReset_of_mayReset {p : PartId} (h : MayReset s p) : exec (.compReset p) s = .next (s.resetStart p .manager) :=
  congrArg Host.Outcome.next (if_pos ⟨h.1, h.2.1⟩)

theorem compReset_of_not {p : PartId} (h : ¬ MayReset s p) : exec (.compReset p) s = .next s := by
  refine congrArg Host.Outcome.next ?_
  dsimp only
  split
  · next hc =>
    have hp : s.warmDue = true := by
      rw [State.warmDue, ← Option.ne_none_iff_isSome]
      exact fun hp => h ⟨hc.1, hc.2, hp⟩
    simp only [State.resetStart, hp, Bool.true_or, if_true]
  · rfl

theorem anchor_of_isAnchor (h : s.isAnchor p = true) : (s.part p).anchor = s.reg bFAB := by
  simp only [State.isAnchor, Bool.and_eq_true, beq_iff_eq] at h
  exact h.2

/-- The reset of the anchor: its launch is ABORTED, and what the member's part gives. -/
theorem compReset_spec {p : PartId} (h : MayReset s p) : ∃ t, exec (.compReset p) s = .next t ∧ (t.part p).st = .resetting
    ∧ (t.part p).queue = [] ∧ (∀ l, (s.part p).launch = some l → l.result = 0 → (t.part p).launch = some { l with result := 3 })
    ∧ ∀ d, (s.core d).part = p.val → Rested (t.core d) := by
  refine ⟨_, compReset_of_mayReset h, ?_⟩
  rw [resetStart_of_mayReset h]
  generalize hx : (s.modPart p fun q => { q with launch := q.launch.map fun l => l.ended .manager }).resetFlits p 6
    (s.part p).ctree.children = x
  have hcp : x.cores = s.cores ∧ x.parts = (s.modPart p fun q => { q with launch := q.launch.map fun l => l.ended .manager }).parts := by
    rw [← hx]
    exact cores_parts_resetFlits ..
  have hreg : x.reg bFAB = s.reg bFAB := by
    rw [State.reg, ← hx, regs_resetFlits]
    rfl
  have hpart := part_of_parts hcp.2 p
  rw [part_modPart] at hpart
  have hcore (d : Nat) : x.core d = s.core d := congrArg (tblGet (fun _ => Core.reset) · d) hcp.1
  have ha : (x.part p).anchor = x.reg bFAB := by
    rw [hpart, hreg]
    exact anchor_of_isAnchor h.1
  obtain ⟨hst, hq, hl, hr⟩ := resetLocal_spec ha false
  refine ⟨hst, hq, fun l hs h0 => hl { l with result := 3 } (Nat.succ_ne_zero 2) ?_,
    fun d hd => hr d ((congrArg Core.part (hcore d)).trans hd)⟩
  simp [hpart, hs, Launch.ended, h0]

/-! ### The hold, the confirmations and the watchdog -/

variable {p : PartId}

theorem resetHoldEnd_of_rst {r : ResetSt} (hr : (s.part p).rst = some r) : exec (.resetHoldEnd p) s =
    .next (if s.now < r.at_ + 2000000 then s
      else (s.modPart p fun q => { q with rst := some { r with held := true } }).resetGo p) := by
  show execResetHoldEnd p s = _
  simp only [execResetHoldEnd, hr]

/-- The anchor waits for a confirmation: the members are told again once, and then the composition has failed. -/
theorem resetConfirmTimeout_of_waiting {r : ResetSt} (hr : (s.part p).rst = some r) (ha : (s.part p).anchor = s.reg bFAB)
    (hc : s.allConfirmed p r = false) : exec (.resetConfirmTimeout p) s =
    .next (if !r.repeated then (s.modPart p fun q => { q with rst := some { r with repeated := true } }).tellMembers p 26 r.cause 0
      else ((((s.reopen r.windows).modPart p fun q => { q with rst := none }).setSt p .failed).ctxAnswer p).resetLaunch p r) := by
  show execResetConfirmTimeout p s = _
  simp only [execResetConfirmTimeout, hr]
  exact congrArg Host.Outcome.next (if_neg (by simp [ha, hc]))

theorem watchdogFire_of_early {l : Launch} (hl : (s.part p).launch = some l) (h : s.now < l.start + l.paused + l.limit) :
    exec (.watchdogFire p) s = .next s := by
  show execWatchdogFire p s = _
  simp only [execWatchdogFire, hl]
  exact congrArg Host.Outcome.next (if_pos (.inr (.inr (.inr h))))

theorem watchdogFire_of_due {l : Launch} (hl : (s.part p).launch = some l) (ha : (s.part p).anchor = s.reg bFAB)
    (h0 : l.result = 0) (hst : (s.part p).st = .sealed) (h : l.start + l.paused + l.limit ≤ s.now) :
    exec (.watchdogFire p) s = .next (((s.bump (bERR + 0x21C + 0x20 * p) 1).ledgerPart 0x0501 p l.slot l.faultCode 0 0).resetStart
      p .watchdog) := by
  show execWatchdogFire p s = _
  simp only [execWatchdogFire, hl]
  exact congrArg Host.Outcome.next (if_neg (by simp [ha, h0, hst, h]))

end

/-- Settles O18: the manager's reset by what the member's part of it does, the rest by the guards of the commands. -/
theorem compositionResets : Obligations.CompositionResets := by
  intro p s q
  refine ⟨fun ha hst hp => ?_, fun h => compReset_of_not ?_,
    fun r hr => ⟨fun hlt => ?_, fun hle => ?_, fun ha hc => ⟨fun h => ?_, fun h => ?_⟩⟩,
    fun l hl => ⟨watchdogFire_of_early hl, watchdogFire_of_due hl⟩⟩
  · obtain ⟨t, ht, hst, hq, hl, hr⟩ := compReset_spec ⟨ha, hst, hp⟩
    exact ⟨t, ht, hst, hq, hl, fun c hc => ⟨(hr c hc).idle, (hr c hc).nothing, (hr c hc).clean⟩⟩
  · rintro ⟨ha, hst, hp⟩
    rcases h with h | h | h
    · exact absurd ha (by simp [h])
    · exact h hst
    · exact h hp
  · exact (resetHoldEnd_of_rst hr).trans (congrArg Host.Outcome.next (if_pos hlt))
  · exact (resetHoldEnd_of_rst hr).trans (congrArg Host.Outcome.next (if_neg (Nat.not_lt.2 hle)))
  · exact (resetConfirmTimeout_of_waiting hr ha hc).trans (congrArg Host.Outcome.next (if_pos (by simp [h])))
  · exact (resetConfirmTimeout_of_waiting hr ha hc).trans (congrArg Host.Outcome.next (if_neg (by simp [h])))

end Sys2Proof.Laws
end

section
/-! PROOFS. The state at reset (log 5). -/
namespace Sys2Proof.Laws

open Machine

/-- A register that no entry lists reads as its row gives. -/
theorem reg_reset (k : Nat) : State.reset.reg k = regReset k := rfl

theorem regReset_kSqCfg : regReset (kSqCfg 0 0) = 6 := by decide
theorem regReset_kTsCtrl : regReset kTsCtrl = 0xFF00 := by decide
theorem regReset_bFAB : regReset bFAB = 0x3FFF := by decide

/-- Settles O55: every table of the reset state is empty, so each entry is its default. -/
theorem atReset : Obligations.AtReset :=
  ⟨rfl, rfl, rfl, rfl, rfl, rfl, rfl, rfl, rfl, rfl, rfl, rfl, fun _ => rfl, fun _ => ⟨rfl, rfl⟩, fun _ => rfl, fun _ => rfl,
    fun _ => ⟨rfl, rfl⟩, fun _ => rfl, rfl, rfl, rfl, rfl, rfl, rfl, rfl, fun _ => rfl, rfl, rfl, rfl, rfl, reg_reset,
    regReset_kSqCfg, regReset_kTsCtrl, regReset_bFAB, fun _ _ => rfl⟩

end Sys2Proof.Laws
end

section
/-! PROOFS. Firmware images: staging, headers, landing, activation and the switch of the running image (spec/20: R541 to R555). -/
namespace Sys2Proof.Laws

open Machine

/-! ### The firmware state under its operations -/

section

variable {s t : State}

theorem fwType_of_types (h : t.fw.types = s.fw.types) (ty : Nat) : t.fwType ty = s.fwType ty :=
  congrArg (tblGet (fun _ => FwType.reset) · ty) h

theorem fwType_of_fw (h : t.fw = s.fw) (ty : Nat) : t.fwType ty = s.fwType ty := fwType_of_types (congrArg FwSt.types h) ty

variable (s)

@[simp] theorem fwType_modFwType (ty : Nat) (f : FwType → FwType) : (s.modFwType ty f).fwType ty = f (s.fwType ty) :=
  tblGet_tblSet_self ..

@[simp] theorem fw_tellXfer (src : FwFrom) (status : Nat) : (s.tellXfer src status).fw = s.fw := by
  cases src with
  | desc id => exact fw_mgmtEnd ..
  | pldm => rfl
  | dfu => rfl

/-- The firmware state once the transfer `x` has ended. -/
def xferEnded (s : State) (x : FwXfer) (status : Nat) : FwSt :=
  { s.fw with xfer := none, lastStatus := status, lastOp := 1, lastType := x.type, dl := status,
              dlAt := if s.boot.recovery then some s.now else s.fw.dlAt }

theorem fw_endXfer {x : FwXfer} (hx : s.fw.xfer = some x) (status : Nat) : (s.endXfer status).fw = xferEnded s x status := by
  simp only [State.endXfer, hx, fw_tellXfer, fw_ite, fw_fwRecord, ite_self]
  rfl

/-- The firmware state once an activation has ended. -/
def actEnded (s : State) (ty status : Nat) : FwSt :=
  { s.fw with act := none, lastStatus := status, lastOp := 2, lastType := ty,
              pldm := if s.fw.pldm = .activate then .idle else s.fw.pldm }

theorem fw_endAct (ty status : Nat) (desc : Option Nat) : (s.endAct ty status desc).fw = actEnded s ty status := by
  simp only [State.endAct]
  split
  · simp only [fw_mgmtEnd, fw_fwRecord]
    rfl
  · simp only [fw_fwRecord]
    rfl

theorem fwType_endAct (ty status : Nat) (desc : Option Nat) (k : Nat) : (s.endAct ty status desc).fwType k = s.fwType k :=
  fwType_of_types ((congrArg FwSt.types (fw_endAct ..)).trans rfl) k

/-- An image's ARB raises the floor of its type and changes nothing else of it. -/
theorem fwType_raiseFloor (ty : Nat) (h : FwHdr) :
    (s.raiseFloor ty h).fwType ty = { s.fwType ty with floor := max (s.fwType ty).floor h.arb } := by
  simp only [State.raiseFloor]
  split
  · next hlt => rw [fwType_of_fw (fw_fwRecord ..), fwType_modFwType, Nat.max_eq_right (Nat.le_of_lt hlt)]
  · next hge => rw [Nat.max_eq_left (Nat.not_lt.1 hge)]

theorem act_raiseFloor (ty : Nat) (h : FwHdr) : (s.raiseFloor ty h).fw.act = s.fw.act := by
  simp only [State.raiseFloor]
  split
  · rw [fw_fwRecord]
    rfl
  · rfl

/-- An erase changes its counters only (R555). -/
theorem erases_spec (es : List (Nat × Nat)) : (s.erases es).fw.types = s.fw.types ∧ (s.erases es).fw.xfer = s.fw.xfer := by
  induction es generalizing s with
  | nil => exact ⟨rfl, rfl⟩
  | cons e es ih =>
    have he : (s.erased e).fw.types = s.fw.types ∧ (s.erased e).fw.xfer = s.fw.xfer := by
      simp only [State.erased]
      split
      · rw [fw_of_completed (completed_of_reported (reported_ledgerFull ..))]
        exact ⟨rfl, rfl⟩
      · exact ⟨rfl, rfl⟩
    exact ⟨(ih _).1.trans he.1, (ih _).2.trans he.2⟩

theorem fw_norFailure (sector : Nat) : (s.norFailure sector).fw = { s.fw with norFail := true } :=
  fw_of_completed (completed_of_reported (reported_ledgerFull ..))

end

/-! ### Headers (R542, R543, R553) -/

section

variable {s : State} {x : FwXfer}

theorem imageHeader_of_idle (hx : s.fw.xfer = none) (sig : Bool) : exec (.imageHeader sig) s = .next s := by
  show execImageHeader sig s = _
  simp only [execImageHeader, hx]

variable (hx : s.fw.xfer = some x) (sig : Bool)

include hx

theorem imageHeader_of_not_due (h : x.hdr.isSome = true ∨ x.bytes.length < 8192) : exec (.imageHeader sig) s = .next s := by
  show execImageHeader sig s = _
  simp only [execImageHeader, hx, if_pos h]

/-- A header that has arrived, checked (R542). -/
theorem imageHeader_of_due (hh : x.hdr = none) (hlen : 8192 ≤ x.bytes.length) : exec (.imageHeader sig) s =
    .next (if s.headerStatus x.type (FwHdr.parse x.bytes) sig ≠ 0 then s.endXfer (s.headerStatus x.type (FwHdr.parse x.bytes) sig)
      else
        let s1 := s.modFwType x.type fun y =>
          if s.boot.recovery then { y with valid := false } else { y with stg := FwHdr.none, stgSt := .landing, copy := false }
        { s1 with fw := { s1.fw with xfer := some { x with hdr := some (FwHdr.parse x.bytes) } } }) := by
  show execImageHeader sig s = _
  simp only [execImageHeader, hx]
  exact congrArg Host.Outcome.next (if_neg (by simp [hh, hlen]))

end

/-! ### Landing (R543, R553, R555) -/

section

variable {s : State} {x : FwXfer} {h : FwHdr}

theorem imageLanded_of_idle (hx : s.fw.xfer = none) (tag : Bool) (es : List (Nat × Nat)) : exec (.imageLanded tag es) s = .next s := by
  show execImageLanded tag es s = _
  simp only [execImageLanded, hx]

/-- The payload of the transfer's bytes. -/
def payloadOf (x : FwXfer) (h : FwHdr) : List Byte := (x.bytes.drop 8192).take h.payload

/-- The bytes are not the image that the header names. -/
def PayloadBad (x : FwXfer) (h : FwHdr) (tag : Bool) : Prop :=
  (payloadOf x h).length < h.payload ∨ (Config.sha384 (payloadOf x h)).toNat ≠ h.digest ∨ tag = false

/-- The last byte has come, and the erases are counted. -/
def landingBegun (s : State) (x : FwXfer) (es : List (Nat × Nat)) : State :=
  { s.erases es with fw := { (s.erases es).fw with progress := x.bytes.length / 1024 } }

theorem xfer_landingBegun (hx : s.fw.xfer = some x) (es : List (Nat × Nat)) : (landingBegun s x es).fw.xfer = some x :=
  (erases_spec s es).2.trans hx

theorem types_landingBegun (es : List (Nat × Nat)) : (landingBegun s x es).fw.types = s.fw.types := (erases_spec s es).1

variable (hx : s.fw.xfer = some x) (hh : x.hdr = some h) (tag : Bool) (es : List (Nat × Nat))

include hx hh

theorem imageLanded_of_part (hw : x.whole h = false) : exec (.imageLanded tag es) s = .next s := by
  show execImageLanded tag es s = _
  simp [execImageLanded, hx, hh, hw]

variable (hw : x.whole h = true)

include hw

theorem imageLanded_of_bad (hb : PayloadBad x h tag) : exec (.imageLanded tag es) s = .next ((landingBegun s x es).endXfer 8) := by
  show execImageLanded tag es s = _
  simp only [execImageLanded, hx, hh, hw, Bool.not_true, Bool.false_eq_true, if_false]
  exact congrArg Host.Outcome.next (if_pos (hb.imp_right (Or.imp_right fun ht => by simp [ht])))

/-- An image that is what its header names: staged with a copy pending, or in recovery in the active slot. -/
theorem imageLanded_of_good (hb : ¬ PayloadBad x h tag) : exec (.imageLanded tag es) s = .next (if s.boot.recovery then
      ((landingBegun s x es).modFwType x.type fun y =>
        { y with act := h, valid := true, stg := FwHdr.none, stgSt := .empty, copy := false }).endXfer 0
    else (((landingBegun s x es).modFwType x.type fun y => { y with stg := h, stgSt := .staged, copy := true }).fwRecord
      0 x.type 0 h).endXfer 0) := by
  show execImageLanded tag es s = _
  simp only [execImageLanded, hx, hh, hw, Bool.not_true, Bool.false_eq_true, if_false]
  refine congrArg Host.Outcome.next (if_neg fun hc => hb (hc.imp_right (Or.imp_right fun ht => ?_)))
  simpa using ht

theorem imageLanded_bad_spec (hb : PayloadBad x h tag) : ∃ u, exec (.imageLanded tag es) s = .next u
    ∧ u.fw.xfer = none ∧ u.fw.lastStatus = 8 ∧ u.fw.types = s.fw.types := by
  refine ⟨_, imageLanded_of_bad hx hh tag es hw hb, ?_⟩
  rw [fw_endXfer _ (xfer_landingBegun hx es)]
  exact ⟨rfl, rfl, types_landingBegun (x := x) es⟩

theorem imageLanded_good_spec (hb : ¬ PayloadBad x h tag) : ∃ u, exec (.imageLanded tag es) s = .next u
    ∧ u.fw.xfer = none ∧ u.fw.lastStatus = 0 ∧ u.fwType x.type =
      if s.boot.recovery then { s.fwType x.type with act := h, valid := true, stg := FwHdr.none, stgSt := .empty, copy := false }
      else { s.fwType x.type with stg := h, stgSt := .staged, copy := true } := by
  have hty : (landingBegun s x es).fwType x.type = s.fwType x.type := fwType_of_types (types_landingBegun es) x.type
  have hend (f : FwType → FwType) (u : State) (hu : u.fw = ((landingBegun s x es).modFwType x.type f).fw) :
      (u.endXfer 0).fw.xfer = none ∧ (u.endXfer 0).fw.lastStatus = 0 ∧ (u.endXfer 0).fwType x.type = f (s.fwType x.type) := by
    have hfw := fw_endXfer u ((congrArg FwSt.xfer hu).trans (xfer_landingBegun hx es)) 0
    refine ⟨congrArg FwSt.xfer hfw, congrArg FwSt.lastStatus hfw, ?_⟩
    rw [← hty, ← fwType_modFwType (landingBegun s x es) x.type f, ← fwType_of_fw hu]
    exact fwType_of_types (congrArg FwSt.types hfw :) x.type
  refine ⟨_, imageLanded_of_good hx hh tag es hw hb, ?_⟩
  split
  · exact hend _ _ rfl
  · exact hend _ _ (fw_fwRecord ..)

end

/-! ### Failures of the NOR (R555) and cancelling (R545) -/

section

variable {s : State}

theorem norEraseTimeout_of_idle (hx : s.fw.xfer = none) (sector : Fin 65536) :
    exec (.norEraseTimeout sector) s = .next (s.norFailure sector) := by
  show execNorEraseTimeout sector s = _
  simp only [execNorEraseTimeout, hx]

theorem norEraseTimeout_of_landing {x : FwXfer} {h : FwHdr} (hx : s.fw.xfer = some x) (hh : x.hdr = some h) (sector : Fin 65536) :
    exec (.norEraseTimeout sector) s = .next ((s.norFailure sector).endXfer 0x0B) := by
  show execNorEraseTimeout sector s = _
  simp only [execNorEraseTimeout, hx, hh, Option.isSome_some, if_true]

theorem fwCancel_of_starts {r : Fin 16} {d : HostDesc} {s0 : State} (h : MgmtStarts s r 0x202 d s0) :
    exec (.fwCancel r) s = .next (((s0.endXfer 0x10).mgmtEnd d.id 0 []).ringGo 0 r) :=
  congrArg Host.Outcome.next (mgmt_of_starts h _)

end

/-! ### Activation (R547 to R550) -/

section

variable {s s0 : State} {r : Fin 16} {d : HostDesc}

theorem fwActivate_of_starts (h : MgmtStarts s r 0x201 d s0) (sig payload : Bool) : exec (.fwActivate r sig payload) s =
    .next ((if s.actStatus (d.arg0 % 256) (bits d.arg0 15 8) sig payload = 0
      then s0.startAct (d.arg0 % 256) (bits d.arg0 15 8) (some d.id) false
      else if s.fw.act.isSome then s0.mgmtEnd d.id (s.actStatus (d.arg0 % 256) (bits d.arg0 15 8) sig payload) []
      else s0.endAct (d.arg0 % 256) (s.actStatus (d.arg0 % 256) (bits d.arg0 15 8) sig payload) (some d.id)).ringGo 0 r) := by
  refine congrArg Host.Outcome.next ((mgmt_of_starts h _).trans ?_)
  rw [eq_modDesc_of_starts h.1]
  rfl

theorem switch_of_idle (ha : s.fw.act = none) (i : LinkId) :
    ∀ c ∈ [Instr.mgmtImageReady, .mgmtReadyTimeout, .microcodeSwitch i, .microcodeReadyTimeout i], exec c s = .next s := by
  simp only [List.forall_mem_cons]
  refine ⟨?_, ?_, ?_, ?_, List.forall_mem_nil _⟩
  · show execMgmtImageReady s = _
    simp only [execMgmtImageReady, ha]
  · show execMgmtReadyTimeout s = _
    simp only [execMgmtReadyTimeout, ha]
  · show execMicrocodeSwitch i s = _
    simp only [execMicrocodeSwitch, ha]
  · show execMicrocodeReadyTimeout i s = _
    simp only [execMicrocodeReadyTimeout, ha]

variable {a : FwAct} (ha : s.fw.act = some a)

include ha

/-! #### The management image (R548) -/

section

variable (ht : a.type = 2)

/-- The new image runs, its region activated and its floor raised. -/
def mgmtActivated (s : State) : State :=
  (s.raiseFloor 2 (s.fwType 2).stg).modFwType 2 fun y => { y with stgSt := .activated, run := (s.fwType 2).stg }

omit ha in
theorem fwType_mgmtActivated : (mgmtActivated s).fwType 2 =
    { s.fwType 2 with floor := max (s.fwType 2).floor (s.fwType 2).stg.arb, stgSt := .activated, run := (s.fwType 2).stg } := by
  rw [mgmtActivated, fwType_modFwType, fwType_raiseFloor]

include ht

theorem mgmtImageReady_of_act : exec .mgmtImageReady s =
    .next (if decide (a.thenLinks = true ∧ (s.fwType 3).stgSt = .staged) then
      { (mgmtActivated s).endAct 2 0 a.desc with
        fw := { ((mgmtActivated s).endAct 2 0 a.desc).fw with pldm := s.fw.pldm } }.goOn a
      else (mgmtActivated s).endAct 2 0 a.desc) := by
  show execMgmtImageReady s = _
  simp only [execMgmtImageReady, ha]
  exact congrArg Host.Outcome.next (if_neg (not_not_intro ht))

theorem mgmtImageReady_alone (hl : a.thenLinks = false) : exec .mgmtImageReady s = .next ((mgmtActivated s).endAct 2 0 a.desc) := by
  simp [mgmtImageReady_of_act ha ht, hl]

omit ha ht in
theorem types_goOn (t : State) (a : FwAct) : (t.goOn a).fw.types = t.fw.types := by
  simp only [State.goOn]
  split <;> rfl

theorem mgmtImageReady_spec : ∃ u, exec .mgmtImageReady s = .next u ∧ (u.fwType 2).stgSt = .activated
    ∧ (u.fwType 2).run = (s.fwType 2).stg ∧ (u.fwType 2).floor = max (s.fwType 2).floor (s.fwType 2).stg.arb := by
  have hact : ((mgmtActivated s).endAct 2 0 a.desc).fwType 2 = _ := (fwType_endAct ..).trans fwType_mgmtActivated
  refine ⟨_, mgmtImageReady_of_act ha ht, ?_⟩
  split
  · rw [fwType_of_types (types_goOn _ a)]
    exact ⟨congrArg FwType.stgSt hact, congrArg FwType.run hact, congrArg FwType.floor hact⟩
  · rw [hact]
    exact ⟨rfl, rfl, rfl⟩

theorem mgmtReadyTimeout_of_act : exec .mgmtReadyTimeout s =
    .next ((s.modFwType 2 fun y => { y with stgSt := .failed, copy := false }).endAct 2 0x0E a.desc) := by
  show execMgmtReadyTimeout s = _
  simp only [execMgmtReadyTimeout, ha]
  exact congrArg Host.Outcome.next (if_neg (not_not_intro ht))

theorem microcode_idle_of_mgmt (i : LinkId) : exec (.microcodeSwitch i) s = .next s ∧ exec (.microcodeReadyTimeout i) s = .next s := by
  have hno : a.type ≠ 3 := by simp [ht]
  constructor
  · show execMicrocodeSwitch i s = _
    simp only [execMicrocodeSwitch, ha]
    exact congrArg Host.Outcome.next (if_pos (.inl hno))
  · show execMicrocodeReadyTimeout i s = _
    simp only [execMicrocodeReadyTimeout, ha]
    exact congrArg Host.Outcome.next (if_pos (.inl hno))

end

/-! #### The link microcode (R550, R551) -/

section

variable (ht : a.type = 3) (i : LinkId)

include ht

theorem mgmt_idle_of_microcode : exec .mgmtImageReady s = .next s ∧ exec .mgmtReadyTimeout s = .next s := by
  have hno : a.type ≠ 2 := by simp [ht]
  constructor
  · show execMgmtImageReady s = _
    simp only [execMgmtImageReady, ha]
    exact congrArg Host.Outcome.next (if_pos hno)
  · show execMgmtReadyTimeout s = _
    simp only [execMgmtReadyTimeout, ha]
    exact congrArg Host.Outcome.next (if_pos hno)

omit ht in
theorem microcode_of_other_link (h : a.links.head? ≠ some i.val) :
    exec (.microcodeSwitch i) s = .next s ∧ exec (.microcodeReadyTimeout i) s = .next s := by
  constructor
  · show execMicrocodeSwitch i s = _
    simp only [execMicrocodeSwitch, ha]
    exact congrArg Host.Outcome.next (if_pos (.inr h))
  · show execMicrocodeReadyTimeout i s = _
    simp only [execMicrocodeReadyTimeout, ha]
    exact congrArg Host.Outcome.next (if_pos (.inr h))

variable {ls : List Nat} (hl : a.links = i.val :: ls)

include hl

omit ha in
theorem link_is_next : ¬ (a.type ≠ 3 ∨ a.links.head? ≠ some i.val) := by simp [ht, hl]

theorem microcodeReadyTimeout_of_next : exec (.microcodeReadyTimeout i) s = .next (s.endAct 3 0x0E a.desc) := by
  show execMicrocodeReadyTimeout i s = _
  simp only [execMicrocodeReadyTimeout, ha]
  exact congrArg Host.Outcome.next (if_neg (link_is_next ht i hl))

omit ha ht hl in
/-- Link port `i` runs version `v`. -/
def runsVersion (s : State) (i : LinkId) (v : Nat) : State :=
  { s with fw := { s.fw with lnkVer := tblSet (fun _ => 0) s.fw.lnkVer i v } }

omit ha ht hl in
/-- The link runs the staged microcode; the first success raises the floor, and link 0 stands for the type. -/
def linkSwitched (s : State) (a : FwAct) (i : LinkId) : State :=
  let h := (s.fwType 3).stg
  let s1 := if a.some_ then s else s.raiseFloor 3 h
  let s2 := runsVersion s1 i h.version
  if i.val = 0 then s2.modFwType 3 fun x => { x with run := h } else s2

omit ha ht hl in
theorem linkSwitched_spec : tblGet (fun _ => 0) (linkSwitched s a i).fw.lnkVer i = (s.fwType 3).stg.version
    ∧ ((linkSwitched s a i).fwType 3).floor =
      if a.some_ then (s.fwType 3).floor else max (s.fwType 3).floor (s.fwType 3).stg.arb := by
  unfold linkSwitched
  extract_lets h s1 s2
  have hfloor : (s1.fwType 3).floor = if a.some_ then (s.fwType 3).floor else max (s.fwType 3).floor (s.fwType 3).stg.arb := by
    simp only [s1]
    split
    · rfl
    · rw [fwType_raiseFloor]
  have hver : tblGet (fun _ => 0) s2.fw.lnkVer i = h.version := tblGet_tblSet_self ..
  split
  · refine ⟨hver, ?_⟩
    rw [fwType_modFwType]
    exact hfloor
  · exact ⟨hver, hfloor⟩

theorem microcodeSwitch_of_next : exec (.microcodeSwitch i) s =
    .next (match a.links.drop 1 with
      | [] => ((linkSwitched s a i).modFwType 3 fun x => { x with stgSt := .activated }).endAct 3 0 a.desc
      | ls => { linkSwitched s a i with fw := { (linkSwitched s a i).fw with act := some { a with links := ls, some_ := true } } }) := by
  show execMicrocodeSwitch i s = _
  simp only [execMicrocodeSwitch, ha]
  exact congrArg Host.Outcome.next (if_neg (link_is_next ht i hl))

theorem microcodeSwitch_spec : ∃ u, exec (.microcodeSwitch i) s = .next u
    ∧ tblGet (fun _ => 0) u.fw.lnkVer i = (s.fwType 3).stg.version
    ∧ (ls = [] → u.fw.act = none ∧ (u.fwType 3).stgSt = .activated)
    ∧ (ls ≠ [] → u.fw.act = some { a with links := ls, some_ := true })
    ∧ (u.fwType 3).floor = if a.some_ then (s.fwType 3).floor else max (s.fwType 3).floor (s.fwType 3).stg.arb := by
  obtain ⟨hver, hfloor⟩ := linkSwitched_spec (s := s) (a := a) i
  refine ⟨_, microcodeSwitch_of_next ha ht i hl, ?_⟩
  have hrest : a.links.drop 1 = ls := by rw [hl, List.drop_one, List.tail_cons]
  rw [hrest]
  cases ls with
  | nil =>
    dsimp only
    rw [fwType_endAct, fwType_modFwType, fw_endAct]
    exact ⟨hver, fun _ => ⟨rfl, rfl⟩, fun h => absurd rfl h, hfloor⟩
  | cons j ls => exact ⟨hver, fun h => absurd h (List.cons_ne_nil j ls), fun _ => rfl, hfloor⟩

end

end

theorem mgmtIn_eq_of_starts {s s0 : State} {r : Fin 16} {d : HostDesc} {cmd : Nat} (h : MgmtStarts s r cmd d s0) :
    s0.mgmtIn d = s.mgmtIn d := by
  rw [eq_modDesc_of_starts h.1]
  rfl

/-- Settles O50: the commands of a transfer in turn, then those of an activation by its type. -/
theorem firmwareImages : Obligations.FirmwareImages := by
  intro r ok sig payload tag es sector i d x h a s0 s fin t n began pay
  have hbegan (hs : MgmtStarts s r 0x200 d s0) : began = stageBegun s0 d (s.mgmtIn d) := by
    simp only [began, stageBegun, mgmtIn_eq_of_starts hs, t, n]
  refine ⟨fun hs => ⟨fun ht => ?_, fun h1 h3 hb => ?_, fun hc => fwStage_of_refused hs rfl hc ok, fun hc hok => ?_, fun hc hok hn => ?_,
      fun hc hok hn => ?_⟩,
    fun hx => ⟨imageHeader_of_idle hx sig, imageLanded_of_idle hx tag es⟩,
    fun hx => ⟨imageHeader_of_not_due hx sig, fun hh hlen => ?_, fun hh hw => imageLanded_of_part hx hh tag es hw,
      fun hh hw => ⟨fun hb => imageLanded_bad_spec hx hh tag es hw hb, fun hlen hsha ht => ?_⟩, fun hh => ?_⟩,
    fun hx => ⟨_, norEraseTimeout_of_idle hx sector, fw_norFailure ..⟩, fwCancel_of_starts,
    fun hs => ⟨fun hc => ?_, fun hc ha => ?_, fun hc ha => ?_⟩, fun ha => switch_of_idle ha i,
    fun ha ht => ⟨mgmtImageReady_alone ha ht, mgmtImageReady_spec ha ht, mgmtReadyTimeout_of_act ha ht, microcode_idle_of_mgmt ha ht i⟩,
    fun ha ht => ⟨(mgmt_idle_of_microcode ha ht).1, (mgmt_idle_of_microcode ha ht).2,
      fun ls hl => ⟨microcodeReadyTimeout_of_next ha ht i hl, microcodeSwitch_spec ha ht i hl⟩, microcode_of_other_link ha i⟩⟩
  · exact if_pos ht
  · exact (if_neg (show ¬ (t = 0 ∨ t > 3) by omega)).trans (if_pos hb)
  · rw [hbegan hs]
    exact (fwStage_of_started hs hc ok).trans (by simp [hok, fin])
  · rw [hbegan hs]
    exact (fwStage_of_started hs hc ok).trans (by simp [hok, fin, n, hn])
  · rw [hbegan hs]
    exact (fwStage_of_started hs hc ok).trans (by simp [hok, fin, n, Nat.not_lt.2 hn])
  · refine ⟨fun hc => ?_, fun hc hr => ?_, fun hc hr => ?_⟩
    · exact (imageHeader_of_due hx sig hh hlen).trans (congrArg Host.Outcome.next (if_pos hc))
    all_goals
      refine ⟨_, (imageHeader_of_due hx sig hh hlen).trans (congrArg Host.Outcome.next (if_neg (not_not_intro hc))), ?_⟩
      have hty := fwType_modFwType s x.type fun y =>
        if s.boot.recovery then { y with valid := false } else { y with stg := FwHdr.none, stgSt := .landing, copy := false }
      simp only [hr, if_true, if_false, Bool.false_eq_true] at hty ⊢
    · exact ⟨hty, trivial, rfl⟩
    · exact ⟨congrArg FwType.stgSt hty, congrArg FwType.copy hty, (congrArg FwType.act hty :), trivial, rfl⟩
  · refine imageLanded_good_spec hx hh tag es hw ?_
    rintro (hb | hb | hb)
    · exact absurd hlen (Nat.not_le.2 hb)
    · exact hb hsha
    · exact absurd ht (by simp [hb])
  · refine ⟨_, norEraseTimeout_of_landing hx hh sector, ?_⟩
    rw [fw_endXfer _ ((congrArg FwSt.xfer (fw_norFailure s sector)).trans hx)]
    exact ⟨congrArg FwSt.norFail (fw_norFailure s sector), rfl, rfl⟩
  · exact (fwActivate_of_starts hs sig payload).trans (congrArg fin (if_pos hc))
  · exact (fwActivate_of_starts hs sig payload).trans (congrArg fin ((if_neg hc).trans (if_pos ha)))
  · exact (fwActivate_of_starts hs sig payload).trans (congrArg fin ((if_neg hc).trans (if_neg (by simp [ha]))))

end Sys2Proof.Laws
end

section
/-! PROOFS. The start, ROM recovery, and firmware update over PLDM and USB (spec/20: R534, R541, R544, R552 to R554; spec/21: R572). -/
namespace Sys2Proof.Laws

open Machine

/-! ### What the last part of a start leaves (R188, R516, R534) -/

section

variable (s : State)

@[simp] theorem boot_ite (c : Prop) [Decidable c] (a b : State) : (if c then a else b).boot = if c then a.boot else b.boot :=
  apply_ite ..

@[simp] theorem cus_ite (c : Prop) [Decidable c] (a b : State) : (if c then a else b).cus = if c then a.cus else b.cus :=
  apply_ite ..

@[simp] theorem boot_cus_setReg (k v : Nat) : (s.setReg k v).boot = s.boot ∧ (s.setReg k v).cus = s.cus := ⟨rfl, rfl⟩
@[simp] theorem boot_cus_bump (k n : Nat) : (s.bump k n).boot = s.boot ∧ (s.bump k n).cus = s.cus := ⟨rfl, rfl⟩
@[simp] theorem boot_cus_setBits (k m : Nat) : (s.setBits k m).boot = s.boot ∧ (s.setBits k m).cus = s.cus := ⟨rfl, rfl⟩
@[simp] theorem boot_cus_emit (e : Emit) : (s.emit e).boot = s.boot ∧ (s.emit e).cus = s.cus := ⟨rfl, rfl⟩
@[simp] theorem boot_cus_draw : s.draw.boot = s.boot ∧ s.draw.cus = s.cus := ⟨rfl, rfl⟩

@[simp] theorem boot_cus_msix (fn vec : Nat) :
    (s.msix fn vec).boot = s.boot ∧ (s.msix fn vec).cus = s.cus := by simp [State.msix]

@[simp] theorem boot_cus_ledgerFull (type source owner object code arg value : Nat) :
    (s.ledgerFull type source owner object code arg value).boot = s.boot
      ∧ (s.ledgerFull type source owner object code arg value).cus = s.cus := by simp [State.ledgerFull]

@[simp] theorem boot_cus_ledger (type source object code value : Nat) :
    (s.ledger type source object code value).boot = s.boot
      ∧ (s.ledger type source object code value).cus = s.cus := by simp [State.ledger]

@[simp] theorem boot_cus_clearRange (lo hi : Nat) :
    (s.clearRange lo hi).boot = s.boot ∧ (s.clearRange lo hi).cus = s.cus := ⟨rfl, rfl⟩

@[simp] theorem boot_cus_svcEvt (k m : Nat) :
    (s.svcEvt k m).boot = s.boot ∧ (s.svcEvt k m).cus = s.cus := by simp [State.svcEvt]

@[simp] theorem boot_cus_secAlarm (b : Nat) :
    (s.secAlarm b).boot = s.boot ∧ (s.secAlarm b).cus = s.cus := by simp [State.secAlarm]

@[simp] theorem boot_cus_panelRecord (event object code value : Nat) :
    (s.panelRecord event object code value).boot = s.boot
      ∧ (s.panelRecord event object code value).cus = s.cus := by simp [State.panelRecord]

@[simp] theorem boot_cus_secEvent (bit event object code : Nat) :
    (s.secEvent bit event object code).boot = s.boot
      ∧ (s.secEvent bit event object code).cus = s.cus := by simp [State.secEvent]

@[simp] theorem boot_cus_ledgerPut (r : LRec) : (s.ledgerPut r).boot = s.boot ∧ (s.ledgerPut r).cus = s.cus := by
  simp only [State.ledgerPut]
  (repeat' split) <;> simp

@[simp] theorem boot_cus_ownRecord (type code : Nat) :
    (s.ownRecord type code).boot = s.boot ∧ (s.ownRecord type code).cus = s.cus := by simp [State.ownRecord]

@[simp] theorem boot_cus_fwRecord (event t code : Nat) (h : FwHdr) :
    (s.fwRecord event t code h).boot = s.boot ∧ (s.fwRecord event t code h).cus = s.cus := by simp [State.fwRecord]

@[simp] theorem boot_cus_coverage : s.coverage.boot = s.boot ∧ s.coverage.cus = s.cus := by simp [State.coverage]

@[simp] theorem boot_cus_repairBlock (b : Nat) :
    (s.repairBlock b).boot = s.boot ∧ (s.repairBlock b).cus = s.cus := by simp [State.repairBlock]

@[simp] theorem boot_cus_repairEntry (w : Withheld) :
    (s.repairEntry w).boot = s.boot ∧ (s.repairEntry w).cus = s.cus := by simp [State.repairEntry]

@[simp] theorem boot_cus_repairEntries (n : Nat) (a3 : List Withheld) :
    (s.repairEntries n a3).1.boot = s.boot ∧ (s.repairEntries n a3).1.cus = s.cus := by
  induction a3 generalizing s n with
  | nil => exact ⟨rfl, rfl⟩
  | cons x xs ih => simp [State.repairEntries, ih]

@[simp] theorem boot_cus_repairHeavy (n : Nat) (a3 : List Nat) :
    (s.repairHeavy n a3).boot = s.boot ∧ (s.repairHeavy n a3).cus = s.cus := by
  induction a3 generalizing s n with
  | nil => exact ⟨rfl, rfl⟩
  | cons x xs ih => simp [State.repairHeavy, ih]

@[simp] theorem boot_cus_repair (m : StartMeas) :
    (s.repair m).boot = s.boot ∧ (s.repair m).cus = s.cus := by simp [State.repair]

@[simp] theorem boot_cus_ledgerStart (m : StartMeas) :
    (s.ledgerStart m).boot = s.boot ∧ (s.ledgerStart m).cus = s.cus := by simp [State.ledgerStart]

@[simp] theorem boot_cus_dueReport (due volt : Bool) (bit event : Nat) :
    (s.dueReport due volt bit event).boot = s.boot ∧ (s.dueReport due volt bit event).cus = s.cus := by simp [State.dueReport]

@[simp] theorem boot_cus_tamperReports (a2 : Nat) : (s.tamperReports a2).boot = s.boot ∧ (s.tamperReports a2).cus = s.cus := by
  induction a2 generalizing s  with
  | zero => exact ⟨rfl, rfl⟩
  | succ n ih => simp [State.tamperReports, ih]

/-- What happened while the module was off is reported, and the cause of the start is used up. -/
theorem boot_cus_dues (m : StartMeas) :
    (s.dues m).boot = { s.boot with prior := none, warm := false } ∧ (s.dues m).cus = s.cus := by
  unfold State.dues
  extract_lets p s1 s2 s3 s4 s5 s6 b7 p7 s7
  have h1 : s1.boot = s.boot ∧ s1.cus = s.cus := by simp [s1]
  have h2 : s2.boot = s1.boot ∧ s2.cus = s1.cus := by simp [s2]
  have h3 : s3.boot = s2.boot ∧ s3.cus = s2.cus := by simp [s3]
  have h4 : s4.boot = s3.boot ∧ s4.cus = s3.cus := by
    simp only [s4]
    split
    · simp
    · exact ⟨rfl, rfl⟩
  have h5 : s5.boot = s4.boot ∧ s5.cus = s4.cus := by simp [s5]
  have h6 : s6.boot = s5.boot ∧ s6.cus = s5.cus := by simp [s6]
  have h7 : s7.boot = { s.boot with prior := none, warm := false } ∧ s7.cus = s.cus := by
    simp only [s7, b7, h6, h5, h4, h3, h2, h1, and_self]
  rwa [(boot_cus_coverage s7).1, (boot_cus_coverage s7).2]

/-- The main path of a start: the module runs and serves, and the Custodian is up with its entropy source starting (R534). -/
theorem startMain_spec (m : StartMeas) : (s.startMain m).boot.run = true ∧ (s.startMain m).boot.ready = true
    ∧ (s.startMain m).boot.good = true ∧ (s.startMain m).cus.ready = true ∧ (s.startMain m).cus.es = .startup := by
  unfold State.startMain
  extract_lets s1 f2 b2 s2
  obtain ⟨hb, hc⟩ := boot_cus_dues ((s2.ledgerStart m).repair m) m
  simp only [hb, hc, boot_cus_repair, boot_cus_ledgerStart]
  exact ⟨rfl, rfl, rfl, rfl, rfl⟩

end

/-! ### Power-good and the end of recovery (R534, R552, R554) -/

section

variable {s : State}

/-- The start may begin: the module is off, no thermal shutdown is in force, and the bulk is charged (R534, R564). -/
def FitToStart (s : State) : Prop :=
  s.boot.good = false ∧ s.boot.shut = false ∧ s.panel.dc = true ∧ s.panel.swap = .charged

theorem powerGood_of_unfit (h : ¬ FitToStart s) (m : StartMeas) : exec (.powerGood m) s = .next s := by
  refine congrArg Host.Outcome.next (if_pos ?_)
  simpa [FitToStart, Classical.or_iff_not_imp_left] using h

variable (h : FitToStart s) (m : StartMeas)

include h

theorem powerGood_of_fit : exec (.powerGood m) s =
    .next (if fwTypes.all fun t => (((s.copyPending m).failImages m fwTypes).fwType t).valid
      then ((s.copyPending m).failImages m fwTypes).startMain m else ((s.copyPending m).failImages m fwTypes).enterRecovery) := by
  obtain ⟨hg, hs, hd, hc⟩ := h
  exact congrArg Host.Outcome.next (if_neg (by simp [hg, hs, hd, hc]))

theorem powerGood_of_valid (hv : ∀ t ∈ fwTypes, (((s.copyPending m).failImages m fwTypes).fwType t).valid = true) :
    exec (.powerGood m) s = .next (((s.copyPending m).failImages m fwTypes).startMain m) :=
  (powerGood_of_fit h m).trans (congrArg Host.Outcome.next (if_pos (List.all_eq_true.2 hv)))

theorem powerGood_of_invalid (hv : ∃ t ∈ fwTypes, (((s.copyPending m).failImages m fwTypes).fwType t).valid = false) :
    exec (.powerGood m) s = .next ((s.copyPending m).failImages m fwTypes).enterRecovery := by
  obtain ⟨t, ht, hf⟩ := hv
  refine (powerGood_of_fit h m).trans (congrArg Host.Outcome.next (if_neg fun hall => ?_))
  exact absurd (List.all_eq_true.1 hall t ht) (by simp [hf])

end

section

variable {s : State}

theorem recoveryExit_of_no_cause (h : s.fw.dlAt = none ∨ s.boot.recovery = false) : exec .recoveryExit s = .next s := by
  show execRecoveryExit s = _
  simp only [execRecoveryExit]
  split
  · next hd =>
    have hr : s.boot.recovery = false := h.resolve_left (by simp [hd])
    exact congrArg Host.Outcome.next (if_neg (by simp [hr]))
  · rfl

@[simp] theorem boot_markClearing (l : List Nat) : (s.markClearing l).boot = s.boot := by
  induction l generalizing s with
  | nil => rfl
  | cons g l ih => exact ih

theorem recoveryExit_of_due {t : Nat} (hd : s.fw.dlAt = some t) (hr : s.boot.recovery = true) (hx : s.fw.xfer = none)
    (hv : ∀ y ∈ fwTypes, (s.fwType y).valid = true) (ht : t + 1000000000 ≤ s.now) : ∃ u, exec .recoveryExit s = .next u
      ∧ u.boot.recovered = true ∧ u.boot.recovery = false ∧ u.boot.good = false := by
  have he : exec .recoveryExit s = .next { s.hardReset s.boot.cause with
      boot := { (s.hardReset s.boot.cause).boot with recovered := true } } := by
    show execRecoveryExit s = _
    simp only [execRecoveryExit, hd]
    exact congrArg Host.Outcome.next (if_pos ⟨hr, by simp [hx], List.all_eq_true.2 hv, ht⟩)
  refine ⟨_, he, rfl, ?_⟩
  simp only [State.hardReset, State.down, boot_markClearing]
  exact ⟨rfl, rfl⟩

end

/-! ### PLDM (R541, R544) -/

section

variable {s : State}

/-- A request that the endpoint takes and a state of the firmware device refuses. -/
theorem pldm_refused {on c : Prop} [Decidable on] [Decidable c] {x u v w : State} (h : on) (hc : ¬ c) (hi : s.fw.pldm = .idle) :
    (if on then (if c then x else if s.fw.pldm = .idle then u else v) else w) = u :=
  (if_pos h).trans ((if_neg hc).trans (if_pos hi))

theorem pldm_out_of_place {on c : Prop} [Decidable on] [Decidable c] {x u v w : State} (h : on) (hc : ¬ c)
    (hi : s.fw.pldm ≠ .idle) :
    (if on then (if c then x else if s.fw.pldm = .idle then u else v) else w) = v :=
  (if_pos h).trans ((if_neg hc).trans (if_neg hi))

variable (bus : Fin 2) (id : Fin 65536) (w : W32) (last self sig payload : Bool)

theorem pldm_of_off (h : ¬ s.mctpOn bus = true) : ∀ c ∈ [Instr.queryDeviceIdentifiers bus, .getFirmwareParameters bus,
    .requestUpdate bus w, .passComponentTable bus id last, .updateComponent bus id w, .activateFirmware bus self sig payload,
    .getStatus bus, .cancelUpdateComponent bus, .cancelUpdate bus], exec c s = .next s := by
  simp only [List.forall_mem_cons]
  exact ⟨congrArg Host.Outcome.next (if_neg h), congrArg Host.Outcome.next (if_neg h), congrArg Host.Outcome.next (if_neg h),
    congrArg Host.Outcome.next (if_neg h), congrArg Host.Outcome.next (if_neg h), congrArg Host.Outcome.next (if_neg h),
    congrArg Host.Outcome.next (if_neg h), congrArg Host.Outcome.next (if_neg h), congrArg Host.Outcome.next (if_neg h),
    List.forall_mem_nil _⟩

variable {bus} (h : s.mctpOn bus = true)

include h

theorem getFirmwareParameters_of_on : exec (.getFirmwareParameters bus) s =
    .next (s.pldm 2 ([0] ++ toBytes 2 3 ++ (s.pldmComponent 1 ++ s.pldmComponent 2 ++ s.pldmComponent 3))) := by
  refine congrArg Host.Outcome.next ((if_pos h).trans ?_)
  simp [fwTypes]

theorem requestUpdate_of_busy (hb : s.fw.xfer.isSome = true ∨ s.fw.pldm ≠ .idle) :
    exec (.requestUpdate bus w) s = .next (s.pldm 0x10 [0x81]) :=
  congrArg Host.Outcome.next ((if_pos h).trans (if_pos hb))

theorem requestUpdate_of_idle (hx : s.fw.xfer = none) (hi : s.fw.pldm = .idle) : exec (.requestUpdate bus w) s =
    .next ((({ s with fw := { s.fw with piece := min 2048 w.toNat } } : State).pldmTo .learn).pldm 0x10 [0, 0, 0, 0]) :=
  congrArg Host.Outcome.next ((if_pos h).trans (if_neg (by simp [hx, hi])))

/-- In IDLE no request of an update is taken. -/
theorem pldm_of_idle (hi : s.fw.pldm = .idle) : exec (.passComponentTable bus id last) s = .next (s.pldm 0x13 [0x80])
    ∧ exec (.updateComponent bus id w) s = .next (s.pldm 0x14 [0x80])
    ∧ exec (.activateFirmware bus self sig payload) s = .next (s.pldm 0x1A [0x80])
    ∧ exec (.cancelUpdateComponent bus) s = .next (s.pldm 0x1C [0x80]) ∧ exec (.cancelUpdate bus) s = .next (s.pldm 0x1D [0x80]) :=
  ⟨congrArg Host.Outcome.next (pldm_refused h (by simp [hi]) hi), congrArg Host.Outcome.next (pldm_refused h (by simp [hi]) hi),
    congrArg Host.Outcome.next (pldm_refused h (by simp [hi]) hi), congrArg Host.Outcome.next (pldm_refused h (by simp [hi]) hi),
    congrArg Host.Outcome.next (pldm_refused h (by simp [hi]) hi)⟩

theorem passComponentTable_out_of_place (hi : s.fw.pldm ≠ .idle) (hl : s.fw.pldm ≠ .learn) :
    exec (.passComponentTable bus id last) s = .next (s.pldm 0x13 [0x84]) :=
  congrArg Host.Outcome.next (pldm_out_of_place h (by simp [hl]) hi)

theorem updateComponent_out_of_place (hi : s.fw.pldm ≠ .idle) (hr : s.fw.pldm ≠ .ready) :
    exec (.updateComponent bus id w) s = .next (s.pldm 0x14 [0x84]) :=
  congrArg Host.Outcome.next (pldm_out_of_place h (by simp [hr]) hi)

theorem activateFirmware_out_of_place (hi : s.fw.pldm ≠ .idle) (hr : s.fw.pldm ≠ .ready) :
    exec (.activateFirmware bus self sig payload) s = .next (s.pldm 0x1A [0x84]) :=
  congrArg Host.Outcome.next (pldm_out_of_place h (by simp [hr]) hi)

theorem passComponentTable_of_learn (hl : s.fw.pldm = .learn) : exec (.passComponentTable bus id last) s =
    .next ((if last then s.pldmTo .ready else s).pldm 0x13 [0, BitVec.ofNat 8 (b2n !decide (1 ≤ id.val ∧ id.val ≤ 3)), 0]) :=
  congrArg Host.Outcome.next ((if_pos h).trans (if_pos (by simp [hl])))

theorem cancelUpdateComponent_of_transfer (hst : s.fw.pldm = .download ∨ s.fw.pldm = .verify ∨ s.fw.pldm = .apply) :
    exec (.cancelUpdateComponent bus) s = .next ((s.pldmDrop.pldmTo .ready).pldm 0x1C [0]) :=
  congrArg Host.Outcome.next ((if_pos h).trans (if_pos (by simpa [or_assoc] using hst)))

theorem cancelUpdate_of_update (hi : s.fw.pldm ≠ .idle) (ha : s.fw.pldm ≠ .activate) :
    exec (.cancelUpdate bus) s = .next ((s.pldmDrop.pldmTo .idle).pldm 0x1D [0, 0, 0, 0, 0, 0, 0, 0, 0, 0]) :=
  congrArg Host.Outcome.next ((if_pos h).trans (if_pos (by simp [hi, ha])))

variable (hr : s.fw.pldm = .ready)

include hr

/-- An activation that takes effect at a module reset, or in recovery (R544). -/
theorem activateFirmware_of_reset (hs : self = false ∨ s.boot.recovery = true) :
    exec (.activateFirmware bus self sig payload) s = .next ((s.pldmTo .idle).pldm 0x1A [0, 0, 0]) :=
  congrArg Host.Outcome.next ((if_pos h).trans ((if_pos (by simp [hr])).trans (if_pos (hs.imp_left fun h => by simp [h]))))

variable (hs : self = true) (hrec : s.boot.recovery = false)

include hs hrec

theorem activateFirmware_of_self : exec (.activateFirmware bus self sig payload) s = .next (match s.actFirst with
    | none => (s.pldmTo .idle).pldm 0x1A [0x8B]
    | some t => if s.actStatus t 0xFF sig payload ≠ 0 then
        (if s.fw.act.isSome then s else s.endAct t (s.actStatus t 0xFF sig payload) none).pldm 0x1A [0x8C]
      else ((s.startAct t 0xFF none (t == 2)).pldmTo .activate).pldm 0x1A [0, 0, 0]) :=
  congrArg Host.Outcome.next ((if_pos h).trans ((if_pos (by simp [hr])).trans (if_neg (by simp [hs, hrec]))))

theorem activateFirmware_of_unstaged (ha : s.actFirst = none) :
    exec (.activateFirmware bus self sig payload) s = .next ((s.pldmTo .idle).pldm 0x1A [0x8B]) := by
  rw [activateFirmware_of_self self sig payload h hr hs hrec, ha]

theorem activateFirmware_of_staged {t : Nat} (ha : s.actFirst = some t) (hc : s.actStatus t 0xFF sig payload = 0) :
    exec (.activateFirmware bus self sig payload) s =
      .next (((s.startAct t 0xFF none (t == 2)).pldmTo .activate).pldm 0x1A [0, 0, 0]) := by
  rw [activateFirmware_of_self self sig payload h hr hs hrec, ha]
  exact congrArg Host.Outcome.next (if_neg (not_not_intro hc))

end

/-! ### The data of a component, and the completions (R544) -/

section

variable {s : State} {bs : List Byte}

theorem firmwareData_of_none (hx : s.fw.xfer = none ∨ s.fw.pldm ≠ .download) : exec (.firmwareData bs) s = .next s := by
  show execFirmwareData bs s = _
  simp only [execFirmwareData]
  split
  · next x h =>
    exact congrArg Host.Outcome.next (if_pos (.inr (.inl (hx.resolve_left (by simp [h])))))
  · rfl

variable {x : FwXfer}

/-- The transfer with more of its bytes. -/
def moreBytes (x : FwXfer) (bs : List Byte) : FwXfer := { x with bytes := x.bytes ++ bs }

theorem firmwareData_of_piece (hx : s.fw.xfer = some x) (hs : x.src = .pldm) (hp : s.fw.pldm = .download) (hne : bs ≠ [])
    (hlen : bs.length = min s.fw.piece (x.len - x.bytes.length)) : exec (.firmwareData bs) s =
    .next (if (moreBytes x bs).bytes.length ≥ x.len ∧ x.len < 8192 then
      ({ s with fw := { s.fw with xfer := some (moreBytes x bs), progress := (moreBytes x bs).bytes.length / 1024 } } : State).endXfer 1
      else ({ s with fw := { s.fw with xfer := some (moreBytes x bs), progress := (moreBytes x bs).bytes.length / 1024 } } : State).pldmAsk) := by
  show execFirmwareData bs s = _
  simp only [execFirmwareData, hx]
  exact congrArg Host.Outcome.next (if_neg (by simp [hs, hp, hne, hlen]))

theorem transferComplete_of_not_due (h : s.fw.pldm ≠ .download ∨ s.fw.xfer.isSome = true) : exec .transferComplete s = .next s := by
  refine congrArg Host.Outcome.next (if_neg ?_)
  rintro ⟨hp, hx⟩
  rcases h with h | h
  · exact h hp
  · simp [Option.isNone_iff_eq_none.1 hx] at h

end

/-! ### USB DFU (R553, R572) -/

section

variable {s : State} (alt : Fin 4) (bs : List Byte) (first last : Bool)

theorem dfuDownload_of_unfit (h : s.boot.recovery = false ∨ alt.val = 3 ∨ 4096 < bs.length) :
    exec (.dfuDownload alt bs first last) s = .next s :=
  congrArg Host.Outcome.next (if_pos (h.imp_left fun h => by simp [h]))

variable (hr : s.boot.recovery = true) (ha : alt.val < 3) (hlen : bs.length ≤ 4096)

include hr ha hlen

theorem dfu_fits : ¬ ((!s.boot.recovery) = true ∨ alt.val = 3 ∨ bs.length > 4096) := by
  simp [hr, hlen]
  omega

theorem dfuDownload_first (hx : s.fw.xfer = none) : exec (.dfuDownload alt bs true false) s =
    .next { s with fw := { s.fw with xfer := some ⟨.dfu, alt.val + 1, 2 ^ 32, bs, none⟩ } } := by
  show execDfuDownload alt bs true false s = _
  simp only [execDfuDownload, if_neg (dfu_fits alt bs hr ha hlen), hx]
  rfl

theorem dfuDownload_next_of_none (hx : s.fw.xfer = none) : exec (.dfuDownload alt bs false last) s =
    .next (s.emit (.dfu 0x0F [])) := by
  show execDfuDownload alt bs false last s = _
  simp only [execDfuDownload, if_neg (dfu_fits alt bs hr ha hlen), hx]
  rfl

variable {x : FwXfer} (hx : s.fw.xfer = some x)

include hx

theorem dfuDownload_next (hs : x.src = .dfu) (ht : x.type = alt.val + 1) : exec (.dfuDownload alt bs false false) s =
    .next { s with fw := { s.fw with xfer := some (moreBytes x bs) } } := by
  show execDfuDownload alt bs false false s = _
  simp only [execDfuDownload, if_neg (dfu_fits alt bs hr ha hlen), hx, hs, ht]
  simp [moreBytes, hs]

theorem dfuDownload_of_other (hs : x.src ≠ .dfu) : exec (.dfuDownload alt bs first last) s = .next (s.emit (.dfu 0x0F [])) := by
  show execDfuDownload alt bs first last s = _
  simp only [execDfuDownload, if_neg (dfu_fits alt bs hr ha hlen), hx]
  exact congrArg Host.Outcome.next (if_pos (by simp [hs]))

end

section

variable {s : State}

theorem usbDisconnection_of_download {x : FwXfer} (hx : s.fw.xfer = some x) (hs : x.src = .dfu) : exec .usbDisconnection s =
    .next { s with fw := { s.fw with xfer := none, dl := 8, lastStatus := 8, lastOp := 1, lastType := x.type } } := by
  show execUsbDisconnection s = _
  simp only [execUsbDisconnection, hx]
  exact congrArg Host.Outcome.next (if_pos hs)

theorem usbDisconnection_of_none (hx : s.fw.xfer = none) : exec .usbDisconnection s = .next s := by
  show execUsbDisconnection s = _
  simp only [execUsbDisconnection, hx]

theorem pldmAsk_rest (s : State) : s.pldmAsk = { s with out := s.pldmAsk.out } := by
  simp only [State.pldmAsk]
  split
  · split <;> rfl
  · rfl

end

/-- Settles O51: the start and the end of recovery, then PLDM by the state of the firmware device, then DFU by the held transfer. -/
theorem startAndUpdate : Obligations.StartAndUpdate := by
  intro m bus id w alt last first self sig payload bs x s on st answers fit
  refine ⟨fun h => powerGood_of_unfit h m, fun h => ⟨fun hv => ⟨_, powerGood_of_valid h m hv, startMain_spec _ m⟩, powerGood_of_invalid h m⟩,
    recoveryExit_of_no_cause, fun t hd hr hx hv ht => recoveryExit_of_due hd hr hx hv ht,
    fun h => pldm_of_off bus id w last self sig payload h, fun h => ?_, firmwareData_of_none,
    fun hx hs hp hne hlen => ⟨fun hlt => ?_, fun hle hlt => ?_⟩,
    fun hp hx => ?_, transferComplete_of_not_due, fun h => ?_, fun h => ?_, fun h => ?_, fun h => ?_,
    dfuDownload_of_unfit alt bs first last, fun hr ha hlen => ?_, fun hr ha => ?_, fun h => ?_, usbDisconnection_of_download,
    usbDisconnection_of_none⟩
  · refine ⟨?_, getFirmwareParameters_of_on h, ?_, requestUpdate_of_busy w h, fun hx hi => ⟨_, requestUpdate_of_idle w h hx hi, ?_⟩,
      pldm_of_idle id w last self sig payload h, passComponentTable_out_of_place id last h,
      fun hi hr => ⟨updateComponent_out_of_place id w h hi hr, activateFirmware_out_of_place self sig payload h hi hr⟩,
      fun hl => ?_,
      fun hr hc => updateComponent_of_refused h hr hc, fun hr hc => ⟨_, updateComponent_of_started h hr hc, ?_⟩,
      activateFirmware_of_reset self sig payload h, fun hr hs hrec ha => activateFirmware_of_unstaged self sig payload h hr hs hrec ha,
      fun t hr hs hrec ha hc => activateFirmware_of_staged self sig payload h hr hs hrec ha hc,
      cancelUpdateComponent_of_transfer h, cancelUpdate_of_update h⟩
    · exact congrArg Host.Outcome.next (if_pos h)
    · exact congrArg Host.Outcome.next (if_pos h)
    · exact ⟨rfl, rfl, rfl⟩
    · refine ⟨_, _, passComponentTable_of_learn id last h hl, rfl, fun h1 h3 => ?_, fun h0 => ?_⟩
      · simp [h1, h3, b2n]
      · simp [show ¬ (1 ≤ id.val ∧ id.val ≤ 3) by omega, b2n]
    · rw [pldmAsk_rest]
      exact ⟨rfl, rfl, rfl⟩
  · refine (firmwareData_of_piece hx hs hp hne hlen).trans (congrArg Host.Outcome.next (if_neg fun hc => ?_))
    exact hlt.elim (Nat.not_lt.2 hc.1) (Nat.not_le.2 hc.2)
  · exact (firmwareData_of_piece hx hs hp hne hlen).trans (congrArg Host.Outcome.next (if_pos ⟨hle, hlt⟩))
  · exact congrArg Host.Outcome.next (if_pos ⟨hp, by simp [hx]⟩)
  · exact congrArg Host.Outcome.next (if_pos h)
  · exact congrArg Host.Outcome.next (if_neg h)
  · exact congrArg Host.Outcome.next (if_pos h)
  · exact congrArg Host.Outcome.next (if_neg h)
  · exact ⟨dfuDownload_first alt bs hr ha hlen, dfuDownload_next_of_none alt bs last hr ha hlen,
      fun hx hs ht => dfuDownload_next alt bs hr ha hlen hx hs ht,
      fun hx hs => dfuDownload_of_other alt bs first last hr ha hlen hx hs⟩
  · exact congrArg Host.Outcome.next (if_pos ⟨hr, ha⟩)
  · refine congrArg Host.Outcome.next (if_neg ?_)
    rintro ⟨hr, ha⟩
    exact h.elim (fun h => by simp [h] at hr) (fun h => h ha)

end Sys2Proof.Laws
end

section
/-! PROOFS. The DC input, the reset button, locate, the cell, the clock and the tamper monitor (spec/21: R563 to R578). -/
namespace Sys2Proof.Laws

open Machine

/-! ### What the panel's reports leave (R582) -/

section

variable {s t : State}

theorem panel_of_completed (h : Completed s t) : t.panel = s.panel := by
  rw [h]
  rfl

theorem boot_of_completed (h : Completed s t) : t.boot = s.boot := by
  rw [h]
  rfl

variable (s)

theorem completed_svcEvt (k m : Nat) : Completed s (s.svcEvt k m) :=
  completed_trans (by exact rfl) (completed_of_reported (reported_msix ..))

theorem completed_panelRecord (event object code value : Nat) : Completed s (s.panelRecord event object code value) :=
  completed_of_reported (reported_ledger ..)

theorem completed_panelNote (bit event code value : Nat) : Completed s (s.panelNote bit event code value) := by
  simp only [State.panelNote]
  split
  · exact completed_trans (completed_svcEvt ..) (completed_panelRecord ..)
  · exact completed_refl s

theorem completed_panelOnly (event code value : Nat) : Completed s (s.panelOnly event code value) := by
  simp only [State.panelOnly]
  split
  · exact completed_panelRecord ..
  · exact completed_refl s

@[simp] theorem panel_panelNote (bit event code value : Nat) : (s.panelNote bit event code value).panel = s.panel :=
  panel_of_completed (completed_panelNote ..)

@[simp] theorem boot_panelNote (bit event code value : Nat) : (s.panelNote bit event code value).boot = s.boot :=
  boot_of_completed (completed_panelNote ..)

@[simp] theorem panel_panelOnly (event code value : Nat) : (s.panelOnly event code value).panel = s.panel :=
  panel_of_completed (completed_panelOnly ..)

/-- The report of a changed coverage changes nothing of the panel but the coverage. -/
theorem panel_coverage : s.coverage.panel = { s.panel with cov := s.coverage.panel.cov } := by
  simp only [State.coverage]
  split
  · rfl
  · split
    · rw [panel_of_completed (completed_trans (completed_svcEvt ..) (completed_panelRecord ..))]
    · rfl

/-- A record changes no register but the counters of what the Ledger lost. -/
theorem reg_ledgerFull_ne {k : Nat} (hk : bSVC ≤ k) (type source owner object code arg value : Nat) :
    (s.ledgerFull type source owner object code arg value).reg k = s.reg k := by
  simp only [State.ledgerFull]
  split
  · rfl
  · have hb : bERR + 0x200 ≤ bSVC := by decide
    rw [State.bump, reg_setReg_ne, State.bump, reg_setReg_ne]
    · omega
    · omega

theorem reg_panelOnly {k : Nat} (hk : bSVC ≤ k) (event code value : Nat) : (s.panelOnly event code value).reg k = s.reg k := by
  simp only [State.panelOnly]
  split
  · exact reg_ledgerFull_ne s hk ..
  · rfl

end

/-! ### The DC input (R563, R564) -/

section

variable {s : State}

theorem swapTo_of_at {a b : HotSwap} (hd : s.panel.dc = true) (ha : s.panel.swap = a) :
    s.swapTo a b = { s with panel := { s.panel with swap := b } } := if_pos ⟨hd, ha⟩

theorem swapTo_of_elsewhere {a b : HotSwap} (h : s.panel.dc = false ∨ s.panel.swap ≠ a) : s.swapTo a b = s :=
  if_neg fun hc => h.elim (fun hd => by simp [hd] at hc) fun ha => ha hc.2

theorem dcInputRise_of_on (h : s.panel.dc = true) (n : Nat) : exec (.dcInputRise n) s = .next s :=
  congrArg Host.Outcome.next (if_pos h)

theorem dcInputRise_of_off (h : s.panel.dc = false) (n : Nat) : exec (.dcInputRise n) s =
    .next { s with panel := { s.panel with dc := true, swap := .charging },
                   boot := if s.boot.shut ∧ 1000 ≤ n then { s.boot with shut := false, cause := 8 } else s.boot } := by
  refine congrArg Host.Outcome.next ((if_neg (by simp [h])).trans ?_)
  dsimp only
  split
  · rfl
  · rfl

@[simp] theorem panel_markClearing (l : List Nat) : (s.markClearing l).panel = s.panel := by
  induction l generalizing s with
  | nil => rfl
  | cons g l ih => exact ih

@[simp] theorem hbm_markClearing_eq (l : List Nat) : (s.markClearing l).hbm = s.hbm := by
  induction l generalizing s with
  | nil => rfl
  | cons g l ih => exact ih

/-- The panel once the module has gone off: what the module's run kept of it is gone. -/
def panelDown (p : Panel) : Panel :=
  { p with locSince := 0, under := false, overV := false, rev := false, cell := if p.cell = .disabled then .charging else p.cell }

theorem panel_down (warm : Bool) (cause : Nat) : (s.down warm cause).panel = panelDown s.panel := by
  simp only [State.down, panel_markClearing]
  rfl

theorem boot_down (warm : Bool) (cause : Nat) : (s.down warm cause).boot =
    { Boot.reset with warm := warm, cause := cause, shut := s.boot.shut, prior := s.boot.prior } := by
  simp only [State.down, boot_markClearing]

theorem powerOff_spec : s.powerOff.boot.good = false ∧ s.powerOff.panel.dc = s.panel.dc := by
  simp only [State.powerOff]
  split
  · rw [boot_down, panel_down]
    exact ⟨rfl, rfl⟩
  · next h => exact ⟨eq_false_of_ne_true h, rfl⟩

/-- What the loss of all power changes of the panel. -/
theorem islandCheck_spec : s.islandCheck.panel.dc = s.panel.dc ∧ s.islandCheck.panel.swap = s.panel.swap
    ∧ s.islandCheck.boot = s.boot := by
  simp only [State.islandCheck]
  split <;> exact ⟨rfl, rfl, rfl⟩

theorem supply_of_off (h : s.panel.dc = false) : exec .brownOut s = .next s ∧ exec .overvoltage s = .next s :=
  ⟨congrArg Host.Outcome.next (if_neg (by simp [h])), congrArg Host.Outcome.next (if_neg (by simp [h]))⟩

variable (h : s.panel.dc = true)

include h

theorem brownOut_of_on : ∃ t, exec .brownOut s = .next t ∧ t.panel.dc = false ∧ t.panel.swap = .open_ ∧ t.boot.good = false := by
  refine ⟨_, congrArg Host.Outcome.next (if_pos h), ?_⟩
  obtain ⟨hd, hs, hb⟩ := islandCheck_spec (s := s.powerOff.modPanel fun p => { p with dc := false, swap := .open_ })
  exact ⟨hd, hs, (congrArg Boot.good hb).trans powerOff_spec.1⟩

theorem overvoltage_of_on : ∃ t, exec .overvoltage s = .next t ∧ t.panel.dc = true ∧ t.panel.swap = .blocked
    ∧ t.panel.overDue = true ∧ t.boot.good = false :=
  ⟨_, congrArg Host.Outcome.next (if_pos h), powerOff_spec.2.trans h, rfl, rfl, powerOff_spec.1⟩

end

section

variable {s : State}

theorem undervoltage_of_noted (h : s.boot.good = false ∨ s.panel.under = true) (mv : Fin 65536) :
    exec (.undervoltage mv) s = .next s :=
  congrArg Host.Outcome.next (if_neg fun hc => by rcases h with h | h <;> simp [h] at hc)

theorem inputReversal_of_unfed (h : s.panel.dc = true ∨ s.panel.cellPowers = false) : exec .inputReversal s = .next s :=
  congrArg Host.Outcome.next (if_neg fun hc => by rcases h with h | h <;> simp [h] at hc)

end

/-! ### The reset button (R565 to R567) -/

section

variable {s : State} (ms n : Nat)

theorem button_of_off (h : s.panel.dc = false) :
    ∀ c ∈ [Instr.buttonRelease ms, .buttonHold8s n, .buttonStuck], exec c s = .next s := by
  simp only [List.forall_mem_cons]
  exact ⟨congrArg Host.Outcome.next (if_pos (by simp [h])), congrArg Host.Outcome.next (if_pos (by simp [h])),
    congrArg Host.Outcome.next (if_pos (.inl (by simp [h]))), List.forall_mem_nil _⟩

variable (h : s.panel.dc = true)

include h

/-- A release that asks for nothing. -/
theorem buttonRelease_of_idle (hi : s.panel.stuck = true ∨ s.boot.run = false ∨ ms < 100 ∨ 8000 ≤ ms) :
    exec (.buttonRelease ms) s = .next { s with panel := { s.panel with down := false } } :=
  congrArg Host.Outcome.next ((if_neg (by simp [h])).trans (if_pos (hi.imp_right (Or.imp_left fun hr => by simp [hr]))))

variable (hs : s.panel.stuck = false)

include hs

theorem buttonRelease_of_use (hr : s.boot.run = true) (hlo : 100 ≤ ms) (hhi : ms < 8000) : exec (.buttonRelease ms) s =
    .next (if ms > 3000 ∨ !s.boot.ready then (s.modPanel fun p => { p with down := false }).panelNote 2 2 0 0
      else ((s.modPanel fun p => { p with down := false }).panelNote 0 0 0 0).warmNotice 1) :=
  congrArg Host.Outcome.next ((if_neg (by simp [h])).trans (if_neg (by simp [hs, hr]; omega)))

omit h hs in
/-- A warm reset asked for, with none pending. -/
theorem warmNotice_spec {x : State} (hp : x.boot.pending = none) (cause : Nat) : (x.warmNotice cause).boot.pending = some cause
    ∧ (x.warmNotice cause).panel = x.panel ∧ (x.warmNotice cause).cores = x.cores := by
  have hn : x.warmNotice cause = (({ x with boot := { x.boot with pending := some cause } } : State).ledger 0x0A01
      (srcOf3 0xFF 0 0) 2 cause 0).msix 0 0 := if_neg (by simp [hp])
  have hc : Completed { x with boot := { x.boot with pending := some cause } } (x.warmNotice cause) := by
    rw [hn]
    exact completed_of_reported (reported_trans (reported_ledger ..) (reported_msix ..))
  exact ⟨congrArg Boot.pending (boot_of_completed hc), (panel_of_completed hc :), (cores_of_completed hc :)⟩

theorem buttonRelease_asks (hr : s.boot.run = true) (hlo : 100 ≤ ms) (hhi : ms ≤ 3000) (hready : s.boot.ready = true)
    (hp : s.boot.pending = none) : ∃ t, exec (.buttonRelease ms) s = .next t ∧ t.boot.pending = some 1 ∧ t.panel.down = false
      ∧ t.cores = s.cores := by
  have hnote := completed_panelNote (s.modPanel fun p => { p with down := false }) 0 0 0 0
  obtain ⟨hb, hpanel, hcores⟩ := warmNotice_spec (x := (s.modPanel fun p => { p with down := false }).panelNote 0 0 0 0)
    ((congrArg Boot.pending (boot_of_completed hnote)).trans hp) 1
  refine ⟨_, (buttonRelease_of_use ms h hs hr hlo (by omega)).trans (congrArg Host.Outcome.next (if_neg ?_)), hb, ?_, ?_⟩
  · simp [hready, hhi]
  · rw [hpanel, panel_of_completed hnote]
    rfl
  · rw [hcores, cores_of_completed hnote]
    rfl

theorem buttonRelease_records (hr : s.boot.run = true) (hlo : 3000 < ms) (hhi : ms < 8000) :
    ∃ t, exec (.buttonRelease ms) s = .next t ∧ t.boot = s.boot ∧ t.panel.down = false := by
  have hnote := completed_panelNote (s.modPanel fun p => { p with down := false }) 2 2 0 0
  refine ⟨_, (buttonRelease_of_use ms h hs hr (by omega) hhi).trans (congrArg Host.Outcome.next (if_pos (.inl hlo))), ?_, ?_⟩
  · exact (boot_of_completed hnote :)
  · rw [panel_of_completed hnote]
    rfl

omit hs in
theorem buttonHold8s_of_refused (hr : s.panel.stuck = true ∨ (s.panel.forced = true ∧ n < 1000)) :
    exec (.buttonHold8s n) s = .next { s with panel := { s.panel with down := true } } :=
  congrArg Host.Outcome.next ((if_neg (by simp [h])).trans (if_pos hr))

theorem buttonHold8s_of_forced (hf : s.panel.forced = false ∨ 1000 ≤ n) : ∃ t, exec (.buttonHold8s n) s = .next t
    ∧ t.boot.run = false ∧ t.boot.cause = 2 ∧ t.boot.shut = false ∧ t.panel.forced = true ∧ t.panel.hardDue = true ∧ t.hbm = s.hbm := by
  refine ⟨_, congrArg Host.Outcome.next ((if_neg (by simp [h])).trans (if_neg ?_)), ?_⟩
  · rintro (hc | ⟨hc, hn⟩)
    · simp [hs] at hc
    · rcases hf with hf | hf
      · simp [hf] at hc
      · omega
  · have hb := boot_down (s := s) false 2
    refine ⟨congrArg Boot.run hb, congrArg Boot.cause hb, rfl, rfl, rfl, ?_⟩
    simp only [State.hardReset, State.down, hbm_markClearing_eq]

end

section

variable {s : State}

theorem buttonStuck_of_noted (h : s.panel.stuck = true) : exec .buttonStuck s = .next s :=
  congrArg Host.Outcome.next (if_pos (.inr h))

theorem buttonStuck_of_new (hd : s.panel.dc = true) (h : s.panel.stuck = false) :
    exec .buttonStuck s = .next ((s.modPanel fun p => { p with stuck := true, down := true }).panelNote 3 3 0 0) :=
  congrArg Host.Outcome.next (if_neg (by simp [hd, h]))

/-! ### Locate (R569, R570) -/

theorem locateTouch_of_unfit (h : s.boot.run = false ∨ bitAt (s.reg (bSVC + 0x10)) 24 = true) : exec .locateTouch s = .next s :=
  congrArg Host.Outcome.next (if_pos (h.imp_left fun h => by simp [h]))

theorem locateTouch_of_fit (hr : s.boot.run = true) (hk : bitAt (s.reg (bSVC + 0x10)) 24 = false) : exec .locateTouch s =
    .next (s.locate (if bitAt (s.reg kLocate) 0 then s.reg kLocate - 1 else s.reg kLocate + 1)) :=
  congrArg Host.Outcome.next (if_neg (by simp [hr, hk]))

/-- The manager reaches the panel's registers: over MCTP, or through PF0 where the host port serves. -/
def PanelReach (s : State) (mctp : Bool) : Prop := mctp = true ∨ s.hostOn 0 = true

theorem svcLocate_of_unreached {mctp : Bool} (h : s.boot.run = false ∨ ¬ PanelReach s mctp) (v : W32) :
    exec (.svcLocate mctp v) s = .next s :=
  congrArg Host.Outcome.next (if_neg fun hc => h.elim (fun hr => by simp [hr] at hc) fun hr => hr hc.2)

theorem bitAt_pred_of_odd {r : Nat} (h : bitAt r 0 = true) : bitAt (r - 1) 0 = false := by
  simp only [bitAt] at h ⊢
  simp only [decide_eq_true_eq, decide_eq_false_iff_not] at h ⊢
  omega

/-- Locate set off: the register and no more of the panel. -/
theorem locate_off {v : Nat} (h : bitAt v 0 = false) : (s.locate v).reg kLocate = v ∧ (s.locate v).panel = s.panel := by
  simp only [State.locate, h, Bool.false_eq_true, if_false]
  split
  · exact ⟨reg_setReg .., rfl⟩
  · exact ⟨(reg_panelOnly _ (by decide) ..).trans (reg_setReg ..), panel_panelOnly ..⟩

/-- The timeout of locate is over. -/
def LocateOver (s : State) : Prop := s.boot.run = true ∧ bitAt (s.reg kLocate) 0 = true ∧ bits (s.reg kLocate) 15 8 ≠ 0
  ∧ s.panel.locSince + bits (s.reg kLocate) 15 8 * 60000000000 ≤ s.now

theorem locateTimeout_of_over (h : LocateOver s) : ∃ t, exec .locateTimeout s = .next t
    ∧ t.reg kLocate = s.reg kLocate - 1 ∧ t.panel = s.panel :=
  ⟨_, congrArg Host.Outcome.next (if_pos h), locate_off (bitAt_pred_of_odd h.2.1)⟩

theorem locateTimeout_of_not (h : ¬ LocateOver s) : exec .locateTimeout s = .next s :=
  congrArg Host.Outcome.next (if_neg h)

/-! ### The cell (R573 to R576) -/

variable (mv : Fin 65536)

theorem cell_of_absent (h : s.panel.cell = .absent) : exec (.cellInserted mv) s = .next (s.cellTo .settling mv 0 none)
    ∧ exec .cellRemoved s = .next s ∧ exec (.cellFault mv) s = .next s ∧ exec (.cellVoltageThreshold mv) s = .next s := by
  refine ⟨congrArg Host.Outcome.next (if_pos h), congrArg Host.Outcome.next (if_pos h), ?_, ?_⟩
  · show execCellFault mv s = _
    simp only [execCellFault, h]
  · show execCellVoltageThreshold mv s = _
    simp only [execCellVoltageThreshold, h]

theorem cell_of_present (h : s.panel.cell ≠ .absent) : exec (.cellInserted mv) s = .next s
    ∧ exec .cellRemoved s = .next (s.cellTo .absent 0 0 (some 5)) :=
  ⟨congrArg Host.Outcome.next (if_neg h), congrArg Host.Outcome.next (if_neg h)⟩

theorem cellSettled_of_settling (h : s.panel.cell = .settling) : exec (.cellSettled mv) s = .next (s.chargeCell mv) :=
  congrArg Host.Outcome.next (if_pos h)

theorem chargeCell_of_enabled {x : State} (h : bitAt (x.reg kBattCtrl) 0 = true) (v : Nat) : x.chargeCell v = x.chargeAt v := if_pos h

theorem chargeCell_of_disabled {x : State} (h : bitAt (x.reg kBattCtrl) 0 = false) (v : Nat) :
    x.chargeCell v = x.cellTo .disabled v 0 none := if_neg (by simp [h])

theorem cellFault_of_present (h : s.panel.cell ∈ [CellSt.settling, .charging, .full, .disabled]) :
    exec (.cellFault mv) s = .next (s.cellTo .fault mv 0 (some 8)) := by
  show execCellFault mv s = _
  simp only [List.mem_cons, List.not_mem_nil, or_false] at h
  rcases h with h | h | h | h <;> simp only [execCellFault, h]

theorem cellVoltageThreshold_of_charging (h : s.panel.cell = .charging) :
    exec (.cellVoltageThreshold mv) s = .next (s.chargeAt mv) := by
  show execCellVoltageThreshold mv s = _
  simp only [execCellVoltageThreshold, h]

theorem cellVoltageThreshold_of_present (h : s.panel.cell ∈ [CellSt.settling, .full, .fault, .disabled]) :
    exec (.cellVoltageThreshold mv) s = .next (s.cellTo s.panel.cell mv 0 none) := by
  show execCellVoltageThreshold mv s = _
  simp only [List.mem_cons, List.not_mem_nil, or_false] at h
  rcases h with h | h | h | h <;> simp only [execCellVoltageThreshold, h]

/-! ### The registers of the cell and the clock (R574, R578) -/

variable {mctp : Bool} (on : Bool) (w : W64)

theorem cellRegs_of_unreached (h : s.boot.run = false ∨ ¬ PanelReach s mctp) :
    exec (.chargeEn mctp on) s = .next s ∧ exec (.svcRtcSet mctp w) s = .next s := by
  have hno : (!s.boot.run) = true ∨ (!mctp) = true ∧ (!s.hostOn 0) = true := h.imp (fun h => by simp [h]) fun h => by
    simpa [PanelReach] using h
  exact ⟨congrArg Host.Outcome.next (if_pos hno), congrArg Host.Outcome.next (if_pos (hno.imp_right .inl))⟩

variable (hr : s.boot.run = true) (hm : PanelReach s mctp)

include hr hm

theorem panel_reached : ¬ ((!s.boot.run) = true ∨ (!mctp) = true ∧ (!s.hostOn 0) = true) := by
  rcases hm with hm | hm <;> simp [hr, hm]

theorem chargeEn_of_enabled (h : s.panel.cell = .disabled) :
    exec (.chargeEn mctp true) s = .next ((s.setReg kBattCtrl 1).chargeAt s.panel.mv) := by
  show execChargeEn mctp true s = _
  have hcell : (s.setReg kBattCtrl 1).panel.cell = .disabled := h
  simp only [execChargeEn, if_neg (panel_reached hr hm), b2n, if_true, hcell]
  refine congrArg Host.Outcome.next (chargeCell_of_enabled ?_ _)
  rw [reg_setReg]
  rfl

theorem chargeEn_of_charged (h : s.panel.cell = .charging ∨ s.panel.cell = .full) :
    exec (.chargeEn mctp false) s = .next ((s.setReg kBattCtrl 0).cellTo .disabled s.panel.mv 0 none) := by
  show execChargeEn mctp false s = _
  have hcell : (s.setReg kBattCtrl 0).panel.cell = s.panel.cell := rfl
  rcases h with h | h <;>
  · simp only [execChargeEn, if_neg (panel_reached hr hm), b2n, Bool.false_eq_true, if_false, hcell, h]
    rfl

theorem chargeEn_of_other (h : s.panel.cell ∈ [CellSt.absent, .settling, .reversed, .fault]) :
    exec (.chargeEn mctp on) s = .next (s.setReg kBattCtrl (b2n on)) := by
  show execChargeEn mctp on s = _
  have hcell : (s.setReg kBattCtrl (b2n on)).panel.cell = s.panel.cell := rfl
  simp only [List.mem_cons, List.not_mem_nil, or_false] at h
  rcases h with h | h | h | h <;> simp only [execChargeEn, if_neg (panel_reached hr hm), hcell, h]

omit hr hm in
theorem svcRtcSet_of_valid (hv : s.panel.rtcValid = true) : exec (.svcRtcSet mctp w) s = .next s :=
  congrArg Host.Outcome.next (if_pos (.inr (.inr hv)))

theorem svcRtcSet_of_invalid (hv : s.panel.rtcValid = false) : ∃ t, exec (.svcRtcSet mctp w) s = .next t
    ∧ t.panel.rtcValid = true ∧ t.panel.rtcNs = ceilDiv (w.toNat * 1000000000) 32768 := by
  refine ⟨_, congrArg Host.Outcome.next (if_neg ?_), ?_⟩
  · rintro (h | h | h)
    · exact panel_reached hr hm (.inl h)
    · exact panel_reached hr hm (.inr h)
    · simp [hv] at h
  · rw [panel_coverage, panel_panelOnly]
    exact ⟨rfl, rfl⟩

end

/-! ### The tamper monitor (R577) -/

section

variable {s : State}

theorem completed_secAlarm (s : State) (bit : Nat) : Completed s (s.secAlarm bit) :=
  completed_trans (by exact rfl) (completed_of_reported (reported_msix ..))

theorem completed_secEvent (s : State) (bit event object code : Nat) : Completed s (s.secEvent bit event object code) :=
  completed_trans (completed_secAlarm ..) (completed_of_reported (reported_ledger ..))

theorem panel_secEvent (bit event object code : Nat) : (s.secEvent bit event object code).panel = s.panel :=
  panel_of_completed (completed_secEvent ..)

theorem tamperEvent_of_armed (h : s.panel.armed = true) (plate : Bool) : ∃ t, exec (.tamperEvent plate) s = .next t
    ∧ t.panel.open_ = true ∧ t.panel.source = (if plate then 2 else 1) ∧ t.panel.tampers = satAdd 0xFFFF s.panel.tampers 1
    ∧ t.panel.tamperDue = s.panel.tamperDue + (if s.boot.run then 0 else 1) := by
  refine ⟨_, congrArg Host.Outcome.next (if_neg (by simp [h])), ?_⟩
  dsimp only
  split
  · rw [panel_of_completed (completed_svcEvt ..), panel_secEvent]
    exact ⟨rfl, rfl, rfl, rfl⟩
  · exact ⟨rfl, rfl, rfl, rfl⟩

end

/-- Settles O52: each command by its guard, in the order of the spec's sections. -/
theorem panelCommands : Obligations.PanelCommands := by
  intro n ms mv mctp on plate v w s p dc run goes swaps reach r cell
  have hswap (a b : HotSwap) : (dc → p.swap = a → (Host.Outcome.next (s.swapTo a b) : Out) = goes { p with swap := b })
      ∧ (p.dc = false ∨ p.swap ≠ a → (Host.Outcome.next (s.swapTo a b) : Out) = .next s) :=
    ⟨fun hd ha => congrArg Host.Outcome.next (swapTo_of_at hd ha), fun h => congrArg Host.Outcome.next (swapTo_of_elsewhere h)⟩
  refine ⟨fun h => dcInputRise_of_on h n, fun h => ⟨_, dcInputRise_of_off h n, rfl, rfl, rfl⟩, hswap .charging .charged,
    hswap .charging .retry, hswap .retry .charging, hswap .blocked .charging, fun hg hu => ?_,
    fun h => undervoltage_of_noted h mv, rfl, supply_of_off, fun hd => ⟨brownOut_of_on hd, overvoltage_of_on hd⟩,
    fun hd hc => ?_, inputReversal_of_unfed, button_of_off ms n, fun hd => ⟨buttonRelease_of_idle ms hd,
      buttonRelease_asks ms hd, buttonRelease_records ms hd, buttonHold8s_of_refused n hd, buttonHold8s_of_forced n hd,
      buttonStuck_of_noted, buttonStuck_of_new hd⟩, fun h => ?_, fun h => ?_, locateTouch_of_unfit, locateTouch_of_fit,
    fun hr hm => ?_, fun h => svcLocate_of_unreached h v, fun h1 h2 h3 h4 => locateTimeout_of_over ⟨h1, h2, h3, h4⟩,
    fun h => locateTimeout_of_not ?_, cell_of_absent mv, cell_of_present mv, fun h he => ?_, fun h he => ?_, fun h y => ?_,
    fun h h' y => ?_, fun h => ?_, fun h => ?_, fun h => ?_, fun h => ?_, fun h => ?_, fun h hmv => ?_, fun h => ?_,
    cellFault_of_present mv, cellVoltageThreshold_of_charging mv, cellVoltageThreshold_of_present mv,
    cellRegs_of_unreached on w, fun hr hm => ⟨fun h ho => ?_, fun h ho => ?_, chargeEn_of_other on hr hm, svcRtcSet_of_valid w,
      svcRtcSet_of_invalid w hr hm⟩, fun h => ?_, fun h => ?_, fun h => ?_, fun h => tamperEvent_of_armed h plate⟩
  · exact congrArg Host.Outcome.next (if_pos ⟨hg, by rw [hu]; rfl⟩)
  · exact congrArg Host.Outcome.next (if_pos ⟨by rw [hd]; rfl, hc⟩)
  · exact congrArg Host.Outcome.next (if_pos h)
  · exact congrArg Host.Outcome.next (if_neg (ne_true_of_eq_false h))
  · exact congrArg Host.Outcome.next (if_pos ⟨hr, hm⟩)
  · rintro ⟨h1, h2, h3, h4⟩
    rcases h with h | h | h | h
    · exact absurd h1 (ne_true_of_eq_false h)
    · exact absurd h2 (ne_true_of_eq_false h)
    · exact h3 h
    · exact Nat.not_lt.2 h4 h
  · exact (cellSettled_of_settling mv h).trans (congrArg Host.Outcome.next (chargeCell_of_enabled he mv))
  · exact (cellSettled_of_settling mv h).trans (congrArg Host.Outcome.next (chargeCell_of_disabled he mv))
  · exact if_pos h
  · exact (if_neg (Nat.not_lt.2 h)).trans (if_pos h')
  · exact congrArg Host.Outcome.next (if_neg h)
  · exact congrArg Host.Outcome.next (if_neg h)
  · exact congrArg Host.Outcome.next (if_pos h)
  · exact congrArg Host.Outcome.next (if_pos h)
  · exact congrArg Host.Outcome.next (if_neg h)
  · exact congrArg Host.Outcome.next (if_pos ⟨h, hmv⟩)
  · exact congrArg Host.Outcome.next (if_neg fun hc => h.elim (fun h => h hc.1) (Nat.not_le.2 hc.2))
  · subst ho
    exact chargeEn_of_enabled hr hm h
  · subst ho
    exact chargeEn_of_charged hr hm h
  · exact congrArg Host.Outcome.next (if_pos h)
  · exact congrArg Host.Outcome.next (if_neg (ne_true_of_eq_false h))
  · exact congrArg Host.Outcome.next (if_pos (by rw [h]; rfl))

end Sys2Proof.Laws
end

section
/-! PROOFS. The power controller: control periods, the backstop, rising clocks, the cap (spec/18: R491 to R508). -/
namespace Sys2Proof.Laws

open Machine

/-! ### What a period's decisions leave (R492 to R501) -/

/-- A cluster as a period measures it (R492, R495, R503). -/
def measures (c : Cluster) : Nat × Nat × Nat := (c.power, c.temp, c.energy)

/-- What a period takes from its measurements, and what it may not touch: memory, cores, launches. -/
def periodView (s : State) :=
  ((s.hbm, s.spad, s.cores, s.parts), (s.pwr.period, s.pwr.input, s.pwr.energy, s.pwr.backstop), fun k => measures (s.clu k))

theorem periodView_of_completed {s t : State} (h : Completed s t) : periodView t = periodView s := by
  rw [h]
  rfl

section

variable (s : State)

theorem completed_pwrEvt (m : Nat) : Completed s (s.pwrEvt m) :=
  completed_trans (by exact rfl) (completed_of_reported (reported_msix ..))

theorem completed_pwrEvent (m event object code : Nat) : Completed s (s.pwrEvent m event object code) :=
  completed_trans (completed_pwrEvt ..) (completed_of_reported (reported_ledger ..))

@[simp] theorem periodView_pwrEvent (m event object code : Nat) : periodView (s.pwrEvent m event object code) = periodView s :=
  periodView_of_completed (completed_pwrEvent ..)

theorem periodView_ite (c : Prop) [Decidable c] (a b : State) :
    periodView (if c then a else b) = if c then periodView a else periodView b := apply_ite ..

/-- A cluster whose step, ceiling or phase moves keeps what was measured of it. -/
theorem periodView_setClu {k : Nat} {c : Cluster} (h : measures c = measures (s.clu k)) :
    periodView (s.setClu k c) = periodView s := by
  have hview : (fun j => measures ((s.setClu k c).clu j)) = fun j => measures (s.clu j) := by
    funext j
    by_cases hj : j = k
    · rw [hj, clu_setClu, h]
    · rw [clu_setClu_ne s c hj]
  exact congrArg (Prod.mk _ ∘ Prod.mk _) hview

theorem measures_ceiling (k : Nat) : measures (s.ceiling k).1 = measures (s.clu k) := by
  simp only [State.ceiling]
  (repeat' split) <;> rfl

theorem measures_move (c : Cluster) (t goal : Nat) (fixed clamp : Bool) (ceil : Nat) :
    measures (c.move t goal fixed clamp ceil) = measures c := by
  simp only [Cluster.move]
  split <;> rfl

theorem periodView_ceilings (l : List Nat) : periodView (s.ceilings l).1 = periodView s := by
  induction l generalizing s with
  | nil => rfl
  | cons k l ih => exact (ih _).trans (periodView_setClu s (measures_ceiling ..))

theorem periodView_thermalEvents (fell stack : Bool) : periodView (s.thermalEvents fell stack) = periodView s := by
  have hpwr (x : State) (f g : Bool) :
      periodView { x with pwr := { x.pwr with fellTemp := f, fellStack := g } } = periodView x := rfl
  simp only [State.thermalEvents, hpwr, periodView_ite, periodView_pwrEvent, ite_self]

theorem periodView_phases (l : List Nat) : periodView (s.phases l) = periodView s := by
  induction l generalizing s with
  | nil => rfl
  | cons k l ih => exact (ih _).trans (periodView_setClu s rfl)

theorem periodView_park (forced l : List Nat) : periodView (s.park forced l) = periodView s := by
  induction l generalizing s with
  | nil => rfl
  | cons k l ih =>
    refine (ih _).trans ?_
    split
    · exact periodView_setClu s rfl
    · rfl

theorem periodView_moveAll (gs : List Gov) (ts raw now l : List Nat) :
    periodView (s.moveAll gs ts raw now l) = periodView s := by
  induction l generalizing s with
  | nil => rfl
  | cons k l ih =>
    simp only [State.moveAll]
    split
    · exact ih s
    · split
      · exact ih s
      · refine (ih _).trans ?_
        simp only [periodView_ite, periodView_pwrEvent, ite_self]
        exact periodView_setClu s (measures_move ..)

/-! ### The measurements taken in (R492, R503) -/

theorem clu_measure_ne (m : PeriodMeas) {l : List Nat} {j : Nat} (h : j ∉ l) : (s.measure m l).clu j = s.clu j := by
  induction l generalizing s with
  | nil => rfl
  | cons k l ih =>
    obtain ⟨hk, hl⟩ := not_or.1 (mt List.mem_cons.2 h)
    exact (ih _ hl).trans (clu_modClu_ne s _ hk)

theorem clu_measure (m : PeriodMeas) {l : List Nat} (hn : l.Nodup) {j : Nat} (h : j ∈ l) :
    measures ((s.measure m l).clu j) = (nth 0 m.power j, nth 0 m.temp j, (s.clu j).energy + nth 0 m.power j) := by
  induction l generalizing s with
  | nil => exact absurd h List.not_mem_nil
  | cons k l ih =>
    obtain ⟨hk, hl⟩ := List.nodup_cons.1 hn
    show measures ((State.measure _ m l).clu j) = _
    rcases List.mem_cons.1 h with rfl | hj
    · rw [clu_measure_ne _ m hk, clu_modClu]
      rfl
    · have hjk : j ≠ k := fun he => hk (he ▸ hj)
      rw [ih _ hl hj, clu_modClu_ne s _ hjk]

/-- Measuring the clusters changes nothing of the memories, the cores and the partitions; of the power state, only its figures. -/
theorem measure_spec (m : PeriodMeas) (l : List Nat) : let t := s.measure m l
    (t.hbm, t.spad, t.cores, t.parts) = (s.hbm, s.spad, s.cores, s.parts)
    ∧ (t.pwr.period, t.pwr.input, t.pwr.energy, t.pwr.backstop) =
    (s.pwr.period, m.watt, s.pwr.energy + m.watt, s.pwr.backstop) := by
  induction l generalizing s with
  | nil => exact ⟨rfl, rfl⟩
  | cons k l ih => exact ih _

theorem periodView_periodStart (m : PeriodMeas) : periodView (s.periodStart m) = periodView (s.measure m allClusters) := by
  simp only [State.periodStart]
  rw [periodView_park, periodView_phases, periodView_thermalEvents, periodView_ceilings]

end

/-- `t` is `s` with the measurements of a period taken in and the period counted (R492). -/
def Measured (m : PeriodMeas) (s t : State) : Prop :=
  t.pwr.period = s.pwr.period + 1 ∧ t.pwr.input = m.watt ∧ t.pwr.energy = s.pwr.energy + m.watt
    ∧ t.hbm = s.hbm ∧ t.spad = s.spad ∧ t.cores = s.cores ∧ t.parts = s.parts
    ∧ ∀ j < 48, (t.clu j).power = nth 0 m.power j ∧ (t.clu j).temp = nth 0 m.temp j
    ∧ (t.clu j).energy = (s.clu j).energy + nth 0 m.power j

theorem periodView_eq_iff {x y : State} : periodView x = periodView y ↔
    ((x.hbm, x.spad, x.cores, x.parts) = (y.hbm, y.spad, y.cores, y.parts)
    ∧ (x.pwr.period, x.pwr.input, x.pwr.energy, x.pwr.backstop) = (y.pwr.period, y.pwr.input, y.pwr.energy, y.pwr.backstop))
    ∧ ∀ k, measures (x.clu k) = measures (y.clu k) := by
  simp only [periodView, Prod.mk.injEq, funext_iff, and_assoc]

/-- A period ends by noting itself over whatever its decisions made of the measurements. -/
theorem measured_of_view {m : PeriodMeas} {s x : State} (h : periodView x = periodView (s.measure m allClusters)) {p : PowerSt}
    (hperiod : p.period = x.pwr.period + 1) (hinput : p.input = x.pwr.input) (henergy : p.energy = x.pwr.energy) :
    Measured m s { x with pwr := p } := by
  obtain ⟨hmem, hpwr⟩ := measure_spec s m allClusters
  obtain ⟨⟨hmemx, hpwrx⟩, hclux⟩ := periodView_eq_iff.1 h
  simp only [hmem, hpwr, Prod.mk.injEq] at hmemx hpwrx
  obtain ⟨hhbm, hspad, hcores, hparts⟩ := hmemx
  obtain ⟨hp, hi, he, -⟩ := hpwrx
  refine ⟨by rw [hperiod, hp], hinput.trans hi, henergy.trans he, hhbm, hspad, hcores, hparts, fun j hj => ?_⟩
  have hmeas := (hclux j).trans (clu_measure s m List.nodup_range (List.mem_range.2 hj))
  simp only [measures, Prod.mk.injEq] at hmeas
  exact hmeas

theorem backstop_of_view {m : PeriodMeas} {s x : State} (h : periodView x = periodView (s.measure m allClusters)) :
    x.pwr.backstop = s.pwr.backstop := by
  obtain ⟨-, hpwr⟩ := measure_spec s m allClusters
  obtain ⟨⟨-, hpwrx⟩, -⟩ := periodView_eq_iff.1 h
  simp only [hpwr, Prod.mk.injEq] at hpwrx
  exact hpwrx.2.2.2

section

variable {s : State} (m : PeriodMeas) (k : ClusterId) (v : W32)

theorem controlPeriod_of_run (h : s.boot.run = true) :
    ∃ t, exec (.controlPeriod m) s = .next t ∧ Measured m s t ∧ t.pwr.backstop = false := by
  show ∃ t, execControlPeriod m s = _ ∧ _
  unfold execControlPeriod
  rw [if_neg (by simp [h])]
  extract_lets s1 gs budget t1 unmet t2 t3 want ts s2 s3
  have hview : periodView s3 = periodView (s.measure m allClusters) := by
    rw [periodView_moveAll, periodView_ite, periodView_pwrEvent, ite_self, periodView_periodStart]
  clear_value s3
  exact ⟨_, rfl, measured_of_view hview rfl rfl rfl, rfl⟩

theorem backstopPeriod_of_backstop (h : s.boot.run = true) (hb : s.pwr.backstop = true) :
    ∃ t, exec (.backstopPeriod m) s = .next t ∧ Measured m s t ∧ t.pwr.backstop = true := by
  show ∃ t, execBackstopPeriod m s = _ ∧ _
  unfold execBackstopPeriod
  rw [if_neg (by simp [h, hb])]
  extract_lets s1 gs raw ts s2
  have hview : periodView s2 = periodView (s.measure m allClusters) := by
    rw [periodView_moveAll, periodView_periodStart]
  clear_value s2
  exact ⟨_, rfl, measured_of_view hview rfl rfl rfl, (backstop_of_view hview).trans hb⟩

theorem periods_of_off (h : s.boot.run = false) : exec (.controlPeriod m) s = .next s ∧ exec .backstopEntry s = .next s
    ∧ exec (.backstopPeriod m) s = .next s :=
  ⟨congrArg Host.Outcome.next (if_pos (by simp [h])), congrArg Host.Outcome.next (if_pos (.inl (by simp [h]))),
    congrArg Host.Outcome.next (if_pos (.inl (by simp [h])))⟩

/-- A cap written where the path is open: the value checked, then the register. -/
theorem pwrCap_of_open {mctp : Bool} (hm : mctp = true ∨ s.hostOn 0 = true ∧ bitAt (s.reg kPwrCap) 31 = false) :
    exec (.pwrCap mctp v) s = .next (if v.toNat % 128 < 40 ∨ v.toNat % 128 > 104 then s
      else s.setReg kPwrCap (v.toNat % 128 + (if mctp then v.toNat / 2 ^ 31 else s.reg kPwrCap / 2 ^ 31) * 2 ^ 31)) := by
  refine congrArg Host.Outcome.next ((if_neg ?_).trans (if_neg ?_)) <;> rcases hm with rfl | ⟨ho, hl⟩
  · simp
  · simp [ho]
  · simp
  · simp [hl]

theorem pwrCap_of_locked (ho : s.hostOn 0 = true) (hl : bitAt (s.reg kPwrCap) 31 = true) :
    exec (.pwrCap false v) s = .next (s.pwrEvt 0x10) :=
  congrArg Host.Outcome.next ((if_neg (by simp [ho])).trans (if_pos ⟨rfl, hl⟩))

theorem pwrCap_of_unreached (ho : s.hostOn 0 = false) : exec (.pwrCap false v) s = .next s :=
  congrArg Host.Outcome.next (if_pos ⟨rfl, by simp [ho]⟩)

theorem reg_pwrEvt_cap (n : Nat) : (s.pwrEvt n).reg kPwrCap = s.reg kPwrCap := by
  have hmsix (x : State) (fn vec : Nat) : (x.msix fn vec).reg kPwrCap = x.reg kPwrCap := by
    simp only [State.msix]
    split <;> rfl
  exact (hmsix ..).trans (reg_setReg_ne _ _ (by decide))

/-- A cap out of range changes no cap by either path. -/
theorem pwrCap_of_out (h : v.toNat % 128 < 40 ∨ 104 < v.toNat % 128) :
    exec (.pwrCap true v) s = .next s ∧ ∃ t, exec (.pwrCap false v) s = .next t ∧ t.reg kPwrCap = s.reg kPwrCap := by
  refine ⟨(pwrCap_of_open v (.inl rfl)).trans (congrArg Host.Outcome.next (if_pos h)), ?_⟩
  cases ho : s.hostOn 0 with
  | false => exact ⟨s, pwrCap_of_unreached v ho, rfl⟩
  | true =>
    cases hl : bitAt (s.reg kPwrCap) 31 with
    | true => exact ⟨_, pwrCap_of_locked v ho hl, reg_pwrEvt_cap _⟩
    | false => exact ⟨s, (pwrCap_of_open v (.inr ⟨ho, hl⟩)).trans (congrArg Host.Outcome.next (if_pos h)), rfl⟩

theorem pwrCap_of_fit {mctp : Bool} (hm : mctp = true ∨ s.hostOn 0 = true ∧ bitAt (s.reg kPwrCap) 31 = false)
    (hlo : 40 ≤ v.toNat % 128) (hhi : v.toNat % 128 ≤ 104) : exec (.pwrCap mctp v) s = .next (s.setReg kPwrCap
      (v.toNat % 128 + (if mctp then v.toNat / 2 ^ 31 else s.reg kPwrCap / 2 ^ 31) * 2 ^ 31)) :=
  (pwrCap_of_open v hm).trans (congrArg Host.Outcome.next (if_neg (by omega)))

end

/-- Settles O48: a period's decisions keep what was measured; the other commands by their guards. -/
theorem powerController : Obligations.PowerController := by
  intro m k v s c cap old measured
  refine ⟨controlPeriod_of_run m, periods_of_off m, backstopPeriod_of_backstop m, fun h => ?_, fun h => ?_,
    fun hr hb => ⟨fun h => ?_, fun h => ?_⟩,
    fun h1 h2 => ?_, fun h => ?_, rfl, pwrCap_of_unreached v, pwrCap_of_locked v, fun ho hl => pwrCap_of_fit v (.inr ⟨ho, hl⟩),
    pwrCap_of_fit v (.inl rfl), pwrCap_of_out v, fun h => ?_, fun h => ?_⟩
  · exact congrArg Host.Outcome.next (if_pos (.inr (by simp [h])))
  · exact congrArg Host.Outcome.next (if_pos (.inr h))
  · exact congrArg Host.Outcome.next ((if_neg (by simp [hr, hb])).trans (if_pos h))
  · exact congrArg Host.Outcome.next ((if_neg (by simp [hr, hb])).trans (if_neg (by simp [h])))
  · exact congrArg Host.Outcome.next (if_pos ⟨h1, h2⟩)
  · exact congrArg Host.Outcome.next (if_neg fun hc => h.elim (Nat.not_le.2 hc.1) hc.2)
  · exact congrArg Host.Outcome.next (if_pos h)
  · exact congrArg Host.Outcome.next (if_neg (ne_true_of_eq_false h))

end Sys2Proof.Laws
end

section
/-! PROOFS. Samples (spec/19: R520), and the end of a launch (spec/05: R137; spec/14: R390). -/
namespace Sys2Proof.Laws

open Machine

section

variable {s : State} (p : PartId)

/-! ### Samples -/

theorem takeSample_of_buffer {p : Nat} (h : s.reg (kSampleAddr p) / 64 ≠ 0) (slot : Nat) (running : Bool) (hang : Option Nat) :
    let full := s.sampleBytes p slot running false
    let cut := decide (full.length > s.reg (kSampleLen p))
    let bs := (if cut then s.sampleBytes p slot running true else full).take (s.reg (kSampleLen p))
    s.takeSample p slot running hang = ((s.setReg (kSampleStat p) 0).hostWrite 0 (s.reg (kSampleAddr p) / 64 * 64) bs).modPart p
      fun q => { q with sample := some ⟨bs.length, cut, hang⟩ } :=
  if_neg (by omega)

theorem sampleEnd_of_plain {x : Sample} (h : (s.part p).sample = some x) (hh : x.hang = none) (ok : Bool) :
    exec (.sampleEnd p ok) s = .next (((s.modPart p fun q => { q with sample := none }).setReg (kSampleStat p)
      (2 ^ 31 + (if ok then 0 else 2 ^ 30) + (if x.cut then 2 ^ 29 else 0) + x.bytes / 256)).ledgerPart 0x0502 p p 0 0 x.bytes) := by
  show execSampleEnd p ok s = _
  simp only [execSampleEnd, h, hh]

end

/-! ### The end of a launch -/

section

variable {s : State} {p : Nat} {l : Launch}

/-- A launch goes on: its cores or transfers are not done, or members have still to report. -/
theorem launchComplete_of_open (hl : (s.part p).launch = some l)
    (h : s.localQuiet p = false ∨ (s.part p).anchor = s.reg bFAB ∧ l.waiting ≠ []) : s.launchComplete p = s := by
  simp only [State.launchComplete, hl]
  split
  · rfl
  · next hq =>
    obtain ⟨ha, hw⟩ := h.resolve_left fun h => hq (.inl (by simp [h]))
    rw [if_neg (not_not.2 ha), if_pos (by simpa using hw)]

theorem launchComplete_of_member (hl : (s.part p).launch = some l) (hq : s.localQuiet p = true) (hst : (s.part p).st ≠ .resetting)
    (ha : (s.part p).anchor ≠ s.reg bFAB) : s.launchComplete p =
      (s.launchOver p).emit (.curator (s.part p).anchor 10 l.result (l.faultCore * 256 + l.faultCode)) := by
  simp only [State.launchComplete, hl]
  rw [if_neg (by simp [hq, hst]), if_pos ha]

theorem launchComplete_of_anchor (hl : (s.part p).launch = some l) (hq : s.localQuiet p = true) (hst : (s.part p).st ≠ .resetting)
    (ha : (s.part p).anchor = s.reg bFAB) (hw : l.waiting = []) {d : Nat} (hd : l.host = some d) : s.launchComplete p =
      (((s.launchOver p).setReg (kWdogStat p) 0).endDesc d (launchStatus l.result) (launchResult l s.now)).launchNext p := by
  simp only [State.launchComplete, hl]
  rw [if_neg (by simp [hq, hst]), if_neg (not_not.2 ha), if_neg (by simp [hw]), hd]

theorem parts_idleFrom (s : State) (ks : List Nat) : (s.idleFrom ks).parts = s.parts := by
  induction ks generalizing s with
  | nil => rfl
  | cons k ks ih => exact ih _

theorem launch_launchOver : ((s.launchOver p).part p).launch = none := by
  rw [State.launchOver, part_of_parts (parts_idleFrom ..), part_modPart]

variable (p : PartId)

/-- Messages sent leave the launch and what decides of its end. -/
theorem launchComplete_tellMembers_of_open (hl : (s.part p).launch = some l) (ha : (s.part p).anchor = s.reg bFAB)
    (hw : l.waiting ≠ []) (kind a b : Nat) : (s.tellMembers p kind a b).launchComplete p = s.tellMembers p kind a b :=
  launchComplete_of_open (s := s.tellMembers p kind a b) hl (.inr ⟨ha, hw⟩)

/-- While members have still to report, only a carried request is passed on. -/
theorem launchCompleteCmd_of_waiting (hl : (s.part p).launch = some l) (ha : (s.part p).anchor = s.reg bFAB) (hw : l.waiting ≠ []) :
    exec (.launchComplete p) s = .next (if l.carried then s.tellMembers p 25 0 0 else s) := by
  have hw' : (!l.waiting.isEmpty) = true := by simpa using hw
  have hx (x : State) (hx : x = if l.carried then s.tellMembers p 25 0 0 else s) : x.launchComplete p = x ∧ (x.part p).launch = some l := by
    rw [hx]
    split
    · exact ⟨launchComplete_tellMembers_of_open p hl ha hw .., hl⟩
    · exact ⟨launchComplete_of_open hl (.inr ⟨ha, hw⟩), hl⟩
  obtain ⟨hx, hxl⟩ := hx _ rfl
  show execLaunchComplete p s = _
  simp only [execLaunchComplete, hl, ha, hw', and_true, hx]
  exact congrArg Host.Outcome.next (if_pos (congrArg Option.isSome hxl))

/-- With no gather to pass on, a launch completes or goes on, and then the next launch, the re-bind or a switch has its turn. -/
theorem launchCompleteCmd_of_settled (hl : (s.part p).launch = some l) (h : ¬ ((s.part p).anchor = s.reg bFAB ∧ l.waiting ≠ [])) :
    exec (.launchComplete p) s = .next (let s2 := s.launchComplete p
      if (s2.part p).launch.isSome then s2
      else match (s2.part p).op with
        | some o =>
          if (s.part p).anchor = s.reg bFAB ∧ o.step = 1 ∧ (o.op = 3 ∨ o.op = 4) then
            (if (s2.otherMembers p).isEmpty then s2.pauseStart p else (s2.tellMembers p 21 0 0).modPart p fun q =>
              { q with stops := [(s.reg bFAB, 0)] })
          else s2.grantSwitches 32
        | none => s2.grantSwitches 32) := by
  show execLaunchComplete p s = _
  simp only [execLaunchComplete, hl]
  have hno : ¬ (l.carried = true ∧ (s.part p).anchor = s.reg bFAB ∧ (!l.waiting.isEmpty) = true) :=
    fun hc => h ⟨hc.2.1, by simpa using hc.2.2⟩
  rw [if_neg hno] <;> rfl

end

/-- Settles O19: a sample by the buffer and the sample in progress, the end of a launch by who has still to report. -/
theorem samplesAndCompletion : Obligations.SamplesAndCompletion := by
  intro p ok s q
  refine ⟨fun h => congrArg Host.Outcome.next (if_pos h), fun h ha => congrArg Host.Outcome.next ((if_neg ?_).trans
    (takeSample_of_buffer ha ..)), fun x h hh => sampleEnd_of_plain p h hh ok, fun l hl => ⟨fun ha hw => ?_, fun hc hq => ?_,
    fun hq hst => ⟨fun ha => ?_, fun d ha hw hd => ?_⟩⟩⟩
  · rw [h]
    decide
  · exact launchCompleteCmd_of_waiting p hl ha hw
  · rw [launchCompleteCmd_of_settled p hl hc, launchComplete_of_open hl (.inl hq)]
    exact congrArg Host.Outcome.next (if_pos (by rw [hl]; rfl))
  · rw [launchCompleteCmd_of_settled p hl fun hc => ha hc.1, launchComplete_of_member hl hq hst ha]
    dsimp only
    have hnone : (((s.launchOver p).emit (.curator (s.part p).anchor 10 l.result (l.faultCore * 256 + l.faultCode))).part p).launch
      = none := launch_launchOver
    rw [if_neg (by rw [hnone]; decide)]
    split
    · exact congrArg Host.Outcome.next (if_neg fun hc => ha hc.1)
    · rfl
  · intro t
    have ht : s.launchComplete p = t := launchComplete_of_anchor hl hq hst ha hw hd
    rw [launchCompleteCmd_of_settled p hl fun hc => hc.2 hw, ht]
    clear_value t
    refine ⟨fun h => congrArg Host.Outcome.next (if_pos h), fun h ho => ?_, fun o h ho h1 h34 => ?_⟩
    · simp only [h, Option.isSome_none, Bool.false_eq_true, if_false]
      split
      · next o ho' => rw [if_neg fun hc => ho o ho' hc.2]
      · rfl
    · simp only [h, ho, Option.isSome_none, Bool.false_eq_true, if_false]
      rw [if_pos ⟨ha, h1, h34⟩]
      exact ⟨fun hm => congrArg Host.Outcome.next (if_pos (by rw [hm]; rfl)), fun hm =>
        congrArg Host.Outcome.next (if_neg (by simpa using hm))⟩

end Sys2Proof.Laws
end

section
/-! PROOFS. The Ledger (spec/19: R513 to R517) and the resets of the compute part and the module (spec/18: R505; spec/19: R521 to
R529). -/
namespace Sys2Proof.Laws

open Machine

/-! ### The Ledger -/

section

variable {s : State}

theorem lring_of_completed {t : State} (h : Completed s t) : t.lring = s.lring := by
  rw [h]
  rfl

theorem at_set (l : Ledger) (i : Nat) (r : LRec) : (l.set i r).at_ i = some r :=
    tblGet_tblSet_self (fun _ => none) l.recs i (some r)

/-- A record written by the Ledger: at the next position, with the next number. -/
theorem lring_ledgerPut (s : State) (r : LRec) : (s.ledgerPut r).lring =
    { s.lring.set s.lring.next { r with rolling := decide (s.lring.held ≥ 4096), seq := s.lring.seq } with
      held := min 4096 (s.lring.held + 1), total := (s.lring.total + 1) % 2 ^ 64, seq := (s.lring.seq + 1) % 2 ^ 32,
      next := if s.lring.next + 1 < 4096 then s.lring.next + 1 else 3840 } := rfl

theorem intake_ledgerPut (s : State) (r : LRec) : (s.ledgerPut r).intake = s.intake := by
  simp only [State.ledgerPut]
  split
  · split <;> rfl
  · rfl

theorem ledgerEvent_of_none (h : s.intake = []) : exec .ledgerEvent s = .next s := by
  show execLedgerEvent s = _
  simp only [execLedgerEvent, h]

/-- An event that no held record takes becomes a record of its own. -/
theorem ledgerEvent_of_new {e : LedgerEv} {es : List LedgerEv} (h : s.intake = e :: es)
    (hno : ∀ x ∈ s.lring.recs, ∀ y, x.2 = some y → y.takes e s.ledgerWindow = false) :
    exec .ledgerEvent s = .next (({ s with intake := es } : State).ledgerPut e.record) := by
  show execLedgerEvent s = _
  simp only [execLedgerEvent, h]
  split
  · next i r hfind =>
    have htakes : r.takes e s.ledgerWindow = true := (List.find?_some hfind :)
    rw [hno _ (List.mem_of_find?_eq_some hfind) r rfl] at htakes
    exact absurd htakes (by decide)
  · rfl

/-- An event within the window of the one record that takes it is merged into that record. -/
theorem ledgerEvent_of_taken {e : LedgerEv} {es : List LedgerEv} {i : Nat} {y : LRec} (h : s.intake = e :: es)
    (hin : (i, some y) ∈ s.lring.recs) (ht : y.takes e s.ledgerWindow = true)
    (hone : ∀ x ∈ s.lring.recs, ∀ z, x.2 = some z → z.takes e s.ledgerWindow = true → x = (i, some y)) :
    exec .ledgerEvent s =
      .next { s with intake := es, lring := s.lring.set i { y with count := satAdd 0xFFFFFFFF y.count 1, last := e.ts } } := by
  show execLedgerEvent s = _
  simp only [execLedgerEvent, h]
  split
  · next j r hfind =>
    have htakes : r.takes e s.ledgerWindow = true := (List.find?_some hfind :)
    obtain ⟨rfl, hr⟩ := Prod.mk.inj (hone _ (List.mem_of_find?_eq_some hfind) r rfl htakes)
    obtain rfl := Option.some.inj hr
    rfl
  · next hnone =>
    exfalso
    cases hfind : s.lring.recs.find? fun x => match x.2 with
      | some r => r.takes e s.ledgerWindow
      | none => false with
    | none => simpa [ht] using List.find?_eq_none.1 hfind _ hin
    | some x =>
      obtain ⟨j, _ | r⟩ := x
      · exact absurd (List.find?_some hfind) Bool.false_ne_true
      · exact hnone j r hfind

theorem ledgerRead_of_starts {r : Fin 16} {d : HostDesc} {s0 : State} (h : MgmtStarts s r 0x300 d s0) :
    exec (.ledgerRead r) s = .next ((if d.fld 56 4 % 64 ≠ 0 ∨ 262144 < d.fld 56 4 then s0.mgmtEnd d.id 1 []
      else s0.mgmtEnd d.id 0 ((List.range (d.fld 56 4 / 64)).flatMap fun i => s.lring.bytesAt (d.arg0 % 4096 + i))).ringGo 0 r) := by
  refine (congrArg Host.Outcome.next (mgmt_of_starts h _)).trans ?_
  rw [eq_modDesc_of_starts h.1]
  rfl

theorem lring_lostZero (l : List Nat) : (s.lostZero l).lring = s.lring := by
  induction l generalizing s with
  | nil => rfl
  | cons c l ih => exact ih

theorem lring_setReg (k v : Nat) : (s.setReg k v).lring = s.lring := rfl

theorem ledgerClear_of_starts {r : Fin 16} {d : HostDesc} {s0 : State} (h : MgmtStarts s r 0x301 d s0) :
    ∃ t, exec (.ledgerClear r) s = .next t ∧ t.lring.held = 1 ∧ t.lring.seq = (s.lring.seq + 1) % 2 ^ 32
      ∧ (t.lring.at_ 0).map (·.type) = some 0x0A05 := by
  refine ⟨_, congrArg Host.Outcome.next (mgmt_of_starts h _), ?_⟩
  dsimp only
  rw [lring_of_completed (completed_trans (completed_mgmtEnd ..) (completed_ringGo ..)), State.ownRecord, lring_ledgerPut]
  refine ⟨rfl, ?_, congrArg (Option.map _) (at_set _ 0 _)⟩
  have hlring : s0.lring = s.lring := by
    rw [eq_modDesc_of_starts h.1]
    rfl
  simp only [lring_setReg, lring_lostZero, hlring]

end

/-! ### Module resets (R505, R521, R525, R529) -/

section

variable {s : State}

/-- What a module reset keeps, with the module off after it. -/
def KeptDown (s t : State) : Prop := t.boot.run = false ∧ t.boot.good = false ∧ t.hbm = s.hbm ∧ t.poison = s.poison
  ∧ t.cus.slots = s.cus.slots ∧ t.fw.types = s.fw.types ∧ t.pending = s.pending ∧ t.out = s.out

theorem markClearing_groups (s : State) (l : List Nat) : ∃ g, s.markClearing l = { s with groups := g } := by
  induction l generalizing s with
  | nil => exact ⟨s.groups, rfl⟩
  | cons k l ih =>
    obtain ⟨g, hg⟩ := ih (s.setGroup k { Group.reset with clearing := true })
    exact ⟨g, hg⟩

/-- A module reset keeps the memories' cells, the island, and after a warm reset the Ledger with its intake. -/
theorem down_spec (s : State) (warm : Bool) (cause : Nat) : let t := s.down warm cause
    KeptDown s t ∧ t.boot.warm = warm ∧ t.boot.cause = cause ∧ t.lring = (if warm then s.lring else Ledger.empty)
      ∧ t.intake = (if warm then s.intake else []) := by
  simp only [State.down]
  obtain ⟨g, hg⟩ := markClearing_groups _ _
  rw [hg]
  exact ⟨⟨rfl, rfl, rfl, rfl, rfl, rfl, rfl, rfl⟩, rfl, rfl, rfl, rfl⟩

theorem warmReset_spec (s : State) (cause : Nat) : (KeptDown s (s.warmReset cause) ∧ (s.warmReset cause).boot.warm = true
    ∧ (s.warmReset cause).boot.cause = cause) ∧ (s.warmReset cause).lring = s.lring ∧ (s.warmReset cause).intake = s.intake := by
  obtain ⟨hk, hw, hc, hl, hi⟩ := down_spec s true cause
  exact ⟨⟨hk, hw, hc⟩, hl, hi⟩

theorem hardReset_spec (s : State) (cause : Nat) : (KeptDown s (s.hardReset cause) ∧ (s.hardReset cause).boot.warm = false
    ∧ (s.hardReset cause).intake = [] ∧ (s.hardReset cause).lring.held = 0) ∧ (s.hardReset cause).boot.cause = cause := by
  obtain ⟨hk, hw, hc, hl, hi⟩ := down_spec s false cause
  exact ⟨⟨hk, hw, hi, congrArg Ledger.held hl⟩, hc⟩

theorem resets_of_off (mctp : Bool) (h : s.boot.run = false) :
    ∀ c ∈ [Instr.computePartReset, .moduleWarmReset mctp, .moduleHardReset mctp, .mgmtWatchdog], exec c s = .next s := by
  simp only [List.forall_mem_cons]
  exact ⟨congrArg Host.Outcome.next (if_neg (by simp [h])), congrArg Host.Outcome.next (if_pos (by simp [h])),
    congrArg Host.Outcome.next (if_pos (by simp [h])), congrArg Host.Outcome.next (if_neg (by simp [h])), List.forall_mem_nil _⟩

theorem moduleWarmReset_of_notice (hr : s.boot.run = true) : exec (.moduleWarmReset true) s = .next (s.warmNotice 5) :=
  congrArg Host.Outcome.next ((if_neg (by simp [hr])).trans (if_pos rfl))

theorem moduleWarmReset_of_host (hr : s.boot.run = true) (ho : s.hostOn 0 = true) :
    exec (.moduleWarmReset false) s = .next (s.warmReset 3) :=
  congrArg Host.Outcome.next ((if_neg (by simp [hr])).trans ((if_neg (by decide)).trans (if_pos ho)))

theorem moduleHardReset_of_mctp (hr : s.boot.run = true) : exec (.moduleHardReset true) s = .next (s.hardReset 6) :=
  congrArg Host.Outcome.next ((if_neg (by simp [hr])).trans (if_pos rfl))

theorem moduleHardReset_of_host (hr : s.boot.run = true) (ho : s.hostOn 0 = true) :
    exec (.moduleHardReset false) s = .next (s.hardReset 4) :=
  congrArg Host.Outcome.next ((if_neg (by simp [hr])).trans ((if_neg (by decide)).trans (if_pos ho)))

theorem notice_of_none (mctp : Bool) (h : s.boot.pending = none) :
    exec (.svcResetAck mctp) s = .next s ∧ exec .resetNoticeExpiry s = .next s := by
  constructor
  · show execSvcResetAck mctp s = _
    simp only [execSvcResetAck, h]
  · show execResetNoticeExpiry s = _
    simp only [execResetNoticeExpiry, h]

variable {c : Nat} (h : s.boot.pending = some c)

include h

theorem resetNoticeExpiry_of_some : exec .resetNoticeExpiry s = .next (s.warmReset c) := by
  show execResetNoticeExpiry s = _
  simp only [execResetNoticeExpiry, h]

theorem svcResetAck_of_unheard {mctp : Bool} (hm : mctp = true ∨ s.hostOn 0 = false) : exec (.svcResetAck mctp) s = .next s := by
  show execSvcResetAck mctp s = _
  simp only [execSvcResetAck, h]
  exact congrArg Host.Outcome.next (if_neg fun hc => by rcases hm with hm | hm <;> simp [hm] at hc)

theorem svcResetAck_of_heard (ho : s.hostOn 0 = true) : exec (.svcResetAck false) s = .next (s.warmReset c) := by
  show execSvcResetAck false s = _
  simp only [execSvcResetAck, h]
  exact congrArg Host.Outcome.next (if_pos ⟨rfl, ho⟩)

end

section

variable {s : State}

theorem boot_warmNotice {c : Nat} (h : s.boot.pending = none) : (s.warmNotice c).boot = { s.boot with pending := some c } := by
  have hn : s.warmNotice c = (({ s with boot := { s.boot with pending := some c } } : State).ledger 0x0A01
      (srcOf3 0xFF 0 0) 2 c 0).msix 0 0 := if_neg (by simp [h])
  rw [hn]
  exact boot_of_completed (completed_of_reported (reported_trans (reported_ledger ..) (reported_msix ..)))

/-- A record of the intake leaves what a module reset keeps, and the ring. -/
theorem keptDown_of_ledger {t : State} (type source object code value : Nat)
    (h : KeptDown (s.ledger type source object code value) t) : KeptDown s t := by
  have hledger : s.ledger type source object code value = { s with
      intake := (s.ledger type source object code value).intake, regs := (s.ledger type source object code value).regs } := by
    simp only [State.ledger, State.ledgerFull]
    split <;> rfl
  rw [hledger] at h
  exact h

theorem mgmtWatchdog_of_run (h : s.boot.run = true) :
    ∃ t, exec .mgmtWatchdog s = .next t ∧ (KeptDown s t ∧ t.boot.warm = true ∧ t.boot.cause = 7) ∧ t.lring = s.lring := by
  obtain ⟨⟨hk, hw, hc⟩, hl, -⟩ := warmReset_spec (s.ledger 0x0A06 (srcOf3 0xFF 0 0) 2 7 0) 7
  exact ⟨_, congrArg Host.Outcome.next (if_pos h), ⟨keptDown_of_ledger _ _ _ _ _ hk, hw, hc⟩,
    hl.trans (lring_of_completed (completed_of_reported (reported_ledger ..)))⟩

theorem thermalShutdown_of_good (sensor : Fin 65536) (h : s.boot.good = true) : ∃ t, exec (.thermalShutdown sensor) s = .next t
    ∧ (KeptDown s t ∧ t.boot.warm = false ∧ t.intake = [] ∧ t.lring.held = 0) ∧ t.boot.shut = true
    ∧ t.boot.prior = some (sensor.val, s.panel.rtc) := by
  obtain ⟨hk, hw, -, hl, hi⟩ := down_spec s false s.boot.cause
  exact ⟨_, congrArg Host.Outcome.next (if_pos h), ⟨hk, hw, hi, congrArg Ledger.held hl⟩, rfl, rfl⟩

end

/-! ### The compute part (R523) -/

/-- What a compute-part reset empties of the units: cores, engines, buckets and the first-level caches. -/
def computeUnits (s : State) := (s.cores, s.engines, s.buckets, s.l1)

/-- Every entry of the second-level caches is pinned. -/
def AllPinned (s : State) : Prop := ∀ k, ∀ e ∈ s.l2of k, e.pinned = true

/-- From `s` to `t` the units stay as they are, and pins are only added to caches of pins. -/
def PinsOnly (s t : State) : Prop := computeUnits t = computeUnits s ∧ (AllPinned s → AllPinned t)

section

variable {s t u : State}

theorem pinsOnly_refl (s : State) : PinsOnly s s := ⟨rfl, id⟩

theorem pinsOnly_trans (h : PinsOnly s t) (h' : PinsOnly t u) : PinsOnly s u := ⟨h'.1.trans h.1, fun hs => h'.2 (h.2 hs)⟩

theorem pinsOnly_of_eq (h : computeUnits t = computeUnits s) (hl : t.l2 = s.l2) : PinsOnly s t :=
  ⟨h, fun hs k e he => hs k e (by rwa [State.l2of, hl] at he)⟩

theorem pinsOnly_ite {c : Prop} [Decidable c] {x y : State} (hx : PinsOnly s x) (hy : PinsOnly s y) :
    PinsOnly s (if c then x else y) := by
  split
  · exact hx
  · exact hy

theorem pinsOnly_of_completed (h : Completed s t) : PinsOnly s t := by
  rw [h]
  exact pinsOnly_of_eq rfl rfl

theorem mem_dropUnpinned {e : XltEntry} {l : List XltEntry} (h : e ∈ dropUnpinned l) : e ∈ l := by
  induction l with
  | nil => exact h
  | cons x l ih =>
    simp only [dropUnpinned] at h
    split at h
    · exact (List.mem_cons.1 h).elim (fun h => h ▸ List.mem_cons_self) fun h => List.mem_cons_of_mem _ (ih h)
    · exact List.mem_cons_of_mem _ h

/-- A pinned entry put into a cache of pins. -/
theorem pinned_l2Put {e : XltEntry} {l : List XltEntry} (he : e.pinned = true) (hl : ∀ x ∈ l, x.pinned = true) :
    ∀ x ∈ l2Put e l, x.pinned = true := by
  intro x hx
  simp only [l2Put, List.mem_append, List.mem_singleton] at hx
  rcases hx with hx | rfl
  · split at hx
    · exact hl x (List.mem_of_mem_filter hx)
    · exact hl x (List.mem_of_mem_filter (mem_dropUnpinned hx))
  · simp [he]

theorem pinned_foldl_l2Put {es l : List XltEntry} (he : ∀ e ∈ es, e.pinned = true) (hl : ∀ x ∈ l, x.pinned = true) :
    ∀ x ∈ es.foldl (fun l e => l2Put e l) l, x.pinned = true := by
  induction es generalizing l with
  | nil => exact hl
  | cons e es ih =>
    obtain ⟨h1, h2⟩ := List.forall_mem_cons.1 he
    exact ih h2 (pinned_l2Put h1 hl)

variable (s)

theorem pinsOnly_setL2 {d : Nat} {l : List XltEntry} (h : AllPinned s → ∀ e ∈ l, e.pinned = true) : PinsOnly s (s.setL2 d l) := by
  refine ⟨rfl, fun hs k e he => ?_⟩
  by_cases hk : k = d
  · rw [hk, State.l2of, State.setL2, tblGet_tblSet_self] at he
    exact h hs e he
  · rw [State.l2of, State.setL2, tblGet_tblSet_ne _ _ _ hk] at he
    exact hs k e he

theorem pinsOnly_foldl {α : Type} {f : State → α → State} (hf : ∀ s a, PinsOnly s (f s a)) (l : List α) :
    PinsOnly s (l.foldl f s) := by
  induction l generalizing s with
  | nil => exact pinsOnly_refl s
  | cons a l ih => exact pinsOnly_trans (hf s a) (ih _)

theorem pinsOnly_pinRange (p lo n : Nat) : PinsOnly s (s.pinRange p lo n) := by
  induction n generalizing s with
  | zero => exact pinsOnly_refl s
  | succ n ih =>
    refine pinsOnly_trans ?_ (ih _)
    split
    · exact pinsOnly_foldl s (fun s d => pinsOnly_setL2 s fun hs => pinned_l2Put rfl (hs d)) _
    · exact pinsOnly_refl s

/-- The entries of a carve-out are pins. -/
theorem pinned_pinsOf {p : Nat} {x : Nat × S1Res} {e : XltEntry} (h : e ∈ s.pinsOf p x) : e.pinned = true := by
  obtain ⟨i, -, hi⟩ := List.mem_filterMap.1 h
  dsimp only at hi
  split at hi
  · exact absurd hi (by simp)
  · split at hi
    · split at hi
      · exact absurd hi (by simp)
      · rw [← Option.some.inj hi]
    · exact absurd hi (by simp)

theorem pinsOnly_pinCarve (p : Nat) : PinsOnly s (s.pinCarve p) := by
  simp only [State.pinCarve]
  refine pinsOnly_ite (pinsOnly_refl s) (pinsOnly_foldl s (fun x d => pinsOnly_ite (pinsOnly_setL2 x fun hs => ?_) (pinsOnly_refl x)) _)
  refine pinned_foldl_l2Put (fun e he => ?_) (hs d)
  obtain ⟨y, -, hy⟩ := List.mem_flatMap.1 he
  exact pinned_pinsOf s hy

theorem pinsOnly_repin (l : List Nat) : PinsOnly s (s.repin l) := by
  induction l generalizing s with
  | nil => exact pinsOnly_refl s
  | cons p l ih => exact pinsOnly_trans (pinsOnly_ite (pinsOnly_refl s) (pinsOnly_pinCarve ..)) (ih _)

theorem pinsOnly_repinWins (l : List Nat) : PinsOnly s (s.repinWins l) := by
  induction l generalizing s with
  | nil => exact pinsOnly_refl s
  | cons w l ih => exact pinsOnly_trans (pinsOnly_ite (pinsOnly_pinRange ..) (pinsOnly_refl s)) (ih _)

theorem pinsOnly_flashAll (l : List Nat) : PinsOnly s (s.flashAll l) := by
  induction l generalizing s with
  | nil => exact pinsOnly_refl s
  | cons k l ih => exact pinsOnly_trans (pinsOnly_of_eq rfl rfl) (ih _)

theorem completed_endHostWaits (status result : Nat) (l : List Waiter) : Completed s (s.endHostWaits status result l) := by
  induction l generalizing s with
  | nil => exact completed_refl s
  | cons w l ih =>
    cases w with
    | host d => exact completed_trans (completed_endDesc ..) (ih _)
    | core c r => exact ih s

theorem pinsOnly_clearObjs (l : List Nat) : PinsOnly s (s.clearObjs l) := by
  induction l generalizing s with
  | nil => exact pinsOnly_refl s
  | cons o l ih =>
    have hcleared : PinsOnly s (s.setObj o { SyncObj.reset with owner := (s.obj o).owner, vobj := (s.obj o).vobj }) :=
      pinsOnly_of_eq rfl rfl
    exact pinsOnly_trans hcleared (pinsOnly_trans (pinsOnly_of_completed (completed_endHostWaits _ 2 5 (s.obj o).waiters)) (ih _))

theorem pinsOnly_staleTags (l : List Nat) : PinsOnly s (s.staleTags l) := by
  induction l generalizing s with
  | nil => exact pinsOnly_refl s
  | cons k l ih => exact pinsOnly_trans (pinsOnly_of_eq rfl rfl) (ih _)

/-! What the flash clear has cleared reads zero -/

theorem tblGet_tblClear_outside {α : Type} (d : Nat → α) {lo hi k : Nat} (t : Tbl α) (h : ¬ (lo ≤ k ∧ k < hi)) :
    tblGet d (tblClear lo hi t) k = tblGet d t k := by
  induction t with
  | nil => rfl
  | cons e t ih =>
    rw [tblClear, List.filter_cons]
    by_cases he : e.1 = k
    · have hkeep : (!(decide (lo ≤ e.1) && decide (e.1 < hi))) = true := by
        simp only [he, Bool.not_eq_true', Bool.and_eq_false_iff, decide_eq_false_iff_not]
        exact not_and_or.1 h
      rw [if_pos hkeep, tblGet, tblGet, if_pos he, if_pos he]
    · rw [tblGet, if_neg he, ← ih]
      split
      · rw [tblGet, if_neg he]
        rfl
      · rfl

theorem lineWritten_flashClear {k c off : Nat} (h : c / 16 = k ∧ off < 2 ^ 20 ∨ s.lineWritten c off = false) :
    (s.flashClear k).lineWritten c off = false := by
  by_cases hin : 16 * k * 2 ^ 15 ≤ c * 2 ^ 15 + off / 32 ∧ c * 2 ^ 15 + off / 32 < 16 * (k + 1) * 2 ^ 15
  · exact tblGet_tblClear _ _ hin.1 hin.2
  · refine (tblGet_tblClear_outside _ _ hin).trans (h.resolve_left ?_)
    omega

theorem lineWritten_flashAll {c off : Nat} {l : List Nat} (h : c / 16 ∈ l ∧ off < 2 ^ 20 ∨ s.lineWritten c off = false) :
    (s.flashAll l).lineWritten c off = false := by
  induction l generalizing s with
  | nil => exact h.resolve_left fun h => absurd h.1 List.not_mem_nil
  | cons k l ih =>
    refine ih (s := s.flashClear k) ?_
    by_cases hl : c / 16 ∈ l ∧ off < 2 ^ 20
    · exact .inl hl
    · refine .inr (lineWritten_flashClear s (h.imp_left fun ⟨hc, ho⟩ => ⟨?_, ho⟩))
      exact (List.mem_cons.1 hc).resolve_right fun hc => hl ⟨hc, ho⟩

theorem spadByte_of_unwritten {c off : Nat} (h : s.lineWritten c off = false) : s.spadByte c off = 0 := if_neg (by simp [h])

omit s in
theorem lineWritten_of_eq {s t : State} (h : t.spadWritten = s.spadWritten) {c off : Nat} :
    t.lineWritten c off = s.lineWritten c off := by
  rw [State.lineWritten, h, State.lineWritten]

theorem spadWritten_clearObjs (l : List Nat) : (s.clearObjs l).spadWritten = s.spadWritten := by
  induction l generalizing s with
  | nil => rfl
  | cons o l ih =>
    refine (ih _).trans ?_
    rw [completed_endHostWaits _ 2 5 (s.obj o).waiters]
    rfl

theorem spadWritten_staleTags (l : List Nat) : (s.staleTags l).spadWritten = s.spadWritten := by
  induction l generalizing s with
  | nil => rfl
  | cons k l ih => exact ih _

end

section

variable (s : State)

/-- The units of the compute part emptied, before what is made again. -/
def computeEmptied (s : State) : State := { s with cores := [], engines := [], buckets := [], winQ := [], l1 := [], l2 := [] }

/-- What follows the emptying: pins made again, scratchpads, objects and tags cleared. -/
def computeRemade (s : State) : State :=
  ((((s.repin (List.range 32)).repinWins (List.range 1023)).flashAll allClusters).clearObjs (s.objs.map (·.1))).staleTags allClusters

theorem pinsOnly_computeRemade : PinsOnly s (computeRemade s) :=
  pinsOnly_trans (pinsOnly_repin ..) (pinsOnly_trans (pinsOnly_repinWins ..) (pinsOnly_trans (pinsOnly_flashAll ..)
    (pinsOnly_trans (pinsOnly_clearObjs ..) (pinsOnly_staleTags ..))))

theorem spadByte_cleared (l : List Nat) {c off : Nat} (hc : c < 768) (ho : off < 2 ^ 20) :
    (((s.flashAll allClusters).clearObjs l).staleTags allClusters).spadByte c off = 0 := by
  have hin : c / 16 ∈ allClusters := List.mem_range.2 (by omega)
  refine spadByte_of_unwritten _ (Eq.trans (lineWritten_of_eq ?_) (lineWritten_flashAll s (.inl ⟨hin, ho⟩)))
  rw [spadWritten_staleTags, spadWritten_clearObjs]

theorem spadByte_computeRemade {c off : Nat} (hc : c < 768) (ho : off < 2 ^ 20) : (computeRemade s).spadByte c off = 0 :=
  spadByte_cleared _ _ hc ho

theorem computeReset_eq : ∃ x, s.computeReset = computeRemade (computeEmptied x) := ⟨_, rfl⟩

theorem computePartReset_of_run {s : State} (hr : s.boot.run = true) (hp : s.boot.pending = none) :
    ∃ t, exec .computePartReset s = .next t ∧ t.cores = [] ∧ t.engines = [] ∧ t.buckets = [] ∧ t.l1 = []
      ∧ (∀ k, ∀ e ∈ t.l2of k, e.pinned = true) ∧ ∀ c < 768, ∀ off < 2 ^ 20, t.spadByte c off = 0 := by
  obtain ⟨x, hx⟩ := computeReset_eq s
  have hrest := pinsOnly_computeRemade (computeEmptied x)
  have hspad (c : Nat) (hc : c < 768) (off : Nat) (ho : off < 2 ^ 20) := spadByte_computeRemade (computeEmptied x) hc ho
  generalize computeRemade (computeEmptied x) = t at hx hrest hspad
  obtain ⟨hunits, hpins⟩ := hrest
  refine ⟨_, (congrArg Host.Outcome.next (if_pos ⟨hr, by simp [State.warmDue, hp]⟩)).trans (congrArg Host.Outcome.next hx),
    congrArg (fun u => u.1) hunits, congrArg (fun u => u.2.1) hunits, congrArg (fun u => u.2.2.1) hunits,
    congrArg (fun u => u.2.2.2) hunits, hpins fun k e he => absurd he List.not_mem_nil, hspad⟩

end

/-- Settles O49: the Ledger's commands, the compute part's reset, and the module resets by what they keep. -/
theorem ledgerAndResets : Obligations.LedgerAndResets := by
  intro r mctp sensor d s0 s run fin kept warm hard
  refine ⟨ledgerEvent_of_none, fun e es h hno => ?_, fun e es i y => ledgerEvent_of_taken, fun h => ⟨fun hn => ?_, fun h0 hn => ?_⟩,
    ledgerClear_of_starts, fun h => ?_, computePartReset_of_run, resets_of_off mctp, fun hr ho => ?_, fun hr hp => ?_,
    fun hr hp => ?_,
    fun hr => ⟨_, moduleHardReset_of_mctp hr, hardReset_spec s 6⟩,
    fun hr ho => ⟨_, moduleHardReset_of_host hr ho, hardReset_spec s 4⟩,
    notice_of_none mctp, fun c h => ⟨svcResetAck_of_unheard h, fun ho => ⟨_, svcResetAck_of_heard h ho, warmReset_spec s c⟩,
      ⟨_, resetNoticeExpiry_of_some h, warmReset_spec s c⟩⟩, mgmtWatchdog_of_run, thermalShutdown_of_good sensor, fun h => ?_⟩
  · refine ⟨_, ledgerEvent_of_new h hno, intake_ledgerPut .., ?_, ?_, ?_⟩ <;> rw [lring_ledgerPut]
    exact at_set ..
  · exact (ledgerRead_of_starts h).trans (congrArg (fun x : State => Host.Outcome.next (x.ringGo 0 r)) (if_pos hn))
  · exact (ledgerRead_of_starts h).trans (congrArg (fun x : State => Host.Outcome.next (x.ringGo 0 r)) (if_neg (by omega)))
  · exact congrArg Host.Outcome.next (if_neg fun hc => absurd hc.2 (by simp [State.warmDue, h]))
  · exact ⟨_, moduleWarmReset_of_host hr ho, warmReset_spec s 3⟩
  · exact ⟨_, moduleWarmReset_of_notice hr, boot_warmNotice hp, (warmNotice_spec hp 5).2.2⟩
  · exact (moduleWarmReset_of_notice hr).trans (congrArg Host.Outcome.next (if_pos (Option.isSome_iff_ne_none.2 hp)))
  · exact congrArg Host.Outcome.next (if_neg (ne_true_of_eq_false h))

end Sys2Proof.Laws
end

section
/-! PROOFS. Sideband management over MCTP: control messages, BIND fragments, events, CMIS reads (spec/14: R398, R402 to R405). -/
namespace Sys2Proof.Laws

open Machine

/-! ### Control messages (R402) -/

section

variable {s : State} {bus : Fin 2} (op : Fin 4) (eid type sel seq len : Fin 256) (session : Option (Fin 65536))
    (head bytes : List Byte)
  (total off : Nat) (arg : W32) (got : Option (List Byte))

theorem vendorOff_of_off (h : ¬ s.mctpOn bus = true) : (!s.vendorOn bus) = true := by simp [State.vendorOn, h]

theorem vendorOff_of_recovery (h : s.boot.recovery = true) : (!s.vendorOn bus) = true := by simp [State.vendorOn, h]

/-- Where a binding serves no Stolcor messages, none has an effect. -/
theorem vendor_of_off (h : (!s.vendorOn bus) = true) : ∀ c ∈ [Instr.mctpBind bus session seq head total off bytes,
    .eventAck bus seq,
    .mctpCmisRead bus seq arg len got], exec c s = .next s := by
  simp only [List.forall_mem_cons]
  exact ⟨congrArg Host.Outcome.next (if_pos h), congrArg Host.Outcome.next (if_pos h), congrArg Host.Outcome.next (if_pos h),
    List.forall_mem_nil _⟩

theorem mctp_of_off (h : ¬ s.mctpOn bus = true) : ∀ c ∈ [Instr.setEndpointId bus op eid, .getEndpointId bus, .getEndpointUuid bus,
    .getMctpVersionSupport bus type, .getMessageTypeSupport bus, .getVdmSupport bus sel,
    .mctpBind bus session seq head total off bytes,
    .eventAck bus seq, .mctpCmisRead bus seq arg len got], exec c s = .next s := by
  have hoff : (!s.mctpOn bus) = true := by simp [h]
  have hvendor := vendor_of_off seq len session head bytes total off arg got (vendorOff_of_off h)
  simp only [List.forall_mem_cons] at hvendor ⊢
  exact ⟨congrArg Host.Outcome.next (if_pos hoff), congrArg Host.Outcome.next (if_neg h), congrArg Host.Outcome.next (if_neg h),
    congrArg Host.Outcome.next (if_pos hoff), congrArg Host.Outcome.next (if_neg h), congrArg Host.Outcome.next (if_pos hoff),
    hvendor⟩

variable (h : s.mctpOn bus = true)

include h

theorem setEndpointId_of_refused (he : 2 ≤ op.val ∨ eid.val = 0 ∨ eid.val = 255) :
    exec (.setEndpointId bus op eid) s = .next (s.ctlReply 1 2 []) :=
  congrArg Host.Outcome.next ((if_neg (by simp [h])).trans (if_pos he))

theorem setEndpointId_of_taken (hop : op.val < 2) (h0 : eid.val ≠ 0) (h255 : eid.val ≠ 255) :
    ∃ t, exec (.setEndpointId bus op eid) s = .next t
    ∧ t.eid = eid.val ∧ t.reg kMctpEid = eid.val ∧ t.out = s.out ++ [.mctp [0, 1, 0, 0, BitVec.ofNat 8 eid, 0]]
    ∧ t = { s with eid := t.eid, regs := t.regs, out := t.out } :=
  ⟨_, congrArg Host.Outcome.next ((if_neg (by simp [h])).trans (if_neg (by omega))), rfl, reg_setReg .., rfl, rfl⟩

theorem getMctpVersionSupport_of_known (ht : type.val ∈ [0xFF, 0, 1, 5, 6, 0x7E]) :
    exec (.getMctpVersionSupport bus type) s = .next (s.ctlReply 4 0 (Config.mctpVersions type)) := by
  refine congrArg Host.Outcome.next ((if_neg (by simp [h])).trans (if_pos ?_))
  simpa [mctpTypes] using ht

theorem getMctpVersionSupport_of_unknown (ht : type.val ∉ [0xFF, 0, 1, 5, 6, 0x7E]) :
    exec (.getMctpVersionSupport bus type) s = .next (s.ctlReply 4 0x80 []) := by
  refine congrArg Host.Outcome.next ((if_neg (by simp [h])).trans (if_neg ?_))
  simpa [mctpTypes] using ht

theorem getVdmSupport_of_zero (hs : sel.val = 0) :
    exec (.getVdmSupport bus sel) s = .next (s.ctlReply 6 0 [0xFF, 0, 0xC7, 0xA5, 0, 0]) :=
  congrArg Host.Outcome.next ((if_neg (by simp [h])).trans (if_pos hs))

theorem getVdmSupport_of_other (hs : sel.val ≠ 0) : exec (.getVdmSupport bus sel) s = .next (s.ctlReply 6 2 []) :=
  congrArg Host.Outcome.next ((if_neg (by simp [h])).trans (if_neg hs))

end

/-! ### BIND fragments (R403, R404) -/

section

theorem tblErase_of_below {α : Type} {k : Nat} {t : Tbl α} (h : ∀ e ∈ t, e.1 < k) : tblErase k t = t := by
  induction t with
  | nil => rfl
  | cons e t ih =>
    obtain ⟨he, ht⟩ := List.forall_mem_cons.1 h
    rw [tblErase, if_neg he.ne, ih ht]

theorem tblIns_of_below {α : Type} {k : Nat} {t : Tbl α} (v : α) (h : ∀ e ∈ t, e.1 < k) : tblIns k v t = t ++ [(k, v)] := by
  induction t with
  | nil => rfl
  | cons e t ih =>
    obtain ⟨he, ht⟩ := List.forall_mem_cons.1 h
    rw [tblIns, if_neg (Nat.not_lt.2 he.le), ih ht, List.cons_append]

/-- Marks set above every key of a table are that many entries more. -/
theorem length_tblSetRun_true (k n : Nat) (t : Tbl Bool) (h : ∀ e ∈ t, e.1 < k) :
    (tblSetRun (fun _ => false) t k (List.replicate n true)).length = t.length + n := by
  induction n generalizing k t with
  | zero => rfl
  | succ n ih =>
    have hset : tblSet (fun _ => false) t k true = t ++ [(k, true)] := by
      rw [tblSet, if_neg (by decide), tblErase_of_below h, tblIns_of_below true h]
    rw [List.replicate_succ, tblSetRun, hset, ih]
    · rw [List.length_append, List.length_singleton]
      omega
    · intro e he
      rcases List.mem_append.1 he with he | he
      · exact Nat.lt_succ_of_lt (h e he)
      · rw [List.mem_singleton.1 he]
        exact Nat.lt_succ_self k

variable {s : State} {bus : Fin 2} {seq : Fin 256} {session : Option (Fin 65536)} {head bytes : List Byte} {total off : Nat}

theorem mctpBind_of_unwritable (hv : s.vendorOn bus = true) (h : s.mayWrite session = false) :
    exec (.mctpBind bus session seq head total off bytes) s = .next (s.stolReply 3 seq 1 []) :=
  congrArg Host.Outcome.next ((if_neg (by simp [hv])).trans (if_pos (by simp [h])))

variable (hv : s.vendorOn bus = true) (h : s.mayWrite session = true)

include hv h

theorem mctpBind_of_unfit (hf : ofBytes (head.take 1) = 0 ∨ 5 < ofBytes (head.take 1) ∨ head.length ≠ 24 ∨ 4000 < bytes.length
    ∨ total < off + bytes.length) : exec (.mctpBind bus session seq head total off bytes) s = .next (s.stolReply 3 seq 2 []) :=
  congrArg Host.Outcome.next ((if_neg (by simp [hv])).trans ((if_neg (by simp [h])).trans (if_pos hf)))

/-- The first fragment of a BIND as it is kept. -/
def firstFragment (seq : Fin 256) (head bytes : List Byte) (total off : Nat) : McBind :=
  ⟨head, ofBytes (head.take 1), ofBytes ((head.drop 4).take 3), total, tblSetRun (fun _ => 0) [] off bytes,
    tblSetRun (fun _ => false) [] off (List.replicate bytes.length true), seq⟩

theorem mctpBind_of_first (h1 : 1 ≤ ofBytes (head.take 1)) (h5 : ofBytes (head.take 1) ≤ 5) (hl : head.length = 24)
    (ht : off + bytes.length ≤ total) (hn : bytes.length ≤ 4000) (hb : s.mcBind = none) :
    exec (.mctpBind bus session seq head total off bytes) s =
      .next (if total ≤ bytes.length then { s with mcBind := none, mcWait := s.mcWait ++ [firstFragment seq head bytes total off] }
        else { s with mcBind := some (firstFragment seq head bytes total off) }.stolReply 3 seq 0 []) := by
  refine congrArg Host.Outcome.next ((if_neg (by simp [hv])).trans ((if_neg (by simp [h])).trans ((if_neg (by omega)).trans ?_)))
  simp only [hb, ge_iff_le, length_tblSetRun_true off bytes.length [] (by simp), List.length_nil, Nat.zero_add]
  rfl

end

/-! ### Events and CMIS reads (R398, R403, R405) -/

section

variable {s : State} {seq : Fin 256}

theorem eventRepeat_of_held {e : McEvent} (he : e ∈ s.events) (hs : e.seq = seq.val)
    (hone : ∀ x ∈ s.events, x.seq = seq.val → x = e)
    (hv : s.fmValid = true) : exec (.eventRepeat seq) s = .next (s.emit (.event e)) := by
  have hfind : (s.events.find? fun e => e.seq == seq.val) = some e := by
    cases hf : s.events.find? fun e => e.seq == seq.val with
    | none => exact absurd (beq_iff_eq.2 hs) (List.find?_eq_none.1 hf e he)
    | some x => rw [hone x (List.mem_of_find?_eq_some hf) (eq_of_beq (List.find?_some hf :))]
  show execEventRepeat seq s = _
  simp only [execEventRepeat, hfind]
  exact congrArg Host.Outcome.next (if_pos hv)

theorem eventRepeat_of_unsent (h : (∀ e ∈ s.events, e.seq ≠ seq.val) ∨ s.fmValid = false) :
    exec (.eventRepeat seq) s = .next s := by
  show execEventRepeat seq s = _
  unfold execEventRepeat
  split
  · next e he =>
    refine congrArg Host.Outcome.next (if_neg (ne_true_of_eq_false (h.resolve_left fun h => ?_)))
    exact h e (List.mem_of_find?_eq_some he) (eq_of_beq (List.find?_some he :))
  · rfl

theorem cmis_of_unfit {arg n : Nat} (h : n = 0 ∨ 128 < n ∨ 256 < arg % 256 + n ∨ 24 ≤ bits arg 31 24) (got : Option (List Byte)) :
    s.cmis arg n got = (3, []) := if_pos h

theorem cmis_of_fit {arg n : Nat} (h0 : 1 ≤ n) (h1 : n ≤ 128) (h2 : arg % 256 + n ≤ 256) (h3 : bits arg 31 24 < 24) :
    ((s.cage (bits arg 31 24)).pow ≠ .on → ∀ got, s.cmis arg n got = (1, []))
    ∧ ((s.cage (bits arg 31 24)).pow = .on → s.cmis arg n none = (2, []))
    ∧ ∀ bs, (s.cage (bits arg 31 24)).pow = .on → n ≤ bs.length → s.cmis arg n (some bs) = (0, bs.take n) := by
  have hfit : ¬ (n = 0 ∨ n > 128 ∨ arg % 256 + n > 256 ∨ bits arg 31 24 ≥ 24) := by omega
  refine ⟨fun hp got => (if_neg hfit).trans (if_pos hp), fun hp => (if_neg hfit).trans (if_neg (not_not.2 hp)), fun bs hp hn => ?_⟩
  refine ((if_neg hfit).trans (if_neg (not_not.2 hp))).trans ?_
  exact congrArg (Prod.mk 0) (List.take_append_of_le_length hn)

theorem cmisRead_of_starts {r : Fin 16} {d : HostDesc} {s0 : State} (h : MgmtStarts s r 1 d s0) (got : Option (List Byte)) :
    exec (.cmisRead r got) s =
      .next ((s0.mgmtEnd d.id (s.cmis d.arg0 (d.fld 56 4) got).1 (s.cmis d.arg0 (d.fld 56 4) got).2).ringGo 0 r) := by
  refine (congrArg Host.Outcome.next (mgmt_of_starts h _)).trans ?_
  rw [eq_modDesc_of_starts h.1]
  rfl

end

/-- Settles O45: each message by whether its binding serves it, then by its own guard. -/
theorem sidebandManagement : Obligations.SidebandManagement := by
  intro bus op eid type sel seq len session head bytes total off arg got r d s0 s on o reply bind
  have hvendor (h : on) (hr : s.boot.recovery = false) : s.vendorOn bus = true := by
    simp [State.vendorOn, hr, show s.mctpOn bus = true from h]
  refine ⟨mctp_of_off op eid type sel seq len session head bytes total off arg got, fun h => ⟨setEndpointId_of_refused op eid h,
    setEndpointId_of_taken op eid h, congrArg Host.Outcome.next (if_pos h), congrArg Host.Outcome.next (if_pos h),
    getMctpVersionSupport_of_known type h, getMctpVersionSupport_of_unknown type h, congrArg Host.Outcome.next (if_pos h),
    getVdmSupport_of_zero sel h, getVdmSupport_of_other sel h,
    fun hr => vendor_of_off seq len session head bytes total off arg got (vendorOff_of_recovery hr),
    fun hr hw => mctpBind_of_unwritable (hvendor h hr) hw, fun hr hw => ⟨mctpBind_of_unfit (hvendor h hr) hw,
    fun h1 h5 hl ht hb => ⟨?_, ?_⟩⟩,
    fun hr => congrArg Host.Outcome.next (if_neg (by simp [hvendor h hr])),
    fun hr => congrArg Host.Outcome.next (if_neg (by simp [hvendor h hr]))⟩,
    fun e he hs hone hv => eventRepeat_of_held he hs hone hv, eventRepeat_of_unsent, fun h => cmisRead_of_starts h got,
    ⟨fun h => cmis_of_unfit h got, fun h0 h1 h2 h3 => ?_⟩, rfl⟩
  · intro hn h0 he
    exact (mctpBind_of_first (hvendor h hr) hw h1 h5 hl ht hn hb).trans (congrArg Host.Outcome.next (if_pos he.ge))
  · intro hn hlt
    exact (mctpBind_of_first (hvendor h hr) hw h1 h5 hl ht hn hb).trans (congrArg Host.Outcome.next (if_neg (Nat.not_le.2 hlt)))
  · obtain ⟨hoff, hnone, hsome⟩ := cmis_of_fit (s := s) h0 h1 h2 h3
    exact ⟨fun hp => hoff hp got, fun hp hg => hg ▸ hnone hp, fun bs hp hg hn => hg ▸ hsome bs hp hn⟩

end Sys2Proof.Laws
end

section
/-! PROOFS. Instances: quiesce, create, remove, mailbox, contexts and the module's requests (spec/14: R396, R397; spec/15: R408 to
R425; spec/19: R522). -/
namespace Sys2Proof.Laws

open Machine

/-! ### Quiescing (R423 to R425) -/

section

variable {s s0 : State} {r : Fin 16} {d : HostDesc}

/-- A QUIESCE of a mode that starts. -/
def QuiesceStarts (s : State) (r : Nat) (m : Nat) (d : HostDesc) (s0 : State) : Prop := RingStarts s 0 r 8 d s0 ∧ d.mode = m

theorem inst_of_starts {fn r t : Nat} (h : RingStarts s fn r t d s0) (v : Nat) : s0.inst v = s.inst v := by
  rw [eq_modDesc_of_starts h]
  rfl

theorem aborting_of_inst {t : State} {v : Nat} (h : t.inst v = s.inst v) : t.aborting v = s.aborting v := by
  rw [State.aborting, h, State.aborting]

theorem quiesceDrain_of_starts (h : QuiesceStarts s r 0 d s0) : exec (.quiesceDrain r) s =
    .next ((if (s.inst d.target).st = .absent then s0.quiesceDone d.id 1 0
      else if (s.inst d.target).st = .quiesced then s0.quiesceDone d.id 0 0
      else if (s.inst d.target).quiesce.isSome then s0.quiesceDone d.id 4 0
      else s0.quiesceStart d.target false d.id).ringGo 0 r) := by
  refine (congrArg Host.Outcome.next (startIf_of_starts h.1 (ok := fun d => d.mode == 0) (beq_iff_eq.2 h.2) _)).trans ?_
  simp only [← inst_of_starts h.1]
  rfl

/-- An ABORT in force: the target's descriptors removed, its TDI and its launch ended. -/
def quiesceAborted (s : State) (v desc : Nat) : State :=
  let s1 := (s.drainOver v 5).quiesceStart v true desc
  ((((s1.removeDescs (s1.descs.filter fun y => y.fn == v)).1).tdiLeave v).abortLaunch (v - 1)).quiesceEnd v

theorem quiesceAbort_of_starts (h : QuiesceStarts s r 1 d s0) : exec (.quiesceAbort r) s =
    .next ((if (s.inst d.target).st = .absent then s0.quiesceDone d.id 1 0
      else if (s.inst d.target).st = .quiesced then s0.quiesceDone d.id 0 0
      else if s.aborting d.target then s0.quiesceDone d.id 4 0
      else quiesceAborted s0 d.target d.id).ringGo 0 r) := by
  refine (congrArg Host.Outcome.next (startIf_of_starts h.1 (ok := fun d => d.mode == 1) (beq_iff_eq.2 h.2) _)).trans ?_
  simp only [← inst_of_starts h.1, ← aborting_of_inst (inst_of_starts h.1 d.target)]
  rfl

theorem quiesceResume_of_starts (h : QuiesceStarts s r 2 d s0) (ha : s.aborting d.target = false) : exec (.quiesceResume r) s =
    .next ((if (s.inst d.target).st = .absent then s0.quiesceDone d.id 1 0
      else if (s.inst d.target).st = .ready then s0.quiesceDone d.id 2 0
      else (((s0.drainOver d.target 6).modInst d.target fun k => { k with st := .ready, quiesceMode := 0 }).mbEvent
        (d.target - 1) 0x0A 2).quiesceDone d.id 0 0).ringGo 0 r) := by
  have hok : (d.mode == 2 && !s.aborting d.target) = true := by simp [h.2, ha]
  refine (congrArg Host.Outcome.next (startIf_of_starts h.1 (ok := fun d => d.mode == 2 && !s.aborting d.target) hok _)).trans ?_
  simp only [← inst_of_starts h.1]
  rfl

theorem quiesceEnds_of_none {v : Fin 33} (h : (s.inst v).quiesce = none) :
    exec (.quiesceDrainEnd v) s = .next s ∧ exec (.quiesceTimeout v) s = .next s := by
  constructor
  · have hend : s.quiesceEnd v = s := by simp only [State.quiesceEnd, h]
    exact congrArg Host.Outcome.next ((congrArg (fun t => if v.val = 0 then s else t) hend).trans (ite_self s))
  · show execQuiesceTimeout v s = _
    simp only [execQuiesceTimeout, h]

variable {v : Fin 33} {z : Quiesce}

/-- The end of a target's coming to rest, where nothing of it is left. -/
theorem quiesceDrainEnd_of_some (hv : v.val ≠ 0) (h : (s.inst v).quiesce = some z) : exec (.quiesceDrainEnd v) s =
    .next (if s.drainedInst v then match z.desc with
        | some y => (s.modInst v fun k => { k with st := .quiesced, quiesce := none }).quiesceDone y 0 z.count
        | none => s.modInst v fun k => { k with st := .quiesced, quiesce := none }
      else s) := by
  refine congrArg Host.Outcome.next ((if_neg hv).trans ?_)
  simp only [State.quiesceEnd, h] <;> rfl

theorem quiesceTimeout_of_drain (h : (s.inst v).quiesce = some z) (hd : s.drainedInst v = false) (ha : z.abort = false) {y : Nat}
    {u : HostDesc} (hy : z.desc = some y) (hu : s.desc y = some u) (hn : u.fld 28 4 ≠ 0) :
    exec (.quiesceTimeout v) s = .next (s.drainOver v 3) := by
  show execQuiesceTimeout v s = _
  simp only [execQuiesceTimeout, h, hy, Option.bind_some, hu]
  exact congrArg Host.Outcome.next (if_neg (by simp [ha, hn, hd]))

end

/-! ### QUIESCE, RESUME, CREATE, REMOVE and RESET (R397, R416) -/

section

variable {s s0 : State} {r : Fin 16} {d : HostDesc}

theorem instCreate_of_starts (h : MgmtStarts s r 0x100 d s0) : exec (.instCreate r) s =
    .next ((if d.arg0 % 64 = 0 ∨ 32 < d.arg0 % 64 then s0.mgmtEnd d.id 4 []
      else if s.pcie.vfs < d.arg0 % 64 then s0.mgmtEnd d.id 1 []
      else if (s.inst (d.arg0 % 64)).st ≠ .absent then s0.mgmtEnd d.id 2 []
      else ((((s0.clearInst (d.arg0 % 64) .ready).setReg (kRefCfg (d.arg0 % 64)) 0xA).setReg (hifKey (d.arg0 % 64) (bHIF + 0x900))
        0).setReg (kFnStatus (d.arg0 % 64)) 1).mgmtEnd d.id 0 []).ringGo 0 r) := by
  have hvfs : s0.pcie.vfs = s.pcie.vfs := by
    rw [eq_modDesc_of_starts h.1]
    rfl
  refine (congrArg Host.Outcome.next (mgmt_of_starts h _)).trans ?_
  simp only [← inst_of_starts h.1, ← hvfs]
  rfl

theorem instRemove_of_unrested (h : MgmtStarts s r 0x101 d s0) (h1 : 1 ≤ d.arg0 % 64) (h32 : d.arg0 % 64 ≤ 32)
    (hst : (s.inst (d.arg0 % 64)).st ≠ .quiesced) : exec (.instRemove r) s = .next ((s0.mgmtEnd d.id 3 []).ringGo 0 r) := by
  refine (congrArg Host.Outcome.next (mgmt_of_starts h _)).trans (congrArg (fun u : State => Host.Outcome.next (u.ringGo 0 r)) ?_)
  rw [← inst_of_starts h.1] at hst
  have hrange : ¬ (d.arg0 % 64 = 0 ∨ d.arg0 % 64 > 32) := by omega
  exact (if_neg hrange).trans (if_pos hst)

/-- What INST_STATUS reports of a VF. -/
def instReport (s : State) (v : Nat) : List Byte :=
  toBytes 1 (s.inst v).st.code ++ toBytes 1 (s.inst v).quiesceMode ++ toBytes 1 (v - 1) ++ toBytes 1 0
    ++ toBytes 4 (s.part (v - 1)).comp ++ toBytes 4 (s.openDescs v) ++ toBytes 4 (s.inst v).lostSum

theorem instStatus_of_starts (h : MgmtStarts s r 0x103 d s0) : exec (.instStatus r) s =
    .next ((if d.arg0 % 64 = 0 ∨ 32 < d.arg0 % 64 then s0.mgmtEnd d.id 4 []
      else s0.mgmtEnd d.id 0 (instReport s0 (d.arg0 % 64))).ringGo 0 r) :=
  congrArg Host.Outcome.next (mgmt_of_starts h _)

theorem length_instReport (s : State) (v : Nat) : (instReport s v).length = 16 := by
  simp [instReport, toBytes_length]

theorem take_instReport (s : State) (v : Nat) : (instReport s v).take 1 = toBytes 1 (s.inst v).st.code := by
  simp only [instReport, List.append_assoc]
  exact List.take_left' (toBytes_length ..)

end

/-! ### The mailbox (R417, R418, R420, R421) -/

section

variable {s : State} {v : Fin 33} {x : Fin 256}

theorem refill_of_empty {i : Inst} (h : i.held = []) (n : Nat) : i.refill n = i := by
  cases n with
  | zero => rfl
  | succ n => simp only [Inst.refill, h]

/-- With no event held, a new head index is all that changes. -/
theorem evtHead_of_unheld (i : Inst) (h : i.held = []) :
    (if i.empty && !i.held.isEmpty && i.notify then (s.setInst v (i.refill 32)).msix v 0 else s.setInst v (i.refill 32))
      = s.setInst v i := by
  rw [refill_of_empty h, h]
  exact if_neg (by simp)

theorem mailbox_of_inst (h : s.mbOn v v = true) :
    ((s.inst v).toMgr = true → exec (.mbTomgrDb v) s = .next (s.modInst v fun k => { k with mgrOvr := true }))
    ∧ ((s.inst v).toMgr = false → exec (.mbTomgrDb v) s = .next ((s.modInst v fun k => { k with toMgr := true }).msix 0 (31 + v)))
    ∧ ((s.inst v).toInst = true → exec (.mbToinstAck v) s = .next ((s.modInst v fun k => { k with toInst := false }).msix 0 (31 + v)))
    ∧ (96 ≤ x.val % 128 → exec (.mbEvtHead v x) s = .next s)
    ∧ (x.val % 128 < 96 → (s.inst v).held = [] → exec (.mbEvtHead v x) s =
        .next (s.setInst v { s.inst v with head := x.val % 128, headWrap := bitAt x 7 })) := by
  refine ⟨fun ht => congrArg Host.Outcome.next ((if_neg (by simp [h])).trans (if_pos ht)),
    fun ht => congrArg Host.Outcome.next ((if_neg (by simp [h])).trans (if_neg (ne_true_of_eq_false ht))),
    fun ht => congrArg Host.Outcome.next (if_pos ⟨h, ht⟩), fun hx => congrArg Host.Outcome.next (if_pos (.inr hx)), fun hx hh => ?_⟩
  refine congrArg Host.Outcome.next ((if_neg ?_).trans ?_)
  · simp only [h, Bool.not_true, Bool.false_eq_true, false_or]
    omega
  · exact evtHead_of_unheld { s.inst v with head := x.val % 128, headWrap := bitAt x 7 } hh

theorem mailbox_of_mgr (h : s.mbOn 0 v = true) :
    ((s.inst v).toInst = true → exec (.mbToinstDb v) s = .next (s.modInst v fun k => { k with instOvr := true }))
    ∧ ((s.inst v).toInst = false → exec (.mbToinstDb v) s = .next ((s.modInst v fun k => { k with toInst := true }).msix v 0))
    ∧ ((s.inst v).toMgr = true → exec (.mbTomgrAck v) s = .next ((s.modInst v fun k => { k with toMgr := false }).msix v 0)) :=
  ⟨fun ht => congrArg Host.Outcome.next ((if_neg (by simp [h])).trans (if_pos ht)),
    fun ht => congrArg Host.Outcome.next ((if_neg (by simp [h])).trans (if_neg (ne_true_of_eq_false ht))),
    fun ht => congrArg Host.Outcome.next (if_pos ⟨h, ht⟩)⟩

theorem mailboxMgr_of_off (h : s.mbOn 0 v = false) : exec (.mbToinstDb v) s = .next s ∧ exec (.mbTomgrAck v) s = .next s :=
  ⟨congrArg Host.Outcome.next (if_pos (by simp [h])), congrArg Host.Outcome.next (if_neg fun hc => by simp [h] at hc)⟩

/-! ### Requests of the mailbox (R419) -/

theorem mbRequest_of_off (h : s.mbOn v v = false) (code : Nat) (f : State → State) : s.mbRequest v code f = s :=
  if_pos (by simp [h])

theorem mbRequest_of_unknown (h : s.mbOn v v = true) (hc : (s.inst v).req 0 2 = 0 ∨ 5 < (s.inst v).req 0 2) (code : Nat)
    (f : State → State) : s.mbRequest v code f = s.mbReply v 1 [] :=
  (if_neg (by simp [h])).trans (if_pos hc)

theorem mailboxInst_of_off (h : s.mbOn v v = false) (ok : Bool) : ∀ y ∈ [Instr.mbTomgrDb v, .mbToinstAck v, .mbEvtHead v x,
    .ctxCreate v, .ctxDestroy v, .ctxReset v, .catalogueRead v ok, .info v], exec y s = .next s := by
  simp only [List.forall_mem_cons]
  exact ⟨congrArg Host.Outcome.next (if_pos (by simp [h])), congrArg Host.Outcome.next (if_neg fun hc => by simp [h] at hc),
    congrArg Host.Outcome.next (if_pos (.inl (by simp [h]))), congrArg Host.Outcome.next (mbRequest_of_off h ..),
    congrArg Host.Outcome.next (mbRequest_of_off h ..), congrArg Host.Outcome.next (mbRequest_of_off h ..),
    congrArg Host.Outcome.next (mbRequest_of_off h ..), congrArg Host.Outcome.next (mbRequest_of_off h ..), List.forall_mem_nil _⟩

theorem requests_of_unknown (h : s.mbOn v v = true) (hc : (s.inst v).req 0 2 = 0 ∨ 5 < (s.inst v).req 0 2) (ok : Bool) :
    ∀ y ∈ [Instr.ctxCreate v, .ctxDestroy v, .ctxReset v, .catalogueRead v ok, .info v], exec y s = .next (s.mbReply v 1 []) := by
  simp only [List.forall_mem_cons]
  exact ⟨congrArg Host.Outcome.next (mbRequest_of_unknown h hc ..), congrArg Host.Outcome.next (mbRequest_of_unknown h hc ..),
    congrArg Host.Outcome.next (mbRequest_of_unknown h hc ..), congrArg Host.Outcome.next (mbRequest_of_unknown h hc ..),
    congrArg Host.Outcome.next (mbRequest_of_unknown h hc ..), List.forall_mem_nil _⟩

/-- The VF asks for the request of a code, with its reserved bytes zero. -/
def Asks (s : State) (v : Fin 33) (code : Nat) : Prop := s.mbOn v v = true ∧ (s.inst v).req 0 2 = code
  ∧ ∀ k < 128, reqReserved code k = true → (s.inst v).req k 1 = 0

theorem mbRequest_of_asks {code : Nat} (h : Asks s v code) (h1 : 1 ≤ code) (h5 : code ≤ 5) (f : State → State) :
    s.mbRequest v code f = f s := by
  obtain ⟨hon, hc, hz⟩ := h
  have hclean : ¬ ((List.range 128).any fun j => reqReserved code j && (s.inst v).req j 1 != 0) = true := by
    simp only [List.any_eq_true, List.mem_range, Bool.and_eq_true, bne_iff_ne, not_exists, not_and, not_not]
    exact hz
  exact (if_neg (by simp [hon])).trans ((if_neg (by omega)).trans ((if_neg (not_not.2 hc)).trans (if_neg hclean)))

theorem ctxCreate_of_full (h : Asks s v 1) (hf : ∀ k < 256, k ∈ (s.inst v).ctxs) :
    exec (.ctxCreate v) s = .next (s.mbReply v 6 []) := by
  refine (congrArg Host.Outcome.next (mbRequest_of_asks h (by decide) (by decide) _)).trans ?_
  have hfind : ((List.range 256).find? fun h => !(s.inst v).ctxs.contains h) = none := by
    refine List.find?_eq_none.2 fun k hk => ?_
    simp [hf k (List.mem_range.1 hk)]
  simp only [hfind]

theorem find?_range_of_least {n k : Nat} {p : Nat → Bool} (hk : k < n) (hp : p k = true) (hl : ∀ m < k, p m = false) :
    (List.range n).find? p = some k :=
  List.find?_range_eq_some.2 ⟨hp, List.mem_range.2 hk, fun m hm => by rw [hl m hm]; rfl⟩

theorem ctxCreate_of_free (h : Asks s v 1) {k : Nat} (hk : k < 256) (hn : k ∉ (s.inst v).ctxs) (hl : ∀ m < k, m ∈ (s.inst v).ctxs) :
    exec (.ctxCreate v) s = .next ((s.modInst v fun y => { y with ctxs := y.ctxs ++ [k] }).mbReply v 0 (toBytes 2 k)) := by
  refine (congrArg Host.Outcome.next (mbRequest_of_asks h (by decide) (by decide) _)).trans ?_
  have hfind : ((List.range 256).find? fun h => !(s.inst v).ctxs.contains h) = some k :=
    find?_range_of_least hk (by simp [hn]) fun m hm => by simp [hl m hm]
  simp only [hfind]

theorem ctxDestroy_of_asks (h : Asks s v 2) : exec (.ctxDestroy v) s =
    .next (if !(s.inst v).ctxs.contains ((s.inst v).req 8 2) then s.mbReply v 2 []
      else if s.descs.any fun d => d.fn == v.val && d.ctx == (s.inst v).req 8 2 then s.mbReply v 3 []
      else (s.modInst v fun i => { i with ctxs := i.ctxs.filter fun x => x != (s.inst v).req 8 2 }).mbReply v 0 []) :=
  congrArg Host.Outcome.next (mbRequest_of_asks h (by decide) (by decide) _)

theorem ctxReset_of_asks (h : Asks s v 3) : exec (.ctxReset v) s =
    .next (if !(s.inst v).ctxs.contains ((s.inst v).req 8 2) then s.mbReply v 2 []
      else if s.warmDue then s
      else if (s.part (v - 1)).rst.isSome then s.modPart (v - 1) fun q => { q with ctxAsk := true }
      else (s.ctxReset v ((s.inst v).req 8 2) 1).1.mbReply v 0 (toBytes 4 (s.ctxReset v ((s.inst v).req 8 2) 1).2)) :=
  congrArg Host.Outcome.next (mbRequest_of_asks h (by decide) (by decide) _)

theorem catalogueRead_of_asks (h : Asks s v 4) (ok : Bool) : exec (.catalogueRead v ok) s =
    .next (if !(s.part (v - 1)).catalogued then s.mbReply v 4 []
      else if !ok ∨ s.hostShut v then s.mbReply v 5 []
      else (s.hostWrite v ((s.inst v).req 8 8) ((s.part (v - 1)).catalogue.take ((s.inst v).req 16 4))).mbReply v 0
        (toBytes 4 (s.part (v - 1)).catalogue.length ++ toBytes 4 0 ++ toBytes 8 (s.part (v - 1)).epoch)) :=
  congrArg Host.Outcome.next (mbRequest_of_asks h (by decide) (by decide) _)

/-- What INFO reports before the anchor. -/
def infoHead (s : State) (v : Fin 33) : List Byte :=
  toBytes 1 (s.part (v - 1)).role ++ toBytes 1 (s.part (v - 1)).st.code
    ++ toBytes 1 (b2n (s.isAnchor (v - 1)) + 2 * b2n (bitAt (s.part (v - 1)).flags 1)) ++ toBytes 4 (s.part (v - 1)).comp
    ++ toBytes 8 (s.part (v - 1)).epoch

theorem length_infoHead (s : State) (v : Fin 33) : (infoHead s v).length = 15 := by simp [infoHead, toBytes_length]

theorem info_of_asks (h : Asks s v 5) : exec (.info v) s =
    .next (s.mbReply v 0 (toBytes 1 (v - 1) ++ infoHead s v ++ toBytes 2 (s.part (v - 1)).anchor)) := by
  refine (congrArg Host.Outcome.next (mbRequest_of_asks h (by decide) (by decide) _)).trans ?_
  simp only [infoHead, List.append_assoc]

theorem info_spec (h : Asks s v 5) : ∃ bs, exec (.info v) s = .next (s.mbReply v 0 bs) ∧ bs.length = 18
    ∧ bs.take 1 = toBytes 1 (v - 1) ∧ bs.drop 16 = toBytes 2 (s.part (v - 1)).anchor := by
  refine ⟨_, info_of_asks h, ?_, ?_, ?_⟩
  · simp [length_infoHead, toBytes_length]
  · rw [List.append_assoc]
    exact List.take_left' (toBytes_length ..)
  · exact List.drop_left' (by simp [length_infoHead, toBytes_length])

/-! ### The manager's context reset (R522) -/

theorem errCtxReset_of_ready (h : s.boot.ready = true) (w : W32) : exec (.errCtxReset w) s =
    .next (if bits w.toNat 21 16 = 0 ∨ 32 < bits w.toNat 21 16
    ∨ (!(s.inst (bits w.toNat 21 16)).ctxs.contains (w.toNat % 65536)) = true
      then s.setReg kCtxStat 1
      else if s.warmDue then s
      else if (s.part (bits w.toNat 21 16 - 1)).rst.isSome then s.setReg kCtxStat 0
      else (s.ctxReset (bits w.toNat 21 16) (w.toNat % 65536) 2).1.setReg kCtxStat 0) :=
  congrArg Host.Outcome.next (if_neg (by simp [h]))

end

/-- Settles O44: each request by its guard; a descriptor or an MGMT command once it starts. -/
theorem instances : Obligations.Instances := by
  intro r v x w ok d s0 s go i fin done_ mg ends n j c asks h q
  have hgo {a b : State} (h : a = b) : (Host.Outcome.next (a.ringGo 0 r) : Out) = .next (b.ringGo 0 r) := by rw [h]
  have hnext {a b : State} (h : a = b) : (Host.Outcome.next a : Out) = .next b := by rw [h]
  refine ⟨fun hs => ?_, fun hs => ?_, fun hs ha => ?_, quiesceEnds_of_none,
    fun z hv hz => ⟨fun hd => ?_, fun hd hn => ?_, fun hd y hy => ?_,
    fun hd ha y u hy hu hn => quiesceTimeout_of_drain hz hd ha hy hu hn⟩, fun hs => ?_,
    fun hs => congrArg Host.Outcome.next (mgmt_of_starts hs _), instRemove_of_unrested,
    fun hs => congrArg Host.Outcome.next (mgmt_of_starts hs _), fun hs => ?_, mailbox_of_inst, fun hs => mailboxInst_of_off hs ok,
    mailbox_of_mgr, mailboxMgr_of_off, fun hs hc => requests_of_unknown hs hc ok, ctxCreate_of_full,
    fun hs k => ctxCreate_of_free hs,
    fun hs => ?_, fun hs => ?_, fun hs => ?_, info_spec, ?_⟩
  · exact ⟨fun ha => (quiesceDrain_of_starts hs).trans (hgo (if_pos ha)),
      fun hq => (quiesceDrain_of_starts hs).trans (hgo ((if_neg (by rw [hq]; decide)).trans (if_pos hq))),
      fun ha hq hz => (quiesceDrain_of_starts hs).trans (hgo ((if_neg ha).trans ((if_neg hq).trans (if_pos hz)))),
      fun ha hq hz => (quiesceDrain_of_starts hs).trans (hgo ((if_neg ha).trans ((if_neg hq).trans (if_neg (by rw [hz]; decide)))))⟩
  · exact ⟨fun ha => (quiesceAbort_of_starts hs).trans (hgo (if_pos ha)),
      fun hq => (quiesceAbort_of_starts hs).trans (hgo ((if_neg (by rw [hq]; decide)).trans (if_pos hq))),
      fun ha hq hz => (quiesceAbort_of_starts hs).trans (hgo ((if_neg ha).trans ((if_neg hq).trans (if_pos hz)))),
      fun ha hq hz => (quiesceAbort_of_starts hs).trans
        (hgo ((if_neg ha).trans ((if_neg hq).trans (if_neg (ne_true_of_eq_false hz)))))⟩
  · refine ⟨fun h => (quiesceResume_of_starts hs ha).trans (hgo (if_pos h)),
      fun h => (quiesceResume_of_starts hs ha).trans (hgo ((if_neg (by rw [h]; decide)).trans (if_pos h))),
      fun h => (quiesceResume_of_starts hs ha).trans (hgo ((if_neg ?_).trans (if_neg ?_)))⟩ <;>
    · rcases h with h | h <;> rw [h] <;> decide
  · exact (quiesceDrainEnd_of_some hv hz).trans (hnext (if_neg (ne_true_of_eq_false hd)))
  · refine (quiesceDrainEnd_of_some hv hz).trans (hnext ((if_pos hd).trans ?_))
    rw [hn]
  · refine (quiesceDrainEnd_of_some hv hz).trans (hnext ((if_pos hd).trans ?_))
    rw [hy]
  · exact ⟨fun hn => (instCreate_of_starts hs).trans (hgo (if_pos hn)),
      fun h1 h32 hn => (instCreate_of_starts hs).trans (hgo ((if_neg (by omega)).trans (if_pos hn))),
      fun h1 h32 hn ha => (instCreate_of_starts hs).trans
        (hgo ((if_neg (by omega)).trans ((if_neg (Nat.not_lt.2 hn)).trans (if_pos ha)))),
      fun h1 h32 hn ha => (instCreate_of_starts hs).trans
        (hgo ((if_neg (by omega)).trans ((if_neg (Nat.not_lt.2 hn)).trans (if_neg (not_not.2 ha)))))⟩
  · refine ⟨fun hn => (instStatus_of_starts hs).trans (hgo (if_pos hn)), fun h1 h32 => ⟨instReport s0 n, length_instReport .., ?_,
      (instStatus_of_starts hs).trans (hgo (if_neg (by omega)))⟩⟩
    rw [take_instReport, inst_of_starts hs.1]
  · refine ⟨fun hh => (ctxDestroy_of_asks hs).trans (hnext (if_pos (by simpa using hh))), fun hh hy => ?_, fun hh hy => ?_⟩ <;>
      refine (ctxDestroy_of_asks hs).trans (hnext ((if_neg (by simpa using hh)).trans ?_))
    · obtain ⟨y, hin, hf, hc⟩ := hy
      exact if_pos (List.any_eq_true.2 ⟨y, hin, by simp [hf, hc, h, j]⟩)
    · refine if_neg fun hc => ?_
      obtain ⟨y, hin, hf⟩ := List.any_eq_true.1 hc
      simp only [Bool.and_eq_true, beq_iff_eq] at hf
      exact hy y hin hf.1 hf.2
  · have hdue (hp : s.boot.pending = none) : ¬ s.warmDue = true := by simp [State.warmDue, hp]
    refine ⟨fun hh => (ctxReset_of_asks hs).trans (hnext (if_pos (by simpa using hh))), fun hh hp => ?_, fun hh hp hr => ?_,
      fun hh hp hr => ?_⟩ <;> refine (ctxReset_of_asks hs).trans (hnext ((if_neg (by simpa using hh)).trans ?_))
    · exact if_pos (Option.isSome_iff_ne_none.2 hp)
    · exact (if_neg (hdue hp)).trans (if_pos hr)
    · exact (if_neg (hdue hp)).trans (if_neg (by rw [hr]; decide))
  · refine ⟨fun hc => (catalogueRead_of_asks hs ok).trans (hnext (if_pos (by rw [hc]; rfl))), fun hc ho => ?_,
      fun hc ho hsh => ?_⟩ <;>
      refine (catalogueRead_of_asks hs ok).trans (hnext ((if_neg (by rw [hc]; decide)).trans ?_))
    · exact if_pos (ho.imp_left fun ho => by rw [ho]; rfl)
    · exact if_neg (by simp [ho, hsh])
  · intro f
    have hdue (hp : s.boot.pending = none) : ¬ s.warmDue = true := by simp [State.warmDue, hp]
    have hin (h1 : 1 ≤ f) (h32 : f ≤ 32) (hc : w.toNat % 65536 ∈ (s.inst f).ctxs) :
        ¬ (f = 0 ∨ 32 < f ∨ (!(s.inst f).ctxs.contains (w.toNat % 65536)) = true) := by
      simp only [List.contains_eq_mem, hc, decide_true, Bool.not_true, Bool.false_eq_true, or_false]
      omega
    refine ⟨fun hr => congrArg Host.Outcome.next (if_pos (by rw [hr]; rfl)), fun hr hc => ?_, fun hr h1 h32 hc hp => ?_,
      fun hr h1 h32 hc hp hn => ?_⟩ <;> refine (errCtxReset_of_ready hr w).trans (hnext ?_)
    · exact if_pos (hc.imp_right (Or.imp_right fun hc => by simpa using hc))
    · exact (if_neg (hin h1 h32 hc)).trans (if_pos (Option.isSome_iff_ne_none.2 hp))
    · exact (if_neg (hin h1 h32 hc)).trans ((if_neg (hdue hp)).trans (if_neg (by rw [hn]; decide)))

end Sys2Proof.Laws
end

section
/-! PROOFS. What a function reset, and the composition reset that it may bring (spec/14: R374; spec/19: R522, R524), leave of the start
and of the panel: both, rule by rule of the operations they go through. -/
namespace Sys2Proof.Laws

open Machine

@[simp] theorem panel_ite (c : Prop) [Decidable c] (a b : State) :
    (if c then a else b).panel = if c then a.panel else b.panel := apply_ite ..

section

variable (s : State) (m : Mv)

@[simp] theorem boot_panel_setReg (k v : Nat) : (s.setReg k v).boot = s.boot ∧ (s.setReg k v).panel = s.panel := ⟨rfl, rfl⟩
@[simp] theorem boot_panel_bump (k n : Nat) : (s.bump k n).boot = s.boot ∧ (s.bump k n).panel = s.panel := ⟨rfl, rfl⟩
@[simp] theorem boot_panel_setBits (k m : Nat) : (s.setBits k m).boot = s.boot ∧ (s.setBits k m).panel = s.panel := ⟨rfl, rfl⟩

@[simp] theorem boot_panel_clearBits (k m : Nat) :
    (s.clearBits k m).boot = s.boot ∧ (s.clearBits k m).panel = s.panel := ⟨rfl, rfl⟩

@[simp] theorem boot_panel_emit (e : Emit) : (s.emit e).boot = s.boot ∧ (s.emit e).panel = s.panel := ⟨rfl, rfl⟩
@[simp] theorem boot_panel_emits (es : List Emit) : (s.emits es).boot = s.boot ∧ (s.emits es).panel = s.panel := ⟨rfl, rfl⟩
@[simp] theorem boot_panel_draw : s.draw.boot = s.boot ∧ s.draw.panel = s.panel := ⟨rfl, rfl⟩

@[simp] theorem boot_panel_msix (fn vec : Nat) :
    (s.msix fn vec).boot = s.boot ∧ (s.msix fn vec).panel = s.panel := by simp [State.msix]

@[simp] theorem boot_panel_ledgerFull (type source owner object code arg value : Nat) :
    (s.ledgerFull type source owner object code arg value).boot = s.boot
      ∧ (s.ledgerFull type source owner object code arg value).panel = s.panel := by simp [State.ledgerFull]

@[simp] theorem boot_panel_setCore (c : Nat) (k : Core) :
    (s.setCore c k).boot = s.boot ∧ (s.setCore c k).panel = s.panel := ⟨rfl, rfl⟩

@[simp] theorem boot_panel_modCore (c : Nat) (f : Core → Core) :
    (s.modCore c f).boot = s.boot ∧ (s.modCore c f).panel = s.panel := ⟨rfl, rfl⟩

@[simp] theorem boot_panel_setEngine (e : Nat) (k : Engine) :
    (s.setEngine e k).boot = s.boot ∧ (s.setEngine e k).panel = s.panel := ⟨rfl, rfl⟩

@[simp] theorem boot_panel_setGroup (g : Nat) (k : Group) :
    (s.setGroup g k).boot = s.boot ∧ (s.setGroup g k).panel = s.panel := ⟨rfl, rfl⟩

@[simp] theorem boot_panel_setRegion (q : Nat) (k : Region) :
    (s.setRegion q k).boot = s.boot ∧ (s.setRegion q k).panel = s.panel := ⟨rfl, rfl⟩

@[simp] theorem boot_panel_modRegion (q : Nat) (f : Region → Region) :
    (s.modRegion q f).boot = s.boot ∧ (s.modRegion q f).panel = s.panel := ⟨rfl, rfl⟩

@[simp] theorem boot_panel_setLine (i : Nat) (k : Option CacheLine) :
    (s.setLine i k).boot = s.boot ∧ (s.setLine i k).panel = s.panel := ⟨rfl, rfl⟩

@[simp] theorem boot_panel_setTag (i : Nat) (k : Option SectorTag) :
    (s.setTag i k).boot = s.boot ∧ (s.setTag i k).panel = s.panel := ⟨rfl, rfl⟩

@[simp] theorem boot_panel_setPoison (i : Nat) (k : Bool) :
    (s.setPoison i k).boot = s.boot ∧ (s.setPoison i k).panel = s.panel := ⟨rfl, rfl⟩

@[simp] theorem boot_panel_setL1 (port : Nat) (k : List XltEntry) :
    (s.setL1 port k).boot = s.boot ∧ (s.setL1 port k).panel = s.panel := ⟨rfl, rfl⟩

@[simp] theorem boot_panel_setL2 (d : Nat) (k : List XltEntry) :
    (s.setL2 d k).boot = s.boot ∧ (s.setL2 d k).panel = s.panel := ⟨rfl, rfl⟩

@[simp] theorem boot_panel_setInWin (w : Nat) (k : InWin) :
    (s.setInWin w k).boot = s.boot ∧ (s.setInWin w k).panel = s.panel := ⟨rfl, rfl⟩

@[simp] theorem boot_panel_setTxn (t : Nat) (k : Option Txn) :
    (s.setTxn t k).boot = s.boot ∧ (s.setTxn t k).panel = s.panel := ⟨rfl, rfl⟩

@[simp] theorem boot_panel_newTxn (t : Txn) : (s.newTxn t).boot = s.boot ∧ (s.newTxn t).panel = s.panel := ⟨rfl, rfl⟩

@[simp] theorem boot_panel_setObj (n : Nat) (k : SyncObj) :
    (s.setObj n k).boot = s.boot ∧ (s.setObj n k).panel = s.panel := ⟨rfl, rfl⟩

@[simp] theorem boot_panel_setPart (p : Nat) (k : Part) :
    (s.setPart p k).boot = s.boot ∧ (s.setPart p k).panel = s.panel := ⟨rfl, rfl⟩

@[simp] theorem boot_panel_modPart (p : Nat) (f : Part → Part) :
    (s.modPart p f).boot = s.boot ∧ (s.modPart p f).panel = s.panel := ⟨rfl, rfl⟩

@[simp] theorem boot_panel_setPoolPage (i : Nat) (k : Option PoolPage) :
    (s.setPoolPage i k).boot = s.boot ∧ (s.setPoolPage i k).panel = s.panel := ⟨rfl, rfl⟩

@[simp] theorem boot_panel_setArena (i : Nat) (k : Option Nat) :
    (s.setArena i k).boot = s.boot ∧ (s.setArena i k).panel = s.panel := ⟨rfl, rfl⟩

@[simp] theorem boot_panel_setPort (m : Nat) (k : Port) :
    (s.setPort m k).boot = s.boot ∧ (s.setPort m k).panel = s.panel := ⟨rfl, rfl⟩

@[simp] theorem boot_panel_setTokens (m k : Nat) :
    (s.setTokens m k).boot = s.boot ∧ (s.setTokens m k).panel = s.panel := ⟨rfl, rfl⟩

@[simp] theorem boot_panel_setServed (i : Nat) (k : HomeWin) :
    (s.setServed i k).boot = s.boot ∧ (s.setServed i k).panel = s.panel := ⟨rfl, rfl⟩

@[simp] theorem boot_panel_setLnk (i : Nat) (k : Link) :
    (s.setLnk i k).boot = s.boot ∧ (s.setLnk i k).panel = s.panel := ⟨rfl, rfl⟩

@[simp] theorem boot_panel_modLnk (i : Nat) (f : Link → Link) :
    (s.modLnk i f).boot = s.boot ∧ (s.modLnk i f).panel = s.panel := ⟨rfl, rfl⟩

@[simp] theorem boot_panel_setCq (fn r : Nat) (k : Cq) :
    (s.setCq fn r k).boot = s.boot ∧ (s.setCq fn r k).panel = s.panel := ⟨rfl, rfl⟩

@[simp] theorem boot_panel_modDesc (i : Nat) (f : HostDesc → HostDesc) :
    (s.modDesc i f).boot = s.boot ∧ (s.modDesc i f).panel = s.panel := ⟨rfl, rfl⟩

@[simp] theorem boot_panel_hostWrite (fn a : Nat) (bs : List Byte) :
    (s.hostWrite fn a bs).boot = s.boot ∧ (s.hostWrite fn a bs).panel = s.panel := ⟨rfl, rfl⟩

@[simp] theorem boot_panel_ledgerPart (type p object code arg value : Nat) :
    (s.ledgerPart type p object code arg value).boot = s.boot
      ∧ (s.ledgerPart type p object code arg value).panel = s.panel := by simp [State.ledgerPart]

@[simp] theorem boot_panel_ledger (type source object code value : Nat) :
    (s.ledger type source object code value).boot = s.boot
      ∧ (s.ledger type source object code value).panel = s.panel := by simp [State.ledger]

@[simp] theorem boot_panel_drbg (n : Nat) : (s.drbg n).boot = s.boot ∧ (s.drbg n).panel = s.panel := by simp [State.drbg]
@[simp] theorem boot_panel_newKey : s.newKey.1.boot = s.boot ∧ s.newKey.1.panel = s.panel := by simp [State.newKey]

@[simp] theorem boot_panel_setInst (v : Nat) (k : Inst) :
    (s.setInst v k).boot = s.boot ∧ (s.setInst v k).panel = s.panel := ⟨rfl, rfl⟩

@[simp] theorem boot_panel_mbEvent (p type detail : Nat) :
    (s.mbEvent p type detail).boot = s.boot ∧ (s.mbEvent p type detail).panel = s.panel := by
  simp only [State.mbEvent]
  split <;> simp

@[simp] theorem boot_panel_tellFault (p vcore code : Nat) :
    (s.tellFault p vcore code).boot = s.boot ∧ (s.tellFault p vcore code).panel = s.panel := by simp [State.tellFault]

@[simp] theorem boot_panel_launchFault (p c code : Nat) :
    (s.launchFault p c code).boot = s.boot ∧ (s.launchFault p c code).panel = s.panel := by
  simp only [State.launchFault]
  split <;> simp

@[simp] theorem boot_panel_seqFault (c code : Nat) :
    (s.seqFault c code).boot = s.boot ∧ (s.seqFault c code).panel = s.panel := by simp [State.seqFault]

@[simp] theorem boot_panel_openLine (c off : Nat) :
    (s.openLine c off).boot = s.boot ∧ (s.openLine c off).panel = s.panel := by simp [State.openLine]

@[simp] theorem boot_panel_spadPut (c lo hi off : Nat) (b : Byte) :
    (s.spadPut c lo hi off b).boot = s.boot ∧ (s.spadPut c lo hi off b).panel = s.panel := by simp [State.spadPut]

@[simp] theorem boot_panel_spadPuts (c lo hi off : Nat) (a6 : List Byte) :
    (s.spadPuts c lo hi off a6).boot = s.boot ∧ (s.spadPuts c lo hi off a6).panel = s.panel := by
  induction a6 generalizing s c lo hi off with
  | nil => exact ⟨rfl, rfl⟩
  | cons x xs ih => simp [State.spadPuts, ih]

@[simp] theorem boot_panel_spadWrite (c off : Nat) (bs : List Byte) :
    (s.spadWrite c off bs).boot = s.boot ∧ (s.spadWrite c off bs).panel = s.panel := by simp [State.spadWrite]

@[simp] theorem boot_panel_spadSetWord (c off v : Nat) :
    (s.spadSetWord c off v).boot = s.boot ∧ (s.spadSetWord c off v).panel = s.panel := by simp [State.spadSetWord]

@[simp] theorem boot_panel_flashClear (k : Nat) :
    (s.flashClear k).boot = s.boot ∧ (s.flashClear k).panel = s.panel := ⟨rfl, rfl⟩

@[simp] theorem boot_panel_countPoison (c n : Nat) :
    (s.countPoison c n).boot = s.boot ∧ (s.countPoison c n).panel = s.panel := ⟨rfl, rfl⟩

@[simp] theorem boot_panel_calm (sec : Nat) : (s.calm sec).boot = s.boot ∧ (s.calm sec).panel = s.panel := ⟨rfl, rfl⟩

@[simp] theorem boot_panel_markPoison (sec : Nat) :
    (s.markPoison sec).boot = s.boot ∧ (s.markPoison sec).panel = s.panel := ⟨rfl, rfl⟩

@[simp] theorem boot_panel_dropPoison (sec : Nat) :
    (s.dropPoison sec).boot = s.boot ∧ (s.dropPoison sec).panel = s.panel := ⟨rfl, rfl⟩

@[simp] theorem boot_panel_memRecord (code a : Nat) :
    (s.memRecord code a).boot = s.boot ∧ (s.memRecord code a).panel = s.panel := by
  simp only [State.memRecord]
  split <;> simp

@[simp] theorem boot_panel_corrected (a : Nat) :
    (s.corrected a).boot = s.boot ∧ (s.corrected a).panel = s.panel := by simp [State.corrected]

@[simp] theorem boot_panel_uncorrected (a : Nat) :
    (s.uncorrected a).boot = s.boot ∧ (s.uncorrected a).panel = s.panel := by simp [State.uncorrected]

@[simp] theorem boot_panel_integrityAlarm (p ipa : Nat) :
    (s.integrityAlarm p ipa).boot = s.boot ∧ (s.integrityAlarm p ipa).panel = s.panel := by simp [State.integrityAlarm]

@[simp] theorem boot_panel_loseLine (sec : Nat) :
    (s.loseLine sec).boot = s.boot ∧ (s.loseLine sec).panel = s.panel := by simp [State.loseLine]

@[simp] theorem boot_panel_writeBack (sec : Nat) :
    (s.writeBack sec).boot = s.boot ∧ (s.writeBack sec).panel = s.panel := by simp [State.writeBack]

@[simp] theorem boot_panel_evict (sec : Nat) (l : CacheLine) :
    (s.evict sec l).boot = s.boot ∧ (s.evict sec l).panel = s.panel := by
  simp only [State.evict]
  (repeat' split) <;> simp

theorem boot_panel_takeWay {s t : State} {a w : Nat} {ways : List Nat} (h : s.takeWay a ways = some (w, t)) :
    t.boot = s.boot ∧ t.panel = s.panel := by
  simp only [State.takeWay] at h
  split at h
  · cases h
    exact ⟨rfl, rfl⟩
  · split at h
    · cases h
      simp
    · cases h

@[simp] theorem boot_panel_touchLine (a p valid dirty : Nat) :
    (s.touchLine a p valid dirty).boot = s.boot ∧ (s.touchLine a p valid dirty).panel = s.panel := by
  simp only [State.touchLine]
  split
  · simp
  · split
    · next h => simpa using boot_panel_takeWay h
    · exact ⟨rfl, rfl⟩

@[simp] theorem boot_panel_charge (g p cost n : Nat) (paid : Bool) :
    (s.charge g p cost n paid).boot = s.boot ∧ (s.charge g p cost n paid).panel = s.panel := by simp [State.charge]

@[simp] theorem boot_panel_stackRead (p ipa a n : Nat) (e : Ecc) (paid : Bool) :
    (s.stackRead p ipa a n e paid).1.boot = s.boot ∧ (s.stackRead p ipa a n e paid).1.panel = s.panel := by
  simp only [State.stackRead]
  (repeat' split) <;> simp

@[simp] theorem boot_panel_dropBad (a : Nat) (l : CacheLine) :
    (s.dropBad a l).boot = s.boot ∧ (s.dropBad a l).panel = s.panel := by simp [State.dropBad]

@[simp] theorem boot_panel_homeRead (p ipa a n : Nat) (e : Ecc) (paid : Bool) :
    (s.homeRead p ipa a n e paid).1.boot = s.boot ∧ (s.homeRead p ipa a n e paid).1.panel = s.panel := by
  simp only [State.homeRead]
  (repeat' split) <;> simp

@[simp] theorem boot_panel_storeSector (p ipa a : Nat) (bs : List Byte) :
    (s.storeSector p ipa a bs).boot = s.boot ∧ (s.storeSector p ipa a bs).panel = s.panel := by simp [State.storeSector]

@[simp] theorem boot_panel_stackWrite (p ipa a : Nat) (bs : List Byte) (e : Ecc) :
    (s.stackWrite p ipa a bs e).1.boot = s.boot ∧ (s.stackWrite p ipa a bs e).1.panel = s.panel := by simp [State.stackWrite]

@[simp] theorem boot_panel_partWrite (p ipa a : Nat) (bs : List Byte) (e : Ecc) (paid : Bool) :
    (s.partWrite p ipa a bs e paid).1.boot = s.boot ∧ (s.partWrite p ipa a bs e paid).1.panel = s.panel := by
  simp only [State.partWrite]
  (repeat' split) <;> simp

@[simp] theorem boot_panel_healLine (sec : Nat) : (s.healLine sec).boot = s.boot ∧ (s.healLine sec).panel = s.panel := by
  simp only [State.healLine]
  split <;> simp

@[simp] theorem boot_panel_homeWrite (p ipa a : Nat) (bs : List Byte) (e : Ecc) (paid : Bool) :
    (s.homeWrite p ipa a bs e paid).1.boot = s.boot ∧ (s.homeWrite p ipa a bs e paid).1.panel = s.panel := by
  simp only [State.homeWrite]
  (repeat' split) <;> simp

@[simp] theorem boot_panel_takeTokens (port cls g n : Nat) :
    (s.takeTokens port cls g n).boot = s.boot ∧ (s.takeTokens port cls g n).panel = s.panel := by simp [State.takeTokens]

@[simp] theorem boot_panel_hostGoes (fn a : Nat) :
    (s.hostGoes fn a).boot = s.boot ∧ (s.hostGoes fn a).panel = s.panel := by simp [State.hostGoes]

@[simp] theorem boot_panel_stage2At (d p ipa : Nat) :
    (s.stage2At d p ipa).1.boot = s.boot ∧ (s.stage2At d p ipa).1.panel = s.panel := by
  simp only [State.stage2At]
  (repeat' split) <;> simp

@[simp] theorem boot_panel_readTable (d p ipa : Nat) :
    (s.readTable d p ipa).1.boot = s.boot ∧ (s.readTable d p ipa).1.panel = s.panel := by
  simp only [State.readTable]
  split
  · next h => simp [fst_of_eq h]
  · next s1 t h =>
    have h1 : s1.boot = s.boot ∧ s1.panel = s.panel := by simp [fst_of_eq h]
    split
    · exact h1
    · split
      · split
        · simp [h1]
        · exact h1
      · split <;> next h2 => simp [fst_of_eq h2, h1]

@[simp] theorem boot_panel_s1Walk (d p va fuel table : Nat) :
    (s.s1Walk d p va fuel table).1.boot = s.boot ∧ (s.s1Walk d p va fuel table).1.panel = s.panel := by
  induction fuel generalizing s table with
  | zero => exact ⟨rfl, rfl⟩
  | succ n ih =>
    simp only [State.s1Walk]
    split
    · next h => simp [fst_of_eq h]
    · next h => simp [ih, fst_of_eq h]

@[simp] theorem boot_panel_walk (d p va : Nat) (write : Bool) :
    (s.walk d p va write).1.boot = s.boot ∧ (s.walk d p va write).1.panel = s.panel := by
  simp only [State.walk]
  split
  · exact ⟨rfl, rfl⟩
  · split
    · next h => simp [fst_of_eq h]
    · next s1 a h =>
      have h1 : s1.boot = s.boot ∧ s1.panel = s.panel := by simp [fst_of_eq h]
      split
      · split
        · exact h1
        · split <;> next h2 => simp [fst_of_eq h2, h1]
      · split
        · exact h1
        · split <;> next h2 => simp [fst_of_eq h2, h1]

@[simp] theorem boot_panel_xltFault (p port : Nat) (write : Bool) (f : XFault) :
    (s.xltFault p port write f).boot = s.boot ∧ (s.xltFault p port write f).panel = s.panel := by simp [State.xltFault]

@[simp] theorem boot_panel_fillL1 (e : Nat) (x : XltEntry) :
    (s.fillL1 e x).boot = s.boot ∧ (s.fillL1 e x).panel = s.panel := by simp [State.fillL1]

@[simp] theorem boot_panel_translate (e p va : Nat) (write : Bool) :
    (s.translate e p va write).1.boot = s.boot ∧ (s.translate e p va write).1.panel = s.panel := by
  simp only [State.translate]
  split
  · simp
  · split
    · simp
    · split <;> next h => simp [fst_of_eq h]

@[simp] theorem boot_panel_dropXlt (f : XltEntry → Bool) :
    (s.dropXlt f).boot = s.boot ∧ (s.dropXlt f).panel = s.panel := ⟨rfl, rfl⟩

@[simp] theorem boot_panel_spend (e p a n : Nat) :
    (s.spend e p a n).boot = s.boot ∧ (s.spend e p a n).panel = s.panel := by simp [State.spend]

@[simp] theorem boot_panel_readVa (e p va n fuel : Nat) :
    (s.readVa e p va n fuel).1.boot = s.boot ∧ (s.readVa e p va n fuel).1.panel = s.panel := by
  induction fuel generalizing s va n with
  | zero => exact ⟨rfl, rfl⟩
  | succ k ih =>
    simp only [State.readVa]
    split
    · exact ⟨rfl, rfl⟩
    · split
      · next h => simp [fst_of_eq h]
      · next s1 x h =>
        have h1 : s1.boot = s.boot ∧ s1.panel = s.panel := by simp [fst_of_eq h]
        split
        · split <;> simp [ih, h1]
        · split <;> next h2 => simp [ih, fst_of_eq h2, h1]

@[simp] theorem boot_panel_writeVa (e p va : Nat) (bs : List Byte) (fuel : Nat) :
    (s.writeVa e p va bs fuel).1.boot = s.boot ∧ (s.writeVa e p va bs fuel).1.panel = s.panel := by
  induction fuel generalizing s va bs with
  | zero => exact ⟨rfl, rfl⟩
  | succ k ih =>
    simp only [State.writeVa]
    split
    · exact ⟨rfl, rfl⟩
    · split
      · next h => simp [fst_of_eq h]
      · next s1 x h =>
        have h1 : s1.boot = s.boot ∧ s1.panel = s.panel := by simp [fst_of_eq h]
        split
        · split <;> simp [ih, h1]
        · split <;> next h2 => simp [ih, fst_of_eq h2, h1]

@[simp] theorem boot_panel_takeRegions (p g : Nat) (a4 : List Nat) :
    (s.takeRegions p g a4).boot = s.boot ∧ (s.takeRegions p g a4).panel = s.panel := by
  induction a4 generalizing s p g with
  | nil => exact ⟨rfl, rfl⟩
  | cons x xs ih => simp [State.takeRegions, ih]

@[simp] theorem boot_panel_giveTakings (g : Nat) (a3 : List Taking) :
    (s.giveTakings g a3).boot = s.boot ∧ (s.giveTakings g a3).panel = s.panel := by
  induction a3 generalizing s g with
  | nil => exact ⟨rfl, rfl⟩
  | cons x xs ih => simp [State.giveTakings, ih]

@[simp] theorem boot_panel_wakeGroup (g : Nat) :
    (s.wakeGroup g).boot = s.boot ∧ (s.wakeGroup g).panel = s.panel := by simp [State.wakeGroup]

@[simp] theorem boot_panel_dropFlit (off : Nat) :
    (s.dropFlit off).boot = s.boot ∧ (s.dropFlit off).panel = s.panel := by simp [State.dropFlit]

@[simp] theorem boot_panel_freeRx (f : Flit) : (s.freeRx f).boot = s.boot ∧ (s.freeRx f).panel = s.panel := by
  simp only [State.freeRx]
  split <;> simp

@[simp] theorem boot_panel_freeRxs (a2 : List LFlit) : (s.freeRxs a2).boot = s.boot ∧ (s.freeRxs a2).panel = s.panel := by
  induction a2 generalizing s  with
  | nil => exact ⟨rfl, rfl⟩
  | cons x xs ih => simp [State.freeRxs, ih]

@[simp] theorem boot_panel_sendBundle (i : Nat) (fs : List LFlit) :
    (s.sendBundle i fs).boot = s.boot ∧ (s.sendBundle i fs).panel = s.panel := ⟨rfl, rfl⟩

@[simp] theorem boot_panel_pumpLink (i a3 : Nat) : (s.pumpLink i a3).boot = s.boot ∧ (s.pumpLink i a3).panel = s.panel := by
  induction a3 generalizing s i with
  | zero => exact ⟨rfl, rfl⟩
  | succ n ih => simp [State.pumpLink, ih]

@[simp] theorem boot_panel_pump (i : Nat) : (s.pump i).boot = s.boot ∧ (s.pump i).panel = s.panel := by simp [State.pump]

@[simp] theorem boot_panel_queueOn (i : Nat) (f : Flit) :
    (s.queueOn i f).boot = s.boot ∧ (s.queueOn i f).panel = s.panel := by simp [State.queueOn]

@[simp] theorem boot_panel_deliver (f : Flit) :
    (s.deliver f).boot = s.boot ∧ (s.deliver f).panel = s.panel := by simp [State.deliver]

@[simp] theorem boot_panel_route (f : Flit) : (s.route f).boot = s.boot ∧ (s.route f).panel = s.panel := by
  simp only [State.route]
  (repeat' split) <;> simp

@[simp] theorem boot_panel_sendFlit (f : Flit) :
    (s.sendFlit f).boot = s.boot ∧ (s.sendFlit f).panel = s.panel := by simp [State.sendFlit]

@[simp] theorem boot_panel_upset (c : Nat) (a3 : Option (Fin 1048576)) :
    (s.upset c a3).boot = s.boot ∧ (s.upset c a3).panel = s.panel := by
  simp only [State.upset]
  split <;> simp

@[simp] theorem boot_panel_countRefuse (code : Nat) :
    (s.countRefuse code).boot = s.boot ∧ (s.countRefuse code).panel = s.panel := ⟨rfl, rfl⟩

@[simp] theorem boot_panel_sendFlits (a2 : List Flit) : (s.sendFlits a2).boot = s.boot ∧ (s.sendFlits a2).panel = s.panel := by
  induction a2 generalizing s  with
  | nil => exact ⟨rfl, rfl⟩
  | cons x xs ih => simp [State.sendFlits, ih]

@[simp] theorem boot_panel_sendWin (r : WinReq) :
    (s.sendWin r).boot = s.boot ∧ (s.sendWin r).panel = s.panel := by simp [State.sendWin]

@[simp] theorem boot_panel_pumpWinQ (kept a3 : List WinReq) :
    (s.pumpWinQ kept a3).boot = s.boot ∧ (s.pumpWinQ kept a3).panel = s.panel := by
  induction a3 generalizing s kept with
  | nil => exact ⟨rfl, rfl⟩
  | cons x xs ih => simp [State.pumpWinQ, ih]

@[simp] theorem boot_panel_pumpWin : s.pumpWin.boot = s.boot ∧ s.pumpWin.panel = s.panel := by simp [State.pumpWin]

@[simp] theorem boot_panel_xRead (x : Xfer) (e space a n : Nat) :
    (s.xRead x e space a n).1.boot = s.boot ∧ (s.xRead x e space a n).1.panel = s.panel := by
  simp only [State.xRead]
  (repeat' split) <;> simp

@[simp] theorem boot_panel_xWrite (x : Xfer) (e space a : Nat) (bs : List Byte) :
    (s.xWrite x e space a bs).1.boot = s.boot ∧ (s.xWrite x e space a bs).1.panel = s.panel := by
  simp only [State.xWrite]
  (repeat' split) <;> simp

@[simp] theorem boot_panel_mv_put (x : Xfer) (e space a : Nat) (bs : List Byte) :
    (m.put x e space a bs).s.boot = m.s.boot ∧ (m.put x e space a bs).s.panel = m.s.panel := by
  simp only [Mv.put]
  split <;> simp

@[simp] theorem boot_panel_mv_putRow (x : Xfer) (e : Nat) (dd : Desc) (df : Fmt) (row : Nat)
    (r : List Byte × List Byte × Counts) :
    (m.putRow x e dd df row r).s.boot = m.s.boot ∧ (m.putRow x e dd df row r).s.panel = m.s.panel := by
  simp only [Mv.putRow]
  split <;> simp

@[simp] theorem boot_panel_mv_getRow (x : Xfer) (e : Nat) (sd : Desc) (sf : Fmt) (row : Nat) :
    (m.getRow x e sd sf row).1.s.boot = m.s.boot ∧ (m.getRow x e sd sf row).1.s.panel = m.s.panel := by
  simp only [Mv.getRow]
  split
  · exact ⟨rfl, rfl⟩
  · split
    · next s1 bs h =>
      have h1 : s1.boot = m.s.boot ∧ s1.panel = m.s.panel := by simp [fst_of_eq h]
      split <;> next h2 => simp [fst_of_eq h2, h1]
    · next h => simp [fst_of_eq h]

@[simp] theorem boot_panel_mv_moveRow (x : Xfer) (e : Nat) (sd dd : Desc) (sf df : Fmt) (srow drow idx : Nat) :
    (m.moveRow x e sd dd sf df srow drow idx).s.boot = m.s.boot ∧
      (m.moveRow x e sd dd sf df srow drow idx).s.panel = m.s.panel := by
  simp [Mv.moveRow]

@[simp] theorem boot_panel_mv_moveRows (x : Xfer) (e : Nat) (sd dd : Desc) (sf df : Fmt) (base i n : Nat) :
    (m.moveRows x e sd dd sf df base i n).s.boot = m.s.boot ∧
      (m.moveRows x e sd dd sf df base i n).s.panel = m.s.panel := by
  induction n generalizing m i with
  | zero => exact ⟨rfl, rfl⟩
  | succ n ih =>
    simp only [Mv.moveRows]
    split <;> simp [ih]

@[simp] theorem boot_panel_mv_readRows (x : Xfer) (e : Nat) (sd : Desc) (sf : Fmt) (i n : Nat) :
    (m.readRows x e sd sf i n).1.s.boot = m.s.boot ∧ (m.readRows x e sd sf i n).1.s.panel = m.s.panel := by
  induction n generalizing m i with
  | zero => exact ⟨rfl, rfl⟩
  | succ n ih => simp [Mv.readRows, ih]

@[simp] theorem boot_panel_mv_putTrans (x : Xfer) (e : Nat) (sd dd : Desc) (sf df : Fmt)
    (rows : List (List Byte × List Byte)) (base j n : Nat) :
    (m.putTrans x e sd dd sf df rows base j n).s.boot = m.s.boot ∧
      (m.putTrans x e sd dd sf df rows base j n).s.panel = m.s.panel := by
  induction n generalizing m j with
  | zero => exact ⟨rfl, rfl⟩
  | succ n ih =>
    simp only [Mv.putTrans]
    split <;> simp [ih]

@[simp] theorem boot_panel_mv_move2d (x : Xfer) (e : Nat) (sd dd : Desc) (sf df : Fmt) (base : Nat) :
    (m.move2d x e sd dd sf df base).s.boot = m.s.boot ∧
      (m.move2d x e sd dd sf df base).s.panel = m.s.panel := by
  simp only [Mv.move2d]
  split <;> simp

@[simp] theorem boot_panel_mv_repeats (x : Xfer) (e : Nat) (rep : Repeat) (sf df : Fmt) (r n : Nat) :
    (m.repeats x e rep sf df r n).s.boot = m.s.boot ∧
      (m.repeats x e rep sf df r n).s.panel = m.s.panel := by
  induction n generalizing m r with
  | zero => exact ⟨rfl, rfl⟩
  | succ n ih =>
    simp only [Mv.repeats]
    (repeat' split) <;> simp [ih]

@[simp] theorem boot_panel_mv_gather (x : Xfer) (e : Nat) (sf df : Fmt) (i : Nat) (l : List Nat) :
    (m.gather x e sf df i l).s.boot = m.s.boot ∧ (m.gather x e sf df i l).s.panel = m.s.panel := by
  induction l generalizing m i with
  | nil => exact ⟨rfl, rfl⟩
  | cons n ns ih =>
    simp only [Mv.gather]
    (repeat' split) <;> simp [ih]

@[simp] theorem boot_panel_mv_scatter (x : Xfer) (e : Nat) (sf df : Fmt) (i : Nat) (l : List Nat) :
    (m.scatter x e sf df i l).s.boot = m.s.boot ∧ (m.scatter x e sf df i l).s.panel = m.s.panel := by
  induction l generalizing m i with
  | nil => exact ⟨rfl, rfl⟩
  | cons n ns ih =>
    simp only [Mv.scatter]
    (repeat' split) <;> simp [ih]

@[simp] theorem boot_panel_mv_direct (x : Xfer) (e : Nat) (sf : Fmt) (i : Nat) (l : List Nat) :
    (m.direct x e sf i l).s.boot = m.s.boot ∧ (m.direct x e sf i l).s.panel = m.s.panel := by
  induction l generalizing m i with
  | nil => exact ⟨rfl, rfl⟩
  | cons n ns ih =>
    simp only [Mv.direct]
    (repeat' split) <;> simp [ih]

@[simp] theorem boot_panel_modXfer (e core seq : Nat) (f : Xfer → Xfer) :
    (s.modXfer e core seq f).boot = s.boot ∧ (s.modXfer e core seq f).panel = s.panel := ⟨rfl, rfl⟩

@[simp] theorem boot_panel_mv_close (x : Xfer) (e : Nat) :
    (m.close x e).boot = m.s.boot ∧ (m.close x e).panel = m.s.panel := by
  simp [Mv.close]

@[simp] theorem boot_panel_leaveOpen (x : Xfer) (e : Nat) (a4 : List (Nat × Nat × Nat)) :
    (s.leaveOpen x e a4).boot = s.boot ∧ (s.leaveOpen x e a4).panel = s.panel := by
  induction a4 generalizing s x e with
  | nil => exact ⟨rfl, rfl⟩
  | cons x xs ih => simp [State.leaveOpen, ih]

@[simp] theorem boot_panel_mv_rest (x : Xfer) (e : Nat) (rs : List (Nat × Nat × Nat)) :
    (m.rest x e rs).s.boot = m.s.boot ∧ (m.rest x e rs).s.panel = m.s.panel := by
  simp only [Mv.rest]
  split <;> simp

@[simp] theorem boot_panel_refuseXfer (x : Xfer) (e st : Nat) :
    (s.refuseXfer x e st).boot = s.boot ∧ (s.refuseXfer x e st).panel = s.panel := by simp [State.refuseXfer]

@[simp] theorem boot_panel_runDirect (x : Xfer) (e : Nat) :
    (s.runDirect x e).boot = s.boot ∧ (s.runDirect x e).panel = s.panel := by
  simp only [State.runDirect]
  split <;> simp

@[simp] theorem boot_panel_runXfer (x : Xfer) (e : Nat) : (s.runXfer x e).boot = s.boot ∧ (s.runXfer x e).panel = s.panel := by
  simp only [State.runXfer]
  (repeat' split) <;> simp

@[simp] theorem boot_panel_fetchRanges (x : Xfer) (e : Nat) (l : List (Nat × Nat)) :
    (s.fetchRanges x e l).boot = s.boot ∧ (s.fetchRanges x e l).panel = s.panel := by
  induction l generalizing s with
  | nil => simp [State.fetchRanges]
  | cons q qs ih =>
    simp only [State.fetchRanges]
    split <;> simp [ih]

@[simp] theorem boot_panel_withDescs (c : Nat) (w : StepWord) (f : Desc → Desc → State)
    (hf : ∀ sd dd, (f sd dd).boot = s.boot ∧ (f sd dd).panel = s.panel) :
    (s.withDescs c w f).boot = s.boot ∧ (s.withDescs c w f).panel = s.panel := by
  simp only [State.withDescs]
  split <;> simp [hf]

@[simp] theorem boot_panel_withSeed (c : Nat) (w : StepWord) (ds : List Desc) (f : Nat → State)
    (hf : ∀ seed, (f seed).boot = s.boot ∧ (f seed).panel = s.panel) :
    (s.withSeed c w ds f).boot = s.boot ∧ (s.withSeed c w ds f).panel = s.panel := by
  simp only [State.withSeed]
  (repeat' split) <;> simp [hf]

@[simp] theorem boot_panel_sendRequests (x : Xfer) (e self : Nat) (entries : List Nat) (count : Bool) (a7 : List Nat) :
    (s.sendRequests x e self entries count a7).boot = s.boot ∧ (s.sendRequests x e self entries count a7).panel = s.panel := by
  induction a7 generalizing s x e self entries count with
  | nil => exact ⟨rfl, rfl⟩
  | cons x xs ih => simp [State.sendRequests, ih]

@[simp] theorem boot_panel_spillRequest (x : Xfer) (e : Nat) (d : Disp) :
    (s.spillRequest x e d).1.boot = s.boot ∧ (s.spillRequest x e d).1.panel = s.panel := by simp [State.spillRequest]

@[simp] theorem boot_panel_openDispatch (x : Xfer) (e : Nat) (l : Desc) (st : Nat) :
    (s.openDispatch x e l st).boot = s.boot ∧ (s.openDispatch x e l st).panel = s.panel := by simp [State.openDispatch]

@[simp] theorem boot_panel_runDispatch (x : Xfer) (e : Nat) :
    (s.runDispatch x e).boot = s.boot ∧ (s.runDispatch x e).panel = s.panel := by
  simp only [State.runDispatch]
  split <;> simp

@[simp] theorem boot_panel_runBucketCount (x : Xfer) (e : Nat) :
    (s.runBucketCount x e).boot = s.boot ∧ (s.runBucketCount x e).panel = s.panel := by simp [State.runBucketCount]

@[simp] theorem boot_panel_takePages (p : Nat) (a3 : List (Nat × Nat)) :
    (s.takePages p a3).boot = s.boot ∧ (s.takePages p a3).panel = s.panel := by
  induction a3 generalizing s p with
  | nil => exact ⟨rfl, rfl⟩
  | cons x xs ih => simp [State.takePages, ih]

@[simp] theorem boot_panel_runAlloc (x : Xfer) (e : Nat) :
    (s.runAlloc x e).boot = s.boot ∧ (s.runAlloc x e).panel = s.panel := by
  simp only [State.runAlloc]
  split <;> simp

@[simp] theorem boot_panel_freeSlot (p i pg : Nat) :
    (s.freeSlot p i pg).boot = s.boot ∧ (s.freeSlot p i pg).panel = s.panel := ⟨rfl, rfl⟩

@[simp] theorem boot_panel_freeOne (p : Nat) (r : State × Nat) (va : Nat) :
    (State.freeOne p r va).1.boot = r.1.boot ∧ (State.freeOne p r va).1.panel = r.1.panel := by
  simp only [State.freeOne]
  (repeat' split) <;> simp

@[simp] theorem boot_panel_freeList (p : Nat) (vs : List Nat) :
    (s.freeList p vs).1.boot = s.boot ∧ (s.freeList p vs).1.panel = s.panel :=
  List.foldlRecOn (motive := fun r : State × Nat => r.1.boot = s.boot ∧ r.1.panel = s.panel) vs _ ⟨rfl, rfl⟩
    fun _ h _ _ => by simp [h]

@[simp] theorem boot_panel_runFree (x : Xfer) (e : Nat) : (s.runFree x e).boot = s.boot ∧ (s.runFree x e).panel = s.panel := by
  simp only [State.runFree]
  split <;> simp

@[simp] theorem boot_panel_runNow (x : Xfer) (e : Nat) : (s.runNow x e).boot = s.boot ∧ (s.runNow x e).panel = s.panel := by
  simp only [State.runNow]
  split <;> simp

@[simp] theorem boot_panel_runIfFetched (e core seq : Nat) :
    (s.runIfFetched e core seq).boot = s.boot ∧ (s.runIfFetched e core seq).panel = s.panel := by
  simp only [State.runIfFetched]
  split <;> simp

@[simp] theorem boot_panel_beginXfer (x : Xfer) (e : Nat) :
    (s.beginXfer x e).boot = s.boot ∧ (s.beginXfer x e).panel = s.panel := by
  simp only [State.beginXfer]
  (repeat' split) <;> simp

@[simp] theorem boot_panel_pumpEngine (e a3 : Nat) :
    (s.pumpEngine e a3).boot = s.boot ∧ (s.pumpEngine e a3).panel = s.panel := by
  induction a3 generalizing s e with
  | zero => exact ⟨rfl, rfl⟩
  | succ n ih =>
    simp only [State.pumpEngine]
    (repeat' split) <;> simp [ih]

@[simp] theorem boot_panel_startXfer (x : Xfer) (e : Nat) :
    (s.startXfer x e).boot = s.boot ∧ (s.startXfer x e).panel = s.panel := by simp [State.startXfer]

@[simp] theorem boot_panel_startRefused (x : Xfer) (e st : Nat) :
    (s.startRefused x e st).boot = s.boot ∧ (s.startRefused x e st).panel = s.panel := by simp [State.startRefused]

@[simp] theorem boot_panel_startCopy (kind : XferKind) (c e : Nat) (w : StepWord) (n : Nat) :
    (s.startCopy kind c e w n).boot = s.boot ∧ (s.startCopy kind c e w n).panel = s.panel := by
  simp only [State.startCopy]
  (repeat' split) <;> simp

@[simp] theorem boot_panel_startLcopy (c e : Nat) (w : StepWord) (n : Nat) :
    (s.startLcopy c e w n).boot = s.boot ∧ (s.startLcopy c e w n).panel = s.panel := by simp [State.startLcopy]

@[simp] theorem boot_panel_startLs (c e : Nat) (w : StepWord) (n : Nat) :
    (s.startLs c e w n).boot = s.boot ∧ (s.startLs c e w n).panel = s.panel := by simp [State.startLs]

@[simp] theorem boot_panel_startGather (c e : Nat) (w : StepWord) (n : Nat) :
    (s.startGather c e w n).boot = s.boot ∧ (s.startGather c e w n).panel = s.panel := by
  simp only [State.startGather]
  split <;> simp

@[simp] theorem boot_panel_startScatter (c e : Nat) (w : StepWord) (n : Nat) :
    (s.startScatter c e w n).boot = s.boot ∧ (s.startScatter c e w n).panel = s.panel := by
  simp only [State.startScatter]
  refine boot_panel_withDescs s c w _ fun sd dd => ?_
  split
  · simp
  · split
    · split <;> simp
    · simp

@[simp] theorem boot_panel_startBucketCount (c e : Nat) (w : StepWord) (n : Nat) :
    (s.startBucketCount c e w n).boot = s.boot ∧ (s.startBucketCount c e w n).panel = s.panel := by
  simp only [State.startBucketCount]
  split <;> simp

@[simp] theorem boot_panel_startAlloc (c e : Nat) (w : StepWord) (n : Nat) (picks : List (Nat × Nat)) :
    (s.startAlloc c e w n picks).boot = s.boot ∧ (s.startAlloc c e w n picks).panel = s.panel := by
  simp only [State.startAlloc]
  split <;> simp

@[simp] theorem boot_panel_startFree (c e : Nat) (w : StepWord) (n : Nat) :
    (s.startFree c e w n).boot = s.boot ∧ (s.startFree c e w n).panel = s.panel := by
  simp only [State.startFree]
  split <;> simp

@[simp] theorem boot_panel_startStep (c e n : Nat) (w : StepWord) (a6 : XfStep) :
    (s.startStep c e n w a6).boot = s.boot ∧ (s.startStep c e n w a6).panel = s.panel := by
  simp only [State.startStep]
  split <;> simp

@[simp] theorem boot_panel_startHeld (c : Nat) (h : HeldXf) :
    (s.startHeld c h).boot = s.boot ∧ (s.startHeld c h).panel = s.panel := by simp [State.startHeld]

@[simp] theorem boot_panel_pumpHeld (c a3 : Nat) : (s.pumpHeld c a3).boot = s.boot ∧ (s.pumpHeld c a3).panel = s.panel := by
  induction a3 generalizing s c with
  | zero => exact ⟨rfl, rfl⟩
  | succ n ih =>
    simp only [State.pumpHeld]
    (repeat' split) <;> simp [ih]

@[simp] theorem boot_panel_pumpCores (a2 : List Nat) : (s.pumpCores a2).boot = s.boot ∧ (s.pumpCores a2).panel = s.panel := by
  induction a2 generalizing s  with
  | nil => exact ⟨rfl, rfl⟩
  | cons x xs ih => simp [State.pumpCores, ih]

@[simp] theorem boot_panel_refillEngine (e : Nat) :
    (s.refillEngine e).boot = s.boot ∧ (s.refillEngine e).panel = s.panel := by simp [State.refillEngine]

@[simp] theorem boot_panel_rewriteEntry (x : Xfer) (d : Disp) (i b : Nat) :
    (s.rewriteEntry x d i b).boot = s.boot ∧ (s.rewriteEntry x d i b).panel = s.panel := by simp [State.rewriteEntry]

@[simp] theorem boot_panel_mv_putGranted (x : Xfer) (e : Nat) (d : Disp) (dd : Desc) (sf df : Fmt) (slot : Nat) (l : List Nat) :
    (m.putGranted x e d dd sf df slot l).s.boot = m.s.boot ∧
      (m.putGranted x e d dd sf df slot l).s.panel = m.s.panel := by
  induction l generalizing m slot with
  | nil => exact ⟨rfl, rfl⟩
  | cons i is ih =>
    simp only [Mv.putGranted]
    split <;> simp [ih]

@[simp] theorem boot_panel_mv_deferRow (x : Xfer) (e : Nat) (d : Disp) (b : Nat) (sf : Fmt) (i : Nat) :
    (m.deferRow x e d b sf i).1.s.boot = m.s.boot ∧ (m.deferRow x e d b sf i).1.s.panel = m.s.panel := by
  simp only [Mv.deferRow]
  (repeat' split) <;> simp

@[simp] theorem boot_panel_mv_dealWith (x : Xfer) (e : Nat) (d : Disp) (sf : Fmt) (o : Nat × Nat × Nat) :
    (m.dealWith x e d sf o).1.s.boot = m.s.boot ∧ (m.dealWith x e d sf o).1.s.panel = m.s.panel := by
  simp only [Mv.dealWith]
  (repeat' split) <;> simp

@[simp] theorem boot_panel_mv_dealAll (x : Xfer) (e : Nat) (d : Disp) (sf : Fmt) (l : List (Nat × Nat × Nat)) :
    (m.dealAll x e d sf l).1.s.boot = m.s.boot ∧ (m.dealAll x e d sf l).1.s.panel = m.s.panel := by
  induction l generalizing m d with
  | nil => exact ⟨rfl, rfl⟩
  | cons o os ih => simp [Mv.dealAll, ih]

@[simp] theorem boot_panel_cqInterrupt (fn q : Nat) :
    (s.cqInterrupt fn q).boot = s.boot ∧ (s.cqInterrupt fn q).panel = s.panel := by simp [State.cqInterrupt]

@[simp] theorem boot_panel_cqPut (fn q : Nat) (c : CqRec) :
    (s.cqPut fn q c).boot = s.boot ∧ (s.cqPut fn q c).panel = s.panel := by simp [State.cqPut]

@[simp] theorem boot_panel_cqOffer (fn q : Nat) (c : CqRec) :
    (s.cqOffer fn q c).boot = s.boot ∧ (s.cqOffer fn q c).panel = s.panel := by simp [State.cqOffer]

@[simp] theorem boot_panel_refOutcome (fn bit entry code : Nat) (sent : Bool) :
    (s.refOutcome fn bit entry code sent).boot = s.boot
      ∧ (s.refOutcome fn bit entry code sent).panel = s.panel := by simp [State.refOutcome]

@[simp] theorem boot_panel_sendRefs (d : HostDesc) (a3 : List Nat) :
    (s.sendRefs d a3).1.boot = s.boot ∧ (s.sendRefs d a3).1.panel = s.panel := by
  induction a3 generalizing s d with
  | nil => exact ⟨rfl, rfl⟩
  | cons x xs ih => simp [State.sendRefs, ih]

@[simp] theorem boot_panel_finishDesc (d : HostDesc) (status result : Nat) :
    (s.finishDesc d status result).boot = s.boot ∧ (s.finishDesc d status result).panel = s.panel := by simp [State.finishDesc]

@[simp] theorem boot_panel_complete (id status result : Nat) :
    (s.complete id status result).boot = s.boot ∧ (s.complete id status result).panel = s.panel := by
  simp only [State.complete]
  (repeat' split) <;> simp

@[simp] theorem boot_panel_endRefused (fn r a4 : Nat) :
    (s.endRefused fn r a4).boot = s.boot ∧ (s.endRefused fn r a4).panel = s.panel := by
  induction a4 generalizing s fn r with
  | zero => exact ⟨rfl, rfl⟩
  | succ n ih =>
    simp only [State.endRefused]
    (repeat' split) <;> simp [ih]

@[simp] theorem boot_panel_ringGo (fn r : Nat) :
    (s.ringGo fn r).boot = s.boot ∧ (s.ringGo fn r).panel = s.panel := by simp [State.ringGo]

@[simp] theorem boot_panel_endDesc (id status result : Nat) :
    (s.endDesc id status result).boot = s.boot ∧ (s.endDesc id status result).panel = s.panel := by
  simp only [State.endDesc]
  split <;> simp

@[simp] theorem boot_panel_gop (p tree op dir seq link label idx units off : Nat) (body : List Byte) :
    (s.gop p tree op dir seq link label idx units off body).boot = s.boot
      ∧ (s.gop p tree op dir seq link label idx units off body).panel = s.panel := by simp [State.gop]

@[simp] theorem boot_panel_endHostWaits (status result : Nat) (a4 : List Waiter) :
    (s.endHostWaits status result a4).boot = s.boot ∧ (s.endHostWaits status result a4).panel = s.panel := by
  fun_induction State.endHostWaits s status result a4 <;> simp_all

@[simp] theorem boot_panel_tellMembers (p kind a b : Nat) :
    (s.tellMembers p kind a b).boot = s.boot ∧ (s.tellMembers p kind a b).panel = s.panel := ⟨rfl, rfl⟩

@[simp] theorem boot_panel_abortCopies (a2 : List (Nat × Xfer)) :
    (s.abortCopies a2).boot = s.boot ∧ (s.abortCopies a2).panel = s.panel := by
  induction a2 generalizing s  with
  | nil => exact ⟨rfl, rfl⟩
  | cons x xs ih =>
    simp only [State.abortCopies]
    (repeat' split) <;> simp [ih]

@[simp] theorem boot_panel_stopXfers (a2 : List (Nat × Xfer)) :
    (s.stopXfers a2).boot = s.boot ∧ (s.stopXfers a2).panel = s.panel := by
  induction a2 generalizing s  with
  | nil => exact ⟨rfl, rfl⟩
  | cons x xs ih => simp [State.stopXfers, ih]

@[simp] theorem boot_panel_refillAll (a2 : List Nat) : (s.refillAll a2).boot = s.boot ∧ (s.refillAll a2).panel = s.panel := by
  induction a2 generalizing s  with
  | nil => exact ⟨rfl, rfl⟩
  | cons x xs ih => simp [State.refillAll, ih]

@[simp] theorem boot_panel_dropXfers (f : Xfer → Bool) :
    (s.dropXfers f).1.boot = s.boot ∧ (s.dropXfers f).1.panel = s.panel := by simp [State.dropXfers]

@[simp] theorem boot_panel_pullXfers (f : Xfer → Bool) :
    (s.pullXfers f).1.boot = s.boot ∧ (s.pullXfers f).1.panel = s.panel := by simp [State.pullXfers]

@[simp] theorem boot_panel_removeDesc (d : HostDesc) : (s.removeDesc d).boot = s.boot ∧ (s.removeDesc d).panel = s.panel := by
  simp only [State.removeDesc]
  (repeat' split) <;> simp

@[simp] theorem boot_panel_removeDescs (a2 : List HostDesc) :
    (s.removeDescs a2).1.boot = s.boot ∧ (s.removeDescs a2).1.panel = s.panel := by
  induction a2 generalizing s  with
  | nil => exact ⟨rfl, rfl⟩
  | cons x xs ih =>
    simp only [State.removeDescs]
    (repeat' split) <;> simp [ih]

@[simp] theorem boot_panel_ctxRemove (v h cause : Nat) :
    (s.ctxRemove v h cause).1.boot = s.boot ∧ (s.ctxRemove v h cause).1.panel = s.panel := by simp [State.ctxRemove]

@[simp] theorem boot_panel_ctxRemoves (v cause : Nat) (a4 : List Nat) :
    (s.ctxRemoves v cause a4).boot = s.boot ∧ (s.ctxRemoves v cause a4).panel = s.panel := by
  induction a4 generalizing s v cause with
  | nil => exact ⟨rfl, rfl⟩
  | cons x xs ih => simp [State.ctxRemoves, ih]

@[simp] theorem boot_panel_tdiTo (v : Nat) (st : TdiSt) :
    (s.tdiTo v st).boot = s.boot ∧ (s.tdiTo v st).panel = s.panel := by simp [State.tdiTo]

@[simp] theorem boot_panel_tdiFail (v : Nat) :
    (s.tdiFail v).boot = s.boot ∧ (s.tdiFail v).panel = s.panel := by simp [State.tdiFail]

@[simp] theorem boot_panel_endTenants (p : Nat) :
    (s.endTenants p).boot = s.boot ∧ (s.endTenants p).panel = s.panel := ⟨rfl, rfl⟩

@[simp] theorem boot_panel_sendEvents (a2 : List McEvent) :
    (s.sendEvents a2).boot = s.boot ∧ (s.sendEvents a2).panel = s.panel := by
  induction a2 generalizing s  with
  | nil => exact ⟨rfl, rfl⟩
  | cons x xs ih => simp [State.sendEvents, ih]

@[simp] theorem boot_panel_mctpEvent (code object : Nat) :
    (s.mctpEvent code object).boot = s.boot ∧ (s.mctpEvent code object).panel = s.panel := by
  simp only [State.mctpEvent]
  (repeat' split) <;> simp

@[simp] theorem boot_panel_setSt (p : Nat) (st : PartSt) :
    (s.setSt p st).boot = s.boot ∧ (s.setSt p st).panel = s.panel := by simp [State.setSt]

@[simp] theorem boot_panel_endBinds (code epoch : Nat) (cat : List Byte) (hash : Bool) (a6 : List (Nat × Nat)) :
    (s.endBinds code epoch cat hash a6).boot = s.boot ∧ (s.endBinds code epoch cat hash a6).panel = s.panel := by
  induction a6 generalizing s code epoch cat hash with
  | nil => exact ⟨rfl, rfl⟩
  | cons x xs ih => simp [State.endBinds, ih]

@[simp] theorem boot_panel_mctpBindEnd (seqs : List Nat) (comp code : Nat) :
    (s.mctpBindEnd seqs comp code).boot = s.boot ∧ (s.mctpBindEnd seqs comp code).panel = s.panel := by simp [State.mctpBindEnd]

@[simp] theorem boot_panel_opEnd (p code : Nat) : (s.opEnd p code).boot = s.boot ∧ (s.opEnd p code).panel = s.panel := by
  simp only [State.opEnd]
  split <;> simp

@[simp] theorem boot_panel_revokeWins (f : InWin → Bool) (a3 : List Nat) :
    (s.revokeWins f a3).1.boot = s.boot ∧ (s.revokeWins f a3).1.panel = s.panel := by
  induction a3 generalizing s f with
  | nil => exact ⟨rfl, rfl⟩
  | cons x xs ih => simp [State.revokeWins, ih]

@[simp] theorem boot_panel_freePool (p : Nat) : (s.freePool p).boot = s.boot ∧ (s.freePool p).panel = s.panel := ⟨rfl, rfl⟩

@[simp] theorem boot_panel_dropRegion (q : Nat) :
    (s.dropRegion q).boot = s.boot ∧ (s.dropRegion q).panel = s.panel := ⟨rfl, rfl⟩

@[simp] theorem boot_panel_dropRegions (a2 : List Nat) :
    (s.dropRegions a2).boot = s.boot ∧ (s.dropRegions a2).panel = s.panel := by
  induction a2 generalizing s  with
  | nil => exact ⟨rfl, rfl⟩
  | cons x xs ih => simp [State.dropRegions, ih]

@[simp] theorem boot_panel_dropGroup (p g : Nat) :
    (s.dropGroup p g).boot = s.boot ∧ (s.dropGroup p g).panel = s.panel := by simp [State.dropGroup]

@[simp] theorem boot_panel_dropGroups (p : Nat) (a3 : List Nat) :
    (s.dropGroups p a3).boot = s.boot ∧ (s.dropGroups p a3).panel = s.panel := by
  induction a3 generalizing s p with
  | nil => exact ⟨rfl, rfl⟩
  | cons x xs ih => simp [State.dropGroups, ih]

@[simp] theorem boot_panel_dropUpdate (p : Nat) :
    (s.dropUpdate p).boot = s.boot ∧ (s.dropUpdate p).panel = s.panel := by simp [State.dropUpdate]

@[simp] theorem boot_panel_takeSample (p slot : Nat) (running : Bool) (hang : Option Nat) :
    (s.takeSample p slot running hang).boot = s.boot ∧ (s.takeSample p slot running hang).panel = s.panel := by
  simp only [State.takeSample]
  (repeat' split) <;> simp

@[simp] theorem boot_panel_calmObjs (a2 : List Nat) : (s.calmObjs a2).boot = s.boot ∧ (s.calmObjs a2).panel = s.panel := by
  induction a2 generalizing s  with
  | nil => exact ⟨rfl, rfl⟩
  | cons x xs ih => simp [State.calmObjs, ih]

@[simp] theorem boot_panel_restTxns (p : Nat) : (s.restTxns p).boot = s.boot ∧ (s.restTxns p).panel = s.panel := ⟨rfl, rfl⟩

@[simp] theorem boot_panel_abortQueue (a2 : List Queued) :
    (s.abortQueue a2).boot = s.boot ∧ (s.abortQueue a2).panel = s.panel := by
  induction a2 generalizing s  with
  | nil => exact ⟨rfl, rfl⟩
  | cons x xs ih => simp [State.abortQueue, ih]

@[simp] theorem boot_panel_flashAll (a2 : List Nat) : (s.flashAll a2).boot = s.boot ∧ (s.flashAll a2).panel = s.panel := by
  induction a2 generalizing s  with
  | nil => exact ⟨rfl, rfl⟩
  | cons x xs ih => simp [State.flashAll, ih]

@[simp] theorem boot_panel_removeWork (p : Nat) :
    (s.removeWork p).boot = s.boot ∧ (s.removeWork p).panel = s.panel := by simp [State.removeWork]

@[simp] theorem boot_panel_resetLocal (p : Nat) (cause : ResetCause) (asked : Bool) :
    (s.resetLocal p cause asked).boot = s.boot ∧ (s.resetLocal p cause asked).panel = s.panel := by simp [State.resetLocal]

@[simp] theorem boot_panel_resetFlit (p dir link : Nat) :
    (s.resetFlit p dir link).boot = s.boot ∧ (s.resetFlit p dir link).panel = s.panel := by simp [State.resetFlit]

@[simp] theorem boot_panel_resetFlits (p dir : Nat) (a4 : List Nat) :
    (s.resetFlits p dir a4).boot = s.boot ∧ (s.resetFlits p dir a4).panel = s.panel := by
  induction a4 generalizing s p dir with
  | nil => exact ⟨rfl, rfl⟩
  | cons x xs ih => simp [State.resetFlits, ih]

@[simp] theorem boot_panel_resetStart (p : Nat) (cause : ResetCause) :
    (s.resetStart p cause).boot = s.boot ∧ (s.resetStart p cause).panel = s.panel := by simp [State.resetStart]

@[simp] theorem boot_panel_tdiOut (v : Nat) (f : State → State)
    (hf : ∀ t, (f t).boot = t.boot ∧ (f t).panel = t.panel) :
    (s.tdiOut v f).boot = s.boot ∧ (s.tdiOut v f).panel = s.panel := by
  simp only [State.tdiOut]
  split <;> simp [hf]

@[simp] theorem boot_panel_tdiLeave (v : Nat) :
    (s.tdiLeave v).boot = s.boot ∧ (s.tdiLeave v).panel = s.panel := by simp [State.tdiLeave]

@[simp] theorem boot_panel_flr (fn : Nat) : (s.flr fn).boot = s.boot ∧ (s.flr fn).panel = s.panel := by
  simp only [State.flr]
  split <;> simp

@[simp] theorem boot_panel_flrs (l : List Nat) : (s.flrs l).boot = s.boot ∧ (s.flrs l).panel = s.panel := by
  induction l generalizing s with
  | nil => exact ⟨rfl, rfl⟩
  | cons fn l ih => simp [State.flrs, ih]

end

end Sys2Proof.Laws
end

section
/-! PROOFS. Rings, doorbells and host descriptors (spec/14: R373 to R394, R400), reference counts (spec/15: R411), function resets
(spec/14: R374; spec/19: R526). -/
namespace Sys2Proof.Laws

open Machine

/-! ### Configuration registers (R379) -/

theorem bitAt_clearBits (v : Nat) : bitAt (v - (v &&& 2 ^ 31)) 31 = false := by
  have hhigh : (v &&& 2 ^ 31) / 2 ^ 31 = v / 2 ^ 31 % 2 := (Nat.and_div_two_pow (n := 31)).trans (Nat.and_one_is_mod _)
  have hlow : (v &&& 2 ^ 31) % 2 ^ 31 = 0 := (Nat.and_mod_two_pow (n := 31)).trans (Nat.and_zero _)
  rw [bitAt, decide_eq_false_iff_not]
  omega

theorem bitAt_setBits (v i : Nat) : bitAt (v ||| 2 ^ i) i = true := by
  rw [bitAt_eq_testBit, Nat.testBit_or, Nat.testBit_two_pow_self, Bool.or_true]

/-- Bits taken away from a number whose bit 31 is clear leave it clear. -/
theorem bitAt_sub_and {v m : Nat} (h : bitAt v 31 = false) (hm : m < 2 ^ 32) : bitAt (v - (v &&& m)) 31 = false := by
  have hhigh : (v &&& m) / 2 ^ 31 = v / 2 ^ 31 &&& m / 2 ^ 31 := Nat.and_div_two_pow (n := 31)
  have hlow : (v &&& m) % 2 ^ 31 ≤ v % 2 ^ 31 := (Nat.and_mod_two_pow (n := 31)).trans_le Nat.and_le_left
  have hq : m / 2 ^ 31 = 0 ∨ m / 2 ^ 31 = 1 := by omega
  simp only [bitAt, decide_eq_false_iff_not] at h ⊢
  rcases hq with hq | hq
  · rw [hq, Nat.and_zero] at hhigh
    omega
  · rw [hq, Nat.and_one_is_mod] at hhigh
    omega

/-- A configuration written while the ring is disabled leaves it so, where ENABLE is written as 0. -/
theorem bitAt_cfgFields {m old v : Nat} (hm : m < 2 ^ 32) (ho : bitAt old 31 = false) (hv : bitAt v 31 = false) :
    bitAt (cfgFields m old v) 31 = false := by
  have hor : bitAt ((old - (old &&& m)) ||| (v &&& m)) 31 = false := by
    rw [bitAt_eq_testBit, Nat.testBit_or, Nat.testBit_and, ← bitAt_eq_testBit, ← bitAt_eq_testBit, bitAt_sub_and ho hm, hv]
    rfl
  simp only [cfgFields]
  simp only [bitAt, decide_eq_false_iff_not] at hor ⊢
  split <;> omega

section

variable {s : State} (fn : FnId) (r : Fin 16) (v : W32) (x : Fin 65536)

theorem rings_of_off (h : ¬ s.hostOn fn = true) (ok : Bool) : ∀ c ∈ [Instr.hifSqCfg fn r v, .hifCqCfg fn r v, .sqDoorbell fn r x,
    .cqDoorbell fn r x, .descriptorFetch fn r ok, .flr fn], exec c s = .next s := by
  have hoff : (!s.hostOn fn) = true := by simp [h]
  simp only [List.forall_mem_cons]
  exact ⟨congrArg Host.Outcome.next (if_pos hoff), congrArg Host.Outcome.next (if_pos hoff),
    congrArg Host.Outcome.next (if_pos (.inl hoff)), congrArg Host.Outcome.next (if_pos (.inl hoff)),
    congrArg Host.Outcome.next (if_pos (.inl hoff)), congrArg Host.Outcome.next (if_neg fun hc => h hc.1), List.forall_mem_nil _⟩

theorem sqRing_of_disabled (h : bitAt (s.reg (kSqCfg fn r)) 31 = false) (ok : Bool) :
    exec (.sqDoorbell fn r x) s = .next s ∧ exec (.descriptorFetch fn r ok) s = .next s :=
  ⟨congrArg Host.Outcome.next (if_pos (.inr (by simp [h]))), congrArg Host.Outcome.next (if_pos (.inr (.inl (by simp [h]))))⟩

theorem cqDoorbell_of_disabled (h : bitAt (s.reg (kCqCfg fn r)) 31 = false) : exec (.cqDoorbell fn r x) s = .next s :=
  congrArg Host.Outcome.next (if_pos (.inr (by simp [h])))

variable (on : s.hostOn fn = true)

include on

theorem hifSqCfg_of_enabled (h : bitAt (s.reg (kSqCfg fn r)) 31 = true) : exec (.hifSqCfg fn r v) s =
    .next (if bitAt v.toNat 31 then s else s.clearBits (kSqCfg fn r) (2 ^ 31)) :=
  congrArg Host.Outcome.next ((if_neg (by simp [on])).trans (if_pos h))

theorem hifSqCfg_of_disabled (h : bitAt (s.reg (kSqCfg fn r)) 31 = false) : exec (.hifSqCfg fn r v) s =
    .next (if bitAt v.toNat 31 then (s.setReg (kSqCfg fn r) (cfgFields 0x9F000000 (s.reg (kSqCfg fn r)) v.toNat)).setSq fn r Sq.reset
      else s.setReg (kSqCfg fn r) (cfgFields 0x9F000000 (s.reg (kSqCfg fn r)) v.toNat)) :=
  congrArg Host.Outcome.next ((if_neg (by simp [on])).trans (if_neg (by simp [h])))

theorem hifCqCfg_of_busy (h : bitAt (s.reg (kCqCfg fn r)) 31 = true)
    (hb : bitAt v.toNat 31 = true ∨ s.cqUsed fn r = true ∨ (s.cq fn r).waiting ≠ []) : exec (.hifCqCfg fn r v) s = .next s := by
  refine congrArg Host.Outcome.next ((if_neg (by simp [on])).trans ((if_pos h).trans (if_pos ?_)))
  simpa using hb

theorem hifCqCfg_of_idle (h : bitAt (s.reg (kCqCfg fn r)) 31 = true) (hv : bitAt v.toNat 31 = false) (hu : s.cqUsed fn r = false)
    (hw : (s.cq fn r).waiting = []) : exec (.hifCqCfg fn r v) s = .next (s.clearBits (kCqCfg fn r) (2 ^ 31)) :=
  congrArg Host.Outcome.next ((if_neg (by simp [on])).trans ((if_pos h).trans (if_neg (by simp [hv, hu, hw]))))

/-- A disabled completion ring takes its configuration, and with ENABLE starts at entry 0. -/
theorem hifCqCfg_of_disabled (h : bitAt (s.reg (kCqCfg fn r)) 31 = false) : ∃ m < 2 ^ 32, exec (.hifCqCfg fn r v) s =
    .next (let s1 := s.setReg (kCqCfg fn r) (cfgFields m (s.reg (kCqCfg fn r)) v.toNat)
      if bitAt v.toNat 31 then (s1.setCq fn r { s1.cq fn r with tail := 0, phase := true, head := 0, pend := 0 }).cqGo fn r else s1) := by
  refine ⟨if vectorOk fn (bits v.toNat 23 16) then 0xC0FFFF00 else 0xC000FF00, ?_,
    congrArg Host.Outcome.next ((if_neg (by simp [on])).trans (if_neg (by simp [h])))⟩
  split <;> decide

omit on in
theorem cq_setCq (s : State) (fn r : Nat) (k : Cq) : (s.setCq fn r k).cq fn r = k := tblGet_tblSet_self ..

omit on in
/-- A completion ring without waiting records has nothing to write. -/
theorem cqGo_of_empty {s : State} {fn r : Nat} (h : (s.cq fn r).waiting = []) :
    (s.cqGo fn r).cq fn r = s.cq fn r ∧ (s.cqGo fn r).host = s.host := by
  simp only [State.cqGo, h, State.cqDrain]
  split
  · refine ⟨(cq_setCq ..).trans ?_, rfl⟩
    rw [← h]
  · exact ⟨rfl, rfl⟩

theorem hifCqCfg_off (h : bitAt (s.reg (kCqCfg fn r)) 31 = false) (hv : bitAt v.toNat 31 = false) :
    ∃ t, exec (.hifCqCfg fn r v) s = .next t ∧ bitAt (t.reg (kCqCfg fn r)) 31 = false ∧ t = { s with regs := t.regs } := by
  obtain ⟨m, hm, ht⟩ := hifCqCfg_of_disabled fn r v on h
  refine ⟨_, ht.trans (congrArg Host.Outcome.next (if_neg (by simp [hv]))), ?_, rfl⟩
  rw [reg_setReg]
  exact bitAt_cfgFields hm h hv

theorem hifCqCfg_on (h : bitAt (s.reg (kCqCfg fn r)) 31 = false) (hv : bitAt v.toNat 31 = true) (hw : (s.cq fn r).waiting = []) :
    ∃ t, exec (.hifCqCfg fn r v) s = .next t ∧ (t.cq fn r).tail = 0 ∧ (t.cq fn r).head = 0 ∧ (t.cq fn r).phase = true
      ∧ t.host = s.host := by
  obtain ⟨m, -, ht⟩ := hifCqCfg_of_disabled fn r v on h
  obtain ⟨hcq, hhost⟩ := cqGo_of_empty (r := r) (fn := fn) (s := (s.setReg (kCqCfg fn r) (cfgFields m (s.reg (kCqCfg fn r)) v.toNat)).setCq fn r
    { s.cq fn r with tail := 0, phase := true, head := 0, pend := 0 }) (by rw [cq_setCq]; exact hw)
  rw [cq_setCq] at hcq
  exact ⟨_, ht.trans (congrArg Host.Outcome.next (if_pos hv)), congrArg Cq.tail hcq, congrArg Cq.head hcq,
    congrArg Cq.phase hcq, hhost⟩

/-! ### Doorbells and fetches (R380, R382) -/

theorem sqDoorbell_of_enabled (h : bitAt (s.reg (kSqCfg fn r)) 31 = true) :
    (x.val < ringSize (s.reg (kSqCfg fn r)) → exec (.sqDoorbell fn r x) s = .next (s.setSq fn r { s.sq fn r with tail := x }))
    ∧ (ringSize (s.reg (kSqCfg fn r)) ≤ x.val → exec (.sqDoorbell fn r x) s = .next (s.setBits (kSqStat fn r) (2 ^ 31))) := by
  have hopen : ¬ ((!s.hostOn fn) = true ∨ (!bitAt (s.reg (kSqCfg fn r)) 31) = true) := by simp [on, h]
  exact ⟨fun hx => congrArg Host.Outcome.next ((if_neg hopen).trans (if_neg (Nat.not_le.2 hx))),
    fun hx => congrArg Host.Outcome.next ((if_neg hopen).trans (if_pos hx))⟩

theorem cqDoorbell_of_enabled (h : bitAt (s.reg (kCqCfg fn r)) 31 = true) :
    (x.val < ringSize (s.reg (kCqCfg fn r)) → exec (.cqDoorbell fn r x) s = .next ((s.setCq fn r { s.cq fn r with head := x }).cqGo fn r))
    ∧ (ringSize (s.reg (kCqCfg fn r)) ≤ x.val → exec (.cqDoorbell fn r x) s = .next (s.cqDberr fn r (List.range 16))) := by
  have hopen : ¬ ((!s.hostOn fn) = true ∨ (!bitAt (s.reg (kCqCfg fn r)) 31) = true) := by simp [on, h]
  exact ⟨fun hx => congrArg Host.Outcome.next ((if_neg hopen).trans (if_neg (Nat.not_le.2 hx))),
    fun hx => congrArg Host.Outcome.next ((if_neg hopen).trans (if_pos hx))⟩

/-- A ring that fetches, with room for what it fetches. -/
theorem fetch_open (h : bitAt (s.reg (kSqCfg fn r)) 31 = true) (hf : s.fetches fn = true) {m : Nat} (hm : 0 < m)
    (hw : s.waitingOf fn < 256) (b : Bool) : ¬ ((!s.hostOn fn) = true ∨ (!bitAt (s.reg (kSqCfg fn r)) 31) = true
    ∨ (!s.fetches fn) = true
      ∨ m = 0 ∨ (decide (256 ≤ s.waitingOf fn) && b) = true) := by
  simp only [on, h, hf, decide_eq_false (Nat.not_le.2 hw)]
  simp [hm.ne']

theorem descriptorFetch_of_read (h : bitAt (s.reg (kSqCfg fn r)) 31 = true) (hf : s.fetches fn = true) {m : Nat}
    (he : m = min 32 (((s.sq fn r).tail + ringSize (s.reg (kSqCfg fn r)) - (s.sq fn r).head) % ringSize (s.reg (kSqCfg fn r))))
    (hm : 0 < m) (hw : s.waitingOf fn < 256) : exec (.descriptorFetch fn r true) s =
      .next (((s.takeDescs fn r (s.hif fn (0x100 + 0x20 * r) / 4096 * 4096) (s.sq fn r).head (ringSize (s.reg (kSqCfg fn r))) m).setSq
        fn r { s.sq fn r with head := ((s.sq fn r).head + m) % ringSize (s.reg (kSqCfg fn r)) }).ringGo fn r) := by
  subst he
  exact congrArg Host.Outcome.next ((if_neg (fetch_open fn r on h hf hm hw _)).trans (if_neg (by decide)))

omit on in
theorem reg_msix (s : State) (fn vec k : Nat) : (s.msix fn vec).reg k = s.reg k := by
  simp only [State.msix]
  split <;> rfl

/-- A read of descriptors that failed: the ring disabled, with its error. -/
theorem descriptorFetch_of_failed (h : bitAt (s.reg (kSqCfg fn r)) 31 = true) (hf : s.fetches fn = true)
    (hm : 0 < min 32 (((s.sq fn r).tail + ringSize (s.reg (kSqCfg fn r)) - (s.sq fn r).head) % ringSize (s.reg (kSqCfg fn r))))
    (hw : s.waitingOf fn < 256) : ∃ t, exec (.descriptorFetch fn r false) s = .next t
      ∧ bitAt (t.reg (kSqCfg fn r)) 31 = false ∧ bitAt (t.reg (kSqStat fn r)) 30 = true := by
  have hkeys : kSqCfg fn r ≠ kSqStat fn r := by simp only [kSqCfg, kSqStat, hifKey]; omega
  have hcfg : bSVC ≤ kSqCfg fn r := by simp only [kSqCfg, hifKey, bSVC]; omega
  have hstat : bSVC ≤ kSqStat fn r := by simp only [kSqStat, hifKey, bSVC]; omega
  have hledger (x : State) {k : Nat} (hk : bSVC ≤ k) : (if fn.val = 0 then x.ledger 0x0700 (srcOf3 0xFF 0 0) r 0 0
      else x.ledgerPart 0x0700 (fn - 1) r 0 0 0).reg k = x.reg k := by
    split
    · exact reg_ledgerFull_ne x hk ..
    · exact reg_ledgerFull_ne x hk ..
  refine ⟨_, congrArg Host.Outcome.next ((if_neg (fetch_open fn r on h hf hm hw _)).trans (if_pos (by decide))), ?_, ?_⟩
  · rw [reg_msix, hledger _ hcfg, reg_setBits_ne _ _ hkeys, State.clearBits, reg_setReg]
    exact bitAt_clearBits _
  · rw [reg_msix, hledger _ hstat, State.setBits, reg_setReg]
    exact bitAt_setBits _ 30

end

/-! ### Host descriptors (R388 to R394) -/

section

variable {s s0 : State} {fn : FnId} {r : Fin 16} {d : HostDesc} {e : EngineId}

theorem startDesc_of_none {fn r : Nat} (h : s.startable fn r = none) (t : Nat) (f : HostDesc → State → State) :
    s.startDesc fn r t f = s := by
  simp only [State.startDesc, h]

theorem startIf_of_none {fn r : Nat} (h : s.startable fn r = none) (t : Nat) (ok : HostDesc → Bool) (f : HostDesc → State → State) :
    s.startIf fn r t ok f = s := by
  simp only [State.startIf, h]

theorem descs_of_none (h : s.startable fn r = none) (e : EngineId) (ok : Bool) (pl : SlotPlace) :
    ∀ c ∈ [Instr.descNop fn r, .load (.ring fn r) pl, .unload (.ring fn r), .launch (.ring fn r), .copyLinear fn r e,
      .copyDescribed fn r e ok, .hostSignal fn r, .hostWait fn r], exec c s = .next s := by
  have hite (c : Prop) [Decidable c] (a : State) (ha : a = s) : (if c then s else a) = s := by rw [ha, ite_self]
  simp only [List.forall_mem_cons]
  exact ⟨congrArg Host.Outcome.next (startDesc_of_none h ..), congrArg Host.Outcome.next (hite _ _ (startDesc_of_none h ..)),
    congrArg Host.Outcome.next (startDesc_of_none h ..), congrArg Host.Outcome.next (startDesc_of_none h ..),
    congrArg Host.Outcome.next (hite _ _ (startIf_of_none h ..)), congrArg Host.Outcome.next (hite _ _ (startIf_of_none h ..)),
    congrArg Host.Outcome.next (hite _ _ (startDesc_of_none h ..)), congrArg Host.Outcome.next (hite _ _ (startDesc_of_none h ..)),
    List.forall_mem_nil _⟩

/-- An engine of the partition with room for a copy. -/
def CopyRoom (s : State) (fn : FnId) (e : EngineId) : Prop := s.copyEngine (fn - 1) e = true ∧ s.hasRoom e = true

theorem copyRoom_open (h : CopyRoom s fn e) : ¬ ((!s.copyEngine (fn - 1) e) = true ∨ (!s.hasRoom e) = true) := by simp [h.1, h.2]

theorem copies_of_full (h : ¬ CopyRoom s fn e) (ok : Bool) :
    exec (.copyLinear fn r e) s = .next s ∧ exec (.copyDescribed fn r e ok) s = .next s := by
  have hfull : (!s.copyEngine (fn - 1) e) = true ∨ (!s.hasRoom e) = true := by
    simpa [CopyRoom, Classical.or_iff_not_imp_left] using h
  exact ⟨congrArg Host.Outcome.next (if_pos hfull), congrArg Host.Outcome.next (if_pos hfull)⟩

theorem copyLinear_of_starts (hr : CopyRoom s fn e) (h : RingStarts s fn r 4 d s0) (hk : d.fld 24 1 = 0) :
    exec (.copyLinear fn r e) s = .next ((s0.startHostCopy { d with st := .running } e (linearDesc (d.fld 32 8) (d.fld 48 4))
      (linearDesc (d.fld 40 8) (d.fld 48 4)) none 0
      (if d.fld 48 4 < 32 ∨ 2 ^ 30 < d.fld 48 4 ∨ d.fld 48 4 % 32 ≠ 0 then stFormat else 0)).ringGo fn r) :=
  congrArg Host.Outcome.next ((if_neg (copyRoom_open hr)).trans
    (startIf_of_starts h (ok := fun d => d.fld 24 1 == 0) (beq_iff_eq.2 hk) _))

theorem copyDescribed_of_starts (hr : CopyRoom s fn e) (h : RingStarts s fn r 4 d s0) (hk : d.fld 24 1 = 1) (ok : Bool) :
    exec (.copyDescribed fn r e ok) s = .next ((s0.startHostCopy { d with st := .running } e
      (descOf (s0.hostNat fn (d.fld 32 8) 32)) (descOf (s0.hostNat fn (d.fld 40 8) 32))
      (if d.fld 56 8 = 0 then none else some (repeatOf (s0.hostNat fn (d.fld 56 8) 32))) (d.fld 48 8)
      (if ok then 0 else stTrans)).ringGo fn r) :=
  congrArg Host.Outcome.next ((if_neg (copyRoom_open hr)).trans
    (startIf_of_starts h (ok := fun d => d.fld 24 1 == 1) (beq_iff_eq.2 hk) _))

theorem sync_of_held (h : s.syncHeld fn = true) : exec (.hostSignal fn r) s = .next s ∧ exec (.hostWait fn r) s = .next s :=
  ⟨congrArg Host.Outcome.next (if_pos h), congrArg Host.Outcome.next (if_pos h)⟩

theorem descObj_running {s : State} (d : HostDesc) : s.descObj { d with st := .running } = s.descObj d := rfl

theorem reg_of_starts {t k : Nat} (h : RingStarts s fn r t d s0) : s0.reg k = s.reg k := by
  rw [eq_modDesc_of_starts h]
  rfl

variable (hheld : s.syncHeld fn = false)

include hheld

theorem hostSignal_of_none (h : RingStarts s fn r 5 d s0) (ho : s0.descObj d = none) :
    exec (.hostSignal fn r) s = .next ((s0.endDesc d.id 2 2).ringGo fn r) := by
  refine congrArg Host.Outcome.next ((if_neg (ne_true_of_eq_false hheld)).trans ((startDesc_of_starts h _).trans ?_))
  simp only [descObj_running, ho]

theorem hostSignal_of_here (h : RingStarts s fn r 5 d s0) {o : ObjRef} (ho : s0.descObj d = some o) (hf : o.fid = s.reg bFAB) :
    exec (.hostSignal fn r) s = (let a := s0.objAdd o.obj (signed 32 (d.fld 36 4)) 3 0
      .next ((a.1.endDesc d.id (if a.2 = 0 then 0 else 2) a.2).ringGo fn r)) := by
  refine congrArg Host.Outcome.next ((if_neg (ne_true_of_eq_false hheld)).trans ((startDesc_of_starts h _).trans ?_))
  simp only [descObj_running, ho]
  rw [if_pos (hf.trans (reg_of_starts h).symm)]
  rfl

theorem hostWait_of_none (h : RingStarts s fn r 6 d s0) (ho : s0.descObj d = none) :
    exec (.hostWait fn r) s = .next ((s0.endDesc d.id 2 2).ringGo fn r) := by
  refine congrArg Host.Outcome.next ((if_neg (ne_true_of_eq_false hheld)).trans ((startDesc_of_starts h _).trans ?_))
  simp only [descObj_running, ho]

theorem hostWait_of_some (h : RingStarts s fn r 6 d s0) {o : ObjRef} (ho : s0.descObj d = some o) :
    exec (.hostWait fn r) s = .next ((if o.fid ≠ s.reg bFAB then s0.endDesc d.id 2 4
      else if s0.hostWaiters ≥ 255 then s0.endDesc d.id 2 3
      else (s0.modDesc d.id fun y => { y with obj := some o.obj }).objJoin o.obj (.host d.id) 3 0).ringGo fn r) := by
  refine congrArg Host.Outcome.next ((if_neg (ne_true_of_eq_false hheld)).trans ((startDesc_of_starts h _).trans ?_))
  simp only [descObj_running, ho, reg_of_starts h]

end

section

variable {s s0 : State} {fn : FnId} {r : Fin 16} {d : HostDesc} {n : Nat}

theorem hostWaitTimeout_of_gone (h : s.desc n = none) : exec (.hostWaitTimeout n) s = .next s := by
  show execHostWaitTimeout n s = _
  simp only [execHostWaitTimeout, h]

theorem hostWaitTimeout_of_waiting {o : Nat} (h : s.desc n = some d) (ht : d.type = 6) (hf : d.fld 40 4 ≠ 0) (hst : d.st = .running)
    (ha : d.asleep = false) (ho : d.obj = some o) : exec (.hostWaitTimeout n) s =
      .next ((s.setObj o { s.obj o with waiters := (s.obj o).waiters.filter fun w => w != .host n }).endDesc n 4 1) := by
  show execHostWaitTimeout n s = _
  simp only [execHostWaitTimeout, h]
  rw [if_neg (by simp [ht, hf, hst]), if_neg (by simp [ha]), ho]

/-! ### Reference counts (R411, R413) -/

theorem fetchaddComplete_of_none (h : s.refOps.length ≤ n) (ok : Bool) : exec (.fetchaddComplete n ok) s = .next s := by
  show execFetchaddComplete n ok s = _
  simp only [execFetchaddComplete, List.getElem?_eq_none h]

/-- The FetchAdd of a reference count that completes: 1 off its entry, and an old value of 0 reported. -/
theorem fetchaddComplete_of_some {y : RefOp} (h : s.refOps[n]? = some y) (ok : Bool) : exec (.fetchaddComplete n ok) s =
    (let s1 : State := { s with refOps := s.refOps.eraseIdx n }
     let a := s.hif y.fn 0x900 / 4096 * 4096 + 4 * y.entry
     let old := s.hostNat y.fn a 4
     let s3 := s1.hostWrite y.fn a (toBytes 4 ((old + 0xFFFFFFFF) % 2 ^ 32))
     .next ((if !ok then s1.refOutcome y.fn 30 y.entry 2 true
       else if old = 0 then s3.refOutcome y.fn 29 y.entry 3 true else s3).refDone y.desc)) := by
  show execFetchaddComplete n ok s = _
  simp only [execFetchaddComplete, h]
  rfl

/-! ### LOAD, UNLOAD and LAUNCH (R389, R390) -/

theorem mem_of_startableIn {l : List HostDesc} {d : HostDesc} (h : startableIn l = some d) : d ∈ l := by
  induction l with
  | nil => exact absurd h (by simp [startableIn])
  | cons x l ih =>
    simp only [startableIn] at h
    split at h
    · exact Option.some.inj h ▸ List.mem_cons_self
    · split at h
      · exact absurd h (by simp)
      · next e he =>
        split at h
        · exact absurd h (by simp)
        · exact List.mem_cons_of_mem _ (ih (he.trans h))

theorem fn_of_startable {fn r : Nat} (h : s.startable fn r = some d) : d.fn = fn := by
  have hmem := (List.mem_filter.1 (mem_of_startableIn h)).2
  simp only [Bool.and_eq_true, beq_iff_eq] at hmem
  exact hmem.1

theorem load_of_starts (h : RingStarts s fn r 1 d s0) (hl : (s.part (fn - 1)).loadable = true) (pl : SlotPlace) :
    exec (.load (.ring fn r) pl) s = .next ((s0.loadHere { d with st := .running } (fn - 1) pl).ringGo fn r) := by
  show execLoad (.ring fn r) pl s = _
  simp only [execLoad, h.1, fn_of_startable h.1, hl]
  rw [if_neg (by simp)]
  exact congrArg Host.Outcome.next (startDesc_of_starts h _)

theorem load_of_unloadable {p : PartId} (h : (s.part p).loadable = false ∨ (s.part p).anchor = s.reg bFAB) (slot : SlotId)
    (bytes : List Byte) (pl : SlotPlace) : exec (.load (.member p slot bytes) pl) s = .next s :=
  congrArg Host.Outcome.next (if_pos (h.imp_left fun h => by simp [h]))

theorem part_of_starts {t : Nat} (h : RingStarts s fn r t d s0) (p : Nat) : s0.part p = s.part p := by
  rw [eq_modDesc_of_starts h]
  rfl

theorem unload_of_starts (h : RingStarts s fn r 2 d s0) : exec (.unload (.ring fn r)) s =
    .next ((if (s.part (fn - 1)).slotBusy (d.fld 24 1) then s0.endDesc d.id 2 1
      else if ((s.part (fn - 1)).image (d.fld 24 1)).isNone then s0.endDesc d.id 2 2
      else ((s0.dropImage (fn - 1) (d.fld 24 1)).tellMembers (fn - 1) 13 (d.fld 24 1) 0).endDesc d.id 0 0).ringGo fn r) := by
  refine (congrArg Host.Outcome.next (startDesc_of_starts h _)).trans ?_
  simp only [part_of_starts h]
  rfl

theorem launch_of_starts (h : RingStarts s fn r 3 d s0) : exec (.launch (.ring fn r)) s =
    .next ((if ((s.part (fn - 1)).image (d.fld 24 1)).isNone then s0.endDesc d.id 2 1
      else (s0.modPart (fn - 1) fun q => { q with
        queue := q.queue ++ [⟨d.id, d.fld 24 1, d.fld 32 8, d.cookie, d.ctx, s.now⟩] }).launchNext (fn - 1)).ringGo fn r) := by
  have hnow : s0.now = s.now := by
    rw [eq_modDesc_of_starts h]
    rfl
  refine (congrArg Host.Outcome.next (startDesc_of_starts h _)).trans ?_
  simp only [part_of_starts h, hnow]
  rfl

/-! ### Function resets (R374, R415, R526) -/

theorem tblGet_filter_out {α : Type} (d : Nat → α) {f : Nat × α → Bool} {k : Nat} (hf : ∀ v, f (k, v) = false) (t : Tbl α) :
    tblGet d (t.filter f) k = d k := by
  induction t with
  | nil => rfl
  | cons e t ih =>
    rw [List.filter_cons]
    split
    · next he =>
      have hne : e.1 ≠ k := by
        rintro rfl
        exact absurd (he.symm.trans (hf e.2)) (by decide)
      rw [tblGet, if_neg hne]
      exact ih
    · exact ih

/-- What FLR clears of a function, before its TDI goes. -/
def flrCleared (s : State) (fn : Nat) : State := { s with
  descs := s.descs.map fun d => if d.fn = fn then { d with dropped := true } else d,
  sqs := tblClear (16 * fn) (16 * fn + 16) s.sqs,
  cqs := tblClear (16 * fn) (16 * fn + 16) s.cqs,
  regs := s.regs.filter fun e => !ringKey fn e.1,
  pcie := { s.pcie with atomic := s.pcie.atomic.filter fun x => x != fn, ats := s.pcie.ats.filter fun x => x != fn,
                        msixT := tblClear (1024 * fn) (1024 * fn + 1024) s.pcie.msixT,
                        pba := tblClear (256 * fn) (256 * fn + 256) s.pcie.pba } }

theorem flr_eq (s : State) (fn : Nat) : s.flr fn = if fn = 0 then flrCleared s fn else (flrCleared s fn).tdiLeave fn := rfl

/-- A TDI that is neither LOCKED nor in RUN does not leave. -/
theorem tdiLeave_of_open {v : Nat} (hl : (s.inst v).tdi ≠ .locked) (hr : (s.inst v).tdi ≠ .run) : s.tdiLeave v = s := by
  have hfail : s.tdiFail v = s := if_neg fun h => h.elim hl hr
  simp only [State.tdiLeave, State.tdiOut, hfail]
  exact if_neg fun h => hr h.1

theorem ringKey_kSqCfg (fn : Nat) (r : Fin 16) : ringKey fn (kSqCfg fn r) = true := by
  have hlo : hifKey fn (bHIF + 0x100) ≤ kSqCfg fn r := by
    rw [kSqCfg, hifKey, hifKey]
    omega
  have hhi : kSqCfg fn r < hifKey fn (bHIF + 0x800) := by
    rw [kSqCfg, hifKey, hifKey]
    omega
  rw [ringKey, decide_eq_true hlo, decide_eq_true hhi]
  rfl

theorem flrCleared_spec (s : State) (fn : FnId) (r : Fin 16) : (flrCleared s fn).sq fn r = Sq.reset
    ∧ (flrCleared s fn).reg (kSqCfg fn r) = regReset (kSqCfg fn r) ∧ fn.val ∉ (flrCleared s fn).pcie.atomic
    ∧ ∀ y ∈ (flrCleared s fn).descs, y.fn = fn.val → y.dropped = true := by
  refine ⟨tblGet_tblClear _ _ (by omega) (by omega), tblGet_filter_out _ (fun v => ?_) _, fun h => ?_, fun y hy hf => ?_⟩
  · exact congrArg not (ringKey_kSqCfg fn r)
  · simpa using (List.mem_filter.1 h).2
  · obtain ⟨z, -, rfl⟩ := List.mem_map.1 hy
    by_cases hz : z.fn = fn
    · rw [if_pos hz]
    · rw [if_neg hz] at hf
      exact absurd hf hz

theorem flr_of_open {fn : FnId} (h : fn.val = 0 ∨ ((s.inst fn).tdi ≠ .locked ∧ (s.inst fn).tdi ≠ .run)) :
    s.flr fn = flrCleared s fn := by
  rw [flr_eq]
  split
  · rfl
  · next h0 =>
    obtain ⟨hl, hr⟩ := h.resolve_left h0
    exact tdiLeave_of_open hl hr

theorem flr_of_pending (h : s.boot.pending ≠ none) : exec (.flr fn) s = .next s ∧ exec .pcieReset s = .next s := by
  have hdue : s.warmDue = true := Option.isSome_iff_ne_none.2 h
  exact ⟨congrArg Host.Outcome.next (if_neg fun hc => by simp [hdue] at hc), congrArg Host.Outcome.next (if_pos hdue)⟩

theorem flr_of_on (ho : s.hostOn fn = true) (h : s.boot.pending = none) : exec (.flr fn) s = .next (s.flr fn) :=
  congrArg Host.Outcome.next (if_pos ⟨ho, by simp [State.warmDue, h]⟩)

theorem pcieReset_of_free (h : s.boot.pending = none) : exec .pcieReset s = .next (s.flrs (List.range 33)) :=
  congrArg Host.Outcome.next (if_neg (by simp [State.warmDue, h]))

end

/-- Settles O43: each command by its guard, and a descriptor that starts by its own fields. -/
theorem hostRings : Obligations.HostRings := by
  intro fn r v x e ok pl p slot salt bytes vfs n d s0 s on sq cq go fin room q
  refine ⟨fun h => rings_of_off fn r v x h ok, fun h => hifSqCfg_of_enabled fn r v h, fun h => hifSqCfg_of_disabled fn r v h,
    fun h => hifCqCfg_of_busy fn r v h, fun h => hifCqCfg_of_idle fn r v h, fun h => hifCqCfg_off fn r v h,
    fun h => hifCqCfg_on fn r v h, fun h => sqDoorbell_of_enabled fn r x h, fun h => sqRing_of_disabled fn r x h ok,
    fun h => cqDoorbell_of_enabled fn r x h, fun h => cqDoorbell_of_disabled fn r x h,
    fun h h31 hf hm hw => ⟨descriptorFetch_of_read fn r h h31 hf rfl hm hw, descriptorFetch_of_failed fn r h h31 hf hm hw⟩,
    fun h => congrArg Host.Outcome.next (startDesc_of_starts h _), fun h => descs_of_none h e ok pl,
    copyLinear_of_starts, fun hr h hk => copyDescribed_of_starts hr h hk ok, fun h => copies_of_full h ok, sync_of_held,
    fun hh => ⟨fun h => ⟨hostSignal_of_none hh h, fun o => hostSignal_of_here hh h⟩,
    fun h => ⟨hostWait_of_none hh h, fun o ho => ?_⟩⟩,
    hostWaitTimeout_of_gone, fun o => hostWaitTimeout_of_waiting, fun h => fetchaddComplete_of_none h ok, fun y h => ?_,
    fun h0 h30 => ?_, fun h => ?_, fun h hl => load_of_starts h hl pl, fun h => load_of_unloadable h slot bytes pl, fun h => ?_,
    fun h => congrArg Host.Outcome.next (if_neg h), fun h => ?_, fun h => congrArg Host.Outcome.next (if_pos (.inl h)), flr_of_on,
    flr_of_pending, fun ho hp hopen => ⟨_, flr_of_on ho hp, ?_⟩, pcieReset_of_free, fun hg hr => ?_, fun h => ?_,
    ⟨_, rfl, rfl, (boot_panel_flrs ..).1⟩⟩
  · have hgo (a b : State) (h : a = b) : (Host.Outcome.next (a.ringGo fn r) : Out) = .next (b.ringGo fn r) := by rw [h]
    refine ⟨fun hf => ?_, fun hf hw => ?_, fun hf hw => ?_⟩ <;> refine (hostWait_of_some hh h ho).trans (hgo _ _ ?_)
    · exact if_pos hf
    · exact (if_neg (not_not.2 hf)).trans (if_pos hw)
    · exact (if_neg (not_not.2 hf)).trans (if_neg (Nat.not_le.2 hw))
  · refine ⟨fun h0 => ?_, fun h0 => ?_, fetchaddComplete_of_some h false⟩ <;> refine (fetchaddComplete_of_some h true).trans ?_
    · exact congrArg (fun u : State => Host.Outcome.next (u.refDone y.desc)) ((if_neg (by decide)).trans (if_neg h0))
    · exact congrArg (fun u : State => Host.Outcome.next (u.refDone y.desc)) ((if_neg (by decide)).trans (if_pos h0))
  · exact congrArg Host.Outcome.next (if_pos ⟨h0, by rw [show bitAt (s.reg (kCqCfg fn r)) 30 = false from h30]; rfl⟩)
  · refine congrArg Host.Outcome.next (if_neg fun hc => ?_)
    rcases h with h | h
    · exact absurd (h ▸ hc.1) (lt_irrefl 0)
    · exact absurd hc.2 (by rw [show bitAt (s.reg (kCqCfg fn r)) 30 = true from h]; decide)
  · refine ⟨fun hb => ?_, fun hb hi => ?_, fun hb hi => ?_⟩ <;>
      refine (unload_of_starts h).trans (congrArg (fun u : State => Host.Outcome.next (u.ringGo fn r)) ?_)
    · exact if_pos hb
    · exact (if_neg (ne_true_of_eq_false hb)).trans (if_pos (Option.isNone_iff_eq_none.2 hi))
    · exact (if_neg (ne_true_of_eq_false hb)).trans (if_neg (mt Option.isNone_iff_eq_none.1 hi))
  · refine ⟨fun hi => ?_, fun hi => ?_⟩ <;>
      refine (launch_of_starts h).trans (congrArg (fun u : State => Host.Outcome.next (u.ringGo fn r)) ?_)
    · exact if_pos (Option.isNone_iff_eq_none.2 hi)
    · exact if_neg (mt Option.isNone_iff_eq_none.1 hi)
  · rw [flr_of_open hopen]
    exact flrCleared_spec s fn r
  · exact congrArg Host.Outcome.next (if_pos ⟨hg, by simp [hr]⟩)
  · exact congrArg Host.Outcome.next (if_neg fun hc => by rcases h with h | h <;> simp [h] at hc)

end Sys2Proof.Laws
end

section
/-! PROOFS. The Custodian: requests, key slots, debug operation, entropy and the glitch restart (spec/16: R430 to R455). -/
namespace Sys2Proof.Laws

open Machine

/-! ### Requests that start (R430, R434) -/

/-- The Custodian serves, and PF0's ring `r` has its command `cmd` as the next descriptor, which starts. -/
def CusStarts (s : State) (r cmd : Nat) (d : HostDesc) (s0 : State) : Prop :=
  s.cus.ready = true ∧ s.cus.queue.length < 16 ∧ MgmtStarts s r cmd d s0

section

variable {s s0 x : State} {r : Fin 16} {cmd : Nat} {d : HostDesc}

theorem request_ends (h : CusStarts s r cmd d s0) {f : HostDesc → State → State} (hx : f { d with st := .running } s0 = x) :
    (Host.Outcome.next (s.cusReq r cmd f) : Out) = .next (x.ringGo 0 r) :=
  congrArg Host.Outcome.next ((cusReq_of_starts h.1 h.2.1 h.2.2 f).trans (congrArg (State.ringGo · 0 r) hx))

theorem cus_of_starts (h : CusStarts s r cmd d s0) : s0.cus = s.cus := by
  rw [eq_modDesc_of_starts h.2.2.1]
  rfl

theorem freeCtr_of_starts (h : CusStarts s r cmd d s0) : s0.freeCtr = s.freeCtr := by
  rw [eq_modDesc_of_starts h.2.2.1]
  rfl

theorem cus_of_completed {t : State} (h : Completed s t) : t.cus = s.cus := by
  rw [h]
  rfl

theorem keySlot_of_cus {t : State} (h : t.cus = s.cus) (n : Nat) :
    t.keySlot n = s.keySlot n := by
  rw [State.keySlot, h, State.keySlot]

theorem slotFree_of_cus {t : State} (h : t.cus = s.cus) (n : Nat) : t.slotFree n = s.slotFree n := by
  simp only [State.slotFree, keySlot_of_cus h, h]

theorem drbgStatus_of_cus {t : State} (h : t.cus = s.cus) : t.drbgStatus = s.drbgStatus := by
  rw [State.drbgStatus, h, State.drbgStatus]

theorem drbgUp_of_cus {t : State} (h : t.cus = s.cus) : t.drbgUp = s.drbgUp := by rw [State.drbgUp, h, State.drbgUp]

/-- What follows an MGMT's end changes nothing of the Custodian. -/
theorem cus_mgmtEnd_ringGo (t : State) (id status : Nat) (out : List Byte) (fn r : Nat) :
    ((t.mgmtEnd id status out).ringGo fn r).cus = t.cus :=
  cus_of_completed (completed_trans (completed_mgmtEnd ..) (completed_ringGo ..))

/-! ### Random bytes, slots and keys (R440 to R445) -/

theorem secRandom_spec (h : CusStarts s r 0x400 d s0) :
    (d.fld 56 4 = 0 ∨ 1024 < d.fld 56 4 → exec (.secRandom r) s = .next ((s0.mgmtEnd d.id 3 []).ringGo 0 r))
    ∧ (1 ≤ d.fld 56 4 → d.fld 56 4 ≤ 1024 → ¬ s.drbgUp = true → exec (.secRandom r) s =
        .next ((s0.mgmtEnd d.id s.drbgStatus []).ringGo 0 r))
    ∧ (1 ≤ d.fld 56 4 → d.fld 56 4 ≤ 1024 → s.drbgUp = true → exec (.secRandom r) s =
        .next (((s0.drbg 1).draw.mgmtEnd d.id 0 (toBytes (d.fld 56 4) (Config.free s.freeCtr))).ringGo 0 r)) := by
  have hlen (h1 : 1 ≤ d.fld 56 4) (h2 : d.fld 56 4 ≤ 1024) : ¬ (d.fld 56 4 = 0 ∨ d.fld 56 4 > 1024) := by omega
  rw [← drbgUp_of_cus (cus_of_starts h), ← drbgStatus_of_cus (cus_of_starts h), ← freeCtr_of_starts h]
  exact ⟨fun hn => request_ends h (if_pos hn),
    fun h1 h2 hu => request_ends h ((if_neg (hlen h1 h2)).trans (if_pos (by simpa using hu))),
    fun h1 h2 hu => request_ends h ((if_neg (hlen h1 h2)).trans (if_neg (by simp [hu])))⟩

variable (ok : Bool) (pulses : Fin 256)

theorem secSlotInfo_reserved (h : CusStarts s r 0x401 d s0) (hn : d.arg0 % 256 < 16) :
    exec (.secSlotInfo r ok) s = .next ((s0.mgmtEnd d.id 0x0C []).ringGo 0 r) :=
  request_ends h (if_pos hn)

/-- A slot looked at: one of the root in force whose check fails becomes unusable. -/
def slotChecked (s : State) (n : Nat) (ok : Bool) : State :=
  if (s.keySlot n).current.used ∧ !(s.keySlot n).bad ∧ (s.keySlot n).current.rootTest = s.cus.dbg.testRoot
    ∧ !ok then s.slotFails n else s

/-- What SEC_SLOT_INFO reports of a slot. -/
def slotReport (k : KeySlot) : List Byte :=
  toBytes 1 (if k.bad then 2 else b2n k.current.used) ++ toBytes 1 k.current.type ++ toBytes 1 k.current.usage
    ++ toBytes 1 (b2n k.current.rootTest + 2 * b2n k.wear) ++ toBytes 4 k.writes ++ toBytes 4 k.gen ++ toBytes 4 0

theorem secSlotInfo_of_known (h : CusStarts s r 0x401 d s0) (hn : 16 ≤ d.arg0 % 256) : exec (.secSlotInfo r ok) s =
    .next (((slotChecked s0 (d.arg0 % 256) ok).mgmtEnd d.id 0
      (slotReport ((slotChecked s0 (d.arg0 % 256) ok).keySlot (d.arg0 % 256)))).ringGo 0 r) :=
  request_ends h (if_neg (Nat.not_lt.2 hn))

theorem keySlot_setKeySlot (n : Nat) (k : KeySlot) : (s.setKeySlot n k).keySlot n = k := tblGet_tblSet_self ..

/-- A used slot of the root in force whose check fails becomes unusable. -/
theorem secSlotInfo_fails (h : CusStarts s r 0x401 d s0) (hn : 16 ≤ d.arg0 % 256)
    (hu : (s.keySlot (d.arg0 % 256)).current.used = true)
    (hb : (s.keySlot (d.arg0 % 256)).bad = false) (hr : (s.keySlot (d.arg0 % 256)).current.rootTest = s.cus.dbg.testRoot) :
    ∃ t, exec (.secSlotInfo r false) s = .next t ∧ (t.keySlot (d.arg0 % 256)).bad = true := by
  rw [← keySlot_of_cus (cus_of_starts h)] at hu hb hr
  rw [← cus_of_starts h] at hr
  have hfails : slotChecked s0 (d.arg0 % 256) false = s0.slotFails (d.arg0 % 256) := if_pos ⟨hu, by rw [hb]; rfl, hr, rfl⟩
  refine ⟨_, secSlotInfo_of_known false h hn, ?_⟩
  rw [keySlot_of_cus (cus_mgmtEnd_ringGo ..), hfails, State.slotFails, keySlot_of_cus (cus_of_completed (completed_secEvent ..)),
    keySlot_setKeySlot]

theorem secSlotInfo_free (h : CusStarts s r 0x401 d s0) (hn : 16 ≤ d.arg0 % 256)
    (hu : (s.keySlot (d.arg0 % 256)).current.used = false)
    (hb : (s.keySlot (d.arg0 % 256)).bad = false) : exec (.secSlotInfo r ok) s = .next ((s0.mgmtEnd d.id 0
      (toBytes 1 0 ++ toBytes 1 (s.keySlot (d.arg0 % 256)).current.type ++ toBytes 1 (s.keySlot (d.arg0 % 256)).current.usage
        ++ toBytes 1 (b2n (s.keySlot (d.arg0 % 256)).current.rootTest + 2 * b2n (s.keySlot (d.arg0 % 256)).wear)
        ++ toBytes 4 (s.keySlot (d.arg0 % 256)).writes ++ toBytes 4 (s.keySlot (d.arg0 % 256)).gen
        ++ toBytes 4 0)).ringGo 0 r) := by
  have hk := keySlot_of_cus (cus_of_starts h) (d.arg0 % 256)
  have hsame : slotChecked s0 (d.arg0 % 256) ok = s0 := if_neg fun hc => by simp [hk, hu] at hc
  rw [secSlotInfo_of_known ok h hn, hsame, hk, slotReport, hb, hu]
  rfl

/-! ### Generating and importing (R441) -/

variable {st : Nat} {q : CusReq}

/-- A request for a slot that cannot take a key. -/
theorem serveReq_of_taken (h : s.slotFree (q.arg % 256) = st) (h0 : st ≠ 0) : s.serveReq q = (s, st) := by
  simp only [State.serveReq, h]
  exact if_pos h0

theorem serveReq_of_generate (h : s.slotFree (q.arg % 256) = 0) (hc : q.cmd = 0x402) : s.serveReq q =
    (s.newKey.1.fillSlot (q.arg % 256) (bits q.arg 15 8) (bits q.arg 23 16) q.pulses s.newKey.2, 0) := by
  simp only [State.serveReq, h]
  exact (if_neg (by decide)).trans (if_pos hc)

theorem serveReq_of_import (h : s.slotFree (q.arg % 256) = 0) (hc : q.cmd = 0x403) : s.serveReq q =
    match (if q.ok then s.unwrapBlob q.blob else none) with
    | some key => (s.fillSlot (q.arg % 256) (bits q.arg 15 8) (bits q.arg 23 16) q.pulses key, 0)
    | none => (s, 0x0A) := by
  simp only [State.serveReq, h]
  exact (if_neg (by decide)).trans (if_neg (by rw [hc]; decide))

theorem keyRequest_of_up (h : s.drbgUp = true) : s.keyRequest q = (s.serveReq q).1.mgmtEnd q.desc (s.serveReq q).2 [] := by
  simp only [State.keyRequest, show s.cus.es = .ready from eq_of_beq h]

theorem keyRequest_of_failed (h : s.cus.es = .failed) : s.keyRequest q = s.mgmtEnd q.desc 2 [] := by
  simp only [State.keyRequest, h]

theorem keyRequest_of_waiting (h : ¬ s.drbgUp = true) (hf : s.cus.es ≠ .failed) :
    s.keyRequest q = { s with cus := { s.cus with queue := s.cus.queue ++ [q] } } := by
  simp only [State.keyRequest]
  split
  · next he => exact absurd (beq_iff_eq.2 he) h
  · next he => exact absurd he hf
  · rfl

theorem secSlotGenerate_reserved (h : CusStarts s r 0x402 d s0) (hn : d.arg0 % 256 < 16) :
    exec (.secSlotGenerate r pulses) s = .next ((s0.mgmtEnd d.id 0x0C []).ringGo 0 r) :=
  request_ends h (if_pos hn)

theorem secSlotGenerate_of_kind (h : CusStarts s r 0x402 d s0) (hn : 16 ≤ d.arg0 % 256) : exec (.secSlotGenerate r pulses) s =
    .next ((if slotKind (bits d.arg0 15 8) (bits d.arg0 23 16) = false then s0.mgmtEnd d.id 3 []
      else s0.keyRequest ⟨d.id, 0x402, d.arg0, true, pulses, []⟩).ringGo 0 r) := by
  refine request_ends h ((if_neg (Nat.not_lt.2 hn)).trans ?_)
  simp only [Bool.not_eq_true']
  rfl

theorem secSlotImport_reserved (h : CusStarts s r 0x403 d s0) (hn : d.arg0 % 256 < 16) :
    exec (.secSlotImport r ok pulses) s = .next ((s0.mgmtEnd d.id 0x0C []).ringGo 0 r) :=
  request_ends h (if_pos hn)

/-- The request that an import of slot `n` with the blob `b` makes. -/
def importReq (desc n : Nat) (b : List Byte) (ok : Bool) (pulses : Nat) : CusReq :=
  ⟨desc, 0x403, n + imgField b 0 1 * 256 + imgField b 1 1 * 65536,
    ok && slotKind (imgField b 0 1) (imgField b 1 1) && imgField b 2 2 == 0, pulses, b⟩

theorem secSlotImport_of_known (h : CusStarts s r 0x403 d s0) (hn : 16 ≤ d.arg0 % 256) : exec (.secSlotImport r ok pulses) s =
    .next ((s0.keyRequest (importReq d.id (d.arg0 % 256) (s0.mgmtIn d) ok pulses)).ringGo 0 r) :=
  request_ends h (if_neg (Nat.not_lt.2 hn))

theorem imgField_one_lt (b : List Byte) (o : Nat) : imgField b o 1 < 256 :=
  (ofBytes_lt _).trans_le (Nat.pow_le_pow_right (n := 256) (by decide) (List.length_take_le 1 (b.drop o)))

theorem importReq_fields (desc : Nat) {n : Nat} (hn : n < 256) (b : List Byte) (p : Nat) :
    (importReq desc n b ok p).arg % 256 = n ∧ bits (importReq desc n b ok p).arg 15 8 = imgField b 0 1
      ∧ bits (importReq desc n b ok p).arg 23 16 = imgField b 1 1 := by
  have h0 := imgField_one_lt b 0
  have h1 := imgField_one_lt b 1
  simp only [importReq, bits]
  omega

/-- An import that the DRBG lets through, into a slot that can take a key. -/
theorem secSlotImport_of_free (h : CusStarts s r 0x403 d s0) (hn : 16 ≤ d.arg0 % 256) (hu : s.drbgUp = true)
    (hf : s.slotFree (d.arg0 % 256) = 0) : exec (.secSlotImport r ok pulses) s =
      match (if (importReq d.id (d.arg0 % 256) (s0.mgmtIn d) ok pulses).ok then s0.unwrapBlob (s0.mgmtIn d) else none) with
      | some key => .next (((s0.fillSlot (d.arg0 % 256) (imgField (s0.mgmtIn d) 0 1) (imgField (s0.mgmtIn d) 1 1) pulses key).mgmtEnd
          d.id 0 []).ringGo 0 r)
      | none => .next ((s0.mgmtEnd d.id 0x0A []).ringGo 0 r) := by
  have hcus := cus_of_starts h
  obtain ⟨harg, htype, husage⟩ := importReq_fields ok d.id (Nat.mod_lt d.arg0 (by decide)) (s0.mgmtIn d) pulses
  rw [secSlotImport_of_known ok pulses h hn, keyRequest_of_up ((drbgUp_of_cus hcus).trans hu),
    serveReq_of_import (by rw [harg, slotFree_of_cus hcus, hf]) rfl, harg, htype, husage]
  simp only [show (importReq d.id (d.arg0 % 256) (s0.mgmtIn d) ok pulses).blob = s0.mgmtIn d from rfl]
  cases (if (importReq d.id (d.arg0 % 256) (s0.mgmtIn d) ok pulses).ok then s0.unwrapBlob (s0.mgmtIn d) else none) <;> rfl

/-! ### Destruction, certificates, debug operation (R433, R435, R437, R443) -/

theorem secSlotDestroy_reserved (h : CusStarts s r 0x404 d s0) (hn : d.arg0 % 256 < 16) :
    exec (.secSlotDestroy r ok pulses) s = .next ((s0.mgmtEnd d.id 0x0C []).ringGo 0 r) :=
  request_ends h (if_pos hn)

theorem secSlotDestroy_of_known (h : CusStarts s r 0x404 d s0) (hn : 16 ≤ d.arg0 % 256) : exec (.secSlotDestroy r ok pulses) s =
    .next ((if (s.keySlot (d.arg0 % 256)).current.used = true ∧ (s.keySlot (d.arg0 % 256)).bad = false
          ∧ (s.keySlot (d.arg0 % 256)).current.rootTest ≠ s.cus.dbg.testRoot then s0.mgmtEnd d.id 7 []
      else if ok then (s0.setKeySlot (d.arg0 % 256) ((s.keySlot (d.arg0 % 256)).destroyed pulses)).mgmtEnd d.id 0 []
      else ((s0.setKeySlot (d.arg0 % 256) { (s.keySlot (d.arg0 % 256)).destroyed pulses with bad := true }).secEvent 4 8
        (d.arg0 % 256) 9).mgmtEnd d.id 9 []).ringGo 0 r) := by
  refine request_ends h ((if_neg (Nat.not_lt.2 hn)).trans ?_)
  simp only [← keySlot_of_cus (cus_of_starts h), ← cus_of_starts h, Bool.not_eq_true']
  rfl

theorem secCerts_of_starts (h : CusStarts s r 0x405 d s0) : exec (.secCerts r) s =
    .next ((if 1 < d.arg0 then s0.mgmtEnd d.id 3 []
      else if s.cus.certs = false then s0.mgmtEnd d.id s.drbgStatus []
      else s0.mgmtEnd d.id 0 (s0.certChain d.arg0)).ringGo 0 r) := by
  refine request_ends h ?_
  simp only [← drbgStatus_of_cus (cus_of_starts h), ← cus_of_starts h, Bool.not_eq_true']
  rfl

theorem secNonce_of_down (h : CusStarts s r 0x406 d s0) (hu : ¬ s.drbgUp = true) :
    exec (.secNonce r) s = .next ((s0.mgmtEnd d.id s.drbgStatus []).ringGo 0 r) := by
  rw [← drbgUp_of_cus (cus_of_starts h)] at hu
  rw [← drbgStatus_of_cus (cus_of_starts h)]
  exact request_ends h (if_pos (by simpa using hu))

theorem secNonce_of_up (h : CusStarts s r 0x406 d s0) (hu : s.drbgUp = true) :
    ∃ t, exec (.secNonce r) s = .next t ∧ t.cus.nonce = some (Config.free s.freeCtr % 2 ^ 256) := by
  rw [← drbgUp_of_cus (cus_of_starts h)] at hu
  rw [← freeCtr_of_starts h]
  exact ⟨_, request_ends h (if_neg (by simp [hu])), congrArg Cus.nonce (cus_mgmtEnd_ringGo ..)⟩

variable (nonce : Nat)

theorem secDebugToken_of_starts (h : CusStarts s r 0x407 d s0) : exec (.secDebugToken r ok nonce) s =
    .next ((if s.cus.dbg.testRoot then s0.mgmtEnd d.id 3 []
      else if ok ∧ s.cus.nonce = some nonce then
        { s0 with cus := { s.cus with nonce := none, dbg := .debugPending } }.mgmtEnd d.id 0 []
      else ({ s0 with cus := { s.cus with nonce := none } }.secEvent 5 9 0 0x0B).mgmtEnd d.id 0x0B []).ringGo 0 r) := by
  refine request_ends h ?_
  simp only [← cus_of_starts h]

/-- SEC_DEBUG_RETURN by the debug state. -/
def debugReturned (s : State) (id : Nat) : State :=
  match s.cus.dbg with
  | .debug => { s with cus := { s.cus with dbg := .returnPending } }.mgmtEnd id 0 []
  | .debugPending => { s with cus := { s.cus with dbg := .production } }.mgmtEnd id 0 []
  | _ => s.mgmtEnd id 3 []

theorem secDebugReturn_of_starts (h : CusStarts s r 0x408 d s0) :
    exec (.secDebugReturn r) s = .next ((debugReturned s0 d.id).ringGo 0 r) := request_ends h rfl

theorem debugReturned_of_debug (hd : s.cus.dbg = .debug) (id : Nat) :
    debugReturned s id = { s with cus := { s.cus with dbg := .returnPending } }.mgmtEnd id 0 [] := by
  simp only [debugReturned, hd]

theorem debugReturned_of_pending (hd : s.cus.dbg = .debugPending) (id : Nat) :
    debugReturned s id = { s with cus := { s.cus with dbg := .production } }.mgmtEnd id 0 [] := by
  simp only [debugReturned, hd]

theorem debugReturned_of_other (hd : s.cus.dbg = .production ∨ s.cus.dbg = .returnPending) (id : Nat) :
    debugReturned s id = s.mgmtEnd id 3 [] := by
  rcases hd with hd | hd <;> simp only [debugReturned, hd]

end

/-! ### The glitch restart (R430, R549) -/

section

variable {s : State} (r : Fin 16) (ok : Bool) (pulses : Fin 256) (nonce : Nat)

theorem cusReq_of_down {r cmd : Nat} (h : s.cus.ready = false) (f : HostDesc → State → State) : s.cusReq r cmd f = s :=
  if_neg fun hc => by simp [h] at hc

theorem custodian_of_down (h : s.cus.ready = false) : ∀ c ∈ [Instr.secRandom r, .secSlotInfo r ok, .secSlotGenerate r pulses,
    .secSlotImport r ok pulses, .secSlotDestroy r ok pulses, .secCerts r, .secNonce r, .secDebugToken r ok nonce, .secDebugReturn r,
    .glitch], exec c s = .next s := by
  simp only [List.forall_mem_cons]
  exact ⟨congrArg Host.Outcome.next (cusReq_of_down h _), congrArg Host.Outcome.next (cusReq_of_down h _),
    congrArg Host.Outcome.next (cusReq_of_down h _), congrArg Host.Outcome.next (cusReq_of_down h _),
    congrArg Host.Outcome.next (cusReq_of_down h _), congrArg Host.Outcome.next (cusReq_of_down h _),
    congrArg Host.Outcome.next (cusReq_of_down h _), congrArg Host.Outcome.next (cusReq_of_down h _),
    congrArg Host.Outcome.next (cusReq_of_down h _), congrArg Host.Outcome.next (if_pos (by simp [h])), List.forall_mem_nil _⟩

theorem cus_failHeld (s : State) (status : Nat) (l : List CusReq) : (s.failHeld status l).cus = s.cus := by
  induction l generalizing s with
  | nil => rfl
  | cons q l ih => exact (ih _).trans (cus_of_completed (completed_mgmtEnd ..))

/-- An activation of the Custodian's image that a glitch ends (R549). -/
def actGlitched (s : State) : State :=
  match s.fw.act with
  | some a =>
    if a.type = 2 then
      match a.desc with
      | some d => ({ s with fw := { s.fw with act := none, lastStatus := 9 } } : State).mgmtEnd d 9 []
      | none => { s with fw := { s.fw with act := none, lastStatus := 9 } }
    else s
  | none => s

theorem cus_actGlitched (s : State) : (actGlitched s).cus = s.cus := by
  simp only [actGlitched]
  (repeat' split)
  · exact (cus_of_completed (completed_mgmtEnd ..) :)
  all_goals rfl

theorem glitch_of_ready (h : s.cus.ready = true) :
    exec .glitch s = .next (actGlitched ((s.failHeld 0x0D s.cus.queue).secEvent 0 5 0 0)).cusStart :=
  congrArg Host.Outcome.next (if_neg (by simp [h]))

theorem glitch_spec (h : s.cus.ready = true) : ∃ t, exec .glitch s = .next t ∧ t.cus.ready = true ∧ t.cus.es = .startup
    ∧ t.cus.testing = true ∧ t.cus.certs = false ∧ t.cus.nonce = none ∧ t.cus.queue = [] ∧ t.cus.dbg = s.cus.dbg.next
    ∧ t.spdm = [] ∧ t.sessions = [] := by
  have hcus : (actGlitched ((s.failHeld 0x0D s.cus.queue).secEvent 0 5 0 0)).cus = s.cus := by
    rw [cus_actGlitched, cus_of_completed (completed_secEvent ..), cus_failHeld]
  exact ⟨_, glitch_of_ready h, rfl, rfl, rfl, rfl, rfl, rfl, congrArg (fun c : Cus => c.dbg.next) hcus, rfl, rfl⟩

/-! ### Entropy (R449 to R455) -/

theorem entropyStartupDone_of_idle (h : s.cus.testing = false) : exec (.entropyStartupDone ok) s = .next s :=
  congrArg Host.Outcome.next (if_pos (by simp [h]))

theorem esFailed_spec (s : State) : s.esFailed.cus.es = .failed ∧ s.esFailed.cus.queue = [] := by
  refine ⟨?_, rfl⟩
  have hes : (s.esFail .failed).cus.es = .failed := congrArg Cus.es (cus_of_completed (completed_secEvent ..))
  exact (congrArg Cus.es (cus_failHeld (s.esFail .failed) 2 s.cus.queue)).trans hes

theorem entropyStartupDone_of_failed (h : s.cus.testing = true) :
    ∃ t, exec (.entropyStartupDone false) s = .next t ∧ t.cus.es = .failed ∧ t.cus.queue = [] :=
  ⟨_, congrArg Host.Outcome.next ((if_neg (by simp [h])).trans (if_pos rfl)), esFailed_spec s⟩

theorem entropyStartupDone_of_passed (h : s.cus.testing = true) : exec (.entropyStartupDone true) s =
    .next (({ s with cus := { s.cus with es := .ready, testing := false, reqs := 0, queue := [] } }.serveHeld
      s.cus.queue).startKeyings allLinks) :=
  congrArg Host.Outcome.next ((if_neg (by simp [h])).trans (if_neg (by decide)))

/-- A sample that fails, with the conditioning block it would have gone into. -/
def blockDropped (s : State) : State :=
  { s with cus := { s.cus with entropy := { s.cus.entropy with fill := 0, discarded := s.cus.entropy.discarded + 1 } } }

theorem testFails_of_up (h : s.drbgUp = true) : s.testFails = (blockDropped s).esFail .retest := by
  simp only [State.testFails, show s.cus.es = .ready from eq_of_beq h]
  rfl

theorem testFails_of_testing (h : s.cus.testing = true) (he : s.cus.es = .startup ∨ s.cus.es = .retest) :
    s.testFails = (blockDropped s).esFailed := by
  rcases he with he | he <;> simp only [State.testFails, he] <;> exact if_pos h

theorem testFails_of_quiet (h : s.cus.testing = false) (he : s.cus.es ≠ .ready) : s.testFails = s := by
  simp only [State.testFails]
  split
  · next hr => exact absurd hr he
  · exact if_neg (ne_true_of_eq_false h)
  · exact if_neg (ne_true_of_eq_false h)
  · rfl

theorem aliasCertIssue_of_up (h : s.drbgUp = true) (hc : s.cus.certs = false) :
    ∃ t, exec .aliasCertIssue s = .next t ∧ t.cus.certs = true ∧ t = { s with cus := t.cus } := by
  have hdrbg : s.drbg 1 = { s with cus := (s.drbg 1).cus } := by
    simp only [State.drbg]
    split <;> rfl
  refine ⟨_, congrArg Host.Outcome.next (if_pos ⟨h, by simp [hc]⟩), rfl, ?_⟩
  dsimp only
  rw [hdrbg]

end

/-- Settles O42: each request that starts by its own guard, then the glitch and the entropy states. -/
theorem custodianRequests : Obligations.CustodianRequests := by
  intro r ok pulses nonce d s0 s go fin ends n k root up
  have hgo {a b : State} (h : a = b) : (Host.Outcome.next (a.ringGo 0 r) : Out) = .next (b.ringGo 0 r) := by rw [h]
  have hopen (hc : k.current.used = false ∨ k.bad = true ∨ k.current.rootTest = root) :
      ¬ (k.current.used = true ∧ k.bad = false ∧ k.current.rootTest ≠ root) := by
    rintro ⟨hu, hb, hr⟩
    rcases hc with hc | hc | hc
    · exact absurd hu (ne_true_of_eq_false hc)
    · exact absurd hc (ne_true_of_eq_false hb)
    · exact hr hc
  refine ⟨secRandom_spec, fun h => ⟨secSlotInfo_reserved ok h, fun hn hu hb hr ho => ?_, secSlotInfo_free ok h⟩,
    fun h => ⟨secSlotGenerate_reserved pulses h, fun hn hk => ?_,
    fun hn hk => ⟨fun hu hf => ?_, fun hu hf => ?_, fun he => ?_, fun hu he => ?_⟩⟩,
    fun h => ⟨secSlotImport_reserved ok pulses h, fun hn => ?_⟩,
    fun h => ⟨secSlotDestroy_reserved ok pulses h, fun hn hu hb hr => ?_, fun hn hc => ⟨fun ho => ?_, fun ho => ?_⟩⟩,
    fun h => ⟨fun ha => ?_, fun ha hc => ?_, fun ha hc => ?_⟩, fun h => ⟨secNonce_of_down h, secNonce_of_up h⟩,
    fun h => ⟨fun hr => ?_, fun hr ho hn => ?_, fun hr hc => ?_⟩, fun h => ⟨fun hd => ?_, fun hd => ?_, fun hd => ?_⟩,
    custodian_of_down r ok pulses nonce, glitch_spec, entropyStartupDone_of_idle ok, fun ht ho => ?_, fun ht ho => ?_,
    ⟨fun hu => congrArg Host.Outcome.next (testFails_of_up hu),
    fun ht he => congrArg Host.Outcome.next (testFails_of_testing ht he),
      fun ht he => congrArg Host.Outcome.next (testFails_of_quiet ht he)⟩, fun he => congrArg Host.Outcome.next (if_pos he),
    fun he => congrArg Host.Outcome.next (if_neg he), fun hu hn => congrArg Host.Outcome.next (if_pos ⟨hu, hn⟩),
    fun hu => congrArg Host.Outcome.next (if_neg fun hc => hu.elim (fun h => h hc.1) (Nat.not_lt.2 hc.2)),
    aliasCertIssue_of_up, fun hu => congrArg Host.Outcome.next (if_neg fun hc => ?_)⟩
  · subst ho
    exact secSlotInfo_fails h hn hu hb hr
  · exact (secSlotGenerate_of_kind pulses h hn).trans (hgo (if_pos hk))
  · refine (secSlotGenerate_of_kind pulses h hn).trans (hgo ((if_neg (by rw [hk]; decide)).trans ?_))
    rw [keyRequest_of_up ((drbgUp_of_cus (cus_of_starts h)).trans hu),
      serveReq_of_taken (q := ⟨d.id, 0x402, d.arg0, true, pulses, []⟩) (slotFree_of_cus (cus_of_starts h) n) hf]
  · refine (secSlotGenerate_of_kind pulses h hn).trans (hgo ((if_neg (by rw [hk]; decide)).trans ?_))
    rw [keyRequest_of_up ((drbgUp_of_cus (cus_of_starts h)).trans hu), serveReq_of_generate
      (q := ⟨d.id, 0x402, d.arg0, true, pulses, []⟩) ((slotFree_of_cus (cus_of_starts h) n).trans hf) rfl]
  · refine (secSlotGenerate_of_kind pulses h hn).trans (hgo ((if_neg (by rw [hk]; decide)).trans ?_))
    exact keyRequest_of_failed ((congrArg Cus.es (cus_of_starts h)).trans he)
  · refine (secSlotGenerate_of_kind pulses h hn).trans (hgo ((if_neg (by rw [hk]; decide)).trans ?_))
    rw [← cus_of_starts h]
    exact keyRequest_of_waiting (by rwa [drbgUp_of_cus (cus_of_starts h)]) (by rwa [cus_of_starts h])
  · intro b type usage good
    have hcus := cus_of_starts h
    have harg := (importReq_fields ok d.id (Nat.mod_lt d.arg0 (by decide)) (s0.mgmtIn d) pulses).1
    refine ⟨fun hu hf => ?_, fun hu hf hg => ?_, fun hu hf hg => ?_, fun he => ?_⟩
    · refine (secSlotImport_of_known ok pulses h hn).trans (hgo ?_)
      rw [keyRequest_of_up ((drbgUp_of_cus hcus).trans hu),
        serveReq_of_taken ((congrArg s0.slotFree harg).trans (slotFree_of_cus hcus n)) hf]
      rfl
    · have hbad : ¬ (importReq d.id (d.arg0 % 256) (s0.mgmtIn d) ok pulses).ok = true := by
        simpa [importReq, good, type, usage, b, and_assoc] using hg
      rw [secSlotImport_of_free ok pulses h hn hu hf, if_neg hbad]
    · have hgood : (importReq d.id (d.arg0 % 256) (s0.mgmtIn d) ok pulses).ok = true := by
        simpa [importReq, good, type, usage, b, and_assoc] using hg
      rw [secSlotImport_of_free ok pulses h hn hu hf, if_pos hgood] <;> rfl
    · exact (secSlotImport_of_known ok pulses h hn).trans (hgo (keyRequest_of_failed ((congrArg Cus.es hcus).trans he)))
  · exact (secSlotDestroy_of_known ok pulses h hn).trans (hgo (if_pos ⟨hu, hb, hr⟩))
  · exact (secSlotDestroy_of_known ok pulses h hn).trans (hgo ((if_neg (hopen hc)).trans (if_pos ho)))
  · exact (secSlotDestroy_of_known ok pulses h hn).trans (hgo ((if_neg (hopen hc)).trans (if_neg (ne_true_of_eq_false ho))))
  · exact (secCerts_of_starts h).trans (hgo (if_pos ha))
  · exact (secCerts_of_starts h).trans (hgo ((if_neg (Nat.not_lt.2 ha)).trans (if_neg (by rw [hc]; decide))))
  · exact (secCerts_of_starts h).trans (hgo ((if_neg (Nat.not_lt.2 ha)).trans (if_pos hc)))
  · exact (secDebugToken_of_starts ok nonce h).trans (hgo (if_pos hr))
  · exact (secDebugToken_of_starts ok nonce h).trans (hgo ((if_neg (ne_true_of_eq_false hr)).trans (if_pos ⟨ho, hn⟩)))
  · refine (secDebugToken_of_starts ok nonce h).trans (hgo ((if_neg (ne_true_of_eq_false hr)).trans (if_neg fun hn => ?_)))
    exact hc.elim (fun ho => absurd hn.1 (ne_true_of_eq_false ho)) fun hno => hno hn.2
  · rw [← cus_of_starts h] at hd ⊢
    exact (secDebugReturn_of_starts h).trans (hgo (debugReturned_of_debug hd d.id))
  · rw [← cus_of_starts h] at hd ⊢
    exact (secDebugReturn_of_starts h).trans (hgo (debugReturned_of_pending hd d.id))
  · rw [← cus_of_starts h] at hd
    exact (secDebugReturn_of_starts h).trans (hgo (debugReturned_of_other hd d.id))
  · subst ho
    exact entropyStartupDone_of_failed ht
  · subst ho
    exact entropyStartupDone_of_passed ht
  · exact hu.elim (fun h => h hc.1) fun h => by simp [h] at hc

end Sys2Proof.Laws
end

section
/-! PROOFS. Working keys: the re-encryption of regions and the keying of links (spec/17: R464 to R473). -/
namespace Sys2Proof.Laws

open Machine

/-! ### Regions (R464, R465) -/

section

variable (s : State)

/-- From `s` to `t` a walk over region `q` has gone on: of the region only the writes under its new keys have changed, and nothing of
the memory's cells or of the Custodian. -/
def Walked (q : Nat) (s t : State) : Prop :=
  t.hbm = s.hbm ∧ t.cus = s.cus ∧ ∃ w, t.region q = { s.region q with newWrites := w }

variable {s} in
theorem walked_trans {q : Nat} {t u : State} (h : Walked q s t) (h' : Walked q t u) : Walked q s u := by
  obtain ⟨hm, hc, w, hr⟩ := h
  obtain ⟨hm', hc', w', hr'⟩ := h'
  exact ⟨hm'.trans hm, hc'.trans hc, w', by rw [hr', hr]⟩

theorem walked_of_eq {q : Nat} {t : State} (hm : t.hbm = s.hbm) (hc : t.cus = s.cus) (hr : t.region q = s.region q) :
    Walked q s t :=
  ⟨hm, hc, _, hr⟩

theorem completed_integrityAlarm (p ipa : Nat) : Completed s (s.integrityAlarm p ipa) :=
  completed_trans (by exact rfl) (completed_of_reported (reported_trans (reported_msix ..) (reported_trans (reported_ledgerPart ..)
    (reported_mbEvent ..))))

theorem walked_integrityAlarm (q p ipa : Nat) : Walked q s (s.integrityAlarm p ipa) := by
  rw [completed_integrityAlarm]
  exact walked_of_eq s rfl rfl rfl

theorem walked_markPoison (q sec : Nat) : Walked q s (s.markPoison sec) := walked_of_eq s rfl rfl rfl

theorem walked_reencrypt (q sec : Nat) (bad : Bool) : Walked q s (s.reencrypt q sec bad) := by
  simp only [State.reencrypt]
  split
  · exact walked_of_eq s rfl rfl rfl
  · next t ht =>
    have hset : Walked q s ((s.setTag sec (some { t with keyNo := (s.region q).newKeyNo })).setRegion q
        { s.region q with newWrites := (s.region q).newWrites + 1 }) := ⟨rfl, rfl, _, region_setRegion ..⟩
    split
    · exact walked_trans hset (walked_trans (walked_markPoison ..) (walked_integrityAlarm ..))
    · exact hset

theorem walked_walkRest (q : Nat) (bad l : List Nat) : Walked q s (s.walkRest q bad l) := by
  induction l generalizing s with
  | nil => exact walked_of_eq s rfl rfl rfl
  | cons sec l ih => exact walked_trans (walked_reencrypt ..) (ih _)

end

section

variable {s : State} {q : RegionId}

theorem regionRekey_of_lowest (hu : s.drbgUp = true) (hd : s.rekeyDue q = true)
    (ho : ∀ n < 12, (s.region (q.val / 12 * 12 + n)).rekeying = false
      ∧ (q.val / 12 * 12 + n < q.val → s.rekeyDue (q.val / 12 * 12 + n) = false)) :
    ∃ t, exec (.regionRekey q) s = .next t ∧ (t.region q).rekeying = true ∧ (t.region q).pointer = 0 ∧ (t.region q).newWrites = 0
      ∧ (t.region q).keyNo = (s.region q).keyNo ∧ t.hbm = s.hbm ∧ t.tags = s.tags := by
  have hdrbg : s.newKey.1 = { s with cus := s.newKey.1.cus } := by
    simp only [State.newKey, State.drbg]
    split <;> rfl
  have hothers : (((List.range 12).map fun r => q.val / 12 * 12 + r).all fun x =>
      !(s.region x).rekeying && (decide (q.val ≤ x) || !s.rekeyDue x)) = true := by
    simp only [List.all_map, List.all_eq_true, List.mem_range, Function.comp_apply, Bool.and_eq_true, Bool.or_eq_true,
      Bool.not_eq_true', decide_eq_true_eq]
    exact fun n hn => ⟨(ho n hn).1, (Nat.lt_or_ge _ _).symm.imp_right (ho n hn).2⟩
  refine ⟨_, congrArg Host.Outcome.next (if_pos ⟨hu, hd, hothers⟩), ?_⟩
  dsimp only
  rw [region_modRegion, hdrbg]
  exact ⟨rfl, rfl, rfl, rfl, rfl, rfl⟩

theorem regionRekey_of_undue (h : s.drbgUp = false ∨ s.rekeyDue q = false) : exec (.regionRekey q) s = .next s :=
  congrArg Host.Outcome.next (if_neg fun hc => by rcases h with h | h <;> simp [h] at hc)

variable (bad : List Nat) (ok : Bool)

theorem reencryptDone_of_idle (h : (s.region q).rekeying = false) : exec (.reencryptDone q bad ok) s = .next s :=
  congrArg Host.Outcome.next (if_pos (by simp [h]))

/-- A region whose walk has ended: the new keys are its keys. -/
def Region.rekeyed (r : Region) : Region :=
  { r with rekeying := false, halted := false, pointer := 0, writes := r.newWrites, newWrites := 0, keyNo := r.newKeyNo,
           newKeyNo := 0, rekeys := satAdd 0xFFFFFFFF r.rekeys 1 }

theorem reencryptDone_of_walk (h : (s.region q).rekeying = true) : ∃ x, Walked q s x ∧ exec (.reencryptDone q bad ok) s =
    .next (if ok then x.modRegion q Region.rekeyed else ({ x.modRegion q Region.rekeyed with
      cus := { x.cus with badKeys := x.cus.badKeys ++ [q.val] } }.secAlarm 4).ledger 0x0808 (srcOf3 0xFF 0 0) q 0 0) :=
  ⟨_, walked_walkRest .., congrArg Host.Outcome.next (if_neg (by simp [h]))⟩

theorem completed_keyAlarm (x : State) : Completed x ((x.secAlarm 4).ledger 0x0808 (srcOf3 0xFF 0 0) q 0 0) :=
  completed_trans (completed_secAlarm ..) (completed_of_reported (reported_ledger ..))

theorem reencryptDone_spec (h : (s.region q).rekeying = true) : ∃ t, exec (.reencryptDone q bad ok) s = .next t
    ∧ (t.region q).rekeying = false ∧ (t.region q).halted = false ∧ (t.region q).pointer = 0
    ∧ (t.region q).keyNo = (s.region q).newKeyNo ∧ (t.region q).rekeys = satAdd 0xFFFFFFFF (s.region q).rekeys 1
    ∧ t.hbm = s.hbm ∧ (ok = false → t.cus.badKeys = s.cus.badKeys ++ [q.val]) ∧ (ok = true → t.cus = s.cus) := by
  obtain ⟨x, ⟨hm, hc, w, hr⟩, ht⟩ := reencryptDone_of_walk bad ok h
  have hregion : (x.modRegion q Region.rekeyed).region q = Region.rekeyed { s.region q with newWrites := w } := by
    rw [region_modRegion, hr]
  refine ⟨_, ht, ?_⟩
  cases ok with
  | true =>
    rw [if_pos rfl, hregion]
    exact ⟨rfl, rfl, rfl, rfl, rfl, hm, nofun, fun _ => hc⟩
  | false =>
    rw [if_neg (by decide), completed_keyAlarm]
    refine ⟨congrArg Region.rekeying hregion, congrArg Region.halted hregion, congrArg Region.pointer hregion,
      congrArg Region.keyNo hregion, congrArg Region.rekeys hregion, hm, fun _ => ?_, nofun⟩
    rw [← hc]
    rfl

end

/-! ### Messages of an exchange (R468) -/

theorem all_zip_crc (ps macs : List Nat) (h : macs.length = ps.length) :
    ((ps.zip macs).all fun x => x.2 == wordCrc 7 x.1) = true ↔ macs = ps.map (wordCrc 7) := by
  induction ps generalizing macs with
  | nil => simpa using List.length_eq_zero_iff.1 h
  | cons p ps ih =>
    cases macs with
    | nil => exact absurd h (by simp)
    | cons m macs => simp [ih macs (Nat.succ.inj h)]

/-- The words of a message in QUARANTINE, each with its CRC. -/
def GoodWords (ps cctrs macs : List Nat) : Prop := cctrs.length = ps.length ∧ macs = ps.map (wordCrc 7)

theorem rekeyWords_nil (msg xid small : Nat) : rekeyWords msg xid [] small = [rekeyPayload msg xid 0 small] := by
  simp [rekeyWords, rekeyRest]

theorem goodWords_short {msg xid small mac : Nat} (cctr : Nat) :
    GoodWords (rekeyWords msg xid [] small) [cctr] [mac] ↔ mac = wordCrc 7 (rekeyPayload msg xid 0 small) := by
  rw [rekeyWords_nil]
  simp [GoodWords]

section

variable {s : State} {i : Nat} {ps cctrs macs : List Nat} (f : State → State)

/-- The Custodian can serve a message of an exchange. -/
def KeyingUp (s : State) : Prop := s.drbgUp = true ∧ s.cus.ready = true

theorem rekeyWord_of_good (hq : (s.lnk i).st = .quarantine) (hu : KeyingUp s) (hg : GoodWords ps cctrs macs) :
    s.rekeyWord i ps cctrs macs f = f s := by
  obtain ⟨hlen, rfl⟩ := hg
  exact (if_neg (by simp [hlen])).trans ((if_pos hq).trans (if_pos ⟨hu.1, hu.2, (all_zip_crc _ _ (by simp)).2 rfl⟩))

theorem rekeyWord_of_bad (hq : (s.lnk i).st = .quarantine) (h : ¬ KeyingUp s ∨ ¬ GoodWords ps cctrs macs) :
    s.rekeyWord i ps cctrs macs f = s := by
  simp only [State.rekeyWord]
  split
  · rfl
  · next hlen =>
    obtain ⟨hc, hm⟩ := not_or.1 hlen
    refine if_neg fun ⟨hu, hr, hall⟩ => ?_
    exact h.elim (fun h => h ⟨hu, hr⟩) fun h => h ⟨not_not.1 hc, (all_zip_crc _ _ (not_not.1 hm)).1 hall⟩

/-- In QUARANTINE a message either is not acted on or is acted on in the state it meets. -/
theorem rekeyWord_of_quarantine (hq : (s.lnk i).st = .quarantine) (hf : f s = s) : s.rekeyWord i ps cctrs macs f = s := by
  by_cases h : KeyingUp s ∧ GoodWords ps cctrs macs
  · rw [rekeyWord_of_good f hq h.1 h.2, hf]
  · exact rekeyWord_of_bad f hq (not_and_or.1 h)

theorem rekeyWord_of_closed (hq : (s.lnk i).st ≠ .quarantine) (hc : (s.lnk i).carries = false) :
    s.rekeyWord i ps cctrs macs f = s := by
  simp only [State.rekeyWord]
  split
  · rfl
  · exact if_neg (ne_true_of_eq_false hc)

/-- On a link that carries flits each word is taken with its MAC and counter. -/
theorem rekeyWord_of_carries (hc : (s.lnk i).carries = true) (hl : cctrs.length = ps.length) (hm : macs.length = ps.length) :
    s.rekeyWord i ps cctrs macs f =
      if (s.takeWords i (ps.zip (cctrs.zip macs))).2 ∧ (s.takeWords i (ps.zip (cctrs.zip macs))).1.drbgUp
        ∧ (s.takeWords i (ps.zip (cctrs.zip macs))).1.cus.ready then f (s.takeWords i (ps.zip (cctrs.zip macs))).1
      else (s.takeWords i (ps.zip (cctrs.zip macs))).1 :=
  (if_neg (by simp [hl, hm])).trans ((if_neg (not_quarantine_of_carries hc)).trans (if_pos hc))

/-- A message of the exchange acknowledged and noted as received (R468). -/
def messageTaken (s : State) (i xid msg : Nat) : State :=
  (s.ackRekey i xid msg).modExch i fun y => { y with received := y.received ++ [msg] }

variable {xid msg : Nat} {ok : Exchange → Bool} {x : Exchange} (g : Exchange → State → State)

theorem takeRekey_of_next (hx : (s.lnk i).exch = some x) (hid : x.xid = xid) (hn : msg ∉ x.received) (hok : ok x = true) :
    s.takeRekey i xid msg ok g = g x (messageTaken s i xid msg) := by
  simp only [State.takeRekey, hx]
  exact (if_neg (by simp [hid, hok])).trans (if_neg (by simpa using hn))

theorem takeRekey_of_other (hx : (s.lnk i).exch = some x) (hid : x.xid ≠ xid) : s.takeRekey i xid msg ok g = s := by
  simp only [State.takeRekey, hx]
  exact if_pos (.inl hid)

end

/-! ### The messages of an exchange, in QUARANTINE (R469, R470) -/

section

variable (i : LinkId) (m : RekeyMsg) (cctrs macs : List Nat) (xid : Fin 256) (msg : Fin 8) (chains debug ok : Bool)
  (cctr : Fin (2 ^ 48)) (mac : W64) (epoch : W32) (s : State)

/-- The messages that come in several words, with their numbers. -/
noncomputable def longMessages : List (Nat × Instr) := [(1, .rekeyInit i m cctrs macs), (2, .rekeyResp i m cctrs macs),
  (3, .rekeyCert i m chains debug cctrs macs), (4, .rekeySign i m ok cctrs macs)]

/-- The messages of one word, with their numbers and what they carry. -/
noncomputable def shortMessages : List (Nat × Nat × Instr) := [(5, msg.val, .rekeyAck i xid msg cctr mac),
  (6, epoch.toNat, .rekeySwitch i xid epoch cctr mac), (7, 0, .rekeyAbort i xid cctr mac)]

/-- The words of a message in QUARANTINE. -/
def Good (kind : Nat) : Prop := GoodWords (rekeyWords kind m.xid m.data 0) cctrs macs

/-- The word of a message of one word. -/
def GoodOne (kind data : Nat) : Prop := mac.toNat = wordCrc 7 (rekeyPayload kind xid 0 data)

/-- A message of several words is a `rekeyWord` of those words. -/
theorem longMessages_eq {w : Nat × Instr} (h : w ∈ longMessages i m cctrs macs chains debug ok) :
    ∃ f : State → State, exec w.2 s = .next (s.rekeyWord i (rekeyWords w.1 m.xid m.data 0) cctrs macs f) := by
  simp only [longMessages, List.mem_cons, List.not_mem_nil, or_false] at h
  rcases h with rfl | rfl | rfl | rfl <;> exact ⟨_, rfl⟩

theorem shortMessages_eq {w : Nat × Nat × Instr} (h : w ∈ shortMessages i xid msg cctr mac epoch) :
    ∃ f : State → State, exec w.2.2 s = .next (s.rekeyWord i (rekeyWords w.1 xid [] w.2.1) [cctr] [mac.toNat] f) := by
  simp only [shortMessages, List.mem_cons, List.not_mem_nil, or_false] at h
  rcases h with rfl | rfl | rfl <;> exact ⟨_, rfl⟩

variable {s}

theorem long_of_bad (hq : (s.lnk i).st = .quarantine) : ∀ w ∈ longMessages i m cctrs macs chains debug ok,
    (¬ KeyingUp s ∨ ¬ Good m cctrs macs w.1) → exec w.2 s = .next s := by
  intro w hw hb
  obtain ⟨f, hf⟩ := longMessages_eq i m cctrs macs chains debug ok s hw
  rw [hf, rekeyWord_of_bad f hq hb]

theorem short_of_bad (hq : (s.lnk i).st = .quarantine) : ∀ w ∈ shortMessages i xid msg cctr mac epoch,
    (¬ KeyingUp s ∨ ¬ GoodOne xid mac w.1 w.2.1) → exec w.2.2 s = .next s := by
  intro w hw hb
  obtain ⟨f, hf⟩ := shortMessages_eq i xid msg cctr mac epoch s hw
  rw [hf, rekeyWord_of_bad f hq (hb.imp_right (mt (goodWords_short _).1))]

theorem messages_of_closed (hq : (s.lnk i).st ≠ .quarantine) (hc : (s.lnk i).carries = false) :
    ∀ w ∈ (longMessages i m cctrs macs chains debug ok).map (·.2) ++ (shortMessages i xid msg cctr mac epoch).map (·.2.2),
      exec w s = .next s := by
  intro w hw
  rcases List.mem_append.1 hw with hw | hw <;> obtain ⟨v, hv, rfl⟩ := List.mem_map.1 hw
  · obtain ⟨f, hf⟩ := longMessages_eq i m cctrs macs chains debug ok s hv
    rw [hf, rekeyWord_of_closed f hq hc]
  · obtain ⟨f, hf⟩ := shortMessages_eq i xid msg cctr mac epoch s hv
    rw [hf, rekeyWord_of_closed f hq hc]

/-- The words of a message taken on a link that carries flits. -/
def wordsTaken (s : State) (i : Nat) (m : RekeyMsg) (cctrs macs : List Nat) (kind : Nat) : State × Bool :=
  s.takeWords i ((rekeyWords kind m.xid m.data 0).zip (cctrs.zip macs))

theorem long_of_refused (hc : (s.lnk i).carries = true) : ∀ w ∈ longMessages i m cctrs macs chains debug ok,
    cctrs.length = (rekeyWords w.1 m.xid m.data 0).length → macs.length = (rekeyWords w.1 m.xid m.data 0).length →
      ((wordsTaken s i m cctrs macs w.1).2 = false ∨ (wordsTaken s i m cctrs macs w.1).1.drbgUp = false
        ∨ (wordsTaken s i m cctrs macs w.1).1.cus.ready = false) → exec w.2 s = .next (wordsTaken s i m cctrs macs w.1).1 := by
  intro w hw hl hm hb
  obtain ⟨f, hf⟩ := longMessages_eq i m cctrs macs chains debug ok s hw
  rw [hf, rekeyWord_of_carries f hc hl hm]
  exact congrArg Host.Outcome.next (if_neg fun h => by
    rcases hb with hb | hb | hb
    · exact absurd h.1 (ne_true_of_eq_false hb)
    · exact absurd h.2.1 (ne_true_of_eq_false hb)
    · exact absurd h.2.2 (ne_true_of_eq_false hb))

variable (hq : (s.lnk i).st = .quarantine)

include hq

/-- A message of the exchange of another number is not acted on. -/
theorem exchange_of_other {x : Exchange} (hx : (s.lnk i).exch = some x) (hid : x.xid ≠ m.xid) :
    ∀ c ∈ [Instr.rekeyResp i m cctrs macs, .rekeyCert i m chains debug cctrs macs, .rekeySign i m ok cctrs macs],
    exec c s = .next s := by
  simp only [List.forall_mem_cons]
  exact ⟨congrArg Host.Outcome.next (rekeyWord_of_quarantine _ hq (takeRekey_of_other _ hx hid)),
    congrArg Host.Outcome.next (rekeyWord_of_quarantine _ hq (takeRekey_of_other _ hx hid)),
    congrArg Host.Outcome.next (rekeyWord_of_quarantine _ hq (takeRekey_of_other _ hx hid)), List.forall_mem_nil _⟩

theorem exchangeEnd_of_other {x : Exchange} (hx : (s.lnk i).exch = some x) (hid : x.xid ≠ xid.val) :
    ∀ c ∈ [Instr.rekeyAck i xid msg cctr mac, .rekeyAbort i xid cctr mac], exec c s = .next s := by
  simp only [List.forall_mem_cons]
  refine ⟨congrArg Host.Outcome.next (rekeyWord_of_quarantine _ hq ?_),
    congrArg Host.Outcome.next (rekeyWord_of_quarantine _ hq ?_),
    List.forall_mem_nil _⟩
  · simp only [hx]
    exact if_pos (.inl hid)
  · simp only [hx]
    exact if_neg hid

variable (hu : KeyingUp s)

include hu

/-- INIT with no exchange in progress: the end with the higher SERIAL answers. -/
theorem rekeyInit_of_first (hg : Good m cctrs macs 1) (hx : (s.lnk i).exch = none) {h : Hello} (hh : (s.lnk i).hello = some h) :
    exec (.rekeyInit i m cctrs macs) s = .next (if Config.serial.toNat < h.serial then s else s.answerInit i m.xid m.data) := by
  refine congrArg Host.Outcome.next ((rekeyWord_of_good _ hq hu hg).trans ?_)
  simp only [hh, hx, hq]
  by_cases hl : Config.serial.toNat < h.serial
  · rw [if_pos hl]
    exact if_pos (by simp [hl])
  · rw [if_neg hl]
    exact if_neg (by simp [hl])

theorem rekeyResp_of_full (hg : Good m cctrs macs 2) {x : Exchange} (hx : (s.lnk i).exch = some x) (hid : x.xid = m.xid)
    (hn : 2 ∉ x.received) (hi : x.initiator = true) (hr : x.rollover = false) :
    exec (.rekeyResp i m cctrs macs) s = .next (let y := ((messageTaken s i m.xid 2).takeResp i x m.data).1
      y.sendRekey i 3 m.xid y.linkCert 0) := by
  refine congrArg Host.Outcome.next ((rekeyWord_of_good _ hq hu hg).trans ((takeRekey_of_next _ hx hid hn hi).trans ?_))
  exact if_neg (ne_true_of_eq_false hr)

theorem rekeyCert_of_full (hg : Good m cctrs macs 3) {x : Exchange} (hx : (s.lnk i).exch = some x) (hid : x.xid = m.xid)
    (hn : 3 ∉ x.received) (hr : x.rollover = false) (ht : (if x.initiator then 2 else 1) ∈ x.received) :
    exec (.rekeyCert i m chains debug cctrs macs) s = .next (let a := messageTaken s i m.xid 3
      if !chains then a.keyingAlarm i m.xid
      else if !debug then a.abortKeying i m.xid true
      else
        let y := if x.hasSent 3 = true then a else a.sendRekey i 3 m.xid a.linkCert 0
        ((y.drbg 1).draw.draw).sendRekey i 4 m.xid (y.signBytes i x) 0) :=
  congrArg Host.Outcome.next ((rekeyWord_of_good _ hq hu hg).trans (takeRekey_of_next _ hx hid hn (by simpa [hr] using ht)))

theorem rekeySign_of_full (hg : Good m cctrs macs 4) {x : Exchange} (hx : (s.lnk i).exch = some x) (hid : x.xid = m.xid)
    (hn : 4 ∉ x.received) (hr : x.rollover = false) (ht : 3 ∈ x.received) :
    exec (.rekeySign i m ok cctrs macs) s = .next (if ok then (messageTaken s i m.xid 4).sendRekey i 6 m.xid [] 0
      else (messageTaken s i m.xid 4).keyingAlarm i m.xid) := by
  refine congrArg Host.Outcome.next ((rekeyWord_of_good _ hq hu hg).trans
    ((takeRekey_of_next _ hx hid hn (by simpa [hr] using ht)).trans ?_))
  simp only [State.sendSwitch, hr, hid]
  rfl

theorem rekeyAck_of_full (hg : GoodOne xid mac 5 msg) {x : Exchange} (hx : (s.lnk i).exch = some x) (hid : x.xid = xid.val)
    (hs : x.hasSent msg = true) (ha : msg.val ∉ x.acked) (hr : x.rollover = false) : exec (.rekeyAck i xid msg cctr mac) s =
      .next ((s.modExch i fun y => { y with acked := y.acked ++ [msg.val] }).keyingDone i) := by
  refine congrArg Host.Outcome.next ((rekeyWord_of_good _ hq hu ((goodWords_short _).2 hg)).trans ?_)
  simp only [hx]
  exact (if_neg (by simp [hid, hs, ha])).trans (congrArg (State.keyingDone · i) (if_neg (by simp [hr])))

theorem rekeySwitch_of_full (hg : GoodOne xid mac 6 epoch.toNat) (he : epoch.toNat = 0)
    {x : Exchange} (hx : (s.lnk i).exch = some x)
    (hid : x.xid = xid.val) (hn : 6 ∉ x.received) (hr : x.rollover = false) (ht : 4 ∈ x.received) :
    exec (.rekeySwitch i xid epoch cctr mac) s = .next ((messageTaken s i xid 6).keyingDone i) := by
  refine congrArg Host.Outcome.next ((rekeyWord_of_good _ hq hu ((goodWords_short _).2 hg)).trans ?_)
  exact congrArg (State.keyingDone · i) (takeRekey_of_next _ hx hid hn (by simpa [hr, he] using ht))

theorem rekeyAbort_of_own (hg : GoodOne xid mac 7 0) {x : Exchange} (hx : (s.lnk i).exch = some x) (hid : x.xid = xid.val) :
    exec (.rekeyAbort i xid cctr mac) s = .next (s.keyingFails i true) := by
  refine congrArg Host.Outcome.next ((rekeyWord_of_good _ hq hu ((goodWords_short _).2 hg)).trans ?_)
  simp only [hx]
  exact if_pos hid

end

/-! ### The keys of an exchange taken into use (R469, R471, R472) -/

section

variable (s : State) (i : Nat)

theorem rekeyOut_spec (msg xid : Nat) (bs : List Byte) (small : Nat) : (s.rekeyOut i msg xid bs small).regs = s.regs
    ∧ ∃ c, (s.rekeyOut i msg xid bs small).lnk i = { s.lnk i with txCctr := c } := by
  simp only [State.rekeyOut, State.sendWords]
  split
  · exact ⟨rfl, _, lnk_setLnk ..⟩
  · exact ⟨rfl, _, rfl⟩

theorem lnk_messageTaken (xid msg : Nat) : ∃ c, (messageTaken s i xid msg).lnk i = { s.lnk i with
    txCctr := c, exch := (s.lnk i).exch.map fun y => { y with received := y.received ++ [msg] } } := by
  obtain ⟨c, hc⟩ := (rekeyOut_spec s i 5 xid [] msg).2
  refine ⟨c, ?_⟩
  rw [messageTaken, State.modExch, lnk_modLnk, State.ackRekey, hc]

theorem transcript_messageTaken (xid msg : Nat) (initiator : Bool) (a b : List Byte) :
    (messageTaken s i xid msg).transcript i initiator a b = s.transcript i initiator a b := by
  obtain ⟨c, hc⟩ := lnk_messageTaken s i xid msg
  have hregs : (messageTaken s i xid msg).regs = s.regs := (rekeyOut_spec s i 5 xid [] msg).1
  simp only [State.transcript, State.reg, hc, hregs]

/-- SWITCH on a rollover: what follows is under the new key, at the next epoch. -/
theorem sendSwitch_of_rollover {x : Exchange} {ks : Nat × Nat} (hr : x.rollover = true) (hk : x.keys = some ks) :
    ∃ e, (s.sendSwitch i x).lnk i =
      { s.lnk i with txCtr := 0, txCctr := 0, keyEpoch := (s.lnk i).keyEpoch + 1, txKey := ks.1, exch := e } := by
  obtain ⟨c, hc⟩ := (rekeyOut_spec s i 6 x.xid [] ((s.lnk i).keyEpoch + 1)).2
  refine ⟨(s.lnk i).exch.map fun y => { y with sent := y.sent ++ [(6, [])] }, ?_⟩
  rw [State.sendSwitch, if_pos hr, lnk_modLnk, State.sendRekey, lnk_modLnk, hc]
  simp only [hk]

end

section

variable {s : State} {i : LinkId} {x : Exchange}

/-- RESP on a rollover: the new send key is in use with the next key epoch, the new receive key is pending. -/
theorem rekeyResp_of_rollover {m : RekeyMsg} {cctrs macs : List Nat} {s1 : State} (hc : (s.lnk i).carries = true)
    (hl : cctrs.length = (rekeyWords 2 m.xid m.data 0).length) (hm : macs.length = (rekeyWords 2 m.xid m.data 0).length)
    (hw : s.takeWords i ((rekeyWords 2 m.xid m.data 0).zip (cctrs.zip macs)) = (s1, true)) (hu : KeyingUp s1)
    (hx : (s1.lnk i).exch = some x) (hid : x.xid = m.xid) (hn : 2 ∉ x.received) (hi : x.initiator = true) (hr : x.rollover = true) :
    let ks := agreedKeys (respSecret x.eph m.data) (s1.transcript i true x.initMsg m.data) true true
    ∃ t e, exec (.rekeyResp i m cctrs macs) s = .next t ∧ t.lnk i = { s1.lnk i with
      txKey := ks.1, keyEpoch := (s1.lnk i).keyEpoch + 1, txCtr := 0, txCctr := 0, exch := e,
      pending := some (ks.2, (s1.lnk i).rxEpoch + 1) } := by
  intro ks
  have hks : agreedKeys (respSecret x.eph m.data) ((messageTaken s1 i m.xid 2).transcript i true x.initMsg m.data) x.rollover true
      = ks := by
    rw [transcript_messageTaken, hr]
  obtain ⟨c, hlnk⟩ := lnk_messageTaken s1 i m.xid 2
  have hexec : exec (.rekeyResp i m cctrs macs) s = .next (((((messageTaken s1 i m.xid 2).modExch i fun y =>
      { y with respMsg := m.data, keys := some ks }).modLnk i fun l => l.holdPending ks).sendSwitch i
        { x with respMsg := m.data, keys := some ks })) := by
    refine congrArg Host.Outcome.next ((rekeyWord_of_carries _ hc hl hm).trans ?_)
    rw [hw]
    refine (if_pos ⟨rfl, hu⟩).trans ((takeRekey_of_next _ hx hid hn hi).trans ((if_pos hr).trans ?_))
    simp only [State.takeResp, hks]
  obtain ⟨e, he⟩ := sendSwitch_of_rollover (((messageTaken s1 i m.xid 2).modExch i fun y =>
      { y with respMsg := m.data, keys := some ks }).modLnk i fun l => l.holdPending ks) i
        (x := { x with respMsg := m.data, keys := some ks }) hr rfl
  refine ⟨_, e, hexec, ?_⟩
  rw [he, lnk_modLnk, State.modExch, lnk_modLnk, hlnk]
  rfl

/-- A link keyed under the keys that its exchange has agreed. -/
def switched (l : Link) (x : Exchange) : Link :=
  { l.loadKeys x with exch := none, keyed := true, keys := .keyed, retryKey := false }

/-- Full keying with a SWITCH both ways: the link is keyed. -/
theorem keyingDone_of_switched (hx : (s.lnk i).exch = some x) (h : 6 ∈ x.received) (h' : 6 ∈ x.acked) :
    ∃ c, (s.keyingDone i).lnk i = { switched (s.lnk i) x with cause := c } := by
  have heq : s.keyingDone i = (s.modLnk i fun l => switched l x).requar i := by
    simp only [State.keyingDone, hx]
    exact if_pos ⟨by simpa using h, by simpa using h'⟩
  rw [heq, State.requar]
  split
  · exact ⟨_, by rw [lnk_modLnk, lnk_modLnk]⟩
  · exact ⟨_, by rw [lnk_modLnk]⟩

end

/-! ### What is repeated, retried and counted (R468, R470 to R473) -/

section

variable {s : State} {i : LinkId}

theorem resend_and_timeout_of_none (h : (s.lnk i).exch = none) :
    exec (.rekeyResend i) s = .next s ∧ exec (.rekeyTimeout i) s = .next s := by
  constructor
  · show execRekeyResend i s = _
    simp only [execRekeyResend, h]
  · show execRekeyTimeout i s = _
    simp only [execRekeyTimeout, h]

theorem resend_and_timeout_of_some {x : Exchange} (h : (s.lnk i).exch = some x) :
    exec (.rekeyResend i) s = .next (s.resendRekey i x.xid (x.sent.filter fun y => !x.acked.contains y.1))
      ∧ exec (.rekeyTimeout i) s = .next (s.abortKeying i x.xid true) := by
  constructor
  · show execRekeyResend i s = _
    simp only [execRekeyResend, h]
  · show execRekeyTimeout i s = _
    simp only [execRekeyTimeout, h]

theorem keyingRetry_of_undue (h : (s.lnk i).retryKey = false) : exec (.keyingRetry i) s = .next s :=
  congrArg Host.Outcome.next (if_pos (by simp [h]))

theorem keyingRetry_of_due (h : (s.lnk i).retryKey = true) : exec (.keyingRetry i) s = .next (
    if (s.lnk i).st = .quarantine then s.startKeying i else if (s.lnk i).rollDue then s.rollover i
    else s.setLnk i { s.lnk i with retryKey := false }) :=
  congrArg Host.Outcome.next (if_neg (by simp [h]))

theorem rolloverStart_of_due (h : 2 ^ 47 ≤ (s.lnk i).txCtr ∨ 2 ^ 47 ≤ (s.lnk i).txCctr) :
    exec (.rolloverStart i) s = .next (s.rollover i) :=
  congrArg Host.Outcome.next (if_pos (by simpa [Link.rollDue] using h))

theorem rolloverStart_of_undue (h : (s.lnk i).txCtr < 2 ^ 47) (h' : (s.lnk i).txCctr < 2 ^ 47) :
    exec (.rolloverStart i) s = .next s :=
  congrArg Host.Outcome.next (if_neg (by simpa [Link.rollDue] using ⟨h, h'⟩))

theorem counterStop_of_due (hc : (s.lnk i).carries = true)
    (h : 2 ^ 48 - 2 ^ 16 ≤ (s.lnk i).txCtr ∨ 2 ^ 48 - 2 ^ 16 ≤ (s.lnk i).txCctr) : exec (.counterStop i) s =
    .next ((((s.ledger 0x0803 (srcOf3 4 4 i) i 0 0).linkTo i .quarantine 0x15).modLnk i fun k => { k with keys := .stopped }).startKeying i) :=
  congrArg Host.Outcome.next (if_pos ⟨hc, h⟩)

theorem counterStop_of_undue (h : (s.lnk i).carries = false
      ∨ ((s.lnk i).txCtr < 2 ^ 48 - 2 ^ 16 ∧ (s.lnk i).txCctr < 2 ^ 48 - 2 ^ 16)) : exec (.counterStop i) s = .next s :=
  congrArg Host.Outcome.next (if_neg fun ⟨hc, hl⟩ => by
    rcases h with h | ⟨h, h'⟩
    · exact absurd hc (ne_true_of_eq_false h)
    · exact hl.elim (Nat.not_le.2 h) (Nat.not_le.2 h'))

end

/-- Settles O41: a region's walk keeps all but its key fields; a message of an exchange is acted on only where its words are good, and
then each one by its rule. -/
theorem workingKeys : Obligations.WorkingKeys := by
  unfold Obligations.WorkingKeys
  intro q i m cctrs macs xid msg bad chains debug ok cctr mac epoch s r l up quar words good goodOne long short next ack
  refine ⟨regionRekey_of_lowest, regionRekey_of_undue, reencryptDone_of_idle bad ok, reencryptDone_spec bad ok,
    long_of_bad i m cctrs macs chains debug ok, short_of_bad i xid msg cctr mac epoch,
    messages_of_closed i m cctrs macs xid msg chains debug ok cctr mac epoch, long_of_refused i m cctrs macs chains debug ok,
    fun hu hq hg hx h hh => ?_, fun hu hq hg x hn => rekeyResp_of_full i m cctrs macs hq hu hg hn.1 hn.2.1 hn.2.2, ?_,
    fun hu hq hg x hn hr ht => ?_, fun hu hq hg x hn hr ht => ?_, fun hu hq hg x hx hid hs ha hr =>
      rekeyAck_of_full i xid msg cctr mac hq hu hg hx hid hs ha hr, fun hu hq hg he x hx hid hn hr ht => ?_,
    fun hu hq hg x hx hid => rekeyAbort_of_own i xid cctr mac hq hu hg hx hid,
    fun hq x hx => ⟨exchange_of_other i m cctrs macs chains debug ok hq hx, exchangeEnd_of_other i xid msg cctr mac hq hx⟩,
    resend_and_timeout_of_none, fun x hx => resend_and_timeout_of_some hx, keyingRetry_of_undue, fun hd => ?_,
    rolloverStart_of_undue, rolloverStart_of_due, counterStop_of_due, counterStop_of_undue⟩
  · rw [rekeyInit_of_first i m cctrs macs hq hu hg hx hh]
    exact ⟨fun hle => congrArg Host.Outcome.next (if_neg (Nat.not_lt.2 hle)), fun hlt => congrArg Host.Outcome.next (if_pos hlt)⟩
  · intro s1 x hc hl hm hw hd hrdy hx hid hn hi hr ks
    obtain ⟨t, e, ht, hlnk⟩ := rekeyResp_of_rollover hc hl hm hw ⟨hd, hrdy⟩ hx hid hn hi hr
    refine ⟨t, ht, ?_⟩
    rw [hlnk]
    exact ⟨rfl, rfl, rfl, rfl, rfl, rfl⟩
  · obtain ⟨hx, hid, hn⟩ := hn
    have hcert := rekeyCert_of_full i m cctrs macs chains debug hq hu hg hx hid hn hr ht
    refine ⟨fun hch => hcert.trans ?_, fun hch hdb => hcert.trans ?_, fun hch hdb => hcert.trans ?_⟩
    · exact congrArg Host.Outcome.next (if_pos (by simp [hch]))
    · exact congrArg Host.Outcome.next ((if_neg (by simp [hch])).trans (if_pos (by simp [hdb])))
    · exact congrArg Host.Outcome.next ((if_neg (by simp [hch])).trans (if_neg (by simp [hdb])))
  · obtain ⟨hx, hid, hn⟩ := hn
    have hsign := rekeySign_of_full i m cctrs macs ok hq hu hg hx hid hn hr ht
    exact ⟨fun hok => hsign.trans (congrArg Host.Outcome.next (if_pos hok)),
      fun hok => hsign.trans (congrArg Host.Outcome.next (if_neg (ne_true_of_eq_false hok)))⟩
  · have hexec := rekeySwitch_of_full i xid cctr mac epoch hq hu (he.symm ▸ hg) he hx hid hn hr ht
    refine ⟨hexec, fun ha => ⟨_, hexec, ?_⟩⟩
    obtain ⟨c, hc⟩ := lnk_messageTaken s i xid 6
    have hx' : ((messageTaken s i xid 6).lnk i).exch = some { x with received := x.received ++ [6] } := by
      rw [hc, show (s.lnk i).exch = some x from hx]
      rfl
    obtain ⟨c', hdone⟩ := keyingDone_of_switched hx' (by simp) ha
    rw [hdone]
    refine ⟨rfl, rfl, rfl, fun ks hks => ?_⟩
    simp [switched, Link.loadKeys, hr, hks]
  · rw [keyingRetry_of_due hd]
    exact ⟨fun hq => congrArg Host.Outcome.next (if_pos hq),
      fun hq hroll => congrArg Host.Outcome.next ((if_neg hq).trans (if_pos hroll)),
      fun hq hroll => congrArg Host.Outcome.next ((if_neg hq).trans (if_neg (ne_true_of_eq_false hroll)))⟩

end Sys2Proof.Laws
end

section
/-! PROOFS. Attestation over SPDM: connections, sessions, signatures, measurements and the vendor requests (spec/17: R475 to R480).
A request that needs the DRBG or the certificates stands for the moment of service: while they are not ready it changes nothing
(DEDUCED log 1 and 41). -/
namespace Sys2Proof.Laws

open Machine

/-! ### Connections (R475) -/

section

variable (s : State) (c : Nat)

theorem conn_modConn (f : Spdm → Spdm) : (s.modConn c f).conn c = f (s.conn c) := by
  simp only [State.conn, State.modConn]
  exact tblGet_tblSet_self ..

variable {s c} {n : Nat} {f : State → State}

theorem spdmAt_of_off (h : ¬ s.spdmOn c = true) : s.spdmAt c n f = s := if_pos (by simpa using h)

theorem spdmAt_of_early (h : s.spdmOn c = true) (hn : (s.conn c).stage < n) : s.spdmAt c n f = s.spdmError c 4 :=
  (if_neg (by simp [h])).trans (if_pos hn)

theorem spdmAt_of_stage (h : s.spdmOn c = true) (hn : n ≤ (s.conn c).stage) : s.spdmAt c n f = f s :=
  (if_neg (by simp [h])).trans (if_neg (Nat.not_lt.2 hn))

theorem spdmDrbg_of_up (h : s.drbgUp = true) : s.spdmDrbg c f = f s := if_pos h

theorem spdmDrbg_of_failed (h : s.cus.es = .failed) : s.spdmDrbg c f = s.spdmError c 5 :=
  (if_neg (by simp [State.drbgUp, h])).trans (if_pos h)

theorem spdmDrbg_of_waiting (h : ¬ s.drbgUp = true) (hf : s.cus.es ≠ .failed) : s.spdmDrbg c f = s := (if_neg h).trans (if_neg hf)

end

/-! ### The requests before the connection is set up -/

section

variable (c : Fin 2) (slot : Fin 8) (off len id n : Fin 65536) (k : Fin 256) (nonce : Fin (2 ^ 256)) (w : W32) (flag : Bool)
    (bs : List Byte)
  {s : State}

/-- The requests that need the connection set up. -/
noncomputable def lateRequests : List Instr := [.getDigests c, .getCertificate c slot off len, .challenge c nonce,
  .getMeasurements c k flag, .keyExchange c flag, .finish c id flag, .heartbeat c id, .keyUpdate c id, .endSession c id,
  .getMlChain c w len, .getProvenance c w nonce, .getPqSig c]

/-- The requests that take the connection on, and the chunks. -/
noncomputable def earlyRequests : List Instr := [.negotiateAlgorithms c flag, .chunkSend c flag bs, .chunkGet c n]

variable (s) in
theorem lateRequests_eq {i : Instr} (h : i ∈ lateRequests c slot off len id k nonce w flag) :
    ∃ f : State → State, exec i s = .next (s.spdmAt c 3 f) := by
  simp only [lateRequests, List.mem_cons, List.not_mem_nil, or_false] at h
  rcases h with rfl | rfl | rfl | rfl | rfl | rfl | rfl | rfl | rfl | rfl | rfl | rfl <;> exact ⟨_, rfl⟩

variable (s) in
theorem earlyRequests_eq {i : Instr} (h : i ∈ earlyRequests c n flag bs) :
    ∃ f : State → State, exec i s = .next (s.spdmAt c 2 f) := by
  simp only [earlyRequests, List.mem_cons, List.not_mem_nil, or_false] at h
  rcases h with rfl | rfl | rfl <;> exact ⟨_, rfl⟩

theorem late_of_off (h : ¬ s.spdmOn c = true) : ∀ i ∈ lateRequests c slot off len id k nonce w flag, exec i s = .next s := by
  intro i hi
  obtain ⟨f, hf⟩ := lateRequests_eq c slot off len id k nonce w flag s hi
  rw [hf, spdmAt_of_off h]

theorem late_of_early (h : s.spdmOn c = true) (hn : (s.conn c).stage < 3) :
    ∀ i ∈ lateRequests c slot off len id k nonce w flag, exec i s = .next (s.spdmError c 4) := by
  intro i hi
  obtain ⟨f, hf⟩ := lateRequests_eq c slot off len id k nonce w flag s hi
  rw [hf, spdmAt_of_early h hn]

theorem early_of_off (h : ¬ s.spdmOn c = true) : ∀ i ∈ earlyRequests c n flag bs, exec i s = .next s := by
  intro i hi
  obtain ⟨f, hf⟩ := earlyRequests_eq c n flag bs s hi
  rw [hf, spdmAt_of_off h]

theorem early_of_early (h : s.spdmOn c = true) (hn : (s.conn c).stage < 2) :
    ∀ i ∈ earlyRequests c n flag bs, exec i s = .next (s.spdmError c 4) := by
  intro i hi
  obtain ⟨f, hf⟩ := earlyRequests_eq c n flag bs s hi
  rw [hf, spdmAt_of_early h hn]

theorem requests_of_off (h : ¬ s.spdmOn c = true) : ∀ i ∈ lateRequests c slot off len id k nonce w flag
    ++ [Instr.getVersion c, .getCapabilities c, .negotiateAlgorithms c flag, .chunkSend c flag bs, .chunkGet c n],
    exec i s = .next s := by
  intro i hi
  rcases List.mem_append.1 hi with hi | hi
  · exact late_of_off c slot off len id k nonce w flag h i hi
  · rcases List.mem_cons.1 hi with rfl | hi
    · exact congrArg Host.Outcome.next (if_neg h)
    · rcases List.mem_cons.1 hi with rfl | hi
      · exact congrArg Host.Outcome.next (spdmAt_of_off h)
      · exact early_of_off c n flag bs h i hi

variable {c}

theorem getVersion_spec (h : s.spdmOn c = true) : ∃ t, exec (.getVersion c) s = .next t ∧ (t.conn c).stage = 1
    ∧ (t.conn c).signed = none ∧ t = { s with spdm := t.spdm, out := t.out } := by
  refine ⟨_, congrArg Host.Outcome.next (if_pos h), ?_, ?_, rfl⟩
  · exact congrArg Spdm.stage (conn_modConn s c fun _ => { Spdm.reset with stage := 1 })
  · exact congrArg Spdm.signed (conn_modConn s c fun _ => { Spdm.reset with stage := 1 })

theorem getCapabilities_spec (h : s.spdmOn c = true) (hn : 1 ≤ (s.conn c).stage) : ∃ t, exec (.getCapabilities c) s = .next t
    ∧ (t.conn c).stage = max 2 (s.conn c).stage ∧ t = { s with spdm := t.spdm, out := t.out } :=
  ⟨_, congrArg Host.Outcome.next (spdmAt_of_stage h hn),
    congrArg Spdm.stage (conn_modConn s c fun k => { k with stage := max 2 k.stage }), rfl⟩

theorem negotiateAlgorithms_spec (h : s.spdmOn c = true) (hn : 2 ≤ (s.conn c).stage) (hf : flag = true) :
    ∃ t, exec (.negotiateAlgorithms c flag) s = .next t ∧ (t.conn c).stage = 3 ∧ t = { s with spdm := t.spdm, out := t.out } :=
  ⟨_, congrArg Host.Outcome.next ((spdmAt_of_stage h hn).trans (if_pos hf)),
    congrArg Spdm.stage (conn_modConn s c fun k => { k with stage := 3 }), rfl⟩

theorem negotiateAlgorithms_of_none (h : s.spdmOn c = true) (hn : 2 ≤ (s.conn c).stage) (hf : flag = false) :
    exec (.negotiateAlgorithms c flag) s = .next (s.spdmError c 1) :=
  congrArg Host.Outcome.next ((spdmAt_of_stage h hn).trans (if_neg (ne_true_of_eq_false hf)))

theorem chunkSend_spec (h : s.spdmOn c = true) (hn : 2 ≤ (s.conn c).stage) : ∃ t, exec (.chunkSend c flag bs) s = .next t
    ∧ (t.conn c).inBytes = if flag then [] else (s.conn c).inBytes ++ bs :=
  ⟨_, congrArg Host.Outcome.next (spdmAt_of_stage h hn),
    congrArg Spdm.inBytes (conn_modConn s c fun k => { k with inBytes := if flag then [] else k.inBytes ++ bs })⟩

theorem chunkGet_of_none (h : s.spdmOn c = true) (hn : 2 ≤ (s.conn c).stage) (ho : (s.conn c).outBytes = []) :
    exec (.chunkGet c n) s = .next (s.spdmError c 4) :=
  congrArg Host.Outcome.next ((spdmAt_of_stage h hn).trans (if_pos (by rw [ho]; rfl)))

theorem chunkGet_of_some (h : s.spdmOn c = true) (hn : 2 ≤ (s.conn c).stage) (ho : (s.conn c).outBytes ≠ []) :
    exec (.chunkGet c n) s = .next ((s.modConn c fun x => { x with outBytes := (s.conn c).outBytes.drop n }).spdmReply c 0x86
      ((s.conn c).outBytes.take n)) :=
  congrArg Host.Outcome.next ((spdmAt_of_stage h hn).trans (if_neg (by simpa using ho)))

end

/-! ### The requests of a connection that is set up -/

/-- The connection is set up. -/
def ConnUp (s : State) (c : Nat) : Prop := s.spdmOn c = true ∧ 3 ≤ (s.conn c).stage

section

variable {c : Fin 2} {slot : Fin 8} {off len id : Fin 65536} {k : Fin 256} {nonce : Fin (2 ^ 256)} {w : W32} {flag : Bool} {s : State}

theorem spdmAt_of_up {f : State → State} (h : ConnUp s c) : s.spdmAt c 3 f = f s := spdmAt_of_stage h.1 h.2

theorem getDigests_of_certs (h : ConnUp s c) (hc : s.cus.certs = true) : exec (.getDigests c) s =
    .next (s.spdmReply c 0x01 (toBytes 1 1 ++ toBytes 48 (Config.sha384 s.spdmChain).toNat)) :=
  congrArg Host.Outcome.next ((spdmAt_of_up h).trans (if_pos hc))

theorem getDigests_of_none (h : ConnUp s c) (hc : s.cus.certs = false) (hf : s.cus.es ≠ .failed) :
    exec (.getDigests c) s = .next s := by
  refine congrArg Host.Outcome.next ((spdmAt_of_up h).trans ((if_neg (ne_true_of_eq_false hc)).trans ?_))
  by_cases hu : s.drbgUp = true
  · exact spdmDrbg_of_up hu
  · exact spdmDrbg_of_waiting hu hf

theorem getDigests_of_failed (h : ConnUp s c) (hc : s.cus.certs = false) (hf : s.cus.es = .failed) :
    exec (.getDigests c) s = .next (s.spdmError c 5) :=
  congrArg Host.Outcome.next ((spdmAt_of_up h).trans ((if_neg (ne_true_of_eq_false hc)).trans (spdmDrbg_of_failed hf)))

theorem getCertificate_of_out (h : ConnUp s c) (ho : slot.val ≠ 0 ∨ s.spdmChain.length < off.val) :
    exec (.getCertificate c slot off len) s = .next (s.spdmError c 1) :=
  congrArg Host.Outcome.next ((spdmAt_of_up h).trans (if_pos ho))

theorem getCertificate_of_certs (h : ConnUp s c) (h0 : slot.val = 0) (ho : off.val ≤ s.spdmChain.length) (hc : s.cus.certs = true) :
    exec (.getCertificate c slot off len) s = .next (s.spdmReply c 0x02 ((s.spdmChain.drop off).take len)) :=
  congrArg Host.Outcome.next ((spdmAt_of_up h).trans
    ((if_neg fun hn => hn.elim (· h0) (Nat.not_lt.2 ho)).trans (if_pos hc)))

theorem challenge_of_up (h : ConnUp s c) (hu : s.drbgUp = true) : exec (.challenge c nonce) s = .next (s.spdmSigned c 0x03
    (toBytes 32 nonce ++ toBytes 48 (Config.sha384 s.spdmChain).toNat ++ toBytes 32 (Config.free s.freeCtr))) :=
  congrArg Host.Outcome.next ((spdmAt_of_up h).trans (spdmDrbg_of_up hu))

theorem challenge_of_failed (h : ConnUp s c) (hf : s.cus.es = .failed) : exec (.challenge c nonce) s = .next (s.spdmError c 5) :=
  congrArg Host.Outcome.next ((spdmAt_of_up h).trans (spdmDrbg_of_failed hf))

theorem challenge_of_waiting (h : ConnUp s c) (hu : ¬ s.drbgUp = true) (hf : s.cus.es ≠ .failed) :
    exec (.challenge c nonce) s = .next s :=
  congrArg Host.Outcome.next ((spdmAt_of_up h).trans (spdmDrbg_of_waiting hu hf))

theorem getMeasurements_of_out (h : ConnUp s c) (hk : 5 < k.val) (hk' : k.val ≠ 0xFF) :
    exec (.getMeasurements c k flag) s = .next (s.spdmError c 1) :=
  congrArg Host.Outcome.next ((spdmAt_of_up h).trans (if_pos ⟨hk, hk'⟩))

theorem getMeasurements_count (h : ConnUp s c) : exec (.getMeasurements c 0 false) s = .next (s.spdmReply c 0x60 [5]) :=
  congrArg Host.Outcome.next ((spdmAt_of_up h).trans rfl)

theorem getMeasurements_of_one (h : ConnUp s c) (hk : 1 ≤ k.val) (hk' : k.val ≤ 5) : exec (.getMeasurements c k flag) s =
    .next (if flag then s.spdmDrbg c fun s' => s'.spdmSigned c 0x60 (s.measurement k) else s.spdmReply c 0x60 (s.measurement k)) := by
  refine congrArg Host.Outcome.next ((spdmAt_of_up h).trans ((if_neg (by omega)).trans ?_))
  rw [if_neg (show ¬ k.val = 0 by omega), if_neg (show ¬ k.val = 0xFF by omega)]

theorem keyExchange_of_full (h : ConnUp s c) (hn : 32 ≤ s.sessions.length) :
    exec (.keyExchange c flag) s = .next (s.spdmError c 0x0A) :=
  congrArg Host.Outcome.next ((spdmAt_of_up h).trans (if_pos hn))

theorem signed_spdmSigned (t : State) (c code : Nat) (data : List Byte) : ((t.spdmSigned c code data).conn c).signed = some data :=
  congrArg Spdm.signed (conn_modConn ((t.drbg 1).draw) c fun k => { k with signed := some data })

theorem sessions_spdmSigned (t : State) (c code : Nat) (data : List Byte) : (t.spdmSigned c code data).sessions = t.sessions := by
  simp only [State.spdmSigned, State.drbg]
  split <;> rfl

theorem keyExchange_spec (h : ConnUp s c) (hn : s.sessions.length < 32) (hu : s.drbgUp = true) :
    ∃ t, exec (.keyExchange c flag) s = .next t
    ∧ t.sessions = s.sessions ++ [⟨s.freeSession, c, false, flag, 0, none, s.keyAgreed.2⟩] ∧ (t.conn c).signed.isSome = true :=
  ⟨_, congrArg Host.Outcome.next ((spdmAt_of_up h).trans ((if_neg (Nat.not_le.2 hn)).trans (spdmDrbg_of_up hu))),
    sessions_spdmSigned .., by rw [signed_spdmSigned]; rfl⟩

/-! ### Sessions (R475) -/

/-- The requests inside a session. -/
noncomputable def sessionRequests (c : Fin 2) (id : Fin 65536) : List Instr := [.heartbeat c id, .keyUpdate c id, .endSession c id]

theorem inSession_of_up {x : Session} (h : ConnUp s c) (hx : s.session c id = some x) (hu : x.up = true) (f : State → State) :
    s.inSession c id f = f s := by
  refine (spdmAt_of_up h).trans ?_
  simp only [hx, hu, if_true]

theorem inSession_of_out (h : ConnUp s c) (hx : ∀ x, s.session c id = some x → x.up = false) (f : State → State) :
    s.inSession c id f = s.spdmError c 2 := by
  refine (spdmAt_of_up h).trans ?_
  split
  · next x hs => exact if_neg (ne_true_of_eq_false (hx x hs))
  · rfl

theorem sessionRequests_of_out (h : ConnUp s c) (hx : ∀ x, s.session c id = some x → x.up = false) :
    ∀ i ∈ sessionRequests c id, exec i s = .next (s.spdmError c 2) := by
  simp only [sessionRequests, List.forall_mem_cons]
  exact ⟨congrArg Host.Outcome.next (inSession_of_out h hx _), congrArg Host.Outcome.next (inSession_of_out h hx _),
    congrArg Host.Outcome.next (inSession_of_out h hx _), List.forall_mem_nil _⟩

theorem finish_of_none (h : ConnUp s c) (hx : s.session c id = none) : exec (.finish c id flag) s = .next (s.spdmError c 4) := by
  refine congrArg Host.Outcome.next ((spdmAt_of_up h).trans ?_)
  simp only [hx]

theorem finish_of_some {x : Session} (h : ConnUp s c) (hx : s.session c id = some x) : exec (.finish c id flag) s = .next (
    if x.up then s.spdmError c 4 else if flag then (s.modSession id fun y => { y with up := true }).spdmReply c 0x65 []
      else (s.endSession id).spdmError c 6) := by
  refine congrArg Host.Outcome.next ((spdmAt_of_up h).trans ?_)
  simp only [hx]

theorem heartbeatMissed_spec : ∃ t, exec (.heartbeatMissed id) s = .next t ∧ (∀ x ∈ t.sessions, x.id ≠ id.val)
    ∧ (∀ x ∈ s.sessions, x.id ≠ id.val → x ∈ t.sessions) ∧ t.out = s.out ∧ t.cus = s.cus := by
  refine ⟨_, rfl, fun x hx => ?_, fun x hx hn => ?_, rfl, rfl⟩
  · simpa using List.of_mem_filter hx
  · exact List.mem_filter.2 ⟨List.mem_map.2 ⟨x, hx, if_neg hn⟩, by simpa using hn⟩

/-! ### Vendor requests (R480) -/

theorem getMlChain_of_none (h : ConnUp s c) (hc : s.cus.certs = false) :
    exec (.getMlChain c w len) s = .next (s.vendReply c 1 9 []) :=
  congrArg Host.Outcome.next ((spdmAt_of_up h).trans (if_pos (by simp [hc])))

theorem getMlChain_of_certs (h : ConnUp s c) (hc : s.cus.certs = true) : exec (.getMlChain c w len) s =
    .next (if (s.certChain 0).length < w.toNat then s.vendReply c 1 0x0B []
      else s.vendReply c 1 0 (((s.certChain 0).drop w.toNat).take len)) :=
  congrArg Host.Outcome.next ((spdmAt_of_up h).trans (if_neg (by simp [hc])))

/-- The Provenance report answered. -/
def provenanceReply (s : State) (c : Nat) (p : Option Nat) (nonce : Nat) : State :=
  (s.drbg 2).draw.draw.vendReply c 2 0 (s.provenance p nonce ++ s.aliasSign 0 s.freeCtr (s.provenance p nonce)
    ++ s.aliasSign 1 (s.freeCtr + 1) (s.provenance p nonce))

theorem getProvenance_of_module (h : ConnUp s c) (hw : w.toNat = 0) : exec (.getProvenance c w nonce) s =
    .next (if s.drbgUp then provenanceReply s c none nonce else s.vendReply c 2 9 []) := by
  refine congrArg Host.Outcome.next ((spdmAt_of_up h).trans ?_)
  simp only [hw, ne_eq, not_true_eq_false, false_and, if_true, if_false]
  cases s.drbgUp <;> rfl

theorem getProvenance_of_absent (h : ConnUp s c) (hw : w.toNat ≠ 0) (hp : s.partOf w.toNat = none) :
    exec (.getProvenance c w nonce) s = .next (s.vendReply c 2 2 []) := by
  refine congrArg Host.Outcome.next ((spdmAt_of_up h).trans ?_)
  rw [if_neg hw, hp]
  exact if_pos ⟨hw, rfl⟩

theorem getProvenance_of_part {p : Nat} (h : ConnUp s c) (hw : w.toNat ≠ 0) (hp : s.partOf w.toNat = some p)
    (hu : s.drbgUp = true) :
    exec (.getProvenance c w nonce) s = .next (provenanceReply s c (some p) nonce) := by
  refine congrArg Host.Outcome.next ((spdmAt_of_up h).trans ?_)
  rw [if_neg hw, hp]
  exact (if_neg fun hn => nomatch hn.2).trans (if_neg (by simp [hu]))

theorem getPqSig_of_none (h : ConnUp s c) (hs : (s.conn c).signed = none) :
    exec (.getPqSig c) s = .next (s.vendReply c 3 0x0B []) := by
  refine congrArg Host.Outcome.next ((spdmAt_of_up h).trans ?_)
  simp only [hs]

theorem getPqSig_of_some {bs : List Byte} (h : ConnUp s c) (hs : (s.conn c).signed = some bs) : exec (.getPqSig c) s = .next (
    if s.drbgUp then (s.drbg 1).draw.vendReply c 3 0 (s.aliasSign 1 s.freeCtr bs) else s.vendReply c 3 9 []) := by
  refine congrArg Host.Outcome.next ((spdmAt_of_up h).trans ?_)
  simp only [hs]
  cases s.drbgUp <;> rfl

end

/-- Settles O46: the responder's answers, by the stage of the connection, the session and what the Custodian can serve. -/
theorem spdmRequests : Obligations.SpdmRequests := by
  unfold Obligations.SpdmRequests
  intro c slot off len id n k nonce w flag bs s on st chain err vend up setUp late
  refine ⟨requests_of_off c slot off len id n k nonce w flag bs, late_of_early c slot off len id k nonce w flag,
    fun hon => ⟨getVersion_spec hon, getCapabilities_spec hon, fun hn => congrArg Host.Outcome.next (spdmAt_of_early hon hn),
      negotiateAlgorithms_spec flag hon, negotiateAlgorithms_of_none flag hon, early_of_early c n flag bs hon,
      chunkSend_spec flag bs hon, chunkGet_of_none n hon, chunkGet_of_some n hon⟩,
    fun h => ⟨getDigests_of_certs h, getDigests_of_none h, getDigests_of_failed h, getCertificate_of_out h,
    getCertificate_of_certs h,
      challenge_of_up h, challenge_of_failed h, challenge_of_waiting h, getMeasurements_of_out h, getMeasurements_count h,
      fun hk hk' => getMeasurements_of_one h hk hk', fun hk hk' hu => ?_, keyExchange_of_full h, keyExchange_spec h, fun hx => ?_,
      fun x hx => ?_, ⟨getMlChain_of_none h, fun hc => ?_⟩, ⟨fun hw hu => ?_, getProvenance_of_absent h,
        fun p hw hp hu => getProvenance_of_part h hw hp hu, fun hw hu => ?_⟩, getPqSig_of_none h, fun hs hu => ?_, fun hs hu => ?_⟩,
    heartbeatMissed_spec⟩
  · exact (getMeasurements_of_one h hk hk').trans (congrArg Host.Outcome.next ((if_pos rfl).trans (spdmDrbg_of_up hu)))
  · exact ⟨finish_of_none h hx, sessionRequests_of_out h fun x hs => nomatch hx.symm.trans hs⟩
  · refine ⟨fun hu => ⟨?_, ?_, ?_, ?_⟩, fun hu => ⟨?_, ?_, ?_⟩⟩
    · exact (finish_of_some h hx).trans (congrArg Host.Outcome.next (if_pos hu))
    · exact congrArg Host.Outcome.next (inSession_of_up h hx hu _)
    · exact congrArg Host.Outcome.next (inSession_of_up h hx hu _)
    · exact congrArg Host.Outcome.next (inSession_of_up h hx hu _)
    · exact (finish_of_some h hx).trans (congrArg Host.Outcome.next (if_neg (ne_true_of_eq_false hu)))
    · exact (finish_of_some h hx).trans (congrArg Host.Outcome.next (if_neg (ne_true_of_eq_false hu)))
    · exact sessionRequests_of_out h fun y hy => Option.some.inj (hx.symm.trans hy) ▸ hu
  · exact (getMlChain_of_certs h hc).trans (apply_ite Host.Outcome.next ..)
  · exact (getProvenance_of_module h hw).trans (congrArg Host.Outcome.next (if_pos hu))
  · exact (getProvenance_of_module h hw).trans (congrArg Host.Outcome.next (if_neg hu))
  · obtain ⟨b, hb⟩ := Option.ne_none_iff_exists'.1 hs
    exact (getPqSig_of_some h hb).trans (congrArg Host.Outcome.next (if_neg hu))
  · exact (getPqSig_of_some h hs).trans (congrArg Host.Outcome.next (if_pos hu))

end Sys2Proof.Laws
end

section
/-! PROOFS. Tenant sessions, sealed extents, and the TDISP interface of the VFs (spec/17: R479 to R487). What an UNSEAL makes of a header
that cannot be read and of a failing chunk is the model's choice (DEDUCED log 42). -/
namespace Sys2Proof.Laws

open Machine

/-! ### Inside and outside a tenant session (R479, R480) -/

section

variable {s : State} {c : Fin 2} {id : Fin 65536} {y : Session} {t : Tenant}

theorem inTenant_of_out {code : Nat} (hs : ConnUp s c) (h : ∀ y, s.session c id = some y → y.up = false ∨ y.tenant = none)
    (f : Session → Tenant → State → State) : s.inTenant c id code f = s.vendReply c code 0x0A [] := by
  refine (spdmAt_of_up hs).trans ?_
  split
  · rfl
  · next y hy =>
    split
    · next t ht => exact if_neg ((h y hy).elim ne_true_of_eq_false fun hn => nomatch hn.symm.trans ht)
    · rfl

/-- The session `id` is established and has the tenant session `t`. -/
def InTenant (s : State) (c id : Nat) (y : Session) (t : Tenant) : Prop :=
  ConnUp s c ∧ s.session c id = some y ∧ y.up = true ∧ y.tenant = some t

theorem inTenant_of_some {code : Nat} (h : InTenant s c id y t) (f : Session → Tenant → State → State) :
    s.inTenant c id code f = f y t s := by
  obtain ⟨hs, hy, hu, ht⟩ := h
  refine (spdmAt_of_up hs).trans ?_
  simp only [hy, ht, hu, if_true]

/-! ### The opening of a tenant session (R479) -/

variable {comp : W32}

theorem openTenant_of_none (hs : ConnUp s c) (h : s.session c id = none) :
    exec (.openTenant c id comp) s = .next (s.vendReply c 4 4 []) := by
  refine congrArg Host.Outcome.next ((spdmAt_of_up hs).trans ?_)
  simp only [h]

theorem openTenant_of_unfit (hs : ConnUp s c) (hy : s.session c id = some y) (h : y.up = false ∨ y.hybrid = false) :
    exec (.openTenant c id comp) s = .next (s.vendReply c 4 4 []) := by
  refine congrArg Host.Outcome.next ((spdmAt_of_up hs).trans ?_)
  simp only [hy]
  exact if_pos (by simpa using h)

variable (hs : ConnUp s c) (hy : s.session c id = some y) (hu : y.up = true) (hh : y.hybrid = true)

include hs hy hu hh

theorem openTenant_of_unknown (hp : s.partOf comp.toNat = none) :
    exec (.openTenant c id comp) s = .next (s.vendReply c 4 2 []) := by
  refine congrArg Host.Outcome.next ((spdmAt_of_up hs).trans ?_)
  simp only [hy, hu, hh, hp]
  rfl

theorem openTenant_of_part {r : Nat} (hp : s.partOf comp.toNat = some r) : exec (.openTenant c id comp) s = .next (
    if !flagConf (s.part r).flags ∨ (s.part r).st ≠ .sealed then s.vendReply c 4 3 []
    else if y.tenant.isSome ∨ (s.sessions.filter fun y => y.tenant.isSome).length ≥ 16 then s.vendReply c 4 5 []
    else (s.modSession id fun z => { z with tenant := some ⟨r, y.tsk comp.toNat, []⟩ }).vendReply c 4 0 []) := by
  refine congrArg Host.Outcome.next ((spdmAt_of_up hs).trans ?_)
  simp only [hy, hu, hh, hp]
  rfl

theorem openTenant_cases {r : Nat} (hp : s.partOf comp.toNat = some r) :
    (flagConf (s.part r).flags = false ∨ (s.part r).st ≠ .sealed → exec (.openTenant c id comp) s = .next (s.vendReply c 4 3 []))
    ∧ (flagConf (s.part r).flags = true → (s.part r).st = .sealed →
      y.tenant ≠ none ∨ ¬ (s.sessions.filter fun y => y.tenant.isSome).length < 16 →
        exec (.openTenant c id comp) s = .next (s.vendReply c 4 5 []))
    ∧ (flagConf (s.part r).flags = true → (s.part r).st = .sealed → y.tenant = none →
      (s.sessions.filter fun y => y.tenant.isSome).length < 16 → exec (.openTenant c id comp) s =
        .next ((s.modSession id fun z => { z with tenant := some ⟨r, y.tsk comp.toNat, []⟩ }).vendReply c 4 0 [])) := by
  rw [openTenant_of_part hs hy hu hh hp]
  refine ⟨fun h => congrArg Host.Outcome.next (if_pos (by simpa using h)), fun hf hst h => ?_, fun hf hst ht hl => ?_⟩
  · exact congrArg Host.Outcome.next ((if_neg (by simp [hf, hst])).trans
      (if_pos (h.imp Option.isSome_iff_ne_none.2 Nat.not_lt.1)))
  · exact congrArg Host.Outcome.next ((if_neg (by simp [hf, hst])).trans
      (if_neg fun h => h.elim (by simp [ht]) (Nat.not_le.2 hl)))

end

/-! ### Keys (R481) -/

section

variable {s : State} {c : Fin 2} {id : Fin 65536} {y : Session} {t : Tenant} {h : Fin 256} {bs : List Byte} (hin : InTenant s c id y t)

include hin

theorem closeTenant_of_tenant : exec (.closeTenant c id) s = .next ((s.closeTenant id).vendReply c 9 0 []) :=
  congrArg Host.Outcome.next (inTenant_of_some hin _)

theorem deliverKey_of_unfit (hb : 3 < h.val ∨ bs.length ≠ 40) : exec (.deliverKey c id h bs) s = .next (s.vendReply c 5 0x0B []) :=
  congrArg Host.Outcome.next ((inTenant_of_some hin _).trans (if_pos hb))

theorem deliverKey_of_fit (hh : h.val ≤ 3) (hb : bs.length = 40) : exec (.deliverKey c id h bs) s =
    match Config.keyUnwrap t.tsk bs with
    | some k => .next ((s.setTenantKey id h (some k)).vendReply c 5 0 (toBytes 48 (Config.sha384 (toBytes 32 k)).toNat))
    | none => .next (s.vendReply c 5 6 []) := by
  refine (congrArg Host.Outcome.next ((inTenant_of_some hin _).trans (if_neg fun hn => hn.elim (Nat.not_lt.2 hh) (· hb)))).trans ?_
  cases Config.keyUnwrap t.tsk bs <;> rfl

theorem dropKey_of_out (hh : 3 < h.val) : exec (.dropKey c id h) s = .next (s.vendReply c 6 0x0B []) :=
  congrArg Host.Outcome.next ((inTenant_of_some hin _).trans (if_pos hh))

theorem dropKey_of_reg (hh : h.val ≤ 3) : exec (.dropKey c id h) s =
    .next (if (t.key h).isNone then s.vendReply c 6 6 [] else (s.setTenantKey id h none).vendReply c 6 0 []) :=
  congrArg Host.Outcome.next ((inTenant_of_some hin _).trans (if_neg (Nat.not_lt.2 hh)))

end

/-! ### UNSEAL (R483) -/

section

variable (s : State) (p a : Nat)

/-- The translation of a header at `a`. -/
def headerXlt : State × Bool := s.extentXlt p a (pagesOf a 64)

/-- The header read. -/
def headerRead : State × Nat × List Byte := (headerXlt s p a).1.cusRead p a 64

/-- A field of a header. -/
def headerField (hdr : List Byte) (o n : Nat) : Nat := ofBytes ((hdr.drop o).take n)

/-- A header with the magic number and the version of R482 whose extent is in range. -/
def GoodHeader (hdr : List Byte) : Prop := headerField hdr 0 4 = 0x4C414553 ∧ headerField hdr 4 1 = 1 ∧ headerField hdr 5 3 = 0
  ∧ headerField hdr 32 32 = 0 ∧ extFits (headerField hdr 8 4) (headerField hdr 12 4) = true

theorem goodHeader_iff (hdr : List Byte) : GoodHeader hdr ↔ ¬ (headerField hdr 0 4 ≠ 0x4C414553 ∨ headerField hdr 4 1 ≠ 1
    ∨ headerField hdr 5 3 ≠ 0 ∨ headerField hdr 32 32 ≠ 0 ∨ (!extFits (headerField hdr 8 4) (headerField hdr 12 4)) = true) := by
  simp [GoodHeader, not_or]

/-- The translation of the whole extent of the header read. -/
def extentRest : State × Bool := (headerRead s p a).1.extentXlt p a
  (pagesOf a (extSize (headerField (headerRead s p a).2.2 8 4) (headerField (headerRead s p a).2.2 12 4)))

/-- The chunks opened in turn. -/
def chunksOpened (k : Nat) : State × Nat × Option Nat :=
  (extentRest s p a).1.unsealChunks p a k (headerRead s p a).2.2 (headerField (headerRead s p a).2.2 8 4)
    (headerField (headerRead s p a).2.2 12 4) 0 (headerField (headerRead s p a).2.2 8 4)

/-- After the chunks: the header's mark cleared, and the consent kept. -/
def unsealed (k hash : Nat) : State :=
  ((chunksOpened s p a k).1.cusWrite p a (toBytes 4 0)).modPart p fun q =>
    { q with consents := if q.consents.contains hash then q.consents else q.consents ++ [hash] }

variable {s} {c : Fin 2} {id : Fin 65536} {y : Session} {t : Tenant} {h : Fin 256} {va : W64} {hash : Fin (2 ^ 384)} {k : Nat}
  (hin : InTenant s c id y t)

include hin

theorem unseal_of_out (hh : 3 < h.val) : exec (.unsealCmd c id h va hash) s = .next (s.vendReply c 7 0x0B []) :=
  congrArg Host.Outcome.next ((inTenant_of_some hin _).trans (if_pos hh))

theorem unseal_of_empty (hh : h.val ≤ 3) (hk : t.key h = none) :
    exec (.unsealCmd c id h va hash) s = .next (s.vendReply c 7 6 []) := by
  refine congrArg Host.Outcome.next ((inTenant_of_some hin _).trans ((if_neg (Nat.not_lt.2 hh)).trans ?_))
  rw [hk]

variable (hh : h.val ≤ 3) (hk : t.key h = some k)

include hh hk

theorem unseal_of_key : exec (.unsealCmd c id h va hash) s = .next (
    if !(s.part t.part).consents.contains hash.val ∧ (s.part t.part).consents.length ≥ 64 then s.vendReply c 7 5 []
    else if !(headerXlt s t.part va.toNat).2 ∨ (headerRead s t.part va.toNat).2.1 ≠ 0 then
      (headerRead s t.part va.toNat).1.vendReply c 7 8 []
    else if headerField (headerRead s t.part va.toNat).2.2 0 4 ≠ 0x4C414553 ∨ headerField (headerRead s t.part va.toNat).2.2 4 1 ≠ 1
        ∨ headerField (headerRead s t.part va.toNat).2.2 5 3 ≠ 0 ∨ headerField (headerRead s t.part va.toNat).2.2 32 32 ≠ 0
        ∨ !extFits (headerField (headerRead s t.part va.toNat).2.2 8 4) (headerField (headerRead s t.part va.toNat).2.2 12 4) then
      (headerRead s t.part va.toNat).1.vendReply c 7 7 []
    else if !(extentRest s t.part va.toNat).2 then (extentRest s t.part va.toNat).1.vendReply c 7 7 []
    else (unsealed s t.part va.toNat k hash).draw.vendReply c 7 0 (toBytes 4 (chunksOpened s t.part va.toNat k).2.1
      ++ toBytes 4 ((chunksOpened s t.part va.toNat k).2.2.getD (Config.free (unsealed s t.part va.toNat k hash).freeCtr)))) := by
  refine congrArg Host.Outcome.next ((inTenant_of_some hin _).trans ((if_neg (Nat.not_lt.2 hh)).trans ?_))
  rw [hk]
  refine if_congr Iff.rfl rfl (if_congr Iff.rfl rfl (if_congr Iff.rfl rfl (if_congr Iff.rfl rfl ?_)))
  extract_lets u s1 s2
  have hu : chunksOpened s t.part va.toNat k = u := rfl
  rw [unsealed, hu]
  clear hu
  clear_value u
  obtain ⟨x, n, first⟩ := u
  cases first <;> rfl

theorem unseal_of_refused (hc : hash.val ∉ (s.part t.part).consents) (hl : 64 ≤ (s.part t.part).consents.length) :
    exec (.unsealCmd c id h va hash) s = .next (s.vendReply c 7 5 []) :=
  (unseal_of_key hin hh hk).trans (congrArg Host.Outcome.next (if_pos ⟨by simpa using hc, hl⟩))

variable (hc : hash.val ∈ (s.part t.part).consents ∨ (s.part t.part).consents.length < 64)

include hc

theorem unseal_of_unread (hr : (headerXlt s t.part va.toNat).2 = false ∨ (headerRead s t.part va.toNat).2.1 ≠ 0) :
    exec (.unsealCmd c id h va hash) s = .next ((headerRead s t.part va.toNat).1.vendReply c 7 8 []) := by
  have hc' : ¬ ((!(s.part t.part).consents.contains hash.val) = true ∧ (s.part t.part).consents.length ≥ 64) :=
    fun hn => hc.elim (by simpa using hn.1) (Nat.not_lt.2 hn.2)
  rw [unseal_of_key hin hh hk, if_neg hc']
  exact congrArg Host.Outcome.next (if_pos (hr.imp_left fun hx => by simp [hx]))

theorem unseal_of_read (hx : (headerXlt s t.part va.toNat).2 = true) (hr : (headerRead s t.part va.toNat).2.1 = 0) :
    (¬ GoodHeader (headerRead s t.part va.toNat).2.2 →
      exec (.unsealCmd c id h va hash) s = .next ((headerRead s t.part va.toNat).1.vendReply c 7 7 []))
    ∧ (GoodHeader (headerRead s t.part va.toNat).2.2 → (extentRest s t.part va.toNat).2 = false →
      exec (.unsealCmd c id h va hash) s = .next ((extentRest s t.part va.toNat).1.vendReply c 7 7 []))
    ∧ (GoodHeader (headerRead s t.part va.toNat).2.2 → (extentRest s t.part va.toNat).2 = true →
      exec (.unsealCmd c id h va hash) s = .next ((unsealed s t.part va.toNat k hash).draw.vendReply c 7 0
        (toBytes 4 (chunksOpened s t.part va.toNat k).2.1 ++ toBytes 4 ((chunksOpened s t.part va.toNat k).2.2.getD
          (Config.free (unsealed s t.part va.toNat k hash).freeCtr))))) := by
  have hc' : ¬ ((!(s.part t.part).consents.contains hash.val) = true ∧ (s.part t.part).consents.length ≥ 64) :=
    fun hn => hc.elim (by simpa using hn.1) (Nat.not_lt.2 hn.2)
  have hread : ¬ ((!(headerXlt s t.part va.toNat).2) = true ∨ (headerRead s t.part va.toNat).2.1 ≠ 0) := by simp [hx, hr]
  rw [unseal_of_key hin hh hk, if_neg hc', if_neg hread]
  refine ⟨fun hg => congrArg Host.Outcome.next (if_pos (not_not.1 (mt (goodHeader_iff _).2 hg))), fun hg he => ?_, fun hg he => ?_⟩
  · exact congrArg Host.Outcome.next ((if_neg ((goodHeader_iff _).1 hg)).trans (if_pos (by simp [he])))
  · exact congrArg Host.Outcome.next ((if_neg ((goodHeader_iff _).1 hg)).trans (if_neg (by simp [he])))

end

/-! ### SEAL (R484) -/

section

variable {s : State} {c : Fin 2} {id : Fin 65536} {y : Session} {t : Tenant} {h : Fin 256} {chunks last : W32} {va label : W64}
  {secrets : List (List Byte)} {k : Nat} (hin : InTenant s c id y t)

include hin

theorem seal_of_out (hh : 3 < h.val) : exec (.sealCmd c id h va chunks last label secrets) s = .next (s.vendReply c 8 0x0B []) :=
  congrArg Host.Outcome.next ((inTenant_of_some hin _).trans (if_pos (.inl hh)))

theorem seal_of_empty (hh : h.val ≤ 3) (hk : t.key h = none) :
    exec (.sealCmd c id h va chunks last label []) s = .next (s.vendReply c 8 6 []) := by
  refine congrArg Host.Outcome.next ((inTenant_of_some hin _).trans ((if_neg (by simpa using hh)).trans ?_))
  rw [hk]

variable (hh : h.val ≤ 3) (hk : t.key h = some k)

include hh hk

theorem seal_of_unfit (hf : extFits chunks.toNat last.toNat = false) :
    exec (.sealCmd c id h va chunks last label []) s = .next (s.vendReply c 8 7 []) := by
  refine congrArg Host.Outcome.next ((inTenant_of_some hin _).trans ((if_neg (by simpa using hh)).trans ?_))
  rw [hk]
  exact if_pos (by simp [hf])

variable (hf : extFits chunks.toNat last.toNat = true)

include hf

theorem seal_of_down (hu : ¬ s.drbgUp = true) :
    exec (.sealCmd c id h va chunks last label []) s = .next (s.vendReply c 8 9 []) := by
  refine congrArg Host.Outcome.next ((inTenant_of_some hin _).trans ((if_neg (by simpa using hh)).trans ?_))
  rw [hk]
  exact (if_neg (by simp [hf])).trans (if_pos (by simpa using hu))

variable (hu : s.drbgUp = true)

include hu

theorem seal_of_untranslated
    (hz : (s.extentXlt t.part va.toNat (pagesOf va.toNat (extSize chunks.toNat last.toNat))).2 = false) :
    exec (.sealCmd c id h va chunks last label []) s =
      .next ((s.extentXlt t.part va.toNat (pagesOf va.toNat (extSize chunks.toNat last.toNat))).1.vendReply c 8 8 []) := by
  refine congrArg Host.Outcome.next ((inTenant_of_some hin _).trans ((if_neg (by simpa using hh)).trans ?_))
  rw [hk]
  exact (if_neg (by simp [hf])).trans ((if_neg (by simp [hu])).trans (if_pos (by simp [hz])))

/-- Where no consent is recorded and none has been gathered, the extent is sealed at once. -/
theorem seal_of_free {z : State × Bool} (he : s.extentXlt t.part va.toNat (pagesOf va.toNat (extSize chunks.toNat last.toNat)) = z)
    (hz : z.2 = true) (hc : (z.1.part t.part).consents = []) (hg : tblGet (fun _ => []) z.1.seals t.part = []) :
    exec (.sealCmd c id h va chunks last label []) s =
      .next (State.vendReply { z.1.performSeal t.part va.toNat k chunks.toNat last.toNat label.toNat with
        seals := tblSet (fun _ => []) (z.1.performSeal t.part va.toNat k chunks.toNat last.toNat label.toNat).seals t.part
          [⟨va.toNat, chunks.toNat, last.toNat, label.toNat, (Config.sha384 (toBytes 32 k)).toNat, [], z.1.now, true⟩] } c 8 0 []) := by
  refine congrArg Host.Outcome.next ((inTenant_of_some hin _).trans ((if_neg (by simpa using hh)).trans ?_))
  rw [hk]
  refine (if_neg (by simp [hf])).trans ((if_neg (by simp [hu])).trans ?_)
  rw [he]
  refine (if_neg (by simp [hz])).trans ?_
  simp only [hc, hg]
  rfl

end

/-! ### TDISP (R486) -/

section

variable {s : State} {id : Fin 65536} {v : FnId} {nonce : Fin (2 ^ 256)}

/-- The TDISP requests. -/
noncomputable def tdispRequests (id : Fin 65536) (v : FnId) (nonce : Fin (2 ^ 256)) : List Instr := [.getTdispVersion id v,
  .getTdispCapabilities id v, .lockInterfaceRequest id v, .getDeviceInterfaceReport id v, .getDeviceInterfaceState id v,
  .startInterfaceRequest id v nonce, .stopInterfaceRequest id v]

variable (s) in
theorem tdispRequests_eq {r : Instr} (h : r ∈ tdispRequests id v nonce) :
    ∃ f : State → State, exec r s = .next (s.tdispReq id v f) := by
  simp only [tdispRequests, List.mem_cons, List.not_mem_nil, or_false] at h
  rcases h with rfl | rfl | rfl | rfl | rfl | rfl | rfl <;> exact ⟨_, rfl⟩

theorem tdispReq_of_out (h : s.session 0 id = none ∨ s.spdmOn 0 = false) (f : State → State) : s.tdispReq id v f = s := by
  simp only [State.tdispReq]
  split
  · rfl
  · next x hx => exact if_pos (.inl (by simp [h.resolve_left fun hn => nomatch hn.symm.trans hx]))

/-- The session over DOE is established. -/
def DoeUp (s : State) (id : Nat) : Prop := ∃ y, s.session 0 id = some y ∧ y.up = true ∧ s.spdmOn 0 = true

theorem tdispReq_of_absent (h : DoeUp s id) (hv : v.val = 0 ∨ s.pcie.vfs < v.val) (f : State → State) :
    s.tdispReq id v f = s.tdispError v 0x101 := by
  obtain ⟨y, hy, hu, hon⟩ := h
  simp only [State.tdispReq, hy, hu, hon]
  exact (if_neg (by simp)).trans (if_pos hv)

theorem tdispReq_of_vf (h : DoeUp s id) (hv : 1 ≤ v.val) (hv' : v.val ≤ s.pcie.vfs) (f : State → State) :
    s.tdispReq id v f = f s := by
  obtain ⟨y, hy, hu, hon⟩ := h
  simp only [State.tdispReq, hy, hu, hon]
  exact (if_neg (by simp)).trans (if_neg fun hn => hn.elim (by omega) (Nat.not_lt.2 hv'))

theorem tdispRequests_of_out (h : s.session 0 id = none ∨ s.spdmOn 0 = false) :
    ∀ r ∈ tdispRequests id v nonce, exec r s = .next s := by
  intro r hr
  obtain ⟨f, hf⟩ := tdispRequests_eq s hr
  rw [hf, tdispReq_of_out h]

theorem tdispRequests_of_absent (h : DoeUp s id) (hv : v.val = 0 ∨ s.pcie.vfs < v.val) :
    ∀ r ∈ tdispRequests id v nonce, exec r s = .next (s.tdispError v 0x101) := by
  intro r hr
  obtain ⟨f, hf⟩ := tdispRequests_eq s hr
  rw [hf, tdispReq_of_absent h hv]

variable (h : DoeUp s id) (hv : 1 ≤ v.val) (hv' : v.val ≤ s.pcie.vfs)

include h hv hv'

theorem report_of_locked (ht : (s.inst v).tdi = .locked ∨ (s.inst v).tdi = .run) : exec (.getDeviceInterfaceReport id v) s =
    .next (s.tdispReply v 4 (Config.standardReply 0x104 ++ toBytes 1 (v - 1) ++ toBytes 4 (s.part (v - 1)).comp
      ++ toBytes 8 (s.part (v - 1)).epoch ++ catHash (s.part (v - 1)).catalogue)) :=
  congrArg Host.Outcome.next ((tdispReq_of_vf h hv hv' _).trans (if_pos ht))

theorem report_of_unlocked (ht : (s.inst v).tdi = .unlocked ∨ (s.inst v).tdi = .error) :
    exec (.getDeviceInterfaceReport id v) s = .next (s.tdispError v 4) :=
  congrArg Host.Outcome.next ((tdispReq_of_vf h hv hv' _).trans (if_neg (by rcases ht with ht | ht <;> simp [ht])))

theorem lock_of_unfit (hn : (s.inst v).tdi ≠ .unlocked ∨ (s.inst v).st ≠ .ready ∨ (s.part (v - 1)).st ≠ .sealed
    ∨ flagConf (s.part (v - 1)).flags = false ∨ s.pcie.ide = false) : exec (.lockInterfaceRequest id v) s = .next (s.tdispError v 4) :=
  congrArg Host.Outcome.next ((tdispReq_of_vf h hv hv' _).trans (if_pos (by simpa using hn)))

theorem lock_spec (ht : (s.inst v).tdi = .unlocked) (hr : (s.inst v).st = .ready) (hp : (s.part (v - 1)).st = .sealed)
    (hf : flagConf (s.part (v - 1)).flags = true) (hi : s.pcie.ide = true) (hu : s.drbgUp = true) :
    ∃ t, exec (.lockInterfaceRequest id v) s = .next t ∧ (t.inst v).tdi = .locked
      ∧ (t.inst v).nonce = Config.free s.freeCtr % 2 ^ 256 := by
  refine ⟨_, congrArg Host.Outcome.next ((tdispReq_of_vf h hv hv' _).trans
    ((if_neg (by simp [ht, hr, hp, hf, hi])).trans (if_neg (by simp [hu])))), ?_⟩
  have hinst := inst_setInst (s.drbg 1).draw v { s.inst v with tdi := .locked, nonce := Config.free s.freeCtr % 2 ^ 256 }
  exact ⟨congrArg Inst.tdi hinst, congrArg Inst.nonce hinst⟩

theorem start_of_unlocked (ht : (s.inst v).tdi ≠ .locked) : exec (.startInterfaceRequest id v nonce) s = .next (s.tdispError v 4) :=
  congrArg Host.Outcome.next ((tdispReq_of_vf h hv hv' _).trans (if_pos ht))

theorem start_of_other (ht : (s.inst v).tdi = .locked) (hn : (s.inst v).nonce ≠ nonce.val) :
    exec (.startInterfaceRequest id v nonce) s = .next (s.tdispError v 0x102) :=
  congrArg Host.Outcome.next ((tdispReq_of_vf h hv hv' _).trans ((if_neg (not_not.2 ht)).trans (if_pos hn)))

theorem start_of_nonce (ht : (s.inst v).tdi = .locked) (hn : (s.inst v).nonce = nonce.val) :
    exec (.startInterfaceRequest id v nonce) s =
      .next (((s.setInst v { s.inst v with tdi := .run, nonce := 0 }).cqGoAll v (List.range 16)).tdispReply v 6 []) :=
  congrArg Host.Outcome.next ((tdispReq_of_vf h hv hv' _).trans ((if_neg (not_not.2 ht)).trans (if_neg (not_not.2 hn))))

end

/-- Settles O47: a tenant's requests act inside its session only, each in the order of its checks; a TDISP request inside an
established DOE session, for an enabled VF. -/
theorem tenantsAndTdisp : Obligations.TenantsAndTdisp := by
  unfold Obligations.TenantsAndTdisp
  intro c id h comp chunks last va label hash nonce bs secrets v p s setUp x vend fifteen up
  refine ⟨openTenant_of_none, fun y hs hy => ⟨openTenant_of_unfit hs hy, openTenant_of_unknown hs hy,
      fun r hu hh hp => openTenant_cases hs hy hu hh hp⟩, fun hs ho => ?_, fun y t hs hy hu ht => ?_, rfl, ?_⟩
  · exact ⟨congrArg Host.Outcome.next (inTenant_of_out hs ho _), congrArg Host.Outcome.next (inTenant_of_out hs ho _),
      congrArg Host.Outcome.next (inTenant_of_out hs ho _), congrArg Host.Outcome.next (inTenant_of_out hs ho _),
      congrArg Host.Outcome.next (inTenant_of_out hs ho _)⟩
  · have hin : InTenant s c id y t := ⟨hs, hy, hu, ht⟩
    refine ⟨deliverKey_of_unfit hin, deliverKey_of_fit hin, fun hh => ⟨dropKey_of_out hin hh, unseal_of_out hin hh, seal_of_out hin hh⟩,
      fun hh hk => ⟨?_, unseal_of_empty hin hh hk, fun he => he ▸ seal_of_empty hin hh hk⟩, fun k hh hk => ?_,
      closeTenant_of_tenant hin⟩
    · exact (dropKey_of_reg hin hh).trans (congrArg Host.Outcome.next (if_pos (by simp [hk])))
    · refine ⟨(dropKey_of_reg hin hh).trans (congrArg Host.Outcome.next (if_neg (by simp [hk]))), unseal_of_refused hin hh hk,
        fun hc => ⟨unseal_of_unread hin hh hk hc, fun hx hr => (unseal_of_read hin hh hk hc hx hr).1,
          fun hx hr => (unseal_of_read hin hh hk hc hx hr).2.1, fun hx hr => (unseal_of_read hin hh hk hc hx hr).2.2⟩,
        fun he hf => he ▸ seal_of_unfit hin hh hk hf, fun he hf hd => he ▸ seal_of_down hin hh hk hf hd, fun he hf hd => ?_⟩
      exact he ▸ ⟨seal_of_untranslated hin hh hk hf hd, seal_of_free hin hh hk hf hd rfl⟩
  · refine ⟨tdispRequests_of_out, fun y hy hu hon => ?_⟩
    have hd : DoeUp s id := ⟨y, hy, hu, hon⟩
    refine ⟨tdispRequests_of_absent hd, fun hv hv' => ⟨congrArg Host.Outcome.next (tdispReq_of_vf hd hv hv' _),
      congrArg Host.Outcome.next (tdispReq_of_vf hd hv hv' _), congrArg Host.Outcome.next (tdispReq_of_vf hd hv hv' _),
      congrArg Host.Outcome.next (tdispReq_of_vf hd hv hv' _), report_of_locked hd hv hv', report_of_unlocked hd hv hv',
      lock_of_unfit hd hv hv', lock_spec hd hv hv', start_of_unlocked hd hv hv', start_of_other hd hv hv',
      start_of_nonce hd hv hv'⟩⟩

end Sys2Proof.Laws
end

section
/-! PROOFS. Reads and writes of a scratchpad (spec/04: R89, R93, R594). -/
namespace Sys2Proof.Laws

open Machine

/-! ### A line opened for a write (R93, R594) -/

section

variable {s : State} {c k off o : Nat}

theorem openLine_of_written (h : s.lineWritten c off = true) : s.openLine c off = s := if_pos h

theorem openLine_of_clear (h : s.lineWritten c off = false) : s.openLine c off =
    { s with
      spad := tblClear (c * 2 ^ 20 + 32 * (off / 32)) (c * 2 ^ 20 + 32 * (off / 32) + 32) s.spad,
      spadPoison := tblClear (c * 2 ^ 17 + 4 * (off / 32)) (c * 2 ^ 17 + 4 * (off / 32) + 4) s.spadPoison,
      spadWritten := tblSet (fun _ => false) s.spadWritten (c * 2 ^ 15 + off / 32) true } :=
  if_neg (by simp [h])

/-- Within the megabyte, two offsets have the same written bit only if core and line are the same. -/
theorem lineKey_inj (hoff : off < 2 ^ 20) (ho : o < 2 ^ 20) (h : k * 2 ^ 15 + o / 32 = c * 2 ^ 15 + off / 32) :
    k = c ∧ o / 32 = off / 32 := by
  omega

theorem spadByte_of_written (h : s.lineWritten c off = true) :
    s.spadByte c off = tblGet (fun _ => 0) s.spad (c * 2 ^ 20 + off) := if_pos h

/-- A line whose bit is clear reads zero (R93). -/
theorem spadByte_of_clear (h : s.lineWritten c off = false) : s.spadByte c off = 0 := if_neg (by simp [h])

theorem spadByte_congr {t : State} (hl : t.lineWritten c off = s.lineWritten c off)
    (hb : tblGet (fun _ => 0) t.spad (c * 2 ^ 20 + off) = tblGet (fun _ => 0) s.spad (c * 2 ^ 20 + off)) :
    t.spadByte c off = s.spadByte c off := by
  rw [State.spadByte, hl, hb, State.spadByte]

@[simp] theorem lineWritten_openLine_self : (s.openLine c off).lineWritten c off = true := by
  cases h : s.lineWritten c off with
  | true => rw [openLine_of_written h, h]
  | false =>
    rw [openLine_of_clear h]
    simp only [State.lineWritten, tblGet_tblSet_self]

/-- Every bit of the line that is opened is set. -/
theorem lineWritten_openLine (h : o / 32 = off / 32) : (s.openLine c off).lineWritten c o = true := by
  rw [State.lineWritten, h]
  exact lineWritten_openLine_self

variable (hoff : off < 2 ^ 20) (ho : o < 2 ^ 20)

include hoff ho

/-- The line of a clear bit read as zero, and reads as zero once it is opened (R93). -/
theorem spadByte_openLine : (s.openLine c off).spadByte k o = s.spadByte k o := by
  cases h : s.lineWritten c off with
  | true => rw [openLine_of_written h]
  | false =>
    by_cases hkey : k * 2 ^ 15 + o / 32 = c * 2 ^ 15 + off / 32
    · obtain ⟨rfl, hline⟩ := lineKey_inj hoff ho hkey
      have hclear : s.lineWritten k o = false := by rwa [State.lineWritten, hline]
      rw [spadByte_of_written (lineWritten_openLine hline), spadByte_of_clear hclear, openLine_of_clear h]
      exact tblGet_tblClear _ _ (by omega) (by omega)
    · have hout : ¬ (c * 2 ^ 20 + 32 * (off / 32) ≤ k * 2 ^ 20 + o ∧ k * 2 ^ 20 + o < c * 2 ^ 20 + 32 * (off / 32) + 32) := by omega
      rw [openLine_of_clear h]
      exact spadByte_congr (by simp only [State.lineWritten, tblGet_tblSet_ne _ _ _ hkey]) (tblGet_tblClear_outside _ _ hout)

/-- A line holds the same poison once it is opened: none if its bit was clear (R594). -/
theorem spadPoisoned_openLine : (s.openLine c off).spadPoisoned k o = s.spadPoisoned k o := by
  cases h : s.lineWritten c off with
  | true => rw [openLine_of_written h]
  | false =>
    rw [openLine_of_clear h]
    by_cases hkey : k * 2 ^ 15 + o / 32 = c * 2 ^ 15 + off / 32
    · obtain ⟨rfl, hline⟩ := lineKey_inj hoff ho hkey
      have hclear : s.lineWritten k o = false := by rwa [State.lineWritten, hline]
      rw [State.spadPoisoned, State.spadPoisoned, hclear, tblGet_tblClear _ _ (by omega) (by omega), Bool.and_false, Bool.false_and]
    · have hout : ¬ (c * 2 ^ 17 + 4 * (off / 32) ≤ k * 2 ^ 17 + o / 8 ∧ k * 2 ^ 17 + o / 8 < c * 2 ^ 17 + 4 * (off / 32) + 4) := by
        omega
      simp only [State.spadPoisoned, State.lineWritten, tblGet_tblSet_ne _ _ _ hkey, tblGet_tblClear_outside _ _ hout]

end

/-! ### Reads in states that agree byte by byte, or word by word -/

section

variable {s t : State} {c : Nat}

theorem spadRead_congr (h : ∀ o, t.spadByte c o = s.spadByte c o) (off n : Nat) : t.spadRead c off n = s.spadRead c off n := by
  induction n generalizing off with
  | zero => rfl
  | succ n ih => rw [State.spadRead, h, ih, State.spadRead]

theorem poisonIn_congr (h : ∀ o, t.spadPoisoned c o = s.spadPoisoned c o) (off n : Nat) : t.poisonIn c off n = s.poisonIn c off n := by
  have hwords (o m : Nat) : t.poisonWords c o m = s.poisonWords c o m := by
    induction m generalizing o with
    | zero => rfl
    | succ m ih => rw [State.poisonWords, h, ih, State.poisonWords]
  rw [State.poisonIn, hwords, State.poisonIn]

theorem spadRows_congr (h : ∀ o, t.spadByte c o = s.spadByte c o) (off stride len n : Nat) :
    t.spadRows c off stride len n = s.spadRows c off stride len n := by
  induction n generalizing off with
  | zero => rfl
  | succ n ih => rw [State.spadRows, spadRead_congr h, ih, State.spadRows]

theorem poisonRows_congr (h : ∀ o, t.spadPoisoned c o = s.spadPoisoned c o) (off stride len n : Nat) :
    t.poisonRows c off stride len n = s.poisonRows c off stride len n := by
  induction n generalizing off with
  | zero => rfl
  | succ n ih => rw [State.poisonRows, poisonIn_congr h, ih, State.poisonRows]

end

/-! ### The bytes of a write (R594) -/

section

variable {s : State} {c k lo hi off o : Nat} {b : Byte}

/-- A byte of a word without poison is taken. -/
theorem spadPut_of_sound (hoff : off < 2 ^ 20) (hp : s.spadPoisoned c off = false) : s.spadPut c lo hi off b =
    { s.openLine c off with spad := tblSet (fun _ => 0) (s.openLine c off).spad (c * 2 ^ 20 + off) b } :=
  if_neg (by simp [spadPoisoned_openLine hoff hoff, hp])

section

variable (hoff : off < 2 ^ 20) (hp : s.spadPoisoned c off = false)

include hoff hp

theorem spadByte_spadPut_self : (s.spadPut c lo hi off b).spadByte c off = b := by
  rw [spadPut_of_sound hoff hp, spadByte_of_written]
  · exact tblGet_tblSet_self (fun _ => (0 : Byte)) ..
  · exact lineWritten_openLine_self (s := s)

variable (ho : o < 2 ^ 20)

include ho

theorem spadByte_spadPut_ne (hne : k ≠ c ∨ o ≠ off) : (s.spadPut c lo hi off b).spadByte k o = s.spadByte k o := by
  have hkey : k * 2 ^ 20 + o ≠ c * 2 ^ 20 + off := by omega
  rw [spadPut_of_sound hoff hp, ← spadByte_openLine (s := s) (c := c) hoff ho]
  exact spadByte_congr rfl (tblGet_tblSet_ne _ _ _ hkey)

theorem spadPoisoned_spadPut : (s.spadPut c lo hi off b).spadPoisoned k o = s.spadPoisoned k o := by
  rw [spadPut_of_sound hoff hp, ← spadPoisoned_openLine (s := s) (c := c) hoff ho]
  rfl

end

/-- No word that the `n` bytes from `off` touch is poisoned. -/
def SpadSound (s : State) (c off n : Nat) : Prop := ∀ i < n, s.spadPoisoned c (off + i) = false

theorem spadSound_head {n : Nat} (h : SpadSound s c off (n + 1)) : s.spadPoisoned c off = false := h 0 (Nat.succ_pos n)

/-- What is left of a write's bytes stays free of poison behind its first byte. -/
theorem spadSound_spadPut {n : Nat} (hn : off + (n + 1) ≤ 2 ^ 20) (h : SpadSound s c off (n + 1)) :
    SpadSound (s.spadPut c lo hi off b) c (off + 1) n := by
  intro i hi
  rw [spadPoisoned_spadPut (by omega) (spadSound_head h) (by omega), Nat.add_assoc, Nat.add_comm 1 i]
  exact h (i + 1) (by omega)

theorem spadByte_spadPuts_outside {bs : List Byte} (hn : off + bs.length ≤ 2 ^ 20) (h : SpadSound s c off bs.length)
    (ho : o < 2 ^ 20) (hout : k ≠ c ∨ o < off ∨ off + bs.length ≤ o) :
    (s.spadPuts c lo hi off bs).spadByte k o = s.spadByte k o := by
  induction bs generalizing s off with
  | nil => rfl
  | cons b bs ih =>
    rw [List.length_cons] at hn h hout
    rw [State.spadPuts, ih (by omega) (spadSound_spadPut hn h) (by omega),
      spadByte_spadPut_ne (by omega) (spadSound_head h) ho (by omega)]

theorem spadRead_spadPuts {bs : List Byte} (hn : off + bs.length ≤ 2 ^ 20) (h : SpadSound s c off bs.length) :
    (s.spadPuts c lo hi off bs).spadRead c off bs.length = bs := by
  induction bs generalizing s off with
  | nil => rfl
  | cons b bs ih =>
    rw [List.length_cons] at hn h
    have hsound := spadSound_spadPut (lo := lo) (hi := hi) (b := b) hn h
    rw [State.spadPuts, List.length_cons, State.spadRead, ih (by omega) hsound,
      spadByte_spadPuts_outside (by omega) hsound (by omega) (by omega), spadByte_spadPut_self (by omega) (spadSound_head h)]

end

/-! ### A write as a whole

A write depends on the scratchpads only, and writes nothing else. -/

/-- The state `s` with the scratchpads of `x`. -/
def withSpad (s x : State) : State := { s with spad := x.spad, spadWritten := x.spadWritten, spadPoison := x.spadPoison }

section

variable (s x : State) (c off : Nat)

theorem openLine_withSpad : (withSpad s x).openLine c off = withSpad s (x.openLine c off) := by
  cases h : x.lineWritten c off with
  | true => rw [openLine_of_written h, openLine_of_written (s := withSpad s x) h]
  | false =>
    rw [openLine_of_clear h, openLine_of_clear (s := withSpad s x) h]
    rfl

theorem spadPut_withSpad (lo hi : Nat) (b : Byte) : (withSpad s x).spadPut c lo hi off b = withSpad s (x.spadPut c lo hi off b) := by
  have hpoison : (withSpad s (x.openLine c off)).spadPoisoned c off = (x.openLine c off).spadPoisoned c off := rfl
  simp only [State.spadPut, openLine_withSpad, hpoison]
  split <;> rfl

theorem spadPuts_withSpad (lo hi : Nat) (bs : List Byte) :
    (withSpad s x).spadPuts c lo hi off bs = withSpad s (x.spadPuts c lo hi off bs) := by
  induction bs generalizing x off with
  | nil => rfl
  | cons b bs ih => rw [State.spadPuts, spadPut_withSpad, ih, State.spadPuts]

theorem spadWrite_withSpad (bs : List Byte) : (withSpad s x).spadWrite c off bs = withSpad s (x.spadWrite c off bs) := by
  simp only [State.spadWrite, spadPuts_withSpad]
  rfl

theorem spadWrite_eq_withSpad (bs : List Byte) : s.spadWrite c off bs = withSpad s (s.spadWrite c off bs) :=
  spadWrite_withSpad s s c off bs

end

/-- Settles O60: the bytes of a write taken one by one, of which the clearing of poison behind them changes none. -/
theorem scratchpadReadsBack : Obligations.ScratchpadReadsBack := by
  intro s c off bs hn hsound
  have hbyte (k o : Nat) : (s.spadWrite c off bs).spadByte k o = (s.spadPuts c off (off + bs.length) off bs).spadByte k o := rfl
  refine ⟨(spadRead_congr (hbyte c) off bs.length).trans (spadRead_spadPuts hn hsound), fun k o ho hout => ?_, ?_, ?_⟩
  · exact (hbyte k o).trans (spadByte_spadPuts_outside hn hsound ho hout)
  · rw [spadWrite_eq_withSpad]
    rfl
  · rw [spadWrite_eq_withSpad]
    rfl

end Sys2Proof.Laws
end

section
/-! PROOFS. A transfer refused, acknowledged and ended (spec/04: R95, R97, R98, R101, R593; spec/05: R114; spec/06: R158). -/
namespace Sys2Proof.Laws

open Machine

/-! ### Refusals (R95, R98) -/

section

variable {s : State} {x : Xfer} {e st : Nat}

/-- What a refusal writes: its engine, and the registers that count. -/
theorem refuseXfer_writes (s : State) (x : Xfer) (e st : Nat) : ∃ rg, s.refuseXfer x e st =
    { s.modXfer e x.core x.seq fun y => { y with status := st, moved := true } with regs := rg } := by
  unfold State.refuseXfer
  split <;> exact ⟨_, rfl⟩

/-- The forms of transfer that their checks alone send to a 2-D, repeated or indexed move. -/
def plainKinds : List XferKind := [.copy, .copyt, .lcopy, .ls, .gather, .scatter]

theorem runNow_of_plain (hk : x.kind ∈ plainKinds) : s.runNow x e = s.runXfer x e := by
  simp only [plainKinds, List.mem_cons, List.not_mem_nil, or_false] at hk
  rcases hk with h | h | h | h | h | h <;> rw [State.runNow, h]

theorem sourceFmt_of_plain (hk : x.kind ∈ plainKinds) : s.sourceFmt x = (s.xferCheck x).toOption.map (·.1) := by
  simp only [plainKinds, List.mem_cons, List.not_mem_nil, or_false] at hk
  rcases hk with h | h | h | h | h | h <;> rw [State.sourceFmt, h]

theorem runXfer_of_error (hk : x.kind ≠ .direct) (h : s.xferCheck x = .error st) : s.runXfer x e = s.refuseXfer x e st := by
  rw [State.runXfer, if_neg hk, h]

theorem runNow_of_error (hk : x.kind ∈ plainKinds) (h : s.xferCheck x = .error st) : s.runNow x e = s.refuseXfer x e st :=
  (runNow_of_plain hk).trans (runXfer_of_error (fun hd => by simp [hd, plainKinds] at hk) h)

/-- A transfer whose checks fail fetches nothing before it is refused. -/
theorem beginXfer_of_error (hk : x.kind ∈ plainKinds) (h : s.xferCheck x = .error st) (h0 : x.status = 0) :
    s.beginXfer x e = s.refuseXfer x e st := by
  have hnone : (if x.src.space = 2 then s.sourceFmt x else none) = none := by
    rw [sourceFmt_of_plain hk, h]
    exact ite_self none
  rw [State.beginXfer, if_neg (not_not_intro h0), hnone]
  exact runNow_of_error hk h

theorem runNow_of_directCheck (hk : x.kind = .direct) (h : s.directCheck x = .error st) : s.runNow x e = s.refuseXfer x e st := by
  rw [State.runNow, hk]
  exact (if_pos hk).trans (by rw [State.runDirect, h])

/-- Where a dispatch fails without owing its buckets requests, it is refused; one without a list is refused for its form. -/
theorem runNow_of_dispatchCheck (hk : x.kind = .dispatch) (h : s.dispatchCheck x = .error (st, false)) :
    s.runNow x e = s.refuseXfer x e st := by
  rw [State.runNow, hk]
  change s.runDispatch x e = _
  cases hi : x.idx with
  | some l =>
    rw [State.runDispatch, h, hi]
    rfl
  | none =>
    have hform : s.dispatchCheck x = .error (stFormat, false) := by
      rw [State.dispatchCheck, hi]
      cases fmtOf x.src.fmt <;> rfl
    obtain rfl : stFormat = st := (Prod.mk.inj (Except.error.inj (hform.symm.trans h))).1
    rw [State.runDispatch, h, hi]

end

/-- Settles O10: each form by its own checks, then what a refusal writes. That a load or store gets the status of a DMA transfer with
the same fault is the model's choice (log 20). -/
theorem refusedTransferFrame : Obligations.RefusedTransferFrame := by
  refine fun x e s => ⟨fun hk st h => ⟨runNow_of_error hk h, beginXfer_of_error hk h⟩, fun hk st => runNow_of_directCheck hk,
    fun hk st => runNow_of_dispatchCheck hk, fun h => if_pos h, fun st => ⟨_, rfl, ?_⟩⟩
  obtain ⟨rg, h⟩ := refuseXfer_writes s x e st
  rw [h]
  exact ⟨congrArg Engine.queue (engine_setEngine s e _), rfl, fun d hd => engine_setEngine_ne s _ hd⟩

/-! ### Acknowledgements (R593, R158) -/

section

variable {s : State} {e : XferEngineId} {core seq : Nat} {x : Xfer}

theorem exec_writeAcknowledgement : exec (.writeAcknowledgement e core seq) s = execWriteAcknowledgement e core seq s := rfl

/-- The transfer with one acknowledgement less to come; of a dispatch, without the bucket whose writes these were. -/
def acknowledged (y : Xfer) : Xfer :=
  { y with unacked := y.unacked - 1, disp := y.disp.map fun d => { d with toDone := d.toDone.drop 1 } }

section

variable (hx : s.findXfer e core seq = some x) (hn : 0 < x.unacked)

include hx hn

theorem writeAcknowledgement_of_no_done (hd : ∀ d, x.disp = some d → d.toDone = []) :
    exec (.writeAcknowledgement e core seq) s = .next (s.modXfer e core seq acknowledged) := by
  rw [exec_writeAcknowledgement, execWriteAcknowledgement, hx]
  refine congrArg Host.Outcome.next ((if_neg (by omega)).trans ?_)
  cases h : x.disp with
  | none => rfl
  | some d =>
    simp only [hd d h]
    rfl

theorem writeAcknowledgement_of_done {d : Disp} {b : Nat} {bs : List Nat} (hd : x.disp = some d) (hb : d.toDone = b :: bs) :
    exec (.writeAcknowledgement e core seq) s =
      .next ((s.modXfer e core seq acknowledged).emit (.bucketDone (nth x.src (x.dsts.drop d.buckets) b).base)) := by
  rw [exec_writeAcknowledgement, execWriteAcknowledgement, hx]
  refine congrArg Host.Outcome.next ((if_neg (by omega)).trans ?_)
  simp only [hd, hb]
  rfl

end

/-! ### The end of an engine's oldest transfer (R95, R98, R114) -/

theorem exec_transferCompletion : exec (.transferCompletion e) s = execTransferCompletion e s := rfl

variable {xs : List Xfer}

/-- The state in which an engine without its oldest transfer ends it. -/
def unqueued (s : State) (e : Nat) (xs : List Xfer) : State := (s.setEngine e { s.engine e with queue := xs }).draw

theorem not_isOver (h : 0 < x.unacked ∨ 0 < x.reads ∨ x.moved = false) : x.isOver = false := by
  rcases h with h | h | h
  · simp [Xfer.isOver, Nat.pos_iff_ne_zero.1 h]
  · simp [Xfer.isOver, Nat.pos_iff_ne_zero.1 h]
  · simp [Xfer.isOver, h]

section

variable (hq : (s.engine e).queue = x :: xs)

include hq

theorem transferCompletion_of_not_over (h : x.isOver = false) : exec (.transferCompletion e) s = .next s := by
  rw [exec_transferCompletion, execTransferCompletion, hq]
  exact congrArg Host.Outcome.next (if_pos (by simp [h]))

theorem transferCompletion_of_host (h : x.isOver = true) {d : Nat} (hd : x.host = some d) : exec (.transferCompletion e) s =
    .next (((unqueued s e xs).endDesc d (if x.status = 0 then 0 else 2) (s.statusRecord x e)).refillEngine e) := by
  rw [exec_transferCompletion, execTransferCompletion, hq]
  refine congrArg Host.Outcome.next ((if_neg (by simp [h])).trans ?_)
  rw [hd]
  rfl

theorem transferCompletion_of_step (h : x.isOver = true) (hd : x.host = none) :
    exec (.transferCompletion e) s = .next (((unqueued s e xs).stepXferEnd x e).refillEngine e) := by
  rw [exec_transferCompletion, execTransferCompletion, hq]
  refine congrArg Host.Outcome.next ((if_neg (by simp [h])).trans ?_)
  rw [hd]
  rfl

end

end

section

variable {s t : State} {x : Xfer} {e : Nat}

/-- What a step's transfer leaves before it signals: its status record, its fault, or neither (R98, R114). -/
def outcomeKept (s : State) (x : Xfer) (e : Nat) : State :=
  if x.statrec then s.spadWrite x.core x.statOff (toBytes 16 (s.statusRecord x e))
  else if x.status ≠ 0 then s.seqFault x.core (xferFaultCode x) else s

theorem outcomeKept_of_statrec (h : x.statrec = true) :
    outcomeKept s x e = s.spadWrite x.core x.statOff (toBytes 16 (s.statusRecord x e)) := if_pos h

theorem outcomeKept_of_fault (h : x.statrec = false) (hs : x.status ≠ 0) :
    outcomeKept s x e = s.seqFault x.core (xferFaultCode x) := (if_neg (by simp [h])).trans (if_pos hs)

theorem outcomeKept_of_good (h : x.statrec = false) (hs : x.status = 0) : outcomeKept s x e = s :=
  (if_neg (by simp [h])).trans (if_neg (not_not_intro hs))

theorem carryHeader_of_no_dispatch (h : x.disp = none) : s.carryHeader x = s := by rw [State.carryHeader, h]

section

variable (hd : x.disp = none) (ho : outcomeKept s x e = t)

include hd ho

/-- Without an object to signal the step completes behind its outcome. -/
theorem stepXferEnd_unsignalled (hsig : x.sig = 0xFFFFF) : s.stepXferEnd x e = t.stepDone x.core .xf x.seq := by
  rw [State.stepXferEnd, carryHeader_of_no_dispatch hd]
  subst ho
  simp only [hsig, ne_eq, not_true_eq_false, false_and, if_true, if_false]
  rfl

/-- An object on this module is raised and the step completes. -/
theorem stepXferEnd_local (hsig : x.sig ≠ 0xFFFFF) (hr : t.isRemote x.core x.sig = false) :
    s.stepXferEnd x e = (t.raise x.core x.sig 1 1 e x.seq).stepDone x.core .xf x.seq := by
  rw [State.stepXferEnd, carryHeader_of_no_dispatch hd]
  subst ho
  exact (if_neg fun h => Bool.false_ne_true (hr.symm.trans h.2)).trans (by rw [if_neg hsig]; rfl)

/-- A signal to another module leaves the step's completion to its acknowledgement (R316). -/
theorem stepXferEnd_remote (hsig : x.sig ≠ 0xFFFFF) (hr : t.isRemote x.core x.sig = true) :
    s.stepXferEnd x e = t.raise x.core x.sig 1 1 e x.seq := by
  rw [State.stepXferEnd, carryHeader_of_no_dispatch hd]
  subst ho
  exact (if_pos ⟨hsig, hr⟩).trans (if_neg hsig)

end

end

/-- Settles O9: an acknowledgement by whether a bucket's done follows it; a completion by whether the transfer is over, whose it is,
and what it leaves. That one acknowledgement stands for all of a transfer's local writes is the model's choice (log 19). -/
theorem transferEnds : Obligations.TransferEnds := by
  intro e core seq s
  refine ⟨fun x hx hn => ⟨writeAcknowledgement_of_no_done hx hn, fun d b bs hd hb => writeAcknowledgement_of_done hx hn hd hb⟩,
    fun x xs hq => ?_⟩
  intro s1 ends
  have hstep (ho : x.isOver = true) (hh : x.host = none) {t : State} (ht : s1.stepXferEnd x e = t) : ends t := by
    subst ht
    exact transferCompletion_of_step hq ho hh
  refine ⟨fun h => transferCompletion_of_not_over hq (not_isOver h), fun ho d hd => transferCompletion_of_host hq ho hd,
    fun ho hh hd => ⟨fun hr hs hsig => ?_, fun hr hsig => ?_, fun hr hs hsig => ?_, fun hr hs hsig hl => ?_, fun hr hs hsig hl => ?_⟩⟩
  · exact hstep ho hh (stepXferEnd_unsignalled hd (outcomeKept_of_good hr hs) hsig)
  · exact hstep ho hh (stepXferEnd_unsignalled hd (outcomeKept_of_statrec hr) hsig)
  · exact hstep ho hh (stepXferEnd_unsignalled hd (outcomeKept_of_fault hr hs) hsig)
  · exact hstep ho hh (stepXferEnd_local hd (outcomeKept_of_good hr hs) hsig hl)
  · exact hstep ho hh (stepXferEnd_remote hd (outcomeKept_of_good hr hs) hsig hl)

end Sys2Proof.Laws
end

section
/-! PROOFS. Vector and matrix steps (spec/04: R80 to R82, R85 to R87; spec/05: R108, R110 to R113, R115, R138, R589, R590). -/
namespace Sys2Proof.Laws

open Machine

/-! ### The core that has dispatched a step (R108) -/

section

variable (k : Core) (q : Queue)

theorem part_enqueue : (k.enqueue q).part = k.part := by cases q <;> rfl
theorem descBase_enqueue : (k.enqueue q).descBase = k.descBase := by cases q <;> rfl
theorem seedBase_enqueue : (k.enqueue q).seedBase = k.seedBase := by cases q <;> rfl
theorem slot_enqueue : (k.enqueue q).slot = k.slot := by cases q <;> rfl
@[simp] theorem loops_enqueue : (k.enqueue q).loops = k.loops := by cases q <;> rfl
@[simp] theorem begun_enqueue : (k.enqueue q).begun = k.begun := by cases q <;> rfl
@[simp] theorem vregs_enqueue : (k.enqueue q).vregs = k.vregs := by cases q <;> rfl
@[simp] theorem preds_enqueue : (k.enqueue q).preds = k.preds := by cases q <;> rfl
@[simp] theorem acc0_enqueue : (k.enqueue q).acc0 = k.acc0 := by cases q <;> rfl
@[simp] theorem acc1_enqueue : (k.enqueue q).acc1 = k.acc1 := by cases q <;> rfl
@[simp] theorem buf_enqueue (b : Bool) : (k.enqueue q).buf b = k.buf b := by cases q <;> rfl
@[simp] theorem bank_enqueue (b : Bool) : (k.enqueue q).bank b = k.bank b := by cases q <;> rfl

theorem iteration_enqueue : (k.enqueue q).iteration = k.iteration := by rw [Core.iteration, loops_enqueue, Core.iteration]

theorem fIndex_enqueue : (k.enqueue q).fIndex = k.fIndex := by
  rw [Core.fIndex, loops_enqueue, Core.fIndex]
  simp only [Core.begunOf, begun_enqueue]

theorem imageOf_enqueue (s : State) : s.imageOf (k.enqueue q) = s.imageOf k := by
  rw [State.imageOf, part_enqueue, slot_enqueue, State.imageOf]

theorem poolRaw_enqueue (s : State) (field stride extra : Nat) :
    s.poolRaw (k.enqueue q) field stride extra = s.poolRaw k field stride extra := by
  rw [State.poolRaw, imageOf_enqueue, descBase_enqueue, iteration_enqueue, State.poolRaw]

end

/-- The state in which a core's step takes effect: dispatched to its queue. -/
def dispatched (s : State) (c : Nat) (q : Queue) : State := s.setCore c ((s.core c).enqueue q)

section

variable (s : State) (c : Nat) (q : Queue)

@[simp] theorem core_dispatched : (dispatched s c q).core c = (s.core c).enqueue q := core_setCore ..

@[simp] theorem modCore_dispatched (g : Core → Core) :
    (dispatched s c q).modCore c g = s.setCore c (g ((s.core c).enqueue q)) := by
  rw [State.modCore, core_dispatched, dispatched, setCore_twice]

@[simp] theorem poolDesc_dispatched (field stride extra : Nat) :
    (dispatched s c q).poolDesc c field stride extra = s.poolDesc c field stride extra := by
  rw [State.poolDesc, core_dispatched, poolRaw_enqueue, State.poolDesc]
  rfl

@[simp] theorem seedOf_dispatched (i : Nat) : (dispatched s c q).seedOf c i = s.seedOf c i := by
  simp only [State.seedOf, core_dispatched, imageOf_enqueue, seedBase_enqueue, fIndex_enqueue, State.saltOf, part_enqueue]
  rfl

theorem spadByte_dispatched (o : Nat) : (dispatched s c q).spadByte c o = s.spadByte c o := rfl
theorem spadPoisoned_dispatched (o : Nat) : (dispatched s c q).spadPoisoned c o = s.spadPoisoned c o := rfl

@[simp] theorem spadRead_dispatched (off n : Nat) : (dispatched s c q).spadRead c off n = s.spadRead c off n :=
  spadRead_congr (spadByte_dispatched s c q) off n

@[simp] theorem spadRows_dispatched (off stride len n : Nat) :
    (dispatched s c q).spadRows c off stride len n = s.spadRows c off stride len n :=
  spadRows_congr (spadByte_dispatched s c q) off stride len n

@[simp] theorem poisonIn_dispatched (off n : Nat) : (dispatched s c q).poisonIn c off n = s.poisonIn c off n :=
  poisonIn_congr (spadPoisoned_dispatched s c q) off n

@[simp] theorem poisonRows_dispatched (off stride len n : Nat) :
    (dispatched s c q).poisonRows c off stride len n = s.poisonRows c off stride len n :=
  poisonRows_congr (spadPoisoned_dispatched s c q) off stride len n

end

/-! ### What a dispatched step gives (R108, R138) -/

/-- `t` is `u` but for counters in registers. -/
def Counted (u t : State) : Prop := ∃ rg, t = { u with regs := rg }

section

variable {u t : State}

theorem counted_refl (u : State) : Counted u u := ⟨_, rfl⟩

theorem counted_bump64 (h : Counted u t) (k n : Nat) : Counted u (t.bump64 k n) := by
  obtain ⟨rg, rfl⟩ := h
  exact ⟨_, rfl⟩

theorem counted_bump (h : Counted u t) (k n : Nat) : Counted u (t.bump k n) := by
  obtain ⟨rg, rfl⟩ := h
  exact ⟨_, rfl⟩

end

section

variable {s t : State} {c code : Nat} {q : Queue} {i : Instr} {f : State → State}

theorem issue_of_room (hr : (s.core c).ready = true) (hq : ((s.core c).queue q).length < 32) :
    s.issue c q f = (f (dispatched s c q)).modCore c Core.moveOn :=
  (if_pos hr).trans (if_pos hq)

variable (hr : (s.core c).ready = true) (hq : ((s.core c).queue q).length < 32) (hi : exec i s = .next (s.issue c q f))

include hr hq hi

/-- A step whose effect on the dispatched core is `k`, counters apart. -/
theorem coreGives_of_issue {k : Core} (hf : Counted (s.setCore c k) (f (dispatched s c q))) : CoreGives c s i k.moveOn := by
  obtain ⟨rg, hf⟩ := hf
  have hk : (({ s.setCore c k with regs := rg } : State).core c) = k := core_setCore ..
  rw [issue_of_room hr hq, hf] at hi
  refine ⟨_, hi, (core_modCore ..).trans (congrArg Core.moveOn hk), rfl, fun d hd => ?_⟩
  exact (core_modCore_ne _ _ hd).trans (core_setCore_ne s k hd)

/-- A step that writes scratchpads, as in `x`, and no core. -/
theorem spadGives_of_issue {x : State} (hf : Counted (withSpad (dispatched s c q) x) (f (dispatched s c q))) :
    ∃ t, exec i s = .next t ∧ t.core c = ((s.core c).enqueue q).moveOn ∧ t.spad = x.spad ∧ t.spadWritten = x.spadWritten
      ∧ t.spadPoison = x.spadPoison ∧ t.regs = (f (dispatched s c q)).regs
      ∧ t = { s with cores := t.cores, regs := t.regs, spad := t.spad, spadWritten := t.spadWritten, spadPoison := t.spadPoison }
      ∧ ∀ d, d ≠ c → t.core d = s.core d := by
  obtain ⟨rg, hf⟩ := hf
  have hk : (({ withSpad (dispatched s c q) x with regs := rg } : State).core c) = (s.core c).enqueue q := core_setCore ..
  rw [issue_of_room hr hq, hf] at hi
  rw [hf]
  refine ⟨_, hi, (core_modCore ..).trans (congrArg Core.moveOn hk), rfl, rfl, rfl, rfl, rfl, fun d hd => ?_⟩
  exact (core_modCore_ne _ _ hd).trans (core_setCore_ne s _ hd)

/-- A step that writes scratchpads, as in `x`, and counts nothing. -/
theorem spadOnly_of_issue {x : State} (hf : f (dispatched s c q) = withSpad (dispatched s c q) x) :
    ∃ t, exec i s = .next t ∧ t.core c = ((s.core c).enqueue q).moveOn ∧ t.spad = x.spad ∧ t.spadWritten = x.spadWritten
      ∧ t.spadPoison = x.spadPoison
      ∧ t = { s with cores := t.cores, spad := t.spad, spadWritten := t.spadWritten, spadPoison := t.spadPoison }
      ∧ ∀ d, d ≠ c → t.core d = s.core d := by
  obtain ⟨t, ht, hcore, hspad, hw, hp, hregs, hrest, hothers⟩ := spadGives_of_issue (x := x) hr hq hi (hf ▸ counted_refl _)
  refine ⟨t, ht, hcore, hspad, hw, hp, ?_, hothers⟩
  rw [hrest, hregs, hf]
  rfl

/-- A step that faults its core, counters apart (R138). -/
theorem coreFaults_of_issue
    (hf : ∃ u, Counted (dispatched s c q) u ∧ f (dispatched s c q) = u.seqFault c code) : CoreFaults c s i code := by
  obtain ⟨u, ⟨rg, rfl⟩, hf⟩ := hf
  have hk : (({ dispatched s c q with regs := rg } : State).core c) = (s.core c).enqueue q := core_setCore ..
  have hstop : ((((s.core c).enqueue q).stop code).moveOn) = ((s.core c).enqueue q).stop code := if_pos rfl
  rw [issue_of_room hr hq, hf] at hi
  refine ⟨_, hi, ?_⟩
  rw [core_modCore, core_seqFault, hk, hstop]
  refine ⟨rfl, rfl, ?_, ?_, vregs_enqueue .., acc0_enqueue .., acc1_enqueue ..⟩
  · rw [seqFault_eq]
    rfl
  · rw [seqFault_eq]
    rfl

end

/-! ### Vector steps on registers (R85, R86, R589) -/

section

variable {s : State} {c : Nat} {i : Instr} {ok : Bool} {g : Core → Core}

section

variable (hr : (s.core c).ready = true) (hq : (s.core c).qVx.length < 32) (hi : exec i s = .next (s.vxStep c ok g))

include hr hq hi

theorem coreGives_of_vxStep (hok : ok = true) : CoreGives c s i (g ((s.core c).enqueue .vx)).moveOn := by
  refine coreGives_of_issue (q := .vx) hr hq hi ?_
  simp only [if_pos hok, modCore_dispatched]
  exact counted_bump64 (counted_refl _) ..

theorem coreFaults_of_vxStep (hok : ok = false) : CoreFaults c s i 1 :=
  coreFaults_of_issue (q := .vx) hr hq hi ⟨_, counted_refl _, if_neg (by simp [hok])⟩

end

/-- A step without room in its queue stalls the front end (R108). -/
theorem exec_of_full {q : Queue} {f : State → State} (hi : exec i s = .next (s.issue c q f)) (hr : (s.core c).ready = true)
    (hq : 32 ≤ ((s.core c).queue q).length) : exec i s = .next (s.setCore c ((s.core c).queueStall q)) :=
  hi.trans (congrArg Host.Outcome.next (issue_of_full f hr hq))

theorem vxStep_of_full (hi : exec i s = .next (s.vxStep c ok g)) (hr : (s.core c).ready = true)
    (hq : 32 ≤ (s.core c).qVx.length) : exec i s = .next (s.setCore c ((s.core c).queueStall .vx)) :=
  exec_of_full hi hr hq

end

/-! ### The vector operations (R85, R86, R112, R589) -/

section

/-- The core `k` with a floating-point operation of VA, VB and VC in VD. -/
def fpTaken (w : StepWord) (f : Val → Val → Val → Val) (k : Core) : Core :=
  k.writeVd w (fpWords (srcFmt w) f (k.va w) (k.vb w) (k.vc w))

/-- The core `k` with the minima or maxima of VA and VB in VD. -/
def minmaxTaken (mx : Bool) (w : StepWord) (k : Core) : Core := k.writeVd w (minmaxWords mx (srcFmt w) (k.va w) (k.vb w))

/-- The formats and comparisons of VCMP (R589). -/
def cmpFmtOk (w : StepWord) : Bool := (decide (srcFmt w ≤ 2) || srcFmt w == 0xC) && decide (func w ≤ 3)

/-- The core `k` with the comparisons of VA and VB in the bits of VD's predicate that PRED governs. -/
def cmpTaken (w : StepWord) (k : Core) : Core :=
  k.setPred (fld w 117 115) ((maskOf 0 (cmpWords (srcFmt w) (func w) (k.va w) (k.vb w)) &&& k.mask w)
    ||| (k.pred (fld w 117 115) &&& (2 ^ 512 - 1 - k.mask w)))

variable {c : CoreId} {w : StepWord} {s : State}

theorem exec_vfma : exec (.vfma c w) s = .next (s.vxStep c (fpFmtOk w) (fpTaken w fun a b d => addV (mulV a b) d)) := rfl
theorem exec_vadd : exec (.vadd c w) s = .next (s.vxStep c (fpFmtOk w) (fpTaken w fun a b _ => addV a b)) := rfl
theorem exec_vsub : exec (.vsub c w) s = .next (s.vxStep c (fpFmtOk w) (fpTaken w fun a b _ => addV a (negV b))) := rfl
theorem exec_vmul : exec (.vmul c w) s = .next (s.vxStep c (fpFmtOk w) (fpTaken w fun a b _ => mulV a b)) := rfl
theorem exec_vneg : exec (.vneg c w) s = .next (s.vxStep c (fpFmtOk w) (fpTaken w fun a _ _ => negV a)) := rfl
theorem exec_vabs : exec (.vabs c w) s = .next (s.vxStep c (fpFmtOk w) (fpTaken w fun a _ _ => absV a)) := rfl
theorem exec_vmin : exec (.vmin c w) s = .next (s.vxStep c (anyFmtOk w) (minmaxTaken false w)) := rfl
theorem exec_vmax : exec (.vmax c w) s = .next (s.vxStep c (anyFmtOk w) (minmaxTaken true w)) := rfl
theorem exec_vcmp : exec (.vcmp c w) s = .next (s.vxStep c (cmpFmtOk w) (cmpTaken w)) := rfl

end

/-- Settles O5: each operation gives its result where its formats are of its row and faults where they are not; a full queue stalls. -/
theorem vectorArithmetic : Obligations.VectorArithmetic := by
  intro c w s hr
  refine ⟨fun hq => ?_, fun hq => ?_⟩
  · have gives {i : Instr} {ok : Bool} {g : Core → Core} (hi : exec i s = .next (s.vxStep c ok g)) (hok : ok = true) :=
      coreGives_of_vxStep hr hq hi hok
    have faults {i : Instr} {ok : Bool} {g : Core → Core} (hi : exec i s = .next (s.vxStep c ok g)) (hok : ok = false) :=
      coreFaults_of_vxStep hr hq hi hok
    refine ⟨fun hf => ?_, fun hf => ?_, fun hf hn => ?_, fun hf => ?_, fun hf => ?_, fun hn => ?_⟩
    · exact ⟨(gives exec_vfma hf :), (gives exec_vadd hf :), (gives exec_vsub hf :), (gives exec_vmul hf :), (gives exec_vneg hf :),
        (gives exec_vabs hf :)⟩
    · exact ⟨(gives exec_vmin hf :), (gives exec_vmax hf :)⟩
    · have hok : cmpFmtOk w = true := by simp [cmpFmtOk, hf, hn]
      exact (gives exec_vcmp hok :)
    · simp only [List.forall_mem_cons]
      exact ⟨faults exec_vfma hf, faults exec_vadd hf, faults exec_vsub hf, faults exec_vmul hf, faults exec_vneg hf,
        faults exec_vabs hf, List.forall_mem_nil _⟩
    · exact ⟨faults exec_vmin hf, faults exec_vmax hf⟩
    · exact faults exec_vcmp (by simp [cmpFmtOk, Nat.not_le.2 hn])
  · simp only [List.forall_mem_cons]
    exact ⟨vxStep_of_full exec_vfma hr hq, vxStep_of_full exec_vadd hr hq, vxStep_of_full exec_vsub hr hq,
      vxStep_of_full exec_vmul hr hq, vxStep_of_full exec_vneg hr hq, vxStep_of_full exec_vabs hr hq, vxStep_of_full exec_vmin hr hq,
      vxStep_of_full exec_vmax hr hq, vxStep_of_full exec_vcmp hr hq, List.forall_mem_nil _⟩

/-! ### Vector steps that read or write more than registers (R89, R112, R113, R590, R594) -/

section

variable (k : Core) (q : Queue) (w : StepWord)

@[simp] theorem mask_enqueue : (k.enqueue q).mask w = k.mask w := by
  simp only [Core.mask, Core.pred, preds_enqueue]

@[simp] theorem va_enqueue : (k.enqueue q).va w = k.va w := by
  simp only [Core.va, Core.vreg, vregs_enqueue]

end

section

variable (s : State) (c off : Nat)

theorem upset_none : s.upset c none = s := rfl

theorem storeAll_withSpad (x : State) (ws : List Nat) : (withSpad s x).storeAll c off ws = withSpad s (x.storeAll c off ws) :=
  spadWrite_withSpad s x c off _

theorem storeLanes_withSpad (m : Nat) (x : State) (j : Nat) (ws : List Nat) :
    (withSpad s x).storeLanes c m off j ws = withSpad s (x.storeLanes c m off j ws) := by
  match ws with
  | [] => rfl
  | [_] => rfl
  | a :: b :: ws =>
    rw [State.storeLanes, State.storeLanes]
    by_cases h : off + 4 * j + 8 ≤ 2 ^ 20
    · simp only [h, decide_true, if_true, spadWrite_withSpad]
      cases bitAt m j <;> cases bitAt m (j + 1) <;> exact storeLanes_withSpad ..
    · simp only [h, decide_false, Bool.false_eq_true, if_false]
      exact storeLanes_withSpad ..

end

section

variable {c : CoreId} {w : StepWord} {s : State}

theorem exec_vselect : exec (.vselect c w) s = .next (s.vxStep c (anyFmtOk w) fun k =>
    k.setVreg (fld w 119 115) (merge (k.pred (fld w 98 96)) 0 (k.va w) (k.vc w))) := rfl

theorem exec_vint : exec (.vint c w) s = .next (s.vxStep c (srcFmt w == 0xC && dstFmt w == 0xC && decide (func w ≤ 12)) fun k =>
    k.writeVd w (zip3 (fun a b _ => intOp (func w) a b) (k.va w) (k.vb w) (k.va w))) := rfl

/-- The formats and functions of VRED (R589). -/
def redFmtOk (w : StepWord) : Bool := (srcFmt w == 0 || srcFmt w == 0xC) && dstFmt w == srcFmt w && decide (func w ≤ 2)

/-- The core `k` with the reduction of VA's enabled lanes in lane 0 of VD; a disabled lane enters with the identity. -/
def redTaken (w : StepWord) (k : Core) : Core :=
  let ident := redIdentity (srcFmt w) (func w)
  { k with
    vregs := tblSet (fun _ => 0) k.vregs (512 * fld w 119 115)
      (treeFold (redOp (srcFmt w) (func w)) (merge (k.mask w) 0 (k.va w) (List.replicate 512 ident))) }

theorem exec_vred : exec (.vred c w) s = .next (s.vxStep c (redFmtOk w) (redTaken w)) := rfl

/-- The core `k` with VA's lanes in VD: chosen by VB, or lane 0 everywhere. -/
def permTaken (w : StepWord) (k : Core) : Core :=
  k.writeVd w (if func w = 0 then (k.vb w).map (fun i => nth 0 (k.va w) (i % 512)) else List.replicate 512 (nth 0 (k.va w) 0))

theorem permTaken_of_zero (h : func w = 0) (k : Core) :
    permTaken w k = k.writeVd w ((k.vb w).map fun i => nth 0 (k.va w) (i % 512)) := by
  rw [permTaken, if_pos h]

theorem permTaken_of_one (h : func w = 1) (k : Core) : permTaken w k = k.writeVd w (List.replicate 512 (nth 0 (k.va w) 0)) := by
  rw [permTaken, if_neg (by omega)]

theorem exec_vperm : exec (.vperm c w) s = .next (s.vxStep c (moveFmtOk w && decide (func w ≤ 1)) (permTaken w)) := rfl

theorem exec_vtrn : exec (.vtrn c w) s = .next (s.vxStep c (srcFmt w == 0 && dstFmt w == 0 && decide (func w ≤ 12)) fun k =>
    k.writeVd w (zip3 (fun a b _ => transLane (func w) a b) (k.va w) (k.vb w) (k.va w))) := rfl

theorem exec_vimm : exec (.vimm c w) s = .next (s.vxStep c (moveFmtOk w) fun k => k.writeVd w (List.replicate 512
    (if srcFmt w = 1 ∨ srcFmt w = 2 then fld w 63 32 % 65536 * 65537 else fld w 63 32))) := rfl

/-- A format of VLD and VST's row and an offset that is a multiple of 32 (R589). -/
theorem accepted_of_form (hm : moveFmtOk w = true) (ho : fld w 51 32 % 32 = 0) :
    ¬ (!(moveFmtOk w) || fld w 51 32 % 32 != 0) = true := by
  simp [hm, ho]

/-- What VST writes: the lanes of its predicate, or under no predicate every lane. -/
def vstWritten (s : State) (c : Nat) (w : StepWord) : State :=
  if flag w 99 then s.storeLanes c ((s.core c).mask w) (fld w 51 32) 0 ((s.core c).va w)
  else s.storeAll c (fld w 51 32) ((s.core c).va w)

theorem vstWritten_dispatched (q : Queue) :
    vstWritten (dispatched s c q) c w = withSpad (dispatched s c q) (vstWritten s c w) := by
  simp only [vstWritten, core_dispatched, mask_enqueue, va_enqueue]
  split
  · exact storeLanes_withSpad (dispatched s c q) c _ _ s 0 _
  · exact storeAll_withSpad (dispatched s c q) c _ s _

theorem exec_vst : exec (.vst c w) s = .next (s.issue c .vx fun s =>
    if !(moveFmtOk w) || fld w 51 32 % 32 != 0 then s.seqFault c 1 else (vstWritten s c w).countVx c) := rfl

section

variable (hr : (s.core c).ready = true) (hq : (s.core c).qVx.length < 32)

include hr hq

/-- SETSEL counts as outstanding under its own number (R109, R113). -/
theorem setsel_gives : let k := (s.core c).enqueue .vx
    CoreGives c s (.setsel c w) ({ k with
      setsels := k.setsels ++ [(s.core c).seq],
      sel := tblSet (fun _ => 0) k.sel (fld w 116 115) (tblGet (fun _ => 0) k.vregs (512 * fld w 114 110)) } : Core).moveOn := by
  refine coreGives_of_issue (q := .vx) hr hq rfl ?_
  simp only [modCore_dispatched, seq_enqueue, Nat.add_sub_cancel]
  exact counted_refl _

variable {a b : Fmt} {ss ds : Bool}

theorem vcvt_gives {sr : Bool} {sd : Nat} (h : cvtFields w = some (a, b, ss, ds, sr))
    (hs : (if sr then s.seedOf c (fld w 79 64) else some 0) = some sd) :
    CoreGives c s (.vcvt c w) (((s.core c).enqueue .vx).convert w a b ss ds (if sr then some sd else none)).moveOn := by
  refine coreGives_of_issue (q := .vx) hr hq rfl ?_
  simp only [h, seedOf_dispatched, hs, modCore_dispatched]
  exact counted_bump64 (counted_refl _) ..

theorem vcvt_faults_of_seed (h : cvtFields w = some (a, b, ss, ds, true)) (hs : s.seedOf c (fld w 79 64) = none) :
    CoreFaults c s (.vcvt c w) 4 := by
  refine coreFaults_of_issue (q := .vx) hr hq rfl ⟨_, counted_refl _, ?_⟩
  simp only [h, seedOf_dispatched, hs, if_true]

theorem vcvt_faults_of_fields (h : cvtFields w = none) : CoreFaults c s (.vcvt c w) 1 := by
  refine coreFaults_of_issue (q := .vx) hr hq rfl ⟨_, counted_refl _, ?_⟩
  simp only [h]

/-- VLD and VST of an offset that is not a multiple of 32 (R589). -/
theorem vld_vst_fault_of_offset (h : fld w 51 32 % 32 ≠ 0) : CoreFaults c s (.vld c w none) 1 ∧ CoreFaults c s (.vst c w) 1 := by
  have hbad : (!(moveFmtOk w) || fld w 51 32 % 32 != 0) = true := by simp [h]
  exact ⟨coreFaults_of_issue (q := .vx) hr hq rfl ⟨_, counted_refl _, if_pos hbad⟩,
    coreFaults_of_issue (q := .vx) hr hq rfl ⟨_, counted_refl _, if_pos hbad⟩⟩

variable (hm : moveFmtOk w = true) (ho : fld w 51 32 % 32 = 0)

include hm ho

/-- A load whose bytes hold no poison; what lies past the end of the scratchpad reads zero. -/
theorem vld_gives (hp : s.poisonIn c (fld w 51 32) (min 2048 (2 ^ 20 - fld w 51 32)) = 0) :
    CoreGives c s (.vld c w none) (((s.core c).enqueue .vx).writeVd w
      (wordRun 512 (s.spadRead c (fld w 51 32) (min 2048 (2 ^ 20 - fld w 51 32))))).moveOn := by
  have hgood := accepted_of_form hm ho
  refine coreGives_of_issue (q := .vx) hr hq rfl ?_
  simp only [upset_none, if_neg hgood, poisonIn_dispatched, hp, Nat.lt_irrefl, gt_iff_lt, if_false, spadRead_dispatched,
    modCore_dispatched]
  exact counted_bump64 (counted_refl _) ..

theorem vld_faults_of_poison (hp : 0 < s.poisonIn c (fld w 51 32) (min 2048 (2 ^ 20 - fld w 51 32))) :
    CoreFaults c s (.vld c w none) 2 := by
  have hgood := accepted_of_form hm ho
  refine coreFaults_of_issue (q := .vx) hr hq rfl ?_
  simp only [upset_none, if_neg hgood, poisonIn_dispatched, gt_iff_lt, if_pos hp]
  exact ⟨_, counted_bump (counted_refl _) .., rfl⟩

theorem vst_gives : ∃ t, exec (.vst c w) s = .next t ∧ t.core c = ((s.core c).enqueue .vx).moveOn
    ∧ t.spad = (vstWritten s c w).spad ∧ t.spadWritten = (vstWritten s c w).spadWritten ∧ t.spadPoison = (vstWritten s c w).spadPoison
    ∧ t = { s with cores := t.cores, regs := t.regs, spad := t.spad, spadWritten := t.spadWritten, spadPoison := t.spadPoison }
    ∧ ∀ d, d ≠ c.val → t.core d = s.core d := by
  have hgood := accepted_of_form hm ho
  have hwrites : Counted (withSpad (dispatched s c .vx) (vstWritten s c w))
      (if !(moveFmtOk w) || fld w 51 32 % 32 != 0 then (dispatched s c .vx).seqFault c 1
        else (vstWritten (dispatched s c .vx) c w).countVx c) := by
    rw [if_neg hgood, vstWritten_dispatched]
    exact counted_bump64 (counted_refl _) ..
  obtain ⟨t, ht, hk, hspad, hw, hp, -, hrest, hd⟩ := spadGives_of_issue (q := .vx) hr hq exec_vst hwrites
  exact ⟨t, ht, hk, hspad, hw, hp, hrest, hd⟩

end

end

/-- Settles O6: the steps on registers by their formats and functions, then SETSEL, VCVT, VLD and VST with their faults. Which register
VST stores is read from the table of its fields (log 16); in which pairs VRED combines lanes is the model's choice (log 60). -/
theorem vectorMoves : Obligations.VectorMoves := by
  intro c w s hr
  refine ⟨fun hq => ?_, fun hq => ?_⟩
  · have gives {i : Instr} {ok : Bool} {g : Core → Core} (hi : exec i s = .next (s.vxStep c ok g)) (hok : ok = true) :=
      coreGives_of_vxStep hr hq hi hok
    refine ⟨gives exec_vselect, fun hs hd hn => ?_, fun hs hd hn => ?_, fun hm hn => ?_, fun hm hn => ?_, fun hs hd hn => ?_,
      gives exec_vimm, setsel_gives hr hq, fun a b ss ds h => vcvt_gives hr hq (sr := false) (sd := 0) h rfl,
      fun a b ss ds h => ⟨fun sd hs => vcvt_gives hr hq (sr := true) h hs, vcvt_faults_of_seed hr hq h⟩,
      vld_gives hr hq, vst_gives hr hq, vld_vst_fault_of_offset hr hq, vld_faults_of_poison hr hq, vcvt_faults_of_fields hr hq⟩
    · exact gives exec_vint (by simp [hs, hd, hn])
    · have hok : redFmtOk w = true := by simp [redFmtOk, hs, hd, hn]
      exact gives exec_vred hok
    · rw [← permTaken_of_zero hn]
      exact gives exec_vperm (by simp [hm, hn])
    · rw [← permTaken_of_one hn]
      exact gives exec_vperm (by simp [hm, hn])
    · exact gives exec_vtrn (by simp [hs, hd, hn])
  · simp only [List.forall_mem_cons]
    exact ⟨vxStep_of_full exec_vselect hr hq, vxStep_of_full exec_vint hr hq, exec_of_full (q := .vx) rfl hr hq,
      vxStep_of_full exec_vred hr hq, vxStep_of_full exec_vperm hr hq, exec_of_full (q := .vx) rfl hr hq,
      exec_of_full (q := .vx) rfl hr hq, vxStep_of_full exec_vtrn hr hq, exec_of_full (q := .vx) rfl hr hq,
      vxStep_of_full exec_vimm hr hq, List.forall_mem_nil _⟩

/-! ### Matrix steps (R80 to R82, R111, R115) -/

section

variable (s : State) (c : Nat) (q : Queue)

@[simp] theorem tilePoison_dispatched (d : Desc) (f : Fmt) : (dispatched s c q).tilePoison c d f = s.tilePoison c d f := by
  simp only [State.tilePoison, poisonRows_dispatched]

@[simp] theorem readTile_dispatched (d : Desc) (f : Fmt) : (dispatched s c q).readTile c d f = s.readTile c d f := by
  simp only [State.readTile, spadRows_dispatched]

/-- Without a block-index list the checks of MMA read the core's bank only. -/
theorem mmaCheck_dispatched {w : StepWord} (hw : fld w 87 72 = 0xFFFF) (d : Desc) (t : Tile) :
    (dispatched s c q).mmaCheck c w d t = s.mmaCheck c w d t := by
  simp only [State.mmaCheck, core_dispatched, bank_enqueue, hw, if_true]

/-- The pool's entry as LOADB reads it, behind its dispatch. -/
theorem rawDesc_dispatched {s : State} {c : Nat} (q : Queue) {field stride extra : Nat} {o : Option Desc}
    (h : s.poolDesc c field stride extra = o) : ((dispatched s c q).poolRaw ((dispatched s c q).core c) field stride extra).map
      (fun v => ownCore c (descOf v)) = o :=
  (poolDesc_dispatched ..).trans h

/-- The rows of an MMA's A operand, as values (R80, R111). -/
def mmaOperand (s : State) (c : Nat) (d : Desc) (f : Fmt) : List (List Val) :=
  let sb := if d.scaled then scaleBytes f d.elems else 0
  (List.range d.rows).map fun m => rowVals f d.scaled d.elems (s.spadRead c (d.off + m * d.stride) (rowBytes f d.elems))
    (s.spadRead c (d.auxOff + m * sb) sb)

/-- The bank of an MMA without a block-index list behind it: the A rows folded in against the whole tile (R80). -/
def mmaFolded (s : State) (c : Nat) (w : StepWord) (d : Desc) (tl : Tile) (r : PairRule) (f : Fmt) : Bank :=
  mmaRows r (if tl.sparse ∧ tl.fmt = .tern2 then 64 else r.group) ((List.range tl.n).map fun i => (tl.colVals i).take tl.k)
    tl.special (fun x => x) 0 (mmaOperand s c d f) { (s.core c).bank (flag w 118) with kind := if r.int then .i32 else .f32 }

theorem drainRows_withSpad (x : State) (b : Bank) (off stride n m rows : Nat) :
    (withSpad s x).drainRows c b off stride n m rows = withSpad s (x.drainRows c b off stride n m rows) := by
  induction rows generalizing x off m with
  | zero => rfl
  | succ rows ih => rw [State.drainRows, spadWrite_withSpad, ih, State.drainRows]

end

section

variable {c : CoreId} {w : StepWord} {s : State} (hr : (s.core c).ready = true) (hq : (s.core c).qMx.length < 32)

include hr hq

theorem zero_gives : CoreGives c s (.zero c w) (((s.core c).enqueue .mx).setBank (flag w 118) Bank.empty).moveOn := by
  refine coreGives_of_issue (q := .mx) hr hq rfl ?_
  simp only [modCore_dispatched]
  exact counted_refl _

/-- The step's descriptor lies past the pool (R115). -/
theorem matrix_faults_of_no_desc (h : s.poolDesc c (fld w 111 96) (fld w 95 88) 0 = none) :
    CoreFaults c s (.loadb c w none) 3 ∧ CoreFaults c s (.mma c w none) 3 ∧ CoreFaults c s (.drain c w) 3 := by
  have hd := (poolDesc_dispatched s c .mx ..).trans h
  have hraw := rawDesc_dispatched .mx h
  refine ⟨coreFaults_of_issue (q := .mx) hr hq rfl ⟨_, counted_refl _, ?_⟩,
    coreFaults_of_issue (q := .mx) hr hq rfl ⟨_, counted_refl _, ?_⟩,
    coreFaults_of_issue (q := .mx) hr hq rfl ⟨_, counted_refl _, ?_⟩⟩
  · simp only [upset_none, hraw]
  · simp only [upset_none, hd]
  · simp only [hd]

variable {d : Desc} (hd : s.poolDesc c (fld w 111 96) (fld w 95 88) 0 = some d)

include hd

theorem loadb_faults_of_form (h : tileOk c d = none) : CoreFaults c s (.loadb c w none) 1 := by
  have hraw := rawDesc_dispatched .mx hd
  refine coreFaults_of_issue (q := .mx) hr hq rfl ⟨_, counted_refl _, ?_⟩
  simp only [upset_none, hraw, h]

section

variable {f : Fmt} (ht : tileOk c d = some f)

include ht

theorem loadb_gives (hp : s.tilePoison c d f = 0) :
    CoreGives c s (.loadb c w none) (((s.core c).enqueue .mx).setBuf (flag w 119) (some (s.readTile c d f))).moveOn := by
  have hraw := rawDesc_dispatched .mx hd
  refine coreGives_of_issue (q := .mx) hr hq rfl ?_
  simp only [upset_none, hraw, ht, tilePoison_dispatched, hp, gt_iff_lt, Nat.lt_irrefl, if_false, readTile_dispatched, modCore_dispatched]
  exact counted_bump (counted_refl _) ..

theorem loadb_faults_of_poison (hp : 0 < s.tilePoison c d f) : CoreFaults c s (.loadb c w none) 2 := by
  have hraw := rawDesc_dispatched .mx hd
  refine coreFaults_of_issue (q := .mx) hr hq rfl ?_
  simp only [upset_none, hraw, ht, tilePoison_dispatched, gt_iff_lt, if_pos hp]
  exact ⟨_, counted_bump (counted_refl _) .., rfl⟩

end

theorem mma_faults_of_no_tile (h : (s.core c).buf (flag w 119) = none) : CoreFaults c s (.mma c w none) 1 := by
  refine coreFaults_of_issue (q := .mx) hr hq rfl ⟨_, counted_refl _, ?_⟩
  simp only [upset_none, poolDesc_dispatched, hd, core_dispatched, buf_enqueue, h]

theorem mma_gives {tl : Tile} {r : PairRule} {f : Fmt} (hb : (s.core c).buf (flag w 119) = some tl) (hw : fld w 87 72 = 0xFFFF)
    (hc : s.mmaCheck c w d tl = some (r, f, none)) (hk : tl.k ≠ 0)
    (hp : s.poisonRows c d.off d.stride (rowBytes f d.elems) d.rows
      + s.poisonRows c d.auxOff (if d.scaled then scaleBytes f d.elems else 0) (if d.scaled then scaleBytes f d.elems else 0)
        d.rows = 0) :
    CoreGives c s (.mma c w none) (((s.core c).enqueue .mx).setBank (flag w 118) (mmaFolded s c w d tl r f)).moveOn := by
  have hlist : (dispatched s c .mx).blockListPoison c w = 0 := if_pos hw
  refine coreGives_of_issue (q := .mx) hr hq rfl ?_
  simp only [upset_none, poolDesc_dispatched, hd, core_dispatched, buf_enqueue, hb, hw, ne_eq, not_true_eq_false, false_and, if_false,
    hlist, gt_iff_lt, Nat.lt_irrefl, mmaCheck_dispatched s c .mx hw, hc, poisonRows_dispatched, hp, spadRead_dispatched, bank_enqueue,
    if_neg hk, modCore_dispatched]
  exact counted_bump64 (counted_bump64 (counted_refl _) ..) ..

/-- A DRAIN of an FP32 bank to a good destination (R80, R111). -/
theorem drain_gives (hk : ((s.core c).bank (flag w 118)).kind = .f32) (hf : d.fmt = 0) (hs : d.space = 1) (hc : d.core = c.val)
    (hscaled : d.scaled = false) (hsparse : d.sparse = false) (hround : d.round < 2) (hlo : 1 ≤ d.rows) (hhi : d.rows ≤ 256)
    (he : d.elems = 64 ∨ d.elems = 128) (hx : extentOk d.off d.rows d.stride (4 * d.elems) = true) :
    let x := s.drainRows c ((s.core c).bank (flag w 118)) d.off d.stride d.elems 0 d.rows
    ∃ t, exec (.drain c w) s = .next t ∧ t.core c = ((s.core c).enqueue .mx).moveOn ∧ t.spad = x.spad ∧ t.spadWritten = x.spadWritten
      ∧ t.spadPoison = x.spadPoison
      ∧ t = { s with cores := t.cores, spad := t.spad, spadWritten := t.spadWritten, spadPoison := t.spadPoison }
      ∧ ∀ d, d ≠ c.val → t.core d = s.core d := by
  intro x
  have hgood : (d.fmt == 0 && d.space == 1 && d.core == c.val && !d.scaled && !d.sparse && decide (d.round < 2)
      && decide (1 ≤ d.rows) && decide (d.rows ≤ 256) && (d.elems == 64 || d.elems == 128)
      && extentOk d.off d.rows d.stride (4 * d.elems)) = true := by
    simp [hf, hs, hc, hscaled, hsparse, hround, hlo, hhi, he, hx]
  refine spadOnly_of_issue (q := .mx) hr hq rfl ?_
  simp only [poolDesc_dispatched, hd, core_dispatched, bank_enqueue, hk, hgood, if_true]
  exact drainRows_withSpad (dispatched s c .mx) c s ..

end

/-- Settles O4: each step by its descriptor, then by what it reads, in the order of its checks; a full queue stalls each of the four.
That LOADB counts a tile's reserved groups once is the model's choice (log 60). -/
theorem matrixSteps : Obligations.MatrixSteps := by
  intro c w s hr
  refine ⟨fun hq => ⟨zero_gives hr hq, fun d f hd ht => loadb_gives hr hq hd ht,
    fun d tl r f hd hb hw hc hk hp => mma_gives hr hq hd hb hw hc hk hp,
    fun d hd => drain_gives hr hq hd, matrix_faults_of_no_desc hr hq, fun d hd => loadb_faults_of_form hr hq hd,
    fun d f hd ht => loadb_faults_of_poison hr hq hd ht, fun d hd => mma_faults_of_no_tile hr hq hd⟩, fun hq => ?_⟩
  simp only [List.forall_mem_cons]
  exact ⟨exec_of_full (q := .mx) rfl hr hq, exec_of_full (q := .mx) rfl hr hq, exec_of_full (q := .mx) rfl hr hq,
    exec_of_full (q := .mx) rfl hr hq, List.forall_mem_nil _⟩

end Sys2Proof.Laws
end

section
/-! PROOFS. Transfer steps dispatched: what waits, what starts on its engine, and what faults (spec/04: R94, R95, R101; spec/05: R108,
R114, R115; spec/06: R148, R155, R157, R166). -/
namespace Sys2Proof.Laws

open Machine

/-! ### Descriptors and seeds of a transfer step (R65, R66, R115) -/

section

variable {t : State} {c n : Nat} {w : StepWord} {sd dd l : Desc} {seed v : Nat} (e : Nat)

/-- `seed` is the step's seed where the destination `dd` rounds stochastically, and 0 elsewhere (R65). -/
def SeedFits (t : State) (c : Nat) (w : StepWord) (dd : Desc) (seed : Nat) : Prop :=
  (dd.round = 1 → t.seedOf c (fld w 35 20) = some seed) ∧ (dd.round ≠ 1 → seed = 0)

theorem withSeed_of_fits (h : SeedFits t c w dd seed) (f : Nat → State) : t.withSeed c w [dd] f = f seed := by
  obtain ⟨hsome, hzero⟩ := h
  by_cases hr : dd.round = 1
  · simp [State.withSeed, hr, hsome hr]
  · simp [State.withSeed, hr, hzero hr]

theorem withSeed_of_none (hr : dd.round = 1) (h : t.seedOf c (fld w 35 20) = none) (f : Nat → State) :
    t.withSeed c w [dd] f = t.seqFault c 4 := by
  simp [State.withSeed, hr, h]

/-- The seed of a set of buckets. -/
theorem withSeed_of_set {ds : List Desc}
    (h : if ds.any (fun d => d.round == 1) then t.seedOf c (fld w 35 20) = some seed else seed = 0) (f : Nat → State) :
    t.withSeed c w ds f = f seed := by
  rw [State.withSeed]
  split at h
  · next hany => rw [if_pos hany, h]
  · next hany => rw [if_neg hany, h]

theorem withDescs_of_none (h : t.xferDesc c w (fld w 111 96) = none) (f : Desc → Desc → State) :
    t.withDescs c w f = t.seqFault c 3 := by
  rw [State.withDescs, h]

variable (hs : t.xferDesc c w (fld w 111 96) = some sd) (hd : t.xferDesc c w (fld w 95 80) = some dd)

include hs hd

theorem withDescs_of_descs (f : Desc → Desc → State) : t.withDescs c w f = f sd dd := by rw [State.withDescs, hs, hd]

/-! ### The transfer that each form of step starts (R94, R95, R101, R148, R155) -/

theorem startLs_of_descs : t.startLs c e w n =
    if fld w 79 64 = 0xFFFF ∧ lsOk c sd dd then t.startXfer (stepXfer .ls c n (t.core c).part w sd dd 0) e
    else t.startRefused (stepXfer .ls c n (t.core c).part w sd dd 0) e stFormat :=
  withDescs_of_descs hs hd _

theorem startCopy_of_no_seed (kind : XferKind) (hr : dd.round = 1) (hn : t.seedOf c (fld w 35 20) = none) :
    t.startCopy kind c e w n = t.seqFault c 4 :=
  (withDescs_of_descs hs hd _).trans (withSeed_of_none hr hn _)

theorem startGather_of_no_seed (hr : dd.round = 1) (hn : t.seedOf c (fld w 35 20) = none) :
    t.startGather c e w n = t.seqFault c 4 :=
  (withDescs_of_descs hs hd _).trans (withSeed_of_none hr hn _)

section

variable (hf : SeedFits t c w dd seed)

include hf

theorem startCopy_of_plain (kind : XferKind) (hp : fld w 79 64 = 0xFFFF) :
    t.startCopy kind c e w n = t.startXfer (stepXfer kind c n (t.core c).part w sd dd seed) e :=
  (withDescs_of_descs hs hd _).trans ((withSeed_of_fits hf _).trans (if_pos hp))

theorem startCopy_of_repeat (kind : XferKind) (hp : fld w 79 64 ≠ 0xFFFF)
    (hv : t.poolRaw (t.core c) (fld w 79 64) (fld w 63 56) 0 = some v) : t.startCopy kind c e w n =
      t.startXfer { stepXfer kind c n (t.core c).part w sd dd seed with rep := some (repeatOf v) } e := by
  refine (withDescs_of_descs hs hd _).trans ((withSeed_of_fits hf _).trans ((if_neg hp).trans ?_))
  rw [hv]

theorem startLcopy_of_descs : t.startLcopy c e w n =
    if fld w 79 64 = 0xFFFF then t.startXfer (stepXfer .lcopy c n (t.core c).part w sd dd seed) e
    else t.startRefused (stepXfer .lcopy c n (t.core c).part w sd dd seed) e stFormat :=
  (withDescs_of_descs hs hd _).trans (withSeed_of_fits hf _)

variable (hl : t.xferDesc c w (fld w 79 64) = some l)

include hl

theorem startGather_of_list :
    t.startGather c e w n = t.startXfer { stepXfer .gather c n (t.core c).part w sd dd seed with idx := some l } e := by
  refine (withDescs_of_descs hs hd _).trans ((withSeed_of_fits hf _).trans ?_)
  simp only [hl]

/-- A list that is no route list gives the rows (R148). -/
theorem startScatter_of_rows (hk : ¬ (listDescOk c l = true ∧ t.listKind c l.off = 3)) :
    t.startScatter c e w n = t.startXfer { stepXfer .scatter c n (t.core c).part w sd dd seed with idx := some l } e := by
  refine (withDescs_of_descs hs hd _).trans ?_
  simp only [hl]
  refine (if_neg ?_).trans (withSeed_of_fits hf _)
  rwa [Bool.and_eq_true, beq_iff_eq]

end

/-- A route list gives the buckets, in direct or in reserve mode (R155, R157, R166). -/
theorem startScatter_of_route {ds : List Desc} (hl : t.xferDesc c w (fld w 79 64) = some l) (hok : listDescOk c l = true)
    (hk : t.listKind c l.off = 3)
    (hds : t.descRun c w (fld w 95 80) 0
      (if t.routeDirect c l.off then t.routeBuckets c l.off else 2 * t.routeBuckets c l.off) = some ds)
    (hseed : if (ds.take (t.routeBuckets c l.off)).any (fun d => d.round == 1) then t.seedOf c (fld w 35 20) = some seed
      else seed = 0) :
    t.startScatter c e w n = t.startXfer { stepXfer .scatter c n (t.core c).part w sd dd 0 with
      kind := if t.routeDirect c l.off then .direct else .dispatch, idx := some l, dsts := ds, seed := seed } e := by
  refine (withDescs_of_descs hs hd _).trans ?_
  simp only [hl]
  refine (if_pos (by simp [hok, hk])).trans ?_
  simp only [hds]
  exact withSeed_of_set hseed _

end

/-! ### A transfer step in the XF queue (R108) -/

section

variable {s : State} {c code : Nat} {w : StepWord} {f : XfStep} {i : Instr}

/-- The core `k` with a transfer step that waits for its engine, at the loop iteration of its dispatch (R108, R115). -/
def heldBack (k : Core) (w : StepWord) (f : XfStep) (e : Nat) : Core :=
  { k.enqueue .xf with held := k.held ++ [⟨k.seq, w, f, e, k.loops, k.begun⟩] }

/-- Core `c` with a step that engine `e` cannot take yet; with its first one it joins the cores that wait for the engine (R108). -/
def waitsForEngine (s : State) (c : Nat) (w : StepWord) (f : XfStep) (e : Nat) : State :=
  let t := s.setCore c (heldBack (s.core c) w f e)
  if (s.core c).held = [] then t.setEngine e { t.engine e with waiting := (t.engine e).waiting ++ [c] } else t

theorem issueXfer_of_wait (hr : (s.core c).ready = true) (hq : (s.core c).qXf.length < 32)
    (h : (s.core c).held ≠ [] ∨ s.hasRoom (f.engine c w) = false) :
    s.issueXfer c w f = (waitsForEngine s c w f (f.engine c w)).modCore c Core.moveOn := by
  have hno : ¬ ((s.core c).held = [] ∧ s.hasRoom (f.engine c w) = true) := by
    rintro ⟨hh, he⟩
    rcases h with h | h
    · exact h hh
    · exact Bool.false_ne_true (h.symm.trans he)
  refine (issue_of_room (q := .xf) hr hq).trans (congrArg (State.modCore · c Core.moveOn) ?_)
  simp only [State.offerStep, core_dispatched, held_enqueue, seq_enqueue, Nat.add_sub_cancel, loops_enqueue, begun_enqueue,
    List.isEmpty_iff, waitsForEngine]
  rw [dispatched, setCore_twice]
  exact if_neg hno

/-- A transfer step that its engine could take faults its core, where it starts by faulting. -/
theorem coreFaults_of_issueXfer (hr : (s.core c).ready = true) (hq : (s.core c).qXf.length < 32) (hh : (s.core c).held = [])
    (hi : exec i s = .next (s.issueXfer c w f)) (he : s.hasRoom (f.engine c w) = true)
    (hf : (dispatched s c .xf).startStep c (f.engine c w) (s.core c).seq w f = (dispatched s c .xf).seqFault c code) :
    CoreFaults c s i code := by
  have hheld : ((dispatched s c .xf).core c).held = [] := by rwa [core_dispatched, held_enqueue]
  refine coreFaults_of_issue (q := .xf) hr hq hi ⟨_, counted_refl _, ?_⟩
  rw [core_dispatched, seq_enqueue, Nat.add_sub_cancel]
  exact (offerStep_of_room hheld he).trans hf

end

section

variable {s : State} {c : CoreId} {w : StepWord} {u : Option (Fin 1048576)} {f : Fin 16}

theorem exec_copy (h : specialCopy w = false) : exec (.copy c w u) s = .next (s.issueXfer c w (.copy u)) :=
  congrArg Host.Outcome.next (if_neg (by simp [h]))

theorem copy_of_special (h : specialCopy w = true) : exec (.copy c w u) s = .next s := congrArg Host.Outcome.next (if_pos h)

theorem exec_lcopy (h : s.lcopyDie c w f = true) : exec (.lcopy c w f) s = .next (s.issueXfer c w (.lcopy f)) :=
  congrArg Host.Outcome.next (if_pos h)

theorem lcopy_of_other_die (h : s.lcopyDie c w f = false) : exec (.lcopy c w f) s = .next s :=
  congrArg Host.Outcome.next (if_neg (by simp [h]))

theorem exec_copyt : exec (.copyt c w) s = .next (s.issueXfer c w .copyt) := rfl
theorem exec_gather : exec (.gather c w) s = .next (s.issueXfer c w .gather) := rfl
theorem exec_scatter : exec (.scatter c w) s = .next (s.issueXfer c w .scatter) := rfl
theorem exec_dispatch : exec (.dispatch c w) s = .next (s.issueXfer c w .scatter) := rfl
theorem exec_ls : exec (.ls c w u) s = .next (s.issueXfer c w (.ls u)) := rfl

/-- The instructions of the XF queue, each with its form of step and its engine (R94, R114). -/
def xfForms (c : CoreId) (w : StepWord) (u : Option (Fin 1048576)) (f : Fin 16) : List (Instr × XfStep × Nat) :=
  let e := clusterEngine c w
  [(.copyt c w, .copyt, e), (.gather c w, .gather, e), (.scatter c w, .scatter, e), (.dispatch c w, .scatter, e),
    (.ls c w u, .ls u, 112 + c), (.lcopy c w f, .lcopy f, 96 + f), (.copy c w u, .copy u, e)]

/-- Each of them is dispatched as its form of step to its engine, unless it is a COPY that is another row, or an LCOPY to another
die than its link's. -/
theorem exec_xfForms : ∀ i ∈ xfForms c w u f,
    (i.1 = .copy c w u → specialCopy w = false) ∧ (i.1 = .lcopy c w f → s.lcopyDie c w f = true) →
    exec i.1 s = .next (s.issueXfer c w i.2.1) ∧ i.2.1.engine c w = i.2.2 := by
  simp only [xfForms, List.forall_mem_cons]
  exact ⟨fun _ => ⟨exec_copyt, rfl⟩, fun _ => ⟨exec_gather, rfl⟩, fun _ => ⟨exec_scatter, rfl⟩, fun _ => ⟨exec_dispatch, rfl⟩,
    fun _ => ⟨exec_ls, rfl⟩, fun h => ⟨exec_lcopy (h.2 trivial), rfl⟩, fun h => ⟨exec_copy (h.1 trivial), rfl⟩, List.forall_mem_nil _⟩

end

/-- Settles O7: a step that waits, then each form started by its descriptors, list and seed, then the faults of an index and of a seed
past their pools, then the words that are other rows, and a full queue. Cores are served in the order in which they came by the
model's choice (log 19), and what refuses an LS, or binds an LCOPY to a die, is its reading (logs 20, 28). -/
theorem transferStart : Obligations.TransferStart := by
  intro c w u f s hr k e q plain goes forms admits
  refine ⟨fun hq => ?_, copy_of_special, lcopy_of_other_die, fun hq i hi ha =>
    (exec_xfForms i hi ha).1.trans (congrArg Host.Outcome.next (issue_of_full (q := .xf) _ hr hq))⟩
  have starts {i : Instr} {g : XfStep} {t : State} (hh : k.held = []) (hi : exec i s = .next (s.issueXfer c w g))
      (he : s.hasRoom (g.engine c w) = true) (ht : q.startStep c (g.engine c w) k.seq w g = t) : exec i s = goes t :=
    hi.trans (congrArg Host.Outcome.next (issueXfer_of_room hr hq hh he ht))
  have faults {i : Instr} {g : XfStep} {code : Nat} (hh : k.held = []) (hi : exec i s = .next (s.issueXfer c w g))
      (he : s.hasRoom (g.engine c w) = true) (ht : q.startStep c (g.engine c w) k.seq w g = q.seqFault c code) :
      CoreFaults c s i code :=
    coreFaults_of_issueXfer hr hq hh hi he ht
  refine ⟨fun i hi ha hw => ?_, fun hh sd dd seed hz => ?_, fun hh hs => ?_, fun hh sd dd hs hd hr1 hn he => ?_⟩
  · obtain ⟨hexec, he⟩ := exec_xfForms i hi ha
    rw [hexec, issueXfer_of_wait hr hq (by rwa [he]), he]
    simp only [waitsForEngine, q, setCore_twice]
    rfl
  · intro x
    refine ⟨?_, fun hs hd hseed => ?_, fun hs hd he l hl hok hk ds sd' hds hsd => ?_⟩
    · intro t hs hd hseed
      have hf : SeedFits t c w dd seed := ⟨hseed, hz⟩
      refine ⟨fun he hsp => ⟨fun hp => ?_, fun v hp hv => ?_⟩, fun he h0 => ?_⟩
      · exact starts hh (exec_copy hsp) he (startCopy_of_plain e hs hd hf .copy hp)
      · exact starts hh (exec_copy hsp) he (startCopy_of_repeat e hs hd hf .copy hp hv)
      · subst h0
        exact starts hh exec_ls he (startLs_of_descs _ hs hd)
    · have hf : SeedFits q c w dd seed := ⟨hseed, hz⟩
      refine ⟨fun he hdie => ?_, fun he => ⟨fun hp => ?_, fun v hp hv => ?_, fun l hl => ⟨?_, fun hk => ?_⟩⟩⟩
      · exact starts hh (exec_lcopy hdie) he (startLcopy_of_descs _ hs hd hf)
      · exact starts hh exec_copyt he (startCopy_of_plain e hs hd hf .copyt hp)
      · exact starts hh exec_copyt he (startCopy_of_repeat e hs hd hf .copyt hp hv)
      · exact starts hh exec_gather he (startGather_of_list e hs hd hf hl)
      · exact starts hh exec_scatter he (startScatter_of_rows e hs hd hf hl hk)
    · have ht := startScatter_of_route (n := k.seq) e hs hd hl hok hk hds hsd
      simp only [List.forall_mem_cons]
      exact ⟨starts hh exec_scatter he ht, starts hh exec_dispatch he ht, List.forall_mem_nil _⟩
  · refine ⟨fun he hsp => ?_, fun he => ?_, fun he hdie => ?_, fun he => ?_⟩
    · exact faults hh (exec_copy hsp) he (withDescs_of_none hs _)
    · simp only [List.forall_mem_cons]
      exact ⟨faults hh exec_copyt he (withDescs_of_none hs _), faults hh exec_gather he (withDescs_of_none hs _),
        faults hh exec_scatter he (withDescs_of_none hs _), faults hh exec_dispatch he (withDescs_of_none hs _), List.forall_mem_nil _⟩
    · exact faults hh (exec_lcopy hdie) he (withDescs_of_none hs _)
    · exact faults hh exec_ls he (withDescs_of_none hs _)
  · exact ⟨faults hh exec_copyt he (startCopy_of_no_seed e hs hd .copyt hr1 hn),
      faults hh exec_gather he (startGather_of_no_seed e hs hd hr1 hn)⟩

end Sys2Proof.Laws
end
